-- ==== Sys2Proof/Word.lean ====
section
/-!
DEFINITION. The word types of the Plidal: the 32-bit register word (R3, R6), the byte, the 64-bit queue word (file 01, MSG queues) and the number of a channel die (R21).
-/

namespace Sys2Proof

/-- A register word: registers are accessed as aligned 32-bit words (R6). -/
abbrev Word := BitVec 32

/-- A byte of the Plidal's own structures (R16). -/
abbrev Byte := BitVec 8

/-- A word of a Tsuku queue, or of an RV64 register. -/
abbrev DWord := BitVec 64

/-- A channel die, and the actuator it serves: CHn serves actuator n (R21). -/
abbrev Ch := Fin 4

end Sys2Proof
end

