-- ==== Sys2Proof/Syntax.lean ====
section
/-!
DEFINITION. The commands of the block: one constructor of `Instr` per row of the table of operations and events (spec/opcode_table.json), with the operands the row takes, and the types of those operands.
-/

namespace Sys2Proof

/-- A Tsuku link end (file 01, TSUKU registers): 0-4 are the HUB's blocks L = 0-4, 5-8 the block of CH0-CH3, 9 the block of the KPR. -/
abbrev LinkEnd := Fin 10

/-- One of the 18 units that calibrate (file 02, Calibration by selection): 0-5 the bandgap of dies 0-5, 6-9 DEMOD of CH0-CH3, 10-13 ADC, 14-17 ASSIST. -/
abbrev CalUnit := Fin 18

/-- A unit that work shares (R55): on a channel die the read and write path, ASSIST, FLY and the actuator's position; on the HUB Signet, FOLIO,
DRAM and the caches; and what only its own calibration uses, the bandgap of a die and the TDC of a channel die. -/
inductive SharedUnit where
  | path (ch : Fin 4)
  | assist (ch : Fin 4)
  | fly (ch : Fin 4)
  | actuator (ch : Fin 4)
  | signet
  | folio
  | dram
  | caches
  | bandgap (die : Fin 6)
  | tdc (ch : Fin 4)
  deriving DecidableEq, Repr

/-- A core in the numbering of R92: 0-7 H-core, 8 + 2n + m C-core m of CHn. -/
abbrev CoreNo := Fin 16

/-- How a MSG packet fared on its way to its receive queue (R27, R29). -/
inductive MsgFate where
  | good      -- its last word committed
  | crcFail   -- failed its CRC beyond the retry of R23
  | cut       -- cut off by retraining
  deriving DecidableEq, Repr


/-- A transition as the TDC stamps it (R117): the coarse count of its clock, the place of the cell in the chain of 48, the step of the vernier. -/
structure TdcEdge where
  coarse : Nat
  cell : Nat
  vern : Nat
  deriving DecidableEq, Repr

/-- A servo address mark as one reader gives it (R104, R106): the 16 servo bits, its end in 0.5 ps, the amplitude of the preamble, and the
two sample sums of each of the twelve dibits of the wedge number that follows. -/
structure MarkSig where
  sam : BitVec 16
  tick : Nat
  amp : Nat
  wnum : List (Int × Int)
  deriving DecidableEq, Repr

/-- What one reader gives of a wedge (R103, R104, R112): the preamble's amplitude, the sample sums of the 24 dibits of the track ID, the two
transitions of each of the twelve stripes with its amplitude, and the sample sums of the twelve dibits of the RRO field. -/
structure ServoSig where
  amp : Nat
  gray : List (Int × Int)
  pairs : List (TdcEdge × TdcEdge × Nat)
  rro : List (Int × Int)
  deriving DecidableEq, Repr

/-- What the preamp's readers give of a fragment while the read gate is open (R203-R206): the amplitude of the preamble at each reader's input, in
2^-16 of the converter's full scale at 0 dB of gain, and the signal there at the instants of the ADC's conversions, at 14/13 of the bit rate from the
read-gate edge, in the same unit. -/
structure ReadSig where
  amps : List Nat
  signal : List (List Int)
  deriving DecidableEq, Repr

/-- What the reads of a revolution of a recovery give (R224, R227): the sector head's fragment, and each further fragment after the bits of part B
that came before it in the fragment the split ended (R196). -/
structure RevRead where
  head : ReadSig
  conts : List (Nat × ReadSig)
  deriving DecidableEq, Repr

/-- An array with correcting codes (R395): 0 DRAM, 1 the shared cache, 2 HUB SRAM, 3-6 the SRAM of CH0-CH3. -/
abbrev ArrayNo := Fin 7

/-- What reading an array finds (R397-R399): no error, a correctable one, an uncorrectable one, or both tag copies of a
shared-cache set lost. -/
inductive Upset where
  | none | corrected | uncorrectable | tags
  deriving DecidableEq, Repr

/-- A tag of the tag table (R306), and an entry of the write range table (R342). -/
abbrev TagNo := Fin 16384
abbrev WrtNo := Fin 32768

/-- How the media work of an I/O command ends (R314); what its protection information shows the front end finds out itself (R311). -/
inductive MediaEnd where
  | good | timeout | unrecovered | writeFault
  deriving DecidableEq, Repr

/-- What the host wrote to a controller's registers before it set CC.EN (R299, R302, R308): CC, and the sizes in AQA, which are 0's based. -/
structure CtrlSetup where
  ctrl : Fin 64
  cc : BitVec 32
  asqs : Fin 4096
  acqs : Fin 4096
  deriving DecidableEq, Repr

/-- A shutdown notification (R332): the controller, and whether CC.SHN asks for an abrupt one. -/
structure ShutdownNote where
  ctrl : Fin 64
  abrupt : Bool
  deriving DecidableEq, Repr

/-- A submission queue with an entry to fetch, and the other queues, by controller and identifier, that hold entries at that moment, among which the
front end arbitrates (R308). -/
structure ReadyQueue where
  sqid : Nat
  others : List (Nat × Nat)
  deriving DecidableEq, Repr

/-- An MCTP message (R335): its type, and the bytes after the type. -/
structure MctpMsg where
  type : Nat
  body : List (BitVec 8)
  deriving DecidableEq, Repr

/-- An I3C address assignment (R335): SETDASA names the target by its static address, ENTDAA takes the target that answers. -/
inductive I3cAssign where
  | setdasa (static dynamic : Nat)
  | entdaa (dynamic : Nat)
  deriving DecidableEq, Repr

/-- The commands and events of the Plidal, one constructor per row of the table of operations and events. The operands are what the outside gives the step: a register value written, a frame received, a measured time or quantity, the bits read from the media. -/
inductive Instr where
  /-- REGISTER_WRITE (R12): A write to a register that has no row of its own sets its RW fields, clears W1C bits and is ignored in RO fields. -/
  | registerWrite (addr : BitVec 32) (width : Nat) (value : Word)
  /-- EXPERT_WRITE (R9): A write to an Expert-page offset overrides its parameter only if the unit is granted and unlocked; otherwise it changes nothing. -/
  | expertWrite (addr : BitVec 32) (width : Nat) (value : Word)
  /-- WIDE_REGISTER_READ (R7): Reading the named word of a wide register captures the whole value for later reads of its other words. -/
  | wideRegisterRead (addr : BitVec 32)
  /-- FLIT_REPLAY (R23): A flit that fails its CRC makes the receiver ask for a replay, and the transmitter resends it and every later flit. -/
  | flitReplay (e : LinkEnd) (sameFlit : Bool)
  /-- LINK_RETRAIN (R24): After the same flit fails RETRY_LIMIT consecutive times the link retrains. -/
  | linkRetrain (e : LinkEnd)
  /-- LINK_RETRAIN_CMD (R24): A write of LINK_CMD.RETRAIN retrains the link now. -/
  | linkRetrainCmd (e : LinkEnd)
  /-- RETRAIN_COMPLETE (R24): A retrain ends; REQ, RSP, DATA and EVT packets in the retry buffer are resent. -/
  | retrainComplete (e : LinkEnd) (trained : Bool) (lanes : Nat)
  /-- LINK_FAILED (R25): After three consecutive failed retrains the link enters Failed, a Degraded or Fatal fault. -/
  | linkFailed (e : LinkEnd)
  /-- MSG_PACKET_RECEIVE (R27): A MSG packet whose last word commits becomes visible in its receive queue and in RXQ_COUNT. -/
  | msgPacketReceive (e : LinkEnd) (q : Fin 8) (fate : MsgFate) (badWords : List Nat)
  /-- RXQ_DATA_LO_READ (R31): A read of RXQ_DATA_LO removes the head word and captures its upper half and tag, or returns the idle item when empty. -/
  | rxqDataLoRead (e : LinkEnd) (q : Fin 8)
  /-- TXQ_DATA_HI_WRITE (R34): A write of TXQ_DATA_HI appends the staged 64-bit word to the packet being built, up to 32 words. -/
  | txqDataHiWrite (e : LinkEnd) (q : Fin 8) (value : Word)
  /-- TXQ_GO (R34): TXQ_SEND.GO sends the packet being built to MSG queue q of the far end. -/
  | txqGo (e : LinkEnd) (q : Fin 8)
  /-- TXQ_DISCARD (R34): TXQ_SEND.DISCARD discards the packet being built. -/
  | txqDiscard (e : LinkEnd) (q : Fin 8)
  /-- LINK_CLR_DROP (R29): LINK_CMD.CLR_DROP sets MSG_DROP to 0. -/
  | linkClrDrop (e : LinkEnd)
  /-- XTAL_LOSS (R43): The crystal stops or departs by more than 5 %; the KPR switches to the backup oscillator and a Fatal fault follows. -/
  | xtalLoss
  /-- COMP_UPDATE (R44): Every 10 ms the KPR converts its diode reading to a crystal correction changed by at most 0.01 ppm. -/
  | compUpdate
  /-- FORWARD_FRAME_SEND (R552): The KPR sends a forward wedge-line frame whose marker ends on the predicted tick or the crystal wedge reference. -/
  | forwardFrameSend (ch : Ch)
  /-- FORWARD_FRAME_RECEIVE (R50): A channel die receives a forward frame and checks its CRC at W + 0.44 µs. -/
  | forwardFrameReceive (ch : Ch) (errs : BitVec 96)
  /-- RETURN_FRAME_RECEIVE (R48): The KPR time-stamps a return frame and updates the head offset and prediction error. -/
  | returnFrameReceive (ch : Ch) (errs : Option (BitVec 32))
  /-- WL_LOCK (R46): After 64 consecutive good wedges of one head, WL_STAT.LOCKED becomes 1. -/
  | wlLock (ch : Ch)
  /-- WL_RET_FAIL (R46): After 16 consecutive wedges without a good return frame, LOCKED returns to 0 and RET_FAIL is set. -/
  | wlRetFail (ch : Ch)
  /-- WEDGE_LINE_FAIL (R51): After 16 consecutive discarded forward frames the channel sets LINE_FAIL and runs on its own ticks. -/
  | wedgeLineFail (ch : Ch)
  /-- FORWARD_STRAND_RESTART (R51): The KPR restarts a failed forward strand every 1 ms. -/
  | forwardStrandRestart (ch : Ch)
  /-- SHARED_UNIT_GRANT (R55): A waiting request is granted a shared unit by the arbitration order. -/
  | sharedUnitGrant (unit : SharedUnit) (others : List Nat) (folio : Bool)
  /-- CAL_DUE (R58): A calibration becomes due by INTERVAL or TEMP_DELTA. -/
  | calDue (u : CalUnit)
  /-- CAL_START (R58): CAL_CTL.START makes a calibration due now, deferred to the end of the 60 s interval. -/
  | calStart (u : CalUnit)
  /-- CAL_HOLDOFF_END (R58): The 60 s interval since the last calibration of a kind ends and a deferred START takes effect. -/
  | calHoldoffEnd (u : CalUnit)
  /-- CAL_DEADLINE (R58): GRACE minutes after a calibration became due, it becomes OVERDUE. -/
  | calDeadline (u : CalUnit)
  /-- CAL_RUN_COMPLETE (R59): A calibration run ends and its result is compared with earlier runs. -/
  | calRunComplete (u : CalUnit) (measured : List Int)
  /-- OPTIME_SAVE (R66): Every 64 s the KPR saves the operating time to the NV store. -/
  | optimeSave
  /-- POWER_ON_RESET (R436): Power-on reset of the KPR always-on domain starts a power-on boot at stage 0. -/
  | powerOnReset
  /-- KEEPER_ROM_BOOT (R443): Once VDD_HUB is good the Keeper ROM reads OTP and verifies and starts the Keeper firmware. -/
  | keeperRomBoot
  /-- HUB_RESET_RELEASE (R443): Once the HUB and MEM supplies are good the Keeper firmware releases HUB reset. -/
  | hubResetRelease
  /-- HUB_ROM_BOOT (R443): The HUB ROM runs stages 3 to 7: structure image, domains, DRAM, channel dies, patches, firmware and core start. -/
  | hubRomBoot (dramGood : Bool) (reloadUs : Nat)
  /-- CH_SUPPLY_TIMEOUT (R39): A channel die whose supplies are not good within 100 ms stays Off and its actuator is Degraded. -/
  | chSupplyTimeout (ch : Ch)
  /-- BLANK_IMAGE_DOWNLOAD (R99): A Blank part writes a downloaded structure image to the chosen slot without rebooting. -/
  | blankImageDownload (tag : TagNo)
  /-- KEEPER_IMAGE_DOWNLOAD (R464): With both Keeper copies refused, the HUB ROM checks a downloaded Keeper image and writes it to copy A. -/
  | keeperImageDownload (tag : TagNo)
  /-- EXPERT_UNLOCK_WRITE (R100): The key word unlocks a granted unit; any other value locks it. -/
  | expertUnlockWrite (die : Fin 8) (unit : Fin 32) (value : Word)
  /-- FULL_BOOT_REQUEST (R436): The BOOT_CTL key word starts a full boot with CAUSE 1. -/
  | fullBootRequest (value : Word)
  /-- FULL_BOOT (R437): A full boot resets every die but the KPR and MEM dies and starts at stage 2. -/
  | fullBoot
  /-- COLOPHON_SIGN (R448): SIGNET signs a closed record with both keys once its LMS node cache is ready. -/
  | colophonSign (stored : Bool)
  /-- LMS_TREE_GENERATE (R453): SIGNET builds the node cache or the next bottom tree in background work. -/
  | lmsTreeGenerate
  /-- COLO_CLOSE (R448): COLO_CTL.CLOSE closes the Colophon record. -/
  | coloClose
  /-- COLO_LATE_CLOSE (R448): The record closes itself 5 s after stage 7 and LATE_CLOSE is set. -/
  | coloLateClose
  /-- SERVO_GATE_OPEN (R105): DEMOD opens the servo gate 48 servo bits before the extrapolated tick. -/
  | servoGateOpen (ch : Ch)
  /-- SAM_ACCEPT (R106): A SAM matching THR bits within the window is accepted and places the tick. -/
  | samAccept (ch : Ch) (marks : List MarkSig)
  /-- WEDGE_LOSS (R109): A wedge with no accepted SAM runs on the predicted tick with the write gate closed. -/
  | wedgeLoss (ch : Ch)
  /-- DEMOD_LOSS (R110): LOSS_LIM consecutive missed SAMs set DEMOD_STAT.LOSS and raise LOSS. -/
  | demodLoss (ch : Ch)
  /-- DEMOD_SEARCH (R108): DEMOD_CTL.SEARCH puts DEMOD into search mode. -/
  | demodSearch (ch : Ch)
  /-- SEARCH_EXIT (R108): After 8 consecutive SAMs within the window DEMOD leaves search mode. -/
  | searchExit (ch : Ch)
  /-- DEMOD_CTL_WRITE (R129): A write to DEMOD_CTL takes effect at the next tick and restores Expert fields; EN 0 to 1 enters search mode. -/
  | demodCtlWrite (ch : Ch) (value : Word)
  /-- DEMOD_STAT_READ (R128): Reading DEMOD_STAT captures POS, PES, TARGET and RRO of the same wedge. -/
  | demodStatRead (ch : Ch)
  /-- PES_READY (R125): At the PES-ready phase DEMOD publishes position, PES and status for the wedge. -/
  | pesReady (ch : Ch) (signals : List ServoSig) (telem : Bool)
  /-- TDC_TC_UPDATE (R121): Every 10 ms DEMOD adds the temperature correction to the DLL control. -/
  | tdcTcUpdate (ch : Ch)
  /-- TDC_UNLOCK (R122): The DLL loses lock; POS_VALID is 0 and the write gate is held closed. -/
  | tdcUnlock (ch : Ch)
  /-- TDC_RELOCK (R122): The DLL relocks within 50 µs. -/
  | tdcRelock (ch : Ch)
  /-- DEMOD_CNT_CLR (R69): CNT_CLR sets the selected DEMOD statistics counters to 0. -/
  | demodCntClr (ch : Ch) (value : Word)
  /-- GO (R132): LOOP_CMD GO acts at the next tick, entering SETTLE or SEEK toward TARGET. -/
  | loopGo (ch : Ch)
  /-- MANUAL (R144): LOOP_CMD MANUAL enters MANUAL, loading the last output if KEEP is 1. -/
  | loopManual (ch : Ch) (keep : Bool)
  /-- AUTO (R145): LOOP_CMD AUTO leaves MANUAL as GO with a bumpless integrator preset. -/
  | loopAuto (ch : Ch)
  /-- LOAD (R157): LOOP_CMD LOAD sends inward VEL frames and puts DEMOD into search mode. -/
  | loadHeads (ch : Ch)
  /-- UNLOAD (R158): LOOP_CMD UNLOAD seeks to track 0 where position is known, then sends outward VEL frames. -/
  | unloadHeads (ch : Ch)
  /-- REARM (R132): LOOP_CMD REARM moves LOOP from RETRACTED to PARKED. -/
  | loopRearm (ch : Ch)
  /-- FE_TRIP (R146): FE_CNT reaching TIME trips the following-error supervision: replan, LOST, or re-GO. -/
  | feTrip (ch : Ch)
  /-- LOST_ENTRY (R149): After COAST invalid wedges or DEMOD LOSS, LOOP enters LOST. -/
  | lostEntry (ch : Ch)
  /-- POSITION_RECOVERED (R149): 8 consecutive valid positions in LOST set TARGET to the nearest track and enter FOLLOW. -/
  | positionRecovered (ch : Ch)
  /-- LOST_RETRACT (R149): LOSS_CFG.RETRACT wedges in LOST start an unload. -/
  | lostRetract (ch : Ch)
  /-- PHI0_LATCH (R143): At φ0 LOOP latches the setpoints to CLASPV. -/
  | phi0Latch (ch : Ch) (done : Bool)
  /-- SUB_SETPOINT (R143): At φ0 + T/4, T/2 and 3T/4 LOOP sends an interpolated sub-setpoint. -/
  | subSetpoint (ch : Ch) (q : Fin 3)
  /-- CLASP_FRAME_REPEAT (R161): 6.0 µs without a frame instant repeats the last frame with the next SEQ. -/
  | claspFrameRepeat (ch : Ch)
  /-- LOOP_RESIDUE (R151): A residue mismatch recomputes the wedge; a second mismatch substitutes and hands over to HOLD. -/
  | loopResidue (ch : Ch) (again : Bool)
  /-- HOLD_HANDOVER (R153): The eighth consecutive overrun hands the lane to HOLD and restarts LOOP. -/
  | holdHandover (ch : Ch)
  /-- LOOP_RESTART_DONE (R155): A LOOP restart ends its self-test; failures retry, the third retracts. -/
  | loopRestartDone (ch : Ch) (pass : Bool)
  /-- LOOP_SHADOW_END (R155): After 16 shadow wedges LOOP takes the lane back and raises RESUMED. -/
  | loopShadowEnd (ch : Ch)
  /-- HOLD_INVALID_RETRACT (R154): HOLD_CFG.LIM invalid wedges in HOLD send RETRACT and enter RETRACTED. -/
  | holdInvalidRetract (ch : Ch)
  /-- HOLD_PARITY (R156): A parity error in HOLD's coefficients clears AVAIL, or retracts if HOLD drives. -/
  | holdParity (ch : Ch)
  /-- COEFF_DERIVE (R135): A write to PLANT, PLANT_MA, BW or NOTCH derives every LOOP Expert coefficient. -/
  | coeffDerive (ch : Ch) (reg : Fin 7) (value : Word)
  /-- SEEK_POLICY_WRITE (R141): A write to SEEK_POLICY sets JERK_W and ACC and ends any A_MAX override. -/
  | seekPolicyWrite (ch : Ch) (value : Word)
  /-- CLV_RETRACT (R161): CLV_CTL.RETRACT sends RETRACT at the next frame instant and LOOP enters RETRACTED. -/
  | clvRetract (ch : Ch)
  /-- SHOCK_SAMPLE (R150): The KPR samples the shock and vibration sensors at 1 MS/s. -/
  | shockSample (shock : Nat) (rvx : Nat) (rvy : Nat)
  /-- SHOCK_TRIP_CLEAR (R150): Writing 1 to SHOCK_STAT.TRIP clears it and sets PEAK to 0. -/
  | shockTripClear
  /-- LOAD_COMPLETE (R157): Search exit plus 8 valid wedges ends the load with a GO to TARGET. -/
  | loadComplete (ch : Ch)
  /-- LOAD_TIMEOUT (R157): A load not complete within TIMEOUT × 4 ms sets LOAD_FAIL and unloads. -/
  | loadTimeout (ch : Ch)
  /-- UNLOAD_COMPLETE (R158): After UNLOAD_T ms of VEL frames LOOP sends HOLD_ZERO and enters PARKED. -/
  | unloadComplete (ch : Ch)
  /-- PWM_PERIOD (R165): Each 25 µs PWM period the motor context samples currents and computes new duties. -/
  | pwmPeriod (iu iv iw : Int) (mu mv mw : Int) (theta : Nat) (omega : Int) (emf : Nat) (vmot : Nat)
  /-- LOSS_OF_SYNCHRONISM (R169): Checks failing in LOS_N consecutive periods declare loss of synchronism. -/
  | lossOfSynchronism
  /-- REFERENCE_TICK (R170): At each wedge-reference tick the phase error is measured and REV_COUNT may advance. -/
  | referenceTick (dev : Int)
  /-- SPIN_LOCK_SET (R173): 128 reference ticks within LOCK_WIN in LOCKED set SPIN_LOCK. -/
  | spinLockSet
  /-- SPIN_START (R176): SPIN_CMD START moves STOPPED, BRAKE or COAST to SENSE. -/
  | spinStart
  /-- SPIN_STOP (R176): SPIN_CMD STOP enters BRAKE with no start pending. -/
  | spinStop
  /-- SPIN_COAST (R176): SPIN_CMD COAST enters COAST. -/
  | spinCoast
  /-- SPIN_CLEAR (R176): SPIN_CMD CLEAR moves FAILED to STOPPED. -/
  | spinClear
  /-- ZERO_CROSSING (R177): A back-EMF zero-crossing comparator edge is taken by SENSE or HOLD_ANGLE. -/
  | zeroCrossing (k : Fin 6) (interval : Nat) (at_ : Nat)
  /-- SENSE_TIMEOUT (R177): The 60 ms SENSE window ends and the outcome is decided. -/
  | senseTimeout (emf : Nat × Nat × Nat)
  /-- BRAKE_HOLD_END (R176): UNLOAD_WAIT ms of speed hold in BRAKE end and braking torque begins. -/
  | brakeHoldEnd
  /-- BRAKE_EMF_CHECK (R179): Every 100 ms BRAKE measures back-EMF and ends braking below 60 rpm. -/
  | brakeEmfCheck (emf : Nat)
  /-- ALIGN_COMPLETE (R180): ALIGN_T ends and RAMP begins. -/
  | alignComplete
  /-- RAMP_HANDOVER (R180): 64 plausible periods at or above HAND_RPM hand RAMP over to ACCEL. -/
  | rampHandover
  /-- HANDOVER_FAIL (R180): No handover by 1.5 × HAND_RPM brakes and retries; the third failure enters FAILED. -/
  | handoverFail
  /-- SPEED_LOCK (R176): Speed within ±0.1 % for 16 revolutions moves ACCEL to LOCKED. -/
  | speedLock
  /-- HOLD_ANGLE_TIMEOUT (R182): 3 ms without re-lock enters COAST and SENSE if AUTO_CATCH. -/
  | holdAngleTimeout
  /-- START_TIMEOUT (R176): START_TO seconds without reaching LOCKED enter FAILED. -/
  | startTimeout
  /-- GENERATE_HOLD_END (R183): After UNLOAD_WAIT ms GENERATE stops holding FLY_RPM. -/
  | generateHoldEnd
  /-- SPIN_RESIDUE (R184): A motor-context residue mismatch recomputes, or rotates the last vector and restarts. -/
  | spinResidue (again : Bool)
  /-- SPIN_RESTART_DONE (R184): The motor context resumes from its last good observer state. -/
  | spinRestartDone
  /-- SPIN_CFG_WRITE (R11): A write to SPIN_CFG derives the SPIN Expert page. -/
  | spinCfgWrite (value : Word)
  /-- CLASP_BEAT (R185): Every BEAT µs the KPR sends a supervisory command frame. -/
  | claspBeat
  /-- CLASP_REPLY (R187): A power-stage reply is checked and STATUS bits are latched. -/
  | claspReply (reply : Option Nat)
  /-- CLASP_NO_REPLY (R191): 16 beats without a good reply set NO_REPLY and write a Fault record. -/
  | claspNoReply
  /-- CLS_ARM (R188): CLS_CMD ARM queues an ARM of the named lanes. -/
  | clsArm (lanes : Fin 16)
  /-- CLS_RETRACT (R188): CLS_CMD RETRACT queues a RETRACT of the named lanes. -/
  | clsRetract (lanes : Fin 16)
  /-- CLS_CLEAR (R188): CLS_CMD CLEAR queues a CLEAR of latched status. -/
  | clsClear
  /-- CLS_IDENT (R188): CLS_CMD IDENT queues an IDENT. -/
  | clsIdent
  /-- CLS_BRIDGE (R188): CLS_CMD BRIDGE queues a BRIDGE with VALUE bit 0. -/
  | clsBridge
  /-- CLS_CONFIG (R188): CLS_CMD CONFIG queues a CONFIG of INDEX to VALUE. -/
  | clsConfig
  /-- FMT_SEL_WRITE (R193): A write to FMT_SEL selects the data zone at the next tick and derives AFE and DETECT Expert values. -/
  | fmtSelWrite (ch : Ch) (value : Word)
  /-- DCMD_READ (R430): A READ action opens the read gate and takes the next read descriptor. -/
  | dcmdRead (ch : Ch) (late : Bool) (pos : Nat) (r : ReadSig)
  /-- DCMD_READ_CONT (R430): A READ_CONT action opens the read gate for the sector's next fragment. -/
  | dcmdReadCont (ch : Ch) (late : Bool) (pos : Nat) (r : ReadSig)
  /-- DECODE_END (R212): An LDPC attempt ends in GOOD, CRC_FAIL, ADDR_FAIL, DEC_FAIL or suspected slip. -/
  | decodeEnd (ch : Ch)
  /-- SLIP_SEARCH (R219): Slip search tries shifted framings in the held slot on spare decoder time. -/
  | slipSearch (ch : Ch)
  /-- RCV_GO (R225): RCV_CMD GO starts a recovery of the descriptor at step FIRST. -/
  | rcvGo (ch : Ch) (first last : Fin 8)
  /-- RCV_ABORT (R229): RCV_CMD ABORT ends the recovery at the end of the revolution with ABORTED. -/
  | rcvAbort (ch : Ch)
  /-- RECOVERY_REVOLUTION (R224): Each recovery revolution runs its ladder step and ends at GOOD, the budget or the last step. -/
  | recoveryRevolution (ch : Ch) (r : RevRead)
  /-- SJ_GO (R230): SJ_CMD GO queues a soft-input decode job. -/
  | sjGo (ch : Ch) (iter : Fin 128)
  /-- SOFT_JOB_DONE (R230): A soft job ends, writing the information part or new a posteriori LLRs, and raises SJ_DONE. -/
  | softJobDone (ch : Ch)
  /-- DETECT_CNT_CLR (R231): DETECT CNT_CLR sets the selected counters, or all 48-bit counters and histogram bins, to 0. -/
  | detectCntClr (ch : Ch) (value : Word)
  /-- CODEWORD_ENCODE (R232): WRITE consumes a write descriptor when a buffer and completion entry are free and begins encoding. -/
  | codewordEncode (ch : Ch)
  /-- ENCODE_DONE (R235): A codeword is encoded, or its supplied CRC found wrong. -/
  | encodeDone (ch : Ch)
  /-- DCMD_WRITE (R553): A WRITE action starts a sector's emission, or completes it by the precedence of conditions. -/
  | dcmdWrite (ch : Ch) (late : Bool) (pos : Nat) (entered : Option Int)
  /-- DCMD_WRITE_CONT (R430): A WRITE_CONT action emits RPRE of the sector's next fragment. -/
  | dcmdWriteCont (ch : Ch) (late : Bool) (pos : Nat) (entered : Option Int)
  /-- DCMD_SPLIT (R430): A SPLIT action ends the open fragment. -/
  | dcmdSplit (ch : Ch) (pos : Nat)
  /-- DCMD_CLOSE (R430): A CLOSE action closes every data gate and abandons the open sector. -/
  | dcmdClose (ch : Ch)
  /-- SECTOR_WRITE_END (R237): A sector's last bit leaves and its write completion is written. -/
  | sectorWriteEnd (ch : Ch)
  /-- WR_POLICY_WRITE (R238): A write to WR_POLICY derives the precompensation table. -/
  | wrPolicyWrite (ch : Ch) (value : Word)
  /-- ASSIST_SAMPLE (R243): A usable AMON sample updates the assist correction. -/
  | assistSample (ch : Ch) (at_ : Int)
  /-- SETPOINT_UPDATE (R242): Every 10 ms ASSIST recomputes SP from level, zone and preamp temperature. -/
  | setpointUpdate (ch : Ch)
  /-- AS_PREHEAT_WRITE (R245): A write to AS_PREHEAT derives all eight pre-heat shapes. -/
  | asPreheatWrite (ch : Ch) (value : Word)
  /-- FLY_DERIVE (R248): A write to FLY_CLR, FLY_EFF or FLY_PROT derives P_R and P_W. -/
  | flyDerive (ch : Ch) (reg : Fin 3) (head : Fin 6) (value : Word)
  /-- FLY_REQ_WRITE (R249): A write to FLY_REQ switches the heater between read and write power. -/
  | flyReqWrite (ch : Ch) (value : Word)
  /-- FLY_GO (R250): FLY_CCMD GO starts a contact calibration of head k. -/
  | flyGo (ch : Ch) (head : Fin 8)
  /-- FLY_ABORT (R250): FLY_CCMD ABORT ends the calibration at the revolution's end with nothing adopted. -/
  | flyAbort (ch : Ch)
  /-- CONTACT_SWEEP_STEP (R250): Each revolution of a sweep measures ECS and decides contact, sweep end or adoption. -/
  | contactSweepStep (ch : Ch)
  /-- PREAMP_SLOT (R252): Each 0.96 µs slot carries one command frame and its reply. -/
  | preampSlot (ch : Ch) (lastSlot : Bool) (reply : Option Nat)
  /-- PREAMP_NO_REPLY (R260): 64 consecutive bad replies set NO_REPLY and make the actuator Degraded. -/
  | preampNoReply (ch : Ch)
  /-- FLTN_LOW (R259): PAn_FLTN low drops the gates and sets PA_FAULT.FLTN. -/
  | fltnLow (ch : Ch) (low aflt : Bool)
  /-- PA_ARM (R258): PA_CMD ARM sends MODE with ARM. -/
  | paArm (ch : Ch)
  /-- PA_QCMD_GO (R257): PA_QCMD GO queues a firmware frame. -/
  | paQcmdGo (ch : Ch) (value : Word)
  /-- WR_HEAD_WRITE (R257): A write to WR_HEADk queues WCUR and WOVS frames for head k. -/
  | wrHeadWrite (ch : Ch) (head : Fin 6) (value : Word)
  /-- FOLIO_ENCODE (R271): ENCODE computes member CRCs and the parity sector. -/
  | folioEncode
  /-- FOLIO_REBUILD (R272): REBUILD XORs 16 members to rebuild MISS and checks its CRC. -/
  | folioRebuild
  /-- FOLIO_PRIOR (R273): PRIOR makes a prior for MISS from OTHER's LLRs and the other members. -/
  | folioPrior
  /-- LOOKUP (R277): LOOKUP resolves a DLBA range into runs. -/
  | catLookup
  /-- SM_ADD (R278): SM_ADD inserts a Shelfmark at the head of the zone's chain. -/
  | smAdd
  /-- SM_DROP (R279): SM_DROP removes a Shelfmark from the chain. -/
  | smDrop
  /-- ZONE_SET (R279): ZONE_SET replaces a zone-table entry, keeping its chain. -/
  | zoneSet
  /-- BAND_SET (R266): BAND_SET replaces a band-table entry. -/
  | bandSet
  /-- SWITCH (R284): SWITCH commits a Rebinding to the NEW band. -/
  | rbSwitch
  /-- RB_SET (R283): RB_SET writes a Rebinding slot transition. -/
  | rbSet
  /-- CATALOGUE_ENABLE (R287): CAT_CTL.EN 0 to 1 replays every Committed slot before the first request. -/
  | catalogueEnable
  /-- PORT_TRAIN (R534): A port trains after stage 4 once its PERST# is deasserted. -/
  | portTrain (port : Fin 2) (width speed : Nat)
  /-- PERST_ASSERT (R534): PERST# assertion takes the port down and resets its functions. -/
  | perstAssert (port : Fin 2)
  /-- PORT_LINK_DOWN (R295): A port link-down returns its grants and resets its controllers. -/
  | portLinkDown (port : Fin 2)
  /-- VF_ENABLE (R297): VF Enable creates or removes a PF's virtual functions. -/
  | vfEnable (pf : Fin 2) (numVfs : Nat)
  /-- CONTROLLER_ENABLE (R299): CC.EN 0 to 1 makes CSTS.RDY 1 within its bound. -/
  | controllerEnable (setup : CtrlSetup)
  /-- CONTROLLER_RESET (R368): A controller reset or CC.EN 0 frees or detaches its tags and returns its grant. -/
  | controllerReset (ctrl : Fin 64)
  /-- FUNCTION_LEVEL_RESET (R368): An FLR resets its function, and for a PF its VFs. -/
  | functionLevelReset (ctrl : Fin 64)
  /-- NVM_SUBSYSTEM_RESET (R369): NSSR resets every controller of both ports and retrains the links. -/
  | nvmSubsystemReset
  /-- SUBMISSION_FETCH (R309): The front end fetches a submission entry, takes a tag and checks it. -/
  | submissionFetch (ctrl : Fin 64) (queue : ReadyQueue) (tag : TagNo) (entry : WrtNo) (sqe : List Byte) (ranges : List (Nat × Nat))
  /-- FETCH_RESUME (R307): Fetching resumes within 100 ns of a tag or entry being freed. -/
  | fetchResume
  /-- CREATE_IO_SQ (R305): Create I/O Submission Queue within the controller's grant. -/
  | createIoSq (tag : TagNo)
  /-- CREATE_IO_CQ (R305): Create I/O Completion Queue within the controller's grant. -/
  | createIoCq (tag : TagNo)
  /-- DELETE_IO_SQ (R304): Delete I/O Submission Queue. -/
  | deleteIoSq (tag : TagNo)
  /-- DELETE_IO_CQ (R304): Delete I/O Completion Queue. -/
  | deleteIoCq (tag : TagNo)
  /-- GET_LOG_PAGE (R321): Get Log Page returns a standard log page. -/
  | getLogPage (tag : TagNo)
  /-- GET_LOG_COLOPHON (R457): Get Log Page C0h returns the current record or the device endorsement. -/
  | getLogColophon (tag : TagNo)
  /-- GET_LOG_ACCESSION (R503): Get Log Page C1h returns a snapshot of the Accession Log. -/
  | getLogAccession (tag : TagNo)
  /-- IDENTIFY (R310): Identify returns controller, namespace and list data. -/
  | nvmeIdentify (tag : TagNo)
  /-- ABORT (R348): Abort tries to move the named command to Completing with Command Abort Requested. -/
  | nvmeAbort (tag : TagNo)
  /-- SET_FEATURES_NUMBER_OF_QUEUES (R303): Number of Queues grants I/O queue pairs from reserve and pool. -/
  | setFeaturesNumberOfQueues (tag : TagNo)
  /-- SET_FEATURES_VOLATILE_WRITE_CACHE (R319): Volatile Write Cache is refused with PLP, or sets the cache mode. -/
  | setFeaturesVolatileWriteCache (tag : TagNo)
  /-- SET_FEATURES_POWER_MANAGEMENT (R320): Power Management sets the PF's power state and the host rung limit. -/
  | setFeaturesPowerManagement (tag : TagNo)
  /-- SET_FEATURES (R313): Set Features sets any other supported feature. -/
  | setFeatures (tag : TagNo) (data : List Byte)
  /-- GET_FEATURES (R303): Get Features returns a feature's value. -/
  | getFeatures (tag : TagNo)
  /-- ASYNCHRONOUS_EVENT_REQUEST (R310): Asynchronous Event Request is held until an event is reported. -/
  | asynchronousEventRequest (tag : TagNo)
  /-- FIRMWARE_IMAGE_DOWNLOAD (R474): Firmware Image Download stages a piece at the expected offset. -/
  | firmwareImageDownload (tag : TagNo) (data : List Byte)
  /-- FIRMWARE_COMMIT (R476): Firmware Commit writes, selects or activates a staged set by CA. -/
  | firmwareCommit (tag : TagNo)
  /-- FORMAT_NVM (R318): Format NVM replaces the key, resets zones and sets the LBA format. -/
  | formatNvm (tag : TagNo)
  /-- SECURITY_SEND (R337): Security Send carries SPDM or drive-maker protocols. -/
  | securitySend (tag : TagNo) (data : List Byte)
  /-- SECURITY_RECEIVE (R337): Security Receive returns SPDM or drive-maker protocol data. -/
  | securityReceive (tag : TagNo)
  /-- INVENTORY (R333): Inventory transfers one whole build of the image with its generation. -/
  | inventoryCmd (tag : TagNo)
  /-- FLUSH (R352): Flush completes at fetch in Protected mode, or records S and waits. -/
  | nvmeFlush (tag : TagNo)
  /-- NVME_WRITE (R351): Write creates range entries and completes as the cache mode allows. -/
  | nvmeWrite (tag : TagNo) (ends : MediaEnd)
  /-- NVME_READ (R345): Read resolves each block against earlier writes and the media. -/
  | nvmeRead (tag : TagNo) (media : List (List Byte)) (ends : MediaEnd)
  /-- COMPARE (R345): Compare reads and compares the range. -/
  | nvmeCompare (tag : TagNo) (data : List Byte) (media : List (List Byte)) (ends : MediaEnd)
  /-- WRITE_ZEROES (R317): Write Zeroes deallocates or writes zeros. -/
  | writeZeroes (tag : TagNo) (ends : MediaEnd)
  /-- DATASET_MANAGEMENT (R316): Deallocate records DEALLOC Shelfmarks in conventional zones. -/
  | datasetManagement (tag : TagNo) (ends : MediaEnd)
  /-- VERIFY (R345): Verify reads and checks the range without transfer. -/
  | nvmeVerify (tag : TagNo) (media : List (List Byte)) (ends : MediaEnd)
  /-- RESERVATION_REGISTER (R328): Reservation Register registers or unregisters a host. -/
  | reservationRegister (tag : TagNo) (data : List Byte)
  /-- RESERVATION_REPORT (R328): Reservation Report returns the reservation state. -/
  | reservationReport (tag : TagNo)
  /-- RESERVATION_ACQUIRE (R328): Reservation Acquire takes or preempts a reservation. -/
  | reservationAcquire (tag : TagNo) (data : List Byte)
  /-- RESERVATION_RELEASE (R328): Reservation Release releases or clears a reservation. -/
  | reservationRelease (tag : TagNo) (data : List Byte)
  /-- ZONE_MANAGEMENT_SEND (R325): Zone Management Send closes, finishes, opens, resets or offlines zones. -/
  | zoneManagementSend (tag : TagNo)
  /-- ZONE_MANAGEMENT_RECEIVE (R326): Zone Management Receive reports zones from the zone table. -/
  | zoneManagementReceive (tag : TagNo)
  /-- ZONE_APPEND (R324): Zone Append is assigned its LBA in fetch order. -/
  | zoneAppend (tag : TagNo) (ends : MediaEnd)
  /-- CTRL_NS_WRITE (R300): A write to CTRL_NS changes attachments and raises Namespace Attribute Changed. -/
  | ctrlNsWrite (ctrl : Fin 64) (value : Word)
  /-- INVENTORY_REBUILD (R329): The HUB builds the Inventory image into the idle buffer and flips it. -/
  | inventoryRebuild
  /-- INVENTORY_REFRESH (R330): With the HUB not building, the KPR refreshes its sections every 10 ms. -/
  | inventoryRefresh
  /-- INV_NOTE_DATA_WRITE (R334): A write to INV_NOTE_DATA stores a Notes word and advances OFF. -/
  | invNoteDataWrite (value : Word)
  /-- MCTP_MESSAGE (R335): MGMT receives an MCTP message on the selected bus. -/
  | mctpMessage (addr : Nat) (msg : MctpMsg) (good : Bool)
  /-- READ_NVME_MI_DATA_STRUCTURE (R336): NVMe-MI Read Data Structure. -/
  | readNvmeMiDataStructure (kind port ctrl : Nat)
  /-- NVM_SUBSYSTEM_HEALTH_STATUS_POLL (R336): NVMe-MI Subsystem Health Status Poll. -/
  | nvmSubsystemHealthStatusPoll
  /-- CONTROLLER_HEALTH_STATUS_POLL (R336): NVMe-MI Controller Health Status Poll. -/
  | controllerHealthStatusPoll (first count : Nat)
  /-- CONFIGURATION_GET (R336): NVMe-MI Configuration Get. -/
  | configurationGet (item port : Nat)
  /-- CONFIGURATION_SET (R336): NVMe-MI Configuration Set. -/
  | configurationSet (item port value : Nat)
  /-- NVME_MI_RESET (R369): NVMe-MI Reset acts as an NVM subsystem reset, or a full boot when Blank. -/
  | nvmeMiReset
  /-- BASIC_MANAGEMENT_COMMAND (R336): SMBus Basic Management Command. -/
  | basicManagementCommand (code : Nat)
  /-- NVME_MI_ADMIN_COMMAND (R336): An NVMe admin command carried from management with a management tag. -/
  | nvmeMiAdminCommand (ctrl : Nat) (tag : TagNo) (sqe : List Byte)
  /-- GET_VERSION (R337): SPDM GET_VERSION. -/
  | getVersion
  /-- GET_CAPABILITIES (R337): SPDM GET_CAPABILITIES. -/
  | getCapabilities (req : List Byte)
  /-- NEGOTIATE_ALGORITHMS (R337): SPDM NEGOTIATE_ALGORITHMS. -/
  | negotiateAlgorithms (req ext : List Byte)
  /-- GET_DIGESTS (R337): SPDM GET_DIGESTS. -/
  | getDigests
  /-- GET_CERTIFICATE (R458): SPDM GET_CERTIFICATE returns a certificate chain. -/
  | getCertificate (slot offset len : Nat)
  /-- CHALLENGE (R458): SPDM CHALLENGE signed with the identity key. -/
  | spdmChallenge (slot summary : Nat) (nonce : List Byte)
  /-- GET_MEASUREMENTS (R458): SPDM GET_MEASUREMENTS returns slots, the record digest or the record. -/
  | getMeasurements (index slot : Nat) (signed : Bool) (nonce : List Byte)
  /-- DISPATCH (R341): The front end writes a dispatch entry when data is in DRAM and the ring has room. -/
  | tagDispatch (tag : TagNo)
  /-- WRITE_DATA_ARRIVE (R342): A write's last block reaches DRAM and its entry becomes HELD. -/
  | writeDataArrive (entry : WrtNo) (data md : List Byte)
  /-- WRITE_ADMIT (R357): A write held for protected-set room proceeds when room appears. -/
  | writeAdmit (tag : TagNo)
  /-- COMPLETE (R339): A firmware COMPLETE request moves the tag to Completing, or is refused STALE or EARLY. -/
  | tagComplete (media : List (List Byte))
  /-- MEDIA (R339): A firmware MEDIA request moves a Dispatched tag to Media. -/
  | tagMedia
  /-- COMPLETION_POST (R339): The completion entry is posted and the tag is freed. -/
  | completionPost (tag : TagNo)
  /-- WRT_REL_WRITE (R347): A write to WRT_REL releases a range entry and its buffers. -/
  | wrtRelWrite (value : Word)
  /-- FLUSH_COMPLETE (R352): A pending Flush completes when no live entry has CSEQ at or below S. -/
  | flushComplete (tag : TagNo)
  /-- DUMP_ARM (R359): DUMP_CMD.ARM starts arming of the dump partition. -/
  | dumpArm
  /-- ARM_COMPLETE (R359): Arming measures DUMP_RATE and writes DUMP_STATE ARMED. -/
  | armComplete (rate : Nat)
  /-- PLP_FAIL (R360): A program or erase failure in the dump partition drops PLP_READY. -/
  | plpFail (erase : Bool)
  /-- POWER_LOSS_WARNING (R361): SUPMON's warning stops fetching, starts GENERATE and unloads every actuator. -/
  | powerLossWarning (source : Fin 3)
  /-- DUMP_WRITE (R362): At 1.0 ms the channel dies switch off and the dump units are written. -/
  | dumpWrite
  /-- DUMP_COMPLETE (R361): The commit unit is written and DUMP_STATE becomes DUMPED. -/
  | dumpComplete
  /-- BOOT_DUMP (R364): A full boot starting while ARMED first dumps the protected set. -/
  | bootDump
  /-- DUMP_RESTORE (R365): A dump found DUMPED is read back and rebuilt as HELD entries. -/
  | dumpRestore (bad : List Nat)
  /-- DRAM_WRITE (R375): A write to DRAM validates an invalid unit and stores the data with check words. -/
  | dramWrite (cls : Fin 16) (addr : Nat) (bytes : List Byte) (found : Upset)
  /-- INVALIDATE (R376): DCMD INVALIDATE discards cache lines and clears the valid bits of a run. -/
  | dramInvalidate (count : Nat)
  /-- SPARE (R377): DCMD SPARE copies a unit into a spare and redirects it. -/
  | dramSpare
  /-- DCMD_DONE (R377): A DRAMC command ends and DONE is set. -/
  | dcmdDone
  /-- ALLOC (R382): ALLOC takes the head of a pool's free FIFO. -/
  | stkAlloc (c : CoreNo) (zero : Bool) (pool : Fin 16)
  /-- ADD (R382): ADD adds an owner to a buffer. -/
  | stkAdd (c : CoreNo)
  /-- RELEASE (R382): RELEASE removes an owner from a buffer. -/
  | stkRelease (c : CoreNo)
  /-- FREE (R382): FREE returns a buffer with one owner to its pool. -/
  | stkFree (c : CoreNo)
  /-- QUERY (R382): QUERY returns a buffer's owner count. -/
  | stkQuery (c : CoreNo)
  /-- POOL_INIT (R379): POOL_CMD INIT builds a pool's free FIFO. -/
  | poolInit (pool : Fin 16)
  /-- POOL_INIT_DONE (R379): Pool initialisation ends and the pool is ON. -/
  | poolInitDone (pool : Fin 16)
  /-- POOL_OFF (R379): POOL_CMD OFF makes the pool refuse every request. -/
  | poolOff (pool : Fin 16)
  /-- POOL_CLR_LOW (R379): POOL_CMD CLR_LOW sets POOL_LOW to FREE. -/
  | poolClrLow (pool : Fin 16)
  /-- HW_ALLOC_RETRY (R384): A hardware ALLOC that completed EMPTY is repeated when the pool's FREE rises. -/
  | hwAllocRetry (pool : Fin 16)
  /-- CLEAN (R393): CLEAN writes the dirty lines of a range to DRAM. -/
  | scClean
  /-- INVAL (R393): INVAL discards the lines of a range. -/
  | scInval
  /-- CLEAN_INVAL (R393): CLEAN_INVAL cleans and discards the lines of a range. -/
  | scCleanInval
  /-- CLEAN_ALL (R393): CLEAN_ALL cleans every line. -/
  | scCleanAll
  /-- CLEAN_INVAL_ALL (R393): CLEAN_INVAL_ALL cleans and discards every line. -/
  | scCleanInvalAll
  /-- MOP_DONE (R393): A maintenance operation ends and raises DONE. -/
  | mopDone
  /-- SCRUB_ITEM (R399): The scrubber reads an item and corrects or reports it. -/
  | scrubItem (m : ArrayNo) (addr : Nat) (found : Upset)
  /-- SCRUB_LAP_END (R399): A scrub lap ends, no sooner than 16 s after its start. -/
  | scrubLapEnd (m : ArrayNo)
  /-- READ_RAW (R400): TA_CMD READ_RAW returns data and check bits as stored. -/
  | readRaw (m : ArrayNo)
  /-- WRITE_RAW (R400): TA_CMD WRITE_RAW stores data and check bits as given. -/
  | writeRaw (m : ArrayNo)
  /-- MEM_CNT_CLR (R69): MEM_CNT_CLR sets CE_CNT or UE_CNT to 0. -/
  | memCntClr (m : ArrayNo) (value : Word)
  /-- NEWKEY (R403): NEWKEY generates, wraps and saves a namespace key. -/
  | newkey (slot : Fin 16)
  /-- ERASE (R403): ERASE destroys a slot's wrapped key. -/
  | keyErase (slot : Fin 16)
  /-- CIPHER_ENABLE (R403): CI_CTL.EN 0 to 1 reloads every wrapped key. -/
  | cipherEnable
  /-- INSTRUCTION (R405): A core executes one RISC-V instruction. -/
  | coreInstruction (core : CoreNo)
  /-- MEVCLAIM_READ (R419): A read of MEVCLAIM returns and clears the lowest pending enabled event. -/
  | mevclaimRead (core : CoreNo)
  /-- MEVSEND_WRITE (R421): A write of MEVSEND raises a software event. -/
  | mevsendWrite (core : CoreNo) (value : DWord)
  /-- MDINV_WRITE (R386): A write of MDINV invalidates one data-cache line or all of them. -/
  | mdinvWrite (core : CoreNo) (value : DWord)
  /-- MTASKDONE_WRITE (R435): A write of MTASKDONE acknowledges the wedge task. -/
  | mtaskdoneWrite (core : CoreNo) (value : DWord)
  /-- MWDKICK_WRITE (R414): A write of MWDKICK restarts the watchdog. -/
  | mwdkickWrite (core : CoreNo)
  /-- MRESCTL_WRITE (R409): A write of MRESCTL arms a residue injection. -/
  | mresctlWrite (core : CoreNo) (value : DWord)
  /-- TIMER_INTERRUPT (R407): MTIME reaching MTIMECMP sets MTIP. -/
  | timerInterrupt (core : CoreNo)
  /-- RESIDUE_MISMATCH (R409): A core residue mismatch repeats the instruction, then corrects or warm-restarts. -/
  | residueMismatch (core : CoreNo) (agrees : Bool)
  /-- MACHINE_CHECK (R410): A parity or posted-store error raises a machine check, or a nested one restarts. -/
  | machineCheck (core : CoreNo) (source : Nat) (addr : DWord)
  /-- WARM_RESTART (R411): A warm restart stops the core, invalidates L1, resets registers and self-tests. -/
  | warmRestart (core : CoreNo)
  /-- WARM_RESTART_DONE (R411): The core starts at WARM_ENTRY and raises RESTARTED. -/
  | warmRestartDone (core : CoreNo) (pass : Bool)
  /-- WATCHDOG_EXPIRY (R414): WDOG_US µs without MWDKICK cause a warm restart. -/
  | watchdogExpiry (core : CoreNo)
  /-- CORE_START (R415): CORE_CTL.START starts a core with nonzero ROLE. -/
  | coreStart (core : CoreNo)
  /-- CORE_WARM (R411): CORE_CTL.WARM makes a warm restart now. -/
  | coreWarm (core : CoreNo)
  /-- EVENT_RAISE (R418): A unit raises an event and its target's pending bit is set. -/
  | eventRaise (event : Fin 512)
  /-- EVENT_DELIVER (R420): An event reaches a core on another die through the Tsuku EVT class. -/
  | eventDeliver (event : Fin 512)
  /-- EV_ROUTE_WRITE (R416): A write of EV_ROUTE updates the route and its local copy. -/
  | evRouteWrite (w : Fin 128) (value : Word)
  /-- EV_SEND_WRITE (R421): A write of EV_SEND raises a software event. -/
  | evSendWrite (value : Word)
  /-- TASK_RAISE (R435): At W + 1.20 µs the TASK event is raised. -/
  | taskRaise (ch : Ch)
  /-- TASK_LATE (R435): No MTASKDONE by W + T − 0.50 µs sets CORE_STAT.LATE. -/
  | taskLate (ch : Ch)
  /-- LM_LOAD_DATA7_WRITE (R424): A write of LM_LOAD_DATA7 stores a customer microword and advances the address. -/
  | lmLoadData7Write (ch : Ch) (value : Word)
  /-- LM_START (R425): LM_CTL.START computes the customer-region digest. -/
  | lmStart (ch : Ch)
  /-- LM_VERIFY_DONE (R425): The digest ends; the sequencer starts at the next gate or START_REJ is set. -/
  | lmVerifyDone (ch : Ch)
  /-- LM_STOP (R432): LM_CTL.STOP stops the sequencer at the next boundary and closes the gates. -/
  | lmStop (ch : Ch)
  /-- LM_RELOAD (R426): LM_CTL.RELOAD has SIGNET rewrite the Sibourn words. -/
  | lmReload (ch : Ch)
  /-- LM_RELOAD_DONE (R426): The Sibourn words are rewritten from the retained copy. -/
  | lmReloadDone (ch : Ch)
  /-- MICROWORD (R427): The sequencer executes one microword. -/
  | microword (ch : Ch) (handover : Bool)
  /-- SIG_SHA256 (R445): SIG_CMD SHA-256 hashes LEN bytes. -/
  | sigSha256
  /-- SIG_SHA384 (R445): SIG_CMD SHA-384 hashes LEN bytes. -/
  | sigSha384
  /-- SIG_VERIFY (R441): SIG_CMD VERIFY checks an image header and body. -/
  | sigVerify
  /-- SIG_EXTEND (R446): SIG_CMD EXTEND extends a drive-firmware slot before closing. -/
  | sigExtend
  /-- SIG_RANDOM (R450): SIG_CMD RANDOM writes DRBG output. -/
  | sigRandom
  /-- SIG_OP_DONE (R441): A SIGNET operation ends with its result. -/
  | sigOpDone
  /-- DBG_CHAL (R459): A challenge is issued by TAP DBG_CHAL or DBG_CTL.CHAL. -/
  | dbgChal (tap : Bool)
  /-- DBG_TOKEN (R460): TAP DBG_TOKEN submits a token. -/
  | dbgToken (token : List Byte)
  /-- DBG_SUBMIT (R460): DBG_CTL.SUBMIT submits the token at DBG_ADDR. -/
  | dbgSubmit
  /-- TOKEN_CHECK_DONE (R463): A checked token is refused or grants its level and extends slot 10. -/
  | tokenCheckDone
  /-- CHALLENGE_EXPIRE (R459): A challenge expires after 600 s. -/
  | challengeExpire
  /-- DBG_LOCK (R463): DBG_CTL.LOCK drops any debug level. -/
  | dbgLock
  /-- DBG_FABRIC (R548): TAP DBG_FABRIC makes a fabric access at debug level 1 or above. -/
  | dbgFabric (addr : BitVec 32) (write : Bool) (value : Word)
  /-- OTP_PROG_WRITE (R449): A write of OTP_PROG programs one permitted bit. -/
  | otpProgWrite (value : Word)
  /-- OTP_PROGRAM_DONE (R449): An OTP bit finishes programming. -/
  | otpProgramDone
  /-- NVS_DATA_WRITE (R465): A write of NVS_DATA stores a word whole or not at all and advances ADDR. -/
  | nvsDataWrite (value : Word)
  /-- NVS_DATA_READ (R465): A read of NVS_DATA returns the word and advances ADDR. -/
  | nvsDataRead
  /-- NVS_WRITE_DONE (R465): An NV store write completes or fails its read-back. -/
  | nvsWriteDone (ok : Bool)
  /-- UPD_HDRCHK (R473): HDRCHK checks a staged header and signature block. -/
  | updHdrchk (target : Fin 16)
  /-- UPD_WRITE (R475): WRITE verifies a staged set and programs the writable location. -/
  | updWrite (target : Fin 16)
  /-- UPD_SELECT (R476): SELECT re-verifies a location and makes it selected. -/
  | updSelect (target : Fin 16)
  /-- UPD_ACTIVATE (R478): ACTIVATE checks peers and starts activation die by die. -/
  | updActivate (target : Fin 16)
  /-- UPD_OP_DONE (R475): An update-engine operation ends with its result. -/
  | updOpDone (flash : Bool)
  /-- CH_STEP_DRAIN (R479): A quiet CH die, or 50 ms, stops the sequencer and reloads the die. -/
  | chStepDrain
  /-- HUB_STEP (R480): Once every tag is Completed the H-cores are reloaded and the BOOT H-core starts. -/
  | hubStep
  /-- UPD_ST_WRITE (R483): A write of UPD_ST reports a die's self-test verdict. -/
  | updStWrite (source : Fin 17) (value : Word)
  /-- SELFTEST_TIMEOUT (R483): No PASS within ST_LIMIT fails the self-test. -/
  | selftestTimeout
  /-- UPD_UNSEAL_WRITE (R485): The key word at debug level 2 clears SEALED and starts a full boot. -/
  | updUnsealWrite (value : Word)
  /-- ALOG_ENTER (R501): A queued record enters an empty entry, overwrites by severity, or is dropped. -/
  | alogEnter
  /-- WR_GO_WRITE (R499): A write of WR_GO enters a firmware record. -/
  | wrGoWrite (block : Fin 17) (value : Word)
  /-- ACT_STATE_WRITE (R492): A write of ACT_STATE changes the allowed actuator state fields. -/
  | actStateWrite (value : Word)
  /-- FATAL_CMD_WRITE (R496): The key word at FATAL_CMD starts the Fatal sequence. -/
  | fatalCmdWrite (value : Word)
  /-- FATAL_SEQUENCE (R497): A Fatal cause sets CFS, stops fetching, writes the Fatal record and unloads. -/
  | fatalSequence
  /-- FATAL_RETRACT_TIMEOUT (R497): After 1 s CLASPV retracts any lane still loaded. -/
  | fatalRetractTimeout
  /-- FATAL_FULL_BOOT (R497): With unload and dump done, the log is copied, the beat stops and a full boot follows. -/
  | fatalFullBoot
  /-- KPR_LINK_FAIL_TIMER (R497): On a failed HUB–KPR link the KPR stops the beat after 1 s and boots after 2 s. -/
  | kprLinkFailTimer (second : Bool)
  /-- ALOG_SAVE (R505): ALOG_CTL.SAVE copies the log to flash. -/
  | alogSave
  /-- ALOG_COPY_DONE (R505): A log copy ends and the next slot is erased in the background. -/
  | alogCopyDone (ok : Bool)
  /-- ALOG_FREEZE (R502): ALOG_CTL.FREEZE stops records entering the array. -/
  | alogFreeze
  /-- ALOG_UNFREEZE (R502): ALOG_CTL.UNFREEZE ends the freeze. -/
  | alogUnfreeze
  /-- FREEZE_TIMEOUT (R502): 60 s of freeze end it. -/
  | freezeTimeout
  /-- LADDER_CMD_WRITE (R510): LADDER_CMD requests a rung; preconditions are checked before entry. -/
  | ladderCmdWrite (value : Word) (l12 : Bool)
  /-- MAX_RUNG_WRITE (R510): A write of MAX_RUNG changes the limit, starting an exit if lowered. -/
  | maxRungWrite (value : Word)
  /-- RUNG_ENTRY_STEP (R512): One step of a rung entry runs its actions and domain changes. -/
  | rungEntryStep
  /-- WAKE (R514): An enabled wake ends a rung above 0. -/
  | rungWake (source : Fin 6)
  /-- RUNG_EXIT (R515): An exit powers rung 0 domains, reloads images and re-arms lanes and preamps. -/
  | rungExit
  /-- SUPPLY_GOOD (R519): A supply becomes good. -/
  | supplyGood (supply : Fin 17)
  /-- SUPPLY_LOST (R521): A supply goes bad while needed. -/
  | supplyLost (supply : Fin 17)
  /-- THERMAL_CONVERSION (R523): Every 1 ms THERM converts the eight diodes. -/
  | thermalConversion (readings : List (Int × Bool))
  /-- SENSOR_BROKEN (R527): A diode is found broken and its die is treated as Hot. -/
  | sensorBroken (die : Fin 8)
  /-- XS_READ (R546): XS_CMD READ reads flash to memory. -/
  | xsRead
  /-- XS_PROGRAM (R546): XS_CMD PROGRAM programs a drive-maker data partition. -/
  | xsProgram
  /-- XS_ERASE (R546): XS_CMD ERASE erases in a drive-maker data partition. -/
  | xsErase
  /-- XS_DONE (R546): An XSPI core command ends, or is preempted by a dump. -/
  | xsDone (ok : Bool)
  /-- TEST_EN_ASSERT (R548): TEST_EN high holds every die in reset. -/
  | testEnAssert
  /-- TAP_RESET (R548): TRST# low or five TMS-high cycles reset the TAP to IDCODE. -/
  | tapReset
  /-- EXTEST (R548): TAP EXTEST drives boundary-scan cells while TEST_EN is high. -/
  | extest (cells : List Bool)
  /-- IDCODE (R548): TAP IDCODE selects the identification register. -/
  | idcode
  /-- SAMPLE_PRELOAD (R548): TAP SAMPLE/PRELOAD samples or loads boundary-scan cells. -/
  | samplePreload (pins cells : List Bool)
  /-- CLAMP (R548): TAP CLAMP holds outputs while TEST_EN is high. -/
  | clamp
  /-- HIGHZ (R548): TAP HIGHZ floats outputs while TEST_EN is high. -/
  | highz
  /-- BYPASS (R548): TAP BYPASS selects the bypass register. -/
  | bypass
  /-- UART_DATA_WRITE (R549): A write of UART_DATA queues a byte to send. -/
  | uartDataWrite (value : Word)
  /-- UART_DATA_READ (R549): A read of UART_DATA removes a received byte. -/
  | uartDataRead
  /-- UART_RECEIVE (R549): A byte arrives on UART_RXD. -/
  | uartReceive (byte : Byte)
  /-- KEY_COMMAND_DONE (R403): A CIPHER NEWKEY or ERASE ends after its NV store save, clearing KEYSTAT.BUSY, updating VALID and raising HUB event 70. -/
  | keyCommandDone
  /-- I3C_ADDRESS_ASSIGNMENT (R335): An I3C controller assigns MGMT its address by SETDASA or ENTDAA, setting MGMT_STAT.ASSIGNED. -/
  | i3cAddressAssignment (assign : I3cAssign)
  /-- TEST_EN_DEASSERT (R548): TEST_EN going low releases every die, the KPR included, from the reset in which TEST_EN held them. -/
  | testEnDeassert
  /-- GPIO_CHANGE (R532): A change of an enabled GPIO pin level sets GPIO_EVT.CHG and raises HUB event 102. -/
  | gpioChange (levels : BitVec 16)
  /-- KEEPER_CONTEXT_RESIDUE (R487): A residue fault in the spindle engine's Keeper context restarts the Keeper firmware within 200 µs while the beat continues in hardware. -/
  | keeperContextResidue
  /-- CONTROLLER_SHUTDOWN (R332): A host shutdown notification through CC.SHN moves a controller through shutting down to shut down. -/
  | controllerShutdown (note : ShutdownNote)
  deriving DecidableEq, Repr

end Sys2Proof
end

