-- ==== Sys2Proof/Decode.lean ====
section
/-!
DEFINITION. The command a word of the table of operations spells. The table gives bits to none of its rows: a command of the Plidal is an access, a frame or an event, not a word of a program.
-/

namespace Sys2Proof

/-- The rows of the table that give bits, as (mask, pattern, command): there are none. -/
def decodeRows : List (Nat × Nat × Instr) := []

/-- The command whose row a word matches. -/
def decodeTableWord (_nbits w : Nat) : Option Instr :=
  (decodeRows.find? (fun r => decide (w &&& r.1 = r.2.1))).map (fun r => r.2.2)

end Sys2Proof
end

