-- ==== Sys2Proof/Machine/Bits.lean ====
section
/-!
DEFINITION. Bit fields, byte order (R16), fixed-point numbers (R17), saturation, the CRCs the manual defines (R47, R160, R186, R200, R253), and the sorted sparse lists that hold registers and memories.
-/

namespace Sys2Proof.Machine

/-- Bits [hi:lo] of a number. -/
def bitsOf (x hi lo : Nat) : Nat := x / 2 ^ lo % 2 ^ (hi - lo + 1)

/-- Bit `i` of a number. -/
def bitOf (x i : Nat) : Bool := decide (x / 2 ^ i % 2 = 1)

/-- `x` with bit `i` set. -/
def setBitN (x i : Nat) : Nat := if bitOf x i then x else x + 2 ^ i

/-- `x` with bit `i` cleared. -/
def clrBitN (x i : Nat) : Nat := if bitOf x i then x - 2 ^ i else x

/-- The word whose bits [hi:lo] are ones. -/
def maskOf (hi lo : Nat) : Word := BitVec.ofNat 32 ((2 ^ (hi - lo + 1) - 1) * 2 ^ lo)

/-- `w` with bits [hi:lo] replaced by `x`. -/
def insertBits (w : Word) (hi lo x : Nat) : Word :=
  (w &&& ~~~(maskOf hi lo)) ||| (BitVec.ofNat 32 (x * 2 ^ lo) &&& maskOf hi lo)

/-- 1 for true, 0 for false. -/
def ofBool (b : Bool) : Nat := if b then 1 else 0

/-- The two's-complement value of the low `n` bits of `x` (R17). -/
def sx (n x : Nat) : Int :=
  let y := x % 2 ^ n
  if y < 2 ^ (n - 1) then (y : Int) else (y : Int) - 2 ^ n

/-- The low `n` bits of an integer, two's complement. -/
def toBits (n : Nat) (i : Int) : Nat := (i % (2 ^ n : Int)).toNat

/-- An integer clamped to the range of an `n`-bit two's-complement number. -/
def clampS (n : Nat) (i : Int) : Int :=
  max (-(2 ^ (n - 1) : Int)) (min i ((2 ^ (n - 1) : Int) - 1))

/-- An integer clamped to [lo, hi]. -/
def clampI (lo hi i : Int) : Int := max lo (min i hi)

/-- Division rounding to nearest, halves away from zero. -/
def roundDiv (a : Int) (d : Nat) : Int :=
  if d = 0 then 0
  else if 0 ≤ a then (2 * a + d) / (2 * d) else -((2 * (-a) + d) / (2 * d))

/-- A number clamped to all ones of `n` bits. -/
def satU (n x : Nat) : Nat := min x (2 ^ n - 1)

/-! ### Byte order (R16) -/

/-- The number a little-endian byte string spells (R16). -/
def leNat : List Byte → Nat
  | [] => 0
  | b :: t => b.toNat + 256 * leNat t

/-- The `n` bytes of a number, least significant first (R16). -/
def toLe : Nat → Nat → List Byte
  | 0, _ => []
  | n + 1, x => BitVec.ofNat 8 x :: toLe n (x / 256)

/-- `n` bytes of a byte string from offset `o`; bytes past its end read 0. -/
def slice (bs : List Byte) (o n : Nat) : List Byte :=
  let t := (bs.drop o).take n
  t ++ List.replicate (n - t.length) 0

/-- The little-endian field of `n` bytes at offset `o`. -/
def fieldLe (bs : List Byte) (o n : Nat) : Nat := leNat (slice bs o n)

/-- The 32-bit words of a byte string, first word first. -/
def wordsOf : Nat → List Byte → List Word
  | 0, _ => []
  | k + 1, bs => BitVec.ofNat 32 (leNat (slice bs 0 4)) :: wordsOf k (bs.drop 4)

/-! ### CRCs -/

/-- The `n` low bits of `x`, most significant first. -/
def bitsMsb (n x : Nat) : List Bool := (List.range n).map (fun i => bitOf x (n - 1 - i))

/-- One bit into an `n`-bit CRC register, most significant bit first, without reflection. -/
def crcBit (n poly crc : Nat) (b : Bool) : Nat :=
  let top := xor (bitOf crc (n - 1)) b
  let sh := crc * 2 % 2 ^ n
  if top then Nat.xor sh poly else sh

/-- CRC-8, polynomial 07h, initial value FFh, msb first (R47, R160, R186, R253, R254). -/
def crc8 (bs : List Bool) : Nat := bs.foldl (crcBit 8 0x07) 0xFF

/-- A frame of `n` bits followed by the CRC-8 over them. -/
def withCrc8 (n x : Nat) : Nat := x * 256 + crc8 (bitsMsb n x)

/-- CRC-64 with polynomial 42F0_E1EB_A9EA_3693h and a given start value, msb first (R200). -/
def crc64 (start : Nat) (bs : List Byte) : Nat :=
  bs.foldl (fun c b => (bitsMsb 8 b.toNat).foldl (crcBit 64 0x42F0E1EBA9EA3693) c) start

/-- The 64-bit guard of NVMe's protection information (R311): CRC-64 with polynomial AD93_D235_94C9_3659h, reflected in and out, from all ones, and
inverted. PRESUMED: the manual names the guard by its width (notes/assumptions/34.md). -/
def guard64 (bs : List Byte) : Nat :=
  let c := bs.foldl (fun c b => (bitsMsb 8 b.toNat).reverse.foldl (crcBit 64 0xAD93D23594C93659) c) (2 ^ 64 - 1)
  2 ^ 64 - 1 - (List.range 64).foldl (fun n i => n * 2 + ofBool (bitOf c i)) 0

/-- `k` bytes, the most significant first. -/
def toBe (k x : Nat) : List Byte := (toLe k x).reverse

/-! ### Sparse lists: (key, value) pairs, keys strictly rising -/

/-- The value at a key, if listed. -/
def look {β : Type} (k : Nat) : List (Nat × β) → Option β
  | [] => none
  | (a, v) :: t => if a = k then some v else look k t

/-- The list with a value placed at a key, order kept. -/
def place {β : Type} (k : Nat) (v : β) : List (Nat × β) → List (Nat × β)
  | [] => [(k, v)]
  | (a, w) :: t => if k < a then (k, v) :: (a, w) :: t else if k = a then (k, v) :: t else (a, w) :: place k v t

/-- The list without a key. -/
def remove {β : Type} (k : Nat) : List (Nat × β) → List (Nat × β)
  | [] => []
  | (a, w) :: t => if a = k then t else (a, w) :: remove k t

/-- The value at a key, or the default of an unlisted key. -/
def fetch {β : Type} (d : β) (m : List (Nat × β)) (k : Nat) : β := (look k m).getD d

/-- Store a value; a value equal to what the unlisted key reads as removes the entry, so that equal contents are equal
lists. -/
def store {β : Type} [DecidableEq β] (d : β) (m : List (Nat × β)) (k : Nat) (v : β) : List (Nat × β) :=
  if v = d then remove k m else place k v m

/-- Every key of the list is above `k`, and the keys rise strictly. -/
def risingFrom {β : Type} : Nat → List (Nat × β) → Bool
  | _, [] => true
  | k, (a, _) :: t => decide (k ≤ a) && risingFrom (a + 1) t

/-- The canonical form of a sparse list: keys strictly rising and no entry equal to its key's default. -/
def canonical {β : Type} [DecidableEq β] (d : Nat → β) (m : List (Nat × β)) : Bool :=
  risingFrom 0 m && m.all (fun e => decide (e.2 ≠ d e.1))

/-! ### Rising lists of numbers -/

/-- Put a number into a rising list. -/
def insertN (k : Nat) : List Nat → List Nat
  | [] => [k]
  | a :: t => if k < a then k :: a :: t else if k = a then a :: t else a :: insertN k t

/-- Put the numbers lo, lo + 1, ... hi - 1 into a rising list. -/
def insertRun (lo hi : Nat) (l : List Nat) : List Nat :=
  l.filter (fun x => decide (x < lo)) ++ (List.range (hi - lo)).map (fun i => lo + i) ++ l.filter (fun x => decide (hi ≤ x))

/-- The pieces of bytes [a, a + n) that lie in one granule of `g` bytes each: (address, length). -/
def pieces (g a n : Nat) : List (Nat × Nat) :=
  if n = 0 ∨ g = 0 then []
  else
    (List.range ((a + n - 1) / g - a / g + 1)).map (fun i =>
      let lo := max a (g * (a / g + i))
      (lo, min (a + n) (g * (a / g + i + 1)) - lo))

/-! ### Byte memories -/

/-- A memory: (address, byte) pairs in the canonical form of `Memory.wf`; an unlisted address reads as the memory's
default byte. -/
abbrev Memory := List (Nat × Byte)

/-- The canonical form of a memory whose unlisted bytes read as `d`. -/
abbrev Memory.wf (d : Byte) (m : Memory) : Bool := canonical (fun _ => d) m

/-- One byte of a memory. -/
def Memory.read (d : Byte) (m : Memory) (a : Nat) : Byte := fetch d m a

/-- Store one byte. -/
def Memory.write (d : Byte) (m : Memory) (a : Nat) (b : Byte) : Memory := store d m a b

/-- `n` bytes from address `a`. -/
def Memory.readN (d : Byte) (m : Memory) (a n : Nat) : List Byte :=
  (List.range n).map (fun i => Memory.read d m (a + i))

/-- Store a byte string from address `a`. -/
def Memory.writeN (d : Byte) (m : Memory) (a : Nat) : List Byte → Memory
  | [] => m
  | b :: t => Memory.writeN d (Memory.write d m a b) (a + 1) t

/-- Return bytes [a, a + n) to the default: the memory lists none of them. -/
def Memory.wipe (m : Memory) (a n : Nat) : Memory := m.filter (fun e => !(decide (a ≤ e.1) && decide (e.1 < a + n)))

/-- Replace element `i` of a list, leaving the list alone where it has none. -/
def setAt {α : Type} : List α → Nat → α → List α
  | [], _, _ => []
  | _ :: t, 0, v => v :: t
  | a :: t, i + 1, v => a :: setAt t i v

end Sys2Proof.Machine
end

