-- ==== Sys2Proof/Machine/Types.lean ====
section
/-!
DEFINITION. The pieces of the machine's state that are not registers of the register map: one structure for each unit's queues, counters and internal state, named by the rules of spec/ that give them.
-/

namespace Sys2Proof.Machine

/-! ### Tsuku links (file 01) -/

/-- One word of a MSG receive queue: the word, whether it is the last of its packet, and whether its stored parity is bad (R30). -/
structure QWord where
  data : DWord
  last : Bool
  bad : Bool
  deriving DecidableEq, Repr

/-- One Tsuku link end. `fails`: consecutive failures of the flit in hand (R24). `retrains`: consecutive failed retraining
attempts (R25). `rx`: the eight MSG receive queues (R27-R32). `txLo`, `tx`, `txBy`: the staged low halves, the packets being
built, and the core that has begun each, 17 where none is known (R34, R411). -/
structure Link where
  fails : Nat
  retrains : Nat
  rx : Vector (List QWord) 8
  txLo : Vector Word 8
  tx : Vector (List DWord) 8
  txBy : Vector Nat 8
  deriving DecidableEq, Repr

/-- A MSG packet under way: receiving link end, queue, the µs its header carries (file 01, R64), and words (R28). -/
structure MsgPkt where
  dst : Nat
  q : Nat
  stamp : Nat
  words : List DWord
  deriving DecidableEq, Repr

/-! ### Wedge lines and calibration (file 02) -/

/-- What a forward wedge-line frame carries (R47). -/
structure FwdFrame where
  mark : Nat          -- instant of the marker's final edge, 78.125 ps
  wedge : Nat
  spinLock : Bool
  shockTrip : Bool
  spinRun : Bool
  rvx : Nat
  rvy : Nat
  shock : Nat
  vmot : Nat
  deriving DecidableEq, Repr

/-- The KPR's prediction for one channel (R46, R48): per-head offsets in 78.125 ps and learned flags, the head in use, the
run of good wedges, the run of wedges without a good return frame carrying FOUND 1, the run of frames missing or failing CRC, the last predicted tick, the frame under way, the last detected tick, the last marker sent (R552), and whether the prediction was built on the
spindle's angle. -/
structure WedgeLine where
  offset : Vector Int 6
  learned : Vector Bool 6
  head : Nat
  run : Nat
  noFound : Nat
  bad : Nat
  predicted : Nat
  frame : Option FwdFrame
  detected : Option Nat
  lastMark : Option Nat
  byAngle : Bool
  deriving DecidableEq, Repr

/-- One calibrating unit (R58-R63): START deferred, the operating time at which the last calibration started, the die
temperature at the last completion, what the runs made so far measured, the selection in force, the operating time at which the calibration
became due, whether a calibration has started and not completed, an adopted selection that waits for the tick with its cell table, and a slice
that has been granted and starts at the next tick. -/
structure Cal where
  startPend : Bool
  lastStart : Option Nat
  lastTemp : Int
  runs : List (List Int)
  selection : Nat
  dueAt : Nat
  live : Bool
  next : Option (Nat × List Nat)
  granted : Bool
  deriving DecidableEq, Repr

/-- A request waiting for a shared unit (R55, R56): the unit, and the row of the arbitration order. -/
structure Waiting where
  unit : Nat
  row : Nat
  deriving DecidableEq, Repr

/-! ### Position sensing (file 04) -/

/-- A channel die's return frame (R48): the tick its edge follows by 40.0 ns, in 0.5 ps, and what it carries. -/
structure RetFrame where
  tick : Nat
  wedge : Nat
  found : Bool
  wgate : Bool
  headSw : Bool
  deriving DecidableEq, Repr

/-- A valid POS (R116): its value in 2^-32 track and the wedge count at which it was found. -/
structure PosAt where
  x : Int
  at_ : Nat
  deriving DecidableEq, Repr

/-- The DEMOD unit of one channel die. Times are in the 0.5 ps of the TDC. `due`: register writes that take effect at
the next tick, in order (R129, R136); `srch`: SEARCH is due with them. `gate`: the servo gate is open (R105). `pred`, `predWedge`: the predicted tick and
wedge number (R106, R107). `last`: the last detected tick and its wedge number; `since`: wedges since it; `period`: the
wedge period of R102. `taken`: the wedge takes no further mark since the gate opened at `gateAt`. `found` and the following three describe the present wedge (R106, R107). `run`: consecutive SAMs
within the window in search mode (R108). `pos1`, `pos0`: the last valid POS and the one before it (R116). `pos`: POS in
2^-32 track, `posValid`, `idTrack` and `pesValid` of the last wedge. `rro`: the RRO cache (R124) and the track it belongs
to. `fwdBad`: consecutive discarded forward frames (R51). `shockTrip`, `spinLock`: of the wedge's forward frame. `ret`: the
return frame last sent, `headSw`: a head switch took effect since. `telem`: wedges since the last telemetry record. `calTemp`, `corr`: the diode's reading at the
last calibration of the TDC and the correction in force (R121). `cells`: the hits of the chain's cells, from which the cell and vernier table
follows (R117, R119). `ticked`: the wedge's tick has passed since the servo gate opened. `usAt`: MTIME as the last tick passed (R407). -/
structure Demod where
  due : List (Nat × Word)
  srch : Bool
  gate : Bool
  pred : Nat
  predWedge : Nat
  last : Option (Nat × Nat)
  since : Nat
  period : Option Nat
  wedges : Nat
  found : Bool
  tick : Nat
  wedge : Nat
  wnumPred : Bool
  run : Nat
  pos1 : Option PosAt
  pos0 : Option PosAt
  pos : Int
  posValid : Bool
  idTrack : Option Nat
  pes : Int
  pesValid : Bool
  rro : List (Nat × Nat)
  rroTrack : Int
  fwdBad : Nat
  shockTrip : Bool
  spinLock : Bool
  ret : Option RetFrame
  headSw : Bool
  telem : Nat
  calTemp : Int
  corr : Int
  cells : List Nat
  taken : Bool
  gateAt : Nat
  ticked : Bool
  usAt : Nat
  deriving DecidableEq, Repr

/-! ### Servo control (file 05) -/

/-- A planned seek (R141): the start state (x̂ in 2^-32 track, v̂ in 2^-32 track per wedge), the target, the limits, and the
wedges since the plan began. The reference of every wedge follows from these. -/
structure Plan where
  x0 : Int
  v0 : Int
  target : Int
  aMax : Int
  jerkW : Nat
  vMax : Nat
  k : Nat
  deriving DecidableEq, Repr

/-- The delays of one biquad: x₋₁, x₋₂, y₋₁, y₋₂, each S16.32 (R134). -/
structure Biquad where
  x1 : Int
  x2 : Int
  y1 : Int
  y2 : Int
  deriving DecidableEq, Repr

/-- The loop engine of one channel die. `cmd`: the command waiting for the tick, with KEEP (R132). `next`: a mode decided for
the next tick. `tgt`: the target in force (R131), 2^-32 track. `head`: the head in use. `x`, `v`, `est`: the estimator and
how many valid positions it has had since it was reset (R132, R139, R157). `integ`, `f`, `m`, `vcm`, `ma`, `ff`: the states
of the law (R133, R134); `sens`, `dsens`: the last sensor feed-forward term, if the sensor terms have been formed since a restart, and its change
since the wedge before (R143), both exact (R134). `newU`, `newM`, `newD`: the wedge's result waiting for
φ0; `delta`: Δ in force (R143). `latched`: the φ0 of the wedge has passed. `discard`: the result was discarded (R151). `plan`: the seek in progress. `feTrips`: trips
since the last GO (R146). `settle`, `sinceGo`: R142. `coast`, `validRun`, `lostRun`, `m0`: R149, R157. `clean`, `hold`: the
wedges of R147 without an unsafe condition and still under SHOCK_HOLD. `ovrRun`, `handover`: R153. `restarting`, `shadow`,
`noShadow`: R155, R159. `velOut`: the VEL phase of an unload (R158). `fwd`: the last good forward frame. `zone`: the servo
zone the coefficients belong to. `derive`: a derivation is due at the next tick (R135). `preset`: the output the next wedge's integrator is preset to (R145).
`maClamped`: m was clamped in the wedge (R147). `plant`, `km`, `bw`: PLANT, PLANT_MA.KM and BW as the coefficients in force have them, and
`kv` the Kv last formed (R135, R136). `tickMode`: the mode in force at the wedge's tick (R147). `waiting`: register accesses that wait for a restart to
complete, oldest first: the address, and the value of a write (R155). -/
structure Loop where
  cmd : Option (Nat × Bool)
  next : Option Nat
  tgt : Int
  head : Option Nat
  x : Int
  v : Int
  est : Nat
  integ : Int
  f : Int
  m : Int
  vcm : List Biquad
  ma : List Biquad
  ff : Biquad
  sens : Option Rat
  dsens : Rat
  uff : Int
  newU : Int
  newM : Int
  newD : Rat
  delta : Rat
  latched : Bool
  discard : Bool
  plan : Option Plan
  feTrips : Nat
  settle : Nat
  sinceGo : Nat
  coast : Nat
  validRun : Nat
  lostRun : Nat
  m0 : Int
  clean : Nat
  hold : Nat
  ovrRun : Nat
  handover : Bool
  restarting : Bool
  shadow : Nat
  noShadow : Bool
  velOut : Bool
  fwd : Option FwdFrame
  zone : Option Nat
  derive : Bool
  preset : Option Int
  maClamped : Bool
  plant : Nat
  km : Nat
  bw : Nat
  kv : Rat
  tickMode : Nat
  waiting : List (Nat × Option Nat)
  deriving DecidableEq, Repr

/-- What the computation of a wedge starts from (R151): the loop engine, and the fields of LOOP_STAT that the computation writes. -/
structure LoopPre where
  loop : Loop
  feCnt : Nat
  vcmSat : Nat
  maSat : Nat
  presetClamp : Nat
  deriving DecidableEq, Repr

/-- The hold loop of one channel die (R154): its copy of PLANT.KV, the integrator, the last valid error, whether the
integrator has been preset, and whether it has computed an output for the coming φ0. -/
structure Hold where
  kv : Nat
  integ : Int
  err : Int
  preset : Bool
  out : Int
  deriving DecidableEq, Repr

/-- The KPR SHOCK unit (R150): whether the last sample lay above THR, the latest shock sample, and for each channel whether
its next forward frame carries SHOCK_TRIP. -/
structure Shock where
  above : Bool
  shock : Nat
  trip : Vector Bool 4
  deriving DecidableEq, Repr

/-! ### The read channel (file 07) -/

/-- The part of a sample-buffer slot that one fragment fills (R218): its equalised S3.5 samples, a byte each, the index of the first sample of the
codeword's data in them, and the bits of part B that the fragment holds. The first fragment's samples begin where SM1's window opens and hold
part A and SM2 before part B; a continuation's begin four samples before its data. -/
structure Piece where
  samples : List Byte
  frame : Nat
  data : Nat
  deriving DecidableEq, Repr

/-- The settings that a retry set changes (R226): the AGC target and the filter's boost by so many dB, the target by so many places, reader 1 alone,
TIM_TRK halved. -/
structure ReadPath where
  ampDb : Int
  boostDb : Int
  tgt : Nat
  only1 : Bool
  halfTrk : Bool
  deriving DecidableEq, Repr

/-- A sector being read or decoded: the descriptor's fields (R222) and what its marks and fragments gave (R217, R223).
`slip`: of the last attempt. `start`, `len`: the window bit at which the present fragment starts, and the
channel bits of the sector from there on (R195, R196). `pieces`: its samples in the slot, fragment by
fragment. `clips`: the ADCs that have clipped in it (R205). `phase`: how far the timing loop stood from the bit grid at the end of its last fragment,
in 2^-32 bit (R207). -/
structure RdSec where
  seed : Nat
  paw : Nat
  dest : Nat
  soft : Nat
  id : Nat
  tagChk : Bool
  seq : Bool
  frags : Nat
  sm1 : Bool
  sm2 : Bool
  dist : Bool
  fmMiss : Bool
  timing : Bool
  slip : Nat
  start : Nat
  len : Nat
  pieces : List Piece
  clips : List Nat
  phase : Int
  deriving DecidableEq, Repr

/-- A recovery (R224-R229): the descriptor, the last step, the revolutions of the present step, combined revolutions, the
offset in use, the target to restore, whether ABORT was written, whether a forbidden write ended it, the failure of the last
attempt, the time of GO in the µs of TSTAMP, the settings in force (R226), the 16-bit sums of the combining accumulator by fragment (R218,
R227), whether SEEK_DONE is awaited (R228), the iterations of the last attempt, whether soft output was written (R215), and whether step 5 has moved
the target (R228). -/
structure Rcv where
  sec : RdSec
  last : Nat
  revs : Nat
  added : Nat
  off : Nat
  origLo : Nat
  origHi : Nat
  abort : Bool
  foul : Bool
  result : Nat
  start : Nat
  flagsNow : RdSec
  path : ReadPath
  acc : List (List Int)
  seek : Bool
  iter : Nat
  soft : Bool
  moved : Bool
  deriving DecidableEq, Repr

/-- DETECT and LDPC of one channel die: the read gate, the open sector, the stream slots (oldest first), the held slot's
slip search, the recovery, the soft job's iteration limit, the format waiting for the tick (R193), the timing loop's frequency integrator in
2^-32 (R207), the boost of each reader's filter in dB (R203, R226), and the adapted taps, finer than their registers show them (R211). -/
structure Detect where
  gate : Bool
  op : Option RdSec
  slots : List RdSec
  held : Option RdSec
  rcv : Option Rcv
  soft : Option Nat
  fmt : Option Nat
  freq : Int
  boost : List Nat
  taps : List (List Rat)
  deriving DecidableEq, Repr

/-! ### Writing, assist, fly height and the preamp port (file 08) -/

/-- A consumed write descriptor in a codeword buffer (R232, R233): `enc` says its encoding has ended and `crcBad` that the
supplied CRC was wrong; `bits` is the scrambled codeword (R199, R202). -/
structure WrCode where
  seed : Nat
  paw : Nat
  src : Nat
  id : Nat
  crcGen : Bool
  seq : Bool
  shape : Nat
  enc : Bool
  crcBad : Bool
  bits : List Bool
  deriving DecidableEq, Repr

/-- The sector being written: its codeword, the fragments begun and written in full, whether a fragment is being emitted,
the completion flags (R237), the sum and number of SP - AMON samples, the window bit at which the present fragment starts, and the
codeword bits of part B that no earlier fragment has sent. -/
structure WrOpen where
  code : WrCode
  begun : Nat
  frags : Nat
  emit : Bool
  hop : Bool
  phClip : Bool
  htrRd : Bool
  asSum : Int
  asN : Nat
  start : Nat
  left : List Bool
  deriving DecidableEq, Repr

/-- A time PAn_WG was 1 (R239), in bits of this wedge's fragment window: when it rose, when it fell or will, and whether an interlock dropped it, at a bit
the model does not hold. -/
structure GateSpan where
  rose : Int
  fell : Option Int
  dropped : Bool
  deriving DecidableEq, Repr

/-- WRITE of one channel die: codeword buffers in order, the open sector, whether PAn_WG was 1 since the last servo field
ended (R48), the precompensation level waiting for the tick (R238), the channel bits that PAn_WD sends in the last write-gate interval
with the delay of each one's transition in 1/64 bit (R195, R238), the window bit of the first of them, and the times PAn_WG was 1, the latest first
(R239, R243). -/
structure WriteU where
  bufs : List WrCode
  op : Option WrOpen
  wgSeen : Bool
  precomp : Bool
  line : List Bool
  delays : List Int
  lineAt : Nat
  spans : List GateSpan
  deriving DecidableEq, Repr

/-- ASSIST of one channel die (R243-R247): the last usable sample with its D_w, consecutive low samples, and the SP at which
CORR of each head was made, which is the SP in force (R242), and the output's codes in this wedge with the window bits at which they begin
(R245). -/
structure Assist where
  last : Option (Nat × Nat)
  low : Nat
  spOf : Vector Nat 6
  wave : List (Int × Nat)
  deriving DecidableEq, Repr

/-- A contact calibration (R250): the head, results of the sweeps ended, the power in force (U8.4 mW), revolutions made at
the start power, the sum and number of their samples of ECS, whether it has been aborted, and whether the heater is to return to P_R before
the next sweep. -/
structure FlyCal where
  head : Nat
  results : List (Option Nat)
  power : Nat
  revs : Nat
  base : Nat
  abort : Bool
  baseN : Nat
  back : Bool
  deriving DecidableEq, Repr

/-- FLY of one channel die: the calibration, the heads whose heater the preamp last had at write power, the head it has selected, and the TSTAMP at
which that head was selected or its heater last changed between the powers (R249). -/
structure Fly where
  cal : Option FlyCal
  atWrite : List Nat
  changed : Nat
  onHead : Option Nat
  deriving DecidableEq, Repr

/-- A frame waiting for the preamp port: RNW, HSEL, ADDR, DATA (R253). -/
structure PaFrame where
  rnw : Bool
  hsel : Nat
  addr : Nat
  data : Nat
  deriving DecidableEq, Repr

/-- What a frame in a slot was sent for (R257). -/
inductive PaItem where
  | head (k : Nat) | htr (k : Nat) | temp | reg (arm : Bool) | queued (f : PaFrame) | ecs | status
  deriving DecidableEq, Repr

/-- PREAMP of one channel die: the KA bit last sent and whether it advances (R253), consecutive bad replies (R251, R260), the
head whose HEAD frame has gone out for the coming tick, one whose HEAD frame is still owed after a tick, and the head about to be selected whose
HTR has gone out (R258), whether HTR of the selected head is due, the TSTAMP of the last TEMP read, the queued register writes, the firmware
frame, the preamp temperature, the ECS samples of the revolution, the last frame sent, and whether AMON of the last good reply has
still to be used (R243). -/
structure Preamp where
  ka : Bool
  advance : Bool
  bad : Nat
  headSent : Option Nat
  headLate : Option Nat
  htrHead : Option Nat
  htrDue : Bool
  tempAt : Option Nat
  regs : List (PaFrame × Bool)
  queued : Option PaFrame
  temp : Int
  ecsSum : Nat
  ecsN : Nat
  sent : Option PaFrame
  fresh : Bool
  deriving DecidableEq, Repr

/-! ### The Lomun sequencer (file 13) -/

/-- Where a sequencer stands between microwords (R428, R431, R432). -/
inductive LmState where
  | stopped | run | waitTick | waitCond | faulted | verify
  deriving DecidableEq, Repr

/-- The Lomun sequencer of one channel die: where it stands, the next word, the call stack, the flags Z, N and C, the action
queue (DCMD, ANCHOR and AT of each entry, R430), a START waiting for the servo gate (R425), LM_ENTRY as the servo section found it
(R431), the control store and SIGNET's retained copy of the Sibourn words (R424, R426; an unlisted word is 0), the staged
LM_LOAD_DATA words, whether a RELOAD runs, and the instant of the last action that left the queue, in bits of this wedge's fragment window (R427).
G0-G15 are the LM_G registers. -/
structure Lomun where
  st : LmState
  pc : Nat
  stack : List Nat
  z : Bool
  n : Bool
  c : Bool
  queue : List (Nat × Nat × Nat)
  startDue : Bool
  entry : Nat
  store : List (Nat × BitVec 256)
  kept : List (Nat × BitVec 256)
  stage : Vector Word 8
  reload : Bool
  prevAt : Option Int
  deriving DecidableEq, Repr

/-! ### Spindle and supervisory lane (file 06) -/

/-- What the motor context drives within BRAKE (R176, R179): the speed hold, FOC braking, the zero vector below OBS_MIN or
after loss of synchronism, the limit at VMOT_LIMIT with the zero vector or with the outputs off. -/
inductive Brake where
  | hold | foc | zero | limitZero | limitOff
  deriving DecidableEq, Repr

/-- What the motor context drives (R164, R166, R179): the integrators of the two current loops (2^-40 mV) and of the speed loop (2^-40 mA); the
torque command that the speed loop's integrator is preset to; the torque command last in force before HOLD_ANGLE (mA); the speed held in
BRAKE (2^-16 rpm); the last voltage vector (mV) and its angle; the times for which the high and the low switch of each phase are on in the
period (156.25 ps); and the PWM periods since the zero vector of BRAKE began, modulo 100 ms. -/
structure Drive where
  integD : Int
  integQ : Int
  speedInt : Int
  preset : Option Int
  held : Int
  target : Nat
  vd : Int
  vq : Int
  vang : Nat
  gates : List (Nat × Nat)
  zeroN : Nat
  deriving DecidableEq, Repr

/-- The wedge reference and the spindle angle (R47, R170, R171, R174): the time of the present PWM period (78.125 ps), the pole-pair sector
the electrical angle lies in, the wedges by which the angle has been aligned to the numbers on the media, the reference ticks since power-on
reset, the number of the last, and the reference channel whose head of unlearned offset returned the source to COARSE. -/
structure WedgeRef where
  clock : Nat
  sector : Nat
  align : Nat
  count : Nat
  wedge : Nat
  coarse : Option Nat
  deriving DecidableEq, Repr

/-- The SPIN unit. `cmds`: commands waiting for the next PWM period (R176). `pendStart`: BRAKE has a start pending.
`origin`: the state HOLD_ANGLE came from. `starting`: START was written and LOCKED not reached. `crossN`, `crossSum`, `crossPrev`, `crossFwd`, `crossRev`:
crossings of SENSE, the sum of their intervals in ns, the last one's place in the electrical turn, and whether every interval so far ran forward / in reverse (R177).
`senseAgain`: SENSE has repeated once. `relock`: consistent crossings in HOLD_ANGLE (R181). `losRun`, `okRun`: consecutive
periods failing and passing the checks of R169. `skipRun`: R168. `lockRun`: reference ticks within LOCK_WIN.
`accelRevs`: revolutions within 0.1 % (R176). `ramp`: speed of the open-loop vector in 1/40,000 rpm (R180). `attempts`: failed handovers (R180). `brake`, `genHold`: R176, R183. `theta`
(U0.32), `omega` (2^-16 rpm, signed), `okTheta`, `okSector`, `okOmega`: the observer's state and that of its last good period, with the pole-pair
sector its angle lay in. `torque`:
torque current in mA. `out`, `nextOut`: the high-side times of the three phases in 156.25 ps of a half period, none with all
six outputs off, in force and for the next period (R165). `rotating`: R184. `vmot`: the last measured motor supply in mV. -/
structure Spin where
  cmds : List Nat
  pendStart : Bool
  origin : Nat
  starting : Bool
  crossN : Nat
  crossSum : Nat
  crossPrev : Nat
  crossFwd : Bool
  crossRev : Bool
  senseAgain : Bool
  relock : Nat
  losRun : Nat
  okRun : Nat
  skipRun : Nat
  lockRun : Nat
  accelRevs : Nat
  ramp : Nat
  attempts : Nat
  brake : Brake
  genHold : Bool
  theta : Nat
  omega : Int
  okTheta : Nat
  okSector : Nat
  okOmega : Int
  torque : Int
  out : Option (Nat × Nat × Nat)
  nextOut : Option (Nat × Nat × Nat)
  rotating : Bool
  vmot : Nat
  drv : Drive
  ref : WedgeRef
  deriving DecidableEq, Repr

/-- A command of the supervisory lane (R186): CMD, LANES, INDEX, VALUE, and whether the boot sequence sent it. -/
structure ClsCmd where
  cmd : Nat
  lanes : Nat
  index : Nat
  value : Nat
  boot : Bool
  deriving DecidableEq, Repr

/-- The CLASPS unit: commands the hardware itself sends, the boot sequence of R189, the queued command (R188), SEQ, the
exchange under way with its frame, consecutive beats without a good reply (R191), the last STATUS, a wrong PS_ID, and whether the present run of beats without a good reply has
been reported. -/
structure Clasps where
  urgent : List ClsCmd
  boot : List ClsCmd
  queued : Option ClsCmd
  seq : Nat
  sent : Option (ClsCmd × Nat)
  miss : Nat
  status : Nat
  badId : Bool
  silent : Bool
  deriving DecidableEq, Repr

/-! ### Memories of the HUB, Stacks and CIPHER (file 12) -/

/-- What the check bits of a code word say where they are not the encoder's: given raw by WRITE_RAW (R400), the poison
pattern (R398), or an upset the scrubber or a read found uncorrectable and left as it is (R399). -/
inductive Mark where
  | raw (check : Nat) | poison | bad
  deriving DecidableEq, Repr

/-- A line of the shared cache (R388, R390): physical address / 128, dirty, age, and its 128 bytes. -/
structure ScLine where
  line : Nat
  dirty : Bool
  age : Nat
  data : List Byte
  deriving DecidableEq, Repr

/-- STACKS' record of a buffer (R379-R381): its GEN, its owners' names, and the µs its record carries (R64), with the 16 bytes that hold it in the
table; a buffer without owners is free. -/
structure Buf where
  gen : Nat
  owners : List Nat
  stamp : Nat
  bytes : List Byte
  deriving DecidableEq, Repr

/-- The record of a buffer that STACKS has written none for: 16 bytes of zeros. -/
def Buf.fresh : Buf := ⟨0, [], 0, List.replicate 16 0⟩

/-! ### The host interface and TAGS (files 10 and 11) -/

/-- The states of a tag in use (R338); a tag that is Completed is free. -/
inductive TagSt where
  | fetched | dispatched | media | completing
  deriving DecidableEq, Repr

/-- A command's tag (R338). `ctrl`: CNTLID, FFFFh for the management endpoint. `sqe`: the submission entry. `fseq`: R342.
`wrts`: its range entries. `bufs`: handles of the Stacks buffers it owns as a reader (R345). `need`: buffers it still waits
for (R384). `begun`: its range check or data transfer has begun. `hits`: blocks of its range, by number, that the front end
serves, with the buffer that holds its data (none for zeros) and its metadata (R345). `dw0`, `dw1`, `status`: the completion.
`data`: what a management command's response carries (R336). `badLba`: the first failing LBA, where the state names it (R314).
`silent`: posting is suppressed (R367). `detached`: R368. `flush`: the S of R352 by namespace. `acts`: the controller the command
acts for, `ctrl` itself or the one a management command names (R336). -/
structure Tag where
  st : TagSt
  ctrl : Nat
  sqid : Nat
  sqe : List Byte
  fseq : Nat
  wrts : List Nat
  bufs : List Nat
  need : Nat
  begun : Bool
  hits : List (Nat × (Option Nat × List Byte))
  dw0 : Nat
  dw1 : Nat
  status : Nat
  silent : Bool
  detached : Bool
  flush : List (Nat × Nat)
  acts : Nat
  data : List Byte
  badLba : Option Nat
  deriving DecidableEq, Repr

/-- What a range entry's blocks hold (R342, R345). -/
inductive WrtKind where
  | write | zeroes | dealloc
  deriving DecidableEq, Repr

/-- An entry of the write range table (R342): namespace index, first DLBA, blocks, FSEQ, kind, HELD, CSEQ (R352), the handles of
its buffers, the 64 B metadata of each block, and while its data arrives the key its transfer began with (R404). -/
structure Wrt where
  ns : Nat
  dlba : Nat
  count : Nat
  fseq : Nat
  kind : WrtKind
  held : Bool
  cseq : Option Nat
  bufs : List Nat
  md : List Byte
  key : Option Nat
  deriving DecidableEq, Repr

/-- An I/O queue (R305): identifier, entries, its completion queue (a submission queue) or vector (a completion queue), and a submission
queue's priority class (R308): 0 urgent, 1 high, 2 medium, 3 low. -/
structure Queue where
  qid : Nat
  size : Nat
  link : Nat
  prio : Nat
  deriving DecidableEq, Repr

/-- A controller (R298-R304): CC.EN, CSTS.RDY, CSTS.SHST, CSTS.CFS; the queue pairs granted from the reserve and the pool; its
I/O queues; held Asynchronous Event Requests and events not yet reported; feature values by identifier; its host identifier; the
Error Information log, newest first; the Changed Namespace List; reservation notifications not yet read (type, NSID) and how many
there have been (R328); CC as the host wrote it; the entries of its two admin queues (R302); the submission queue fetched from last, and what
is left of the weights of its high, medium and low class (R308). -/
structure Ctrl where
  en : Bool
  rdy : Bool
  shst : Nat
  cfs : Bool
  granted : Bool
  fromReserve : Nat
  fromPool : Nat
  sqs : List Queue
  cqs : List Queue
  aers : List Nat
  events : List Nat
  feats : List (Nat × Nat)
  hostId : Nat
  errors : List (List Byte)
  changed : List Nat
  resLog : List (Nat × Nat)
  resCount : Nat
  cc : Nat
  asq : Nat
  acq : Nat
  lastSq : Nat
  credit : Vector Nat 3
  deriving DecidableEq, Repr

/-- A namespace's state (R311, R318, R328, R352): LBA format 0-3, PI type with 4 for PI in the first bytes, extended LBA; whether it is
formatting; TLER and DULBE; CSEQ; the Changed Zone List; the reservation: type, holder, generation, PTPL, and registrants
(host identifier, key). -/
structure Ns where
  fmt : Nat
  pi : Nat
  ext : Bool
  formatting : Bool
  tler : Nat
  dulbe : Bool
  cseq : Nat
  changed : List Nat
  resType : Nat
  resHolder : Nat
  resGen : Nat
  ptpl : Bool
  regs : List (Nat × Nat)
  deriving DecidableEq, Repr

/-- Where the front end's rotation across the controllers stands (R308): the controller and the queue served, and the entries its burst has left. -/
structure Arb where
  ctrl : Nat
  sqid : Nat
  left : Nat
  deriving DecidableEq, Repr

/-- The front end's own state: tags and range entries by number; the last FSEQ; controllers; namespaces; NumVFs of the PFs; fetching
stopped; SMART bit 4 (R360, R366); the filler sectors of the Folio last finished, SEED and information part (R264); the bytes last
transferred to a host, and those of a metadata buffer of its own (R311); the completion entry last posted; the bytes last sent by the management endpoint; configuration values
of the management endpoint; the saved feature values; how far the SPDM exchange has come (R337); the Volatile Write Cache feature
(R319); notices waiting for room in the dispatch ring (R350); the power state set on each PF (R320); the present millisecond of TSTAMP and the commands fetched in it (R525);
the bytes of the last Security Send; the messages of the SPDM exchange that later signatures cover: the negotiation, the certificate
requests, and the measurement requests (R337, R458); the SPDM response a Security Receive fetches; the MCTP endpoint identifier (R335); what the
health status change flags were last cleared at (R336); the arbitration across controllers (R308). -/
structure HostIf where
  tags : List (Nat × Tag)
  wrts : List (Nat × Wrt)
  fseq : Nat
  ctrls : Vector Ctrl 64
  ns : Vector Ns 16
  numVfs : Vector Nat 2
  stopped : Bool
  lost : Bool
  fill : List (Nat × List Byte)
  out : List Byte
  outMd : List Byte
  cqe : List Byte
  mgmt : List Byte
  mgmtCfg : List (Nat × Nat)
  saved : List (Nat × Nat)
  spdm : Nat
  vwc : Bool
  notices : List (List Byte)
  powerOf : List (Nat × Nat)
  fetchMs : Nat
  fetched : Nat
  sec : List Byte
  vca : List Byte
  tb : List Byte
  tl : List Byte
  secOut : List Byte
  eid : Nat
  seen : List (Nat × Nat)
  arb : Arb
  deriving DecidableEq, Repr

/-- A dump of the protected set (R362): the header unit as it was written, each HELD entry with the data of its blocks, and the journal records. -/
structure Dump where
  header : List Byte
  entries : List (Wrt × List (List Byte))
  journal : List (List Byte)
  deriving DecidableEq, Repr

/-! ### The Accession Log (file 16) -/

/-- A record of the Accession Log (R499). -/
structure LogRec where
  optime : Nat
  pcycle : Nat
  tstamp : Nat
  sev : Nat
  cls : Nat
  source : Nat
  offset : Nat
  bit : Nat
  inst : Nat
  recno : Nat
  value : Nat
  detail : Nat
  deriving DecidableEq, Repr

/-- The Fatal causes of R496, in the order of R551's table. -/
inductive FatalCause where
  | crystal | link | tagCopies | tagTable | cores (c : Nat) | command
  deriving DecidableEq, Repr

/-! ### Cores (file 13) -/

/-- A core: registers (x0 is not kept), pc, mode, CSRs, the LR reservation (its line, by array and address, and the cycles since the LR; R406), a WFI in progress, the L1 caches as index to (line address, bytes) (R385), the event enables, why it last restarted and how often
(R407), the cause of the restart under way, the time of the last watchdog kick, and whether a wedge task is not yet acknowledged (R435). -/
structure Core where
  x : Vector DWord 31
  pc : DWord
  user : Bool
  mie : Bool
  mpie : Bool
  mppUser : Bool
  mprv : Bool
  tw : Bool
  ie : DWord
  mtvec : DWord
  mscratch : DWord
  mepc : DWord
  mcause : DWord
  mtval : DWord
  mcycle : DWord
  minstret : DWord
  inhibit : Nat
  pmpcfg : Vector Nat 16
  pmpaddr : Vector DWord 16
  timecmp : DWord
  inject : Nat
  chkCause : DWord
  chkAddr : DWord
  mchk : Bool
  even : BitVec 512
  resv : Option (Nat × Nat)
  wfi : Bool
  bootCause : Nat
  warm : Nat
  l1i : List (Nat × (Nat × List Byte))
  l1d : List (Nat × (Nat × List Byte))
  restart : Nat
  kick : Nat
  task : Bool
  deriving DecidableEq, Repr

/-! ### Boot, SIGNET, update and debug (files 14 and 15) -/

/-- SIGNET: the operation under way (OP of SIG_CMD); the entry log of the record (R447); the reasons of signings not yet made (R448);
the µs at which stage 7 ended; the reservation end E (R452); whether the next bottom tree is ready (R453); the signed records in the
KPR's two buffers (R456); the running images' VERSIONS (R455); whether an alternate was used and debug unlocked since boot; signings in
this boot (R455 SEQ). -/
structure Signet where
  job : Option Nat
  entries : List (List Byte)
  due : List Nat
  stage7 : Option Nat
  resEnd : Nat
  nextTree : Bool
  records : Vector (List Byte) 2
  versions : Vector Nat 8
  fallback : Bool
  debugged : Bool
  signings : Nat
  deriving DecidableEq, Repr

/-- An activation (R478-R481): the partition, 8 where only a Keeper copy is activated; the dies still to step, the one in progress first;
whether that one has been reloaded; the µs at which its step began and at which it was started; and the images activated so far: kind
and die. -/
structure Activation where
  part : Nat
  dies : List Nat
  loaded : Bool
  began : Nat
  started : Nat
  done : List (Nat × Nat)
  deriving DecidableEq, Repr

/-- The update engine: the operation under way (OP and TARGET), the Firmware Commit that waits for it with the operations that follow,
the activation, and the patch partition that runs. -/
structure Update where
  job : Option (Nat × Nat)
  commit : Option (Nat × List (Nat × Nat))
  act : Option Activation
  patchRun : Nat
  deriving DecidableEq, Repr

/-- Authenticated debug (R459-R463): the live challenge with the µs of its issue, and the token being checked. -/
structure Debug where
  chal : Option (List Byte × Nat)
  token : Option (List Byte)
  deriving DecidableEq, Repr

/-! ### The log, power and pins (files 16, 17 and 18) -/

/-- ALOG and the Fatal sequence (R497, R502-R506): the µs of the FREEZE in force; the copy being written (its sequence number); the sequence number of the last
copy;
the snapshot of Get Log Page C1h; the Fatal sequence under way with the µs of its cause, whether its retract time has passed and whether its dump has ended;
and Fatal sequences in this power cycle. -/
structure LogUnit where
  frozen : Option Nat
  copy : Option Nat
  seq : Nat
  snap : List Byte
  fatalAt : Option Nat
  retracted : Bool
  dumped : Bool
  fatals : Nat
  deriving DecidableEq, Repr

/-- States of a power domain (R508). -/
inductive PdState where
  | off | ret | dem | on
  deriving DecidableEq, Repr

/-- LADDER (R510-R517): the state of each domain; a command waiting for a sequence to end; whether the sequence under way is an entry;
a wake has come during that entry (R516); a power-loss warning waits for the exit from rung 1 or 2 (R517). -/
structure Ladder where
  pd : Vector PdState 84
  queued : Option Nat
  entry : Bool
  abort : Bool
  warned : Bool
  deriving DecidableEq, Repr

/-- The dump (R359-R366): a dump under way, 1 of a power-loss warning, 2 before a full boot, 3 in the Fatal sequence; and whether the HUB holds
itself in reset, after the dump a warning started, until the full boot that follows (R361, R363). -/
structure DumpUnit where
  run : Option Nat
  held : Bool
  deriving DecidableEq, Repr

/-- A core's flash command (R546): OP, flash address, memory address, length. -/
structure XsJob where
  op : Nat
  faddr : Nat
  maddr : Nat
  len : Nat
  deriving DecidableEq, Repr

/-- PERI and the TAP (R548, R549): the UART FIFOs, the instruction in force, the boundary-scan cells, and TEST_EN;
`phase`: how far the byte being sent has come, in 10^-7 of a byte; `gpio`: the levels of the GPIO pins. -/
structure Pins where
  rx : List Byte
  tx : List Byte
  ir : Nat
  cells : List Bool
  test : Bool
  phase : Nat
  gpio : BitVec 16
  deriving DecidableEq, Repr

/-! ### The structure image (file 03) -/

/-- An accepted structure image: its header, and the payload of each record (R75, R78). The accessors of ImageFields.lean
read the fields at the offsets R83-R96 give. -/
structure Image where
  header : List Byte
  dieEnable : List Byte
  actuators : List (List Byte)
  spindle : List Byte
  host : List Byte
  memory : List Byte
  flash : List Byte
  power : List Byte
  cache : List Byte
  events : List Byte
  coreRoles : List Byte
  storeProtect : List Byte
  expertGrants : List Byte
  thermal : List Byte
  clasp : List Byte
  format : List Byte
  deriving DecidableEq, Repr

end Sys2Proof.Machine
end

