-- ==== Sys2Proof/Machine/ImageFields.lean ====
section
/-!
DEFINITION. The fields of an accepted structure image, read at the offsets of R75 and R83-R96.
-/

namespace Sys2Proof.Machine

def Image.hwType (i : Image) : Nat := fieldLe i.header 0x008 4
def Image.flags (i : Image) : Nat := fieldLe i.header 0x00C 4
/-- FLAGS.ADVANCE: raise the OTP counter (R75, R81). -/
def Image.advance (i : Image) : Bool := bitOf i.flags 1
def Image.version (i : Image) : Nat := fieldLe i.header 0x020 4
def Image.rollback (i : Image) : Nat := fieldLe i.header 0x024 4

/-- CH_MASK (R83). -/
def Image.chMask (i : Image) : Nat := bitsOf (fieldLe i.dieEnable 0 1) 3 0

/-- The ACTUATOR record of actuator n (R84); the empty record where there is none. -/
def Image.actuator (i : Image) (n : Nat) : List Byte :=
  (i.actuators.find? (fun a => decide (fieldLe a 0 1 = n))).getD []
def Image.headMask (i : Image) (n : Nat) : Nat := bitsOf (fieldLe (i.actuator n) 1 1) 5 0
/-- Head position k of actuator n is present (R84). -/
def Image.headPresent (i : Image) (n k : Nat) : Bool := decide (k < 6) && bitOf (i.headMask n) k
def Image.preampKind (i : Image) (n : Nat) : Nat := fieldLe (i.actuator n) 2 1
def Image.assist (i : Image) (n : Nat) : Nat := fieldLe (i.actuator n) 3 1
def Image.readerMask (i : Image) (n : Nat) : Nat := bitsOf (fieldLe (i.actuator n) 4 1) 2 0
def Image.maFitted (i : Image) (n : Nat) : Bool := bitOf (fieldLe (i.actuator n) 5 1) 0
def Image.vcmFs (i : Image) (n : Nat) : Nat := fieldLe (i.actuator n) 6 2
def Image.headSel (i : Image) (n k : Nat) : Nat := fieldLe (i.actuator n) (8 + k) 1

/-! SPINDLE (R85). -/
def Image.rpm (i : Image) : Nat := fieldLe i.spindle 0 2
def Image.wedges (i : Image) : Nat := fieldLe i.spindle 2 2
def Image.polePairs (i : Image) : Nat := fieldLe i.spindle 4 1
def Image.motorClass (i : Image) : Nat := fieldLe i.spindle 5 1
def Image.ke (i : Image) : Nat := fieldLe i.spindle 6 2
def Image.rPhase (i : Image) : Nat := fieldLe i.spindle 8 2
def Image.lPhase (i : Image) : Nat := fieldLe i.spindle 10 2
def Image.iMax (i : Image) : Nat := fieldLe i.spindle 12 2
def Image.vmotNom (i : Image) : Nat := fieldLe i.spindle 14 2
def Image.vmotLimit (i : Image) : Nat := fieldLe i.spindle 16 2

/-! HOST (R86). -/
def Image.portShape (i : Image) : Nat := fieldLe i.host 0 1
def Image.clkMode (i : Image) : Nat := fieldLe i.host 1 1
def Image.refSel (i : Image) : Nat := fieldLe i.host 2 1
def Image.pfCount (i : Image) : Nat := fieldLe i.host 3 1
def Image.vid (i : Image) : Nat := fieldLe i.host 4 2
def Image.did (i : Image) : Nat := fieldLe i.host 6 2
def Image.ssvid (i : Image) : Nat := fieldLe i.host 8 2
def Image.ssid (i : Image) : Nat := fieldLe i.host 10 2
def Image.revId (i : Image) : Nat := fieldLe i.host 12 1
def Image.vfMax (i : Image) : Nat := fieldLe i.host 13 1
def Image.pfQpReserve (i : Image) : Nat := fieldLe i.host 14 2
def Image.mgmtBus (i : Image) : Nat := fieldLe i.host 16 1
def Image.mgmtAddr (i : Image) : Nat := fieldLe i.host 17 1
def Image.nsMax (i : Image) : Nat := fieldLe i.host 18 2

/-! MEMORY (R87). -/
def Image.dataRate (i : Image) : Nat := fieldLe i.memory 0 2

/-! FLASH (R88). A partition is its 12 bytes. -/
def Image.flashSize (i : Image) : Nat := fieldLe i.flash 1 1 * 0x8000000
def Image.flashClk (i : Image) : Nat := fieldLe i.flash 2 1
def Image.flashMode (i : Image) : Nat := fieldLe i.flash 3 1
def Image.partitions (i : Image) : List (List Byte) :=
  (List.range (fieldLe i.flash 4 1)).map (fun p => slice i.flash (8 + 12 * p) 12)
def partKind (p : List Byte) : Nat := fieldLe p 0 1
def partIndex (p : List Byte) : Nat := fieldLe p 1 1
def partOffset (p : List Byte) : Nat := fieldLe p 4 4
def partLength (p : List Byte) : Nat := fieldLe p 8 4
/-- The partition of a kind and index (R88): kinds 1 firmware slot, 2 dump, 3 log, 4 Sibourn patch slot, 5 drive-maker data. -/
def Image.partition (i : Image) (kind index : Nat) : Option (List Byte) :=
  i.partitions.find? (fun p => decide (partKind p = kind) && decide (partIndex p = index))
/-- The first partition of a kind. -/
def Image.partitionOf (i : Image) (kind : Nat) : Option (List Byte) :=
  i.partitions.find? (fun p => decide (partKind p = kind))

/-! POWER (R90). -/
def Image.maxRung (i : Image) : Nat := fieldLe i.power 0 1
def Image.plpEnable (i : Image) : Bool := bitOf (fieldLe i.power 1 1) 0
def Image.dirtyLimit (i : Image) : Nat := fieldLe i.power 2 1
def Image.holdup (i : Image) : Nat := fieldLe i.power 4 2
/-- The domain groups: bit b of a group names domain b. -/
def Image.groups (i : Image) : List Nat :=
  (List.range (fieldLe i.power 3 1)).map (fun g => fieldLe i.power (8 + 12 * g) 12)

/-! CACHE, EVENTS, CORE_ROLES, STORE_PROTECT, EXPERT_GRANTS (R91-R95). -/
def Image.ways (i : Image) (c : Nat) : Nat := fieldLe i.cache (2 * c) 2
def Image.regionBase (i : Image) (r : Nat) : Nat := fieldLe i.cache (32 + 16 * r) 8
def Image.regionPages (i : Image) (r : Nat) : Nat := fieldLe i.cache (40 + 16 * r) 4
def Image.regionPolicy (i : Image) (r : Nat) : Nat := fieldLe i.cache (44 + 16 * r) 1
def Image.route (i : Image) (e : Nat) : Nat := fieldLe i.events e 1
def Image.role (i : Image) (c : Nat) : Nat := fieldLe i.coreRoles (8 * c) 1
def Image.roleImage (i : Image) (c : Nat) : Nat := fieldLe i.coreRoles (8 * c + 1) 1
def Image.roleBoot (i : Image) (c : Nat) : Bool := bitOf (fieldLe i.coreRoles (8 * c + 2) 1) 0
def Image.roleEntry (i : Image) (c : Nat) : Nat := fieldLe i.coreRoles (8 * c + 4) 4
def Image.parityProtect (i : Image) (n : Nat) : Bool := decide (fieldLe i.storeProtect n 1 = 1)
def Image.grant (i : Image) (die unit : Nat) : Bool := bitOf (fieldLe i.expertGrants (4 * die) 4) unit

/-! THERMAL, CLASP, FORMAT (R96). -/
def Image.warm (i : Image) (d : Nat) : Nat := fieldLe i.thermal (4 * d) 1
def Image.hot (i : Image) (d : Nat) : Nat := fieldLe i.thermal (4 * d + 1) 1
def Image.crit (i : Image) (d : Nat) : Nat := fieldLe i.thermal (4 * d + 2) 1
def Image.hyst (i : Image) (d : Nat) : Nat := fieldLe i.thermal (4 * d + 3) 1
def Image.psId (i : Image) : Nat := fieldLe i.clasp 0 2
def Image.beat (i : Image) : Nat := fieldLe i.clasp 2 1
def Image.retractI (i : Image) : Nat := fieldLe i.clasp 4 2
def Image.retractT (i : Image) : Nat := fieldLe i.clasp 6 2
def Image.brakeDelay (i : Image) : Nat := fieldLe i.clasp 8 2
def Image.fmtHead (i : Image) : Nat := fieldLe i.format 0 1
def Image.fmtCopies (i : Image) : Nat := fieldLe i.format 1 1
def Image.fmtTrack (i : Image) : Nat := fieldLe i.format 4 4
def Image.fmtDigest (i : Image) : List Byte := slice i.format 8 48

end Sys2Proof.Machine
end

