-- ==== Sys2Proof/Config.lean ====
section
/-!
DEFINITION. What an implementation of the Plidal fixes and the manual leaves open: the free values of the model. Each is an opaque constant with no body, so no statement can rest on what it is.
-/

namespace Sys2Proof

/-- A value the manual leaves open, drawn afresh: `what` names the kind of draw, `n` is the state's count of draws. -/
opaque Config.freeNat (what n : Nat) : Nat

/-- The bit of a dibit whose two sample sums are equal, and whether a dibit is weak where the preamble's amplitude is 0 (R104): the manual gives
the sign of 0 and the quotient by 0 no meaning. -/
opaque Config.zeroDibit (sum : Int) : Bool
opaque Config.weakDibit (diff : Int) : Bool

/-- The code of the DLL's control that stands for a correction other than 0 (R121), in 2^-8 of 10 ppm; the manual gives the control no
scale. -/
opaque Config.dllCode (corr : Int) : Int

/-- The code of R199, whose table is no part of the manual: the shift of the circulant of a layer and a column, none where the block is zero; and the
value of a parity bit that the checks of the code would leave open. -/
opaque Config.ldpcShift (layer col : Nat) : Option Nat
opaque Config.ldpcOpen (bits : List Bool) (parityBit : Nat) : Bool

/-- The arithmetic of min-sum that R212 does not give: a message's magnitude from the least magnitude under SCALE and OFFSET, and an a posteriori
LLR in its width. -/
opaque Config.minSum (scale offset mag : Nat) : Nat
opaque Config.ldpcSum (v : Int) : Int

/-- The stages of the read channel whose arithmetic the manual does not give: the code of conversion k that a reader's signal gives behind its
amplifier, filters, offset loop and correction, with their settings (R203): the gain in 0.125 dB, the cutoff in 1/256 of the bit rate, the boost in dB,
the high-pass corner in 0.1 MHz, the MRA coefficient in S1.15; interpolation of an ADC's conversions at an instant in 2^-32 bit, in
2^-14 of full scale (R206); the phase of the zero-phase start, in 2^-32 bit, and the phase error, in 2^-16 bit, from the readers' samples
so far, the newest first, in acquisition, or from the equalised samples and decisions 8 bits late (R207); the reliability that a difference of path
metrics, in 2^-34 of unit target energy, stands for (R210). -/
opaque Config.frontEnd (gain cutoff boost corner : Nat) (mra : Int) (signal : List Int) (k : Nat) : Int
opaque Config.interpolate (adc : List Int) (pos : Int) : Int
opaque Config.zeroPhase (xs : List (List Int)) : Int
opaque Config.phaseAcquire (xs : List (List Int)) : Int
opaque Config.phaseDecided (ys : List Int) (decided : List Bool) : Int
opaque Config.reliability (difference : Nat) : Nat

/-- What the manual leaves open of the correcting codes (R373, R395): the field's polynomial and first root of the Reed-Solomon code, and the column
of each data bit of the SEC-DED code. -/
opaque Config.codeOpen (k : Nat) : Nat

/-- STACKS' 16 B record of a buffer, whose layout the manual does not give (R64, R379): index, GEN, owners, the µs of its last
change. -/
opaque Config.stkRecord (index gen : Nat) (owners : List Nat) (stamp : Nat) : List Byte

/-- What STACKS reads in a record that it has not written itself (R379): GEN, owners, the µs. -/
opaque Config.stkParsed (record : List Byte) : Nat × List Nat × Nat

/-- A namespace key wrapped under the device wrapping key, 72 bytes, whose form the manual does not give (R403, R450). -/
opaque Config.wrapKey (secret key : Nat) : List Byte

/-- The image of LPDDR5X mode register `m` that follows from the MEMORY record (R87; file 12, MR0-MR63). -/
opaque Config.modeRegister (record : List Byte) (m : Nat) : Nat

/-- AES-256-XTS (R402): encryption, or decryption, of a block's data under a key with the DLBA as tweak. -/
opaque Config.xts (encrypt : Bool) (key dlba : Nat) (data : List Byte) : List Byte

/-- A 32 B record of the map journal, whose layout the manual does not give (R279): the request, the sequence number. -/
opaque Config.journalRecord (request : List Byte) (seq : Nat) : List Byte

/-- What a record of the map journal logs (R279, R365): the request with the image it brought or the slot it acted on, and the sequence
number; the manual does not give the record's layout. -/
opaque Config.journalled (record : List Byte) : List Byte × Nat

/-- Sectors in a data track, less one and in [10:0], as the HZONE and DZONE sections of the format tables give it (R266, R292): by the tables'
digest, the drive-wide head and the track. The manual gives the sections no layout. -/
opaque Config.trackSectors (digest : List Byte) (head track : Nat) : Nat

/-- The namespaces the format tables describe (R262, R300), by the tables' digest and the namespace index: first zone, zone count,
zoned. The manual gives the tables no layout for them. -/
opaque Config.namespaceOf (digest : List Byte) (index : Nat) : Nat × Nat × Bool

/-- A 4 KiB unit of the dump without its CRC, whose layout beyond the header's magic the manual does not give (R362): kind
(0 header, 1 index, 2 journal, 3 metadata, 4 commit), number, content. -/
opaque Config.dumpUnit (kind index : Nat) (content : List Byte) : List Byte

/-- SHA-256 and SHA-384 of a byte string (FIPS 180-4), which the manual names and does not define: 32 and 48 bytes are used. -/
opaque Config.sha256 (data : List Byte) : List Byte
opaque Config.sha384 (data : List Byte) : List Byte

/-- Whether an ECDSA P-384 signature over a digest verifies under a public key, and an HSS signature over a message (R441). -/
opaque Config.ecdsaOk (pub digest signature : List Byte) : Bool
opaque Config.hssOk (pub message signature : List Byte) : Bool

/-- The ECDSA signature of the device identity key over a digest, with a drawn nonce, and the HSS signature of the LMS key with index
q over a message (R450, R455). -/
opaque Config.ecdsaSign (seed nonce : Nat) (digest : List Byte) : List Byte
opaque Config.hssSign (seed q : Nat) (message : List Byte) : List Byte

/-- AES-256 in CTR mode under a key from an initial counter block (R439, R466). -/
opaque Config.aesCtr (key : Nat) (iv data : List Byte) : List Byte

/-- The digests fixed in the Keeper ROM (0) and the HUB ROM (1) (file 14, slots 0 and 3). -/
opaque Config.romDigest (rom : Nat) : List Byte

end Sys2Proof
end

