-- ==== Sys2Proof/Machine/RegMap.lean ====
section
/-!
DEFINITION. The register map of the Plidal: the fabric address of every register, its fields, and for every unit the list of its registers with the writable (RW), write-one-to-clear (W1C) and action (WO) bits and the reset value, written from the register tables of spec/ (R3, R12, R14, R15, R20; the chapters' register sections).
A reset entry `img`, `P` or `X` of the tables, and a value a table leaves out, is 0 here (notes/assumptions/1.md).
-/

namespace Sys2Proof.Machine

/-- A field of a register: fabric address, high bit and low bit (bits written [msb:lsb], conventions of file 00). -/
structure Fld where
  addr : Nat
  hi : Nat
  lo : Nat
  deriving DecidableEq, Repr

/-- One row of a unit's register list. `n1`/`st1` and `n2`/`st2` are the counts and strides of an array of registers
(1 and 4 for a single register); `rw`, `w1c` and `wo` are the bit masks of R12's types, every other bit is RO, RS or reserved;
`p` marks the bits that survive every reset but power-on (R15). -/
structure RegDesc where
  off : Nat
  n1 : Nat
  st1 : Nat
  n2 : Nat
  st2 : Nat
  rw : Nat
  w1c : Nat
  wo : Nat
  reset : Nat
  p : Nat
  deriving DecidableEq, Repr

/-- The three kinds of die that hold units (R3, R4, R21): the HUB, a channel die, the KPR. -/
inductive DieKind where
  | hub | ch | kpr
  deriving DecidableEq, Repr

/-- The fabric address of a unit's offset 0 (R3). -/
def unitBase (die unit : Nat) : Nat := die * 0x20000000 + unit * 0x1000000

/-- A HUB register's address (R3). -/
def hubReg (unit off : Nat) : Nat := unit * 0x1000000 + off

/-- A register's address on channel die CHn, die n + 1 (R3, R21). -/
def chReg (n unit off : Nat) : Nat := (n + 1) * 0x20000000 + unit * 0x1000000 + off

/-- A KPR register's address (R3). -/
def kprReg (unit off : Nat) : Nat := 5 * 0x20000000 + unit * 0x1000000 + off

/-! Unit base addresses (R3 and the unit tables of file 01). -/

abbrev hubDIE : Nat := hubReg 0 0
abbrev hubPCIE : Nat := hubReg 1 0
abbrev hubNVME : Nat := hubReg 2 0
abbrev hubTAGS : Nat := hubReg 3 0
abbrev hubSTACKS : Nat := hubReg 4 0
abbrev hubSCACHE : Nat := hubReg 5 0
abbrev hubDRAMC : Nat := hubReg 6 0
abbrev hubCIPHER : Nat := hubReg 7 0
abbrev hubSIGNET : Nat := hubReg 8 0
abbrev hubFOLIO : Nat := hubReg 9 0
abbrev hubCATALOGUE : Nat := hubReg 10 0
abbrev hubXSPI : Nat := hubReg 11 0
abbrev hubMGMT : Nat := hubReg 12 0
abbrev hubEVENT : Nat := hubReg 13 0
abbrev hubTSUKU : Nat := hubReg 14 0
abbrev hubOTP : Nat := hubReg 15 0
abbrev hubBROM : Nat := hubReg 16 0
abbrev hubHSRAM : Nat := hubReg 17 0
abbrev hubHCORE : Nat := hubReg 18 0
abbrev hubPERI : Nat := hubReg 19 0
abbrev chDIE (n : Nat) : Nat := chReg n 0 0
abbrev chAFE (n : Nat) : Nat := chReg n 1 0
abbrev chADC (n : Nat) : Nat := chReg n 2 0
abbrev chDETECT (n : Nat) : Nat := chReg n 3 0
abbrev chLDPC (n : Nat) : Nat := chReg n 4 0
abbrev chWRITE (n : Nat) : Nat := chReg n 5 0
abbrev chASSIST (n : Nat) : Nat := chReg n 6 0
abbrev chFLY (n : Nat) : Nat := chReg n 7 0
abbrev chDEMOD (n : Nat) : Nat := chReg n 8 0
abbrev chLOOP (n : Nat) : Nat := chReg n 9 0
abbrev chHOLD (n : Nat) : Nat := chReg n 10 0
abbrev chLOMUN (n : Nat) : Nat := chReg n 11 0
abbrev chPREAMP (n : Nat) : Nat := chReg n 12 0
abbrev chCLASPV (n : Nat) : Nat := chReg n 13 0
abbrev chCCORE (n : Nat) : Nat := chReg n 14 0
abbrev chCSRAM (n : Nat) : Nat := chReg n 15 0
abbrev chEVENT (n : Nat) : Nat := chReg n 16 0
abbrev chTSUKU (n : Nat) : Nat := chReg n 17 0
abbrev kprDIE : Nat := kprReg 0 0
abbrev kprCLOCK : Nat := kprReg 1 0
abbrev kprWEDGE : Nat := kprReg 2 0
abbrev kprLADDER : Nat := kprReg 3 0
abbrev kprSUPMON : Nat := kprReg 4 0
abbrev kprSPIN : Nat := kprReg 5 0
abbrev kprSHOCK : Nat := kprReg 6 0
abbrev kprCLASPS : Nat := kprReg 7 0
abbrev kprALOG : Nat := kprReg 8 0
abbrev kprCOUNT : Nat := kprReg 9 0
abbrev kprNVS : Nat := kprReg 10 0
abbrev kprTHERM : Nat := kprReg 11 0
abbrev kprKVERIFY : Nat := kprReg 12 0
abbrev kprEVENT : Nat := kprReg 13 0
abbrev kprTSUKU : Nat := kprReg 14 0
abbrev kprINVENTORY : Nat := kprReg 15 0

/-! Register addresses. A register that stands in several units takes the unit's (or link end's, or core block's) base address. -/

/-- DIE+0000h DIE_ID (file 01, R21). -/
def DIE_ID (b : Nat) : Nat := b + 0x0
/-- DIE+0004h DIE_STAT (file 01, R21). -/
def DIE_STAT (b : Nat) : Nat := b + 0x4
/-- DIE_STAT.ENABLED [8:8] RO. -/
def DIE_STAT_ENABLED (b : Nat) : Fld := ⟨DIE_STAT b, 8, 8⟩
/-- DIE_STAT.STATE [1:0] RO. -/
def DIE_STAT_STATE (b : Nat) : Fld := ⟨DIE_STAT b, 1, 0⟩
/-- CAL+0F00h CAL_CTL (file 02, R58). -/
def CAL_CTL (b : Nat) : Nat := b + 0xf00
/-- CAL_CTL.GRACE [30:24] RW. -/
def CAL_CTL_GRACE (b : Nat) : Fld := ⟨CAL_CTL b, 30, 24⟩
/-- CAL_CTL.TEMP_DELTA [23:16] RW. -/
def CAL_CTL_TEMP_DELTA (b : Nat) : Fld := ⟨CAL_CTL b, 23, 16⟩
/-- CAL_CTL.INTERVAL [15:0] RW. -/
def CAL_CTL_INTERVAL (b : Nat) : Fld := ⟨CAL_CTL b, 15, 0⟩
/-- CAL+0F04h CAL_STAT (file 02, R59). -/
def CAL_STAT (b : Nat) : Nat := b + 0xf04
/-- CAL_STAT.RUNS [7:6] RO. -/
def CAL_STAT_RUNS (b : Nat) : Fld := ⟨CAL_STAT b, 7, 6⟩
/-- CAL_STAT.ADOPTED [4:4] RO. -/
def CAL_STAT_ADOPTED (b : Nat) : Fld := ⟨CAL_STAT b, 4, 4⟩
/-- CAL_STAT.DISAGREE [3:3] W1C. -/
def CAL_STAT_DISAGREE (b : Nat) : Fld := ⟨CAL_STAT b, 3, 3⟩
/-- CAL_STAT.OVERDUE [2:2] RO. -/
def CAL_STAT_OVERDUE (b : Nat) : Fld := ⟨CAL_STAT b, 2, 2⟩
/-- CAL_STAT.DUE [1:1] RO. -/
def CAL_STAT_DUE (b : Nat) : Fld := ⟨CAL_STAT b, 1, 1⟩
/-- CAL_STAT.BUSY [0:0] RO. -/
def CAL_STAT_BUSY (b : Nat) : Fld := ⟨CAL_STAT b, 0, 0⟩
/-- CAL+0F08h CAL_COUNT (file 02, R63). -/
def CAL_COUNT (b : Nat) : Nat := b + 0xf08
/-- CAL_COUNT.COUNT [23:0] RO. -/
def CAL_COUNT_COUNT (b : Nat) : Fld := ⟨CAL_COUNT b, 23, 0⟩
/-- CAL+0F0Ch CAL_TIME_LO (file 02, R63). -/
def CAL_TIME_LO (b : Nat) : Nat := b + 0xf0c
/-- CAL+0F10h CAL_TIME_HI (file 02, R63). -/
def CAL_TIME_HI (b : Nat) : Nat := b + 0xf10
/-- CAL+1F00h CAL_TOL (file 02, R59). -/
def CAL_TOL (b : Nat) : Nat := b + 0x1f00
/-- CAL_TOL.TOL [15:0] RW. -/
def CAL_TOL_TOL (b : Nat) : Fld := ⟨CAL_TOL b, 15, 0⟩
/-- EXP+0FF0h EXPERT_UNLOCK (file 03, R100). -/
def EXPERT_UNLOCK (b : Nat) : Nat := b + 0xff0
/-- EXP+0FF4h EXPERT_STAT (file 03, R100). -/
def EXPERT_STAT (b : Nat) : Nat := b + 0xff4
/-- EXPERT_STAT.GRANTED [0:0] RO. -/
def EXPERT_STAT_GRANTED (b : Nat) : Fld := ⟨EXPERT_STAT b, 0, 0⟩
/-- MEM+0040h MEM_ERR (file 12, R397). -/
def MEM_ERR (b : Nat) : Nat := b + 0x40
/-- MEM+0044h MEM_FIRST (file 12, R489). -/
def MEM_FIRST (b : Nat) : Nat := b + 0x44
/-- MEM+0048h CE_CNT (file 12, R69). -/
def CE_CNT (b : Nat) : Nat := b + 0x48
/-- MEM+004Ch UE_CNT (file 12, R69). -/
def UE_CNT (b : Nat) : Nat := b + 0x4c
/-- MEM+0050h CE_ADDR_LO (file 12, R397). -/
def CE_ADDR_LO (b : Nat) : Nat := b + 0x50
/-- MEM+0054h CE_ADDR_HI (file 12, R397). -/
def CE_ADDR_HI (b : Nat) : Nat := b + 0x54
/-- MEM+0058h UE_ADDR_LO (file 12, R397). -/
def UE_ADDR_LO (b : Nat) : Nat := b + 0x58
/-- MEM+005Ch UE_ADDR_HI (file 12, R397). -/
def UE_ADDR_HI (b : Nat) : Nat := b + 0x5c
/-- MEM+0060h SCRUB_CTL (file 12, R399). -/
def SCRUB_CTL (b : Nat) : Nat := b + 0x60
/-- SCRUB_CTL.EN [0:0] RW. -/
def SCRUB_CTL_EN (b : Nat) : Fld := ⟨SCRUB_CTL b, 0, 0⟩
/-- MEM+0064h SCRUB_STAT (file 12, R399). -/
def SCRUB_STAT (b : Nat) : Nat := b + 0x64
/-- SCRUB_STAT.LAP_CNT [31:16] RO. -/
def SCRUB_STAT_LAP_CNT (b : Nat) : Fld := ⟨SCRUB_STAT b, 31, 16⟩
/-- SCRUB_STAT.ACTIVE [0:0] RO. -/
def SCRUB_STAT_ACTIVE (b : Nat) : Fld := ⟨SCRUB_STAT b, 0, 0⟩
/-- MEM+0068h LAP_TIME (file 12, R399). -/
def LAP_TIME (b : Nat) : Nat := b + 0x68
/-- MEM+006Ch MEM_CNT_CLR (file 12, R69). -/
def MEM_CNT_CLR (b : Nat) : Nat := b + 0x6c
/-- MEM+1800h TA_ADDR_LO (file 12, R400). -/
def TA_ADDR_LO (b : Nat) : Nat := b + 0x1800
/-- TA_ADDR_LO.ADDR [31:6] RW. -/
def TA_ADDR_LO_ADDR (b : Nat) : Fld := ⟨TA_ADDR_LO b, 31, 6⟩
/-- MEM+1804h TA_ADDR_HI (file 12, R400). -/
def TA_ADDR_HI (b : Nat) : Nat := b + 0x1804
/-- TA_ADDR_HI.ADDR [7:0] RW. -/
def TA_ADDR_HI_ADDR (b : Nat) : Fld := ⟨TA_ADDR_HI b, 7, 0⟩
/-- MEM+1808h TA_CMD (file 12, R400). -/
def TA_CMD (b : Nat) : Nat := b + 0x1808
/-- MEM+180Ch TA_STAT (file 12, R400). -/
def TA_STAT (b : Nat) : Nat := b + 0x180c
/-- TA_STAT.MISS [1:1] RO. -/
def TA_STAT_MISS (b : Nat) : Fld := ⟨TA_STAT b, 1, 1⟩
/-- MEM+1810h TA_DATA (file 12, R400). -/
def TA_DATA (b i : Nat) : Nat := b + 0x1810 + 4 * i
/-- MEM+1850h TA_CHECK_LO (file 12, R400). -/
def TA_CHECK_LO (b : Nat) : Nat := b + 0x1850
/-- MEM+1854h TA_CHECK_HI (file 12, R400). -/
def TA_CHECK_HI (b : Nat) : Nat := b + 0x1854
/-- LNK+0000h LINK_STAT (file 01, R25). -/
def LINK_STAT (b : Nat) : Nat := b + 0x0
/-- LINK_STAT.LANES_UP [15:8] RO. -/
def LINK_STAT_LANES_UP (b : Nat) : Fld := ⟨LINK_STAT b, 15, 8⟩
/-- LINK_STAT.STATE [3:0] RO. -/
def LINK_STAT_STATE (b : Nat) : Fld := ⟨LINK_STAT b, 3, 0⟩
/-- LNK+0004h LINK_ERR (file 01, R23). -/
def LINK_ERR (b : Nat) : Nat := b + 0x4
/-- LNK+0008h MSG_DROP (file 01, R29). -/
def MSG_DROP (b : Nat) : Nat := b + 0x8
/-- LNK+000Ch LINK_CMD (file 01, R24). -/
def LINK_CMD (b : Nat) : Nat := b + 0xc
/-- LNK+0100h RXQ_COUNT (file 01, R27). -/
def RXQ_COUNT (b i : Nat) : Nat := b + 0x100 + 32 * i
/-- RXQ_COUNT.PKTS [25:16] RO. -/
def RXQ_COUNT_PKTS (b i : Nat) : Fld := ⟨RXQ_COUNT b i, 25, 16⟩
/-- RXQ_COUNT.WORDS [9:0] RO. -/
def RXQ_COUNT_WORDS (b i : Nat) : Fld := ⟨RXQ_COUNT b i, 9, 0⟩
/-- LNK+0104h RXQ_DATA_LO (file 01, R31). -/
def RXQ_DATA_LO (b i : Nat) : Nat := b + 0x104 + 32 * i
/-- LNK+0108h RXQ_DATA_HI (file 01, R31). -/
def RXQ_DATA_HI (b i : Nat) : Nat := b + 0x108 + 32 * i
/-- LNK+010Ch RXQ_TAG (file 01, R31). -/
def RXQ_TAG (b i : Nat) : Nat := b + 0x10c + 32 * i
/-- LNK+0110h TXQ_DATA_LO (file 01, R34). -/
def TXQ_DATA_LO (b i : Nat) : Nat := b + 0x110 + 32 * i
/-- LNK+0114h TXQ_DATA_HI (file 01, R34). -/
def TXQ_DATA_HI (b i : Nat) : Nat := b + 0x114 + 32 * i
/-- LNK+0118h TXQ_SEND (file 01, R34). -/
def TXQ_SEND (b i : Nat) : Nat := b + 0x118 + 32 * i
/-- HUB.TSUKU+1000h LINK_TUNE_H (file 01, R24). -/
def LINK_TUNE_H (i : Nat) : Nat := hubReg 14 (0x1000 + 16 * i)
/-- CH.TSUKU+1000h LINK_TUNE_C (file 01, R24). -/
def LINK_TUNE_C (n : Nat) : Nat := chReg n 17 (0x1000)
/-- KPR.TSUKU+1000h LINK_TUNE_K (file 01, R24). -/
def LINK_TUNE_K : Nat := kprReg 14 (0x1000)
/-- CH.TSUKU+0040h WLR_STAT (file 02, R50). -/
def WLR_STAT (n : Nat) : Nat := chReg n 17 (0x40)
/-- WLR_STAT.LINE_FAIL [31:31] W1C. -/
def WLR_STAT_LINE_FAIL (n : Nat) : Fld := ⟨WLR_STAT n, 31, 31⟩
/-- WLR_STAT.FWD_CRC [30:30] W1C. -/
def WLR_STAT_FWD_CRC (n : Nat) : Fld := ⟨WLR_STAT n, 30, 30⟩
/-- WLR_STAT.TICK_SRC [29:29] RO. -/
def WLR_STAT_TICK_SRC (n : Nat) : Fld := ⟨WLR_STAT n, 29, 29⟩
/-- WLR_STAT.WEDGE [9:0] RO. -/
def WLR_STAT_WEDGE (n : Nat) : Fld := ⟨WLR_STAT n, 9, 0⟩
/-- KPR.CLOCK+0000h CLOCK_STAT (file 02, R43). -/
def CLOCK_STAT : Nat := kprReg 1 (0x0)
/-- CLOCK_STAT.COMP_HOLD [7:7] RO. -/
def CLOCK_STAT_COMP_HOLD : Fld := ⟨CLOCK_STAT, 7, 7⟩
/-- CLOCK_STAT.XTAL_LOST [6:6] RS. -/
def CLOCK_STAT_XTAL_LOST : Fld := ⟨CLOCK_STAT, 6, 6⟩
/-- CLOCK_STAT.BACKUP [5:5] RO. -/
def CLOCK_STAT_BACKUP : Fld := ⟨CLOCK_STAT, 5, 5⟩
/-- CLOCK_STAT.PCIE_INT [4:4] RO. -/
def CLOCK_STAT_PCIE_INT : Fld := ⟨CLOCK_STAT, 4, 4⟩
/-- CLOCK_STAT.KPR_LOCK [0:0] RO. -/
def CLOCK_STAT_KPR_LOCK : Fld := ⟨CLOCK_STAT, 0, 0⟩
/-- KPR.CLOCK+0004h COMP_PPM (file 02, R44). -/
def COMP_PPM : Nat := kprReg 1 (0x4)
/-- KPR.CLOCK+1000h COMP_COEF (file 02, R44). -/
def COMP_COEF (i : Nat) : Nat := kprReg 1 (0x1000 + 4 * i)
/-- KPR.WEDGE+0000h WL_STAT (file 02, R46). -/
def WL_STAT (i : Nat) : Nat := kprReg 2 (0x0 + 32 * i)
/-- WL_STAT.LOCKED [31:31] RO. -/
def WL_STAT_LOCKED (i : Nat) : Fld := ⟨WL_STAT i, 31, 31⟩
/-- WL_STAT.RET_FAIL [30:30] W1C. -/
def WL_STAT_RET_FAIL (i : Nat) : Fld := ⟨WL_STAT i, 30, 30⟩
/-- WL_STAT.RET_CRC [29:29] W1C. -/
def WL_STAT_RET_CRC (i : Nat) : Fld := ⟨WL_STAT i, 29, 29⟩
/-- WL_STAT.ERR [15:0] RO. -/
def WL_STAT_ERR (i : Nat) : Fld := ⟨WL_STAT i, 15, 0⟩
/-- KPR.COUNT+0000h OPTIME_LO (file 02, R66). -/
def OPTIME_LO : Nat := kprReg 9 (0x0)
/-- KPR.COUNT+0004h OPTIME_HI (file 02, R66). -/
def OPTIME_HI : Nat := kprReg 9 (0x4)
/-- KPR.COUNT+0008h PCYCLE (file 02, R67). -/
def PCYCLE : Nat := kprReg 9 (0x8)
/-- KPR.COUNT+000Ch TSTAMP (file 02, R64). -/
def TSTAMP : Nat := kprReg 9 (0xc)
/-- HUB.DIE+0010h SI_STAT (file 03, R80). -/
def SI_STAT : Nat := hubReg 0 (0x10)
/-- SI_STAT.REFUSE_B [31:24] RO. -/
def SI_STAT_REFUSE_B : Fld := ⟨SI_STAT, 31, 24⟩
/-- SI_STAT.REFUSE_A [23:16] RO. -/
def SI_STAT_REFUSE_A : Fld := ⟨SI_STAT, 23, 16⟩
/-- SI_STAT.ADVANCED [5:5] RO. -/
def SI_STAT_ADVANCED : Fld := ⟨SI_STAT, 5, 5⟩
/-- SI_STAT.FALLBACK [4:4] RO. -/
def SI_STAT_FALLBACK : Fld := ⟨SI_STAT, 4, 4⟩
/-- SI_STAT.SLOT [1:1] RO. -/
def SI_STAT_SLOT : Fld := ⟨SI_STAT, 1, 1⟩
/-- SI_STAT.ACCEPTED [0:0] RO. -/
def SI_STAT_ACCEPTED : Fld := ⟨SI_STAT, 0, 0⟩
/-- HUB.DIE+0014h SI_VERSION (file 03, R80). -/
def SI_VERSION : Nat := hubReg 0 (0x14)
/-- HUB.DIE+0018h SI_ROLLBACK (file 03, R81). -/
def SI_ROLLBACK : Nat := hubReg 0 (0x18)
/-- SI_ROLLBACK.OTP [14:8] RO. -/
def SI_ROLLBACK_OTP : Fld := ⟨SI_ROLLBACK, 14, 8⟩
/-- SI_ROLLBACK.IMAGE [6:0] RO. -/
def SI_ROLLBACK_IMAGE : Fld := ⟨SI_ROLLBACK, 6, 0⟩
/-- HUB.DIE+0020h SI_DIGEST (file 03, R80). -/
def SI_DIGEST (i : Nat) : Nat := hubReg 0 (0x20 + 4 * i)
/-- CH.DEMOD+0000h DEMOD_CTL (file 04, R129). -/
def DEMOD_CTL (n : Nat) : Nat := chReg n 8 (0x0)
/-- DEMOD_CTL.RRO_MODE [5:4] RW. -/
def DEMOD_CTL_RRO_MODE (n : Nat) : Fld := ⟨DEMOD_CTL n, 5, 4⟩
/-- DEMOD_CTL.EN [0:0] RW. -/
def DEMOD_CTL_EN (n : Nat) : Fld := ⟨DEMOD_CTL n, 0, 0⟩
/-- CH.DEMOD+0004h DEMOD_STAT (file 04, R128). -/
def DEMOD_STAT (n : Nat) : Nat := chReg n 8 (0x4)
/-- DEMOD_STAT.MISS_RUN [31:24] RO. -/
def DEMOD_STAT_MISS_RUN (n : Nat) : Fld := ⟨DEMOD_STAT n, 31, 24⟩
/-- DEMOD_STAT.RRO_SRC [23:22] RO. -/
def DEMOD_STAT_RRO_SRC (n : Nat) : Fld := ⟨DEMOD_STAT n, 23, 22⟩
/-- DEMOD_STAT.PES_SAT [21:21] RO. -/
def DEMOD_STAT_PES_SAT (n : Nat) : Fld := ⟨DEMOD_STAT n, 21, 21⟩
/-- DEMOD_STAT.TDC_LOCK [20:20] RO. -/
def DEMOD_STAT_TDC_LOCK (n : Nat) : Fld := ⟨DEMOD_STAT n, 20, 20⟩
/-- DEMOD_STAT.LOSS [19:19] RO. -/
def DEMOD_STAT_LOSS (n : Nat) : Fld := ⟨DEMOD_STAT n, 19, 19⟩
/-- DEMOD_STAT.SEARCH [18:18] RO. -/
def DEMOD_STAT_SEARCH (n : Nat) : Fld := ⟨DEMOD_STAT n, 18, 18⟩
/-- DEMOD_STAT.WNUM_SRC [17:17] RO. -/
def DEMOD_STAT_WNUM_SRC (n : Nat) : Fld := ⟨DEMOD_STAT n, 17, 17⟩
/-- DEMOD_STAT.TICK_SRC [16:16] RO. -/
def DEMOD_STAT_TICK_SRC (n : Nat) : Fld := ⟨DEMOD_STAT n, 16, 16⟩
/-- DEMOD_STAT.WEDGE [15:6] RO. -/
def DEMOD_STAT_WEDGE (n : Nat) : Fld := ⟨DEMOD_STAT n, 15, 6⟩
/-- DEMOD_STAT.PES_VALID [4:4] RO. -/
def DEMOD_STAT_PES_VALID (n : Nat) : Fld := ⟨DEMOD_STAT n, 4, 4⟩
/-- DEMOD_STAT.POS_VALID [3:3] RO. -/
def DEMOD_STAT_POS_VALID (n : Nat) : Fld := ⟨DEMOD_STAT n, 3, 3⟩
/-- DEMOD_STAT.CHEV_OK [2:2] RO. -/
def DEMOD_STAT_CHEV_OK (n : Nat) : Fld := ⟨DEMOD_STAT n, 2, 2⟩
/-- DEMOD_STAT.ID_VALID [1:1] RO. -/
def DEMOD_STAT_ID_VALID (n : Nat) : Fld := ⟨DEMOD_STAT n, 1, 1⟩
/-- DEMOD_STAT.SAM_FOUND [0:0] RO. -/
def DEMOD_STAT_SAM_FOUND (n : Nat) : Fld := ⟨DEMOD_STAT n, 0, 0⟩
/-- CH.DEMOD+0008h POS_LO (file 04, R128). -/
def POS_LO (n : Nat) : Nat := chReg n 8 (0x8)
/-- CH.DEMOD+000Ch POS_HI (file 04, R128). -/
def POS_HI (n : Nat) : Nat := chReg n 8 (0xc)
/-- CH.DEMOD+0010h PES (file 04, R125). -/
def PES (n : Nat) : Nat := chReg n 8 (0x10)
/-- CH.DEMOD+0014h DEMOD_TARGET_LO (file 04, R128). -/
def DEMOD_TARGET_LO (n : Nat) : Nat := chReg n 8 (0x14)
/-- CH.DEMOD+0018h DEMOD_TARGET_HI (file 04, R128). -/
def DEMOD_TARGET_HI (n : Nat) : Nat := chReg n 8 (0x18)
/-- CH.DEMOD+001Ch RRO (file 04, R124). -/
def RRO (n : Nat) : Nat := chReg n 8 (0x1c)
/-- CH.DEMOD+0020h WCNT_LO (file 04, R128). -/
def WCNT_LO (n : Nat) : Nat := chReg n 8 (0x20)
/-- CH.DEMOD+0024h WCNT_HI (file 04, R128). -/
def WCNT_HI (n : Nat) : Nat := chReg n 8 (0x24)
/-- CH.DEMOD+0030h TELEM_CTL (file 04, R130). -/
def TELEM_CTL (n : Nat) : Nat := chReg n 8 (0x30)
/-- TELEM_CTL.EN [31:31] RW. -/
def TELEM_CTL_EN (n : Nat) : Fld := ⟨TELEM_CTL n, 31, 31⟩
/-- TELEM_CTL.DECIM [27:24] RW. -/
def TELEM_CTL_DECIM (n : Nat) : Fld := ⟨TELEM_CTL n, 27, 24⟩
/-- TELEM_CTL.LEN [23:20] RW. -/
def TELEM_CTL_LEN (n : Nat) : Fld := ⟨TELEM_CTL n, 23, 20⟩
/-- TELEM_CTL.BASE [14:0] RW. -/
def TELEM_CTL_BASE (n : Nat) : Fld := ⟨TELEM_CTL n, 14, 0⟩
/-- CH.DEMOD+0034h TELEM_HEAD (file 04, R130). -/
def TELEM_HEAD (n : Nat) : Nat := chReg n 8 (0x34)
/-- TELEM_HEAD.INDEX [12:0] RO. -/
def TELEM_HEAD_INDEX (n : Nat) : Fld := ⟨TELEM_HEAD n, 12, 0⟩
/-- CH.DEMOD+0040h DEMOD_CNT (file 04, R69). -/
def DEMOD_CNT (n i : Nat) : Nat := chReg n 8 (0x40 + 4 * i)
/-- CH.DEMOD+005Ch DEMOD_CNT_SAT (file 04, R69). -/
def DEMOD_CNT_SAT (n : Nat) : Nat := chReg n 8 (0x5c)
/-- DEMOD_CNT_SAT.SAT [6:0] W1C. -/
def DEMOD_CNT_SAT_SAT (n : Nat) : Fld := ⟨DEMOD_CNT_SAT n, 6, 0⟩
/-- CH.DEMOD+0060h DEMOD_CNT_CLR (file 04, R69). -/
def DEMOD_CNT_CLR (n : Nat) : Nat := chReg n 8 (0x60)
/-- CH.DEMOD+0100h ZONE_START (file 04, R123). -/
def ZONE_START (n i : Nat) : Nat := chReg n 8 (0x100 + 8 * i)
/-- CH.DEMOD+0104h ZONE_PITCH (file 04, R123). -/
def ZONE_PITCH (n i : Nat) : Nat := chReg n 8 (0x104 + 8 * i)
/-- ZONE_PITCH.PITCH [15:0] RW. -/
def ZONE_PITCH_PITCH (n i : Nat) : Fld := ⟨ZONE_PITCH n i, 15, 0⟩
/-- CH.DEMOD+1000h SAM_CFG (file 04, R106). -/
def SAM_CFG (n : Nat) : Nat := chReg n 8 (0x1000)
/-- SAM_CFG.THR [28:24] RW. -/
def SAM_CFG_THR (n : Nat) : Fld := ⟨SAM_CFG n, 28, 24⟩
/-- SAM_CFG.WIN [23:16] RW. -/
def SAM_CFG_WIN (n : Nat) : Fld := ⟨SAM_CFG n, 23, 16⟩
/-- SAM_CFG.PATTERN [15:0] RW. -/
def SAM_CFG_PATTERN (n : Nat) : Fld := ⟨SAM_CFG n, 15, 0⟩
/-- CH.DEMOD+1004h ID_CFG (file 04, R111). -/
def ID_CFG (n : Nat) : Nat := chReg n 8 (0x1004)
/-- ID_CFG.MARGIN [7:0] RW. -/
def ID_CFG_MARGIN (n : Nat) : Fld := ⟨ID_CFG n, 7, 0⟩
/-- CH.DEMOD+1008h CHEV_CFG (file 04, R114). -/
def CHEV_CFG (n : Nat) : Nat := chReg n 8 (0x1008)
/-- CHEV_CFG.AMIN [23:16] RW. -/
def CHEV_CFG_AMIN (n : Nat) : Fld := ⟨CHEV_CFG n, 23, 16⟩
/-- CHEV_CFG.SP_TOL [15:8] RW. -/
def CHEV_CFG_SP_TOL (n : Nat) : Fld := ⟨CHEV_CFG n, 15, 8⟩
/-- CHEV_CFG.WINDOW [7:0] RW. -/
def CHEV_CFG_WINDOW (n : Nat) : Fld := ⟨CHEV_CFG n, 7, 0⟩
/-- CH.DEMOD+100Ch DEMOD_XCTL (file 04, R110). -/
def DEMOD_XCTL (n : Nat) : Nat := chReg n 8 (0x100c)
/-- DEMOD_XCTL.RDR [9:8] RW. -/
def DEMOD_XCTL_RDR (n : Nat) : Fld := ⟨DEMOD_XCTL n, 9, 8⟩
/-- DEMOD_XCTL.LOSS_LIM [3:0] RW. -/
def DEMOD_XCTL_LOSS_LIM (n : Nat) : Fld := ⟨DEMOD_XCTL n, 3, 0⟩
/-- CH.DEMOD+1010h TDC_STAT (file 04, R122). -/
def TDC_STAT (n : Nat) : Nat := chReg n 8 (0x1010)
/-- TDC_STAT.LOCK [31:31] RO. -/
def TDC_STAT_LOCK (n : Nat) : Fld := ⟨TDC_STAT n, 31, 31⟩
/-- TDC_STAT.CTRL [15:0] RO. -/
def TDC_STAT_CTRL (n : Nat) : Fld := ⟨TDC_STAT n, 15, 0⟩
/-- CH.DEMOD+1014h TDC_TC (file 04, R121). -/
def TDC_TC (n : Nat) : Nat := chReg n 8 (0x1014)
/-- CH.DEMOD+1018h SEL_MAP_LO (file 04, R120). -/
def SEL_MAP_LO (n : Nat) : Nat := chReg n 8 (0x1018)
/-- CH.DEMOD+101Ch SEL_MAP_HI (file 04, R120). -/
def SEL_MAP_HI (n : Nat) : Nat := chReg n 8 (0x101c)
/-- CH.DEMOD+1020h AMB (file 04, R115). -/
def AMB (n : Nat) : Nat := chReg n 8 (0x1020)
/-- CH.DEMOD+1024h APB (file 04, R115). -/
def APB (n : Nat) : Nat := chReg n 8 (0x1024)
/-- CH.DEMOD+1040h PAIR (file 04, R117). -/
def PAIR (n i : Nat) : Nat := chReg n 8 (0x1040 + 4 * i)
/-- CH.LOOP+0000h LOOP_CMD (file 05, R132). -/
def LOOP_CMD (n : Nat) : Nat := chReg n 9 (0x0)
/-- CH.LOOP+0004h LOOP_STAT (file 05, R131). -/
def LOOP_STAT (n : Nat) : Nat := chReg n 9 (0x4)
/-- LOOP_STAT.MODE [31:28] RO. -/
def LOOP_STAT_MODE (n : Nat) : Fld := ⟨LOOP_STAT n, 31, 28⟩
/-- LOOP_STAT.HOLD_ACTIVE [27:27] RO. -/
def LOOP_STAT_HOLD_ACTIVE (n : Nat) : Fld := ⟨LOOP_STAT n, 27, 27⟩
/-- LOOP_STAT.UNSAFE [26:26] RO. -/
def LOOP_STAT_UNSAFE (n : Nat) : Fld := ⟨LOOP_STAT n, 26, 26⟩
/-- LOOP_STAT.MA_SAT [25:25] RO. -/
def LOOP_STAT_MA_SAT (n : Nat) : Fld := ⟨LOOP_STAT n, 25, 25⟩
/-- LOOP_STAT.VCM_SAT [24:24] RO. -/
def LOOP_STAT_VCM_SAT (n : Nat) : Fld := ⟨LOOP_STAT n, 24, 24⟩
/-- LOOP_STAT.PRESET_CLAMP [23:23] W1C. -/
def LOOP_STAT_PRESET_CLAMP (n : Nat) : Fld := ⟨LOOP_STAT n, 23, 23⟩
/-- LOOP_STAT.CMD_LOST [22:22] W1C. -/
def LOOP_STAT_CMD_LOST (n : Nat) : Fld := ⟨LOOP_STAT n, 22, 22⟩
/-- LOOP_STAT.CMD_REJ [21:21] W1C. -/
def LOOP_STAT_CMD_REJ (n : Nat) : Fld := ⟨LOOP_STAT n, 21, 21⟩
/-- LOOP_STAT.FE_CNT [15:8] RO. -/
def LOOP_STAT_FE_CNT (n : Nat) : Fld := ⟨LOOP_STAT n, 15, 8⟩
/-- LOOP_STAT.RESTARTS [1:0] RO. -/
def LOOP_STAT_RESTARTS (n : Nat) : Fld := ⟨LOOP_STAT n, 1, 0⟩
/-- CH.LOOP+0008h LOOP_TARGET_LO (file 05, R132). -/
def LOOP_TARGET_LO (n : Nat) : Nat := chReg n 9 (0x8)
/-- LOOP_TARGET_LO.TRACK [31:16] RW. -/
def LOOP_TARGET_LO_TRACK (n : Nat) : Fld := ⟨LOOP_TARGET_LO n, 31, 16⟩
/-- LOOP_TARGET_LO.FRAC [15:0] RW. -/
def LOOP_TARGET_LO_FRAC (n : Nat) : Fld := ⟨LOOP_TARGET_LO n, 15, 0⟩
/-- CH.LOOP+000Ch LOOP_TARGET_HI (file 05, R132). -/
def LOOP_TARGET_HI (n : Nat) : Nat := chReg n 9 (0xc)
/-- LOOP_TARGET_HI.HEAD [10:8] RW. -/
def LOOP_TARGET_HI_HEAD (n : Nat) : Fld := ⟨LOOP_TARGET_HI n, 10, 8⟩
/-- LOOP_TARGET_HI.TRACK [7:0] RW. -/
def LOOP_TARGET_HI_TRACK (n : Nat) : Fld := ⟨LOOP_TARGET_HI n, 7, 0⟩
/-- CH.LOOP+0010h SEEK_POLICY (file 05, R141). -/
def SEEK_POLICY (n : Nat) : Nat := chReg n 9 (0x10)
/-- SEEK_POLICY.PROFILE [17:16] RW. -/
def SEEK_POLICY_PROFILE (n : Nat) : Fld := ⟨SEEK_POLICY n, 17, 16⟩
/-- SEEK_POLICY.VMAX [15:0] RW. -/
def SEEK_POLICY_VMAX (n : Nat) : Fld := ⟨SEEK_POLICY n, 15, 0⟩
/-- CH.LOOP+0014h PLANT (file 05, R135). -/
def PLANT (n : Nat) : Nat := chReg n 9 (0x14)
/-- CH.LOOP+0018h PLANT_MA (file 05, R135). -/
def PLANT_MA (n : Nat) : Nat := chReg n 9 (0x18)
/-- PLANT_MA.KM [15:0] RW. -/
def PLANT_MA_KM (n : Nat) : Fld := ⟨PLANT_MA n, 15, 0⟩
/-- CH.LOOP+001Ch BW (file 05, R135). -/
def BW (n : Nat) : Nat := chReg n 9 (0x1c)
/-- BW.BW_MA [31:16] RW. -/
def BW_BW_MA (n : Nat) : Fld := ⟨BW n, 31, 16⟩
/-- BW.BW_VCM [15:0] RW. -/
def BW_BW_VCM (n : Nat) : Fld := ⟨BW n, 15, 0⟩
/-- CH.LOOP+0020h NOTCH (file 05, R135). -/
def NOTCH (n i : Nat) : Nat := chReg n 9 (0x20 + 4 * i)
/-- CH.LOOP+0030h FF_CFG (file 05, R138). -/
def FF_CFG (n : Nat) : Nat := chReg n 9 (0x30)
/-- FF_CFG.ACC_EN [31:31] RW. -/
def FF_CFG_ACC_EN (n : Nat) : Fld := ⟨FF_CFG n, 31, 31⟩
/-- FF_CFG.RV_EN [30:30] RW. -/
def FF_CFG_RV_EN (n : Nat) : Fld := ⟨FF_CFG n, 30, 30⟩
/-- FF_CFG.SH_EN [29:29] RW. -/
def FF_CFG_SH_EN (n : Nat) : Fld := ⟨FF_CFG n, 29, 29⟩
/-- FF_CFG.SUP_EN [28:28] RW. -/
def FF_CFG_SUP_EN (n : Nat) : Fld := ⟨FF_CFG n, 28, 28⟩
/-- FF_CFG.K_SUP [15:0] RW. -/
def FF_CFG_K_SUP (n : Nat) : Fld := ⟨FF_CFG n, 15, 0⟩
/-- CH.LOOP+0034h RV_GAIN (file 05, R138). -/
def RV_GAIN (n : Nat) : Nat := chReg n 9 (0x34)
/-- RV_GAIN.KRV_Y [31:16] RW. -/
def RV_GAIN_KRV_Y (n : Nat) : Fld := ⟨RV_GAIN n, 31, 16⟩
/-- RV_GAIN.KRV_X [15:0] RW. -/
def RV_GAIN_KRV_X (n : Nat) : Fld := ⟨RV_GAIN n, 15, 0⟩
/-- CH.LOOP+0038h SH_GAIN (file 05, R138). -/
def SH_GAIN (n : Nat) : Nat := chReg n 9 (0x38)
/-- SH_GAIN.KSH [15:0] RW. -/
def SH_GAIN_KSH (n : Nat) : Fld := ⟨SH_GAIN n, 15, 0⟩
/-- CH.LOOP+003Ch WU_CFG (file 05, R147). -/
def WU_CFG (n : Nat) : Nat := chReg n 9 (0x3c)
/-- WU_CFG.CLEAR [31:24] RW. -/
def WU_CFG_CLEAR (n : Nat) : Fld := ⟨WU_CFG n, 31, 24⟩
/-- WU_CFG.SHOCK_HOLD [23:16] RW. -/
def WU_CFG_SHOCK_HOLD (n : Nat) : Fld := ⟨WU_CFG n, 23, 16⟩
/-- WU_CFG.FRAC [11:0] RW. -/
def WU_CFG_FRAC (n : Nat) : Fld := ⟨WU_CFG n, 11, 0⟩
/-- CH.LOOP+0040h FE_CFG (file 05, R146). -/
def FE_CFG (n : Nat) : Nat := chReg n 9 (0x40)
/-- FE_CFG.TIME [23:16] RW. -/
def FE_CFG_TIME (n : Nat) : Fld := ⟨FE_CFG n, 23, 16⟩
/-- FE_CFG.LIMIT [15:0] RW. -/
def FE_CFG_LIMIT (n : Nat) : Fld := ⟨FE_CFG n, 15, 0⟩
/-- CH.LOOP+0044h SETTLE_CFG (file 05, R142). -/
def SETTLE_CFG (n : Nat) : Nat := chReg n 9 (0x44)
/-- SETTLE_CFG.COUNT [23:16] RW. -/
def SETTLE_CFG_COUNT (n : Nat) : Fld := ⟨SETTLE_CFG n, 23, 16⟩
/-- SETTLE_CFG.WIN [15:0] RW. -/
def SETTLE_CFG_WIN (n : Nat) : Fld := ⟨SETTLE_CFG n, 15, 0⟩
/-- CH.LOOP+0048h LOSS_CFG (file 05, R149). -/
def LOSS_CFG (n : Nat) : Nat := chReg n 9 (0x48)
/-- LOSS_CFG.RETRACT [31:16] RW. -/
def LOSS_CFG_RETRACT (n : Nat) : Fld := ⟨LOSS_CFG n, 31, 16⟩
/-- LOSS_CFG.COAST [7:0] RW. -/
def LOSS_CFG_COAST (n : Nat) : Fld := ⟨LOSS_CFG n, 7, 0⟩
/-- CH.LOOP+004Ch LOOP_MANUAL (file 05, R144). -/
def LOOP_MANUAL (n : Nat) : Nat := chReg n 9 (0x4c)
/-- LOOP_MANUAL.MA [31:16] RW. -/
def LOOP_MANUAL_MA (n : Nat) : Fld := ⟨LOOP_MANUAL n, 31, 16⟩
/-- LOOP_MANUAL.VCM [15:0] RW. -/
def LOOP_MANUAL_VCM (n : Nat) : Fld := ⟨LOOP_MANUAL n, 15, 0⟩
/-- CH.LOOP+0050h LOOP_OUT (file 05, R143). -/
def LOOP_OUT (n : Nat) : Nat := chReg n 9 (0x50)
/-- LOOP_OUT.MA [31:16] RO. -/
def LOOP_OUT_MA (n : Nat) : Fld := ⟨LOOP_OUT n, 31, 16⟩
/-- LOOP_OUT.VCM [15:0] RO. -/
def LOOP_OUT_VCM (n : Nat) : Fld := ⟨LOOP_OUT n, 15, 0⟩
/-- CH.LOOP+0054h LOOP_FAULT (file 05, R151). -/
def LOOP_FAULT (n : Nat) : Nat := chReg n 9 (0x54)
/-- CH.LOOP+0058h LOOP_FIRST (file 05, R489). -/
def LOOP_FIRST (n : Nat) : Nat := chReg n 9 (0x58)
/-- CH.LOOP+005Ch OVR_CNT (file 05, R152). -/
def OVR_CNT (n : Nat) : Nat := chReg n 9 (0x5c)
/-- OVR_CNT.SAT [16:16] W1C. -/
def OVR_CNT_SAT (n : Nat) : Fld := ⟨OVR_CNT n, 16, 16⟩
/-- OVR_CNT.COUNT [15:0] RO. -/
def OVR_CNT_COUNT (n : Nat) : Fld := ⟨OVR_CNT n, 15, 0⟩
/-- CH.LOOP+0060h LOOP_CYCLES (file 05, R137). -/
def LOOP_CYCLES (n : Nat) : Nat := chReg n 9 (0x60)
/-- CH.LOOP+0064h SEEK_TIME (file 05, R142). -/
def SEEK_TIME (n : Nat) : Nat := chReg n 9 (0x64)
/-- CH.LOOP+0068h LOAD_CFG (file 05, R157). -/
def LOAD_CFG (n : Nat) : Nat := chReg n 9 (0x68)
/-- LOAD_CFG.VEL_LOAD [31:24] RW. -/
def LOAD_CFG_VEL_LOAD (n : Nat) : Fld := ⟨LOAD_CFG n, 31, 24⟩
/-- LOAD_CFG.VEL_UNLOAD [23:16] RW. -/
def LOAD_CFG_VEL_UNLOAD (n : Nat) : Fld := ⟨LOAD_CFG n, 23, 16⟩
/-- CH.LOOP+1000h LOOP_KP (file 05, R135). -/
def LOOP_KP (n : Nat) : Nat := chReg n 9 (0x1000)
/-- CH.LOOP+1004h LOOP_KI (file 05, R135). -/
def LOOP_KI (n : Nat) : Nat := chReg n 9 (0x1004)
/-- CH.LOOP+1008h LOOP_KD (file 05, R135). -/
def LOOP_KD (n : Nat) : Nat := chReg n 9 (0x1008)
/-- CH.LOOP+100Ch LOOP_KFF_ACC (file 05, R135). -/
def LOOP_KFF_ACC (n : Nat) : Nat := chReg n 9 (0x100c)
/-- CH.LOOP+1010h LOOP_KMA (file 05, R135). -/
def LOOP_KMA (n : Nat) : Nat := chReg n 9 (0x1010)
/-- CH.LOOP+1014h LOOP_CPL (file 05, R135). -/
def LOOP_CPL (n : Nat) : Nat := chReg n 9 (0x1014)
/-- CH.LOOP+1018h LOOP_A_MAX (file 05, R141). -/
def LOOP_A_MAX (n : Nat) : Nat := chReg n 9 (0x1018)
/-- CH.LOOP+101Ch LOOP_JERK_W (file 05, R141). -/
def LOOP_JERK_W (n : Nat) : Nat := chReg n 9 (0x101c)
/-- CH.LOOP+1020h LOOP_ALPHA (file 05, R139). -/
def LOOP_ALPHA (n : Nat) : Nat := chReg n 9 (0x1020)
/-- CH.LOOP+1024h LOOP_BETA (file 05, R139). -/
def LOOP_BETA (n : Nat) : Nat := chReg n 9 (0x1024)
/-- CH.LOOP+1040h VCM_BQ_B0 (file 05, R135). -/
def VCM_BQ_B0 (n i : Nat) : Nat := chReg n 9 (0x1040 + 32 * i)
/-- CH.LOOP+1044h VCM_BQ (file 05, R135). -/
def VCM_BQ (n i j : Nat) : Nat := chReg n 9 (0x1044 + 32 * i + 4 * j)
/-- CH.LOOP+1140h MA_BQ_B0 (file 05, R135). -/
def MA_BQ_B0 (n i : Nat) : Nat := chReg n 9 (0x1140 + 32 * i)
/-- CH.LOOP+1144h MA_BQ (file 05, R135). -/
def MA_BQ (n i j : Nat) : Nat := chReg n 9 (0x1144 + 32 * i + 4 * j)
/-- CH.LOOP+11C0h FF_BQ_B0 (file 05, R135). -/
def FF_BQ_B0 (n : Nat) : Nat := chReg n 9 (0x11c0)
/-- CH.LOOP+11C4h FF_BQ (file 05, R135). -/
def FF_BQ (n i : Nat) : Nat := chReg n 9 (0x11c4 + 4 * i)
/-- CH.LOOP+1200h INTEG_LO (file 05, R134). -/
def INTEG_LO (n : Nat) : Nat := chReg n 9 (0x1200)
/-- CH.LOOP+1204h INTEG_HI (file 05, R134). -/
def INTEG_HI (n : Nat) : Nat := chReg n 9 (0x1204)
/-- CH.HOLD+0000h HOLD_STAT (file 05, R154). -/
def HOLD_STAT (n : Nat) : Nat := chReg n 10 (0x0)
/-- HOLD_STAT.ACTIVE [31:31] RO. -/
def HOLD_STAT_ACTIVE (n : Nat) : Fld := ⟨HOLD_STAT n, 31, 31⟩
/-- HOLD_STAT.AVAIL [30:30] RO. -/
def HOLD_STAT_AVAIL (n : Nat) : Fld := ⟨HOLD_STAT n, 30, 30⟩
/-- HOLD_STAT.INVALID_RUN [7:0] RO. -/
def HOLD_STAT_INVALID_RUN (n : Nat) : Fld := ⟨HOLD_STAT n, 7, 0⟩
/-- CH.HOLD+0004h HOLD_FAULT (file 05, R154). -/
def HOLD_FAULT (n : Nat) : Nat := chReg n 10 (0x4)
/-- CH.HOLD+0008h HOLD_CFG (file 05, R154). -/
def HOLD_CFG (n : Nat) : Nat := chReg n 10 (0x8)
/-- HOLD_CFG.LIM [7:0] RW. -/
def HOLD_CFG_LIM (n : Nat) : Fld := ⟨HOLD_CFG n, 7, 0⟩
/-- CH.HOLD+1000h HOLD_HKP (file 05, R154). -/
def HOLD_HKP (n : Nat) : Nat := chReg n 10 (0x1000)
/-- CH.HOLD+1004h HOLD_HKI (file 05, R154). -/
def HOLD_HKI (n : Nat) : Nat := chReg n 10 (0x1004)
/-- CH.HOLD+1008h HOLD_HKD (file 05, R154). -/
def HOLD_HKD (n : Nat) : Nat := chReg n 10 (0x1008)
/-- CH.CLASPV+0000h CLV_STAT (file 05, R160). -/
def CLV_STAT (n : Nat) : Nat := chReg n 13 (0x0)
/-- CLV_STAT.CMD [31:28] RO. -/
def CLV_STAT_CMD (n : Nat) : Fld := ⟨CLV_STAT n, 31, 28⟩
/-- CLV_STAT.SEQ [27:24] RO. -/
def CLV_STAT_SEQ (n : Nat) : Fld := ⟨CLV_STAT n, 27, 24⟩
/-- CLV_STAT.SRC [23:23] RO. -/
def CLV_STAT_SRC (n : Nat) : Fld := ⟨CLV_STAT n, 23, 23⟩
/-- CH.CLASPV+0004h CLV_OUT (file 05, R160). -/
def CLV_OUT (n : Nat) : Nat := chReg n 13 (0x4)
/-- CLV_OUT.MA [31:16] RO. -/
def CLV_OUT_MA (n : Nat) : Fld := ⟨CLV_OUT n, 31, 16⟩
/-- CLV_OUT.VCM [15:0] RO. -/
def CLV_OUT_VCM (n : Nat) : Fld := ⟨CLV_OUT n, 15, 0⟩
/-- CH.CLASPV+0008h CLV_CTL (file 05, R161). -/
def CLV_CTL (n : Nat) : Nat := chReg n 13 (0x8)
/-- KPR.SHOCK+0000h SHOCK_CTL (file 05, R150). -/
def SHOCK_CTL : Nat := kprReg 6 (0x0)
/-- SHOCK_CTL.EN [31:31] RW. -/
def SHOCK_CTL_EN : Fld := ⟨SHOCK_CTL, 31, 31⟩
/-- SHOCK_CTL.THR [15:0] RW. -/
def SHOCK_CTL_THR : Fld := ⟨SHOCK_CTL, 15, 0⟩
/-- KPR.SHOCK+0004h SHOCK_STAT (file 05, R150). -/
def SHOCK_STAT : Nat := kprReg 6 (0x4)
/-- SHOCK_STAT.TRIP [31:31] W1C. -/
def SHOCK_STAT_TRIP : Fld := ⟨SHOCK_STAT, 31, 31⟩
/-- SHOCK_STAT.PEAK [15:0] RO. -/
def SHOCK_STAT_PEAK : Fld := ⟨SHOCK_STAT, 15, 0⟩
/-- KPR.SHOCK+0008h SHOCK_CNT (file 05, R150). -/
def SHOCK_CNT : Nat := kprReg 6 (0x8)
/-- KPR.SHOCK+000Ch RV_NOW (file 05, R150). -/
def RV_NOW : Nat := kprReg 6 (0xc)
/-- KPR.SPIN+0000h SPIN_CMD (file 06, R176). -/
def SPIN_CMD : Nat := kprReg 5 (0x0)
/-- KPR.SPIN+0004h SPIN_STAT (file 06, R176). -/
def SPIN_STAT : Nat := kprReg 5 (0x4)
/-- SPIN_STAT.STATE [31:28] RO. -/
def SPIN_STAT_STATE : Fld := ⟨SPIN_STAT, 31, 28⟩
/-- SPIN_STAT.SPIN_LOCK [27:27] RO. -/
def SPIN_STAT_SPIN_LOCK : Fld := ⟨SPIN_STAT, 27, 27⟩
/-- SPIN_STAT.SPIN_RUN [26:26] RO. -/
def SPIN_STAT_SPIN_RUN : Fld := ⟨SPIN_STAT, 26, 26⟩
/-- SPIN_STAT.FINE [25:25] RO. -/
def SPIN_STAT_FINE : Fld := ⟨SPIN_STAT, 25, 25⟩
/-- SPIN_STAT.ANGLE_KNOWN [24:24] RO. -/
def SPIN_STAT_ANGLE_KNOWN : Fld := ⟨SPIN_STAT, 24, 24⟩
/-- SPIN_STAT.REF_CH [23:22] RO. -/
def SPIN_STAT_REF_CH : Fld := ⟨SPIN_STAT, 23, 22⟩
/-- SPIN_STAT.DIR [21:21] RO. -/
def SPIN_STAT_DIR : Fld := ⟨SPIN_STAT, 21, 21⟩
/-- SPIN_STAT.CMD_REJ [20:20] W1C. -/
def SPIN_STAT_CMD_REJ : Fld := ⟨SPIN_STAT, 20, 20⟩
/-- SPIN_STAT.SPEED [15:0] RO. -/
def SPIN_STAT_SPEED : Fld := ⟨SPIN_STAT, 15, 0⟩
/-- KPR.SPIN+0008h SPIN_FAULT (file 06, R176). -/
def SPIN_FAULT : Nat := kprReg 5 (0x8)
/-- SPIN_FAULT.PS_ID [8:8] W1C. -/
def SPIN_FAULT_PS_ID : Fld := ⟨SPIN_FAULT, 8, 8⟩
/-- KPR.SPIN+000Ch SPIN_FIRST (file 06, R489). -/
def SPIN_FIRST : Nat := kprReg 5 (0xc)
/-- KPR.SPIN+0010h PHASE_ERR (file 06, R170). -/
def PHASE_ERR : Nat := kprReg 5 (0x10)
/-- KPR.SPIN+0014h REV_LO (file 06, R175). -/
def REV_LO : Nat := kprReg 5 (0x14)
/-- KPR.SPIN+0018h REV_HI (file 06, R175). -/
def REV_HI : Nat := kprReg 5 (0x18)
/-- KPR.SPIN+001Ch REV_DEV (file 06, R175). -/
def REV_DEV : Nat := kprReg 5 (0x1c)
/-- KPR.SPIN+0020h LOS_CNT (file 06, R169). -/
def LOS_CNT : Nat := kprReg 5 (0x20)
/-- KPR.SPIN+0024h SKIP_CNT (file 06, R166). -/
def SKIP_CNT : Nat := kprReg 5 (0x24)
/-- KPR.SPIN+0028h CLAMP_CNT (file 06, R164). -/
def CLAMP_CNT : Nat := kprReg 5 (0x28)
/-- KPR.SPIN+002Ch SPIN_SAT (file 06, R69). -/
def SPIN_SAT : Nat := kprReg 5 (0x2c)
/-- SPIN_SAT.SAT [2:0] W1C. -/
def SPIN_SAT_SAT : Fld := ⟨SPIN_SAT, 2, 0⟩
/-- KPR.SPIN+0030h SPIN_CFG (file 06, R192). -/
def SPIN_CFG : Nat := kprReg 5 (0x30)
/-- SPIN_CFG.REF_PREF [3:2] RW. -/
def SPIN_CFG_REF_PREF : Fld := ⟨SPIN_CFG, 3, 2⟩
/-- SPIN_CFG.AUTO_CATCH [1:1] RW. -/
def SPIN_CFG_AUTO_CATCH : Fld := ⟨SPIN_CFG, 1, 1⟩
/-- KPR.SPIN+0034h SENSE_SCALE (file 06, R192). -/
def SENSE_SCALE : Nat := kprReg 5 (0x34)
/-- SENSE_SCALE.I_FS [31:16] RW. -/
def SENSE_SCALE_I_FS : Fld := ⟨SENSE_SCALE, 31, 16⟩
/-- SENSE_SCALE.V_DIV [15:0] RW. -/
def SENSE_SCALE_V_DIV : Fld := ⟨SENSE_SCALE, 15, 0⟩
/-- KPR.SPIN+1000h CUR_KP (file 06, R11). -/
def CUR_KP : Nat := kprReg 5 (0x1000)
/-- KPR.SPIN+1004h CUR_KI (file 06, R11). -/
def CUR_KI : Nat := kprReg 5 (0x1004)
/-- KPR.SPIN+1008h SPD_KP (file 06, R11). -/
def SPD_KP : Nat := kprReg 5 (0x1008)
/-- KPR.SPIN+100Ch SPD_KI (file 06, R11). -/
def SPD_KI : Nat := kprReg 5 (0x100c)
/-- KPR.SPIN+1010h PH_K (file 06, R11). -/
def PH_K : Nat := kprReg 5 (0x1010)
/-- KPR.SPIN+1014h PLAUS (file 06, R169). -/
def PLAUS : Nat := kprReg 5 (0x1014)
/-- PLAUS.JUMP_LIM [31:24] RW. -/
def PLAUS_JUMP_LIM : Fld := ⟨PLAUS, 31, 24⟩
/-- PLAUS.EMF_TOL [23:16] RW. -/
def PLAUS_EMF_TOL : Fld := ⟨PLAUS, 23, 16⟩
/-- PLAUS.CUR_TOL [15:8] RW. -/
def PLAUS_CUR_TOL : Fld := ⟨PLAUS, 15, 8⟩
/-- PLAUS.LOS_N [7:0] RW. -/
def PLAUS_LOS_N : Fld := ⟨PLAUS, 7, 0⟩
/-- KPR.SPIN+1018h SPIN_SAMPLE (file 06, R166). -/
def SPIN_SAMPLE : Nat := kprReg 5 (0x1018)
/-- SPIN_SAMPLE.SKIP_MAX [31:24] RW. -/
def SPIN_SAMPLE_SKIP_MAX : Fld := ⟨SPIN_SAMPLE, 31, 24⟩
/-- SPIN_SAMPLE.WINDOW_MIN [15:0] RW. -/
def SPIN_SAMPLE_WINDOW_MIN : Fld := ⟨SPIN_SAMPLE, 15, 0⟩
/-- KPR.SPIN+101Ch SPIN_BRAKE (file 06, R179). -/
def SPIN_BRAKE : Nat := kprReg 5 (0x101c)
/-- SPIN_BRAKE.BRK_I [31:16] RW. -/
def SPIN_BRAKE_BRK_I : Fld := ⟨SPIN_BRAKE, 31, 16⟩
/-- SPIN_BRAKE.BRK_MARGIN [15:0] RW. -/
def SPIN_BRAKE_BRK_MARGIN : Fld := ⟨SPIN_BRAKE, 15, 0⟩
/-- KPR.SPIN+1020h SPIN_STARTX (file 06, R180). -/
def SPIN_STARTX : Nat := kprReg 5 (0x1020)
/-- SPIN_STARTX.ALIGN_I [31:16] RW. -/
def SPIN_STARTX_ALIGN_I : Fld := ⟨SPIN_STARTX, 31, 16⟩
/-- SPIN_STARTX.HAND_RPM [7:0] RW. -/
def SPIN_STARTX_HAND_RPM : Fld := ⟨SPIN_STARTX, 7, 0⟩
/-- KPR.SPIN+1024h SPIN_RAMP (file 06, R180). -/
def SPIN_RAMP : Nat := kprReg 5 (0x1024)
/-- SPIN_RAMP.RAMP_RATE [31:16] RW. -/
def SPIN_RAMP_RAMP_RATE : Fld := ⟨SPIN_RAMP, 31, 16⟩
/-- SPIN_RAMP.OBS_MIN [15:0] RW. -/
def SPIN_RAMP_OBS_MIN : Fld := ⟨SPIN_RAMP, 15, 0⟩
/-- KPR.SPIN+1028h SPIN_GEN (file 06, R183). -/
def SPIN_GEN : Nat := kprReg 5 (0x1028)
/-- SPIN_GEN.GEN_V [31:16] RW. -/
def SPIN_GEN_GEN_V : Fld := ⟨SPIN_GEN, 31, 16⟩
/-- SPIN_GEN.FLY_RPM [15:0] RW. -/
def SPIN_GEN_FLY_RPM : Fld := ⟨SPIN_GEN, 15, 0⟩
/-- KPR.SPIN+102Ch SPIN_PWM (file 06, R164). -/
def SPIN_PWM : Nat := kprReg 5 (0x102c)
/-- KPR.SPIN+1030h SPIN_LOCKX (file 06, R173). -/
def SPIN_LOCKX : Nat := kprReg 5 (0x1030)
/-- SPIN_LOCKX.LOCK_WIN [15:0] RW. -/
def SPIN_LOCKX_LOCK_WIN : Fld := ⟨SPIN_LOCKX, 15, 0⟩
/-- KPR.SPIN+2000h SINE (file 06, R168). -/
def SINE (i : Nat) : Nat := kprReg 5 (0x2000 + 4 * i)
/-- KPR.CLASPS+0000h CLS_CMD (file 06, R188). -/
def CLS_CMD : Nat := kprReg 7 (0x0)
/-- KPR.CLASPS+0004h CLS_STAT (file 06, R187). -/
def CLS_STAT : Nat := kprReg 7 (0x4)
/-- CLS_STAT.PS_ID [31:16] RO. -/
def CLS_STAT_PS_ID : Fld := ⟨CLS_STAT, 31, 16⟩
/-- CLS_STAT.GEN [15:8] RO. -/
def CLS_STAT_GEN : Fld := ⟨CLS_STAT, 15, 8⟩
/-- CLS_STAT.BEATING [7:7] RO. -/
def CLS_STAT_BEATING : Fld := ⟨CLS_STAT, 7, 7⟩
/-- CLS_STAT.BRIDGE [6:6] RO. -/
def CLS_STAT_BRIDGE : Fld := ⟨CLS_STAT, 6, 6⟩
/-- CLS_STAT.QUEUED [5:5] RO. -/
def CLS_STAT_QUEUED : Fld := ⟨CLS_STAT, 5, 5⟩
/-- CLS_STAT.ARMED [3:0] RO. -/
def CLS_STAT_ARMED : Fld := ⟨CLS_STAT, 3, 0⟩
/-- KPR.CLASPS+0008h CLS_PSFAULT (file 06, R187). -/
def CLS_PSFAULT : Nat := kprReg 7 (0x8)
/-- KPR.CLASPS+000Ch CLS_ERR (file 06, R191). -/
def CLS_ERR : Nat := kprReg 7 (0xc)
/-- CLS_ERR.NO_REPLY [2:2] W1C. -/
def CLS_ERR_NO_REPLY : Fld := ⟨CLS_ERR, 2, 2⟩
/-- KPR.CLASPS+0010h CLS_ARG (file 06, R186). -/
def CLS_ARG : Nat := kprReg 7 (0x10)
/-- CLS_ARG.INDEX [23:16] RW. -/
def CLS_ARG_INDEX : Fld := ⟨CLS_ARG, 23, 16⟩
/-- CLS_ARG.VALUE [15:0] RW. -/
def CLS_ARG_VALUE : Fld := ⟨CLS_ARG, 15, 0⟩
/-- CH.AFE+0000h AFE_CTL (file 07, R204). -/
def AFE_CTL (n : Nat) : Nat := chReg n 1 (0x0)
/-- AFE_CTL.AGC_MODE [7:6] RW. -/
def AFE_CTL_AGC_MODE (n : Nat) : Fld := ⟨AFE_CTL n, 7, 6⟩
/-- AFE_CTL.RDR_EN [2:0] RW. -/
def AFE_CTL_RDR_EN (n : Nat) : Fld := ⟨AFE_CTL n, 2, 0⟩
/-- CH.AFE+0004h AFE_STAT (file 07, R204). -/
def AFE_STAT (n : Nat) : Nat := chReg n 1 (0x4)
/-- CH.AFE+0010h AFE_GAIN (file 07, R204). -/
def AFE_GAIN (n i : Nat) : Nat := chReg n 1 (0x10 + 4 * i)
/-- CH.AFE+1000h AFE_VGA (file 07, R204). -/
def AFE_VGA (n i : Nat) : Nat := chReg n 1 (0x1000 + 32 * i)
/-- AFE_VGA.V [15:0] RW. -/
def AFE_VGA_V (n i : Nat) : Fld := ⟨AFE_VGA n i, 15, 0⟩
/-- CH.AFE+1004h AFE_CTF (file 07, R204). -/
def AFE_CTF (n i : Nat) : Nat := chReg n 1 (0x1004 + 32 * i)
/-- CH.AFE+1008h AFE_HPF (file 07, R204). -/
def AFE_HPF (n i : Nat) : Nat := chReg n 1 (0x1008 + 32 * i)
/-- CH.AFE+100Ch AFE_MRA (file 07, R204). -/
def AFE_MRA (n i : Nat) : Nat := chReg n 1 (0x100c + 32 * i)
/-- CH.ADC+0000h ADC_STAT (file 07, R205). -/
def ADC_STAT (n : Nat) : Nat := chReg n 2 (0x0)
/-- ADC_STAT.SAT [6:4] W1C. -/
def ADC_STAT_SAT (n : Nat) : Fld := ⟨ADC_STAT n, 6, 4⟩
/-- CH.ADC+0010h CLIP_CNT (file 07, R205). -/
def CLIP_CNT (n i : Nat) : Nat := chReg n 2 (0x10 + 4 * i)
/-- CH.ADC+1000h ADC_SEL (file 07, R205). -/
def ADC_SEL (n i j : Nat) : Nat := chReg n 2 (0x1000 + 32 * i + 4 * j)
/-- CH.DETECT+0000h DET_CTL (file 07, R193). -/
def DET_CTL (n : Nat) : Nat := chReg n 3 (0x0)
/-- DET_CTL.SLIP_EN [2:2] RW. -/
def DET_CTL_SLIP_EN (n : Nat) : Fld := ⟨DET_CTL n, 2, 2⟩
/-- DET_CTL.ADAPT [1:1] RW. -/
def DET_CTL_ADAPT (n : Nat) : Fld := ⟨DET_CTL n, 1, 1⟩
/-- DET_CTL.EN [0:0] RW. -/
def DET_CTL_EN (n : Nat) : Fld := ⟨DET_CTL n, 0, 0⟩
/-- CH.DETECT+0004h FMT_SEL (file 07, R193). -/
def FMT_SEL (n : Nat) : Nat := chReg n 3 (0x4)
/-- CH.DETECT+0008h DQ_CFG (file 07, R221). -/
def DQ_CFG (n : Nat) : Nat := chReg n 3 (0x8)
/-- DQ_CFG.LEN [31:28] RW. -/
def DQ_CFG_LEN (n : Nat) : Fld := ⟨DQ_CFG n, 31, 28⟩
/-- DQ_CFG.BASE [15:0] RW. -/
def DQ_CFG_BASE (n : Nat) : Fld := ⟨DQ_CFG n, 15, 0⟩
/-- CH.DETECT+000Ch DQ_HEAD (file 07, R221). -/
def DQ_HEAD (n : Nat) : Nat := chReg n 3 (0xc)
/-- CH.DETECT+0010h DQ_TAIL (file 07, R221). -/
def DQ_TAIL (n : Nat) : Nat := chReg n 3 (0x10)
/-- CH.DETECT+0014h CQ_CFG (file 07, R223). -/
def CQ_CFG (n : Nat) : Nat := chReg n 3 (0x14)
/-- CQ_CFG.LEN [31:28] RW. -/
def CQ_CFG_LEN (n : Nat) : Fld := ⟨CQ_CFG n, 31, 28⟩
/-- CQ_CFG.BASE [15:0] RW. -/
def CQ_CFG_BASE (n : Nat) : Fld := ⟨CQ_CFG n, 15, 0⟩
/-- CH.DETECT+0018h CQ_HEAD (file 07, R223). -/
def CQ_HEAD (n : Nat) : Nat := chReg n 3 (0x18)
/-- CH.DETECT+001Ch CQ_TAIL (file 07, R223). -/
def CQ_TAIL (n : Nat) : Nat := chReg n 3 (0x1c)
/-- CH.DETECT+0020h DET_STAT (file 07, R213). -/
def DET_STAT (n : Nat) : Nat := chReg n 3 (0x20)
/-- DET_STAT.SLOT_BUSY [21:16] RO. -/
def DET_STAT_SLOT_BUSY (n : Nat) : Fld := ⟨DET_STAT n, 21, 16⟩
/-- DET_STAT.DECODING [6:6] RO. -/
def DET_STAT_DECODING (n : Nat) : Fld := ⟨DET_STAT n, 6, 6⟩
/-- DET_STAT.ZONE [5:0] RO. -/
def DET_STAT_ZONE (n : Nat) : Fld := ⟨DET_STAT n, 5, 0⟩
/-- CH.DETECT+0024h DET_ERR (file 07, R221). -/
def DET_ERR (n : Nat) : Nat := chReg n 3 (0x24)
/-- CH.DETECT+0028h DET_FIRST (file 07, R489). -/
def DET_FIRST (n : Nat) : Nat := chReg n 3 (0x28)
/-- CH.DETECT+0040h RCV_CMD (file 07, R225). -/
def RCV_CMD (n : Nat) : Nat := chReg n 3 (0x40)
/-- CH.DETECT+0044h RCV_BUDGET (file 07, R225). -/
def RCV_BUDGET (n : Nat) : Nat := chReg n 3 (0x44)
/-- RCV_BUDGET.MS [15:0] RW. -/
def RCV_BUDGET_MS (n : Nat) : Fld := ⟨RCV_BUDGET n, 15, 0⟩
/-- CH.DETECT+0048h RCV_STAT (file 07, R225). -/
def RCV_STAT (n : Nat) : Nat := chReg n 3 (0x48)
/-- RCV_STAT.BUSY [31:31] RO. -/
def RCV_STAT_BUSY (n : Nat) : Fld := ⟨RCV_STAT n, 31, 31⟩
/-- RCV_STAT.REJ [30:30] W1C. -/
def RCV_STAT_REJ (n : Nat) : Fld := ⟨RCV_STAT n, 30, 30⟩
/-- RCV_STAT.STEP [26:24] RO. -/
def RCV_STAT_STEP (n : Nat) : Fld := ⟨RCV_STAT n, 26, 24⟩
/-- RCV_STAT.REVS [23:16] RO. -/
def RCV_STAT_REVS (n : Nat) : Fld := ⟨RCV_STAT n, 23, 16⟩
/-- RCV_STAT.RESULT [15:8] RO. -/
def RCV_STAT_RESULT (n : Nat) : Fld := ⟨RCV_STAT n, 15, 8⟩
/-- CH.DETECT+004Ch RCV_CFG (file 07, R224). -/
def RCV_CFG (n : Nat) : Nat := chReg n 3 (0x4c)
/-- RCV_CFG.REREAD_N [31:28] RW. -/
def RCV_CFG_REREAD_N (n : Nat) : Fld := ⟨RCV_CFG n, 31, 28⟩
/-- RCV_CFG.COMB_N [27:24] RW. -/
def RCV_CFG_COMB_N (n : Nat) : Fld := ⟨RCV_CFG n, 27, 24⟩
/-- RCV_CFG.OFF_N [23:20] RW. -/
def RCV_CFG_OFF_N (n : Nat) : Fld := ⟨RCV_CFG n, 23, 20⟩
/-- RCV_CFG.OFF_STEP [11:0] RW. -/
def RCV_CFG_OFF_STEP (n : Nat) : Fld := ⟨RCV_CFG n, 11, 0⟩
/-- CH.DETECT+0060h RCV_DESC (file 07, R225). -/
def RCV_DESC (n i : Nat) : Nat := chReg n 3 (0x60 + 4 * i)
/-- CH.DETECT+0100h DZ_RATE (file 07, R194). -/
def DZ_RATE (n i : Nat) : Nat := chReg n 3 (0x100 + 8 * i)
/-- DZ_RATE.KHZ [22:0] RW. -/
def DZ_RATE_KHZ (n i : Nat) : Fld := ⟨DZ_RATE n i, 22, 0⟩
/-- CH.DETECT+0104h DZ_FMT (file 07, R194). -/
def DZ_FMT (n i : Nat) : Nat := chReg n 3 (0x104 + 8 * i)
/-- DZ_FMT.PRE [31:24] RW. -/
def DZ_FMT_PRE (n i : Nat) : Fld := ⟨DZ_FMT n i, 31, 24⟩
/-- DZ_FMT.GAP_POST [23:16] RW. -/
def DZ_FMT_GAP_POST (n i : Nat) : Fld := ⟨DZ_FMT n i, 23, 16⟩
/-- DZ_FMT.GAP_PRE [15:8] RW. -/
def DZ_FMT_GAP_PRE (n i : Nat) : Fld := ⟨DZ_FMT n i, 15, 8⟩
/-- CH.DETECT+0400h SECT_CNT_LO (file 07, R231). -/
def SECT_CNT_LO (n i : Nat) : Nat := chReg n 3 (0x400 + 8 * i)
/-- CH.DETECT+0404h SECT_CNT_HI (file 07, R231). -/
def SECT_CNT_HI (n i : Nat) : Nat := chReg n 3 (0x404 + 8 * i)
/-- CH.DETECT+0500h DET_CNT (file 07, R231). -/
def DET_CNT (n i : Nat) : Nat := chReg n 3 (0x500 + 4 * i)
/-- CH.DETECT+0510h DET_CNT_SAT (file 07, R69). -/
def DET_CNT_SAT (n : Nat) : Nat := chReg n 3 (0x510)
/-- DET_CNT_SAT.SAT [3:0] W1C. -/
def DET_CNT_SAT_SAT (n : Nat) : Fld := ⟨DET_CNT_SAT n, 3, 0⟩
/-- CH.DETECT+0514h DET_CNT_CLR (file 07, R231). -/
def DET_CNT_CLR (n : Nat) : Nat := chReg n 3 (0x514)
/-- CH.DETECT+1000h TIM_ACQ (file 07, R206). -/
def TIM_ACQ (n : Nat) : Nat := chReg n 3 (0x1000)
/-- CH.DETECT+1004h TIM_TRK (file 07, R206). -/
def TIM_TRK (n : Nat) : Nat := chReg n 3 (0x1004)
/-- CH.DETECT+1008h TIM_CFG (file 07, R208). -/
def TIM_CFG (n : Nat) : Nat := chReg n 3 (0x1008)
/-- CH.DETECT+100Ch SYNC_CFG (file 07, R216). -/
def SYNC_CFG (n : Nat) : Nat := chReg n 3 (0x100c)
/-- SYNC_CFG.SYNC_WIN [29:24] RW. -/
def SYNC_CFG_SYNC_WIN (n : Nat) : Fld := ⟨SYNC_CFG n, 29, 24⟩
/-- SYNC_CFG.SM_THR [20:16] RW. -/
def SYNC_CFG_SM_THR (n : Nat) : Fld := ⟨SYNC_CFG n, 20, 16⟩
/-- SYNC_CFG.FM_WIN [12:8] RW. -/
def SYNC_CFG_FM_WIN (n : Nat) : Fld := ⟨SYNC_CFG n, 12, 8⟩
/-- SYNC_CFG.FM_THR [4:0] RW. -/
def SYNC_CFG_FM_THR (n : Nat) : Fld := ⟨SYNC_CFG n, 4, 0⟩
/-- CH.DETECT+1010h SM1_PAT (file 07, R216). -/
def SM1_PAT (n : Nat) : Nat := chReg n 3 (0x1010)
/-- CH.DETECT+1014h SM2_PAT (file 07, R216). -/
def SM2_PAT (n : Nat) : Nat := chReg n 3 (0x1014)
/-- CH.DETECT+1018h FM_PAT (file 07, R216). -/
def FM_PAT (n : Nat) : Nat := chReg n 3 (0x1018)
/-- CH.DETECT+101Ch ADAPT_CFG (file 07, R211). -/
def ADAPT_CFG (n : Nat) : Nat := chReg n 3 (0x101c)
/-- CH.DETECT+1020h DELAY0 (file 07, R207). -/
def DELAY0 (n : Nat) : Nat := chReg n 3 (0x1020)
/-- CH.DETECT+1024h DELAY1 (file 07, R207). -/
def DELAY1 (n : Nat) : Nat := chReg n 3 (0x1024)
/-- CH.DETECT+1028h DELAY2 (file 07, R207). -/
def DELAY2 (n : Nat) : Nat := chReg n 3 (0x1028)
/-- CH.DETECT+1040h EQ_TAP0 (file 07, R209). -/
def EQ_TAP0 (n i : Nat) : Nat := chReg n 3 (0x1040 + 4 * i)
/-- CH.DETECT+1080h EQ_TAP1_LO (file 07, R209). -/
def EQ_TAP1_LO (n i : Nat) : Nat := chReg n 3 (0x1080 + 4 * i)
/-- CH.DETECT+109Ch EQ_TAP1_MID (file 07, R209). -/
def EQ_TAP1_MID (n : Nat) : Nat := chReg n 3 (0x109c)
/-- CH.DETECT+10A0h EQ_TAP1_HI (file 07, R209). -/
def EQ_TAP1_HI (n i : Nat) : Nat := chReg n 3 (0x10a0 + 4 * i)
/-- CH.DETECT+10C0h EQ_TAP2 (file 07, R209). -/
def EQ_TAP2 (n i : Nat) : Nat := chReg n 3 (0x10c0 + 4 * i)
/-- CH.DETECT+1100h TARGET_G (file 07, R209). -/
def TARGET_G (n i : Nat) : Nat := chReg n 3 (0x1100 + 4 * i)
/-- CH.DETECT+1120h PREDICTOR (file 07, R210). -/
def PREDICTOR (n i : Nat) : Nat := chReg n 3 (0x1120 + 4 * i)
/-- CH.DETECT+1200h MSE (file 07, R211). -/
def MSE (n : Nat) : Nat := chReg n 3 (0x1200)
/-- CH.LDPC+0000h LDPC_CFG (file 07, R212). -/
def LDPC_CFG (n : Nat) : Nat := chReg n 4 (0x0)
/-- LDPC_CFG.ITER_RCV [30:24] RW. -/
def LDPC_CFG_ITER_RCV (n : Nat) : Fld := ⟨LDPC_CFG n, 30, 24⟩
/-- LDPC_CFG.ITER_OTF [22:16] RW. -/
def LDPC_CFG_ITER_OTF (n : Nat) : Fld := ⟨LDPC_CFG n, 22, 16⟩
/-- LDPC_CFG.ITER_SLIP [14:8] RW. -/
def LDPC_CFG_ITER_SLIP (n : Nat) : Fld := ⟨LDPC_CFG n, 14, 8⟩
/-- CH.LDPC+0004h LDPC_STAT (file 07, R212). -/
def LDPC_STAT (n : Nat) : Nat := chReg n 4 (0x4)
/-- LDPC_STAT.BUSY [31:31] RO. -/
def LDPC_STAT_BUSY (n : Nat) : Fld := ⟨LDPC_STAT n, 31, 31⟩
/-- LDPC_STAT.LAST_ITER [22:16] RO. -/
def LDPC_STAT_LAST_ITER (n : Nat) : Fld := ⟨LDPC_STAT n, 22, 16⟩
/-- LDPC_STAT.LAST_SYN [12:0] RO. -/
def LDPC_STAT_LAST_SYN (n : Nat) : Fld := ⟨LDPC_STAT n, 12, 0⟩
/-- CH.LDPC+0010h SJ_DESC (file 07, R230). -/
def SJ_DESC (n : Nat) : Nat := chReg n 4 (0x10)
/-- SJ_DESC.BASE [13:0] RW. -/
def SJ_DESC_BASE (n : Nat) : Fld := ⟨SJ_DESC n, 13, 0⟩
/-- CH.LDPC+0014h SJ_PRIOR (file 07, R230). -/
def SJ_PRIOR (n : Nat) : Nat := chReg n 4 (0x14)
/-- CH.LDPC+0018h SJ_CMD (file 07, R230). -/
def SJ_CMD (n : Nat) : Nat := chReg n 4 (0x18)
/-- CH.LDPC+001Ch SJ_STAT (file 07, R230). -/
def SJ_STAT (n : Nat) : Nat := chReg n 4 (0x1c)
/-- SJ_STAT.BUSY [31:31] RO. -/
def SJ_STAT_BUSY (n : Nat) : Fld := ⟨SJ_STAT n, 31, 31⟩
/-- SJ_STAT.DONE [30:30] W1C. -/
def SJ_STAT_DONE (n : Nat) : Fld := ⟨SJ_STAT n, 30, 30⟩
/-- SJ_STAT.ITER [14:8] RO. -/
def SJ_STAT_ITER (n : Nat) : Fld := ⟨SJ_STAT n, 14, 8⟩
/-- SJ_STAT.RESULT [7:0] RO. -/
def SJ_STAT_RESULT (n : Nat) : Fld := ⟨SJ_STAT n, 7, 0⟩
/-- CH.LDPC+0200h HIST_LO (file 07, R231). -/
def HIST_LO (n i : Nat) : Nat := chReg n 4 (0x200 + 8 * i)
/-- CH.LDPC+0204h HIST_HI (file 07, R231). -/
def HIST_HI (n i : Nat) : Nat := chReg n 4 (0x204 + 8 * i)
/-- CH.LDPC+1000h MS_CFG (file 07, R212). -/
def MS_CFG (n : Nat) : Nat := chReg n 4 (0x1000)
/-- CH.LDPC+1004h SLIP_THR (file 07, R219). -/
def SLIP_THR (n : Nat) : Nat := chReg n 4 (0x1004)
/-- SLIP_THR.THR [12:0] RW. -/
def SLIP_THR_THR (n : Nat) : Fld := ⟨SLIP_THR n, 12, 0⟩
/-- CH.LDPC+1008h ES_THR (file 07, R212). -/
def ES_THR (n : Nat) : Nat := chReg n 4 (0x1008)
/-- CH.WRITE+0000h WR_CTL (file 08, R232). -/
def WR_CTL (n : Nat) : Nat := chReg n 5 (0x0)
/-- WR_CTL.EN [0:0] RW. -/
def WR_CTL_EN (n : Nat) : Fld := ⟨WR_CTL n, 0, 0⟩
/-- CH.WRITE+0004h WR_POLICY (file 08, R238). -/
def WR_POLICY (n : Nat) : Nat := chReg n 5 (0x4)
/-- WR_POLICY.PRECOMP_LVL [1:0] RW. -/
def WR_POLICY_PRECOMP_LVL (n : Nat) : Fld := ⟨WR_POLICY n, 1, 0⟩
/-- CH.WRITE+0008h WQ_CFG (file 08, R232). -/
def WQ_CFG (n : Nat) : Nat := chReg n 5 (0x8)
/-- WQ_CFG.LEN [31:28] RW. -/
def WQ_CFG_LEN (n : Nat) : Fld := ⟨WQ_CFG n, 31, 28⟩
/-- WQ_CFG.BASE [15:0] RW. -/
def WQ_CFG_BASE (n : Nat) : Fld := ⟨WQ_CFG n, 15, 0⟩
/-- CH.WRITE+000Ch WQ_HEAD (file 08, R232). -/
def WQ_HEAD (n : Nat) : Nat := chReg n 5 (0xc)
/-- CH.WRITE+0010h WQ_TAIL (file 08, R232). -/
def WQ_TAIL (n : Nat) : Nat := chReg n 5 (0x10)
/-- CH.WRITE+0014h WC_CFG (file 08, R237). -/
def WC_CFG (n : Nat) : Nat := chReg n 5 (0x14)
/-- WC_CFG.LEN [31:28] RW. -/
def WC_CFG_LEN (n : Nat) : Fld := ⟨WC_CFG n, 31, 28⟩
/-- WC_CFG.BASE [15:0] RW. -/
def WC_CFG_BASE (n : Nat) : Fld := ⟨WC_CFG n, 15, 0⟩
/-- CH.WRITE+0018h WC_HEAD (file 08, R237). -/
def WC_HEAD (n : Nat) : Nat := chReg n 5 (0x18)
/-- CH.WRITE+001Ch WC_TAIL (file 08, R237). -/
def WC_TAIL (n : Nat) : Nat := chReg n 5 (0x1c)
/-- CH.WRITE+0020h WR_STAT (file 08, R247). -/
def WR_STAT (n : Nat) : Nat := chReg n 5 (0x20)
/-- WR_STAT.HEAD_WDIS [13:8] W1C. -/
def WR_STAT_HEAD_WDIS (n : Nat) : Fld := ⟨WR_STAT n, 13, 8⟩
/-- WR_STAT.GATE [1:1] RO. -/
def WR_STAT_GATE (n : Nat) : Fld := ⟨WR_STAT n, 1, 1⟩
/-- WR_STAT.ENC_BUSY [0:0] RO. -/
def WR_STAT_ENC_BUSY (n : Nat) : Fld := ⟨WR_STAT n, 0, 0⟩
/-- CH.WRITE+0024h WR_ERR (file 08, R236). -/
def WR_ERR (n : Nat) : Nat := chReg n 5 (0x24)
/-- CH.WRITE+0028h WR_FIRST (file 08, R489). -/
def WR_FIRST (n : Nat) : Nat := chReg n 5 (0x28)
/-- CH.WRITE+0040h WR_HEAD (file 08, R257). -/
def WR_HEAD (n i : Nat) : Nat := chReg n 5 (0x40 + 4 * i)
/-- WR_HEAD.OSD [23:16] RW. -/
def WR_HEAD_OSD (n i : Nat) : Fld := ⟨WR_HEAD n i, 23, 16⟩
/-- WR_HEAD.OSA [15:8] RW. -/
def WR_HEAD_OSA (n i : Nat) : Fld := ⟨WR_HEAD n i, 15, 8⟩
/-- WR_HEAD.WCUR [7:0] RW. -/
def WR_HEAD_WCUR (n i : Nat) : Fld := ⟨WR_HEAD n i, 7, 0⟩
/-- CH.WRITE+0400h WSECT_LO (file 08, R237). -/
def WSECT_LO (n i : Nat) : Nat := chReg n 5 (0x400 + 8 * i)
/-- CH.WRITE+0404h WSECT_HI (file 08, R237). -/
def WSECT_HI (n i : Nat) : Nat := chReg n 5 (0x404 + 8 * i)
/-- CH.WRITE+0500h WNO_DESC_CNT (file 08, R232). -/
def WNO_DESC_CNT (n : Nat) : Nat := chReg n 5 (0x500)
/-- CH.WRITE+0504h WCNT_SAT (file 08, R69). -/
def WCNT_SAT (n : Nat) : Nat := chReg n 5 (0x504)
/-- WCNT_SAT.SAT [0:0] W1C. -/
def WCNT_SAT_SAT (n : Nat) : Fld := ⟨WCNT_SAT n, 0, 0⟩
/-- CH.WRITE+0508h WCNT_CLR (file 08, R69). -/
def WCNT_CLR (n : Nat) : Nat := chReg n 5 (0x508)
/-- CH.WRITE+1000h PRECOMP (file 08, R238). -/
def PRECOMP (n i : Nat) : Nat := chReg n 5 (0x1000 + 4 * i)
/-- CH.WRITE+1040h WG_TIMING (file 08, R239). -/
def WG_TIMING (n : Nat) : Nat := chReg n 5 (0x1040)
/-- WG_TIMING.WG_LEAD [7:0] RW. -/
def WG_TIMING_WG_LEAD (n : Nat) : Fld := ⟨WG_TIMING n, 7, 0⟩
/-- CH.ASSIST+0000h AS_CTL (file 08, R242). -/
def AS_CTL (n : Nat) : Nat := chReg n 6 (0x0)
/-- AS_CTL.HOP_ACT [1:1] RW. -/
def AS_CTL_HOP_ACT (n : Nat) : Fld := ⟨AS_CTL n, 1, 1⟩
/-- AS_CTL.EN [0:0] RW. -/
def AS_CTL_EN (n : Nat) : Fld := ⟨AS_CTL n, 0, 0⟩
/-- CH.ASSIST+0004h AS_STAT (file 08, R242). -/
def AS_STAT (n : Nat) : Nat := chReg n 6 (0x4)
/-- AS_STAT.ACTIVE [31:31] RO. -/
def AS_STAT_ACTIVE (n : Nat) : Fld := ⟨AS_STAT n, 31, 31⟩
/-- AS_STAT.HOP [30:30] W1C. -/
def AS_STAT_HOP (n : Nat) : Fld := ⟨AS_STAT n, 30, 30⟩
/-- AS_STAT.SP [15:0] RO. -/
def AS_STAT_SP (n : Nat) : Fld := ⟨AS_STAT n, 15, 0⟩
/-- CH.ASSIST+0008h AS_FAULT (file 08, R247). -/
def AS_FAULT (n : Nat) : Nat := chReg n 6 (0x8)
/-- CH.ASSIST+000Ch AS_FIRST (file 08, R489). -/
def AS_FIRST (n : Nat) : Nat := chReg n 6 (0xc)
/-- CH.ASSIST+0010h AS_LEVEL (file 08, R242). -/
def AS_LEVEL (n i : Nat) : Nat := chReg n 6 (0x10 + 4 * i)
/-- CH.ASSIST+0030h AS_TC (file 08, R242). -/
def AS_TC (n i : Nat) : Nat := chReg n 6 (0x30 + 4 * i)
/-- CH.ASSIST+0050h AS_PREHEAT (file 08, R245). -/
def AS_PREHEAT (n : Nat) : Nat := chReg n 6 (0x50)
/-- AS_PREHEAT.LEAD [28:16] RW. -/
def AS_PREHEAT_LEAD (n : Nat) : Fld := ⟨AS_PREHEAT n, 28, 16⟩
/-- AS_PREHEAT.PH_LEVEL [15:0] RW. -/
def AS_PREHEAT_PH_LEVEL (n : Nat) : Fld := ⟨AS_PREHEAT n, 15, 0⟩
/-- CH.ASSIST+0060h HOP_CNT (file 08, R246). -/
def HOP_CNT (n : Nat) : Nat := chReg n 6 (0x60)
/-- CH.ASSIST+0064h AS_DAC (file 08, R243). -/
def AS_DAC (n : Nat) : Nat := chReg n 6 (0x64)
/-- CH.ASSIST+0068h AS_CNT_SAT (file 08, R69). -/
def AS_CNT_SAT (n : Nat) : Nat := chReg n 6 (0x68)
/-- AS_CNT_SAT.SAT [0:0] W1C. -/
def AS_CNT_SAT_SAT (n : Nat) : Fld := ⟨AS_CNT_SAT n, 0, 0⟩
/-- CH.ASSIST+0100h AS_ZONE (file 08, R242). -/
def AS_ZONE (n i : Nat) : Nat := chReg n 6 (0x100 + 4 * i)
/-- CH.ASSIST+1000h SLOPE (file 08, R242). -/
def SLOPE (n i : Nat) : Nat := chReg n 6 (0x1000 + 4 * i)
/-- SLOPE.V [15:0] RW. -/
def SLOPE_V (n i : Nat) : Fld := ⟨SLOPE n i, 15, 0⟩
/-- CH.ASSIST+1020h CORR (file 08, R243). -/
def CORR (n i : Nat) : Nat := chReg n 6 (0x1020 + 4 * i)
/-- CH.ASSIST+1040h AS_LOOP (file 08, R243). -/
def AS_LOOP (n : Nat) : Nat := chReg n 6 (0x1040)
/-- AS_LOOP.KI [31:16] RW. -/
def AS_LOOP_KI (n : Nat) : Fld := ⟨AS_LOOP n, 31, 16⟩
/-- AS_LOOP.HOP_THR [7:0] RW. -/
def AS_LOOP_HOP_THR (n : Nat) : Fld := ⟨AS_LOOP n, 7, 0⟩
/-- CH.ASSIST+1044h AS_LIM (file 08, R247). -/
def AS_LIM (n : Nat) : Nat := chReg n 6 (0x1044)
/-- AS_LIM.MON_MIN [31:24] RW. -/
def AS_LIM_MON_MIN (n : Nat) : Fld := ⟨AS_LIM n, 31, 24⟩
/-- AS_LIM.SAT_LIM [23:16] RW. -/
def AS_LIM_SAT_LIM (n : Nat) : Fld := ⟨AS_LIM n, 23, 16⟩
/-- CH.ASSIST+1080h SHAPE_A (file 08, R245). -/
def SHAPE_A (n i : Nat) : Nat := chReg n 6 (0x1080 + 16 * i)
/-- SHAPE_A.LEAD [28:16] RW. -/
def SHAPE_A_LEAD (n i : Nat) : Fld := ⟨SHAPE_A n i, 28, 16⟩
/-- CH.ASSIST+1084h SHAPE_B (file 08, R245). -/
def SHAPE_B (n i : Nat) : Nat := chReg n 6 (0x1084 + 16 * i)
/-- CH.ASSIST+1088h SHAPE_C (file 08, R245). -/
def SHAPE_C (n i : Nat) : Nat := chReg n 6 (0x1088 + 16 * i)
/-- SHAPE_C.CONT_LEAD [7:0] RW. -/
def SHAPE_C_CONT_LEAD (n i : Nat) : Fld := ⟨SHAPE_C n i, 7, 0⟩
/-- CH.ASSIST+1100h SEG_MAP_LO (file 08, R241). -/
def SEG_MAP_LO (n : Nat) : Nat := chReg n 6 (0x1100)
/-- CH.ASSIST+1104h SEG_MAP_HI (file 08, R241). -/
def SEG_MAP_HI (n : Nat) : Nat := chReg n 6 (0x1104)
/-- CH.FLY+0000h FLY_CTL (file 08, R249). -/
def FLY_CTL (n : Nat) : Nat := chReg n 7 (0x0)
/-- FLY_CTL.EN [0:0] RW. -/
def FLY_CTL_EN (n : Nat) : Fld := ⟨FLY_CTL n, 0, 0⟩
/-- CH.FLY+0004h FLY_STAT (file 08, R250). -/
def FLY_STAT (n : Nat) : Nat := chReg n 7 (0x4)
/-- FLY_STAT.BUSY [31:31] RO. -/
def FLY_STAT_BUSY (n : Nat) : Fld := ⟨FLY_STAT n, 31, 31⟩
/-- FLY_STAT.DONE [30:30] W1C. -/
def FLY_STAT_DONE (n : Nat) : Fld := ⟨FLY_STAT n, 30, 30⟩
/-- FLY_STAT.DISAGREE [29:29] W1C. -/
def FLY_STAT_DISAGREE (n : Nat) : Fld := ⟨FLY_STAT n, 29, 29⟩
/-- FLY_STAT.CREJ [28:28] W1C. -/
def FLY_STAT_CREJ (n : Nat) : Fld := ⟨FLY_STAT n, 28, 28⟩
/-- FLY_STAT.UNCAL [5:0] RO. -/
def FLY_STAT_UNCAL (n : Nat) : Fld := ⟨FLY_STAT n, 5, 0⟩
/-- CH.FLY+0008h FLY_REQ (file 08, R249). -/
def FLY_REQ (n : Nat) : Nat := chReg n 7 (0x8)
/-- FLY_REQ.WRITE [0:0] RW. -/
def FLY_REQ_WRITE (n : Nat) : Fld := ⟨FLY_REQ n, 0, 0⟩
/-- CH.FLY+000Ch FLY_CCMD (file 08, R250). -/
def FLY_CCMD (n : Nat) : Nat := chReg n 7 (0xc)
/-- CH.FLY+0010h FLY_CLR (file 08, R248). -/
def FLY_CLR (n i : Nat) : Nat := chReg n 7 (0x10 + 4 * i)
/-- FLY_CLR.CLR_W [31:16] RW. -/
def FLY_CLR_CLR_W (n i : Nat) : Fld := ⟨FLY_CLR n i, 31, 16⟩
/-- FLY_CLR.CLR_R [15:0] RW. -/
def FLY_CLR_CLR_R (n i : Nat) : Fld := ⟨FLY_CLR n i, 15, 0⟩
/-- CH.FLY+0030h FLY_EFF (file 08, R248). -/
def FLY_EFF (n i : Nat) : Nat := chReg n 7 (0x30 + 4 * i)
/-- FLY_EFF.EFF [15:0] RW. -/
def FLY_EFF_EFF (n i : Nat) : Fld := ⟨FLY_EFF n i, 15, 0⟩
/-- CH.FLY+0050h FLY_PROT (file 08, R248). -/
def FLY_PROT (n i : Nat) : Nat := chReg n 7 (0x50 + 4 * i)
/-- FLY_PROT.PROT [11:0] RW. -/
def FLY_PROT_PROT (n i : Nat) : Fld := ⟨FLY_PROT n i, 11, 0⟩
/-- CH.FLY+0070h FLY_PC (file 08, R248). -/
def FLY_PC (n i : Nat) : Nat := chReg n 7 (0x70 + 4 * i)
/-- FLY_PC.PC [11:0] RO. -/
def FLY_PC_PC (n i : Nat) : Fld := ⟨FLY_PC n i, 11, 0⟩
/-- CH.FLY+0090h FLY_CFG (file 08, R249). -/
def FLY_CFG (n : Nat) : Nat := chReg n 7 (0x90)
/-- FLY_CFG.HTR_SETTLE [31:24] RW. -/
def FLY_CFG_HTR_SETTLE (n : Nat) : Fld := ⟨FLY_CFG n, 31, 24⟩
/-- FLY_CFG.STEP [23:16] RW. -/
def FLY_CFG_STEP (n : Nat) : Fld := ⟨FLY_CFG n, 23, 16⟩
/-- FLY_CFG.RATIO [15:8] RW. -/
def FLY_CFG_RATIO (n : Nat) : Fld := ⟨FLY_CFG n, 15, 8⟩
/-- FLY_CFG.CTOL [7:0] RW. -/
def FLY_CFG_CTOL (n : Nat) : Fld := ⟨FLY_CFG n, 7, 0⟩
/-- CH.FLY+0094h FLY_CCOUNT (file 08, R250). -/
def FLY_CCOUNT (n : Nat) : Nat := chReg n 7 (0x94)
/-- FLY_CCOUNT.COUNT [23:0] RO. -/
def FLY_CCOUNT_COUNT (n : Nat) : Fld := ⟨FLY_CCOUNT n, 23, 0⟩
/-- CH.FLY+0098h FLY_CTIME_LO (file 08, R250). -/
def FLY_CTIME_LO (n : Nat) : Nat := chReg n 7 (0x98)
/-- CH.FLY+009Ch FLY_CTIME_HI (file 08, R250). -/
def FLY_CTIME_HI (n : Nat) : Nat := chReg n 7 (0x9c)
/-- CH.FLY+1000h FLY_PR (file 08, R248). -/
def FLY_PR (n i : Nat) : Nat := chReg n 7 (0x1000 + 8 * i)
/-- FLY_PR.P [11:0] RW. -/
def FLY_PR_P (n i : Nat) : Fld := ⟨FLY_PR n i, 11, 0⟩
/-- CH.FLY+1004h FLY_PW (file 08, R248). -/
def FLY_PW (n i : Nat) : Nat := chReg n 7 (0x1004 + 8 * i)
/-- FLY_PW.P [11:0] RW. -/
def FLY_PW_P (n i : Nat) : Fld := ⟨FLY_PW n i, 11, 0⟩
/-- CH.PREAMP+0000h PA_CTL (file 08, R252). -/
def PA_CTL (n : Nat) : Nat := chReg n 12 (0x0)
/-- PA_CTL.RUN [0:0] RW. -/
def PA_CTL_RUN (n : Nat) : Fld := ⟨PA_CTL n, 0, 0⟩
/-- CH.PREAMP+0004h PA_CMD (file 08, R258). -/
def PA_CMD (n : Nat) : Nat := chReg n 12 (0x4)
/-- CH.PREAMP+0008h PA_STAT (file 08, R259). -/
def PA_STAT (n : Nat) : Nat := chReg n 12 (0x8)
/-- PA_STAT.FLT [31:24] RO. -/
def PA_STAT_FLT (n : Nat) : Fld := ⟨PA_STAT n, 31, 24⟩
/-- PA_STAT.AMON [23:8] RO. -/
def PA_STAT_AMON (n : Nat) : Fld := ⟨PA_STAT n, 23, 8⟩
/-- PA_STAT.HEAD [7:4] RO. -/
def PA_STAT_HEAD (n : Nat) : Fld := ⟨PA_STAT n, 7, 4⟩
/-- PA_STAT.ARMED [3:3] RO. -/
def PA_STAT_ARMED (n : Nat) : Fld := ⟨PA_STAT n, 3, 3⟩
/-- PA_STAT.FLTN [2:2] RO. -/
def PA_STAT_FLTN (n : Nat) : Fld := ⟨PA_STAT n, 2, 2⟩
/-- PA_STAT.MODE [1:0] RO. -/
def PA_STAT_MODE (n : Nat) : Fld := ⟨PA_STAT n, 1, 0⟩
/-- CH.PREAMP+000Ch PA_FAULT (file 08, R259). -/
def PA_FAULT (n : Nat) : Nat := chReg n 12 (0xc)
/-- PA_FAULT.NO_REPLY [1:1] W1C. -/
def PA_FAULT_NO_REPLY (n : Nat) : Fld := ⟨PA_FAULT n, 1, 1⟩
/-- CH.PREAMP+0010h PA_FIRST (file 08, R489). -/
def PA_FIRST (n : Nat) : Nat := chReg n 12 (0x10)
/-- CH.PREAMP+0014h PA_QCMD (file 08, R257). -/
def PA_QCMD (n : Nat) : Nat := chReg n 12 (0x14)
/-- PA_QCMD.GO [31:31] WO. -/
def PA_QCMD_GO (n : Nat) : Fld := ⟨PA_QCMD n, 31, 31⟩
/-- CH.PREAMP+0018h PA_QRSP (file 08, R257). -/
def PA_QRSP (n : Nat) : Nat := chReg n 12 (0x18)
/-- PA_QRSP.BUSY [31:31] RO. -/
def PA_QRSP_BUSY (n : Nat) : Fld := ⟨PA_QRSP n, 31, 31⟩
/-- PA_QRSP.DONE [30:30] W1C. -/
def PA_QRSP_DONE (n : Nat) : Fld := ⟨PA_QRSP n, 30, 30⟩
/-- PA_QRSP.BAD [29:29] RO. -/
def PA_QRSP_BAD (n : Nat) : Fld := ⟨PA_QRSP n, 29, 29⟩
/-- PA_QRSP.FLT [23:16] RO. -/
def PA_QRSP_FLT (n : Nat) : Fld := ⟨PA_QRSP n, 23, 16⟩
/-- PA_QRSP.DATA [15:0] RO. -/
def PA_QRSP_DATA (n : Nat) : Fld := ⟨PA_QRSP n, 15, 0⟩
/-- CH.PREAMP+0020h REPLY_ERR (file 08, R260). -/
def REPLY_ERR (n : Nat) : Nat := chReg n 12 (0x20)
/-- CH.PREAMP+0024h FRAME_CNT (file 08, R259). -/
def FRAME_CNT (n : Nat) : Nat := chReg n 12 (0x24)
/-- CH.PREAMP+0028h PA_CNT_SAT (file 08, R69). -/
def PA_CNT_SAT (n : Nat) : Nat := chReg n 12 (0x28)
/-- PA_CNT_SAT.SAT [1:0] W1C. -/
def PA_CNT_SAT_SAT (n : Nat) : Fld := ⟨PA_CNT_SAT n, 1, 0⟩
/-- HUB.FOLIO+0000h FOL_CTL (file 09, R274). -/
def FOL_CTL : Nat := hubReg 9 (0x0)
/-- FOL_CTL.EN [0:0] RW. -/
def FOL_CTL_EN : Fld := ⟨FOL_CTL, 0, 0⟩
/-- HUB.FOLIO+0004h FQ_CFG (file 09, R274). -/
def FQ_CFG : Nat := hubReg 9 (0x4)
/-- FQ_CFG.LEN [31:28] RW. -/
def FQ_CFG_LEN : Fld := ⟨FQ_CFG, 31, 28⟩
/-- FQ_CFG.BASE [14:0] RW. -/
def FQ_CFG_BASE : Fld := ⟨FQ_CFG, 14, 0⟩
/-- HUB.FOLIO+0008h FQ_HEAD (file 09, R274). -/
def FQ_HEAD : Nat := hubReg 9 (0x8)
/-- HUB.FOLIO+000Ch FQ_TAIL (file 09, R274). -/
def FQ_TAIL : Nat := hubReg 9 (0xc)
/-- HUB.FOLIO+0010h FC_CFG (file 09, R274). -/
def FC_CFG : Nat := hubReg 9 (0x10)
/-- FC_CFG.LEN [31:28] RW. -/
def FC_CFG_LEN : Fld := ⟨FC_CFG, 31, 28⟩
/-- FC_CFG.BASE [14:0] RW. -/
def FC_CFG_BASE : Fld := ⟨FC_CFG, 14, 0⟩
/-- HUB.FOLIO+0014h FC_HEAD (file 09, R274). -/
def FC_HEAD : Nat := hubReg 9 (0x14)
/-- HUB.FOLIO+0018h FC_TAIL (file 09, R274). -/
def FC_TAIL : Nat := hubReg 9 (0x18)
/-- HUB.FOLIO+0020h FOL_STAT (file 09, R274). -/
def FOL_STAT : Nat := hubReg 9 (0x20)
/-- HUB.FOLIO+0024h FOL_ERR (file 09, R274). -/
def FOL_ERR : Nat := hubReg 9 (0x24)
/-- HUB.FOLIO+0028h FOL_FIRST (file 09, R489). -/
def FOL_FIRST : Nat := hubReg 9 (0x28)
/-- HUB.FOLIO+0400h FOL_CNT_LO (file 09, R68). -/
def FOL_CNT_LO (i : Nat) : Nat := hubReg 9 (0x400 + 8 * i)
/-- HUB.FOLIO+0404h FOL_CNT_HI (file 09, R68). -/
def FOL_CNT_HI (i : Nat) : Nat := hubReg 9 (0x404 + 8 * i)
/-- HUB.CATALOGUE+0000h CAT_CTL (file 09, R287). -/
def CAT_CTL : Nat := hubReg 10 (0x0)
/-- CAT_CTL.CHAIN_LIM [31:16] RW. -/
def CAT_CTL_CHAIN_LIM : Fld := ⟨CAT_CTL, 31, 16⟩
/-- CAT_CTL.EN [0:0] RW. -/
def CAT_CTL_EN : Fld := ⟨CAT_CTL, 0, 0⟩
/-- HUB.CATALOGUE+0004h CAT_STAT (file 09, R287). -/
def CAT_STAT : Nat := hubReg 10 (0x4)
/-- CAT_STAT.REPLAY [1:1] RO. -/
def CAT_STAT_REPLAY : Fld := ⟨CAT_STAT, 1, 1⟩
/-- HUB.CATALOGUE+0008h CAT_ERR (file 09, R279). -/
def CAT_ERR : Nat := hubReg 10 (0x8)
/-- HUB.CATALOGUE+000Ch CAT_FIRST (file 09, R489). -/
def CAT_FIRST : Nat := hubReg 10 (0xc)
/-- HUB.CATALOGUE+0010h ZT_BASE_LO (file 09, R263). -/
def ZT_BASE_LO : Nat := hubReg 10 (0x10)
/-- HUB.CATALOGUE+0014h ZT_BASE_HI (file 09, R263). -/
def ZT_BASE_HI : Nat := hubReg 10 (0x14)
/-- HUB.CATALOGUE+0018h ZONES (file 09, R263). -/
def ZONES : Nat := hubReg 10 (0x18)
/-- HUB.CATALOGUE+001Ch BT_BASE_LO (file 09, R266). -/
def BT_BASE_LO : Nat := hubReg 10 (0x1c)
/-- HUB.CATALOGUE+0020h BT_BASE_HI (file 09, R266). -/
def BT_BASE_HI : Nat := hubReg 10 (0x20)
/-- HUB.CATALOGUE+0024h BANDS (file 09, R266). -/
def BANDS : Nat := hubReg 10 (0x24)
/-- HUB.CATALOGUE+0028h SM_BASE_LO (file 09, R276). -/
def SM_BASE_LO : Nat := hubReg 10 (0x28)
/-- HUB.CATALOGUE+002Ch SM_BASE_HI (file 09, R276). -/
def SM_BASE_HI : Nat := hubReg 10 (0x2c)
/-- HUB.CATALOGUE+0030h SM_TOTAL (file 09, R278). -/
def SM_TOTAL : Nat := hubReg 10 (0x30)
/-- HUB.CATALOGUE+0034h SM_FREE (file 09, R278). -/
def SM_FREE : Nat := hubReg 10 (0x34)
/-- HUB.CATALOGUE+0040h RQ_CFG (file 09, R277). -/
def RQ_CFG : Nat := hubReg 10 (0x40)
/-- RQ_CFG.LEN [31:28] RW. -/
def RQ_CFG_LEN : Fld := ⟨RQ_CFG, 31, 28⟩
/-- RQ_CFG.BASE [14:0] RW. -/
def RQ_CFG_BASE : Fld := ⟨RQ_CFG, 14, 0⟩
/-- HUB.CATALOGUE+0044h RQ_HEAD (file 09, R277). -/
def RQ_HEAD : Nat := hubReg 10 (0x44)
/-- HUB.CATALOGUE+0048h RQ_TAIL (file 09, R277). -/
def RQ_TAIL : Nat := hubReg 10 (0x48)
/-- HUB.CATALOGUE+004Ch RC_CFG (file 09, R277). -/
def RC_CFG : Nat := hubReg 10 (0x4c)
/-- RC_CFG.LEN [31:28] RW. -/
def RC_CFG_LEN : Fld := ⟨RC_CFG, 31, 28⟩
/-- RC_CFG.BASE [14:0] RW. -/
def RC_CFG_BASE : Fld := ⟨RC_CFG, 14, 0⟩
/-- HUB.CATALOGUE+0050h RC_HEAD (file 09, R277). -/
def RC_HEAD : Nat := hubReg 10 (0x50)
/-- HUB.CATALOGUE+0054h RC_TAIL (file 09, R277). -/
def RC_TAIL : Nat := hubReg 10 (0x54)
/-- HUB.CATALOGUE+0060h MJ_BASE_LO (file 09, R279). -/
def MJ_BASE_LO : Nat := hubReg 10 (0x60)
/-- HUB.CATALOGUE+0064h MJ_BASE_HI (file 09, R279). -/
def MJ_BASE_HI : Nat := hubReg 10 (0x64)
/-- HUB.CATALOGUE+0068h MJ_CFG (file 09, R279). -/
def MJ_CFG : Nat := hubReg 10 (0x68)
/-- MJ_CFG.LEN [4:0] RW. -/
def MJ_CFG_LEN : Fld := ⟨MJ_CFG, 4, 0⟩
/-- HUB.CATALOGUE+006Ch MJ_HEAD (file 09, R279). -/
def MJ_HEAD : Nat := hubReg 10 (0x6c)
/-- HUB.CATALOGUE+0078h MJ_TAIL (file 09, R279). -/
def MJ_TAIL : Nat := hubReg 10 (0x78)
/-- HUB.CATALOGUE+0070h MAPSEQ_LO (file 09, R279). -/
def MAPSEQ_LO : Nat := hubReg 10 (0x70)
/-- HUB.CATALOGUE+0074h MAPSEQ_HI (file 09, R279). -/
def MAPSEQ_HI : Nat := hubReg 10 (0x74)
/-- HUB.CATALOGUE+0080h RB_STAT (file 09, R282). -/
def RB_STAT (i : Nat) : Nat := hubReg 10 (0x80 + 4 * i)
/-- RB_STAT.STATE [31:30] RO. -/
def RB_STAT_STATE (i : Nat) : Fld := ⟨RB_STAT i, 31, 30⟩
/-- RB_STAT.ZONE [19:0] RO. -/
def RB_STAT_ZONE (i : Nat) : Fld := ⟨RB_STAT i, 19, 0⟩
/-- HUB.PCIE+0000h PORT_STAT (file 10, R534). -/
def PORT_STAT (i : Nat) : Nat := hubReg 1 (0x0 + 4 * i)
/-- PORT_STAT.DOWN_CNT [23:16] RO. -/
def PORT_STAT_DOWN_CNT (i : Nat) : Fld := ⟨PORT_STAT i, 23, 16⟩
/-- PORT_STAT.WIDTH [11:8] RO. -/
def PORT_STAT_WIDTH (i : Nat) : Fld := ⟨PORT_STAT i, 11, 8⟩
/-- PORT_STAT.SPEED [7:4] RO. -/
def PORT_STAT_SPEED (i : Nat) : Fld := ⟨PORT_STAT i, 7, 4⟩
/-- PORT_STAT.DL_ACTIVE [1:1] RO. -/
def PORT_STAT_DL_ACTIVE (i : Nat) : Fld := ⟨PORT_STAT i, 1, 1⟩
/-- PORT_STAT.PRESENT [0:0] RO. -/
def PORT_STAT_PRESENT (i : Nat) : Fld := ⟨PORT_STAT i, 0, 0⟩
/-- HUB.NVME+0000h NVME_STAT (file 10, R307). -/
def NVME_STAT : Nat := hubReg 2 (0x0)
/-- NVME_STAT.FETCH_STALLED [31:31] RO. -/
def NVME_STAT_FETCH_STALLED : Fld := ⟨NVME_STAT, 31, 31⟩
/-- HUB.NVME+0004h QP_POOL (file 10, R302). -/
def QP_POOL : Nat := hubReg 2 (0x4)
/-- HUB.NVME+0008h FETCH_STALL_CNT (file 10, R307). -/
def FETCH_STALL_CNT : Nat := hubReg 2 (0x8)
/-- HUB.NVME+000Ch NVME_ERR (file 10, R309). -/
def NVME_ERR : Nat := hubReg 2 (0xc)
/-- HUB.NVME+0010h NVME_FIRST (file 10, R489). -/
def NVME_FIRST : Nat := hubReg 2 (0x10)
/-- HUB.NVME+0100h CTRL_STAT (file 10, R303). -/
def CTRL_STAT (i : Nat) : Nat := hubReg 2 (0x100 + 4 * i)
/-- HUB.NVME+0200h CTRL_NS (file 10, R300). -/
def CTRL_NS (i : Nat) : Nat := hubReg 2 (0x200 + 4 * i)
/-- HUB.MGMT+0000h MGMT_STAT (file 10, R335). -/
def MGMT_STAT : Nat := hubReg 12 (0x0)
/-- MGMT_STAT.ADDR [23:16] RO. -/
def MGMT_STAT_ADDR : Fld := ⟨MGMT_STAT, 23, 16⟩
/-- MGMT_STAT.ASSIGNED [3:3] RO. -/
def MGMT_STAT_ASSIGNED : Fld := ⟨MGMT_STAT, 3, 3⟩
/-- MGMT_STAT.BUS [1:0] RO. -/
def MGMT_STAT_BUS : Fld := ⟨MGMT_STAT, 1, 0⟩
/-- KPR.INVENTORY+0000h INV_GEN (file 10, R329). -/
def INV_GEN : Nat := kprReg 15 (0x0)
/-- KPR.INVENTORY+0004h INV_STAT (file 10, R330). -/
def INV_STAT : Nat := kprReg 15 (0x4)
/-- INV_STAT.HUB_STALE [1:1] RO. -/
def INV_STAT_HUB_STALE : Fld := ⟨INV_STAT, 1, 1⟩
/-- INV_STAT.CUR [0:0] RO. -/
def INV_STAT_CUR : Fld := ⟨INV_STAT, 0, 0⟩
/-- KPR.INVENTORY+0008h INV_NOTE_ADDR (file 10, R334). -/
def INV_NOTE_ADDR : Nat := kprReg 15 (0x8)
/-- INV_NOTE_ADDR.OFF [9:0] RW. -/
def INV_NOTE_ADDR_OFF : Fld := ⟨INV_NOTE_ADDR, 9, 0⟩
/-- KPR.INVENTORY+000Ch INV_NOTE_DATA (file 10, R334). -/
def INV_NOTE_DATA : Nat := kprReg 15 (0xc)
/-- HUB.TAGS+0000h TAG_CTL (file 11, R341). -/
def TAG_CTL : Nat := hubReg 3 (0x0)
/-- TAG_CTL.EN [0:0] RW. -/
def TAG_CTL_EN : Fld := ⟨TAG_CTL, 0, 0⟩
/-- HUB.TAGS+0004h TAG_CNT0 (file 11, R338). -/
def TAG_CNT0 : Nat := hubReg 3 (0x4)
/-- HUB.TAGS+0008h TAG_CNT1 (file 11, R338). -/
def TAG_CNT1 : Nat := hubReg 3 (0x8)
/-- HUB.TAGS+0010h TD_CFG (file 11, R341). -/
def TD_CFG : Nat := hubReg 3 (0x10)
/-- TD_CFG.LEN [31:28] RW. -/
def TD_CFG_LEN : Fld := ⟨TD_CFG, 31, 28⟩
/-- TD_CFG.BASE [14:0] RW. -/
def TD_CFG_BASE : Fld := ⟨TD_CFG, 14, 0⟩
/-- HUB.TAGS+0014h TD_HEAD (file 11, R341). -/
def TD_HEAD : Nat := hubReg 3 (0x14)
/-- HUB.TAGS+0018h TD_TAIL (file 11, R341). -/
def TD_TAIL : Nat := hubReg 3 (0x18)
/-- HUB.TAGS+001Ch TC_CFG (file 11, R340). -/
def TC_CFG : Nat := hubReg 3 (0x1c)
/-- TC_CFG.LEN [31:28] RW. -/
def TC_CFG_LEN : Fld := ⟨TC_CFG, 31, 28⟩
/-- TC_CFG.BASE [14:0] RW. -/
def TC_CFG_BASE : Fld := ⟨TC_CFG, 14, 0⟩
/-- HUB.TAGS+0020h TC_HEAD (file 11, R340). -/
def TC_HEAD : Nat := hubReg 3 (0x20)
/-- HUB.TAGS+0024h TC_TAIL (file 11, R340). -/
def TC_TAIL : Nat := hubReg 3 (0x24)
/-- HUB.TAGS+0030h WRT_REL (file 11, R347). -/
def WRT_REL : Nat := hubReg 3 (0x30)
/-- HUB.TAGS+0034h WRT_FREE (file 11, R343). -/
def WRT_FREE : Nat := hubReg 3 (0x34)
/-- HUB.TAGS+0040h PLP_STAT (file 11, R359). -/
def PLP_STAT : Nat := hubReg 3 (0x40)
/-- PLP_STAT.DIRTY_EFF [31:24] RO. -/
def PLP_STAT_DIRTY_EFF : Fld := ⟨PLP_STAT, 31, 24⟩
/-- PLP_STAT.DUMP_STATE [6:4] RO. -/
def PLP_STAT_DUMP_STATE : Fld := ⟨PLP_STAT, 6, 4⟩
/-- PLP_STAT.ARMING [3:3] RO. -/
def PLP_STAT_ARMING : Fld := ⟨PLP_STAT, 3, 3⟩
/-- PLP_STAT.PLP_READY [0:0] RO. -/
def PLP_STAT_PLP_READY : Fld := ⟨PLP_STAT, 0, 0⟩
/-- HUB.TAGS+0044h PROT_USED (file 11, R357). -/
def PROT_USED : Nat := hubReg 3 (0x44)
/-- HUB.TAGS+0048h DUMP_RATE (file 11, R359). -/
def DUMP_RATE : Nat := hubReg 3 (0x48)
/-- HUB.TAGS+004Ch DUMP_CMD (file 11, R359). -/
def DUMP_CMD : Nat := hubReg 3 (0x4c)
/-- HUB.TAGS+0050h TAG_ERR (file 11, R340). -/
def TAG_ERR : Nat := hubReg 3 (0x50)
/-- HUB.TAGS+0054h TAG_FIRST (file 11, R489). -/
def TAG_FIRST : Nat := hubReg 3 (0x54)
/-- HUB.TAGS+0060h ABORTED (file 11, R348). -/
def ABORTED : Nat := hubReg 3 (0x60)
/-- HUB.TAGS+0064h NOT_ABORTED (file 11, R348). -/
def NOT_ABORTED : Nat := hubReg 3 (0x64)
/-- HUB.TAGS+0068h DROPPED (file 11, R350). -/
def DROPPED : Nat := hubReg 3 (0x68)
/-- HUB.TAGS+006Ch TCNT_SAT (file 11, R69). -/
def TCNT_SAT : Nat := hubReg 3 (0x6c)
/-- TCNT_SAT.SAT [2:0] W1C. -/
def TCNT_SAT_SAT : Fld := ⟨TCNT_SAT, 2, 0⟩
/-- HUB.STACKS+0000h STK_CTL (file 12, R379). -/
def STK_CTL : Nat := hubReg 4 (0x0)
/-- STK_CTL.EN [0:0] RW. -/
def STK_CTL_EN : Fld := ⟨STK_CTL, 0, 0⟩
/-- HUB.STACKS+0004h STK_HWPOOL (file 12, R384). -/
def STK_HWPOOL : Nat := hubReg 4 (0x4)
/-- STK_HWPOOL.COPY [15:12] RW. -/
def STK_HWPOOL_COPY : Fld := ⟨STK_HWPOOL, 15, 12⟩
/-- STK_HWPOOL.RDATA [7:4] RW. -/
def STK_HWPOOL_RDATA : Fld := ⟨STK_HWPOOL, 7, 4⟩
/-- STK_HWPOOL.WDATA [3:0] RW. -/
def STK_HWPOOL_WDATA : Fld := ⟨STK_HWPOOL, 3, 0⟩
/-- HUB.STACKS+0008h STK_TBL_LO (file 12, R379). -/
def STK_TBL_LO : Nat := hubReg 4 (0x8)
/-- STK_TBL_LO.BASE [31:12] RW. -/
def STK_TBL_LO_BASE : Fld := ⟨STK_TBL_LO, 31, 12⟩
/-- HUB.STACKS+000Ch STK_TBL_HI (file 12, R379). -/
def STK_TBL_HI : Nat := hubReg 4 (0xc)
/-- STK_TBL_HI.BASE [7:0] RW. -/
def STK_TBL_HI_BASE : Fld := ⟨STK_TBL_HI, 7, 0⟩
/-- HUB.STACKS+0010h STK_ERR (file 12, R382). -/
def STK_ERR : Nat := hubReg 4 (0x10)
/-- HUB.STACKS+0014h STK_FIRST (file 12, R489). -/
def STK_FIRST : Nat := hubReg 4 (0x14)
/-- HUB.STACKS+0100h STK_HANDLE (file 12, R380). -/
def STK_HANDLE (i : Nat) : Nat := hubReg 4 (0x100 + 32 * i)
/-- STK_HANDLE.HANDLE [23:0] RW. -/
def STK_HANDLE_HANDLE (i : Nat) : Fld := ⟨STK_HANDLE i, 23, 0⟩
/-- HUB.STACKS+0104h STK_NAME (file 12, R381). -/
def STK_NAME (i : Nat) : Nat := hubReg 4 (0x104 + 32 * i)
/-- STK_NAME.NAME [19:0] RW. -/
def STK_NAME_NAME (i : Nat) : Fld := ⟨STK_NAME i, 19, 0⟩
/-- HUB.STACKS+0108h STK_NAME2 (file 12, R381). -/
def STK_NAME2 (i : Nat) : Nat := hubReg 4 (0x108 + 32 * i)
/-- STK_NAME2.NAME [19:0] RW. -/
def STK_NAME2_NAME (i : Nat) : Fld := ⟨STK_NAME2 i, 19, 0⟩
/-- HUB.STACKS+010Ch STK_OP (file 12, R382). -/
def STK_OP (i : Nat) : Nat := hubReg 4 (0x10c + 32 * i)
/-- HUB.STACKS+0110h STK_RES (file 12, R382). -/
def STK_RES (i : Nat) : Nat := hubReg 4 (0x110 + 32 * i)
/-- HUB.STACKS+0400h POOL_BASE (file 12, R379). -/
def POOL_BASE (i : Nat) : Nat := hubReg 4 (0x400 + 16 * i)
/-- POOL_BASE.INDEX [19:0] RW. -/
def POOL_BASE_INDEX (i : Nat) : Fld := ⟨POOL_BASE i, 19, 0⟩
/-- HUB.STACKS+0404h POOL_COUNT (file 12, R379). -/
def POOL_COUNT (i : Nat) : Nat := hubReg 4 (0x404 + 16 * i)
/-- POOL_COUNT.COUNT [19:0] RW. -/
def POOL_COUNT_COUNT (i : Nat) : Fld := ⟨POOL_COUNT i, 19, 0⟩
/-- HUB.STACKS+0408h POOL_STAT (file 12, R379). -/
def POOL_STAT (i : Nat) : Nat := hubReg 4 (0x408 + 16 * i)
/-- POOL_STAT.STATE [31:30] RO. -/
def POOL_STAT_STATE (i : Nat) : Fld := ⟨POOL_STAT i, 31, 30⟩
/-- POOL_STAT.FREE [19:0] RO. -/
def POOL_STAT_FREE (i : Nat) : Fld := ⟨POOL_STAT i, 19, 0⟩
/-- HUB.STACKS+040Ch POOL_CMD (file 12, R379). -/
def POOL_CMD (i : Nat) : Nat := hubReg 4 (0x40c + 16 * i)
/-- HUB.STACKS+0500h POOL_LOW (file 12, R379). -/
def POOL_LOW (i : Nat) : Nat := hubReg 4 (0x500 + 8 * i)
/-- POOL_LOW.LOW [19:0] RO. -/
def POOL_LOW_LOW (i : Nat) : Fld := ⟨POOL_LOW i, 19, 0⟩
/-- HUB.STACKS+0504h POOL_FAILS (file 12, R69). -/
def POOL_FAILS (i : Nat) : Nat := hubReg 4 (0x504 + 8 * i)
/-- HUB.DRAMC+0000h DRAMC_STAT (file 12, R377). -/
def DRAMC_STAT : Nat := hubReg 6 (0x0)
/-- DRAMC_STAT.SPARES [15:3] RO. -/
def DRAMC_STAT_SPARES : Fld := ⟨DRAMC_STAT, 15, 3⟩
/-- DRAMC_STAT.MODE [2:0] RO. -/
def DRAMC_STAT_MODE : Fld := ⟨DRAMC_STAT, 2, 0⟩
/-- HUB.DRAMC+0004h DCMD_ADDR_LO (file 12, R376). -/
def DCMD_ADDR_LO : Nat := hubReg 6 (0x4)
/-- DCMD_ADDR_LO.ADDR [31:12] RW. -/
def DCMD_ADDR_LO_ADDR : Fld := ⟨DCMD_ADDR_LO, 31, 12⟩
/-- HUB.DRAMC+0008h DCMD_ADDR_HI (file 12, R376). -/
def DCMD_ADDR_HI : Nat := hubReg 6 (0x8)
/-- DCMD_ADDR_HI.ADDR [7:0] RW. -/
def DCMD_ADDR_HI_ADDR : Fld := ⟨DCMD_ADDR_HI, 7, 0⟩
/-- HUB.DRAMC+000Ch DCMD (file 12, R376). -/
def DCMD : Nat := hubReg 6 (0xc)
/-- HUB.DRAMC+0010h DCMD_STAT (file 12, R377). -/
def DCMD_STAT : Nat := hubReg 6 (0x10)
/-- DCMD_STAT.BUSY [31:31] RO. -/
def DCMD_STAT_BUSY : Fld := ⟨DCMD_STAT, 31, 31⟩
/-- DCMD_STAT.DONE [30:30] W1C. -/
def DCMD_STAT_DONE : Fld := ⟨DCMD_STAT, 30, 30⟩
/-- DCMD_STAT.REJ [29:29] W1C. -/
def DCMD_STAT_REJ : Fld := ⟨DCMD_STAT, 29, 29⟩
/-- DCMD_STAT.FULL [28:28] W1C. -/
def DCMD_STAT_FULL : Fld := ⟨DCMD_STAT, 28, 28⟩
/-- HUB.DRAMC+1000h DRAM_MR (file 12, R377). -/
def DRAM_MR (i : Nat) : Nat := hubReg 6 (0x1000 + 4 * i)
/-- HUB.SCACHE+0000h SC_CTL (file 12, R388). -/
def SC_CTL : Nat := hubReg 5 (0x0)
/-- SC_CTL.EN [0:0] RW. -/
def SC_CTL_EN : Fld := ⟨SC_CTL, 0, 0⟩
/-- HUB.SCACHE+0004h SC_STREAM (file 12, R390). -/
def SC_STREAM : Nat := hubReg 5 (0x4)
/-- SC_STREAM.CLASS [15:0] RW. -/
def SC_STREAM_CLASS : Fld := ⟨SC_STREAM, 15, 0⟩
/-- HUB.SCACHE+0080h SC_WAYS (file 12, R389). -/
def SC_WAYS (i : Nat) : Nat := hubReg 5 (0x80 + 4 * i)
/-- SC_WAYS.MASK [15:0] RW. -/
def SC_WAYS_MASK (i : Nat) : Fld := ⟨SC_WAYS i, 15, 0⟩
/-- HUB.SCACHE+0100h SC_BASE_LO (file 12, R391). -/
def SC_BASE_LO (i : Nat) : Nat := hubReg 5 (0x100 + 16 * i)
/-- SC_BASE_LO.BASE [31:12] RW. -/
def SC_BASE_LO_BASE (i : Nat) : Fld := ⟨SC_BASE_LO i, 31, 12⟩
/-- HUB.SCACHE+0104h SC_BASE_HI (file 12, R391). -/
def SC_BASE_HI (i : Nat) : Nat := hubReg 5 (0x104 + 16 * i)
/-- SC_BASE_HI.BASE [7:0] RW. -/
def SC_BASE_HI_BASE (i : Nat) : Fld := ⟨SC_BASE_HI i, 7, 0⟩
/-- HUB.SCACHE+0108h SC_PAGES (file 12, R391). -/
def SC_PAGES (i : Nat) : Nat := hubReg 5 (0x108 + 16 * i)
/-- HUB.SCACHE+010Ch SC_POLICY (file 12, R391). -/
def SC_POLICY (i : Nat) : Nat := hubReg 5 (0x10c + 16 * i)
/-- SC_POLICY.POLICY [1:0] RW. -/
def SC_POLICY_POLICY (i : Nat) : Fld := ⟨SC_POLICY i, 1, 0⟩
/-- HUB.SCACHE+0200h SC_MOP_ADDR_LO (file 12, R393). -/
def SC_MOP_ADDR_LO : Nat := hubReg 5 (0x200)
/-- SC_MOP_ADDR_LO.ADDR [31:7] RW. -/
def SC_MOP_ADDR_LO_ADDR : Fld := ⟨SC_MOP_ADDR_LO, 31, 7⟩
/-- HUB.SCACHE+0204h SC_MOP_ADDR_HI (file 12, R393). -/
def SC_MOP_ADDR_HI : Nat := hubReg 5 (0x204)
/-- SC_MOP_ADDR_HI.ADDR [7:0] RW. -/
def SC_MOP_ADDR_HI_ADDR : Fld := ⟨SC_MOP_ADDR_HI, 7, 0⟩
/-- HUB.SCACHE+0208h SC_MOP_LEN (file 12, R393). -/
def SC_MOP_LEN : Nat := hubReg 5 (0x208)
/-- HUB.SCACHE+020Ch SC_MOP_CMD (file 12, R393). -/
def SC_MOP_CMD : Nat := hubReg 5 (0x20c)
/-- HUB.SCACHE+0210h SC_MOP_STAT (file 12, R393). -/
def SC_MOP_STAT : Nat := hubReg 5 (0x210)
/-- SC_MOP_STAT.BUSY [31:31] RO. -/
def SC_MOP_STAT_BUSY : Fld := ⟨SC_MOP_STAT, 31, 31⟩
/-- SC_MOP_STAT.DONE [30:30] W1C. -/
def SC_MOP_STAT_DONE : Fld := ⟨SC_MOP_STAT, 30, 30⟩
/-- SC_MOP_STAT.REJ [29:29] W1C. -/
def SC_MOP_STAT_REJ : Fld := ⟨SC_MOP_STAT, 29, 29⟩
/-- HUB.SCACHE+0300h LOOKUPS_LO (file 12, R388). -/
def LOOKUPS_LO : Nat := hubReg 5 (0x300)
/-- HUB.SCACHE+0304h LOOKUPS_HI (file 12, R388). -/
def LOOKUPS_HI : Nat := hubReg 5 (0x304)
/-- HUB.SCACHE+0308h MISSES_LO (file 12, R388). -/
def MISSES_LO : Nat := hubReg 5 (0x308)
/-- HUB.SCACHE+030Ch MISSES_HI (file 12, R388). -/
def MISSES_HI : Nat := hubReg 5 (0x30c)
/-- HUB.CIPHER+0000h CI_CTL (file 12, R403). -/
def CI_CTL : Nat := hubReg 7 (0x0)
/-- CI_CTL.EN [0:0] RW. -/
def CI_CTL_EN : Fld := ⟨CI_CTL, 0, 0⟩
/-- HUB.CIPHER+0004h CI_KEYCMD (file 12, R403). -/
def CI_KEYCMD : Nat := hubReg 7 (0x4)
/-- HUB.CIPHER+0008h CI_KEYSTAT (file 12, R403). -/
def CI_KEYSTAT : Nat := hubReg 7 (0x8)
/-- CI_KEYSTAT.BUSY [31:31] RO. -/
def CI_KEYSTAT_BUSY : Fld := ⟨CI_KEYSTAT, 31, 31⟩
/-- CI_KEYSTAT.REJ [30:30] W1C. -/
def CI_KEYSTAT_REJ : Fld := ⟨CI_KEYSTAT, 30, 30⟩
/-- CI_KEYSTAT.VALID [15:0] RO. -/
def CI_KEYSTAT_VALID : Fld := ⟨CI_KEYSTAT, 15, 0⟩
/-- CORE+0000h CORE_CTL (file 13, R415). -/
def CORE_CTL (b : Nat) : Nat := b + 0x0
/-- CORE_CTL.WDOG_EN [16:16] RW. -/
def CORE_CTL_WDOG_EN (b : Nat) : Fld := ⟨CORE_CTL b, 16, 16⟩
/-- CORE+0004h CORE_STAT (file 13, R411). -/
def CORE_STAT (b : Nat) : Nat := b + 0x4
/-- CORE_STAT.STATE [31:30] RO. -/
def CORE_STAT_STATE (b : Nat) : Fld := ⟨CORE_STAT b, 31, 30⟩
/-- CORE_STAT.ST_FAILS [29:28] RO. -/
def CORE_STAT_ST_FAILS (b : Nat) : Fld := ⟨CORE_STAT b, 29, 28⟩
/-- CORE_STAT.LATE [27:27] W1C. -/
def CORE_STAT_LATE (b : Nat) : Fld := ⟨CORE_STAT b, 27, 27⟩
/-- CORE_STAT.SAT [26:24] W1C. -/
def CORE_STAT_SAT (b : Nat) : Fld := ⟨CORE_STAT b, 26, 24⟩
/-- CORE+0008h CORE_FAULT (file 13, R409). -/
def CORE_FAULT (b : Nat) : Nat := b + 0x8
/-- CORE+000Ch CORE_FIRST (file 13, R489). -/
def CORE_FIRST (b : Nat) : Nat := b + 0xc
/-- CORE+0010h WARM_LO (file 13, R411). -/
def WARM_LO (b : Nat) : Nat := b + 0x10
/-- CORE+0014h WARM_HI (file 13, R411). -/
def WARM_HI (b : Nat) : Nat := b + 0x14
/-- CORE+0018h RES_CNT (file 13, R409). -/
def RES_CNT (b : Nat) : Nat := b + 0x18
/-- CORE+001Ch RESTART_CNT (file 13, R411). -/
def RESTART_CNT (b : Nat) : Nat := b + 0x1c
/-- CH.CCORE+0080h LATE_CNT (file 13, R435). -/
def LATE_CNT (n i : Nat) : Nat := chReg n 14 (0x80 + 4 * i)
/-- HUB.EVENT+0000h EV_ERR (file 13, R417). -/
def EV_ERR : Nat := hubReg 13 (0x0)
/-- EV_ERR.UNR_SAT [2:2] W1C. -/
def EV_ERR_UNR_SAT : Fld := ⟨EV_ERR, 2, 2⟩
/-- HUB.EVENT+0004h EV_UNROUTED (file 13, R417). -/
def EV_UNROUTED : Nat := hubReg 13 (0x4)
/-- HUB.EVENT+0008h EV_LAST (file 13, R417). -/
def EV_LAST : Nat := hubReg 13 (0x8)
/-- EV_LAST.EVENT [8:0] RO. -/
def EV_LAST_EVENT : Fld := ⟨EV_LAST, 8, 0⟩
/-- HUB.EVENT+000Ch EV_SEND (file 13, R421). -/
def EV_SEND : Nat := hubReg 13 (0xc)
/-- HUB.EVENT+0400h EV_ROUTE (file 13, R416). -/
def EV_ROUTE (i : Nat) : Nat := hubReg 13 (0x400 + 4 * i)
/-- HUB.EVENT+0800h EV_PEND_H (file 13, R419). -/
def EV_PEND_H (i j : Nat) : Nat := hubReg 13 (0x800 + 64 * i + 4 * j)
/-- CH.EVENT+0400h EV_LOCAL_C (file 13, R416). -/
def EV_LOCAL_C (n i : Nat) : Nat := chReg n 16 (0x400 + 4 * i)
/-- CH.EVENT+0800h EV_PEND_C (file 13, R419). -/
def EV_PEND_C (n i j : Nat) : Nat := chReg n 16 (0x800 + 64 * i + 4 * j)
/-- KPR.EVENT+0400h EV_LOCAL_K (file 13, R416). -/
def EV_LOCAL_K (i : Nat) : Nat := kprReg 13 (0x400 + 4 * i)
/-- CH.LOMUN+0000h LM_CTL (file 13, R425). -/
def LM_CTL (n : Nat) : Nat := chReg n 11 (0x0)
/-- LM_CTL.HALT_ON_FAULT [0:0] RW. -/
def LM_CTL_HALT_ON_FAULT (n : Nat) : Fld := ⟨LM_CTL n, 0, 0⟩
/-- CH.LOMUN+0004h LM_STAT (file 13, R425). -/
def LM_STAT (n : Nat) : Nat := chReg n 11 (0x4)
/-- LM_STAT.RUN [31:31] RO. -/
def LM_STAT_RUN (n : Nat) : Fld := ⟨LM_STAT n, 31, 31⟩
/-- LM_STAT.WAIT [30:30] RO. -/
def LM_STAT_WAIT (n : Nat) : Fld := ⟨LM_STAT n, 30, 30⟩
/-- LM_STAT.VERIFY [29:29] RO. -/
def LM_STAT_VERIFY (n : Nat) : Fld := ⟨LM_STAT n, 29, 29⟩
/-- LM_STAT.PROT [28:28] RO. -/
def LM_STAT_PROT (n : Nat) : Fld := ⟨LM_STAT n, 28, 28⟩
/-- LM_STAT.AQ [27:24] RO. -/
def LM_STAT_AQ (n : Nat) : Fld := ⟨LM_STAT n, 27, 24⟩
/-- LM_STAT.FCNT_SAT [12:12] W1C. -/
def LM_STAT_FCNT_SAT (n : Nat) : Fld := ⟨LM_STAT n, 12, 12⟩
/-- LM_STAT.PC [11:0] RO. -/
def LM_STAT_PC (n : Nat) : Fld := ⟨LM_STAT n, 11, 0⟩
/-- CH.LOMUN+0008h LM_FAULT (file 13, R433). -/
def LM_FAULT (n : Nat) : Nat := chReg n 11 (0x8)
/-- CH.LOMUN+000Ch LM_FIRST (file 13, R489). -/
def LM_FIRST (n : Nat) : Nat := chReg n 11 (0xc)
/-- CH.LOMUN+0010h LM_ENTRY (file 13, R431). -/
def LM_ENTRY (n : Nat) : Nat := chReg n 11 (0x10)
/-- LM_ENTRY.WORD [11:0] RW. -/
def LM_ENTRY_WORD (n : Nat) : Fld := ⟨LM_ENTRY n, 11, 0⟩
/-- CH.LOMUN+0014h LM_FLAG (file 13, R434). -/
def LM_FLAG (n : Nat) : Nat := chReg n 11 (0x14)
/-- CH.LOMUN+0018h LM_LOAD_ADDR (file 13, R424). -/
def LM_LOAD_ADDR (n : Nat) : Nat := chReg n 11 (0x18)
/-- LM_LOAD_ADDR.WORD [11:0] RW. -/
def LM_LOAD_ADDR_WORD (n : Nat) : Fld := ⟨LM_LOAD_ADDR n, 11, 0⟩
/-- CH.LOMUN+0020h LM_LOAD_DATA (file 13, R424). -/
def LM_LOAD_DATA (n i : Nat) : Nat := chReg n 11 (0x20 + 4 * i)
/-- CH.LOMUN+0040h LM_DIGEST (file 13, R425). -/
def LM_DIGEST (n i : Nat) : Nat := chReg n 11 (0x40 + 4 * i)
/-- CH.LOMUN+0080h LM_EXPECT (file 13, R425). -/
def LM_EXPECT (n i : Nat) : Nat := chReg n 11 (0x80 + 4 * i)
/-- CH.LOMUN+00C0h LM_G (file 13, R427). -/
def LM_G (n i : Nat) : Nat := chReg n 11 (0xc0 + 4 * i)
/-- CH.LOMUN+0100h LM_FORCED_CNT (file 13, R431). -/
def LM_FORCED_CNT (n : Nat) : Nat := chReg n 11 (0x100)
/-- KPR.KVERIFY+0000h BOOT_STAT (file 14, R443). -/
def BOOT_STAT : Nat := kprReg 12 (0x0)
/-- BOOT_STAT.STAGE [31:28] RO. -/
def BOOT_STAT_STAGE : Fld := ⟨BOOT_STAT, 31, 28⟩
/-- BOOT_STAT.CAUSE [27:24] RO. -/
def BOOT_STAT_CAUSE : Fld := ⟨BOOT_STAT, 27, 24⟩
/-- BOOT_STAT.BOOTS_IN_CYCLE [23:16] RO. -/
def BOOT_STAT_BOOTS_IN_CYCLE : Fld := ⟨BOOT_STAT, 23, 16⟩
/-- BOOT_STAT.ROM_SERVICES [3:3] RO. -/
def BOOT_STAT_ROM_SERVICES : Fld := ⟨BOOT_STAT, 3, 3⟩
/-- BOOT_STAT.RESUMED [2:2] RO. -/
def BOOT_STAT_RESUMED : Fld := ⟨BOOT_STAT, 2, 2⟩
/-- BOOT_STAT.KFW_FALLBACK [1:1] RO. -/
def BOOT_STAT_KFW_FALLBACK : Fld := ⟨BOOT_STAT, 1, 1⟩
/-- BOOT_STAT.KFW_COPY [0:0] RO. -/
def BOOT_STAT_KFW_COPY : Fld := ⟨BOOT_STAT, 0, 0⟩
/-- KPR.KVERIFY+0004h BOOT_CTL (file 14, R436). -/
def BOOT_CTL : Nat := kprReg 12 (0x4)
/-- KPR.KVERIFY+0008h BOOT_FAIL (file 14, R464). -/
def BOOT_FAIL : Nat := kprReg 12 (0x8)
/-- BOOT_FAIL.STAGE [11:8] RO. -/
def BOOT_FAIL_STAGE : Fld := ⟨BOOT_FAIL, 11, 8⟩
/-- BOOT_FAIL.CODE [7:0] RO. -/
def BOOT_FAIL_CODE : Fld := ⟨BOOT_FAIL, 7, 0⟩
/-- HUB.SIGNET+0000h SIG_CMD (file 14, R445). -/
def SIG_CMD : Nat := hubReg 8 (0x0)
/-- HUB.SIGNET+0004h SIG_STAT (file 14, R445). -/
def SIG_STAT : Nat := hubReg 8 (0x4)
/-- SIG_STAT.BUSY [31:31] RO. -/
def SIG_STAT_BUSY : Fld := ⟨SIG_STAT, 31, 31⟩
/-- SIG_STAT.DONE [30:30] W1C. -/
def SIG_STAT_DONE : Fld := ⟨SIG_STAT, 30, 30⟩
/-- SIG_STAT.REJ [29:29] W1C. -/
def SIG_STAT_REJ : Fld := ⟨SIG_STAT, 29, 29⟩
/-- SIG_STAT.RESULT [23:16] RO. -/
def SIG_STAT_RESULT : Fld := ⟨SIG_STAT, 23, 16⟩
/-- SIG_STAT.CODE [7:0] RO. -/
def SIG_STAT_CODE : Fld := ⟨SIG_STAT, 7, 0⟩
/-- HUB.SIGNET+0008h SIG_SRC_LO (file 14, R445). -/
def SIG_SRC_LO : Nat := hubReg 8 (0x8)
/-- HUB.SIGNET+000Ch SIG_SRC_HI (file 14, R445). -/
def SIG_SRC_HI : Nat := hubReg 8 (0xc)
/-- HUB.SIGNET+0010h SIG_LEN (file 14, R445). -/
def SIG_LEN : Nat := hubReg 8 (0x10)
/-- HUB.SIGNET+0014h SIG_DST_LO (file 14, R445). -/
def SIG_DST_LO : Nat := hubReg 8 (0x14)
/-- HUB.SIGNET+0018h SIG_DST_HI (file 14, R445). -/
def SIG_DST_HI : Nat := hubReg 8 (0x18)
/-- HUB.SIGNET+001Ch SIG_ERR (file 14, R454). -/
def SIG_ERR : Nat := hubReg 8 (0x1c)
/-- HUB.SIGNET+0020h SIG_FIRST (file 14, R489). -/
def SIG_FIRST : Nat := hubReg 8 (0x20)
/-- HUB.SIGNET+0040h COLO_CTL (file 14, R448). -/
def COLO_CTL : Nat := hubReg 8 (0x40)
/-- HUB.SIGNET+0044h COLO_STAT (file 14, R448). -/
def COLO_STAT : Nat := hubReg 8 (0x44)
/-- COLO_STAT.CLOSED [31:31] RO. -/
def COLO_STAT_CLOSED : Fld := ⟨COLO_STAT, 31, 31⟩
/-- COLO_STAT.SIGNED [30:30] RO. -/
def COLO_STAT_SIGNED : Fld := ⟨COLO_STAT, 30, 30⟩
/-- COLO_STAT.LATE_CLOSE [29:29] RO. -/
def COLO_STAT_LATE_CLOSE : Fld := ⟨COLO_STAT, 29, 29⟩
/-- COLO_STAT.LOG_FULL [28:28] RO. -/
def COLO_STAT_LOG_FULL : Fld := ⟨COLO_STAT, 28, 28⟩
/-- COLO_STAT.LMS_EXH [27:27] RO. -/
def COLO_STAT_LMS_EXH : Fld := ⟨COLO_STAT, 27, 27⟩
/-- COLO_STAT.TREE_READY [26:26] RO. -/
def COLO_STAT_TREE_READY : Fld := ⟨COLO_STAT, 26, 26⟩
/-- COLO_STAT.CUR [25:25] RO. -/
def COLO_STAT_CUR : Fld := ⟨COLO_STAT, 25, 25⟩
/-- COLO_STAT.ENTRIES [15:8] RO. -/
def COLO_STAT_ENTRIES : Fld := ⟨COLO_STAT, 15, 8⟩
/-- COLO_STAT.SEQ [7:0] RO. -/
def COLO_STAT_SEQ : Fld := ⟨COLO_STAT, 7, 0⟩
/-- HUB.SIGNET+0048h LMS_NEXT (file 14, R452). -/
def LMS_NEXT : Nat := hubReg 8 (0x48)
/-- HUB.SIGNET+0400h MEAS (file 14, R445). -/
def MEAS (i j : Nat) : Nat := hubReg 8 (0x400 + 48 * i + 4 * j)
/-- HUB.SIGNET+0100h UPD_CMD (file 15, R473). -/
def UPD_CMD : Nat := hubReg 8 (0x100)
/-- HUB.SIGNET+0104h UPD_STAT (file 15, R475). -/
def UPD_STAT : Nat := hubReg 8 (0x104)
/-- UPD_STAT.BUSY [31:31] RO. -/
def UPD_STAT_BUSY : Fld := ⟨UPD_STAT, 31, 31⟩
/-- UPD_STAT.DONE [30:30] W1C. -/
def UPD_STAT_DONE : Fld := ⟨UPD_STAT, 30, 30⟩
/-- UPD_STAT.REJ [29:29] W1C. -/
def UPD_STAT_REJ : Fld := ⟨UPD_STAT, 29, 29⟩
/-- UPD_STAT.HOLD [28:28] RO. -/
def UPD_STAT_HOLD : Fld := ⟨UPD_STAT, 28, 28⟩
/-- UPD_STAT.RESULT [27:24] RO. -/
def UPD_STAT_RESULT : Fld := ⟨UPD_STAT, 27, 24⟩
/-- UPD_STAT.CODE [23:16] RO. -/
def UPD_STAT_CODE : Fld := ⟨UPD_STAT, 23, 16⟩
/-- UPD_STAT.STATE [15:12] RO. -/
def UPD_STAT_STATE : Fld := ⟨UPD_STAT, 15, 12⟩
/-- UPD_STAT.DIE [11:8] RO. -/
def UPD_STAT_DIE : Fld := ⟨UPD_STAT, 11, 8⟩
/-- HUB.SIGNET+0108h UPD_SRC_LO (file 15, R473). -/
def UPD_SRC_LO : Nat := hubReg 8 (0x108)
/-- HUB.SIGNET+010Ch UPD_SRC_HI (file 15, R473). -/
def UPD_SRC_HI : Nat := hubReg 8 (0x10c)
/-- HUB.SIGNET+0110h UPD_LEN (file 15, R473). -/
def UPD_LEN : Nat := hubReg 8 (0x110)
/-- HUB.SIGNET+0114h UPD_ST (file 15, R483). -/
def UPD_ST : Nat := hubReg 8 (0x114)
/-- HUB.SIGNET+0118h UPD_SEL (file 15, R476). -/
def UPD_SEL : Nat := hubReg 8 (0x118)
/-- UPD_SEL.KPR_PEND [31:31] RO. -/
def UPD_SEL_KPR_PEND : Fld := ⟨UPD_SEL, 31, 31⟩
/-- UPD_SEL.PATCH_PEND [30:30] RO. -/
def UPD_SEL_PATCH_PEND : Fld := ⟨UPD_SEL, 30, 30⟩
/-- UPD_SEL.FW_PEND [15:8] RO. -/
def UPD_SEL_FW_PEND : Fld := ⟨UPD_SEL, 15, 8⟩
/-- UPD_SEL.FW_RUN [7:0] RO. -/
def UPD_SEL_FW_RUN : Fld := ⟨UPD_SEL, 7, 0⟩
/-- HUB.SIGNET+011Ch UPD_UNSEAL (file 15, R485). -/
def UPD_UNSEAL : Nat := hubReg 8 (0x11c)
/-- HUB.OTP+0800h OTP_PROG (file 14, R449). -/
def OTP_PROG : Nat := hubReg 15 (0x800)
/-- HUB.OTP+0804h OTP_STAT (file 14, R449). -/
def OTP_STAT : Nat := hubReg 15 (0x804)
/-- OTP_STAT.BUSY [31:31] RO. -/
def OTP_STAT_BUSY : Fld := ⟨OTP_STAT, 31, 31⟩
/-- OTP_STAT.REFUSED [30:30] W1C. -/
def OTP_STAT_REFUSED : Fld := ⟨OTP_STAT, 30, 30⟩
/-- KPR.NVS+0000h NVS_ADDR (file 14, R465). -/
def NVS_ADDR : Nat := kprReg 10 (0x0)
/-- NVS_ADDR.WORD [17:2] RW. -/
def NVS_ADDR_WORD : Fld := ⟨NVS_ADDR, 17, 2⟩
/-- KPR.NVS+0004h NVS_DATA (file 14, R465). -/
def NVS_DATA : Nat := kprReg 10 (0x4)
/-- KPR.NVS+0008h NVS_STAT (file 14, R465). -/
def NVS_STAT : Nat := kprReg 10 (0x8)
/-- NVS_STAT.BUSY [0:0] RO. -/
def NVS_STAT_BUSY : Fld := ⟨NVS_STAT, 0, 0⟩
/-- KPR.NVS+000Ch NVS_ERR (file 14, R465). -/
def NVS_ERR : Nat := kprReg 10 (0xc)
/-- HUB.PERI+0100h DBG_CTL (file 14, R459). -/
def DBG_CTL : Nat := hubReg 19 (0x100)
/-- HUB.PERI+0104h DBG_STAT (file 14, R461). -/
def DBG_STAT : Nat := hubReg 19 (0x104)
/-- DBG_STAT.BUSY [31:31] RO. -/
def DBG_STAT_BUSY : Fld := ⟨DBG_STAT, 31, 31⟩
/-- DBG_STAT.REFUSED [30:30] W1C. -/
def DBG_STAT_REFUSED : Fld := ⟨DBG_STAT, 30, 30⟩
/-- DBG_STAT.LEVEL [25:24] RO. -/
def DBG_STAT_LEVEL : Fld := ⟨DBG_STAT, 25, 24⟩
/-- DBG_STAT.CODE [23:16] RO. -/
def DBG_STAT_CODE : Fld := ⟨DBG_STAT, 23, 16⟩
/-- HUB.PERI+0108h DBG_ADDR_LO (file 14, R460). -/
def DBG_ADDR_LO : Nat := hubReg 19 (0x108)
/-- HUB.PERI+010Ch DBG_ADDR_HI (file 14, R460). -/
def DBG_ADDR_HI : Nat := hubReg 19 (0x10c)
/-- HUB.PERI+0140h DBG_CHAL (file 14, R459). -/
def DBG_CHAL (i : Nat) : Nat := hubReg 19 (0x140 + 4 * i)
/-- HUB.PERI+0000h UART_CTL (file 18, R549). -/
def UART_CTL : Nat := hubReg 19 (0x0)
/-- UART_CTL.EN [31:31] RW. -/
def UART_CTL_EN : Fld := ⟨UART_CTL, 31, 31⟩
/-- UART_CTL.BAUD [23:0] RW. -/
def UART_CTL_BAUD : Fld := ⟨UART_CTL, 23, 0⟩
/-- HUB.PERI+0004h UART_DATA (file 18, R549). -/
def UART_DATA : Nat := hubReg 19 (0x4)
/-- HUB.PERI+0008h UART_STAT (file 18, R549). -/
def UART_STAT : Nat := hubReg 19 (0x8)
/-- UART_STAT.RX_OVF [3:3] W1C. -/
def UART_STAT_RX_OVF : Fld := ⟨UART_STAT, 3, 3⟩
/-- UART_STAT.TX_OVF [2:2] W1C. -/
def UART_STAT_TX_OVF : Fld := ⟨UART_STAT, 2, 2⟩
/-- HUB.PERI+0010h GPIO_OUT (file 18, R532). -/
def GPIO_OUT : Nat := hubReg 19 (0x10)
/-- HUB.PERI+0014h GPIO_OE (file 18, R532). -/
def GPIO_OE : Nat := hubReg 19 (0x14)
/-- HUB.PERI+0018h GPIO_IN (file 18, R532). -/
def GPIO_IN : Nat := hubReg 19 (0x18)
/-- GPIO_IN.IN [15:0] RO. -/
def GPIO_IN_IN : Fld := ⟨GPIO_IN, 15, 0⟩
/-- HUB.PERI+001Ch GPIO_EVT (file 18, R532). -/
def GPIO_EVT : Nat := hubReg 19 (0x1c)
/-- GPIO_EVT.CHG [31:16] W1C. -/
def GPIO_EVT_CHG : Fld := ⟨GPIO_EVT, 31, 16⟩
/-- GPIO_EVT.EN [15:0] RW. -/
def GPIO_EVT_EN : Fld := ⟨GPIO_EVT, 15, 0⟩
/-- HUB.PERI+0020h LED_CTL (file 18, R549). -/
def LED_CTL : Nat := hubReg 19 (0x20)
/-- HUB.XSPI+0000h XS_CMD (file 18, R546). -/
def XS_CMD : Nat := hubReg 11 (0x0)
/-- HUB.XSPI+0004h XS_STAT (file 18, R546). -/
def XS_STAT : Nat := hubReg 11 (0x4)
/-- XS_STAT.BUSY [31:31] RO. -/
def XS_STAT_BUSY : Fld := ⟨XS_STAT, 31, 31⟩
/-- XS_STAT.DONE [30:30] W1C. -/
def XS_STAT_DONE : Fld := ⟨XS_STAT, 30, 30⟩
/-- XS_STAT.REJ [29:29] W1C. -/
def XS_STAT_REJ : Fld := ⟨XS_STAT, 29, 29⟩
/-- XS_STAT.MODE [25:24] RO. -/
def XS_STAT_MODE : Fld := ⟨XS_STAT, 25, 24⟩
/-- XS_STAT.CLK [23:16] RO. -/
def XS_STAT_CLK : Fld := ⟨XS_STAT, 23, 16⟩
/-- XS_STAT.RESULT [15:8] RO. -/
def XS_STAT_RESULT : Fld := ⟨XS_STAT, 15, 8⟩
/-- HUB.XSPI+0008h XS_FADDR (file 18, R546). -/
def XS_FADDR : Nat := hubReg 11 (0x8)
/-- HUB.XSPI+000Ch XS_MADDR_LO (file 18, R546). -/
def XS_MADDR_LO : Nat := hubReg 11 (0xc)
/-- HUB.XSPI+0010h XS_MADDR_HI (file 18, R546). -/
def XS_MADDR_HI : Nat := hubReg 11 (0x10)
/-- HUB.XSPI+0014h XS_LEN (file 18, R546). -/
def XS_LEN : Nat := hubReg 11 (0x14)
/-- HUB.XSPI+0018h XS_ERR (file 18, R546). -/
def XS_ERR : Nat := hubReg 11 (0x18)
/-- HUB.XSPI+001Ch XS_FIRST (file 18, R489). -/
def XS_FIRST : Nat := hubReg 11 (0x1c)
/-- HUB.XSPI+1000h XS_TIMING (file 18, R545). -/
def XS_TIMING : Nat := hubReg 11 (0x1000)
/-- KPR.ALOG+0000h ALOG_CTL (file 16, R502). -/
def ALOG_CTL : Nat := kprReg 8 (0x0)
/-- KPR.ALOG+0004h ALOG_STAT (file 16, R502). -/
def ALOG_STAT : Nat := kprReg 8 (0x4)
/-- ALOG_STAT.FROZEN [31:31] RO. -/
def ALOG_STAT_FROZEN : Fld := ⟨ALOG_STAT, 31, 31⟩
/-- ALOG_STAT.LOADED [30:30] RO. -/
def ALOG_STAT_LOADED : Fld := ⟨ALOG_STAT, 30, 30⟩
/-- ALOG_STAT.SAVING [29:29] RO. -/
def ALOG_STAT_SAVING : Fld := ⟨ALOG_STAT, 29, 29⟩
/-- KPR.ALOG+0008h ALOG_DROP (file 16, R501). -/
def ALOG_DROP : Nat := kprReg 8 (0x8)
/-- KPR.ALOG+000Ch RECNO_LO (file 16, R499). -/
def RECNO_LO : Nat := kprReg 8 (0xc)
/-- KPR.ALOG+0010h RECNO_HI (file 16, R499). -/
def RECNO_HI : Nat := kprReg 8 (0x10)
/-- KPR.ALOG+0014h ALOG_HELD (file 16, R501). -/
def ALOG_HELD : Nat := kprReg 8 (0x14)
/-- ALOG_HELD.COUNT [13:0] RO. -/
def ALOG_HELD_COUNT : Fld := ⟨ALOG_HELD, 13, 0⟩
/-- KPR.ALOG+0018h ALOG_NEWEST (file 16, R501). -/
def ALOG_NEWEST : Nat := kprReg 8 (0x18)
/-- ALOG_NEWEST.INDEX [12:0] RO. -/
def ALOG_NEWEST_INDEX : Fld := ⟨ALOG_NEWEST, 12, 0⟩
/-- KPR.ALOG+0020h SEV_CNT (file 16, R501). -/
def SEV_CNT (i : Nat) : Nat := kprReg 8 (0x20 + 4 * i)
/-- KPR.ALOG+0030h ALOG_ERR (file 16, R492). -/
def ALOG_ERR : Nat := kprReg 8 (0x30)
/-- ALOG_ERR.DROP_SAT [1:1] W1C. -/
def ALOG_ERR_DROP_SAT : Fld := ⟨ALOG_ERR, 1, 1⟩
/-- ALOG_ERR.DROP [0:0] W1C. -/
def ALOG_ERR_DROP : Fld := ⟨ALOG_ERR, 0, 0⟩
/-- KPR.ALOG+0034h ALOG_FIRST (file 16, R489). -/
def ALOG_FIRST : Nat := kprReg 8 (0x34)
/-- KPR.ALOG+0038h PART_FIRST (file 16, R551). -/
def PART_FIRST : Nat := kprReg 8 (0x38)
/-- PART_FIRST.VALID [31:31] RS. -/
def PART_FIRST_VALID : Fld := ⟨PART_FIRST, 31, 31⟩
/-- PART_FIRST.FATAL [30:30] RS. -/
def PART_FIRST_FATAL : Fld := ⟨PART_FIRST, 30, 30⟩
/-- KPR.ALOG+003Ch FATAL_CMD (file 16, R496). -/
def FATAL_CMD : Nat := kprReg 8 (0x3c)
/-- KPR.ALOG+0040h ACT_STATE (file 16, R492). -/
def ACT_STATE : Nat := kprReg 8 (0x40)
/-- KPR.ALOG+0100h WR_HDR (file 16, R499). -/
def WR_HDR (i : Nat) : Nat := kprReg 8 (0x100 + 16 * i)
/-- WR_HDR.BIT [15:8] RW. -/
def WR_HDR_BIT (i : Nat) : Fld := ⟨WR_HDR i, 15, 8⟩
/-- WR_HDR.CLASS [4:2] RW. -/
def WR_HDR_CLASS (i : Nat) : Fld := ⟨WR_HDR i, 4, 2⟩
/-- WR_HDR.SEV [1:0] RW. -/
def WR_HDR_SEV (i : Nat) : Fld := ⟨WR_HDR i, 1, 0⟩
/-- KPR.ALOG+0104h WR_VALUE (file 16, R499). -/
def WR_VALUE (i : Nat) : Nat := kprReg 8 (0x104 + 16 * i)
/-- KPR.ALOG+0108h WR_DETAIL (file 16, R499). -/
def WR_DETAIL (i : Nat) : Nat := kprReg 8 (0x108 + 16 * i)
/-- KPR.ALOG+010Ch WR_GO (file 16, R499). -/
def WR_GO (i : Nat) : Nat := kprReg 8 (0x10c + 16 * i)
/-- KPR.LADDER+0000h LADDER_CMD (file 17, R510). -/
def LADDER_CMD : Nat := kprReg 3 (0x0)
/-- KPR.LADDER+0004h LADDER_STAT (file 17, R510). -/
def LADDER_STAT : Nat := kprReg 3 (0x4)
/-- LADDER_STAT.RUNG [31:28] RO. -/
def LADDER_STAT_RUNG : Fld := ⟨LADDER_STAT, 31, 28⟩
/-- LADDER_STAT.TARGET [27:24] RO. -/
def LADDER_STAT_TARGET : Fld := ⟨LADDER_STAT, 27, 24⟩
/-- LADDER_STAT.FROM [23:20] RO. -/
def LADDER_STAT_FROM : Fld := ⟨LADDER_STAT, 23, 20⟩
/-- LADDER_STAT.MOVING [15:15] RO. -/
def LADDER_STAT_MOVING : Fld := ⟨LADDER_STAT, 15, 15⟩
/-- LADDER_STAT.WAKE_SRC [5:0] RO. -/
def LADDER_STAT_WAKE_SRC : Fld := ⟨LADDER_STAT, 5, 0⟩
/-- KPR.LADDER+0008h LADDER_ERR (file 17, R511). -/
def LADDER_ERR : Nat := kprReg 3 (0x8)
/-- KPR.LADDER+000Ch LADDER_FIRST (file 17, R489). -/
def LADDER_FIRST : Nat := kprReg 3 (0xc)
/-- KPR.LADDER+0010h MAX_RUNG (file 17, R510). -/
def MAX_RUNG : Nat := kprReg 3 (0x10)
/-- MAX_RUNG.RUNG [2:0] RW. -/
def MAX_RUNG_RUNG : Fld := ⟨MAX_RUNG, 2, 0⟩
/-- KPR.LADDER+0014h WAKE_EN (file 17, R514). -/
def WAKE_EN : Nat := kprReg 3 (0x14)
/-- WAKE_EN.EN [5:0] RW. -/
def WAKE_EN_EN : Fld := ⟨WAKE_EN, 5, 0⟩
/-- KPR.LADDER+0018h LADDER_MECH (file 17, R518). -/
def LADDER_MECH : Nat := kprReg 3 (0x18)
/-- LADDER_MECH.SPINUP_MS [31:16] RW. -/
def LADDER_MECH_SPINUP_MS : Fld := ⟨LADDER_MECH, 31, 16⟩
/-- LADDER_MECH.LOAD_MS [15:0] RW. -/
def LADDER_MECH_LOAD_MS : Fld := ⟨LADDER_MECH, 15, 0⟩
/-- KPR.LADDER+0020h PD_STAT (file 17, R507). -/
def PD_STAT (i : Nat) : Nat := kprReg 3 (0x20 + 4 * i)
/-- KPR.SUPMON+0000h SUP_STAT (file 17, R520). -/
def SUP_STAT : Nat := kprReg 4 (0x0)
/-- SUP_STAT.PLW [31:31] RO. -/
def SUP_STAT_PLW : Fld := ⟨SUP_STAT, 31, 31⟩
/-- SUP_STAT.PLW_SRC [30:28] RO. -/
def SUP_STAT_PLW_SRC : Fld := ⟨SUP_STAT, 30, 28⟩
/-- SUP_STAT.GOOD [10:0] RO. -/
def SUP_STAT_GOOD : Fld := ⟨SUP_STAT, 10, 0⟩
/-- KPR.SUPMON+0004h SUP_LOST (file 17, R521). -/
def SUP_LOST : Nat := kprReg 4 (0x4)
/-- KPR.SUPMON+0008h SUP_FIRST (file 17, R489). -/
def SUP_FIRST : Nat := kprReg 4 (0x8)
/-- KPR.SUPMON+000Ch PLW_CFG (file 17, R522). -/
def PLW_CFG : Nat := kprReg 4 (0xc)
/-- PLW_CFG.PFAIL_EN [16:16] RW. -/
def PLW_CFG_PFAIL_EN : Fld := ⟨PLW_CFG, 16, 16⟩
/-- PLW_CFG.PLW_VMOT [15:0] RW. -/
def PLW_CFG_PLW_VMOT : Fld := ⟨PLW_CFG, 15, 0⟩
/-- KPR.SUPMON+0010h SUP_CH (file 17, R520). -/
def SUP_CH : Nat := kprReg 4 (0x10)
/-- SUP_CH.VDDA_GOOD [7:4] RO. -/
def SUP_CH_VDDA_GOOD : Fld := ⟨SUP_CH, 7, 4⟩
/-- SUP_CH.VDD_GOOD [3:0] RO. -/
def SUP_CH_VDD_GOOD : Fld := ⟨SUP_CH, 3, 0⟩
/-- KPR.THERM+0000h THERM_T (file 17, R523). -/
def THERM_T (i : Nat) : Nat := kprReg 11 (0x0 + 4 * i)
/-- THERM_T.BROKEN [31:31] RO. -/
def THERM_T_BROKEN (i : Nat) : Fld := ⟨THERM_T i, 31, 31⟩
/-- THERM_T.TEMP [15:0] RO. -/
def THERM_T_TEMP (i : Nat) : Fld := ⟨THERM_T i, 15, 0⟩
/-- KPR.THERM+0020h THERM_LVL (file 17, R524). -/
def THERM_LVL : Nat := kprReg 11 (0x20)
/-- KPR.THERM+0024h THERM_FAULT (file 17, R526). -/
def THERM_FAULT : Nat := kprReg 11 (0x24)
/-- KPR.THERM+0028h THERM_FIRST (file 17, R489). -/
def THERM_FIRST : Nat := kprReg 11 (0x28)
/-- KPR.THERM+0040h THR_LIM (file 17, R524). -/
def THR_LIM (i : Nat) : Nat := kprReg 11 (0x40 + 4 * i)
/-- THR_LIM.HYST [31:24] RO. -/
def THR_LIM_HYST (i : Nat) : Fld := ⟨THR_LIM i, 31, 24⟩
/-- THR_LIM.CRIT [23:16] RW. -/
def THR_LIM_CRIT (i : Nat) : Fld := ⟨THR_LIM i, 23, 16⟩
/-- THR_LIM.HOT [15:8] RW. -/
def THR_LIM_HOT (i : Nat) : Fld := ⟨THR_LIM i, 15, 8⟩
/-- THR_LIM.WARM [7:0] RW. -/
def THR_LIM_WARM (i : Nat) : Fld := ⟨THR_LIM i, 7, 0⟩
/-- KPR.THERM+0060h THR_CFG (file 17, R525). -/
def THR_CFG : Nat := kprReg 11 (0x60)
/-- THR_CFG.HOT_FRAC [15:8] RW. -/
def THR_CFG_HOT_FRAC : Fld := ⟨THR_CFG, 15, 8⟩
/-- THR_CFG.WARM_FRAC [7:0] RW. -/
def THR_CFG_WARM_FRAC : Fld := ⟨THR_CFG, 7, 0⟩

/-! The register lists, one per unit. -/

/-- Registers of HUB.DIE. -/
def regsHubDIE : List RegDesc := [
  ⟨0x0, 1, 4, 1, 4, 0x0, 0x0, 0x0, 0x84402100, 0x0⟩,
  ⟨0x4, 1, 4, 1, 4, 0x0, 0x0, 0x0, 0x101, 0x0⟩,
  ⟨0x10, 1, 4, 1, 4, 0x0, 0x0, 0x0, 0x0, 0x0⟩,
  ⟨0x14, 1, 4, 1, 4, 0x0, 0x0, 0x0, 0x0, 0x0⟩,
  ⟨0x18, 1, 4, 1, 4, 0x0, 0x0, 0x0, 0x0, 0x0⟩,
  ⟨0x20, 12, 4, 1, 4, 0x0, 0x0, 0x0, 0x0, 0x0⟩,
  ⟨0xf00, 1, 4, 1, 4, 0x7fffffff, 0x0, 0x80000000, 0x3c1405a0, 0x0⟩,
  ⟨0xf04, 1, 4, 1, 4, 0x0, 0x8, 0x0, 0x0, 0x0⟩,
  ⟨0xf08, 1, 4, 1, 4, 0x0, 0x0, 0x0, 0x0, 0xffffff⟩,
  ⟨0xf0c, 1, 4, 1, 4, 0x0, 0x0, 0x0, 0x0, 0xffffffff⟩,
  ⟨0xf10, 1, 4, 1, 4, 0x0, 0x0, 0x0, 0x0, 0xff⟩,
  ⟨0xff0, 1, 4, 1, 4, 0x0, 0x0, 0xffffffff, 0x0, 0x0⟩,
  ⟨0xff4, 1, 4, 1, 4, 0x0, 0x4, 0x0, 0x0, 0x0⟩,
  ⟨0x1f00, 1, 4, 1, 4, 0xffff, 0x0, 0x0, 0x5, 0x0⟩]
/-- Registers of HUB.PCIE. -/
def regsHubPCIE : List RegDesc := [
  ⟨0x0, 2, 4, 1, 4, 0x0, 0x0, 0x0, 0x0, 0x0⟩]
/-- Registers of HUB.NVME. -/
def regsHubNVME : List RegDesc := [
  ⟨0x0, 1, 4, 1, 4, 0x0, 0x0, 0x0, 0x0, 0x0⟩,
  ⟨0x4, 1, 4, 1, 4, 0x0, 0x0, 0x0, 0x0, 0x0⟩,
  ⟨0x8, 1, 4, 1, 4, 0x0, 0x0, 0x0, 0x0, 0x0⟩,
  ⟨0xc, 1, 4, 1, 4, 0x0, 0xf, 0x0, 0x0, 0x0⟩,
  ⟨0x10, 1, 4, 1, 4, 0x0, 0x0, 0x0, 0x0, 0x0⟩,
  ⟨0x100, 64, 4, 1, 4, 0x0, 0x0, 0x0, 0x0, 0x0⟩,
  ⟨0x200, 64, 4, 1, 4, 0xffff, 0x0, 0x0, 0xffff, 0x0⟩]
/-- Registers of HUB.TAGS. -/
def regsHubTAGS : List RegDesc := [
  ⟨0x0, 1, 4, 1, 4, 0x1, 0x0, 0x0, 0x0, 0x0⟩,
  ⟨0x4, 1, 4, 1, 4, 0x0, 0x0, 0x0, 0x0, 0x0⟩,
  ⟨0x8, 1, 4, 1, 4, 0x0, 0x0, 0x0, 0x0, 0x0⟩,
  ⟨0x10, 1, 4, 1, 4, 0xf0007fff, 0x0, 0x0, 0x40000000, 0x0⟩,
  ⟨0x14, 1, 4, 1, 4, 0x0, 0x0, 0x0, 0x0, 0x0⟩,
  ⟨0x18, 1, 4, 1, 4, 0xfff, 0x0, 0x0, 0x0, 0x0⟩,
  ⟨0x1c, 1, 4, 1, 4, 0xf0007fff, 0x0, 0x0, 0x40000000, 0x0⟩,
  ⟨0x20, 1, 4, 1, 4, 0xfff, 0x0, 0x0, 0x0, 0x0⟩,
  ⟨0x24, 1, 4, 1, 4, 0x0, 0x0, 0x0, 0x0, 0x0⟩,
  ⟨0x30, 1, 4, 1, 4, 0x0, 0x0, 0x7fff, 0x0, 0x0⟩,
  ⟨0x34, 1, 4, 1, 4, 0x0, 0x0, 0x0, 0x8000, 0x0⟩,
  ⟨0x40, 1, 4, 1, 4, 0x0, 0x0, 0x0, 0x0, 0x70⟩,
  ⟨0x44, 1, 4, 1, 4, 0x0, 0x0, 0x0, 0x0, 0x0⟩,
  ⟨0x48, 1, 4, 1, 4, 0x0, 0x0, 0x0, 0x0, 0x0⟩,
  ⟨0x4c, 1, 4, 1, 4, 0x0, 0x0, 0x1, 0x0, 0x0⟩,
  ⟨0x50, 1, 4, 1, 4, 0x0, 0x3f, 0x0, 0x0, 0x0⟩,
  ⟨0x54, 1, 4, 1, 4, 0x0, 0x0, 0x0, 0x0, 0x0⟩,
  ⟨0x60, 1, 4, 1, 4, 0x0, 0x0, 0x0, 0x0, 0x0⟩,
  ⟨0x64, 1, 4, 1, 4, 0x0, 0x0, 0x0, 0x0, 0x0⟩,
  ⟨0x68, 1, 4, 1, 4, 0x0, 0x0, 0x0, 0x0, 0x0⟩,
  ⟨0x6c, 1, 4, 1, 4, 0x0, 0x7, 0x0, 0x0, 0x0⟩]
/-- Registers of HUB.STACKS. -/
def regsHubSTACKS : List RegDesc := [
  ⟨0x0, 1, 4, 1, 4, 0x1, 0x0, 0x0, 0x0, 0x0⟩,
  ⟨0x4, 1, 4, 1, 4, 0xffff, 0x0, 0x0, 0x0, 0x0⟩,
  ⟨0x8, 1, 4, 1, 4, 0xfffff000, 0x0, 0x0, 0x0, 0x0⟩,
  ⟨0xc, 1, 4, 1, 4, 0xff, 0x0, 0x0, 0x0, 0x0⟩,
  ⟨0x10, 1, 4, 1, 4, 0x0, 0xffff0003, 0x0, 0x0, 0x0⟩,
  ⟨0x14, 1, 4, 1, 4, 0x0, 0x0, 0x0, 0x0, 0x0⟩,
  ⟨0x100, 16, 32, 1, 4, 0xffffff, 0x0, 0x0, 0x0, 0x0⟩,
  ⟨0x104, 16, 32, 1, 4, 0xfffff, 0x0, 0x0, 0x0, 0x0⟩,
  ⟨0x108, 16, 32, 1, 4, 0xfffff, 0x0, 0x0, 0x0, 0x0⟩,
  ⟨0x10c, 16, 32, 1, 4, 0x0, 0x0, 0xf800000f, 0x0, 0x0⟩,
  ⟨0x110, 16, 32, 1, 4, 0x0, 0x0, 0x0, 0x0, 0x0⟩,
  ⟨0x400, 16, 16, 1, 4, 0xfffff, 0x0, 0x0, 0x0, 0x0⟩,
  ⟨0x404, 16, 16, 1, 4, 0xfffff, 0x0, 0x0, 0x0, 0x0⟩,
  ⟨0x408, 16, 16, 1, 4, 0x0, 0x0, 0x0, 0x0, 0x0⟩,
  ⟨0x40c, 16, 16, 1, 4, 0x0, 0x0, 0x7, 0x0, 0x0⟩,
  ⟨0x500, 16, 8, 1, 4, 0x0, 0x0, 0x0, 0x0, 0x0⟩,
  ⟨0x504, 16, 8, 1, 4, 0x0, 0x0, 0x0, 0x0, 0x0⟩]
/-- Registers of HUB.SCACHE. -/
def regsHubSCACHE : List RegDesc := [
  ⟨0x0, 1, 4, 1, 4, 0x1, 0x0, 0x0, 0x0, 0x0⟩,
  ⟨0x4, 1, 4, 1, 4, 0xffff, 0x0, 0x0, 0x4600, 0x0⟩,
  ⟨0x40, 1, 4, 1, 4, 0x0, 0x1f, 0x0, 0x0, 0x0⟩,
  ⟨0x44, 1, 4, 1, 4, 0x0, 0x0, 0x0, 0x0, 0x0⟩,
  ⟨0x48, 1, 4, 1, 4, 0x0, 0x0, 0x0, 0x0, 0x0⟩,
  ⟨0x4c, 1, 4, 1, 4, 0x0, 0x0, 0x0, 0x0, 0x0⟩,
  ⟨0x50, 1, 4, 1, 4, 0x0, 0x0, 0x0, 0x0, 0x0⟩,
  ⟨0x54, 1, 4, 1, 4, 0x0, 0x0, 0x0, 0x0, 0x0⟩,
  ⟨0x58, 1, 4, 1, 4, 0x0, 0x0, 0x0, 0x0, 0x0⟩,
  ⟨0x5c, 1, 4, 1, 4, 0x0, 0x0, 0x0, 0x0, 0x0⟩,
  ⟨0x60, 1, 4, 1, 4, 0x1, 0x0, 0x0, 0x1, 0x0⟩,
  ⟨0x64, 1, 4, 1, 4, 0x0, 0x0, 0x0, 0x0, 0x0⟩,
  ⟨0x68, 1, 4, 1, 4, 0x0, 0x0, 0x0, 0x0, 0x0⟩,
  ⟨0x6c, 1, 4, 1, 4, 0x0, 0x0, 0x3, 0x0, 0x0⟩,
  ⟨0x80, 16, 4, 1, 4, 0xffff, 0x0, 0x0, 0x0, 0x0⟩,
  ⟨0x100, 16, 16, 1, 4, 0xfffff000, 0x0, 0x0, 0x0, 0x0⟩,
  ⟨0x104, 16, 16, 1, 4, 0xff, 0x0, 0x0, 0x0, 0x0⟩,
  ⟨0x108, 16, 16, 1, 4, 0xffffffff, 0x0, 0x0, 0x0, 0x0⟩,
  ⟨0x10c, 16, 16, 1, 4, 0x3, 0x0, 0x0, 0x0, 0x0⟩,
  ⟨0x200, 1, 4, 1, 4, 0xffffff80, 0x0, 0x0, 0x0, 0x0⟩,
  ⟨0x204, 1, 4, 1, 4, 0xff, 0x0, 0x0, 0x0, 0x0⟩,
  ⟨0x208, 1, 4, 1, 4, 0xffffffff, 0x0, 0x0, 0x0, 0x0⟩,
  ⟨0x20c, 1, 4, 1, 4, 0x0, 0x0, 0x7, 0x0, 0x0⟩,
  ⟨0x210, 1, 4, 1, 4, 0x0, 0x60000000, 0x0, 0x0, 0x0⟩,
  ⟨0x300, 1, 4, 1, 4, 0x0, 0x0, 0x0, 0x0, 0x0⟩,
  ⟨0x304, 1, 4, 1, 4, 0x0, 0x0, 0x0, 0x0, 0x0⟩,
  ⟨0x308, 1, 4, 1, 4, 0x0, 0x0, 0x0, 0x0, 0x0⟩,
  ⟨0x30c, 1, 4, 1, 4, 0x0, 0x0, 0x0, 0x0, 0x0⟩,
  ⟨0xff0, 1, 4, 1, 4, 0x0, 0x0, 0xffffffff, 0x0, 0x0⟩,
  ⟨0xff4, 1, 4, 1, 4, 0x0, 0x4, 0x0, 0x0, 0x0⟩,
  ⟨0x1800, 1, 4, 1, 4, 0xffffffc0, 0x0, 0x0, 0x0, 0x0⟩,
  ⟨0x1804, 1, 4, 1, 4, 0xff, 0x0, 0x0, 0x0, 0x0⟩,
  ⟨0x1808, 1, 4, 1, 4, 0x0, 0x0, 0x3, 0x0, 0x0⟩,
  ⟨0x180c, 1, 4, 1, 4, 0x0, 0x0, 0x0, 0x0, 0x0⟩,
  ⟨0x1810, 16, 4, 1, 4, 0xffffffff, 0x0, 0x0, 0x0, 0x0⟩,
  ⟨0x1850, 1, 4, 1, 4, 0xffffffff, 0x0, 0x0, 0x0, 0x0⟩,
  ⟨0x1854, 1, 4, 1, 4, 0xffffffff, 0x0, 0x0, 0x0, 0x0⟩]
/-- Registers of HUB.DRAMC. -/
def regsHubDRAMC : List RegDesc := [
  ⟨0x0, 1, 4, 1, 4, 0x0, 0x0, 0x0, 0x0, 0xfff8⟩,
  ⟨0x4, 1, 4, 1, 4, 0xfffff000, 0x0, 0x0, 0x0, 0x0⟩,
  ⟨0x8, 1, 4, 1, 4, 0xff, 0x0, 0x0, 0x0, 0x0⟩,
  ⟨0xc, 1, 4, 1, 4, 0x0, 0x0, 0xf00fffff, 0x0, 0x0⟩,
  ⟨0x10, 1, 4, 1, 4, 0x0, 0x70000000, 0x0, 0x0, 0x0⟩,
  ⟨0x40, 1, 4, 1, 4, 0x0, 0x1f, 0x0, 0x0, 0x0⟩,
  ⟨0x44, 1, 4, 1, 4, 0x0, 0x0, 0x0, 0x0, 0x0⟩,
  ⟨0x48, 1, 4, 1, 4, 0x0, 0x0, 0x0, 0x0, 0x0⟩,
  ⟨0x4c, 1, 4, 1, 4, 0x0, 0x0, 0x0, 0x0, 0x0⟩,
  ⟨0x50, 1, 4, 1, 4, 0x0, 0x0, 0x0, 0x0, 0x0⟩,
  ⟨0x54, 1, 4, 1, 4, 0x0, 0x0, 0x0, 0x0, 0x0⟩,
  ⟨0x58, 1, 4, 1, 4, 0x0, 0x0, 0x0, 0x0, 0x0⟩,
  ⟨0x5c, 1, 4, 1, 4, 0x0, 0x0, 0x0, 0x0, 0x0⟩,
  ⟨0x60, 1, 4, 1, 4, 0x1, 0x0, 0x0, 0x1, 0x0⟩,
  ⟨0x64, 1, 4, 1, 4, 0x0, 0x0, 0x0, 0x0, 0x0⟩,
  ⟨0x68, 1, 4, 1, 4, 0x0, 0x0, 0x0, 0x0, 0x0⟩,
  ⟨0x6c, 1, 4, 1, 4, 0x0, 0x0, 0x3, 0x0, 0x0⟩,
  ⟨0xff0, 1, 4, 1, 4, 0x0, 0x0, 0xffffffff, 0x0, 0x0⟩,
  ⟨0xff4, 1, 4, 1, 4, 0x0, 0x4, 0x0, 0x0, 0x0⟩,
  ⟨0x1000, 64, 4, 1, 4, 0xff, 0x0, 0x0, 0x0, 0x0⟩,
  ⟨0x1800, 1, 4, 1, 4, 0xffffffc0, 0x0, 0x0, 0x0, 0x0⟩,
  ⟨0x1804, 1, 4, 1, 4, 0xff, 0x0, 0x0, 0x0, 0x0⟩,
  ⟨0x1808, 1, 4, 1, 4, 0x0, 0x0, 0x3, 0x0, 0x0⟩,
  ⟨0x180c, 1, 4, 1, 4, 0x0, 0x0, 0x0, 0x0, 0x0⟩,
  ⟨0x1810, 16, 4, 1, 4, 0xffffffff, 0x0, 0x0, 0x0, 0x0⟩,
  ⟨0x1850, 1, 4, 1, 4, 0xffffffff, 0x0, 0x0, 0x0, 0x0⟩,
  ⟨0x1854, 1, 4, 1, 4, 0xffffffff, 0x0, 0x0, 0x0, 0x0⟩]
/-- Registers of HUB.CIPHER. -/
def regsHubCIPHER : List RegDesc := [
  ⟨0x0, 1, 4, 1, 4, 0x1, 0x0, 0x0, 0x0, 0x0⟩,
  ⟨0x4, 1, 4, 1, 4, 0x0, 0x0, 0xf000000f, 0x0, 0x0⟩,
  ⟨0x8, 1, 4, 1, 4, 0x0, 0x40000000, 0x0, 0x0, 0xffff⟩]
/-- Registers of HUB.SIGNET. -/
def regsHubSIGNET : List RegDesc := [
  ⟨0x0, 1, 4, 1, 4, 0x0, 0x0, 0xffffffff, 0x0, 0x0⟩,
  ⟨0x4, 1, 4, 1, 4, 0x0, 0x60000000, 0x0, 0x0, 0x0⟩,
  ⟨0x8, 1, 4, 1, 4, 0xffffffff, 0x0, 0x0, 0x0, 0x0⟩,
  ⟨0xc, 1, 4, 1, 4, 0xff, 0x0, 0x0, 0x0, 0x0⟩,
  ⟨0x10, 1, 4, 1, 4, 0xffffffff, 0x0, 0x0, 0x0, 0x0⟩,
  ⟨0x14, 1, 4, 1, 4, 0xffffffff, 0x0, 0x0, 0x0, 0x0⟩,
  ⟨0x18, 1, 4, 1, 4, 0xff, 0x0, 0x0, 0x0, 0x0⟩,
  ⟨0x1c, 1, 4, 1, 4, 0x0, 0x7, 0x0, 0x0, 0x0⟩,
  ⟨0x20, 1, 4, 1, 4, 0x0, 0x0, 0x0, 0x0, 0x0⟩,
  ⟨0x40, 1, 4, 1, 4, 0x0, 0x0, 0x1, 0x0, 0x0⟩,
  ⟨0x44, 1, 4, 1, 4, 0x0, 0x0, 0x0, 0x0, 0x0⟩,
  ⟨0x48, 1, 4, 1, 4, 0x0, 0x0, 0x0, 0x0, 0x0⟩,
  ⟨0x100, 1, 4, 1, 4, 0x0, 0x0, 0xf000000f, 0x0, 0x0⟩,
  ⟨0x104, 1, 4, 1, 4, 0x0, 0x60000000, 0x0, 0x0, 0xf000⟩,
  ⟨0x108, 1, 4, 1, 4, 0xffffffff, 0x0, 0x0, 0x0, 0x0⟩,
  ⟨0x10c, 1, 4, 1, 4, 0xff, 0x0, 0x0, 0x0, 0x0⟩,
  ⟨0x110, 1, 4, 1, 4, 0xffffffff, 0x0, 0x0, 0x0, 0x0⟩,
  ⟨0x114, 1, 4, 1, 4, 0x0, 0x0, 0xc0000007, 0x0, 0x0⟩,
  ⟨0x118, 1, 4, 1, 4, 0x0, 0x0, 0x0, 0x0, 0x0⟩,
  ⟨0x11c, 1, 4, 1, 4, 0x0, 0x0, 0xffffffff, 0x0, 0x0⟩,
  ⟨0x400, 16, 48, 12, 4, 0x0, 0x0, 0x0, 0x0, 0x0⟩]
/-- Registers of HUB.FOLIO. -/
def regsHubFOLIO : List RegDesc := [
  ⟨0x0, 1, 4, 1, 4, 0x1, 0x0, 0x0, 0x0, 0x0⟩,
  ⟨0x4, 1, 4, 1, 4, 0xf0007fff, 0x0, 0x0, 0x40000000, 0x0⟩,
  ⟨0x8, 1, 4, 1, 4, 0x3ff, 0x0, 0x0, 0x0, 0x0⟩,
  ⟨0xc, 1, 4, 1, 4, 0x0, 0x0, 0x0, 0x0, 0x0⟩,
  ⟨0x10, 1, 4, 1, 4, 0xf0007fff, 0x0, 0x0, 0x40000000, 0x0⟩,
  ⟨0x14, 1, 4, 1, 4, 0x0, 0x0, 0x0, 0x0, 0x0⟩,
  ⟨0x18, 1, 4, 1, 4, 0x3ff, 0x0, 0x0, 0x0, 0x0⟩,
  ⟨0x20, 1, 4, 1, 4, 0x0, 0x0, 0x0, 0x0, 0x0⟩,
  ⟨0x24, 1, 4, 1, 4, 0x0, 0x7, 0x0, 0x0, 0x0⟩,
  ⟨0x28, 1, 4, 1, 4, 0x0, 0x0, 0x0, 0x0, 0x0⟩,
  ⟨0x400, 4, 8, 1, 4, 0x0, 0x0, 0x0, 0x0, 0x0⟩,
  ⟨0x404, 4, 8, 1, 4, 0x0, 0x0, 0x0, 0x0, 0x0⟩]
/-- Registers of HUB.CATALOGUE. -/
def regsHubCATALOGUE : List RegDesc := [
  ⟨0x0, 1, 4, 1, 4, 0xffff0001, 0x0, 0x0, 0x4000000, 0x0⟩,
  ⟨0x4, 1, 4, 1, 4, 0x0, 0x0, 0x0, 0x0, 0x0⟩,
  ⟨0x8, 1, 4, 1, 4, 0x0, 0xf, 0x0, 0x0, 0x0⟩,
  ⟨0xc, 1, 4, 1, 4, 0x0, 0x0, 0x0, 0x0, 0x0⟩,
  ⟨0x10, 1, 4, 1, 4, 0xffffffff, 0x0, 0x0, 0x0, 0x0⟩,
  ⟨0x14, 1, 4, 1, 4, 0xffffffff, 0x0, 0x0, 0x0, 0x0⟩,
  ⟨0x18, 1, 4, 1, 4, 0xffffffff, 0x0, 0x0, 0x0, 0x0⟩,
  ⟨0x1c, 1, 4, 1, 4, 0xffffffff, 0x0, 0x0, 0x0, 0x0⟩,
  ⟨0x20, 1, 4, 1, 4, 0xffffffff, 0x0, 0x0, 0x0, 0x0⟩,
  ⟨0x24, 1, 4, 1, 4, 0xffffffff, 0x0, 0x0, 0x0, 0x0⟩,
  ⟨0x28, 1, 4, 1, 4, 0xffffffff, 0x0, 0x0, 0x0, 0x0⟩,
  ⟨0x2c, 1, 4, 1, 4, 0xffffffff, 0x0, 0x0, 0x0, 0x0⟩,
  ⟨0x30, 1, 4, 1, 4, 0xffffffff, 0x0, 0x0, 0x0, 0x0⟩,
  ⟨0x34, 1, 4, 1, 4, 0x0, 0x0, 0x0, 0x0, 0x0⟩,
  ⟨0x40, 1, 4, 1, 4, 0xf0007fff, 0x0, 0x0, 0x40000000, 0x0⟩,
  ⟨0x44, 1, 4, 1, 4, 0x3ff, 0x0, 0x0, 0x0, 0x0⟩,
  ⟨0x48, 1, 4, 1, 4, 0x0, 0x0, 0x0, 0x0, 0x0⟩,
  ⟨0x4c, 1, 4, 1, 4, 0xf0007fff, 0x0, 0x0, 0x40000000, 0x0⟩,
  ⟨0x50, 1, 4, 1, 4, 0x0, 0x0, 0x0, 0x0, 0x0⟩,
  ⟨0x54, 1, 4, 1, 4, 0x3ff, 0x0, 0x0, 0x0, 0x0⟩,
  ⟨0x60, 1, 4, 1, 4, 0xffffffff, 0x0, 0x0, 0x0, 0x0⟩,
  ⟨0x64, 1, 4, 1, 4, 0xffffffff, 0x0, 0x0, 0x0, 0x0⟩,
  ⟨0x68, 1, 4, 1, 4, 0x1f, 0x0, 0x0, 0xa, 0x0⟩,
  ⟨0x6c, 1, 4, 1, 4, 0x0, 0x0, 0x0, 0x0, 0x0⟩,
  ⟨0x70, 1, 4, 1, 4, 0x0, 0x0, 0x0, 0x0, 0x0⟩,
  ⟨0x74, 1, 4, 1, 4, 0x0, 0x0, 0x0, 0x0, 0x0⟩,
  ⟨0x78, 1, 4, 1, 4, 0x1ffff, 0x0, 0x0, 0x0, 0x0⟩,
  ⟨0x80, 4, 4, 1, 4, 0x0, 0x0, 0x0, 0x0, 0x0⟩]
/-- Registers of HUB.XSPI. -/
def regsHubXSPI : List RegDesc := [
  ⟨0x0, 1, 4, 1, 4, 0x0, 0x0, 0xf0000000, 0x0, 0x0⟩,
  ⟨0x4, 1, 4, 1, 4, 0x0, 0x60000000, 0x0, 0x190000, 0x0⟩,
  ⟨0x8, 1, 4, 1, 4, 0xffffffff, 0x0, 0x0, 0x0, 0x0⟩,
  ⟨0xc, 1, 4, 1, 4, 0xffffffff, 0x0, 0x0, 0x0, 0x0⟩,
  ⟨0x10, 1, 4, 1, 4, 0xff, 0x0, 0x0, 0x0, 0x0⟩,
  ⟨0x14, 1, 4, 1, 4, 0xffffffff, 0x0, 0x0, 0x0, 0x0⟩,
  ⟨0x18, 1, 4, 1, 4, 0x0, 0xf, 0x0, 0x0, 0x0⟩,
  ⟨0x1c, 1, 4, 1, 4, 0x0, 0x0, 0x0, 0x0, 0x0⟩,
  ⟨0xff0, 1, 4, 1, 4, 0x0, 0x0, 0xffffffff, 0x0, 0x0⟩,
  ⟨0xff4, 1, 4, 1, 4, 0x0, 0x4, 0x0, 0x0, 0x0⟩,
  ⟨0x1000, 1, 4, 1, 4, 0x3f1f, 0x0, 0x0, 0x0, 0x0⟩]
/-- Registers of HUB.MGMT. -/
def regsHubMGMT : List RegDesc := [
  ⟨0x0, 1, 4, 1, 4, 0x0, 0x0, 0x0, 0x0, 0x0⟩]
/-- Registers of HUB.EVENT. -/
def regsHubEVENT : List RegDesc := [
  ⟨0x0, 1, 4, 1, 4, 0x0, 0x7, 0x0, 0x0, 0x0⟩,
  ⟨0x4, 1, 4, 1, 4, 0x0, 0x0, 0x0, 0x0, 0x0⟩,
  ⟨0x8, 1, 4, 1, 4, 0x0, 0x0, 0x0, 0x0, 0x0⟩,
  ⟨0xc, 1, 4, 1, 4, 0x0, 0x0, 0x1ff, 0x0, 0x0⟩,
  ⟨0x400, 128, 4, 1, 4, 0xffffffff, 0x0, 0x0, 0x0, 0x0⟩,
  ⟨0x800, 8, 64, 16, 4, 0x0, 0x0, 0x0, 0x0, 0x0⟩]
/-- Registers of HUB.TSUKU. -/
def regsHubTSUKU : List RegDesc := [
  ⟨0x0, 5, 512, 1, 4, 0x0, 0x0, 0x0, 0x0, 0x0⟩,
  ⟨0x4, 5, 512, 1, 4, 0x0, 0x3f, 0x0, 0x0, 0x0⟩,
  ⟨0x8, 5, 512, 1, 4, 0x0, 0x0, 0x0, 0x0, 0x0⟩,
  ⟨0xc, 5, 512, 1, 4, 0x0, 0x0, 0x3, 0x0, 0x0⟩,
  ⟨0x100, 5, 512, 8, 32, 0x0, 0x0, 0x0, 0x0, 0x0⟩,
  ⟨0x104, 5, 512, 8, 32, 0x0, 0x0, 0x0, 0x0, 0x0⟩,
  ⟨0x108, 5, 512, 8, 32, 0x0, 0x0, 0x0, 0x0, 0x0⟩,
  ⟨0x10c, 5, 512, 8, 32, 0x0, 0x0, 0x0, 0x0, 0x0⟩,
  ⟨0x110, 5, 512, 8, 32, 0x0, 0x0, 0xffffffff, 0x0, 0x0⟩,
  ⟨0x114, 5, 512, 8, 32, 0x0, 0x0, 0xffffffff, 0x0, 0x0⟩,
  ⟨0x118, 5, 512, 8, 32, 0x0, 0x0, 0x3, 0x0, 0x0⟩,
  ⟨0xff0, 1, 4, 1, 4, 0x0, 0x0, 0xffffffff, 0x0, 0x0⟩,
  ⟨0xff4, 1, 4, 1, 4, 0x0, 0x4, 0x0, 0x0, 0x0⟩,
  ⟨0x1000, 5, 16, 1, 4, 0xf0f, 0x0, 0x0, 0x808, 0x0⟩]
/-- Registers of HUB.OTP. -/
def regsHubOTP : List RegDesc := [
  ⟨0x800, 1, 4, 1, 4, 0x0, 0x0, 0x7f07ff, 0x0, 0x0⟩,
  ⟨0x804, 1, 4, 1, 4, 0x0, 0x40000000, 0x0, 0x0, 0x0⟩]
/-- Registers of HUB.HSRAM. -/
def regsHubHSRAM : List RegDesc := [
  ⟨0x40, 1, 4, 1, 4, 0x0, 0x1f, 0x0, 0x0, 0x0⟩,
  ⟨0x44, 1, 4, 1, 4, 0x0, 0x0, 0x0, 0x0, 0x0⟩,
  ⟨0x48, 1, 4, 1, 4, 0x0, 0x0, 0x0, 0x0, 0x0⟩,
  ⟨0x4c, 1, 4, 1, 4, 0x0, 0x0, 0x0, 0x0, 0x0⟩,
  ⟨0x50, 1, 4, 1, 4, 0x0, 0x0, 0x0, 0x0, 0x0⟩,
  ⟨0x54, 1, 4, 1, 4, 0x0, 0x0, 0x0, 0x0, 0x0⟩,
  ⟨0x58, 1, 4, 1, 4, 0x0, 0x0, 0x0, 0x0, 0x0⟩,
  ⟨0x5c, 1, 4, 1, 4, 0x0, 0x0, 0x0, 0x0, 0x0⟩,
  ⟨0x60, 1, 4, 1, 4, 0x1, 0x0, 0x0, 0x1, 0x0⟩,
  ⟨0x64, 1, 4, 1, 4, 0x0, 0x0, 0x0, 0x0, 0x0⟩,
  ⟨0x68, 1, 4, 1, 4, 0x0, 0x0, 0x0, 0x0, 0x0⟩,
  ⟨0x6c, 1, 4, 1, 4, 0x0, 0x0, 0x3, 0x0, 0x0⟩,
  ⟨0xff0, 1, 4, 1, 4, 0x0, 0x0, 0xffffffff, 0x0, 0x0⟩,
  ⟨0xff4, 1, 4, 1, 4, 0x0, 0x4, 0x0, 0x0, 0x0⟩,
  ⟨0x1800, 1, 4, 1, 4, 0xffffffc0, 0x0, 0x0, 0x0, 0x0⟩,
  ⟨0x1804, 1, 4, 1, 4, 0xff, 0x0, 0x0, 0x0, 0x0⟩,
  ⟨0x1808, 1, 4, 1, 4, 0x0, 0x0, 0x3, 0x0, 0x0⟩,
  ⟨0x180c, 1, 4, 1, 4, 0x0, 0x0, 0x0, 0x0, 0x0⟩,
  ⟨0x1810, 16, 4, 1, 4, 0xffffffff, 0x0, 0x0, 0x0, 0x0⟩,
  ⟨0x1850, 1, 4, 1, 4, 0xffffffff, 0x0, 0x0, 0x0, 0x0⟩,
  ⟨0x1854, 1, 4, 1, 4, 0xffffffff, 0x0, 0x0, 0x0, 0x0⟩]
/-- Registers of HUB.HCORE. -/
def regsHubHCORE : List RegDesc := [
  ⟨0x0, 8, 64, 1, 4, 0x1ffff, 0x0, 0xc0000000, 0x0, 0x0⟩,
  ⟨0x4, 8, 64, 1, 4, 0x0, 0xf000000, 0x0, 0x0, 0x0⟩,
  ⟨0x8, 8, 64, 1, 4, 0x0, 0x3f, 0x0, 0x0, 0x0⟩,
  ⟨0xc, 8, 64, 1, 4, 0x0, 0x0, 0x0, 0x0, 0x0⟩,
  ⟨0x10, 8, 64, 1, 4, 0xfffffffc, 0x0, 0x0, 0x0, 0x0⟩,
  ⟨0x14, 8, 64, 1, 4, 0xff, 0x0, 0x0, 0x0, 0x0⟩,
  ⟨0x18, 8, 64, 1, 4, 0x0, 0x0, 0x0, 0x0, 0x0⟩,
  ⟨0x1c, 8, 64, 1, 4, 0x0, 0x0, 0x0, 0x0, 0x0⟩]
/-- Registers of HUB.PERI. -/
def regsHubPERI : List RegDesc := [
  ⟨0x0, 1, 4, 1, 4, 0x80ffffff, 0x0, 0x0, 0x8001c200, 0x0⟩,
  ⟨0x4, 1, 4, 1, 4, 0x0, 0x0, 0xff, 0x0, 0x0⟩,
  ⟨0x8, 1, 4, 1, 4, 0x0, 0xc, 0x0, 0x0, 0x0⟩,
  ⟨0x10, 1, 4, 1, 4, 0xffff, 0x0, 0x0, 0x0, 0x0⟩,
  ⟨0x14, 1, 4, 1, 4, 0xffff, 0x0, 0x0, 0x0, 0x0⟩,
  ⟨0x18, 1, 4, 1, 4, 0x0, 0x0, 0x0, 0x0, 0x0⟩,
  ⟨0x1c, 1, 4, 1, 4, 0xffff, 0xffff0000, 0x0, 0x0, 0x0⟩,
  ⟨0x20, 1, 4, 1, 4, 0xffff, 0x0, 0x0, 0x5004, 0x0⟩,
  ⟨0x100, 1, 4, 1, 4, 0x0, 0x0, 0xe0000000, 0x0, 0x0⟩,
  ⟨0x104, 1, 4, 1, 4, 0x0, 0x40000000, 0x0, 0x0, 0x0⟩,
  ⟨0x108, 1, 4, 1, 4, 0xffffffff, 0x0, 0x0, 0x0, 0x0⟩,
  ⟨0x10c, 1, 4, 1, 4, 0xff, 0x0, 0x0, 0x0, 0x0⟩,
  ⟨0x140, 16, 4, 1, 4, 0x0, 0x0, 0x0, 0x0, 0x0⟩]
/-- Registers of CH.DIE. -/
def regsChDIE : List RegDesc := [
  ⟨0x0, 1, 4, 1, 4, 0x0, 0x0, 0x0, 0x84402100, 0x0⟩,
  ⟨0x4, 1, 4, 1, 4, 0x0, 0x0, 0x0, 0x1, 0x0⟩,
  ⟨0xf00, 1, 4, 1, 4, 0x7fffffff, 0x0, 0x80000000, 0x3c1405a0, 0x0⟩,
  ⟨0xf04, 1, 4, 1, 4, 0x0, 0x8, 0x0, 0x0, 0x0⟩,
  ⟨0xf08, 1, 4, 1, 4, 0x0, 0x0, 0x0, 0x0, 0xffffff⟩,
  ⟨0xf0c, 1, 4, 1, 4, 0x0, 0x0, 0x0, 0x0, 0xffffffff⟩,
  ⟨0xf10, 1, 4, 1, 4, 0x0, 0x0, 0x0, 0x0, 0xff⟩,
  ⟨0xff0, 1, 4, 1, 4, 0x0, 0x0, 0xffffffff, 0x0, 0x0⟩,
  ⟨0xff4, 1, 4, 1, 4, 0x0, 0x4, 0x0, 0x0, 0x0⟩,
  ⟨0x1f00, 1, 4, 1, 4, 0xffff, 0x0, 0x0, 0x5, 0x0⟩]
/-- Registers of CH.AFE. -/
def regsChAFE : List RegDesc := [
  ⟨0x0, 1, 4, 1, 4, 0xffc7, 0x0, 0x0, 0xb300, 0x0⟩,
  ⟨0x4, 1, 4, 1, 4, 0x0, 0x7, 0x0, 0x0, 0x0⟩,
  ⟨0x10, 3, 4, 1, 4, 0x0, 0x0, 0x0, 0x0, 0x0⟩,
  ⟨0xff0, 1, 4, 1, 4, 0x0, 0x0, 0xffffffff, 0x0, 0x0⟩,
  ⟨0xff4, 1, 4, 1, 4, 0x0, 0x4, 0x0, 0x0, 0x0⟩,
  ⟨0x1000, 3, 32, 1, 4, 0xffff, 0x0, 0x0, 0x0, 0x0⟩,
  ⟨0x1004, 3, 32, 1, 4, 0xff0f00, 0x0, 0x0, 0x5c0000, 0x0⟩,
  ⟨0x1008, 3, 32, 1, 4, 0xff, 0x0, 0x0, 0x14, 0x0⟩,
  ⟨0x100c, 3, 32, 1, 4, 0xffff, 0x0, 0x0, 0x0, 0x0⟩]
/-- Registers of CH.ADC. -/
def regsChADC : List RegDesc := [
  ⟨0x0, 1, 4, 1, 4, 0x0, 0x77, 0x0, 0x0, 0x0⟩,
  ⟨0x10, 3, 4, 1, 4, 0x0, 0x0, 0x0, 0x0, 0x0⟩,
  ⟨0xf00, 1, 4, 1, 4, 0x7fffffff, 0x0, 0x80000000, 0x1e0a00f0, 0x0⟩,
  ⟨0xf04, 1, 4, 1, 4, 0x0, 0x8, 0x0, 0x0, 0x0⟩,
  ⟨0xf08, 1, 4, 1, 4, 0x0, 0x0, 0x0, 0x0, 0xffffff⟩,
  ⟨0xf0c, 1, 4, 1, 4, 0x0, 0x0, 0x0, 0x0, 0xffffffff⟩,
  ⟨0xf10, 1, 4, 1, 4, 0x0, 0x0, 0x0, 0x0, 0xff⟩,
  ⟨0xff0, 1, 4, 1, 4, 0x0, 0x0, 0xffffffff, 0x0, 0x0⟩,
  ⟨0xff4, 1, 4, 1, 4, 0x0, 0x4, 0x0, 0x0, 0x0⟩,
  ⟨0x1000, 3, 32, 5, 4, 0x0, 0x0, 0x0, 0x0, 0x0⟩,
  ⟨0x1f00, 1, 4, 1, 4, 0xffff, 0x0, 0x0, 0x8, 0x0⟩]
/-- Registers of CH.DETECT. -/
def regsChDETECT : List RegDesc := [
  ⟨0x0, 1, 4, 1, 4, 0x7, 0x0, 0x0, 0x6, 0x0⟩,
  ⟨0x4, 1, 4, 1, 4, 0x3f, 0x0, 0x0, 0x0, 0x0⟩,
  ⟨0x8, 1, 4, 1, 4, 0xf000ffff, 0x0, 0x0, 0x40000000, 0x0⟩,
  ⟨0xc, 1, 4, 1, 4, 0x3ff, 0x0, 0x0, 0x0, 0x0⟩,
  ⟨0x10, 1, 4, 1, 4, 0x0, 0x0, 0x0, 0x0, 0x0⟩,
  ⟨0x14, 1, 4, 1, 4, 0xf000ffff, 0x0, 0x0, 0x40000000, 0x0⟩,
  ⟨0x18, 1, 4, 1, 4, 0x0, 0x0, 0x0, 0x0, 0x0⟩,
  ⟨0x1c, 1, 4, 1, 4, 0x3ff, 0x0, 0x0, 0x0, 0x0⟩,
  ⟨0x20, 1, 4, 1, 4, 0x0, 0x0, 0x0, 0x0, 0x0⟩,
  ⟨0x24, 1, 4, 1, 4, 0x0, 0x7f, 0x0, 0x0, 0x0⟩,
  ⟨0x28, 1, 4, 1, 4, 0x0, 0x0, 0x0, 0x0, 0x0⟩,
  ⟨0x40, 1, 4, 1, 4, 0x0, 0x0, 0xc0000077, 0x0, 0x0⟩,
  ⟨0x44, 1, 4, 1, 4, 0xffff, 0x0, 0x0, 0x0, 0x0⟩,
  ⟨0x48, 1, 4, 1, 4, 0x0, 0x40000000, 0x0, 0x0, 0x0⟩,
  ⟨0x4c, 1, 4, 1, 4, 0xfff00fff, 0x0, 0x0, 0x686000cd, 0x0⟩,
  ⟨0x60, 8, 4, 1, 4, 0xffffffff, 0x0, 0x0, 0x0, 0x0⟩,
  ⟨0x100, 64, 8, 1, 4, 0x7fffff, 0x0, 0x0, 0x0, 0x0⟩,
  ⟨0x104, 64, 8, 1, 4, 0xfffffff3, 0x0, 0x0, 0xf603042, 0x0⟩,
  ⟨0x400, 18, 8, 1, 4, 0x0, 0x0, 0x0, 0x0, 0x0⟩,
  ⟨0x404, 18, 8, 1, 4, 0x0, 0x0, 0x0, 0x0, 0x0⟩,
  ⟨0x500, 4, 4, 1, 4, 0x0, 0x0, 0x0, 0x0, 0x0⟩,
  ⟨0x510, 1, 4, 1, 4, 0x0, 0xf, 0x0, 0x0, 0x0⟩,
  ⟨0x514, 1, 4, 1, 4, 0x0, 0x0, 0x8000000f, 0x0, 0x0⟩,
  ⟨0xff0, 1, 4, 1, 4, 0x0, 0x0, 0xffffffff, 0x0, 0x0⟩,
  ⟨0xff4, 1, 4, 1, 4, 0x0, 0x4, 0x0, 0x0, 0x0⟩,
  ⟨0x1000, 1, 4, 1, 4, 0xffffffff, 0x0, 0x0, 0x20000200, 0x0⟩,
  ⟨0x1004, 1, 4, 1, 4, 0xffffffff, 0x0, 0x0, 0x8000040, 0x0⟩,
  ⟨0x1008, 1, 4, 1, 4, 0xff, 0x0, 0x0, 0x40, 0x0⟩,
  ⟨0x100c, 1, 4, 1, 4, 0x3f1f1f1f, 0x0, 0x0, 0x1015080d, 0x0⟩,
  ⟨0x1010, 1, 4, 1, 4, 0xffffff, 0x0, 0x0, 0x5b1c3f, 0x0⟩,
  ⟨0x1014, 1, 4, 1, 4, 0xffffff, 0x0, 0x0, 0x6e8b0d, 0x0⟩,
  ⟨0x1018, 1, 4, 1, 4, 0xffff, 0x0, 0x0, 0x47a3, 0x0⟩,
  ⟨0x101c, 1, 4, 1, 4, 0x1f, 0x0, 0x0, 0xc, 0x0⟩,
  ⟨0x1020, 1, 4, 1, 4, 0xfff, 0x0, 0x0, 0x0, 0x0⟩,
  ⟨0x1024, 1, 4, 1, 4, 0x0, 0x0, 0x0, 0x0, 0x0⟩,
  ⟨0x1028, 1, 4, 1, 4, 0xfff, 0x0, 0x0, 0x0, 0x0⟩,
  ⟨0x1040, 15, 4, 1, 4, 0x3ff, 0x0, 0x0, 0x0, 0x0⟩,
  ⟨0x1080, 7, 4, 1, 4, 0x3ff, 0x0, 0x0, 0x0, 0x0⟩,
  ⟨0x109c, 1, 4, 1, 4, 0x0, 0x0, 0x0, 0x200, 0x0⟩,
  ⟨0x10a0, 7, 4, 1, 4, 0x3ff, 0x0, 0x0, 0x0, 0x0⟩,
  ⟨0x10c0, 15, 4, 1, 4, 0x3ff, 0x0, 0x0, 0x0, 0x0⟩,
  ⟨0x1100, 5, 4, 1, 4, 0x3ff, 0x0, 0x0, 0x0, 0x0⟩,
  ⟨0x1120, 48, 4, 1, 4, 0x3ff, 0x0, 0x0, 0x0, 0x0⟩,
  ⟨0x1200, 1, 4, 1, 4, 0x0, 0x0, 0x0, 0x0, 0x0⟩]
/-- Registers of CH.LDPC. -/
def regsChLDPC : List RegDesc := [
  ⟨0x0, 1, 4, 1, 4, 0x7f7f7f0f, 0x0, 0x0, 0x40140806, 0x0⟩,
  ⟨0x4, 1, 4, 1, 4, 0x0, 0x0, 0x0, 0x0, 0x0⟩,
  ⟨0x10, 1, 4, 1, 4, 0x3fff, 0x0, 0x0, 0x0, 0x0⟩,
  ⟨0x14, 1, 4, 1, 4, 0x80001fff, 0x0, 0x0, 0x0, 0x0⟩,
  ⟨0x18, 1, 4, 1, 4, 0x0, 0x0, 0xff, 0x0, 0x0⟩,
  ⟨0x1c, 1, 4, 1, 4, 0x0, 0x40000000, 0x0, 0x0, 0x0⟩,
  ⟨0x200, 64, 8, 1, 4, 0x0, 0x0, 0x0, 0x0, 0x0⟩,
  ⟨0x204, 64, 8, 1, 4, 0x0, 0x0, 0x0, 0x0, 0x0⟩,
  ⟨0xff0, 1, 4, 1, 4, 0x0, 0x0, 0xffffffff, 0x0, 0x0⟩,
  ⟨0xff4, 1, 4, 1, 4, 0x0, 0x4, 0x0, 0x0, 0x0⟩,
  ⟨0x1000, 1, 4, 1, 4, 0xffff, 0x0, 0x0, 0xc000, 0x0⟩,
  ⟨0x1004, 1, 4, 1, 4, 0x1fff, 0x0, 0x0, 0x578, 0x0⟩,
  ⟨0x1008, 1, 4, 1, 4, 0x1fff, 0x0, 0x0, 0x100, 0x0⟩]
/-- Registers of CH.WRITE. -/
def regsChWRITE : List RegDesc := [
  ⟨0x0, 1, 4, 1, 4, 0x1, 0x0, 0x0, 0x0, 0x0⟩,
  ⟨0x4, 1, 4, 1, 4, 0x3, 0x0, 0x0, 0x0, 0x0⟩,
  ⟨0x8, 1, 4, 1, 4, 0xf000ffff, 0x0, 0x0, 0x40000000, 0x0⟩,
  ⟨0xc, 1, 4, 1, 4, 0x3ff, 0x0, 0x0, 0x0, 0x0⟩,
  ⟨0x10, 1, 4, 1, 4, 0x0, 0x0, 0x0, 0x0, 0x0⟩,
  ⟨0x14, 1, 4, 1, 4, 0xf000ffff, 0x0, 0x0, 0x40000000, 0x0⟩,
  ⟨0x18, 1, 4, 1, 4, 0x0, 0x0, 0x0, 0x0, 0x0⟩,
  ⟨0x1c, 1, 4, 1, 4, 0x3ff, 0x0, 0x0, 0x0, 0x0⟩,
  ⟨0x20, 1, 4, 1, 4, 0x0, 0x3f00, 0x0, 0x0, 0x0⟩,
  ⟨0x24, 1, 4, 1, 4, 0x0, 0x3e, 0x0, 0x0, 0x0⟩,
  ⟨0x28, 1, 4, 1, 4, 0x0, 0x0, 0x0, 0x0, 0x0⟩,
  ⟨0x40, 6, 4, 1, 4, 0xffffff, 0x0, 0x0, 0x0, 0x0⟩,
  ⟨0x400, 4, 8, 1, 4, 0x0, 0x0, 0x0, 0x0, 0x0⟩,
  ⟨0x404, 4, 8, 1, 4, 0x0, 0x0, 0x0, 0x0, 0x0⟩,
  ⟨0x500, 1, 4, 1, 4, 0x0, 0x0, 0x0, 0x0, 0x0⟩,
  ⟨0x504, 1, 4, 1, 4, 0x0, 0x1, 0x0, 0x0, 0x0⟩,
  ⟨0x508, 1, 4, 1, 4, 0x0, 0x0, 0x1f, 0x0, 0x0⟩,
  ⟨0xff0, 1, 4, 1, 4, 0x0, 0x0, 0xffffffff, 0x0, 0x0⟩,
  ⟨0xff4, 1, 4, 1, 4, 0x0, 0x4, 0x0, 0x0, 0x0⟩,
  ⟨0x1000, 16, 4, 1, 4, 0x7f, 0x0, 0x0, 0x0, 0x0⟩,
  ⟨0x1040, 1, 4, 1, 4, 0xffff, 0x0, 0x0, 0x808, 0x0⟩]
/-- Registers of CH.ASSIST. -/
def regsChASSIST : List RegDesc := [
  ⟨0x0, 1, 4, 1, 4, 0x3, 0x0, 0x0, 0x0, 0x0⟩,
  ⟨0x4, 1, 4, 1, 4, 0x0, 0x40000000, 0x0, 0x0, 0x0⟩,
  ⟨0x8, 1, 4, 1, 4, 0x0, 0x7, 0x0, 0x0, 0x0⟩,
  ⟨0xc, 1, 4, 1, 4, 0x0, 0x0, 0x0, 0x0, 0x0⟩,
  ⟨0x10, 6, 4, 1, 4, 0xffff, 0x0, 0x0, 0x0, 0x0⟩,
  ⟨0x30, 6, 4, 1, 4, 0xffff, 0x0, 0x0, 0x0, 0x0⟩,
  ⟨0x50, 1, 4, 1, 4, 0x1fffffff, 0x0, 0x0, 0x4008000, 0x0⟩,
  ⟨0x60, 1, 4, 1, 4, 0x0, 0x0, 0x0, 0x0, 0x0⟩,
  ⟨0x64, 1, 4, 1, 4, 0x0, 0x0, 0x0, 0x0, 0x0⟩,
  ⟨0x68, 1, 4, 1, 4, 0x0, 0x1, 0x0, 0x0, 0x0⟩,
  ⟨0x100, 64, 4, 1, 4, 0xffff, 0x0, 0x0, 0x8000, 0x0⟩,
  ⟨0xf00, 1, 4, 1, 4, 0x7fffffff, 0x0, 0x80000000, 0xa05003c, 0x0⟩,
  ⟨0xf04, 1, 4, 1, 4, 0x0, 0x8, 0x0, 0x0, 0x0⟩,
  ⟨0xf08, 1, 4, 1, 4, 0x0, 0x0, 0x0, 0x0, 0xffffff⟩,
  ⟨0xf0c, 1, 4, 1, 4, 0x0, 0x0, 0x0, 0x0, 0xffffffff⟩,
  ⟨0xf10, 1, 4, 1, 4, 0x0, 0x0, 0x0, 0x0, 0xff⟩,
  ⟨0xff0, 1, 4, 1, 4, 0x0, 0x0, 0xffffffff, 0x0, 0x0⟩,
  ⟨0xff4, 1, 4, 1, 4, 0x0, 0x4, 0x0, 0x0, 0x0⟩,
  ⟨0x1000, 6, 4, 1, 4, 0xffff, 0x0, 0x0, 0x4000, 0x0⟩,
  ⟨0x1020, 6, 4, 1, 4, 0xffff, 0x0, 0x0, 0x0, 0x0⟩,
  ⟨0x1040, 1, 4, 1, 4, 0xffffffff, 0x0, 0x0, 0x4000400a, 0x0⟩,
  ⟨0x1044, 1, 4, 1, 4, 0xffff0000, 0x0, 0x0, 0xc0400000, 0x0⟩,
  ⟨0x1080, 8, 16, 1, 4, 0x1fffffff, 0x0, 0x0, 0x4008000, 0x0⟩,
  ⟨0x1084, 8, 16, 1, 4, 0x1fff00ff, 0x0, 0x0, 0x1000020, 0x0⟩,
  ⟨0x1088, 8, 16, 1, 4, 0xff, 0x0, 0x0, 0x40, 0x0⟩,
  ⟨0x1100, 1, 4, 1, 4, 0x0, 0x0, 0x0, 0x0, 0x0⟩,
  ⟨0x1104, 1, 4, 1, 4, 0x0, 0x0, 0x0, 0x0, 0x0⟩,
  ⟨0x1f00, 1, 4, 1, 4, 0xffff, 0x0, 0x0, 0x14, 0x0⟩]
/-- Registers of CH.FLY. -/
def regsChFLY : List RegDesc := [
  ⟨0x0, 1, 4, 1, 4, 0x1, 0x0, 0x0, 0x0, 0x0⟩,
  ⟨0x4, 1, 4, 1, 4, 0x0, 0x70000000, 0x0, 0x3f, 0x0⟩,
  ⟨0x8, 1, 4, 1, 4, 0x1, 0x0, 0x0, 0x0, 0x0⟩,
  ⟨0xc, 1, 4, 1, 4, 0x0, 0x0, 0xc0000007, 0x0, 0x0⟩,
  ⟨0x10, 6, 4, 1, 4, 0xffffffff, 0x0, 0x0, 0x0, 0x0⟩,
  ⟨0x30, 6, 4, 1, 4, 0xffff, 0x0, 0x0, 0x0, 0x0⟩,
  ⟨0x50, 6, 4, 1, 4, 0xfff, 0x0, 0x0, 0x0, 0x0⟩,
  ⟨0x70, 6, 4, 1, 4, 0x0, 0x0, 0x0, 0x0, 0xfff⟩,
  ⟨0x90, 1, 4, 1, 4, 0xffffffff, 0x0, 0x0, 0x64106010, 0x0⟩,
  ⟨0x94, 1, 4, 1, 4, 0x0, 0x0, 0x0, 0x0, 0xffffff⟩,
  ⟨0x98, 1, 4, 1, 4, 0x0, 0x0, 0x0, 0x0, 0xffffffff⟩,
  ⟨0x9c, 1, 4, 1, 4, 0x0, 0x0, 0x0, 0x0, 0xff⟩,
  ⟨0xff0, 1, 4, 1, 4, 0x0, 0x0, 0xffffffff, 0x0, 0x0⟩,
  ⟨0xff4, 1, 4, 1, 4, 0x0, 0x4, 0x0, 0x0, 0x0⟩,
  ⟨0x1000, 6, 8, 1, 4, 0xfff, 0x0, 0x0, 0x0, 0x0⟩,
  ⟨0x1004, 6, 8, 1, 4, 0xfff, 0x0, 0x0, 0x0, 0x0⟩]
/-- Registers of CH.DEMOD. -/
def regsChDEMOD : List RegDesc := [
  ⟨0x0, 1, 4, 1, 4, 0x31, 0x0, 0x2, 0x10, 0x0⟩,
  ⟨0x4, 1, 4, 1, 4, 0x0, 0x0, 0x0, 0x0, 0x0⟩,
  ⟨0x8, 1, 4, 1, 4, 0x0, 0x0, 0x0, 0x0, 0x0⟩,
  ⟨0xc, 1, 4, 1, 4, 0x0, 0x0, 0x0, 0x0, 0x0⟩,
  ⟨0x10, 1, 4, 1, 4, 0x0, 0x0, 0x0, 0x0, 0x0⟩,
  ⟨0x14, 1, 4, 1, 4, 0x0, 0x0, 0x0, 0x0, 0x0⟩,
  ⟨0x18, 1, 4, 1, 4, 0x0, 0x0, 0x0, 0x0, 0x0⟩,
  ⟨0x1c, 1, 4, 1, 4, 0x0, 0x0, 0x0, 0x0, 0x0⟩,
  ⟨0x20, 1, 4, 1, 4, 0x0, 0x0, 0x0, 0x0, 0x0⟩,
  ⟨0x24, 1, 4, 1, 4, 0x0, 0x0, 0x0, 0x0, 0x0⟩,
  ⟨0x30, 1, 4, 1, 4, 0x8ff07fff, 0x0, 0x0, 0x600000, 0x0⟩,
  ⟨0x34, 1, 4, 1, 4, 0x0, 0x0, 0x0, 0x0, 0x0⟩,
  ⟨0x40, 7, 4, 1, 4, 0x0, 0x0, 0x0, 0x0, 0x0⟩,
  ⟨0x5c, 1, 4, 1, 4, 0x0, 0x7f, 0x0, 0x0, 0x0⟩,
  ⟨0x60, 1, 4, 1, 4, 0x0, 0x0, 0x7f, 0x0, 0x0⟩,
  ⟨0x100, 64, 8, 1, 4, 0xffffff, 0x0, 0x0, 0xffffff, 0x0⟩,
  ⟨0x104, 64, 8, 1, 4, 0xffff, 0x0, 0x0, 0x0, 0x0⟩,
  ⟨0xf00, 1, 4, 1, 4, 0x7fffffff, 0x0, 0x80000000, 0xa0a003c, 0x0⟩,
  ⟨0xf04, 1, 4, 1, 4, 0x0, 0x8, 0x0, 0x0, 0x0⟩,
  ⟨0xf08, 1, 4, 1, 4, 0x0, 0x0, 0x0, 0x0, 0xffffff⟩,
  ⟨0xf0c, 1, 4, 1, 4, 0x0, 0x0, 0x0, 0x0, 0xffffffff⟩,
  ⟨0xf10, 1, 4, 1, 4, 0x0, 0x0, 0x0, 0x0, 0xff⟩,
  ⟨0xff0, 1, 4, 1, 4, 0x0, 0x0, 0xffffffff, 0x0, 0x0⟩,
  ⟨0xff4, 1, 4, 1, 4, 0x0, 0x4, 0x0, 0x0, 0x0⟩,
  ⟨0x1000, 1, 4, 1, 4, 0x1fffffff, 0x0, 0x0, 0xe288eb6, 0x0⟩,
  ⟨0x1004, 1, 4, 1, 4, 0xff, 0x0, 0x0, 0x33, 0x0⟩,
  ⟨0x1008, 1, 4, 1, 4, 0xffffff, 0x0, 0x0, 0x991008, 0x0⟩,
  ⟨0x100c, 1, 4, 1, 4, 0x30f, 0x0, 0x0, 0x104, 0x0⟩,
  ⟨0x1010, 1, 4, 1, 4, 0x0, 0x40000000, 0x0, 0x0, 0x0⟩,
  ⟨0x1014, 1, 4, 1, 4, 0xffff, 0x0, 0x0, 0x64, 0x0⟩,
  ⟨0x1018, 1, 4, 1, 4, 0x0, 0x0, 0x0, 0x0, 0x0⟩,
  ⟨0x101c, 1, 4, 1, 4, 0x0, 0x0, 0x0, 0x0, 0x0⟩,
  ⟨0x1020, 1, 4, 1, 4, 0x0, 0x0, 0x0, 0x0, 0x0⟩,
  ⟨0x1024, 1, 4, 1, 4, 0x0, 0x0, 0x0, 0x0, 0x0⟩,
  ⟨0x1040, 12, 4, 1, 4, 0x0, 0x0, 0x0, 0x0, 0x0⟩,
  ⟨0x1f00, 1, 4, 1, 4, 0xffff, 0x0, 0x0, 0x19, 0x0⟩]
/-- Registers of CH.LOOP. -/
def regsChLOOP : List RegDesc := [
  ⟨0x0, 1, 4, 1, 4, 0x0, 0x0, 0x107, 0x0, 0x0⟩,
  ⟨0x4, 1, 4, 1, 4, 0x0, 0xe00000, 0x0, 0x4000000, 0x0⟩,
  ⟨0x8, 1, 4, 1, 4, 0xffffffff, 0x0, 0x0, 0x0, 0x0⟩,
  ⟨0xc, 1, 4, 1, 4, 0x7ff, 0x0, 0x0, 0x0, 0x0⟩,
  ⟨0x10, 1, 4, 1, 4, 0x3ffff, 0x0, 0x0, 0x190, 0x0⟩,
  ⟨0x14, 1, 4, 1, 4, 0xffffffff, 0x0, 0x0, 0x0, 0x0⟩,
  ⟨0x18, 1, 4, 1, 4, 0xffff, 0x0, 0x0, 0x0, 0x0⟩,
  ⟨0x1c, 1, 4, 1, 4, 0xffffffff, 0x0, 0x0, 0x0, 0x0⟩,
  ⟨0x20, 4, 4, 1, 4, 0xffffffff, 0x0, 0x0, 0x0, 0x0⟩,
  ⟨0x30, 1, 4, 1, 4, 0xf000ffff, 0x0, 0x0, 0x80000000, 0x0⟩,
  ⟨0x34, 1, 4, 1, 4, 0xffffffff, 0x0, 0x0, 0x0, 0x0⟩,
  ⟨0x38, 1, 4, 1, 4, 0xffff, 0x0, 0x0, 0x0, 0x0⟩,
  ⟨0x3c, 1, 4, 1, 4, 0xffff0fff, 0x0, 0x0, 0x210019a, 0x0⟩,
  ⟨0x40, 1, 4, 1, 4, 0xffffff, 0x0, 0x0, 0x200800, 0x0⟩,
  ⟨0x44, 1, 4, 1, 4, 0xffffff, 0x0, 0x0, 0x800cd, 0x0⟩,
  ⟨0x48, 1, 4, 1, 4, 0xffff00ff, 0x0, 0x0, 0x1000008, 0x0⟩,
  ⟨0x4c, 1, 4, 1, 4, 0xffffffff, 0x0, 0x0, 0x0, 0x0⟩,
  ⟨0x50, 1, 4, 1, 4, 0x0, 0x0, 0x0, 0x0, 0x0⟩,
  ⟨0x54, 1, 4, 1, 4, 0x0, 0xffe, 0x0, 0x0, 0x0⟩,
  ⟨0x58, 1, 4, 1, 4, 0x0, 0x0, 0x0, 0x0, 0x0⟩,
  ⟨0x5c, 1, 4, 1, 4, 0x0, 0x10000, 0x0, 0x0, 0x0⟩,
  ⟨0x60, 1, 4, 1, 4, 0x0, 0x0, 0x0, 0x280, 0x0⟩,
  ⟨0x64, 1, 4, 1, 4, 0x0, 0x0, 0x0, 0x0, 0x0⟩,
  ⟨0x68, 1, 4, 1, 4, 0xffffffff, 0x0, 0x0, 0x32ff, 0x0⟩,
  ⟨0xff0, 1, 4, 1, 4, 0x0, 0x0, 0xffffffff, 0x0, 0x0⟩,
  ⟨0xff4, 1, 4, 1, 4, 0x0, 0x4, 0x0, 0x0, 0x0⟩,
  ⟨0x1000, 1, 4, 1, 4, 0xffffffff, 0x0, 0x0, 0x0, 0x0⟩,
  ⟨0x1004, 1, 4, 1, 4, 0xffffffff, 0x0, 0x0, 0x0, 0x0⟩,
  ⟨0x1008, 1, 4, 1, 4, 0xffffffff, 0x0, 0x0, 0x0, 0x0⟩,
  ⟨0x100c, 1, 4, 1, 4, 0xffffffff, 0x0, 0x0, 0x0, 0x0⟩,
  ⟨0x1010, 1, 4, 1, 4, 0xffffffff, 0x0, 0x0, 0x0, 0x0⟩,
  ⟨0x1014, 1, 4, 1, 4, 0xffffffff, 0x0, 0x0, 0x0, 0x0⟩,
  ⟨0x1018, 1, 4, 1, 4, 0xffffffff, 0x0, 0x0, 0x0, 0x0⟩,
  ⟨0x101c, 1, 4, 1, 4, 0xff, 0x0, 0x0, 0x0, 0x0⟩,
  ⟨0x1020, 1, 4, 1, 4, 0xffffffff, 0x0, 0x0, 0x20000000, 0x0⟩,
  ⟨0x1024, 1, 4, 1, 4, 0xffffffff, 0x0, 0x0, 0x8000000, 0x0⟩,
  ⟨0x1040, 8, 32, 1, 4, 0xffffffff, 0x0, 0x0, 0x40000000, 0x0⟩,
  ⟨0x1044, 8, 32, 4, 4, 0xffffffff, 0x0, 0x0, 0x0, 0x0⟩,
  ⟨0x1140, 4, 32, 1, 4, 0xffffffff, 0x0, 0x0, 0x40000000, 0x0⟩,
  ⟨0x1144, 4, 32, 4, 4, 0xffffffff, 0x0, 0x0, 0x0, 0x0⟩,
  ⟨0x11c0, 1, 4, 1, 4, 0xffffffff, 0x0, 0x0, 0x40000000, 0x0⟩,
  ⟨0x11c4, 4, 4, 1, 4, 0xffffffff, 0x0, 0x0, 0x0, 0x0⟩,
  ⟨0x1200, 1, 4, 1, 4, 0x0, 0x0, 0x0, 0x0, 0x0⟩,
  ⟨0x1204, 1, 4, 1, 4, 0x0, 0x0, 0x0, 0x0, 0x0⟩]
/-- Registers of CH.HOLD. -/
def regsChHOLD : List RegDesc := [
  ⟨0x0, 1, 4, 1, 4, 0x0, 0x0, 0x0, 0x0, 0x0⟩,
  ⟨0x4, 1, 4, 1, 4, 0x0, 0x3, 0x0, 0x0, 0x0⟩,
  ⟨0x8, 1, 4, 1, 4, 0xff, 0x0, 0x0, 0x8, 0x0⟩,
  ⟨0xff0, 1, 4, 1, 4, 0x0, 0x0, 0xffffffff, 0x0, 0x0⟩,
  ⟨0xff4, 1, 4, 1, 4, 0x0, 0x4, 0x0, 0x0, 0x0⟩,
  ⟨0x1000, 1, 4, 1, 4, 0x0, 0x0, 0x0, 0x0, 0x0⟩,
  ⟨0x1004, 1, 4, 1, 4, 0x0, 0x0, 0x0, 0x0, 0x0⟩,
  ⟨0x1008, 1, 4, 1, 4, 0x0, 0x0, 0x0, 0x0, 0x0⟩]
/-- Registers of CH.LOMUN. -/
def regsChLOMUN : List RegDesc := [
  ⟨0x0, 1, 4, 1, 4, 0x1, 0x0, 0xe0000000, 0x0, 0x0⟩,
  ⟨0x4, 1, 4, 1, 4, 0x0, 0x1000, 0x0, 0x0, 0x0⟩,
  ⟨0x8, 1, 4, 1, 4, 0x0, 0x1ff, 0x0, 0x0, 0x0⟩,
  ⟨0xc, 1, 4, 1, 4, 0x0, 0x0, 0x0, 0x0, 0x0⟩,
  ⟨0x10, 1, 4, 1, 4, 0xfff, 0x0, 0x0, 0xa00, 0x0⟩,
  ⟨0x14, 1, 4, 1, 4, 0xff, 0x0, 0x0, 0x0, 0x0⟩,
  ⟨0x18, 1, 4, 1, 4, 0xfff, 0x0, 0x0, 0xa00, 0x0⟩,
  ⟨0x20, 8, 4, 1, 4, 0x0, 0x0, 0xffffffff, 0x0, 0x0⟩,
  ⟨0x40, 12, 4, 1, 4, 0x0, 0x0, 0x0, 0x0, 0x0⟩,
  ⟨0x80, 12, 4, 1, 4, 0x0, 0x0, 0x0, 0x0, 0x0⟩,
  ⟨0xc0, 16, 4, 1, 4, 0xffffffff, 0x0, 0x0, 0x0, 0x0⟩,
  ⟨0x100, 1, 4, 1, 4, 0x0, 0x0, 0x0, 0x0, 0x0⟩]
/-- Registers of CH.PREAMP. -/
def regsChPREAMP : List RegDesc := [
  ⟨0x0, 1, 4, 1, 4, 0x1, 0x0, 0x0, 0x1, 0x0⟩,
  ⟨0x4, 1, 4, 1, 4, 0x0, 0x0, 0x1, 0x0, 0x0⟩,
  ⟨0x8, 1, 4, 1, 4, 0x0, 0x0, 0x0, 0x0, 0x0⟩,
  ⟨0xc, 1, 4, 1, 4, 0x0, 0x3, 0x0, 0x0, 0x0⟩,
  ⟨0x10, 1, 4, 1, 4, 0x0, 0x0, 0x0, 0x0, 0x0⟩,
  ⟨0x14, 1, 4, 1, 4, 0x0, 0x0, 0xcf0fffff, 0x0, 0x0⟩,
  ⟨0x18, 1, 4, 1, 4, 0x0, 0x40000000, 0x0, 0x0, 0x0⟩,
  ⟨0x20, 1, 4, 1, 4, 0x0, 0x0, 0x0, 0x0, 0x0⟩,
  ⟨0x24, 1, 4, 1, 4, 0x0, 0x0, 0x0, 0x0, 0x0⟩,
  ⟨0x28, 1, 4, 1, 4, 0x0, 0x3, 0x0, 0x0, 0x0⟩]
/-- Registers of CH.CLASPV. -/
def regsChCLASPV : List RegDesc := [
  ⟨0x0, 1, 4, 1, 4, 0x0, 0x0, 0x0, 0x0, 0x0⟩,
  ⟨0x4, 1, 4, 1, 4, 0x0, 0x0, 0x0, 0x0, 0x0⟩,
  ⟨0x8, 1, 4, 1, 4, 0x0, 0x0, 0x1, 0x0, 0x0⟩]
/-- Registers of CH.CCORE. -/
def regsChCCORE : List RegDesc := [
  ⟨0x0, 2, 64, 1, 4, 0x1ffff, 0x0, 0xc0000000, 0x0, 0x0⟩,
  ⟨0x4, 2, 64, 1, 4, 0x0, 0xf000000, 0x0, 0x0, 0x0⟩,
  ⟨0x8, 2, 64, 1, 4, 0x0, 0x3f, 0x0, 0x0, 0x0⟩,
  ⟨0xc, 2, 64, 1, 4, 0x0, 0x0, 0x0, 0x0, 0x0⟩,
  ⟨0x10, 2, 64, 1, 4, 0xfffffffc, 0x0, 0x0, 0x0, 0x0⟩,
  ⟨0x14, 2, 64, 1, 4, 0xff, 0x0, 0x0, 0x0, 0x0⟩,
  ⟨0x18, 2, 64, 1, 4, 0x0, 0x0, 0x0, 0x0, 0x0⟩,
  ⟨0x1c, 2, 64, 1, 4, 0x0, 0x0, 0x0, 0x0, 0x0⟩,
  ⟨0x80, 2, 4, 1, 4, 0x0, 0x0, 0x0, 0x0, 0x0⟩]
/-- Registers of CH.CSRAM. -/
def regsChCSRAM : List RegDesc := [
  ⟨0x40, 1, 4, 1, 4, 0x0, 0x1f, 0x0, 0x0, 0x0⟩,
  ⟨0x44, 1, 4, 1, 4, 0x0, 0x0, 0x0, 0x0, 0x0⟩,
  ⟨0x48, 1, 4, 1, 4, 0x0, 0x0, 0x0, 0x0, 0x0⟩,
  ⟨0x4c, 1, 4, 1, 4, 0x0, 0x0, 0x0, 0x0, 0x0⟩,
  ⟨0x50, 1, 4, 1, 4, 0x0, 0x0, 0x0, 0x0, 0x0⟩,
  ⟨0x54, 1, 4, 1, 4, 0x0, 0x0, 0x0, 0x0, 0x0⟩,
  ⟨0x58, 1, 4, 1, 4, 0x0, 0x0, 0x0, 0x0, 0x0⟩,
  ⟨0x5c, 1, 4, 1, 4, 0x0, 0x0, 0x0, 0x0, 0x0⟩,
  ⟨0x60, 1, 4, 1, 4, 0x1, 0x0, 0x0, 0x1, 0x0⟩,
  ⟨0x64, 1, 4, 1, 4, 0x0, 0x0, 0x0, 0x0, 0x0⟩,
  ⟨0x68, 1, 4, 1, 4, 0x0, 0x0, 0x0, 0x0, 0x0⟩,
  ⟨0x6c, 1, 4, 1, 4, 0x0, 0x0, 0x3, 0x0, 0x0⟩,
  ⟨0xff0, 1, 4, 1, 4, 0x0, 0x0, 0xffffffff, 0x0, 0x0⟩,
  ⟨0xff4, 1, 4, 1, 4, 0x0, 0x4, 0x0, 0x0, 0x0⟩,
  ⟨0x1800, 1, 4, 1, 4, 0xffffffc0, 0x0, 0x0, 0x0, 0x0⟩,
  ⟨0x1804, 1, 4, 1, 4, 0xff, 0x0, 0x0, 0x0, 0x0⟩,
  ⟨0x1808, 1, 4, 1, 4, 0x0, 0x0, 0x3, 0x0, 0x0⟩,
  ⟨0x180c, 1, 4, 1, 4, 0x0, 0x0, 0x0, 0x0, 0x0⟩,
  ⟨0x1810, 16, 4, 1, 4, 0xffffffff, 0x0, 0x0, 0x0, 0x0⟩,
  ⟨0x1850, 1, 4, 1, 4, 0xffffffff, 0x0, 0x0, 0x0, 0x0⟩,
  ⟨0x1854, 1, 4, 1, 4, 0xffffffff, 0x0, 0x0, 0x0, 0x0⟩]
/-- Registers of CH.EVENT. -/
def regsChEVENT : List RegDesc := [
  ⟨0x400, 16, 4, 1, 4, 0x0, 0x0, 0x0, 0x0, 0x0⟩,
  ⟨0x800, 2, 64, 16, 4, 0x0, 0x0, 0x0, 0x0, 0x0⟩]
/-- Registers of CH.TSUKU. -/
def regsChTSUKU : List RegDesc := [
  ⟨0x0, 1, 4, 1, 4, 0x0, 0x0, 0x0, 0x0, 0x0⟩,
  ⟨0x4, 1, 4, 1, 4, 0x0, 0x3f, 0x0, 0x0, 0x0⟩,
  ⟨0x8, 1, 4, 1, 4, 0x0, 0x0, 0x0, 0x0, 0x0⟩,
  ⟨0xc, 1, 4, 1, 4, 0x0, 0x0, 0x3, 0x0, 0x0⟩,
  ⟨0x40, 1, 4, 1, 4, 0x0, 0xc0000000, 0x0, 0x0, 0x0⟩,
  ⟨0x100, 8, 32, 1, 4, 0x0, 0x0, 0x0, 0x0, 0x0⟩,
  ⟨0x104, 8, 32, 1, 4, 0x0, 0x0, 0x0, 0x0, 0x0⟩,
  ⟨0x108, 8, 32, 1, 4, 0x0, 0x0, 0x0, 0x0, 0x0⟩,
  ⟨0x10c, 8, 32, 1, 4, 0x0, 0x0, 0x0, 0x0, 0x0⟩,
  ⟨0x110, 8, 32, 1, 4, 0x0, 0x0, 0xffffffff, 0x0, 0x0⟩,
  ⟨0x114, 8, 32, 1, 4, 0x0, 0x0, 0xffffffff, 0x0, 0x0⟩,
  ⟨0x118, 8, 32, 1, 4, 0x0, 0x0, 0x3, 0x0, 0x0⟩,
  ⟨0xff0, 1, 4, 1, 4, 0x0, 0x0, 0xffffffff, 0x0, 0x0⟩,
  ⟨0xff4, 1, 4, 1, 4, 0x0, 0x4, 0x0, 0x0, 0x0⟩,
  ⟨0x1000, 1, 4, 1, 4, 0xf0f, 0x0, 0x0, 0x808, 0x0⟩]
/-- Registers of KPR.DIE. -/
def regsKprDIE : List RegDesc := [
  ⟨0x0, 1, 4, 1, 4, 0x0, 0x0, 0x0, 0x84402100, 0x0⟩,
  ⟨0x4, 1, 4, 1, 4, 0x0, 0x0, 0x0, 0x101, 0x0⟩,
  ⟨0xf00, 1, 4, 1, 4, 0x7fffffff, 0x0, 0x80000000, 0x3c1405a0, 0x0⟩,
  ⟨0xf04, 1, 4, 1, 4, 0x0, 0x8, 0x0, 0x0, 0x0⟩,
  ⟨0xf08, 1, 4, 1, 4, 0x0, 0x0, 0x0, 0x0, 0xffffff⟩,
  ⟨0xf0c, 1, 4, 1, 4, 0x0, 0x0, 0x0, 0x0, 0xffffffff⟩,
  ⟨0xf10, 1, 4, 1, 4, 0x0, 0x0, 0x0, 0x0, 0xff⟩,
  ⟨0xff0, 1, 4, 1, 4, 0x0, 0x0, 0xffffffff, 0x0, 0x0⟩,
  ⟨0xff4, 1, 4, 1, 4, 0x0, 0x4, 0x0, 0x0, 0x0⟩,
  ⟨0x1f00, 1, 4, 1, 4, 0xffff, 0x0, 0x0, 0x5, 0x0⟩]
/-- Registers of KPR.CLOCK. -/
def regsKprCLOCK : List RegDesc := [
  ⟨0x0, 1, 4, 1, 4, 0x0, 0x0, 0x0, 0x0, 0x0⟩,
  ⟨0x4, 1, 4, 1, 4, 0x0, 0x0, 0x0, 0x0, 0x0⟩,
  ⟨0xff0, 1, 4, 1, 4, 0x0, 0x0, 0xffffffff, 0x0, 0x0⟩,
  ⟨0xff4, 1, 4, 1, 4, 0x0, 0x4, 0x0, 0x0, 0x0⟩,
  ⟨0x1000, 4, 4, 1, 4, 0xffffffff, 0x0, 0x0, 0x0, 0xffffffff⟩]
/-- Registers of KPR.WEDGE. -/
def regsKprWEDGE : List RegDesc := [
  ⟨0x0, 4, 32, 1, 4, 0x0, 0x60000000, 0x0, 0x0, 0x0⟩]
/-- Registers of KPR.LADDER. -/
def regsKprLADDER : List RegDesc := [
  ⟨0x0, 1, 4, 1, 4, 0x0, 0x0, 0x7, 0x0, 0x0⟩,
  ⟨0x4, 1, 4, 1, 4, 0x0, 0x0, 0x0, 0x0, 0x0⟩,
  ⟨0x8, 1, 4, 1, 4, 0x0, 0x3f, 0x0, 0x0, 0x0⟩,
  ⟨0xc, 1, 4, 1, 4, 0x0, 0x0, 0x0, 0x0, 0x0⟩,
  ⟨0x10, 1, 4, 1, 4, 0x7, 0x0, 0x0, 0x0, 0x0⟩,
  ⟨0x14, 1, 4, 1, 4, 0x3f, 0x0, 0x0, 0x3f, 0x0⟩,
  ⟨0x18, 1, 4, 1, 4, 0xffffffff, 0x0, 0x0, 0x0, 0x0⟩,
  ⟨0x20, 3, 4, 1, 4, 0x0, 0x0, 0x0, 0x0, 0x0⟩]
/-- Registers of KPR.SUPMON. -/
def regsKprSUPMON : List RegDesc := [
  ⟨0x0, 1, 4, 1, 4, 0x0, 0x0, 0x0, 0x0, 0x0⟩,
  ⟨0x4, 1, 4, 1, 4, 0x0, 0x7ff, 0x0, 0x0, 0x0⟩,
  ⟨0x8, 1, 4, 1, 4, 0x0, 0x0, 0x0, 0x0, 0x0⟩,
  ⟨0xc, 1, 4, 1, 4, 0x1ffff, 0x0, 0x0, 0x10000, 0x0⟩,
  ⟨0x10, 1, 4, 1, 4, 0x0, 0x0, 0x0, 0x0, 0x0⟩]
/-- Registers of KPR.SPIN. -/
def regsKprSPIN : List RegDesc := [
  ⟨0x0, 1, 4, 1, 4, 0x0, 0x0, 0x7, 0x0, 0x0⟩,
  ⟨0x4, 1, 4, 1, 4, 0x0, 0x100000, 0x0, 0x0, 0x0⟩,
  ⟨0x8, 1, 4, 1, 4, 0x0, 0x1ff, 0x0, 0x0, 0x0⟩,
  ⟨0xc, 1, 4, 1, 4, 0x0, 0x0, 0x0, 0x0, 0x0⟩,
  ⟨0x10, 1, 4, 1, 4, 0x0, 0x0, 0x0, 0x0, 0x0⟩,
  ⟨0x14, 1, 4, 1, 4, 0x0, 0x0, 0x0, 0x0, 0x0⟩,
  ⟨0x18, 1, 4, 1, 4, 0x0, 0x0, 0x0, 0x0, 0x0⟩,
  ⟨0x1c, 1, 4, 1, 4, 0x0, 0x0, 0x0, 0x0, 0x0⟩,
  ⟨0x20, 1, 4, 1, 4, 0x0, 0x0, 0x0, 0x0, 0x0⟩,
  ⟨0x24, 1, 4, 1, 4, 0x0, 0x0, 0x0, 0x0, 0x0⟩,
  ⟨0x28, 1, 4, 1, 4, 0x0, 0x0, 0x0, 0x0, 0x0⟩,
  ⟨0x2c, 1, 4, 1, 4, 0x0, 0x7, 0x0, 0x0, 0x0⟩,
  ⟨0x30, 1, 4, 1, 4, 0xffffff0e, 0x0, 0x0, 0x2582802, 0x0⟩,
  ⟨0x34, 1, 4, 1, 4, 0xffffffff, 0x0, 0x0, 0x0, 0x0⟩,
  ⟨0xff0, 1, 4, 1, 4, 0x0, 0x0, 0xffffffff, 0x0, 0x0⟩,
  ⟨0xff4, 1, 4, 1, 4, 0x0, 0x4, 0x0, 0x0, 0x0⟩,
  ⟨0x1000, 1, 4, 1, 4, 0xffffffff, 0x0, 0x0, 0x0, 0x0⟩,
  ⟨0x1004, 1, 4, 1, 4, 0xffffffff, 0x0, 0x0, 0x0, 0x0⟩,
  ⟨0x1008, 1, 4, 1, 4, 0xffffffff, 0x0, 0x0, 0x0, 0x0⟩,
  ⟨0x100c, 1, 4, 1, 4, 0xffffffff, 0x0, 0x0, 0x0, 0x0⟩,
  ⟨0x1010, 1, 4, 1, 4, 0xffffffff, 0x0, 0x0, 0x0, 0x0⟩,
  ⟨0x1014, 1, 4, 1, 4, 0xffffffff, 0x0, 0x0, 0x8201a04, 0x0⟩,
  ⟨0x1018, 1, 4, 1, 4, 0xff00ffff, 0x0, 0x0, 0x80003e8, 0x0⟩,
  ⟨0x101c, 1, 4, 1, 4, 0xffffffff, 0x0, 0x0, 0x1f4, 0x0⟩,
  ⟨0x1020, 1, 4, 1, 4, 0xffffffff, 0x0, 0x0, 0x1e3c, 0x0⟩,
  ⟨0x1024, 1, 4, 1, 4, 0xffffffff, 0x0, 0x0, 0xc8012c, 0x0⟩,
  ⟨0x1028, 1, 4, 1, 4, 0xffffffff, 0x0, 0x0, 0x0, 0x0⟩,
  ⟨0x102c, 1, 4, 1, 4, 0xffff, 0x0, 0x0, 0x500, 0x0⟩,
  ⟨0x1030, 1, 4, 1, 4, 0xffff, 0x0, 0x0, 0x3e8, 0x0⟩,
  ⟨0x2000, 1024, 4, 1, 4, 0xffff, 0x0, 0x0, 0x0, 0x0⟩]
/-- Registers of KPR.SHOCK. -/
def regsKprSHOCK : List RegDesc := [
  ⟨0x0, 1, 4, 1, 4, 0x8000ffff, 0x0, 0x0, 0x80002000, 0x0⟩,
  ⟨0x4, 1, 4, 1, 4, 0x0, 0x80000000, 0x0, 0x0, 0x0⟩,
  ⟨0x8, 1, 4, 1, 4, 0x0, 0x0, 0x0, 0x0, 0x0⟩,
  ⟨0xc, 1, 4, 1, 4, 0x0, 0x0, 0x0, 0x0, 0x0⟩]
/-- Registers of KPR.CLASPS. -/
def regsKprCLASPS : List RegDesc := [
  ⟨0x0, 1, 4, 1, 4, 0x0, 0x0, 0xf07, 0x0, 0x0⟩,
  ⟨0x4, 1, 4, 1, 4, 0x0, 0x0, 0x0, 0x0, 0x0⟩,
  ⟨0x8, 1, 4, 1, 4, 0x0, 0xfffffff8, 0x0, 0x0, 0x0⟩,
  ⟨0xc, 1, 4, 1, 4, 0x0, 0xf, 0x0, 0x0, 0x0⟩,
  ⟨0x10, 1, 4, 1, 4, 0xffffff, 0x0, 0x0, 0x0, 0x0⟩]
/-- Registers of KPR.ALOG. -/
def regsKprALOG : List RegDesc := [
  ⟨0x0, 1, 4, 1, 4, 0x0, 0x0, 0x7, 0x0, 0x0⟩,
  ⟨0x4, 1, 4, 1, 4, 0x0, 0x0, 0x0, 0x0, 0x0⟩,
  ⟨0x8, 1, 4, 1, 4, 0x0, 0x0, 0x0, 0x0, 0xffffffff⟩,
  ⟨0xc, 1, 4, 1, 4, 0x0, 0x0, 0x0, 0x0, 0xffffffff⟩,
  ⟨0x10, 1, 4, 1, 4, 0x0, 0x0, 0x0, 0x0, 0xffff⟩,
  ⟨0x14, 1, 4, 1, 4, 0x0, 0x0, 0x0, 0x0, 0x3fff⟩,
  ⟨0x18, 1, 4, 1, 4, 0x0, 0x0, 0x0, 0x0, 0x1fff⟩,
  ⟨0x20, 4, 4, 1, 4, 0x0, 0x0, 0x0, 0x0, 0x0⟩,
  ⟨0x30, 1, 4, 1, 4, 0x0, 0x1f, 0x0, 0x0, 0x0⟩,
  ⟨0x34, 1, 4, 1, 4, 0x0, 0x0, 0x0, 0x0, 0x0⟩,
  ⟨0x38, 1, 4, 1, 4, 0x0, 0x0, 0x0, 0x0, 0x0⟩,
  ⟨0x3c, 1, 4, 1, 4, 0x0, 0x0, 0xffffffff, 0x0, 0x0⟩,
  ⟨0x40, 1, 4, 1, 4, 0xff, 0x0, 0x0, 0x0, 0x0⟩,
  ⟨0x100, 17, 16, 1, 4, 0xff1f, 0x0, 0x0, 0x0, 0x0⟩,
  ⟨0x104, 17, 16, 1, 4, 0xffffffff, 0x0, 0x0, 0x0, 0x0⟩,
  ⟨0x108, 17, 16, 1, 4, 0xffffffff, 0x0, 0x0, 0x0, 0x0⟩,
  ⟨0x10c, 17, 16, 1, 4, 0x0, 0x0, 0xff, 0x0, 0x0⟩]
/-- Registers of KPR.COUNT. -/
def regsKprCOUNT : List RegDesc := [
  ⟨0x0, 1, 4, 1, 4, 0x0, 0x0, 0x0, 0x0, 0xffffffff⟩,
  ⟨0x4, 1, 4, 1, 4, 0x0, 0x0, 0x0, 0x0, 0xff⟩,
  ⟨0x8, 1, 4, 1, 4, 0x0, 0x0, 0x0, 0x0, 0xffffff⟩,
  ⟨0xc, 1, 4, 1, 4, 0x0, 0x0, 0x0, 0x0, 0x0⟩]
/-- Registers of KPR.NVS. -/
def regsKprNVS : List RegDesc := [
  ⟨0x0, 1, 4, 1, 4, 0x3fffc, 0x0, 0x0, 0x0, 0x0⟩,
  ⟨0x4, 1, 4, 1, 4, 0xffffffff, 0x0, 0x0, 0x0, 0x0⟩,
  ⟨0x8, 1, 4, 1, 4, 0x0, 0x0, 0x0, 0x0, 0x0⟩,
  ⟨0xc, 1, 4, 1, 4, 0x0, 0x3, 0x0, 0x0, 0x0⟩]
/-- Registers of KPR.THERM. -/
def regsKprTHERM : List RegDesc := [
  ⟨0x0, 8, 4, 1, 4, 0x0, 0x0, 0x0, 0x0, 0x0⟩,
  ⟨0x20, 1, 4, 1, 4, 0x0, 0x0, 0x0, 0x0, 0x0⟩,
  ⟨0x24, 1, 4, 1, 4, 0x0, 0xffffff, 0x0, 0x0, 0x0⟩,
  ⟨0x28, 1, 4, 1, 4, 0x0, 0x0, 0x0, 0x0, 0x0⟩,
  ⟨0x40, 8, 4, 1, 4, 0xffffff, 0x0, 0x0, 0x0, 0x0⟩,
  ⟨0x60, 1, 4, 1, 4, 0xffff, 0x0, 0x0, 0x2080, 0x0⟩]
/-- Registers of KPR.KVERIFY. -/
def regsKprKVERIFY : List RegDesc := [
  ⟨0x0, 1, 4, 1, 4, 0x0, 0x0, 0x0, 0x0, 0x0⟩,
  ⟨0x4, 1, 4, 1, 4, 0x0, 0x0, 0xffffffff, 0x0, 0x0⟩,
  ⟨0x8, 1, 4, 1, 4, 0x0, 0x0, 0x0, 0x0, 0x0⟩]
/-- Registers of KPR.EVENT. -/
def regsKprEVENT : List RegDesc := [
  ⟨0x400, 16, 4, 1, 4, 0x0, 0x0, 0x0, 0x0, 0x0⟩]
/-- Registers of KPR.TSUKU. -/
def regsKprTSUKU : List RegDesc := [
  ⟨0x0, 1, 4, 1, 4, 0x0, 0x0, 0x0, 0x0, 0x0⟩,
  ⟨0x4, 1, 4, 1, 4, 0x0, 0x3f, 0x0, 0x0, 0x0⟩,
  ⟨0x8, 1, 4, 1, 4, 0x0, 0x0, 0x0, 0x0, 0x0⟩,
  ⟨0xc, 1, 4, 1, 4, 0x0, 0x0, 0x3, 0x0, 0x0⟩,
  ⟨0x100, 8, 32, 1, 4, 0x0, 0x0, 0x0, 0x0, 0x0⟩,
  ⟨0x104, 8, 32, 1, 4, 0x0, 0x0, 0x0, 0x0, 0x0⟩,
  ⟨0x108, 8, 32, 1, 4, 0x0, 0x0, 0x0, 0x0, 0x0⟩,
  ⟨0x10c, 8, 32, 1, 4, 0x0, 0x0, 0x0, 0x0, 0x0⟩,
  ⟨0x110, 8, 32, 1, 4, 0x0, 0x0, 0xffffffff, 0x0, 0x0⟩,
  ⟨0x114, 8, 32, 1, 4, 0x0, 0x0, 0xffffffff, 0x0, 0x0⟩,
  ⟨0x118, 8, 32, 1, 4, 0x0, 0x0, 0x3, 0x0, 0x0⟩,
  ⟨0xff0, 1, 4, 1, 4, 0x0, 0x0, 0xffffffff, 0x0, 0x0⟩,
  ⟨0xff4, 1, 4, 1, 4, 0x0, 0x4, 0x0, 0x0, 0x0⟩,
  ⟨0x1000, 1, 4, 1, 4, 0xf0f, 0x0, 0x0, 0x808, 0x0⟩]
/-- Registers of KPR.INVENTORY. -/
def regsKprINVENTORY : List RegDesc := [
  ⟨0x0, 1, 4, 1, 4, 0x0, 0x0, 0x0, 0x0, 0x0⟩,
  ⟨0x4, 1, 4, 1, 4, 0x0, 0x0, 0x0, 0x0, 0x0⟩,
  ⟨0x8, 1, 4, 1, 4, 0x3ff, 0x0, 0x0, 0x0, 0x0⟩,
  ⟨0xc, 1, 4, 1, 4, 0x0, 0x0, 0xffffffff, 0x0, 0x0⟩]

/-- The registers of a unit; the empty list for a populated unit without registers (R8) and for an unpopulated slot (R5). -/
def unitRegs : DieKind → Nat → List RegDesc
  | .hub, 0 => regsHubDIE
  | .hub, 1 => regsHubPCIE
  | .hub, 2 => regsHubNVME
  | .hub, 3 => regsHubTAGS
  | .hub, 4 => regsHubSTACKS
  | .hub, 5 => regsHubSCACHE
  | .hub, 6 => regsHubDRAMC
  | .hub, 7 => regsHubCIPHER
  | .hub, 8 => regsHubSIGNET
  | .hub, 9 => regsHubFOLIO
  | .hub, 10 => regsHubCATALOGUE
  | .hub, 11 => regsHubXSPI
  | .hub, 12 => regsHubMGMT
  | .hub, 13 => regsHubEVENT
  | .hub, 14 => regsHubTSUKU
  | .hub, 15 => regsHubOTP
  | .hub, 17 => regsHubHSRAM
  | .hub, 18 => regsHubHCORE
  | .hub, 19 => regsHubPERI
  | .ch, 0 => regsChDIE
  | .ch, 1 => regsChAFE
  | .ch, 2 => regsChADC
  | .ch, 3 => regsChDETECT
  | .ch, 4 => regsChLDPC
  | .ch, 5 => regsChWRITE
  | .ch, 6 => regsChASSIST
  | .ch, 7 => regsChFLY
  | .ch, 8 => regsChDEMOD
  | .ch, 9 => regsChLOOP
  | .ch, 10 => regsChHOLD
  | .ch, 11 => regsChLOMUN
  | .ch, 12 => regsChPREAMP
  | .ch, 13 => regsChCLASPV
  | .ch, 14 => regsChCCORE
  | .ch, 15 => regsChCSRAM
  | .ch, 16 => regsChEVENT
  | .ch, 17 => regsChTSUKU
  | .kpr, 0 => regsKprDIE
  | .kpr, 1 => regsKprCLOCK
  | .kpr, 2 => regsKprWEDGE
  | .kpr, 3 => regsKprLADDER
  | .kpr, 4 => regsKprSUPMON
  | .kpr, 5 => regsKprSPIN
  | .kpr, 6 => regsKprSHOCK
  | .kpr, 7 => regsKprCLASPS
  | .kpr, 8 => regsKprALOG
  | .kpr, 9 => regsKprCOUNT
  | .kpr, 10 => regsKprNVS
  | .kpr, 11 => regsKprTHERM
  | .kpr, 12 => regsKprKVERIFY
  | .kpr, 13 => regsKprEVENT
  | .kpr, 14 => regsKprTSUKU
  | .kpr, 15 => regsKprINVENTORY
  | _, _ => []

/-- Populated unit slots (the unit tables of file 01). -/
def unitCount : DieKind → Nat
  | .hub => 20
  | .ch => 18
  | .kpr => 16

/-- Units that hold an Expert page (the chapters' register sections; EXPERT_UNLOCK stands in each, file 03). -/
def hasExpert : DieKind → Nat → Bool
  | .hub, u => [0, 14, 6, 5, 17, 11].contains u
  | .ch, u => [0, 17, 8, 9, 10, 1, 2, 3, 4, 5, 6, 7, 15].contains u
  | .kpr, u => [0, 14, 1, 5].contains u

/-- The kind of a die number; none for dies 6 and 7 (R4). -/
def dieKind (die : Nat) : Option DieKind :=
  if die = 0 then some .hub
  else if die < 5 then some .ch
  else if die = 5 then some .kpr
  else none

/-- The die number of a fabric address (R3). -/
def addrDie (a : Nat) : Nat := a / 0x20000000 % 8

/-- The unit number of a fabric address (R3). -/
def addrUnit (a : Nat) : Nat := a / 0x1000000 % 32

/-- The offset within the unit of a fabric address (R3). -/
def addrOff (a : Nat) : Nat := a % 0x1000000

/-- Whether a row of a register list holds offset `q`. -/
def RegDesc.covers (d : RegDesc) (q : Nat) : Bool :=
  let e := q - d.off
  let r := e % d.st1
  decide (d.off ≤ q) &&
    (if d.n2 = 1 then decide (e / d.st1 < d.n1) && decide (r = 0)
     else decide (e / d.st1 < d.n1) && decide (r / d.st2 < d.n2) && decide (r % d.st2 = 0))

/-- The register list row of a fabric address, if a register stands there. -/
def regAt (a : Nat) : Option RegDesc :=
  match dieKind (addrDie a) with
  | none => none
  | some k => (unitRegs k (addrUnit a)).find? (fun d => d.covers (addrOff a))

/-- sin(2πi/1024) in S1.15 by its power series on one quadrant, in 2^-30 fixed point: SPIN's SINE table resets to the
pure sine (file 06, Expert page of SPIN). The rounding of the last bit is the model's (notes/assumptions/2.md). -/
def sineQuad (i : Nat) : Nat :=
  let x : Int := (i : Int) * 6588397
  let sq := x * x / 1073741824
  let t3 := x * sq / 1073741824
  let t5 := t3 * sq / 1073741824
  let t7 := t5 * sq / 1073741824
  let t9 := t7 * sq / 1073741824
  ((x - t3 / 6 + t5 / 120 - t7 / 5040 + t9 / 362880) * 32767 / 1073741824).toNat

/-- Entry `i` of the pure sine, two's complement S1.15. -/
def sineEntry (i : Nat) : Nat :=
  if i ≤ 256 then sineQuad i
  else if i ≤ 512 then sineQuad (512 - i)
  else if i ≤ 768 then (65536 - sineQuad (i - 512)) % 65536
  else (65536 - sineQuad (1024 - i)) % 65536

/-- The reset value of the word at a fabric address (R15): the register table's value, the die number in DIE_ID, the
pure sine in SINE, and 0 where no register stands (R8). -/
def resetOf (a : Nat) : Word :=
  match regAt a with
  | none => 0
  | some d =>
    if d.off = 0 ∧ addrUnit a = 0 ∧ addrOff a = 0 then BitVec.ofNat 32 (d.reset + addrDie a)
    else if d.off = 0x2000 ∧ addrDie a = 5 ∧ addrUnit a = 5 then BitVec.ofNat 32 (sineEntry ((addrOff a - 0x2000) / 4))
    else BitVec.ofNat 32 d.reset

end Sys2Proof.Machine
end

