-- ==== Sys2Proof/Machine/State.lean ====
section
/-!
DEFINITION. The state of the Plidal: every register, queue, buffer, counter and mode the manual gives it, as plain data; the state after reset; and the reasons a step can stop.
-/

namespace Sys2Proof.Machine

/-- Why a step stops the machine. -/
inductive Fault where
  /-- Never raised: no command of the Plidal stops the part; a bus error, a refused request and a Fatal fault are states
  the part goes on from. Safe. -/
  | unreachable
  deriving DecidableEq, Repr

/-- Why a command has no meaning. -/
inductive Refusal where
  /-- A command whose meaning has not been written. Safe. -/
  | notModelled (mnemonic : String)
  deriving DecidableEq, Repr

/-- The answer of the last register access (R4-R8): a read's data, a write's completion, a bus error, or none yet, for one that waits for a restart
(R155). -/
inductive Resp where
  | none
  | done
  | data (v : Nat)
  | busError
  | waits
  deriving DecidableEq, Repr

/-- The machine. Registers of the register map live in `bank` (a register that is not listed holds its reset value);
everything else has a field of its own. -/
structure State where
  /-- Commands waiting, first in, first out. The model's own. -/
  pending : List Instr
  /-- Registers whose value differs from their reset value: (fabric address, value), addresses rising (R20). -/
  bank : List (Nat × Word)
  /-- Words of wide registers captured by the read of the named word (R7, R128): (fabric address, value). -/
  latch : List (Nat × Word)
  /-- The answer of the last register access. -/
  resp : Resp
  /-- Draws of free values made so far. The model's own. -/
  free : Nat
  /-- Microseconds since the last 1/8 s step of the operating time (R66). -/
  subUs : Nat
  /-- The accepted structure image; none while Blank or before boot (R72, R98). -/
  img : Option Image
  /-- Tsuku link ends (file 01). -/
  links : Vector Link 10
  /-- MSG packets under way (R28). -/
  msgFlight : List MsgPkt
  /-- Events under way to a core of another die: (event, core, the µs its header carries) (R64, R420). -/
  evFlight : List (Nat × Nat × Nat)
  /-- Pending sets of the sixteen cores (R418). -/
  pend : Vector (BitVec 512) 16
  /-- The KPR's wedge lines (file 02). -/
  wl : Vector WedgeLine 4
  /-- The calibrating units (R58-R63). -/
  cal : Vector Cal 18
  /-- Requests waiting for shared units, in order of arrival (R55, R56). -/
  waiting : List Waiting
  /-- Shared units in use: (unit base address, row of R55). -/
  holders : List (Nat × Nat)
  /-- The revolution count at which the last calibration slice of a unit was granted (R55 row 3). -/
  slices : List (Nat × Nat)
  /-- Shared units, by base address, that a calibration before its deadline gives up at the next tick (R55 row 6). -/
  yields : List Nat
  /-- Records waiting in ALOG's entry queue, oldest first (R500). -/
  logQueue : List LogRec
  /-- The Accession Log array: (entry, record) (R499). -/
  logArray : List (Nat × LogRec)
  /-- The NV store's 256 KiB of RRAM (R465); an unlisted byte reads 0. -/
  nvs : Memory
  /-- The external flash (R71, R88); an unlisted byte reads FFh, erased. -/
  flash : Memory
  /-- The 2 KiB OTP array (R449); an unlisted byte reads 0, unprogrammed. -/
  otp : Memory
  /-- The 2 MiB HUB SRAM (R371); an unlisted byte reads 0. -/
  hsram : Memory
  /-- The 512 KiB local SRAM of each channel die (R371); an unlisted byte reads 0. -/
  csram : Vector Memory 4
  /-- Lines of HUB SRAM (0) and of CH0-CH3 SRAM (1-4) whose valid bit is 1, 64 B each, rising (R396). -/
  sramValid : Vector (List Nat) 5
  /-- The DRAM array by offset from 02_0000_0000h (R371); an unlisted byte reads 0. -/
  dram : Memory
  /-- DRAM units whose bit of the valid bitmap is 1, rising (R375). -/
  valid : List Nat
  /-- Code words whose check bits are not the encoder's, by array and address (R373, R395, R398, R400). -/
  marks : List (Nat × Mark)
  /-- Lines of the shared cache, by set × 16 + way (R388). -/
  lines : List (Nat × ScLine)
  /-- The victim buffer of the shared cache: dirty lines on their way to DRAM, the oldest first, eight at most (R390). -/
  victims : List ScLine
  /-- DRAM units redirected into spare units: (unit, spare) (R377). -/
  spares : List (Nat × Nat)
  /-- The same table as the NV store's area 1_A000h holds it, saved before a SPARE completes (R377). -/
  sparesKept : List (Nat × Nat)
  /-- The DRAMC command under way found every spare in use (R377). -/
  dcmdFull : Bool
  /-- Operating time at which the present scrub lap of each array began (R399): DRAM, shared cache, HUB SRAM, CH0-CH3 SRAM. -/
  lapStart : Vector Nat 7
  /-- What STACKS last wrote in the record of each buffer, by index; an unlisted one is free with GEN 0 (R379). -/
  bufs : List (Nat × Buf)
  /-- The free FIFO of each pool (R382). -/
  poolFree : Vector (List Nat) 16
  /-- The namespace keys the NV store holds, wrapped (R403). -/
  keyStore : Vector (Option Nat) 16
  /-- The namespace keys CIPHER uses (R403). -/
  keys : Vector (Option Nat) 16
  /-- The CIPHER key command under way: (slot, NEWKEY) (R403). -/
  keyJob : Option (Nat × Bool)
  /-- The Catalogue's list of free Shelfmark entries (file 09). -/
  smFree : List Nat
  /-- The front end (files 10 and 11). -/
  host : HostIf
  /-- A firmware download: its owner, a CNTLID or FFFFh, and the bytes staged (R474). -/
  staged : Option (Nat × List Byte)
  /-- RELOAD_US, measured by the HUB ROM at boot (R438, R518). -/
  reloadUs : Nat
  /-- What the dump partition holds (R362). -/
  dump : Option Dump
  /-- The two Inventory image buffers (R329). -/
  invBuf : Vector Memory 2
  /-- The Notes section (R334). -/
  invNotes : Memory
  /-- The µs of MTIME at which the HUB last built Inventory (R330). -/
  invAt : Nat
  /-- The µs of MTIME after which the Inventory generation may go up again, and a change that has not yet raised it (R70). -/
  invFree : Nat
  invLate : Bool
  /-- Registers an Expert write has overridden since the last Basic write of their function (R136, R141). -/
  overrides : List Nat
  /-- DEMOD of each channel die (file 04). -/
  demod : Vector Demod 4
  /-- LOOP of each channel die (file 05). -/
  loop : Vector Loop 4
  /-- What the last computation of each LOOP started from (R151). -/
  loopPre : Vector LoopPre 4
  /-- HOLD of each channel die (R154). -/
  hold : Vector Hold 4
  /-- A RETRACT due at CLASPV's next frame instant (R161). -/
  clv : Vector Bool 4
  /-- The frame each Clasp VCM lane last sent, sync and 48 bits (R160). -/
  clvFrame : Vector Nat 4
  /-- The KPR SHOCK unit (R150). -/
  shock : Shock
  /-- DETECT and LDPC of each channel die (file 07). -/
  det : Vector Detect 4
  /-- WRITE, ASSIST, FLY and PREAMP of each channel die (file 08). -/
  wru : Vector WriteU 4
  asu : Vector Assist 4
  flu : Vector Fly 4
  pau : Vector Preamp 4
  /-- The Lomun sequencer of each channel die (file 13). -/
  lmu : Vector Lomun 4
  /-- SPIN (file 06). -/
  spin : Spin
  /-- CLASPS (file 06). -/
  clasps : Clasps
  /-- Fatal causes whose sequence has not begun (R496). -/
  fatal : List FatalCause
  /-- MTIME: µs since power-on reset of the KPR always-on domain (R64, R407). -/
  mtime : Nat
  /-- The sixteen cores (file 13). -/
  core : Vector Core 16
  /-- SIGNET (file 14). -/
  sig : Signet
  /-- The update engine (file 15). -/
  upd : Update
  /-- Authenticated debug (R459). -/
  dbg : Debug
  /-- The OTP bit being programmed: byte and bit (R449). -/
  otpJob : Option (Nat × Nat)
  /-- The NV store write under way: address and word (R465). -/
  nvsJob : Option (Nat × Word)
  /-- Accesses of NVS_DATA that wait for that write, in order: a value to write, or a read (R465). -/
  nvsWaits : List (Option Word)
  /-- The Keeper firmware runs in the Keeper context (R22, R443). -/
  keeper : Bool
  /-- ALOG's copies and freeze, and the Fatal sequence (file 16). -/
  alog : LogUnit
  /-- LADDER (file 17). -/
  lad : Ladder
  /-- The dump (file 11). -/
  dmp : DumpUnit
  /-- The flash command of a core under way (R546). -/
  xsJob : Option XsJob
  /-- The core's flash command waits for the log copy or the update engine (R546). The model's own. -/
  xsHeld : Bool
  /-- PERI's FIFOs and the TAP (file 18). -/
  pins : Pins
  /-- Conversions of each diode whose raw code did not change: (code, count) (R527). -/
  diode : Vector (Nat × Nat) 8
  /-- A full boot that has been caused and has not begun, with its CAUSE (R436). -/
  bootDue : Option Nat
  /-- Channel dies that wait for their supplies, up to 100 ms, while a boot brings them up (R39). -/
  chWait : List Nat
  /-- Channel dies that a Critical level switched off since the last full boot (R526). -/
  critOff : List Nat
  /-- Enabled channel dies that stay Off until the next boot: not brought up, or switched off since (R39, R464, R521, R526). -/
  downDies : List Nat
  /-- Fault classes each die has shown since power-on, bits 0-3 Corrected to Fatal, and its contained restarts (file 10, Inventory). -/
  seen : Vector Nat 8
  contained : Vector Nat 8
  deriving DecidableEq, Repr

/-- A link end after reset: nothing received, built or counted. -/
def Link.reset : Link :=
  ⟨0, 0, Vector.replicate 8 [], Vector.replicate 8 0, Vector.replicate 8 [], Vector.replicate 8 17⟩

/-- A wedge line after reset: no offset learned (R46). -/
def WedgeLine.reset : WedgeLine := ⟨Vector.replicate 6 0, Vector.replicate 6 false, 0, 0, 0, 0, 0, none, none, none, false⟩

/-- A calibrating unit after reset: nothing selected and no calibration made. -/
def Cal.reset : Cal := ⟨false, none, 0, [], 0, 0, false, none, false⟩

/-- DEMOD after reset: disabled, no tick seen. -/
def Demod.reset : Demod where
  due := []
  srch := false
  gate := false
  pred := 0
  predWedge := 0
  last := none
  since := 0
  period := none
  wedges := 0
  found := false
  tick := 0
  wedge := 0
  wnumPred := false
  run := 0
  pos1 := none
  pos0 := none
  pos := 0
  posValid := false
  idTrack := none
  pes := 0
  pesValid := false
  rro := []
  rroTrack := 0
  fwdBad := 0
  shockTrip := false
  spinLock := false
  ret := none
  headSw := false
  telem := 0
  calTemp := 0
  corr := 0
  cells := []
  taken := false
  gateAt := 0
  ticked := false
  usAt := 0

def Biquad.reset : Biquad := ⟨0, 0, 0, 0⟩

/-- LOOP after reset: PARKED, no head selected (R131). -/
def Loop.reset : Loop where
  cmd := none
  next := none
  tgt := 0
  head := none
  x := 0
  v := 0
  est := 0
  integ := 0
  f := 0
  m := 0
  vcm := List.replicate 8 Biquad.reset
  ma := List.replicate 4 Biquad.reset
  ff := Biquad.reset
  sens := none
  dsens := 0
  uff := 0
  newU := 0
  newM := 0
  newD := 0
  delta := 0
  latched := false
  discard := false
  plan := none
  feTrips := 0
  settle := 0
  sinceGo := 0
  coast := 0
  validRun := 0
  lostRun := 0
  m0 := 0
  clean := 0
  hold := 0
  ovrRun := 0
  handover := false
  restarting := false
  shadow := 0
  noShadow := false
  velOut := false
  fwd := none
  zone := none
  derive := false
  preset := none
  maClamped := false
  plant := 0
  km := 0
  bw := 0
  kv := 0
  tickMode := 0
  waiting := []

def LoopPre.reset : LoopPre := ⟨Loop.reset, 0, 0, 0, 0⟩

def Hold.reset : Hold := ⟨0, 0, 0, false, 0⟩

def Detect.reset : Detect := ⟨false, none, [], none, none, none, none, 0, [], []⟩

def WriteU.reset : WriteU := ⟨[], none, false, false, [], [], 0, []⟩

def Assist.reset : Assist := ⟨none, 0, Vector.replicate 6 0, []⟩

def Fly.reset : Fly := ⟨none, [], 0, none⟩

def Preamp.reset : Preamp := ⟨false, false, 0, none, none, none, false, none, [], none, 0, 0, 0, none, false⟩

def Lomun.reset : Lomun :=
  ⟨.stopped, 0, [], false, false, false, [], false, 0xA00, [], [], Vector.replicate 8 0, false, none⟩

def Drive.reset : Drive := ⟨0, 0, 0, none, 0, 0, 0, 0, 0, [], 0⟩

def Spin.reset : Spin where
  cmds := []
  pendStart := false
  origin := 0
  starting := false
  crossN := 0
  crossSum := 0
  crossPrev := 0
  crossFwd := false
  crossRev := false
  senseAgain := false
  relock := 0
  losRun := 0
  okRun := 0
  skipRun := 0
  lockRun := 0
  accelRevs := 0
  ramp := 0
  attempts := 0
  brake := .zero
  genHold := false
  theta := 0
  omega := 0
  okTheta := 0
  okSector := 0
  okOmega := 0
  torque := 0
  out := none
  nextOut := none
  rotating := false
  vmot := 0
  drv := Drive.reset
  ref := ⟨0, 0, 0, 0, 0, none⟩

def Clasps.reset : Clasps := ⟨[], [], none, 0, none, 0, 0, false, false⟩

def Ctrl.reset : Ctrl :=
  ⟨false, false, 0, false, false, 0, 0, [], [], [], [], [], 0, [], [], [], 0, 0, 0, 0, 0, Vector.replicate 3 0⟩

def Ns.reset : Ns := ⟨0, 0, false, false, 0, false, 0, [], 0, 0, 0, false, []⟩

def HostIf.reset : HostIf where
  tags := []
  wrts := []
  fseq := 0
  ctrls := Vector.replicate 64 Ctrl.reset
  ns := Vector.replicate 16 Ns.reset
  numVfs := Vector.replicate 2 0
  stopped := false
  lost := false
  fill := []
  out := []
  outMd := []
  cqe := []
  mgmt := []
  mgmtCfg := []
  saved := []
  spdm := 0
  vwc := true
  notices := []
  powerOf := []
  fetchMs := 0
  fetched := 0
  sec := []
  vca := []
  tb := []
  tl := []
  secOut := []
  eid := 0
  seen := []
  arb := ⟨0, 0, 0⟩

/-- A core in reset: every register and CSR zero, MTIMECMP all ones (R407), machine mode. -/
def Core.reset : Core where
  x := Vector.replicate 31 0
  pc := 0
  user := false
  mie := false
  mpie := false
  mppUser := false
  mprv := false
  tw := false
  ie := 0
  mtvec := 0
  mscratch := 0
  mepc := 0
  mcause := 0
  mtval := 0
  mcycle := 0
  minstret := 0
  inhibit := 0
  pmpcfg := Vector.replicate 16 0
  pmpaddr := Vector.replicate 16 0
  timecmp := 0xFFFFFFFFFFFFFFFF
  inject := 0
  chkCause := 0
  chkAddr := 0
  mchk := false
  even := 0
  resv := none
  wfi := false
  bootCause := 0
  warm := 0
  l1i := []
  l1d := []
  restart := 0
  kick := 0
  task := false

def Signet.reset : Signet := ⟨none, [], [], none, 0, false, Vector.replicate 2 [], Vector.replicate 8 0, false, false, 0⟩

def LogUnit.reset : LogUnit := ⟨none, none, 0, [], none, false, false, 0⟩

def Ladder.reset : Ladder := ⟨Vector.replicate 84 .off, none, false, false, false⟩

/-- The machine right after reset: power-on reset of the KPR always-on domain (R15, R64), before any boot stage. -/
def State.reset : State where
  pending := []
  bank := []
  latch := []
  resp := .none
  free := 0
  subUs := 0
  img := none
  links := Vector.replicate 10 Link.reset
  msgFlight := []
  evFlight := []
  pend := Vector.replicate 16 0
  wl := Vector.replicate 4 WedgeLine.reset
  cal := Vector.replicate 18 Cal.reset
  waiting := []
  holders := []
  slices := []
  yields := []
  logQueue := []
  logArray := []
  nvs := []
  flash := []
  otp := []
  hsram := []
  csram := Vector.replicate 4 []
  sramValid := Vector.replicate 5 []
  dram := []
  valid := []
  marks := []
  lines := []
  victims := []
  spares := []
  sparesKept := []
  dcmdFull := false
  lapStart := Vector.replicate 7 0
  bufs := []
  poolFree := Vector.replicate 16 []
  keyStore := Vector.replicate 16 none
  keys := Vector.replicate 16 none
  keyJob := none
  smFree := []
  host := HostIf.reset
  staged := none
  reloadUs := 0
  dump := none
  invBuf := Vector.replicate 2 []
  invNotes := []
  invAt := 0
  invFree := 0
  invLate := false
  overrides := []
  demod := Vector.replicate 4 Demod.reset
  loop := Vector.replicate 4 Loop.reset
  loopPre := Vector.replicate 4 LoopPre.reset
  hold := Vector.replicate 4 Hold.reset
  clv := Vector.replicate 4 false
  clvFrame := Vector.replicate 4 0
  shock := ⟨false, 0, Vector.replicate 4 false⟩
  det := Vector.replicate 4 Detect.reset
  wru := Vector.replicate 4 WriteU.reset
  asu := Vector.replicate 4 Assist.reset
  flu := Vector.replicate 4 Fly.reset
  pau := Vector.replicate 4 Preamp.reset
  lmu := Vector.replicate 4 Lomun.reset
  spin := Spin.reset
  clasps := Clasps.reset
  fatal := []
  mtime := 0
  core := Vector.replicate 16 Core.reset
  sig := Signet.reset
  upd := ⟨none, none, none, 0⟩
  dbg := ⟨none, none⟩
  otpJob := none
  nvsJob := none
  nvsWaits := []
  keeper := false
  alog := LogUnit.reset
  lad := Ladder.reset
  dmp := ⟨none, false⟩
  xsJob := none
  xsHeld := false
  pins := ⟨[], [], 1, [], false, 0, 0⟩
  diode := Vector.replicate 8 (0, 0)
  bootDue := none
  chWait := []
  critOff := []
  downDies := []
  seen := Vector.replicate 8 0
  contained := Vector.replicate 8 0

end Sys2Proof.Machine
end

