-- ==== Sys2Proof/Machine/Ops.lean ====
section
/-!
DEFINITION. The named operations over registers and memories: reading and writing a register, its fields and its counters, drawing a free value, and the questions about the accepted image that many commands ask.
-/

namespace Sys2Proof.Machine

/-- Map one element of a vector. -/
def modAt {α : Type} {n : Nat} (v : Vector α n) (i : Nat) (f : α → α) : Vector α n :=
  if h : i < n then v.set i (f v[i]) h else v

/-- One element of a vector, or a default past its end. -/
def atD {α : Type} {n : Nat} (v : Vector α n) (i : Nat) (d : α) : α :=
  if h : i < n then v[i] else d

/-- The value a register holds (R10, R12, R15). -/
def State.rd (s : State) (a : Nat) : Word := fetch (resetOf a) s.bank a

/-- The state with a register holding a value: the hardware's own write, which no field type limits. -/
def State.wr (s : State) (a : Nat) (v : Word) : State := { s with bank := store (resetOf a) s.bank a v }

/-- A field of a register, as a number. -/
def State.get (s : State) (f : Fld) : Nat := bitsOf (s.rd f.addr).toNat f.hi f.lo

/-- The state with a field of a register replaced. -/
def State.put (s : State) (f : Fld) (x : Nat) : State := s.wr f.addr (insertBits (s.rd f.addr) f.hi f.lo x)

/-- Whether a one-bit field is 1. -/
def State.flag (s : State) (f : Fld) : Bool := decide (s.get f = 1)

/-- A register as a number. -/
def State.num (s : State) (a : Nat) : Nat := (s.rd a).toNat

/-- The state with a register holding a number. -/
def State.setNum (s : State) (a : Nat) (x : Nat) : State := s.wr a (BitVec.ofNat 32 x)

/-- Add to a 64-bit count held as LO and HI words (R7), modulo 2^64. -/
def State.add64 (s : State) (lo hi k : Nat) : State :=
  let v := s.num lo + 0x100000000 * s.num hi + k
  (s.setNum lo (v % 0x100000000)).setNum hi (v / 0x100000000 % 0x100000000)

/-- A count held as LO and HI words. -/
def State.num64 (s : State) (lo hi : Nat) : Nat := s.num lo + 0x100000000 * s.num hi

/-- Set a count held as LO and HI words. -/
def State.set64 (s : State) (lo hi v : Nat) : State :=
  (s.setNum lo (v % 0x100000000)).setNum hi (v / 0x100000000 % 0x100000000)

/-- Return to their reset value the registers of the addresses a predicate names, keeping the bits that survive every
reset but power-on (R15). -/
def State.resetRegs (s : State) (which : Nat → Bool) : State :=
  { s with
    bank := s.bank.filterMap (fun e =>
      if which e.1 then
        match regAt e.1 with
        | some d =>
          let v := (e.2 &&& BitVec.ofNat 32 d.p) ||| (resetOf e.1 &&& ~~~(BitVec.ofNat 32 d.p))
          if v = resetOf e.1 then none else some (e.1, v)
        | none => none
      else some e) }

/-- A derived parameter takes its value unless an Expert write has overridden it since the Basic write of its function (R11). -/
def State.derivedNum (s : State) (a x : Nat) : State := if s.overrides.contains a then s else s.setNum a x

/-- A Basic write ends the overrides of its function's parameters (R11). -/
def State.endOverrides (s : State) (which : Nat → Bool) : State := { s with overrides := s.overrides.filter (fun a => !(which a)) }

/-- A Basic write brings the parameters of its function back to what the policy gives, where that is their reset value (R11). -/
def State.toPolicy (s : State) (which : Nat → Bool) : State := (s.resetRegs which).endOverrides which

/-- Draw a free value: a value the manual leaves open, of kind `what`. -/
def State.draw (s : State) (what : Nat) : Nat × State :=
  (Config.freeNat what s.free, { s with free := s.free + 1 })

/-- Bytes the manual leaves open. -/
def State.drawBytes (s : State) (what k : Nat) : List Byte × State :=
  ((List.range k).map (fun i => BitVec.ofNat 8 (Config.freeNat what (s.free + i))), { s with free := s.free + k })

/-- The state with the answer of a register access. -/
def State.answer (s : State) (r : Resp) : State := { s with resp := r }

/-- Whether the accepted structure image enables channel die n (R5, R37, R38). -/
def State.chOn (s : State) (n : Nat) : Bool :=
  match s.img with
  | some i => bitOf i.chMask n
  | none => false

/-- Whether a die answers accesses: HUB and KPR always, a channel die when enabled, a MEM die never (R4, R5), and none while TEST_EN holds
every die in reset (R548). The HUB does not answer while it holds itself in reset after a dump (R361). -/
def State.dieOn (s : State) (die : Nat) : Bool :=
  !s.pins.test && match dieKind die with
  | some .hub => !s.dmp.held
  | some .kpr => true
  | some .ch => s.chOn (die - 1)
  | none => false

/-- A register access command: a die that does not answer gives a bus error and no effect (R4, R5). -/
def State.access (s : State) (die : Nat) (f : State → State) : State :=
  if s.dieOn die then f (s.answer .done) else s.answer .busError

/-- Channel die n runs: the image enables it, and it neither waits for its supplies nor stays Off (R38, R39). -/
def State.chUp (s : State) (n : Nat) : Bool := s.chOn n && !(s.chWait.contains n) && !(s.downDies.contains n)

/-- An event of channel die n: on a die the image does not enable, or one that is Off, nothing happens (R38, R39). -/
def State.ifCh (s : State) (n : Nat) (f : State → State) : State := if s.chUp n then f s else s

/-- The sources of a die can fire: those of a disabled die or of one that is Off never do (R38, R39). -/
def State.dieRuns (s : State) (die : Nat) : Bool := s.dieOn die && (decide (die = 0) || decide (5 ≤ die) || s.chUp (die - 1))

/-- A number taken from the accepted image; 0 while there is none. -/
def State.imgNat (s : State) (f : Image → Nat) : Nat :=
  match s.img with
  | some i => f i
  | none => 0

/-- A bit taken from the accepted image; false while there is none. -/
def State.imgBool (s : State) (f : Image → Bool) : Bool :=
  match s.img with
  | some i => f i
  | none => false

/-- A supply is good (R519, SUP_STAT). -/
def State.supplyGood (s : State) (b : Nat) : Bool := bitOf (s.get SUP_STAT_GOOD) b

/-- Operating time in 1/8 s (R66). -/
def State.optime (s : State) : Nat := s.num OPTIME_LO + 0x100000000 * s.num OPTIME_HI

/-! ### The units of a channel die -/

def State.demodOf (s : State) (n : Nat) : Demod := atD s.demod n Demod.reset
def State.modDemod (s : State) (n : Nat) (f : Demod → Demod) : State := { s with demod := modAt s.demod n f }
def State.loopOf (s : State) (n : Nat) : Loop := atD s.loop n Loop.reset
def State.modLoop (s : State) (n : Nat) (f : Loop → Loop) : State := { s with loop := modAt s.loop n f }
def State.holdOf (s : State) (n : Nat) : Hold := atD s.hold n Hold.reset
def State.modHold (s : State) (n : Nat) (f : Hold → Hold) : State := { s with hold := modAt s.hold n f }
def State.detOf (s : State) (n : Nat) : Detect := atD s.det n Detect.reset
def State.modDet (s : State) (n : Nat) (f : Detect → Detect) : State := { s with det := modAt s.det n f }
def State.wruOf (s : State) (n : Nat) : WriteU := atD s.wru n WriteU.reset
def State.modWru (s : State) (n : Nat) (f : WriteU → WriteU) : State := { s with wru := modAt s.wru n f }
def State.asuOf (s : State) (n : Nat) : Assist := atD s.asu n Assist.reset
def State.modAsu (s : State) (n : Nat) (f : Assist → Assist) : State := { s with asu := modAt s.asu n f }
def State.fluOf (s : State) (n : Nat) : Fly := atD s.flu n Fly.reset
def State.modFlu (s : State) (n : Nat) (f : Fly → Fly) : State := { s with flu := modAt s.flu n f }
def State.pauOf (s : State) (n : Nat) : Preamp := atD s.pau n Preamp.reset
def State.modPau (s : State) (n : Nat) (f : Preamp → Preamp) : State := { s with pau := modAt s.pau n f }
def State.lmuOf (s : State) (n : Nat) : Lomun := atD s.lmu n Lomun.reset
def State.modLmu (s : State) (n : Nat) (f : Lomun → Lomun) : State := { s with lmu := modAt s.lmu n f }
def State.clvDue (s : State) (n : Nat) : Bool := atD s.clv n false
def State.setClv (s : State) (n : Nat) (b : Bool) : State := { s with clv := modAt s.clv n (fun _ => b) }

def State.coreOf (s : State) (c : Nat) : Core := atD s.core c Core.reset
def State.modCore (s : State) (c : Nat) (f : Core → Core) : State := { s with core := modAt s.core c f }

/-- A core as its reset leaves it; MBOOTCAUSE counts its warm restarts since power-on (R407). -/
def Core.cold (k : Core) : Core := { Core.reset with warm := k.warm }
def State.modSig (s : State) (f : Signet → Signet) : State := { s with sig := f s.sig }
def State.modUpd (s : State) (f : Update → Update) : State := { s with upd := f s.upd }
def State.modLog (s : State) (f : LogUnit → LogUnit) : State := { s with alog := f s.alog }
def State.modLad (s : State) (f : Ladder → Ladder) : State := { s with lad := f s.lad }
def State.modPins (s : State) (f : Pins → Pins) : State := { s with pins := f s.pins }

def State.modSpin (s : State) (f : Spin → Spin) : State := { s with spin := f s.spin }
def State.modCls (s : State) (f : Clasps → Clasps) : State := { s with clasps := f s.clasps }

/-! ### Memories outside the register map -/

/-- Bytes of the NV store (R465). -/
def State.nvsBytes (s : State) (a n : Nat) : List Byte := s.nvs.readN 0 a n

/-- A little-endian number of the NV store. -/
def State.nvsNat (s : State) (a n : Nat) : Nat := leNat (s.nvsBytes a n)

/-- Store bytes in the NV store, whole (R282, R465). -/
def State.nvsWrite (s : State) (a : Nat) (bs : List Byte) : State := { s with nvs := s.nvs.writeN 0 a bs }

/-- Bytes of the flash. -/
def State.flashBytes (s : State) (a n : Nat) : List Byte := s.flash.readN 0xFF a n

/-- Program bytes of the flash. -/
def State.flashWrite (s : State) (a : Nat) (bs : List Byte) : State := { s with flash := s.flash.writeN 0xFF a bs }

/-- Erase a range of the flash: every byte reads FFh. -/
def State.flashErase (s : State) (a n : Nat) : State := { s with flash := s.flash.wipe a n }

/-! Code words of the arrays (R395): array 0 is DRAM with code words of 64 B, array 1 the shared cache, 2 HUB SRAM and 3-6
the SRAM of CH0-CH3, with code words of 8 B. A code word's key names its array and its first byte. -/

/-- Bytes of a code word of an array (R373, R395). -/
def granule (m : Nat) : Nat := if m = 0 then 64 else 8

/-- The key of the code word an address lies in. -/
def markKey (m a : Nat) : Nat := m * 0x10000000000 + a / granule m * granule m

/-- The marks of the code words that bytes [a, a + n) of an array lie in, in address order. -/
def State.marksIn (s : State) (m a n : Nat) : List (Nat × Mark) :=
  s.marks.filter (fun e => decide (markKey m a ≤ e.1) && decide (e.1 < m * 0x10000000000 + a + n))

/-- The code words that bytes [a, a + n) of an array lie in carry the encoder's check bits. -/
def State.unmark (s : State) (m a n : Nat) : State :=
  { s with marks := s.marks.filter (fun e => !(decide (markKey m a ≤ e.1) && decide (e.1 < m * 0x10000000000 + a + n))) }

/-- The lines of an SRAM that bytes [a, a + n) lie in become valid (R396); a line that was not reads 0 elsewhere. -/
def State.validate (s : State) (k a n : Nat) : State :=
  if n = 0 then s else { s with sramValid := modAt s.sramValid k (insertRun (a / 64) ((a + n - 1) / 64 + 1)) }

/-- Bytes of the line a reservation covers (R406): 128 in DRAM, array 0, and 64 in an SRAM. -/
def resvLine (m : Nat) : Nat := if m = 0 then 128 else 64

/-- The key of the line that byte `a` of array `m` lies in; DRAM by physical address, an SRAM by offset. -/
def resvKey (m a : Nat) : Nat := m * 0x10000000000 + a / resvLine m * resvLine m

/-- A core without a reservation of a line that bytes [a, a + n) of array `m` touch. -/
def Core.loseResv (k : Core) (m a n : Nat) : Core :=
  match k.resv with
  | some (key, _) =>
    if key / 0x10000000000 = m ∧ key % 0x10000000000 < a + n ∧ a < key % 0x10000000000 + resvLine m then { k with resv := none } else k
  | none => k

/-- A write to an array ends the reservations of the lines it touches (R406). -/
def State.loseResv (s : State) (m a n : Nat) : State := { s with core := s.core.map (fun k => k.loseResv m a n) }

/-- Bytes of channel die n's local SRAM. -/
def State.csBytes (s : State) (n a k : Nat) : List Byte := (atD s.csram n []).readN 0 a k

/-- Store bytes in channel die n's local SRAM of 512 KiB (R371), with correct check bits (R395, R396); what does not fit in
it stores nothing. -/
def State.csWrite (s : State) (n a : Nat) (bs : List Byte) : State :=
  if 0x80000 < a + bs.length then s
  else
    let s := ((s.validate (1 + n) a bs.length).unmark (3 + n) a bs.length).loseResv (3 + n) a bs.length
    { s with csram := modAt s.csram n (fun m => m.writeN 0 a bs) }

/-- Bytes of HUB SRAM. -/
def State.hsBytes (s : State) (a k : Nat) : List Byte := s.hsram.readN 0 a k

/-- Store bytes in HUB SRAM with correct check bits (R395, R396). -/
def State.hsWrite (s : State) (a : Nat) (bs : List Byte) : State :=
  let s := ((s.validate 0 a bs.length).unmark 2 a bs.length).loseResv 2 a bs.length
  { s with hsram := s.hsram.writeN 0 a bs }

/-- The die a core stands on: 0 for an H-core, n + 1 for a C-core of CHn (R92). -/
def coreDie (c : Nat) : Nat := if c < 8 then 0 else (c - 8) / 2 + 1

/-- The base address of a core's register block (file 13, HCORE and CCORE registers). -/
def coreBase (c : Nat) : Nat := if c < 8 then hubHCORE + 0x40 * c else chCCORE ((c - 8) / 2) + 0x40 * ((c - 8) % 2)

/-- The die an event's source stands on (file 01, Enabling channel dies). -/
def eventDie (e : Nat) : Nat := if e < 192 then 0 else if e < 448 then (e - 192) / 64 + 1 else 5

/-- Event `k` of channel die n (file 01, event ranges). -/
def chEvent (n k : Nat) : Nat := 192 + 64 * n + k

/-- Whether a span in µs has passed since an instant that the state may hold. -/
def State.passed (s : State) (since : Option Nat) (us : Nat) : Bool :=
  match since with
  | some t => decide (t + us ≤ s.mtime)
  | none => false

end Sys2Proof.Machine
end

