-- ==== Sys2Proof/Machine/Flags.lean ====
section
/-!
DEFINITION. Sticky flags and what follows from them: saturating counters (R69), FIRST registers (R489), Accession Log records (R490, R499, R500), events and their routing (R416-R421), W1C clearing (R13), and the state of the actuators (R492).
-/

namespace Sys2Proof.Machine

/-! ### Events -/

/-- The route byte of an event: the HUB's table for HUB events, the die's own copy for a channel die or the KPR (R416). -/
def State.routeOf (s : State) (e : Nat) : Nat :=
  let w :=
    if e < 192 then s.num (EV_ROUTE (e / 4))
    else if e < 448 then s.num (EV_LOCAL_C ((e - 192) / 64) ((e - 192) % 64 / 4))
    else s.num (EV_LOCAL_K ((e - 448) / 4))
  bitsOf w (8 * (e % 4) + 7) (8 * (e % 4))

/-- Set bit `e` of core `c`'s pending set (R418). -/
def State.setPend (s : State) (c e : Nat) : State :=
  { s with pend := modAt s.pend c (fun p => p ||| (1#512 <<< e)) }

/-- Count an event whose route has EN 0 (R417); a saturated count sets its flag without a further event. -/
def State.unrouted (s : State) (e : Nat) : State :=
  let s := s.put EV_LAST_EVENT e
  let n := s.num EV_UNROUTED
  if n + 1 ≥ 0xFFFFFFFF then (s.setNum EV_UNROUTED 0xFFFFFFFF).put EV_ERR_UNR_SAT 1 else s.setNum EV_UNROUTED (n + 1)

/-- A unit raises event `e` (R416-R418, R420): the sources of a disabled die or of one that is Off never fire (R38, R39), an event whose route has EN 0
is counted, an event for a core of its own die sets its pending bit, and any other travels by the Tsuku EVT class, with the time
in its header (R64). -/
def State.raise (s : State) (e : Nat) : State :=
  if s.dieRuns (eventDie e) = false then s
  else
    let r := s.routeOf e
    if bitOf r 7 then
      let c := bitsOf r 3 0
      if coreDie c = eventDie e then s.setPend c e else { s with evFlight := s.evFlight ++ [(e, c, s.num TSTAMP)] }
    else s.unrouted e

/-! ### Accession Log records -/

/-- Severities of R499. -/
def sevNote : Nat := 0
def sevWarn : Nat := 1
def sevFault : Nat := 2
def sevFatal : Nat := 3

/-- Classes of R499. -/
def clsNone : Nat := 0
def clsCorrected : Nat := 1
def clsContained : Nat := 2
def clsDegraded : Nat := 3
def clsFatal : Nat := 4

/-- INST of a record that names none (R499). -/
def noInst : Nat := 0xFF

/-- Count one record of a severity; SEV_CNT saturates (file 16, ALOG registers). -/
def State.countSev (s : State) (sev : Nat) : State :=
  s.setNum (SEV_CNT (sev % 4)) (min (s.num (SEV_CNT (sev % 4)) + 1) 0xFFFFFFFF)

/-- The fault class of a record is noted for its die (file 10, Inventory's die entries). -/
def State.noteClass (s : State) (r : LogRec) : State :=
  let d := r.source / 32
  if r.cls = 0 then s
  else
    { s with
      seen := modAt s.seen d (fun w => setBitN w (r.cls - 1))
      contained := if r.cls = clsContained then modAt s.contained d (fun n => satU 32 (n + 1)) else s.contained }

/-- Offer a record to the entry queue: it takes the next RECNO, and a full queue of 64 drops it (R499, R500). The second
part of the answer says whether it was dropped. -/
def State.offer (s : State) (r : LogRec) : State × Bool :=
  let n := s.num RECNO_LO + 0x100000000 * s.num RECNO_HI + 1
  let s := (s.setNum RECNO_LO (n % 0x100000000)).setNum RECNO_HI (n / 0x100000000 % 0x10000)
  let s := (s.countSev r.sev).noteClass r
  let r := { r with recno := n, optime := s.optime, pcycle := s.num PCYCLE, tstamp := s.num TSTAMP }
  if s.logQueue.length < 64 then ({ s with logQueue := s.logQueue ++ [r] }, false) else (s, true)

/-- A dropped record is counted: ALOG_DROP increments and saturates, setting DROP_SAT; ALOG_ERR.DROP is set (R500, R501, R69). -/
def State.countDrop (s : State) : State :=
  let n := s.num ALOG_DROP
  let s := s.put ALOG_ERR_DROP 1
  if n + 1 ≥ 0xFFFFFFFF then (s.setNum ALOG_DROP 0xFFFFFFFF).put ALOG_ERR_DROP_SAT 1 else s.setNum ALOG_DROP (n + 1)

/-- Write FIRST for a fault register that read `old` before `new` (R489): it latches the lowest bit of `new` when `old` was
all zero, and clears when the register becomes all zero. `valid` is the place of VALID; BIT lies below it. -/
def State.latchFirst (s : State) (first valid : Nat) (old new : Word) (bit : Nat) : State :=
  if new = 0 then s.wr first 0
  else if old = 0 then s.wr first (BitVec.ofNat 32 (2 ^ valid + bit))
  else s

/-- A fault register: its address, its FIRST register with the place of VALID if it has one, and the event its setting
raises if there is one (file 16, Fault registers). -/
structure FaultReg where
  addr : Nat
  first : Option (Nat × Nat)
  event : Option Nat
  deriving DecidableEq, Repr

/-- The record a fault bit writes (R490, R499): SOURCE and OFFSET name the register, VALUE its content after the bit was
set. -/
def faultRecord (addr : Nat) (value : Word) (bit sev cls inst detail : Nat) : LogRec :=
  { optime := 0, pcycle := 0, tstamp := 0, sev := sev, cls := cls,
    source := addrDie addr * 32 + addrUnit addr, offset := addrOff addr % 0x10000, bit := bit, inst := inst, recno := 0,
    value := value.toNat, detail := detail % 0x100000000 }

/-- ALOG's own fault register. -/
def alogErr : FaultReg := ⟨ALOG_ERR, some (ALOG_FIRST, 4), some 481⟩

/-- A record was dropped (R500): ALOG_DROP counts it, and the first setting of ALOG_ERR.DROP latches FIRST, raises event 481 and
offers a Note record of its own. -/
def State.noteDrop (s : State) : State :=
  let old := s.rd ALOG_ERR
  let s := s.countDrop
  if bitOf old.toNat 0 then s
  else
    let s := (s.latchFirst ALOG_FIRST 4 old (s.rd ALOG_ERR) 0).raise 481
    let (s, again) := s.offer (faultRecord ALOG_ERR (s.rd ALOG_ERR) 0 sevNote clsCorrected noInst 0)
    if again then s.countDrop else s

/-- Write a record (R499, R500). -/
def State.log (s : State) (r : LogRec) : State :=
  let (s, dropped) := s.offer r
  if dropped then s.noteDrop else s

/-- Set a fault bit. A bit that is already 1 stays so and writes no record; a 0-to-1 transition latches FIRST, writes
one record of the given severity and class, and raises the register's event (R486, R489, R490). -/
def State.faultBit (s : State) (fr : FaultReg) (bit sev cls inst detail : Nat) : State :=
  let old := s.rd fr.addr
  if bitOf old.toNat bit then s
  else
    let new := BitVec.ofNat 32 (setBitN old.toNat bit)
    let s := s.wr fr.addr new
    let s := match fr.first with
      | some (f, v) => s.latchFirst f v old new bit
      | none => s
    let s := s.log (faultRecord fr.addr new bit sev cls inst detail)
    match fr.event with
    | some e => s.raise e
    | none => s

/-- Set a Corrected fault bit with the Note record of R486 and R490. -/
def State.noteBit (s : State) (fr : FaultReg) (bit : Nat) : State :=
  s.faultBit fr bit sevNote clsCorrected noInst 0

/-! ### The fault registers and their FIRST registers -/

def linkErr (b event : Nat) : FaultReg := ⟨LINK_ERR b, none, if event = 0 then none else some event⟩
def loopFault (n : Nat) : FaultReg := ⟨LOOP_FAULT n, some (LOOP_FIRST n, 4), none⟩
def holdFault (n : Nat) : FaultReg := ⟨HOLD_FAULT n, none, none⟩
def spinFault : FaultReg := ⟨SPIN_FAULT, some (SPIN_FIRST, 4), none⟩
def clsErr : FaultReg := ⟨CLS_ERR, none, none⟩
def detErr (n : Nat) : FaultReg := ⟨DET_ERR n, some (DET_FIRST n, 4), some (chEvent n 2)⟩
def wrErr (n : Nat) : FaultReg := ⟨WR_ERR n, some (WR_FIRST n, 4), some (chEvent n 9)⟩
def asFault (n : Nat) : FaultReg := ⟨AS_FAULT n, some (AS_FIRST n, 4), some (chEvent n 10)⟩
def paFault (n : Nat) : FaultReg := ⟨PA_FAULT n, some (PA_FIRST n, 4), some (chEvent n 13)⟩
def folErr : FaultReg := ⟨FOL_ERR, some (FOL_FIRST, 4), some 73⟩
def catErr : FaultReg := ⟨CAT_ERR, some (CAT_FIRST, 4), some 77⟩
def nvmeErr : FaultReg := ⟨NVME_ERR, some (NVME_FIRST, 4), some 43⟩
def tagErr : FaultReg := ⟨TAG_ERR, some (TAG_FIRST, 4), some 38⟩
def stkErr : FaultReg := ⟨STK_ERR, some (STK_FIRST, 5), some 57⟩
def memErr (b event : Nat) : FaultReg := ⟨MEM_ERR b, some (MEM_FIRST b, 4), some event⟩
def coreFault (c : Nat) : FaultReg :=
  ⟨CORE_FAULT (coreBase c), some (CORE_FIRST (coreBase c), 4), some (if c < 8 then 80 else chEvent ((c - 8) / 2) 34)⟩
def evErr : FaultReg := ⟨EV_ERR, none, some 84⟩
def lmFault (n : Nat) : FaultReg := ⟨LM_FAULT n, some (LM_FIRST n, 4), none⟩
def sigErr : FaultReg := ⟨SIG_ERR, some (SIG_FIRST, 4), some 97⟩
def nvsErr : FaultReg := ⟨NVS_ERR, none, some 478⟩
def ladderErr : FaultReg := ⟨LADDER_ERR, some (LADDER_FIRST, 4), some 451⟩
def supLost : FaultReg := ⟨SUP_LOST, some (SUP_FIRST, 4), none⟩
def thermFault : FaultReg := ⟨THERM_FAULT, some (THERM_FIRST, 5), none⟩
def xsErr : FaultReg := ⟨XS_ERR, some (XS_FIRST, 4), some 105⟩

/-- FIRST of a fault register, by its address: (FIRST's address, the place of VALID) (R489, R491). -/
def firstOf (a : Nat) : Option (Nat × Nat) :=
  let b := unitBase (addrDie a) (addrUnit a)
  let o := addrOff a
  let n := addrDie a - 1
  if 1 ≤ addrDie a ∧ addrDie a ≤ 4 then
    if a = LOOP_FAULT n then some (LOOP_FIRST n, 4)
    else if a = DET_ERR n then some (DET_FIRST n, 4)
    else if a = WR_ERR n then some (WR_FIRST n, 4)
    else if a = AS_FAULT n then some (AS_FIRST n, 4)
    else if a = PA_FAULT n then some (PA_FIRST n, 4)
    else if a = LM_FAULT n then some (LM_FIRST n, 4)
    else if a = MEM_ERR (chCSRAM n) then some (MEM_FIRST b, 4)
    else if a = CORE_FAULT (chCCORE n) ∨ a = CORE_FAULT (chCCORE n + 0x40) then some (a + 4, 4)
    else none
  else if addrDie a = 0 then
    if a = FOL_ERR then some (FOL_FIRST, 4)
    else if a = CAT_ERR then some (CAT_FIRST, 4)
    else if a = NVME_ERR then some (NVME_FIRST, 4)
    else if a = TAG_ERR then some (TAG_FIRST, 4)
    else if a = STK_ERR then some (STK_FIRST, 5)
    else if a = MEM_ERR hubDRAMC ∨ a = MEM_ERR hubSCACHE ∨ a = MEM_ERR hubHSRAM then some (MEM_FIRST b, 4)
    else if addrUnit a = 18 ∧ o % 0x40 = 8 ∧ o < 0x200 then some (a + 4, 4)
    else if a = SIG_ERR then some (SIG_FIRST, 4)
    else if a = XS_ERR then some (XS_FIRST, 4)
    else none
  else if addrDie a = 5 then
    if a = SPIN_FAULT then some (SPIN_FIRST, 4)
    else if a = ALOG_ERR then some (ALOG_FIRST, 4)
    else if a = LADDER_ERR then some (LADDER_FIRST, 4)
    else if a = SUP_LOST then some (SUP_FIRST, 4)
    else if a = THERM_FAULT then some (THERM_FIRST, 5)
    else none
  else none

/-! ### Saturating counters -/

/-- Count `k` events in a saturating 32-bit counter; reaching all ones sets its sticky flag as a plain status bit (R69). -/
def State.countSat (s : State) (cnt : Nat) (sat : Fld) (bit k : Nat) : State :=
  let n := s.num cnt + k
  if n ≥ 0xFFFFFFFF then
    (s.setNum cnt 0xFFFFFFFF).wr sat.addr (BitVec.ofNat 32 (setBitN (s.num sat.addr) (sat.lo + bit)))
  else s.setNum cnt n

/-- The same where the saturation flag is a bit of a fault register, so that its setting writes a record (R69, R490). -/
def State.countSatFault (s : State) (cnt : Nat) (fr : FaultReg) (bit k : Nat) : State :=
  let n := s.num cnt + k
  if n ≥ 0xFFFFFFFF then (s.setNum cnt 0xFFFFFFFF).noteBit fr bit else s.setNum cnt n

/-- The counters that a W1C saturation bit also sets to 0, by register address and bit (the registers' descriptions). -/
def satCounters (a : Nat) : List (Nat × Nat) :=
  let n := addrDie a - 1
  if 1 ≤ addrDie a ∧ addrDie a ≤ 4 then
    if a = ADC_STAT n then [(4, CLIP_CNT n 0), (5, CLIP_CNT n 1), (6, CLIP_CNT n 2)]
    else if a = AS_CNT_SAT n then [(0, HOP_CNT n)]
    else if a = PA_CNT_SAT n then [(0, REPLY_ERR n), (1, FRAME_CNT n)]
    else if a = LM_STAT n then [(12, LM_FORCED_CNT n)]
    else if a = CORE_STAT (chCCORE n) then
      [(26, LATE_CNT n 0), (25, RESTART_CNT (chCCORE n)), (24, RES_CNT (chCCORE n))]
    else if a = CORE_STAT (chCCORE n + 0x40) then
      [(26, LATE_CNT n 1), (25, RESTART_CNT (chCCORE n + 0x40)), (24, RES_CNT (chCCORE n + 0x40))]
    else []
  else if addrDie a = 0 then
    if a = NVME_ERR then [(3, FETCH_STALL_CNT)]
    else if a = TCNT_SAT then [(0, ABORTED), (1, NOT_ABORTED), (2, DROPPED)]
    else if a = EV_ERR then [(2, EV_UNROUTED)]
    else if addrUnit a = 18 ∧ addrOff a % 0x40 = 4 ∧ addrOff a < 0x200 then
      [(25, RESTART_CNT (a - 4)), (24, RES_CNT (a - 4))]
    else []
  else if a = ALOG_ERR then [(1, ALOG_DROP)]
  else if a = SPIN_SAT then [(0, LOS_CNT), (1, SKIP_CNT), (2, CLAMP_CNT)]
  else []

/-- A write of ones to W1C bits (R12, R13): the bits clear, a fault register that becomes all zero clears its FIRST
(R489), and a saturation bit whose description says so sets its counter to 0. -/
def State.clearBits (s : State) (a : Nat) (ones : Word) : State :=
  let old := s.rd a
  let new := old &&& ~~~ones
  let s := s.wr a new
  let s := (satCounters a).foldl (fun s e => if bitOf ones.toNat e.1 then s.setNum e.2 0 else s) s
  let s := if a = OVR_CNT (addrDie a - 1) ∧ bitOf ones.toNat 16 then s.wr a 0 else s
  match firstOf a with
  | some (f, _) => if new = 0 ∧ old ≠ 0 then s.wr f 0 else s
  | none => s

/-! ### Fatal and Degraded faults -/

/-- PART_FIRST keeps the first Fatal fault, or before any Fatal the first Degraded fault (file 16, ALOG registers). -/
def State.partFirst (s : State) (fatal : Bool) (die unit bit offset : Nat) : State :=
  if s.flag PART_FIRST_VALID && (s.flag PART_FIRST_FATAL || !fatal) then s
  else
    s.setNum PART_FIRST
      (0x80000000 + ofBool fatal * 0x40000000 + die % 8 * 0x8000000 + unit % 32 * 0x400000 + bit % 32 * 0x10000 + offset % 0x10000)

/-- A Fatal cause arises (R496): its sequence (R497) begins at the FATAL_SEQUENCE step. -/
def State.fatalCause (s : State) (c : FatalCause) : State := { s with fatal := s.fatal ++ [c] }

/-- ACT_STATE of actuator n: 0 Absent, 1 Online, 2 Degraded, 3 Offline (R492). -/
def State.actState (s : State) (n : Nat) : Nat := bitsOf (s.num ACT_STATE) (2 * n + 1) (2 * n)

/-- Write ACT_STATE of actuator n. -/
def State.setActState (s : State) (n v : Nat) : State :=
  s.wr ACT_STATE (insertBits (s.rd ACT_STATE) (2 * n + 1) (2 * n) v)

end Sys2Proof.Machine
end

