-- ==== Sys2Proof/Machine/Gates.lean ====
section
/-!
DEFINITION. The data gates of a channel die: the rings of descriptors and completions (R221-R223, R232-R237), the interlocks of R251, and what becomes of a sector when a gate drops or closes (R240, R430, R433).
-/

namespace Sys2Proof.Machine

/-! ### Thermal levels (R524, R525, R527) -/

/-- The level of a die: 0 Normal, 1 Warm, 2 Hot, 3 Critical. -/
def State.thermLevel (s : State) (d : Nat) : Nat := bitsOf (s.num THERM_LVL) (2 * d + 1) (2 * d)

/-- A die at Hot or above; one whose diode is broken is treated as Hot. -/
def State.dieHot (s : State) (d : Nat) : Bool := s.flag (THERM_T_BROKEN d) || decide (2 ≤ s.thermLevel d)

/-! ### Rings in CH SRAM (R221-R223, R232-R237) -/

/-- Entries of a ring whose LEN field is `len`: 2^LEN for 4-10, else 2^4. -/
def ringLen (len : Nat) : Nat := 2 ^ (if 4 ≤ len ∧ len ≤ 10 then len else 4)

/-- Entries a ring holds. -/
def ringUsed (len head tail : Nat) : Nat := (head % len + len - tail % len) % len

/-- A number added to a 48-bit count held as LO and HI words (R68). -/
def State.count48 (s : State) (lo hi k : Nat) : State := s.add64 lo hi k

/-- Whether a write completion entry can still be reserved (R232): the ring's free entries less those held by buffers. -/
def State.wcRoom (s : State) (n : Nat) : Bool :=
  let len := ringLen (s.get (WC_CFG_LEN n))
  let u := s.wruOf n
  decide (ringUsed len (s.num (WC_HEAD n)) (s.num (WC_TAIL n)) + u.bufs.length + ofBool u.op.isSome < len - 1)

/-- Whether a write descriptor waits (R232). -/
def State.wqReady (s : State) (n : Nat) : Bool :=
  decide (ringUsed (ringLen (s.get (WQ_CFG_LEN n))) (s.num (WQ_HEAD n)) (s.num (WQ_TAIL n)) ≠ 0)

/-- Take the next write descriptor (R233): its codeword is not yet encoded. -/
def State.takeWrite (s : State) (n : Nat) : WrCode × State :=
  let len := ringLen (s.get (WQ_CFG_LEN n))
  let t := s.num (WQ_TAIL n) % len
  let d := s.csBytes n (32 * s.get (WQ_CFG_BASE n) + 32 * t) 32
  (⟨fieldLe d 0 8, fieldLe d 8 8, fieldLe d 16 4, fieldLe d 20 6, bitOf (fieldLe d 26 1) 0, bitOf (fieldLe d 26 1) 1,
      bitsOf (fieldLe d 27 1) 2 0, false, false, []⟩,
    s.setNum (WQ_TAIL n) ((t + 1) % len))

/-- Statuses of a write completion (R237). -/
def wsGood : Nat := 0
def wsCut : Nat := 1
def wsSkipped : Nat := 2
def wsCrcBad : Nat := 3
def wsHeadWdis : Nat := 4
def wsAbandoned : Nat := 5

/-- AS_ERR (R237): the mean of SP - AMON over the usable samples, in 0.001 % of SP, S16; 0 if there is none. -/
def asErr (sp : Nat) (sum : Int) (n : Nat) : Int :=
  if n = 0 ∨ sp = 0 then 0 else clampS 16 (roundDiv (sum * 100000) (n * sp))

/-- The SP in force of the head in use (R242). -/
def State.spInForce (s : State) (n : Nat) : Nat :=
  match (s.loopOf n).head with
  | some k => atD (s.asuOf n).spOf k 0
  | none => 0

/-- Write a write completion (R237): 16 bytes at WC_HEAD, which advances; the sector counters and the WCQ event follow. -/
def State.writeDone (s : State) (n : Nat) (o : WrOpen) (status : Nat) : State :=
  let len := ringLen (s.get (WC_CFG_LEN n))
  let h := s.num (WC_HEAD n) % len
  let flags := ofBool o.hop + 2 * ofBool o.phClip + 4 * ofBool o.htrRd
  let bytes := toLe 6 o.code.id ++ toLe 1 status ++ toLe 1 o.frags ++ toLe 2 flags ++
    toLe 2 (toBits 16 (asErr (s.spInForce n) o.asSum o.asN)) ++ toLe 4 (s.num TSTAMP)
  let s := s.csWrite n (16 * s.get (WC_CFG_BASE n) + 16 * h) bytes
  let s := s.setNum (WC_HEAD n) ((h + 1) % len)
  let s := if status = wsGood then s.count48 (WSECT_LO n 0) (WSECT_HI n 0) 1
    else if status = wsCut then s.count48 (WSECT_LO n 1) (WSECT_HI n 1) 1
    else if status = wsSkipped then s.count48 (WSECT_LO n 2) (WSECT_HI n 2) 1
    else s
  let s := if o.hop then s.count48 (WSECT_LO n 3) (WSECT_HI n 3) 1 else s
  s.raise (chEvent n 8)

/-- A codeword whose sector is completed without being written. -/
def unwritten (c : WrCode) : WrOpen := ⟨c, 0, 0, false, false, false, false, 0, 0, 0, c.bits.drop 2048⟩

/-- The open written sector completes. -/
def State.endWrite (s : State) (n status : Nat) : State :=
  match (s.wruOf n).op with
  | none => s
  | some o => (s.writeDone n o status).modWru n (fun u => { u with op := none })

/-- Whether a read completion entry can be reserved (R221): the ring's free entries less those of sectors under way. -/
def State.cqRoom (s : State) (n : Nat) : Bool :=
  let len := ringLen (s.get (CQ_CFG_LEN n))
  let d := s.detOf n
  decide (ringUsed len (s.num (CQ_HEAD n)) (s.num (CQ_TAIL n)) + d.slots.length + ofBool d.op.isSome + ofBool d.held.isSome +
    ofBool d.rcv.isSome < len - 1)

/-- Whether a read descriptor waits (R221). -/
def State.dqReady (s : State) (n : Nat) : Bool :=
  decide (ringUsed (ringLen (s.get (DQ_CFG_LEN n))) (s.num (DQ_HEAD n)) (s.num (DQ_TAIL n)) ≠ 0)

/-- A read descriptor (R222). -/
def rdSec (d : List Byte) : RdSec :=
  ⟨fieldLe d 0 8, fieldLe d 8 8, fieldLe d 16 4, fieldLe d 20 4, fieldLe d 24 6, bitOf (fieldLe d 30 1) 0,
    bitOf (fieldLe d 30 1) 1, 0, false, false, false, false, false, 0, 0, 0, [], [], 0⟩

/-- Take the next read descriptor. -/
def State.takeRead (s : State) (n : Nat) : RdSec × State :=
  let len := ringLen (s.get (DQ_CFG_LEN n))
  let t := s.num (DQ_TAIL n) % len
  (rdSec (s.csBytes n (32 * s.get (DQ_CFG_BASE n) + 32 * t) 32), s.setNum (DQ_TAIL n) ((t + 1) % len))

/-- Statuses of a read completion (R223). -/
def rsGood : Nat := 0
def rsDecFail : Nat := 1
def rsSyncMiss : Nat := 2
def rsCrcFail : Nat := 3
def rsAddrFail : Nat := 4
def rsAbandoned : Nat := 5
def rsTimeout : Nat := 6
def rsAborted : Nat := 7
def rsFolio : Nat := 8

/-- What a read completion says besides the sector's own fields (R223): SOFT, CUT, SLIP_SKIP, RCV, BITS_CORR, ITER, STEP. -/
structure RdEnd where
  soft : Bool
  cut : Bool
  slipSkip : Bool
  rcv : Bool
  corr : Nat
  iter : Nat
  step : Nat
  deriving DecidableEq, Repr

/-- A completion on the fly with nothing further to say. -/
def RdEnd.plain : RdEnd := ⟨false, false, false, false, 0, 0, 1⟩

/-- Write a read completion (R223): 16 bytes at CQ_HEAD, which advances, and the CQ event. -/
def State.readDone (s : State) (n : Nat) (r : RdSec) (status : Nat) (e : RdEnd) : State :=
  let len := ringLen (s.get (CQ_CFG_LEN n))
  let h := s.num (CQ_HEAD n) % len
  let flags := ofBool r.sm1 + 2 * ofBool r.sm2 + 4 * ofBool r.dist + 8 * ofBool r.fmMiss + 16 * ofBool r.timing +
    32 * ofBool e.soft + 64 * ofBool e.cut + 128 * ofBool e.slipSkip + 256 * ofBool e.rcv
  let bytes := toLe 6 r.id ++ toLe 2 (satU 16 e.corr) ++ toLe 2 flags ++ toLe 1 e.iter ++ toLe 1 r.slip ++ toLe 1 status ++
    toLe 1 e.step ++ toLe 1 r.frags ++ [0]
  let s := s.csWrite n (16 * s.get (CQ_CFG_BASE n) + 16 * h) bytes
  (s.setNum (CQ_HEAD n) ((h + 1) % len)).raise (chEvent n 0)

/-- A sector counter of DETECT (R231). -/
def State.countSect (s : State) (n i k : Nat) : State := s.count48 (SECT_CNT_LO n i) (SECT_CNT_HI n i) k

/-- The sector being read completes ABANDONED (R198, R54, R430). -/
def State.abandonRead (s : State) (n : Nat) : State :=
  match (s.detOf n).op with
  | none => s
  | some r =>
    ((s.readDone n r rsAbandoned RdEnd.plain).countSect n 11 1).modDet n (fun d => { d with op := none, gate := false })

/-! ### The interlocks of R251 -/

/-- The actuator of channel n is assisted (R84, R241). -/
def State.assisted (s : State) (n : Nat) : Bool := decide (s.imgNat (fun i => i.assist n) ≠ 0)

/-- The head in use is write-disabled (R247). -/
def State.headWdis (s : State) (n : Nat) : Bool :=
  match (s.loopOf n).head with
  | some k => bitOf (s.get (WR_STAT_HEAD_WDIS n)) k
  | none => false

/-- Disable writing on the head in use (R247, R259). -/
def State.setWdis (s : State) (n : Nat) : State :=
  match (s.loopOf n).head with
  | some k => s.put (WR_STAT_HEAD_WDIS n) (setBitN (s.get (WR_STAT_HEAD_WDIS n)) k)
  | none => s

/-- An interlock of R251 holds the write gate closed: the verdict, the wedge's mark and forward frame, search mode, the TDC,
the servo gate, the preamp and its faults (R259), a head switch from the start of its HEAD slot on (R258), a contact calibration; and a lost crystal
(R43). -/
def State.gateHeld (s : State) (n : Nat) : Bool :=
  let d := s.demodOf n
  s.flag (LOOP_STAT_UNSAFE n) || d.shockTrip || !d.found || !d.spinLock || s.flag (DEMOD_STAT_SEARCH n) ||
    !s.flag (TDC_STAT_LOCK n) || d.gate || s.flag (PA_STAT_FLTN n) || !s.flag (PA_STAT_ARMED n) ||
    decide (2 ≤ (s.pauOf n).bad) || (s.pauOf n).headSent.isSome || (s.pauOf n).headLate.isSome || bitOf (s.get (PA_STAT_FLT n)) 2 || bitOf (s.get (PA_STAT_FLT n)) 1 ||
    s.flag (FLY_STAT_BUSY n) || s.flag CLOCK_STAT_XTAL_LOST || (s.assisted n && !s.flag (AS_CTL_EN n))

/-- A write's action lies within the fragment window, which follows servo bit 151 (R103, R197, R430): once the wedge's tick has passed, the servo
gate has closed by then, but in search mode, where it stays open for the whole wedge (R108). -/
def State.servoEnd (s : State) (n : Nat) : State :=
  if (s.demodOf n).ticked then s.modDemod n (fun d => { d with gate := d.gate && s.flag (DEMOD_STAT_SEARCH n) }) else s

/-- When PAn_WG last rose and fell. -/
def WriteU.roseAt (u : WriteU) : Option Int := u.spans.head?.map (·.rose)
def WriteU.fallAt (u : WriteU) : Option Int := u.spans.head?.bind (·.fell)

/-- Change the latest of the times PAn_WG was 1. -/
def State.modSpan (s : State) (n : Nat) (f : GateSpan → GateSpan) : State :=
  s.modWru n (fun u => { u with spans := match u.spans with | g :: t => f g :: t | [] => [] })

/-- The write gate and the assist output drop together, and a sector being emitted completes CUT (R240, R251). -/
def State.dropGate (s : State) (n : Nat) : State :=
  let s := if s.flag (WR_STAT_GATE n) then s.modSpan n (fun g => { g with dropped := true }) else s
  let s := ((s.put (WR_STAT_GATE n) 0).put (AS_STAT_ACTIVE n) 0).setNum (AS_DAC n) 0
  match (s.wruOf n).op with
  | some o => if o.emit then s.endWrite n wsCut else s
  | none => s

/-- Drop the gate if an interlock holds it closed. -/
def State.interlock (s : State) (n : Nat) : State := if s.gateHeld n then s.dropGate n else s

/-- Every data gate closes and the open sectors complete ABANDONED: CLOSE, and a Lomun fault (R430, R433). -/
def State.closeGates (s : State) (n : Nat) : State :=
  let s := ((s.put (WR_STAT_GATE n) 0).put (AS_STAT_ACTIVE n) 0).setNum (AS_DAC n) 0
  ((s.endWrite n wsAbandoned).abandonRead n).modDet n (fun d => { d with gate := false })

/-- The rate in force lies within 2,400,000-5,200,000 kHz (R194). -/
def State.rateOk (s : State) (n : Nat) : Bool :=
  let r := s.num (DZ_RATE n (s.get (DET_STAT_ZONE n))) % 0x800000
  decide (2400000 ≤ r) && decide (r ≤ 5200000)

/-- The fragment window of a wedge in channel bits (R197): the wedge period is the measured one, or the nominal one before two
ticks have been detected (R102). -/
def State.windowBits (s : State) (n : Nat) : Nat :=
  let t := match (s.demodOf n).period with
    | some t => t
    | none => 120000000000000 / (s.imgNat Image.rpm * s.imgNat Image.wedges)
  let z := s.get (DET_STAT_ZONE n)
  t * 1652 * s.get (DZ_RATE_KHZ n z) / (1852 * 2000000000) - s.get (DZ_FMT_GAP_POST n z) - s.get (DZ_FMT_GAP_PRE n z)

/-- Channel bits of a wedge period, and of a nominal coast: FPOST's end of one window to the start of the next (R207, R208). -/
def State.wedgeBits (s : State) (n : Nat) : Nat :=
  let t := match (s.demodOf n).period with
    | some t => t
    | none => 120000000000000 / (s.imgNat Image.rpm * s.imgNat Image.wedges)
  t * s.get (DZ_RATE_KHZ n (s.get (DET_STAT_ZONE n))) / 2000000000
def State.coastBits (s : State) (n : Nat) : Nat := s.wedgeBits n - s.windowBits n

/-- A wedge passes: what is held in bits of its fragment window is counted from the next one's on, and what lies a wedge back is forgotten. -/
def State.nextWindow (s : State) (n : Nat) : State :=
  let w : Int := s.wedgeBits n
  let s := s.modWru n (fun u => { u with
    spans := (u.spans.filter (fun g => decide (0 ≤ g.rose))).map (fun g => { g with rose := g.rose - w, fell := g.fell.map (· - w) }) })
  s.modLmu n (fun l => { l with prevAt := l.prevAt.map (· - w) })

/-- Channel bits from a wedge's tick to its fragment window (R197). -/
def State.tickBits (s : State) (n : Nat) : Nat :=
  s.wedgeBits n * 152 / 1852 + s.get (DZ_FMT_GAP_POST n (s.get (DET_STAT_ZONE n)))

/-- The instants of queued actions in bits of the fragment window (R427, R430): from the tick, from the window's start, or from the action before, of
which `prev` is the last one's; the bit of an immediate one the model does not hold. -/
def instants (tickBits : Nat) : Option Int → List (Nat × Nat × Nat) → List (Option Int)
  | _, [] => []
  | prev, (_, anchor, at_) :: rest =>
    let i : Option Int := match anchor with
      | 1 => some ((at_ : Int) - tickBits)
      | 2 => some at_
      | 3 => prev.map (· + at_)
      | _ => none
    i :: instants tickBits i rest

/-- The queued actions with their instants. -/
def State.actions (s : State) (n : Nat) : List (Nat × Option Int) :=
  let l := s.lmuOf n
  List.zip (l.queue.map (·.1)) (instants (s.tickBits n) l.prevAt l.queue)

/-- The window bit at which a queued action acts, by its ANCHOR and AT; `pos` where the queue does not tell (R430). -/
def State.actionAt (s : State) (n d pos : Nat) : Nat :=
  match (s.actions n).find? (fun e => decide (e.1 = d)) with
  | some (_, some i) => i.toNat
  | _ => pos

/-- The window bit of the next WRITE or WRITE_CONT in the queue. -/
def State.nextWrite (s : State) (n : Nat) : Option Int :=
  ((s.actions n).find? (fun e => decide (e.1 = 3) || decide (e.1 = 4))).bind (·.2)

/-- Bits of part B (R195). -/
def partB : Nat := 35584

/-- Samples of a fragment from its frame to the data of part B: part A and SM2 in the first (R195). -/
def pieceHead (first : Bool) : Nat := if first then 2072 else 0

/-- The last fragment's data ends after `k` bits of part B: the slot keeps four samples after it, and no more than its 38,912 bytes (R218). -/
def endPiece (first : Bool) : List Piece → Nat → List Piece
  | [], _ => []
  | [p], k => [{ p with data := k, samples := p.samples.take (min 38912 (p.frame + pieceHead first + k + 4)) }]
  | p :: t, k => p :: endPiece false t k

/-- Part B's bits in the sector's last fragment when nothing cuts it: what the fragments before have left. -/
def RdSec.lastData (r : RdSec) : Nat := partB - (r.pieces.dropLast.map Piece.data).foldl (· + ·) 0

/-- The open sector's last bit has passed by window bit `pos`: its read gate closes and it waits for the decoder in its slot. -/
def State.passRead (s : State) (n pos : Nat) : State :=
  let d := s.detOf n
  match d.op with
  | some r =>
    if d.gate ∧ r.start + r.len ≤ pos then
      s.modDet n (fun d => { d with op := none, gate := false, slots := d.slots ++ [{ r with pieces := endPiece true r.pieces r.lastData }] })
    else s
  | none => s

/-- The data gates close at a servo gate opening (R54, R251, R431): a sector being emitted completes CUT, and a fragment being
read makes its sector complete ABANDONED. A sector split around the wedge is not touched. -/
def State.closeAtServo (s : State) (n : Nat) : State :=
  let end_ : Int := (s.windowBits n + s.get (DZ_FMT_GAP_PRE n (s.get (DET_STAT_ZONE n))) : Nat)
  let s := if s.flag (WR_STAT_GATE n) then s.modSpan n (fun g => { g with fell := some end_ }) else s
  let s := ((s.put (WR_STAT_GATE n) 0).dropGate n).modAsu n (fun a => { a with wave := [] })
  let s := s.passRead n (s.windowBits n)
  if (s.detOf n).gate then (s.abandonRead n).modDet n (fun d => { d with gate := false }) else s

/-- Write the output of the assist DAC (R241): codes above 61,440 act as 61,440, and ASSIST 0 holds the output at 0. -/
def State.assistOut (s : State) (n code : Nat) : State :=
  let c := if s.assisted n && s.flag (AS_CTL_EN n) then min code 61440 else 0
  (s.setNum (AS_DAC n) c).put (AS_STAT_ACTIVE n) (ofBool (decide (c ≠ 0)))

/-- A write of LOOP_CMD or TARGET by software while step 5 of a recovery runs ends it at the end of the revolution (R228). -/
def State.rcvFoul (s : State) (n : Nat) : State :=
  if s.flag (RCV_STAT_BUSY n) && decide (s.get (RCV_STAT_STEP n) = 5) then
    s.modDet n (fun d => { d with rcv := d.rcv.map (fun r => { r with foul := true }) })
  else s

end Sys2Proof.Machine
end

