-- ==== Sys2Proof/Machine/Codes.lean ====
section
/-!
DEFINITION. The correcting codes of the large arrays (R373, R395): RS(68,64) over bytes for a block of DRAM, SEC-DED (72,64) for a word of the shared cache and of the SRAMs. The manual names the codes and gives neither generator nor bit order; what it leaves open is read from Config.codeOpen (notes/assumptions/66.md).
-/

namespace Sys2Proof.Machine

/-! ### RS(68,64) (R373) -/

/-- The primitive polynomials of degree 8 over two elements. -/
def gfPolys : List Nat :=
  [0x11D, 0x12B, 0x12D, 0x14D, 0x15F, 0x163, 0x165, 0x169, 0x171, 0x187, 0x18D, 0x1A9, 0x1C3, 0x1CF, 0x1E7, 0x1F5]

/-- A field element times x, modulo the field's polynomial. -/
def gfTwice (p a : Nat) : Nat := if 256 ≤ 2 * a then Nat.xor (2 * a) p else 2 * a

/-- The product of two field elements. -/
def gfMul (p a b : Nat) : Nat :=
  [7, 6, 5, 4, 3, 2, 1, 0].foldl (fun acc i => Nat.xor (gfTwice p acc) (if bitOf b i then a else 0)) 0

/-- x to the power k. -/
def gfPow (p : Nat) : Nat → Nat
  | 0 => 1
  | k + 1 => gfTwice p (gfPow p k)

/-- A polynomial, lowest coefficient first, times (x + r). -/
def gfRoot (p : Nat) (g : List Nat) (r : Nat) : List Nat :=
  (List.range (g.length + 1)).map (fun i => Nat.xor (if i = 0 then 0 else g.getD (i - 1) 0) (gfMul p r (g.getD i 0)))

/-- The generator: its roots are the powers b to b + 3. -/
def rsGenerator (p b : Nat) : List Nat := [0, 1, 2, 3].foldl (fun g j => gfRoot p g (gfPow p ((b + j) % 255))) [1]

/-- The four check symbols of a message, highest symbol first: the remainder by the generator, lowest first. -/
def rsCheck (p b : Nat) (msg : List Nat) : List Nat :=
  let g := rsGenerator p b
  msg.foldl (fun r m =>
    let f := Nat.xor m (r.getD 3 0)
    [0, 1, 2, 3].map (fun i => Nat.xor (if i = 0 then 0 else r.getD (i - 1) 0) (gfMul p f (g.getD i 0)))) [0, 0, 0, 0]

/-- The four syndromes of a code word, highest symbol first. -/
def rsSyndromes (p b : Nat) (word : List Nat) : List Nat :=
  [0, 1, 2, 3].map (fun j => word.foldl (fun s c => Nat.xor (gfMul p s (gfPow p ((b + j) % 255))) c) 0)

/-- The one erroneous symbol, by its place from the lowest, that four syndromes not all zero stand for, with what it is off by; none for two or
more. -/
def rsError (p b n : Nat) (s : List Nat) : Option (Nat × Nat) :=
  let s0 := s.getD 0 0
  if s0 = 0 then none
  else
    match (List.range n).find? (fun k =>
        let x := gfPow p k
        decide (s.getD 1 0 = gfMul p s0 x) && decide (s.getD 2 0 = gfMul p (s.getD 1 0) x) &&
          decide (s.getD 3 0 = gfMul p (s.getD 2 0) x)) with
    | some k => some (k, gfMul p s0 (gfPow p ((255 - k * b % 255) % 255)))
    | none => none

/-- The field's polynomial and the first root of the DRAM code. -/
def rsField : Nat := gfPolys.getD (Config.codeOpen 0 % 16) 0x11D
def rsFirst : Nat := Config.codeOpen 1 % 255

/-- The message of a block (R373): its number as four symbols that are not stored, then its 64 bytes. -/
def rsMessage (a : Nat) (data : List Byte) : List Nat :=
  [3, 2, 1, 0].map (fun i => a / 64 / 256 ^ i % 256) ++ (slice data 0 64).map BitVec.toNat

/-- The check word of a block (R373). -/
def rsWord (a : Nat) (data : List Byte) : Nat :=
  let r := rsCheck rsField rsFirst (rsMessage a data)
  r.getD 0 0 + 0x100 * r.getD 1 0 + 0x10000 * r.getD 2 0 + 0x1000000 * r.getD 3 0

/-- The decoder of a block (R373): one erroneous byte of the data or of the check word is corrected; an error in the block's number, as a read
back from the wrong address shows it, or in two bytes or more is uncorrectable. -/
def rsDecode (a : Nat) (data : List Byte) (check : Nat) : Option (List Byte) :=
  let word := rsMessage a data ++ [3, 2, 1, 0].map (fun i => check / 256 ^ i % 256)
  let s := rsSyndromes rsField rsFirst word
  if s.all (fun x => decide (x = 0)) then some (slice data 0 64)
  else
    match rsError rsField rsFirst 72 s with
    | some (k, e) =>
      if k < 4 then some (slice data 0 64)
      else if k < 68 then some ((slice data 0 64).modify (67 - k) (fun x => x ^^^ BitVec.ofNat 8 e))
      else none
    | none => none

/-! ### SEC-DED (72,64) (R395) -/

/-- Bits of a byte that are 1. -/
def weight8 (x : Nat) : Nat := ([0, 1, 2, 3, 4, 5, 6, 7].filter (fun i => bitOf x i)).length

/-- The bytes of odd weight above 1. -/
def oddColumns : List Nat := (List.range 256).filter (fun x => decide (weight8 x % 2 = 1) && decide (1 < weight8 x))

/-- `n` of the columns, each chosen once. -/
def chooseColumns : Nat → Nat → List Nat → List Nat
  | 0, _, _ => []
  | n + 1, k, l =>
    let i := Config.codeOpen k % l.length
    l.getD i 0 :: chooseColumns n (k + 1) (l.eraseIdx i)

/-- The column of each data bit of a word. -/
def secColumns : List Nat := chooseColumns 64 2 oddColumns

/-- Bit j of a word's bytes. -/
def wordBit (data : List Byte) (j : Nat) : Bool := bitOf (data.getD (j / 8) 0).toNat (j % 8)

/-- The check bits of a 64-bit word (R395). -/
def secWord (data : List Byte) : Nat :=
  secColumns.zipIdx.foldl (fun c e => if wordBit data e.2 then Nat.xor c e.1 else c) 0

/-- The decoder of a 64-bit word (R395): one erroneous bit is corrected, two are uncorrectable. -/
def secDecode (data : List Byte) (check : Nat) : Option (List Byte) :=
  let d := slice data 0 8
  let s := Nat.xor (secWord d) (check % 256)
  if weight8 s ≤ 1 then some d
  else
    match secColumns.zipIdx.find? (fun e => decide (e.1 = s)) with
    | some e => some (d.modify (e.2 / 8) (fun x => x ^^^ BitVec.ofNat 8 (2 ^ (e.2 % 8))))
    | none => none

/-! ### The code of an array -/

/-- The check bits the encoder of an array computes over a code word (R373, R395): array, address, bytes. -/
def checkOf (m a : Nat) (data : List Byte) : Nat := if m = 0 then rsWord a data else secWord data

/-- What the decoder of an array makes of stored bytes and check bits (R373, R395): the bytes with at most one error corrected, or none for an
uncorrectable error. -/
def correct (m a : Nat) (data : List Byte) (check : Nat) : Option (List Byte) :=
  if m = 0 then rsDecode a data check else secDecode data check

end Sys2Proof.Machine
end

