-- ==== Sys2Proof/Machine/Memory.lean ====
section
/-!
DEFINITION. The memories of the HUB and of the channel dies (file 12): the physical map (R371), the correcting codes and their outcomes (R373, R374, R395-R398), the DRAM valid bitmap (R375, R376) and the shared cache (R388-R391).
-/

namespace Sys2Proof.Machine

/-- Physical base of DRAM and its size (R371). -/
def dramBase : Nat := 0x200000000
def dramSize : Nat := 0xF0000000

/-- Physical base of HUB SRAM (R371). -/
def sramBase : Nat := 0x100000000

/-- The unit that holds an array's memory registers (file 12). -/
def memUnit (m : Nat) : Nat := if m = 0 then hubDRAMC else if m = 1 then hubSCACHE else if m = 2 then hubHSRAM else chCSRAM (m - 3)

/-- The ERR event of an array's unit (file 12). -/
def memEvent (m : Nat) : Nat := if m = 0 then 64 else if m = 1 then 61 else if m = 2 then 68 else chEvent (m - 3) 28

/-- The fault register of an array (file 12). -/
def memFault (m : Nat) : FaultReg := memErr (memUnit m) (memEvent m)

/-- The address an array's registers show for its byte `a`: physical, or an offset on a CSRAM (file 12). -/
def memAddr (m a : Nat) : Nat := if m = 0 then dramBase + a else if m = 2 then sramBase + a else a

/-- An error of an array was corrected (R399, R69): CE, CE_CNT, CE_ADDR. -/
def State.memCe (s : State) (m a : Nat) : State :=
  let b := memUnit m
  let s := s.set64 (CE_ADDR_LO b) (CE_ADDR_HI b) (memAddr m a)
  (s.noteBit (memFault m) 0).countSatFault (CE_CNT b) (memFault m) 3 1

/-- An uncorrectable error ends an access (R397): UE, UE_CNT, UE_ADDR, the ERR event and a Fault record. -/
def State.memUe (s : State) (m a : Nat) : State :=
  let b := memUnit m
  let s := s.set64 (UE_ADDR_LO b) (UE_ADDR_HI b) (memAddr m a)
  (s.faultBit (memFault m) 1 sevFault clsCorrected noInst (memAddr m a)).countSatFault (UE_CNT b) (memFault m) 3 1

/-- A read met a poisoned block (R398): POISON. -/
def State.memPoison (s : State) (m : Nat) : State := s.noteBit (memFault m) 4

/-! ### Code words -/

/-- What the decoder makes of a code word (R373, R395, R398). -/
inductive Ecc where
  | good
  | corrected (data : List Byte)
  | failed
  | poisoned
  deriving DecidableEq, Repr

/-- The decoder's outcome for a code word with a mark. -/
def eccOf (m a : Nat) (data : List Byte) (k : Mark) : Ecc :=
  match k with
  | .poison => .poisoned
  | .bad => .failed
  | .raw c =>
    if c = checkOf m a data then .good
    else
      match correct m a data c with
      | some d => .corrected d
      | none => .failed

/-- Check bits given raw as the state keeps them: nothing where they are the encoder's, the poison pattern of DRAM by name
(R398, R400). -/
def markOf (m a : Nat) (data : List Byte) (check : Nat) : Option Mark :=
  if check = checkOf m a data then none
  else if m = 0 ∧ check = Nat.xor (checkOf m a data) 0x5A5A5A5A then some .poison
  else some (.raw check)

/-- The state with a code word's mark set, or removed. -/
def State.setMark (s : State) (m a : Nat) (k : Option Mark) : State :=
  { s with
    marks := match k with
      | some v => place (markKey m a) v s.marks
      | none => remove (markKey m a) s.marks }

/-- An array's bytes. -/
def State.array (s : State) (m : Nat) : Memory := if m = 0 then s.dram else if m = 2 then s.hsram else atD s.csram (m - 3) []

/-- The state with an array's bytes replaced. -/
def State.setArray (s : State) (m : Nat) (x : Memory) : State :=
  if m = 0 then { s with dram := x } else if m = 2 then { s with hsram := x }
  else { s with csram := modAt s.csram (m - 3) (fun _ => x) }

/-- One marked code word met by a read: its correction is laid over the bytes read, or the access fails. -/
def State.eccWord (m : Nat) (acc : (Memory × Bool) × State) (e : Nat × Mark) : (Memory × Bool) × State :=
  let a := e.1 - m * 0x10000000000
  let s := acc.2
  match eccOf m a ((s.array m).readN 0 a (granule m)) e.2 with
  | .good => acc
  | .corrected d => ((acc.1.1.writeN 0 a d, acc.1.2), s.memCe m a)
  | .failed => ((acc.1.1, false), s.memUe m a)
  | .poisoned => ((acc.1.1, false), s.memPoison m)

/-- A read of bytes [a, a + n) of an array through its code (R397, R398): the bytes, or none for a bus error. -/
def State.eccRead (s : State) (m a n : Nat) : Option (List Byte) × State :=
  match s.marksIn m a n with
  | [] => (some ((s.array m).readN 0 a n), s)
  | ms =>
    let r := ms.foldl (State.eccWord m) ((s.array m, true), s)
    (if r.1.2 then some (r.1.1.readN 0 a n) else none, r.2)

/-- A write of bytes within one code word (R374, R395): a whole code word is replaced; a part is merged into the corrected
word, and a part of an uncorrectable word ends with a bus error and leaves it unchanged. -/
def State.eccStore (s : State) (m a : Nat) (bs : List Byte) : Bool × State :=
  let g := a / granule m * granule m
  match look (markKey m a) s.marks with
  | none => (true, s.setArray m ((s.array m).writeN 0 a bs))
  | some k =>
    if bs.length = granule m then (true, (s.setMark m a none).setArray m ((s.array m).writeN 0 a bs))
    else
      match eccOf m g ((s.array m).readN 0 g (granule m)) k with
      | .good => (true, (s.setMark m a none).setArray m ((s.array m).writeN 0 a bs))
      | .corrected d =>
        let s := (s.memCe m g).setMark m a none
        (true, s.setArray m (((s.array m).writeN 0 g d).writeN 0 a bs))
      | .failed => (false, s.memUe m g)
      | .poisoned => (false, s.memPoison m)

/-- A write of bytes from `a` of an array, code word by code word; it ends at the first bus error. -/
def State.eccWrite (s : State) (m a : Nat) (bs : List Byte) : Bool × State :=
  if (s.marksIn m a bs.length).isEmpty then (true, s.setArray m ((s.array m).writeN 0 a bs))
  else
    (pieces (granule m) a bs.length).foldl (fun r p =>
      if r.1 then r.2.eccStore m p.1 ((bs.drop (p.1 - a)).take p.2) else r) (true, s)

/-! ### DRAM (R373-R376) -/

/-- The 4 KiB unit of a DRAM offset (R375). -/
def dramUnit (a : Nat) : Nat := a / 0x1000

/-- Clear the valid bits of units [u, u + n): their data is never returned again (R375, R376). -/
def State.invalidateUnits (s : State) (u n : Nat) : State :=
  let s := { s with
    valid := s.valid.filter (fun x => !(decide (u ≤ x) && decide (x < u + n))), dram := s.dram.wipe (u * 0x1000) (n * 0x1000) }
  s.unmark 0 (u * 0x1000) (n * 0x1000)

/-- A read of DRAM: a unit whose valid bit is 0 returns zeros (R375). -/
def State.dramRead (s : State) (a n : Nat) : Option (List Byte) × State := s.eccRead 0 a n

/-- A write of DRAM: the units it touches become valid (R375). -/
def State.dramWrite (s : State) (a : Nat) (bs : List Byte) : Bool × State :=
  let r := s.eccWrite 0 a bs
  (r.1, if bs.isEmpty || !r.1 then r.2
        else { r.2 with valid := insertRun (dramUnit a) (dramUnit (a + bs.length - 1) + 1) r.2.valid })

/-! ### The shared cache (R388-R391) -/

/-- The set of a physical address: bits [17:7] (R388). -/
def scSet (a : Nat) : Nat := a / 128 % 2048

/-- The key of the line that holds a physical address, if present (R389). -/
def State.scFind (s : State) (a : Nat) : Option (Nat × ScLine) :=
  s.lines.find? (fun e => decide (e.1 / 16 = scSet a) && decide (e.2.line = a / 128))

def State.setLine (s : State) (k : Nat) (l : ScLine) : State := { s with lines := place k l s.lines }

/-- Drop a line and the marks of its code words. -/
def State.dropLine (s : State) (k : Nat) (l : ScLine) : State :=
  ({ s with lines := remove k s.lines }).unmark 1 (l.line * 128) 128

/-- The ways class `c` may allocate in (R389): SC_WAYS, 0 acting as FFFFh. -/
def State.scWays (s : State) (c : Nat) : List Nat :=
  let m := s.get (SC_WAYS_MASK c)
  let m := if m = 0 then 0xFFFF else m
  (List.range 16).filter (fun w => bitOf m w)

/-- The policy of the region that holds a physical address (R391, R392): the lowest-numbered one, else write-back. -/
def State.regionPolicy (s : State) (a : Nat) : Nat :=
  let hit := (List.range 16).find? (fun r =>
    let b := s.get (SC_BASE_LO_BASE r) * 0x1000 + 0x100000000 * s.get (SC_BASE_HI_BASE r)
    decide (b ≤ a) && decide (a < b + s.num (SC_PAGES r) * 0x1000))
  match hit with
  | some r => s.get (SC_POLICY_POLICY r)
  | none => 0

/-- The policy the shared cache applies: uncached while SC_CTL.EN is 0. -/
def State.scPolicy (s : State) (a : Nat) : Nat := if s.flag SC_CTL_EN = false then 3 else s.regionPolicy a

/-- Write 64 B block `b` (0 or 1) of a line back to DRAM: a block with a code word that fails is stored poisoned (R398). -/
def State.writeBlock (s : State) (l : ScLine) (b : Nat) : State :=
  let a := l.line * 128 + 64 * b
  let off := a - dramBase
  let ms := s.marksIn 1 a 64
  let fixed := ms.foldl (fun (acc : List Byte × Bool) e =>
    let w := e.1 - 0x10000000000
    let o := w - a
    match eccOf 1 w (slice acc.1 o 8) e.2 with
    | .corrected d => (acc.1.take o ++ d ++ acc.1.drop (o + 8), acc.2)
    | .good => acc
    | _ => (acc.1, false)) (slice l.data (64 * b) 64, true)
  let s := (s.dramWrite off fixed.1).2
  if fixed.2 then s.setMark 0 off none else s.setMark 0 off (some .poison)

/-- Write a line back to DRAM. -/
def State.writeBack (s : State) (l : ScLine) : State := (s.writeBlock l 0).writeBlock l 1

/-- Drop a victim from the buffer, with the marks of its code words. -/
def State.dropVictim (s : State) (l : ScLine) : State :=
  ({ s with victims := s.victims.erase l }).unmark 1 (l.line * 128) 128

/-- A victim's write-back completes (R390). -/
def State.writeOut (s : State) (l : ScLine) : State := (s.writeBack l).dropVictim l

/-- The victim that holds a physical address (R394). -/
def State.victimAt (s : State) (a : Nat) : Option ScLine := s.victims.find? (fun l => decide (l.line = a / 128))

/-- The oldest victim is written back, unless it is the line an access concerns: R390 gives no time for a write-back, and the model completes one at
each lookup that concerns another line (DESIGN CHOICE, notes/assumptions/66.md). -/
def State.drainVictim (s : State) (a : Nat) : State :=
  match s.victims with
  | l :: _ => if l.line = a / 128 then s else s.writeOut l
  | [] => s

/-- A dirty victim enters the buffer; where the buffer is full the oldest leaves it first (R390). -/
def State.toVictim (s : State) (l : ScLine) : State :=
  let s := if 8 ≤ s.victims.length then (match s.victims with | v :: _ => s.writeOut v | [] => s) else s
  { s with victims := s.victims ++ [l] }

/-- Choose a victim among the ways of a mask (R390): the lowest invalid way, else the lowest way of age 3, else after raising
every age by 3 less the highest. The ages so raised are kept. -/
def State.scVictim (s : State) (set : Nat) (ways : List Nat) : Nat × State :=
  match ways.find? (fun w => (look (set * 16 + w) s.lines).isNone) with
  | some w => (w, s)
  | none =>
    let ageOf := fun w => match look (set * 16 + w) s.lines with | some l => l.age | none => 0
    let top := ways.foldl (fun m w => max m (ageOf w)) 0
    let s := ways.foldl (fun s w =>
      match look (set * 16 + w) s.lines with
      | some l => s.setLine (set * 16 + w) { l with age := l.age + (3 - top) }
      | none => s) s
    let w := ways.find? (fun w => match look (set * 16 + w) s.lines with | some l => decide (l.age = 3) | none => false)
    (w.getD 0, s)

/-- Fill a line of class `c` (R390): evict the victim, into the victim buffer if dirty, and insert at age 0, or 2 for a streaming
class. -/
def State.scFill (s : State) (c a : Nat) (data : List Byte) (dirty : Bool) : State :=
  let (w, s) := s.scVictim (scSet a) (s.scWays c)
  let k := scSet a * 16 + w
  let s := match look k s.lines with
    | some l => if l.dirty then s.toVictim l else s.dropLine k l
    | none => s
  s.setLine k ⟨a / 128, dirty, if bitOf (s.get SC_STREAM_CLASS) c then 2 else 0, data⟩

/-- The bytes a present line gives for [a, a + n), through the code of its words (R395, R397): corrected where they can be;
a clean line that fails is dropped and must be fetched again, a dirty one ends the access with a bus error (R398). -/
inductive LineRead where
  | bytes (bs : List Byte)
  | refetch
  | error
  deriving DecidableEq, Repr

def State.lineRead (s : State) (k : Nat) (l : ScLine) (a n : Nat) : LineRead × State :=
  let o := a - l.line * 128
  match s.marksIn 1 a n with
  | [] => (.bytes (slice l.data o n), s)
  | ms =>
    let r := ms.foldl (fun (acc : (List Byte × Bool) × State) e =>
      let w := e.1 - 0x10000000000
      let p := w - l.line * 128
      match eccOf 1 w (slice acc.1.1 p 8) e.2 with
      | .corrected d => ((acc.1.1.take p ++ d ++ acc.1.1.drop (p + 8), acc.1.2), acc.2.memCe 1 w)
      | .good => acc
      | _ => ((acc.1.1, false), if l.dirty then acc.2.memUe 1 w else acc.2.memCe 1 w)) ((l.data, true), s)
    if r.1.2 then (.bytes (slice r.1.1 o n), r.2)
    else if l.dirty then (.error, r.2)
    else (.refetch, r.2.dropLine k l)

/-- Read a line's 128 bytes from DRAM. -/
def State.fetchLine (s : State) (a : Nat) : Option (List Byte) × State := s.dramRead (a / 128 * 128 - dramBase) 128

/-- A read miss (R391): allocate under policies 0, 1 and 2, else from DRAM only. -/
def State.scReadMiss (s : State) (c a n : Nat) : Option (List Byte) × State :=
  if s.scPolicy a = 3 then s.dramRead (a - dramBase) n
  else
    match s.fetchLine a with
    | (some d, s) => (some (slice d (a % 128) n), s.scFill c a d false)
    | (none, s) => (none, s)

/-- A read of class `c` within one line (R388-R391). A line in the victim buffer serves it from there and is not reinstalled (R394). -/
def State.scRead (s : State) (c a n : Nat) : Option (List Byte) × State :=
  let s := (s.drainVictim a).add64 LOOKUPS_LO LOOKUPS_HI 1
  match s.scFind a with
  | none =>
    let s := s.add64 MISSES_LO MISSES_HI 1
    match s.victimAt a with
    | some l =>
      match s.lineRead 0 l a n with
      | (.bytes bs, s) => (some bs, s)
      | (_, s) => (none, s)
    | none => s.scReadMiss c a n
  | some (k, l) =>
    let s := s.setLine k { l with age := 0 }
    match s.lineRead k l a n with
    | (.bytes bs, s) => (some bs, s)
    | (.refetch, s) => s.scReadMiss c a n
    | (.error, s) => (none, s)

/-- Replace bytes of a line. -/
def overlay (d : List Byte) (o : Nat) (bs : List Byte) : List Byte := d.take o ++ bs ++ d.drop (o + bs.length)

/-- A write that updates a present line (R391): dirty under write-back; under any other policy the line is written to DRAM as
well and is clean. -/
def State.scUpdate (s : State) (k : Nat) (l : ScLine) (a : Nat) (bs : List Byte) : Bool × State :=
  let l' : ScLine := { l with age := 0, data := overlay l.data (a - l.line * 128) bs }
  let s := s.unmark 1 a bs.length
  if s.scPolicy a = 0 then (true, s.setLine k { l' with dirty := true })
  else if l.dirty then (true, (s.writeBack l').setLine k { l' with dirty := false })
  else
    let r := s.dramWrite (a - dramBase) bs
    (r.1, r.2.setLine k { l' with dirty := false })

/-- A line's 128 bytes for a write within it: only the 64 B blocks that the write does not cover whole are fetched (R391). -/
def State.fetchAround (s : State) (a : Nat) (bs : List Byte) : Option (List Byte) × State :=
  [0, 1].foldl (fun r b =>
    match r.1 with
    | none => r
    | some d =>
      let o := a / 128 * 128 + 64 * b
      if a ≤ o ∧ o + 64 ≤ a + bs.length then (some (d ++ slice bs (o - a) 64), r.2)
      else
        match r.2.dramRead (o - dramBase) 64 with
        | (some x, s) => (some (d ++ x), s)
        | (none, s) => (none, s)) (some [], s)

/-- A write miss (R391). Where the rest of the line cannot be fetched, a write of whole 64 B blocks goes to DRAM only, so that it replaces a
poisoned block (R398). -/
def State.scWriteMiss (s : State) (c a : Nat) (bs : List Byte) : Bool × State :=
  let p := s.scPolicy a
  if 2 ≤ p then s.dramWrite (a - dramBase) bs
  else
    match s.fetchAround a bs with
    | (none, s) => if a % 64 = 0 ∧ bs.length % 64 = 0 then s.dramWrite (a - dramBase) bs else (false, s)
    | (some d, s) =>
      let d := overlay d (a % 128) bs
      if p = 0 then (true, s.scFill c a d true)
      else
        let r := s.dramWrite (a - dramBase) bs
        if r.1 then (true, r.2.scFill c a d false) else r

/-- A write of class `c` within one line (R388-R391). A narrow write is merged into the corrected words it touches (R395); one that fails ends it. A
write to a line in the victim buffer waits for the write-back and proceeds as a miss (R394). -/
def State.scWrite (s : State) (c a : Nat) (bs : List Byte) : Bool × State :=
  let s := (s.drainVictim a).add64 LOOKUPS_LO LOOKUPS_HI 1
  match s.scFind a with
  | none =>
    let s := s.add64 MISSES_LO MISSES_HI 1
    (match s.victimAt a with | some l => s.writeOut l | none => s).scWriteMiss c a bs
  | some (k, l) =>
    if a % 8 = 0 ∧ bs.length % 8 = 0 then s.scUpdate k l a bs
    else
      let lo := a / 8 * 8
      match s.lineRead k l lo ((a + bs.length + 7) / 8 * 8 - lo) with
      | (.bytes old, s) => s.scUpdate k { l with data := overlay l.data (lo - l.line * 128) old } a bs
      | (.refetch, s) => s.scWriteMiss c a bs
      | (.error, s) => (false, s)

/-! ### HUB SRAM and the physical map (R371, R396) -/

/-- A byte of the bitmap range: the valid bits of eight units (R371, R375). -/
def State.bitmapByte (s : State) (k : Nat) : Byte :=
  BitVec.ofNat 8 (((List.range 8).map (fun i => if s.valid.contains (8 * k + i) then 2 ^ i else 0)).sum)

/-- Bytes of HUB SRAM, the bitmap range reading as the bitmap (R371). -/
def State.hsramRead (s : State) (o n : Nat) : Option (List Byte) × State :=
  if o + n ≤ 0xE2000 ∨ 0x100000 ≤ o then s.eccRead 2 o n
  else
    (some ((List.range n).map (fun i =>
      let x := o + i
      if 0xE2000 ≤ x ∧ x < 0x100000 then s.bitmapByte (x - 0xE2000) else s.hsram.read 0 x)), s)

/-- A write of an SRAM array, whose lines become valid (R396). -/
def State.sramWrite (s : State) (m o : Nat) (bs : List Byte) : Bool × State :=
  let r := s.eccWrite m o bs
  (r.1, (if r.1 then r.2.validate (m - 2) o bs.length else r.2).loseResv m o bs.length)

/-- Bytes to HUB SRAM; a write of the bitmap range ends with a bus error (R371). -/
def State.hsramWrite (s : State) (o : Nat) (bs : List Byte) : Bool × State :=
  if o + bs.length ≤ 0xE2000 ∨ 0x100000 ≤ o then s.sramWrite 2 o bs else (false, s)

/-- Whether bytes [a, a + n) lie in HUB SRAM, or in DRAM (R371). -/
def inSram (a n : Nat) : Bool := decide (sramBase ≤ a) && decide (a + n ≤ sramBase + 0x200000)
def inDram (a n : Nat) : Bool := decide (dramBase ≤ a) && decide (a + n ≤ dramBase + dramSize)

/-- A read of requester class `c` at a physical address (R371, R388): the bytes, or none for a bus error. -/
def State.physRead (s : State) (c a n : Nat) : Option (List Byte) × State :=
  if inSram a n then s.hsramRead (a - sramBase) n
  else if inDram a n then
    (pieces 128 a n).foldl (fun r p =>
      match r.1 with
      | none => r
      | some done =>
        match r.2.scRead c p.1 p.2 with
        | (some bs, s) => (some (done ++ bs), s)
        | (none, s) => (none, s)) (some [], s)
  else (none, s)

/-- A write of requester class `c` at a physical address (R371, R388): false for a bus error. -/
def State.physWrite (s : State) (c a : Nat) (bs : List Byte) : Bool × State :=
  if inSram a bs.length then s.hsramWrite (a - sramBase) bs
  else if inDram a bs.length then
    (pieces 128 a bs.length).foldl (fun r p =>
      if r.1 then r.2.scWrite c p.1 ((bs.drop (p.1 - a)).take p.2) else r) (true, s.loseResv 0 a bs.length)
  else (false, s)

/-- A channel die's local SRAM as its cores reach it, through its code (R395). -/
def State.csramRead (s : State) (n o k : Nat) : Option (List Byte) × State :=
  if o + k ≤ 0x80000 then s.eccRead (3 + n) o k else (none, s)

def State.csramWrite (s : State) (n o : Nat) (bs : List Byte) : Bool × State :=
  if o + bs.length ≤ 0x80000 then s.sramWrite (3 + n) o bs else (false, s)

/-- Discard the shared-cache lines of units [u, u + n), dirty or not, and clear their valid bits (R376, R382). -/
def State.discardUnits (s : State) (u n : Nat) : State :=
  let lo := (dramBase + u * 0x1000) / 128
  let hi := (dramBase + (u + n) * 0x1000) / 128
  let inRun := fun (l : ScLine) => decide (lo ≤ l.line) && decide (l.line < hi)
  let s := (s.victims.filter inRun).foldl State.dropVictim s
  ((s.lines.filter (fun e => inRun e.2)).foldl (fun s e => s.dropLine e.1 e.2) s).invalidateUnits u n

end Sys2Proof.Machine
end

