-- ==== Sys2Proof/Machine/Folio.lean ====
section
/-!
DEFINITION. The Folio engine (file 09, R270-R274): descriptors, encoding, rebuilding and priors of the outer code.
-/

namespace Sys2Proof.Machine

/-- Entries of a ring whose LEN field is `len`: 2^LEN for 4 to `top`, else 2^4 (file 09). -/
def ringLenTo (top len : Nat) : Nat := 2 ^ (if 4 ≤ len ∧ len ≤ top then len else 4)

/-- A Folio descriptor's member: data and metadata buffers. -/
def folData (d : List Byte) (i : Nat) : Nat := fieldLe d (32 + 16 * i) 8
def folMeta (d : List Byte) (i : Nat) : Nat := fieldLe d (40 + 16 * i) 8
def folSeed0 (d : List Byte) : Nat := fieldLe d 8 8
def folMiss (d : List Byte) : Nat := fieldLe d 1 1
def folOther (d : List Byte) : Nat := fieldLe d 2 1

/-- Statuses of a completion (file 09). -/
def folGood : Nat := 0
def folCrcFail : Nat := 1
def folBusErr : Nat := 2
def folBadDesc : Nat := 3

/-- Bytewise exclusive or. -/
def xorBytes (a b : List Byte) : List Byte := List.zipWith (fun x y => x ^^^ y) a b

/-- SEED of a member: SEED0 + i, or all ones for the parity sector (R270, R271). -/
def folSeed (d : List Byte) (i : Nat) : Nat := if i = 16 then 2 ^ 64 - 1 else (folSeed0 d + i) % 2 ^ 64

/-- The CRC-64 of 4,160 bytes under a SEED (R200). -/
def sectorCrc (seed : Nat) (bs : List Byte) : Nat := crc64 (2 ^ 64 - 1 - seed) bs

/-- Read `k` metadata bytes and the data of a member; the failing member is named (R274). -/
def State.folMember (s : State) (d : List Byte) (i k : Nat) : Option (List Byte × List Byte) × State :=
  match s.physRead 12 (folData d i) 4096 with
  | (none, s) => (none, s)
  | (some x, s) =>
    match s.physRead 12 (folMeta d i) k with
    | (none, s) => (none, s)
    | (some m, s) => (some (x, m), s)

/-- Read several members and XOR them, data and 72 B of metadata and CRC; or the member that failed. -/
def State.folXor (s : State) (d : List Byte) (is : List Nat) : Except Nat (List Byte × List Byte) × State :=
  is.foldl (fun acc i =>
    match acc.1 with
    | .error _ => acc
    | .ok (x, m) =>
      match acc.2.folMember d i 72 with
      | (none, s) => (.error i, s)
      | (some (y, n), s) => (.ok (xorBytes x y, xorBytes m n), s)) (.ok (List.replicate 4096 0, List.replicate 72 0), s)

/-- The 64-bit counter i of FOLIO (file 09). -/
def State.folCount (s : State) (i : Nat) : State := s.count48 (FOL_CNT_LO i) (FOL_CNT_HI i) 1

/-- Write a completion (file 09): 16 bytes at FC_HEAD, which advances, and event 72. -/
def State.folDone (s : State) (d : List Byte) (status member : Nat) : State :=
  let len := ringLenTo 10 (s.get FC_CFG_LEN)
  let h := s.num FC_HEAD % len
  let bytes := slice d 4 4 ++ toLe 1 status ++ slice d 0 1 ++ toLe 1 member ++ [0] ++ toLe 4 (s.num TSTAMP) ++ toLe 4 0
  let s := s.hsWrite (64 * s.get FC_CFG_BASE + 16 * h) bytes
  let s := if status = folCrcFail then s.noteBit folErr 0
    else if status = folBusErr then s.noteBit folErr 1
    else if status = folBadDesc then s.noteBit folErr 2
    else s
  (s.setNum FC_HEAD ((h + 1) % len)).raise 72

/-- A descriptor FOLIO carries out: EN, one waits in FQ, and FC has room for its completion. -/
def State.folNext (s : State) : Option (List Byte) × State :=
  let len := ringLenTo 8 (s.get FQ_CFG_LEN)
  let clen := ringLenTo 10 (s.get FC_CFG_LEN)
  if s.flag FOL_CTL_EN && decide (ringUsed len (s.num FQ_HEAD) (s.num FQ_TAIL) ≠ 0) &&
      decide (ringUsed clen (s.num FC_HEAD) (s.num FC_TAIL) < clen - 1) then
    let t := s.num FQ_TAIL % len
    (some (s.hsBytes (64 * s.get FQ_CFG_BASE + 512 * t) 512), s.setNum FQ_TAIL ((t + 1) % len))
  else (none, s)

/-- A descriptor FOLIO refuses (file 09): an invalid OP, MISS or OTHER. -/
def folBad (d : List Byte) : Bool :=
  let op := fieldLe d 0 1
  !(decide (op = 1) || (decide (op = 2) && decide (folMiss d ≤ 16)) ||
    (decide (op = 3) && decide (folMiss d ≤ 16) && decide (folOther d ≤ 16) && decide (folMiss d ≠ folOther d)))

/-- Carry out the descriptor at the front of the ring if it is one of OP `op`, or one FOLIO refuses. -/
def folRow (op : Nat) (work : List Byte → State → State) (s : State) : State :=
  match s.folNext with
  | (none, _) => s
  | (some d, s') =>
    if folBad d then s'.folDone d folBadDesc 0
    else if fieldLe d 0 1 = op then work d s'
    else s

/-- ENCODE of one member (R271): its CRC goes to bytes 64-71 of its META slot; its parts are XORed into the parity. -/
def folEncodeMember (d : List Byte) (acc : Except Nat (List Byte × List Byte) × State) (i : Nat) :
    Except Nat (List Byte × List Byte) × State :=
  match acc.1 with
  | .error _ => acc
  | .ok (x, m) =>
    match acc.2.folMember d i 64 with
    | (none, s) => (.error i, s)
    | (some (y, n), s) =>
      let crc := toLe 8 (sectorCrc (folSeed d i) (y ++ n))
      match s.physWrite 12 (folMeta d i + 64) crc with
      | (false, s) => (.error i, s)
      | (true, s) => (.ok (xorBytes x y, xorBytes m (n ++ crc)), s)

/-- ENCODE (R271): the members' CRCs, then the parity sector into DATA16 and META16. -/
def folEncode (d : List Byte) (s : State) : State :=
  match (List.range 16).foldl (folEncodeMember d) (.ok (List.replicate 4096 0, List.replicate 72 0), s) with
  | (.error i, s) => s.folDone d folBusErr i
  | (.ok (x, m), s) =>
    let w := s.physWrite 12 (folData d 16) x
    let w' := w.2.physWrite 12 (folMeta d 16) m
    if w.1 && w'.1 then (w'.2.folCount 0).folDone d folGood 0 else w'.2.folDone d folBusErr 16

def execFolioEncode (s : State) : Host.Outcome State Fault Refusal := .next (folRow 1 folEncode s)

/-- REBUILD (R272): the XOR of the other members, checked against the CRC under MISS's SEED. -/
def folRebuild (d : List Byte) (s : State) : State :=
  let miss := folMiss d
  match s.folXor d ((List.range 17).filter (fun i => decide (i ≠ miss))) with
  | (.error i, s) => s.folDone d folBusErr i
  | (.ok (x, m), s) =>
    let w := s.physWrite 12 (fieldLe d 16 8) x
    let w' := w.2.physWrite 12 (fieldLe d 24 8) m
    if (w.1 && w'.1) = false then w'.2.folDone d folBusErr miss
    else if sectorCrc (folSeed d miss) (x ++ slice m 0 64) = fieldLe m 64 8 then (w'.2.folCount 1).folDone d folGood 0
    else (w'.2.folCount 2).folDone d folCrcFail 0

def execFolioRebuild (s : State) : Host.Outcome State Fault Refusal := .next (folRow 2 folRebuild s)

/-- Bit j of an information part, bytes in order, each most significant bit first (R199). -/
def infoBit (bs : List Byte) (j : Nat) : Bool := bitOf (bs.getD (j / 8) 0).toNat (7 - j % 8)

/-- Invert the sign of a 4-bit LLR where the XOR bit is 1 (R273). -/
def priorNibble (l : Nat) (x : Bool) : Nat := if x then Nat.xor l 8 else l

/-- The prior for MISS from OTHER's a posteriori LLRs and the XOR of the other members' information parts (R273). -/
def priorOf (info llr : List Byte) : List Byte :=
  (List.range 16672).map (fun k =>
    let b := (llr.getD k 0).toNat
    BitVec.ofNat 8 (priorNibble (b % 16) (infoBit info (2 * k)) + 16 * priorNibble (b / 16) (infoBit info (2 * k + 1))))

/-- PRIOR (R273). -/
def folPrior (d : List Byte) (s : State) : State :=
  match s.folXor d ((List.range 17).filter (fun i => decide (i ≠ folMiss d) && decide (i ≠ folOther d))) with
  | (.error i, s) => s.folDone d folBusErr i
  | (.ok (x, m), s) =>
    match s.physRead 12 (fieldLe d 24 8) 16672 with
    | (none, s) => s.folDone d folBusErr (folOther d)
    | (some llr, s) =>
      match s.physWrite 12 (fieldLe d 16 8) (priorOf (x ++ m) llr) with
      | (false, s) => s.folDone d folBusErr (folMiss d)
      | (true, s) => (s.folCount 3).folDone d folGood 0

def execFolioPrior (s : State) : Host.Outcome State Fault Refusal := .next (folRow 3 folPrior s)

end Sys2Proof.Machine
end

