-- ==== Sys2Proof/Machine/Catalogue.lean ====
section
/-!
DEFINITION. The Catalogue (file 09, R261-R287): zone and band tables, Shelfmark chains, lookups, the map journal and Rebinding.
-/

namespace Sys2Proof.Machine

/-- Statuses of a completion (file 09). -/
def catDone : Nat := 0
def catMore : Nat := 1
def catChainFull : Nat := 2
def catBadReq : Nat := 3
def catBusErr : Nat := 4
def catJournalFull : Nat := 5

/-- What a request answers: status, run count, bytes 8-15 of the completion. -/
structure CatRes where
  status : Nat
  runs : Nat
  value : Nat
  deriving DecidableEq, Repr

abbrev CatOut : Type := CatRes × State

/-- An answer with a status alone. -/
def catEnd (status : Nat) (s : State) : CatOut := (⟨status, 0, 0⟩, s)

/-- Go on with the bytes of a table read; a failed read completes BUS_ERR. -/
def catWith (r : Option (List Byte) × State) (k : List Byte → State → CatOut) : CatOut :=
  match r with
  | (some b, s) => k b s
  | (none, s) => catEnd catBusErr s

/-- A table write of the Catalogue (class 11). -/
def State.catWrite (s : State) (a : Nat) (bs : List Byte) : State := (s.physWrite 11 a bs).2

/-! ### Tables (R263, R266, R276) -/

def State.zoneAt (s : State) (z : Nat) : Nat := s.num64 ZT_BASE_LO ZT_BASE_HI + 32 * z
def State.bandAt (s : State) (b : Nat) : Nat := s.num64 BT_BASE_LO BT_BASE_HI + 32 * b
def State.markAt (s : State) (i : Nat) : Nat := s.num64 SM_BASE_LO SM_BASE_HI + 32 * i

def noIndex : Nat := 0xFFFFFFFF

/-! Fields of a zone entry (R263). -/
def zeSeq (e : List Byte) : Bool := bitOf (fieldLe e 2 1) 0
def zeRb (e : List Byte) : Bool := bitOf (fieldLe e 2 1) 1
def zeBwp (e : List Byte) : Nat := fieldLe e 8 4
def zeBand (e : List Byte) : Nat := fieldLe e 12 4
def zeChain (e : List Byte) : Nat := fieldLe e 16 4
def zeLen (e : List Byte) : Nat := fieldLe e 20 2

/-- A zone entry with FLAGS.RB set or cleared. -/
def zeSetRb (e : List Byte) (b : Bool) : List Byte :=
  let f := fieldLe e 2 1
  overlay e 2 (toLe 1 (if b then setBitN f 1 else clrBitN f 1))

/-- A zone entry with another chain. -/
def zeSetChain (e : List Byte) (head len : Nat) : List Byte := overlay e 16 (toLe 4 head ++ toLe 2 len)

/-! Fields of a band entry (R266). -/
def beBase (e : List Byte) : Nat := fieldLe e 0 8
def beSpt (e : List Byte) : Nat := fieldLe e 8 2
def beTracks (e : List Byte) : Nat := fieldLe e 10 2
def beState (e : List Byte) : Nat := fieldLe e 13 1
def beSkips (e : List Byte) : Nat := fieldLe e 14 2
def beSlip (e : List Byte) : Nat := fieldLe e 16 8
def beZone (e : List Byte) : Nat := fieldLe e 24 4

/-- A band entry with another STATE and bound zone. -/
def beSetState (e : List Byte) (st zone : Nat) : List Byte := overlay (overlay e 13 (toLe 1 st)) 24 (toLe 4 zone)

/-! Fields of a Shelfmark (R276). -/
def smCount (e : List Byte) : Nat := bitsOf (fieldLe e 0 8) 63 48 + 1
def smFirst (e : List Byte) : Nat := bitsOf (fieldLe e 0 8) 34 0
def smPloc (e : List Byte) : Nat := fieldLe e 8 8
def smKind (e : List Byte) : Nat := bitsOf (fieldLe e 8 8) 3 0
def smNext (e : List Byte) : Nat := fieldLe e 16 4
def smSeq (e : List Byte) : Nat := fieldLe e 24 8

/-- A zone's chain, newest first, at most `fuel` entries: (pool index, entry). -/
def State.chain : Nat → Nat → State → Option (List (Nat × List Byte)) × State
  | 0, _, s => (some [], s)
  | fuel + 1, i, s =>
    if s.num SM_TOTAL ≤ i then (some [], s)
    else
      match s.physRead 11 (s.markAt i) 32 with
      | (none, s) => (none, s)
      | (some e, s) =>
        match State.chain fuel (smNext e) s with
        | (none, s) => (none, s)
        | (some t, s) => (some ((i, e) :: t), s)

/-- Go on with a zone's chain; a failed read completes BUS_ERR. -/
def withChain (ze : List Byte) (s : State) (k : List (Nat × List Byte) → State → CatOut) : CatOut :=
  match State.chain (zeLen ze) (zeChain ze) s with
  | (some c, s) => k c s
  | (none, s) => catEnd catBusErr s

/-! ### The map journal (R279) -/

/-- Records of the map journal ring: 2^LEN for 10-17, else 2^10. -/
def State.mjLen (s : State) : Nat :=
  let l := s.get MJ_CFG_LEN
  2 ^ (if 10 ≤ l ∧ l ≤ 17 then l else 10)

/-- Records between MJ_TAIL and MJ_HEAD. -/
def State.mjUsed (s : State) : Nat := ringUsed s.mjLen (s.num MJ_HEAD) (s.num MJ_TAIL)

def State.mjFull (s : State) : Bool := decide (s.mjLen - 1 ≤ s.mjUsed)

/-- The sequence number in force (R278). -/
def State.mapSeq (s : State) : Nat := s.num64 MAPSEQ_LO MAPSEQ_HI

/-- Whether the ring has room for `n` more records. -/
def State.mjRoom (s : State) (n : Nat) : Bool := decide (s.mjUsed + n ≤ s.mjLen - 1)

/-- Append a record to the map journal ring. -/
def State.journal (s : State) (req : List Byte) (seq : Nat) : State :=
  let h := s.num MJ_HEAD % s.mjLen
  let s := s.catWrite (s.num64 MJ_BASE_LO MJ_BASE_HI + 32 * h) (slice (Config.journalRecord req seq) 0 32)
  s.setNum MJ_HEAD ((h + 1) % s.mjLen)

/-- The state with SM_FREE at the length of the free list. -/
def State.setFree (s : State) (l : List Nat) : State := { s.setNum SM_FREE l.length with smFree := l }

/-! ### Lookups (R265, R267, R277) -/

/-- The position before slips of data sector i (R265). -/
def dataPos (seq : Bool) (i : Nat) : Nat := if seq then 17 * (i / 16) + i % 16 else i

/-- R267's `slip`: one pass over the ascending slip list. -/
def slipPos (q : Nat) (list : List Nat) : Nat :=
  (list.foldl (fun (acc : Nat × Bool) k => if acc.2 && decide (k ≤ acc.1) then (acc.1 + 1, true) else (acc.1, false)) (q, true)).1

/-- Where a block lies: KIND and the position's PAW with KIND in [3:0], and for a position whether it ends its track. -/
structure BlkLoc where
  kind : Nat
  ploc : Nat
  mark : Nat
  pos : Nat
  lastOfTrack : Bool
  deriving DecidableEq, Repr

/-- PAW layout with a track and sector (R201, R276). -/
def plocOf (base track sector kind : Nat) : Nat :=
  (bitsOf base 63 40 + track) % 2 ^ 24 * 2 ^ 40 + bitsOf base 39 35 * 2 ^ 35 + sector % 2048 * 2 ^ 24 + kind

/-- A band position as a location (R265-R267). -/
def bandLoc (be : List Byte) (slips : List Nat) (q : Nat) : BlkLoc :=
  let p := slipPos q slips
  let spt := beSpt be
  ⟨0, plocOf (beBase be) (p / spt) (p % spt) 0, noIndex, p, decide (p % spt + 1 = spt)⟩

/-- The position `k` after a track and sector on one head (R276): consecutive positions go on, past the last sector of a track, at sector 0 of the
next one. `n` bounds the tracks passed. -/
def stepTracks (spt : Nat → Nat) : Nat → Nat → Nat → Nat × Nat
  | 0, t, q => (t, q)
  | n + 1, t, q => if q < spt t then (t, q) else stepTracks spt n (t + 1) (q - spt t)

/-- Where block k of a media-cache run lies (R276): its track and sector, and whether it ends its track. -/
def cacheLoc (spt : Nat → Nat → Nat) (e : List Byte) (i k : Nat) : BlkLoc :=
  let head := bitsOf (smPloc e) 39 35
  let p := stepTracks (spt head) (k + 1) (bitsOf (smPloc e) 63 40) (bitsOf (smPloc e) 34 24 + k)
  ⟨1, plocOf (bitsOf (smPloc e) 39 35 * 2 ^ 35) p.1 p.2 1, i, k, decide (p.2 + 1 = spt head p.1)⟩

/-- Where block `x` (a DLBA) of a zone lies (R277); `spt` gives the sectors of a head's track. -/
def resolve (spt : Nat → Nat → Nat) (ze be : List Byte) (slips : List Nat) (chain : List (Nat × List Byte)) (x : Nat) : BlkLoc :=
  let hit := chain.find? (fun c => decide (smFirst c.2 ≤ x) && decide (x < smFirst c.2 + smCount c.2))
  match hit with
  | some (i, e) =>
    if smKind e = 3 then ⟨3, 3, noIndex, 0, false⟩
    else cacheLoc spt e i (x - smFirst e)
  | none =>
    let i := x % 65536
    if i < zeBwp ze then bandLoc be slips (dataPos (zeSeq ze) i) else ⟨2, 2, noIndex, 0, false⟩

/-- Whether a block continues the run that ends with `a` (R277): the same KIND and, for a position, the next one of the same track, in the
media cache of the same Shelfmark. -/
def continues (a b : BlkLoc) : Bool :=
  decide (a.kind = b.kind) && (decide (2 ≤ a.kind) || (decide (a.mark = b.mark) && decide (b.pos = a.pos + 1) && !a.lastOfTrack))

/-- A run being built: PLOC of its first block, its length, its first DLBA, the location of its last block. -/
structure Run where
  ploc : Nat
  count : Nat
  first : Nat
  last : BlkLoc
  deriving DecidableEq, Repr

/-- The 16 bytes of a run (R277). -/
def runBytes (r : Run) : List Byte := toLe 8 r.ploc ++ toLe 8 (r.count * 2 ^ 48 + r.first % 2 ^ 35)

/-- Take block `x` into the runs built, newest first; a block that would begin a run past the capacity stops. -/
def takeBlock (cap : Nat) (loc : Nat → BlkLoc) (acc : List Run × Option Nat) (x : Nat) : List Run × Option Nat :=
  match acc.2 with
  | some _ => acc
  | none =>
    let b := loc x
    match acc.1 with
    | r :: t =>
      if continues r.last b && decide (r.count < 65535) && decide (x % 65536 ≠ 0) then ({ r with count := r.count + 1, last := b } :: t, none)
      else if cap ≤ t.length + 1 then (acc.1, some x)
      else (⟨b.ploc, 1, x, b⟩ :: acc.1, none)
    | [] => if cap = 0 then ([], some x) else ([⟨b.ploc, 1, x, b⟩], none)

/-- What the Catalogue reads of a zone to resolve its blocks: its entry, its band's entry, the slip list and the chain. -/
structure ZoneInfo where
  ze : List Byte
  be : List Byte
  slips : List Nat
  chain : List (Nat × List Byte)
  deriving DecidableEq, Repr

/-- Read a zone's band and slip list, which only a zone with data sectors in its band needs. -/
def State.bandInfo (s : State) (ze : List Byte) (c : List (Nat × List Byte)) : Option ZoneInfo × State :=
  if zeBwp ze = 0 then (some ⟨ze, [], [], c⟩, s)
  else
    match s.physRead 11 (s.bandAt (zeBand ze)) 32 with
    | (none, s) => (none, s)
    | (some be, s) =>
      if beSkips be = 0 then (some ⟨ze, be, [], c⟩, s)
      else
        match s.physRead 11 (beSlip be) (4 * beSkips be) with
        | (none, s) => (none, s)
        | (some sl, s) => (some ⟨ze, be, (wordsOf (beSkips be) sl).map BitVec.toNat, c⟩, s)

/-- Read what resolving a zone's blocks needs; none where a table read fails. -/
def State.zoneInfo (s : State) (z : Nat) : Option ZoneInfo × State :=
  match s.physRead 11 (s.zoneAt z) 32 with
  | (none, s) => (none, s)
  | (some ze, s) =>
    match State.chain (zeLen ze) (zeChain ze) s with
    | (none, s) => (none, s)
    | (some c, s) => s.bandInfo ze c

/-- Sectors of a head's data track (R266, R292): what the accepted format tables give, 1 to 2,048. -/
def State.trackSpt (s : State) (head track : Nat) : Nat :=
  Config.trackSectors (match s.img with | some i => i.fmtDigest | none => []) head track % 2048 + 1

/-- Where block `x` of a zone lies, by what the Catalogue has read of it (R277). -/
def State.locate (s : State) (i : ZoneInfo) (x : Nat) : BlkLoc := resolve s.trackSpt i.ze i.be i.slips i.chain x

/-- Resolve the blocks [lo, hi) that lie in `n` zones from zone z on into runs, newest first. -/
def lookupZones (lo hi cap : Nat) : Nat → Nat → List Run × Option Nat → State → Option (List Run × Option Nat) × State
  | 0, _, acc, s => (some acc, s)
  | n + 1, z, acc, s =>
    match s.zoneInfo z with
    | (none, s) => (none, s)
    | (some i, s) =>
      let first := max lo (65536 * z)
      let blocks := (List.range (min hi (65536 * (z + 1)) - first)).map (fun k => first + k)
      lookupZones lo hi cap n (z + 1) (blocks.foldl (takeBlock cap (s.locate i)) acc) s

/-! ### Requests -/

/-- The fields of a request (file 09). -/
def rqOp (r : List Byte) : Nat := fieldLe r 0 1
def rqDlba (r : List Byte) : Nat := fieldLe r 8 8
def rqCount (r : List Byte) : Nat := fieldLe r 16 4
def rqOut (r : List Byte) : Nat := fieldLe r 20 8
def rqArg (r : List Byte) : Nat := fieldLe r 28 4
def rqZone (r : List Byte) : Nat := rqDlba r / 65536

/-- Write runs at OUT and answer how many there are. -/
def putRuns (r : List Byte) (runs : List Run) (stop : Option Nat) (s : State) : CatOut :=
  match s.physWrite 11 (rqOut r) (runs.map runBytes).flatten with
  | (false, s) => catEnd catBusErr s
  | (true, s) =>
    match stop with
    | none => (⟨catDone, runs.length, 0⟩, s)
    | some x => (⟨catMore, runs.length, x⟩, s)

/-- LOOKUP of the members of the Folio that holds DLBA (R275, R277): 17 one-block runs. The DLBA field of the parity sector's
run is free: the manual gives it none. -/
def folioLookup (r : List Byte) (cap : Nat) (s : State) : CatOut :=
  match s.zoneInfo (rqZone r) with
  | (none, s) => catEnd catBusErr s
  | (some i, s) =>
    if zeSeq i.ze = false then catEnd catBadReq s
    else
      let f := rqDlba r % 65536 / 16
      let base := rqDlba r / 65536 * 65536 + 16 * f
      let members := (List.range 16).map (fun k =>
        let b := s.locate i (base + k)
        (⟨b.ploc, 1, base + k, b⟩ : Run))
      let p := if 16 * f + 15 < zeBwp i.ze then bandLoc i.be i.slips (17 * f + 16) else ⟨2, 2, noIndex, 0, false⟩
      let (d, s) := s.draw 27
      let runs := members ++ [⟨p.ploc, 1, d, p⟩]
      if cap < 17 then putRuns r (runs.take cap) (some (base + cap)) s else putRuns r runs none s

/-- LOOKUP (R277). -/
def doLookup (r : List Byte) (s : State) : CatOut :=
  let cap := bitsOf (rqArg r) 15 0
  let lo := rqDlba r
  let hi := lo + rqCount r
  if bitOf (rqArg r) 31 then
    if s.num ZONES ≤ rqZone r then catEnd catBadReq s else folioLookup r cap s
  else if 65536 * s.num ZONES < hi then catEnd catBadReq s
  else
    match lookupZones lo hi cap ((hi + 65535) / 65536 - lo / 65536) (lo / 65536) ([], none) s with
    | (none, s) => catEnd catBusErr s
    | (some (runs, stop), s) => putRuns r runs.reverse stop s

/-- Whether SM_ADD accepts a Shelfmark image (R276): KIND MCACHE, or DEALLOC in a conventional zone, within one zone. -/
def smOk (e ze : List Byte) : Bool :=
  (decide (smKind e = 1) || (decide (smKind e = 3) && !zeSeq ze)) &&
    decide (smFirst e / 65536 = (smFirst e + smCount e - 1) / 65536)

/-- Add a Shelfmark image at the head of its zone's chain (R276, R278, R279). -/
def addMark (r e : List Byte) (s : State) : CatOut :=
  let z := smFirst e / 65536
  if s.num ZONES ≤ z then catEnd catBadReq s
  else
    catWith (s.physRead 11 (s.zoneAt z) 32) (fun ze s =>
      if smOk e ze = false then catEnd catBadReq s
      else if s.get CAT_CTL_CHAIN_LIM ≤ zeLen ze then catEnd catChainFull s
      else
        match s.smFree with
        | [] => catEnd catChainFull s
        | i :: rest =>
          if s.mjFull then catEnd catJournalFull s
          else
            let s := s.add64 MAPSEQ_LO MAPSEQ_HI 1
            let seq := s.mapSeq
            let img := slice e 0 16 ++ toLe 4 (zeChain ze) ++ toLe 4 0 ++ toLe 8 seq
            let s := (s.catWrite (s.markAt i) img).setFree rest
            let s := s.catWrite (s.zoneAt z) (zeSetChain ze i (zeLen ze + 1))
            (⟨catDone, 0, seq⟩, s.journal (r ++ e) seq))

/-- SM_ADD (R276, R278, R279). -/
def doSmAdd (r : List Byte) (s : State) : CatOut := catWith (s.physRead 11 (rqOut r) 32) (fun e s => addMark r e s)

/-- Take an entry out of a chain, whose other entries keep their order: the entry before it, or the zone, names the next. -/
def State.unchain (s : State) (z : Nat) (ze : List Byte) (before : Option (Nat × List Byte)) (e : List Byte) : State :=
  match before with
  | none => s.catWrite (s.zoneAt z) (zeSetChain ze (smNext e) (zeLen ze - 1))
  | some (j, p) =>
    let s := s.catWrite (s.markAt j) (overlay p 16 (toLe 4 (smNext e)))
    s.catWrite (s.zoneAt z) (zeSetChain ze (zeChain ze) (zeLen ze - 1))

/-- The entry with pool index i in a chain, with the entry before it. -/
def findMark (i : Nat) : Option (Nat × List Byte) → List (Nat × List Byte) → Option (Option (Nat × List Byte) × List Byte)
  | _, [] => none
  | prev, (j, e) :: t => if j = i then some (prev, e) else findMark i (some (j, e)) t

/-- SM_DROP (R279): the Shelfmark leaves its chain and its entry is free. -/
def doSmDrop (r : List Byte) (s : State) : CatOut :=
  let z := rqZone r
  if s.num ZONES ≤ z then catEnd catBadReq s
  else
    catWith (s.physRead 11 (s.zoneAt z) 32) (fun ze s =>
      withChain ze s (fun c s =>
        match findMark (rqArg r) none c with
        | none => catEnd catBadReq s
        | some (before, e) =>
          if s.mjFull then catEnd catJournalFull s
          else
            let s := (s.unchain z ze before e).setFree (s.smFree ++ [rqArg r])
            catEnd catDone (s.journal r s.mapSeq)))

/-- Replace a zone's entry by an image; CHAIN and CHAIN_LEN are kept (file 09). -/
def putZone (r e : List Byte) (s : State) : CatOut :=
  let z := rqZone r
  catWith (s.physRead 11 (s.zoneAt z) 32) (fun ze s =>
    if s.mjFull then catEnd catJournalFull s
    else
      let s := s.catWrite (s.zoneAt z) (zeSetChain e (zeChain ze) (zeLen ze))
      catEnd catDone (s.journal (r ++ e) s.mapSeq))

/-- ZONE_SET (file 09). -/
def doZoneSet (r : List Byte) (s : State) : CatOut :=
  if s.num ZONES ≤ rqZone r then catEnd catBadReq s
  else catWith (s.physRead 11 (rqOut r) 32) (fun e s => putZone r e s)

/-- The positions a band needs (R265): those of its bound zone's kind; a band that is not Bound those of a conventional zone. -/
def State.bandNeeds (s : State) (e : List Byte) : Option Nat × State :=
  if beState e = 1 ∧ beZone e < s.num ZONES then
    match s.physRead 11 (s.zoneAt (beZone e)) 32 with
    | (none, s) => (none, s)
    | (some ze, s) => (some (if zeSeq ze then 69632 else 65536), s)
  else (some 65536, s)

/-- Replace a band's entry by an image: refused where the positions needed and the slips do not fit (R266). -/
def putBand (r e : List Byte) (s : State) : CatOut :=
  match s.bandNeeds e with
  | (none, s) => catEnd catBusErr s
  | (some need, s) =>
    if beSpt e * beTracks e < need + beSkips e then catEnd catBadReq s
    else if s.mjFull then catEnd catJournalFull s
    else
      let s := s.catWrite (s.bandAt (rqArg r)) e
      catEnd catDone (s.journal (r ++ e) s.mapSeq)

/-- BAND_SET (R266). -/
def doBandSet (r : List Byte) (s : State) : CatOut :=
  if s.num BANDS ≤ rqArg r then catEnd catBadReq s
  else catWith (s.physRead 11 (rqOut r) 32) (fun e s => putBand r e s)

/-! ### Resets of zones (R264) -/

/-- A zone's entry and chain as a reset leaves them (R264): WP and BWP 0, the whole chain dropped; a sequential-write zone is Empty. -/
def State.zoneClear (s : State) (z : Nat) : State :=
  match s.physRead 11 (s.zoneAt z) 32 with
  | (none, s) => s
  | (some ze, s) =>
    let s := match State.chain (zeLen ze) (zeChain ze) s with
      | (some l, s) => s.setFree (s.smFree ++ l.map (fun (e : Nat × List Byte) => e.1))
      | (none, s) => s
    let st := if zeSeq ze then toLe 1 0x10 else slice ze 0 1
    s.catWrite (s.zoneAt z) (overlay (overlay (zeSetChain ze noIndex 0) 0 st) 4 (List.replicate 8 0))

/-! ### Rebinding (R282-R287) -/

/-- Where slot k lies in the NV store (R282, R465). -/
def slotAt (k : Nat) : Nat := 0x1C000 + 64 * k

def State.slot (s : State) (k : Nat) : List Byte := s.nvsBytes (slotAt k) 64

def slState (b : List Byte) : Nat := fieldLe b 0 4
def slKind (b : List Byte) : Nat := fieldLe b 4 1
def slZone (b : List Byte) : Nat := fieldLe b 8 4
def slOld (b : List Byte) : Nat := fieldLe b 12 4
def slNew (b : List Byte) : Nat := fieldLe b 16 4
def slSnap (b : List Byte) : Nat := fieldLe b 20 8
def slProgress (b : List Byte) : Nat := fieldLe b 28 4

/-- RB_STAT of a slot shows its STATE and ZONE (file 09). -/
def State.slotStat (s : State) (k : Nat) : State :=
  let b := s.slot k
  (s.put (RB_STAT_STATE k) (slState b)).put (RB_STAT_ZONE k) (slZone b)

/-- Write a slot, the STATE word last and on its own (R282). -/
def State.slotWrite (s : State) (k : Nat) (b : List Byte) : State :=
  ((s.nvsWrite (slotAt k + 4) (slice b 4 60)).nvsWrite (slotAt k) (slice b 0 4)).slotStat k

/-- Change a band's STATE and zone. -/
def State.setBand (s : State) (b st zone : Nat) : State :=
  match s.physRead 11 (s.bandAt b) 32 with
  | (some e, s) => s.catWrite (s.bandAt b) (beSetState e st zone)
  | (none, s) => s

/-- Drop every Shelfmark of a chain whose SEQ is at most SNAP (R284): the others keep their order. -/
def State.dropOld (s : State) (z snap : Nat) (ze : List Byte) (c : List (Nat × List Byte)) : State :=
  let keep := c.filter (fun e => decide (snap < smSeq e.2))
  let gone := c.filter (fun e => decide (smSeq e.2 ≤ snap))
  let nexts := keep.drop 1 |>.map (fun e => e.1)
  let s := (List.zip keep (nexts ++ [noIndex])).foldl (fun s p =>
    s.catWrite (s.markAt p.1.1) (overlay p.1.2 16 (toLe 4 p.2))) s
  let head := match keep with
    | e :: _ => e.1
    | [] => noIndex
  (s.catWrite (s.zoneAt z) (zeSetChain ze head keep.length)).setFree (s.smFree ++ gone.map (fun e => e.1))

/-- R284's steps 2 to 5 with a slot's contents `b`, which the replay of R287 carries out again. -/
def State.switchSteps (s : State) (b req : List Byte) : Option State × State :=
  let z := slZone b
  match s.physRead 11 (s.zoneAt z) 32 with
  | (none, s) => (none, s)
  | (some ze, s) =>
    match State.chain (zeLen ze) (zeChain ze) s with
    | (none, s) => (none, s)
    | (some c, s) =>
      let ze := zeSetRb (overlay ze 8 (toLe 4 (slProgress b) ++ toLe 4 (slNew b))) false
      let s := s.dropOld z (slSnap b) ze c
      let s := (s.setBand (slOld b) 0 noIndex).setBand (slNew b) 1 z
      let s := s.journal (req ++ b) s.mapSeq
      (some s, s)

/-- SWITCH (R284): the commit point is the STATE word of the slot. -/
def doSwitch (r : List Byte) (s : State) : CatOut :=
  let k := rqArg r
  if 4 ≤ k then catEnd catBadReq s
  else
    let b := s.slot k
    if slState b ≠ 2 ∨ s.num ZONES ≤ slZone b then catEnd catBadReq s
    else
      catWith (s.physRead 11 (s.zoneAt (slZone b)) 32) (fun ze s =>
        if slProgress b ≠ (if slKind b = 1 then 65536 else zeBwp ze) then catEnd catBadReq s
        else if s.mjFull then catEnd catJournalFull s
        else
          let s := s.add64 MAPSEQ_LO MAPSEQ_HI 1
          let seq := s.mapSeq
          let s := s.slotWrite k (overlay b 0 (toLe 4 3))
          match s.switchSteps (s.slot k) r with
          | (some s, _) => (⟨catDone, 0, seq⟩, s)
          | (none, s) => catEnd catBusErr s)

/-- Set FLAGS.RB of a zone. -/
def State.setRb (s : State) (z : Nat) (v : Bool) : State :=
  match s.physRead 11 (s.zoneAt z) 32 with
  | (some ze, s) => s.catWrite (s.zoneAt z) (zeSetRb ze v)
  | (none, s) => s

/-- PROGRESS as R282 has it: up to 65,536, a multiple of 256 or what a copy ends with. -/
def progressOk (b ze : List Byte) (p : Nat) : Bool :=
  decide (p ≤ 65536) && (decide (p % 256 = 0) || decide (p = if slKind b = 1 then 65536 else zeBwp ze))

/-- A Rebinding is discarded (R283): FLAGS.RB clears, and NEW returns to Spare. -/
def State.slotDiscard (s : State) (b : List Byte) : State := (s.setRb (slZone b) false).setBand (slNew b) 0 noIndex

/-- RB_SET of a transition R283 shows: Prepare takes OLD and SNAP and sets FLAGS.RB; Copying takes PROGRESS; Free discards or
releases. -/
def doRbSet (r : List Byte) (s : State) : CatOut :=
  let k := rqArg r
  if 4 ≤ k then catEnd catBadReq s
  else
    catWith (s.physRead 11 (rqOut r) 64) (fun img s =>
      let b := s.slot k
      match slState b, slState img with
      | 0, 1 =>
        if s.num ZONES ≤ slZone img then catEnd catBadReq s
        else
          catWith (s.physRead 11 (s.zoneAt (slZone img)) 32) (fun ze s =>
            if zeRb ze then catEnd catBadReq s
            else if s.mjFull then catEnd catJournalFull s
            else
              let img := overlay (overlay img 12 (toLe 4 (zeBand ze))) 20 (toLe 8 s.mapSeq)
              let s := s.slotWrite k img
              let s := s.catWrite (s.zoneAt (slZone img)) (zeSetRb ze true)
              catEnd catDone (s.journal (r ++ img) s.mapSeq))
      | 1, 2 | 2, 2 =>
        catWith (s.physRead 11 (s.zoneAt (slZone b)) 32) (fun ze s =>
          if (slState b = 2 ∧ slProgress img ≤ slProgress b) ∨ progressOk b ze (slProgress img) = false then catEnd catBadReq s
          else catEnd catDone (s.slotWrite k (overlay (overlay b 28 (slice img 28 4)) 0 (toLe 4 2))))
      | 3, 0 => catEnd catDone (s.slotWrite k (overlay b 0 (toLe 4 0)))
      | 1, 0 | 2, 0 =>
        if s.mjFull then catEnd catJournalFull s
        else
          let b := overlay b 0 (toLe 4 0)
          catEnd catDone (((s.slotWrite k b).slotDiscard b).journal (r ++ b) s.mapSeq)
      | _, _ => catEnd catBadReq s)

/-! ### The rings -/

/-- Write a completion (file 09): 32 bytes at RC_HEAD, which advances, the fault bit of its status, and event 76. -/
def State.catComplete (s : State) (r : List Byte) (a : CatRes) : State :=
  let len := ringLen (s.get RC_CFG_LEN)
  let h := s.num RC_HEAD % len
  let bytes := slice r 4 4 ++ toLe 2 a.status ++ toLe 2 a.runs ++ toLe 8 a.value ++ List.replicate 16 0
  let s := s.hsWrite (64 * s.get RC_CFG_BASE + 32 * h) bytes
  let s := if a.status = catChainFull then s.noteBit catErr 0
    else if a.status = catBadReq then s.noteBit catErr 1
    else if a.status = catBusErr then s.noteBit catErr 2
    else if a.status = catJournalFull then s.noteBit catErr 3
    else s
  (s.setNum RC_HEAD ((h + 1) % len)).raise 76

/-- The request the Catalogue carries out next: EN, no replay, one waits, and the completion ring has room. -/
def State.catNext (s : State) : Option (List Byte × State) :=
  let len := ringLen (s.get RQ_CFG_LEN)
  let clen := ringLen (s.get RC_CFG_LEN)
  if s.flag CAT_CTL_EN && !(s.flag CAT_STAT_REPLAY) && decide (ringUsed len (s.num RQ_HEAD) (s.num RQ_TAIL) ≠ 0) &&
      decide (ringUsed clen (s.num RC_HEAD) (s.num RC_TAIL) < clen - 1) then
    let t := s.num RQ_TAIL % len
    some (s.hsBytes (64 * s.get RQ_CFG_BASE + 32 * t) 32, s.setNum RQ_TAIL ((t + 1) % len))
  else none

/-- Carry out the request at the front of the ring if it is one of OP `op`; an OP the table lacks completes BAD_REQ. -/
def catRow (op : Nat) (work : List Byte → State → CatOut) (s : State) : State :=
  match s.catNext with
  | none => s
  | some (r, s') =>
    if rqOp r = op then
      let o := work r s'
      o.2.catComplete r o.1
    else if rqOp r = 0 ∨ 7 < rqOp r then s'.catComplete r ⟨catBadReq, 0, 0⟩
    else s

def execCatLookup (s : State) : Host.Outcome State Fault Refusal := .next (catRow 1 doLookup s)
def execSmAdd (s : State) : Host.Outcome State Fault Refusal := .next (catRow 2 doSmAdd s)
def execSmDrop (s : State) : Host.Outcome State Fault Refusal := .next (catRow 3 doSmDrop s)
def execBandSet (s : State) : Host.Outcome State Fault Refusal := .next (catRow 5 doBandSet s)
def execRbSwitch (s : State) : Host.Outcome State Fault Refusal := .next (catRow 6 doSwitch s)
def execRbSet (s : State) : Host.Outcome State Fault Refusal := .next (catRow 7 doRbSet s)

/-! ### Enabling (R287) -/

/-- The pool entries that some zone's chain holds. -/
def State.usedMarks : Nat → State → List Nat → List Nat × State
  | 0, s, acc => (acc, s)
  | n + 1, s, acc =>
    match s.physRead 11 (s.zoneAt n) 32 with
    | (none, s) => State.usedMarks n s acc
    | (some ze, s) =>
      match State.chain (zeLen ze) (zeChain ze) s with
      | (none, s) => State.usedMarks n s acc
      | (some c, s) => State.usedMarks n s (c.foldl (fun l e => insertN e.1 l) acc)

/-- CAT_CTL.EN from 0 to 1 (R287): the free list holds the entries no chain holds, and R284 is carried out again for each
Committed slot before the first request. -/
def catEnable (s : State) : State :=
  if s.flag CAT_CTL_EN then s
  else
    let s := s.put CAT_CTL_EN 1
    let (used, s) := State.usedMarks (s.num ZONES) s []
    let s := s.setFree ((List.range (s.num SM_TOTAL)).filter (fun i => !(used.contains i)))
    (List.range 4).foldl (fun s k =>
      let s := s.slotStat k
      if slState (s.slot k) = 3 then
        match s.switchSteps (s.slot k) (toLe 8 6 ++ List.replicate 20 0 ++ toLe 4 k) with
        | (some s, _) => s
        | (none, s) => s.noteBit catErr 2
      else s) s

def execCatalogueEnable (s : State) : Host.Outcome State Fault Refusal := .next (s.access 0 catEnable)

end Sys2Proof.Machine
end

