-- ==== Sys2Proof/Machine/Fixed.lean ====
section
/-!
DEFINITION. Exact arithmetic within one wedge's computation and the rounding of what it stores (R134), and the constants and functions the derivations of R135 take: π, √2, the tangent, and decibels.
-/

namespace Sys2Proof.Machine

/-- Round to nearest, ties away from zero (R125, R134). -/
def rnd (q : Rat) : Int := if 0 ≤ q then (q + 1 / 2).floor else -((-q + 1 / 2).floor)

/-- A value stored in an `n`-bit signed format with `frac` fractional bits: rounded, saturated (R134). -/
def fix (n frac : Nat) (q : Rat) : Int := clampS n (rnd (q * mkRat (2 ^ frac) 1))

/-- The value a stored number stands for. -/
def unfix (frac : Nat) (i : Int) : Rat := mkRat i (2 ^ frac)

/-- A rational clamped to [lo, hi]. -/
def clampQ (lo hi q : Rat) : Rat := if q < lo then lo else if hi < q then hi else q

def absQ (q : Rat) : Rat := if q < 0 then -q else q

/-- A rational cut to 96 fractional bits: the working precision of the functions below (DESIGN CHOICE, log entry 21). -/
def cut (q : Rat) : Rat := mkRat ((q * mkRat (2 ^ 96) 1).floor) (2 ^ 96)

/-- π and √2, to 50 decimal places. -/
def piQ : Rat := mkRat 314159265358979323846264338327950288419716939937511 (10 ^ 50)
def sqrt2Q : Rat := mkRat 141421356237309504880168872420969807856967187537695 (10 ^ 50)

/-- Terms of the series x^k/k! with alternating signs, every second k. -/
def series : Nat → Nat → Rat → Rat → Rat
  | 0, _, _, _ => 0
  | fuel + 1, k, x2, t => t + series fuel (k + 2) x2 (cut (-(t * x2) / ((k + 1) * (k + 2) : Nat)))

def sinQ (x : Rat) : Rat := series 24 1 (cut (x * x)) x
def cosQ (x : Rat) : Rat := series 24 0 (cut (x * x)) 1
/-- The tangent of an angle below π/2. -/
def tanQ (x : Rat) : Rat := cut (sinQ x / cosQ x)

/-- 10^(-d/20): the gain of a notch `d` dB deep. -/
def dbQ : Nat → Rat
  | 0 => 1
  | d + 1 => cut (dbQ d * mkRat 89125093813374552995310868107829696398587478293005 (10 ^ 50))

/-- The integer square root, found bit by bit from bit `k`. -/
def isqrtFrom : Nat → Nat → Nat → Nat
  | 0, n, r => if (r + 1) * (r + 1) ≤ n then r + 1 else r
  | k + 1, n, r => isqrtFrom k n (if (r + 2 ^ (k + 1)) * (r + 2 ^ (k + 1)) ≤ n then r + 2 ^ (k + 1) else r)

/-- The square root of a nonnegative rational, to 64 fractional bits, rounded down. -/
def sqrtQ (q : Rat) : Rat := mkRat (isqrtFrom 160 ((q * mkRat (2 ^ 128) 1).floor.toNat) 0) (2 ^ 64)

end Sys2Proof.Machine
end

