-- ==== Sys2Proof/Machine/LoopLaw.lean ====
section
/-!
DEFINITION. The arithmetic of the loop engine: the derivation of its coefficients (R134-R136), the seek planner (R141), the estimator (R139), and the laws of SETTLE, FOLLOW, SEEK and HOLD (R133, R138, R140, R145, R154).
-/

namespace Sys2Proof.Machine

/-! ### Modes (R131) -/

def mParked : Nat := 0
def mLoading : Nat := 1
def mSeek : Nat := 2
def mSettle : Nat := 3
def mFollow : Nat := 4
def mManual : Nat := 5
def mLost : Nat := 6
def mHold : Nat := 7
def mUnloading : Nat := 8
def mRetracted : Nat := 9

/-- LOOP_STAT.MODE. -/
def State.mode (s : State) (n : Nat) : Nat := s.get (LOOP_STAT_MODE n)

/-- LOOP enters a mode; HOLD_ACTIVE, HOLD_STAT.ACTIVE and CLV_STAT.SRC follow it (R131). -/
def State.setMode (s : State) (n m : Nat) : State :=
  let h := ofBool (decide (m = mHold))
  (((s.put (LOOP_STAT_MODE n) m).put (LOOP_STAT_HOLD_ACTIVE n) h).put (HOLD_STAT_ACTIVE n) h).put (CLV_STAT_SRC n) h

/-! ### Numbers read from registers -/

def State.s824 (s : State) (a : Nat) : Rat := unfix 24 (sx 32 (s.num a))
def State.s230 (s : State) (a : Nat) : Rat := unfix 30 (sx 32 (s.num a))
def State.setS824 (s : State) (a : Nat) (q : Rat) : State := s.setNum a (toBits 32 (fix 32 24 q))
def State.setS230 (s : State) (a : Nat) (q : Rat) : State := s.derivedNum a (toBits 32 (fix 32 30 q))

/-- TARGET in 2^-32 track: TRACK and FRAC of TARGET_LO and TARGET_HI. -/
def State.targetReg (s : State) (n : Nat) : Int :=
  ((s.get (LOOP_TARGET_HI_TRACK n) * 0x10000 + s.get (LOOP_TARGET_LO_TRACK n)) * 0x10000 + s.get (LOOP_TARGET_LO_FRAC n)) * 0x10000

/-- Set TARGET, keeping HEAD. -/
def State.setTarget (s : State) (n : Nat) (t : Int) : State :=
  let v := toBits 40 (roundDiv t 0x10000)
  ((s.put (LOOP_TARGET_LO_FRAC n) (v % 0x10000)).put (LOOP_TARGET_LO_TRACK n) (v / 0x10000 % 0x10000)).put
    (LOOP_TARGET_HI_TRACK n) (v / 0x100000000 % 0x100)

/-! ### Zones and the plant (R123, R135) -/

/-- ZONE_START of a servo zone. -/
def State.zoneStart (s : State) (n z : Nat) : Nat := s.num (ZONE_START n z) % 0x1000000

/-- The servo zone of a position: the entry with the highest START at or below its integer part (R123), the lowest-numbered of equal ones.
A position below track 0 has the zone of track 0, a choice of the model: the manual gives it none (notes/assumptions/20.md). -/
def State.zoneOf (s : State) (n : Nat) (x : Int) : Option Nat :=
  let t := (x / 0x100000000).toNat
  (List.range 64).foldl (fun best z =>
    let a := s.zoneStart n z
    let higher := match best with
      | some b => decide (s.zoneStart n b < a)
      | none => true
    if a ≤ t ∧ a ≠ 0xFFFFFF ∧ higher = true then some z else best) none

/-- The servo track pitch of a zone, U8.8 nm; 0 where there is none. -/
def State.pitchRaw (s : State) (n : Nat) (z : Option Nat) : Nat :=
  match z with
  | some z => s.get (ZONE_PITCH_PITCH n z)
  | none => 0

/-- The nominal wedge period of the SPINDLE record, in seconds (R135). -/
def State.nominalT (s : State) : Rat := mkRat 60 (s.imgNat Image.rpm * s.imgNat Image.wedges)

/-- Acceleration at full-scale current in tracks per wedge² for a plant KV, U16.16 m/s², and a pitch: KV × T² / P (R135). -/
def kvOf (kv : Nat) (t : Rat) (pitch : Nat) : Rat :=
  if pitch = 0 then 0 else mkRat kv 65536 * t * t / (mkRat pitch 256 * mkRat 1 1000000000)

/-- Kv of channel n at a pitch, with the plant in force; with a pitch of 0 it keeps the value it last had (R135, R136). -/
def State.kv (s : State) (n pitch : Nat) : Rat :=
  if pitch = 0 then (s.loopOf n).kv else kvOf (s.loopOf n).plant s.nominalT pitch

/-! ### Derivation of the coefficients (R135, R136) -/

/-- Write a derived coefficient unless an Expert write has overridden it (R136). -/
def State.derived (s : State) (a : Nat) (q : Rat) : State := if s.overrides.contains a then s else s.setS824 a q

/-- KP, KD, KI, KFF_ACC, CPL and KMA for a pitch (R135): a coefficient whose formula has a zero divisor keeps its value. -/
def State.deriveGains (s : State) (n pitch : Nat) : State :=
  let s := s.modLoop n (fun l => { l with kv := s.kv n pitch })
  let t := s.nominalT
  let kv := if pitch = 0 then 0 else (s.loopOf n).kv
  let bw := bitsOf (s.loopOf n).bw (BW_BW_VCM n).hi (BW_BW_VCM n).lo
  let w := 2 * piQ * (bw : Rat) * t
  let kp := w * w / (sqrt2Q * kv)
  let s := if kv = 0 then s else (s.derived (LOOP_KP n) kp).derived (LOOP_KI n) (kp * w / 10)
  let s := if kv = 0 ∨ bw = 0 then s else s.derived (LOOP_KD n) (kp / w)
  let s := if kv = 0 then s else s.derived (LOOP_KFF_ACC n) (1 / kv)
  let km := (s.loopOf n).km
  let cpl := mkRat (km * 16) pitch
  let s := if pitch = 0 then s else s.derived (LOOP_CPL n) cpl
  if pitch = 0 ∨ km = 0 then s else s.derived (LOOP_KMA n) (2 * piQ * (bitsOf (s.loopOf n).bw (BW_BW_MA n).hi (BW_BW_MA n).lo : Rat) * t / cpl)

/-- Set biquad registers b0, b1, b2, a1, a2 from their base address. -/
def State.setBiquad (s : State) (a : Nat) (b0 b1 b2 a1 a2 : Rat) : State :=
  ((((s.setS230 a b0).setS230 (a + 4) b1).setS230 (a + 8) b2).setS230 (a + 12) a1).setS230 (a + 16) a2

/-- A unity biquad: b0 = 1, all others 0. -/
def State.setUnity (s : State) (a : Nat) : State := s.setBiquad a 1 0 0 0 0

/-- VCM biquad i is the notch of NOTCH i (R135), or unity. -/
def State.deriveNotch (s : State) (n i : Nat) : State :=
  let r := s.num (NOTCH n i)
  let f := bitsOf r 31 16
  let depth := bitsOf r 15 8
  let width := max 1 (bitsOf r 7 0)
  let t := s.nominalT
  let a := VCM_BQ_B0 n i
  if depth = 0 ∨ f = 0 ∨ 1 ≤ 2 * (f : Rat) * t ∨ t = 0 then s.setUnity a
  else
    let zp := mkRat width 200
    let zz := zp * dbQ depth
    let c := tanQ (piQ * (f : Rat) * t)
    let den := 1 + 2 * zp * c + c * c
    let b1 := 2 * (c * c - 1) / den
    s.setBiquad a ((1 + 2 * zz * c + c * c) / den) b1 ((1 - 2 * zz * c + c * c) / den) b1 ((1 - 2 * zp * c + c * c) / den)

/-- The profile's fraction of full-scale current and ramp length (R141); 11b acts as 00b. -/
def profile (p : Nat) : Rat × Nat := if p = 1 then (1, 8) else if p = 2 then (mkRat 2 5, 32) else (mkRat 3 4, 16)

/-- LOOP_CYCLES (R137): 640, and 60 for each biquad that is not unity. -/
def State.loopCycles (s : State) (n : Nat) : Nat :=
  let unity := fun a => decide (s.num a = 0x40000000) && (List.range 4).all (fun j => decide (s.num (a + 4 + 4 * j) = 0))
  let bases := (List.range 8).map (VCM_BQ_B0 n) ++ (List.range 4).map (MA_BQ_B0 n) ++ [FF_BQ_B0 n]
  640 + 60 * (bases.filter (fun a => !unity a)).length

/-- Derive every LOOP Expert coefficient (R135, R139), but for those an Expert write has overridden since the Basic write (R11). -/
def State.deriveLoop (s : State) (n : Nat) : State :=
  let s := s.modLoop n (fun l => { l with plant := s.num (PLANT n), km := s.get (PLANT_MA_KM n), bw := s.num (BW n) })
  let s := s.deriveGains n (s.pitchRaw n (s.loopOf n).zone)
  let s := (List.range 4).foldl (fun s i => s.deriveNotch n i) s
  let s := (List.range 4).foldl (fun s i => s.setUnity (VCM_BQ_B0 n (4 + i))) s
  let s := (List.range 4).foldl (fun s i => s.setUnity (MA_BQ_B0 n i)) s
  let s := s.setUnity (FF_BQ_B0 n)
  let s := s.derivedNum (LOOP_JERK_W n) (profile (s.get (SEEK_POLICY_PROFILE n))).2
  let s := (s.derivedNum (LOOP_ALPHA n) 0x20000000).derivedNum (LOOP_BETA n) 0x08000000
  s.setNum (LOOP_CYCLES n) (s.loopCycles n)

/-! ### The seek planner (R141) -/

/-- Time for a change of velocity within the acceleration and jerk limits. -/
def pulseTime (a : Rat) (jw : Nat) (dv : Rat) : Rat :=
  let d := absQ dv
  if a * jw ≤ d then d / a + jw else 2 * sqrtQ (d * jw / a)

/-- The phases (duration, jerk) of a change of velocity: a trapezoid of acceleration, or a triangle with the same jerk. -/
def pulse (a : Rat) (jw : Nat) (dv : Rat) : List (Rat × Rat) :=
  let d := absQ dv
  let sg : Rat := if dv < 0 then -1 else 1
  if a * jw ≤ d then [((jw : Rat), sg * a / jw), (d / a - jw, 0), ((jw : Rat), -(sg * a / jw))]
  else
    let h := pulseTime a jw dv / 2
    if h = 0 then [] else [(h, cut (sg * d / (h * h))), (h, cut (-(sg * d / (h * h))))]

/-- The distance of going from velocity `v` to `p` and then to rest. -/
def travel (a : Rat) (jw : Nat) (v p : Rat) : Rat := (v + p) / 2 * pulseTime a jw (p - v) + p / 2 * pulseTime a jw p

/-- The highest peak velocity in [lo, hi] that fits the distance, by bisection. -/
def peak : Nat → Rat → Nat → Rat → Rat → Rat → Rat → Rat
  | 0, _, _, _, _, lo, _ => lo
  | fuel + 1, a, jw, v, d, lo, hi =>
    let m := cut ((lo + hi) / 2)
    if travel a jw v m ≤ d then peak fuel a jw v d m hi else peak fuel a jw v d lo m

/-- The phases from velocity `v` at or above 0, over distance `d` that it can stop within, to rest. -/
def legs (a : Rat) (jw : Nat) (vmax v d : Rat) : List (Rat × Rat) :=
  let lo := if v ≤ vmax then v else 0
  let p := if travel a jw v vmax ≤ d then vmax else peak 60 a jw v d lo vmax
  let rest := d - travel a jw v p
  pulse a jw (p - v) ++ (if 0 < p ∧ 0 < rest then [(cut (rest / p), 0)] else []) ++ pulse a jw (-p)

/-- The phases of a plan (R141). A start away from the target, or too fast to stop there, is first brought to rest. -/
def Plan.phases (p : Plan) : List (Rat × Rat) :=
  let a := unfix 24 p.aMax
  let dist := unfix 32 (p.target - p.x0)
  let dir : Rat := if dist < 0 then -1 else 1
  let v := unfix 32 p.v0 * dir
  let d := absQ dist
  let vmax : Rat := (p.vMax : Rat)
  let stop := v / 2 * pulseTime a p.jerkW v
  let ph := if v < 0 ∨ d < stop then
      let rest := d - stop
      let back : Rat := if rest < 0 then -1 else 1
      pulse a p.jerkW (-v) ++ (legs a p.jerkW vmax 0 (absQ rest)).map (fun e => (e.1, back * e.2))
    else legs a p.jerkW vmax v d
  ph.map (fun e => (e.1, dir * e.2))

/-- Position, velocity and acceleration after time `k` of a list of phases; none once they have ended. -/
def walk : List (Rat × Rat) → Rat → Rat → Rat → Rat → Option (Rat × Rat × Rat)
  | [], _, _, _, _ => none
  | (t, j) :: rest, k, r, v, a =>
    let τ := if k < t then k else t
    let r' := cut (r + v * τ + a * τ * τ / 2 + j * τ * τ * τ / 6)
    let v' := cut (v + a * τ + j * τ * τ / 2)
    let a' := cut (a + j * τ)
    if k < t then some (r', v', a') else walk rest (k - t) r' v' a'

/-- The seek reference (r, v, a) of wedge `k` of a plan, and whether r has reached the target (R141). -/
def Plan.refAt (p : Plan) (k : Nat) : Rat × Rat × Rat × Bool :=
  match walk p.phases (k : Rat) (unfix 32 p.x0) (unfix 32 p.v0) 0 with
  | some (r, v, a) => (r, v, a, false)
  | none => (unfix 32 p.target, 0, 0, true)

/-- Motor supply of the last good forward frame over VMOT_NOM, at most 1 (R141). -/
def State.vmotRatio (s : State) (n : Nat) : Rat :=
  match (s.loopOf n).fwd with
  | some f => let q := mkRat (f.vmot * 1000) (1024 * s.imgNat Image.vmotNom); if q < 1 then q else 1
  | none => 1

/-- Compute A_MAX at a GO and plan from x̂ and v̂ to the target (R141). `prof` is the profile used: UNLOAD uses Fast (R158). That the seek of an
unload writes A_MAX and honours an override of it, and that it takes JERK_W from the Fast row unless PROFILE is Fast, are choices of the model: the
manual does not say (notes/assumptions/22.md). -/
def State.planSeek (s : State) (n : Nat) (target : Int) (prof : Nat) : State :=
  let l := s.loopOf n
  let kv := s.kv n (s.pitchRaw n (s.zoneOf n target))
  let aCalc := fix 32 24 ((profile prof).1 * kv * s.vmotRatio n)
  let s := if s.overrides.contains (LOOP_A_MAX n) then s else s.setNum (LOOP_A_MAX n) (toBits 32 aCalc)
  let a := sx 32 (s.num (LOOP_A_MAX n))
  let a := if a ≤ 0 then max 1 aCalc else a
  let jw := if prof = s.get (SEEK_POLICY_PROFILE n) then s.num (LOOP_JERK_W n) else (profile prof).2
  s.modLoop n (fun l' => { l' with plan := some ⟨l.x, l.v, target, a, max 1 jw, max 1 (s.get (SEEK_POLICY_VMAX n)), 0⟩ })

/-! ### The laws -/

/-- One biquad (R134): the output and the delays after it. -/
def Biquad.run (b : Biquad) (b0 b1 b2 a1 a2 x : Rat) : Rat × Biquad :=
  let y := b0 * x + b1 * unfix 32 b.x1 + b2 * unfix 32 b.x2 - a1 * unfix 32 b.y1 - a2 * unfix 32 b.y2
  (y, ⟨fix 48 32 x, b.x1, fix 48 32 y, b.y1⟩)

/-- The biquad whose coefficients stand at a register address. -/
def State.runBiquad (s : State) (a : Nat) (b : Biquad) (x : Rat) : Rat × Biquad :=
  b.run (s.s230 a) (s.s230 (a + 4)) (s.s230 (a + 8)) (s.s230 (a + 12)) (s.s230 (a + 16)) x

/-- Biquads in series: addresses with their delays. -/
def State.runSeries (s : State) : List (Nat × Biquad) → Rat → Rat × List Biquad
  | [], x => (x, [])
  | (a, b) :: rest, x =>
    let (y, b') := s.runBiquad a b x
    let (z, bs) := s.runSeries rest y
    (z, b' :: bs)

/-- R51 applies: the vibration, shock and supply inputs are 0 and g_sup is 1. -/
def State.lineFail (s : State) (n : Nat) : Bool := decide (16 ≤ (s.demodOf n).fwdBad)

/-- The supply factor g_sup (R138). -/
def State.gSup (s : State) (n : Nat) : Rat :=
  if s.flag (FF_CFG_SUP_EN n) && !s.lineFail n then
    match (s.loopOf n).fwd with
    | some f =>
      let nom : Rat := mkRat (s.imgNat Image.vmotNom) 1000
      let g := 1 + unfix 15 (sx 16 (s.get (FF_CFG_K_SUP n))) * (nom - mkRat f.vmot 1024) / nom
      clampQ (mkRat 1 4) 4 g
    | none => 1
  else 1

/-- The vibration and shock terms of u_ff (R138), with the FF biquad's delays; under R51, and before the first good frame, the inputs are 0. -/
def State.sensorTerms (s : State) (n : Nat) : Rat × Biquad :=
  let l := s.loopOf n
  let (rvx, rvy, shock) := match l.fwd with
    | some f => if s.lineFail n then (0, 0, 0) else (f.rvx, f.rvy, f.shock)
    | none => (0, 0, 0)
  let rv := unfix 15 (sx 16 (s.get (RV_GAIN_KRV_X n))) * unfix 15 (sx 16 rvx) +
    unfix 15 (sx 16 (s.get (RV_GAIN_KRV_Y n))) * unfix 15 (sx 16 rvy)
  let (y, b) := s.runBiquad (FF_BQ_B0 n) l.ff rv
  let sh := unfix 15 (sx 16 (s.get (SH_GAIN_KSH n))) * unfix 15 (sx 16 shock)
  ((if s.flag (FF_CFG_RV_EN n) then y else 0) + (if s.flag (FF_CFG_SH_EN n) then sh else 0), b)

/-- The sensor terms of the wedge and their change since the last sample (R138, R143), formed in every wedge whatever drives the lane, and held
exactly (R134). -/
def State.sensorStep (s : State) (n : Nat) : State :=
  let (y, b) := s.sensorTerms n
  s.modLoop n (fun l => { l with ff := b, sens := some y, dsens := match l.sens with | some p => y - p | none => 0 })

/-- The feed-forward of the wedge and its change to the next one (R138, R143): the sensor terms extrapolated linearly, the acceleration
terms `acc` and `accNext` of the plan. -/
def State.feedForward (s : State) (n : Nat) (acc accNext : Rat) : Rat × Rat :=
  let l := s.loopOf n
  let k : Rat := if s.flag (FF_CFG_ACC_EN n) then s.s824 (LOOP_KFF_ACC n) else 0
  (k * acc + l.sens.getD 0, k * (accNext - acc) + l.dsens)

/-- The estimator's step (R139): predicted with the last output and the Kv in force, updated with a measurement if there is one. -/
def State.estimate (s : State) (n : Nat) (z : Option Rat) : Int × Int :=
  let l := s.loopOf n
  let kv := l.kv
  let u := unfix 15 (sx 16 (s.get (LOOP_OUT_VCM n)))
  let x := unfix 32 l.x + unfix 32 l.v + kv * u / 2
  let v := unfix 32 l.v + kv * u
  match z with
  | some z => (fix 57 32 (x + s.s230 (LOOP_ALPHA n) * (z - x)), fix 48 32 (v + s.s230 (LOOP_BETA n) * (z - x)))
  | none => (fix 57 32 x, fix 48 32 v)

/-- The microactuator path is computed (R133). -/
def State.maOn (s : State) (n : Nat) : Bool := s.imgBool (fun i => i.maFitted n) && decide ((s.loopOf n).km ≠ 0)

/-- The microactuator setpoint of the track-following law (R133): value, delays, whether it was clamped. -/
def State.maLaw (s : State) (n : Nat) (e : Rat) : Rat × List Biquad × Bool :=
  let l := s.loopOf n
  if s.maOn n then
    let (y, bs) := s.runSeries (((List.range 4).map (MA_BQ_B0 n)).zip l.ma) (-(s.s824 (LOOP_KMA n) * e))
    let m := unfix 15 l.m + y
    (clampQ (-1) 1 m, bs, decide (1 < absQ m))
  else (0, l.ma, false)

/-- What a wedge's computation gives: the setpoints as S1.15, Δ, and whether the VCM setpoint was clamped. -/
structure LawOut where
  u : Int
  m : Int
  d : Rat
  vcmClamp : Bool
  maClamp : Bool
  loop : Loop
  presetClamp : Bool

/-- The track-following law of SETTLE and FOLLOW (R133), with the preset of R145 in the first wedge after a change of the
driving law. f_{k−1} of the first such wedge after SEEK, MANUAL or LOST is the f of the last one before, however old: the manual does not say, and this
is the model's choice (notes/assumptions/22.md). -/
def State.followLaw (s : State) (n : Nat) (e : Rat) : LawOut :=
  let l := s.loopOf n
  let (uff, dff) := s.feedForward n 0 0
  let g := s.gSup n
  let (m, mbs, mc) := s.maLaw n e
  let ev := e - s.s824 (LOOP_CPL n) * unfix 15 l.m
  let (f, vbs) := s.runSeries (((List.range 8).map (VCM_BQ_B0 n)).zip l.vcm) ev
  let pd := s.s824 (LOOP_KP n) * f + s.s824 (LOOP_KD n) * (f - unfix 32 l.f)
  let (i, pc) := match l.preset with
    | some u0 =>
      let q := -(unfix 15 u0) / g - pd + uff
      (clampQ (-1) 1 q, decide (1 < absQ q))
    | none =>
      let q := unfix 32 l.integ + s.s824 (LOOP_KI n) * f
      (if 1 < absQ ((-(pd + q) + uff) * g) then unfix 32 l.integ else q, false)
  let u := (-(pd + i) + uff) * g
  ⟨fix 16 15 (clampQ (-1) 1 u), fix 16 15 m, g * dff, decide (1 < absQ u), mc,
    { l with integ := fix 48 32 i, f := fix 48 32 f, vcm := vbs, ma := mbs, preset := none }, pc⟩

/-- The law of SEEK and of an unload's seek (R140). -/
def State.seekLaw (s : State) (n : Nat) (p : Plan) (x v : Int) : LawOut :=
  let l := s.loopOf n
  let (r, vr, a, _) := p.refAt p.k
  let (_, _, a1, _) := p.refAt (p.k + 1)
  let (uff, dff) := s.feedForward n a a1
  let g := s.gSup n
  let u := (uff - s.s824 (LOOP_KP n) * (unfix 32 x - r) - s.s824 (LOOP_KD n) * (unfix 32 v - vr)) * g
  ⟨fix 16 15 (clampQ (-1) 1 u), Int.tdiv l.m 2, g * dff, decide (1 < absQ u), false, l, false⟩

/-- The output in LOST (R149): the integrator's bias and the feed-forward; the microactuator ramps to 0 over 16 wedges. -/
def State.lostLaw (s : State) (n : Nat) : LawOut :=
  let l := s.loopOf n
  let (uff, dff) := s.feedForward n 0 0
  let g := s.gSup n
  let u := (-(unfix 32 l.integ) + uff) * g
  ⟨fix 16 15 (clampQ (-1) 1 u), roundDiv (l.m0 * (16 - min 16 (l.lostRun + 1) : Nat)) 16, g * dff, decide (1 < absQ u),
    false, l, false⟩

/-- HOLD's gains (R154): R135 with ω = 0.0625 rad per wedge and its own copy of KV; a gain left undefined keeps its value. -/
def State.holdGains (s : State) (n pitch : Nat) : State :=
  let kv := kvOf (s.holdOf n).kv s.nominalT pitch
  if kv = 0 then s
  else
    let w : Rat := mkRat 1 16
    let kp := w * w / (sqrt2Q * kv)
    ((s.setS824 (HOLD_HKP n) kp).setS824 (HOLD_HKI n) (kp * w / 10)).setS824 (HOLD_HKD n) (kp / w)

/-- HOLD's law for one wedge with a valid error `e` (R154): preset at the first such wedge, else the clamped PID. -/
def State.holdLaw (s : State) (n : Nat) (e : Rat) : Int × Hold × Bool :=
  let h := s.holdOf n
  let kp := s.s824 (HOLD_HKP n)
  if h.preset then
    let pd := kp * e + s.s824 (HOLD_HKD n) * (e - unfix 32 h.err)
    let q := unfix 32 h.integ + s.s824 (HOLD_HKI n) * e
    let i := if 1 < absQ (pd + q) then unfix 32 h.integ else q
    let u := clampQ (-1) 1 (-(pd + i))
    (fix 16 15 u, { h with integ := fix 48 32 i, err := fix 48 32 e, out := fix 16 15 u }, false)
  else
    let q := -(unfix 15 (sx 16 (s.get (LOOP_OUT_VCM n)))) - kp * e
    let i := clampQ (-1) 1 q
    let u := clampQ (-1) 1 (-(kp * e + i))
    (fix 16 15 u, { h with integ := fix 48 32 i, err := fix 48 32 e, preset := true, out := fix 16 15 u }, decide (1 < absQ q))

end Sys2Proof.Machine
end

