-- ==== Sys2Proof/Machine/Cipher.lean ====
section
/-!
DEFINITION. CIPHER (file 12, R402-R404): the namespace keys and the encryption of logical blocks. Where the wrapped keys lie inside their region of the NV store is the model's (notes/assumptions/3.md).
-/

namespace Sys2Proof.Machine

/-- Where the wrapped key of slot k lies in the NV store (R403, R465). -/
def keyNvs (k : Nat) : Nat := 0x1C100 + 0x50 * k

/-- A key command (R403): refused while one runs. -/
def keyCmd (k : Nat) (newKey : Bool) (s : State) : State :=
  if s.flag CI_KEYSTAT_BUSY then s.put CI_KEYSTAT_REJ 1 else { s.put CI_KEYSTAT_BUSY 1 with keyJob := some (k, newKey) }

def execNewkey (slot : Fin 16) (s : State) : Host.Outcome State Fault Refusal := .next (s.access 0 (keyCmd slot true))

def execKeyErase (slot : Fin 16) (s : State) : Host.Outcome State Fault Refusal := .next (s.access 0 (keyCmd slot false))

/-- The key slot's VALID bit. -/
def State.setKeyValid (s : State) (k : Nat) (b : Bool) : State :=
  let v := s.get CI_KEYSTAT_VALID
  s.put CI_KEYSTAT_VALID (if b then setBitN v k else clrBitN v k)

/-- DEVICE_SEED, an OTP row no register shows (R449, R450). -/
def State.deviceSecret (s : State) : Nat := leNat (s.otp.readN 0 0x10 32)

/-- KEY_COMMAND_DONE (R403): a new key is drawn, wrapped and saved, or the slot's wrapped key is destroyed; BUSY falls and
event 70 is raised. -/
def keyDone (s : State) : State :=
  match s.keyJob with
  | none => s
  | some (k, true) =>
    let (d, s) := s.draw 25
    let key := d % 2 ^ 512
    let s := s.nvsWrite (keyNvs k) (slice (Config.wrapKey s.deviceSecret key) 0 72)
    let s := { s with keyStore := modAt s.keyStore k (fun _ => some key), keys := modAt s.keys k (fun _ => some key), keyJob := none }
    ((s.setKeyValid k true).put CI_KEYSTAT_BUSY 0).raise 70
  | some (k, false) =>
    let s := s.nvsWrite (keyNvs k) (List.replicate 72 0)
    let s := { s with keyStore := modAt s.keyStore k (fun _ => none), keys := modAt s.keys k (fun _ => none), keyJob := none }
    ((s.setKeyValid k false).put CI_KEYSTAT_BUSY 0).raise 70

def execKeyCommandDone (s : State) : Host.Outcome State Fault Refusal := .next (keyDone s)

/-- CI_CTL.EN from 0 to 1 (R403): every wrapped key is reloaded. -/
def cipherEnable (s : State) : State :=
  if s.flag CI_CTL_EN then s
  else { s.put CI_CTL_EN 1 with keys := s.keyStore }

def execCipherEnable (s : State) : Host.Outcome State Fault Refusal := .next (s.access 0 cipherEnable)

/-- The data of a logical block as CIPHER stores or returns it under a key (R402, R403): unchanged while CIPHER is off, none without a valid
key (R404). -/
def State.cipherBy (s : State) (key : Option Nat) (encrypt : Bool) (dlba : Nat) (data : List Byte) : Option (List Byte) :=
  if s.flag CI_CTL_EN then key.map (fun key => slice (Config.xts encrypt key dlba data) 0 4096) else some data

/-- The same under the key namespace index k's slot holds now. -/
def State.cipher (s : State) (encrypt : Bool) (k dlba : Nat) (data : List Byte) : Option (List Byte) :=
  s.cipherBy (atD s.keys k none) encrypt dlba data

/-- A transfer for a namespace whose slot is not valid is refused (R404). -/
def State.keyless (s : State) (k : Nat) : Bool := s.flag CI_CTL_EN && (atD s.keys k none).isNone

end Sys2Proof.Machine
end

