-- ==== Sys2Proof/Machine/Views.lean ====
section
/-!
DEFINITION. Registers that show a count of the tables behind them: the tag table and write range table (files 10 and 11), the queue-pair pool and the controllers (file 10).
-/

namespace Sys2Proof.Machine

/-! ### Functions and controllers (R297, R298) -/

/-- Whether PF `p` exists (R295). -/
def State.pfExists (s : State) (p : Nat) : Bool :=
  s.img.isSome && (decide (p = 0) || (decide (p = 1) && decide (s.imgNat Image.pfCount = 2)))

/-- TotalVFs of PF0 and PF1 (R297). -/
def State.totalVfs (s : State) (p : Nat) : Nat :=
  let m := s.imgNat Image.vfMax
  let t0 := if s.imgNat Image.pfCount = 2 then (m + 1) / 2 else m
  if p = 0 then t0 else m - t0

/-- The function of a controller identifier (R298): PF, and VF number or 0. -/
def State.function (s : State) (c : Nat) : Nat × Nat :=
  let t0 := s.totalVfs 0
  if c < 2 then (c, 0) else if c ≤ 1 + t0 then (0, c - 1) else (1, c - 1 - t0)

/-- Whether a controller identifier names a controller (R298): its PF, or an enabled VF. -/
def State.ctrlExists (s : State) (c : Nat) : Bool :=
  let f := s.function c
  s.pfExists f.1 && (decide (f.2 = 0) || decide (f.2 ≤ atD s.host.numVfs f.1 0)) && decide (c < 2 + s.imgNat Image.vfMax)

/-- The port of a PF (R295). -/
def State.portOf (s : State) (pf : Nat) : Nat := if s.imgNat Image.portShape = 0 then pf else 0

def State.ctrl (s : State) (c : Nat) : Ctrl := atD s.host.ctrls c Ctrl.reset

/-- The controller's state code (R332, file 10 CTRL_STAT). -/
def State.ctrlState (s : State) (c : Nat) : Nat :=
  let k := s.ctrl c
  if s.ctrlExists c = false then 0
  else if k.cfs then 6
  else if k.shst = 2 then 5
  else if k.shst = 1 then 4
  else if k.en && k.rdy then 3
  else if k.en then 2
  else 1

/-- The queue pairs granted to a controller (R303). -/
def Ctrl.grant (k : Ctrl) : Nat := k.fromReserve + k.fromPool

/-- Pool size (R302): what the PFs' reserves leave of 1,024. -/
def State.poolSize (s : State) : Nat := 1024 - s.imgNat Image.pfCount * s.imgNat Image.pfQpReserve

/-- Pool pairs free. -/
def State.poolFreeQp (s : State) : Nat :=
  s.poolSize - (s.host.ctrls.toList.foldl (fun n k => n + k.fromPool) 0)

/-! ### Tags and range entries -/

/-- Controllers with CC.EN 1. -/
def State.ctrlsEn (s : State) : Nat := (s.host.ctrls.toList.filter (fun k => k.en)).length

/-- Tags in use for I/O commands: those of no admin queue, and those a controller's admin queue or the management endpoint holds
beyond its four (R306). -/
def State.ioTagsUsed (s : State) : Nat :=
  let io := s.host.tags.filter (fun e => !(decide (e.2.sqid = 0)) && !e.2.detached)
  let adm := (List.range 64).foldl (fun n c =>
    n + ((s.host.tags.filter (fun e => decide (e.2.sqid = 0) && decide (e.2.ctrl = c) && !e.2.detached)).length - 4)) 0
  let mg := (s.host.tags.filter (fun e => decide (e.2.ctrl = 0xFFFF) || e.2.detached)).length - 4
  io.length + adm + mg

/-- I/O tags free (R306): what the tags held for admin queues and the management endpoint, and those in use, leave. -/
def State.tagsFree (s : State) : Nat :=
  if s.img.isNone then 0 else 16384 - (4 * s.ctrlsEn + 4) - s.ioTagsUsed

/-- Tags in a state. -/
def State.tagsIn (s : State) (st : TagSt) : Nat := (s.host.tags.filter (fun e => decide (e.2.st = st))).length

/-- Range entries that are HELD Writes, and their blocks (R357). -/
def State.heldBlocks (s : State) : Nat :=
  s.host.wrts.foldl (fun n e => if e.2.held && decide (e.2.kind = .write) then n + e.2.count else n) 0
def State.heldEntries (s : State) : Nat := (s.host.wrts.filter (fun e => e.2.held)).length

/-- Records between MJ_TAIL and MJ_HEAD (R279, R357). -/
def State.journalHeld (s : State) : Nat :=
  let l := s.get MJ_CFG_LEN
  let len := 2 ^ (if 10 ≤ l ∧ l ≤ 17 then l else 10)
  (s.num MJ_HEAD % len + len - s.num MJ_TAIL % len) % len

/-- The protected set size P (R357), which is defined in Protected mode; that PROT_USED shows 0, its reset value, in the other modes is a DESIGN
CHOICE (notes/assumptions/45.md). -/
def State.protUsed (s : State) : Nat := 4168 * s.heldBlocks + 64 * s.heldEntries + 32 * s.journalHeld + 65536

/-- The cache mode in force (R351): 0 Protected, 1 Write-through, 2 Volatile. -/
def State.cacheMode (s : State) : Nat :=
  if s.imgBool Image.plpEnable then (if s.flag PLP_STAT_PLP_READY then 0 else 1) else (if s.host.vwc then 2 else 1)

/-- CSTS.PP of every controller (R480): the HUB step of an activation is in progress, and nothing is fetched. -/
def State.paused (s : State) : Bool :=
  match s.upd.act with
  | some a => decide (a.dies.head? = some 0)
  | none => false

/-! ### The rung limits (R320, R510) -/

/-- The host limit (R320): the shallowest power state set by a PF controller with CC.EN 1; without one there is none. -/
def State.hostLimit (s : State) : Nat :=
  ([0, 1].filter (fun c => (s.ctrl c).en)).foldl (fun n c => min n (((s.host.powerOf.find? (fun e => decide (e.1 = c))).map (fun e => e.2)).getD 0)) 4

/-- The effective limit: the smaller of MAX_RUNG and the host limit. -/
def State.rungLimit (s : State) : Nat := min (s.get MAX_RUNG_RUNG) s.hostLimit

/-- An exit to rung 0 begins (R510, R514); one that comes during an entry ends the entry at its next step boundary, with ABORTED (R516). -/
def State.startExit (s : State) : State :=
  if s.flag LADDER_STAT_MOVING then
    if s.lad.entry && !s.lad.abort then (s.modLad (fun l => { l with abort := true })).noteBit ladderErr 5 else s
  else if s.get LADDER_STAT_RUNG = 0 then s
  else ((s.put LADDER_STAT_MOVING 1).put LADDER_STAT_TARGET 0).modLad (fun l => { l with entry := false, abort := false })

/-- A lowered limit (R510): below the rung in force it starts an exit. -/
def State.limitChanged (s : State) : State := if s.rungLimit < s.get LADDER_STAT_RUNG then s.startExit else s

/-- The value of a register that shows the tables behind it, if `a` is one. -/
def State.view (s : State) (a : Nat) : Option Word :=
  if a = TAG_CNT0 then some (BitVec.ofNat 32 (s.tagsIn .dispatched * 0x8000 + s.tagsIn .fetched))
  else if a = TAG_CNT1 then some (BitVec.ofNat 32 (s.tagsIn .completing * 0x8000 + s.tagsIn .media))
  else if a = WRT_FREE then some (BitVec.ofNat 32 (32768 - s.host.wrts.length))
  else if a = PROT_USED then some (BitVec.ofNat 32 (if s.cacheMode = 0 then s.protUsed else 0))
  else if a = PLP_STAT then some (insertBits (s.rd PLP_STAT) 2 1 s.cacheMode)
  else if a = NVME_STAT then
    some (BitVec.ofNat 32 (s.get NVME_STAT_FETCH_STALLED * 0x80000000 + s.ctrlsEn * 0x10000 + s.tagsFree))
  else if a = QP_POOL then some (BitVec.ofNat 32 (s.poolFreeQp * 0x10000 + s.poolSize))
  else if CTRL_STAT 0 ≤ a ∧ a < CTRL_STAT 0 + 256 ∧ a % 4 = 0 then
    let c := (a - CTRL_STAT 0) / 4
    let f := s.function c
    if s.ctrlExists c then
      some (BitVec.ofNat 32 (s.ctrlState c * 0x20000000 + ofBool (decide (f.2 ≠ 0)) * 0x10000000 + f.2 * 0x10000 + (s.ctrl c).grant))
    else some 0
  else if a = LADDER_STAT then some (insertBits (s.rd LADDER_STAT) 19 16 s.rungLimit)
  else if a = ALOG_STAT then some (insertBits (s.rd ALOG_STAT) 19 13 s.logQueue.length)
  else if a = UART_STAT then
    some (insertBits (insertBits (s.rd UART_STAT) 0 0 (ofBool !s.pins.rx.isEmpty)) 1 1 (ofBool (decide (16 ≤ s.pins.tx.length))))
  else if addrDie a = 0 ∧ addrUnit a = 15 ∧ addrOff a < 0x800 ∧ a % 4 = 0 then
    if 0x10 ≤ addrOff a ∧ addrOff a < 0x50 then some 0 else some (BitVec.ofNat 32 (leNat (s.otp.readN 0 (addrOff a) 4)))
  else if DBG_CHAL 0 ≤ a ∧ a < DBG_CHAL 0 + 64 ∧ a % 4 = 0 then
    match s.dbg.chal with
    | some (c, _) => some (BitVec.ofNat 32 (fieldLe c (a - DBG_CHAL 0) 4))
    | none => some 0
  else none

/-! ### LEDs (R549) -/

/-- What LED i shows (R549, LED_CTL): the phase of a blink follows MTIME, and host command activity is a tag in service, which are the
model's choices (notes/assumptions/51.md). -/
def State.ledLit (s : State) (i : Nat) : Bool :=
  match bitsOf (s.num LED_CTL) (4 * i + 3) (4 * i) with
  | 1 => true
  | 2 => decide (s.mtime / 500000 % 2 = 0)
  | 3 => decide (s.mtime / 125000 % 2 = 0)
  | 4 => s.host.tags.any (fun e => decide (e.2.ctrl ≠ 0xFFFF))
  | 5 => (List.range 4).any (fun n => s.chOn n && decide (s.actState n ≠ 1)) || s.host.ctrls.toList.any (fun k => k.cfs)
  | _ => false

end Sys2Proof.Machine
end

