-- ==== Sys2Proof/Machine/Operands.lean ====
section
/-!
DEFINITION. The operand forms of a register access: what a read returns (R7, R8, R10, R12, R14), which words a read captures (R7, R128), what a plain write sets (R12), and the gate of the Expert page (R9, R100).
-/

namespace Sys2Proof.Machine

/-- `a` is element of an array of `k` words or pairs at `base` with stride `st`. -/
def inArray (a base k st : Nat) : Bool := decide (base ≤ a) && decide ((a - base) / st < k) && decide ((a - base) % st = 0)

/-- The words whose value a read of `a` captures (R7, R128), as the registers' descriptions name them. -/
def capturesOf (a : Nat) : List Nat :=
  let n := addrDie a - 1
  let hi := [a + 4]
  if addrOff a = 0xF0C ∧ (regAt a).isSome then hi
  else if 1 ≤ addrDie a ∧ addrDie a ≤ 4 then
    if a = DEMOD_STAT n then [POS_LO n, POS_HI n, PES n, DEMOD_TARGET_LO n, DEMOD_TARGET_HI n, RRO n]
    else if a = WCNT_LO n ∨ a = INTEG_LO n ∨ inArray a (SECT_CNT_LO n 0) 18 8 ∨ inArray a (HIST_LO n 0) 64 8 ∨
      inArray a (WSECT_LO n 0) 4 8 ∨ a = FLY_CTIME_LO n ∨ a = CE_ADDR_LO (chCSRAM n) ∨ a = UE_ADDR_LO (chCSRAM n) then hi
    else []
  else if a = OPTIME_LO ∨ a = REV_LO ∨ a = RECNO_LO ∨ inArray a (FOL_CNT_LO 0) 4 8 ∨ a = MAPSEQ_LO ∨ a = LOOKUPS_LO ∨ a = MISSES_LO ∨
    a = CE_ADDR_LO hubDRAMC ∨ a = UE_ADDR_LO hubDRAMC ∨ a = CE_ADDR_LO hubSCACHE ∨ a = UE_ADDR_LO hubSCACHE ∨
    a = CE_ADDR_LO hubHSRAM ∨ a = UE_ADDR_LO hubHSRAM then hi
  else []

/-- Whether reads of a word return the captured value: the upper half of a captured pair, or a result of R128. -/
def isCaptured (a : Nat) : Bool :=
  (decide (4 ≤ a) && (capturesOf (a - 4)).contains a) ||
    (decide (1 ≤ addrDie a) && decide (addrDie a ≤ 4) && (capturesOf (DEMOD_STAT (addrDie a - 1))).contains a)

/-- Capture the words a read of `a` names. -/
def State.capture (s : State) (a : Nat) : State :=
  (capturesOf a).foldl (fun s b => { s with latch := store (resetOf b) s.latch b (s.rd b) }) s

/-- The pending set word an EV_PEND register shows (file 13, EVENT registers): core and word of the address. -/
def pendWord (a : Nat) : Option (Nat × Nat) :=
  let o := addrOff a
  if addrDie a = 0 ∧ addrUnit a = 13 ∧ 0x800 ≤ o ∧ o < 0xA00 ∧ o % 4 = 0 then some ((o - 0x800) / 0x40, (o - 0x800) % 0x40 / 4)
  else if 1 ≤ addrDie a ∧ addrDie a ≤ 4 ∧ addrUnit a = 16 ∧ 0x800 ≤ o ∧ o < 0x880 ∧ o % 4 = 0 then
    some (8 + 2 * (addrDie a - 1) + (o - 0x800) / 0x40, (o - 0x800) % 0x40 / 4)
  else none

/-- What a read of a word returns (R8, R10, R12, R14): the value in force with WO bits 0, a captured word's captured value,
and 0 where no register stands. -/
def State.readView (s : State) (a : Nat) : Word :=
  match pendWord a, s.view a with
  | some (c, k), _ => BitVec.ofNat 32 ((atD s.pend c 0).toNat / 2 ^ (32 * k))
  | none, some w => w
  | none, none =>
    match regAt a with
    | none => 0
    | some d =>
      let v := if isCaptured a then fetch (resetOf a) s.latch a else s.rd a
      v &&& ~~~(BitVec.ofNat 32 d.wo)

/-- What a plain write makes of a register (R12): RW bits take the written value, others stay. -/
def State.setRW (s : State) (a : Nat) (v : Word) : State :=
  match regAt a with
  | none => s
  | some d => s.wr a ((s.rd a &&& ~~~(BitVec.ofNat 32 d.rw)) ||| (v &&& BitVec.ofNat 32 d.rw))

/-- The EXPERT_STAT register of the unit an address lies in (R100). -/
def expertStat (a : Nat) : Nat := unitBase (addrDie a) (addrUnit a) + 0xFF4

/-- An address of an Expert page (file 00, Basic and Expert pages). -/
def isExpert (a : Nat) : Bool := decide (0x1000 ≤ addrOff a)

/-- Expert writes of the unit take effect: the image grants the unit and the key word has been written (R9, R100). -/
def State.expertOpen (s : State) (a : Nat) : Bool :=
  bitOf (s.num (expertStat a)) 0 && bitOf (s.num (expertStat a)) 1

end Sys2Proof.Machine
end

