-- ==== Sys2Proof/Machine/Stacks.lean ====
section
/-!
DEFINITION. The Stacks buffer manager (file 12, R379-R384): pools, handles, owners, and the requests of cores and of the hardware.
-/

namespace Sys2Proof.Machine

/-- Status codes of a request (file 12, STK_RES). -/
def skOk : Nat := 0
def skEmpty : Nat := 1
def skStale : Nat := 2
def skNotOwner : Nat := 3
def skLast : Nat := 4
def skBusy : Nat := 5
def skFull : Nat := 6
def skDup : Nat := 7
def skBad : Nat := 8

/-- What a request answers: status, owners after it, handle. -/
structure StkRes where
  status : Nat
  owners : Nat
  handle : Nat
  deriving DecidableEq, Repr

/-- The record of a buffer. -/
def State.bufOf (s : State) (i : Nat) : Buf := fetch Buf.fresh s.bufs i

/-- STACKS' record in DRAM of buffer i (R379): its physical address. -/
def State.stkRecordAt (s : State) (i : Nat) : Nat :=
  s.get STK_TBL_LO_BASE * 0x1000 + 0x100000000 * s.get STK_TBL_HI_BASE + 16 * i

/-- Write the record of a buffer into the table in DRAM (R379), with the time it carries (R64). -/
def State.setBuf (s : State) (i gen : Nat) (owners : List Nat) : State :=
  let bs := slice (Config.stkRecord i gen owners (s.num TSTAMP)) 0 16
  let s := { s with bufs := store Buf.fresh s.bufs i ⟨gen, owners, s.num TSTAMP, bs⟩ }
  (s.physWrite 11 (s.stkRecordAt i) bs).2

/-- A name STACKS accepts (R381): KIND 1-3 or 8-Fh. -/
def nameOk (name : Nat) : Bool :=
  let k := bitsOf name 19 16
  (decide (1 ≤ k) && decide (k ≤ 3)) || decide (8 ≤ k)

/-- A pool that serves requests. -/
def State.poolOn (s : State) (p : Nat) : Bool := decide (p < 16) && decide (s.get (POOL_STAT_STATE p) = 2)

/-- The pool a buffer index lies in, if one that is ON holds it (R379, R382). -/
def State.poolOf (s : State) (i : Nat) : Option Nat :=
  (List.range 16).find? (fun p =>
    s.poolOn p && decide (s.get (POOL_BASE_INDEX p) ≤ i) && decide (i < s.get (POOL_BASE_INDEX p) + s.get (POOL_COUNT_COUNT p)))

/-- FREE of a pool, and its low mark, follow the length of its free FIFO. -/
def State.countFree (s : State) (p : Nat) : State :=
  let n := (atD s.poolFree p []).length
  let s := s.put (POOL_STAT_FREE p) n
  if n < s.get (POOL_LOW_LOW p) then s.put (POOL_LOW_LOW p) n else s

/-- Index and GEN of a handle (R380). -/
def handleIndex (h : Nat) : Nat := bitsOf h 19 0
def handleGen (h : Nat) : Nat := bitsOf h 23 20
def handleOf (gen index : Nat) : Nat := gen % 16 * 0x100000 + index

/-- STACKS reads a buffer's record from its table (R379): what it wrote there, or what bytes that another requester has written since give. A read
that fails uncorrectably makes the request complete BAD and sets TBL_UE (file 12, STK_ERR). -/
def State.stkRead (s : State) (i : Nat) : Option Buf × State :=
  match s.physRead 11 (s.stkRecordAt i) 16 with
  | (some bs, s) =>
    let b := s.bufOf i
    let x := Config.stkParsed bs
    (some (if bs = b.bytes then b else ⟨x.1 % 16, x.2.1, x.2.2, bs⟩), s)
  | (none, s) => (none, s.noteBit stkErr 1)

/-- ALLOC (R382). -/
def State.stkAlloc (s : State) (p name : Nat) (zero : Bool) : StkRes × State :=
  if s.flag STK_CTL_EN = false ∨ s.poolOn p = false ∨ nameOk name = false then (⟨skBad, 0, 0⟩, s)
  else
    match atD s.poolFree p [] with
    | [] =>
      let s := (s.noteBit stkErr (16 + p)).countSatFault (POOL_FAILS p) stkErr 0 1
      (⟨skEmpty, 0, 0⟩, s.raise 56)
    | i :: t =>
      match s.stkRead i with
      | (none, s) => (⟨skBad, 0, 0⟩, s)
      | (some b, s) =>
        let g := b.gen
        let s := ({ s with poolFree := modAt s.poolFree p (fun _ => t) }).countFree p
        let s := if zero then s.discardUnits i 1 else s
        (⟨skOk, 1, handleOf g i⟩, s.setBuf i g [name])

/-- A request that names a handle (R380, R382): BAD for a buffer of no pool that is ON, STALE for another GEN or a free
buffer, else what the rest says of its record. -/
def State.stkNamed (s : State) (h : Nat) (rest : Nat → Buf → State → StkRes × State) : StkRes × State :=
  let i := handleIndex h
  if s.flag STK_CTL_EN = false then (⟨skBad, 0, h⟩, s)
  else
    match s.poolOf i with
    | none => (⟨skBad, 0, h⟩, s)
    | some _ =>
      match s.stkRead i with
      | (none, s) => (⟨skBad, 0, h⟩, s)
      | (some b, s) =>
        if b.gen ≠ handleGen h ∨ b.owners = [] then (⟨skStale, 0, h⟩, s) else rest i b s

/-- ADD (R382). -/
def State.stkAdd (s : State) (h name name2 : Nat) : StkRes × State :=
  if nameOk name = false ∨ nameOk name2 = false then (⟨skBad, 0, h⟩, s)
  else
    s.stkNamed h (fun i b s =>
      let n := b.owners.length
      if b.owners.contains name = false then (⟨skNotOwner, n, h⟩, s)
      else if b.owners.contains name2 then (⟨skDup, n, h⟩, s)
      else if 4 ≤ n then (⟨skFull, n, h⟩, s)
      else (⟨skOk, n + 1, h⟩, s.setBuf i b.gen (b.owners ++ [name2])))

/-- RELEASE (R382). -/
def State.stkRelease (s : State) (h name : Nat) : StkRes × State :=
  if nameOk name = false then (⟨skBad, 0, h⟩, s)
  else
    s.stkNamed h (fun i b s =>
      let n := b.owners.length
      if b.owners.contains name = false then (⟨skNotOwner, n, h⟩, s)
      else if n = 1 then (⟨skLast, n, h⟩, s)
      else (⟨skOk, n - 1, h⟩, s.setBuf i b.gen (b.owners.erase name)))

/-- FREE (R382): GEN rises, and the buffer goes to the tail of its pool's free FIFO. -/
def State.stkFree (s : State) (h name : Nat) : StkRes × State :=
  if nameOk name = false then (⟨skBad, 0, h⟩, s)
  else
    s.stkNamed h (fun i b s =>
      let n := b.owners.length
      if b.owners.contains name = false then (⟨skNotOwner, n, h⟩, s)
      else if n ≠ 1 then (⟨skBusy, n, h⟩, s)
      else
        let s := s.setBuf i ((b.gen + 1) % 16) []
        match s.poolOf i with
        | some p => (⟨skOk, 0, h⟩, ({ s with poolFree := modAt s.poolFree p (fun l => l ++ [i]) }).countFree p)
        | none => (⟨skOk, 0, h⟩, s))

/-- QUERY (R382). -/
def State.stkQuery (s : State) (h : Nat) : StkRes × State := s.stkNamed h (fun _ b s => (⟨skOk, b.owners.length, h⟩, s))

/-- RELEASE, or FREE where the name is the last owner, as TAGS does for a range entry (R384). -/
def State.stkDrop (s : State) (h name : Nat) : State :=
  match s.stkRelease h name with
  | (r, s) => if r.status = skLast then (s.stkFree h name).2 else s

/-! ### The requests of a core -/

/-- STK_RES of core c takes a request's answer (file 12). -/
def stkAnswer (c : Nat) (r : StkRes × State) : State :=
  r.2.setNum (STK_RES c) (r.1.owners % 8 * 0x10000000 + r.1.status % 16 * 0x1000000 + r.1.handle % 0x1000000)

/-- A core's request (file 12, request block): OP of the value written to STK_OP. -/
def stkOp (c op pool : Nat) (zero : Bool) (s : State) : State :=
  let h := s.get (STK_HANDLE_HANDLE c)
  let name := s.get (STK_NAME_NAME c)
  let name2 := s.get (STK_NAME2_NAME c)
  stkAnswer c (match op with
    | 1 => s.stkAlloc pool name zero
    | 2 => s.stkAdd h name name2
    | 3 => s.stkRelease h name
    | 4 => s.stkFree h name
    | 5 => s.stkQuery h
    | _ => (⟨skBad, 0, h⟩, s))

def execStkAlloc (c : CoreNo) (zero : Bool) (pool : Fin 16) (s : State) : Host.Outcome State Fault Refusal :=
  .next (s.access 0 (stkOp c 1 pool zero))

def execStkAdd (c : CoreNo) (s : State) : Host.Outcome State Fault Refusal := .next (s.access 0 (stkOp c 2 0 false))

def execStkRelease (c : CoreNo) (s : State) : Host.Outcome State Fault Refusal := .next (s.access 0 (stkOp c 3 0 false))

def execStkFree (c : CoreNo) (s : State) : Host.Outcome State Fault Refusal := .next (s.access 0 (stkOp c 4 0 false))

def execStkQuery (c : CoreNo) (s : State) : Host.Outcome State Fault Refusal := .next (s.access 0 (stkOp c 5 0 false))

/-! ### Pools -/

/-- POOL_CMD INIT (file 12): the pool is in INIT and its POOL_FAILS is 0. -/
def poolInit (p : Nat) (s : State) : State :=
  ({ (s.put (POOL_STAT_STATE p) 1).setNum (POOL_FAILS p) 0 with poolFree := modAt s.poolFree p (fun _ => []) }).put
    (POOL_STAT_FREE p) 0

def execPoolInit (p : Fin 16) (s : State) : Host.Outcome State Fault Refusal := .next (s.access 0 (poolInit p))

/-- Initialisation ends (file 12): each record in the table (R379) and the free FIFO in index order with GEN 0 and no owners, then ON. -/
def poolInitDone (p : Nat) (s : State) : State :=
  if s.get (POOL_STAT_STATE p) = 1 then
    let b := s.get (POOL_BASE_INDEX p)
    let n := min (s.get (POOL_COUNT_COUNT p)) (0xF0000 - b)
    let s := (List.range n).foldl (fun s i => s.setBuf (b + i) 0 []) s
    let s := { s with poolFree := modAt s.poolFree p (fun _ => (List.range n).map (fun i => b + i)) }
    ((s.put (POOL_STAT_FREE p) n).put (POOL_LOW_LOW p) n).put (POOL_STAT_STATE p) 2
  else s

def execPoolInitDone (p : Fin 16) (s : State) : Host.Outcome State Fault Refusal := .next (poolInitDone p s)

def execPoolOff (p : Fin 16) (s : State) : Host.Outcome State Fault Refusal :=
  .next (s.access 0 (fun s => s.put (POOL_STAT_STATE p) 0))

/-- POOL_CMD CLR_LOW (file 12): POOL_LOW takes FREE. -/
def poolClrLow (p : Nat) (s : State) : State := s.put (POOL_LOW_LOW p) (s.get (POOL_STAT_FREE p))

def execPoolClrLow (p : Fin 16) (s : State) : Host.Outcome State Fault Refusal := .next (s.access 0 (poolClrLow p))

/-- Every pool is OFF (R378). -/
def State.poolsOff (s : State) : State := (List.range 16).foldl (fun s p => s.put (POOL_STAT_STATE p) 0) s

end Sys2Proof.Machine
end

