-- ==== Sys2Proof/Machine/Tags.lean ====
section
/-!
DEFINITION. TAGS (file 11, R338-R357, R366-R367): tag states, the write range table, overlap of reads with earlier writes, the dispatch and request rings, releases, and what a reset does to a tag.
-/

namespace Sys2Proof.Machine

/-! ### Submission entries -/

def sqOp (q : List Byte) : Nat := fieldLe q 0 1
def sqCid (q : List Byte) : Nat := fieldLe q 2 2
def sqNsid (q : List Byte) : Nat := fieldLe q 4 4
/-- Command dword n. -/
def sqDw (q : List Byte) (n : Nat) : Nat := fieldLe q (4 * n) 4
def sqSlba (q : List Byte) : Nat := fieldLe q 40 8
/-- Blocks of a command with a 0's based NLB field. -/
def sqCount (q : List Byte) : Nat := sqDw q 12 % 65536 + 1

/-! I/O opcodes (file 10). -/
def opFlush : Nat := 0x00
def opWrite : Nat := 0x01
def opRead : Nat := 0x02
def opCompare : Nat := 0x05
def opZeroes : Nat := 0x08
def opDsm : Nat := 0x09
def opVerify : Nat := 0x0C
def opAppend : Nat := 0x7D

/-- A read-class command (R345), and a write of R354, among I/O commands. -/
def isReadOp (o : Nat) : Bool := decide (o = opRead) || decide (o = opCompare) || decide (o = opVerify)
def isWriteOp (o : Nat) : Bool := decide (o = opWrite) || decide (o = opZeroes) || decide (o = opDsm) || decide (o = opAppend)
/-- Whether a write brings data from the host. -/
def bringsData (o : Nat) : Bool := decide (o = opWrite) || decide (o = opAppend)

def Tag.op (t : Tag) : Nat := sqOp t.sqe
def Tag.io (t : Tag) : Bool := decide (t.sqid ≠ 0)
def Tag.isRead (t : Tag) : Bool := t.io && isReadOp t.op
def Tag.isWrite (t : Tag) : Bool := t.io && isWriteOp t.op

/-! ### Statuses: the NVMe status field without its phase bit: SC [7:0], SCT [10:8], DNR [14] -/

def nvStatus (sct sc dnr : Nat) : Nat := sc + 256 * sct + 16384 * dnr

/-- Success, and the codes of the manual and of NVMe, with DNR 0. -/
def stOk : Nat := 0
def stOpcode : Nat := nvStatus 0 0x01 0
def stField : Nat := nvStatus 0 0x02 0
def stTransfer : Nat := nvStatus 0 0x04 0
def stAborted : Nat := nvStatus 0 0x07 0
def stSqDeleted : Nat := nvStatus 0 0x08 0
def stNamespace : Nat := nvStatus 0 0x0B 0
def stSequence : Nat := nvStatus 0 0x0C 0
def stLba : Nat := nvStatus 0 0x80 0
def stNotReady : Nat := nvStatus 0 0x82 0
def stReservation : Nat := nvStatus 0 0x83 0
def stFormatting : Nat := nvStatus 0 0x84 0
def stQueues : Nat := nvStatus 0 0xC0 0
def stCqInvalid : Nat := nvStatus 1 0x00 0
def stQid : Nat := nvStatus 1 0x01 0
def stQsize : Nat := nvStatus 1 0x02 0
def stAerLimit : Nat := nvStatus 1 0x05 0
def stVector : Nat := nvStatus 1 0x08 0
def stLogPage : Nat := nvStatus 1 0x09 0
def stFormat : Nat := nvStatus 1 0x0A 0
def stQdel : Nat := nvStatus 1 0x0C 0
def stPi : Nat := nvStatus 1 0x81 0
def stZoneBoundary : Nat := nvStatus 1 0xB8 0
def stZoneFull : Nat := nvStatus 1 0xB9 0
def stZoneRo : Nat := nvStatus 1 0xBA 0
def stZoneOff : Nat := nvStatus 1 0xBB 0
def stZoneWrite : Nat := nvStatus 1 0xBC 0
def stActive : Nat := nvStatus 1 0xBD 0
def stOpen : Nat := nvStatus 1 0xBE 0
def stTransition : Nat := nvStatus 1 0xBF 0
def stPrpOffset : Nat := nvStatus 0 0x13 0
def stSglType : Nat := nvStatus 0 0x11 0
def stUnwritten : Nat := nvStatus 2 0x87 0
def stGuard : Nat := nvStatus 2 0x82 1
def stAppTag : Nat := nvStatus 2 0x83 1
def stRefTag : Nat := nvStatus 2 0x84 1
def stCompare : Nat := nvStatus 2 0x85 1

/-- A failure whose DNR the manual leaves open: the bit is free. -/
def State.openDnr (s : State) (st : Nat) : Nat × State :=
  let (d, s) := s.draw 30
  (st + 16384 * (d % 2), s)

/-! ### Namespaces -/

/-- Namespace index i as the format tables have it (R262, R300, R310): first zone, zones, zoned. It is a run of zones of its own among the 524,288 of
the drive (R261, R327). -/
def State.nsInfo (s : State) (i : Nat) : Option (Nat × Nat × Bool) :=
  match s.img with
  | none => none
  | some im =>
    if i < 16 ∧ i < im.nsMax then
      let n := Config.namespaceOf im.fmtDigest i
      let apart := (List.range i).all (fun j =>
        let m := Config.namespaceOf im.fmtDigest j
        decide (n.1 + n.2.1 ≤ m.1) || decide (m.1 + m.2.1 ≤ n.1))
      if n.2.1 = 0 ∨ 0x80000 < n.1 + n.2.1 ∨ apart = false then none else some n
    else none

def State.ns (s : State) (i : Nat) : Ns := atD s.host.ns i Ns.reset
def State.modHost (s : State) (f : HostIf → HostIf) : State := { s with host := f s.host }
def State.modNs (s : State) (i : Nat) (f : Ns → Ns) : State := s.modHost (fun h => { h with ns := modAt h.ns i f })
def State.modCtrl (s : State) (c : Nat) (f : Ctrl → Ctrl) : State := s.modHost (fun h => { h with ctrls := modAt h.ctrls c f })

/-- The first DLBA of a namespace (R261). -/
def State.nsBase (s : State) (i : Nat) : Nat :=
  match s.nsInfo i with
  | some n => 65536 * n.1
  | none => 0

/-- Metadata bytes of an LBA format (R311). -/
def fmtMeta (f : Nat) : Nat := if f = 1 then 8 else if f = 2 then 16 else if f = 3 then 64 else 0

/-! ### Protection information (R311), in NVMe's format with a 64-bit guard and no storage tag -/

/-- The type of a namespace's protection information, 0 for none, and whether it lies in the first bytes of the metadata. -/
def Ns.piType (n : Ns) : Nat := n.pi % 4
def Ns.piFirst (n : Ns) : Bool := decide (n.pi / 4 % 2 = 1)

/-- PRINFO's PRACT, and its checks of the guard, the application tag and the reference tag. -/
def pract (q : List Byte) : Bool := bitOf (sqDw q 12) 29
def prchkGuard (q : List Byte) : Bool := bitOf (sqDw q 12) 28
def prchkApp (q : List Byte) : Bool := bitOf (sqDw q 12) 27
def prchkRef (q : List Byte) : Bool := bitOf (sqDw q 12) 26

/-- A command's initial reference tag, 48 bits; its application tag, and the mask of the application tag's check. -/
def sqRef (q : List Byte) : Nat := sqDw q 14 + 2 ^ 32 * (sqDw q 3 % 65536)
def sqApp (q : List Byte) : Nat := sqDw q 15 % 65536
def sqAppMask (q : List Byte) : Nat := sqDw q 15 / 65536

/-- The reference tag of block k of a command: it counts up in types 1 and 2. -/
def Ns.refOf (n : Ns) (q : List Byte) (k : Nat) : Nat := (if n.piType = 3 then sqRef q else sqRef q + k) % 2 ^ 48

/-- The 16 bytes of protection information in a block's metadata, and the metadata its guard covers besides the data. -/
def Ns.piOf (n : Ns) (md : List Byte) : List Byte := if n.piFirst then slice md 0 16 else slice md (fmtMeta n.fmt - 16) 16
def Ns.guarded (n : Ns) (md : List Byte) : List Byte := if n.piFirst then [] else md.take (fmtMeta n.fmt - 16)

/-- A block's metadata with protection information generated for it. -/
def Ns.withPi (n : Ns) (q data md : List Byte) (k : Nat) : List Byte :=
  let pi := toBe 8 (guard64 (data ++ n.guarded md)) ++ toBe 2 (sqApp q) ++ toBe 6 (n.refOf q k)
  overlay (slice md 0 (fmtMeta n.fmt)) (if n.piFirst then 0 else fmtMeta n.fmt - 16) pi

/-- What checking the protection information of block k as PRINFO directs finds: none, or the status of R314. An application tag of FFFFh, in type 3
with a reference tag of all ones, turns checking off. -/
def Ns.piFails (n : Ns) (q data md : List Byte) (k : Nat) : Option Nat :=
  let pi := n.piOf md
  let be := fun o c => leNat ((slice pi o c).reverse)
  if n.piType = 0 ∨ (be 8 2 = 0xFFFF ∧ (n.piType ≠ 3 ∨ be 10 6 = 2 ^ 48 - 1)) then none
  else if prchkGuard q ∧ be 0 8 ≠ guard64 (data ++ n.guarded md) then some stGuard
  else if prchkApp q ∧ Nat.land (Nat.xor (be 8 2) (sqApp q)) (sqAppMask q) ≠ 0 then some stAppTag
  else if prchkRef q ∧ n.piType ≠ 3 ∧ be 10 6 ≠ n.refOf q k then some stRefTag
  else none

/-- The first of a command's blocks, by number, whose protection information fails its check. -/
def Ns.piBlocks (n : Ns) (q : List Byte) (blocks : List (List Byte × List Byte)) : Option (Nat × Nat) :=
  (blocks.zipIdx.filterMap (fun b => (n.piFails q b.1.1 b.1.2 b.2).map (fun st => (b.2, st)))).head?

/-- Metadata bytes of a block that pass between the host and the part: with PRACT set none where the metadata is protection information alone, which
the front end inserts or strips. -/
def Ns.hostMeta (n : Ns) (q : List Byte) : Nat := if n.piType ≠ 0 ∧ pract q = true ∧ fmtMeta n.fmt = 16 then 0 else fmtMeta n.fmt

/-- The bytes of a data buffer and of a metadata buffer that hold blocks (R311): in the extended LBA each block's metadata follows its data; else
it lies in the buffer of its own. -/
def Ns.buffers (n : Ns) (q : List Byte) (blocks : List (List Byte × List Byte)) : List Byte × List Byte :=
  let m := n.hostMeta q
  if n.ext then ((blocks.map (fun b => b.1 ++ slice b.2 0 m)).flatten, [])
  else ((blocks.map (fun b => b.1)).flatten, (blocks.map (fun b => slice b.2 0 m)).flatten)

/-- Block k as a write's data and metadata buffers bring it, with protection information inserted where PRACT is set (R311). -/
def Ns.fromHost (n : Ns) (q data md : List Byte) (k : Nat) : List Byte × List Byte :=
  let m := n.hostMeta q
  let d := if n.ext then slice data ((4096 + m) * k) 4096 else slice data (4096 * k) 4096
  let w := slice (if n.ext then slice data ((4096 + m) * k + 4096) m else slice md (m * k) m) 0 (fmtMeta n.fmt)
  (d, if n.piType ≠ 0 ∧ pract q = true then n.withPi q d w k else w)

/-! ### Tags -/

def State.tag (s : State) (t : Nat) : Option Tag := look t s.host.tags
def State.setTag (s : State) (t : Nat) (x : Tag) : State := s.modHost (fun h => { h with tags := place t x h.tags })
def State.dropTag (s : State) (t : Nat) : State := s.modHost (fun h => { h with tags := remove t h.tags })

/-- The range of a tag's command in the drive's blocks. -/
def State.tagDlba (s : State) (t : Tag) : Nat := s.nsBase (sqNsid t.sqe - 1) + sqSlba t.sqe

/-- Fix a command's completion: its tag is Completing (R338). -/
def State.finish (s : State) (t : Nat) (x : Tag) (status dw0 dw1 : Nat) : State :=
  s.setTag t { x with st := .completing, status := status, dw0 := dw0, dw1 := dw1 }

/-- A command that fails with a status whose DNR the manual leaves open. -/
def State.failTag (s : State) (t : Nat) (x : Tag) (status : Nat) : State :=
  let (st, s) := s.openDnr status
  s.finish t x st 0 0

/-! ### Range entries -/

/-- The owner name of a range entry, of a tag (R381). -/
def wrtName (i : Nat) : Nat := 0x20000 + i
def tagName (t : Nat) : Nat := 0x10000 + t

def State.wrt (s : State) (i : Nat) : Option Wrt := look i s.host.wrts
def State.setWrt (s : State) (i : Nat) (w : Wrt) : State := s.modHost (fun h => { h with wrts := place i w h.wrts })

/-- Remove a range entry (R347, R349): Stacks loses its name on each buffer, and no command names it any more. -/
def State.dropWrt (s : State) (i : Nat) : State :=
  match s.wrt i with
  | none => s
  | some w =>
    let s := w.bufs.foldl (fun s h => s.stkDrop h (wrtName i)) s
    s.modHost (fun h => { h with
      wrts := remove i h.wrts
      tags := h.tags.map (fun e => (e.1, { e.2 with wrts := e.2.wrts.filter (fun k => decide (k ≠ i)) })) })

/-- FETCHING may resume (R307, R343): a tag and a range entry are free. -/
def State.canResume (s : State) : Bool := decide (0 < s.tagsFree) && decide (s.host.wrts.length < 32768)

/-! ### The dispatch ring -/

def State.tdLen (s : State) : Nat := ringLenTo 12 (s.get TD_CFG_LEN)
def State.tdRoom (s : State) : Bool := decide (ringUsed s.tdLen (s.num TD_HEAD) (s.num TD_TAIL) < s.tdLen - 1)

/-- Write a 128 B entry at TD_HEAD, which advances, and event 36. -/
def State.tdPut (s : State) (bytes : List Byte) : State :=
  let h := s.num TD_HEAD % s.tdLen
  ((s.hsWrite (64 * s.get TD_CFG_BASE + 128 * h) (slice bytes 0 128)).setNum TD_HEAD ((h + 1) % s.tdLen)).raise 36

/-- Write the notices that wait, as far as the ring has room (R350). -/
def drainNotices : Nat → State → State
  | 0, s => s
  | n + 1, s =>
    match s.host.notices with
    | [] => s
    | b :: t => if s.tdRoom then drainNotices n ((s.tdPut b).modHost (fun h => { h with notices := t })) else s

def State.drain (s : State) : State := drainNotices s.host.notices.length s

/-- A notice for a Dispatched or Media command that is aborted or dropped (R350). -/
def State.notice (s : State) (t : Nat) (x : Tag) (aborted : Bool) : State :=
  let flags := ofBool x.isWrite + 2 * ofBool x.isRead + 8 + 16 * ofBool aborted
  let bytes := List.replicate 64 0 ++ toLe 2 t ++ toLe 2 x.ctrl ++ toLe 2 x.sqid ++ toLe 2 flags ++ List.replicate 56 0
  (s.modHost (fun h => { h with notices := h.notices ++ [bytes] })).drain

/-! ### Asynchronous events (R300, R310, R321, R326) -/

/-- Dword 0 of an asynchronous event: type, information, log page. -/
def aenDword (type info lid : Nat) : Nat := type + 256 * info + 65536 * lid
/-- SMART critical warnings of reliability, temperature and volatile memory backup; namespace attribute changed; zones
changed. -/
def aenReliability : Nat := aenDword 1 0 2
def aenTemperature : Nat := aenDword 1 1 2
def aenNamespace : Nat := aenDword 2 0 4
def aenZones : Nat := aenDword 2 0xEF 0xBF
def aenActivation : Nat := aenDword 2 1 3

/-- Whether a controller's Asynchronous Event Configuration lets an event through: SMART by bits 7:0, notices by their own bit;
a feature never set lets every event through. -/
def Ctrl.aenOn (k : Ctrl) (dw : Nat) : Bool :=
  match look 0x0B k.feats with
  | none => true
  | some v =>
    if dw = aenReliability then bitOf v 2
    else if dw = aenTemperature then bitOf v 1
    else if dw = aenNamespace then bitOf v 8
    else if dw = aenActivation then bitOf v 9
    else if dw = aenZones then bitOf v 27
    else true

/-- Report an event to a controller: a held request completes with it, else it waits. -/
def State.aen (s : State) (c dw : Nat) : State :=
  let k := s.ctrl c
  if k.en = false ∨ k.aenOn dw = false then s
  else
    match k.aers with
    | t :: rest =>
      let s := s.modCtrl c (fun k => { k with aers := rest })
      match s.tag t with
      | some x => s.finish t x stOk dw 0
      | none => s
    | [] => s.modCtrl c (fun k => if k.events.contains dw then k else { k with events := k.events ++ [dw] })

/-- Report an event to every enabled controller. -/
def State.aenAll (s : State) (dw : Nat) : State := (List.range 64).foldl (fun s c => s.aen c dw) s

/-! ### Ends of commands -/

/-- A counter of TCNT_SAT (R69). -/
def State.tagCount (s : State) (cnt bit : Nat) : State := s.countSat cnt TCNT_SAT_SAT bit 1

/-- Release the buffers a reader owns. -/
def State.releaseReads (s : State) (t : Nat) (x : Tag) : State := x.bufs.foldl (fun s h => s.stkDrop h (tagName t)) s

/-- A Format that is dropped or aborted is under way no more (R318). -/
def State.endFormat (s : State) (x : Tag) : State :=
  if x.io = false ∧ x.op = 0x80 ∧ x.begun = true then
    (List.range 16).foldl (fun s i =>
      if sqNsid x.sqe = i + 1 ∨ sqNsid x.sqe = 0xFFFFFFFF then s.modNs i (fun n => { n with formatting := false }) else s) s
  else s

/-- A held Asynchronous Event Request that ends is held no more. -/
def State.dropAer (s : State) (t : Nat) (x : Tag) : State :=
  if x.acts < 64 then s.modCtrl x.acts (fun k => { k with aers := k.aers.filter (fun a => decide (a ≠ t)) }) else s

/-- Free a tag with no completion (R339, R367). -/
def State.freeTag (s : State) (t : Nat) (x : Tag) : State :=
  let s := x.wrts.foldl (fun s i => s.dropWrt i) ((s.endFormat x).dropAer t x)
  ((s.releaseReads t x).dropTag t).tagCount DROPPED 2

/-- What a reset of its controller does to a tag (R367, R368, R370): a Fetched or Dispatched command and a read in Media are freed,
the latter two with a notice; a write in Media is detached and runs on; a completion not yet posted is suppressed. -/
def State.resetTag (s : State) (t : Nat) : State :=
  match s.tag t with
  | none => s
  | some x =>
    match x.st with
    | .fetched => s.freeTag t x
    | .dispatched => (s.freeTag t x).notice t x false
    | .media => if x.isWrite then s.setTag t { x with detached := true, silent := true } else (s.freeTag t x).notice t x false
    | .completing => ((s.releaseReads t x).dropTag t).tagCount DROPPED 2

/-- Abort a tag's command (R348, R349, R350), where its state allows. -/
def State.abortTag (s : State) (t : Nat) (x : Tag) (status : Nat) : Bool × State :=
  let ok := match x.st with
    | .fetched => true
    | .dispatched => true
    | .media => x.isRead
    | .completing => false
  if ok then
    let s := x.wrts.foldl (fun s i => s.dropWrt i) ((s.endFormat x).dropAer t x)
    let s := s.releaseReads t x
    let s := s.finish t { x with wrts := [], bufs := [], hits := [] } status 0 0
    (true, if x.st = .fetched then s else s.notice t x true)
  else (false, s)

/-! ### Reads (R345) -/

/-- The live entry that serves a block to a read of a given FSEQ: the one with the highest FSEQ below it. -/
def State.coverOf (s : State) (fseq x : Nat) : Option (Nat × Wrt) :=
  (s.host.wrts.filter (fun e => decide (e.2.fseq < fseq) && decide (e.2.dlba ≤ x) && decide (x < e.2.dlba + e.2.count))).foldl
    (fun best e => match best with
      | none => some e
      | some b => if b.2.fseq < e.2.fseq then some e else best) none

/-- Whether a block of a read's range must wait for an entry still ARRIVING. -/
def State.arriving (s : State) (t : Tag) : Bool :=
  (List.range (sqCount t.sqe)).any (fun k =>
    match s.coverOf t.fseq (s.tagDlba t + k) with
    | some (_, w) => !w.held
    | none => false)

/-- Register a reader on a buffer (R345): ADD; a buffer with four owners is copied to a fresh one. The handle read from, or none
while no fresh buffer is to be had. -/
def State.ownBuffer (s : State) (t i h : Nat) : Option Nat × State :=
  let r := s.stkAdd h (wrtName i) (tagName t)
  if r.1.status = skOk ∨ r.1.status = skDup then (some h, r.2)
  else if r.1.status = skFull then
    let a := r.2.stkAlloc (r.2.get STK_HWPOOL_COPY) (tagName t) false
    if a.1.status = skOk then
      let src := dramBase + handleIndex h * 0x1000
      let dst := dramBase + handleIndex a.1.handle * 0x1000
      match a.2.physRead 11 src 4096 with
      | (some bs, s) => (some a.1.handle, (s.physWrite 11 dst bs).2)
      | (none, s) => (some a.1.handle, s)
    else (none, a.2)
  else (some h, r.2)

/-- Take block k of a read's range: what the front end serves it with, if an entry covers it. -/
def State.takeHit (t : Nat) (acc : (Tag × Bool) × State) (k : Nat) : (Tag × Bool) × State :=
  let x := acc.1.1
  let s := acc.2
  match s.coverOf x.fseq (s.tagDlba x + k) with
  | none => acc
  | some (i, w) =>
    if w.kind = .write then
      let b := s.tagDlba x + k - w.dlba
      match s.ownBuffer t i (w.bufs.getD b 0) with
      | (some h, s) => (({ x with hits := x.hits ++ [(k, (some h, slice w.md (64 * b) 64))],
                                   bufs := if x.bufs.contains h then x.bufs else x.bufs ++ [h] }, acc.1.2), s)
      | (none, s) => ((x, false), s)
    else (({ x with hits := x.hits ++ [(k, (none, if w.kind = .zeroes then slice w.md (64 * (s.tagDlba x + k - w.dlba)) 64 else []))] }, acc.1.2), s)

/-- Resolve a read against the write range table (R345): the tag with its hits, or none while it must wait. -/
def State.resolveRead (s : State) (t : Nat) (x : Tag) : Option Tag × State :=
  if s.arriving x then (none, s)
  else
    let r := (List.range (sqCount x.sqe)).foldl (State.takeHit t) ((({ x with hits := [] } : Tag), true), s)
    if r.1.2 then (some { r.1.1 with begun := true, need := 0 }, r.2)
    else (none, r.2.setTag t { r.1.1 with hits := [], need := 1 })

/-! ### Writes (R342, R357, R384) -/

/-- A write's data still to be admitted to the protected set comes after every such write fetched before it. -/
def State.firstHeld (s : State) (x : Tag) : Bool :=
  !(s.host.tags.any (fun e => decide (e.2.st = .fetched) && e.2.io && bringsData e.2.op && !e.2.begun && decide (e.2.fseq < x.fseq)))

/-- Writes may proceed: no dump that holds entries or journal records waits to be destaged and armed away (R365); the empty dump of a rung 3
entry holds no write up (R515). -/
def State.restored (s : State) : Bool :=
  !(decide (s.get PLP_STAT_DUMP_STATE = 3) && (match s.dump with | some d => !d.entries.isEmpty || !d.journal.isEmpty | none => false))

/-- What the entries of writes whose data has been accepted and still arrives will add to P (R357). -/
def State.acceptedBytes (s : State) : Nat :=
  (s.host.tags.filter (fun e => decide (e.2.st = .fetched) && e.2.io && bringsData e.2.op && e.2.begun)).foldl (fun n e =>
    e.2.wrts.foldl (fun n i => match s.wrt i with | some w => if w.held then n else n + 4168 * w.count + 64 | none => n) n) 0

/-- Whether accepting a write's data would make P exceed DIRTY_EFF (R357), with the data already accepted counted. -/
def State.overDirty (s : State) (blocks : Nat) : Bool :=
  decide (s.cacheMode = 0) && decide (s.get PLP_STAT_DIRTY_EFF * 0x100000 < s.protUsed + s.acceptedBytes + 4168 * blocks + 64)

/-- `n` more buffers of a pool for an owner: those got, and how many are still wanted. -/
def allocBufs (pool name : Nat) : Nat → List Nat → State → (List Nat × Nat) × State
  | 0, got, s => ((got, 0), s)
  | n + 1, got, s =>
    let a := s.stkAlloc pool name false
    if a.1.status = skOk then allocBufs pool name n (got ++ [a.1.handle]) a.2 else ((got, n + 1), a.2)

/-- Buffers for `n` more blocks of a range entry, from pool WDATA (R384). -/
def allocWrite (i n : Nat) (got : List Nat) (s : State) : (List Nat × Nat) × State :=
  allocBufs (s.get STK_HWPOOL_WDATA) (wrtName i) n got s

/-- The buffers of a read that no range entry serves. -/
def Tag.mediaBufs (x : Tag) : List Nat := x.bufs.filter (fun h => !(x.hits.any (fun e => decide (e.2.1 = some h))))

/-- Buffers from pool RDATA for the blocks of a read that come from the media (R384): with too few the read waits in Fetched. -/
def State.readBuffers (s : State) (t : Nat) (x : Tag) : Tag × State :=
  let n := sqCount x.sqe - x.hits.length - x.mediaBufs.length
  let r := allocBufs (s.get STK_HWPOOL_RDATA) (tagName t) n [] s
  ({ x with bufs := x.bufs ++ r.1.1, need := r.1.2 }, r.2)

/-- Begin a write's data transfer (R357, R384, R404): refused without a valid key, held while the protected set has no room, an earlier
write is held or a restore is unfinished, else it takes its buffers. -/
def State.admitWrite (s : State) (t : Nat) (x : Tag) : State :=
  match x.wrts with
  | [] => s
  | i :: _ =>
    match s.wrt i with
    | none => s
    | some w =>
      if s.keyless w.ns then
        (s.dropWrt i).finish t { x with wrts := [] } stNotReady 0 0
      else if x.begun = false ∧ (s.firstHeld x = false ∨ s.overDirty w.count ∨ s.restored = false) then s
      else
        let r := allocWrite i (w.count - w.bufs.length) w.bufs s
        (r.2.setWrt i { w with bufs := r.1.1, key := if x.begun then w.key else atD s.keys w.ns none }).setTag t
          { x with begun := true, need := r.1.2 }

/-- HW_ALLOC_RETRY (R384): the first command that waits for a buffer of the pool tries again. -/
def hwRetry (p : Nat) (s : State) : State :=
  let waits := s.host.tags.filter (fun e =>
    decide (e.2.st = .fetched) && decide (e.2.need ≠ 0) &&
      decide ((if e.2.isWrite then s.get STK_HWPOOL_WDATA else if e.2.begun then s.get STK_HWPOOL_RDATA else s.get STK_HWPOOL_COPY) = p))
  let first := waits.foldl (fun (b : Option (Nat × Tag)) e => match b with
    | none => some e
    | some x => if e.2.fseq < x.2.fseq then some e else b) none
  match first with
  | none => s
  | some (t, x) =>
    if s.get (POOL_STAT_FREE p) = 0 then s
    else if x.isWrite then s.admitWrite t x
    else if x.begun then
      let r := s.readBuffers t x
      r.2.setTag t r.1
    else
      match s.resolveRead t x with
      | (some y, s) => s.setTag t y
      | (none, s) => s

def execHwAllocRetry (pool : Fin 16) (s : State) : Host.Outcome State Fault Refusal := .next (hwRetry pool s)

/-- WRITE_ADMIT (R357). -/
def writeAdmit (t : Nat) (s : State) : State :=
  match s.tag t with
  | some x => if x.st = .fetched ∧ x.io ∧ bringsData x.op ∧ x.begun = false then s.admitWrite t x else s
  | none => s

def execWriteAdmit (tag : TagNo) (s : State) : Host.Outcome State Fault Refusal := .next (writeAdmit tag s)

/-- The write an entry belongs to. -/
def State.writerOf (s : State) (i : Nat) : Option (Nat × Tag) := s.host.tags.find? (fun e => e.2.wrts.contains i)

/-- Store a write's blocks in its buffers, each encrypted under the key its transfer began with (R402, R404); false where one is not stored. -/
def State.storeBlocks (s : State) (w : Wrt) (blocks : List (List Byte × List Byte)) : Bool × State :=
  blocks.zipIdx.foldl (fun (acc : Bool × State) b =>
    if acc.1 = false then acc
    else
      match acc.2.cipherBy w.key true (w.dlba + b.2) b.1.1 with
      | none => (false, acc.2)
      | some bs => acc.2.physWrite 9 (dramBase + handleIndex (w.bufs.getD b.2 0) * 0x1000) bs) (true, s)

/-- WRITE_DATA_ARRIVE (R269, R311, R342, R402): the last block of an ARRIVING entry's data is in DRAM, encrypted, and the entry is HELD. `data` and
`md` are the bytes of the host's data and metadata buffers. Protection information is inserted or checked as PRINFO directs; a block that fails ends
the command. The metadata field holds the namespace's metadata from its byte 0, and zeros after it. -/
def dataArrive (i : Nat) (data md : List Byte) (s : State) : State :=
  match s.wrt i, s.writerOf i with
  | some w, some (t, x) =>
    if w.held ∨ w.kind ≠ .write ∨ w.bufs.length ≠ w.count ∨ s.host.stopped then s
    else
      let n := s.ns w.ns
      let blocks := (List.range w.count).map (n.fromHost x.sqe data md)
      match if pract x.sqe then none else n.piBlocks x.sqe blocks with
      | some (k, st) => (x.wrts.foldl (fun s j => s.dropWrt j) s).finish t { x with wrts := [], badLba := some (w.dlba + k - s.nsBase w.ns) } st 0 0
      | none =>
        let r := s.storeBlocks w blocks
        if r.1 then r.2.setWrt i { w with held := true, key := none, md := (blocks.map (fun b => slice b.2 0 64)).flatten } else r.2
  | _, _ => s

def execWriteDataArrive (entry : WrtNo) (data md : List Byte) (s : State) : Host.Outcome State Fault Refusal :=
  .next (dataArrive entry data md s)

/-! ### Dispatch (R341) -/

/-- Whether a Fetched command is ready for drive firmware (R341, R345): a write when all its data is in DRAM; a read when its
range is resolved; any other at once, but those the front end completes itself. -/
def State.ready (s : State) (x : Tag) : Bool :=
  if s.get LADDER_STAT_RUNG ≠ 0 then false
  else if x.isWrite then s.restored && x.wrts.all (fun i => match s.wrt i with | some w => w.held | none => true)
  else if x.isRead then x.begun
  else if x.io then decide (x.op ≠ opFlush)
  else decide (x.op ≠ 0x08) && decide (x.op ≠ 0xC6)

/-- A list written into HUB SRAM for drive firmware, at a place the manual does not give: a free address, 64 B aligned, in the general area. -/
def State.listOut (s : State) (what : Nat) (bs : List Byte) : Nat × State :=
  let (d, s) := s.draw what
  let a := d % 0x3000 * 64
  (a, s.hsWrite a bs)

/-- The hit map of a read (R345): bit k for block k of its range, set where an entry serves it. -/
def Tag.hitMap (x : Tag) : List Byte :=
  toLe ((sqCount x.sqe + 7) / 8) ((List.range (sqCount x.sqe)).foldl (fun m k => if (look k x.hits).isSome then m + 2 ^ k else m) 0)

/-- The Stacks handles of a command: of a write's entries, of a read's blocks from the media. -/
def State.handleList (s : State) (x : Tag) : List Nat :=
  if x.isWrite then x.wrts.flatMap (fun i => match s.wrt i with | some w => w.bufs | none => []) else x.mediaBufs

/-- The 128 B dispatch entry (file 11). Where the hit map and the handle list lie the manual does not say, nor their layout: those addresses are
free; bit k of the map stands for block k, and a handle takes 4 bytes. -/
def State.dispatchBytes (s : State) (t : Nat) (x : Tag) : List Byte × State :=
  let hit := x.isRead && !(x.hits.isEmpty)
  let flags := ofBool x.isWrite + 2 * ofBool x.isRead + 4 * ofBool hit
  let ranged := x.isWrite || x.isRead
  let (hitAt, s) := if hit then s.listOut 31 x.hitMap else (0, s)
  let (bufs, s) := if ranged then s.listOut 32 ((s.handleList x).flatMap (fun h => toLe 4 h)) else (0, s)
  let wrt := if x.isWrite then x.wrts.headD 0 else hitAt
  (x.sqe ++ toLe 2 t ++ toLe 2 x.ctrl ++ toLe 2 x.sqid ++ toLe 2 flags ++ toLe 8 (if ranged then s.tagDlba x else 0) ++
    toLe 4 (if ranged then sqCount x.sqe else 0) ++ toLe 4 wrt ++ toLe 8 x.fseq ++ toLe 8 (if ranged then sramBase + bufs else 0) ++ List.replicate 24 0, s)

/-- Commands of the management endpoint and of the host on one controller are served in arrival order (R336): no earlier one of the other kind
that could be dispatched waits. -/
def State.inTurn (s : State) (x : Tag) : Bool :=
  !(s.host.tags.any (fun e => decide (e.2.st = .fetched) && decide (e.2.acts = x.acts) && decide ((e.2.ctrl = 0xFFFF) ≠ (x.ctrl = 0xFFFF)) &&
    decide (e.2.fseq < x.fseq) && s.ready e.2 && decide (e.2.need = 0)))

/-- DISPATCH (R336, R339, R341, R384): with EN, rung 0, room in the ring and buffers for what a read takes from the media, the entry is written
and the tag is Dispatched. -/
def dispatchTag (t : Nat) (s : State) : State :=
  let s := s.drain
  match s.tag t with
  | none => s
  | some x =>
    if x.st = .fetched ∧ s.flag TAG_CTL_EN ∧ s.tdRoom ∧ s.get LADDER_STAT_RUNG = 0 ∧ s.ready x ∧ x.need = 0 ∧ s.inTurn x = true then
      let r := if x.isRead then s.readBuffers t x else (x, s)
      if r.1.need ≠ 0 then r.2.setTag t r.1
      else
        let (b, s) := r.2.dispatchBytes t r.1
        (s.tdPut b).setTag t { r.1 with st := .dispatched }
    else s

def execTagDispatch (tag : TagNo) (s : State) : Host.Outcome State Fault Refusal := .next (dispatchTag tag s)

/-! ### Firmware requests (R339, R340, R351) -/

def State.tcLen (s : State) : Nat := ringLenTo 12 (s.get TC_CFG_LEN)

/-- The request at TC_TAIL, with its address; none where the ring is empty. -/
def State.tcNext (s : State) : Option (Nat × List Byte) :=
  if ringUsed s.tcLen (s.num TC_HEAD) (s.num TC_TAIL) = 0 then none
  else
    let a := 64 * s.get TC_CFG_BASE + 16 * (s.num TC_TAIL % s.tcLen)
    some (a, s.hsBytes a 16)

/-- Consume a request with a result (file 11): 0 accepted, 1 STALE, 2 EARLY. -/
def State.tcDone (s : State) (a result : Nat) : State :=
  let s := (s.hsWrite (a + 15) (toLe 1 result)).setNum TC_TAIL ((s.num TC_TAIL % s.tcLen + 1) % s.tcLen)
  if result = 1 then s.noteBit tagErr 0 else if result = 2 then s.noteBit tagErr 1 else s

/-- Whether the cache mode allows a write to complete successfully (R351). -/
def State.mayComplete (s : State) (x : Tag) : Bool :=
  if s.cacheMode = 1 then x.wrts.isEmpty
  else x.wrts.all (fun i => match s.wrt i with | some w => w.held | none => true)

/-- The entries of a completed write take the namespace's next CSEQ (R352). -/
def State.giveCseq (s : State) (x : Tag) : State :=
  let i := sqNsid x.sqe - 1
  let n := (s.ns i).cseq + 1
  let s := s.modNs i (fun k => { k with cseq := n })
  x.wrts.foldl (fun s j => match s.wrt j with | some w => s.setWrt j { w with cseq := some n } | none => s) s

/-- A block a read's hit gives, in the clear: the buffer's data decrypted, or zeros (R345, R312). -/
def State.hitBlock (s : State) (x : Tag) (k : Nat) (src : Option Nat) : Option (List Byte) × State :=
  match src with
  | none => (some (List.replicate 4096 0), s)
  | some h =>
    match s.physRead 9 (dramBase + handleIndex h * 0x1000) 4096 with
    | (none, s) => (none, s)
    | (some bs, s) => (s.cipher false (sqNsid x.sqe - 1) (s.tagDlba x + k) bs, s)

/-- Metadata of a block that reads as zeros (R312): zero, but protection information all FFh. -/
def Ns.zeroMd (n : Ns) : List Byte :=
  let m := fmtMeta n.fmt
  if n.pi % 4 = 0 ∨ m < 16 then List.replicate m 0
  else if n.pi / 4 % 2 = 1 then List.replicate 16 0xFF ++ List.replicate (m - 16) 0
  else List.replicate (m - 16) 0 ++ List.replicate 16 0xFF

/-- The blocks of a read in the clear, each with the namespace's metadata, which the rest of the 64 B field follows unread (R269); a block no entry
serves comes from `media`, in order (R345). None where a block's data fails (R397). -/
def State.readData (s : State) (x : Tag) (media : List (List Byte)) : Option (List (List Byte × List Byte)) × State :=
  let md := fmtMeta (s.ns (sqNsid x.sqe - 1)).fmt
  let r := (List.range (sqCount x.sqe)).foldl (fun (acc : (Option (List (List Byte × List Byte)) × List (List Byte)) × State) k =>
    match acc.1.1 with
    | none => acc
    | some done =>
      match look k x.hits with
      | some (src, m) =>
        match acc.2.hitBlock x k src with
        | (some b, s) => ((some (done ++ [(b, if m.isEmpty then (s.ns (sqNsid x.sqe - 1)).zeroMd else slice m 0 md)]), acc.1.2), s)
        | (none, s) => ((none, acc.1.2), s)
      | none =>
        let b := acc.1.2.headD []
        let d := acc.2.cipher false (sqNsid x.sqe - 1) (acc.2.tagDlba x + k) (slice b 0 4096)
        match d with
        | some d => ((some (done ++ [(d, slice b 4096 md)]), acc.1.2.drop 1), acc.2)
        | none => ((none, acc.1.2), acc.2)) ((some [], media), s)
  (r.1.1, r.2)

/-- End a failed read, whose first failing block, by number, may be known. -/
def State.failRead (s : State) (t : Nat) (x : Tag) (st : Nat) (k : Option Nat) : State :=
  (s.releaseReads t x).finish t { x with bufs := [], hits := [], badLba := k.map (fun k => sqSlba x.sqe + k) } st 0 0

/-- End a read-class command whose blocks are at hand: without a valid key the transfer is refused (R404); a failed one completes Data Transfer
Error (R397); protection information is checked as PRINFO directs (R311); a Compare compares with the host's buffers, the metadata buffer after the
data buffer; a Read transfers its blocks and a Verify none. -/
def State.endRead (s : State) (t : Nat) (x : Tag) (host : List Byte) (media : List (List Byte)) (dw0 dw1 : Nat) : State :=
  let n := s.ns (sqNsid x.sqe - 1)
  if s.keyless (sqNsid x.sqe - 1) then s.failRead t x stNotReady none
  else
    match s.readData x media with
    | (none, s) => s.failRead t x stTransfer none
    | (some bs, s) =>
      match n.piBlocks x.sqe bs with
      | some (k, st) => s.failRead t x st (some k)
      | none =>
        let d := n.buffers x.sqe bs
        let differs := bs.zipIdx.find? (fun b =>
          let per := (n.buffers x.sqe [b.1]).1.length
          let m := (n.buffers x.sqe [b.1]).2.length
          decide (slice host (per * b.2) per ≠ (n.buffers x.sqe [b.1]).1) || decide (slice host (d.1.length + m * b.2) m ≠ (n.buffers x.sqe [b.1]).2))
        match if x.op = opCompare then differs else none with
        | some b => s.failRead t x stCompare (some b.2)
        | none =>
          let s := (s.releaseReads t x).modHost (fun h =>
            { h with out := if x.op = opRead then d.1 else h.out, outMd := if x.op = opRead then d.2 else h.outMd })
          s.finish t { x with bufs := [], hits := [] } stOk dw0 dw1

/-- COMPLETE of tag t (R339, R340, R351). `media` is the data, with metadata, of the blocks the hit map leaves clear, as it lies in
the buffers drive firmware filled. -/
def completeTag (a : Nat) (r : List Byte) (media : List (List Byte)) (s : State) : State :=
  let t := fieldLe r 0 2
  let dw0 := fieldLe r 4 4
  let dw1 := fieldLe r 8 4
  let st := fieldLe r 12 2 % 32768
  match s.tag t with
  | none => s.tcDone a 1
  | some x =>
    if x.st = .dispatched ∨ x.st = .media then
      if st % 2048 = 0 ∧ x.isWrite ∧ s.mayComplete x = false then s.tcDone a 2
      else
        let s := s.tcDone a 0
        if x.isWrite then
          (s.giveCseq x).finish t x st (if x.op = opAppend then x.dw0 else dw0) (if x.op = opAppend then x.dw1 else dw1)
        else if x.isRead ∧ st % 2048 = 0 ∧ x.op ≠ opCompare then s.endRead t x [] media dw0 dw1
        else
          ((s.endFormat x).releaseReads t x).finish t { x with bufs := [], hits := [] } st dw0 dw1
    else s.tcDone a 1

/-- The request at the front of the ring, if it is one of a KIND; a KIND the table lacks is refused STALE. -/
def tcRow (kind : Nat) (work : Nat → List Byte → State → State) (s : State) : State :=
  match s.tcNext with
  | none => s
  | some (a, r) =>
    if fieldLe r 2 1 = kind then work a r s
    else if 1 < fieldLe r 2 1 then s.tcDone a 1
    else s

def execTagComplete (media : List (List Byte)) (s : State) : Host.Outcome State Fault Refusal :=
  .next (tcRow 0 (fun a r s => completeTag a r media s) s)

/-- MEDIA (R339): a Dispatched tag is in Media. -/
def mediaTag (a : Nat) (r : List Byte) (s : State) : State :=
  let t := fieldLe r 0 2
  match s.tag t with
  | some x => if x.st = .dispatched then (s.tcDone a 0).setTag t { x with st := .media } else s.tcDone a 1
  | none => s.tcDone a 1

def execTagMedia (s : State) : Host.Outcome State Fault Refusal := .next (tcRow 1 mediaTag s)

/-! ### Completion (R338, R339) -/

/-- An entry of the Error Information log (R314): the fields NVMe gives an error; the first failing LBA is free where the state does not say
which block failed. An image refused at a download or commit puts its code in the command-specific field (R476). -/
def State.errorEntry (s : State) (x : Tag) : State :=
  if x.ctrl < 64 then
    let (lba, s) := match x.badLba with
      | some l => (l, s)
      | none => s.draw 33
    let n := (s.ctrl x.ctrl).errors.length + 1
    let code := if x.sqid = 0 ∧ (x.op = 0x10 ∨ x.op = 0x11) ∧ x.status % 2048 = nvStatus 1 0x07 0 then s.get UPD_STAT_CODE else 0
    let e := toLe 8 n ++ toLe 2 x.sqid ++ toLe 2 (sqCid x.sqe) ++ toLe 2 (x.status * 2) ++ toLe 2 0xFFFF ++ toLe 8 lba ++
      toLe 4 (sqNsid x.sqe) ++ toLe 4 0 ++ toLe 8 code ++ List.replicate 24 0
    s.modCtrl x.ctrl (fun k => { k with errors := (e :: k.errors).take 64 })
  else s

/-- Whether an Abort's completion must wait for that of the command it aborted (R348). -/
def State.abortWaits (s : State) (x : Tag) : Bool :=
  decide (x.sqid = 0) && decide (x.op = 0x08) && decide (x.dw0 = 0) &&
    s.host.tags.any (fun e => decide (e.2.st = .completing) && decide (e.2.ctrl = x.ctrl) &&
      decide (e.2.sqid = sqDw x.sqe 10 % 65536) && decide (sqCid e.2.sqe = sqDw x.sqe 10 / 65536) &&
      decide (e.2.status % 2048 = stAborted))

/-- COMPLETION_POST (R336, R338, R339): the completion entry is posted and the tag is free; that of a management command goes out
with its data as the NVMe-MI Admin Command's response. The SQ head and phase fields belong to the
queues in host memory: they are free. A suppressed completion is not posted (R367). -/
def postTag (t : Nat) (s : State) : State :=
  match s.tag t with
  | none => s
  | some x =>
    if x.st ≠ .completing ∨ s.host.stopped ∨ s.abortWaits x then s
    else
      let s := s.dropTag t
      if x.silent then s.tagCount DROPPED 2
      else if x.ctrl = 0xFFFF then
        s.modHost (fun h => { h with mgmt := toLe 4 0 ++ toLe 4 x.dw0 ++ toLe 4 x.dw1 ++ toLe 2 0 ++ toLe 2 (x.status * 2) ++ x.data })
      else
        let s := if x.status = 0 then s else s.errorEntry x
        let (hd, s) := s.draw 34
        let cqe := toLe 4 x.dw0 ++ toLe 4 x.dw1 ++ toLe 2 hd ++ toLe 2 x.sqid ++ toLe 2 (sqCid x.sqe) ++
          toLe 2 (x.status * 2 + hd / 65536 % 2)
        s.modHost (fun h => { h with cqe := cqe })

def execCompletionPost (tag : TagNo) (s : State) : Host.Outcome State Fault Refusal := .next (postTag tag s)

/-! ### Releases and Flush (R347, R352) -/

/-- WRT_REL (R347): the entry is released; a free or ARRIVING one is refused. -/
def wrtRel (v : Word) (s : State) : State :=
  let i := v.toNat % 32768
  match s.wrt i with
  | some w => if w.held then s.dropWrt i else s.noteBit tagErr 0
  | none => s.noteBit tagErr 0

def execWrtRelWrite (value : Word) (s : State) : Host.Outcome State Fault Refusal := .next (s.access 0 (wrtRel value))

/-- The condition of R352: no live entry of the Flush's namespaces has a CSEQ of S or less. -/
def State.flushDone (s : State) (x : Tag) : Bool :=
  !(s.host.wrts.any (fun e => match e.2.cseq with
    | some c => x.flush.any (fun f => decide (f.1 = e.2.ns) && decide (c ≤ f.2))
    | none => false))

/-- FLUSH_COMPLETE (R352): a pending Flush completes once its condition is met. -/
def flushComplete (t : Nat) (s : State) : State :=
  match s.tag t with
  | some x => if x.st = .fetched ∧ x.io ∧ x.op = opFlush ∧ x.begun ∧ s.flushDone x then s.finish t x stOk 0 0 else s
  | none => s

def execFlushComplete (tag : TagNo) (s : State) : Host.Outcome State Fault Refusal := .next (flushComplete tag s)

/-- Remove every ARRIVING entry, whose writes are dropped (R361, R364). -/
def State.dropArriving (s : State) : State :=
  let ts := s.host.tags.filter (fun e => decide (e.2.st = .fetched) && e.2.isWrite &&
    e.2.wrts.any (fun i => match s.wrt i with | some w => !w.held | none => false))
  ts.foldl (fun s e => match s.tag e.1 with | some x => s.freeTag e.1 x | none => s) s

end Sys2Proof.Machine
end

