-- ==== Sys2Proof/Machine/Actuators.lean ====
section
/-!
DEFINITION. What a Degraded fault does (R492-R494): the actuator leaves Online, the fault is kept in PART_FIRST, and the commands whose blocks lie on it complete.
-/

namespace Sys2Proof.Machine

/-- Status C0h, Actuator Offline, with DNR 1 (R314, R494). -/
def stOffline : Nat := nvStatus 2 0xC0 1

/-- The actuator a position lies on: HEAD of its PAW, drive-wide, six heads to an actuator (R21, R201). -/
def plocActuator (ploc : Nat) : Nat := bitsOf ploc 39 35 / 6

/-- Whether a block lies on actuator n: for a read where LOOKUP resolves it, for a write where its zone's band lies (R315). A
block the write range table serves a read lies on none. -/
def State.blockOn (s : State) (n fseq x : Nat) (write : Bool) : Bool :=
  let z := x / 65536
  if write then
    match (s.physRead 11 (s.zoneAt z) 32).1 with
    | none => false
    | some ze =>
      match (s.physRead 11 (s.bandAt (zeBand ze)) 32).1 with
      | none => false
      | some be => decide (plocActuator (beBase be) = n)
  else if (s.coverOf fseq x).isSome then false
  else
    match (s.zoneInfo z).1 with
    | none => false
    | some i =>
      let b := s.locate i x
      decide (b.kind < 2) && decide (plocActuator b.ploc = n)

/-- The first block of a range of blocks to be written that lies on actuator n: a zone lies wholly on one (R315). -/
def State.writtenOn (s : State) (n dlba count : Nat) : Option Nat :=
  if count = 0 then none
  else
    (((List.range ((dlba + count - 1) / 65536 + 1 - dlba / 65536)).map (fun k => max dlba (65536 * (dlba / 65536 + k)))).find? (fun b =>
      s.blockOn n 0 b true))

/-- The first block of a command on actuator n: of a write the blocks of its range entries, which for a Deallocate are its ranges (R342), of a read
those of its range. -/
def State.firstOn (s : State) (n : Nat) (x : Tag) : Option Nat :=
  if s.num ZONES = 0 then none
  else if x.isWrite then (x.wrts.filterMap (fun i => (s.wrt i).bind (fun w => s.writtenOn n w.dlba w.count))).head?
  else if x.isRead then ((List.range (sqCount x.sqe)).map (fun k => s.tagDlba x + k)).find? (fun b => s.blockOn n x.fseq b false)
  else none

def State.commandOn (s : State) (n : Nat) (x : Tag) : Bool := (s.firstOn n x).isSome

/-- The first block of a command on an actuator that is Degraded or Offline (R314). -/
def State.outOfService (s : State) (x : Tag) : Option Nat :=
  ((List.range 4).filterMap (fun n => if s.actState n = 2 ∨ s.actState n = 3 then s.firstOn n x else none)).foldl (fun b v =>
    match b with | none => some v | some w => some (min v w)) none

/-- Commands on an actuator that leaves Online complete C0h (R494): those Fetched or Dispatched and reads in Media; a write in Media
runs on while its die runs. -/
def State.failCommands (s : State) (n : Nat) : State :=
  s.host.tags.foldl (fun s e =>
    match s.tag e.1 with
    | none => s
    | some x =>
      let live := match x.st with
        | .fetched => true
        | .dispatched => true
        | .media => x.isRead || !(decide (s.get (DIE_STAT_STATE (unitBase (n + 1) 0)) = 2))
        | .completing => false
      match if live then s.firstOn n x else none with
      | some b =>
        let s := if x.isWrite then s.giveCseq x else s
        (s.releaseReads e.1 x).finish e.1 { x with bufs := [], hits := [], badLba := some (b - s.nsBase (sqNsid x.sqe - 1)) } stOffline 0 0
      | none => s) s

/-- LOOP enters RETRACTED and CLASPV sends RETRACT at the next frame instant (R131, R161). -/
def State.retractLane (s : State) (n : Nat) : State :=
  ((s.setMode n mRetracted).setClv n true).modLoop n (fun l => { l with plan := none, cmd := none, next := none, handover := false })

/-- The heads of an actuator taken out of service are retracted where they are loaded (R486). -/
def State.retractHeads (s : State) (n : Nat) : State :=
  if s.chUp n = false ∨ s.mode n = mParked ∨ s.mode n = mRetracted then s else s.retractLane n

/-- A Degraded fault of actuator n, found in the fault register at `addr` by its bit (R486, R492-R494, file 16 PART_FIRST). That CLASPV
sends the retract, as it does where R154 and R155 name it, is DEDUCED (notes/assumptions/55.md). -/
def State.degrade (s : State) (n addr bit : Nat) : State :=
  let s := s.partFirst false (addrDie addr) (addrUnit addr) bit (addrOff addr)
  if s.actState n = 1 then (((s.setActState n 2).retractHeads n).failCommands n).aenAll aenReliability else s

/-- A Degraded fault of every actuator (R493). -/
def State.degradeAll (s : State) (addr bit : Nat) : State :=
  (List.range 4).foldl (fun s n => if s.chOn n then s.degrade n addr bit else s) s

end Sys2Proof.Machine
end

