-- ==== Sys2Proof/Machine/Controllers.lean ====
section
/-!
DEFINITION. Ports, functions and controllers (file 10, R295-R304; file 11, R367-R369): training, resets, virtual functions and grants.
-/

namespace Sys2Proof.Machine

/-! ### What a function shows the host (R296, R299, R305, R308) -/

/-- CAP[31:0]: MQES 4,095, CQR 1, AMS weighted round robin with an urgent class, TO 20. -/
def capLo : Nat := 4095 + 2 ^ 16 + 2 ^ 17 + 20 * 2 ^ 24

/-- CAP[63:32]: DSTRD 0, NSSRS 1, MPSMIN 0, and neither a persistent memory region nor a controller memory buffer; the fields the manual does not
give are free. -/
def capHi : Nat := Config.freeNat 67 0 % 2 ^ 8 * 2 ^ 5 + 2 ^ 4 + Config.freeNat 67 1 % 16 * 2 ^ 20

/-- The class code of every function. -/
def classCode : Nat := 0x010802

/-- Sizes of the memory behind BAR0/1, which holds the NVMe registers and doorbells, and BAR4/5, which holds the MSI-X table and PBA. -/
def barSize (b : Nat) : Nat := if b = 0 then 0x4000 else if b = 4 then 0x2000 else 0

/-- The type bits of a BAR: 64-bit memory, not prefetchable; the others are not implemented, and BAR1 and BAR5 are upper halves. -/
def barType (b : Nat) : Nat := if barSize b ≠ 0 then 4 else 0

/-- Capabilities of a function: power management, PCI Express and MSI-X; extended: AER, L1 PM substates, and on a PF SR-IOV. -/
def State.pciCaps (s : State) (c : Nat) : List Nat × List Nat :=
  ([0x01, 0x10, 0x11], if (s.function c).2 = 0 then [0x0001, 0x001E, 0x0010] else [0x0001])

/-- Device and link abilities in PCI Express's codes: the largest payload and read request, 128 B times 2 to the code; the highest rate; ASPM, L1
alone. -/
def maxPayload : Nat := 2
def maxRequest : Nat := 5
def maxRate : Nat := 5
def aspmSupport : Nat := 2

/-- The configuration header of a controller's function, in PCI Express's places, with no address assigned: the identities of the HOST record, the
class code, the BARs, and INTA# on a PF. A VF shows its PF's identities through SR-IOV and FFFFh in its own header. A Blank part has no
function. -/
def State.pciHeader (s : State) (c : Nat) : List Byte :=
  if s.ctrlExists c = false then []
  else
    let pf := decide ((s.function c).2 = 0)
    let id := fun v => toLe 2 (if pf then v else 0xFFFF)
    id (s.imgNat Image.vid) ++ id (s.imgNat Image.did) ++ toLe 2 0 ++ toLe 2 0x10 ++ toLe 1 (s.imgNat Image.revId) ++ toLe 3 classCode ++ toLe 2 0 ++
      toLe 1 (if s.imgNat Image.portShape = 1 ∧ s.imgNat Image.pfCount = 2 then 0x80 else 0) ++ toLe 1 0 ++
      (if pf then ((List.range 6).map (fun b => toLe 4 (barType b))).flatten else List.replicate 24 0) ++ toLe 4 0 ++
      toLe 2 (s.imgNat Image.ssvid) ++ toLe 2 (s.imgNat Image.ssid) ++ toLe 4 0 ++ toLe 4 0x40 ++ toLe 4 0 ++ toLe 1 0 ++ toLe 1 (ofBool pf) ++ toLe 2 0

/-! ### Controllers -/

/-- The default state of a controller after a reset: nothing enabled, granted, created or held; saved features and the logs stay. -/
def Ctrl.cleared (k : Ctrl) (saved : List (Nat × Nat)) : Ctrl :=
  { Ctrl.reset with cfs := k.cfs, feats := saved, errors := k.errors, changed := k.changed, resLog := k.resLog,
                      resCount := k.resCount }

/-- A controller reset, or CC.EN cleared (R304, R367, R368): its tags are freed or detached, its grant returns, its queues are gone, its features
return to what is saved or their defaults, the Volatile Write Cache to enabled (R319), and a download it owns is discarded (R474). -/
def State.ctrlReset (s : State) (c : Nat) : State :=
  let ts := (s.host.tags.filter (fun e => decide (e.2.ctrl = c) && !e.2.detached)).map (fun e => e.1)
  let s := ts.foldl (fun s t => s.resetTag t) s
  let s := s.modCtrl c (fun k => k.cleared s.host.saved)
  let s := s.modHost (fun h => { h with powerOf := remove c h.powerOf, vwc := true })
  let s := match s.staged with
    | some (o, _) => if o = c then { s with staged := none } else s
    | none => s
  s.raise 40

/-- The controllers of a PF's VFs numbered above `keep`. -/
def State.vfsAbove (s : State) (pf keep : Nat) : List Nat :=
  (List.range 64).filter (fun c => decide (2 ≤ c) && decide (c < 2 + s.imgNat Image.vfMax) && decide ((s.function c).1 = pf) &&
    decide (keep < (s.function c).2))

/-- A function-level reset (R304, R368): the controller's reset, and for a PF that of its VFs with VF Enable cleared; event 34. -/
def State.flr (s : State) (c : Nat) : State :=
  let f := s.function c
  let s := if f.2 = 0 then
      let s := ((s.vfsAbove f.1 0).filter (fun v => s.ctrlExists v)).foldl (fun s v => s.ctrlReset v) s
      s.modHost (fun h => { h with numVfs := modAt h.numVfs f.1 (fun _ => 0) })
    else s
  (s.ctrlReset c).raise 34

/-- CONTROLLER_RESET by CC.EN: the rest of CC stays as the host wrote it, and so does AQA, as NVMe has it. -/
def ctrlOff (c : Nat) (s : State) : State :=
  let k := s.ctrl c
  (s.ctrlReset c).modCtrl c (fun j => { j with cc := k.cc / 2 * 2, asq := k.asq, acq := k.acq })

def execControllerReset (ctrl : Fin 64) (s : State) : Host.Outcome State Fault Refusal :=
  .next (if s.ctrlExists ctrl then ctrlOff ctrl s else s)

def execFunctionLevelReset (ctrl : Fin 64) (s : State) : Host.Outcome State Fault Refusal :=
  .next (if s.ctrlExists ctrl then s.flr ctrl else s)

/-- A controller's Arbitration feature: the burst, of no limit with AB 7, and the weights of its high, medium and low class. -/
def Ctrl.arbitration (k : Ctrl) : Nat := (look 0x01 k.feats).getD 3
def Ctrl.burst (k : Ctrl) : Nat := if k.arbitration % 8 = 7 then 0x10000 else 2 ^ (k.arbitration % 8)
def Ctrl.weights (k : Ctrl) : Vector Nat 3 :=
  #v[bitsOf k.arbitration 31 24 + 1, bitsOf k.arbitration 23 16 + 1, bitsOf k.arbitration 15 8 + 1]

/-- A controller that is enabled (R299, R302, R308). -/
def Ctrl.enabled (k : Ctrl) (e : CtrlSetup) : Ctrl :=
  { k with
    en := true
    rdy := true
    shst := 0
    cc := e.cc.toNat
    asq := e.asqs.val + 1
    acq := e.acqs.val + 1
    lastSq := 0
    credit := k.weights }

/-- CONTROLLER_ENABLE (R299, R302): CC.EN from 0 to 1, with the rest of CC and the sizes of the admin queues as the host wrote them, makes CSTS.RDY
1; event 40. The weights of the queues' classes begin anew. A PF's power state counts from then on (R320, R510). -/
def ctrlEnable (e : CtrlSetup) (s : State) : State :=
  if s.ctrlExists e.ctrl ∧ (s.ctrl e.ctrl).en = false then
    (s.modCtrl e.ctrl (fun k => k.enabled e)).limitChanged.raise 40
  else s

def execControllerEnable (setup : CtrlSetup) (s : State) : Host.Outcome State Fault Refusal := .next (ctrlEnable setup s)

/-- CONTROLLER_SHUTDOWN (R332): CC.SHN, 1 normal or 2 abrupt, moves the controller through shutting down to shut down; event 40. -/
def ctrlShutdown (n : ShutdownNote) (s : State) : State :=
  if s.ctrlExists n.ctrl then
    (s.modCtrl n.ctrl (fun k => { k with shst := 2, cc := k.cc / 2 ^ 16 * 2 ^ 16 + (if n.abrupt then 2 else 1) * 2 ^ 14 + k.cc % 2 ^ 14 })).raise 40
  else s

def execControllerShutdown (note : ShutdownNote) (s : State) : Host.Outcome State Fault Refusal := .next (ctrlShutdown note s)

/-- VF_ENABLE (R297, R304): NumVFs of a PF, at most its TotalVFs; the VFs that go away are reset; event 34. -/
def vfEnable (pf n : Nat) (s : State) : State :=
  if s.pfExists pf ∧ n ≤ s.totalVfs pf then
    let s := ((s.vfsAbove pf n).filter (fun v => s.ctrlExists v)).foldl (fun s v => s.ctrlReset v) s
    (s.modHost (fun h => { h with numVfs := modAt h.numVfs pf (fun _ => n) })).raise 34
  else s

def execVfEnable (pf : Fin 2) (numVfs : Nat) (s : State) : Host.Outcome State Fault Refusal := .next (vfEnable pf numVfs s)

/-- A write of CTRL_NS (R300): the attachments change, and each controller whose attachments changed gets the event. -/
def ctrlNsWrite (c : Nat) (v : Word) (s : State) : State :=
  let old := s.num (CTRL_NS c) % 65536
  let new := v.toNat % 65536
  let s := s.setRW (CTRL_NS c) v
  if old = new then s
  else
    let diff := (List.range 16).filter (fun i => decide (bitOf old i ≠ bitOf new i))
    let s := s.modCtrl c (fun k => { k with changed := diff.foldl (fun l i => insertN (i + 1) l) k.changed })
    s.aen c aenNamespace

def execCtrlNsWrite (ctrl : Fin 64) (value : Word) (s : State) : Host.Outcome State Fault Refusal :=
  .next (s.access 0 (ctrlNsWrite ctrl value))

/-! ### Ports -/

/-- Whether a port exists (R295). -/
def State.portExists (s : State) (p : Nat) : Bool :=
  s.img.isSome && (decide (p = 0) || decide (s.imgNat Image.portShape = 0))

/-- PORT_TRAIN (R295, R296, R534): after stage 4 a port whose PERST# is deasserted trains to a supported width and rate; one whose link is up
retrains to them. A Blank part and one in ROM services do not train. -/
def portTrain (p width speed : Nat) (s : State) : State :=
  let shape := s.imgNat Image.portShape
  let wOk := decide (width = 1) || decide (width = 2) || (decide (width = 4) && decide (shape = 1))
  if s.portExists p && decide (4 ≤ s.get BOOT_STAT_STAGE) && !(s.flag BOOT_STAT_ROM_SERVICES) && wOk && decide (1 ≤ speed) &&
      decide (speed ≤ 5) then
    (((s.put (PORT_STAT_WIDTH p) width).put (PORT_STAT_SPEED p) speed).put (PORT_STAT_DL_ACTIVE p) 1).raise (32 + p)
  else s

def execPortTrain (port : Fin 2) (width speed : Nat) (s : State) : Host.Outcome State Fault Refusal :=
  .next (portTrain port width speed s)

/-- A port's link goes down: DL_ACTIVE, DOWN_CNT and the link event. -/
def State.linkDown (s : State) (p : Nat) : State :=
  if s.flag (PORT_STAT_DL_ACTIVE p) then
    let s := (s.put (PORT_STAT_DL_ACTIVE p) 0).put (PORT_STAT_DOWN_CNT p) (min 255 (s.get (PORT_STAT_DOWN_CNT p) + 1))
    ((s.put (PORT_STAT_WIDTH p) 0).put (PORT_STAT_SPEED p) 0).raise (32 + p)
  else s

/-- The controllers that exist on a port. -/
def State.portCtrls (s : State) (p : Nat) : List Nat :=
  (List.range 64).filter (fun c => s.ctrlExists c && decide (s.portOf (s.function c).1 = p))

/-- An NVM subsystem reset (R369): every controller of both ports, as R368; the links retrain, so each goes down until its port has trained
again. -/
def State.subsystemReset (s : State) : State :=
  (((List.range 64).filter (fun c => s.ctrlExists c)).foldl (fun s c => s.ctrlReset c) ((s.linkDown 0).linkDown 1))

def execNvmSubsystemReset (s : State) : Host.Outcome State Fault Refusal := .next s.subsystemReset

/-- PORT_LINK_DOWN (R295, R304): the port's grants return and its controllers are reset; the other port is undisturbed. -/
def execPortLinkDown (port : Fin 2) (s : State) : Host.Outcome State Fault Refusal :=
  .next (if s.portExists port ∧ s.flag (PORT_STAT_DL_ACTIVE port) then
    (s.portCtrls port).foldl (fun s c => s.ctrlReset c) (s.linkDown port) else s)

/-- PERST_ASSERT (R534): the link goes down and each function of the port is reset as by a function-level reset. -/
def execPerstAssert (port : Fin 2) (s : State) : Host.Outcome State Fault Refusal :=
  .next (if s.portExists port then
    ((s.portCtrls port).filter (fun c => decide ((s.function c).2 = 0))).foldl (fun s c => s.flr c) (s.linkDown port) else s)

end Sys2Proof.Machine
end

