-- ==== Sys2Proof/Machine/Fetch.lean ====
section
/-!
DEFINITION. Fetching a submission entry (file 10, R299-R309, R325; file 11, R338, R342): taking a tag and range entries, and the checks in their order.
-/

namespace Sys2Proof.Machine

/-! ### Zones as fetched commands leave them (R323-R325) -/

def zEmpty : Nat := 1
def zImplicit : Nat := 2
def zExplicit : Nat := 3
def zClosed : Nat := 4
def zReadOnly : Nat := 13
def zFull : Nat := 14
def zOffline : Nat := 15

/-- STATE and WP of a zone, as its entry of the zone table gives them (R263). -/
def State.zoneNow (s : State) (z : Nat) : Option (Nat × Nat) :=
  match (s.physRead 11 (s.zoneAt z) 32).1 with
  | some e => some (fieldLe e 0 1 / 16, fieldLe e 4 4)
  | none => none

/-- Write STATE and WP of a zone into its entry (R263). -/
def State.setZone (s : State) (z st wp : Nat) : State :=
  match s.physRead 11 (s.zoneAt z) 32 with
  | (some ze, s) => s.catWrite (s.zoneAt z) (overlay (overlay ze 0 (toLe 1 (16 * st))) 4 (toLe 4 wp))
  | (none, s) => s

/-- The zones of all zoned namespaces. -/
def State.zonedZones (s : State) : List Nat :=
  ((List.range 16).map (fun i => match s.nsInfo i with
    | some (z0, n, true) => (List.range n).map (fun k => z0 + k)
    | _ => [])).flatten

/-- Active and open zone resources in use (R323). -/
def State.zonesIn (s : State) (sts : List Nat) : Nat :=
  (s.zonedZones.filter (fun z => match s.zoneNow z with | some v => sts.contains v.1 | none => false)).length
def State.activeZones (s : State) : Nat := s.zonesIn [zImplicit, zExplicit, zClosed]
def State.openZones (s : State) : Nat := s.zonesIn [zImplicit, zExplicit]

/-- The zone rules for a write to a sequential-write zone (R323, R325): none where they hold, else the status. -/
def State.zoneCheck (s : State) (z wpOff count : Nat) (append : Bool) : Option Nat :=
  match s.zoneNow z with
  | none => some stZoneOff
  | some (st, wp) =>
    if st = zFull then some stZoneFull
    else if st = zReadOnly then some stZoneRo
    else if st = zOffline then some stZoneOff
    else if 65536 < (if append then wp else wpOff) + count then some stZoneBoundary
    else if append = false ∧ wpOff ≠ wp then some stZoneWrite
    else if append ∧ wpOff ≠ 0 then some stField
    else if st = zEmpty ∧ 256 ≤ s.activeZones then some stActive
    else if (st = zEmpty ∨ st = zClosed) ∧ 256 ≤ s.openZones then some stOpen
    else none

/-- The zone after a write of `count` blocks: implicitly opened, Full at its capacity. -/
def State.zoneAdvance (s : State) (z count : Nat) : State :=
  match s.zoneNow z with
  | none => s
  | some (st, wp) =>
    let wp := wp + count
    s.setZone z (if 65536 ≤ wp then zFull else if st = zEmpty ∨ st = zClosed then zImplicit else st) wp

/-! ### Opcodes (file 10, the command tables; R301, R336) -/

def adminOps : List Nat := [0x00, 0x01, 0x02, 0x04, 0x05, 0x06, 0x08, 0x09, 0x0A, 0x0C, 0x10, 0x11, 0x80, 0x81, 0x82, 0xC6]
/-- Not accepted on a VF (R301). -/
def pfOnlyOps : List Nat := [0x10, 0x11, 0x80, 0xC6]
/-- Carried by the management endpoint (R336). -/
def mgmtOps : List Nat := [0x06, 0x02, 0x0A, 0x11, 0x10, 0x81, 0x82, 0xC6]
def ioOps : List Nat := [0x00, 0x01, 0x02, 0x05, 0x08, 0x09, 0x0C, 0x0D, 0x0E, 0x11, 0x15, 0x79, 0x7A, 0x7D]
/-- Zoned namespaces only. -/
def zonedOps : List Nat := [0x79, 0x7A, 0x7D]
/-- I/O commands that name a range of blocks with SLBA and NLB. -/
def rangedOps : List Nat := [0x01, 0x02, 0x05, 0x08, 0x0C, 0x7D]

/-! ### Checks (R309) -/

/-- Every bit of a dword. -/
def allBits : Nat := 0xFFFFFFFF

/-- Every bit of the command dwords from `lo` to 15. -/
def dwsFrom (lo : Nat) : List (Nat × Nat) := (List.range (16 - lo)).map (fun k => (lo + k, allBits))

/-- Bits of the command dwords that NVMe reserves, for the I/O commands of file 10 (PRESUMED: the manual names the commands and leaves their layout
to NVMe, notes/assumptions/34.md). -/
def reservedIo (op : Nat) : List (Nat × Nat) :=
  if op = opFlush then [(2, allBits), (3, allBits)] ++ dwsFrom 10
  else if op = opWrite ∨ op = opAppend then [(12, 0x000F0000), (13, 0xFF00)]
  else if op = opRead then [(12, 0x02FF0000), (13, 0xFFFFFF00)]
  else if op = opCompare ∨ op = opVerify then [(12, 0x02FF0000), (13, allBits)]
  else if op = opZeroes then [(12, 0x000F0000), (13, 0xFFFF)]
  else if op = opDsm then [(2, allBits), (3, allBits), (10, 0xFFFFFF00), (11, 0xFFFFFFF8)] ++ dwsFrom 12
  else if op = 0x79 then [(2, allBits), (3, allBits), (12, allBits), (13, 0xFFFFFC00)] ++ dwsFrom 14
  else if op = 0x7A then [(2, allBits), (3, allBits), (13, 0xFFFE0000)] ++ dwsFrom 14
  else if op = 0x0D then [(10, 0x3FFFFFF0)] ++ dwsFrom 11
  else if op = 0x0E then [(11, 0xFFFFFFFE)] ++ dwsFrom 12
  else if op = 0x11 ∨ op = 0x15 then [(10, 0xFFFF00F0)] ++ dwsFrom 11
  else []

/-- The same for the admin commands; of Inventory R333 says it. -/
def reservedAdmin (op : Nat) : List (Nat × Nat) :=
  if op = 0x00 ∨ op = 0x04 then [(10, 0xFFFF0000)] ++ dwsFrom 11
  else if op = 0x01 then [(11, 0xFFF8), (12, 0xFFFF0000)] ++ dwsFrom 13
  else if op = 0x05 then [(11, 0xFFFC)] ++ dwsFrom 12
  else if op = 0x02 then [(14, 0x007FFF80)]
  else if op = 0x06 then [(10, 0xFF00), (12, allBits), (13, allBits), (14, 0xFFFFFF80), (15, allBits)]
  else if op = 0x08 then dwsFrom 11
  else if op = 0x09 then [(10, 0x7FFFFF00), (14, 0xFFFFFF80)]
  else if op = 0x0A then [(10, 0xFFFFF800), (14, 0xFFFFFF80)]
  else if op = 0x0C ∨ op = 0xC6 then dwsFrom 10
  else if op = 0x10 then [(10, 0x7FFFFFC0)] ++ dwsFrom 11
  else if op = 0x11 ∨ op = 0x81 ∨ op = 0x82 then dwsFrom 12
  else if op = 0x80 then [(10, 0xFFFFC000)] ++ dwsFrom 11
  else []

/-- Row 2 of R309: bits 13:10 of dword 0 and the reserved bits of the command are 0; the command is not fused, and its data lies in PRPs, or for an
I/O command in SGLs (R310). Where it transfers data, as bits 1:0 of its opcode say, PRP1 is dword aligned, and an SGL begins with a descriptor
that PCIe has. -/
def formFails (sqid : Nat) (q : List Byte) : Option Nat :=
  let op := sqOp q
  let flags := fieldLe q 1 1
  let psdt := flags / 64
  let moves := decide (op % 4 = 1) || decide (op % 4 = 2)
  if flags % 64 ≠ 0 ∨ 2 < psdt ∨ (sqid = 0 ∧ psdt ≠ 0) then some stField
  else if (if sqid = 0 then reservedAdmin op else reservedIo op).any (fun e => decide (Nat.land (sqDw q e.1) e.2 ≠ 0)) then some stField
  else if moves ∧ psdt = 0 ∧ fieldLe q 24 1 % 4 ≠ 0 then some stPrpOffset
  else if moves ∧ psdt ≠ 0 ∧ 3 < fieldLe q 39 1 / 16 then some stSglType
  else none

/-- Whether the medium of a namespace is ready (R299): the spindle locked, the tables read, no restore of a dump under way. -/
def State.mediaReady (s : State) : Bool := s.flag CAT_CTL_EN && s.flag SPIN_STAT_SPIN_LOCK

/-- The protection information check of a ranged command (R309 row 7): the initial reference tag of Type 1 names the first block, and
Type 3 has none to check. -/
def piBad (n : Ns) (q : List Byte) : Bool :=
  prchkRef q && ((decide (n.piType = 1) && decide (sqRef q ≠ sqSlba q % 2 ^ 48)) || decide (n.piType = 3))

/-- Bytes a command transfers between its data buffer and the part (R309 row 6): in the extended LBA the metadata is among them; a Write Zeroes and a
Verify transfer none. -/
def Ns.transferred (n : Ns) (q : List Byte) : Nat :=
  if sqOp q = opZeroes ∨ sqOp q = opVerify then 0 else sqCount q * (4096 + if n.ext then n.hostMeta q else 0)

/-- Whether a Dataset Management deallocates (R316): its AD attribute is set, in a conventional namespace. -/
def deallocates (zoned : Bool) (q : List Byte) : Bool := decide (sqOp q = opDsm) && !zoned && bitOf (sqDw q 11) 2

/-! ### Reservations (R328); types and what they let through as NVMe has them -/

/-- The key a host registered on a namespace. -/
def Ns.keyOf (n : Ns) (h : Nat) : Option Nat := (n.regs.find? (fun r => decide (r.1 = h))).map (fun r => r.2)

/-- All registrants hold a reservation of the types 5 and 6; only the holder those of the others. -/
def Ns.holds (n : Ns) (h : Nat) : Bool :=
  decide (n.resType ≠ 0) && (decide (n.resHolder = h) || (decide (5 ≤ n.resType) && (n.keyOf h).isSome))

/-- I/O commands that a reservation counts as writes, and as reads. -/
def resWrites : List Nat := [opFlush, opWrite, opZeroes, opDsm, opAppend, 0x79]
def resReads : List Nat := [opRead, opCompare, opVerify, 0x7A]

/-- A reservation of another host keeps a command from a namespace (R328): types 1, 3 and 5 exclude writes, types 2, 4 and 6 reads as well;
registrants are let through by types 3 and 4, and hold those of types 5 and 6. -/
def Ns.conflict (n : Ns) (h op : Nat) : Bool :=
  if n.resType = 0 ∨ n.holds h then false
  else
    let reg := (n.keyOf h).isSome && (decide (n.resType = 3) || decide (n.resType = 4))
    if resWrites.contains op then !reg
    else resReads.contains op && decide (n.resType % 2 = 0) && !reg

/-- The checks of an I/O command's namespace and range, rows 3 to 9, in order, and then the reservation held on it (R328); none
where all hold. -/
def State.ioCheck (s : State) (c : Nat) (q : List Byte) (ranges : List (Nat × Nat)) : Option Nat :=
  let op := sqOp q
  let nsid := sqNsid q
  if op = opFlush ∧ nsid = 0xFFFFFFFF then (if s.mediaReady then none else some stNotReady)
  else if nsid = 0 ∨ 16 < nsid then some stNamespace
  else
    let i := nsid - 1
    match s.nsInfo i with
    | none => some stNamespace
    | some (z0, zones, zoned) =>
      let n := s.ns i
      if bitOf (s.num (CTRL_NS c)) i = false then some stNamespace
      else if zonedOps.contains op ∧ zoned = false then some stOpcode
      else if n.formatting then some stFormatting
      else if rangedOps.contains op ∧ zones * 65536 < sqSlba q + sqCount q then some stLba
      else if deallocates zoned q ∧ ranges.any (fun r => decide (zones * 65536 < r.1 + r.2)) = true then some stLba
      else if rangedOps.contains op ∧ 0x100000 < n.transferred q then some stField
      else if rangedOps.contains op ∧ piBad n q then some stPi
      else
        let z := z0 + sqSlba q / 65536
        let zst := if zoned ∧ (op = opWrite ∨ op = opZeroes ∨ op = opAppend) then
            s.zoneCheck z (sqSlba q % 65536) (sqCount q) (decide (op = opAppend)) else none
        match zst with
        | some st => some st
        | none =>
          if s.mediaReady = false then some stNotReady
          else if n.conflict (s.ctrl c).hostId op then some stReservation
          else none

/-- Whether an admin command acts on the namespace its NSID names: Format NVM, the log page of a namespace, and the features of namespaces. -/
def adminOnNs (q : List Byte) : Bool :=
  let op := sqOp q
  decide (op = 0x80) || (decide (op = 0x02) && decide (sqDw q 10 % 256 = 0xBF)) ||
    ((decide (op = 0x09) || decide (op = 0x0A)) && [0x05, 0x82, 0x83].contains (sqDw q 10 % 256))

/-- Rows 3 and 4 of R309 for an admin command that acts on a namespace (R300, R318): the namespace is attached and not formatting; with NSID
FFFFFFFFh none of those attached is. -/
def State.adminCheck (s : State) (c : Nat) (q : List Byte) : Option Nat :=
  let nsid := sqNsid q
  let att := fun i => bitOf (s.num (CTRL_NS c)) i && (s.nsInfo i).isSome
  if adminOnNs q = false then none
  else if nsid = 0xFFFFFFFF then
    if (List.range 16).any (fun i => att i && (s.ns i).formatting) then some stFormatting else none
  else if nsid = 0 ∨ 16 < nsid ∨ att (nsid - 1) = false then some stNamespace
  else if (s.ns (nsid - 1)).formatting then some stFormatting
  else none

/-- Every check of R309, in order, for a command of controller c on a queue, with the ranges a Dataset Management brings; none where all hold. -/
def State.check (s : State) (c sqid : Nat) (q : List Byte) (ranges : List (Nat × Nat)) : Option Nat :=
  let op := sqOp q
  let vf := decide ((s.function c).2 ≠ 0)
  let known := if sqid = 0 then adminOps.contains op && !(vf && pfOnlyOps.contains op) else ioOps.contains op
  if known = false then some stOpcode
  else
    match formFails sqid q with
    | some st => some st
    | none => if sqid = 0 then s.adminCheck c q else s.ioCheck c q ranges

/-! ### Fetching -/

/-- The metadata of zeros with generated protection information (R317), for each block. -/
def zeroPi (n : Ns) (q : List Byte) (count : Nat) : List Byte :=
  ((List.range count).map (fun k => slice (n.withPi q (List.replicate 4096 0) [] k) 0 64)).flatten

/-- What a Write Zeroes leaves its blocks as, with their metadata (R317): deallocated in a conventional zone without protection information or
with PRACT 0, else zeros, with generated protection information where the format has it. -/
def zeroesKind (n : Ns) (zoned : Bool) (q : List Byte) : WrtKind × List Byte :=
  if zoned = false ∧ (n.piType = 0 ∨ pract q = false) then (.dealloc, [])
  else if n.piType = 0 then (.zeroes, List.replicate (64 * sqCount q) 0)
  else (.zeroes, zeroPi n q (sqCount q))

/-- Range entries a command needs (R342), with the metadata of those that bring no data: its blocks, or each range of a Deallocate in a conventional
zone. -/
def State.entriesOf (s : State) (sqid : Nat) (q : List Byte) (ranges : List (Nat × Nat)) : List (Nat × Nat × WrtKind × List Byte) :=
  let op := sqOp q
  let i := sqNsid q - 1
  match s.nsInfo i with
  | none => []
  | some (z0, _, zoned) =>
    let base := 65536 * z0
    if sqid = 0 then []
    else if op = opWrite then [(base + sqSlba q, sqCount q, .write, [])]
    else if op = opAppend then
      let wp := match s.zoneNow (z0 + sqSlba q / 65536) with | some v => v.2 | none => 0
      [(base + sqSlba q / 65536 * 65536 + wp, sqCount q, .write, [])]
    else if op = opZeroes then [(base + sqSlba q, sqCount q, zeroesKind (s.ns i) zoned q)]
    else if deallocates zoned q then ranges.map (fun r => (base + r.1, r.2, .dealloc, []))
    else []

/-- Whether the operand tag is free for the queue (R306): an admin command uses one of its controller's four, or draws on the rest as
an I/O command does. -/
def State.tagFor (s : State) (c sqid t : Nat) : Bool :=
  let adm := (s.host.tags.filter (fun e => decide (e.2.sqid = 0) && decide (e.2.ctrl = c))).length
  (s.tag t).isNone && ((decide (sqid = 0) && decide (adm < 4)) || decide (0 < s.tagsFree))

/-- No tag or range entry is free (R307, R343): fetching stops, and the stall is counted once. -/
def State.stall (s : State) : State :=
  if s.flag NVME_STAT_FETCH_STALLED then s
  else (((s.put NVME_STAT_FETCH_STALLED 1).countSatFault FETCH_STALL_CNT nvmeErr 3 1).raise 42)

/-- Commands the thermal limit lets the front end fetch in 1 ms (R525): THR_CFG's fraction, U0.8 with 0 acting as 01h, of 2,500. -/
def State.fetchLimit (s : State) : Option Nat :=
  let lv := (List.range 8).foldl (fun m d =>
    if (1 ≤ d ∧ d ≤ 4 ∧ s.chOn (d - 1) = false) then m
    else max m (if s.flag (THERM_T_BROKEN d) then 2 else bitsOf (s.num THERM_LVL) (2 * d + 1) (2 * d))) 0
  if 2 ≤ lv then some (max 1 (s.get THR_CFG_HOT_FRAC) * 2500 / 256)
  else if lv = 1 then some (max 1 (s.get THR_CFG_WARM_FRAC) * 2500 / 256)
  else none

/-- Whether the submission queue can be fetched from: its controller is ready and the queue exists. -/
def State.queueOk (s : State) (c sqid : Nat) : Bool :=
  let k := s.ctrl c
  s.ctrlExists c && k.en && k.rdy && !k.cfs && decide (k.shst ≠ 2) && (decide (sqid = 0) || k.sqs.any (fun q => decide (q.qid = sqid)))

/-- Count a fetch in the present millisecond; false where the limit of R525 is reached. -/
def State.fetchCount (s : State) : Bool × State :=
  let ms := s.num TSTAMP / 1000
  let n := if ms = s.host.fetchMs then s.host.fetched else 0
  match s.fetchLimit with
  | some lim => if lim ≤ n then (false, s) else (true, s.modHost (fun h => { h with fetchMs := ms, fetched := n + 1 }))
  | none => (true, s.modHost (fun h => { h with fetchMs := ms, fetched := n + 1 }))

/-- Create a command's range entries from index i on (R342): one that brings data is ARRIVING, any other is HELD at once. -/
def State.addEntries (s : State) (ns fseq : Nat) (i : Nat) (es : List (Nat × Nat × WrtKind × List Byte)) : List Nat × State :=
  let idx := (List.range es.length).map (fun k => (i + k) % 32768)
  (idx, (List.zip idx es).foldl (fun s p =>
    s.setWrt p.1 ⟨ns, p.2.1, p.2.2.1, fseq, p.2.2.2.1, decide (p.2.2.2.1 ≠ .write), none, [], p.2.2.2.2, none⟩) s)

/-- The Fetched tag of a command. -/
def newTag (c sqid : Nat) (q : List Byte) (fseq : Nat) : Tag :=
  ⟨.fetched, c, sqid, q, fseq, [], [], 0, false, [], 0, 0, 0, false, false, [], c, [], none⟩

/-- Namespace indices a Flush names. -/
def flushNs (x : Tag) : List Nat := if sqNsid x.sqe = 0xFFFFFFFF then List.range 16 else [sqNsid x.sqe - 1]

/-- A Flush at its fetch (R351, R352): in Protected mode it completes; otherwise S is recorded for each namespace it names, and it waits. -/
def State.flushFetch (s : State) (t : Nat) (x : Tag) : State :=
  if s.cacheMode = 0 then s.finish t x stOk 0 0
  else s.setTag t { x with begun := true, flush := (flushNs x).map (fun i => (i, (s.ns i).cseq)) }

/-- Take an entry that has passed its queue's conditions: its tag, its checks, its range entries. -/
def State.takeEntry (s : State) (c sqid t i : Nat) (q : List Byte) (ranges : List (Nat × Nat)) : State :=
  let fseq := s.host.fseq + 1
  let s := s.modHost (fun h => { h with fseq := fseq })
  let x := newTag c sqid q fseq
  match s.check c sqid q ranges with
  | some st =>
    let s := s.noteBit nvmeErr 1
    if st = stNotReady then s.finish t x st 0 0 else s.failTag t x st
  | none =>
    let es := s.entriesOf sqid q ranges
    let r := s.addEntries (sqNsid q - 1) fseq i es
    let off := match es with
      | e :: _ => e.1 - s.nsBase (sqNsid q - 1)
      | [] => 0
    let x := { x with wrts := r.1, dw0 := if sqOp q = opAppend then off % 0x100000000 else 0,
                      dw1 := if sqOp q = opAppend then off / 0x100000000 else 0 }
    let s := r.2
    match s.outOfService x with
    | some b => (x.wrts.foldl (fun s j => s.dropWrt j) s).finish t { x with wrts := [], badLba := some (b - s.nsBase (sqNsid q - 1)) } stOffline 0 0
    | none =>
      let s := match s.nsInfo (sqNsid q - 1) with
        | some (z0, _, true) =>
          if sqid ≠ 0 ∧ (sqOp q = opWrite ∨ sqOp q = opZeroes ∨ sqOp q = opAppend) then
            s.zoneAdvance (z0 + sqSlba q / 65536) (sqCount q) else s
        | _ => s
      if sqid ≠ 0 ∧ sqOp q = opFlush then s.flushFetch t x else s.setTag t x

/-! ### Arbitration (R308); rounds, weights and classes as NVMe has them -/

/-- The next of some numbers in turn after `last`: the least above it, else the least of all. -/
def nextInTurn (last : Nat) (l : List Nat) : Option Nat :=
  let least := fun (m : List Nat) => m.foldl (fun (b : Option Nat) v => match b with | none => some v | some w => some (min v w)) none
  match least (l.filter (fun v => decide (last < v))) with
  | some v => some v
  | none => least l

/-- CC.AMS selects weighted round robin with an urgent class. -/
def Ctrl.weighted (k : Ctrl) : Bool := decide (bitsOf k.cc 13 11 = 1)

/-- The class of a submission queue of its own controller: 0 the admin queue and the urgent ones, 1 high, 2 medium, 3 low. -/
def Ctrl.classOf (k : Ctrl) (q : Nat) : Nat := ((k.sqs.find? (fun e => decide (e.qid = q))).map (fun e => e.prio)).getD 0

/-- The queue a controller fetches from next among those with entries (R308), and what is left of its weights: in turn, or with weights the admin
queue, then the urgent ones, then those of the highest class with weight left; when none of the classes has any left all get theirs anew. -/
def Ctrl.pick (k : Ctrl) (ready : List Nat) : Option Nat × Vector Nat 3 :=
  if k.weighted = false then (nextInTurn k.lastSq ready, k.credit)
  else if ready.contains 0 then (some 0, k.credit)
  else
    let inClass := fun c => ready.filter (fun q => decide (k.classOf q = c))
    let has := fun c => !(inClass c).isEmpty
    let go := fun (cr : Vector Nat 3) => ([1, 2, 3].find? (fun c => has c && decide (0 < atD cr (c - 1) 0))).map (fun c =>
      (nextInTurn k.lastSq (inClass c), modAt cr (c - 1) (fun v => v - 1)))
    if has 0 then (nextInTurn k.lastSq (inClass 0), k.credit)
    else
      match go k.credit with
      | some r => r
      | none => (go k.weights).getD (none, k.credit)

/-- Whether a turn goes on with its queue: entries of its burst are left, and with weights the queue's class has weight left. -/
def Ctrl.goesOn (k : Ctrl) (q left : Nat) : Bool :=
  decide (0 < left) && (!k.weighted || decide (k.classOf q = 0) || decide (0 < atD k.credit (k.classOf q - 1) 0))

/-- The queue the front end fetches from among those with entries (R307, R308), and the state with its rotation moved on: the one being served
while its burst lasts, else the one that the next controller in turn picks. While fetching is stalled the I/O queues take no part. -/
def State.arbitrate (s : State) (ready : List (Nat × Nat)) : Option ((Nat × Nat) × State) :=
  let ok := ready.filter (fun e => s.queueOk e.1 e.2 && (decide (e.2 = 0) || !(s.flag NVME_STAT_FETCH_STALLED)))
  let a := s.host.arb
  let k := s.ctrl a.ctrl
  if ok.contains (a.ctrl, a.sqid) && k.goesOn a.sqid a.left then
    let cr := if k.weighted ∧ k.classOf a.sqid ≠ 0 then modAt k.credit (k.classOf a.sqid - 1) (fun v => v - 1) else k.credit
    some ((a.ctrl, a.sqid), (s.modCtrl a.ctrl (fun k => { k with credit := cr })).modHost (fun h => { h with arb := { a with left := a.left - 1 } }))
  else
    match nextInTurn a.ctrl (ok.map (fun e => e.1)) with
    | none => none
    | some c =>
      match (s.ctrl c).pick ((ok.filter (fun e => decide (e.1 = c))).map (fun e => e.2)) with
      | (none, _) => none
      | (some q, cr) =>
        some ((c, q), (s.modCtrl c (fun k => { k with lastSq := q, credit := cr })).modHost (fun h => { h with arb := ⟨c, q, (s.ctrl c).burst - 1⟩ }))

/-- SUBMISSION_FETCH (R306-R309, R342, R343): the front end fetches the entry `q` of the queue its arbitration has come to into the free tag `t`, with
range entries from index `i` on. With no tag free, or no range entry, or too few for the command, it stalls, and the rotation stays where it is; a
fetch that is stopped, paused, throttled, from no queue or out of turn does nothing. Below rung 0 a fetched command brings the part back to
rung 0 (R320). -/
def submissionFetch (c : Nat) (queue : ReadyQueue) (t i : Nat) (q : List Byte) (ranges : List (Nat × Nat)) (s : State) : State :=
  let q := slice q 0 64
  let sqid := queue.sqid
  match s.arbitrate ((c, sqid) :: queue.others) with
  | none => s
  | some (pick, moved) =>
    if s.host.stopped ∨ s.paused = true ∨ pick ≠ (c, sqid) then s
    else
      let n := (s.entriesOf sqid q ranges).length
      if sqid ≠ 0 ∧ (s.tagsFree = 0 ∨ 32768 ≤ s.host.wrts.length ∨ 32768 < s.host.wrts.length + n) then s.stall
      else
        let idx := (List.range n).map (fun k => (i + k) % 32768)
        if s.tagFor c sqid t = false ∨ idx.any (fun j => (s.wrt j).isSome) then s
        else
          match moved.fetchCount with
          | (false, _) => s
          | (true, s) => (s.takeEntry c sqid t i q ranges).startExit

def execSubmissionFetch (ctrl : Fin 64) (queue : ReadyQueue) (tag : TagNo) (entry : WrtNo) (sqe : List Byte) (ranges : List (Nat × Nat))
    (s : State) : Host.Outcome State Fault Refusal :=
  .next (submissionFetch ctrl queue tag entry sqe ranges s)

/-- FETCH_RESUME (R307, R343): a tag and an entry are free again. -/
def execFetchResume (s : State) : Host.Outcome State Fault Refusal :=
  .next (if s.canResume then s.put NVME_STAT_FETCH_STALLED 0 else s)

end Sys2Proof.Machine
end

