-- ==== Sys2Proof/Machine/Admin.lean ====
section
/-!
DEFINITION. NVMe admin commands (file 10, R302-R322; file 11, R348-R350): queues, features, log pages, Identify, Abort, Format NVM and asynchronous events. Where the manual names an NVMe command without its layout, the layout is NVMe's.
-/

namespace Sys2Proof.Machine

/-! ### The command a tag holds -/

/-- The HUB ROM keeps control of the HUB (R98, R464, R484): the part is Blank, in ROM services or Sealed. -/
def State.romControl (s : State) : Bool := s.img.isNone || s.flag BOOT_STAT_ROM_SERVICES || decide (s.get UPD_STAT_STATE = 3)

/-- Whether a command other than those the front end completes itself is in service: with drive firmware, or, where the HUB ROM keeps
control, with it (R98, R336, R339, R464). -/
def State.inService (s : State) (x : Tag) : Bool :=
  decide (x.st = .dispatched) || (s.romControl && decide (x.st = .fetched))

/-- Serve an admin command: a tag that holds none in service with the opcode is left alone. -/
def adminRow (t op : Nat) (work : Tag → State → State) (s : State) : State :=
  match s.tag t with
  | some x => if x.sqid = 0 ∧ x.op = op ∧ s.inService x then work x s else s
  | none => s

/-- Complete with success. -/
def State.okTag (s : State) (t : Nat) (x : Tag) : State := s.finish t x stOk 0 0

/-- Complete with data and dword 0: to the host, or for a management command in its response (R336). -/
def State.giveDataDw (s : State) (t : Nat) (x : Tag) (d : List Byte) (dw0 : Nat) : State :=
  if x.ctrl = 0xFFFF then s.finish t { x with data := d } stOk dw0 0
  else (s.modHost (fun h => { h with out := d })).finish t x stOk dw0 0

def State.giveData (s : State) (t : Nat) (x : Tag) (d : List Byte) : State := s.giveDataDw t x d 0

def Tag.dw (x : Tag) (n : Nat) : Nat := sqDw x.sqe n

/-! ### I/O queues (R302-R305) -/

/-- MSI-X vectors of the controller's function (R296). -/
def State.vectors (s : State) (c : Nat) : Nat := if (s.function c).2 = 0 then 257 else 65

/-- CREATE_IO_CQ: QID within the grant (R304), contiguous (R305), at most 4,096 entries. -/
def createCq (t : Nat) (x : Tag) (s : State) : State :=
  let k := s.ctrl x.acts
  let qid := x.dw 10 % 65536
  let size := x.dw 10 / 65536
  if qid = 0 ∨ k.grant < qid ∨ k.cqs.any (fun q => decide (q.qid = qid)) then s.failTag t x stQid
  else if size = 0 ∨ 4095 < size then s.failTag t x stQsize
  else if bitOf (x.dw 11) 0 = false then s.failTag t x stField
  else if s.vectors x.acts ≤ x.dw 11 / 65536 then s.failTag t x stVector
  else (s.modCtrl x.acts (fun k => { k with cqs := k.cqs ++ [⟨qid, size + 1, x.dw 11 / 65536, 0⟩] })).okTag t x

def execCreateIoCq (tag : TagNo) (s : State) : Host.Outcome State Fault Refusal := .next (adminRow tag 0x05 (createCq tag) s)

/-- CREATE_IO_SQ: as CREATE_IO_CQ, on a completion queue that exists, in the priority class QPRIO names (R308). -/
def createSq (t : Nat) (x : Tag) (s : State) : State :=
  let k := s.ctrl x.acts
  let qid := x.dw 10 % 65536
  let size := x.dw 10 / 65536
  let cq := x.dw 11 / 65536
  if qid = 0 ∨ k.grant < qid ∨ k.sqs.any (fun q => decide (q.qid = qid)) ∨ cq = 0 then s.failTag t x stQid
  else if k.cqs.any (fun q => decide (q.qid = cq)) = false then s.failTag t x stCqInvalid
  else if size = 0 ∨ 4095 < size then s.failTag t x stQsize
  else if bitOf (x.dw 11) 0 = false then s.failTag t x stField
  else (s.modCtrl x.acts (fun k => { k with sqs := k.sqs ++ [⟨qid, size + 1, cq, bitsOf (x.dw 11) 2 1⟩] })).okTag t x

def execCreateIoSq (tag : TagNo) (s : State) : Host.Outcome State Fault Refusal := .next (adminRow tag 0x01 (createSq tag) s)

/-- DELETE_IO_SQ: the queue's commands end as Abort ends them where their state allows (R348, R349), with the status NVMe gives a
deleted queue; the queue is gone. -/
def deleteSq (t : Nat) (x : Tag) (s : State) : State :=
  let qid := x.dw 10 % 65536
  if (s.ctrl x.acts).sqs.any (fun q => decide (q.qid = qid)) = false then s.failTag t x stQid
  else
    let ts := (s.host.tags.filter (fun e => decide (e.2.ctrl = x.acts) && decide (e.2.sqid = qid) && !e.2.detached)).map (fun e => e.1)
    let s := ts.foldl (fun s u => match s.tag u with | some y => (s.abortTag u y stSqDeleted).2 | none => s) s
    (s.modCtrl x.acts (fun k => { k with sqs := k.sqs.filter (fun q => decide (q.qid ≠ qid)) })).okTag t x

def execDeleteIoSq (tag : TagNo) (s : State) : Host.Outcome State Fault Refusal := .next (adminRow tag 0x00 (deleteSq tag) s)

/-- DELETE_IO_CQ: refused while a submission queue uses it. -/
def deleteCq (t : Nat) (x : Tag) (s : State) : State :=
  let k := s.ctrl x.acts
  let qid := x.dw 10 % 65536
  if k.cqs.any (fun q => decide (q.qid = qid)) = false then s.failTag t x stQid
  else if k.sqs.any (fun q => decide (q.link = qid)) then s.failTag t x stQdel
  else (s.modCtrl x.acts (fun k => { k with cqs := k.cqs.filter (fun q => decide (q.qid ≠ qid)) })).okTag t x

def execDeleteIoCq (tag : TagNo) (s : State) : Host.Outcome State Fault Refusal := .next (adminRow tag 0x04 (deleteCq tag) s)

/-! ### Log pages (file 10, the log page table) -/

/-- Whether any enabled die is Hot or above, or is treated so (R321, R527). -/
def State.anyHot (s : State) : Bool :=
  (List.range 8).any (fun d => (!(decide (1 ≤ d) && decide (d ≤ 4)) || s.chOn (d - 1)) &&
    (s.flag (THERM_T_BROKEN d) || decide (2 ≤ bitsOf (s.num THERM_LVL) (2 * d + 1) (2 * d))))

/-- Every head the image names is write-disabled (R247, R321). -/
def State.allWdis (s : State) : Bool :=
  s.img.isSome && (List.range 4).all (fun n => !(s.chOn n) ||
    (List.range 6).all (fun k => !(bitOf (s.imgNat (fun i => i.headMask n)) k) || bitOf (s.get (WR_STAT_HEAD_WDIS n)) k))

/-- The SMART critical warning byte (R321, R360, R366). -/
def State.critical (s : State) : Nat :=
  2 * ofBool s.anyHot + 4 * ofBool ((List.range 4).any (fun n => decide (2 ≤ s.actState n))) + 8 * ofBool s.allWdis + 16 * ofBool s.host.lost

/-- A die's sensor in K (R528): its reading, or its HOT threshold while the diode is broken. -/
def State.sensorK (s : State) (d : Nat) : Nat :=
  if s.flag (THERM_T_BROKEN d) then s.get (THR_LIM_HOT d) + 273 else (sx 16 (s.get (THERM_T_TEMP d)) / 256 + 273).toNat

/-- The composite temperature in K (R528): the hottest sensor of the enabled dies. -/
def State.composite (s : State) : Nat :=
  (((List.range 8).filter (fun d => !(decide (1 ≤ d) && decide (d ≤ 4)) || s.chOn (d - 1))).map s.sensorK).foldl max 0

/-- SMART / Health Information: what the manual gives, the power cycles and the hours in NVMe's places; the other counts, which the
manual does not give, are free. -/
def State.smartPage (s : State) : List Byte × State :=
  let (a, s) := s.drawBytes 36 109
  let (b, s) := s.drawBytes 36 368
  (toLe 1 s.critical ++ toLe 2 s.composite ++ a ++ toLe 16 (s.num PCYCLE) ++ toLe 16 (s.optime / 28800) ++ b, s)

/-- Firmware Slot Information: which slot runs, and the firmware revisions, which drive firmware supplies (R310): free. -/
def State.slotPage (s : State) : List Byte × State :=
  let (b, s) := s.drawBytes 37 512
  (b, s)

/-- Commands Supported and Effects: the commands of the function are supported; the effects NVMe lists are free. -/
def State.effectsPage (s : State) (c : Nat) : List Byte × State :=
  let vf := decide ((s.function c).2 ≠ 0)
  let (e, s) := s.drawBytes 38 2048
  let entry := fun (i : Nat) =>
    let op := i % 256
    let on := if i < 256 then adminOps.contains op && !(vf && pfOnlyOps.contains op) else ioOps.contains op
    if on then toLe 4 (fieldLe e (4 * i) 4 / 2 * 2 + 1) else toLe 4 0
  (((List.range 512).map entry).flatten ++ List.replicate 2048 0, s)

/-- A zone list or namespace list: numbers, then zeros, in `n` entries of `k` bytes. -/
def listBytes (k n : Nat) (l : List Nat) : List Byte := slice ((l.take n).map (toLe k)).flatten 0 (k * n)

/-- The page a Get Log Page names, and the state with what reading it retires when Retain Asynchronous Event is 0; none for a page
that does not exist. -/
def State.logPage (s : State) (x : Tag) : Option (List Byte × State) :=
  let c := x.acts
  let lid := x.dw 10 % 256
  let rae := bitOf (x.dw 10) 15
  let i := sqNsid x.sqe - 1
  if lid = 0x01 then some (slice (s.ctrl c).errors.flatten 0 4096, s)
  else if lid = 0x02 then some s.smartPage
  else if lid = 0x03 then some s.slotPage
  else if lid = 0x04 then
    some (listBytes 4 1024 (s.ctrl c).changed, if rae then s else s.modCtrl c (fun k => { k with changed := [] }))
  else if lid = 0x05 then some (s.effectsPage c)
  else if lid = 0x80 then
    let k := s.ctrl c
    match k.resLog with
    | [] => some (List.replicate 64 0, s)
    | (ty, ns) :: rest =>
      some (toLe 8 (k.resCount - rest.length) ++ toLe 1 ty ++ toLe 1 (min 255 rest.length) ++ toLe 2 0 ++ toLe 4 ns ++ List.replicate 48 0,
        if rae then s else s.modCtrl c (fun k => { k with resLog := rest }))
  else if lid = 0xBF ∧ (s.nsInfo i).any (fun n => n.2.2) then
    let zs := (s.ns i).changed
    some (toLe 2 (if 511 < zs.length then 0xFFFF else zs.length) ++ toLe 6 0 ++ listBytes 8 511 zs,
      if rae then s else s.modNs i (fun n => { n with changed := [] }))
  else none

/-- The bytes a Get Log Page asks for, LPO and NUMD as NVMe has them; none where the offset lies past the page. -/
def pageSlice (x : Tag) (p : List Byte) : Option (List Byte) :=
  let n := 4 * (x.dw 10 / 65536 + 65536 * (x.dw 11 % 65536) + 1)
  let o := x.dw 12 + 2 ^ 32 * x.dw 13
  if p.length < o then none else some (slice p o n)

/-- GET_LOG_PAGE (R321, the log page table): pages C0h and C1h have rows of their own. -/
def getLogPage (t : Nat) (x : Tag) (s : State) : State :=
  if x.dw 10 % 256 = 0xC0 ∨ x.dw 10 % 256 = 0xC1 then s
  else
    match s.logPage x with
    | none => s.failTag t x stLogPage
    | some (p, s') =>
      match pageSlice x p with
      | none => s.failTag t x stField
      | some d => s'.giveData t x d

def execGetLogPage (tag : TagNo) (s : State) : Host.Outcome State Fault Refusal := .next (adminRow tag 0x02 (getLogPage tag) s)

/-! ### Identify (R310, R311, R322) -/

/-- Put fields over bytes the manual leaves open. -/
def fieldsOver (b : List Byte) (fs : List (Nat × List Byte)) : List Byte := fs.foldl (fun b f => overlay b f.1 f.2) b

/-- Firmware slots (R310, R476): the FLASH record's firmware partitions of P_INDEX 0 to 6. -/
def State.slots (s : State) : Nat :=
  match s.img with
  | some i => ((i.partitions).filter (fun p => decide (partKind p = 1) && decide (partIndex p < 7))).length
  | none => 0

/-- Power state descriptors of R518, in NVMe's places: maximum power with its scale, non-operational, ENLAT and EXLAT in µs. PS0's power
is the part ceiling of R40. -/
def State.powerDescs (s : State) : List (Nat × List Byte) :=
  let ch := (List.range 4).foldl (fun n k => n + ofBool (s.chOn k)) 0
  let load := 1000 * s.get LADDER_MECH_LOAD_MS
  let up := s.reloadUs + 1000 * s.get LADDER_MECH_SPINUP_MS + load
  let rows := [(460 + 125 * ch, 0, 0, 0), (95, 2, 10, 10), (950, 3, 1710 + load, 100 + load), (95, 3, 3710 + load, 1000 + up),
    (10, 3, 4710 + load, 10000 + up)]
  (List.zip (List.range 5) rows).map (fun r =>
    (2048 + 32 * r.1, toLe 2 r.2.1 ++ toLe 1 0 ++ toLe 1 r.2.2.1 ++ toLe 4 r.2.2.2.1 ++ toLe 4 r.2.2.2.2))

/-- Identify Controller (R310): the fields the manual fixes, in NVMe's places. -/
def State.idController (s : State) (c : Nat) : List Byte × State :=
  let (b, s) := s.drawBytes 35 4096
  let im := fun f => s.imgNat f
  let cmic := ofBool (decide (im Image.portShape = 0)) + 2 + 4 * ofBool (decide (0 < im Image.vfMax))
  let frmw := fieldLe b 260 1 / 32 * 32 % 256 + 16 + 2 * (s.slots % 8) + fieldLe b 260 1 % 2
  (fieldsOver b ([(0, toLe 2 (im Image.vid)), (2, toLe 2 (im Image.ssvid)), (76, toLe 1 cmic), (77, toLe 1 8), (78, toLe 2 c), (80, toLe 4 0x20000),
    (111, toLe 1 1), (256, toLe 2 7), (258, toLe 1 7), (259, toLe 1 7), (260, toLe 1 frmw), (263, toLe 1 4), (512, toLe 1 0x66),
    (513, toLe 1 0x44), (514, toLe 2 4096), (516, toLe 4 (im Image.nsMax)), (520, toLe 2 0xBD), (522, toLe 2 0),
    (525, toLe 1 (ofBool (!(s.imgBool Image.plpEnable)))), (526, toLe 2 63), (528, toLe 2 63),
    (536, toLe 4 (fieldLe b 536 4 / 4 * 4 + 1))] ++ s.powerDescs), s)

/-- Identify Namespace of the NVM command set (R311, R312, R327). -/
def State.idNamespace (s : State) (i : Nat) : List Byte × State :=
  match s.nsInfo i with
  | none => (List.replicate 4096 0, s)
  | some (_, zones, _) =>
    let (b, s) := s.drawBytes 35 4096
    let n := s.ns i
    let cap := zones * 65536
    let flbas := n.fmt + 16 * ofBool n.ext
    let dps := n.pi % 4 + 8 * (n.pi / 4 % 2)
    let lbaf := fun (f : Nat) => (128 + 4 * f, toLe 2 (fmtMeta f) ++ toLe 1 12)
    (fieldsOver b [(0, toLe 8 cap), (8, toLe 8 cap), (25, toLe 1 3), (26, toLe 1 flbas), (27, toLe 1 3), (28, toLe 1 0x1F), (29, toLe 1 dps),
      (33, toLe 1 9), lbaf 0, lbaf 1, lbaf 2, lbaf 3], s)

/-- The zoned command set's fields of a namespace (R322). -/
def State.idZoned (s : State) : List Byte × State :=
  let (b, s) := s.drawBytes 35 4096
  let ext := fun (f : Nat) => (2816 + 16 * f, toLe 8 65536 ++ toLe 1 0)
  (fieldsOver b [(2, toLe 2 1), (4, toLe 4 255), (8, toLe 4 255), ext 0, ext 1, ext 2, ext 3], s)

/-- Namespaces attached to a controller with an identifier above `above`, of a command set if one is named (0 NVM, 2 zoned). -/
def State.attached (s : State) (c above : Nat) (set : Option Nat) : List Nat :=
  ((List.range 16).filter (fun i => bitOf (s.num (CTRL_NS c)) i && decide (above < i + 1) &&
    (match s.nsInfo i, set with
    | some _, none => true
    | some (_, _, z), some k => decide (k = if z then 2 else 0)
    | none, _ => false))).map (fun i => i + 1)

/-- Namespace identification descriptors: the command set, and an identifier the manual does not give. -/
def State.idDescs (s : State) (i : Nat) : List Byte × State :=
  match s.nsInfo i with
  | none => (List.replicate 4096 0, s)
  | some (_, _, z) =>
    let (u, s) := s.drawBytes 35 16
    (slice ([3, 16, 0, 0] ++ u ++ [4, 1, 0, 0, if z then 2 else 0]) 0 4096, s)

/-- The data structure a CNS names; none for one the manual does not list, or a namespace the controller cannot see. -/
def State.identify (s : State) (x : Tag) : Except Nat (List Byte × State) :=
  let c := x.acts
  let cns := x.dw 10 % 256
  let set := x.dw 11 / 0x1000000
  let nsid := sqNsid x.sqe
  let i := nsid - 1
  let seen := decide (1 ≤ nsid) && decide (nsid ≤ 16)
  let att := seen && bitOf (s.num (CTRL_NS c)) i
  if cns = 0x01 then .ok (s.idController c)
  else if cns = 0x02 then .ok (listBytes 4 1024 (s.attached c nsid none), s)
  else if cns = 0x07 then .ok (listBytes 4 1024 (s.attached c nsid (some set)), s)
  else if cns = 0x1C then .ok (slice (toLe 8 5) 0 4096, s)
  else if cns = 0x06 then
    if set = 0 then .ok (s.drawBytes 35 4096)
    else if set = 2 then
      let (b, s) := s.drawBytes 35 4096
      .ok (fieldsOver b [(0, toLe 1 8)], s)
    else .error stField
  else if cns = 0x00 ∨ cns = 0x03 ∨ cns = 0x05 ∨ cns = 0x08 then
    if seen = false then .error stNamespace
    else if att = false then .ok (List.replicate 4096 0, s)
    else if cns = 0x00 then .ok (s.idNamespace i)
    else if cns = 0x03 then .ok (s.idDescs i)
    else if cns = 0x05 then
      if set = 0 then .ok (s.drawBytes 35 4096)
      else if set = 2 then .ok s.idZoned
      else .error stField
    else .ok (s.drawBytes 35 4096)
  else .error stField

/-- IDENTIFY (R310, R311, R322). -/
def identifyCmd (t : Nat) (x : Tag) (s : State) : State :=
  match s.identify x with
  | .ok (d, s') => s'.giveData t x d
  | .error st => s.failTag t x st

def execNvmeIdentify (tag : TagNo) (s : State) : Host.Outcome State Fault Refusal := .next (adminRow tag 0x06 (identifyCmd tag) s)

/-! ### Abort (R348) -/

/-- The tag a command names by queue and CID. -/
def State.findCmd (s : State) (c sqid cid me : Nat) : Option (Nat × Tag) :=
  s.host.tags.find? (fun e => decide (e.2.ctrl = c) && decide (e.2.sqid = sqid) && decide (sqCid e.2.sqe = cid) && decide (e.1 ≠ me) && !e.2.detached)

/-- ABORT: the front end completes it, with dword 0 bit 0 telling whether the command was aborted. -/
def abortCmd (t : Nat) (s : State) : State :=
  match s.tag t with
  | none => s
  | some x =>
    if x.st = .fetched ∧ x.sqid = 0 ∧ x.op = 0x08 then
      match s.findCmd x.ctrl (x.dw 10 % 65536) (x.dw 10 / 65536) t with
      | some (u, y) =>
        let r := s.abortTag u y stAborted
        if r.1 then (r.2.tagCount ABORTED 0).finish t x stOk 0 0 else (r.2.tagCount NOT_ABORTED 1).finish t x stOk 1 0
      | none => (s.tagCount NOT_ABORTED 1).finish t x stOk 1 0
    else s

def execNvmeAbort (tag : TagNo) (s : State) : Host.Outcome State Fault Refusal := .next (abortCmd tag s)

/-! ### Features (R303, R308, R312, R313, R319, R320, the feature table) -/

/-- Statuses of NVMe for features. -/
def stNotSaveable : Nat := nvStatus 1 0x0D 0

/-- SET_FEATURES_NUMBER_OF_QUEUES (R303). -/
def setQueues (t : Nat) (x : Tag) (s : State) : State :=
  let c := x.acts
  let k := s.ctrl c
  if x.dw 10 % 256 ≠ 7 then s
  else if k.granted then s.failTag t x stSequence
  else if x.dw 11 % 65536 = 65535 ∨ x.dw 11 / 65536 = 65535 then s.failTag t x stField
  else
    let n := max (x.dw 11 % 65536) (x.dw 11 / 65536) + 1
    let reserve := if (s.function c).2 = 0 then s.imgNat Image.pfQpReserve else 0
    let free := s.poolFreeQp
    let g := min n (reserve + free)
    if g = 0 then (s.noteBit nvmeErr 2).raise 41 |>.finish t x stQueues 0 0
    else
      let own := min g reserve
      (s.modCtrl c (fun k => { k with granted := true, fromReserve := own, fromPool := g - own })).finish t x stOk ((g - 1) * 65537) 0

def execSetFeaturesNumberOfQueues (tag : TagNo) (s : State) : Host.Outcome State Fault Refusal :=
  .next (adminRow tag 0x09 (setQueues tag) s)

/-- SET_FEATURES_VOLATILE_WRITE_CACHE (R319). -/
def setVwc (t : Nat) (x : Tag) (s : State) : State :=
  if x.dw 10 % 256 ≠ 6 then s
  else if s.imgBool Image.plpEnable then s.failTag t x stField
  else (s.modHost (fun h => { h with vwc := bitOf (x.dw 11) 0 })).okTag t x

def execSetFeaturesVolatileWriteCache (tag : TagNo) (s : State) : Host.Outcome State Fault Refusal :=
  .next (adminRow tag 0x09 (setVwc tag) s)

/-- Features of the table that Set Features carries out under its general row. -/
def plainFeatures : List Nat := [0x01, 0x04, 0x05, 0x08, 0x09, 0x0A, 0x0B, 0x81, 0x82, 0x83]
/-- The saveable ones. -/
def saveable : List Nat := [0x04, 0x05, 0x83]

/-- Where a feature's value is kept: its identifier with what selects among its values — the threshold and sensor of 04h, the vector of
09h, the namespace of 05h, 82h and 83h. -/
def featKey (x : Tag) : Nat :=
  let f := x.dw 10 % 256
  if f = 0x04 then f + 256 * (x.dw 11 / 65536 % 64)
  else if f = 0x09 then f + 256 * (x.dw 11 % 65536)
  else if f = 0x05 ∨ f = 0x82 ∨ f = 0x83 then f + 256 * (sqNsid x.sqe % 65536)
  else f

/-- The namespaces a feature of namespaces acts on: one, or with NSID FFFFFFFFh all those attached. -/
def State.featNs (s : State) (x : Tag) : List Nat :=
  let n := sqNsid x.sqe
  if n = 0xFFFFFFFF then (s.attached x.acts 0 none).map (fun k => k - 1)
  else if 1 ≤ n ∧ n ≤ 16 ∧ bitOf (s.num (CTRL_NS x.acts)) (n - 1) ∧ (s.nsInfo (n - 1)).isSome then [n - 1] else []

/-- The default of a feature: what the manual gives — AB 3, an atomicity and coalescing of 0, no time limit set, no notification
masked — every event of 0Bh; where it gives none the value is free. -/
def featDefault (f : Nat) : Nat :=
  if f = 0x01 then 3
  else if f = 0x0B then 0x080003FF
  else if f = 0x04 then Config.freeNat 39 f % 2 ^ 32
  else 0

/-- Whether the values Set Features brings are ones the manual allows. -/
def featOk (x : Tag) : Bool :=
  let f := x.dw 10 % 256
  if f = 0x0A then decide (x.dw 11 = 0)
  else if f = 0x81 then bitOf (x.dw 11) 0
  else if f = 0x04 then decide (x.dw 11 / 65536 % 16 ≤ 8) || decide (x.dw 11 / 65536 % 16 = 15)
  else true

/-- Save the reservations of namespace i to the NV store (R328). -/
def resAt (i : Nat) : Nat := 0x1F000 + 0x800 * i
def State.saveReservation (s : State) (i : Nat) : State :=
  let n := s.ns i
  if n.ptpl then
    s.nvsWrite (resAt i) (slice (toLe 1 n.resType ++ toLe 1 n.regs.length ++ toLe 2 1 ++ toLe 4 n.resGen ++ toLe 16 n.resHolder ++
      (n.regs.map (fun r => toLe 16 r.1 ++ toLe 8 r.2)).flatten) 0 0x800)
  else s.nvsWrite (resAt i) (List.replicate 0x800 0)

/-- SET_FEATURES (R308, R312, R313, R328): any supported feature but those with rows of their own. `data` is the Host Identifier. -/
def setFeature (t : Nat) (data : List Byte) (x : Tag) (s : State) : State :=
  let f := x.dw 10 % 256
  let sv := bitOf (x.dw 10) 31
  let v := x.dw 11
  let c := x.acts
  let perNs := f = 0x05 ∨ f = 0x82 ∨ f = 0x83
  if f = 0x02 ∨ f = 0x06 ∨ f = 0x07 then s
  else if plainFeatures.contains f = false then s.failTag t x stField
  else if sv ∧ saveable.contains f = false then s.failTag t x stNotSaveable
  else if featOk x = false then s.failTag t x stField
  else if perNs ∧ (s.featNs x).isEmpty then s.failTag t x stNamespace
  else
    let s := if sv then
        (if perNs then s.featNs x else [0]).foldl (fun s i =>
          s.modHost (fun h => { h with saved := place (if perNs then f + 256 * (i + 1) else featKey x) v h.saved })) s
      else s
    let s := if f = 0x05 then
        (s.featNs x).foldl (fun s i => s.modNs i (fun n => { n with tler := v % 65536, dulbe := bitOf v 16 })) s
      else if f = 0x83 then
        (s.featNs x).foldl (fun s i => (s.modNs i (fun n => { n with ptpl := bitOf v 0 })).saveReservation i) s
      else if f = 0x81 then s.modCtrl c (fun k => { k with hostId := leNat (slice data 0 16) })
      else if f = 0x82 then
        (s.featNs x).foldl (fun s i => s.modCtrl c (fun k => { k with feats := place (f + 256 * (i + 1)) v k.feats })) s
      else s.modCtrl c (fun k => { k with feats := place (featKey x) v k.feats })
    s.okTag t x

def execSetFeatures (tag : TagNo) (data : List Byte) (s : State) : Host.Outcome State Fault Refusal :=
  .next (adminRow tag 0x09 (setFeature tag data) s)

/-- The current value of a feature. -/
def State.featNow (s : State) (x : Tag) : Nat :=
  let f := x.dw 10 % 256
  let k := s.ctrl x.acts
  let n := s.ns (sqNsid x.sqe - 1)
  if f = 0x02 then (look x.acts s.host.powerOf).getD 0
  else if f = 0x05 then n.tler + 65536 * ofBool n.dulbe
  else if f = 0x06 then ofBool s.host.vwc
  else if f = 0x07 then (if k.grant = 0 then 0 else (k.grant - 1) * 65537)
  else if f = 0x83 then ofBool n.ptpl
  else (look (featKey x) k.feats).getD (featDefault f)

/-- GET_FEATURES (R303, R304, the feature table): the current, default or saved value, or what the feature allows; Host Identifier
comes as data. -/
def getFeature (t : Nat) (x : Tag) (s : State) : State :=
  let f := x.dw 10 % 256
  let sel := bitsOf (x.dw 10) 10 8
  if (plainFeatures ++ [0x02, 0x06, 0x07]).contains f = false ∨ (f = 0x06 ∧ s.imgBool Image.plpEnable) then s.failTag t x stField
  else if 3 < sel then s.failTag t x stField
  else if f = 0x81 ∧ sel = 0 then s.giveData t x (toLe 16 (s.ctrl x.acts).hostId)
  else
    let perNs := decide (f = 0x05) || decide (f = 0x82) || decide (f = 0x83)
    let dflt := if f = 0x06 then 1 else featDefault f
    let v := if sel = 0 then s.featNow x
      else if sel = 1 then dflt
      else if sel = 2 then (look (featKey x) s.host.saved).getD dflt
      else ofBool (saveable.contains f) + 2 * ofBool perNs + 4
    s.finish t x stOk (v % 2 ^ 32) 0

def execGetFeatures (tag : TagNo) (s : State) : Host.Outcome State Fault Refusal := .next (adminRow tag 0x0A (getFeature tag) s)

/-! ### Asynchronous events (R310) -/

/-- ASYNCHRONOUS_EVENT_REQUEST: eight may be outstanding; one completes at once with an event that waits. -/
def aerCmd (t : Nat) (x : Tag) (s : State) : State :=
  let k := s.ctrl x.acts
  if k.aers.contains t then s
  else if 8 ≤ k.aers.length then s.failTag t x stAerLimit
  else
    match k.events with
    | e :: rest => (s.modCtrl x.acts (fun k => { k with events := rest })).finish t x stOk e 0
    | [] => s.modCtrl x.acts (fun k => { k with aers := k.aers ++ [t] })

def execAsynchronousEventRequest (tag : TagNo) (s : State) : Host.Outcome State Fault Refusal := .next (adminRow tag 0x0C (aerCmd tag) s)

/-! ### Format NVM (R318) -/

/-- A request of the front end's own as the map journal records it, which the manual does not describe: the OP, the first zone's DLBA and a
count of zones. OP 4 and 7 are those of the ring; 8 is a reset of zones. -/
def ownRequest (op z n : Nat) : List Byte := slice (toLe 8 op ++ toLe 8 (65536 * z) ++ toLe 4 n) 0 32

/-- The slot that holds a Rebinding of the zone still to be switched (R282): FLAGS.RB keeps a second from naming it. -/
def State.rbSlot (s : State) (z : Nat) : Option Nat :=
  (List.range 4).find? (fun k => (decide (slState (s.slot k) = 1) || decide (slState (s.slot k) = 2)) && decide (slZone (s.slot k) = z))

/-- A Rebinding of the zone is discarded, and the change journalled (R279, R283, R285). -/
def State.rbDiscard (s : State) (z : Nat) : State :=
  match s.rbSlot z with
  | none => s
  | some k =>
    let b := overlay (s.slot k) 0 (toLe 4 0)
    ((s.slotWrite k b).slotDiscard b).journal (ownRequest 7 z 1 ++ b) s.mapSeq

/-- Records the journal needs to take a change of a zone's entry that discards its Rebinding first. -/
def State.zoneRecords (s : State) (z : Nat) : Nat := if (s.rbSlot z).isSome then 2 else 1

/-- Put an entry in the zone table, and journal it as a ZONE_SET (R279). -/
def State.zonePut (s : State) (z : Nat) (ze : List Byte) : State := (s.catWrite (s.zoneAt z) ze).journal (ownRequest 4 z 1 ++ ze) s.mapSeq

/-- Reset `n` zones from z on (R264), journalled as one change (R279). -/
def State.zonesClear (s : State) (z n : Nat) : State :=
  ((List.range n).foldl (fun s k => s.zoneClear (z + k)) s).journal (ownRequest 8 z n) s.mapSeq

/-- Reset a zone (R264). A Rebinding of the zone is discarded first (R285). -/
def State.zoneReset (s : State) (z : Nat) : State := (s.rbDiscard z).zonesClear z 1

/-- Format one namespace (R318): a new key, its zones reset with any Rebinding of them discarded, the range entries of its writes gone, so that
every later read returns zeros, and the format set; it is formatting until the command completes. -/
def State.formatNs (s : State) (i fmt pi : Nat) (ext : Bool) : State :=
  match s.nsInfo i with
  | none => s
  | some (z0, zones, _) =>
    let s := s.modNs i (fun n => { n with fmt := fmt, pi := pi, ext := ext, formatting := true })
    let job := s.keyJob
    let s := keyDone { s with keyJob := some (i, true) }
    let s := { s with keyJob := job }
    let s : State := (s.host.wrts.filter (fun e => decide (e.2.ns = i))).foldl (fun s e => s.dropWrt e.1) s
    if s.num ZONES = 0 then s
    else
      let s := (List.range zones).foldl (fun (s : State) k => s.rbDiscard (z0 + k)) s
      s.zonesClear z0 zones

/-- The namespaces a Format names. -/
def formats (n i : Nat) : Bool := decide (n = 0xFFFFFFFF) || decide (n = i + 1)

/-- Records a Format needs in the map journal: one for each namespace, and one for each Rebinding it may discard. -/
def State.formatRoom (s : State) (n : Nat) : Bool :=
  if s.num ZONES = 0 then true else s.mjRoom (4 + ((List.range 16).filter (fun i => formats n i && (s.nsInfo i).isSome)).length)

/-- FORMAT_NVM (R309 row 4, R318): the namespace of NSID, or all of them; one that is formatting already fails it. Drive firmware completes the
command. It begins once the map journal has room for its records (R279). -/
def formatCmd (t : Nat) (x : Tag) (s : State) : State :=
  let d := x.dw 10
  let f := d % 16
  let pi := bitsOf d 7 5
  let n := sqNsid x.sqe
  if 3 < f ∨ 3 < pi ∨ (pi ≠ 0 ∧ fmtMeta f < 16) then s.failTag t x stFormat
  else if 2 < bitsOf d 11 9 then s.failTag t x stField
  else if n ≠ 0xFFFFFFFF ∧ (n = 0 ∨ 16 < n ∨ (s.nsInfo (n - 1)).isNone) then s.failTag t x stNamespace
  else if (List.range 16).any (fun i => formats n i && (s.ns i).conflict (s.ctrl x.acts).hostId opWrite) then s.failTag t x stReservation
  else if x.begun then s
  else if (List.range 16).any (fun i => formats n i && (s.ns i).formatting) then s.failTag t x stFormatting
  else if s.formatRoom n = false then s
  else
    let s := (List.range 16).foldl (fun s i => if formats n i then s.formatNs i f (pi + 4 * ofBool (bitOf d 8)) (bitOf d 4) else s) s
    s.setTag t { x with begun := true }

def execFormatNvm (tag : TagNo) (s : State) : Host.Outcome State Fault Refusal := .next (adminRow tag 0x80 (formatCmd tag) s)

end Sys2Proof.Machine
end

