-- ==== Sys2Proof/Machine/Calibration.lean ====
section
/-!
DEFINITION. Calibration by selection (file 02, R55-R63, R119, R120, R205, R241) and the arbitration of shared units. Where a selection, its count and its time lie inside the NV store's calibration region is the model's (notes/assumptions/3.md).
-/

namespace Sys2Proof.Machine

/-- The base address of a calibrating unit (file 02): the bandgap of dies 0-5, DEMOD, ADC and ASSIST of CH0-CH3. -/
def calBase (u : Nat) : Nat :=
  if u < 6 then unitBase u 0
  else if u < 10 then chDEMOD (u - 6)
  else if u < 14 then chADC (u - 10)
  else chASSIST (u - 14)

/-- The die of a calibrating unit. -/
def calDie (u : Nat) : Nat := addrDie (calBase u)

/-- The event a calibrating unit raises (the units' event lists): DEMOD 18, ADC 3, ASSIST 11; a DIE unit has none. -/
def calEvent (u : Nat) : Option Nat :=
  if u < 6 then none
  else if u < 10 then some (chEvent (u - 6) 18)
  else if u < 14 then some (chEvent (u - 10) 3)
  else some (chEvent (u - 14) 11)

/-- Where a unit's selection, count and time are kept in the NV store (R61, R465). -/
def calNvs (u : Nat) : Nat := 0x1A000 + 0x60 * u

def State.calOf (s : State) (u : Nat) : Cal := atD s.cal u Cal.reset

def State.modCal (s : State) (u : Nat) (f : Cal → Cal) : State := { s with cal := modAt s.cal u f }

/-- Where the TDC's cell table is kept in the NV store (R119). -/
def calTable (u : Nat) : Nat := 0x1B000 + 0x100 * (u - 6)

/-- The temperature a die's diode last gave, S8.8 (R523). -/
def State.dieTemp (s : State) (die : Nat) : Int := sx 16 (s.get (THERM_T_TEMP die))

/-! ### A run (R119, file 02's table of kinds)

A run measures the elements: of a bandgap the deviation of each of 32 taps in 0.1 mV; of a TDC the hits of each of 64 cells; of an ADC the
offset of each of its 135 comparators in 1/64 LSB, ADC after ADC; of a DAC the current of each of 64 segments in 0.001 % of its nominal
value. Units of measurement and the order of equals are the model's (notes/assumptions/54.md). -/

/-- Elements that a run of a unit measures. -/
def calCount (u : Nat) : Nat := if u < 6 then 32 else if u < 10 then 64 else if u < 14 then 405 else 64

/-- The place of element `i` among the values: how many lie before it, equals in order. -/
def rankOf (ds : List Nat) (i : Nat) : Nat :=
  (List.range ds.length).foldl (fun k j =>
    if ds.getD j 0 < ds.getD i 0 ∨ (ds.getD j 0 = ds.getD i 0 ∧ j < i) then k + 1 else k) 0

/-- The `k` elements of least value, in order of their numbers. -/
def leastOf (k : Nat) (ds : List Nat) : List Nat := (List.range ds.length).filter (fun i => decide (rankOf ds i < k))

/-- Twice the median of an even number of values. -/
def median2 (xs : List Int) : Int :=
  let lo := xs.foldl min 0
  let ds := xs.map (fun x => (x - lo).toNat)
  let at_ (r : Nat) : Int := match (List.range ds.length).find? (fun i => decide (rankOf ds i = r)) with
    | some i => xs.getD i 0
    | none => 0
  at_ (xs.length / 2 - 1) + at_ (xs.length / 2)

/-- The `k` elements nearest the median of all. -/
def nearMedian (k : Nat) (xs : List Int) : List Nat := leastOf k (xs.map (fun x => (2 * x - median2 xs).natAbs))

/-- The values a run measured, one for each element. -/
def calValues (u : Nat) (m : List Int) : List Int := (List.range (calCount u)).map (fun i => m.getD i 0)

/-- The elements that a run selects: the tap nearest the reference's nominal value; the 48 cells nearest the median; the 127 comparators of
each ADC with the least offset; the 60 segments nearest the median. -/
def calSelect (u : Nat) (m : List Int) : List Nat :=
  let xs := calValues u m
  if u < 6 then leastOf 1 (xs.map Int.natAbs)
  else if u < 10 then nearMedian 48 xs
  else if u < 14 then
    [0, 1, 2].flatMap (fun a => (leastOf 127 (((xs.drop (135 * a)).take 135).map Int.natAbs)).map (· + 135 * a))
  else nearMedian 60 xs

/-- The quantities that two runs are compared by, in the kind's unit of tolerance (file 02): the selected tap's deviation; the mean step of
the selected chain in 0.01 % of the mean of all cells; every selected comparator's offset; the full-scale current in 0.001 %. -/
def calQuantities (u : Nat) (m : List Int) : List Int :=
  let xs := calValues u m
  let sel := (calSelect u m).map (fun i => xs.getD i 0)
  if u < 6 then sel
  else if u < 10 then [roundDiv (sel.foldl (· + ·) 0 * 640000) (48 * (max 1 (xs.foldl (· + ·) 0)).toNat)]
  else if u < 14 then sel
  else [roundDiv (sel.foldl (· + ·) 0) 60]

/-- A selection as a number with a bit for each selected element. -/
def selBits (sel : List Nat) : Nat := sel.foldl (fun w i => w + 2 ^ i) 0

/-- The cell table of a TDC (R119): the hits of the selected cells, in the order of the chain. -/
def cellTable (m : List Int) : List Nat := (calSelect 6 m).map (fun i => ((calValues 6 m).getD i 0).toNat)

/-- Two runs agree within CAL_TOL, 0 acting as 1 (R59, CAL_TOL). -/
def agrees (u tol : Nat) (a b : List Int) : Bool :=
  ((calQuantities u a).zip (calQuantities u b)).all (fun p => decide ((p.1 - p.2).natAbs ≤ max 1 tol))

/-- What the runs made so far come to (R59, R60): nothing yet, or how many were used and the measurement of the run whose selection is
adopted, none where the previous selection stays. -/
def calVerdict (u tol : Nat) : List (List Int) → Option (Nat × Option (List Int))
  | [a, b] => if agrees u tol a b then some (2, some b) else none
  | a :: b :: c :: _ => some (3, if agrees u tol a c || agrees u tol b c then some c else none)
  | _ => none

/-! ### When a calibration is due (R58) -/

/-- A calibration becomes due (R58): it waits for its unit at row 6 of the arbitration order. -/
def makeDue (u : Nat) (s : State) : State :=
  let was := s.flag (CAL_STAT_DUE (calBase u))
  let s := (s.put (CAL_STAT_DUE (calBase u)) 1).modCal u (fun c => { c with dueAt := if was then c.dueAt else s.optime })
  if s.waiting.any (fun w => decide (w.unit = u)) || s.flag (CAL_STAT_BUSY (calBase u)) || (s.calOf u).granted then s
  else { s with waiting := s.waiting ++ [⟨u, 6⟩] }

/-- CAL_DUE (R58): INTERVAL minutes of operating time since the last completion, or TEMP_DELTA °C of diode change since then;
0 in either field disables it. -/
def calDueNow (u : Nat) (s : State) : Bool :=
  let b := calBase u
  let iv := s.get (CAL_CTL_INTERVAL b)
  let td := s.get (CAL_CTL_TEMP_DELTA b)
  let since := s.optime - s.num64 (CAL_TIME_LO b) (CAL_TIME_HI b)
  (decide (iv ≠ 0) && decide (since ≥ iv * 480)) ||
    (decide (td ≠ 0) && decide (((s.dieTemp (calDie u) - (s.calOf u).lastTemp).natAbs) ≥ td * 256))

def execCalDue (u : CalUnit) (s : State) : Host.Outcome State Fault Refusal :=
  .next (if s.dieOn (calDie u) && calDueNow u s then makeDue u s else s)

/-- Whether 60 s have passed since the unit's last calibration started (R58). -/
def calHoldoffOver (u : Nat) (s : State) : Bool :=
  match (s.calOf u).lastStart with
  | none => true
  | some t => decide (s.optime ≥ t + 480)

/-- A write of CAL_CTL, the Basic function of a calibrating unit, ends an override of its CAL_TOL (R11). -/
def calPolicy (u : Nat) (s : State) : State := s.toPolicy (fun a => decide (a = CAL_TOL (calBase u)))

/-- CAL_START (R58): due now, or when the 60 s interval ends. -/
def calStart (u : Nat) (s : State) : State :=
  let s := calPolicy u s
  if calHoldoffOver u s then makeDue u s else s.modCal u (fun c => { c with startPend := true })

def execCalStart (u : CalUnit) (s : State) : Host.Outcome State Fault Refusal :=
  .next (s.access (calDie u) (calStart u))

/-- CAL_HOLDOFF_END (R58): a START deferred in the interval takes effect when the interval ends. -/
def execCalHoldoffEnd (u : CalUnit) (s : State) : Host.Outcome State Fault Refusal :=
  .next (
    if (s.calOf u).startPend && calHoldoffOver u s then makeDue u (s.modCal u (fun c => { c with startPend := false })) else s)

/-- CAL_DEADLINE (R55, R58): a calibration due for GRACE minutes is OVERDUE and waits at row 3. -/
def execCalDeadline (u : CalUnit) (s : State) : Host.Outcome State Fault Refusal :=
  .next (
    let b := calBase u
    if s.flag (CAL_STAT_DUE b) && decide ((s.calOf u).dueAt + s.get (CAL_CTL_GRACE b) * 480 ≤ s.optime) then
      let s := s.put (CAL_STAT_OVERDUE b) 1
      { s with waiting := s.waiting.map (fun w => if w.unit = u.val then { w with row := 3 } else w) }
    else s)

/-! ### Shared units (R55-R57) -/

/-- The revolution count (R175). -/
def State.revs (s : State) : Nat := s.num64 REV_LO REV_HI

/-- A unit's calibration is of the TDC kind, which uses its unit only while the servo gate is closed and contends with nothing (R120). -/
def isTdc (u : Nat) : Bool := decide (6 ≤ u) && decide (u < 10)

/-- The base address that stands for a shared unit: the read and write path by DETECT, the actuator's position by LOOP. -/
def sharedKey : SharedUnit → Nat
  | .path n => unitBase (n + 1) 3
  | .assist n => chASSIST n
  | .fly n => unitBase (n + 1) 7
  | .actuator n => unitBase (n + 1) 9
  | .signet => unitBase 0 8
  | .folio => unitBase 0 9
  | .dram => hubDRAMC
  | .caches => hubSCACHE
  | .bandgap d => unitBase d 0
  | .tdc n => chDEMOD n

/-- The shared unit that a calibration takes (R55): an ADC's the read and write path, a DAC's ASSIST; a bandgap's and a TDC's no unit of other
work. -/
def calKey (u : Nat) : Nat := if u < 10 then calBase u else if u < 14 then unitBase (u - 9) 3 else chASSIST (u - 14)

/-- Whether a waiting calibration may be granted now: its die runs; not within 60 s of the start of its last calibration unless a run of
that calibration is being continued (R58); past its deadline only one slice in any four revolutions (R55), which a TDC's, never deferred
(R120), does not wait for. Revolutions are those of REV_COUNT, which stands still with the spindle, and slices are counted for each
calibrating unit: the model's choice (notes/assumptions/54.md). -/
def mayRun (s : State) (w : Waiting) : Bool :=
  s.dieRuns (calDie w.unit) && (calHoldoffOver w.unit s || decide ((s.calOf w.unit).runs ≠ []) || (s.calOf w.unit).live) &&
    (decide (w.row ≠ 3) || isTdc w.unit || (match look w.unit s.slices with | some r => decide (s.revs ≥ r + 4) | none => true))

/-- The first entry of the lowest row: the order of R55, and within a row the earlier request (R56). -/
def firstWaiting (ws : List Waiting) : Option Waiting :=
  ws.foldl (fun best w => match best with
    | none => some w
    | some b => if w.row < b.row then some w else some b) none

/-- A run of a calibration begins, and with the first a new calibration starts (R58). -/
def State.calBegin (s : State) (u : Nat) : State :=
  (s.put (CAL_STAT_BUSY (calBase u)) 1).modCal u (fun c =>
    if c.runs = [] ∧ c.live = false then { c with lastStart := some s.optime, live := true, granted := false }
    else { c with live := true, granted := false })

/-- A calibration gets its unit: a run begins, one past its deadline at the next tick (R55 row 3). -/
def State.calGrant (s : State) (w : Waiting) : State :=
  let s := { s with waiting := s.waiting.erase w }
  if w.row = 3 ∧ isTdc w.unit = false then s.modCal w.unit (fun c => { c with granted := true }) else s.calBegin w.unit

/-- A calibration that uses a shared unit runs or is about to. -/
def State.calUses (s : State) (key : Nat) : Bool :=
  (List.range 18).any (fun u => decide (calKey u = key) && (s.flag (CAL_STAT_BUSY (calBase u)) || (s.calOf u).granted))

/-- The work that holds a shared unit has ended, or gives it up to work of a higher row that waits (R55): row 4 at a Folio boundary,
rows 5, 7 and 8 at once; a calibration at the next tick or at the end of its slice. `others`: the rows of the other work that wants it. -/
def State.holderLeaves (s : State) (key best : Nat) (others : List Nat) (folio : Bool) : Bool :=
  match look key s.holders with
  | none => true
  | some r =>
    if r = 3 ∨ r = 6 then !(s.calUses key)
    else if !others.contains r then true
    else if r = 4 then folio && decide (best < 4)
    else (decide (r = 5) || decide (r = 7) || decide (r = 8)) && decide (best < r)

/-- The units that a recovery uses (R224, R228): the read path and the actuator's position. -/
def rcvUnits (n : Nat) : List Nat := [unitBase (n + 1) 3, unitBase (n + 1) 9]

/-- The units that a contact calibration uses (R250): FLY and the actuator's position. -/
def flyUnits (n : Nat) : List Nat := [unitBase (n + 1) 7, unitBase (n + 1) 9]

/-- A channel die's own foreground work uses a unit: a recovery (R224) or a contact calibration (R250). -/
def State.foreRuns (s : State) (key : Nat) : Bool :=
  (List.range 4).any (fun n =>
    ((rcvUnits n).contains key && s.flag (RCV_STAT_BUSY n)) || ((flyUnits n).contains key && s.flag (FLY_STAT_BUSY n)))

/-- Foreground work of row 2 asks for a unit (R55): it gets it where none holds it or work that gives up at once does; a calibration
before its deadline gives way at the next tick, and a slice or Rebinding at its own end. -/
def State.foreAsk (s : State) (key : Nat) : State :=
  match look key s.holders with
  | none => { s with holders := place key 2 s.holders }
  | some r =>
    if r = 5 ∨ r = 7 ∨ r = 8 then { s with holders := place key 2 s.holders }
    else if r = 6 then { s with yields := insertN key s.yields }
    else s

/-- Foreground work asks for its units. -/
def State.foreHold (s : State) (keys : List Nat) : State := keys.foldl (fun s k => s.foreAsk k) s

/-- Foreground work has its units. -/
def State.foreHas (s : State) (keys : List Nat) : Bool := keys.all (fun k => decide (look k s.holders = some 2))

/-- Foreground work of row 2 gives its units up when it ends (R55). -/
def State.foreEnd (s : State) (keys : List Nat) : State :=
  keys.foldl (fun s k => if look k s.holders = some 2 ∧ s.foreRuns k = false then { s with holders := remove k s.holders } else s) s

/-- SHARED_UNIT_GRANT (R55-R57): of a shared unit, the request of the highest row is granted. `others` lists the rows of the
work that wants it besides calibrations, and `folio` says that Rebinding is at a Folio boundary. A TDC's calibration never
contends and is never deferred (R120); a calibration of row 6 gives way to a higher row at the next tick. -/
def execSharedUnitGrant (unit : SharedUnit) (others : List Nat) (folio : Bool) (s : State) : Host.Outcome State Fault Refusal :=
  .next (
    let key := sharedKey unit
    let mine := s.waiting.filter (fun w => decide (calKey w.unit = key) && mayRun s w)
    match unit with
    | .tdc _ => mine.foldl (fun s w => s.calGrant w) s
    | _ =>
      let others := if s.foreRuns key then 2 :: others else others
      let cand := firstWaiting mine
      let work := others.foldl min 9
      let best := min work ((cand.map (fun w => w.row)).getD 9)
      let s := if decide (best < 6) && decide (look key s.holders = some 6) then { s with yields := insertN key s.yields } else s
      if s.holderLeaves key best others folio then
        match cand with
        | some w => if w.row < work then { s.calGrant w with holders := place key w.row s.holders }
          else { s with holders := place key work s.holders }
        | none => { s with holders := if work < 9 then place key work s.holders else remove key s.holders }
      else s)

/-- A calibration gives its shared unit up. -/
def State.calLeave (s : State) (u : Nat) : State :=
  match look (calKey u) s.holders with
  | some r => if (r = 3 ∨ r = 6) ∧ isTdc u = false then { s with holders := remove (calKey u) s.holders } else s
  | none => s

/-- A run stops where it stands and waits again at its row, behind those of its row that wait already: that it does not keep the place of its
first request is the model's choice (notes/assumptions/54.md). -/
def State.calPause (s : State) (u : Nat) : State :=
  let b := calBase u
  if s.flag (CAL_STAT_BUSY b) then
    let s := s.put (CAL_STAT_BUSY b) 0
    ({ s with waiting := s.waiting ++ [⟨u, if s.flag (CAL_STAT_OVERDUE b) then 3 else 6⟩] } : State).calLeave u
  else s

/-! ### Selections (R59-R63) -/

/-- A selection in force, where the unit shows it: the TDC's cells with their table, the ADC's comparators, the DAC's segments. -/
def applySelection (u sel : Nat) (cells : List Nat) (s : State) : State :=
  let s := s.modCal u (fun c => { c with selection := sel })
  if u < 6 then s
  else if u < 10 then (s.set64 (SEL_MAP_LO (u - 6)) (SEL_MAP_HI (u - 6)) sel).modDemod (u - 6) (fun d => { d with cells := cells })
  else if u < 14 then
    (List.range 15).foldl (fun s k => s.setNum (ADC_SEL (u - 10) (k / 5) (k % 5)) (sel / 2 ^ (135 * (k / 5)) % 2 ^ 135 / 2 ^ (32 * (k % 5)) % 0x100000000)) s
  else s.set64 (SEG_MAP_LO (u - 14)) (SEG_MAP_HI (u - 14)) sel

/-- The selection last saved in the NV store takes effect (R61, R62). -/
def State.savedSelection (s : State) (u : Nat) : State :=
  applySelection u (s.nvsNat (calNvs u) 0x50)
    (if isTdc u then
      (let t := (List.range 48).map (fun i => s.nvsNat (calTable u + 4 * i) 4)
       if t.all (fun x => decide (x = 0)) then [] else t)
    else []) s

/-- An adopted selection is saved to the NV store before it takes effect (R61); the TDC, the ADC and the DAC take it at a tick (R120, R205,
R241), unless it is adopted before ticks begin. -/
def calAdopt (u : Nat) (m : List Int) (atOnce : Bool) (s : State) : State :=
  let sel := selBits (calSelect u m)
  let cells := if isTdc u then cellTable m else []
  let s := s.nvsWrite (calNvs u) (toLe 0x50 sel)
  let s := if isTdc u then s.nvsWrite (calTable u) (cells.flatMap (toLe 4)) else s
  if atOnce || decide (u < 6) then applySelection u sel cells s else s.modCal u (fun c => { c with next := some (sel, cells) })

/-- A calibration completes (R63): CAL_COUNT and CAL_TIME advance and are kept in the NV store. -/
def calDone (u : Nat) (runs : Nat) (adopted : Bool) (s : State) : State :=
  let b := calBase u
  let s := s.put (CAL_COUNT_COUNT b) (s.get (CAL_COUNT_COUNT b) + 1)
  let s := s.set64 (CAL_TIME_LO b) (CAL_TIME_HI b) s.optime
  let s := s.nvsWrite (calNvs u + 0x50) (toLe 4 (s.get (CAL_COUNT_COUNT b)) ++ toLe 5 s.optime)
  let s := (s.put (CAL_STAT_RUNS b) runs).put (CAL_STAT_ADOPTED b) (ofBool adopted)
  let s := (s.put (CAL_STAT_DUE b) 0).put (CAL_STAT_OVERDUE b) 0
  let s := { s with waiting := s.waiting.filter (fun w => decide (w.unit ≠ u)) }
  let s := if isTdc u then s.modDemod (u - 6) (fun d => { d with calTemp := s.dieTemp (calDie u) }) else s
  s.modCal u (fun c => { c with runs := [], live := false, lastTemp := s.dieTemp (calDie u) })

/-- DISAGREE (R60): the fault bit with its Warn record, and the unit's event each time. -/
def calDisagree (u : Nat) (s : State) : State :=
  let b := calBase u
  if s.flag (CAL_STAT_DISAGREE b) then
    match calEvent u with
    | some e => s.raise e
    | none => s
  else s.faultBit ⟨CAL_STAT b, none, calEvent u⟩ 3 sevWarn clsCorrected noInst 0

/-- A calibration ends with a verdict (R59, R60, R63). -/
def calEnd (u : Nat) (v : Nat × Option (List Int)) (atOnce : Bool) (s : State) : State :=
  match v.2 with
  | some m => calDone u v.1 true (calAdopt u m atOnce s)
  | none => calDisagree u (calDone u v.1 false s)

/-- Whether a run can use its unit now: a TDC while the servo gate is closed (R120), an ADC while the servo and read gates are (R205), a DAC
while its output is 0 and no write descriptor is pending (R241). -/
def State.calCanRun (s : State) (u : Nat) : Bool :=
  if u < 6 then true
  else if u < 10 then !(s.demodOf (u - 6)).gate
  else if u < 14 then !(s.demodOf (u - 10)).gate && !(s.detOf (u - 10)).gate
  else
    let n := u - 14
    decide (s.num (AS_DAC n) = 0) && (s.wruOf n).bufs.isEmpty && (s.wruOf n).op.isNone && decide (s.num (WQ_HEAD n) = s.num (WQ_TAIL n))

/-- A calibration run ends (R59): the verdict is reached, or the next run waits. -/
def calRun (u : Nat) (m : List Int) (s : State) : State :=
  let b := calBase u
  let s := s.calPause u
  let runs := (s.calOf u).runs ++ [m]
  match calVerdict u (s.get (CAL_TOL_TOL b)) runs with
  | some v => calEnd u v false s
  | none => s.modCal u (fun c => { c with runs := runs })

/-- CAL_RUN_COMPLETE (R59-R63): `measured` is what the run measured of each element. A run that is not in progress, or pauses, does not
end. -/
def execCalRunComplete (u : CalUnit) (measured : List Int) (s : State) : Host.Outcome State Fault Refusal :=
  .next (if s.flag (CAL_STAT_BUSY (calBase u)) && s.calCanRun u then calRun u measured s else s)

/-- At a tick of a die (R55, R120, R205, R241): adopted selections are switched in, a slice of a revolution ends, and a calibration before its
deadline gives way to work of a higher row; a slice that was granted starts. -/
def State.calTick (s : State) (die : Nat) : State :=
  let us := (List.range 18).filter (fun u => decide (calDie u = die))
  let s := us.foldl (fun s u =>
    match (s.calOf u).next with
    | some (sel, cells) => applySelection u sel cells (s.modCal u (fun c => { c with next := none }))
    | none => s) s
  us.foldl (fun s u =>
    if isTdc u then s
    else if (s.calOf u).granted then { s.calBegin u with slices := place u s.revs s.slices }
    else match look (calKey u) s.holders with
      | some 3 => if (match look u s.slices with | some r => decide (r < s.revs) | none => false) then s.calPause u else s
      | some 6 => if s.yields.contains (calKey u) then { s.calPause u with yields := s.yields.erase (calKey u) } else s
      | _ => s) s

/-! ### Boot and domains (R61, R62) -/

/-- A calibrating unit loses power (R62): a calibration under way is cut short, and is started afresh when the unit next runs. -/
def State.calDown (s : State) (u : Nat) : State :=
  ({ s with
    cal := modAt s.cal u (fun c => { c with runs := [], next := none, granted := false }),
    waiting := s.waiting.filter (fun w => decide (w.unit ≠ u)), slices := remove u s.slices } : State).calLeave u

/-- A calibrating unit powers up (R61, R62, R508): the saved selection is in force, and a calibration that was cut short is due again. -/
def State.calUp (s : State) (u : Nat) : State :=
  let s := s.savedSelection u
  if (s.calOf u).live then (makeDue u s).modCal u (fun c => { c with live := false }) else s

/-- Measurements of a run during boot, which the manual leaves open. -/
def State.drawRun (s : State) (u : Nat) : List Int × State :=
  ((List.range (calCount u)).map (fun i => sx 32 (Config.freeNat 14 (s.free + i))), { s with free := s.free + calCount u })

/-- A unit that boot brings up takes its saved selection and calibrates once, before it is used (R61). -/
def State.calOnce (s : State) (u : Nat) : State :=
  let s := (s.savedSelection u).modCal u (fun c => { c with runs := [], live := false, next := none, granted := false, lastStart := some s.optime })
  let (a, s) := s.drawRun u
  let (b, s) := s.drawRun u
  let (c, s) := s.drawRun u
  let tol := s.get (CAL_TOL_TOL (calBase u))
  calEnd u ((calVerdict u tol [a, b]).getD ((calVerdict u tol [a, b, c]).getD (3, none))) true s

/-- The boot calibrations of a die, in the order of its unit numbers (R56, R61). -/
def State.calBoot (s : State) (us : List Nat) : State := us.foldl (fun s u => s.calOnce u) s

end Sys2Proof.Machine
end

