-- ==== Sys2Proof/Machine/Channel.lean ====
section
/-!
DEFINITION. The read channel's signal path and code (file 07) as functions of plain data: the codeword and its scrambling (R199, R202), layered
min-sum decoding (R212), gain (R204), timing recovery (R207, R208), equalisation and detection (R209-R211), sync marks (R216). Where the
manual names a stage and not its arithmetic, the stage is an opaque function of Config (notes/assumptions/27.md).
-/

namespace Sys2Proof.Machine

/-! ### The codeword (R199, R202) -/

/-- Bits of a codeword, of its information part, and the checks of the code. -/
def codeLen : Nat := 37632
def infoLen : Nat := 33344
def checkLen : Nat := 4224

/-- Bytes in order, each most significant bit first (R199). -/
def bitsOfBytes (bs : List Byte) : List Bool := bs.flatMap (fun b => bitsMsb 8 b.toNat)

/-- The number that bits spell, most significant first. -/
def natOfBits (bs : List Bool) : Nat := bs.foldl (fun a b => 2 * a + ofBool b) 0

/-- `k` bytes of bits, each most significant bit first. -/
def bytesOfBits (k : Nat) (bs : List Bool) : List Byte :=
  (List.range k).map (fun i => BitVec.ofNat 8 (natOfBits ((bs.drop (8 * i)).take 8)))

/-- Exactly `n` bits: cut, or filled with zeros. -/
def fitBits (n : Nat) (bs : List Bool) : List Bool := (List.range n).map (fun i => bs.getD i false)

/-- The codeword bits in parity check `row` (R199): 11 layers of 384 checks over 98 columns of circulants of 384 bits. -/
def checkBits (row : Nat) : List Nat :=
  (List.range 98).filterMap (fun c => (Config.ldpcShift (row / 384) c).map (fun k => 384 * c + (row % 384 + k) % 384))

/-- A parity check of a codeword whose first 33,408 bits are `ip`: the parity bits it holds, and the sum of its bits of `ip`. -/
def parityRow (ip : List Bool) (row : Nat) : BitVec checkLen × Bool :=
  let vs := checkBits row
  (vs.foldl (fun m v => if ip.length ≤ v then m ^^^ BitVec.twoPow checkLen (v - ip.length) else m) 0,
    vs.foldl (fun p v => xor p (ip.getD v false)) false)

/-- Checks under elimination: each solved for the parity bit it gives, those left, and the parity bits that no check is left to give. -/
structure ParitySolve where
  solved : List (Nat × BitVec checkLen × Bool)
  rest : List (BitVec checkLen × Bool)
  fixed : List (Nat × Bool)

/-- Parity bit `col` is eliminated from every check but the one that gives it. -/
def ParitySolve.col (ip : List Bool) (p : ParitySolve) (col : Nat) : ParitySolve :=
  match p.rest.find? (fun r => r.1.getLsbD col) with
  | some q =>
    let clear (r : BitVec checkLen × Bool) := if r.1.getLsbD col then (r.1 ^^^ q.1, xor r.2 q.2) else r
    ⟨p.solved.map (fun e => (e.1, clear e.2)) ++ [(col, q)], (p.rest.erase q).map clear, p.fixed⟩
  | none =>
    let v := Config.ldpcOpen ip col
    let clear (r : BitVec checkLen × Bool) := if r.1.getLsbD col then (r.1 ^^^ BitVec.twoPow checkLen col, xor r.2 v) else r
    ⟨p.solved.map (fun e => (e.1, clear e.2)), p.rest.map clear, p.fixed ++ [(col, v)]⟩

/-- The parity bits with which the codeword meets every check of R199. -/
def parityOf (ip : List Bool) : List Bool :=
  let p := (List.range checkLen).foldl (ParitySolve.col ip) ⟨[], (List.range checkLen).map (parityRow ip), []⟩
  (List.range checkLen).map (fun col =>
    match p.solved.find? (fun e => decide (e.1 = col)), p.fixed.find? (fun e => decide (e.1 = col)) with
    | some e, _ => e.2.2
    | none, some e => e.2
    | none, none => false)

/-- A codeword: the information part of 4,168 bytes, the PAW of 8 bytes, and the 4,224 parity bits that meet the checks (R199). -/
def codewordOf (info : List Byte) (paw : Nat) : List Bool :=
  let ip := bitsOfBytes (slice info 0 4168) ++ bitsOfBytes (toLe 8 paw)
  ip ++ parityOf ip

/-- One shift of the generator x^31 + x^28 + 1 (R202). -/
def prbsNext (r : Nat) : Nat := 2 * r % 2 ^ 31 + ofBool (xor (bitOf r 30) (bitOf r 27))

/-- `n` bits of the generator's output, taken before each shift (R202). -/
def prbs : Nat → Nat → List Bool
  | 0, _ => []
  | n + 1, r => bitOf r 30 :: prbs n (prbsNext r)

/-- The register at codeword bit 0: PAW[30:0] with bit 0 forced to 1 (R202). -/
def prbsStart (paw : Nat) : Nat := setBitN (paw % 2 ^ 31) 0

/-- Scrambling before writing (R202). -/
def scramble (paw : Nat) (bits : List Bool) : List Bool := List.zipWith xor bits (prbs bits.length (prbsStart paw))

/-- Removing it from LLRs flips their signs (R202). -/
def descramble (paw : Nat) (llrs : List Int) : List Int :=
  List.zipWith (fun l b => if b then -l else l) llrs (prbs llrs.length (prbsStart paw))

/-- The decision an LLR stands for (R210): positive is 1. -/
def hardOf (llrs : List Int) : List Bool := llrs.map (fun l => decide (0 < l))

/-! ### Decoding (R212) -/

/-- The syndrome weight of a codeword's decisions. -/
def syndromeWeight (bits : List Bool) : Nat :=
  ((List.range checkLen).filter (fun row => (checkBits row).foldl (fun p v => xor p (bits.getD v false)) false)).length

/-- The messages of a check to its bits by normalised min-sum with SCALE and OFFSET (R212, MS_CFG): the sign is the product of the other
messages' signs, the magnitude that of the least of them. -/
def checkMessages (scale offset : Nat) (qs : List Int) : List Int :=
  (List.range qs.length).map (fun i =>
    let rest := qs.eraseIdx i
    let mag := match rest.map Int.natAbs with
      | [] => 0
      | a :: t => t.foldl min a
    let neg := rest.foldl (fun b q => xor b (decide (q < 0))) false
    let m : Int := Config.minSum scale offset mag
    if neg then -m else m)

/-- One check of a layer: the a posteriori LLRs and the check's stored messages follow. -/
def checkPass (scale offset : Nat) (st : List Int × List (List Int)) (row : Nat) : List Int × List (List Int) :=
  let vs := checkBits row
  let old := st.2.getD row []
  let qs := (List.range vs.length).map (fun i => st.1.getD (vs.getD i 0) 0 - old.getD i 0)
  let ms := checkMessages scale offset qs
  ((List.range vs.length).foldl (fun p i => setAt p (vs.getD i 0) (Config.ldpcSum (qs.getD i 0 + ms.getD i 0))) st.1, setAt st.2 row ms)

/-- One iteration covers the 11 layers (R212). -/
def ldpcIteration (scale offset : Nat) (st : List Int × List (List Int)) : List Int × List (List Int) :=
  (List.range checkLen).foldl (checkPass scale offset) st

/-- How a decode attempt ended (R212): its iterations, the last syndrome weight and that after the first iteration, whether framing is
suspected, the channel and the a posteriori LLRs. Weight 0 is a decoded codeword. -/
structure Attempt where
  iter : Nat
  syn : Nat
  syn1 : Nat
  slip : Bool
  llr : List Int
  post : List Int
  deriving DecidableEq, Repr

/-- What bounds an attempt: MS_CFG, ES_WIN and ES_THR, the iteration limit, and the SLIP_THR that its first iteration is held to. -/
structure DecodeLimits where
  scale : Nat
  offset : Nat
  esWin : Nat
  esThr : Nat
  limit : Nat
  slipThr : Option Nat
  deriving DecidableEq, Repr

/-- Framing is suspected: the weight after the first iteration is above SLIP_THR (R212). -/
def DecodeLimits.slips (d : DecodeLimits) (i w : Nat) : Bool :=
  decide (i = 1) && (match d.slipThr with | some t => decide (t < w) | none => false)

/-- No progress (R212): ES_WIN is not 0, the weight is above ES_THR and not below its value ES_WIN iterations earlier. `ws`: the weights of
the earlier iterations, the last first. -/
def DecodeLimits.stuck (d : DecodeLimits) (ws : List Nat) (w : Nat) : Bool :=
  decide (d.esWin ≠ 0) && decide (d.esThr < w) && (match ws[d.esWin - 1]? with | some w0 => decide (w0 ≤ w) | none => false)

/-- The iterations of an attempt, at most `fuel` more (R212). -/
def attemptGo (d : DecodeLimits) (llr : List Int) : Nat → List Nat → List Int × List (List Int) → Attempt
  | 0, ws, st => ⟨ws.length, ws.headD 0, ws.getLastD 0, false, llr, st.1⟩
  | fuel + 1, ws, st =>
    let st := ldpcIteration d.scale d.offset st
    let w := syndromeWeight (hardOf st.1)
    let i := ws.length + 1
    let out (slip : Bool) : Attempt := ⟨i, w, (w :: ws).getLastD w, slip, llr, st.1⟩
    if w = 0 then out false
    else if d.slips i w then out true
    else if fuel = 0 ∨ d.stuck ws w then out false
    else attemptGo d llr fuel (w :: ws) st

/-- An attempt on the descrambled channel LLRs of a codeword (R212). -/
def decodeAttempt (d : DecodeLimits) (llr : List Int) : Attempt :=
  attemptGo d llr d.limit [] (llr, List.replicate checkLen [])

/-- The information part and the PAW of a decoded codeword (R199). -/
def Attempt.info (a : Attempt) : List Byte := bytesOfBits 4168 (hardOf a.post)
def Attempt.paw (a : Attempt) : Nat := leNat (bytesOfBits 8 ((hardOf a.post).drop infoLen))

/-- BITS_CORR (R212): bits where the detector's decisions differ from the decoded codeword. -/
def Attempt.corr (a : Attempt) : Nat :=
  ((List.zipWith xor (hardOf a.llr) (hardOf a.post)).filter id).length

/-! ### Gain (R204) -/

/-- The gain, in steps of 0.125 dB from 0 to 30 dB, that brings a preamble of amplitude `a` at 0 dB nearest the target `t` raised by `db`; `a` is in
2^-16 and `t` in 2^-8 of the converter's full scale (R203, R204). -/
def agcStep (a t : Nat) (db : Int) : Nat :=
  let up := 10 ^ (16 * db).toNat
  let down := 10 ^ (16 * (-db)).toNat
  (List.range 240).foldl (fun g k => if a ^ 320 * 10 ^ (2 * k + 1) * down ≤ (256 * t) ^ 320 * up then k + 1 else g) 0

/-- A reader's amplitude after acquisition lies below half of the target (R204). -/
def ampIsLow (a t g : Nat) (db : Int) : Bool :=
  decide (a ^ 160 * 10 ^ g * 2 ^ 160 * 10 ^ (8 * (-db)).toNat < (256 * t) ^ 160 * 10 ^ (8 * db).toNat)

/-! ### The detector (R209, R210) -/

/-- A survivor path of the detector (R210): its decisions, the newest first, the least difference of metrics at which a path with the other decision
lost to it, none while there was none, the last three errors of the path in 2^-8, and its metric. -/
structure Surv where
  bits : List Bool
  rel : List (Option Nat)
  errs : List Int
  metric : Nat
  deriving DecidableEq, Repr

/-- The sixteen states at the start: no bit has been decided. -/
def survStart : List Surv := List.replicate 16 ⟨[], [], [0, 0, 0], 0⟩

/-- The level of a bit. -/
def bipolar (b : Bool) : Int := if b then 1 else -1

/-- A path that goes on from state `s` with bit `b` on the equalised sample `y` (R209, R210): the error against the target of the bit and the four
before it, less what the three taps of the context predict from the errors before, adds its square to the metric. The state numbers the four preceding
bits, the latest in bit 0, and the context has the same number: the model's choice (notes/assumptions/27.md). -/
def Surv.extend (target pred : List Int) (s : Nat) (v : Surv) (y : Int) (b : Bool) : Surv :=
  let level (j : Nat) : Int := if j = 0 then bipolar b else bipolar (bitOf s (j - 1))
  let e := 8 * y - (List.range 5).foldl (fun t j => t + target.getD j 0 * level j) 0
  let w := 512 * e - (List.range 3).foldl (fun t m => t + pred.getD (3 * s + m) 0 * v.errs.getD m 0) 0
  ⟨b :: v.bits, none :: v.rel, e :: v.errs.take 2, v.metric + (w * w).toNat⟩

/-- Of two paths into a state the one of lower metric survives; where their decisions differ, it lost nothing by less than the difference. -/
def Surv.merge (p q : Surv) : Surv :=
  let d := q.metric - p.metric
  { p with rel := List.zipWith (fun r b => if b then some (min (r.getD d) d) else r) p.rel (List.zipWith xor p.bits q.bits) }

/-- One step of the 16-state trellis. -/
def viterbiStep (target pred : List Int) (vs : List Surv) (y : Int) : List Surv :=
  (List.range 16).map (fun t =>
    let into (s : Nat) : Surv := (vs.getD s ⟨[], [], [], 0⟩).extend target pred s y (decide (t % 2 = 1))
    if (into (t / 2)).metric ≤ (into (t / 2 + 8)).metric then (into (t / 2)).merge (into (t / 2 + 8)) else (into (t / 2 + 8)).merge (into (t / 2)))

/-- The path of least metric. -/
def bestPath (vs : List Surv) : Surv :=
  vs.tail.foldl (fun b v => if v.metric < b.metric then v else b) (vs.headD ⟨[], [], [], 0⟩)

/-- The LLRs of the best path in the order of the bits, saturated to ±31, positive for 1 (R210). -/
def pathLlrs (vs : List Surv) : List Int :=
  let p := bestPath vs
  (List.zipWith (fun b r =>
    let m : Int := match r with | some d => min 31 (Config.reliability d) | none => 31
    if b then m else -m) p.bits p.rel).reverse

/-- The detector's LLRs, one for each sample (R210). -/
def detect (target pred : List Int) (ys : List Int) : List Int := pathLlrs (ys.foldl (viterbiStep target pred) survStart)

/-! ### Timing recovery, equalisation and adaptation (R206-R211) -/

/-- The settings of the path that a sector is read with: the readers in detection, equaliser taps, target (S2.8) and predictors
(S1.9), the loop's gains in acquisition and tracking (KP, KF), TL_THR, the delays (1/64 bit), the frequency integrator in 2^-32, and MU where the taps
adapt. -/
structure PathSet where
  readers : Nat
  taps : List (List Rat)
  target : List Int
  pred : List Int
  acq : Nat × Nat
  trk : Nat × Nat
  tlThr : Nat
  delay : List Int
  freq : Int
  mu : Option Nat
  deriving DecidableEq

/-- The path in the course of a fragment: the instant of the next sample in 2^-32 bit from the read-gate edge, the frequency, the
samples of the readers and the equalised samples so far (newest first), the detector's survivors, the taps, the filtered phase error, the run above
TL_THR, whether a timing loss was found. -/
structure Tim where
  pos : Int
  freq : Int
  xs : List (List Int)
  ys : List Int
  surv : List Surv
  taps : List (List Rat)
  filt : Rat
  run : Nat
  lost : Bool
  deriving DecidableEq

/-- The equaliser's output seven bits back, where the taps reach the newest sample (R209): over the readers in detection and the 15 taps of each, as an
S3.5 sample, which the detector takes. `k`: the newest bit. -/
def eqStep (p : PathSet) (t : Tim) (k : Nat) : Tim :=
  if k < 7 then t
  else
    let y := ((List.range 3).filter (fun r => bitOf p.readers r)).foldl (fun a r =>
      (List.range 15).foldl (fun a i => a + (t.taps.getD r []).getD i 0 * (((t.xs.getD r []).getD i 0 : Int) : Rat)) a) 0
    let y := clampS 8 (rnd (y / 512))
    { t with ys := y :: t.ys, surv := viterbiStep p.target p.pred t.surv y }

/-- The taps adapt by least mean squares toward the target (R211): for a decision 8 bits late, the error there times the sample under each tap, with
the step 2^-MU, in tracking only; c_{1,0} is fixed. -/
def lmsStep (p : PathSet) (acqEnd : Nat) (t : Tim) (k : Nat) : Tim :=
  match p.mu with
  | none => t
  | some mu =>
    if k < acqEnd + 15 then t
    else
      let bits := (bestPath t.surv).bits
      let e := 8 * t.ys.getD 8 0 - (List.range 5).foldl (fun a j => a + p.target.getD j 0 * bipolar (bits.getD (8 + j) false)) 0
      let tap (r i : Nat) : Rat :=
        let c := (t.taps.getD r []).getD i 0
        if bitOf p.readers r = false ∨ (r = 1 ∧ i = 7) then c
        else clampQ (-1) (mkRat 511 512) (c - mkRat (e * (t.xs.getD r []).getD (8 + i) 0) (2 ^ (mu + 22)))
      { t with taps := (List.range 3).map (fun r => (List.range 15).map (tap r)) }

/-- One bit of a fragment (R206-R208): bits 0-15 give the zero-phase start, with the frequency held; until `acqEnd` the loop acquires, after it it
tracks by the decisions of the detector's survivor path 8 bits late. The frequency stays within ±2,000 ppm; a filtered error above TL_THR for 32 bits
is a timing loss. -/
def trackBit (p : PathSet) (adc : List (List Int)) (acqEnd : Nat) (t : Tim) (k : Nat) : Tim :=
  let xs := (List.range 3).map (fun r =>
    Config.interpolate (adc.getD r []) (t.pos - p.delay.getD r 0 * 2 ^ 26) :: t.xs.getD r [])
  let t := lmsStep p acqEnd (eqStep p { t with xs := xs } k) k
  if k < 16 then { t with pos := t.pos + 2 ^ 32 + t.freq + (if k = 15 then Config.zeroPhase xs else 0) }
  else
    let e := if k < acqEnd then Config.phaseAcquire xs else Config.phaseDecided t.ys ((bestPath t.surv).bits.drop 8)
    let g := if k < acqEnd then p.acq else p.trk
    let f := clampI (-8589934) 8589934 (t.freq + g.2 * e)
    let filt := t.filt + (mkRat e.natAbs 1 - t.filt) / 64
    let run := if mkRat (256 * p.tlThr : Nat) 1 < filt then t.run + 1 else 0
    { t with pos := t.pos + 2 ^ 32 + f + g.1 * e, freq := f, filt := filt, run := run, lost := t.lost || decide (32 ≤ run) }

/-- `n` bits of a fragment that starts at `start`, and the equaliser's last outputs, past whose end no sample lies. -/
def trackBits (p : PathSet) (adc : List (List Int)) (acqEnd n : Nat) (start : Int) : Tim :=
  let t := (List.range n).foldl (trackBit p adc acqEnd) ⟨start, p.freq, [[], [], []], [], survStart, p.taps, 0, 0, false⟩
  (List.range 7).foldl (fun t i => eqStep p { t with xs := t.xs.map (0 :: ·) } (n + i)) t

/-- Conversions of the ADCs at 14/13 of the bit rate last this many bits (R194). -/
def fragBits (adc : List (List Int)) : Nat := (adc.map List.length).foldl max 0 * 13 / 14

/-- The equaliser's error at bit `k` against the target of the decisions, in 2^-8 (R209). -/
def eqError (target : List Int) (bits : List Bool) (ys : List Int) (k : Nat) : Int :=
  8 * ys.getD k 0 - (List.range 5).foldl (fun t j => t + target.getD j 0 * bipolar (decide (j ≤ k) && bits.getD (k - j) false)) 0

/-- The mean-squared error of tracking, U0.16 (MSE). -/
def meanSquare (errs : List Int) (acqEnd : Nat) : Nat :=
  let es := errs.drop acqEnd
  (roundDiv (es.foldl (fun a e => a + e * e) 0) es.length).toNat

/-! ### Sync marks and framing (R216, R217) -/

/-- Bits of a pattern of `len` bits that match at bit `at_` of a fragment. -/
def markMatches (bits : List Bool) (pat len at_ : Nat) : Nat :=
  ((List.zipWith (fun a b => a == b) (bitsMsb len pat) (bits.drop at_)).filter id).length

/-- Each position of a window about the nominal one, in order, with the bits that match there. -/
def markTried (bits : List Bool) (pat len nom win : Nat) : List (Int × Nat) :=
  (List.range (2 * win + 1)).map (fun (i : Nat) => ((i : Int) - win, markMatches bits pat len (nom + i - win)))

/-- The first position within ±win with at least thr matching bits (SM1, FM). -/
def firstMark (win thr : Nat) (tried : List (Int × Nat)) : Option Int :=
  (tried.find? (fun p => decide (p.1.natAbs ≤ win) && decide (thr ≤ p.2))).map (·.1)

/-- The position with the most matching bits, at least thr, within ±win; ties go to the nearest (SM2). Of two equally near it is the earlier, the
model's choice (notes/assumptions/27.md). -/
def bestMark (win thr : Nat) (tried : List (Int × Nat)) : Option Int :=
  (tried.foldl (fun best p =>
    if p.1.natAbs ≤ win ∧ thr ≤ p.2 then
      match best with
      | none => some p
      | some b => if b.2 < p.2 ∨ (b.2 = p.2 ∧ p.1.natAbs < b.1.natAbs) then some p else some b
    else best) none).map (·.1)

/-- Where the marks frame the codeword, relative to its nominal place (R217): by SM2 where it is found, else by SM1. -/
def framing (sm1 sm2 : Option Int) : Option Int := sm2.or sm1

end Sys2Proof.Machine
end

