-- ==== Sys2Proof/Machine/Motor.lean ====
section
/-!
DEFINITION. The arithmetic and the state changes of the spindle engine: the states of R176 and what entering them does, the sine table, sampling windows and duties (R164-R168), the checks of R169 and braking (R179).
-/

namespace Sys2Proof.Machine

/-! ### States (R176) -/

def spStopped : Nat := 0
def spSense : Nat := 1
def spBrake : Nat := 2
def spAlign : Nat := 3
def spRamp : Nat := 4
def spAccel : Nat := 5
def spLocked : Nat := 6
def spHoldAngle : Nat := 7
def spCoast : Nat := 8
def spGenerate : Nat := 9
def spFailed : Nat := 10

/-- SPIN_STAT.STATE. -/
def State.spinState (s : State) : Nat := s.get SPIN_STAT_STATE

/-- Change SPIN_LOCK; each change raises event 466 (R173). -/
def State.spinLock (s : State) (b : Bool) : State :=
  if s.flag SPIN_STAT_SPIN_LOCK = b then s else (s.put SPIN_STAT_SPIN_LOCK (ofBool b)).raise 466

/-- The six outputs are off at once (R164). -/
def State.spinOff (s : State) : State := s.modSpin (fun p => { p with out := none, nextOut := none, drv := { p.drv with gates := [] } })

/-- SPIN enters a state (R173, R176): SPIN_RUN is 1 in ACCEL, LOCKED and HOLD_ANGLE, SPIN_LOCK falls when LOCKED is left, the
six outputs are off at once in the states whose outputs are off (R164), and entry to COAST raises event 467. -/
def State.setSpin (s : State) (st : Nat) : State :=
  let was := s.spinState
  let s := s.put SPIN_STAT_STATE st
  let s := s.put SPIN_STAT_SPIN_RUN (ofBool (decide (st = spAccel) || decide (st = spLocked) || decide (st = spHoldAngle)))
  let s := if st = spLocked then s else s.spinLock false
  let s := s.modSpin (fun p => { p with lockRun := 0, losRun := 0, okRun := 0, accelRevs := 0, relock := 0 })
  let off := st = spStopped ∨ st = spSense ∨ st = spCoast ∨ st = spFailed
  let s := if off then s.spinOff else s
  if st = spCoast ∧ was ≠ spCoast then s.raise 467 else s

/-- SPIN enters SENSE: the watch of R177 starts, and the mechanical angle is unknown until a
return frame gives it (file 06, Locking to the wedges). -/
def State.enterSense (s : State) (again : Bool) : State :=
  ((s.setSpin spSense).put SPIN_STAT_ANGLE_KNOWN 0).modSpin (fun p =>
    { p with crossN := 0, crossSum := 0, crossFwd := true, crossRev := true, senseAgain := again })

/-- Modify what the motor context drives. -/
def State.modDrv (s : State) (f : Drive → Drive) : State := s.modSpin (fun p => { p with drv := f p.drv })

/-- Modify the wedge reference. -/
def State.modRef (s : State) (f : WedgeRef → WedgeRef) : State := s.modSpin (fun p => { p with ref := f p.ref })

/-- SPIN enters BRAKE in a phase (R176, R179); a speed hold keeps the speed of this moment. -/
def State.enterBrake (s : State) (pend : Bool) (b : Brake) : State :=
  ((s.setSpin spBrake).modSpin (fun p => { p with pendStart := pend, brake := b })).modDrv (fun d =>
    { d with target := s.spin.omega.natAbs, preset := some s.spin.torque, zeroN := 0 })

/-- SPIN enters ALIGN (R180). -/
def State.enterAlign (s : State) : State :=
  ((s.setSpin spAlign).modSpin (fun p => { p with pendStart := false, ramp := 0 })).modDrv (fun d => { d with integD := 0, integQ := 0 })

/-- FAILED (R176): START_FAIL, event 467, a Fault record, and every actuator Degraded. -/
def State.enterFailed (s : State) : State :=
  let s := (s.setSpin spFailed).modSpin (fun p => { p with starting := false, pendStart := false })
  ((s.faultBit spinFault 5 sevFault clsDegraded noInst 0).raise 467).degradeAll SPIN_FAULT 5

/-! ### Speed and angle -/

/-- The speed magnitude in 2^-16 rpm. -/
def State.speed (s : State) : Nat := s.spin.omega.natAbs

/-- The speed lies above OBS_MIN (R169, R179). -/
def State.aboveObs (s : State) : Bool := decide (s.get SPIN_RAMP_OBS_MIN * 65536 < s.speed)

/-- A speed in mechanical rad/s. -/
def radPerS (omega : Nat) : Rat := mkRat omega 65536 * 2 * piQ / 60

/-- The angle an electrical vector turns in `q` quarter periods of the PWM at a speed, U0.32: speed × pole pairs. -/
def turned (omega : Int) (polePairs q : Nat) : Int := omega * polePairs * q * 64 / 9375

/-- The sine of an electrical angle from the SINE table, interpolated linearly (R166). -/
def State.sineAt (s : State) (theta : Nat) : Rat :=
  let i := bitsOf theta 31 22
  let a := sx 16 (s.num (SINE i))
  let b := sx 16 (s.num (SINE ((i + 1) % 1024)))
  unfix 15 a + mkRat ((b - a) * (bitsOf theta 21 6 : Nat)) (2 ^ 31)

/-- Half a PWM period in the 156.25 ps of its edges (R165). -/
def halfPeriod : Nat := 80000

/-- The three high-side times of a voltage vector (v_d, v_q in mV) at an angle, with min–max injection and division by VMOT
(R166); nothing where no motor supply is measured. -/
def State.duties (s : State) (vd vq : Int) (theta vmot : Nat) : Nat × Nat × Nat :=
  let third : Nat := 0x55555555
  let ph (a : Nat) : Rat :=
    mkRat vd 1 * s.sineAt ((a + 0x40000000) % 0x100000000) - mkRat vq 1 * s.sineAt (a % 0x100000000)
  let u := ph theta
  let v := ph (theta + 2 * third)
  let w := ph (theta + third)
  let hi := max u (max v w)
  let lo := min u (min v w)
  let d (x : Rat) : Nat := (rnd (clampQ 0 1 (1 / 2 + (x - (hi + lo) / 2) / (vmot : Rat)) * (halfPeriod : Rat))).toNat
  (d u, d v, d w)

/-- The dead time in force: DEAD, and never less than 50 ns (R164), in 156.25 ps. -/
def State.deadTime (s : State) : Nat := max 320 (s.num SPIN_PWM % 0x10000)

/-- For how long the two switches of a phase are on in a period whose half holds the high switch on for `d` (R164, R165): each turn-on comes
the dead time after the other switch's turn-off, so both together are never on. -/
def phaseGates (dead d : Nat) : Nat × Nat :=
  if d = 0 then (0, 2 * halfPeriod)
  else if halfPeriod ≤ d then (2 * halfPeriod, 0)
  else (2 * d - dead, 2 * (halfPeriod - d) - dead)

/-- The six gate times of a period's duties, no switch on where the outputs are off. -/
def State.gatesOf (s : State) (o : Option (Nat × Nat × Nat)) : List (Nat × Nat) :=
  match o with
  | none => []
  | some (a, b, c) => [a, b, c].map (phaseGates s.deadTime)

/-- The three sampled currents (mA) in the rotor frame at an angle, amplitude kept (R166 step 1). -/
def State.rotorFrame (s : State) (i : Rat × Rat × Rat) (theta : Nat) : Rat × Rat :=
  let third : Nat := 0x55555555
  let c (a : Nat) : Rat := s.sineAt ((a + 0x40000000) % 0x100000000)
  let n (a : Nat) : Rat := s.sineAt (a % 0x100000000)
  let (u, v, w) := i
  ((u * c theta + v * c (theta + 2 * third) + w * c (theta + third)) * 2 / 3,
    -((u * n theta + v * n (theta + 2 * third) + w * n (theta + third)) * 2 / 3))

/-- The largest of three times. -/
def max3 (d : Nat × Nat × Nat) : Nat := max d.1 (max d.2.1 d.2.2)

/-- A sample taken with these duties is clean: no edge within WINDOW_MIN of the valley (R168). -/
def State.cleanWindow (s : State) (d : Nat × Nat × Nat) : Bool :=
  decide (s.get SPIN_SAMPLE_WINDOW_MIN * 64 ≤ (halfPeriod - max3 d) * 10)

/-- The duties lowered alike until the largest leaves WINDOW_MIN (R168). -/
def State.clampDuties (s : State) (d : Nat × Nat × Nat) : Nat × Nat × Nat :=
  let top := halfPeriod - (s.get SPIN_SAMPLE_WINDOW_MIN * 64 + 9) / 10
  let k := max3 d - top
  (d.1 - k, d.2.1 - k, d.2.2 - k)

/-! ### The checks of R169 -/

/-- Whether a period fails one of the three checks: speed jump, back-EMF magnitude (µV), current against model (mA, only
on a clean sample). -/
def State.implausible (s : State) (omega : Int) (emf : Nat) (clean : Bool) (dev : Rat) : Bool :=
  let jump := decide (s.get PLAUS_JUMP_LIM * s.imgNat Image.rpm * 16 < (omega - s.spin.omega).natAbs)
  let e := mkRat (s.imgNat Image.ke) 1 * radPerS omega.natAbs
  let emfBad := decide (mkRat (s.get PLAUS_EMF_TOL) 256 * e < absQ ((emf : Rat) - e))
  let curBad := clean && decide (mkRat (s.get PLAUS_CUR_TOL * s.imgNat Image.iMax) 256 < dev)
  jump || emfBad || curBad

/-! ### Braking (R179) -/

/-- A measured back-EMF amplitude, in µV, lies below KE × 6.283 rad/s (R177, R179). -/
def State.emfLow (s : State) (emf : Nat) : Bool := decide (1000 * emf < 6283 * s.imgNat Image.ke)

/-- The 20 ms of every 100 ms of the zero vector in which the outputs are off and the back-EMF is measured (R179). -/
def State.emfWindow (s : State) : Bool := decide (3200 ≤ s.spin.drv.zeroN)

/-- The short-circuit current at the present speed does not exceed I_MAX: KE ω ≤ I_MAX √(R² + (p ω L)²). -/
def State.shortSafe (s : State) : Bool :=
  let w := radPerS s.speed
  let e := mkRat (s.imgNat Image.ke) 1 * w
  let i : Rat := s.imgNat Image.iMax
  let r : Rat := s.imgNat Image.rPhase
  let x := mkRat (s.imgNat Image.polePairs * s.imgNat Image.lPhase) 100000 * w
  decide (e * e ≤ i * i * (r * r + x * x))

/-- The braking current in mA at a motor supply: BRK_I up to VMOT_LIMIT - BRK_MARGIN, falling linearly to 0 at VMOT_LIMIT. -/
def State.brakeCurrent (s : State) (vmot : Nat) : Nat :=
  let lim := s.imgNat Image.vmotLimit
  let m := s.get SPIN_BRAKE_BRK_MARGIN
  let i := s.get SPIN_BRAKE_BRK_I
  if vmot + m ≤ lim then i else if lim ≤ vmot then 0 else i * (lim - vmot) / m

/-- The phase of BRAKE in this period: each entry into the limit sets BRAKE_LIMIT. -/
def State.brakePhase (s : State) (vmot : Nat) : State :=
  let lim := s.imgNat Image.vmotLimit
  let go (s : State) (b : Brake) : State := (s.modSpin (fun p => { p with brake := b })).modDrv (fun d => { d with zeroN := 0 })
  match s.spin.brake with
  | .hold => s
  | .zero => s.modDrv (fun d => { d with zeroN := (d.zeroN + 1) % 4000 })
  | .foc =>
    if !s.aboveObs then go s .zero
    else if lim ≤ vmot then (go s (if s.shortSafe then .limitZero else .limitOff)).noteBit spinFault 1
    else s
  | _ =>
    if !s.aboveObs then go s .zero
    else if vmot + s.get SPIN_BRAKE_BRK_MARGIN < lim then go s .foc
    else go s (if s.shortSafe then .limitZero else .limitOff)

end Sys2Proof.Machine
end

