-- ==== Sys2Proof/Machine/Servo.lean ====
section
/-!
DEFINITION. What the servo units of a channel die do at a tick and in a wedge: mode changes and commands of LOOP (R132, R133), head switches, the Clasp VCM lane (R160, R161), the wedge's computation and its write-unsafe verdict (R146, R147, R149).
-/

namespace Sys2Proof.Machine

/-! ### The Clasp VCM lane (R160, R161) -/

/-- Commands of a Clasp VCM frame (R160). -/
def vcHoldZero : Nat := 0
def vcRun : Nat := 1
def vcVel : Nat := 2
def vcRetract : Nat := 3

/-- A Clasp VCM frame on the wire (R160): the sync 1010_1011b, CMD, VCM, MA, SEQ and the CRC-8 over them, msb first. -/
def vcmFrame (cmd : Nat) (vcm ma : Int) (seq : Nat) : Nat :=
  0xAB * 2 ^ 48 + withCrc8 40 (cmd * 2 ^ 36 + toBits 16 vcm * 2 ^ 20 + toBits 16 ma * 2 ^ 4 + seq)

/-- CLASPV sends a frame at a frame instant (R160, R161): SEQ advances, and a RETRACT that is due takes the frame's place. The
manual gives a RETRACT frame's fields no value: they are free. -/
def State.claspFrame (s : State) (n cmd : Nat) (vcm ma : Int) : State :=
  let seq := (s.get (CLV_STAT_SEQ n) + 1) % 16
  let s := s.put (CLV_STAT_SEQ n) seq
  let send (s : State) (cmd : Nat) (vcm ma : Int) : State :=
    let s := (s.put (CLV_STAT_CMD n) cmd).setNum (CLV_OUT n) (toBits 16 ma * 0x10000 + toBits 16 vcm)
    { s with clvFrame := modAt s.clvFrame n (fun _ => vcmFrame cmd vcm ma seq) }
  if s.clvDue n then
    let (a, s) := s.draw 1
    send (s.setClv n false) vcRetract (sx 16 a) (sx 16 (a / 0x10000))
  else send s cmd vcm ma

/-- The VEL field of a load or unload: ± raw × 128 (R157, R158). -/
def State.velField (s : State) (n : Nat) (load : Bool) : Int :=
  if load then (s.get (LOAD_CFG_VEL_LOAD n) * 128 : Nat) else -(s.get (LOAD_CFG_VEL_UNLOAD n) * 128 : Nat)

/-- The frame of a frame instant by the mode (R131): `q` quarters of Δ after φ0 (R143). -/
def State.instantFrame (s : State) (n q : Nat) : State :=
  let m := s.mode n
  let l := s.loopOf n
  let u := sx 16 (s.get (LOOP_OUT_VCM n))
  let ma := sx 16 (s.get (LOOP_OUT_MA n))
  if m = mParked ∨ m = mRetracted then s.claspFrame n vcHoldZero 0 0
  else if m = mLoading then s.claspFrame n vcVel (s.velField n true) 0
  else if m = mUnloading ∧ l.velOut then s.claspFrame n vcVel (s.velField n false) 0
  else if m = mManual then s.claspFrame n vcRun (sx 16 (s.get (LOOP_MANUAL_VCM n))) (sx 16 (s.get (LOOP_MANUAL_MA n)))
  else if m = mHold then s.claspFrame n vcRun u ma
  else s.claspFrame n vcRun (fix 16 15 (clampQ (-1) 1 (unfix 15 u + l.delta * mkRat q 4))) ma

/-! ### Changes of mode -/

/-- DEMOD enters search mode: the servo gate stays open for the whole wedge, and the write gate is held closed throughout (R108, R251). -/
def State.enterSearch (s : State) (n : Nat) : State :=
  ((s.put (DEMOD_STAT_SEARCH n) 1).modDemod n (fun d => { d with run := 0, gate := true })).dropGate n

/-- LOOP starts an unload (R158): a seek to track 0 with the Fast profile, or VEL frames at once where position is lost. -/
def State.startUnload (s : State) (n : Nat) : State :=
  let lost := decide (s.mode n = mLost) || decide (s.mode n = mLoading) || s.flag (DEMOD_STAT_LOSS n)
  let s := (s.setMode n mUnloading).modLoop n (fun l => { l with velOut := lost, next := none, plan := none })
  if lost then s else s.planSeek n 0 1

/-- The last latched VCM output, to preset the receiving law's integrator (R145). -/
def State.presetFrom (s : State) (n : Nat) : State :=
  s.modLoop n (fun l => { l with preset := some (sx 16 (s.get (LOOP_OUT_VCM n))) })

/-- A GO to TARGET (R132, R141): SETTLE within 2 tracks of the estimate, otherwise SEEK. -/
def State.go (s : State) (n : Nat) : State :=
  let t := s.targetReg n
  let s := s.modLoop n (fun l => { l with feTrips := 0, settle := 0, sinceGo := 0, coast := 0, next := none })
  let s := s.planSeek n t (s.get (SEEK_POLICY_PROFILE n))
  if ((s.loopOf n).x - t).natAbs ≤ 2 * 0x100000000 then
    let s := if s.mode n = mSettle ∨ s.mode n = mFollow then s else s.presetFrom n
    (s.setMode n mSettle).modLoop n (fun l => { l with plan := none })
  else s.setMode n mSeek

/-- The head named by TARGET_HI.HEAD is present (R133). -/
def State.headLegal (s : State) (n : Nat) : Bool := s.imgBool (fun i => i.headPresent n (s.get (LOOP_TARGET_HI_HEAD n)))

/-- Whether a LOOP command is legal in a mode (R132, R133; LOAD also needs SPIN_LOCK 1 and a plant). -/
def State.cmdLegal (s : State) (n code : Nat) : Bool :=
  let m := s.mode n
  let pos := decide (m = mSeek) || decide (m = mSettle) || decide (m = mFollow)
  if code = 1 then pos && s.headLegal n
  else if code = 2 then pos || decide (m = mLost)
  else if code = 3 then decide (m = mManual) && s.headLegal n
  else if code = 4 then decide (m = mParked) && (s.demodOf n).spinLock && decide (s.num (PLANT n) ≠ 0) && s.headLegal n
  else if code = 5 then pos || decide (m = mManual) || decide (m = mLost) || decide (m = mLoading)
  else decide (m = mRetracted)

/-- SP of head k in the data zone in force (R242), U0.16 clamped. -/
def State.setpoint (s : State) (n k : Nat) : Nat :=
  let z := s.get (DET_STAT_ZONE n)
  let tc := 1 + mkRat (sx 16 (s.num (AS_TC n k))) (2 ^ 23) * (unfix 8 (s.pauOf n).temp - 25)
  let v := mkRat (s.num (AS_LEVEL n k) % 0x10000) 1 * mkRat (s.num (AS_ZONE n z) % 0x10000) 32768 * tc
  (clampI 0 0xFFFF (rnd v)).toNat

/-- ASSIST recomputes SP of the selected head (R242). -/
def State.updateSP (s : State) (n : Nat) : State :=
  match (s.loopOf n).head with
  | none => s
  | some k => s.put (AS_STAT_SP n) (s.setpoint n k)

/-- At a sector's pre-heat the recomputed SP takes effect (R242), and CORR is scaled by the ratio of new to old SP (R243). -/
def State.takeSP (s : State) (n : Nat) : State :=
  match (s.loopOf n).head with
  | none => s
  | some k =>
    let sp := s.get (AS_STAT_SP n)
    let old := atD (s.asuOf n).spOf k 0
    let c := sx 16 (s.num (CORR n k))
    let s := if old ≠ 0 ∧ old ≠ sp then s.setNum (CORR n k) (toBits 16 (clampS 16 (roundDiv (c * sp) old))) else s
    s.modAsu n (fun a => { a with spOf := modAt a.spOf k (fun _ => sp) })

/-- The derived taps of R211: c_{1,0} = 1.0, which is read-only, and every other tap 0. -/
def State.restoreTaps (s : State) (n : Nat) : State :=
  let s := s.modDet n (fun d => { d with taps := [] })
  let s := (List.range 15).foldl (fun s i => (s.derivedNum (EQ_TAP0 n i) 0).derivedNum (EQ_TAP2 n i) 0) s
  (List.range 7).foldl (fun s i => (s.derivedNum (EQ_TAP1_LO n i) 0).derivedNum (EQ_TAP1_HI n i) 0) s

/-- The equaliser taps of all three readers. -/
def isTap (n a : Nat) : Bool := decide (EQ_TAP0 n 0 ≤ a) && decide (a ≤ EQ_TAP2 n 14)

/-- The wedge line of the channel that the phase error comes from (R170). -/
def State.isRefCh (s : State) (n : Nat) : Bool := s.flag SPIN_STAT_FINE && decide (s.get SPIN_STAT_REF_CH = n)

/-- The KPR's prediction for channel n starts from head k's stored offset (R46): the wedge under way is held to it already, and a new run begins. A
head whose offset has not been learned ends LOCKED, and on REF_CH returns the source to COARSE until LOCKED is 1 again (R171). -/
def State.wlSwitch (s : State) (n k : Nat) : State :=
  let s := { s with
    wl := modAt s.wl n (fun w =>
      let d := if w.byAngle then roundDiv (atD w.offset k 0) 16 - roundDiv (atD w.offset w.head 0) 16 else 0
      { w with head := k, run := 0, detected := none, predicted := ((w.predicted : Int) + d).toNat }) }
  if atD (atD s.wl n WedgeLine.reset).learned k false then s
  else (if s.isRefCh n then s.modRef (fun r => { r with coarse := some n }) else s).put (WL_STAT_LOCKED n) 0

/-- A head switch takes effect at the tick (R46, R116, R124, R132, R171, R207, R211, R242, R249). A head whose HEAD frame has not gone out before the
tick, because its command or TARGET_HI came after the slot of R258, has it in the first slot after, the model's choice (notes/assumptions/29.md). -/
def State.switchHead (s : State) (n k : Nat) : State :=
  let s := s.modLoop n (fun l => { l with head := some k, est := if l.est = 0 then 0 else 3 })
  let s := s.modDemod n (fun d => { d with pos1 := none, pos0 := none, rro := [], headSw := true })
  let s := ((s.endOverrides (isTap n)).modDet n (fun d => { d with freq := 0 })).restoreTaps n
  let s := (s.updateSP n).modPau n (fun p => { p with
    headLate := if p.headSent = some k then none else some k, headSent := none
    htrDue := p.htrDue || decide (p.htrHead ≠ some k), htrHead := none })
  (s.modAsu n (fun a => { a with last := none, low := 0 })).wlSwitch n k

/-- GO, AUTO and LOAD select the head of TARGET_HI.HEAD; nothing happens where it is already selected (R132). -/
def State.selectHead (s : State) (n : Nat) : State :=
  let k := s.get (LOOP_TARGET_HI_HEAD n)
  if (s.loopOf n).head = some k then s else s.switchHead n k

/-- A command acted on at the tick (R132): one that is not legal sets CMD_REJ and changes nothing. -/
def State.actCmd (s : State) (n code : Nat) (keep : Bool) : State :=
  if s.cmdLegal n code then
    if code = 1 then (s.selectHead n).go n
    else if code = 2 then
      let s := if keep then s.wr (LOOP_MANUAL n) (s.rd (LOOP_OUT n)) else s
      (s.setMode n mManual).modLoop n (fun l => { l with plan := none })
    else if code = 3 then (s.selectHead n).go n
    else if code = 4 then
      let s := ((s.setMode n mLoading).modLoop n (fun l => { l with est := 0, validRun := 0, v := 0 })).selectHead n
      (s.modLoop n (fun l => { l with est := 0 })).enterSearch n
    else if code = 5 then s.startUnload n
    else s.setMode n mParked
  else s.put (LOOP_STAT_CMD_REJ n) 1

/-- The head that the waiting command switches to at the next tick (R132, R258): that of TARGET_HI as it stands, where the command is legal and the head
is not selected already. The transitions decided for the tick lead between SEEK, SETTLE and FOLLOW, from which the same commands are legal. -/
def State.headDue (s : State) (n : Nat) : Option Nat :=
  match (s.loopOf n).cmd with
  | some (c, _) =>
    if (c = 1 ∨ c = 3 ∨ c = 4) ∧ s.cmdLegal n c = true ∧ (s.loopOf n).head ≠ some (s.get (LOOP_TARGET_HI_HEAD n)) then
      some (s.get (LOOP_TARGET_HI_HEAD n))
    else none
  | none => none

/-- The write of LOOP_CMD: it waits for the tick, replacing one that waits (R132). -/
def State.writeCmd (s : State) (n code : Nat) (keep : Bool) : State :=
  let s := if (s.loopOf n).cmd.isSome then s.put (LOOP_STAT_CMD_LOST n) 1 else s
  s.modLoop n (fun l => { l with cmd := some (code, keep) })

/-- A HEAD frame that went out for a switch that did not take place at the tick is made good (R133): the head in use is selected again in the first
slot after. -/
def State.headSettle (s : State) (n : Nat) : State :=
  s.modPau n (fun p => { p with headLate := if p.headSent.isSome then (s.loopOf n).head else p.headLate, headSent := none, htrHead := none })

/-- A mode decided during the last wedge takes effect at the tick (R147): SETTLE from SEEK with its preset (R145); FOLLOW with SEEK_TIME and the
SEEK_DONE event (R142), which a recovery may wait for (R228). -/
def State.nextMode (s : State) (n : Nat) : State :=
  match (s.loopOf n).next with
  | none => s
  | some m =>
    let s := s.modLoop n (fun l => { l with next := none })
    if m = mSettle ∧ s.mode n = mSeek then
      ((s.presetFrom n).setMode n mSettle).modLoop n (fun l => { l with plan := none, settle := 0 })
    else if m = mFollow ∧ s.mode n = mSettle then
      let s := s.modDet n (fun d => { d with rcv := d.rcv.map (fun r => { r with seek := false }) })
      ((s.setMode n mFollow).setNum (SEEK_TIME n) (s.loopOf n).sinceGo).raise (chEvent n 21)
    else s

/-- The target in force for DEMOD (R131). -/
def State.targetInForce (s : State) (n : Nat) : State :=
  let m := s.mode n
  s.modLoop n (fun l =>
    if m = mSettle ∨ m = mFollow ∨ m = mManual then { l with tgt := s.targetReg n }
    else if m = mSeek ∨ (m = mUnloading ∧ !l.velOut) then
      match l.plan with
      | some p => { l with tgt := fix 57 32 (p.refAt p.k).1 }
      | none => l
    else l)

/-- The waiting command, judged against the mode after the automatic transitions (R132). -/
def State.tickCmd (s : State) (n : Nat) : State :=
  match (s.loopOf n).cmd with
  | none => s
  | some (c, keep) => (s.modLoop n (fun l => { l with cmd := none })).actCmd n c keep

/-- A change of servo zone recomputes the zone-dependent gains unless an Expert write has overridden them (R136). -/
def State.zoneChange (s : State) (n : Nat) : State :=
  let z := s.zoneOf n (s.demodOf n).pos
  if (s.loopOf n).zone = z then s
  else (s.modLoop n (fun l => { l with zone := z })).deriveGains n (s.pitchRaw n z)

/-- What LOOP does at a tick: coefficients due and those of a new zone (R135, R136), decided transitions, the waiting command (R132), the target in
force; the wedge is judged in the mode it begins in (R147). -/
def State.loopTick (s : State) (n : Nat) : State :=
  let s := s.zoneChange n
  let s := if (s.loopOf n).derive then (s.deriveLoop n).modLoop n (fun l => { l with derive := false }) else s
  let s := ((((s.nextMode n).tickCmd n).headSettle n).targetInForce n)
  s.modLoop n (fun l => { l with tickMode := s.mode n, latched := false })

/-! ### The wedge's computation -/

/-- The error of the wedge in servo tracks (R133): PES × 0.02 nm / P, or the estimator's predicted error (R149). -/
def State.wedgeError (s : State) (n : Nat) (x : Int) : Rat :=
  let d := s.demodOf n
  let p := s.pitchRaw n (s.zoneOf n d.pos)
  if d.pesValid ∧ p ≠ 0 then mkRat (d.pes * 128) (25 * p) else unfix 32 (x - (s.loopOf n).tgt)

/-- The measurement of the estimator (R139, R149). -/
def State.measure (s : State) (n m : Nat) : Option Rat :=
  let d := s.demodOf n
  if m = mSettle ∨ m = mFollow then (if d.pesValid then some (unfix 32 d.pos) else none)
  else if d.posValid then some (unfix 32 d.pos)
  else if m = mSeek ∨ m = mUnloading then
    match d.idTrack with
    | some t => some (mkRat t 1 + unfix 32 (s.loopOf n).v * mkRat 77 1852)
    | none => none
  else none

/-- The estimator's step, or its start from the first valid positions after a LOAD or a head switch (R132, R157). -/
def State.stepEstimator (s : State) (n m : Nat) : State :=
  let l := s.loopOf n
  let d := s.demodOf n
  if l.est = 2 then
    let (x, v) := s.estimate n (s.measure n m)
    s.modLoop n (fun l => { l with x := x, v := v })
  else if d.posValid then
    if l.est = 0 then s.modLoop n (fun l => { l with x := d.pos, est := 1 })
    else if l.est = 1 then s.modLoop n (fun l => { l with v := clampS 48 (d.pos - l.x), x := d.pos, est := 2 })
    else s.modLoop n (fun l => { l with x := d.pos, est := 2 })
  else s

/-- FE_CNT (R146): it counts wedges whose error exceeds LIMIT, returns to 0 otherwise, and stays without a measurement. -/
def State.countFE (s : State) (n : Nat) (err : Option Rat) : State :=
  match err with
  | none => s
  | some e =>
    if mkRat (s.get (FE_CFG_LIMIT n)) 4096 < absQ e then s.put (LOOP_STAT_FE_CNT n) (min 255 (s.get (LOOP_STAT_FE_CNT n) + 1))
    else s.put (LOOP_STAT_FE_CNT n) 0

/-- Store the law's result for φ0 and its states. -/
def State.storeLaw (s : State) (n : Nat) (o : LawOut) : State :=
  let s := s.modLoop n (fun l => { o.loop with x := l.x, v := l.v, est := l.est, newU := o.u, newM := o.m, newD := o.d, m := o.m, maClamped := o.maClamp })
  let s := (s.put (LOOP_STAT_VCM_SAT n) (ofBool o.vcmClamp)).put (LOOP_STAT_MA_SAT n) (ofBool o.maClamp)
  if o.presetClamp then s.put (LOOP_STAT_PRESET_CLAMP n) 1 else s

/-- The error of a wedge with a valid PES meets SETTLE's criterion for COUNT wedges (R142): FOLLOW from the next tick. -/
def State.settleEnd (s : State) (n : Nat) (e : Rat) : State :=
  let ok := (s.demodOf n).pesValid && decide (absQ e ≤ mkRat (s.get (SETTLE_CFG_WIN n)) 4096)
  let s := s.modLoop n (fun l => { l with settle := if ok then l.settle + 1 else 0 })
  if ok ∧ max 1 (s.get (SETTLE_CFG_COUNT n)) ≤ (s.loopOf n).settle then s.modLoop n (fun l => { l with next := some mFollow })
  else s

/-- The law of the wedge by the mode at its tick (R133, R140, R144, R149, R157, R158). -/
def State.wedgeLaw (s : State) (n m : Nat) : State :=
  let l := s.loopOf n
  let d := s.demodOf n
  if m = mSettle ∨ m = mFollow then
    let e := s.wedgeError n l.x
    let s := (s.storeLaw n (s.followLaw n e)).countFE n (if d.pesValid then some e else none)
    if m = mSettle then s.settleEnd n e else s
  else if m = mSeek ∨ (m = mUnloading ∧ !l.velOut) then
    match l.plan with
    | some p =>
      let (r, _, _, done) := p.refAt p.k
      let s := s.storeLaw n (s.seekLaw n p l.x l.v)
      let s := if m = mSeek then s.countFE n (if (s.measure n m).isSome then some (unfix 32 l.x - r) else none) else s
      let s := s.modLoop n (fun l => { l with plan := some { p with k := p.k + 1 } })
      if done then
        if m = mSeek then s.modLoop n (fun l => { l with next := some mSettle })
        else s.modLoop n (fun l => { l with velOut := true, plan := none, newU := 0, newM := 0, newD := 0, m := 0 })
      else s
    | none => s
  else if m = mManual then
    let u := sx 16 (s.get (LOOP_MANUAL_VCM n))
    let a := sx 16 (s.get (LOOP_MANUAL_MA n))
    s.modLoop n (fun l => { l with newU := u, newM := a, newD := 0, m := a })
  else if m = mLost then
    (s.storeLaw n (s.lostLaw n)).modLoop n (fun l => { l with lostRun := l.lostRun + 1 })
  else s.modLoop n (fun l => { l with newU := 0, newM := 0, newD := 0, m := 0 })

/-- The verdict of a wedge (R147) judged in the mode at its tick; an unsafe verdict drops the gate (R148, R251). -/
def State.verdict (s : State) (n m : Nat) (extra : Bool) : State :=
  let l := s.loopOf n
  let d := s.demodOf n
  let e := s.wedgeError n l.x
  let hold := if d.shockTrip then s.get (WU_CFG_SHOCK_HOLD n) else l.hold - 1
  let bad := extra || !d.pesValid || decide (mkRat (s.get (WU_CFG_FRAC n)) 4096 < absQ e) || decide (m ≠ mFollow) || !d.found ||
    d.shockTrip || decide (0 < l.hold) || l.maClamped
  let s := s.modLoop n (fun l => { l with hold := hold, clean := if bad then 0 else l.clean + 1 })
  if bad then (s.put (LOOP_STAT_UNSAFE n) 1).dropGate n
  else if max 1 (s.get (WU_CFG_CLEAR n)) ≤ (s.loopOf n).clean then s.put (LOOP_STAT_UNSAFE n) 0
  else s

/-- HOLD's wedge (R154): its output where PES is valid; INVALID_RUN counts the others. -/
def State.holdWedge (s : State) (n : Nat) : State :=
  let d := s.demodOf n
  if d.pesValid then
    let (_, h, pc) := s.holdLaw n (s.wedgeError n (s.loopOf n).x)
    let s := (s.modHold n (fun _ => h)).put (HOLD_STAT_INVALID_RUN n) 0
    if pc then s.put (LOOP_STAT_PRESET_CLAMP n) 1 else s
  else s.put (HOLD_STAT_INVALID_RUN n) (min 255 (s.get (HOLD_STAT_INVALID_RUN n) + 1))

/-- LOOP's computation in shadow (R155): the track-following law with its output unused. -/
def State.shadowWedge (s : State) (n : Nat) : State :=
  let l := s.loopOf n
  if l.restarting ∨ l.noShadow then s
  else
    let o := s.followLaw n (s.wedgeError n l.x)
    s.modLoop n (fun l => { o.loop with x := l.x, v := l.v, est := l.est, newU := o.u, newM := o.m, newD := o.d, m := o.m, shadow := l.shadow + 1 })

/-- The integrator as INTEG_LO and INTEG_HI show it. -/
def State.showInteg (s : State) (n : Nat) : State :=
  (s.setNum (INTEG_LO n) (toBits 48 (s.loopOf n).integ % 0x100000000)).setNum (INTEG_HI n) (toBits 48 (s.loopOf n).integ / 0x100000000)

/-- LOOP keeps what a wedge's computation starts from, until the next (R151). -/
def State.keepLoop (s : State) (n : Nat) : State :=
  { s with loopPre := modAt s.loopPre n (fun _ => ⟨s.loopOf n, s.get (LOOP_STAT_FE_CNT n), s.get (LOOP_STAT_VCM_SAT n), s.get (LOOP_STAT_MA_SAT n),
    s.get (LOOP_STAT_PRESET_CLAMP n)⟩) }

/-- The result of a wedge is discarded (R151): every state that its computation stored is again what the computation started from. -/
def State.discardWedge (s : State) (n : Nat) : State :=
  let p := atD s.loopPre n LoopPre.reset
  let q := p.loop
  let s := s.modLoop n (fun l => { l with
    x := q.x, v := q.v, est := q.est, integ := q.integ, f := q.f, m := q.m, vcm := q.vcm, ma := q.ma, ff := q.ff, sens := q.sens, dsens := q.dsens
    plan := q.plan, settle := q.settle, preset := q.preset, velOut := q.velOut, next := q.next })
  let s := ((s.put (LOOP_STAT_FE_CNT n) p.feCnt).put (LOOP_STAT_VCM_SAT n) p.vcmSat).put (LOOP_STAT_MA_SAT n) p.maSat
  (s.put (LOOP_STAT_PRESET_CLAMP n) p.presetClamp).showInteg n

/-- LOOP's and HOLD's computation of a wedge (R133, R136, R138, R139, R146, R147, R149, R154, R155). The verdict is that of the mode at the wedge's
tick (R147). -/
def State.loopWedge (s : State) (n : Nat) : State :=
  let m := s.mode n
  let s := s.holdGains n (s.pitchRaw n (s.zoneOf n (s.demodOf n).pos))
  if m = mParked ∨ m = mRetracted then s.verdict n (s.loopOf n).tickMode false
  else
    let s := ((s.keepLoop n).sensorStep n).stepEstimator n m
    let s := s.modLoop n (fun l => { l with
      validRun := if (s.demodOf n).posValid then l.validRun + 1 else 0, sinceGo := l.sinceGo + 1,
      coast := if (m = mSettle ∨ m = mFollow) ∧ (s.demodOf n).pesValid = false then l.coast + 1 else 0 })
    let s := if m = mHold then (s.holdWedge n).shadowWedge n else s.wedgeLaw n m
    (s.showInteg n).verdict n (s.loopOf n).tickMode false

end Sys2Proof.Machine
end

