-- ==== Sys2Proof/Machine/Format.lean ====
section
/-!
DEFINITION. What a data-zone format and a precompensation level derive at a tick (R193, R194, R203, R207, R209, R211, R238, R242).
-/

namespace Sys2Proof.Machine

/-- The built-in targets (R209). -/
def targetShape (t : Nat) : List Nat :=
  match t with
  | 0 => [1, 2, 1, 0, 0]
  | 1 => [1, 3, 3, 1, 0]
  | 2 => [1, 4, 6, 4, 1]
  | _ => [3, 7, 5, 1, 0]

/-- A target tap scaled to unit energy, S2.8 (R209). -/
def targetTap (t j : Nat) : Nat :=
  let sh := targetShape t
  let e : Nat := sh.foldl (fun a g => a + g * g) 0
  toBits 10 (fix 10 8 (mkRat (sh.getD j 0 : Nat) 1 / sqrtQ (mkRat e 1)))

/-- FMT_SEL takes effect at the tick (R193): the zone in force, and the Expert values of AFE and DETECT derived from it
(R203, R207, R209, R211 and the reset column of DETECT's Expert page); what an Expert write has set since the write of FMT_SEL stays
(R11). -/
def State.applyFmt (s : State) (n z : Nat) : State :=
  let s := s.put (DET_STAT_ZONE n) z
  let f := s.num (DZ_FMT n z)
  let boost := min 12 (bitsOf f 7 4)
  let s := (List.range 3).foldl (fun s r =>
    ((s.derivedNum (AFE_CTF n r) (0x5C * 0x10000 + boost * 0x100)).derivedNum (AFE_HPF n r) 0x14).derivedNum (AFE_MRA n r) 0) s
  let s := (((s.derivedNum (TIM_ACQ n) 0x20000200).derivedNum (TIM_TRK n) 0x08000040).derivedNum (TIM_CFG n) 0x40)
  let s := ((s.derivedNum (SYNC_CFG n) 0x1015080D).derivedNum (SM1_PAT n) 0x5B1C3F).derivedNum (SM2_PAT n) 0x6E8B0D
  let s := ((s.derivedNum (FM_PAT n) 0x47A3).derivedNum (ADAPT_CFG n) 0x0C).derivedNum (DELAY0 n) 0
  let s := (s.derivedNum (DELAY2 n) 0).restoreTaps n
  let s := (List.range 5).foldl (fun s j => s.derivedNum (TARGET_G n j) (targetTap (bitsOf f 1 0) j)) s
  let s := (List.range 48).foldl (fun s j => s.derivedNum (PREDICTOR n j) 0) s
  (s.modDet n (fun d => { d with freq := 0, fmt := none })).updateSP n

/-- PRECOMP of context c for level L (R238): -L × (4·t₋₁ + 2·t₋₂) / 64 bit, S1.6. -/
def precompEntry (l c : Nat) : Nat :=
  toBits 7 (-((l * (4 * bitsOf c 2 2 + 2 * bitsOf c 3 3) : Nat) : Int))

/-- WR_POLICY's table takes effect at the tick (R238). -/
def State.applyPrecomp (s : State) (n : Nat) : State :=
  let l := s.get (WR_POLICY_PRECOMP_LVL n)
  ((List.range 16).foldl (fun s c => s.derivedNum (PRECOMP n c) (precompEntry l c)) s).modWru n (fun u => { u with precomp := false })

/-- The formats due at the tick. -/
def State.formatTick (s : State) (n : Nat) : State :=
  let s := match (s.detOf n).fmt with
    | some z => s.applyFmt n z
    | none => s
  if (s.wruOf n).precomp then s.applyPrecomp n else s

end Sys2Proof.Machine
end

