-- ==== Sys2Proof/Machine/Sequencer.lean ====
section
/-!
DEFINITION. What happens to a Lomun sequencer between microwords: the servo section at a servo gate opening (R431), its faults (R433), stopping (R432).
-/

namespace Sys2Proof.Machine

/-- Bits of LM_FAULT (file 13, LOMUN registers). -/
def lmParity : Nat := 0
def lmIllegal : Nat := 1
def lmXfer : Nat := 2
def lmBus : Nat := 3
def lmStack : Nat := 4
def lmPcEnd : Nat := 5
def lmForced : Nat := 6
def lmLoadRej : Nat := 7
def lmStartRej : Nat := 8

/-- The sequencer's status bits that follow its state. -/
def State.lmStatus (s : State) (n : Nat) : State :=
  let l := s.lmuOf n
  (s.put (LM_STAT_WAIT n) (ofBool (decide (l.st = .waitTick) || decide (l.st = .waitCond)))).put (LM_STAT_AQ n) l.queue.length

/-- The sequencer stops: RUN becomes 0 and the data gates close (R426, R432, LM_CTL.STOP). -/
def State.lmHalt (s : State) (n : Nat) : State :=
  let s := (s.modLmu n (fun l => { l with st := .stopped, startDue := false, queue := [] })).put (LM_STAT_RUN n) 0
  (s.closeGates n).lmStatus n

/-- A Lomun fault of R433, or a BUS fault: the gates close, the open sector is ABANDONED, the queue empties, the bit is set
with a Contained record and the FAULT event is raised; the sequencer waits for the next servo section, or stops. -/
def State.lmFaultAt (s : State) (n bit : Nat) : State :=
  let s := s.closeGates n
  let s := s.modLmu n (fun l => { l with queue := [], stack := [], st := .faulted })
  let s := (s.faultBit (lmFault n) bit sevNote clsContained noInst 0).raise (chEvent n 36)
  if s.flag (LM_CTL_HALT_ON_FAULT n) then s.lmHalt n else s.lmStatus n

/-- The customer entry in force: 2,560 to 4,095, other values act as A00h (R431). -/
def State.lmEntry (s : State) (n : Nat) : Nat :=
  let e := s.get (LM_ENTRY_WORD n)
  if 2560 ≤ e then e else 0xA00

/-- Enter the servo section at word 0 with an empty call stack (R431). -/
def State.lmServo (s : State) (n : Nat) : State :=
  let e := s.lmEntry n
  ((s.modLmu n (fun l => { l with st := .run, pc := 0, stack := [], entry := e })).put (LM_STAT_PC n) 0).lmStatus n

/-- A servo gate opens (R54, R425, R431): a verified START begins; a sequencer in WAIT_TICK enters the servo section; one that
is anywhere else is forced into it, its gates closed and its queue emptied. -/
def State.lmGateOpen (s : State) (n : Nat) : State :=
  let l := s.lmuOf n
  if l.startDue then ((s.modLmu n (fun l => { l with startDue := false, queue := [] })).put (LM_STAT_RUN n) 1).lmServo n
  else
    match l.st with
    | .stopped => s
    | .verify => s
    | .waitTick => s.lmServo n
    | .faulted => s.lmServo n
    | _ =>
      let s := s.modLmu n (fun l => { l with queue := [] })
      let s := s.faultBit (lmFault n) lmForced sevNote clsContained noInst 0
      let s := s.countSat (LM_FORCED_CNT n) (LM_STAT_FCNT_SAT n) 0 1
      (s.raise (chEvent n 37)).lmServo n

end Sys2Proof.Machine
end

