-- ==== Sys2Proof/Machine/Detect.lean ====
section
/-!
DEFINITION. The read channel (file 07): reading sectors and their fragments, framing, decoding, slip search, the retry ladder, soft-input jobs and the counters.
-/

namespace Sys2Proof.Machine

/-! ### The data zone (R193) -/

/-- FMT_SEL_WRITE (R11, R193): the overrides of AFE's and DETECT's Expert pages end, and the zone takes effect at the next tick. -/
def fmtSelWrite (n : Nat) (v : Word) (s : State) : State :=
  let s := s.endOverrides (fun a => decide (addrDie a = n + 1) && (decide (addrUnit a = addrUnit (FMT_SEL n)) || decide (addrUnit a = addrUnit (AFE_CTL n))))
  (s.setRW (FMT_SEL n) v).modDet n (fun d => { d with fmt := some (bitsOf v.toNat 5 0) })

def execFmtSelWrite (ch : Ch) (value : Word) (s : State) : Host.Outcome State Fault Refusal :=
  .next (s.access (ch + 1) (fmtSelWrite ch value))

/-! ### Status and statistics -/

/-- SLOT_BUSY, DECODING and LDPC_STAT.BUSY follow the slots (R213). -/
def State.detStatus (s : State) (n : Nat) : State :=
  let d := s.detOf n
  let k := min 5 (d.slots.length + ofBool d.op.isSome)
  let s := s.put (DET_STAT_SLOT_BUSY n) (2 ^ k - 1 + 32 * ofBool (d.held.isSome || d.rcv.isSome))
  let busy := ofBool (!d.slots.isEmpty || d.held.isSome)
  (s.put (DET_STAT_DECODING n) busy).put (LDPC_STAT_BUSY n) busy

/-- Count in 32-bit counter i of DETECT: 0 TL_CNT, 1 CUT_CNT, 2 SLIP_SKIP_CNT, 3 NO_DESC_CNT. -/
def State.detCount (s : State) (n i : Nat) : State := s.countSat (DET_CNT n i) (DET_CNT_SAT_SAT n) i 1

/-- DETECT_CNT_CLR (R231). -/
def detectCntClr (n : Nat) (v : Nat) (s : State) : State :=
  let s := (List.range 4).foldl (fun s i => if bitOf v i then s.setNum (DET_CNT n i) 0 else s) s
  if bitOf v 31 then
    let s := (List.range 18).foldl (fun s i => (s.setNum (SECT_CNT_LO n i) 0).setNum (SECT_CNT_HI n i) 0) s
    (List.range 64).foldl (fun s i => (s.setNum (HIST_LO n i) 0).setNum (HIST_HI n i) 0) s
  else s

def execDetectCntClr (ch : Ch) (value : Word) (s : State) : Host.Outcome State Fault Refusal :=
  .next (s.access (ch + 1) (detectCntClr ch value.toNat))

/-! ### Settings -/

/-- SYNC_CFG fields with their ranges. -/
def State.syncWin (s : State) (n : Nat) : Nat := max 4 (min 32 (s.get (SYNC_CFG_SYNC_WIN n)))
def State.smThr (s : State) (n : Nat) : Nat := max 12 (min 24 (s.get (SYNC_CFG_SM_THR n)))
def State.fmWin (s : State) (n : Nat) : Nat := max 2 (min 16 (s.get (SYNC_CFG_FM_WIN n)))
def State.fmThr (s : State) (n : Nat) : Nat := max 8 (min 16 (s.get (SYNC_CFG_FM_THR n)))

/-- A timing loss (R208). -/
def State.timingLoss (s : State) (n : Nat) : State := (s.noteBit (detErr n) 1).detCount n 0

/-- PRE_LEN of the zone in force (R195). -/
def State.preLen (s : State) (n : Nat) : Nat := 8 * max 8 (min 32 (s.get (DZ_FMT_PRE n (s.get (DET_STAT_ZONE n)))))

/-- An iteration limit: 1–64; 0 and values over 64 act as 64. -/
def iterLimit (v : Nat) : Nat := if 1 ≤ v ∧ v ≤ 64 then v else 64

/-! ### The settings a sector is read with (R203-R211, R226) -/

/-- The settings on the fly. -/
def ReadPath.plain : ReadPath := ⟨0, 0, 0, false, false⟩

/-- The retry sets (R226). -/
def retrySet (j : Nat) : ReadPath :=
  match j with
  | 1 => { ReadPath.plain with ampDb := 1 }
  | 2 => { ReadPath.plain with ampDb := -1 }
  | 3 => { ReadPath.plain with boostDb := 2 }
  | 4 => { ReadPath.plain with boostDb := -2 }
  | 5 => { ReadPath.plain with tgt := 1 }
  | 6 => { ReadPath.plain with only1 := true }
  | 7 => { ReadPath.plain with halfTrk := true }
  | _ => ReadPath.plain

/-- The readers in detection (AFE_CTL.RDR_EN): 000b acts as 010b. -/
def State.readers (s : State) (n : Nat) (p : ReadPath) : Nat :=
  let m := s.get (AFE_CTL_RDR_EN n)
  if p.only1 ∨ m = 0 then 2 else m

/-- An equaliser tap c_{r,i-7} as its register has it, S1.9 (R209); c_{1,0} is 1.0 (R211). -/
def State.tapReg (s : State) (n r i : Nat) : Int :=
  if r = 0 then sx 10 (s.num (EQ_TAP0 n i))
  else if r = 2 then sx 10 (s.num (EQ_TAP2 n i))
  else if i < 7 then sx 10 (s.num (EQ_TAP1_LO n i))
  else if i = 7 then 512
  else sx 10 (s.num (EQ_TAP1_HI n (i - 8)))

/-- An equaliser tap (R211): the adapted value that persists, where the register still shows it, else the register's. That a tap is held finer than its
register is the model's choice (notes/assumptions/27.md). -/
def State.tapOf (s : State) (n r i : Nat) : Rat :=
  let c := ((s.detOf n).taps.getD r []).getD i 0
  if fix 10 9 c = s.tapReg n r i then c else unfix 9 (s.tapReg n r i)

/-- The settings of the digital path. -/
def State.pathSet (s : State) (n : Nat) (p : ReadPath) : PathSet :=
  let w (a : Nat) : Nat × Nat := (s.num a / 0x10000, s.num a % 0x10000)
  let trk := w (TIM_TRK n)
  let t0 := bitsOf (s.num (DZ_FMT n (s.get (DET_STAT_ZONE n)))) 1 0
  { readers := s.readers n p
    taps := (List.range 3).map (fun r => (List.range 15).map (s.tapOf n r))
    target := (List.range 5).map (fun j => sx 10 (if p.tgt = 0 then s.num (TARGET_G n j) else targetTap ((t0 + p.tgt) % 4) j))
    pred := (List.range 48).map (fun j => sx 10 (s.num (PREDICTOR n j)))
    acq := w (TIM_ACQ n)
    trk := if p.halfTrk then (trk.1 / 2, trk.2 / 2) else trk
    tlThr := s.num (TIM_CFG n) % 256
    delay := [sx 12 (s.num (DELAY0 n)), 0, sx 12 (s.num (DELAY2 n))]
    freq := (s.detOf n).freq
    mu := if s.flag (DET_CTL_ADAPT n) then some (max 6 (min 20 (s.num (ADAPT_CFG n) % 32))) else none }

/-- The boost of a reader's filter, 0-12 dB (R203, R226). -/
def State.boostOf (s : State) (n : Nat) (p : ReadPath) (r : Nat) : Nat :=
  (clampI 0 12 ((bitsOf (s.num (AFE_CTF n r)) 11 8 : Int) + p.boostDb)).toNat

/-! ### The front end (R203-R205) -/

/-- The AGC at a sector's preamble (R204): the gain of each enabled reader is acquired, or stays at VGA in mode 10b; AMP_LOW is set for one whose
amplitude stays below half of the target. -/
def State.acquireGain (s : State) (n : Nat) (p : ReadPath) (amps : List Nat) : State :=
  let t := bitsOf (s.num (AFE_CTL n)) 15 8
  let fixed := decide (s.get (AFE_CTL_AGC_MODE n) = 2)
  let s := s.modDet n (fun d => { d with boost := (List.range 3).map (s.boostOf n p) })
  ((List.range 3).filter (fun r => bitOf (s.readers n p) r)).foldl (fun s r =>
    let a := amps.getD r 0
    let g := if fixed then min 240 (s.get (AFE_VGA_V n r) / 32) else agcStep a t p.ampDb
    let s := s.setNum (AFE_GAIN n r) (32 * g)
    let s := if fixed then s else s.setNum (AFE_VGA n r) (32 * g)
    if ampIsLow a t g p.ampDb then s.wr (AFE_STAT n) (BitVec.ofNat 32 (setBitN (s.num (AFE_STAT n)) r)) else s) s

/-- In mode 01b the gain follows the data after acquisition (R204); the manual does not say by what measure, so where it stands at the end of
a fragment is free. -/
def State.trackGain (s : State) (n : Nat) (p : ReadPath) : State :=
  if s.get (AFE_CTL_AGC_MODE n) = 1 then
    ((List.range 3).filter (fun r => bitOf (s.readers n p) r)).foldl (fun s r =>
      let (g, s) := s.draw 20
      (s.setNum (AFE_GAIN n r) (32 * (g % 241))).setNum (AFE_VGA n r) (32 * (g % 241))) s
  else s

/-- ADCs with a sample beyond the codes ±63 in a fragment. -/
def clippedIn (adc : List (List Int)) : List Nat := (List.range 3).filter (fun a => (adc.getD a []).any (fun x => decide (63 < x.natAbs)))

/-- The conversions that a fragment's signal gives (R203, R205): behind the amplifier at the gain in force, the offset loop, the correction of MRA, the
high-pass corner and the filter. -/
def State.convert (s : State) (n : Nat) (g : ReadSig) : List (List Int) :=
  (List.range 3).map (fun r =>
    let x := g.signal.getD r []
    let mra := sx 16 (s.num (AFE_MRA n r))
    (List.range x.length).map (Config.frontEnd (s.num (AFE_GAIN n r) / 32) (bitsOf (s.num (AFE_CTF n r)) 23 16) ((s.detOf n).boost.getD r 0)
      (s.num (AFE_HPF n r) % 256) mra x))

/-- The conversions as the converters give them, within ±63 (R205). -/
def clipAll (adc : List (List Int)) : List (List Int) := adc.map (fun l => l.map (clampI (-63) 63))

/-- A clipping ADC sets its CLIP bit and counts once for the sector (R205): `first` is the sector's first fragment, and `was` the ADCs that clipped
in it before. -/
def State.noteClips (s : State) (n : Nat) (as : List Nat) : State :=
  as.foldl (fun s a =>
    (s.wr (ADC_STAT n) (BitVec.ofNat 32 (setBitN (s.num (ADC_STAT n)) a))).countSat (CLIP_CNT n a) (ADC_STAT_SAT n) a 1) s

/-- Write a register that shows an adapted tap, S1.9. -/
def State.putTap (s : State) (a : Nat) (taps : List (List Rat)) (r i : Nat) : State :=
  s.setNum a (toBits 10 (fix 10 9 ((taps.getD r []).getD i 0)))

/-- A fragment's tracking leaves the frequency (R207), the error MSE, and with ADAPT the taps, all but c_{1,0} (R211). -/
def State.adaptPath (s : State) (n : Nat) (p : PathSet) (t : Tim) (ys : List Int) (bits : List Bool) (acqEnd : Nat) : State :=
  let errs := (List.range ys.length).map (eqError p.target bits ys)
  let s := (s.modDet n (fun d => { d with freq := t.freq })).setNum (MSE n) (min 0xFFFF (meanSquare errs acqEnd))
  if p.mu.isSome then
    let s := s.modDet n (fun d => { d with taps := t.taps })
    let s := (List.range 15).foldl (fun s i => (s.putTap (EQ_TAP0 n i) t.taps 0 i).putTap (EQ_TAP2 n i) t.taps 2 i) s
    (List.range 7).foldl (fun s i => (s.putTap (EQ_TAP1_LO n i) t.taps 1 i).putTap (EQ_TAP1_HI n i) t.taps 1 (i + 8)) s
  else s

/-! ### Reading a fragment (R206-R211, R216-R218) -/

/-- What reading a fragment gives: its equalised samples, the settings used, the loop at its end and how far it stands from the bit grid there, where
acquisition ended, and the decisions. -/
structure FragRead where
  set : PathSet
  tim : Tim
  phase : Int
  acqEnd : Nat
  ys : List Int
  bits : List Bool

/-- A fragment that starts at `start` read with acquisition up to `acqEnd`. -/
def readBits (p : PathSet) (adc : List (List Int)) (start : Int) (acqEnd : Nat) : FragRead :=
  let k := fragBits adc
  let t := trackBits p adc acqEnd k start
  ⟨p, t, t.pos - 2 ^ 32 * (k : Int), acqEnd, t.ys.reverse, hardOf (pathLlrs t.surv)⟩

/-- Bytes of a slot (R209, R218). -/
def sampleBytes (ys : List Int) : List Byte := ys.map (fun y => BitVec.ofInt 8 y)

/-- The mark searches of the sector head (R216): SM1 is sought while the loop acquires, which it does until SM1 or the end of PRE; the fragment
is then tracked (R207). -/
def State.seekHead (s : State) (n : Nat) (p : PathSet) (adc : List (List Int)) : FragRead × Option Int × Option Int :=
  let win := s.syncWin n
  let pre := s.preLen n
  let sm1 := firstMark win (s.smThr n) (markTried (readBits p adc 0 (pre + win + 24)).bits (s.num (SM1_PAT n) % 2 ^ 24) 24 pre win)
  let f := readBits p adc 0 (match sm1 with | some d => ((pre : Int) + 24 + d).toNat | none => pre)
  (f, sm1, bestMark win (s.smThr n) (markTried f.bits (s.num (SM2_PAT n) % 2 ^ 24) 24 (pre + 2072) win))

/-- The fragment mark (R216): sought while the loop acquires; missed, the fragment is framed at its nominal position (R217). The loop comes to the
fragment from its coast at `start` (R207). -/
def State.seekFM (s : State) (n : Nat) (p : PathSet) (adc : List (List Int)) (start : Int) : FragRead × Option Int :=
  let win := s.fmWin n
  let fm := firstMark win (s.fmThr n) (markTried (readBits p adc start (56 + win)).bits (s.num (FM_PAT n) % 2 ^ 16) 16 40 win)
  (readBits p adc start (56 + fm.getD 0).toNat, fm)

/-- What a fragment leaves behind in the path: the loop, the taps, a timing loss, the gain, the clipping of its ADCs. That the filter of the phase error
and its run of 32 bits begin afresh with each fragment, and that TL_CNT counts a loss once for each fragment with one, are choices of the model: the
manual does not say (notes/assumptions/27.md). -/
def State.leavePath (s : State) (n : Nat) (path : ReadPath) (f : FragRead) : State :=
  let s := if f.tim.lost then s.timingLoss n else s
  (s.adaptPath n f.set f.tim f.ys f.bits f.acqEnd).trackGain n path

/-- The sector head is read (R204-R217): the record gets its marks and, where they frame the codeword, its first piece. -/
def State.readHead (s : State) (n : Nat) (path : ReadPath) (r : RdSec) (g : ReadSig) : RdSec × State :=
  let s := s.acquireGain n path g.amps
  let adc := s.convert n g
  let s := s.noteClips n (clippedIn adc)
  let (f, sm1, sm2) := s.seekHead n (s.pathSet n path) (clipAll adc)
  let lo := s.preLen n - s.syncWin n
  let pieces := match framing sm1 sm2 with
    | some d => [⟨sampleBytes ((f.ys.drop lo).take 38912), ((s.preLen n : Int) + 24 + d - lo).toNat, partB⟩]
    | none => []
  ({ r with
     frags := 1, sm1 := sm1.isSome, sm2 := sm2.isSome, dist := sm1.isSome && sm2.isSome && decide (sm1 ≠ sm2),
     timing := f.tim.lost, clips := clippedIn adc, pieces := pieces, phase := f.phase }, s.leavePath n path f)

/-- A continuation fragment is read (R196, R207, R216, R217) with the gain of the fragment before (R204), `coast` bits after it, over which the phase
advances at the held frequency: its piece begins four samples before its data (R218). -/
def State.readFrag (s : State) (n : Nat) (path : ReadPath) (r : RdSec) (coast : Nat) (g : ReadSig) : RdSec × State :=
  let adc := s.convert n g
  let s := s.noteClips n ((clippedIn adc).filter (fun a => !r.clips.contains a))
  let (f, fm) := s.seekFM n (s.pathSet n path) (clipAll adc) (r.phase + (s.detOf n).freq * coast)
  let at_ := (56 + fm.getD 0).toNat
  let piece : Piece := ⟨sampleBytes ((f.ys.drop (at_ - 4)).take 38912), 4, 0⟩
  ({ r with
     frags := r.frags + 1, fmMiss := r.fmMiss || fm.isNone, timing := r.timing || f.tim.lost, clips := r.clips ++ clippedIn adc, phase := f.phase
     pieces := r.pieces ++ [{ piece with data := partB - (r.pieces.map Piece.data).foldl (· + ·) 0 }] }, s.leavePath n path f)

/-! ### Decoding what the slots hold (R210, R212, R215, R219) -/

/-- The LLRs of a piece's codeword bits with its framing shifted by `d` bits: part A, and its bits of part B. -/
def pieceLlrs (first : Bool) (ls : List Int) (p : Piece) (d : Int) : List Int :=
  let get (k : Nat) : Int := let i := (p.frame : Int) + d + k; if i < 0 then 0 else ls.getD i.toNat 0
  (if first then (List.range 2048).map get else []) ++ (List.range p.data).map (fun k => get (pieceHead first + k))

/-- The channel LLRs of a codeword whose fragments are framed as found but fragment `frag`, shifted by `d` bits (R219). `ps`: the samples as
numbers. -/
def codeLlrs (target pred : List Int) (ps : List (Piece × List Int)) (frag : Nat) (d : Int) : List Int :=
  let ls := (List.range ps.length).flatMap (fun j =>
    match ps[j]? with
    | some (p, ys) => pieceLlrs (decide (j = 0)) (detect target pred ys) p (if j = frag then d else 0)
    | none => [])
  (List.range codeLen).map (fun k => ls.getD k 0)

/-- The samples of a slot as numbers. -/
def slotSamples (ps : List Piece) : List (Piece × List Int) := ps.map (fun p => (p, p.samples.map BitVec.toInt))

/-- The limits of an attempt (R212, LDPC_CFG, MS_CFG, SLIP_THR, ES_THR). -/
def State.decodeLimits (s : State) (n limit : Nat) (slip : Bool) : DecodeLimits :=
  ⟨bitsOf (s.num (MS_CFG n)) 15 8, bitsOf (s.num (MS_CFG n)) 7 0, bitsOf (s.num (LDPC_CFG n)) 3 0, s.num (ES_THR n) % 0x2000, limit,
    if slip then some (s.get (SLIP_THR_THR n)) else none⟩

/-- An attempt on samples read with a path's settings, one fragment shifted (R212, R219). -/
def State.attemptOn (s : State) (n : Nat) (path : ReadPath) (paw : Nat) (ps : List (Piece × List Int)) (limit frag : Nat) (d : Int) : Attempt :=
  let p := s.pathSet n path
  decodeAttempt (s.decodeLimits n limit true) (descramble paw (codeLlrs p.target p.pred ps frag d))

/-- The tries of a slip search in order (R219): fragment 1 first, then each continuation; shifts +1 to +4, then -1 to -4. -/
def slipTries (frags : Nat) : List (Nat × Int) :=
  (List.range frags).flatMap (fun j => [1, 2, 3, 4, -1, -2, -3, -4].map (fun d => (j, d)))

/-- SLIP of a completion (R223): the fragment in [7:6], the shift in [3:0]. -/
def slipCode (frag : Nat) (d : Int) : Nat := frag % 4 * 64 + toBits 4 d

/-- The attempt of lower weight after one iteration; the earlier of equals (R215). -/
def lighter (a b : Attempt) : Attempt := if b.syn1 < a.syn1 then b else a

/-- Slip search (R219): the first try that decodes ends it, with its SLIP byte; where all fail the arrays are those of the framing with the lowest
weight after one iteration, `a` being the attempt as found (R215), with the iterations and weight of the last try. -/
def State.searchSlip (s : State) (n : Nat) (path : ReadPath) (paw : Nat) (ps : List (Piece × List Int)) (a : Attempt) : Nat × Attempt :=
  let lim := iterLimit (s.get (LDPC_CFG_ITER_SLIP n))
  let tries := (slipTries ps.length).map (fun t => (t, s.attemptOn n path paw ps lim t.1 t.2))
  match tries.find? (fun t => decide (t.2.syn = 0)) with
  | some (t, b) => (slipCode t.1 t.2, b)
  | none =>
    let best := tries.foldl (fun m t => lighter m t.2) a
    let last := (tries.map (·.2)).getLastD a
    (0, { best with iter := last.iter, syn := last.syn })

/-! ### Completing a read -/

/-- Compare a decoded codeword with its descriptor (R200, R201): any difference of the PAW is ADDR_FAIL, else a wrong CRC is CRC_FAIL. -/
def judge (r : RdSec) (info : List Byte) (paw : Nat) : Nat :=
  if paw / 2 ^ 24 ≠ r.paw / 2 ^ 24 ∨ (r.tagChk ∧ paw % 2 ^ 24 ≠ r.paw % 2 ^ 24) then rsAddrFail
  else if crc64 (2 ^ 64 - 1 - r.seed) (slice info 0 4160) ≠ fieldLe info 4160 8 then rsCrcFail
  else rsGood

/-- One LLR of the soft output (R215): the sign, and min(7, ⌊|L| / 4⌋). -/
def llr4 (l : Int) : Nat := (if 0 < l then 8 else 0) + min 7 (l.natAbs / 4)

/-- LLRs packed two to a byte, `k` bytes. -/
def packLlr (k : Nat) (ls : List Int) : List Byte :=
  (List.range k).map (fun i => BitVec.ofNat 8 (llr4 (ls.getD (2 * i) 0) + 16 * llr4 (ls.getD (2 * i + 1) 0)))

/-- SOFT_OUTPUT_WRITE (R215): a DEC_FAIL with SOFT_DEST writes both arrays and says so. -/
def State.softOut (s : State) (n : Nat) (r : RdSec) (bytes : List Byte) : Bool × State :=
  if r.soft = 0xFFFFFFFF then (false, s) else (true, s.csWrite n (r.soft / 64 * 64) bytes)

/-- The arrays of a failed attempt (R215). -/
def State.softOf (s : State) (n : Nat) (r : RdSec) (a : Attempt) : Bool × State :=
  s.softOut n r (packLlr 18816 a.llr ++ packLlr 16672 (a.post.take infoLen))

/-- The information part goes to DEST when the status is GOOD (R222). -/
def State.deliver (s : State) (n : Nat) (r : RdSec) (status : Nat) (info : List Byte) : State :=
  if status = rsGood then s.csWrite n (r.dest / 64 * 64) (slice info 0 4168) else s

/-- A sector of the stream completes, with its counters (R223, R231). -/
def State.streamDone (s : State) (n : Nat) (r : RdSec) (status : Nat) (e : RdEnd) : State :=
  let s := (s.readDone n r status e).countSect n 17 e.corr
  if status = rsGood then s.countSect n (if r.slip = 0 then 1 else 2) 1
  else if status = rsDecFail then s.countSect n 8 1
  else if status = rsCrcFail then s.countSect n 9 1
  else if status = rsAddrFail then s.countSect n 10 1
  else if status = rsSyncMiss then s.countSect n 6 1
  else if status = rsAbandoned then s.countSect n 11 1
  else s

/-- LDPC_STAT after an attempt. -/
def State.lastAttempt (s : State) (n iter syn : Nat) : State :=
  (s.put (LDPC_STAT_LAST_ITER n) iter).put (LDPC_STAT_LAST_SYN n) syn

/-- A stream codeword's attempt ends for good (R212): a decoded one is judged and counted in its histogram bin, anything else is
DEC_FAIL. -/
def State.attemptEnd (s : State) (n : Nat) (r : RdSec) (a : Attempt) (slipSkip : Bool) : State :=
  let s := s.lastAttempt n a.iter a.syn
  if a.syn = 0 then
    let st := judge r a.info a.paw
    let s := s.count48 (HIST_LO n (a.iter - 1)) (HIST_HI n (a.iter - 1)) 1
    (s.deliver n r st a.info).streamDone n r st { RdEnd.plain with corr := a.corr, iter := a.iter }
  else
    let (soft, s) := s.softOf n r a
    s.streamDone n r rsDecFail { RdEnd.plain with soft := soft, iter := a.iter, slipSkip := slipSkip }

/-! ### Reading (R198, R213, R214, R221, R430) -/

/-- The Lomun queue entry whose action takes effect at window bit `pos` leaves the queue (R430). -/
def State.popAction (s : State) (n d pos : Nat) : State :=
  (s.modLmu n (fun l => { l with queue := l.queue.eraseP (fun e => decide (e.1 = d)), prevAt := some (pos : Int) })).lmStatus n

/-- The iteration limit on the fly, at most 8 while the die is Hot (R212, R525). -/
def State.otfLimit (s : State) (n : Nat) : Nat :=
  let i := iterLimit (s.get (LDPC_CFG_ITER_OTF n))
  if s.dieHot (n + 1) then min i 8 else i

/-- The attempt on a slot's samples as its marks framed them (R212). -/
def State.slotAttempt (s : State) (n limit : Nat) (r : RdSec) : Attempt :=
  s.attemptOn n ReadPath.plain r.paw (slotSamples r.pieces) limit 0 0

/-- DECODE_CUT (R214): with all five stream slots full the codeword being decoded stops at the end of its current iteration. Which iteration that is
depends on the time spent, which the model does not hold: it is free. -/
def State.decodeCut (s : State) (n : Nat) : State :=
  match (s.detOf n).slots with
  | r :: rest =>
    if 4 ≤ rest.length then
      let (k, s) := (s.modDet n (fun d => { d with slots := rest })).draw 21
      let a := s.slotAttempt n (1 + k % s.otfLimit n) r
      let (soft, s) := (s.lastAttempt n a.iter a.syn).softOf n r a
      ((s.noteBit (detErr n) 3).detCount n 1).streamDone n r rsDecFail { RdEnd.plain with soft := soft, cut := true, iter := a.iter }
    else s
  | [] => s

/-- An open sector that a further READ finds unfinished completes ABANDONED. -/
def State.endOpenRead (s : State) (n pos : Nat) : State := (s.passRead n pos).abandonRead n

/-- DCMD_READ (R430, R216-R218, R221): the read gate opens at the action's instant, window bit `pos` where no queue entry gives it, and the next descriptor is taken; the marks frame
the codeword. With no descriptor or no completion entry the sector is skipped; an invalid zone or a moved action completes
ABANDONED; without a mark the sector completes SYNC_MISS. -/
def dcmdRead (n : Nat) (late : Bool) (pos : Nat) (g : ReadSig) (s : State) : State :=
  let pos := s.actionAt n 1 pos
  let s := s.popAction n 1 pos
  if !s.flag (DET_CTL_EN n) then s
  else
    let s := s.endOpenRead n pos
    if !s.dqReady n || !s.cqRoom n then ((s.noteBit (detErr n) 4).detCount n 3)
    else
      let (r, s) := s.takeRead n
      if !s.rateOk n then (s.noteBit (detErr n) 6).streamDone n r rsAbandoned RdEnd.plain
      else if late then s.streamDone n r rsAbandoned RdEnd.plain
      else
        let s := (s.decodeCut n).countSect n 0 1
        let (r, s) := s.readHead n ReadPath.plain r g
        let s := if r.sm1 then s else s.countSect n 3 1
        let s := if r.sm2 then s else s.countSect n 4 1
        let s := if r.dist then s.countSect n 5 1 else s
        if r.sm1 || r.sm2 then
          s.modDet n (fun d => { d with op := some { r with start := pos, len := s.preLen n + 37680 }, gate := true })
        else s.streamDone n r rsSyncMiss RdEnd.plain

def execDcmdRead (ch : Ch) (late : Bool) (pos : Nat) (r : ReadSig) (s : State) : Host.Outcome State Fault Refusal :=
  .next (s.ifCh ch (fun s => (dcmdRead ch late pos r s).detStatus ch))

/-- DCMD_READ_CONT (R196, R198, R216, R430): the read gate opens for the sector's next fragment; a fourth fragment, or a moved
action, completes it ABANDONED. -/
def dcmdReadCont (n : Nat) (late : Bool) (pos : Nat) (g : ReadSig) (s : State) : State :=
  let pos := s.actionAt n 2 pos
  let s := (s.popAction n 2 pos).passRead n pos
  if !s.flag (DET_CTL_EN n) then s
  else
    match (s.detOf n).op with
    | none => s
    | some r =>
      if 3 ≤ r.frags then (s.noteBit (detErr n) 5).abandonRead n
      else if late then s.abandonRead n
      else
        let was := r.fmMiss
        let (r, s) := s.readFrag n ReadPath.plain { r with fmMiss := false } (s.wedgeBits n + pos - r.start) g
        let s := if r.fmMiss then s.countSect n 7 1 else s
        s.modDet n (fun d => { d with op := some { r with fmMiss := was || r.fmMiss, start := pos, len := r.len + 56 }, gate := true })

def execDcmdReadCont (ch : Ch) (late : Bool) (pos : Nat) (r : ReadSig) (s : State) :
    Host.Outcome State Fault Refusal := .next (s.ifCh ch (fun s => (dcmdReadCont ch late pos r s).detStatus ch))

/-- SPLIT ends the open read fragment (R196, R430): what has passed is done, its piece keeps the bits of part B that came before the split, and
the sector waits for its next fragment. A split in the sector head is carried out where it is placed; no bit of part B precedes it. -/
def State.splitRead (s : State) (n pos : Nat) : State :=
  let s := s.passRead n pos
  let d := s.detOf n
  match d.op with
  | some r =>
    if d.gate then
      let k := pos - r.start - (if r.frags ≤ 1 then s.preLen n + 2096 else 56)
      s.modDet n (fun d => { d with
        gate := false, op := some { r with start := pos, len := r.len - (pos - r.start), pieces := endPiece true r.pieces k } })
    else s
  | none => s

/-! ### Decoding (R212, R219, R220) -/

/-- The stream slot the decoder works on: the oldest, or the sector whose samples have just ended. -/
def State.nextSlot (s : State) (n : Nat) : Option RdSec × State :=
  let d := s.detOf n
  match d.slots with
  | r :: rest => (some r, s.modDet n (fun d => { d with slots := rest }))
  | [] =>
    match d.op with
    | some r =>
      if d.gate then (some { r with pieces := endPiece true r.pieces r.lastData }, s.modDet n (fun d => { d with op := none, gate := false }))
      else (none, s)
    | none => (none, s)

/-- DECODE_END (R212, R214, R219, R220): the attempt on the oldest stream slot ends. A first iteration above SLIP_THR with SLIP_EN
moves the codeword to the held slot; a held slot in use ends it DEC_FAIL with SLIP_SKIP. -/
def decodeEnd (n : Nat) (s : State) : State :=
  match s.nextSlot n with
  | (none, s) => s
  | (some r, s) =>
    let a := s.slotAttempt n (s.otfLimit n) r
    if a.slip && s.flag (DET_CTL_SLIP_EN n) then
      if (s.detOf n).held.isSome ∨ (s.detOf n).rcv.isSome then
        ((s.noteBit (detErr n) 2).detCount n 2).attemptEnd n r a true
      else (s.lastAttempt n a.iter a.syn).modDet n (fun d => { d with held := some r })
    else s.attemptEnd n r a false

def execDecodeEnd (ch : Ch) (s : State) : Host.Outcome State Fault Refusal :=
  .next (s.ifCh ch (fun s => (decodeEnd ch s).detStatus ch))

/-- SLIP_SEARCH (R219, R220): the search of the held codeword, in decoder time that no stream slot needs, ends at the fragment and shift that
decoded or with every try failed. -/
def slipSearch (n : Nat) (s : State) : State :=
  match (s.detOf n).held with
  | none => s
  | some r =>
    if !(s.detOf n).slots.isEmpty then s
    else
      let (code, a) := s.searchSlip n ReadPath.plain r.paw (slotSamples r.pieces) (s.slotAttempt n (s.otfLimit n) r)
      (s.modDet n (fun d => { d with held := none })).attemptEnd n { r with slip := code } a false

def execSlipSearch (ch : Ch) (s : State) : Host.Outcome State Fault Refusal :=
  .next (s.ifCh ch (fun s => (slipSearch ch s).detStatus ch))

/-! ### The retry ladder (R224-R229) -/

/-- Revolutions of steps 2 and 3 and offsets of step 5 (RCV_CFG). -/
def State.rereadN (s : State) (n : Nat) : Nat := min 8 (s.get (RCV_CFG_REREAD_N n))
def State.combN (s : State) (n : Nat) : Nat := max 2 (s.get (RCV_CFG_COMB_N n))
def State.offN (s : State) (n : Nat) : Nat := min 6 (s.get (RCV_CFG_OFF_N n))

/-- The recovery descriptor (R222, R225). -/
def State.rcvDesc (s : State) (n : Nat) : RdSec :=
  rdSec ((List.range 8).flatMap (fun i => toLe 4 (s.num (RCV_DESC n i))))

/-- The recovery ends (R225, R228, R229): the target is restored where step 5 moved it, and one completion with RCV set is
written, with RCV_DONE. -/
def State.rcvEnd (s : State) (n : Nat) (r : Rcv) (status : Nat) (e : RdEnd) : State :=
  let step := s.get (RCV_STAT_STEP n)
  let s := ((s.modDet n (fun d => { d with rcv := none })).put (RCV_STAT_BUSY n) 0).foreEnd (rcvUnits n)
  let s := if r.moved then ((s.setNum (LOOP_TARGET_LO n) r.origLo).setNum (LOOP_TARGET_HI n) r.origHi).writeCmd n 1 false else s
  let s := s.put (RCV_STAT_RESULT n) status
  let s := if status = rsGood then s.countSect n (if step = 2 then 12 else if step = 3 then 13 else 14) 1
    else if status = rsFolio then s.countSect n 15 1
    else if status = rsAborted then s
    else if status = rsAbandoned then s.countSect n 11 1
    else s.countSect n 16 1
  (((s.countSect n 17 e.corr).readDone n r.flagsNow status { e with rcv := true, soft := r.soft, iter := r.iter, step := step }).raise (chEvent n 1)).detStatus n

/-- Step 5's offset `k` (R228): +1, -1, +2, -2, +3, -3 OFF_STEP, added to TARGET, with a GO. -/
def State.offsetRead (s : State) (n : Nat) (r : Rcv) (k : Nat) : State :=
  let s := (s.setNum (LOOP_TARGET_LO n) r.origLo).setNum (LOOP_TARGET_HI n) r.origHi
  let d : Int := ((k / 2 + 1) * s.get (RCV_CFG_OFF_STEP n) * 2 ^ 20 : Nat)
  ((s.setTarget n (s.targetReg n + if k % 2 = 0 then d else -d)).writeCmd n 1 false).modDet n
    (fun d => { d with rcv := some { r with seek := true, off := k, added := 0, acc := [], path := ReadPath.plain, moved := true } })

/-- The ladder goes on to its next step from `from_` (R224): a step without revolutions is passed over, step 4 only for a sector
of a sequential-write zone, where the recovery ends with FOLIO; past LAST it ends with the last attempt's status. -/
def State.rcvStep (s : State) (n from_ : Nat) : State :=
  match (s.detOf n).rcv with
  | none => s
  | some r =>
    let ok (k : Nat) : Bool :=
      decide (from_ ≤ k) && decide (k ≤ r.last) &&
        ((k == 2 && decide (0 < s.rereadN n)) || k == 3 || (k == 4 && r.sec.seq) || (k == 5 && decide (0 < s.offN n)))
    match [2, 3, 4, 5].find? ok with
    | none => s.rcvEnd n r r.result RdEnd.plain
    | some 4 => (s.put (RCV_STAT_STEP n) 4).rcvEnd n r rsFolio RdEnd.plain
    | some k =>
      let r := { r with revs := 0, added := 0, acc := [], path := ReadPath.plain, off := 0, origLo := s.num (LOOP_TARGET_LO n), origHi := s.num (LOOP_TARGET_HI n) }
      let s := (s.put (RCV_STAT_STEP n) k).modDet n (fun d => { d with rcv := some r })
      if k = 5 then s.offsetRead n r 0 else s

/-- RCV_GO (R225): refused while a recovery runs, or when FIRST > LAST or either lies outside 2–5. -/
def rcvGo (n first last : Nat) (s : State) : State :=
  if s.flag (RCV_STAT_BUSY n) ∨ first < 2 ∨ 5 < last ∨ last < first then s.put (RCV_STAT_REJ n) 1
  else
    let d := s.rcvDesc n
    let r : Rcv := ⟨d, last, 0, 0, 0, 0, 0, false, false, rsDecFail, s.num TSTAMP, d, ReadPath.plain, [], false, 0, false, false⟩
    let s := (((s.foreHold (rcvUnits n)).put (RCV_STAT_BUSY n) 1).put (RCV_STAT_REVS n) 0).put (RCV_STAT_STEP n) first
    ((s.modDet n (fun d => { d with rcv := some r })).rcvStep n first).detStatus n

def execRcvGo (ch : Ch) (first last : Fin 8) (s : State) : Host.Outcome State Fault Refusal :=
  .next (s.access (ch + 1) (rcvGo ch first last))

/-- RCV_ABORT (R229): the recovery ends at the end of the revolution. -/
def rcvAbort (n : Nat) (s : State) : State :=
  s.modDet n (fun d => { d with rcv := d.rcv.map (fun r => { r with abort := true }) })

def execRcvAbort (ch : Ch) (s : State) : Host.Outcome State Fault Refusal := .next (s.access (ch + 1) (rcvAbort ch))

/-- After a revolution that did not end the recovery: the next offset, or the next step (R224, R228). -/
def State.rcvNext (s : State) (n : Nat) (r : Rcv) : State :=
  let step := s.get (RCV_STAT_STEP n)
  if step = 5 then
    if r.revs % 2 = 0 then
      let k := r.revs / 2
      if s.offN n ≤ k then (s.modDet n (fun d => { d with rcv := some r })).rcvEnd n r r.result RdEnd.plain
      else
        s.offsetRead n r k
    else s.modDet n (fun d => { d with rcv := some r })
  else
    let s := s.modDet n (fun d => { d with rcv := some r })
    if (if step = 2 then s.rereadN n else s.combN n) ≤ r.revs then s.rcvStep n (step + 1) else s

/-- The samples of a revolution added into the accumulator, 16 bits each (R218, R227). -/
def accumulate (acc : List (List Int)) (ps : List (Piece × List Int)) : List (List Int) :=
  (List.range ps.length).map (fun j =>
    match ps[j]? with
    | some (_, ys) => (List.range ys.length).map (fun k => clampS 16 ((acc.getD j []).getD k 0 + ys.getD k 0))
    | none => [])

/-- The average of the revolutions added, fragment by fragment (R227). -/
def averaged (acc : List (List Int)) (added : Nat) (ps : List (Piece × List Int)) : List (Piece × List Int) :=
  (List.range ps.length).filterMap (fun j => ps[j]?.map (fun p => (p.1, (acc.getD j []).map (fun y => roundDiv y added))))

/-- The samples of a piece from its frame less four on: what revolutions that were framed apart have in common (R217, R227). -/
def alignPiece (first : Bool) (p : Piece) : Piece × List Int :=
  let ys := p.samples.map BitVec.toInt
  let lo := p.frame - 4
  ({ p with frame := p.frame - lo, samples := [] }, (List.range (8 + pieceHead first + p.data)).map (fun k => ys.getD (lo + k) 0))

/-- One revolution's read of the sector: the head and each further fragment, with the bits of part B before each split. -/
def State.revRead (s : State) (n : Nat) (path : ReadPath) (r : RdSec) (v : RevRead) : RdSec × State :=
  let (r, s) := s.readHead n path { r with pieces := [], fmMiss := false } v.head
  let step (st : RdSec × State) (c : Nat × ReadSig) : RdSec × State :=
    st.2.readFrag n path { st.1 with pieces := endPiece true st.1.pieces c.1 } (st.2.coastBits n) c.2
  let (r, s) := (v.conts.take 2).foldl step (r, s)
  ({ r with pieces := endPiece true r.pieces r.lastData }, s)

/-- An attempt of a recovery on samples (R224, R227): up to ITER_RCV iterations, and a slip search where framing is suspected and SLIP_EN is 1. -/
def State.rcvAttempt (s : State) (n : Nat) (path : ReadPath) (paw : Nat) (ps : List (Piece × List Int)) : Nat × Attempt :=
  let a := s.attemptOn n path paw ps (iterLimit (s.get (LDPC_CFG_ITER_RCV n))) 0 0
  if a.slip && s.flag (DET_CTL_SLIP_EN n) then s.searchSlip n path paw ps a else (0, a)

/-- What a recovery makes of its attempt: the record keeps the last attempt, a failed one writes its soft output (R215), and one that passes its
checks delivers the information part. The status and the corrected bits. -/
def State.rcvJudge (s : State) (n : Nat) (r : Rcv) (slip : Nat) (a : Attempt) : Nat × Nat × Rcv × State :=
  let s := s.lastAttempt n a.iter a.syn
  let r := { r with iter := a.iter, flagsNow := { r.flagsNow with slip := slip } }
  if a.syn = 0 then
    let st := judge r.sec a.info a.paw
    (st, a.corr, { r with result := st }, s.deliver n r.sec st a.info)
  else
    let (soft, s) := s.softOf n r.sec a
    (rsDecFail, 0, { r with result := rsDecFail, soft := r.soft || soft }, s)

/-- Whether the time since GO leaves the recovery one revolution (R225). -/
def State.rcvInBudget (s : State) (n : Nat) (r : Rcv) : Bool :=
  let spent := ((s.num TSTAMP : Int) - r.start) % 0x100000000
  decide (60000000 ≤ ((s.get (RCV_BUDGET_MS n) * 1000 : Nat) - spent) * s.imgNat Image.rpm)

/-- A fourth fragment in a revolution's read completes the sector ABANDONED, and the recovery with it (R198). -/
def State.rcvFrag4 (s : State) (n : Nat) (r : Rcv) : State := (s.noteBit (detErr n) 5).rcvEnd n r rsAbandoned RdEnd.plain

/-- A revolution of the recovery's present step is read and decoded (R224, R226-R228): step 2 reads with the revolution's retry set and
decodes it; steps 3 and 5 add what was framed, and decode the average from the second added revolution on. -/
def State.rcvRevolve (s : State) (n : Nat) (r : Rcv) (v : RevRead) : State :=
  let step := s.get (RCV_STAT_STEP n)
  let path := if step = 2 then retrySet r.revs else ReadPath.plain
  let (sec, s) := (s.put (RCV_STAT_REVS n) (min 255 (s.get (RCV_STAT_REVS n) + 1))).revRead n path r.sec v
  let r := { r with revs := r.revs + 1, path := path, flagsNow := sec }
  if 2 < v.conts.length then s.rcvFrag4 n r
  else
    let ps := if step = 2 then slotSamples sec.pieces else
      (List.range sec.pieces.length).filterMap (fun j => sec.pieces[j]?.map (alignPiece (decide (j = 0))))
    if sec.sm1 || sec.sm2 then
      let r := if step = 2 then r else { r with added := r.added + 1, acc := accumulate r.acc ps }
      if step = 2 ∨ 2 ≤ r.added then
        let (slip, a) := s.rcvAttempt n path r.sec.paw (if step = 2 then ps else averaged r.acc r.added ps)
        let (st, corr, r, s) := s.rcvJudge n r slip a
        if st = rsGood then s.rcvEnd n r rsGood { RdEnd.plain with corr := corr } else s.rcvNext n r
      else s.rcvNext n r
    else s.rcvNext n { r with result := rsSyncMiss }

/-- RECOVERY_REVOLUTION (R224-R229): a revolution of the recovery, `v` being what its reads give. A forbidden write or ABORT ends the recovery at
the end of the current revolution. Before a revolution the budget must hold one. No revolution is made while the recovery waits for its unit
(R55), for the held slot, for SEEK_DONE (R228), or to begin while the die is Hot (R525). Under an invalid rate it ends ABANDONED (R194). -/
def recoveryRevolution (n : Nat) (v : RevRead) (s : State) : State :=
  match (s.detOf n).rcv with
  | none => s
  | some r =>
    if r.foul then (s.noteBit (detErr n) 0).rcvEnd n r rsAborted RdEnd.plain
    else if r.abort then s.rcvEnd n r rsAborted RdEnd.plain
    else if !s.rcvInBudget n r then s.rcvEnd n r rsTimeout RdEnd.plain
    else if r.revs = 0 ∧ s.get (RCV_STAT_REVS n) = 0 ∧ s.dieHot (n + 1) = true then s
    else if s.foreHas (rcvUnits n) = false then s.foreHold (rcvUnits n)
    else if (s.detOf n).held.isSome || r.seek then s
    else if !s.rateOk n then (s.noteBit (detErr n) 6).rcvEnd n r rsAbandoned RdEnd.plain
    else s.rcvRevolve n r v

def execRecoveryRevolution (ch : Ch) (r : RevRead) (s : State) : Host.Outcome State Fault Refusal :=
  .next (s.ifCh ch (recoveryRevolution ch r))

/-! ### Soft jobs (R230) -/

/-- SJ_GO: ignored while a job is queued or running. -/
def sjGo (n iter : Nat) (s : State) : State :=
  if s.flag (SJ_STAT_BUSY n) then s
  else (s.put (SJ_STAT_BUSY n) 1).modDet n (fun d => { d with soft := some (iterLimit iter) })

def execSjGo (ch : Ch) (iter : Fin 128) (s : State) : Host.Outcome State Fault Refusal := .next (s.access (ch + 1) (sjGo ch iter))

/-- The LLR a stored nibble stands for: its sign, and four times its magnitude (R215, R230). -/
def llrOf4 (x : Nat) : Int := if 8 ≤ x then 4 * ((x : Int) - 8) else -(4 * (x : Int))

/-- `k` LLRs in the format of R215 at an offset of CH SRAM. -/
def State.llrsAt (s : State) (n a k : Nat) : List Int :=
  (s.csBytes n a ((k + 1) / 2)).flatMap (fun b => [llrOf4 (b.toNat % 16), llrOf4 (b.toNat / 16)])

/-- The LLRs that a soft job decodes (R230): the block's channel LLRs, and with SJ_PRIOR.EN four times the priors on the information part. -/
def State.softInput (s : State) (n : Nat) (r : RdSec) : List Int :=
  let ch := s.llrsAt n (r.soft / 64 * 64) codeLen
  if bitOf (s.num (SJ_PRIOR n)) 31 then
    let pr := s.llrsAt n (64 * (s.num (SJ_PRIOR n) % 0x2000)) infoLen
    (List.range codeLen).map (fun k => ch.getD k 0 + if k < infoLen then pr.getD k 0 else 0)
  else ch

/-- SOFT_JOB_DONE (R230): a job waits while a stream slot holds an undecoded codeword. On GOOD the information part goes to DEST;
otherwise the block's a posteriori array is overwritten. -/
def softJobDone (n : Nat) (s : State) : State :=
  match (s.detOf n).soft with
  | none => s
  | some lim =>
    if !(s.detOf n).slots.isEmpty then s
    else
      let r := rdSec (s.csBytes n (32 * s.get (SJ_DESC_BASE n)) 32)
      let a := decodeAttempt (s.decodeLimits n lim false) (s.softInput n r)
      let st := if a.syn = 0 then judge r a.info a.paw else rsDecFail
      let s := s.lastAttempt n a.iter a.syn
      let s := if st = rsGood then s.deliver n r st a.info
        else s.csWrite n (r.soft / 64 * 64 + 18816) (packLlr 16672 (a.post.take infoLen))
      let s := s.modDet n (fun d => { d with soft := none })
      let s := ((s.put (SJ_STAT_BUSY n) 0).put (SJ_STAT_DONE n) 1).put (SJ_STAT_ITER n) a.iter
      (s.put (SJ_STAT_RESULT n) st).raise (chEvent n 4)

def execSoftJobDone (ch : Ch) (s : State) : Host.Outcome State Fault Refusal := .next (s.ifCh ch (softJobDone ch))

end Sys2Proof.Machine
end

