-- ==== Sys2Proof/Machine/Write.lean ====
section
/-!
DEFINITION. Writing and assist power (file 08): descriptors and encoding, the write commands of the Lomun program, the write gate, precompensation, the assist loop and its faults.
-/

namespace Sys2Proof.Machine

/-! ### The assist level (R241-R247) -/

/-- The head in use, 0 where none is. -/
def State.headIn (s : State) (n : Nat) : Nat := ((s.loopOf n).head).getD 0

/-- D_w of the head in use (R243): round(SLOPE × SP) + C. -/
def State.writeLevel (s : State) (n : Nat) : Int :=
  let k := s.headIn n
  roundDiv (s.get (SLOPE_V n k) * s.spInForce n : Nat) 16384 + sx 16 (s.num (CORR n k))

/-- An assist fault (R247): its bit with a Fault record, the fault event, the gate drops, the head is write-disabled. -/
def State.assistFault (s : State) (n bit : Nat) : State :=
  ((s.faultBit (asFault n) bit sevFault clsCorrected noInst 0).setWdis n).dropGate n

/-- A mode hop (R246): AS_STAT.HOP, HOP_CNT, HOP of the sector; with HOP_ACT 1 the gate drops and the sector is cut. -/
def State.modeHop (s : State) (n : Nat) : State :=
  let s := (s.put (AS_STAT_HOP n) 1).countSat (HOP_CNT n) (AS_CNT_SAT_SAT n) 0 1
  let s := s.modWru n (fun u => { u with op := u.op.map (fun o => { o with hop := true }) })
  if s.flag (AS_CTL_HOP_ACT n) then s.dropGate n else s

/-- Channel bits of the 0.48 µs over which a preamp averages AMON (R254), at the rate in force. -/
def State.amonBits (s : State) (n : Nat) : Nat := 480 * s.get (DZ_RATE_KHZ n (s.get (DET_STAT_ZONE n))) / 1000000

/-- A time PAn_WG was 1 holds the averaging window that starts at window bit `at_` wholly, from SETTLE_B bits after its rise on (R243). Where an
interlock dropped the gate the bit is open, and `held` says whether the window came before it. -/
def GateSpan.holds (g : GateSpan) (settle len : Nat) (held : Bool) (at_ : Int) : Bool :=
  decide (g.rose + settle ≤ at_) && (match g.fell with | some f => decide (at_ + len ≤ f) | none => true) && (!g.dropped || held)

/-- AMON of the last good reply is a usable sample (R243): its averaging window, which starts at window bit `at_`, lies wholly within an open write
gate and starts at least SETTLE_B bits after the gate rose. -/
def State.amonUsable (s : State) (n : Nat) (held : Bool) (at_ : Int) : Bool :=
  (s.pauOf n).fresh && s.assisted n && s.flag (AS_CTL_EN n) &&
    (s.wruOf n).spans.any (fun g => g.holds (8 * bitsOf (s.num (AS_LOOP n)) 15 8) (s.amonBits n) held at_)

/-- ASSIST_SAMPLE (R243, R246, R247): AMON of the last good reply, averaged from window bit `at_` on, if it is a usable sample. Whether it came before the
gate was dropped is free (kind 69). -/
def assistSample (n : Nat) (at_ : Int) (s : State) : State :=
  let (held, s) := s.draw 69
  if !s.amonUsable n (decide (held % 2 = 1)) at_ then s
  else
    let amon := s.get (PA_STAT_AMON n)
    let s := s.modPau n (fun p => { p with fresh := false })
    let k := s.headIn n
    let sp := s.spInForce n
    let sl := s.get (SLOPE_V n k)
    let d : Int := (sp : Int) - amon
    let dw := s.writeLevel n
    let hop := match (s.asuOf n).last with
      | some (a, w) =>
        decide (s.get (AS_LOOP_HOP_THR n) * sp < 2048 * ((amon : Int) - a).natAbs) && decide (4096 * (dw - w).natAbs < dw.natAbs)
      | none => false
    let low := decide (amon * 256 < s.get (AS_LIM_MON_MIN n) * sp)
    let c := sx 16 (s.num (CORR n k)) + roundDiv ((s.get (AS_LOOP_KI n) * sl : Nat) * d) (65536 * 16384)
    let bound := s.get (AS_LIM_SAT_LIM n) * sl * sp
    let c' := clampS 16 (clampI (-((bound / (256 * 16384) : Nat) : Int)) (bound / (256 * 16384) : Nat) c)
    let s := s.modWru n (fun u => { u with op := u.op.map (fun o => { o with asSum := o.asSum + d, asN := o.asN + 1 }) })
    let s := s.setNum (CORR n k) (toBits 16 c')
    let lows := if low then (s.asuOf n).low + 1 else 0
    let s := s.modAsu n (fun a => { a with last := some (amon, dw.toNat), low := lows })
    let s := if s.flag (WR_STAT_GATE n) then s.assistOut n (s.writeLevel n).toNat else s
    let s := if hop then s.modeHop n else s
    let s := if 4 ≤ lows then s.assistFault n 0 else s
    if bound ≤ c.natAbs * (256 * 16384) then s.assistFault n 1 else s

def execAssistSample (ch : Ch) (at_ : Int) (s : State) : Host.Outcome State Fault Refusal := .next (s.ifCh ch (assistSample ch at_))

/-- SETPOINT_UPDATE (R242). -/
def execSetpointUpdate (ch : Ch) (s : State) : Host.Outcome State Fault Refusal := .next (s.ifCh ch (fun s => s.updateSP ch))

/-- AS_PREHEAT_WRITE (R11, AS_PREHEAT): every shape is LEAD (64–4,096), RAMP = LEAD / 4, PH_LEVEL, TAIL 32, CONT_LEAD
min(LEAD, 64). -/
def asPreheatWrite (n : Nat) (value : Word) (s : State) : State :=
  let s := s.setRW (AS_PREHEAT n) value
  let lead := max 64 (min 4096 (s.get (AS_PREHEAT_LEAD n)))
  (List.range 8).foldl (fun s i =>
    ((s.setNum (SHAPE_A n i) (lead * 0x10000 + s.get (AS_PREHEAT_PH_LEVEL n))).setNum (SHAPE_B n i) (lead / 4 * 0x10000 + 32)).setNum
      (SHAPE_C n i) (min lead 64)) s

def execAsPreheatWrite (ch : Ch) (value : Word) (s : State) : Host.Outcome State Fault Refusal :=
  .next (s.access (ch + 1) (asPreheatWrite ch value))

/-! ### Encoding (R232-R235) -/

/-- CODEWORD_ENCODE (R232): a descriptor is consumed when a buffer and a completion entry are free. -/
def codewordEncode (n : Nat) (s : State) : State :=
  let u := s.wruOf n
  if s.flag (WR_CTL_EN n) && s.wqReady n && s.wcRoom n && decide (u.bufs.length + ofBool u.op.isSome < 2) then
    let (c, s) := s.takeWrite n
    (s.modWru n (fun u => { u with bufs := u.bufs ++ [c] })).put (WR_STAT_ENC_BUSY n) 1
  else s

def execCodewordEncode (ch : Ch) (s : State) : Host.Outcome State Fault Refusal := .next (s.ifCh ch (codewordEncode ch))

/-- The information part at a descriptor's SRC. -/
def State.infoAt (s : State) (n : Nat) (c : WrCode) : List Byte := s.csBytes n (c.src / 64 * 64) 4168

/-- The CRC supplied at SRC is wrong (R200, R234); with CRC_GEN 1 WRITE computes it and nothing is checked. -/
def State.suppliedCrcBad (s : State) (n : Nat) (c : WrCode) : Bool :=
  let b := s.infoAt n c
  !c.crcGen && decide (crc64 (2 ^ 64 - 1 - c.seed) (b.take 4160) ≠ fieldLe b 4160 8)

/-- The information part as written (R234): that at SRC, with the CRC-64 computed where CRC_GEN is 1. -/
def State.infoOf (s : State) (n : Nat) (c : WrCode) : List Byte :=
  let b := s.infoAt n c
  if c.crcGen then b.take 4160 ++ toLe 8 (crc64 (2 ^ 64 - 1 - c.seed) (b.take 4160)) else b

/-- A codeword encoded (R199, R202, R234): the information part, the PAW and the parity, scrambled. -/
def State.encoded (s : State) (n : Nat) (c : WrCode) : WrCode :=
  { c with enc := true, crcBad := s.suppliedCrcBad n c, bits := scramble c.paw (codewordOf (s.infoOf n c) c.paw) }

/-- The oldest codeword not yet encoded is encoded. -/
def encodeFirst (enc : WrCode → WrCode) : List WrCode → List WrCode
  | [] => []
  | c :: t => if c.enc then c :: encodeFirst enc t else enc c :: t

/-- ENCODE_DONE (R234, R235). -/
def encodeDone (n : Nat) (s : State) : State :=
  let s := s.modWru n (fun u => { u with bufs := encodeFirst (s.encoded n) u.bufs })
  s.put (WR_STAT_ENC_BUSY n) (ofBool ((s.wruOf n).bufs.any (fun c => !c.enc)))

def execEncodeDone (ch : Ch) (s : State) : Host.Outcome State Fault Refusal := .next (s.ifCh ch (encodeDone ch))

/-! ### The write commands (R236, R239, R245, R249, R553) -/

/-! #### What PAn_WD sends (R195, R196, R238) -/

/-- `n` bits of 1100b repeated. -/
def alternating (n : Nat) : List Bool := (List.range n).map (fun i => decide (i % 4 < 2))

/-- Channel bits of a fragment before its bits of part B: PRE, SM1, part A and SM2, or RPRE and FM (R195, R196). -/
def State.fragHead (s : State) (n : Nat) (first : Bool) : Nat := if first then s.preLen n + 2096 else 56

/-- The channel bits of a sector's next fragment that nothing splits, each field msb first (R195, R196). -/
def State.fragmentBits (s : State) (n : Nat) (o : WrOpen) : List Bool :=
  (if o.begun ≤ 1 then
    alternating (s.preLen n) ++ bitsMsb 24 (s.num (SM1_PAT n)) ++ fitBits 2048 o.code.bits ++ bitsMsb 24 (s.num (SM2_PAT n))
  else alternating 40 ++ bitsMsb 16 (s.num (FM_PAT n))) ++ o.left ++ alternating 16

/-- t_k: a transition falls between bits k - 1 and k; PAn_WD is steady 1 outside the bits sent in a gate interval (R238, R239). -/
def transitionAt (line : List Bool) (k : Int) : Bool :=
  let b (i : Int) : Bool := if i < 0 then true else line.getD i.toNat true
  xor (b k) (b (k - 1))

/-- The delay of each transition by the entry of its context, clamped to ±0.5 bit, in 1/64 bit (R238); 0 where there is none. -/
def precompDelays (tab : Nat → Int) (line : List Bool) : List Int :=
  (List.range line.length).map (fun n =>
    let t (j : Int) : Nat := ofBool (transitionAt line ((n : Int) + j))
    if t 0 = 1 then clampI (-32) 32 (tab (8 * t (-2) + 4 * t (-1) + 2 * t 1 + t 2)) else 0)

/-- What PAn_WD sends in this gate interval, from window bit `at_` on. -/
def State.sendBits (s : State) (n at_ : Nat) (bits : List Bool) : State :=
  let tab (c : Nat) : Int := sx 7 (s.num (PRECOMP n c))
  s.modWru n (fun u => { u with line := bits, lineAt := at_, delays := precompDelays tab bits })

/-- The bits of a fragment that starts at window bit `pos` follow those sent before under the same gate (R238, R239). Between them PAn_WD is 1, the model's
choice for an open gate (notes/assumptions/28.md). -/
def WriteU.joinBits (u : WriteU) (pos : Nat) (bits : List Bool) : List Bool :=
  u.line.take (pos - u.lineAt) ++ List.replicate (pos - u.lineAt - u.line.length) true ++ bits

/-- The level of PAn_WD at window bit k: steady 1 while the gate is closed (R239). -/
def State.writeData (s : State) (n k : Nat) : Bool :=
  let u := s.wruOf n
  if s.flag (WR_STAT_GATE n) && decide (u.lineAt ≤ k) then u.line.getD (k - u.lineAt) true else true

/-! #### The assist output about the write gate (R245) -/

/-- The code of update `i` of a ramp of `k` updates from the pre-heat level to D_w. -/
def rampCode (k ph dw i : Nat) : Nat := if k ≤ i then dw else (roundDiv ((ph : Int) * (k - i : Nat) + (dw : Int) * i) k).toNat

/-- The codes of pre-heat and ramp, with the window bits at which they begin: the pre-heat level from `start`, a linear ramp to D_w over the last
`ramp` bits before `rise`, one step per update of 8 bits, and D_w from `rise` on. A start within the ramp takes the ramp's value there. -/
def preheatWave (start rise : Int) (ramp ph dw : Nat) : List (Int × Nat) :=
  let k := ramp / 8
  let first := if start < rise - ramp then ph else rampCode k ph dw ((start - (rise - ramp)).toNat / 8)
  (start, first) :: ((List.range k).filterMap (fun (i : Nat) =>
    let b := rise - ramp + 8 * (i : Int)
    if start < b then some (b, rampCode k ph dw i) else none)) ++ (if start < rise then [(rise, dw)] else [])

/-- The gate of the next sector rises so soon after the last fall that it stays open between (R239). -/
def State.joins (s : State) (n : Nat) (rise : Int) : Bool :=
  match (s.wruOf n).fallAt with
  | some f => decide (rise - f ≤ (s.get (WG_TIMING_WG_LEAD n) + bitsOf (s.num (WG_TIMING n)) 15 8 : Nat))
  | none => false

/-- The write gate rises WG_LEAD bits before a fragment's first bit at window bit `pos` (R239): PAn_WG is 1, the assist output is D_w after
pre-heat and ramp (R245), which a gate that stayed open does not have, and the completion carries PH_CLIP where pre-heat starts late or
would start before the end of servo bit 151, HTR_RD where the head was not at write power for HTR_SETTLE µs (R249). `entered`: the window
bit at which a queue entry came that was too late for its pre-heat (R430). -/
def State.openGate (s : State) (n pos : Nat) (entered : Option Int) : State :=
  match (s.wruOf n).op with
  | none => s
  | some o =>
    let new := decide (o.begun ≤ 1)
    let s := if new then s.takeSP n else s
    let sh := o.code.shape
    let lead := if new then max 64 (min 4096 (s.get (SHAPE_A_LEAD n sh))) else max 16 (s.get (SHAPE_C_CONT_LEAD n sh))
    let ramp := min lead (bitsOf (s.num (SHAPE_B n sh)) 28 16)
    let rise : Int := (pos : Int) - s.get (WG_TIMING_WG_LEAD n)
    let first : Int := -(s.get (DZ_FMT_GAP_POST n (s.get (DET_STAT_ZONE n))) : Int)
    let joined := s.joins n rise
    let clip := s.assisted n && !joined && (entered.isSome || decide (rise - lead < first))
    let start := max first (match entered with | some e => max e (rise - lead) | none => rise - lead)
    let dw := min 61440 (s.writeLevel n).toNat
    let ph := min 61440 (roundDiv ((s.num (SHAPE_A n sh) % 0x10000 : Nat) * (s.writeLevel n).toNat : Nat) 32768).toNat
    let f := s.fluOf n
    let cold := !(f.atWrite.contains (s.headIn n)) || decide (((s.num TSTAMP : Int) - f.changed) % 0x100000000 < (s.get (FLY_CFG_HTR_SETTLE n) : Int))
    let s := if joined then s.sendBits n (s.wruOf n).lineAt ((s.wruOf n).joinBits pos (s.fragmentBits n o))
      else s.sendBits n pos (s.fragmentBits n o)
    let s := if joined then s.modSpan n (fun g => { g with fell := none }) else s.modWru n (fun u => { u with spans := ⟨rise, none, false⟩ :: u.spans })
    let s := s.modWru n (fun u =>
      { u with
        wgSeen := true
        op := some { o with emit := true, phClip := o.phClip || clip, htrRd := o.htrRd || cold, start := pos } })
    let s := if s.assisted n && s.flag (AS_CTL_EN n) then
        s.modAsu n (fun a => { a with wave := a.wave ++ (if joined then [(rise, dw)] else preheatWave start rise ramp ph dw) })
      else s
    (s.put (WR_STAT_GATE n) 1).assistOut n dw

/-- The write gate falls WG_TRAIL bits after the last bit of POST or FPOST, which ends at window bit `last` (R239), and the assist output ends with
its tail, or at the next servo gate (R245); where the next sector follows so soon, the gate stays open. -/
def State.gateFalls (s : State) (n last : Nat) : State :=
  let fall := last + bitsOf (s.num (WG_TIMING n)) 15 8
  let z := s.get (DET_STAT_ZONE n)
  let s := s.modSpan n (fun g => { g with fell := some (fall : Int) })
  let stays := match s.nextWrite n with
    | some p => s.joins n (p - s.get (WG_TIMING_WG_LEAD n))
    | none => false
  if stays then s
  else
    let tail := min (fall + s.num (SHAPE_B n ((s.wruOf n).op.map (fun o => o.code.shape)|>.getD 0)) % 256) (s.windowBits n + s.get (DZ_FMT_GAP_PRE n z))
    let s := if s.assisted n && s.flag (AS_CTL_EN n) then s.modAsu n (fun a => { a with wave := a.wave ++ [((tail : Int), 0)] }) else s
    (s.put (WR_STAT_GATE n) 0).assistOut n 0

/-- A gate left open for a sector that does not open it falls. -/
def State.shutGate (s : State) (n : Nat) : State := (s.put (WR_STAT_GATE n) 0).assistOut n 0

/-- Which condition of R553 decides a sector that its write command reaches: (status, bit of WR_ERR). -/
def State.writeVerdict (s : State) (n : Nat) (c : WrCode) : Option (Nat × Option Nat) :=
  if !s.rateOk n then some (wsAbandoned, none)
  else if (s.detOf n).gate then some (wsAbandoned, some 5)
  else if c.crcBad then some (wsCrcBad, some 2)
  else if s.headWdis n then some (wsHeadWdis, none)
  else if !c.enc then some (wsSkipped, some 3)
  else if s.gateHeld n then some (wsSkipped, none)
  else none

/-- A bit of WR_ERR: a wrong supplied CRC writes a Warn record (R234), the others a Note. -/
def State.wrError (s : State) (n bit : Nat) : State :=
  s.faultBit (wrErr n) bit (if bit = 2 then sevWarn else sevNote) clsCorrected noInst 0

/-- The codeword a write command acts on (R232): the oldest buffer, or else a descriptor consumed at the command, not encoded;
none where no descriptor or no completion entry is left. -/
def State.nextCode (s : State) (n : Nat) : Option WrCode × State :=
  match (s.wruOf n).bufs with
  | c :: rest => (some c, s.modWru n (fun u => { u with bufs := rest }))
  | [] =>
    if s.wqReady n && s.wcRoom n then
      let (c, s) := s.takeWrite n
      (some c, s)
    else (none, s)

/-- A WRITE supersedes an earlier sector that is still open (R236): an output being emitted stops at that instant, and the sector completes
ABANDONED. -/
def State.supersede (s : State) (n pos : Nat) : State :=
  match (s.wruOf n).op with
  | none => s
  | some o => (if o.emit then s.modSpan n (fun g => { g with fell := some (pos : Int) }) else s).endWrite n wsAbandoned

/-- DCMD_WRITE (R232, R236, R430, R553): an earlier open sector is superseded; then the descriptor, the conditions of R553, and
the emission of PRE at the action's instant, window bit `pos` where no queue entry gives it. A moved action that meets no condition completes ABANDONED. -/
def dcmdWrite (n : Nat) (late : Bool) (pos : Nat) (entered : Option Int) (s : State) : State :=
  let pos := s.actionAt n 3 pos
  let s := (s.servoEnd n).popAction n 3 pos
  if !s.flag (WR_CTL_EN n) then s
  else
    let s := (s.supersede n pos).passRead n pos
    match s.nextCode n with
    | (none, s) => ((s.wrError n 1).countSat (WNO_DESC_CNT n) (WCNT_SAT_SAT n) 0 1).shutGate n
    | (some c, s) =>
      match s.writeVerdict n c with
      | some (st, bit) =>
        let s := if !s.rateOk n then s.noteBit (detErr n) 6 else s
        let s := match bit with
          | some b => s.wrError n b
          | none => s
        (s.writeDone n (unwritten c) st).shutGate n
      | none =>
        if late then (s.writeDone n (unwritten c) wsAbandoned).shutGate n
        else
          let s := s.modWru n (fun u => { u with op := some { unwritten c with begun := 1 } })
          s.openGate n pos entered

def execDcmdWrite (ch : Ch) (late : Bool) (pos : Nat) (entered : Option Int) (s : State) : Host.Outcome State Fault Refusal :=
  .next (s.ifCh ch (dcmdWrite ch late pos entered))

/-- DCMD_WRITE_CONT (R196, R236, R240, R430): RPRE of the sector's next fragment; a fourth fragment, an open read gate or a moved
action completes it ABANDONED, a gate held closed CUT. -/
def dcmdWriteCont (n : Nat) (late : Bool) (pos : Nat) (entered : Option Int) (s : State) : State :=
  let pos := s.actionAt n 4 pos
  let s := (s.servoEnd n).popAction n 4 pos
  if !s.flag (WR_CTL_EN n) then s
  else
    match (s.wruOf n).op with
    | none => s
    | some o =>
      if o.emit then s
      else if 3 ≤ o.begun then (s.wrError n 4).endWrite n wsAbandoned
      else if (s.detOf n).gate then (s.wrError n 5).endWrite n wsAbandoned
      else if late then s.endWrite n wsAbandoned
      else if s.gateHeld n || s.headWdis n then s.endWrite n wsCut
      else
        let s := s.modWru n (fun u => { u with op := u.op.map (fun o => { o with begun := o.begun + 1 }) })
        s.openGate n pos entered

def execDcmdWriteCont (ch : Ch) (late : Bool) (pos : Nat) (entered : Option Int) (s : State) : Host.Outcome State Fault Refusal :=
  .next (s.ifCh ch (dcmdWriteCont ch late pos entered))

/-- SPLIT ends the open written fragment at window bit `pos` (R196, R430): FPOST is sent from there, and the rest of part B is left for the next
fragment. -/
def State.splitWrite (s : State) (n pos : Nat) : State :=
  match (s.wruOf n).op with
  | some o =>
    if o.emit then
      let u := s.wruOf n
      let s := s.sendBits n u.lineAt (u.line.take (pos - u.lineAt) ++ alternating 16)
      let left := o.left.drop (pos - o.start - s.fragHead n (decide (o.begun ≤ 1)))
      (s.modWru n (fun u => { u with op := some { o with emit := false, frags := o.frags + 1, left := left } })).gateFalls n (pos + 16)
    else s
  | none => s

/-- DCMD_SPLIT (R430): the open fragment ends, of a write and of a read. -/
def execDcmdSplit (ch : Ch) (pos : Nat) (s : State) : Host.Outcome State Fault Refusal :=
  .next (s.ifCh ch (fun s => (((s.popAction ch 5 (s.actionAt ch 5 pos)).splitWrite ch (s.actionAt ch 5 pos)).splitRead ch (s.actionAt ch 5 pos)).detStatus ch))

/-- DCMD_CLOSE (R430): every data gate closes and the open sector completes ABANDONED. -/
def execDcmdClose (ch : Ch) (s : State) : Host.Outcome State Fault Refusal :=
  .next (s.ifCh ch (fun s => ((s.popAction ch 6 (s.actionAt ch 6 0)).closeGates ch).detStatus ch))

/-- SECTOR_WRITE_END (R232, R237): the last bit has left; the sector completes GOOD. -/
def sectorWriteEnd (n : Nat) (s : State) : State :=
  match (s.wruOf n).op with
  | some o =>
    if o.emit then
      let s := s.modWru n (fun u => { u with op := some { o with emit := false, frags := o.frags + 1, left := [] } })
      (s.gateFalls n ((s.wruOf n).lineAt + (s.wruOf n).line.length)).endWrite n wsGood
    else s
  | none => s

def execSectorWriteEnd (ch : Ch) (s : State) : Host.Outcome State Fault Refusal := .next (s.ifCh ch (sectorWriteEnd ch))

/-- WR_POLICY_WRITE (R11, R238): the overrides of PRECOMP end, and the table takes effect at the next tick. -/
def wrPolicyWrite (n : Nat) (v : Word) (s : State) : State :=
  let s := s.endOverrides (fun a => decide (PRECOMP n 0 ≤ a) && decide (a ≤ PRECOMP n 15))
  (s.setRW (WR_POLICY n) v).modWru n (fun u => { u with precomp := true })

def execWrPolicyWrite (ch : Ch) (value : Word) (s : State) : Host.Outcome State Fault Refusal :=
  .next (s.access (ch + 1) (wrPolicyWrite ch value))

end Sys2Proof.Machine
end

