-- ==== Sys2Proof/Machine/FlyHeight.lean ====
section
/-!
DEFINITION. Fly height and the preamp port (file 08): heater powers, contact calibration, slots, command and reply frames, and the faults a preamp reports.
-/

namespace Sys2Proof.Machine

/-! ### Heater powers (R248, R249) -/

/-- CLR / EFF in U8.4 mW: U8.8 nm over U4.12 nm/mW. -/
def clearancePower (clr eff : Nat) : Int := roundDiv (clr * 256 : Nat) eff

/-- The derived heater powers of a die's heads. -/
def isPower (n a : Nat) : Bool := (List.range 6).any (fun k => decide (a = FLY_PR n k) || decide (a = FLY_PW n k))

/-- FLY derives UNCAL of every head, and P_R and P_W but where an Expert write has overridden one (R11, R248). -/
def State.deriveFly (s : State) (n : Nat) : State :=
  (List.range 6).foldl (fun s k =>
    let pc := s.get (FLY_PC_PC n k)
    let eff := s.get (FLY_EFF_EFF n k)
    let un := s.get (FLY_STAT_UNCAL n)
    if pc = 0 ∨ eff = 0 then
      ((s.derivedNum (FLY_PR n k) 0).derivedNum (FLY_PW n k) 0).put (FLY_STAT_UNCAL n) (setBitN un k)
    else
      let pr := clampI 0 4095 ((pc : Int) - clearancePower (s.get (FLY_CLR_CLR_R n k)) eff)
      let pw := clampI 0 4095 ((pc : Int) - clearancePower (s.get (FLY_CLR_CLR_W n k)) eff - s.get (FLY_PROT_PROT n k))
      ((s.derivedNum (FLY_PR n k) pr.toNat).derivedNum (FLY_PW n k) pw.toNat).put (FLY_STAT_UNCAL n) (clrBitN un k)) s

/-- FLY_DERIVE (R11, R248): a write to FLY_CLR, FLY_EFF or FLY_PROT of a head, which ends the overrides of the heads' powers. -/
def flyDerive (n reg k : Nat) (value : Word) (s : State) : State :=
  ((s.setRW (if reg = 0 then FLY_CLR n k else if reg = 1 then FLY_EFF n k else FLY_PROT n k) value).endOverrides (isPower n)).deriveFly n

def execFlyDerive (ch : Ch) (reg : Fin 3) (head : Fin 6) (value : Word) (s : State) : Host.Outcome State Fault Refusal :=
  .next (s.access (ch + 1) (flyDerive ch reg head value))

/-- FLY_REQ_WRITE (R249): a change is sent in the next slot available. -/
def flyReqWrite (n : Nat) (value : Word) (s : State) : State :=
  let old := s.get (FLY_REQ_WRITE n)
  let s := s.setRW (FLY_REQ n) value
  if s.get (FLY_REQ_WRITE n) = old then s else s.modPau n (fun p => { p with htrDue := true, htrHead := none })

def execFlyReqWrite (ch : Ch) (value : Word) (s : State) : Host.Outcome State Fault Refusal :=
  .next (s.access (ch + 1) (flyReqWrite ch value))

/-- The heater power of head k, U8.4 mW: that of a running contact calibration (P_R before its next sweep), 0 with FLY off, else P_W or P_R (R249, R250). -/
def State.heater (s : State) (n k : Nat) : Nat :=
  match (s.fluOf n).cal with
  | some c => if c.head = k then (if c.back then s.get (FLY_PR_P n k) else c.power) else 0
  | none =>
    if !s.flag (FLY_CTL_EN n) then 0
    else if s.flag (FLY_REQ_WRITE n) then s.get (FLY_PW_P n k) else s.get (FLY_PR_P n k)

/-! ### Contact calibration (R250) -/

/-- The start power of a sweep: P_R - 5 mW, or 0 if the head is uncalibrated. -/
def State.startPower (s : State) (n k : Nat) : Nat :=
  if bitOf (s.get (FLY_STAT_UNCAL n)) k then 0 else s.get (FLY_PR_P n k) - 80

/-- Samples of ECS start afresh and the heater changes in the next slot. -/
def State.ecsStart (s : State) (n : Nat) : State := s.modPau n (fun p => { p with htrDue := true, ecsSum := 0, ecsN := 0 })

/-- FLY_GO (R250): ignored while one runs; LOOP must be in FOLLOW on the head, otherwise CREJ. The calibration is foreground work that asks for its
die's units (R55). -/
def flyGo (n k : Nat) (s : State) : State :=
  if s.flag (FLY_STAT_BUSY n) then s
  else if s.mode n = mFollow ∧ (s.loopOf n).head = some k then
    let p := s.startPower n k
    let s := (s.put (FLY_STAT_BUSY n) 1).modFlu n (fun f => { f with cal := some ⟨k, [], p, 0, 0, false, 0, false⟩ })
    ((s.foreHold (flyUnits n)).ecsStart n).dropGate n
  else s.put (FLY_STAT_CREJ n) 1

def execFlyGo (ch : Ch) (head : Fin 8) (s : State) : Host.Outcome State Fault Refusal := .next (s.access (ch + 1) (flyGo ch head))

/-- FLY_ABORT (R250): the calibration ends at the end of the revolution. -/
def flyAbort (n : Nat) (s : State) : State := s.modFlu n (fun f => { f with cal := f.cal.map (fun c => { c with abort := true }) })

def execFlyAbort (ch : Ch) (s : State) : Host.Outcome State Fault Refusal := .next (s.access (ch + 1) (flyAbort ch))

/-- A contact calibration ends (R250): DONE, its event, and the heater back at P_R. -/
def State.flyEnd (s : State) (n : Nat) : State :=
  let s := ((s.modFlu n (fun f => { f with cal := none })).put (FLY_STAT_BUSY n) 0).foreEnd (flyUnits n)
  ((s.put (FLY_STAT_DONE n) 1).ecsStart n).raise (chEvent n 12)

/-- An adopted contact power (R250): saved in the NV store, then in force; the powers follow. -/
def State.flyAdopt (s : State) (n k p : Nat) : State :=
  let c := (s.get (FLY_CCOUNT_COUNT n) + 1) % 0x1000000
  let s := s.nvsWrite (0x1A800 + 0x20 * n + 2 * k) (toLe 2 p)
  let s := s.nvsWrite (0x1A800 + 0x20 * n + 0x10) (toLe 3 c ++ toLe 5 s.optime)
  let s := ((s.setNum (FLY_PC n k) p).setNum (FLY_CCOUNT n) c).setNum (FLY_CTIME_LO n) (s.optime % 0x100000000)
  (s.setNum (FLY_CTIME_HI n) (s.optime / 0x100000000 % 256)).deriveFly n

/-- DISAGREE with its Warn record (R250). -/
def State.flyDisagree (s : State) (n : Nat) : State :=
  let s := s.put (FLY_STAT_DISAGREE n) 1
  s.log (faultRecord (FLY_STAT n) (s.rd (FLY_STAT n)) 29 sevWarn clsCorrected noInst 0)

/-- The results of the sweeps made so far decide (R59, R250): adopt, disagree, or sweep again (none). -/
def sweepVerdict (tol : Nat) (rs : List (Option Nat)) : Option (Option Nat) :=
  let near (a b : Nat) : Bool := decide (((a : Int) - b).natAbs ≤ tol)
  match rs with
  | [some a, some b] => if near a b then some (some b) else none
  | [some a, some b, some c] => if near a c || near b c then some (some c) else some none
  | [_] => none
  | [] => none
  | _ => some none

/-- A sweep ends with its result (R250): the heater returns to P_R in the next slot, and a sweep to follow heats at its start power from the slot
after it. -/
def State.sweepEnd (s : State) (n : Nat) (c : FlyCal) (r : Option Nat) : State :=
  let rs := c.results ++ [r]
  match sweepVerdict (s.get (FLY_CFG_CTOL n)) rs with
  | some (some p) => ((s.flyAdopt n c.head p).flyEnd n)
  | some none => (s.flyDisagree n).flyEnd n
  | none => (s.modFlu n (fun f => { f with cal := some { c with results := rs, power := s.startPower n c.head, revs := 0, base := 0, baseN := 0, back := true } })).ecsStart n

/-- The mean of `n` samples of sum `sum` is at least RATIO (U2.6) times the baseline's mean (R250); without a sample there is no contact. -/
def contactMade (ratio base baseN sum n : Nat) : Bool := decide (0 < n) && decide (0 < baseN) && decide (ratio * base * n ≤ 64 * sum * baseN)

/-- CONTACT_SWEEP_STEP (R250): at the end of a revolution its samples of ECS join the baseline, or its mean shows contact, the end of the
range, or one more step of power. No revolution counts while the calibration waits for its unit (R55). -/
def contactSweepStep (n : Nat) (s : State) : State :=
  match (s.fluOf n).cal with
  | none => s
  | some c =>
    if c.abort then s.flyEnd n
    else if s.foreHas (flyUnits n) = false then (s.foreHold (flyUnits n)).ecsStart n
    else
      let p := s.pauOf n
      let step (c : FlyCal) : State :=
        (s.modFlu n (fun f => { f with cal := some { c with power := min 4095 (c.power + s.get (FLY_CFG_STEP n)) } })).ecsStart n
      let c1 : FlyCal := { c with revs := c.revs + 1, base := c.base + p.ecsSum, baseN := c.baseN + p.ecsN }
      if c.revs < 2 then (s.modFlu n (fun f => { f with cal := some c1 })).ecsStart n
      else if c.revs = 2 then step c1
      else if contactMade (s.get (FLY_CFG_RATIO n)) c.base c.baseN p.ecsSum p.ecsN then s.sweepEnd n c (some c.power)
      else if c.power = 4095 then s.sweepEnd n c none
      else step { c with revs := c.revs + 1 }

def execContactSweepStep (ch : Ch) (s : State) : Host.Outcome State Fault Refusal := .next (s.ifCh ch (contactSweepStep ch))

/-! ### The preamp port (R252-R260) -/

/-- Registers of the preamp (R255). -/
def paStatus : Nat := 0
def paHead : Nat := 1
def paMode : Nat := 2
def paWcur : Nat := 3
def paWovs : Nat := 4
def paHtr : Nat := 5
def paEcs : Nat := 9
def paTemp : Nat := 10

/-- Head-select code of head k (R84). -/
def State.headCode (s : State) (n k : Nat) : Nat := bitsOf (s.imgNat (fun i => i.headSel n k)) 3 0

/-- The head whose HEAD frame goes in this slot (R258): one owed since the last tick, or in the last slot before the servo gate the one due at the
next. -/
def State.headFrame (s : State) (n : Nat) (lastSlot : Bool) : Option Nat :=
  match (s.pauOf n).headLate with
  | some k => some k
  | none => if lastSlot then s.headDue n else none

/-- The head whose HTR goes in this slot (R257): the one about to be selected, once, or the selected one after a change. -/
def State.htrFrame (s : State) (n : Nat) : Option Nat :=
  let p := s.pauOf n
  match s.headDue n with
  | some k => if p.htrHead = some k then (if p.htrDue then some (s.headIn n) else none) else some k
  | none => if p.htrDue then some (s.headIn n) else none

/-- The frame of the next slot by the order of R257, with what it was sent for. `lastSlot`: the slot is the last whose command
ends at least 0.25 µs before the next servo gate opens (R258). -/
def State.slotFrame (s : State) (n : Nat) (lastSlot : Bool) : PaFrame × PaItem × State :=
  let p := s.pauOf n
  let old := match p.tempAt with
    | some t => decide (10000 ≤ ((s.num TSTAMP : Int) - t) % 0x100000000)
    | none => true
  match s.headFrame n lastSlot, s.htrFrame n with
  | some k, _ =>
    (⟨false, 0, paHead, s.headCode n k⟩, .head k,
      s.modPau n (fun p => if p.headLate.isSome then { p with headLate := none } else { p with headSent := some k }))
  | none, some k =>
    (⟨false, s.headCode n k, paHtr, s.heater n k⟩, .htr k,
      s.modPau n (fun p => if k = s.headIn n then { p with htrDue := false } else { p with htrHead := some k }))
  | none, none =>
    if old then (⟨true, 0, paTemp, 0⟩, .temp, s)
    else
      match p.regs with
      | (f, arm) :: rest => (f, .reg arm, s.modPau n (fun p => { p with regs := rest }))
      | [] =>
        match p.queued with
        | some f => (f, .queued f, s.modPau n (fun p => { p with queued := none }))
        | none =>
          if (s.fluOf n).cal.isSome then (⟨true, s.headCode n (s.headIn n), paEcs, 0⟩, .ecs, s)
          else (⟨true, 0, paStatus, 0⟩, .status, s)

/-- The 36 command bits (R253). -/
def PaFrame.bits (f : PaFrame) (ka : Bool) : Nat :=
  let b := ofBool ka * 2 ^ 27 + ofBool f.rnw * 2 ^ 26 + f.hsel % 16 * 2 ^ 22 + f.addr % 16 * 2 ^ 18 + (if f.rnw then 0 else f.data % 65536) * 4
  b * 256 + crc8 (bitsMsb 28 b)

/-- What a latched FLT bit that rises brings (R259): write-disable and a Fault record, or a Warn record. -/
def State.fltRise (s : State) (n bit : Nat) : State :=
  if bit = 4 then s.assistFault n 2
  else
    let rec_ (sev : Nat) (s : State) : State := s.log (faultRecord (PA_STAT n) (s.rd (PA_STAT n)) (24 + bit) sev clsCorrected noInst 0)
    if bit = 6 ∨ bit = 5 ∨ bit = 3 then rec_ sevFault (s.setWdis n)
    else rec_ sevWarn s

/-- A good reply (R254, R255, R258, R259). MODE follows every STATUS read, also one of PA_QCMD. -/
def State.goodReply (s : State) (n : Nat) (item : PaItem) (flt data amon : Nat) : State :=
  let was := s.get (PA_STAT_FLT n)
  let s := s.modPau n (fun p => { p with bad := 0, advance := !bitOf flt 0, fresh := true })
  let s := (s.put (PA_STAT_FLT n) flt).put (PA_STAT_AMON n) amon
  let s := if bitOf flt 0 then s.countSat (FRAME_CNT n) (PA_CNT_SAT_SAT n) 1 1 else s
  let s := [7, 6, 5, 4, 3, 2, 1].foldl (fun s b => if bitOf flt b && !bitOf was b then s.fltRise n b else s) s
  let s := match item with
    | .reg true => if bitOf flt 0 then s else s.put (PA_STAT_ARMED n) 1
    | .temp => s.modPau n (fun p => { p with temp := sx 16 data, tempAt := some (s.num TSTAMP) })
    | .ecs => s.modPau n (fun p => { p with ecsSum := p.ecsSum + data, ecsN := p.ecsN + 1 })
    | .status => s.put (PA_STAT_MODE n) (bitsOf data 1 0)
    | .queued f =>
      let s := if f.rnw && decide (f.addr = paStatus) then s.put (PA_STAT_MODE n) (bitsOf data 1 0) else s
      ((((s.put (PA_QRSP_BUSY n) 0).put (PA_QRSP_DONE n) 1).put (PA_QRSP_BAD n) 0).put (PA_QRSP_FLT n) flt).put (PA_QRSP_DATA n) data
    | _ => s
  (if bitOf flt 7 then s.put (PA_STAT_ARMED n) 0 else s).interlock n

/-- A reply that fails its CRC, or none (R260): two in a row hold the gate closed (R251). -/
def State.badReply (s : State) (n : Nat) (item : PaItem) : State :=
  let s := s.modPau n (fun p => { p with bad := p.bad + 1, advance := false })
  let s := s.countSat (REPLY_ERR n) (PA_CNT_SAT_SAT n) 0 1
  let s := match item with
    | .queued _ => ((s.put (PA_QRSP_BUSY n) 0).put (PA_QRSP_DONE n) 1).put (PA_QRSP_BAD n) 1
    | _ => s
  s.interlock n

/-- The head the preamp has selected, as the HEAD frames of R258 chose it. -/
def State.onHead (s : State) (n : Nat) : Nat := (s.fluOf n).onHead.getD (s.headIn n)

/-- The heater of head k is sent at write power or not (R249): a change of the selected head's counts its settling from here. -/
def State.heatHead (s : State) (n k : Nat) (w : Bool) : State :=
  let on := s.onHead n
  s.modFlu n (fun (f : Fly) =>
    if f.atWrite.contains k = w then f
    else { f with
      atWrite := if w then f.atWrite ++ [k] else f.atWrite.filter (· ≠ k)
      changed := if k = on then s.num TSTAMP else f.changed })

/-- What sending a frame does at once: a HEAD frame drops a gate still active and puts its code in force (R251, R258), and the settling of the head it
selects counts from it; an HTR frame changes a head's power (R249). A HEAD write of PA_QCMD puts its code in force too (R255). -/
def State.sendFrame (s : State) (n : Nat) (item : PaItem) : State :=
  match item with
  | .head k =>
    let s := (s.dropGate n).put (PA_STAT_HEAD n) (s.headCode n k)
    if s.onHead n = k then s.modFlu n (fun f => { f with onHead := some k })
    else s.modFlu n (fun f => { f with onHead := some k, changed := s.num TSTAMP })
  | .htr k =>
    let again := match (s.fluOf n).cal with | some c => c.back | none => false
    let s := s.heatHead n k (s.flag (FLY_REQ_WRITE n) && s.flag (FLY_CTL_EN n) && (s.fluOf n).cal.isNone)
    let s := s.modFlu n (fun f => { f with cal := f.cal.map (fun c => { c with back := false }) })
    if again then s.modPau n (fun p => { p with htrDue := true }) else s
  | .queued f => if !f.rnw && decide (f.addr = paHead) then s.put (PA_STAT_HEAD n) (f.data % 16) else s
  | _ => s

/-- PREAMP_SLOT (R252, R253, R257-R259): one slot of a powered die with RUN 1: the first pending item is sent with the keep-alive
bit, and the 48 reply bits, if any come, are checked. -/
def preampSlot (n : Nat) (lastSlot : Bool) (reply : Option Nat) (s : State) : State :=
  if !s.flag (PA_CTL_RUN n) then s
  else
    let (f, item, s) := s.slotFrame n lastSlot
    let s := s.modPau n (fun p => { p with ka := if p.advance then !p.ka else p.ka, sent := some f })
    let s := s.sendFrame n item
    match reply with
    | some r =>
      if crc8 (bitsMsb 40 (r / 256)) = r % 256 then s.goodReply n item (bitsOf r 47 40) (bitsOf r 39 24) (bitsOf r 23 8)
      else s.badReply n item
    | none => s.badReply n item

def execPreampSlot (ch : Ch) (lastSlot : Bool) (reply : Option Nat) (s : State) : Host.Outcome State Fault Refusal :=
  .next (s.ifCh ch (preampSlot ch lastSlot reply))

/-- PREAMP_NO_REPLY (R260, R493): 64 bad replies in a row. -/
def preampNoReply (n : Nat) (s : State) : State :=
  if 64 ≤ (s.pauOf n).bad ∧ s.flag (PA_FAULT_NO_REPLY n) = false then
    (s.faultBit (paFault n) 1 sevFault clsDegraded n 0).degrade n (PA_FAULT n) 1
  else s

def execPreampNoReply (ch : Ch) (s : State) : Host.Outcome State Fault Refusal := .next (s.ifCh ch (preampNoReply ch))

/-- FLTN_LOW (R247, R251, R259): the filtered level of PAn_FLTN; low drops the gates, sets FLTN and raises the fault event. `aflt`: the fault that
the preamp reports by it is AFLT, an assist fault. -/
def fltnLow (n : Nat) (low aflt : Bool) (s : State) : State :=
  let s := s.put (PA_STAT_FLTN n) (ofBool low)
  if low then
    let s := (s.dropGate n).noteBit (paFault n) 0
    if aflt then s.assistFault n 2 else s
  else s

def execFltnLow (ch : Ch) (low aflt : Bool) (s : State) : Host.Outcome State Fault Refusal := .next (s.ifCh ch (fltnLow ch low aflt))

/-- PREAMP sends MODE write-ready with ARM (R255, R258). -/
def State.armPreamp (s : State) (n : Nat) : State :=
  s.modPau n (fun p => { p with regs := p.regs ++ [(⟨false, 0, paMode, 0x8002⟩, true)] })

/-- PA_ARM (R258). -/
def execPaArm (ch : Ch) (s : State) : Host.Outcome State Fault Refusal := .next (s.access (ch + 1) (fun s => s.armPreamp ch))

/-- PA_QCMD_GO (R257): ignored while a frame is queued or in flight. -/
def paQcmd (n : Nat) (v : Nat) (s : State) : State :=
  if bitOf v 31 && !s.flag (PA_QRSP_BUSY n) then
    (s.put (PA_QRSP_BUSY n) 1).modPau n (fun p => { p with queued := some ⟨bitOf v 30, bitsOf v 27 24, bitsOf v 19 16, bitsOf v 15 0⟩ })
  else s

def execPaQcmdGo (ch : Ch) (value : Word) (s : State) : Host.Outcome State Fault Refusal :=
  .next (s.access (ch + 1) (paQcmd ch value.toNat))

/-- WR_HEAD_WRITE (R257): WCUR and WOVS of the head are sent. -/
def wrHeadWrite (n k : Nat) (value : Word) (s : State) : State :=
  let s := s.setRW (WR_HEAD n k) value
  let c := s.headCode n k
  s.modPau n (fun p => { p with regs := p.regs ++
    [(⟨false, c, paWcur, s.get (WR_HEAD_WCUR n k)⟩, false),
     (⟨false, c, paWovs, s.get (WR_HEAD_OSA n k) * 256 + s.get (WR_HEAD_OSD n k)⟩, false)] })

def execWrHeadWrite (ch : Ch) (head : Fin 6) (value : Word) (s : State) : Host.Outcome State Fault Refusal :=
  .next (s.access (ch + 1) (wrHeadWrite ch head value))

end Sys2Proof.Machine
end

