-- ==== Sys2Proof/Machine/L1.lean ====
section
/-!
DEFINITION. The cores' memory maps and their L1 caches (R371, R385-R387, R408).
-/

namespace Sys2Proof.Machine

/-! ### Memory maps (R371, R408) -/

/-- Where an access of a core goes: the fabric; a physical address with its requester class (R388); a byte of its die's CH SRAM. -/
inductive Where where
  | fabric
  | phys (cls a : Nat)
  | cs (n o : Nat)
  deriving DecidableEq, Repr

/-- The place of `n` bytes from address `a` in the map of core c; none outside it. -/
def coreMap (c a n : Nat) : Option Where :=
  if a < 0x100000000 then some .fabric
  else if c < 8 then (if inSram a n ∨ inDram a n then some (.phys c a) else none)
  else if 0x100000000 ≤ a ∧ a + n ≤ 0x100080000 then some (.cs ((c - 8) / 2) (a - 0x100000000))
  else if inDram a n then some (.phys 8 a)
  else if 0x300000000 ≤ a ∧ a + n ≤ 0x300200000 then some (.phys 8 (a - 0x200000000))
  else none

/-- A read at the point of coherence. -/
def State.readAt (s : State) (w : Where) (n : Nat) : Option (List Byte) × State :=
  match w with
  | .phys cls a => s.physRead cls a n
  | .cs d o => s.csramRead d o n
  | .fabric => (none, s)

/-- A write at the point of coherence; false for a bus error. -/
def State.writeAt (s : State) (w : Where) (bs : List Byte) : Bool × State :=
  match w with
  | .phys cls a => s.physWrite cls a bs
  | .cs d o => s.csramWrite d o bs
  | .fabric => (false, s)

/-- Whether a core caches an address (R385): an H-core DRAM and HUB SRAM but for addresses in an uncached region, a C-core its CH SRAM. -/
def State.l1Caches (s : State) (w : Where) : Bool :=
  match w with
  | .phys cls a => decide (cls < 8) && decide (s.regionPolicy a ≠ 3)
  | .cs _ _ => true
  | .fabric => false

/-- The line of a reservation (R406): its key. -/
def Where.resv : Where → Nat
  | .phys _ a => if a < dramBase then resvKey 2 (a - sramBase) else resvKey 0 a
  | .cs d o => resvKey (3 + d) o
  | .fabric => 0

/-! ### The L1 caches (R385-R387) -/

/-- 512 lines of 64 B, direct-mapped. -/
def l1Index (line : Nat) : Nat := line % 512

/-- Fetch a line and hold it. -/
def State.l1Fill (s : State) (c : Nat) (fetchSide : Bool) (line a n : Nat) : Option (List Byte) × State :=
  match coreMap c (line * 64) 64 with
  | none => (none, s)
  | some w =>
    match s.readAt w 64 with
    | (some bs, s) =>
      (some (slice bs (a % 64) n),
        s.modCore c (fun k =>
          if fetchSide then { k with l1i := place (l1Index line) (line, bs) k.l1i } else { k with l1d := place (l1Index line) (line, bs) k.l1d }))
    | (none, s) => (none, s)

/-- A parity error in the L1 lines that hold 64 B line `line` (R387): each is invalidated and refetched. -/
def State.l1Parity (s : State) (c line : Nat) : State :=
  let held := fun (l : List (Nat × Nat × List Byte)) => match look (l1Index line) l with | some (t, _) => decide (t = line) | none => false
  let k := s.coreOf c
  let s := s.modCore c (fun k =>
    { k with l1i := if held k.l1i then remove (l1Index line) k.l1i else k.l1i, l1d := if held k.l1d then remove (l1Index line) k.l1d else k.l1d })
  let s := if held k.l1i then (s.l1Fill c true line 0 0).2 else s
  if held k.l1d then (s.l1Fill c false line 0 0).2 else s

/-- Bytes of one line through a core's instruction or data cache: a read miss allocates. -/
def State.l1Read (s : State) (c : Nat) (fetchSide : Bool) (a n : Nat) : Option (List Byte) × State :=
  let line := a / 64
  let k := s.coreOf c
  match look (l1Index line) (if fetchSide then k.l1i else k.l1d) with
  | some (t, bs) => if t = line then (some (slice bs (a % 64) n), s) else s.l1Fill c fetchSide line a n
  | none => s.l1Fill c fetchSide line a n

/-- Memory bytes as a core sees them: through its cache where it caches the address, else from the point of coherence. -/
def State.coreBytes (s : State) (c : Nat) (fetchSide : Bool) (a n : Nat) : Option (List Byte) × State :=
  (pieces 64 a n).foldl (fun r p =>
    match r.1 with
    | none => r
    | some done =>
      match coreMap c p.1 p.2 with
      | none => (none, r.2)
      | some w =>
        let q := if r.2.l1Caches w then r.2.l1Read c fetchSide p.1 p.2 else r.2.readAt w p.2
        (q.1.map (fun bs => done ++ bs), q.2)) (some [], s)

/-- A store updates the lines the data cache holds (R385). -/
def Core.l1Store (k : Core) (a : Nat) (bs : List Byte) : Core :=
  (pieces 64 a bs.length).foldl (fun k p =>
    match look (l1Index (p.1 / 64)) k.l1d with
    | some (t, d) =>
      if t = p.1 / 64 then { k with l1d := place (l1Index t) (t, overlay d (p.1 % 64) ((bs.drop (p.1 - a)).take p.2)) k.l1d } else k
    | none => k) k

end Sys2Proof.Machine
end

