-- ==== Sys2Proof/Machine/Tsuku.lean ====
section
/-!
DEFINITION. Tsuku links (file 01): flit replay and retraining, link failure, and the eight MSG queues of each link end.
-/

namespace Sys2Proof.Machine

/-- The register block of a link end (file 01, TSUKU registers). -/
def linkBase (e : Nat) : Nat :=
  if e < 5 then hubTSUKU + 0x200 * e else if e < 9 then chTSUKU (e - 5) else kprTSUKU

/-- The link end at the other side of the link. -/
def farEnd (e : Nat) : Nat := if e < 5 then e + 5 else e - 5

/-- The event a link end raises when LINK_STAT.STATE changes or LINK_ERR is set (file 13, event table): HUB 88-92 and
channel event 48; the KPR has none. -/
def linkEvent (e : Nat) : Nat := if e < 5 then 88 + e else if e < 9 then chEvent (e - 5) 48 else 0

/-- LINK_TUNE.RETRY_LIMIT of a link end, 0 acting as 1 (file 01). -/
def linkTune (e : Nat) : Nat := if e < 5 then LINK_TUNE_H e else if e < 9 then LINK_TUNE_C (e - 5) else LINK_TUNE_K
def State.retryLimit (s : State) (e : Nat) : Nat := max 1 (bitsOf (s.num (linkTune e)) 3 0)

/-- A write of LINK_CMD, the Basic function of a link end (file 01), ends an override of its LINK_TUNE (R11). -/
def linkPolicy (e : Nat) (s : State) : State := s.toPolicy (fun a => decide (a = linkTune e))

/-- Set a bit of a link end's LINK_ERR. -/
def State.linkError (s : State) (e bit : Nat) : State := s.noteBit (linkErr (linkBase e) (linkEvent e)) bit

/-- Change LINK_STAT of a link end and raise its link-change event. -/
def State.linkState (s : State) (e st lanes : Nat) : State :=
  let s := (s.put (LINK_STAT_STATE (linkBase e)) st).put (LINK_STAT_LANES_UP (linkBase e)) lanes
  if linkEvent e = 0 then s else s.raise (linkEvent e)

/-- Change LINK_STAT at both ends of a link. -/
def State.linkBoth (s : State) (e st lanes : Nat) : State := (s.linkState e st lanes).linkState (farEnd e) st lanes

/-- The lanes a trained link shows in LANES_UP: eight on HUB-CHn, bits [11:8] only on HUB-KPR. -/
def fullLanes (e : Nat) : Nat := if e = 4 ∨ e = 9 then 0x0F else 0xFF

/-- Modify the link end record. -/
def State.modLink (s : State) (e : Nat) (f : Link → Link) : State := { s with links := modAt s.links e f }

def State.link (s : State) (e : Nat) : Link := atD s.links e Link.reset

/-- The link can carry traffic: that of a disabled channel die, or of one that is Off, stays down (R38, R39). -/
def State.linkOn (s : State) (e : Nat) : Bool :=
  if e = 4 ∨ e = 9 then true else s.chUp (if e < 4 then e else e - 5)

/-- A link is Up. -/
def State.linkUp (s : State) (e : Nat) : Bool := s.linkOn e && decide (s.get (LINK_STAT_STATE (linkBase e)) = 2)

/-- The channel die a link end's link serves; 4 for the KPR's. -/
def linkCh (e : Nat) : Nat := if e < 5 then e else e - 5

/-- The die a link end stands on. -/
def linkDie (e : Nat) : Nat := if e < 5 then 0 else if e < 9 then e - 4 else 5

/-- A receiver finds a flit failing its CRC and asks for a replay (R23): CRC_RETRY is set, and failures of one flit in a row
are counted; reaching the limit sets RETRY_EXH. -/
def replay (e : Nat) (sameFlit : Bool) (s : State) : State :=
  let n := if sameFlit then (s.link e).fails + 1 else 1
  let s := (s.modLink e (fun l => { l with fails := n })).linkError e 0
  if n ≥ s.retryLimit e then s.linkError e 1 else s

/-- FLIT_REPLAY (R23). -/
def execFlitReplay (e : LinkEnd) (sameFlit : Bool) (s : State) : Host.Outcome State Fault Refusal :=
  .next (if s.linkOn e then replay e sameFlit s else s)

/-- Modify the link end records of both ends of a link. -/
def State.modEnds (s : State) (e : Nat) (f : Link → Link) : State := (s.modLink e f).modLink (farEnd e) f

/-- A retrain begins (R24): at both ends the link is Retraining, LINK_ERR.RETRAIN is set and no flit is in hand; MSG packets only partly
received are rewound under R29 when their MSG_PACKET_RECEIVE finds them cut. From any state of the link: what a retrain does to one that
is Down or Failed is a DESIGN CHOICE (notes/assumptions/52.md). -/
def retrain (e : Nat) (s : State) : State :=
  (((s.modEnds e (fun l => { l with fails := 0 })).linkBoth e 3 0).linkError e 2).linkError (farEnd e) 2

/-- LINK_RETRAIN (R24): after RETRY_LIMIT consecutive failures of one flit the link retrains. -/
def execLinkRetrain (e : LinkEnd) (s : State) : Host.Outcome State Fault Refusal :=
  .next (if s.linkOn e && decide ((s.link e).fails ≥ s.retryLimit e) then retrain e s else s)

/-- LINK_CMD.RETRAIN (R24): the link retrains now. -/
def execLinkRetrainCmd (e : LinkEnd) (s : State) : Host.Outcome State Fault Refusal :=
  .next (s.access (linkDie e) (fun s => let s := linkPolicy e s; if s.linkOn e then retrain e s else s))

/-- RETRAIN_COMPLETE (R24): a successful retrain leaves the link Up with its lanes; what the retry buffer held is resent, so
nothing under way is lost or duplicated. An unsuccessful one is counted toward R25. Both ends keep the link's count. -/
def execRetrainComplete (e : LinkEnd) (trained : Bool) (lanes : Nat) (s : State) : Host.Outcome State Fault Refusal :=
  .next (
    if s.get (LINK_STAT_STATE (linkBase e)) = 3 then
      if trained then
        (s.modEnds e (fun l => { l with retrains := 0, fails := 0 })).linkBoth e 2 (Nat.land lanes (fullLanes e))
      else
        let k := max (s.link e).retrains (s.link (farEnd e)).retrains + 1
        s.modEnds e (fun l => { l with retrains := k })
    else s)

/-- The Degraded fault of channel die n's link (R25, R486, R493). The manual names no fault bit for it: the model takes RETRY_EXH of the
HUB's link end, as R551 names that bit for HUB-KPR (DESIGN CHOICE, notes/assumptions/52.md). The bit that a replay has set already is
no new setting and writes no further record (R490); the fault's class is noted all the same. -/
def State.linkDegraded (s : State) (n : Nat) : State :=
  let a := LINK_ERR (linkBase n)
  let s := if bitOf (s.num a) 1 then s.noteClass (faultRecord a (s.rd a) 1 sevNote clsDegraded n 0)
    else s.faultBit (linkErr (linkBase n) (linkEvent n)) 1 sevNote clsDegraded n 0
  s.degrade n a 1

/-- LINK_FAILED (R25): after three consecutive failed retrains the link is Failed. A HUB-CHn link is a Degraded fault of
actuator n (R493); the HUB-KPR link is a Fatal cause (R496). -/
def linkFailed (e : Nat) (s : State) : State :=
  if 3 ≤ (s.link e).retrains ∧ s.get (LINK_STAT_STATE (linkBase e)) ≠ 0xF then
    let s := s.linkBoth e 0xF 0
    if linkCh e = 4 then (s.faultBit (linkErr (linkBase 9) 0) 1 sevNote clsFatal noInst 0).fatalCause .link
    else s.linkDegraded (linkCh e)
  else s

def execLinkFailed (e : LinkEnd) (s : State) : Host.Outcome State Fault Refusal := .next (linkFailed e s)

/-! ### MSG queues -/

/-- RXQ_COUNT after a change of a receive queue (R26, R27). -/
def State.rxCount (s : State) (e q : Nat) : State :=
  let ws := atD (s.link e).rx q []
  (s.put (RXQ_COUNT_WORDS (linkBase e) q) ws.length).put (RXQ_COUNT_PKTS (linkBase e) q) (ws.filter (·.last)).length

/-- A MSG packet is rewound (R29): MSG_DROP is set and counted at the receiving end, and no word becomes visible. -/
def State.msgRewind (s : State) (e : Nat) : State :=
  let b := linkBase e
  let s := s.linkError e 4
  s.countSatFault (MSG_DROP b) (linkErr b (linkEvent e)) 5 1

/-- The packet's words as queue words: the last is marked, and `bad` lists the positions whose stored parity is bad (R30). -/
def queueWords (ws : List DWord) (bad : List Nat) : List QWord :=
  ws.zipIdx.map (fun p => ⟨p.1, decide (p.2 + 1 = ws.length), bad.contains p.2⟩)

/-- MSG_PACKET_RECEIVE (R24, R27-R29): over a link that is Up, the oldest packet under way to the queue commits whole, or is rewound whole
when it failed its CRC or does not fit in the 512 words of its queue. While the link is not Up a packet waits, unless the retrain cut
it off: then it is rewound. -/
def msgReceive (e q : Nat) (fate : MsgFate) (badWords : List Nat) (s : State) : State :=
  match s.msgFlight.find? (fun p => decide (p.dst = e) && decide (p.q = q)) with
  | none => s
  | some p =>
    if s.linkOn e = false ∨ (s.linkUp e = false ∧ fate ≠ .cut) then s
    else
      let s := { s with msgFlight := s.msgFlight.erase p }
      let room := 512 - (atD (s.link e).rx q []).length
      if fate = .good ∧ p.words.length ≤ room then
        (s.modLink e (fun l => { l with rx := modAt l.rx q (fun ws => ws ++ queueWords p.words badWords) })).rxCount e q
      else s.msgRewind e

def execMsgPacketReceive (e : LinkEnd) (q : Fin 8) (fate : MsgFate) (badWords : List Nat) (s : State) :
    Host.Outcome State Fault Refusal := .next (msgReceive e q fate badWords s)

/-- A read of RXQ_DATA_LO (R7, R30, R31): the head word is removed, its upper half and tag captured, and a word with bad parity is
delivered with POISON and PARITY set; an empty queue answers the idle item and nothing changes but the captured words. -/
def rxRead (e q : Nat) (s : State) : State :=
  let b := linkBase e
  match atD (s.link e).rx q [] with
  | [] => ((s.setNum (RXQ_DATA_HI b q) 0).setNum (RXQ_TAG b q) 4).answer (.data 0xDEAD1D1E)
  | w :: rest =>
    let s := (s.modLink e (fun l => { l with rx := modAt l.rx q (fun _ => rest) })).rxCount e q
    let s := s.setNum (RXQ_DATA_HI b q) (w.data.toNat / 0x100000000)
    let s := s.setNum (RXQ_TAG b q) (ofBool w.last * 2 + ofBool w.bad)
    let s := if w.bad then s.linkError e 3 else s
    s.answer (.data (w.data.toNat % 0x100000000))

def execRxqDataLoRead (e : LinkEnd) (q : Fin 8) (s : State) : Host.Outcome State Fault Refusal :=
  .next (s.access (linkDie e) (rxRead e q))

/-- A write of TXQ_DATA_LO stages bits [31:0] of the next word (file 01). -/
def txStage (e q : Nat) (v : Word) (s : State) : State :=
  s.modLink e (fun l => { l with txLo := modAt l.txLo q (fun _ => v) })

/-- A write of TXQ_DATA_HI appends the staged word to the packet being built; a 33rd append is ignored (R34). `src` is the core that
appends, 17 where none is known; the first word's is the one that has begun the packet (R411). -/
def txAppend (src e q : Nat) (v : Word) (s : State) : State :=
  s.modLink e (fun l =>
    let w : DWord := BitVec.ofNat 64 ((atD l.txLo q 0).toNat + 0x100000000 * v.toNat)
    { l with tx := modAt l.tx q (fun ws => if ws.length < 32 then ws ++ [w] else ws), 
             txBy := if (atD l.tx q []).isEmpty then modAt l.txBy q (fun _ => src) else l.txBy })

/-- The packets that core `c` has begun and not sent are discarded (R411). -/
def Link.dropBegun (l : Link) (c : Nat) : Link :=
  { l with tx := Vector.ofFn (fun q : Fin 8 => if atD l.txBy q.val 17 = c then [] else atD l.tx q.val []) }

def State.dropBegun (s : State) (c : Nat) : State := { s with links := s.links.map (fun l => l.dropBegun c) }

/-- TXQ_DATA_HI_WRITE (R34). -/
def execTxqDataHiWrite (e : LinkEnd) (q : Fin 8) (value : Word) (s : State) : Host.Outcome State Fault Refusal :=
  .next (s.access (linkDie e) (txAppend 17 e q value))

/-- TXQ_SEND.GO (R34): the packet being built is sent to queue q of the far end; with no word appended GO does nothing. Over the link of a
die that is not there it reaches nobody (R38). -/
def txGo (e q : Nat) (s : State) : State :=
  match atD (s.link e).tx q [] with
  | [] => s
  | ws =>
    let s := s.modLink e (fun l => { l with tx := modAt l.tx q (fun _ => []) })
    if s.linkOn e then { s with msgFlight := s.msgFlight ++ [⟨farEnd e, q, s.num TSTAMP, ws⟩] } else s

/-- TXQ_GO (R33, R34). -/
def execTxqGo (e : LinkEnd) (q : Fin 8) (s : State) : Host.Outcome State Fault Refusal :=
  .next (s.access (linkDie e) (txGo e q))

/-- TXQ_SEND.DISCARD (R34). -/
def txDiscard (e q : Nat) (s : State) : State := s.modLink e (fun l => { l with tx := modAt l.tx q (fun _ => []) })

/-- TXQ_DISCARD (R34). -/
def execTxqDiscard (e : LinkEnd) (q : Fin 8) (s : State) : Host.Outcome State Fault Refusal :=
  .next (s.access (linkDie e) (txDiscard e q))

/-- LINK_CLR_DROP (file 01, LINK_CMD): MSG_DROP becomes 0; DROP_SAT is not affected. -/
def execLinkClrDrop (e : LinkEnd) (s : State) : Host.Outcome State Fault Refusal :=
  .next (s.access (linkDie e) (fun s => (linkPolicy e s).setNum (MSG_DROP (linkBase e)) 0))

end Sys2Proof.Machine
end

