-- ==== Sys2Proof/Machine/Cores.lean ====
section
/-!
DEFINITION. Cores and events (file 13, R405-R435): restarts and self-tests, watchdogs, the event fabric, the wedge task, and loading, starting and stopping the Lomun sequencer.
-/

namespace Sys2Proof.Machine

/-! ### Core states (R411, R413, R415) -/

def csReset : Nat := 0
def csRunning : Nat := 1
def csRestarting : Nat := 2
def csFailed : Nat := 3

def State.coreState (s : State) (c : Nat) : Nat := s.get (CORE_STAT_STATE (coreBase c))
def State.setCoreState (s : State) (c st : Nat) : State := s.put (CORE_STAT_STATE (coreBase c)) st

/-- A core that runs, on a die that is on. -/
def State.coreRuns (s : State) (c : Nat) : Bool := s.dieOn (coreDie c) && decide (s.coreState c = csRunning)

/-- An event of core c: nothing happens where the core does not run. -/
def State.ifRuns (s : State) (c : Nat) (f : State → State) : State := if s.coreRuns c then f s else s

/-- ROLE and IMAGE of a core (R93). -/
def State.roleOf (s : State) (c : Nat) : Nat := s.imgNat (fun i => i.role c)

/-- Where a core starts: WARM_LO and WARM_HI (R411). -/
def State.warmEntry (s : State) (c : Nat) : DWord :=
  BitVec.ofNat 64 (s.num (WARM_LO (coreBase c)) / 4 * 4 + 2 ^ 32 * (s.num (WARM_HI (coreBase c)) % 256))

/-- The FAULT and RESTARTED events of a core's unit (file 13, event table). -/
def coreFaultEvent (c : Nat) : Nat := if c < 8 then 80 else chEvent ((c - 8) / 2) 34
def coreRestarted (c : Nat) : Nat := if c < 8 then 81 else chEvent ((c - 8) / 2) 35

/-- Start a core at its WARM entry in machine mode with interrupts disabled, with a MBOOTCAUSE. -/
def State.startCore (s : State) (c cause : Nat) : State :=
  let s := s.modCore c (fun k => { k with pc := s.warmEntry c, user := false, mie := false, wfi := false, bootCause := cause, kick := s.mtime, restart := 0 })
  s.setCoreState c csRunning

/-- A core in reset, with what a warm restart keeps: MBOOTCAUSE, MCHKCAUSE, MCHKADDR and MEVEN (R411). -/
def Core.restarted (k : Core) : Core :=
  { Core.reset with chkCause := k.chkCause, chkAddr := k.chkAddr, even := k.even, bootCause := k.bootCause, warm := k.warm,
                    restart := k.restart }

/-- A cause of a warm restart arises (R411): STATE is Restarting and, but for WARM, the fault bit is set and FAULT is raised. -/
def State.restartCore (s : State) (c cause : Nat) (bit : Option Nat) : State :=
  let s := (s.setCoreState c csRestarting).modCore c (fun k => { k with restart := cause, wfi := false, resv := none })
  match bit with
  | some b => (s.faultBit { coreFault c with event := none } b sevNote clsContained c 0).raise (coreFaultEvent c)
  | none => s

/-! ### Residues, machine checks, watchdogs (R409, R410, R414) -/

/-- A residue mismatch: the repeat agrees, or it does not. -/
def residue (c : Nat) (agrees : Bool) (s : State) : State :=
  if agrees then
    let s := s.faultBit (coreFault c) 0 sevNote clsCorrected c 0
    s.countSat (RES_CNT (coreBase c)) (CORE_STAT_SAT (coreBase c)) 0 1
  else s.restartCore c 2 (some 1)

def execResidueMismatch (core : CoreNo) (agrees : Bool) (s : State) : Host.Outcome State Fault Refusal :=
  .next (s.ifRuns core (residue core agrees))

/-- A machine check of a SOURCE with its address (R410): while MCHKCAUSE.VALID is 1 it restarts the core; else it is recorded, and a
posted one pends interrupt 16. -/
def machineCheck (c source : Nat) (addr : DWord) (s : State) : State :=
  if (s.coreOf c).chkCause.toNat / 2 ^ 63 = 1 then s.restartCore c 4 (some 3)
  else
    s.modCore c (fun k => { k with chkCause := BitVec.ofNat 64 (2 ^ 63 + source), chkAddr := addr, mchk := decide (source ≠ 1) || k.mchk,
                                   wfi := k.wfi && !(decide (source ≠ 1) && bitOf k.ie.toNat 16) })

/-- The BOOT C-core of a channel die, which takes machine checks of the control store (R93, R410). -/
def State.bootC (s : State) (n : Nat) : Nat := if s.imgBool (fun i => i.roleBoot (9 + 2 * n)) then 9 + 2 * n else 8 + 2 * n

/-- Enter a trap in machine mode (RISC-V; R406): mepc, mcause, mtval, and the mode and interrupt enables in mstatus. -/
def Core.trap (k : Core) (cause : Nat) (interrupt : Bool) (tval : DWord) : Core :=
  let base := k.mtvec.toNat / 4 * 4
  let pc := if interrupt ∧ k.mtvec.toNat % 4 = 1 then base + 4 * cause else base
  { k with mepc := k.pc, mcause := BitVec.ofNat 64 (cause + (if interrupt then 2 ^ 63 else 0)), mtval := tval, mpie := k.mie, mie := false,
           mppUser := k.user, user := false, pc := BitVec.ofNat 64 pc, resv := none, wfi := false }

/-- MACHINE_CHECK (R410). SOURCE 1 is taken at once, on the reading instruction; SOURCE 4 arises on a die's BOOT C-core only. Operand 0 stands for a
parity error in an L1 line, which is no machine check: the line is invalidated and refetched (R387, notes/assumptions/66.md). -/
def machineCheckRow (c source : Nat) (addr : DWord) (s : State) : State :=
  if source = 0 then s.l1Parity c (addr.toNat / 64)
  else if 4 < source ∨ (source = 4 ∧ c ≠ s.bootC ((c - 8) / 2)) then s
  else
    let nested := decide ((s.coreOf c).chkCause.toNat / 2 ^ 63 = 1)
    let s := machineCheck c source addr s
    if source = 1 ∧ nested = false then s.modCore c (fun k => k.trap 24 false 0) else s

def execMachineCheck (core : CoreNo) (source : Nat) (addr : DWord) (s : State) : Host.Outcome State Fault Refusal :=
  .next (s.ifRuns core (machineCheckRow core source addr))

/-- The time of the watchdog's expiry (R414): WDOG_US µs, 0 acting as 1, after the last kick. -/
def State.wdEnd (s : State) (c : Nat) : Nat := (s.coreOf c).kick + max 1 (bitsOf (s.num (CORE_CTL (coreBase c))) 15 0)

/-- WATCHDOG_EXPIRY (R414): WDOG_US µs have passed without a kick. -/
def watchdog (c : Nat) (s : State) : State :=
  if s.flag (CORE_CTL_WDOG_EN (coreBase c)) ∧ s.wdEnd c ≤ s.mtime then s.restartCore c 3 (some 2) else s

def execWatchdogExpiry (core : CoreNo) (s : State) : Host.Outcome State Fault Refusal := .next (s.ifRuns core (watchdog core))

/-! ### Warm restarts (R411-R413) -/

/-- WARM_RESTART: a core whose restart has begun loses its L1 lines, registers and CSRs and the packets it has begun, and the
restart is counted. -/
def warmRestart (c : Nat) (s : State) : State :=
  if s.coreState c = csRestarting then
    let s := (s.dropBegun c).modCore c (fun k => { k.restarted with bootCause := k.restart % 16, warm := min 255 (k.warm + 1) })
    s.countSat (RESTART_CNT (coreBase c)) (CORE_STAT_SAT (coreBase c)) 1 1
  else s

def execWarmRestart (core : CoreNo) (s : State) : Host.Outcome State Fault Refusal := .next (if s.dieOn (coreDie core) then warmRestart core s else s)

/-- Every H-core with nonzero ROLE has Failed (R496). -/
def State.hCoresFailed (s : State) : Bool :=
  (List.range 8).all (fun c => decide (s.roleOf c = 0) || decide (s.coreState c = csFailed))

/-- Both C-cores of a die have Failed (R493). -/
def State.cCoresFailed (s : State) (n : Nat) : Bool :=
  decide (s.coreState (8 + 2 * n) = csFailed) && decide (s.coreState (9 + 2 * n) = csFailed)

/-- The third failed self-test in a row (R413): the core is Failed, with what follows for the actuator (R493) or the part (R496). -/
def State.failCore (s : State) (c : Nat) : State :=
  let s := s.setCoreState c csFailed
  let n := (c - 8) / 2
  let dgr := decide (8 ≤ c) && s.cCoresFailed n
  let s := s.faultBit (coreFault c) 5 sevFault (if dgr then clsDegraded else clsCorrected) c 0
  if dgr then s.degrade n (CORE_FAULT (coreBase c)) 5
  else if c < 8 ∧ s.hCoresFailed then s.fatalCause (.cores c)
  else s

/-- WARM_RESTART_DONE: the self-test passes and the core starts, or it fails and the restart is repeated, three times at most. -/
def warmRestartDone (c : Nat) (pass : Bool) (s : State) : State :=
  if s.coreState c ≠ csRestarting then s
  else if pass then
    let s := (s.put (CORE_STAT_ST_FAILS (coreBase c)) 0).startCore c (s.coreOf c).bootCause
    s.raise (coreRestarted c)
  else
    let n := s.get (CORE_STAT_ST_FAILS (coreBase c)) + 1
    let s := (s.put (CORE_STAT_ST_FAILS (coreBase c)) n).faultBit (coreFault c) 4 sevNote clsCorrected c 0
    if 3 ≤ n then s.failCore c else s.modCore c (fun k => k.restarted)

def execWarmRestartDone (core : CoreNo) (pass : Bool) (s : State) : Host.Outcome State Fault Refusal :=
  .next (if s.dieOn (coreDie core) then warmRestartDone core pass s else s)

/-- CORE_CTL.START (R415): a core in reset with a nonzero ROLE starts. -/
def coreStart (c : Nat) (s : State) : State :=
  if s.coreState c = csReset ∧ s.roleOf c ≠ 0 then s.startCore c 0 else s

def execCoreStart (core : CoreNo) (s : State) : Host.Outcome State Fault Refusal := .next (s.access (coreDie core) (coreStart core))

/-- CORE_CTL.WARM (R411): a running core makes a warm restart now. -/
def coreWarm (c : Nat) (s : State) : State := if s.coreState c = csRunning then s.restartCore c 1 none else s

def execCoreWarm (core : CoreNo) (s : State) : Host.Outcome State Fault Refusal := .next (s.access (coreDie core) (coreWarm core))

/-! ### Custom CSRs (R407, R409, R414, R419, R421, R435) -/

/-- The lowest event pending and enabled for a core. -/
def State.claimable (s : State) (c : Nat) : Option Nat :=
  let m := (atD s.pend c 0 &&& (s.coreOf c).even).toNat
  (List.range 512).find? (fun e => bitOf m e)

/-- MEVCLAIM (R419): the lowest-numbered event pending and enabled, whose bit clears; bit 63 where there is none. -/
def State.claim (s : State) (c : Nat) : Nat × State :=
  match s.claimable c with
  | some e => (e, { s with pend := modAt s.pend c (fun p => p &&& ~~~(1#512 <<< e)) })
  | none => (2 ^ 63, s)

/-- mtval of an illegal instruction: RISC-V allows 0, or the instruction; which, the manual leaves open. -/
def illegalTval (w : Nat) : DWord := if Config.freeNat 59 0 % 2 = 1 then BitVec.ofNat 64 w else 0

/-- The rows that access a custom CSR (R407): machine mode only; in user mode the illegal-instruction exception, whose instruction the row does not
tell. -/
def State.csrRow (s : State) (c : Nat) (f : State → State) : State :=
  s.ifRuns c (fun s =>
    if (s.coreOf c).user then
      let (w, s) := s.draw 66
      s.modCore c (fun k => k.trap 2 false (illegalTval (w % 2 ^ 32)))
    else f s)

/-- MEVCLAIM_READ: the claim's value is the answer. -/
def execMevclaimRead (core : CoreNo) (s : State) : Host.Outcome State Fault Refusal :=
  .next (s.csrRow core (fun s => let r := s.claim core; r.2.answer (.data r.1)))

/-- Raise software event `e` (R421): 128 to 191; any other number is ignored and sets EV_ERR.BAD_SEND. -/
def State.sendEvent (s : State) (e : Nat) : State := if 128 ≤ e ∧ e ≤ 191 then s.raise e else s.noteBit evErr 1

def execMevsendWrite (core : CoreNo) (value : DWord) (s : State) : Host.Outcome State Fault Refusal :=
  .next (s.csrRow core (fun s => s.sendEvent (value.toNat % 512)))

/-- EV_SEND (R421). -/
def execEvSendWrite (value : Word) (s : State) : Host.Outcome State Fault Refusal :=
  .next (s.access 0 (fun s => s.sendEvent (value.toNat % 512)))

/-- MDINV (R386, R407): all ones invalidates the whole data cache, any other value the line that holds the address. -/
def Core.dinv (k : Core) (v : DWord) : Core :=
  if v = 0xFFFFFFFFFFFFFFFF then { k with l1d := [] }
  else { k with l1d := k.l1d.filter (fun e => decide (e.2.1 ≠ v.toNat / 64)) }

def execMdinvWrite (core : CoreNo) (value : DWord) (s : State) : Host.Outcome State Fault Refusal :=
  .next (s.csrRow core (fun s => s.modCore core (fun k => k.dinv value)))

/-- MTASKDONE (R407, R435): writing 1 acknowledges the wedge task; an H-core's write is ignored. -/
def taskDone (c : Nat) (v : DWord) (s : State) : State := if 8 ≤ c ∧ v = 1 then s.modCore c (fun k => { k with task := false }) else s

def execMtaskdoneWrite (core : CoreNo) (value : DWord) (s : State) : Host.Outcome State Fault Refusal :=
  .next (s.csrRow core (taskDone core value))

/-- MWDKICK (R414). -/
def wdKick (c : Nat) (s : State) : State := s.modCore c (fun k => { k with kick := s.mtime })

def execMwdkickWrite (core : CoreNo) (s : State) : Host.Outcome State Fault Refusal := .next (s.csrRow core (wdKick core))

/-- MRESCTL (R407, R409): INJECT and INJECT2. -/
def execMresctlWrite (core : CoreNo) (value : DWord) (s : State) : Host.Outcome State Fault Refusal :=
  .next (s.csrRow core (fun s => s.modCore core (fun k => { k with inject := value.toNat % 4 })))

/-! ### Interrupts (R406, R407) -/

/-- mip (R406, R410, R418): MTIP, MEIP and the imprecise machine check. -/
def State.mip (s : State) (c : Nat) : Nat :=
  let k := s.coreOf c
  2 ^ 7 * ofBool (decide (k.timecmp.toNat ≤ s.mtime)) + 2 ^ 11 * ofBool ((atD s.pend c 0 &&& k.even) ≠ 0) + 2 ^ 16 * ofBool k.mchk

/-- WFI ends when a bit is set in both mip and mie (R406). -/
def State.wake (s : State) (c : Nat) : State :=
  if Nat.land (s.mip c) (s.coreOf c).ie.toNat ≠ 0 then s.modCore c (fun k => { k with wfi := false }) else s

/-- TIMER_INTERRUPT (R407): MTIME has reached MTIMECMP; MTIP ends a WFI that it can end. -/
def timerInterrupt (c : Nat) (s : State) : State := if (s.coreOf c).timecmp.toNat ≤ s.mtime then s.wake c else s

def execTimerInterrupt (core : CoreNo) (s : State) : Host.Outcome State Fault Refusal := .next (s.ifRuns core (timerInterrupt core))

/-! ### The event fabric (R416-R421) -/

/-- EVENT_RAISE (R416-R418): a unit raises an event. -/
def execEventRaise (event : Fin 512) (s : State) : Host.Outcome State Fault Refusal := .next (s.raise event)

/-- The link ends at the HUB that an event of die `src` to die `dst` passes. -/
def eventPath (src dst : Nat) : List Nat :=
  let l := fun (d : Nat) => if d = 5 then [4] else if 1 ≤ d ∧ d ≤ 4 then [d - 1] else []
  l src ++ l dst

/-- EVENT_DELIVER (R420): the oldest delivery of an event number under way reaches its core, if the links it passes are up. -/
def eventDeliver (e : Nat) (s : State) : State :=
  match s.evFlight.find? (fun p => decide (p.1 = e)) with
  | none => s
  | some p =>
    if (eventPath (eventDie e) (coreDie p.2.1)).all (fun l => decide (s.get (LINK_STAT_STATE (linkBase l)) = 2)) then
      ({ s with evFlight := s.evFlight.erase p }.setPend p.2.1 e).wake p.2.1
    else s

def execEventDeliver (event : Fin 512) (s : State) : Host.Outcome State Fault Refusal := .next (eventDeliver event s)

/-- Whether a route byte names a C-core of a disabled die, or enables an event of a disabled die (R416). -/
def State.badRoute (s : State) (e r : Nat) : Bool :=
  (bitOf r 7 && !(s.dieOn (eventDie e))) || !(s.dieOn (coreDie (r % 16)))

/-- Put a route word: EV_ROUTE and the local copy of the source's die (R416). -/
def State.putRoutes (s : State) (w : Nat) (v : Word) : State :=
  let s := s.wr (EV_ROUTE w) v
  if w < 48 then s
  else if w < 112 then s.wr (EV_LOCAL_C ((w - 48) / 16) ((w - 48) % 16)) v
  else s.wr (EV_LOCAL_K (w - 112)) v

/-- EV_ROUTE_WRITE (R416). -/
def evRouteWrite (w : Nat) (v : Word) (s : State) : State :=
  let bytes := (List.range 4).map (fun j => bitsOf v.toNat (8 * j + 7) (8 * j))
  let bad := (List.range 4).map (fun j => s.badRoute (4 * w + j) (bytes.getD j 0))
  let kept := (List.range 4).foldl (fun a j => a + (if bad.getD j false then 0 else bytes.getD j 0) * 2 ^ (8 * j)) 0
  let s := s.putRoutes w (BitVec.ofNat 32 kept)
  if bad.any id then s.noteBit evErr 0 else s

def execEvRouteWrite (w : Fin 128) (value : Word) (s : State) : Host.Outcome State Fault Refusal :=
  .next (s.access 0 (evRouteWrite w value))

/-! ### The wedge task (R435) -/

/-- The core TASK of a channel die is routed to, if its route is enabled. -/
def State.taskCore (s : State) (n : Nat) : Option Nat :=
  let r := s.routeOf (chEvent n 32)
  if bitOf r 7 then some (r % 16) else none

/-- TASK_RAISE: at W + 1.20 µs. -/
def taskRaise (n : Nat) (s : State) : State :=
  let s := match s.taskCore n with
    | some c => s.modCore c (fun k => { k with task := true })
    | none => s
  s.raise (chEvent n 32)

def execTaskRaise (ch : Ch) (s : State) : Host.Outcome State Fault Refusal := .next (s.ifCh ch (taskRaise ch))

/-- TASK_LATE: at W + T − 0.50 µs the core has not written MTASKDONE. -/
def taskLate (n : Nat) (s : State) : State :=
  match s.taskCore n with
  | none => s
  | some c =>
    if 8 ≤ c ∧ (s.coreOf c).task then
      (s.put (CORE_STAT_LATE (coreBase c)) 1).countSat (LATE_CNT ((c - 8) / 2) ((c - 8) % 2)) (CORE_STAT_SAT (coreBase c)) 2 1
    else s

def execTaskLate (ch : Ch) (s : State) : Host.Outcome State Fault Refusal := .next (s.ifCh ch (taskLate ch))

/-! ### The Lomun sequencer: loading and starting (R424-R426, R432) -/

/-- A word of the control store; one never loaded is 0. -/
def Lomun.word (l : Lomun) (a : Nat) : BitVec 256 := fetch 0 l.store a

/-- LM_LOAD_DATA7_WRITE (R424): the staged word is stored in the customer region while RUN is 0, and the address advances; any other
write is ignored and sets LOAD_REJ. -/
def lmLoad (n : Nat) (v : Word) (s : State) : State :=
  let a := s.get (LM_LOAD_ADDR_WORD n)
  if 2560 ≤ a ∧ s.flag (LM_STAT_RUN n) = false then
    let l := s.lmuOf n
    let lo := (List.range 7).foldl (fun acc i => acc + (atD l.stage i 0).toNat * 2 ^ (32 * i)) 0
    let w := BitVec.ofNat 256 (lo + v.toNat * 2 ^ 224)
    (s.modLmu n (fun l => { l with store := store 0 l.store a w })).put (LM_LOAD_ADDR_WORD n) ((a + 1) % 4096)
  else s.noteBit (lmFault n) lmLoadRej

def execLmLoadData7Write (ch : Ch) (value : Word) (s : State) : Host.Outcome State Fault Refusal :=
  .next (s.access (ch + 1) (lmLoad ch value))

/-- LM_CTL.START (R425): the digest of the customer region begins; a sequencer that runs is left alone. -/
def lmStart (n : Nat) (s : State) : State :=
  if s.flag (LM_STAT_RUN n) then s else (s.modLmu n (fun l => { l with st := .verify, startDue := false })).put (LM_STAT_VERIFY n) 1

def execLmStart (ch : Ch) (s : State) : Host.Outcome State Fault Refusal := .next (s.access (ch + 1) (lmStart ch))

/-- The 12 words of a 48-byte digest, from a register on. -/
def State.putWords (s : State) (a : Nat) (ws : List Word) : State := ((List.range ws.length).zip ws).foldl (fun s p => s.wr (a + 4 * p.1) p.2) s

/-- The bytes of words 2,560 to 4,095, each least significant byte first. -/
def Lomun.customer (l : Lomun) : List Byte := ((List.range 1536).map (fun i => toLe 32 (l.word (2560 + i)).toNat)).flatten

/-- LM_VERIFY_DONE (R425): the digest is in LM_DIGEST; where it equals LM_EXPECT the sequencer starts at the next servo gate opening. -/
def lmVerifyDone (n : Nat) (s : State) : State :=
  if (s.lmuOf n).st ≠ .verify then s
  else
    let d := wordsOf 12 (Config.sha384 (s.lmuOf n).customer)
    let s := (s.putWords (LM_DIGEST n 0) d).put (LM_STAT_VERIFY n) 0
    if (List.range 12).all (fun k => decide (s.rd (LM_EXPECT n k) = d.getD k 0)) then
      s.modLmu n (fun l => { l with st := .stopped, startDue := true })
    else (s.modLmu n (fun l => { l with st := .stopped, startDue := false })).noteBit (lmFault n) lmStartRej

def execLmVerifyDone (ch : Ch) (s : State) : Host.Outcome State Fault Refusal := .next (s.ifCh ch (lmVerifyDone ch))

/-- LM_CTL.STOP (R432): the sequencer, between two microwords, stops and the data gates close; a START not yet begun is dropped. -/
def lmStop (n : Nat) (s : State) : State :=
  if s.flag (LM_STAT_RUN n) then s.lmHalt n else (s.modLmu n (fun l => { l with st := .stopped, startDue := false })).put (LM_STAT_VERIFY n) 0

def execLmStop (ch : Ch) (s : State) : Host.Outcome State Fault Refusal := .next (s.access (ch + 1) (lmStop ch))

/-- LM_CTL.RELOAD (R426): ignored while RUN is 1. -/
def lmReload (n : Nat) (s : State) : State := if s.flag (LM_STAT_RUN n) then s else s.modLmu n (fun l => { l with reload := true })

def execLmReload (ch : Ch) (s : State) : Host.Outcome State Fault Refusal := .next (s.access (ch + 1) (lmReload ch))

/-- LM_RELOAD_DONE (R426): words 0 to 2,559 are SIGNET's retained copy again. -/
def lmReloadDone (n : Nat) (s : State) : State :=
  s.modLmu n (fun l => if l.reload then { l with reload := false, store := l.kept ++ l.store.filter (fun e => decide (2560 ≤ e.1)) } else l)

def execLmReloadDone (ch : Ch) (s : State) : Host.Outcome State Fault Refusal := .next (s.ifCh ch (lmReloadDone ch))

/-! ### The Keeper context (R22, R487) -/

/-- KEEPER_CONTEXT_RESIDUE (R487): the Keeper firmware restarts within 200 µs and then runs as before; the beat, timed in hardware, and
all that the manual gives the machine stay as they are. -/
def keeperResidue (s : State) : State := { s with keeper := s.keeper }

def execKeeperContextResidue (s : State) : Host.Outcome State Fault Refusal := .next (keeperResidue s)

end Sys2Proof.Machine
end

