-- ==== Sys2Proof/Machine/Clasps.lean ====
section
/-!
DEFINITION. The Clasp supervisory lane (file 06): the beat, its command and reply frames, the boot sequence, and the commands firmware queues.
-/

namespace Sys2Proof.Machine

/-- Commands of a frame (R186). -/
def clBeat : Nat := 0
def clConfig : Nat := 1
def clArm : Nat := 2
def clRetract : Nat := 3
def clBridge : Nat := 4
def clIdent : Nat := 5
def clClear : Nat := 6

/-- A 48-bit frame over its 40 upper bits, with the CRC of R186 and R187. -/
def clasp48 (x : Nat) : Nat := withCrc8 40 x

/-- The command frame of a beat (R186). -/
def ClsCmd.frame (c : ClsCmd) (seq : Nat) : Nat :=
  clasp48 (c.cmd * 2 ^ 36 + seq * 2 ^ 32 + (c.index % 256) * 2 ^ 24 + (c.value % 65536) * 2 ^ 8 + (c.lanes % 16) * 16)

/-- The beat without a command (R188). -/
def ClsCmd.beat : ClsCmd := ⟨clBeat, 0, 0, 0, false⟩

/-- The first beats of a boot (R189): CONFIG 00h-05h, IDENT, ARM of every enabled lane, BRIDGE 1. -/
def State.claspBoot (s : State) : List ClsCmd :=
  let v := [s.imgNat Image.retractI, s.imgNat Image.retractT, s.imgNat Image.brakeDelay, s.imgNat Image.vmotLimit,
    s.imgNat Image.beat, s.imgNat Image.iMax]
  v.zipIdx.map (fun p => ⟨clConfig, 0, p.2, p.1, true⟩) ++
    [⟨clIdent, 0, 0, 0, true⟩, ⟨clArm, s.imgNat Image.chMask, 0, 0, true⟩, ⟨clBridge, 0, 0, 1, true⟩]

/-- Boot stage 4 reaches the Keeper (R188, R189): the beat starts, or runs on, with the boot sequence. -/
def State.startBeat (s : State) : State :=
  (s.put CLS_STAT_BEATING 1).modCls (fun c => { c with boot := s.claspBoot, badId := false })

/-- The beat stops (R188): KPR reset or the Fatal sequence. -/
def State.stopBeat (s : State) : State :=
  (s.put CLS_STAT_BEATING 0).modCls (fun c => { c with sent := none })

/-- A command the hardware itself sends, ahead of queued ones (R361, R497, R526). -/
def State.claspUrgent (s : State) (c : ClsCmd) : State := s.modCls (fun k => { k with urgent := k.urgent ++ [c] })

/-- The command the next beat carries: BRIDGE 1 of the boot sequence is left out after a wrong identity (R189). -/
def Clasps.head (c : Clasps) : ClsCmd :=
  match c.urgent with
  | u :: _ => u
  | [] =>
    match c.boot.filter (fun b => !(c.badId && decide (b.cmd = clBridge))) with
    | b :: _ => b
    | [] => c.queued.getD ClsCmd.beat

/-- CLASP_BEAT (R185, R186, R188): SEQ advances and the frame goes out after its sync 1010_1101b. -/
def claspBeat (s : State) : State :=
  if s.flag CLS_STAT_BEATING then
    let q := (s.clasps.seq + 1) % 16
    let c := s.clasps.head
    s.modCls (fun k => { k with seq := q, sent := some (c, 0xAD * 2 ^ 48 + c.frame q) })
  else s

def execClaspBeat (s : State) : Host.Outcome State Fault Refusal := .next (claspBeat s)

/-- A sent command has been answered (R188, R192). -/
def State.claspAnswered (s : State) (c : ClsCmd) : State :=
  let k := s.clasps
  if k.urgent.head? = some c then s.modCls (fun k => { k with urgent := k.urgent.tail })
  else if c.boot then s.modCls (fun k => { k with boot := k.boot.erase c })
  else if k.queued = some c then (s.modCls (fun k => { k with queued := none })).put CLS_STAT_QUEUED 0
  else s

/-- A boot IDENT gives another identity than PS_ID (R189): SPIN_FAULT.PS_ID, and every actuator is Degraded. -/
def State.checkId (s : State) (c : ClsCmd) (ident : Option Nat) : State :=
  let want := s.imgNat Image.psId
  if c.boot ∧ c.cmd = clIdent ∧ want ≠ 0 ∧ ident ≠ some want then
    ((s.modCls (fun k => { k with badId := true })).faultBit spinFault 8 sevNote clsDegraded noInst 0).degradeAll SPIN_FAULT 8
  else s

/-- A STATUS reply (R187, R191): BRIDGE and ARMED follow it; a bit that rises is latched and raises event 468. -/
def State.claspStatus (s : State) (data : Nat) : State :=
  let rose := Nat.land (Nat.land data 0xFFFFFFF8) (0xFFFFFFFF - Nat.land s.clasps.status 0xFFFFFFFF)
  let s := (s.put CLS_STAT_BRIDGE (bitsOf data 10 10)).put CLS_STAT_ARMED (bitsOf data 27 24)
  let s := s.modCls (fun k => { k with status := data })
  if rose = 0 then s else (s.setNum CLS_PSFAULT (Nat.lor (s.num CLS_PSFAULT) rose)).raise 468

/-- The reply of an exchange, or none (R185, R187, R191): its sync 1011_0101b and 48 bits. A reply that does not echo the frame's SEQ is not one to this exchange. -/
def claspReply (reply : Option Nat) (s : State) : State :=
  match s.clasps.sent with
  | none => s
  | some (c, _) =>
    let s := s.modCls (fun k => { k with sent := none })
    let good := match reply with
      | some r => decide (r / 2 ^ 48 = 0xB5) && decide (crc8 (bitsMsb 40 (r / 256 % 2 ^ 40)) = r % 256) && decide (bitsOf r 43 40 = s.clasps.seq)
      | none => false
    if good then
      let r := reply.getD 0
      let kind := bitsOf r 47 44
      let data := bitsOf r 39 8
      let s := s.modCls (fun k => { k with miss := 0, silent := false })
      let s :=
        if kind = 0 then s.claspStatus data
        else if kind = 2 then
          ((s.put CLS_STAT_PS_ID (bitsOf data 31 16)).put CLS_STAT_GEN (bitsOf data 15 8)).checkId c (some (bitsOf data 31 16))
        else if kind = 15 then (s.noteBit clsErr 0).checkId c none
        else s
      s.claspAnswered c
    else (s.modCls (fun k => { k with miss := k.miss + 1 })).noteBit clsErr 1

def execClaspReply (reply : Option Nat) (s : State) : Host.Outcome State Fault Refusal := .next (claspReply reply s)

/-- CLASP_NO_REPLY (R191): 16 consecutive beats without a good reply set NO_REPLY with a Fault record and raise event 468, once for each such
run. -/
def execClaspNoReply (s : State) : Host.Outcome State Fault Refusal :=
  .next (
    if 16 ≤ s.clasps.miss ∧ s.clasps.silent = false then
      ((s.modCls (fun k => { k with silent := true })).faultBit clsErr 2 sevFault clsCorrected noInst 0).raise 468
    else s)

/-- Queue a command of CLS_CMD (R188, R192): while one is queued it is dropped and BUSY set. -/
def clsQueue (cmd lanes index value : Nat) (s : State) : State :=
  if s.clasps.queued.isSome then s.noteBit clsErr 3
  else (s.modCls (fun k => { k with queued := some ⟨cmd, lanes, index, value, false⟩ })).put CLS_STAT_QUEUED 1

/-- A write of CLS_CMD. -/
def clsWrite (v : Nat) (s : State) : State :=
  let lanes := bitsOf v 11 8
  match bitsOf v 2 0 with
  | 1 => clsQueue clArm lanes 0 0 s
  | 2 => clsQueue clRetract lanes 0 0 s
  | 3 => clsQueue clClear 0 0 0 s
  | 4 => clsQueue clIdent 0 0 0 s
  | 5 => clsQueue clBridge 0 0 (s.get CLS_ARG_VALUE % 2) s
  | 6 => clsQueue clConfig 0 (s.get CLS_ARG_INDEX) (s.get CLS_ARG_VALUE) s
  | _ => s

def execClsArm (lanes : Fin 16) (s : State) : Host.Outcome State Fault Refusal := .next (s.access 5 (clsWrite (lanes.val * 256 + 1)))
def execClsRetract (lanes : Fin 16) (s : State) : Host.Outcome State Fault Refusal := .next (s.access 5 (clsWrite (lanes.val * 256 + 2)))
def execClsClear (s : State) : Host.Outcome State Fault Refusal := .next (s.access 5 (clsWrite 3))
def execClsIdent (s : State) : Host.Outcome State Fault Refusal := .next (s.access 5 (clsWrite 4))
def execClsBridge (s : State) : Host.Outcome State Fault Refusal := .next (s.access 5 (clsWrite 5))
def execClsConfig (s : State) : Host.Outcome State Fault Refusal := .next (s.access 5 (clsWrite 6))

end Sys2Proof.Machine
end

