-- ==== Sys2Proof/Machine/Domains.lean ====
section
/-!
DEFINITION. The 84 power domains (R507, R508): what each holds, the state it has at each rung, and what is lost when it goes Off; the reset of a channel die and of the HUB (R437).
-/

namespace Sys2Proof.Machine

/-! ### The table of domains (R507) -/

/-- The states of a row of R507's table, rungs 0 to 4. -/
def pdRow (a b c d e : PdState) (rung : Nat) : PdState := ([a, b, c, d, e][rung]?).getD .off

/-- A HUB domain's state at a rung. -/
def hubDomain (d rung : Nat) : PdState :=
  let f := fun a b c d e => pdRow a b c d e rung
  if d < 8 then f .on .on .ret .off .off
  else if d < 11 then f .on .on .on .ret .off
  else if d = 11 then f .on .on .ret .off .off
  else if d = 12 then f .on .on .off .off .off
  else if d < 15 then f .on .on .ret .off .off
  else if d < 19 then f .on .ret .ret .off .off
  else if d = 19 then f .on .ret .ret .ret .off
  else if d = 20 then f .on .on .on .on .off
  else if d < 23 then f .on .on .on .ret .off
  else if d < 25 then f .dem .dem .dem .dem .off
  else if d = 25 then f .on .on .ret .off .off
  else if d = 26 then f .on .on .ret .ret .off
  else f .on .on .on .off .off

/-- The state of domain k of a channel die at a rung. -/
def chDomain (k rung : Nat) : PdState :=
  let f := fun a b c d e => pdRow a b c d e rung
  if k = 0 then f .on .on .on .ret .off
  else if k = 1 then f .on .on .off .off .off
  else if k < 5 then f .on .ret .ret .off .off
  else if k = 5 ∨ k = 9 then f .on .on .ret .off .off
  else if k = 7 then f .on .on .on .off .off
  else f .on .on .ret .ret .off

/-- The state of a KPR or MEM domain at a rung. -/
def kprDomain (d rung : Nat) : PdState :=
  let f := fun a b c d e => pdRow a b c d e rung
  if d = 72 ∨ d = 77 then .on
  else if d = 73 ∨ d = 79 then f .on .on .on .on .ret
  else if d < 77 then f .on .on .on .off .off
  else if d = 78 then .dem
  else f .on .on .ret .off .off

/-- The state R507 gives a domain at a rung, groups aside. -/
def domainAt (d rung : Nat) : PdState :=
  if d < 28 then hubDomain d rung else if d < 72 then chDomain ((d - 28) % 11) rung else kprDomain d rung

/-- The domain that the registers of a unit of a die lie in (R507). -/
def unitDomain (die u : Nat) : Nat :=
  if die = 0 then ([21, 8, 10, 10, 11, 12, 13, 15, 16, 17, 18, 19, 20, 21, 22, 23, 24, 25, 21, 21][u]?).getD 21
  else if die < 5 then 28 + 11 * (die - 1) + ([0, 1, 1, 2, 3, 4, 4, 0, 5, 6, 7, 8, 0, 7, 9, 10, 0, 0][u]?).getD 0
  else ([72, 72, 76, 72, 72, 74, 75, 77, 72, 72, 78, 72, 78, 73, 79, 79][u]?).getD 72

/-- Whether the unit at a fabric address serves accesses (R508): its domain is On, or powers up for the request (Dem). A domain in Ret or Off serves
none, and the access ends with a bus error, which is the model's choice (notes/assumptions/43.md). -/
def State.served (s : State) (a : Nat) : Bool :=
  let d := unitDomain (addrDie a) (addrUnit a)
  let p := atD s.lad.pd d .off
  [72, 77, 78].contains d || decide (p = .on) || decide (p = .dem)

/-- How powered a state is: On, Dem, Ret, Off (R508). -/
def PdState.rank : PdState → Nat
  | .off => 0
  | .ret => 1
  | .dem => 2
  | .on => 3

/-- The channel die of a domain. -/
def domainCh (d : Nat) : Option Nat := if 28 ≤ d ∧ d < 72 then some ((d - 28) / 11) else none

/-- Whether a domain belongs to a die that is up: those of a disabled die, of one that waits for its supplies and of one that stays Off
are Off at every rung (R38, R39, R508, R521). -/
def State.domainOn (s : State) (d : Nat) : Bool :=
  match domainCh d with
  | some n => s.chUp n
  | none => true

/-- The state a domain has at a rung by itself (R507, R508): Off on a die that is not up. -/
def State.ownState (s : State) (d rung : Nat) : PdState := if s.domainOn d then domainAt d rung else .off

/-- The state a domain takes at a rung (R508): Off on a disabled die, and the most powered state of its group's members. -/
def State.domainState (s : State) (d rung : Nat) : PdState :=
  if s.domainOn d = false then .off
  else
    let gs := match s.img with
      | some i => i.groups
      | none => []
    match gs.find? (fun g => bitOf g d) with
    | none => domainAt d rung
    | some g =>
      (List.range 84).foldl (fun b e => if bitOf g e && decide (b.rank < (s.ownState e rung).rank) then s.ownState e rung else b) (s.ownState d rung)

/-- PD_STAT shows the domains that are On (file 17). -/
def State.showDomains (s : State) : State :=
  (List.range 3).foldl (fun s j =>
    s.setNum (PD_STAT j) ((List.range 32).foldl (fun w b =>
      if decide (32 * j + b < 84) && decide (atD s.lad.pd (32 * j + b) .off = .on) then w + 2 ^ b else w) 0)) s

/-- DRAMC_STAT.MODE while DRAMC has power (R378, R512): active with every MEM domain On, deep power-down with one Off, self-refresh else. -/
def State.dramMode (s : State) : State :=
  let ms := (List.range 4).map (fun k => atD s.lad.pd (80 + k) .off)
  if atD s.lad.pd 13 .off = .off then s
  else s.put DRAMC_STAT_MODE (if ms.all (fun p => decide (p = .on)) then 1 else if ms.contains .off then 3 else 2)

/-! ### What goes with a unit -/

/-- The registers of the addresses a predicate names return to their reset values (R15), with what was captured of them and the
Expert overrides of their parameters. -/
def State.resetUnits (s : State) (which : Nat → Bool) : State :=
  { s.resetRegs which with
    latch := s.latch.filter (fun e => !(which e.1)), overrides := s.overrides.filter (fun a => !(which a)) }

/-- The registers of some units of a die. -/
def State.resetUnitList (s : State) (die : Nat) (us : List Nat) : State :=
  s.resetUnits (fun a => decide (addrDie a = die) && us.contains (addrUnit a))

/-- The check marks of an array between two offsets are gone with its contents. -/
def State.dropMarks (s : State) (m lo hi : Nat) : State :=
  { s with marks := s.marks.filter (fun e => !(decide (m * 0x10000000000 + lo ≤ e.1) && decide (e.1 < m * 0x10000000000 + hi))) }

/-- Cores lose their state. -/
def State.dropCore (s : State) (c : Nat) : State := s.modCore c Core.cold

/-- A namespace as it stands when the front end has lost its state: the format is the media's, a reservation stays only with PTPL
(R328), and a saved time limit returns (file 10, feature 05h). -/
def Ns.kept (n : Ns) (saved : Option Nat) : Ns :=
  let t := saved.getD 0
  { Ns.reset with
    fmt := n.fmt, pi := n.pi, ext := n.ext, tler := t % 65536, dulbe := bitOf t 16, ptpl := n.ptpl,
    resType := if n.ptpl then n.resType else 0, resHolder := if n.ptpl then n.resHolder else 0,
    resGen := if n.ptpl then n.resGen else 0, regs := if n.ptpl then n.regs else [] }

/-- The front end loses its state. -/
def State.hostLost (s : State) : State :=
  { s with
    staged := none
    host := { HostIf.reset with
      ns := Vector.ofFn (fun i : Fin 16 => (s.ns i).kept (look (0x05 + 256 * (i.val + 1)) s.host.saved))
      ctrls := Vector.replicate 64 { Ctrl.reset with feats := s.host.saved }
      saved := s.host.saved, lost := s.host.lost, mgmtCfg := s.host.mgmtCfg } }

/-- What SIGNET keeps of the Colophon over a loss of its power that is no boot (R436, R456): the record and its slots; the work under
way, the LMS node cache and the reservation are gone (R452, R453). -/
def Signet.resumed (g : Signet) : Signet := { g with job := none, nextTree := false, resEnd := 0 }

/-- The contents of a HUB domain are lost (R508). -/
def State.hubLost (s : State) (d : Nat) : State :=
  if d < 8 then (s.dropCore d).put (CORE_STAT_STATE (coreBase d)) 0
  else if d < 10 then s.resetUnits (fun a => decide (a = PORT_STAT (d - 8)))
  else if d = 10 then (s.resetUnitList 0 [2, 3]).hostLost
  else if d = 11 then { s.resetUnitList 0 [4] with bufs := [], poolFree := Vector.replicate 16 [] }
  else if d = 12 then { (s.resetUnitList 0 [5]).dropMarks 1 0 0x10000000000 with lines := [], victims := [] }
  else if d = 13 then
    let s := (s.resetUnitList 0 [6]).dropMarks 0 0 0x10000000000
    ({ s with valid := [], dram := [], dcmdFull := false, spares := s.sparesKept } : State).put DRAMC_STAT_SPARES s.sparesKept.length
  else if d = 15 then { s.resetUnitList 0 [7] with keys := Vector.replicate 16 none, keyJob := none }
  else if d = 16 then
    let s := s.resetUnits (fun a => decide (addrDie a = 0) && decide (addrUnit a = 8) && !(decide (MEAS 0 0 ≤ a)) && decide (a ≠ COLO_STAT))
    { s.put COLO_STAT_TREE_READY 0 with sig := s.sig.resumed, upd := ⟨none, none, none, s.upd.patchRun⟩ }
  else if d = 17 then s.resetUnitList 0 [9]
  else if d = 18 then { s.resetUnitList 0 [10] with smFree := [] }
  else if d = 19 then { s.resetUnitList 0 [11] with xsJob := none, xsHeld := false }
  else if d = 20 then s.resetUnitList 0 [12]
  else if d = 21 then
    { (s.resetUnitList 0 [0, 13, 18, 19]).calDown 0 with
      pend := Vector.ofFn (fun c : Fin 16 => if c.val < 8 then 0 else atD s.pend c 0), evFlight := [], dbg := ⟨none, none⟩,
      pins := { s.pins with rx := [], tx := [] } }
  else if d = 22 then
    { s.resetUnitList 0 [14] with
      links := Vector.ofFn (fun e : Fin 10 => if e.val < 5 then Link.reset else s.link e), msgFlight := [] }
  else if d = 23 then { s.resetUnitList 0 [15] with otpJob := none }
  else if d = 25 then
    let s := s.resetUnitList 0 [17]
    { s.dropMarks 2 0 0x100000 with
      hsram := s.hsram.wipe 0 0x100000, sramValid := modAt s.sramValid 0 (fun l => l.filter (fun x => decide (0x4000 ≤ x))) }
  else if d = 26 then
    { s.dropMarks 2 0x100000 0x200000 with
      hsram := s.hsram.wipe 0x100000 0x100000, sramValid := modAt s.sramValid 0 (fun l => l.filter (fun x => decide (x < 0x4000))) }
  else s

/-- The contents of domain k of channel die n are lost (R508). -/
def State.chLost (s : State) (n k : Nat) : State :=
  if k = 0 then
    { (s.resetUnitList (n + 1) [0, 7, 12, 16, 17]).calDown (n + 1) with
      flu := modAt s.flu n (fun _ => Fly.reset), pau := modAt s.pau n (fun _ => Preamp.reset),
      links := modAt s.links (5 + n) (fun _ => Link.reset),
      msgFlight := s.msgFlight.filter (fun p => decide (p.dst ≠ n) && decide (p.dst ≠ 5 + n)),
      evFlight := s.evFlight.filter (fun e => decide (eventDie e.1 ≠ n + 1) && decide (coreDie e.2.1 ≠ n + 1)) }
  else if k = 1 then (s.resetUnitList (n + 1) [1, 2]).calDown (10 + n)
  else if k = 2 then { s.resetUnitList (n + 1) [3] with det := modAt s.det n (fun _ => Detect.reset) }
  else if k = 3 then s.resetUnitList (n + 1) [4]
  else if k = 4 then
    { (s.resetUnitList (n + 1) [5, 6]).calDown (14 + n) with
      wru := modAt s.wru n (fun _ => WriteU.reset), asu := modAt s.asu n (fun _ => Assist.reset) }
  else if k = 5 then { (s.resetUnitList (n + 1) [8]).calDown (6 + n) with demod := modAt s.demod n (fun _ => Demod.reset) }
  else if k = 6 then { s.resetUnitList (n + 1) [9] with loop := modAt s.loop n (fun _ => Loop.reset), loopPre := modAt s.loopPre n (fun _ => LoopPre.reset) }
  else if k = 7 then
    { s.resetUnitList (n + 1) [10, 13] with hold := modAt s.hold n (fun _ => Hold.reset), clv := modAt s.clv n (fun _ => false), clvFrame := modAt s.clvFrame n (fun _ => 0) }
  else if k = 8 then { s.resetUnitList (n + 1) [11] with lmu := modAt s.lmu n (fun _ => Lomun.reset) }
  else if k = 9 then
    let s := s.resetUnitList (n + 1) [14]
    { (s.dropCore (8 + 2 * n)).dropCore (9 + 2 * n) with
      pend := modAt (modAt s.pend (8 + 2 * n) (fun _ => 0)) (9 + 2 * n) (fun _ => 0) }
  else
    { (s.resetUnitList (n + 1) [15]).dropMarks (3 + n) 0 0x10000000000 with
      csram := modAt s.csram n (fun _ => []), sramValid := modAt s.sramValid (1 + n) (fun _ => []) }

/-- The contents of a KPR or MEM domain that goes Off are lost (R508). A MEM domain in deep power-down has lost DRAM's contents, with them the
pools (R378); that one domain takes all of DRAM with it, a unit being spread over the channels, is the model's choice
(notes/assumptions/32.md). -/
def State.kprLost (s : State) (d : Nat) : State :=
  if d = 74 then { s.resetUnitList 5 [5] with spin := Spin.reset }
  else if d = 75 then { s.resetUnitList 5 [6] with shock := ⟨false, 0, Vector.replicate 4 false⟩ }
  else if d = 76 then { s.resetUnitList 5 [2] with wl := Vector.replicate 4 WedgeLine.reset }
  else if 80 ≤ d then { (s.dropMarks 0 0 0x10000000000).poolsOff with dram := [] }
  else s

/-- The contents of a domain are lost. -/
def State.domainLost (s : State) (d : Nat) : State :=
  if d < 28 then s.hubLost d
  else if d < 72 then s.chLost ((d - 28) / 11) ((d - 28) % 11)
  else s.kprLost d

/-- What a domain's change of state does to what it holds (R508). -/
def State.setDomain (s : State) (d : Nat) (p : PdState) : State :=
  let old := atD s.lad.pd d .off
  let s := s.modLad (fun l => { l with pd := modAt l.pd d (fun _ => p) })
  if p = .off ∧ old ≠ .off then s.domainLost d else s

/-- PD_HUB_XSPI, PD_HUB_FABRIC, PD_HUB_TSUKU and PD_HUB_PLL, which a log copy needs (R513, R517). -/
def copyDomains : List Nat := [19, 21, 22, 27]

/-- The copy's domains are On while it is written. -/
def State.copyPower (s : State) : State := (copyDomains.foldl (fun s d => s.setDomain d .on) s).showDomains

/-- A copy has been written: its domains take the states of the rung in force (R513, R517), in descending order. -/
def State.copyRelease (s : State) : State :=
  let r := s.get LADDER_STAT_RUNG
  if r = 0 then s else (copyDomains.reverse.foldl (fun s d => s.setDomain d (s.domainState d r)) s).showDomains

/-! ### Dies -/

/-- Every domain of channel die n goes Off, and what it held is lost. -/
def State.chOff (s : State) (n : Nat) : State :=
  let s := (List.range 11).foldl (fun s k => s.chLost n k) s
  let s := s.modLad (fun l => { l with pd := Vector.ofFn (fun d : Fin 84 => if domainCh d = some n then .off else atD l.pd d .off) })
  (s.put (DIE_STAT_STATE (unitBase (n + 1) 0)) 0).showDomains

/-- A channel die that runs goes Off (R521, R526): its link fails, and its actuator is Degraded (R25, R493). -/
def State.chDown (s : State) (n : Nat) : State :=
  let s := (s.chOff n).put (DIE_STAT_ENABLED (unitBase (n + 1) 0)) 1
  ({ s with downDies := insertN n s.downDies }.linkBoth n 0xF 0).linkDegraded n

/-- The slots of the Colophon's record that a full boot keeps: MEAS0 to MEAS2 (R436). -/
def isKeptMeas (a : Nat) : Bool := decide (MEAS 0 0 ≤ a) && decide (a < MEAS 3 0)

/-- The HUB and every channel die are reset (R437): their registers, tables, memories and work are gone; DRAM's valid bitmap clears as
DRAMC's domain powers up again (R376). -/
def State.hubReset (s : State) : State :=
  let s := (List.range 4).foldl (fun s n => s.chOff n) s
  let s := (List.range 28).foldl (fun s d => s.hubLost d) s
  let s := s.resetUnits (fun a => decide (addrDie a = 0) && !(isKeptMeas a))
  let s := s.modSig (fun g => { Signet.reset with records := g.records })
  { s with upd := ⟨none, none, none, 0⟩, chWait := [], downDies := [], links := modAt s.links 9 (fun _ => Link.reset), reloadUs := 0,
           lapStart := Vector.replicate 7 0, alog := { s.alog with snap := [], copy := s.alog.copy } }

end Sys2Proof.Machine
end

