-- ==== Sys2Proof/Machine/Logs.lean ====
section
/-!
DEFINITION. The Accession Log (file 16, R492-R506): records entering the array, records written by firmware, freezing, the copies in flash and their restoration, the log page, and writes of ACT_STATE.
-/

namespace Sys2Proof.Machine

/-! ### Records -/

/-- The 32 bytes of a record (R499). -/
def LogRec.bytes (r : LogRec) : List Byte :=
  toLe 5 r.optime ++ toLe 3 r.pcycle ++ toLe 4 r.tstamp ++ toLe 1 (r.sev % 4 + 4 * r.cls) ++ toLe 1 r.source ++ toLe 2 r.offset ++
    toLe 1 r.bit ++ toLe 1 r.inst ++ toLe 6 r.recno ++ toLe 4 r.value ++ toLe 4 r.detail

/-- The record 32 bytes hold. -/
def recordOf (b : List Byte) : LogRec :=
  { optime := fieldLe b 0 5, pcycle := fieldLe b 5 3, tstamp := fieldLe b 8 4, sev := fieldLe b 12 1 % 4, cls := fieldLe b 12 1 / 4 % 8,
    source := fieldLe b 13 1, offset := fieldLe b 14 2, bit := fieldLe b 16 1, inst := fieldLe b 17 1, recno := fieldLe b 18 6,
    value := fieldLe b 24 4, detail := fieldLe b 28 4 }

/-- Entry i of the array as bytes: an empty entry reads 0 (R499). -/
def State.logEntry (s : State) (i : Nat) : List Byte :=
  match look i s.logArray with
  | some r => r.bytes
  | none => List.replicate 32 0

/-- ALOG_HELD and ALOG_NEWEST follow the array. -/
def State.logShow (s : State) : State :=
  let newest := s.logArray.foldl (fun (b : Nat × Nat) e => if b.2 < e.2.recno then (e.1, e.2.recno) else b) (0, 0)
  (s.put ALOG_HELD_COUNT s.logArray.length).put ALOG_NEWEST_INDEX newest.1

/-- An empty entry, if the array has one (R501): which one of them is open. -/
def State.emptyEntry (s : State) : Option Nat × State :=
  let free := (List.range 8192).filter (fun i => (look i s.logArray).isNone)
  let (k, s) := s.draw 42
  if free.isEmpty then (none, s) else (some (free.getD (k % free.length) 0), s)

/-- The entry a record overwrites in a full array (R501): the lowest RECNO among those of its severity or below. -/
def victim (sev : Nat) (l : List (Nat × LogRec)) : Option Nat :=
  let c := l.filter (fun e => decide (e.2.sev ≤ sev))
  (c.foldl (fun (b : Option (Nat × Nat)) e => match b with
    | none => some (e.1, e.2.recno)
    | some v => if e.2.recno < v.2 then some (e.1, e.2.recno) else b) none).map (fun v => v.1)

/-- Place a record in the array (R501). -/
def State.logPlace (s : State) (r : LogRec) : State :=
  let put := fun (s : State) (i : Nat) =>
    let s := ({ s with logArray := place i r s.logArray } : State).logShow
    if sevFault ≤ r.sev then s.raise 480 else s
  if s.logArray.length < 8192 then
    match s.emptyEntry with
    | (some i, s) => put s i
    | (none, s) => s
  else
    match victim r.sev s.logArray with
    | some i => put s i
    | none => s.noteDrop

/-- ALOG_ENTER (R500-R502): the oldest queued record enters the array, unless the log is frozen. -/
def alogEnter (s : State) : State :=
  match s.logQueue, s.alog.frozen with
  | r :: rest, none => ({ s with logQueue := rest } : State).logPlace r
  | _, _ => s

def execAlogEnter (s : State) : Host.Outcome State Fault Refusal := .next (alogEnter s)

/-- WR_GO_WRITE (R499): the record of a core, or of the Keeper firmware through block 16. A record of severity Fatal starts no Fatal
sequence. -/
def wrGo (c : Nat) (v : Word) (s : State) : State :=
  let src := if c = 16 then 5 * 32 + 5 else coreDie c * 32 + (if c < 8 then 18 else 14)
  s.log { optime := 0, pcycle := 0, tstamp := 0, sev := s.get (WR_HDR_SEV c), cls := s.get (WR_HDR_CLASS c), source := src, offset := 0xFFFF,
          bit := s.get (WR_HDR_BIT c), inst := v.toNat % 256, recno := 0, value := s.num (WR_VALUE c), detail := s.num (WR_DETAIL c) }

def execWrGoWrite (block : Fin 17) (value : Word) (s : State) : Host.Outcome State Fault Refusal := .next (s.access 5 (wrGo block value))

/-! ### Freezing (R502) -/

def alogFreeze (s : State) : State :=
  match s.alog.frozen with
  | some _ => s
  | none => (s.modLog (fun l => { l with frozen := some s.mtime })).put ALOG_STAT_FROZEN 1

def State.alogUnfreeze (s : State) : State := (s.modLog (fun l => { l with frozen := none })).put ALOG_STAT_FROZEN 0

def execAlogFreeze (s : State) : Host.Outcome State Fault Refusal := .next (s.access 5 alogFreeze)

def execAlogUnfreeze (s : State) : Host.Outcome State Fault Refusal := .next (s.access 5 State.alogUnfreeze)

/-- FREEZE_TIMEOUT (R502): 60 s of a freeze have passed. -/
def freezeTimeout (s : State) : State := if s.passed s.alog.frozen 60000000 then s.alogUnfreeze else s

def execFreezeTimeout (s : State) : Host.Outcome State Fault Refusal := .next (freezeTimeout s)

/-! ### Copies in flash (R504-R506) -/

/-- Bytes of a copy slot. -/
def copySize : Nat := 260 * 1024

/-- The log partition: its offset and its copy slots; none without an image. -/
def State.logPart (s : State) : Option (Nat × Nat) :=
  match s.img with
  | none => none
  | some i => (i.partitionOf 3).map (fun p => (partOffset p, partLength p / copySize))

/-- The array as 64 pages of 4 KiB. -/
def State.logPage64 (s : State) (k : Nat) : List Byte := ((List.range 128).map (fun i => s.logEntry (128 * k + i))).flatten

/-- The fields of a copy's header before its CRCs (R504), in the order the manual lists them. -/
def State.copyHead (s : State) (seq : Nat) : List Byte :=
  [0x41, 0x4C, 0x4F, 0x47] ++ toLe 4 seq ++ toLe 4 (s.num PCYCLE) ++ toLe 8 s.optime ++ toLe 8 (s.num64 RECNO_LO RECNO_HI)

/-- A copy's header (R504). -/
def State.copyHeader (s : State) (seq : Nat) : List Byte :=
  let body := slice (s.copyHead seq ++
    ((List.range 64).map (fun k => toLe 8 (crc64 0 (s.logPage64 k)))).flatten) 0 4088
  body ++ toLe 8 (crc64 0 body)

/-- The slot of a copy: its place in the flash and that of the slot after it (R504). -/
def State.copySlot (s : State) (seq : Nat) : Option (Nat × Nat) :=
  s.logPart.map (fun p => (p.1 + copySize * (seq % max 1 p.2), p.1 + copySize * ((seq + 1) % max 1 p.2)))

/-- A copy of the log begins (R504, R505): SAVING; its header stands without its CRCs until the copy is whole, so that one that is cut off
fails them. A copy already under way is not begun again. -/
def State.alogCopy (s : State) : State :=
  match s.alog.copy with
  | some _ => s
  | none =>
    let q := s.alog.seq + 1
    let s := (s.modLog (fun l => { l with copy := some q })).put ALOG_STAT_SAVING 1
    match s.copySlot q with
    | some (a, _) => s.flashWrite a (s.copyHead q)
    | none => s

def execAlogSave (s : State) : Host.Outcome State Fault Refusal := .next (s.access 5 State.alogCopy)

/-- Write the copy into its slot: the header, then the array. -/
def State.writeCopy (s : State) (seq : Nat) : State :=
  match s.copySlot seq with
  | none => s
  | some (a, next) =>
    let s := (List.range 64).foldl (fun s k => s.flashWrite (a + 4096 * (k + 1)) (s.logPage64 k)) (s.flashWrite a (s.copyHeader seq))
    s.flashErase next copySize

/-- A core's flash command is being carried out: a log copy and an update step wait for its end (R546). -/
def State.xsRuns (s : State) : Bool := s.xsJob.isSome && !s.xsHeld

/-- The update engine writes or verifies a location (R475, R476): with the log copy it is served before cores. -/
def State.updFlash (s : State) : Bool :=
  match s.upd.job with
  | some (op, _) => decide (op = 2) || decide (op = 3)
  | none => false

/-- A core's flash command waits on while a log copy or the update engine is served before it. -/
def State.xsRelease (s : State) : State := { s with xsHeld := s.xsHeld && (s.alog.copy.isSome || s.updFlash) }

/-- ALOG_COPY_DONE (R504, R505, R513, R546): a copy has been written and the next slot is erased, or it failed to program; the domains held for it return
to their states. -/
def alogCopyDone (ok : Bool) (s : State) : State :=
  match s.alog.copy with
  | none => s
  | some q =>
    if s.xsRuns then s
    else
      let s := (s.modLog (fun l => { l with copy := none, seq := q })).put ALOG_STAT_SAVING 0
      (if ok then s.writeCopy q else s.noteBit alogErr 2).xsRelease.copyRelease

def execAlogCopyDone (ok : Bool) (s : State) : Host.Outcome State Fault Refusal := .next (alogCopyDone ok s)

/-- What the slot at flash address a holds: a copy's sequence number and records, or that it is a damaged copy; none where it holds no
copy. -/
def State.copyAt (s : State) (a : Nat) : Option (Nat × Option (List LogRec × Nat)) :=
  let h := s.flashBytes a 4096
  if h.take 4 ≠ [0x41, 0x4C, 0x4F, 0x47] then none
  else
    let ok := decide (fieldLe h 4088 8 = crc64 0 (h.take 4088)) &&
      (List.range 64).all (fun k => decide (fieldLe h (28 + 8 * k) 8 = crc64 0 (s.flashBytes (a + 4096 * (k + 1)) 4096)))
    some (fieldLe h 4 4,
      if ok then
        some (((List.range 8192).map (fun i => recordOf (s.flashBytes (a + 4096 + 32 * i) 32))).filter (fun r => decide (r.recno ≠ 0)),
          fieldLe h 20 6)
      else none)

/-- Insert a record into a list in the order of restoration: Fatal first, then Fault, Warn and Note, and the highest RECNO first. -/
def restoreInsert (r : LogRec) : List LogRec → List LogRec
  | [] => [r]
  | x :: t => if x.sev < r.sev ∨ (x.sev = r.sev ∧ x.recno < r.recno) then r :: x :: t else x :: restoreInsert r t

/-- Place restored records in the empty entries, as long as there are any; they keep their RECNO. -/
def restoreInto : List LogRec → State → State
  | [], s => s
  | r :: t, s =>
    match s.emptyEntry with
    | (some i, s) => restoreInto t { s with logArray := place i r s.logArray }
    | (none, s) => s

/-- The copies of the log partition, the highest sequence number first. -/
def State.copies (s : State) : List (Nat × Option (List LogRec × Nat)) :=
  match s.logPart with
  | none => []
  | some (o, n) =>
    let l := (List.range n).filterMap (fun k => s.copyAt (o + copySize * k))
    l.foldl (fun acc c => acc.filter (fun x => decide (c.1 < x.1)) ++ [c] ++ acc.filter (fun x => decide (x.1 ≤ c.1))) []

/-- LOG_RESTORE (R506): the newest copy whose checks hold is restored; each newer one that fails sets LOAD_BAD. -/
def State.logRestore (s : State) : State :=
  let cs := s.copies
  let bad := cs.takeWhile (fun c => c.2.isNone)
  let s := if bad.isEmpty then s else s.noteBit alogErr 3
  let s := s.modLog (fun l => { l with seq := (cs.map (fun c => c.1)).foldl max l.seq })
  let s := match (cs.find? (fun c => c.2.isSome)).bind (fun c => c.2) with
    | none => s
    | some (rs, hi) =>
      let s := restoreInto (rs.foldl (fun l r => restoreInsert r l) []) s
      let n := max hi (s.num64 RECNO_LO RECNO_HI)
      (s.set64 RECNO_LO RECNO_HI n).logShow
  s.put ALOG_STAT_LOADED 1

/-! ### Get Log Page C1h (R503) -/

/-- Every record of the array, RECNO ascending. -/
def State.logSorted (s : State) : List LogRec :=
  s.logArray.foldl (fun l e => l.filter (fun r => decide (r.recno < e.2.recno)) ++ [e.2] ++ l.filter (fun r => decide (e.2.recno ≤ r.recno))) []

/-- The page: a 64 B header and every record. -/
def State.logSnapshot (s : State) : List Byte :=
  let rs := s.logSorted
  let lo := match rs.head? with
    | some r => r.recno
    | none => 0
  let hi := match rs.getLast? with
    | some r => r.recno
    | none => 0
  slice (toLe 4 rs.length ++ toLe 4 (s.num ALOG_DROP) ++ toLe 6 lo ++ toLe 6 hi ++ toLe 4 (s.num PCYCLE)) 0 64 ++ (rs.map LogRec.bytes).flatten

/-- GET_LOG_ACCESSION (R503): a command with LPO 0 takes a snapshot, and later ones read it. -/
def getLogAccession (t : Nat) (x : Tag) (s : State) : State :=
  if x.dw 10 % 256 ≠ 0xC1 then s
  else
    let s := if x.dw 12 = 0 ∧ x.dw 13 = 0 then s.modLog (fun l => { l with snap := s.logSnapshot }) else s
    match pageSlice x s.alog.snap with
    | none => s.failTag t x stField
    | some d => s.giveData t x d

def execGetLogAccession (tag : TagNo) (s : State) : Host.Outcome State Fault Refusal := .next (adminRow tag 0x02 (getLogAccession tag) s)

/-! ### ACT_STATE (R492) -/

/-- Whether a Degraded actuator may be written Online. -/
def State.mayOnline (s : State) (n : Nat) : Bool :=
  decide (s.get (DIE_STAT_STATE (unitBase (n + 1) 0)) = 2) && decide (s.get (LINK_STAT_STATE (linkBase n)) = 2) && decide (s.get (LOOP_STAT_MODE n) ≠ 9)

/-- The field of actuator n of a write. -/
def actField (v n : Nat) (s : State) : State :=
  let old := s.actState n
  let new := bitsOf v (2 * n + 1) (2 * n)
  if old = 0 ∨ new = 0 ∨ new = old then s
  else if old = 2 ∧ (new = 3 ∨ (new = 1 ∧ s.mayOnline n)) then s.setActState n new
  else s.noteBit alogErr 4

/-- ACT_STATE_WRITE (R492): field by field. -/
def actStateWrite (v : Word) (s : State) : State := (List.range 4).foldl (fun s n => actField v.toNat n s) s

def execActStateWrite (value : Word) (s : State) : Host.Outcome State Fault Refusal := .next (s.access 5 (actStateWrite value))

end Sys2Proof.Machine
end

