-- ==== Sys2Proof/Machine/Spindle.lean ====
section
/-!
DEFINITION. The spindle engine (file 06): the PWM period, starting, catching, locking to the wedges, losing synchronism, braking, and the Basic function of SPIN.
-/

namespace Sys2Proof.Machine

/-- START is refused while SENSE_SCALE is unset, PS_ID is set (R189) or VDDIO33 is not good (R519); and while no image is in
force, since a Blank part drives no output (R164). -/
def State.startRefused (s : State) : Bool :=
  decide (s.get SENSE_SCALE_I_FS = 0) || decide (s.get SENSE_SCALE_V_DIV = 0) || s.flag SPIN_FAULT_PS_ID ||
    !bitOf (s.get SUP_STAT_GOOD) 8 || s.img.isNone

/-- One waiting command acts (R176). That the failed handovers of R180 are counted from the START that was accepted last is the model's choice
(notes/assumptions/24.md). -/
def State.spinCmd (s : State) (c : Nat) : State :=
  let st := s.spinState
  if c = 1 then
    if (st = spStopped ∨ st = spBrake ∨ st = spCoast) ∧ !s.startRefused then
      (s.modSpin (fun p => { p with starting := true, attempts := 0, pendStart := false })).enterSense false
    else s.put SPIN_STAT_CMD_REJ 1
  else if c = 2 then
    if st = spSense ∨ st = spAlign ∨ st = spRamp ∨ st = spAccel ∨ st = spLocked ∨ st = spHoldAngle ∨ st = spCoast then
      (s.modSpin (fun p => { p with starting := false })).enterBrake false .hold
    else s.put SPIN_STAT_CMD_REJ 1
  else if c = 3 then
    if st = spStopped ∨ st = spGenerate then s.put SPIN_STAT_CMD_REJ 1
    else (s.modSpin (fun p => { p with starting := false, pendStart := false })).setSpin spCoast
  else if st = spFailed then s.setSpin spStopped
  else s.put SPIN_STAT_CMD_REJ 1

/-- A command written to SPIN_CMD waits for the next PWM period (R176). -/
def spinWrite (c : Nat) (s : State) : State :=
  if 1 ≤ c ∧ c ≤ 4 then s.modSpin (fun p => { p with cmds := p.cmds ++ [c] }) else s

def execSpinStart (s : State) : Host.Outcome State Fault Refusal := .next (s.access 5 (spinWrite 1))
def execSpinStop (s : State) : Host.Outcome State Fault Refusal := .next (s.access 5 (spinWrite 2))
def execSpinCoast (s : State) : Host.Outcome State Fault Refusal := .next (s.access 5 (spinWrite 3))
def execSpinClear (s : State) : Host.Outcome State Fault Refusal := .next (s.access 5 (spinWrite 4))

/-! ### The PWM period (R165-R169, R179, R180, R183) -/

/-- The planned duties after R168: a class 2 motor is clamped to a clean window; a class 1 motor only after SKIP_MAX skipped
samples in a row. -/
def State.planDuties (s : State) (d : Nat × Nat × Nat) : State :=
  if s.cleanWindow d then s.modSpin (fun p => { p with nextOut := some d })
  else if s.imgNat Image.motorClass = 2 ∨ s.get SPIN_SAMPLE_SKIP_MAX ≤ s.spin.skipRun then
    (s.countSat CLAMP_CNT SPIN_SAT_SAT 2 1).modSpin (fun p => { p with nextOut := some (s.clampDuties d) })
  else s.modSpin (fun p => { p with nextOut := some d })

/-- A torque command, clamped to ±I_MAX (R166). -/
def State.setTorque (s : State) (t : Int) : State :=
  let i : Int := s.imgNat Image.iMax
  s.modSpin (fun p => { p with torque := clampI (-i) i t })

/-- The speed and phase loop (R166, R170): a PI loop on the speed, with the phase error as a correction of its target where the phase loop
runs. A preset makes the integrator give that torque command, so that it does not step. The form of the loop, and that the gains are in
mA and rpm, per period, are the model's (notes/assumptions/24.md). -/
def State.speedLoop (s : State) (target : Nat) (phase : Bool) : State :=
  let gain (a : Nat) : Int := sx 32 (s.num a)
  let bias : Int := if phase then roundDiv (gain PH_K * sx 32 (s.num PHASE_ERR)) 256 else 0
  let e : Int := target + bias - s.spin.omega
  let p := gain SPD_KP * e
  let i0 := match s.spin.drv.preset with
    | some t => t * 2 ^ 40 - p
    | none => s.spin.drv.speedInt
  let lim : Int := s.imgNat Image.iMax * 2 ^ 40
  (s.setTorque (roundDiv (p + i0) (2 ^ 40))).modDrv (fun d =>
    { d with speedInt := clampI (-lim) lim (i0 + gain SPD_KI * e), preset := none })

/-- The two PI current loops (R166 steps 1-3), with the feed-forward of a back-EMF (mV) and of R_PHASE. The gains are in mV and mA, per
period, a choice of the model (notes/assumptions/24.md). -/
def State.currentLoop (s : State) (i : Rat × Rat × Rat) (theta : Nat) (idRef iqRef : Int) (emf : Rat) : State :=
  let (d, q) := s.rotorFrame i theta
  let kp : Int := sx 32 (s.num CUR_KP)
  let ki : Int := sx 32 (s.num CUR_KI)
  let ed := rnd ((mkRat idRef 1 - d) * 65536)
  let eq := rnd ((mkRat iqRef 1 - q) * 65536)
  let r : Rat := mkRat (s.imgNat Image.rPhase) 1000
  let xd := s.spin.drv.integD + ki * ed
  let xq := s.spin.drv.integQ + ki * eq
  let vd := mkRat (kp * ed + xd) (2 ^ 40) + r * mkRat idRef 1
  let vq := mkRat (kp * eq + xq) (2 ^ 40) + r * mkRat iqRef 1 + emf
  s.modDrv (fun p => { p with integD := xd, integQ := xq, vd := rnd vd, vq := rnd vq })

/-- The duties of the last voltage vector at an angle (R166 steps 4-6). -/
def State.vector (s : State) (theta vmot : Nat) : State :=
  let s := s.modDrv (fun d => { d with vang := theta })
  s.planDuties (s.duties s.spin.drv.vd s.spin.drv.vq theta vmot)

/-- The zero vector: all three low switches on for the whole period. -/
def State.zeroVector (s : State) : State :=
  (s.modSpin (fun p => { p with torque := 0, nextOut := some (0, 0, 0) })).modDrv (fun d => { d with integD := 0, integQ := 0, vd := 0, vq := 0 })

/-- All six outputs off for the next period. -/
def State.outputsOff (s : State) : State :=
  (s.modSpin (fun p => { p with torque := 0, nextOut := none })).modDrv (fun d => { d with integD := 0, integQ := 0 })

/-- The braking torque of GENERATE (R183): it grows while VMOT lies below GEN_V and falls while it lies above, limited by I_MAX, and there
is none during UNLOAD_WAIT at or below FLY_RPM. How fast it follows is a free value: the manual gives the regulator no law. -/
def State.generate (s : State) (vmot : Nat) : State :=
  let (k, s) := s.draw 10
  let step : Int := k % 0x10000
  let g := s.get SPIN_GEN_GEN_V
  let b : Int := s.spin.torque.natAbs
  let b := if s.spin.genHold ∧ s.speed ≤ s.get SPIN_GEN_FLY_RPM * 65536 then 0
    else if vmot < g then b + step else if g < vmot then max 0 (b - step) else b
  s.setTorque (if s.spin.omega < 0 then b else -b)

/-- What the motor context computes for the next period, by the state (R166, R176, R179-R181, R183), from the currents of this one. -/
def State.driveNext (s : State) (i : Rat × Rat × Rat) (vmot : Nat) : State :=
  let st := s.spinState
  let pp := s.imgNat Image.polePairs
  let ahead (w : Int) : Nat := (((s.spin.theta : Int) + turned w pp 6) % 0x100000000).toNat
  let emf : Rat := mkRat (s.imgNat Image.ke) 1000 * radPerS s.speed * (if s.spin.omega < 0 then -1 else 1)
  let foc (s : State) : State := (s.currentLoop i s.spin.theta 0 s.spin.torque emf).vector (ahead s.spin.omega) vmot
  let open_ (s : State) (angle out : Nat) : State := (s.currentLoop i angle (s.get SPIN_STARTX_ALIGN_I) 0 0).vector out vmot
  if st = spAccel then foc (s.speedLoop (s.imgNat Image.rpm * 65536) false)
  else if st = spLocked then foc (s.speedLoop (s.imgNat Image.rpm * 65536) true)
  else if st = spHoldAngle then foc (s.setTorque 0)
  else if st = spBrake then
    let s := s.brakePhase vmot
    match s.spin.brake with
    | .hold => foc (s.speedLoop s.spin.drv.target false)
    | .foc =>
      let i : Int := s.brakeCurrent vmot
      foc (s.setTorque (if s.spin.omega < 0 then i else -i))
    | .limitOff => s.outputsOff
    | .limitZero => s.zeroVector
    | .zero => if s.emfWindow then s.outputsOff else s.zeroVector
  else if st = spAlign then open_ (s.setTorque (s.get SPIN_STARTX_ALIGN_I)) 0 0
  else if st = spRamp then
    let s := s.modSpin (fun p => { p with ramp := p.ramp + s.get SPIN_RAMP_RAMP_RATE })
    open_ (s.setTorque (s.get SPIN_STARTX_ALIGN_I)) s.spin.theta (ahead (s.spin.ramp * 65536 / 40000 : Nat))
  else if st = spGenerate then
    if s.speed < 600 * 65536 then s.zeroVector else foc (s.generate vmot)
  else s.outputsOff

/-- The angle moves to a new electrical angle: passing a whole electrical turn moves it into the next pole-pair sector. -/
def State.turnTo (s : State) (theta : Nat) : State :=
  let d := (((theta : Int) - s.spin.theta + 0x80000000) % 0x100000000) - 0x80000000
  let turns := ((s.spin.theta : Int) + d) / 0x100000000
  (s.modRef (fun r => { r with sector := ((r.sector + turns) % (max 1 (s.imgNat Image.polePairs) : Nat)).toNat })).modSpin (fun p =>
    { p with theta := theta % 0x100000000 })

/-- The observer of a period (R169): θ̂ and ω̂, SPEED, and the runs of failing and passing periods; a period that does not fail is
kept as the last good one. BRAKE is checked where the speed before lay above OBS_MIN. -/
def State.observe (s : State) (theta : Nat) (omega : Int) (emf : Nat) (clean : Bool) (dev : Rat) : State :=
  let st := s.spinState
  let bad := s.implausible omega emf clean dev
  let live := decide (st = spAccel) || decide (st = spLocked) || (decide (st = spBrake) && s.aboveObs)
  let s := (s.turnTo (theta % 0x100000000)).modSpin (fun p => { p with omega := omega })
  let s := s.put SPIN_STAT_SPEED (min 0xFFFF (omega.natAbs / 2 ^ 14))
  let keep (s : State) : State := s.modSpin (fun p => { p with okTheta := p.theta, okSector := p.ref.sector, okOmega := p.omega })
  if live then
    if bad then s.modSpin (fun p => { p with losRun := p.losRun + 1 })
    else keep (s.modSpin (fun p => { p with losRun := 0 }))
  else
    let s := s.modSpin (fun p => { p with losRun := 0 })
    if st = spRamp then
      let at_ := decide (s.get SPIN_STARTX_HAND_RPM * 400000 ≤ s.spin.ramp)
      let s := s.modSpin (fun p => { p with okRun := if bad || !at_ then 0 else p.okRun + 1 })
      if bad then s else keep s
    else if st = spHoldAngle then s else keep s

/-- A PWM period begins (R165): 25 µs pass, and the duties computed last are latched. -/
def State.latchDuties (s : State) (vmot : Nat) : State :=
  let g := s.gatesOf s.spin.nextOut
  ((s.modSpin (fun p => { p with out := p.nextOut, vmot := vmot })).modDrv (fun d => { d with gates := g })).modRef (fun r =>
    { r with clock := r.clock + 320000 })

/-- A sampled current in mA: its signed 12-bit code in units of I_FS / 2048 (R166, SENSE_SCALE). -/
def State.currentOf (s : State) (code : Int) : Rat := mkRat (code * (s.get SENSE_SCALE_I_FS : Nat)) 2048

/-- While the motor context restarts, the PWM hardware rotates the last voltage vector at the last ω̂ (R184): the vector planned for this period
goes out, and the next lies one period's turn further on. -/
def State.rotateVector (s : State) (vmot : Nat) : State :=
  let pp := s.imgNat Image.polePairs
  let on (x : Nat) : Nat := (((x : Int) + turned s.spin.omega pp 4) % 0x100000000).toNat
  let s := s.latchDuties vmot
  let s := (s.turnTo (on s.spin.theta)).modDrv (fun d => { d with vang := on d.vang })
  if s.spin.out.isSome then
    s.modSpin (fun p => { p with nextOut := some (s.duties s.spin.drv.vd s.spin.drv.vq s.spin.drv.vang vmot) })
  else s

/-- PWM_PERIOD (R165): the duties computed last are latched, waiting commands act, the currents are sampled at the valley, and
the next duties are computed. Operands: the codes of the sampled currents and the currents the model predicts (mA), the observer's angle
(U0.32) and speed (2^-16 rpm), its back-EMF magnitude (µV), VMOT (mV). A skipped sample is replaced by the predicted currents (R168). A command
written while the motor context restarts (R184) waits until it has: the model's choice (notes/assumptions/24.md). -/
def pwmPeriod (iu iv iw mu mv mw : Int) (theta : Nat) (omega : Int) (emf vmot : Nat) (s : State) : State :=
  if s.img.isNone then
    ((s.modSpin (fun p => { p with cmds := [], nextOut := none })).latchDuties vmot)
      |> fun t => if s.spin.cmds.isEmpty then t else t.put SPIN_STAT_CMD_REJ 1
  else if s.spin.rotating then s.rotateVector vmot
  else
    let s := (s.modSpin (fun p => { p with cmds := [] })).latchDuties vmot |> fun t => s.spin.cmds.foldl (fun t c => t.spinCmd c) t
    let clean := match s.spin.out with
      | some d => s.cleanWindow d
      | none => false
    let skip := s.spin.out.isSome && !clean && decide (s.imgNat Image.motorClass = 1)
    let s := if skip then (s.countSat SKIP_CNT SPIN_SAT_SAT 1 1).modSpin (fun p => { p with skipRun := p.skipRun + 1 })
      else s.modSpin (fun p => { p with skipRun := 0 })
    let got := (s.currentOf iu, s.currentOf iv, s.currentOf iw)
    let big := max iu.natAbs (max iv.natAbs iw.natAbs)
    let s := if !skip && decide (5 * s.imgNat Image.iMax * 2048 < 4 * big * s.get SENSE_SCALE_I_FS) then
        ((s.modSpin (fun p => { p with out := none })).modDrv (fun d => { d with gates := [] })).noteBit spinFault 0
      else s
    let off (a : Rat) (b : Int) : Rat := absQ (a - mkRat b 1)
    let dev := max (off got.1 mu) (max (off got.2.1 mv) (off got.2.2 mw))
    let held := decide (s.spinState = spHoldAngle)
    let pp := s.imgNat Image.polePairs
    let om := if held then s.spin.okOmega else omega
    let on (w : Int) : Nat := (((s.spin.theta : Int) + turned w pp 4) % 0x100000000).toNat
    let th := if held then on om else if s.spinState = spRamp then on (s.spin.ramp * 65536 / 40000 : Nat) else theta
    let i := if skip then (mkRat mu 1, mkRat mv 1, mkRat mw 1) else got
    (s.observe th om emf (clean && !skip) dev).driveNext i vmot

def execPwmPeriod (iu iv iw mu mv mw : Int) (theta : Nat) (omega : Int) (emf vmot : Nat) (s : State) :
    Host.Outcome State Fault Refusal := .next (pwmPeriod iu iv iw mu mv mw theta omega emf vmot s)

/-- The observer's angle as `k` periods at the last good speed take it on from the last good period (R181, R184). -/
def State.fromLastGood (s : State) (k : Nat) : State :=
  let p := s.spin
  let t := (p.okTheta : Int) + turned p.okOmega (s.imgNat Image.polePairs) (4 * k)
  (s.modSpin (fun p => { p with theta := (t % 0x100000000).toNat, omega := p.okOmega })).modRef (fun r =>
    { r with sector := (((p.okSector : Int) + t / 0x100000000) % (max 1 (s.imgNat Image.polePairs) : Nat)).toNat })

/-- LOSS_OF_SYNCHRONISM (R169, R179, R181): LOS_N failing periods in a row set LOST_SYNC, count, and raise event 464; ACCEL and
LOCKED enter HOLD_ANGLE, and BRAKE goes on with the zero vector. -/
def lossOfSync (s : State) : State :=
  if max 1 (s.get PLAUS_LOS_N) ≤ s.spin.losRun then
    let st := s.spinState
    let s := ((s.noteBit spinFault 2).countSat LOS_CNT SPIN_SAT_SAT 0 1).raise 464
    let k := s.spin.losRun
    let s := s.modSpin (fun p => { p with losRun := 0, relock := 0 })
    if st = spAccel ∨ st = spLocked then
      (((s.modDrv (fun d => { d with held := s.spin.torque })).setSpin spHoldAngle).fromLastGood k).modSpin (fun p => { p with origin := st })
    else if st = spBrake then (s.modSpin (fun p => { p with brake := .zero })).modDrv (fun d => { d with zeroN := 0 })
    else s
  else s

def execLossOfSynchronism (s : State) : Host.Outcome State Fault Refusal := .next (lossOfSync s)

/-! ### Locking to the wedges (R170, R171, R173, R175) -/

/-- The reference channel (R170, R171): REF_PREF if it is enabled, LOCKED and without RET_FAIL, else the lowest that is; none while the
channel that lost FINE to a head of unlearned offset is not LOCKED again. -/
def State.refChannel (s : State) : Option Nat :=
  let locked (n : Nat) : Bool := s.chOn n && s.flag (WL_STAT_LOCKED n)
  let ok (n : Nat) : Bool := locked n && !s.flag (WL_STAT_RET_FAIL n)
  let p := s.get SPIN_CFG_REF_PREF
  let out := match s.spin.ref.coarse with
    | some c => !locked c
    | none => false
  if out then none else if ok p then some p else (List.range 4).find? ok

/-- RPM × W of the SPINDLE record; 60 / (RPM × W) is the wedge reference's period. -/
def State.refRate (s : State) : Nat := s.imgNat Image.rpm * s.imgNat Image.wedges

/-- The time of reference tick `k`, in 78.125 ps (file 06, Locking to the wedges): 60 s are 768 × 10^9 of these. -/
def State.refTime (s : State) (k : Nat) : Nat := (roundDiv (k * 768000000000 : Nat) s.refRate).toNat

/-- The reference starts from the present instant at the rate of the image in force (R170): its last tick is the one at or before it. -/
def State.alignRef (s : State) : State := s.modRef (fun r => { r with count := r.clock * s.refRate / 768000000000 })

/-- A time difference held to half a period of the wedge reference on either side. -/
def State.wrapRef (s : State) (x : Rat) : Int :=
  let t := mkRat 768000000000 s.refRate
  if s.refRate = 0 then 0 else rnd (x - t * (rnd (x / t) : Rat))

/-- The mechanical angle at the present PWM period, U0.32 of a turn. -/
def State.mechAngle (s : State) : Nat :=
  (s.spin.ref.sector * 0x100000000 + s.spin.theta) / max 1 (s.imgNat Image.polePairs)

/-- How far the spindle turns in `t` units of 78.125 ps, 2^-32 turn. -/
def turnsIn (omega : Int) (t : Int) : Rat := mkRat (omega * t * 65536) 768000000000

/-- The phase error at reference tick `k` (R170): in COARSE of the observer's angle, in FINE of the reference channel's detected tick less the
stored offset of the head in use. It is positive where the spindle is late, and taken modulo the reference's period, and it stays while the new head of REF_CH has delivered no
tick yet: choices of the model (notes/assumptions/24.md). -/
def State.phaseErr (s : State) (k : Nat) (src : Option Nat) : Int :=
  let fine := match src with
    | some c =>
      let w := atD s.wl c WedgeLine.reset
      w.detected.map (fun t => mkRat ((t : Int) - s.refTime k) 1 - mkRat (atD w.offset w.head 0) 16)
    | none => none
  match fine with
  | some x => s.wrapRef x
  | none =>
    if src.isSome then sx 32 (s.num PHASE_ERR)
    else
    let m := mkRat s.mechAngle 1 + turnsIn s.spin.omega ((s.refTime k : Int) - s.spin.ref.clock)
    s.wrapRef (-(m * mkRat 768000000000 (s.imgNat Image.rpm * 0x100000000)))

/-- The source of the phase error changes at a reference tick, and the torque command does not step (R170). -/
def State.setSource (s : State) (src : Option Nat) : State :=
  let fine := ofBool src.isSome
  let ch := src.getD 0
  let s := if s.get SPIN_STAT_FINE = fine ∧ s.get SPIN_STAT_REF_CH = ch then s
    else s.modDrv (fun d => { d with preset := some s.spin.torque })
  (s.put SPIN_STAT_FINE fine).put SPIN_STAT_REF_CH ch

/-- REFERENCE_TICK (R170, R173, R175): the source may change, the phase error is measured, SPIN_LOCK may fall, and the
revolution count advances as the reference passes wedge 0. `dev`: the last revolution's period minus 60 / RPM in 0.001 ppm. -/
def referenceTick (dev : Int) (s : State) : State :=
  let src := s.refChannel
  let s := s.setSource src
  let s := if s.spin.ref.coarse.any (fun c => s.flag (WL_STAT_LOCKED c)) then s.modRef (fun r => { r with coarse := none }) else s
  let s := s.modRef (fun r => { r with count := r.count + 1, wedge := (r.wedge + 1) % s.imgNat Image.wedges })
  let err := s.phaseErr s.spin.ref.count src
  let s := s.setNum PHASE_ERR (toBits 32 (clampS 32 err))
  let st := s.spinState
  let win := s.get SPIN_LOCKX_LOCK_WIN * 64
  let s := s.modSpin (fun p => { p with lockRun := if st = spLocked ∧ err.natAbs * 5 ≤ win then p.lockRun + 1 else 0 })
  let s := if s.flag SPIN_STAT_SPIN_LOCK && decide (4 * win < err.natAbs * 5) then s.spinLock false else s
  let s := (s.calTick 0).calTick 5
  if s.spin.ref.wedge = 0 ∧ (st = spAccel ∨ st = spLocked ∨ st = spHoldAngle) then
    let s := (s.add64 REV_LO REV_HI 1).setNum REV_DEV (toBits 32 (clampS 32 dev))
    s.modSpin (fun p => { p with accelRevs := if st = spAccel ∧ dev.natAbs ≤ 1000000 then p.accelRevs + 1 else 0 })
  else s

def execReferenceTick (dev : Int) (s : State) : Host.Outcome State Fault Refusal :=
  .next (if s.img.isSome then referenceTick dev s else s)

/-! ### The forward frames' ticks (R47, R552) -/

/-- SPIN holds a spindle angle estimate (R552). -/
def State.holdsAngle (s : State) : Bool :=
  let st := s.spinState
  decide (st = spAccel) || decide (st = spLocked) || decide (st = spHoldAngle) ||
    ((decide (st = spBrake) || decide (st = spGenerate)) && s.aboveObs)

/-- Division rounding up. -/
def ceilDiv (a b : Nat) : Nat := (a + b - 1) / b

/-- The first tick that the angle estimate gives head k of channel n at or after a time, with its wedge number (R46, R47): the wedges are at whole
multiples of 1 / W turn, the head's stored offset is added, and the number follows from the alignment of R174. -/
def State.angleTick (s : State) (n bound : Nat) : Nat × Nat :=
  let wn := s.imgNat Image.wedges
  let w := s.spin.omega.natAbs
  let line := atD s.wl n WedgeLine.reset
  let off : Int := roundDiv (atD line.offset line.head 0) 16
  let a := if s.spin.omega < 0 then 0x100000000 - s.mechAngle else s.mechAngle
  let need := ((bound : Int) - s.spin.ref.clock - off).toNat
  let k := ceilDiv ((a + ceilDiv (need * w * 65536) 768000000000) * wn) 0x100000000
  let dt := rnd (mkRat (((k * 0x100000000 : Nat) : Int) - ((a * wn : Nat) : Int)) wn * mkRat 768000000000 (w * 65536))
  let num := (if s.spin.omega < 0 then wn - k % wn else k) + s.spin.ref.align
  (max bound ((s.spin.ref.clock : Int) + off + dt).toNat, num % wn)

/-- The first tick of the crystal's wedge reference at or after a time, with its wedge number (R552). -/
def State.refTick (s : State) (bound : Nat) : Nat × Nat :=
  let wn := s.imgNat Image.wedges
  let k := ceilDiv (bound * s.refRate) 768000000000
  (max bound (s.refTime k), (((s.spin.ref.wedge : Int) + k - s.spin.ref.count) % (wn : Int)).toNat)

/-- The instant at which channel n's next marker ends, and its wedge number (R47, R552): from the angle estimate where SPIN holds one and the
spindle turns, otherwise from the crystal's reference; never within 9.0 µs of the marker before. -/
def State.nextMarker (s : State) (n : Nat) : Nat × Nat :=
  let bound := match (atD s.wl n WedgeLine.reset).lastMark with
    | some m => max s.spin.ref.clock (m + 115200)
    | none => s.spin.ref.clock
  if s.holdsAngle && decide (s.spin.omega ≠ 0) then s.angleTick n bound else s.refTick bound

/-- SPIN_LOCK_SET (R173). -/
def execSpinLockSet (s : State) : Host.Outcome State Fault Refusal :=
  .next (if s.spinState = spLocked ∧ 128 ≤ s.spin.lockRun then s.spinLock true else s)

/-- SPEED_LOCK (R176): 16 revolutions within ±0.1 % of RPM. -/
def execSpeedLock (s : State) : Host.Outcome State Fault Refusal :=
  .next (if s.spinState = spAccel ∧ 16 ≤ s.spin.accelRevs then
      (s.setSpin spLocked).modSpin (fun p => { p with starting := false })
    else s)

/-! ### Starting and catching (R177, R178, R180) -/

/-- `k` crossings over `sum` ns show at least `rpm` (R177): 60 / (6 × mean interval) / POLE_PAIRS. -/
def State.crossRpm (s : State) (rpm : Nat) : Bool :=
  decide (rpm * s.spin.crossSum * s.imgNat Image.polePairs ≤ 10000000000 * (s.spin.crossN - 1))

/-- The crossings show more than `rpm` (R177). -/
def State.crossOver (s : State) (rpm : Nat) : Bool :=
  decide (rpm * s.spin.crossSum * s.imgNat Image.polePairs < 10000000000 * (s.spin.crossN - 1))

/-- The speed in 2^-16 rpm that a mean interval of `sum / k` ns implies. -/
def rpmOf (k sum polePairs : Nat) : Nat := 10000000000 * 65536 * k / (sum * polePairs)

/-- The electrical angle at zero crossing `k` of the turn: each crossing marks 60° (R177). That crossing 0 is at angle 0 is the model's
choice (notes/assumptions/25.md). -/
def crossAngle (k : Nat) : Nat := k * 0x100000000 / 6

/-- θ̂ and ω̂ are set from crossings (R177, R181). -/
def State.setObserver (s : State) (theta omega : Nat) : State :=
  (s.put SPIN_STAT_SPEED (min 0xFFFF (omega / 2 ^ 14))).modSpin (fun p =>
    { p with theta := theta, omega := omega, okTheta := theta, okSector := p.ref.sector, okOmega := omega })

/-- CATCH (R177): the observer is set from the crossings, the current loops start at zero current, and the state becomes ACCEL. -/
def State.catchMotor (s : State) (k : Nat) : State :=
  let w := rpmOf (s.spin.crossN - 1) s.spin.crossSum (s.imgNat Image.polePairs)
  ((((s.put SPIN_STAT_DIR 0).setSpin spAccel).setObserver (crossAngle k) w).setTorque 0).modDrv (fun d =>
    { d with integD := 0, integQ := 0, preset := some 0 })

/-- SENSE takes crossing `k` of the electrical turn (R177); the third in forward order ends it. -/
def senseCrossing (k interval : Nat) (s : State) : State :=
  let s := s.modSpin (fun p =>
    if p.crossN = 0 then { p with crossN := 1, crossPrev := k }
    else { p with crossN := p.crossN + 1, crossSum := p.crossSum + interval, crossPrev := k,
                  crossFwd := p.crossFwd && decide (k = (p.crossPrev + 1) % 6),
                  crossRev := p.crossRev && decide (p.crossPrev = (k + 1) % 6) })
  if 3 ≤ s.spin.crossN ∧ s.spin.crossFwd then
    if s.crossRpm 600 then s.catchMotor k
    else (s.put SPIN_STAT_DIR 0).enterBrake true (if s.aboveObs then .foc else .zero)
  else s

/-- How far crossing `k`, `at_` ns after the present PWM period began, lies from the extrapolated angle (R181), 2^-32 turn electrical. -/
def State.crossDev (s : State) (k at_ : Nat) : Int :=
  let now := (s.spin.theta : Int) + s.spin.okOmega * s.imgNat Image.polePairs * at_ * 65536 / 60000000000
  ((crossAngle k : Int) - now + 0x80000000) % 0x100000000 - 0x80000000

/-- HOLD_ANGLE takes a crossing (R181): consistent when it lies within ±15° electrical of the extrapolated angle
and its interval implies a speed within ±2 % of the last good one; the third in a row re-locks, with the torque command last in force. -/
def holdCrossing (k interval at_ : Nat) (s : State) : State :=
  let w := s.spin.okOmega.natAbs
  let pp := s.imgNat Image.polePairs
  let x : Int := 10000000000 * 65536
  let y : Int := w * interval * pp
  let ok := decide ((s.crossDev k at_).natAbs * 24 ≤ 0x100000000) && decide ((x - y).natAbs * 50 ≤ y.natAbs)
  let s := s.modSpin (fun p => { p with relock := if ok then p.relock + 1 else 0 })
  if 3 ≤ s.spin.relock then
    let s := (s.setSpin s.spin.origin).setObserver (crossAngle k) (rpmOf 1 interval pp)
    let s := (s.setTorque s.spin.drv.held).modDrv (fun d => { d with preset := some d.held })
    (s.noteBit spinFault 3).raise 465
  else s

/-- ZERO_CROSSING (R177, R181): crossing `k` of the six of an electrical turn, `interval` ns after the one before and `at_` ns after the
present PWM period began. -/
def execZeroCrossing (k : Fin 6) (interval at_ : Nat) (s : State) : Host.Outcome State Fault Refusal :=
  .next (
    if s.spinState = spSense then senseCrossing k interval s
    else if s.spinState = spHoldAngle then holdCrossing k interval at_ s
    else s)

/-- SENSE_TIMEOUT (R177, R178): the 60 ms end. `emf`: the back-EMF amplitudes of the three phases, µV. -/
def senseTimeout (emf : Nat × Nat × Nat) (s : State) : State :=
  let p := s.spin
  if s.spinState ≠ spSense then s
  else if 2 ≤ p.crossN ∧ p.crossFwd ∧ !s.crossRpm 600 then
    (s.put SPIN_STAT_DIR 0).enterBrake true (if s.aboveObs then .foc else .zero)
  else if 2 ≤ p.crossN ∧ p.crossRev ∧ s.crossOver 60 then
    (s.put SPIN_STAT_DIR 1).enterBrake true (if s.aboveObs then .foc else .zero)
  else if p.crossN < 2 ∧ s.emfLow emf.1 ∧ s.emfLow emf.2.1 ∧ s.emfLow emf.2.2 then s.enterAlign
  else if p.senseAgain then s.enterBrake true (if s.aboveObs then .foc else .zero)
  else s.enterSense true

def execSenseTimeout (emf : Nat × Nat × Nat) (s : State) : Host.Outcome State Fault Refusal := .next (senseTimeout emf s)

/-- BRAKE_HOLD_END (R176, R179): braking torque begins. -/
def execBrakeHoldEnd (s : State) : Host.Outcome State Fault Refusal :=
  .next (if s.spinState = spBrake ∧ s.spin.brake = .hold then
      (s.modSpin (fun p => { p with brake := if s.aboveObs then .foc else .zero })).modDrv (fun d => { d with zeroN := 0 })
    else s)

/-- BRAKE_EMF_CHECK (R179, R180): the back-EMF amplitude (µV) measured in a 20 ms window of zero-vector braking, with the outputs off, ends braking below
KE × 6.283 rad/s: ALIGN if a start is pending, otherwise STOPPED. -/
def execBrakeEmfCheck (emf : Nat) (s : State) : Host.Outcome State Fault Refusal :=
  .next (if s.spinState = spBrake ∧ s.spin.brake = .zero ∧ s.emfWindow ∧ s.emfLow emf then
      if s.spin.pendStart then s.enterAlign else s.setSpin spStopped
    else s)

/-- ALIGN_COMPLETE (R180). -/
def execAlignComplete (s : State) : Host.Outcome State Fault Refusal :=
  .next (if s.spinState = spAlign then (s.setSpin spRamp).modSpin (fun p => { p with ramp := 0, theta := 0 }) else s)

/-- RAMP_HANDOVER (R180): 64 periods in a row at or above HAND_RPM have passed every check. -/
def execRampHandover (s : State) : Host.Outcome State Fault Refusal :=
  .next (if s.spinState = spRamp ∧ 64 ≤ s.spin.okRun then s.setSpin spAccel else s)

/-- HANDOVER_FAIL (R180): at 1.5 × HAND_RPM without handover the attempt fails; the zero vector brakes and ALIGN starts again,
and the third failed attempt enters FAILED. -/
def execHandoverFail (s : State) : Host.Outcome State Fault Refusal :=
  .next (if s.spinState = spRamp ∧ 3 * s.get SPIN_STARTX_HAND_RPM * 400000 ≤ 2 * s.spin.ramp then
      let s := s.modSpin (fun p => { p with attempts := p.attempts + 1 })
      if 3 ≤ s.spin.attempts then s.enterFailed else s.enterBrake true .zero
    else s)

/-! ### Losing synchronism, timeouts, power loss (R176, R182, R183) -/

/-- HOLD_ANGLE_TIMEOUT (R182): COAST with a Warn record, then SENSE at once if AUTO_CATCH is 1. -/
def execHoldAngleTimeout (s : State) : Host.Outcome State Fault Refusal :=
  .next (if s.spinState = spHoldAngle then
      let s := (s.setSpin spCoast).faultBit spinFault 4 sevWarn clsCorrected noInst 0
      if s.flag SPIN_CFG_AUTO_CATCH then s.enterSense false else s
    else s)

/-- START_TIMEOUT (R176): START_TO seconds since START without reaching LOCKED. -/
def execStartTimeout (s : State) : Host.Outcome State Fault Refusal :=
  .next (
    let st := s.spinState
    if s.spin.starting ∧ (st = spSense ∨ st = spBrake ∨ st = spAlign ∨ st = spRamp ∨ st = spAccel) then s.enterFailed else s)

/-- GENERATE_HOLD_END (R183). -/
def execGenerateHoldEnd (s : State) : Host.Outcome State Fault Refusal :=
  .next (s.modSpin (fun p => { p with genHold := false }))

/-- The power-loss warning at SPIN (R176, R183): GENERATE at 600 rpm or more, else STOPPED. -/
def State.spinPowerLoss (s : State) : State :=
  if s.spinState = spFailed then s
  else if 600 * 65536 ≤ s.speed then (s.setSpin spGenerate).modSpin (fun p => { p with genHold := true, starting := false })
  else (s.setSpin spStopped).modSpin (fun p => { p with starting := false })

/-- SPIN_RESIDUE (R184): a mismatch that a recomputation removes is Corrected; one that stays is Contained, the last vector
rotates at the last speed, and the motor context restarts; the unit's Expert page locks (R101). -/
def execSpinResidue (again : Bool) (s : State) : Host.Outcome State Fault Refusal :=
  .next (
    if again then
      ((s.faultBit spinFault 7 sevNote clsContained noInst 0).put ⟨EXPERT_STAT kprSPIN, 1, 1⟩ 0).modSpin (fun p => { p with rotating := true })
    else s.noteBit spinFault 6)

/-- SPIN_RESTART_DONE (R184): the motor context resumes from the observer state of its last good period. -/
def execSpinRestartDone (s : State) : Host.Outcome State Fault Refusal :=
  .next (if s.spin.rotating then
      (s.modSpin (fun p => { p with rotating := false, losRun := 0 })).fromLastGood 0
    else s)

/-! ### The Basic function (R11, SPIN's Expert page) -/

/-- SPIN's Expert page derived from the SPINDLE record and SPIN_CFG. The manual gives the five loop gains no formula: their
values are free. -/
def State.deriveSpin (s : State) : State :=
  let s := s.toPolicy (fun a => decide (addrDie a = 5) && decide (addrUnit a = 5) && decide (0x1000 ≤ addrOff a))
  let gains := [CUR_KP, CUR_KI, SPD_KP, SPD_KI, PH_K]
  let s := gains.foldl (fun s a => let (g, s) := s.draw 13; s.setNum a (g % 0x100000000)) s
  let i := s.imgNat Image.iMax / 2
  let s := (s.put SPIN_BRAKE_BRK_I i).put SPIN_STARTX_ALIGN_I i
  (s.put SPIN_GEN_GEN_V (s.imgNat Image.vmotNom * 7 / 8)).put SPIN_GEN_FLY_RPM (s.imgNat Image.rpm * 3 / 5)

/-- SPIN_CFG_WRITE (R11). -/
def spinCfgWrite (value : Word) (s : State) : State := (s.setRW SPIN_CFG value).deriveSpin

def execSpinCfgWrite (value : Word) (s : State) : Host.Outcome State Fault Refusal := .next (s.access 5 (spinCfgWrite value))

end Sys2Proof.Machine
end

