-- ==== Sys2Proof/Machine/Demod.lean ====
section
/-!
DEFINITION. Servo position sensing (file 04): the servo gate, the tick, search mode, the chevron field, the position error signal, the time-to-digital converter and telemetry.
-/

namespace Sys2Proof.Machine

/-- Wedges per revolution of the SPINDLE record (R85). -/
def State.wedgesPerRev (s : State) : Nat := s.imgNat Image.wedges

/-- The nominal wedge period in the 0.5 ps of the TDC. -/
def State.nominalHalfPs (s : State) : Nat := 120000000000000 / (s.imgNat Image.rpm * s.imgNat Image.wedges)

/-- The wedge period T of DEMOD (R102): measured between detected ticks, the nominal period before two have been detected. -/
def State.periodOf (s : State) (n : Nat) : Nat :=
  match (s.demodOf n).period with
  | some t => t
  | none => s.nominalHalfPs

/-- The channel's own extrapolation `m` wedges after the last detected tick (R50, R105). -/
def State.extrapolated (s : State) (n m : Nat) : Nat :=
  match (s.demodOf n).last with
  | some (t, _) => t + m * s.periodOf n
  | none => (s.demodOf n).tick + s.periodOf n

/-- The servo bit period, in 0.5 ps (R102). -/
def State.servoBit (s : State) (n : Nat) : Rat := mkRat (s.periodOf n) 1852

/-- SERVO_GATE_OPEN (R105, R431, R251): at the channel's own extrapolated tick less 48 servo bits the gate opens, the data gates close, and
the sequencer enters its servo section. -/
def servoGateOpen (n : Nat) (s : State) : State :=
  let at_ := ((s.extrapolated n ((s.demodOf n).since + 1) : Int) - rnd (48 * s.servoBit n)).toNat
  ((s.modDemod n (fun d => { d with gate := true, gateAt := at_, taken := false, ticked := false, found := false })).lmGateOpen n).closeAtServo n

def execServoGateOpen (ch : Ch) (s : State) : Host.Outcome State Fault Refusal := .next (s.ifCh ch (servoGateOpen ch))

/-- Count in statistics counter j of DEMOD, saturating into CNT_SAT (R69). -/
def State.demodCount (s : State) (n j : Nat) : State := s.countSat (DEMOD_CNT n j) (DEMOD_CNT_SAT_SAT n) j 1

/-- One register write that was due at the tick (R129, R136): a write of DEMOD_CTL that sets EN from 0 to 1 enters search
mode, sets POS to 0 and forgets earlier positions (R108, R116, R126). -/
def State.applyDue (s : State) (n : Nat) (e : Nat × Word) : State :=
  if e.1 = DEMOD_CTL n then
    let rise := !s.flag (DEMOD_CTL_EN n) && bitOf e.2.toNat 0
    let s := s.setRW e.1 e.2
    if rise then
      let s := ((s.setNum (POS_LO n) 0).setNum (POS_HI n) 0).modDemod n (fun d => { d with pos := 0, pos1 := none, pos0 := none })
      s.enterSearch n
    else s
  else s.setRW e.1 e.2

/-- What happens at a tick of channel n: writes that wait for it (R129), a SEARCH command (R108), LOOP's transitions and
command (R132), formats (R193, R238), calibrations (R55, R120), the wedge count. -/
def State.tick (s : State) (n : Nat) : State :=
  let d := s.demodOf n
  let s := s.modDemod n (fun d => { d with due := [], srch := false, wedges := d.wedges + 1, ticked := true, usAt := s.mtime })
  let s := d.due.foldl (fun s e => s.applyDue n e) s
  let s := if d.due.any (fun e => decide (addrUnit e.1 = addrUnit (LOOP_CMD n))) then s.setNum (LOOP_CYCLES n) (s.loopCycles n) else s
  let s := if d.srch then s.enterSearch n else s
  let s := if s.flag (DEMOD_CTL_EN n) then s.add64 (WCNT_LO n) (WCNT_HI n) 1 else s
  (((s.nextWindow n).loopTick n).formatTick n).calTick (n + 1)

/-- RETURN_FRAME_SEND (R48): one return frame per tick, 40 ns after it, with the wedge number read, FOUND, WGATE, and HEADSW where a switch has
taken effect at this tick. -/
def State.sendReturn (s : State) (n : Nat) : State :=
  let g := s.wruOf n
  (s.modDemod n (fun d => { d with ret := some ⟨d.tick, d.wedge, d.found, g.wgSeen, d.headSw⟩, headSw := false })).modWru n
    (fun u => { u with wgSeen := false })

/-- Matching bits needed (SAM_CFG.THR): 8-16, other values act as 16. -/
def State.samThr (s : State) (n : Nat) : Nat :=
  let t := s.get (SAM_CFG_THR n)
  if 8 ≤ t ∧ t ≤ 16 then t else 16

/-- The acceptance half-width in 0.5 ps (SAM_CFG.WIN in ns; 0-7 act as 8). -/
def State.samWin (s : State) (n : Nat) : Nat := 2000 * max 8 (s.get (SAM_CFG_WIN n))

/-- A SAM is accepted (R102, R106, R107, R110): it places the tick; T is measured from the last detected tick,
rounded to 0.5 ps, a choice of the model (notes/assumptions/20.md). -/
def acceptSam (n tick wedge : Nat) (pred inWin : Bool) (s : State) : State :=
  let w := s.wedgesPerRev
  let s := s.modDemod n (fun d =>
    let p := match d.last with
      | some (t0, w0) =>
        let m := (wedge + w - w0 % w) % w
        some ((roundDiv ((tick : Int) - t0) (if m = 0 then w else m)).toNat)
      | none => d.period
    { d with period := p, last := some (tick, wedge), since := 0, found := true, tick := tick, wedge := wedge, wnumPred := pred,
             predWedge := wedge, run := if inWin then d.run + 1 else 0, taken := true })
  let s := (s.put (DEMOD_STAT_MISS_RUN n) 0).put (DEMOD_STAT_LOSS n) 0
  let s := (s.put (WLR_STAT_TICK_SRC n) 0).put (WLR_STAT_WEDGE n) wedge
  (s.tick n).sendReturn n

/-- SAM_REJECT (R106, R107): a mark outside the window, or one of another wedge; the latter leaves the wedge without a SAM. -/
def rejectSam (n : Nat) (other : Bool) (s : State) : State :=
  (s.demodCount n 1).modDemod n (fun d => { d with taken := d.taken || other })

/-- The bit of a dibit (R104): the sign of the first sample sum less the second. -/
def dibitBit (p : Int × Int) : Bool := if p.1 = p.2 then Config.zeroDibit p.1 else decide (p.2 < p.1)

/-- A dibit's margin, its difference over the preamble's amplitude, lies below a threshold in 1/256 (R104, R111). -/
def dibitWeak (amp margin : Nat) (p : Int × Int) : Bool :=
  if amp = 0 then Config.weakDibit (p.1 - p.2) else decide ((p.1 - p.2).natAbs * 256 < margin * amp)

/-- The number that dibits spell, msb first (R103). -/
def dibits (ps : List (Int × Int)) : Nat := ps.foldl (fun a p => 2 * a + ofBool (dibitBit p)) 0

/-- The servo reader (R105): DEMOD_XCTL.RDR, 3 acting as 1. -/
def State.servoReader (s : State) (n : Nat) : Nat := if s.get (DEMOD_XCTL_RDR n) = 3 then 1 else s.get (DEMOD_XCTL_RDR n)

/-- Bits of a mark that match SAM_CFG.PATTERN (R106). -/
def samMatch (pattern : Nat) (sam : BitVec 16) : Nat :=
  ((List.range 16).filter (fun i => decide (bitOf pattern i = bitOf sam.toNat i))).length

/-- A twelve-bit field has odd parity over its first eleven bits (R103). -/
def oddParity (f : Nat) : Bool := decide (((List.range 11).filter (fun i => bitOf f (i + 1))).length % 2 = 1)

/-- The end of a mark lies within the open servo gate (R103, R105): 200 servo bits from its opening, the whole wedge in search mode. -/
def State.inGate (s : State) (n tick : Nat) : Bool :=
  let d := s.demodOf n
  d.gate && (s.flag (DEMOD_STAT_SEARCH n) ||
    (decide (d.gateAt ≤ tick) && decide (mkRat tick 1 ≤ mkRat d.gateAt 1 + 200 * s.servoBit n)))

/-- SAM_ACCEPT (R105-R108): a mark in the open gate, as the three readers give it, of which one is demodulated. In search mode the first
mark of enough bits followed by good parity is taken; otherwise the window and the wedge number decide. A wedge takes one mark. -/
def samAccept (n : Nat) (marks : List MarkSig) (s : State) : State :=
  let d := s.demodOf n
  match marks[s.servoReader n]? with
  | none => s
  | some m =>
    let inWin := decide (((m.tick : Int) - d.pred).natAbs ≤ s.samWin n)
    let f := dibits m.wnum
    let wnum := bitsOf f 11 2
    let parity := oddParity f
    if !s.flag (DEMOD_CTL_EN n) || d.taken || !s.inGate n m.tick || decide (samMatch (s.get (SAM_CFG_PATTERN n)) m.sam < s.samThr n) then s
    else if s.flag (DEMOD_STAT_SEARCH n) then (if parity then acceptSam n m.tick wnum false inWin s else s)
    else if !inWin then rejectSam n false s
    else if parity && decide (wnum ≠ d.predWedge) then rejectSam n true s
    else acceptSam n m.tick d.predWedge (!parity) inWin s

def execSamAccept (ch : Ch) (marks : List MarkSig) (s : State) : Host.Outcome State Fault Refusal :=
  .next (s.ifCh ch (samAccept ch marks))

/-- WEDGE_LOSS (R48, R49, R109): no SAM was accepted; the wedge runs on the predicted tick and wedge number, the write gate stays
closed, and the return frame carries FOUND 0. While EN is 0 the predicted tick passes with its return frame. What DEMOD_STAT shows of the
wedge follows at its PES-ready phase (R128). A mark that comes later in that wedge is taken in search mode only. -/
def wedgeLoss (n : Nat) (s : State) : State :=
  let s := s.modDemod n (fun d =>
    { d with found := false, since := d.since + 1, tick := d.pred, wedge := d.predWedge, wnumPred := true, run := 0,
             taken := d.taken || !(s.flag (DEMOD_STAT_SEARCH n)) })
  let s := (s.put (WLR_STAT_TICK_SRC n) 1).put (WLR_STAT_WEDGE n) (s.demodOf n).wedge
  let s := if s.flag (DEMOD_CTL_EN n) then
      let s := s.demodCount n 0
      (s.put (DEMOD_STAT_MISS_RUN n) (min 255 (s.get (DEMOD_STAT_MISS_RUN n) + 1))).dropGate n
    else s
  (s.tick n).sendReturn n

def execWedgeLoss (ch : Ch) (s : State) : Host.Outcome State Fault Refusal := .next (s.ifCh ch (wedgeLoss ch))

/-- DEMOD_LOSS (R108, R110): LOSS_LIM consecutive wedges without a SAM set LOSS, raise the LOSS event and enter search mode. -/
def demodLoss (n : Nat) (s : State) : State :=
  if s.flag (DEMOD_CTL_EN n) && !s.flag (DEMOD_STAT_LOSS n) &&
      decide (max 1 (s.get (DEMOD_XCTL_LOSS_LIM n)) ≤ s.get (DEMOD_STAT_MISS_RUN n)) then
    ((s.put (DEMOD_STAT_LOSS n) 1).raise (chEvent n 16)).enterSearch n
  else s

def execDemodLoss (ch : Ch) (s : State) : Host.Outcome State Fault Refusal := .next (s.ifCh ch (demodLoss ch))

/-- A write of DEMOD_CTL (R108, R129): it takes effect at the next tick, with SEARCH, and restores the Expert fields to
their reset values. -/
def demodCtlWrite (n : Nat) (v : Word) (s : State) : State :=
  s.modDemod n (fun d => { d with
    due := d.due ++ [(DEMOD_CTL n, v), (SAM_CFG n, resetOf (SAM_CFG n)), (ID_CFG n, resetOf (ID_CFG n)),
      (CHEV_CFG n, resetOf (CHEV_CFG n)), (DEMOD_XCTL n, resetOf (DEMOD_XCTL n)), (TDC_TC n, resetOf (TDC_TC n))],
    srch := d.srch || bitOf v.toNat 1 })

/-- The value last written to a register whose writes wait for the tick (R12, R129). -/
def State.lastWritten (s : State) (n a : Nat) : Word :=
  match (s.demodOf n).due.reverse.find? (fun e => decide (e.1 = a)) with
  | some e => e.2
  | none => s.rd a

/-- DEMOD_SEARCH (R108): a write of DEMOD_CTL with SEARCH 1 and the other fields as they were last written. -/
def execDemodSearch (ch : Ch) (s : State) : Host.Outcome State Fault Refusal :=
  .next (s.access (ch + 1) (fun s => demodCtlWrite ch (BitVec.ofNat 32 (setBitN (s.lastWritten ch (DEMOD_CTL ch)).toNat 1)) s))

def execDemodCtlWrite (ch : Ch) (value : Word) (s : State) : Host.Outcome State Fault Refusal :=
  .next (s.access (ch + 1) (demodCtlWrite ch value))

/-- SEARCH_EXIT (R108): after 8 consecutive wedges with SAMs within the window. -/
def searchExit (n : Nat) (s : State) : State :=
  if s.flag (DEMOD_STAT_SEARCH n) && decide (8 ≤ (s.demodOf n).run) then s.put (DEMOD_STAT_SEARCH n) 0 else s

def execSearchExit (ch : Ch) (s : State) : Host.Outcome State Fault Refusal := .next (s.ifCh ch (searchExit ch))

/-- DEMOD_STAT_READ (R128): the status, and POS, PES, TARGET and RRO of the same wedge captured. -/
def demodStatRead (n : Nat) (s : State) : State :=
  (s.capture (DEMOD_STAT n)).answer (.data (s.readView (DEMOD_STAT n)).toNat)

def execDemodStatRead (ch : Ch) (s : State) : Host.Outcome State Fault Refusal := .next (s.access (ch + 1) (demodStatRead ch))

/-! ### The position of a wedge (R111-R116) -/

/-- Gray code to binary over 24 bits (R111). -/
def grayToTrack (g : Nat) : Nat :=
  [1, 2, 4, 8, 16].foldl (fun b k => Nat.xor b (b / 2 ^ k)) (g % 0x1000000) % 0x1000000

/-- TRACK_ID_DECODE (R111): the 24 dibits; two or more below MARGIN leave the ID undecoded. -/
def trackId (amp : Nat) (gray : List (Int × Int)) (margin : Nat) : Option Nat :=
  if gray.length = 24 ∧ (gray.filter (dibitWeak amp margin)).length ≤ 1 then some (grayToTrack (dibits gray)) else none

/-- The fine code of a place in the chain, 0-999 (R117, R119): each cell's share of the 500 ps is its share of the hits, the vernier divides it
into 32. Before a calibration has measured them the cells count alike. That the code is the whole number below is the model's choice
(notes/assumptions/20.md). -/
def fineCode (cells : List Nat) (cell vern : Nat) : Nat :=
  if cells.foldl (· + ·) 0 = 0 then (32 * cell + vern) * 1000 / 1536
  else (32 * (cells.take cell).foldl (· + ·) 0 + cells.getD cell 0 * vern) * 1000 / (32 * cells.foldl (· + ·) 0)

/-- A stamp, 0.5 ps from the tick (R117). -/
def stampOf (cells : List Nat) (e : TdcEdge) : Nat := 1000 * e.coarse + fineCode cells e.cell e.vern

/-- The time of a pair: the mean of its two transition stamps. -/
def pairTime (cells : List Nat) (p : TdcEdge × TdcEdge × Nat) : Rat := mkRat (stampOf cells p.1 + stampOf cells p.2.1 : Nat) 2

/-- CHEVRON_LOCATE (R114): the twelve pair times, held to the window of the first pair and the gaps within and between groups. `tsb` is the
servo bit. -/
def chevOk (t : List Rat) (tsb : Rat) (window tol : Nat) : Bool :=
  decide (t.length = 12) && decide (absQ (t.getD 0 0 - 76 * tsb) ≤ (window : Rat) * tsb) &&
    (List.range 11).all (fun i =>
      let g := t.getD (i + 1) 0 - t.getD i 0
      if i % 3 = 2 then decide (5 * tsb ≤ g) && decide (g ≤ 7 * tsb)
      else decide (absQ (g - 4 * tsb) ≤ mkRat tol 64 * tsb))

/-- Every pair's amplitude is at least AMIN, in 1/256, of the preamble's (R114). -/
def chevAmp (amp amin : Nat) (ps : List (TdcEdge × TdcEdge × Nat)) : Bool := ps.all (fun p => decide (amin * amp ≤ p.2.2 * 256))

/-- The mean time of group g. -/
def groupTime (t : List Rat) (g : Nat) : Rat := (t.getD (3 * g) 0 + t.getD (3 * g + 1) 0 + t.getD (3 * g + 2) 0) / 3

/-- a and b of R115. -/
def chevA (t : List Rat) : Rat := (groupTime t 1 - groupTime t 0 + (groupTime t 3 - groupTime t 2)) / 2
def chevB (t : List Rat) : Rat := groupTime t 2 - groupTime t 1

/-- The position within the band, u = 28 × (a - b) / (a + b) (R115). -/
def chevU (a b : Rat) : Rat := 28 * (a - b) / (a + b)

/-- The velocity estimate in 2^-32 track per wedge (R116). -/
def velocityOf (d : Demod) : Option Rat :=
  match d.pos1, d.pos0 with
  | some p1, some p0 =>
    if p0.at_ < p1.at_ ∧ p1.at_ - p0.at_ ≤ 4 then some (mkRat (p1.x - p0.x) (p1.at_ - p0.at_)) else none
  | _, _ => none

/-- N_ref of R116: the decoded track ID, or the last valid POS advanced by the velocity estimate. -/
def refTrack (d : Demod) (id : Option Nat) : Option Int :=
  match id with
  | some t => some t
  | none =>
    match d.pos1, velocityOf d with
    | some p, some v =>
      if d.wedges - p.at_ ≤ 4 ∧ absQ v < 0x100000000 then
        some (rnd ((mkRat p.x 1 + v * ((d.wedges - p.at_ : Nat) : Rat)) / 0x100000000))
      else none
    | _, _ => none

/-- X: the value of 4k + 1.5 + u nearest to N_ref (R116). -/
def nearestX (u : Rat) (nref : Int) : Rat := 4 * (rnd ((mkRat nref 1 - mkRat 3 2 - u) / 4) : Rat) + mkRat 3 2 + u

/-- The prediction POS holds where it is not valid (R126), in 2^-32 track. -/
def predictedPos (d : Demod) (id : Option Nat) : Int :=
  match d.pos1, velocityOf d with
  | some p, some v => rnd (mkRat p.x 1 + v * ((d.wedges - p.at_ : Nat) : Rat))
  | some p, none => p.x
  | none, _ =>
    match id with
    | some t => (t : Int) * 0x100000000
    | none => d.pos

/-- RRO_CORRECTION (R124): code, RRO_SRC, whether RRO_MISS counts, and the cache after it. -/
def rroOf (mode : Nat) (usable : Bool) (code wedge : Nat) (cache : List (Nat × Nat)) : Nat × Nat × Bool × List (Nat × Nat) :=
  if mode = 0 ∨ mode = 3 then (0, 0, false, cache)
  else if usable then (code, 1, false, if mode = 2 then place wedge code cache else cache)
  else if mode = 2 then
    match look wedge cache with
    | some c => (c, 2, false, cache)
    | none => (0, 0, true, cache)
  else (0, 0, true, cache)

/-- PES (R125): round((X - RRO/2048 - TARGET) × P / 0.02 nm), P in U8.8 nm. -/
def pesOf (x : Rat) (rro : Nat) (tgt : Int) (pitch : Nat) : Int :=
  rnd ((x - mkRat (sx 10 rro) 2048 - unfix 32 tgt) * mkRat (pitch * 50) 256)

/-- Write a position, 2^-32 track, into a pair of U24.16 registers. A position below track 0 has no form there that the
manual gives: its value is free. The position itself is kept to 2^-32 track, rounded to nearest, and so is its form in the registers: choices of
the model (notes/assumptions/20.md). -/
def State.setPosition (s : State) (lo hi : Nat) (x : Int) : State :=
  if x < 0 then
    let (a, s) := s.draw 2
    (s.setNum lo (a % 0x100000000)).setNum hi (a / 0x100000000 % 0x100)
  else
    let v := (roundDiv x 0x10000).toNat
    (s.setNum lo (v % 0x100000000)).setNum hi (v / 0x100000000 % 0x100)

/-- TELEM_RECORD (R130): one 16-byte record every 2^DECIM wedges into the ring. That the first comes 2^DECIM wedges after reset and the count
of wedges is kept over EN 0 and a change of DECIM is the model's choice (notes/assumptions/20.md). -/
def State.telemetry (s : State) (n : Nat) (stat rro : Nat) (amb : Int) (written : Bool) : State :=
  if s.flag (TELEM_CTL_EN n) then
    let s := s.modDemod n (fun d => { d with telem := d.telem + 1 })
    if (s.demodOf n).telem < 2 ^ s.get (TELEM_CTL_DECIM n) then s
    else
      let s := s.modDemod n (fun d => { d with telem := 0 })
      if written then
        let len := s.get (TELEM_CTL_LEN n)
        let size := 2 ^ (if 6 ≤ len ∧ len ≤ 13 then len else 6)
        let h := s.get (TELEM_HEAD_INDEX n) % size
        let d := s.demodOf n
        let w := ofBool d.found * 0x8000 + ofBool d.idTrack.isSome * 0x4000 + ofBool d.posValid * 0x2000 +
          ofBool d.pesValid * 0x1000 + bitsOf stat 23 22 * 0x400 + d.wedge % 0x400
        let rec16 := toLe 2 w ++ toLe 2 (toBits 16 d.pes) ++ toLe 4 (s.num (POS_LO n)) ++
          toLe 2 (toBits 16 (clampS 16 amb)) ++ toLe 2 (toBits 16 (sx 10 rro)) ++ toLe 4 (s.num TSTAMP)
        (s.csWrite n (16 * s.get (TELEM_CTL_BASE n) + 16 * h) rec16).setNum (TELEM_HEAD n) ((h + 1) % size)
      else s.demodCount n 6
  else s

/-- The chevron registers of the wedge: PAIR, AMB and APB (R115, R117). That they are rounded to nearest, and keep their values in a wedge
without twelve pairs, is the model's choice (notes/assumptions/20.md). -/
def State.setPairs (s : State) (n : Nat) (t : List Rat) : State :=
  if t.length = 12 then
    let s := (List.range 12).foldl (fun s i => s.setNum (PAIR n i) (rnd (t.getD i 0)).toNat) s
    (s.setNum (AMB n) (toBits 32 (rnd (chevA t - chevB t)))).setNum (APB n) (toBits 32 (rnd (chevA t + chevB t)))
  else s

/-- The results of a wedge published at its PES-ready phase (R103, R104, R111-R117, R122-R126). Where POS_VALID is 0, the track whose change
empties the RRO cache is that of the predicted POS, a choice of the model (notes/assumptions/20.md). -/
def publish (n : Nat) (g : ServoSig) (s : State) : State :=
  let d := s.demodOf n
  let id := if d.found then trackId g.amp g.gray (s.get (ID_CFG_MARGIN n)) else none
  let s := if d.found && id.isNone then s.demodCount n 2 else s
  let t := g.pairs.map (pairTime d.cells)
  let ok := chevOk t (s.servoBit n) (clampI 2 16 (s.get (CHEV_CFG_WINDOW n))).toNat (s.get (CHEV_CFG_SP_TOL n)) &&
    chevAmp g.amp (s.get (CHEV_CFG_AMIN n)) g.pairs
  let a := chevA t
  let b := chevB t
  let u := chevU a b
  let lock := s.flag (TDC_STAT_LOCK n)
  let nref := refTrack d id
  let x := nearestX u (nref.getD 0)
  let valid := ok && decide (absQ u ≤ mkRat 7 4) && nref.isSome && decide (absQ (x - mkRat (nref.getD 0) 1) ≤ 1) && lock
  let pos := if valid then rnd (x * 0x100000000) else predictedPos d id
  let s := if valid then s else s.demodCount n 3
  let near := roundDiv pos 0x100000000
  let cache := if near = d.rroTrack then d.rro else []
  let rro := dibits g.rro
  let usable := d.found && oddParity rro && valid && decide (absQ (x - mkRat (rnd x) 1) ≤ mkRat 1 4)
  let (code, src, miss, cache) := rroOf (s.get (DEMOD_CTL_RRO_MODE n)) usable (bitsOf rro 11 2) d.wedge cache
  let s := if miss then s.demodCount n 4 else s
  let pitch := s.pitchRaw n (s.zoneOf n pos)
  let tgt := (s.loopOf n).tgt
  let raw := pesOf (if valid then x else unfix 32 pos) code tgt pitch
  let pes := clampI (-32767) 32767 raw
  let pesValid := valid && decide (pitch ≠ 0)
  let s := s.modDemod n (fun d => { d with
    pos := pos, posValid := valid, idTrack := id, pes := pes, pesValid := pesValid, rro := cache, rroTrack := near,
    pos0 := if valid then d.pos1 else d.pos0, pos1 := if valid then some ⟨pos, d.wedges⟩ else d.pos1 })
  let s := (s.setPosition (POS_LO n) (POS_HI n) pos).setPosition (DEMOD_TARGET_LO n) (DEMOD_TARGET_HI n) tgt
  let s := ((s.setNum (PES n) (toBits 16 pes)).setNum (RRO n) code).setPairs n t
  let s := ((s.put (DEMOD_STAT_RRO_SRC n) src).put (DEMOD_STAT_PES_SAT n) (ofBool (decide (raw ≠ pes)))).put (DEMOD_STAT_TDC_LOCK n) (ofBool lock)
  let s := ((s.put (DEMOD_STAT_WNUM_SRC n) (ofBool d.wnumPred)).put (DEMOD_STAT_TICK_SRC n) (ofBool (!d.found))).put (DEMOD_STAT_WEDGE n) d.wedge
  let s := ((s.put (DEMOD_STAT_PES_VALID n) (ofBool pesValid)).put (DEMOD_STAT_POS_VALID n) (ofBool valid)).put (DEMOD_STAT_CHEV_OK n) (ofBool ok)
  (s.put (DEMOD_STAT_ID_VALID n) (ofBool id.isSome)).put (DEMOD_STAT_SAM_FOUND n) (ofBool d.found)

/-- PES_READY (R105, R125, R128): DEMOD publishes the wedge from the servo reader's signal, LOOP computes it, telemetry is written. `telem`: a
record due can be written. In search mode a wedge takes a mark again from here on: the manual does not say until when a mark belongs to the wedge
before, and this is the model's choice (notes/assumptions/20.md). -/
def pesReady (n : Nat) (signals : List ServoSig) (telem : Bool) (s : State) : State :=
  let s := s.modDemod n (fun d => { d with gate := d.gate && s.flag (DEMOD_STAT_SEARCH n) })
  let s := if s.flag (DEMOD_CTL_EN n) then
      let s := publish n ((signals[s.servoReader n]?).getD ⟨0, [], [], []⟩) s
      let s := s.telemetry n (s.num (DEMOD_STAT n)) (s.num (RRO n)) (sx 32 (s.num (AMB n))) telem
      s.loopWedge n
    else s
  s.modDemod n (fun d => { d with taken := false })

def execPesReady (ch : Ch) (signals : List ServoSig) (telem : Bool) (s : State) : Host.Outcome State Fault Refusal :=
  .next (s.ifCh ch (pesReady ch signals telem))

/-! ### The time-to-digital converter (R121, R122) -/

/-- The diode of a die is broken (R527). -/
def State.diodeBroken (s : State) (die : Nat) : Bool := s.flag (THERM_T_BROKEN die)

/-- The DLL's control code of a correction: none for no correction. -/
def dllCode (corr : Int) : Int := if corr = 0 then 0 else Config.dllCode corr

/-- TDC_TC_UPDATE (R45, R121): the control carries TDC_TC times the change of the diode's reading since calibration, in 2^-8 of 10 ppm; the code
that stands for a correction is open. A broken diode freezes the correction. -/
def tdcTcUpdate (n : Nat) (s : State) : State :=
  if s.diodeBroken (n + 1) then s
  else
    let d := s.demodOf n
    let corr := sx 16 (s.num (TDC_TC n)) * (s.dieTemp (n + 1) - d.calTemp)
    let s := s.put (TDC_STAT_CTRL n) (toBits 16 ((s.get (TDC_STAT_CTRL n) : Int) - dllCode d.corr + dllCode corr))
    s.modDemod n (fun d => { d with corr := corr })

def execTdcTcUpdate (ch : Ch) (s : State) : Host.Outcome State Fault Refusal := .next (s.ifCh ch (tdcTcUpdate ch))

/-- TDC_UNLOCK (R122): LOCK clears, UNLOCK is set with its Note record, the loss is counted and raised, the write gate is held
closed. -/
def tdcUnlock (n : Nat) (s : State) : State :=
  let s := (s.put (TDC_STAT_LOCK n) 0).put (DEMOD_STAT_TDC_LOCK n) 0
  let s := (s.put (DEMOD_STAT_POS_VALID n) 0).put (DEMOD_STAT_PES_VALID n) 0
  let s := s.noteBit ⟨TDC_STAT n, none, none⟩ 30
  ((s.demodCount n 5).raise (chEvent n 17)).dropGate n

def execTdcUnlock (ch : Ch) (s : State) : Host.Outcome State Fault Refusal := .next (s.ifCh ch (tdcUnlock ch))

/-- TDC_RELOCK (R122): the DLL locks. -/
def tdcRelock (n : Nat) (s : State) : State := (s.put (TDC_STAT_LOCK n) 1).put (DEMOD_STAT_TDC_LOCK n) 1

def execTdcRelock (ch : Ch) (s : State) : Host.Outcome State Fault Refusal := .next (s.ifCh ch (tdcRelock ch))

/-- DEMOD_CNT_CLR (R69): each bit sets its counter to 0; CNT_SAT is not affected. -/
def demodCntClr (n : Nat) (v : Word) (s : State) : State :=
  (List.range 7).foldl (fun s j => if bitOf v.toNat j then s.setNum (DEMOD_CNT n j) 0 else s) s

def execDemodCntClr (ch : Ch) (value : Word) (s : State) : Host.Outcome State Fault Refusal :=
  .next (s.access (ch + 1) (demodCntClr ch value))

end Sys2Proof.Machine
end

