-- ==== Sys2Proof/Machine/Loop.lean ====
section
/-!
DEFINITION. The loop engine, the hold loop, the Clasp VCM lane and the SHOCK unit (file 05): commands, automatic transitions, φ0 and the sub-setpoints, overruns and residues, load and unload.
-/

namespace Sys2Proof.Machine

/-! ### Accesses during a restart (R155) -/

/-- The channel whose LOOP unit an address lies in. -/
def loopAt (a : Nat) : Option Nat := (List.range 4).find? (fun n => decide (addrDie a = n + 1) && decide (addrUnit a = addrUnit (LOOP_CMD n)))

/-- An access to a LOOP register waits: the unit restarts (R155). -/
def State.loopWaits (s : State) (a : Nat) : Bool :=
  match loopAt a with
  | some n => (s.loopOf n).restarting && s.dieOn (n + 1)
  | none => false

/-- The access waits for the restart to complete, behind those that came before it; it answers when it acts. -/
def State.holdAccess (s : State) (a : Nat) (v : Option Nat) : State :=
  match loopAt a with
  | some n => (s.modLoop n (fun l => { l with waiting := l.waiting ++ [(a, v)] })).answer .waits
  | none => s

/-- A write of a LOOP register that is a command of its own: it waits for a restart, or acts. -/
def State.loopAccess (s : State) (n a v : Nat) (f : State → State) : State :=
  if s.loopWaits a then s.holdAccess a (some v) else s.access (n + 1) f

/-! ### Commands (R132): each waits for the next tick -/

/-- A write of LOOP_CMD with a code and KEEP. -/
def State.loopCmd (s : State) (n code : Nat) (keep : Bool) : State :=
  s.loopAccess n (LOOP_CMD n) (code + 256 * ofBool keep) (fun s => (s.rcvFoul n).writeCmd n code keep)

def execLoopGo (ch : Ch) (s : State) : Host.Outcome State Fault Refusal :=
  .next (s.loopCmd ch 1 false)

def execLoopManual (ch : Ch) (keep : Bool) (s : State) : Host.Outcome State Fault Refusal :=
  .next (s.loopCmd ch 2 keep)

def execLoopAuto (ch : Ch) (s : State) : Host.Outcome State Fault Refusal :=
  .next (s.loopCmd ch 3 false)

def execLoadHeads (ch : Ch) (s : State) : Host.Outcome State Fault Refusal :=
  .next (s.loopCmd ch 4 false)

def execUnloadHeads (ch : Ch) (s : State) : Host.Outcome State Fault Refusal :=
  .next (s.loopCmd ch 5 false)

def execLoopRearm (ch : Ch) (s : State) : Host.Outcome State Fault Refusal :=
  .next (s.loopCmd ch 6 false)

/-! ### Automatic transitions -/

/-- A bit of LOOP_FAULT is set with its record (R490). -/
def State.loopFaultBit (s : State) (n bit sev cls : Nat) : State := s.faultBit (loopFault n) bit sev cls noInst 0

/-- LOOP enters LOST (R149). -/
def State.enterLost (s : State) (n : Nat) : State :=
  let s := (s.loopFaultBit n 7 sevNote clsCorrected).raise (chEvent n 20)
  (s.setMode n mLost).modLoop n (fun l => { l with lostRun := 0, coast := 0, m0 := l.m, validRun := 0, plan := none, next := none })

/-- FE_TRIP (R146): FE_CNT has reached TIME. In SEEK and SETTLE the first trip since the GO replans and the second enters
LOST; in FOLLOW the trip acts as a GO and counts as the first. -/
def feTrip (n : Nat) (s : State) : State :=
  let m := s.mode n
  if (m = mSeek ∨ m = mSettle ∨ m = mFollow) ∧ max 1 (s.get (FE_CFG_TIME n)) ≤ s.get (LOOP_STAT_FE_CNT n) then
    let s := ((s.loopFaultBit n 6 sevNote clsCorrected).raise (chEvent n 20)).put (LOOP_STAT_FE_CNT n) 0
    if m = mFollow then (s.go n).modLoop n (fun l => { l with feTrips := 1 })
    else if (s.loopOf n).feTrips = 0 then
      ((s.planSeek n (s.targetReg n) (s.get (SEEK_POLICY_PROFILE n))).setMode n mSeek).modLoop n (fun l => { l with feTrips := 1, next := none })
    else s.enterLost n
  else s

def execFeTrip (ch : Ch) (s : State) : Host.Outcome State Fault Refusal := .next (s.ifCh ch (feTrip ch))

/-- LOST_ENTRY (R149): COAST wedges without a valid PES, or DEMOD's LOSS. -/
def lostEntry (n : Nat) (s : State) : State :=
  if (s.mode n = mSettle ∨ s.mode n = mFollow) ∧
      (max 1 (s.get (LOSS_CFG_COAST n)) ≤ (s.loopOf n).coast ∨ s.flag (DEMOD_STAT_LOSS n) = true) then s.enterLost n
  else s

def execLostEntry (ch : Ch) (s : State) : Host.Outcome State Fault Refusal := .next (s.ifCh ch (lostEntry ch))

/-- POSITION_RECOVERED (R149): 8 valid positions in LOST; TARGET becomes the nearest servo-track centre. -/
def positionRecovered (n : Nat) (s : State) : State :=
  if s.mode n = mLost ∧ 8 ≤ (s.loopOf n).validRun then
    (((s.setTarget n (roundDiv (s.demodOf n).pos 0x100000000 * 0x100000000)).presetFrom n).setMode n mFollow).modLoop n
      (fun l => { l with coast := 0 })
  else s

def execPositionRecovered (ch : Ch) (s : State) : Host.Outcome State Fault Refusal := .next (s.ifCh ch (positionRecovered ch))

/-- LOST_RETRACT (R149): LOSS_CFG.RETRACT wedges in LOST start an unload. -/
def lostRetract (n : Nat) (s : State) : State :=
  if s.mode n = mLost ∧ s.get (LOSS_CFG_RETRACT n) ≤ (s.loopOf n).lostRun then s.startUnload n else s

def execLostRetract (ch : Ch) (s : State) : Host.Outcome State Fault Refusal := .next (s.ifCh ch (lostRetract ch))

/-! ### φ0, overruns and residues (R143, R151-R156) -/

/-- Latch a setpoint at φ0. -/
def State.latchOut (s : State) (n : Nat) (u m : Int) : State := s.setNum (LOOP_OUT n) (toBits 16 m * 0x10000 + toBits 16 u)

/-- The substitute of R152: u + Δ, and the microactuator as it was. -/
def State.latchSubstitute (s : State) (n : Nat) : State :=
  let u := unfix 15 (sx 16 (s.get (LOOP_OUT_VCM n))) + (s.loopOf n).delta
  s.put (LOOP_OUT_VCM n) (toBits 16 (fix 16 15 (clampQ (-1) 1 u)))

/-- The wedge's verdict becomes unsafe, and the gate drops (R148, R151, R152). -/
def State.unsafeNow (s : State) (n : Nat) : State :=
  ((s.put (LOOP_STAT_UNSAFE n) 1).modLoop n (fun l => { l with clean := 0 })).dropGate n

/-- An overrun is recorded and counted (R69, R152). -/
def State.overrun (s : State) (n : Nat) : State :=
  let s := s.loopFaultBit n 1 sevNote clsCorrected
  let c := s.get (OVR_CNT_COUNT n) + 1
  if 0xFFFF ≤ c then (s.put (OVR_CNT_COUNT n) 0xFFFF).put (OVR_CNT_SAT n) 1 else s.put (OVR_CNT_COUNT n) c

/-- A run of overruns goes on (R152, R153, R155): the second consecutive one sets OVR2 and the eighth OVR8. -/
def State.overrunRun (s : State) (n : Nat) : State :=
  let s := (s.overrun n).modLoop n (fun l => { l with ovrRun := l.ovrRun + 1 })
  let r := (s.loopOf n).ovrRun
  let s := if r = 2 then (s.loopFaultBit n 2 sevWarn clsCorrected).raise (chEvent n 20) else s
  if r = 8 then s.loopFaultBit n 3 sevFault clsContained else s

/-- An unfinished computation at φ0 while LOOP drives the lane (R152, R153): the substitute, and at the eighth consecutive overrun the
handover. -/
def State.driveOverrun (s : State) (n : Nat) : State :=
  let s := ((s.overrunRun n).latchSubstitute n).unsafeNow n
  s.modLoop n (fun l => { l with handover := l.handover || l.discard || decide (l.ovrRun = 8), discard := false })

/-- PHI0_LATCH (R143): the setpoints are latched and the frame of φ0 sent. `done`: the wedge's computation has finished. -/
def phi0Latch (n : Nat) (done : Bool) (s : State) : State :=
  let m := s.mode n
  let l := s.loopOf n
  let s :=
    if m = mParked ∨ m = mRetracted then (s.latchOut n 0 0).modLoop n (fun l => { l with delta := 0, ovrRun := 0 })
    else if m = mHold then
      let s := s.put (LOOP_OUT_VCM n) (toBits 16 (s.holdOf n).out)
      let s := s.modLoop n (fun l => { l with delta := 0 })
      if l.restarting ∨ l.noShadow then s
      else if done then s.modLoop n (fun l => { l with ovrRun := 0 })
      else s.overrunRun n
    else if !done then s.driveOverrun n
    else if l.discard then
      ((s.latchSubstitute n).unsafeNow n).modLoop n (fun l => { l with handover := true, ovrRun := 0, discard := false })
    else (s.latchOut n l.newU l.newM).modLoop n (fun l => { l with delta := l.newD, ovrRun := 0 })
  (s.modLoop n (fun l => { l with latched := true })).instantFrame n 0

def execPhi0Latch (ch : Ch) (done : Bool) (s : State) : Host.Outcome State Fault Refusal := .next (s.ifCh ch (phi0Latch ch done))

/-- SUB_SETPOINT (R143): the frame of φ0 + T/4, T/2 or 3T/4. -/
def execSubSetpoint (ch : Ch) (q : Fin 3) (s : State) : Host.Outcome State Fault Refusal :=
  .next (s.ifCh ch (fun s => s.instantFrame ch (q + 1)))

/-- CLASP_FRAME_REPEAT (R161): the last frame again with the next SEQ, or the RETRACT that is due. -/
def claspFrameRepeat (n : Nat) (s : State) : State :=
  s.claspFrame n (s.get (CLV_STAT_CMD n)) (sx 16 (s.get (CLV_OUT_VCM n))) (sx 16 (s.get (CLV_OUT_MA n)))

def execClaspFrameRepeat (ch : Ch) (s : State) : Host.Outcome State Fault Refusal := .next (s.ifCh ch (claspFrameRepeat ch))

/-- LOOP_RESIDUE (R151, R155): a mismatch recomputes the wedge; a second one discards its result, at φ0 with the substitute and the handover. Where the
recomputation ends after φ0, which has latched the substitute already (R152), the handover follows at once. -/
def loopResidue (n : Nat) (again : Bool) (s : State) : State :=
  let m := s.mode n
  if m = mParked ∨ m = mRetracted then s
  else if !again then s.loopFaultBit n 4 sevNote clsCorrected
  else
    let s := s.discardWedge n
    if m = mHold then (s.loopFaultBit n 5 sevNote clsContained).modLoop n (fun l => { l with shadow := 0 })
    else (s.loopFaultBit n 5 sevFault clsContained).modLoop n (fun l =>
      { l with discard := !l.latched, handover := l.handover || l.latched })

def execLoopResidue (ch : Ch) (again : Bool) (s : State) : Host.Outcome State Fault Refusal :=
  .next (s.ifCh ch (loopResidue ch again))

/-- A unit's Expert page locks (R101). -/
def State.relock (s : State) (base : Nat) : State :=
  s.wr (base + 0xFF4) (BitVec.ofNat 32 (clrBitN (s.num (base + 0xFF4)) 1))

/-- A LOOP restart begins (R155): the computation state and the Expert unlock are cleared, the registers keep their values. -/
def State.restartLoop (s : State) (n : Nat) : State :=
  ((s.modLoop n (fun l => { Loop.reset with
      plant := l.plant, km := l.km, bw := l.bw, kv := l.kv, tickMode := l.tickMode, latched := l.latched, waiting := l.waiting, derive := l.derive, tgt := l.tgt, head := l.head, x := l.x, est := 3, zone := l.zone, fwd := l.fwd, cmd := l.cmd, hold := l.hold, restarting := true })).put
    (LOOP_STAT_RESTARTS n) 0).relock (chLOOP n)

/-- HOLD_HANDOVER (R153, R156): HOLD takes the lane and LOOP restarts; without AVAIL the lane goes to RETRACTED. -/
def holdHandover (n : Nat) (s : State) : State :=
  if (s.loopOf n).handover then
    if s.flag (HOLD_STAT_AVAIL n) then
      let t := if s.mode n = mSeek then roundDiv (s.loopOf n).x 0x100000000 * 0x100000000 else (s.loopOf n).tgt
      let s := (s.modLoop n (fun l => { l with tgt := t })).restartLoop n
      let s := s.modHold n (fun h => { h with preset := false, out := sx 16 (s.get (LOOP_OUT_VCM n)) })
      ((s.setMode n mHold).put (HOLD_STAT_INVALID_RUN n) 0).raise (chEvent n 22)
    else (s.restartLoop n).retractLane n
  else s

def execHoldHandover (ch : Ch) (s : State) : Host.Outcome State Fault Refusal := .next (s.ifCh ch (holdHandover ch))

/-- LOOP_RESTART_DONE (R155, R159): a failed self-test repeats the restart; the third sets RESTART_FAIL and retracts. -/
def loopRestartDone (n : Nat) (pass : Bool) (s : State) : State :=
  if (s.loopOf n).restarting then
    if pass then s.modLoop n (fun l => { l with restarting := false, shadow := 0 })
    else
      let r := s.get (LOOP_STAT_RESTARTS n) + 1
      let s := s.put (LOOP_STAT_RESTARTS n) (min 3 r)
      if r < 3 then s
      else
        let s := (s.loopFaultBit n 9 sevNote clsDegraded).degrade n (LOOP_FAULT n) 9
        let s := s.modLoop n (fun l => { l with restarting := false })
        if s.mode n = mHold then s.retractLane n else s
  else s

/-- LOOP_SHADOW_END (R145, R155): after 16 shadow wedges LOOP takes the lane back in FOLLOW on HOLD's track. -/
def loopShadowEnd (n : Nat) (s : State) : State :=
  let l := s.loopOf n
  if s.mode n = mHold ∧ l.restarting = false ∧ l.noShadow = false ∧ 16 ≤ l.shadow then
    (((s.setTarget n l.tgt).presetFrom n).setMode n mFollow).raise (chEvent n 23)
  else s

def execLoopShadowEnd (ch : Ch) (s : State) : Host.Outcome State Fault Refusal := .next (s.ifCh ch (loopShadowEnd ch))

/-- HOLD gives up the lane (R154, R156): RETRACT, both fault bits, the retract event, and the actuator Degraded. -/
def State.holdRetract (s : State) (n : Nat) : State :=
  let s := s.faultBit (holdFault n) 1 sevNote clsCorrected noInst 0
  let s := (s.loopFaultBit n 8 sevNote clsDegraded).degrade n (LOOP_FAULT n) 8
  (s.retractLane n).raise (chEvent n 24)

/-- HOLD_INVALID_RETRACT (R154): LIM consecutive wedges without a valid PES while HOLD drives. -/
def holdInvalidRetract (n : Nat) (s : State) : State :=
  if s.mode n = mHold ∧ max 1 (s.get (HOLD_CFG_LIM n)) ≤ s.get (HOLD_STAT_INVALID_RUN n) then s.holdRetract n else s

def execHoldInvalidRetract (ch : Ch) (s : State) : Host.Outcome State Fault Refusal := .next (s.ifCh ch (holdInvalidRetract ch))

/-- HOLD_PARITY (R156): AVAIL clears until the next write to PLANT; while HOLD drives, the lane is retracted at once. -/
def holdParity (n : Nat) (s : State) : State :=
  let s := (s.faultBit (holdFault n) 0 sevNote clsCorrected noInst 0).put (HOLD_STAT_AVAIL n) 0
  if s.mode n = mHold then s.holdRetract n else s

def execHoldParity (ch : Ch) (s : State) : Host.Outcome State Fault Refusal := .next (s.ifCh ch (holdParity ch))

/-! ### Coefficients and policy (R135, R141) -/

/-- The Basic registers that derive LOOP's coefficients: PLANT, PLANT_MA, BW, NOTCH0-NOTCH3. -/
def loopBasic (n r : Nat) : Nat :=
  match r with
  | 0 => PLANT n
  | 1 => PLANT_MA n
  | 2 => BW n
  | k => NOTCH n (k - 3)

/-- COEFF_DERIVE (R11, R135, R136, R154, R156): the write ends the overrides of every coefficient but A_MAX, and a derivation is due at
the next tick; PLANT also gives HOLD its copy of KV, with AVAIL. -/
def coeffDerive (n r : Nat) (v : Word) (s : State) : State :=
  let s := s.endOverrides (fun a => decide (LOOP_KP n ≤ a) && decide (a < LOOP_KP n + 0x1000) && decide (a ≠ LOOP_A_MAX n))
  let s := (s.setRW (loopBasic n r) v).modLoop n (fun l => { l with derive := true })
  if r = 0 then (s.modHold n (fun h => { h with kv := v.toNat })).put (HOLD_STAT_AVAIL n) 1 else s

def execCoeffDerive (ch : Ch) (reg : Fin 7) (value : Word) (s : State) : Host.Outcome State Fault Refusal :=
  .next (s.loopAccess ch (loopBasic ch reg) value.toNat (coeffDerive ch reg value))

/-- SEEK_POLICY_WRITE (R135, R141): JERK_W follows the profile at the next tick, and overrides of JERK_W and A_MAX end. -/
def seekPolicyWrite (n : Nat) (v : Word) (s : State) : State :=
  let s := s.setRW (SEEK_POLICY n) v
  let s := s.endOverrides (fun a => decide (a = LOOP_A_MAX n) || decide (a = LOOP_JERK_W n))
  s.modDemod n (fun d => { d with due := d.due ++ [(LOOP_JERK_W n, BitVec.ofNat 32 (profile (s.get (SEEK_POLICY_PROFILE n))).2)] })

def execSeekPolicyWrite (ch : Ch) (value : Word) (s : State) : Host.Outcome State Fault Refusal :=
  .next (s.loopAccess ch (SEEK_POLICY ch) value.toNat (seekPolicyWrite ch value))

/-- CLV_RETRACT (R161, CLV_CTL): RETRACT at the next frame instant; LOOP enters RETRACTED. -/
def execClvRetract (ch : Ch) (s : State) : Host.Outcome State Fault Refusal :=
  .next (s.access (ch + 1) (fun s => s.retractLane ch))

/-! ### Shock (R150) -/

/-- SHOCK_SAMPLE (R150): one sample of the three sensors, S1.15. A sample above THR marks a forward frame of every channel;
the first of an excursion is a trip. -/
def shockSample (shock rvx rvy : Nat) (s : State) : State :=
  if s.flag SHOCK_CTL_EN then
    let mag := (sx 16 shock).natAbs
    let s := s.setNum RV_NOW (rvy % 0x10000 * 0x10000 + rvx % 0x10000)
    let s := if s.get SHOCK_STAT_PEAK < mag then s.put SHOCK_STAT_PEAK mag else s
    let exceeds := decide (s.get SHOCK_CTL_THR < mag)
    let first := exceeds && !s.shock.above
    let s := { s with shock := ⟨exceeds, shock % 0x10000, if exceeds then Vector.replicate 4 true else s.shock.trip⟩ }
    if first then ((s.put SHOCK_STAT_TRIP 1).setNum SHOCK_CNT (min 0xFFFFFFFF (s.num SHOCK_CNT + 1))).raise 460 else s
  else s

def execShockSample (shock rvx rvy : Nat) (s : State) : Host.Outcome State Fault Refusal := .next (shockSample shock rvx rvy s)

/-- SHOCK_TRIP_CLEAR (SHOCK_STAT): a write of 1 to TRIP clears it and sets PEAK to 0. -/
def shockTripClear (s : State) : State := (s.put SHOCK_STAT_TRIP 0).put SHOCK_STAT_PEAK 0

def execShockTripClear (s : State) : Host.Outcome State Fault Refusal := .next (s.access 5 shockTripClear)

/-! ### Load and unload (R157, R158) -/

/-- LOAD_COMPLETE (R157): search mode has ended and POS_VALID has been 1 for 8 wedges: a GO to TARGET. -/
def loadComplete (n : Nat) (s : State) : State :=
  if s.mode n = mLoading ∧ s.flag (DEMOD_STAT_SEARCH n) = false ∧ 8 ≤ (s.loopOf n).validRun then s.go n else s

def execLoadComplete (ch : Ch) (s : State) : Host.Outcome State Fault Refusal := .next (s.ifCh ch (loadComplete ch))

/-- LOAD_TIMEOUT (R157): LOAD_FAIL, and an unload. -/
def loadTimeout (n : Nat) (s : State) : State :=
  if s.mode n = mLoading then (s.loopFaultBit n 11 sevNote clsCorrected).startUnload n else s

def execLoadTimeout (ch : Ch) (s : State) : Host.Outcome State Fault Refusal := .next (s.ifCh ch (loadTimeout ch))

/-- UNLOAD_COMPLETE (R158): after UNLOAD_T ms of VEL frames HOLD_ZERO is sent and LOOP enters PARKED. -/
def unloadComplete (n : Nat) (s : State) : State :=
  if s.mode n = mUnloading ∧ (s.loopOf n).velOut = true then
    ((s.setMode n mParked).modLoop n (fun l => { l with velOut := false })).claspFrame n vcHoldZero 0 0
  else s

def execUnloadComplete (ch : Ch) (s : State) : Host.Outcome State Fault Refusal := .next (s.ifCh ch (unloadComplete ch))

end Sys2Proof.Machine
end

