-- ==== Sys2Proof/Machine/WedgeLines.lean ====
section
/-!
DEFINITION. Wedge time (file 02): crystal loss and compensation, the forward and return frames of the wedge lines, the KPR's lock on each channel, and the saving of the operating time.
-/

namespace Sys2Proof.Machine

/-! ### The crystal (R43-R45) -/

/-- XTAL_LOSS (R43, R496): the KPR switches to the backup oscillator, nothing more is written to the media, and the Fatal
cause arises. -/
def xtalLoss (s : State) : State :=
  if s.flag CLOCK_STAT_XTAL_LOST then s
  else
    let s := (s.put CLOCK_STAT_XTAL_LOST 1).put CLOCK_STAT_BACKUP 1
    ((List.range 4).foldl (fun s n => if s.chOn n then s.dropGate n else s) s).fatalCause .crystal

def execXtalLoss (s : State) : Host.Outcome State Fault Refusal := .next (xtalLoss s)

/-- The correction the coefficients give at the KPR's diode reading, ppm (file 02, Temperature compensation). -/
def State.compTarget (s : State) : Rat :=
  let t := unfix 8 (sx 16 (s.get (THERM_T_TEMP 5))) - 25
  s.s824 (COMP_COEF 0) + s.s824 (COMP_COEF 1) * t + s.s824 (COMP_COEF 2) * t * t + s.s824 (COMP_COEF 3) * t * t * t

/-- COMP_UPDATE (R44, R45): every 10 ms the applied correction moves toward the computed one by at most 0.01 ppm; a broken
KPR diode holds it. -/
def compUpdate (s : State) : State :=
  if s.flag (THERM_T_BROKEN 5) then s.put CLOCK_STAT_COMP_HOLD 1
  else
    let now := sx 32 (s.num COMP_PPM)
    (s.put CLOCK_STAT_COMP_HOLD 0).setNum COMP_PPM (toBits 32 (now + clampI (-655) 655 (fix 32 16 s.compTarget - now)))

def execCompUpdate (s : State) : Host.Outcome State Fault Refusal := .next (compUpdate s)

/-! ### Forward frames (R47, R50, R51, R552) -/

/-- Modify a wedge line. -/
def State.modWl (s : State) (n : Nat) (f : WedgeLine → WedgeLine) : State := { s with wl := modAt s.wl n f }
def State.wlOf (s : State) (n : Nat) : WedgeLine := atD s.wl n WedgeLine.reset

/-- The forward frame of a channel for a marker ending at `mark` (78.125 ps) with a wedge number (R47, R150, R552). -/
def State.fwdFrame (s : State) (n mark wedge : Nat) : FwdFrame :=
  let en := s.flag SHOCK_CTL_EN
  { mark := mark, wedge := wedge, spinLock := s.flag SPIN_STAT_SPIN_LOCK, shockTrip := atD s.shock.trip n false,
    spinRun := s.flag SPIN_STAT_SPIN_RUN,
    rvx := if en then s.num RV_NOW % 0x10000 else 0,
    rvy := if en then s.num RV_NOW / 0x10000 else 0,
    shock := if en then s.shock.shock else 0,
    vmot := min 0xFFFF (s.spin.vmot * 1024 / 1000) }

/-- The bits of a forward frame from the marker to VMOT (R47), in the order they are sent: bit 0 of the table is the most significant of
88. -/
def FwdFrame.body (f : FwdFrame) : Nat :=
  0xFE * 2 ^ 80 + f.wedge % 1024 * 2 ^ 70 + ofBool f.spinLock * 2 ^ 69 + ofBool f.shockTrip * 2 ^ 68 + ofBool f.spinRun * 2 ^ 67 +
    f.rvx % 0x10000 * 2 ^ 48 + f.rvy % 0x10000 * 2 ^ 32 + f.shock % 0x10000 * 2 ^ 16 + f.vmot % 0x10000

/-- The 96 bits of a forward frame (R47): its CRC covers bits 8-87. Fields are sent msb first, a choice of the model
(notes/assumptions/53.md). -/
def FwdFrame.bits (f : FwdFrame) : Nat := f.body * 256 + crc8 (bitsMsb 80 f.body)

/-- The 96 bits received have their marker and a right CRC (R47, R50). -/
def fwdGood (x : Nat) : Bool := decide (x / 2 ^ 88 % 256 = 0xFE) && decide (crc8 (bitsMsb 80 (x / 256)) = x % 256)

/-- FORWARD_FRAME_SEND (R47, R552): from boot stage 4 on, on an enabled channel's wedge line. The frame takes the shock trip with it. -/
def forwardFrameSend (n : Nat) (s : State) : State :=
  if s.get BOOT_STAT_STAGE < 4 then s
  else
    let (mark, wedge) := s.nextMarker n
    let f := s.fwdFrame n mark wedge
    let byAngle := s.holdsAngle && decide (s.spin.omega ≠ 0)
    let s := s.modWl n (fun w => { w with frame := some f, predicted := mark, lastMark := some mark, byAngle := byAngle })
    { s with shock := { s.shock with trip := modAt s.shock.trip n (fun _ => false) } }

def execForwardFrameSend (ch : Ch) (s : State) : Host.Outcome State Fault Refusal :=
  .next (s.ifCh ch (forwardFrameSend ch))

/-- SPIN_UNLOAD (R159): a frame with SPIN_RUN 0 while heads are loaded removes them: an unload, which goes on where one is under way, or
RETRACT in HOLD, after which no shadow phase follows. -/
def State.spinUnload (s : State) (n : Nat) : State :=
  let m := s.mode n
  if m = mParked ∨ m = mRetracted then s
  else
    let s := s.loopFaultBit n 10 sevNote clsCorrected
    if m = mUnloading then s
    else if m = mHold then (s.retractLane n).modLoop n (fun l => { l with noShadow := true }) else s.startUnload n

/-- A good frame at the channel die: its edge (0.5 ps) is the predicted tick, its samples feed forward, and a frame with
SHOCK_TRIP 1 or SPIN_LOCK 0 holds the write gate closed (R50, R148, R174, R251). -/
def forwardGood (n edge : Nat) (f : FwdFrame) (s : State) : State :=
  let s := s.modDemod n (fun d =>
    { d with pred := edge, predWedge := f.wedge, shockTrip := f.shockTrip, spinLock := f.spinLock, fwdBad := 0 })
  let s := s.modLoop n (fun l => { l with fwd := some f })
  let s := s.interlock n
  if f.spinRun then s else s.spinUnload n

/-- FORWARD_FRAME_DISCARD (R50, R51): the channel takes its own extrapolation and the wedge number after its last. -/
def forwardBad (n : Nat) (s : State) : State :=
  let d := s.demodOf n
  let t := s.extrapolated n (d.since + 1)
  let s := s.modDemod n (fun d =>
    { d with pred := t, predWedge := (d.wedge + 1) % s.wedgesPerRev, shockTrip := false, fwdBad := d.fwdBad + 1 })
  s.put (WLR_STAT_FWD_CRC n) 1

/-- FORWARD_FRAME_RECEIVE (R50): the check at W + 0.44 µs of the frame's bits, `errs` marking those that the strand changed; a frame missing
its marker or failing its CRC is discarded. The marker's edge ends on the mark (R47), 156.25 of the TDC's units to one of 78.125 ps. -/
def forwardFrameReceive (n : Nat) (errs : BitVec 96) (s : State) : State :=
  match (s.wlOf n).frame with
  | some f => if fwdGood ((BitVec.ofNat 96 f.bits ^^^ errs).toNat) then forwardGood n (f.mark * 625 / 4) f s else forwardBad n s
  | none => forwardBad n s

def execForwardFrameReceive (ch : Ch) (errs : BitVec 96) (s : State) : Host.Outcome State Fault Refusal :=
  .next (s.ifCh ch (forwardFrameReceive ch errs))

/-- WEDGE_LINE_FAIL (R51): 16 consecutive frames discarded. -/
def execWedgeLineFail (ch : Ch) (s : State) : Host.Outcome State Fault Refusal :=
  .next (s.ifCh ch (fun s =>
    if 16 ≤ (s.demodOf ch).fwdBad then (s.put (WLR_STAT_LINE_FAIL ch) 1).raise (chEvent ch 49) else s))

/-- FORWARD_STRAND_RESTART (R51): the KPR restarts the strand every 1 ms until frames are received again; the frame under way
on it is lost. -/
def execForwardStrandRestart (ch : Ch) (s : State) : Host.Outcome State Fault Refusal :=
  .next (s.ifCh ch (fun s =>
    if 16 ≤ (s.demodOf ch).fwdBad then s.modWl ch (fun w => { w with frame := none }) else s))

/-! ### Return frames (R46, R48, R171) -/

/-- LOCKED falls (R46). -/
def State.wlUnlock (s : State) (n : Nat) : State := (s.put (WL_STAT_LOCKED n) 0).modWl n (fun w => { w with run := 0 })

/-- The head in use as HEADSW shows it to the KPR (R46, R171). -/
def State.wlHead (s : State) (n : Nat) : State := s.wlSwitch n (((s.loopOf n).head).getD 0)

/-- The first wedge number returned after a start or a catch aligns the KPR's angle (R174). -/
def State.alignAngle (s : State) (n read : Nat) : State :=
  if s.flag SPIN_STAT_SPIN_RUN && !s.flag SPIN_STAT_ANGLE_KNOWN then
    let wn := max 1 (s.imgNat Image.wedges)
    let d := match (s.wlOf n).frame with
      | some f => (read + wn - f.wedge % wn) % wn
      | none => 0
    (s.put SPIN_STAT_ANGLE_KNOWN 1).modRef (fun r => { r with align := (r.align + d) % wn, wedge := (r.wedge + d) % wn })
  else s

/-- A good return frame with FOUND 1 (R46, R48, R171, R174): its tick less the prediction is ERR; within ±20 ns it extends the run,
outside LOCKED falls. The head's offset, in 1/16 of 78.125 ps, takes 1/16 of the error unless the channel is REF_CH. ERR holds the limit of its
field where the difference passes it, the model's choice (notes/assumptions/53.md). -/
def State.wlFound (s : State) (n detected read : Nat) : State :=
  let w := s.wlOf n
  let e : Int := (detected : Int) - w.predicted
  let s := s.put (WL_STAT_ERR n) (toBits 16 (clampS 16 e))
  let s := if s.isRefCh n then s else s.modWl n (fun w => { w with offset := modAt w.offset w.head (· + e) })
  let s := (s.modWl n (fun w => { w with noFound := 0, detected := some detected })).alignAngle n read
  if e.natAbs ≤ 256 then
    let locked := s.flag (WL_STAT_LOCKED n)
    s.modWl n (fun w =>
      { w with run := w.run + 1, learned := if locked then modAt w.learned w.head (fun _ => true) else w.learned })
  else s.wlUnlock n

/-- A wedge without a good return frame carrying FOUND 1 (R46). -/
def State.wlMiss (s : State) (n : Nat) : State :=
  let s := s.modWl n (fun w => { w with run := 0, noFound := w.noFound + 1 })
  if 16 ≤ (s.wlOf n).noFound then s.wlUnlock n else s

/-- The 32 bits of a return frame (R48): the wedge number, FOUND, WGATE and HEADSW, 11 zeros, and a CRC-8 over the rest. The places of the
fields are the model's choice (notes/assumptions/53.md). -/
def RetFrame.bits (r : RetFrame) : Nat :=
  let x := r.wedge % 1024 * 2 ^ 14 + ofBool r.found * 2 ^ 13 + ofBool r.wgate * 2 ^ 12 + ofBool r.headSw * 2 ^ 11
  x * 256 + crc8 (bitsMsb 24 x)

/-- The 32 bits received have a right CRC. -/
def retGood (x : Nat) : Bool := decide (crc8 (bitsMsb 24 (x / 256)) = x % 256)

/-- The KPR's time stamp of the leading edge of a return frame less 40.0 ns (R48): the edge follows the tick by 40.0 ns, stamped in steps of
78.125 ps. -/
def RetFrame.stamp (r : RetFrame) : Nat := (r.tick + 80000) * 4 / 625 - 512

/-- RETURN_FRAME_RECEIVE (R46, R48): `errs` marks the bits that the strand changed; without them the frame is missing. A frame failing its CRC
sets RET_CRC. -/
def returnFrameReceive (n : Nat) (errs : Option (BitVec 32)) (s : State) : State :=
  match errs, (s.demodOf n).ret with
  | some x, some r =>
    if retGood ((BitVec.ofNat 32 r.bits ^^^ x).toNat) then
      let s := s.modWl n (fun w => { w with bad := 0 })
      let s := if r.headSw then s.wlHead n else s
      if r.found then s.wlFound n r.stamp r.wedge else s.wlMiss n
    else ((s.modWl n (fun w => { w with bad := w.bad + 1 })).wlMiss n).put (WL_STAT_RET_CRC n) 1
  | _, _ => (s.modWl n (fun w => { w with bad := w.bad + 1 })).wlMiss n

def execReturnFrameReceive (ch : Ch) (errs : Option (BitVec 32)) (s : State) : Host.Outcome State Fault Refusal :=
  .next (s.ifCh ch (returnFrameReceive ch errs))

/-- WL_LOCK (R46): 64 wedges of one head in a row; the head's offset is learned. -/
def execWlLock (ch : Ch) (s : State) : Host.Outcome State Fault Refusal :=
  .next (s.ifCh ch (fun s =>
    if 64 ≤ (s.wlOf ch).run then
      (s.put (WL_STAT_LOCKED ch) 1).modWl ch (fun w => { w with learned := modAt w.learned w.head (fun _ => true) })
    else s))

/-- WL_RET_FAIL (file 02, WL_STAT): 16 consecutive return frames missing or failing CRC. -/
def execWlRetFail (ch : Ch) (s : State) : Host.Outcome State Fault Refusal :=
  .next (s.ifCh ch (fun s => if 16 ≤ (s.wlOf ch).bad then s.put (WL_STAT_RET_FAIL ch) 1 else s))

/-! ### Operating time (R66) -/

/-- OPTIME_SAVE (R66): the operating time goes to the Keeper words of the NV store. -/
def State.saveOptime (s : State) : State := s.nvsWrite 0x18008 (toLe 5 s.optime)

def execOptimeSave (s : State) : Host.Outcome State Fault Refusal := .next s.saveOptime

end Sys2Proof.Machine
end

