-- ==== Sys2Proof/Machine/Dump.lean ====
section
/-!
DEFINITION. The protected set through a power loss (file 11, R357-R366): arming, the power-loss warning, the dump and its restoration.
-/

namespace Sys2Proof.Machine

/-! ### DUMP_STATE and PLP_READY (R358, R359) -/

/-- Values of DUMP_STATE. -/
def dsOff : Nat := 0
def dsArmed : Nat := 1
def dsDumping : Nat := 2
def dsDumped : Nat := 3

/-- DUMP_STATE, the Keeper word of the NV store. -/
def State.dumpState (s : State) : Nat := s.nvsNat 0x18010 1

/-- Write DUMP_STATE: PLP_STAT shows it, event 37 is raised, and any state but ARMED ends PLP_READY. -/
def State.setDumpState (s : State) (v : Nat) : State :=
  let s := (s.nvsWrite 0x18010 (toLe 1 v)).put PLP_STAT_DUMP_STATE v
  (if v = dsArmed then s else s.put PLP_STAT_PLP_READY 0).raise 37

/-- The dump partition (R89). -/
def State.dumpPart (s : State) : Option (Nat × Nat) :=
  match s.img with
  | none => none
  | some i => (i.partitionOf 2).map (fun p => (partOffset p, partLength p))

/-- Whether n MiB meet the four conditions of R358 at a program rate in MB/s: t(n) = 5 ms + n MiB / rate. -/
def Image.dirtyFits (i : Image) (length rate n : Nat) : Bool :=
  let t := 5000 * rate + n * 0x100000
  decide (n ≤ i.dirtyLimit) && decide (t ≤ 390000 * rate) && decide (32 * t ≤ i.holdup * 10000 * rate) && decide (n + 1 ≤ length / 0x100000)

/-- DIRTY_EFF at a program rate (R358): the largest such n, 0 where none of 1 or more meets them. -/
def State.dirtyEff (s : State) (rate : Nat) : Nat :=
  match s.img, s.dumpPart with
  | some i, some (_, len) => ((List.range 256).filter (fun n => i.dirtyFits len rate n)).foldl max 0
  | _, _ => 0

/-- Begin arming (R359 steps 1 and 2): OFF, and the partition is erased. -/
def State.startArming (s : State) : State :=
  let s := (s.setDumpState dsOff).put PLP_STAT_ARMING 1
  let s := { s with dump := none }
  match s.dumpPart with
  | some (o, n) => s.flashErase o n
  | none => s

/-- DUMP_CMD.ARM: ignored while ARMING is 1 or PLP_ENABLE is 0. -/
def dumpArm (s : State) : State := if s.flag PLP_STAT_ARMING ∨ s.imgBool Image.plpEnable = false then s else s.startArming

def execDumpArm (s : State) : Host.Outcome State Fault Refusal := .next (s.access 0 dumpArm)

/-- ARM_COMPLETE (R358, R359): the measured rate gives DUMP_RATE and DIRTY_EFF, and ARMED is written; PLP_READY rises if DIRTY_EFF is at
least 1. -/
def armComplete (rate : Nat) (s : State) : State :=
  if s.flag PLP_STAT_ARMING then
    let r := min rate 0xFFFF
    let n := s.dirtyEff r
    let s := ((s.setNum DUMP_RATE r).put PLP_STAT_ARMING 0).put PLP_STAT_DIRTY_EFF n
    (s.setDumpState dsArmed).put PLP_STAT_PLP_READY (if 1 ≤ n ∧ s.imgBool Image.plpEnable then 1 else 0)
  else s

def execArmComplete (rate : Nat) (s : State) : Host.Outcome State Fault Refusal := .next (armComplete rate s)

/-- PLP_FAIL (R360): a program or erase failure in the dump partition while PLP_READY is 1. -/
def plpFail (erase : Bool) (s : State) : State :=
  let s := s.faultBit xsErr (if erase then 1 else 0) sevFault clsCorrected noInst 0
  if s.flag PLP_STAT_PLP_READY then
    let s := (s.put PLP_STAT_PLP_READY 0).raise 37
    (s.faultBit tagErr 2 sevFault clsCorrected noInst 0).modHost (fun h => { h with lost := true })
  else s

def execPlpFail (erase : Bool) (s : State) : Host.Outcome State Fault Refusal := .next (plpFail erase s)

/-! ### The dump (R361-R364) -/

/-- Bytes in 4 KiB pieces of `n` bytes each. -/
def cutBytes (n : Nat) : Nat → List Byte → List (List Byte)
  | 0, _ => []
  | k + 1, bs => if bs.isEmpty then [] else bs.take n :: cutBytes n k (bs.drop n)

/-- A unit of the dump (R362): 4 KiB, closed by a CRC-64 over its first 4,088 B but for metadata units. -/
def dumpUnitBytes (kind index : Nat) (content : List Byte) : List Byte :=
  let b := slice (Config.dumpUnit kind index content) 0 4096
  if kind = 3 then b else b.take 4088 ++ toLe 8 (crc64 0 (b.take 4088))


/-- Bytes of DRAM as every requester of the HUB sees them, through the shared cache (R388); where that read fails, as they lie. -/
def State.coherent (s : State) (a n : Nat) : List Byte := ((s.physRead 11 (dramBase + a) n).1).getD (s.dram.readN 0 a n)

/-- The protected set as a dump holds it: every HELD entry with the data of its blocks as they lie in DRAM, in FSEQ order, and the
records between MJ_TAIL and MJ_HEAD. -/
def State.protectedSet (s : State) : Dump :=
  let held := (s.host.wrts.filter (fun e => e.2.held)).foldl (fun l e =>
    l.filter (fun x => decide (x.fseq ≤ e.2.fseq)) ++ [e.2] ++ l.filter (fun x => decide (e.2.fseq < x.fseq))) ([] : List Wrt)
  { header := []
    entries := held.map (fun w => (w, w.bufs.map (fun h => s.coherent (handleIndex h * 0x1000) 4096)))
    journal := (List.range s.mjUsed).map (fun k =>
      s.coherent (s.num64 MJ_BASE_LO MJ_BASE_HI - dramBase + 32 * ((s.num MJ_TAIL + k) % s.mjLen)) 32) }

/-- The 64 B descriptor of an entry (R362): namespace, DLBA, count, FSEQ, CSEQ, kind and the position of its data, the number of its first data unit.
Their places are the model's (notes/assumptions/45.md). -/
def dumpDescriptor (w : Wrt) (pos : Nat) : List Byte :=
  toLe 8 w.ns ++ toLe 8 w.dlba ++ toLe 8 w.count ++ toLe 8 w.fseq ++ toLe 8 (w.cseq.getD 0) ++
    toLe 8 (match w.kind with | .write => 0 | .zeroes => 1 | .dealloc => 2) ++ toLe 8 pos ++ toLe 8 0

/-- Each entry with the number of its first data unit. -/
def placed : Nat → List (Wrt × List (List Byte)) → List (Wrt × Nat)
  | _, [] => []
  | n, e :: t => (e.1, n) :: placed (n + e.2.length) t

/-- The first block of a namespace as the metadata units' CRCs seed it: a block's LBA (R200, R362). -/
def State.dumpLba (s : State) (w : Wrt) (k : Nat) : Nat := w.dlba + k - s.nsBase w.ns

/-- The kinds of units of a dump after its header and before its commit unit, in order: index, journal, metadata, data (R362). A metadata unit holds
56 blocks' 72 B. -/
def State.dumpUnits (s : State) (d : Dump) : List (List (List Byte)) :=
  let desc := (placed 0 d.entries).flatMap (fun e => dumpDescriptor e.1 e.2)
  let md := d.entries.flatMap (fun e => (List.range e.2.length).flatMap (fun k =>
    slice e.1.md (64 * k) 64 ++ toLe 8 (crc64 (2 ^ 64 - 1 - s.dumpLba e.1 k % 2 ^ 64) (e.2.getD k []))))
  let unit := fun kind n bs => (cutBytes n (List.length bs) bs).zipIdx.map (fun p => dumpUnitBytes kind p.2 p.1)
  [unit 1 4032 desc, unit 2 4064 d.journal.flatten, unit 3 4032 md, d.entries.flatMap (fun e => e.2)]

/-- The header unit, which the commit unit repeats: the magic, the power-cycle count, the operating time, P and the counts of index, journal, metadata
and data units, in an order of its own (R362). -/
def State.dumpHeader (s : State) (p : Nat) (units : List (List (List Byte))) : List Byte :=
  let b := slice ([0x44, 0x55, 0x4D, 0x50] ++ Config.dumpUnit 0 0
    (toLe 4 (s.num PCYCLE) ++ toLe 8 s.optime ++ toLe 8 p ++ (units.map (fun u => toLe 8 u.length)).flatten)) 0 4088
  b ++ toLe 8 (crc64 0 b)

/-- A dump with its header. -/
def State.headed (s : State) (p : Nat) (d : Dump) : Dump := { d with header := s.dumpHeader p (s.dumpUnits d) }

/-- Program units from a flash address on. -/
def State.flashUnits (s : State) (a : Nat) (us : List (List Byte)) : State :=
  us.zipIdx.foldl (fun s u => s.flashWrite (a + 4096 * u.2) u.1) s

/-- DUMPING is written, and then the header and the units (R361). A dump ends a core's flash command at once, and the range it worked on is
undefined (R546). -/
def State.dumpWrite (s : State) : State :=
  let s := match s.xsJob with
    | none => s
    | some j =>
      let s := if j.op = 1 ∨ s.xsHeld then s else
        (List.range (min j.len 0x1000000)).foldl (fun s k => let (b, s) := s.draw 43; s.flashWrite (j.faddr + k) [BitVec.ofNat 8 b]) s
      let s := { (((s.put XS_STAT_BUSY 0).put XS_STAT_DONE 1).put XS_STAT_RESULT 4) with xsJob := none, xsHeld := false }
      (s.noteBit xsErr 3).raise 104
  let d := s.headed s.protUsed s.protectedSet
  let s := { s.setDumpState dsDumping with dump := some d }
  match s.dumpPart with
  | some (o, _) => s.flashUnits o (d.header :: (s.dumpUnits d).flatten)
  | none => s

/-- The commit unit, which repeats the header, and DUMPED (R361, R362). -/
def State.dumpCommit (s : State) : State :=
  let s := match s.dumpPart, s.dump with
    | some (o, _), some d => s.flashWrite (o + 4096 * (1 + (s.dumpUnits d).flatten.length)) d.header
    | _, _ => s
  s.setDumpState dsDumped

/-- An empty dump (R512): a header and a commit unit, P = 65,536 and no entries. -/
def State.emptyDump (s : State) : State :=
  let d := s.headed 65536 ⟨[], [], []⟩
  let s := { s with dump := some d }
  let s := match s.dumpPart with
    | some (o, n) => (s.flashErase o n).flashUnits o [d.header, d.header]
    | none => s
  s.setDumpState dsDumped

/-- The front end stops fetching and all transfer, and ARRIVING entries go (R361, R364). -/
def State.stopFront (s : State) : State := (s.modHost (fun h => { h with stopped := true })).dropArriving

/-- CLASPS sends RETRACT for every enabled lane (R361). -/
def State.retractAll (s : State) : State := s.claspUrgent ⟨clRetract, s.imgNat Image.chMask, 0, 0, false⟩

/-- Every domain of the enabled channel dies goes Off (R361). -/
def State.channelsOff (s : State) : State :=
  (List.range 4).foldl (fun s n => if s.chOn n then (s.chOff n).put (DIE_STAT_ENABLED (unitBase (n + 1) 0)) 1 else s) s

/-- A boot is caused; one already caused keeps its CAUSE (R436). -/
def State.bootCaused (s : State) (cause : Nat) : State := { s with bootDue := some (s.bootDue.getD cause) }

/-- The sequence of R361 begins. -/
def State.powerLoss (s : State) : State :=
  { s.stopFront.spinPowerLoss.retractAll with dmp := ⟨some (s.dmp.run.getD 1), s.dmp.held⟩ }

/-- A warning of a source is latched (R522). -/
def State.latchPlw (s : State) (source : Nat) : State :=
  ((s.put SUP_STAT_PLW 1).put SUP_STAT_PLW_SRC (setBitN (s.get SUP_STAT_PLW_SRC) source)).raise 453

/-- What a warning starts (R361, R517): the sequence at rung 0; at rungs 1 and 2 first the exit; at rungs 3 and 4 the beat's commands
stop and the log is copied, if the HUB supplies and VDDIO18 hold. -/
def State.plwActs (s : State) : State :=
  let r := s.get LADDER_STAT_RUNG
  if 3 ≤ r then
    let s := s.modCls (fun c => { c with urgent := [], boot := [], queued := none })
    let s := s.put CLS_STAT_QUEUED 0
    if Nat.land (s.get SUP_STAT_GOOD) 0xFE = 0xFE then s.copyPower.alogCopy else s
  else if 1 ≤ r then
    ((s.put LADDER_STAT_MOVING 1).put LADDER_STAT_TARGET 0).modLad (fun l => { l with warned := true, entry := false })
  else s.powerLoss

/-- The sources of a warning (R522): PFAIL_N, VMOT and a Critical level. PFAIL_EN 0 and PLW_VMOT 0 disable the first two. -/
def powerLossWarning (source : Nat) (s : State) : State :=
  if (source = 0 ∧ s.flag PLW_CFG_PFAIL_EN = false) ∨ (source = 1 ∧ s.get PLW_CFG_PLW_VMOT = 0) then s
  else
    let again := s.flag SUP_STAT_PLW
    let s := s.latchPlw source
    if again then s else s.plwActs

/-- POWER_LOSS_WARNING (R361, R517, R522). -/
def execPowerLossWarning (source : Fin 3) (s : State) : Host.Outcome State Fault Refusal := .next (powerLossWarning source s)

/-- DUMP_WRITE (R361): the channel dies are off; in the Fatal sequence they run on until their heads are unloaded (R497). The dump is
written where DUMP_STATE is ARMED. -/
def dumpWriteRow (s : State) : State :=
  match s.dmp.run with
  | none => s
  | some k =>
    let s := if k = 3 then s else s.channelsOff
    if s.dumpState = dsArmed then s.dumpWrite else s

def execDumpWrite (s : State) : Host.Outcome State Fault Refusal := .next (dumpWriteRow s)

/-- DUMP_COMPLETE (R361, R363, R364, R497): the commit unit and DUMPED, and the log copy; after a warning the HUB holds itself in reset until the
full boot with CAUSE 4, which is due; a Fatal sequence waits for its heads. -/
def dumpComplete (s : State) : State :=
  match s.dmp.run with
  | none => s
  | some k =>
    let s := if s.dumpState = dsDumping then s.dumpCommit else s
    let s := { s with dmp := ⟨none, decide (k = 1)⟩ }
    if k = 3 then s.modLog (fun l => { l with dumped := true })
    else if k = 1 then s.alogCopy.bootCaused 4
    else s.alogCopy

def execDumpComplete (s : State) : Host.Outcome State Fault Refusal := .next (dumpComplete s)

/-- BOOT_DUMP (R364): a full boot about to start while DUMP_STATE is ARMED first dumps the protected set. A HUB in reset dumps nothing
(R521). -/
def bootDump (s : State) : State :=
  if s.bootDue.isSome ∧ s.dmp.run.isNone ∧ s.dumpState = dsArmed ∧ 4 ≤ s.get BOOT_STAT_STAGE then
    let s := s.stopFront.retractAll.channelsOff
    { s.dumpWrite with dmp := ⟨some 2, false⟩ }
  else s

def execBootDump (s : State) : Host.Outcome State Fault Refusal := .next (bootDump s)

/-! ### Restoring (R365, R366) -/

/-- The map sequence counter at a value. -/
def State.setSeq (s : State) (q : Nat) : State := (s.setNum MAPSEQ_LO (q % 2 ^ 32)).setNum MAPSEQ_HI (q / 2 ^ 32 % 2 ^ 32)

/-- The change of the map that a journal record logs, done again (R365) with the image or the slot that stood in the record, under its
sequence number; the Rebinding slots themselves the NV store has kept. Codes the ring does not log do nothing. -/
def catReplay (log : List Byte × Nat) (s : State) : State :=
  let r := slice log.1 0 32
  let e := slice log.1 32 32
  let b := slice log.1 32 64
  let t := match rqOp r with
    | 2 => (addMark r e (s.setSeq (log.2 - 1))).2
    | 3 => (doSmDrop r s).2
    | 4 => if rqZone r < s.num ZONES then (putZone r e s).2 else s
    | 5 => if rqArg r < s.num BANDS then (putBand r e s).2 else s
    | 6 => (s.switchSteps b r).2
    | 7 => if slState b = 1 then s.setRb (slZone b) true else s.slotDiscard b
    | 8 => (List.range (min (rqCount r) (s.num ZONES))).foldl (fun s k => s.zoneClear (rqZone r + k)) s
    | _ => s
  t.setSeq log.2

/-- Restore one journal record: the Catalogue replays it, and it stands in the ring ahead of any new record. -/
def State.restoreRecord (s : State) (jr : List Byte) : State :=
  let h := s.num MJ_HEAD % s.mjLen
  let s := catReplay (Config.journalled jr) s
  (s.catWrite (s.num64 MJ_BASE_LO MJ_BASE_HI + 32 * h) (slice jr 0 32)).setNum MJ_HEAD ((h + 1) % s.mjLen)

/-- A dump unit failed its check (R366): the entry is dropped whole, TAG_ERR.DUMP_BAD is set, and a Fault record names its first DLBA. -/
def State.dropBad (s : State) (e : Wrt) : State :=
  let s := if bitOf (s.num TAG_ERR) 4 then
      s.log (faultRecord TAG_ERR (s.rd TAG_ERR) 4 sevFault clsCorrected noInst e.dlba)
    else s.faultBit tagErr 4 sevFault clsCorrected noInst e.dlba
  s.modHost (fun h => { h with lost := true })

/-- Rebuild an entry as HELD, with no tag, its data in Stacks buffers. The manual does not say what happens where the pool has no buffers for all of
it: the entry is then reported lost, as one that failed its check is (DESIGN CHOICE, notes/assumptions/45.md). -/
def State.restoreEntry (s : State) (e : Wrt × List (List Byte)) : State :=
  let i := ((List.range 32768).find? (fun i => (s.wrt i).isNone)).getD 0
  let r := allocWrite i e.2.length [] s
  if r.1.2 ≠ 0 then (r.1.1.foldl (fun s h => s.stkDrop h (wrtName i)) r.2).dropBad e.1
  else
    let s := (List.zip r.1.1 e.2).foldl (fun s p => (s.physWrite 11 (dramBase + handleIndex p.1 * 0x1000) p.2).2) r.2
    let s := s.setWrt i { e.1 with held := true, bufs := r.1.1 }
    let s := s.modHost (fun h => { h with fseq := max h.fseq e.1.fseq })
    s.modNs e.1.ns (fun n => { n with cseq := max n.cseq (e.1.cseq.getD 0) })

/-- DUMP_RESTORE (R365): before CAT_CTL.EN is set the dump is read back; `bad` are the numbers of the entries whose units fail their
check. -/
def dumpRestore (bad : List Nat) (s : State) : State :=
  match s.dump with
  | none => s
  | some d =>
    if s.dumpState = dsDumped ∧ s.flag CAT_CTL_EN = false ∧ 7 ≤ s.get BOOT_STAT_STAGE ∧ s.host.wrts.isEmpty ∧ s.mjUsed = 0 then
      let s := d.journal.foldl State.restoreRecord s
      d.entries.zipIdx.foldl (fun s p => if bad.contains p.2 then s.dropBad p.1.1 else s.restoreEntry p.1) s
    else s

def execDumpRestore (bad : List Nat) (s : State) : Host.Outcome State Fault Refusal := .next (dumpRestore bad s)

/-- What a boot makes of DUMP_STATE (R364-R366): ARMED or DUMPING is a lost dump, and all but DUMPED is followed by arming. -/
def State.bootDumpState (s : State) : State :=
  let st := s.dumpState
  let s := s.put PLP_STAT_DUMP_STATE st
  let s := if st = dsArmed ∨ st = dsDumping then
      (s.faultBit tagErr 3 sevFault clsCorrected noInst 0).modHost (fun h => { h with lost := true })
    else s
  if st ≠ dsDumped ∧ s.imgBool Image.plpEnable then s.startArming else s

end Sys2Proof.Machine
end

