-- ==== Sys2Proof/Machine/Images.lean ====
section
/-!
DEFINITION. Images (file 14, R439-R442; file 15, R466-R472; file 03, R75-R97): headers, sets and locations, the checks of an image and of a structure image, and the boot directory.
-/

namespace Sys2Proof.Machine

/-! ### OTP (R449) -/

def State.otpBytes (s : State) (a n : Nat) : List Byte := s.otp.readN 0 a n
def State.otpByte (s : State) (a : Nat) : Nat := leNat (s.otpBytes a 1)

/-- LIFECYCLE (R449): an OTP bit only rises, so 2 is bit 1 programmed, over bit 0. -/
def State.lifecycle (s : State) : Nat :=
  if bitOf (s.otpByte 0x190) 1 then 2 else if bitOf (s.otpByte 0x190) 0 then 1 else 0

/-- Ones of the low n bits. -/
def ones (n x : Nat) : Nat := ((List.range n).filter (fun i => bitOf x i)).length

/-- A counter row: a 64-step thermometer code. -/
def State.otpCount (s : State) (a : Nat) : Nat := ones 64 (leNat (s.otpBytes a 8))
def otpSi : Nat := 0x178
def otpFw : Nat := 0x180
def otpPatch : Nat := 0x188

/-- Raise a counter to n steps (R81, R481); a bit programmed before stays so. -/
def State.raiseCounter (s : State) (a n : Nat) : State :=
  if s.otpCount a < n then { s with otp := s.otp.writeN 0 a (toLe 8 (Nat.lor (leNat (s.otpBytes a 8)) (2 ^ min n 64 - 1))) } else s

/-- The key hash of KEY_SLOT k of an image header: 0-1 SIB_KEY0-1, 4-7 DM_KEY0-3. -/
def State.keyHash (s : State) (k : Nat) : List Byte :=
  if k < 2 then s.otpBytes (0x50 + 48 * k) 48 else s.otpBytes (0xB0 + 48 * (k - 4)) 48
def State.revoked (s : State) (k : Nat) : Bool := bitOf (s.otpByte 0x170) k

/-! ### Image headers (R466-R468) -/

/-- An image: its header, its signature block and its body. -/
structure Img where
  hdr : List Byte
  sig : List Byte
  body : List Byte
  deriving DecidableEq, Repr

def Img.kind (i : Img) : Nat := fieldLe i.hdr 0x00C 2
def Img.flags (i : Img) : Nat := fieldLe i.hdr 0x00E 2
def Img.encrypted (i : Img) : Bool := bitOf i.flags 2
def Img.version (i : Img) : Nat := fieldLe i.hdr 0x020 4
def Img.rollback (i : Img) : Nat := fieldLe i.hdr 0x024 4
def Img.bodyLen (i : Img) : Nat := fieldLe i.hdr 0x028 4
def Img.ifGen (i : Img) : Nat := fieldLe i.hdr 0x02C 2
def Img.peerMask (i : Img) : Nat := fieldLe i.hdr 0x02E 2
def Img.peerMin (i : Img) : Nat := fieldLe i.hdr 0x030 2
def Img.peerMax (i : Img) : Nat := fieldLe i.hdr 0x032 2
def Img.keySlot (i : Img) : Nat := fieldLe i.hdr 0x034 1
def Img.stLimit (i : Img) : Nat := fieldLe i.hdr 0x11C 4
/-- D of R445: the SHA-384 of the header. -/
def Img.digest (i : Img) : List Byte := slice (Config.sha384 i.hdr) 0 48

def kdKeeper : Nat := 1
def kdHubPatch : Nat := 2
def kdChPatch : Nat := 3
def kdHub : Nat := 4
def kdCh : Nat := 5
def kdMicro : Nat := 6

/-- A row of R468: whether Sibourn signs it, its counter row, ENCRYPTED, the longest body, whether the body has exactly that length,
and the longest ST_LIMIT. -/
structure KindRow where
  sibourn : Bool
  counter : Nat
  enc : Bool
  maxBody : Nat
  exact : Bool
  maxSt : Nat

def kindRow : Nat → Option KindRow
  | 1 => some ⟨false, otpFw, false, 0x9000, false, 500⟩
  | 2 => some ⟨true, otpPatch, true, 0x10000, false, 0⟩
  | 3 => some ⟨true, otpPatch, true, 0x20000, false, 0⟩
  | 4 => some ⟨false, otpFw, false, 0x1000000, false, 2000⟩
  | 5 => some ⟨false, otpFw, false, 0x74000, false, 1500⟩
  | 6 => some ⟨false, otpFw, false, 49152, true, 1500⟩
  | _ => none

/-- The magic of an image header. -/
def Img.magic (i : Img) : Bool := decide (i.hdr.take 4 = [0x50, 0x49, 0x4D, 0x47])

/-- KIND, ENCRYPTED, BODY_LEN and ST_LIMIT within their row (R468); reserved flags 0, PEER_MAX ≥ PEER_MIN, IF_GEN ≥ 1 (R466). -/
def Img.shapeOk (i : Img) : Bool :=
  match kindRow i.kind with
  | none => false
  | some r =>
    decide (i.encrypted = r.enc) && decide (i.flags < 8) && decide (i.bodyLen % 64 = 0) && decide (0 < i.bodyLen) &&
      decide (i.bodyLen ≤ r.maxBody) && (!r.exact || decide (i.bodyLen = r.maxBody)) && decide (i.stLimit ≤ r.maxSt) &&
      decide (r.maxSt = 0 ∨ 1 ≤ i.stLimit) && decide (i.peerMin ≤ i.peerMax) && decide (1 ≤ i.ifGen)

/-- The public keys of a header. -/
def Img.ecdsaPub (i : Img) : List Byte := slice i.hdr 0x080 96
def Img.hssPub (i : Img) : List Byte := slice i.hdr 0x0E0 60

/-- Whether the header's key slot is one of the authority's, programmed with its keys and not revoked (R441). -/
def State.keyOk (s : State) (sibourn : Bool) (k : Nat) (ecdsa hss : List Byte) : Bool :=
  (if sibourn then decide (k < 2) else decide (4 ≤ k) && decide (k < 8)) && !(s.revoked k) &&
    decide (slice (Config.sha384 (ecdsa ++ hss)) 0 48 = s.keyHash k)

/-- The checks of a header and its signatures, in the order of R441 and R472; the refusal code of the first that fails. -/
def State.hdrCheck (s : State) (i : Img) : Option Nat :=
  if i.magic = false ∨ fieldLe i.hdr 4 2 ≠ 1 ∨ fieldLe i.hdr 6 2 ≠ 0x1000 then some 0x01
  else if fieldLe i.hdr 8 4 ≠ 0x00844021 then some 0x02
  else if bitOf i.flags 0 ∧ slice i.hdr 0x10 16 ≠ s.otpBytes 0 16 then some 0x03
  else
    match kindRow i.kind with
    | none => some 0x04
    | some r =>
      if i.shapeOk = false then some 0x04
      else if s.keyOk r.sibourn i.keySlot i.ecdsaPub i.hssPub = false then some 0x05
      else if i.rollback < s.otpCount r.counter then some 0x06
      else if Config.ecdsaOk i.ecdsaPub (slice (Config.sha384 i.hdr) 0 48) (slice i.sig 0 96) = false then some 0x07
      else if Config.hssOk i.hssPub i.hdr (slice i.sig 0x60 5396) = false then some 0x08
      else none

/-- Every check of an image, its body included. -/
def State.imgCheck (s : State) (i : Img) : Option Nat :=
  match s.hdrCheck i with
  | some c => some c
  | none => if slice (Config.sha384 i.body) 0 48 = slice i.hdr 0x40 48 then none else some 0x09

/-! ### Sets and locations (R467, R469) -/

/-- The images of a location, in order, with the offset of each: the sequence ends at the first header without the magic. -/
def imagesFrom : Nat → Nat → List Byte → List (Nat × Img)
  | 0, _, _ => []
  | k + 1, o, bs =>
    let i : Img := ⟨slice bs 0 0x1000, slice (bs.drop 0x1000) 0 0x2000, slice (bs.drop 0x3000) 0 (fieldLe bs 0x28 4 % 0x2000000)⟩
    if i.magic then
      let n := (0x3000 + i.body.length + 0xFFF) / 0x1000 * 0x1000
      (o, i) :: imagesFrom k (o + n) (bs.drop n)
    else []

/-- The images of a set: at most four are looked at, one more than any location may hold. -/
def imagesOf (bs : List Byte) : List Img := (imagesFrom 4 0 bs).map (fun p => p.2)

/-- The kinds a target's location may hold, in order (R469): 1 the Keeper, 2 a patch partition, others a firmware half. -/
def setOk (target : Nat) (kinds : List Nat) : Bool :=
  if target = 1 then decide (kinds = [1])
  else if target = 2 then [[2], [3], [2, 3]].contains kinds
  else [[4], [5], [4, 5], [5, 6], [4, 5, 6]].contains kinds

/-- Length of a staged or stored set: to the end of its last body. -/
def setLength (bs : List Byte) : Nat :=
  match (imagesFrom 4 0 bs).getLast? with
  | some (o, i) => o + 0x3000 + i.body.length
  | none => 0

/-- The first refusal of a set for a target with `room` bytes (R469, R472). -/
def State.setCheck (s : State) (target room : Nat) (bs : List Byte) : Option Nat :=
  let is := imagesOf bs
  match is with
  | [] => some 0x01
  | _ =>
    match is.findSome? s.hdrCheck with
    | some c => some c
    | none =>
      if setOk target (is.map Img.kind) = false ∨ room < setLength bs then some 0x04
      else is.findSome? s.imgCheck

/-! ### The boot directory (R439) -/

/-- Whether the directory copy at a flash address is valid. -/
def State.dirValid (s : State) (a : Nat) : Bool :=
  let b := s.flashBytes a 4096
  decide (b.take 4 = [0x50, 0x42, 0x44, 0x52]) && decide (fieldLe b 4 2 = 1) && decide (fieldLe b 4088 8 = crc64 0 (b.take 4088))

def State.dirSeq (s : State) (a : Nat) : Nat := fieldLe (s.flashBytes a 4096) 8 4

/-- The copy in use: the valid one with the higher SEQ. -/
def State.dirAt (s : State) : Option Nat :=
  if s.dirValid 0 && (!(s.dirValid 0x1000) || decide (s.dirSeq 0x1000 ≤ s.dirSeq 0)) then some 0
  else if s.dirValid 0x1000 then some 0x1000
  else none

/-- PATCH_SEL and FW_HALF; 0 where no copy is valid. -/
def State.patchSel (s : State) : Nat := match s.dirAt with | some a => leNat (s.flashBytes (a + 12) 1) | none => 0
def State.fwHalf (s : State) (i : Nat) : Bool :=
  match s.dirAt with
  | some a => bitOf (leNat (s.flashBytes (a + 13) 1)) i
  | none => false

/-- Write the directory (R439, R476): into the copy with the lower SEQ, with the higher SEQ + 1. -/
def State.writeDir (s : State) (patch halves : Nat) : State :=
  let seq := match s.dirAt with | some a => s.dirSeq a + 1 | none => 1
  let at_ := if s.dirAt = some 0 then 0x1000 else 0
  let b := slice ([0x50, 0x42, 0x44, 0x52] ++ toLe 2 1 ++ toLe 2 0 ++ toLe 4 seq ++ toLe 1 patch ++ toLe 1 halves) 0 4088
  s.flashWrite at_ (b ++ toLe 8 (crc64 0 b))

/-- FW_HALF as a byte. -/
def State.fwHalves (s : State) : Nat := (List.range 8).foldl (fun w i => if s.fwHalf i then w + 2 ^ i else w) 0

/-- KPR_SEL (R440): the Keeper copy selected. -/
def State.kprSel (s : State) : Nat := s.nvsNat 0x18000 4 % 2

/-- The bytes of Keeper copy k. -/
def State.keeperCopy (s : State) (k : Nat) : List Byte := s.nvsBytes (0xC000 * k) 0xC000

/-- The bytes of patch partition k; none where the image names none. -/
def State.patchBytes (s : State) (k : Nat) : Option (List Byte) :=
  match s.img with
  | none => none
  | some i => (i.partition 4 k).map (fun p => s.flashBytes (partOffset p) (partLength p))

/-- Flash address and length of a half of firmware partition k. -/
def State.halfAt (s : State) (k : Nat) (upper : Bool) : Option (Nat × Nat) :=
  match s.img with
  | none => none
  | some i => (i.partition 1 k).map (fun p => (partOffset p + (if upper then partLength p / 2 else 0), partLength p / 2))

def State.halfBytes (s : State) (k : Nat) (upper : Bool) : Option (List Byte) := (s.halfAt k upper).map (fun p => s.flashBytes p.1 p.2)

/-! ### The structure image (R75-R97) -/

/-- A record of a stream: TYPE and payload (R77). -/
def records : Nat → List Byte → Option (List (Nat × List Byte))
  | 0, _ => none
  | k + 1, bs =>
    if bs.length < 4 then none
    else
      let t := fieldLe bs 0 2
      let n := fieldLe bs 2 2
      if n % 4 ≠ 0 ∨ bs.length < 4 + n then none
      else if t = 0xFFFF then (if n = 0 ∧ bs.length = 4 then some [(t, [])] else none)
      else (records k (bs.drop (4 + n))).map (fun r => (t, slice (bs.drop 4) 0 n) :: r)

/-- The payloads of a type, in order. -/
def payloads (t : Nat) (rs : List (Nat × List Byte)) : List (List Byte) := (rs.filter (fun r => decide (r.1 = t))).map (fun r => r.2)

/-- Payload lengths of R83-R96; FLASH and POWER have their own. -/
def payloadOk (t : Nat) (b : List Byte) : Bool :=
  let n := b.length
  match t with
  | 1 => decide (n = 4)
  | 2 => decide (n = 16)
  | 3 => decide (n = 20)
  | 4 => decide (n = 24)
  | 5 => decide (n = 8)
  | 6 => decide (n = 8 + 12 * fieldLe b 4 1)
  | 7 => decide (n = 8 + 12 * fieldLe b 3 1)
  | 8 => decide (n = 288)
  | 9 => decide (n = 512)
  | 10 => decide (n = 128)
  | 11 => decide (n = 4)
  | 12 => decide (n = 24)
  | 13 => decide (n = 32)
  | 14 => decide (n = 12)
  | 15 => decide (n = 56)
  | _ => true

/-- Check 10 (R77-R80): syntax, count, multiplicity, one ACTUATOR record to each bit of CH_MASK. That a payload of a wrong length fails this
check, not check 11, is the model's choice (notes/assumptions/41.md). -/
def streamOk (count : Nat) (rs : List (Nat × List Byte)) : Bool :=
  decide (rs.length = count) &&
    rs.all (fun r => decide (1 ≤ r.1 ∧ r.1 ≤ 15) || decide (0x8000 ≤ r.1 ∧ r.1 ≤ 0xFFEF) || decide (r.1 = 0xFFFF)) &&
    rs.all (fun r => payloadOk r.1 r.2) &&
    (List.range 15).all (fun k => decide (k = 1) || decide ((payloads (k + 1) rs).length = 1)) &&
    decide ((payloads 2 rs).length = ones 4 (fieldLe ((payloads 1 rs).headD []) 0 1))

/-- The image a header and a stream spell. -/
def imageOf (hdr : List Byte) (rs : List (Nat × List Byte)) : Image :=
  let one := fun t => (payloads t rs).headD []
  { header := hdr, dieEnable := one 1, actuators := payloads 2 rs, spindle := one 3, host := one 4, memory := one 5, flash := one 6,
    power := one 7, cache := one 8, events := one 9, coreRoles := one 10, storeProtect := one 11, expertGrants := one 12,
    thermal := one 13, clasp := one 14, format := one 15 }

/-- A field lies in a range. -/
def within (b : List Byte) (o n lo hi : Nat) : Bool := decide (lo ≤ fieldLe b o n) && decide (fieldLe b o n ≤ hi)

/-- ACTUATOR ranges (R84). -/
def actuatorOk (a : List Byte) : Bool :=
  within a 0 1 0 3 && within a 1 1 1 63 && within a 2 1 1 3 && within a 3 1 0 2 && within a 4 1 1 7 && within a 5 1 0 1 &&
    within a 6 2 100 4000 && within a 14 2 0 0 &&
    (List.range 6).all (fun k => if bitOf (fieldLe a 1 1) k then within a (8 + k) 1 0 15 else within a (8 + k) 1 0 0)

/-- SPINDLE ranges (R85), with the wedge period of R53. -/
def spindleOk (b : List Byte) : Bool :=
  within b 0 2 5400 7200 && within b 2 2 480 1024 && decide (9 * fieldLe b 0 2 * fieldLe b 2 2 ≤ 60000000) && within b 4 1 2 8 &&
    within b 5 1 1 2 && within b 6 2 1 65535 && within b 8 2 1 65535 && within b 10 2 1 65535 && within b 12 2 100 8000 &&
    within b 14 2 4500 13200 && within b 16 2 (fieldLe b 14 2 + 1) 16000 && within b 18 2 0 0

/-- HOST ranges (R86). -/
def hostOk (b : List Byte) : Bool :=
  within b 0 1 0 1 && within b 1 1 0 2 && within b 2 1 0 (if fieldLe b 1 1 = 0 then 0 else 1) &&
    within b 3 1 (if fieldLe b 0 1 = 0 then 2 else 1) 2 && within b 13 1 0 62 && within b 14 2 2 256 && within b 16 1 0 2 &&
    (if fieldLe b 16 1 = 0 then within b 17 1 0 0 else within b 17 1 0x08 0x77) && within b 18 2 1 16 && within b 20 4 0 0

/-- MEMORY ranges (R87). -/
def memoryOk (b : List Byte) : Bool :=
  [6400, 7500, 8533].contains (fieldLe b 0 2) && within b 2 1 0 7 && within b 3 1 0 7 && within b 4 1 0 1 && within b 5 3 0 0

/-- FLASH ranges (R88). -/
def flashOk (b : List Byte) : Bool :=
  within b 0 1 1 2 && [1, 2, 4, 8].contains (fieldLe b 1 1) && within b 2 1 25 200 && within b 3 1 0 1 && within b 4 1 1 16 &&
    within b 5 3 0 0 &&
    (List.range (fieldLe b 4 1)).all (fun p =>
      let o := 8 + 12 * p
      within b o 1 1 5 && within b (o + 1) 1 0 7 && within b (o + 2) 2 0 0 && decide (fieldLe b (o + 4) 4 % 0x10000 = 0) &&
        decide (0xC0000 ≤ fieldLe b (o + 4) 4) && decide (fieldLe b (o + 8) 4 % 0x10000 = 0) && decide (0 < fieldLe b (o + 8) 4))

/-- POWER ranges (R90). -/
def powerOk (b : List Byte) : Bool :=
  let plp := fieldLe b 1 1
  within b 0 1 0 4 && within b 1 1 0 1 && (if plp = 1 then within b 2 1 1 64 else within b 2 1 0 0 && within b 4 2 0 0) &&
    within b 3 1 0 16 && within b 6 2 0 0 &&
    (List.range (fieldLe b 3 1)).all (fun g => decide (fieldLe b (8 + 12 * g) 12 < 2 ^ 84) && !(bitOf (fieldLe b (8 + 12 * g) 12) 72)) &&
    (List.range 84).all (fun d => decide (((List.range (fieldLe b 3 1)).filter (fun g => bitOf (fieldLe b (8 + 12 * g) 12) d)).length ≤ 1))

/-- Two ranges, given by start and length, do not meet. -/
def apart (a n b m : Nat) : Bool := decide (a + n ≤ b) || decide (b + m ≤ a)

/-- Pairs of distinct positions of a list all satisfy a relation. -/
def pairsOk {α : Type} (r : α → α → Bool) : List α → Bool
  | [] => true
  | a :: t => t.all (r a) && pairsOk r t

/-- CACHE ranges (R91). -/
def cacheOk (b : List Byte) : Bool :=
  (List.range 16).all (fun c => within b (2 * c) 2 1 0xFFFF) &&
    (List.range 16).all (fun r => decide (fieldLe b (32 + 16 * r) 8 % 0x1000 = 0) && within b (44 + 16 * r) 1 0 3 && within b (45 + 16 * r) 3 0 0) &&
    pairsOk (fun r q => apart (fieldLe b (32 + 16 * r) 8) (4096 * fieldLe b (40 + 16 * r) 4) (fieldLe b (32 + 16 * q) 8)
        (4096 * fieldLe b (40 + 16 * q) 4))
      ((List.range 16).filter (fun r => decide (0 < fieldLe b (40 + 16 * r) 4)))

/-- CORE_ROLES ranges (R93). -/
def rolesOk (b : List Byte) : Bool :=
  (List.range 16).all (fun c => within b (8 * c + 1) 1 0 7 && within b (8 * c + 2) 1 0 1 && within b (8 * c + 3) 1 0 0 &&
    decide (fieldLe b (8 * c + 4) 4 % 4 = 0))

/-- EXPERT_GRANTS bits that may be 1 (R95): populated slots of live dies but DIE units, HUB OTP, BROM and SIGNET, KPR NVS and KVERIFY. -/
def grantOk (chMask die unit : Nat) : Bool :=
  (match dieKind die with | some k => decide (unit < unitCount k) | none => false) && decide (unit ≠ 0) && !(decide (1 ≤ die) && decide (die ≤ 4) && !(bitOf chMask (die - 1))) &&
    !(decide (die = 0) && [15, 16, 8].contains unit) && !(decide (die = 5) && [10, 12].contains unit)

/-- THERMAL ranges (R96). -/
def thermalOk (b : List Byte) : Bool :=
  (List.range 8).all (fun d => within b (4 * d + 1) 1 (fieldLe b (4 * d) 1 + 1) 255 && within b (4 * d + 2) 1 (fieldLe b (4 * d + 1) 1 + 1) 125 &&
    within b (4 * d + 3) 1 1 10)

/-- CLASP and FORMAT ranges (R96). -/
def claspOk (b : List Byte) : Bool :=
  within b 2 1 10 50 && within b 3 1 0 0 && within b 4 2 50 1000 && within b 6 2 10 500 && within b 8 2 0 1000 && within b 10 2 0 0
def formatOk (b : List Byte) : Bool := within b 1 1 1 4 && within b 2 2 0 0

/-- Header ranges (R75): ROLLBACK, FLAGS, UNIT_ID of an image that is not bound, and the reserved bytes. -/
def headerOk (h : List Byte) : Bool :=
  within h 0x24 4 0 64 && within h 0x0C 4 0 3 && (bitOf (fieldLe h 0x0C 4) 0 || within h 0x10 16 0 0) && within h 0x2F 1 0 0 &&
    within h 0x34 12 0 0 && within h 0x110 240 0 0

/-- Check 11 (R80): every field within the range its record table gives, reserved bytes 0. -/
def Image.fieldsOk (i : Image) : Bool :=
  headerOk i.header && within i.dieEnable 0 1 1 15 && within i.dieEnable 1 3 0 0 && i.actuators.all actuatorOk && spindleOk i.spindle && hostOk i.host &&
    memoryOk i.memory && flashOk i.flash && powerOk i.power && cacheOk i.cache &&
    (List.range 512).all (fun e => decide (bitsOf (fieldLe i.events e 1) 6 4 = 0)) && rolesOk i.coreRoles &&
    (List.range 4).all (fun n => within i.storeProtect n 1 0 (ofBool (bitOf i.chMask n))) &&
    (List.range 6).all (fun d => (List.range 32).all (fun u => !(i.grant d u) || grantOk i.chMask d u)) && thermalOk i.thermal &&
    claspOk i.clasp && formatOk i.format

/-- R89: partitions apart and within SIZE, one log partition of at least 1 MiB, and a dump partition of at least 128 MiB just when
PLP_ENABLE is 1. That a second dump partition must be of that size too is the model's choice (notes/assumptions/41.md). -/
def Image.partsOk (i : Image) : Bool :=
  let ps := i.partitions
  pairsOk (fun p q => apart (partOffset p) (partLength p) (partOffset q) (partLength q)) ps &&
    ps.all (fun p => decide (partOffset p + partLength p ≤ i.flashSize)) &&
    decide ((ps.filter (fun p => decide (partKind p = 3))).length = 1) &&
    ps.all (fun p => !(decide (partKind p = 3)) || decide (0x100000 ≤ partLength p)) &&
    (let ds := ps.filter (fun p => decide (partKind p = 2))
     if i.plpEnable then !ds.isEmpty && ds.all (fun p => decide (0x8000000 ≤ partLength p)) else ds.isEmpty)

/-- Check 12 (R97): the cross-record rules. -/
def Image.crossOk (i : Image) : Bool :=
  let on := fun n => bitOf i.chMask n
  let count := ones 4 i.chMask
  (List.range 4).all (fun n => decide ((i.actuators.filter (fun a => decide (fieldLe a 0 1 = n))).length = ofBool (on n))) &&
    i.actuators.all (fun a => (fieldLe a 3 1, fieldLe a 2 1) ∈ [(1, 1), (2, 2), (0, 3)]) &&
    i.actuators.all (fun a => pairsOk (fun j k => decide (fieldLe a (8 + j) 1 ≠ fieldLe a (8 + k) 1))
      ((List.range 6).filter (fun k => bitOf (fieldLe a 1 1) k))) &&
    decide (i.motorClass = (if count ≤ 2 then 1 else 2)) &&
    decide (i.vfMax + i.pfCount ≤ 64) && decide (i.pfCount * i.pfQpReserve ≤ 1024) && i.partsOk &&
    (List.range 16).all (fun c => (i.partition 1 (i.roleImage c)).isSome) &&
    decide (((List.range 8).filter (fun c => i.roleBoot c)).length = 1) &&
    (List.range 4).all (fun n => !(on n) || decide (i.roleBoot (8 + 2 * n) ≠ i.roleBoot (9 + 2 * n))) &&
    (List.range 16).all (fun c => !(i.roleBoot c) || decide (i.role c ≠ 0)) &&
    (List.range 8).all (fun m => on (m / 2) || decide (fieldLe i.coreRoles (8 * (8 + m)) 8 = 0)) &&
    (List.range 512).all (fun e =>
      let r := i.route e
      (!(bitOf r 7) || decide (r % 16 < 8) || on ((r % 16 - 8) / 2)) &&
        (!(decide (192 ≤ e) && decide (e < 448)) || on ((e - 192) / 64) || decide (r = 0))) &&
    i.groups.all (fun g => (List.range 44).all (fun k => !(bitOf g (28 + k)) || on (k / 11))) &&
    decide (i.fmtHead < 24) && bitOf (i.headMask (i.fmtHead / 6)) (i.fmtHead % 6)

/-- What the ROM makes of a slot (R80): the accepted image, or the refusal code of the first check that fails. -/
def State.siCheck (s : State) (bs : List Byte) : Image ⊕ Nat :=
  let h := slice bs 0 512
  let len := fieldLe h 0x28 4
  let key := fieldLe h 0x2E 1
  let pub := slice h 0x70 96
  let hss := slice h 0xD0 60
  let stream := slice (bs.drop 512) 0 len
  let trailer := bs.drop (512 + len)
  if h.take 4 ≠ [0x50, 0x4C, 0x53, 0x49] ∨ fieldLe h 4 2 ≠ 1 ∨ fieldLe h 6 2 ≠ 0x200 then .inr 0x01
  else if fieldLe h 8 4 ≠ 0x00844021 then .inr 0x02
  else if bitOf (fieldLe h 0x0C 4) 0 ∧ slice h 0x10 16 ≠ s.otpBytes 0 16 then .inr 0x03
  else if len % 4 ≠ 0 ∨ len < 8 ∨ 256140 < len ∨ fieldLe h 0x10C 4 ≠ 5492 ∨ 0x40000 < 512 + len + 5492 then .inr 0x04
  else if 3 < key ∨ s.keyOk false (key + 4) pub hss = false then .inr 0x05
  else if fieldLe h 0x24 4 < s.otpCount otpSi then .inr 0x06
  else if Config.ecdsaOk pub (slice (Config.sha384 h) 0 48) (slice trailer 0 96) = false then .inr 0x07
  else if Config.hssOk hss h (slice trailer 96 5396) = false then .inr 0x08
  else if slice (Config.sha384 stream) 0 48 ≠ slice h 0x40 48 then .inr 0x09
  else
    match records (len / 4) stream with
    | none => .inr 0x0A
    | some rs =>
      if streamOk (fieldLe h 0x2C 2) rs = false then .inr 0x0A
      else
        let i := imageOf h rs
        if i.fieldsOk = false then .inr 0x0B
        else if i.crossOk = false then .inr 0x0C
        else .inl i

/-- The flash offset and bytes of structure-image slot k (R71). -/
def slotOffset (k : Nat) : Nat := 0x40000 * (k + 1)
def State.siSlot (s : State) (k : Nat) : List Byte := s.flashBytes (slotOffset k) 0x40000

end Sys2Proof.Machine
end

