-- ==== Sys2Proof/Machine/Signet.lean ====
section
/-!
DEFINITION. SIGNET (file 14, R445-R457): extends and the entry log, the LMS reservation, the signed record of the Colophon, the operations of SIG_CMD, and Get Log Page C0h.
-/

namespace Sys2Proof.Machine

/-! ### Extends (R445-R447) -/

/-- The 48 bytes of slot k. -/
def State.meas (s : State) (k : Nat) : List Byte := ((List.range 12).map (fun w => toLe 4 (s.num (MEAS k w)))).flatten

/-- An entry of the entry log (R455). -/
def entryBytes (slot kind die flags version rollback code source : Nat) (digest : List Byte) : List Byte :=
  toLe 1 slot ++ toLe 1 kind ++ toLe 1 die ++ toLe 1 flags ++ toLe 4 version ++ toLe 4 rollback ++ toLe 1 code ++ toLe 1 source ++
    toLe 2 0 ++ slice digest 0 48

/-- Append an entry; past 64 it is dropped and LOG_FULL set (R447). -/
def State.logEntryOf (s : State) (e : List Byte) : State :=
  if s.sig.entries.length < 64 then
    (s.modSig (fun g => { g with entries := g.entries ++ [e] })).put COLO_STAT_ENTRIES (s.sig.entries.length + 1)
  else s.put COLO_STAT_LOG_FULL 1

/-- An extend (R445): M ← SHA-384(M ‖ D), and its entry. -/
def State.extend (s : State) (slot : Nat) (digest entry : List Byte) : State :=
  let d := wordsOf 12 (slice (Config.sha384 (s.meas slot ++ slice digest 0 48)) 0 48)
  (s.putWords (MEAS slot 0) d).logEntryOf entry

/-- Flags of an entry: 0 REFUSED, 1 FALLBACK, 2 ENCRYPTED. -/
def entryFlags (refused fallback enc : Bool) : Nat := ofBool refused + 2 * ofBool fallback + 4 * ofBool enc

/-- An accepted image is measured (R445). -/
def State.measured (s : State) (slot kind die : Nat) (fallback : Bool) (source : Nat) (i : Img) : State :=
  s.extend slot i.digest (entryBytes slot kind die (entryFlags false fallback i.encrypted) i.version i.rollback 0 source i.digest)

/-- A refused image is logged and its slot is not extended (R445); one without the magic leaves nothing. -/
def State.refusedImg (s : State) (slot kind die code source : Nat) (i : Img) : State :=
  if i.magic then
    s.logEntryOf (entryBytes slot kind die (entryFlags true false i.encrypted) i.version i.rollback code source i.digest)
  else s

/-! ### Closing and signing (R448, R452-R456) -/

/-- The record closes (R448): the boot record's signing comes first. -/
def State.closeRecord (s : State) : State :=
  if s.flag COLO_STAT_CLOSED then s
  else
    let s := (s.put COLO_STAT_CLOSED 1).modSig (fun g => { g with due := 0 :: g.due })
    if s.get BOOT_STAT_STAGE = 7 then s.put BOOT_STAT_STAGE 8 else s

def execColoClose (s : State) : Host.Outcome State Fault Refusal :=
  .next (s.access 0 (fun s => if 7 ≤ s.get BOOT_STAT_STAGE then s.closeRecord else s))

/-- COLO_LATE_CLOSE (R448): 5 s after stage 7 the record is still open. -/
def coloLateClose (s : State) : State :=
  if s.passed s.sig.stage7 5000000 ∧ s.flag COLO_STAT_CLOSED = false then (s.put COLO_STAT_LATE_CLOSE 1).closeRecord else s

def execColoLateClose (s : State) : Host.Outcome State Fault Refusal := .next (coloLateClose s)

/-- LMS words A and B (R452). -/
def State.lmsA (s : State) : Nat := s.nvsNat 0x19000 4
def State.lmsB (s : State) : Nat := s.nvsNat 0x19004 4

/-- Write a reservation end to A and then B (R452). -/
def State.reserve (s : State) (e : Nat) : State :=
  ((s.nvsWrite 0x19000 (toLe 4 e)).nvsWrite 0x19004 (toLe 4 e)).modSig (fun g => { g with resEnd := e })

/-- The LMS key is exhausted (R454): LMS_EXH, and a Fault record. -/
def State.lmsExhausted (s : State) : State := (s.put COLO_STAT_LMS_EXH 1).faultBit sigErr 2 sevFault clsCorrected noInst 0

/-- SIGNET starts (R452, R454): the next index is the larger of A and B, and the next block is reserved; LMS_NEXT holds 30 bits. That the
writes of this reservation complete is the model's choice (notes/assumptions/40.md). -/
def State.lmsStart (s : State) : State :=
  let q := max s.lmsA s.lmsB
  let s := (s.setNum LMS_NEXT (q % 2 ^ 30)).modSig (fun g => { g with resEnd := 0 })
  if q < 2 ^ 30 then s.reserve (q + 256) else s.lmsExhausted

/-- LMS_TREE_GENERATE (R453): the node cache of q's bottom tree, or, with fewer than 4,096 indices left in it, the next tree. -/
def lmsTree (s : State) : State :=
  if s.flag COLO_STAT_TREE_READY = false then s.put COLO_STAT_TREE_READY 1
  else if 32768 - s.num LMS_NEXT % 32768 < 4096 then s.modSig (fun g => { g with nextTree := true })
  else s

def execLmsTreeGenerate (s : State) : Host.Outcome State Fault Refusal := .next (if s.dieOn 0 then lmsTree s else s)

/-- The STATE byte of a record (R455). -/
def State.coloState (s : State) : Nat :=
  ofBool s.img.isNone + 2 * ofBool (s.flag BOOT_STAT_ROM_SERVICES) + 4 * ofBool (decide (s.nvsNat 0x18014 1 = 1)) + 8 * ofBool s.sig.debugged +
    16 * ofBool (s.flag COLO_STAT_LOG_FULL) + 32 * ofBool (s.flag COLO_STAT_LATE_CLOSE) + 64 * ofBool (s.flag COLO_STAT_LMS_EXH) +
    128 * ofBool s.sig.fallback

/-- The body of a record (R455). -/
def State.recordBody (s : State) (reason q : Nat) : List Byte :=
  let n := s.sig.entries.length
  let head := [0x50, 0x43, 0x4F, 0x4C] ++ toLe 2 1 ++ toLe 2 n ++ toLe 4 0x00844021 ++ toLe 4 (1024 + 64 * n) ++ s.otpBytes 0 16 ++
    toLe 4 (s.num PCYCLE) ++ toLe 4 (s.get BOOT_STAT_BOOTS_IN_CYCLE) ++ toLe 8 s.optime ++ toLe 4 s.sig.signings ++ toLe 1 reason ++
    toLe 1 (s.get BOOT_STAT_CAUSE) ++ toLe 1 s.coloState ++ toLe 1 s.lifecycle ++ toLe 8 q ++
    ((List.range 12).map (fun k => toLe 4 (s.num (SI_DIGEST k)))).flatten ++ (s.sig.versions.toList.map (fun v => toLe 4 v)).flatten ++
    toLe 1 (s.otpCount otpSi) ++ toLe 1 (s.otpCount otpFw) ++ toLe 1 (s.otpCount otpPatch)
  slice head 0 192 ++ ((List.range 16).map s.meas).flatten ++ List.replicate 64 0 ++ s.sig.entries.flatten

/-- DEVICE_SEED, which only SIGNET reads (R449, R450). -/
def State.deviceSeed (s : State) : Nat := leNat (s.otpBytes 0x10 32)

/-- Sign with a reason and an index, or with ECDSA only (R454): the record goes into the other buffer, and the buffers flip (R456). -/
def State.signRecord (s : State) (reason : Nat) (index : Option Nat) : State :=
  let body := s.recordBody reason (index.getD (2 ^ 30))
  let (nonce, s) := s.draw 44
  let ec := slice (Config.ecdsaSign s.deviceSeed nonce (slice (Config.sha384 body) 0 48)) 0 96
  let hss := match index with
    | some q => slice (Config.hssSign s.deviceSeed q body) 0 5396
    | none => List.replicate 5396 0
  let k := 1 - s.get COLO_STAT_CUR
  let s := s.modSig (fun g => { g with records := modAt g.records k (fun _ => body ++ ec ++ hss), signings := g.signings + 1,
                                       due := g.due.tail })
  let s := ((s.put COLO_STAT_CUR k).put COLO_STAT_SIGNED 1).put COLO_STAT_SEQ (s.sig.signings - 1)
  let s := if s.get BOOT_STAT_STAGE = 8 then s.put BOOT_STAT_STAGE 9 else s
  s.raise 98

/-- An index has been used (R452-R454): past the tree's last one the next tree's cache is in force, if it is ready; past the key's last one the
key is exhausted. -/
def State.usedIndex (s : State) (q : Nat) : State :=
  let s := s.setNum LMS_NEXT ((q + 1) % 2 ^ 30)
  let s := if q + 1 = 2 ^ 30 then s.lmsExhausted else s
  if (q + 1) % 32768 = 0 then
    (s.put COLO_STAT_TREE_READY (ofBool s.sig.nextTree)).modSig (fun g => { g with nextTree := false })
  else s

/-- COLOPHON_SIGN (R448, R452-R456): a closed record that waits to be signed. `stored` says whether the reservation's writes, where one is
made, complete; without them no signature is made. -/
def colophonSign (stored : Bool) (s : State) : State :=
  match s.sig.due with
  | [] => s
  | reason :: _ =>
    let q := s.num LMS_NEXT
    if s.flag COLO_STAT_CLOSED = false then s
    else if s.flag COLO_STAT_LMS_EXH then s.signRecord reason none
    else if s.flag COLO_STAT_TREE_READY = false then s
    else if s.sig.resEnd = 0 ∨ q = s.sig.resEnd then
      if stored then
        let s := s.reserve (q + 256)
        (s.signRecord reason (some q)).usedIndex q
      else s.noteBit sigErr 0
    else (s.signRecord reason (some q)).usedIndex q

def execColophonSign (stored : Bool) (s : State) : Host.Outcome State Fault Refusal := .next (if s.dieOn 0 then colophonSign stored s else s)

/-! ### Get Log Page C0h (R457) -/

/-- The device endorsement (R451), 5,748 B. -/
def State.endorsement (s : State) : List Byte := s.nvsBytes 0x27000 5748

/-- The current signed record; empty before any. -/
def State.currentRecord (s : State) : List Byte := atD s.sig.records (s.get COLO_STAT_CUR) []

/-- The page of a document: length, LMS_INDEX, the document. -/
def coloPage (doc : List Byte) (index : Nat) : List Byte := toLe 4 doc.length ++ toLe 8 index ++ toLe 4 0 ++ doc

/-- The page for an LSP. -/
def State.colophonPage (s : State) (lsp : Nat) : Option (List Byte) :=
  if lsp = 0 then some (coloPage s.currentRecord (fieldLe s.currentRecord 56 8))
  else if lsp = 1 then some (coloPage s.endorsement 0)
  else none

def getLogColophon (t : Nat) (x : Tag) (s : State) : State :=
  if x.dw 10 % 256 ≠ 0xC0 then s
  else
    match (s.colophonPage (bitsOf (x.dw 10) 14 8)).bind (fun p => pageSlice x p) with
    | none => s.failTag t x stField
    | some d => s.giveData t x d

def execGetLogColophon (tag : TagNo) (s : State) : Host.Outcome State Fault Refusal := .next (adminRow tag 0x02 (getLogColophon tag) s)

/-! ### SIG_CMD (file 14, SIGNET registers) -/

def sgOk : Nat := 0
def sgRefused : Nat := 1
def sgBusErr : Nat := 2
def sgBadCmd : Nat := 3

/-- A write of SIG_CMD starts an operation; one while BUSY is ignored and sets REJ; an OP the table lacks completes BAD_CMD. -/
def sigCmd (op : Nat) (s : State) : State :=
  if s.flag SIG_STAT_BUSY then s.put SIG_STAT_REJ 1
  else if op = 0 ∨ 5 < op then (((s.put SIG_STAT_DONE 1).put SIG_STAT_RESULT sgBadCmd).put SIG_STAT_CODE 0).raise 96
  else (s.put SIG_STAT_BUSY 1).modSig (fun g => { g with job := some op })

def execSigSha256 (s : State) : Host.Outcome State Fault Refusal := .next (s.access 0 (sigCmd 1))
def execSigSha384 (s : State) : Host.Outcome State Fault Refusal := .next (s.access 0 (sigCmd 2))
def execSigVerify (s : State) : Host.Outcome State Fault Refusal := .next (s.access 0 (sigCmd 3))
def execSigExtend (s : State) : Host.Outcome State Fault Refusal := .next (s.access 0 (sigCmd 4))
def execSigRandom (s : State) : Host.Outcome State Fault Refusal := .next (s.access 0 (sigCmd 5))

def State.sigSrc (s : State) : Nat := s.num SIG_SRC_LO + 2 ^ 32 * (s.num SIG_SRC_HI % 256)
def State.sigDst (s : State) : Nat := s.num SIG_DST_LO + 2 ^ 32 * (s.num SIG_DST_HI % 256)

/-- An operation ends with RESULT and CODE; an input that cannot be read sets SIG_ERR.BUS_ERR. -/
def State.sigEnd (s : State) (result code : Nat) : State :=
  let s := if result = sgBusErr then s.noteBit sigErr 1 else s
  let s := (((s.put SIG_STAT_BUSY 0).put SIG_STAT_DONE 1).put SIG_STAT_RESULT result).put SIG_STAT_CODE code
  (s.modSig (fun g => { g with job := none })).raise 96

/-- Write a result to DST. -/
def State.sigPut (s : State) (bs : List Byte) : State :=
  match s.physWrite 13 s.sigDst bs with
  | (true, s) => s.sigEnd sgOk 0
  | (false, s) => s.sigEnd sgBusErr 0

/-- SIG_OP_DONE: the operation under way ends. -/
def sigOpDone (s : State) : State :=
  let len := s.num SIG_LEN
  match s.sig.job with
  | none => s
  | some 1 =>
    match s.physRead 13 s.sigSrc len with
    | (some b, s) => s.sigPut (slice (Config.sha256 b) 0 32)
    | (none, s) => s.sigEnd sgBusErr 0
  | some 2 =>
    match s.physRead 13 s.sigSrc len with
    | (some b, s) => s.sigPut (slice (Config.sha384 b) 0 48)
    | (none, s) => s.sigEnd sgBusErr 0
  | some 3 =>
    match s.physRead 13 s.sigSrc 0x3000 with
    | (none, s) => s.sigEnd sgBusErr 0
    | (some h, s) =>
      match s.physRead 13 s.sigDst len with
      | (none, s) => s.sigEnd sgBusErr 0
      | (some b, s) =>
        match s.imgCheck ⟨slice h 0 0x1000, slice (h.drop 0x1000) 0 0x2000, b⟩ with
        | none => s.sigEnd sgOk 0
        | some c => s.sigEnd sgRefused c
  | some 4 =>
    match s.physRead 13 s.sigSrc 64 with
    | (none, s) => s.sigEnd sgBusErr 0
    | (some e, s) =>
      let slot := fieldLe e 0 1
      if s.flag COLO_STAT_CLOSED ∨ slot < 12 ∨ 15 < slot then s.sigEnd sgBadCmd 0
      else (s.extend slot (slice e 16 48) (slice e 0 64)).sigEnd sgOk 0
  | some _ =>
    if 4096 < len then s.sigEnd sgBadCmd 0
    else
      let (b, s) := s.drawBytes 45 len
      s.sigPut b

def execSigOpDone (s : State) : Host.Outcome State Fault Refusal := .next (if s.dieOn 0 then sigOpDone s else s)

end Sys2Proof.Machine
end

