-- ==== Sys2Proof/Machine/Boot.lean ====
section
/-!
DEFINITION. Resets and boots (file 14, R436-R444, R464; file 03, R72, R80-R82, R98; file 01, R39): power-on, the Keeper ROM, the release of the HUB, the HUB ROM's stages, and full boots.
-/

namespace Sys2Proof.Machine

/-! ### What a boot reports (R464) -/

/-- Every supply marked HUB is good (R519). -/
def State.hubSupplies (s : State) : Bool := (List.range 8).all (fun b => s.supplyGood (b + 1))

/-- The supplies whose loss resets the HUB and MEM dies are good (R521). -/
def State.hubHeld (s : State) : Bool := (List.range 7).all (fun b => s.supplyGood (b + 1))

/-- Both supplies of channel die n are good (R520). -/
def State.chSupplies (s : State) (n : Nat) : Bool := bitOf (s.get SUP_CH_VDD_GOOD) n && bitOf (s.get SUP_CH_VDDA_GOOD) n

/-- GOOD bits 9 and 10 (R520): the supply of every enabled channel die is good. -/
def State.showChSupplies (s : State) : State :=
  let all := fun (f : Fld) => (List.range 4).all (fun n => !(s.chOn n) || bitOf (s.get f) n)
  s.put SUP_STAT_GOOD (s.get SUP_STAT_GOOD % 512 + 512 * ofBool (all SUP_CH_VDD_GOOD) + 1024 * ofBool (all SUP_CH_VDDA_GOOD))

/-- A stage has failed (R464): BOOT_FAIL keeps the first failure of this boot, and a Fault record is written. -/
def State.bootFail (s : State) (stage code cls inst : Nat) : State :=
  let s := if s.num BOOT_FAIL = 0 then (s.put BOOT_FAIL_STAGE stage).put BOOT_FAIL_CODE code else s
  s.log (faultRecord BOOT_FAIL (s.rd BOOT_FAIL) 0 sevFault cls inst code)

/-- The part is in ROM services (R464, R448): the ROM keeps control and closes the record. -/
def State.romServices (s : State) : State := (s.put BOOT_STAT_ROM_SERVICES 1).closeRecord

/-- The ROM's LED3 blinks at 4 Hz in the Blank and Sealed states (R549). -/
def State.ledAlarm (s : State) : State := s.setNum LED_CTL (insertBits (s.rd LED_CTL) 15 12 3).toNat

/-! ### Power-on reset (R15, R64, R436) -/

/-- What the NV store gives back after power-on reset (R44, R63, R66, R248, R250, R358, R377, R403, R484). -/
def State.restoreKept (s : State) : State :=
  let s := s.set64 OPTIME_LO OPTIME_HI (s.nvsNat 0x18008 5)
  let s := s.setNum PCYCLE (s.nvsNat 0x18004 3)
  let s := (List.range 4).foldl (fun s k => s.setNum (COMP_COEF k) (s.nvsNat (0x18080 + 4 * k) 4)) s
  let s := (List.range 18).foldl (fun s u =>
    let b := calBase u
    (s.put (CAL_COUNT_COUNT b) (s.nvsNat (calNvs u + 0x50) 4 % 2 ^ 24)).set64 (CAL_TIME_LO b) (CAL_TIME_HI b) (s.nvsNat (calNvs u + 0x54) 5)) s
  let s := (List.range 4).foldl (fun s n =>
    let o := 0x1A800 + 0x20 * n
    let s := (List.range 6).foldl (fun s k => s.put (FLY_PC_PC n k) (s.nvsNat (o + 2 * k) 2)) s
    (s.put (FLY_CCOUNT_COUNT n) (s.nvsNat (o + 0x10) 3)).set64 (FLY_CTIME_LO n) (FLY_CTIME_HI n) (s.nvsNat (o + 0x13) 5)) s
  let s := s.put DRAMC_STAT_SPARES s.spares.length
  let s := s.put CI_KEYSTAT_VALID ((List.range 16).foldl (fun w k => if (atD s.keyStore k none).isSome then w + 2 ^ k else w) 0)
  let s := s.put PLP_STAT_DUMP_STATE s.dumpState
  if s.nvsNat 0x18014 1 = 1 then s.put UPD_STAT_STATE 3 else s

/-- Power-on reset of the KPR always-on domain: everything but what the NV store, the flash, the OTP array and the media hold, and the pins'
levels, is as State.reset has it; the commands that wait and the count of draws are the model's own. -/
def State.powerOn (s : State) : State :=
  let t := { State.reset with
    pending := s.pending, free := s.free, nvs := s.nvs, flash := s.flash, otp := s.otp, dump := s.dump, keyStore := s.keyStore,
    spares := s.sparesKept, sparesKept := s.sparesKept, pins := { State.reset.pins with test := s.pins.test, gpio := s.pins.gpio },
    host := { s.hostLost.host with lost := false, mgmtCfg := [] } }
  (t.put SUP_STAT_GOOD 1).restoreKept

def execPowerOnReset (s : State) : Host.Outcome State Fault Refusal := .next s.powerOn

/-! ### Stages 0 to 2 (R440, R443) -/

/-- Slot 1's digest: the OTP configuration in the order of R449's rows. -/
def State.otpDigest (s : State) : List Byte :=
  slice (Config.sha384 (s.otpBytes 0 16 ++ s.otpBytes 0x50 288 ++ s.otpBytes 0x170 1 ++ s.otpBytes 0x178 24 ++ s.otpBytes 0x190 2)) 0 48

/-- The domains of R507 from `a` to `b` take their rung 0 states (R508). -/
def State.powerDomains (s : State) (a b : Nat) : State :=
  let s := s.modLad (fun l => { l with pd := Vector.ofFn (fun d : Fin 84 =>
    if a ≤ d.val ∧ d.val < b then s.domainState d.val 0 else atD l.pd d.val .off) })
  s.showDomains

/-- A record the Keeper firmware writes through block 16 (R499): the values firmware chooses are open. -/
def State.keeperRecord (s : State) (sev : Nat) : State :=
  let (b, s) := s.draw 46
  let (v, s) := s.draw 46
  let (d, s) := s.draw 46
  s.log { optime := 0, pcycle := 0, tstamp := 0, sev := sev, cls := clsNone, source := 5 * 32 + 5, offset := 0xFFFF, bit := b % 256,
          inst := noInst, recno := 0, value := v % 2 ^ 32, detail := d % 2 ^ 32 }

/-- The first image of a kind at a location. -/
def imageIn (kind : Nat) (bs : List Byte) : Option Img := (imagesOf bs).find? (fun i => decide (i.kind = kind))

/-- The Keeper firmware of copy k starts (R440): it is measured, and KFW_COPY names it. -/
def State.startKeeper (s : State) (k : Nat) (fallback : Bool) : State :=
  match imageIn kdKeeper (s.keeperCopy k) with
  | none => s
  | some i =>
    let s := s.measured 2 3 5 fallback k i
    let s := { s with keeper := true }
    let s := s.modSig (fun g => { g with versions := modAt g.versions 5 (fun _ => i.version), fallback := g.fallback || fallback })
    let s := ((s.put BOOT_STAT_KFW_COPY k).put BOOT_STAT_STAGE 1).put (DIE_STAT_STATE (unitBase 5 0)) 2
    if fallback then (s.put BOOT_STAT_KFW_FALLBACK 1).keeperRecord sevWarn else s

/-- KEEPER_ROM_BOOT (R436, R440, R443, R464): stages 0 and 1; of the HUB's domains only OTP has power. -/
def keeperRomBoot (s : State) : State :=
  if s.pins.test ∨ s.get BOOT_STAT_STAGE ≠ 0 ∨ s.get BOOT_STAT_BOOTS_IN_CYCLE ≠ 0 ∨ s.supplyGood 0 = false then s
  else if s.supplyGood 1 = false then s.bootFail 0 0xFF clsCorrected noInst
  else
    let n := (s.nvsNat 0x18004 3 + 1) % 2 ^ 24
    let s := (s.nvsWrite 0x18004 (toLe 4 n)).setNum PCYCLE n
    let s := (s.put BOOT_STAT_BOOTS_IN_CYCLE 1).put BOOT_STAT_CAUSE 0
    let s := (((s.powerDomains 23 24).powerDomains 72 80).put CLOCK_STAT_KPR_LOCK 1).calBoot [5]
    let rom := slice (Config.romDigest 0) 0 48
    let s := s.extend 0 rom (entryBytes 0 1 5 0 0 0 0 0 rom)
    let s := s.extend 1 s.otpDigest (entryBytes 1 2 0xFF 0 0 0 0 0 s.otpDigest)
    let k := s.kprSel
    match s.setCheck 1 0xC000 (s.keeperCopy k) with
    | none => s.startKeeper k false
    | some c =>
      let s := match (imagesOf (s.keeperCopy k)).head? with
        | some i => s.refusedImg 2 3 5 c k i
        | none => s
      match s.setCheck 1 0xC000 (s.keeperCopy (1 - k)) with
      | none => s.startKeeper (1 - k) true
      | some e =>
        let s := match (imagesOf (s.keeperCopy (1 - k))).head? with
          | some i => s.refusedImg 2 3 5 e (1 - k) i
          | none => s
        s.bootFail 1 c clsCorrected noInst

def execKeeperRomBoot (s : State) : Host.Outcome State Fault Refusal := .next (keeperRomBoot s)

/-- Both Keeper copies were refused at this boot (R464). -/
def State.keeperRefused (s : State) : Bool :=
  !s.keeper && decide (s.get BOOT_STAT_STAGE = 0) && decide (s.get BOOT_STAT_BOOTS_IN_CYCLE ≠ 0)

/-- HUB_RESET_RELEASE (R443, R464, R519): stage 2. Without a Keeper the HUB ROM keeps control. The HUB's bandgap calibrates before any stage
uses the die (R61). That every HUB domain takes its rung 0 state here, before the POWER record is known, is the model's choice
(notes/assumptions/41.md). -/
def hubResetRelease (s : State) : State :=
  if s.pins.test then s
  else if s.keeper = true ∧ s.get BOOT_STAT_STAGE = 1 then
    if s.hubSupplies then ((s.powerDomains 0 28).put BOOT_STAT_STAGE 2).calBoot [0] else s.bootFail 2 0xFF clsCorrected noInst
  else if s.keeperRefused = true ∧ s.flag BOOT_STAT_ROM_SERVICES = false ∧ s.hubSupplies = true then
    (((s.powerDomains 0 28).calBoot [0]).lmsStart.put MGMT_STAT_ADDR 0x1D).romServices
  else s

def execHubResetRelease (s : State) : Host.Outcome State Fault Refusal := .next (hubResetRelease s)

/-! ### Stage 3: the structure image (R72, R80-R82, R98) -/

/-- A refused slot is logged (R445); one without the magic leaves nothing. -/
def State.refusedSlot (s : State) (k code : Nat) : State :=
  let h := s.flashBytes (slotOffset k) 512
  if h.take 4 = [0x50, 0x4C, 0x53, 0x49] then
    s.logEntryOf (entryBytes 4 5 0xFF 1 (fieldLe h 0x20 4) (fieldLe h 0x24 4) code k (slice (Config.sha384 h) 0 48))
  else s

/-- Whether slot k was refused and, by its header, holds the higher IMAGE_VERSION (R82). -/
def State.higherRefused (s : State) (k version : Nat) : Bool :=
  let h := s.flashBytes (slotOffset k) 512
  decide (h.take 4 = [0x50, 0x4C, 0x53, 0x49]) && decide (version < fieldLe h 0x20 4)

/-- An accepted image is entered in the status registers and measured (R81, R82, R445); a wedge reference of another rate starts. -/
def State.acceptImage (s : State) (k : Nat) (i : Image) (refused : Option Nat) : State :=
  let s := (s.put SI_STAT_ACCEPTED 1).put SI_STAT_SLOT k
  let fb := refused.isSome && s.higherRefused (1 - k) i.version
  let s := if fb then
      let s := (s.put SI_STAT_FALLBACK 1).modSig (fun g => { g with fallback := true })
      s.log (faultRecord SI_STAT (s.rd SI_STAT) 4 sevWarn clsNone (1 - k) (refused.getD 0))
    else s
  let s := if i.advance && decide (s.otpCount otpSi < i.rollback) then (s.raiseCounter otpSi i.rollback).put SI_STAT_ADVANCED 1 else s
  let s := ((s.setNum SI_VERSION i.version).put SI_ROLLBACK_IMAGE (i.rollback % 128)).put SI_ROLLBACK_OTP (s.otpCount otpSi)
  let d := slice (Config.sha384 i.header) 0 48
  let s := s.putWords (SI_DIGEST 0) (wordsOf 12 d)
  let s := s.extend 4 d (entryBytes 4 5 0xFF (entryFlags false fb false) i.version i.rollback 0 k d)
  let old := s.img.map (fun j => (j.rpm, j.wedges))
  let s := { s with img := some i }
  if old = some (i.rpm, i.wedges) then s else s.alignRef

/-- A unit's grant takes effect (R95, R100): a unit that is not granted is locked. -/
def State.setGrant (s : State) (die u : Nat) (g : Bool) : State :=
  let s := s.put (EXPERT_STAT_GRANTED (unitBase die u)) (ofBool g)
  if g then s else s.put ⟨EXPERT_STAT (unitBase die u), 1, 1⟩ 0

/-- EXPERT_STAT of the units of a die by the accepted image; none is granted while the part is Blank (R9, R95, R100). -/
def State.grantUnits (s : State) (i : Option Image) (die : Nat) : State :=
  match dieKind die with
  | none => s
  | some k =>
    (List.range (unitCount k)).foldl (fun s u =>
      if hasExpert k u then s.setGrant die u (match i with | some i => i.grant die u | none => false) else s) s

/-- No slot is accepted: the part is Blank (R72, R98, R464), and drives no motor (R164). SI_ROLLBACK.OTP keeps 0 there, a choice of the model (notes/assumptions/41.md). -/
def State.becomeBlank (s : State) (code : Nat) : State :=
  let s := (({ s with img := none } : State).grantUnits none 5).spinOff
  ((s.bootFail 3 code clsCorrected noInst).put MGMT_STAT_ADDR 0x1D).ledAlarm.closeRecord

/-- Stage 3: both slots are checked, and the accepted one of the higher IMAGE_VERSION is taken, slot A where they are equal. -/
def State.stage3 (s : State) : State :=
  let rom := slice (Config.romDigest 1) 0 48
  let s := s.extend 3 rom (entryBytes 3 4 0 0 0 0 0 0 rom)
  match s.siCheck (s.siSlot 0), s.siCheck (s.siSlot 1) with
  | .inl a, .inl b => if a.version < b.version then s.acceptImage 1 b none else s.acceptImage 0 a none
  | .inl a, .inr c => ((s.put SI_STAT_REFUSE_B c).refusedSlot 1 c).acceptImage 0 a (some c)
  | .inr c, .inl b => ((s.put SI_STAT_REFUSE_A c).refusedSlot 0 c).acceptImage 1 b (some c)
  | .inr c, .inr e =>
    ((((s.put SI_STAT_REFUSE_A c).put SI_STAT_REFUSE_B e).refusedSlot 0 c).refusedSlot 1 e).becomeBlank c

/-! ### Stage 4: domains, DRAM and dies (R39, R443) -/

/-- A route word of the image (R416). -/
def Image.routeWord (i : Image) (w : Nat) : Word :=
  BitVec.ofNat 32 (i.route (4 * w) + 256 * i.route (4 * w + 1) + 65536 * i.route (4 * w + 2) + 16777216 * i.route (4 * w + 3))

/-- The image reset values of the units of the domains that `up` names (file 00, reset `img`; R15, R508): what these units hold when their
power comes back, by the domains of R507. A unit that is not granted is locked again (R95). -/
def State.imageUnits (s : State) (i : Image) (up : Nat → Bool) : State :=
  let s := (s.grantUnits (some i) 0).grantUnits (some i) 5
  let s := (List.range 2).foldl (fun s p => if up (8 + p) then s.put (PORT_STAT_PRESENT p) (ofBool (decide (p = 0 ∨ i.portShape = 0))) else s) s
  let s := if up 12 then
      (List.range 16).foldl (fun s c =>
        let s := s.put (SC_WAYS_MASK c) (i.ways c)
        let s := (s.setNum (SC_BASE_LO c) (i.regionBase c % 2 ^ 32)).setNum (SC_BASE_HI c) (i.regionBase c / 2 ^ 32 % 256)
        (s.setNum (SC_PAGES c) (i.regionPages c)).put (SC_POLICY_POLICY c) (i.regionPolicy c)) s
    else s
  let s := if up 13 then (List.range 64).foldl (fun s m => s.setNum (DRAM_MR m) (Config.modeRegister i.memory m % 256)) s else s
  let s := if up 20 then (s.put MGMT_STAT_ADDR i.mgmtAddr).put MGMT_STAT_BUS i.mgmtBus else s
  let s := if up 21 then (List.range 112).foldl (fun s w => s.wr (EV_ROUTE w) (i.routeWord w)) s else s
  let s := (List.range 4).foldl (fun s n =>
    if bitOf i.chMask n ∧ up (28 + 11 * n) then
      let s := (s.put (DIE_STAT_ENABLED (unitBase (n + 1) 0)) 1).grantUnits (some i) (n + 1)
      (List.range 16).foldl (fun s w => s.wr (EV_LOCAL_C n w) (i.routeWord (48 + 16 * n + w))) s
    else s) s
  let s := (List.range 4).foldl (fun s n =>
    if bitOf i.chMask n ∧ up (29 + 11 * n) then (s.put (AFE_CTL_RDR_EN n) (i.readerMask n)).grantUnits (some i) (n + 1) else s) s
  (List.range 4).foldl (fun s n =>
    if bitOf i.chMask n ∧ up (36 + 11 * n) then (s.put (LM_STAT_PROT n) (ofBool (i.parityProtect n))).grantUnits (some i) (n + 1) else s) s

/-- The image reset values of an image that the HUB ROM has accepted (file 00, reset `img`; R73): those of every unit, and those of the KPR's
always-on domain, which no exit of a rung gives again. -/
def State.hubImage (s : State) (i : Image) : State :=
  let s := s.imageUnits i (fun d => decide (d < 28))
  let s := (List.range 4).foldl (fun s n => s.put (DIE_STAT_ENABLED (unitBase (n + 1) 0)) (ofBool (bitOf i.chMask n))) s
  let s := s.put CLOCK_STAT_PCIE_INT (ofBool (decide (i.refSel = 1)))
  let s := (List.range 16).foldl (fun s w => s.putRoutes (112 + w) (i.routeWord (112 + w))) s
  let s := (List.range 4).foldl (fun s n => s.setActState n (ofBool (bitOf i.chMask n))) s
  let s := s.put MAX_RUNG_RUNG i.maxRung
  (List.range 8).foldl (fun s d =>
    (((s.put (THR_LIM_WARM d) (i.warm d)).put (THR_LIM_HOT d) (i.hot d)).put (THR_LIM_CRIT d) (i.crit d)).put (THR_LIM_HYST d) (i.hyst d)) s

/-- A channel die's domains and link come up, with its image reset values, its copy of the routes in force (R20, R416), calibrations and
ARM (R39, R61, R258). -/
def State.dieUp (s : State) (i : Image) (n : Nat) : State :=
  let s := ({ s with downDies := s.downDies.erase n } : State).powerDomains (28 + 11 * n) (39 + 11 * n)
  let s := (s.put (DIE_STAT_ENABLED (unitBase (n + 1) 0)) 1).put (DIE_STAT_STATE (unitBase (n + 1) 0)) 1
  let s := s.grantUnits (some i) (n + 1)
  let s := s.put (AFE_CTL_RDR_EN n) (i.readerMask n)
  let s := (List.range 16).foldl (fun s w => s.wr (EV_LOCAL_C n w) (s.rd (EV_ROUTE (48 + 16 * n + w)))) s
  let s := s.put (LM_STAT_PROT n) (ofBool (i.parityProtect n))
  let s := s.linkBoth n 2 (fullLanes n)
  (s.calBoot [n + 1, 10 + n, 14 + n, 6 + n]).armPreamp n

/-- A die of the image that is not brought up (R39, R464, R493): it stays Off, and its actuator is Degraded. -/
def State.dieStaysOff (s : State) (n addr bit : Nat) : State :=
  let s := (s.chOff n).put (DIE_STAT_ENABLED (unitBase (n + 1) 0)) 1
  ({ s with downDies := insertN n s.downDies } : State).degrade n addr bit

/-- CH_SUPPLY_TIMEOUT (R39): 100 ms have passed. The manual gives this fault no fault bit: the record and PART_FIRST name bit 0 of the
die's DIE_STAT (DESIGN CHOICE, notes/assumptions/43.md). -/
def chSupplyTimeout (n : Nat) (s : State) : State :=
  if s.chWait.contains n then
    let s := { s with chWait := s.chWait.erase n }
    let a := DIE_STAT (unitBase (n + 1) 0)
    let s := (s.put (DIE_STAT_STATE (unitBase (n + 1) 0)) 0).log (faultRecord a (s.rd a) 0 sevFault clsDegraded n 0)
    s.dieStaysOff n a 0
  else s

def execChSupplyTimeout (ch : Ch) (s : State) : Host.Outcome State Fault Refusal := .next (chSupplyTimeout ch s)

/-- Stage 4, channel dies (R39, R526): one still Hot after a Critical level is not enabled, and one without its supplies waits. -/
def State.bringDie (s : State) (i : Image) (n : Nat) : State :=
  if bitOf i.chMask n = false then s
  else if s.critOff.contains n ∧ 2 ≤ s.thermLevel (n + 1) then
    (s.bootFail 4 0xFF clsDegraded n).dieStaysOff n THERM_FAULT (n + 1)
  else if s.chSupplies n then s.dieUp i n
  else { (s.put (DIE_STAT_ENABLED (unitBase (n + 1) 0)) 1).put (DIE_STAT_STATE (unitBase (n + 1) 0)) 1 with chWait := s.chWait ++ [n] }

/-- DRAM is initialised (R378, R443): MODE follows the MEM domains, and the HUB ROM turns the shared cache on (file 12, SC_CTL.EN). -/
def State.dramUp (s : State) : State := s.dramMode.put SC_CTL_EN 1

/-- Stage 4 (R443): domains, DRAM, the flash's mode, the Keeper's records, the log and the dump word, and the channel dies. -/
def State.stage4 (s : State) (i : Image) (dies : Bool) : State :=
  let s := ((s.powerDomains 0 28).powerDomains 72 84).dramUp.showChSupplies
  let s := s.linkBoth 4 2 (fullLanes 4)
  let s := (s.put XS_STAT_MODE (1 - i.flashMode)).put XS_STAT_CLK i.flashClk
  let s := s.deriveSpin.startBeat
  let s := if s.flag ALOG_STAT_LOADED then s else s.logRestore
  let s := s.bootDumpState
  let s := if dies then (List.range 4).foldl (fun s n => s.bringDie i n) s else s
  { s.put BOOT_STAT_STAGE 4 with critOff := [] }

/-! ### Stage 5: the Sibourn patches (R439, R442, R443) -/

/-- Refused images of a set are logged, each with its own code or the set's. -/
def State.refusedSet (s : State) (code source : Nat) (is : List Img) : State :=
  is.foldl (fun s i => match s.imgCheck i with
    | some c => s.refusedImg (if i.kind = kdHubPatch then 5 else 6) (if i.kind = kdHubPatch then 6 else 7) (if i.kind = kdHubPatch then 0 else 0xFF) c source i
    | none => if code = 4 then s.refusedImg (if i.kind = kdHubPatch then 5 else 6) (if i.kind = kdHubPatch then 6 else 7) (if i.kind = kdHubPatch then 0 else 0xFF) 4 source i else s) s

/-- What the check of patch partition k gives: its images, or the refusal code. -/
def State.patchSet (s : State) (k : Nat) : List Img ⊕ Nat :=
  match s.patchBytes k with
  | none => .inr 1
  | some bs => match s.setCheck 2 bs.length bs with
    | none => .inl (imagesOf bs)
    | some c => .inr c

/-- The accepted patch images are measured and run. -/
def State.usePatch (s : State) (k : Nat) (fallback : Bool) (is : List Img) : State :=
  let s := is.foldl (fun s i =>
    let hub := decide (i.kind = kdHubPatch)
    let s := s.measured (if hub then 5 else 6) (if hub then 6 else 7) (if hub then 0 else 0xFF) fallback k i
    s.modSig (fun g => { g with versions := modAt g.versions (if hub then 6 else 7) (fun _ => i.version) })) s
  (s.modUpd (fun u => { u with patchRun := k })).modSig (fun g => { g with fallback := g.fallback || fallback })

/-- Sibourn words 0 to 2,559 of the CH patch of the partition that runs, decrypted (R439). -/
def State.patchWords (s : State) : List (Nat × BitVec 256) :=
  match (s.patchBytes s.upd.patchRun).bind (imageIn kdChPatch) with
  | none => []
  | some i =>
    let pt := slice (Config.aesCtr (leNat (s.otpBytes 0x30 32)) (slice i.hdr 0x70 16) i.body) 0 81920
    (List.range 2560).filterMap (fun a =>
      let w := BitVec.ofNat 256 (fieldLe pt (32 * a) 32)
      if w = 0 then none else some (a, w))

/-- The CH patch goes into the control store of a die (R424, R426, R443). -/
def State.patchDie (s : State) (ws : List (Nat × BitVec 256)) (n : Nat) : State :=
  s.modLmu n (fun l => { l with kept := ws, store := ws ++ l.store.filter (fun e => decide (2560 ≤ e.1)) })

/-- The dies that are up. -/
def State.diesUp (s : State) : List Nat :=
  (List.range 4).filter (fun n => s.chOn n && decide (s.get (DIE_STAT_STATE (unitBase (n + 1) 0)) ≠ 0) && !(s.chWait.contains n))

/-- Every channel die stays Off (R464). -/
def State.noDies (s : State) (stage code : Nat) : State :=
  let s := (List.range 4).foldl (fun s n => if s.chOn n then s.dieStaysOff n BOOT_FAIL 0 else s) (s.bootFail stage code clsDegraded noInst)
  { s with chWait := [] }

/-- Stage 5. -/
def State.stage5 (s : State) : State :=
  let k := s.patchSel
  let j := if k = 0 then 1 else 0
  let s := match s.patchSet k with
    | .inl is => s.usePatch k false is
    | .inr c =>
      let s := s.refusedSet c k (imagesOf ((s.patchBytes k).getD []))
      match s.patchSet j with
      | .inl is => s.usePatch j true is
      | .inr e => (s.refusedSet e j (imagesOf ((s.patchBytes j).getD []))).noDies 5 c
  let ws := s.patchWords
  (s.diesUp.foldl (fun s n => s.patchDie ws n) s).put BOOT_STAT_STAGE 5

/-! ### Stage 6: firmware (R442, R444) -/

/-- Where an image is looked for: slot and KIND of its entry, DIE, image kind. -/
structure Want where
  slot : Nat
  entry : Nat
  die : Nat
  kind : Nat
  deriving DecidableEq, Repr

def wantHub : Want := ⟨7, 8, 0, kdHub⟩
def wantCh : Want := ⟨8, 9, 0xFF, kdCh⟩
def wantMicro : Want := ⟨9, 10, 0xFF, kdMicro⟩

/-- SOURCE of an image of a firmware half (R455). -/
def halfSource (p : Nat) (upper : Bool) : Nat := p + 0x80 * ofBool upper

/-- An entry made already at this boot is not made again: an image is measured once for each partition (file 14, slots 7 to 9). -/
def State.measureOnce (s : State) (w : Want) (fallback : Bool) (source : Nat) (i : Img) : State :=
  let e := entryBytes w.slot w.entry w.die (entryFlags false fallback i.encrypted) i.version i.rollback 0 source i.digest
  if s.sig.entries.contains e then s else s.measured w.slot w.entry w.die fallback source i

/-- What a half offers: the accepted image, or a refusal; neither where it holds no such image. -/
def State.tryHalf (s : State) (w : Want) (p : Nat) (upper fallback : Bool) : Option (Img ⊕ Nat) × State :=
  match (s.halfBytes p upper).bind (imageIn w.kind) with
  | none => (none, s)
  | some i =>
    match s.imgCheck i with
    | none => (some (.inl i), s.measureOnce w fallback (halfSource p upper) i)
    | some c => (some (.inr c), s.refusedImg w.slot w.entry w.die c (halfSource p upper) i)

/-- The image of a kind of firmware partition p: of the active half, or else of the other; the refusal code otherwise (R442). `none` where
neither half holds one. -/
def State.takeImage (s : State) (w : Want) (p : Nat) : Option ((Img × Bool) ⊕ Nat) × State :=
  let h := s.fwHalf p
  match s.tryHalf w p h false with
  | (some (.inl i), s) => (some (.inl (i, h)), s)
  | (r, s) =>
    match s.tryHalf w p (!h) true with
    | (some (.inl i), s) => (some (.inl (i, !h)), s.modSig (fun g => { g with fallback := true }))
    | (q, s) =>
      match r, q with
      | some (.inr c), _ => (some (.inr c), s)
      | _, some (.inr c) => (some (.inr c), s)
      | _, _ => (none, s)

/-- UPD_SEL.FW_RUN bit p. -/
def State.setRun (s : State) (p : Nat) (upper : Bool) : State :=
  s.put UPD_SEL_FW_RUN (if upper then setBitN (s.get UPD_SEL_FW_RUN) p else clrBitN (s.get UPD_SEL_FW_RUN) p)

/-- Where the HUB firmware of partition i lies (R444). -/
def hubFwAt (i : Nat) : Nat := dramBase + i * 0x1000000

/-- A core's WARM entry (R444). -/
def State.setWarm (s : State) (c base : Nat) : State :=
  let a := base + s.imgNat (fun i => i.roleEntry c)
  (s.setNum (WARM_LO (coreBase c)) (a % 2 ^ 32 / 4 * 4)).setNum (WARM_HI (coreBase c)) (a / 2 ^ 32 % 256)

/-- The partitions that H-cores with nonzero ROLE run, in P_INDEX order. -/
def State.hubParts (s : State) : List Nat :=
  (List.range 8).filter (fun p => (List.range 8).any (fun c => decide (s.roleOf c ≠ 0) && decide (s.imgNat (fun i => i.roleImage c) = p)))

/-- The BOOT H-core. -/
def State.bootH (s : State) : Nat := ((List.range 8).find? (fun c => s.imgBool (fun i => i.roleBoot c))).getD 0

/-- The partition a channel die's C-cores run (R444). -/
def State.chPart (s : State) (n : Nat) : Nat := s.imgNat (fun i => i.roleImage (s.bootC n))

/-- A HUB firmware image is loaded (R444). -/
def State.loadHub (s : State) (p : Nat) (i : Img) : State :=
  let s := (s.physWrite 13 (hubFwAt p) i.body).2
  let s := (List.range 8).foldl (fun s c =>
    if s.roleOf c ≠ 0 ∧ s.imgNat (fun i => i.roleImage c) = p then s.setWarm c (hubFwAt p) else s) s
  if s.imgNat (fun i => i.roleImage s.bootH) = p then s.modSig (fun g => { g with versions := modAt g.versions 0 (fun _ => i.version) }) else s

/-- CH firmware is copied into a die (R444). -/
def State.loadCh (s : State) (n : Nat) (i : Img) : State :=
  let s := s.csWrite n 0 i.body
  let s := [8 + 2 * n, 9 + 2 * n].foldl (fun s c => if s.roleOf c ≠ 0 then s.setWarm c 0x100000000 else s) s
  s.modSig (fun g => { g with versions := modAt g.versions (n + 1) (fun _ => i.version) })

/-- Customer microcode is copied into a die, and SIGNET writes LM_EXPECT (R444). -/
def State.loadMicro (s : State) (n : Nat) (i : Img) : State :=
  (s.csWrite n 0x74000 i.body).putWords (LM_EXPECT n 0) (wordsOf 12 (slice (Config.sha384 i.body) 0 48))

/-- Firmware of one HUB partition: false where both halves are refused. -/
def State.hubPart (s : State) (p : Nat) : Bool × State :=
  match s.takeImage wantHub p with
  | (some (.inl (i, h)), s) => (true, (s.loadHub p i).setRun p h)
  | (r, s) => (false, s.bootFail 6 (match r with | some (.inr c) => c | _ => 1) clsCorrected noInst)

/-- Firmware and microcode of the channel dies `ns` from partition p. -/
def State.chPartLoad (s : State) (p : Nat) (ns : List Nat) : State :=
  let off := fun (s : State) (c : Nat) => ns.foldl (fun s n => (s.bootFail 6 c clsDegraded n).dieStaysOff n BOOT_FAIL 0) s
  match s.takeImage wantCh p with
  | (some (.inl (i, h)), s) =>
    let s := ns.foldl (fun s n => s.loadCh n i) s
    let s := if (s.hubParts).contains p then s else s.setRun p h
    match s.takeImage wantMicro p with
    | (none, s) => s
    | (some (.inl (m, _)), s) => ns.foldl (fun s n => s.loadMicro n m) s
    | (some (.inr c), s) => off s c
  | (r, s) => off s (match r with | some (.inr c) => c | _ => 1)

/-- Firmware of the channel dies of a list, partition by partition. -/
def State.chFirmware (s : State) (ns : List Nat) : State :=
  (List.range 8).foldl (fun s p =>
    let us := ns.filter (fun n => decide (s.chPart n = p))
    if us.isEmpty then s else s.chPartLoad p us) s

/-- What of UPD_SEL awaits a boot or an activation (file 15, UPD_SEL). -/
def State.showSel (s : State) : State :=
  let s := s.put UPD_SEL_KPR_PEND (ofBool (decide (s.kprSel ≠ s.get BOOT_STAT_KFW_COPY)))
  let s := s.put UPD_SEL_PATCH_PEND (ofBool (decide (s.patchSel ≠ s.upd.patchRun)))
  s.put UPD_SEL_FW_PEND ((List.range 8).foldl (fun w p =>
    if (s.halfAt p false).isSome && decide (s.fwHalf p ≠ bitOf (s.get UPD_SEL_FW_RUN) p) then w + 2 ^ p else w) 0)

/-- Stage 6: false where the HUB firmware is refused. -/
def State.stage6 (s : State) : Bool × State :=
  let r := s.hubParts.foldl (fun (r : Bool × State) p => if r.1 then r.2.hubPart p else r) (true, s)
  if r.1 then (true, ((r.2.chFirmware r.2.diesUp).showSel).put BOOT_STAT_STAGE 6) else (false, r.2.showSel)

/-! ### Stage 7 (R443, R464) -/

/-- The cores of a die start (R443): the BOOT C-core. -/
def State.startDie (s : State) (n : Nat) : State := (s.startCore (s.bootC n) 0).put (DIE_STAT_STATE (unitBase (n + 1) 0)) 2

/-- Stage 7: the debug policy is measured, and the BOOT cores start. -/
def State.stage7 (s : State) : State :=
  let d := slice (Config.sha384 (s.otpBytes 0x191 1)) 0 48
  let s := s.extend 10 d (entryBytes 10 11 0xFF 0 0 0 0 0 d)
  let s := (s.startCore s.bootH 0).put (DIE_STAT_STATE (unitBase 0 0)) 2
  let s := s.diesUp.foldl (fun s n => s.startDie n) s
  (s.put BOOT_STAT_STAGE 7).modSig (fun g => { g with stage7 := some s.mtime })

/-- A part that finds SEALED at boot stops after stage 3 (R484). -/
def State.isSealed (s : State) : Bool := decide (s.nvsNat 0x18014 1 = 1)

/-- HUB_ROM_BOOT (R443): stages 3 to 7. `dramGood`: DRAM initialises (R464); `reloadUs`: the µs the load of the HUB firmware took
(R518). -/
def hubRomBoot (dramGood : Bool) (reloadUs : Nat) (s : State) : State :=
  if s.pins.test ∨ s.keeper = false ∨ s.get BOOT_STAT_STAGE ≠ 2 then s
  else
    let s := s.lmsStart.put UPD_STAT_STATE (if s.isSealed then 3 else 0)
    let s := s.stage3
    match s.img with
    | none => s
    | some i =>
      let s := (s.put BOOT_STAT_STAGE 3).hubImage i
      if s.isSealed then s.ledAlarm.closeRecord
      else
        let third := decide (3 ≤ s.alog.fatals) && decide (s.get BOOT_STAT_CAUSE = 5)
        if dramGood = false then
          let s := (s.powerDomains 0 28).powerDomains 72 84
          (s.deriveSpin.startBeat.bootFail 4 0xFF clsCorrected noInst).romServices
        else if third then (s.stage4 i false).romServices
        else
          let s := (s.stage4 i true).stage5
          match s.stage6 with
          | (false, s) => s.romServices
          | (true, s) => { s.stage7 with reloadUs := reloadUs }

def execHubRomBoot (dramGood : Bool) (reloadUs : Nat) (s : State) : Host.Outcome State Fault Refusal := .next (hubRomBoot dramGood reloadUs s)

/-- A waiting channel die whose supplies have become good is brought up (R39): what the stages passed meanwhile gave the others it gets
now. -/
def State.lateDie (s : State) (n : Nat) : State :=
  if s.chWait.contains n ∧ s.chSupplies n then
    match s.img with
    | none => s
    | some i =>
      let s := ({ s with chWait := s.chWait.erase n } : State).dieUp i n
      let s := if 5 ≤ s.get BOOT_STAT_STAGE then s.patchDie s.patchWords n else s
      let s := if 6 ≤ s.get BOOT_STAT_STAGE then s.chFirmware [n] else s
      if 7 ≤ s.get BOOT_STAT_STAGE ∧ s.get (DIE_STAT_STATE (unitBase (n + 1) 0)) ≠ 0 then s.startDie n else s
  else s

/-! ### Full boots (R436, R437) -/

/-- Whether every enabled die reads below its HOT threshold less HYST (R526). -/
def State.allCool (s : State) : Bool :=
  (List.range 8).all (fun d => (decide (1 ≤ d) && decide (d ≤ 4) && !(s.chOn (d - 1))) ||
    decide (sx 16 (s.get (THERM_T_TEMP d)) < ((s.get (THR_LIM_HOT d) : Int) - s.get (THR_LIM_HYST d)) * 256))

/-- The actuator's heads are off the disks, or its die is down. -/
def State.unloaded (s : State) (n : Nat) : Bool :=
  !(s.chOn n) || decide (s.get (DIE_STAT_STATE (unitBase (n + 1) 0)) = 0) || decide (s.mode n = mParked) || decide (s.mode n = mRetracted)

def State.allUnloaded (s : State) : Bool := (List.range 4).all s.unloaded

/-- The HUB-KPR link is Failed, as the KPR sees it (R25). -/
def State.kprLinkFailed (s : State) : Bool := decide (s.get (LINK_STAT_STATE (linkBase 9)) = 0xF)

/-- A part that has sealed itself boots when its heads are unloaded and the spindle has stopped (R484). -/
def State.sealWaits (s : State) : Bool :=
  s.isSealed && decide (4 ≤ s.get BOOT_STAT_STAGE) && !(s.allUnloaded && (decide (s.spinState = spStopped) || decide (s.spinState = spFailed)))

/-- A full boot that is due may start: no dump runs and none is to be made first (R364) but where the KPR cannot reach the HUB (R497), the
supplies hold (R521), after a Critical level every die has cooled (R526), and a seal has run its course (R484). -/
def State.bootReady (s : State) : Bool :=
  !s.pins.test && s.hubHeld && !s.sealWaits && (!(bitOf (s.get SUP_STAT_PLW_SRC) 2) || s.allCool) &&
    (s.kprLinkFailed || (s.dmp.run.isNone && !(decide (s.dumpState = dsArmed) && decide (4 ≤ s.get BOOT_STAT_STAGE))))

/-- FULL_BOOT (R436, R437): every die but the KPR and the MEM dies is reset, and the boot starts at stage 2. -/
def fullBoot (s : State) : State :=
  match s.bootDue with
  | none => s
  | some cause =>
    if s.bootReady then
      let s := s.hubReset
      let s := ((s.put BOOT_STAT_STAGE 1).put BOOT_STAT_CAUSE cause).put BOOT_STAT_BOOTS_IN_CYCLE (min 255 (s.get BOOT_STAT_BOOTS_IN_CYCLE + 1))
      let s := ((s.put BOOT_STAT_RESUMED 0).put BOOT_STAT_ROM_SERVICES 0).setNum BOOT_FAIL 0
      let s := (s.put SUP_STAT_PLW 0).put SUP_STAT_PLW_SRC 0
      let s := (((s.put LADDER_STAT_RUNG 0).put LADDER_STAT_TARGET 0).put LADDER_STAT_MOVING 0).put LADDER_STAT_FROM 0
      let s := s.modLad (fun l => { l with queued := none, entry := false, abort := false, warned := false })
      let s := s.modLog (fun l => { l with fatalAt := none, retracted := false, dumped := false })
      { s with bootDue := none, fatal := [], dbg := ⟨none, none⟩, dmp := ⟨none, false⟩ }
    else s

def execFullBoot (s : State) : Host.Outcome State Fault Refusal := .next (fullBoot s)

/-- A boot runs: stage 7 has not been reached, and the ROM has not stopped with a closed record. -/
def State.bootRuns (s : State) : Bool := decide (s.get BOOT_STAT_STAGE < 7) && !(s.flag COLO_STAT_CLOSED)

/-- FULL_BOOT_REQUEST (R436): the key word of BOOT_CTL; while a boot or a Fatal sequence runs it has no effect. -/
def fullBootRequest (v : Word) (s : State) : State :=
  if v = 0x0E59B007 ∧ s.alog.fatalAt.isNone = true ∧ s.bootRuns = false then s.bootCaused 1 else s

def execFullBootRequest (value : Word) (s : State) : Host.Outcome State Fault Refusal := .next (s.access 5 (fullBootRequest value))

/-! ### Downloads of the ROM (R99, R464) -/

/-- The slot a Blank part writes (R99). -/
def State.blankSlot (s : State) : Nat :=
  if s.get SI_STAT_REFUSE_A = 1 then 0 else if s.get SI_STAT_REFUSE_B = 1 then 1 else 0

/-- BLANK_IMAGE_DOWNLOAD (R99): a Firmware Commit from management while the part is Blank writes the staged image to a slot. -/
def blankImageDownload (t : Nat) (x : Tag) (s : State) : State :=
  match s.staged with
  | none => s.failTag t x (nvStatus 1 0x07 0)
  | some (owner, bs) =>
    if owner ≠ x.ctrl then s.failTag t x stSequence
    else if 0x40000 < bs.length then s.failTag t x (nvStatus 1 0x07 0)
    else
      let o := slotOffset s.blankSlot
      let s := (s.flashErase o 0x40000).flashWrite o bs
      ({ s with staged := none } : State).okTag t x

def execBlankImageDownload (tag : TagNo) (s : State) : Host.Outcome State Fault Refusal :=
  .next (if s.img.isNone && s.keeper then adminRow tag 0x10 (blankImageDownload tag) s else s)

/-- KEEPER_IMAGE_DOWNLOAD (R464): with both Keeper copies refused, a Firmware Commit from management has the staged Keeper image checked
under R441 and written to copy A. -/
def keeperImageDownload (t : Nat) (x : Tag) (s : State) : State :=
  match s.staged with
  | none => s.failTag t x (nvStatus 1 0x07 0)
  | some (owner, bs) =>
    if owner ≠ x.ctrl then s.failTag t x stSequence
    else
      match s.setCheck 1 0xC000 bs with
      | some _ => s.failTag t x (nvStatus 1 0x07 0)
      | none => ({ s.nvsWrite 0 (slice bs 0 0xC000) with staged := none } : State).okTag t x

def execKeeperImageDownload (tag : TagNo) (s : State) : Host.Outcome State Fault Refusal :=
  .next (if s.keeperRefused && s.flag BOOT_STAT_ROM_SERVICES then adminRow tag 0x10 (keeperImageDownload tag) s else s)

end Sys2Proof.Machine
end

