-- ==== Sys2Proof/Machine/Debug.lean ====
section
/-!
DEFINITION. Authenticated debug (file 14, R459-R463), programming the OTP array (R449), and the NV store as cores reach it (R465).
-/

namespace Sys2Proof.Machine

/-! ### Challenges (R459) -/

/-- Issue a challenge: a nonce of the DRBG, the unit, the power cycles and the boots. -/
def dbgChal (s : State) : State :=
  let (n, s) := s.drawBytes 47 32
  let c := n ++ s.otpBytes 0 16 ++ toLe 4 (s.num PCYCLE) ++ toLe 4 (s.get BOOT_STAT_BOOTS_IN_CYCLE) ++ List.replicate 8 0
  { s with dbg := { s.dbg with chal := some (c, s.mtime) } }

/-- DBG_CHAL (R459): by the TAP instruction, or by DBG_CTL.CHAL. -/
def execDbgChal (tap : Bool) (s : State) : Host.Outcome State Fault Refusal :=
  .next (if tap then (if s.dieOn 0 then dbgChal s else s) else s.access 0 dbgChal)

/-- The live challenge (R459): one expires 600 s after it was issued. -/
def State.liveChal (s : State) : Option (List Byte) :=
  match s.dbg.chal with
  | some (c, t) => if s.passed (some t) 600000000 then none else some c
  | none => none

/-- CHALLENGE_EXPIRE (R459): 600 s have passed. -/
def challengeExpire (s : State) : State := if s.liveChal.isNone then { s with dbg := { s.dbg with chal := none } } else s

def execChallengeExpire (s : State) : Host.Outcome State Fault Refusal := .next (challengeExpire s)

/-! ### Tokens (R460, R461, R463) -/

/-- A token enters: SIGNET begins its check; while another is checked it is ignored. -/
def State.takeToken (s : State) (t : List Byte) : State :=
  if s.flag DBG_STAT_BUSY then s else { s.put DBG_STAT_BUSY 1 with dbg := { s.dbg with token := some t } }

/-- DBG_TOKEN (R460): by the TAP instruction. -/
def execDbgToken (token : List Byte) (s : State) : Host.Outcome State Fault Refusal := .next (if s.dieOn 0 then s.takeToken token else s)

/-- DBG_CTL.SUBMIT (R460): the token in HUB SRAM at DBG_ADDR. Bytes that cannot be read there are no token. -/
def dbgSubmit (s : State) : State :=
  let a := s.num DBG_ADDR_LO + 2 ^ 32 * (s.num DBG_ADDR_HI % 256)
  if s.flag DBG_STAT_BUSY then s
  else if a % 64 = 0 ∧ inSram a 5748 then
    match s.physRead 13 a 5748 with
    | (some b, s) => s.takeToken b
    | (none, s) => s.takeToken []
  else s.takeToken []

def execDbgSubmit (s : State) : Host.Outcome State Fault Refusal := .next (s.access 0 dbgSubmit)

/-- Whether a key slot is programmed. -/
def State.programmed (s : State) (k : Nat) : Bool := s.keyHash k ≠ List.replicate 48 0

/-- The first failing check of a token (R461). -/
def State.tokenCheck (s : State) (t : List Byte) : Option Nat :=
  let b := slice t 0 256
  let level := fieldLe b 6 1
  let k := fieldLe b 7 1
  let pub := slice b 64 96
  let hss := slice b 160 60
  if t.length ≠ 5748 ∨ b.take 4 ≠ [0x50, 0x44, 0x42, 0x47] ∨ fieldLe b 4 2 ≠ 1 ∨ level = 0 ∨ 2 < level ∨ fieldLe b 60 4 ≠ 0 ∨
    slice b 220 36 ≠ List.replicate 36 0 then some 0x01
  else if slice b 8 16 ≠ s.otpBytes 0 16 then some 0x02
  else if (match s.liveChal with
      | some c => decide (slice b 24 32 = slice c 0 32) && decide (slice b 56 4 = slice c 48 4)
      | none => false) = false then some 0x03
  else if s.keyOk (decide (k < 2)) k pub hss = false ∨ s.programmed k = false then some 0x04
  else if (if level = 1 then decide (4 ≤ k) && !(bitOf (s.otpByte 0x191) 0) else decide (k < 2) && !(bitOf (s.otpByte 0x191) 1)) = false then
    some 0x05
  else if Config.ecdsaOk pub (slice (Config.sha384 b) 0 48) (slice t 256 96) = false then some 0x06
  else if Config.hssOk hss b (slice t 352 5396) = false then some 0x07
  else none

/-- An accepted token (R463): slot 10 is extended, a Warn record is written, the level is granted, and the record is signed again. -/
def State.grantLevel (s : State) (t : List Byte) : State :=
  let b := slice t 0 256
  let d := slice (Config.sha384 b) 0 48
  let s := s.extend 10 d (entryBytes 10 11 0xFF 0 0 0 0 0 d)
  let s := s.log (faultRecord DBG_STAT (s.rd DBG_STAT) 24 sevWarn clsNone noInst (fieldLe b 6 1))
  let s := s.put DBG_STAT_LEVEL (fieldLe b 6 1)
  s.modSig (fun g => { g with due := g.due ++ [2], debugged := true })

/-- TOKEN_CHECK_DONE (R459, R461, R463): the check ends; the challenge has had its first token. -/
def tokenCheckDone (s : State) : State :=
  match s.dbg.token with
  | none => s
  | some t =>
    let r := s.tokenCheck t
    let s := { s.put DBG_STAT_BUSY 0 with dbg := ⟨none, none⟩ }
    let s := match r with
      | some c => (s.put DBG_STAT_REFUSED 1).put DBG_STAT_CODE c
      | none => (s.put DBG_STAT_CODE 0).grantLevel t
    s.raise 100

def execTokenCheckDone (s : State) : Host.Outcome State Fault Refusal := .next (tokenCheckDone s)

/-- DBG_LOCK (R463). -/
def execDbgLock (s : State) : Host.Outcome State Fault Refusal := .next (s.access 0 (fun s => s.put DBG_STAT_LEVEL 0))

/-! ### Programming the OTP array (R449, R462) -/

/-- Bits of REVOKE that are 1 once bit b is programmed leave a slot of each authority (R449). -/
def State.revokeOk (s : State) (b : Nat) : Bool :=
  let r := setBitN (s.otpByte 0x170) b
  decide (bitsOf r 1 0 ≠ 3) && decide (bitsOf r 7 4 ≠ 15)

/-- Whether OTP_PROG may program bit b of byte a. -/
def State.otpAllowed (s : State) (a b : Nat) : Bool :=
  let factory := decide (s.get DBG_STAT_LEVEL = 2)
  decide (b < 8) &&
    (if a < 0xB0 then factory
     else if a < 0x170 then decide (s.lifecycle = 1)
     else if a = 0x170 then s.revokeOk b && (decide (4 ≤ b) || (decide (b < 2) && factory))
     else if a = 0x190 then (decide (b = 0) && factory) || decide (b = 1)
     else if a = 0x191 then decide (b < 2)
     else false)

/-- OTP_PROG_WRITE. -/
def otpProgWrite (v : Word) (s : State) : State :=
  let a := bitsOf v.toNat 10 0
  let b := bitsOf v.toNat 22 16
  if s.flag OTP_STAT_BUSY ∨ s.otpAllowed a b = false then s.put OTP_STAT_REFUSED 1
  else { s.put OTP_STAT_BUSY 1 with otpJob := some (a, b) }

def execOtpProgWrite (value : Word) (s : State) : Host.Outcome State Fault Refusal := .next (s.access 0 (otpProgWrite value))

/-- OTP_PROGRAM_DONE: 50 µs have passed. -/
def otpProgramDone (s : State) : State :=
  match s.otpJob with
  | none => s
  | some (a, b) => { s.put OTP_STAT_BUSY 0 with otpJob := none, otp := s.otp.writeN 0 a (toLe 1 (setBitN (s.otpByte a) b)) }

def execOtpProgramDone (s : State) : Host.Outcome State Fault Refusal := .next (otpProgramDone s)

/-! ### The NV store (R465) -/

/-- Where the chain of SPDM slot 1 lies in its region; the manual gives the region only. -/
def chain0At : Nat := 0x28800
def chain1At : Nat := 0x29C00

/-- A word that drive firmware may write (R465). -/
def nvsOpen (a : Nat) : Bool :=
  (decide (0x1D000 ≤ a) && decide (a < 0x27000)) || (decide (chain1At ≤ a) && decide (a < 0x40000))

/-- NVS_ADDR as a byte address, and its advance. -/
def State.nvsAddr (s : State) : Nat := 4 * s.get NVS_ADDR_WORD
def State.nvsNext (s : State) : State := s.put NVS_ADDR_WORD ((s.get NVS_ADDR_WORD + 1) % 65536)

/-- An access of NVS_DATA waits for the write in progress (R465). That a write waits as a read does is the model's choice
(notes/assumptions/44.md). -/
def State.holdNvs (s : State) (v : Option Word) : State := ({ s with nvsWaits := s.nvsWaits ++ [v] } : State).answer .waits

/-- NVS_DATA_WRITE (R465): a refused write sets PROT; either way ADDR advances. A write in progress is waited for. -/
def nvsDataWrite (v : Word) (s : State) : State :=
  if s.flag NVS_STAT_BUSY then s.holdNvs (some v)
  else if nvsOpen s.nvsAddr then ({ s.put NVS_STAT_BUSY 1 with nvsJob := some (s.nvsAddr, v) } : State).nvsNext
  else (s.noteBit nvsErr 0).nvsNext

def execNvsDataWrite (value : Word) (s : State) : Host.Outcome State Fault Refusal := .next (s.access 5 (nvsDataWrite value))

/-- NVS_DATA_READ (R465): the word at ADDR, and ADDR advances; a write in progress is waited for. -/
def nvsDataRead (s : State) : State :=
  if s.flag NVS_STAT_BUSY then s.holdNvs none else (s.answer (.data (s.nvsNat s.nvsAddr 4))).nvsNext

def execNvsDataRead (s : State) : Host.Outcome State Fault Refusal := .next (s.access 5 nvsDataRead)

/-- The accesses that waited act in their order, up to and behind the next write, for which those after it wait again. -/
def State.releaseNvs (s : State) : State :=
  s.nvsWaits.foldl (fun s e => match e with
    | some v => nvsDataWrite v s
    | none => nvsDataRead s) { s with nvsWaits := [] }

/-- NVS_WRITE_DONE (R282, R465): the word is stored whole, or the write fails its read-back and the word holds its old value. -/
def nvsWriteDone (ok : Bool) (s : State) : State :=
  match s.nvsJob with
  | none => s
  | some (a, w) =>
    let s := { s.put NVS_STAT_BUSY 0 with nvsJob := none }
    (if ok then s.nvsWrite a (toLe 4 w.toNat) else s.noteBit nvsErr 1).releaseNvs

def execNvsWriteDone (ok : Bool) (s : State) : Host.Outcome State Fault Refusal := .next (nvsWriteDone ok s)

end Sys2Proof.Machine
end

