-- ==== Sys2Proof/Machine/Dram.lean ====
section
/-!
DEFINITION. The commands of DRAMC, the shared cache, the scrubbers and the test apertures (file 12, R374-R377, R393, R394, R399, R400).
-/

namespace Sys2Proof.Machine

/-- What reading a code word found in the array itself: a correctable error is corrected and counted, an uncorrectable one
stays in the array, and the loss of both tag copies of a set is Fatal (R397, R496). -/
def State.found (s : State) (m a : Nat) (u : Upset) : State :=
  match u with
  | .none => s
  | .corrected => s.memCe m a
  | .uncorrectable => if (look (markKey m a) s.marks).isSome then s else s.setMark m a (some .bad)
  | .tags => s.fatalCause .tagCopies

/-- DRAM_WRITE (R374, R375, R388-R391): a write of a requester class at a physical address of DRAM. `found` is what the
read of the block that a partial write merges with finds. -/
def dramWriteCmd (cls a : Nat) (bytes : List Byte) (found : Upset) (s : State) : State :=
  if inDram a bytes.length = false ∨ bytes = [] then s.answer .busError
  else
    let s :=
      if found = .tags then s.fatalCause .tagCopies
      else if (s.scFind a).isSome || !(s.valid.contains (dramUnit (a - dramBase))) then s
      else s.found 0 (a - dramBase) found
    let r := s.physWrite cls a bytes
    r.2.answer (if r.1 then .done else .busError)

def execDramWrite (cls : Fin 16) (a : Nat) (bytes : List Byte) (found : Upset) (s : State) :
    Host.Outcome State Fault Refusal :=
  .next (dramWriteCmd cls a bytes found s)

/-! ### DRAMC commands -/

/-- The first unit DCMD_ADDR names; none outside DRAM. -/
def State.dcmdUnit (s : State) : Option Nat :=
  let a := s.get DCMD_ADDR_LO_ADDR * 0x1000 + 0x100000000 * s.get DCMD_ADDR_HI_ADDR
  if inDram a 0x1000 then some (dramUnit (a - dramBase)) else none

/-- Refuse a DRAMC command (file 12, DCMD_STAT). -/
def State.dcmdRej (s : State) : State := s.put DCMD_STAT_REJ 1

/-- DCMD INVALIDATE of `count` units (R376): their lines are discarded and their valid bits cleared. -/
def invalidateCmd (count : Nat) (s : State) : State :=
  if s.flag DCMD_STAT_BUSY then s.dcmdRej
  else
    match s.dcmdUnit with
    | none => s.dcmdRej
    | some u => if count = 0 ∨ 0xF0000 < u + count then s.dcmdRej else (s.discardUnits u count).put DCMD_STAT_BUSY 1

def execDramInvalidate (count : Nat) (s : State) : Host.Outcome State Fault Refusal :=
  .next (s.access 0 (invalidateCmd count))

/-- Copy a unit with correction: corrected words are stored so, uncorrectable ones poisoned (R377). -/
def State.copyUnit (s : State) (u : Nat) : State :=
  (s.marksIn 0 (u * 0x1000) 0x1000).foldl (fun s e =>
    match eccOf 0 e.1 (s.dram.readN 0 e.1 64) e.2 with
    | .corrected d => ((s.memCe 0 e.1).setMark 0 e.1 none).setArray 0 (s.dram.writeN 0 e.1 d)
    | .good => s.setMark 0 e.1 none
    | .failed => (s.memUe 0 e.1).setMark 0 e.1 (some .poison)
    | .poisoned => s) s

/-- DCMD SPARE (R377): the unit is copied and redirected to the next spare; with all 3,840 in use nothing changes. -/
def spareCmd (s : State) : State :=
  if s.flag DCMD_STAT_BUSY then s.dcmdRej
  else
    match s.dcmdUnit with
    | none => s.dcmdRej
    | some u =>
      let n := s.get DRAMC_STAT_SPARES
      if 3840 ≤ n then { s.put DCMD_STAT_BUSY 1 with dcmdFull := true }
      else
        let s := ((s.copyUnit u).put DRAMC_STAT_SPARES (n + 1)).put DCMD_STAT_BUSY 1
        { s with spares := place u n s.spares, dcmdFull := false }

def execDramSpare (s : State) : Host.Outcome State Fault Refusal := .next (s.access 0 spareCmd)

/-- DCMD_DONE (R377): the redirection table is saved, BUSY falls, DONE rises with event 65, and FULL where no spare was left. -/
def dcmdDone (s : State) : State :=
  if s.flag DCMD_STAT_BUSY then
    let s := (s.put DCMD_STAT_BUSY 0).put DCMD_STAT_DONE 1
    let s := if s.dcmdFull then s.put DCMD_STAT_FULL 1 else s
    { s.raise 65 with dcmdFull := false, sparesKept := s.spares }
  else s

def execDcmdDone (s : State) : Host.Outcome State Fault Refusal := .next (dcmdDone s)

/-! ### Maintenance of the shared cache (R393, R394) -/

/-- Write every dirty line of a scope to DRAM; the lines stay, clean. A line of the scope in the victim buffer is done once its write-back is
(R394). -/
def State.cleanLines (s : State) (scope : ScLine → Bool) : State :=
  let s := (s.victims.filter scope).foldl State.writeOut s
  (s.lines.filter (fun e => e.2.dirty && scope e.2)).foldl
    (fun s e => (s.writeBack e.2).setLine e.1 { e.2 with dirty := false }) s

/-- Discard every line of a scope. -/
def State.invalLines (s : State) (scope : ScLine → Bool) : State :=
  (s.lines.filter (fun e => scope e.2)).foldl (fun s e => s.dropLine e.1 e.2) s

/-- The lines of the range of SC_MOP_ADDR and SC_MOP_LEN. -/
def State.mopRange (s : State) (l : ScLine) : Bool :=
  let a := (s.get SC_MOP_ADDR_LO_ADDR * 128 + 0x100000000 * s.get SC_MOP_ADDR_HI_ADDR) / 128
  decide (a ≤ l.line) && decide (l.line < a + s.num SC_MOP_LEN)

/-- Start a maintenance operation (R393): refused while one runs. -/
def mopStart (f : State → State) (s : State) : State :=
  if s.flag SC_MOP_STAT_BUSY then s.put SC_MOP_STAT_REJ 1 else (f s).put SC_MOP_STAT_BUSY 1

/-- CLEAN_INVAL_ALL's work (R393, R378). -/
def State.cleanInvalAll (s : State) : State := (s.cleanLines (fun _ => true)).invalLines (fun _ => true)

def execScClean (s : State) : Host.Outcome State Fault Refusal :=
  .next (s.access 0 (mopStart (fun s => s.cleanLines s.mopRange)))

def execScInval (s : State) : Host.Outcome State Fault Refusal :=
  .next (s.access 0 (mopStart (fun s => s.invalLines s.mopRange)))

def execScCleanInval (s : State) : Host.Outcome State Fault Refusal :=
  .next (s.access 0 (mopStart (fun s => (s.cleanLines s.mopRange).invalLines s.mopRange)))

def execScCleanAll (s : State) : Host.Outcome State Fault Refusal :=
  .next (s.access 0 (mopStart (fun s => s.cleanLines (fun _ => true))))

def execScCleanInvalAll (s : State) : Host.Outcome State Fault Refusal :=
  .next (s.access 0 (mopStart State.cleanInvalAll))

/-- MOP_DONE (R393): BUSY falls, DONE rises with event 60. -/
def mopDone (s : State) : State :=
  if s.flag SC_MOP_STAT_BUSY then ((s.put SC_MOP_STAT_BUSY 0).put SC_MOP_STAT_DONE 1).raise 60 else s

def execMopDone (s : State) : Host.Outcome State Fault Refusal := .next (mopDone s)

/-! ### Scrubbing (R399) -/

/-- Whether the scrubber's item at `a` has its valid state (R395, R399): a DRAM unit, a present shared-cache line, an SRAM
line. -/
def State.itemValid (s : State) (m a : Nat) : Bool :=
  if m = 0 then s.valid.contains (dramUnit a)
  else if m = 1 then (s.scFind a).isSome
  else (atD s.sramValid (m - 2) []).contains (a / 64)

/-- An uncorrectable item is left as it is: UE_ADDR, SCRUB_UE, the ERR event and a Warn record (R399). -/
def State.scrubUe (s : State) (m a : Nat) : State :=
  let b := memUnit m
  let s := s.set64 (UE_ADDR_LO b) (UE_ADDR_HI b) (memAddr m a)
  s.faultBit (memFault m) 2 sevWarn clsCorrected noInst (memAddr m a)

/-- Scrub one code word: what the array's read finds, then the marks it carries. -/
def State.scrubWord (s : State) (m a : Nat) : State :=
  match look (markKey m a) s.marks with
  | none => s
  | some k =>
    let data := if m = 1 then
        match s.scFind a with
        | some (_, l) => slice l.data (a % 128) 8
        | none => []
      else (s.array m).readN 0 a (granule m)
    match eccOf m a data k with
    | .good => s.setMark m a none
    | .corrected d =>
      let s := (s.memCe m a).setMark m a none
      if m = 1 then
        match s.scFind a with
        | some (key, l) => s.setLine key { l with data := overlay l.data (a % 128) d }
        | none => s
      else s.setArray m ((s.array m).writeN 0 a d)
    | .failed => s.scrubUe m a
    | .poisoned => s.scrubUe m a

/-- SCRUB_ITEM (R399): the scrubber reads one valid item and corrects or reports it; the first item of a lap begins it. -/
def scrubItem (m a : Nat) (found : Upset) (s : State) : State :=
  let b := memUnit m
  if s.flag (SCRUB_CTL_EN b) = false then s
  else
    let s := if s.flag (SCRUB_STAT_ACTIVE b) then s
      else { s.put (SCRUB_STAT_ACTIVE b) 1 with lapStart := modAt s.lapStart m (fun _ => s.optime) }
    let a := a / granule m * granule m
    if s.itemValid m a then (s.found m a found).scrubWord m a else s

/-- Whether an array's die answers: a channel die's SRAM only when the die is enabled. -/
def State.memOn (s : State) (m : Nat) : Bool := decide (m < 3) || s.chOn (m - 3)

def execScrubItem (m : ArrayNo) (a : Nat) (found : Upset) (s : State) : Host.Outcome State Fault Refusal :=
  .next (if s.memOn m then scrubItem m a found s else s)

/-- SCRUB_LAP_END (R399, R70): LAP_CNT and LAP_TIME, no sooner than 16 s after the lap's start. -/
def scrubLapEnd (m : Nat) (s : State) : State :=
  let b := memUnit m
  let t := s.optime - atD s.lapStart m 0
  if s.flag (SCRUB_STAT_ACTIVE b) && decide (128 ≤ t) then
    ((s.put (SCRUB_STAT_LAP_CNT b) ((s.get (SCRUB_STAT_LAP_CNT b) + 1) % 65536)).setNum (LAP_TIME b) (t % 0x100000000)).put
      (SCRUB_STAT_ACTIVE b) 0
  else s

def execScrubLapEnd (m : ArrayNo) (s : State) : Host.Outcome State Fault Refusal :=
  .next (if s.memOn m then scrubLapEnd m s else s)

/-! ### The test aperture (R400) -/

/-- An Expert write that is closed sets IGNORED and has no other effect (R9, R100). -/
def State.expertGate (s : State) (a : Nat) (f : State → State) : State :=
  if s.expertOpen a then f s else s.wr (expertStat a) (s.rd (expertStat a) ||| 4)

/-- The array offset of the aperture's 64 B unit; none outside the array. A shared-cache unit keeps its physical address. -/
def State.taAddr (s : State) (m : Nat) : Option Nat :=
  let b := memUnit m
  let a := s.get (TA_ADDR_LO_ADDR b) * 64 + 0x100000000 * s.get (TA_ADDR_HI_ADDR b)
  if m = 0 then if inDram a 64 then some (a - dramBase) else none
  else if m = 1 then some a
  else if m = 2 then if inSram a 64 then some (a - sramBase) else none
  else if a + 64 ≤ 0x80000 then some a else none

/-- Put 64 bytes and the check bits of the aperture into its registers. -/
def State.taFill (s : State) (m : Nat) (data : List Byte) (lo hi : Nat) : State :=
  let b := memUnit m
  let s := (List.range 16).foldl (fun s i => s.setNum (TA_DATA b i) (fieldLe data (4 * i) 4)) s
  ((s.setNum (TA_CHECK_LO b) lo).setNum (TA_CHECK_HI b) hi).put (TA_STAT_MISS b) 0

/-- The stored check bits of a code word: the encoder's, or what its mark says; those of an upset word are free. -/
def State.checkAt (s : State) (m a : Nat) (data : List Byte) : Nat × State :=
  match look (markKey m a) s.marks with
  | none => (checkOf m a data, s)
  | some .poison => (Nat.xor (checkOf m a data) 0x5A5A5A5A, s)
  | some (.raw c) => (c, s)
  | some .bad => s.draw 24

/-- The check bits of eight 64-bit words, as TA_CHECK_LO and TA_CHECK_HI. -/
def State.checks8 (s : State) (m a : Nat) (data : List Byte) : Nat × State :=
  (List.range 8).foldl (fun r j =>
    let c := r.2.checkAt m (a + 8 * j) (slice data (8 * j) 8)
    (r.1 + c.1 % 256 * 2 ^ (8 * j), c.2)) (0, s)

/-- TA_CMD READ_RAW (R400): data and check bits as stored, without correction. A unit that is not valid has no stored bits:
its data reads 0 and its check bits are free. -/
def readRaw (m : Nat) (s : State) : State :=
  match s.taAddr m with
  | none => s
  | some a =>
    if m = 1 then
      match s.scFind a with
      | none => s.put (TA_STAT_MISS (memUnit m)) 1
      | some (_, l) =>
        let d := slice l.data (a % 128) 64
        let (c, s) := s.checks8 1 a d
        s.taFill m d (c % 0x100000000) (c / 0x100000000)
    else
      let d := if m = 2 ∧ 0xE2000 ≤ a ∧ a < 0x100000 then (List.range 64).map (fun i => s.bitmapByte (a + i - 0xE2000))
        else (s.array m).readN 0 a 64
      if s.itemValid m a then
        if m = 0 then
          let (c, s) := s.checkAt 0 a d
          s.taFill m d (c % 0x100000000) 0
        else
          let (c, s) := s.checks8 m a d
          s.taFill m d (c % 0x100000000) (c / 0x100000000)
      else
        let (c, s) := s.draw 24
        let (c', s) := s.draw 24
        s.taFill m d (c % 0x100000000) (if m = 0 then 0 else c' % 0x100000000)

def execReadRaw (m : ArrayNo) (s : State) : Host.Outcome State Fault Refusal :=
  .next (s.access (addrDie (memUnit m)) (fun s => s.expertGate (TA_CMD (memUnit m)) (readRaw m)))

/-- The aperture's 64 data bytes. -/
def State.taData (s : State) (m : Nat) : List Byte :=
  ((List.range 16).map (fun i => toLe 4 (s.num (TA_DATA (memUnit m) i)))).flatten

/-- TA_CMD WRITE_RAW (R400): data and check bits are stored as given; an invalid DRAM unit or SRAM line is first validated, and
a shared-cache line must be present. -/
def writeRaw (m : Nat) (s : State) : State :=
  let b := memUnit m
  let d := s.taData m
  let lo := s.num (TA_CHECK_LO b)
  let c := lo + 0x100000000 * s.num (TA_CHECK_HI b)
  let marks8 := fun (s : State) (a : Nat) => (List.range 8).foldl (fun s j =>
    s.setMark m (a + 8 * j) (markOf m (a + 8 * j) (slice d (8 * j) 8) (c / 2 ^ (8 * j) % 256))) s
  match s.taAddr m with
  | none => s
  | some a =>
    if m = 0 then
      let s := s.setArray 0 (s.dram.writeN 0 a d)
      let s := { s with valid := insertN (dramUnit a) s.valid }
      (s.setMark 0 a (markOf 0 a d lo)).put (TA_STAT_MISS b) 0
    else if m = 1 then
      match s.scFind a with
      | none => s.put (TA_STAT_MISS b) 1
      | some (k, l) => (marks8 (s.setLine k { l with data := overlay l.data (a % 128) d }) a).put (TA_STAT_MISS b) 0
    else if m = 2 ∧ 0xE2000 ≤ a ∧ a < 0x100000 then s
    else (marks8 ((s.setArray m ((s.array m).writeN 0 a d)).validate (m - 2) a 64) a).put (TA_STAT_MISS b) 0

def execWriteRaw (m : ArrayNo) (s : State) : Host.Outcome State Fault Refusal :=
  .next (s.access (addrDie (memUnit m)) (fun s => s.expertGate (TA_CMD (memUnit m)) (writeRaw m)))

/-- MEM_CNT_CLR (file 12): bit 0 CE_CNT, bit 1 UE_CNT; CNT_SAT stays. -/
def memCntClr (m : Nat) (v : Word) (s : State) : State :=
  let b := memUnit m
  let s := if bitOf v.toNat 0 then s.setNum (CE_CNT b) 0 else s
  if bitOf v.toNat 1 then s.setNum (UE_CNT b) 0 else s

def execMemCntClr (m : ArrayNo) (value : Word) (s : State) : Host.Outcome State Fault Refusal :=
  .next (s.access (addrDie (memUnit m)) (memCntClr m value))

end Sys2Proof.Machine
end

