-- ==== Sys2Proof/Machine/Fatal.lean ====
section
/-!
DEFINITION. Fatal faults (file 16, R496-R498, R551) and the seal (file 15, R484).
-/

namespace Sys2Proof.Machine

/-- FATAL_CMD_WRITE (R496): the key word. -/
def fatalCmd (v : Word) (s : State) : State := if v = 0x0E59FA7A then s.fatalCause .command else s

def execFatalCmdWrite (value : Word) (s : State) : Host.Outcome State Fault Refusal := .next (s.access 5 (fatalCmd value))

/-- The register a Fatal cause names (R551): its address, none for FATAL_CMD, and BIT. -/
def FatalCause.place : FatalCause → Option Nat × Nat
  | .crystal => (some CLOCK_STAT, 6)
  | .link => (some (LINK_ERR (linkBase 9)), 1)
  | .tagCopies => (some (MEM_ERR hubSCACHE), 1)
  | .tagTable => (some TAG_ERR, 5)
  | .cores c => (some (CORE_FAULT (coreBase c)), 5)
  | .command => (none, 0)

/-- INST of a Fatal record. -/
def FatalCause.inst : FatalCause → Nat
  | .cores c => c
  | _ => noInst

/-- DETAIL of a Fatal record (R551): the failing address of the shared cache, the entry index of a table, which is open here, and 0 otherwise. -/
def State.fatalDetail (s : State) : FatalCause → Nat
  | .tagCopies => s.num (UE_ADDR_LO hubSCACHE)
  | .tagTable => Config.freeNat 68 (s.num64 RECNO_LO RECNO_HI) % 2 ^ 32
  | _ => 0

/-- The Fatal record, and PART_FIRST (R497, R551). -/
def State.fatalRecord (s : State) (c : FatalCause) : State :=
  let b := c.place.2
  match c.place.1 with
  | some a =>
    (s.partFirst true (addrDie a) (addrUnit a) b (addrOff a)).log (faultRecord a (s.rd a) b sevFatal clsFatal c.inst (s.fatalDetail c))
  | none =>
    (s.partFirst true 5 8 b 0xFFFF).log
      { optime := 0, pcycle := 0, tstamp := 0, sev := sevFatal, cls := clsFatal, source := 5 * 32 + 8, offset := 0xFFFF, bit := b,
        inst := noInst, recno := 0, value := 0, detail := 0 }

/-- LOOP UNLOAD on every loaded actuator (R484, R497); one the hold loop drives is retracted. -/
def State.unloadAll (s : State) : State :=
  (List.range 4).foldl (fun s n =>
    if s.unloaded n ∨ s.mode n = mUnloading then s else if s.mode n = mHold then s.retractLane n else s.startUnload n) s

/-- Every controller reports CSTS.CFS, and the front end fetches and posts no more (R497). -/
def State.hostFatal (s : State) : State :=
  let s := s.modHost (fun h => { h with stopped := true, ctrls := h.ctrls.map (fun k => { k with cfs := true }) })
  s.noteBit nvmeErr 0

/-- FATAL_SEQUENCE (R496-R498): the oldest Fatal cause begins the sequence; a cause that arises during one begins no second. -/
def fatalSequence (s : State) : State :=
  match s.fatal with
  | [] => s
  | c :: rest =>
    let s := { s with fatal := rest }
    if s.alog.fatalAt.isSome then s
    else
      let prot := decide (s.cacheMode = 0) && decide (s.dumpState = dsArmed)
      let s := ((s.hostFatal.alogUnfreeze.fatalRecord c).raise 482).unloadAll
      let s := s.modLog (fun l => { l with fatalAt := some s.mtime, fatals := l.fatals + 1, retracted := false, dumped := !prot })
      if prot ∧ s.dmp.run.isNone then { s with dmp := ⟨some 3, false⟩ } else s

def execFatalSequence (s : State) : Host.Outcome State Fault Refusal := .next (fatalSequence s)

/-- FATAL_RETRACT_TIMEOUT (R484, R497): 1 s after the cause, CLASPV retracts any lane still loaded. -/
def fatalRetractTimeout (s : State) : State :=
  if s.passed s.alog.fatalAt 1000000 ∨ (s.isSealed ∧ s.bootDue.isSome) then
    let s := (List.range 4).foldl (fun s n => if s.unloaded n then s else s.retractLane n) s
    s.modLog (fun l => { l with retracted := true })
  else s

def execFatalRetractTimeout (s : State) : Host.Outcome State Fault Refusal := .next (fatalRetractTimeout s)

/-- FATAL_FULL_BOOT (R497): heads unloaded or retracted and the dump done, the log is copied, SPIN coasts, the beat stops, and the full
boot is due. After a failed HUB-KPR link the KPR's own rows do this. -/
def fatalFullBoot (s : State) : State :=
  if s.alog.fatalAt.isSome ∧ (s.alog.retracted ∨ s.allUnloaded) ∧ s.alog.dumped ∧ s.dmp.run.isNone ∧ s.kprLinkFailed = false ∧
    s.bootDue.isNone then
    let s := if s.spinState = spStopped ∨ s.spinState = spFailed then s else s.setSpin spCoast
    s.alogCopy.stopBeat.bootCaused 5
  else s

def execFatalFullBoot (s : State) : Host.Outcome State Fault Refusal := .next (fatalFullBoot s)

/-- KPR_LINK_FAIL_TIMER (R497): 1 s after the KPR found the link Failed it stops the beat; 2 s after, it starts the full boot. -/
def kprLinkFailTimer (second : Bool) (s : State) : State :=
  if s.kprLinkFailed ∧ s.passed s.alog.fatalAt (if second then 2000000 else 1000000) then
    (if second then s.bootCaused 5 else s.stopBeat)
  else s

def execKprLinkFailTimer (second : Bool) (s : State) : Host.Outcome State Fault Refusal := .next (kprLinkFailTimer second s)

/-- The part seals itself (R484): a Fatal record names the die and the image's kind, SEALED is written, the heads are unloaded, the spindle
is stopped, and a full boot with CAUSE 5 is due. -/
def State.sealPart (s : State) (die kind : Nat) : State :=
  let s := (s.put UPD_STAT_STATE 3).put UPD_STAT_RESULT 5
  let s := s.log (faultRecord UPD_STAT (s.rd UPD_STAT) 12 sevFatal clsFatal die kind)
  let s := (s.nvsWrite 0x18014 (toLe 1 1)).unloadAll
  (spinWrite 2 s).bootCaused 5

end Sys2Proof.Machine
end

