-- ==== Sys2Proof/Machine/Power.lean ====
section
/-!
DEFINITION. The power ladder, supplies and thermal levels (file 17, R507-R528): entries and exits of the rungs, wakes, supplies gained and lost, and the conversions of the eight diodes.
-/

namespace Sys2Proof.Machine

/-! ### Requests (R510, R511) -/

/-- The DETECT and WRITE descriptor rings of channel die n are empty. -/
def State.ringsEmpty (s : State) (n : Nat) : Bool :=
  decide (ringUsed (ringLen (s.get (DQ_CFG_LEN n))) (s.num (DQ_HEAD n)) (s.num (DQ_TAIL n)) = 0) &&
    decide (ringUsed (ringLen (s.get (WQ_CFG_LEN n))) (s.num (WQ_HEAD n)) (s.num (WQ_TAIL n)) = 0)

/-- The rings of every enabled die are empty and no recovery runs. -/
def State.dataIdle (s : State) : Bool :=
  (List.range 4).all (fun n => !(s.chOn n) || (s.ringsEmpty n && !(s.flag (RCV_STAT_BUSY n))))

/-- Every tag is Completed (R338): TAG_CNT0 and TAG_CNT1 read zero. -/
def State.noTags (s : State) : Bool := [TagSt.fetched, .dispatched, .media, .completing].all (fun st => decide (s.tagsIn st = 0))

/-- The LADDER_ERR bits of the preconditions of a target rung that fail (R511). `l12`: every trained port is in L1.2. -/
def State.ladderFails (s : State) (t : Nat) (l12 : Bool) : List Nat :=
  (if 1 ≤ t ∧ !(s.noTags && s.dataIdle) then [0] else []) ++
  (if 2 ≤ t ∧ !((List.range 4).all (fun n => !(s.chOn n) || decide (s.mode n = mParked) || decide (s.mode n = mRetracted))) then [1] else []) ++
  (if 3 ≤ t ∧ s.spinState ≠ spStopped then [2] else []) ++
  (if 3 ≤ t ∧ !(s.host.wrts.isEmpty && decide (s.num MJ_HEAD = s.num MJ_TAIL)) then [3] else []) ++
  (if 3 ≤ t ∧ !l12 then [4] else [])

/-- A request for a rung (R510, R511): the smallest of it, MAX_RUNG and the host limit. A rung above the one in force is entered from
rung 0, after an exit. -/
def ladderRequest (r : Nat) (l12 : Bool) (s : State) : State :=
  let t := min r s.rungLimit
  let cur := s.get LADDER_STAT_RUNG
  if t = cur then s
  else if t < cur then
    let s := s.startExit
    if t = 0 then s else s.modLad (fun l => { l with queued := some (t + 8 * ofBool l12) })
  else
    match s.ladderFails t l12 with
    | [] => ((s.put LADDER_STAT_MOVING 1).put LADDER_STAT_TARGET t).modLad (fun l => { l with entry := true, abort := false })
    | bs => bs.foldl (fun s b => s.noteBit ladderErr b) s

/-- LADDER_CMD_WRITE (R510, R516): 5 to 7 act as 4; during a sequence the command waits for its end. -/
def ladderCmd (v : Word) (l12 : Bool) (s : State) : State :=
  let r := min 4 (v.toNat % 8)
  if s.flag LADDER_STAT_MOVING then s.modLad (fun l => { l with queued := some (r + 8 * ofBool l12) }) else ladderRequest r l12 s

def execLadderCmdWrite (value : Word) (l12 : Bool) (s : State) : Host.Outcome State Fault Refusal := .next (s.access 5 (ladderCmd value l12))

/-- MAX_RUNG_WRITE (R78, R510): a value above the POWER record's takes that value. -/
def maxRungWrite (v : Word) (s : State) : State := (s.put MAX_RUNG_RUNG (min (v.toNat % 8) (s.imgNat Image.maxRung))).limitChanged

def execMaxRungWrite (value : Word) (s : State) : Host.Outcome State Fault Refusal := .next (s.access 5 (maxRungWrite value))

/-- A sequence has ended (R516): event 450, and a command that waited takes effect. -/
def State.ladderEnd (s : State) : State :=
  let q := s.lad.queued
  let s := (((s.put LADDER_STAT_MOVING 0).put LADDER_STAT_TARGET (s.get LADDER_STAT_RUNG)).modLad (fun l =>
    { l with queued := none, entry := false, abort := false })).raise 450
  match q with
  | some c => ladderRequest (c % 8) (decide (8 ≤ c)) s
  | none => s

/-! ### Entries (R512, R513, R516) -/

/-- The state a domain takes at a rung that is entered: those a log copy under way needs stay On (R513). -/
def State.enteredState (s : State) (d r : Nat) : PdState :=
  if s.alog.copy.isSome && copyDomains.contains d then .on else s.domainState d r

/-- The domains take a rung's states, in descending index order (R512). A port that goes Off keeps what it trained to: the link stays in L1.2
(R529). -/
def State.descend (s : State) (r : Nat) : State :=
  let ports := (List.range 2).map (fun p => s.rd (PORT_STAT p))
  let s := ((List.range 84).foldl (fun s k => s.setDomain (83 - k) (s.enteredState (83 - k) r)) s).showDomains.dramMode
  ports.zipIdx.foldl (fun s p => s.wr (PORT_STAT p.2) p.1) s

/-- The Sleep digest (R512): the accepted slot and SI_DIGEST, in the Keeper words. -/
def State.sleepDigest (s : State) : State :=
  s.nvsWrite 0x18020 (toLe 4 (s.get SI_STAT_SLOT) ++ ((List.range 12).map (fun k => toLe 4 (s.num (SI_DIGEST k)))).flatten)

/-- The actions of the step to rung r (R512). -/
def State.entryActions (s : State) (r : Nat) : State :=
  if r = 2 then s.cleanInvalAll
  else if r = 3 then (if s.imgBool Image.plpEnable then s.emptyDump else s)
  else if r = 4 then s.sleepDigest
  else s

/-- RUNG_ENTRY_STEP (R512, R513, R516): one step of an entry. The final step of a descent saves the operating time and copies the log
before its domains change. A wake ends the entry at the step boundary, and the exit begins. -/
def rungEntryStep (s : State) : State :=
  if (s.flag LADDER_STAT_MOVING && s.lad.entry) = false then s
  else if s.lad.abort then
    if s.get LADDER_STAT_RUNG = 0 then s.ladderEnd
    else (s.put LADDER_STAT_TARGET 0).modLad (fun l => { l with entry := false, abort := false })
  else
    let r := s.get LADDER_STAT_RUNG + 1
    let last := decide (s.get LADDER_STAT_TARGET ≤ r)
    let s := s.entryActions r
    let s := if last ∧ 2 ≤ r then s.saveOptime.alogCopy else s
    let s := (s.descend r).put LADDER_STAT_RUNG r
    if last then (s.put LADDER_STAT_WAKE_SRC 0).ladderEnd else s

def execRungEntryStep (s : State) : Host.Outcome State Fault Refusal := .next (rungEntryStep s)

/-! ### Wakes (R514) -/

/-- The rungs a wake ends. -/
def wakeRungs (source rung : Nat) : Bool := if source = 2 then decide (1 ≤ rung) && decide (rung ≤ 2) else decide (1 ≤ rung)

/-- WAKE (R514, R516): an enabled wake starts the exit; one during an entry ends it at its next step boundary. -/
def wakeUp (source : Nat) (s : State) : State :=
  if bitOf (s.get WAKE_EN_EN) source = false then s
  else
    let entering := s.flag LADDER_STAT_MOVING && s.lad.entry
    if entering || wakeRungs source (s.get LADDER_STAT_RUNG) then
      (s.put LADDER_STAT_WAKE_SRC (setBitN (s.get LADDER_STAT_WAKE_SRC) source)).startExit
    else s

def execRungWake (source : Fin 6) (s : State) : Host.Outcome State Fault Refusal := .next (wakeUp source s)

/-! ### Exits (R438, R508, R515, R517) -/

/-- A domain that powers up restores its calibration selections, and does not calibrate (R508). -/
def State.calRestore (s : State) (was : Vector PdState 84) : State :=
  let up := fun d => decide (atD was d .off = .off) && decide (atD s.lad.pd d .off ≠ .off)
  let s := if up 21 then s.calUp 0 else s
  (List.range 4).foldl (fun s n =>
    let s := if up (28 + 11 * n) then s.calUp (n + 1) else s
    let s := if up (29 + 11 * n) then s.calUp (10 + n) else s
    let s := if up (32 + 11 * n) then s.calUp (14 + n) else s
    if up (33 + 11 * n) then s.calUp (6 + n) else s) s

/-- Every domain takes its rung 0 state (R515); DRAM that leaves deep power-down clears the valid bitmap (R376). -/
def State.ascend (s : State) : State :=
  let was := s.lad.pd
  let s := s.modLad (fun l => { l with pd := Vector.ofFn (fun d : Fin 84 =>
    s.domainState d.val 0) })
  let s := if (List.range 4).any (fun k => decide (atD was (80 + k) .off = .off)) then { s with valid := [] } else s
  (s.calRestore was).showDomains.dramMode

/-- Entries of the current record's log that name a loaded image of a kind (R455): SOURCE and DIGEST. -/
def State.loggedImages (s : State) (kind : Nat) : List (Nat × List Byte) :=
  (s.sig.entries.filter (fun e => decide (fieldLe e 1 1 = kind) && !(bitOf (fieldLe e 3 1) 0))).map (fun e => (fieldLe e 13 1, slice e 16 48))

/-- An image named in the log, from the same partition and half, whose header and body still have their digests (R438). -/
def State.reloaded (s : State) (kind : Nat) (e : Nat × List Byte) : Option Img :=
  ((s.halfBytes (e.1 % 8) (decide (128 ≤ e.1))).bind (imageIn kind)).bind (fun i =>
    if i.digest = e.2 ∧ slice (Config.sha384 i.body) 0 48 = slice i.hdr 0x40 48 then some i else none)

/-- Reload the HUB firmware (R515): false for a mismatch. -/
def State.reloadHub (s : State) : Bool × State :=
  (s.loggedImages 8).foldl (fun r e =>
    if r.1 then
      match r.2.reloaded kdHub e with
      | some i => (true, r.2.loadHub (e.1 % 8) i)
      | none => (false, r.2)
    else r) (true, s)

/-- Reload the CH patch, the CH firmware and the microcode after rung 4 (R438). -/
def State.reloadCh (s : State) : Bool × State :=
  let live := (List.range 4).filter (fun n => s.chOn n && decide (atD s.lad.pd (28 + 11 * n) .off ≠ .off))
  let r : Bool × State := (s.loggedImages 7).foldl (fun r e =>
    match (r.2.patchBytes (e.1 % 8)).bind (imageIn kdChPatch) with
    | some i => if r.1 ∧ i.digest = e.2 ∧ slice (Config.sha384 i.body) 0 48 = slice i.hdr 0x40 48 then
        (true, live.foldl (fun s n => s.patchDie s.patchWords n) r.2) else (false, r.2)
    | none => (false, r.2)) (true, s)
  let load := fun (kind ek : Nat) (put : State → Nat → Img → State) (r : Bool × State) =>
    (s.loggedImages ek).foldl (fun (r : Bool × State) e =>
      if r.1 then
        match r.2.reloaded kind e with
        | some i => (true, (live.filter (fun n => decide (s.chPart n = e.1 % 8))).foldl (fun s n => put s n i) r.2)
        | none => (false, r.2)
      else r) r
  load kdMicro 10 (fun s n i => s.loadMicro n i) (load kdCh 9 (fun s n i => s.loadCh n i) r)

/-- The structure-image step of a Sleep resume (R73, R438): the header of the accepted slot has the digest the KPR holds. -/
def State.sleepHolds (s : State) : Bool :=
  decide (slice (Config.sha384 (slice (s.siSlot (s.nvsNat 0x18020 4 % 2)) 0 512)) 0 48 = s.nvsBytes 0x18024 48)

/-- SI_STAT, SI_VERSION, SI_ROLLBACK and SI_DIGEST after an exit that powers the HUB's DIE unit up (R73): the image in force is unchanged. That
SI_STAT's REFUSE codes, FALLBACK and ADVANCED read 0 after it is the model's choice (notes/assumptions/48.md). -/
def State.showImage (s : State) (i : Image) : State :=
  let s := ((s.put SI_STAT_ACCEPTED 1).put SI_STAT_SLOT (s.nvsNat 0x18020 4 % 2)).setNum SI_VERSION i.version
  let s := (s.put SI_ROLLBACK_IMAGE (i.rollback % 128)).put SI_ROLLBACK_OTP (s.otpCount otpSi)
  s.putWords (SI_DIGEST 0) (wordsOf 12 (s.nvsBytes 0x18024 48))

/-- What an exit gives back to the units whose domains were Off: the image's reset values (R15, R508), the status of the image in force (R73),
the flash's mode (R443), the values derived from the SPINDLE record (R85), and the links, which come up again. -/
def State.resumeUnits (s : State) (was : Vector PdState 84) : State :=
  match s.img with
  | none => s
  | some i =>
    let off := fun d => decide (atD was d .off = .off) && decide (atD s.lad.pd d .off ≠ .off)
    let s := s.imageUnits i off
    let s := if off 21 then s.showImage i else s
    let s := if off 19 then (s.put XS_STAT_MODE (1 - i.flashMode)).put XS_STAT_CLK i.flashClk else s
    let s := if off 74 then s.deriveSpin else s
    let s := if off 22 then s.linkBoth 4 2 (fullLanes 4) else s
    (List.range 4).foldl (fun s n => if off (28 + 11 * n) then s.linkBoth n 2 (fullLanes n) else s) s

/-- The lanes and preamps are armed again (R515 step 2). -/
def State.rearmAll (s : State) : State :=
  let s := s.claspUrgent ⟨clArm, s.imgNat Image.chMask, 0, 0, false⟩
  (List.range 4).foldl (fun s n => if s.chOn n ∧ atD s.lad.pd (28 + 11 * n) .off ≠ .off then s.armPreamp n else s) s

/-- Every core that has firmware starts at its WARM entry with MBOOTCAUSE 0 (R515): the BOOT H-core and each BOOT C-core start, and cores
that drive firmware had started start with them. -/
def State.coresStart (s : State) (running : List Nat) : State :=
  running.foldl (fun s c => if s.dieOn (coreDie c) then s.startCore c 0 else s) s

/-- Cores to start after an exit: those with a nonzero ROLE on a die that is up. -/
def State.rolesUp (s : State) : List Nat :=
  (List.range 16).filter (fun c => decide (s.roleOf c ≠ 0) && decide (s.coreState c ≠ csFailed) &&
    (decide (c < 8) || decide (atD s.lad.pd (28 + 11 * ((c - 8) / 2)) .off ≠ .off)))

/-- The further actions of an exit from rung 3 or 4 (R515). A mismatch abandons the resume, and a full boot with cause 3 is due (R438). -/
def State.resume (s : State) (rung : Nat) : State :=
  let s := s.lmsStart
  let ok := rung = 3 || s.sleepHolds
  let s := s.put SC_CTL_EN 1
  let r := if ok then s.reloadHub else (false, s)
  let r := if r.1 ∧ rung = 4 then r.2.reloadCh else r
  if r.1 then
    let s := r.2
    let s := (s.rolesUp.foldl (fun s c =>
      s.setWarm c (if c < 8 then hubFwAt (s.imgNat (fun i => i.roleImage c)) else 0x100000000)) s)
    let s := s.coresStart s.rolesUp
    let s := if rung = 4 then s.put BOOT_STAT_RESUMED 1 else s
    let s := (List.range 6).foldl (fun s d => if s.dieOn d ∧ d ≠ 5 ∧ (d = 0 ∨ atD s.lad.pd (28 + 11 * (d - 1)) .off ≠ .off) then s.put (DIE_STAT_STATE (unitBase d 0)) 2 else s) s
    s.rearmAll
  else r.2.bootCaused 3

/-- RUNG_EXIT (R508, R515-R517): every domain takes its rung 0 state, with the image's values in the units that were Off; after rung 3 or 4 the images are reloaded, and lanes and preamps are armed;
a power-loss warning that waited then runs its sequence. An exit needs the HUB's supplies. -/
def rungExit (s : State) : State :=
  let r := s.get LADDER_STAT_RUNG
  if (s.flag LADDER_STAT_MOVING && !s.lad.entry) = false ∨ s.hubHeld = false then s
  else
    let was := s.lad.pd
    let s := s.ascend.resumeUnits was
    let s := if 3 ≤ r then s.resume r else s
    let s := ((s.put LADDER_STAT_RUNG 0).put LADDER_STAT_FROM r)
    let warned := s.lad.warned
    let s := (s.modLad (fun l => { l with warned := false })).ladderEnd
    if warned then s.powerLoss else s

def execRungExit (s : State) : Host.Outcome State Fault Refusal := .next (rungExit s)

/-! ### Supplies (R519-R521) -/

/-- SUPPLY_GOOD (R519-R521): supplies 0 to 8 are bits of SUP_STAT, 9 to 12 VDD_CH0-3 and 13 to 16 VDDA_CH0-3; event 452. A channel die that
waited for it is brought up. -/
def supplyGood (k : Nat) (s : State) : State :=
  let s := if k < 9 then s.put SUP_STAT_GOOD (setBitN (s.get SUP_STAT_GOOD) k)
    else if k < 13 then s.put SUP_CH_VDD_GOOD (setBitN (s.get SUP_CH_VDD_GOOD) (k - 9))
    else s.put SUP_CH_VDDA_GOOD (setBitN (s.get SUP_CH_VDDA_GOOD) (k - 13))
  let s := s.showChSupplies.raise 452
  if 9 ≤ k then s.lateDie ((k - 9) % 4) else s

def execSupplyGood (supply : Fin 17) (s : State) : Host.Outcome State Fault Refusal := .next (supplyGood supply s)

/-- A HUB or MEM supply is lost (R521): the HUB and MEM dies are reset at once, no dump is made, and a full boot with the CAUSE in force is
due. -/
def State.hubSupplyLost (s : State) : State :=
  let cause := s.get BOOT_STAT_CAUSE
  let s := s.hubReset.put BOOT_STAT_ROM_SERVICES 0
  let s := s.modLad (fun l => { l with pd := Vector.ofFn (fun d : Fin 84 =>
    if d.val < 28 ∨ 80 ≤ d.val then PdState.off else atD l.pd d.val .off) })
  let s := ({ s with dmp := ⟨none, false⟩ } : State).showDomains
  if s.keeper then (s.put BOOT_STAT_STAGE 1).bootCaused cause else s

/-- Whether the HUB or the MEM dies need their supplies: some of their domains other than OTP, which is read in reset (R443), are powered. -/
def State.hubPowered (s : State) : Bool :=
  (List.range 84).any (fun d => (decide (d < 28) || decide (80 ≤ d)) && decide (d ≠ 23) && decide (atD s.lad.pd d .off ≠ .off))

/-- SUPPLY_LOST (R521): a supply goes bad; where its dies need it, the outcome of its row. -/
def supplyLost (k : Nat) (s : State) : State :=
  if k = 0 then (if s.supplyGood 0 then s.powerOn.put SUP_STAT_GOOD 0 else s)
  else if k < 9 then
    if s.supplyGood k = false then s
    else
      let s := (s.put SUP_STAT_GOOD (clrBitN (s.get SUP_STAT_GOOD) k)).raise 452
      if k = 8 then
        if s.spinState = spStopped ∨ s.spinState = spFailed then s
        else (s.faultBit supLost 8 sevFault clsCorrected noInst 0).setSpin spCoast
      else if s.hubPowered then (s.faultBit supLost k sevFault clsCorrected noInst 0).hubSupplyLost
      else s
  else
    let n := (k - 9) % 4
    let f := if k < 13 then SUP_CH_VDD_GOOD else SUP_CH_VDDA_GOOD
    if bitOf (s.get f) n = false then s
    else
      let s := ((s.put f (clrBitN (s.get f) n)).showChSupplies).raise 452
      if s.chOn n ∧ atD s.lad.pd (28 + 11 * n) .off ≠ .off then
        (s.faultBit supLost (if k < 13 then 9 else 10) sevFault clsCorrected n 0).chDown n
      else s

def execSupplyLost (supply : Fin 17) (s : State) : Host.Outcome State Fault Refusal := .next (supplyLost supply s)

/-! ### Temperature (R523-R527, R45) -/

/-- A die that takes action: a disabled channel die is only read and reported (R524). -/
def State.thermDie (s : State) (d : Nat) : Bool := s.img.isSome && !(decide (1 ≤ d) && decide (d ≤ 4) && !(s.chOn (d - 1)))

/-- The threshold of a level, °C. -/
def State.threshold (s : State) (d l : Nat) : Nat :=
  if l = 1 then s.get (THR_LIM_WARM d) else if l = 2 then s.get (THR_LIM_HOT d) else s.get (THR_LIM_CRIT d)

/-- The level of a reading (R524): the highest whose threshold it has reached, or one that it has not yet left. -/
def State.levelOf (s : State) (d cur : Nat) (t : Int) : Nat :=
  let reached := ([1, 2, 3].filter (fun l => decide ((s.threshold d l : Int) * 256 ≤ t))).foldl max 0
  let kept := ([1, 2, 3].filter (fun l => decide (l ≤ cur) &&
    decide (((s.threshold d l : Int) - s.get (THR_LIM_HYST d)) * 256 ≤ t))).foldl max 0
  max reached kept

/-- The action of a Critical level (R526). -/
def State.critical_ (s : State) (d : Nat) : State :=
  let s := s.faultBit thermFault d sevFault clsCorrected d 0
  if 1 ≤ d ∧ d ≤ 4 then
    let n := d - 1
    let s := { s with critOff := if s.critOff.contains n then s.critOff else s.critOff ++ [n] }
    let s := if s.chWait.contains n then { s with chWait := s.chWait.erase n } else s
    (s.chDown n).startExit
  else powerLossWarning 2 s

/-- A die's level changes (R524-R526): event 456; Hot is a Warn record and the temperature event, Critical its action. -/
def State.setLevel (s : State) (d l : Nat) : State :=
  let old := s.thermLevel d
  if l = old then s
  else
    let s := (s.wr THERM_LVL (insertBits (s.rd THERM_LVL) (2 * d + 1) (2 * d) l)).raise 456
    if s.thermDie d = false then s
    else
      let s := if old < 2 ∧ 2 ≤ l then (s.faultBit thermFault (8 + d) sevWarn clsCorrected d 0).aenAll aenTemperature else s
      if l = 3 then s.critical_ d else s

/-- A diode is broken (R45, R527): BROKEN, a Warn record, event 457; its die is treated as Hot, and the crystal's correction holds where the
diode is the KPR's. -/
def sensorBroken (d : Nat) (s : State) : State :=
  if s.flag (THERM_T_BROKEN d) then s
  else
    let s := s.put (THERM_T_BROKEN d) 1
    let s := if d = 5 then s.put CLOCK_STAT_COMP_HOLD 1 else s
    if s.thermDie d then (((s.faultBit thermFault (16 + d) sevWarn clsCorrected d 0).raise 457).setLevel d 2) else s

def execSensorBroken (die : Fin 8) (s : State) : Host.Outcome State Fault Refusal := .next (sensorBroken die s)

/-- One diode's conversion: the reading in S8.8 °C, and whether the converter reads a rail. -/
def convert (d : Nat) (t : Int) (rail : Bool) (s : State) : State :=
  let code := toBits 16 t
  let old := atD s.diode d (0, 0)
  let run := if old.1 = code then old.2 + 1 else 0
  let s := { s with diode := modAt s.diode d (fun _ => (code, run)) }
  let s := s.put (THERM_T_TEMP d) code
  if rail ∨ t < -55 * 256 ∨ 150 * 256 < t ∨ 4096 ≤ run then sensorBroken d s
  else
    let s := s.put (THERM_T_BROKEN d) 0
    let s := if d = 5 then s.put CLOCK_STAT_COMP_HOLD 0 else s
    if s.img.isSome then s.setLevel d (s.levelOf d (s.thermLevel d) t) else s

/-- THERMAL_CONVERSION (R523-R527): the eight diodes, in die order. -/
def thermalConversion (readings : List (Int × Bool)) (s : State) : State :=
  (readings.take 8).zipIdx.foldl (fun s r => convert r.2 r.1.1 r.1.2 s) s

def execThermalConversion (readings : List (Int × Bool)) (s : State) : Host.Outcome State Fault Refusal :=
  .next (thermalConversion readings s)

end Sys2Proof.Machine
end

