-- ==== Sys2Proof/Machine/Update.lean ====
section
/-!
DEFINITION. The update engine (file 15): downloads and commits, its four operations, activation without reset, self-tests, the seal and its end.
-/

namespace Sys2Proof.Machine

/-! ### Locations (R470, R471) -/

/-- Operations of UPD_CMD. -/
def upHdrchk : Nat := 1
def upWrite : Nat := 2
def upSelect : Nat := 3
def upActivate : Nat := 4

/-- RESULT of UPD_STAT. -/
def urOk : Nat := 0
def urRefused : Nat := 1
def urBusErr : Nat := 2
def urBadCmd : Nat := 3
def urFlash : Nat := 4
def urSealed : Nat := 5

/-- A location: in the NV store or in the flash, its address and its length. -/
structure Place where
  nvs : Bool
  start : Nat
  room : Nat
  deriving DecidableEq, Repr

/-- The half of firmware partition p that runs; in ROM services, where none runs, the selected one. -/
def State.runHalf (s : State) (p : Nat) : Bool := if s.flag BOOT_STAT_ROM_SERVICES then s.fwHalf p else bitOf (s.get UPD_SEL_FW_RUN) p

/-- A half of a firmware partition, as a location. -/
def State.halfPlace (s : State) (p : Nat) (upper : Bool) : Option Place := (s.halfAt p upper).map (fun h => ⟨false, h.1, h.2⟩)

/-- Patch partition k, as a location. -/
def State.patchPlace (s : State) (k : Nat) : Option Place :=
  match s.img with
  | none => none
  | some i => (i.partition 4 k).map (fun p => ⟨false, partOffset p, partLength p⟩)

/-- The location of a target that is neither running nor selected (R471); that of the structure image is the non-accepted slot (R74). -/
def State.writable (s : State) (t : Nat) : Option Place :=
  if t = 0 then some ⟨false, slotOffset (1 - s.get SI_STAT_SLOT), 0x40000⟩
  else if t = 1 then
    if s.kprSel = s.get BOOT_STAT_KFW_COPY then some ⟨true, 0xC000 * (1 - s.kprSel), 0xC000⟩ else none
  else if t = 2 then
    if s.patchSel = s.upd.patchRun ∧ (s.patchPlace s.patchSel).isSome then s.patchPlace (1 - s.patchSel) else none
  else if s.fwHalf (t - 8) = s.runHalf (t - 8) then s.halfPlace (t - 8) (!(s.fwHalf (t - 8)))
  else none

/-- The bytes of a location. -/
def State.placeBytes (s : State) (p : Place) : List Byte := if p.nvs then s.nvsBytes p.start p.room else s.flashBytes p.start p.room

/-- Erase a location and program it. -/
def State.fillPlace (s : State) (p : Place) (bs : List Byte) : State :=
  if p.nvs then s.nvsWrite p.start (slice bs 0 p.room) else (s.flashErase p.start p.room).flashWrite p.start bs

/-- The first refusal of a set for a target (R469, R472, R80). -/
def State.targetCheck (s : State) (t room : Nat) (bs : List Byte) : Option Nat :=
  if t = 0 then
    if room < bs.length then some 0x04
    else match s.siCheck bs with
      | .inl _ => none
      | .inr c => some c
  else s.setCheck t room bs

/-! ### Ends of operations and of commits (R476) -/

/-- A Firmware Commit that waits for the engine completes. A tag that a reset has freed completes nothing (R482). -/
def State.commitEnd (s : State) (status : Nat) : State :=
  match s.upd.commit with
  | none => s
  | some (t, _) =>
    let s := s.modUpd (fun u => { u with commit := none })
    match s.tag t with
    | some x => if x.sqid = 0 ∧ x.op = 0x10 ∧ s.inService x then (if status = stOk then s.okTag t x else s.failTag t x status) else s
    | none => s

/-- An operation ends with RESULT and CODE. -/
def State.updDone (s : State) (result code : Nat) : State :=
  let s := (((s.put UPD_STAT_BUSY 0).put UPD_STAT_DONE 1).put UPD_STAT_RESULT result).put UPD_STAT_CODE code
  s.modUpd (fun u => { u with job := none })

/-- The status of a Commit whose operation failed. -/
def commitStatus (result : Nat) : Nat := if result = urRefused then nvStatus 1 0x07 0 else nvStatus 0 0x06 0

/-- An operation fails, and with it the Commit that waits. -/
def State.updFail (s : State) (result code : Nat) : State := (s.updDone result code).commitEnd (commitStatus result)

/-! ### Trial marks (R483) -/

/-- Trial marks are bytes of the Keeper words: bit d of byte i is the image of partition i on die d, bit 5 of byte 0 the Keeper's. -/
def trialAt (p : Nat) : Nat := 0x18018 + p
def State.trial (s : State) (p d : Nat) : Bool := bitOf (s.nvsNat (trialAt p) 1) d
def State.setTrial (s : State) (p v : Nat) : State := s.nvsWrite (trialAt p) (toLe 1 v)

/-- The dies whose cores run partition p and whose image a set holds. -/
def State.trialDies (s : State) (p : Nat) (is : List Img) : Nat :=
  ofBool (s.hubParts.contains p && is.any (fun i => decide (i.kind = kdHub))) +
    ((List.range 4).filter (fun n => s.chOn n && decide (s.chPart n = p) && is.any (fun i => decide (i.kind = kdCh)))).foldl
      (fun w n => w + 2 ^ (n + 1)) 0

/-- The selected location of a target changes: the images of the new one are on trial. -/
def State.markTrial (s : State) (t : Nat) (is : List Img) : State :=
  let k := s.nvsNat (trialAt 0) 1
  if t = 1 then s.setTrial 0 (setBitN k 5)
  else if 8 ≤ t then s.setTrial (t - 8) (s.trialDies (t - 8) is + (if t = 8 ∧ bitOf k 5 then 32 else 0))
  else s

/-- A die's image on trial that runs: its partition and kind. -/
def State.onTrial (s : State) (d : Nat) : Option Nat :=
  if d = 5 then (if s.trial 0 5 && decide (s.kprSel = s.get BOOT_STAT_KFW_COPY) then some 0 else none)
  else (List.range 8).find? (fun p => s.trial p d && (d ≠ 5) && decide (s.fwHalf p = s.runHalf p))

/-- A die reports PASS: its running images are on trial no longer. -/
def State.passTrial (s : State) (d : Nat) : State :=
  if d = 5 then (match s.onTrial 5 with | some p => s.setTrial p (clrBitN (s.nvsNat (trialAt p) 1) 5) | none => s)
  else (List.range 8).foldl (fun s p =>
    if s.trial p d && decide (s.fwHalf p = s.runHalf p) then s.setTrial p (clrBitN (s.nvsNat (trialAt p) 1) d) else s) s

/-- The kind of image a die runs. -/
def dieImage (d : Nat) : Nat := if d = 0 then kdHub else if d = 5 then kdKeeper else kdCh

/-! ### SELECT (R476) -/

/-- FW_HALF with bit p set to a half. -/
def State.halvesWith (s : State) (p : Nat) (upper : Bool) : Nat := if upper then setBitN s.fwHalves p else clrBitN s.fwHalves p

/-- Make the writable location of a target the selected one. -/
def State.selectNow (s : State) (t : Nat) : State :=
  let s := if t = 1 then s.nvsWrite 0x18000 (toLe 4 (1 - s.kprSel))
    else if t = 2 then s.writeDir (1 - s.patchSel) s.fwHalves
    else s.writeDir s.patchSel (s.halvesWith (t - 8) (!(s.fwHalf (t - 8))))
  s.showSel

/-! ### Peers (R477) -/

/-- An image with the die it runs on; 0 for kinds 1 to 4. -/
abbrev OnDie := Img × Nat

/-- X accepts Y's interface generation, or does not check its kind. -/
def Img.accepts (x y : Img) : Bool := !(bitOf x.peerMask y.kind) || (decide (x.peerMin ≤ y.ifGen) && decide (y.ifGen ≤ x.peerMax))

/-- Whether two images may run together: kinds 5 and 6 have no peers on another channel die. -/
def peersOk (a b : OnDie) : Bool :=
  (decide (a.2 ≠ 0) && decide (b.2 ≠ 0) && decide (a.2 ≠ b.2)) || (a.1.accepts b.1 && b.1.accepts a.1)

/-- An image of a location. -/
def State.imgIn (s : State) (kind : Nat) (p : Option Place) : Option Img := p.bind (fun p => imageIn kind (s.placeBytes p))

/-- The images that run when the dies of `ds` have stepped in an activation of the half of partition `part` that does not run. -/
def State.imagesAfter (s : State) (part : Nat) (ds : List Nat) : List OnDie :=
  let half := fun p d => if p = part ∧ ds.contains d then !(s.runHalf p) else s.runHalf p
  let one := fun (x : Option Img) (d : Nat) => (x.map (fun i => (i, d))).toList
  let k := if ds.contains 5 then s.kprSel else s.get BOOT_STAT_KFW_COPY
  one (s.imgIn kdKeeper (some ⟨true, 0xC000 * k, 0xC000⟩)) 0 ++
    one (s.imgIn kdHubPatch (s.patchPlace s.upd.patchRun)) 0 ++ one (s.imgIn kdChPatch (s.patchPlace s.upd.patchRun)) 0 ++
    (s.hubParts.map (fun p => one (s.imgIn kdHub (s.halfPlace p (half p 0))) 0)).flatten ++
    (s.diesUp.map (fun n =>
      let p := s.chPart n
      let new := s.imgIn kdMicro (s.halfPlace p (half p (n + 1)))
      one (s.imgIn kdCh (s.halfPlace p (half p (n + 1)))) (n + 1) ++
        one (if new.isSome then new else s.imgIn kdMicro (s.halfPlace p (s.runHalf p))) (n + 1))).flatten

/-! ### Activation (R478-R481) -/

/-- The steps of an activation, in order: channel dies, the KPR, the HUB. -/
def State.actSteps (s : State) (part : Nat) (is : List Img) : List Nat :=
  ((s.diesUp.filter (fun n => decide (s.chPart n = part) && is.any (fun i => decide (i.kind = kdCh)))).map (fun n => n + 1)) ++
    (if s.kprSel ≠ s.get BOOT_STAT_KFW_COPY then [5] else []) ++
    (if s.hubParts.contains part ∧ is.any (fun i => decide (i.kind = kdHub)) then [0] else [])

/-- An image that an activation loads. -/
def State.actImg (s : State) (part kind : Nat) : Option Img :=
  if kind = kdKeeper then s.imgIn kind (some ⟨true, 0xC000 * s.kprSel, 0xC000⟩)
  else s.imgIn kind (s.halfPlace part (!(s.runHalf part)))

/-- SOURCE of its entry. -/
def State.actSource (s : State) (part kind : Nat) : Nat := if kind = kdKeeper then s.kprSel else halfSource part (!(s.runHalf part))

/-- An activated image is entered in slot 11, in VERSIONS and, with ADVANCE, in its counter. -/
def State.actExtend (s : State) (e : Nat × Option Img × Nat × Nat) : State :=
  match e.2.1 with
  | none => s
  | some i => s.extend 11 i.digest (entryBytes 11 12 e.2.2.1 (entryFlags false false i.encrypted) i.version i.rollback 0 e.2.2.2 i.digest)

def State.actVersion (s : State) (part : Nat) (e : Nat × Option Img × Nat × Nat) : State :=
  match e.2.1 with
  | none => s
  | some i =>
    let d := e.2.2.1
    if e.1 = kdMicro ∨ (e.1 = kdHub ∧ s.imgNat (fun m => m.roleImage s.bootH) ≠ part) then s
    else s.modSig (fun g => { g with versions := modAt g.versions d (fun _ => i.version) })

def State.actAdvance (s : State) (e : Nat × Option Img × Nat × Nat) : State :=
  match e.2.1 with
  | none => s
  | some i =>
    match kindRow i.kind with
    | some r => if bitOf i.flags 1 then s.raiseCounter r.counter i.rollback else s
    | none => s

/-- The last step has passed (R481): SELECT, slot 11, VERSIONS, a signing with REASON 1, the counters, and the end. -/
def State.actFinish (s : State) (a : Activation) : State :=
  let es := a.done.map (fun e => (e.1, s.actImg a.part e.1, e.2, s.actSource a.part e.1))
  let new := !(s.runHalf a.part)
  let s := if a.part < 8 then (s.writeDir s.patchSel (s.halvesWith a.part new)).setRun a.part new else s
  let s := es.foldl (fun s e => s.actExtend e) s
  let s := (es.foldl (fun s e => s.actVersion a.part e) s).modSig (fun g => { g with due := g.due ++ [1] })
  let s := es.foldl (fun s e => s.actAdvance e) s
  let s := (s.modUpd (fun u => { u with act := none })).put UPD_STAT_STATE 0
  ((s.updDone urOk 0).showSel).commitEnd stOk

/-- The KPR step (R479): the Keeper firmware is replaced; the motor context, the beat and every command go on. -/
def State.actKeeper (s : State) : State := (s.put BOOT_STAT_KFW_COPY s.kprSel).put BOOT_STAT_KFW_FALLBACK 0

/-- The next step begins, or the activation ends (R479, R480). -/
def State.actStep (s : State) : State :=
  match s.upd.act with
  | none => s
  | some a =>
    match a.dies with
    | [] => s.actFinish a
    | d :: _ =>
      let start := fun (s : State) (loaded : Bool) (kinds : List (Nat × Nat)) =>
        (s.put UPD_STAT_DIE d).modUpd (fun u => { u with act := some { a with loaded := loaded, began := s.mtime, started := s.mtime, done := a.done ++ kinds } })
      if d = 0 then ((start s false []).commitEnd stOk).aenAll aenActivation
      else if d = 5 then start s.actKeeper true [(kdKeeper, 5)]
      else (start (s.put UPD_STAT_HOLD 1) false []).raise 99

/-- A step has passed: HOLD is 0 and event 101. -/
def State.actPass (s : State) : State :=
  match s.upd.act with
  | none => s
  | some a => ((s.put UPD_STAT_HOLD 0).modUpd (fun u => { u with act := some { a with dies := a.dies.tail, loaded := false } })).raise 101 |>.actStep

/-- ACTIVATE of a partition, or of a Keeper copy alone (8): the half is checked, then the peers after every step, before any die is touched
(R477, R478). -/
def State.activate (s : State) (part : Nat) : State :=
  let place := if part < 8 then s.halfPlace part (!(s.runHalf part)) else none
  let is := match place with | some p => imagesOf (s.placeBytes p) | none => []
  let bad := if part < 8 then
      (match place with | some p => s.targetCheck 8 p.room (s.placeBytes p) | none => some 0x04) else none
  match bad with
  | some c => s.updFail urRefused c
  | none =>
    let ds := s.actSteps part is
    if (List.range ds.length).all (fun k => pairsOk peersOk (s.imagesAfter part (ds.take (k + 1)))) then
      ((s.put UPD_STAT_STATE 2).modUpd (fun u => { u with act := some ⟨part, ds, false, s.mtime, s.mtime, []⟩ })).actStep
    else s.updFail urRefused 0x0D

/-- A channel die is quiet (R479): its sequencer waits at WAIT_TICK with an empty action queue, and its rings are empty. -/
def State.dieQuiet (s : State) (n : Nat) : Bool :=
  decide ((s.lmuOf n).st = .waitTick) && (s.lmuOf n).queue.isEmpty && s.ringsEmpty n

/-- CH_STEP_DRAIN (R479): the die is quiet, or 50 ms have passed: LM_CTL.STOP, both C-cores held in reset, firmware and microcode copied,
and the BOOT C-core starts. -/
def chStepDrain (s : State) : State :=
  match s.upd.act with
  | none => s
  | some a =>
    match a.dies with
    | d :: _ =>
      if a.loaded ∨ d = 0 ∨ 5 ≤ d ∨ s.isSealed ∨ s.xsRuns ∨ !(s.dieQuiet (d - 1) || s.passed (some a.began) 50000) then s
      else
        let n := d - 1
        let v := s.sig.versions
        let s := lmStop n s
        let s := [8 + 2 * n, 9 + 2 * n].foldl (fun s c => (s.dropCore c).setCoreState c csReset) s
        let s := match s.actImg a.part kdCh with | some i => s.loadCh n i | none => s
        let m := s.actImg a.part kdMicro
        let s := match m with | some i => s.loadMicro n i | none => s
        let s := (s.modSig (fun g => { g with versions := v })).startCore (s.bootC n) 0
        s.modUpd (fun u => { u with act := some { a with loaded := true, started := s.mtime,
                                                         done := a.done ++ [(kdCh, d)] ++ (if m.isSome then [(kdMicro, d)] else []) } })
    | [] => s

def execChStepDrain (s : State) : Host.Outcome State Fault Refusal := .next (chStepDrain s)

/-- HUB_STEP (R480): every tag is Completed: the H-cores with nonzero ROLE are held in reset and reloaded, the new half in place of
its partition's, and the BOOT H-core starts. -/
def hubStep (s : State) : State :=
  match s.upd.act with
  | none => s
  | some a =>
    if a.dies.head? = some 0 ∧ a.loaded = false ∧ s.noTags = true ∧ s.isSealed = false ∧ s.xsRuns = false then
      let v := s.sig.versions
      let s := ((List.range 8).filter (fun c => decide (s.roleOf c ≠ 0))).foldl (fun s c =>
        (s.dropCore c).setCoreState c csReset) s
      let s := s.hubParts.foldl (fun s p =>
        match (if p = a.part then s.actImg p kdHub else s.imgIn kdHub (s.halfPlace p (s.fwHalf p))) with
        | some i => s.loadHub p i
        | none => s) s
      let s := (s.modSig (fun g => { g with versions := v })).startCore s.bootH 0
      s.modUpd (fun u => { u with act := some { a with loaded := true, started := s.mtime, done := a.done ++ [(kdHub, 0)] } })
    else s

def execHubStep (s : State) : Host.Outcome State Fault Refusal := .next (hubStep s)

/-! ### The operations (R473, R475, R476, R478) -/

/-- The data of an operation: what is staged, for a Commit, else LEN bytes at UPD_SRC. -/
def State.updData (s : State) (len : Nat) : Option (List Byte) × State :=
  match s.upd.commit, s.staged with
  | some _, some (_, bs) => (some bs, s)
  | _, _ => s.physRead 13 (s.num UPD_SRC_LO + 2 ^ 32 * (s.num UPD_SRC_HI % 256)) len

/-- Checks 1 to 6 of R80 on the first 512 bytes (R473). -/
def State.siHdrCheck (s : State) (h : List Byte) : Option Nat :=
  match s.siCheck h with
  | .inl _ => none
  | .inr c => if c ≤ 6 then some c else none

/-- The bytes that a location of a target has (R469); 0 where the part has none. -/
def State.targetRoom (s : State) (t : Nat) : Nat :=
  let p := if t = 1 then some ⟨true, 0, 0xC000⟩
    else if t = 2 then (s.patchPlace (1 - s.patchSel)).or (s.patchPlace s.patchSel)
    else s.halfPlace (t - 8) false
  (p.map Place.room).getD 0

/-- Whether an image belongs to a target, of any firmware partition for 8 and above, and fits a location of `room` bytes (R468, R469). -/
def Img.fits (i : Img) (t room : Nat) : Bool :=
  (if t = 1 then decide (i.kind = kdKeeper) else if t = 2 then decide (i.kind = kdHubPatch) || decide (i.kind = kdChPatch) else decide (kdHub ≤ i.kind)) &&
    decide (0x3000 + i.bodyLen ≤ room)

/-- HDRCHK of 12 KiB for a target whose locations have `room` bytes (R473): code 04h comes before the codes of keys and signatures (R472). -/
def State.hdrchk (s : State) (t room : Nat) (b : List Byte) : Option Nat :=
  if t = 0 then s.siHdrCheck (slice b 0 512)
  else
    let i : Img := ⟨slice b 0 0x1000, slice (b.drop 0x1000) 0 0x2000, []⟩
    match s.hdrCheck i with
    | some c => some (if c ≤ 4 ∨ i.fits t room then c else 0x04)
    | none => if i.fits t room then none else some 0x04

/-- WRITE: the whole set is verified, then the location erased, programmed and read back. A flash failure leaves a part of the set, how
much of it the manual does not say. -/
def State.updWrite (s : State) (t : Nat) (flash : Bool) (bs : List Byte) : State :=
  match s.writable t with
  | none => s.updFail urRefused 0
  | some p =>
    match s.targetCheck t p.room bs with
    | some c => s.updFail urRefused c
    | none =>
      if flash then (s.fillPlace p bs).updDone urOk 0
      else
        let (k, s) := s.draw 48
        (s.fillPlace p (bs.take (k % (bs.length + 1) - 1))).updFail urFlash 0

/-- SELECT: the set in the writable location is verified again and becomes the selected one. -/
def State.updSelect (s : State) (t : Nat) (flash : Bool) : State :=
  match s.writable t with
  | none => s.updFail urRefused 0
  | some p =>
    match s.targetCheck t p.room (s.placeBytes p) with
    | some c => s.updFail urRefused c
    | none =>
      if flash then ((s.markTrial t (imagesOf (s.placeBytes p))).selectNow t).updDone urOk 0 else s.updFail urFlash 0

/-- A WRITE begins (R74, R475): a set that passes every check has its location erased before it is programmed, so that a reset or power loss
during the WRITE leaves a location that fails its checks. -/
def State.beginWrite (s : State) (t : Nat) : State :=
  match (s.updData (s.num UPD_LEN)).1, s.writable t with
  | some b, some p =>
    if (s.targetCheck t p.room b).isNone then
      (if p.nvs then s.nvsWrite p.start (List.replicate p.room 0) else s.flashErase p.start p.room)
    else s
  | _, _ => s

/-- The next operation of a Commit begins, or the Commit completes with success. -/
def State.commitNext (s : State) : State :=
  match s.upd.commit with
  | none => s
  | some (_, []) => ({ s with staged := none } : State).commitEnd stOk
  | some (t, (op, tg) :: rest) =>
    let s := (s.put UPD_STAT_BUSY 1).modUpd (fun u => { u with job := some (op, tg), commit := some (t, rest) })
    if op = upActivate then ({ s with staged := none } : State).activate (if 8 ≤ tg then tg - 8 else 8)
    else if op = upWrite then s.beginWrite tg else s

/-- UPD_OP_DONE: the operation under way ends; of a Commit the next one follows. ACTIVATE ends with its last step. `flash`: the flash has
not failed. A step that uses the flash waits for a core's command (R546). -/
def updOpDone (flash : Bool) (s : State) : State :=
  match s.upd.job with
  | none => s
  | some (op, t) =>
    if op ≠ upHdrchk ∧ s.xsRuns then s
    else if op = upHdrchk then
      match s.updData 0x3000 with
      | (none, s) => s.updFail urBusErr 0
      | (some b, s) => match s.hdrchk t (s.targetRoom t) b with
        | some c => s.updFail urRefused c
        | none => s.updDone urOk 0
    else if op = upWrite then
      match s.updData (s.num UPD_LEN) with
      | (none, s) => s.updFail urBusErr 0
      | (some b, s) =>
        let s := s.updWrite t flash b
        if s.get UPD_STAT_RESULT = urOk then s.commitNext else s
    else if op = upSelect then
      let s := s.updSelect t flash
      if s.get UPD_STAT_RESULT = urOk then s.commitNext else s
    else s

def execUpdOpDone (flash : Bool) (s : State) : Host.Outcome State Fault Refusal := .next (if s.dieOn 0 then (updOpDone flash s).xsRelease else s)

/-- The targets each OP accepts. -/
def updTarget (op t : Nat) : Bool :=
  decide (8 ≤ t) || (decide (op ≠ upActivate) && decide (t < 3) && !(decide (op = upSelect) && decide (t = 0)))

/-- A write of UPD_CMD starts an operation; one while BUSY is ignored and sets REJ; one in the Sealed state, or with an OP or TARGET the
table lacks, ends at once. -/
def updCmd (op t : Nat) (s : State) : State :=
  if s.flag UPD_STAT_BUSY then s.put UPD_STAT_REJ 1
  else if op = 0 ∨ 4 < op ∨ updTarget op t = false then s.updDone urBadCmd 0
  else if s.get UPD_STAT_STATE = 3 then s.updDone urSealed 0
  else
    let s := (s.put UPD_STAT_BUSY 1).modUpd (fun u => { u with job := some (op, t) })
    if op = upActivate then s.activate (t - 8) else if op = upWrite then s.beginWrite t else s

def execUpdHdrchk (target : Fin 16) (s : State) : Host.Outcome State Fault Refusal := .next (s.access 0 (updCmd upHdrchk target))
def execUpdWrite (target : Fin 16) (s : State) : Host.Outcome State Fault Refusal := .next (s.access 0 (updCmd upWrite target))
def execUpdSelect (target : Fin 16) (s : State) : Host.Outcome State Fault Refusal := .next (s.access 0 (updCmd upSelect target))
def execUpdActivate (target : Fin 16) (s : State) : Host.Outcome State Fault Refusal := .next (s.access 0 (updCmd upActivate target))

/-! ### Self-tests and the seal (R483-R485) -/

/-- The die whose loaded image's verdict an activation awaits. -/
def State.awaits (s : State) : Option Nat :=
  match s.upd.act with
  | some a => if a.loaded ∧ s.isSealed = false then a.dies.head? else none
  | none => none

/-- UPD_ST_WRITE (R483): a verdict; one from a core of another die is ignored. Sources 0 to 15 are cores, 16 the Keeper firmware. -/
def updSt (source : Nat) (v : Word) (s : State) : State :=
  let d := v.toNat % 8
  let verdict := v.toNat / 2 ^ 30
  if (if source < 16 then coreDie source else 5) ≠ d then s
  else if verdict = 1 then (if s.awaits = some d then s.actPass else s.passTrial d)
  else if verdict = 2 then
    if s.awaits = some d ∨ (s.onTrial d).isSome then s.sealPart d (dieImage d) else s
  else s

def execUpdStWrite (source : Fin 17) (value : Word) (s : State) : Host.Outcome State Fault Refusal := .next (s.access 0 (updSt source value))

/-- ST_LIMIT of an image, in µs; 0 where there is none. -/
def stLimitUs (i : Option Img) : Nat := 1000 * (i.map Img.stLimit).getD 0

/-- The image on trial that die d runs. -/
def State.trialImg (s : State) (d p : Nat) : Option Img :=
  if d = 5 then s.imgIn kdKeeper (some ⟨true, 0xC000 * s.kprSel, 0xC000⟩) else s.imgIn (dieImage d) (s.halfPlace p (s.runHalf p))

/-- Whether the time of die d's image on trial has run out: from stage 7, where the cores start; the Keeper's from power-on. -/
def State.trialOver (s : State) (d : Nat) : Bool :=
  match s.onTrial d with
  | some p => s.passed (if d = 5 then some 0 else s.sig.stage7) (stLimitUs (s.trialImg d p))
  | none => false

/-- Whether the time of the image that an activation has loaded on die d has run out. -/
def State.activationOver (s : State) (d : Nat) : Bool :=
  match s.upd.act with
  | some a => s.passed (some a.started) (stLimitUs (s.actImg a.part (dieImage d)))
  | none => false

/-- SELFTEST_TIMEOUT (R483): no PASS within ST_LIMIT, of an activation's die or else of one whose image runs on trial. -/
def selftestTimeout (s : State) : State :=
  match s.awaits with
  | some d => if s.activationOver d then s.sealPart d (dieImage d) else s
  | none =>
    if s.get BOOT_STAT_STAGE < 7 ∨ s.isSealed then s
    else match (List.range 6).find? s.trialOver with
      | some d => s.sealPart d (dieImage d)
      | none => s

def execSelftestTimeout (s : State) : Host.Outcome State Fault Refusal := .next (selftestTimeout s)

/-- UPD_UNSEAL_WRITE (R485): at debug level 2 the key word clears SEALED and every trial mark, and a full boot with CAUSE 6 is due. -/
def updUnseal (v : Word) (s : State) : State :=
  if v = 0x0E595EA1 ∧ s.get DBG_STAT_LEVEL = 2 then
    ((s.nvsWrite 0x18014 (toLe 1 0)).nvsWrite 0x18018 (List.replicate 8 0)).bootCaused 6
  else s

def execUpdUnsealWrite (value : Word) (s : State) : Host.Outcome State Fault Refusal := .next (s.access 0 (updUnseal value))

/-! ### Downloads (R473, R474) -/

/-- The headers of a download whose 12 KiB, or for a structure image 512 B, came with the last piece: target and bytes. -/
def newHeaders (old : Nat) (bs : List Byte) : List (Nat × List Byte) :=
  if bs.take 4 = [0x50, 0x4C, 0x53, 0x49] then (if old < 512 ∧ 512 ≤ bs.length then [(0, bs.take 512)] else [])
  else
    let at0 := if old < 0x3000 ∧ 0x3000 ≤ bs.length then [(0, bs.take 0x3000)] else []
    let more := (imagesFrom 4 0 bs).filter (fun e => decide (0 < e.1) && decide (old < e.1 + 0x3000) && decide (e.1 + 0x3000 ≤ bs.length))
    (at0 ++ more.map (fun e => (e.1, slice (bs.drop e.1) 0 0x3000))).map (fun e =>
      let k := fieldLe e.2 0x00C 2
      (if k = kdKeeper then 1 else if k = kdHubPatch ∨ k = kdChPatch then 2 else 8, e.2))

/-- FIRMWARE_IMAGE_DOWNLOAD: a piece at its offset is staged; a refused header refuses its piece. The firmware partition is not known before the
Commit names it, so its length is checked then. -/
def imageDownload (t : Nat) (data : List Byte) (x : Tag) (s : State) : State :=
  let ofst := 4 * x.dw 11
  let bs := slice data 0 (4 * (x.dw 10 % 2 ^ 32 + 1))
  let old : Option (List Byte) := if ofst = 0 then some [] else s.staged.map (fun e => e.2)
  let owner := if ofst = 0 then x.ctrl else (s.staged.map (fun e => e.1)).getD x.ctrl
  match old with
  | none => s.failTag t x (nvStatus 1 0x14 0)
  | some o =>
    if o.length ≠ ofst ∨ ofst % 4096 ≠ 0 then s.failTag t x (nvStatus 1 0x14 0)
    else if owner ≠ x.ctrl then s.failTag t x stSequence
    else
      let all := o ++ bs
      let bad := if s.romControl then none else (newHeaders o.length all).findSome? (fun h => s.hdrchk h.1 (if h.1 = 8 then 2 ^ 32 else s.targetRoom h.1) h.2)
      match bad with
      | some c => ((s.put UPD_STAT_RESULT urRefused).put UPD_STAT_CODE c).failTag t x (nvStatus 1 0x07 0)
      | none => ({ s with staged := some (x.ctrl, all) } : State).okTag t x

def execFirmwareImageDownload (tag : TagNo) (data : List Byte) (s : State) : Host.Outcome State Fault Refusal :=
  .next (adminRow tag 0x11 (imageDownload tag data) s)

/-! ### Commits (R476) -/

/-- The target a Commit names: by the first header of what is staged, or by FS. -/
def State.commitTarget (s : State) (fs : Nat) : Nat :=
  let fw := if fs = 0 then 8 + s.imgNat (fun i => i.roleImage s.bootH) else 7 + fs
  match s.staged with
  | none => fw
  | some (_, bs) =>
    if bs.take 4 = [0x50, 0x4C, 0x53, 0x49] then 0
    else match (imagesOf bs).head? with
      | some i => if i.kind = kdKeeper then 1 else if i.kind = kdHubPatch ∨ i.kind = kdChPatch then 2 else fw
      | none => fw

/-- The operations of an action on a target, or the status it completes with. -/
def commitOps (ca t : Nat) (staged : Bool) : List (Nat × Nat) ⊕ Nat :=
  if ca = 0 then .inl [(upWrite, t)]
  else if ca = 1 then .inl (if t = 0 then [(upWrite, 0)] else [(upWrite, t), (upSelect, t)])
  else if ca = 2 then (if t = 0 then .inr stField else .inl [(upSelect, t)])
  else if ca = 3 then
    if t = 0 ∨ t = 2 then .inr (nvStatus 1 0x11 0)
    else if t = 1 then .inl [(upWrite, 1), (upSelect, 1), (upActivate, 1)]
    else .inl (if staged then [(upWrite, t), (upActivate, t)] else [(upActivate, t)])
  else .inr stField

/-- FIRMWARE_COMMIT: the engine's operations begin, or the Commit completes at once. -/
def firmwareCommit (t : Nat) (x : Tag) (s : State) : State :=
  let fs := x.dw 10 % 8
  let ca := x.dw 10 / 8 % 8
  let tg := s.commitTarget fs
  if s.flag UPD_STAT_BUSY then s.failTag t x (nvStatus 1 0x13 0)
  else if s.staged.isSome ∧ (s.staged.map (fun e => e.1)).getD x.ctrl ≠ x.ctrl then s.failTag t x stSequence
  else
    match commitOps ca tg s.staged.isSome with
    | .inr st => s.failTag t x st
    | .inl ops =>
      if tg < 8 ∧ fs ≠ 0 then ((s.put UPD_STAT_RESULT urRefused).put UPD_STAT_CODE 0x04).failTag t x (nvStatus 1 0x07 0)
      else if ca < 2 ∧ s.staged.isNone then ((s.put UPD_STAT_RESULT urRefused).put UPD_STAT_CODE 0x01).failTag t x (nvStatus 1 0x07 0)
      else if ops.head? ≠ some (upActivate, tg) ∧ (s.writable tg).isNone then s.failTag t x (nvStatus 1 0x11 0)
      else (s.modUpd (fun u => { u with commit := some (t, ops) })).commitNext

/-- FIRMWARE_COMMIT acts with an accepted image and a Keeper; the rows of Boot.lean are the Commits of a part without them. A Sealed part
answers none. -/
def execFirmwareCommit (tag : TagNo) (s : State) : Host.Outcome State Fault Refusal :=
  .next (if s.img.isSome && s.keeper && decide (s.get UPD_STAT_STATE ≠ 3) then adminRow tag 0x10 (firmwareCommit tag) s else s)

end Sys2Proof.Machine
end

