-- ==== Sys2Proof/Machine/Inventory.lean ====
section
/-!
DEFINITION. Inventory (file 10, R329-R334; file 16, R491): the image's sections, the HUB's builds, the KPR's refreshes, the notes and the Inventory command.
-/

namespace Sys2Proof.Machine

/-- Bytes of a register. -/
def State.reg4 (s : State) (a : Nat) : List Byte := toLe 4 (s.readView a).toNat

/-- Pad a section to its length. -/
def section_ (n : Nat) (bs : List Byte) : List Byte := slice bs 0 n

/-! ### Sections (R332) -/

def State.invState (s : State) : Nat :=
  ofBool s.img.isNone + 2 * ofBool (decide (s.get UPD_STAT_STATE = 3)) + 4 * ofBool s.alog.fatalAt.isSome + 8 * ofBool (s.flag INV_STAT_HUB_STALE)

/-- The sections current in a build (R330): all of them, or those of the Blank state. -/
def State.invValid (s : State) : Nat := if s.img.isNone then 0x64F else 0x3FFF

def State.invHeader (s : State) (gen : Nat) : List Byte :=
  section_ 64 ([0x50, 0x49, 0x4E, 0x56] ++ toLe 2 1 ++ toLe 2 16 ++ toLe 4 gen ++ toLe 4 (s.num TSTAMP) ++ toLe 8 s.optime ++
    toLe 4 (s.num PCYCLE) ++ toLe 4 s.invState ++ toLe 4 s.invValid)

def State.invIdentity (s : State) : List Byte :=
  section_ 128 (s.reg4 (DIE_ID (unitBase 0 0)) ++ toLe 4 0 ++ s.otpBytes 0 16 ++ s.reg4 SI_STAT ++ s.reg4 SI_VERSION ++ s.reg4 SI_ROLLBACK ++
    toLe 4 (s.imgNat Image.chMask + 16 * s.imgNat Image.portShape + 32 * ofBool (s.imgBool Image.plpEnable) + 256 * s.imgNat Image.maxRung) ++
    ((List.range 12).map (fun k => s.reg4 (SI_DIGEST k))).flatten)

def State.invTime (s : State) : List Byte :=
  section_ 64 (s.reg4 REV_LO ++ s.reg4 REV_HI ++
    ((List.range 4).map (fun n => if s.chOn n then toLe 4 (s.num (WCNT_LO n)) ++ toLe 4 (s.num (WCNT_HI n)) else toLe 8 0)).flatten ++
    toLe 4 (s.num MAPSEQ_LO) ++ toLe 4 (s.num MAPSEQ_HI))

/-- A die's entry; a MEM die, which has no register of its own, is enabled and in DRAMC's state. -/
def State.invDie (s : State) (d : Nat) : List Byte :=
  section_ 16 ((if d < 6 then toLe 1 (s.get (DIE_STAT_STATE (unitBase d 0))) ++ toLe 1 (s.get (DIE_STAT_ENABLED (unitBase d 0)))
      else toLe 1 (s.get DRAMC_STAT_MODE) ++ toLe 1 1) ++
    toLe 2 (s.get (THERM_T_TEMP d)) ++ toLe 1 (s.thermLevel d) ++ toLe 1 (s.get (THERM_T_BROKEN d)) ++ toLe 2 0 ++
    toLe 4 (atD s.seen d 0) ++ toLe 4 (atD s.contained d 0))

def State.invActuator (s : State) (n : Nat) : List Byte :=
  if s.chOn n then
    section_ 64 (toLe 1 (s.actState n) ++ toLe 1 (s.imgNat (fun i => i.headMask n)) ++ toLe 1 (s.get (WR_STAT_HEAD_WDIS n)) ++
      toLe 1 (s.get (LOOP_STAT_MODE n)) ++ s.reg4 (LOOP_FAULT n) ++ s.reg4 (LOOP_TARGET_LO n) ++ s.reg4 (LOOP_TARGET_HI n) ++
      toLe 4 (s.num (DEMOD_STAT n)) ++ s.reg4 (WR_STAT n) ++ s.reg4 (AS_FAULT n) ++ s.reg4 (PA_FAULT n) ++ s.reg4 (DET_ERR n) ++
      s.reg4 (RCV_STAT n) ++ s.reg4 (LINK_STAT (linkBase n)) ++ s.reg4 (WLR_STAT n) ++ s.reg4 (PA_STAT n))
  else List.replicate 64 0

def State.invSpindle (s : State) : List Byte :=
  section_ 64 (s.reg4 SPIN_STAT ++ s.reg4 SPIN_FAULT ++ s.reg4 PHASE_ERR ++ s.reg4 REV_DEV ++ s.reg4 CLS_STAT ++ s.reg4 CLS_PSFAULT ++
    s.reg4 CLS_ERR ++ s.reg4 SHOCK_STAT ++ s.reg4 SHOCK_CNT)

/-- The power state set on a PF. -/
def State.psOf (s : State) (c : Nat) : Nat := (look c s.host.powerOf).getD 0

def State.invPower (s : State) : List Byte :=
  section_ 64 (toLe 1 (s.get LADDER_STAT_RUNG) ++ toLe 1 (s.get MAX_RUNG_RUNG) ++ toLe 2 0 ++
    ((List.range 3).map (fun j => s.reg4 (PD_STAT j))).flatten ++ s.reg4 CLOCK_STAT ++ s.reg4 COMP_PPM ++ toLe 4 (s.get SUP_STAT_GOOD) ++
    toLe 1 (s.psOf 0 + 16 * s.psOf 1) ++ toLe 3 0 ++ toLe 2 s.composite)

def State.invRebind (s : State) : List Byte := section_ 256 (s.nvsBytes 0x1C000 256)

/-- A bitmap by CNTLID. -/
def State.ctrlMap (s : State) (p : Nat → Bool) : List Byte :=
  toLe 8 ((List.range 64).foldl (fun w c => if s.ctrlExists c && p c then w + 2 ^ c else w) 0)

def State.invHost (s : State) : List Byte :=
  section_ 128 (s.reg4 (PORT_STAT 0) ++ s.reg4 (PORT_STAT 1) ++ toLe 2 s.poolSize ++ toLe 2 s.poolFreeQp ++ toLe 2 (s.imgNat Image.pfQpReserve) ++
    toLe 2 0 ++ toLe 2 s.tagsFree ++ toLe 2 (4 * s.ctrlsEn + 4) ++ s.reg4 FETCH_STALL_CNT ++ s.ctrlMap (fun _ => true) ++
    s.ctrlMap (fun c => (s.ctrl c).en) ++ s.ctrlMap (fun c => (s.ctrl c).rdy) ++ toLe 2 (atD s.host.numVfs 0 0) ++
    toLe 2 (atD s.host.numVfs 1 0) ++ toLe 2 (s.totalVfs 0) ++ toLe 2 (s.totalVfs 1) ++ s.reg4 MGMT_STAT ++ toLe 2 s.activeZones ++
    toLe 2 s.openZones)

def State.invFirmware (s : State) : List Byte :=
  let st := s.get UPD_STAT_STATE
  section_ 128 ((s.sig.versions.toList.map (fun v => toLe 4 v)).flatten ++ toLe 8 (s.num LMS_NEXT) ++ toLe 4 (s.get BOOT_STAT_STAGE) ++
    toLe 4 ((if st ≠ 0 then st else ofBool s.staged.isSome) + 256 * (if st = 2 then s.get UPD_STAT_DIE else 0)) ++
    (if s.currentRecord.isEmpty then List.replicate 48 0 else slice (Config.sha384 s.currentRecord) 0 48))

/-- The FIRST registers of R491; those of a disabled die read 0. -/
def State.invFirsts (s : State) : List Nat :=
  let ch := fun (f : Nat → Nat) => (List.range 4).map (fun n => if s.chOn n then s.num (f n) else 0)
  ch LOOP_FIRST ++ ch DET_FIRST ++ ch WR_FIRST ++ ch AS_FIRST ++ ch PA_FIRST ++ ch LM_FIRST ++ ch (fun n => MEM_FIRST (chCSRAM n)) ++
    ((List.range 8).map (fun k => if s.chOn (k / 2) then s.num (CORE_FIRST (coreBase (8 + k))) else 0)) ++
    ((List.range 8).map (fun c => s.num (CORE_FIRST (coreBase c)))) ++
    [NVME_FIRST, TAG_FIRST, STK_FIRST, CAT_FIRST, FOL_FIRST, SIG_FIRST, MEM_FIRST hubDRAMC, MEM_FIRST hubSCACHE, MEM_FIRST hubHSRAM,
     SPIN_FIRST, ALOG_FIRST, PART_FIRST].map (fun a => s.num a)

def State.invFaults (s : State) : List Byte :=
  section_ 256 (s.reg4 ALOG_HELD ++ s.reg4 ALOG_DROP ++ toLe 4 (ofBool (s.flag ALOG_STAT_FROZEN)) ++ s.reg4 ALOG_NEWEST ++
    ((List.range 4).map (fun k => s.reg4 (SEV_CNT k))).flatten ++ (s.invFirsts.map (fun v => toLe 4 v)).flatten)

/-- Zones of a zoned namespace in each state the entry counts. -/
def State.zoneCounts (s : State) (z0 n : Nat) : List Byte :=
  let st := (List.range n).filterMap (fun k => (s.zoneNow (z0 + k)).map (fun v => v.1))
  ([[zEmpty], [zImplicit, zExplicit], [zClosed], [zFull], [zReadOnly], [zOffline]].map (fun l =>
    toLe 4 (st.filter (fun x => l.contains x)).length)).flatten

def State.invNamespace (s : State) (i : Nat) : List Byte :=
  match s.nsInfo i with
  | none => List.replicate 64 0
  | some (z0, n, zoned) =>
    let k := s.ns i
    section_ 64 (toLe 1 (if k.formatting then 3 else if s.mediaReady then 1 else 2) ++ toLe 1 (ofBool zoned) ++ toLe 1 k.fmt ++
      toLe 1 (k.pi % 4 + 16 * ofBool k.ext) ++ toLe 4 z0 ++ toLe 4 n ++ (if zoned then s.zoneCounts z0 n else List.replicate 24 0) ++
      s.ctrlMap (fun c => bitOf (s.num (CTRL_NS c)) i) ++ toLe 4 (k.resType + 256 * k.regs.length) ++ toLe 4 k.resGen)

/-- CC as the host wrote it, with EN as it is. -/
def State.ccOf (s : State) (c : Nat) : Nat := (s.ctrl c).cc % 2 ^ 32 / 2 * 2 + ofBool (s.ctrl c).en

/-- CSTS: RDY, CFS, SHST and PP, in NVMe's places. -/
def State.cstsOf (s : State) (c : Nat) : Nat :=
  let k := s.ctrl c
  ofBool k.rdy + 2 * ofBool k.cfs + 4 * k.shst + 32 * ofBool s.paused

def State.invController (s : State) (c : Nat) : List Byte :=
  if s.ctrlExists c then
    let k := s.ctrl c
    let f := s.function c
    section_ 32 (toLe 1 (s.ctrlState c) ++ toLe 1 f.1 ++ toLe 2 f.2 ++ toLe 2 k.grant ++ toLe 2 k.sqs.length ++
      toLe 2 (s.host.tags.filter (fun e => decide (e.2.ctrl = c) && !e.2.detached)).length ++ toLe 1 k.aers.length ++ toLe 1 (bitsOf (s.ccOf c) 13 11) ++
      toLe 4 (s.ccOf c) ++ toLe 4 (s.cstsOf c) ++ toLe 2 (s.num (CTRL_NS c)))
  else List.replicate 32 0

/-- The image with a generation: in the Blank state some sections read 0 (R330). -/
def State.invImage (s : State) (gen : Nat) : List Byte :=
  let on := fun (bs : List Byte) => if s.img.isNone then List.replicate bs.length 0 else bs
  s.invHeader gen ++ s.invIdentity ++ s.invTime ++ ((List.range 8).map s.invDie).flatten ++ on ((List.range 4).map s.invActuator).flatten ++
    on s.invSpindle ++ s.invPower ++ on s.invRebind ++ on s.invHost ++ s.invFirmware ++ s.invFaults ++
    on ((List.range 16).map s.invNamespace).flatten ++ List.replicate 0x200 0 ++ on ((List.range 64).map s.invController).flatten ++
    on (s.invNotes.readN 0 0 1024) ++ List.replicate 0x2800 0

/-! ### What counts as a change (R329) -/

/-- Fields marked V, and GENERATION: start and length. -/
def volatileFields : List (Nat × Nat) :=
  [(8, 16), (28, 4), (0xC0, 64)] ++ ((List.range 8).map (fun d => (0x100 + 16 * d + 2, 2))) ++
    ((List.range 4).flatMap (fun n => [(0x180 + 64 * n + 8, 12), (0x180 + 64 * n + 36, 16)])) ++
    [(0x288, 8), (0x29C, 8), (0x2D0, 8), (0x2E0, 2), (0x410, 8), (0x500, 4), (0x50C, 4)] ++
    ((List.range 64).map (fun c => (0xC00 + 32 * c + 8, 2)))

/-- An image without its V fields. -/
def settled (bs : List Byte) : List Byte := volatileFields.foldl (fun b f => overlay b f.1 (List.replicate f.2 0)) bs

/-- The current buffer. -/
def State.invNow (s : State) : List Byte := (atD s.invBuf (s.get INV_STAT_CUR) []).readN 0 0 0x4000

/-- Write an image into the idle buffer, and flip (R329): the generation goes up where a field not marked V has changed, at most once per
ms; a change within the ms raises it with the next image (R70). -/
def State.invFlip (s : State) (build : Nat → List Byte) : State :=
  let gen := s.num INV_GEN
  let moved := s.invLate || decide (settled (build gen) ≠ settled s.invNow)
  let up := moved && decide (s.invFree ≤ s.mtime)
  let gen := if up then (gen + 1) % 2 ^ 32 else gen
  let k := 1 - s.get INV_STAT_CUR
  let s := { s with
    invBuf := modAt s.invBuf k (fun _ => Memory.writeN 0 [] 0 (build gen)), invLate := moved && !up,
    invFree := if up then s.mtime + 1000 else s.invFree }
  (s.put INV_STAT_CUR k).setNum INV_GEN gen

/-! ### Builds and refreshes -/

/-- The HUB builds (R329, R330): it is out of reset, and neither boots nor is Sealed nor halted by a Fatal fault. -/
def State.hubBuilds (s : State) : Bool :=
  s.dieOn 0 && (s.flag BOOT_STAT_ROM_SERVICES || decide (7 ≤ s.get BOOT_STAT_STAGE) || (s.img.isNone && decide (2 ≤ s.get BOOT_STAT_STAGE))) &&
    decide (s.get UPD_STAT_STATE ≠ 3) && s.alog.fatalAt.isNone

/-- INVENTORY_REBUILD (R329). -/
def invRebuild (s : State) : State :=
  if s.hubBuilds then
    let s := { s.put INV_STAT_HUB_STALE 0 with invAt := s.mtime }
    s.invFlip s.invImage
  else s

def execInventoryRebuild (s : State) : Host.Outcome State Fault Refusal := .next (invRebuild s)

/-- The image in the current buffer with the sections the KPR refreshes, its state and a generation. -/
def State.invRefreshed (s : State) (gen : Nat) : List Byte :=
  let b := overlay (overlay s.invNow 8 (toLe 4 gen)) 28 (toLe 4 s.invState)
  overlay (overlay (overlay (overlay b 0xC0 s.invTime) 0x280 s.invSpindle) 0x2C0 s.invPower) 0x500 s.invFaults

/-- INVENTORY_REFRESH (R330): while the HUB restarts, is Sealed, Blank or halted, the KPR refreshes its four sections every 10 ms; HUB_STALE
is set, with event 472, once no build has come for 10 ms. -/
def invRefresh (s : State) : State :=
  if s.dieOn 5 = false ∨ (s.hubBuilds ∧ s.img.isSome) then s
  else
    let stale := decide (10000 ≤ s.mtime - s.invAt) && !(s.flag INV_STAT_HUB_STALE)
    let s := if stale then (s.put INV_STAT_HUB_STALE 1).raise 472 else s
    s.invFlip s.invRefreshed

def execInventoryRefresh (s : State) : Host.Outcome State Fault Refusal := .next (invRefresh s)

/-! ### Notes and the command (R333, R334) -/

/-- INV_NOTE_DATA_WRITE (R334): the word goes to OFF, which advances by 4 modulo 1,024. -/
def noteWrite (v : Word) (s : State) : State :=
  let o := s.get INV_NOTE_ADDR_OFF / 4 * 4
  let s := { s with invNotes := s.invNotes.writeN 0 o (toLe 4 v.toNat) }
  s.put INV_NOTE_ADDR_OFF ((o + 4) % 1024)

def execInvNoteDataWrite (value : Word) (s : State) : Host.Outcome State Fault Refusal := .next (s.access 5 (noteWrite value))

/-- INVENTORY (R333): the current build, with its GENERATION in dword 0. -/
def inventoryCmd (t : Nat) (s : State) : State :=
  match s.tag t with
  | some x =>
    if x.sqid = 0 ∧ x.op = 0xC6 ∧ x.st = .fetched then
      s.giveDataDw t x s.invNow (fieldLe s.invNow 8 4)
    else s
  | none => s

def execInventoryCmd (tag : TagNo) (s : State) : Host.Outcome State Fault Refusal := .next (inventoryCmd tag s)

end Sys2Proof.Machine
end

