-- ==== Sys2Proof/Machine/Pins.lean ====
section
/-!
DEFINITION. Pins (file 18, R532, R546, R548, R549; file 10, R335): core commands to the flash, the TAP and TEST_EN, the UART, the GPIO pins, and the address of the management endpoint.
-/

namespace Sys2Proof.Machine

/-! ### Core commands to the flash (R546) -/

def xsRead : Nat := 1
def xsProgram : Nat := 2
def xsErase : Nat := 3
def xrOk : Nat := 0
def xrRefused : Nat := 1
def xrFail : Nat := 2
def xrBusErr : Nat := 3
def xrBadCmd : Nat := 5

/-- A core command ends: DONE, RESULT, event 104. -/
def State.xsEnd (s : State) (result : Nat) : State :=
  let s := { ((s.put XS_STAT_BUSY 0).put XS_STAT_DONE 1).put XS_STAT_RESULT result with xsJob := none, xsHeld := false }
  s.raise 104

/-- Whether a range lies in a drive-maker data partition. -/
def State.xsOpen (s : State) (a n : Nat) : Bool :=
  match s.img with
  | none => false
  | some i => i.partitions.any (fun p => decide (partKind p = 5) && decide (partOffset p ≤ a) && decide (a + n ≤ partOffset p + partLength p))

/-- The lengths and alignments XS_CMD's registers ask for. -/
def xsShape (op faddr maddr len : Nat) : Bool :=
  decide (1 ≤ len) && decide (len ≤ 0x1000000) &&
    (if op = xsErase then decide (faddr % 0x10000 = 0) && decide (len % 0x10000 = 0)
     else decide (maddr % 64 = 0) && (decide (op ≠ xsProgram) || decide (faddr % 256 = 0)))

/-- A write of XS_CMD: ignored with REJ while BUSY; a shape the registers do not allow, or an OP the table lacks, ends BAD_CMD, and a
PROGRAM or ERASE outside the drive-maker data partitions REFUSED. One that comes during a log copy or an update step waits for it (R546). -/
def xsCmd (op : Nat) (s : State) : State :=
  let faddr := s.num XS_FADDR
  let maddr := s.num XS_MADDR_LO + 2 ^ 32 * (s.num XS_MADDR_HI % 256)
  let len := s.num XS_LEN
  if s.flag XS_STAT_BUSY then s.put XS_STAT_REJ 1
  else if op = 0 ∨ 3 < op ∨ xsShape op faddr maddr len = false then s.xsEnd xrBadCmd
  else if op ≠ xsRead ∧ s.xsOpen faddr len = false then (s.noteBit xsErr 2).xsEnd xrRefused
  else { s.put XS_STAT_BUSY 1 with xsJob := some ⟨op, faddr, maddr, len⟩, xsHeld := s.alog.copy.isSome || s.updFlash }

def execXsRead (s : State) : Host.Outcome State Fault Refusal := .next (s.access 0 (xsCmd xsRead))
def execXsProgram (s : State) : Host.Outcome State Fault Refusal := .next (s.access 0 (xsCmd xsProgram))
def execXsErase (s : State) : Host.Outcome State Fault Refusal := .next (s.access 0 (xsCmd xsErase))

/-- A byte programmed over one that is not erased and differs from it: what the device then holds the manual does not say. -/
def State.programByte (s : State) (a : Nat) (b : Byte) : State :=
  let old := s.flash.read 0xFF a
  if old = 0xFF ∨ old = b then s.flashWrite a [b]
  else
    let (v, s) := s.draw 49
    s.flashWrite a [BitVec.ofNat 8 v]

/-- A range left undefined: by a device failure, or where a dump ends its command (R546). -/
def State.flashUndefined (s : State) (a n : Nat) : State :=
  let (bs, s) := s.drawBytes 43 n
  s.flashWrite a bs

/-- XS_DONE: the device has done the command under way, or reports a failure. -/
def xsDone (ok : Bool) (s : State) : State :=
  match s.xsJob with
  | none => s
  | some j =>
    if s.xsHeld then s
    else if j.op = xsRead then
      match s.physWrite 14 j.maddr (s.flashBytes j.faddr j.len) with
      | (true, s) => s.xsEnd xrOk
      | (false, s) => s.xsEnd xrBusErr
    else if j.op = xsProgram then
      match s.physRead 14 j.maddr j.len with
      | (none, s) => s.xsEnd xrBusErr
      | (some bs, s) =>
        if ok then (bs.zipIdx.foldl (fun s p => s.programByte (j.faddr + p.2) p.1) s).xsEnd xrOk
        else ((s.flashUndefined j.faddr j.len).faultBit xsErr 0 sevFault clsCorrected noInst 0).xsEnd xrFail
    else if ok then (s.flashErase j.faddr j.len).xsEnd xrOk
    else ((s.flashUndefined j.faddr j.len).faultBit xsErr 1 sevFault clsCorrected noInst 0).xsEnd xrFail

def execXsDone (ok : Bool) (s : State) : Host.Outcome State Fault Refusal := .next (if s.dieOn 0 then xsDone ok s else s)

/-! ### TEST_EN and the TAP (R548) -/

/-- TEST_EN goes high: every die, the KPR included, is held in reset. -/
def testAssert (s : State) : State :=
  if s.pins.test then s
  else
    let t := (s.modPins (fun p => { p with test := true })).powerOn
    t.modPins (fun p => { p with ir := s.pins.ir, cells := s.pins.cells })

def execTestEnAssert (s : State) : Host.Outcome State Fault Refusal := .next (testAssert s)

/-- The instructions that act as BYPASS while TEST_EN is low. -/
def testOnly (ir : Nat) : Bool := [0x00, 0x04, 0x05].contains ir

/-- TEST_EN goes low: the dies leave reset, as from a power-on reset; an instruction that needs TEST_EN acts as BYPASS. -/
def testDeassert (s : State) : State :=
  if s.pins.test = false then s
  else
    let t := (s.modPins (fun p => { p with test := false })).powerOn
    t.modPins (fun p => { p with ir := if testOnly s.pins.ir then 0x3F else s.pins.ir, cells := s.pins.cells })

def execTestEnDeassert (s : State) : Host.Outcome State Fault Refusal := .next (testDeassert s)

/-- An instruction in force in the TAP. -/
def State.tap (s : State) (ir : Nat) : State := s.modPins (fun p => { p with ir := if testOnly ir && !p.test then 0x3F else ir })

/-- Levels of boundary-scan cells, as a number. -/
def cellsNat (cells : List Bool) : Nat := cells.foldr (fun b n => ofBool b + 2 * n) 0

def execTapReset (s : State) : Host.Outcome State Fault Refusal := .next (s.tap 0x01)

/-- IDCODE: the identification register. -/
def execIdcode (s : State) : Host.Outcome State Fault Refusal := .next ((s.tap 0x01).answer (.data 0x284401CB))

/-- EXTEST: while TEST_EN is high the cells drive the pins. -/
def extest (cells : List Bool) (s : State) : State :=
  if s.pins.test then (s.tap 0x00).modPins (fun p => { p with cells := cells }) else s.tap 0x00

def execExtest (cells : List Bool) (s : State) : Host.Outcome State Fault Refusal := .next (extest cells s)

/-- SAMPLE/PRELOAD: the pins' levels are sampled, and the cells loaded. -/
def execSamplePreload (pins cells : List Bool) (s : State) : Host.Outcome State Fault Refusal :=
  .next (((s.tap 0x02).modPins (fun p => { p with cells := cells })).answer (.data (cellsNat pins)))

def execClamp (s : State) : Host.Outcome State Fault Refusal := .next (s.tap 0x04)
def execHighz (s : State) : Host.Outcome State Fault Refusal := .next (s.tap 0x05)
def execBypass (s : State) : Host.Outcome State Fault Refusal := .next (s.tap 0x3F)

/-! ### The UART and the GPIO pins (R532, R549) -/

/-- UART_DATA_WRITE: a byte to send; dropped with TX_OVF while the FIFO is full. -/
def uartWrite (v : Word) (s : State) : State :=
  if 16 ≤ s.pins.tx.length then s.put UART_STAT_TX_OVF 1
  else s.modPins (fun p => { p with tx := p.tx ++ [BitVec.ofNat 8 v.toNat] })

def execUartDataWrite (value : Word) (s : State) : Host.Outcome State Fault Refusal := .next (s.access 0 (uartWrite value))

/-- UART_DATA_READ: VALID and the oldest received byte, which the read removes. -/
def uartRead (s : State) : State :=
  match s.pins.rx with
  | [] => s.answer (.data 0)
  | b :: rest => (s.modPins (fun p => { p with rx := rest })).answer (.data (256 + b.toNat))

def execUartDataRead (s : State) : Host.Outcome State Fault Refusal := .next (s.access 0 uartRead)

/-- UART_RECEIVE: a byte arrives; event 103 when RX_AVAIL becomes 1, and when a byte is lost. -/
def uartReceive (b : Byte) (s : State) : State :=
  if s.flag UART_CTL_EN = false then s
  else if 16 ≤ s.pins.rx.length then (s.put UART_STAT_RX_OVF 1).raise 103
  else
    let t := s.modPins (fun p => { p with rx := p.rx ++ [b] })
    if s.pins.rx.isEmpty then t.raise 103 else t

def execUartReceive (byte : Byte) (s : State) : Host.Outcome State Fault Refusal := .next (if s.dieOn 0 then uartReceive byte s else s)

/-- The rate of the UART, bits per second. -/
def State.baud (s : State) : Nat :=
  let b := s.get UART_CTL_BAUD
  if 9600 ≤ b ∧ b ≤ 3000000 then b else 115200

/-- A microsecond of sending: a byte takes ten bits. -/
def State.uartTick (s : State) : State :=
  if s.flag UART_CTL_EN = false ∨ s.pins.tx.isEmpty then s
  else
    let ph := s.pins.phase + s.baud
    if 10000000 ≤ ph then s.modPins (fun p => { p with tx := p.tx.tail, phase := ph - 10000000 }) else s.modPins (fun p => { p with phase := ph })

/-- The GPIO pins that the part drives: those whose OE bit is 1, while VDDIO33 is good (R519, R532). -/
def State.gpioDriven (s : State) : BitVec 16 := if s.supplyGood 8 then BitVec.ofNat 16 (s.num GPIO_OE) else 0

/-- The pins' levels: OUT where the part drives, else what the outside gives. -/
def State.gpioLevels (s : State) : BitVec 16 :=
  (s.pins.gpio &&& ~~~s.gpioDriven) ||| (BitVec.ofNat 16 (s.num GPIO_OUT) &&& s.gpioDriven)

/-- The pins had the levels `old`: GPIO_IN follows, and a change of an enabled one sets CHG and raises event 102. -/
def State.gpioMoved (s : State) (old : BitVec 16) : State :=
  let chg := (old ^^^ s.gpioLevels).toNat
  let en := s.get GPIO_EVT_EN
  let hit := (List.range 16).filter (fun i => bitOf chg i && bitOf en i)
  let s := s.put GPIO_IN_IN s.gpioLevels.toNat
  if hit.isEmpty then s else (s.put GPIO_EVT_CHG (hit.foldl setBitN (s.get GPIO_EVT_CHG))).raise 102

/-- GPIO_CHANGE: the outside gives the pins new levels. -/
def gpioChange (levels : BitVec 16) (s : State) : State :=
  let old := s.gpioLevels
  let s := s.modPins (fun p => { p with gpio := levels })
  if s.dieOn 0 = false then s else s.gpioMoved old

/-- A write of GPIO_OUT or GPIO_OE: the pins the part drives follow. -/
def gpioDrive (a : Nat) (v : Word) (s : State) : State :=
  let old := s.gpioLevels
  (s.setRW a v).gpioMoved old

def execGpioChange (levels : BitVec 16) (s : State) : Host.Outcome State Fault Refusal := .next (gpioChange levels s)

/-! ### The address of MGMT (R98, R335) -/

/-- Whether MGMT listens on I3C: the image names it, or there is no image in force (R98). -/
def State.onI3c (s : State) : Bool := s.img.isNone || decide (s.get MGMT_STAT_BUS = 1)

/-- The static address MGMT takes for SETDASA (R335): the image's MGMT_ADDR; a Blank part, whose 1Dh is a dynamic address (R98), has none. -/
def State.staticAddr (s : State) : Option Nat := s.img.map Image.mgmtAddr

/-- I3C_ADDRESS_ASSIGNMENT (R335): SETDASA to the static address, or ENTDAA, gives MGMT its 7-bit dynamic address. -/
def i3cAssign (a : I3cAssign) (s : State) : State :=
  let give := fun (d : Nat) => (s.put MGMT_STAT_ADDR (d % 128)).put MGMT_STAT_ASSIGNED 1
  if s.onI3c then
    match a with
    | .setdasa st d => if s.staticAddr = some st then give d else s
    | .entdaa d => give d
  else s

def execI3cAddressAssignment (assign : I3cAssign) (s : State) : Host.Outcome State Fault Refusal := .next (if s.dieOn 0 then i3cAssign assign s else s)

end Sys2Proof.Machine
end

