-- ==== Sys2Proof/Machine/Mgmt.lean ====
section
/-!
DEFINITION. The management endpoint (file 10, R320, R335-R337; file 14, R458): MCTP messages, NVMe-MI commands, the SPDM responder, Security Send and Receive, and the power states hosts set. Where the manual names a standard's message without its layout, the layout is the standard's.
-/

namespace Sys2Proof.Machine

/-! ### What the endpoint answers (R98, R335, R464, R484) -/

/-- The HUB is out of reset, and MGMT is powered and on a bus. -/
def State.mgmtUp (s : State) : Bool :=
  s.dieOn 0 && decide (s.get LADDER_STAT_RUNG < 4) && (s.flag BOOT_STAT_ROM_SERVICES || decide (2 ≤ s.get BOOT_STAT_STAGE)) &&
    (s.img.isNone || decide (s.get MGMT_STAT_BUS = 2) || (decide (s.get MGMT_STAT_BUS = 1) && s.flag MGMT_STAT_ASSIGNED))

/-- Commands other than those every state answers: with firmware, not in the Blank or Sealed state, nor in ROM services. -/
def State.mgmtFull (s : State) : Bool := s.mgmtUp && !s.romControl

/-- SPDM: also in the Sealed state (R484). -/
def State.mgmtSpdm (s : State) : Bool := s.mgmtUp && (decide (s.get UPD_STAT_STATE = 3) || !s.romControl)

/-- The bytes MGMT sends. -/
def State.reply (s : State) (bs : List Byte) : State := s.modHost (fun h => { h with mgmt := bs })

/-- An MCTP control message's response (R335): its type, the instance, the command, a completion code, data. -/
def State.controlReply (s : State) (b : List Byte) (code : Nat) (data : List Byte) : State :=
  s.reply ([0, BitVec.ofNat 8 (fieldLe b 0 1 % 32), b.getD 1 0, BitVec.ofNat 8 code] ++ data)

/-- An MCTP control request (R335), in the standard's layout: Set and Get Endpoint ID, the endpoint's UUID, which is free, the versions of a type,
which are free, and the message types supported; any other is not supported. A datagram or a response asks nothing. -/
def mctpControl (b : List Byte) (s : State) : State :=
  let cmd := fieldLe b 1 1
  if fieldLe b 0 1 / 64 ≠ 2 then s
  else if cmd = 1 then
    let e := fieldLe b 3 1
    if 1 < fieldLe b 2 1 % 4 ∨ e < 8 ∨ e = 0xFF then s.controlReply b 2 []
    else (s.modHost (fun h => { h with eid := e })).controlReply b 0 [0, BitVec.ofNat 8 e, 0]
  else if cmd = 2 then s.controlReply b 0 [BitVec.ofNat 8 s.host.eid, 0, 0]
  else if cmd = 3 then
    let (u, s) := s.drawBytes 61 16
    s.controlReply b 0 u
  else if cmd = 4 then
    if [0xFF, 0, 4, 5].contains (fieldLe b 2 1) then
      let (v, s) := s.drawBytes 61 4
      s.controlReply b 0 ([1] ++ v)
    else s.controlReply b 0x80 []
  else if cmd = 5 then s.controlReply b 0 [2, 4, 5]
  else s.controlReply b 5 []

/-- MCTP_MESSAGE (R335): a message with good packets to the endpoint's address, of a type it supports, is received with event 48, and a control
message is answered; any other raises event 49. A transaction to its address wakes the part (R514). -/
def mctp (addr : Nat) (msg : MctpMsg) (good : Bool) (s : State) : State :=
  let mine := decide (addr = s.get MGMT_STAT_ADDR)
  let takes := good && [0, 4, 5].contains msg.type
  let s := if mine && s.mgmtUp then s.raise (if takes then 48 else 49) else s
  let s := if mine && s.mgmtUp && takes && decide (msg.type = 0) then mctpControl msg.body s else s
  if mine then wakeUp 1 s else s

def execMctpMessage (addr : Nat) (msg : MctpMsg) (good : Bool) (s : State) : Host.Outcome State Fault Refusal :=
  .next (if s.dieOn 5 then mctp addr msg good s else s)

/-! ### NVMe-MI commands (R336) -/

/-- A successful response: status and 3 bytes, which carry the response the commands that are short give. -/
def miOk (short : List Byte) (data : List Byte) : List Byte := [0] ++ slice short 0 3 ++ data

/-- Invalid Parameter. -/
def miBad : List Byte := [4, 0, 0, 0]

/-- Controllers that exist, in order. -/
def State.ctrlIds (s : State) : List Nat := (List.range 64).filter (fun c => s.ctrlExists c)

/-- READ_NVME_MI_DATA_STRUCTURE: subsystem, port, controller list, controller, and optionally supported commands. Versions of the
standards, and what else the manual does not give, are free. -/
def miRead (kind port ctrl : Nat) (s : State) : State :=
  let (b, s) := s.drawBytes 51 32
  let ports := if s.imgNat Image.portShape = 0 then 2 else 1
  if kind = 0 then
    s.reply (miOk (toLe 2 32) (overlay b 0 (toLe 1 ports)))
  else if kind = 1 then
    if port < ports then s.reply (miOk (toLe 2 32) (overlay b 0 ([1, 0] ++ toLe 2 64)))
    else if port = ports then s.reply (miOk (toLe 2 32) (overlay b 0 ([2, 0] ++ toLe 2 64 ++ toLe 4 0 ++ toLe 1 0 ++ toLe 1 0 ++ toLe 1 (s.get MGMT_STAT_ADDR * 2))))
    else s.reply miBad
  else if kind = 2 then
    let cs := s.ctrlIds.filter (fun c => decide (ctrl ≤ c))
    s.reply (miOk (toLe 2 (2 + 2 * cs.length)) (toLe 2 cs.length ++ (cs.map (fun c => toLe 2 c)).flatten))
  else if kind = 3 then
    if s.ctrlExists ctrl then
      s.reply (miOk (toLe 2 32) (overlay b 0 (toLe 1 (s.portOf (s.function ctrl).1) ++ toLe 4 0 ++ toLe 1 1 ++ toLe 2 0 ++ toLe 2 (s.imgNat Image.vid))))
    else s.reply miBad
  else if kind = 4 then s.reply (miOk (toLe 2 2) (toLe 2 0))
  else s.reply miBad

def execReadNvmeMiDataStructure (kind port ctrl : Nat) (s : State) : Host.Outcome State Fault Refusal :=
  .next (if s.mgmtFull then miRead kind port ctrl s else s)

/-- The composite temperature as NVMe-MI reports it, °C, with the values above 126 and below -60 saturated. -/
def State.miTemp (s : State) : List Byte :=
  let t := (s.composite : Int) - 273
  toLe 1 (toBits 8 (if 126 < t then 127 else if t < -60 then -60 else t))

/-- The SMART warnings as NVMe-MI reports them: a bit is 0 where the warning is given. -/
def State.miWarn (s : State) : List Byte := toLe 1 (255 - s.critical % 256)

/-- What the health status change flags watch (R336), by the bit NVMe-MI gives each in the Composite Controller Status: the controllers ready, fatal,
shut down, with changed namespaces, paused for an activation, and the temperature and warnings. -/
def State.healthNow (s : State) : List (Nat × Nat) :=
  let map := fun (p : Ctrl → Bool) => s.ctrlIds.foldl (fun n c => if p (s.ctrl c) then n + 2 ^ c else n) 0
  [(0, map (fun k => k.rdy)), (1, map (fun k => k.cfs)), (2, map (fun k => decide (k.shst ≠ 0))), (6, map (fun k => !k.changed.isEmpty)),
   (7, ofBool s.paused), (9, s.composite), (12, s.critical)]

/-- The change flags: set where what a bit watches is no longer what it was when the bit was last cleared. -/
def State.healthFlags (s : State) : Nat :=
  s.healthNow.foldl (fun n e => if (look e.1 s.host.seen).getD 0 = e.2 then n else n + 2 ^ e.1) 0

/-- Clear change flags. -/
def State.healthClear (s : State) (mask : Nat) : State :=
  s.modHost (fun h => { h with seen := (s.healthNow.filter (fun e => bitOf mask e.1)).foldl (fun l e => place e.1 e.2 l) h.seen })

/-- NVM_SUBSYSTEM_HEALTH_STATUS_POLL: the drive works, and its ports' links; warnings, temperature and what is left of its life, which is
free; and the health status change flags. -/
def miSubsystem (s : State) : State :=
  let (u, s) := s.draw 52
  let l := fun (p : Nat) => ofBool (s.flag (PORT_STAT_DL_ACTIVE p))
  let nss := 32 * ofBool (decide (s.critical = 0)) + 16 + 8 * l 0 + 4 * l 1
  s.reply (miOk [] (toLe 1 nss ++ s.miWarn ++ s.miTemp ++ toLe 1 (u % 256) ++ toLe 2 s.healthFlags ++ toLe 2 0))

def execNvmSubsystemHealthStatusPoll (s : State) : Host.Outcome State Fault Refusal := .next (if s.mgmtFull then miSubsystem s else s)

/-- CONTROLLER_HEALTH_STATUS_POLL: an entry for each controller from `first` on, at most `count` and one more. -/
def miControllers (first count : Nat) (s : State) : State :=
  let cs := (s.ctrlIds.filter (fun c => decide (first ≤ c))).take (count % 256 + 1)
  let (u, s) := s.draw 52
  let entry := fun (c : Nat) => slice (toLe 2 c ++ toLe 2 (s.cstsOf c) ++ toLe 2 s.composite ++ toLe 1 (u % 256) ++ toLe 1 (u / 256 % 256) ++
    toLe 1 (s.critical % 256)) 0 16
  s.reply (miOk (toLe 2 0 ++ toLe 1 cs.length) ((cs.map entry).flatten))

def execControllerHealthStatusPoll (first count : Nat) (s : State) : Host.Outcome State Fault Refusal :=
  .next (if s.mgmtFull then miControllers first count s else s)

/-- Configuration items: 1 the SMBus or I2C frequency, 2 the health status change flags, 3 the MCTP transmission unit, 64 bytes (R335). -/
def State.miItem (s : State) (item port : Nat) : Option Nat :=
  if item = 1 then some ((look (256 * item + port) s.host.mgmtCfg).getD (Config.freeNat 53 port % 4))
  else if item = 2 then some 0
  else if item = 3 then some 64
  else none

/-- CONFIGURATION_GET. -/
def miGet (item port : Nat) (s : State) : State :=
  match s.miItem item port with
  | some v => s.reply (miOk (toLe 3 v) [])
  | none => s.reply miBad

def execConfigurationGet (item port : Nat) (s : State) : Host.Outcome State Fault Refusal := .next (if s.mgmtFull then miGet item port s else s)

/-- CONFIGURATION_SET: a frequency of 100, 400 or 1,000 kHz (R547); health change flags to clear; only the baseline transmission unit. -/
def miSet (item port value : Nat) (s : State) : State :=
  if item = 1 then
    if 1 ≤ value ∧ value ≤ 3 then (s.modHost (fun h => { h with mgmtCfg := place (256 * item + port) value h.mgmtCfg })).reply (miOk [] [])
    else s.reply miBad
  else if item = 2 then (s.healthClear value).reply (miOk [] [])
  else if item = 3 ∧ value = 64 then s.reply (miOk [] [])
  else s.reply miBad

def execConfigurationSet (item port value : Nat) (s : State) : Host.Outcome State Fault Refusal :=
  .next (if s.mgmtFull then miSet item port value s else s)

/-- NVME_MI_RESET (R369, R436, R464): an NVM subsystem reset; in the Blank state or ROM services a full boot with CAUSE 2, and with both
Keeper copies refused a restart of the KPR as from power-on. A Sealed part does not answer. -/
def miReset (s : State) : State :=
  if s.mgmtUp = false ∨ s.get UPD_STAT_STATE = 3 then s
  else if s.keeperRefused then s.powerOn
  else if s.romControl then s.bootCaused 2
  else s.subsystemReset

def execNvmeMiReset (s : State) : Host.Outcome State Fault Refusal := .next (miReset s)

/-- BASIC_MANAGEMENT_COMMAND: on SMBus, the status block at code 0 and the identity block at code 8, which ends with the serial number of
drive firmware. -/
def miBasic (code : Nat) (s : State) : State :=
  if s.get MGMT_STAT_BUS ≠ 2 then s
  else if code = 0 then
    let (u, s) := s.draw 52
    let l := fun (p : Nat) => ofBool (s.flag (PORT_STAT_DL_ACTIVE p))
    let ready := s.ctrlIds.any (fun c => (s.ctrl c).rdy)
    let flags := 0x80 + 0x40 * ofBool (!ready) + 0x20 * ofBool (decide (s.critical = 0)) + 0x10 + 8 * l 0 + 4 * l 1 + 3
    s.reply (toLe 1 6 ++ toLe 1 flags ++ s.miWarn ++ s.miTemp ++ toLe 1 (u % 256) ++ toLe 2 0)
  else if code = 8 then
    let (sn, s) := s.drawBytes 51 20
    s.reply (toLe 1 22 ++ [BitVec.ofNat 8 (s.imgNat Image.vid / 256), BitVec.ofNat 8 (s.imgNat Image.vid)] ++ sn)
  else s

def execBasicManagementCommand (code : Nat) (s : State) : Host.Outcome State Fault Refusal := .next (if s.mgmtFull then miBasic code s else s)

/-- What admin commands the endpoint carries (R98, R336, R464, R484). -/
def State.mgmtOp (s : State) (q : List Byte) : Bool :=
  let op := sqOp q
  let c0 := decide (op = 0x02) && decide (sqDw q 10 % 256 = 0xC0)
  if s.get UPD_STAT_STATE = 3 then decide (op = 0xC6) || c0 || (decide (op = 0x81 ∨ op = 0x82) && decide (sqDw q 10 / 0x1000000 = 0xE8))
  else if s.romControl then decide (op = 0xC6) || c0 || decide (op = 0x10) || decide (op = 0x11)
  else mgmtOps.contains op

/-- NVME_MI_ADMIN_COMMAND (R336): the command takes a management tag and acts for the controller it names; in the Blank state, where no function
exists, any will do, and the commands are those of a PF. -/
def miAdmin (c t : Nat) (q : List Byte) (s : State) : State :=
  let q := slice q 0 64
  if s.mgmtUp = false ∨ s.host.stopped then s
  else if s.mgmtOp q = false then s.reply [3, 0, 0, 0]
  else if s.img.isSome ∧ s.ctrlExists c = false then s.reply miBad
  else if s.tagFor 0xFFFF 0 t = false then s
  else
    let fseq := s.host.fseq + 1
    let s := s.modHost (fun h => { h with fseq := fseq })
    let x := { newTag 0xFFFF 0 q fseq with acts := c }
    match s.check (if s.img.isNone then 0 else c) 0 q [] with
    | some st => (s.noteBit nvmeErr 1).failTag t x st
    | none => s.setTag t x

def execNvmeMiAdminCommand (ctrl : Nat) (tag : TagNo) (sqe : List Byte) (s : State) : Host.Outcome State Fault Refusal :=
  .next (miAdmin ctrl tag sqe s)

/-! ### Power Management (R320) -/

/-- SET_FEATURES_POWER_MANAGEMENT (R301, R320): the state is kept and reported back; a PF's limits the rung. -/
def setPower (t : Nat) (x : Tag) (s : State) : State :=
  let ps := x.dw 11 % 32
  if x.dw 10 % 256 ≠ 2 then s
  else if bitOf (x.dw 10) 31 then s.failTag t x stNotSaveable
  else if 4 < ps then s.failTag t x stField
  else
    ((s.modHost (fun h => { h with powerOf := place x.acts ps h.powerOf })).limitChanged).okTag t x

def execSetFeaturesPowerManagement (tag : TagNo) (s : State) : Host.Outcome State Fault Refusal := .next (adminRow tag 0x09 (setPower tag) s)

/-! ### SPDM (R337, R458) -/

/-- The version of the exchange: that of GET_CAPABILITIES, which stands after GET_VERSION and its answer; 1.3 before it. -/
def State.spdmVer (s : State) : Byte := s.host.vca.getD 14 0x13

/-- An ERROR response. -/
def State.spdmFail (s : State) (code : Nat) : State := s.reply [s.spdmVer, 0x7F, BitVec.ofNat 8 code, 0]
def seInvalid : Nat := 0x01
def seUnexpected : Nat := 0x04
def seUnsupported : Nat := 0x07

/-- How far the exchange has come: nothing, GET_VERSION, GET_CAPABILITIES, NEGOTIATE_ALGORITHMS. -/
def State.spdmStep (s : State) (k : Nat) : State := s.modHost (fun h => { h with spdm := k })

/-- GET_VERSION: 1.2 and 1.3; the exchange begins anew. -/
def spdmVersion (s : State) : State :=
  let req : List Byte := [0x10, 0x84, 0, 0]
  let rsp : List Byte := [0x10, 0x04, 0, 0, 0, 2] ++ toLe 2 0x1200 ++ toLe 2 0x1300
  ((s.modHost (fun h => { h with vca := req ++ rsp, tb := [], tl := [] })).spdmStep 1).reply rsp

def execGetVersion (s : State) : Host.Outcome State Fault Refusal := .next (if s.mgmtSpdm then spdmVersion s else s)

/-- GET_CAPABILITIES, as the requester sent it, in the version of its first byte: CTExponent 20; certificates, challenge, fresh measurements with signature, and chunking.
The two size limits are free. -/
def spdmCapabilities (req : List Byte) (s : State) : State :=
  let version := fieldLe req 0 1
  if s.host.spdm ≠ 1 then s.spdmFail seUnexpected
  else if version ≠ 0x12 ∧ version ≠ 0x13 then s.spdmFail 0x41
  else
    let (n, s) := s.draw 54
    let v : Byte := BitVec.ofNat 8 version
    let flags := 2 + 4 + 16 + 32 + 0x20000
    let rsp := [v, 0x61, 0, 0, 0, 20, 0, 0] ++ toLe 4 flags ++ toLe 4 (n % 2 ^ 32) ++ toLe 4 (n / 2 ^ 32 % 2 ^ 32)
    ((s.modHost (fun h => { h with vca := h.vca ++ req ++ rsp })).spdmStep 2).reply rsp

def execGetCapabilities (req : List Byte) (s : State) : Host.Outcome State Fault Refusal := .next (if s.mgmtSpdm then spdmCapabilities req s else s)

/-- NEGOTIATE_ALGORITHMS, its 32 bytes of fixed form and what the requester sent after them: from its masks of signature and hash algorithms, at
bytes 8 and 12, ECDSA P-384 and SHA-384, and no others. -/
def spdmAlgorithms (req ext : List Byte) (s : State) : State :=
  if s.host.spdm ≠ 2 then s.spdmFail seUnexpected
  else if bitOf (fieldLe req 8 4) 7 = false ∨ bitOf (fieldLe req 12 4) 1 = false then s.spdmFail seInvalid
  else
    let rsp : List Byte := [s.spdmVer, 0x63, 0, 0] ++ toLe 2 36 ++ [1, 0] ++ toLe 4 4 ++ toLe 4 0x80 ++ toLe 4 2 ++ List.replicate 16 0
    ((s.modHost (fun h => { h with vca := h.vca ++ req ++ ext ++ rsp })).spdmStep 3).reply rsp

def execNegotiateAlgorithms (req ext : List Byte) (s : State) : Host.Outcome State Fault Refusal := .next (if s.mgmtSpdm then spdmAlgorithms req ext s else s)

/-- The certificate chains (R458): slot 0 Sibourn's, slot 1 the drive maker's once written; each follows its length in the NV store. -/
def chainAt (slot : Nat) : Nat := if slot = 0 then 0x28800 else 0x29C00

def State.certChain (s : State) (slot : Nat) : List Byte :=
  if 1 < slot then []
  else
    let n := s.nvsNat (chainAt slot) 2
    if n = 0 ∨ 0x13FE < n then [] else s.nvsBytes (chainAt slot + 2) n

/-- The slots that hold a chain. -/
def State.certSlots (s : State) : Nat := ofBool (!(s.certChain 0).isEmpty) + 2 * ofBool (!(s.certChain 1).isEmpty)

/-- GET_DIGESTS. -/
def spdmDigests (s : State) : State :=
  if s.host.spdm ≠ 3 then s.spdmFail seUnexpected
  else
    let ds := ([0, 1].filter (fun k => bitOf s.certSlots k)).map (fun k => slice (Config.sha384 (s.certChain k)) 0 48)
    let rsp := [s.spdmVer, 0x01, 0, BitVec.ofNat 8 s.certSlots] ++ ds.flatten
    (s.modHost (fun h => { h with tb := h.tb ++ [s.spdmVer, 0x81, 0, 0] ++ rsp })).reply rsp

def execGetDigests (s : State) : Host.Outcome State Fault Refusal := .next (if s.mgmtSpdm then spdmDigests s else s)

/-- GET_CERTIFICATE: a part of the chain of a slot. -/
def spdmCertificate (slot offset len : Nat) (s : State) : State :=
  let c := s.certChain slot
  if s.host.spdm ≠ 3 then s.spdmFail seUnexpected
  else if c.isEmpty ∨ c.length ≤ offset then s.spdmFail seInvalid
  else
    let part := (c.drop offset).take len
    let rsp := [s.spdmVer, 0x02, BitVec.ofNat 8 slot, 0] ++ toLe 2 part.length ++ toLe 2 (c.length - offset - part.length) ++ part
    let req := [s.spdmVer, 0x82, BitVec.ofNat 8 slot, 0] ++ toLe 2 offset ++ toLe 2 len
    (s.modHost (fun h => { h with tb := h.tb ++ req ++ rsp })).reply rsp

def execGetCertificate (slot offset len : Nat) (s : State) : Host.Outcome State Fault Refusal :=
  .next (if s.mgmtSpdm then spdmCertificate slot offset len s else s)

/-- A signature by the identity key over a transcript (R450, R458). -/
def State.spdmSign (s : State) (context : List Byte) (m : List Byte) : List Byte × State :=
  let (n, s) := s.draw 44
  (slice (Config.ecdsaSign s.deviceSeed n (slice (Config.sha384 (context ++ slice (Config.sha384 m) 0 48)) 0 48)) 0 96, s)

/-- The type of a measurement (file 14, the slot table): 0 immutable ROM, 1 mutable firmware, 2 hardware and 3 firmware configuration. -/
def measType (slot : Nat) : Nat :=
  if slot = 0 ∨ slot = 3 then 0 else if slot = 1 then 2 else if slot = 4 ∨ slot = 10 then 3 else 1

/-- A measurement block, by index (R458). -/
def State.measBlock (s : State) (index : Nat) : Option (List Byte) :=
  let block := fun (type : Nat) (v : List Byte) =>
    [BitVec.ofNat 8 index, 1] ++ toLe 2 (v.length + 3) ++ [BitVec.ofNat 8 type] ++ toLe 2 v.length ++ v
  if 1 ≤ index ∧ index ≤ 16 then some (block (measType (index - 1)) (s.meas (index - 1)))
  else if index = 17 then some (block 4 (slice (Config.sha384 s.currentRecord) 0 48))
  else if index = 0xFD then some (block 0x84 s.currentRecord)
  else none

/-- The characters of a text. -/
def ascii (t : String) : List Byte := t.toList.map (fun c => BitVec.ofNat 8 c.toNat)

/-- The prefix of what SPDM 1.2 and 1.3 sign, 100 bytes: the version's name four times, zeros, and what is signed. -/
def State.spdmContext (s : State) (what : String) : List Byte :=
  let p := ascii (if s.spdmVer = 0x12 then "dmtf-spdm-v1.2.*" else "dmtf-spdm-v1.3.*")
  p ++ p ++ p ++ p ++ List.replicate (36 - what.length) 0 ++ ascii what

/-- The requester's context, 8 bytes, which version 1.3 sends and the response returns; `nonce` holds the nonce and then the context. -/
def State.spdmCtx (s : State) (nonce : List Byte) : List Byte := if s.spdmVer = 0x13 then slice nonce 32 8 else []

/-- CHALLENGE: the chain's hash, a nonce, the summary of the measurements where it is asked for, and a signature over the exchange. -/
def spdmChallenge (slot summary : Nat) (nonce : List Byte) (s : State) : State :=
  let c := s.certChain slot
  if s.host.spdm ≠ 3 then s.spdmFail seUnexpected
  else if c.isEmpty then s.spdmFail seInvalid
  else
    let ctx := s.spdmCtx nonce
    let req := [s.spdmVer, 0x83, BitVec.ofNat 8 slot, BitVec.ofNat 8 summary] ++ slice nonce 0 32 ++ ctx
    let (own, s) := s.drawBytes 55 32
    let all := ((List.range 17).map (fun k => (s.measBlock (k + 1)).getD [])).flatten
    let sum := if summary = 0 then [] else slice (Config.sha384 all) 0 48
    let head := [s.spdmVer, 0x03, BitVec.ofNat 8 slot, BitVec.ofNat 8 s.certSlots] ++ slice (Config.sha384 c) 0 48 ++ own ++ sum ++ toLe 2 0 ++ ctx
    let (sig, s) := s.spdmSign (s.spdmContext "responder-challenge_auth signing") (s.host.vca ++ s.host.tb ++ req ++ head)
    (s.modHost (fun h => { h with tb := [] })).reply (head ++ sig)

def execSpdmChallenge (slot summary : Nat) (nonce : List Byte) (s : State) : Host.Outcome State Fault Refusal :=
  .next (if s.mgmtSpdm then spdmChallenge slot summary nonce s else s)

/-- GET_MEASUREMENTS: index 0 asks how many there are, FFh for them all but the record itself; with a signature over the exchange where it
is asked for. -/
def spdmMeasurements (index slot : Nat) (signed : Bool) (nonce : List Byte) (s : State) : State :=
  let blocks : Option (List (List Byte)) :=
    if index = 0 then some []
    else if index = 0xFF then some ((List.range 17).map (fun k => (s.measBlock (k + 1)).getD []))
    else (s.measBlock index).map (fun b => [b])
  match blocks with
  | none => if s.host.spdm ≠ 3 then s.spdmFail seUnexpected else s.spdmFail seInvalid
  | some bs =>
    if s.host.spdm ≠ 3 then s.spdmFail seUnexpected
    else if signed ∧ (s.certChain slot).isEmpty then s.spdmFail seInvalid
    else
      let ctx := s.spdmCtx nonce
      let req := [s.spdmVer, 0xE0, BitVec.ofNat 8 (ofBool signed), BitVec.ofNat 8 index] ++
        (if signed then slice nonce 0 32 ++ [BitVec.ofNat 8 slot] else []) ++ ctx
      let (own, s) := s.drawBytes 55 32
      let rec_ := bs.flatten
      let head := [s.spdmVer, 0x60, BitVec.ofNat 8 (if index = 0 then 18 else 0), BitVec.ofNat 8 slot] ++ toLe 1 bs.length ++ toLe 3 rec_.length ++ rec_ ++ own ++
        toLe 2 0 ++ ctx
      if signed then
        let (sig, s) := s.spdmSign (s.spdmContext "responder-measurements signing") (s.host.vca ++ s.host.tl ++ req ++ head)
        (s.modHost (fun h => { h with tl := [] })).reply (head ++ sig)
      else (s.modHost (fun h => { h with tl := h.tl ++ req ++ head })).reply head

def execGetMeasurements (index slot : Nat) (signed : Bool) (nonce : List Byte) (s : State) : Host.Outcome State Fault Refusal :=
  .next (if s.mgmtSpdm then spdmMeasurements index slot signed nonce s else s)

/-! ### Security Send and Receive (file 10, the admin command table; R337) -/

/-- An SPDM request as it stands in a Security Send. -/
def spdmRequest (m : List Byte) (s : State) : State :=
  let c := fieldLe m 1 1
  let p1 := fieldLe m 2 1
  let p2 := fieldLe m 3 1
  if c = 0x84 then spdmVersion s
  else if c = 0xE1 then spdmCapabilities (slice m 0 20) s
  else if c = 0xE3 then spdmAlgorithms (slice m 0 32) (slice m 32 (fieldLe m 4 2 - 32)) s
  else if c = 0x81 then spdmDigests s
  else if c = 0x82 then spdmCertificate (p1 % 16) (fieldLe m 4 2) (fieldLe m 6 2) s
  else if c = 0x83 then spdmChallenge (p1 % 16) p2 (slice m 4 40) s
  else if c = 0xE0 then
    if bitOf p1 0 then spdmMeasurements p2 (fieldLe m 36 1 % 16) true (slice m 4 32 ++ slice m 37 8) s
    else spdmMeasurements p2 0 false (List.replicate 32 0 ++ slice m 4 8) s
  else s.spdmFail seUnsupported

/-- SECURITY_SEND: SPDM is answered, for a Security Receive to fetch; a drive-maker protocol goes to drive firmware. -/
def securitySend (t : Nat) (data : List Byte) (x : Tag) (s : State) : State :=
  let p := x.dw 10 / 0x1000000
  let d := slice data 0 (x.dw 11)
  if p = 0xE8 then
    let r := spdmRequest d s
    (r.modHost (fun h => { h with secOut := h.mgmt, mgmt := s.host.mgmt })).okTag t x
  else if 0xF0 ≤ p then (s.modHost (fun h => { h with sec := d })).okTag t x
  else s.failTag t x stField

def execSecuritySend (tag : TagNo) (data : List Byte) (s : State) : Host.Outcome State Fault Refusal :=
  .next (adminRow tag 0x81 (securitySend tag data) s)

/-- SECURITY_RECEIVE: the list of protocols, the SPDM response, or what drive firmware gives, which is free. -/
def securityReceive (t : Nat) (x : Tag) (s : State) : State :=
  let p := x.dw 10 / 0x1000000
  let n := x.dw 11
  if p = 0 then
    let l : List Byte := [0x00, 0xE8, 0xF0, 0xF1, 0xF2, 0xF3, 0xF4, 0xF5, 0xF6, 0xF7, 0xF8, 0xF9, 0xFA, 0xFB, 0xFC, 0xFD, 0xFE, 0xFF]
    s.giveData t x (slice (toLe 6 0 ++ [0, BitVec.ofNat 8 l.length] ++ l) 0 n)
  else if p = 0xE8 then s.giveData t x (slice s.host.secOut 0 n)
  else if 0xF0 ≤ p then
    let (b, s) := s.drawBytes 56 n
    s.giveData t x b
  else s.failTag t x stField

def execSecurityReceive (tag : TagNo) (s : State) : Host.Outcome State Fault Refusal := .next (adminRow tag 0x82 (securityReceive tag) s)

end Sys2Proof.Machine
end

