-- ==== Sys2Proof/Machine/Fabric.lean ====
section
/-!
DEFINITION. A register access at any fabric address (R3-R14): bus errors, reads with their captures and side effects, Basic and Expert writes, the Expert key word (R100), and the access of an unlocked debug port (R462).
-/

namespace Sys2Proof.Machine

/-! ### Plain writes -/

/-- A write to a register that has no row of its own (R12, R13): RW fields are set and W1C bits of 1 clear. -/
def plainWrite (a : Nat) (v : Word) (s : State) : State :=
  match regAt a with
  | none => s
  | some d =>
    let ones := v &&& BitVec.ofNat 32 d.w1c
    let s := s.setRW a v
    if ones = 0 then s else s.clearBits a ones

/-- A write that waits for the next tick of channel n (R129, R136). -/
def State.duePush (s : State) (n a : Nat) (v : Word) : State := s.modDemod n (fun d => { d with due := d.due ++ [(a, v)] })

/-! ### Writes with an effect -/

/-- WCNT_CLR (file 08): bits 0 to 3 the sector counters, bit 4 WNO_DESC_CNT. -/
def wcntClr (n v : Nat) (s : State) : State :=
  let s := (List.range 4).foldl (fun s i => if bitOf v i then s.set64 (WSECT_LO n i) (WSECT_HI n i) 0 else s) s
  if bitOf v 4 then s.setNum (WNO_DESC_CNT n) 0 else s

/-- LM_CTL: RELOAD, START and STOP in this order, after the RW field. -/
def lmCtlWrite (n : Nat) (v : Word) (s : State) : State :=
  let s := s.setRW (LM_CTL n) v
  let s := if bitOf v.toNat 29 then lmReload n s else s
  let s := if bitOf v.toNat 31 then lmStart n s else s
  if bitOf v.toNat 30 then lmStop n s else s

/-- RCV_CMD: ABORT wins over GO. -/
def rcvCmdWrite (n v : Nat) (s : State) : State :=
  if bitOf v 31 then rcvAbort n s else if bitOf v 30 then rcvGo n (bitsOf v 2 0) (bitsOf v 6 4) s else s

/-- TA_CMD (R400): READ_RAW wins over WRITE_RAW. -/
def taCmdWrite (m v : Nat) (s : State) : State :=
  if bitOf v 0 then readRaw m s else if bitOf v 1 then writeRaw m s else s

/-- The LOOP registers of settings, beside those that derive coefficients: they take effect at a tick (R129, R136). -/
def loopSetting (n a : Nat) : Bool := (decide (FF_CFG n ≤ a) && decide (a ≤ LOOP_MANUAL n)) || decide (a = LOAD_CFG n)

/-- Writes of DEMOD and LOOP registers (files 04 and 05). -/
def servoWrite (n a : Nat) (v : Word) (s : State) : Option State :=
  if a = DEMOD_CTL n then some (demodCtlWrite n v s)
  else if a = TELEM_CTL n then some (s.duePush n a v)
  else if a = DEMOD_CNT_CLR n then some (demodCntClr n v s)
  else if a = LOOP_CMD n then
    let c := v.toNat % 8
    some (if c = 0 ∨ c = 7 then s else (s.rcvFoul n).writeCmd n c (bitOf v.toNat 8))
  else if a = LOOP_TARGET_LO n ∨ a = LOOP_TARGET_HI n then some ((s.rcvFoul n).setRW a v)
  else if a = SEEK_POLICY n then some (seekPolicyWrite n v s)
  else if PLANT n ≤ a ∧ a ≤ NOTCH n 3 then some (coeffDerive n ((a - PLANT n) / 4) v s)
  else if loopSetting n a then some (s.duePush n a v)
  else if a = CLV_CTL n then some (if bitOf v.toNat 0 then s.retractLane n else s)
  else none

/-- Writes of the read channel's registers (file 07). -/
def readChWrite (n a : Nat) (v : Word) (s : State) : Option State :=
  if a = FMT_SEL n then some (fmtSelWrite n v s)
  else if a = RCV_CMD n then some (rcvCmdWrite n v.toNat s)
  else if RCV_DESC n 0 ≤ a ∧ a ≤ RCV_DESC n 7 ∧ s.flag (RCV_STAT_BUSY n) then some s
  else if a = DET_CNT_CLR n then some (detectCntClr n v.toNat s)
  else if a = SJ_CMD n then some (if bitOf v.toNat 7 then sjGo n (v.toNat % 128) s else s)
  else if a = DZ_RATE n (s.get (DET_STAT_ZONE n)) ∨ a = DZ_FMT n (s.get (DET_STAT_ZONE n)) then some (s.duePush n a v)
  else none

/-- Writes of the write path's registers (file 08). -/
def writeChWrite (n a : Nat) (v : Word) (s : State) : Option State :=
  if a = WR_POLICY n then some (wrPolicyWrite n v s)
  else if WR_HEAD n 0 ≤ a ∧ a ≤ WR_HEAD n 5 then some (wrHeadWrite n ((a - WR_HEAD n 0) / 4) v s)
  else if a = WCNT_CLR n then some (wcntClr n v.toNat s)
  else if a = AS_PREHEAT n then some (asPreheatWrite n v s)
  else if a = FLY_CTL n then
    let s' := s.setRW a v
    some (if s'.rd a = s.rd a then s' else s'.modPau n (fun p => { p with htrDue := true }))
  else if a = FLY_REQ n then some (flyReqWrite n v s)
  else if a = FLY_CCMD n then
    let s := if bitOf v.toNat 31 then flyGo n (v.toNat % 8) s else s
    some (if bitOf v.toNat 30 then flyAbort n s else s)
  else if FLY_CLR n 0 ≤ a ∧ a ≤ FLY_CLR n 5 then some (flyDerive n 0 ((a - FLY_CLR n 0) / 4) v s)
  else if FLY_EFF n 0 ≤ a ∧ a ≤ FLY_EFF n 5 then some (flyDerive n 1 ((a - FLY_EFF n 0) / 4) v s)
  else if FLY_PROT n 0 ≤ a ∧ a ≤ FLY_PROT n 5 then some (flyDerive n 2 ((a - FLY_PROT n 0) / 4) v s)
  else if a = PA_CMD n then some (if bitOf v.toNat 0 then s.armPreamp n else s)
  else if a = PA_QCMD n then some (if bitOf v.toNat 31 then paQcmd n v.toNat s else s)
  else none

/-- Writes of the sequencer's registers (file 13). -/
def lomunWrite (n a : Nat) (v : Word) (s : State) : Option State :=
  if a = LM_CTL n then some (lmCtlWrite n v s)
  else if a = LM_LOAD_DATA n 7 then some (lmLoad n v s)
  else if LM_LOAD_DATA n 0 ≤ a ∧ a < LM_LOAD_DATA n 7 then
    some (s.modLmu n (fun l => { l with stage := modAt l.stage ((a - LM_LOAD_DATA n 0) / 4) (fun _ => v) }))
  else if LM_G n 0 ≤ a ∧ a ≤ LM_G n 15 then some (if a = LM_G n 0 ∨ s.flag (LM_STAT_RUN n) then s else s.setRW a v)
  else none

/-- Writes of the registers of channel die n that have an effect of their own. -/
def chWrite (n a : Nat) (v : Word) (s : State) : Option State :=
  (((servoWrite n a v s).or (readChWrite n a v s)).or (writeChWrite n a v s)).or (lomunWrite n a v s)

/-- CORE_CTL (R411, R414, R415): setting WDOG_EN starts the watchdog's period, WARM acts on a running core, START on one in reset. -/
def coreCtlWrite (c : Nat) (v : Word) (s : State) : State :=
  let on := !(s.flag (CORE_CTL_WDOG_EN (coreBase c))) && bitOf v.toNat 16
  let s := s.setRW (CORE_CTL (coreBase c)) v
  let s := if on then wdKick c s else s
  let s := if bitOf v.toNat 30 then coreWarm c s else s
  if bitOf v.toNat 31 then coreStart c s else s

/-- POOL_CMD (file 12): INIT wins over OFF. -/
def poolCmdWrite (p v : Nat) (s : State) : State :=
  let s := if bitOf v 2 then poolClrLow p s else s
  if bitOf v 1 then poolInit p s else if bitOf v 0 then s.put (POOL_STAT_STATE p) 0 else s

/-- DCMD (R376, R377): other values of OP have no effect. -/
def dramCmdWrite (v : Nat) (s : State) : State :=
  if bitsOf v 31 28 = 1 then invalidateCmd (bitsOf v 19 0) s else if bitsOf v 31 28 = 2 then spareCmd s else s

/-- SC_MOP_CMD (R393): other values of OP have no effect. -/
def mopWrite (op : Nat) (s : State) : State :=
  match op with
  | 1 => mopStart (fun s => s.cleanLines s.mopRange) s
  | 2 => mopStart (fun s => s.invalLines s.mopRange) s
  | 3 => mopStart (fun s => (s.cleanLines s.mopRange).invalLines s.mopRange) s
  | 4 => mopStart (fun s => s.cleanLines (fun _ => true)) s
  | 5 => mopStart State.cleanInvalAll s
  | _ => s

/-- CI_KEYCMD (R403): other values of OP have no effect. -/
def keyCmdWrite (v : Nat) (s : State) : State :=
  if bitsOf v 31 28 = 1 then keyCmd (v % 16) true s else if bitsOf v 31 28 = 2 then keyCmd (v % 16) false s else s

/-- CI_CTL, CAT_CTL: enabling has an effect of its own. -/
def ciCtlWrite (v : Word) (s : State) : State := if bitOf v.toNat 0 then cipherEnable (s.setRW CI_CTL v) else s.setRW CI_CTL v

def catCtlWrite (v : Word) (s : State) : State :=
  let rise := !s.flag CAT_CTL_EN && bitOf v.toNat 0
  let s := (s.setRW CAT_CTL v).put CAT_CTL_EN (ofBool (!rise && bitOf v.toNat 0))
  if rise then catEnable s else s

/-- DBG_CTL (R459, R460, R463). -/
def dbgCtlWrite (v : Nat) (s : State) : State :=
  let s := if bitOf v 31 then dbgChal s else s
  let s := if bitOf v 30 then dbgSubmit s else s
  if bitOf v 29 then s.put DBG_STAT_LEVEL 0 else s

/-- The source of a verdict (R483) where no core is known: one of the die the value names. -/
def verdictSource (src : Nat) (v : Word) : Nat :=
  if src ≤ 16 then src else if v.toNat % 8 = 0 then 0 else if v.toNat % 8 < 5 then 8 + 2 * (v.toNat % 8 - 1) else 16

/-- Writes of the host side's registers (files 09 to 12). -/
def hubDataWrite (a : Nat) (v : Word) (s : State) : Option State :=
  if CTRL_NS 0 ≤ a ∧ a ≤ CTRL_NS 63 then some (ctrlNsWrite ((a - CTRL_NS 0) / 4) v s)
  else if a = WRT_REL then some (wrtRel v s)
  else if a = TD_TAIL then some ((s.setRW a v).drain)
  else if a = DUMP_CMD then some (if bitOf v.toNat 0 then dumpArm s else s)
  else if inArray a (STK_OP 0) 16 0x20 then
    some (stkOp ((a - STK_OP 0) / 0x20) (bitsOf v.toNat 31 28) (v.toNat % 16) (bitOf v.toNat 27) s)
  else if inArray a (POOL_CMD 0) 16 0x10 then some (poolCmdWrite ((a - POOL_CMD 0) / 0x10) v.toNat s)
  else if a = DCMD then some (dramCmdWrite v.toNat s)
  else if a = SC_MOP_CMD then some (mopWrite (v.toNat % 8) s)
  else if a = CI_CTL then some (ciCtlWrite v s)
  else if a = CI_KEYCMD then some (keyCmdWrite v.toNat s)
  else if a = CAT_CTL then some (catCtlWrite v s)
  else none

/-- Writes of the HUB's other registers (files 13 to 15 and 18). -/
def hubSysWrite (src a : Nat) (v : Word) (s : State) : Option State :=
  if a = EV_SEND then some (s.sendEvent (v.toNat % 512))
  else if EV_ROUTE 0 ≤ a ∧ a ≤ EV_ROUTE 127 then some (evRouteWrite ((a - EV_ROUTE 0) / 4) v s)
  else if a = SIG_CMD then some (sigCmd (bitsOf v.toNat 31 28) s)
  else if a = COLO_CTL then some (if bitOf v.toNat 0 ∧ 7 ≤ s.get BOOT_STAT_STAGE then s.closeRecord else s)
  else if a = UPD_CMD then some (updCmd (bitsOf v.toNat 31 28) (v.toNat % 16) s)
  else if a = UPD_ST then some (updSt (verdictSource src v) v s)
  else if a = UPD_UNSEAL then some (updUnseal v s)
  else if a = OTP_PROG then some (otpProgWrite v s)
  else if a = DBG_CTL then some (dbgCtlWrite v.toNat s)
  else if a = UART_DATA then some (uartWrite v s)
  else if a = XS_CMD then some (xsCmd (bitsOf v.toNat 31 28) s)
  else if a = GPIO_OUT ∨ a = GPIO_OE then some (gpioDrive a v s)
  else none

/-- SHOCK_CTL: while EN is 0, RV_NOW carries 0 (R150). -/
def shockCtlWrite (v : Word) (s : State) : State :=
  let s := s.setRW SHOCK_CTL v
  if s.flag SHOCK_CTL_EN then s else s.setNum RV_NOW 0

/-- ALOG_CTL (R502, R504). -/
def alogCtlWrite (v : Nat) (s : State) : State :=
  let s := if bitOf v 0 then alogFreeze s else s
  let s := if bitOf v 1 then s.alogUnfreeze else s
  if bitOf v 2 then s.alogCopy else s

/-- THR_LIM of a die (R78): a value above the THERMAL record's takes that value. -/
def thrLimWrite (d : Nat) (v : Word) (s : State) : State :=
  let s := s.put (THR_LIM_WARM d) (min (bitsOf v.toNat 7 0) (s.imgNat (fun i => i.warm d)))
  let s := s.put (THR_LIM_HOT d) (min (bitsOf v.toNat 15 8) (s.imgNat (fun i => i.hot d)))
  s.put (THR_LIM_CRIT d) (min (bitsOf v.toNat 23 16) (s.imgNat (fun i => i.crit d)))

/-- Whether every trained port is in L1.2 (R511), where no command tells: the outside decides. -/
def ladderWrite (v : Word) (s : State) : State :=
  let (l, s) := s.draw 57
  ladderCmd v (bitOf l 0) s

/-- Writes of the KPR's registers. -/
def kprWrite (a : Nat) (v : Word) (s : State) : Option State :=
  if a = SPIN_CMD then some (spinWrite (v.toNat % 8) s)
  else if a = SPIN_CFG then some (spinCfgWrite v s)
  else if a = CLS_CMD then some (clsWrite v.toNat s)
  else if a = SHOCK_CTL then some (shockCtlWrite v s)
  else if a = SHOCK_STAT then some (if bitOf v.toNat 31 then shockTripClear s else s)
  else if a = INV_NOTE_DATA then some (noteWrite v s)
  else if a = BOOT_CTL then some (fullBootRequest v s)
  else if a = NVS_DATA then some (nvsDataWrite v s)
  else if a = ALOG_CTL then some (alogCtlWrite v.toNat s)
  else if a = FATAL_CMD then some (fatalCmd v s)
  else if a = ACT_STATE then some (actStateWrite v s)
  else if inArray a (WR_GO 0) 17 0x10 then some (wrGo ((a - WR_GO 0) / 0x10) v s)
  else if a = LADDER_CMD then some (ladderWrite v s)
  else if a = MAX_RUNG then some (maxRungWrite v s)
  else if inArray a (THR_LIM 0) 8 4 then some (thrLimWrite ((a - THR_LIM 0) / 4) v s)
  else none

/-- Writes of a link end's registers (R24, R34): `o` is the offset in its block, `src` the core that writes. -/
def linkWrite (src e o : Nat) (v : Word) (s : State) : Option State :=
  if o = 0x0C then
    let s := linkPolicy e s
    let s := if bitOf v.toNat 0 then s.setNum (MSG_DROP (linkBase e)) 0 else s
    some (if bitOf v.toNat 1 ∧ s.linkOn e then retrain e s else s)
  else if 0x110 ≤ o ∧ o < 0x200 then
    let q := (o - 0x110) / 0x20
    match (o - 0x110) % 0x20 with
    | 0 => some (txStage e q v s)
    | 4 => some (txAppend src e q v s)
    | 8 => some (if bitOf v.toNat 1 then txDiscard e q s else if bitOf v.toNat 0 then txGo e q s else s)
    | _ => none
  else none

/-- The link end whose Basic registers an address lies in. -/
def linkEndAt (a : Nat) : Option Nat := (List.range 10).find? (fun e => decide (linkBase e ≤ a) && decide (a < linkBase e + 0x200))

/-- Writes of the registers every unit of a kind has: EXPERT_UNLOCK (R100), CAL_CTL (R58), CORE_CTL (R415), MEM_CNT_CLR. -/
def commonWrite (a : Nat) (v : Word) (s : State) : Option State :=
  if addrOff a = 0xFF0 ∧ (regAt a).isSome then
    let key := 0x0E590000 + addrDie a * 0x100 + addrUnit a
    some (s.wr (expertStat a) (insertBits (s.rd (expertStat a)) 1 1 (ofBool (decide (v.toNat = key) && bitOf (s.num (expertStat a)) 0))))
  else
    match (List.range 18).find? (fun u => decide (calBase u + 0xF00 = a)) with
    | some u => some (if bitOf v.toNat 31 then calStart u (s.setRW a v) else calPolicy u (s.setRW a v))
    | none =>
      match (List.range 16).find? (fun c => decide (CORE_CTL (coreBase c) = a)) with
      | some c => some (coreCtlWrite c v s)
      | none =>
        match (List.range 7).find? (fun m => decide (MEM_CNT_CLR (memUnit m) = a)) with
        | some m => some (memCntClr m v s)
        | none => none

/-- What a write of a Basic register whose description gives it an effect of its own does; none for a plain register (R12). -/
def ownWrite (src a : Nat) (v : Word) (s : State) : Option State :=
  let own := match addrDie a with
    | 0 => (hubDataWrite a v s).or (hubSysWrite src a v s)
    | 5 => kprWrite a v s
    | d => chWrite (d - 1) a v s
  let link := match linkEndAt a with
    | some e => linkWrite src e (a - linkBase e) v s
    | none => none
  (own.or link).or (commonWrite a v s)

/-- A Basic-page write (R11-R13). -/
def basicWrite (src a : Nat) (v : Word) (s : State) : State := (ownWrite src a v s).getD (plainWrite a v s)

/-! ### The Expert page (R9, R11, R129, R136) -/

/-- An Expert write that takes effect (R11): the aperture's commands act, DEMOD's and LOOP's parameters change at the next tick, any
other at once; a parameter written is overridden until the next Basic write of its function. -/
def expertEffect (a : Nat) (v : Word) (s : State) : State :=
  match (List.range 7).find? (fun m => decide (TA_CMD (memUnit m) = a)) with
  | some m => taCmdWrite m v.toNat s
  | none =>
    match regAt a with
    | none => s
    | some d =>
      if d.rw = 0 then plainWrite a v s
      else
        let n := addrDie a - 1
        let s := if s.overrides.contains a then s else { s with overrides := s.overrides ++ [a] }
        if 1 ≤ addrDie a ∧ addrDie a ≤ 4 ∧ (addrUnit a = addrUnit (DEMOD_CTL n) ∨ addrUnit a = addrUnit (LOOP_CMD n)) then s.duePush n a v
        else plainWrite a v s

/-- A write to an Expert-page offset (R9): closed, it only sets IGNORED; a unit without an Expert page has no register there (R8). -/
def expertPage (a : Nat) (v : Word) (s : State) : State :=
  match dieKind (addrDie a) with
  | some k => if hasExpert k (addrUnit a) then s.expertGate a (expertEffect a v) else s
  | none => s

/-! ### Accesses -/

/-- Whether an access reaches a unit (R4-R6, R508): an answering die, a populated slot that serves accesses, 32 bits wide and aligned. -/
def State.busOk (s : State) (a width : Nat) : Bool :=
  decide (width = 4) && decide (a % 4 = 0) && s.dieOn (addrDie a) && s.served a &&
    match dieKind (addrDie a) with
    | some k => decide (addrUnit a < unitCount k)
    | none => false

/-- An access that waits: to a LOOP that restarts (R155), or of NVS_DATA while a write is in progress (R465). -/
def State.busWaits (s : State) (a : Nat) : Bool := s.loopWaits a || (decide (a = NVS_DATA) && s.flag NVS_STAT_BUSY)

/-- Keep an access that waits. -/
def State.holdBus (s : State) (a : Nat) (v : Option Nat) : State :=
  if a = NVS_DATA then s.holdNvs (v.map (BitVec.ofNat 32)) else s.holdAccess a v

/-- A register write at any fabric address; `src` is the core it comes from, 16 for the Keeper firmware, 17 where none is known. One that
waits has done nothing yet. -/
def busWrite (src a width : Nat) (v : Word) (s : State) : State :=
  if s.busOk a width = false then s.answer .busError
  else if s.busWaits a then s.answer .waits
  else (if isExpert a then expertPage a v s else basicWrite src a v s).answer .done

/-- A word of a byte array mapped into a unit. -/
def arrayWord (bs : List Byte) (o : Nat) : Word := BitVec.ofNat 32 (fieldLe bs o 4)

/-- Arrays a unit shows beside its registers: the KPR's record buffers (R456), Inventory buffers (R329) and log array (R503), and the
pins (R532). -/
def State.arrayView (s : State) (a : Nat) : Option Word :=
  let o := addrOff a
  if a = GPIO_IN then some (BitVec.ofNat 32 s.gpioLevels.toNat)
  else if addrDie a ≠ 5 then none
  else if addrUnit a = addrUnit BOOT_STAT ∧ 0x4000 ≤ o ∧ o < 0xA000 then
    some (arrayWord (atD s.sig.records ((o - 0x4000) / 0x3000) []) ((o - 0x4000) % 0x3000))
  else if addrUnit a = addrUnit INV_GEN ∧ 0x4000 ≤ o ∧ o < 0xC000 then
    some (arrayWord ((atD s.invBuf ((o - 0x4000) / 0x4000) []).readN 0 ((o - 0x4000) % 0x4000) 4) 0)
  else if addrUnit a = addrUnit ALOG_CTL ∧ 0x40000 ≤ o ∧ o < 0x80000 then
    some (arrayWord (s.logEntry ((o - 0x40000) / 32)) ((o - 0x40000) % 32))
  else none

/-- A register whose write waits for a tick reads as last written on the Basic page (R12, R129), and as the value in force on the
Expert page (R10). -/
def State.dueView (s : State) (a : Nat) : Word :=
  let r := s.readView a
  if isExpert a ∨ ¬(1 ≤ addrDie a ∧ addrDie a ≤ 4) then r
  else
    match (s.demodOf (addrDie a - 1)).due.reverse.find? (fun e => decide (e.1 = a)), regAt a with
    | some e, some d => (r &&& ~~~(BitVec.ofNat 32 d.rw)) ||| (e.2 &&& BitVec.ofNat 32 d.rw)
    | _, _ => r

/-- What a read does and answers (R7, R8, R10, R12): the reads with a side effect of their own, arrays, and registers, whose read
captures the words it names. -/
def basicRead (a : Nat) (s : State) : State :=
  if a = NVS_DATA then nvsDataRead s
  else if a = UART_DATA then uartRead s
  else
    match linkEndAt a with
    | some e =>
      if 0x104 ≤ a - linkBase e ∧ (a - linkBase e - 0x104) % 0x20 = 0 then rxRead e ((a - linkBase e - 0x104) / 0x20) s
      else s.answer (.data (s.readView a).toNat)
    | none =>
      match s.arrayView a with
      | some w => s.answer (.data w.toNat)
      | none => (s.capture a).answer (.data ((s.capture a).dueView a).toNat)

/-- A register read at any fabric address. One that waits has done nothing yet. -/
def busRead (a width : Nat) (s : State) : State :=
  if s.busOk a width = false then s.answer .busError
  else if s.busWaits a then s.answer .waits
  else basicRead a s

/-- A command's register write; one that waits is kept and acts when what it waits for has ended (R155, R465). -/
def accessWrite (a width : Nat) (v : Word) (s : State) : State :=
  let t := busWrite 17 a width v s
  if t.resp = .waits then s.holdBus a (some v.toNat) else t

/-- A command's register read; one that waits is kept and answers when what it waits for has ended (R155, R465). -/
def accessRead (a width : Nat) (s : State) : State :=
  let t := busRead a width s
  if t.resp = .waits then s.holdBus a none else t

/-- The accesses that waited for LOOP's restart act, in the order they came (R155). -/
def State.releaseLoop (s : State) (n : Nat) : State :=
  (s.loopOf n).waiting.foldl (fun s e =>
    match e.2 with
    | some v => accessWrite e.1 4 (BitVec.ofNat 32 v) s
    | none => accessRead e.1 4 s) (s.modLoop n (fun l => { l with waiting := [] }))

/-! ### The commands -/

/-- REGISTER_WRITE (R3-R8, R11-R14). -/
def execRegisterWrite (addr : BitVec 32) (width : Nat) (value : Word) (s : State) : Host.Outcome State Fault Refusal :=
  .next (accessWrite addr.toNat width value s)

/-- EXPERT_WRITE (R6, R9-R11). -/
def execExpertWrite (addr : BitVec 32) (width : Nat) (value : Word) (s : State) : Host.Outcome State Fault Refusal :=
  .next (accessWrite addr.toNat width value s)

/-- WIDE_REGISTER_READ (R7): the named word's read captures the whole value. -/
def execWideRegisterRead (addr : BitVec 32) (s : State) : Host.Outcome State Fault Refusal := .next (accessRead addr.toNat 4 s)

/-- EXPERT_UNLOCK_WRITE (R100): a write of EXPERT_UNLOCK of a unit. -/
def execExpertUnlockWrite (die : Fin 8) (unit : Fin 32) (value : Word) (s : State) : Host.Outcome State Fault Refusal :=
  .next (accessWrite (unitBase die unit + 0xFF0) 4 value s)

/-- LOOP_RESTART_DONE (R155, R159): after it the accesses that waited act. -/
def execLoopRestartDone (ch : Ch) (pass : Bool) (s : State) : Host.Outcome State Fault Refusal :=
  .next (s.ifCh ch (fun s =>
    let t := loopRestartDone ch pass s
    if (t.loopOf ch).restarting then t else t.releaseLoop ch))

/-- The NV store's Keeper and LMS words (R462, R465). -/
def State.nvsSecret (s : State) : Bool := decide (0x18000 ≤ s.nvsAddr) && decide (s.nvsAddr < 0x1A000)

/-- An access from the TAP (R462, R548): below level 1 reads answer 0 and writes do nothing, and so do those of the NV store's Keeper
and LMS words at any level. -/
def dbgFabric (a : Nat) (write : Bool) (v : Word) (s : State) : State :=
  if s.dieOn 0 = false then s
  else if s.get DBG_STAT_LEVEL = 0 ∨ (a = NVS_DATA ∧ s.nvsSecret) then s.answer (if write then .done else .data 0)
  else if write then accessWrite a 4 v s
  else accessRead a 4 s

def execDbgFabric (addr : BitVec 32) (write : Bool) (value : Word) (s : State) : Host.Outcome State Fault Refusal :=
  .next (dbgFabric addr.toNat write value s)

end Sys2Proof.Machine
end

