-- ==== Sys2Proof/Machine/Riscv.lean ====
section
/-!
DEFINITION. The instructions of RV64IMAC with Zicsr and Zifencei and the privileged instructions of machine and user mode (R405): their decoding from 32-bit and compressed words, and the integer operations. The RISC-V specifications give them; the manual names those and does not restate them.
-/

namespace Sys2Proof.Machine

/-! ### Instructions -/

/-- The integer operations of OP and OP-IMM. -/
inductive RvOp where
  | add | sub | sll | slt | sltu | xor | srl | sra | or | and
  deriving DecidableEq, Repr

/-- The operations of the M extension. -/
inductive RvMul where
  | mul | mulh | mulhsu | mulhu | div | divu | rem | remu
  deriving DecidableEq, Repr

/-- The atomic read-modify-writes of the A extension. -/
inductive RvAmo where
  | swap | add | xor | and | or | min | max | minu | maxu
  deriving DecidableEq, Repr

/-- A decoded instruction: registers by number, immediates sign-extended. `w` says that the operation is on 32-bit words; `f` of a
branch, load or store is its funct3; `d` of an atomic says that it is on 64 bits. -/
inductive Rv where
  | lui (rd : Nat) (imm : DWord)
  | auipc (rd : Nat) (imm : DWord)
  | jal (rd : Nat) (imm : DWord)
  | jalr (rd rs1 : Nat) (imm : DWord)
  | branch (f rs1 rs2 : Nat) (imm : DWord)
  | load (f rd rs1 : Nat) (imm : DWord)
  | store (f rs1 rs2 : Nat) (imm : DWord)
  | opImm (o : RvOp) (w : Bool) (rd rs1 : Nat) (imm : DWord)
  | op (o : RvOp) (w : Bool) (rd rs1 rs2 : Nat)
  | mul (o : RvMul) (w : Bool) (rd rs1 rs2 : Nat)
  | fence | fenceI | ecall | ebreak | mret | wfi
  | csr (f rd num src : Nat)
  | lr (d : Bool) (rd rs1 : Nat)
  | sc (d : Bool) (rd rs1 rs2 : Nat)
  | amo (o : RvAmo) (d : Bool) (rd rs1 rs2 : Nat)
  | illegal
  deriving DecidableEq, Repr

/-- An immediate of `n` bits, sign-extended. -/
def immS (n x : Nat) : DWord := BitVec.ofInt 64 (sx n x)

/-! ### 32-bit words -/

/-- Immediates of the B, J and S formats. -/
def immB (w : Nat) : DWord := immS 13 (bitsOf w 31 31 * 0x1000 + bitsOf w 7 7 * 0x800 + bitsOf w 30 25 * 0x20 + bitsOf w 11 8 * 2)
def immJ (w : Nat) : DWord := immS 21 (bitsOf w 31 31 * 0x100000 + bitsOf w 19 12 * 0x1000 + bitsOf w 20 20 * 0x800 + bitsOf w 30 21 * 2)
def immSt (w : Nat) : DWord := immS 12 (bitsOf w 31 25 * 0x20 + bitsOf w 11 7)
def immI (w : Nat) : DWord := immS 12 (bitsOf w 31 20)
def immU (w : Nat) : DWord := immS 32 (bitsOf w 31 12 * 0x1000)

/-- OP-IMM and OP-IMM-32. -/
def rvOpImm (w : Nat) (word : Bool) : Rv :=
  let rd := bitsOf w 11 7
  let rs1 := bitsOf w 19 15
  let top := if word then bitsOf w 31 25 else bitsOf w 31 26 * 2
  let sh := BitVec.ofNat 64 (if word then bitsOf w 24 20 else bitsOf w 25 20)
  match bitsOf w 14 12 with
  | 0 => .opImm .add word rd rs1 (immI w)
  | 1 => if top = 0 then .opImm .sll word rd rs1 sh else .illegal
  | 5 => if top = 0 then .opImm .srl word rd rs1 sh else if top = 0x20 then .opImm .sra word rd rs1 sh else .illegal
  | f =>
    if word then .illegal
    else .opImm (match f with
      | 2 => .slt
      | 3 => .sltu
      | 4 => .xor
      | 6 => .or
      | _ => .and) false rd rs1 (immI w)

/-- OP and OP-32. -/
def rvOp (w : Nat) (word : Bool) : Rv :=
  let rd := bitsOf w 11 7
  let rs1 := bitsOf w 19 15
  let rs2 := bitsOf w 24 20
  let f := bitsOf w 14 12
  match bitsOf w 31 25 with
  | 0 =>
    if word ∧ !([0, 1, 5].contains f) then .illegal
    else .op (match f with
      | 0 => .add
      | 1 => .sll
      | 2 => .slt
      | 3 => .sltu
      | 4 => .xor
      | 5 => .srl
      | 6 => .or
      | _ => .and) word rd rs1 rs2
  | 0x20 => if f = 0 then .op .sub word rd rs1 rs2 else if f = 5 then .op .sra word rd rs1 rs2 else .illegal
  | 1 =>
    if word ∧ 1 ≤ f ∧ f ≤ 3 then .illegal
    else .mul (match f with
      | 0 => .mul
      | 1 => .mulh
      | 2 => .mulhsu
      | 3 => .mulhu
      | 4 => .div
      | 5 => .divu
      | 6 => .rem
      | _ => .remu) word rd rs1 rs2
  | _ => .illegal

/-- AMO: LR, SC and the read-modify-writes. -/
def rvAmo (w : Nat) : Rv :=
  let rd := bitsOf w 11 7
  let rs1 := bitsOf w 19 15
  let rs2 := bitsOf w 24 20
  let f := bitsOf w 14 12
  let d := decide (f = 3)
  if f ≠ 2 ∧ f ≠ 3 then .illegal
  else
    match bitsOf w 31 27 with
    | 2 => if rs2 = 0 then .lr d rd rs1 else .illegal
    | 3 => .sc d rd rs1 rs2
    | 1 => .amo .swap d rd rs1 rs2
    | 0 => .amo .add d rd rs1 rs2
    | 4 => .amo .xor d rd rs1 rs2
    | 12 => .amo .and d rd rs1 rs2
    | 8 => .amo .or d rd rs1 rs2
    | 16 => .amo .min d rd rs1 rs2
    | 20 => .amo .max d rd rs1 rs2
    | 24 => .amo .minu d rd rs1 rs2
    | 28 => .amo .maxu d rd rs1 rs2
    | _ => .illegal

/-- SYSTEM. -/
def rvSystem (w : Nat) : Rv :=
  match bitsOf w 14 12 with
  | 0 =>
    if w = 0x00000073 then .ecall
    else if w = 0x00100073 then .ebreak
    else if w = 0x30200073 then .mret
    else if w = 0x10500073 then .wfi
    else .illegal
  | 4 => .illegal
  | f => .csr f (bitsOf w 11 7) (bitsOf w 31 20) (bitsOf w 19 15)

/-- A 32-bit instruction. -/
def decode32 (w : Nat) : Rv :=
  let rd := bitsOf w 11 7
  let rs1 := bitsOf w 19 15
  let rs2 := bitsOf w 24 20
  let f := bitsOf w 14 12
  match bitsOf w 6 0 with
  | 0x37 => .lui rd (immU w)
  | 0x17 => .auipc rd (immU w)
  | 0x6F => .jal rd (immJ w)
  | 0x67 => if f = 0 then .jalr rd rs1 (immI w) else .illegal
  | 0x63 => if f = 2 ∨ f = 3 then .illegal else .branch f rs1 rs2 (immB w)
  | 0x03 => if f = 7 then .illegal else .load f rd rs1 (immI w)
  | 0x23 => if 4 ≤ f then .illegal else .store f rs1 rs2 (immSt w)
  | 0x13 => rvOpImm w false
  | 0x1B => rvOpImm w true
  | 0x33 => rvOp w false
  | 0x3B => rvOp w true
  | 0x0F => if f = 0 then .fence else if f = 1 then .fenceI else .illegal
  | 0x73 => rvSystem w
  | 0x2F => rvAmo w
  | _ => .illegal

/-! ### Compressed words -/

/-- The registers x8 to x15 of the short fields. -/
def cReg (w lo : Nat) : Nat := 8 + bitsOf w (lo + 2) lo

/-- The 6-bit immediate of bits 12 and 6 to 2. -/
def cImm6 (w : Nat) : Nat := bitsOf w 12 12 * 0x20 + bitsOf w 6 2

def immCB (w : Nat) : DWord :=
  immS 9 (bitsOf w 12 12 * 0x100 + bitsOf w 6 5 * 0x40 + bitsOf w 2 2 * 0x20 + bitsOf w 11 10 * 8 + bitsOf w 4 3 * 2)

def immCJ (w : Nat) : DWord :=
  immS 12 (bitsOf w 12 12 * 0x800 + bitsOf w 8 8 * 0x400 + bitsOf w 10 9 * 0x100 + bitsOf w 6 6 * 0x80 + bitsOf w 7 7 * 0x40 +
    bitsOf w 2 2 * 0x20 + bitsOf w 11 11 * 0x10 + bitsOf w 5 3 * 2)

/-- Offsets of word and doubleword accesses through a base register. -/
def cOffW (w : Nat) : DWord := BitVec.ofNat 64 (bitsOf w 5 5 * 0x40 + bitsOf w 12 10 * 8 + bitsOf w 6 6 * 4)
def cOffD (w : Nat) : DWord := BitVec.ofNat 64 (bitsOf w 6 5 * 0x40 + bitsOf w 12 10 * 8)

/-- Quadrant 0. -/
def decodeC0 (w : Nat) : Rv :=
  match bitsOf w 15 13 with
  | 0 =>
    let u := bitsOf w 10 7 * 0x40 + bitsOf w 12 11 * 0x10 + bitsOf w 5 5 * 8 + bitsOf w 6 6 * 4
    if u = 0 then .illegal else .opImm .add false (cReg w 2) 2 (BitVec.ofNat 64 u)
  | 2 => .load 2 (cReg w 2) (cReg w 7) (cOffW w)
  | 3 => .load 3 (cReg w 2) (cReg w 7) (cOffD w)
  | 6 => .store 2 (cReg w 7) (cReg w 2) (cOffW w)
  | 7 => .store 3 (cReg w 7) (cReg w 2) (cOffD w)
  | _ => .illegal

/-- Quadrant 1's arithmetic on the short registers. -/
def decodeCArith (w : Nat) : Rv :=
  let rd := cReg w 7
  let rs2 := cReg w 2
  match bitsOf w 11 10 with
  | 0 => .opImm .srl false rd rd (BitVec.ofNat 64 (cImm6 w))
  | 1 => .opImm .sra false rd rd (BitVec.ofNat 64 (cImm6 w))
  | 2 => .opImm .and false rd rd (immS 6 (cImm6 w))
  | _ =>
    if bitsOf w 12 12 = 0 then
      .op (match bitsOf w 6 5 with
        | 0 => .sub
        | 1 => .xor
        | 2 => .or
        | _ => .and) false rd rd rs2
    else
      match bitsOf w 6 5 with
      | 0 => .op .sub true rd rd rs2
      | 1 => .op .add true rd rd rs2
      | _ => .illegal

/-- Quadrant 1. -/
def decodeC1 (w : Nat) : Rv :=
  let rd := bitsOf w 11 7
  match bitsOf w 15 13 with
  | 0 => .opImm .add false rd rd (immS 6 (cImm6 w))
  | 1 => if rd = 0 then .illegal else .opImm .add true rd rd (immS 6 (cImm6 w))
  | 2 => .opImm .add false rd 0 (immS 6 (cImm6 w))
  | 3 =>
    if cImm6 w = 0 then .illegal
    else if rd = 2 then
      .opImm .add false 2 2 (immS 10 (bitsOf w 12 12 * 0x200 + bitsOf w 4 3 * 0x80 + bitsOf w 5 5 * 0x40 + bitsOf w 2 2 * 0x20 + bitsOf w 6 6 * 0x10))
    else .lui rd (immS 18 (cImm6 w * 0x1000))
  | 4 => decodeCArith w
  | 5 => .jal 0 (immCJ w)
  | 6 => .branch 0 (cReg w 7) 0 (immCB w)
  | _ => .branch 1 (cReg w 7) 0 (immCB w)

/-- Quadrant 2. -/
def decodeC2 (w : Nat) : Rv :=
  let rd := bitsOf w 11 7
  let rs2 := bitsOf w 6 2
  match bitsOf w 15 13 with
  | 0 => .opImm .sll false rd rd (BitVec.ofNat 64 (cImm6 w))
  | 2 => if rd = 0 then .illegal else .load 2 rd 2 (BitVec.ofNat 64 (bitsOf w 3 2 * 0x40 + bitsOf w 12 12 * 0x20 + bitsOf w 6 4 * 4))
  | 3 => if rd = 0 then .illegal else .load 3 rd 2 (BitVec.ofNat 64 (bitsOf w 4 2 * 0x40 + bitsOf w 12 12 * 0x20 + bitsOf w 6 5 * 8))
  | 4 =>
    if bitsOf w 12 12 = 0 then
      if rs2 ≠ 0 then .op .add false rd 0 rs2 else if rd = 0 then .illegal else .jalr 0 rd 0
    else if rs2 ≠ 0 then .op .add false rd rd rs2
    else if rd = 0 then .ebreak
    else .jalr 1 rd 0
  | 6 => .store 2 2 rs2 (BitVec.ofNat 64 (bitsOf w 8 7 * 0x40 + bitsOf w 12 9 * 4))
  | 7 => .store 3 2 rs2 (BitVec.ofNat 64 (bitsOf w 9 7 * 0x40 + bitsOf w 12 10 * 8))
  | _ => .illegal

/-- A 16-bit instruction. -/
def decodeC (w : Nat) : Rv :=
  match w % 4 with
  | 0 => decodeC0 w
  | 1 => decodeC1 w
  | _ => decodeC2 w

/-! ### Integer operations -/

/-- The low word of a value, sign-extended. -/
def sextW (x : DWord) : DWord := immS 32 x.toNat

/-- An OP operation; on 32-bit words a shift takes the low five bits of its amount, else the low six. -/
def rvAlu (o : RvOp) (w : Bool) (a b : DWord) : DWord :=
  let k := b.toNat % (if w then 32 else 64)
  let r := match o with
    | .add => a + b
    | .sub => a - b
    | .sll => a <<< k
    | .slt => if a.toInt < b.toInt then 1 else 0
    | .sltu => if a.toNat < b.toNat then 1 else 0
    | .xor => a ^^^ b
    | .srl => if w then BitVec.ofNat 64 (a.toNat % 2 ^ 32 / 2 ^ k) else a >>> k
    | .sra => if w then BitVec.ofInt 64 (sx 32 a.toNat / 2 ^ k) else BitVec.ofInt 64 (a.toInt / 2 ^ k)
    | .or => a ||| b
    | .and => a &&& b
  if w then sextW r else r

/-- Division and remainder of integers, rounding toward zero, with the results RISC-V gives for a divisor of 0: all ones, and the
dividend. -/
def divT (a b : Int) : Int := if b = 0 then -1 else Int.tdiv a b
def remT (a b : Int) : Int := if b = 0 then a else Int.tmod a b

/-- An M operation. -/
def rvMul (o : RvMul) (w : Bool) (a b : DWord) : DWord :=
  let n := if w then 32 else 64
  let sa := sx n a.toNat
  let sb := sx n b.toNat
  let ua : Int := (a.toNat % 2 ^ n : Nat)
  let ub : Int := (b.toNat % 2 ^ n : Nat)
  let r : Int := match o with
    | .mul => sa * sb
    | .mulh => sa * sb / 2 ^ 64
    | .mulhsu => sa * ub / 2 ^ 64
    | .mulhu => ua * ub / 2 ^ 64
    | .div => divT sa sb
    | .divu => divT ua ub
    | .rem => remT sa sb
    | .remu => remT ua ub
  if w then sextW (BitVec.ofInt 64 r) else BitVec.ofInt 64 r

/-- An AMO's new value, on 32 or 64 bits. -/
def amoValue (o : RvAmo) (d : Bool) (old new : DWord) : DWord :=
  let n := if d then 64 else 32
  let so := sx n old.toNat
  let sn := sx n new.toNat
  let uo := old.toNat % 2 ^ n
  let un := new.toNat % 2 ^ n
  match o with
  | .swap => new
  | .add => old + new
  | .xor => old ^^^ new
  | .and => old &&& new
  | .or => old ||| new
  | .min => if so ≤ sn then old else new
  | .max => if so ≤ sn then new else old
  | .minu => if uo ≤ un then old else new
  | .maxu => if uo ≤ un then new else old

/-- Whether a branch is taken. -/
def rvTaken (f : Nat) (a b : DWord) : Bool :=
  match f with
  | 0 => decide (a = b)
  | 1 => decide (a ≠ b)
  | 4 => decide (a.toInt < b.toInt)
  | 5 => decide (b.toInt ≤ a.toInt)
  | 6 => decide (a.toNat < b.toNat)
  | _ => decide (b.toNat ≤ a.toNat)

/-- Bytes of a load or store. -/
def rvSize (f : Nat) : Nat := 2 ^ (f % 4)

/-- A loaded value: sign-extended, or zero-extended for funct3 4 to 6. -/
def loadValue (f : Nat) (bs : List Byte) : DWord :=
  if f < 4 then immS (8 * rvSize f) (leNat bs) else BitVec.ofNat 64 (leNat bs)

end Sys2Proof.Machine
end

