-- ==== Sys2Proof/Machine/Hart.lean ====
section
/-!
DEFINITION. One instruction of a core (file 13, R405-R410): physical memory protection, fetches, loads and stores through the L1 caches and the memory maps of R371 and R408, reservations, control and status registers, traps, and the execution of RV64IMAC.
-/

namespace Sys2Proof.Machine

/-! ### Registers -/

/-- Register r; x0 reads 0. -/
def Core.reg (k : Core) (r : Nat) : DWord := if r = 0 then 0 else atD k.x (r - 1) 0

/-- Write register r; a write of x0 is discarded. -/
def Core.setReg (k : Core) (r : Nat) (v : DWord) : Core := if r = 0 then k else { k with x := modAt k.x (r - 1) (fun _ => v) }

/-! ### Physical memory protection (R406) -/

/-- The count of trailing ones of a number, within `n` bits. -/
def trailingOnes : Nat → Nat → Nat
  | 0, _ => 0
  | n + 1, x => if x % 2 = 1 then trailingOnes n (x / 2) + 1 else 0

/-- The addresses entry i matches; none while it is off. The granule is 4 KiB. -/
def Core.pmpRange (k : Core) (i : Nat) : Option (Nat × Nat) :=
  let p := (atD k.pmpaddr i 0).toNat
  match bitsOf (atD k.pmpcfg i 0) 4 3 with
  | 0 => none
  | 1 => some ((if i = 0 then 0 else (atD k.pmpaddr (i - 1) 0).toNat / 0x400 * 0x1000), p / 0x400 * 0x1000)
  | _ =>
    let t := trailingOnes 54 (p / 0x200 * 0x200 + 0x1FF)
    some (p / 2 ^ (t + 1) * 2 ^ (t + 1) * 4, (p / 2 ^ (t + 1) + 1) * 2 ^ (t + 1) * 4)

/-- Whether an access of `n` bytes is allowed, `kind` 0 a read, 1 a write, 2 a fetch: the lowest-numbered entry that matches any byte
decides, and must match every byte; an empty range matches none. -/
def Core.pmpOk (k : Core) (user : Bool) (kind a n : Nat) : Bool :=
  let hit := (List.range 16).find? (fun i =>
    match k.pmpRange i with
    | some r => decide (r.1 < r.2) && decide (r.1 < a + n) && decide (a < r.2)
    | none => false)
  match hit with
  | none => !user
  | some i =>
    let c := atD k.pmpcfg i 0
    (match k.pmpRange i with
      | some r => decide (r.1 ≤ a) && decide (a + n ≤ r.2)
      | none => false) && ((!user && !bitOf c 7) || bitOf c kind)

/-- The mode of loads and stores: that of MPP while MPRV is 1 in machine mode. -/
def Core.dataUser (k : Core) : Bool := if k.user then true else k.mprv && k.mppUser

/-! ### Ends of an instruction -/

/-- An instruction retires: the next pc, and minstret unless inhibited. -/
def State.retire (s : State) (c : Nat) (pc : DWord) : State :=
  s.modCore c (fun k => { k with pc := pc, minstret := if bitOf k.inhibit 2 then k.minstret else k.minstret + 1 })

/-- An exception. -/
def State.except (s : State) (c cause : Nat) (tval : DWord) : State := s.modCore c (fun k => k.trap cause false tval)

/-- An instruction retires with a result in rd. -/
def State.result (s : State) (c rd : Nat) (v pc : DWord) : State := (s.modCore c (fun k => k.setReg rd v)).retire c pc

/-- Exception causes. -/
def exFetch : Nat := 1
def exIllegal : Nat := 2
def exBreak : Nat := 3
def exLoadAlign : Nat := 4
def exLoad : Nat := 5
def exStoreAlign : Nat := 6
def exStore : Nat := 7

/-- mtval of EBREAK: RISC-V allows 0, or the instruction's address; which, the manual leaves open. -/
def breakTval (pc : DWord) : DWord := if Config.freeNat 60 0 % 2 = 1 then pc else 0

/-! ### Loads and stores (R406, R408) -/

/-- The answer of a fabric read of a core (R6): its word, a bus error, or nothing yet, where a read waits. The host side's last answer
stays. -/
def State.fabricRead (s : State) (a n : Nat) : Resp × State :=
  let t := busRead a n s
  (t.resp, t.answer s.resp)

/-- A load. -/
def State.hartLoad (s : State) (c f rd : Nat) (a pc : DWord) : State :=
  let x := a.toNat
  let n := rvSize f
  if (s.coreOf c).pmpOk (s.coreOf c).dataUser 0 x n = false then s.except c exLoad a
  else
    match coreMap c x n with
    | none => s.except c exLoad a
    | some .fabric =>
      if x % n ≠ 0 then s.except c exLoadAlign a
      else
        match s.fabricRead x n with
        | (.data v, s) => s.result c rd (loadValue f (toLe 4 v)) pc
        | (.busError, s) => s.except c exLoad a
        | (_, s) => s
    | some _ =>
      match s.coreBytes c false x n with
      | (some bs, s) => s.result c rd (loadValue f bs) pc
      | (none, s) => s.except c exLoad a

/-- A write of core c that leaves its own reservation standing (R406). -/
def State.ownWrite (s : State) (c : Nat) (a : Nat) (w : Where) (bs : List Byte) : Bool × State :=
  let keep := (s.coreOf c).resv
  let s := s.modCore c (fun k => k.l1Store a bs)
  let r := s.writeAt w bs
  (r.1, r.2.modCore c (fun k => { k with resv := keep }))

/-- A store: to memory it is posted, and a bus error is a machine check of SOURCE 3 (R406, R410). -/
def State.hartStore (s : State) (c f : Nat) (a v pc : DWord) : State :=
  let x := a.toNat
  let n := rvSize f
  if (s.coreOf c).pmpOk (s.coreOf c).dataUser 1 x n = false then s.except c exStore a
  else
    match coreMap c x n with
    | none => s.except c exStore a
    | some .fabric =>
      if x % n ≠ 0 then s.except c exStoreAlign a
      else
        let t := busWrite c x n (BitVec.ofNat 32 v.toNat) s
        if t.resp = .waits then s else if t.resp = .busError then s.except c exStore a else (t.answer s.resp).retire c pc
    | some w =>
      let r := s.ownWrite c x w (toLe n v.toNat)
      if r.1 then r.2.retire c pc else machineCheck c 3 a (r.2.retire c pc)

/-- The checks of an LR, SC or AMO (R406, R408): the place, or the exception it raises. -/
def State.atomicAt (s : State) (c kind : Nat) (a : DWord) (n : Nat) (isLr : Bool) : Where ⊕ Nat :=
  let k := s.coreOf c
  let bad := if isLr then exLoad else exStore
  let x := a.toNat
  if x % n ≠ 0 then .inr (if isLr then exLoadAlign else exStoreAlign)
  else if k.pmpOk k.dataUser kind x n = false ∨ (kind = 1 ∧ !isLr ∧ k.pmpOk k.dataUser 1 x n = false) then .inr bad
  else
    match coreMap c x n with
    | none => .inr bad
    | some .fabric => .inr exStore
    | some w => .inl w

/-- LR. -/
def State.hartLr (s : State) (c : Nat) (d : Bool) (rd : Nat) (a pc : DWord) : State :=
  let n := if d then 8 else 4
  match s.atomicAt c 0 a n true with
  | .inr e => s.except c e a
  | .inl w =>
    match s.readAt w n with
    | (some bs, s) => (s.modCore c (fun k => { k with resv := some (w.resv, 0) })).result c rd (loadValue (if d then 3 else 2) bs) pc
    | (none, s) => s.except c exLoad a

/-- SC: it stores while the reservation covers the address, and ends any reservation. -/
def State.hartSc (s : State) (c : Nat) (d : Bool) (rd : Nat) (a v pc : DWord) : State :=
  let n := if d then 8 else 4
  match s.atomicAt c 1 a n false with
  | .inr e => s.except c e a
  | .inl w =>
    let held := match (s.coreOf c).resv with
      | some (key, _) => decide (key = w.resv)
      | none => false
    let s := s.modCore c (fun k => { k with resv := none })
    if held then
      let r := s.ownWrite c a.toNat w (toLe n v.toNat)
      if r.1 then r.2.result c rd 0 pc else r.2.except c exStore a
    else s.result c rd 1 pc

/-- An AMO, carried out at the point of coherence. -/
def State.hartAmo (s : State) (c : Nat) (o : RvAmo) (d : Bool) (rd : Nat) (a v pc : DWord) : State :=
  let n := if d then 8 else 4
  match s.atomicAt c 1 a n false with
  | .inr e => s.except c e a
  | .inl w =>
    match s.readAt w n with
    | (none, s) => s.except c exStore a
    | (some bs, s) =>
      let old := loadValue (if d then 3 else 2) bs
      let r := s.ownWrite c a.toNat w (toLe n (amoValue o d old v).toNat)
      if r.1 then r.2.result c rd old pc else r.2.except c exStore a

/-! ### Control and status registers (R405-R407) -/

/-- mstatus: MIE, MPIE, MPP, MPRV, TW, and UXL of 64 bits. -/
def Core.mstatus (k : Core) : Nat :=
  ofBool k.mie * 2 ^ 3 + ofBool k.mpie * 2 ^ 7 + (if k.mppUser then 0 else 3) * 2 ^ 11 + ofBool k.mprv * 2 ^ 17 + ofBool k.tw * 2 ^ 21 + 2 ^ 33

/-- A write of mstatus. An MPP that names an absent mode becomes one of the two modes; which, the manual leaves open. -/
def Core.setMstatus (k : Core) (v : Nat) : Core :=
  let mpp := bitsOf v 12 11
  { k with mie := bitOf v 3, mpie := bitOf v 7, mprv := bitOf v 17, tw := bitOf v 21,
           mppUser := if mpp = 0 then true else if mpp = 3 then false else decide (Config.freeNat 61 mpp % 2 = 1) }

/-- A pmpcfg byte as written: bits 6 and 5 read 0; for NA4, and for W without R, one of the legal values is stored, which the manual
leaves open. -/
def pmpCfgLegal (v : Nat) : Nat :=
  let a := if bitsOf v 4 3 = 2 then [0, 1, 3].getD (Config.freeNat 62 v % 3) 0 else bitsOf v 4 3
  let rw := if v % 4 = 2 then [0, 1, 3].getD (Config.freeNat 63 v % 3) 0 else v % 4
  bitsOf v 7 7 * 0x80 + a * 8 + bitsOf v 2 2 * 4 + rw

/-- A write of pmpcfg0 or pmpcfg2: a locked entry stays. -/
def Core.setPmpcfg (k : Core) (base : Nat) (v : Nat) : Core :=
  (List.range 8).foldl (fun k i =>
    if bitOf (atD k.pmpcfg (base + i) 0) 7 then k else { k with pmpcfg := modAt k.pmpcfg (base + i) (fun _ => pmpCfgLegal (v / 256 ^ i % 256)) }) k

/-- A write of pmpaddr i: ignored while its entry is locked, or the next one is locked with TOR. -/
def Core.setPmpaddr (k : Core) (i : Nat) (v : DWord) : Core :=
  let next := atD k.pmpcfg (i + 1) 0
  if bitOf (atD k.pmpcfg i 0) 7 ∨ (bitOf next 7 ∧ bitsOf next 4 3 = 1) then k
  else { k with pmpaddr := modAt k.pmpaddr i (fun _ => BitVec.ofNat 64 (v.toNat % 2 ^ 54)) }

/-- pmpaddr i as read with the 4 KiB granule. -/
def Core.readPmpaddr (k : Core) (i : Nat) : Nat :=
  let p := (atD k.pmpaddr i 0).toNat
  if bitOf (atD k.pmpcfg i 0) 4 then p / 0x200 * 0x200 + 0x1FF else p / 0x400 * 0x400

/-- 64 bits of a set of 512. -/
def word512 (x : BitVec 512) (i : Nat) : Nat := x.toNat / 2 ^ (64 * i) % 2 ^ 64

/-- The set with 64 of its bits replaced. -/
def setWord512 (x : BitVec 512) (i : Nat) (v : DWord) : BitVec 512 :=
  BitVec.ofNat 512 (x.toNat - word512 x i * 2 ^ (64 * i) + v.toNat * 2 ^ (64 * i))

/-- MWEDGE (R407): on a C-core the wedge number and tick source in use, with the ns since the tick: the microseconds that have passed since its row, and
within the present one a free part (notes/assumptions/15.md). -/
def State.mwedge (s : State) (c : Nat) : Nat × State :=
  if c < 8 then (0, s)
  else
    let n := (c - 8) / 2
    let (t, s) := s.draw 58
    let ns := 1000 * (s.mtime - (s.demodOf n).usAt) + t % 1000
    (2 ^ 63 + s.get (WLR_STAT_TICK_SRC n) * 2 ^ 42 + s.get (WLR_STAT_WEDGE n) * 2 ^ 32 + ns % 2 ^ 32, s)

/-- A standard CSR as read; none where the core has none. -/
def State.csrStd (s : State) (c num : Nat) : Option Nat :=
  let k := s.coreOf c
  match num with
  | 0x300 => some k.mstatus
  | 0x301 => some 0x8000000000101105
  | 0x304 => some k.ie.toNat
  | 0x305 => some k.mtvec.toNat
  | 0x306 => some 0
  | 0x30A => some 0
  | 0x320 => some k.inhibit
  | 0x340 => some k.mscratch.toNat
  | 0x341 => some k.mepc.toNat
  | 0x342 => some k.mcause.toNat
  | 0x343 => some k.mtval.toNat
  | 0x344 => some (s.mip c)
  | 0x3A0 => some (leNat ((List.range 8).map (fun i => BitVec.ofNat 8 (atD k.pmpcfg i 0))))
  | 0x3A2 => some (leNat ((List.range 8).map (fun i => BitVec.ofNat 8 (atD k.pmpcfg (8 + i) 0))))
  | 0xB00 => some k.mcycle.toNat
  | 0xB02 => some k.minstret.toNat
  | 0xC00 => some k.mcycle.toNat
  | 0xC01 => some s.mtime
  | 0xC02 => some k.minstret.toNat
  | 0xF11 => some 0
  | 0xF12 => some 0
  | 0xF13 => some 0x844021
  | 0xF14 => some c
  | 0xF15 => some 0
  | n =>
    if 0x3B0 ≤ n ∧ n < 0x3C0 then some (k.readPmpaddr (n - 0x3B0))
    else if (0x323 ≤ n ∧ n < 0x340) ∨ (0xB03 ≤ n ∧ n < 0xB20) ∨ (0xC03 ≤ n ∧ n < 0xC20) then some 0
    else none

/-- A custom CSR as read (R407), with what the read does; none where there is none. -/
def State.csrCustom (s : State) (c num : Nat) : Option (Nat × State) :=
  let k := s.coreOf c
  match num with
  | 0x7C0 => some (s.claim c)
  | 0x7C1 => some (0, s)
  | 0x7C2 => some (0, s)
  | 0x7C3 => some (k.timecmp.toNat, s)
  | 0x7C4 => some (0, s)
  | 0x7C5 => some (0, s)
  | 0x7C6 => some (k.inject, s)
  | 0x7C7 => some (k.chkCause.toNat, s)
  | 0x7D0 => some (k.chkAddr.toNat, s)
  | 0xFC8 => some (s.imgNat (fun i => i.roleImage c) * 0x10000 + s.roleOf c * 0x100 + (if c < 8 then 0 else 0x10), s)
  | 0xFC9 => some (k.warm * 0x100 + k.bootCause % 16, s)
  | 0xFCA => some (s.mtime, s)
  | 0xFCB => some (s.mwedge c)
  | n =>
    if 0x7C8 ≤ n ∧ n ≤ 0x7CF then some (word512 k.even (n - 0x7C8), s)
    else if 0xFC0 ≤ n ∧ n ≤ 0xFC7 then some (word512 (atD s.pend c 0) (n - 0xFC0), s)
    else none

/-- A CSR as read. -/
def State.csrRead (s : State) (c num : Nat) : Option (Nat × State) :=
  match s.csrStd c num with
  | some v => some (v, s)
  | none => s.csrCustom c num

/-- A write of a standard CSR; those that are read-only in part or whole keep those bits. -/
def Core.csrWriteStd (k : Core) (num : Nat) (v : DWord) : Core :=
  match num with
  | 0x300 => k.setMstatus v.toNat
  | 0x304 => { k with ie := v &&& 0x10880 }
  | 0x305 =>
    { k with mtvec := BitVec.ofNat 64 (v.toNat / 4 * 4 + (if v.toNat % 4 < 2 then v.toNat % 4 else Config.freeNat 64 (v.toNat % 4) % 2)) }
  | 0x320 => { k with inhibit := Nat.land v.toNat 5 }
  | 0x340 => { k with mscratch := v }
  | 0x341 => { k with mepc := BitVec.ofNat 64 (v.toNat / 2 * 2) }
  | 0x342 => { k with mcause := v }
  | 0x343 => { k with mtval := v }
  | 0x3A0 => k.setPmpcfg 0 v.toNat
  | 0x3A2 => k.setPmpcfg 8 v.toNat
  | 0xB00 => { k with mcycle := v }
  | 0xB02 => { k with minstret := v }
  | n => if 0x3B0 ≤ n ∧ n < 0x3C0 then k.setPmpaddr (n - 0x3B0) v else k

/-- MCHKCAUSE (R407): writing 0 to VALID clears it, with its pending interrupt; SOURCE takes the value written. -/
def Core.setChk (k : Core) (v : Nat) : Core :=
  let valid := bitOf k.chkCause.toNat 63 && bitOf v 63
  { k with chkCause := BitVec.ofNat 64 (ofBool valid * 2 ^ 63 + v % 256), mchk := k.mchk && valid }

/-- A write of a CSR (R407, R409, R414, R419, R421, R435). -/
def State.csrWrite (s : State) (c num : Nat) (v : DWord) : State :=
  match num with
  | 0x7C1 => s.sendEvent (v.toNat % 512)
  | 0x7C2 => s.modCore c (fun k => k.dinv v)
  | 0x7C3 => s.modCore c (fun k => { k with timecmp := v })
  | 0x7C4 => taskDone c v s
  | 0x7C5 => wdKick c s
  | 0x7C6 => s.modCore c (fun k => { k with inject := v.toNat % 4 })
  | 0x7C7 => s.modCore c (fun k => k.setChk v.toNat)
  | n =>
    if 0x7C8 ≤ n ∧ n ≤ 0x7CF then s.modCore c (fun k => { k with even := setWord512 k.even (n - 0x7C8) v })
    else s.modCore c (fun k => k.csrWriteStd n v)

/-- Whether an instruction may access a CSR: it exists, the mode reaches it, a write does not meet a read-only number, and a user read
of cycle, time or instret is illegal (R406). -/
def State.csrOk (s : State) (c num : Nat) (writes : Bool) : Bool :=
  let user := (s.coreOf c).user
  !(user && (decide (num / 0x100 % 4 ≠ 0) || decide (num / 0x100 = 0xC))) && !(writes && decide (num / 0x400 = 3)) && (s.csrRead c num).isSome

/-- CSRRW, CSRRS, CSRRC and their immediate forms: CSRRW with rd x0 does not read, the others with a source of 0 do not write. -/
def State.hartCsr (s : State) (c f rd num src w : Nat) (pc : DWord) : State :=
  let v := if 4 ≤ f then BitVec.ofNat 64 src else (s.coreOf c).reg src
  let op := f % 4
  let writes := decide (op = 1) || decide (src ≠ 0)
  if s.csrOk c num writes = false then s.except c exIllegal (illegalTval w)
  else
    let r := if op = 1 ∧ rd = 0 then (0, s) else (s.csrRead c num).getD (0, s)
    let old := BitVec.ofNat 64 r.1
    let new := if op = 1 then v else if op = 2 then old ||| v else old &&& ~~~v
    let s := (r.2.modCore c (fun k => k.setReg rd old)).retire c pc
    if writes then s.csrWrite c num new else s

/-! ### Execution -/

/-- MRET: the mode and MIE are restored from MPP and MPIE; MPIE becomes 1 and MPP U, and MPRV 0 on a return to user mode. -/
def Core.mret (k : Core) : Core :=
  { k with mie := k.mpie, mpie := true, user := k.mppUser, mppUser := true, mprv := k.mprv && !k.mppUser, pc := k.mepc }

/-- Whether an instruction produces a result or an effective address, whose residue is checked (R409). -/
def Rv.hasResult : Rv → Bool
  | .fence => false
  | .fenceI => false
  | .ecall => false
  | .ebreak => false
  | .mret => false
  | .wfi => false
  | .csr _ _ _ _ => false
  | .illegal => false
  | _ => true

/-- A jump's target: bit 0 is 0. -/
def jumpTo (a : DWord) : DWord := BitVec.ofNat 64 (a.toNat / 2 * 2)

/-- Execute an instruction, of `len` bytes and word `w`. -/
def State.hartExec (s : State) (c : Nat) (i : Rv) (len w : Nat) : State :=
  let k := s.coreOf c
  let next := k.pc + BitVec.ofNat 64 len
  match i with
  | .lui rd imm => s.result c rd imm next
  | .auipc rd imm => s.result c rd (k.pc + imm) next
  | .jal rd imm => s.result c rd next (k.pc + imm)
  | .jalr rd rs1 imm => s.result c rd next (jumpTo (k.reg rs1 + imm))
  | .branch f rs1 rs2 imm => s.retire c (if rvTaken f (k.reg rs1) (k.reg rs2) then k.pc + imm else next)
  | .load f rd rs1 imm => s.hartLoad c f rd (k.reg rs1 + imm) next
  | .store f rs1 rs2 imm => s.hartStore c f (k.reg rs1 + imm) (k.reg rs2) next
  | .opImm o word rd rs1 imm => s.result c rd (rvAlu o word (k.reg rs1) imm) next
  | .op o word rd rs1 rs2 => s.result c rd (rvAlu o word (k.reg rs1) (k.reg rs2)) next
  | .mul o word rd rs1 rs2 => s.result c rd (rvMul o word (k.reg rs1) (k.reg rs2)) next
  | .fence => s.retire c next
  | .fenceI => (s.modCore c (fun k => { k with l1i := [] })).retire c next
  | .ecall => s.except c (if k.user then 8 else 11) 0
  | .ebreak => s.except c exBreak (breakTval k.pc)
  | .mret => if k.user then s.except c exIllegal (illegalTval w) else (s.retire c k.pc).modCore c Core.mret
  | .wfi => if k.user ∧ k.tw then s.except c exIllegal (illegalTval w) else ((s.retire c next).modCore c (fun k => { k with wfi := true })).wake c
  | .csr f rd num src => s.hartCsr c f rd num src w next
  | .lr d rd rs1 => s.hartLr c d rd (k.reg rs1) next
  | .sc d rd rs1 rs2 => s.hartSc c d rd (k.reg rs1) (k.reg rs2) next
  | .amo o d rd rs1 rs2 => s.hartAmo c o d rd (k.reg rs1) (k.reg rs2) next
  | .illegal => s.except c exIllegal (illegalTval w)

/-- Two bytes of an instruction; none for an access fault. Fabric space holds no instructions. -/
def State.fetch2 (s : State) (c a : Nat) : Option (List Byte) × State :=
  if (s.coreOf c).pmpOk (s.coreOf c).user 2 a 2 = false then (none, s)
  else if coreMap c a 2 = some .fabric then (none, s)
  else s.coreBytes c true a 2

/-- Cycles an instruction takes: mcycle counts them, and a reservation ends 1,024 cycles after its LR (R406). The count is not the
manual's to fix. -/
def Core.age (k : Core) (d : Nat) : Core :=
  { k with mcycle := if bitOf k.inhibit 0 then k.mcycle else k.mcycle + BitVec.ofNat 64 d,
           resv := match k.resv with
             | some (key, t) => if t + d < 1024 then some (key, t + d) else none
             | none => none }

/-- The interrupt a core takes (R406, R410): 16 whatever MIE holds, then 11 and 7 where MIE is 1 or the mode is user. -/
def State.interrupt (s : State) (c : Nat) : Option Nat :=
  let k := s.coreOf c
  let p := Nat.land (s.mip c) k.ie.toNat
  if bitOf p 16 then some 16
  else if k.mie || k.user then (if bitOf p 11 then some 11 else if bitOf p 7 then some 7 else none)
  else none

/-- Execute with the residue check of R409: an injected mismatch is repeated, and one that the repeat shows again restarts the core. -/
def State.hartChecked (s : State) (c : Nat) (i : Rv) (len w : Nat) : State :=
  let j := (s.coreOf c).inject
  if bitOf j 0 ∧ i.hasResult then
    let s := s.modCore c (fun k => { k with inject := 0 })
    if bitOf j 1 then residue c false s else (residue c true s).hartExec c i len w
  else s.hartExec c i len w

/-- Fetch, decode and execute. -/
def State.hartFetch (s : State) (c : Nat) : State :=
  let pc := (s.coreOf c).pc
  match s.fetch2 c pc.toNat with
  | (none, s) => s.except c exFetch pc
  | (some lo, s) =>
    let w := leNat lo
    if w % 4 ≠ 3 then s.hartChecked c (decodeC w) 2 w
    else
      match s.fetch2 c (pc + 2).toNat with
      | (none, s) => s.except c exFetch (pc + 2)
      | (some hi, s) =>
        let w := w + 0x10000 * leNat hi
        s.hartChecked c (decode32 w) 4 w

/-- INSTRUCTION (R405-R410): a running core takes an interrupt, waits in WFI, or executes one instruction. Taking interrupt 16 ends its
pending. -/
def hartStep (c : Nat) (s : State) : State :=
  let s := s.wake c
  if (s.coreOf c).wfi then s
  else
    match s.interrupt c with
    | some i => s.modCore c (fun k => { k.trap i true 0 with mchk := k.mchk && decide (i ≠ 16) })
    | none =>
      let (d, s) := s.draw 41
      (s.modCore c (fun k => k.age (d + 1))).hartFetch c

def execCoreInstruction (core : CoreNo) (s : State) : Host.Outcome State Fault Refusal := .next (s.ifRuns core (hartStep core))

end Sys2Proof.Machine
end

