-- ==== Sys2Proof/Machine/HostIo.lean ====
section
/-!
DEFINITION. NVMe I/O commands (file 10, R311-R317, R322-R328; file 11, R342-R356): reads, writes, Flush, Deallocate, reservations and zone management.
-/

namespace Sys2Proof.Machine

/-- The status of a media outcome (R314). -/
def mediaStatus : MediaEnd → Nat
  | .good => stOk
  | .timeout => nvStatus 2 0x81 0
  | .unrecovered => nvStatus 2 0x81 1
  | .writeFault => nvStatus 2 0x80 1

/-- Whether drive firmware has the command (R339). -/
def Tag.withFirmware (x : Tag) : Bool := decide (x.st = .dispatched) || decide (x.st = .media)

/-- Serve an I/O command: a tag that holds no live command of the opcode is left alone. -/
def ioRow (t op : Nat) (work : Tag → State → State) (s : State) : State :=
  match s.tag t with
  | some x => if x.io ∧ x.op = op ∧ x.st ≠ .completing then work x s else s
  | none => s

/-! ### Flush (R352) -/

/-- FLUSH: what its fetch does (R352), for a Flush whose fetch has not yet done it. -/
def flushCmd (t : Nat) (x : Tag) (s : State) : State := if x.st ≠ .fetched ∨ x.begun then s else s.flushFetch t x

def execNvmeFlush (tag : TagNo) (s : State) : Host.Outcome State Fault Refusal := .next (ioRow tag opFlush (flushCmd tag) s)

/-! ### Writes (R314, R317, R324, R351, R352) -/

/-- End a write that drive firmware has: a failed one at once, a successful one as the cache mode allows. -/
def endWrite (t : Nat) (e : MediaEnd) (x : Tag) (s : State) : State :=
  if x.withFirmware = false then s
  else if e ≠ .good then (s.giveCseq x).finish t x (mediaStatus e) 0 0
  else if s.mayComplete x then (s.giveCseq x).finish t x stOk x.dw0 x.dw1
  else s

def execNvmeWrite (tag : TagNo) (ends : MediaEnd) (s : State) : Host.Outcome State Fault Refusal :=
  .next (ioRow tag opWrite (endWrite tag ends) s)

/-- ZONE_APPEND (R324): completes as a Write does, with the LBA it was assigned at fetch. -/
def execZoneAppend (tag : TagNo) (ends : MediaEnd) (s : State) : Host.Outcome State Fault Refusal :=
  .next (ioRow tag opAppend (endWrite tag ends) s)

/-- WRITE_ZEROES (R317, R342, R351): its entry, which is HELD from its fetch on, says what its blocks read as; it ends as a Write does. -/
def execWriteZeroes (tag : TagNo) (ends : MediaEnd) (s : State) : Host.Outcome State Fault Refusal :=
  .next (ioRow tag opZeroes (endWrite tag ends) s)

/-- DATASET_MANAGEMENT (R316, R342, R351): the entries of a Deallocate are HELD from its fetch on, and it ends as a write does; without any it has
changed nothing, and completes. -/
def execDatasetManagement (tag : TagNo) (ends : MediaEnd) (s : State) : Host.Outcome State Fault Refusal :=
  .next (ioRow tag opDsm (endWrite tag ends) s)

/-! ### Reads (R312, R314, R345) -/

/-- Blocks of a read that no entry serves and the Catalogue resolves as UNWRITTEN or DEALLOC (R277, R312). -/
def State.holes (s : State) (x : Tag) : List Nat × State :=
  (List.range (sqCount x.sqe)).foldl (fun (acc : List Nat × State) k =>
    if (look k x.hits).isSome then acc
    else
      let b := acc.2.tagDlba x + k
      if acc.2.num ZONES ≤ b / 65536 then acc
      else
        match acc.2.zoneInfo (b / 65536) with
        | (none, s) => (acc.1, s)
        | (some i, s) => (if 2 ≤ (s.locate i b).kind then acc.1 ++ [k] else acc.1, s)) ([], s)

/-- The first of a read's blocks that is deallocated or unwritten (R312): an entry of a Deallocate serves it, or none does and the map has it
so. -/
def firstHole (x : Tag) (hs : List Nat) : Option Nat :=
  ((x.hits.filter (fun e => e.2.1.isNone && e.2.2.isEmpty)).map (fun e => e.1) ++ hs).foldl (fun b v =>
    match b with | none => some v | some w => some (min v w)) none

/-- End a read-class command with DULBE in force (R312), `hs` its blocks that the map has as holes. -/
def State.endHoles (s : State) (t : Nat) (host : List Byte) (media : List (List Byte)) (hs : List Nat) (x : Tag) : State :=
  match if (s.ns (sqNsid x.sqe - 1)).dulbe then firstHole x hs else none with
  | some k => s.failRead t x stUnwritten (some k)
  | none => s.endRead t { x with hits := x.hits ++ hs.map (fun k => (k, (none, []))) } host media 0 0

/-- A read-class command: while Fetched its range is resolved, and it completes from the front end where entries serve every block; with
drive firmware it ends with the media's outcome, blocks never written reading as R312 says. -/
def readClass (t : Nat) (host : List Byte) (media : List (List Byte)) (e : MediaEnd) (x : Tag) (s : State) : State :=
  if x.st = .fetched then
    if x.begun then s
    else
      match s.resolveRead t x with
      | (none, s) => s
      | (some y, s) => if y.hits.length = sqCount y.sqe then s.endHoles t host [] [] y else s.setTag t y
  else if e ≠ .good then s.failRead t x (mediaStatus e) none
  else
    let (hs, s) := s.holes x
    s.endHoles t host media hs x

def execNvmeRead (tag : TagNo) (media : List (List Byte)) (ends : MediaEnd) (s : State) : Host.Outcome State Fault Refusal :=
  .next (ioRow tag opRead (readClass tag [] media ends) s)

def execNvmeCompare (tag : TagNo) (data : List Byte) (media : List (List Byte)) (ends : MediaEnd) (s : State) :
    Host.Outcome State Fault Refusal :=
  .next (ioRow tag opCompare (readClass tag data media ends) s)

def execNvmeVerify (tag : TagNo) (media : List (List Byte)) (ends : MediaEnd) (s : State) : Host.Outcome State Fault Refusal :=
  .next (ioRow tag opVerify (readClass tag [] media ends) s)

/-! ### Reservations (R328); actions, types and notifications as NVMe has them -/

/-- The host a command's controller belongs to. -/
def State.hostOf (s : State) (x : Tag) : Nat := (s.ctrl x.acts).hostId

/-- Notify the controllers of a host of a reservation event: 1 registration preempted, 2 reservation released, 3 reservation preempted. -/
def State.notifyHost (s : State) (i h ty : Nat) : State :=
  (List.range 64).foldl (fun s c =>
    let k := s.ctrl c
    if k.en ∧ k.hostId = h ∧ bitOf ((look (0x82 + 256 * (i + 1)) k.feats).getD 0) ty = false then
      (s.modCtrl c (fun k => { k with resLog := k.resLog ++ [(ty, i + 1)], resCount := k.resCount + 1 })).aen c (aenDword 6 0 0x80)
    else s) s

/-- Notify each of a list of hosts but one. -/
def State.notifyHosts (s : State) (i : Nat) (hs : List Nat) (but ty : Nat) : State :=
  (hs.filter (fun h => decide (h ≠ but))).foldl (fun s h => s.notifyHost i h ty) s

def Ns.hosts (n : Ns) : List Nat := n.regs.map (fun r => r.1)

/-- Drop registrants, and the reservation if its holder is one of them or none is left. -/
def Ns.unregister (n : Ns) (hs : List Nat) : Ns :=
  let regs := n.regs.filter (fun r => !(hs.contains r.1))
  let lost := n.resType ≠ 0 ∧ (if 5 ≤ n.resType then regs = [] else hs.contains n.resHolder = true)
  if lost then { n with regs := regs, resType := 0, resHolder := 0, resGen := n.resGen + 1 }
  else { n with regs := regs, resGen := n.resGen + 1 }

/-- Complete a reservation command that changed the state: with PTPL set it is saved first (R328). -/
def State.resDone (s : State) (t i : Nat) (x : Tag) : State := (s.saveReservation i).okTag t x

/-- The namespace of a reservation command, and whether drive firmware has it. -/
def resRow (t op : Nat) (work : Nat → Tag → State → State) (s : State) : State :=
  ioRow t op (fun x s => if x.withFirmware then work (sqNsid x.sqe - 1) x s else s) s

/-- RESERVATION_REGISTER. -/
def resRegister (t : Nat) (data : List Byte) (i : Nat) (x : Tag) (s : State) : State :=
  let act := x.dw 10 % 8
  let iekey := bitOf (x.dw 10) 3
  let cptpl := x.dw 10 / 0x40000000
  let h := s.hostOf x
  let n := s.ns i
  let cr := fieldLe data 0 8
  let nr := fieldLe data 8 8
  if 2 < act ∨ cptpl = 1 then s.failTag t x stField
  else
    let n := if cptpl = 2 then { n with ptpl := false } else if cptpl = 3 then { n with ptpl := true } else n
    let save := fun (m : Ns) (s : State) => (s.modNs i (fun _ => m)).resDone t i x
    if act = 0 then
      match n.keyOf h with
      | some k => if k = nr then save n s else s.failTag t x stReservation
      | none =>
        if 64 ≤ n.regs.length then s.failTag t x stReservation
        else save { n with regs := n.regs ++ [(h, nr)], resGen := n.resGen + 1 } s
    else if act = 1 then
      match n.keyOf h with
      | none => s.failTag t x stReservation
      | some k =>
        if iekey = false ∧ k ≠ cr then s.failTag t x stReservation
        else
          let m := n.unregister [h]
          let s := if n.resType ≠ 0 ∧ m.resType = 0 ∧ 3 ≤ n.resType then s.notifyHosts i m.hosts h 2 else s
          save m s
    else
      match n.keyOf h with
      | none =>
        if iekey = false ∨ 64 ≤ n.regs.length then s.failTag t x stReservation
        else save { n with regs := n.regs ++ [(h, nr)], resGen := n.resGen + 1 } s
      | some k =>
        if iekey = false ∧ k ≠ cr then s.failTag t x stReservation
        else save { n with regs := n.regs.map (fun r => if r.1 = h then (h, nr) else r), resGen := n.resGen + 1 } s

def execReservationRegister (tag : TagNo) (data : List Byte) (s : State) : Host.Outcome State Fault Refusal :=
  .next (resRow tag 0x0D (resRegister tag data) s)

/-- Preempt the registrants of a key. -/
def resPreempt (t : Nat) (abort : Bool) (pr ty i : Nat) (x : Tag) (s : State) : State :=
  let n := s.ns i
  let h := s.hostOf x
  let all := decide (5 ≤ n.resType) && decide (pr = 0)
  let gone := (n.regs.filter (fun r => if all then decide (r.1 ≠ h) else decide (r.2 = pr))).map (fun r => r.1)
  let takes := n.resType ≠ 0 ∧ (if 5 ≤ n.resType then pr = 0 else gone.contains n.resHolder = true)
  if gone = [] ∧ ¬ takes then s.failTag t x stReservation
  else
    let keep := if takes then gone.filter (fun g => decide (g ≠ h)) else gone
    let m := n.unregister keep
    let m := if takes then { m with resType := ty, resHolder := h } else m
    let s := keep.foldl (fun s g => s.notifyHost i g (if takes ∧ n.holds g then 3 else 1)) s
    let s := if abort then
        (s.host.tags.filter (fun e => e.2.io && decide (sqNsid e.2.sqe = i + 1) && keep.contains (s.hostOf e.2))).foldl (fun s e =>
          match s.tag e.1 with | some y => (s.abortTag e.1 y (nvStatus 0 0x1B 0)).2 | none => s) s
      else s
    (s.modNs i (fun _ => m)).resDone t i x

/-- RESERVATION_ACQUIRE: acquire, preempt, preempt and abort. -/
def resAcquire (t : Nat) (data : List Byte) (i : Nat) (x : Tag) (s : State) : State :=
  let act := x.dw 10 % 8
  let ty := x.dw 10 / 256 % 256
  let h := s.hostOf x
  let n := s.ns i
  if 2 < act ∨ bitOf (x.dw 10) 3 ∨ ty = 0 ∨ 6 < ty then s.failTag t x stField
  else if n.keyOf h ≠ some (fieldLe data 0 8) then s.failTag t x stReservation
  else if act = 0 then
    if n.resType = 0 then (s.modNs i (fun n => { n with resType := ty, resHolder := h })).resDone t i x
    else if n.holds h ∧ n.resType = ty then s.okTag t x
    else s.failTag t x stReservation
  else resPreempt t (decide (act = 2)) (fieldLe data 8 8) ty i x s

def execReservationAcquire (tag : TagNo) (data : List Byte) (s : State) : Host.Outcome State Fault Refusal :=
  .next (resRow tag 0x11 (resAcquire tag data) s)

/-- RESERVATION_RELEASE: release, clear. -/
def resRelease (t : Nat) (data : List Byte) (i : Nat) (x : Tag) (s : State) : State :=
  let act := x.dw 10 % 8
  let ty := x.dw 10 / 256 % 256
  let h := s.hostOf x
  let n := s.ns i
  if 1 < act ∨ bitOf (x.dw 10) 3 then s.failTag t x stField
  else if n.keyOf h ≠ some (fieldLe data 0 8) then s.failTag t x stReservation
  else if act = 0 then
    if n.holds h = false then s.okTag t x
    else if n.resType ≠ ty then s.failTag t x stField
    else
      let s := if 3 ≤ n.resType then s.notifyHosts i n.hosts h 2 else s
      (s.modNs i (fun n => { n with resType := 0, resHolder := 0 })).resDone t i x
  else
    let s := s.notifyHosts i n.hosts h 3
    (s.modNs i (fun n => { n with resType := 0, resHolder := 0, regs := [], resGen := n.resGen + 1 })).resDone t i x

def execReservationRelease (tag : TagNo) (data : List Byte) (s : State) : Host.Outcome State Fault Refusal :=
  .next (resRow tag 0x15 (resRelease tag data) s)

/-- RESERVATION_REPORT: the extended form, with 128-bit host identifiers, is the only one (feature 81h). -/
def resReport (t : Nat) (i : Nat) (x : Tag) (s : State) : State :=
  if bitOf (x.dw 11) 0 = false then s.failTag t x (nvStatus 0 0x18 0)
  else
    let n := s.ns i
    let ctrls := ((List.range 64).filter (fun c => s.ctrlExists c && (n.keyOf (s.ctrl c).hostId).isSome))
    let row := fun c =>
      let h := (s.ctrl c).hostId
      toLe 2 c ++ toLe 1 (ofBool (n.holds h)) ++ toLe 5 0 ++ toLe 8 ((n.keyOf h).getD 0) ++ toLe 16 h ++ List.replicate 32 0
    let d := toLe 4 n.resGen ++ toLe 1 n.resType ++ toLe 2 ctrls.length ++ toLe 2 0 ++ toLe 1 (ofBool n.ptpl) ++ List.replicate 54 0 ++
      (ctrls.map row).flatten
    s.giveData t x (slice d 0 (4 * (x.dw 10 + 1)))

def execReservationReport (tag : TagNo) (s : State) : Host.Outcome State Fault Refusal := .next (resRow tag 0x0E (resReport tag) s)

/-! ### Zone management (R264, R285, R322-R326) -/

/-- Put a zone's STATE in its entry of the zone table, journalled (R279). -/
def State.zoneState (s : State) (z st : Nat) : State :=
  match s.physRead 11 (s.zoneAt z) 32 with
  | (some ze, s) => s.zonePut z (overlay ze 0 (toLe 1 (16 * st)))
  | (none, s) => s

/-- The first data sector after the Folio that holds the last one written (R264, R265): the Finish point. -/
def finishAt (wp : Nat) : Nat := (wp + 15) / 16 * 16

/-- The filler sectors of the open Folio (R264): the SEED, which is the sector's LBA, and the information part, whose data and metadata are
zero, with the CRC-64 R200 gives it. -/
def State.fillers (s : State) (i z wp : Nat) : List (Nat × List Byte) :=
  (List.range (finishAt wp - wp)).map (fun k =>
    let lba := 65536 * z + wp + k - s.nsBase i
    let body := List.replicate 4160 0
    (lba, body ++ toLe 8 (crc64 (2 ^ 64 - 1 - lba % 2 ^ 64) body)))

/-- Finish a zone (R264): drive firmware completes the open Folio with filler sectors, which brings BWP to the Folio's end, and the zone is
Full. -/
def State.zoneFinish (s : State) (i z : Nat) : State :=
  match s.physRead 11 (s.zoneAt z) 32 with
  | (some ze, s) =>
    let wp := fieldLe ze 4 4
    let s := s.modHost (fun h => { h with fill := s.fillers i z wp })
    s.zonePut z (overlay (overlay ze 0 (toLe 1 (16 * zFull))) 8 (toLe 4 (finishAt wp)))
  | (none, s) => s

/-- What a zone action answers: the state after it, the status where it is not allowed, or that it waits for room in the map journal. -/
inductive ZoneAns where
  | done (s : State)
  | refused (status : Nat)
  | waits

/-- A change of a zone's entry, once the map journal has room for its records (R279). -/
def State.zoneChanges (s : State) (z : Nat) (t : State) : ZoneAns := if s.mjRoom (s.zoneRecords z) then .done t else .waits

/-- One zone action on a zone of namespace i (R325): 1 Close, 2 Finish, 3 Open, 4 Reset, 5 Offline. -/
def zoneAction (a i z : Nat) (s : State) : ZoneAns :=
  match s.zoneNow z with
  | none => .refused stTransition
  | some (st, wp) =>
    let opened := st = zImplicit ∨ st = zExplicit
    if a = 1 then
      if opened then s.zoneChanges z (s.zoneState z (if wp = 0 then zEmpty else zClosed))
      else if st = zClosed then .done s else .refused stTransition
    else if a = 2 then
      if opened ∨ st = zClosed ∨ st = zEmpty then s.zoneChanges z ((s.rbDiscard z).zoneFinish i z)
      else if st = zFull then s.zoneChanges z (s.rbDiscard z) else .refused stTransition
    else if a = 3 then
      if st = zExplicit then .done s
      else if st = zImplicit then s.zoneChanges z (s.zoneState z zExplicit)
      else if st = zEmpty ∨ st = zClosed then
        if st = zEmpty ∧ 256 ≤ s.activeZones then .refused stActive
        else if 256 ≤ s.openZones then .refused stOpen
        else s.zoneChanges z (s.zoneState z zExplicit)
      else .refused stTransition
    else if a = 4 then
      if st = zEmpty then s.zoneChanges z (s.rbDiscard z)
      else if opened ∨ st = zClosed ∨ st = zFull then s.zoneChanges z (s.zoneReset z)
      else .refused stTransition
    else if st = zReadOnly then s.zoneChanges z (s.zoneState z zOffline)
    else .refused stTransition

/-- The states Select All takes for an action. -/
def selectAll (a : Nat) : List Nat :=
  if a = 1 then [zImplicit, zExplicit]
  else if a = 2 then [zImplicit, zExplicit, zClosed]
  else if a = 3 then [zClosed]
  else if a = 4 then [zImplicit, zExplicit, zClosed, zFull]
  else [zReadOnly]

/-- Act on zones in order, up to the first that does not allow it or must wait; the state up to there. -/
def zoneActions (a i : Nat) : List Nat → State → ZoneAns × State
  | [], s => (.done s, s)
  | z :: zs, s =>
    match zoneAction a i z s with
    | .done s => zoneActions a i zs s
    | .refused e => (.refused e, s)
    | .waits => (.waits, s)

/-- ZONE_MANAGEMENT_SEND (R325). One that the map journal has no room for stays with drive firmware, and acts on the zones that are left when
it is served again. -/
def zoneSend (t : Nat) (x : Tag) (s : State) : State :=
  if x.withFirmware = false then s
  else
    let a := x.dw 13 % 256
    match s.nsInfo (sqNsid x.sqe - 1) with
    | none => s.failTag t x stNamespace
    | some (z0, n, _) =>
      let z := sqSlba x.sqe / 65536
      if a = 0 ∨ 5 < a then s.failTag t x stField
      else if bitOf (x.dw 13) 8 then
        let zs := ((List.range n).map (fun k => z0 + k)).filter (fun z => match s.zoneNow z with
          | some v => (selectAll a).contains v.1
          | none => false)
        match zoneActions a (sqNsid x.sqe - 1) zs s with
        | (.done s, _) => s.okTag t x
        | (.refused e, s) => s.failTag t x e
        | (.waits, s) => s
      else if sqSlba x.sqe % 65536 ≠ 0 then s.failTag t x stField
      else if n ≤ z then s.failTag t x stLba
      else
        match zoneAction a (sqNsid x.sqe - 1) (z0 + z) s with
        | .done s => s.okTag t x
        | .refused e => s.failTag t x e
        | .waits => s

def execZoneManagementSend (tag : TagNo) (s : State) : Host.Outcome State Fault Refusal := .next (ioRow tag 0x79 (zoneSend tag) s)

/-- The zone states a report's filter takes: all, or one. -/
def zoneFilter (f st : Nat) : Bool :=
  decide (f = 0) || decide ([zEmpty, zImplicit, zExplicit, zClosed, zFull, zReadOnly, zOffline].getD (f - 1) 0 = st)

/-- A zone descriptor (R322, R326): the write pointer of a zone that takes no writes is free. -/
def State.zoneDesc (s : State) (first z : Nat) : List Byte × State :=
  match s.zoneNow z with
  | none => (List.replicate 64 0, s)
  | some (st, wp) =>
    let slba := 65536 * (z - first)
    let (w, s) := if st = zFull ∨ st = zReadOnly ∨ st = zOffline then s.draw 40 else (slba + wp, s)
    (toLe 1 2 ++ toLe 1 (16 * st) ++ toLe 6 0 ++ toLe 8 65536 ++ toLe 8 slba ++ toLe 8 w ++ List.replicate 32 0, s)

/-- ZONE_MANAGEMENT_RECEIVE (R326): a report, or an extended one with no extension data. -/
def zoneReceive (t : Nat) (x : Tag) (s : State) : State :=
  if x.withFirmware = false then s
  else
    match s.nsInfo (sqNsid x.sqe - 1) with
    | none => s.failTag t x stNamespace
    | some (z0, n, _) =>
      let z := sqSlba x.sqe / 65536
      let f := x.dw 13 / 256 % 256
      if 1 < x.dw 13 % 256 ∨ 7 < f then s.failTag t x stField
      else if n ≤ z then s.failTag t x stLba
      else
        let len := 4 * (x.dw 12 + 1)
        let zs := ((List.range (n - z)).map (fun k => z0 + z + k)).filter (fun z => match s.zoneNow z with
          | some v => zoneFilter f v.1
          | none => false)
        let room := (len - 64) / 64
        let count := if bitOf (x.dw 13) 16 then min zs.length room else zs.length
        let r := (zs.take room).foldl (fun (acc : List Byte × State) z =>
          let d := acc.2.zoneDesc z0 z
          (acc.1 ++ d.1, d.2)) ([], s)
        r.2.giveData t x (slice (toLe 8 count ++ List.replicate 56 0 ++ r.1) 0 len)

def execZoneManagementReceive (tag : TagNo) (s : State) : Host.Outcome State Fault Refusal := .next (ioRow tag 0x7A (zoneReceive tag) s)

/-! ### Zones the part moves itself (R291, R326) -/

/-- The namespace a zone belongs to. -/
def State.nsOfZone (s : State) (z : Nat) : Option Nat :=
  (List.range 16).find? (fun i => match s.nsInfo i with
    | some (z0, n, _) => decide (z0 ≤ z) && decide (z < z0 + n)
    | none => false)

/-- ZONE_SET (file 09): a sequential-write zone that it moves to Read Only or Offline enters the Changed Zone List, and the event is
reported. -/
def zoneSetRow (s : State) : State :=
  match s.catNext with
  | none => catRow 4 doZoneSet s
  | some (r, _) =>
    let z := rqZone r
    let before := if rqOp r = 4 ∧ z < s.num ZONES then s.zoneNow z else none
    let s := catRow 4 doZoneSet s
    match before with
    | none => s
    | some (old, _) =>
      match (s.physRead 11 (s.zoneAt z) 32).1 with
      | none => s
      | some e =>
        let new := fieldLe e 0 1 / 16
        if zeSeq e ∧ new ≠ old ∧ (new = zReadOnly ∨ new = zOffline) then
          match s.nsOfZone z with
          | some i =>
            let s := s.modNs i (fun n => { n with changed := insertN (65536 * z - s.nsBase i) n.changed })
            ((List.range 64).filter (fun c => bitOf (s.num (CTRL_NS c)) i)).foldl (fun s c => s.aen c aenZones) s
          | none => s
        else s

def execZoneSet (s : State) : Host.Outcome State Fault Refusal := .next (zoneSetRow s)

end Sys2Proof.Machine
end

