-- ==== Sys2Proof/Machine/Microword.lean ====
section
/-!
DEFINITION. One microword of a Lomun sequencer (file 13, R426-R434): its fields, its conditions, the ALU, bus accesses of its own die, data actions, events and sequencing, and the faults each can raise.
-/

namespace Sys2Proof.Machine

/-! ### Fields (R427) -/

/-- Bits [hi:lo] of a microword. -/
def mw (w : BitVec 256) (hi lo : Nat) : Nat := bitsOf w.toNat hi lo

/-- A field value the tables call illegal (R427, R428, R430). -/
def mwIllegal (w : BitVec 256) : Bool :=
  decide (10 ≤ mw w 255 252) || decide (mw w 223 221 = 7) || decide (12 ≤ mw w 183 180) || decide (mw w 135 134 = 3)

/-- Odd parity over the 256 bits (R426). -/
def mwParity (w : BitVec 256) : Bool := (List.range 256).foldl (fun p i => p != w.getLsbD i) false

/-! ### Conditions (R429) -/

/-- A condition before CINV; the values the table lacks are false. -/
def State.lmCond (s : State) (n c : Nat) : Bool :=
  let l := s.lmuOf n
  match c with
  | 0 => true
  | 1 => l.z
  | 2 => l.n
  | 3 => l.c
  | 4 => (s.demodOf n).found
  | 5 => !s.flag (LOOP_STAT_UNSAFE n)
  | 6 => (s.demodOf n).spinLock
  | 7 => s.dqReady n && s.cqRoom n
  | 8 => match (s.wruOf n).bufs with
    | b :: _ => b.enc
    | [] => false
  | 9 => (s.detOf n).op.isSome
  | 10 => (s.wruOf n).op.isSome
  | 11 => l.queue.isEmpty
  | 12 => (s.headDue n).isSome
  | 13 => s.flag (DEMOD_STAT_SEARCH n)
  | k => decide (16 ≤ k) && decide (k ≤ 23) && bitOf (s.num (LM_FLAG n)) (k - 16)

/-- The condition of a word. -/
def State.lmHolds (s : State) (n : Nat) (w : BitVec 256) : Bool := s.lmCond n (mw w 239 234) != decide (mw w 233 233 = 1)

/-! ### Registers and the ALU (R427) -/

/-- G0 reads 0. -/
def State.gReg (s : State) (n k : Nat) : Word := if k = 0 then 0 else s.rd (LM_G n k)

/-- Writes to G0 are ignored. -/
def State.setG (s : State) (n k : Nat) (v : Word) : State := if k = 0 then s else s.wr (LM_G n k) v

/-- An ALU operation: the result and the carry out of bit 31. A difference's carry is 1 where it does not borrow; a shift's is the last
bit shifted out, and 0 for a shift by 0; a logic operation's is 0. -/
def lmAlu (op : Nat) (a b imm : Word) : Word × Bool :=
  let k := b.toNat % 32
  match op with
  | 1 => (a + b, decide (2 ^ 32 ≤ a.toNat + b.toNat))
  | 2 => (a - b, decide (b.toNat ≤ a.toNat))
  | 3 => (a &&& b, false)
  | 4 => (a ||| b, false)
  | 5 => (a ^^^ b, false)
  | 6 => (a <<< k, decide (k ≠ 0) && bitOf a.toNat (32 - k))
  | 7 => (a >>> k, decide (k ≠ 0) && bitOf a.toNat (k - 1))
  | 8 => (imm, false)
  | 9 => (a + imm, decide (2 ^ 32 ≤ a.toNat + imm.toNat))
  | 10 => (a - b, decide (b.toNat ≤ a.toNat))
  | _ => (a - imm, decide (imm.toNat ≤ a.toNat))

/-- The ALU field acts: DST takes the result but for CMP and CMPI, and the flags follow but for MOVI. -/
def State.lmAluStep (s : State) (n : Nat) (w : BitVec 256) : State :=
  let op := mw w 183 180
  if op = 0 then s
  else
    let r := lmAlu op (s.gReg n (mw w 175 172)) (s.gReg n (mw w 171 168)) (BitVec.ofNat 32 (mw w 167 136))
    let s := if 10 ≤ op then s else s.setG n (mw w 179 176) r.1
    if op = 8 then s else s.modLmu n (fun l => { l with z := decide (r.1 = 0), n := r.1.msb, c := r.2 })

/-! ### Bus accesses (R9, R427) -/

/-- The BUS field acts; none where the access is a BUS fault. The host side's last answer stays. -/
def State.lmBusStep (s : State) (n : Nat) (w : BitVec 256) : Option State :=
  let unit := mw w 133 129
  let a := unitBase (n + 1) unit + 4 * mw w 128 111
  let k := mw w 110 107
  match mw w 135 134 with
  | 1 =>
    if unit = 0 ∨ 0x11 ≤ unit then none
    else
      let s' := busRead a 4 s
      match s'.resp with
      | .data v => some ((s'.answer s.resp).setG n k (BitVec.ofNat 32 v))
      | _ => none
  | 2 =>
    if unit = 0 ∨ 0x11 ≤ unit then none
    else
      let s' := busWrite 17 a 4 (s.gReg n k) s
      if s'.resp = .busError then none else some (s'.answer s.resp)
  | _ => some s

/-- The word's bus access reaches the LOOP of its die during a restart (R155): the word stalls until the restart completes. -/
def State.lmBusWaits (s : State) (n : Nat) (w : BitVec 256) : Bool :=
  (decide (mw w 135 134 = 1) || decide (mw w 135 134 = 2)) && s.loopWaits (unitBase (n + 1) (mw w 133 129) + 4 * mw w 128 111)

/-! ### Sequencing (R428, R431, R433) -/

/-- Go to a word: customer code may not leave its region, nor pass word 4,095. -/
def State.lmGoto (s : State) (n fromPc to' : Nat) : State :=
  if 2560 ≤ fromPc ∧ to' < 2560 then s.lmFaultAt n lmXfer
  else if 4095 < to' then s.lmFaultAt n lmPcEnd
  else (s.modLmu n (fun l => { l with st := .run, pc := to' })).lmStatus n

/-- The SEQ field acts, at word `pc`; `cond` and `disp` are the word's condition and DISPATCH's target, as the word found them. -/
def State.lmSequence (s : State) (n pc : Nat) (w : BitVec 256) (cond : Bool) (disp : Nat) : State :=
  let next := mw w 251 240
  match mw w 255 252 with
  | 0 => s.lmGoto n pc (pc + 1)
  | 1 => s.lmGoto n pc next
  | 2 => s.lmGoto n pc (if cond then next else pc + 1)
  | 3 =>
    if 8 ≤ (s.lmuOf n).stack.length then s.lmFaultAt n lmStack
    else (s.modLmu n (fun l => { l with stack := (pc + 1) :: l.stack })).lmGoto n pc next
  | 4 =>
    match (s.lmuOf n).stack with
    | [] => s.lmFaultAt n lmStack
    | a :: rest => (s.modLmu n (fun l => { l with stack := rest })).lmGoto n pc a
  | 5 =>
    let g := s.gReg n 15 - 1
    (s.setG n 15 g).lmGoto n pc (if g = 0 then pc + 1 else next)
  | 6 => (s.modLmu n (fun l => { l with st := .waitTick })).lmStatus n
  | 7 => if cond then s.lmGoto n pc next else (s.modLmu n (fun l => { l with st := .waitCond })).lmStatus n
  | 8 => s.lmGoto n pc disp
  | _ => ((s.modLmu n (fun l => { l with st := .stopped })).put (LM_STAT_RUN n) 0).lmStatus n

/-- A parity failure (R410, R426): the sequencer stops before the word executes, and the die's BOOT C-core has a machine check. -/
def State.lmParityFail (s : State) (n pc : Nat) : State :=
  let s := (s.lmHalt n).faultBit (lmFault n) lmParity sevNote clsContained noInst 0
  s.ifRuns (s.bootC n) (machineCheck (s.bootC n) 4 (BitVec.ofNat 64 pc))

/-- A word executes (R427-R434): the ALU, the bus access, the data action and the event, then the sequencing. `handover`: Sibourn code
hands over to the customer entry with it. A word that finds the action queue full stalls; an illegal one does nothing but fault. -/
def State.lmExecute (s : State) (n : Nat) (w : BitVec 256) (handover : Bool) : State :=
  let l := s.lmuOf n
  let pc := l.pc
  let dcmd := mw w 223 221
  if mwIllegal w then s.lmFaultAt n lmIllegal
  else if dcmd ≠ 0 ∧ 8 ≤ l.queue.length then s
  else if s.lmBusWaits n w then s
  else
    let cond := s.lmHolds n w
    let disp := (mw w 251 240 + (s.gReg n (mw w 175 172)).toNat % 16) % 4096
    match (s.lmAluStep n w).lmBusStep n w with
    | none => (s.lmAluStep n w).lmFaultAt n lmBus
    | some s =>
      let s := if dcmd = 0 then s else s.modLmu n (fun l => { l with queue := l.queue ++ [(dcmd, mw w 220 219, mw w 218 195)] })
      let s := if mw w 106 106 = 1 then s.raise (chEvent n (40 + mw w 105 103)) else s
      if handover ∧ pc < 2560 then (s.modLmu n (fun l => { l with pc := l.entry })).lmStatus n
      else s.lmSequence n pc w cond disp

/-- MICROWORD (R426-R434): a running sequencer fetches a word, with its parity check, and executes it; one in WAIT_COND looks at its
condition again. -/
def microword (n : Nat) (handover : Bool) (s : State) : State :=
  let l := s.lmuOf n
  let w := l.word l.pc
  match l.st with
  | .run =>
    let s := s.put (LM_STAT_PC n) l.pc
    if s.flag (LM_STAT_PROT n) ∧ mwParity w = false then s.lmParityFail n l.pc else s.lmExecute n w handover
  | .waitCond => if s.lmHolds n w then s.lmGoto n l.pc (mw w 251 240) else s
  | _ => s

def execMicroword (ch : Ch) (handover : Bool) (s : State) : Host.Outcome State Fault Refusal :=
  .next (s.ifCh ch (microword ch handover))

end Sys2Proof.Machine
end

