-- ==== Sys2Proof/Machine/Dispatch.lean ====
section
/-!
DEFINITION. The dispatch: one arm per command, each a direct call of the command's meaning.
-/

namespace Sys2Proof.Machine

def exec (i : Instr) (s : State) : Host.Outcome State Fault Refusal :=
  match i with
  | .registerWrite addr width value => Sys2Proof.Machine.execRegisterWrite addr width value s
  | .expertWrite addr width value => Sys2Proof.Machine.execExpertWrite addr width value s
  | .wideRegisterRead addr => Sys2Proof.Machine.execWideRegisterRead addr s
  | .flitReplay e sameFlit => Sys2Proof.Machine.execFlitReplay e sameFlit s
  | .linkRetrain e => Sys2Proof.Machine.execLinkRetrain e s
  | .linkRetrainCmd e => Sys2Proof.Machine.execLinkRetrainCmd e s
  | .retrainComplete e trained lanes => Sys2Proof.Machine.execRetrainComplete e trained lanes s
  | .linkFailed e => Sys2Proof.Machine.execLinkFailed e s
  | .msgPacketReceive e q fate badWords => Sys2Proof.Machine.execMsgPacketReceive e q fate badWords s
  | .rxqDataLoRead e q => Sys2Proof.Machine.execRxqDataLoRead e q s
  | .txqDataHiWrite e q value => Sys2Proof.Machine.execTxqDataHiWrite e q value s
  | .txqGo e q => Sys2Proof.Machine.execTxqGo e q s
  | .txqDiscard e q => Sys2Proof.Machine.execTxqDiscard e q s
  | .linkClrDrop e => Sys2Proof.Machine.execLinkClrDrop e s
  | .xtalLoss => Sys2Proof.Machine.execXtalLoss s
  | .compUpdate => Sys2Proof.Machine.execCompUpdate s
  | .forwardFrameSend ch => Sys2Proof.Machine.execForwardFrameSend ch s
  | .forwardFrameReceive ch errs => Sys2Proof.Machine.execForwardFrameReceive ch errs s
  | .returnFrameReceive ch errs => Sys2Proof.Machine.execReturnFrameReceive ch errs s
  | .wlLock ch => Sys2Proof.Machine.execWlLock ch s
  | .wlRetFail ch => Sys2Proof.Machine.execWlRetFail ch s
  | .wedgeLineFail ch => Sys2Proof.Machine.execWedgeLineFail ch s
  | .forwardStrandRestart ch => Sys2Proof.Machine.execForwardStrandRestart ch s
  | .sharedUnitGrant unit others folio => Sys2Proof.Machine.execSharedUnitGrant unit others folio s
  | .calDue u => Sys2Proof.Machine.execCalDue u s
  | .calStart u => Sys2Proof.Machine.execCalStart u s
  | .calHoldoffEnd u => Sys2Proof.Machine.execCalHoldoffEnd u s
  | .calDeadline u => Sys2Proof.Machine.execCalDeadline u s
  | .calRunComplete u measured => Sys2Proof.Machine.execCalRunComplete u measured s
  | .optimeSave => Sys2Proof.Machine.execOptimeSave s
  | .powerOnReset => Sys2Proof.Machine.execPowerOnReset s
  | .keeperRomBoot => Sys2Proof.Machine.execKeeperRomBoot s
  | .hubResetRelease => Sys2Proof.Machine.execHubResetRelease s
  | .hubRomBoot dramGood reloadUs => Sys2Proof.Machine.execHubRomBoot dramGood reloadUs s
  | .chSupplyTimeout ch => Sys2Proof.Machine.execChSupplyTimeout ch s
  | .blankImageDownload tag => Sys2Proof.Machine.execBlankImageDownload tag s
  | .keeperImageDownload tag => Sys2Proof.Machine.execKeeperImageDownload tag s
  | .expertUnlockWrite die unit value => Sys2Proof.Machine.execExpertUnlockWrite die unit value s
  | .fullBootRequest value => Sys2Proof.Machine.execFullBootRequest value s
  | .fullBoot => Sys2Proof.Machine.execFullBoot s
  | .colophonSign stored => Sys2Proof.Machine.execColophonSign stored s
  | .lmsTreeGenerate => Sys2Proof.Machine.execLmsTreeGenerate s
  | .coloClose => Sys2Proof.Machine.execColoClose s
  | .coloLateClose => Sys2Proof.Machine.execColoLateClose s
  | .servoGateOpen ch => Sys2Proof.Machine.execServoGateOpen ch s
  | .samAccept ch marks => Sys2Proof.Machine.execSamAccept ch marks s
  | .wedgeLoss ch => Sys2Proof.Machine.execWedgeLoss ch s
  | .demodLoss ch => Sys2Proof.Machine.execDemodLoss ch s
  | .demodSearch ch => Sys2Proof.Machine.execDemodSearch ch s
  | .searchExit ch => Sys2Proof.Machine.execSearchExit ch s
  | .demodCtlWrite ch value => Sys2Proof.Machine.execDemodCtlWrite ch value s
  | .demodStatRead ch => Sys2Proof.Machine.execDemodStatRead ch s
  | .pesReady ch signals telem => Sys2Proof.Machine.execPesReady ch signals telem s
  | .tdcTcUpdate ch => Sys2Proof.Machine.execTdcTcUpdate ch s
  | .tdcUnlock ch => Sys2Proof.Machine.execTdcUnlock ch s
  | .tdcRelock ch => Sys2Proof.Machine.execTdcRelock ch s
  | .demodCntClr ch value => Sys2Proof.Machine.execDemodCntClr ch value s
  | .loopGo ch => Sys2Proof.Machine.execLoopGo ch s
  | .loopManual ch keep => Sys2Proof.Machine.execLoopManual ch keep s
  | .loopAuto ch => Sys2Proof.Machine.execLoopAuto ch s
  | .loadHeads ch => Sys2Proof.Machine.execLoadHeads ch s
  | .unloadHeads ch => Sys2Proof.Machine.execUnloadHeads ch s
  | .loopRearm ch => Sys2Proof.Machine.execLoopRearm ch s
  | .feTrip ch => Sys2Proof.Machine.execFeTrip ch s
  | .lostEntry ch => Sys2Proof.Machine.execLostEntry ch s
  | .positionRecovered ch => Sys2Proof.Machine.execPositionRecovered ch s
  | .lostRetract ch => Sys2Proof.Machine.execLostRetract ch s
  | .phi0Latch ch done => Sys2Proof.Machine.execPhi0Latch ch done s
  | .subSetpoint ch q => Sys2Proof.Machine.execSubSetpoint ch q s
  | .claspFrameRepeat ch => Sys2Proof.Machine.execClaspFrameRepeat ch s
  | .loopResidue ch again => Sys2Proof.Machine.execLoopResidue ch again s
  | .holdHandover ch => Sys2Proof.Machine.execHoldHandover ch s
  | .loopRestartDone ch pass => Sys2Proof.Machine.execLoopRestartDone ch pass s
  | .loopShadowEnd ch => Sys2Proof.Machine.execLoopShadowEnd ch s
  | .holdInvalidRetract ch => Sys2Proof.Machine.execHoldInvalidRetract ch s
  | .holdParity ch => Sys2Proof.Machine.execHoldParity ch s
  | .coeffDerive ch reg value => Sys2Proof.Machine.execCoeffDerive ch reg value s
  | .seekPolicyWrite ch value => Sys2Proof.Machine.execSeekPolicyWrite ch value s
  | .clvRetract ch => Sys2Proof.Machine.execClvRetract ch s
  | .shockSample shock rvx rvy => Sys2Proof.Machine.execShockSample shock rvx rvy s
  | .shockTripClear => Sys2Proof.Machine.execShockTripClear s
  | .loadComplete ch => Sys2Proof.Machine.execLoadComplete ch s
  | .loadTimeout ch => Sys2Proof.Machine.execLoadTimeout ch s
  | .unloadComplete ch => Sys2Proof.Machine.execUnloadComplete ch s
  | .pwmPeriod iu iv iw mu mv mw theta omega emf vmot => Sys2Proof.Machine.execPwmPeriod iu iv iw mu mv mw theta omega emf vmot s
  | .lossOfSynchronism => Sys2Proof.Machine.execLossOfSynchronism s
  | .referenceTick dev => Sys2Proof.Machine.execReferenceTick dev s
  | .spinLockSet => Sys2Proof.Machine.execSpinLockSet s
  | .spinStart => Sys2Proof.Machine.execSpinStart s
  | .spinStop => Sys2Proof.Machine.execSpinStop s
  | .spinCoast => Sys2Proof.Machine.execSpinCoast s
  | .spinClear => Sys2Proof.Machine.execSpinClear s
  | .zeroCrossing k interval at_ => Sys2Proof.Machine.execZeroCrossing k interval at_ s
  | .senseTimeout emf => Sys2Proof.Machine.execSenseTimeout emf s
  | .brakeHoldEnd => Sys2Proof.Machine.execBrakeHoldEnd s
  | .brakeEmfCheck emf => Sys2Proof.Machine.execBrakeEmfCheck emf s
  | .alignComplete => Sys2Proof.Machine.execAlignComplete s
  | .rampHandover => Sys2Proof.Machine.execRampHandover s
  | .handoverFail => Sys2Proof.Machine.execHandoverFail s
  | .speedLock => Sys2Proof.Machine.execSpeedLock s
  | .holdAngleTimeout => Sys2Proof.Machine.execHoldAngleTimeout s
  | .startTimeout => Sys2Proof.Machine.execStartTimeout s
  | .generateHoldEnd => Sys2Proof.Machine.execGenerateHoldEnd s
  | .spinResidue again => Sys2Proof.Machine.execSpinResidue again s
  | .spinRestartDone => Sys2Proof.Machine.execSpinRestartDone s
  | .spinCfgWrite value => Sys2Proof.Machine.execSpinCfgWrite value s
  | .claspBeat => Sys2Proof.Machine.execClaspBeat s
  | .claspReply reply => Sys2Proof.Machine.execClaspReply reply s
  | .claspNoReply => Sys2Proof.Machine.execClaspNoReply s
  | .clsArm lanes => Sys2Proof.Machine.execClsArm lanes s
  | .clsRetract lanes => Sys2Proof.Machine.execClsRetract lanes s
  | .clsClear => Sys2Proof.Machine.execClsClear s
  | .clsIdent => Sys2Proof.Machine.execClsIdent s
  | .clsBridge => Sys2Proof.Machine.execClsBridge s
  | .clsConfig => Sys2Proof.Machine.execClsConfig s
  | .fmtSelWrite ch value => Sys2Proof.Machine.execFmtSelWrite ch value s
  | .dcmdRead ch late pos r => Sys2Proof.Machine.execDcmdRead ch late pos r s
  | .dcmdReadCont ch late pos r => Sys2Proof.Machine.execDcmdReadCont ch late pos r s
  | .decodeEnd ch => Sys2Proof.Machine.execDecodeEnd ch s
  | .slipSearch ch => Sys2Proof.Machine.execSlipSearch ch s
  | .rcvGo ch first last => Sys2Proof.Machine.execRcvGo ch first last s
  | .rcvAbort ch => Sys2Proof.Machine.execRcvAbort ch s
  | .recoveryRevolution ch r => Sys2Proof.Machine.execRecoveryRevolution ch r s
  | .sjGo ch iter => Sys2Proof.Machine.execSjGo ch iter s
  | .softJobDone ch => Sys2Proof.Machine.execSoftJobDone ch s
  | .detectCntClr ch value => Sys2Proof.Machine.execDetectCntClr ch value s
  | .codewordEncode ch => Sys2Proof.Machine.execCodewordEncode ch s
  | .encodeDone ch => Sys2Proof.Machine.execEncodeDone ch s
  | .dcmdWrite ch late pos entered => Sys2Proof.Machine.execDcmdWrite ch late pos entered s
  | .dcmdWriteCont ch late pos entered => Sys2Proof.Machine.execDcmdWriteCont ch late pos entered s
  | .dcmdSplit ch pos => Sys2Proof.Machine.execDcmdSplit ch pos s
  | .dcmdClose ch => Sys2Proof.Machine.execDcmdClose ch s
  | .sectorWriteEnd ch => Sys2Proof.Machine.execSectorWriteEnd ch s
  | .wrPolicyWrite ch value => Sys2Proof.Machine.execWrPolicyWrite ch value s
  | .assistSample ch at_ => Sys2Proof.Machine.execAssistSample ch at_ s
  | .setpointUpdate ch => Sys2Proof.Machine.execSetpointUpdate ch s
  | .asPreheatWrite ch value => Sys2Proof.Machine.execAsPreheatWrite ch value s
  | .flyDerive ch reg head value => Sys2Proof.Machine.execFlyDerive ch reg head value s
  | .flyReqWrite ch value => Sys2Proof.Machine.execFlyReqWrite ch value s
  | .flyGo ch head => Sys2Proof.Machine.execFlyGo ch head s
  | .flyAbort ch => Sys2Proof.Machine.execFlyAbort ch s
  | .contactSweepStep ch => Sys2Proof.Machine.execContactSweepStep ch s
  | .preampSlot ch lastSlot reply => Sys2Proof.Machine.execPreampSlot ch lastSlot reply s
  | .preampNoReply ch => Sys2Proof.Machine.execPreampNoReply ch s
  | .fltnLow ch low aflt => Sys2Proof.Machine.execFltnLow ch low aflt s
  | .paArm ch => Sys2Proof.Machine.execPaArm ch s
  | .paQcmdGo ch value => Sys2Proof.Machine.execPaQcmdGo ch value s
  | .wrHeadWrite ch head value => Sys2Proof.Machine.execWrHeadWrite ch head value s
  | .folioEncode => Sys2Proof.Machine.execFolioEncode s
  | .folioRebuild => Sys2Proof.Machine.execFolioRebuild s
  | .folioPrior => Sys2Proof.Machine.execFolioPrior s
  | .catLookup => Sys2Proof.Machine.execCatLookup s
  | .smAdd => Sys2Proof.Machine.execSmAdd s
  | .smDrop => Sys2Proof.Machine.execSmDrop s
  | .zoneSet => Sys2Proof.Machine.execZoneSet s
  | .bandSet => Sys2Proof.Machine.execBandSet s
  | .rbSwitch => Sys2Proof.Machine.execRbSwitch s
  | .rbSet => Sys2Proof.Machine.execRbSet s
  | .catalogueEnable => Sys2Proof.Machine.execCatalogueEnable s
  | .portTrain port width speed => Sys2Proof.Machine.execPortTrain port width speed s
  | .perstAssert port => Sys2Proof.Machine.execPerstAssert port s
  | .portLinkDown port => Sys2Proof.Machine.execPortLinkDown port s
  | .vfEnable pf numVfs => Sys2Proof.Machine.execVfEnable pf numVfs s
  | .controllerEnable setup => Sys2Proof.Machine.execControllerEnable setup s
  | .controllerReset ctrl => Sys2Proof.Machine.execControllerReset ctrl s
  | .functionLevelReset ctrl => Sys2Proof.Machine.execFunctionLevelReset ctrl s
  | .nvmSubsystemReset => Sys2Proof.Machine.execNvmSubsystemReset s
  | .submissionFetch ctrl queue tag entry sqe ranges => Sys2Proof.Machine.execSubmissionFetch ctrl queue tag entry sqe ranges s
  | .fetchResume => Sys2Proof.Machine.execFetchResume s
  | .createIoSq tag => Sys2Proof.Machine.execCreateIoSq tag s
  | .createIoCq tag => Sys2Proof.Machine.execCreateIoCq tag s
  | .deleteIoSq tag => Sys2Proof.Machine.execDeleteIoSq tag s
  | .deleteIoCq tag => Sys2Proof.Machine.execDeleteIoCq tag s
  | .getLogPage tag => Sys2Proof.Machine.execGetLogPage tag s
  | .getLogColophon tag => Sys2Proof.Machine.execGetLogColophon tag s
  | .getLogAccession tag => Sys2Proof.Machine.execGetLogAccession tag s
  | .nvmeIdentify tag => Sys2Proof.Machine.execNvmeIdentify tag s
  | .nvmeAbort tag => Sys2Proof.Machine.execNvmeAbort tag s
  | .setFeaturesNumberOfQueues tag => Sys2Proof.Machine.execSetFeaturesNumberOfQueues tag s
  | .setFeaturesVolatileWriteCache tag => Sys2Proof.Machine.execSetFeaturesVolatileWriteCache tag s
  | .setFeaturesPowerManagement tag => Sys2Proof.Machine.execSetFeaturesPowerManagement tag s
  | .setFeatures tag data => Sys2Proof.Machine.execSetFeatures tag data s
  | .getFeatures tag => Sys2Proof.Machine.execGetFeatures tag s
  | .asynchronousEventRequest tag => Sys2Proof.Machine.execAsynchronousEventRequest tag s
  | .firmwareImageDownload tag data => Sys2Proof.Machine.execFirmwareImageDownload tag data s
  | .firmwareCommit tag => Sys2Proof.Machine.execFirmwareCommit tag s
  | .formatNvm tag => Sys2Proof.Machine.execFormatNvm tag s
  | .securitySend tag data => Sys2Proof.Machine.execSecuritySend tag data s
  | .securityReceive tag => Sys2Proof.Machine.execSecurityReceive tag s
  | .inventoryCmd tag => Sys2Proof.Machine.execInventoryCmd tag s
  | .nvmeFlush tag => Sys2Proof.Machine.execNvmeFlush tag s
  | .nvmeWrite tag ends => Sys2Proof.Machine.execNvmeWrite tag ends s
  | .nvmeRead tag media ends => Sys2Proof.Machine.execNvmeRead tag media ends s
  | .nvmeCompare tag data media ends => Sys2Proof.Machine.execNvmeCompare tag data media ends s
  | .writeZeroes tag ends => Sys2Proof.Machine.execWriteZeroes tag ends s
  | .datasetManagement tag ends => Sys2Proof.Machine.execDatasetManagement tag ends s
  | .nvmeVerify tag media ends => Sys2Proof.Machine.execNvmeVerify tag media ends s
  | .reservationRegister tag data => Sys2Proof.Machine.execReservationRegister tag data s
  | .reservationReport tag => Sys2Proof.Machine.execReservationReport tag s
  | .reservationAcquire tag data => Sys2Proof.Machine.execReservationAcquire tag data s
  | .reservationRelease tag data => Sys2Proof.Machine.execReservationRelease tag data s
  | .zoneManagementSend tag => Sys2Proof.Machine.execZoneManagementSend tag s
  | .zoneManagementReceive tag => Sys2Proof.Machine.execZoneManagementReceive tag s
  | .zoneAppend tag ends => Sys2Proof.Machine.execZoneAppend tag ends s
  | .ctrlNsWrite ctrl value => Sys2Proof.Machine.execCtrlNsWrite ctrl value s
  | .inventoryRebuild => Sys2Proof.Machine.execInventoryRebuild s
  | .inventoryRefresh => Sys2Proof.Machine.execInventoryRefresh s
  | .invNoteDataWrite value => Sys2Proof.Machine.execInvNoteDataWrite value s
  | .mctpMessage addr msg good => Sys2Proof.Machine.execMctpMessage addr msg good s
  | .readNvmeMiDataStructure kind port ctrl => Sys2Proof.Machine.execReadNvmeMiDataStructure kind port ctrl s
  | .nvmSubsystemHealthStatusPoll => Sys2Proof.Machine.execNvmSubsystemHealthStatusPoll s
  | .controllerHealthStatusPoll first count => Sys2Proof.Machine.execControllerHealthStatusPoll first count s
  | .configurationGet item port => Sys2Proof.Machine.execConfigurationGet item port s
  | .configurationSet item port value => Sys2Proof.Machine.execConfigurationSet item port value s
  | .nvmeMiReset => Sys2Proof.Machine.execNvmeMiReset s
  | .basicManagementCommand code => Sys2Proof.Machine.execBasicManagementCommand code s
  | .nvmeMiAdminCommand ctrl tag sqe => Sys2Proof.Machine.execNvmeMiAdminCommand ctrl tag sqe s
  | .getVersion => Sys2Proof.Machine.execGetVersion s
  | .getCapabilities req => Sys2Proof.Machine.execGetCapabilities req s
  | .negotiateAlgorithms req ext => Sys2Proof.Machine.execNegotiateAlgorithms req ext s
  | .getDigests => Sys2Proof.Machine.execGetDigests s
  | .getCertificate slot offset len => Sys2Proof.Machine.execGetCertificate slot offset len s
  | .spdmChallenge slot summary nonce => Sys2Proof.Machine.execSpdmChallenge slot summary nonce s
  | .getMeasurements index slot signed nonce => Sys2Proof.Machine.execGetMeasurements index slot signed nonce s
  | .tagDispatch tag => Sys2Proof.Machine.execTagDispatch tag s
  | .writeDataArrive entry data md => Sys2Proof.Machine.execWriteDataArrive entry data md s
  | .writeAdmit tag => Sys2Proof.Machine.execWriteAdmit tag s
  | .tagComplete media => Sys2Proof.Machine.execTagComplete media s
  | .tagMedia => Sys2Proof.Machine.execTagMedia s
  | .completionPost tag => Sys2Proof.Machine.execCompletionPost tag s
  | .wrtRelWrite value => Sys2Proof.Machine.execWrtRelWrite value s
  | .flushComplete tag => Sys2Proof.Machine.execFlushComplete tag s
  | .dumpArm => Sys2Proof.Machine.execDumpArm s
  | .armComplete rate => Sys2Proof.Machine.execArmComplete rate s
  | .plpFail erase => Sys2Proof.Machine.execPlpFail erase s
  | .powerLossWarning source => Sys2Proof.Machine.execPowerLossWarning source s
  | .dumpWrite => Sys2Proof.Machine.execDumpWrite s
  | .dumpComplete => Sys2Proof.Machine.execDumpComplete s
  | .bootDump => Sys2Proof.Machine.execBootDump s
  | .dumpRestore bad => Sys2Proof.Machine.execDumpRestore bad s
  | .dramWrite cls addr bytes found => Sys2Proof.Machine.execDramWrite cls addr bytes found s
  | .dramInvalidate count => Sys2Proof.Machine.execDramInvalidate count s
  | .dramSpare => Sys2Proof.Machine.execDramSpare s
  | .dcmdDone => Sys2Proof.Machine.execDcmdDone s
  | .stkAlloc c zero pool => Sys2Proof.Machine.execStkAlloc c zero pool s
  | .stkAdd c => Sys2Proof.Machine.execStkAdd c s
  | .stkRelease c => Sys2Proof.Machine.execStkRelease c s
  | .stkFree c => Sys2Proof.Machine.execStkFree c s
  | .stkQuery c => Sys2Proof.Machine.execStkQuery c s
  | .poolInit pool => Sys2Proof.Machine.execPoolInit pool s
  | .poolInitDone pool => Sys2Proof.Machine.execPoolInitDone pool s
  | .poolOff pool => Sys2Proof.Machine.execPoolOff pool s
  | .poolClrLow pool => Sys2Proof.Machine.execPoolClrLow pool s
  | .hwAllocRetry pool => Sys2Proof.Machine.execHwAllocRetry pool s
  | .scClean => Sys2Proof.Machine.execScClean s
  | .scInval => Sys2Proof.Machine.execScInval s
  | .scCleanInval => Sys2Proof.Machine.execScCleanInval s
  | .scCleanAll => Sys2Proof.Machine.execScCleanAll s
  | .scCleanInvalAll => Sys2Proof.Machine.execScCleanInvalAll s
  | .mopDone => Sys2Proof.Machine.execMopDone s
  | .scrubItem m addr found => Sys2Proof.Machine.execScrubItem m addr found s
  | .scrubLapEnd m => Sys2Proof.Machine.execScrubLapEnd m s
  | .readRaw m => Sys2Proof.Machine.execReadRaw m s
  | .writeRaw m => Sys2Proof.Machine.execWriteRaw m s
  | .memCntClr m value => Sys2Proof.Machine.execMemCntClr m value s
  | .newkey slot => Sys2Proof.Machine.execNewkey slot s
  | .keyErase slot => Sys2Proof.Machine.execKeyErase slot s
  | .cipherEnable => Sys2Proof.Machine.execCipherEnable s
  | .coreInstruction core => Sys2Proof.Machine.execCoreInstruction core s
  | .mevclaimRead core => Sys2Proof.Machine.execMevclaimRead core s
  | .mevsendWrite core value => Sys2Proof.Machine.execMevsendWrite core value s
  | .mdinvWrite core value => Sys2Proof.Machine.execMdinvWrite core value s
  | .mtaskdoneWrite core value => Sys2Proof.Machine.execMtaskdoneWrite core value s
  | .mwdkickWrite core => Sys2Proof.Machine.execMwdkickWrite core s
  | .mresctlWrite core value => Sys2Proof.Machine.execMresctlWrite core value s
  | .timerInterrupt core => Sys2Proof.Machine.execTimerInterrupt core s
  | .residueMismatch core agrees => Sys2Proof.Machine.execResidueMismatch core agrees s
  | .machineCheck core source addr => Sys2Proof.Machine.execMachineCheck core source addr s
  | .warmRestart core => Sys2Proof.Machine.execWarmRestart core s
  | .warmRestartDone core pass => Sys2Proof.Machine.execWarmRestartDone core pass s
  | .watchdogExpiry core => Sys2Proof.Machine.execWatchdogExpiry core s
  | .coreStart core => Sys2Proof.Machine.execCoreStart core s
  | .coreWarm core => Sys2Proof.Machine.execCoreWarm core s
  | .eventRaise event => Sys2Proof.Machine.execEventRaise event s
  | .eventDeliver event => Sys2Proof.Machine.execEventDeliver event s
  | .evRouteWrite w value => Sys2Proof.Machine.execEvRouteWrite w value s
  | .evSendWrite value => Sys2Proof.Machine.execEvSendWrite value s
  | .taskRaise ch => Sys2Proof.Machine.execTaskRaise ch s
  | .taskLate ch => Sys2Proof.Machine.execTaskLate ch s
  | .lmLoadData7Write ch value => Sys2Proof.Machine.execLmLoadData7Write ch value s
  | .lmStart ch => Sys2Proof.Machine.execLmStart ch s
  | .lmVerifyDone ch => Sys2Proof.Machine.execLmVerifyDone ch s
  | .lmStop ch => Sys2Proof.Machine.execLmStop ch s
  | .lmReload ch => Sys2Proof.Machine.execLmReload ch s
  | .lmReloadDone ch => Sys2Proof.Machine.execLmReloadDone ch s
  | .microword ch handover => Sys2Proof.Machine.execMicroword ch handover s
  | .sigSha256 => Sys2Proof.Machine.execSigSha256 s
  | .sigSha384 => Sys2Proof.Machine.execSigSha384 s
  | .sigVerify => Sys2Proof.Machine.execSigVerify s
  | .sigExtend => Sys2Proof.Machine.execSigExtend s
  | .sigRandom => Sys2Proof.Machine.execSigRandom s
  | .sigOpDone => Sys2Proof.Machine.execSigOpDone s
  | .dbgChal tap => Sys2Proof.Machine.execDbgChal tap s
  | .dbgToken token => Sys2Proof.Machine.execDbgToken token s
  | .dbgSubmit => Sys2Proof.Machine.execDbgSubmit s
  | .tokenCheckDone => Sys2Proof.Machine.execTokenCheckDone s
  | .challengeExpire => Sys2Proof.Machine.execChallengeExpire s
  | .dbgLock => Sys2Proof.Machine.execDbgLock s
  | .dbgFabric addr write value => Sys2Proof.Machine.execDbgFabric addr write value s
  | .otpProgWrite value => Sys2Proof.Machine.execOtpProgWrite value s
  | .otpProgramDone => Sys2Proof.Machine.execOtpProgramDone s
  | .nvsDataWrite value => Sys2Proof.Machine.execNvsDataWrite value s
  | .nvsDataRead => Sys2Proof.Machine.execNvsDataRead s
  | .nvsWriteDone ok => Sys2Proof.Machine.execNvsWriteDone ok s
  | .updHdrchk target => Sys2Proof.Machine.execUpdHdrchk target s
  | .updWrite target => Sys2Proof.Machine.execUpdWrite target s
  | .updSelect target => Sys2Proof.Machine.execUpdSelect target s
  | .updActivate target => Sys2Proof.Machine.execUpdActivate target s
  | .updOpDone flash => Sys2Proof.Machine.execUpdOpDone flash s
  | .chStepDrain => Sys2Proof.Machine.execChStepDrain s
  | .hubStep => Sys2Proof.Machine.execHubStep s
  | .updStWrite source value => Sys2Proof.Machine.execUpdStWrite source value s
  | .selftestTimeout => Sys2Proof.Machine.execSelftestTimeout s
  | .updUnsealWrite value => Sys2Proof.Machine.execUpdUnsealWrite value s
  | .alogEnter => Sys2Proof.Machine.execAlogEnter s
  | .wrGoWrite block value => Sys2Proof.Machine.execWrGoWrite block value s
  | .actStateWrite value => Sys2Proof.Machine.execActStateWrite value s
  | .fatalCmdWrite value => Sys2Proof.Machine.execFatalCmdWrite value s
  | .fatalSequence => Sys2Proof.Machine.execFatalSequence s
  | .fatalRetractTimeout => Sys2Proof.Machine.execFatalRetractTimeout s
  | .fatalFullBoot => Sys2Proof.Machine.execFatalFullBoot s
  | .kprLinkFailTimer second => Sys2Proof.Machine.execKprLinkFailTimer second s
  | .alogSave => Sys2Proof.Machine.execAlogSave s
  | .alogCopyDone ok => Sys2Proof.Machine.execAlogCopyDone ok s
  | .alogFreeze => Sys2Proof.Machine.execAlogFreeze s
  | .alogUnfreeze => Sys2Proof.Machine.execAlogUnfreeze s
  | .freezeTimeout => Sys2Proof.Machine.execFreezeTimeout s
  | .ladderCmdWrite value l12 => Sys2Proof.Machine.execLadderCmdWrite value l12 s
  | .maxRungWrite value => Sys2Proof.Machine.execMaxRungWrite value s
  | .rungEntryStep => Sys2Proof.Machine.execRungEntryStep s
  | .rungWake source => Sys2Proof.Machine.execRungWake source s
  | .rungExit => Sys2Proof.Machine.execRungExit s
  | .supplyGood supply => Sys2Proof.Machine.execSupplyGood supply s
  | .supplyLost supply => Sys2Proof.Machine.execSupplyLost supply s
  | .thermalConversion readings => Sys2Proof.Machine.execThermalConversion readings s
  | .sensorBroken die => Sys2Proof.Machine.execSensorBroken die s
  | .xsRead => Sys2Proof.Machine.execXsRead s
  | .xsProgram => Sys2Proof.Machine.execXsProgram s
  | .xsErase => Sys2Proof.Machine.execXsErase s
  | .xsDone ok => Sys2Proof.Machine.execXsDone ok s
  | .testEnAssert => Sys2Proof.Machine.execTestEnAssert s
  | .tapReset => Sys2Proof.Machine.execTapReset s
  | .extest cells => Sys2Proof.Machine.execExtest cells s
  | .idcode => Sys2Proof.Machine.execIdcode s
  | .samplePreload pins cells => Sys2Proof.Machine.execSamplePreload pins cells s
  | .clamp => Sys2Proof.Machine.execClamp s
  | .highz => Sys2Proof.Machine.execHighz s
  | .bypass => Sys2Proof.Machine.execBypass s
  | .uartDataWrite value => Sys2Proof.Machine.execUartDataWrite value s
  | .uartDataRead => Sys2Proof.Machine.execUartDataRead s
  | .uartReceive byte => Sys2Proof.Machine.execUartReceive byte s
  | .keyCommandDone => Sys2Proof.Machine.execKeyCommandDone s
  | .i3cAddressAssignment assign => Sys2Proof.Machine.execI3cAddressAssignment assign s
  | .testEnDeassert => Sys2Proof.Machine.execTestEnDeassert s
  | .gpioChange levels => Sys2Proof.Machine.execGpioChange levels s
  | .keeperContextResidue => Sys2Proof.Machine.execKeeperContextResidue s
  | .controllerShutdown note => Sys2Proof.Machine.execControllerShutdown note s

end Sys2Proof.Machine
end

