-- ==== Sys2Proof/Machine/Tick.lean ====
section
/-!
DEFINITION. What the passing of a microsecond does where no command waits: the counts of file 02 run on, and the UART sends (R64, R66, R407, R549). DESIGN CHOICE: one idle step is one microsecond.
-/

namespace Sys2Proof.Machine

/-- TSTAMP and MTIME run on by one microsecond (R64, R407). -/
def State.runTime (s : State) : State :=
  { s.setNum TSTAMP ((s.num TSTAMP + 1) % 0x100000000) with mtime := s.mtime + 1 }

/-- The operating time runs on by one unit of 1/8 s for each 125,000 microseconds (R66); it is 40 bits wide. -/
def State.runOptime (s : State) : State :=
  if 125000 ≤ s.subUs + 1 then
    { s.set64 OPTIME_LO OPTIME_HI ((s.optime + 1) % 2 ^ 40) with subUs := 0 }
  else { s with subUs := s.subUs + 1 }

/-- One microsecond: while TEST_EN holds every die in reset nothing runs (R548), nor while the KPR is held in power-on reset, without
VAUX_KPR (R64, R66, R519). -/
def tick (s : State) : State :=
  if s.pins.test || !s.supplyGood 0 then s
  else
    let t := s.runTime.runOptime
    if t.dieOn 0 then t.uartTick else t

end Sys2Proof.Machine
end

