-- ==== Sys2Proof/Safety.lean ====
section
/-!
DEFINITION. The terms claims are stated in: a command's next state, the well-formed states, the registers of a unit, and what a command leaves alone.
-/

namespace Sys2Proof.Machine

/-- The command runs: it answers a next state, of which `P` holds. -/
def Runs (c : Instr) (s : State) (P : State → Prop) : Prop := ∃ t, exec c s = .next t ∧ P t

/-- The well-formed states: the register bank, the captured words and every byte memory are in canonical form, so that equal contents are equal data. -/
structure State.Wf (s : State) : Prop where
  bank : canonical resetOf s.bank = true
  latch : canonical resetOf s.latch = true
  nvs : Memory.wf 0 s.nvs = true
  flash : Memory.wf 0xFF s.flash = true
  otp : Memory.wf 0 s.otp = true
  hsram : Memory.wf 0 s.hsram = true
  csram : ∀ n, Memory.wf 0 (atD s.csram n []) = true
  dram : Memory.wf 0 s.dram = true
  invBuf : ∀ n, Memory.wf 0 (atD s.invBuf n []) = true
  invNotes : Memory.wf 0 s.invNotes = true

/-- A bit of the OTP array (R449). -/
def State.otpBit (s : State) (a i : Nat) : Bool := (Memory.read 0 s.otp a).getLsbD i

/-- The address lies in one of the named units of a die. -/
def inUnits (die : Nat) (units : List Nat) (a : Nat) : Prop :=
  ∃ u o, u ∈ units ∧ o < 0x1000000 ∧ a = unitBase die u + o

/-- Every register outside the named units of the HUB, of the channel dies and of the KPR reads as before. -/
def keepsOutside (s t : State) (hub ch kpr : List Nat) : Prop :=
  ∀ a, ¬ inUnits 0 hub a → (∀ n, n < 4 → ¬ inUnits (n + 1) ch a) → ¬ inUnits 5 kpr a → t.rd a = s.rd a

/-- The same, with further units of one channel die named. -/
def keepsOutsideCh (s t : State) (n : Ch) (own hub ch kpr : List Nat) : Prop :=
  ∀ a, ¬ inUnits (n + 1) own a → ¬ inUnits 0 hub a → (∀ m, m < 4 → ¬ inUnits (m + 1) ch a) → ¬ inUnits 5 kpr a → t.rd a = s.rd a

/-- Bytes [a, a + n) of the physical map lie in HUB SRAM below the bitmap (R371). -/
def inHubSram (a n : Nat) : Bool := decide (sramBase ≤ a) && decide (a + n ≤ sramBase + 0xE2000)

/-- Every member's data and metadata of a Folio descriptor lie in HUB SRAM below the bitmap. -/
def folInSram (d : List Byte) : Bool := (List.range 17).all (fun i => inHubSram (folData d i) 4096 && inHubSram (folMeta d i) 72)

/-- Byte ranges (address, length) of which no two meet. -/
def disjoint : List (Nat × Nat) → Bool
  | [] => true
  | r :: rest => rest.all (fun q => decide (r.1 + r.2 ≤ q.1) || decide (q.1 + q.2 ≤ r.1)) && disjoint rest

/-- Bytes of HUB SRAM at a physical address. -/
def State.sramAt (s : State) (a n : Nat) : List Byte := s.hsBytes (a - sramBase) n

/-- The bytewise XOR of byte strings of `n` bytes. -/
def xorOf (n : Nat) (bs : List (List Byte)) : List Byte := bs.foldl xorBytes (List.replicate n 0)

/-- The buffers of a Folio descriptor's members. -/
def folRanges (d : List Byte) : List (Nat × Nat) :=
  (List.range 17).map (fun i => (folData d i, 4096)) ++ (List.range 17).map (fun i => (folMeta d i, 72))

/-- Where FOLIO writes its next completion. -/
def State.folSlot (s : State) : Nat := sramBase + 64 * s.get FC_CFG_BASE + 16 * (s.num FC_HEAD % ringLenTo 10 (s.get FC_CFG_LEN))

/-- Where the Catalogue writes its next completion, and its next journal record. -/
def State.rcSlot (s : State) : Nat := sramBase + 64 * s.get RC_CFG_BASE + 32 * (s.num RC_HEAD % ringLen (s.get RC_CFG_LEN))
def State.mjSlot (s : State) : Nat := s.num64 MJ_BASE_LO MJ_BASE_HI + 32 * (s.num MJ_HEAD % s.mjLen)

/-- The entries of a zone, of a band and of a Shelfmark that stand in HUB SRAM. -/
def State.zoneEnt (s : State) (z : Nat) : List Byte := s.sramAt (s.zoneAt z) 32
def State.bandEnt (s : State) (b : Nat) : List Byte := s.sramAt (s.bandAt b) 32
def State.markEnt (s : State) (i : Nat) : List Byte := s.sramAt (s.markAt i) 32

/-- The state in which core c, with no interrupt to take, fetches its instruction: awake, and its cycles counted (R406). -/
def State.hartReady (s : State) (c : Nat) : State :=
  let r := (s.wake c).draw 41
  r.2.modCore c (fun k => k.age (r.1 + 1))

/-- The instruction word and its bytes that core c fetches at its pc; none where the fetch faults. -/
def State.wordAt (s : State) (c : Nat) : Option (Nat × Nat) :=
  match s.fetch2 c (s.coreOf c).pc.toNat with
  | (none, _) => none
  | (some lo, t) =>
    if leNat lo % 4 ≠ 3 then some (leNat lo, 2)
    else
      match t.fetch2 c ((s.coreOf c).pc + 2).toNat with
      | (none, _) => none
      | (some hi, _) => some (leNat lo + 0x10000 * leNat hi, 4)

/-- The instruction of a word. -/
def rvOf (w len : Nat) : Rv := if len = 2 then decodeC w else decode32 w

/-- Core c, running with nothing injected, executes instruction `i` of `len` bytes. -/
def State.executes (s : State) (c : Nat) (i : Rv) (len : Nat) : Bool :=
  s.coreRuns c && !((s.wake c).coreOf c).wfi && ((s.wake c).interrupt c).isNone && decide ((s.coreOf c).inject = 0) &&
    match (s.hartReady c).wordAt c with
    | some (w, n) => decide (n = len) && decide (rvOf w n = i)
    | none => false

end Sys2Proof.Machine
end

