-- ==== Sys2Proof/Certificates/Slice0/Obligations.lean ====
section
/-!
DEFINITION. The statements about the Plidal for the provers. Each says what commands do in every state; `s.Wf` (the bank and the memories in canonical form) is the invariant two of the statements are about.
-/

open Sys2Proof Sys2Proof.Machine

/-- In every well-formed state: a good packet that fits the 512 words of its queue is appended whole and RXQ_COUNT shows
the queue; any other is dropped whole, LINK_ERR bit 4 set and MSG_DROP counted up to its saturation; a read of
RXQ_DATA_LO answers the head word and removes it, or answers the idle item; TXQ_DATA_HI appends up to 32 words; GO
sends the packet and empties it, DISCARD empties it, CLR_DROP zeroes MSG_DROP. -/
def Obligations.Link_MSG_queues_move_whole_packets : Prop :=
  (∀ (s : State) (e : LinkEnd) (q : Fin 8) (bad : List Nat) (p : MsgPkt), s.Wf →
    (s.msgFlight.find? (fun p => decide (p.dst = e.val) && decide (p.q = q.val)) = some p) →
    (s.linkUp e = true) →
    (p.words.length + (atD (s.link e).rx q []).length ≤ 512) →
    Runs (.msgPacketReceive e q .good bad) s fun t =>
      atD (t.link e).rx q [] = atD (s.link e).rx q [] ++ queueWords p.words bad ∧
      t.get (RXQ_COUNT_WORDS (linkBase e) q) = p.words.length + (atD (s.link e).rx q []).length ∧
      t.msgFlight = s.msgFlight.erase p) ∧
  (∀ (s : State) (e : LinkEnd) (q : Fin 8) (fate : MsgFate) (bad : List Nat) (p : MsgPkt), s.Wf →
    (s.msgFlight.find? (fun p => decide (p.dst = e.val) && decide (p.q = q.val)) = some p) →
    (s.linkOn e = true) →
    (s.linkUp e = true ∨ fate = .cut) →
    (fate ≠ .good ∨ 512 < p.words.length + (atD (s.link e).rx q []).length) →
    Runs (.msgPacketReceive e q fate bad) s fun t =>
      t.links = s.links ∧
      t.msgFlight = s.msgFlight.erase p ∧
      bitOf (t.num (LINK_ERR (linkBase e))) 4 = true ∧
      t.num (MSG_DROP (linkBase e)) = min (s.num (MSG_DROP (linkBase e)) + 1) 0xFFFFFFFF) ∧
  (∀ (s : State) (e : LinkEnd) (q : Fin 8) (fate : MsgFate) (bad : List Nat), s.Wf →
    (s.linkUp e = false) →
    (fate ≠ .cut) →
    Runs (.msgPacketReceive e q fate bad) s fun t =>
      t = { s with resp := t.resp }) ∧
  (∀ (s : State) (e : LinkEnd) (q : Fin 8) (w : QWord) (rest : List QWord), s.Wf →
    (s.dieOn (linkDie e) = true) →
    (atD (s.link e).rx q [] = w :: rest) →
    Runs (.rxqDataLoRead e q) s fun t =>
      t.resp = .data (w.data.toNat % 0x100000000) ∧
      t.num (RXQ_DATA_HI (linkBase e) q) = w.data.toNat / 0x100000000 ∧
      t.num (RXQ_TAG (linkBase e) q) = ofBool w.last * 2 + ofBool w.bad ∧
      atD (t.link e).rx q [] = rest ∧
      (w.bad = true → bitOf (t.num (LINK_ERR (linkBase e))) 3 = true)) ∧
  (∀ (s : State) (e : LinkEnd) (q : Fin 8), s.Wf →
    (s.dieOn (linkDie e) = true) →
    (atD (s.link e).rx q [] = []) →
    Runs (.rxqDataLoRead e q) s fun t =>
      t.resp = .data 0xDEAD1D1E ∧
      t.num (RXQ_DATA_HI (linkBase e) q) = 0 ∧
      t.num (RXQ_TAG (linkBase e) q) = 4 ∧
      t.links = s.links) ∧
  (∀ (s : State) (e : LinkEnd) (q : Fin 8) (v : Word), s.Wf →
    (s.dieOn (linkDie e) = true) →
    ((atD (s.link e).tx q []).length < 32) →
    Runs (.txqDataHiWrite e q v) s fun t =>
      atD (t.link e).tx q [] = atD (s.link e).tx q [] ++ [BitVec.ofNat 64 ((atD (s.link e).txLo q 0).toNat + 0x100000000 * v.toNat)] ∧
      t.resp = .done) ∧
  (∀ (s : State) (e : LinkEnd) (q : Fin 8) (v : Word), s.Wf →
    (s.dieOn (linkDie e) = true) →
    (32 ≤ (atD (s.link e).tx q []).length) →
    Runs (.txqDataHiWrite e q v) s fun t =>
      atD (t.link e).tx q [] = atD (s.link e).tx q []) ∧
  (∀ (s : State) (e : LinkEnd) (q : Fin 8), s.Wf →
    (s.dieOn (linkDie e) = true) →
    (s.linkOn e = true) →
    (atD (s.link e).tx q [] ≠ []) →
    Runs (.txqGo e q) s fun t =>
      t.msgFlight = s.msgFlight ++ [⟨farEnd e, q, s.num TSTAMP, atD (s.link e).tx q []⟩] ∧
      atD (t.link e).tx q [] = []) ∧
  (∀ (s : State) (e : LinkEnd) (q : Fin 8), s.Wf →
    (s.dieOn (linkDie e) = true) →
    (s.linkOn e = false ∨ atD (s.link e).tx q [] = []) →
    Runs (.txqGo e q) s fun t =>
      t.msgFlight = s.msgFlight ∧
      atD (t.link e).tx q [] = []) ∧
  (∀ (s : State) (e : LinkEnd) (q : Fin 8), s.Wf →
    (s.dieOn (linkDie e) = true) →
    Runs (.txqDiscard e q) s fun t =>
      atD (t.link e).tx q [] = [] ∧
      t.msgFlight = s.msgFlight) ∧
  (∀ (s : State) (e : LinkEnd), s.Wf →
    (s.dieOn (linkDie e) = true) →
    Runs (.linkClrDrop e) s fun t =>
      t.num (MSG_DROP (linkBase e)) = 0 ∧
      t.num (LINK_ERR (linkBase e)) = s.num (LINK_ERR (linkBase e)))

/-- In every well-formed state: a flit failing its CRC sets LINK_ERR bit 0, counts failures of the same flit, and at
RETRY_LIMIT sets bit 1; the limit reached, or LINK_CMD.RETRAIN, makes both ends Retraining; a trained link is Up with
its lanes, an untrained one is counted; three failed retrains make both ends Failed, the actuator of a HUB-CHn link
Degraded, and on HUB-KPR a Fatal cause. -/
def Obligations.Link_retry_retrain_and_failure : Prop :=
  (∀ (s : State) (e : LinkEnd) (same : Bool), s.Wf →
    (s.linkOn e = true) →
    Runs (.flitReplay e same) s fun t =>
      bitOf (t.num (LINK_ERR (linkBase e))) 0 = true ∧
      (t.link e).fails = (if same then (s.link e).fails + 1 else 1) ∧
      (s.retryLimit e ≤ (t.link e).fails → bitOf (t.num (LINK_ERR (linkBase e))) 1 = true)) ∧
  (∀ (s : State) (e : LinkEnd), s.Wf →
    (s.linkOn e = true) →
    (s.retryLimit e ≤ (s.link e).fails) →
    Runs (.linkRetrain e) s fun t =>
      t.get (LINK_STAT_STATE (linkBase e)) = 3 ∧
      t.get (LINK_STAT_STATE (linkBase (farEnd e))) = 3 ∧
      (t.link e).fails = 0 ∧
      (t.link (farEnd e)).fails = 0 ∧
      bitOf (t.num (LINK_ERR (linkBase e))) 2 = true ∧
      bitOf (t.num (LINK_ERR (linkBase (farEnd e)))) 2 = true) ∧
  (∀ (s : State) (e : LinkEnd), s.Wf →
    (s.dieOn (linkDie e) = true) →
    (s.linkOn e = true) →
    Runs (.linkRetrainCmd e) s fun t =>
      t.get (LINK_STAT_STATE (linkBase e)) = 3 ∧
      t.get (LINK_STAT_STATE (linkBase (farEnd e))) = 3 ∧
      t.resp = .done) ∧
  (∀ (s : State) (e : LinkEnd) (lanes : Nat), s.Wf →
    (s.get (LINK_STAT_STATE (linkBase e)) = 3) →
    Runs (.retrainComplete e true lanes) s fun t =>
      t.get (LINK_STAT_STATE (linkBase e)) = 2 ∧
      t.get (LINK_STAT_STATE (linkBase (farEnd e))) = 2 ∧
      t.get (LINK_STAT_LANES_UP (linkBase e)) = Nat.land lanes (fullLanes e) ∧
      (t.link e).retrains = 0 ∧
      (t.link (farEnd e)).retrains = 0) ∧
  (∀ (s : State) (e : LinkEnd) (lanes : Nat), s.Wf →
    (s.get (LINK_STAT_STATE (linkBase e)) = 3) →
    Runs (.retrainComplete e false lanes) s fun t =>
      (t.link e).retrains = max (s.link e).retrains (s.link (farEnd e)).retrains + 1 ∧
      (t.link (farEnd e)).retrains = (t.link e).retrains ∧
      t.bank = s.bank) ∧
  (∀ (s : State) (e : LinkEnd), s.Wf →
    (3 ≤ (s.link e).retrains) →
    (s.get (LINK_STAT_STATE (linkBase e)) ≠ 0xF) →
    (e.val ≠ 4) →
    (e.val ≠ 9) →
    Runs (.linkFailed e) s fun t =>
      t.get (LINK_STAT_STATE (linkBase e)) = 0xF ∧
      t.get (LINK_STAT_STATE (linkBase (farEnd e))) = 0xF ∧
      t.fatal = s.fatal) ∧
  (∀ (s : State) (e : LinkEnd), s.Wf →
    (s.linkOn e = false ∨ (s.link e).fails < s.retryLimit e) →
    Runs (.linkRetrain e) s fun t =>
      t = { s with resp := t.resp }) ∧
  (∀ (s : State) (e : LinkEnd) (trained : Bool) (lanes : Nat), s.Wf →
    (s.get (LINK_STAT_STATE (linkBase e)) ≠ 3) →
    Runs (.retrainComplete e trained lanes) s fun t =>
      t = { s with resp := t.resp }) ∧
  (∀ (s : State) (e : LinkEnd), s.Wf →
    (3 ≤ (s.link e).retrains) →
    (s.get (LINK_STAT_STATE (linkBase e)) ≠ 0xF) →
    (e.val = 4 ∨ e.val = 9) →
    Runs (.linkFailed e) s fun t =>
      t.get (LINK_STAT_STATE (linkBase e)) = 0xF ∧
      t.fatal = s.fatal ++ [.link])

/-- In every well-formed state, on an enabled channel: from boot stage 4 a forward frame, its marker no sooner than 9.0 µs
after the last, carries wedge, SPIN_LOCK, SPIN_RUN and the shock trip; received without error it becomes the
prediction, with its marker or CRC wrong it sets FWD_CRC, counts, and the prediction is the channel's own
extrapolation; 16 discarded set LINE_FAIL and let the KPR restart the strand; a return frame failing its CRC sets
RET_CRC, and it or a missing one counts; one received whole with FOUND 1 extends the run within ±20 ns of the
prediction and unlocks outside; 64 good wedges set LOCKED, 16 bad return frames RET_FAIL. -/
def Obligations.Wedge_lines_carry_frames_and_lock : Prop :=
  (∀ (s : State) (ch : Ch), s.Wf →
    (s.chUp ch = true) →
    (4 ≤ s.get BOOT_STAT_STAGE) →
    Runs (.forwardFrameSend ch) s fun t =>
      (t.wlOf ch).frame.map (fun f => (f.mark, f.wedge, f.spinLock, f.spinRun, f.shockTrip)) = some ((s.nextMarker ch).1, (s.nextMarker ch).2, s.flag SPIN_STAT_SPIN_LOCK, s.flag SPIN_STAT_SPIN_RUN, atD s.shock.trip ch false) ∧
      (s.wlOf ch).lastMark.all (fun m => decide (m + 115200 ≤ (t.wlOf ch).predicted)) = true ∧
      (t.wlOf ch).lastMark = some (t.wlOf ch).predicted ∧
      (t.wlOf ch).predicted = (s.nextMarker ch).1 ∧
      atD t.shock.trip ch true = false) ∧
  (∀ (s : State) (ch : Ch), s.Wf →
    (s.get BOOT_STAT_STAGE < 4) →
    Runs (.forwardFrameSend ch) s fun t =>
      t = { s with resp := t.resp }) ∧
  (∀ (s : State) (ch : Ch) (f : FwdFrame), s.Wf →
    (s.chUp ch = true) →
    ((s.wlOf ch).frame = some f) →
    (f.spinRun = true) →
    Runs (.forwardFrameReceive ch 0) s fun t =>
      (t.demodOf ch).pred = f.mark * 625 / 4 ∧
      (t.demodOf ch).predWedge = f.wedge ∧
      (t.demodOf ch).fwdBad = 0 ∧
      (t.loopOf ch).fwd = some f) ∧
  (∀ (s : State) (ch : Ch) (errs : BitVec 96), s.Wf →
    (s.chUp ch = true) →
    ((s.wlOf ch).frame.all (fun f => !fwdGood ((BitVec.ofNat 96 f.bits ^^^ errs).toNat)) = true) →
    Runs (.forwardFrameReceive ch errs) s fun t =>
      (t.demodOf ch).fwdBad = (s.demodOf ch).fwdBad + 1 ∧
      (t.demodOf ch).pred = s.extrapolated ch ((s.demodOf ch).since + 1) ∧
      (t.demodOf ch).predWedge = ((s.demodOf ch).wedge + 1) % s.wedgesPerRev ∧
      t.flag (WLR_STAT_FWD_CRC ch) = true) ∧
  (∀ (s : State) (ch : Ch), s.Wf →
    (s.chUp ch = true) →
    (16 ≤ (s.demodOf ch).fwdBad) →
    Runs (.wedgeLineFail ch) s fun t =>
      t.flag (WLR_STAT_LINE_FAIL ch) = true) ∧
  (∀ (s : State) (ch : Ch), s.Wf →
    (s.chUp ch = true) →
    (16 ≤ (s.demodOf ch).fwdBad) →
    Runs (.forwardStrandRestart ch) s fun t =>
      (t.wlOf ch).frame = none ∧
      (t.wlOf ch).lastMark = (s.wlOf ch).lastMark ∧
      t.bank = s.bank) ∧
  (∀ (s : State) (ch : Ch) (errs : BitVec 32) (r : RetFrame), s.Wf →
    (s.chUp ch = true) →
    ((s.demodOf ch).ret = some r) →
    (retGood ((BitVec.ofNat 32 r.bits ^^^ errs).toNat) = false) →
    Runs (.returnFrameReceive ch (some errs)) s fun t =>
      t.flag (WL_STAT_RET_CRC ch) = true ∧
      (t.wlOf ch).bad = (s.wlOf ch).bad + 1 ∧
      (t.wlOf ch).noFound = (s.wlOf ch).noFound + 1 ∧
      (t.wlOf ch).run = 0) ∧
  (∀ (s : State) (ch : Ch), s.Wf →
    (s.chUp ch = true) →
    Runs (.returnFrameReceive ch none) s fun t =>
      (t.wlOf ch).bad = (s.wlOf ch).bad + 1 ∧
      (t.wlOf ch).noFound = (s.wlOf ch).noFound + 1 ∧
      (t.wlOf ch).run = 0) ∧
  (∀ (s : State) (ch : Ch) (r : RetFrame), s.Wf →
    (s.chUp ch = true) →
    ((s.demodOf ch).ret = some r) →
    (r.headSw = false) →
    (r.found = true) →
    (((r.stamp : Int) - (s.wlOf ch).predicted).natAbs ≤ 256) →
    Runs (.returnFrameReceive ch (some 0)) s fun t =>
      (t.wlOf ch).run = (s.wlOf ch).run + 1 ∧
      (t.wlOf ch).bad = 0 ∧
      (t.wlOf ch).noFound = 0 ∧
      (t.wlOf ch).detected = some r.stamp) ∧
  (∀ (s : State) (ch : Ch) (r : RetFrame), s.Wf →
    (s.chUp ch = true) →
    ((s.demodOf ch).ret = some r) →
    (r.headSw = false) →
    (r.found = true) →
    (256 < ((r.stamp : Int) - (s.wlOf ch).predicted).natAbs) →
    Runs (.returnFrameReceive ch (some 0)) s fun t =>
      (t.wlOf ch).run = 0 ∧
      t.flag (WL_STAT_LOCKED ch) = false) ∧
  (∀ (s : State) (ch : Ch) (r : RetFrame), s.Wf →
    (s.chUp ch = true) →
    ((s.demodOf ch).ret = some r) →
    (r.found = false) →
    Runs (.returnFrameReceive ch (some 0)) s fun t =>
      (t.wlOf ch).run = 0 ∧
      (t.wlOf ch).bad = 0 ∧
      (15 ≤ (s.wlOf ch).noFound → t.flag (WL_STAT_LOCKED ch) = false)) ∧
  (∀ (s : State) (ch : Ch), s.Wf →
    (s.chUp ch = true) →
    (64 ≤ (s.wlOf ch).run) →
    Runs (.wlLock ch) s fun t =>
      t.flag (WL_STAT_LOCKED ch) = true) ∧
  (∀ (s : State) (ch : Ch), s.Wf →
    (s.chUp ch = true) →
    (16 ≤ (s.wlOf ch).bad) →
    Runs (.wlRetFail ch) s fun t =>
      t.flag (WL_STAT_RET_FAIL ch) = true)

/-- In every well-formed state: the first loss of the crystal sets XTAL_LOST and BACKUP and adds a Fatal cause; the
crystal correction changes by at most 655/65,536 ppm in one update and is held while the KPR's diode is broken;
OPTIME_SAVE stores the 40-bit operating time, least significant byte first, at the model's place in the NV store (log
entry 3). -/
def Obligations.Crystal_loss_compensation_and_operating_time : Prop :=
  (∀ (s : State), s.Wf →
    (s.flag CLOCK_STAT_XTAL_LOST = false) →
    Runs (.xtalLoss) s fun t =>
      t.flag CLOCK_STAT_XTAL_LOST = true ∧
      t.flag CLOCK_STAT_BACKUP = true ∧
      t.fatal = s.fatal ++ [.crystal]) ∧
  (∀ (s : State), s.Wf →
    (s.flag (THERM_T_BROKEN 5) = false) →
    ((sx 32 (s.num COMP_PPM)).natAbs ≤ 2147482000) →
    Runs (.compUpdate) s fun t =>
      (sx 32 (t.num COMP_PPM) - sx 32 (s.num COMP_PPM)).natAbs ≤ 655 ∧
      t.flag CLOCK_STAT_COMP_HOLD = false) ∧
  (∀ (s : State), s.Wf →
    (s.flag (THERM_T_BROKEN 5) = true) →
    Runs (.compUpdate) s fun t =>
      t.num COMP_PPM = s.num COMP_PPM ∧
      t.flag CLOCK_STAT_COMP_HOLD = true) ∧
  (∀ (s : State), s.Wf →
    (s.optime < 2 ^ 40) →
    Runs (.optimeSave) s fun t =>
      t.nvsNat 0x18008 5 = s.optime ∧
      t.bank = s.bank)

/-- In every well-formed state, for a unit u of a die that answers: a calibration past INTERVAL or TEMP_DELTA, or STARTed
outside the 60 s interval, is due and waits; a START inside the interval is kept until the interval ends; past GRACE
minutes a due calibration is OVERDUE; the only waiting request is granted a free unit, BUSY showing its run, which
past the deadline starts at the next tick, and a recovery or contact calibration takes a free unit that it uses; a
first run ends BUSY and waits for a second; two agreeing runs, or a third that agrees with either, adopt the last and
save its selection; three that disagree set DISAGREE and keep the selection. -/
def Obligations.Calibrations_fall_due_and_take_turns : Prop :=
  (∀ (s : State) (u : CalUnit), s.Wf →
    (s.dieOn (calDie u) = true) →
    (calDueNow u s = true) →
    Runs (.calDue u) s fun t =>
      t.flag (CAL_STAT_DUE (calBase u)) = true ∧
      t.waiting.any (fun w => decide (w.unit = u.val)) = true ∨ s.flag (CAL_STAT_BUSY (calBase u)) = true) ∧
  (∀ (s : State) (u : CalUnit), s.Wf →
    (s.dieOn (calDie u) = true) →
    (calHoldoffOver u s = true) →
    Runs (.calStart u) s fun t =>
      t.flag (CAL_STAT_DUE (calBase u)) = true ∧
      t.resp = .done) ∧
  (∀ (s : State) (u : CalUnit), s.Wf →
    (s.dieOn (calDie u) = true) →
    (calHoldoffOver u s = false) →
    Runs (.calStart u) s fun t =>
      (t.calOf u).startPend = true ∧
      t.waiting = s.waiting) ∧
  (∀ (s : State) (u : CalUnit), s.Wf →
    ((s.calOf u).startPend = true) →
    (calHoldoffOver u s = true) →
    Runs (.calHoldoffEnd u) s fun t =>
      (t.calOf u).startPend = false ∧
      t.flag (CAL_STAT_DUE (calBase u)) = true) ∧
  (∀ (s : State) (u : CalUnit), s.Wf →
    (s.flag (CAL_STAT_DUE (calBase u)) = true) →
    ((s.calOf u).dueAt + s.get (CAL_CTL_GRACE (calBase u)) * 480 ≤ s.optime) →
    Runs (.calDeadline u) s fun t =>
      t.flag (CAL_STAT_OVERDUE (calBase u)) = true ∧
      t.waiting.all (fun w => !decide (w.unit = u.val) || decide (w.row = 3)) = true) ∧
  (∀ (s : State) (unit : SharedUnit) (folio : Bool) (u : CalUnit) (row : Nat), s.Wf →
    (s.waiting = [⟨u, row⟩]) →
    (calKey u = sharedKey unit) →
    (row < 9) →
    (mayRun s ⟨u, row⟩ = true) →
    (look (sharedKey unit) s.holders = none) →
    (s.foreRuns (sharedKey unit) = false) →
    Runs (.sharedUnitGrant unit [] folio) s fun t =>
      t.waiting = [] ∧
      (row ≠ 3 ∨ isTdc u = true → t.flag (CAL_STAT_BUSY (calBase u)) = true) ∧
      (row = 3 ∧ isTdc u = false → (t.calOf u).granted = true) ∧
      (isTdc u = false → look (sharedKey unit) t.holders = some row)) ∧
  (∀ (s : State) (unit : SharedUnit) (folio : Bool), s.Wf →
    (s.waiting = []) →
    (look (sharedKey unit) s.holders = none) →
    (s.foreRuns (sharedKey unit) = true) →
    Runs (.sharedUnitGrant unit [] folio) s fun t =>
      look (sharedKey unit) t.holders = some 2) ∧
  (∀ (s : State) (u : CalUnit) (m : List Int), s.Wf →
    (s.flag (CAL_STAT_BUSY (calBase u)) = false ∨ s.calCanRun u = false) →
    Runs (.calRunComplete u m) s fun t =>
      t = { s with resp := t.resp }) ∧
  (∀ (s : State) (u : CalUnit) (m : List Int), s.Wf →
    (s.flag (CAL_STAT_BUSY (calBase u)) = true) →
    (s.calCanRun u = true) →
    ((s.calOf u).runs = []) →
    Runs (.calRunComplete u m) s fun t =>
      t.flag (CAL_STAT_BUSY (calBase u)) = false ∧
      (t.calOf u).runs = [m] ∧
      (t.calOf u).selection = (s.calOf u).selection) ∧
  (∀ (s : State) (u : CalUnit) (m r : List Int), s.Wf →
    (s.flag (CAL_STAT_BUSY (calBase u)) = true) →
    (s.calCanRun u = true) →
    ((s.calOf u).runs = [r]) →
    (agrees u (s.get (CAL_TOL_TOL (calBase u))) r m = true) →
    Runs (.calRunComplete u m) s fun t =>
      (u.val < 6 → (t.calOf u).selection = selBits (calSelect u m)) ∧
      (6 ≤ u.val → ((t.calOf u).next.map (fun p => p.1)) = some (selBits (calSelect u m))) ∧
      t.nvsNat (calNvs u) 0x50 = selBits (calSelect u m) % 2 ^ 640 ∧
      (t.calOf u).runs = [] ∧
      t.flag (CAL_STAT_ADOPTED (calBase u)) = true ∧
      t.get (CAL_STAT_RUNS (calBase u)) = 2 ∧
      t.flag (CAL_STAT_DUE (calBase u)) = false) ∧
  (∀ (s : State) (u : CalUnit) (m r : List Int), s.Wf →
    (s.flag (CAL_STAT_BUSY (calBase u)) = true) →
    (s.calCanRun u = true) →
    ((s.calOf u).runs = [r]) →
    (agrees u (s.get (CAL_TOL_TOL (calBase u))) r m = false) →
    Runs (.calRunComplete u m) s fun t =>
      (t.calOf u).runs = [r, m] ∧
      (t.calOf u).selection = (s.calOf u).selection ∧
      t.flag (CAL_STAT_BUSY (calBase u)) = false) ∧
  (∀ (s : State) (u : CalUnit) (m q r : List Int), s.Wf →
    (s.flag (CAL_STAT_BUSY (calBase u)) = true) →
    (s.calCanRun u = true) →
    ((s.calOf u).runs = [q, r]) →
    (agrees u (s.get (CAL_TOL_TOL (calBase u))) q m = true ∨ agrees u (s.get (CAL_TOL_TOL (calBase u))) r m = true) →
    Runs (.calRunComplete u m) s fun t =>
      (u.val < 6 → (t.calOf u).selection = selBits (calSelect u m)) ∧
      (6 ≤ u.val → ((t.calOf u).next.map (fun p => p.1)) = some (selBits (calSelect u m))) ∧
      t.flag (CAL_STAT_ADOPTED (calBase u)) = true ∧
      t.get (CAL_STAT_RUNS (calBase u)) = 3) ∧
  (∀ (s : State) (u : CalUnit) (m q r : List Int), s.Wf →
    (s.flag (CAL_STAT_BUSY (calBase u)) = true) →
    (s.calCanRun u = true) →
    ((s.calOf u).runs = [q, r]) →
    (agrees u (s.get (CAL_TOL_TOL (calBase u))) q m = false) →
    (agrees u (s.get (CAL_TOL_TOL (calBase u))) r m = false) →
    Runs (.calRunComplete u m) s fun t =>
      t.flag (CAL_STAT_DISAGREE (calBase u)) = true ∧
      t.flag (CAL_STAT_ADOPTED (calBase u)) = false ∧
      t.get (CAL_STAT_RUNS (calBase u)) = 3 ∧
      (t.calOf u).selection = (s.calOf u).selection ∧
      (t.calOf u).next = (s.calOf u).next ∧
      (t.calOf u).runs = [])

/-- In every well-formed state, on an enabled channel: the servo gate opens; the first mark in it of enough bits of
SAM_CFG.PATTERN, inside the window and without another wedge number than the predicted one, places the tick, is
remembered and goes back in the return frame, one outside the window or with another number is counted as rejected,
the latter leaving the wedge without a mark, a further mark, one outside the gate or of too few bits changes nothing,
and in search mode the first with good parity is taken with its number; a wedge without a mark runs on the prediction
with the write gate closed; LOSS_LIM misses set LOSS and start search mode; 8 marks in the window end it. -/
def Obligations.Servo_marks_place_the_tick : Prop :=
  (∀ (s : State) (ch : Ch), s.Wf →
    (s.chUp ch = true) →
    Runs (.servoGateOpen ch) s fun t =>
      (t.demodOf ch).gate = true ∧
      (t.demodOf ch).taken = false ∧
      t.flag (WR_STAT_GATE ch) = false) ∧
  (∀ (s : State) (ch : Ch) (marks : List MarkSig) (m : MarkSig), s.Wf →
    (s.chUp ch = true) →
    (s.flag (DEMOD_CTL_EN ch) = true) →
    (s.flag (DEMOD_STAT_SEARCH ch) = false) →
    (marks[s.servoReader ch]? = some m) →
    ((s.demodOf ch).taken = false) →
    (s.inGate ch m.tick = true) →
    (s.samThr ch ≤ samMatch (s.get (SAM_CFG_PATTERN ch)) m.sam) →
    (((m.tick : Int) - (s.demodOf ch).pred).natAbs ≤ s.samWin ch) →
    (oddParity (dibits m.wnum) = false ∨ bitsOf (dibits m.wnum) 11 2 = (s.demodOf ch).predWedge) →
    Runs (.samAccept ch marks) s fun t =>
      (t.demodOf ch).found = true ∧
      (t.demodOf ch).taken = true ∧
      (t.demodOf ch).tick = m.tick ∧
      (t.demodOf ch).wedge = (s.demodOf ch).predWedge ∧
      (t.demodOf ch).last = some (m.tick, (s.demodOf ch).predWedge) ∧
      (t.demodOf ch).wedges = (s.demodOf ch).wedges + 1 ∧
      (t.demodOf ch).ret.map (fun r => (r.tick, r.wedge, r.found)) = some (m.tick, (s.demodOf ch).predWedge, true)) ∧
  (∀ (s : State) (ch : Ch) (marks : List MarkSig) (m : MarkSig), s.Wf →
    (s.chUp ch = true) →
    (s.flag (DEMOD_CTL_EN ch) = true) →
    (s.flag (DEMOD_STAT_SEARCH ch) = false) →
    (marks[s.servoReader ch]? = some m) →
    ((s.demodOf ch).taken = false) →
    (s.inGate ch m.tick = true) →
    (s.samThr ch ≤ samMatch (s.get (SAM_CFG_PATTERN ch)) m.sam) →
    (s.samWin ch < ((m.tick : Int) - (s.demodOf ch).pred).natAbs ∨ (oddParity (dibits m.wnum) = true ∧ bitsOf (dibits m.wnum) 11 2 ≠ (s.demodOf ch).predWedge)) →
    Runs (.samAccept ch marks) s fun t =>
      t.demodOf ch = { s.demodOf ch with taken := decide (((m.tick : Int) - (s.demodOf ch).pred).natAbs ≤ s.samWin ch) } ∧
      t.num (DEMOD_CNT ch 1) = min (s.num (DEMOD_CNT ch 1) + 1) 0xFFFFFFFF) ∧
  (∀ (s : State) (ch : Ch) (marks : List MarkSig) (m : MarkSig), s.Wf →
    (marks[s.servoReader ch]? = some m) →
    (s.flag (DEMOD_CTL_EN ch) = false ∨ (s.demodOf ch).taken = true ∨ s.inGate ch m.tick = false ∨ samMatch (s.get (SAM_CFG_PATTERN ch)) m.sam < s.samThr ch) →
    Runs (.samAccept ch marks) s fun t =>
      t = { s with resp := t.resp }) ∧
  (∀ (s : State) (ch : Ch) (marks : List MarkSig) (m : MarkSig), s.Wf →
    (s.chUp ch = true) →
    (s.flag (DEMOD_CTL_EN ch) = true) →
    (s.flag (DEMOD_STAT_SEARCH ch) = true) →
    (marks[s.servoReader ch]? = some m) →
    ((s.demodOf ch).taken = false) →
    ((s.demodOf ch).gate = true) →
    (s.samThr ch ≤ samMatch (s.get (SAM_CFG_PATTERN ch)) m.sam) →
    (oddParity (dibits m.wnum) = true) →
    Runs (.samAccept ch marks) s fun t =>
      (t.demodOf ch).tick = m.tick ∧
      (t.demodOf ch).wedge = bitsOf (dibits m.wnum) 11 2 ∧
      (t.demodOf ch).found = true ∧
      (t.demodOf ch).taken = true) ∧
  (∀ (s : State) (ch : Ch), s.Wf →
    (s.chUp ch = true) →
    (s.flag (DEMOD_CTL_EN ch) = true) →
    Runs (.wedgeLoss ch) s fun t =>
      (t.demodOf ch).found = false ∧
      (t.demodOf ch).tick = (s.demodOf ch).pred ∧
      (t.demodOf ch).wedge = (s.demodOf ch).predWedge ∧
      (t.demodOf ch).since = (s.demodOf ch).since + 1 ∧
      t.num (DEMOD_CNT ch 0) = min (s.num (DEMOD_CNT ch 0) + 1) 0xFFFFFFFF ∧
      (t.demodOf ch).ret.map (fun r => (r.tick, r.wedge, r.found)) = some ((s.demodOf ch).pred, (s.demodOf ch).predWedge, false)) ∧
  (∀ (s : State) (ch : Ch), s.Wf →
    (s.chUp ch = true) →
    (s.flag (DEMOD_CTL_EN ch) = true) →
    (s.flag (DEMOD_STAT_LOSS ch) = false) →
    (max 1 (s.get (DEMOD_XCTL_LOSS_LIM ch)) ≤ s.get (DEMOD_STAT_MISS_RUN ch)) →
    Runs (.demodLoss ch) s fun t =>
      t.flag (DEMOD_STAT_LOSS ch) = true ∧
      t.flag (DEMOD_STAT_SEARCH ch) = true ∧
      t.flag (WR_STAT_GATE ch) = false) ∧
  (∀ (s : State) (ch : Ch), s.Wf →
    (s.dieOn (ch + 1) = true) →
    Runs (.demodSearch ch) s fun t =>
      (t.demodOf ch).srch = true ∧
      t.resp = .done) ∧
  (∀ (s : State) (ch : Ch), s.Wf →
    (s.chUp ch = true) →
    (s.flag (DEMOD_STAT_SEARCH ch) = true) →
    (8 ≤ (s.demodOf ch).run) →
    Runs (.searchExit ch) s fun t =>
      t.flag (DEMOD_STAT_SEARCH ch) = false)

/-- In every well-formed state, on a channel die that answers: a write of DEMOD_CTL waits for the tick with the restoring
of the Expert fields; reading DEMOD_STAT answers it and captures POS, PES, TARGET and RRO; at PES-ready with EN 1 and
the TDC out of lock, POS and PES are not valid and the gate, outside search mode, closes; TDC loss of lock clears
LOCK, POS_VALID and PES_VALID and sets UNLOCK, and the relock sets LOCK; twelve good pairs with a reference track and
the TDC in lock give a valid position, R115 and R116's X; with EN 0 nothing is published; the temperature correction
stands still while the diode is broken and else is TDC_TC times the diode's change, carried in TDC_STAT.CTRL alone,
which no correction leaves as it is; CNT_CLR zeroes the counters named. -/
def Obligations.Position_results_are_published_and_read_together : Prop :=
  (∀ (s : State) (ch : Ch) (v : Word), s.Wf →
    (s.dieOn (ch + 1) = true) →
    Runs (.demodCtlWrite ch v) s fun t =>
      (t.demodOf ch).due = (s.demodOf ch).due ++ [(DEMOD_CTL ch, v), (SAM_CFG ch, resetOf (SAM_CFG ch)), (ID_CFG ch, resetOf (ID_CFG ch)), (CHEV_CFG ch, resetOf (CHEV_CFG ch)), (DEMOD_XCTL ch, resetOf (DEMOD_XCTL ch)), (TDC_TC ch, resetOf (TDC_TC ch))] ∧
      t.bank = s.bank) ∧
  (∀ (s : State) (ch : Ch), s.Wf →
    (s.dieOn (ch + 1) = true) →
    Runs (.demodStatRead ch) s fun t =>
      t.resp = .data (s.readView (DEMOD_STAT ch)).toNat ∧
      t.readView (POS_LO ch) = s.rd (POS_LO ch) ∧
      t.readView (POS_HI ch) = s.rd (POS_HI ch) ∧
      t.readView (PES ch) = s.rd (PES ch) ∧
      t.readView (DEMOD_TARGET_LO ch) = s.rd (DEMOD_TARGET_LO ch) ∧
      t.readView (DEMOD_TARGET_HI ch) = s.rd (DEMOD_TARGET_HI ch) ∧
      t.readView (RRO ch) = s.rd (RRO ch) ∧
      t.bank = s.bank) ∧
  (∀ (s : State) (ch : Ch) (signals : List ServoSig) (telem : Bool), s.Wf →
    (s.chUp ch = true) →
    (s.flag (DEMOD_CTL_EN ch) = true) →
    (s.flag (TDC_STAT_LOCK ch) = false) →
    Runs (.pesReady ch signals telem) s fun t =>
      (t.demodOf ch).posValid = false ∧
      (t.demodOf ch).pesValid = false ∧
      (s.flag (DEMOD_STAT_SEARCH ch) = false → (t.demodOf ch).gate = false)) ∧
  (∀ (s : State) (ch : Ch) (signals : List ServoSig) (telem : Bool) (g : ServoSig) (nref : Int), s.Wf →
    (s.chUp ch = true) →
    (s.flag (DEMOD_CTL_EN ch) = true) →
    (s.flag (TDC_STAT_LOCK ch) = true) →
    (signals[s.servoReader ch]? = some g) →
    (chevOk (g.pairs.map (pairTime (s.demodOf ch).cells)) (s.servoBit ch) (clampI 2 16 (s.get (CHEV_CFG_WINDOW ch))).toNat (s.get (CHEV_CFG_SP_TOL ch)) = true) →
    (chevAmp g.amp (s.get (CHEV_CFG_AMIN ch)) g.pairs = true) →
    (refTrack (s.demodOf ch) (if (s.demodOf ch).found then trackId g.amp g.gray (s.get (ID_CFG_MARGIN ch)) else none) = some nref) →
    (absQ (chevU (chevA (g.pairs.map (pairTime (s.demodOf ch).cells))) (chevB (g.pairs.map (pairTime (s.demodOf ch).cells)))) ≤ mkRat 7 4) →
    (absQ (nearestX (chevU (chevA (g.pairs.map (pairTime (s.demodOf ch).cells))) (chevB (g.pairs.map (pairTime (s.demodOf ch).cells)))) nref - mkRat nref 1) ≤ 1) →
    Runs (.pesReady ch signals telem) s fun t =>
      (t.demodOf ch).posValid = true ∧
      (t.demodOf ch).pos = rnd (nearestX (chevU (chevA (g.pairs.map (pairTime (s.demodOf ch).cells))) (chevB (g.pairs.map (pairTime (s.demodOf ch).cells)))) nref * 0x100000000) ∧
      (t.demodOf ch).pos1 = some ⟨(t.demodOf ch).pos, (s.demodOf ch).wedges⟩ ∧
      (t.demodOf ch).pos0 = (s.demodOf ch).pos1 ∧
      (t.demodOf ch).taken = false) ∧
  (∀ (s : State) (ch : Ch) (signals : List ServoSig) (telem : Bool), s.Wf →
    (s.chUp ch = true) →
    (s.flag (DEMOD_CTL_EN ch) = false) →
    Runs (.pesReady ch signals telem) s fun t =>
      t.bank = s.bank ∧
      (t.demodOf ch).taken = false) ∧
  (∀ (s : State) (ch : Ch), s.Wf →
    (s.chUp ch = true) →
    (s.diodeBroken (ch + 1) = false) →
    Runs (.tdcTcUpdate ch) s fun t =>
      (t.demodOf ch).corr = sx 16 (s.num (TDC_TC ch)) * (s.dieTemp (ch + 1) - (s.demodOf ch).calTemp) ∧
      ((s.demodOf ch).corr = 0 → (t.demodOf ch).corr = 0 → t.get (TDC_STAT_CTRL ch) = s.get (TDC_STAT_CTRL ch)) ∧
      ∀ a, a ≠ TDC_STAT ch → t.rd a = s.rd a) ∧
  (∀ (s : State) (ch : Ch), s.Wf →
    (s.diodeBroken (ch + 1) = true) →
    Runs (.tdcTcUpdate ch) s fun t =>
      t = { s with resp := t.resp }) ∧
  (∀ (s : State) (ch : Ch), s.Wf →
    (s.chUp ch = true) →
    Runs (.tdcUnlock ch) s fun t =>
      t.flag (TDC_STAT_LOCK ch) = false ∧
      bitOf (t.num (TDC_STAT ch)) 30 = true ∧
      t.flag (DEMOD_STAT_POS_VALID ch) = false ∧
      t.flag (DEMOD_STAT_PES_VALID ch) = false ∧
      t.flag (WR_STAT_GATE ch) = false) ∧
  (∀ (s : State) (ch : Ch), s.Wf →
    (s.chUp ch = true) →
    Runs (.tdcRelock ch) s fun t =>
      t.flag (TDC_STAT_LOCK ch) = true) ∧
  (∀ (s : State) (ch : Ch) (v : Word) (j : Fin 7), s.Wf →
    (s.dieOn (ch + 1) = true) →
    (v.getLsbD j = true) →
    Runs (.demodCntClr ch v) s fun t =>
      t.num (DEMOD_CNT ch j) = 0 ∧
      t.num (DEMOD_CNT_SAT ch) = s.num (DEMOD_CNT_SAT ch))

/-- In every well-formed state, on a channel die that answers: GO, MANUAL, AUTO, LOAD, UNLOAD and REARM leave the mode as
it is, wait for the next tick, and set CMD_LOST when a command already waited; written while LOOP restarts they wait
for the restart's end. -/
def Obligations.LOOP_commands_wait_for_the_tick : Prop :=
  (∀ (s : State) (ch : Ch), s.Wf →
    (s.dieOn (ch + 1) = true) →
    Runs (.loopGo ch) s fun t =>
      t.mode ch = s.mode ch ∧
      ((s.loopOf ch).restarting = false → t.resp = .done ∧ (t.loopOf ch).cmd = some (1, false)) ∧
      ((s.loopOf ch).restarting = false → (s.loopOf ch).cmd.isSome = true → t.flag (LOOP_STAT_CMD_LOST ch) = true) ∧
      ((s.loopOf ch).restarting = true → t.resp = .waits ∧ (t.loopOf ch).waiting = (s.loopOf ch).waiting ++ [(LOOP_CMD ch, some (1))])) ∧
  (∀ (s : State) (ch : Ch) (keep : Bool), s.Wf →
    (s.dieOn (ch + 1) = true) →
    Runs (.loopManual ch keep) s fun t =>
      t.mode ch = s.mode ch ∧
      ((s.loopOf ch).restarting = false → t.resp = .done ∧ (t.loopOf ch).cmd = some (2, keep)) ∧
      ((s.loopOf ch).restarting = false → (s.loopOf ch).cmd.isSome = true → t.flag (LOOP_STAT_CMD_LOST ch) = true) ∧
      ((s.loopOf ch).restarting = true → t.resp = .waits ∧ (t.loopOf ch).waiting = (s.loopOf ch).waiting ++ [(LOOP_CMD ch, some (2 + 256 * ofBool keep))])) ∧
  (∀ (s : State) (ch : Ch), s.Wf →
    (s.dieOn (ch + 1) = true) →
    Runs (.loopAuto ch) s fun t =>
      t.mode ch = s.mode ch ∧
      ((s.loopOf ch).restarting = false → t.resp = .done ∧ (t.loopOf ch).cmd = some (3, false)) ∧
      ((s.loopOf ch).restarting = false → (s.loopOf ch).cmd.isSome = true → t.flag (LOOP_STAT_CMD_LOST ch) = true) ∧
      ((s.loopOf ch).restarting = true → t.resp = .waits ∧ (t.loopOf ch).waiting = (s.loopOf ch).waiting ++ [(LOOP_CMD ch, some (3))])) ∧
  (∀ (s : State) (ch : Ch), s.Wf →
    (s.dieOn (ch + 1) = true) →
    Runs (.loadHeads ch) s fun t =>
      t.mode ch = s.mode ch ∧
      ((s.loopOf ch).restarting = false → t.resp = .done ∧ (t.loopOf ch).cmd = some (4, false)) ∧
      ((s.loopOf ch).restarting = false → (s.loopOf ch).cmd.isSome = true → t.flag (LOOP_STAT_CMD_LOST ch) = true) ∧
      ((s.loopOf ch).restarting = true → t.resp = .waits ∧ (t.loopOf ch).waiting = (s.loopOf ch).waiting ++ [(LOOP_CMD ch, some (4))])) ∧
  (∀ (s : State) (ch : Ch), s.Wf →
    (s.dieOn (ch + 1) = true) →
    Runs (.unloadHeads ch) s fun t =>
      t.mode ch = s.mode ch ∧
      ((s.loopOf ch).restarting = false → t.resp = .done ∧ (t.loopOf ch).cmd = some (5, false)) ∧
      ((s.loopOf ch).restarting = false → (s.loopOf ch).cmd.isSome = true → t.flag (LOOP_STAT_CMD_LOST ch) = true) ∧
      ((s.loopOf ch).restarting = true → t.resp = .waits ∧ (t.loopOf ch).waiting = (s.loopOf ch).waiting ++ [(LOOP_CMD ch, some (5))])) ∧
  (∀ (s : State) (ch : Ch), s.Wf →
    (s.dieOn (ch + 1) = true) →
    Runs (.loopRearm ch) s fun t =>
      t.mode ch = s.mode ch ∧
      ((s.loopOf ch).restarting = false → t.resp = .done ∧ (t.loopOf ch).cmd = some (6, false)) ∧
      ((s.loopOf ch).restarting = false → (s.loopOf ch).cmd.isSome = true → t.flag (LOOP_STAT_CMD_LOST ch) = true) ∧
      ((s.loopOf ch).restarting = true → t.resp = .waits ∧ (t.loopOf ch).waiting = (s.loopOf ch).waiting ++ [(LOOP_CMD ch, some (6))]))

/-- In every well-formed state, on an enabled channel: a first trip in SEEK or SETTLE replans into SEEK, a second enters
LOST; COAST wedges or LOSS enter LOST; eight valid positions leave LOST for FOLLOW, RETRACT wedges in it start an
unload by VEL frames; a complete load is a GO to TARGET, a load that times out sets LOAD_FAIL and unloads; a complete
unload parks; CLV_CTL.RETRACT enters RETRACTED with the frame due. -/
def Obligations.LOOP_changes_mode_by_its_supervision : Prop :=
  (∀ (s : State) (ch : Ch), s.Wf →
    (s.chUp ch = true) →
    (s.mode ch = mSeek ∨ s.mode ch = mSettle) →
    (max 1 (s.get (FE_CFG_TIME ch)) ≤ s.get (LOOP_STAT_FE_CNT ch)) →
    ((s.loopOf ch).feTrips = 0) →
    Runs (.feTrip ch) s fun t =>
      t.mode ch = mSeek ∧
      (t.loopOf ch).feTrips = 1 ∧
      t.get (LOOP_STAT_FE_CNT ch) = 0 ∧
      bitOf (t.num (LOOP_FAULT ch)) 6 = true) ∧
  (∀ (s : State) (ch : Ch), s.Wf →
    (s.chUp ch = true) →
    (s.mode ch = mSeek ∨ s.mode ch = mSettle) →
    (max 1 (s.get (FE_CFG_TIME ch)) ≤ s.get (LOOP_STAT_FE_CNT ch)) →
    ((s.loopOf ch).feTrips ≠ 0) →
    Runs (.feTrip ch) s fun t =>
      t.mode ch = mLost ∧
      bitOf (t.num (LOOP_FAULT ch)) 7 = true) ∧
  (∀ (s : State) (ch : Ch), s.Wf →
    (s.chUp ch = true) →
    (s.mode ch = mSettle ∨ s.mode ch = mFollow) →
    (max 1 (s.get (LOSS_CFG_COAST ch)) ≤ (s.loopOf ch).coast ∨ s.flag (DEMOD_STAT_LOSS ch) = true) →
    Runs (.lostEntry ch) s fun t =>
      t.mode ch = mLost ∧
      (t.loopOf ch).lostRun = 0 ∧
      (t.loopOf ch).coast = 0 ∧
      bitOf (t.num (LOOP_FAULT ch)) 7 = true) ∧
  (∀ (s : State) (ch : Ch), s.Wf →
    (s.chUp ch = true) →
    (s.mode ch = mLost) →
    (8 ≤ (s.loopOf ch).validRun) →
    Runs (.positionRecovered ch) s fun t =>
      t.mode ch = mFollow ∧
      (t.loopOf ch).coast = 0) ∧
  (∀ (s : State) (ch : Ch), s.Wf →
    (s.chUp ch = true) →
    (s.mode ch = mLost) →
    (s.get (LOSS_CFG_RETRACT ch) ≤ (s.loopOf ch).lostRun) →
    Runs (.lostRetract ch) s fun t =>
      t.mode ch = mUnloading ∧
      (t.loopOf ch).velOut = true) ∧
  (∀ (s : State) (ch : Ch), s.Wf →
    (s.chUp ch = true) →
    (s.mode ch = mLoading) →
    (s.flag (DEMOD_STAT_SEARCH ch) = false) →
    (8 ≤ (s.loopOf ch).validRun) →
    Runs (.loadComplete ch) s fun t =>
      t.mode ch = (if ((s.loopOf ch).x - s.targetReg ch).natAbs ≤ 2 * 0x100000000 then mSettle else mSeek)) ∧
  (∀ (s : State) (ch : Ch), s.Wf →
    (s.chUp ch = true) →
    (s.mode ch = mLoading) →
    Runs (.loadTimeout ch) s fun t =>
      t.mode ch = mUnloading ∧
      bitOf (t.num (LOOP_FAULT ch)) 11 = true) ∧
  (∀ (s : State) (ch : Ch), s.Wf →
    (s.chUp ch = true) →
    (s.mode ch = mUnloading) →
    ((s.loopOf ch).velOut = true) →
    Runs (.unloadComplete ch) s fun t =>
      t.mode ch = mParked ∧
      (t.loopOf ch).velOut = false ∧
      t.get (CLV_STAT_SEQ ch) = (s.get (CLV_STAT_SEQ ch) + 1) % 16) ∧
  (∀ (s : State) (ch : Ch), s.Wf →
    (s.dieOn (ch + 1) = true) →
    Runs (.clvRetract ch) s fun t =>
      t.mode ch = mRetracted ∧
      t.clvDue ch = true)

/-- In every well-formed state, on an enabled channel: at φ0 a finished, undiscarded result in a driving mode is latched
and the frame's SEQ advances; sub-setpoints and repeats send the next SEQ; a first residue sets RES1, a second outside
PARKED, RETRACTED and HOLD discards the result before φ0 and hands over after it; a handover with AVAIL enters HOLD
and restarts LOOP, without it RETRACTED; a restart that passes begins the shadow phase and lets a command that waited
act, a failed one repeats; 16 shadow wedges return to FOLLOW; invalid wedges up to LIM, or a parity error while HOLD
drives, retract. -/
def Obligations.The_lane_is_driven_every_wedge : Prop :=
  (∀ (s : State) (ch : Ch), s.Wf →
    (s.chUp ch = true) →
    (s.mode ch ≠ mParked) →
    (s.mode ch ≠ mRetracted) →
    (s.mode ch ≠ mHold) →
    ((s.loopOf ch).discard = false) →
    Runs (.phi0Latch ch true) s fun t =>
      t.num (LOOP_OUT ch) = toBits 16 (s.loopOf ch).newM * 0x10000 + toBits 16 (s.loopOf ch).newU ∧
      (t.loopOf ch).delta = (s.loopOf ch).newD ∧
      (t.loopOf ch).ovrRun = 0 ∧
      t.get (CLV_STAT_SEQ ch) = (s.get (CLV_STAT_SEQ ch) + 1) % 16) ∧
  (∀ (s : State) (ch : Ch) (q : Fin 3), s.Wf →
    (s.chUp ch = true) →
    Runs (.subSetpoint ch q) s fun t =>
      t.get (CLV_STAT_SEQ ch) = (s.get (CLV_STAT_SEQ ch) + 1) % 16 ∧
      t.num (LOOP_OUT ch) = s.num (LOOP_OUT ch)) ∧
  (∀ (s : State) (ch : Ch), s.Wf →
    (s.chUp ch = true) →
    (s.clvDue ch = false) →
    Runs (.claspFrameRepeat ch) s fun t =>
      t.get (CLV_STAT_SEQ ch) = (s.get (CLV_STAT_SEQ ch) + 1) % 16 ∧
      t.get (CLV_STAT_CMD ch) = s.get (CLV_STAT_CMD ch) ∧
      t.num (CLV_OUT ch) = s.num (CLV_OUT ch)) ∧
  (∀ (s : State) (ch : Ch), s.Wf →
    (s.chUp ch = true) →
    (s.mode ch ≠ mParked) →
    (s.mode ch ≠ mRetracted) →
    Runs (.loopResidue ch false) s fun t =>
      bitOf (t.num (LOOP_FAULT ch)) 4 = true ∧
      t.loop = s.loop) ∧
  (∀ (s : State) (ch : Ch), s.Wf →
    (s.chUp ch = true) →
    (s.mode ch ≠ mParked) →
    (s.mode ch ≠ mRetracted) →
    (s.mode ch ≠ mHold) →
    Runs (.loopResidue ch true) s fun t =>
      bitOf (t.num (LOOP_FAULT ch)) 5 = true ∧
      (t.loopOf ch).discard = !(s.loopOf ch).latched ∧
      (t.loopOf ch).handover = ((s.loopOf ch).handover || (s.loopOf ch).latched)) ∧
  (∀ (s : State) (ch : Ch), s.Wf →
    (s.chUp ch = true) →
    ((s.loopOf ch).handover = true) →
    Runs (.holdHandover ch) s fun t =>
      t.mode ch = (if s.flag (HOLD_STAT_AVAIL ch) then mHold else mRetracted) ∧
      (t.loopOf ch).restarting = true ∧
      t.get (LOOP_STAT_RESTARTS ch) = 0) ∧
  (∀ (s : State) (ch : Ch), s.Wf →
    (s.chUp ch = true) →
    ((s.loopOf ch).restarting = true) →
    ((s.loopOf ch).waiting = []) →
    Runs (.loopRestartDone ch true) s fun t =>
      (t.loopOf ch).restarting = false ∧
      (t.loopOf ch).shadow = 0) ∧
  (∀ (s : State) (ch : Ch), s.Wf →
    (s.chUp ch = true) →
    ((s.loopOf ch).restarting = true) →
    ((s.loopOf ch).waiting = [(LOOP_CMD ch, some 1)]) →
    (s.busOk (LOOP_CMD ch) 4 = true) →
    Runs (.loopRestartDone ch true) s fun t =>
      (t.loopOf ch).cmd = some (1, false) ∧
      (t.loopOf ch).waiting = []) ∧
  (∀ (s : State) (ch : Ch), s.Wf →
    (s.chUp ch = true) →
    ((s.loopOf ch).restarting = true) →
    (s.get (LOOP_STAT_RESTARTS ch) < 2) →
    Runs (.loopRestartDone ch false) s fun t =>
      (t.loopOf ch).restarting = true ∧
      t.get (LOOP_STAT_RESTARTS ch) = s.get (LOOP_STAT_RESTARTS ch) + 1) ∧
  (∀ (s : State) (ch : Ch), s.Wf →
    (s.chUp ch = true) →
    (s.mode ch = mHold) →
    ((s.loopOf ch).restarting = false) →
    ((s.loopOf ch).noShadow = false) →
    (16 ≤ (s.loopOf ch).shadow) →
    Runs (.loopShadowEnd ch) s fun t =>
      t.mode ch = mFollow) ∧
  (∀ (s : State) (ch : Ch), s.Wf →
    (s.chUp ch = true) →
    (s.mode ch = mHold) →
    (max 1 (s.get (HOLD_CFG_LIM ch)) ≤ s.get (HOLD_STAT_INVALID_RUN ch)) →
    Runs (.holdInvalidRetract ch) s fun t =>
      t.mode ch = mRetracted ∧
      t.clvDue ch = true ∧
      bitOf (t.num (LOOP_FAULT ch)) 8 = true ∧
      bitOf (t.num (HOLD_FAULT ch)) 1 = true) ∧
  (∀ (s : State) (ch : Ch), s.Wf →
    (s.chUp ch = true) →
    Runs (.holdParity ch) s fun t =>
      t.flag (HOLD_STAT_AVAIL ch) = false ∧
      bitOf (t.num (HOLD_FAULT ch)) 0 = true ∧
      (s.mode ch = mHold → t.mode ch = mRetracted ∧ t.clvDue ch = true))

/-- In every well-formed state, on a die that answers and whose LOOP does not restart: a write of PLANT, PLANT_MA, BW or
NOTCH makes a derivation due at the next tick, and PLANT gives HOLD its gain and sets AVAIL; a write of SEEK_POLICY
makes JERK_W follow at the tick; a shock sample of an enabled unit above THR, the last one not, sets TRIP, counts and
marks a frame of every channel; a disabled unit takes no sample; clearing TRIP zeroes PEAK. -/
def Obligations.Servo_policy_and_shock_registers : Prop :=
  (∀ (s : State) (ch : Ch) (reg : Fin 7) (v : Word), s.Wf →
    (s.dieOn (ch + 1) = true) →
    ((s.loopOf ch).restarting = false) →
    Runs (.coeffDerive ch reg v) s fun t =>
      (t.loopOf ch).derive = true ∧
      (reg = 0 → (t.holdOf ch).kv = v.toNat ∧ t.flag (HOLD_STAT_AVAIL ch) = true) ∧
      (reg ≠ 0 → t.holdOf ch = s.holdOf ch)) ∧
  (∀ (s : State) (ch : Ch) (v : Word), s.Wf →
    (s.dieOn (ch + 1) = true) →
    ((s.loopOf ch).restarting = false) →
    Runs (.seekPolicyWrite ch v) s fun t =>
      (t.demodOf ch).due = (s.demodOf ch).due ++ [(LOOP_JERK_W ch, BitVec.ofNat 32 (profile (t.get (SEEK_POLICY_PROFILE ch))).2)]) ∧
  (∀ (s : State) (shock rvx rvy : Nat), s.Wf →
    (s.flag SHOCK_CTL_EN = true) →
    (s.shock.above = false) →
    (s.get SHOCK_CTL_THR < (sx 16 shock).natAbs) →
    Runs (.shockSample shock rvx rvy) s fun t =>
      t.flag SHOCK_STAT_TRIP = true ∧
      t.num SHOCK_CNT = min 0xFFFFFFFF (s.num SHOCK_CNT + 1) ∧
      t.shock.trip = Vector.replicate 4 true ∧
      t.shock.above = true) ∧
  (∀ (s : State) (shock rvx rvy : Nat), s.Wf →
    (s.flag SHOCK_CTL_EN = false) →
    Runs (.shockSample shock rvx rvy) s fun t =>
      t = s) ∧
  (∀ (s : State), s.Wf →
    (s.dieOn 5 = true) →
    Runs (.shockTripClear) s fun t =>
      t.flag SHOCK_STAT_TRIP = false ∧
      t.get SHOCK_STAT_PEAK = 0)

/-- In every well-formed state: START, STOP, COAST and CLEAR join the commands waiting for the next PWM period; a period
with an image takes them, so that a START that is not refused moves STOPPED to SENSE and one outside STOPPED, BRAKE
and COAST only sets CMD_REJ; outside RAMP and HOLD_ANGLE the period keeps the observer's angle and speed; a current
above 125 % of I_MAX sets OVERCUR and turns the outputs off; while the motor context restarts the angle goes on at the
last speed; without an image no output is driven. -/
def Obligations.SPIN_commands_wait_for_the_PWM_period : Prop :=
  (∀ (s : State), s.Wf →
    (s.dieOn 5 = true) →
    Runs (.spinStart) s fun t =>
      t.spin.cmds = s.spin.cmds ++ [1] ∧
      t.bank = s.bank) ∧
  (∀ (s : State), s.Wf →
    (s.dieOn 5 = true) →
    Runs (.spinStop) s fun t =>
      t.spin.cmds = s.spin.cmds ++ [2] ∧
      t.bank = s.bank) ∧
  (∀ (s : State), s.Wf →
    (s.dieOn 5 = true) →
    Runs (.spinCoast) s fun t =>
      t.spin.cmds = s.spin.cmds ++ [3] ∧
      t.bank = s.bank) ∧
  (∀ (s : State), s.Wf →
    (s.dieOn 5 = true) →
    Runs (.spinClear) s fun t =>
      t.spin.cmds = s.spin.cmds ++ [4] ∧
      t.bank = s.bank) ∧
  (∀ (s : State) (iu iv iw mu mv mw : Int) (theta : Nat) (omega : Int) (emf vmot : Nat), s.Wf →
    (s.img.isSome = true) →
    (s.spin.rotating = false) →
    (s.spin.cmds = [1]) →
    (s.spinState = spStopped) →
    (s.startRefused = false) →
    Runs (.pwmPeriod iu iv iw mu mv mw theta omega emf vmot) s fun t =>
      t.spinState = spSense ∧
      t.spin.cmds = [] ∧
      t.spin.starting = true) ∧
  (∀ (s : State) (iu iv iw mu mv mw : Int) (theta : Nat) (omega : Int) (emf vmot : Nat), s.Wf →
    (s.img.isSome = true) →
    (s.spin.rotating = false) →
    (s.spin.cmds = [1]) →
    (s.spinState ≠ spStopped) →
    (s.spinState ≠ spBrake) →
    (s.spinState ≠ spCoast) →
    Runs (.pwmPeriod iu iv iw mu mv mw theta omega emf vmot) s fun t =>
      t.flag SPIN_STAT_CMD_REJ = true ∧
      t.spinState = s.spinState ∧
      t.spin.cmds = []) ∧
  (∀ (s : State) (iu iv iw mu mv mw : Int) (theta : Nat) (omega : Int) (emf vmot : Nat), s.Wf →
    (s.img.isSome = true) →
    (s.spin.rotating = false) →
    (s.spin.cmds = []) →
    (s.spinState ≠ spRamp) →
    (s.spinState ≠ spHoldAngle) →
    Runs (.pwmPeriod iu iv iw mu mv mw theta omega emf vmot) s fun t =>
      t.spin.theta = theta % 0x100000000 ∧
      t.spin.omega = omega ∧
      t.spin.vmot = vmot ∧
      t.spinState = s.spinState) ∧
  (∀ (s : State) (iu iv iw mu mv mw : Int) (theta : Nat) (omega : Int) (emf vmot : Nat), s.Wf →
    (s.img.isSome = true) →
    (s.spin.rotating = true) →
    Runs (.pwmPeriod iu iv iw mu mv mw theta omega emf vmot) s fun t =>
      t.spin.theta = (((s.spin.theta : Int) + turned s.spin.omega (s.imgNat Image.polePairs) 4) % 0x100000000).toNat ∧
      t.spin.omega = s.spin.omega ∧
      t.spin.cmds = s.spin.cmds ∧
      t.bank = s.bank) ∧
  (∀ (s : State) (iu iv iw mu mv mw : Int) (theta : Nat) (omega : Int) (emf vmot : Nat), s.Wf →
    (s.img.isSome = true) →
    (s.spin.rotating = false) →
    (s.spin.cmds = []) →
    (s.spin.nextOut = none) →
    (5 * s.imgNat Image.iMax * 2048 < 4 * max iu.natAbs (max iv.natAbs iw.natAbs) * s.get SENSE_SCALE_I_FS) →
    Runs (.pwmPeriod iu iv iw mu mv mw theta omega emf vmot) s fun t =>
      bitOf (t.num SPIN_FAULT) 0 = true ∧
      t.spin.out = none ∧
      t.spin.drv.gates = []) ∧
  (∀ (s : State) (iu iv iw mu mv mw : Int) (theta : Nat) (omega : Int) (emf vmot : Nat), s.Wf →
    (s.img = none) →
    Runs (.pwmPeriod iu iv iw mu mv mw theta omega emf vmot) s fun t =>
      t.spin.out = none ∧
      t.spin.nextOut = none ∧
      t.spin.cmds = [])

/-- In every well-formed state: a third forward crossing at 600 rpm or more catches the motor into ACCEL with the observer
at that crossing and its speed, a slower one brakes with a start pending; in HOLD_ANGLE the third crossing in a row
within 15° and 2 % re-locks with the torque last in force, and one outside starts again; SENSE ending with less than
two crossings aligns when the back-EMF of every phase is low and else watches once more, and then brakes with a start
pending, as it does for two or more crossings in reverse order over 60 rpm; ALIGN leads to RAMP, 64 good periods lead
to ACCEL, 16 revolutions to LOCKED; a failed handover brakes with a start pending and the third enters FAILED;
START_TO enters FAILED; BRAKE begins its torque after the hold and, measured in its 20 ms window, ends below 60 rpm in
ALIGN or STOPPED; GENERATE ends its hold. -/
def Obligations.The_motor_starts_catches_and_brakes : Prop :=
  (∀ (s : State) (k : Fin 6) (interval at_ : Nat), s.Wf →
    (s.spinState = spSense) →
    (s.spin.crossN = 2) →
    (s.spin.crossFwd = true) →
    (k.val = (s.spin.crossPrev + 1) % 6) →
    (600 * (s.spin.crossSum + interval) * s.imgNat Image.polePairs ≤ 10000000000 * 2) →
    Runs (.zeroCrossing k interval at_) s fun t =>
      t.spinState = spAccel ∧
      t.spin.theta = crossAngle k ∧
      t.spin.omega = rpmOf 2 (s.spin.crossSum + interval) (s.imgNat Image.polePairs) ∧
      t.spin.torque = 0 ∧
      t.flag SPIN_STAT_SPIN_RUN = true) ∧
  (∀ (s : State) (k : Fin 6) (interval at_ : Nat), s.Wf →
    (s.spinState = spSense) →
    (s.spin.crossN = 2) →
    (s.spin.crossFwd = true) →
    (k.val = (s.spin.crossPrev + 1) % 6) →
    (10000000000 * 2 < 600 * (s.spin.crossSum + interval) * s.imgNat Image.polePairs) →
    Runs (.zeroCrossing k interval at_) s fun t =>
      t.spinState = spBrake ∧
      t.spin.pendStart = true ∧
      t.flag SPIN_STAT_DIR = false) ∧
  (∀ (s : State) (k : Fin 6) (interval at_ : Nat), s.Wf →
    (s.spinState = spHoldAngle) →
    (s.spin.relock = 2) →
    ((s.crossDev k at_).natAbs * 24 ≤ 0x100000000) →
    (((10000000000 * 65536 : Int) - (s.spin.okOmega.natAbs * interval * s.imgNat Image.polePairs : Nat)).natAbs * 50 ≤ s.spin.okOmega.natAbs * interval * s.imgNat Image.polePairs) →
    Runs (.zeroCrossing k interval at_) s fun t =>
      t.spinState = s.spin.origin % 16 ∧
      t.spin.theta = crossAngle k ∧
      t.spin.torque = clampI (-(s.imgNat Image.iMax : Int)) (s.imgNat Image.iMax) s.spin.drv.held ∧
      bitOf (t.num SPIN_FAULT) 3 = true) ∧
  (∀ (s : State) (k : Fin 6) (interval at_ : Nat), s.Wf →
    (s.spinState = spHoldAngle) →
    (0x100000000 < (s.crossDev k at_).natAbs * 24) →
    Runs (.zeroCrossing k interval at_) s fun t =>
      t.spin.relock = 0 ∧
      t.bank = s.bank) ∧
  (∀ (s : State) (emf : Nat × Nat × Nat), s.Wf →
    (s.spinState = spSense) →
    (s.spin.crossN < 2) →
    (s.emfLow emf.1 = true) →
    (s.emfLow emf.2.1 = true) →
    (s.emfLow emf.2.2 = true) →
    Runs (.senseTimeout emf) s fun t =>
      t.spinState = spAlign) ∧
  (∀ (s : State) (emf : Nat × Nat × Nat), s.Wf →
    (s.spinState = spSense) →
    (s.spin.crossN < 2) →
    (s.emfLow emf.1 = false ∨ s.emfLow emf.2.1 = false ∨ s.emfLow emf.2.2 = false) →
    (s.spin.senseAgain = false) →
    Runs (.senseTimeout emf) s fun t =>
      t.spinState = spSense ∧
      t.spin.senseAgain = true ∧
      t.spin.crossN = 0) ∧
  (∀ (s : State) (emf : Nat × Nat × Nat), s.Wf →
    (s.spinState = spSense) →
    (s.spin.crossN < 2) →
    (s.emfLow emf.1 = false ∨ s.emfLow emf.2.1 = false ∨ s.emfLow emf.2.2 = false) →
    (s.spin.senseAgain = true) →
    Runs (.senseTimeout emf) s fun t =>
      t.spinState = spBrake ∧
      t.spin.pendStart = true) ∧
  (∀ (s : State) (emf : Nat × Nat × Nat), s.Wf →
    (s.spinState = spSense) →
    (2 ≤ s.spin.crossN) →
    (s.spin.crossFwd = false) →
    (s.spin.crossRev = true) →
    (s.crossOver 60 = true) →
    Runs (.senseTimeout emf) s fun t =>
      t.spinState = spBrake ∧
      t.spin.pendStart = true ∧
      t.flag SPIN_STAT_DIR = true) ∧
  (∀ (s : State), s.Wf →
    (s.spinState = spBrake) →
    (s.spin.brake = .hold) →
    Runs (.brakeHoldEnd) s fun t =>
      t.spin.brake = (if s.aboveObs then .foc else .zero) ∧
      t.bank = s.bank) ∧
  (∀ (s : State) (emf : Nat), s.Wf →
    (s.spinState = spBrake) →
    (s.spin.brake = .zero) →
    (s.emfWindow = true) →
    (s.emfLow emf = true) →
    Runs (.brakeEmfCheck emf) s fun t =>
      t.spinState = (if s.spin.pendStart then spAlign else spStopped)) ∧
  (∀ (s : State) (emf : Nat), s.Wf →
    (s.emfWindow = false ∨ s.emfLow emf = false) →
    Runs (.brakeEmfCheck emf) s fun t =>
      t = { s with resp := t.resp }) ∧
  (∀ (s : State), s.Wf →
    (s.spinState = spAlign) →
    Runs (.alignComplete) s fun t =>
      t.spinState = spRamp ∧
      t.spin.ramp = 0) ∧
  (∀ (s : State), s.Wf →
    (s.spinState = spRamp) →
    (64 ≤ s.spin.okRun) →
    Runs (.rampHandover) s fun t =>
      t.spinState = spAccel ∧
      t.flag SPIN_STAT_SPIN_RUN = true) ∧
  (∀ (s : State), s.Wf →
    (s.spinState = spRamp) →
    (3 * s.get SPIN_STARTX_HAND_RPM * 400000 ≤ 2 * s.spin.ramp) →
    Runs (.handoverFail) s fun t =>
      t.spin.attempts = s.spin.attempts + 1 ∧
      t.spinState = (if 2 ≤ s.spin.attempts then spFailed else spBrake) ∧
      (s.spin.attempts < 2 → t.spin.pendStart = true)) ∧
  (∀ (s : State), s.Wf →
    (s.spinState = spAccel) →
    (16 ≤ s.spin.accelRevs) →
    Runs (.speedLock) s fun t =>
      t.spinState = spLocked ∧
      t.spin.starting = false) ∧
  (∀ (s : State), s.Wf →
    (s.spin.starting = true) →
    (s.spinState = spSense ∨ s.spinState = spBrake ∨ s.spinState = spAlign ∨ s.spinState = spRamp ∨ s.spinState = spAccel) →
    Runs (.startTimeout) s fun t =>
      t.spinState = spFailed ∧
      bitOf (t.num SPIN_FAULT) 5 = true) ∧
  (∀ (s : State), s.Wf →
    Runs (.generateHoldEnd) s fun t =>
      t.spin.genHold = false ∧
      t.bank = s.bank)

/-- In every well-formed state: a reference tick measures the phase error of R170's source, drops SPIN_LOCK beyond four
times LOCK_WIN, and advances the wedge reference, and the revolution count as it passes 0 in LOCKED; 128 ticks within
LOCK_WIN in LOCKED set SPIN_LOCK; LOS_N failing periods set LOST_SYNC, count, and hold the angle; 3 ms without a
re-lock coast and, with AUTO_CATCH, sense again; a residue that stays rotates the last vector until the restart
resumes; SPIN_CFG derives the brake, align and fly values of its Expert page. -/
def Obligations.SPIN_locks_to_the_wedges_and_survives_faults : Prop :=
  (∀ (s : State) (dev : Int), s.Wf →
    (s.img.isSome = true) →
    Runs (.referenceTick dev) s fun t =>
      t.num PHASE_ERR = toBits 32 (clampS 32 (s.phaseErr (s.spin.ref.count + 1) s.refChannel)) ∧
      t.spin.ref.count = s.spin.ref.count + 1 ∧
      t.spin.ref.wedge = (s.spin.ref.wedge + 1) % s.imgNat Image.wedges ∧
      t.flag SPIN_STAT_FINE = s.refChannel.isSome ∧
      (s.spinState = spLocked → (s.spin.ref.wedge + 1) % s.imgNat Image.wedges = 0 → t.num64 REV_LO REV_HI = (s.num64 REV_LO REV_HI + 1) % 2 ^ 64) ∧
      (4 * (s.get SPIN_LOCKX_LOCK_WIN * 64) < (s.phaseErr (s.spin.ref.count + 1) s.refChannel).natAbs * 5 → t.flag SPIN_STAT_SPIN_LOCK = false)) ∧
  (∀ (s : State), s.Wf →
    (s.spinState = spLocked) →
    (128 ≤ s.spin.lockRun) →
    Runs (.spinLockSet) s fun t =>
      t.flag SPIN_STAT_SPIN_LOCK = true) ∧
  (∀ (s : State), s.Wf →
    (max 1 (s.get PLAUS_LOS_N) ≤ s.spin.losRun) →
    (s.spinState = spAccel ∨ s.spinState = spLocked) →
    Runs (.lossOfSynchronism) s fun t =>
      t.spinState = spHoldAngle ∧
      t.spin.origin = s.spinState ∧
      t.spin.omega = s.spin.okOmega ∧
      bitOf (t.num SPIN_FAULT) 2 = true ∧
      t.num LOS_CNT = min (s.num LOS_CNT + 1) 0xFFFFFFFF) ∧
  (∀ (s : State), s.Wf →
    (s.spinState = spHoldAngle) →
    Runs (.holdAngleTimeout) s fun t =>
      t.spinState = (if s.flag SPIN_CFG_AUTO_CATCH then spSense else spCoast) ∧
      bitOf (t.num SPIN_FAULT) 4 = true) ∧
  (∀ (s : State), s.Wf →
    Runs (.spinResidue false) s fun t =>
      bitOf (t.num SPIN_FAULT) 6 = true ∧
      t.spin = s.spin) ∧
  (∀ (s : State), s.Wf →
    Runs (.spinResidue true) s fun t =>
      bitOf (t.num SPIN_FAULT) 7 = true ∧
      t.spin.rotating = true) ∧
  (∀ (s : State), s.Wf →
    (s.spin.rotating = true) →
    Runs (.spinRestartDone) s fun t =>
      t.spin.rotating = false ∧
      t.spin.theta = s.spin.okTheta % 0x100000000 ∧
      t.spin.omega = s.spin.okOmega ∧
      t.bank = s.bank) ∧
  (∀ (s : State) (v : Word), s.Wf →
    (s.dieOn 5 = true) →
    Runs (.spinCfgWrite v) s fun t =>
      t.get SPIN_BRAKE_BRK_I = s.imgNat Image.iMax / 2 ∧
      t.get SPIN_STARTX_ALIGN_I = s.imgNat Image.iMax / 2 ∧
      t.get SPIN_GEN_FLY_RPM = s.imgNat Image.rpm * 3 / 5)

/-- In every well-formed state: while BEATING, a beat advances SEQ and sends the head command framed with it after its
sync; a missing or bad reply counts a miss and sets CLS_ERR bit 1; a good ACK of the queued command empties the queue;
16 misses set NO_REPLY, once for each run of them; each CLS_CMD command is queued when none is, and an ARM while one
is queued is dropped with BUSY. -/
def Obligations.The_supervisory_lane_beats_and_answers : Prop :=
  (∀ (s : State), s.Wf →
    (s.flag CLS_STAT_BEATING = true) →
    Runs (.claspBeat) s fun t =>
      t.clasps.seq = (s.clasps.seq + 1) % 16 ∧
      t.clasps.sent = some (s.clasps.head, 0xAD * 2 ^ 48 + s.clasps.head.frame ((s.clasps.seq + 1) % 16)) ∧
      t.bank = s.bank) ∧
  (∀ (s : State) (c : ClsCmd) (f : Nat), s.Wf →
    (s.clasps.sent = some (c, f)) →
    Runs (.claspReply none) s fun t =>
      t.clasps.miss = s.clasps.miss + 1 ∧
      t.clasps.sent = none ∧
      bitOf (t.num CLS_ERR) 1 = true) ∧
  (∀ (s : State) (c : ClsCmd) (f r : Nat), s.Wf →
    (s.clasps.sent = some (c, f)) →
    (s.clasps.urgent = []) →
    (c.boot = false) →
    (s.clasps.queued = some c) →
    (r / 2 ^ 48 = 0xB5) →
    (crc8 (bitsMsb 40 (r / 256 % 2 ^ 40)) = r % 256) →
    (bitsOf r 43 40 = s.clasps.seq) →
    (bitsOf r 47 44 = 1) →
    Runs (.claspReply (some r)) s fun t =>
      t.clasps.queued = none ∧
      t.clasps.miss = 0 ∧
      t.get CLS_STAT_QUEUED = 0) ∧
  (∀ (s : State), s.Wf →
    (16 ≤ s.clasps.miss) →
    (s.clasps.silent = false) →
    Runs (.claspNoReply) s fun t =>
      t.flag CLS_ERR_NO_REPLY = true ∧
      t.clasps.silent = true) ∧
  (∀ (s : State) (lanes : Fin 16), s.Wf →
    (s.dieOn 5 = true) →
    (s.clasps.queued = none) →
    Runs (.clsArm lanes) s fun t =>
      t.clasps.queued = some ⟨clArm, lanes, 0, 0, false⟩ ∧
      t.get CLS_STAT_QUEUED = 1) ∧
  (∀ (s : State) (lanes : Fin 16), s.Wf →
    (s.dieOn 5 = true) →
    (s.clasps.queued.isSome = true) →
    Runs (.clsArm lanes) s fun t =>
      t.clasps.queued = s.clasps.queued ∧
      bitOf (t.num CLS_ERR) 3 = true) ∧
  (∀ (s : State) (lanes : Fin 16), s.Wf →
    (s.dieOn 5 = true) →
    (s.clasps.queued = none) →
    Runs (.clsRetract lanes) s fun t =>
      t.clasps.queued = some ⟨clRetract, lanes, 0, 0, false⟩ ∧
      t.get CLS_STAT_QUEUED = 1) ∧
  (∀ (s : State), s.Wf →
    (s.dieOn 5 = true) →
    (s.clasps.queued = none) →
    Runs (.clsClear) s fun t =>
      t.clasps.queued = some ⟨clClear, 0, 0, 0, false⟩) ∧
  (∀ (s : State), s.Wf →
    (s.dieOn 5 = true) →
    (s.clasps.queued = none) →
    Runs (.clsIdent) s fun t =>
      t.clasps.queued = some ⟨clIdent, 0, 0, 0, false⟩) ∧
  (∀ (s : State), s.Wf →
    (s.dieOn 5 = true) →
    (s.clasps.queued = none) →
    Runs (.clsBridge) s fun t =>
      t.clasps.queued = some ⟨clBridge, 0, 0, s.get CLS_ARG_VALUE % 2, false⟩) ∧
  (∀ (s : State), s.Wf →
    (s.dieOn 5 = true) →
    (s.clasps.queued = none) →
    Runs (.clsConfig) s fun t =>
      t.clasps.queued = some ⟨clConfig, 0, s.get CLS_ARG_INDEX, s.get CLS_ARG_VALUE, false⟩)

/-- In every well-formed state, on an enabled channel: FMT_SEL selects the zone for the next tick; an enabled READ with a
descriptor, room and a valid rate takes the descriptor, and either opens the gate at its action's position with a mark
found or completes the sector; a moved action or an invalid rate completes it at once, and without a descriptor READ
only notes it; READ_CONT opens the gate for the next of at most three fragments; an attempt that ends takes the oldest
slot and writes one completion, but one whose framing is suspected goes to a free held slot; a slip search writes one
completion, and waits while a stream slot is occupied. Descrambling the signs of a scrambled codeword gives its bits. -/
def Obligations.Reading_sectors_from_the_stream : Prop :=
  (∀ (s : State) (ch : Ch) (v : Word), s.Wf →
    (s.dieOn (ch + 1) = true) →
    Runs (.fmtSelWrite ch v) s fun t =>
      (t.detOf ch).fmt = some (v.toNat % 64) ∧
      t.resp = .done) ∧
  (∀ (s : State) (ch : Ch) (pos : Nat) (r : ReadSig), s.Wf →
    (s.chUp ch = true) →
    (s.flag (DET_CTL_EN ch) = true) →
    ((s.detOf ch).op = none) →
    ((s.detOf ch).gate = false) →
    ((s.detOf ch).slots.length < 5) →
    (s.dqReady ch = true) →
    (s.cqRoom ch = true) →
    (s.rateOk ch = true) →
    Runs (.dcmdRead ch false pos r) s fun t =>
      t.num (DQ_TAIL ch) = (s.num (DQ_TAIL ch) % ringLen (s.get (DQ_CFG_LEN ch)) + 1) % ringLen (s.get (DQ_CFG_LEN ch)) ∧
      (t.detOf ch).gate = (t.detOf ch).op.isSome ∧
      (t.detOf ch).op.all (fun x => decide (x.start = s.actionAt ch 1 pos) && decide (x.frags = 1) && (x.sm1 || x.sm2) && decide (x.id = fieldLe (s.csBytes ch (32 * s.get (DQ_CFG_BASE ch) + 32 * (s.num (DQ_TAIL ch) % ringLen (s.get (DQ_CFG_LEN ch)))) 32) 24 6)) = true ∧
      ((t.detOf ch).op = none → t.num (CQ_HEAD ch) = (s.num (CQ_HEAD ch) % ringLen (s.get (CQ_CFG_LEN ch)) + 1) % ringLen (s.get (CQ_CFG_LEN ch))) ∧
      (t.detOf ch).slots = (s.detOf ch).slots) ∧
  (∀ (s : State) (ch : Ch) (late : Bool) (pos : Nat) (r : ReadSig), s.Wf →
    (s.chUp ch = true) →
    (s.flag (DET_CTL_EN ch) = true) →
    ((s.detOf ch).op = none) →
    (s.dqReady ch = true) →
    (s.cqRoom ch = true) →
    (s.rateOk ch = false ∨ late = true) →
    Runs (.dcmdRead ch late pos r) s fun t =>
      t.num (DQ_TAIL ch) = (s.num (DQ_TAIL ch) % ringLen (s.get (DQ_CFG_LEN ch)) + 1) % ringLen (s.get (DQ_CFG_LEN ch)) ∧
      t.num (CQ_HEAD ch) = (s.num (CQ_HEAD ch) % ringLen (s.get (CQ_CFG_LEN ch)) + 1) % ringLen (s.get (CQ_CFG_LEN ch)) ∧
      (t.detOf ch).op = none ∧
      (s.rateOk ch = false → bitOf (t.num (DET_ERR ch)) 6 = true)) ∧
  (∀ (s : State) (ch : Ch) (late : Bool) (pos : Nat) (r : ReadSig), s.Wf →
    (s.chUp ch = true) →
    (s.flag (DET_CTL_EN ch) = true) →
    ((s.detOf ch).op = none) →
    (s.dqReady ch = false) →
    Runs (.dcmdRead ch late pos r) s fun t =>
      (t.detOf ch).op = none ∧
      bitOf (t.num (DET_ERR ch)) 4 = true ∧
      t.num (DQ_TAIL ch) = s.num (DQ_TAIL ch)) ∧
  (∀ (s : State) (ch : Ch) (pos : Nat) (g : ReadSig) (r : RdSec), s.Wf →
    (s.chUp ch = true) →
    (s.flag (DET_CTL_EN ch) = true) →
    ((s.detOf ch).op = some r) →
    ((s.detOf ch).gate = false) →
    (r.frags < 3) →
    Runs (.dcmdReadCont ch false pos g) s fun t =>
      (t.detOf ch).gate = true ∧
      (t.detOf ch).op.map (fun x => (x.id, x.frags, x.start, x.len)) = some (r.id, r.frags + 1, s.actionAt ch 2 pos, r.len + 56) ∧
      (t.detOf ch).op.map (fun x => x.pieces.length) = some (r.pieces.length + 1)) ∧
  (∀ (s : State) (ch : Ch) (late : Bool) (pos : Nat) (g : ReadSig) (r : RdSec), s.Wf →
    (s.chUp ch = true) →
    (s.flag (DET_CTL_EN ch) = true) →
    ((s.detOf ch).op = some r) →
    ((s.detOf ch).gate = false) →
    (3 ≤ r.frags) →
    Runs (.dcmdReadCont ch late pos g) s fun t =>
      (t.detOf ch).gate = false ∧
      (t.detOf ch).op = none ∧
      bitOf (t.num (DET_ERR ch)) 5 = true ∧
      t.num (CQ_HEAD ch) = (s.num (CQ_HEAD ch) % ringLen (s.get (CQ_CFG_LEN ch)) + 1) % ringLen (s.get (CQ_CFG_LEN ch))) ∧
  (∀ (s : State) (ch : Ch) (r : RdSec) (rest : List RdSec), s.Wf →
    (s.chUp ch = true) →
    ((s.detOf ch).slots = r :: rest) →
    Runs (.decodeEnd ch) s fun t =>
      (t.detOf ch).slots = rest ∧
      (((s.slotAttempt ch (s.otfLimit ch) r).slip && s.flag (DET_CTL_SLIP_EN ch) && (s.detOf ch).held.isNone && (s.detOf ch).rcv.isNone) = true → (t.detOf ch).held = some r ∧ t.num (CQ_HEAD ch) = s.num (CQ_HEAD ch)) ∧
      (((s.slotAttempt ch (s.otfLimit ch) r).slip && s.flag (DET_CTL_SLIP_EN ch) && ((s.detOf ch).held.isSome || (s.detOf ch).rcv.isSome)) = true → bitOf (t.num (DET_ERR ch)) 2 = true) ∧
      (((s.slotAttempt ch (s.otfLimit ch) r).slip && s.flag (DET_CTL_SLIP_EN ch) && (s.detOf ch).held.isNone && (s.detOf ch).rcv.isNone) = false → (t.detOf ch).held = (s.detOf ch).held ∧ t.num (CQ_HEAD ch) = (s.num (CQ_HEAD ch) % ringLen (s.get (CQ_CFG_LEN ch)) + 1) % ringLen (s.get (CQ_CFG_LEN ch)))) ∧
  (∀ (s : State) (ch : Ch) (r : RdSec), s.Wf →
    (s.chUp ch = true) →
    ((s.detOf ch).held = some r) →
    ((s.detOf ch).slots = []) →
    Runs (.slipSearch ch) s fun t =>
      (t.detOf ch).held = none ∧
      t.num (CQ_HEAD ch) = (s.num (CQ_HEAD ch) % ringLen (s.get (CQ_CFG_LEN ch)) + 1) % ringLen (s.get (CQ_CFG_LEN ch))) ∧
  (∀ (s : State) (ch : Ch), s.Wf →
    (s.chUp ch = true) →
    ((s.detOf ch).held = none ∨ (s.detOf ch).slots ≠ []) →
    Runs (.slipSearch ch) s fun t =>
      t.det = s.det ∧
      t.csram = s.csram) ∧
  (∀ (paw : Nat) (bits : List Bool),
    hardOf (descramble paw ((scramble paw bits).map (fun b => if b then 1 else -1))) = bits)

/-- In every well-formed state, on a channel die that answers or is enabled: GO with steps 2 to 5 in order starts a
recovery and any other is refused with REJ; ABORT marks the recovery; a revolution read in step 2 under its retry set
that decodes and passes its checks ends it GOOD, one with a fourth fragment ends it ABANDONED, one the budget cannot
hold ends it TIMEOUT, ABORT or a forbidden write ends it ABORTED with the target that step 5 moved restored, and none
is made while the held slot is in use or SEEK_DONE is awaited; SJ_GO queues one soft job, which ends, once no stream
slot holds a codeword, with DONE and the result of its attempt; CNT_CLR zeroes the counters named. -/
def Obligations.Recovery_and_soft_jobs : Prop :=
  (∀ (s : State) (ch : Ch) (last : Fin 8), s.Wf →
    (s.dieOn (ch + 1) = true) →
    (s.flag (RCV_STAT_BUSY ch) = false) →
    (3 ≤ last.val ∧ last.val ≤ 5) →
    Runs (.rcvGo ch 3 last) s fun t =>
      t.flag (RCV_STAT_BUSY ch) = true ∧
      t.get (RCV_STAT_STEP ch) = 3 ∧
      t.get (RCV_STAT_REVS ch) = 0 ∧
      (t.detOf ch).rcv.map (·.last) = some last.val) ∧
  (∀ (s : State) (ch : Ch) (first last : Fin 8), s.Wf →
    (s.dieOn (ch + 1) = true) →
    (s.flag (RCV_STAT_BUSY ch) = true ∨ first.val < 2 ∨ 5 < last.val ∨ last.val < first.val) →
    Runs (.rcvGo ch first last) s fun t =>
      t.flag (RCV_STAT_REJ ch) = true ∧
      t.det = s.det) ∧
  (∀ (s : State) (ch : Ch) (r : Rcv), s.Wf →
    (s.dieOn (ch + 1) = true) →
    ((s.detOf ch).rcv = some r) →
    Runs (.rcvAbort ch) s fun t =>
      (t.detOf ch).rcv = some { r with abort := true } ∧
      t.bank = s.bank) ∧
  (∀ (s : State) (ch : Ch) (v : RevRead) (r : Rcv), s.Wf →
    (s.chUp ch = true) →
    ((s.detOf ch).rcv = some r) →
    (r.foul = false) →
    (r.abort = false) →
    (s.rcvInBudget ch r = true) →
    (s.dieHot (ch + 1) = false) →
    (s.foreHas (rcvUnits ch) = true) →
    ((s.detOf ch).held = none) →
    (r.seek = false) →
    (s.rateOk ch = true) →
    (2 < v.conts.length) →
    Runs (.recoveryRevolution ch v) s fun t =>
      t.flag (RCV_STAT_BUSY ch) = false ∧
      t.get (RCV_STAT_RESULT ch) = rsAbandoned ∧
      bitOf (t.num (DET_ERR ch)) 5 = true) ∧
  (∀ (s : State) (ch : Ch) (v : RevRead) (r : Rcv), s.Wf →
    (s.chUp ch = true) →
    ((s.detOf ch).rcv = some r) →
    (r.foul = false) →
    (r.abort = false) →
    (s.rcvInBudget ch r = true) →
    (s.dieHot (ch + 1) = false) →
    (s.foreHas (rcvUnits ch) = true) →
    ((s.detOf ch).held = none) →
    (v.conts.length ≤ 2) →
    (r.seek = false) →
    (s.rateOk ch = true) →
    (s.get (RCV_STAT_STEP ch) = 2) →
    Runs (.recoveryRevolution ch v) s fun t =>
      t.get (RCV_STAT_REVS ch) = min 255 (s.get (RCV_STAT_REVS ch) + 1) ∧
      (∀ sec u code a, (s.put (RCV_STAT_REVS ch) (min 255 (s.get (RCV_STAT_REVS ch) + 1))).revRead ch (retrySet r.revs) r.sec v = (sec, u) → (sec.sm1 || sec.sm2) = true → u.rcvAttempt ch (retrySet r.revs) r.sec.paw (slotSamples sec.pieces) = (code, a) → a.syn = 0 → judge r.sec a.info a.paw = rsGood → t.flag (RCV_STAT_BUSY ch) = false ∧ t.get (RCV_STAT_RESULT ch) = rsGood ∧ (t.detOf ch).rcv = none) ∧
      (t.detOf ch).rcv.all (fun x => decide (x.start = r.start) && decide (x.last = r.last)) = true) ∧
  (∀ (s : State) (ch : Ch) (v : RevRead) (r : Rcv), s.Wf →
    (s.chUp ch = true) →
    ((s.detOf ch).rcv = some r) →
    (r.foul = false) →
    (r.abort = false) →
    (s.rcvInBudget ch r = false) →
    Runs (.recoveryRevolution ch v) s fun t =>
      t.flag (RCV_STAT_BUSY ch) = false ∧
      t.get (RCV_STAT_RESULT ch) = rsTimeout ∧
      (t.detOf ch).rcv = none) ∧
  (∀ (s : State) (ch : Ch) (v : RevRead) (r : Rcv), s.Wf →
    (s.chUp ch = true) →
    ((s.detOf ch).rcv = some r) →
    (r.foul = true ∨ r.abort = true) →
    Runs (.recoveryRevolution ch v) s fun t =>
      t.flag (RCV_STAT_BUSY ch) = false ∧
      t.get (RCV_STAT_RESULT ch) = rsAborted ∧
      (t.detOf ch).rcv = none ∧
      (r.foul = true → bitOf (t.num (DET_ERR ch)) 0 = true) ∧
      (r.moved = true → t.num (LOOP_TARGET_LO ch) = r.origLo % 2 ^ 32 ∧ t.num (LOOP_TARGET_HI ch) = r.origHi % 2 ^ 32)) ∧
  (∀ (s : State) (ch : Ch) (v : RevRead) (r : Rcv), s.Wf →
    (s.chUp ch = true) →
    ((s.detOf ch).rcv = some r) →
    (r.foul = false) →
    (r.abort = false) →
    (s.rcvInBudget ch r = true) →
    (s.foreHas (rcvUnits ch) = true) →
    ((s.detOf ch).held.isSome = true ∨ r.seek = true) →
    Runs (.recoveryRevolution ch v) s fun t =>
      t = { s with resp := t.resp }) ∧
  (∀ (s : State) (ch : Ch) (iter : Fin 128), s.Wf →
    (s.dieOn (ch + 1) = true) →
    (s.flag (SJ_STAT_BUSY ch) = false) →
    Runs (.sjGo ch iter) s fun t =>
      t.flag (SJ_STAT_BUSY ch) = true ∧
      (t.detOf ch).soft = some (iterLimit iter)) ∧
  (∀ (s : State) (ch : Ch) (lim : Nat), s.Wf →
    (s.chUp ch = true) →
    ((s.detOf ch).soft = some lim) →
    ((s.detOf ch).slots = []) →
    Runs (.softJobDone ch) s fun t =>
      t.flag (SJ_STAT_BUSY ch) = false ∧
      t.flag (SJ_STAT_DONE ch) = true ∧
      (t.detOf ch).soft = none ∧
      (∀ d a, d = rdSec (s.csBytes ch (32 * s.get (SJ_DESC_BASE ch)) 32) → a = decodeAttempt (s.decodeLimits ch lim false) (s.softInput ch d) → t.get (SJ_STAT_RESULT ch) = (if a.syn = 0 then judge d a.info a.paw else rsDecFail))) ∧
  (∀ (s : State) (ch : Ch), s.Wf →
    (s.chUp ch = true) →
    ((s.detOf ch).soft = none ∨ (s.detOf ch).slots ≠ []) →
    Runs (.softJobDone ch) s fun t =>
      t = { s with resp := t.resp }) ∧
  (∀ (s : State) (ch : Ch) (v : Word) (i : Fin 4), s.Wf →
    (s.dieOn (ch + 1) = true) →
    (v.getLsbD i = true) →
    Runs (.detectCntClr ch v) s fun t =>
      t.num (DET_CNT ch i) = 0 ∧
      t.num (DET_CNT_SAT ch) = s.num (DET_CNT_SAT ch)) ∧
  (∀ (s : State) (ch : Ch) (v : Word) (i : Fin 18), s.Wf →
    (s.dieOn (ch + 1) = true) →
    (v.getLsbD 31 = true) →
    Runs (.detectCntClr ch v) s fun t =>
      t.num64 (SECT_CNT_LO ch i) (SECT_CNT_HI ch i) = 0)

/-- In every well-formed state, on an enabled channel with writing enabled: a waiting descriptor with room is taken for
encoding, and the oldest codeword becomes encoded: information part, PAW and parity, scrambled; WRITE of a codeword
that meets no condition of R553 opens the gate on its first fragment's bits, after those sent before where the gate
stayed open, each transition delayed by its context, of one that meets one only completes it with the gate shut, and
with no descriptor sets WR_ERR bit 1; WRITE_CONT opens the gate for the next fragment; SPLIT ends the fragment with
FPOST and keeps the rest of part B for the next, and its gate falls WG_TRAIL later unless a queued write joins; CLOSE
closes the gate and ends the open sectors; the last bit completes the sector. -/
def Obligations.Writing_sectors_to_the_media : Prop :=
  (∀ (s : State) (ch : Ch), s.Wf →
    (s.chUp ch = true) →
    (s.flag (WR_CTL_EN ch) = true) →
    (s.wqReady ch = true) →
    (s.wcRoom ch = true) →
    ((s.wruOf ch).bufs.length + ofBool (s.wruOf ch).op.isSome < 2) →
    Runs (.codewordEncode ch) s fun t =>
      (t.wruOf ch).bufs = (s.wruOf ch).bufs ++ [(s.takeWrite ch).1] ∧
      t.num (WQ_TAIL ch) = (s.num (WQ_TAIL ch) % ringLen (s.get (WQ_CFG_LEN ch)) + 1) % ringLen (s.get (WQ_CFG_LEN ch)) ∧
      t.flag (WR_STAT_ENC_BUSY ch) = true) ∧
  (∀ (s : State) (ch : Ch) (c : WrCode) (rest : List WrCode), s.Wf →
    (s.chUp ch = true) →
    ((s.wruOf ch).bufs = c :: rest) →
    (c.enc = false) →
    Runs (.encodeDone ch) s fun t =>
      (t.wruOf ch).bufs.head?.map (fun x => (x.enc, x.id)) = some (true, c.id) ∧
      (t.wruOf ch).bufs.tail = rest) ∧
  (∀ (s : State) (ch : Ch) (c : WrCode) (rest : List WrCode), s.Wf →
    (s.chUp ch = true) →
    ((s.wruOf ch).bufs = c :: rest) →
    (c.enc = false) →
    Runs (.encodeDone ch) s fun t =>
      (t.wruOf ch).bufs = { c with enc := true, crcBad := s.suppliedCrcBad ch c, bits := scramble c.paw (codewordOf (s.infoOf ch c) c.paw) } :: rest) ∧
  (∀ (s : State) (ch : Ch) (pos : Nat) (entered : Option Int) (c : WrCode) (rest : List WrCode), s.Wf →
    (s.chUp ch = true) →
    (s.flag (WR_CTL_EN ch) = true) →
    ((s.wruOf ch).op = none) →
    ((s.wruOf ch).bufs = c :: rest) →
    ((s.detOf ch).op = none) →
    ((s.servoEnd ch).writeVerdict ch c = none) →
    Runs (.dcmdWrite ch false pos entered) s fun t =>
      (t.wruOf ch).op.map (fun o => (o.code.id, o.begun, o.emit)) = some (c.id, 1, true) ∧
      (t.wruOf ch).bufs = rest ∧
      t.flag (WR_STAT_GATE ch) = true) ∧
  (∀ (s : State) (ch : Ch) (pos : Nat) (entered : Option Int) (c : WrCode) (rest : List WrCode), s.Wf →
    (s.chUp ch = true) →
    (s.flag (WR_CTL_EN ch) = true) →
    ((s.wruOf ch).op = none) →
    ((s.wruOf ch).bufs = c :: rest) →
    ((s.detOf ch).op = none) →
    ((s.servoEnd ch).writeVerdict ch c = none) →
    (s.joins ch (((s.actionAt ch 3 pos : Nat) : Int) - s.get (WG_TIMING_WG_LEAD ch)) = false) →
    Runs (.dcmdWrite ch false pos entered) s fun t =>
      (t.wruOf ch).lineAt = s.actionAt ch 3 pos ∧
      (t.wruOf ch).line = s.fragmentBits ch { unwritten c with begun := 1 } ∧
      (t.wruOf ch).delays = precompDelays (fun k => sx 7 (s.num (PRECOMP ch k))) (t.wruOf ch).line ∧
      (t.wruOf ch).fallAt = none ∧
      (t.wruOf ch).wgSeen = true) ∧
  (∀ (s : State) (ch : Ch) (pos : Nat) (entered : Option Int) (c : WrCode) (rest : List WrCode), s.Wf →
    (s.chUp ch = true) →
    (s.flag (WR_CTL_EN ch) = true) →
    ((s.wruOf ch).op = none) →
    ((s.wruOf ch).bufs = c :: rest) →
    ((s.detOf ch).op = none) →
    ((s.servoEnd ch).writeVerdict ch c = none) →
    (s.joins ch (((s.actionAt ch 3 pos : Nat) : Int) - s.get (WG_TIMING_WG_LEAD ch)) = true) →
    Runs (.dcmdWrite ch false pos entered) s fun t =>
      (t.wruOf ch).line = (s.wruOf ch).joinBits (s.actionAt ch 3 pos) (s.fragmentBits ch { unwritten c with begun := 1 }) ∧
      (t.wruOf ch).delays = precompDelays (fun k => sx 7 (s.num (PRECOMP ch k))) (t.wruOf ch).line ∧
      (t.wruOf ch).fallAt = none ∧
      (t.wruOf ch).wgSeen = true) ∧
  (∀ (s : State) (ch : Ch) (late : Bool) (pos : Nat) (entered : Option Int) (c : WrCode) (rest : List WrCode), s.Wf →
    (s.chUp ch = true) →
    (s.flag (WR_CTL_EN ch) = true) →
    ((s.wruOf ch).op = none) →
    ((s.wruOf ch).bufs = c :: rest) →
    ((s.detOf ch).op = none) →
    (((s.servoEnd ch).writeVerdict ch c).isSome = true) →
    Runs (.dcmdWrite ch late pos entered) s fun t =>
      (t.wruOf ch).op = none ∧
      (t.wruOf ch).bufs = rest ∧
      t.num (WC_HEAD ch) = (s.num (WC_HEAD ch) % ringLen (s.get (WC_CFG_LEN ch)) + 1) % ringLen (s.get (WC_CFG_LEN ch)) ∧
      t.flag (WR_STAT_GATE ch) = false) ∧
  (∀ (s : State) (ch : Ch) (late : Bool) (pos : Nat) (entered : Option Int), s.Wf →
    (s.chUp ch = true) →
    (s.flag (WR_CTL_EN ch) = true) →
    ((s.wruOf ch).op = none) →
    ((s.wruOf ch).bufs = []) →
    (s.wqReady ch = false) →
    Runs (.dcmdWrite ch late pos entered) s fun t =>
      (t.wruOf ch).op = none ∧
      bitOf (t.num (WR_ERR ch)) 1 = true ∧
      t.flag (WR_STAT_GATE ch) = false ∧
      t.num (WNO_DESC_CNT ch) = min (s.num (WNO_DESC_CNT ch) + 1) 0xFFFFFFFF) ∧
  (∀ (s : State) (ch : Ch) (pos : Nat) (entered : Option Int) (o : WrOpen), s.Wf →
    (s.chUp ch = true) →
    (s.flag (WR_CTL_EN ch) = true) →
    ((s.wruOf ch).op = some o) →
    (o.emit = false) →
    (o.begun < 3) →
    ((s.detOf ch).gate = false) →
    ((s.servoEnd ch).gateHeld ch = false) →
    (s.headWdis ch = false) →
    Runs (.dcmdWriteCont ch false pos entered) s fun t =>
      (t.wruOf ch).op.map (fun o => (o.code.id, o.begun, o.emit)) = some (o.code.id, o.begun + 1, true) ∧
      t.flag (WR_STAT_GATE ch) = true) ∧
  (∀ (s : State) (ch : Ch) (pos : Nat) (o : WrOpen), s.Wf →
    (s.chUp ch = true) →
    ((s.wruOf ch).op = some o) →
    (o.emit = true) →
    Runs (.dcmdSplit ch pos) s fun t =>
      (t.wruOf ch).op.map (fun o => (o.code.id, o.frags, o.emit)) = some (o.code.id, o.frags + 1, false) ∧
      (t.wruOf ch).line = (s.wruOf ch).line.take (s.actionAt ch 5 pos - (s.wruOf ch).lineAt) ++ alternating 16 ∧
      (t.wruOf ch).op.map (·.left) = some (o.left.drop (s.actionAt ch 5 pos - o.start - s.fragHead ch (decide (o.begun ≤ 1)))) ∧
      ((s.wruOf ch).spans ≠ [] → (t.wruOf ch).fallAt = some ((s.actionAt ch 5 pos + 16 + bitsOf (s.num (WG_TIMING ch)) 15 8 : Nat) : Int)) ∧
      ((s.lmuOf ch).queue.all (fun e => decide (e.1 ≠ 3) && decide (e.1 ≠ 4)) = true → t.flag (WR_STAT_GATE ch) = false)) ∧
  (∀ (s : State) (ch : Ch), s.Wf →
    (s.chUp ch = true) →
    Runs (.dcmdClose ch) s fun t =>
      (t.wruOf ch).op = none ∧
      (t.detOf ch).op = none ∧
      (t.detOf ch).gate = false ∧
      t.flag (WR_STAT_GATE ch) = false) ∧
  (∀ (s : State) (ch : Ch) (o : WrOpen), s.Wf →
    (s.chUp ch = true) →
    ((s.wruOf ch).op = some o) →
    (o.emit = true) →
    Runs (.sectorWriteEnd ch) s fun t =>
      (t.wruOf ch).op = none ∧
      ((s.lmuOf ch).queue.all (fun e => decide (e.1 ≠ 3) && decide (e.1 ≠ 4)) = true → t.flag (WR_STAT_GATE ch) = false) ∧
      t.num (WC_HEAD ch) = (s.num (WC_HEAD ch) % ringLen (s.get (WC_CFG_LEN ch)) + 1) % ringLen (s.get (WC_CFG_LEN ch)))

/-- In every well-formed state: on an enabled channel with a head AS_STAT.SP becomes the set point of its level, zone and
temperature, the SP in force staying; a usable sample is remembered for the next and moves CORR by KI within SAT_LIM,
and one that is not usable changes nothing; on a die that answers, AS_PREHEAT derives every shape within its bounds,
and WR_POLICY makes the precompensation table due at the tick. -/
def Obligations.Assist_power_and_write_policy : Prop :=
  (∀ (s : State) (ch : Ch) (k : Nat), s.Wf →
    (s.chUp ch = true) →
    ((s.loopOf ch).head = some k) →
    (k < 6) →
    Runs (.setpointUpdate ch) s fun t =>
      t.get (AS_STAT_SP ch) = s.setpoint ch k ∧
      t.asu = s.asu) ∧
  (∀ (s : State) (ch : Ch) (at_ : Int), s.Wf →
    (s.chUp ch = true) →
    (s.amonUsable ch false at_ = true) →
    Runs (.assistSample ch at_) s fun t =>
      (t.asuOf ch).last = some (s.get (PA_STAT_AMON ch), (s.writeLevel ch).toNat) ∧
      (t.pauOf ch).fresh = false ∧
      t.num (CORR ch (s.headIn ch)) = toBits 16 (clampS 16 (clampI (-((s.get (AS_LIM_SAT_LIM ch) * s.get (SLOPE_V ch (s.headIn ch)) * s.spInForce ch / (256 * 16384) : Nat) : Int)) (s.get (AS_LIM_SAT_LIM ch) * s.get (SLOPE_V ch (s.headIn ch)) * s.spInForce ch / (256 * 16384) : Nat) (sx 16 (s.num (CORR ch (s.headIn ch))) + roundDiv ((s.get (AS_LOOP_KI ch) * s.get (SLOPE_V ch (s.headIn ch)) : Nat) * ((s.spInForce ch : Int) - s.get (PA_STAT_AMON ch))) (65536 * 16384))))) ∧
  (∀ (s : State) (ch : Ch) (at_ : Int), s.Wf →
    (s.amonUsable ch true at_ = false) →
    Runs (.assistSample ch at_) s fun t =>
      t = { s with resp := t.resp, free := t.free }) ∧
  (∀ (s : State) (ch : Ch) (v : Word) (i : Fin 8), s.Wf →
    (s.dieOn (ch + 1) = true) →
    Runs (.asPreheatWrite ch v) s fun t =>
      t.get (SHAPE_A_LEAD ch i) = max 64 (min 4096 (t.get (AS_PREHEAT_LEAD ch))) ∧
      t.get (SHAPE_C_CONT_LEAD ch i) = 64) ∧
  (∀ (s : State) (ch : Ch) (v : Word), s.Wf →
    (s.dieOn (ch + 1) = true) →
    Runs (.wrPolicyWrite ch v) s fun t =>
      (t.wruOf ch).precomp = true)

/-- In every well-formed state, on a channel die that answers or is enabled: a Basic write derives the powers of every
head, 0 with UNCAL set where the head has no contact power or efficiency; a change of FLY_REQ.WRITE makes the heater
due; GO in FOLLOW on the head starts a calibration, which takes FLY and the actuator where they are free, with the
gate dropped and elsewhere sets CREJ; ABORT ends it at the revolution's end with DONE; without its units no revolution
counts; a baseline revolution adds its samples; a contact within CTOL of the sweep before is adopted and ends it. -/
def Obligations.Fly_height_and_contact_calibration : Prop :=
  (∀ (s : State) (ch : Ch) (reg : Fin 3) (head k : Fin 6) (v : Word), s.Wf →
    (s.dieOn (ch + 1) = true) →
    Runs (.flyDerive ch reg head v) s fun t =>
      (t.get (FLY_PC_PC ch k) = 0 ∨ t.get (FLY_EFF_EFF ch k) = 0 → t.num (FLY_PR ch k) = 0 ∧ t.num (FLY_PW ch k) = 0 ∧ bitOf (t.get (FLY_STAT_UNCAL ch)) k = true) ∧
      (t.get (FLY_PC_PC ch k) ≠ 0 → t.get (FLY_EFF_EFF ch k) ≠ 0 → t.num (FLY_PR ch k) = (clampI 0 4095 ((t.get (FLY_PC_PC ch k) : Int) - clearancePower (t.get (FLY_CLR_CLR_R ch k)) (t.get (FLY_EFF_EFF ch k)))).toNat ∧ bitOf (t.get (FLY_STAT_UNCAL ch)) k = false)) ∧
  (∀ (s : State) (ch : Ch) (v : Word), s.Wf →
    (s.dieOn (ch + 1) = true) →
    Runs (.flyReqWrite ch v) s fun t =>
      (t.get (FLY_REQ_WRITE ch) ≠ s.get (FLY_REQ_WRITE ch) → (t.pauOf ch).htrDue = true) ∧
      t.resp = .done) ∧
  (∀ (s : State) (ch : Ch) (head : Fin 8), s.Wf →
    (s.dieOn (ch + 1) = true) →
    (s.flag (FLY_STAT_BUSY ch) = false) →
    (s.mode ch = mFollow) →
    ((s.loopOf ch).head = some head.val) →
    Runs (.flyGo ch head) s fun t =>
      t.flag (FLY_STAT_BUSY ch) = true ∧
      (t.fluOf ch).cal = some ⟨head, [], s.startPower ch head, 0, 0, false, 0, false⟩ ∧
      t.flag (WR_STAT_GATE ch) = false ∧
      (look (unitBase (ch + 1) 7) s.holders = none → look (unitBase (ch + 1) 7) t.holders = some 2) ∧
      (look (unitBase (ch + 1) 9) s.holders = none → look (unitBase (ch + 1) 9) t.holders = some 2)) ∧
  (∀ (s : State) (ch : Ch) (head : Fin 8), s.Wf →
    (s.dieOn (ch + 1) = true) →
    (s.flag (FLY_STAT_BUSY ch) = false) →
    (s.mode ch ≠ mFollow ∨ (s.loopOf ch).head ≠ some head.val) →
    Runs (.flyGo ch head) s fun t =>
      t.flag (FLY_STAT_CREJ ch) = true ∧
      t.flu = s.flu) ∧
  (∀ (s : State) (ch : Ch) (c : FlyCal), s.Wf →
    (s.dieOn (ch + 1) = true) →
    ((s.fluOf ch).cal = some c) →
    Runs (.flyAbort ch) s fun t =>
      (t.fluOf ch).cal = some { c with abort := true }) ∧
  (∀ (s : State) (ch : Ch) (c : FlyCal), s.Wf →
    (s.chUp ch = true) →
    ((s.fluOf ch).cal = some c) →
    (c.abort = true) →
    Runs (.contactSweepStep ch) s fun t =>
      (t.fluOf ch).cal = none ∧
      t.flag (FLY_STAT_BUSY ch) = false ∧
      t.flag (FLY_STAT_DONE ch) = true) ∧
  (∀ (s : State) (ch : Ch) (c : FlyCal), s.Wf →
    (s.chUp ch = true) →
    ((s.fluOf ch).cal = some c) →
    (c.abort = false) →
    (s.foreHas (flyUnits ch) = true) →
    (c.revs < 2) →
    Runs (.contactSweepStep ch) s fun t =>
      (t.fluOf ch).cal = some { c with revs := c.revs + 1, base := c.base + (s.pauOf ch).ecsSum, baseN := c.baseN + (s.pauOf ch).ecsN } ∧
      t.bank = s.bank) ∧
  (∀ (s : State) (ch : Ch) (c : FlyCal) (a : Nat), s.Wf →
    (s.chUp ch = true) →
    ((s.fluOf ch).cal = some c) →
    (c.abort = false) →
    (s.foreHas (flyUnits ch) = true) →
    (2 < c.revs) →
    (contactMade (s.get (FLY_CFG_RATIO ch)) c.base c.baseN (s.pauOf ch).ecsSum (s.pauOf ch).ecsN = true) →
    (c.results = [some a]) →
    (((a : Int) - c.power).natAbs ≤ s.get (FLY_CFG_CTOL ch)) →
    (c.head < 6) →
    (c.power < 4096) →
    Runs (.contactSweepStep ch) s fun t =>
      t.num (FLY_PC ch c.head) = c.power ∧
      (t.fluOf ch).cal = none ∧
      t.flag (FLY_STAT_BUSY ch) = false ∧
      t.flag (FLY_STAT_DONE ch) = true) ∧
  (∀ (s : State) (ch : Ch) (c : FlyCal), s.Wf →
    (s.chUp ch = true) →
    ((s.fluOf ch).cal = some c) →
    (c.abort = false) →
    (s.foreHas (flyUnits ch) = false) →
    Runs (.contactSweepStep ch) s fun t =>
      t.flu = s.flu ∧
      t.bank = s.bank)

/-- In every well-formed state, on a channel die that answers or is enabled: with RUN 1 a slot sends a frame, a missing
reply counts as bad and a good one shows its fault bits; 64 bad replies set NO_REPLY; FLTN low drops the gates and
sets the fault, high clears the status; ARM queues the MODE frame; a firmware frame is queued while none is; WR_HEAD
queues the head's two frames. -/
def Obligations.The_preamp_port : Prop :=
  (∀ (s : State) (ch : Ch) (lastSlot : Bool), s.Wf →
    (s.chUp ch = true) →
    (s.flag (PA_CTL_RUN ch) = true) →
    Runs (.preampSlot ch lastSlot none) s fun t =>
      (t.pauOf ch).bad = (s.pauOf ch).bad + 1 ∧
      (t.pauOf ch).sent.isSome = true ∧
      t.num (REPLY_ERR ch) = min (s.num (REPLY_ERR ch) + 1) 0xFFFFFFFF) ∧
  (∀ (s : State) (ch : Ch) (lastSlot : Bool) (r : Nat), s.Wf →
    (s.chUp ch = true) →
    (s.flag (PA_CTL_RUN ch) = true) →
    (crc8 (bitsMsb 40 (r / 256)) = r % 256) →
    Runs (.preampSlot ch lastSlot (some r)) s fun t =>
      (t.pauOf ch).bad = 0 ∧
      t.get (PA_STAT_FLT ch) = bitsOf r 47 40 ∧
      t.get (PA_STAT_AMON ch) = bitsOf r 23 8) ∧
  (∀ (s : State) (ch : Ch), s.Wf →
    (s.chUp ch = true) →
    (64 ≤ (s.pauOf ch).bad) →
    (s.flag (PA_FAULT_NO_REPLY ch) = false) →
    Runs (.preampNoReply ch) s fun t =>
      t.flag (PA_FAULT_NO_REPLY ch) = true ∧
      (s.actState ch = 1 → t.actState ch = 2)) ∧
  (∀ (s : State) (ch : Ch) (aflt : Bool), s.Wf →
    (s.chUp ch = true) →
    Runs (.fltnLow ch true aflt) s fun t =>
      (aflt = true → bitOf (t.num (AS_FAULT ch)) 2 = true) ∧
      t.flag (PA_STAT_FLTN ch) = true ∧
      bitOf (t.num (PA_FAULT ch)) 0 = true ∧
      t.flag (WR_STAT_GATE ch) = false) ∧
  (∀ (s : State) (ch : Ch) (aflt : Bool), s.Wf →
    (s.chUp ch = true) →
    Runs (.fltnLow ch false aflt) s fun t =>
      t.flag (PA_STAT_FLTN ch) = false ∧
      t.num (PA_FAULT ch) = s.num (PA_FAULT ch)) ∧
  (∀ (s : State) (ch : Ch), s.Wf →
    (s.dieOn (ch + 1) = true) →
    Runs (.paArm ch) s fun t =>
      (t.pauOf ch).regs = (s.pauOf ch).regs ++ [(⟨false, 0, paMode, 0x8002⟩, true)]) ∧
  (∀ (s : State) (ch : Ch) (v : Word), s.Wf →
    (s.dieOn (ch + 1) = true) →
    (v.getLsbD 31 = true) →
    (s.flag (PA_QRSP_BUSY ch) = false) →
    Runs (.paQcmdGo ch v) s fun t =>
      t.flag (PA_QRSP_BUSY ch) = true ∧
      (t.pauOf ch).queued = some ⟨v.getLsbD 30, bitsOf v.toNat 27 24, bitsOf v.toNat 19 16, bitsOf v.toNat 15 0⟩) ∧
  (∀ (s : State) (ch : Ch) (head : Fin 6) (v : Word), s.Wf →
    (s.dieOn (ch + 1) = true) →
    Runs (.wrHeadWrite ch head v) s fun t =>
      (t.pauOf ch).regs = (s.pauOf ch).regs ++ [(⟨false, s.headCode ch head, paWcur, t.get (WR_HEAD_WCUR ch head)⟩, false), (⟨false, s.headCode ch head, paWovs, t.get (WR_HEAD_OSA ch head) * 256 + t.get (WR_HEAD_OSD ch head)⟩, false)])

/-- In every well-formed state in which the next descriptor is one FOLIO accepts, with its buffers in HUB SRAM, no marked
code word there, and the buffers written apart from the completion and from one another: ENCODE leaves in DATA16 the
XOR of the sixteen members' data, in each member's metadata slot its CRC, and in META16 the XOR of their metadata and
CRCs; REBUILD leaves at its two destinations the XOR of the other sixteen members' data and metadata, with status GOOD
or CRC_FAIL by the CRC under the missing member's SEED; PRIOR leaves the prior made of the other fifteen members' XOR
and the LLRs; the descriptor leaves its ring, one completion with its TAG, status and OP enters FC, and the counter of
the work done advances. A descriptor that FOLIO refuses completes BAD_DESC. -/
def Obligations.The_Folio_engine_codes_seventeen_members : Prop :=
  (∀ (s : State) (d : List Byte), s.Wf →
    (s.folNext.1 = some d) →
    (fieldLe d 0 1 = 1) →
    (folInSram d = true) →
    (disjoint ((s.folSlot, 16) :: folRanges d) = true) →
    (s.marks = []) →
    Runs (.folioEncode) s fun t =>
      t.sramAt (folData d 16) 4096 = xorOf 4096 ((List.range 16).map (fun i => s.sramAt (folData d i) 4096)) ∧
      ∀ i, i < 16 → t.sramAt (folMeta d i) 72 = s.sramAt (folMeta d i) 64 ++ toLe 8 (sectorCrc (folSeed d i) (s.sramAt (folData d i) 4096 ++ s.sramAt (folMeta d i) 64)) ∧
      t.sramAt (folMeta d 16) 72 = xorOf 72 ((List.range 16).map (fun i => t.sramAt (folMeta d i) 72)) ∧
      t.sramAt s.folSlot 7 = slice d 4 4 ++ toLe 1 folGood ++ slice d 0 1 ++ [0] ∧
      t.num FQ_TAIL = (s.num FQ_TAIL % ringLenTo 8 (s.get FQ_CFG_LEN) + 1) % ringLenTo 8 (s.get FQ_CFG_LEN) ∧
      t.num FC_HEAD = (s.num FC_HEAD % ringLenTo 10 (s.get FC_CFG_LEN) + 1) % ringLenTo 10 (s.get FC_CFG_LEN) ∧
      t.num64 (FOL_CNT_LO 0) (FOL_CNT_HI 0) = (s.num64 (FOL_CNT_LO 0) (FOL_CNT_HI 0) + 1) % 2 ^ 64) ∧
  (∀ (s : State) (d : List Byte), s.Wf →
    (s.folNext.1 = some d) →
    (fieldLe d 0 1 = 2) →
    (folMiss d ≤ 16) →
    (folInSram d = true) →
    (inHubSram (fieldLe d 16 8) 4096 = true) →
    (inHubSram (fieldLe d 24 8) 72 = true) →
    (disjoint [(s.folSlot, 16), (fieldLe d 16 8, 4096), (fieldLe d 24 8, 72)] = true) →
    (s.marks = []) →
    Runs (.folioRebuild) s fun t =>
      t.sramAt (fieldLe d 16 8) 4096 = xorOf 4096 (((List.range 17).filter (fun i => decide (i ≠ folMiss d))).map (fun i => s.sramAt (folData d i) 4096)) ∧
      t.sramAt (fieldLe d 24 8) 72 = xorOf 72 (((List.range 17).filter (fun i => decide (i ≠ folMiss d))).map (fun i => s.sramAt (folMeta d i) 72)) ∧
      (sectorCrc (folSeed d (folMiss d)) (t.sramAt (fieldLe d 16 8) 4096 ++ t.sramAt (fieldLe d 24 8) 64) = fieldLe (t.sramAt (fieldLe d 24 8) 72) 64 8 → t.sramAt s.folSlot 7 = slice d 4 4 ++ toLe 1 folGood ++ slice d 0 1 ++ [0] ∧ t.num64 (FOL_CNT_LO 1) (FOL_CNT_HI 1) = (s.num64 (FOL_CNT_LO 1) (FOL_CNT_HI 1) + 1) % 2 ^ 64) ∧
      (sectorCrc (folSeed d (folMiss d)) (t.sramAt (fieldLe d 16 8) 4096 ++ t.sramAt (fieldLe d 24 8) 64) ≠ fieldLe (t.sramAt (fieldLe d 24 8) 72) 64 8 → t.sramAt s.folSlot 7 = slice d 4 4 ++ toLe 1 folCrcFail ++ slice d 0 1 ++ [0] ∧ t.num64 (FOL_CNT_LO 2) (FOL_CNT_HI 2) = (s.num64 (FOL_CNT_LO 2) (FOL_CNT_HI 2) + 1) % 2 ^ 64 ∧ bitOf (t.num FOL_ERR) 0 = true) ∧
      t.num FQ_TAIL = (s.num FQ_TAIL % ringLenTo 8 (s.get FQ_CFG_LEN) + 1) % ringLenTo 8 (s.get FQ_CFG_LEN) ∧
      t.num FC_HEAD = (s.num FC_HEAD % ringLenTo 10 (s.get FC_CFG_LEN) + 1) % ringLenTo 10 (s.get FC_CFG_LEN)) ∧
  (∀ (s : State) (d : List Byte), s.Wf →
    (s.folNext.1 = some d) →
    (fieldLe d 0 1 = 3) →
    (folBad d = false) →
    (folInSram d = true) →
    (inHubSram (fieldLe d 16 8) 16672 = true) →
    (inHubSram (fieldLe d 24 8) 16672 = true) →
    (disjoint [(s.folSlot, 16), (fieldLe d 16 8, 16672)] = true) →
    (s.marks = []) →
    Runs (.folioPrior) s fun t =>
      t.sramAt (fieldLe d 16 8) 16672 = priorOf (xorOf 4096 (((List.range 17).filter (fun i => decide (i ≠ folMiss d) && decide (i ≠ folOther d))).map (fun i => s.sramAt (folData d i) 4096)) ++ xorOf 72 (((List.range 17).filter (fun i => decide (i ≠ folMiss d) && decide (i ≠ folOther d))).map (fun i => s.sramAt (folMeta d i) 72))) (s.sramAt (fieldLe d 24 8) 16672) ∧
      t.sramAt s.folSlot 7 = slice d 4 4 ++ toLe 1 folGood ++ slice d 0 1 ++ [0] ∧
      t.num FQ_TAIL = (s.num FQ_TAIL % ringLenTo 8 (s.get FQ_CFG_LEN) + 1) % ringLenTo 8 (s.get FQ_CFG_LEN) ∧
      t.num FC_HEAD = (s.num FC_HEAD % ringLenTo 10 (s.get FC_CFG_LEN) + 1) % ringLenTo 10 (s.get FC_CFG_LEN) ∧
      t.num64 (FOL_CNT_LO 3) (FOL_CNT_HI 3) = (s.num64 (FOL_CNT_LO 3) (FOL_CNT_HI 3) + 1) % 2 ^ 64) ∧
  (∀ (s : State) (d : List Byte), s.Wf →
    (s.folNext.1 = some d) →
    (folBad d = true) →
    Runs (.folioEncode) s fun t =>
      t.sramAt s.folSlot 7 = slice d 4 4 ++ toLe 1 folBadDesc ++ slice d 0 1 ++ [0] ∧
      bitOf (t.num FOL_ERR) 2 = true ∧
      t.num FQ_TAIL = (s.num FQ_TAIL % ringLenTo 8 (s.get FQ_CFG_LEN) + 1) % ringLenTo 8 (s.get FQ_CFG_LEN))

/-- In every well-formed state in which the next request is of the operation and its work ends DONE: it leaves RQ and one
completion enters RC without a fault; SM_ADD takes the head of the free list under the next sequence number, SM_DROP
frees an entry; ZONE_SET and BAND_SET log one journal record; SWITCH commits its slot under the next sequence number;
RB_SET leaves the slot in the state of the image given. With the tables in HUB SRAM, no marked code word there and the
room that the operation needs: LOOKUP of one block writes its run, UNWRITTEN where nothing holds it or the media-cache
position of the one Shelfmark that covers it; SM_ADD writes the Shelfmark and puts it at the head of its zone's chain;
SM_DROP of a zone's only Shelfmark empties the chain; ZONE_SET and BAND_SET replace the entry; SWITCH of a zone
without Shelfmarks binds NEW and frees OLD; RB_SET to Prepare fills the slot and sets FLAGS.RB. Enabling with no zone
and no committed slot frees every Shelfmark. -/
def Obligations.The_Catalogue_carries_out_requests_in_order : Prop :=
  (∀ (s : State), s.Wf →
    (s.catNext.map (fun q => (rqOp q.1, (doLookup q.1 q.2).1.status)) = some (1, catDone)) →
    Runs (.catLookup) s fun t =>
      t.num RQ_TAIL = (s.num RQ_TAIL % ringLen (s.get RQ_CFG_LEN) + 1) % ringLen (s.get RQ_CFG_LEN) ∧
      t.num RC_HEAD = (s.num RC_HEAD % ringLen (s.get RC_CFG_LEN) + 1) % ringLen (s.get RC_CFG_LEN) ∧
      t.num CAT_ERR = s.num CAT_ERR) ∧
  (∀ (s : State), s.Wf →
    (s.catNext.map (fun q => (rqOp q.1, (doSmAdd q.1 q.2).1.status)) = some (2, catDone)) →
    Runs (.smAdd) s fun t =>
      t.num RC_HEAD = (s.num RC_HEAD % ringLen (s.get RC_CFG_LEN) + 1) % ringLen (s.get RC_CFG_LEN) ∧
      t.mapSeq = (s.mapSeq + 1) % 2 ^ 64 ∧
      t.smFree = s.smFree.tail) ∧
  (∀ (s : State), s.Wf →
    (s.catNext.map (fun q => (rqOp q.1, (doSmDrop q.1 q.2).1.status)) = some (3, catDone)) →
    Runs (.smDrop) s fun t =>
      t.num RC_HEAD = (s.num RC_HEAD % ringLen (s.get RC_CFG_LEN) + 1) % ringLen (s.get RC_CFG_LEN) ∧
      t.smFree.length = s.smFree.length + 1 ∧
      t.mapSeq = s.mapSeq) ∧
  (∀ (s : State), s.Wf →
    (s.catNext.map (fun q => (rqOp q.1, (doZoneSet q.1 q.2).1.status)) = some (4, catDone)) →
    Runs (.zoneSet) s fun t =>
      t.num RC_HEAD = (s.num RC_HEAD % ringLen (s.get RC_CFG_LEN) + 1) % ringLen (s.get RC_CFG_LEN) ∧
      t.num MJ_HEAD = (s.num MJ_HEAD % s.mjLen + 1) % s.mjLen ∧
      t.smFree = s.smFree) ∧
  (∀ (s : State), s.Wf →
    (s.catNext.map (fun q => (rqOp q.1, (doBandSet q.1 q.2).1.status)) = some (5, catDone)) →
    Runs (.bandSet) s fun t =>
      t.num RC_HEAD = (s.num RC_HEAD % ringLen (s.get RC_CFG_LEN) + 1) % ringLen (s.get RC_CFG_LEN) ∧
      t.num MJ_HEAD = (s.num MJ_HEAD % s.mjLen + 1) % s.mjLen ∧
      t.smFree = s.smFree) ∧
  (∀ (s : State), s.Wf →
    (s.catNext.map (fun q => (rqOp q.1, (doSwitch q.1 q.2).1.status)) = some (6, catDone)) →
    Runs (.rbSwitch) s fun t =>
      t.num RC_HEAD = (s.num RC_HEAD % ringLen (s.get RC_CFG_LEN) + 1) % ringLen (s.get RC_CFG_LEN) ∧
      t.mapSeq = (s.mapSeq + 1) % 2 ^ 64 ∧
      s.catNext.all (fun q => decide (slState (t.slot (rqArg q.1)) = 3)) = true) ∧
  (∀ (s : State), s.Wf →
    (s.catNext.map (fun q => (rqOp q.1, (doRbSet q.1 q.2).1.status)) = some (7, catDone)) →
    Runs (.rbSet) s fun t =>
      t.num RC_HEAD = (s.num RC_HEAD % ringLen (s.get RC_CFG_LEN) + 1) % ringLen (s.get RC_CFG_LEN) ∧
      s.catNext.all (fun q => decide (slState (t.slot (rqArg q.1)) = slState ((q.2.physRead 11 (rqOut q.1) 64).1.getD []))) = true) ∧
  (∀ (s : State) (r : List Byte) (s' : State), s.Wf →
    (s.catNext = some (r, s')) →
    (rqOp r = 1) →
    (rqArg r = 1) →
    (rqCount r = 1) →
    (rqDlba r / 65536 < s.num ZONES) →
    (s.marks = []) →
    (inHubSram (s.zoneAt (rqDlba r / 65536)) 32 = true) →
    (inHubSram (rqOut r) 16 = true) →
    (zeLen (s.zoneEnt (rqDlba r / 65536)) = 0) →
    (zeBwp (s.zoneEnt (rqDlba r / 65536)) = 0) →
    (disjoint [(s.rcSlot, 32), (rqOut r, 16)] = true) →
    Runs (.catLookup) s fun t =>
      t.sramAt (rqOut r) 16 = toLe 8 2 ++ toLe 8 (2 ^ 48 + rqDlba r % 2 ^ 35) ∧
      t.sramAt s.rcSlot 8 = slice r 4 4 ++ toLe 2 catDone ++ toLe 2 1) ∧
  (∀ (s : State) (r : List Byte) (s' : State), s.Wf →
    (s.catNext = some (r, s')) →
    (rqOp r = 1) →
    (rqArg r = 1) →
    (rqCount r = 1) →
    (rqDlba r / 65536 < s.num ZONES) →
    (s.marks = []) →
    (inHubSram (s.zoneAt (rqDlba r / 65536)) 32 = true) →
    (inHubSram (s.markAt (zeChain (s.zoneEnt (rqDlba r / 65536)))) 32 = true) →
    (inHubSram (rqOut r) 16 = true) →
    (zeLen (s.zoneEnt (rqDlba r / 65536)) = 1) →
    (zeBwp (s.zoneEnt (rqDlba r / 65536)) = 0) →
    (zeChain (s.zoneEnt (rqDlba r / 65536)) < s.num SM_TOTAL) →
    (smKind (s.markEnt (zeChain (s.zoneEnt (rqDlba r / 65536)))) = 1) →
    (smFirst (s.markEnt (zeChain (s.zoneEnt (rqDlba r / 65536)))) ≤ rqDlba r) →
    (rqDlba r < smFirst (s.markEnt (zeChain (s.zoneEnt (rqDlba r / 65536)))) + smCount (s.markEnt (zeChain (s.zoneEnt (rqDlba r / 65536))))) →
    (disjoint [(s.rcSlot, 32), (rqOut r, 16)] = true) →
    Runs (.catLookup) s fun t =>
      t.sramAt (rqOut r) 16 = toLe 8 (cacheLoc s.trackSpt (s.markEnt (zeChain (s.zoneEnt (rqDlba r / 65536)))) (zeChain (s.zoneEnt (rqDlba r / 65536))) (rqDlba r - smFirst (s.markEnt (zeChain (s.zoneEnt (rqDlba r / 65536)))))).ploc ++ toLe 8 (2 ^ 48 + rqDlba r % 2 ^ 35) ∧
      t.sramAt s.rcSlot 8 = slice r 4 4 ++ toLe 2 catDone ++ toLe 2 1) ∧
  (∀ (s : State) (r : List Byte) (s' : State) (z i : Nat) (rest : List Nat), s.Wf →
    (s.catNext = some (r, s')) →
    (rqOp r = 2) →
    (s.marks = []) →
    (inHubSram (rqOut r) 32 = true) →
    (z = smFirst (s.sramAt (rqOut r) 32) / 65536) →
    (z < s.num ZONES) →
    (s.smFree = i :: rest) →
    (inHubSram (s.zoneAt z) 32 = true) →
    (inHubSram (s.markAt i) 32 = true) →
    (inHubSram s.mjSlot 32 = true) →
    (smOk (s.sramAt (rqOut r) 32) (s.zoneEnt z) = true) →
    (zeLen (s.zoneEnt z) < s.get CAT_CTL_CHAIN_LIM) →
    (s.mjFull = false) →
    (disjoint [(s.rcSlot, 32), (s.zoneAt z, 32), (s.markAt i, 32), (s.mjSlot, 32)] = true) →
    Runs (.smAdd) s fun t =>
      t.markEnt i = slice (s.sramAt (rqOut r) 32) 0 16 ++ toLe 4 (zeChain (s.zoneEnt z)) ++ toLe 4 0 ++ toLe 8 ((s.mapSeq + 1) % 2 ^ 64) ∧
      t.zoneEnt z = zeSetChain (s.zoneEnt z) i (zeLen (s.zoneEnt z) + 1) ∧
      t.smFree = rest ∧
      t.num MJ_HEAD = (s.num MJ_HEAD % s.mjLen + 1) % s.mjLen ∧
      t.sramAt s.rcSlot 16 = slice r 4 4 ++ toLe 2 catDone ++ toLe 2 0 ++ toLe 8 ((s.mapSeq + 1) % 2 ^ 64)) ∧
  (∀ (s : State) (r : List Byte) (s' : State), s.Wf →
    (s.catNext = some (r, s')) →
    (rqOp r = 3) →
    (s.marks = []) →
    (rqZone r < s.num ZONES) →
    (inHubSram (s.zoneAt (rqZone r)) 32 = true) →
    (inHubSram (s.markAt (rqArg r)) 32 = true) →
    (inHubSram s.mjSlot 32 = true) →
    (zeLen (s.zoneEnt (rqZone r)) = 1) →
    (zeChain (s.zoneEnt (rqZone r)) = rqArg r) →
    (rqArg r < s.num SM_TOTAL) →
    (s.mjFull = false) →
    (disjoint [(s.rcSlot, 32), (s.zoneAt (rqZone r), 32), (s.mjSlot, 32)] = true) →
    Runs (.smDrop) s fun t =>
      t.zoneEnt (rqZone r) = zeSetChain (s.zoneEnt (rqZone r)) (smNext (s.markEnt (rqArg r))) 0 ∧
      t.smFree = s.smFree ++ [rqArg r] ∧
      t.sramAt s.rcSlot 8 = slice r 4 4 ++ toLe 2 catDone ++ toLe 2 0) ∧
  (∀ (s : State) (r : List Byte) (s' : State), s.Wf →
    (s.catNext = some (r, s')) →
    (rqOp r = 4) →
    (s.marks = []) →
    (rqZone r < s.num ZONES) →
    (inHubSram (rqOut r) 32 = true) →
    (inHubSram (s.zoneAt (rqZone r)) 32 = true) →
    (inHubSram s.mjSlot 32 = true) →
    (s.mjFull = false) →
    (disjoint [(s.rcSlot, 32), (s.zoneAt (rqZone r), 32), (s.mjSlot, 32)] = true) →
    Runs (.zoneSet) s fun t =>
      t.zoneEnt (rqZone r) = zeSetChain (s.sramAt (rqOut r) 32) (zeChain (s.zoneEnt (rqZone r))) (zeLen (s.zoneEnt (rqZone r))) ∧
      t.sramAt s.rcSlot 8 = slice r 4 4 ++ toLe 2 catDone ++ toLe 2 0) ∧
  (∀ (s : State) (r : List Byte) (s' : State), s.Wf →
    (s.catNext = some (r, s')) →
    (rqOp r = 5) →
    (s.marks = []) →
    (rqArg r < s.num BANDS) →
    (inHubSram (rqOut r) 32 = true) →
    (inHubSram (s.bandAt (rqArg r)) 32 = true) →
    (inHubSram s.mjSlot 32 = true) →
    (s.mjFull = false) →
    (beState (s.sramAt (rqOut r) 32) ≠ 1) →
    (65536 + beSkips (s.sramAt (rqOut r) 32) ≤ beSpt (s.sramAt (rqOut r) 32) * beTracks (s.sramAt (rqOut r) 32)) →
    (disjoint [(s.rcSlot, 32), (s.bandAt (rqArg r), 32), (s.mjSlot, 32)] = true) →
    Runs (.bandSet) s fun t =>
      t.bandEnt (rqArg r) = s.sramAt (rqOut r) 32 ∧
      t.sramAt s.rcSlot 8 = slice r 4 4 ++ toLe 2 catDone ++ toLe 2 0) ∧
  (∀ (s : State) (r : List Byte) (s' : State) (z old new : Nat), s.Wf →
    (s.catNext = some (r, s')) →
    (rqOp r = 6) →
    (s.marks = []) →
    (rqArg r < 4) →
    (slState (s.slot (rqArg r)) = 2) →
    (z = slZone (s.slot (rqArg r))) →
    (old = slOld (s.slot (rqArg r))) →
    (new = slNew (s.slot (rqArg r))) →
    (z < s.num ZONES) →
    (inHubSram (s.zoneAt z) 32 = true) →
    (inHubSram (s.bandAt old) 32 = true) →
    (inHubSram (s.bandAt new) 32 = true) →
    (inHubSram s.mjSlot 32 = true) →
    (zeLen (s.zoneEnt z) = 0) →
    (slProgress (s.slot (rqArg r)) = (if slKind (s.slot (rqArg r)) = 1 then 65536 else zeBwp (s.zoneEnt z))) →
    (s.mjFull = false) →
    (disjoint [(s.rcSlot, 32), (s.zoneAt z, 32), (s.bandAt old, 32), (s.bandAt new, 32), (s.mjSlot, 32)] = true) →
    Runs (.rbSwitch) s fun t =>
      slState (t.slot (rqArg r)) = 3 ∧
      t.zoneEnt z = zeSetChain (zeSetRb (overlay (s.zoneEnt z) 8 (toLe 4 (slProgress (s.slot (rqArg r))) ++ toLe 4 new)) false) noIndex 0 ∧
      t.bandEnt old = beSetState (s.bandEnt old) 0 noIndex ∧
      t.bandEnt new = beSetState (s.bandEnt new) 1 z ∧
      t.sramAt s.rcSlot 16 = slice r 4 4 ++ toLe 2 catDone ++ toLe 2 0 ++ toLe 8 ((s.mapSeq + 1) % 2 ^ 64)) ∧
  (∀ (s : State) (r : List Byte) (s' : State) (z : Nat), s.Wf →
    (s.catNext = some (r, s')) →
    (rqOp r = 7) →
    (s.marks = []) →
    (rqArg r < 4) →
    (inHubSram (rqOut r) 64 = true) →
    (slState (s.slot (rqArg r)) = 0) →
    (slState (s.sramAt (rqOut r) 64) = 1) →
    (z = slZone (s.sramAt (rqOut r) 64)) →
    (z < s.num ZONES) →
    (inHubSram (s.zoneAt z) 32 = true) →
    (inHubSram s.mjSlot 32 = true) →
    (zeRb (s.zoneEnt z) = false) →
    (s.mjFull = false) →
    (disjoint [(s.rcSlot, 32), (s.zoneAt z, 32), (s.mjSlot, 32)] = true) →
    Runs (.rbSet) s fun t =>
      t.slot (rqArg r) = overlay (overlay (s.sramAt (rqOut r) 64) 12 (toLe 4 (zeBand (s.zoneEnt z)))) 20 (toLe 8 s.mapSeq) ∧
      t.zoneEnt z = zeSetRb (s.zoneEnt z) true ∧
      t.sramAt s.rcSlot 8 = slice r 4 4 ++ toLe 2 catDone ++ toLe 2 0) ∧
  (∀ (s : State), s.Wf →
    (s.dieOn 0 = true) →
    (s.flag CAT_CTL_EN = false) →
    (s.num ZONES = 0) →
    ((List.range 4).all (fun k => decide (slState (s.slot k) ≠ 3)) = true) →
    Runs (.catalogueEnable) s fun t =>
      t.flag CAT_CTL_EN = true ∧
      t.smFree = List.range (s.num SM_TOTAL) ∧
      t.num SM_FREE = (s.num SM_TOTAL) % 0x100000000)

/-- In every well-formed state: an uncached write within one 128-byte line of a valid unit is stored and answered, a write
of whole words that hits a write-back line goes into the line, which becomes dirty, one outside DRAM is a bus error
that changes nothing else; with no DRAMC command running, INVALIDATE clears exactly the valid bits of its units, which
then hold zeros, and SPARE records the unit under the next spare; with 3,840 spares in use SPARE changes no
redirection; each sets BUSY, and the end of the command clears BUSY, sets DONE, and FULL where no spare was left, and
saves the redirections. -/
def Obligations.DRAM_accesses_and_DRAMC_commands : Prop :=
  (∀ (s : State) (cls : Fin 16) (a : Nat) (bytes : List Byte), s.Wf →
    (inDram a bytes.length = true) →
    (bytes ≠ []) →
    (a % 128 + bytes.length ≤ 128) →
    (s.scFind a = none) →
    (2 ≤ s.scPolicy a) →
    (s.valid.contains (dramUnit (a - dramBase)) = true) →
    (s.marks = []) →
    Runs (.dramWrite cls a bytes .none) s fun t =>
      t.resp = .done ∧
      t.dram.readN 0 (a - dramBase) bytes.length = bytes) ∧
  (∀ (s : State) (cls : Fin 16) (a : Nat) (bytes : List Byte) (k : Nat) (l : ScLine), s.Wf →
    (inDram a bytes.length = true) →
    (bytes ≠ []) →
    (a % 128 + bytes.length ≤ 128) →
    (a % 8 = 0) →
    (bytes.length % 8 = 0) →
    (s.scFind a = some (k, l)) →
    (s.scPolicy a = 0) →
    (s.victims = []) →
    Runs (.dramWrite cls a bytes .none) s fun t =>
      t.resp = .done ∧
      look k t.lines = some ⟨l.line, true, 0, overlay l.data (a - l.line * 128) bytes⟩ ∧
      t.dram = s.dram) ∧
  (∀ (s : State) (cls : Fin 16) (a : Nat) (bytes : List Byte) (u : Upset), s.Wf →
    (inDram a bytes.length = false) →
    Runs (.dramWrite cls a bytes u) s fun t =>
      t = s.answer .busError) ∧
  (∀ (s : State) (count : Nat) (u : Nat), s.Wf →
    (s.dieOn 0 = true) →
    (s.flag DCMD_STAT_BUSY = false) →
    (s.dcmdUnit = some u) →
    (count ≠ 0) →
    (u + count ≤ 0xF0000) →
    Runs (.dramInvalidate count) s fun t =>
      t.flag DCMD_STAT_BUSY = true ∧
      t.valid = s.valid.filter (fun x => !(decide (u ≤ x) && decide (x < u + count))) ∧
      ∀ a, u * 4096 ≤ a → a < (u + count) * 4096 → t.dram.read 0 a = 0) ∧
  (∀ (s : State) (u : Nat), s.Wf →
    (s.dieOn 0 = true) →
    (s.flag DCMD_STAT_BUSY = false) →
    (s.dcmdUnit = some u) →
    (s.get DRAMC_STAT_SPARES < 3840) →
    Runs (.dramSpare) s fun t =>
      t.flag DCMD_STAT_BUSY = true ∧
      t.get DRAMC_STAT_SPARES = s.get DRAMC_STAT_SPARES + 1 ∧
      t.spares = place u (s.get DRAMC_STAT_SPARES) s.spares) ∧
  (∀ (s : State), s.Wf →
    (s.dieOn 0 = true) →
    (s.flag DCMD_STAT_BUSY = true) →
    Runs (.dramSpare) s fun t =>
      t.flag DCMD_STAT_REJ = true ∧
      t.spares = s.spares) ∧
  (∀ (s : State) (u : Nat), s.Wf →
    (s.dieOn 0 = true) →
    (s.flag DCMD_STAT_BUSY = false) →
    (s.dcmdUnit = some u) →
    (3840 ≤ s.get DRAMC_STAT_SPARES) →
    Runs (.dramSpare) s fun t =>
      t.flag DCMD_STAT_BUSY = true ∧
      t.dcmdFull = true ∧
      t.spares = s.spares) ∧
  (∀ (s : State), s.Wf →
    (s.flag DCMD_STAT_BUSY = true) →
    Runs (.dcmdDone) s fun t =>
      t.flag DCMD_STAT_BUSY = false ∧
      t.flag DCMD_STAT_DONE = true ∧
      (s.dcmdFull = true → t.flag DCMD_STAT_FULL = true) ∧
      t.sparesKept = s.spares)

/-- In every well-formed state whose cache lines lie at rising places: with no operation running, each maintenance command
leaves no dirty line (CLEAN) or no line (INVAL) of its scope and sets BUSY, refused while BUSY, and where no code word
is marked and no victim waits a CLEAN has stored every dirty line of its scope in DRAM; its end clears BUSY and sets
DONE. A scrubber begins a lap, reports an uncorrectable item and leaves it, and ends a lap of at least 16 s with its
time; READ_RAW and WRITE_RAW pass 64 bytes of a valid item, of the shared cache those of a present line, and without
one set MISS; MEM_CNT_CLR clears the counters its bits name. -/
def Obligations.Shared_cache_maintenance_and_scrubbing : Prop :=
  (∀ (s : State), s.Wf →
    (s.dieOn 0 = true) →
    (s.flag SC_MOP_STAT_BUSY = false) →
    ((s.lines.map (fun e => e.1)).Pairwise (fun x y => x < y)) →
    Runs (.scClean) s fun t =>
      t.flag SC_MOP_STAT_BUSY = true ∧
      t.lines.all (fun e => !(e.2.dirty && s.mopRange e.2)) = true ∧
      t.lines.length = s.lines.length) ∧
  (∀ (s : State), s.Wf →
    (s.dieOn 0 = true) →
    (s.flag SC_MOP_STAT_BUSY = false) →
    ((s.lines.map (fun e => e.1)).Pairwise (fun x y => x < y)) →
    (s.marks = []) →
    (s.victims = []) →
    (s.lines.all (fun e => decide (e.2.data.length = 128) && inDram (e.2.line * 128) 128) = true) →
    ((s.lines.map (fun e => e.2.line)).Nodup) →
    Runs (.scClean) s fun t =>
      ∀ e, e ∈ s.lines → e.2.dirty = true → s.mopRange e.2 = true → t.dram.readN 0 (e.2.line * 128 - dramBase) 128 = e.2.data) ∧
  (∀ (s : State), s.Wf →
    (s.dieOn 0 = true) →
    (s.flag SC_MOP_STAT_BUSY = false) →
    ((s.lines.map (fun e => e.1)).Pairwise (fun x y => x < y)) →
    Runs (.scInval) s fun t =>
      t.flag SC_MOP_STAT_BUSY = true ∧
      t.lines = s.lines.filter (fun e => !s.mopRange e.2) ∧
      t.dram = s.dram) ∧
  (∀ (s : State), s.Wf →
    (s.dieOn 0 = true) →
    (s.flag SC_MOP_STAT_BUSY = false) →
    ((s.lines.map (fun e => e.1)).Pairwise (fun x y => x < y)) →
    Runs (.scCleanInval) s fun t =>
      t.flag SC_MOP_STAT_BUSY = true ∧
      t.lines = s.lines.filter (fun e => !s.mopRange e.2)) ∧
  (∀ (s : State), s.Wf →
    (s.dieOn 0 = true) →
    (s.flag SC_MOP_STAT_BUSY = false) →
    ((s.lines.map (fun e => e.1)).Pairwise (fun x y => x < y)) →
    (s.marks = []) →
    (s.victims = []) →
    (s.lines.all (fun e => decide (e.2.data.length = 128) && inDram (e.2.line * 128) 128) = true) →
    ((s.lines.map (fun e => e.2.line)).Nodup) →
    Runs (.scCleanInval) s fun t =>
      ∀ e, e ∈ s.lines → e.2.dirty = true → s.mopRange e.2 = true → t.dram.readN 0 (e.2.line * 128 - dramBase) 128 = e.2.data) ∧
  (∀ (s : State), s.Wf →
    (s.dieOn 0 = true) →
    (s.flag SC_MOP_STAT_BUSY = false) →
    ((s.lines.map (fun e => e.1)).Pairwise (fun x y => x < y)) →
    Runs (.scCleanAll) s fun t =>
      t.flag SC_MOP_STAT_BUSY = true ∧
      t.lines.all (fun e => !e.2.dirty) = true ∧
      t.lines.length = s.lines.length) ∧
  (∀ (s : State), s.Wf →
    (s.dieOn 0 = true) →
    (s.flag SC_MOP_STAT_BUSY = false) →
    ((s.lines.map (fun e => e.1)).Pairwise (fun x y => x < y)) →
    (s.marks = []) →
    (s.victims = []) →
    (s.lines.all (fun e => decide (e.2.data.length = 128) && inDram (e.2.line * 128) 128) = true) →
    ((s.lines.map (fun e => e.2.line)).Nodup) →
    Runs (.scCleanAll) s fun t =>
      ∀ e, e ∈ s.lines → e.2.dirty = true → t.dram.readN 0 (e.2.line * 128 - dramBase) 128 = e.2.data) ∧
  (∀ (s : State), s.Wf →
    (s.dieOn 0 = true) →
    (s.flag SC_MOP_STAT_BUSY = false) →
    ((s.lines.map (fun e => e.1)).Pairwise (fun x y => x < y)) →
    Runs (.scCleanInvalAll) s fun t =>
      t.flag SC_MOP_STAT_BUSY = true ∧
      t.lines = []) ∧
  (∀ (s : State), s.Wf →
    (s.dieOn 0 = true) →
    (s.flag SC_MOP_STAT_BUSY = false) →
    ((s.lines.map (fun e => e.1)).Pairwise (fun x y => x < y)) →
    (s.marks = []) →
    (s.victims = []) →
    (s.lines.all (fun e => decide (e.2.data.length = 128) && inDram (e.2.line * 128) 128) = true) →
    ((s.lines.map (fun e => e.2.line)).Nodup) →
    Runs (.scCleanInvalAll) s fun t =>
      ∀ e, e ∈ s.lines → e.2.dirty = true → t.dram.readN 0 (e.2.line * 128 - dramBase) 128 = e.2.data) ∧
  (∀ (s : State), s.Wf →
    (s.dieOn 0 = true) →
    (s.flag SC_MOP_STAT_BUSY = true) →
    Runs (.scCleanAll) s fun t =>
      t.flag SC_MOP_STAT_REJ = true ∧
      t.lines = s.lines) ∧
  (∀ (s : State), s.Wf →
    (s.flag SC_MOP_STAT_BUSY = true) →
    Runs (.mopDone) s fun t =>
      t.flag SC_MOP_STAT_BUSY = false ∧
      t.flag SC_MOP_STAT_DONE = true) ∧
  (∀ (s : State) (m : ArrayNo) (a : Nat), s.Wf →
    (s.memOn m = true) →
    (s.flag (SCRUB_CTL_EN (memUnit m)) = true) →
    (s.flag (SCRUB_STAT_ACTIVE (memUnit m)) = false) →
    (look (markKey m (a / granule m * granule m)) s.marks = none) →
    Runs (.scrubItem m a .none) s fun t =>
      t.flag (SCRUB_STAT_ACTIVE (memUnit m)) = true ∧
      atD t.lapStart m 0 = s.optime ∧
      t.array m = s.array m) ∧
  (∀ (s : State) (m : ArrayNo) (a : Nat), s.Wf →
    (s.memOn m = true) →
    (s.flag (SCRUB_CTL_EN (memUnit m)) = true) →
    (a % granule m = 0) →
    (a < 2 ^ 40) →
    (s.itemValid m a = true) →
    (look (markKey m a) s.marks = some .bad) →
    Runs (.scrubItem m a .none) s fun t =>
      t.num64 (UE_ADDR_LO (memUnit m)) (UE_ADDR_HI (memUnit m)) = memAddr m a ∧
      bitOf (t.num (memFault m).addr) 2 = true ∧
      t.array m = s.array m ∧
      look (markKey m a) t.marks = some .bad) ∧
  (∀ (s : State) (m : ArrayNo), s.Wf →
    (s.memOn m = true) →
    (s.flag (SCRUB_STAT_ACTIVE (memUnit m)) = true) →
    (atD s.lapStart m 0 + 128 ≤ s.optime) →
    Runs (.scrubLapEnd m) s fun t =>
      t.flag (SCRUB_STAT_ACTIVE (memUnit m)) = false ∧
      t.get (SCRUB_STAT_LAP_CNT (memUnit m)) = (s.get (SCRUB_STAT_LAP_CNT (memUnit m)) + 1) % 65536 ∧
      t.num (LAP_TIME (memUnit m)) = (s.optime - atD s.lapStart m 0) % 2 ^ 32) ∧
  (∀ (s : State) (m : ArrayNo) (a : Nat), s.Wf →
    (s.dieOn (addrDie (memUnit m)) = true) →
    (s.expertOpen (TA_CMD (memUnit m)) = true) →
    (s.taAddr m = some a) →
    (m ≠ 1) →
    ((m = 2 → a + 64 ≤ 0xE2000 ∨ 0x100000 ≤ a)) →
    (s.itemValid m a = true) →
    Runs (.readRaw m) s fun t =>
      t.taData m = (s.array m).readN 0 a 64 ∧
      t.flag (TA_STAT_MISS (memUnit m)) = false) ∧
  (∀ (s : State) (m : ArrayNo) (a : Nat), s.Wf →
    (s.dieOn (addrDie (memUnit m)) = true) →
    (s.expertOpen (TA_CMD (memUnit m)) = true) →
    (s.taAddr m = some a) →
    (m ≠ 1) →
    ((m = 2 → a + 64 ≤ 0xE2000 ∨ 0x100000 ≤ a)) →
    Runs (.writeRaw m) s fun t =>
      (t.array m).readN 0 a 64 = s.taData m ∧
      t.flag (TA_STAT_MISS (memUnit m)) = false) ∧
  (∀ (s : State) (a k : Nat) (l : ScLine), s.Wf →
    (s.dieOn 0 = true) →
    (s.expertOpen (TA_CMD (memUnit 1)) = true) →
    (s.taAddr 1 = some a) →
    (s.scFind a = some (k, l)) →
    (l.data.length = 128) →
    (a % 64 = 0) →
    Runs (.readRaw 1) s fun t =>
      t.taData 1 = slice l.data (a % 128) 64 ∧
      t.flag (TA_STAT_MISS (memUnit 1)) = false) ∧
  (∀ (s : State) (a k : Nat) (l : ScLine), s.Wf →
    (s.dieOn 0 = true) →
    (s.expertOpen (TA_CMD (memUnit 1)) = true) →
    (s.taAddr 1 = some a) →
    (s.scFind a = some (k, l)) →
    Runs (.writeRaw 1) s fun t =>
      look k t.lines = some { l with data := overlay l.data (a % 128) (s.taData 1) } ∧
      t.flag (TA_STAT_MISS (memUnit 1)) = false) ∧
  (∀ (s : State) (a : Nat), s.Wf →
    (s.dieOn 0 = true) →
    (s.expertOpen (TA_CMD (memUnit 1)) = true) →
    (s.taAddr 1 = some a) →
    (s.scFind a = none) →
    Runs (.writeRaw 1) s fun t =>
      t.flag (TA_STAT_MISS (memUnit 1)) = true ∧
      t.lines = s.lines) ∧
  (∀ (s : State) (m : ArrayNo) (v : Word), s.Wf →
    (s.dieOn (addrDie (memUnit m)) = true) →
    Runs (.memCntClr m v) s fun t =>
      t.num (CE_CNT (memUnit m)) = (if v.getLsbD 0 then 0 else s.num (CE_CNT (memUnit m))) ∧
      t.num (UE_CNT (memUnit m)) = (if v.getLsbD 1 then 0 else s.num (UE_CNT (memUnit m))))

/-- In every well-formed state with the HUB answering: NEWKEY and KEYERASE set BUSY (REJ while BUSY) and their end makes
the slot hold a key or none; enabling CIPHER reloads every key. With STACKS enabled and the buffer's record readable:
ALLOC gives the head of the pool's free FIFO to one owner, ADD appends an owner, RELEASE removes one of several, FREE
of the last owner raises GEN and returns the buffer to its pool's tail, QUERY changes no buffer, and of a handle of
another GEN or a free buffer answers STALE; STK_RES holds the answer. Pool commands set the pool's state. -/
def Obligations.CIPHER_keys_and_Stacks_requests : Prop :=
  (∀ (s : State) (k : Fin 16), s.Wf →
    (s.dieOn 0 = true) →
    (s.flag CI_KEYSTAT_BUSY = false) →
    Runs (.newkey k) s fun t =>
      t.flag CI_KEYSTAT_BUSY = true ∧
      t.keyJob = some (k.val, true)) ∧
  (∀ (s : State) (k : Fin 16), s.Wf →
    (s.dieOn 0 = true) →
    (s.flag CI_KEYSTAT_BUSY = false) →
    Runs (.keyErase k) s fun t =>
      t.flag CI_KEYSTAT_BUSY = true ∧
      t.keyJob = some (k.val, false)) ∧
  (∀ (s : State) (k : Fin 16), s.Wf →
    (s.dieOn 0 = true) →
    (s.flag CI_KEYSTAT_BUSY = true) →
    Runs (.newkey k) s fun t =>
      t.flag CI_KEYSTAT_REJ = true ∧
      t.keyJob = s.keyJob) ∧
  (∀ (s : State) (k : Fin 16) (new : Bool), s.Wf →
    (s.keyJob = some (k.val, new)) →
    Runs (.keyCommandDone) s fun t =>
      t.flag CI_KEYSTAT_BUSY = false ∧
      bitOf (t.get CI_KEYSTAT_VALID) k = new ∧
      (atD t.keys k none).isSome = new ∧
      t.keyJob = none) ∧
  (∀ (s : State), s.Wf →
    (s.dieOn 0 = true) →
    (s.flag CI_CTL_EN = false) →
    Runs (.cipherEnable) s fun t =>
      t.flag CI_CTL_EN = true ∧
      t.keys = s.keyStore) ∧
  (∀ (s : State) (c : CoreNo) (zero : Bool) (p : Fin 16) (i : Nat) (rest : List Nat) (b : Buf), s.Wf →
    (s.dieOn 0 = true) →
    (s.flag STK_CTL_EN = true) →
    (s.poolOn p = true) →
    (nameOk (s.get (STK_NAME_NAME c)) = true) →
    (atD s.poolFree p [] = i :: rest) →
    ((s.stkRead i).1 = some b) →
    Runs (.stkAlloc c zero p) s fun t =>
      t.num (STK_RES c) = 0x10000000 + handleOf b.gen i % 0x1000000 ∧
      (t.bufOf i).owners = [s.get (STK_NAME_NAME c)] ∧
      (t.bufOf i).stamp = s.num TSTAMP ∧
      (t.bufOf i).gen = b.gen ∧
      atD t.poolFree p [] = rest) ∧
  (∀ (s : State) (c : CoreNo) (p : Fin 16), s.Wf →
    (s.dieOn 0 = true) →
    (s.flag STK_CTL_EN = true) →
    (s.poolOn p = true) →
    (nameOk (s.get (STK_NAME_NAME c)) = true) →
    (atD s.poolFree p [] = []) →
    Runs (.stkAlloc c false p) s fun t =>
      t.num (STK_RES c) = 0x1000000 ∧
      bitOf (t.num stkErr.addr) (16 + p) = true) ∧
  (∀ (s : State) (c : CoreNo) (p : Nat) (b : Buf), s.Wf →
    (s.dieOn 0 = true) →
    (s.flag STK_CTL_EN = true) →
    (nameOk (s.get (STK_NAME_NAME c)) = true) →
    (nameOk (s.get (STK_NAME2_NAME c)) = true) →
    (s.poolOf (handleIndex (s.get (STK_HANDLE_HANDLE c))) = some p) →
    ((s.stkRead (handleIndex (s.get (STK_HANDLE_HANDLE c)))).1 = some b) →
    (b.gen = handleGen (s.get (STK_HANDLE_HANDLE c))) →
    (b.owners.contains (s.get (STK_NAME_NAME c)) = true) →
    (b.owners.contains (s.get (STK_NAME2_NAME c)) = false) →
    (b.owners.length < 4) →
    Runs (.stkAdd c) s fun t =>
      (t.bufOf (handleIndex (s.get (STK_HANDLE_HANDLE c)))).owners = b.owners ++ [s.get (STK_NAME2_NAME c)] ∧
      t.num (STK_RES c) = (b.owners.length + 1) * 0x10000000 + s.get (STK_HANDLE_HANDLE c)) ∧
  (∀ (s : State) (c : CoreNo) (p : Nat) (b : Buf), s.Wf →
    (s.dieOn 0 = true) →
    (s.flag STK_CTL_EN = true) →
    (nameOk (s.get (STK_NAME_NAME c)) = true) →
    (s.poolOf (handleIndex (s.get (STK_HANDLE_HANDLE c))) = some p) →
    ((s.stkRead (handleIndex (s.get (STK_HANDLE_HANDLE c)))).1 = some b) →
    (b.gen = handleGen (s.get (STK_HANDLE_HANDLE c))) →
    (b.owners.contains (s.get (STK_NAME_NAME c)) = true) →
    (2 ≤ b.owners.length) →
    Runs (.stkRelease c) s fun t =>
      (t.bufOf (handleIndex (s.get (STK_HANDLE_HANDLE c)))).owners = b.owners.erase (s.get (STK_NAME_NAME c)) ∧
      t.num (STK_RES c) = (b.owners.length - 1) % 8 * 0x10000000 + s.get (STK_HANDLE_HANDLE c) % 0x1000000) ∧
  (∀ (s : State) (c : CoreNo) (p : Nat) (b : Buf), s.Wf →
    (s.dieOn 0 = true) →
    (s.flag STK_CTL_EN = true) →
    (nameOk (s.get (STK_NAME_NAME c)) = true) →
    (s.poolOf (handleIndex (s.get (STK_HANDLE_HANDLE c))) = some p) →
    ((s.stkRead (handleIndex (s.get (STK_HANDLE_HANDLE c)))).1 = some b) →
    (b.gen = handleGen (s.get (STK_HANDLE_HANDLE c))) →
    (b.owners = [s.get (STK_NAME_NAME c)]) →
    (risingFrom 0 s.bufs = true) →
    Runs (.stkFree c) s fun t =>
      (t.bufOf (handleIndex (s.get (STK_HANDLE_HANDLE c)))).gen = (b.gen + 1) % 16 ∧
      (t.bufOf (handleIndex (s.get (STK_HANDLE_HANDLE c)))).owners = [] ∧
      (t.bufOf (handleIndex (s.get (STK_HANDLE_HANDLE c)))).stamp = s.num TSTAMP ∧
      atD t.poolFree p [] = atD s.poolFree p [] ++ [handleIndex (s.get (STK_HANDLE_HANDLE c))] ∧
      t.num (STK_RES c) = s.get (STK_HANDLE_HANDLE c) % 0x1000000) ∧
  (∀ (s : State) (c : CoreNo) (p : Nat) (b : Buf), s.Wf →
    (s.dieOn 0 = true) →
    (s.flag STK_CTL_EN = true) →
    (s.poolOf (handleIndex (s.get (STK_HANDLE_HANDLE c))) = some p) →
    ((s.stkRead (handleIndex (s.get (STK_HANDLE_HANDLE c)))).1 = some b) →
    (b.gen = handleGen (s.get (STK_HANDLE_HANDLE c))) →
    (b.owners ≠ []) →
    Runs (.stkQuery c) s fun t =>
      t.bufs = s.bufs ∧
      t.poolFree = s.poolFree ∧
      t.num (STK_RES c) = b.owners.length % 8 * 0x10000000 + s.get (STK_HANDLE_HANDLE c) % 0x1000000) ∧
  (∀ (s : State) (c : CoreNo) (p : Nat) (b : Buf), s.Wf →
    (s.dieOn 0 = true) →
    (s.flag STK_CTL_EN = true) →
    (s.poolOf (handleIndex (s.get (STK_HANDLE_HANDLE c))) = some p) →
    ((s.stkRead (handleIndex (s.get (STK_HANDLE_HANDLE c)))).1 = some b) →
    (b.gen ≠ handleGen (s.get (STK_HANDLE_HANDLE c)) ∨ b.owners = []) →
    Runs (.stkQuery c) s fun t =>
      t.bufs = s.bufs ∧
      t.num (STK_RES c) = 0x2000000 + s.get (STK_HANDLE_HANDLE c) % 0x1000000) ∧
  (∀ (s : State) (p : Fin 16), s.Wf →
    (s.dieOn 0 = true) →
    Runs (.poolInit p) s fun t =>
      t.get (POOL_STAT_STATE p) = 1 ∧
      t.num (POOL_FAILS p) = 0 ∧
      atD t.poolFree p [] = []) ∧
  (∀ (s : State) (p : Fin 16), s.Wf →
    (s.get (POOL_STAT_STATE p) = 1) →
    Runs (.poolInitDone p) s fun t =>
      t.get (POOL_STAT_STATE p) = 2 ∧
      atD t.poolFree p [] = (List.range (min (s.get (POOL_COUNT_COUNT p)) (0xF0000 - s.get (POOL_BASE_INDEX p)))).map (fun i => s.get (POOL_BASE_INDEX p) + i) ∧
      (risingFrom 0 s.bufs = true → ∀ i, i < min (s.get (POOL_COUNT_COUNT p)) (0xF0000 - s.get (POOL_BASE_INDEX p)) → (t.bufOf (s.get (POOL_BASE_INDEX p) + i)).gen = 0 ∧ (t.bufOf (s.get (POOL_BASE_INDEX p) + i)).owners = [])) ∧
  (∀ (s : State) (p : Fin 16), s.Wf →
    (s.dieOn 0 = true) →
    Runs (.poolOff p) s fun t =>
      t.get (POOL_STAT_STATE p) = 0) ∧
  (∀ (s : State) (p : Fin 16), s.Wf →
    (s.dieOn 0 = true) →
    Runs (.poolClrLow p) s fun t =>
      t.get (POOL_LOW_LOW p) = s.get (POOL_STAT_FREE p))

/-- In every well-formed state a register write, Basic or Expert, of a width other than 4 or to an address that is not a
multiple of 4, a write or read at die number 6 or 7, at a channel die the accepted image does not enable, or at a unit
slot the die does not populate, answers a bus error and leaves everything but that answer as it was. (00_scope.md R4,
00_scope.md R5, 00_scope.md R6) -/
def Obligations.Bus_errors_have_no_effect : Prop :=
  (∀ (s : State) (addr : BitVec 32) (width : Nat) (v : Word), s.Wf →
    (width ≠ 4 ∨ addr.toNat % 4 ≠ 0) →
    Runs (.registerWrite addr width v) s fun t =>
      t = s.answer .busError) ∧
  (∀ (s : State) (addr : BitVec 32) (width : Nat) (v : Word), s.Wf →
    (width ≠ 4 ∨ addr.toNat % 4 ≠ 0) →
    Runs (.expertWrite addr width v) s fun t =>
      t = s.answer .busError) ∧
  (∀ (s : State) (addr : BitVec 32), s.Wf →
    (addr.toNat % 4 ≠ 0) →
    Runs (.wideRegisterRead addr) s fun t =>
      t = s.answer .busError) ∧
  (∀ (s : State) (addr : BitVec 32) (v : Word), s.Wf →
    (addrDie addr.toNat = 6 ∨ addrDie addr.toNat = 7) →
    Runs (.registerWrite addr 4 v) s fun t =>
      t = s.answer .busError) ∧
  (∀ (s : State) (addr : BitVec 32) (v : Word), s.Wf →
    (addrDie addr.toNat = 6 ∨ addrDie addr.toNat = 7) →
    Runs (.expertWrite addr 4 v) s fun t =>
      t = s.answer .busError) ∧
  (∀ (s : State) (addr : BitVec 32), s.Wf →
    (addrDie addr.toNat = 6 ∨ addrDie addr.toNat = 7) →
    Runs (.wideRegisterRead addr) s fun t =>
      t = s.answer .busError) ∧
  (∀ (s : State) (addr : BitVec 32) (v : Word) (ch : Ch), s.Wf →
    (addrDie addr.toNat = ch + 1) →
    (s.chOn ch = false) →
    Runs (.registerWrite addr 4 v) s fun t =>
      t = s.answer .busError) ∧
  (∀ (s : State) (addr : BitVec 32) (v : Word) (ch : Ch), s.Wf →
    (addrDie addr.toNat = ch + 1) →
    (s.chOn ch = false) →
    Runs (.expertWrite addr 4 v) s fun t =>
      t = s.answer .busError) ∧
  (∀ (s : State) (addr : BitVec 32) (ch : Ch), s.Wf →
    (addrDie addr.toNat = ch + 1) →
    (s.chOn ch = false) →
    Runs (.wideRegisterRead addr) s fun t =>
      t = s.answer .busError) ∧
  (∀ (s : State) (addr : BitVec 32) (v : Word) (k : DieKind), s.Wf →
    (dieKind (addrDie addr.toNat) = some k) →
    (unitCount k ≤ addrUnit addr.toNat) →
    Runs (.registerWrite addr 4 v) s fun t =>
      t = s.answer .busError) ∧
  (∀ (s : State) (addr : BitVec 32) (v : Word) (k : DieKind), s.Wf →
    (dieKind (addrDie addr.toNat) = some k) →
    (unitCount k ≤ addrUnit addr.toNat) →
    Runs (.expertWrite addr 4 v) s fun t =>
      t = s.answer .busError) ∧
  (∀ (s : State) (addr : BitVec 32) (k : DieKind), s.Wf →
    (dieKind (addrDie addr.toNat) = some k) →
    (unitCount k ≤ addrUnit addr.toNat) →
    Runs (.wideRegisterRead addr) s fun t =>
      t = s.answer .busError)

/-- In every well-formed state, an Expert-page write to a unit that serves accesses (R508) and has an Expert page, and
that is not both granted and unlocked (and, for LOOP, not restarting: R155) completes without a bus error and changes
nothing but the IGNORED bit of the unit's EXPERT_STAT; one to a unit that is open, at a parameter that acts at once,
gives the parameter's RW bits the value written and counts it as overridden. (00_scope.md R9) -/
def Obligations.A_closed_Expert_page_ignores_writes : Prop :=
  (∀ (s : State) (addr : BitVec 32) (v : Word) (k : DieKind), s.Wf →
    (s.busOk addr.toNat 4 = true) →
    (isExpert addr.toNat = true) →
    (dieKind (addrDie addr.toNat) = some k) →
    (hasExpert k (addrUnit addr.toNat) = true) →
    (s.expertOpen addr.toNat = false) →
    (s.busWaits addr.toNat = false) →
    Runs (.expertWrite addr 4 v) s fun t =>
      t = (s.wr (expertStat addr.toNat) (s.rd (expertStat addr.toNat) ||| 4)).answer .done) ∧
  (∀ (s : State) (ch : Ch) (v : Word), s.Wf →
    (s.busOk (SLIP_THR ch) 4 = true) →
    (s.expertOpen (SLIP_THR ch) = true) →
    Runs (.expertWrite (BitVec.ofNat 32 (SLIP_THR ch)) 4 v) s fun t =>
      t.resp = .done ∧
      t.overrides.contains (SLIP_THR ch) = true ∧
      t.get (SLIP_THR_THR ch) = v.toNat % 2 ^ 13)

/-- In every well-formed state. A write of either page that reaches a unit and does not wait, as one to a LOOP that
restarts or of NVS_DATA during a write does, is answered without an error. A Basic write to a register with no effect
of its own and no W1C bit gives its RW bits the value written and changes no other register; one with W1C bits clears
those written 1; one to an offset that holds no register changes nothing; one to a register with an effect of its own
has exactly that effect. A write to a LOOP that restarts waits: it changes no register and stands last among the
accesses that wait. A read of a word that captures answers that word, captures every word its description names, and
changes no register. A write of EXPERT_UNLOCK sets UNLOCKED exactly where it is the unit's key word and the unit is
granted, and changes no other register. A debug access at level 0 reads 0 and writes nothing; at another level it does
what the register write or read of that address does, but for NVS_DATA where it shows a Keeper or LMS word: that reads
0. -/
def Obligations.Register_reads_and_writes : Prop :=
  (∀ (s : State) (addr : BitVec 32) (v : Word), s.Wf →
    (s.busOk addr.toNat 4 = true) →
    (s.busWaits addr.toNat = false) →
    Runs (.registerWrite addr 4 v) s fun t =>
      t.resp = .done) ∧
  (∀ (s : State) (addr : BitVec 32) (v : Word), s.Wf →
    (s.busOk addr.toNat 4 = true) →
    (s.busWaits addr.toNat = false) →
    Runs (.expertWrite addr 4 v) s fun t =>
      t.resp = .done) ∧
  (∀ (s : State) (addr : BitVec 32) (v : Word) (d : RegDesc), s.Wf →
    (s.busOk addr.toNat 4 = true) →
    (s.busWaits addr.toNat = false) →
    (isExpert addr.toNat = false) →
    (ownWrite 17 addr.toNat v s = none) →
    (regAt addr.toNat = some d) →
    (d.w1c = 0) →
    Runs (.registerWrite addr 4 v) s fun t =>
      t.rd addr.toNat = (s.rd addr.toNat &&& ~~~(BitVec.ofNat 32 d.rw)) ||| (v &&& BitVec.ofNat 32 d.rw) ∧
      ∀ a, a ≠ addr.toNat → t.rd a = s.rd a) ∧
  (∀ (s : State) (addr : BitVec 32) (v : Word) (d : RegDesc), s.Wf →
    (s.busOk addr.toNat 4 = true) →
    (s.busWaits addr.toNat = false) →
    (isExpert addr.toNat = false) →
    (ownWrite 17 addr.toNat v s = none) →
    (regAt addr.toNat = some d) →
    Runs (.registerWrite addr 4 v) s fun t =>
      t.rd addr.toNat &&& (v &&& BitVec.ofNat 32 d.w1c) = 0) ∧
  (∀ (s : State) (addr : BitVec 32) (v : Word), s.Wf →
    (s.busOk addr.toNat 4 = true) →
    (s.busWaits addr.toNat = false) →
    (isExpert addr.toNat = false) →
    (ownWrite 17 addr.toNat v s = none) →
    (regAt addr.toNat = none) →
    Runs (.registerWrite addr 4 v) s fun t =>
      t = s.answer .done) ∧
  (∀ (s : State) (addr : BitVec 32) (v : Word) (u : State), s.Wf →
    (s.busOk addr.toNat 4 = true) →
    (s.busWaits addr.toNat = false) →
    (isExpert addr.toNat = false) →
    (ownWrite 17 addr.toNat v s = some u) →
    Runs (.registerWrite addr 4 v) s fun t =>
      t = u.answer .done) ∧
  (∀ (s : State) (addr : BitVec 32) (v : Word) (ch : Ch), s.Wf →
    (s.busOk addr.toNat 4 = true) →
    (loopAt addr.toNat = some ch.val) →
    ((s.loopOf ch).restarting = true) →
    Runs (.registerWrite addr 4 v) s fun t =>
      t.resp = .waits ∧
      t.bank = s.bank ∧
      (t.loopOf ch).waiting = (s.loopOf ch).waiting ++ [(addr.toNat, some v.toNat)]) ∧
  (∀ (s : State) (addr : BitVec 32), s.Wf →
    (s.busOk addr.toNat 4 = true) →
    (s.busWaits addr.toNat = false) →
    (capturesOf addr.toNat ≠ []) →
    (linkEndAt addr.toNat = none) →
    (s.arrayView addr.toNat = none) →
    (addr.toNat ≠ NVS_DATA ∧ addr.toNat ≠ UART_DATA) →
    Runs (.wideRegisterRead addr) s fun t =>
      t.resp = .data ((s.capture addr.toNat).dueView addr.toNat).toNat ∧
      ∀ b, b ∈ capturesOf addr.toNat → fetch (resetOf b) t.latch b = s.rd b ∧
      t.bank = s.bank) ∧
  (∀ (s : State), s.Wf →
    (s.pins.test = false) →
    Runs (.wideRegisterRead (BitVec.ofNat 32 OPTIME_LO)) s fun t =>
      t.resp = .data (s.num OPTIME_LO) ∧
      fetch (resetOf OPTIME_HI) t.latch OPTIME_HI = s.rd OPTIME_HI) ∧
  (∀ (s : State) (die : Fin 8) (unit : Fin 32) (v : Word), s.Wf →
    (s.busOk (unitBase die unit + 0xFF0) 4 = true) →
    (s.busWaits (unitBase die unit + 0xFF0) = false) →
    ((regAt (unitBase die unit + 0xFF0)).isSome = true) →
    Runs (.expertUnlockWrite die unit v) s fun t =>
      t.resp = .done ∧
      t.rd (unitBase die unit + 0xFF4) = insertBits (s.rd (unitBase die unit + 0xFF4)) 1 1 (ofBool (decide (v.toNat = 0x0E590000 + die * 0x100 + unit) && bitOf (s.num (unitBase die unit + 0xFF4)) 0)) ∧
      ∀ a, a ≠ unitBase die unit + 0xFF4 → t.rd a = s.rd a) ∧
  (∀ (s : State) (addr : BitVec 32) (v : Word), s.Wf →
    (s.dieOn 0 = true) →
    (s.get DBG_STAT_LEVEL = 0) →
    Runs (.dbgFabric addr false v) s fun t =>
      t = s.answer (.data 0)) ∧
  (∀ (s : State) (addr : BitVec 32) (v : Word), s.Wf →
    (s.dieOn 0 = true) →
    (s.get DBG_STAT_LEVEL = 0) →
    Runs (.dbgFabric addr true v) s fun t =>
      t = s.answer .done) ∧
  (∀ (s : State) (addr : BitVec 32) (v : Word), s.Wf →
    (s.dieOn 0 = true) →
    (s.get DBG_STAT_LEVEL ≠ 0) →
    (addr.toNat ≠ NVS_DATA ∨ s.nvsSecret = false) →
    Runs (.dbgFabric addr true v) s fun t =>
      t = accessWrite addr.toNat 4 v s) ∧
  (∀ (s : State) (addr : BitVec 32) (v : Word), s.Wf →
    (s.dieOn 0 = true) →
    (s.get DBG_STAT_LEVEL ≠ 0) →
    (addr.toNat ≠ NVS_DATA ∨ s.nvsSecret = false) →
    Runs (.dbgFabric addr false v) s fun t =>
      t = accessRead addr.toNat 4 s) ∧
  (∀ (s : State) (v : Word), s.Wf →
    (s.dieOn 0 = true) →
    (s.get DBG_STAT_LEVEL ≠ 0) →
    (s.nvsSecret = true) →
    Runs (.dbgFabric (BitVec.ofNat 32 NVS_DATA) false v) s fun t =>
      t = s.answer (.data 0))

/-- In every well-formed state: a port that may train to a supported width and rate, up or not, is up with them, and a
link going down or PERST# takes it down; VF Enable sets NumVFs; CC.EN makes a controller ready with the CC and admin
queue sizes the host wrote; CC.EN cleared leaves an existing controller in its default state but for CC's other bits
and the admin queue sizes, a function-level reset leaves it in its default state and that of a PF also clears NumVFs,
and an NVM subsystem reset reaches every existing controller and takes both links down; a shutdown ends shut down with
its notification in CC; CTRL_NS changes the attachments and notes the change. -/
def Obligations.Ports_functions_and_controllers : Prop :=
  (∀ (s : State) (p : Fin 2) (width : Nat) (speed : Nat), s.Wf →
    (s.portExists p = true) →
    (4 ≤ s.get BOOT_STAT_STAGE) →
    (s.flag BOOT_STAT_ROM_SERVICES = false) →
    (width = 1 ∨ width = 2 ∨ (width = 4 ∧ s.imgNat Image.portShape = 1)) →
    (1 ≤ speed ∧ speed ≤ 5) →
    Runs (.portTrain p width speed) s fun t =>
      t.flag (PORT_STAT_DL_ACTIVE p) = true ∧
      t.get (PORT_STAT_WIDTH p) = width ∧
      t.get (PORT_STAT_SPEED p) = speed) ∧
  (∀ (s : State) (p : Fin 2), s.Wf →
    (s.portExists p = true) →
    (s.flag (PORT_STAT_DL_ACTIVE p) = true) →
    Runs (.portLinkDown p) s fun t =>
      t.flag (PORT_STAT_DL_ACTIVE p) = false ∧
      t.get (PORT_STAT_WIDTH p) = 0 ∧ t.get (PORT_STAT_SPEED p) = 0 ∧
      t.get (PORT_STAT_DOWN_CNT p) = min 255 (s.get (PORT_STAT_DOWN_CNT p) + 1)) ∧
  (∀ (s : State) (p : Fin 2), s.Wf →
    (s.portExists p = true) →
    (s.flag (PORT_STAT_DL_ACTIVE p) = true) →
    Runs (.perstAssert p) s fun t =>
      t.flag (PORT_STAT_DL_ACTIVE p) = false) ∧
  (∀ (s : State) (pf : Fin 2) (n : Nat), s.Wf →
    (s.pfExists pf = true) →
    (n ≤ s.totalVfs pf) →
    Runs (.vfEnable pf n) s fun t =>
      atD t.host.numVfs pf 0 = n) ∧
  (∀ (s : State) (e : CtrlSetup), s.Wf →
    (s.ctrlExists e.ctrl = true) →
    ((s.ctrl e.ctrl).en = false) →
    Runs (.controllerEnable e) s fun t =>
      (t.ctrl e.ctrl).en = true ∧ (t.ctrl e.ctrl).rdy = true ∧
      (t.ctrl e.ctrl).shst = 0 ∧
      (t.ctrl e.ctrl).cc = e.cc.toNat ∧
      (t.ctrl e.ctrl).asq = e.asqs.val + 1 ∧ (t.ctrl e.ctrl).acq = e.acqs.val + 1) ∧
  (∀ (s : State) (k : Fin 64), s.Wf →
    (s.ctrlExists k = true) →
    Runs (.controllerReset k) s fun t =>
      t.ctrl k = { (s.ctrl k).cleared s.host.saved with cc := (s.ctrl k).cc / 2 * 2, asq := (s.ctrl k).asq, acq := (s.ctrl k).acq } ∧
      t.host.vwc = true) ∧
  (∀ (s : State) (k : Fin 64), s.Wf →
    (s.ctrlExists k = true) →
    Runs (.functionLevelReset k) s fun t =>
      t.ctrl k = (s.ctrl k).cleared s.host.saved) ∧
  (∀ (s : State) (k : Fin 64), s.Wf →
    (s.ctrlExists k = true) →
    ((s.function k).2 = 0) →
    Runs (.functionLevelReset k) s fun t =>
      atD t.host.numVfs (s.function k).1 0 = 0) ∧
  (∀ (s : State) (k : Fin 64), s.Wf →
    (s.ctrlExists k = true) →
    Runs (.nvmSubsystemReset) s fun t =>
      (t.ctrl k).en = false ∧
      (t.ctrl k).granted = false ∧
      t.flag (PORT_STAT_DL_ACTIVE 0) = false ∧ t.flag (PORT_STAT_DL_ACTIVE 1) = false) ∧
  (∀ (s : State) (n : ShutdownNote), s.Wf →
    (s.ctrlExists n.ctrl = true) →
    Runs (.controllerShutdown n) s fun t =>
      (t.ctrl n.ctrl).shst = 2 ∧
      bitsOf (t.ctrl n.ctrl).cc 15 14 = (if n.abrupt then 2 else 1)) ∧
  (∀ (s : State) (k : Fin 64) (v : Word) (i : Fin 16), s.Wf →
    (s.dieOn 0 = true) →
    (bitOf (s.num (CTRL_NS k)) i ≠ v.getLsbD i) →
    Runs (.ctrlNsWrite k v) s fun t =>
      t.num (CTRL_NS k) % 65536 = v.toNat % 65536 ∧
      (t.ctrl k).changed.contains (i.val + 1) = true)

/-- In every well-formed state: a fetch from the queue the arbitration has come to, that nothing holds up, puts the entry
in its tag under the next FSEQ, completed at once where a check fails, and of a Flush in Protected mode, while in the
other modes it records what the Flush waits for; with no queue to fetch from nothing changes; a ready command with
room in the ring is Dispatched; MEDIA and COMPLETE of a command drive firmware holds take effect and consume their
request, COMPLETE of a write the cache mode does not yet allow being EARLY; posting frees the tag with its dwords in
the completion entry; a write is admitted, its data arrive, its entry is released, a pending Flush completes when R352
allows, and a waiting command retries. -/
def Obligations.Commands_are_fetched_dispatched_and_completed : Prop :=
  (∀ (s : State) (k : Fin 64) (q : ReadyQueue) (tg : TagNo) (e : WrtNo) (sqe : List Byte) (ranges : List (Nat × Nat)) (m : State), s.Wf →
    (s.arbitrate ((k.val, q.sqid) :: q.others) = some ((k.val, q.sqid), m)) →
    (s.host.stopped = false) →
    (s.paused = false) →
    (q.sqid = 0 ∨ (s.tagsFree ≠ 0 ∧ s.host.wrts.length < 32768 ∧ s.host.wrts.length + (s.entriesOf q.sqid (slice sqe 0 64) ranges).length ≤ 32768)) →
    (s.tagFor k q.sqid tg = true) →
    ((List.range (s.entriesOf q.sqid (slice sqe 0 64) ranges).length).all (fun j => (s.wrt ((e + j) % 32768)).isNone) = true) →
    (s.fetchLimit = none) →
    (s.check k q.sqid (slice sqe 0 64) ranges = none) →
    (q.sqid = 0 ∨ sqOp (slice sqe 0 64) ≠ opFlush) →
    ((List.range 4).all (fun n => decide (s.actState n < 2)) = true) →
    Runs (.submissionFetch k q tg e sqe ranges) s fun t =>
      (t.tag tg).map (fun y => (y.ctrl, y.sqid, y.sqe, y.fseq, y.st)) = some (k.val, q.sqid, slice sqe 0 64, s.host.fseq + 1, .fetched) ∧
      t.host.fseq = s.host.fseq + 1 ∧
      t.host.arb = m.host.arb) ∧
  (∀ (s : State) (k : Fin 64) (q : ReadyQueue) (tg : TagNo) (e : WrtNo) (sqe : List Byte) (ranges : List (Nat × Nat)) (m : State), s.Wf →
    (s.arbitrate ((k.val, q.sqid) :: q.others) = some ((k.val, q.sqid), m)) →
    (s.host.stopped = false) →
    (s.paused = false) →
    (q.sqid ≠ 0) →
    (s.tagsFree ≠ 0) →
    (s.host.wrts.length < 32768) →
    (s.tagFor k q.sqid tg = true) →
    (s.fetchLimit = none) →
    (sqOp (slice sqe 0 64) = opFlush) →
    (s.check k q.sqid (slice sqe 0 64) ranges = none) →
    (s.entriesOf q.sqid (slice sqe 0 64) ranges = []) →
    ((List.range 4).all (fun n => decide (s.actState n < 2)) = true) →
    Runs (.submissionFetch k q tg e sqe ranges) s fun t =>
      s.cacheMode = 0 → (t.tag tg).map (fun y => (y.st, y.status)) = some (.completing, 0) ∧
      s.cacheMode ≠ 0 → (t.tag tg).map (fun y => (y.st, y.begun, y.flush)) = some (.fetched, true, (flushNs (newTag k q.sqid (slice sqe 0 64) 0)).map (fun i => (i, (s.ns i).cseq)))) ∧
  (∀ (s : State) (k : Fin 64) (q : ReadyQueue) (tg : TagNo) (e : WrtNo) (sqe : List Byte) (ranges : List (Nat × Nat)) (m : State) (st : Nat), s.Wf →
    (s.arbitrate ((k.val, q.sqid) :: q.others) = some ((k.val, q.sqid), m)) →
    (s.host.stopped = false) →
    (s.paused = false) →
    (q.sqid = 0 ∨ (s.tagsFree ≠ 0 ∧ s.host.wrts.length < 32768 ∧ s.host.wrts.length + (s.entriesOf q.sqid (slice sqe 0 64) ranges).length ≤ 32768)) →
    (s.tagFor k q.sqid tg = true) →
    ((List.range (s.entriesOf q.sqid (slice sqe 0 64) ranges).length).all (fun j => (s.wrt ((e + j) % 32768)).isNone) = true) →
    (s.fetchLimit = none) →
    (s.check k q.sqid (slice sqe 0 64) ranges = some st) →
    Runs (.submissionFetch k q tg e sqe ranges) s fun t =>
      (t.tag tg).map (fun y => (y.ctrl, y.sqid, y.sqe, y.fseq, y.st)) = some (k.val, q.sqid, slice sqe 0 64, s.host.fseq + 1, .completing) ∧
      t.host.wrts = s.host.wrts) ∧
  (∀ (s : State) (k : Fin 64) (q : ReadyQueue) (tg : TagNo) (e : WrtNo) (sqe : List Byte) (ranges : List (Nat × Nat)), s.Wf →
    (s.arbitrate ((k.val, q.sqid) :: q.others) = none) →
    Runs (.submissionFetch k q tg e sqe ranges) s fun t =>
      t = s) ∧
  (∀ (s : State), s.Wf →
    (s.canResume = true) →
    Runs (.fetchResume) s fun t =>
      t.flag NVME_STAT_FETCH_STALLED = false) ∧
  (∀ (s : State) (tg : TagNo) (x : Tag), s.Wf →
    (s.host.notices = []) →
    (s.tag tg = some x) →
    (x.st = .fetched) →
    (s.flag TAG_CTL_EN = true) →
    (s.tdRoom = true) →
    (s.get LADDER_STAT_RUNG = 0) →
    (s.ready x = true) →
    (s.inTurn x = true) →
    (x.need = 0) →
    (x.isRead = true → (s.readBuffers tg x).1.need = 0) →
    Runs (.tagDispatch tg) s fun t =>
      (t.tag tg).map (fun y => y.st) = some .dispatched ∧
      t.num TD_HEAD = (s.num TD_HEAD % s.tdLen + 1) % s.tdLen) ∧
  (∀ (s : State) (a : Nat) (r : List Byte) (x : Tag), s.Wf →
    (s.tcNext = some (a, r)) →
    (fieldLe r 2 1 = 1) →
    (s.tag (fieldLe r 0 2) = some x) →
    (x.st = .dispatched) →
    Runs (.tagMedia) s fun t =>
      (t.tag (fieldLe r 0 2)).map (fun y => y.st) = some .media ∧
      t.num TC_TAIL = (s.num TC_TAIL % s.tcLen + 1) % s.tcLen) ∧
  (∀ (s : State) (media : List (List Byte)) (a : Nat) (r : List Byte) (x : Tag), s.Wf →
    (s.tcNext = some (a, r)) →
    (fieldLe r 2 1 = 0) →
    (s.tag (fieldLe r 0 2) = some x) →
    (x.st = .dispatched ∨ x.st = .media) →
    (x.isWrite = true) →
    (s.mayComplete x = true ∨ fieldLe r 12 2 % 2048 ≠ 0) →
    Runs (.tagComplete media) s fun t =>
      (t.tag (fieldLe r 0 2)).map (fun y => (y.st, y.status)) = some (.completing, fieldLe r 12 2 % 32768) ∧
      t.num TC_TAIL = (s.num TC_TAIL % s.tcLen + 1) % s.tcLen) ∧
  (∀ (s : State) (media : List (List Byte)) (a : Nat) (r : List Byte) (x : Tag), s.Wf →
    (s.tcNext = some (a, r)) →
    (fieldLe r 2 1 = 0) →
    (s.tag (fieldLe r 0 2) = some x) →
    (x.st = .dispatched ∨ x.st = .media) →
    (x.isWrite = false) →
    (x.isRead = false ∨ fieldLe r 12 2 % 2048 ≠ 0) →
    Runs (.tagComplete media) s fun t =>
      (t.tag (fieldLe r 0 2)).map (fun y => (y.st, y.status, y.dw0, y.dw1)) = some (.completing, fieldLe r 12 2 % 32768, fieldLe r 4 4, fieldLe r 8 4)) ∧
  (∀ (s : State) (media : List (List Byte)) (a : Nat) (r : List Byte) (x : Tag), s.Wf →
    (s.tcNext = some (a, r)) →
    (fieldLe r 2 1 = 0) →
    (s.tag (fieldLe r 0 2) = some x) →
    (x.st = .dispatched ∨ x.st = .media) →
    (x.isWrite = true) →
    (s.mayComplete x = false) →
    (fieldLe r 12 2 % 2048 = 0) →
    Runs (.tagComplete media) s fun t =>
      t.tag (fieldLe r 0 2) = some x ∧
      bitOf (t.num tagErr.addr) 1 = true ∧
      t.num TC_TAIL = (s.num TC_TAIL % s.tcLen + 1) % s.tcLen) ∧
  (∀ (s : State) (tg : TagNo) (x : Tag), s.Wf →
    (risingFrom 0 s.host.tags = true) →
    (s.tag tg = some x) →
    (x.st = .completing) →
    (x.ctrl < 64) →
    (x.silent = false) →
    (s.host.stopped = false) →
    (s.abortWaits x = false) →
    Runs (.completionPost tg) s fun t =>
      t.tag tg = none ∧
      t.host.cqe.take 8 = toLe 4 x.dw0 ++ toLe 4 x.dw1 ∧
      fieldLe t.host.cqe 12 2 = sqCid x.sqe % 65536 ∧
      fieldLe t.host.cqe 14 2 / 2 = x.status % 32768) ∧
  (∀ (s : State) (tg : TagNo) (x : Tag) (i : Nat) (is : List Nat) (wr : Wrt), s.Wf →
    (s.tag tg = some x) →
    (x.st = .fetched) →
    (x.io = true) →
    (bringsData x.op = true) →
    (x.begun = false) →
    (x.wrts = i :: is) →
    (s.wrt i = some wr) →
    (s.flag CI_CTL_EN = false) →
    (s.firstHeld x = true) →
    (s.overDirty wr.count = false) →
    (s.restored = true) →
    Runs (.writeAdmit tg) s fun t =>
      (t.tag tg).map (fun y => (y.st, y.begun)) = some (.fetched, true) ∧
      (t.wrt i).map (fun y => y.held) = some wr.held) ∧
  (∀ (s : State) (e : WrtNo) (data : List Byte) (md : List Byte) (wr : Wrt) (tg : Nat) (x : Tag), s.Wf →
    (s.wrt e = some wr) →
    (s.writerOf e = some (tg, x)) →
    ((s.ns wr.ns).piType = 0) →
    ((s.ns wr.ns).ext = false) →
    (wr.held = false) →
    (wr.kind = .write) →
    (wr.count = 1) →
    (wr.bufs.length = 1) →
    (s.host.stopped = false) →
    (s.flag CI_CTL_EN = false) →
    (s.marks = []) →
    (s.lines = []) →
    (s.victims = []) →
    (s.flag SC_CTL_EN = false) →
    (handleIndex (wr.bufs.getD 0 0) < 0xF0000) →
    Runs (.writeDataArrive e data md) s fun t =>
      (t.wrt e).map (fun y => (y.held, y.bufs, y.md)) = some (true, wr.bufs, slice (slice (slice md 0 (fmtMeta (s.ns wr.ns).fmt)) 0 (fmtMeta (s.ns wr.ns).fmt)) 0 64) ∧
      t.dram.readN 0 (handleIndex (wr.bufs.getD 0 0) * 0x1000) 4096 = slice data 0 4096) ∧
  (∀ (s : State) (v : Word) (wr : Wrt), s.Wf →
    (s.dieOn 0 = true) →
    (risingFrom 0 s.host.wrts = true) →
    (s.wrt (v.toNat % 32768) = some wr) →
    (wr.held = true) →
    Runs (.wrtRelWrite v) s fun t =>
      t.wrt (v.toNat % 32768) = none) ∧
  (∀ (s : State) (v : Word), s.Wf →
    (s.dieOn 0 = true) →
    ((s.wrt (v.toNat % 32768)).isNone = true) →
    Runs (.wrtRelWrite v) s fun t =>
      bitOf (t.num tagErr.addr) 0 = true ∧
      t.host = s.host) ∧
  (∀ (s : State) (tg : TagNo) (x : Tag), s.Wf →
    (s.tag tg = some x) →
    (x.st = .fetched) →
    (x.io = true) →
    (x.op = opFlush) →
    (x.begun = true) →
    (s.flushDone x = true) →
    Runs (.flushComplete tg) s fun t =>
      (t.tag tg).map (fun y => (y.st, y.status)) = some (.completing, 0)) ∧
  (∀ (s : State) (p : Fin 16) (tg : Nat) (x : Tag) (i : Nat) (is : List Nat) (wr : Wrt), s.Wf →
    (s.host.tags = [(tg, x)]) →
    (x.st = .fetched) →
    (x.isWrite = true) →
    (x.need ≠ 0) →
    (x.begun = true) →
    (s.get STK_HWPOOL_WDATA = p) →
    (s.get (POOL_STAT_FREE p) ≠ 0) →
    (x.wrts = i :: is) →
    (s.wrt i = some wr) →
    (s.flag CI_CTL_EN = false) →
    Runs (.hwAllocRetry p) s fun t =>
      (t.tag tg).map (fun y => (y.st, y.begun)) = some (.fetched, true) ∧
      (t.wrt i).map (fun y => decide (wr.bufs.length ≤ y.bufs.length)) = some true)

/-- In every well-formed state with the command in service in its tag: CREATE of an I/O queue that is allowed adds it to
the controller's list, a submission queue with its priority class, DELETE takes it from the list, and both complete
with success; a completion queue identifier above the grant fails; Set Features takes the value of features 01h, 04h,
08h, 09h, 0Ah and 0Bh, the host identifier and, without power-loss protection, the Volatile Write Cache; the first
Number of Queues of a PF fixes its grant; Get Features answers the current value of a feature; an asynchronous event
request waits, or completes with the first event that waits; Abort of a Fetched command that holds nothing aborts it
and says so, and one that names no command says that it aborted none. -/
def Obligations.Admin_commands_of_queues_and_features : Prop :=
  (∀ (s : State) (tg : TagNo) (x : Tag), s.Wf →
    (s.tag tg = some x) →
    (x.sqid = 0) →
    (x.op = 0x05) →
    (x.st = .dispatched) →
    (x.acts < 64) →
    (x.dw 10 % 65536 ≠ 0) →
    (x.dw 10 % 65536 ≤ (s.ctrl x.acts).grant) →
    ((s.ctrl x.acts).cqs.any (fun q => decide (q.qid = x.dw 10 % 65536)) = false) →
    (x.dw 10 / 65536 ≠ 0) →
    (x.dw 10 / 65536 ≤ 4095) →
    (bitOf (x.dw 11) 0 = true) →
    (x.dw 11 / 65536 < s.vectors x.acts) →
    Runs (.createIoCq tg) s fun t =>
      (t.ctrl x.acts).cqs = (s.ctrl x.acts).cqs ++ [⟨x.dw 10 % 65536, x.dw 10 / 65536 + 1, x.dw 11 / 65536, 0⟩] ∧
      (t.tag tg).map (fun y => (y.st, y.status)) = some (.completing, 0)) ∧
  (∀ (s : State) (tg : TagNo) (x : Tag), s.Wf →
    (s.tag tg = some x) →
    (x.sqid = 0) →
    (x.op = 0x05) →
    (x.st = .dispatched) →
    ((s.ctrl x.acts).grant < x.dw 10 % 65536) →
    Runs (.createIoCq tg) s fun t =>
      t.host.ctrls = s.host.ctrls ∧
      (t.tag tg).map (fun y => (y.st, y.status % 16384)) = some (.completing, 0x101)) ∧
  (∀ (s : State) (tg : TagNo) (x : Tag), s.Wf →
    (s.tag tg = some x) →
    (x.sqid = 0) →
    (x.op = 0x01) →
    (x.st = .dispatched) →
    (x.acts < 64) →
    (x.dw 10 % 65536 ≠ 0) →
    (x.dw 10 % 65536 ≤ (s.ctrl x.acts).grant) →
    ((s.ctrl x.acts).sqs.any (fun q => decide (q.qid = x.dw 10 % 65536)) = false) →
    (x.dw 11 / 65536 ≠ 0) →
    ((s.ctrl x.acts).cqs.any (fun q => decide (q.qid = x.dw 11 / 65536)) = true) →
    (x.dw 10 / 65536 ≠ 0) →
    (x.dw 10 / 65536 ≤ 4095) →
    (bitOf (x.dw 11) 0 = true) →
    Runs (.createIoSq tg) s fun t =>
      (t.ctrl x.acts).sqs = (s.ctrl x.acts).sqs ++ [⟨x.dw 10 % 65536, x.dw 10 / 65536 + 1, x.dw 11 / 65536, bitsOf (x.dw 11) 2 1⟩] ∧
      (t.tag tg).map (fun y => (y.st, y.status)) = some (.completing, 0)) ∧
  (∀ (s : State) (tg : TagNo) (x : Tag), s.Wf →
    (s.tag tg = some x) →
    (x.sqid = 0) →
    (x.op = 0x00) →
    (x.st = .dispatched) →
    (x.acts < 64) →
    ((s.ctrl x.acts).sqs.any (fun q => decide (q.qid = x.dw 10 % 65536)) = true) →
    Runs (.deleteIoSq tg) s fun t =>
      (t.ctrl x.acts).sqs = (s.ctrl x.acts).sqs.filter (fun q => decide (q.qid ≠ x.dw 10 % 65536)) ∧
      (t.tag tg).map (fun y => (y.st, y.status)) = some (.completing, 0)) ∧
  (∀ (s : State) (tg : TagNo) (x : Tag), s.Wf →
    (s.tag tg = some x) →
    (x.sqid = 0) →
    (x.op = 0x04) →
    (x.st = .dispatched) →
    (x.acts < 64) →
    ((s.ctrl x.acts).cqs.any (fun q => decide (q.qid = x.dw 10 % 65536)) = true) →
    ((s.ctrl x.acts).sqs.any (fun q => decide (q.link = x.dw 10 % 65536)) = false) →
    Runs (.deleteIoCq tg) s fun t =>
      (t.ctrl x.acts).cqs = (s.ctrl x.acts).cqs.filter (fun q => decide (q.qid ≠ x.dw 10 % 65536)) ∧
      (t.tag tg).map (fun y => (y.st, y.status)) = some (.completing, 0)) ∧
  (∀ (s : State) (tg : TagNo) (x : Tag), s.Wf →
    (s.tag tg = some x) →
    (x.sqid = 0) →
    (x.op = 0x09) →
    (x.st = .dispatched) →
    (x.acts < 64) →
    (x.dw 10 % 256 = 7) →
    ((s.ctrl x.acts).granted = false) →
    ((s.function x.acts).2 = 0) →
    (x.dw 11 % 65536 ≠ 65535) →
    (x.dw 11 / 65536 ≠ 65535) →
    (1 ≤ s.imgNat Image.pfQpReserve) →
    Runs (.setFeaturesNumberOfQueues tg) s fun t =>
      (t.ctrl x.acts).granted = true ∧
      (t.ctrl x.acts).grant = min (max (x.dw 11 % 65536) (x.dw 11 / 65536) + 1) (s.imgNat Image.pfQpReserve + s.poolFreeQp) ∧
      (t.tag tg).map (fun y => (y.st, y.status, y.dw0)) = some (.completing, 0, ((t.ctrl x.acts).grant - 1) * 65537)) ∧
  (∀ (s : State) (tg : TagNo) (x : Tag), s.Wf →
    (s.tag tg = some x) →
    (x.sqid = 0) →
    (x.op = 0x09) →
    (x.st = .dispatched) →
    (x.dw 10 % 256 = 6) →
    (s.imgBool Image.plpEnable = false) →
    Runs (.setFeaturesVolatileWriteCache tg) s fun t =>
      t.host.vwc = bitOf (x.dw 11) 0 ∧
      (t.tag tg).map (fun y => (y.st, y.status)) = some (.completing, 0)) ∧
  (∀ (s : State) (tg : TagNo) (x : Tag) (data : List Byte), s.Wf →
    (s.tag tg = some x) →
    (x.sqid = 0) →
    (x.op = 0x09) →
    (x.st = .dispatched) →
    (x.acts < 64) →
    ([0x01, 0x04, 0x08, 0x09, 0x0A, 0x0B].contains (x.dw 10 % 256) = true) →
    (featOk x = true) →
    (bitOf (x.dw 10) 31 = false) →
    Runs (.setFeatures tg data) s fun t =>
      look (featKey x) (t.ctrl x.acts).feats = some (x.dw 11) ∧
      (t.tag tg).map (fun y => (y.st, y.status)) = some (.completing, 0)) ∧
  (∀ (s : State) (tg : TagNo) (x : Tag) (data : List Byte), s.Wf →
    (s.tag tg = some x) →
    (x.sqid = 0) →
    (x.op = 0x09) →
    (x.st = .dispatched) →
    (x.acts < 64) →
    (x.dw 10 % 256 = 0x81) →
    (bitOf (x.dw 10) 31 = false) →
    (bitOf (x.dw 11) 0 = true) →
    Runs (.setFeatures tg data) s fun t =>
      (t.ctrl x.acts).hostId = leNat (slice data 0 16) ∧
      (t.tag tg).map (fun y => (y.st, y.status)) = some (.completing, 0)) ∧
  (∀ (s : State) (tg : TagNo) (x : Tag), s.Wf →
    (s.tag tg = some x) →
    (x.sqid = 0) →
    (x.op = 0x0A) →
    (x.st = .dispatched) →
    ((plainFeatures ++ [0x02, 0x06, 0x07]).contains (x.dw 10 % 256) = true) →
    (x.dw 10 % 256 ≠ 0x81) →
    (x.dw 10 % 256 = 0x06 → s.imgBool Image.plpEnable = false) →
    (bitsOf (x.dw 10) 10 8 = 0) →
    Runs (.getFeatures tg) s fun t =>
      (t.tag tg).map (fun y => (y.st, y.status, y.dw0)) = some (.completing, 0, s.featNow x % 2 ^ 32) ∧
      t.host.ctrls = s.host.ctrls) ∧
  (∀ (s : State) (tg : TagNo) (x : Tag), s.Wf →
    (s.tag tg = some x) →
    (x.sqid = 0) →
    (x.op = 0x0C) →
    (x.st = .dispatched) →
    (x.acts < 64) →
    ((s.ctrl x.acts).aers.contains tg.val = false) →
    ((s.ctrl x.acts).aers.length < 8) →
    ((s.ctrl x.acts).events = []) →
    Runs (.asynchronousEventRequest tg) s fun t =>
      (t.ctrl x.acts).aers = (s.ctrl x.acts).aers ++ [tg.val] ∧
      t.tag tg = some x) ∧
  (∀ (s : State) (tg : TagNo) (x : Tag) (e : Nat) (rest : List Nat), s.Wf →
    (s.tag tg = some x) →
    (x.sqid = 0) →
    (x.op = 0x0C) →
    (x.st = .dispatched) →
    (x.acts < 64) →
    ((s.ctrl x.acts).aers.contains tg.val = false) →
    ((s.ctrl x.acts).aers.length < 8) →
    ((s.ctrl x.acts).events = e :: rest) →
    Runs (.asynchronousEventRequest tg) s fun t =>
      (t.ctrl x.acts).events = rest ∧
      (t.tag tg).map (fun y => (y.st, y.status, y.dw0)) = some (.completing, 0, e)) ∧
  (∀ (s : State) (tg : TagNo) (x : Tag) (u : Nat) (y : Tag), s.Wf →
    (s.tag tg = some x) →
    (x.st = .fetched) →
    (x.sqid = 0) →
    (x.op = 0x08) →
    (s.findCmd x.ctrl (x.dw 10 % 65536) (x.dw 10 / 65536) tg = some (u, y)) →
    (y.st = .fetched) →
    (y.wrts = []) →
    (y.bufs = []) →
    Runs (.nvmeAbort tg) s fun t =>
      (t.tag tg).map (fun z => (z.st, z.status, z.dw0)) = some (.completing, 0, 0) ∧
      (t.tag u).map (fun z => (z.st, z.status)) = some (.completing, stAborted) ∧
      t.num ABORTED = min (s.num ABORTED + 1) 0xFFFFFFFF) ∧
  (∀ (s : State) (tg : TagNo) (x : Tag), s.Wf →
    (s.tag tg = some x) →
    (x.st = .fetched) →
    (x.sqid = 0) →
    (x.op = 0x08) →
    (s.findCmd x.ctrl (x.dw 10 % 65536) (x.dw 10 / 65536) tg = none) →
    Runs (.nvmeAbort tg) s fun t =>
      (t.tag tg).map (fun z => (z.st, z.status, z.dw0)) = some (.completing, 0, 1) ∧
      t.num NOT_ABORTED = min (s.num NOT_ABORTED + 1) 0xFFFFFFFF)

/-- In every well-formed state with the host's command in service in its tag: a log page the part has is given as far as
it is asked for and the command completes with success, page C1h at offset 0 taking a fresh snapshot; Identify gives
the structure that the model's identify names for its CNS, of a controller one of 4,096 bytes with its identifier and
version 2.0, and of a CNS it does not list fails; the Inventory command gives the current build; Security Send of a
drive-maker protocol keeps its data, and of SPDM keeps the response for Security Receive, which gives it, and gives
the list of protocols; the power state a function sets is kept; Format NVM of every namespace, with none formatting,
no reservation in its way and room in the map journal, leaves each namespace there is formatting, with its new format,
and its command with drive firmware. -/
def Obligations.Admin_commands_that_give_or_take_data : Prop :=
  (∀ (s : State) (tg : TagNo) (x : Tag) (d : List Byte), s.Wf →
    (s.tag tg = some x) →
    (x.ctrl ≠ 0xFFFF) →
    (x.sqid = 0) →
    (x.op = 0x02) →
    (x.st = .dispatched) →
    (x.dw 10 % 256 ≠ 0xC0) →
    (x.dw 10 % 256 ≠ 0xC1) →
    ((s.logPage x).bind (fun r => pageSlice x r.1) = some d) →
    Runs (.getLogPage tg) s fun t =>
      t.host.out = d ∧
      (t.tag tg).map (fun y => (y.st, y.status)) = some (.completing, 0)) ∧
  (∀ (s : State) (tg : TagNo) (x : Tag) (d : List Byte), s.Wf →
    (s.tag tg = some x) →
    (x.ctrl ≠ 0xFFFF) →
    (x.sqid = 0) →
    (x.op = 0x02) →
    (x.st = .dispatched) →
    (x.dw 10 % 256 = 0xC0) →
    ((s.colophonPage (bitsOf (x.dw 10) 14 8)).bind (fun p => pageSlice x p) = some d) →
    Runs (.getLogColophon tg) s fun t =>
      t.host.out = d ∧
      (t.tag tg).map (fun y => (y.st, y.status)) = some (.completing, 0)) ∧
  (∀ (s : State) (tg : TagNo) (x : Tag) (d : List Byte), s.Wf →
    (s.tag tg = some x) →
    (x.ctrl ≠ 0xFFFF) →
    (x.sqid = 0) →
    (x.op = 0x02) →
    (x.st = .dispatched) →
    (x.dw 10 % 256 = 0xC1) →
    (x.dw 12 = 0) →
    (x.dw 13 = 0) →
    (pageSlice x s.logSnapshot = some d) →
    Runs (.getLogAccession tg) s fun t =>
      t.host.out = d ∧
      t.alog.snap = s.logSnapshot ∧
      (t.tag tg).map (fun y => (y.st, y.status)) = some (.completing, 0)) ∧
  (∀ (s : State) (tg : TagNo) (x : Tag) (d : List Byte), s.Wf →
    (s.tag tg = some x) →
    (x.ctrl ≠ 0xFFFF) →
    (x.sqid = 0) →
    (x.op = 0x06) →
    (x.st = .dispatched) →
    ((match s.identify x with | .ok r => some r.1 | .error _ => none) = some d) →
    Runs (.nvmeIdentify tg) s fun t =>
      t.host.out = d ∧
      (t.tag tg).map (fun y => (y.st, y.status)) = some (.completing, 0)) ∧
  (∀ (s : State) (tg : TagNo) (x : Tag), s.Wf →
    (s.tag tg = some x) →
    (x.sqid = 0) →
    (x.op = 0x06) →
    (x.st = .dispatched) →
    ([0x00, 0x01, 0x02, 0x03, 0x05, 0x06, 0x07, 0x08, 0x1C].contains (x.dw 10 % 256) = false) →
    Runs (.nvmeIdentify tg) s fun t =>
      (t.tag tg).map (fun y => (y.st, y.status % 16384)) = some (.completing, stField)) ∧
  (∀ (s : State) (tg : TagNo) (x : Tag), s.Wf →
    (s.tag tg = some x) →
    (x.ctrl ≠ 0xFFFF) →
    (x.sqid = 0) →
    (x.op = 0x06) →
    (x.st = .dispatched) →
    (x.dw 10 % 256 = 0x01) →
    Runs (.nvmeIdentify tg) s fun t =>
      fieldLe t.host.out 78 2 = x.acts % 65536 ∧
      fieldLe t.host.out 80 4 = 0x20000 ∧
      t.host.out.length = 4096 ∧
      (t.tag tg).map (fun y => (y.st, y.status)) = some (.completing, 0)) ∧
  (∀ (s : State) (tg : TagNo) (x : Tag), s.Wf →
    (s.tag tg = some x) →
    (x.ctrl ≠ 0xFFFF) →
    (x.sqid = 0) →
    (x.op = 0x06) →
    (x.st = .dispatched) →
    (x.dw 10 % 256 = 0x02) →
    Runs (.nvmeIdentify tg) s fun t =>
      t.host.out = listBytes 4 1024 (s.attached x.acts (sqNsid x.sqe) none) ∧
      (t.tag tg).map (fun y => (y.st, y.status)) = some (.completing, 0)) ∧
  (∀ (s : State) (tg : TagNo) (x : Tag), s.Wf →
    (s.tag tg = some x) →
    (x.ctrl ≠ 0xFFFF) →
    (x.sqid = 0) →
    (x.op = 0xC6) →
    (x.st = .fetched) →
    Runs (.inventoryCmd tg) s fun t =>
      t.host.out = s.invNow ∧
      (t.tag tg).map (fun y => (y.st, y.status)) = some (.completing, 0)) ∧
  (∀ (s : State) (tg : TagNo) (x : Tag) (data : List Byte), s.Wf →
    (s.tag tg = some x) →
    (x.sqid = 0) →
    (x.op = 0x81) →
    (x.st = .dispatched) →
    (0xF0 ≤ x.dw 10 / 0x1000000) →
    Runs (.securitySend tg data) s fun t =>
      t.host.sec = slice data 0 (x.dw 11) ∧
      (t.tag tg).map (fun y => (y.st, y.status)) = some (.completing, 0)) ∧
  (∀ (s : State) (tg : TagNo) (x : Tag) (data : List Byte), s.Wf →
    (s.tag tg = some x) →
    (x.sqid = 0) →
    (x.op = 0x81) →
    (x.st = .dispatched) →
    (x.dw 10 / 0x1000000 = 0xE8) →
    Runs (.securitySend tg data) s fun t =>
      t.host.secOut = (spdmRequest (slice data 0 (x.dw 11)) s).host.mgmt ∧
      t.host.mgmt = s.host.mgmt) ∧
  (∀ (s : State) (tg : TagNo) (x : Tag), s.Wf →
    (s.tag tg = some x) →
    (x.ctrl ≠ 0xFFFF) →
    (x.sqid = 0) →
    (x.op = 0x82) →
    (x.st = .dispatched) →
    (x.dw 10 / 0x1000000 = 0) →
    Runs (.securityReceive tg) s fun t =>
      t.host.out = slice ([0, 0, 0, 0, 0, 0, 0, 18, 0x00, 0xE8] ++ (List.range 16).map (fun i => BitVec.ofNat 8 (0xF0 + i))) 0 (x.dw 11) ∧
      (t.tag tg).map (fun y => (y.st, y.status)) = some (.completing, 0)) ∧
  (∀ (s : State) (tg : TagNo) (x : Tag), s.Wf →
    (s.tag tg = some x) →
    (x.ctrl ≠ 0xFFFF) →
    (x.sqid = 0) →
    (x.op = 0x82) →
    (x.st = .dispatched) →
    (x.dw 10 / 0x1000000 = 0xE8) →
    Runs (.securityReceive tg) s fun t =>
      t.host.out = slice s.host.secOut 0 (x.dw 11) ∧
      (t.tag tg).map (fun y => (y.st, y.status)) = some (.completing, 0)) ∧
  (∀ (s : State) (tg : TagNo) (x : Tag), s.Wf →
    (s.tag tg = some x) →
    (x.sqid = 0) →
    (x.op = 0x09) →
    (x.st = .dispatched) →
    (x.dw 10 % 256 = 0x02) →
    (bitOf (x.dw 10) 31 = false) →
    (x.dw 11 % 32 ≤ 4) →
    Runs (.setFeaturesPowerManagement tg) s fun t =>
      look x.acts t.host.powerOf = some (x.dw 11 % 32) ∧
      (t.tag tg).map (fun y => (y.st, y.status)) = some (.completing, 0)) ∧
  (∀ (s : State) (tg : TagNo) (x : Tag), s.Wf →
    (s.tag tg = some x) →
    (x.sqid = 0) →
    (x.op = 0x80) →
    (x.st = .dispatched) →
    (sqNsid x.sqe = 0xFFFFFFFF) →
    (x.dw 10 % 16 ≤ 3) →
    (bitsOf (x.dw 10) 7 5 = 0) →
    (bitsOf (x.dw 10) 11 9 ≤ 2) →
    (x.begun = false) →
    (s.formatRoom 0xFFFFFFFF = true) →
    ((List.range 16).all (fun i => !(s.ns i).formatting && !((s.ns i).conflict (s.ctrl x.acts).hostId opWrite)) = true) →
    Runs (.formatNvm tg) s fun t =>
      t.tag tg = some { x with begun := true } ∧
      (∀ i : Fin 16, (s.nsInfo i).isSome = true → (t.ns i).formatting = true ∧ (t.ns i).fmt = x.dw 10 % 16))

/-- In every well-formed state: a Write, Zone Append, Write Zeroes or Dataset Management drive firmware has ends with the
status of a failed medium, or, where the cache mode allows, with success, under the namespace's next CSEQ; in a
namespace with no protection information and separate metadata, a Read of one block from the media gives its data and
metadata, and without metadata a Compare of one tells whether it equals the host's and a Verify gives nothing; each
ends with the status of a failed medium; a Flush not yet begun completes at once in Protected mode and otherwise
records what it waits for. -/
def Obligations.Reads_writes_and_Flush_of_the_host : Prop :=
  (∀ (s : State) (tg : TagNo) (x : Tag) (e : MediaEnd), s.Wf →
    (s.tag tg = some x) →
    (x.io = true) →
    (x.op = opWrite) →
    (x.withFirmware = true) →
    (e ≠ .good) →
    Runs (.nvmeWrite tg e) s fun t =>
      (t.tag tg).map (fun y => (y.st, y.status)) = some (.completing, mediaStatus e)) ∧
  (∀ (s : State) (tg : TagNo) (x : Tag), s.Wf →
    (s.tag tg = some x) →
    (x.io = true) →
    (x.op = opWrite) →
    (x.withFirmware = true) →
    (s.mayComplete x = true) →
    (1 ≤ sqNsid x.sqe ∧ sqNsid x.sqe ≤ 16) →
    Runs (.nvmeWrite tg .good) s fun t =>
      (t.tag tg).map (fun y => (y.st, y.status)) = some (.completing, 0) ∧
      (t.ns (sqNsid x.sqe - 1)).cseq = (s.ns (sqNsid x.sqe - 1)).cseq + 1) ∧
  (∀ (s : State) (tg : TagNo) (x : Tag), s.Wf →
    (s.tag tg = some x) →
    (x.io = true) →
    (x.op = opAppend) →
    (x.withFirmware = true) →
    (s.mayComplete x = true) →
    (1 ≤ sqNsid x.sqe ∧ sqNsid x.sqe ≤ 16) →
    Runs (.zoneAppend tg .good) s fun t =>
      (t.tag tg).map (fun y => (y.st, y.status, y.dw0, y.dw1)) = some (.completing, 0, x.dw0, x.dw1) ∧
      (t.ns (sqNsid x.sqe - 1)).cseq = (s.ns (sqNsid x.sqe - 1)).cseq + 1) ∧
  (∀ (s : State) (tg : TagNo) (x : Tag), s.Wf →
    (s.tag tg = some x) →
    (x.io = true) →
    (x.op = opZeroes) →
    (x.withFirmware = true) →
    (s.mayComplete x = true) →
    (1 ≤ sqNsid x.sqe ∧ sqNsid x.sqe ≤ 16) →
    Runs (.writeZeroes tg .good) s fun t =>
      (t.tag tg).map (fun y => (y.st, y.status)) = some (.completing, 0) ∧
      (t.ns (sqNsid x.sqe - 1)).cseq = (s.ns (sqNsid x.sqe - 1)).cseq + 1) ∧
  (∀ (s : State) (tg : TagNo) (x : Tag), s.Wf →
    (s.tag tg = some x) →
    (x.io = true) →
    (x.op = opDsm) →
    (x.withFirmware = true) →
    (s.mayComplete x = true) →
    (1 ≤ sqNsid x.sqe ∧ sqNsid x.sqe ≤ 16) →
    Runs (.datasetManagement tg .good) s fun t =>
      (t.tag tg).map (fun y => (y.st, y.status)) = some (.completing, 0) ∧
      (t.ns (sqNsid x.sqe - 1)).cseq = (s.ns (sqNsid x.sqe - 1)).cseq + 1) ∧
  (∀ (s : State) (tg : TagNo) (x : Tag) (b : List Byte), s.Wf →
    (s.tag tg = some x) →
    (x.ctrl ≠ 0xFFFF) →
    (x.io = true) →
    (x.op = opRead) →
    (x.withFirmware = true) →
    (sqCount x.sqe = 1) →
    (x.hits = []) →
    (s.num ZONES = 0) →
    (s.flag CI_CTL_EN = false) →
    ((s.ns (sqNsid x.sqe - 1)).ext = false) →
    ((s.ns (sqNsid x.sqe - 1)).piType = 0) →
    Runs (.nvmeRead tg [b] .good) s fun t =>
      t.host.out = slice b 0 4096 ∧
      t.host.outMd = slice (slice b 4096 (fmtMeta (s.ns (sqNsid x.sqe - 1)).fmt)) 0 (fmtMeta (s.ns (sqNsid x.sqe - 1)).fmt) ∧
      (t.tag tg).map (fun y => (y.st, y.status)) = some (.completing, 0)) ∧
  (∀ (s : State) (tg : TagNo) (x : Tag) (media : List (List Byte)) (e : MediaEnd), s.Wf →
    (s.tag tg = some x) →
    (x.ctrl ≠ 0xFFFF) →
    (x.io = true) →
    (x.op = opRead) →
    (x.withFirmware = true) →
    (e ≠ .good) →
    Runs (.nvmeRead tg media e) s fun t =>
      t.host.out = s.host.out ∧
      (t.tag tg).map (fun y => (y.st, y.status)) = some (.completing, mediaStatus e)) ∧
  (∀ (s : State) (tg : TagNo) (x : Tag) (b : List Byte) (data : List Byte), s.Wf →
    (s.tag tg = some x) →
    (x.io = true) →
    (x.op = opCompare) →
    (x.withFirmware = true) →
    (sqCount x.sqe = 1) →
    (x.hits = []) →
    (s.num ZONES = 0) →
    (s.flag CI_CTL_EN = false) →
    (fmtMeta (s.ns (sqNsid x.sqe - 1)).fmt = 0) →
    ((s.ns (sqNsid x.sqe - 1)).piType = 0) →
    Runs (.nvmeCompare tg data [b] .good) s fun t =>
      (t.tag tg).map (fun y => (y.st, y.status)) = some (.completing, if slice b 0 4096 = slice data 0 4096 then 0 else stCompare)) ∧
  (∀ (s : State) (tg : TagNo) (x : Tag) (b : List Byte), s.Wf →
    (s.tag tg = some x) →
    (x.ctrl ≠ 0xFFFF) →
    (x.io = true) →
    (x.op = opVerify) →
    (x.withFirmware = true) →
    (sqCount x.sqe = 1) →
    (x.hits = []) →
    (s.num ZONES = 0) →
    (s.flag CI_CTL_EN = false) →
    (fmtMeta (s.ns (sqNsid x.sqe - 1)).fmt = 0) →
    ((s.ns (sqNsid x.sqe - 1)).piType = 0) →
    Runs (.nvmeVerify tg [b] .good) s fun t =>
      t.host.out = s.host.out ∧
      (t.tag tg).map (fun y => (y.st, y.status)) = some (.completing, 0)) ∧
  (∀ (s : State) (tg : TagNo) (x : Tag), s.Wf →
    (s.tag tg = some x) →
    (x.io = true) →
    (x.op = opFlush) →
    (x.st = .fetched) →
    (x.begun = false) →
    Runs (.nvmeFlush tg) s fun t =>
      (s.cacheMode = 0 → (t.tag tg).map (fun y => (y.st, y.status)) = some (.completing, 0)) ∧
      (s.cacheMode ≠ 0 → (t.tag tg).map (fun y => (y.st, y.begun, y.flush)) = some (.fetched, true, (flushNs x).map (fun i => (i, (s.ns i).cseq))))) ∧
  (∀ (s : State) (tg : TagNo) (x : Tag) (e : MediaEnd), s.Wf →
    (s.tag tg = some x) →
    (x.io = true) →
    (x.op = opAppend) →
    (x.withFirmware = true) →
    (e ≠ .good) →
    Runs (.zoneAppend tg e) s fun t =>
      (t.tag tg).map (fun y => (y.st, y.status)) = some (.completing, mediaStatus e)) ∧
  (∀ (s : State) (tg : TagNo) (x : Tag) (e : MediaEnd), s.Wf →
    (s.tag tg = some x) →
    (x.io = true) →
    (x.op = opZeroes) →
    (x.withFirmware = true) →
    (e ≠ .good) →
    Runs (.writeZeroes tg e) s fun t =>
      (t.tag tg).map (fun y => (y.st, y.status)) = some (.completing, mediaStatus e)) ∧
  (∀ (s : State) (tg : TagNo) (x : Tag) (e : MediaEnd), s.Wf →
    (s.tag tg = some x) →
    (x.io = true) →
    (x.op = opDsm) →
    (x.withFirmware = true) →
    (e ≠ .good) →
    Runs (.datasetManagement tg e) s fun t =>
      (t.tag tg).map (fun y => (y.st, y.status)) = some (.completing, mediaStatus e)) ∧
  (∀ (s : State) (tg : TagNo) (x : Tag) (data : List Byte) (media : List (List Byte)) (e : MediaEnd), s.Wf →
    (s.tag tg = some x) →
    (x.io = true) →
    (x.op = opCompare) →
    (x.withFirmware = true) →
    (e ≠ .good) →
    Runs (.nvmeCompare tg data media e) s fun t =>
      (t.tag tg).map (fun y => (y.st, y.status)) = some (.completing, mediaStatus e)) ∧
  (∀ (s : State) (tg : TagNo) (x : Tag) (media : List (List Byte)) (e : MediaEnd), s.Wf →
    (s.tag tg = some x) →
    (x.io = true) →
    (x.op = opVerify) →
    (x.withFirmware = true) →
    (e ≠ .good) →
    Runs (.nvmeVerify tg media e) s fun t =>
      (t.tag tg).map (fun y => (y.st, y.status)) = some (.completing, mediaStatus e))

/-- In every well-formed state with the command with drive firmware: a host not registered registers its key, a registrant
acquires a free reservation with its type, its holder releases it, a report gives the generation first; Zone
Management Send of one zone completes with success in the state the zone action leaves, or with the status the action
refuses with, or waits with nothing changed for room in the map journal; a zone report of a zone the namespace has
completes with success and as many bytes as were asked for; zone management of a namespace the part does not have
completes with an invalid namespace. -/
def Obligations.Reservations_and_zones : Prop :=
  (∀ (s : State) (tg : TagNo) (x : Tag) (data : List Byte), s.Wf →
    (s.tag tg = some x) →
    (x.io = true) →
    (x.op = 0x0D) →
    (x.withFirmware = true) →
    (1 ≤ sqNsid x.sqe ∧ sqNsid x.sqe ≤ 16) →
    (x.dw 10 % 8 = 0) →
    (x.dw 10 / 0x40000000 = 0) →
    ((s.ns (sqNsid x.sqe - 1)).keyOf (s.hostOf x) = none) →
    ((s.ns (sqNsid x.sqe - 1)).regs.length < 64) →
    Runs (.reservationRegister tg data) s fun t =>
      (t.ns (sqNsid x.sqe - 1)).regs = (s.ns (sqNsid x.sqe - 1)).regs ++ [(s.hostOf x, fieldLe data 8 8)] ∧
      (t.ns (sqNsid x.sqe - 1)).resGen = (s.ns (sqNsid x.sqe - 1)).resGen + 1 ∧
      (t.tag tg).map (fun y => (y.st, y.status)) = some (.completing, 0)) ∧
  (∀ (s : State) (tg : TagNo) (x : Tag) (data : List Byte), s.Wf →
    (s.tag tg = some x) →
    (x.io = true) →
    (x.op = 0x11) →
    (x.withFirmware = true) →
    (1 ≤ sqNsid x.sqe ∧ sqNsid x.sqe ≤ 16) →
    (x.dw 10 % 8 = 0) →
    (bitOf (x.dw 10) 3 = false) →
    (1 ≤ x.dw 10 / 256 % 256 ∧ x.dw 10 / 256 % 256 ≤ 6) →
    ((s.ns (sqNsid x.sqe - 1)).keyOf (s.hostOf x) = some (fieldLe data 0 8)) →
    ((s.ns (sqNsid x.sqe - 1)).resType = 0) →
    Runs (.reservationAcquire tg data) s fun t =>
      (t.ns (sqNsid x.sqe - 1)).resType = x.dw 10 / 256 % 256 ∧
      (t.ns (sqNsid x.sqe - 1)).resHolder = s.hostOf x ∧
      (t.tag tg).map (fun y => (y.st, y.status)) = some (.completing, 0)) ∧
  (∀ (s : State) (tg : TagNo) (x : Tag) (data : List Byte), s.Wf →
    (s.tag tg = some x) →
    (x.io = true) →
    (x.op = 0x15) →
    (x.withFirmware = true) →
    (1 ≤ sqNsid x.sqe ∧ sqNsid x.sqe ≤ 16) →
    (x.dw 10 % 8 = 0) →
    (bitOf (x.dw 10) 3 = false) →
    ((s.ns (sqNsid x.sqe - 1)).keyOf (s.hostOf x) = some (fieldLe data 0 8)) →
    ((s.ns (sqNsid x.sqe - 1)).holds (s.hostOf x) = true) →
    ((s.ns (sqNsid x.sqe - 1)).resType = x.dw 10 / 256 % 256) →
    Runs (.reservationRelease tg data) s fun t =>
      (t.ns (sqNsid x.sqe - 1)).resType = 0 ∧
      (t.ns (sqNsid x.sqe - 1)).regs = (s.ns (sqNsid x.sqe - 1)).regs ∧
      (t.tag tg).map (fun y => (y.st, y.status)) = some (.completing, 0)) ∧
  (∀ (s : State) (tg : TagNo) (x : Tag), s.Wf →
    (s.tag tg = some x) →
    (x.ctrl ≠ 0xFFFF) →
    (x.io = true) →
    (x.op = 0x0E) →
    (x.withFirmware = true) →
    (bitOf (x.dw 11) 0 = true) →
    Runs (.reservationReport tg) s fun t =>
      t.host.out.take 4 = toLe 4 (s.ns (sqNsid x.sqe - 1)).resGen ∧
      (t.tag tg).map (fun y => (y.st, y.status)) = some (.completing, 0)) ∧
  (∀ (s : State) (tg : TagNo) (x : Tag), s.Wf →
    (s.tag tg = some x) →
    (x.io = true) →
    (x.op = 0x79) →
    (x.withFirmware = true) →
    (s.nsInfo (sqNsid x.sqe - 1) = none) →
    Runs (.zoneManagementSend tg) s fun t =>
      (t.tag tg).map (fun y => (y.st, y.status % 16384)) = some (.completing, stNamespace)) ∧
  (∀ (s : State) (tg : TagNo) (x : Tag), s.Wf →
    (s.tag tg = some x) →
    (x.io = true) →
    (x.op = 0x79) →
    (x.withFirmware = true) →
    (1 ≤ x.dw 13 % 256 ∧ x.dw 13 % 256 ≤ 5) →
    (bitOf (x.dw 13) 8 = false) →
    (sqSlba x.sqe % 65536 = 0) →
    Runs (.zoneManagementSend tg) s fun t =>
      (∀ z0 n zd u, s.nsInfo (sqNsid x.sqe - 1) = some (z0, n, zd) → sqSlba x.sqe / 65536 < n → zoneAction (x.dw 13 % 256) (sqNsid x.sqe - 1) (z0 + sqSlba x.sqe / 65536) s = .done u → t = u.okTag tg x) ∧
      (∀ z0 n zd e, s.nsInfo (sqNsid x.sqe - 1) = some (z0, n, zd) → sqSlba x.sqe / 65536 < n → zoneAction (x.dw 13 % 256) (sqNsid x.sqe - 1) (z0 + sqSlba x.sqe / 65536) s = .refused e → (t.tag tg).map (fun y => (y.st, y.status % 16384)) = some (.completing, e)) ∧
      (∀ z0 n zd, s.nsInfo (sqNsid x.sqe - 1) = some (z0, n, zd) → sqSlba x.sqe / 65536 < n → zoneAction (x.dw 13 % 256) (sqNsid x.sqe - 1) (z0 + sqSlba x.sqe / 65536) s = .waits → t = s)) ∧
  (∀ (s : State) (tg : TagNo) (x : Tag), s.Wf →
    (s.tag tg = some x) →
    (x.io = true) →
    (x.op = 0x7A) →
    (x.withFirmware = true) →
    (s.nsInfo (sqNsid x.sqe - 1) = none) →
    Runs (.zoneManagementReceive tg) s fun t =>
      (t.tag tg).map (fun y => (y.st, y.status % 16384)) = some (.completing, stNamespace)) ∧
  (∀ (s : State) (tg : TagNo) (x : Tag), s.Wf →
    (s.tag tg = some x) →
    (x.ctrl ≠ 0xFFFF) →
    (x.io = true) →
    (x.op = 0x7A) →
    (x.withFirmware = true) →
    (x.dw 13 % 256 ≤ 1) →
    (x.dw 13 / 256 % 256 ≤ 7) →
    Runs (.zoneManagementReceive tg) s fun t =>
      (t.tag tg).map (fun y => y.st) = some .completing ∧
      (∀ z0 n zd, s.nsInfo (sqNsid x.sqe - 1) = some (z0, n, zd) → sqSlba x.sqe / 65536 < n → (t.tag tg).map (fun y => y.status) = some 0 ∧ t.host.out.length = 4 * (x.dw 12 + 1)))

/-- In every well-formed state in which the endpoint is up, or for NVMe-MI answers in full: a good message of a supported
type to its address raises event 48, a Set Endpoint ID among them sets the identifier and is answered, any other
message to it event 49, each waking the part, and one for another address changes nothing; the controller list, the
subsystem's and the controllers' health and the blocks of the Basic Management Command at codes 0 and 8 are given with
the bytes named; a configuration item is given and a frequency kept; an admin command takes a management tag and acts
for its controller; NVMe-MI Reset disables every controller. SPDM goes from GET_VERSION over GET_CAPABILITIES to
NEGOTIATE_ALGORITHMS, which it records; digests, parts of a certificate chain, challenges and measurements are
answered only after them. The layouts are the standards', presumed (notes/assumptions/12.md). -/
def Obligations.The_management_endpoint_answers : Prop :=
  (∀ (s : State) (addr : Nat) (m : MctpMsg) (good : Bool), s.Wf →
    (addr ≠ s.get MGMT_STAT_ADDR) →
    Runs (.mctpMessage addr m good) s fun t =>
      t = s) ∧
  (∀ (s : State) (m : MctpMsg), s.Wf →
    (s.dieOn 5 = true) →
    (s.mgmtUp = true) →
    (m.type = 4 ∨ m.type = 5) →
    Runs (.mctpMessage (s.get MGMT_STAT_ADDR) m true) s fun t =>
      t = wakeUp 1 (s.raise 48)) ∧
  (∀ (s : State) (m : MctpMsg), s.Wf →
    (s.dieOn 5 = true) →
    (s.mgmtUp = true) →
    (m.type = 0) →
    Runs (.mctpMessage (s.get MGMT_STAT_ADDR) m true) s fun t =>
      t = wakeUp 1 (mctpControl m.body (s.raise 48))) ∧
  (∀ (s : State) (m : MctpMsg) (e : Nat), s.Wf →
    (s.dieOn 5 = true) →
    (s.mgmtUp = true) →
    (s.get LADDER_STAT_RUNG = 0) →
    (s.flag LADDER_STAT_MOVING = false) →
    (m.type = 0) →
    (8 ≤ e ∧ e < 255) →
    (m.body = [0x83, 1, 0, BitVec.ofNat 8 e]) →
    Runs (.mctpMessage (s.get MGMT_STAT_ADDR) m true) s fun t =>
      t.host.eid = e ∧
      t.host.mgmt = [0, 3, 1, 0, 0, BitVec.ofNat 8 e, 0]) ∧
  (∀ (s : State) (m : MctpMsg) (good : Bool), s.Wf →
    (s.dieOn 5 = true) →
    (s.mgmtUp = true) →
    (good = false ∨ [0, 4, 5].contains m.type = false) →
    Runs (.mctpMessage (s.get MGMT_STAT_ADDR) m good) s fun t =>
      t = wakeUp 1 (s.raise 49)) ∧
  (∀ (s : State) (port : Nat) (k : Nat), s.Wf →
    (s.mgmtFull = true) →
    Runs (.readNvmeMiDataStructure 2 port k) s fun t =>
      t.host.mgmt = miOk (toLe 2 (2 + 2 * (s.ctrlIds.filter (fun j => decide (k ≤ j))).length)) (toLe 2 (s.ctrlIds.filter (fun j => decide (k ≤ j))).length ++ ((s.ctrlIds.filter (fun j => decide (k ≤ j))).map (fun j => toLe 2 j)).flatten)) ∧
  (∀ (s : State), s.Wf →
    (s.mgmtFull = true) →
    Runs (.nvmSubsystemHealthStatusPoll) s fun t =>
      t.host.mgmt.length = 12 ∧
      fieldLe t.host.mgmt 4 1 = 32 * ofBool (decide (s.critical = 0)) + 16 + 8 * ofBool (s.flag (PORT_STAT_DL_ACTIVE 0)) + 4 * ofBool (s.flag (PORT_STAT_DL_ACTIVE 1))) ∧
  (∀ (s : State) (first : Nat) (count : Nat), s.Wf →
    (s.mgmtFull = true) →
    Runs (.controllerHealthStatusPoll first count) s fun t =>
      fieldLe t.host.mgmt 3 1 = ((s.ctrlIds.filter (fun j => decide (first ≤ j))).take (count % 256 + 1)).length ∧
      t.host.mgmt.length = 4 + 16 * ((s.ctrlIds.filter (fun j => decide (first ≤ j))).take (count % 256 + 1)).length) ∧
  (∀ (s : State) (item : Nat) (port : Nat) (v : Nat), s.Wf →
    (s.mgmtFull = true) →
    (s.miItem item port = some v) →
    Runs (.configurationGet item port) s fun t =>
      t.host.mgmt = miOk (toLe 3 v) []) ∧
  (∀ (s : State) (port : Nat) (v : Nat), s.Wf →
    (s.mgmtFull = true) →
    (1 ≤ v ∧ v ≤ 3) →
    Runs (.configurationSet 1 port v) s fun t =>
      t.host.mgmt = [0, 0, 0, 0] ∧
      t.miItem 1 port = some v) ∧
  (∀ (s : State) (k : Fin 64), s.Wf →
    (s.mgmtUp = true) →
    (s.get UPD_STAT_STATE ≠ 3) →
    (s.keeperRefused = false) →
    (s.romControl = false) →
    (s.ctrlExists k = true) →
    Runs (.nvmeMiReset) s fun t =>
      (t.ctrl k).en = false) ∧
  (∀ (s : State), s.Wf →
    (s.mgmtFull = true) →
    (s.get MGMT_STAT_BUS = 2) →
    Runs (.basicManagementCommand 0) s fun t =>
      fieldLe t.host.mgmt 0 1 = 6 ∧
      fieldLe t.host.mgmt 1 1 = 0x93 + 0x40 * ofBool (!(s.ctrlIds.any (fun j => (s.ctrl j).rdy))) + 0x20 * ofBool (decide (s.critical = 0)) + 8 * ofBool (s.flag (PORT_STAT_DL_ACTIVE 0)) + 4 * ofBool (s.flag (PORT_STAT_DL_ACTIVE 1)) ∧
      t.host.mgmt.length = 7) ∧
  (∀ (s : State), s.Wf →
    (s.mgmtFull = true) →
    (s.get MGMT_STAT_BUS = 2) →
    Runs (.basicManagementCommand 8) s fun t =>
      t.host.mgmt.take 3 = [22, BitVec.ofNat 8 (s.imgNat Image.vid / 256), BitVec.ofNat 8 (s.imgNat Image.vid)] ∧
      t.host.mgmt.length = 23) ∧
  (∀ (s : State) (k : Nat) (tg : TagNo) (q : List Byte), s.Wf →
    (s.mgmtUp = true) →
    (s.host.stopped = false) →
    (s.mgmtOp (slice q 0 64) = true) →
    (s.ctrlExists k = true) →
    (s.tagFor 0xFFFF 0 tg = true) →
    (s.check k 0 (slice q 0 64) [] = none) →
    Runs (.nvmeMiAdminCommand k tg q) s fun t =>
      (t.tag tg).map (fun y => (y.ctrl, y.acts, y.st, y.sqe)) = some (0xFFFF, k, .fetched, slice q 0 64)) ∧
  (∀ (s : State), s.Wf →
    (s.mgmtSpdm = true) →
    Runs (.getVersion) s fun t =>
      t.host.mgmt = [0x10, 0x04, 0, 0, 0, 2, 0, 0x12, 0, 0x13] ∧
      t.host.spdm = 1) ∧
  (∀ (s : State) (req : List Byte), s.Wf →
    (s.mgmtSpdm = true) →
    (s.host.spdm = 1) →
    (fieldLe req 0 1 = 0x12 ∨ fieldLe req 0 1 = 0x13) →
    Runs (.getCapabilities req) s fun t =>
      t.host.spdm = 2 ∧
      t.host.mgmt.take 12 = [BitVec.ofNat 8 (fieldLe req 0 1), 0x61, 0, 0, 0, 20, 0, 0, 0x36, 0, 2, 0] ∧
      t.host.vca = s.host.vca ++ req ++ t.host.mgmt) ∧
  (∀ (s : State) (req : List Byte), s.Wf →
    (s.mgmtSpdm = true) →
    (s.host.spdm = 1) →
    (fieldLe req 0 1 < 0x12) →
    Runs (.getCapabilities req) s fun t =>
      t.host.mgmt = [s.spdmVer, 0x7F, 0x41, 0]) ∧
  (∀ (s : State) (req : List Byte) (ext : List Byte), s.Wf →
    (s.mgmtSpdm = true) →
    (s.host.spdm = 2) →
    (bitOf (fieldLe req 8 4) 7 = true) →
    (bitOf (fieldLe req 12 4) 1 = true) →
    Runs (.negotiateAlgorithms req ext) s fun t =>
      t.host.spdm = 3 ∧
      t.host.mgmt = [s.spdmVer, 0x63, 0, 0] ++ toLe 2 36 ++ [1, 0] ++ toLe 4 4 ++ toLe 4 0x80 ++ toLe 4 2 ++ List.replicate 16 0 ∧
      t.host.vca = s.host.vca ++ req ++ ext ++ t.host.mgmt) ∧
  (∀ (s : State) (req : List Byte) (ext : List Byte), s.Wf →
    (s.mgmtSpdm = true) →
    (s.host.spdm = 2) →
    (bitOf (fieldLe req 8 4) 7 = false ∨ bitOf (fieldLe req 12 4) 1 = false) →
    Runs (.negotiateAlgorithms req ext) s fun t =>
      t.host.mgmt = [s.spdmVer, 0x7F, 1, 0] ∧
      t.host.spdm = 2) ∧
  (∀ (s : State), s.Wf →
    (s.mgmtSpdm = true) →
    (s.host.spdm = 3) →
    Runs (.getDigests) s fun t =>
      t.host.mgmt.take 4 = [s.spdmVer, 0x01, 0, BitVec.ofNat 8 s.certSlots] ∧
      t.host.spdm = 3) ∧
  (∀ (s : State) (slot : Nat) (offset : Nat) (len : Nat), s.Wf →
    (s.mgmtSpdm = true) →
    (s.host.spdm = 3) →
    (offset < (s.certChain slot).length) →
    Runs (.getCertificate slot offset len) s fun t =>
      t.host.mgmt.drop 8 = ((s.certChain slot).drop offset).take len) ∧
  (∀ (s : State) (slot : Nat) (summary : Nat) (nonce : List Byte), s.Wf →
    (s.mgmtSpdm = true) →
    (s.host.spdm = 3) →
    (s.certChain slot ≠ []) →
    Runs (.spdmChallenge slot summary nonce) s fun t =>
      t.host.mgmt.take 4 = [s.spdmVer, 0x03, BitVec.ofNat 8 slot, BitVec.ofNat 8 s.certSlots] ∧
      t.host.tb = []) ∧
  (∀ (s : State) (slot : Nat) (nonce : List Byte), s.Wf →
    (s.mgmtSpdm = true) →
    (s.host.spdm = 3) →
    Runs (.getMeasurements 0 slot false nonce) s fun t =>
      t.host.mgmt.take 4 = [s.spdmVer, 0x60, 18, BitVec.ofNat 8 slot]) ∧
  (∀ (s : State) (index : Nat) (slot : Nat) (nonce : List Byte) (b : List Byte), s.Wf →
    (s.mgmtSpdm = true) →
    (s.host.spdm = 3) →
    (index ≠ 0 ∧ index ≠ 0xFF) →
    (s.measBlock index = some b) →
    Runs (.getMeasurements index slot false nonce) s fun t =>
      t.host.mgmt.take 5 = [s.spdmVer, 0x60, 0, BitVec.ofNat 8 slot, 1] ∧
      (t.host.mgmt.drop 8).take b.length = b) ∧
  (∀ (s : State) (slot : Nat) (nonce : List Byte) (index : Nat) (signed : Bool), s.Wf →
    (s.mgmtSpdm = true) →
    (s.host.spdm ≠ 3) →
    Runs (.getMeasurements index slot signed nonce) s fun t =>
      t.host.mgmt = [s.spdmVer, 0x7F, 4, 0]) ∧
  (∀ (s : State), s.Wf →
    (s.mgmtSpdm = true) →
    (s.host.spdm ≠ 3) →
    Runs (.getDigests) s fun t =>
      t.host.mgmt = [s.spdmVer, 0x7F, 4, 0]) ∧
  (∀ (s : State) (slot : Nat) (offset : Nat) (len : Nat), s.Wf →
    (s.mgmtSpdm = true) →
    (s.host.spdm ≠ 3) →
    Runs (.getCertificate slot offset len) s fun t =>
      t.host.mgmt = [s.spdmVer, 0x7F, 4, 0]) ∧
  (∀ (s : State) (slot : Nat) (summary : Nat) (nonce : List Byte), s.Wf →
    (s.mgmtSpdm = true) →
    (s.host.spdm ≠ 3) →
    Runs (.spdmChallenge slot summary nonce) s fun t =>
      t.host.mgmt = [s.spdmVer, 0x7F, 4, 0])

/-- In every well-formed state: a build by the HUB flips the buffers, clears HUB_STALE, and the current buffer's header
holds INV_GEN; a refresh by the KPR flips them too and sets HUB_STALE 10 ms after the last build; a word written to
INV_NOTE_DATA lies at OFF, which advances by 4. -/
def Obligations.Inventory_builds_and_notes : Prop :=
  (∀ (s : State), s.Wf →
    (s.hubBuilds = true) →
    Runs (.inventoryRebuild) s fun t =>
      t.flag INV_STAT_HUB_STALE = false ∧
      t.get INV_STAT_CUR = 1 - s.get INV_STAT_CUR ∧
      fieldLe t.invNow 8 4 = t.num INV_GEN ∧
      t.invAt = s.mtime) ∧
  (∀ (s : State), s.Wf →
    (s.dieOn 5 = true) →
    (s.hubBuilds = false) →
    Runs (.inventoryRefresh) s fun t =>
      t.get INV_STAT_CUR = 1 - s.get INV_STAT_CUR ∧
      fieldLe t.invNow 8 4 = t.num INV_GEN ∧
      (10000 ≤ s.mtime - s.invAt → t.flag INV_STAT_HUB_STALE = true)) ∧
  (∀ (s : State) (v : Word), s.Wf →
    (s.dieOn 5 = true) →
    Runs (.invNoteDataWrite v) s fun t =>
      t.invNotes.readN 0 (s.get INV_NOTE_ADDR_OFF / 4 * 4) 4 = toLe 4 v.toNat ∧
      t.get INV_NOTE_ADDR_OFF = (s.get INV_NOTE_ADDR_OFF / 4 * 4 + 4) % 1024)

/-- In every well-formed state with the HUB answering: from stage 7 on a close sets CLOSED, 5 s later without one it is
closed late; a closed record that waits is signed into the other buffer, which becomes current, and uses one LMS
index, first reserving 256 where none is reserved, and not at all where the reservation cannot be stored. SIG_CMD sets
BUSY, REJ while BUSY; at its end BUSY is 0 and DONE 1, with the digest or extended measurement in place. -/
def Obligations.SIGNET_closes_signs_and_computes : Prop :=
  (∀ (s : State), s.Wf →
    (s.dieOn 0 = true) →
    (7 ≤ s.get BOOT_STAT_STAGE) →
    (s.flag COLO_STAT_CLOSED = false) →
    Runs (.coloClose) s fun t =>
      t.flag COLO_STAT_CLOSED = true ∧
      t.get BOOT_STAT_STAGE = (if s.get BOOT_STAT_STAGE = 7 then 8 else s.get BOOT_STAT_STAGE) ∧
      t.sig.due = 0 :: s.sig.due) ∧
  (∀ (s : State), s.Wf →
    (s.passed s.sig.stage7 5000000 = true) →
    (s.flag COLO_STAT_CLOSED = false) →
    Runs (.coloLateClose) s fun t =>
      t.flag COLO_STAT_CLOSED = true ∧
      t.flag COLO_STAT_LATE_CLOSE = true) ∧
  (∀ (s : State), s.Wf →
    (s.dieOn 0 = true) →
    (s.flag COLO_STAT_TREE_READY = false) →
    Runs (.lmsTreeGenerate) s fun t =>
      t.flag COLO_STAT_TREE_READY = true) ∧
  (∀ (s : State) (reason : Nat) (rest : List Nat) (stored : Bool), s.Wf →
    (s.dieOn 0 = true) →
    (s.sig.due = reason :: rest) →
    (s.flag COLO_STAT_CLOSED = true) →
    (s.num LMS_NEXT < 2 ^ 30) →
    (s.flag COLO_STAT_LMS_EXH = false) →
    (s.flag COLO_STAT_TREE_READY = true) →
    (s.sig.resEnd ≠ 0) →
    (s.num LMS_NEXT ≠ s.sig.resEnd) →
    Runs (.colophonSign stored) s fun t =>
      t.num LMS_NEXT = (s.num LMS_NEXT + 1) % 2 ^ 30 ∧
      t.get COLO_STAT_CUR = 1 - s.get COLO_STAT_CUR ∧
      t.flag COLO_STAT_SIGNED = true ∧
      t.sig.due = rest ∧
      (t.currentRecord.take (s.recordBody reason (s.num LMS_NEXT)).length) = s.recordBody reason (s.num LMS_NEXT)) ∧
  (∀ (s : State) (reason : Nat) (rest : List Nat), s.Wf →
    (s.dieOn 0 = true) →
    (s.sig.due = reason :: rest) →
    (s.flag COLO_STAT_CLOSED = true) →
    (s.num LMS_NEXT < 2 ^ 30) →
    (s.flag COLO_STAT_LMS_EXH = false) →
    (s.flag COLO_STAT_TREE_READY = true) →
    (s.sig.resEnd = 0 ∨ s.num LMS_NEXT = s.sig.resEnd) →
    Runs (.colophonSign true) s fun t =>
      t.num LMS_NEXT = (s.num LMS_NEXT + 1) % 2 ^ 30 ∧
      t.sig.resEnd = s.num LMS_NEXT + 256 ∧
      t.sig.due = rest) ∧
  (∀ (s : State) (reason : Nat) (rest : List Nat), s.Wf →
    (s.dieOn 0 = true) →
    (s.sig.due = reason :: rest) →
    (s.flag COLO_STAT_CLOSED = true) →
    (s.num LMS_NEXT < 2 ^ 30) →
    (s.flag COLO_STAT_LMS_EXH = false) →
    (s.flag COLO_STAT_TREE_READY = true) →
    (s.sig.resEnd = 0 ∨ s.num LMS_NEXT = s.sig.resEnd) →
    Runs (.colophonSign false) s fun t =>
      t.num LMS_NEXT = s.num LMS_NEXT ∧
      t.sig.records = s.sig.records ∧
      bitOf (t.num sigErr.addr) 0 = true) ∧
  (∀ (s : State) (reason : Nat) (rest : List Nat) (stored : Bool), s.Wf →
    (s.dieOn 0 = true) →
    (s.sig.due = reason :: rest) →
    (s.flag COLO_STAT_CLOSED = true) →
    (s.flag COLO_STAT_LMS_EXH = true) →
    Runs (.colophonSign stored) s fun t =>
      t.num LMS_NEXT = s.num LMS_NEXT ∧
      t.sig.due = rest ∧
      t.flag COLO_STAT_SIGNED = true ∧
      (t.currentRecord.drop ((s.recordBody reason (2 ^ 30)).length + 96)) = List.replicate 5396 0) ∧
  (∀ (s : State), s.Wf →
    (s.dieOn 0 = true) →
    (s.flag SIG_STAT_BUSY = false) →
    Runs (.sigSha256) s fun t =>
      t.flag SIG_STAT_BUSY = true ∧
      t.sig.job = some 1) ∧
  (∀ (s : State), s.Wf →
    (s.dieOn 0 = true) →
    (s.flag SIG_STAT_BUSY = false) →
    Runs (.sigSha384) s fun t =>
      t.flag SIG_STAT_BUSY = true ∧
      t.sig.job = some 2) ∧
  (∀ (s : State), s.Wf →
    (s.dieOn 0 = true) →
    (s.flag SIG_STAT_BUSY = false) →
    Runs (.sigVerify) s fun t =>
      t.flag SIG_STAT_BUSY = true ∧
      t.sig.job = some 3) ∧
  (∀ (s : State), s.Wf →
    (s.dieOn 0 = true) →
    (s.flag SIG_STAT_BUSY = false) →
    Runs (.sigExtend) s fun t =>
      t.flag SIG_STAT_BUSY = true ∧
      t.sig.job = some 4) ∧
  (∀ (s : State), s.Wf →
    (s.dieOn 0 = true) →
    (s.flag SIG_STAT_BUSY = false) →
    Runs (.sigRandom) s fun t =>
      t.flag SIG_STAT_BUSY = true ∧
      t.sig.job = some 5) ∧
  (∀ (s : State), s.Wf →
    (s.dieOn 0 = true) →
    (s.flag SIG_STAT_BUSY = true) →
    Runs (.sigVerify) s fun t =>
      t.flag SIG_STAT_REJ = true ∧
      t.sig = s.sig) ∧
  (∀ (s : State) (j : Nat), s.Wf →
    (s.dieOn 0 = true) →
    (s.sig.job = some j) →
    Runs (.sigOpDone) s fun t =>
      t.flag SIG_STAT_BUSY = false ∧
      t.flag SIG_STAT_DONE = true ∧
      t.sig.job = none) ∧
  (∀ (s : State), s.Wf →
    (s.dieOn 0 = true) →
    (s.sig.job = some 2) →
    (s.marks = []) →
    (inHubSram s.sigSrc (s.num SIG_LEN) = true) →
    (inHubSram s.sigDst 48 = true) →
    Runs (.sigOpDone) s fun t =>
      t.get SIG_STAT_RESULT = 0 ∧
      t.hsram.readN 0 (s.sigDst - sramBase) 48 = slice (Config.sha384 (s.hsram.readN 0 (s.sigSrc - sramBase) (s.num SIG_LEN))) 0 48) ∧
  (∀ (s : State) (slot : Nat), s.Wf →
    (s.dieOn 0 = true) →
    (s.sig.job = some 4) →
    (s.marks = []) →
    (s.flag COLO_STAT_CLOSED = false) →
    (inHubSram s.sigSrc 64 = true) →
    (fieldLe (s.hsram.readN 0 (s.sigSrc - sramBase) 64) 0 1 = slot) →
    (12 ≤ slot ∧ slot ≤ 15) →
    Runs (.sigOpDone) s fun t =>
      t.get SIG_STAT_RESULT = 0 ∧
      t.meas slot = slice (Config.sha384 (s.meas slot ++ slice (s.hsram.readN 0 (s.sigSrc - sramBase) 64) 16 48)) 0 48)

/-- In every well-formed state: power-on reset keeps the NV store, the flash and the OTP array and leaves no image in
force; the Keeper ROM counts the power cycle and starts an accepted Keeper; with the supplies good the HUB is released
at stage 2; a HUB boot takes an accepted slot into force and is Blank where both are refused; a die whose supplies did
not come stays Off; the key word of BOOT_CTL makes a full boot due, which starts with its cause; a Blank part writes a
staged image to its slot. -/
def Obligations.Boot_stages_and_full_boots : Prop :=
  (∀ (s : State), s.Wf →
    Runs (.powerOnReset) s fun t =>
      t.nvs = s.nvs ∧
      t.flash = s.flash ∧
      t.otp = s.otp ∧
      t.img = none ∧
      t.get BOOT_STAT_STAGE = 0 ∧
      t.num PCYCLE = s.nvsNat 0x18004 3 ∧
      t.pending = s.pending) ∧
  (∀ (s : State), s.Wf →
    (s.pins.test = false) →
    (s.get BOOT_STAT_STAGE = 0) →
    (s.get BOOT_STAT_BOOTS_IN_CYCLE = 0) →
    (s.supplyGood 0 = true) →
    (s.supplyGood 1 = true) →
    Runs (.keeperRomBoot) s fun t =>
      t.num PCYCLE = (s.nvsNat 0x18004 3 + 1) % 2 ^ 24 ∧
      t.get BOOT_STAT_BOOTS_IN_CYCLE = 1 ∧
      t.nvsNat 0x18004 3 = (s.nvsNat 0x18004 3 + 1) % 2 ^ 24 ∧
      (∀ i, s.setCheck 1 0xC000 (s.keeperCopy s.kprSel) = none → imageIn kdKeeper (s.keeperCopy s.kprSel) = some i → t.keeper = true ∧ t.get BOOT_STAT_STAGE = 1 ∧ t.get BOOT_STAT_KFW_COPY = s.kprSel)) ∧
  (∀ (s : State), s.Wf →
    (s.pins.test = false) →
    (s.keeper = true) →
    (s.get BOOT_STAT_STAGE = 1) →
    (s.hubSupplies = true) →
    Runs (.hubResetRelease) s fun t =>
      t.get BOOT_STAT_STAGE = 2) ∧
  (∀ (s : State) (good : Bool) (us : Nat), s.Wf →
    (s.pins.test = false) →
    (s.keeper = true) →
    (s.get BOOT_STAT_STAGE = 2) →
    Runs (.hubRomBoot good us) s fun t =>
      (∀ i k, s.siCheck (s.siSlot 0) = .inl i → s.siCheck (s.siSlot 1) = .inr k → t.img = some i) ∧
      (∀ i k, s.siCheck (s.siSlot 0) = .inr k → s.siCheck (s.siSlot 1) = .inl i → t.img = some i) ∧
      (∀ k j, s.siCheck (s.siSlot 0) = .inr k → s.siCheck (s.siSlot 1) = .inr j → t.img = none ∧ t.get MGMT_STAT_ADDR = 0x1D ∧ t.flag COLO_STAT_CLOSED = true)) ∧
  (∀ (s : State) (ch : Ch), s.Wf →
    (s.chWait.contains ch.val = true) →
    Runs (.chSupplyTimeout ch) s fun t =>
      t.chWait = s.chWait.erase ch ∧
      t.get (DIE_STAT_STATE (unitBase (ch + 1) 0)) = 0) ∧
  (∀ (s : State), s.Wf →
    (s.dieOn 5 = true) →
    (s.alog.fatalAt = none) →
    (s.bootRuns = false) →
    (s.bootDue = none) →
    Runs (.fullBootRequest 0x0E59B007) s fun t =>
      t.bootDue = some 1) ∧
  (∀ (s : State) (v : Word), s.Wf →
    (s.dieOn 5 = true) →
    (v ≠ 0x0E59B007) →
    Runs (.fullBootRequest v) s fun t =>
      t = s.answer .done) ∧
  (∀ (s : State) (cause : Nat), s.Wf →
    (s.bootDue = some cause) →
    (s.bootReady = true) →
    (cause < 8) →
    Runs (.fullBoot) s fun t =>
      t.get BOOT_STAT_STAGE = 1 ∧
      t.get BOOT_STAT_CAUSE = cause ∧
      t.bootDue = none ∧
      t.fatal = []) ∧
  (∀ (s : State) (tg : TagNo) (x : Tag) (bs : List Byte), s.Wf →
    (s.img = none) →
    (s.keeper = true) →
    (s.tag tg = some x) →
    (x.sqid = 0) →
    (x.op = 0x10) →
    (x.st = .fetched) →
    (s.staged = some (x.ctrl, bs)) →
    (bs.length ≤ 0x40000) →
    Runs (.blankImageDownload tg) s fun t =>
      t.flashBytes (slotOffset s.blankSlot) bs.length = bs ∧
      t.staged = none ∧
      (t.tag tg).map (fun y => (y.st, y.status)) = some (.completing, 0)) ∧
  (∀ (s : State) (tg : TagNo) (x : Tag) (bs : List Byte), s.Wf →
    (s.keeperRefused = true) →
    (s.flag BOOT_STAT_ROM_SERVICES = true) →
    (s.tag tg = some x) →
    (x.sqid = 0) →
    (x.op = 0x10) →
    (x.st = .fetched) →
    (s.staged = some (x.ctrl, bs)) →
    Runs (.keeperImageDownload tg) s fun t =>
      (t.tag tg).map (fun y => y.st) = some .completing ∧
      (s.setCheck 1 0xC000 bs = none → t.nvs.readN 0 0 0xC000 = slice bs 0 0xC000 ∧ t.staged = none ∧ (t.tag tg).map (fun y => y.status) = some 0) ∧
      (s.setCheck 1 0xC000 bs ≠ none → t.nvs = s.nvs))

/-- In every well-formed state: the first piece of a download is staged for its controller, a Commit of CA 0 starts its
WRITE; an operation of UPD_CMD on a target the table has sets BUSY and ends with DONE; ACTIVATE of a set that passes
its checks begins with the first die; a step's drain loads the die, its PASS goes on to the next die, and a FAIL or a
self-test that times out seals the part. -/
def Obligations.The_update_engine : Prop :=
  (∀ (s : State) (tg : TagNo) (x : Tag) (data : List Byte), s.Wf →
    (s.tag tg = some x) →
    (x.sqid = 0) →
    (x.op = 0x11) →
    (s.inService x = true) →
    (x.dw 11 = 0) →
    (newHeaders 0 (slice data 0 (4 * (x.dw 10 % 2 ^ 32 + 1))) = []) →
    Runs (.firmwareImageDownload tg data) s fun t =>
      t.staged = some (x.ctrl, slice data 0 (4 * (x.dw 10 % 2 ^ 32 + 1))) ∧
      (t.tag tg).map (fun y => (y.st, y.status)) = some (.completing, 0)) ∧
  (∀ (s : State) (tg : TagNo) (x : Tag) (bs : List Byte), s.Wf →
    (s.img.isSome = true) →
    (s.keeper = true) →
    (s.get UPD_STAT_STATE ≠ 3) →
    (s.flag UPD_STAT_BUSY = false) →
    (s.tag tg = some x) →
    (x.sqid = 0) →
    (x.op = 0x10) →
    (s.inService x = true) →
    (s.staged = some (x.ctrl, bs)) →
    (x.dw 10 / 8 % 8 = 0) →
    (x.dw 10 % 8 = 0) →
    ((s.writable (s.commitTarget 0)).isSome = true) →
    Runs (.firmwareCommit tg) s fun t =>
      t.flag UPD_STAT_BUSY = true ∧
      t.upd.job = some (upWrite, s.commitTarget 0) ∧
      t.upd.commit = some (tg.val, [])) ∧
  (∀ (s : State) (g : Fin 16), s.Wf →
    (s.dieOn 0 = true) →
    (s.flag UPD_STAT_BUSY = false) →
    (s.get UPD_STAT_STATE ≠ 3) →
    (updTarget upHdrchk g = true) →
    Runs (.updHdrchk g) s fun t =>
      t.flag UPD_STAT_BUSY = true ∧
      t.upd.job = some (upHdrchk, g.val)) ∧
  (∀ (s : State) (g : Fin 16), s.Wf →
    (s.dieOn 0 = true) →
    (s.flag UPD_STAT_BUSY = false) →
    (s.get UPD_STAT_STATE ≠ 3) →
    (updTarget upWrite g = true) →
    Runs (.updWrite g) s fun t =>
      t.flag UPD_STAT_BUSY = true ∧
      t.upd.job = some (upWrite, g.val)) ∧
  (∀ (s : State) (g : Fin 16), s.Wf →
    (s.dieOn 0 = true) →
    (s.flag UPD_STAT_BUSY = false) →
    (s.get UPD_STAT_STATE ≠ 3) →
    (updTarget upSelect g = true) →
    Runs (.updSelect g) s fun t =>
      t.flag UPD_STAT_BUSY = true ∧
      t.upd.job = some (upSelect, g.val)) ∧
  (∀ (s : State) (g : Fin 16), s.Wf →
    (s.dieOn 0 = true) →
    (s.flag UPD_STAT_BUSY = false) →
    (s.get UPD_STAT_STATE ≠ 3) →
    (8 ≤ g.val) →
    Runs (.updActivate g) s fun t =>
      (t.upd.act.isSome = true ∨ t.flag UPD_STAT_BUSY = false) ∧
      (∀ q d ds, s.halfPlace (g.val - 8) (!(s.runHalf (g.val - 8))) = some q → s.targetCheck 8 q.room (s.placeBytes q) = none → s.actSteps (g.val - 8) (imagesOf (s.placeBytes q)) = d :: ds → (List.range (ds.length + 1)).all (fun k => pairsOk peersOk (s.imagesAfter (g.val - 8) ((d :: ds).take (k + 1)))) = true → t.get UPD_STAT_STATE = 2 ∧ t.get UPD_STAT_DIE = d % 16 ∧ t.upd.act.map (fun a => (a.part, a.dies)) = some (g.val - 8, d :: ds))) ∧
  (∀ (s : State) (g : Fin 16), s.Wf →
    (s.dieOn 0 = true) →
    (s.flag UPD_STAT_BUSY = true) →
    Runs (.updWrite g) s fun t =>
      t.flag UPD_STAT_REJ = true ∧
      t.upd = s.upd) ∧
  (∀ (s : State) (flash : Bool) (op : Nat) (g : Nat), s.Wf →
    (s.dieOn 0 = true) →
    (s.upd.job = some (op, g)) →
    (s.upd.commit = none) →
    (op = upHdrchk ∨ op = upWrite ∨ op = upSelect) →
    (op = upHdrchk ∨ s.xsRuns = false) →
    Runs (.updOpDone flash) s fun t =>
      t.flag UPD_STAT_BUSY = false ∧
      t.flag UPD_STAT_DONE = true ∧
      t.upd.job = none) ∧
  (∀ (s : State) (flash : Bool) (op : Nat) (g : Nat), s.Wf →
    (s.dieOn 0 = true) →
    (s.upd.job = some (op, g)) →
    (op ≠ upHdrchk) →
    (s.xsRuns = true) →
    Runs (.updOpDone flash) s fun t =>
      t = s) ∧
  (∀ (s : State) (a : Activation) (d : Nat) (ds : List Nat), s.Wf →
    (s.upd.act = some a) →
    (a.dies = d :: ds) →
    (1 ≤ d ∧ d ≤ 4) →
    (a.loaded = false) →
    (s.isSealed = false) →
    (s.xsRuns = false) →
    (s.dieQuiet (d - 1) = true ∨ a.began + 50000 ≤ s.mtime) →
    Runs (.chStepDrain) s fun t =>
      t.upd.act.map (fun b => (b.loaded, b.started, b.dies)) = some (true, s.mtime, a.dies)) ∧
  (∀ (s : State) (a : Activation) (ds : List Nat), s.Wf →
    (s.upd.act = some a) →
    (a.dies = 0 :: ds) →
    (a.loaded = false) →
    (s.noTags = true) →
    (s.isSealed = false) →
    (s.xsRuns = false) →
    Runs (.hubStep) s fun t =>
      t.upd.act.map (fun b => (b.loaded, b.started, b.dies)) = some (true, s.mtime, a.dies)) ∧
  (∀ (s : State) (source : Fin 17) (v : Word) (a : Activation) (d : Nat), s.Wf →
    (s.dieOn 0 = true) →
    (v.toNat / 2 ^ 30 = 1) →
    (v.toNat % 8 = d) →
    ((if source.val < 16 then coreDie source.val else 5) = d) →
    (s.awaits = some d) →
    (s.upd.act = some a) →
    Runs (.updStWrite source v) s fun t =>
      t.upd.act.map (fun b => b.dies) = (if a.dies.tail = [] then none else some a.dies.tail)) ∧
  (∀ (s : State) (source : Fin 17) (v : Word) (d : Nat), s.Wf →
    (s.dieOn 0 = true) →
    (v.toNat / 2 ^ 30 = 2) →
    (v.toNat % 8 = d) →
    ((if source.val < 16 then coreDie source.val else 5) = d) →
    (s.awaits = some d ∨ (s.onTrial d).isSome = true) →
    Runs (.updStWrite source v) s fun t =>
      t.get UPD_STAT_STATE = 3 ∧
      t.isSealed = true ∧
      t.bootDue.isSome = true) ∧
  (∀ (s : State) (d : Nat), s.Wf →
    (s.awaits = some d) →
    (s.activationOver d = true) →
    Runs (.selftestTimeout) s fun t =>
      t.get UPD_STAT_STATE = 3 ∧
      t.isSealed = true ∧
      t.bootDue.isSome = true)

/-- In every well-formed state with the HUB answering: a write of 0E59_5EA1h to UPD_UNSEAL at debug level 2 leaves the
part not Sealed, every trial mark clear, and a full boot due, with CAUSE 6 where none was due already; any other
value, or any write at another level, changes nothing but the answer. -/
def Obligations.UPD_UNSEAL_restores_a_Sealed_part_at_level_2 : Prop :=
  (∀ (s : State), s.Wf →
    (s.dieOn 0 = true) →
    (s.get DBG_STAT_LEVEL = 2) →
    Runs (.updUnsealWrite 0x0E595EA1) s fun t =>
      t.isSealed = false ∧
      t.nvs.readN 0 0x18018 8 = List.replicate 8 0 ∧
      t.bootDue = some (s.bootDue.getD 6)) ∧
  (∀ (s : State) (v : Word), s.Wf →
    (s.dieOn 0 = true) →
    (v ≠ 0x0E595EA1 ∨ s.get DBG_STAT_LEVEL ≠ 2) →
    Runs (.updUnsealWrite v) s fun t =>
      t = s.answer .done)

/-- In every well-formed state with the die answering: a challenge names the unit, expires, and a token of it ends refused
with its code or with its level in force; DBG_CTL.LOCK ends the level. An allowed OTP bit is programmed and no other
changes, one not allowed is refused. A word drive firmware may write is stored when its write ends well, a closed one
sets PROT, a failed one leaves the old value, and a read answers the word; ADDR advances each time. -/
def Obligations.Debug_OTP_and_NV_store_accesses : Prop :=
  (∀ (s : State) (tap : Bool), s.Wf →
    (s.dieOn 0 = true) →
    Runs (.dbgChal tap) s fun t =>
      t.dbg.chal.map (fun e => (slice e.1 32 16, e.2)) = some (s.otpBytes 0 16, s.mtime)) ∧
  (∀ (s : State) (token : List Byte), s.Wf →
    (s.dieOn 0 = true) →
    (s.flag DBG_STAT_BUSY = false) →
    Runs (.dbgToken token) s fun t =>
      t.flag DBG_STAT_BUSY = true ∧
      t.dbg.token = some token) ∧
  (∀ (s : State), s.Wf →
    (s.dieOn 0 = true) →
    (s.flag DBG_STAT_BUSY = false) →
    (s.marks = []) →
    ((s.num DBG_ADDR_LO + 2 ^ 32 * (s.num DBG_ADDR_HI % 256)) % 64 = 0) →
    (inHubSram (s.num DBG_ADDR_LO + 2 ^ 32 * (s.num DBG_ADDR_HI % 256)) 5748 = true) →
    Runs (.dbgSubmit) s fun t =>
      t.flag DBG_STAT_BUSY = true ∧
      t.dbg.token = some (s.hsram.readN 0 (s.num DBG_ADDR_LO + 2 ^ 32 * (s.num DBG_ADDR_HI % 256) - sramBase) 5748)) ∧
  (∀ (s : State) (token : List Byte) (k : Nat), s.Wf →
    (s.dbg.token = some token) →
    (s.tokenCheck token = some k) →
    Runs (.tokenCheckDone) s fun t =>
      t.flag DBG_STAT_BUSY = false ∧
      t.flag DBG_STAT_REFUSED = true ∧
      t.get DBG_STAT_CODE = k % 256 ∧
      t.get DBG_STAT_LEVEL = s.get DBG_STAT_LEVEL ∧
      t.dbg = ⟨none, none⟩) ∧
  (∀ (s : State) (token : List Byte), s.Wf →
    (s.dbg.token = some token) →
    Runs (.tokenCheckDone) s fun t =>
      (s.tokenCheck token = none → t.get DBG_STAT_LEVEL = fieldLe (slice token 0 256) 6 1 % 4 ∧ t.get DBG_STAT_CODE = 0 ∧ t.sig.debugged = true) ∧
      t.flag DBG_STAT_BUSY = false ∧
      t.dbg = ⟨none, none⟩) ∧
  (∀ (s : State), s.Wf →
    Runs (.challengeExpire) s fun t =>
      t.dbg.chal = (if s.liveChal = none then none else s.dbg.chal) ∧
      t.dbg.token = s.dbg.token) ∧
  (∀ (s : State), s.Wf →
    (s.dieOn 0 = true) →
    Runs (.dbgLock) s fun t =>
      t.get DBG_STAT_LEVEL = 0) ∧
  (∀ (s : State) (v : Word), s.Wf →
    (s.dieOn 0 = true) →
    (s.flag OTP_STAT_BUSY = false) →
    (s.otpAllowed (bitsOf v.toNat 10 0) (bitsOf v.toNat 22 16) = true) →
    Runs (.otpProgWrite v) s fun t =>
      t.flag OTP_STAT_BUSY = true ∧
      t.otpJob = some (bitsOf v.toNat 10 0, bitsOf v.toNat 22 16)) ∧
  (∀ (s : State) (v : Word), s.Wf →
    (s.dieOn 0 = true) →
    (s.otpAllowed (bitsOf v.toNat 10 0) (bitsOf v.toNat 22 16) = false) →
    Runs (.otpProgWrite v) s fun t =>
      t.flag OTP_STAT_REFUSED = true ∧
      t.otpJob = s.otpJob ∧
      t.otp = s.otp) ∧
  (∀ (s : State) (a : Nat) (b : Nat), s.Wf →
    (s.otpJob = some (a, b)) →
    (b < 8) →
    Runs (.otpProgramDone) s fun t =>
      t.flag OTP_STAT_BUSY = false ∧
      t.otpBit a b = true ∧
      (∀ x i, (x, i) ≠ (a, b) → t.otpBit x i = s.otpBit x i)) ∧
  (∀ (s : State) (v : Word), s.Wf →
    (s.dieOn 5 = true) →
    (s.flag NVS_STAT_BUSY = false) →
    (nvsOpen s.nvsAddr = true) →
    Runs (.nvsDataWrite v) s fun t =>
      t.flag NVS_STAT_BUSY = true ∧
      t.nvsJob = some (s.nvsAddr, v) ∧
      t.get NVS_ADDR_WORD = (s.get NVS_ADDR_WORD + 1) % 65536) ∧
  (∀ (s : State) (v : Word), s.Wf →
    (s.dieOn 5 = true) →
    (s.flag NVS_STAT_BUSY = false) →
    (nvsOpen s.nvsAddr = false) →
    Runs (.nvsDataWrite v) s fun t =>
      bitOf (t.num nvsErr.addr) 0 = true ∧
      t.nvs = s.nvs ∧
      t.nvsJob = s.nvsJob ∧
      t.get NVS_ADDR_WORD = (s.get NVS_ADDR_WORD + 1) % 65536) ∧
  (∀ (s : State), s.Wf →
    (s.dieOn 5 = true) →
    (s.flag NVS_STAT_BUSY = false) →
    Runs (.nvsDataRead) s fun t =>
      t.resp = .data (s.nvsNat s.nvsAddr 4) ∧
      t.get NVS_ADDR_WORD = (s.get NVS_ADDR_WORD + 1) % 65536) ∧
  (∀ (s : State) (v : Word), s.Wf →
    (s.dieOn 5 = true) →
    (s.flag NVS_STAT_BUSY = true) →
    Runs (.nvsDataWrite v) s fun t =>
      t = { s with nvsWaits := s.nvsWaits ++ [some v], resp := .waits }) ∧
  (∀ (s : State), s.Wf →
    (s.dieOn 5 = true) →
    (s.flag NVS_STAT_BUSY = true) →
    Runs (.nvsDataRead) s fun t =>
      t = { s with nvsWaits := s.nvsWaits ++ [none], resp := .waits }) ∧
  (∀ (s : State) (a : Nat) (v : Word), s.Wf →
    (s.nvsJob = some (a, v)) →
    (s.nvsWaits = [none]) →
    Runs (.nvsWriteDone true) s fun t =>
      t.nvsNat a 4 = v.toNat ∧
      t.resp = .data (t.nvsNat s.nvsAddr 4) ∧
      t.nvsWaits = [] ∧
      t.get NVS_ADDR_WORD = (s.get NVS_ADDR_WORD + 1) % 65536) ∧
  (∀ (s : State) (a : Nat) (v : Word), s.Wf →
    (s.nvsJob = some (a, v)) →
    (s.nvsWaits = []) →
    Runs (.nvsWriteDone true) s fun t =>
      t.nvsNat a 4 = v.toNat ∧
      t.flag NVS_STAT_BUSY = false) ∧
  (∀ (s : State) (a : Nat) (v : Word), s.Wf →
    (s.nvsJob = some (a, v)) →
    (s.nvsWaits = []) →
    Runs (.nvsWriteDone false) s fun t =>
      t.nvs = s.nvs ∧
      bitOf (t.num nvsErr.addr) 1 = true ∧
      t.flag NVS_STAT_BUSY = false)

/-- In every well-formed state in which a core executes an instruction with nothing injected: an OP-IMM or OP result goes
to rd and the pc moves past the instruction, JAL links and jumps, a branch goes to its target exactly when it is
taken, an illegal instruction, ECALL and EBREAK enter machine mode at mtvec with mepc at the instruction and their
cause; a core with an interrupt to take enters its trap. RISC-V's own encodings are presumed
(notes/assumptions/13.md). -/
def Obligations.Core_instructions_and_traps : Prop :=
  (∀ (s : State) (k : CoreNo) (o : RvOp) (word : Bool) (rd : Nat) (rs1 : Nat) (imm : DWord) (len : Nat), s.Wf →
    (s.executes k (.opImm o word rd rs1 imm) len = true) →
    (1 ≤ rd ∧ rd ≤ 31) →
    Runs (.coreInstruction k) s fun t =>
      (t.coreOf k).reg rd = rvAlu o word ((s.coreOf k).reg rs1) imm ∧
      (t.coreOf k).pc = (s.coreOf k).pc + BitVec.ofNat 64 len ∧
      (t.coreOf k).user = (s.coreOf k).user) ∧
  (∀ (s : State) (k : CoreNo) (o : RvOp) (word : Bool) (rd : Nat) (rs1 : Nat) (rs2 : Nat) (len : Nat), s.Wf →
    (s.executes k (.op o word rd rs1 rs2) len = true) →
    (1 ≤ rd ∧ rd ≤ 31) →
    Runs (.coreInstruction k) s fun t =>
      (t.coreOf k).reg rd = rvAlu o word ((s.coreOf k).reg rs1) ((s.coreOf k).reg rs2) ∧
      (t.coreOf k).pc = (s.coreOf k).pc + BitVec.ofNat 64 len) ∧
  (∀ (s : State) (k : CoreNo) (rd : Nat) (imm : DWord) (len : Nat), s.Wf →
    (s.executes k (.jal rd imm) len = true) →
    (1 ≤ rd ∧ rd ≤ 31) →
    Runs (.coreInstruction k) s fun t =>
      (t.coreOf k).reg rd = (s.coreOf k).pc + BitVec.ofNat 64 len ∧
      (t.coreOf k).pc = (s.coreOf k).pc + imm) ∧
  (∀ (s : State) (k : CoreNo) (f : Nat) (rs1 : Nat) (rs2 : Nat) (imm : DWord) (len : Nat), s.Wf →
    (s.executes k (.branch f rs1 rs2 imm) len = true) →
    Runs (.coreInstruction k) s fun t =>
      (t.coreOf k).pc = (if rvTaken f ((s.coreOf k).reg rs1) ((s.coreOf k).reg rs2) then (s.coreOf k).pc + imm else (s.coreOf k).pc + BitVec.ofNat 64 len) ∧
      (t.coreOf k).x = (s.coreOf k).x) ∧
  (∀ (s : State) (k : CoreNo) (len : Nat), s.Wf →
    (s.executes k .ecall len = true) →
    Runs (.coreInstruction k) s fun t =>
      (t.coreOf k).mepc = (s.coreOf k).pc ∧
      (t.coreOf k).mcause = (if (s.coreOf k).user then 8 else 11) ∧
      (t.coreOf k).user = false ∧
      (t.coreOf k).mie = false ∧
      (t.coreOf k).mpie = (s.coreOf k).mie ∧
      (t.coreOf k).pc = BitVec.ofNat 64 ((s.coreOf k).mtvec.toNat / 4 * 4)) ∧
  (∀ (s : State) (k : CoreNo) (len : Nat), s.Wf →
    (s.executes k .illegal len = true) →
    Runs (.coreInstruction k) s fun t =>
      (t.coreOf k).mepc = (s.coreOf k).pc ∧
      (t.coreOf k).mcause = 2 ∧
      (t.coreOf k).pc = BitVec.ofNat 64 ((s.coreOf k).mtvec.toNat / 4 * 4)) ∧
  (∀ (s : State) (k : CoreNo) (len : Nat), s.Wf →
    (s.executes k .mret len = true) →
    ((s.coreOf k).user = false) →
    Runs (.coreInstruction k) s fun t =>
      (t.coreOf k).pc = (s.coreOf k).mepc ∧
      (t.coreOf k).mie = (s.coreOf k).mpie ∧
      (t.coreOf k).user = (s.coreOf k).mppUser) ∧
  (∀ (s : State) (k : CoreNo) (i : Nat), s.Wf →
    (s.coreRuns k = true) →
    (((s.wake k).coreOf k).wfi = false) →
    ((s.wake k).interrupt k = some i) →
    Runs (.coreInstruction k) s fun t =>
      (t.coreOf k).mepc = (s.coreOf k).pc ∧
      (t.coreOf k).mcause = BitVec.ofNat 64 (2 ^ 63 + i) ∧
      (t.coreOf k).user = false)

/-- In every well-formed state: a residue mismatch that repeats, a nested machine check, an expired watchdog and
CORE_CTL.WARM make a running core Restarting with their cause; a first machine check is recorded and taken, and a
parity error in an L1 line drops and refetches the line; the restart clears the registers and is counted; a passed
self-test starts the core at its WARM entry, the third failed one in a row fails it; START starts a core in reset with
a role. A Keeper residue leaves the machine as it is. -/
def Obligations.Restarts_machine_checks_and_watchdogs : Prop :=
  (∀ (s : State) (k : CoreNo), s.Wf →
    (s.coreRuns k = true) →
    Runs (.residueMismatch k true) s fun t =>
      t.num (RES_CNT (coreBase k)) = min (s.num (RES_CNT (coreBase k)) + 1) 0xFFFFFFFF ∧
      t.coreState k = csRunning) ∧
  (∀ (s : State) (k : CoreNo), s.Wf →
    (s.coreRuns k = true) →
    Runs (.residueMismatch k false) s fun t =>
      t.coreState k = csRestarting ∧
      (t.coreOf k).restart = 2) ∧
  (∀ (s : State) (k : CoreNo) (a : DWord), s.Wf →
    (s.coreRuns k = true) →
    ((s.coreOf k).chkCause.toNat / 2 ^ 63 = 0) →
    Runs (.machineCheck k 1 a) s fun t =>
      (t.coreOf k).chkCause = BitVec.ofNat 64 (2 ^ 63 + 1) ∧
      (t.coreOf k).chkAddr = a ∧
      (t.coreOf k).mcause = 24 ∧
      (t.coreOf k).mepc = (s.coreOf k).pc ∧
      t.coreState k = csRunning) ∧
  (∀ (s : State) (k : CoreNo) (a : DWord), s.Wf →
    (s.coreRuns k = true) →
    Runs (.machineCheck k 0 a) s fun t =>
      t = s.l1Parity k (a.toNat / 64)) ∧
  (∀ (s : State) (k : CoreNo) (source : Nat) (a : DWord), s.Wf →
    (s.coreRuns k = true) →
    (source = 2 ∨ source = 3) →
    ((s.coreOf k).chkCause.toNat / 2 ^ 63 = 0) →
    Runs (.machineCheck k source a) s fun t =>
      (t.coreOf k).chkCause = BitVec.ofNat 64 (2 ^ 63 + source) ∧
      (t.coreOf k).chkAddr = a ∧
      (t.coreOf k).mchk = true ∧
      t.coreState k = csRunning) ∧
  (∀ (s : State) (k : CoreNo) (source : Nat) (a : DWord), s.Wf →
    (s.coreRuns k = true) →
    (source = 2 ∨ source = 3) →
    ((s.coreOf k).chkCause.toNat / 2 ^ 63 = 1) →
    Runs (.machineCheck k source a) s fun t =>
      t.coreState k = csRestarting ∧
      (t.coreOf k).restart = 4) ∧
  (∀ (s : State) (k : CoreNo), s.Wf →
    (s.coreRuns k = true) →
    (s.flag (CORE_CTL_WDOG_EN (coreBase k)) = true) →
    (s.wdEnd k ≤ s.mtime) →
    Runs (.watchdogExpiry k) s fun t =>
      t.coreState k = csRestarting ∧
      (t.coreOf k).restart = 3) ∧
  (∀ (s : State) (k : CoreNo), s.Wf →
    (s.dieOn (coreDie k) = true) →
    (s.coreState k = csRestarting) →
    Runs (.warmRestart k) s fun t =>
      (t.coreOf k).x = Core.reset.x ∧
      (t.coreOf k).bootCause = (s.coreOf k).restart % 16 ∧
      (t.coreOf k).chkCause = (s.coreOf k).chkCause ∧
      t.num (RESTART_CNT (coreBase k)) = min (s.num (RESTART_CNT (coreBase k)) + 1) 0xFFFFFFFF) ∧
  (∀ (s : State) (k : CoreNo), s.Wf →
    (s.dieOn (coreDie k) = true) →
    (s.coreState k = csRestarting) →
    Runs (.warmRestartDone k true) s fun t =>
      t.coreState k = csRunning ∧
      (t.coreOf k).pc = s.warmEntry k ∧
      t.get (CORE_STAT_ST_FAILS (coreBase k)) = 0) ∧
  (∀ (s : State) (k : CoreNo), s.Wf →
    (s.dieOn (coreDie k) = true) →
    (s.coreState k = csRestarting) →
    (s.get (CORE_STAT_ST_FAILS (coreBase k)) = 2) →
    Runs (.warmRestartDone k false) s fun t =>
      t.coreState k = csFailed) ∧
  (∀ (s : State) (k : CoreNo), s.Wf →
    (s.dieOn (coreDie k) = true) →
    (s.coreState k = csReset) →
    (s.roleOf k ≠ 0) →
    Runs (.coreStart k) s fun t =>
      t.coreState k = csRunning ∧
      (t.coreOf k).pc = s.warmEntry k ∧
      (t.coreOf k).user = false) ∧
  (∀ (s : State) (k : CoreNo), s.Wf →
    (s.dieOn (coreDie k) = true) →
    (s.coreState k = csRunning) →
    Runs (.coreWarm k) s fun t =>
      t.coreState k = csRestarting ∧
      (t.coreOf k).restart = 1) ∧
  (∀ (s : State), s.Wf →
    Runs (.keeperContextResidue) s fun t =>
      t = s)

/-- In every well-formed state: an event routed to a core of its own die becomes pending there, one under way when its
links are up; MEVCLAIM answers the lowest pending and enabled event and clears it; an event number that software may
send is raised and any other sets BAD_SEND; a legal route word is stored; TASK gives the routed C-core its task until
MTASKDONE, and a late one is marked; MDINV, MWDKICK and MRESCTL act on their core, and the timer wakes it; in user
mode each of these custom registers' accesses enters the illegal-instruction trap. -/
def Obligations.Events_and_a_core_s_own_registers : Prop :=
  (∀ (s : State) (e : Fin 512), s.Wf →
    (s.dieOn (eventDie e) = true) →
    (bitOf (s.routeOf e) 7 = true) →
    (coreDie (bitsOf (s.routeOf e) 3 0) = eventDie e) →
    Runs (.eventRaise e) s fun t =>
      (atD t.pend (bitsOf (s.routeOf e) 3 0) 0).getLsbD e = true) ∧
  (∀ (s : State) (e : Fin 512) (q : Nat × Nat × Nat), s.Wf →
    (s.evFlight.find? (fun p => decide (p.1 = e.val)) = some q) →
    (q.2.1 < 16) →
    ((eventPath (eventDie e) (coreDie q.2.1)).all (fun l => decide (s.get (LINK_STAT_STATE (linkBase l)) = 2)) = true) →
    Runs (.eventDeliver e) s fun t =>
      t.evFlight = s.evFlight.erase q ∧
      (atD t.pend q.2.1 0).getLsbD e = true) ∧
  (∀ (s : State) (k : CoreNo) (e : Nat), s.Wf →
    (s.coreRuns k = true) →
    (s.claimable k = some e) →
    ((s.coreOf k).user = false) →
    Runs (.mevclaimRead k) s fun t =>
      t.resp = .data e ∧
      (atD t.pend k 0).getLsbD e = false) ∧
  (∀ (s : State) (k : CoreNo) (v : DWord), s.Wf →
    (s.coreRuns k = true) →
    (128 ≤ v.toNat % 512 ∧ v.toNat % 512 ≤ 191) →
    ((s.coreOf k).user = false) →
    Runs (.mevsendWrite k v) s fun t =>
      t = s.raise (v.toNat % 512)) ∧
  (∀ (s : State) (k : CoreNo) (v : DWord), s.Wf →
    (s.coreRuns k = true) →
    (v.toNat % 512 < 128 ∨ 191 < v.toNat % 512) →
    ((s.coreOf k).user = false) →
    Runs (.mevsendWrite k v) s fun t =>
      bitOf (t.num evErr.addr) 1 = true) ∧
  (∀ (s : State) (v : Word), s.Wf →
    (s.dieOn 0 = true) →
    (128 ≤ v.toNat % 512 ∧ v.toNat % 512 ≤ 191) →
    Runs (.evSendWrite v) s fun t =>
      t = (s.answer .done).raise (v.toNat % 512)) ∧
  (∀ (s : State) (w : Fin 128) (v : Word), s.Wf →
    (s.dieOn 0 = true) →
    ((List.range 4).all (fun j => !(s.badRoute (4 * w + j) (bitsOf v.toNat (8 * j + 7) (8 * j)))) = true) →
    Runs (.evRouteWrite w v) s fun t =>
      t.rd (EV_ROUTE w) = v) ∧
  (∀ (s : State) (ch : Ch) (k : Nat), s.Wf →
    (s.chUp ch = true) →
    (s.taskCore ch = some k) →
    (k < 16) →
    Runs (.taskRaise ch) s fun t =>
      (t.coreOf k).task = true) ∧
  (∀ (s : State) (ch : Ch) (k : Nat), s.Wf →
    (s.chUp ch = true) →
    (s.taskCore ch = some k) →
    (8 ≤ k) →
    ((s.coreOf k).task = true) →
    Runs (.taskLate ch) s fun t =>
      t.flag (CORE_STAT_LATE (coreBase k)) = true ∧
      t.num (LATE_CNT ((k - 8) / 2) ((k - 8) % 2)) = min (s.num (LATE_CNT ((k - 8) / 2) ((k - 8) % 2)) + 1) 0xFFFFFFFF) ∧
  (∀ (s : State) (k : CoreNo), s.Wf →
    (s.coreRuns k = true) →
    (8 ≤ k.val) →
    ((s.coreOf k).user = false) →
    Runs (.mtaskdoneWrite k 1) s fun t =>
      (t.coreOf k).task = false) ∧
  (∀ (s : State) (k : CoreNo), s.Wf →
    (s.coreRuns k = true) →
    ((s.coreOf k).user = false) →
    Runs (.mdinvWrite k 0xFFFFFFFFFFFFFFFF) s fun t =>
      (t.coreOf k).l1d = [] ∧
      (t.coreOf k).l1i = (s.coreOf k).l1i) ∧
  (∀ (s : State) (k : CoreNo), s.Wf →
    (s.coreRuns k = true) →
    ((s.coreOf k).user = false) →
    Runs (.mwdkickWrite k) s fun t =>
      (t.coreOf k).kick = s.mtime) ∧
  (∀ (s : State) (k : CoreNo) (v : DWord), s.Wf →
    (s.coreRuns k = true) →
    ((s.coreOf k).user = false) →
    Runs (.mresctlWrite k v) s fun t =>
      (t.coreOf k).inject = v.toNat % 4) ∧
  (∀ (s : State) (k : CoreNo), s.Wf →
    (s.coreRuns k = true) →
    ((s.coreOf k).user = true) →
    Runs (.mevclaimRead k) s fun t =>
      (t.coreOf k).mcause = 2 ∧
      (t.coreOf k).user = false ∧
      (t.coreOf k).mepc = (s.coreOf k).pc) ∧
  (∀ (s : State) (k : CoreNo) (v : DWord), s.Wf →
    (s.coreRuns k = true) →
    ((s.coreOf k).user = true) →
    Runs (.mevsendWrite k v) s fun t =>
      (t.coreOf k).mcause = 2 ∧
      (t.coreOf k).user = false ∧
      (t.coreOf k).mepc = (s.coreOf k).pc) ∧
  (∀ (s : State) (k : CoreNo) (v : DWord), s.Wf →
    (s.coreRuns k = true) →
    ((s.coreOf k).user = true) →
    Runs (.mtaskdoneWrite k v) s fun t =>
      (t.coreOf k).mcause = 2 ∧
      (t.coreOf k).user = false ∧
      (t.coreOf k).mepc = (s.coreOf k).pc) ∧
  (∀ (s : State) (k : CoreNo) (v : DWord), s.Wf →
    (s.coreRuns k = true) →
    ((s.coreOf k).user = true) →
    Runs (.mdinvWrite k v) s fun t =>
      (t.coreOf k).mcause = 2 ∧
      (t.coreOf k).user = false ∧
      (t.coreOf k).mepc = (s.coreOf k).pc) ∧
  (∀ (s : State) (k : CoreNo), s.Wf →
    (s.coreRuns k = true) →
    ((s.coreOf k).user = true) →
    Runs (.mwdkickWrite k) s fun t =>
      (t.coreOf k).mcause = 2 ∧
      (t.coreOf k).user = false ∧
      (t.coreOf k).mepc = (s.coreOf k).pc) ∧
  (∀ (s : State) (k : CoreNo) (v : DWord), s.Wf →
    (s.coreRuns k = true) →
    ((s.coreOf k).user = true) →
    Runs (.mresctlWrite k v) s fun t =>
      (t.coreOf k).mcause = 2 ∧
      (t.coreOf k).user = false ∧
      (t.coreOf k).mepc = (s.coreOf k).pc) ∧
  (∀ (s : State) (k : CoreNo), s.Wf →
    (s.coreRuns k = true) →
    ((s.coreOf k).timecmp.toNat ≤ s.mtime) →
    (bitOf (s.coreOf k).ie.toNat 7 = true) →
    Runs (.timerInterrupt k) s fun t =>
      (t.coreOf k).wfi = false)

/-- In every well-formed state, on an enabled channel: a load while RUN is 0 stores the word at 2,560 or above and
advances; START verifies, and the digest decides whether the start is due; STOP clears RUN; RELOAD restores the kept
words. A legal microword of a running sequencer without parity protection goes where its SEQ field says, MOVI writes
its register, ADD its result and flags; an illegal one faults; a WAIT_COND whose condition holds goes on. -/
def Obligations.The_Lomun_sequencer : Prop :=
  (∀ (s : State) (ch : Ch) (v : Word), s.Wf →
    (s.dieOn (ch + 1) = true) →
    (2560 ≤ s.get (LM_LOAD_ADDR_WORD ch)) →
    (s.flag (LM_STAT_RUN ch) = false) →
    (risingFrom 0 (s.lmuOf ch).store = true) →
    Runs (.lmLoadData7Write ch v) s fun t =>
      ((t.lmuOf ch).word (s.get (LM_LOAD_ADDR_WORD ch))).toNat / 2 ^ 224 = v.toNat ∧
      t.get (LM_LOAD_ADDR_WORD ch) = (s.get (LM_LOAD_ADDR_WORD ch) + 1) % 4096) ∧
  (∀ (s : State) (ch : Ch) (v : Word), s.Wf →
    (s.dieOn (ch + 1) = true) →
    (s.get (LM_LOAD_ADDR_WORD ch) < 2560 ∨ s.flag (LM_STAT_RUN ch) = true) →
    Runs (.lmLoadData7Write ch v) s fun t =>
      bitOf (t.num (LM_FAULT ch)) 7 = true ∧
      t.lmuOf ch = s.lmuOf ch) ∧
  (∀ (s : State) (ch : Ch), s.Wf →
    (s.dieOn (ch + 1) = true) →
    (s.flag (LM_STAT_RUN ch) = false) →
    Runs (.lmStart ch) s fun t =>
      t.flag (LM_STAT_VERIFY ch) = true ∧
      (t.lmuOf ch).st = .verify) ∧
  (∀ (s : State) (ch : Ch), s.Wf →
    (s.chUp ch = true) →
    ((s.lmuOf ch).st = .verify) →
    Runs (.lmVerifyDone ch) s fun t =>
      t.flag (LM_STAT_VERIFY ch) = false ∧
      (t.lmuOf ch).startDue = (List.range 12).all (fun k => decide (s.rd (LM_EXPECT ch k) = (wordsOf 12 (Config.sha384 (s.lmuOf ch).customer)).getD k 0))) ∧
  (∀ (s : State) (ch : Ch), s.Wf →
    (s.dieOn (ch + 1) = true) →
    Runs (.lmStop ch) s fun t =>
      (t.lmuOf ch).st = .stopped ∧
      (t.lmuOf ch).startDue = false ∧
      (s.flag (LM_STAT_RUN ch) = true → t.flag (LM_STAT_RUN ch) = false)) ∧
  (∀ (s : State) (ch : Ch), s.Wf →
    (s.dieOn (ch + 1) = true) →
    (s.flag (LM_STAT_RUN ch) = false) →
    Runs (.lmReload ch) s fun t =>
      (t.lmuOf ch).reload = true) ∧
  (∀ (s : State) (ch : Ch), s.Wf →
    (s.chUp ch = true) →
    ((s.lmuOf ch).reload = true) →
    Runs (.lmReloadDone ch) s fun t =>
      (t.lmuOf ch).reload = false ∧
      (t.lmuOf ch).store = (s.lmuOf ch).kept ++ (s.lmuOf ch).store.filter (fun e => decide (2560 ≤ e.1))) ∧
  (∀ (s : State) (ch : Ch) (w : BitVec 256), s.Wf →
    (s.chUp ch = true) →
    ((s.lmuOf ch).st = .run) →
    (s.flag (LM_STAT_PROT ch) = false) →
    ((s.lmuOf ch).word (s.lmuOf ch).pc = w) →
    (mwIllegal w = false) →
    (mw w 255 252 = 1) →
    (mw w 223 221 = 0) →
    (mw w 183 180 = 0) →
    (mw w 135 134 = 0) →
    (mw w 106 106 = 0) →
    ((s.lmuOf ch).pc < 2560 ∨ 2560 ≤ mw w 251 240) →
    Runs (.microword ch false) s fun t =>
      (t.lmuOf ch).pc = mw w 251 240 ∧
      (t.lmuOf ch).st = .run ∧
      t.get (LM_STAT_PC ch) = (s.lmuOf ch).pc % 4096) ∧
  (∀ (s : State) (ch : Ch) (w : BitVec 256), s.Wf →
    (s.chUp ch = true) →
    ((s.lmuOf ch).st = .run) →
    (s.flag (LM_STAT_PROT ch) = false) →
    ((s.lmuOf ch).word (s.lmuOf ch).pc = w) →
    (mwIllegal w = false) →
    (mw w 255 252 = 0) →
    (mw w 223 221 = 0) →
    (mw w 183 180 = 8) →
    (mw w 179 176 ≠ 0) →
    (mw w 135 134 = 0) →
    (mw w 106 106 = 0) →
    ((s.lmuOf ch).pc < 4095) →
    Runs (.microword ch false) s fun t =>
      t.rd (LM_G ch (mw w 179 176)) = BitVec.ofNat 32 (mw w 167 136) ∧
      (t.lmuOf ch).pc = (s.lmuOf ch).pc + 1 ∧
      (t.lmuOf ch).z = (s.lmuOf ch).z) ∧
  (∀ (s : State) (ch : Ch) (w : BitVec 256), s.Wf →
    (s.chUp ch = true) →
    ((s.lmuOf ch).st = .run) →
    (s.flag (LM_STAT_PROT ch) = false) →
    ((s.lmuOf ch).word (s.lmuOf ch).pc = w) →
    (mwIllegal w = false) →
    (mw w 255 252 = 0) →
    (mw w 223 221 = 0) →
    (mw w 183 180 = 1) →
    (mw w 179 176 ≠ 0) →
    (mw w 135 134 = 0) →
    (mw w 106 106 = 0) →
    ((s.lmuOf ch).pc < 4095) →
    Runs (.microword ch false) s fun t =>
      t.rd (LM_G ch (mw w 179 176)) = s.gReg ch (mw w 175 172) + s.gReg ch (mw w 171 168) ∧
      (t.lmuOf ch).z = decide (s.gReg ch (mw w 175 172) + s.gReg ch (mw w 171 168) = 0) ∧
      (t.lmuOf ch).c = decide (2 ^ 32 ≤ (s.gReg ch (mw w 175 172)).toNat + (s.gReg ch (mw w 171 168)).toNat)) ∧
  (∀ (s : State) (ch : Ch) (w : BitVec 256), s.Wf →
    (s.chUp ch = true) →
    ((s.lmuOf ch).st = .run) →
    (s.flag (LM_STAT_PROT ch) = false) →
    ((s.lmuOf ch).word (s.lmuOf ch).pc = w) →
    (mwIllegal w = true) →
    Runs (.microword ch false) s fun t =>
      bitOf (t.num (LM_FAULT ch)) 1 = true ∧
      (t.lmuOf ch).queue = []) ∧
  (∀ (s : State) (ch : Ch) (w : BitVec 256), s.Wf →
    (s.chUp ch = true) →
    ((s.lmuOf ch).st = .waitCond) →
    ((s.lmuOf ch).word (s.lmuOf ch).pc = w) →
    (s.lmHolds ch w = true) →
    ((s.lmuOf ch).pc < 2560 ∨ 2560 ≤ mw w 251 240) →
    Runs (.microword ch false) s fun t =>
      (t.lmuOf ch).pc = mw w 251 240 ∧
      (t.lmuOf ch).st = .run)

/-- In every well-formed state: a request of LADDER_CMD for a deeper rung is the smallest of it, MAX_RUNG and the host
limit; it begins the entry where every precondition holds and otherwise sets the LADDER_ERR bit of each that fails and
moves nothing; written during a sequence it waits. MAX_RUNG holds at most the POWER record's. A step of an entry
reaches the next rung with every domain in its state, but that those a log copy under way needs stay On, and the last
one ends the sequence; the step to rung 3 leaves an empty dump. An enabled wake at a rung starts the exit, during an
entry it ends it at the next boundary; a wake that is not enabled does nothing. An exit returns every domain to its
rung 0 state; where the image a Sleep resume checks no longer holds, a full boot with cause 3 is due. A unit whose
domain is neither On nor Dem serves no access: that a read of it answers a bus error is the model's choice
(notes/assumptions/43.md). -/
def Obligations.The_ladder_moves_between_rungs : Prop :=
  (∀ (s : State) (v : Word) (l12 : Bool), s.Wf →
    (s.dieOn 5 = true) →
    (s.flag LADDER_STAT_MOVING = false) →
    (s.get LADDER_STAT_RUNG < min (min 4 (v.toNat % 8)) s.rungLimit) →
    ((s.ladderFails (min (min 4 (v.toNat % 8)) s.rungLimit) l12).isEmpty = true) →
    Runs (.ladderCmdWrite v l12) s fun t =>
      t = (((s.answer .done).put LADDER_STAT_MOVING 1).put LADDER_STAT_TARGET (min (min 4 (v.toNat % 8)) s.rungLimit)).modLad (fun l => { l with entry := true, abort := false })) ∧
  (∀ (s : State) (v : Word) (l12 : Bool), s.Wf →
    (s.dieOn 5 = true) →
    (s.flag LADDER_STAT_MOVING = false) →
    (s.get LADDER_STAT_RUNG < min (min 4 (v.toNat % 8)) s.rungLimit) →
    ((s.ladderFails (min (min 4 (v.toNat % 8)) s.rungLimit) l12).isEmpty = false) →
    Runs (.ladderCmdWrite v l12) s fun t =>
      (s.ladderFails (min (min 4 (v.toNat % 8)) s.rungLimit) l12).all (fun b => bitOf (t.num LADDER_ERR) b) = true ∧
      t.get LADDER_STAT_RUNG = s.get LADDER_STAT_RUNG ∧
      t.flag LADDER_STAT_MOVING = false ∧
      t.lad = s.lad) ∧
  (∀ (s : State) (v : Word) (l12 : Bool), s.Wf →
    (s.dieOn 5 = true) →
    (s.flag LADDER_STAT_MOVING = true) →
    Runs (.ladderCmdWrite v l12) s fun t =>
      t = (s.answer .done).modLad (fun l => { l with queued := some (min 4 (v.toNat % 8) + 8 * ofBool l12) })) ∧
  (∀ (s : State) (v : Word), s.Wf →
    (s.dieOn 5 = true) →
    Runs (.maxRungWrite v) s fun t =>
      t.get MAX_RUNG_RUNG = min (v.toNat % 8) (s.imgNat Image.maxRung)) ∧
  (∀ (s : State), s.Wf →
    (s.flag LADDER_STAT_MOVING = true) →
    (s.lad.entry = true) →
    (s.lad.abort = false) →
    (s.lad.queued = none) →
    (s.get LADDER_STAT_RUNG ≤ 3) →
    (s.get LADDER_STAT_TARGET = s.get LADDER_STAT_RUNG + 1) →
    Runs (.rungEntryStep) s fun t =>
      t.get LADDER_STAT_RUNG = s.get LADDER_STAT_RUNG + 1 ∧
      t.flag LADDER_STAT_MOVING = false ∧
      t.get LADDER_STAT_WAKE_SRC = 0 ∧
      (List.range 84).all (fun d => decide (atD t.lad.pd d .off = (if t.alog.copy.isSome && copyDomains.contains d then .on else s.domainState d (s.get LADDER_STAT_RUNG + 1)))) = true ∧
      s.get LADDER_STAT_RUNG = 0 ∨ t.alog.copy.isSome = true ∧
      s.get LADDER_STAT_RUNG ≠ 2 ∨ s.imgBool Image.plpEnable = false ∨ (t.dumpState = 3 ∧ t.dump.map (fun d => (d.entries, d.journal)) = some ([], []))) ∧
  (∀ (s : State), s.Wf →
    (s.flag LADDER_STAT_MOVING = true) →
    (s.lad.entry = true) →
    (s.lad.abort = false) →
    (s.get LADDER_STAT_RUNG ≤ 3) →
    (s.get LADDER_STAT_RUNG + 1 < s.get LADDER_STAT_TARGET) →
    Runs (.rungEntryStep) s fun t =>
      t.get LADDER_STAT_RUNG = s.get LADDER_STAT_RUNG + 1 ∧
      t.flag LADDER_STAT_MOVING = true ∧
      t.alog.copy = s.alog.copy ∧
      (List.range 84).all (fun d => decide (atD t.lad.pd d .off = (if s.alog.copy.isSome && copyDomains.contains d then .on else s.domainState d (s.get LADDER_STAT_RUNG + 1)))) = true) ∧
  (∀ (s : State) (source : Fin 6), s.Wf →
    (bitOf (s.get WAKE_EN_EN) source = false) →
    Runs (.rungWake source) s fun t =>
      t = s) ∧
  (∀ (s : State) (source : Fin 6), s.Wf →
    (bitOf (s.get WAKE_EN_EN) source = true) →
    (s.flag LADDER_STAT_MOVING = false) →
    (1 ≤ s.get LADDER_STAT_RUNG) →
    (source ≠ 2 ∨ s.get LADDER_STAT_RUNG ≤ 2) →
    Runs (.rungWake source) s fun t =>
      bitOf (t.get LADDER_STAT_WAKE_SRC) source = true ∧
      t.flag LADDER_STAT_MOVING = true ∧
      t.get LADDER_STAT_TARGET = 0 ∧
      t.get LADDER_STAT_RUNG = s.get LADDER_STAT_RUNG ∧
      t.lad.entry = false) ∧
  (∀ (s : State) (source : Fin 6), s.Wf →
    (bitOf (s.get WAKE_EN_EN) source = true) →
    (s.flag LADDER_STAT_MOVING = true) →
    (s.lad.entry = true) →
    (s.lad.abort = false) →
    Runs (.rungWake source) s fun t =>
      t.lad.abort = true ∧
      bitOf (t.num LADDER_ERR) 5 = true ∧
      bitOf (t.get LADDER_STAT_WAKE_SRC) source = true) ∧
  (∀ (s : State), s.Wf →
    (s.flag LADDER_STAT_MOVING = true) →
    (s.lad.entry = true) →
    (s.lad.abort = true) →
    (s.get LADDER_STAT_RUNG ≠ 0) →
    Runs (.rungEntryStep) s fun t =>
      t = (s.put LADDER_STAT_TARGET 0).modLad (fun l => { l with entry := false, abort := false })) ∧
  (∀ (s : State), s.Wf →
    (s.flag LADDER_STAT_MOVING = true) →
    (s.lad.entry = false) →
    (s.lad.queued = none) →
    (s.lad.warned = false) →
    (s.hubHeld = true) →
    (s.critOff = []) →
    (s.get LADDER_STAT_RUNG ≤ 2) →
    Runs (.rungExit) s fun t =>
      t.get LADDER_STAT_RUNG = 0 ∧
      t.get LADDER_STAT_FROM = s.get LADDER_STAT_RUNG ∧
      t.flag LADDER_STAT_MOVING = false ∧
      (List.range 84).all (fun d => decide (atD t.lad.pd d .off = s.domainState d 0)) = true ∧
      t.nvs = s.nvs ∧
      t.flash = s.flash) ∧
  (∀ (s : State), s.Wf →
    (s.flag LADDER_STAT_MOVING = true) →
    (s.lad.entry = false) →
    (s.lad.queued = none) →
    (s.lad.warned = false) →
    (s.hubHeld = true) →
    (s.get LADDER_STAT_RUNG = 4) →
    Runs (.rungExit) s fun t =>
      t.get LADDER_STAT_RUNG = 0 ∧
      t.get LADDER_STAT_FROM = 4 ∧
      t.flag LADDER_STAT_MOVING = false ∧
      (s.ascend.lmsStart.sleepHolds || decide (t.bootDue = some (s.bootDue.getD 3))) = true) ∧
  (∀ (s : State), s.Wf →
    (s.flag LADDER_STAT_MOVING = false) →
    Runs (.rungExit) s fun t =>
      t = s) ∧
  (∀ (s : State) (addr : BitVec 32), s.Wf →
    (s.served addr.toNat = false) →
    Runs (.wideRegisterRead addr) s fun t =>
      t = s.answer .busError)

/-- In every well-formed state: a supply that becomes good sets its bit and loses nothing stored. The loss of VAUX_KPR is
a power-on reset that keeps the NV store, flash and OTP; that of a HUB supply in use makes a full boot due with the
CAUSE in force and makes no dump; that of a channel die in use switches that die off; that of VDDIO33 while the motor
turns coasts it; each sets its SUP_LOST bit. A conversion shows each die's reading and, with an image in force, its
level by thresholds and hysteresis; a diode at a rail is BROKEN, and its die is treated as Hot. -/
def Obligations.Supplies_and_temperatures_are_watched : Prop :=
  (∀ (s : State) (k : Fin 17), s.Wf →
    (k < 9) →
    Runs (.supplyGood k) s fun t =>
      bitOf (t.get SUP_STAT_GOOD) k = true ∧
      t.nvs = s.nvs ∧
      t.flash = s.flash ∧
      t.otp = s.otp ∧
      t.img = s.img) ∧
  (∀ (s : State) (k : Fin 17), s.Wf →
    (9 ≤ k) →
    Runs (.supplyGood k) s fun t =>
      bitOf (t.get (if k < 13 then SUP_CH_VDD_GOOD else SUP_CH_VDDA_GOOD)) ((k - 9) % 4) = true ∧
      t.flash = s.flash ∧
      t.otp = s.otp ∧
      t.img = s.img) ∧
  (∀ (s : State), s.Wf →
    (s.supplyGood 0 = true) →
    Runs (.supplyLost 0) s fun t =>
      t.nvs = s.nvs ∧
      t.flash = s.flash ∧
      t.otp = s.otp ∧
      t.img = none ∧
      t.keeper = false ∧
      t.get SUP_STAT_GOOD = 0 ∧
      t.logArray = []) ∧
  (∀ (s : State) (k : Fin 17), s.Wf →
    (1 ≤ k.val ∧ k.val < 8) →
    (s.supplyGood k = true) →
    (s.hubPowered = true) →
    (s.keeper = true) →
    Runs (.supplyLost k) s fun t =>
      bitOf (t.get SUP_STAT_GOOD) k = false ∧
      bitOf (t.num SUP_LOST) k = true ∧
      t.get BOOT_STAT_STAGE = 1 ∧
      t.bootDue = some (s.bootDue.getD (s.get BOOT_STAT_CAUSE)) ∧
      t.dmp.run = none ∧
      t.dump = s.dump ∧
      t.flash = s.flash) ∧
  (∀ (s : State), s.Wf →
    (s.supplyGood 8 = true) →
    (s.spinState ≠ spStopped ∧ s.spinState ≠ spFailed) →
    Runs (.supplyLost 8) s fun t =>
      t.spinState = spCoast ∧
      bitOf (t.get SUP_STAT_GOOD) 8 = false ∧
      bitOf (t.num SUP_LOST) 8 = true) ∧
  (∀ (s : State) (k : Fin 17), s.Wf →
    (9 ≤ k.val) →
    (bitOf (s.get (if k < 13 then SUP_CH_VDD_GOOD else SUP_CH_VDDA_GOOD)) ((k - 9) % 4) = true) →
    (s.chOn ((k - 9) % 4) = true) →
    (atD s.lad.pd (28 + 11 * ((k - 9) % 4)) .off ≠ .off) →
    Runs (.supplyLost k) s fun t =>
      bitOf (t.get (if k < 13 then SUP_CH_VDD_GOOD else SUP_CH_VDDA_GOOD)) ((k - 9) % 4) = false ∧
      bitOf (t.num SUP_LOST) (if k < 13 then 9 else 10) = true ∧
      t.get (DIE_STAT_STATE (unitBase ((k - 9) % 4 + 1) 0)) = 0 ∧
      t.actState ((k - 9) % 4) = (if s.actState ((k - 9) % 4) = 1 then 2 else s.actState ((k - 9) % 4)) ∧
      (List.range 11).all (fun j => decide (atD t.lad.pd (28 + 11 * ((k - 9) % 4) + j) .off = .off)) = true) ∧
  (∀ (s : State) (readings : List (Int × Bool)), s.Wf →
    (readings.all (fun r => !r.2 && decide (-55 * 256 ≤ r.1) && decide (r.1 ≤ 150 * 256)) = true) →
    ((List.range 8).all (fun d => decide ((atD s.diode d (0, 0)).2 < 4095)) = true) →
    Runs (.thermalConversion readings) s fun t =>
      (readings.take 8).zipIdx.all (fun r => decide (t.get (THERM_T_TEMP r.2) = toBits 16 r.1.1) && !(t.flag (THERM_T_BROKEN r.2))) = true ∧
      s.img.isNone = true ∨ (readings.take 8).zipIdx.all (fun r => decide (t.thermLevel r.2 = s.levelOf r.2 (s.thermLevel r.2) r.1.1)) = true ∧
      t.nvs = s.nvs ∧
      t.flash = s.flash) ∧
  (∀ (s : State) (t0 : Int), s.Wf →
    (s.flag (THERM_T_BROKEN 0) = false) →
    (s.img.isSome = true) →
    Runs (.thermalConversion [(t0, true)]) s fun t =>
      t.flag (THERM_T_BROKEN 0) = true ∧
      t.thermLevel 0 = 2) ∧
  (∀ (s : State) (die : Fin 8), s.Wf →
    (s.flag (THERM_T_BROKEN die) = false) →
    Runs (.sensorBroken die) s fun t =>
      t.flag (THERM_T_BROKEN die) = true ∧
      s.thermDie die = false ∨ (t.thermLevel die = 2 ∧ bitOf (t.num THERM_FAULT) (16 + die) = true) ∧
      die ≠ 5 ∨ t.flag CLOCK_STAT_COMP_HOLD = true) ∧
  (∀ (s : State) (die : Fin 8), s.Wf →
    (s.flag (THERM_T_BROKEN die) = true) →
    Runs (.sensorBroken die) s fun t =>
      t = s)

/-- In every well-formed state: ARM erases the dump partition and its end writes ARMED with the DIRTY_EFF the measured
rate allows; a failure of that partition ends PLP_READY. A power-loss warning latches its source and stops fetching at
rung 0, and at rungs 1 and 2 first starts the exit; a source its setting disables does nothing. The dump writes
DUMPING and holds the protected set, its end writes DUMPED, makes a full boot with cause 4 due and holds the HUB in
reset. A full boot about to start while ARMED is preceded by a dump. A restored entry is HELD again with its data's
buffers; one whose units fail, or for which no buffers are free (the model's choice, notes/assumptions/40.md), is
dropped and hosts are told of the loss. -/
def Obligations.The_protected_set_survives_a_power_loss : Prop :=
  (∀ (s : State), s.Wf →
    (s.dieOn 0 = true) →
    (s.flag PLP_STAT_ARMING = false) →
    (s.imgBool Image.plpEnable = true) →
    Runs (.dumpArm) s fun t =>
      t.flag PLP_STAT_ARMING = true ∧
      t.flag PLP_STAT_PLP_READY = false ∧
      t.dumpState = 0 ∧
      t.dump = none ∧
      (∀ o n, s.dumpPart = some (o, n) → ∀ a, t.flash.read 0xFF a = (if o ≤ a ∧ a < o + n then 0xFF else s.flash.read 0xFF a))) ∧
  (∀ (s : State), s.Wf →
    (s.dieOn 0 = true) →
    (s.flag PLP_STAT_ARMING = true ∨ s.imgBool Image.plpEnable = false) →
    Runs (.dumpArm) s fun t =>
      t = s.answer .done) ∧
  (∀ (s : State) (rate : Nat), s.Wf →
    (s.flag PLP_STAT_ARMING = true) →
    Runs (.armComplete rate) s fun t =>
      t.num DUMP_RATE = min rate 0xFFFF ∧
      t.flag PLP_STAT_ARMING = false ∧
      t.dumpState = 1 ∧
      t.get PLP_STAT_DIRTY_EFF = s.dirtyEff (min rate 0xFFFF) ∧
      t.flag PLP_STAT_PLP_READY = decide (1 ≤ s.dirtyEff (min rate 0xFFFF) ∧ s.imgBool Image.plpEnable = true)) ∧
  (∀ (s : State) (rate : Nat), s.Wf →
    (s.flag PLP_STAT_ARMING = false) →
    Runs (.armComplete rate) s fun t =>
      t = s) ∧
  (∀ (s : State) (erase : Bool), s.Wf →
    (s.flag PLP_STAT_PLP_READY = true) →
    Runs (.plpFail erase) s fun t =>
      t.flag PLP_STAT_PLP_READY = false ∧
      t.host.lost = true ∧
      bitOf (t.num TAG_ERR) 2 = true ∧
      bitOf (t.num XS_ERR) (if erase then 1 else 0) = true) ∧
  (∀ (s : State) (source : Fin 3), s.Wf →
    ((source = 0 ∧ s.flag PLW_CFG_PFAIL_EN = false) ∨ (source = 1 ∧ s.get PLW_CFG_PLW_VMOT = 0)) →
    Runs (.powerLossWarning source) s fun t =>
      t = s) ∧
  (∀ (s : State) (source : Fin 3), s.Wf →
    (source = 0 → s.flag PLW_CFG_PFAIL_EN = true) →
    (source = 1 → s.get PLW_CFG_PLW_VMOT ≠ 0) →
    (s.flag SUP_STAT_PLW = false) →
    (s.get LADDER_STAT_RUNG = 0) →
    Runs (.powerLossWarning source) s fun t =>
      t.flag SUP_STAT_PLW = true ∧
      bitOf (t.get SUP_STAT_PLW_SRC) source = true ∧
      t.host.stopped = true ∧
      t.dmp.run = some (s.dmp.run.getD 1) ∧
      t.nvs = s.nvs ∧
      t.flash = s.flash) ∧
  (∀ (s : State) (source : Fin 3), s.Wf →
    (source = 0 → s.flag PLW_CFG_PFAIL_EN = true) →
    (source = 1 → s.get PLW_CFG_PLW_VMOT ≠ 0) →
    (s.flag SUP_STAT_PLW = false) →
    (s.get LADDER_STAT_RUNG = 1 ∨ s.get LADDER_STAT_RUNG = 2) →
    Runs (.powerLossWarning source) s fun t =>
      t.flag SUP_STAT_PLW = true ∧
      t.flag LADDER_STAT_MOVING = true ∧
      t.get LADDER_STAT_TARGET = 0 ∧
      t.lad.warned = true ∧
      t.lad.entry = false) ∧
  (∀ (s : State) (source : Fin 3), s.Wf →
    (source = 0 → s.flag PLW_CFG_PFAIL_EN = true) →
    (source = 1 → s.get PLW_CFG_PLW_VMOT ≠ 0) →
    (s.flag SUP_STAT_PLW = false) →
    (3 ≤ s.get LADDER_STAT_RUNG) →
    Runs (.powerLossWarning source) s fun t =>
      t.flag SUP_STAT_PLW = true ∧
      t.dmp = s.dmp ∧
      t.clasps.urgent = [] ∧
      Nat.land (s.get SUP_STAT_GOOD) 0xFE ≠ 0xFE ∨ t.flag ALOG_STAT_SAVING = true ∨ s.alog.copy.isSome = true ∧
      Nat.land (s.get SUP_STAT_GOOD) 0xFE ≠ 0xFE ∨ copyDomains.all (fun d => decide (atD t.lad.pd d .off = .on)) = true) ∧
  (∀ (s : State), s.Wf →
    (s.dmp.run = some 1) →
    (s.dumpState = 1) →
    Runs (.dumpWrite) s fun t =>
      t.dumpState = 2 ∧
      t.dump.map (fun d => (d.entries, d.journal)) = some (s.protectedSet.entries, s.protectedSet.journal) ∧
      (List.range 4).all (fun n => !(s.chOn n) || decide (t.get (DIE_STAT_STATE (unitBase (n + 1) 0)) = 0)) = true ∧
      t.dmp = s.dmp) ∧
  (∀ (s : State), s.Wf →
    (s.dmp.run = none) →
    Runs (.dumpWrite) s fun t =>
      t = s) ∧
  (∀ (s : State), s.Wf →
    (s.dmp.run = some 1) →
    (s.dumpState = 2) →
    Runs (.dumpComplete) s fun t =>
      t.dumpState = 3 ∧
      t.dmp.run = none ∧
      t.dump = s.dump ∧
      t.bootDue = some (s.bootDue.getD 4) ∧
      t.alog.copy.isSome = true ∧
      t.dmp.held = true ∧
      t.dieOn 0 = false) ∧
  (∀ (s : State), s.Wf →
    (s.dmp.run = some 2) →
    (s.dumpState = 2) →
    Runs (.dumpComplete) s fun t =>
      t.dumpState = 3 ∧
      t.dmp.run = none ∧
      t.dmp.held = false ∧
      t.dump = s.dump ∧
      t.bootDue = s.bootDue ∧
      t.alog.copy.isSome = true) ∧
  (∀ (s : State), s.Wf →
    (s.dmp.run = some 3) →
    (s.dumpState = 2) →
    Runs (.dumpComplete) s fun t =>
      t.dumpState = 3 ∧
      t.dmp.run = none ∧
      t.alog.dumped = true ∧
      t.bootDue = s.bootDue) ∧
  (∀ (s : State), s.Wf →
    (s.bootDue.isSome = true) →
    (s.dmp.run = none) →
    (s.dumpState = 1) →
    (4 ≤ s.get BOOT_STAT_STAGE) →
    Runs (.bootDump) s fun t =>
      t.dumpState = 2 ∧
      t.dmp.run = some 2 ∧
      t.host.stopped = true ∧
      t.bootDue = s.bootDue ∧
      t.dump.isSome = true) ∧
  (∀ (s : State), s.Wf →
    (s.bootDue = none ∨ s.dumpState ≠ 1) →
    Runs (.bootDump) s fun t =>
      t = s) ∧
  (∀ (s : State) (bad : List Nat) (hd : List Byte) (e : Wrt) (bs : List (List Byte)), s.Wf →
    (s.dump = some ⟨hd, [(e, bs)], []⟩) →
    (s.dumpState = 3) →
    (s.flag CAT_CTL_EN = false) →
    (7 ≤ s.get BOOT_STAT_STAGE) →
    (s.host.wrts = []) →
    (s.mjUsed = 0) →
    (bad.contains 0 = true) →
    Runs (.dumpRestore bad) s fun t =>
      t.host.wrts = [] ∧
      t.host.lost = true ∧
      bitOf (t.num TAG_ERR) 4 = true) ∧
  (∀ (s : State) (bad : List Nat) (hd : List Byte) (e : Wrt) (bs : List (List Byte)), s.Wf →
    (s.dump = some ⟨hd, [(e, bs)], []⟩) →
    (s.dumpState = 3) →
    (s.flag CAT_CTL_EN = false) →
    (7 ≤ s.get BOOT_STAT_STAGE) →
    (s.host.wrts = []) →
    (s.mjUsed = 0) →
    (bad.contains 0 = false) →
    ((allocWrite 0 bs.length [] s).1.2 = 0) →
    Runs (.dumpRestore bad) s fun t =>
      t.host.wrts = [(0, { e with held := true, bufs := (allocWrite 0 bs.length [] s).1.1 })] ∧
      s.host.fseq ≤ t.host.fseq ∧ e.fseq ≤ t.host.fseq ∧
      t.host.lost = s.host.lost) ∧
  (∀ (s : State) (bad : List Nat) (hd : List Byte) (e : Wrt) (bs : List (List Byte)), s.Wf →
    (s.dump = some ⟨hd, [(e, bs)], []⟩) →
    (s.dumpState = 3) →
    (s.flag CAT_CTL_EN = false) →
    (7 ≤ s.get BOOT_STAT_STAGE) →
    (s.host.wrts = []) →
    (s.mjUsed = 0) →
    (bad.contains 0 = false) →
    ((allocWrite 0 bs.length [] s).1.2 ≠ 0) →
    Runs (.dumpRestore bad) s fun t =>
      t.host.wrts = [] ∧
      t.host.lost = true) ∧
  (∀ (s : State) (bad : List Nat), s.Wf →
    (s.dumpState ≠ 3 ∨ s.flag CAT_CTL_EN = true) →
    Runs (.dumpRestore bad) s fun t =>
      t = s)

/-- In every well-formed state: the oldest queued record takes an empty entry, in a full array the entry with the lowest
RECNO of its severity or below; while frozen none enters. A record of firmware carries what its block holds. A copy is
begun once and, written, leaves the flash outside the log partition as it is; one that fails sets its bit. ACT_STATE
takes only what R492 allows. The key word of FATAL_CMD is a Fatal cause; its sequence stops the front end, sets CFS,
ends a freeze and is timed from the cause; one second later lanes still loaded are retracted; the full boot with cause
5 is due when heads and dump are done. With the HUB-KPR link Failed, the KPR's timers stop the beat and start the
boot. -/
def Obligations.Log_records_and_Fatal_faults : Prop :=
  (∀ (s : State) (r : LogRec) (rest : List LogRec), s.Wf →
    (s.logQueue = r :: rest) →
    (s.alog.frozen = none) →
    (s.logArray.length < 8192) →
    Runs (.alogEnter) s fun t =>
      t.logQueue = rest ∧
      (∃ i, i < 8192 ∧ look i s.logArray = none ∧ t.logArray = place i r s.logArray)) ∧
  (∀ (s : State) (r : LogRec) (rest : List LogRec) (i : Nat), s.Wf →
    (s.logQueue = r :: rest) →
    (s.alog.frozen = none) →
    (8192 ≤ s.logArray.length) →
    (victim r.sev s.logArray = some i) →
    Runs (.alogEnter) s fun t =>
      t.logQueue = rest ∧
      t.logArray = place i r s.logArray) ∧
  (∀ (s : State), s.Wf →
    (s.alog.frozen.isSome = true) →
    Runs (.alogEnter) s fun t =>
      t = s) ∧
  (∀ (s : State) (block : Fin 17) (value : Word), s.Wf →
    (s.dieOn 5 = true) →
    (s.logQueue.length < 64) →
    Runs (.wrGoWrite block value) s fun t =>
      t.logQueue.length = s.logQueue.length + 1 ∧
      t.logQueue.take s.logQueue.length = s.logQueue ∧
      (t.logQueue.getLast?.map (fun r => (r.sev, r.cls, r.bit))) = some (s.get (WR_HDR_SEV block), s.get (WR_HDR_CLASS block), s.get (WR_HDR_BIT block)) ∧
      (t.logQueue.getLast?.map (fun r => (r.inst, r.offset, r.value, r.detail))) = some (value.toNat % 256, 0xFFFF, s.num (WR_VALUE block), s.num (WR_DETAIL block)) ∧
      (t.logQueue.getLast?.map (fun r => (r.optime, r.pcycle, r.tstamp))) = some (s.optime, s.num PCYCLE, s.num TSTAMP) ∧
      (t.logQueue.getLast?.map (fun r => r.recno)) = some (s.num64 RECNO_LO RECNO_HI + 1) ∧
      t.fatal = s.fatal) ∧
  (∀ (s : State), s.Wf →
    (s.dieOn 5 = true) →
    (s.alog.copy = none) →
    Runs (.alogSave) s fun t =>
      t.flag ALOG_STAT_SAVING = true ∧
      t.alog.copy = some (s.alog.seq + 1) ∧
      s.copySlot (s.alog.seq + 1) = none → t.flash = s.flash ∧
      t.logArray = s.logArray) ∧
  (∀ (s : State), s.Wf →
    (s.dieOn 5 = true) →
    (s.alog.copy.isSome = true) →
    Runs (.alogSave) s fun t =>
      t = s.answer .done) ∧
  (∀ (s : State) (ok : Bool), s.Wf →
    (s.alog.copy.isSome = true) →
    (s.xsRuns = true) →
    Runs (.alogCopyDone ok) s fun t =>
      t = s) ∧
  (∀ (s : State) (ok : Bool) (q : Nat), s.Wf →
    (s.alog.copy = some q) →
    (s.xsRuns = false) →
    Runs (.alogCopyDone ok) s fun t =>
      t.flag ALOG_STAT_SAVING = false ∧
      t.alog.copy = none ∧
      t.alog.seq = q ∧
      ok = true ∨ (t.flash = s.flash ∧ bitOf (t.num ALOG_ERR) 2 = true) ∧
      (∀ o n, s.logPart = some (o, n) → ∀ a, a < o ∨ o + copySize * max 1 n ≤ a → t.flash.read 0xFF a = s.flash.read 0xFF a) ∧
      (s.logPart = none → t.flash = s.flash) ∧
      t.logArray = s.logArray) ∧
  (∀ (s : State) (ok : Bool), s.Wf →
    (s.alog.copy = none) →
    Runs (.alogCopyDone ok) s fun t =>
      t = s) ∧
  (∀ (s : State), s.Wf →
    (s.dieOn 5 = true) →
    (s.alog.frozen = none) →
    Runs (.alogFreeze) s fun t =>
      t.alog.frozen = some s.mtime ∧
      t.flag ALOG_STAT_FROZEN = true ∧
      t.logArray = s.logArray) ∧
  (∀ (s : State), s.Wf →
    (s.dieOn 5 = true) →
    (s.alog.frozen.isSome = true) →
    Runs (.alogFreeze) s fun t =>
      t = s.answer .done) ∧
  (∀ (s : State), s.Wf →
    (s.dieOn 5 = true) →
    Runs (.alogUnfreeze) s fun t =>
      t.alog.frozen = none ∧
      t.flag ALOG_STAT_FROZEN = false ∧
      t.logQueue = s.logQueue) ∧
  (∀ (s : State), s.Wf →
    (s.passed s.alog.frozen 60000000 = true) →
    Runs (.freezeTimeout) s fun t =>
      t.alog.frozen = none ∧
      t.flag ALOG_STAT_FROZEN = false ∧
      t.logQueue = s.logQueue) ∧
  (∀ (s : State) (value : Word), s.Wf →
    (s.dieOn 5 = true) →
    Runs (.actStateWrite value) s fun t =>
      (List.range 4).all (fun n => let old := s.actState n; let new := bitsOf value.toNat (2 * n + 1) (2 * n); decide (t.actState n = (if old = 2 ∧ (new = 3 ∨ (new = 1 ∧ s.mayOnline n = true)) then new else old)))= true) ∧
  (∀ (s : State) (value : Word), s.Wf →
    (s.dieOn 5 = true) →
    Runs (.fatalCmdWrite value) s fun t =>
      t.fatal = s.fatal ++ (if value = 0x0E59FA7A then [FatalCause.command] else []) ∧
      t.bank = s.bank) ∧
  (∀ (s : State), s.Wf →
    (s.fatal = []) →
    Runs (.fatalSequence) s fun t =>
      t = s) ∧
  (∀ (s : State) (k : FatalCause) (rest : List FatalCause), s.Wf →
    (s.fatal = k :: rest) →
    (s.alog.fatalAt = none) →
    Runs (.fatalSequence) s fun t =>
      t.fatal = rest ∧
      t.alog.fatalAt = some s.mtime ∧
      t.alog.fatals = s.alog.fatals + 1 ∧
      t.alog.frozen = none ∧
      t.alog.retracted = false ∧
      t.host.stopped = true ∧
      t.host.ctrls.toList.all (fun k => k.cfs) = true ∧
      t.alog.dumped = !(decide (s.cacheMode = 0) && decide (s.dumpState = 1)) ∧
      t.bootDue = s.bootDue) ∧
  (∀ (s : State) (k : FatalCause) (rest : List FatalCause), s.Wf →
    (s.fatal = k :: rest) →
    (s.alog.fatalAt.isSome = true) →
    Runs (.fatalSequence) s fun t =>
      t = { s with fatal := rest }) ∧
  (∀ (s : State), s.Wf →
    (s.passed s.alog.fatalAt 1000000 = true) →
    Runs (.fatalRetractTimeout) s fun t =>
      t.allUnloaded = true ∧
      t.alog.retracted = true) ∧
  (∀ (s : State), s.Wf →
    (s.alog.fatalAt = none) →
    (s.isSealed = false) →
    Runs (.fatalRetractTimeout) s fun t =>
      t = s) ∧
  (∀ (s : State), s.Wf →
    (s.alog.fatalAt.isSome = true) →
    (s.alog.retracted = true ∨ s.allUnloaded = true) →
    (s.alog.dumped = true) →
    (s.dmp.run = none) →
    (s.kprLinkFailed = false) →
    (s.bootDue = none) →
    Runs (.fatalFullBoot) s fun t =>
      t.bootDue = some 5 ∧
      t.alog.copy.isSome = true ∧
      t.flag CLS_STAT_BEATING = false ∧
      t.spinState = (if s.spinState = spStopped ∨ s.spinState = spFailed then s.spinState else spCoast)) ∧
  (∀ (s : State), s.Wf →
    (s.alog.fatalAt = none ∨ s.alog.dumped = false ∨ s.kprLinkFailed = true) →
    Runs (.fatalFullBoot) s fun t =>
      t = s) ∧
  (∀ (s : State), s.Wf →
    (s.kprLinkFailed = true) →
    (s.passed s.alog.fatalAt 2000000 = true) →
    Runs (.kprLinkFailTimer true) s fun t =>
      t.bootDue = some (s.bootDue.getD 5)) ∧
  (∀ (s : State), s.Wf →
    (s.kprLinkFailed = true) →
    (s.passed s.alog.fatalAt 1000000 = true) →
    Runs (.kprLinkFailTimer false) s fun t =>
      t.flag CLS_STAT_BEATING = false ∧
      t.bootDue = s.bootDue) ∧
  (∀ (s : State) (second : Bool), s.Wf →
    (s.kprLinkFailed = false) →
    Runs (.kprLinkFailTimer second) s fun t =>
      t = s)

/-- In every well-formed state: a core command is refused while one runs, ends BAD_CMD with a shape the registers do not
allow and REFUSED where a program or erase leaves the drive-maker data partitions, and else runs, or waits while a log
copy or the update engine is served; at its end a read has written memory from the flash and an erase has erased its
range and nothing else; a failure is reported. TEST_EN high holds every die in reset; the TAP's instructions are in
force as loaded, those that need TEST_EN act as BYPASS without it, and IDCODE gives the identification. The UART's
FIFOs keep 16 bytes in order and tell of an overflow; GPIO_IN shows OUT at the pins the part drives and the outside's
levels at the others, and a change of an enabled one is latched; MGMT on I3C takes the address that ENTDAA or SETDASA
to its static address gives it. -/
def Obligations.Pins_flash_commands_and_the_TAP : Prop :=
  (∀ (s : State), s.Wf →
    (s.dieOn 0 = true) →
    (s.flag XS_STAT_BUSY = true) →
    Runs (.xsRead) s fun t =>
      t = (s.answer .done).put XS_STAT_REJ 1) ∧
  (∀ (s : State), s.Wf →
    (s.dieOn 0 = true) →
    (s.flag XS_STAT_BUSY = true) →
    Runs (.xsProgram) s fun t =>
      t = (s.answer .done).put XS_STAT_REJ 1) ∧
  (∀ (s : State), s.Wf →
    (s.dieOn 0 = true) →
    (s.flag XS_STAT_BUSY = true) →
    Runs (.xsErase) s fun t =>
      t = (s.answer .done).put XS_STAT_REJ 1) ∧
  (∀ (s : State), s.Wf →
    (s.dieOn 0 = true) →
    (s.flag XS_STAT_BUSY = false) →
    (xsShape xsRead (s.num XS_FADDR) (s.num XS_MADDR_LO + 2 ^ 32 * (s.num XS_MADDR_HI % 256)) (s.num XS_LEN) = true) →
    Runs (.xsRead) s fun t =>
      t = { (s.answer .done).put XS_STAT_BUSY 1 with xsJob := some ⟨1, s.num XS_FADDR, s.num XS_MADDR_LO + 2 ^ 32 * (s.num XS_MADDR_HI % 256), s.num XS_LEN⟩, xsHeld := s.alog.copy.isSome || s.updFlash }) ∧
  (∀ (s : State), s.Wf →
    (s.dieOn 0 = true) →
    (s.flag XS_STAT_BUSY = false) →
    (xsShape xsProgram (s.num XS_FADDR) (s.num XS_MADDR_LO + 2 ^ 32 * (s.num XS_MADDR_HI % 256)) (s.num XS_LEN) = true) →
    (s.xsOpen (s.num XS_FADDR) (s.num XS_LEN) = true) →
    Runs (.xsProgram) s fun t =>
      t = { (s.answer .done).put XS_STAT_BUSY 1 with xsJob := some ⟨2, s.num XS_FADDR, s.num XS_MADDR_LO + 2 ^ 32 * (s.num XS_MADDR_HI % 256), s.num XS_LEN⟩, xsHeld := s.alog.copy.isSome || s.updFlash }) ∧
  (∀ (s : State), s.Wf →
    (s.dieOn 0 = true) →
    (s.flag XS_STAT_BUSY = false) →
    (xsShape xsErase (s.num XS_FADDR) (s.num XS_MADDR_LO + 2 ^ 32 * (s.num XS_MADDR_HI % 256)) (s.num XS_LEN) = true) →
    (s.xsOpen (s.num XS_FADDR) (s.num XS_LEN) = true) →
    Runs (.xsErase) s fun t =>
      t = { (s.answer .done).put XS_STAT_BUSY 1 with xsJob := some ⟨3, s.num XS_FADDR, s.num XS_MADDR_LO + 2 ^ 32 * (s.num XS_MADDR_HI % 256), s.num XS_LEN⟩, xsHeld := s.alog.copy.isSome || s.updFlash }) ∧
  (∀ (s : State), s.Wf →
    (s.dieOn 0 = true) →
    (s.flag XS_STAT_BUSY = false) →
    (xsShape xsErase (s.num XS_FADDR) (s.num XS_MADDR_LO + 2 ^ 32 * (s.num XS_MADDR_HI % 256)) (s.num XS_LEN) = true) →
    (s.xsOpen (s.num XS_FADDR) (s.num XS_LEN) = false) →
    Runs (.xsErase) s fun t =>
      t.get XS_STAT_RESULT = 1 ∧
      t.flag XS_STAT_DONE = true ∧
      t.flag XS_STAT_BUSY = false ∧
      bitOf (t.num XS_ERR) 2 = true ∧
      t.flash = s.flash) ∧
  (∀ (s : State), s.Wf →
    (s.dieOn 0 = true) →
    (s.flag XS_STAT_BUSY = false) →
    (xsShape xsRead (s.num XS_FADDR) (s.num XS_MADDR_LO + 2 ^ 32 * (s.num XS_MADDR_HI % 256)) (s.num XS_LEN) = false) →
    Runs (.xsRead) s fun t =>
      t.get XS_STAT_RESULT = 5 ∧
      t.flag XS_STAT_DONE = true ∧
      t.flash = s.flash) ∧
  (∀ (s : State) (faddr maddr len : Nat), s.Wf →
    (s.dieOn 0 = true) →
    (s.xsJob = some ⟨1, faddr, maddr, len⟩) →
    (s.xsHeld = false) →
    (inHubSram maddr len = true) →
    (s.marks = []) →
    Runs (.xsDone true) s fun t =>
      t.xsJob = none ∧
      t.flag XS_STAT_DONE = true ∧
      t.get XS_STAT_RESULT = 0 ∧
      t.flash = s.flash ∧
      t.hsram.readN 0 (maddr - sramBase) len = s.flashBytes faddr len) ∧
  (∀ (s : State) (faddr maddr len : Nat), s.Wf →
    (s.dieOn 0 = true) →
    (s.xsJob = some ⟨3, faddr, maddr, len⟩) →
    (s.xsHeld = false) →
    Runs (.xsDone true) s fun t =>
      t.xsJob = none ∧
      t.flag XS_STAT_DONE = true ∧
      t.get XS_STAT_RESULT = 0 ∧
      (∀ a, t.flash.read 0xFF a = (if faddr ≤ a ∧ a < faddr + len then 0xFF else s.flash.read 0xFF a))) ∧
  (∀ (s : State) (faddr maddr len : Nat), s.Wf →
    (s.dieOn 0 = true) →
    (s.xsJob = some ⟨3, faddr, maddr, len⟩) →
    (s.xsHeld = false) →
    Runs (.xsDone false) s fun t =>
      t.xsJob = none ∧
      t.flag XS_STAT_DONE = true ∧
      t.get XS_STAT_RESULT = 2 ∧
      bitOf (t.num XS_ERR) 1 = true ∧
      (∀ a, a < faddr ∨ faddr + len ≤ a → t.flash.read 0xFF a = s.flash.read 0xFF a)) ∧
  (∀ (s : State) (ok : Bool), s.Wf →
    (s.xsHeld = true) →
    Runs (.xsDone ok) s fun t =>
      t = s) ∧
  (∀ (s : State) (ok : Bool), s.Wf →
    (s.xsJob = none) →
    Runs (.xsDone ok) s fun t =>
      t = s) ∧
  (∀ (s : State), s.Wf →
    (s.pins.test = false) →
    Runs (.testEnAssert) s fun t =>
      t.pins.test = true ∧
      t.pins.ir = s.pins.ir ∧
      t.nvs = s.nvs ∧
      t.flash = s.flash ∧
      t.otp = s.otp ∧
      t.img = none ∧
      (List.range 6).all (fun d => !(t.dieOn d)) = true) ∧
  (∀ (s : State), s.Wf →
    (s.pins.test = true) →
    Runs (.testEnDeassert) s fun t =>
      t.pins.test = false ∧
      t.pins.ir = (if s.pins.ir = 0x00 ∨ s.pins.ir = 0x04 ∨ s.pins.ir = 0x05 then 0x3F else s.pins.ir) ∧
      t.nvs = s.nvs ∧
      t.flash = s.flash ∧
      t.otp = s.otp) ∧
  (∀ (s : State), s.Wf →
    Runs (.tapReset) s fun t =>
      t = s.modPins (fun p => { p with ir := 0x01 })) ∧
  (∀ (s : State), s.Wf →
    Runs (.idcode) s fun t =>
      t = (s.modPins (fun p => { p with ir := 0x01 })).answer (.data 0x284401CB)) ∧
  (∀ (s : State) (cells : List Bool), s.Wf →
    (s.pins.test = true) →
    Runs (.extest cells) s fun t =>
      t = s.modPins (fun p => { p with ir := 0x00, cells := cells })) ∧
  (∀ (s : State) (cells : List Bool), s.Wf →
    (s.pins.test = false) →
    Runs (.extest cells) s fun t =>
      t = s.modPins (fun p => { p with ir := 0x3F })) ∧
  (∀ (s : State) (levels cells : List Bool), s.Wf →
    Runs (.samplePreload levels cells) s fun t =>
      t.pins.ir = 0x02 ∧
      t.pins.cells = cells ∧
      t.resp = .data (levels.foldr (fun b n => ofBool b + 2 * n) 0) ∧
      t.bank = s.bank) ∧
  (∀ (s : State), s.Wf →
    Runs (.clamp) s fun t =>
      t = s.modPins (fun p => { p with ir := if s.pins.test then 0x04 else 0x3F })) ∧
  (∀ (s : State), s.Wf →
    Runs (.highz) s fun t =>
      t = s.modPins (fun p => { p with ir := if s.pins.test then 0x05 else 0x3F })) ∧
  (∀ (s : State), s.Wf →
    Runs (.bypass) s fun t =>
      t = s.modPins (fun p => { p with ir := 0x3F })) ∧
  (∀ (s : State) (value : Word), s.Wf →
    (s.dieOn 0 = true) →
    (s.pins.tx.length < 16) →
    Runs (.uartDataWrite value) s fun t =>
      t = (s.answer .done).modPins (fun p => { p with tx := p.tx ++ [BitVec.ofNat 8 value.toNat] })) ∧
  (∀ (s : State) (value : Word), s.Wf →
    (s.dieOn 0 = true) →
    (16 ≤ s.pins.tx.length) →
    Runs (.uartDataWrite value) s fun t =>
      t = (s.answer .done).put UART_STAT_TX_OVF 1) ∧
  (∀ (s : State), s.Wf →
    (s.dieOn 0 = true) →
    (s.pins.rx = []) →
    Runs (.uartDataRead) s fun t =>
      t = s.answer (.data 0)) ∧
  (∀ (s : State) (b : Byte) (rest : List Byte), s.Wf →
    (s.dieOn 0 = true) →
    (s.pins.rx = b :: rest) →
    Runs (.uartDataRead) s fun t =>
      t = (s.answer (.data (256 + b.toNat))).modPins (fun p => { p with rx := rest })) ∧
  (∀ (s : State) (byte : Byte), s.Wf →
    (s.dieOn 0 = true) →
    (s.flag UART_CTL_EN = true) →
    (s.pins.rx.length < 16) →
    Runs (.uartReceive byte) s fun t =>
      t.pins.rx = s.pins.rx ++ [byte] ∧
      s.pins.rx = [] ∨ t = s.modPins (fun p => { p with rx := p.rx ++ [byte] })) ∧
  (∀ (s : State) (byte : Byte), s.Wf →
    (s.dieOn 0 = true) →
    (s.flag UART_CTL_EN = true) →
    (16 ≤ s.pins.rx.length) →
    Runs (.uartReceive byte) s fun t =>
      t.pins.rx = s.pins.rx ∧
      t.flag UART_STAT_RX_OVF = true) ∧
  (∀ (s : State) (d : Nat), s.Wf →
    (s.dieOn 0 = true) →
    (s.img = none ∨ s.get MGMT_STAT_BUS = 1) →
    Runs (.i3cAddressAssignment (.entdaa d)) s fun t =>
      t = (s.put MGMT_STAT_ADDR (d % 128)).put MGMT_STAT_ASSIGNED 1) ∧
  (∀ (s : State) (i : Image) (d : Nat), s.Wf →
    (s.dieOn 0 = true) →
    (s.img = some i) →
    (s.get MGMT_STAT_BUS = 1) →
    Runs (.i3cAddressAssignment (.setdasa i.mgmtAddr d)) s fun t =>
      t = (s.put MGMT_STAT_ADDR (d % 128)).put MGMT_STAT_ASSIGNED 1) ∧
  (∀ (s : State) (st d : Nat), s.Wf →
    (s.dieOn 0 = true) →
    (s.staticAddr ≠ some st) →
    Runs (.i3cAddressAssignment (.setdasa st d)) s fun t =>
      t = s) ∧
  (∀ (s : State) (a : I3cAssign), s.Wf →
    (s.dieOn 0 = true) →
    (s.img.isSome = true) →
    (s.get MGMT_STAT_BUS ≠ 1) →
    Runs (.i3cAddressAssignment a) s fun t =>
      t = s) ∧
  (∀ (s : State) (levels : BitVec 16), s.Wf →
    (s.dieOn 0 = true) →
    Runs (.gpioChange levels) s fun t =>
      t.pins.gpio = levels ∧
      t.get GPIO_IN_IN = ((levels &&& ~~~s.gpioDriven) ||| (BitVec.ofNat 16 (s.num GPIO_OUT) &&& s.gpioDriven)).toNat ∧
      (List.range 16).all (fun i => decide (bitOf (t.get GPIO_EVT_CHG) i = (bitOf (s.get GPIO_EVT_CHG) i || (bitOf ((s.pins.gpio ^^^ levels) &&& ~~~s.gpioDriven).toNat i && bitOf (s.get GPIO_EVT_EN) i)))) = true ∧
      t.flash = s.flash)

/-- For every state: a step with a command at the front of the queue is that command's exec on the state with the rest of
the queue; with an empty queue it answers a next state in which TSTAMP and MTIME have counted one microsecond and the
operating time one unit at each 125,000th, or, while TEST_EN holds the dies in reset, the state itself. That an idle
step is a microsecond is the model's choice (notes/assumptions/4.md). -/
def Obligations.A_step_runs_the_front_command_or_a_microsecond : Prop :=
  (∀ (s : State) (c : Instr) (rest : List Instr), s.pending = c :: rest → step s = exec c { s with pending := rest }) ∧
  (∀ (s : State), s.pending = [] → s.pins.test = true → step s = .next s) ∧
  (∀ (s : State), s.pending = [] → s.pins.test = false → ∃ t, step s = .next t ∧ t.pending = [] ∧
    t.num TSTAMP = (s.num TSTAMP + 1) % 2 ^ 32 ∧ t.mtime = s.mtime + 1 ∧
    t.optime = (if 125000 ≤ s.subUs + 1 then (s.optime + 1) % 2 ^ 40 else s.optime) ∧ t.nvs = s.nvs ∧ t.flash = s.flash ∧ t.host = s.host)

/-- The state after reset is well formed; every register reads its reset value (where the tables give none, the model's,
notes/assumptions/1.md); no command waits, no image is in force, every OTP bit is 0 and every byte of flash erased. -/
def Obligations.Reset_is_the_tables_and_well_formed : Prop :=
  State.reset.Wf ∧ (∀ a, State.reset.rd a = resetOf a) ∧ State.reset.pending = [] ∧ State.reset.img = none ∧
  (∀ a i, State.reset.otpBit a i = false) ∧ (∀ a, State.reset.flash.read 0xFF a = 0xFF)

/-- For every well-formed state, whatever command stands at the front of its queue or with none, a step that answers a
next state answers a well-formed one: the register bank, the captured words, HUB and CH SRAM, DRAM, the NV store, the
flash, the OTP array and the Inventory buffers stay in canonical form. -/
def Obligations.Every_step_keeps_the_canonical_forms : Prop :=
  ∀ (s t : State), s.Wf → step s = .next t → t.Wf

/-- For every well-formed state and every step that answers a next state, whatever the command: a bit of the OTP array
that is 1 before is 1 after. -/
def Obligations.No_step_clears_an_OTP_bit : Prop :=
  ∀ (s t : State), s.Wf → step s = .next t → ∀ a i, s.otpBit a i = true → t.otpBit a i = true

/-- For every state and every step that answers a next state, the commands that wait after it are those that waited before
it without the first. The queue is the model's own, not the manual's (notes/assumptions/7.md). -/
def Obligations.A_step_only_takes_from_the_queue : Prop :=
  ∀ (s t : State), step s = .next t → t.pending = s.pending.tail

/-- For the commands of the links, wedge time, position sensing, servo control and the spindle: in every well-formed state
and with every operand each completes: there is a next state, and it differs from the state before only in the fields
of State each names, and among the registers only in those of the units it names; the other memories, queues and
units, the NV store, the flash, the OTP array, the image in force and the queue of commands are as before unless
named. -/
def Obligations.Servo_spindle_and_wedge_commands_leave_the_rest : Prop :=
  (∀ (s : State) (e : LinkEnd) (q : Fin 8) (fate : MsgFate) (badWords : List Nat), s.Wf → Runs (.msgPacketReceive e q fate badWords) s fun t =>
      t = { s with bank := t.bank, links := t.links, msgFlight := t.msgFlight, evFlight := t.evFlight, pend := t.pend, logQueue := t.logQueue, seen := t.seen, contained := t.contained }) ∧
  (∀ (s : State) (e : LinkEnd) (q : Fin 8), s.Wf → Runs (.rxqDataLoRead e q) s fun t =>
      t = { s with bank := t.bank, resp := t.resp, links := t.links, evFlight := t.evFlight, pend := t.pend, logQueue := t.logQueue, seen := t.seen, contained := t.contained }) ∧
  (∀ (s : State) (e : LinkEnd) (q : Fin 8) (value : Word), s.Wf → Runs (.txqDataHiWrite e q value) s fun t =>
      t = { s with resp := t.resp, links := t.links }) ∧
  (∀ (s : State) (e : LinkEnd) (q : Fin 8), s.Wf → Runs (.txqGo e q) s fun t =>
      t = { s with resp := t.resp, links := t.links, msgFlight := t.msgFlight }) ∧
  (∀ (s : State) (e : LinkEnd) (q : Fin 8), s.Wf → Runs (.txqDiscard e q) s fun t =>
      t = { s with resp := t.resp, links := t.links }) ∧
  (∀ (s : State) (e : LinkEnd), s.Wf → Runs (.linkClrDrop e) s fun t =>
      t = { s with bank := t.bank, resp := t.resp, overrides := t.overrides }) ∧
  (∀ (s : State) (e : LinkEnd) (sameFlit : Bool), s.Wf → Runs (.flitReplay e sameFlit) s fun t =>
      t = { s with bank := t.bank, links := t.links, evFlight := t.evFlight, pend := t.pend, logQueue := t.logQueue, seen := t.seen, contained := t.contained } ∧
      keepsOutside s t [13, 14] [17] [8, 14]) ∧
  (∀ (s : State) (e : LinkEnd), s.Wf → Runs (.linkRetrain e) s fun t =>
      t = { s with bank := t.bank, links := t.links, evFlight := t.evFlight, pend := t.pend, logQueue := t.logQueue, seen := t.seen, contained := t.contained } ∧
      keepsOutside s t [13, 14] [17] [8, 14]) ∧
  (∀ (s : State) (e : LinkEnd), s.Wf → Runs (.linkRetrainCmd e) s fun t =>
      t = { s with bank := t.bank, resp := t.resp, links := t.links, evFlight := t.evFlight, pend := t.pend, logQueue := t.logQueue, overrides := t.overrides, seen := t.seen, contained := t.contained }) ∧
  (∀ (s : State) (e : LinkEnd) (trained : Bool) (lanes : Nat), s.Wf → Runs (.retrainComplete e trained lanes) s fun t =>
      t = { s with bank := t.bank, links := t.links, evFlight := t.evFlight, pend := t.pend } ∧
      keepsOutside s t [13, 14] [17] [14]) ∧
  (∀ (s : State) (e : LinkEnd), s.Wf → Runs (.linkFailed e) s fun t =>
      t = { s with bank := t.bank, evFlight := t.evFlight, pend := t.pend, logQueue := t.logQueue, hsram := t.hsram, csram := t.csram, sramValid := t.sramValid, dram := t.dram, valid := t.valid, marks := t.marks, lines := t.lines, victims := t.victims, bufs := t.bufs, poolFree := t.poolFree, host := t.host, loop := t.loop, clv := t.clv, fatal := t.fatal, core := t.core, seen := t.seen, contained := t.contained } ∧
      keepsOutside s t [4, 5, 6, 13, 14, 17] [9, 10, 13, 15, 17] [8, 14]) ∧
  (∀ (s : State) (ch : Ch), s.Wf → Runs (.forwardFrameSend ch) s fun t =>
      t = { s with wl := t.wl, shock := t.shock }) ∧
  (∀ (s : State) (ch : Ch) (errs : BitVec 96), s.Wf → Runs (.forwardFrameReceive ch errs) s fun t =>
      t = { s with bank := t.bank, evFlight := t.evFlight, pend := t.pend, logQueue := t.logQueue, csram := t.csram, sramValid := t.sramValid, marks := t.marks, demod := t.demod, loop := t.loop, clv := t.clv, wru := t.wru, core := t.core, seen := t.seen, contained := t.contained } ∧
      keepsOutsideCh s t ch [5, 6, 9, 10, 13, 17] [13] [] [8]) ∧
  (∀ (s : State) (ch : Ch), s.Wf → Runs (.wedgeLineFail ch) s fun t =>
      t = { s with bank := t.bank, evFlight := t.evFlight, pend := t.pend } ∧
      keepsOutsideCh s t ch [17] [13] [] []) ∧
  (∀ (s : State) (ch : Ch), s.Wf → Runs (.forwardStrandRestart ch) s fun t =>
      t = { s with wl := t.wl }) ∧
  (∀ (s : State) (ch : Ch) (errs : Option (BitVec 32)), s.Wf → Runs (.returnFrameReceive ch errs) s fun t =>
      t = { s with bank := t.bank, wl := t.wl, spin := t.spin } ∧
      keepsOutside s t [] [] [2, 5]) ∧
  (∀ (s : State) (ch : Ch), s.Wf → Runs (.wlLock ch) s fun t =>
      t = { s with bank := t.bank, wl := t.wl } ∧
      keepsOutside s t [] [] [2]) ∧
  (∀ (s : State) (ch : Ch), s.Wf → Runs (.wlRetFail ch) s fun t =>
      t = { s with bank := t.bank } ∧
      keepsOutside s t [] [] [2]) ∧
  (∀ (s : State), s.Wf → Runs (.xtalLoss) s fun t =>
      t = { s with bank := t.bank, evFlight := t.evFlight, pend := t.pend, csram := t.csram, sramValid := t.sramValid, marks := t.marks, wru := t.wru, fatal := t.fatal, core := t.core } ∧
      keepsOutside s t [13] [5, 6] [1]) ∧
  (∀ (s : State), s.Wf → Runs (.compUpdate) s fun t =>
      t = { s with bank := t.bank } ∧
      keepsOutside s t [] [] [1]) ∧
  (∀ (s : State), s.Wf → Runs (.optimeSave) s fun t =>
      t = { s with nvs := t.nvs }) ∧
  (∀ (s : State) (u : CalUnit), s.Wf → Runs (.calDue u) s fun t =>
      t = { s with bank := t.bank, cal := t.cal, waiting := t.waiting } ∧
      keepsOutside s t [0] [0, 2, 6, 8] [0]) ∧
  (∀ (s : State) (u : CalUnit), s.Wf → Runs (.calStart u) s fun t =>
      t = { s with bank := t.bank, resp := t.resp, cal := t.cal, waiting := t.waiting, overrides := t.overrides }) ∧
  (∀ (s : State) (u : CalUnit), s.Wf → Runs (.calHoldoffEnd u) s fun t =>
      t = { s with bank := t.bank, cal := t.cal, waiting := t.waiting } ∧
      keepsOutside s t [0] [0, 2, 6, 8] [0]) ∧
  (∀ (s : State) (u : CalUnit), s.Wf → Runs (.calDeadline u) s fun t =>
      t = { s with bank := t.bank, waiting := t.waiting } ∧
      keepsOutside s t [0] [0, 2, 6, 8] [0]) ∧
  (∀ (s : State) (unit : SharedUnit) (others : List Nat) (folio : Bool), s.Wf → Runs (.sharedUnitGrant unit others folio) s fun t =>
      t = { s with bank := t.bank, cal := t.cal, waiting := t.waiting, holders := t.holders, yields := t.yields } ∧
      keepsOutside s t [0] [0, 2, 6, 8] [0]) ∧
  (∀ (s : State) (u : CalUnit) (measured : List Int), s.Wf → Runs (.calRunComplete u measured) s fun t =>
      t = { s with bank := t.bank, evFlight := t.evFlight, pend := t.pend, cal := t.cal, waiting := t.waiting, holders := t.holders, logQueue := t.logQueue, nvs := t.nvs, demod := t.demod, seen := t.seen, contained := t.contained } ∧
      keepsOutside s t [0, 13] [0, 2, 6, 8] [0, 8]) ∧
  (∀ (s : State) (ch : Ch), s.Wf → Runs (.servoGateOpen ch) s fun t =>
      t = { s with bank := t.bank, evFlight := t.evFlight, pend := t.pend, logQueue := t.logQueue, csram := t.csram, sramValid := t.sramValid, marks := t.marks, demod := t.demod, det := t.det, wru := t.wru, asu := t.asu, lmu := t.lmu, core := t.core, seen := t.seen, contained := t.contained } ∧
      keepsOutsideCh s t ch [3, 5, 6, 11] [13] [] [8]) ∧
  (∀ (s : State) (ch : Ch) (marks : List MarkSig), s.Wf → Runs (.samAccept ch marks) s fun t =>
      t = { s with bank := t.bank, evFlight := t.evFlight, pend := t.pend, wl := t.wl, cal := t.cal, waiting := t.waiting, holders := t.holders, slices := t.slices, yields := t.yields, csram := t.csram, sramValid := t.sramValid, marks := t.marks, overrides := t.overrides, demod := t.demod, loop := t.loop, det := t.det, wru := t.wru, asu := t.asu, pau := t.pau, lmu := t.lmu, spin := t.spin, core := t.core } ∧
      keepsOutsideCh s t ch [1, 3, 5, 9, 10, 13, 17] [0, 13] [0, 2, 6, 8] [0, 2]) ∧
  (∀ (s : State) (ch : Ch), s.Wf → Runs (.wedgeLoss ch) s fun t =>
      t = { s with bank := t.bank, evFlight := t.evFlight, pend := t.pend, wl := t.wl, cal := t.cal, waiting := t.waiting, holders := t.holders, slices := t.slices, yields := t.yields, csram := t.csram, sramValid := t.sramValid, marks := t.marks, overrides := t.overrides, demod := t.demod, loop := t.loop, det := t.det, wru := t.wru, asu := t.asu, pau := t.pau, lmu := t.lmu, spin := t.spin, core := t.core } ∧
      keepsOutsideCh s t ch [1, 3, 5, 9, 10, 13, 17] [0, 13] [0, 2, 6, 8] [0, 2]) ∧
  (∀ (s : State) (ch : Ch), s.Wf → Runs (.demodLoss ch) s fun t =>
      t = { s with bank := t.bank, evFlight := t.evFlight, pend := t.pend, csram := t.csram, sramValid := t.sramValid, marks := t.marks, demod := t.demod, wru := t.wru, core := t.core } ∧
      keepsOutsideCh s t ch [5, 6, 8] [13] [] []) ∧
  (∀ (s : State) (ch : Ch), s.Wf → Runs (.demodSearch ch) s fun t =>
      t = { s with resp := t.resp, demod := t.demod }) ∧
  (∀ (s : State) (ch : Ch), s.Wf → Runs (.searchExit ch) s fun t =>
      t = { s with bank := t.bank } ∧
      keepsOutsideCh s t ch [8] [] [] []) ∧
  (∀ (s : State) (ch : Ch) (value : Word), s.Wf → Runs (.demodCtlWrite ch value) s fun t =>
      t = { s with resp := t.resp, demod := t.demod }) ∧
  (∀ (s : State) (ch : Ch), s.Wf → Runs (.demodStatRead ch) s fun t =>
      t = { s with latch := t.latch, resp := t.resp }) ∧
  (∀ (s : State) (ch : Ch) (signals : List ServoSig) (telem : Bool), s.Wf → Runs (.pesReady ch signals telem) s fun t =>
      t = { s with bank := t.bank, free := t.free, evFlight := t.evFlight, pend := t.pend, csram := t.csram, sramValid := t.sramValid, marks := t.marks, demod := t.demod, loop := t.loop, loopPre := t.loopPre, hold := t.hold, wru := t.wru, core := t.core } ∧
      keepsOutsideCh s t ch [5, 6, 8, 9, 10] [13] [] []) ∧
  (∀ (s : State) (ch : Ch), s.Wf → Runs (.tdcTcUpdate ch) s fun t =>
      t = { s with bank := t.bank, demod := t.demod } ∧
      keepsOutsideCh s t ch [8] [] [] []) ∧
  (∀ (s : State) (ch : Ch), s.Wf → Runs (.tdcUnlock ch) s fun t =>
      t = { s with bank := t.bank, evFlight := t.evFlight, pend := t.pend, logQueue := t.logQueue, csram := t.csram, sramValid := t.sramValid, marks := t.marks, wru := t.wru, core := t.core, seen := t.seen, contained := t.contained } ∧
      keepsOutsideCh s t ch [5, 6, 8] [13] [] [8]) ∧
  (∀ (s : State) (ch : Ch), s.Wf → Runs (.tdcRelock ch) s fun t =>
      t = { s with bank := t.bank } ∧
      keepsOutsideCh s t ch [8] [] [] []) ∧
  (∀ (s : State) (ch : Ch) (value : Word), s.Wf → Runs (.demodCntClr ch value) s fun t =>
      t = { s with bank := t.bank, resp := t.resp } ∧
      keepsOutsideCh s t ch [8] [] [] []) ∧
  (∀ (s : State) (ch : Ch), s.Wf → Runs (.loopGo ch) s fun t =>
      t = { s with bank := t.bank, resp := t.resp, loop := t.loop, det := t.det } ∧
      keepsOutsideCh s t ch [9] [] [] []) ∧
  (∀ (s : State) (ch : Ch) (keep : Bool), s.Wf → Runs (.loopManual ch keep) s fun t =>
      t = { s with bank := t.bank, resp := t.resp, loop := t.loop, det := t.det } ∧
      keepsOutsideCh s t ch [9] [] [] []) ∧
  (∀ (s : State) (ch : Ch), s.Wf → Runs (.loopAuto ch) s fun t =>
      t = { s with bank := t.bank, resp := t.resp, loop := t.loop, det := t.det } ∧
      keepsOutsideCh s t ch [9] [] [] []) ∧
  (∀ (s : State) (ch : Ch), s.Wf → Runs (.loadHeads ch) s fun t =>
      t = { s with bank := t.bank, resp := t.resp, loop := t.loop, det := t.det } ∧
      keepsOutsideCh s t ch [9] [] [] []) ∧
  (∀ (s : State) (ch : Ch), s.Wf → Runs (.unloadHeads ch) s fun t =>
      t = { s with bank := t.bank, resp := t.resp, loop := t.loop, det := t.det } ∧
      keepsOutsideCh s t ch [9] [] [] []) ∧
  (∀ (s : State) (ch : Ch), s.Wf → Runs (.loopRearm ch) s fun t =>
      t = { s with bank := t.bank, resp := t.resp, loop := t.loop, det := t.det } ∧
      keepsOutsideCh s t ch [9] [] [] []) ∧
  (∀ (s : State) (ch : Ch), s.Wf → Runs (.feTrip ch) s fun t =>
      t = { s with bank := t.bank, evFlight := t.evFlight, pend := t.pend, logQueue := t.logQueue, loop := t.loop, seen := t.seen, contained := t.contained } ∧
      keepsOutsideCh s t ch [9, 10, 13] [13] [] [8]) ∧
  (∀ (s : State) (ch : Ch), s.Wf → Runs (.lostEntry ch) s fun t =>
      t = { s with bank := t.bank, evFlight := t.evFlight, pend := t.pend, logQueue := t.logQueue, loop := t.loop, seen := t.seen, contained := t.contained } ∧
      keepsOutsideCh s t ch [9, 10, 13] [13] [] [8]) ∧
  (∀ (s : State) (ch : Ch), s.Wf → Runs (.positionRecovered ch) s fun t =>
      t = { s with bank := t.bank, loop := t.loop } ∧
      keepsOutsideCh s t ch [9, 10, 13] [] [] []) ∧
  (∀ (s : State) (ch : Ch), s.Wf → Runs (.lostRetract ch) s fun t =>
      t = { s with bank := t.bank, loop := t.loop } ∧
      keepsOutsideCh s t ch [9, 10, 13] [] [] []) ∧
  (∀ (s : State) (ch : Ch), s.Wf → Runs (.loadComplete ch) s fun t =>
      t = { s with bank := t.bank, loop := t.loop } ∧
      keepsOutsideCh s t ch [9, 10, 13] [] [] []) ∧
  (∀ (s : State) (ch : Ch), s.Wf → Runs (.loadTimeout ch) s fun t =>
      t = { s with bank := t.bank, evFlight := t.evFlight, pend := t.pend, logQueue := t.logQueue, loop := t.loop, seen := t.seen, contained := t.contained } ∧
      keepsOutsideCh s t ch [9, 10, 13] [13] [] [8]) ∧
  (∀ (s : State) (ch : Ch), s.Wf → Runs (.unloadComplete ch) s fun t =>
      t = { s with bank := t.bank, free := t.free, loop := t.loop, clv := t.clv, clvFrame := t.clvFrame } ∧
      keepsOutsideCh s t ch [9, 10, 13] [] [] []) ∧
  (∀ (s : State) (ch : Ch), s.Wf → Runs (.clvRetract ch) s fun t =>
      t = { s with bank := t.bank, resp := t.resp, loop := t.loop, clv := t.clv } ∧
      keepsOutsideCh s t ch [9, 10, 13] [] [] []) ∧
  (∀ (s : State) (ch : Ch) (done : Bool), s.Wf → Runs (.phi0Latch ch done) s fun t =>
      t = { s with bank := t.bank, free := t.free, evFlight := t.evFlight, pend := t.pend, logQueue := t.logQueue, csram := t.csram, sramValid := t.sramValid, marks := t.marks, loop := t.loop, clv := t.clv, clvFrame := t.clvFrame, wru := t.wru, core := t.core, seen := t.seen, contained := t.contained } ∧
      keepsOutsideCh s t ch [5, 6, 9, 13] [13] [] [8]) ∧
  (∀ (s : State) (ch : Ch) (q : Fin 3), s.Wf → Runs (.subSetpoint ch q) s fun t =>
      t = { s with bank := t.bank, free := t.free, clv := t.clv, clvFrame := t.clvFrame } ∧
      keepsOutsideCh s t ch [13] [] [] []) ∧
  (∀ (s : State) (ch : Ch), s.Wf → Runs (.claspFrameRepeat ch) s fun t =>
      t = { s with bank := t.bank, free := t.free, clv := t.clv, clvFrame := t.clvFrame } ∧
      keepsOutsideCh s t ch [13] [] [] []) ∧
  (∀ (s : State) (ch : Ch) (again : Bool), s.Wf → Runs (.loopResidue ch again) s fun t =>
      t = { s with bank := t.bank, evFlight := t.evFlight, pend := t.pend, logQueue := t.logQueue, loop := t.loop, seen := t.seen, contained := t.contained } ∧
      keepsOutsideCh s t ch [9] [13] [] [8]) ∧
  (∀ (s : State) (ch : Ch), s.Wf → Runs (.holdHandover ch) s fun t =>
      t = { s with bank := t.bank, evFlight := t.evFlight, pend := t.pend, loop := t.loop, hold := t.hold, clv := t.clv } ∧
      keepsOutsideCh s t ch [9, 10, 13] [13] [] []) ∧
  (∀ (s : State) (ch : Ch) (pass : Bool), s.Wf → Runs (.loopRestartDone ch pass) s fun t =>
      t = { s with bank := t.bank, latch := t.latch, resp := t.resp, free := t.free, links := t.links, msgFlight := t.msgFlight, evFlight := t.evFlight, pend := t.pend, cal := t.cal, waiting := t.waiting, holders := t.holders, yields := t.yields, logQueue := t.logQueue, nvs := t.nvs, flash := t.flash, otp := t.otp, hsram := t.hsram, csram := t.csram, sramValid := t.sramValid, dram := t.dram, valid := t.valid, marks := t.marks, lines := t.lines, victims := t.victims, spares := t.spares, dcmdFull := t.dcmdFull, bufs := t.bufs, poolFree := t.poolFree, keys := t.keys, keyJob := t.keyJob, smFree := t.smFree, host := t.host, dump := t.dump, invNotes := t.invNotes, overrides := t.overrides, demod := t.demod, loop := t.loop, hold := t.hold, clv := t.clv, det := t.det, wru := t.wru, flu := t.flu, pau := t.pau, lmu := t.lmu, spin := t.spin, clasps := t.clasps, fatal := t.fatal, core := t.core, sig := t.sig, upd := t.upd, dbg := t.dbg, otpJob := t.otpJob, nvsJob := t.nvsJob, nvsWaits := t.nvsWaits, alog := t.alog, lad := t.lad, xsJob := t.xsJob, xsHeld := t.xsHeld, pins := t.pins, bootDue := t.bootDue, seen := t.seen, contained := t.contained }) ∧
  (∀ (s : State) (ch : Ch), s.Wf → Runs (.loopShadowEnd ch) s fun t =>
      t = { s with bank := t.bank, evFlight := t.evFlight, pend := t.pend, loop := t.loop } ∧
      keepsOutsideCh s t ch [9, 10, 13] [13] [] []) ∧
  (∀ (s : State) (ch : Ch), s.Wf → Runs (.holdInvalidRetract ch) s fun t =>
      t = { s with bank := t.bank, evFlight := t.evFlight, pend := t.pend, logQueue := t.logQueue, hsram := t.hsram, csram := t.csram, sramValid := t.sramValid, dram := t.dram, valid := t.valid, marks := t.marks, lines := t.lines, victims := t.victims, bufs := t.bufs, poolFree := t.poolFree, host := t.host, loop := t.loop, clv := t.clv, core := t.core, seen := t.seen, contained := t.contained } ∧
      keepsOutsideCh s t ch [9, 10, 13] [4, 5, 6, 13, 17] [15] [8]) ∧
  (∀ (s : State) (ch : Ch), s.Wf → Runs (.holdParity ch) s fun t =>
      t = { s with bank := t.bank, evFlight := t.evFlight, pend := t.pend, logQueue := t.logQueue, hsram := t.hsram, csram := t.csram, sramValid := t.sramValid, dram := t.dram, valid := t.valid, marks := t.marks, lines := t.lines, victims := t.victims, bufs := t.bufs, poolFree := t.poolFree, host := t.host, loop := t.loop, clv := t.clv, core := t.core, seen := t.seen, contained := t.contained } ∧
      keepsOutsideCh s t ch [9, 10, 13] [4, 5, 6, 13, 17] [15] [8]) ∧
  (∀ (s : State) (ch : Ch) (reg : Fin 7) (value : Word), s.Wf → Runs (.coeffDerive ch reg value) s fun t =>
      t = { s with bank := t.bank, resp := t.resp, overrides := t.overrides, loop := t.loop, hold := t.hold }) ∧
  (∀ (s : State) (ch : Ch) (value : Word), s.Wf → Runs (.seekPolicyWrite ch value) s fun t =>
      t = { s with bank := t.bank, resp := t.resp, overrides := t.overrides, demod := t.demod, loop := t.loop } ∧
      keepsOutsideCh s t ch [9] [] [] []) ∧
  (∀ (s : State) (shock : Nat) (rvx : Nat) (rvy : Nat), s.Wf → Runs (.shockSample shock rvx rvy) s fun t =>
      t = { s with bank := t.bank, evFlight := t.evFlight, pend := t.pend, shock := t.shock } ∧
      keepsOutside s t [13] [] [6]) ∧
  (∀ (s : State), s.Wf → Runs (.shockTripClear) s fun t =>
      t = { s with bank := t.bank, resp := t.resp } ∧
      keepsOutside s t [] [] [6]) ∧
  (∀ (s : State), s.Wf → Runs (.spinStart) s fun t =>
      t = { s with resp := t.resp, spin := t.spin }) ∧
  (∀ (s : State), s.Wf → Runs (.spinStop) s fun t =>
      t = { s with resp := t.resp, spin := t.spin }) ∧
  (∀ (s : State), s.Wf → Runs (.spinCoast) s fun t =>
      t = { s with resp := t.resp, spin := t.spin }) ∧
  (∀ (s : State), s.Wf → Runs (.spinClear) s fun t =>
      t = { s with resp := t.resp, spin := t.spin }) ∧
  (∀ (s : State) (iu : Int) (iv : Int) (iw : Int) (mu : Int) (mv : Int) (mw : Int) (theta : Nat) (omega : Int) (emf : Nat) (vmot : Nat), s.Wf → Runs (.pwmPeriod iu iv iw mu mv mw theta omega emf vmot) s fun t =>
      t = { s with bank := t.bank, free := t.free, evFlight := t.evFlight, pend := t.pend, logQueue := t.logQueue, spin := t.spin, seen := t.seen, contained := t.contained } ∧
      keepsOutside s t [13] [] [5, 8]) ∧
  (∀ (s : State) (k : Fin 6) (interval : Nat) (at_ : Nat), s.Wf → Runs (.zeroCrossing k interval at_) s fun t =>
      t = { s with bank := t.bank, evFlight := t.evFlight, pend := t.pend, logQueue := t.logQueue, spin := t.spin, seen := t.seen, contained := t.contained } ∧
      keepsOutside s t [13] [] [5, 8]) ∧
  (∀ (s : State) (emf : Nat × Nat × Nat), s.Wf → Runs (.senseTimeout emf) s fun t =>
      t = { s with bank := t.bank, evFlight := t.evFlight, pend := t.pend, spin := t.spin } ∧
      keepsOutside s t [13] [] [5]) ∧
  (∀ (s : State), s.Wf → Runs (.brakeHoldEnd) s fun t =>
      t = { s with spin := t.spin }) ∧
  (∀ (s : State) (emf : Nat), s.Wf → Runs (.brakeEmfCheck emf) s fun t =>
      t = { s with bank := t.bank, evFlight := t.evFlight, pend := t.pend, spin := t.spin } ∧
      keepsOutside s t [13] [] [5]) ∧
  (∀ (s : State), s.Wf → Runs (.alignComplete) s fun t =>
      t = { s with bank := t.bank, evFlight := t.evFlight, pend := t.pend, spin := t.spin } ∧
      keepsOutside s t [13] [] [5]) ∧
  (∀ (s : State), s.Wf → Runs (.rampHandover) s fun t =>
      t = { s with bank := t.bank, evFlight := t.evFlight, pend := t.pend, spin := t.spin } ∧
      keepsOutside s t [13] [] [5]) ∧
  (∀ (s : State), s.Wf → Runs (.handoverFail) s fun t =>
      t = { s with bank := t.bank, evFlight := t.evFlight, pend := t.pend, logQueue := t.logQueue, hsram := t.hsram, csram := t.csram, sramValid := t.sramValid, dram := t.dram, valid := t.valid, marks := t.marks, lines := t.lines, victims := t.victims, bufs := t.bufs, poolFree := t.poolFree, host := t.host, loop := t.loop, clv := t.clv, spin := t.spin, core := t.core, seen := t.seen, contained := t.contained } ∧
      keepsOutside s t [4, 5, 6, 13, 17] [9, 10, 13, 15] [5, 8]) ∧
  (∀ (s : State), s.Wf → Runs (.speedLock) s fun t =>
      t = { s with bank := t.bank, evFlight := t.evFlight, pend := t.pend, spin := t.spin } ∧
      keepsOutside s t [13] [] [5]) ∧
  (∀ (s : State), s.Wf → Runs (.startTimeout) s fun t =>
      t = { s with bank := t.bank, evFlight := t.evFlight, pend := t.pend, logQueue := t.logQueue, hsram := t.hsram, csram := t.csram, sramValid := t.sramValid, dram := t.dram, valid := t.valid, marks := t.marks, lines := t.lines, victims := t.victims, bufs := t.bufs, poolFree := t.poolFree, host := t.host, loop := t.loop, clv := t.clv, spin := t.spin, core := t.core, seen := t.seen, contained := t.contained } ∧
      keepsOutside s t [4, 5, 6, 13, 17] [9, 10, 13, 15] [5, 8]) ∧
  (∀ (s : State), s.Wf → Runs (.generateHoldEnd) s fun t =>
      t = { s with spin := t.spin }) ∧
  (∀ (s : State) (dev : Int), s.Wf → Runs (.referenceTick dev) s fun t =>
      t = { s with bank := t.bank, evFlight := t.evFlight, pend := t.pend, cal := t.cal, waiting := t.waiting, holders := t.holders, slices := t.slices, yields := t.yields, demod := t.demod, spin := t.spin } ∧
      keepsOutside s t [0, 13] [0, 2, 6, 8] [0, 5]) ∧
  (∀ (s : State), s.Wf → Runs (.spinLockSet) s fun t =>
      t = { s with bank := t.bank, evFlight := t.evFlight, pend := t.pend } ∧
      keepsOutside s t [13] [] [5]) ∧
  (∀ (s : State), s.Wf → Runs (.lossOfSynchronism) s fun t =>
      t = { s with bank := t.bank, evFlight := t.evFlight, pend := t.pend, logQueue := t.logQueue, spin := t.spin, seen := t.seen, contained := t.contained } ∧
      keepsOutside s t [13] [] [5, 8]) ∧
  (∀ (s : State), s.Wf → Runs (.holdAngleTimeout) s fun t =>
      t = { s with bank := t.bank, evFlight := t.evFlight, pend := t.pend, logQueue := t.logQueue, spin := t.spin, seen := t.seen, contained := t.contained } ∧
      keepsOutside s t [13] [] [5, 8]) ∧
  (∀ (s : State) (again : Bool), s.Wf → Runs (.spinResidue again) s fun t =>
      t = { s with bank := t.bank, evFlight := t.evFlight, pend := t.pend, logQueue := t.logQueue, spin := t.spin, seen := t.seen, contained := t.contained } ∧
      keepsOutside s t [13] [] [5, 8]) ∧
  (∀ (s : State), s.Wf → Runs (.spinRestartDone) s fun t =>
      t = { s with spin := t.spin }) ∧
  (∀ (s : State) (value : Word), s.Wf → Runs (.spinCfgWrite value) s fun t =>
      t = { s with bank := t.bank, resp := t.resp, free := t.free, overrides := t.overrides }) ∧
  (∀ (s : State), s.Wf → Runs (.claspBeat) s fun t =>
      t = { s with clasps := t.clasps }) ∧
  (∀ (s : State) (reply : Option Nat), s.Wf → Runs (.claspReply reply) s fun t =>
      t = { s with bank := t.bank, evFlight := t.evFlight, pend := t.pend, logQueue := t.logQueue, hsram := t.hsram, csram := t.csram, sramValid := t.sramValid, dram := t.dram, valid := t.valid, marks := t.marks, lines := t.lines, victims := t.victims, bufs := t.bufs, poolFree := t.poolFree, host := t.host, loop := t.loop, clv := t.clv, clasps := t.clasps, core := t.core, seen := t.seen, contained := t.contained } ∧
      keepsOutside s t [4, 5, 6, 13, 17] [9, 10, 13, 15] [5, 7, 8]) ∧
  (∀ (s : State), s.Wf → Runs (.claspNoReply) s fun t =>
      t = { s with bank := t.bank, evFlight := t.evFlight, pend := t.pend, logQueue := t.logQueue, clasps := t.clasps, seen := t.seen, contained := t.contained } ∧
      keepsOutside s t [13] [] [7, 8]) ∧
  (∀ (s : State) (lanes : Fin 16), s.Wf → Runs (.clsArm lanes) s fun t =>
      t = { s with bank := t.bank, resp := t.resp, evFlight := t.evFlight, pend := t.pend, logQueue := t.logQueue, clasps := t.clasps, seen := t.seen, contained := t.contained } ∧
      keepsOutside s t [13] [] [7, 8]) ∧
  (∀ (s : State) (lanes : Fin 16), s.Wf → Runs (.clsRetract lanes) s fun t =>
      t = { s with bank := t.bank, resp := t.resp, evFlight := t.evFlight, pend := t.pend, logQueue := t.logQueue, clasps := t.clasps, seen := t.seen, contained := t.contained } ∧
      keepsOutside s t [13] [] [7, 8]) ∧
  (∀ (s : State), s.Wf → Runs (.clsClear) s fun t =>
      t = { s with bank := t.bank, resp := t.resp, evFlight := t.evFlight, pend := t.pend, logQueue := t.logQueue, clasps := t.clasps, seen := t.seen, contained := t.contained } ∧
      keepsOutside s t [13] [] [7, 8]) ∧
  (∀ (s : State), s.Wf → Runs (.clsIdent) s fun t =>
      t = { s with bank := t.bank, resp := t.resp, evFlight := t.evFlight, pend := t.pend, logQueue := t.logQueue, clasps := t.clasps, seen := t.seen, contained := t.contained } ∧
      keepsOutside s t [13] [] [7, 8]) ∧
  (∀ (s : State), s.Wf → Runs (.clsBridge) s fun t =>
      t = { s with bank := t.bank, resp := t.resp, evFlight := t.evFlight, pend := t.pend, logQueue := t.logQueue, clasps := t.clasps, seen := t.seen, contained := t.contained } ∧
      keepsOutside s t [13] [] [7, 8]) ∧
  (∀ (s : State), s.Wf → Runs (.clsConfig) s fun t =>
      t = { s with bank := t.bank, resp := t.resp, evFlight := t.evFlight, pend := t.pend, logQueue := t.logQueue, clasps := t.clasps, seen := t.seen, contained := t.contained } ∧
      keepsOutside s t [13] [] [7, 8])

/-- For the commands of the read channel, the write and assist path, fly height, the preamp port, Folio and the Catalogue:
in every well-formed state and with every operand each completes: there is a next state, and it differs from the state
before only in the fields of State each names, and among the registers only in those of the units it names; the other
memories, queues and units, the NV store, the flash, the OTP array, the image in force and the queue of commands are
as before unless named. -/
def Obligations.Read_write_and_media_commands_leave_the_rest : Prop :=
  (∀ (s : State) (ch : Ch) (value : Word), s.Wf → Runs (.fmtSelWrite ch value) s fun t =>
      t = { s with bank := t.bank, resp := t.resp, overrides := t.overrides, det := t.det } ∧
      keepsOutsideCh s t ch [3] [] [] []) ∧
  (∀ (s : State) (ch : Ch) (late : Bool) (pos : Nat) (r : ReadSig), s.Wf → Runs (.dcmdRead ch late pos r) s fun t =>
      t = { s with bank := t.bank, free := t.free, evFlight := t.evFlight, pend := t.pend, logQueue := t.logQueue, csram := t.csram, sramValid := t.sramValid, marks := t.marks, det := t.det, lmu := t.lmu, core := t.core, seen := t.seen, contained := t.contained } ∧
      keepsOutsideCh s t ch [1, 2, 3, 4, 11] [13] [] [8]) ∧
  (∀ (s : State) (ch : Ch) (late : Bool) (pos : Nat) (r : ReadSig), s.Wf → Runs (.dcmdReadCont ch late pos r) s fun t =>
      t = { s with bank := t.bank, free := t.free, evFlight := t.evFlight, pend := t.pend, logQueue := t.logQueue, csram := t.csram, sramValid := t.sramValid, marks := t.marks, det := t.det, lmu := t.lmu, core := t.core, seen := t.seen, contained := t.contained } ∧
      keepsOutsideCh s t ch [1, 2, 3, 4, 11] [13] [] [8]) ∧
  (∀ (s : State) (ch : Ch), s.Wf → Runs (.decodeEnd ch) s fun t =>
      t = { s with bank := t.bank, evFlight := t.evFlight, pend := t.pend, logQueue := t.logQueue, csram := t.csram, sramValid := t.sramValid, marks := t.marks, det := t.det, core := t.core, seen := t.seen, contained := t.contained } ∧
      keepsOutsideCh s t ch [3, 4] [13] [] [8]) ∧
  (∀ (s : State) (ch : Ch), s.Wf → Runs (.slipSearch ch) s fun t =>
      t = { s with bank := t.bank, evFlight := t.evFlight, pend := t.pend, csram := t.csram, sramValid := t.sramValid, marks := t.marks, det := t.det, core := t.core } ∧
      keepsOutsideCh s t ch [3, 4] [13] [] []) ∧
  (∀ (s : State) (ch : Ch) (first : Fin 8) (last : Fin 8), s.Wf → Runs (.rcvGo ch first last) s fun t =>
      t = { s with bank := t.bank, resp := t.resp, evFlight := t.evFlight, pend := t.pend, holders := t.holders, yields := t.yields, csram := t.csram, sramValid := t.sramValid, marks := t.marks, loop := t.loop, det := t.det, core := t.core } ∧
      keepsOutsideCh s t ch [3, 4, 9] [13] [] []) ∧
  (∀ (s : State) (ch : Ch), s.Wf → Runs (.rcvAbort ch) s fun t =>
      t = { s with resp := t.resp, det := t.det }) ∧
  (∀ (s : State) (ch : Ch) (r : RevRead), s.Wf → Runs (.recoveryRevolution ch r) s fun t =>
      t = { s with bank := t.bank, free := t.free, evFlight := t.evFlight, pend := t.pend, holders := t.holders, yields := t.yields, logQueue := t.logQueue, csram := t.csram, sramValid := t.sramValid, marks := t.marks, loop := t.loop, det := t.det, core := t.core, seen := t.seen, contained := t.contained } ∧
      keepsOutsideCh s t ch [1, 2, 3, 4, 9] [13] [] [8]) ∧
  (∀ (s : State) (ch : Ch) (iter : Fin 128), s.Wf → Runs (.sjGo ch iter) s fun t =>
      t = { s with bank := t.bank, resp := t.resp, det := t.det } ∧
      keepsOutsideCh s t ch [4] [] [] []) ∧
  (∀ (s : State) (ch : Ch), s.Wf → Runs (.softJobDone ch) s fun t =>
      t = { s with bank := t.bank, evFlight := t.evFlight, pend := t.pend, csram := t.csram, sramValid := t.sramValid, marks := t.marks, det := t.det, core := t.core } ∧
      keepsOutsideCh s t ch [4] [13] [] []) ∧
  (∀ (s : State) (ch : Ch) (value : Word), s.Wf → Runs (.detectCntClr ch value) s fun t =>
      t = { s with bank := t.bank, resp := t.resp } ∧
      keepsOutsideCh s t ch [3, 4] [] [] []) ∧
  (∀ (s : State) (ch : Ch), s.Wf → Runs (.codewordEncode ch) s fun t =>
      t = { s with bank := t.bank, wru := t.wru } ∧
      keepsOutsideCh s t ch [5] [] [] []) ∧
  (∀ (s : State) (ch : Ch), s.Wf → Runs (.encodeDone ch) s fun t =>
      t = { s with bank := t.bank, wru := t.wru } ∧
      keepsOutsideCh s t ch [5] [] [] []) ∧
  (∀ (s : State) (ch : Ch) (late : Bool) (pos : Nat) (entered : Option Int), s.Wf → Runs (.dcmdWrite ch late pos entered) s fun t =>
      t = { s with bank := t.bank, evFlight := t.evFlight, pend := t.pend, logQueue := t.logQueue, csram := t.csram, sramValid := t.sramValid, marks := t.marks, demod := t.demod, det := t.det, wru := t.wru, asu := t.asu, lmu := t.lmu, core := t.core, seen := t.seen, contained := t.contained } ∧
      keepsOutsideCh s t ch [3, 5, 6, 11] [13] [] [8]) ∧
  (∀ (s : State) (ch : Ch) (late : Bool) (pos : Nat) (entered : Option Int), s.Wf → Runs (.dcmdWriteCont ch late pos entered) s fun t =>
      t = { s with bank := t.bank, evFlight := t.evFlight, pend := t.pend, logQueue := t.logQueue, csram := t.csram, sramValid := t.sramValid, marks := t.marks, demod := t.demod, wru := t.wru, asu := t.asu, lmu := t.lmu, core := t.core, seen := t.seen, contained := t.contained } ∧
      keepsOutsideCh s t ch [5, 6, 11] [13] [] [8]) ∧
  (∀ (s : State) (ch : Ch) (pos : Nat), s.Wf → Runs (.dcmdSplit ch pos) s fun t =>
      t = { s with bank := t.bank, det := t.det, wru := t.wru, asu := t.asu, lmu := t.lmu } ∧
      keepsOutsideCh s t ch [3, 4, 5, 6, 11] [] [] []) ∧
  (∀ (s : State) (ch : Ch), s.Wf → Runs (.dcmdClose ch) s fun t =>
      t = { s with bank := t.bank, evFlight := t.evFlight, pend := t.pend, csram := t.csram, sramValid := t.sramValid, marks := t.marks, det := t.det, wru := t.wru, lmu := t.lmu, core := t.core } ∧
      keepsOutsideCh s t ch [3, 4, 5, 6, 11] [13] [] []) ∧
  (∀ (s : State) (ch : Ch), s.Wf → Runs (.sectorWriteEnd ch) s fun t =>
      t = { s with bank := t.bank, evFlight := t.evFlight, pend := t.pend, csram := t.csram, sramValid := t.sramValid, marks := t.marks, wru := t.wru, asu := t.asu, core := t.core } ∧
      keepsOutsideCh s t ch [5, 6] [13] [] []) ∧
  (∀ (s : State) (ch : Ch), s.Wf → Runs (.setpointUpdate ch) s fun t =>
      t = { s with bank := t.bank } ∧
      keepsOutsideCh s t ch [6] [] [] []) ∧
  (∀ (s : State) (ch : Ch) (at_ : Int), s.Wf → Runs (.assistSample ch at_) s fun t =>
      t = { s with bank := t.bank, free := t.free, evFlight := t.evFlight, pend := t.pend, logQueue := t.logQueue, csram := t.csram, sramValid := t.sramValid, marks := t.marks, wru := t.wru, asu := t.asu, pau := t.pau, core := t.core, seen := t.seen, contained := t.contained } ∧
      keepsOutsideCh s t ch [5, 6] [13] [] [8]) ∧
  (∀ (s : State) (ch : Ch) (value : Word), s.Wf → Runs (.asPreheatWrite ch value) s fun t =>
      t = { s with bank := t.bank, resp := t.resp } ∧
      keepsOutsideCh s t ch [6] [] [] []) ∧
  (∀ (s : State) (ch : Ch) (value : Word), s.Wf → Runs (.wrPolicyWrite ch value) s fun t =>
      t = { s with bank := t.bank, resp := t.resp, overrides := t.overrides, wru := t.wru } ∧
      keepsOutsideCh s t ch [5] [] [] []) ∧
  (∀ (s : State) (ch : Ch) (reg : Fin 3) (head : Fin 6) (value : Word), s.Wf → Runs (.flyDerive ch reg head value) s fun t =>
      t = { s with bank := t.bank, resp := t.resp, overrides := t.overrides } ∧
      keepsOutsideCh s t ch [7] [] [] []) ∧
  (∀ (s : State) (ch : Ch) (value : Word), s.Wf → Runs (.flyReqWrite ch value) s fun t =>
      t = { s with bank := t.bank, resp := t.resp, pau := t.pau } ∧
      keepsOutsideCh s t ch [7] [] [] []) ∧
  (∀ (s : State) (ch : Ch) (head : Fin 8), s.Wf → Runs (.flyGo ch head) s fun t =>
      t = { s with bank := t.bank, resp := t.resp, evFlight := t.evFlight, pend := t.pend, holders := t.holders, yields := t.yields, csram := t.csram, sramValid := t.sramValid, marks := t.marks, wru := t.wru, flu := t.flu, pau := t.pau, core := t.core } ∧
      keepsOutsideCh s t ch [5, 6, 7] [13] [] []) ∧
  (∀ (s : State) (ch : Ch), s.Wf → Runs (.flyAbort ch) s fun t =>
      t = { s with resp := t.resp, flu := t.flu }) ∧
  (∀ (s : State) (ch : Ch), s.Wf → Runs (.contactSweepStep ch) s fun t =>
      t = { s with bank := t.bank, evFlight := t.evFlight, pend := t.pend, holders := t.holders, yields := t.yields, logQueue := t.logQueue, nvs := t.nvs, flu := t.flu, pau := t.pau, seen := t.seen, contained := t.contained } ∧
      keepsOutsideCh s t ch [7] [13] [] [8]) ∧
  (∀ (s : State) (ch : Ch) (lastSlot : Bool) (reply : Option Nat), s.Wf → Runs (.preampSlot ch lastSlot reply) s fun t =>
      t = { s with bank := t.bank, evFlight := t.evFlight, pend := t.pend, logQueue := t.logQueue, csram := t.csram, sramValid := t.sramValid, marks := t.marks, wru := t.wru, flu := t.flu, pau := t.pau, core := t.core, seen := t.seen, contained := t.contained } ∧
      keepsOutsideCh s t ch [5, 6, 12] [13] [] [8]) ∧
  (∀ (s : State) (ch : Ch), s.Wf → Runs (.preampNoReply ch) s fun t =>
      t = { s with bank := t.bank, evFlight := t.evFlight, pend := t.pend, logQueue := t.logQueue, hsram := t.hsram, csram := t.csram, sramValid := t.sramValid, dram := t.dram, valid := t.valid, marks := t.marks, lines := t.lines, victims := t.victims, bufs := t.bufs, poolFree := t.poolFree, host := t.host, loop := t.loop, clv := t.clv, core := t.core, seen := t.seen, contained := t.contained } ∧
      keepsOutsideCh s t ch [9, 10, 12, 13] [4, 5, 6, 13, 17] [15] [8]) ∧
  (∀ (s : State) (ch : Ch) (low : Bool) (aflt : Bool), s.Wf → Runs (.fltnLow ch low aflt) s fun t =>
      t = { s with bank := t.bank, evFlight := t.evFlight, pend := t.pend, logQueue := t.logQueue, csram := t.csram, sramValid := t.sramValid, marks := t.marks, wru := t.wru, core := t.core, seen := t.seen, contained := t.contained } ∧
      keepsOutsideCh s t ch [5, 6, 12] [13] [] [8]) ∧
  (∀ (s : State) (ch : Ch), s.Wf → Runs (.paArm ch) s fun t =>
      t = { s with resp := t.resp, pau := t.pau }) ∧
  (∀ (s : State) (ch : Ch) (value : Word), s.Wf → Runs (.paQcmdGo ch value) s fun t =>
      t = { s with bank := t.bank, resp := t.resp, pau := t.pau } ∧
      keepsOutsideCh s t ch [12] [] [] []) ∧
  (∀ (s : State) (ch : Ch) (head : Fin 6) (value : Word), s.Wf → Runs (.wrHeadWrite ch head value) s fun t =>
      t = { s with bank := t.bank, resp := t.resp, pau := t.pau } ∧
      keepsOutsideCh s t ch [5] [] [] []) ∧
  (∀ (s : State), s.Wf → Runs (.folioEncode) s fun t =>
      t = { s with bank := t.bank, evFlight := t.evFlight, pend := t.pend, logQueue := t.logQueue, hsram := t.hsram, csram := t.csram, sramValid := t.sramValid, dram := t.dram, valid := t.valid, marks := t.marks, lines := t.lines, victims := t.victims, core := t.core, seen := t.seen, contained := t.contained } ∧
      keepsOutside s t [5, 6, 9, 13, 17] [15] [8]) ∧
  (∀ (s : State), s.Wf → Runs (.folioRebuild) s fun t =>
      t = { s with bank := t.bank, evFlight := t.evFlight, pend := t.pend, logQueue := t.logQueue, hsram := t.hsram, csram := t.csram, sramValid := t.sramValid, dram := t.dram, valid := t.valid, marks := t.marks, lines := t.lines, victims := t.victims, core := t.core, seen := t.seen, contained := t.contained } ∧
      keepsOutside s t [5, 6, 9, 13, 17] [15] [8]) ∧
  (∀ (s : State), s.Wf → Runs (.folioPrior) s fun t =>
      t = { s with bank := t.bank, evFlight := t.evFlight, pend := t.pend, logQueue := t.logQueue, hsram := t.hsram, csram := t.csram, sramValid := t.sramValid, dram := t.dram, valid := t.valid, marks := t.marks, lines := t.lines, victims := t.victims, core := t.core, seen := t.seen, contained := t.contained } ∧
      keepsOutside s t [5, 6, 9, 13, 17] [15] [8]) ∧
  (∀ (s : State), s.Wf → Runs (.catLookup) s fun t =>
      t = { s with bank := t.bank, evFlight := t.evFlight, pend := t.pend, logQueue := t.logQueue, hsram := t.hsram, csram := t.csram, sramValid := t.sramValid, dram := t.dram, valid := t.valid, marks := t.marks, lines := t.lines, victims := t.victims, core := t.core, seen := t.seen, contained := t.contained } ∧
      keepsOutside s t [5, 6, 10, 13, 17] [15] [8]) ∧
  (∀ (s : State), s.Wf → Runs (.smAdd) s fun t =>
      t = { s with bank := t.bank, free := t.free, evFlight := t.evFlight, pend := t.pend, logQueue := t.logQueue, nvs := t.nvs, hsram := t.hsram, csram := t.csram, sramValid := t.sramValid, dram := t.dram, valid := t.valid, marks := t.marks, lines := t.lines, victims := t.victims, smFree := t.smFree, core := t.core, seen := t.seen, contained := t.contained } ∧
      keepsOutside s t [5, 6, 10, 13, 17] [15] [8]) ∧
  (∀ (s : State), s.Wf → Runs (.smDrop) s fun t =>
      t = { s with bank := t.bank, free := t.free, evFlight := t.evFlight, pend := t.pend, logQueue := t.logQueue, nvs := t.nvs, hsram := t.hsram, csram := t.csram, sramValid := t.sramValid, dram := t.dram, valid := t.valid, marks := t.marks, lines := t.lines, victims := t.victims, smFree := t.smFree, core := t.core, seen := t.seen, contained := t.contained } ∧
      keepsOutside s t [5, 6, 10, 13, 17] [15] [8]) ∧
  (∀ (s : State), s.Wf → Runs (.zoneSet) s fun t =>
      t = { s with bank := t.bank, free := t.free, evFlight := t.evFlight, pend := t.pend, logQueue := t.logQueue, nvs := t.nvs, hsram := t.hsram, csram := t.csram, sramValid := t.sramValid, dram := t.dram, valid := t.valid, marks := t.marks, lines := t.lines, victims := t.victims, smFree := t.smFree, host := t.host, core := t.core, seen := t.seen, contained := t.contained } ∧
      keepsOutside s t [5, 6, 10, 13, 17] [15] [8]) ∧
  (∀ (s : State), s.Wf → Runs (.bandSet) s fun t =>
      t = { s with bank := t.bank, free := t.free, evFlight := t.evFlight, pend := t.pend, logQueue := t.logQueue, nvs := t.nvs, hsram := t.hsram, csram := t.csram, sramValid := t.sramValid, dram := t.dram, valid := t.valid, marks := t.marks, lines := t.lines, victims := t.victims, smFree := t.smFree, core := t.core, seen := t.seen, contained := t.contained } ∧
      keepsOutside s t [5, 6, 10, 13, 17] [15] [8]) ∧
  (∀ (s : State), s.Wf → Runs (.rbSwitch) s fun t =>
      t = { s with bank := t.bank, free := t.free, evFlight := t.evFlight, pend := t.pend, logQueue := t.logQueue, nvs := t.nvs, hsram := t.hsram, csram := t.csram, sramValid := t.sramValid, dram := t.dram, valid := t.valid, marks := t.marks, lines := t.lines, victims := t.victims, smFree := t.smFree, core := t.core, seen := t.seen, contained := t.contained } ∧
      keepsOutside s t [5, 6, 10, 13, 17] [15] [8]) ∧
  (∀ (s : State), s.Wf → Runs (.rbSet) s fun t =>
      t = { s with bank := t.bank, free := t.free, evFlight := t.evFlight, pend := t.pend, logQueue := t.logQueue, nvs := t.nvs, hsram := t.hsram, csram := t.csram, sramValid := t.sramValid, dram := t.dram, valid := t.valid, marks := t.marks, lines := t.lines, victims := t.victims, smFree := t.smFree, core := t.core, seen := t.seen, contained := t.contained } ∧
      keepsOutside s t [5, 6, 10, 13, 17] [15] [8]) ∧
  (∀ (s : State), s.Wf → Runs (.catalogueEnable) s fun t =>
      t = { s with bank := t.bank, resp := t.resp, evFlight := t.evFlight, pend := t.pend, logQueue := t.logQueue, hsram := t.hsram, csram := t.csram, sramValid := t.sramValid, dram := t.dram, valid := t.valid, marks := t.marks, lines := t.lines, victims := t.victims, smFree := t.smFree, core := t.core, seen := t.seen, contained := t.contained } ∧
      keepsOutside s t [5, 6, 10, 13, 17] [15] [8])

/-- For the commands of the memories, the registers, the host interface, management and the cores: in every well-formed
state and with every operand each completes: there is a next state, and it differs from the state before only in the
fields of State each names, and among the registers only in those of the units it names; the other memories, queues
and units, the NV store, the flash, the OTP array, the image in force and the queue of commands are as before unless
named. -/
def Obligations.Memory_host_and_core_commands_leave_the_rest : Prop :=
  (∀ (s : State) (cls : Fin 16) (addr : Nat) (bytes : List Byte) (found : Upset), s.Wf → Runs (.dramWrite cls addr bytes found) s fun t =>
      t = { s with bank := t.bank, resp := t.resp, evFlight := t.evFlight, pend := t.pend, logQueue := t.logQueue, hsram := t.hsram, csram := t.csram, sramValid := t.sramValid, dram := t.dram, valid := t.valid, marks := t.marks, lines := t.lines, victims := t.victims, fatal := t.fatal, core := t.core, seen := t.seen, contained := t.contained } ∧
      keepsOutside s t [5, 6, 13, 17] [15] [8]) ∧
  (∀ (s : State) (count : Nat), s.Wf → Runs (.dramInvalidate count) s fun t =>
      t = { s with bank := t.bank, resp := t.resp, dram := t.dram, valid := t.valid, marks := t.marks, lines := t.lines, victims := t.victims } ∧
      keepsOutside s t [6] [] []) ∧
  (∀ (s : State), s.Wf → Runs (.dramSpare) s fun t =>
      t = { s with bank := t.bank, resp := t.resp, evFlight := t.evFlight, pend := t.pend, logQueue := t.logQueue, hsram := t.hsram, csram := t.csram, dram := t.dram, marks := t.marks, spares := t.spares, dcmdFull := t.dcmdFull, seen := t.seen, contained := t.contained } ∧
      keepsOutside s t [5, 6, 13, 17] [15] [8]) ∧
  (∀ (s : State), s.Wf → Runs (.dcmdDone) s fun t =>
      t = { s with bank := t.bank, evFlight := t.evFlight, pend := t.pend, sparesKept := t.sparesKept, dcmdFull := t.dcmdFull } ∧
      keepsOutside s t [6, 13] [] []) ∧
  (∀ (s : State), s.Wf → Runs (.scClean) s fun t =>
      t = { s with bank := t.bank, resp := t.resp, evFlight := t.evFlight, pend := t.pend, logQueue := t.logQueue, hsram := t.hsram, csram := t.csram, dram := t.dram, valid := t.valid, marks := t.marks, lines := t.lines, victims := t.victims, seen := t.seen, contained := t.contained } ∧
      keepsOutside s t [5, 6, 13, 17] [15] [8]) ∧
  (∀ (s : State), s.Wf → Runs (.scInval) s fun t =>
      t = { s with bank := t.bank, resp := t.resp, marks := t.marks, lines := t.lines } ∧
      keepsOutside s t [5] [] []) ∧
  (∀ (s : State), s.Wf → Runs (.scCleanInval) s fun t =>
      t = { s with bank := t.bank, resp := t.resp, evFlight := t.evFlight, pend := t.pend, logQueue := t.logQueue, hsram := t.hsram, csram := t.csram, dram := t.dram, valid := t.valid, marks := t.marks, lines := t.lines, victims := t.victims, seen := t.seen, contained := t.contained } ∧
      keepsOutside s t [5, 6, 13, 17] [15] [8]) ∧
  (∀ (s : State), s.Wf → Runs (.scCleanAll) s fun t =>
      t = { s with bank := t.bank, resp := t.resp, evFlight := t.evFlight, pend := t.pend, logQueue := t.logQueue, hsram := t.hsram, csram := t.csram, dram := t.dram, valid := t.valid, marks := t.marks, lines := t.lines, victims := t.victims, seen := t.seen, contained := t.contained } ∧
      keepsOutside s t [5, 6, 13, 17] [15] [8]) ∧
  (∀ (s : State), s.Wf → Runs (.scCleanInvalAll) s fun t =>
      t = { s with bank := t.bank, resp := t.resp, evFlight := t.evFlight, pend := t.pend, logQueue := t.logQueue, hsram := t.hsram, csram := t.csram, dram := t.dram, valid := t.valid, marks := t.marks, lines := t.lines, victims := t.victims, seen := t.seen, contained := t.contained } ∧
      keepsOutside s t [5, 6, 13, 17] [15] [8]) ∧
  (∀ (s : State), s.Wf → Runs (.mopDone) s fun t =>
      t = { s with bank := t.bank, evFlight := t.evFlight, pend := t.pend } ∧
      keepsOutside s t [5, 13] [] []) ∧
  (∀ (s : State) (m : ArrayNo) (addr : Nat) (found : Upset), s.Wf → Runs (.scrubItem m addr found) s fun t =>
      t = { s with bank := t.bank, evFlight := t.evFlight, pend := t.pend, logQueue := t.logQueue, hsram := t.hsram, csram := t.csram, dram := t.dram, marks := t.marks, lines := t.lines, lapStart := t.lapStart, fatal := t.fatal, seen := t.seen, contained := t.contained } ∧
      keepsOutside s t [5, 6, 13, 17] [15] [8]) ∧
  (∀ (s : State) (m : ArrayNo), s.Wf → Runs (.scrubLapEnd m) s fun t =>
      t = { s with bank := t.bank } ∧
      keepsOutside s t [5, 6, 17] [15] []) ∧
  (∀ (s : State) (m : ArrayNo), s.Wf → Runs (.readRaw m) s fun t =>
      t = { s with bank := t.bank, resp := t.resp, free := t.free }) ∧
  (∀ (s : State) (m : ArrayNo), s.Wf → Runs (.writeRaw m) s fun t =>
      t = { s with bank := t.bank, resp := t.resp, hsram := t.hsram, csram := t.csram, sramValid := t.sramValid, dram := t.dram, valid := t.valid, marks := t.marks, lines := t.lines }) ∧
  (∀ (s : State) (m : ArrayNo) (value : Word), s.Wf → Runs (.memCntClr m value) s fun t =>
      t = { s with bank := t.bank, resp := t.resp } ∧
      keepsOutside s t [5, 6, 17] [15] []) ∧
  (∀ (s : State) (slot : Fin 16), s.Wf → Runs (.newkey slot) s fun t =>
      t = { s with bank := t.bank, resp := t.resp, keyJob := t.keyJob } ∧
      keepsOutside s t [7] [] []) ∧
  (∀ (s : State) (slot : Fin 16), s.Wf → Runs (.keyErase slot) s fun t =>
      t = { s with bank := t.bank, resp := t.resp, keyJob := t.keyJob } ∧
      keepsOutside s t [7] [] []) ∧
  (∀ (s : State), s.Wf → Runs (.keyCommandDone) s fun t =>
      t = { s with bank := t.bank, free := t.free, evFlight := t.evFlight, pend := t.pend, nvs := t.nvs, keyStore := t.keyStore, keys := t.keys, keyJob := t.keyJob } ∧
      keepsOutside s t [7, 13] [] []) ∧
  (∀ (s : State), s.Wf → Runs (.cipherEnable) s fun t =>
      t = { s with bank := t.bank, resp := t.resp, keys := t.keys } ∧
      keepsOutside s t [7] [] []) ∧
  (∀ (s : State) (c : CoreNo) (zero : Bool) (pool : Fin 16), s.Wf → Runs (.stkAlloc c zero pool) s fun t =>
      t = { s with bank := t.bank, resp := t.resp, evFlight := t.evFlight, pend := t.pend, logQueue := t.logQueue, hsram := t.hsram, csram := t.csram, sramValid := t.sramValid, dram := t.dram, valid := t.valid, marks := t.marks, lines := t.lines, victims := t.victims, bufs := t.bufs, poolFree := t.poolFree, core := t.core, seen := t.seen, contained := t.contained } ∧
      keepsOutside s t [4, 5, 6, 13, 17] [15] [8]) ∧
  (∀ (s : State) (c : CoreNo), s.Wf → Runs (.stkAdd c) s fun t =>
      t = { s with bank := t.bank, resp := t.resp, evFlight := t.evFlight, pend := t.pend, logQueue := t.logQueue, hsram := t.hsram, csram := t.csram, sramValid := t.sramValid, dram := t.dram, valid := t.valid, marks := t.marks, lines := t.lines, victims := t.victims, bufs := t.bufs, poolFree := t.poolFree, core := t.core, seen := t.seen, contained := t.contained } ∧
      keepsOutside s t [4, 5, 6, 13, 17] [15] [8]) ∧
  (∀ (s : State) (c : CoreNo), s.Wf → Runs (.stkRelease c) s fun t =>
      t = { s with bank := t.bank, resp := t.resp, evFlight := t.evFlight, pend := t.pend, logQueue := t.logQueue, hsram := t.hsram, csram := t.csram, sramValid := t.sramValid, dram := t.dram, valid := t.valid, marks := t.marks, lines := t.lines, victims := t.victims, bufs := t.bufs, poolFree := t.poolFree, core := t.core, seen := t.seen, contained := t.contained } ∧
      keepsOutside s t [4, 5, 6, 13, 17] [15] [8]) ∧
  (∀ (s : State) (c : CoreNo), s.Wf → Runs (.stkFree c) s fun t =>
      t = { s with bank := t.bank, resp := t.resp, evFlight := t.evFlight, pend := t.pend, logQueue := t.logQueue, hsram := t.hsram, csram := t.csram, sramValid := t.sramValid, dram := t.dram, valid := t.valid, marks := t.marks, lines := t.lines, victims := t.victims, bufs := t.bufs, poolFree := t.poolFree, core := t.core, seen := t.seen, contained := t.contained } ∧
      keepsOutside s t [4, 5, 6, 13, 17] [15] [8]) ∧
  (∀ (s : State) (c : CoreNo), s.Wf → Runs (.stkQuery c) s fun t =>
      t = { s with bank := t.bank, resp := t.resp, evFlight := t.evFlight, pend := t.pend, logQueue := t.logQueue, hsram := t.hsram, csram := t.csram, sramValid := t.sramValid, dram := t.dram, valid := t.valid, marks := t.marks, lines := t.lines, victims := t.victims, bufs := t.bufs, poolFree := t.poolFree, core := t.core, seen := t.seen, contained := t.contained } ∧
      keepsOutside s t [4, 5, 6, 13, 17] [15] [8]) ∧
  (∀ (s : State) (pool : Fin 16), s.Wf → Runs (.poolInit pool) s fun t =>
      t = { s with bank := t.bank, resp := t.resp, poolFree := t.poolFree } ∧
      keepsOutside s t [4] [] []) ∧
  (∀ (s : State) (pool : Fin 16), s.Wf → Runs (.poolInitDone pool) s fun t =>
      t = { s with bank := t.bank, evFlight := t.evFlight, pend := t.pend, logQueue := t.logQueue, hsram := t.hsram, csram := t.csram, sramValid := t.sramValid, dram := t.dram, valid := t.valid, marks := t.marks, lines := t.lines, victims := t.victims, bufs := t.bufs, poolFree := t.poolFree, core := t.core, seen := t.seen, contained := t.contained } ∧
      keepsOutside s t [4, 5, 6, 13, 17] [15] [8]) ∧
  (∀ (s : State) (pool : Fin 16), s.Wf → Runs (.poolOff pool) s fun t =>
      t = { s with bank := t.bank, resp := t.resp } ∧
      keepsOutside s t [4] [] []) ∧
  (∀ (s : State) (pool : Fin 16), s.Wf → Runs (.poolClrLow pool) s fun t =>
      t = { s with bank := t.bank, resp := t.resp } ∧
      keepsOutside s t [4] [] []) ∧
  (∀ (s : State) (addr : BitVec 32) (width : Nat) (value : Word), s.Wf → Runs (.registerWrite addr width value) s fun t =>
      t = { s with bank := t.bank, resp := t.resp, free := t.free, links := t.links, msgFlight := t.msgFlight, evFlight := t.evFlight, pend := t.pend, cal := t.cal, waiting := t.waiting, holders := t.holders, yields := t.yields, logQueue := t.logQueue, nvs := t.nvs, flash := t.flash, otp := t.otp, hsram := t.hsram, csram := t.csram, sramValid := t.sramValid, dram := t.dram, valid := t.valid, marks := t.marks, lines := t.lines, victims := t.victims, spares := t.spares, dcmdFull := t.dcmdFull, bufs := t.bufs, poolFree := t.poolFree, keys := t.keys, keyJob := t.keyJob, smFree := t.smFree, host := t.host, dump := t.dump, invNotes := t.invNotes, overrides := t.overrides, demod := t.demod, loop := t.loop, hold := t.hold, clv := t.clv, det := t.det, wru := t.wru, flu := t.flu, pau := t.pau, lmu := t.lmu, spin := t.spin, clasps := t.clasps, fatal := t.fatal, core := t.core, sig := t.sig, upd := t.upd, dbg := t.dbg, otpJob := t.otpJob, nvsJob := t.nvsJob, nvsWaits := t.nvsWaits, alog := t.alog, lad := t.lad, xsJob := t.xsJob, xsHeld := t.xsHeld, pins := t.pins, bootDue := t.bootDue, seen := t.seen, contained := t.contained }) ∧
  (∀ (s : State) (addr : BitVec 32) (width : Nat) (value : Word), s.Wf → Runs (.expertWrite addr width value) s fun t =>
      t = { s with bank := t.bank, resp := t.resp, free := t.free, links := t.links, msgFlight := t.msgFlight, evFlight := t.evFlight, pend := t.pend, cal := t.cal, waiting := t.waiting, holders := t.holders, yields := t.yields, logQueue := t.logQueue, nvs := t.nvs, flash := t.flash, otp := t.otp, hsram := t.hsram, csram := t.csram, sramValid := t.sramValid, dram := t.dram, valid := t.valid, marks := t.marks, lines := t.lines, victims := t.victims, spares := t.spares, dcmdFull := t.dcmdFull, bufs := t.bufs, poolFree := t.poolFree, keys := t.keys, keyJob := t.keyJob, smFree := t.smFree, host := t.host, dump := t.dump, invNotes := t.invNotes, overrides := t.overrides, demod := t.demod, loop := t.loop, hold := t.hold, clv := t.clv, det := t.det, wru := t.wru, flu := t.flu, pau := t.pau, lmu := t.lmu, spin := t.spin, clasps := t.clasps, fatal := t.fatal, core := t.core, sig := t.sig, upd := t.upd, dbg := t.dbg, otpJob := t.otpJob, nvsJob := t.nvsJob, nvsWaits := t.nvsWaits, alog := t.alog, lad := t.lad, xsJob := t.xsJob, xsHeld := t.xsHeld, pins := t.pins, bootDue := t.bootDue, seen := t.seen, contained := t.contained }) ∧
  (∀ (s : State) (addr : BitVec 32), s.Wf → Runs (.wideRegisterRead addr) s fun t =>
      t = { s with bank := t.bank, latch := t.latch, resp := t.resp, links := t.links, evFlight := t.evFlight, pend := t.pend, logQueue := t.logQueue, loop := t.loop, nvsWaits := t.nvsWaits, pins := t.pins, seen := t.seen, contained := t.contained } ∧
      keepsOutside s t [13, 14] [17] [8, 10, 14]) ∧
  (∀ (s : State) (die : Fin 8) (unit : Fin 32) (value : Word), s.Wf → Runs (.expertUnlockWrite die unit value) s fun t =>
      t = { s with bank := t.bank, resp := t.resp, free := t.free, links := t.links, msgFlight := t.msgFlight, evFlight := t.evFlight, pend := t.pend, cal := t.cal, waiting := t.waiting, holders := t.holders, yields := t.yields, logQueue := t.logQueue, nvs := t.nvs, flash := t.flash, otp := t.otp, hsram := t.hsram, csram := t.csram, sramValid := t.sramValid, dram := t.dram, valid := t.valid, marks := t.marks, lines := t.lines, victims := t.victims, spares := t.spares, dcmdFull := t.dcmdFull, bufs := t.bufs, poolFree := t.poolFree, keys := t.keys, keyJob := t.keyJob, smFree := t.smFree, host := t.host, dump := t.dump, invNotes := t.invNotes, overrides := t.overrides, demod := t.demod, loop := t.loop, hold := t.hold, clv := t.clv, det := t.det, wru := t.wru, flu := t.flu, pau := t.pau, lmu := t.lmu, spin := t.spin, clasps := t.clasps, fatal := t.fatal, core := t.core, sig := t.sig, upd := t.upd, dbg := t.dbg, otpJob := t.otpJob, nvsJob := t.nvsJob, nvsWaits := t.nvsWaits, alog := t.alog, lad := t.lad, xsJob := t.xsJob, xsHeld := t.xsHeld, pins := t.pins, bootDue := t.bootDue, seen := t.seen, contained := t.contained }) ∧
  (∀ (s : State) (addr : BitVec 32) (write : Bool) (value : Word), s.Wf → Runs (.dbgFabric addr write value) s fun t =>
      t = { s with bank := t.bank, latch := t.latch, resp := t.resp, free := t.free, links := t.links, msgFlight := t.msgFlight, evFlight := t.evFlight, pend := t.pend, cal := t.cal, waiting := t.waiting, holders := t.holders, yields := t.yields, logQueue := t.logQueue, nvs := t.nvs, flash := t.flash, otp := t.otp, hsram := t.hsram, csram := t.csram, sramValid := t.sramValid, dram := t.dram, valid := t.valid, marks := t.marks, lines := t.lines, victims := t.victims, spares := t.spares, dcmdFull := t.dcmdFull, bufs := t.bufs, poolFree := t.poolFree, keys := t.keys, keyJob := t.keyJob, smFree := t.smFree, host := t.host, dump := t.dump, invNotes := t.invNotes, overrides := t.overrides, demod := t.demod, loop := t.loop, hold := t.hold, clv := t.clv, det := t.det, wru := t.wru, flu := t.flu, pau := t.pau, lmu := t.lmu, spin := t.spin, clasps := t.clasps, fatal := t.fatal, core := t.core, sig := t.sig, upd := t.upd, dbg := t.dbg, otpJob := t.otpJob, nvsJob := t.nvsJob, nvsWaits := t.nvsWaits, alog := t.alog, lad := t.lad, xsJob := t.xsJob, xsHeld := t.xsHeld, pins := t.pins, bootDue := t.bootDue, seen := t.seen, contained := t.contained }) ∧
  (∀ (s : State) (port : Fin 2) (width : Nat) (speed : Nat), s.Wf → Runs (.portTrain port width speed) s fun t =>
      t = { s with bank := t.bank, evFlight := t.evFlight, pend := t.pend } ∧
      keepsOutside s t [1, 13] [] []) ∧
  (∀ (s : State) (port : Fin 2), s.Wf → Runs (.portLinkDown port) s fun t =>
      t = { s with bank := t.bank, evFlight := t.evFlight, pend := t.pend, logQueue := t.logQueue, hsram := t.hsram, csram := t.csram, sramValid := t.sramValid, dram := t.dram, valid := t.valid, marks := t.marks, lines := t.lines, victims := t.victims, bufs := t.bufs, poolFree := t.poolFree, host := t.host, staged := t.staged, core := t.core, seen := t.seen, contained := t.contained } ∧
      keepsOutside s t [1, 3, 4, 5, 6, 13, 17] [15] [8]) ∧
  (∀ (s : State) (port : Fin 2), s.Wf → Runs (.perstAssert port) s fun t =>
      t = { s with bank := t.bank, evFlight := t.evFlight, pend := t.pend, logQueue := t.logQueue, hsram := t.hsram, csram := t.csram, sramValid := t.sramValid, dram := t.dram, valid := t.valid, marks := t.marks, lines := t.lines, victims := t.victims, bufs := t.bufs, poolFree := t.poolFree, host := t.host, staged := t.staged, core := t.core, seen := t.seen, contained := t.contained } ∧
      keepsOutside s t [1, 3, 4, 5, 6, 13, 17] [15] [8]) ∧
  (∀ (s : State) (pf : Fin 2) (numVfs : Nat), s.Wf → Runs (.vfEnable pf numVfs) s fun t =>
      t = { s with bank := t.bank, evFlight := t.evFlight, pend := t.pend, logQueue := t.logQueue, hsram := t.hsram, csram := t.csram, sramValid := t.sramValid, dram := t.dram, valid := t.valid, marks := t.marks, lines := t.lines, victims := t.victims, bufs := t.bufs, poolFree := t.poolFree, host := t.host, staged := t.staged, core := t.core, seen := t.seen, contained := t.contained } ∧
      keepsOutside s t [3, 4, 5, 6, 13, 17] [15] [8]) ∧
  (∀ (s : State) (setup : CtrlSetup), s.Wf → Runs (.controllerEnable setup) s fun t =>
      t = { s with bank := t.bank, evFlight := t.evFlight, pend := t.pend, logQueue := t.logQueue, host := t.host, lad := t.lad, seen := t.seen, contained := t.contained } ∧
      keepsOutside s t [13] [] [3, 8]) ∧
  (∀ (s : State) (ctrl : Fin 64), s.Wf → Runs (.controllerReset ctrl) s fun t =>
      t = { s with bank := t.bank, evFlight := t.evFlight, pend := t.pend, logQueue := t.logQueue, hsram := t.hsram, csram := t.csram, sramValid := t.sramValid, dram := t.dram, valid := t.valid, marks := t.marks, lines := t.lines, victims := t.victims, bufs := t.bufs, poolFree := t.poolFree, host := t.host, staged := t.staged, core := t.core, seen := t.seen, contained := t.contained } ∧
      keepsOutside s t [3, 4, 5, 6, 13, 17] [15] [8]) ∧
  (∀ (s : State) (ctrl : Fin 64), s.Wf → Runs (.functionLevelReset ctrl) s fun t =>
      t = { s with bank := t.bank, evFlight := t.evFlight, pend := t.pend, logQueue := t.logQueue, hsram := t.hsram, csram := t.csram, sramValid := t.sramValid, dram := t.dram, valid := t.valid, marks := t.marks, lines := t.lines, victims := t.victims, bufs := t.bufs, poolFree := t.poolFree, host := t.host, staged := t.staged, core := t.core, seen := t.seen, contained := t.contained } ∧
      keepsOutside s t [3, 4, 5, 6, 13, 17] [15] [8]) ∧
  (∀ (s : State), s.Wf → Runs (.nvmSubsystemReset) s fun t =>
      t = { s with bank := t.bank, evFlight := t.evFlight, pend := t.pend, logQueue := t.logQueue, hsram := t.hsram, csram := t.csram, sramValid := t.sramValid, dram := t.dram, valid := t.valid, marks := t.marks, lines := t.lines, victims := t.victims, bufs := t.bufs, poolFree := t.poolFree, host := t.host, staged := t.staged, core := t.core, seen := t.seen, contained := t.contained } ∧
      keepsOutside s t [1, 3, 4, 5, 6, 13, 17] [15] [8]) ∧
  (∀ (s : State) (note : ShutdownNote), s.Wf → Runs (.controllerShutdown note) s fun t =>
      t = { s with bank := t.bank, evFlight := t.evFlight, pend := t.pend, host := t.host } ∧
      keepsOutside s t [13] [] []) ∧
  (∀ (s : State) (ctrl : Fin 64) (value : Word), s.Wf → Runs (.ctrlNsWrite ctrl value) s fun t =>
      t = { s with bank := t.bank, resp := t.resp, host := t.host } ∧
      keepsOutside s t [2] [] []) ∧
  (∀ (s : State) (ctrl : Fin 64) (queue : ReadyQueue) (tag : TagNo) (entry : WrtNo) (sqe : List Byte) (ranges : List (Nat × Nat)), s.Wf → Runs (.submissionFetch ctrl queue tag entry sqe ranges) s fun t =>
      t = { s with bank := t.bank, free := t.free, evFlight := t.evFlight, pend := t.pend, logQueue := t.logQueue, hsram := t.hsram, csram := t.csram, sramValid := t.sramValid, dram := t.dram, valid := t.valid, marks := t.marks, lines := t.lines, victims := t.victims, bufs := t.bufs, poolFree := t.poolFree, host := t.host, core := t.core, lad := t.lad, seen := t.seen, contained := t.contained } ∧
      keepsOutside s t [2, 4, 5, 6, 13, 17] [15] [3, 8]) ∧
  (∀ (s : State), s.Wf → Runs (.fetchResume) s fun t =>
      t = { s with bank := t.bank } ∧
      keepsOutside s t [2] [] []) ∧
  (∀ (s : State) (tag : TagNo), s.Wf → Runs (.tagDispatch tag) s fun t =>
      t = { s with bank := t.bank, free := t.free, evFlight := t.evFlight, pend := t.pend, logQueue := t.logQueue, hsram := t.hsram, csram := t.csram, sramValid := t.sramValid, dram := t.dram, valid := t.valid, marks := t.marks, lines := t.lines, victims := t.victims, bufs := t.bufs, poolFree := t.poolFree, host := t.host, core := t.core, seen := t.seen, contained := t.contained } ∧
      keepsOutside s t [3, 4, 5, 6, 13, 17] [15] [8]) ∧
  (∀ (s : State), s.Wf → Runs (.tagMedia) s fun t =>
      t = { s with bank := t.bank, evFlight := t.evFlight, pend := t.pend, logQueue := t.logQueue, hsram := t.hsram, sramValid := t.sramValid, marks := t.marks, host := t.host, core := t.core, seen := t.seen, contained := t.contained } ∧
      keepsOutside s t [3, 13] [] [8]) ∧
  (∀ (s : State) (media : List (List Byte)), s.Wf → Runs (.tagComplete media) s fun t =>
      t = { s with bank := t.bank, evFlight := t.evFlight, pend := t.pend, logQueue := t.logQueue, hsram := t.hsram, csram := t.csram, sramValid := t.sramValid, dram := t.dram, valid := t.valid, marks := t.marks, lines := t.lines, victims := t.victims, bufs := t.bufs, poolFree := t.poolFree, host := t.host, core := t.core, seen := t.seen, contained := t.contained } ∧
      keepsOutside s t [3, 4, 5, 6, 13, 17] [15] [8]) ∧
  (∀ (s : State) (tag : TagNo), s.Wf → Runs (.completionPost tag) s fun t =>
      t = { s with bank := t.bank, free := t.free, host := t.host } ∧
      keepsOutside s t [3] [] []) ∧
  (∀ (s : State) (tag : TagNo), s.Wf → Runs (.writeAdmit tag) s fun t =>
      t = { s with bank := t.bank, evFlight := t.evFlight, pend := t.pend, logQueue := t.logQueue, hsram := t.hsram, csram := t.csram, sramValid := t.sramValid, dram := t.dram, valid := t.valid, marks := t.marks, lines := t.lines, victims := t.victims, bufs := t.bufs, poolFree := t.poolFree, host := t.host, core := t.core, seen := t.seen, contained := t.contained } ∧
      keepsOutside s t [4, 5, 6, 13, 17] [15] [8]) ∧
  (∀ (s : State) (entry : WrtNo) (data : List Byte) (md : List Byte), s.Wf → Runs (.writeDataArrive entry data md) s fun t =>
      t = { s with bank := t.bank, evFlight := t.evFlight, pend := t.pend, logQueue := t.logQueue, hsram := t.hsram, csram := t.csram, sramValid := t.sramValid, dram := t.dram, valid := t.valid, marks := t.marks, lines := t.lines, victims := t.victims, bufs := t.bufs, poolFree := t.poolFree, host := t.host, core := t.core, seen := t.seen, contained := t.contained } ∧
      keepsOutside s t [4, 5, 6, 13, 17] [15] [8]) ∧
  (∀ (s : State) (value : Word), s.Wf → Runs (.wrtRelWrite value) s fun t =>
      t = { s with bank := t.bank, resp := t.resp, evFlight := t.evFlight, pend := t.pend, logQueue := t.logQueue, hsram := t.hsram, csram := t.csram, sramValid := t.sramValid, dram := t.dram, valid := t.valid, marks := t.marks, lines := t.lines, victims := t.victims, bufs := t.bufs, poolFree := t.poolFree, host := t.host, core := t.core, seen := t.seen, contained := t.contained } ∧
      keepsOutside s t [3, 4, 5, 6, 13, 17] [15] [8]) ∧
  (∀ (s : State) (tag : TagNo), s.Wf → Runs (.flushComplete tag) s fun t =>
      t = { s with host := t.host }) ∧
  (∀ (s : State) (pool : Fin 16), s.Wf → Runs (.hwAllocRetry pool) s fun t =>
      t = { s with bank := t.bank, evFlight := t.evFlight, pend := t.pend, logQueue := t.logQueue, hsram := t.hsram, csram := t.csram, sramValid := t.sramValid, dram := t.dram, valid := t.valid, marks := t.marks, lines := t.lines, victims := t.victims, bufs := t.bufs, poolFree := t.poolFree, host := t.host, core := t.core, seen := t.seen, contained := t.contained } ∧
      keepsOutside s t [4, 5, 6, 13, 17] [15] [8]) ∧
  (∀ (s : State) (tag : TagNo), s.Wf → Runs (.createIoCq tag) s fun t =>
      t = { s with free := t.free, host := t.host }) ∧
  (∀ (s : State) (tag : TagNo), s.Wf → Runs (.createIoSq tag) s fun t =>
      t = { s with free := t.free, host := t.host }) ∧
  (∀ (s : State) (tag : TagNo), s.Wf → Runs (.deleteIoSq tag) s fun t =>
      t = { s with bank := t.bank, free := t.free, evFlight := t.evFlight, pend := t.pend, logQueue := t.logQueue, hsram := t.hsram, csram := t.csram, sramValid := t.sramValid, dram := t.dram, valid := t.valid, marks := t.marks, lines := t.lines, victims := t.victims, bufs := t.bufs, poolFree := t.poolFree, host := t.host, core := t.core, seen := t.seen, contained := t.contained } ∧
      keepsOutside s t [3, 4, 5, 6, 13, 17] [15] [8]) ∧
  (∀ (s : State) (tag : TagNo), s.Wf → Runs (.deleteIoCq tag) s fun t =>
      t = { s with free := t.free, host := t.host }) ∧
  (∀ (s : State) (tag : TagNo), s.Wf → Runs (.setFeaturesNumberOfQueues tag) s fun t =>
      t = { s with bank := t.bank, free := t.free, evFlight := t.evFlight, pend := t.pend, logQueue := t.logQueue, host := t.host, seen := t.seen, contained := t.contained } ∧
      keepsOutside s t [2, 13] [] [8]) ∧
  (∀ (s : State) (tag : TagNo), s.Wf → Runs (.setFeaturesVolatileWriteCache tag) s fun t =>
      t = { s with free := t.free, host := t.host }) ∧
  (∀ (s : State) (tag : TagNo) (data : List Byte), s.Wf → Runs (.setFeatures tag data) s fun t =>
      t = { s with free := t.free, nvs := t.nvs, host := t.host }) ∧
  (∀ (s : State) (tag : TagNo), s.Wf → Runs (.getFeatures tag) s fun t =>
      t = { s with free := t.free, host := t.host }) ∧
  (∀ (s : State) (tag : TagNo), s.Wf → Runs (.asynchronousEventRequest tag) s fun t =>
      t = { s with free := t.free, host := t.host }) ∧
  (∀ (s : State) (tag : TagNo), s.Wf → Runs (.nvmeAbort tag) s fun t =>
      t = { s with bank := t.bank, evFlight := t.evFlight, pend := t.pend, logQueue := t.logQueue, hsram := t.hsram, csram := t.csram, sramValid := t.sramValid, dram := t.dram, valid := t.valid, marks := t.marks, lines := t.lines, victims := t.victims, bufs := t.bufs, poolFree := t.poolFree, host := t.host, core := t.core, seen := t.seen, contained := t.contained } ∧
      keepsOutside s t [3, 4, 5, 6, 13, 17] [15] [8]) ∧
  (∀ (s : State) (tag : TagNo), s.Wf → Runs (.getLogPage tag) s fun t =>
      t = { s with free := t.free, host := t.host }) ∧
  (∀ (s : State) (tag : TagNo), s.Wf → Runs (.getLogColophon tag) s fun t =>
      t = { s with free := t.free, host := t.host }) ∧
  (∀ (s : State) (tag : TagNo), s.Wf → Runs (.getLogAccession tag) s fun t =>
      t = { s with free := t.free, host := t.host, alog := t.alog }) ∧
  (∀ (s : State) (tag : TagNo), s.Wf → Runs (.nvmeIdentify tag) s fun t =>
      t = { s with free := t.free, host := t.host }) ∧
  (∀ (s : State) (tag : TagNo), s.Wf → Runs (.inventoryCmd tag) s fun t =>
      t = { s with host := t.host }) ∧
  (∀ (s : State) (tag : TagNo) (data : List Byte), s.Wf → Runs (.securitySend tag data) s fun t =>
      t = { s with free := t.free, host := t.host }) ∧
  (∀ (s : State) (tag : TagNo), s.Wf → Runs (.securityReceive tag) s fun t =>
      t = { s with free := t.free, host := t.host }) ∧
  (∀ (s : State) (tag : TagNo), s.Wf → Runs (.setFeaturesPowerManagement tag) s fun t =>
      t = { s with bank := t.bank, free := t.free, evFlight := t.evFlight, pend := t.pend, logQueue := t.logQueue, host := t.host, lad := t.lad, seen := t.seen, contained := t.contained } ∧
      keepsOutside s t [13] [] [3, 8]) ∧
  (∀ (s : State) (tag : TagNo), s.Wf → Runs (.formatNvm tag) s fun t =>
      t = { s with bank := t.bank, free := t.free, evFlight := t.evFlight, pend := t.pend, logQueue := t.logQueue, nvs := t.nvs, hsram := t.hsram, csram := t.csram, sramValid := t.sramValid, dram := t.dram, valid := t.valid, marks := t.marks, lines := t.lines, victims := t.victims, bufs := t.bufs, poolFree := t.poolFree, keyStore := t.keyStore, keys := t.keys, keyJob := t.keyJob, smFree := t.smFree, host := t.host, core := t.core, seen := t.seen, contained := t.contained } ∧
      keepsOutside s t [4, 5, 6, 7, 10, 13, 17] [15] [8]) ∧
  (∀ (s : State) (tag : TagNo) (ends : MediaEnd), s.Wf → Runs (.nvmeWrite tag ends) s fun t =>
      t = { s with host := t.host }) ∧
  (∀ (s : State) (tag : TagNo) (ends : MediaEnd), s.Wf → Runs (.zoneAppend tag ends) s fun t =>
      t = { s with host := t.host }) ∧
  (∀ (s : State) (tag : TagNo) (ends : MediaEnd), s.Wf → Runs (.writeZeroes tag ends) s fun t =>
      t = { s with host := t.host }) ∧
  (∀ (s : State) (tag : TagNo) (ends : MediaEnd), s.Wf → Runs (.datasetManagement tag ends) s fun t =>
      t = { s with host := t.host }) ∧
  (∀ (s : State) (tag : TagNo) (media : List (List Byte)) (ends : MediaEnd), s.Wf → Runs (.nvmeRead tag media ends) s fun t =>
      t = { s with bank := t.bank, evFlight := t.evFlight, pend := t.pend, logQueue := t.logQueue, hsram := t.hsram, csram := t.csram, sramValid := t.sramValid, dram := t.dram, valid := t.valid, marks := t.marks, lines := t.lines, victims := t.victims, bufs := t.bufs, poolFree := t.poolFree, host := t.host, core := t.core, seen := t.seen, contained := t.contained } ∧
      keepsOutside s t [4, 5, 6, 13, 17] [15] [8]) ∧
  (∀ (s : State) (tag : TagNo) (data : List Byte) (media : List (List Byte)) (ends : MediaEnd), s.Wf → Runs (.nvmeCompare tag data media ends) s fun t =>
      t = { s with bank := t.bank, evFlight := t.evFlight, pend := t.pend, logQueue := t.logQueue, hsram := t.hsram, csram := t.csram, sramValid := t.sramValid, dram := t.dram, valid := t.valid, marks := t.marks, lines := t.lines, victims := t.victims, bufs := t.bufs, poolFree := t.poolFree, host := t.host, core := t.core, seen := t.seen, contained := t.contained } ∧
      keepsOutside s t [4, 5, 6, 13, 17] [15] [8]) ∧
  (∀ (s : State) (tag : TagNo) (media : List (List Byte)) (ends : MediaEnd), s.Wf → Runs (.nvmeVerify tag media ends) s fun t =>
      t = { s with bank := t.bank, evFlight := t.evFlight, pend := t.pend, logQueue := t.logQueue, hsram := t.hsram, csram := t.csram, sramValid := t.sramValid, dram := t.dram, valid := t.valid, marks := t.marks, lines := t.lines, victims := t.victims, bufs := t.bufs, poolFree := t.poolFree, host := t.host, core := t.core, seen := t.seen, contained := t.contained } ∧
      keepsOutside s t [4, 5, 6, 13, 17] [15] [8]) ∧
  (∀ (s : State) (tag : TagNo), s.Wf → Runs (.nvmeFlush tag) s fun t =>
      t = { s with host := t.host }) ∧
  (∀ (s : State) (tag : TagNo) (data : List Byte), s.Wf → Runs (.reservationRegister tag data) s fun t =>
      t = { s with free := t.free, nvs := t.nvs, host := t.host }) ∧
  (∀ (s : State) (tag : TagNo) (data : List Byte), s.Wf → Runs (.reservationAcquire tag data) s fun t =>
      t = { s with bank := t.bank, free := t.free, evFlight := t.evFlight, pend := t.pend, logQueue := t.logQueue, nvs := t.nvs, hsram := t.hsram, csram := t.csram, sramValid := t.sramValid, dram := t.dram, valid := t.valid, marks := t.marks, lines := t.lines, victims := t.victims, bufs := t.bufs, poolFree := t.poolFree, host := t.host, core := t.core, seen := t.seen, contained := t.contained } ∧
      keepsOutside s t [3, 4, 5, 6, 13, 17] [15] [8]) ∧
  (∀ (s : State) (tag : TagNo) (data : List Byte), s.Wf → Runs (.reservationRelease tag data) s fun t =>
      t = { s with free := t.free, nvs := t.nvs, host := t.host }) ∧
  (∀ (s : State) (tag : TagNo), s.Wf → Runs (.reservationReport tag) s fun t =>
      t = { s with free := t.free, host := t.host }) ∧
  (∀ (s : State) (tag : TagNo), s.Wf → Runs (.zoneManagementSend tag) s fun t =>
      t = { s with bank := t.bank, free := t.free, evFlight := t.evFlight, pend := t.pend, logQueue := t.logQueue, nvs := t.nvs, hsram := t.hsram, csram := t.csram, sramValid := t.sramValid, dram := t.dram, valid := t.valid, marks := t.marks, lines := t.lines, victims := t.victims, smFree := t.smFree, host := t.host, core := t.core, seen := t.seen, contained := t.contained } ∧
      keepsOutside s t [5, 6, 10, 13, 17] [15] [8]) ∧
  (∀ (s : State) (tag : TagNo), s.Wf → Runs (.zoneManagementReceive tag) s fun t =>
      t = { s with free := t.free, host := t.host }) ∧
  (∀ (s : State) (addr : Nat) (msg : MctpMsg) (good : Bool), s.Wf → Runs (.mctpMessage addr msg good) s fun t =>
      t = { s with bank := t.bank, free := t.free, evFlight := t.evFlight, pend := t.pend, logQueue := t.logQueue, host := t.host, lad := t.lad, seen := t.seen, contained := t.contained } ∧
      keepsOutside s t [13] [] [3, 8]) ∧
  (∀ (s : State) (kind : Nat) (port : Nat) (ctrl : Nat), s.Wf → Runs (.readNvmeMiDataStructure kind port ctrl) s fun t =>
      t = { s with free := t.free, host := t.host }) ∧
  (∀ (s : State), s.Wf → Runs (.nvmSubsystemHealthStatusPoll) s fun t =>
      t = { s with free := t.free, host := t.host }) ∧
  (∀ (s : State) (first : Nat) (count : Nat), s.Wf → Runs (.controllerHealthStatusPoll first count) s fun t =>
      t = { s with free := t.free, host := t.host }) ∧
  (∀ (s : State) (item : Nat) (port : Nat), s.Wf → Runs (.configurationGet item port) s fun t =>
      t = { s with host := t.host }) ∧
  (∀ (s : State) (item : Nat) (port : Nat) (value : Nat), s.Wf → Runs (.configurationSet item port value) s fun t =>
      t = { s with host := t.host }) ∧
  (∀ (s : State), s.Wf → Runs (.nvmeMiReset) s fun t =>
      t = { s with pending := t.pending, bank := t.bank, latch := t.latch, resp := t.resp, free := t.free, subUs := t.subUs, img := t.img, links := t.links, msgFlight := t.msgFlight, evFlight := t.evFlight, pend := t.pend, wl := t.wl, cal := t.cal, waiting := t.waiting, holders := t.holders, slices := t.slices, yields := t.yields, logQueue := t.logQueue, logArray := t.logArray, nvs := t.nvs, flash := t.flash, otp := t.otp, hsram := t.hsram, csram := t.csram, sramValid := t.sramValid, dram := t.dram, valid := t.valid, marks := t.marks, lines := t.lines, victims := t.victims, spares := t.spares, sparesKept := t.sparesKept, dcmdFull := t.dcmdFull, lapStart := t.lapStart, bufs := t.bufs, poolFree := t.poolFree, keyStore := t.keyStore, keys := t.keys, keyJob := t.keyJob, smFree := t.smFree, host := t.host, staged := t.staged, reloadUs := t.reloadUs, dump := t.dump, invBuf := t.invBuf, invNotes := t.invNotes, invAt := t.invAt, invFree := t.invFree, invLate := t.invLate, overrides := t.overrides, demod := t.demod, loop := t.loop, loopPre := t.loopPre, hold := t.hold, clv := t.clv, clvFrame := t.clvFrame, shock := t.shock, det := t.det, wru := t.wru, asu := t.asu, flu := t.flu, pau := t.pau, lmu := t.lmu, spin := t.spin, clasps := t.clasps, fatal := t.fatal, mtime := t.mtime, core := t.core, sig := t.sig, upd := t.upd, dbg := t.dbg, otpJob := t.otpJob, nvsJob := t.nvsJob, nvsWaits := t.nvsWaits, keeper := t.keeper, alog := t.alog, lad := t.lad, dmp := t.dmp, xsJob := t.xsJob, xsHeld := t.xsHeld, pins := t.pins, diode := t.diode, bootDue := t.bootDue, chWait := t.chWait, critOff := t.critOff, downDies := t.downDies, seen := t.seen, contained := t.contained }) ∧
  (∀ (s : State) (code : Nat), s.Wf → Runs (.basicManagementCommand code) s fun t =>
      t = { s with free := t.free, host := t.host }) ∧
  (∀ (s : State) (ctrl : Nat) (tag : TagNo) (sqe : List Byte), s.Wf → Runs (.nvmeMiAdminCommand ctrl tag sqe) s fun t =>
      t = { s with bank := t.bank, free := t.free, evFlight := t.evFlight, pend := t.pend, logQueue := t.logQueue, host := t.host, seen := t.seen, contained := t.contained } ∧
      keepsOutside s t [2, 13] [] [8]) ∧
  (∀ (s : State), s.Wf → Runs (.getVersion) s fun t =>
      t = { s with host := t.host }) ∧
  (∀ (s : State) (req : List Byte), s.Wf → Runs (.getCapabilities req) s fun t =>
      t = { s with free := t.free, host := t.host }) ∧
  (∀ (s : State) (req : List Byte) (ext : List Byte), s.Wf → Runs (.negotiateAlgorithms req ext) s fun t =>
      t = { s with host := t.host }) ∧
  (∀ (s : State), s.Wf → Runs (.getDigests) s fun t =>
      t = { s with host := t.host }) ∧
  (∀ (s : State) (slot : Nat) (offset : Nat) (len : Nat), s.Wf → Runs (.getCertificate slot offset len) s fun t =>
      t = { s with host := t.host }) ∧
  (∀ (s : State) (slot : Nat) (summary : Nat) (nonce : List Byte), s.Wf → Runs (.spdmChallenge slot summary nonce) s fun t =>
      t = { s with free := t.free, host := t.host }) ∧
  (∀ (s : State) (index : Nat) (slot : Nat) (signed : Bool) (nonce : List Byte), s.Wf → Runs (.getMeasurements index slot signed nonce) s fun t =>
      t = { s with free := t.free, host := t.host }) ∧
  (∀ (s : State), s.Wf → Runs (.inventoryRebuild) s fun t =>
      t = { s with bank := t.bank, invBuf := t.invBuf, invAt := t.invAt, invFree := t.invFree, invLate := t.invLate } ∧
      keepsOutside s t [] [] [15]) ∧
  (∀ (s : State), s.Wf → Runs (.inventoryRefresh) s fun t =>
      t = { s with bank := t.bank, evFlight := t.evFlight, pend := t.pend, invBuf := t.invBuf, invFree := t.invFree, invLate := t.invLate } ∧
      keepsOutside s t [13] [] [15]) ∧
  (∀ (s : State) (value : Word), s.Wf → Runs (.invNoteDataWrite value) s fun t =>
      t = { s with bank := t.bank, resp := t.resp, invNotes := t.invNotes } ∧
      keepsOutside s t [] [] [15]) ∧
  (∀ (s : State), s.Wf → Runs (.coloClose) s fun t =>
      t = { s with bank := t.bank, resp := t.resp, sig := t.sig } ∧
      keepsOutside s t [8] [] [12]) ∧
  (∀ (s : State), s.Wf → Runs (.coloLateClose) s fun t =>
      t = { s with bank := t.bank, sig := t.sig } ∧
      keepsOutside s t [8] [] [12]) ∧
  (∀ (s : State), s.Wf → Runs (.lmsTreeGenerate) s fun t =>
      t = { s with bank := t.bank, sig := t.sig } ∧
      keepsOutside s t [8] [] []) ∧
  (∀ (s : State) (stored : Bool), s.Wf → Runs (.colophonSign stored) s fun t =>
      t = { s with bank := t.bank, free := t.free, evFlight := t.evFlight, pend := t.pend, logQueue := t.logQueue, nvs := t.nvs, sig := t.sig, seen := t.seen, contained := t.contained } ∧
      keepsOutside s t [8, 13] [] [8, 12]) ∧
  (∀ (s : State), s.Wf → Runs (.sigSha256) s fun t =>
      t = { s with bank := t.bank, resp := t.resp, evFlight := t.evFlight, pend := t.pend, sig := t.sig } ∧
      keepsOutside s t [8, 13] [] []) ∧
  (∀ (s : State), s.Wf → Runs (.sigSha384) s fun t =>
      t = { s with bank := t.bank, resp := t.resp, evFlight := t.evFlight, pend := t.pend, sig := t.sig } ∧
      keepsOutside s t [8, 13] [] []) ∧
  (∀ (s : State), s.Wf → Runs (.sigVerify) s fun t =>
      t = { s with bank := t.bank, resp := t.resp, evFlight := t.evFlight, pend := t.pend, sig := t.sig } ∧
      keepsOutside s t [8, 13] [] []) ∧
  (∀ (s : State), s.Wf → Runs (.sigExtend) s fun t =>
      t = { s with bank := t.bank, resp := t.resp, evFlight := t.evFlight, pend := t.pend, sig := t.sig } ∧
      keepsOutside s t [8, 13] [] []) ∧
  (∀ (s : State), s.Wf → Runs (.sigRandom) s fun t =>
      t = { s with bank := t.bank, resp := t.resp, evFlight := t.evFlight, pend := t.pend, sig := t.sig } ∧
      keepsOutside s t [8, 13] [] []) ∧
  (∀ (s : State), s.Wf → Runs (.sigOpDone) s fun t =>
      t = { s with bank := t.bank, free := t.free, evFlight := t.evFlight, pend := t.pend, logQueue := t.logQueue, hsram := t.hsram, csram := t.csram, sramValid := t.sramValid, dram := t.dram, valid := t.valid, marks := t.marks, lines := t.lines, victims := t.victims, core := t.core, sig := t.sig, seen := t.seen, contained := t.contained } ∧
      keepsOutside s t [5, 6, 8, 13, 17] [15] [8]) ∧
  (∀ (s : State) (core : CoreNo), s.Wf → Runs (.coreInstruction core) s fun t =>
      t = { s with bank := t.bank, latch := t.latch, resp := t.resp, free := t.free, links := t.links, msgFlight := t.msgFlight, evFlight := t.evFlight, pend := t.pend, cal := t.cal, waiting := t.waiting, holders := t.holders, yields := t.yields, logQueue := t.logQueue, nvs := t.nvs, flash := t.flash, otp := t.otp, hsram := t.hsram, csram := t.csram, sramValid := t.sramValid, dram := t.dram, valid := t.valid, marks := t.marks, lines := t.lines, victims := t.victims, spares := t.spares, dcmdFull := t.dcmdFull, bufs := t.bufs, poolFree := t.poolFree, keys := t.keys, keyJob := t.keyJob, smFree := t.smFree, host := t.host, dump := t.dump, invNotes := t.invNotes, overrides := t.overrides, demod := t.demod, loop := t.loop, hold := t.hold, clv := t.clv, det := t.det, wru := t.wru, flu := t.flu, pau := t.pau, lmu := t.lmu, spin := t.spin, clasps := t.clasps, fatal := t.fatal, core := t.core, sig := t.sig, upd := t.upd, dbg := t.dbg, otpJob := t.otpJob, nvsJob := t.nvsJob, nvsWaits := t.nvsWaits, alog := t.alog, lad := t.lad, xsJob := t.xsJob, xsHeld := t.xsHeld, pins := t.pins, bootDue := t.bootDue, seen := t.seen, contained := t.contained }) ∧
  (∀ (s : State) (core : CoreNo) (agrees : Bool), s.Wf → Runs (.residueMismatch core agrees) s fun t =>
      t = { s with bank := t.bank, evFlight := t.evFlight, pend := t.pend, logQueue := t.logQueue, core := t.core, seen := t.seen, contained := t.contained } ∧
      keepsOutside s t [13, 18] [14] [8]) ∧
  (∀ (s : State) (core : CoreNo) (source : Nat) (addr : DWord), s.Wf → Runs (.machineCheck core source addr) s fun t =>
      t = { s with bank := t.bank, evFlight := t.evFlight, pend := t.pend, logQueue := t.logQueue, hsram := t.hsram, csram := t.csram, dram := t.dram, valid := t.valid, marks := t.marks, lines := t.lines, victims := t.victims, core := t.core, seen := t.seen, contained := t.contained } ∧
      keepsOutside s t [5, 6, 13, 17, 18] [14, 15] [8]) ∧
  (∀ (s : State) (core : CoreNo), s.Wf → Runs (.watchdogExpiry core) s fun t =>
      t = { s with bank := t.bank, evFlight := t.evFlight, pend := t.pend, logQueue := t.logQueue, core := t.core, seen := t.seen, contained := t.contained } ∧
      keepsOutside s t [13, 18] [14] [8]) ∧
  (∀ (s : State) (core : CoreNo), s.Wf → Runs (.warmRestart core) s fun t =>
      t = { s with bank := t.bank, links := t.links, core := t.core } ∧
      keepsOutside s t [18] [14] []) ∧
  (∀ (s : State) (core : CoreNo) (pass : Bool), s.Wf → Runs (.warmRestartDone core pass) s fun t =>
      t = { s with bank := t.bank, evFlight := t.evFlight, pend := t.pend, logQueue := t.logQueue, hsram := t.hsram, csram := t.csram, sramValid := t.sramValid, dram := t.dram, valid := t.valid, marks := t.marks, lines := t.lines, victims := t.victims, bufs := t.bufs, poolFree := t.poolFree, host := t.host, loop := t.loop, clv := t.clv, fatal := t.fatal, core := t.core, seen := t.seen, contained := t.contained } ∧
      keepsOutside s t [4, 5, 6, 13, 17, 18] [9, 10, 13, 14, 15] [8]) ∧
  (∀ (s : State) (core : CoreNo), s.Wf → Runs (.coreStart core) s fun t =>
      t = { s with bank := t.bank, resp := t.resp, core := t.core } ∧
      keepsOutside s t [18] [14] []) ∧
  (∀ (s : State) (core : CoreNo), s.Wf → Runs (.coreWarm core) s fun t =>
      t = { s with bank := t.bank, resp := t.resp, evFlight := t.evFlight, pend := t.pend, logQueue := t.logQueue, core := t.core, seen := t.seen, contained := t.contained } ∧
      keepsOutside s t [13, 18] [14] [8]) ∧
  (∀ (s : State), s.Wf → Runs (.keeperContextResidue) s fun t =>
      t = s) ∧
  (∀ (s : State) (event : Fin 512), s.Wf → Runs (.eventRaise event) s fun t =>
      t = { s with bank := t.bank, evFlight := t.evFlight, pend := t.pend } ∧
      keepsOutside s t [13] [] []) ∧
  (∀ (s : State) (event : Fin 512), s.Wf → Runs (.eventDeliver event) s fun t =>
      t = { s with evFlight := t.evFlight, pend := t.pend, core := t.core }) ∧
  (∀ (s : State) (core : CoreNo), s.Wf → Runs (.mevclaimRead core) s fun t =>
      t = { s with resp := t.resp, free := t.free, pend := t.pend, core := t.core }) ∧
  (∀ (s : State) (core : CoreNo) (value : DWord), s.Wf → Runs (.mevsendWrite core value) s fun t =>
      t = { s with bank := t.bank, free := t.free, evFlight := t.evFlight, pend := t.pend, logQueue := t.logQueue, core := t.core, seen := t.seen, contained := t.contained } ∧
      keepsOutside s t [13] [] [8]) ∧
  (∀ (s : State) (value : Word), s.Wf → Runs (.evSendWrite value) s fun t =>
      t = { s with bank := t.bank, resp := t.resp, evFlight := t.evFlight, pend := t.pend, logQueue := t.logQueue, seen := t.seen, contained := t.contained } ∧
      keepsOutside s t [13] [] [8]) ∧
  (∀ (s : State) (w : Fin 128) (value : Word), s.Wf → Runs (.evRouteWrite w value) s fun t =>
      t = { s with bank := t.bank, resp := t.resp, evFlight := t.evFlight, pend := t.pend, logQueue := t.logQueue, seen := t.seen, contained := t.contained } ∧
      keepsOutside s t [13] [16] [8, 13]) ∧
  (∀ (s : State) (ch : Ch), s.Wf → Runs (.taskRaise ch) s fun t =>
      t = { s with bank := t.bank, evFlight := t.evFlight, pend := t.pend, core := t.core } ∧
      keepsOutside s t [13] [] []) ∧
  (∀ (s : State) (ch : Ch), s.Wf → Runs (.taskLate ch) s fun t =>
      t = { s with bank := t.bank } ∧
      keepsOutside s t [18] [14] []) ∧
  (∀ (s : State) (core : CoreNo) (value : DWord), s.Wf → Runs (.mtaskdoneWrite core value) s fun t =>
      t = { s with free := t.free, core := t.core }) ∧
  (∀ (s : State) (core : CoreNo) (value : DWord), s.Wf → Runs (.mdinvWrite core value) s fun t =>
      t = { s with free := t.free, core := t.core }) ∧
  (∀ (s : State) (core : CoreNo), s.Wf → Runs (.mwdkickWrite core) s fun t =>
      t = { s with free := t.free, core := t.core }) ∧
  (∀ (s : State) (core : CoreNo) (value : DWord), s.Wf → Runs (.mresctlWrite core value) s fun t =>
      t = { s with free := t.free, core := t.core }) ∧
  (∀ (s : State) (core : CoreNo), s.Wf → Runs (.timerInterrupt core) s fun t =>
      t = { s with core := t.core }) ∧
  (∀ (s : State) (ch : Ch) (value : Word), s.Wf → Runs (.lmLoadData7Write ch value) s fun t =>
      t = { s with bank := t.bank, resp := t.resp, evFlight := t.evFlight, pend := t.pend, logQueue := t.logQueue, lmu := t.lmu, seen := t.seen, contained := t.contained } ∧
      keepsOutsideCh s t ch [11] [13] [] [8]) ∧
  (∀ (s : State) (ch : Ch), s.Wf → Runs (.lmStart ch) s fun t =>
      t = { s with bank := t.bank, resp := t.resp, lmu := t.lmu } ∧
      keepsOutsideCh s t ch [11] [] [] []) ∧
  (∀ (s : State) (ch : Ch), s.Wf → Runs (.lmVerifyDone ch) s fun t =>
      t = { s with bank := t.bank, evFlight := t.evFlight, pend := t.pend, logQueue := t.logQueue, lmu := t.lmu, seen := t.seen, contained := t.contained } ∧
      keepsOutsideCh s t ch [11] [13] [] [8]) ∧
  (∀ (s : State) (ch : Ch), s.Wf → Runs (.lmStop ch) s fun t =>
      t = { s with bank := t.bank, resp := t.resp, evFlight := t.evFlight, pend := t.pend, csram := t.csram, sramValid := t.sramValid, marks := t.marks, det := t.det, wru := t.wru, lmu := t.lmu, core := t.core } ∧
      keepsOutsideCh s t ch [3, 5, 6, 11] [13] [] []) ∧
  (∀ (s : State) (ch : Ch), s.Wf → Runs (.lmReload ch) s fun t =>
      t = { s with resp := t.resp, lmu := t.lmu }) ∧
  (∀ (s : State) (ch : Ch), s.Wf → Runs (.lmReloadDone ch) s fun t =>
      t = { s with lmu := t.lmu }) ∧
  (∀ (s : State) (ch : Ch) (handover : Bool), s.Wf → Runs (.microword ch handover) s fun t =>
      t = { s with bank := t.bank, latch := t.latch, resp := t.resp, free := t.free, links := t.links, msgFlight := t.msgFlight, evFlight := t.evFlight, pend := t.pend, cal := t.cal, waiting := t.waiting, holders := t.holders, yields := t.yields, logQueue := t.logQueue, nvs := t.nvs, flash := t.flash, otp := t.otp, hsram := t.hsram, csram := t.csram, sramValid := t.sramValid, dram := t.dram, valid := t.valid, marks := t.marks, lines := t.lines, victims := t.victims, spares := t.spares, dcmdFull := t.dcmdFull, bufs := t.bufs, poolFree := t.poolFree, keys := t.keys, keyJob := t.keyJob, smFree := t.smFree, host := t.host, dump := t.dump, invNotes := t.invNotes, overrides := t.overrides, demod := t.demod, loop := t.loop, hold := t.hold, clv := t.clv, det := t.det, wru := t.wru, flu := t.flu, pau := t.pau, lmu := t.lmu, spin := t.spin, clasps := t.clasps, fatal := t.fatal, core := t.core, sig := t.sig, upd := t.upd, dbg := t.dbg, otpJob := t.otpJob, nvsJob := t.nvsJob, nvsWaits := t.nvsWaits, alog := t.alog, lad := t.lad, xsJob := t.xsJob, xsHeld := t.xsHeld, pins := t.pins, bootDue := t.bootDue, seen := t.seen, contained := t.contained })

/-- For the commands of boot, update, debug, the log, power and the pins: in every well-formed state and with every
operand each completes: there is a next state, and it differs from the state before only in the fields of State each
names, and among the registers only in those of the units it names; the other memories, queues and units, the NV
store, the flash, the OTP array, the image in force and the queue of commands are as before unless named. -/
def Obligations.Boot_update_log_power_and_pin_commands_leave_the_rest : Prop :=
  (∀ (s : State), s.Wf → Runs (.powerOnReset) s fun t =>
      t = { s with pending := t.pending, bank := t.bank, latch := t.latch, resp := t.resp, free := t.free, subUs := t.subUs, img := t.img, links := t.links, msgFlight := t.msgFlight, evFlight := t.evFlight, pend := t.pend, wl := t.wl, cal := t.cal, waiting := t.waiting, holders := t.holders, slices := t.slices, yields := t.yields, logQueue := t.logQueue, logArray := t.logArray, nvs := t.nvs, flash := t.flash, otp := t.otp, hsram := t.hsram, csram := t.csram, sramValid := t.sramValid, dram := t.dram, valid := t.valid, marks := t.marks, lines := t.lines, victims := t.victims, spares := t.spares, sparesKept := t.sparesKept, dcmdFull := t.dcmdFull, lapStart := t.lapStart, bufs := t.bufs, poolFree := t.poolFree, keyStore := t.keyStore, keys := t.keys, keyJob := t.keyJob, smFree := t.smFree, host := t.host, staged := t.staged, reloadUs := t.reloadUs, dump := t.dump, invBuf := t.invBuf, invNotes := t.invNotes, invAt := t.invAt, invFree := t.invFree, invLate := t.invLate, overrides := t.overrides, demod := t.demod, loop := t.loop, loopPre := t.loopPre, hold := t.hold, clv := t.clv, clvFrame := t.clvFrame, shock := t.shock, det := t.det, wru := t.wru, asu := t.asu, flu := t.flu, pau := t.pau, lmu := t.lmu, spin := t.spin, clasps := t.clasps, fatal := t.fatal, mtime := t.mtime, core := t.core, sig := t.sig, upd := t.upd, dbg := t.dbg, otpJob := t.otpJob, nvsJob := t.nvsJob, nvsWaits := t.nvsWaits, keeper := t.keeper, alog := t.alog, lad := t.lad, dmp := t.dmp, xsJob := t.xsJob, xsHeld := t.xsHeld, pins := t.pins, diode := t.diode, bootDue := t.bootDue, chWait := t.chWait, critOff := t.critOff, downDies := t.downDies, seen := t.seen, contained := t.contained }) ∧
  (∀ (s : State), s.Wf → Runs (.keeperRomBoot) s fun t =>
      t = { s with bank := t.bank, free := t.free, evFlight := t.evFlight, pend := t.pend, cal := t.cal, waiting := t.waiting, logQueue := t.logQueue, nvs := t.nvs, demod := t.demod, sig := t.sig, keeper := t.keeper, lad := t.lad, seen := t.seen, contained := t.contained } ∧
      keepsOutside s t [0, 8, 13] [0, 2, 6, 8] [0, 1, 3, 8, 9, 12]) ∧
  (∀ (s : State), s.Wf → Runs (.hubResetRelease) s fun t =>
      t = { s with bank := t.bank, free := t.free, evFlight := t.evFlight, pend := t.pend, cal := t.cal, waiting := t.waiting, logQueue := t.logQueue, nvs := t.nvs, demod := t.demod, sig := t.sig, lad := t.lad, seen := t.seen, contained := t.contained } ∧
      keepsOutside s t [0, 8, 12, 13] [0, 2, 6, 8] [0, 3, 8, 12]) ∧
  (∀ (s : State) (dramGood : Bool) (reloadUs : Nat), s.Wf → Runs (.hubRomBoot dramGood reloadUs) s fun t =>
      t = { s with bank := t.bank, latch := t.latch, free := t.free, img := t.img, links := t.links, msgFlight := t.msgFlight, evFlight := t.evFlight, pend := t.pend, cal := t.cal, waiting := t.waiting, holders := t.holders, slices := t.slices, logQueue := t.logQueue, logArray := t.logArray, nvs := t.nvs, flash := t.flash, otp := t.otp, hsram := t.hsram, csram := t.csram, sramValid := t.sramValid, dram := t.dram, valid := t.valid, marks := t.marks, lines := t.lines, victims := t.victims, bufs := t.bufs, poolFree := t.poolFree, host := t.host, reloadUs := t.reloadUs, dump := t.dump, overrides := t.overrides, demod := t.demod, loop := t.loop, loopPre := t.loopPre, hold := t.hold, clv := t.clv, clvFrame := t.clvFrame, det := t.det, wru := t.wru, asu := t.asu, flu := t.flu, pau := t.pau, lmu := t.lmu, spin := t.spin, clasps := t.clasps, core := t.core, sig := t.sig, upd := t.upd, alog := t.alog, lad := t.lad, chWait := t.chWait, critOff := t.critOff, downDies := t.downDies, seen := t.seen, contained := t.contained }) ∧
  (∀ (s : State) (ch : Ch), s.Wf → Runs (.chSupplyTimeout ch) s fun t =>
      t = { s with bank := t.bank, latch := t.latch, links := t.links, msgFlight := t.msgFlight, evFlight := t.evFlight, pend := t.pend, cal := t.cal, waiting := t.waiting, holders := t.holders, slices := t.slices, logQueue := t.logQueue, hsram := t.hsram, csram := t.csram, sramValid := t.sramValid, dram := t.dram, valid := t.valid, marks := t.marks, lines := t.lines, victims := t.victims, bufs := t.bufs, poolFree := t.poolFree, host := t.host, overrides := t.overrides, demod := t.demod, loop := t.loop, loopPre := t.loopPre, hold := t.hold, clv := t.clv, clvFrame := t.clvFrame, det := t.det, wru := t.wru, asu := t.asu, flu := t.flu, pau := t.pau, lmu := t.lmu, core := t.core, lad := t.lad, chWait := t.chWait, downDies := t.downDies, seen := t.seen, contained := t.contained }) ∧
  (∀ (s : State) (value : Word), s.Wf → Runs (.fullBootRequest value) s fun t =>
      t = { s with resp := t.resp, bootDue := t.bootDue }) ∧
  (∀ (s : State), s.Wf → Runs (.fullBoot) s fun t =>
      t = { s with bank := t.bank, latch := t.latch, links := t.links, msgFlight := t.msgFlight, evFlight := t.evFlight, pend := t.pend, cal := t.cal, waiting := t.waiting, holders := t.holders, slices := t.slices, hsram := t.hsram, csram := t.csram, sramValid := t.sramValid, dram := t.dram, valid := t.valid, marks := t.marks, lines := t.lines, victims := t.victims, spares := t.spares, dcmdFull := t.dcmdFull, lapStart := t.lapStart, bufs := t.bufs, poolFree := t.poolFree, keys := t.keys, keyJob := t.keyJob, smFree := t.smFree, host := t.host, staged := t.staged, reloadUs := t.reloadUs, overrides := t.overrides, demod := t.demod, loop := t.loop, loopPre := t.loopPre, hold := t.hold, clv := t.clv, clvFrame := t.clvFrame, det := t.det, wru := t.wru, asu := t.asu, flu := t.flu, pau := t.pau, lmu := t.lmu, fatal := t.fatal, core := t.core, sig := t.sig, upd := t.upd, dbg := t.dbg, otpJob := t.otpJob, alog := t.alog, lad := t.lad, dmp := t.dmp, xsJob := t.xsJob, xsHeld := t.xsHeld, pins := t.pins, bootDue := t.bootDue, chWait := t.chWait, downDies := t.downDies }) ∧
  (∀ (s : State) (tag : TagNo), s.Wf → Runs (.blankImageDownload tag) s fun t =>
      t = { s with free := t.free, flash := t.flash, host := t.host, staged := t.staged }) ∧
  (∀ (s : State) (tag : TagNo), s.Wf → Runs (.keeperImageDownload tag) s fun t =>
      t = { s with free := t.free, nvs := t.nvs, host := t.host, staged := t.staged }) ∧
  (∀ (s : State) (tag : TagNo) (data : List Byte), s.Wf → Runs (.firmwareImageDownload tag data) s fun t =>
      t = { s with bank := t.bank, free := t.free, host := t.host, staged := t.staged } ∧
      keepsOutside s t [8] [] []) ∧
  (∀ (s : State) (tag : TagNo), s.Wf → Runs (.firmwareCommit tag) s fun t =>
      t = { s with bank := t.bank, free := t.free, evFlight := t.evFlight, pend := t.pend, logQueue := t.logQueue, nvs := t.nvs, flash := t.flash, otp := t.otp, hsram := t.hsram, csram := t.csram, dram := t.dram, valid := t.valid, marks := t.marks, lines := t.lines, victims := t.victims, host := t.host, staged := t.staged, sig := t.sig, upd := t.upd, seen := t.seen, contained := t.contained } ∧
      keepsOutside s t [5, 6, 8, 13, 17] [15] [8, 12]) ∧
  (∀ (s : State) (target : Fin 16), s.Wf → Runs (.updHdrchk target) s fun t =>
      t = { s with bank := t.bank, resp := t.resp, free := t.free, evFlight := t.evFlight, pend := t.pend, logQueue := t.logQueue, nvs := t.nvs, flash := t.flash, otp := t.otp, hsram := t.hsram, csram := t.csram, dram := t.dram, valid := t.valid, marks := t.marks, lines := t.lines, victims := t.victims, host := t.host, sig := t.sig, upd := t.upd, seen := t.seen, contained := t.contained } ∧
      keepsOutside s t [5, 6, 8, 13, 17] [15] [8, 12]) ∧
  (∀ (s : State) (target : Fin 16), s.Wf → Runs (.updWrite target) s fun t =>
      t = { s with bank := t.bank, resp := t.resp, free := t.free, evFlight := t.evFlight, pend := t.pend, logQueue := t.logQueue, nvs := t.nvs, flash := t.flash, otp := t.otp, hsram := t.hsram, csram := t.csram, dram := t.dram, valid := t.valid, marks := t.marks, lines := t.lines, victims := t.victims, host := t.host, sig := t.sig, upd := t.upd, seen := t.seen, contained := t.contained } ∧
      keepsOutside s t [5, 6, 8, 13, 17] [15] [8, 12]) ∧
  (∀ (s : State) (target : Fin 16), s.Wf → Runs (.updSelect target) s fun t =>
      t = { s with bank := t.bank, resp := t.resp, free := t.free, evFlight := t.evFlight, pend := t.pend, logQueue := t.logQueue, nvs := t.nvs, flash := t.flash, otp := t.otp, hsram := t.hsram, csram := t.csram, dram := t.dram, valid := t.valid, marks := t.marks, lines := t.lines, victims := t.victims, host := t.host, sig := t.sig, upd := t.upd, seen := t.seen, contained := t.contained } ∧
      keepsOutside s t [5, 6, 8, 13, 17] [15] [8, 12]) ∧
  (∀ (s : State) (target : Fin 16), s.Wf → Runs (.updActivate target) s fun t =>
      t = { s with bank := t.bank, resp := t.resp, free := t.free, evFlight := t.evFlight, pend := t.pend, logQueue := t.logQueue, nvs := t.nvs, flash := t.flash, otp := t.otp, hsram := t.hsram, csram := t.csram, dram := t.dram, valid := t.valid, marks := t.marks, lines := t.lines, victims := t.victims, host := t.host, sig := t.sig, upd := t.upd, seen := t.seen, contained := t.contained } ∧
      keepsOutside s t [5, 6, 8, 13, 17] [15] [8, 12]) ∧
  (∀ (s : State) (flash : Bool), s.Wf → Runs (.updOpDone flash) s fun t =>
      t = { s with bank := t.bank, free := t.free, evFlight := t.evFlight, pend := t.pend, logQueue := t.logQueue, nvs := t.nvs, flash := t.flash, otp := t.otp, hsram := t.hsram, csram := t.csram, dram := t.dram, valid := t.valid, marks := t.marks, lines := t.lines, victims := t.victims, host := t.host, staged := t.staged, sig := t.sig, upd := t.upd, xsHeld := t.xsHeld, seen := t.seen, contained := t.contained } ∧
      keepsOutside s t [5, 6, 8, 13, 17] [15] [8, 12]) ∧
  (∀ (s : State), s.Wf → Runs (.chStepDrain) s fun t =>
      t = { s with bank := t.bank, evFlight := t.evFlight, pend := t.pend, csram := t.csram, sramValid := t.sramValid, marks := t.marks, det := t.det, wru := t.wru, lmu := t.lmu, core := t.core, sig := t.sig, upd := t.upd } ∧
      keepsOutside s t [13, 18] [3, 5, 6, 11, 14] []) ∧
  (∀ (s : State), s.Wf → Runs (.hubStep) s fun t =>
      t = { s with bank := t.bank, evFlight := t.evFlight, pend := t.pend, logQueue := t.logQueue, hsram := t.hsram, csram := t.csram, sramValid := t.sramValid, dram := t.dram, valid := t.valid, marks := t.marks, lines := t.lines, victims := t.victims, core := t.core, sig := t.sig, upd := t.upd, seen := t.seen, contained := t.contained } ∧
      keepsOutside s t [5, 6, 13, 17, 18] [14, 15] [8]) ∧
  (∀ (s : State) (source : Fin 17) (value : Word), s.Wf → Runs (.updStWrite source value) s fun t =>
      t = { s with bank := t.bank, resp := t.resp, free := t.free, evFlight := t.evFlight, pend := t.pend, logQueue := t.logQueue, nvs := t.nvs, flash := t.flash, otp := t.otp, host := t.host, loop := t.loop, clv := t.clv, spin := t.spin, sig := t.sig, upd := t.upd, bootDue := t.bootDue, seen := t.seen, contained := t.contained } ∧
      keepsOutside s t [8, 13] [9, 10, 13] [8, 12]) ∧
  (∀ (s : State), s.Wf → Runs (.selftestTimeout) s fun t =>
      t = { s with bank := t.bank, evFlight := t.evFlight, pend := t.pend, logQueue := t.logQueue, nvs := t.nvs, loop := t.loop, clv := t.clv, spin := t.spin, bootDue := t.bootDue, seen := t.seen, contained := t.contained } ∧
      keepsOutside s t [8, 13] [9, 10, 13] [8]) ∧
  (∀ (s : State) (value : Word), s.Wf → Runs (.updUnsealWrite value) s fun t =>
      t = { s with resp := t.resp, nvs := t.nvs, bootDue := t.bootDue }) ∧
  (∀ (s : State) (tap : Bool), s.Wf → Runs (.dbgChal tap) s fun t =>
      t = { s with resp := t.resp, free := t.free, dbg := t.dbg }) ∧
  (∀ (s : State) (token : List Byte), s.Wf → Runs (.dbgToken token) s fun t =>
      t = { s with bank := t.bank, dbg := t.dbg } ∧
      keepsOutside s t [19] [] []) ∧
  (∀ (s : State), s.Wf → Runs (.dbgSubmit) s fun t =>
      t = { s with bank := t.bank, resp := t.resp, evFlight := t.evFlight, pend := t.pend, logQueue := t.logQueue, hsram := t.hsram, csram := t.csram, dram := t.dram, valid := t.valid, marks := t.marks, lines := t.lines, victims := t.victims, dbg := t.dbg, seen := t.seen, contained := t.contained } ∧
      keepsOutside s t [5, 6, 13, 17, 19] [15] [8]) ∧
  (∀ (s : State), s.Wf → Runs (.tokenCheckDone) s fun t =>
      t = { s with bank := t.bank, evFlight := t.evFlight, pend := t.pend, logQueue := t.logQueue, sig := t.sig, dbg := t.dbg, seen := t.seen, contained := t.contained } ∧
      keepsOutside s t [8, 13, 19] [] [8]) ∧
  (∀ (s : State), s.Wf → Runs (.challengeExpire) s fun t =>
      t = { s with dbg := t.dbg }) ∧
  (∀ (s : State), s.Wf → Runs (.dbgLock) s fun t =>
      t = { s with bank := t.bank, resp := t.resp } ∧
      keepsOutside s t [19] [] []) ∧
  (∀ (s : State) (value : Word), s.Wf → Runs (.otpProgWrite value) s fun t =>
      t = { s with bank := t.bank, resp := t.resp, otpJob := t.otpJob } ∧
      keepsOutside s t [15] [] []) ∧
  (∀ (s : State), s.Wf → Runs (.otpProgramDone) s fun t =>
      t = { s with bank := t.bank, otp := t.otp, otpJob := t.otpJob } ∧
      keepsOutside s t [15] [] []) ∧
  (∀ (s : State) (value : Word), s.Wf → Runs (.nvsDataWrite value) s fun t =>
      t = { s with bank := t.bank, resp := t.resp, evFlight := t.evFlight, pend := t.pend, logQueue := t.logQueue, nvsJob := t.nvsJob, nvsWaits := t.nvsWaits, seen := t.seen, contained := t.contained } ∧
      keepsOutside s t [13] [] [8, 10]) ∧
  (∀ (s : State), s.Wf → Runs (.nvsDataRead) s fun t =>
      t = { s with bank := t.bank, resp := t.resp, nvsWaits := t.nvsWaits } ∧
      keepsOutside s t [] [] [10]) ∧
  (∀ (s : State) (ok : Bool), s.Wf → Runs (.nvsWriteDone ok) s fun t =>
      t = { s with bank := t.bank, resp := t.resp, evFlight := t.evFlight, pend := t.pend, logQueue := t.logQueue, nvs := t.nvs, nvsJob := t.nvsJob, nvsWaits := t.nvsWaits, seen := t.seen, contained := t.contained } ∧
      keepsOutside s t [13] [] [8, 10]) ∧
  (∀ (s : State) (value : Word) (l12 : Bool), s.Wf → Runs (.ladderCmdWrite value l12) s fun t =>
      t = { s with bank := t.bank, resp := t.resp, evFlight := t.evFlight, pend := t.pend, logQueue := t.logQueue, lad := t.lad, seen := t.seen, contained := t.contained } ∧
      keepsOutside s t [13] [] [3, 8]) ∧
  (∀ (s : State) (value : Word), s.Wf → Runs (.maxRungWrite value) s fun t =>
      t = { s with bank := t.bank, resp := t.resp, evFlight := t.evFlight, pend := t.pend, logQueue := t.logQueue, lad := t.lad, seen := t.seen, contained := t.contained } ∧
      keepsOutside s t [13] [] [3, 8]) ∧
  (∀ (s : State), s.Wf → Runs (.rungEntryStep) s fun t =>
      t = { s with bank := t.bank, latch := t.latch, links := t.links, msgFlight := t.msgFlight, evFlight := t.evFlight, pend := t.pend, wl := t.wl, cal := t.cal, waiting := t.waiting, holders := t.holders, slices := t.slices, logQueue := t.logQueue, nvs := t.nvs, flash := t.flash, hsram := t.hsram, csram := t.csram, sramValid := t.sramValid, dram := t.dram, valid := t.valid, marks := t.marks, lines := t.lines, victims := t.victims, spares := t.spares, dcmdFull := t.dcmdFull, bufs := t.bufs, poolFree := t.poolFree, keys := t.keys, keyJob := t.keyJob, smFree := t.smFree, host := t.host, staged := t.staged, dump := t.dump, overrides := t.overrides, demod := t.demod, loop := t.loop, loopPre := t.loopPre, hold := t.hold, clv := t.clv, clvFrame := t.clvFrame, shock := t.shock, det := t.det, wru := t.wru, asu := t.asu, flu := t.flu, pau := t.pau, lmu := t.lmu, spin := t.spin, core := t.core, sig := t.sig, upd := t.upd, dbg := t.dbg, otpJob := t.otpJob, alog := t.alog, lad := t.lad, xsJob := t.xsJob, xsHeld := t.xsHeld, pins := t.pins, seen := t.seen, contained := t.contained }) ∧
  (∀ (s : State) (source : Fin 6), s.Wf → Runs (.rungWake source) s fun t =>
      t = { s with bank := t.bank, evFlight := t.evFlight, pend := t.pend, logQueue := t.logQueue, lad := t.lad, seen := t.seen, contained := t.contained } ∧
      keepsOutside s t [13] [] [3, 8]) ∧
  (∀ (s : State), s.Wf → Runs (.rungExit) s fun t =>
      t = { s with bank := t.bank, free := t.free, evFlight := t.evFlight, pend := t.pend, cal := t.cal, waiting := t.waiting, logQueue := t.logQueue, nvs := t.nvs, hsram := t.hsram, csram := t.csram, sramValid := t.sramValid, dram := t.dram, valid := t.valid, marks := t.marks, lines := t.lines, victims := t.victims, bufs := t.bufs, poolFree := t.poolFree, host := t.host, overrides := t.overrides, demod := t.demod, pau := t.pau, lmu := t.lmu, spin := t.spin, clasps := t.clasps, core := t.core, sig := t.sig, lad := t.lad, dmp := t.dmp, bootDue := t.bootDue, seen := t.seen, contained := t.contained }) ∧
  (∀ (s : State) (supply : Fin 17), s.Wf → Runs (.supplyGood supply) s fun t =>
      t = { s with bank := t.bank, latch := t.latch, free := t.free, links := t.links, msgFlight := t.msgFlight, evFlight := t.evFlight, pend := t.pend, cal := t.cal, waiting := t.waiting, holders := t.holders, slices := t.slices, logQueue := t.logQueue, nvs := t.nvs, hsram := t.hsram, csram := t.csram, sramValid := t.sramValid, dram := t.dram, valid := t.valid, marks := t.marks, lines := t.lines, victims := t.victims, bufs := t.bufs, poolFree := t.poolFree, host := t.host, overrides := t.overrides, demod := t.demod, loop := t.loop, loopPre := t.loopPre, hold := t.hold, clv := t.clv, clvFrame := t.clvFrame, det := t.det, wru := t.wru, asu := t.asu, flu := t.flu, pau := t.pau, lmu := t.lmu, core := t.core, sig := t.sig, lad := t.lad, chWait := t.chWait, downDies := t.downDies, seen := t.seen, contained := t.contained }) ∧
  (∀ (s : State) (supply : Fin 17), s.Wf → Runs (.supplyLost supply) s fun t =>
      t = { s with pending := t.pending, bank := t.bank, latch := t.latch, resp := t.resp, free := t.free, subUs := t.subUs, img := t.img, links := t.links, msgFlight := t.msgFlight, evFlight := t.evFlight, pend := t.pend, wl := t.wl, cal := t.cal, waiting := t.waiting, holders := t.holders, slices := t.slices, yields := t.yields, logQueue := t.logQueue, logArray := t.logArray, nvs := t.nvs, flash := t.flash, otp := t.otp, hsram := t.hsram, csram := t.csram, sramValid := t.sramValid, dram := t.dram, valid := t.valid, marks := t.marks, lines := t.lines, victims := t.victims, spares := t.spares, sparesKept := t.sparesKept, dcmdFull := t.dcmdFull, lapStart := t.lapStart, bufs := t.bufs, poolFree := t.poolFree, keyStore := t.keyStore, keys := t.keys, keyJob := t.keyJob, smFree := t.smFree, host := t.host, staged := t.staged, reloadUs := t.reloadUs, dump := t.dump, invBuf := t.invBuf, invNotes := t.invNotes, invAt := t.invAt, invFree := t.invFree, invLate := t.invLate, overrides := t.overrides, demod := t.demod, loop := t.loop, loopPre := t.loopPre, hold := t.hold, clv := t.clv, clvFrame := t.clvFrame, shock := t.shock, det := t.det, wru := t.wru, asu := t.asu, flu := t.flu, pau := t.pau, lmu := t.lmu, spin := t.spin, clasps := t.clasps, fatal := t.fatal, mtime := t.mtime, core := t.core, sig := t.sig, upd := t.upd, dbg := t.dbg, otpJob := t.otpJob, nvsJob := t.nvsJob, nvsWaits := t.nvsWaits, keeper := t.keeper, alog := t.alog, lad := t.lad, dmp := t.dmp, xsJob := t.xsJob, xsHeld := t.xsHeld, pins := t.pins, diode := t.diode, bootDue := t.bootDue, chWait := t.chWait, critOff := t.critOff, downDies := t.downDies, seen := t.seen, contained := t.contained }) ∧
  (∀ (s : State) (readings : List (Int × Bool)), s.Wf → Runs (.thermalConversion readings) s fun t =>
      t = { s with bank := t.bank, latch := t.latch, links := t.links, msgFlight := t.msgFlight, evFlight := t.evFlight, pend := t.pend, wl := t.wl, cal := t.cal, waiting := t.waiting, holders := t.holders, slices := t.slices, logQueue := t.logQueue, flash := t.flash, hsram := t.hsram, csram := t.csram, sramValid := t.sramValid, dram := t.dram, valid := t.valid, marks := t.marks, lines := t.lines, victims := t.victims, spares := t.spares, dcmdFull := t.dcmdFull, bufs := t.bufs, poolFree := t.poolFree, keys := t.keys, keyJob := t.keyJob, smFree := t.smFree, host := t.host, staged := t.staged, overrides := t.overrides, demod := t.demod, loop := t.loop, loopPre := t.loopPre, hold := t.hold, clv := t.clv, clvFrame := t.clvFrame, shock := t.shock, det := t.det, wru := t.wru, asu := t.asu, flu := t.flu, pau := t.pau, lmu := t.lmu, spin := t.spin, clasps := t.clasps, core := t.core, sig := t.sig, upd := t.upd, dbg := t.dbg, otpJob := t.otpJob, alog := t.alog, lad := t.lad, dmp := t.dmp, xsJob := t.xsJob, xsHeld := t.xsHeld, pins := t.pins, diode := t.diode, chWait := t.chWait, critOff := t.critOff, downDies := t.downDies, seen := t.seen, contained := t.contained }) ∧
  (∀ (s : State) (die : Fin 8), s.Wf → Runs (.sensorBroken die) s fun t =>
      t = { s with bank := t.bank, latch := t.latch, links := t.links, msgFlight := t.msgFlight, evFlight := t.evFlight, pend := t.pend, wl := t.wl, cal := t.cal, waiting := t.waiting, holders := t.holders, slices := t.slices, logQueue := t.logQueue, flash := t.flash, hsram := t.hsram, csram := t.csram, sramValid := t.sramValid, dram := t.dram, valid := t.valid, marks := t.marks, lines := t.lines, victims := t.victims, spares := t.spares, dcmdFull := t.dcmdFull, bufs := t.bufs, poolFree := t.poolFree, keys := t.keys, keyJob := t.keyJob, smFree := t.smFree, host := t.host, staged := t.staged, overrides := t.overrides, demod := t.demod, loop := t.loop, loopPre := t.loopPre, hold := t.hold, clv := t.clv, clvFrame := t.clvFrame, shock := t.shock, det := t.det, wru := t.wru, asu := t.asu, flu := t.flu, pau := t.pau, lmu := t.lmu, spin := t.spin, clasps := t.clasps, core := t.core, sig := t.sig, upd := t.upd, dbg := t.dbg, otpJob := t.otpJob, alog := t.alog, lad := t.lad, dmp := t.dmp, xsJob := t.xsJob, xsHeld := t.xsHeld, pins := t.pins, chWait := t.chWait, critOff := t.critOff, downDies := t.downDies, seen := t.seen, contained := t.contained }) ∧
  (∀ (s : State), s.Wf → Runs (.dumpArm) s fun t =>
      t = { s with bank := t.bank, resp := t.resp, evFlight := t.evFlight, pend := t.pend, nvs := t.nvs, flash := t.flash, dump := t.dump } ∧
      keepsOutside s t [3, 13] [] []) ∧
  (∀ (s : State) (rate : Nat), s.Wf → Runs (.armComplete rate) s fun t =>
      t = { s with bank := t.bank, evFlight := t.evFlight, pend := t.pend, nvs := t.nvs } ∧
      keepsOutside s t [3, 13] [] []) ∧
  (∀ (s : State) (erase : Bool), s.Wf → Runs (.plpFail erase) s fun t =>
      t = { s with bank := t.bank, evFlight := t.evFlight, pend := t.pend, logQueue := t.logQueue, host := t.host, seen := t.seen, contained := t.contained } ∧
      keepsOutside s t [3, 11, 13] [] [8]) ∧
  (∀ (s : State) (source : Fin 3), s.Wf → Runs (.powerLossWarning source) s fun t =>
      t = { s with bank := t.bank, latch := t.latch, links := t.links, msgFlight := t.msgFlight, evFlight := t.evFlight, pend := t.pend, wl := t.wl, cal := t.cal, waiting := t.waiting, holders := t.holders, slices := t.slices, logQueue := t.logQueue, flash := t.flash, hsram := t.hsram, csram := t.csram, sramValid := t.sramValid, dram := t.dram, valid := t.valid, marks := t.marks, lines := t.lines, victims := t.victims, spares := t.spares, dcmdFull := t.dcmdFull, bufs := t.bufs, poolFree := t.poolFree, keys := t.keys, keyJob := t.keyJob, smFree := t.smFree, host := t.host, staged := t.staged, overrides := t.overrides, demod := t.demod, loop := t.loop, loopPre := t.loopPre, hold := t.hold, clv := t.clv, clvFrame := t.clvFrame, shock := t.shock, det := t.det, wru := t.wru, asu := t.asu, flu := t.flu, pau := t.pau, lmu := t.lmu, spin := t.spin, clasps := t.clasps, core := t.core, sig := t.sig, upd := t.upd, dbg := t.dbg, otpJob := t.otpJob, alog := t.alog, lad := t.lad, dmp := t.dmp, xsJob := t.xsJob, xsHeld := t.xsHeld, pins := t.pins, seen := t.seen, contained := t.contained }) ∧
  (∀ (s : State), s.Wf → Runs (.dumpWrite) s fun t =>
      t = { s with bank := t.bank, latch := t.latch, free := t.free, links := t.links, msgFlight := t.msgFlight, evFlight := t.evFlight, pend := t.pend, cal := t.cal, waiting := t.waiting, holders := t.holders, slices := t.slices, logQueue := t.logQueue, nvs := t.nvs, flash := t.flash, csram := t.csram, sramValid := t.sramValid, marks := t.marks, dump := t.dump, overrides := t.overrides, demod := t.demod, loop := t.loop, loopPre := t.loopPre, hold := t.hold, clv := t.clv, clvFrame := t.clvFrame, det := t.det, wru := t.wru, asu := t.asu, flu := t.flu, pau := t.pau, lmu := t.lmu, core := t.core, lad := t.lad, xsJob := t.xsJob, xsHeld := t.xsHeld, seen := t.seen, contained := t.contained }) ∧
  (∀ (s : State), s.Wf → Runs (.dumpComplete) s fun t =>
      t = { s with bank := t.bank, evFlight := t.evFlight, pend := t.pend, nvs := t.nvs, flash := t.flash, alog := t.alog, dmp := t.dmp, bootDue := t.bootDue } ∧
      keepsOutside s t [3, 13] [] [8]) ∧
  (∀ (s : State), s.Wf → Runs (.bootDump) s fun t =>
      t = { s with bank := t.bank, latch := t.latch, free := t.free, links := t.links, msgFlight := t.msgFlight, evFlight := t.evFlight, pend := t.pend, cal := t.cal, waiting := t.waiting, holders := t.holders, slices := t.slices, logQueue := t.logQueue, nvs := t.nvs, flash := t.flash, hsram := t.hsram, csram := t.csram, sramValid := t.sramValid, dram := t.dram, valid := t.valid, marks := t.marks, lines := t.lines, victims := t.victims, bufs := t.bufs, poolFree := t.poolFree, host := t.host, dump := t.dump, overrides := t.overrides, demod := t.demod, loop := t.loop, loopPre := t.loopPre, hold := t.hold, clv := t.clv, clvFrame := t.clvFrame, det := t.det, wru := t.wru, asu := t.asu, flu := t.flu, pau := t.pau, lmu := t.lmu, clasps := t.clasps, core := t.core, lad := t.lad, dmp := t.dmp, xsJob := t.xsJob, xsHeld := t.xsHeld, seen := t.seen, contained := t.contained }) ∧
  (∀ (s : State) (bad : List Nat), s.Wf → Runs (.dumpRestore bad) s fun t =>
      t = { s with bank := t.bank, free := t.free, evFlight := t.evFlight, pend := t.pend, logQueue := t.logQueue, nvs := t.nvs, hsram := t.hsram, csram := t.csram, sramValid := t.sramValid, dram := t.dram, valid := t.valid, marks := t.marks, lines := t.lines, victims := t.victims, bufs := t.bufs, poolFree := t.poolFree, smFree := t.smFree, host := t.host, core := t.core, seen := t.seen, contained := t.contained } ∧
      keepsOutside s t [3, 4, 5, 6, 10, 13, 17] [15] [8]) ∧
  (∀ (s : State), s.Wf → Runs (.alogEnter) s fun t =>
      t = { s with bank := t.bank, free := t.free, evFlight := t.evFlight, pend := t.pend, logQueue := t.logQueue, logArray := t.logArray, seen := t.seen, contained := t.contained } ∧
      keepsOutside s t [13] [] [8]) ∧
  (∀ (s : State) (block : Fin 17) (value : Word), s.Wf → Runs (.wrGoWrite block value) s fun t =>
      t = { s with bank := t.bank, resp := t.resp, evFlight := t.evFlight, pend := t.pend, logQueue := t.logQueue, seen := t.seen, contained := t.contained } ∧
      keepsOutside s t [13] [] [8]) ∧
  (∀ (s : State), s.Wf → Runs (.alogSave) s fun t =>
      t = { s with bank := t.bank, resp := t.resp, flash := t.flash, alog := t.alog } ∧
      keepsOutside s t [] [] [8]) ∧
  (∀ (s : State) (ok : Bool), s.Wf → Runs (.alogCopyDone ok) s fun t =>
      t = { s with bank := t.bank, latch := t.latch, links := t.links, msgFlight := t.msgFlight, evFlight := t.evFlight, pend := t.pend, wl := t.wl, cal := t.cal, waiting := t.waiting, holders := t.holders, slices := t.slices, logQueue := t.logQueue, flash := t.flash, hsram := t.hsram, csram := t.csram, sramValid := t.sramValid, dram := t.dram, valid := t.valid, marks := t.marks, lines := t.lines, victims := t.victims, spares := t.spares, dcmdFull := t.dcmdFull, bufs := t.bufs, poolFree := t.poolFree, keys := t.keys, keyJob := t.keyJob, smFree := t.smFree, host := t.host, staged := t.staged, overrides := t.overrides, demod := t.demod, loop := t.loop, loopPre := t.loopPre, hold := t.hold, clv := t.clv, clvFrame := t.clvFrame, shock := t.shock, det := t.det, wru := t.wru, asu := t.asu, flu := t.flu, pau := t.pau, lmu := t.lmu, spin := t.spin, core := t.core, sig := t.sig, upd := t.upd, dbg := t.dbg, otpJob := t.otpJob, alog := t.alog, lad := t.lad, xsJob := t.xsJob, xsHeld := t.xsHeld, pins := t.pins, seen := t.seen, contained := t.contained }) ∧
  (∀ (s : State), s.Wf → Runs (.alogFreeze) s fun t =>
      t = { s with bank := t.bank, resp := t.resp, alog := t.alog } ∧
      keepsOutside s t [] [] [8]) ∧
  (∀ (s : State), s.Wf → Runs (.alogUnfreeze) s fun t =>
      t = { s with bank := t.bank, resp := t.resp, alog := t.alog } ∧
      keepsOutside s t [] [] [8]) ∧
  (∀ (s : State), s.Wf → Runs (.freezeTimeout) s fun t =>
      t = { s with bank := t.bank, alog := t.alog } ∧
      keepsOutside s t [] [] [8]) ∧
  (∀ (s : State) (value : Word), s.Wf → Runs (.actStateWrite value) s fun t =>
      t = { s with bank := t.bank, resp := t.resp, evFlight := t.evFlight, pend := t.pend, logQueue := t.logQueue, seen := t.seen, contained := t.contained } ∧
      keepsOutside s t [13] [] [8]) ∧
  (∀ (s : State) (value : Word), s.Wf → Runs (.fatalCmdWrite value) s fun t =>
      t = { s with resp := t.resp, fatal := t.fatal }) ∧
  (∀ (s : State), s.Wf → Runs (.fatalSequence) s fun t =>
      t = { s with bank := t.bank, evFlight := t.evFlight, pend := t.pend, logQueue := t.logQueue, host := t.host, loop := t.loop, clv := t.clv, fatal := t.fatal, alog := t.alog, dmp := t.dmp, seen := t.seen, contained := t.contained } ∧
      keepsOutside s t [2, 13] [9, 10, 13] [8]) ∧
  (∀ (s : State), s.Wf → Runs (.fatalRetractTimeout) s fun t =>
      t = { s with bank := t.bank, loop := t.loop, clv := t.clv, alog := t.alog } ∧
      keepsOutside s t [] [9, 10, 13] []) ∧
  (∀ (s : State), s.Wf → Runs (.fatalFullBoot) s fun t =>
      t = { s with bank := t.bank, evFlight := t.evFlight, pend := t.pend, flash := t.flash, spin := t.spin, clasps := t.clasps, alog := t.alog, bootDue := t.bootDue } ∧
      keepsOutside s t [13] [] [5, 7, 8]) ∧
  (∀ (s : State) (second : Bool), s.Wf → Runs (.kprLinkFailTimer second) s fun t =>
      t = { s with bank := t.bank, clasps := t.clasps, bootDue := t.bootDue } ∧
      keepsOutside s t [] [] [7]) ∧
  (∀ (s : State), s.Wf → Runs (.xsRead) s fun t =>
      t = { s with bank := t.bank, resp := t.resp, evFlight := t.evFlight, pend := t.pend, logQueue := t.logQueue, xsJob := t.xsJob, xsHeld := t.xsHeld, seen := t.seen, contained := t.contained } ∧
      keepsOutside s t [11, 13] [] [8]) ∧
  (∀ (s : State), s.Wf → Runs (.xsProgram) s fun t =>
      t = { s with bank := t.bank, resp := t.resp, evFlight := t.evFlight, pend := t.pend, logQueue := t.logQueue, xsJob := t.xsJob, xsHeld := t.xsHeld, seen := t.seen, contained := t.contained } ∧
      keepsOutside s t [11, 13] [] [8]) ∧
  (∀ (s : State), s.Wf → Runs (.xsErase) s fun t =>
      t = { s with bank := t.bank, resp := t.resp, evFlight := t.evFlight, pend := t.pend, logQueue := t.logQueue, xsJob := t.xsJob, xsHeld := t.xsHeld, seen := t.seen, contained := t.contained } ∧
      keepsOutside s t [11, 13] [] [8]) ∧
  (∀ (s : State) (ok : Bool), s.Wf → Runs (.xsDone ok) s fun t =>
      t = { s with bank := t.bank, free := t.free, evFlight := t.evFlight, pend := t.pend, logQueue := t.logQueue, flash := t.flash, hsram := t.hsram, csram := t.csram, sramValid := t.sramValid, dram := t.dram, valid := t.valid, marks := t.marks, lines := t.lines, victims := t.victims, core := t.core, xsJob := t.xsJob, xsHeld := t.xsHeld, seen := t.seen, contained := t.contained } ∧
      keepsOutside s t [5, 6, 11, 13, 17] [15] [8]) ∧
  (∀ (s : State), s.Wf → Runs (.testEnAssert) s fun t =>
      t = { s with pending := t.pending, bank := t.bank, latch := t.latch, resp := t.resp, free := t.free, subUs := t.subUs, img := t.img, links := t.links, msgFlight := t.msgFlight, evFlight := t.evFlight, pend := t.pend, wl := t.wl, cal := t.cal, waiting := t.waiting, holders := t.holders, slices := t.slices, yields := t.yields, logQueue := t.logQueue, logArray := t.logArray, nvs := t.nvs, flash := t.flash, otp := t.otp, hsram := t.hsram, csram := t.csram, sramValid := t.sramValid, dram := t.dram, valid := t.valid, marks := t.marks, lines := t.lines, victims := t.victims, spares := t.spares, sparesKept := t.sparesKept, dcmdFull := t.dcmdFull, lapStart := t.lapStart, bufs := t.bufs, poolFree := t.poolFree, keyStore := t.keyStore, keys := t.keys, keyJob := t.keyJob, smFree := t.smFree, host := t.host, staged := t.staged, reloadUs := t.reloadUs, dump := t.dump, invBuf := t.invBuf, invNotes := t.invNotes, invAt := t.invAt, invFree := t.invFree, invLate := t.invLate, overrides := t.overrides, demod := t.demod, loop := t.loop, loopPre := t.loopPre, hold := t.hold, clv := t.clv, clvFrame := t.clvFrame, shock := t.shock, det := t.det, wru := t.wru, asu := t.asu, flu := t.flu, pau := t.pau, lmu := t.lmu, spin := t.spin, clasps := t.clasps, fatal := t.fatal, mtime := t.mtime, core := t.core, sig := t.sig, upd := t.upd, dbg := t.dbg, otpJob := t.otpJob, nvsJob := t.nvsJob, nvsWaits := t.nvsWaits, keeper := t.keeper, alog := t.alog, lad := t.lad, dmp := t.dmp, xsJob := t.xsJob, xsHeld := t.xsHeld, pins := t.pins, diode := t.diode, bootDue := t.bootDue, chWait := t.chWait, critOff := t.critOff, downDies := t.downDies, seen := t.seen, contained := t.contained }) ∧
  (∀ (s : State), s.Wf → Runs (.testEnDeassert) s fun t =>
      t = { s with pending := t.pending, bank := t.bank, latch := t.latch, resp := t.resp, free := t.free, subUs := t.subUs, img := t.img, links := t.links, msgFlight := t.msgFlight, evFlight := t.evFlight, pend := t.pend, wl := t.wl, cal := t.cal, waiting := t.waiting, holders := t.holders, slices := t.slices, yields := t.yields, logQueue := t.logQueue, logArray := t.logArray, nvs := t.nvs, flash := t.flash, otp := t.otp, hsram := t.hsram, csram := t.csram, sramValid := t.sramValid, dram := t.dram, valid := t.valid, marks := t.marks, lines := t.lines, victims := t.victims, spares := t.spares, sparesKept := t.sparesKept, dcmdFull := t.dcmdFull, lapStart := t.lapStart, bufs := t.bufs, poolFree := t.poolFree, keyStore := t.keyStore, keys := t.keys, keyJob := t.keyJob, smFree := t.smFree, host := t.host, staged := t.staged, reloadUs := t.reloadUs, dump := t.dump, invBuf := t.invBuf, invNotes := t.invNotes, invAt := t.invAt, invFree := t.invFree, invLate := t.invLate, overrides := t.overrides, demod := t.demod, loop := t.loop, loopPre := t.loopPre, hold := t.hold, clv := t.clv, clvFrame := t.clvFrame, shock := t.shock, det := t.det, wru := t.wru, asu := t.asu, flu := t.flu, pau := t.pau, lmu := t.lmu, spin := t.spin, clasps := t.clasps, fatal := t.fatal, mtime := t.mtime, core := t.core, sig := t.sig, upd := t.upd, dbg := t.dbg, otpJob := t.otpJob, nvsJob := t.nvsJob, nvsWaits := t.nvsWaits, keeper := t.keeper, alog := t.alog, lad := t.lad, dmp := t.dmp, xsJob := t.xsJob, xsHeld := t.xsHeld, pins := t.pins, diode := t.diode, bootDue := t.bootDue, chWait := t.chWait, critOff := t.critOff, downDies := t.downDies, seen := t.seen, contained := t.contained }) ∧
  (∀ (s : State), s.Wf → Runs (.tapReset) s fun t =>
      t = { s with pins := t.pins }) ∧
  (∀ (s : State), s.Wf → Runs (.idcode) s fun t =>
      t = { s with resp := t.resp, pins := t.pins }) ∧
  (∀ (s : State) (cells : List Bool), s.Wf → Runs (.extest cells) s fun t =>
      t = { s with pins := t.pins }) ∧
  (∀ (s : State) (pins : List Bool) (cells : List Bool), s.Wf → Runs (.samplePreload pins cells) s fun t =>
      t = { s with resp := t.resp, pins := t.pins }) ∧
  (∀ (s : State), s.Wf → Runs (.clamp) s fun t =>
      t = { s with pins := t.pins }) ∧
  (∀ (s : State), s.Wf → Runs (.highz) s fun t =>
      t = { s with pins := t.pins }) ∧
  (∀ (s : State), s.Wf → Runs (.bypass) s fun t =>
      t = { s with pins := t.pins }) ∧
  (∀ (s : State) (value : Word), s.Wf → Runs (.uartDataWrite value) s fun t =>
      t = { s with bank := t.bank, resp := t.resp, pins := t.pins } ∧
      keepsOutside s t [19] [] []) ∧
  (∀ (s : State), s.Wf → Runs (.uartDataRead) s fun t =>
      t = { s with resp := t.resp, pins := t.pins }) ∧
  (∀ (s : State) (byte : Byte), s.Wf → Runs (.uartReceive byte) s fun t =>
      t = { s with bank := t.bank, evFlight := t.evFlight, pend := t.pend, pins := t.pins } ∧
      keepsOutside s t [13, 19] [] []) ∧
  (∀ (s : State) (assign : I3cAssign), s.Wf → Runs (.i3cAddressAssignment assign) s fun t =>
      t = { s with bank := t.bank } ∧
      keepsOutside s t [12] [] []) ∧
  (∀ (s : State) (levels : BitVec 16), s.Wf → Runs (.gpioChange levels) s fun t =>
      t = { s with bank := t.bank, evFlight := t.evFlight, pend := t.pend, pins := t.pins } ∧
      keepsOutside s t [13, 19] [] [])
end

