-- ==== Sys2Proof/Laws/Bits.lean ====
section
/-!
SUPPORT. Fields of words: what a field reads after it, or another field of the word, was replaced; single bits.
-/

namespace Sys2Proof.Machine

theorem testBit_bitsOf (x hi lo i : Nat) : (bitsOf x hi lo).testBit i = (decide (i < hi - lo + 1) && x.testBit (lo + i)) := by
  rw [bitsOf, Nat.testBit_mod_two_pow, Nat.testBit_div_two_pow, Nat.add_comm i lo]

theorem bitOf_eq_testBit (x i : Nat) : bitOf x i = x.testBit i := by
  rw [bitOf, Nat.testBit_eq_decide_div_mod_eq]

theorem getLsbD_maskOf (hi lo i : Nat) : (maskOf hi lo).getLsbD i = (decide (i < 32) && decide (lo ≤ i) && decide (i < hi + 1 ∨ i = lo)) := by
  simp only [maskOf, BitVec.getLsbD_ofNat, Nat.testBit_mul_two_pow, Nat.testBit_two_pow_sub_one]
  by_cases h : lo ≤ i <;> simp only [h, decide_true, decide_false, Bool.and_true, Bool.and_false, Bool.true_and, Bool.false_and]
  congr 1
  simp only [decide_eq_decide]
  omega

theorem getLsbD_insertBits (w : Word) (hi lo x i : Nat) :
    (insertBits w hi lo x).getLsbD i =
      (decide (i < 32) && (if lo ≤ i ∧ (i < hi + 1 ∨ i = lo) then x.testBit (i - lo) else w.getLsbD i)) := by
  simp only [insertBits, BitVec.getLsbD_or, BitVec.getLsbD_and, BitVec.getLsbD_not, getLsbD_maskOf, BitVec.getLsbD_ofNat,
    Nat.testBit_mul_two_pow]
  by_cases h32 : i < 32 <;> by_cases hl : lo ≤ i <;> by_cases hh : i < hi + 1 ∨ i = lo <;> simp only [h32, hl, hh] <;> simp [h32]

/-- A field reads what it was set to, cut to its width. -/
theorem bitsOf_insertBits_self (w : Word) {hi lo : Nat} (x : Nat) (h : lo ≤ hi) (h32 : hi < 32) :
    bitsOf (insertBits w hi lo x).toNat hi lo = x % 2 ^ (hi - lo + 1) := by
  apply Nat.eq_of_testBit_eq
  intro i
  rw [testBit_bitsOf, Nat.testBit_mod_two_pow]
  by_cases hi' : i < hi - lo + 1
  · have e := getLsbD_insertBits w hi lo x (lo + i)
    rw [BitVec.getLsbD] at e
    rw [e, if_pos ⟨by omega, by omega⟩]
    simp [hi', show lo + i < 32 by omega]
  · simp [hi']

/-- A field that shares no bit with the one replaced is unchanged. -/
theorem bitsOf_insertBits_other (w : Word) {hi lo h2 l2 : Nat} (x : Nat) (h : lo ≤ hi) (hb : l2 ≤ h2) (hd : h2 < lo ∨ hi < l2) :
    bitsOf (insertBits w hi lo x).toNat h2 l2 = bitsOf w.toNat h2 l2 := by
  apply Nat.eq_of_testBit_eq
  intro i
  rw [testBit_bitsOf, testBit_bitsOf]
  by_cases hi' : i < h2 - l2 + 1
  · have e := getLsbD_insertBits w hi lo x (l2 + i)
    rw [BitVec.getLsbD] at e
    rw [e, if_neg (by omega)]
    by_cases h32 : l2 + i < 32
    · simp [h32, BitVec.getLsbD]
    · have : w.toNat.testBit (l2 + i) = false :=
        Nat.testBit_eq_false_of_lt (Nat.lt_of_lt_of_le w.isLt (Nat.pow_le_pow_right (by omega) (by omega)))
      simp [h32, this]
  · simp [hi']

theorem bitOf_setBitN_self (x i : Nat) : bitOf (setBitN x i) i = true := by
  unfold setBitN
  split
  · assumption
  · rename_i h
    rw [bitOf, decide_eq_true_eq] at h
    rw [bitOf, decide_eq_true_eq, Nat.add_div_right _ (Nat.two_pow_pos i)]
    omega

end Sys2Proof.Machine
end

