-- ==== Sys2Proof/Laws/Exec.lean ====
section
/-!
SUPPORT. Every command answers a next state; a step is the command at the front, or a microsecond.
-/

namespace Sys2Proof.Machine

theorem exec_next (c : Instr) (s : State) : ∃ t, exec c s = .next t := by
  cases c <;> exact ⟨_, rfl⟩

end Sys2Proof.Machine
end

