-- ==== Sys2Proof/Laws/Sparse.lean ====
section
/-!
SUPPORT. The laws of the sparse lists of Bits.lean: what a read finds after a store, and that every store keeps the canonical form.
-/

namespace Sys2Proof.Machine

variable {β : Type}

theorem look_place_self (k : Nat) (v : β) (m : List (Nat × β)) : look k (place k v m) = some v := by
  induction m with
  | nil => simp [place, look]
  | cons e t ih =>
    obtain ⟨a, w⟩ := e
    unfold place
    split
    · simp [look]
    · split
      · simp [look]
      · rename_i h1 h2
        simp [look, Ne.symm h2, ih]

theorem look_place_other {k j : Nat} (v : β) (m : List (Nat × β)) (h : j ≠ k) : look j (place k v m) = look j m := by
  induction m with
  | nil => simp [place, look, Ne.symm h]
  | cons e t ih =>
    obtain ⟨a, w⟩ := e
    unfold place
    split
    · simp [look, Ne.symm h]
    · split
      · rename_i h1 h2
        subst h2
        simp [look, Ne.symm h]
      · simp [look, ih]

theorem look_remove_other {k j : Nat} (m : List (Nat × β)) (h : j ≠ k) : look j (remove k m) = look j m := by
  induction m with
  | nil => rfl
  | cons e t ih =>
    obtain ⟨a, w⟩ := e
    unfold remove
    split
    · rename_i h1
      subst h1
      simp [look, Ne.symm h]
    · simp [look, ih]

theorem risingFrom_weaken {k j : Nat} {m : List (Nat × β)} (h : risingFrom k m = true) (hj : j ≤ k) : risingFrom j m = true := by
  cases m with
  | nil => rfl
  | cons e t =>
    obtain ⟨a, w⟩ := e
    simp [risingFrom] at h ⊢
    exact ⟨by omega, h.2⟩

theorem look_none_of_risingFrom {k j : Nat} {m : List (Nat × β)} (h : risingFrom k m = true) (hj : j < k) : look j m = none := by
  induction m generalizing k with
  | nil => rfl
  | cons e t ih =>
    obtain ⟨a, w⟩ := e
    simp [risingFrom] at h
    have : a ≠ j := by omega
    simp [look, this]
    exact ih h.2 (by omega)

theorem look_remove_self {k j : Nat} {m : List (Nat × β)} (h : risingFrom j m = true) : look k (remove k m) = none := by
  induction m generalizing j with
  | nil => rfl
  | cons e t ih =>
    obtain ⟨a, w⟩ := e
    simp [risingFrom] at h
    unfold remove
    split
    · rename_i h1
      subst h1
      exact look_none_of_risingFrom h.2 (by omega)
    · rename_i h1
      simp [look, h1]
      exact ih h.2

theorem place_risingFrom {k j : Nat} {v : β} {m : List (Nat × β)} (h : risingFrom j m = true) (hk : j ≤ k) :
    risingFrom j (place k v m) = true := by
  induction m generalizing j with
  | nil => simp [place, risingFrom, hk]
  | cons e t ih =>
    obtain ⟨a, w⟩ := e
    simp [risingFrom] at h
    unfold place
    split
    · simp [risingFrom, hk]
      exact ⟨by omega, h.2⟩
    · split
      · rename_i h1 h2
        subst h2
        simp [risingFrom, hk, h.2]
      · simp [risingFrom, h.1]
        exact ih h.2 (by omega)

theorem remove_risingFrom {k j : Nat} {m : List (Nat × β)} (h : risingFrom j m = true) : risingFrom j (remove k m) = true := by
  induction m generalizing j with
  | nil => rfl
  | cons e t ih =>
    obtain ⟨a, w⟩ := e
    simp [risingFrom] at h
    unfold remove
    split
    · exact risingFrom_weaken h.2 (by omega)
    · simp [risingFrom, h.1]
      exact ih h.2

theorem filter_risingFrom {p : Nat × β → Bool} {j : Nat} {m : List (Nat × β)} (h : risingFrom j m = true) :
    risingFrom j (m.filter p) = true := by
  induction m generalizing j with
  | nil => rfl
  | cons e t ih =>
    obtain ⟨a, w⟩ := e
    simp [risingFrom] at h
    have ht := ih h.2
    by_cases hp : p (a, w)
    · simp [List.filter, hp, risingFrom, h.1, ht]
    · simp [List.filter, hp]
      exact risingFrom_weaken ht (by omega)

theorem filterMap_risingFrom {f : Nat × β → Option (Nat × β)} (hf : ∀ e e', f e = some e' → e'.1 = e.1) {j : Nat}
    {m : List (Nat × β)} (h : risingFrom j m = true) : risingFrom j (m.filterMap f) = true := by
  induction m generalizing j with
  | nil => rfl
  | cons e t ih =>
    obtain ⟨a, w⟩ := e
    simp [risingFrom] at h
    have ht := ih h.2
    cases hp : f (a, w) with
    | none =>
      rw [List.filterMap_cons_none hp]
      exact risingFrom_weaken ht (by omega)
    | some e' =>
      rw [List.filterMap_cons_some hp]
      obtain ⟨b, x⟩ := e'
      have := hf _ _ hp
      simp at this
      subst this
      simp [risingFrom, h.1, ht]

theorem mem_place {k : Nat} {v : β} {m : List (Nat × β)} {e : Nat × β} (h : e ∈ place k v m) : e = (k, v) ∨ e ∈ m := by
  induction m with
  | nil => simp [place] at h; exact Or.inl h
  | cons x t ih =>
    obtain ⟨a, w⟩ := x
    unfold place at h
    split at h
    · simpa using h
    · split at h
      · simp at h ⊢
        rcases h with h | h
        · exact Or.inl h
        · exact Or.inr (Or.inr h)
      · simp at h ⊢
        rcases h with h | h
        · exact Or.inr (Or.inl h)
        · rcases ih h with h | h
          · exact Or.inl h
          · exact Or.inr (Or.inr h)

theorem mem_remove {k : Nat} {m : List (Nat × β)} {e : Nat × β} (h : e ∈ remove k m) : e ∈ m := by
  induction m with
  | nil => simp [remove] at h
  | cons x t ih =>
    obtain ⟨a, w⟩ := x
    unfold remove at h
    split at h
    · exact List.mem_cons_of_mem _ h
    · simp at h ⊢
      rcases h with h | h
      · exact Or.inl h
      · exact Or.inr (ih h)

variable [DecidableEq β]

/-- A read after a store to the same key gives the value stored. -/
theorem fetch_store_self {d : β} {m : List (Nat × β)} {k : Nat} {v : β} (h : risingFrom 0 m = true) :
    fetch d (store d m k v) k = v := by
  unfold store fetch
  split
  · rename_i hv
    rw [look_remove_self h, hv]
    rfl
  · rw [look_place_self]
    rfl

/-- A store leaves every other key alone. -/
theorem fetch_store_other {d d' : β} {m : List (Nat × β)} {k j : Nat} {v : β} (h : j ≠ k) :
    fetch d' (store d m k v) j = fetch d' m j := by
  unfold store fetch
  split
  · rw [look_remove_other m h]
  · rw [look_place_other v m h]

/-- A store keeps the canonical form. -/
theorem store_canonical {d : Nat → β} {m : List (Nat × β)} {k : Nat} {v : β} (h : canonical d m = true) :
    canonical d (store (d k) m k v) = true := by
  simp [canonical] at h ⊢
  unfold store
  split
  · exact ⟨remove_risingFrom h.1, fun a b hab => h.2 a b (mem_remove hab)⟩
  · rename_i hv
    refine ⟨place_risingFrom h.1 (Nat.zero_le k), fun a b hab => ?_⟩
    rcases mem_place hab with he | he
    · simp at he
      rw [he.1, he.2]
      exact hv
    · exact h.2 a b he

theorem filter_canonical {d : Nat → β} {m : List (Nat × β)} {p : Nat × β → Bool} (h : canonical d m = true) :
    canonical d (m.filter p) = true := by
  simp [canonical] at h ⊢
  exact ⟨filter_risingFrom h.1, fun a b hab => Or.inr (h.2 a b hab)⟩

theorem canonical_nil (d : Nat → β) : canonical d ([] : List (Nat × β)) = true := rfl

/-! ### Byte memories: every operation keeps `Memory.wf` -/

theorem Memory.write_wf {d : Byte} {m : Memory} {a : Nat} {b : Byte} (h : m.wf d = true) : (m.write d a b).wf d = true :=
  store_canonical (d := fun _ => d) h

theorem Memory.writeN_wf {d : Byte} {m : Memory} {a : Nat} {bs : List Byte} (h : m.wf d = true) :
    (m.writeN d a bs).wf d = true := by
  induction bs generalizing m a with
  | nil => exact h
  | cons b t ih => exact ih (Memory.write_wf h)

theorem Memory.wipe_wf {d : Byte} {m : Memory} {a n : Nat} (h : m.wf d = true) : (m.wipe a n).wf d = true :=
  filter_canonical h

/-- Reading back a byte just written. -/
theorem Memory.read_write_self {d : Byte} {m : Memory} {a : Nat} {b : Byte} (h : m.wf d = true) :
    (m.write d a b).read d a = b := by
  simp [canonical] at h
  exact fetch_store_self h.1

/-- A byte written leaves every other byte as it was. -/
theorem Memory.read_write_other {d : Byte} {m : Memory} {a c : Nat} {b : Byte} (h : c ≠ a) :
    (m.write d a b).read d c = m.read d c :=
  fetch_store_other h

/-- A byte string written from `a` leaves every byte outside it as it was. -/
theorem Memory.read_writeN_other {d : Byte} {m : Memory} {a c : Nat} {bs : List Byte} (h : c < a ∨ a + bs.length ≤ c) :
    (m.writeN d a bs).read d c = m.read d c := by
  induction bs generalizing m a with
  | nil => rfl
  | cons b t ih =>
    have h1 : c < a + 1 ∨ a + 1 + t.length ≤ c := by simp at h; omega
    have h2 : c ≠ a := by simp at h; omega
    simp only [Memory.writeN]
    rw [ih h1, Memory.read_write_other h2]

/-- A byte of a byte string just written reads back. -/
theorem Memory.read_writeN_self {d : Byte} {m : Memory} {a i : Nat} {bs : List Byte} (h : m.wf d = true)
    (hi : i < bs.length) : (m.writeN d a bs).read d (a + i) = bs[i] := by
  induction bs generalizing m a i with
  | nil => simp at hi
  | cons b t ih =>
    cases i with
    | zero =>
      simp only [Memory.writeN, Nat.add_zero, List.getElem_cons_zero]
      rw [Memory.read_writeN_other (Or.inl (by omega)), Memory.read_write_self h]
    | succ j =>
      simp only [Memory.writeN, List.getElem_cons_succ]
      have := ih (m := m.write d a b) (a := a + 1) (i := j) (Memory.write_wf h) (by simpa using hi)
      rw [show a + (j + 1) = a + 1 + j from by omega]
      exact this

end Sys2Proof.Machine
end

