-- ==== Sys2Proof/Laws/State.lean ====
section
/-!
SUPPORT. Laws of the state: the well-formedness of a state as a check, and what the named operations of Machine/Ops.lean do to each field.
-/

namespace Sys2Proof.Machine

/-- `State.Wf` as a check that evaluates. -/
def State.wfb (s : State) : Bool :=
  canonical resetOf s.bank && canonical resetOf s.latch && Memory.wf 0 s.nvs && Memory.wf 0xFF s.flash && Memory.wf 0 s.otp && Memory.wf 0 s.hsram &&
    s.csram.toList.all (Memory.wf 0) && Memory.wf 0 s.dram && s.invBuf.toList.all (Memory.wf 0) && Memory.wf 0 s.invNotes

theorem wf_atD {k : Nat} {v : Vector Memory k} (h : v.toList.all (Memory.wf 0) = true) (n : Nat) :
    Memory.wf 0 (atD v n []) = true := by
  unfold atD
  split
  · rename_i hn
    exact List.all_eq_true.mp h v[n] (by simp)
  · rfl

/-- A state that passes the check is well formed. -/
theorem State.wf_of_wfb {s : State} (h : s.wfb = true) : s.Wf := by
  simp only [State.wfb, Bool.and_eq_true] at h
  obtain ⟨⟨⟨⟨⟨⟨⟨⟨⟨h1, h0⟩, h2⟩, h3⟩, h4⟩, h5⟩, h6⟩, h7⟩, h8⟩, h9⟩ := h
  exact ⟨h1, h0, h2, h3, h4, h5, wf_atD h6, h7, wf_atD h8, h9⟩

/-! ### Registers -/

theorem rising_of_canonical {β : Type} [DecidableEq β] {d : Nat → β} {m : List (Nat × β)} (h : canonical d m = true) :
    risingFrom 0 m = true := by
  simp only [canonical, Bool.and_eq_true] at h
  exact h.1

/-- A register reads what it was set to. -/
theorem State.rd_wr_self {s : State} (h : s.Wf) (a : Nat) (v : Word) : (s.wr a v).rd a = v :=
  fetch_store_self (rising_of_canonical h.bank)

/-- Every other register reads as before. -/
theorem State.rd_wr_other (s : State) {a b : Nat} (v : Word) (h : b ≠ a) : (s.wr a v).rd b = s.rd b :=
  fetch_store_other h

/-- A write of a register keeps the state well formed. -/
theorem State.Wf.wr {s : State} (h : s.Wf) (a : Nat) (v : Word) : (s.wr a v).Wf :=
  { h with bank := store_canonical h.bank }

theorem State.Wf.put {s : State} (h : s.Wf) (f : Fld) (x : Nat) : (s.put f x).Wf := h.wr _ _

theorem State.Wf.setNum {s : State} (h : s.Wf) (a x : Nat) : (s.setNum a x).Wf := h.wr _ _

/-- A number that fits a register is what it then holds. -/
theorem State.num_setNum_self {s : State} (h : s.Wf) {a x : Nat} (hx : x < 2 ^ 32) : (s.setNum a x).num a = x := by
  simp only [State.num, State.setNum, State.rd_wr_self h, BitVec.toNat_ofNat]
  exact Nat.mod_eq_of_lt hx

theorem State.num_setNum_other (s : State) {a b : Nat} (x : Nat) (h : b ≠ a) : (s.setNum a x).num b = s.num b := by
  simp only [State.num, State.setNum, State.rd_wr_other s _ h]

/-- A field of another register is unchanged. -/
theorem State.get_put_other (s : State) {f g : Fld} (x : Nat) (h : g.addr ≠ f.addr) : (s.put f x).get g = s.get g := by
  simp only [State.get, State.put, State.rd_wr_other s _ h]

/-- Reading a field that was set: its bits of the word written. -/
theorem State.get_put_self {s : State} (h : s.Wf) (f g : Fld) (x : Nat) (hg : g.addr = f.addr) :
    (s.put f x).get g = bitsOf (insertBits (s.rd f.addr) f.hi f.lo x).toNat g.hi g.lo := by
  simp only [State.get, State.put, hg, State.rd_wr_self h]

end Sys2Proof.Machine
end

