-- ==== Sys2Proof/Laws/Fields.lean ====
section
/-!
SUPPORT. What the register operations leave of each field of the state, one lemma a field, and the updates that change one field.
-/

namespace Sys2Proof.Machine

/-! ### wr -/

@[simp] theorem State.wr_pending (s : State) (a : Nat) (v : Word) : (s.wr a v).pending = s.pending := rfl
@[simp] theorem State.wr_latch (s : State) (a : Nat) (v : Word) : (s.wr a v).latch = s.latch := rfl
@[simp] theorem State.wr_resp (s : State) (a : Nat) (v : Word) : (s.wr a v).resp = s.resp := rfl
@[simp] theorem State.wr_free (s : State) (a : Nat) (v : Word) : (s.wr a v).free = s.free := rfl
@[simp] theorem State.wr_subUs (s : State) (a : Nat) (v : Word) : (s.wr a v).subUs = s.subUs := rfl
@[simp] theorem State.wr_img (s : State) (a : Nat) (v : Word) : (s.wr a v).img = s.img := rfl
@[simp] theorem State.wr_links (s : State) (a : Nat) (v : Word) : (s.wr a v).links = s.links := rfl
@[simp] theorem State.wr_msgFlight (s : State) (a : Nat) (v : Word) : (s.wr a v).msgFlight = s.msgFlight := rfl
@[simp] theorem State.wr_evFlight (s : State) (a : Nat) (v : Word) : (s.wr a v).evFlight = s.evFlight := rfl
@[simp] theorem State.wr_pend (s : State) (a : Nat) (v : Word) : (s.wr a v).pend = s.pend := rfl
@[simp] theorem State.wr_wl (s : State) (a : Nat) (v : Word) : (s.wr a v).wl = s.wl := rfl
@[simp] theorem State.wr_cal (s : State) (a : Nat) (v : Word) : (s.wr a v).cal = s.cal := rfl
@[simp] theorem State.wr_waiting (s : State) (a : Nat) (v : Word) : (s.wr a v).waiting = s.waiting := rfl
@[simp] theorem State.wr_holders (s : State) (a : Nat) (v : Word) : (s.wr a v).holders = s.holders := rfl
@[simp] theorem State.wr_slices (s : State) (a : Nat) (v : Word) : (s.wr a v).slices = s.slices := rfl
@[simp] theorem State.wr_logQueue (s : State) (a : Nat) (v : Word) : (s.wr a v).logQueue = s.logQueue := rfl
@[simp] theorem State.wr_logArray (s : State) (a : Nat) (v : Word) : (s.wr a v).logArray = s.logArray := rfl
@[simp] theorem State.wr_nvs (s : State) (a : Nat) (v : Word) : (s.wr a v).nvs = s.nvs := rfl
@[simp] theorem State.wr_flash (s : State) (a : Nat) (v : Word) : (s.wr a v).flash = s.flash := rfl
@[simp] theorem State.wr_otp (s : State) (a : Nat) (v : Word) : (s.wr a v).otp = s.otp := rfl
@[simp] theorem State.wr_hsram (s : State) (a : Nat) (v : Word) : (s.wr a v).hsram = s.hsram := rfl
@[simp] theorem State.wr_csram (s : State) (a : Nat) (v : Word) : (s.wr a v).csram = s.csram := rfl
@[simp] theorem State.wr_sramValid (s : State) (a : Nat) (v : Word) : (s.wr a v).sramValid = s.sramValid := rfl
@[simp] theorem State.wr_dram (s : State) (a : Nat) (v : Word) : (s.wr a v).dram = s.dram := rfl
@[simp] theorem State.wr_valid (s : State) (a : Nat) (v : Word) : (s.wr a v).valid = s.valid := rfl
@[simp] theorem State.wr_marks (s : State) (a : Nat) (v : Word) : (s.wr a v).marks = s.marks := rfl
@[simp] theorem State.wr_lines (s : State) (a : Nat) (v : Word) : (s.wr a v).lines = s.lines := rfl
@[simp] theorem State.wr_spares (s : State) (a : Nat) (v : Word) : (s.wr a v).spares = s.spares := rfl
@[simp] theorem State.wr_sparesKept (s : State) (a : Nat) (v : Word) : (s.wr a v).sparesKept = s.sparesKept := rfl
@[simp] theorem State.wr_victims (s : State) (a : Nat) (v : Word) : (s.wr a v).victims = s.victims := rfl
@[simp] theorem State.wr_loopPre (s : State) (a : Nat) (v : Word) : (s.wr a v).loopPre = s.loopPre := rfl
@[simp] theorem State.wr_dcmdFull (s : State) (a : Nat) (v : Word) : (s.wr a v).dcmdFull = s.dcmdFull := rfl
@[simp] theorem State.wr_lapStart (s : State) (a : Nat) (v : Word) : (s.wr a v).lapStart = s.lapStart := rfl
@[simp] theorem State.wr_bufs (s : State) (a : Nat) (v : Word) : (s.wr a v).bufs = s.bufs := rfl
@[simp] theorem State.wr_poolFree (s : State) (a : Nat) (v : Word) : (s.wr a v).poolFree = s.poolFree := rfl
@[simp] theorem State.wr_keyStore (s : State) (a : Nat) (v : Word) : (s.wr a v).keyStore = s.keyStore := rfl
@[simp] theorem State.wr_keys (s : State) (a : Nat) (v : Word) : (s.wr a v).keys = s.keys := rfl
@[simp] theorem State.wr_keyJob (s : State) (a : Nat) (v : Word) : (s.wr a v).keyJob = s.keyJob := rfl
@[simp] theorem State.wr_smFree (s : State) (a : Nat) (v : Word) : (s.wr a v).smFree = s.smFree := rfl
@[simp] theorem State.wr_host (s : State) (a : Nat) (v : Word) : (s.wr a v).host = s.host := rfl
@[simp] theorem State.wr_staged (s : State) (a : Nat) (v : Word) : (s.wr a v).staged = s.staged := rfl
@[simp] theorem State.wr_reloadUs (s : State) (a : Nat) (v : Word) : (s.wr a v).reloadUs = s.reloadUs := rfl
@[simp] theorem State.wr_dump (s : State) (a : Nat) (v : Word) : (s.wr a v).dump = s.dump := rfl
@[simp] theorem State.wr_invBuf (s : State) (a : Nat) (v : Word) : (s.wr a v).invBuf = s.invBuf := rfl
@[simp] theorem State.wr_invNotes (s : State) (a : Nat) (v : Word) : (s.wr a v).invNotes = s.invNotes := rfl
@[simp] theorem State.wr_invAt (s : State) (a : Nat) (v : Word) : (s.wr a v).invAt = s.invAt := rfl
@[simp] theorem State.wr_overrides (s : State) (a : Nat) (v : Word) : (s.wr a v).overrides = s.overrides := rfl
@[simp] theorem State.wr_demod (s : State) (a : Nat) (v : Word) : (s.wr a v).demod = s.demod := rfl
@[simp] theorem State.wr_loop (s : State) (a : Nat) (v : Word) : (s.wr a v).loop = s.loop := rfl
@[simp] theorem State.wr_hold (s : State) (a : Nat) (v : Word) : (s.wr a v).hold = s.hold := rfl
@[simp] theorem State.wr_clv (s : State) (a : Nat) (v : Word) : (s.wr a v).clv = s.clv := rfl
@[simp] theorem State.wr_shock (s : State) (a : Nat) (v : Word) : (s.wr a v).shock = s.shock := rfl
@[simp] theorem State.wr_det (s : State) (a : Nat) (v : Word) : (s.wr a v).det = s.det := rfl
@[simp] theorem State.wr_wru (s : State) (a : Nat) (v : Word) : (s.wr a v).wru = s.wru := rfl
@[simp] theorem State.wr_asu (s : State) (a : Nat) (v : Word) : (s.wr a v).asu = s.asu := rfl
@[simp] theorem State.wr_flu (s : State) (a : Nat) (v : Word) : (s.wr a v).flu = s.flu := rfl
@[simp] theorem State.wr_pau (s : State) (a : Nat) (v : Word) : (s.wr a v).pau = s.pau := rfl
@[simp] theorem State.wr_lmu (s : State) (a : Nat) (v : Word) : (s.wr a v).lmu = s.lmu := rfl
@[simp] theorem State.wr_spin (s : State) (a : Nat) (v : Word) : (s.wr a v).spin = s.spin := rfl
@[simp] theorem State.wr_clasps (s : State) (a : Nat) (v : Word) : (s.wr a v).clasps = s.clasps := rfl
@[simp] theorem State.wr_fatal (s : State) (a : Nat) (v : Word) : (s.wr a v).fatal = s.fatal := rfl
@[simp] theorem State.wr_mtime (s : State) (a : Nat) (v : Word) : (s.wr a v).mtime = s.mtime := rfl
@[simp] theorem State.wr_core (s : State) (a : Nat) (v : Word) : (s.wr a v).core = s.core := rfl
@[simp] theorem State.wr_sig (s : State) (a : Nat) (v : Word) : (s.wr a v).sig = s.sig := rfl
@[simp] theorem State.wr_upd (s : State) (a : Nat) (v : Word) : (s.wr a v).upd = s.upd := rfl
@[simp] theorem State.wr_dbg (s : State) (a : Nat) (v : Word) : (s.wr a v).dbg = s.dbg := rfl
@[simp] theorem State.wr_otpJob (s : State) (a : Nat) (v : Word) : (s.wr a v).otpJob = s.otpJob := rfl
@[simp] theorem State.wr_nvsJob (s : State) (a : Nat) (v : Word) : (s.wr a v).nvsJob = s.nvsJob := rfl
@[simp] theorem State.wr_nvsWaits (s : State) (a : Nat) (v : Word) : (s.wr a v).nvsWaits = s.nvsWaits := rfl
@[simp] theorem State.wr_keeper (s : State) (a : Nat) (v : Word) : (s.wr a v).keeper = s.keeper := rfl
@[simp] theorem State.wr_alog (s : State) (a : Nat) (v : Word) : (s.wr a v).alog = s.alog := rfl
@[simp] theorem State.wr_lad (s : State) (a : Nat) (v : Word) : (s.wr a v).lad = s.lad := rfl
@[simp] theorem State.wr_dmp (s : State) (a : Nat) (v : Word) : (s.wr a v).dmp = s.dmp := rfl
@[simp] theorem State.wr_xsJob (s : State) (a : Nat) (v : Word) : (s.wr a v).xsJob = s.xsJob := rfl
@[simp] theorem State.wr_xsHeld (s : State) (a : Nat) (v : Word) : (s.wr a v).xsHeld = s.xsHeld := rfl
@[simp] theorem State.wr_pins (s : State) (a : Nat) (v : Word) : (s.wr a v).pins = s.pins := rfl
@[simp] theorem State.wr_diode (s : State) (a : Nat) (v : Word) : (s.wr a v).diode = s.diode := rfl
@[simp] theorem State.wr_bootDue (s : State) (a : Nat) (v : Word) : (s.wr a v).bootDue = s.bootDue := rfl
@[simp] theorem State.wr_chWait (s : State) (a : Nat) (v : Word) : (s.wr a v).chWait = s.chWait := rfl
@[simp] theorem State.wr_critOff (s : State) (a : Nat) (v : Word) : (s.wr a v).critOff = s.critOff := rfl
@[simp] theorem State.wr_seen (s : State) (a : Nat) (v : Word) : (s.wr a v).seen = s.seen := rfl
@[simp] theorem State.wr_contained (s : State) (a : Nat) (v : Word) : (s.wr a v).contained = s.contained := rfl
@[simp] theorem State.wr_yields (s : State) (a : Nat) (v : Word) : (s.wr a v).yields = s.yields := rfl
@[simp] theorem State.wr_invFree (s : State) (a : Nat) (v : Word) : (s.wr a v).invFree = s.invFree := rfl
@[simp] theorem State.wr_invLate (s : State) (a : Nat) (v : Word) : (s.wr a v).invLate = s.invLate := rfl
@[simp] theorem State.wr_clvFrame (s : State) (a : Nat) (v : Word) : (s.wr a v).clvFrame = s.clvFrame := rfl
@[simp] theorem State.wr_downDies (s : State) (a : Nat) (v : Word) : (s.wr a v).downDies = s.downDies := rfl

/-! ### put -/

@[simp] theorem State.put_pending (s : State) (f : Fld) (x : Nat) : (s.put f x).pending = s.pending := rfl
@[simp] theorem State.put_latch (s : State) (f : Fld) (x : Nat) : (s.put f x).latch = s.latch := rfl
@[simp] theorem State.put_resp (s : State) (f : Fld) (x : Nat) : (s.put f x).resp = s.resp := rfl
@[simp] theorem State.put_free (s : State) (f : Fld) (x : Nat) : (s.put f x).free = s.free := rfl
@[simp] theorem State.put_subUs (s : State) (f : Fld) (x : Nat) : (s.put f x).subUs = s.subUs := rfl
@[simp] theorem State.put_img (s : State) (f : Fld) (x : Nat) : (s.put f x).img = s.img := rfl
@[simp] theorem State.put_links (s : State) (f : Fld) (x : Nat) : (s.put f x).links = s.links := rfl
@[simp] theorem State.put_msgFlight (s : State) (f : Fld) (x : Nat) : (s.put f x).msgFlight = s.msgFlight := rfl
@[simp] theorem State.put_evFlight (s : State) (f : Fld) (x : Nat) : (s.put f x).evFlight = s.evFlight := rfl
@[simp] theorem State.put_pend (s : State) (f : Fld) (x : Nat) : (s.put f x).pend = s.pend := rfl
@[simp] theorem State.put_wl (s : State) (f : Fld) (x : Nat) : (s.put f x).wl = s.wl := rfl
@[simp] theorem State.put_cal (s : State) (f : Fld) (x : Nat) : (s.put f x).cal = s.cal := rfl
@[simp] theorem State.put_waiting (s : State) (f : Fld) (x : Nat) : (s.put f x).waiting = s.waiting := rfl
@[simp] theorem State.put_holders (s : State) (f : Fld) (x : Nat) : (s.put f x).holders = s.holders := rfl
@[simp] theorem State.put_slices (s : State) (f : Fld) (x : Nat) : (s.put f x).slices = s.slices := rfl
@[simp] theorem State.put_logQueue (s : State) (f : Fld) (x : Nat) : (s.put f x).logQueue = s.logQueue := rfl
@[simp] theorem State.put_logArray (s : State) (f : Fld) (x : Nat) : (s.put f x).logArray = s.logArray := rfl
@[simp] theorem State.put_nvs (s : State) (f : Fld) (x : Nat) : (s.put f x).nvs = s.nvs := rfl
@[simp] theorem State.put_flash (s : State) (f : Fld) (x : Nat) : (s.put f x).flash = s.flash := rfl
@[simp] theorem State.put_otp (s : State) (f : Fld) (x : Nat) : (s.put f x).otp = s.otp := rfl
@[simp] theorem State.put_hsram (s : State) (f : Fld) (x : Nat) : (s.put f x).hsram = s.hsram := rfl
@[simp] theorem State.put_csram (s : State) (f : Fld) (x : Nat) : (s.put f x).csram = s.csram := rfl
@[simp] theorem State.put_sramValid (s : State) (f : Fld) (x : Nat) : (s.put f x).sramValid = s.sramValid := rfl
@[simp] theorem State.put_dram (s : State) (f : Fld) (x : Nat) : (s.put f x).dram = s.dram := rfl
@[simp] theorem State.put_valid (s : State) (f : Fld) (x : Nat) : (s.put f x).valid = s.valid := rfl
@[simp] theorem State.put_marks (s : State) (f : Fld) (x : Nat) : (s.put f x).marks = s.marks := rfl
@[simp] theorem State.put_lines (s : State) (f : Fld) (x : Nat) : (s.put f x).lines = s.lines := rfl
@[simp] theorem State.put_spares (s : State) (f : Fld) (x : Nat) : (s.put f x).spares = s.spares := rfl
@[simp] theorem State.put_sparesKept (s : State) (f : Fld) (x : Nat) : (s.put f x).sparesKept = s.sparesKept := rfl
@[simp] theorem State.put_victims (s : State) (f : Fld) (x : Nat) : (s.put f x).victims = s.victims := rfl
@[simp] theorem State.put_loopPre (s : State) (f : Fld) (x : Nat) : (s.put f x).loopPre = s.loopPre := rfl
@[simp] theorem State.put_dcmdFull (s : State) (f : Fld) (x : Nat) : (s.put f x).dcmdFull = s.dcmdFull := rfl
@[simp] theorem State.put_lapStart (s : State) (f : Fld) (x : Nat) : (s.put f x).lapStart = s.lapStart := rfl
@[simp] theorem State.put_bufs (s : State) (f : Fld) (x : Nat) : (s.put f x).bufs = s.bufs := rfl
@[simp] theorem State.put_poolFree (s : State) (f : Fld) (x : Nat) : (s.put f x).poolFree = s.poolFree := rfl
@[simp] theorem State.put_keyStore (s : State) (f : Fld) (x : Nat) : (s.put f x).keyStore = s.keyStore := rfl
@[simp] theorem State.put_keys (s : State) (f : Fld) (x : Nat) : (s.put f x).keys = s.keys := rfl
@[simp] theorem State.put_keyJob (s : State) (f : Fld) (x : Nat) : (s.put f x).keyJob = s.keyJob := rfl
@[simp] theorem State.put_smFree (s : State) (f : Fld) (x : Nat) : (s.put f x).smFree = s.smFree := rfl
@[simp] theorem State.put_host (s : State) (f : Fld) (x : Nat) : (s.put f x).host = s.host := rfl
@[simp] theorem State.put_staged (s : State) (f : Fld) (x : Nat) : (s.put f x).staged = s.staged := rfl
@[simp] theorem State.put_reloadUs (s : State) (f : Fld) (x : Nat) : (s.put f x).reloadUs = s.reloadUs := rfl
@[simp] theorem State.put_dump (s : State) (f : Fld) (x : Nat) : (s.put f x).dump = s.dump := rfl
@[simp] theorem State.put_invBuf (s : State) (f : Fld) (x : Nat) : (s.put f x).invBuf = s.invBuf := rfl
@[simp] theorem State.put_invNotes (s : State) (f : Fld) (x : Nat) : (s.put f x).invNotes = s.invNotes := rfl
@[simp] theorem State.put_invAt (s : State) (f : Fld) (x : Nat) : (s.put f x).invAt = s.invAt := rfl
@[simp] theorem State.put_overrides (s : State) (f : Fld) (x : Nat) : (s.put f x).overrides = s.overrides := rfl
@[simp] theorem State.put_demod (s : State) (f : Fld) (x : Nat) : (s.put f x).demod = s.demod := rfl
@[simp] theorem State.put_loop (s : State) (f : Fld) (x : Nat) : (s.put f x).loop = s.loop := rfl
@[simp] theorem State.put_hold (s : State) (f : Fld) (x : Nat) : (s.put f x).hold = s.hold := rfl
@[simp] theorem State.put_clv (s : State) (f : Fld) (x : Nat) : (s.put f x).clv = s.clv := rfl
@[simp] theorem State.put_shock (s : State) (f : Fld) (x : Nat) : (s.put f x).shock = s.shock := rfl
@[simp] theorem State.put_det (s : State) (f : Fld) (x : Nat) : (s.put f x).det = s.det := rfl
@[simp] theorem State.put_wru (s : State) (f : Fld) (x : Nat) : (s.put f x).wru = s.wru := rfl
@[simp] theorem State.put_asu (s : State) (f : Fld) (x : Nat) : (s.put f x).asu = s.asu := rfl
@[simp] theorem State.put_flu (s : State) (f : Fld) (x : Nat) : (s.put f x).flu = s.flu := rfl
@[simp] theorem State.put_pau (s : State) (f : Fld) (x : Nat) : (s.put f x).pau = s.pau := rfl
@[simp] theorem State.put_lmu (s : State) (f : Fld) (x : Nat) : (s.put f x).lmu = s.lmu := rfl
@[simp] theorem State.put_spin (s : State) (f : Fld) (x : Nat) : (s.put f x).spin = s.spin := rfl
@[simp] theorem State.put_clasps (s : State) (f : Fld) (x : Nat) : (s.put f x).clasps = s.clasps := rfl
@[simp] theorem State.put_fatal (s : State) (f : Fld) (x : Nat) : (s.put f x).fatal = s.fatal := rfl
@[simp] theorem State.put_mtime (s : State) (f : Fld) (x : Nat) : (s.put f x).mtime = s.mtime := rfl
@[simp] theorem State.put_core (s : State) (f : Fld) (x : Nat) : (s.put f x).core = s.core := rfl
@[simp] theorem State.put_sig (s : State) (f : Fld) (x : Nat) : (s.put f x).sig = s.sig := rfl
@[simp] theorem State.put_upd (s : State) (f : Fld) (x : Nat) : (s.put f x).upd = s.upd := rfl
@[simp] theorem State.put_dbg (s : State) (f : Fld) (x : Nat) : (s.put f x).dbg = s.dbg := rfl
@[simp] theorem State.put_otpJob (s : State) (f : Fld) (x : Nat) : (s.put f x).otpJob = s.otpJob := rfl
@[simp] theorem State.put_nvsJob (s : State) (f : Fld) (x : Nat) : (s.put f x).nvsJob = s.nvsJob := rfl
@[simp] theorem State.put_nvsWaits (s : State) (f : Fld) (x : Nat) : (s.put f x).nvsWaits = s.nvsWaits := rfl
@[simp] theorem State.put_keeper (s : State) (f : Fld) (x : Nat) : (s.put f x).keeper = s.keeper := rfl
@[simp] theorem State.put_alog (s : State) (f : Fld) (x : Nat) : (s.put f x).alog = s.alog := rfl
@[simp] theorem State.put_lad (s : State) (f : Fld) (x : Nat) : (s.put f x).lad = s.lad := rfl
@[simp] theorem State.put_dmp (s : State) (f : Fld) (x : Nat) : (s.put f x).dmp = s.dmp := rfl
@[simp] theorem State.put_xsJob (s : State) (f : Fld) (x : Nat) : (s.put f x).xsJob = s.xsJob := rfl
@[simp] theorem State.put_xsHeld (s : State) (f : Fld) (x : Nat) : (s.put f x).xsHeld = s.xsHeld := rfl
@[simp] theorem State.put_pins (s : State) (f : Fld) (x : Nat) : (s.put f x).pins = s.pins := rfl
@[simp] theorem State.put_diode (s : State) (f : Fld) (x : Nat) : (s.put f x).diode = s.diode := rfl
@[simp] theorem State.put_bootDue (s : State) (f : Fld) (x : Nat) : (s.put f x).bootDue = s.bootDue := rfl
@[simp] theorem State.put_chWait (s : State) (f : Fld) (x : Nat) : (s.put f x).chWait = s.chWait := rfl
@[simp] theorem State.put_critOff (s : State) (f : Fld) (x : Nat) : (s.put f x).critOff = s.critOff := rfl
@[simp] theorem State.put_seen (s : State) (f : Fld) (x : Nat) : (s.put f x).seen = s.seen := rfl
@[simp] theorem State.put_contained (s : State) (f : Fld) (x : Nat) : (s.put f x).contained = s.contained := rfl
@[simp] theorem State.put_yields (s : State) (f : Fld) (x : Nat) : (s.put f x).yields = s.yields := rfl
@[simp] theorem State.put_invFree (s : State) (f : Fld) (x : Nat) : (s.put f x).invFree = s.invFree := rfl
@[simp] theorem State.put_invLate (s : State) (f : Fld) (x : Nat) : (s.put f x).invLate = s.invLate := rfl
@[simp] theorem State.put_clvFrame (s : State) (f : Fld) (x : Nat) : (s.put f x).clvFrame = s.clvFrame := rfl
@[simp] theorem State.put_downDies (s : State) (f : Fld) (x : Nat) : (s.put f x).downDies = s.downDies := rfl

/-! ### setNum -/

@[simp] theorem State.setNum_pending (s : State) (a x : Nat) : (s.setNum a x).pending = s.pending := rfl
@[simp] theorem State.setNum_latch (s : State) (a x : Nat) : (s.setNum a x).latch = s.latch := rfl
@[simp] theorem State.setNum_resp (s : State) (a x : Nat) : (s.setNum a x).resp = s.resp := rfl
@[simp] theorem State.setNum_free (s : State) (a x : Nat) : (s.setNum a x).free = s.free := rfl
@[simp] theorem State.setNum_subUs (s : State) (a x : Nat) : (s.setNum a x).subUs = s.subUs := rfl
@[simp] theorem State.setNum_img (s : State) (a x : Nat) : (s.setNum a x).img = s.img := rfl
@[simp] theorem State.setNum_links (s : State) (a x : Nat) : (s.setNum a x).links = s.links := rfl
@[simp] theorem State.setNum_msgFlight (s : State) (a x : Nat) : (s.setNum a x).msgFlight = s.msgFlight := rfl
@[simp] theorem State.setNum_evFlight (s : State) (a x : Nat) : (s.setNum a x).evFlight = s.evFlight := rfl
@[simp] theorem State.setNum_pend (s : State) (a x : Nat) : (s.setNum a x).pend = s.pend := rfl
@[simp] theorem State.setNum_wl (s : State) (a x : Nat) : (s.setNum a x).wl = s.wl := rfl
@[simp] theorem State.setNum_cal (s : State) (a x : Nat) : (s.setNum a x).cal = s.cal := rfl
@[simp] theorem State.setNum_waiting (s : State) (a x : Nat) : (s.setNum a x).waiting = s.waiting := rfl
@[simp] theorem State.setNum_holders (s : State) (a x : Nat) : (s.setNum a x).holders = s.holders := rfl
@[simp] theorem State.setNum_slices (s : State) (a x : Nat) : (s.setNum a x).slices = s.slices := rfl
@[simp] theorem State.setNum_logQueue (s : State) (a x : Nat) : (s.setNum a x).logQueue = s.logQueue := rfl
@[simp] theorem State.setNum_logArray (s : State) (a x : Nat) : (s.setNum a x).logArray = s.logArray := rfl
@[simp] theorem State.setNum_nvs (s : State) (a x : Nat) : (s.setNum a x).nvs = s.nvs := rfl
@[simp] theorem State.setNum_flash (s : State) (a x : Nat) : (s.setNum a x).flash = s.flash := rfl
@[simp] theorem State.setNum_otp (s : State) (a x : Nat) : (s.setNum a x).otp = s.otp := rfl
@[simp] theorem State.setNum_hsram (s : State) (a x : Nat) : (s.setNum a x).hsram = s.hsram := rfl
@[simp] theorem State.setNum_csram (s : State) (a x : Nat) : (s.setNum a x).csram = s.csram := rfl
@[simp] theorem State.setNum_sramValid (s : State) (a x : Nat) : (s.setNum a x).sramValid = s.sramValid := rfl
@[simp] theorem State.setNum_dram (s : State) (a x : Nat) : (s.setNum a x).dram = s.dram := rfl
@[simp] theorem State.setNum_valid (s : State) (a x : Nat) : (s.setNum a x).valid = s.valid := rfl
@[simp] theorem State.setNum_marks (s : State) (a x : Nat) : (s.setNum a x).marks = s.marks := rfl
@[simp] theorem State.setNum_lines (s : State) (a x : Nat) : (s.setNum a x).lines = s.lines := rfl
@[simp] theorem State.setNum_spares (s : State) (a x : Nat) : (s.setNum a x).spares = s.spares := rfl
@[simp] theorem State.setNum_sparesKept (s : State) (a x : Nat) : (s.setNum a x).sparesKept = s.sparesKept := rfl
@[simp] theorem State.setNum_victims (s : State) (a x : Nat) : (s.setNum a x).victims = s.victims := rfl
@[simp] theorem State.setNum_loopPre (s : State) (a x : Nat) : (s.setNum a x).loopPre = s.loopPre := rfl
@[simp] theorem State.setNum_dcmdFull (s : State) (a x : Nat) : (s.setNum a x).dcmdFull = s.dcmdFull := rfl
@[simp] theorem State.setNum_lapStart (s : State) (a x : Nat) : (s.setNum a x).lapStart = s.lapStart := rfl
@[simp] theorem State.setNum_bufs (s : State) (a x : Nat) : (s.setNum a x).bufs = s.bufs := rfl
@[simp] theorem State.setNum_poolFree (s : State) (a x : Nat) : (s.setNum a x).poolFree = s.poolFree := rfl
@[simp] theorem State.setNum_keyStore (s : State) (a x : Nat) : (s.setNum a x).keyStore = s.keyStore := rfl
@[simp] theorem State.setNum_keys (s : State) (a x : Nat) : (s.setNum a x).keys = s.keys := rfl
@[simp] theorem State.setNum_keyJob (s : State) (a x : Nat) : (s.setNum a x).keyJob = s.keyJob := rfl
@[simp] theorem State.setNum_smFree (s : State) (a x : Nat) : (s.setNum a x).smFree = s.smFree := rfl
@[simp] theorem State.setNum_host (s : State) (a x : Nat) : (s.setNum a x).host = s.host := rfl
@[simp] theorem State.setNum_staged (s : State) (a x : Nat) : (s.setNum a x).staged = s.staged := rfl
@[simp] theorem State.setNum_reloadUs (s : State) (a x : Nat) : (s.setNum a x).reloadUs = s.reloadUs := rfl
@[simp] theorem State.setNum_dump (s : State) (a x : Nat) : (s.setNum a x).dump = s.dump := rfl
@[simp] theorem State.setNum_invBuf (s : State) (a x : Nat) : (s.setNum a x).invBuf = s.invBuf := rfl
@[simp] theorem State.setNum_invNotes (s : State) (a x : Nat) : (s.setNum a x).invNotes = s.invNotes := rfl
@[simp] theorem State.setNum_invAt (s : State) (a x : Nat) : (s.setNum a x).invAt = s.invAt := rfl
@[simp] theorem State.setNum_overrides (s : State) (a x : Nat) : (s.setNum a x).overrides = s.overrides := rfl
@[simp] theorem State.setNum_demod (s : State) (a x : Nat) : (s.setNum a x).demod = s.demod := rfl
@[simp] theorem State.setNum_loop (s : State) (a x : Nat) : (s.setNum a x).loop = s.loop := rfl
@[simp] theorem State.setNum_hold (s : State) (a x : Nat) : (s.setNum a x).hold = s.hold := rfl
@[simp] theorem State.setNum_clv (s : State) (a x : Nat) : (s.setNum a x).clv = s.clv := rfl
@[simp] theorem State.setNum_shock (s : State) (a x : Nat) : (s.setNum a x).shock = s.shock := rfl
@[simp] theorem State.setNum_det (s : State) (a x : Nat) : (s.setNum a x).det = s.det := rfl
@[simp] theorem State.setNum_wru (s : State) (a x : Nat) : (s.setNum a x).wru = s.wru := rfl
@[simp] theorem State.setNum_asu (s : State) (a x : Nat) : (s.setNum a x).asu = s.asu := rfl
@[simp] theorem State.setNum_flu (s : State) (a x : Nat) : (s.setNum a x).flu = s.flu := rfl
@[simp] theorem State.setNum_pau (s : State) (a x : Nat) : (s.setNum a x).pau = s.pau := rfl
@[simp] theorem State.setNum_lmu (s : State) (a x : Nat) : (s.setNum a x).lmu = s.lmu := rfl
@[simp] theorem State.setNum_spin (s : State) (a x : Nat) : (s.setNum a x).spin = s.spin := rfl
@[simp] theorem State.setNum_clasps (s : State) (a x : Nat) : (s.setNum a x).clasps = s.clasps := rfl
@[simp] theorem State.setNum_fatal (s : State) (a x : Nat) : (s.setNum a x).fatal = s.fatal := rfl
@[simp] theorem State.setNum_mtime (s : State) (a x : Nat) : (s.setNum a x).mtime = s.mtime := rfl
@[simp] theorem State.setNum_core (s : State) (a x : Nat) : (s.setNum a x).core = s.core := rfl
@[simp] theorem State.setNum_sig (s : State) (a x : Nat) : (s.setNum a x).sig = s.sig := rfl
@[simp] theorem State.setNum_upd (s : State) (a x : Nat) : (s.setNum a x).upd = s.upd := rfl
@[simp] theorem State.setNum_dbg (s : State) (a x : Nat) : (s.setNum a x).dbg = s.dbg := rfl
@[simp] theorem State.setNum_otpJob (s : State) (a x : Nat) : (s.setNum a x).otpJob = s.otpJob := rfl
@[simp] theorem State.setNum_nvsJob (s : State) (a x : Nat) : (s.setNum a x).nvsJob = s.nvsJob := rfl
@[simp] theorem State.setNum_nvsWaits (s : State) (a x : Nat) : (s.setNum a x).nvsWaits = s.nvsWaits := rfl
@[simp] theorem State.setNum_keeper (s : State) (a x : Nat) : (s.setNum a x).keeper = s.keeper := rfl
@[simp] theorem State.setNum_alog (s : State) (a x : Nat) : (s.setNum a x).alog = s.alog := rfl
@[simp] theorem State.setNum_lad (s : State) (a x : Nat) : (s.setNum a x).lad = s.lad := rfl
@[simp] theorem State.setNum_dmp (s : State) (a x : Nat) : (s.setNum a x).dmp = s.dmp := rfl
@[simp] theorem State.setNum_xsJob (s : State) (a x : Nat) : (s.setNum a x).xsJob = s.xsJob := rfl
@[simp] theorem State.setNum_xsHeld (s : State) (a x : Nat) : (s.setNum a x).xsHeld = s.xsHeld := rfl
@[simp] theorem State.setNum_pins (s : State) (a x : Nat) : (s.setNum a x).pins = s.pins := rfl
@[simp] theorem State.setNum_diode (s : State) (a x : Nat) : (s.setNum a x).diode = s.diode := rfl
@[simp] theorem State.setNum_bootDue (s : State) (a x : Nat) : (s.setNum a x).bootDue = s.bootDue := rfl
@[simp] theorem State.setNum_chWait (s : State) (a x : Nat) : (s.setNum a x).chWait = s.chWait := rfl
@[simp] theorem State.setNum_critOff (s : State) (a x : Nat) : (s.setNum a x).critOff = s.critOff := rfl
@[simp] theorem State.setNum_seen (s : State) (a x : Nat) : (s.setNum a x).seen = s.seen := rfl
@[simp] theorem State.setNum_contained (s : State) (a x : Nat) : (s.setNum a x).contained = s.contained := rfl
@[simp] theorem State.setNum_yields (s : State) (a x : Nat) : (s.setNum a x).yields = s.yields := rfl
@[simp] theorem State.setNum_invFree (s : State) (a x : Nat) : (s.setNum a x).invFree = s.invFree := rfl
@[simp] theorem State.setNum_invLate (s : State) (a x : Nat) : (s.setNum a x).invLate = s.invLate := rfl
@[simp] theorem State.setNum_clvFrame (s : State) (a x : Nat) : (s.setNum a x).clvFrame = s.clvFrame := rfl
@[simp] theorem State.setNum_downDies (s : State) (a x : Nat) : (s.setNum a x).downDies = s.downDies := rfl

/-! ### set64 -/

@[simp] theorem State.set64_pending (s : State) (lo hi v : Nat) : (s.set64 lo hi v).pending = s.pending := rfl
@[simp] theorem State.set64_latch (s : State) (lo hi v : Nat) : (s.set64 lo hi v).latch = s.latch := rfl
@[simp] theorem State.set64_resp (s : State) (lo hi v : Nat) : (s.set64 lo hi v).resp = s.resp := rfl
@[simp] theorem State.set64_free (s : State) (lo hi v : Nat) : (s.set64 lo hi v).free = s.free := rfl
@[simp] theorem State.set64_subUs (s : State) (lo hi v : Nat) : (s.set64 lo hi v).subUs = s.subUs := rfl
@[simp] theorem State.set64_img (s : State) (lo hi v : Nat) : (s.set64 lo hi v).img = s.img := rfl
@[simp] theorem State.set64_links (s : State) (lo hi v : Nat) : (s.set64 lo hi v).links = s.links := rfl
@[simp] theorem State.set64_msgFlight (s : State) (lo hi v : Nat) : (s.set64 lo hi v).msgFlight = s.msgFlight := rfl
@[simp] theorem State.set64_evFlight (s : State) (lo hi v : Nat) : (s.set64 lo hi v).evFlight = s.evFlight := rfl
@[simp] theorem State.set64_pend (s : State) (lo hi v : Nat) : (s.set64 lo hi v).pend = s.pend := rfl
@[simp] theorem State.set64_wl (s : State) (lo hi v : Nat) : (s.set64 lo hi v).wl = s.wl := rfl
@[simp] theorem State.set64_cal (s : State) (lo hi v : Nat) : (s.set64 lo hi v).cal = s.cal := rfl
@[simp] theorem State.set64_waiting (s : State) (lo hi v : Nat) : (s.set64 lo hi v).waiting = s.waiting := rfl
@[simp] theorem State.set64_holders (s : State) (lo hi v : Nat) : (s.set64 lo hi v).holders = s.holders := rfl
@[simp] theorem State.set64_slices (s : State) (lo hi v : Nat) : (s.set64 lo hi v).slices = s.slices := rfl
@[simp] theorem State.set64_logQueue (s : State) (lo hi v : Nat) : (s.set64 lo hi v).logQueue = s.logQueue := rfl
@[simp] theorem State.set64_logArray (s : State) (lo hi v : Nat) : (s.set64 lo hi v).logArray = s.logArray := rfl
@[simp] theorem State.set64_nvs (s : State) (lo hi v : Nat) : (s.set64 lo hi v).nvs = s.nvs := rfl
@[simp] theorem State.set64_flash (s : State) (lo hi v : Nat) : (s.set64 lo hi v).flash = s.flash := rfl
@[simp] theorem State.set64_otp (s : State) (lo hi v : Nat) : (s.set64 lo hi v).otp = s.otp := rfl
@[simp] theorem State.set64_hsram (s : State) (lo hi v : Nat) : (s.set64 lo hi v).hsram = s.hsram := rfl
@[simp] theorem State.set64_csram (s : State) (lo hi v : Nat) : (s.set64 lo hi v).csram = s.csram := rfl
@[simp] theorem State.set64_sramValid (s : State) (lo hi v : Nat) : (s.set64 lo hi v).sramValid = s.sramValid := rfl
@[simp] theorem State.set64_dram (s : State) (lo hi v : Nat) : (s.set64 lo hi v).dram = s.dram := rfl
@[simp] theorem State.set64_valid (s : State) (lo hi v : Nat) : (s.set64 lo hi v).valid = s.valid := rfl
@[simp] theorem State.set64_marks (s : State) (lo hi v : Nat) : (s.set64 lo hi v).marks = s.marks := rfl
@[simp] theorem State.set64_lines (s : State) (lo hi v : Nat) : (s.set64 lo hi v).lines = s.lines := rfl
@[simp] theorem State.set64_spares (s : State) (lo hi v : Nat) : (s.set64 lo hi v).spares = s.spares := rfl
@[simp] theorem State.set64_sparesKept (s : State) (lo hi v : Nat) : (s.set64 lo hi v).sparesKept = s.sparesKept := rfl
@[simp] theorem State.set64_victims (s : State) (lo hi v : Nat) : (s.set64 lo hi v).victims = s.victims := rfl
@[simp] theorem State.set64_loopPre (s : State) (lo hi v : Nat) : (s.set64 lo hi v).loopPre = s.loopPre := rfl
@[simp] theorem State.set64_dcmdFull (s : State) (lo hi v : Nat) : (s.set64 lo hi v).dcmdFull = s.dcmdFull := rfl
@[simp] theorem State.set64_lapStart (s : State) (lo hi v : Nat) : (s.set64 lo hi v).lapStart = s.lapStart := rfl
@[simp] theorem State.set64_bufs (s : State) (lo hi v : Nat) : (s.set64 lo hi v).bufs = s.bufs := rfl
@[simp] theorem State.set64_poolFree (s : State) (lo hi v : Nat) : (s.set64 lo hi v).poolFree = s.poolFree := rfl
@[simp] theorem State.set64_keyStore (s : State) (lo hi v : Nat) : (s.set64 lo hi v).keyStore = s.keyStore := rfl
@[simp] theorem State.set64_keys (s : State) (lo hi v : Nat) : (s.set64 lo hi v).keys = s.keys := rfl
@[simp] theorem State.set64_keyJob (s : State) (lo hi v : Nat) : (s.set64 lo hi v).keyJob = s.keyJob := rfl
@[simp] theorem State.set64_smFree (s : State) (lo hi v : Nat) : (s.set64 lo hi v).smFree = s.smFree := rfl
@[simp] theorem State.set64_host (s : State) (lo hi v : Nat) : (s.set64 lo hi v).host = s.host := rfl
@[simp] theorem State.set64_staged (s : State) (lo hi v : Nat) : (s.set64 lo hi v).staged = s.staged := rfl
@[simp] theorem State.set64_reloadUs (s : State) (lo hi v : Nat) : (s.set64 lo hi v).reloadUs = s.reloadUs := rfl
@[simp] theorem State.set64_dump (s : State) (lo hi v : Nat) : (s.set64 lo hi v).dump = s.dump := rfl
@[simp] theorem State.set64_invBuf (s : State) (lo hi v : Nat) : (s.set64 lo hi v).invBuf = s.invBuf := rfl
@[simp] theorem State.set64_invNotes (s : State) (lo hi v : Nat) : (s.set64 lo hi v).invNotes = s.invNotes := rfl
@[simp] theorem State.set64_invAt (s : State) (lo hi v : Nat) : (s.set64 lo hi v).invAt = s.invAt := rfl
@[simp] theorem State.set64_overrides (s : State) (lo hi v : Nat) : (s.set64 lo hi v).overrides = s.overrides := rfl
@[simp] theorem State.set64_demod (s : State) (lo hi v : Nat) : (s.set64 lo hi v).demod = s.demod := rfl
@[simp] theorem State.set64_loop (s : State) (lo hi v : Nat) : (s.set64 lo hi v).loop = s.loop := rfl
@[simp] theorem State.set64_hold (s : State) (lo hi v : Nat) : (s.set64 lo hi v).hold = s.hold := rfl
@[simp] theorem State.set64_clv (s : State) (lo hi v : Nat) : (s.set64 lo hi v).clv = s.clv := rfl
@[simp] theorem State.set64_shock (s : State) (lo hi v : Nat) : (s.set64 lo hi v).shock = s.shock := rfl
@[simp] theorem State.set64_det (s : State) (lo hi v : Nat) : (s.set64 lo hi v).det = s.det := rfl
@[simp] theorem State.set64_wru (s : State) (lo hi v : Nat) : (s.set64 lo hi v).wru = s.wru := rfl
@[simp] theorem State.set64_asu (s : State) (lo hi v : Nat) : (s.set64 lo hi v).asu = s.asu := rfl
@[simp] theorem State.set64_flu (s : State) (lo hi v : Nat) : (s.set64 lo hi v).flu = s.flu := rfl
@[simp] theorem State.set64_pau (s : State) (lo hi v : Nat) : (s.set64 lo hi v).pau = s.pau := rfl
@[simp] theorem State.set64_lmu (s : State) (lo hi v : Nat) : (s.set64 lo hi v).lmu = s.lmu := rfl
@[simp] theorem State.set64_spin (s : State) (lo hi v : Nat) : (s.set64 lo hi v).spin = s.spin := rfl
@[simp] theorem State.set64_clasps (s : State) (lo hi v : Nat) : (s.set64 lo hi v).clasps = s.clasps := rfl
@[simp] theorem State.set64_fatal (s : State) (lo hi v : Nat) : (s.set64 lo hi v).fatal = s.fatal := rfl
@[simp] theorem State.set64_mtime (s : State) (lo hi v : Nat) : (s.set64 lo hi v).mtime = s.mtime := rfl
@[simp] theorem State.set64_core (s : State) (lo hi v : Nat) : (s.set64 lo hi v).core = s.core := rfl
@[simp] theorem State.set64_sig (s : State) (lo hi v : Nat) : (s.set64 lo hi v).sig = s.sig := rfl
@[simp] theorem State.set64_upd (s : State) (lo hi v : Nat) : (s.set64 lo hi v).upd = s.upd := rfl
@[simp] theorem State.set64_dbg (s : State) (lo hi v : Nat) : (s.set64 lo hi v).dbg = s.dbg := rfl
@[simp] theorem State.set64_otpJob (s : State) (lo hi v : Nat) : (s.set64 lo hi v).otpJob = s.otpJob := rfl
@[simp] theorem State.set64_nvsJob (s : State) (lo hi v : Nat) : (s.set64 lo hi v).nvsJob = s.nvsJob := rfl
@[simp] theorem State.set64_nvsWaits (s : State) (lo hi v : Nat) : (s.set64 lo hi v).nvsWaits = s.nvsWaits := rfl
@[simp] theorem State.set64_keeper (s : State) (lo hi v : Nat) : (s.set64 lo hi v).keeper = s.keeper := rfl
@[simp] theorem State.set64_alog (s : State) (lo hi v : Nat) : (s.set64 lo hi v).alog = s.alog := rfl
@[simp] theorem State.set64_lad (s : State) (lo hi v : Nat) : (s.set64 lo hi v).lad = s.lad := rfl
@[simp] theorem State.set64_dmp (s : State) (lo hi v : Nat) : (s.set64 lo hi v).dmp = s.dmp := rfl
@[simp] theorem State.set64_xsJob (s : State) (lo hi v : Nat) : (s.set64 lo hi v).xsJob = s.xsJob := rfl
@[simp] theorem State.set64_xsHeld (s : State) (lo hi v : Nat) : (s.set64 lo hi v).xsHeld = s.xsHeld := rfl
@[simp] theorem State.set64_pins (s : State) (lo hi v : Nat) : (s.set64 lo hi v).pins = s.pins := rfl
@[simp] theorem State.set64_diode (s : State) (lo hi v : Nat) : (s.set64 lo hi v).diode = s.diode := rfl
@[simp] theorem State.set64_bootDue (s : State) (lo hi v : Nat) : (s.set64 lo hi v).bootDue = s.bootDue := rfl
@[simp] theorem State.set64_chWait (s : State) (lo hi v : Nat) : (s.set64 lo hi v).chWait = s.chWait := rfl
@[simp] theorem State.set64_critOff (s : State) (lo hi v : Nat) : (s.set64 lo hi v).critOff = s.critOff := rfl
@[simp] theorem State.set64_seen (s : State) (lo hi v : Nat) : (s.set64 lo hi v).seen = s.seen := rfl
@[simp] theorem State.set64_contained (s : State) (lo hi v : Nat) : (s.set64 lo hi v).contained = s.contained := rfl
@[simp] theorem State.set64_yields (s : State) (lo hi v : Nat) : (s.set64 lo hi v).yields = s.yields := rfl
@[simp] theorem State.set64_invFree (s : State) (lo hi v : Nat) : (s.set64 lo hi v).invFree = s.invFree := rfl
@[simp] theorem State.set64_invLate (s : State) (lo hi v : Nat) : (s.set64 lo hi v).invLate = s.invLate := rfl
@[simp] theorem State.set64_clvFrame (s : State) (lo hi v : Nat) : (s.set64 lo hi v).clvFrame = s.clvFrame := rfl
@[simp] theorem State.set64_downDies (s : State) (lo hi v : Nat) : (s.set64 lo hi v).downDies = s.downDies := rfl

/-! ### add64 -/

@[simp] theorem State.add64_pending (s : State) (lo hi k : Nat) : (s.add64 lo hi k).pending = s.pending := rfl
@[simp] theorem State.add64_latch (s : State) (lo hi k : Nat) : (s.add64 lo hi k).latch = s.latch := rfl
@[simp] theorem State.add64_resp (s : State) (lo hi k : Nat) : (s.add64 lo hi k).resp = s.resp := rfl
@[simp] theorem State.add64_free (s : State) (lo hi k : Nat) : (s.add64 lo hi k).free = s.free := rfl
@[simp] theorem State.add64_subUs (s : State) (lo hi k : Nat) : (s.add64 lo hi k).subUs = s.subUs := rfl
@[simp] theorem State.add64_img (s : State) (lo hi k : Nat) : (s.add64 lo hi k).img = s.img := rfl
@[simp] theorem State.add64_links (s : State) (lo hi k : Nat) : (s.add64 lo hi k).links = s.links := rfl
@[simp] theorem State.add64_msgFlight (s : State) (lo hi k : Nat) : (s.add64 lo hi k).msgFlight = s.msgFlight := rfl
@[simp] theorem State.add64_evFlight (s : State) (lo hi k : Nat) : (s.add64 lo hi k).evFlight = s.evFlight := rfl
@[simp] theorem State.add64_pend (s : State) (lo hi k : Nat) : (s.add64 lo hi k).pend = s.pend := rfl
@[simp] theorem State.add64_wl (s : State) (lo hi k : Nat) : (s.add64 lo hi k).wl = s.wl := rfl
@[simp] theorem State.add64_cal (s : State) (lo hi k : Nat) : (s.add64 lo hi k).cal = s.cal := rfl
@[simp] theorem State.add64_waiting (s : State) (lo hi k : Nat) : (s.add64 lo hi k).waiting = s.waiting := rfl
@[simp] theorem State.add64_holders (s : State) (lo hi k : Nat) : (s.add64 lo hi k).holders = s.holders := rfl
@[simp] theorem State.add64_slices (s : State) (lo hi k : Nat) : (s.add64 lo hi k).slices = s.slices := rfl
@[simp] theorem State.add64_logQueue (s : State) (lo hi k : Nat) : (s.add64 lo hi k).logQueue = s.logQueue := rfl
@[simp] theorem State.add64_logArray (s : State) (lo hi k : Nat) : (s.add64 lo hi k).logArray = s.logArray := rfl
@[simp] theorem State.add64_nvs (s : State) (lo hi k : Nat) : (s.add64 lo hi k).nvs = s.nvs := rfl
@[simp] theorem State.add64_flash (s : State) (lo hi k : Nat) : (s.add64 lo hi k).flash = s.flash := rfl
@[simp] theorem State.add64_otp (s : State) (lo hi k : Nat) : (s.add64 lo hi k).otp = s.otp := rfl
@[simp] theorem State.add64_hsram (s : State) (lo hi k : Nat) : (s.add64 lo hi k).hsram = s.hsram := rfl
@[simp] theorem State.add64_csram (s : State) (lo hi k : Nat) : (s.add64 lo hi k).csram = s.csram := rfl
@[simp] theorem State.add64_sramValid (s : State) (lo hi k : Nat) : (s.add64 lo hi k).sramValid = s.sramValid := rfl
@[simp] theorem State.add64_dram (s : State) (lo hi k : Nat) : (s.add64 lo hi k).dram = s.dram := rfl
@[simp] theorem State.add64_valid (s : State) (lo hi k : Nat) : (s.add64 lo hi k).valid = s.valid := rfl
@[simp] theorem State.add64_marks (s : State) (lo hi k : Nat) : (s.add64 lo hi k).marks = s.marks := rfl
@[simp] theorem State.add64_lines (s : State) (lo hi k : Nat) : (s.add64 lo hi k).lines = s.lines := rfl
@[simp] theorem State.add64_spares (s : State) (lo hi k : Nat) : (s.add64 lo hi k).spares = s.spares := rfl
@[simp] theorem State.add64_sparesKept (s : State) (lo hi k : Nat) : (s.add64 lo hi k).sparesKept = s.sparesKept := rfl
@[simp] theorem State.add64_victims (s : State) (lo hi k : Nat) : (s.add64 lo hi k).victims = s.victims := rfl
@[simp] theorem State.add64_loopPre (s : State) (lo hi k : Nat) : (s.add64 lo hi k).loopPre = s.loopPre := rfl
@[simp] theorem State.add64_dcmdFull (s : State) (lo hi k : Nat) : (s.add64 lo hi k).dcmdFull = s.dcmdFull := rfl
@[simp] theorem State.add64_lapStart (s : State) (lo hi k : Nat) : (s.add64 lo hi k).lapStart = s.lapStart := rfl
@[simp] theorem State.add64_bufs (s : State) (lo hi k : Nat) : (s.add64 lo hi k).bufs = s.bufs := rfl
@[simp] theorem State.add64_poolFree (s : State) (lo hi k : Nat) : (s.add64 lo hi k).poolFree = s.poolFree := rfl
@[simp] theorem State.add64_keyStore (s : State) (lo hi k : Nat) : (s.add64 lo hi k).keyStore = s.keyStore := rfl
@[simp] theorem State.add64_keys (s : State) (lo hi k : Nat) : (s.add64 lo hi k).keys = s.keys := rfl
@[simp] theorem State.add64_keyJob (s : State) (lo hi k : Nat) : (s.add64 lo hi k).keyJob = s.keyJob := rfl
@[simp] theorem State.add64_smFree (s : State) (lo hi k : Nat) : (s.add64 lo hi k).smFree = s.smFree := rfl
@[simp] theorem State.add64_host (s : State) (lo hi k : Nat) : (s.add64 lo hi k).host = s.host := rfl
@[simp] theorem State.add64_staged (s : State) (lo hi k : Nat) : (s.add64 lo hi k).staged = s.staged := rfl
@[simp] theorem State.add64_reloadUs (s : State) (lo hi k : Nat) : (s.add64 lo hi k).reloadUs = s.reloadUs := rfl
@[simp] theorem State.add64_dump (s : State) (lo hi k : Nat) : (s.add64 lo hi k).dump = s.dump := rfl
@[simp] theorem State.add64_invBuf (s : State) (lo hi k : Nat) : (s.add64 lo hi k).invBuf = s.invBuf := rfl
@[simp] theorem State.add64_invNotes (s : State) (lo hi k : Nat) : (s.add64 lo hi k).invNotes = s.invNotes := rfl
@[simp] theorem State.add64_invAt (s : State) (lo hi k : Nat) : (s.add64 lo hi k).invAt = s.invAt := rfl
@[simp] theorem State.add64_overrides (s : State) (lo hi k : Nat) : (s.add64 lo hi k).overrides = s.overrides := rfl
@[simp] theorem State.add64_demod (s : State) (lo hi k : Nat) : (s.add64 lo hi k).demod = s.demod := rfl
@[simp] theorem State.add64_loop (s : State) (lo hi k : Nat) : (s.add64 lo hi k).loop = s.loop := rfl
@[simp] theorem State.add64_hold (s : State) (lo hi k : Nat) : (s.add64 lo hi k).hold = s.hold := rfl
@[simp] theorem State.add64_clv (s : State) (lo hi k : Nat) : (s.add64 lo hi k).clv = s.clv := rfl
@[simp] theorem State.add64_shock (s : State) (lo hi k : Nat) : (s.add64 lo hi k).shock = s.shock := rfl
@[simp] theorem State.add64_det (s : State) (lo hi k : Nat) : (s.add64 lo hi k).det = s.det := rfl
@[simp] theorem State.add64_wru (s : State) (lo hi k : Nat) : (s.add64 lo hi k).wru = s.wru := rfl
@[simp] theorem State.add64_asu (s : State) (lo hi k : Nat) : (s.add64 lo hi k).asu = s.asu := rfl
@[simp] theorem State.add64_flu (s : State) (lo hi k : Nat) : (s.add64 lo hi k).flu = s.flu := rfl
@[simp] theorem State.add64_pau (s : State) (lo hi k : Nat) : (s.add64 lo hi k).pau = s.pau := rfl
@[simp] theorem State.add64_lmu (s : State) (lo hi k : Nat) : (s.add64 lo hi k).lmu = s.lmu := rfl
@[simp] theorem State.add64_spin (s : State) (lo hi k : Nat) : (s.add64 lo hi k).spin = s.spin := rfl
@[simp] theorem State.add64_clasps (s : State) (lo hi k : Nat) : (s.add64 lo hi k).clasps = s.clasps := rfl
@[simp] theorem State.add64_fatal (s : State) (lo hi k : Nat) : (s.add64 lo hi k).fatal = s.fatal := rfl
@[simp] theorem State.add64_mtime (s : State) (lo hi k : Nat) : (s.add64 lo hi k).mtime = s.mtime := rfl
@[simp] theorem State.add64_core (s : State) (lo hi k : Nat) : (s.add64 lo hi k).core = s.core := rfl
@[simp] theorem State.add64_sig (s : State) (lo hi k : Nat) : (s.add64 lo hi k).sig = s.sig := rfl
@[simp] theorem State.add64_upd (s : State) (lo hi k : Nat) : (s.add64 lo hi k).upd = s.upd := rfl
@[simp] theorem State.add64_dbg (s : State) (lo hi k : Nat) : (s.add64 lo hi k).dbg = s.dbg := rfl
@[simp] theorem State.add64_otpJob (s : State) (lo hi k : Nat) : (s.add64 lo hi k).otpJob = s.otpJob := rfl
@[simp] theorem State.add64_nvsJob (s : State) (lo hi k : Nat) : (s.add64 lo hi k).nvsJob = s.nvsJob := rfl
@[simp] theorem State.add64_nvsWaits (s : State) (lo hi k : Nat) : (s.add64 lo hi k).nvsWaits = s.nvsWaits := rfl
@[simp] theorem State.add64_keeper (s : State) (lo hi k : Nat) : (s.add64 lo hi k).keeper = s.keeper := rfl
@[simp] theorem State.add64_alog (s : State) (lo hi k : Nat) : (s.add64 lo hi k).alog = s.alog := rfl
@[simp] theorem State.add64_lad (s : State) (lo hi k : Nat) : (s.add64 lo hi k).lad = s.lad := rfl
@[simp] theorem State.add64_dmp (s : State) (lo hi k : Nat) : (s.add64 lo hi k).dmp = s.dmp := rfl
@[simp] theorem State.add64_xsJob (s : State) (lo hi k : Nat) : (s.add64 lo hi k).xsJob = s.xsJob := rfl
@[simp] theorem State.add64_xsHeld (s : State) (lo hi k : Nat) : (s.add64 lo hi k).xsHeld = s.xsHeld := rfl
@[simp] theorem State.add64_pins (s : State) (lo hi k : Nat) : (s.add64 lo hi k).pins = s.pins := rfl
@[simp] theorem State.add64_diode (s : State) (lo hi k : Nat) : (s.add64 lo hi k).diode = s.diode := rfl
@[simp] theorem State.add64_bootDue (s : State) (lo hi k : Nat) : (s.add64 lo hi k).bootDue = s.bootDue := rfl
@[simp] theorem State.add64_chWait (s : State) (lo hi k : Nat) : (s.add64 lo hi k).chWait = s.chWait := rfl
@[simp] theorem State.add64_critOff (s : State) (lo hi k : Nat) : (s.add64 lo hi k).critOff = s.critOff := rfl
@[simp] theorem State.add64_seen (s : State) (lo hi k : Nat) : (s.add64 lo hi k).seen = s.seen := rfl
@[simp] theorem State.add64_contained (s : State) (lo hi k : Nat) : (s.add64 lo hi k).contained = s.contained := rfl
@[simp] theorem State.add64_yields (s : State) (lo hi k : Nat) : (s.add64 lo hi k).yields = s.yields := rfl
@[simp] theorem State.add64_invFree (s : State) (lo hi k : Nat) : (s.add64 lo hi k).invFree = s.invFree := rfl
@[simp] theorem State.add64_invLate (s : State) (lo hi k : Nat) : (s.add64 lo hi k).invLate = s.invLate := rfl
@[simp] theorem State.add64_clvFrame (s : State) (lo hi k : Nat) : (s.add64 lo hi k).clvFrame = s.clvFrame := rfl
@[simp] theorem State.add64_downDies (s : State) (lo hi k : Nat) : (s.add64 lo hi k).downDies = s.downDies := rfl

/-! ### answer -/

@[simp] theorem State.answer_pending (s : State) (r : Resp) : (s.answer r).pending = s.pending := rfl
@[simp] theorem State.answer_bank (s : State) (r : Resp) : (s.answer r).bank = s.bank := rfl
@[simp] theorem State.answer_latch (s : State) (r : Resp) : (s.answer r).latch = s.latch := rfl
@[simp] theorem State.answer_free (s : State) (r : Resp) : (s.answer r).free = s.free := rfl
@[simp] theorem State.answer_subUs (s : State) (r : Resp) : (s.answer r).subUs = s.subUs := rfl
@[simp] theorem State.answer_img (s : State) (r : Resp) : (s.answer r).img = s.img := rfl
@[simp] theorem State.answer_links (s : State) (r : Resp) : (s.answer r).links = s.links := rfl
@[simp] theorem State.answer_msgFlight (s : State) (r : Resp) : (s.answer r).msgFlight = s.msgFlight := rfl
@[simp] theorem State.answer_evFlight (s : State) (r : Resp) : (s.answer r).evFlight = s.evFlight := rfl
@[simp] theorem State.answer_pend (s : State) (r : Resp) : (s.answer r).pend = s.pend := rfl
@[simp] theorem State.answer_wl (s : State) (r : Resp) : (s.answer r).wl = s.wl := rfl
@[simp] theorem State.answer_cal (s : State) (r : Resp) : (s.answer r).cal = s.cal := rfl
@[simp] theorem State.answer_waiting (s : State) (r : Resp) : (s.answer r).waiting = s.waiting := rfl
@[simp] theorem State.answer_holders (s : State) (r : Resp) : (s.answer r).holders = s.holders := rfl
@[simp] theorem State.answer_slices (s : State) (r : Resp) : (s.answer r).slices = s.slices := rfl
@[simp] theorem State.answer_logQueue (s : State) (r : Resp) : (s.answer r).logQueue = s.logQueue := rfl
@[simp] theorem State.answer_logArray (s : State) (r : Resp) : (s.answer r).logArray = s.logArray := rfl
@[simp] theorem State.answer_nvs (s : State) (r : Resp) : (s.answer r).nvs = s.nvs := rfl
@[simp] theorem State.answer_flash (s : State) (r : Resp) : (s.answer r).flash = s.flash := rfl
@[simp] theorem State.answer_otp (s : State) (r : Resp) : (s.answer r).otp = s.otp := rfl
@[simp] theorem State.answer_hsram (s : State) (r : Resp) : (s.answer r).hsram = s.hsram := rfl
@[simp] theorem State.answer_csram (s : State) (r : Resp) : (s.answer r).csram = s.csram := rfl
@[simp] theorem State.answer_sramValid (s : State) (r : Resp) : (s.answer r).sramValid = s.sramValid := rfl
@[simp] theorem State.answer_dram (s : State) (r : Resp) : (s.answer r).dram = s.dram := rfl
@[simp] theorem State.answer_valid (s : State) (r : Resp) : (s.answer r).valid = s.valid := rfl
@[simp] theorem State.answer_marks (s : State) (r : Resp) : (s.answer r).marks = s.marks := rfl
@[simp] theorem State.answer_lines (s : State) (r : Resp) : (s.answer r).lines = s.lines := rfl
@[simp] theorem State.answer_spares (s : State) (r : Resp) : (s.answer r).spares = s.spares := rfl
@[simp] theorem State.answer_sparesKept (s : State) (r : Resp) : (s.answer r).sparesKept = s.sparesKept := rfl
@[simp] theorem State.answer_victims (s : State) (r : Resp) : (s.answer r).victims = s.victims := rfl
@[simp] theorem State.answer_loopPre (s : State) (r : Resp) : (s.answer r).loopPre = s.loopPre := rfl
@[simp] theorem State.answer_dcmdFull (s : State) (r : Resp) : (s.answer r).dcmdFull = s.dcmdFull := rfl
@[simp] theorem State.answer_lapStart (s : State) (r : Resp) : (s.answer r).lapStart = s.lapStart := rfl
@[simp] theorem State.answer_bufs (s : State) (r : Resp) : (s.answer r).bufs = s.bufs := rfl
@[simp] theorem State.answer_poolFree (s : State) (r : Resp) : (s.answer r).poolFree = s.poolFree := rfl
@[simp] theorem State.answer_keyStore (s : State) (r : Resp) : (s.answer r).keyStore = s.keyStore := rfl
@[simp] theorem State.answer_keys (s : State) (r : Resp) : (s.answer r).keys = s.keys := rfl
@[simp] theorem State.answer_keyJob (s : State) (r : Resp) : (s.answer r).keyJob = s.keyJob := rfl
@[simp] theorem State.answer_smFree (s : State) (r : Resp) : (s.answer r).smFree = s.smFree := rfl
@[simp] theorem State.answer_host (s : State) (r : Resp) : (s.answer r).host = s.host := rfl
@[simp] theorem State.answer_staged (s : State) (r : Resp) : (s.answer r).staged = s.staged := rfl
@[simp] theorem State.answer_reloadUs (s : State) (r : Resp) : (s.answer r).reloadUs = s.reloadUs := rfl
@[simp] theorem State.answer_dump (s : State) (r : Resp) : (s.answer r).dump = s.dump := rfl
@[simp] theorem State.answer_invBuf (s : State) (r : Resp) : (s.answer r).invBuf = s.invBuf := rfl
@[simp] theorem State.answer_invNotes (s : State) (r : Resp) : (s.answer r).invNotes = s.invNotes := rfl
@[simp] theorem State.answer_invAt (s : State) (r : Resp) : (s.answer r).invAt = s.invAt := rfl
@[simp] theorem State.answer_overrides (s : State) (r : Resp) : (s.answer r).overrides = s.overrides := rfl
@[simp] theorem State.answer_demod (s : State) (r : Resp) : (s.answer r).demod = s.demod := rfl
@[simp] theorem State.answer_loop (s : State) (r : Resp) : (s.answer r).loop = s.loop := rfl
@[simp] theorem State.answer_hold (s : State) (r : Resp) : (s.answer r).hold = s.hold := rfl
@[simp] theorem State.answer_clv (s : State) (r : Resp) : (s.answer r).clv = s.clv := rfl
@[simp] theorem State.answer_shock (s : State) (r : Resp) : (s.answer r).shock = s.shock := rfl
@[simp] theorem State.answer_det (s : State) (r : Resp) : (s.answer r).det = s.det := rfl
@[simp] theorem State.answer_wru (s : State) (r : Resp) : (s.answer r).wru = s.wru := rfl
@[simp] theorem State.answer_asu (s : State) (r : Resp) : (s.answer r).asu = s.asu := rfl
@[simp] theorem State.answer_flu (s : State) (r : Resp) : (s.answer r).flu = s.flu := rfl
@[simp] theorem State.answer_pau (s : State) (r : Resp) : (s.answer r).pau = s.pau := rfl
@[simp] theorem State.answer_lmu (s : State) (r : Resp) : (s.answer r).lmu = s.lmu := rfl
@[simp] theorem State.answer_spin (s : State) (r : Resp) : (s.answer r).spin = s.spin := rfl
@[simp] theorem State.answer_clasps (s : State) (r : Resp) : (s.answer r).clasps = s.clasps := rfl
@[simp] theorem State.answer_fatal (s : State) (r : Resp) : (s.answer r).fatal = s.fatal := rfl
@[simp] theorem State.answer_mtime (s : State) (r : Resp) : (s.answer r).mtime = s.mtime := rfl
@[simp] theorem State.answer_core (s : State) (r : Resp) : (s.answer r).core = s.core := rfl
@[simp] theorem State.answer_sig (s : State) (r : Resp) : (s.answer r).sig = s.sig := rfl
@[simp] theorem State.answer_upd (s : State) (r : Resp) : (s.answer r).upd = s.upd := rfl
@[simp] theorem State.answer_dbg (s : State) (r : Resp) : (s.answer r).dbg = s.dbg := rfl
@[simp] theorem State.answer_otpJob (s : State) (r : Resp) : (s.answer r).otpJob = s.otpJob := rfl
@[simp] theorem State.answer_nvsJob (s : State) (r : Resp) : (s.answer r).nvsJob = s.nvsJob := rfl
@[simp] theorem State.answer_nvsWaits (s : State) (r : Resp) : (s.answer r).nvsWaits = s.nvsWaits := rfl
@[simp] theorem State.answer_keeper (s : State) (r : Resp) : (s.answer r).keeper = s.keeper := rfl
@[simp] theorem State.answer_alog (s : State) (r : Resp) : (s.answer r).alog = s.alog := rfl
@[simp] theorem State.answer_lad (s : State) (r : Resp) : (s.answer r).lad = s.lad := rfl
@[simp] theorem State.answer_dmp (s : State) (r : Resp) : (s.answer r).dmp = s.dmp := rfl
@[simp] theorem State.answer_xsJob (s : State) (r : Resp) : (s.answer r).xsJob = s.xsJob := rfl
@[simp] theorem State.answer_xsHeld (s : State) (r : Resp) : (s.answer r).xsHeld = s.xsHeld := rfl
@[simp] theorem State.answer_pins (s : State) (r : Resp) : (s.answer r).pins = s.pins := rfl
@[simp] theorem State.answer_diode (s : State) (r : Resp) : (s.answer r).diode = s.diode := rfl
@[simp] theorem State.answer_bootDue (s : State) (r : Resp) : (s.answer r).bootDue = s.bootDue := rfl
@[simp] theorem State.answer_chWait (s : State) (r : Resp) : (s.answer r).chWait = s.chWait := rfl
@[simp] theorem State.answer_critOff (s : State) (r : Resp) : (s.answer r).critOff = s.critOff := rfl
@[simp] theorem State.answer_seen (s : State) (r : Resp) : (s.answer r).seen = s.seen := rfl
@[simp] theorem State.answer_contained (s : State) (r : Resp) : (s.answer r).contained = s.contained := rfl
@[simp] theorem State.answer_yields (s : State) (r : Resp) : (s.answer r).yields = s.yields := rfl
@[simp] theorem State.answer_invFree (s : State) (r : Resp) : (s.answer r).invFree = s.invFree := rfl
@[simp] theorem State.answer_invLate (s : State) (r : Resp) : (s.answer r).invLate = s.invLate := rfl
@[simp] theorem State.answer_clvFrame (s : State) (r : Resp) : (s.answer r).clvFrame = s.clvFrame := rfl
@[simp] theorem State.answer_downDies (s : State) (r : Resp) : (s.answer r).downDies = s.downDies := rfl

end Sys2Proof.Machine
end

