-- ==== Sys2Proof/WellFormed.lean ====
section
/-!
DEFINITION. Which commands are well formed: every operand within the width the manual gives it.
-/

namespace Sys2Proof

/-- The widths of an access in bytes (R6); every width but 4 answers a bus error. -/
def accessWidth (w : Nat) : Bool := decide (w = 1) || decide (w = 2) || decide (w = 4) || decide (w = 8)

/-- A frame that is absent, or fits its bits. -/
def optBelow (n : Nat) : Option Nat → Bool
  | some x => decide (x < n)
  | none => true

/-- A block read from the media is 4,096 bytes of data and its 64-byte metadata field (R269). -/
def blocks (bs : List (List Byte)) : Bool := bs.all (fun b => decide (b.length = 4160))

/-- A transition lies in the chain of 48 cells and the vernier's 32 steps (R117). -/
def TdcEdge.wf (e : TdcEdge) : Bool := decide (e.cell < 48) && decide (e.vern < 32)

/-- A reader's signal of a wedge has the fields of R103: 24 dibits, twelve stripes, twelve dibits. -/
def ServoSig.wf (g : ServoSig) : Bool :=
  decide (g.gray.length = 24) && decide (g.pairs.length = 12) && g.pairs.all (fun p => p.1.wf && p.2.1.wf) && decide (g.rro.length = 12)

/-- A fragment's signal is that of three readers (R203, R204). -/
def ReadSig.wf (g : ReadSig) : Bool := decide (g.amps.length = 3) && g.amps.all (fun a => decide (a < 0x10000)) && decide (g.signal.length = 3)

/-- Elements that a run of a unit measures (file 02, the table of kinds): 32 taps, 64 cells, three times 135 comparators, 64 segments. -/
def calElements (u : CalUnit) : Nat := if u.val < 6 then 32 else if u.val < 10 then 64 else if u.val < 14 then 405 else 64

/-- A queue with an entry to fetch has a 16-bit identifier, and so have the others that wait with it. -/
def ReadyQueue.wf (q : ReadyQueue) : Bool := decide (q.sqid < 0x10000) && q.others.all (fun o => decide (o.1 < 64 ∧ o.2 < 0x10000))

/-- The addresses of an I3C bus have 7 bits. -/
def I3cAssign.wf : I3cAssign → Bool
  | .setdasa static dynamic => decide (static < 0x80) && decide (dynamic < 0x80)
  | .entdaa dynamic => decide (dynamic < 0x80)

/-- A command is well formed: its operands fit the widths the manual gives them. -/
def Instr.wf : Instr → Bool
  | .registerWrite _ width _ => accessWidth width
  | .expertWrite _ width _ => accessWidth width
  | .wideRegisterRead _ => true
  | .flitReplay _ _ => true
  | .linkRetrain _ => true
  | .linkRetrainCmd _ => true
  | .retrainComplete _ _ lanes => decide (lanes < 0x100)
  | .linkFailed _ => true
  | .msgPacketReceive _ _ _ badWords => badWords.all (fun i => decide (i < 32))
  | .rxqDataLoRead _ _ => true
  | .txqDataHiWrite _ _ _ => true
  | .txqGo _ _ => true
  | .txqDiscard _ _ => true
  | .linkClrDrop _ => true
  | .xtalLoss => true
  | .compUpdate => true
  | .forwardFrameSend _ => true
  | .forwardFrameReceive _ _ => true
  | .returnFrameReceive _ _ => true
  | .wlLock _ => true
  | .wlRetFail _ => true
  | .wedgeLineFail _ => true
  | .forwardStrandRestart _ => true
  | .sharedUnitGrant _ others _ => others.all (fun r => decide (1 ≤ r ∧ r ≤ 8))
  | .calDue _ => true
  | .calStart _ => true
  | .calHoldoffEnd _ => true
  | .calDeadline _ => true
  | .calRunComplete u measured => decide (measured.length = calElements u)
  | .optimeSave => true
  | .powerOnReset => true
  | .keeperRomBoot => true
  | .hubResetRelease => true
  | .hubRomBoot _ reloadUs => decide (reloadUs < 2 ^ 32)
  | .chSupplyTimeout _ => true
  | .blankImageDownload _ => true
  | .keeperImageDownload _ => true
  | .expertUnlockWrite _ _ _ => true
  | .fullBootRequest _ => true
  | .fullBoot => true
  | .colophonSign _ => true
  | .lmsTreeGenerate => true
  | .coloClose => true
  | .coloLateClose => true
  | .servoGateOpen _ => true
  | .samAccept _ marks => decide (marks.length = 3) && marks.all (fun m => decide (m.wnum.length = 12))
  | .wedgeLoss _ => true
  | .demodLoss _ => true
  | .demodSearch _ => true
  | .searchExit _ => true
  | .demodCtlWrite _ _ => true
  | .demodStatRead _ => true
  | .pesReady _ signals _ => decide (signals.length = 3) && signals.all ServoSig.wf
  | .tdcTcUpdate _ => true
  | .tdcUnlock _ => true
  | .tdcRelock _ => true
  | .demodCntClr _ _ => true
  | .loopGo _ => true
  | .loopManual _ _ => true
  | .loopAuto _ => true
  | .loadHeads _ => true
  | .unloadHeads _ => true
  | .loopRearm _ => true
  | .feTrip _ => true
  | .lostEntry _ => true
  | .positionRecovered _ => true
  | .lostRetract _ => true
  | .phi0Latch _ _ => true
  | .subSetpoint _ _ => true
  | .claspFrameRepeat _ => true
  | .loopResidue _ _ => true
  | .holdHandover _ => true
  | .loopRestartDone _ _ => true
  | .loopShadowEnd _ => true
  | .holdInvalidRetract _ => true
  | .holdParity _ => true
  | .coeffDerive _ _ _ => true
  | .seekPolicyWrite _ _ => true
  | .clvRetract _ => true
  | .shockSample shock rvx rvy => decide (shock < 0x10000) && decide (rvx < 0x10000) && decide (rvy < 0x10000)
  | .shockTripClear => true
  | .loadComplete _ => true
  | .loadTimeout _ => true
  | .unloadComplete _ => true
  | .pwmPeriod iu iv iw _ _ _ theta _ _ _ => [iu, iv, iw].all (fun i => decide (-2048 ≤ i ∧ i ≤ 2047)) && decide (theta < 2 ^ 32)
  | .lossOfSynchronism => true
  | .referenceTick _ => true
  | .spinLockSet => true
  | .spinStart => true
  | .spinStop => true
  | .spinCoast => true
  | .spinClear => true
  | .zeroCrossing _ interval _ => decide (0 < interval)
  | .senseTimeout _ => true
  | .brakeHoldEnd => true
  | .brakeEmfCheck _ => true
  | .alignComplete => true
  | .rampHandover => true
  | .handoverFail => true
  | .speedLock => true
  | .holdAngleTimeout => true
  | .startTimeout => true
  | .generateHoldEnd => true
  | .spinResidue _ => true
  | .spinRestartDone => true
  | .spinCfgWrite _ => true
  | .claspBeat => true
  | .claspReply reply => optBelow (2 ^ 56) reply
  | .claspNoReply => true
  | .clsArm _ => true
  | .clsRetract _ => true
  | .clsClear => true
  | .clsIdent => true
  | .clsBridge => true
  | .clsConfig => true
  | .fmtSelWrite _ _ => true
  | .dcmdRead _ _ _ r => r.wf
  | .dcmdReadCont _ _ _ r => r.wf
  | .decodeEnd _ => true
  | .slipSearch _ => true
  | .rcvGo _ _ _ => true
  | .rcvAbort _ => true
  | .recoveryRevolution _ r => r.head.wf && r.conts.all (fun c => c.2.wf)
  | .sjGo _ _ => true
  | .softJobDone _ => true
  | .detectCntClr _ _ => true
  | .codewordEncode _ => true
  | .encodeDone _ => true
  | .dcmdWrite _ _ _ _ => true
  | .dcmdWriteCont _ _ _ _ => true
  | .dcmdSplit _ _ => true
  | .dcmdClose _ => true
  | .sectorWriteEnd _ => true
  | .wrPolicyWrite _ _ => true
  | .assistSample _ _ => true
  | .setpointUpdate _ => true
  | .asPreheatWrite _ _ => true
  | .flyDerive _ _ _ _ => true
  | .flyReqWrite _ _ => true
  | .flyGo _ _ => true
  | .flyAbort _ => true
  | .contactSweepStep _ => true
  | .preampSlot _ _ reply => optBelow (2 ^ 48) reply
  | .preampNoReply _ => true
  | .fltnLow _ _ _ => true
  | .paArm _ => true
  | .paQcmdGo _ _ => true
  | .wrHeadWrite _ _ _ => true
  | .folioEncode => true
  | .folioRebuild => true
  | .folioPrior => true
  | .catLookup => true
  | .smAdd => true
  | .smDrop => true
  | .zoneSet => true
  | .bandSet => true
  | .rbSwitch => true
  | .rbSet => true
  | .catalogueEnable => true
  | .portTrain _ width speed => decide (width ∈ [1, 2, 4]) && decide (1 ≤ speed ∧ speed ≤ 5)
  | .perstAssert _ => true
  | .portLinkDown _ => true
  | .vfEnable _ _ => true
  | .controllerEnable _ => true
  | .controllerReset _ => true
  | .functionLevelReset _ => true
  | .nvmSubsystemReset => true
  | .submissionFetch _ queue _ _ sqe ranges => queue.wf && decide (sqe.length = 64) && ranges.all (fun r => decide (r.1 < 2 ^ 64 ∧ r.2 < 2 ^ 32))
  | .fetchResume => true
  | .createIoSq _ => true
  | .createIoCq _ => true
  | .deleteIoSq _ => true
  | .deleteIoCq _ => true
  | .getLogPage _ => true
  | .getLogColophon _ => true
  | .getLogAccession _ => true
  | .nvmeIdentify _ => true
  | .nvmeAbort _ => true
  | .setFeaturesNumberOfQueues _ => true
  | .setFeaturesVolatileWriteCache _ => true
  | .setFeaturesPowerManagement _ => true
  | .setFeatures _ data => decide (data.length ≤ 4096)
  | .getFeatures _ => true
  | .asynchronousEventRequest _ => true
  | .firmwareImageDownload _ data => decide (data.length % 4 = 0)
  | .firmwareCommit _ => true
  | .formatNvm _ => true
  | .securitySend _ _ => true
  | .securityReceive _ => true
  | .inventoryCmd _ => true
  | .nvmeFlush _ => true
  | .nvmeWrite _ _ => true
  | .nvmeRead _ media _ => blocks media
  | .nvmeCompare _ _ media _ => blocks media
  | .writeZeroes _ _ => true
  | .datasetManagement _ _ => true
  | .nvmeVerify _ media _ => blocks media
  | .reservationRegister _ data => decide (data.length = 16)
  | .reservationReport _ => true
  | .reservationAcquire _ data => decide (data.length = 16)
  | .reservationRelease _ data => decide (data.length = 8)
  | .zoneManagementSend _ => true
  | .zoneManagementReceive _ => true
  | .zoneAppend _ _ => true
  | .ctrlNsWrite _ _ => true
  | .inventoryRebuild => true
  | .inventoryRefresh => true
  | .invNoteDataWrite _ => true
  | .mctpMessage _ msg _ => decide (msg.type < 0x80)
  | .readNvmeMiDataStructure kind _ _ => decide (kind < 0x100)
  | .nvmSubsystemHealthStatusPoll => true
  | .controllerHealthStatusPoll first _ => decide (first < 0x10000)
  | .configurationGet item _ => decide (item < 0x100)
  | .configurationSet item _ _ => decide (item < 0x100)
  | .nvmeMiReset => true
  | .basicManagementCommand code => decide (code < 0x100)
  | .nvmeMiAdminCommand _ _ sqe => decide (sqe.length = 64)
  | .getVersion => true
  | .getCapabilities req => decide (req.length = 20)
  | .negotiateAlgorithms req _ => decide (req.length = 32)
  | .getDigests => true
  | .getCertificate slot _ _ => decide (slot < 8)
  | .spdmChallenge _ _ nonce => decide (nonce.length = 40)
  | .getMeasurements index _ _ nonce => decide (nonce.length = 40) && decide (index < 0x100)
  | .tagDispatch _ => true
  | .writeDataArrive _ _ _ => true
  | .writeAdmit _ => true
  | .tagComplete media => blocks media
  | .tagMedia => true
  | .completionPost _ => true
  | .wrtRelWrite _ => true
  | .flushComplete _ => true
  | .dumpArm => true
  | .armComplete _ => true
  | .plpFail _ => true
  | .powerLossWarning _ => true
  | .dumpWrite => true
  | .dumpComplete => true
  | .bootDump => true
  | .dumpRestore _ => true
  | .dramWrite _ _ bytes _ => decide (bytes.length ≤ 64)
  | .dramInvalidate _ => true
  | .dramSpare => true
  | .dcmdDone => true
  | .stkAlloc _ _ _ => true
  | .stkAdd _ => true
  | .stkRelease _ => true
  | .stkFree _ => true
  | .stkQuery _ => true
  | .poolInit _ => true
  | .poolInitDone _ => true
  | .poolOff _ => true
  | .poolClrLow _ => true
  | .hwAllocRetry _ => true
  | .scClean => true
  | .scInval => true
  | .scCleanInval => true
  | .scCleanAll => true
  | .scCleanInvalAll => true
  | .mopDone => true
  | .scrubItem _ _ _ => true
  | .scrubLapEnd _ => true
  | .readRaw _ => true
  | .writeRaw _ => true
  | .memCntClr _ _ => true
  | .newkey _ => true
  | .keyErase _ => true
  | .cipherEnable => true
  | .coreInstruction _ => true
  | .mevclaimRead _ => true
  | .mevsendWrite _ _ => true
  | .mdinvWrite _ _ => true
  | .mtaskdoneWrite _ _ => true
  | .mwdkickWrite _ => true
  | .mresctlWrite _ _ => true
  | .timerInterrupt _ => true
  | .residueMismatch _ _ => true
  | .machineCheck _ source _ => decide (source ≤ 4)
  | .warmRestart _ => true
  | .warmRestartDone _ _ => true
  | .watchdogExpiry _ => true
  | .coreStart _ => true
  | .coreWarm _ => true
  | .eventRaise _ => true
  | .eventDeliver _ => true
  | .evRouteWrite _ _ => true
  | .evSendWrite _ => true
  | .taskRaise _ => true
  | .taskLate _ => true
  | .lmLoadData7Write _ _ => true
  | .lmStart _ => true
  | .lmVerifyDone _ => true
  | .lmStop _ => true
  | .lmReload _ => true
  | .lmReloadDone _ => true
  | .microword _ _ => true
  | .sigSha256 => true
  | .sigSha384 => true
  | .sigVerify => true
  | .sigExtend => true
  | .sigRandom => true
  | .sigOpDone => true
  | .dbgChal _ => true
  | .dbgToken _ => true
  | .dbgSubmit => true
  | .tokenCheckDone => true
  | .challengeExpire => true
  | .dbgLock => true
  | .dbgFabric _ _ _ => true
  | .otpProgWrite _ => true
  | .otpProgramDone => true
  | .nvsDataWrite _ => true
  | .nvsDataRead => true
  | .nvsWriteDone _ => true
  | .updHdrchk _ => true
  | .updWrite _ => true
  | .updSelect _ => true
  | .updActivate _ => true
  | .updOpDone _ => true
  | .chStepDrain => true
  | .hubStep => true
  | .updStWrite _ _ => true
  | .selftestTimeout => true
  | .updUnsealWrite _ => true
  | .alogEnter => true
  | .wrGoWrite _ _ => true
  | .actStateWrite _ => true
  | .fatalCmdWrite _ => true
  | .fatalSequence => true
  | .fatalRetractTimeout => true
  | .fatalFullBoot => true
  | .kprLinkFailTimer _ => true
  | .alogSave => true
  | .alogCopyDone _ => true
  | .alogFreeze => true
  | .alogUnfreeze => true
  | .freezeTimeout => true
  | .ladderCmdWrite _ _ => true
  | .maxRungWrite _ => true
  | .rungEntryStep => true
  | .rungWake _ => true
  | .rungExit => true
  | .supplyGood _ => true
  | .supplyLost _ => true
  | .thermalConversion readings => decide (readings.length = 8)
  | .sensorBroken _ => true
  | .xsRead => true
  | .xsProgram => true
  | .xsErase => true
  | .xsDone _ => true
  | .testEnAssert => true
  | .tapReset => true
  | .extest _ => true
  | .idcode => true
  | .samplePreload _ _ => true
  | .clamp => true
  | .highz => true
  | .bypass => true
  | .uartDataWrite _ => true
  | .uartDataRead => true
  | .uartReceive _ => true
  | .keyCommandDone => true
  | .i3cAddressAssignment assign => assign.wf
  | .testEnDeassert => true
  | .gpioChange _ => true
  | .keeperContextResidue => true
  | .controllerShutdown _ => true

end Sys2Proof
end

