-- ==== Sys2Proof/Tests/Slice0.lean ====
section
/-!
SUPPORT. Tests: a witness for every clause of the statements (a concrete state and operands that meet its hypotheses, with the command run on them), and the ill-formed commands that `Instr.wf` refuses.
-/

set_option Elab.async false
set_option linter.unusedVariables false

namespace Sys2Proof.Tests

open Sys2Proof Sys2Proof.Machine

/-- The command answers a next state that passes a check. -/
def ran (c : Instr) (s : State) (p : State → Bool) : Bool :=
  match exec c s with
  | .next t => p t
  | _ => false

/-- A byte string of `n` zeros with little-endian fields (offset, bytes, value) placed in it. -/
def bytesWith (n : Nat) (fs : List (Nat × Nat × Nat)) : List Byte :=
  fs.foldl (fun b f => b.take f.1 ++ toLe f.2.1 f.2.2 ++ b.drop (f.1 + f.2.1)) (List.replicate n 0)

/-- An accepted image: four channel dies with two heads each, 7,200 rpm, 432 wedges, a class 1 motor, two ports. -/
def imgA : Image where
  header := bytesWith 64 [(0x20, 4, 3), (0x24, 4, 1)]
  dieEnable := bytesWith 1 [(0, 1, 0x0F)]
  actuators := (List.range 4).map (fun n => bytesWith 16 [(0, 1, n), (1, 1, 3), (3, 1, 1), (4, 1, 7), (5, 1, 1), (6, 2, 2000), (9, 1, 1)])
  spindle := bytesWith 18 [(0, 2, 7200), (2, 2, 432), (4, 1, 4), (5, 1, 1), (6, 2, 900), (8, 2, 1500), (10, 2, 300), (12, 2, 2500), (14, 2, 12000), (16, 2, 15000)]
  host := bytesWith 20 [(0, 1, 1), (3, 1, 1), (13, 1, 4), (14, 2, 32), (18, 2, 8)]
  memory := bytesWith 2 [(0, 2, 6400)]
  flash := bytesWith 92 [(1, 1, 1), (4, 1, 7),
    (8, 1, 1), (9, 1, 0), (12, 4, 0x100000), (16, 4, 0x400000), (20, 1, 1), (21, 1, 1), (24, 4, 0x500000), (28, 4, 0x400000),
    (32, 1, 2), (33, 1, 0), (36, 4, 0xA00000), (40, 4, 0x2000000), (44, 1, 3), (45, 1, 0), (48, 4, 0x3000000), (52, 4, 0x100000),
    (56, 1, 4), (57, 1, 0), (60, 4, 0x3200000), (64, 4, 0x100000), (68, 1, 4), (69, 1, 1), (72, 4, 0x3300000), (76, 4, 0x100000),
    (80, 1, 5), (81, 1, 0), (84, 4, 0x3400000), (88, 4, 0x100000)]
  power := bytesWith 8 [(0, 1, 4), (1, 1, 1), (2, 1, 50), (4, 2, 20)]
  cache := bytesWith 160 []
  events := bytesWith 512 []
  coreRoles := (List.range 16).flatMap (fun c => bytesWith 8 [(0, 1, 1), (2, 1, if c = 0 then 1 else 0), (4, 4, 0x1000)])
  storeProtect := bytesWith 4 []
  expertGrants := bytesWith 32 [(4, 4, 0xFFFFFFFE), (0, 4, 0xFFFFFFFE), (20, 4, 0xFFFFFFFE)]
  thermal := bytesWith 32 ((List.range 8).flatMap (fun d => [(4 * d, 1, 80), (4 * d + 1, 1, 95), (4 * d + 2, 1, 105), (4 * d + 3, 1, 5)]))
  clasp := bytesWith 10 [(0, 2, 0x1234), (2, 1, 100), (4, 2, 500), (6, 2, 100), (8, 2, 50)]
  format := bytesWith 56 [(1, 1, 2), (4, 4, 100)]

/-- The part with that image in force. -/
def w0 : State := { State.reset with img := some imgA, lad := { State.reset.lad with pd := Vector.replicate 84 .on } }

/-- A recovery as GO with steps up to 5 starts it. -/
def rcvWit : Rcv := ⟨rdSec [], 5, 0, 0, 0, 0, 0, false, false, 1, 0, rdSec [], ReadPath.plain, [], false, 0, false, false⟩

/-- A Folio descriptor of operation `op` whose buffers lie apart in HUB SRAM. -/
def folWit (op miss other : Byte) : List Byte :=
  let at_ (a : Nat) : List Byte := toLe 8 (sramBase + a)
  [op, miss, other, 0, 9, 8, 7, 6] ++ toLe 8 0x1234 ++ at_ 0x30000 ++ at_ 0x38000 ++
    (List.range 17).flatMap (fun i => at_ (0x1000 + 0x1000 * i) ++ at_ (0x20000 + 0x80 * i)) ++ List.replicate 208 0

/-- That descriptor as it lies in memory at address 0, with a byte of member 3 and one of the LLRs. -/
def folMem (d : List Byte) : Memory :=
  ((d.zipIdx.filter (fun p => decide (p.1 ≠ 0))).map (fun p => (p.2, p.1))) ++ [(0x4005, 0xA5), (0x38007, 0x9C)]

/-- A Catalogue request of 32 bytes. -/
def rqWit (op dlba count out arg : Nat) : List Byte :=
  bytesWith 32 [(0, 1, op), (8, 8, dlba), (16, 4, count), (20, 8, out), (28, 4, arg)]

/-- An enabled Catalogue with one zone, one band and eight Shelfmarks in HUB SRAM, and one request waiting. -/
def catWit (r : List Byte) : State :=
  { ((((((((((w0.put CAT_CTL_EN 1).put CAT_CTL_CHAIN_LIM 8).setNum ZONES 1).setNum BANDS 1).setNum SM_TOTAL 8).set64 ZT_BASE_LO ZT_BASE_HI (sramBase + 0x1000)).set64
    BT_BASE_LO BT_BASE_HI (sramBase + 0x2000)).set64 SM_BASE_LO SM_BASE_HI (sramBase + 0x3000)).set64 MJ_BASE_LO MJ_BASE_HI (sramBase + 0x8000)).setNum RQ_HEAD 1).hsWrite
    0 r with smFree := [2, 3] }


/-- STACKS with one pool that is ON, and core 2's request on buffer 5 by the owner 10007h. -/
def stkWit : State :=
  ((((((w0.put STK_CTL_EN 1).put STK_TBL_LO_BASE 0x20).put STK_TBL_HI_BASE 2).put (POOL_STAT_STATE 1) 2).put (POOL_COUNT_COUNT 1) 16).put
    (STK_NAME_NAME 2) 0x10007).put (STK_HANDLE_HANDLE 2) 0x300005

/-- A submission entry: opcode, CID, NSID, dwords 10 and 11. -/
def sqWit (op cid nsid d10 d11 : Nat) : List Byte := bytesWith 64 [(0, 1, op), (2, 2, cid), (4, 4, nsid), (40, 4, d10), (44, 4, d11)]

/-- The part with PF0's controller enabled and ready. -/
def hostWit : State := w0.modCtrl 0 (fun k => { k with en := true, rdy := true })

/-- That part with tag 9 and one request of drive firmware waiting. -/
def tcWit (r : List (Nat × Byte)) (x : Tag) : State := ({ hostWit with hsram := r }.setNum TC_HEAD 1).setTag 9 x

/-- That part with stage 9 reached and MGMT on SMBus. -/
def mgmtWit : State := (hostWit.put BOOT_STAT_STAGE 9).put MGMT_STAT_BUS 2

/-- The part with core 8 (C-core 0 of CH0) running at the base of its CH SRAM, which holds the bytes given. -/
def hartWit (code : List Byte) : State :=
  let s := (w0.setCoreState 8 csRunning).modCore 8 (fun k => { k with pc := 0x100000000, timecmp := 0xFFFFFFFFFFFFFFFF })
  { s with csram := modAt s.csram 0 (fun _ => Memory.writeN 0 [] 0 code) }

/-- The sample sums of the dibits that spell a number of `n` bits. -/
def bitSums (n f : Nat) : List (Int × Int) := (List.range n).map (fun i => if bitOf f (n - 1 - i) then (100, 0) else (0, 100))

/-- A servo mark that matches channel n's pattern in full at every reader. -/
def markWit (s : State) (n tick wnum : Nat) : List MarkSig :=
  List.replicate 3 ⟨BitVec.ofNat 16 (s.get (SAM_CFG_PATTERN n)), tick, 100, bitSums 12 wnum⟩

/-- The twelve pairs of a chevron field on the middle of its band, with servo bits of 10 ns. -/
def pairWit : List (TdcEdge × TdcEdge × Nat) :=
  [76, 80, 84, 90, 94, 98, 104, 108, 112, 118, 122, 126].map (fun k => (⟨20 * k, 0, 0⟩, ⟨20 * k, 0, 0⟩, 100))

/-- A wedge's signal with that chevron field over track 1. -/
def servoWit : List ServoSig := List.replicate 3 ⟨100, bitSums 24 1, pairWit, bitSums 12 0⟩

/-! ### Ill-formed commands: `Instr.wf` refuses each -/

theorem test_wf_ok : (Instr.registerWrite 0 4 0).wf = true := by decide +kernel
theorem test_ill_registerWrite : (Instr.registerWrite 0 3 0).wf = false := by decide +kernel
theorem test_ill_expertWrite : (Instr.expertWrite 0 16 0).wf = false := by decide +kernel
theorem test_ill_retrainComplete : (Instr.retrainComplete 0 true 0x100).wf = false := by decide +kernel
theorem test_ill_msgPacketReceive (f : MsgFate) : (Instr.msgPacketReceive 0 0 f [32]).wf = false := rfl
theorem test_ill_sharedUnitGrant : (Instr.sharedUnitGrant (.path 0) [9] false).wf = false := by decide +kernel
theorem test_ill_hubRomBoot : (Instr.hubRomBoot true (2 ^ 32)).wf = false := by decide +kernel
theorem test_ill_samAccept : (Instr.samAccept 0 []).wf = false := by decide +kernel
theorem test_ill_samAccept_wnum : (Instr.samAccept 0 (List.replicate 3 ⟨0, 0, 0, []⟩)).wf = false := by decide +kernel
theorem test_ill_pesReady : (Instr.pesReady 0 [] false).wf = false := by decide +kernel
theorem test_ill_pesReady_pairs : (Instr.pesReady 0 (List.replicate 3 ⟨0, List.replicate 24 (0, 0), [], List.replicate 12 (0, 0)⟩) false).wf = false := by decide +kernel
theorem test_ill_shockSample : (Instr.shockSample 0x10000 0 0).wf = false := by decide +kernel
theorem test_ill_shockSample_rvx : (Instr.shockSample 0 0x10000 0).wf = false := by decide +kernel
theorem test_ill_shockSample_rvy : (Instr.shockSample 0 0 0x10000).wf = false := by decide +kernel
theorem test_ill_pwmPeriod : (Instr.pwmPeriod 0 0 0 0 0 0 (2 ^ 32) 0 0 0).wf = false := by decide +kernel
theorem test_ill_zeroCrossing : (Instr.zeroCrossing 0 0 0).wf = false := by decide +kernel
theorem test_ill_calRunComplete : (Instr.calRunComplete 0 []).wf = false := by decide +kernel
theorem test_ill_dcmdRead : (Instr.dcmdRead 0 false 0 ⟨[0, 0, 0x10000], [[], [], []]⟩).wf = false := by decide +kernel
theorem test_ill_dcmdReadCont : (Instr.dcmdReadCont 0 false 0 ⟨[0, 0, 0], []⟩).wf = false := by decide +kernel
theorem test_ill_recoveryRevolution : (Instr.recoveryRevolution 0 ⟨⟨[0, 0, 0], [[], [], []]⟩, [(0, ⟨[], []⟩)]⟩).wf = false := by decide +kernel
theorem test_ill_claspReply : (Instr.claspReply (some (2 ^ 56))).wf = false := by decide +kernel
theorem test_ill_preampSlot : (Instr.preampSlot 0 false (some (2 ^ 48))).wf = false := by decide +kernel
theorem test_ill_portTrain_width : (Instr.portTrain 0 3 5).wf = false := by decide +kernel
theorem test_ill_portTrain_speed : (Instr.portTrain 0 4 6).wf = false := by decide +kernel
theorem test_ill_submissionFetch_sqid : (Instr.submissionFetch 0 ⟨0x10000, []⟩ 0 0 (List.replicate 64 0) []).wf = false := by decide +kernel
theorem test_ill_submissionFetch_others : (Instr.submissionFetch 0 ⟨1, [(64, 0)]⟩ 0 0 (List.replicate 64 0) []).wf = false := by decide +kernel
theorem test_ill_submissionFetch_sqe : (Instr.submissionFetch 0 ⟨0, []⟩ 0 0 [] []).wf = false := by decide +kernel
theorem test_ill_submissionFetch_ranges : (Instr.submissionFetch 0 ⟨0, []⟩ 0 0 (List.replicate 64 0) [(0, 2 ^ 32)]).wf = false := by decide +kernel
theorem test_ill_setFeatures : (Instr.setFeatures 0 (List.replicate 4097 0)).wf = false := by decide +kernel
theorem test_ill_firmwareImageDownload : (Instr.firmwareImageDownload 0 [0]).wf = false := by decide +kernel
theorem test_ill_nvmeRead (e : MediaEnd) : (Instr.nvmeRead 0 [[0]] e).wf = false := rfl
theorem test_ill_nvmeCompare (e : MediaEnd) : (Instr.nvmeCompare 0 [] [[0]] e).wf = false := rfl
theorem test_ill_nvmeVerify (e : MediaEnd) : (Instr.nvmeVerify 0 [[0]] e).wf = false := rfl
theorem test_ill_tagComplete : (Instr.tagComplete [[0]]).wf = false := by decide +kernel
theorem test_ill_reservationRegister : (Instr.reservationRegister 0 []).wf = false := by decide +kernel
theorem test_ill_reservationAcquire : (Instr.reservationAcquire 0 []).wf = false := by decide +kernel
theorem test_ill_reservationRelease : (Instr.reservationRelease 0 []).wf = false := by decide +kernel
theorem test_ill_mctpMessage : (Instr.mctpMessage 0 ⟨0x80, []⟩ true).wf = false := by decide +kernel
theorem test_ill_readNvmeMiDataStructure : (Instr.readNvmeMiDataStructure 0x100 0 0).wf = false := by decide +kernel
theorem test_ill_controllerHealthStatusPoll : (Instr.controllerHealthStatusPoll 0x10000 0).wf = false := by decide +kernel
theorem test_ill_configurationGet : (Instr.configurationGet 0x100 0).wf = false := by decide +kernel
theorem test_ill_configurationSet : (Instr.configurationSet 0x100 0 0).wf = false := by decide +kernel
theorem test_ill_basicManagementCommand : (Instr.basicManagementCommand 0x100).wf = false := by decide +kernel
theorem test_ill_nvmeMiAdminCommand : (Instr.nvmeMiAdminCommand 0 0 []).wf = false := by decide +kernel
theorem test_ill_getCertificate : (Instr.getCertificate 8 0 0).wf = false := by decide +kernel
theorem test_ill_getCapabilities : (Instr.getCapabilities []).wf = false := by decide +kernel
theorem test_ill_negotiateAlgorithms : (Instr.negotiateAlgorithms [] []).wf = false := by decide +kernel
theorem test_ill_spdmChallenge : (Instr.spdmChallenge 0 0 []).wf = false := by decide +kernel
theorem test_ill_getMeasurements_nonce : (Instr.getMeasurements 0 0 true []).wf = false := by decide +kernel
theorem test_ill_getMeasurements_index : (Instr.getMeasurements 0x100 0 true (List.replicate 40 0)).wf = false := by decide +kernel
theorem test_ill_dramWrite (u : Upset) : (Instr.dramWrite 0 0 (List.replicate 65 0) u).wf = false := rfl
theorem test_ill_machineCheck : (Instr.machineCheck 0 5 0).wf = false := by decide +kernel
theorem test_ill_thermalConversion : (Instr.thermalConversion [(0, false)]).wf = false := by decide +kernel
theorem test_ill_i3cAddressAssignment : (Instr.i3cAddressAssignment (.entdaa 0x80)).wf = false := by decide +kernel
theorem test_ill_i3cAddressAssignment_static : (Instr.i3cAddressAssignment (.setdasa 0x80 0)).wf = false := by decide +kernel

theorem test_Link_MSG_queues_move_whole_packets_1 :
    ((fun (s : State) (e : LinkEnd) (q : Fin 8) (bad : List Nat) (p : MsgPkt) =>
      s.wfb && decide (s.msgFlight.find? (fun p => decide (p.dst = e.val) && decide (p.q = q.val)) = some p) && decide (s.linkUp e = true) && decide (p.words.length + (atD (s.link e).rx q []).length ≤ 512)
        && ran (.msgPacketReceive e q .good bad) s (fun t => decide (atD (t.link e).rx q [] = atD (s.link e).rx q [] ++ queueWords p.words bad) && decide (t.get (RXQ_COUNT_WORDS (linkBase e) q) = p.words.length + (atD (s.link e).rx q []).length) && decide (t.msgFlight = s.msgFlight.erase p)))
      ({ w0.put (LINK_STAT_STATE (linkBase 2)) 2 with msgFlight := [⟨2, 7, 9, [1#64, 2#64]⟩] }) (2) (7) ([]) (⟨2, 7, 9, [1#64, 2#64]⟩) = true) ∧
    ((fun (s : State) (e : LinkEnd) (q : Fin 8) (fate : MsgFate) (bad : List Nat) (p : MsgPkt) =>
      s.wfb && decide (s.msgFlight.find? (fun p => decide (p.dst = e.val) && decide (p.q = q.val)) = some p) && decide (s.linkOn e = true) && decide (s.linkUp e = true ∨ fate = .cut) && decide (fate ≠ .good ∨ 512 < p.words.length + (atD (s.link e).rx q []).length)
        && ran (.msgPacketReceive e q fate bad) s (fun t => decide (t.links = s.links) && decide (t.msgFlight = s.msgFlight.erase p) && decide (bitOf (t.num (LINK_ERR (linkBase e))) 4 = true) && decide (t.num (MSG_DROP (linkBase e)) = min (s.num (MSG_DROP (linkBase e)) + 1) 0xFFFFFFFF)))
      ({ w0 with msgFlight := [⟨2, 7, 9, [1#64, 2#64]⟩] }) (2) (7) (.cut) ([]) (⟨2, 7, 9, [1#64, 2#64]⟩) = true) ∧
    ((fun (s : State) (e : LinkEnd) (q : Fin 8) (fate : MsgFate) (bad : List Nat) =>
      s.wfb && decide (s.linkUp e = false) && decide (fate ≠ .cut)
        && ran (.msgPacketReceive e q fate bad) s (fun t => decide (t = { s with resp := t.resp })))
      ({ w0 with msgFlight := [⟨2, 7, 9, [1#64, 2#64]⟩] }) (2) (7) (.good) ([]) = true) ∧
    ((fun (s : State) (e : LinkEnd) (q : Fin 8) (w : QWord) (rest : List QWord) =>
      s.wfb && decide (s.dieOn (linkDie e) = true) && decide (atD (s.link e).rx q [] = w :: rest)
        && ran (.rxqDataLoRead e q) s (fun t => decide (t.resp = .data (w.data.toNat % 0x100000000)) && decide (t.num (RXQ_DATA_HI (linkBase e) q) = w.data.toNat / 0x100000000) && decide (t.num (RXQ_TAG (linkBase e) q) = ofBool w.last * 2 + ofBool w.bad) && decide (atD (t.link e).rx q [] = rest) && decide ((w.bad = true → bitOf (t.num (LINK_ERR (linkBase e))) 3 = true))))
      ({ w0 with links := modAt w0.links 4 (fun l => { l with rx := modAt l.rx 1 (fun _ => [⟨5#64, true, true⟩]) }) }) (4) (1) (⟨5#64, true, true⟩) ([]) = true) ∧
    ((fun (s : State) (e : LinkEnd) (q : Fin 8) =>
      s.wfb && decide (s.dieOn (linkDie e) = true) && decide (atD (s.link e).rx q [] = [])
        && ran (.rxqDataLoRead e q) s (fun t => decide (t.resp = .data 0xDEAD1D1E) && decide (t.num (RXQ_DATA_HI (linkBase e) q) = 0) && decide (t.num (RXQ_TAG (linkBase e) q) = 4) && decide (t.links = s.links)))
      (w0) (9) (0) = true) ∧
    ((fun (s : State) (e : LinkEnd) (q : Fin 8) (v : Word) =>
      s.wfb && decide (s.dieOn (linkDie e) = true) && decide ((atD (s.link e).tx q []).length < 32)
        && ran (.txqDataHiWrite e q v) s (fun t => decide (atD (t.link e).tx q [] = atD (s.link e).tx q [] ++ [BitVec.ofNat 64 ((atD (s.link e).txLo q 0).toNat + 0x100000000 * v.toNat)]) && decide (t.resp = .done)))
      (w0) (9) (0) (3#32) = true) ∧
    ((fun (s : State) (e : LinkEnd) (q : Fin 8) (v : Word) =>
      s.wfb && decide (s.dieOn (linkDie e) = true) && decide (32 ≤ (atD (s.link e).tx q []).length)
        && ran (.txqDataHiWrite e q v) s (fun t => decide (atD (t.link e).tx q [] = atD (s.link e).tx q [])))
      ({ w0 with links := modAt w0.links 9 (fun l => { l with tx := modAt l.tx 0 (fun _ => List.replicate 32 5#64) }) }) (9) (0) (3#32) = true) ∧
    ((fun (s : State) (e : LinkEnd) (q : Fin 8) =>
      s.wfb && decide (s.dieOn (linkDie e) = true) && decide (s.linkOn e = true) && decide (atD (s.link e).tx q [] ≠ [])
        && ran (.txqGo e q) s (fun t => decide (t.msgFlight = s.msgFlight ++ [⟨farEnd e, q, s.num TSTAMP, atD (s.link e).tx q []⟩]) && decide (atD (t.link e).tx q [] = [])))
      ({ w0 with links := modAt w0.links 9 (fun l => { l with tx := modAt l.tx 0 (fun _ => [5#64]) }) }) (9) (0) = true) :=
  ⟨by decide +kernel, by decide +kernel, by decide +kernel, by decide +kernel, by decide +kernel, by decide +kernel, by decide +kernel, by decide +kernel⟩

theorem test_Link_MSG_queues_move_whole_packets_2 :
    ((fun (s : State) (e : LinkEnd) (q : Fin 8) =>
      s.wfb && decide (s.dieOn (linkDie e) = true) && decide (s.linkOn e = false ∨ atD (s.link e).tx q [] = [])
        && ran (.txqGo e q) s (fun t => decide (t.msgFlight = s.msgFlight) && decide (atD (t.link e).tx q [] = [])))
      ({ w0 with downDies := [2], links := modAt w0.links 2 (fun l => { l with tx := modAt l.tx 0 (fun _ => [5#64]) }) }) (2) (0) = true) ∧
    ((fun (s : State) (e : LinkEnd) (q : Fin 8) =>
      s.wfb && decide (s.dieOn (linkDie e) = true)
        && ran (.txqDiscard e q) s (fun t => decide (atD (t.link e).tx q [] = []) && decide (t.msgFlight = s.msgFlight)))
      ({ w0 with links := modAt w0.links 9 (fun l => { l with tx := modAt l.tx 0 (fun _ => [5#64]) }) }) (9) (0) = true) ∧
    ((fun (s : State) (e : LinkEnd) =>
      s.wfb && decide (s.dieOn (linkDie e) = true)
        && ran (.linkClrDrop e) s (fun t => decide (t.num (MSG_DROP (linkBase e)) = 0) && decide (t.num (LINK_ERR (linkBase e)) = s.num (LINK_ERR (linkBase e)))))
      (w0) (3) = true) :=
  ⟨by decide +kernel, by decide +kernel, by decide +kernel⟩

theorem test_Link_retry_retrain_and_failure_1 :
    ((fun (s : State) (e : LinkEnd) (same : Bool) =>
      s.wfb && decide (s.linkOn e = true)
        && ran (.flitReplay e same) s (fun t => decide (bitOf (t.num (LINK_ERR (linkBase e))) 0 = true) && decide ((t.link e).fails = (if same then (s.link e).fails + 1 else 1)) && decide ((s.retryLimit e ≤ (t.link e).fails → bitOf (t.num (LINK_ERR (linkBase e))) 1 = true))))
      (w0) (3) (false) = true) ∧
    ((fun (s : State) (e : LinkEnd) =>
      s.wfb && decide (s.linkOn e = true) && decide (s.retryLimit e ≤ (s.link e).fails)
        && ran (.linkRetrain e) s (fun t => decide (t.get (LINK_STAT_STATE (linkBase e)) = 3) && decide (t.get (LINK_STAT_STATE (linkBase (farEnd e))) = 3) && decide ((t.link e).fails = 0) && decide ((t.link (farEnd e)).fails = 0) && decide (bitOf (t.num (LINK_ERR (linkBase e))) 2 = true) && decide (bitOf (t.num (LINK_ERR (linkBase (farEnd e)))) 2 = true)))
      ({ w0 with links := modAt w0.links 3 (fun l => { l with fails := 99 }) }) (3) = true) ∧
    ((fun (s : State) (e : LinkEnd) =>
      s.wfb && decide (s.dieOn (linkDie e) = true) && decide (s.linkOn e = true)
        && ran (.linkRetrainCmd e) s (fun t => decide (t.get (LINK_STAT_STATE (linkBase e)) = 3) && decide (t.get (LINK_STAT_STATE (linkBase (farEnd e))) = 3) && decide (t.resp = .done)))
      (w0) (9) = true) ∧
    ((fun (s : State) (e : LinkEnd) (lanes : Nat) =>
      s.wfb && decide (s.get (LINK_STAT_STATE (linkBase e)) = 3)
        && ran (.retrainComplete e true lanes) s (fun t => decide (t.get (LINK_STAT_STATE (linkBase e)) = 2) && decide (t.get (LINK_STAT_STATE (linkBase (farEnd e))) = 2) && decide (t.get (LINK_STAT_LANES_UP (linkBase e)) = Nat.land lanes (fullLanes e)) && decide ((t.link e).retrains = 0) && decide ((t.link (farEnd e)).retrains = 0)))
      (w0.put (LINK_STAT_STATE (linkBase 4)) 3) (4) (0xFF) = true) ∧
    ((fun (s : State) (e : LinkEnd) (lanes : Nat) =>
      s.wfb && decide (s.get (LINK_STAT_STATE (linkBase e)) = 3)
        && ran (.retrainComplete e false lanes) s (fun t => decide ((t.link e).retrains = max (s.link e).retrains (s.link (farEnd e)).retrains + 1) && decide ((t.link (farEnd e)).retrains = (t.link e).retrains) && decide (t.bank = s.bank)))
      (w0.put (LINK_STAT_STATE (linkBase 4)) 3) (4) (0xFF) = true) ∧
    ((fun (s : State) (e : LinkEnd) =>
      s.wfb && decide (3 ≤ (s.link e).retrains) && decide (s.get (LINK_STAT_STATE (linkBase e)) ≠ 0xF) && decide (e.val ≠ 4) && decide (e.val ≠ 9)
        && ran (.linkFailed e) s (fun t => decide (t.get (LINK_STAT_STATE (linkBase e)) = 0xF) && decide (t.get (LINK_STAT_STATE (linkBase (farEnd e))) = 0xF) && decide (t.fatal = s.fatal)))
      ({ w0 with links := modAt w0.links 3 (fun l => { l with retrains := 3 }) }) (3) = true) ∧
    ((fun (s : State) (e : LinkEnd) =>
      s.wfb && decide (s.linkOn e = false ∨ (s.link e).fails < s.retryLimit e)
        && ran (.linkRetrain e) s (fun t => decide (t = { s with resp := t.resp })))
      (w0) (3) = true) ∧
    ((fun (s : State) (e : LinkEnd) (trained : Bool) (lanes : Nat) =>
      s.wfb && decide (s.get (LINK_STAT_STATE (linkBase e)) ≠ 3)
        && ran (.retrainComplete e trained lanes) s (fun t => decide (t = { s with resp := t.resp })))
      (w0) (3) (true) (0) = true) :=
  ⟨by decide +kernel, by decide +kernel, by decide +kernel, by decide +kernel, by decide +kernel, by decide +kernel, by decide +kernel, by decide +kernel⟩

theorem test_Link_retry_retrain_and_failure_2 :
    (fun (s : State) (e : LinkEnd) =>
      s.wfb && decide (3 ≤ (s.link e).retrains) && decide (s.get (LINK_STAT_STATE (linkBase e)) ≠ 0xF) && decide (e.val = 4 ∨ e.val = 9)
        && ran (.linkFailed e) s (fun t => decide (t.get (LINK_STAT_STATE (linkBase e)) = 0xF) && decide (t.fatal = s.fatal ++ [.link])))
      ({ w0 with links := modAt w0.links 4 (fun l => { l with retrains := 3 }) }) (4) = true := by decide +kernel

theorem test_Wedge_lines_carry_frames_and_lock_1 :
    ((fun (s : State) (ch : Ch) =>
      s.wfb && decide (s.chUp ch = true) && decide (4 ≤ s.get BOOT_STAT_STAGE)
        && ran (.forwardFrameSend ch) s (fun t => decide ((t.wlOf ch).frame.map (fun f => (f.mark, f.wedge, f.spinLock, f.spinRun, f.shockTrip)) = some ((s.nextMarker ch).1, (s.nextMarker ch).2, s.flag SPIN_STAT_SPIN_LOCK, s.flag SPIN_STAT_SPIN_RUN, atD s.shock.trip ch false)) && decide ((s.wlOf ch).lastMark.all (fun m => decide (m + 115200 ≤ (t.wlOf ch).predicted)) = true) && decide ((t.wlOf ch).lastMark = some (t.wlOf ch).predicted) && decide ((t.wlOf ch).predicted = (s.nextMarker ch).1) && decide (atD t.shock.trip ch true = false)))
      ((w0.put BOOT_STAT_STAGE 4).modWl 1 (fun w => { w with frame := some ⟨5, 6, true, false, true, 0, 0, 0, 0⟩ })) (1) = true) ∧
    ((fun (s : State) (ch : Ch) =>
      s.wfb && decide (s.get BOOT_STAT_STAGE < 4)
        && ran (.forwardFrameSend ch) s (fun t => decide (t = { s with resp := t.resp })))
      (w0) (1) = true) ∧
    ((fun (s : State) (ch : Ch) (f : FwdFrame) =>
      s.wfb && decide (s.chUp ch = true) && decide ((s.wlOf ch).frame = some f) && decide (f.spinRun = true)
        && ran (.forwardFrameReceive ch 0) s (fun t => decide ((t.demodOf ch).pred = f.mark * 625 / 4) && decide ((t.demodOf ch).predWedge = f.wedge) && decide ((t.demodOf ch).fwdBad = 0) && decide ((t.loopOf ch).fwd = some f)))
      (w0.modWl 2 (fun w => { w with frame := some ⟨500, 6, true, false, true, 0, 0, 0, 0⟩ })) (2) (⟨500, 6, true, false, true, 0, 0, 0, 0⟩) = true) ∧
    ((fun (s : State) (ch : Ch) (errs : BitVec 96) =>
      s.wfb && decide (s.chUp ch = true) && decide ((s.wlOf ch).frame.all (fun f => !fwdGood ((BitVec.ofNat 96 f.bits ^^^ errs).toNat)) = true)
        && ran (.forwardFrameReceive ch errs) s (fun t => decide ((t.demodOf ch).fwdBad = (s.demodOf ch).fwdBad + 1) && decide ((t.demodOf ch).pred = s.extrapolated ch ((s.demodOf ch).since + 1)) && decide ((t.demodOf ch).predWedge = ((s.demodOf ch).wedge + 1) % s.wedgesPerRev) && decide (t.flag (WLR_STAT_FWD_CRC ch) = true)))
      (w0.modWl 3 (fun w => { w with frame := some ⟨500, 6, true, false, true, 0, 0, 0, 0⟩ })) (3) (0x40#96) = true) ∧
    ((fun (s : State) (ch : Ch) =>
      s.wfb && decide (s.chUp ch = true) && decide (16 ≤ (s.demodOf ch).fwdBad)
        && ran (.wedgeLineFail ch) s (fun t => decide (t.flag (WLR_STAT_LINE_FAIL ch) = true)))
      (w0.modDemod 0 (fun d => { d with fwdBad := 16 })) (0) = true) ∧
    ((fun (s : State) (ch : Ch) =>
      s.wfb && decide (s.chUp ch = true) && decide (16 ≤ (s.demodOf ch).fwdBad)
        && ran (.forwardStrandRestart ch) s (fun t => decide ((t.wlOf ch).frame = none) && decide ((t.wlOf ch).lastMark = (s.wlOf ch).lastMark) && decide (t.bank = s.bank)))
      (w0.modDemod 0 (fun d => { d with fwdBad := 16 })) (0) = true) ∧
    ((fun (s : State) (ch : Ch) (errs : BitVec 32) (r : RetFrame) =>
      s.wfb && decide (s.chUp ch = true) && decide ((s.demodOf ch).ret = some r) && decide (retGood ((BitVec.ofNat 32 r.bits ^^^ errs).toNat) = false)
        && ran (.returnFrameReceive ch (some errs)) s (fun t => decide (t.flag (WL_STAT_RET_CRC ch) = true) && decide ((t.wlOf ch).bad = (s.wlOf ch).bad + 1) && decide ((t.wlOf ch).noFound = (s.wlOf ch).noFound + 1) && decide ((t.wlOf ch).run = 0)))
      (w0.modDemod 0 (fun d => { d with ret := some ⟨0, 3, true, false, false⟩ })) (0) (1#32) (⟨0, 3, true, false, false⟩) = true) ∧
    ((fun (s : State) (ch : Ch) =>
      s.wfb && decide (s.chUp ch = true)
        && ran (.returnFrameReceive ch none) s (fun t => decide ((t.wlOf ch).bad = (s.wlOf ch).bad + 1) && decide ((t.wlOf ch).noFound = (s.wlOf ch).noFound + 1) && decide ((t.wlOf ch).run = 0)))
      (w0) (0) = true) :=
  ⟨by decide +kernel, by decide +kernel, by decide +kernel, by decide +kernel, by decide +kernel, by decide +kernel, by decide +kernel, by decide +kernel⟩

theorem test_Wedge_lines_carry_frames_and_lock_2 :
    ((fun (s : State) (ch : Ch) (r : RetFrame) =>
      s.wfb && decide (s.chUp ch = true) && decide ((s.demodOf ch).ret = some r) && decide (r.headSw = false) && decide (r.found = true) && decide (((r.stamp : Int) - (s.wlOf ch).predicted).natAbs ≤ 256)
        && ran (.returnFrameReceive ch (some 0)) s (fun t => decide ((t.wlOf ch).run = (s.wlOf ch).run + 1) && decide ((t.wlOf ch).bad = 0) && decide ((t.wlOf ch).noFound = 0) && decide ((t.wlOf ch).detected = some r.stamp)))
      (w0.modDemod 1 (fun d => { d with ret := some ⟨0, 0, true, false, false⟩ })) (1) (⟨0, 0, true, false, false⟩) = true) ∧
    ((fun (s : State) (ch : Ch) (r : RetFrame) =>
      s.wfb && decide (s.chUp ch = true) && decide ((s.demodOf ch).ret = some r) && decide (r.headSw = false) && decide (r.found = true) && decide (256 < ((r.stamp : Int) - (s.wlOf ch).predicted).natAbs)
        && ran (.returnFrameReceive ch (some 0)) s (fun t => decide ((t.wlOf ch).run = 0) && decide (t.flag (WL_STAT_LOCKED ch) = false)))
      (w0.modDemod 1 (fun d => { d with ret := some ⟨90000000, 0, true, false, false⟩ })) (1) (⟨90000000, 0, true, false, false⟩) = true) ∧
    ((fun (s : State) (ch : Ch) (r : RetFrame) =>
      s.wfb && decide (s.chUp ch = true) && decide ((s.demodOf ch).ret = some r) && decide (r.found = false)
        && ran (.returnFrameReceive ch (some 0)) s (fun t => decide ((t.wlOf ch).run = 0) && decide ((t.wlOf ch).bad = 0) && decide ((15 ≤ (s.wlOf ch).noFound → t.flag (WL_STAT_LOCKED ch) = false))))
      (w0.modDemod 1 (fun d => { d with ret := some ⟨0, 0, false, false, false⟩ })) (1) (⟨0, 0, false, false, false⟩) = true) ∧
    ((fun (s : State) (ch : Ch) =>
      s.wfb && decide (s.chUp ch = true) && decide (64 ≤ (s.wlOf ch).run)
        && ran (.wlLock ch) s (fun t => decide (t.flag (WL_STAT_LOCKED ch) = true)))
      (w0.modWl 1 (fun w => { w with run := 64 })) (1) = true) ∧
    ((fun (s : State) (ch : Ch) =>
      s.wfb && decide (s.chUp ch = true) && decide (16 ≤ (s.wlOf ch).bad)
        && ran (.wlRetFail ch) s (fun t => decide (t.flag (WL_STAT_RET_FAIL ch) = true)))
      (w0.modWl 3 (fun w => { w with bad := 16 })) (3) = true) :=
  ⟨by decide +kernel, by decide +kernel, by decide +kernel, by decide +kernel, by decide +kernel⟩

theorem test_Crystal_loss_compensation_and_operating_time :
    ((fun (s : State) =>
      s.wfb && decide (s.flag CLOCK_STAT_XTAL_LOST = false)
        && ran (.xtalLoss) s (fun t => decide (t.flag CLOCK_STAT_XTAL_LOST = true) && decide (t.flag CLOCK_STAT_BACKUP = true) && decide (t.fatal = s.fatal ++ [.crystal])))
      (w0) = true) ∧
    ((fun (s : State) =>
      s.wfb && decide (s.flag (THERM_T_BROKEN 5) = false) && decide ((sx 32 (s.num COMP_PPM)).natAbs ≤ 2147482000)
        && ran (.compUpdate) s (fun t => decide ((sx 32 (t.num COMP_PPM) - sx 32 (s.num COMP_PPM)).natAbs ≤ 655) && decide (t.flag CLOCK_STAT_COMP_HOLD = false)))
      (w0) = true) ∧
    ((fun (s : State) =>
      s.wfb && decide (s.flag (THERM_T_BROKEN 5) = true)
        && ran (.compUpdate) s (fun t => decide (t.num COMP_PPM = s.num COMP_PPM) && decide (t.flag CLOCK_STAT_COMP_HOLD = true)))
      (w0.put (THERM_T_BROKEN 5) 1) = true) ∧
    ((fun (s : State) =>
      s.wfb && decide (s.optime < 2 ^ 40)
        && ran (.optimeSave) s (fun t => decide (t.nvsNat 0x18008 5 = s.optime) && decide (t.bank = s.bank)))
      (w0.setNum OPTIME_LO 0x12345678) = true) :=
  ⟨by decide +kernel, by decide +kernel, by decide +kernel, by decide +kernel⟩

theorem test_Calibrations_fall_due_and_take_turns_1 :
    ((fun (s : State) (u : CalUnit) =>
      s.wfb && decide (s.dieOn (calDie u) = true) && decide (calDueNow u s = true)
        && ran (.calDue u) s (fun t => decide (t.flag (CAL_STAT_DUE (calBase u)) = true) && decide (t.waiting.any (fun w => decide (w.unit = u.val)) = true ∨ s.flag (CAL_STAT_BUSY (calBase u)) = true)))
      ((w0.put (CAL_CTL_INTERVAL (calBase 7)) 1).setNum OPTIME_LO 480) (7) = true) ∧
    ((fun (s : State) (u : CalUnit) =>
      s.wfb && decide (s.dieOn (calDie u) = true) && decide (calHoldoffOver u s = true)
        && ran (.calStart u) s (fun t => decide (t.flag (CAL_STAT_DUE (calBase u)) = true) && decide (t.resp = .done)))
      (w0) (17) = true) ∧
    ((fun (s : State) (u : CalUnit) =>
      s.wfb && decide (s.dieOn (calDie u) = true) && decide (calHoldoffOver u s = false)
        && ran (.calStart u) s (fun t => decide ((t.calOf u).startPend = true) && decide (t.waiting = s.waiting)))
      (w0.modCal 3 (fun c => { c with lastStart := some 0 })) (3) = true) ∧
    ((fun (s : State) (u : CalUnit) =>
      s.wfb && decide ((s.calOf u).startPend = true) && decide (calHoldoffOver u s = true)
        && ran (.calHoldoffEnd u) s (fun t => decide ((t.calOf u).startPend = false) && decide (t.flag (CAL_STAT_DUE (calBase u)) = true)))
      (w0.modCal 3 (fun c => { c with startPend := true })) (3) = true) ∧
    ((fun (s : State) (u : CalUnit) =>
      s.wfb && decide (s.flag (CAL_STAT_DUE (calBase u)) = true) && decide ((s.calOf u).dueAt + s.get (CAL_CTL_GRACE (calBase u)) * 480 ≤ s.optime)
        && ran (.calDeadline u) s (fun t => decide (t.flag (CAL_STAT_OVERDUE (calBase u)) = true) && decide (t.waiting.all (fun w => !decide (w.unit = u.val) || decide (w.row = 3)) = true)))
      ({ ((w0.put (CAL_STAT_DUE (calBase 0)) 1).put (CAL_CTL_GRACE (calBase 0)) 2).setNum OPTIME_LO 960 with waiting := [⟨0, 6⟩] }) (0) = true) ∧
    ((fun (s : State) (unit : SharedUnit) (folio : Bool) (u : CalUnit) (row : Nat) =>
      s.wfb && decide (s.waiting = [⟨u, row⟩]) && decide (calKey u = sharedKey unit) && decide (row < 9) && decide (mayRun s ⟨u, row⟩ = true) && decide (look (sharedKey unit) s.holders = none) && decide (s.foreRuns (sharedKey unit) = false)
        && ran (.sharedUnitGrant unit [] folio) s (fun t => decide (t.waiting = []) && decide ((row ≠ 3 ∨ isTdc u = true → t.flag (CAL_STAT_BUSY (calBase u)) = true)) && decide ((row = 3 ∧ isTdc u = false → (t.calOf u).granted = true)) && decide ((isTdc u = false → look (sharedKey unit) t.holders = some row))))
      ({ w0 with waiting := [⟨11, 6⟩] }) (.path 1) (false) (11) (6) = true) ∧
    ((fun (s : State) (unit : SharedUnit) (folio : Bool) =>
      s.wfb && decide (s.waiting = []) && decide (look (sharedKey unit) s.holders = none) && decide (s.foreRuns (sharedKey unit) = true)
        && ran (.sharedUnitGrant unit [] folio) s (fun t => decide (look (sharedKey unit) t.holders = some 2)))
      (w0.put (FLY_STAT_BUSY 1) 1) (.actuator 1) (false) = true) ∧
    ((fun (s : State) (u : CalUnit) (m : List Int) =>
      s.wfb && decide (s.flag (CAL_STAT_BUSY (calBase u)) = false ∨ s.calCanRun u = false)
        && ran (.calRunComplete u m) s (fun t => decide (t = { s with resp := t.resp })))
      (w0) (6) ([]) = true) :=
  ⟨by decide +kernel, by decide +kernel, by decide +kernel, by decide +kernel, by decide +kernel, by decide +kernel, by decide +kernel, by decide +kernel⟩

theorem test_Calibrations_fall_due_and_take_turns_2 :
    ((fun (s : State) (u : CalUnit) (m : List Int) =>
      s.wfb && decide (s.flag (CAL_STAT_BUSY (calBase u)) = true) && decide (s.calCanRun u = true) && decide ((s.calOf u).runs = [])
        && ran (.calRunComplete u m) s (fun t => decide (t.flag (CAL_STAT_BUSY (calBase u)) = false) && decide ((t.calOf u).runs = [m]) && decide ((t.calOf u).selection = (s.calOf u).selection)))
      (w0.put (CAL_STAT_BUSY (calBase 0)) 1) (0) ([1, 2]) = true) ∧
    ((fun (s : State) (u : CalUnit) (m : List Int) (r : List Int) =>
      s.wfb && decide (s.flag (CAL_STAT_BUSY (calBase u)) = true) && decide (s.calCanRun u = true) && decide ((s.calOf u).runs = [r]) && decide (agrees u (s.get (CAL_TOL_TOL (calBase u))) r m = true)
        && ran (.calRunComplete u m) s (fun t => decide ((u.val < 6 → (t.calOf u).selection = selBits (calSelect u m))) && decide ((6 ≤ u.val → ((t.calOf u).next.map (fun p => p.1)) = some (selBits (calSelect u m)))) && decide (t.nvsNat (calNvs u) 0x50 = selBits (calSelect u m) % 2 ^ 640) && decide ((t.calOf u).runs = []) && decide (t.flag (CAL_STAT_ADOPTED (calBase u)) = true) && decide (t.get (CAL_STAT_RUNS (calBase u)) = 2) && decide (t.flag (CAL_STAT_DUE (calBase u)) = false)))
      ((w0.put (CAL_STAT_BUSY (calBase 0)) 1).modCal 0 (fun c => { c with runs := [[1, 2]] })) (0) ([1, 2]) ([1, 2]) = true) ∧
    ((fun (s : State) (u : CalUnit) (m : List Int) (r : List Int) =>
      s.wfb && decide (s.flag (CAL_STAT_BUSY (calBase u)) = true) && decide (s.calCanRun u = true) && decide ((s.calOf u).runs = [r]) && decide (agrees u (s.get (CAL_TOL_TOL (calBase u))) r m = false)
        && ran (.calRunComplete u m) s (fun t => decide ((t.calOf u).runs = [r, m]) && decide ((t.calOf u).selection = (s.calOf u).selection) && decide (t.flag (CAL_STAT_BUSY (calBase u)) = false)))
      ((w0.put (CAL_STAT_BUSY (calBase 0)) 1).modCal 0 (fun c => { c with runs := [List.replicate 32 90] })) (0) ([]) (List.replicate 32 90) = true) ∧
    ((fun (s : State) (u : CalUnit) (m : List Int) (q : List Int) (r : List Int) =>
      s.wfb && decide (s.flag (CAL_STAT_BUSY (calBase u)) = true) && decide (s.calCanRun u = true) && decide ((s.calOf u).runs = [q, r]) && decide (agrees u (s.get (CAL_TOL_TOL (calBase u))) q m = true ∨ agrees u (s.get (CAL_TOL_TOL (calBase u))) r m = true)
        && ran (.calRunComplete u m) s (fun t => decide ((u.val < 6 → (t.calOf u).selection = selBits (calSelect u m))) && decide ((6 ≤ u.val → ((t.calOf u).next.map (fun p => p.1)) = some (selBits (calSelect u m)))) && decide (t.flag (CAL_STAT_ADOPTED (calBase u)) = true) && decide (t.get (CAL_STAT_RUNS (calBase u)) = 3)))
      ((w0.put (CAL_STAT_BUSY (calBase 0)) 1).modCal 0 (fun c => { c with runs := [List.replicate 32 90, []] })) (0) ([]) (List.replicate 32 90) ([]) = true) ∧
    ((fun (s : State) (u : CalUnit) (m : List Int) (q : List Int) (r : List Int) =>
      s.wfb && decide (s.flag (CAL_STAT_BUSY (calBase u)) = true) && decide (s.calCanRun u = true) && decide ((s.calOf u).runs = [q, r]) && decide (agrees u (s.get (CAL_TOL_TOL (calBase u))) q m = false) && decide (agrees u (s.get (CAL_TOL_TOL (calBase u))) r m = false)
        && ran (.calRunComplete u m) s (fun t => decide (t.flag (CAL_STAT_DISAGREE (calBase u)) = true) && decide (t.flag (CAL_STAT_ADOPTED (calBase u)) = false) && decide (t.get (CAL_STAT_RUNS (calBase u)) = 3) && decide ((t.calOf u).selection = (s.calOf u).selection) && decide ((t.calOf u).next = (s.calOf u).next) && decide ((t.calOf u).runs = [])))
      ((w0.put (CAL_STAT_BUSY (calBase 0)) 1).modCal 0 (fun c => { c with runs := [List.replicate 32 90, List.replicate 32 50] })) (0) ([]) (List.replicate 32 90) (List.replicate 32 50) = true) :=
  ⟨by decide +kernel, by decide +kernel, by decide +kernel, by decide +kernel, by decide +kernel⟩

theorem test_Servo_marks_place_the_tick_1 :
    ((fun (s : State) (ch : Ch) =>
      s.wfb && decide (s.chUp ch = true)
        && ran (.servoGateOpen ch) s (fun t => decide ((t.demodOf ch).gate = true) && decide ((t.demodOf ch).taken = false) && decide (t.flag (WR_STAT_GATE ch) = false)))
      (w0.put (WR_STAT_GATE 1) 1) (1) = true) ∧
    ((fun (s : State) (ch : Ch) (marks : List MarkSig) (m : MarkSig) =>
      s.wfb && decide (s.chUp ch = true) && decide (s.flag (DEMOD_CTL_EN ch) = true) && decide (s.flag (DEMOD_STAT_SEARCH ch) = false) && decide (marks[s.servoReader ch]? = some m) && decide ((s.demodOf ch).taken = false) && decide (s.inGate ch m.tick = true) && decide (s.samThr ch ≤ samMatch (s.get (SAM_CFG_PATTERN ch)) m.sam) && decide (((m.tick : Int) - (s.demodOf ch).pred).natAbs ≤ s.samWin ch) && decide (oddParity (dibits m.wnum) = false ∨ bitsOf (dibits m.wnum) 11 2 = (s.demodOf ch).predWedge)
        && ran (.samAccept ch marks) s (fun t => decide ((t.demodOf ch).found = true) && decide ((t.demodOf ch).taken = true) && decide ((t.demodOf ch).tick = m.tick) && decide ((t.demodOf ch).wedge = (s.demodOf ch).predWedge) && decide ((t.demodOf ch).last = some (m.tick, (s.demodOf ch).predWedge)) && decide ((t.demodOf ch).wedges = (s.demodOf ch).wedges + 1) && decide ((t.demodOf ch).ret.map (fun r => (r.tick, r.wedge, r.found)) = some (m.tick, (s.demodOf ch).predWedge, true))))
      ((w0.put (DEMOD_CTL_EN 1) 1).modDemod 1 (fun d => { d with gate := true })) (1) (markWit w0 1 5 2) (⟨BitVec.ofNat 16 (w0.get (SAM_CFG_PATTERN 1)), 5, 100, bitSums 12 2⟩) = true) ∧
    ((fun (s : State) (ch : Ch) (marks : List MarkSig) (m : MarkSig) =>
      s.wfb && decide (s.chUp ch = true) && decide (s.flag (DEMOD_CTL_EN ch) = true) && decide (s.flag (DEMOD_STAT_SEARCH ch) = false) && decide (marks[s.servoReader ch]? = some m) && decide ((s.demodOf ch).taken = false) && decide (s.inGate ch m.tick = true) && decide (s.samThr ch ≤ samMatch (s.get (SAM_CFG_PATTERN ch)) m.sam) && decide (s.samWin ch < ((m.tick : Int) - (s.demodOf ch).pred).natAbs ∨ (oddParity (dibits m.wnum) = true ∧ bitsOf (dibits m.wnum) 11 2 ≠ (s.demodOf ch).predWedge))
        && ran (.samAccept ch marks) s (fun t => decide (t.demodOf ch = { s.demodOf ch with taken := decide (((m.tick : Int) - (s.demodOf ch).pred).natAbs ≤ s.samWin ch) }) && decide (t.num (DEMOD_CNT ch 1) = min (s.num (DEMOD_CNT ch 1) + 1) 0xFFFFFFFF)))
      ((w0.put (DEMOD_CTL_EN 1) 1).modDemod 1 (fun d => { d with gate := true })) (1) (markWit w0 1 5 16) (⟨BitVec.ofNat 16 (w0.get (SAM_CFG_PATTERN 1)), 5, 100, bitSums 12 16⟩) = true) ∧
    ((fun (s : State) (ch : Ch) (marks : List MarkSig) (m : MarkSig) =>
      s.wfb && decide (marks[s.servoReader ch]? = some m) && decide (s.flag (DEMOD_CTL_EN ch) = false ∨ (s.demodOf ch).taken = true ∨ s.inGate ch m.tick = false ∨ samMatch (s.get (SAM_CFG_PATTERN ch)) m.sam < s.samThr ch)
        && ran (.samAccept ch marks) s (fun t => decide (t = { s with resp := t.resp })))
      (w0) (1) (markWit w0 1 5 2) (⟨BitVec.ofNat 16 (w0.get (SAM_CFG_PATTERN 1)), 5, 100, bitSums 12 2⟩) = true) ∧
    ((fun (s : State) (ch : Ch) (marks : List MarkSig) (m : MarkSig) =>
      s.wfb && decide (s.chUp ch = true) && decide (s.flag (DEMOD_CTL_EN ch) = true) && decide (s.flag (DEMOD_STAT_SEARCH ch) = true) && decide (marks[s.servoReader ch]? = some m) && decide ((s.demodOf ch).taken = false) && decide ((s.demodOf ch).gate = true) && decide (s.samThr ch ≤ samMatch (s.get (SAM_CFG_PATTERN ch)) m.sam) && decide (oddParity (dibits m.wnum) = true)
        && ran (.samAccept ch marks) s (fun t => decide ((t.demodOf ch).tick = m.tick) && decide ((t.demodOf ch).wedge = bitsOf (dibits m.wnum) 11 2) && decide ((t.demodOf ch).found = true) && decide ((t.demodOf ch).taken = true)))
      (((w0.put (DEMOD_CTL_EN 1) 1).put (DEMOD_STAT_SEARCH 1) 1).modDemod 1 (fun d => { d with gate := true })) (1) (markWit w0 1 5 16) (⟨BitVec.ofNat 16 (w0.get (SAM_CFG_PATTERN 1)), 5, 100, bitSums 12 16⟩) = true) ∧
    ((fun (s : State) (ch : Ch) =>
      s.wfb && decide (s.chUp ch = true) && decide (s.flag (DEMOD_CTL_EN ch) = true)
        && ran (.wedgeLoss ch) s (fun t => decide ((t.demodOf ch).found = false) && decide ((t.demodOf ch).tick = (s.demodOf ch).pred) && decide ((t.demodOf ch).wedge = (s.demodOf ch).predWedge) && decide ((t.demodOf ch).since = (s.demodOf ch).since + 1) && decide (t.num (DEMOD_CNT ch 0) = min (s.num (DEMOD_CNT ch 0) + 1) 0xFFFFFFFF) && decide ((t.demodOf ch).ret.map (fun r => (r.tick, r.wedge, r.found)) = some ((s.demodOf ch).pred, (s.demodOf ch).predWedge, false))))
      ((w0.put (DEMOD_CTL_EN 1) 1).modDemod 1 (fun d => { d with pred := 9, predWedge := 3 })) (1) = true) ∧
    ((fun (s : State) (ch : Ch) =>
      s.wfb && decide (s.chUp ch = true) && decide (s.flag (DEMOD_CTL_EN ch) = true) && decide (s.flag (DEMOD_STAT_LOSS ch) = false) && decide (max 1 (s.get (DEMOD_XCTL_LOSS_LIM ch)) ≤ s.get (DEMOD_STAT_MISS_RUN ch))
        && ran (.demodLoss ch) s (fun t => decide (t.flag (DEMOD_STAT_LOSS ch) = true) && decide (t.flag (DEMOD_STAT_SEARCH ch) = true) && decide (t.flag (WR_STAT_GATE ch) = false)))
      ((w0.put (DEMOD_CTL_EN 1) 1).put (DEMOD_STAT_MISS_RUN 1) 255) (1) = true) ∧
    ((fun (s : State) (ch : Ch) =>
      s.wfb && decide (s.dieOn (ch + 1) = true)
        && ran (.demodSearch ch) s (fun t => decide ((t.demodOf ch).srch = true) && decide (t.resp = .done)))
      (w0) (3) = true) :=
  ⟨by decide +kernel, by decide +kernel, by decide +kernel, by decide +kernel, by decide +kernel, by decide +kernel, by decide +kernel, by decide +kernel⟩

theorem test_Servo_marks_place_the_tick_2 :
    (fun (s : State) (ch : Ch) =>
      s.wfb && decide (s.chUp ch = true) && decide (s.flag (DEMOD_STAT_SEARCH ch) = true) && decide (8 ≤ (s.demodOf ch).run)
        && ran (.searchExit ch) s (fun t => decide (t.flag (DEMOD_STAT_SEARCH ch) = false)))
      ((w0.put (DEMOD_STAT_SEARCH 1) 1).modDemod 1 (fun d => { d with run := 8 })) (1) = true := by decide +kernel

theorem test_Position_results_are_published_and_read_together_1 :
    ((fun (s : State) (ch : Ch) (v : Word) =>
      s.wfb && decide (s.dieOn (ch + 1) = true)
        && ran (.demodCtlWrite ch v) s (fun t => decide ((t.demodOf ch).due = (s.demodOf ch).due ++ [(DEMOD_CTL ch, v), (SAM_CFG ch, resetOf (SAM_CFG ch)), (ID_CFG ch, resetOf (ID_CFG ch)), (CHEV_CFG ch, resetOf (CHEV_CFG ch)), (DEMOD_XCTL ch, resetOf (DEMOD_XCTL ch)), (TDC_TC ch, resetOf (TDC_TC ch))]) && decide (t.bank = s.bank)))
      (w0) (0) (3#32) = true) ∧
    ((fun (s : State) (ch : Ch) =>
      s.wfb && decide (s.dieOn (ch + 1) = true)
        && ran (.demodStatRead ch) s (fun t => decide (t.resp = .data (s.readView (DEMOD_STAT ch)).toNat) && decide (t.readView (POS_LO ch) = s.rd (POS_LO ch)) && decide (t.readView (POS_HI ch) = s.rd (POS_HI ch)) && decide (t.readView (PES ch) = s.rd (PES ch)) && decide (t.readView (DEMOD_TARGET_LO ch) = s.rd (DEMOD_TARGET_LO ch)) && decide (t.readView (DEMOD_TARGET_HI ch) = s.rd (DEMOD_TARGET_HI ch)) && decide (t.readView (RRO ch) = s.rd (RRO ch)) && decide (t.bank = s.bank)))
      (w0.setNum (PES 2) 7) (2) = true) ∧
    ((fun (s : State) (ch : Ch) (signals : List ServoSig) (telem : Bool) =>
      s.wfb && decide (s.chUp ch = true) && decide (s.flag (DEMOD_CTL_EN ch) = true) && decide (s.flag (TDC_STAT_LOCK ch) = false)
        && ran (.pesReady ch signals telem) s (fun t => decide ((t.demodOf ch).posValid = false) && decide ((t.demodOf ch).pesValid = false) && decide ((s.flag (DEMOD_STAT_SEARCH ch) = false → (t.demodOf ch).gate = false))))
      ((w0.put (DEMOD_CTL_EN 2) 1).put (TDC_STAT_LOCK 2) 0) (2) ([]) (false) = true) ∧
    ((fun (s : State) (ch : Ch) (signals : List ServoSig) (telem : Bool) (g : ServoSig) (nref : Int) =>
      s.wfb && decide (s.chUp ch = true) && decide (s.flag (DEMOD_CTL_EN ch) = true) && decide (s.flag (TDC_STAT_LOCK ch) = true) && decide (signals[s.servoReader ch]? = some g) && decide (chevOk (g.pairs.map (pairTime (s.demodOf ch).cells)) (s.servoBit ch) (clampI 2 16 (s.get (CHEV_CFG_WINDOW ch))).toNat (s.get (CHEV_CFG_SP_TOL ch)) = true) && decide (chevAmp g.amp (s.get (CHEV_CFG_AMIN ch)) g.pairs = true) && decide (refTrack (s.demodOf ch) (if (s.demodOf ch).found then trackId g.amp g.gray (s.get (ID_CFG_MARGIN ch)) else none) = some nref) && decide (absQ (chevU (chevA (g.pairs.map (pairTime (s.demodOf ch).cells))) (chevB (g.pairs.map (pairTime (s.demodOf ch).cells)))) ≤ mkRat 7 4) && decide (absQ (nearestX (chevU (chevA (g.pairs.map (pairTime (s.demodOf ch).cells))) (chevB (g.pairs.map (pairTime (s.demodOf ch).cells)))) nref - mkRat nref 1) ≤ 1)
        && ran (.pesReady ch signals telem) s (fun t => decide ((t.demodOf ch).posValid = true) && decide ((t.demodOf ch).pos = rnd (nearestX (chevU (chevA (g.pairs.map (pairTime (s.demodOf ch).cells))) (chevB (g.pairs.map (pairTime (s.demodOf ch).cells)))) nref * 0x100000000)) && decide ((t.demodOf ch).pos1 = some ⟨(t.demodOf ch).pos, (s.demodOf ch).wedges⟩) && decide ((t.demodOf ch).pos0 = (s.demodOf ch).pos1) && decide ((t.demodOf ch).taken = false)))
      (((w0.put (DEMOD_CTL_EN 2) 1).put (TDC_STAT_LOCK 2) 1).modDemod 2 (fun d => { d with found := true, period := some 37040000 })) (2) (servoWit) (false) (⟨100, bitSums 24 1, pairWit, bitSums 12 0⟩) (1) = true) ∧
    ((fun (s : State) (ch : Ch) (signals : List ServoSig) (telem : Bool) =>
      s.wfb && decide (s.chUp ch = true) && decide (s.flag (DEMOD_CTL_EN ch) = false)
        && ran (.pesReady ch signals telem) s (fun t => decide (t.bank = s.bank) && decide ((t.demodOf ch).taken = false)))
      (w0) (2) ([]) (false) = true) ∧
    ((fun (s : State) (ch : Ch) =>
      s.wfb && decide (s.chUp ch = true) && decide (s.diodeBroken (ch + 1) = false)
        && ran (.tdcTcUpdate ch) s (fun t => decide ((t.demodOf ch).corr = sx 16 (s.num (TDC_TC ch)) * (s.dieTemp (ch + 1) - (s.demodOf ch).calTemp)) && decide (((s.demodOf ch).corr = 0 → (t.demodOf ch).corr = 0 → t.get (TDC_STAT_CTRL ch) = s.get (TDC_STAT_CTRL ch)))))
      (w0) (2) = true) ∧
    ((fun (s : State) (ch : Ch) =>
      s.wfb && decide (s.diodeBroken (ch + 1) = true)
        && ran (.tdcTcUpdate ch) s (fun t => decide (t = { s with resp := t.resp })))
      (w0.put (THERM_T_BROKEN 3) 1) (2) = true) ∧
    ((fun (s : State) (ch : Ch) =>
      s.wfb && decide (s.chUp ch = true)
        && ran (.tdcUnlock ch) s (fun t => decide (t.flag (TDC_STAT_LOCK ch) = false) && decide (bitOf (t.num (TDC_STAT ch)) 30 = true) && decide (t.flag (DEMOD_STAT_POS_VALID ch) = false) && decide (t.flag (DEMOD_STAT_PES_VALID ch) = false) && decide (t.flag (WR_STAT_GATE ch) = false)))
      (w0) (2) = true) :=
  ⟨by decide +kernel, by decide +kernel, by decide +kernel, by decide +kernel, by decide +kernel, by decide +kernel, by decide +kernel, by decide +kernel⟩

theorem test_Position_results_are_published_and_read_together_2 :
    ((fun (s : State) (ch : Ch) =>
      s.wfb && decide (s.chUp ch = true)
        && ran (.tdcRelock ch) s (fun t => decide (t.flag (TDC_STAT_LOCK ch) = true)))
      (w0.put (TDC_STAT_LOCK 2) 0) (2) = true) ∧
    ((fun (s : State) (ch : Ch) (v : Word) (j : Fin 7) =>
      s.wfb && decide (s.dieOn (ch + 1) = true) && decide (v.getLsbD j = true)
        && ran (.demodCntClr ch v) s (fun t => decide (t.num (DEMOD_CNT ch j) = 0) && decide (t.num (DEMOD_CNT_SAT ch) = s.num (DEMOD_CNT_SAT ch))))
      (w0.setNum (DEMOD_CNT 2 6) 9) (2) (0x40#32) (6) = true) :=
  ⟨by decide +kernel, by decide +kernel⟩

theorem test_LOOP_commands_wait_for_the_tick :
    ((fun (s : State) (ch : Ch) =>
      s.wfb && decide (s.dieOn (ch + 1) = true)
        && ran (.loopGo ch) s (fun t => decide (t.mode ch = s.mode ch) && decide (((s.loopOf ch).restarting = false → t.resp = .done ∧ (t.loopOf ch).cmd = some (1, false))) && decide (((s.loopOf ch).restarting = false → (s.loopOf ch).cmd.isSome = true → t.flag (LOOP_STAT_CMD_LOST ch) = true)) && decide (((s.loopOf ch).restarting = true → t.resp = .waits ∧ (t.loopOf ch).waiting = (s.loopOf ch).waiting ++ [(LOOP_CMD ch, some (1))]))))
      (w0.modLoop 1 (fun l => { l with cmd := some (5, false) })) (1) = true) ∧
    ((fun (s : State) (ch : Ch) (keep : Bool) =>
      s.wfb && decide (s.dieOn (ch + 1) = true)
        && ran (.loopManual ch keep) s (fun t => decide (t.mode ch = s.mode ch) && decide (((s.loopOf ch).restarting = false → t.resp = .done ∧ (t.loopOf ch).cmd = some (2, keep))) && decide (((s.loopOf ch).restarting = false → (s.loopOf ch).cmd.isSome = true → t.flag (LOOP_STAT_CMD_LOST ch) = true)) && decide (((s.loopOf ch).restarting = true → t.resp = .waits ∧ (t.loopOf ch).waiting = (s.loopOf ch).waiting ++ [(LOOP_CMD ch, some (2 + 256 * ofBool keep))]))))
      (w0) (1) (true) = true) ∧
    ((fun (s : State) (ch : Ch) =>
      s.wfb && decide (s.dieOn (ch + 1) = true)
        && ran (.loopAuto ch) s (fun t => decide (t.mode ch = s.mode ch) && decide (((s.loopOf ch).restarting = false → t.resp = .done ∧ (t.loopOf ch).cmd = some (3, false))) && decide (((s.loopOf ch).restarting = false → (s.loopOf ch).cmd.isSome = true → t.flag (LOOP_STAT_CMD_LOST ch) = true)) && decide (((s.loopOf ch).restarting = true → t.resp = .waits ∧ (t.loopOf ch).waiting = (s.loopOf ch).waiting ++ [(LOOP_CMD ch, some (3))]))))
      (w0) (0) = true) ∧
    ((fun (s : State) (ch : Ch) =>
      s.wfb && decide (s.dieOn (ch + 1) = true)
        && ran (.loadHeads ch) s (fun t => decide (t.mode ch = s.mode ch) && decide (((s.loopOf ch).restarting = false → t.resp = .done ∧ (t.loopOf ch).cmd = some (4, false))) && decide (((s.loopOf ch).restarting = false → (s.loopOf ch).cmd.isSome = true → t.flag (LOOP_STAT_CMD_LOST ch) = true)) && decide (((s.loopOf ch).restarting = true → t.resp = .waits ∧ (t.loopOf ch).waiting = (s.loopOf ch).waiting ++ [(LOOP_CMD ch, some (4))]))))
      (w0) (2) = true) ∧
    ((fun (s : State) (ch : Ch) =>
      s.wfb && decide (s.dieOn (ch + 1) = true)
        && ran (.unloadHeads ch) s (fun t => decide (t.mode ch = s.mode ch) && decide (((s.loopOf ch).restarting = false → t.resp = .done ∧ (t.loopOf ch).cmd = some (5, false))) && decide (((s.loopOf ch).restarting = false → (s.loopOf ch).cmd.isSome = true → t.flag (LOOP_STAT_CMD_LOST ch) = true)) && decide (((s.loopOf ch).restarting = true → t.resp = .waits ∧ (t.loopOf ch).waiting = (s.loopOf ch).waiting ++ [(LOOP_CMD ch, some (5))]))))
      (w0) (3) = true) ∧
    ((fun (s : State) (ch : Ch) =>
      s.wfb && decide (s.dieOn (ch + 1) = true)
        && ran (.loopRearm ch) s (fun t => decide (t.mode ch = s.mode ch) && decide (((s.loopOf ch).restarting = false → t.resp = .done ∧ (t.loopOf ch).cmd = some (6, false))) && decide (((s.loopOf ch).restarting = false → (s.loopOf ch).cmd.isSome = true → t.flag (LOOP_STAT_CMD_LOST ch) = true)) && decide (((s.loopOf ch).restarting = true → t.resp = .waits ∧ (t.loopOf ch).waiting = (s.loopOf ch).waiting ++ [(LOOP_CMD ch, some (6))]))))
      (w0) (3) = true) :=
  ⟨by decide +kernel, by decide +kernel, by decide +kernel, by decide +kernel, by decide +kernel, by decide +kernel⟩

theorem test_LOOP_changes_mode_by_its_supervision_1 :
    ((fun (s : State) (ch : Ch) =>
      s.wfb && decide (s.chUp ch = true) && decide (s.mode ch = mSeek ∨ s.mode ch = mSettle) && decide (max 1 (s.get (FE_CFG_TIME ch)) ≤ s.get (LOOP_STAT_FE_CNT ch)) && decide ((s.loopOf ch).feTrips = 0)
        && ran (.feTrip ch) s (fun t => decide (t.mode ch = mSeek) && decide ((t.loopOf ch).feTrips = 1) && decide (t.get (LOOP_STAT_FE_CNT ch) = 0) && decide (bitOf (t.num (LOOP_FAULT ch)) 6 = true)))
      ((w0.setMode 1 mSettle).put (LOOP_STAT_FE_CNT 1) 255) (1) = true) ∧
    ((fun (s : State) (ch : Ch) =>
      s.wfb && decide (s.chUp ch = true) && decide (s.mode ch = mSeek ∨ s.mode ch = mSettle) && decide (max 1 (s.get (FE_CFG_TIME ch)) ≤ s.get (LOOP_STAT_FE_CNT ch)) && decide ((s.loopOf ch).feTrips ≠ 0)
        && ran (.feTrip ch) s (fun t => decide (t.mode ch = mLost) && decide (bitOf (t.num (LOOP_FAULT ch)) 7 = true)))
      (((w0.setMode 1 mSeek).put (LOOP_STAT_FE_CNT 1) 255).modLoop 1 (fun l => { l with feTrips := 1 })) (1) = true) ∧
    ((fun (s : State) (ch : Ch) =>
      s.wfb && decide (s.chUp ch = true) && decide (s.mode ch = mSettle ∨ s.mode ch = mFollow) && decide (max 1 (s.get (LOSS_CFG_COAST ch)) ≤ (s.loopOf ch).coast ∨ s.flag (DEMOD_STAT_LOSS ch) = true)
        && ran (.lostEntry ch) s (fun t => decide (t.mode ch = mLost) && decide ((t.loopOf ch).lostRun = 0) && decide ((t.loopOf ch).coast = 0) && decide (bitOf (t.num (LOOP_FAULT ch)) 7 = true)))
      ((w0.setMode 1 mFollow).put (DEMOD_STAT_LOSS 1) 1) (1) = true) ∧
    ((fun (s : State) (ch : Ch) =>
      s.wfb && decide (s.chUp ch = true) && decide (s.mode ch = mLost) && decide (8 ≤ (s.loopOf ch).validRun)
        && ran (.positionRecovered ch) s (fun t => decide (t.mode ch = mFollow) && decide ((t.loopOf ch).coast = 0)))
      ((w0.setMode 1 mLost).modLoop 1 (fun l => { l with validRun := 8 })) (1) = true) ∧
    ((fun (s : State) (ch : Ch) =>
      s.wfb && decide (s.chUp ch = true) && decide (s.mode ch = mLost) && decide (s.get (LOSS_CFG_RETRACT ch) ≤ (s.loopOf ch).lostRun)
        && ran (.lostRetract ch) s (fun t => decide (t.mode ch = mUnloading) && decide ((t.loopOf ch).velOut = true)))
      ((w0.setMode 1 mLost).modLoop 1 (fun l => { l with lostRun := 65536 })) (1) = true) ∧
    ((fun (s : State) (ch : Ch) =>
      s.wfb && decide (s.chUp ch = true) && decide (s.mode ch = mLoading) && decide (s.flag (DEMOD_STAT_SEARCH ch) = false) && decide (8 ≤ (s.loopOf ch).validRun)
        && ran (.loadComplete ch) s (fun t => decide (t.mode ch = (if ((s.loopOf ch).x - s.targetReg ch).natAbs ≤ 2 * 0x100000000 then mSettle else mSeek))))
      ((w0.setMode 1 mLoading).modLoop 1 (fun l => { l with validRun := 8 })) (1) = true) ∧
    ((fun (s : State) (ch : Ch) =>
      s.wfb && decide (s.chUp ch = true) && decide (s.mode ch = mLoading)
        && ran (.loadTimeout ch) s (fun t => decide (t.mode ch = mUnloading) && decide (bitOf (t.num (LOOP_FAULT ch)) 11 = true)))
      (w0.setMode 1 mLoading) (1) = true) ∧
    ((fun (s : State) (ch : Ch) =>
      s.wfb && decide (s.chUp ch = true) && decide (s.mode ch = mUnloading) && decide ((s.loopOf ch).velOut = true)
        && ran (.unloadComplete ch) s (fun t => decide (t.mode ch = mParked) && decide ((t.loopOf ch).velOut = false) && decide (t.get (CLV_STAT_SEQ ch) = (s.get (CLV_STAT_SEQ ch) + 1) % 16)))
      ((w0.setMode 1 mUnloading).modLoop 1 (fun l => { l with velOut := true })) (1) = true) :=
  ⟨by decide +kernel, by decide +kernel, by decide +kernel, by decide +kernel, by decide +kernel, by decide +kernel, by decide +kernel, by decide +kernel⟩

theorem test_LOOP_changes_mode_by_its_supervision_2 :
    (fun (s : State) (ch : Ch) =>
      s.wfb && decide (s.dieOn (ch + 1) = true)
        && ran (.clvRetract ch) s (fun t => decide (t.mode ch = mRetracted) && decide (t.clvDue ch = true)))
      (w0.setMode 1 mFollow) (1) = true := by decide +kernel

theorem test_The_lane_is_driven_every_wedge_1 :
    ((fun (s : State) (ch : Ch) =>
      s.wfb && decide (s.chUp ch = true) && decide (s.mode ch ≠ mParked) && decide (s.mode ch ≠ mRetracted) && decide (s.mode ch ≠ mHold) && decide ((s.loopOf ch).discard = false)
        && ran (.phi0Latch ch true) s (fun t => decide (t.num (LOOP_OUT ch) = toBits 16 (s.loopOf ch).newM * 0x10000 + toBits 16 (s.loopOf ch).newU) && decide ((t.loopOf ch).delta = (s.loopOf ch).newD) && decide ((t.loopOf ch).ovrRun = 0) && decide (t.get (CLV_STAT_SEQ ch) = (s.get (CLV_STAT_SEQ ch) + 1) % 16)))
      ((w0.setMode 1 mFollow).modLoop 1 (fun l => { l with newU := -5, newM := 7, newD := 3 })) (1) = true) ∧
    ((fun (s : State) (ch : Ch) (q : Fin 3) =>
      s.wfb && decide (s.chUp ch = true)
        && ran (.subSetpoint ch q) s (fun t => decide (t.get (CLV_STAT_SEQ ch) = (s.get (CLV_STAT_SEQ ch) + 1) % 16) && decide (t.num (LOOP_OUT ch) = s.num (LOOP_OUT ch))))
      (w0.setMode 1 mFollow) (1) (2) = true) ∧
    ((fun (s : State) (ch : Ch) =>
      s.wfb && decide (s.chUp ch = true) && decide (s.clvDue ch = false)
        && ran (.claspFrameRepeat ch) s (fun t => decide (t.get (CLV_STAT_SEQ ch) = (s.get (CLV_STAT_SEQ ch) + 1) % 16) && decide (t.get (CLV_STAT_CMD ch) = s.get (CLV_STAT_CMD ch)) && decide (t.num (CLV_OUT ch) = s.num (CLV_OUT ch))))
      ((w0.setNum (CLV_OUT 1) 0x8001FFFF).put (CLV_STAT_SEQ 1) 15) (1) = true) ∧
    ((fun (s : State) (ch : Ch) =>
      s.wfb && decide (s.chUp ch = true) && decide (s.mode ch ≠ mParked) && decide (s.mode ch ≠ mRetracted)
        && ran (.loopResidue ch false) s (fun t => decide (bitOf (t.num (LOOP_FAULT ch)) 4 = true) && decide (t.loop = s.loop)))
      (w0.setMode 1 mFollow) (1) = true) ∧
    ((fun (s : State) (ch : Ch) =>
      s.wfb && decide (s.chUp ch = true) && decide (s.mode ch ≠ mParked) && decide (s.mode ch ≠ mRetracted) && decide (s.mode ch ≠ mHold)
        && ran (.loopResidue ch true) s (fun t => decide (bitOf (t.num (LOOP_FAULT ch)) 5 = true) && decide ((t.loopOf ch).discard = !(s.loopOf ch).latched) && decide ((t.loopOf ch).handover = ((s.loopOf ch).handover || (s.loopOf ch).latched))))
      (w0.setMode 1 mFollow) (1) = true) ∧
    ((fun (s : State) (ch : Ch) =>
      s.wfb && decide (s.chUp ch = true) && decide ((s.loopOf ch).handover = true)
        && ran (.holdHandover ch) s (fun t => decide (t.mode ch = (if s.flag (HOLD_STAT_AVAIL ch) then mHold else mRetracted)) && decide ((t.loopOf ch).restarting = true) && decide (t.get (LOOP_STAT_RESTARTS ch) = 0)))
      ((w0.setMode 1 mFollow).modLoop 1 (fun l => { l with handover := true })) (1) = true) ∧
    ((fun (s : State) (ch : Ch) =>
      s.wfb && decide (s.chUp ch = true) && decide ((s.loopOf ch).restarting = true) && decide ((s.loopOf ch).waiting = [])
        && ran (.loopRestartDone ch true) s (fun t => decide ((t.loopOf ch).restarting = false) && decide ((t.loopOf ch).shadow = 0)))
      (w0.modLoop 1 (fun l => { l with restarting := true })) (1) = true) ∧
    ((fun (s : State) (ch : Ch) =>
      s.wfb && decide (s.chUp ch = true) && decide ((s.loopOf ch).restarting = true) && decide ((s.loopOf ch).waiting = [(LOOP_CMD ch, some 1)]) && decide (s.busOk (LOOP_CMD ch) 4 = true)
        && ran (.loopRestartDone ch true) s (fun t => decide ((t.loopOf ch).cmd = some (1, false)) && decide ((t.loopOf ch).waiting = [])))
      (w0.modLoop 1 (fun l => { l with restarting := true, waiting := [(LOOP_CMD 1, some 1)] })) (1) = true) :=
  ⟨by decide +kernel, by decide +kernel, by decide +kernel, by decide +kernel, by decide +kernel, by decide +kernel, by decide +kernel, by decide +kernel⟩

theorem test_The_lane_is_driven_every_wedge_2 :
    ((fun (s : State) (ch : Ch) =>
      s.wfb && decide (s.chUp ch = true) && decide ((s.loopOf ch).restarting = true) && decide (s.get (LOOP_STAT_RESTARTS ch) < 2)
        && ran (.loopRestartDone ch false) s (fun t => decide ((t.loopOf ch).restarting = true) && decide (t.get (LOOP_STAT_RESTARTS ch) = s.get (LOOP_STAT_RESTARTS ch) + 1)))
      ((w0.modLoop 1 (fun l => { l with restarting := true })).put (LOOP_STAT_RESTARTS 1) 1) (1) = true) ∧
    ((fun (s : State) (ch : Ch) =>
      s.wfb && decide (s.chUp ch = true) && decide (s.mode ch = mHold) && decide ((s.loopOf ch).restarting = false) && decide ((s.loopOf ch).noShadow = false) && decide (16 ≤ (s.loopOf ch).shadow)
        && ran (.loopShadowEnd ch) s (fun t => decide (t.mode ch = mFollow)))
      ((w0.setMode 1 mHold).modLoop 1 (fun l => { l with shadow := 16 })) (1) = true) ∧
    ((fun (s : State) (ch : Ch) =>
      s.wfb && decide (s.chUp ch = true) && decide (s.mode ch = mHold) && decide (max 1 (s.get (HOLD_CFG_LIM ch)) ≤ s.get (HOLD_STAT_INVALID_RUN ch))
        && ran (.holdInvalidRetract ch) s (fun t => decide (t.mode ch = mRetracted) && decide (t.clvDue ch = true) && decide (bitOf (t.num (LOOP_FAULT ch)) 8 = true) && decide (bitOf (t.num (HOLD_FAULT ch)) 1 = true)))
      ((w0.setMode 1 mHold).put (HOLD_STAT_INVALID_RUN 1) 255) (1) = true) ∧
    ((fun (s : State) (ch : Ch) =>
      s.wfb && decide (s.chUp ch = true)
        && ran (.holdParity ch) s (fun t => decide (t.flag (HOLD_STAT_AVAIL ch) = false) && decide (bitOf (t.num (HOLD_FAULT ch)) 0 = true) && decide ((s.mode ch = mHold → t.mode ch = mRetracted ∧ t.clvDue ch = true))))
      (w0.setMode 1 mHold) (1) = true) :=
  ⟨by decide +kernel, by decide +kernel, by decide +kernel, by decide +kernel⟩

theorem test_Servo_policy_and_shock_registers :
    ((fun (s : State) (ch : Ch) (reg : Fin 7) (v : Word) =>
      s.wfb && decide (s.dieOn (ch + 1) = true) && decide ((s.loopOf ch).restarting = false)
        && ran (.coeffDerive ch reg v) s (fun t => decide ((t.loopOf ch).derive = true) && decide ((reg = 0 → (t.holdOf ch).kv = v.toNat ∧ t.flag (HOLD_STAT_AVAIL ch) = true)) && decide ((reg ≠ 0 → t.holdOf ch = s.holdOf ch))))
      (w0) (1) (0) (77#32) = true) ∧
    ((fun (s : State) (ch : Ch) (v : Word) =>
      s.wfb && decide (s.dieOn (ch + 1) = true) && decide ((s.loopOf ch).restarting = false)
        && ran (.seekPolicyWrite ch v) s (fun t => decide ((t.demodOf ch).due = (s.demodOf ch).due ++ [(LOOP_JERK_W ch, BitVec.ofNat 32 (profile (t.get (SEEK_POLICY_PROFILE ch))).2)])))
      (w0) (1) (2#32) = true) ∧
    ((fun (s : State) (shock : Nat) (rvx : Nat) (rvy : Nat) =>
      s.wfb && decide (s.flag SHOCK_CTL_EN = true) && decide (s.shock.above = false) && decide (s.get SHOCK_CTL_THR < (sx 16 shock).natAbs)
        && ran (.shockSample shock rvx rvy) s (fun t => decide (t.flag SHOCK_STAT_TRIP = true) && decide (t.num SHOCK_CNT = min 0xFFFFFFFF (s.num SHOCK_CNT + 1)) && decide (t.shock.trip = Vector.replicate 4 true) && decide (t.shock.above = true)))
      ((w0.put SHOCK_CTL_EN 1).put SHOCK_CTL_THR 100) (0x7FFF) (0) (0) = true) ∧
    ((fun (s : State) (shock : Nat) (rvx : Nat) (rvy : Nat) =>
      s.wfb && decide (s.flag SHOCK_CTL_EN = false)
        && ran (.shockSample shock rvx rvy) s (fun t => decide (t = s)))
      (w0.put SHOCK_CTL_EN 0) (0x7FFF) (0) (0) = true) ∧
    ((fun (s : State) =>
      s.wfb && decide (s.dieOn 5 = true)
        && ran (.shockTripClear) s (fun t => decide (t.flag SHOCK_STAT_TRIP = false) && decide (t.get SHOCK_STAT_PEAK = 0)))
      ((w0.put SHOCK_STAT_TRIP 1).put SHOCK_STAT_PEAK 9) = true) :=
  ⟨by decide +kernel, by decide +kernel, by decide +kernel, by decide +kernel, by decide +kernel⟩

theorem test_SPIN_commands_wait_for_the_PWM_period_1 :
    ((fun (s : State) =>
      s.wfb && decide (s.dieOn 5 = true)
        && ran (.spinStart) s (fun t => decide (t.spin.cmds = s.spin.cmds ++ [1]) && decide (t.bank = s.bank)))
      (w0) = true) ∧
    ((fun (s : State) =>
      s.wfb && decide (s.dieOn 5 = true)
        && ran (.spinStop) s (fun t => decide (t.spin.cmds = s.spin.cmds ++ [2]) && decide (t.bank = s.bank)))
      (w0) = true) ∧
    ((fun (s : State) =>
      s.wfb && decide (s.dieOn 5 = true)
        && ran (.spinCoast) s (fun t => decide (t.spin.cmds = s.spin.cmds ++ [3]) && decide (t.bank = s.bank)))
      (w0) = true) ∧
    ((fun (s : State) =>
      s.wfb && decide (s.dieOn 5 = true)
        && ran (.spinClear) s (fun t => decide (t.spin.cmds = s.spin.cmds ++ [4]) && decide (t.bank = s.bank)))
      (w0) = true) ∧
    ((fun (s : State) (iu : Int) (iv : Int) (iw : Int) (mu : Int) (mv : Int) (mw : Int) (theta : Nat) (omega : Int) (emf : Nat) (vmot : Nat) =>
      s.wfb && decide (s.img.isSome = true) && decide (s.spin.rotating = false) && decide (s.spin.cmds = [1]) && decide (s.spinState = spStopped) && decide (s.startRefused = false)
        && ran (.pwmPeriod iu iv iw mu mv mw theta omega emf vmot) s (fun t => decide (t.spinState = spSense) && decide (t.spin.cmds = []) && decide (t.spin.starting = true)))
      (((w0.put SENSE_SCALE_I_FS 100).put SENSE_SCALE_V_DIV 100 |>.put SUP_STAT_GOOD 0x1FFFF).modSpin (fun p => { p with cmds := [1] })) (0) (0) (0) (0) (0) (0) (0) (0) (0) (12000) = true) ∧
    ((fun (s : State) (iu : Int) (iv : Int) (iw : Int) (mu : Int) (mv : Int) (mw : Int) (theta : Nat) (omega : Int) (emf : Nat) (vmot : Nat) =>
      s.wfb && decide (s.img.isSome = true) && decide (s.spin.rotating = false) && decide (s.spin.cmds = [1]) && decide (s.spinState ≠ spStopped) && decide (s.spinState ≠ spBrake) && decide (s.spinState ≠ spCoast)
        && ran (.pwmPeriod iu iv iw mu mv mw theta omega emf vmot) s (fun t => decide (t.flag SPIN_STAT_CMD_REJ = true) && decide (t.spinState = s.spinState) && decide (t.spin.cmds = [])))
      ((w0.setSpin spFailed).modSpin (fun p => { p with cmds := [1] })) (0) (0) (0) (0) (0) (0) (0) (0) (0) (12000) = true) ∧
    ((fun (s : State) (iu : Int) (iv : Int) (iw : Int) (mu : Int) (mv : Int) (mw : Int) (theta : Nat) (omega : Int) (emf : Nat) (vmot : Nat) =>
      s.wfb && decide (s.img.isSome = true) && decide (s.spin.rotating = false) && decide (s.spin.cmds = []) && decide (s.spinState ≠ spRamp) && decide (s.spinState ≠ spHoldAngle)
        && ran (.pwmPeriod iu iv iw mu mv mw theta omega emf vmot) s (fun t => decide (t.spin.theta = theta % 0x100000000) && decide (t.spin.omega = omega) && decide (t.spin.vmot = vmot) && decide (t.spinState = s.spinState)))
      (w0.setSpin spSense) (0) (0) (0) (0) (0) (0) (77) (471859200) (0) (12000) = true) ∧
    ((fun (s : State) (iu : Int) (iv : Int) (iw : Int) (mu : Int) (mv : Int) (mw : Int) (theta : Nat) (omega : Int) (emf : Nat) (vmot : Nat) =>
      s.wfb && decide (s.img.isSome = true) && decide (s.spin.rotating = true)
        && ran (.pwmPeriod iu iv iw mu mv mw theta omega emf vmot) s (fun t => decide (t.spin.theta = (((s.spin.theta : Int) + turned s.spin.omega (s.imgNat Image.polePairs) 4) % 0x100000000).toNat) && decide (t.spin.omega = s.spin.omega) && decide (t.spin.cmds = s.spin.cmds) && decide (t.bank = s.bank)))
      ((w0.setSpin spSense).modSpin (fun p => { p with rotating := true, omega := 471859200 })) (0) (0) (0) (0) (0) (0) (77) (0) (0) (12000) = true) :=
  ⟨by decide +kernel, by decide +kernel, by decide +kernel, by decide +kernel, by decide +kernel, by decide +kernel, by decide +kernel, by decide +kernel⟩

theorem test_SPIN_commands_wait_for_the_PWM_period_2 :
    ((fun (s : State) (iu : Int) (iv : Int) (iw : Int) (mu : Int) (mv : Int) (mw : Int) (theta : Nat) (omega : Int) (emf : Nat) (vmot : Nat) =>
      s.wfb && decide (s.img.isSome = true) && decide (s.spin.rotating = false) && decide (s.spin.cmds = []) && decide (s.spin.nextOut = none) && decide (5 * s.imgNat Image.iMax * 2048 < 4 * max iu.natAbs (max iv.natAbs iw.natAbs) * s.get SENSE_SCALE_I_FS)
        && ran (.pwmPeriod iu iv iw mu mv mw theta omega emf vmot) s (fun t => decide (bitOf (t.num SPIN_FAULT) 0 = true) && decide (t.spin.out = none) && decide (t.spin.drv.gates = [])))
      ((w0.setSpin spSense).put SENSE_SCALE_I_FS 0xFFFF) (2047) (0) (-2048) (0) (0) (0) (77) (0) (0) (12000) = true) ∧
    ((fun (s : State) (iu : Int) (iv : Int) (iw : Int) (mu : Int) (mv : Int) (mw : Int) (theta : Nat) (omega : Int) (emf : Nat) (vmot : Nat) =>
      s.wfb && decide (s.img = none)
        && ran (.pwmPeriod iu iv iw mu mv mw theta omega emf vmot) s (fun t => decide (t.spin.out = none) && decide (t.spin.nextOut = none) && decide (t.spin.cmds = [])))
      (State.reset) (0) (0) (0) (0) (0) (0) (77) (471859200) (0) (12000) = true) :=
  ⟨by decide +kernel, by decide +kernel⟩

theorem test_The_motor_starts_catches_and_brakes_1 :
    ((fun (s : State) (k : Fin 6) (interval : Nat) (at_ : Nat) =>
      s.wfb && decide (s.spinState = spSense) && decide (s.spin.crossN = 2) && decide (s.spin.crossFwd = true) && decide (k.val = (s.spin.crossPrev + 1) % 6) && decide (600 * (s.spin.crossSum + interval) * s.imgNat Image.polePairs ≤ 10000000000 * 2)
        && ran (.zeroCrossing k interval at_) s (fun t => decide (t.spinState = spAccel) && decide (t.spin.theta = crossAngle k) && decide (t.spin.omega = rpmOf 2 (s.spin.crossSum + interval) (s.imgNat Image.polePairs)) && decide (t.spin.torque = 0) && decide (t.flag SPIN_STAT_SPIN_RUN = true)))
      ((w0.setSpin spSense).modSpin (fun p => { p with crossN := 2, crossFwd := true, crossSum := 1000000, crossPrev := 5 })) (0) (1000000) (0) = true) ∧
    ((fun (s : State) (k : Fin 6) (interval : Nat) (at_ : Nat) =>
      s.wfb && decide (s.spinState = spSense) && decide (s.spin.crossN = 2) && decide (s.spin.crossFwd = true) && decide (k.val = (s.spin.crossPrev + 1) % 6) && decide (10000000000 * 2 < 600 * (s.spin.crossSum + interval) * s.imgNat Image.polePairs)
        && ran (.zeroCrossing k interval at_) s (fun t => decide (t.spinState = spBrake) && decide (t.spin.pendStart = true) && decide (t.flag SPIN_STAT_DIR = false)))
      ((w0.setSpin spSense).modSpin (fun p => { p with crossN := 2, crossFwd := true, crossSum := 1000000000, crossPrev := 5 })) (0) (1000000) (0) = true) ∧
    ((fun (s : State) (k : Fin 6) (interval : Nat) (at_ : Nat) =>
      s.wfb && decide (s.spinState = spHoldAngle) && decide (s.spin.relock = 2) && decide ((s.crossDev k at_).natAbs * 24 ≤ 0x100000000) && decide (((10000000000 * 65536 : Int) - (s.spin.okOmega.natAbs * interval * s.imgNat Image.polePairs : Nat)).natAbs * 50 ≤ s.spin.okOmega.natAbs * interval * s.imgNat Image.polePairs)
        && ran (.zeroCrossing k interval at_) s (fun t => decide (t.spinState = s.spin.origin % 16) && decide (t.spin.theta = crossAngle k) && decide (t.spin.torque = clampI (-(s.imgNat Image.iMax : Int)) (s.imgNat Image.iMax) s.spin.drv.held) && decide (bitOf (t.num SPIN_FAULT) 3 = true)))
      ((w0.setSpin spHoldAngle).modSpin (fun p => { p with origin := spLocked, relock := 2, okOmega := 471859200, drv := { p.drv with held := 7 } })) (0) (347222) (0) = true) ∧
    ((fun (s : State) (k : Fin 6) (interval : Nat) (at_ : Nat) =>
      s.wfb && decide (s.spinState = spHoldAngle) && decide (0x100000000 < (s.crossDev k at_).natAbs * 24)
        && ran (.zeroCrossing k interval at_) s (fun t => decide (t.spin.relock = 0) && decide (t.bank = s.bank)))
      (w0.setSpin spHoldAngle) (3) (347222) (0) = true) ∧
    ((fun (s : State) (emf : Nat × Nat × Nat) =>
      s.wfb && decide (s.spinState = spSense) && decide (s.spin.crossN < 2) && decide (s.emfLow emf.1 = true) && decide (s.emfLow emf.2.1 = true) && decide (s.emfLow emf.2.2 = true)
        && ran (.senseTimeout emf) s (fun t => decide (t.spinState = spAlign)))
      (w0.setSpin spSense) ((0, 0, 0)) = true) ∧
    ((fun (s : State) (emf : Nat × Nat × Nat) =>
      s.wfb && decide (s.spinState = spSense) && decide (s.spin.crossN < 2) && decide (s.emfLow emf.1 = false ∨ s.emfLow emf.2.1 = false ∨ s.emfLow emf.2.2 = false) && decide (s.spin.senseAgain = false)
        && ran (.senseTimeout emf) s (fun t => decide (t.spinState = spSense) && decide (t.spin.senseAgain = true) && decide (t.spin.crossN = 0)))
      (w0.setSpin spSense) ((0, 100000000, 0)) = true) ∧
    ((fun (s : State) (emf : Nat × Nat × Nat) =>
      s.wfb && decide (s.spinState = spSense) && decide (s.spin.crossN < 2) && decide (s.emfLow emf.1 = false ∨ s.emfLow emf.2.1 = false ∨ s.emfLow emf.2.2 = false) && decide (s.spin.senseAgain = true)
        && ran (.senseTimeout emf) s (fun t => decide (t.spinState = spBrake) && decide (t.spin.pendStart = true)))
      ((w0.setSpin spSense).modSpin (fun p => { p with senseAgain := true })) ((0, 0, 100000000)) = true) ∧
    ((fun (s : State) (emf : Nat × Nat × Nat) =>
      s.wfb && decide (s.spinState = spSense) && decide (2 ≤ s.spin.crossN) && decide (s.spin.crossFwd = false) && decide (s.spin.crossRev = true) && decide (s.crossOver 60 = true)
        && ran (.senseTimeout emf) s (fun t => decide (t.spinState = spBrake) && decide (t.spin.pendStart = true) && decide (t.flag SPIN_STAT_DIR = true)))
      ((w0.setSpin spSense).modSpin (fun p => { p with crossN := 2, crossFwd := false, crossRev := true, crossSum := 1000000 })) ((0, 0, 0)) = true) :=
  ⟨by decide +kernel, by decide +kernel, by decide +kernel, by decide +kernel, by decide +kernel, by decide +kernel, by decide +kernel, by decide +kernel⟩

theorem test_The_motor_starts_catches_and_brakes_2 :
    ((fun (s : State) =>
      s.wfb && decide (s.spinState = spBrake) && decide (s.spin.brake = .hold)
        && ran (.brakeHoldEnd) s (fun t => decide (t.spin.brake = (if s.aboveObs then .foc else .zero)) && decide (t.bank = s.bank)))
      (w0.enterBrake false .hold) = true) ∧
    ((fun (s : State) (emf : Nat) =>
      s.wfb && decide (s.spinState = spBrake) && decide (s.spin.brake = .zero) && decide (s.emfWindow = true) && decide (s.emfLow emf = true)
        && ran (.brakeEmfCheck emf) s (fun t => decide (t.spinState = (if s.spin.pendStart then spAlign else spStopped))))
      ((w0.enterBrake true .zero).modDrv (fun d => { d with zeroN := 3999 })) (0) = true) ∧
    ((fun (s : State) (emf : Nat) =>
      s.wfb && decide (s.emfWindow = false ∨ s.emfLow emf = false)
        && ran (.brakeEmfCheck emf) s (fun t => decide (t = { s with resp := t.resp })))
      (w0.enterBrake true .zero) (0) = true) ∧
    ((fun (s : State) =>
      s.wfb && decide (s.spinState = spAlign)
        && ran (.alignComplete) s (fun t => decide (t.spinState = spRamp) && decide (t.spin.ramp = 0)))
      (w0.enterAlign) = true) ∧
    ((fun (s : State) =>
      s.wfb && decide (s.spinState = spRamp) && decide (64 ≤ s.spin.okRun)
        && ran (.rampHandover) s (fun t => decide (t.spinState = spAccel) && decide (t.flag SPIN_STAT_SPIN_RUN = true)))
      ((w0.setSpin spRamp).modSpin (fun p => { p with okRun := 64 })) = true) ∧
    ((fun (s : State) =>
      s.wfb && decide (s.spinState = spRamp) && decide (3 * s.get SPIN_STARTX_HAND_RPM * 400000 ≤ 2 * s.spin.ramp)
        && ran (.handoverFail) s (fun t => decide (t.spin.attempts = s.spin.attempts + 1) && decide (t.spinState = (if 2 ≤ s.spin.attempts then spFailed else spBrake)) && decide ((s.spin.attempts < 2 → t.spin.pendStart = true))))
      ((w0.setSpin spRamp).modSpin (fun p => { p with ramp := 100000000000, attempts := 2 })) = true) ∧
    ((fun (s : State) =>
      s.wfb && decide (s.spinState = spAccel) && decide (16 ≤ s.spin.accelRevs)
        && ran (.speedLock) s (fun t => decide (t.spinState = spLocked) && decide (t.spin.starting = false)))
      ((w0.setSpin spAccel).modSpin (fun p => { p with accelRevs := 16 })) = true) ∧
    ((fun (s : State) =>
      s.wfb && decide (s.spin.starting = true) && decide (s.spinState = spSense ∨ s.spinState = spBrake ∨ s.spinState = spAlign ∨ s.spinState = spRamp ∨ s.spinState = spAccel)
        && ran (.startTimeout) s (fun t => decide (t.spinState = spFailed) && decide (bitOf (t.num SPIN_FAULT) 5 = true)))
      ((w0.setSpin spAccel).modSpin (fun p => { p with starting := true })) = true) :=
  ⟨by decide +kernel, by decide +kernel, by decide +kernel, by decide +kernel, by decide +kernel, by decide +kernel, by decide +kernel, by decide +kernel⟩

theorem test_The_motor_starts_catches_and_brakes_3 :
    (fun (s : State) =>
      s.wfb
        && ran (.generateHoldEnd) s (fun t => decide (t.spin.genHold = false) && decide (t.bank = s.bank)))
      (w0.modSpin (fun p => { p with genHold := true })) = true := by decide +kernel

theorem test_SPIN_locks_to_the_wedges_and_survives_faults :
    ((fun (s : State) (dev : Int) =>
      s.wfb && decide (s.img.isSome = true)
        && ran (.referenceTick dev) s (fun t => decide (t.num PHASE_ERR = toBits 32 (clampS 32 (s.phaseErr (s.spin.ref.count + 1) s.refChannel))) && decide (t.spin.ref.count = s.spin.ref.count + 1) && decide (t.spin.ref.wedge = (s.spin.ref.wedge + 1) % s.imgNat Image.wedges) && decide (t.flag SPIN_STAT_FINE = s.refChannel.isSome) && decide ((s.spinState = spLocked → (s.spin.ref.wedge + 1) % s.imgNat Image.wedges = 0 → t.num64 REV_LO REV_HI = (s.num64 REV_LO REV_HI + 1) % 2 ^ 64)) && decide ((4 * (s.get SPIN_LOCKX_LOCK_WIN * 64) < (s.phaseErr (s.spin.ref.count + 1) s.refChannel).natAbs * 5 → t.flag SPIN_STAT_SPIN_LOCK = false))))
      ((w0.setSpin spLocked).modRef (fun r => { r with wedge := 431 })) (4) = true) ∧
    ((fun (s : State) =>
      s.wfb && decide (s.spinState = spLocked) && decide (128 ≤ s.spin.lockRun)
        && ran (.spinLockSet) s (fun t => decide (t.flag SPIN_STAT_SPIN_LOCK = true)))
      ((w0.setSpin spLocked).modSpin (fun p => { p with lockRun := 128 })) = true) ∧
    ((fun (s : State) =>
      s.wfb && decide (max 1 (s.get PLAUS_LOS_N) ≤ s.spin.losRun) && decide (s.spinState = spAccel ∨ s.spinState = spLocked)
        && ran (.lossOfSynchronism) s (fun t => decide (t.spinState = spHoldAngle) && decide (t.spin.origin = s.spinState) && decide (t.spin.omega = s.spin.okOmega) && decide (bitOf (t.num SPIN_FAULT) 2 = true) && decide (t.num LOS_CNT = min (s.num LOS_CNT + 1) 0xFFFFFFFF)))
      ((w0.setSpin spLocked).modSpin (fun p => { p with losRun := 255 })) = true) ∧
    ((fun (s : State) =>
      s.wfb && decide (s.spinState = spHoldAngle)
        && ran (.holdAngleTimeout) s (fun t => decide (t.spinState = (if s.flag SPIN_CFG_AUTO_CATCH then spSense else spCoast)) && decide (bitOf (t.num SPIN_FAULT) 4 = true)))
      (w0.setSpin spHoldAngle) = true) ∧
    ((fun (s : State) =>
      s.wfb
        && ran (.spinResidue false) s (fun t => decide (bitOf (t.num SPIN_FAULT) 6 = true) && decide (t.spin = s.spin)))
      (w0) = true) ∧
    ((fun (s : State) =>
      s.wfb
        && ran (.spinResidue true) s (fun t => decide (bitOf (t.num SPIN_FAULT) 7 = true) && decide (t.spin.rotating = true)))
      (w0) = true) ∧
    ((fun (s : State) =>
      s.wfb && decide (s.spin.rotating = true)
        && ran (.spinRestartDone) s (fun t => decide (t.spin.rotating = false) && decide (t.spin.theta = s.spin.okTheta % 0x100000000) && decide (t.spin.omega = s.spin.okOmega) && decide (t.bank = s.bank)))
      (w0.modSpin (fun p => { p with rotating := true, okOmega := 5 })) = true) ∧
    ((fun (s : State) =>
      s.wfb && decide (s.dieOn 5 = true))
      (w0) = true) :=
  ⟨by decide +kernel, by decide +kernel, by decide +kernel, by decide +kernel, by decide +kernel, by decide +kernel, by decide +kernel, by decide +kernel⟩

theorem test_The_supervisory_lane_beats_and_answers_1 :
    ((fun (s : State) =>
      s.wfb && decide (s.flag CLS_STAT_BEATING = true)
        && ran (.claspBeat) s (fun t => decide (t.clasps.seq = (s.clasps.seq + 1) % 16) && decide (t.clasps.sent = some (s.clasps.head, 0xAD * 2 ^ 48 + s.clasps.head.frame ((s.clasps.seq + 1) % 16))) && decide (t.bank = s.bank)))
      ((w0.put CLS_STAT_BEATING 1).modCls (fun k => { k with seq := 15 })) = true) ∧
    ((fun (s : State) (c : ClsCmd) (f : Nat) =>
      s.wfb && decide (s.clasps.sent = some (c, f))
        && ran (.claspReply none) s (fun t => decide (t.clasps.miss = s.clasps.miss + 1) && decide (t.clasps.sent = none) && decide (bitOf (t.num CLS_ERR) 1 = true)))
      (w0.modCls (fun k => { k with sent := some (ClsCmd.beat, 5) })) (ClsCmd.beat) (5) = true) ∧
    ((fun (s : State) (c : ClsCmd) (f : Nat) (r : Nat) =>
      s.wfb && decide (s.clasps.sent = some (c, f)) && decide (s.clasps.urgent = []) && decide (c.boot = false) && decide (s.clasps.queued = some c) && decide (r / 2 ^ 48 = 0xB5) && decide (crc8 (bitsMsb 40 (r / 256 % 2 ^ 40)) = r % 256) && decide (bitsOf r 43 40 = s.clasps.seq) && decide (bitsOf r 47 44 = 1)
        && ran (.claspReply (some r)) s (fun t => decide (t.clasps.queued = none) && decide (t.clasps.miss = 0) && decide (t.get CLS_STAT_QUEUED = 0)))
      ((w0.put CLS_STAT_QUEUED 1).modCls (fun k => { k with sent := some (⟨1, 0, 0, 4, false⟩, 5), queued := some ⟨1, 0, 0, 4, false⟩, seq := 3 })) (⟨1, 0, 0, 4, false⟩) (5) (0xB5 * 2 ^ 48 + clasp48 (2 ^ 36 + 3 * 2 ^ 32)) = true) ∧
    ((fun (s : State) =>
      s.wfb && decide (16 ≤ s.clasps.miss) && decide (s.clasps.silent = false)
        && ran (.claspNoReply) s (fun t => decide (t.flag CLS_ERR_NO_REPLY = true) && decide (t.clasps.silent = true)))
      (w0.modCls (fun k => { k with miss := 16 })) = true) ∧
    ((fun (s : State) (lanes : Fin 16) =>
      s.wfb && decide (s.dieOn 5 = true) && decide (s.clasps.queued = none)
        && ran (.clsArm lanes) s (fun t => decide (t.clasps.queued = some ⟨clArm, lanes, 0, 0, false⟩) && decide (t.get CLS_STAT_QUEUED = 1)))
      (w0) (15) = true) ∧
    ((fun (s : State) (lanes : Fin 16) =>
      s.wfb && decide (s.dieOn 5 = true) && decide (s.clasps.queued.isSome = true)
        && ran (.clsArm lanes) s (fun t => decide (t.clasps.queued = s.clasps.queued) && decide (bitOf (t.num CLS_ERR) 3 = true)))
      (w0.modCls (fun k => { k with queued := some ⟨1, 0, 0, 4, false⟩ })) (15) = true) ∧
    ((fun (s : State) (lanes : Fin 16) =>
      s.wfb && decide (s.dieOn 5 = true) && decide (s.clasps.queued = none)
        && ran (.clsRetract lanes) s (fun t => decide (t.clasps.queued = some ⟨clRetract, lanes, 0, 0, false⟩) && decide (t.get CLS_STAT_QUEUED = 1)))
      (w0) (0) = true) ∧
    ((fun (s : State) =>
      s.wfb && decide (s.dieOn 5 = true) && decide (s.clasps.queued = none)
        && ran (.clsClear) s (fun t => decide (t.clasps.queued = some ⟨clClear, 0, 0, 0, false⟩)))
      (w0) = true) :=
  ⟨by decide +kernel, by decide +kernel, by decide +kernel, by decide +kernel, by decide +kernel, by decide +kernel, by decide +kernel, by decide +kernel⟩

theorem test_The_supervisory_lane_beats_and_answers_2 :
    ((fun (s : State) =>
      s.wfb && decide (s.dieOn 5 = true) && decide (s.clasps.queued = none)
        && ran (.clsIdent) s (fun t => decide (t.clasps.queued = some ⟨clIdent, 0, 0, 0, false⟩)))
      (w0) = true) ∧
    ((fun (s : State) =>
      s.wfb && decide (s.dieOn 5 = true) && decide (s.clasps.queued = none)
        && ran (.clsBridge) s (fun t => decide (t.clasps.queued = some ⟨clBridge, 0, 0, s.get CLS_ARG_VALUE % 2, false⟩)))
      (w0.put CLS_ARG_VALUE 3) = true) ∧
    ((fun (s : State) =>
      s.wfb && decide (s.dieOn 5 = true) && decide (s.clasps.queued = none)
        && ran (.clsConfig) s (fun t => decide (t.clasps.queued = some ⟨clConfig, 0, s.get CLS_ARG_INDEX, s.get CLS_ARG_VALUE, false⟩)))
      (w0.put CLS_ARG_INDEX 255) = true) :=
  ⟨by decide +kernel, by decide +kernel, by decide +kernel⟩

theorem test_Reading_sectors_from_the_stream_1 :
    ((fun (s : State) (ch : Ch) (v : Word) =>
      s.wfb && decide (s.dieOn (ch + 1) = true)
        && ran (.fmtSelWrite ch v) s (fun t => decide ((t.detOf ch).fmt = some (v.toNat % 64)) && decide (t.resp = .done)))
      (w0) (2) (5#32) = true) ∧
    ((fun (s : State) (ch : Ch) =>
      s.wfb && decide (s.chUp ch = true) && decide (s.flag (DET_CTL_EN ch) = true) && decide ((s.detOf ch).op = none) && decide ((s.detOf ch).gate = false) && decide ((s.detOf ch).slots.length < 5) && decide (s.dqReady ch = true) && decide (s.cqRoom ch = true) && decide (s.rateOk ch = true))
      (((w0.put (DET_CTL_EN 1) 1).setNum (DQ_HEAD 1) 3).put (DZ_RATE_KHZ 1 0) 3000000) (1) = true) ∧
    ((fun (s : State) (ch : Ch) (late : Bool) (pos : Nat) (r : ReadSig) =>
      s.wfb && decide (s.chUp ch = true) && decide (s.flag (DET_CTL_EN ch) = true) && decide ((s.detOf ch).op = none) && decide (s.dqReady ch = true) && decide (s.cqRoom ch = true) && decide (s.rateOk ch = false ∨ late = true)
        && ran (.dcmdRead ch late pos r) s (fun t => decide (t.num (DQ_TAIL ch) = (s.num (DQ_TAIL ch) % ringLen (s.get (DQ_CFG_LEN ch)) + 1) % ringLen (s.get (DQ_CFG_LEN ch))) && decide (t.num (CQ_HEAD ch) = (s.num (CQ_HEAD ch) % ringLen (s.get (CQ_CFG_LEN ch)) + 1) % ringLen (s.get (CQ_CFG_LEN ch))) && decide ((t.detOf ch).op = none) && decide ((s.rateOk ch = false → bitOf (t.num (DET_ERR ch)) 6 = true))))
      ((w0.put (DET_CTL_EN 1) 1).setNum (DQ_HEAD 1) 3) (1) (false) (40) (⟨[0, 0, 0], [[], [], []]⟩) = true) ∧
    ((fun (s : State) (ch : Ch) (late : Bool) (pos : Nat) (r : ReadSig) =>
      s.wfb && decide (s.chUp ch = true) && decide (s.flag (DET_CTL_EN ch) = true) && decide ((s.detOf ch).op = none) && decide (s.dqReady ch = false)
        && ran (.dcmdRead ch late pos r) s (fun t => decide ((t.detOf ch).op = none) && decide (bitOf (t.num (DET_ERR ch)) 4 = true) && decide (t.num (DQ_TAIL ch) = s.num (DQ_TAIL ch))))
      (w0.put (DET_CTL_EN 1) 1) (1) (false) (40) (⟨[0, 0, 0], [[], [], []]⟩) = true) ∧
    ((fun (s : State) (ch : Ch) (r : RdSec) =>
      s.wfb && decide (s.chUp ch = true) && decide (s.flag (DET_CTL_EN ch) = true) && decide ((s.detOf ch).op = some r) && decide ((s.detOf ch).gate = false) && decide (r.frags < 3))
      ((w0.put (DET_CTL_EN 1) 1).modDet 1 (fun d => { d with op := some { rdSec [] with frags := 2 } })) (1) ({ rdSec [] with frags := 2 }) = true) ∧
    ((fun (s : State) (ch : Ch) (late : Bool) (pos : Nat) (g : ReadSig) (r : RdSec) =>
      s.wfb && decide (s.chUp ch = true) && decide (s.flag (DET_CTL_EN ch) = true) && decide ((s.detOf ch).op = some r) && decide ((s.detOf ch).gate = false) && decide (3 ≤ r.frags)
        && ran (.dcmdReadCont ch late pos g) s (fun t => decide ((t.detOf ch).gate = false) && decide ((t.detOf ch).op = none) && decide (bitOf (t.num (DET_ERR ch)) 5 = true) && decide (t.num (CQ_HEAD ch) = (s.num (CQ_HEAD ch) % ringLen (s.get (CQ_CFG_LEN ch)) + 1) % ringLen (s.get (CQ_CFG_LEN ch)))))
      ((w0.put (DET_CTL_EN 1) 1).modDet 1 (fun d => { d with op := some { rdSec [] with frags := 3 } })) (1) (false) (9) (⟨[0, 0, 0], [[], [], []]⟩) ({ rdSec [] with frags := 3 }) = true) ∧
    ((fun (s : State) (ch : Ch) (r : RdSec) (rest : List RdSec) =>
      s.wfb && decide (s.chUp ch = true) && decide ((s.detOf ch).slots = r :: rest))
      (w0.modDet 1 (fun d => { d with slots := [rdSec []] })) (1) (rdSec []) ([]) = true) ∧
    ((fun (s : State) (ch : Ch) (r : RdSec) =>
      s.wfb && decide (s.chUp ch = true) && decide ((s.detOf ch).held = some r) && decide ((s.detOf ch).slots = []))
      (w0.modDet 1 (fun d => { d with held := some { rdSec [] with soft := 0xFFFFFFFF } })) (1) ({ rdSec [] with soft := 0xFFFFFFFF }) = true) :=
  ⟨by decide +kernel, by decide +kernel, by decide +kernel, by decide +kernel, by decide +kernel, by decide +kernel, by decide +kernel, by decide +kernel⟩

theorem test_Reading_sectors_from_the_stream_2 :
    (fun (s : State) (ch : Ch) =>
      s.wfb && decide (s.chUp ch = true) && decide ((s.detOf ch).held = none ∨ (s.detOf ch).slots ≠ [])
        && ran (.slipSearch ch) s (fun t => decide (t.det = s.det) && decide (t.csram = s.csram)))
      (w0) (1) = true := by decide +kernel

theorem test_Recovery_and_soft_jobs_1 :
    ((fun (s : State) (ch : Ch) (last : Fin 8) =>
      s.wfb && decide (s.dieOn (ch + 1) = true) && decide (s.flag (RCV_STAT_BUSY ch) = false) && decide (3 ≤ last.val ∧ last.val ≤ 5)
        && ran (.rcvGo ch 3 last) s (fun t => decide (t.flag (RCV_STAT_BUSY ch) = true) && decide (t.get (RCV_STAT_STEP ch) = 3) && decide (t.get (RCV_STAT_REVS ch) = 0) && decide ((t.detOf ch).rcv.map (·.last) = some last.val)))
      (w0) (1) (5) = true) ∧
    ((fun (s : State) (ch : Ch) (first : Fin 8) (last : Fin 8) =>
      s.wfb && decide (s.dieOn (ch + 1) = true) && decide (s.flag (RCV_STAT_BUSY ch) = true ∨ first.val < 2 ∨ 5 < last.val ∨ last.val < first.val)
        && ran (.rcvGo ch first last) s (fun t => decide (t.flag (RCV_STAT_REJ ch) = true) && decide (t.det = s.det)))
      (w0) (1) (1) (5) = true) ∧
    ((fun (s : State) (ch : Ch) (r : Rcv) =>
      s.wfb && decide (s.dieOn (ch + 1) = true) && decide ((s.detOf ch).rcv = some r)
        && ran (.rcvAbort ch) s (fun t => decide ((t.detOf ch).rcv = some { r with abort := true }) && decide (t.bank = s.bank)))
      (w0.modDet 1 (fun d => { d with rcv := some rcvWit })) (1) (rcvWit) = true) ∧
    ((fun (s : State) (ch : Ch) (v : RevRead) (r : Rcv) =>
      s.wfb && decide (s.chUp ch = true) && decide ((s.detOf ch).rcv = some r) && decide (r.foul = false) && decide (r.abort = false) && decide (s.rcvInBudget ch r = true) && decide (s.dieHot (ch + 1) = false) && decide (s.foreHas (rcvUnits ch) = true) && decide ((s.detOf ch).held = none) && decide (r.seek = false) && decide (s.rateOk ch = true) && decide (2 < v.conts.length))
      ({ ((((w0.put (RCV_STAT_BUSY 1) 1).put (RCV_STAT_STEP 1) 2).put (RCV_BUDGET_MS 1) 100).put (DZ_RATE_KHZ 1 0) 3000000).modDet 1 (fun d => { d with rcv := some rcvWit }) with holders := [(unitBase 2 3, 2), (unitBase 2 9, 2)] }) (1) (⟨⟨[0, 0, 0], [[], [], []]⟩, List.replicate 3 (5, ⟨[0, 0, 0], [[], [], []]⟩)⟩) (rcvWit) = true) ∧
    ((fun (s : State) (ch : Ch) (v : RevRead) (r : Rcv) =>
      s.wfb && decide (s.chUp ch = true) && decide ((s.detOf ch).rcv = some r) && decide (r.foul = false) && decide (r.abort = false) && decide (s.rcvInBudget ch r = true) && decide (s.dieHot (ch + 1) = false) && decide (s.foreHas (rcvUnits ch) = true) && decide ((s.detOf ch).held = none) && decide (v.conts.length ≤ 2) && decide (r.seek = false) && decide (s.rateOk ch = true) && decide (s.get (RCV_STAT_STEP ch) = 2))
      ({ ((((w0.put (RCV_STAT_BUSY 1) 1).put (RCV_STAT_STEP 1) 2).put (RCV_BUDGET_MS 1) 100).put (DZ_RATE_KHZ 1 0) 3000000).modDet 1 (fun d => { d with rcv := some (rcvWit) }) with holders := [(unitBase 2 3, 2), (unitBase 2 9, 2)] }) (1) (⟨⟨[0, 0, 0], [[], [], []]⟩, []⟩) (rcvWit) = true) ∧
    ((fun (s : State) (ch : Ch) (v : RevRead) (r : Rcv) =>
      s.wfb && decide (s.chUp ch = true) && decide ((s.detOf ch).rcv = some r) && decide (r.foul = false) && decide (r.abort = false) && decide (s.rcvInBudget ch r = false)
        && ran (.recoveryRevolution ch v) s (fun t => decide (t.flag (RCV_STAT_BUSY ch) = false) && decide (t.get (RCV_STAT_RESULT ch) = rsTimeout) && decide ((t.detOf ch).rcv = none)))
      (((w0.put (RCV_STAT_BUSY 1) 1).put (RCV_BUDGET_MS 1) 8).modDet 1 (fun d => { d with rcv := some (rcvWit) })) (1) (⟨⟨[0, 0, 0], [[], [], []]⟩, []⟩) (rcvWit) = true) ∧
    ((fun (s : State) (ch : Ch) (v : RevRead) (r : Rcv) =>
      s.wfb && decide (s.chUp ch = true) && decide ((s.detOf ch).rcv = some r) && decide (r.foul = true ∨ r.abort = true)
        && ran (.recoveryRevolution ch v) s (fun t => decide (t.flag (RCV_STAT_BUSY ch) = false) && decide (t.get (RCV_STAT_RESULT ch) = rsAborted) && decide ((t.detOf ch).rcv = none) && decide ((r.foul = true → bitOf (t.num (DET_ERR ch)) 0 = true)) && decide ((r.moved = true → t.num (LOOP_TARGET_LO ch) = r.origLo % 2 ^ 32 ∧ t.num (LOOP_TARGET_HI ch) = r.origHi % 2 ^ 32))))
      ((w0.put (RCV_STAT_BUSY 1) 1).modDet 1 (fun d => { d with rcv := some { rcvWit with foul := true } })) (1) (⟨⟨[0, 0, 0], [[], [], []]⟩, []⟩) ({ rcvWit with foul := true }) = true) ∧
    ((fun (s : State) (ch : Ch) (v : RevRead) (r : Rcv) =>
      s.wfb && decide (s.chUp ch = true) && decide ((s.detOf ch).rcv = some r) && decide (r.foul = false) && decide (r.abort = false) && decide (s.rcvInBudget ch r = true) && decide (s.foreHas (rcvUnits ch) = true) && decide ((s.detOf ch).held.isSome = true ∨ r.seek = true)
        && ran (.recoveryRevolution ch v) s (fun t => decide (t = { s with resp := t.resp })))
      ({ ((w0.put (RCV_STAT_BUSY 1) 1).put (RCV_BUDGET_MS 1) 100).modDet 1 (fun d => { d with rcv := some { rcvWit with seek := true } }) with holders := [(unitBase 2 3, 2), (unitBase 2 9, 2)] }) (1) (⟨⟨[0, 0, 0], [[], [], []]⟩, []⟩) ({ rcvWit with seek := true }) = true) :=
  ⟨by decide +kernel, by decide +kernel, by decide +kernel, by decide +kernel, by decide +kernel, by decide +kernel, by decide +kernel, by decide +kernel⟩

theorem test_Recovery_and_soft_jobs_2 :
    ((fun (s : State) (ch : Ch) (iter : Fin 128) =>
      s.wfb && decide (s.dieOn (ch + 1) = true) && decide (s.flag (SJ_STAT_BUSY ch) = false)
        && ran (.sjGo ch iter) s (fun t => decide (t.flag (SJ_STAT_BUSY ch) = true) && decide ((t.detOf ch).soft = some (iterLimit iter))))
      (w0) (1) (65) = true) ∧
    ((fun (s : State) (ch : Ch) (lim : Nat) =>
      s.wfb && decide (s.chUp ch = true) && decide ((s.detOf ch).soft = some lim) && decide ((s.detOf ch).slots = []))
      (w0.modDet 1 (fun d => { d with soft := some 9 })) (1) (9) = true) ∧
    ((fun (s : State) (ch : Ch) =>
      s.wfb && decide (s.chUp ch = true) && decide ((s.detOf ch).soft = none ∨ (s.detOf ch).slots ≠ [])
        && ran (.softJobDone ch) s (fun t => decide (t = { s with resp := t.resp })))
      (w0) (1) = true) ∧
    ((fun (s : State) (ch : Ch) (v : Word) (i : Fin 4) =>
      s.wfb && decide (s.dieOn (ch + 1) = true) && decide (v.getLsbD i = true)
        && ran (.detectCntClr ch v) s (fun t => decide (t.num (DET_CNT ch i) = 0) && decide (t.num (DET_CNT_SAT ch) = s.num (DET_CNT_SAT ch))))
      (w0.setNum (DET_CNT 1 3) 5) (1) (8#32) (3) = true) ∧
    ((fun (s : State) (ch : Ch) (v : Word) (i : Fin 18) =>
      s.wfb && decide (s.dieOn (ch + 1) = true) && decide (v.getLsbD 31 = true)
        && ran (.detectCntClr ch v) s (fun t => decide (t.num64 (SECT_CNT_LO ch i) (SECT_CNT_HI ch i) = 0)))
      (w0.setNum (SECT_CNT_LO 1 17) 5) (1) (0x80000000#32) (17) = true) :=
  ⟨by decide +kernel, by decide +kernel, by decide +kernel, by decide +kernel, by decide +kernel⟩

theorem test_Writing_sectors_to_the_media_1 :
    ((fun (s : State) (ch : Ch) =>
      s.wfb && decide (s.chUp ch = true) && decide (s.flag (WR_CTL_EN ch) = true) && decide (s.wqReady ch = true) && decide (s.wcRoom ch = true) && decide ((s.wruOf ch).bufs.length + ofBool (s.wruOf ch).op.isSome < 2)
        && ran (.codewordEncode ch) s (fun t => decide ((t.wruOf ch).bufs = (s.wruOf ch).bufs ++ [(s.takeWrite ch).1]) && decide (t.num (WQ_TAIL ch) = (s.num (WQ_TAIL ch) % ringLen (s.get (WQ_CFG_LEN ch)) + 1) % ringLen (s.get (WQ_CFG_LEN ch))) && decide (t.flag (WR_STAT_ENC_BUSY ch) = true)))
      ((w0.put (WR_CTL_EN 1) 1).setNum (WQ_HEAD 1) 3) (1) = true) ∧
    ((fun (s : State) (ch : Ch) (c : WrCode) (rest : List WrCode) =>
      s.wfb && decide (s.chUp ch = true) && decide ((s.wruOf ch).bufs = c :: rest) && decide (c.enc = false)
        && ran (.encodeDone ch) s (fun t => decide ((t.wruOf ch).bufs.head?.map (fun x => (x.enc, x.id)) = some (true, c.id)) && decide ((t.wruOf ch).bufs.tail = rest)))
      (w0.modWru 1 (fun u => { u with bufs := [⟨1, 2, 3, 4, true, false, 0, false, false, []⟩] })) (1) (⟨1, 2, 3, 4, true, false, 0, false, false, []⟩) ([]) = true) ∧
    ((fun (s : State) (ch : Ch) (c : WrCode) (rest : List WrCode) =>
      s.wfb && decide (s.chUp ch = true) && decide ((s.wruOf ch).bufs = c :: rest) && decide (c.enc = false))
      (w0.modWru 1 (fun u => { u with bufs := [⟨1, 2, 3, 4, true, false, 0, false, false, []⟩] })) (1) (⟨1, 2, 3, 4, true, false, 0, false, false, []⟩) ([]) = true) ∧
    ((fun (s : State) (ch : Ch) (pos : Nat) (entered : Option Int) (c : WrCode) (rest : List WrCode) =>
      s.wfb && decide (s.chUp ch = true) && decide (s.flag (WR_CTL_EN ch) = true) && decide ((s.wruOf ch).op = none) && decide ((s.wruOf ch).bufs = c :: rest) && decide ((s.detOf ch).op = none) && decide ((s.servoEnd ch).writeVerdict ch c = none)
        && ran (.dcmdWrite ch false pos entered) s (fun t => decide ((t.wruOf ch).op.map (fun o => (o.code.id, o.begun, o.emit)) = some (c.id, 1, true)) && decide ((t.wruOf ch).bufs = rest) && decide (t.flag (WR_STAT_GATE ch) = true)))
      (((((((w0.put (WR_CTL_EN 1) 1).put (DZ_RATE_KHZ 1 0) 3000000).put (TDC_STAT_LOCK 1) 1).put (PA_STAT_ARMED 1) 1).put (AS_CTL_EN 1) 1).put (LOOP_STAT_UNSAFE 1) 0 |>.put (PA_STAT_FLTN 1) 0).modWru 1 (fun u => { u with bufs := [⟨1, 2, 3, 4, true, false, 0, true, false, []⟩] }) |>.modDemod 1 (fun d => { d with found := true, spinLock := true })) (1) (7) (none) (⟨1, 2, 3, 4, true, false, 0, true, false, []⟩) ([]) = true) ∧
    ((fun (s : State) (ch : Ch) (pos : Nat) (c : WrCode) (rest : List WrCode) =>
      s.wfb && decide (s.chUp ch = true) && decide (s.flag (WR_CTL_EN ch) = true) && decide ((s.wruOf ch).op = none) && decide ((s.wruOf ch).bufs = c :: rest) && decide ((s.detOf ch).op = none) && decide ((s.servoEnd ch).writeVerdict ch c = none) && decide (s.joins ch (((s.actionAt ch 3 pos : Nat) : Int) - s.get (WG_TIMING_WG_LEAD ch)) = false))
      (((((((w0.put (WR_CTL_EN 1) 1).put (DZ_RATE_KHZ 1 0) 3000000).put (TDC_STAT_LOCK 1) 1).put (PA_STAT_ARMED 1) 1).put (AS_CTL_EN 1) 1).put (LOOP_STAT_UNSAFE 1) 0 |>.put (PA_STAT_FLTN 1) 0).modWru 1 (fun u => { u with bufs := [⟨1, 2, 3, 4, true, false, 0, true, false, []⟩] }) |>.modDemod 1 (fun d => { d with found := true, spinLock := true })) (1) (7) (⟨1, 2, 3, 4, true, false, 0, true, false, []⟩) ([]) = true) ∧
    ((fun (s : State) (ch : Ch) (pos : Nat) (c : WrCode) (rest : List WrCode) =>
      s.wfb && decide (s.chUp ch = true) && decide (s.flag (WR_CTL_EN ch) = true) && decide ((s.wruOf ch).op = none) && decide ((s.wruOf ch).bufs = c :: rest) && decide ((s.detOf ch).op = none) && decide ((s.servoEnd ch).writeVerdict ch c = none) && decide (s.joins ch (((s.actionAt ch 3 pos : Nat) : Int) - s.get (WG_TIMING_WG_LEAD ch)) = true))
      (((((((w0.put (WR_CTL_EN 1) 1).put (DZ_RATE_KHZ 1 0) 3000000).put (TDC_STAT_LOCK 1) 1).put (PA_STAT_ARMED 1) 1).put (AS_CTL_EN 1) 1).put (LOOP_STAT_UNSAFE 1) 0 |>.put (PA_STAT_FLTN 1) 0).modWru 1 (fun u => { u with spans := [⟨-500, some 7, false⟩], bufs := [⟨1, 2, 3, 4, true, false, 0, true, false, []⟩] }) |>.modDemod 1 (fun d => { d with found := true, spinLock := true })) (1) (7) (⟨1, 2, 3, 4, true, false, 0, true, false, []⟩) ([]) = true) ∧
    ((fun (s : State) (ch : Ch) (late : Bool) (pos : Nat) (entered : Option Int) (c : WrCode) (rest : List WrCode) =>
      s.wfb && decide (s.chUp ch = true) && decide (s.flag (WR_CTL_EN ch) = true) && decide ((s.wruOf ch).op = none) && decide ((s.wruOf ch).bufs = c :: rest) && decide ((s.detOf ch).op = none) && decide (((s.servoEnd ch).writeVerdict ch c).isSome = true)
        && ran (.dcmdWrite ch late pos entered) s (fun t => decide ((t.wruOf ch).op = none) && decide ((t.wruOf ch).bufs = rest) && decide (t.num (WC_HEAD ch) = (s.num (WC_HEAD ch) % ringLen (s.get (WC_CFG_LEN ch)) + 1) % ringLen (s.get (WC_CFG_LEN ch))) && decide (t.flag (WR_STAT_GATE ch) = false)))
      ((w0.put (WR_CTL_EN 1) 1).modWru 1 (fun u => { u with bufs := [⟨1, 2, 3, 4, true, false, 0, true, false, []⟩] })) (1) (false) (7) (none) (⟨1, 2, 3, 4, true, false, 0, true, false, []⟩) ([]) = true) ∧
    ((fun (s : State) (ch : Ch) (late : Bool) (pos : Nat) (entered : Option Int) =>
      s.wfb && decide (s.chUp ch = true) && decide (s.flag (WR_CTL_EN ch) = true) && decide ((s.wruOf ch).op = none) && decide ((s.wruOf ch).bufs = []) && decide (s.wqReady ch = false)
        && ran (.dcmdWrite ch late pos entered) s (fun t => decide ((t.wruOf ch).op = none) && decide (bitOf (t.num (WR_ERR ch)) 1 = true) && decide (t.flag (WR_STAT_GATE ch) = false) && decide (t.num (WNO_DESC_CNT ch) = min (s.num (WNO_DESC_CNT ch) + 1) 0xFFFFFFFF)))
      (w0.put (WR_CTL_EN 1) 1) (1) (false) (7) (none) = true) :=
  ⟨by decide +kernel, by decide +kernel, by decide +kernel, by decide +kernel, by decide +kernel, by decide +kernel, by decide +kernel, by decide +kernel⟩

theorem test_Writing_sectors_to_the_media_2 :
    ((fun (s : State) (ch : Ch) (pos : Nat) (entered : Option Int) (o : WrOpen) =>
      s.wfb && decide (s.chUp ch = true) && decide (s.flag (WR_CTL_EN ch) = true) && decide ((s.wruOf ch).op = some o) && decide (o.emit = false) && decide (o.begun < 3) && decide ((s.detOf ch).gate = false) && decide ((s.servoEnd ch).gateHeld ch = false) && decide (s.headWdis ch = false)
        && ran (.dcmdWriteCont ch false pos entered) s (fun t => decide ((t.wruOf ch).op.map (fun o => (o.code.id, o.begun, o.emit)) = some (o.code.id, o.begun + 1, true)) && decide (t.flag (WR_STAT_GATE ch) = true)))
      (((((((w0.put (WR_CTL_EN 1) 1).put (DZ_RATE_KHZ 1 0) 3000000).put (TDC_STAT_LOCK 1) 1).put (PA_STAT_ARMED 1) 1).put (AS_CTL_EN 1) 1).put (LOOP_STAT_UNSAFE 1) 0 |>.put (PA_STAT_FLTN 1) 0).modWru 1 (fun u => { u with op := some { unwritten ⟨1, 2, 3, 4, true, false, 0, true, false, []⟩ with begun := 2 } }) |>.modDemod 1 (fun d => { d with found := true, spinLock := true })) (1) (7) (some (-3)) ({ unwritten ⟨1, 2, 3, 4, true, false, 0, true, false, []⟩ with begun := 2 }) = true) ∧
    ((fun (s : State) (ch : Ch) (pos : Nat) (o : WrOpen) =>
      s.wfb && decide (s.chUp ch = true) && decide ((s.wruOf ch).op = some o) && decide (o.emit = true)
        && ran (.dcmdSplit ch pos) s (fun t => decide ((t.wruOf ch).op.map (fun o => (o.code.id, o.frags, o.emit)) = some (o.code.id, o.frags + 1, false)) && decide ((t.wruOf ch).line = (s.wruOf ch).line.take (s.actionAt ch 5 pos - (s.wruOf ch).lineAt) ++ alternating 16) && decide ((t.wruOf ch).op.map (·.left) = some (o.left.drop (s.actionAt ch 5 pos - o.start - s.fragHead ch (decide (o.begun ≤ 1))))) && decide (((s.wruOf ch).spans ≠ [] → (t.wruOf ch).fallAt = some ((s.actionAt ch 5 pos + 16 + bitsOf (s.num (WG_TIMING ch)) 15 8 : Nat) : Int))) && decide (((s.lmuOf ch).queue.all (fun e => decide (e.1 ≠ 3) && decide (e.1 ≠ 4)) = true → t.flag (WR_STAT_GATE ch) = false))))
      (w0.modWru 1 (fun u => { u with op := some { unwritten ⟨1, 2, 3, 4, true, false, 0, true, false, []⟩ with emit := true } })) (1) (7) ({ unwritten ⟨1, 2, 3, 4, true, false, 0, true, false, []⟩ with emit := true }) = true) ∧
    ((fun (s : State) (ch : Ch) =>
      s.wfb && decide (s.chUp ch = true)
        && ran (.dcmdClose ch) s (fun t => decide ((t.wruOf ch).op = none) && decide ((t.detOf ch).op = none) && decide ((t.detOf ch).gate = false) && decide (t.flag (WR_STAT_GATE ch) = false)))
      (w0.modWru 1 (fun u => { u with op := some { unwritten ⟨1, 2, 3, 4, true, false, 0, true, false, []⟩ with emit := true } })) (1) = true) ∧
    ((fun (s : State) (ch : Ch) (o : WrOpen) =>
      s.wfb && decide (s.chUp ch = true) && decide ((s.wruOf ch).op = some o) && decide (o.emit = true)
        && ran (.sectorWriteEnd ch) s (fun t => decide ((t.wruOf ch).op = none) && decide (((s.lmuOf ch).queue.all (fun e => decide (e.1 ≠ 3) && decide (e.1 ≠ 4)) = true → t.flag (WR_STAT_GATE ch) = false)) && decide (t.num (WC_HEAD ch) = (s.num (WC_HEAD ch) % ringLen (s.get (WC_CFG_LEN ch)) + 1) % ringLen (s.get (WC_CFG_LEN ch)))))
      (w0.modWru 1 (fun u => { u with op := some { unwritten ⟨1, 2, 3, 4, true, false, 0, true, false, []⟩ with emit := true } })) (1) ({ unwritten ⟨1, 2, 3, 4, true, false, 0, true, false, []⟩ with emit := true }) = true) :=
  ⟨by decide +kernel, by decide +kernel, by decide +kernel, by decide +kernel⟩

theorem test_Assist_power_and_write_policy :
    ((fun (s : State) (ch : Ch) (k : Nat) =>
      s.wfb && decide (s.chUp ch = true) && decide ((s.loopOf ch).head = some k) && decide (k < 6)
        && ran (.setpointUpdate ch) s (fun t => decide (t.get (AS_STAT_SP ch) = s.setpoint ch k) && decide (t.asu = s.asu)))
      ((w0.modLoop 1 (fun l => { l with head := some 1 })).setNum (AS_LEVEL 1 1) 0x9000) (1) (1) = true) ∧
    ((fun (s : State) (ch : Ch) (at_ : Int) =>
      s.wfb && decide (s.chUp ch = true) && decide (s.amonUsable ch false at_ = true)
        && ran (.assistSample ch at_) s (fun t => decide ((t.asuOf ch).last = some (s.get (PA_STAT_AMON ch), (s.writeLevel ch).toNat)) && decide ((t.pauOf ch).fresh = false) && decide (t.num (CORR ch (s.headIn ch)) = toBits 16 (clampS 16 (clampI (-((s.get (AS_LIM_SAT_LIM ch) * s.get (SLOPE_V ch (s.headIn ch)) * s.spInForce ch / (256 * 16384) : Nat) : Int)) (s.get (AS_LIM_SAT_LIM ch) * s.get (SLOPE_V ch (s.headIn ch)) * s.spInForce ch / (256 * 16384) : Nat) (sx 16 (s.num (CORR ch (s.headIn ch))) + roundDiv ((s.get (AS_LOOP_KI ch) * s.get (SLOPE_V ch (s.headIn ch)) : Nat) * ((s.spInForce ch : Int) - s.get (PA_STAT_AMON ch))) (65536 * 16384)))))))
      (((((w0.put (AS_CTL_EN 1) 1).put (WR_STAT_GATE 1) 1).put (PA_STAT_AMON 1) 77).modWru 1 (fun u => { u with spans := [⟨0, none, false⟩], op := some { unwritten ⟨1, 2, 3, 4, true, false, 0, true, false, []⟩ with emit := true } })).modPau 1 (fun p => { p with fresh := true })) (1) (99999) = true) ∧
    ((fun (s : State) (ch : Ch) (at_ : Int) =>
      s.wfb && decide (s.amonUsable ch true at_ = false)
        && ran (.assistSample ch at_) s (fun t => decide (t = { s with resp := t.resp, free := t.free })))
      (w0) (1) (0) = true) ∧
    ((fun (s : State) (ch : Ch) (v : Word) (i : Fin 8) =>
      s.wfb && decide (s.dieOn (ch + 1) = true)
        && ran (.asPreheatWrite ch v) s (fun t => decide (t.get (SHAPE_A_LEAD ch i) = max 64 (min 4096 (t.get (AS_PREHEAT_LEAD ch)))) && decide (t.get (SHAPE_C_CONT_LEAD ch i) = 64)))
      (w0) (1) (0xFFFFFFFF#32) (7) = true) ∧
    ((fun (s : State) (ch : Ch) (v : Word) =>
      s.wfb && decide (s.dieOn (ch + 1) = true)
        && ran (.wrPolicyWrite ch v) s (fun t => decide ((t.wruOf ch).precomp = true)))
      (w0) (1) (5#32) = true) :=
  ⟨by decide +kernel, by decide +kernel, by decide +kernel, by decide +kernel, by decide +kernel⟩

theorem test_Fly_height_and_contact_calibration_1 :
    ((fun (s : State) (ch : Ch) (reg : Fin 3) (head : Fin 6) (k : Fin 6) (v : Word) =>
      s.wfb && decide (s.dieOn (ch + 1) = true)
        && ran (.flyDerive ch reg head v) s (fun t => decide ((t.get (FLY_PC_PC ch k) = 0 ∨ t.get (FLY_EFF_EFF ch k) = 0 → t.num (FLY_PR ch k) = 0 ∧ t.num (FLY_PW ch k) = 0 ∧ bitOf (t.get (FLY_STAT_UNCAL ch)) k = true)) && decide ((t.get (FLY_PC_PC ch k) ≠ 0 → t.get (FLY_EFF_EFF ch k) ≠ 0 → t.num (FLY_PR ch k) = (clampI 0 4095 ((t.get (FLY_PC_PC ch k) : Int) - clearancePower (t.get (FLY_CLR_CLR_R ch k)) (t.get (FLY_EFF_EFF ch k)))).toNat ∧ bitOf (t.get (FLY_STAT_UNCAL ch)) k = false))))
      ((w0.setNum (FLY_PC 1 5) 1000).setNum (FLY_EFF 1 5) 800) (1) (0) (5) (5) (0x00200030#32) = true) ∧
    ((fun (s : State) (ch : Ch) (v : Word) =>
      s.wfb && decide (s.dieOn (ch + 1) = true)
        && ran (.flyReqWrite ch v) s (fun t => decide ((t.get (FLY_REQ_WRITE ch) ≠ s.get (FLY_REQ_WRITE ch) → (t.pauOf ch).htrDue = true)) && decide (t.resp = .done)))
      (w0) (1) (1#32) = true) ∧
    ((fun (s : State) (ch : Ch) (head : Fin 8) =>
      s.wfb && decide (s.dieOn (ch + 1) = true) && decide (s.flag (FLY_STAT_BUSY ch) = false) && decide (s.mode ch = mFollow) && decide ((s.loopOf ch).head = some head.val)
        && ran (.flyGo ch head) s (fun t => decide (t.flag (FLY_STAT_BUSY ch) = true) && decide ((t.fluOf ch).cal = some ⟨head, [], s.startPower ch head, 0, 0, false, 0, false⟩) && decide (t.flag (WR_STAT_GATE ch) = false) && decide ((look (unitBase (ch + 1) 7) s.holders = none → look (unitBase (ch + 1) 7) t.holders = some 2)) && decide ((look (unitBase (ch + 1) 9) s.holders = none → look (unitBase (ch + 1) 9) t.holders = some 2))))
      ((w0.setMode 1 mFollow).modLoop 1 (fun l => { l with head := some 1 })) (1) (1) = true) ∧
    ((fun (s : State) (ch : Ch) (head : Fin 8) =>
      s.wfb && decide (s.dieOn (ch + 1) = true) && decide (s.flag (FLY_STAT_BUSY ch) = false) && decide (s.mode ch ≠ mFollow ∨ (s.loopOf ch).head ≠ some head.val)
        && ran (.flyGo ch head) s (fun t => decide (t.flag (FLY_STAT_CREJ ch) = true) && decide (t.flu = s.flu)))
      (w0) (1) (1) = true) ∧
    ((fun (s : State) (ch : Ch) (c : FlyCal) =>
      s.wfb && decide (s.dieOn (ch + 1) = true) && decide ((s.fluOf ch).cal = some c)
        && ran (.flyAbort ch) s (fun t => decide ((t.fluOf ch).cal = some { c with abort := true })))
      (w0.modFlu 1 (fun f => { f with cal := some ⟨1, [], 5, 0, 0, false, 0, false⟩ })) (1) (⟨1, [], 5, 0, 0, false, 0, false⟩) = true) ∧
    ((fun (s : State) (ch : Ch) (c : FlyCal) =>
      s.wfb && decide (s.chUp ch = true) && decide ((s.fluOf ch).cal = some c) && decide (c.abort = true)
        && ran (.contactSweepStep ch) s (fun t => decide ((t.fluOf ch).cal = none) && decide (t.flag (FLY_STAT_BUSY ch) = false) && decide (t.flag (FLY_STAT_DONE ch) = true)))
      (w0.modFlu 1 (fun f => { f with cal := some ⟨1, [], 5, 0, 0, true, 0, false⟩ })) (1) (⟨1, [], 5, 0, 0, true, 0, false⟩) = true) ∧
    ((fun (s : State) (ch : Ch) (c : FlyCal) =>
      s.wfb && decide (s.chUp ch = true) && decide ((s.fluOf ch).cal = some c) && decide (c.abort = false) && decide (s.foreHas (flyUnits ch) = true) && decide (c.revs < 2)
        && ran (.contactSweepStep ch) s (fun t => decide ((t.fluOf ch).cal = some { c with revs := c.revs + 1, base := c.base + (s.pauOf ch).ecsSum, baseN := c.baseN + (s.pauOf ch).ecsN }) && decide (t.bank = s.bank)))
      ({ w0.modFlu 1 (fun f => { f with cal := some ⟨1, [], 5, 1, 0, false, 0, false⟩ }) with holders := [(unitBase 2 7, 2), (unitBase 2 9, 2)] }) (1) (⟨1, [], 5, 1, 0, false, 0, false⟩) = true) ∧
    ((fun (s : State) (ch : Ch) (c : FlyCal) (a : Nat) =>
      s.wfb && decide (s.chUp ch = true) && decide ((s.fluOf ch).cal = some c) && decide (c.abort = false) && decide (s.foreHas (flyUnits ch) = true) && decide (2 < c.revs) && decide (contactMade (s.get (FLY_CFG_RATIO ch)) c.base c.baseN (s.pauOf ch).ecsSum (s.pauOf ch).ecsN = true) && decide (c.results = [some a]) && decide (((a : Int) - c.power).natAbs ≤ s.get (FLY_CFG_CTOL ch)) && decide (c.head < 6) && decide (c.power < 4096)
        && ran (.contactSweepStep ch) s (fun t => decide (t.num (FLY_PC ch c.head) = c.power) && decide ((t.fluOf ch).cal = none) && decide (t.flag (FLY_STAT_BUSY ch) = false) && decide (t.flag (FLY_STAT_DONE ch) = true)))
      ({ (w0.put (FLY_STAT_BUSY 1) 1).modFlu 1 (fun f => { f with cal := some ⟨1, [some 700], 700, 9, 10, false, 1, false⟩ }) |>.modPau 1 (fun p => { p with ecsSum := 90, ecsN := 1 }) with holders := [(unitBase 2 7, 2), (unitBase 2 9, 2)] }) (1) (⟨1, [some 700], 700, 9, 10, false, 1, false⟩) (700) = true) :=
  ⟨by decide +kernel, by decide +kernel, by decide +kernel, by decide +kernel, by decide +kernel, by decide +kernel, by decide +kernel, by decide +kernel⟩

theorem test_Fly_height_and_contact_calibration_2 :
    (fun (s : State) (ch : Ch) (c : FlyCal) =>
      s.wfb && decide (s.chUp ch = true) && decide ((s.fluOf ch).cal = some c) && decide (c.abort = false) && decide (s.foreHas (flyUnits ch) = false)
        && ran (.contactSweepStep ch) s (fun t => decide (t.flu = s.flu) && decide (t.bank = s.bank)))
      (w0.modFlu 1 (fun f => { f with cal := some ⟨1, [], 5, 1, 0, false, 0, false⟩ })) (1) (⟨1, [], 5, 1, 0, false, 0, false⟩) = true := by decide +kernel

theorem test_The_preamp_port :
    ((fun (s : State) (ch : Ch) (lastSlot : Bool) =>
      s.wfb && decide (s.chUp ch = true) && decide (s.flag (PA_CTL_RUN ch) = true)
        && ran (.preampSlot ch lastSlot none) s (fun t => decide ((t.pauOf ch).bad = (s.pauOf ch).bad + 1) && decide ((t.pauOf ch).sent.isSome = true) && decide (t.num (REPLY_ERR ch) = min (s.num (REPLY_ERR ch) + 1) 0xFFFFFFFF)))
      (w0.put (PA_CTL_RUN 1) 1) (1) (false) = true) ∧
    ((fun (s : State) (ch : Ch) (lastSlot : Bool) (r : Nat) =>
      s.wfb && decide (s.chUp ch = true) && decide (s.flag (PA_CTL_RUN ch) = true) && decide (crc8 (bitsMsb 40 (r / 256)) = r % 256)
        && ran (.preampSlot ch lastSlot (some r)) s (fun t => decide ((t.pauOf ch).bad = 0) && decide (t.get (PA_STAT_FLT ch) = bitsOf r 47 40) && decide (t.get (PA_STAT_AMON ch) = bitsOf r 23 8)))
      (w0.put (PA_CTL_RUN 1) 1) (1) (true) (clasp48 0x0100001234) = true) ∧
    ((fun (s : State) (ch : Ch) =>
      s.wfb && decide (s.chUp ch = true) && decide (64 ≤ (s.pauOf ch).bad) && decide (s.flag (PA_FAULT_NO_REPLY ch) = false)
        && ran (.preampNoReply ch) s (fun t => decide (t.flag (PA_FAULT_NO_REPLY ch) = true) && decide ((s.actState ch = 1 → t.actState ch = 2))))
      ((w0.modPau 1 (fun p => { p with bad := 64 })).setActState 1 1) (1) = true) ∧
    ((fun (s : State) (ch : Ch) (aflt : Bool) =>
      s.wfb && decide (s.chUp ch = true)
        && ran (.fltnLow ch true aflt) s (fun t => decide ((aflt = true → bitOf (t.num (AS_FAULT ch)) 2 = true)) && decide (t.flag (PA_STAT_FLTN ch) = true) && decide (bitOf (t.num (PA_FAULT ch)) 0 = true) && decide (t.flag (WR_STAT_GATE ch) = false)))
      (w0) (1) (true) = true) ∧
    ((fun (s : State) (ch : Ch) (aflt : Bool) =>
      s.wfb && decide (s.chUp ch = true)
        && ran (.fltnLow ch false aflt) s (fun t => decide (t.flag (PA_STAT_FLTN ch) = false) && decide (t.num (PA_FAULT ch) = s.num (PA_FAULT ch))))
      (w0.put (PA_STAT_FLTN 1) 1) (1) (false) = true) ∧
    ((fun (s : State) (ch : Ch) =>
      s.wfb && decide (s.dieOn (ch + 1) = true)
        && ran (.paArm ch) s (fun t => decide ((t.pauOf ch).regs = (s.pauOf ch).regs ++ [(⟨false, 0, paMode, 0x8002⟩, true)])))
      (w0) (1) = true) ∧
    ((fun (s : State) (ch : Ch) (v : Word) =>
      s.wfb && decide (s.dieOn (ch + 1) = true) && decide (v.getLsbD 31 = true) && decide (s.flag (PA_QRSP_BUSY ch) = false)
        && ran (.paQcmdGo ch v) s (fun t => decide (t.flag (PA_QRSP_BUSY ch) = true) && decide ((t.pauOf ch).queued = some ⟨v.getLsbD 30, bitsOf v.toNat 27 24, bitsOf v.toNat 19 16, bitsOf v.toNat 15 0⟩)))
      (w0) (1) (0xC5061234#32) = true) ∧
    ((fun (s : State) (ch : Ch) (head : Fin 6) (v : Word) =>
      s.wfb && decide (s.dieOn (ch + 1) = true)
        && ran (.wrHeadWrite ch head v) s (fun t => decide ((t.pauOf ch).regs = (s.pauOf ch).regs ++ [(⟨false, s.headCode ch head, paWcur, t.get (WR_HEAD_WCUR ch head)⟩, false), (⟨false, s.headCode ch head, paWovs, t.get (WR_HEAD_OSA ch head) * 256 + t.get (WR_HEAD_OSD ch head)⟩, false)])))
      (w0) (1) (5) (0x12345678#32) = true) :=
  ⟨by decide +kernel, by decide +kernel, by decide +kernel, by decide +kernel, by decide +kernel, by decide +kernel, by decide +kernel, by decide +kernel⟩

theorem test_The_Folio_engine_codes_seventeen_members :
    ((fun (s : State) (d : List Byte) =>
      s.wfb && decide (s.folNext.1 = some d) && decide (fieldLe d 0 1 = 1) && decide (folInSram d = true) && decide (disjoint ((s.folSlot, 16) :: folRanges d) = true) && decide (s.marks = []))
      ({ (w0.put FOL_CTL_EN 1).setNum FQ_HEAD 1 with hsram := folMem (folWit 1 0 0) }) (folWit 1 0 0) = true) ∧
    ((fun (s : State) (d : List Byte) =>
      s.wfb && decide (s.folNext.1 = some d) && decide (fieldLe d 0 1 = 2) && decide (folMiss d ≤ 16) && decide (folInSram d = true) && decide (inHubSram (fieldLe d 16 8) 4096 = true) && decide (inHubSram (fieldLe d 24 8) 72 = true) && decide (disjoint [(s.folSlot, 16), (fieldLe d 16 8, 4096), (fieldLe d 24 8, 72)] = true) && decide (s.marks = []))
      ({ (w0.put FOL_CTL_EN 1).setNum FQ_HEAD 1 with hsram := folMem (folWit 2 16 0) }) (folWit 2 16 0) = true) ∧
    ((fun (s : State) (d : List Byte) =>
      s.wfb && decide (s.folNext.1 = some d) && decide (fieldLe d 0 1 = 3) && decide (folBad d = false) && decide (folInSram d = true) && decide (inHubSram (fieldLe d 16 8) 16672 = true) && decide (inHubSram (fieldLe d 24 8) 16672 = true) && decide (disjoint [(s.folSlot, 16), (fieldLe d 16 8, 16672)] = true) && decide (s.marks = []))
      ({ (w0.put FOL_CTL_EN 1).setNum FQ_HEAD 1 with hsram := folMem (folWit 3 1 2) }) (folWit 3 1 2) = true) ∧
    ((fun (s : State) (d : List Byte) =>
      s.wfb && decide (s.folNext.1 = some d) && decide (folBad d = true))
      ({ (w0.put FOL_CTL_EN 1).setNum FQ_HEAD 1 with hsram := folMem (folWit 4 1 2) }) (folWit 4 1 2) = true) :=
  ⟨by decide +kernel, by decide +kernel, by decide +kernel, by decide +kernel⟩

theorem test_The_Catalogue_carries_out_requests_in_order_1 :
    ((fun (s : State) =>
      s.wfb && decide (s.catNext.map (fun q => (rqOp q.1, (doLookup q.1 q.2).1.status)) = some (1, catDone)))
      (catWit (rqWit 1 0 1 (sramBase + 0x4000) 16)) = true) ∧
    ((fun (s : State) =>
      s.wfb && decide (s.catNext.map (fun q => (rqOp q.1, (doSmAdd q.1 q.2).1.status)) = some (2, catDone)))
      ((catWit (rqWit 2 0 0 (sramBase + 0x5000) 0)).hsWrite 0x5008 [1]) = true) ∧
    ((fun (s : State) =>
      s.wfb && decide (s.catNext.map (fun q => (rqOp q.1, (doSmDrop q.1 q.2).1.status)) = some (3, catDone)))
      ((catWit (rqWit 3 0 0 0 1)).hsWrite 0x1010 [1, 0, 0, 0, 1]) = true) ∧
    ((fun (s : State) =>
      s.wfb && decide (s.catNext.map (fun q => (rqOp q.1, (doZoneSet q.1 q.2).1.status)) = some (4, catDone)))
      (catWit (rqWit 4 0 0 (sramBase + 0x5000) 0)) = true) ∧
    ((fun (s : State) =>
      s.wfb && decide (s.catNext.map (fun q => (rqOp q.1, (doBandSet q.1 q.2).1.status)) = some (5, catDone)))
      ((catWit (rqWit 5 0 0 (sramBase + 0x5000) 0)).hsWrite 0x5008 [0, 2, 0, 1]) = true) ∧
    ((fun (s : State) =>
      s.wfb && decide (s.catNext.map (fun q => (rqOp q.1, (doSwitch q.1 q.2).1.status)) = some (6, catDone)))
      ((catWit (rqWit 6 0 0 0 2)).nvsWrite (slotAt 2) [2]) = true) ∧
    ((fun (s : State) =>
      s.wfb && decide (s.catNext.map (fun q => (rqOp q.1, (doRbSet q.1 q.2).1.status)) = some (7, catDone)))
      ((catWit (rqWit 7 0 0 (sramBase + 0x5000) 3)).nvsWrite (slotAt 3) [3]) = true) ∧
    ((fun (s : State) (r : List Byte) (s' : State) =>
      s.wfb && decide (s.catNext = some (r, s')) && decide (rqOp r = 1) && decide (rqArg r = 1) && decide (rqCount r = 1) && decide (rqDlba r / 65536 < s.num ZONES) && decide (s.marks = []) && decide (inHubSram (s.zoneAt (rqDlba r / 65536)) 32 = true) && decide (inHubSram (rqOut r) 16 = true) && decide (zeLen (s.zoneEnt (rqDlba r / 65536)) = 0) && decide (zeBwp (s.zoneEnt (rqDlba r / 65536)) = 0) && decide (disjoint [(s.rcSlot, 32), (rqOut r, 16)] = true))
      (catWit (rqWit 1 5 1 (sramBase + 0x4000) 1)) (rqWit 1 5 1 (sramBase + 0x4000) 1) ((catWit (rqWit 1 5 1 (sramBase + 0x4000) 1)).setNum RQ_TAIL 1) = true) :=
  ⟨by decide +kernel, by decide +kernel, by decide +kernel, by decide +kernel, by decide +kernel, by decide +kernel, by decide +kernel, by decide +kernel⟩

theorem test_The_Catalogue_carries_out_requests_in_order_2 :
    ((fun (s : State) (r : List Byte) (s' : State) =>
      s.wfb && decide (s.catNext = some (r, s')) && decide (rqOp r = 1) && decide (rqArg r = 1) && decide (rqCount r = 1) && decide (rqDlba r / 65536 < s.num ZONES) && decide (s.marks = []) && decide (inHubSram (s.zoneAt (rqDlba r / 65536)) 32 = true) && decide (inHubSram (s.markAt (zeChain (s.zoneEnt (rqDlba r / 65536)))) 32 = true) && decide (inHubSram (rqOut r) 16 = true) && decide (zeLen (s.zoneEnt (rqDlba r / 65536)) = 1) && decide (zeBwp (s.zoneEnt (rqDlba r / 65536)) = 0) && decide (zeChain (s.zoneEnt (rqDlba r / 65536)) < s.num SM_TOTAL) && decide (smKind (s.markEnt (zeChain (s.zoneEnt (rqDlba r / 65536)))) = 1) && decide (smFirst (s.markEnt (zeChain (s.zoneEnt (rqDlba r / 65536)))) ≤ rqDlba r) && decide (rqDlba r < smFirst (s.markEnt (zeChain (s.zoneEnt (rqDlba r / 65536)))) + smCount (s.markEnt (zeChain (s.zoneEnt (rqDlba r / 65536))))) && decide (disjoint [(s.rcSlot, 32), (rqOut r, 16)] = true))
      (((catWit (rqWit 1 5 1 (sramBase + 0x4000) 1)).hsWrite 0x1010 (toLe 4 1 ++ toLe 2 1)).hsWrite 0x3020 (toLe 8 5 ++ toLe 8 (3 * 2 ^ 40 + 1))) (rqWit 1 5 1 (sramBase + 0x4000) 1) ((((catWit (rqWit 1 5 1 (sramBase + 0x4000) 1)).hsWrite 0x1010 (toLe 4 1 ++ toLe 2 1)).hsWrite 0x3020 (toLe 8 5 ++ toLe 8 (3 * 2 ^ 40 + 1))).setNum RQ_TAIL 1) = true) ∧
    ((fun (s : State) (r : List Byte) (s' : State) (z : Nat) (i : Nat) (rest : List Nat) =>
      s.wfb && decide (s.catNext = some (r, s')) && decide (rqOp r = 2) && decide (s.marks = []) && decide (inHubSram (rqOut r) 32 = true) && decide (z = smFirst (s.sramAt (rqOut r) 32) / 65536) && decide (z < s.num ZONES) && decide (s.smFree = i :: rest) && decide (inHubSram (s.zoneAt z) 32 = true) && decide (inHubSram (s.markAt i) 32 = true) && decide (inHubSram s.mjSlot 32 = true) && decide (smOk (s.sramAt (rqOut r) 32) (s.zoneEnt z) = true) && decide (zeLen (s.zoneEnt z) < s.get CAT_CTL_CHAIN_LIM) && decide (s.mjFull = false) && decide (disjoint [(s.rcSlot, 32), (s.zoneAt z, 32), (s.markAt i, 32), (s.mjSlot, 32)] = true))
      ((catWit (rqWit 2 0 0 (sramBase + 0x5000) 0)).hsWrite 0x5008 [1]) (rqWit 2 0 0 (sramBase + 0x5000) 0) (((catWit (rqWit 2 0 0 (sramBase + 0x5000) 0)).hsWrite 0x5008 [1]).setNum RQ_TAIL 1) (0) (2) ([3]) = true) ∧
    ((fun (s : State) (r : List Byte) (s' : State) =>
      s.wfb && decide (s.catNext = some (r, s')) && decide (rqOp r = 3) && decide (s.marks = []) && decide (rqZone r < s.num ZONES) && decide (inHubSram (s.zoneAt (rqZone r)) 32 = true) && decide (inHubSram (s.markAt (rqArg r)) 32 = true) && decide (inHubSram s.mjSlot 32 = true) && decide (zeLen (s.zoneEnt (rqZone r)) = 1) && decide (zeChain (s.zoneEnt (rqZone r)) = rqArg r) && decide (rqArg r < s.num SM_TOTAL) && decide (s.mjFull = false) && decide (disjoint [(s.rcSlot, 32), (s.zoneAt (rqZone r), 32), (s.mjSlot, 32)] = true))
      ((catWit (rqWit 3 0 0 0 1)).hsWrite 0x1010 [1, 0, 0, 0, 1]) (rqWit 3 0 0 0 1) (((catWit (rqWit 3 0 0 0 1)).hsWrite 0x1010 [1, 0, 0, 0, 1]).setNum RQ_TAIL 1) = true) ∧
    ((fun (s : State) (r : List Byte) (s' : State) =>
      s.wfb && decide (s.catNext = some (r, s')) && decide (rqOp r = 4) && decide (s.marks = []) && decide (rqZone r < s.num ZONES) && decide (inHubSram (rqOut r) 32 = true) && decide (inHubSram (s.zoneAt (rqZone r)) 32 = true) && decide (inHubSram s.mjSlot 32 = true) && decide (s.mjFull = false) && decide (disjoint [(s.rcSlot, 32), (s.zoneAt (rqZone r), 32), (s.mjSlot, 32)] = true))
      ((catWit (rqWit 4 0 0 (sramBase + 0x5000) 0)).hsWrite 0x5000 [0x20, 0, 1]) (rqWit 4 0 0 (sramBase + 0x5000) 0) (((catWit (rqWit 4 0 0 (sramBase + 0x5000) 0)).hsWrite 0x5000 [0x20, 0, 1]).setNum RQ_TAIL 1) = true) ∧
    ((fun (s : State) (r : List Byte) (s' : State) =>
      s.wfb && decide (s.catNext = some (r, s')) && decide (rqOp r = 5) && decide (s.marks = []) && decide (rqArg r < s.num BANDS) && decide (inHubSram (rqOut r) 32 = true) && decide (inHubSram (s.bandAt (rqArg r)) 32 = true) && decide (inHubSram s.mjSlot 32 = true) && decide (s.mjFull = false) && decide (beState (s.sramAt (rqOut r) 32) ≠ 1) && decide (65536 + beSkips (s.sramAt (rqOut r) 32) ≤ beSpt (s.sramAt (rqOut r) 32) * beTracks (s.sramAt (rqOut r) 32)) && decide (disjoint [(s.rcSlot, 32), (s.bandAt (rqArg r), 32), (s.mjSlot, 32)] = true))
      ((catWit (rqWit 5 0 0 (sramBase + 0x5000) 0)).hsWrite 0x5008 [0, 2, 0, 1]) (rqWit 5 0 0 (sramBase + 0x5000) 0) (((catWit (rqWit 5 0 0 (sramBase + 0x5000) 0)).hsWrite 0x5008 [0, 2, 0, 1]).setNum RQ_TAIL 1) = true) ∧
    ((fun (s : State) (r : List Byte) (s' : State) (z : Nat) (old : Nat) (new : Nat) =>
      s.wfb && decide (s.catNext = some (r, s')) && decide (rqOp r = 6) && decide (s.marks = []) && decide (rqArg r < 4) && decide (slState (s.slot (rqArg r)) = 2) && decide (z = slZone (s.slot (rqArg r))) && decide (old = slOld (s.slot (rqArg r))) && decide (new = slNew (s.slot (rqArg r))) && decide (z < s.num ZONES) && decide (inHubSram (s.zoneAt z) 32 = true) && decide (inHubSram (s.bandAt old) 32 = true) && decide (inHubSram (s.bandAt new) 32 = true) && decide (inHubSram s.mjSlot 32 = true) && decide (zeLen (s.zoneEnt z) = 0) && decide (slProgress (s.slot (rqArg r)) = (if slKind (s.slot (rqArg r)) = 1 then 65536 else zeBwp (s.zoneEnt z))) && decide (s.mjFull = false) && decide (disjoint [(s.rcSlot, 32), (s.zoneAt z, 32), (s.bandAt old, 32), (s.bandAt new, 32), (s.mjSlot, 32)] = true))
      (((catWit (rqWit 6 0 0 0 2)).setNum BANDS 2).nvsWrite (slotAt 2) ([2] ++ List.replicate 15 0 ++ [1])) (rqWit 6 0 0 0 2) ((((catWit (rqWit 6 0 0 0 2)).setNum BANDS 2).nvsWrite (slotAt 2) ([2] ++ List.replicate 15 0 ++ [1])).setNum RQ_TAIL 1) (0) (0) (1) = true) ∧
    ((fun (s : State) (r : List Byte) (s' : State) (z : Nat) =>
      s.wfb && decide (s.catNext = some (r, s')) && decide (rqOp r = 7) && decide (s.marks = []) && decide (rqArg r < 4) && decide (inHubSram (rqOut r) 64 = true) && decide (slState (s.slot (rqArg r)) = 0) && decide (slState (s.sramAt (rqOut r) 64) = 1) && decide (z = slZone (s.sramAt (rqOut r) 64)) && decide (z < s.num ZONES) && decide (inHubSram (s.zoneAt z) 32 = true) && decide (inHubSram s.mjSlot 32 = true) && decide (zeRb (s.zoneEnt z) = false) && decide (s.mjFull = false) && decide (disjoint [(s.rcSlot, 32), (s.zoneAt z, 32), (s.mjSlot, 32)] = true))
      ((catWit (rqWit 7 0 0 (sramBase + 0x5000) 3)).hsWrite 0x5000 [1]) (rqWit 7 0 0 (sramBase + 0x5000) 3) (((catWit (rqWit 7 0 0 (sramBase + 0x5000) 3)).hsWrite 0x5000 [1]).setNum RQ_TAIL 1) (0) = true) ∧
    ((fun (s : State) =>
      s.wfb && decide (s.dieOn 0 = true) && decide (s.flag CAT_CTL_EN = false) && decide (s.num ZONES = 0) && decide ((List.range 4).all (fun k => decide (slState (s.slot k) ≠ 3)) = true)
        && ran (.catalogueEnable) s (fun t => decide (t.flag CAT_CTL_EN = true) && decide (t.smFree = List.range (s.num SM_TOTAL)) && decide (t.num SM_FREE = (s.num SM_TOTAL) % 0x100000000)))
      (w0.setNum SM_TOTAL 3) = true) :=
  ⟨by decide +kernel, by decide +kernel, by decide +kernel, by decide +kernel, by decide +kernel, by decide +kernel, by decide +kernel, by decide +kernel⟩

theorem test_DRAM_accesses_and_DRAMC_commands :
    ((fun (s : State) (cls : Fin 16) (a : Nat) (bytes : List Byte) =>
      s.wfb && decide (inDram a bytes.length = true) && decide (bytes ≠ []) && decide (a % 128 + bytes.length ≤ 128) && decide (s.scFind a = none) && decide (2 ≤ s.scPolicy a) && decide (s.valid.contains (dramUnit (a - dramBase)) = true) && decide (s.marks = [])
        && ran (.dramWrite cls a bytes .none) s (fun t => decide (t.resp = .done) && decide (t.dram.readN 0 (a - dramBase) bytes.length = bytes)))
      ({ w0 with valid := [0] }) (3) (0x200000010) ([1, 0, 7]) = true) ∧
    ((fun (s : State) (cls : Fin 16) (a : Nat) (bytes : List Byte) (k : Nat) (l : ScLine) =>
      s.wfb && decide (inDram a bytes.length = true) && decide (bytes ≠ []) && decide (a % 128 + bytes.length ≤ 128) && decide (a % 8 = 0) && decide (bytes.length % 8 = 0) && decide (s.scFind a = some (k, l)) && decide (s.scPolicy a = 0) && decide (s.victims = [])
        && ran (.dramWrite cls a bytes .none) s (fun t => decide (t.resp = .done) && decide (look k t.lines = some ⟨l.line, true, 0, overlay l.data (a - l.line * 128) bytes⟩) && decide (t.dram = s.dram)))
      ({ w0.put SC_CTL_EN 1 with lines := [(0, ⟨0x4000000, false, 2, List.replicate 128 1⟩)] }) (3) (0x200000010) ([1, 0, 7, 0, 0, 0, 0, 2]) (0) (⟨0x4000000, false, 2, List.replicate 128 1⟩) = true) ∧
    ((fun (s : State) (cls : Fin 16) (a : Nat) (bytes : List Byte) (u : Upset) =>
      s.wfb && decide (inDram a bytes.length = false)
        && ran (.dramWrite cls a bytes u) s (fun t => decide (t = s.answer .busError)))
      (w0) (3) (0x10) ([1, 0, 7]) (.none) = true) ∧
    ((fun (s : State) (count : Nat) (u : Nat) =>
      s.wfb && decide (s.dieOn 0 = true) && decide (s.flag DCMD_STAT_BUSY = false) && decide (s.dcmdUnit = some u) && decide (count ≠ 0) && decide (u + count ≤ 0xF0000)
        && ran (.dramInvalidate count) s (fun t => decide (t.flag DCMD_STAT_BUSY = true) && decide (t.valid = s.valid.filter (fun x => !(decide (u ≤ x) && decide (x < u + count))))))
      ({ (w0.put DCMD_ADDR_LO_ADDR 2).put DCMD_ADDR_HI_ADDR 2 with valid := [1, 2, 3, 9] }) (2) (2) = true) ∧
    ((fun (s : State) (u : Nat) =>
      s.wfb && decide (s.dieOn 0 = true) && decide (s.flag DCMD_STAT_BUSY = false) && decide (s.dcmdUnit = some u) && decide (s.get DRAMC_STAT_SPARES < 3840)
        && ran (.dramSpare) s (fun t => decide (t.flag DCMD_STAT_BUSY = true) && decide (t.get DRAMC_STAT_SPARES = s.get DRAMC_STAT_SPARES + 1) && decide (t.spares = place u (s.get DRAMC_STAT_SPARES) s.spares)))
      ((w0.put DCMD_ADDR_LO_ADDR 2).put DCMD_ADDR_HI_ADDR 2) (2) = true) ∧
    ((fun (s : State) =>
      s.wfb && decide (s.dieOn 0 = true) && decide (s.flag DCMD_STAT_BUSY = true)
        && ran (.dramSpare) s (fun t => decide (t.flag DCMD_STAT_REJ = true) && decide (t.spares = s.spares)))
      (w0.put DCMD_STAT_BUSY 1) = true) ∧
    ((fun (s : State) (u : Nat) =>
      s.wfb && decide (s.dieOn 0 = true) && decide (s.flag DCMD_STAT_BUSY = false) && decide (s.dcmdUnit = some u) && decide (3840 ≤ s.get DRAMC_STAT_SPARES)
        && ran (.dramSpare) s (fun t => decide (t.flag DCMD_STAT_BUSY = true) && decide (t.dcmdFull = true) && decide (t.spares = s.spares)))
      (((w0.put DCMD_ADDR_LO_ADDR 2).put DCMD_ADDR_HI_ADDR 2).put DRAMC_STAT_SPARES 3840) (2) = true) ∧
    ((fun (s : State) =>
      s.wfb && decide (s.flag DCMD_STAT_BUSY = true)
        && ran (.dcmdDone) s (fun t => decide (t.flag DCMD_STAT_BUSY = false) && decide (t.flag DCMD_STAT_DONE = true) && decide ((s.dcmdFull = true → t.flag DCMD_STAT_FULL = true)) && decide (t.sparesKept = s.spares)))
      ({ w0.put DCMD_STAT_BUSY 1 with dcmdFull := true }) = true) :=
  ⟨by decide +kernel, by decide +kernel, by decide +kernel, by decide +kernel, by decide +kernel, by decide +kernel, by decide +kernel, by decide +kernel⟩

theorem test_Shared_cache_maintenance_and_scrubbing_1 :
    ((fun (s : State) =>
      s.wfb && decide (s.dieOn 0 = true) && decide (s.flag SC_MOP_STAT_BUSY = false) && decide ((s.lines.map (fun e => e.1)).Pairwise (fun x y => x < y))
        && ran (.scClean) s (fun t => decide (t.flag SC_MOP_STAT_BUSY = true) && decide (t.lines.all (fun e => !(e.2.dirty && s.mopRange e.2)) = true) && decide (t.lines.length = s.lines.length)))
      ({ (w0.setNum SC_MOP_LEN 2).put SC_MOP_ADDR_HI_ADDR 2 with lines := [(0, ⟨0x4000000, true, 0, List.replicate 128 1⟩), (3, ⟨0x4000009, true, 0, List.replicate 128 1⟩)] }) = true) ∧
    ((fun (s : State) =>
      s.wfb && decide (s.dieOn 0 = true) && decide (s.flag SC_MOP_STAT_BUSY = false) && decide ((s.lines.map (fun e => e.1)).Pairwise (fun x y => x < y)) && decide (s.marks = []) && decide (s.victims = []) && decide (s.lines.all (fun e => decide (e.2.data.length = 128) && inDram (e.2.line * 128) 128) = true) && decide ((s.lines.map (fun e => e.2.line)).Nodup)
        && ran (.scClean) s (fun t => true))
      ({ (w0.setNum SC_MOP_LEN 2).put SC_MOP_ADDR_HI_ADDR 2 with lines := [(0, ⟨0x4000000, true, 0, List.replicate 128 1⟩), (3, ⟨0x4000009, true, 0, List.replicate 128 1⟩)] }) = true) ∧
    ((fun (s : State) =>
      s.wfb && decide (s.dieOn 0 = true) && decide (s.flag SC_MOP_STAT_BUSY = false) && decide ((s.lines.map (fun e => e.1)).Pairwise (fun x y => x < y))
        && ran (.scInval) s (fun t => decide (t.flag SC_MOP_STAT_BUSY = true) && decide (t.lines = s.lines.filter (fun e => !s.mopRange e.2)) && decide (t.dram = s.dram)))
      ({ (w0.setNum SC_MOP_LEN 2).put SC_MOP_ADDR_HI_ADDR 2 with lines := [(0, ⟨0x4000000, true, 0, List.replicate 128 1⟩), (3, ⟨0x4000009, true, 0, List.replicate 128 1⟩)] }) = true) ∧
    ((fun (s : State) =>
      s.wfb && decide (s.dieOn 0 = true) && decide (s.flag SC_MOP_STAT_BUSY = false) && decide ((s.lines.map (fun e => e.1)).Pairwise (fun x y => x < y))
        && ran (.scCleanInval) s (fun t => decide (t.flag SC_MOP_STAT_BUSY = true) && decide (t.lines = s.lines.filter (fun e => !s.mopRange e.2))))
      ({ (w0.setNum SC_MOP_LEN 2).put SC_MOP_ADDR_HI_ADDR 2 with lines := [(0, ⟨0x4000000, true, 0, List.replicate 128 1⟩), (3, ⟨0x4000009, true, 0, List.replicate 128 1⟩)] }) = true) ∧
    ((fun (s : State) =>
      s.wfb && decide (s.dieOn 0 = true) && decide (s.flag SC_MOP_STAT_BUSY = false) && decide ((s.lines.map (fun e => e.1)).Pairwise (fun x y => x < y)) && decide (s.marks = []) && decide (s.victims = []) && decide (s.lines.all (fun e => decide (e.2.data.length = 128) && inDram (e.2.line * 128) 128) = true) && decide ((s.lines.map (fun e => e.2.line)).Nodup)
        && ran (.scCleanInval) s (fun t => true))
      ({ (w0.setNum SC_MOP_LEN 2).put SC_MOP_ADDR_HI_ADDR 2 with lines := [(0, ⟨0x4000000, true, 0, List.replicate 128 1⟩), (3, ⟨0x4000009, true, 0, List.replicate 128 1⟩)] }) = true) ∧
    ((fun (s : State) =>
      s.wfb && decide (s.dieOn 0 = true) && decide (s.flag SC_MOP_STAT_BUSY = false) && decide ((s.lines.map (fun e => e.1)).Pairwise (fun x y => x < y))
        && ran (.scCleanAll) s (fun t => decide (t.flag SC_MOP_STAT_BUSY = true) && decide (t.lines.all (fun e => !e.2.dirty) = true) && decide (t.lines.length = s.lines.length)))
      ({ w0 with lines := [(0, ⟨0x4000000, true, 0, List.replicate 128 1⟩), (3, ⟨0x4000009, true, 0, List.replicate 128 1⟩)] }) = true) ∧
    ((fun (s : State) =>
      s.wfb && decide (s.dieOn 0 = true) && decide (s.flag SC_MOP_STAT_BUSY = false) && decide ((s.lines.map (fun e => e.1)).Pairwise (fun x y => x < y)) && decide (s.marks = []) && decide (s.victims = []) && decide (s.lines.all (fun e => decide (e.2.data.length = 128) && inDram (e.2.line * 128) 128) = true) && decide ((s.lines.map (fun e => e.2.line)).Nodup)
        && ran (.scCleanAll) s (fun t => true))
      ({ w0 with lines := [(0, ⟨0x4000000, true, 0, List.replicate 128 1⟩), (3, ⟨0x4000009, true, 0, List.replicate 128 1⟩)] }) = true) ∧
    ((fun (s : State) =>
      s.wfb && decide (s.dieOn 0 = true) && decide (s.flag SC_MOP_STAT_BUSY = false) && decide ((s.lines.map (fun e => e.1)).Pairwise (fun x y => x < y))
        && ran (.scCleanInvalAll) s (fun t => decide (t.flag SC_MOP_STAT_BUSY = true) && decide (t.lines = [])))
      ({ w0 with lines := [(0, ⟨0x4000000, true, 0, List.replicate 128 1⟩), (3, ⟨0x4000009, true, 0, List.replicate 128 1⟩)] }) = true) :=
  ⟨by decide +kernel, by decide +kernel, by decide +kernel, by decide +kernel, by decide +kernel, by decide +kernel, by decide +kernel, by decide +kernel⟩

theorem test_Shared_cache_maintenance_and_scrubbing_2 :
    ((fun (s : State) =>
      s.wfb && decide (s.dieOn 0 = true) && decide (s.flag SC_MOP_STAT_BUSY = false) && decide ((s.lines.map (fun e => e.1)).Pairwise (fun x y => x < y)) && decide (s.marks = []) && decide (s.victims = []) && decide (s.lines.all (fun e => decide (e.2.data.length = 128) && inDram (e.2.line * 128) 128) = true) && decide ((s.lines.map (fun e => e.2.line)).Nodup)
        && ran (.scCleanInvalAll) s (fun t => true))
      ({ w0 with lines := [(0, ⟨0x4000000, true, 0, List.replicate 128 1⟩), (3, ⟨0x4000009, true, 0, List.replicate 128 1⟩)] }) = true) ∧
    ((fun (s : State) =>
      s.wfb && decide (s.dieOn 0 = true) && decide (s.flag SC_MOP_STAT_BUSY = true)
        && ran (.scCleanAll) s (fun t => decide (t.flag SC_MOP_STAT_REJ = true) && decide (t.lines = s.lines)))
      (w0.put SC_MOP_STAT_BUSY 1) = true) ∧
    ((fun (s : State) =>
      s.wfb && decide (s.flag SC_MOP_STAT_BUSY = true)
        && ran (.mopDone) s (fun t => decide (t.flag SC_MOP_STAT_BUSY = false) && decide (t.flag SC_MOP_STAT_DONE = true)))
      (w0.put SC_MOP_STAT_BUSY 1) = true) ∧
    ((fun (s : State) (m : ArrayNo) (a : Nat) =>
      s.wfb && decide (s.memOn m = true) && decide (s.flag (SCRUB_CTL_EN (memUnit m)) = true) && decide (s.flag (SCRUB_STAT_ACTIVE (memUnit m)) = false) && decide (look (markKey m (a / granule m * granule m)) s.marks = none)
        && ran (.scrubItem m a .none) s (fun t => decide (t.flag (SCRUB_STAT_ACTIVE (memUnit m)) = true) && decide (atD t.lapStart m 0 = s.optime) && decide (t.array m = s.array m)))
      ((w0.put (SCRUB_CTL_EN (memUnit 2)) 1).setNum OPTIME_LO 5) (2) (64) = true) ∧
    ((fun (s : State) (m : ArrayNo) (a : Nat) =>
      s.wfb && decide (s.memOn m = true) && decide (s.flag (SCRUB_CTL_EN (memUnit m)) = true) && decide (a % granule m = 0) && decide (a < 2 ^ 40) && decide (s.itemValid m a = true) && decide (look (markKey m a) s.marks = some .bad)
        && ran (.scrubItem m a .none) s (fun t => decide (t.num64 (UE_ADDR_LO (memUnit m)) (UE_ADDR_HI (memUnit m)) = memAddr m a) && decide (bitOf (t.num (memFault m).addr) 2 = true) && decide (t.array m = s.array m) && decide (look (markKey m a) t.marks = some .bad)))
      ({ w0.put (SCRUB_CTL_EN (memUnit 0)) 1 with valid := [0], marks := [(markKey 0 64, .bad)] }) (0) (64) = true) ∧
    ((fun (s : State) (m : ArrayNo) =>
      s.wfb && decide (s.memOn m = true) && decide (s.flag (SCRUB_STAT_ACTIVE (memUnit m)) = true) && decide (atD s.lapStart m 0 + 128 ≤ s.optime)
        && ran (.scrubLapEnd m) s (fun t => decide (t.flag (SCRUB_STAT_ACTIVE (memUnit m)) = false) && decide (t.get (SCRUB_STAT_LAP_CNT (memUnit m)) = (s.get (SCRUB_STAT_LAP_CNT (memUnit m)) + 1) % 65536) && decide (t.num (LAP_TIME (memUnit m)) = (s.optime - atD s.lapStart m 0) % 2 ^ 32)))
      ((w0.put (SCRUB_STAT_ACTIVE (memUnit 4)) 1).setNum OPTIME_LO 200) (4) = true) ∧
    ((fun (s : State) (m : ArrayNo) (a : Nat) =>
      s.wfb && decide (s.dieOn (addrDie (memUnit m)) = true) && decide (s.expertOpen (TA_CMD (memUnit m)) = true) && decide (s.taAddr m = some a) && decide (m ≠ 1) && decide ((m = 2 → a + 64 ≤ 0xE2000 ∨ 0x100000 ≤ a)) && decide (s.itemValid m a = true))
      ({ (w0.put (TA_ADDR_LO_ADDR (memUnit 2)) 0x2 |>.put (TA_ADDR_HI_ADDR (memUnit 2)) 1).setNum (expertStat (TA_CMD (memUnit 2))) 3 with hsram := [(128, 5), (130, 6)], sramValid := modAt w0.sramValid 0 (fun _ => [2]) }) (2) (128) = true) ∧
    ((fun (s : State) (m : ArrayNo) (a : Nat) =>
      s.wfb && decide (s.dieOn (addrDie (memUnit m)) = true) && decide (s.expertOpen (TA_CMD (memUnit m)) = true) && decide (s.taAddr m = some a) && decide (m ≠ 1) && decide ((m = 2 → a + 64 ≤ 0xE2000 ∨ 0x100000 ≤ a)))
      (((w0.put (TA_ADDR_LO_ADDR (memUnit 2)) 0x2 |>.put (TA_ADDR_HI_ADDR (memUnit 2)) 1).setNum (expertStat (TA_CMD (memUnit 2))) 3).setNum (TA_DATA (memUnit 2) 3) 77) (2) (128) = true) :=
  ⟨by decide +kernel, by decide +kernel, by decide +kernel, by decide +kernel, by decide +kernel, by decide +kernel, by decide +kernel, by decide +kernel⟩

theorem test_Shared_cache_maintenance_and_scrubbing_3 :
    ((fun (s : State) (a : Nat) (k : Nat) (l : ScLine) =>
      s.wfb && decide (s.dieOn 0 = true) && decide (s.expertOpen (TA_CMD (memUnit 1)) = true) && decide (s.taAddr 1 = some a) && decide (s.scFind a = some (k, l)) && decide (l.data.length = 128) && decide (a % 64 = 0))
      ({ (w0.put (TA_ADDR_LO_ADDR (memUnit 1)) 1 |>.put (TA_ADDR_HI_ADDR (memUnit 1)) 2).setNum (expertStat (TA_CMD (memUnit 1))) 3 with lines := [(0, ⟨0x4000000, true, 0, List.replicate 128 1⟩)] }) (0x200000040) (0) (⟨0x4000000, true, 0, List.replicate 128 1⟩) = true) ∧
    ((fun (s : State) (a : Nat) (k : Nat) (l : ScLine) =>
      s.wfb && decide (s.dieOn 0 = true) && decide (s.expertOpen (TA_CMD (memUnit 1)) = true) && decide (s.taAddr 1 = some a) && decide (s.scFind a = some (k, l)))
      ({ (w0.put (TA_ADDR_LO_ADDR (memUnit 1)) 1 |>.put (TA_ADDR_HI_ADDR (memUnit 1)) 2).setNum (expertStat (TA_CMD (memUnit 1))) 3 with lines := [(0, ⟨0x4000000, true, 0, List.replicate 128 1⟩)] }) (0x200000040) (0) (⟨0x4000000, true, 0, List.replicate 128 1⟩) = true) ∧
    ((fun (s : State) (a : Nat) =>
      s.wfb && decide (s.dieOn 0 = true) && decide (s.expertOpen (TA_CMD (memUnit 1)) = true) && decide (s.taAddr 1 = some a) && decide (s.scFind a = none)
        && ran (.writeRaw 1) s (fun t => decide (t.flag (TA_STAT_MISS (memUnit 1)) = true) && decide (t.lines = s.lines)))
      ((w0.put (TA_ADDR_LO_ADDR (memUnit 1)) 1 |>.put (TA_ADDR_HI_ADDR (memUnit 1)) 2).setNum (expertStat (TA_CMD (memUnit 1))) 3) (0x200000040) = true) ∧
    ((fun (s : State) (m : ArrayNo) (v : Word) =>
      s.wfb && decide (s.dieOn (addrDie (memUnit m)) = true)
        && ran (.memCntClr m v) s (fun t => decide (t.num (CE_CNT (memUnit m)) = (if v.getLsbD 0 then 0 else s.num (CE_CNT (memUnit m)))) && decide (t.num (UE_CNT (memUnit m)) = (if v.getLsbD 1 then 0 else s.num (UE_CNT (memUnit m))))))
      ((w0.setNum (CE_CNT (memUnit 3)) 7).setNum (UE_CNT (memUnit 3)) 8) (3) (1) = true) :=
  ⟨by decide +kernel, by decide +kernel, by decide +kernel, by decide +kernel⟩

theorem test_CIPHER_keys_and_Stacks_requests_1 :
    ((fun (s : State) (k : Fin 16) =>
      s.wfb && decide (s.dieOn 0 = true) && decide (s.flag CI_KEYSTAT_BUSY = false)
        && ran (.newkey k) s (fun t => decide (t.flag CI_KEYSTAT_BUSY = true) && decide (t.keyJob = some (k.val, true))))
      (w0) (3) = true) ∧
    ((fun (s : State) (k : Fin 16) =>
      s.wfb && decide (s.dieOn 0 = true) && decide (s.flag CI_KEYSTAT_BUSY = false)
        && ran (.keyErase k) s (fun t => decide (t.flag CI_KEYSTAT_BUSY = true) && decide (t.keyJob = some (k.val, false))))
      (w0) (3) = true) ∧
    ((fun (s : State) (k : Fin 16) =>
      s.wfb && decide (s.dieOn 0 = true) && decide (s.flag CI_KEYSTAT_BUSY = true)
        && ran (.newkey k) s (fun t => decide (t.flag CI_KEYSTAT_REJ = true) && decide (t.keyJob = s.keyJob)))
      (w0.put CI_KEYSTAT_BUSY 1) (3) = true) ∧
    ((fun (s : State) (k : Fin 16) (new : Bool) =>
      s.wfb && decide (s.keyJob = some (k.val, new)))
      ({ w0.put CI_KEYSTAT_BUSY 1 with keyJob := some (3, true) }) (3) (true) = true) ∧
    ((fun (s : State) =>
      s.wfb && decide (s.dieOn 0 = true) && decide (s.flag CI_CTL_EN = false)
        && ran (.cipherEnable) s (fun t => decide (t.flag CI_CTL_EN = true) && decide (t.keys = s.keyStore)))
      (w0) = true) ∧
    ((fun (s : State) (c : CoreNo) (p : Fin 16) (i : Nat) (rest : List Nat) (b : Buf) =>
      s.wfb && decide (s.dieOn 0 = true) && decide (s.flag STK_CTL_EN = true) && decide (s.poolOn p = true) && decide (nameOk (s.get (STK_NAME_NAME c)) = true) && decide (atD s.poolFree p [] = i :: rest) && decide ((s.stkRead i).1 = some b))
      ({ ((((w0.put STK_CTL_EN 1).put STK_TBL_LO_BASE 0x20).put STK_TBL_HI_BASE 2).put (POOL_STAT_STATE 1) 2 |>.put (STK_NAME_NAME 2) 0x10007) with poolFree := modAt w0.poolFree 1 (fun _ => [5, 6]) }) (2) (1) (5) ([6]) (Buf.fresh) = true) ∧
    ((fun (s : State) (c : CoreNo) (p : Fin 16) =>
      s.wfb && decide (s.dieOn 0 = true) && decide (s.flag STK_CTL_EN = true) && decide (s.poolOn p = true) && decide (nameOk (s.get (STK_NAME_NAME c)) = true) && decide (atD s.poolFree p [] = [])
        && ran (.stkAlloc c false p) s (fun t => decide (t.num (STK_RES c) = 0x1000000) && decide (bitOf (t.num stkErr.addr) (16 + p) = true)))
      ((((w0.put STK_CTL_EN 1).put (POOL_STAT_STATE 1) 2).put (STK_NAME_NAME 2) 0x10007)) (2) (1) = true) ∧
    ((fun (s : State) (c : CoreNo) (p : Nat) (b : Buf) =>
      s.wfb && decide (s.dieOn 0 = true) && decide (s.flag STK_CTL_EN = true) && decide (nameOk (s.get (STK_NAME_NAME c)) = true) && decide (nameOk (s.get (STK_NAME2_NAME c)) = true) && decide (s.poolOf (handleIndex (s.get (STK_HANDLE_HANDLE c))) = some p) && decide ((s.stkRead (handleIndex (s.get (STK_HANDLE_HANDLE c)))).1 = some b) && decide (b.gen = handleGen (s.get (STK_HANDLE_HANDLE c))) && decide (b.owners.contains (s.get (STK_NAME_NAME c)) = true) && decide (b.owners.contains (s.get (STK_NAME2_NAME c)) = false) && decide (b.owners.length < 4))
      ({ (stkWit.put (STK_NAME2_NAME 2) 0x10008) with bufs := [(5, ⟨3, [0x10007], 0, List.replicate 16 0⟩)] }) (2) (1) (⟨3, [0x10007], 0, List.replicate 16 0⟩) = true) :=
  ⟨by decide +kernel, by decide +kernel, by decide +kernel, by decide +kernel, by decide +kernel, by decide +kernel, by decide +kernel, by decide +kernel⟩

theorem test_CIPHER_keys_and_Stacks_requests_2 :
    ((fun (s : State) (c : CoreNo) (p : Nat) (b : Buf) =>
      s.wfb && decide (s.dieOn 0 = true) && decide (s.flag STK_CTL_EN = true) && decide (nameOk (s.get (STK_NAME_NAME c)) = true) && decide (s.poolOf (handleIndex (s.get (STK_HANDLE_HANDLE c))) = some p) && decide ((s.stkRead (handleIndex (s.get (STK_HANDLE_HANDLE c)))).1 = some b) && decide (b.gen = handleGen (s.get (STK_HANDLE_HANDLE c))) && decide (b.owners.contains (s.get (STK_NAME_NAME c)) = true) && decide (2 ≤ b.owners.length))
      ({ stkWit with bufs := [(5, ⟨3, [0x10007, 0x10008], 0, List.replicate 16 0⟩)] }) (2) (1) (⟨3, [0x10007, 0x10008], 0, List.replicate 16 0⟩) = true) ∧
    ((fun (s : State) (c : CoreNo) (p : Nat) (b : Buf) =>
      s.wfb && decide (s.dieOn 0 = true) && decide (s.flag STK_CTL_EN = true) && decide (nameOk (s.get (STK_NAME_NAME c)) = true) && decide (s.poolOf (handleIndex (s.get (STK_HANDLE_HANDLE c))) = some p) && decide ((s.stkRead (handleIndex (s.get (STK_HANDLE_HANDLE c)))).1 = some b) && decide (b.gen = handleGen (s.get (STK_HANDLE_HANDLE c))) && decide (b.owners = [s.get (STK_NAME_NAME c)]) && decide (risingFrom 0 s.bufs = true))
      ({ stkWit with bufs := [(5, ⟨3, [0x10007], 0, List.replicate 16 0⟩)] }) (2) (1) (⟨3, [0x10007], 0, List.replicate 16 0⟩) = true) ∧
    ((fun (s : State) (c : CoreNo) (p : Nat) (b : Buf) =>
      s.wfb && decide (s.dieOn 0 = true) && decide (s.flag STK_CTL_EN = true) && decide (s.poolOf (handleIndex (s.get (STK_HANDLE_HANDLE c))) = some p) && decide ((s.stkRead (handleIndex (s.get (STK_HANDLE_HANDLE c)))).1 = some b) && decide (b.gen = handleGen (s.get (STK_HANDLE_HANDLE c))) && decide (b.owners ≠ []))
      ({ stkWit with bufs := [(5, ⟨3, [0x10007], 0, List.replicate 16 0⟩)] }) (2) (1) (⟨3, [0x10007], 0, List.replicate 16 0⟩) = true) ∧
    ((fun (s : State) (c : CoreNo) (p : Nat) (b : Buf) =>
      s.wfb && decide (s.dieOn 0 = true) && decide (s.flag STK_CTL_EN = true) && decide (s.poolOf (handleIndex (s.get (STK_HANDLE_HANDLE c))) = some p) && decide ((s.stkRead (handleIndex (s.get (STK_HANDLE_HANDLE c)))).1 = some b) && decide (b.gen ≠ handleGen (s.get (STK_HANDLE_HANDLE c)) ∨ b.owners = []))
      ({ stkWit with bufs := [(5, ⟨2, [0x10007], 0, List.replicate 16 0⟩)] }) (2) (1) (⟨2, [0x10007], 0, List.replicate 16 0⟩) = true) ∧
    ((fun (s : State) (p : Fin 16) =>
      s.wfb && decide (s.dieOn 0 = true)
        && ran (.poolInit p) s (fun t => decide (t.get (POOL_STAT_STATE p) = 1) && decide (t.num (POOL_FAILS p) = 0) && decide (atD t.poolFree p [] = [])))
      (w0) (4) = true) ∧
    ((fun (s : State) (p : Fin 16) =>
      s.wfb && decide (s.get (POOL_STAT_STATE p) = 1))
      (((w0.put (POOL_STAT_STATE 4) 1).put (POOL_BASE_INDEX 4) 7).put (POOL_COUNT_COUNT 4) 3) (4) = true) ∧
    ((fun (s : State) (p : Fin 16) =>
      s.wfb && decide (s.dieOn 0 = true)
        && ran (.poolOff p) s (fun t => decide (t.get (POOL_STAT_STATE p) = 0)))
      (w0.put (POOL_STAT_STATE 4) 2) (4) = true) ∧
    ((fun (s : State) (p : Fin 16) =>
      s.wfb && decide (s.dieOn 0 = true)
        && ran (.poolClrLow p) s (fun t => decide (t.get (POOL_LOW_LOW p) = s.get (POOL_STAT_FREE p))))
      (w0.put (POOL_STAT_FREE 4) 9) (4) = true) :=
  ⟨by decide +kernel, by decide +kernel, by decide +kernel, by decide +kernel, by decide +kernel, by decide +kernel, by decide +kernel, by decide +kernel⟩

theorem test_Bus_errors_have_no_effect_1 :
    ((fun (s : State) (addr : BitVec 32) (width : Nat) (v : Word) =>
      s.wfb && decide (width ≠ 4 ∨ addr.toNat % 4 ≠ 0)
        && ran (.registerWrite addr width v) s (fun t => decide (t = s.answer .busError)))
      (w0) (0x00000002) (4) (1) = true) ∧
    ((fun (s : State) (addr : BitVec 32) (width : Nat) (v : Word) =>
      s.wfb && decide (width ≠ 4 ∨ addr.toNat % 4 ≠ 0)
        && ran (.expertWrite addr width v) s (fun t => decide (t = s.answer .busError)))
      (w0) (0x00001000) (2) (1) = true) ∧
    ((fun (s : State) (addr : BitVec 32) =>
      s.wfb && decide (addr.toNat % 4 ≠ 0)
        && ran (.wideRegisterRead addr) s (fun t => decide (t = s.answer .busError)))
      (w0) (0x00000003) = true) ∧
    ((fun (s : State) (addr : BitVec 32) (v : Word) =>
      s.wfb && decide (addrDie addr.toNat = 6 ∨ addrDie addr.toNat = 7)
        && ran (.registerWrite addr 4 v) s (fun t => decide (t = s.answer .busError)))
      (w0) (0xC0000000) (1) = true) ∧
    ((fun (s : State) (addr : BitVec 32) (v : Word) =>
      s.wfb && decide (addrDie addr.toNat = 6 ∨ addrDie addr.toNat = 7)
        && ran (.expertWrite addr 4 v) s (fun t => decide (t = s.answer .busError)))
      (w0) (0xE0001000) (1) = true) ∧
    ((fun (s : State) (addr : BitVec 32) =>
      s.wfb && decide (addrDie addr.toNat = 6 ∨ addrDie addr.toNat = 7)
        && ran (.wideRegisterRead addr) s (fun t => decide (t = s.answer .busError)))
      (w0) (0xC0000000) = true) ∧
    ((fun (s : State) (addr : BitVec 32) (v : Word) (ch : Ch) =>
      s.wfb && decide (addrDie addr.toNat = ch + 1) && decide (s.chOn ch = false)
        && ran (.registerWrite addr 4 v) s (fun t => decide (t = s.answer .busError)))
      (State.reset) (0x20000000) (1) (0) = true) ∧
    ((fun (s : State) (addr : BitVec 32) (v : Word) (ch : Ch) =>
      s.wfb && decide (addrDie addr.toNat = ch + 1) && decide (s.chOn ch = false)
        && ran (.expertWrite addr 4 v) s (fun t => decide (t = s.answer .busError)))
      (State.reset) (0x20001000) (1) (0) = true) :=
  ⟨by decide +kernel, by decide +kernel, by decide +kernel, by decide +kernel, by decide +kernel, by decide +kernel, by decide +kernel, by decide +kernel⟩

theorem test_Bus_errors_have_no_effect_2 :
    ((fun (s : State) (addr : BitVec 32) (ch : Ch) =>
      s.wfb && decide (addrDie addr.toNat = ch + 1) && decide (s.chOn ch = false)
        && ran (.wideRegisterRead addr) s (fun t => decide (t = s.answer .busError)))
      (State.reset) (0x80000000) (3) = true) ∧
    ((fun (s : State) (addr : BitVec 32) (v : Word) (k : DieKind) =>
      s.wfb && decide (dieKind (addrDie addr.toNat) = some k) && decide (unitCount k ≤ addrUnit addr.toNat)
        && ran (.registerWrite addr 4 v) s (fun t => decide (t = s.answer .busError)))
      (w0) (0x1F000000) (1) (.hub) = true) ∧
    ((fun (s : State) (addr : BitVec 32) (v : Word) (k : DieKind) =>
      s.wfb && decide (dieKind (addrDie addr.toNat) = some k) && decide (unitCount k ≤ addrUnit addr.toNat)
        && ran (.expertWrite addr 4 v) s (fun t => decide (t = s.answer .busError)))
      (w0) (0x3F001000) (1) (.ch) = true) ∧
    ((fun (s : State) (addr : BitVec 32) (k : DieKind) =>
      s.wfb && decide (dieKind (addrDie addr.toNat) = some k) && decide (unitCount k ≤ addrUnit addr.toNat)
        && ran (.wideRegisterRead addr) s (fun t => decide (t = s.answer .busError)))
      (w0) (0xB0000000) (.kpr) = true) :=
  ⟨by decide +kernel, by decide +kernel, by decide +kernel, by decide +kernel⟩

theorem test_A_closed_Expert_page_ignores_writes :
    ((fun (s : State) (addr : BitVec 32) (v : Word) (k : DieKind) =>
      s.wfb && decide (s.busOk addr.toNat 4 = true) && decide (isExpert addr.toNat = true) && decide (dieKind (addrDie addr.toNat) = some k) && decide (hasExpert k (addrUnit addr.toNat) = true) && decide (s.expertOpen addr.toNat = false) && decide (s.busWaits addr.toNat = false)
        && ran (.expertWrite addr 4 v) s (fun t => decide (t = (s.wr (expertStat addr.toNat) (s.rd (expertStat addr.toNat) ||| 4)).answer .done)))
      (w0) (0x21001000) (7) (.ch) = true) ∧
    ((fun (s : State) (ch : Ch) (v : Word) =>
      s.wfb && decide (s.busOk (SLIP_THR ch) 4 = true) && decide (s.expertOpen (SLIP_THR ch) = true)
        && ran (.expertWrite (BitVec.ofNat 32 (SLIP_THR ch)) 4 v) s (fun t => decide (t.resp = .done) && decide (t.overrides.contains (SLIP_THR ch) = true) && decide (t.get (SLIP_THR_THR ch) = v.toNat % 2 ^ 13)))
      (w0.setNum (expertStat (SLIP_THR 2)) 3) (2) (0x12345) = true) :=
  ⟨by decide +kernel, by decide +kernel⟩

theorem test_Register_reads_and_writes_1 :
    ((fun (s : State) (addr : BitVec 32) (v : Word) =>
      s.wfb && decide (s.busOk addr.toNat 4 = true) && decide (s.busWaits addr.toNat = false)
        && ran (.registerWrite addr 4 v) s (fun t => decide (t.resp = .done)))
      (w0) (0x00000000) (1) = true) ∧
    ((fun (s : State) (addr : BitVec 32) (v : Word) =>
      s.wfb && decide (s.busOk addr.toNat 4 = true) && decide (s.busWaits addr.toNat = false)
        && ran (.expertWrite addr 4 v) s (fun t => decide (t.resp = .done)))
      (w0) (0x00001000) (1) = true) ∧
    ((fun (s : State) (addr : BitVec 32) (v : Word) (d : RegDesc) =>
      s.wfb && decide (s.busOk addr.toNat 4 = true) && decide (s.busWaits addr.toNat = false) && decide (isExpert addr.toNat = false) && decide (ownWrite 17 addr.toNat v s = none) && decide (regAt addr.toNat = some d) && decide (d.w1c = 0)
        && ran (.registerWrite addr 4 v) s (fun t => decide (t.rd addr.toNat = (s.rd addr.toNat &&& ~~~(BitVec.ofNat 32 d.rw)) ||| (v &&& BitVec.ofNat 32 d.rw))))
      (w0) (BitVec.ofNat 32 (STK_NAME 9)) (0xFFF12345) ((regAt (STK_NAME 9)).getD ⟨0, 0, 0, 0, 0, 0, 0, 0, 0, 0⟩) = true) ∧
    ((fun (s : State) (addr : BitVec 32) (v : Word) (d : RegDesc) =>
      s.wfb && decide (s.busOk addr.toNat 4 = true) && decide (s.busWaits addr.toNat = false) && decide (isExpert addr.toNat = false) && decide (ownWrite 17 addr.toNat v s = none) && decide (regAt addr.toNat = some d)
        && ran (.registerWrite addr 4 v) s (fun t => decide (t.rd addr.toNat &&& (v &&& BitVec.ofNat 32 d.w1c) = 0)))
      (w0.setNum (memFault 0).addr 6) (BitVec.ofNat 32 (memFault 0).addr) (2) ((regAt (memFault 0).addr).getD ⟨0, 0, 0, 0, 0, 0, 0, 0, 0, 0⟩) = true) ∧
    ((fun (s : State) (addr : BitVec 32) (v : Word) =>
      s.wfb && decide (s.busOk addr.toNat 4 = true) && decide (s.busWaits addr.toNat = false) && decide (isExpert addr.toNat = false) && decide (ownWrite 17 addr.toNat v s = none) && decide (regAt addr.toNat = none)
        && ran (.registerWrite addr 4 v) s (fun t => decide (t = s.answer .done)))
      (w0) (0x00000800) (5) = true) ∧
    ((fun (s : State) (addr : BitVec 32) (v : Word) (u : State) =>
      s.wfb && decide (s.busOk addr.toNat 4 = true) && decide (s.busWaits addr.toNat = false) && decide (isExpert addr.toNat = false) && decide (ownWrite 17 addr.toNat v s = some u)
        && ran (.registerWrite addr 4 v) s (fun t => decide (t = u.answer .done)))
      (w0) (BitVec.ofNat 32 (WCNT_CLR 0)) (16) (wcntClr 0 16 w0) = true) ∧
    ((fun (s : State) (addr : BitVec 32) (v : Word) (ch : Ch) =>
      s.wfb && decide (s.busOk addr.toNat 4 = true) && decide (loopAt addr.toNat = some ch.val) && decide ((s.loopOf ch).restarting = true)
        && ran (.registerWrite addr 4 v) s (fun t => decide (t.resp = .waits) && decide (t.bank = s.bank) && decide ((t.loopOf ch).waiting = (s.loopOf ch).waiting ++ [(addr.toNat, some v.toNat)])))
      (w0.modLoop 1 (fun l => { l with restarting := true })) (BitVec.ofNat 32 (LOOP_CMD 1)) (1) (1) = true) ∧
    ((fun (s : State) (addr : BitVec 32) =>
      s.wfb && decide (s.busOk addr.toNat 4 = true) && decide (s.busWaits addr.toNat = false) && decide (capturesOf addr.toNat ≠ []) && decide (linkEndAt addr.toNat = none) && decide (s.arrayView addr.toNat = none) && decide (addr.toNat ≠ NVS_DATA ∧ addr.toNat ≠ UART_DATA)
        && ran (.wideRegisterRead addr) s (fun t => decide (t.resp = .data ((s.capture addr.toNat).dueView addr.toNat).toNat) && decide (t.bank = s.bank)))
      ((w0.setNum OPTIME_LO 9).setNum OPTIME_HI 4) (BitVec.ofNat 32 OPTIME_LO) = true) :=
  ⟨by decide +kernel, by decide +kernel, by decide +kernel, by decide +kernel, by decide +kernel, by decide +kernel, by decide +kernel, by decide +kernel⟩

theorem test_Register_reads_and_writes_2 :
    ((fun (s : State) =>
      s.wfb && decide (s.pins.test = false)
        && ran (.wideRegisterRead (BitVec.ofNat 32 OPTIME_LO)) s (fun t => decide (t.resp = .data (s.num OPTIME_LO)) && decide (fetch (resetOf OPTIME_HI) t.latch OPTIME_HI = s.rd OPTIME_HI)))
      ((w0.setNum OPTIME_LO 9).setNum OPTIME_HI 4) = true) ∧
    ((fun (s : State) (die : Fin 8) (unit : Fin 32) (v : Word) =>
      s.wfb && decide (s.busOk (unitBase die unit + 0xFF0) 4 = true) && decide (s.busWaits (unitBase die unit + 0xFF0) = false) && decide ((regAt (unitBase die unit + 0xFF0)).isSome = true)
        && ran (.expertUnlockWrite die unit v) s (fun t => decide (t.resp = .done) && decide (t.rd (unitBase die unit + 0xFF4) = insertBits (s.rd (unitBase die unit + 0xFF4)) 1 1 (ofBool (decide (v.toNat = 0x0E590000 + die * 0x100 + unit) && bitOf (s.num (unitBase die unit + 0xFF4)) 0)))))
      (w0.setNum (unitBase 1 1 + 0xFF4) 1) (1) (1) (0x0E590101) = true) ∧
    ((fun (s : State) (addr : BitVec 32) (v : Word) =>
      s.wfb && decide (s.dieOn 0 = true) && decide (s.get DBG_STAT_LEVEL = 0)
        && ran (.dbgFabric addr false v) s (fun t => decide (t = s.answer (.data 0))))
      (w0) (0x00000000) (0) = true) ∧
    ((fun (s : State) (addr : BitVec 32) (v : Word) =>
      s.wfb && decide (s.dieOn 0 = true) && decide (s.get DBG_STAT_LEVEL = 0)
        && ran (.dbgFabric addr true v) s (fun t => decide (t = s.answer .done)))
      (w0) (0x00000000) (1) = true) ∧
    ((fun (s : State) (addr : BitVec 32) (v : Word) =>
      s.wfb && decide (s.dieOn 0 = true) && decide (s.get DBG_STAT_LEVEL ≠ 0) && decide (addr.toNat ≠ NVS_DATA ∨ s.nvsSecret = false)
        && ran (.dbgFabric addr true v) s (fun t => decide (t = accessWrite addr.toNat 4 v s)))
      (w0.put DBG_STAT_LEVEL 1) (BitVec.ofNat 32 (STK_NAME 9)) (0xFFF12345) = true) ∧
    ((fun (s : State) (addr : BitVec 32) (v : Word) =>
      s.wfb && decide (s.dieOn 0 = true) && decide (s.get DBG_STAT_LEVEL ≠ 0) && decide (addr.toNat ≠ NVS_DATA ∨ s.nvsSecret = false)
        && ran (.dbgFabric addr false v) s (fun t => decide (t = accessRead addr.toNat 4 s)))
      ((w0.put DBG_STAT_LEVEL 1).setNum OPTIME_LO 77) (BitVec.ofNat 32 OPTIME_LO) (0) = true) ∧
    ((fun (s : State) (v : Word) =>
      s.wfb && decide (s.dieOn 0 = true) && decide (s.get DBG_STAT_LEVEL ≠ 0) && decide (s.nvsSecret = true)
        && ran (.dbgFabric (BitVec.ofNat 32 NVS_DATA) false v) s (fun t => decide (t = s.answer (.data 0))))
      ((w0.put DBG_STAT_LEVEL 1).put NVS_ADDR_WORD 0x6000) (0) = true) :=
  ⟨by decide +kernel, by decide +kernel, by decide +kernel, by decide +kernel, by decide +kernel, by decide +kernel, by decide +kernel⟩

theorem test_Ports_functions_and_controllers_1 :
    ((fun (s : State) (p : Fin 2) (width : Nat) (speed : Nat) =>
      s.wfb && decide (s.portExists p = true) && decide (4 ≤ s.get BOOT_STAT_STAGE) && decide (s.flag BOOT_STAT_ROM_SERVICES = false) && decide (width = 1 ∨ width = 2 ∨ (width = 4 ∧ s.imgNat Image.portShape = 1)) && decide (1 ≤ speed ∧ speed ≤ 5)
        && ran (.portTrain p width speed) s (fun t => decide (t.flag (PORT_STAT_DL_ACTIVE p) = true) && decide (t.get (PORT_STAT_WIDTH p) = width) && decide (t.get (PORT_STAT_SPEED p) = speed)))
      (w0.put BOOT_STAT_STAGE 7) (0) (2) (4) = true) ∧
    ((fun (s : State) (p : Fin 2) =>
      s.wfb && decide (s.portExists p = true) && decide (s.flag (PORT_STAT_DL_ACTIVE p) = true))
      (w0.put (PORT_STAT_DL_ACTIVE 0) 1) (0) = true) ∧
    ((fun (s : State) (p : Fin 2) =>
      s.wfb && decide (s.portExists p = true) && decide (s.flag (PORT_STAT_DL_ACTIVE p) = true))
      (w0.put (PORT_STAT_DL_ACTIVE 0) 1) (0) = true) ∧
    ((fun (s : State) (pf : Fin 2) (n : Nat) =>
      s.wfb && decide (s.pfExists pf = true) && decide (n ≤ s.totalVfs pf)
        && ran (.vfEnable pf n) s (fun t => decide (atD t.host.numVfs pf 0 = n)))
      (w0) (0) (0) = true) ∧
    ((fun (s : State) (e : CtrlSetup) =>
      s.wfb && decide (s.ctrlExists e.ctrl = true) && decide ((s.ctrl e.ctrl).en = false)
        && ran (.controllerEnable e) s (fun t => decide ((t.ctrl e.ctrl).en = true ∧ (t.ctrl e.ctrl).rdy = true) && decide ((t.ctrl e.ctrl).shst = 0) && decide ((t.ctrl e.ctrl).cc = e.cc.toNat) && decide ((t.ctrl e.ctrl).asq = e.asqs.val + 1 ∧ (t.ctrl e.ctrl).acq = e.acqs.val + 1)))
      (w0) (⟨0, 0x460001, 31, 15⟩) = true) ∧
    ((fun (s : State) (k : Fin 64) =>
      s.wfb && decide (s.ctrlExists k = true)
        && ran (.controllerReset k) s (fun t => decide (t.ctrl k = { (s.ctrl k).cleared s.host.saved with cc := (s.ctrl k).cc / 2 * 2, asq := (s.ctrl k).asq, acq := (s.ctrl k).acq }) && decide (t.host.vwc = true)))
      (w0.modCtrl 0 (fun k => { k with en := true, rdy := true })) (0) = true) ∧
    ((fun (s : State) (k : Fin 64) =>
      s.wfb && decide (s.ctrlExists k = true))
      (w0.modCtrl 0 (fun k => { k with en := true, rdy := true })) (0) = true) ∧
    ((fun (s : State) (k : Fin 64) =>
      s.wfb && decide (s.ctrlExists k = true) && decide ((s.function k).2 = 0))
      (w0.modCtrl 0 (fun k => { k with en := true, rdy := true })) (0) = true) :=
  ⟨by decide +kernel, by decide +kernel, by decide +kernel, by decide +kernel, by decide +kernel, by decide +kernel, by decide +kernel, by decide +kernel⟩

theorem test_Ports_functions_and_controllers_2 :
    ((fun (s : State) (k : Fin 64) =>
      s.wfb && decide (s.ctrlExists k = true))
      (w0.modCtrl 0 (fun k => { k with en := true, rdy := true })) (0) = true) ∧
    ((fun (s : State) (n : ShutdownNote) =>
      s.wfb && decide (s.ctrlExists n.ctrl = true)
        && ran (.controllerShutdown n) s (fun t => decide ((t.ctrl n.ctrl).shst = 2) && decide (bitsOf (t.ctrl n.ctrl).cc 15 14 = (if n.abrupt then 2 else 1))))
      (w0) (⟨0, true⟩) = true) ∧
    ((fun (s : State) (k : Fin 64) (v : Word) (i : Fin 16) =>
      s.wfb && decide (s.dieOn 0 = true) && decide (bitOf (s.num (CTRL_NS k)) i ≠ v.getLsbD i)
        && ran (.ctrlNsWrite k v) s (fun t => decide (t.num (CTRL_NS k) % 65536 = v.toNat % 65536) && decide ((t.ctrl k).changed.contains (i.val + 1) = true)))
      (w0) (1) (0xFFFB) (2) = true) :=
  ⟨by decide +kernel, by decide +kernel, by decide +kernel⟩

theorem test_Commands_are_fetched_dispatched_and_completed_1 :
    ((fun (s : State) (k : Fin 64) (q : ReadyQueue) (tg : TagNo) (e : WrtNo) (sqe : List Byte) (ranges : List (Nat × Nat)) (m : State) =>
      s.wfb && decide (s.arbitrate ((k.val, q.sqid) :: q.others) = some ((k.val, q.sqid), m)) && decide (s.host.stopped = false) && decide (s.paused = false) && decide (q.sqid = 0 ∨ (s.tagsFree ≠ 0 ∧ s.host.wrts.length < 32768 ∧ s.host.wrts.length + (s.entriesOf q.sqid (slice sqe 0 64) ranges).length ≤ 32768)) && decide (s.tagFor k q.sqid tg = true) && decide ((List.range (s.entriesOf q.sqid (slice sqe 0 64) ranges).length).all (fun j => (s.wrt ((e + j) % 32768)).isNone) = true) && decide (s.fetchLimit = none) && decide (s.check k q.sqid (slice sqe 0 64) ranges = none) && decide (q.sqid = 0 ∨ sqOp (slice sqe 0 64) ≠ opFlush) && decide ((List.range 4).all (fun n => decide (s.actState n < 2)) = true)
        && ran (.submissionFetch k q tg e sqe ranges) s (fun t => decide ((t.tag tg).map (fun y => (y.ctrl, y.sqid, y.sqe, y.fseq, y.st)) = some (k.val, q.sqid, slice sqe 0 64, s.host.fseq + 1, .fetched)) && decide (t.host.fseq = s.host.fseq + 1) && decide (t.host.arb = m.host.arb)))
      (hostWit) (0) (⟨0, [(0, 5)]⟩) (9) (0) (sqWit 6 0 100 0 0) ([]) (((hostWit.arbitrate [(0, 0), (0, 5)]).map (fun r => r.2)).getD hostWit) = true) ∧
    ((fun (s : State) (k : Fin 64) (q : ReadyQueue) (tg : TagNo) (e : WrtNo) (sqe : List Byte) (ranges : List (Nat × Nat)) (m : State) =>
      s.wfb && decide (s.arbitrate ((k.val, q.sqid) :: q.others) = some ((k.val, q.sqid), m)) && decide (s.host.stopped = false) && decide (s.paused = false) && decide (q.sqid ≠ 0) && decide (s.tagsFree ≠ 0) && decide (s.host.wrts.length < 32768) && decide (s.tagFor k q.sqid tg = true) && decide (s.fetchLimit = none) && decide (sqOp (slice sqe 0 64) = opFlush) && decide (s.check k q.sqid (slice sqe 0 64) ranges = none) && decide (s.entriesOf q.sqid (slice sqe 0 64) ranges = []) && decide ((List.range 4).all (fun n => decide (s.actState n < 2)) = true)
        && ran (.submissionFetch k q tg e sqe ranges) s (fun t => decide (s.cacheMode = 0 → (t.tag tg).map (fun y => (y.st, y.status)) = some (.completing, 0)) && decide (s.cacheMode ≠ 0 → (t.tag tg).map (fun y => (y.st, y.begun, y.flush)) = some (.fetched, true, (flushNs (newTag k q.sqid (slice sqe 0 64) 0)).map (fun i => (i, (s.ns i).cseq))))))
      (((hostWit.put CAT_CTL_EN 1).put SPIN_STAT_SPIN_LOCK 1).modCtrl 0 (fun k => { k with sqs := [⟨1, 8, 1, 0⟩] })) (0) (⟨1, [(0, 5)]⟩) (9) (3) (sqWit 0 0 0xFFFFFFFF 0 0) ([]) ((((((hostWit.put CAT_CTL_EN 1).put SPIN_STAT_SPIN_LOCK 1).modCtrl 0 (fun k => { k with sqs := [⟨1, 8, 1, 0⟩] })).arbitrate [(0, 1), (0, 5)]).map (fun r => r.2)).getD hostWit) = true) ∧
    ((fun (s : State) (k : Fin 64) (q : ReadyQueue) (tg : TagNo) (e : WrtNo) (sqe : List Byte) (ranges : List (Nat × Nat)) (m : State) (st : Nat) =>
      s.wfb && decide (s.arbitrate ((k.val, q.sqid) :: q.others) = some ((k.val, q.sqid), m)) && decide (s.host.stopped = false) && decide (s.paused = false) && decide (q.sqid = 0 ∨ (s.tagsFree ≠ 0 ∧ s.host.wrts.length < 32768 ∧ s.host.wrts.length + (s.entriesOf q.sqid (slice sqe 0 64) ranges).length ≤ 32768)) && decide (s.tagFor k q.sqid tg = true) && decide ((List.range (s.entriesOf q.sqid (slice sqe 0 64) ranges).length).all (fun j => (s.wrt ((e + j) % 32768)).isNone) = true) && decide (s.fetchLimit = none) && decide (s.check k q.sqid (slice sqe 0 64) ranges = some st)
        && ran (.submissionFetch k q tg e sqe ranges) s (fun t => decide ((t.tag tg).map (fun y => (y.ctrl, y.sqid, y.sqe, y.fseq, y.st)) = some (k.val, q.sqid, slice sqe 0 64, s.host.fseq + 1, .completing)) && decide (t.host.wrts = s.host.wrts)))
      (hostWit) (0) (⟨0, []⟩) (9) (0) (sqWit 0x77 0 100 0 0) ([]) (((hostWit.arbitrate [(0, 0)]).map (fun r => r.2)).getD hostWit) (stOpcode) = true) ∧
    ((fun (s : State) (k : Fin 64) (q : ReadyQueue) (tg : TagNo) (e : WrtNo) (sqe : List Byte) (ranges : List (Nat × Nat)) =>
      s.wfb && decide (s.arbitrate ((k.val, q.sqid) :: q.others) = none)
        && ran (.submissionFetch k q tg e sqe ranges) s (fun t => decide (t = s)))
      (w0) (0) (⟨0, []⟩) (9) (0) ([]) ([]) = true) ∧
    ((fun (s : State) =>
      s.wfb && decide (s.canResume = true)
        && ran (.fetchResume) s (fun t => decide (t.flag NVME_STAT_FETCH_STALLED = false)))
      (hostWit.put NVME_STAT_FETCH_STALLED 1) = true) ∧
    ((fun (s : State) (tg : TagNo) (x : Tag) =>
      s.wfb && decide (s.host.notices = []) && decide (s.tag tg = some x) && decide (x.st = .fetched) && decide (s.flag TAG_CTL_EN = true) && decide (s.tdRoom = true) && decide (s.get LADDER_STAT_RUNG = 0) && decide (s.ready x = true) && decide (s.inTurn x = true) && decide (x.need = 0) && decide (x.isRead = true → (s.readBuffers tg x).1.need = 0))
      ((hostWit.put TAG_CTL_EN 1).setTag 9 (newTag 0 0 (sqWit 6 0 1 0 0) 4)) (9) (newTag 0 0 (sqWit 6 0 1 0 0) 4) = true) ∧
    ((fun (s : State) (a : Nat) (r : List Byte) (x : Tag) =>
      s.wfb && decide (s.tcNext = some (a, r)) && decide (fieldLe r 2 1 = 1) && decide (s.tag (fieldLe r 0 2) = some x) && decide (x.st = .dispatched))
      (tcWit [(0, 9), (2, 1)] { newTag 0 0 (sqWit 6 0 1 0 0) 4 with st := .dispatched }) (0) (bytesWith 16 [(0, 1, 9), (2, 1, 1)]) ({ newTag 0 0 (sqWit 6 0 1 0 0) 4 with st := .dispatched }) = true) ∧
    ((fun (s : State) (a : Nat) (r : List Byte) (x : Tag) =>
      s.wfb && decide (s.tcNext = some (a, r)) && decide (fieldLe r 2 1 = 0) && decide (s.tag (fieldLe r 0 2) = some x) && decide (x.st = .dispatched ∨ x.st = .media) && decide (x.isWrite = true) && decide (s.mayComplete x = true ∨ fieldLe r 12 2 % 2048 ≠ 0))
      (tcWit [(0, 9)] { newTag 0 1 (sqWit 1 0 1 0 0) 4 with st := .media }) (0) (bytesWith 16 [(0, 1, 9)]) ({ newTag 0 1 (sqWit 1 0 1 0 0) 4 with st := .media }) = true) :=
  ⟨by decide +kernel, by decide +kernel, by decide +kernel, by decide +kernel, by decide +kernel, by decide +kernel, by decide +kernel, by decide +kernel⟩

theorem test_Commands_are_fetched_dispatched_and_completed_2 :
    ((fun (s : State) (a : Nat) (r : List Byte) (x : Tag) =>
      s.wfb && decide (s.tcNext = some (a, r)) && decide (fieldLe r 2 1 = 0) && decide (s.tag (fieldLe r 0 2) = some x) && decide (x.st = .dispatched ∨ x.st = .media) && decide (x.isWrite = false) && decide (x.isRead = false ∨ fieldLe r 12 2 % 2048 ≠ 0))
      (tcWit [(0, 9), (4, 3)] { newTag 0 0 (sqWit 6 0 1 0 0) 4 with st := .dispatched }) (0) (bytesWith 16 [(0, 1, 9), (4, 1, 3)]) ({ newTag 0 0 (sqWit 6 0 1 0 0) 4 with st := .dispatched }) = true) ∧
    ((fun (s : State) (a : Nat) (r : List Byte) (x : Tag) =>
      s.wfb && decide (s.tcNext = some (a, r)) && decide (fieldLe r 2 1 = 0) && decide (s.tag (fieldLe r 0 2) = some x) && decide (x.st = .dispatched ∨ x.st = .media) && decide (x.isWrite = true) && decide (s.mayComplete x = false) && decide (fieldLe r 12 2 % 2048 = 0))
      ((tcWit [(0, 9)] { newTag 0 1 (sqWit 1 0 1 0 0) 4 with st := .media, wrts := [3] }).setWrt 3 ⟨0, 0, 1, 4, .write, false, none, [], [], none⟩) (0) (bytesWith 16 [(0, 1, 9)]) ({ newTag 0 1 (sqWit 1 0 1 0 0) 4 with st := .media, wrts := [3] }) = true) ∧
    ((fun (s : State) (tg : TagNo) (x : Tag) =>
      s.wfb && decide (risingFrom 0 s.host.tags = true) && decide (s.tag tg = some x) && decide (x.st = .completing) && decide (x.ctrl < 64) && decide (x.silent = false) && decide (s.host.stopped = false) && decide (s.abortWaits x = false))
      (hostWit.setTag 9 { newTag 0 0 (sqWit 6 0 1 0 0) 4 with st := .completing, dw0 := 7 }) (9) ({ newTag 0 0 (sqWit 6 0 1 0 0) 4 with st := .completing, dw0 := 7 }) = true) ∧
    ((fun (s : State) (tg : TagNo) (x : Tag) (i : Nat) (is : List Nat) (wr : Wrt) =>
      s.wfb && decide (s.tag tg = some x) && decide (x.st = .fetched) && decide (x.io = true) && decide (bringsData x.op = true) && decide (x.begun = false) && decide (x.wrts = i :: is) && decide (s.wrt i = some wr) && decide (s.flag CI_CTL_EN = false) && decide (s.firstHeld x = true) && decide (s.overDirty wr.count = false) && decide (s.restored = true))
      ((hostWit.setTag 9 { newTag 0 1 (sqWit 1 0 1 0 0) 4 with wrts := [3] }).setWrt 3 ⟨0, 0, 1, 4, .write, false, none, [], [], none⟩) (9) ({ newTag 0 1 (sqWit 1 0 1 0 0) 4 with wrts := [3] }) (3) ([]) (⟨0, 0, 1, 4, .write, false, none, [], [], none⟩) = true) ∧
    ((fun (s : State) (e : WrtNo) (wr : Wrt) (tg : Nat) (x : Tag) =>
      s.wfb && decide (s.wrt e = some wr) && decide (s.writerOf e = some (tg, x)) && decide ((s.ns wr.ns).piType = 0) && decide ((s.ns wr.ns).ext = false) && decide (wr.held = false) && decide (wr.kind = .write) && decide (wr.count = 1) && decide (wr.bufs.length = 1) && decide (s.host.stopped = false) && decide (s.flag CI_CTL_EN = false) && decide (s.marks = []) && decide (s.lines = []) && decide (s.victims = []) && decide (s.flag SC_CTL_EN = false) && decide (handleIndex (wr.bufs.getD 0 0) < 0xF0000))
      ((hostWit.setTag 9 { newTag 0 1 (sqWit 1 0 1 0 0) 4 with begun := true, wrts := [3] }).setWrt 3 ⟨0, 0, 1, 4, .write, false, none, [0x100002], [], none⟩) (3) (⟨0, 0, 1, 4, .write, false, none, [0x100002], [], none⟩) (9) ({ newTag 0 1 (sqWit 1 0 1 0 0) 4 with begun := true, wrts := [3] }) = true) ∧
    ((fun (s : State) (v : Word) (wr : Wrt) =>
      s.wfb && decide (s.dieOn 0 = true) && decide (risingFrom 0 s.host.wrts = true) && decide (s.wrt (v.toNat % 32768) = some wr) && decide (wr.held = true))
      (hostWit.setWrt 3 ⟨0, 0, 1, 4, .write, true, none, [0x100002], [], none⟩) (3) (⟨0, 0, 1, 4, .write, true, none, [0x100002], [], none⟩) = true) ∧
    ((fun (s : State) (v : Word) =>
      s.wfb && decide (s.dieOn 0 = true) && decide ((s.wrt (v.toNat % 32768)).isNone = true)
        && ran (.wrtRelWrite v) s (fun t => decide (bitOf (t.num tagErr.addr) 0 = true) && decide (t.host = s.host)))
      (hostWit) (3) = true) ∧
    ((fun (s : State) (tg : TagNo) (x : Tag) =>
      s.wfb && decide (s.tag tg = some x) && decide (x.st = .fetched) && decide (x.io = true) && decide (x.op = opFlush) && decide (x.begun = true) && decide (s.flushDone x = true)
        && ran (.flushComplete tg) s (fun t => decide ((t.tag tg).map (fun y => (y.st, y.status)) = some (.completing, 0))))
      (hostWit.setTag 9 { newTag 0 1 (sqWit 0 0 1 0 0) 4 with begun := true }) (9) ({ newTag 0 1 (sqWit 0 0 1 0 0) 4 with begun := true }) = true) :=
  ⟨by decide +kernel, by decide +kernel, by decide +kernel, by decide +kernel, by decide +kernel, by decide +kernel, by decide +kernel, by decide +kernel⟩

theorem test_Commands_are_fetched_dispatched_and_completed_3 :
    (fun (s : State) (p : Fin 16) (tg : Nat) (x : Tag) (i : Nat) (is : List Nat) (wr : Wrt) =>
      s.wfb && decide (s.host.tags = [(tg, x)]) && decide (x.st = .fetched) && decide (x.isWrite = true) && decide (x.need ≠ 0) && decide (x.begun = true) && decide (s.get STK_HWPOOL_WDATA = p) && decide (s.get (POOL_STAT_FREE p) ≠ 0) && decide (x.wrts = i :: is) && decide (s.wrt i = some wr) && decide (s.flag CI_CTL_EN = false))
      (((hostWit.put (POOL_STAT_FREE 0) 3).setTag 9 { newTag 0 1 (sqWit 1 0 1 0 0) 4 with wrts := [3], need := 1, begun := true }).setWrt 3 ⟨0, 0, 1, 4, .write, false, none, [], [], none⟩) (0) (9) ({ newTag 0 1 (sqWit 1 0 1 0 0) 4 with wrts := [3], need := 1, begun := true }) (3) ([]) (⟨0, 0, 1, 4, .write, false, none, [], [], none⟩) = true := by decide +kernel

theorem test_Admin_commands_of_queues_and_features_1 :
    ((fun (s : State) (tg : TagNo) (x : Tag) =>
      s.wfb && decide (s.tag tg = some x) && decide (x.sqid = 0) && decide (x.op = 0x05) && decide (x.st = .dispatched) && decide (x.acts < 64) && decide (x.dw 10 % 65536 ≠ 0) && decide (x.dw 10 % 65536 ≤ (s.ctrl x.acts).grant) && decide ((s.ctrl x.acts).cqs.any (fun q => decide (q.qid = x.dw 10 % 65536)) = false) && decide (x.dw 10 / 65536 ≠ 0) && decide (x.dw 10 / 65536 ≤ 4095) && decide (bitOf (x.dw 11) 0 = true) && decide (x.dw 11 / 65536 < s.vectors x.acts)
        && ran (.createIoCq tg) s (fun t => decide ((t.ctrl x.acts).cqs = (s.ctrl x.acts).cqs ++ [⟨x.dw 10 % 65536, x.dw 10 / 65536 + 1, x.dw 11 / 65536, 0⟩]) && decide ((t.tag tg).map (fun y => (y.st, y.status)) = some (.completing, 0))))
      ((hostWit.modCtrl 0 (fun k => { k with granted := true, fromReserve := 4 })).setTag 9 { newTag 0 0 (sqWit 5 0 0 0x70001 1) 4 with st := .dispatched }) (9) ({ newTag 0 0 (sqWit 5 0 0 0x70001 1) 4 with st := .dispatched }) = true) ∧
    ((fun (s : State) (tg : TagNo) (x : Tag) =>
      s.wfb && decide (s.tag tg = some x) && decide (x.sqid = 0) && decide (x.op = 0x05) && decide (x.st = .dispatched) && decide ((s.ctrl x.acts).grant < x.dw 10 % 65536))
      (hostWit.setTag 9 { newTag 0 0 (sqWit 5 0 0 0x70001 1) 4 with st := .dispatched }) (9) ({ newTag 0 0 (sqWit 5 0 0 0x70001 1) 4 with st := .dispatched }) = true) ∧
    ((fun (s : State) (tg : TagNo) (x : Tag) =>
      s.wfb && decide (s.tag tg = some x) && decide (x.sqid = 0) && decide (x.op = 0x01) && decide (x.st = .dispatched) && decide (x.acts < 64) && decide (x.dw 10 % 65536 ≠ 0) && decide (x.dw 10 % 65536 ≤ (s.ctrl x.acts).grant) && decide ((s.ctrl x.acts).sqs.any (fun q => decide (q.qid = x.dw 10 % 65536)) = false) && decide (x.dw 11 / 65536 ≠ 0) && decide ((s.ctrl x.acts).cqs.any (fun q => decide (q.qid = x.dw 11 / 65536)) = true) && decide (x.dw 10 / 65536 ≠ 0) && decide (x.dw 10 / 65536 ≤ 4095) && decide (bitOf (x.dw 11) 0 = true)
        && ran (.createIoSq tg) s (fun t => decide ((t.ctrl x.acts).sqs = (s.ctrl x.acts).sqs ++ [⟨x.dw 10 % 65536, x.dw 10 / 65536 + 1, x.dw 11 / 65536, bitsOf (x.dw 11) 2 1⟩]) && decide ((t.tag tg).map (fun y => (y.st, y.status)) = some (.completing, 0))))
      ((hostWit.modCtrl 0 (fun k => { k with granted := true, fromReserve := 4, cqs := [⟨1, 8, 0, 0⟩] })).setTag 9 { newTag 0 0 (sqWit 1 0 0 0x70001 0x10001) 4 with st := .dispatched }) (9) ({ newTag 0 0 (sqWit 1 0 0 0x70001 0x10001) 4 with st := .dispatched }) = true) ∧
    ((fun (s : State) (tg : TagNo) (x : Tag) =>
      s.wfb && decide (s.tag tg = some x) && decide (x.sqid = 0) && decide (x.op = 0x00) && decide (x.st = .dispatched) && decide (x.acts < 64) && decide ((s.ctrl x.acts).sqs.any (fun q => decide (q.qid = x.dw 10 % 65536)) = true)
        && ran (.deleteIoSq tg) s (fun t => decide ((t.ctrl x.acts).sqs = (s.ctrl x.acts).sqs.filter (fun q => decide (q.qid ≠ x.dw 10 % 65536))) && decide ((t.tag tg).map (fun y => (y.st, y.status)) = some (.completing, 0))))
      ((hostWit.modCtrl 0 (fun k => { k with sqs := [⟨1, 8, 1, 0⟩] })).setTag 9 { newTag 0 0 (sqWit 0 0 0 1 0) 4 with st := .dispatched }) (9) ({ newTag 0 0 (sqWit 0 0 0 1 0) 4 with st := .dispatched }) = true) ∧
    ((fun (s : State) (tg : TagNo) (x : Tag) =>
      s.wfb && decide (s.tag tg = some x) && decide (x.sqid = 0) && decide (x.op = 0x04) && decide (x.st = .dispatched) && decide (x.acts < 64) && decide ((s.ctrl x.acts).cqs.any (fun q => decide (q.qid = x.dw 10 % 65536)) = true) && decide ((s.ctrl x.acts).sqs.any (fun q => decide (q.link = x.dw 10 % 65536)) = false)
        && ran (.deleteIoCq tg) s (fun t => decide ((t.ctrl x.acts).cqs = (s.ctrl x.acts).cqs.filter (fun q => decide (q.qid ≠ x.dw 10 % 65536))) && decide ((t.tag tg).map (fun y => (y.st, y.status)) = some (.completing, 0))))
      ((hostWit.modCtrl 0 (fun k => { k with cqs := [⟨1, 8, 1, 0⟩] })).setTag 9 { newTag 0 0 (sqWit 4 0 0 1 0) 4 with st := .dispatched }) (9) ({ newTag 0 0 (sqWit 4 0 0 1 0) 4 with st := .dispatched }) = true) ∧
    ((fun (s : State) (tg : TagNo) (x : Tag) =>
      s.wfb && decide (s.tag tg = some x) && decide (x.sqid = 0) && decide (x.op = 0x09) && decide (x.st = .dispatched) && decide (x.acts < 64) && decide (x.dw 10 % 256 = 7) && decide ((s.ctrl x.acts).granted = false) && decide ((s.function x.acts).2 = 0) && decide (x.dw 11 % 65536 ≠ 65535) && decide (x.dw 11 / 65536 ≠ 65535) && decide (1 ≤ s.imgNat Image.pfQpReserve)
        && ran (.setFeaturesNumberOfQueues tg) s (fun t => decide ((t.ctrl x.acts).granted = true) && decide ((t.ctrl x.acts).grant = min (max (x.dw 11 % 65536) (x.dw 11 / 65536) + 1) (s.imgNat Image.pfQpReserve + s.poolFreeQp)) && decide ((t.tag tg).map (fun y => (y.st, y.status, y.dw0)) = some (.completing, 0, ((t.ctrl x.acts).grant - 1) * 65537))))
      (hostWit.setTag 9 { newTag 0 0 (sqWit 9 0 0 7 0x10002) 4 with st := .dispatched }) (9) ({ newTag 0 0 (sqWit 9 0 0 7 0x10002) 4 with st := .dispatched }) = true) ∧
    ((fun (s : State) (tg : TagNo) (x : Tag) =>
      s.wfb && decide (s.tag tg = some x) && decide (x.sqid = 0) && decide (x.op = 0x09) && decide (x.st = .dispatched) && decide (x.dw 10 % 256 = 6) && decide (s.imgBool Image.plpEnable = false)
        && ran (.setFeaturesVolatileWriteCache tg) s (fun t => decide (t.host.vwc = bitOf (x.dw 11) 0) && decide ((t.tag tg).map (fun y => (y.st, y.status)) = some (.completing, 0))))
      ({ hostWit with img := some { imgA with power := bytesWith 8 [] } }.setTag 9 { newTag 0 0 (sqWit 9 0 0 6 1) 4 with st := .dispatched }) (9) ({ newTag 0 0 (sqWit 9 0 0 6 1) 4 with st := .dispatched }) = true) ∧
    ((fun (s : State) (tg : TagNo) (x : Tag) (data : List Byte) =>
      s.wfb && decide (s.tag tg = some x) && decide (x.sqid = 0) && decide (x.op = 0x09) && decide (x.st = .dispatched) && decide (x.acts < 64) && decide ([0x01, 0x04, 0x08, 0x09, 0x0A, 0x0B].contains (x.dw 10 % 256) = true) && decide (featOk x = true) && decide (bitOf (x.dw 10) 31 = false)
        && ran (.setFeatures tg data) s (fun t => decide (look (featKey x) (t.ctrl x.acts).feats = some (x.dw 11)) && decide ((t.tag tg).map (fun y => (y.st, y.status)) = some (.completing, 0))))
      (hostWit.setTag 9 { newTag 0 0 (sqWit 9 0 0 0x0B 5) 4 with st := .dispatched }) (9) ({ newTag 0 0 (sqWit 9 0 0 0x0B 5) 4 with st := .dispatched }) ([]) = true) :=
  ⟨by decide +kernel, by decide +kernel, by decide +kernel, by decide +kernel, by decide +kernel, by decide +kernel, by decide +kernel, by decide +kernel⟩

theorem test_Admin_commands_of_queues_and_features_2 :
    ((fun (s : State) (tg : TagNo) (x : Tag) (data : List Byte) =>
      s.wfb && decide (s.tag tg = some x) && decide (x.sqid = 0) && decide (x.op = 0x09) && decide (x.st = .dispatched) && decide (x.acts < 64) && decide (x.dw 10 % 256 = 0x81) && decide (bitOf (x.dw 10) 31 = false) && decide (bitOf (x.dw 11) 0 = true)
        && ran (.setFeatures tg data) s (fun t => decide ((t.ctrl x.acts).hostId = leNat (slice data 0 16)) && decide ((t.tag tg).map (fun y => (y.st, y.status)) = some (.completing, 0))))
      (hostWit.setTag 9 { newTag 0 0 (sqWit 9 0 0 0x81 1) 4 with st := .dispatched }) (9) ({ newTag 0 0 (sqWit 9 0 0 0x81 1) 4 with st := .dispatched }) ([5, 6]) = true) ∧
    ((fun (s : State) (tg : TagNo) (x : Tag) =>
      s.wfb && decide (s.tag tg = some x) && decide (x.sqid = 0) && decide (x.op = 0x0A) && decide (x.st = .dispatched) && decide ((plainFeatures ++ [0x02, 0x06, 0x07]).contains (x.dw 10 % 256) = true) && decide (x.dw 10 % 256 ≠ 0x81) && decide (x.dw 10 % 256 = 0x06 → s.imgBool Image.plpEnable = false) && decide (bitsOf (x.dw 10) 10 8 = 0)
        && ran (.getFeatures tg) s (fun t => decide ((t.tag tg).map (fun y => (y.st, y.status, y.dw0)) = some (.completing, 0, s.featNow x % 2 ^ 32)) && decide (t.host.ctrls = s.host.ctrls)))
      (hostWit.setTag 9 { newTag 0 0 (sqWit 0x0A 0 0 7 0) 4 with st := .dispatched }) (9) ({ newTag 0 0 (sqWit 0x0A 0 0 7 0) 4 with st := .dispatched }) = true) ∧
    ((fun (s : State) (tg : TagNo) (x : Tag) =>
      s.wfb && decide (s.tag tg = some x) && decide (x.sqid = 0) && decide (x.op = 0x0C) && decide (x.st = .dispatched) && decide (x.acts < 64) && decide ((s.ctrl x.acts).aers.contains tg.val = false) && decide ((s.ctrl x.acts).aers.length < 8) && decide ((s.ctrl x.acts).events = [])
        && ran (.asynchronousEventRequest tg) s (fun t => decide ((t.ctrl x.acts).aers = (s.ctrl x.acts).aers ++ [tg.val]) && decide (t.tag tg = some x)))
      (hostWit.setTag 9 { newTag 0 0 (sqWit 0x0C 0 0 0 0) 4 with st := .dispatched }) (9) ({ newTag 0 0 (sqWit 0x0C 0 0 0 0) 4 with st := .dispatched }) = true) ∧
    ((fun (s : State) (tg : TagNo) (x : Tag) (e : Nat) (rest : List Nat) =>
      s.wfb && decide (s.tag tg = some x) && decide (x.sqid = 0) && decide (x.op = 0x0C) && decide (x.st = .dispatched) && decide (x.acts < 64) && decide ((s.ctrl x.acts).aers.contains tg.val = false) && decide ((s.ctrl x.acts).aers.length < 8) && decide ((s.ctrl x.acts).events = e :: rest)
        && ran (.asynchronousEventRequest tg) s (fun t => decide ((t.ctrl x.acts).events = rest) && decide ((t.tag tg).map (fun y => (y.st, y.status, y.dw0)) = some (.completing, 0, e))))
      ((hostWit.modCtrl 0 (fun k => { k with events := [aenNamespace] })).setTag 9 { newTag 0 0 (sqWit 0x0C 0 0 0 0) 4 with st := .dispatched }) (9) ({ newTag 0 0 (sqWit 0x0C 0 0 0 0) 4 with st := .dispatched }) (aenNamespace) ([]) = true) ∧
    ((fun (s : State) (tg : TagNo) (x : Tag) (u : Nat) (y : Tag) =>
      s.wfb && decide (s.tag tg = some x) && decide (x.st = .fetched) && decide (x.sqid = 0) && decide (x.op = 0x08) && decide (s.findCmd x.ctrl (x.dw 10 % 65536) (x.dw 10 / 65536) tg = some (u, y)) && decide (y.st = .fetched) && decide (y.wrts = []) && decide (y.bufs = [])
        && ran (.nvmeAbort tg) s (fun t => decide ((t.tag tg).map (fun z => (z.st, z.status, z.dw0)) = some (.completing, 0, 0)) && decide ((t.tag u).map (fun z => (z.st, z.status)) = some (.completing, stAborted)) && decide (t.num ABORTED = min (s.num ABORTED + 1) 0xFFFFFFFF)))
      ((hostWit.setTag 9 (newTag 0 0 (sqWit 8 0 0 0x20000 0) 4)).setTag 5 (newTag 0 0 (sqWit 6 2 0 0 0) 3)) (9) (newTag 0 0 (sqWit 8 0 0 0x20000 0) 4) (5) (newTag 0 0 (sqWit 6 2 0 0 0) 3) = true) ∧
    ((fun (s : State) (tg : TagNo) (x : Tag) =>
      s.wfb && decide (s.tag tg = some x) && decide (x.st = .fetched) && decide (x.sqid = 0) && decide (x.op = 0x08) && decide (s.findCmd x.ctrl (x.dw 10 % 65536) (x.dw 10 / 65536) tg = none)
        && ran (.nvmeAbort tg) s (fun t => decide ((t.tag tg).map (fun z => (z.st, z.status, z.dw0)) = some (.completing, 0, 1)) && decide (t.num NOT_ABORTED = min (s.num NOT_ABORTED + 1) 0xFFFFFFFF)))
      (hostWit.setTag 9 (newTag 0 0 (sqWit 8 0 0 0x20000 0) 4)) (9) (newTag 0 0 (sqWit 8 0 0 0x20000 0) 4) = true) :=
  ⟨by decide +kernel, by decide +kernel, by decide +kernel, by decide +kernel, by decide +kernel, by decide +kernel⟩

theorem test_Admin_commands_that_give_or_take_data_1 :
    ((fun (s : State) (tg : TagNo) (x : Tag) (d : List Byte) =>
      s.wfb && decide (s.tag tg = some x) && decide (x.ctrl ≠ 0xFFFF) && decide (x.sqid = 0) && decide (x.op = 0x02) && decide (x.st = .dispatched) && decide (x.dw 10 % 256 ≠ 0xC0) && decide (x.dw 10 % 256 ≠ 0xC1) && decide ((s.logPage x).bind (fun r => pageSlice x r.1) = some d)
        && ran (.getLogPage tg) s (fun t => decide (t.host.out = d) && decide ((t.tag tg).map (fun y => (y.st, y.status)) = some (.completing, 0))))
      (hostWit.setTag 9 { newTag 0 0 (sqWit 2 0 0 4 0) 4 with st := .dispatched }) (9) ({ newTag 0 0 (sqWit 2 0 0 4 0) 4 with st := .dispatched }) ([0, 0, 0, 0]) = true) ∧
    ((fun (s : State) (tg : TagNo) (x : Tag) (d : List Byte) =>
      s.wfb && decide (s.tag tg = some x) && decide (x.ctrl ≠ 0xFFFF) && decide (x.sqid = 0) && decide (x.op = 0x02) && decide (x.st = .dispatched) && decide (x.dw 10 % 256 = 0xC0) && decide ((s.colophonPage (bitsOf (x.dw 10) 14 8)).bind (fun p => pageSlice x p) = some d)
        && ran (.getLogColophon tg) s (fun t => decide (t.host.out = d) && decide ((t.tag tg).map (fun y => (y.st, y.status)) = some (.completing, 0))))
      (hostWit.setTag 9 { newTag 0 0 (sqWit 2 0 0 0xC0 0) 4 with st := .dispatched }) (9) ({ newTag 0 0 (sqWit 2 0 0 0xC0 0) 4 with st := .dispatched }) ([0, 0, 0, 0]) = true) ∧
    ((fun (s : State) (tg : TagNo) (x : Tag) (d : List Byte) =>
      s.wfb && decide (s.tag tg = some x) && decide (x.ctrl ≠ 0xFFFF) && decide (x.sqid = 0) && decide (x.op = 0x02) && decide (x.st = .dispatched) && decide (x.dw 10 % 256 = 0xC1) && decide (x.dw 12 = 0) && decide (x.dw 13 = 0) && decide (pageSlice x s.logSnapshot = some d)
        && ran (.getLogAccession tg) s (fun t => decide (t.host.out = d) && decide (t.alog.snap = s.logSnapshot) && decide ((t.tag tg).map (fun y => (y.st, y.status)) = some (.completing, 0))))
      (hostWit.setTag 9 { newTag 0 0 (sqWit 2 0 0 0xC1 0) 4 with st := .dispatched }) (9) ({ newTag 0 0 (sqWit 2 0 0 0xC1 0) 4 with st := .dispatched }) ([0, 0, 0, 0]) = true) ∧
    ((fun (s : State) (tg : TagNo) (x : Tag) (d : List Byte) =>
      s.wfb && decide (s.tag tg = some x) && decide (x.ctrl ≠ 0xFFFF) && decide (x.sqid = 0) && decide (x.op = 0x06) && decide (x.st = .dispatched) && decide ((match s.identify x with | .ok r => some r.1 | .error _ => none) = some d))
      (hostWit.setTag 9 { newTag 0 0 (sqWit 6 0 0 0x1C 0) 4 with st := .dispatched }) (9) ({ newTag 0 0 (sqWit 6 0 0 0x1C 0) 4 with st := .dispatched }) (slice [5] 0 4096) = true) ∧
    ((fun (s : State) (tg : TagNo) (x : Tag) =>
      s.wfb && decide (s.tag tg = some x) && decide (x.sqid = 0) && decide (x.op = 0x06) && decide (x.st = .dispatched) && decide ([0x00, 0x01, 0x02, 0x03, 0x05, 0x06, 0x07, 0x08, 0x1C].contains (x.dw 10 % 256) = false))
      (hostWit.setTag 9 { newTag 0 0 (sqWit 6 0 0 0x11 0) 4 with st := .dispatched }) (9) ({ newTag 0 0 (sqWit 6 0 0 0x11 0) 4 with st := .dispatched }) = true) ∧
    ((fun (s : State) (tg : TagNo) (x : Tag) =>
      s.wfb && decide (s.tag tg = some x) && decide (x.ctrl ≠ 0xFFFF) && decide (x.sqid = 0) && decide (x.op = 0x06) && decide (x.st = .dispatched) && decide (x.dw 10 % 256 = 0x01))
      (hostWit.setTag 9 { newTag 0 0 (sqWit 6 0 0 1 0) 4 with st := .dispatched }) (9) ({ newTag 0 0 (sqWit 6 0 0 1 0) 4 with st := .dispatched }) = true) ∧
    ((fun (s : State) (tg : TagNo) (x : Tag) =>
      s.wfb && decide (s.tag tg = some x) && decide (x.ctrl ≠ 0xFFFF) && decide (x.sqid = 0) && decide (x.op = 0x06) && decide (x.st = .dispatched) && decide (x.dw 10 % 256 = 0x02))
      (hostWit.setTag 9 { newTag 0 0 (sqWit 6 0 0 2 0) 4 with st := .dispatched }) (9) ({ newTag 0 0 (sqWit 6 0 0 2 0) 4 with st := .dispatched }) = true) ∧
    ((fun (s : State) (tg : TagNo) (x : Tag) =>
      s.wfb && decide (s.tag tg = some x) && decide (x.ctrl ≠ 0xFFFF) && decide (x.sqid = 0) && decide (x.op = 0xC6) && decide (x.st = .fetched))
      (hostWit.setTag 9 (newTag 0 0 (sqWit 0xC6 0 0 0 0) 4)) (9) (newTag 0 0 (sqWit 0xC6 0 0 0 0) 4) = true) :=
  ⟨by decide +kernel, by decide +kernel, by decide +kernel, by decide +kernel, by decide +kernel, by decide +kernel, by decide +kernel, by decide +kernel⟩

theorem test_Admin_commands_that_give_or_take_data_2 :
    ((fun (s : State) (tg : TagNo) (x : Tag) (data : List Byte) =>
      s.wfb && decide (s.tag tg = some x) && decide (x.sqid = 0) && decide (x.op = 0x81) && decide (x.st = .dispatched) && decide (0xF0 ≤ x.dw 10 / 0x1000000)
        && ran (.securitySend tg data) s (fun t => decide (t.host.sec = slice data 0 (x.dw 11)) && decide ((t.tag tg).map (fun y => (y.st, y.status)) = some (.completing, 0))))
      (hostWit.setTag 9 { newTag 0 0 (sqWit 0x81 0 0 0xF0000000 2) 4 with st := .dispatched }) (9) ({ newTag 0 0 (sqWit 0x81 0 0 0xF0000000 2) 4 with st := .dispatched }) ([4, 5, 6]) = true) ∧
    ((fun (s : State) (tg : TagNo) (x : Tag) =>
      s.wfb && decide (s.tag tg = some x) && decide (x.sqid = 0) && decide (x.op = 0x81) && decide (x.st = .dispatched) && decide (x.dw 10 / 0x1000000 = 0xE8))
      (hostWit.setTag 9 { newTag 0 0 (sqWit 0x81 0 0 0xE8000000 4) 4 with st := .dispatched }) (9) ({ newTag 0 0 (sqWit 0x81 0 0 0xE8000000 4) 4 with st := .dispatched }) = true) ∧
    ((fun (s : State) (tg : TagNo) (x : Tag) =>
      s.wfb && decide (s.tag tg = some x) && decide (x.ctrl ≠ 0xFFFF) && decide (x.sqid = 0) && decide (x.op = 0x82) && decide (x.st = .dispatched) && decide (x.dw 10 / 0x1000000 = 0))
      (hostWit.setTag 9 { newTag 0 0 (sqWit 0x82 0 0 0 12) 4 with st := .dispatched }) (9) ({ newTag 0 0 (sqWit 0x82 0 0 0 12) 4 with st := .dispatched }) = true) ∧
    ((fun (s : State) (tg : TagNo) (x : Tag) =>
      s.wfb && decide (s.tag tg = some x) && decide (x.ctrl ≠ 0xFFFF) && decide (x.sqid = 0) && decide (x.op = 0x82) && decide (x.st = .dispatched) && decide (x.dw 10 / 0x1000000 = 0xE8)
        && ran (.securityReceive tg) s (fun t => decide (t.host.out = slice s.host.secOut 0 (x.dw 11)) && decide ((t.tag tg).map (fun y => (y.st, y.status)) = some (.completing, 0))))
      (hostWit.setTag 9 { newTag 0 0 (sqWit 0x82 0 0 0xE8000000 2) 4 with st := .dispatched }) (9) ({ newTag 0 0 (sqWit 0x82 0 0 0xE8000000 2) 4 with st := .dispatched }) = true) ∧
    ((fun (s : State) (tg : TagNo) (x : Tag) =>
      s.wfb && decide (s.tag tg = some x) && decide (x.sqid = 0) && decide (x.op = 0x09) && decide (x.st = .dispatched) && decide (x.dw 10 % 256 = 0x02) && decide (bitOf (x.dw 10) 31 = false) && decide (x.dw 11 % 32 ≤ 4)
        && ran (.setFeaturesPowerManagement tg) s (fun t => decide (look x.acts t.host.powerOf = some (x.dw 11 % 32)) && decide ((t.tag tg).map (fun y => (y.st, y.status)) = some (.completing, 0))))
      (hostWit.setTag 9 { newTag 0 0 (sqWit 9 0 0 2 3) 4 with st := .dispatched }) (9) ({ newTag 0 0 (sqWit 9 0 0 2 3) 4 with st := .dispatched }) = true) ∧
    ((fun (s : State) (tg : TagNo) (x : Tag) =>
      s.wfb && decide (s.tag tg = some x) && decide (x.sqid = 0) && decide (x.op = 0x80) && decide (x.st = .dispatched) && decide (sqNsid x.sqe = 0xFFFFFFFF) && decide (x.dw 10 % 16 ≤ 3) && decide (bitsOf (x.dw 10) 7 5 = 0) && decide (bitsOf (x.dw 10) 11 9 ≤ 2) && decide (x.begun = false) && decide (s.formatRoom 0xFFFFFFFF = true) && decide ((List.range 16).all (fun i => !(s.ns i).formatting && !((s.ns i).conflict (s.ctrl x.acts).hostId opWrite)) = true))
      (hostWit.setTag 9 { newTag 0 0 (sqWit 0x80 0 0xFFFFFFFF 1 0) 4 with st := .dispatched }) (9) ({ newTag 0 0 (sqWit 0x80 0 0xFFFFFFFF 1 0) 4 with st := .dispatched }) = true) :=
  ⟨by decide +kernel, by decide +kernel, by decide +kernel, by decide +kernel, by decide +kernel, by decide +kernel⟩

theorem test_Reads_writes_and_Flush_of_the_host_1 :
    ((fun (s : State) (tg : TagNo) (x : Tag) (e : MediaEnd) =>
      s.wfb && decide (s.tag tg = some x) && decide (x.io = true) && decide (x.op = opWrite) && decide (x.withFirmware = true) && decide (e ≠ .good)
        && ran (.nvmeWrite tg e) s (fun t => decide ((t.tag tg).map (fun y => (y.st, y.status)) = some (.completing, mediaStatus e))))
      (hostWit.setTag 9 { newTag 0 1 (sqWit 1 0 1 0 0) 4 with st := .media }) (9) ({ newTag 0 1 (sqWit 1 0 1 0 0) 4 with st := .media }) (.writeFault) = true) ∧
    ((fun (s : State) (tg : TagNo) (x : Tag) =>
      s.wfb && decide (s.tag tg = some x) && decide (x.io = true) && decide (x.op = opWrite) && decide (x.withFirmware = true) && decide (s.mayComplete x = true) && decide (1 ≤ sqNsid x.sqe ∧ sqNsid x.sqe ≤ 16)
        && ran (.nvmeWrite tg .good) s (fun t => decide ((t.tag tg).map (fun y => (y.st, y.status)) = some (.completing, 0)) && decide ((t.ns (sqNsid x.sqe - 1)).cseq = (s.ns (sqNsid x.sqe - 1)).cseq + 1)))
      (hostWit.setTag 9 { newTag 0 1 (sqWit 1 0 1 0 0) 4 with st := .media }) (9) ({ newTag 0 1 (sqWit 1 0 1 0 0) 4 with st := .media }) = true) ∧
    ((fun (s : State) (tg : TagNo) (x : Tag) =>
      s.wfb && decide (s.tag tg = some x) && decide (x.io = true) && decide (x.op = opAppend) && decide (x.withFirmware = true) && decide (s.mayComplete x = true) && decide (1 ≤ sqNsid x.sqe ∧ sqNsid x.sqe ≤ 16)
        && ran (.zoneAppend tg .good) s (fun t => decide ((t.tag tg).map (fun y => (y.st, y.status, y.dw0, y.dw1)) = some (.completing, 0, x.dw0, x.dw1)) && decide ((t.ns (sqNsid x.sqe - 1)).cseq = (s.ns (sqNsid x.sqe - 1)).cseq + 1)))
      (hostWit.setTag 9 { newTag 0 1 (sqWit 0x7D 0 1 0 0) 4 with st := .media, dw0 := 5 }) (9) ({ newTag 0 1 (sqWit 0x7D 0 1 0 0) 4 with st := .media, dw0 := 5 }) = true) ∧
    ((fun (s : State) (tg : TagNo) (x : Tag) =>
      s.wfb && decide (s.tag tg = some x) && decide (x.io = true) && decide (x.op = opZeroes) && decide (x.withFirmware = true) && decide (s.mayComplete x = true) && decide (1 ≤ sqNsid x.sqe ∧ sqNsid x.sqe ≤ 16)
        && ran (.writeZeroes tg .good) s (fun t => decide ((t.tag tg).map (fun y => (y.st, y.status)) = some (.completing, 0)) && decide ((t.ns (sqNsid x.sqe - 1)).cseq = (s.ns (sqNsid x.sqe - 1)).cseq + 1)))
      (hostWit.setTag 9 { newTag 0 1 (sqWit 8 0 1 0 0) 4 with st := .media }) (9) ({ newTag 0 1 (sqWit 8 0 1 0 0) 4 with st := .media }) = true) ∧
    ((fun (s : State) (tg : TagNo) (x : Tag) =>
      s.wfb && decide (s.tag tg = some x) && decide (x.io = true) && decide (x.op = opDsm) && decide (x.withFirmware = true) && decide (s.mayComplete x = true) && decide (1 ≤ sqNsid x.sqe ∧ sqNsid x.sqe ≤ 16)
        && ran (.datasetManagement tg .good) s (fun t => decide ((t.tag tg).map (fun y => (y.st, y.status)) = some (.completing, 0)) && decide ((t.ns (sqNsid x.sqe - 1)).cseq = (s.ns (sqNsid x.sqe - 1)).cseq + 1)))
      (hostWit.setTag 9 { newTag 0 1 (sqWit 9 0 1 0 0) 4 with st := .media }) (9) ({ newTag 0 1 (sqWit 9 0 1 0 0) 4 with st := .media }) = true) ∧
    ((fun (s : State) (tg : TagNo) (x : Tag) =>
      s.wfb && decide (s.tag tg = some x) && decide (x.ctrl ≠ 0xFFFF) && decide (x.io = true) && decide (x.op = opRead) && decide (x.withFirmware = true) && decide (sqCount x.sqe = 1) && decide (x.hits = []) && decide (s.num ZONES = 0) && decide (s.flag CI_CTL_EN = false) && decide ((s.ns (sqNsid x.sqe - 1)).ext = false) && decide ((s.ns (sqNsid x.sqe - 1)).piType = 0))
      (hostWit.setTag 9 { newTag 0 1 (sqWit 2 0 1 0 0) 4 with st := .media }) (9) ({ newTag 0 1 (sqWit 2 0 1 0 0) 4 with st := .media }) = true) ∧
    ((fun (s : State) (tg : TagNo) (x : Tag) (media : List (List Byte)) (e : MediaEnd) =>
      s.wfb && decide (s.tag tg = some x) && decide (x.ctrl ≠ 0xFFFF) && decide (x.io = true) && decide (x.op = opRead) && decide (x.withFirmware = true) && decide (e ≠ .good)
        && ran (.nvmeRead tg media e) s (fun t => decide (t.host.out = s.host.out) && decide ((t.tag tg).map (fun y => (y.st, y.status)) = some (.completing, mediaStatus e))))
      (hostWit.setTag 9 { newTag 0 1 (sqWit 2 0 1 0 0) 4 with st := .media }) (9) ({ newTag 0 1 (sqWit 2 0 1 0 0) 4 with st := .media }) ([]) (.unrecovered) = true) ∧
    ((fun (s : State) (tg : TagNo) (x : Tag) =>
      s.wfb && decide (s.tag tg = some x) && decide (x.io = true) && decide (x.op = opCompare) && decide (x.withFirmware = true) && decide (sqCount x.sqe = 1) && decide (x.hits = []) && decide (s.num ZONES = 0) && decide (s.flag CI_CTL_EN = false) && decide (fmtMeta (s.ns (sqNsid x.sqe - 1)).fmt = 0) && decide ((s.ns (sqNsid x.sqe - 1)).piType = 0))
      (hostWit.setTag 9 { newTag 0 1 (sqWit 5 0 1 0 0) 4 with st := .media }) (9) ({ newTag 0 1 (sqWit 5 0 1 0 0) 4 with st := .media }) = true) :=
  ⟨by decide +kernel, by decide +kernel, by decide +kernel, by decide +kernel, by decide +kernel, by decide +kernel, by decide +kernel, by decide +kernel⟩

theorem test_Reads_writes_and_Flush_of_the_host_2 :
    ((fun (s : State) (tg : TagNo) (x : Tag) =>
      s.wfb && decide (s.tag tg = some x) && decide (x.ctrl ≠ 0xFFFF) && decide (x.io = true) && decide (x.op = opVerify) && decide (x.withFirmware = true) && decide (sqCount x.sqe = 1) && decide (x.hits = []) && decide (s.num ZONES = 0) && decide (s.flag CI_CTL_EN = false) && decide (fmtMeta (s.ns (sqNsid x.sqe - 1)).fmt = 0) && decide ((s.ns (sqNsid x.sqe - 1)).piType = 0))
      (hostWit.setTag 9 { newTag 0 1 (sqWit 0x0C 0 1 0 0) 4 with st := .media }) (9) ({ newTag 0 1 (sqWit 0x0C 0 1 0 0) 4 with st := .media }) = true) ∧
    ((fun (s : State) (tg : TagNo) (x : Tag) =>
      s.wfb && decide (s.tag tg = some x) && decide (x.io = true) && decide (x.op = opFlush) && decide (x.st = .fetched) && decide (x.begun = false)
        && ran (.nvmeFlush tg) s (fun t => decide ((s.cacheMode = 0 → (t.tag tg).map (fun y => (y.st, y.status)) = some (.completing, 0))) && decide ((s.cacheMode ≠ 0 → (t.tag tg).map (fun y => (y.st, y.begun, y.flush)) = some (.fetched, true, (flushNs x).map (fun i => (i, (s.ns i).cseq)))))))
      (hostWit.setTag 9 (newTag 0 1 (sqWit 0 0 1 0 0) 4)) (9) (newTag 0 1 (sqWit 0 0 1 0 0) 4) = true) ∧
    ((fun (s : State) (tg : TagNo) (x : Tag) (e : MediaEnd) =>
      s.wfb && decide (s.tag tg = some x) && decide (x.io = true) && decide (x.op = opAppend) && decide (x.withFirmware = true) && decide (e ≠ .good)
        && ran (.zoneAppend tg e) s (fun t => decide ((t.tag tg).map (fun y => (y.st, y.status)) = some (.completing, mediaStatus e))))
      (hostWit.setTag 9 { newTag 0 1 (sqWit 0x7D 0 1 0 0) 4 with st := .media }) (9) ({ newTag 0 1 (sqWit 0x7D 0 1 0 0) 4 with st := .media }) (.timeout) = true) ∧
    ((fun (s : State) (tg : TagNo) (x : Tag) (e : MediaEnd) =>
      s.wfb && decide (s.tag tg = some x) && decide (x.io = true) && decide (x.op = opZeroes) && decide (x.withFirmware = true) && decide (e ≠ .good)
        && ran (.writeZeroes tg e) s (fun t => decide ((t.tag tg).map (fun y => (y.st, y.status)) = some (.completing, mediaStatus e))))
      (hostWit.setTag 9 { newTag 0 1 (sqWit 8 0 1 0 0) 4 with st := .media }) (9) ({ newTag 0 1 (sqWit 8 0 1 0 0) 4 with st := .media }) (.timeout) = true) ∧
    ((fun (s : State) (tg : TagNo) (x : Tag) (e : MediaEnd) =>
      s.wfb && decide (s.tag tg = some x) && decide (x.io = true) && decide (x.op = opDsm) && decide (x.withFirmware = true) && decide (e ≠ .good)
        && ran (.datasetManagement tg e) s (fun t => decide ((t.tag tg).map (fun y => (y.st, y.status)) = some (.completing, mediaStatus e))))
      (hostWit.setTag 9 { newTag 0 1 (sqWit 9 0 1 0 0) 4 with st := .media }) (9) ({ newTag 0 1 (sqWit 9 0 1 0 0) 4 with st := .media }) (.timeout) = true) ∧
    ((fun (s : State) (tg : TagNo) (x : Tag) (data : List Byte) (media : List (List Byte)) (e : MediaEnd) =>
      s.wfb && decide (s.tag tg = some x) && decide (x.io = true) && decide (x.op = opCompare) && decide (x.withFirmware = true) && decide (e ≠ .good)
        && ran (.nvmeCompare tg data media e) s (fun t => decide ((t.tag tg).map (fun y => (y.st, y.status)) = some (.completing, mediaStatus e))))
      (hostWit.setTag 9 { newTag 0 1 (sqWit 5 0 1 0 0) 4 with st := .media }) (9) ({ newTag 0 1 (sqWit 5 0 1 0 0) 4 with st := .media }) ([]) ([]) (.unrecovered) = true) ∧
    ((fun (s : State) (tg : TagNo) (x : Tag) (media : List (List Byte)) (e : MediaEnd) =>
      s.wfb && decide (s.tag tg = some x) && decide (x.io = true) && decide (x.op = opVerify) && decide (x.withFirmware = true) && decide (e ≠ .good)
        && ran (.nvmeVerify tg media e) s (fun t => decide ((t.tag tg).map (fun y => (y.st, y.status)) = some (.completing, mediaStatus e))))
      (hostWit.setTag 9 { newTag 0 1 (sqWit 0x0C 0 1 0 0) 4 with st := .media }) (9) ({ newTag 0 1 (sqWit 0x0C 0 1 0 0) 4 with st := .media }) ([]) (.unrecovered) = true) :=
  ⟨by decide +kernel, by decide +kernel, by decide +kernel, by decide +kernel, by decide +kernel, by decide +kernel, by decide +kernel⟩

theorem test_Reservations_and_zones :
    ((fun (s : State) (tg : TagNo) (x : Tag) =>
      s.wfb && decide (s.tag tg = some x) && decide (x.io = true) && decide (x.op = 0x0D) && decide (x.withFirmware = true) && decide (1 ≤ sqNsid x.sqe ∧ sqNsid x.sqe ≤ 16) && decide (x.dw 10 % 8 = 0) && decide (x.dw 10 / 0x40000000 = 0) && decide ((s.ns (sqNsid x.sqe - 1)).keyOf (s.hostOf x) = none) && decide ((s.ns (sqNsid x.sqe - 1)).regs.length < 64))
      (hostWit.setTag 9 { newTag 0 1 (sqWit 0x0D 0 1 0 0) 4 with st := .dispatched }) (9) ({ newTag 0 1 (sqWit 0x0D 0 1 0 0) 4 with st := .dispatched }) = true) ∧
    ((fun (s : State) (tg : TagNo) (x : Tag) (data : List Byte) =>
      s.wfb && decide (s.tag tg = some x) && decide (x.io = true) && decide (x.op = 0x11) && decide (x.withFirmware = true) && decide (1 ≤ sqNsid x.sqe ∧ sqNsid x.sqe ≤ 16) && decide (x.dw 10 % 8 = 0) && decide (bitOf (x.dw 10) 3 = false) && decide (1 ≤ x.dw 10 / 256 % 256 ∧ x.dw 10 / 256 % 256 ≤ 6) && decide ((s.ns (sqNsid x.sqe - 1)).keyOf (s.hostOf x) = some (fieldLe data 0 8)) && decide ((s.ns (sqNsid x.sqe - 1)).resType = 0))
      ((hostWit.modNs 0 (fun n => { n with regs := [(0, 7)] })).setTag 9 { newTag 0 1 (sqWit 0x11 0 1 0x100 0) 4 with st := .dispatched }) (9) ({ newTag 0 1 (sqWit 0x11 0 1 0x100 0) 4 with st := .dispatched }) ([7]) = true) ∧
    ((fun (s : State) (tg : TagNo) (x : Tag) (data : List Byte) =>
      s.wfb && decide (s.tag tg = some x) && decide (x.io = true) && decide (x.op = 0x15) && decide (x.withFirmware = true) && decide (1 ≤ sqNsid x.sqe ∧ sqNsid x.sqe ≤ 16) && decide (x.dw 10 % 8 = 0) && decide (bitOf (x.dw 10) 3 = false) && decide ((s.ns (sqNsid x.sqe - 1)).keyOf (s.hostOf x) = some (fieldLe data 0 8)) && decide ((s.ns (sqNsid x.sqe - 1)).holds (s.hostOf x) = true) && decide ((s.ns (sqNsid x.sqe - 1)).resType = x.dw 10 / 256 % 256))
      ((hostWit.modNs 0 (fun n => { n with regs := [(0, 7)], resType := 1, resHolder := 0 })).setTag 9 { newTag 0 1 (sqWit 0x15 0 1 0x100 0) 4 with st := .dispatched }) (9) ({ newTag 0 1 (sqWit 0x15 0 1 0x100 0) 4 with st := .dispatched }) ([7]) = true) ∧
    ((fun (s : State) (tg : TagNo) (x : Tag) =>
      s.wfb && decide (s.tag tg = some x) && decide (x.ctrl ≠ 0xFFFF) && decide (x.io = true) && decide (x.op = 0x0E) && decide (x.withFirmware = true) && decide (bitOf (x.dw 11) 0 = true)
        && ran (.reservationReport tg) s (fun t => decide (t.host.out.take 4 = toLe 4 (s.ns (sqNsid x.sqe - 1)).resGen) && decide ((t.tag tg).map (fun y => (y.st, y.status)) = some (.completing, 0))))
      (hostWit.setTag 9 { newTag 0 1 (sqWit 0x0E 0 1 20 1) 4 with st := .dispatched }) (9) ({ newTag 0 1 (sqWit 0x0E 0 1 20 1) 4 with st := .dispatched }) = true) ∧
    ((fun (s : State) (tg : TagNo) (x : Tag) =>
      s.wfb && decide (s.tag tg = some x) && decide (x.io = true) && decide (x.op = 0x79) && decide (x.withFirmware = true) && decide (s.nsInfo (sqNsid x.sqe - 1) = none))
      (hostWit.setTag 9 { newTag 0 1 (bytesWith 64 [(0, 1, 0x79), (4, 1, 100), (52, 1, 4)]) 4 with st := .dispatched }) (9) ({ newTag 0 1 (bytesWith 64 [(0, 1, 0x79), (4, 1, 100), (52, 1, 4)]) 4 with st := .dispatched }) = true) ∧
    ((fun (s : State) (tg : TagNo) (x : Tag) =>
      s.wfb && decide (s.tag tg = some x) && decide (x.io = true) && decide (x.op = 0x79) && decide (x.withFirmware = true) && decide (1 ≤ x.dw 13 % 256 ∧ x.dw 13 % 256 ≤ 5) && decide (bitOf (x.dw 13) 8 = false) && decide (sqSlba x.sqe % 65536 = 0))
      (hostWit.setTag 9 { newTag 0 1 (bytesWith 64 [(0, 1, 0x79), (4, 1, 1), (52, 1, 4)]) 4 with st := .dispatched }) (9) ({ newTag 0 1 (bytesWith 64 [(0, 1, 0x79), (4, 1, 1), (52, 1, 4)]) 4 with st := .dispatched }) = true) ∧
    ((fun (s : State) (tg : TagNo) (x : Tag) =>
      s.wfb && decide (s.tag tg = some x) && decide (x.io = true) && decide (x.op = 0x7A) && decide (x.withFirmware = true) && decide (s.nsInfo (sqNsid x.sqe - 1) = none))
      (hostWit.setTag 9 { newTag 0 1 (bytesWith 64 [(0, 1, 0x7A), (4, 1, 100), (52, 1, 4)]) 4 with st := .dispatched }) (9) ({ newTag 0 1 (bytesWith 64 [(0, 1, 0x7A), (4, 1, 100), (52, 1, 4)]) 4 with st := .dispatched }) = true) ∧
    ((fun (s : State) (tg : TagNo) (x : Tag) =>
      s.wfb && decide (s.tag tg = some x) && decide (x.ctrl ≠ 0xFFFF) && decide (x.io = true) && decide (x.op = 0x7A) && decide (x.withFirmware = true) && decide (x.dw 13 % 256 ≤ 1) && decide (x.dw 13 / 256 % 256 ≤ 7))
      (hostWit.setTag 9 { newTag 0 1 (bytesWith 64 [(0, 1, 0x7A), (4, 1, 1)]) 4 with st := .dispatched }) (9) ({ newTag 0 1 (bytesWith 64 [(0, 1, 0x7A), (4, 1, 1)]) 4 with st := .dispatched }) = true) :=
  ⟨by decide +kernel, by decide +kernel, by decide +kernel, by decide +kernel, by decide +kernel, by decide +kernel, by decide +kernel, by decide +kernel⟩

theorem test_The_management_endpoint_answers_1 :
    ((fun (s : State) (addr : Nat) (m : MctpMsg) (good : Bool) =>
      s.wfb && decide (addr ≠ s.get MGMT_STAT_ADDR)
        && ran (.mctpMessage addr m good) s (fun t => decide (t = s)))
      (mgmtWit) (5) (⟨0, []⟩) (true) = true) ∧
    ((fun (s : State) (m : MctpMsg) =>
      s.wfb && decide (s.dieOn 5 = true) && decide (s.mgmtUp = true) && decide (m.type = 4 ∨ m.type = 5)
        && ran (.mctpMessage (s.get MGMT_STAT_ADDR) m true) s (fun t => decide (t = wakeUp 1 (s.raise 48))))
      (mgmtWit) (⟨4, [1]⟩) = true) ∧
    ((fun (s : State) (m : MctpMsg) =>
      s.wfb && decide (s.dieOn 5 = true) && decide (s.mgmtUp = true) && decide (m.type = 0)
        && ran (.mctpMessage (s.get MGMT_STAT_ADDR) m true) s (fun t => decide (t = wakeUp 1 (mctpControl m.body (s.raise 48)))))
      (mgmtWit) (⟨0, [0x80, 2]⟩) = true) ∧
    ((fun (s : State) (m : MctpMsg) (e : Nat) =>
      s.wfb && decide (s.dieOn 5 = true) && decide (s.mgmtUp = true) && decide (s.get LADDER_STAT_RUNG = 0) && decide (s.flag LADDER_STAT_MOVING = false) && decide (m.type = 0) && decide (8 ≤ e ∧ e < 255) && decide (m.body = [0x83, 1, 0, BitVec.ofNat 8 e]))
      (mgmtWit) (⟨0, [0x83, 1, 0, 0x1D]⟩) (0x1D) = true) ∧
    ((fun (s : State) (m : MctpMsg) (good : Bool) =>
      s.wfb && decide (s.dieOn 5 = true) && decide (s.mgmtUp = true) && decide (good = false ∨ [0, 4, 5].contains m.type = false)
        && ran (.mctpMessage (s.get MGMT_STAT_ADDR) m good) s (fun t => decide (t = wakeUp 1 (s.raise 49))))
      (mgmtWit) (⟨1, []⟩) (true) = true) ∧
    ((fun (s : State) (port : Nat) (k : Nat) =>
      s.wfb && decide (s.mgmtFull = true)
        && ran (.readNvmeMiDataStructure 2 port k) s (fun t => decide (t.host.mgmt = miOk (toLe 2 (2 + 2 * (s.ctrlIds.filter (fun j => decide (k ≤ j))).length)) (toLe 2 (s.ctrlIds.filter (fun j => decide (k ≤ j))).length ++ ((s.ctrlIds.filter (fun j => decide (k ≤ j))).map (fun j => toLe 2 j)).flatten))))
      (mgmtWit) (0) (0) = true) ∧
    ((fun (s : State) =>
      s.wfb && decide (s.mgmtFull = true))
      (mgmtWit) = true) ∧
    ((fun (s : State) =>
      s.wfb && decide (s.mgmtFull = true))
      (mgmtWit) = true) :=
  ⟨by decide +kernel, by decide +kernel, by decide +kernel, by decide +kernel, by decide +kernel, by decide +kernel, by decide +kernel, by decide +kernel⟩

theorem test_The_management_endpoint_answers_2 :
    ((fun (s : State) (item : Nat) (port : Nat) (v : Nat) =>
      s.wfb && decide (s.mgmtFull = true) && decide (s.miItem item port = some v)
        && ran (.configurationGet item port) s (fun t => decide (t.host.mgmt = miOk (toLe 3 v) [])))
      (mgmtWit) (3) (0) (64) = true) ∧
    ((fun (s : State) (port : Nat) (v : Nat) =>
      s.wfb && decide (s.mgmtFull = true) && decide (1 ≤ v ∧ v ≤ 3)
        && ran (.configurationSet 1 port v) s (fun t => decide (t.host.mgmt = [0, 0, 0, 0]) && decide (t.miItem 1 port = some v)))
      (mgmtWit) (0) (2) = true) ∧
    ((fun (s : State) (k : Fin 64) =>
      s.wfb && decide (s.mgmtUp = true) && decide (s.get UPD_STAT_STATE ≠ 3) && decide (s.keeperRefused = false) && decide (s.romControl = false) && decide (s.ctrlExists k = true))
      (mgmtWit) (0) = true) ∧
    ((fun (s : State) =>
      s.wfb && decide (s.mgmtFull = true) && decide (s.get MGMT_STAT_BUS = 2))
      (mgmtWit) = true) ∧
    ((fun (s : State) =>
      s.wfb && decide (s.mgmtFull = true) && decide (s.get MGMT_STAT_BUS = 2))
      (mgmtWit) = true) ∧
    ((fun (s : State) (k : Nat) (tg : TagNo) (q : List Byte) =>
      s.wfb && decide (s.mgmtUp = true) && decide (s.host.stopped = false) && decide (s.mgmtOp (slice q 0 64) = true) && decide (s.ctrlExists k = true) && decide (s.tagFor 0xFFFF 0 tg = true) && decide (s.check k 0 (slice q 0 64) [] = none)
        && ran (.nvmeMiAdminCommand k tg q) s (fun t => decide ((t.tag tg).map (fun y => (y.ctrl, y.acts, y.st, y.sqe)) = some (0xFFFF, k, .fetched, slice q 0 64))))
      (mgmtWit) (0) (9) ([6]) = true) ∧
    ((fun (s : State) =>
      s.wfb && decide (s.mgmtSpdm = true)
        && ran (.getVersion) s (fun t => decide (t.host.mgmt = [0x10, 0x04, 0, 0, 0, 2, 0, 0x12, 0, 0x13]) && decide (t.host.spdm = 1)))
      (mgmtWit) = true) ∧
    ((fun (s : State) (req : List Byte) =>
      s.wfb && decide (s.mgmtSpdm = true) && decide (s.host.spdm = 1) && decide (fieldLe req 0 1 = 0x12 ∨ fieldLe req 0 1 = 0x13))
      (mgmtWit.spdmStep 1) ([0x12, 0xE1]) = true) :=
  ⟨by decide +kernel, by decide +kernel, by decide +kernel, by decide +kernel, by decide +kernel, by decide +kernel, by decide +kernel, by decide +kernel⟩

theorem test_The_management_endpoint_answers_3 :
    ((fun (s : State) (req : List Byte) =>
      s.wfb && decide (s.mgmtSpdm = true) && decide (s.host.spdm = 1) && decide (fieldLe req 0 1 < 0x12)
        && ran (.getCapabilities req) s (fun t => decide (t.host.mgmt = [s.spdmVer, 0x7F, 0x41, 0])))
      (mgmtWit.spdmStep 1) ([0x10, 0xE1]) = true) ∧
    ((fun (s : State) (req : List Byte) (ext : List Byte) =>
      s.wfb && decide (s.mgmtSpdm = true) && decide (s.host.spdm = 2) && decide (bitOf (fieldLe req 8 4) 7 = true) && decide (bitOf (fieldLe req 12 4) 1 = true)
        && ran (.negotiateAlgorithms req ext) s (fun t => decide (t.host.spdm = 3) && decide (t.host.mgmt = [s.spdmVer, 0x63, 0, 0] ++ toLe 2 36 ++ [1, 0] ++ toLe 4 4 ++ toLe 4 0x80 ++ toLe 4 2 ++ List.replicate 16 0) && decide (t.host.vca = s.host.vca ++ req ++ ext ++ t.host.mgmt)))
      (mgmtWit.spdmStep 2) (bytesWith 32 [(8, 1, 0x80), (12, 1, 2)]) ([]) = true) ∧
    ((fun (s : State) (req : List Byte) (ext : List Byte) =>
      s.wfb && decide (s.mgmtSpdm = true) && decide (s.host.spdm = 2) && decide (bitOf (fieldLe req 8 4) 7 = false ∨ bitOf (fieldLe req 12 4) 1 = false)
        && ran (.negotiateAlgorithms req ext) s (fun t => decide (t.host.mgmt = [s.spdmVer, 0x7F, 1, 0]) && decide (t.host.spdm = 2)))
      (mgmtWit.spdmStep 2) (bytesWith 32 [(8, 1, 0x80)]) ([]) = true) ∧
    ((fun (s : State) =>
      s.wfb && decide (s.mgmtSpdm = true) && decide (s.host.spdm = 3))
      (mgmtWit.spdmStep 3) = true) ∧
    ((fun (s : State) (slot : Nat) (offset : Nat) (len : Nat) =>
      s.wfb && decide (s.mgmtSpdm = true) && decide (s.host.spdm = 3) && decide (offset < (s.certChain slot).length)
        && ran (.getCertificate slot offset len) s (fun t => decide (t.host.mgmt.drop 8 = ((s.certChain slot).drop offset).take len)))
      ({ mgmtWit.spdmStep 3 with nvs := [(0x28800, 3), (0x28803, 7)] }) (0) (1) (2) = true) ∧
    ((fun (s : State) (slot : Nat) =>
      s.wfb && decide (s.mgmtSpdm = true) && decide (s.host.spdm = 3) && decide (s.certChain slot ≠ []))
      ({ mgmtWit.spdmStep 3 with nvs := [(0x28800, 3), (0x28803, 7)] }) (0) = true) ∧
    ((fun (s : State) =>
      s.wfb && decide (s.mgmtSpdm = true) && decide (s.host.spdm = 3))
      (mgmtWit.spdmStep 3) = true) ∧
    ((fun (s : State) (index : Nat) (b : List Byte) =>
      s.wfb && decide (s.mgmtSpdm = true) && decide (s.host.spdm = 3) && decide (index ≠ 0 ∧ index ≠ 0xFF) && decide (s.measBlock index = some b))
      (mgmtWit.spdmStep 3) (5) ((mgmtWit.measBlock 5).getD []) = true) :=
  ⟨by decide +kernel, by decide +kernel, by decide +kernel, by decide +kernel, by decide +kernel, by decide +kernel, by decide +kernel, by decide +kernel⟩

theorem test_The_management_endpoint_answers_4 :
    ((fun (s : State) (slot : Nat) (nonce : List Byte) (index : Nat) (signed : Bool) =>
      s.wfb && decide (s.mgmtSpdm = true) && decide (s.host.spdm ≠ 3)
        && ran (.getMeasurements index slot signed nonce) s (fun t => decide (t.host.mgmt = [s.spdmVer, 0x7F, 4, 0])))
      (mgmtWit) (0) ([]) (5) (false) = true) ∧
    ((fun (s : State) =>
      s.wfb && decide (s.mgmtSpdm = true) && decide (s.host.spdm ≠ 3)
        && ran (.getDigests) s (fun t => decide (t.host.mgmt = [s.spdmVer, 0x7F, 4, 0])))
      (mgmtWit) = true) ∧
    ((fun (s : State) (slot : Nat) (offset : Nat) (len : Nat) =>
      s.wfb && decide (s.mgmtSpdm = true) && decide (s.host.spdm ≠ 3)
        && ran (.getCertificate slot offset len) s (fun t => decide (t.host.mgmt = [s.spdmVer, 0x7F, 4, 0])))
      (mgmtWit) (0) (1) (2) = true) ∧
    ((fun (s : State) (slot : Nat) (summary : Nat) (nonce : List Byte) =>
      s.wfb && decide (s.mgmtSpdm = true) && decide (s.host.spdm ≠ 3)
        && ran (.spdmChallenge slot summary nonce) s (fun t => decide (t.host.mgmt = [s.spdmVer, 0x7F, 4, 0])))
      (mgmtWit) (0) (0) ([]) = true) :=
  ⟨by decide +kernel, by decide +kernel, by decide +kernel, by decide +kernel⟩

theorem test_Inventory_builds_and_notes :
    ((fun (s : State) =>
      s.wfb && decide (s.hubBuilds = true))
      (mgmtWit.put BOOT_STAT_STAGE 7) = true) ∧
    ((fun (s : State) =>
      s.wfb && decide (s.dieOn 5 = true) && decide (s.hubBuilds = false))
      (w0) = true) ∧
    ((fun (s : State) (v : Word) =>
      s.wfb && decide (s.dieOn 5 = true)
        && ran (.invNoteDataWrite v) s (fun t => decide (t.invNotes.readN 0 (s.get INV_NOTE_ADDR_OFF / 4 * 4) 4 = toLe 4 v.toNat) && decide (t.get INV_NOTE_ADDR_OFF = (s.get INV_NOTE_ADDR_OFF / 4 * 4 + 4) % 1024)))
      (w0.put INV_NOTE_ADDR_OFF 1020) (0x00020301) = true) :=
  ⟨by decide +kernel, by decide +kernel, by decide +kernel⟩

theorem test_SIGNET_closes_signs_and_computes_1 :
    ((fun (s : State) =>
      s.wfb && decide (s.dieOn 0 = true) && decide (7 ≤ s.get BOOT_STAT_STAGE) && decide (s.flag COLO_STAT_CLOSED = false)
        && ran (.coloClose) s (fun t => decide (t.flag COLO_STAT_CLOSED = true) && decide (t.get BOOT_STAT_STAGE = (if s.get BOOT_STAT_STAGE = 7 then 8 else s.get BOOT_STAT_STAGE)) && decide (t.sig.due = 0 :: s.sig.due)))
      (w0.put BOOT_STAT_STAGE 7) = true) ∧
    ((fun (s : State) =>
      s.wfb && decide (s.passed s.sig.stage7 5000000 = true) && decide (s.flag COLO_STAT_CLOSED = false)
        && ran (.coloLateClose) s (fun t => decide (t.flag COLO_STAT_CLOSED = true) && decide (t.flag COLO_STAT_LATE_CLOSE = true)))
      ((({ w0 with mtime := 5000005 } : State).put BOOT_STAT_STAGE 7).modSig (fun g => { g with stage7 := some 5 })) = true) ∧
    ((fun (s : State) =>
      s.wfb && decide (s.dieOn 0 = true) && decide (s.flag COLO_STAT_TREE_READY = false)
        && ran (.lmsTreeGenerate) s (fun t => decide (t.flag COLO_STAT_TREE_READY = true)))
      (w0) = true) ∧
    ((fun (s : State) (reason : Nat) (rest : List Nat) =>
      s.wfb && decide (s.dieOn 0 = true) && decide (s.sig.due = reason :: rest) && decide (s.flag COLO_STAT_CLOSED = true) && decide (s.num LMS_NEXT < 2 ^ 30) && decide (s.flag COLO_STAT_LMS_EXH = false) && decide (s.flag COLO_STAT_TREE_READY = true) && decide (s.sig.resEnd ≠ 0) && decide (s.num LMS_NEXT ≠ s.sig.resEnd))
      (((w0.put COLO_STAT_CLOSED 1).put COLO_STAT_TREE_READY 1).modSig (fun g => { g with due := [0], resEnd := 256 })) (0) ([]) = true) ∧
    ((fun (s : State) (reason : Nat) (rest : List Nat) =>
      s.wfb && decide (s.dieOn 0 = true) && decide (s.sig.due = reason :: rest) && decide (s.flag COLO_STAT_CLOSED = true) && decide (s.num LMS_NEXT < 2 ^ 30) && decide (s.flag COLO_STAT_LMS_EXH = false) && decide (s.flag COLO_STAT_TREE_READY = true) && decide (s.sig.resEnd = 0 ∨ s.num LMS_NEXT = s.sig.resEnd))
      (((w0.put COLO_STAT_CLOSED 1).put COLO_STAT_TREE_READY 1).modSig (fun g => { g with due := [0] })) (0) ([]) = true) ∧
    ((fun (s : State) (reason : Nat) (rest : List Nat) =>
      s.wfb && decide (s.dieOn 0 = true) && decide (s.sig.due = reason :: rest) && decide (s.flag COLO_STAT_CLOSED = true) && decide (s.num LMS_NEXT < 2 ^ 30) && decide (s.flag COLO_STAT_LMS_EXH = false) && decide (s.flag COLO_STAT_TREE_READY = true) && decide (s.sig.resEnd = 0 ∨ s.num LMS_NEXT = s.sig.resEnd)
        && ran (.colophonSign false) s (fun t => decide (t.num LMS_NEXT = s.num LMS_NEXT) && decide (t.sig.records = s.sig.records) && decide (bitOf (t.num sigErr.addr) 0 = true)))
      (((w0.put COLO_STAT_CLOSED 1).put COLO_STAT_TREE_READY 1).modSig (fun g => { g with due := [0] })) (0) ([]) = true) ∧
    ((fun (s : State) (reason : Nat) (rest : List Nat) =>
      s.wfb && decide (s.dieOn 0 = true) && decide (s.sig.due = reason :: rest) && decide (s.flag COLO_STAT_CLOSED = true) && decide (s.flag COLO_STAT_LMS_EXH = true))
      ((((w0.put COLO_STAT_CLOSED 1).put COLO_STAT_LMS_EXH 1).modSig (fun g => { g with due := [0] }))) (0) ([]) = true) ∧
    ((fun (s : State) =>
      s.wfb && decide (s.dieOn 0 = true) && decide (s.flag SIG_STAT_BUSY = false)
        && ran (.sigSha256) s (fun t => decide (t.flag SIG_STAT_BUSY = true) && decide (t.sig.job = some 1)))
      (w0) = true) :=
  ⟨by decide +kernel, by decide +kernel, by decide +kernel, by decide +kernel, by decide +kernel, by decide +kernel, by decide +kernel, by decide +kernel⟩

theorem test_SIGNET_closes_signs_and_computes_2 :
    ((fun (s : State) =>
      s.wfb && decide (s.dieOn 0 = true) && decide (s.flag SIG_STAT_BUSY = false)
        && ran (.sigSha384) s (fun t => decide (t.flag SIG_STAT_BUSY = true) && decide (t.sig.job = some 2)))
      (w0) = true) ∧
    ((fun (s : State) =>
      s.wfb && decide (s.dieOn 0 = true) && decide (s.flag SIG_STAT_BUSY = false)
        && ran (.sigVerify) s (fun t => decide (t.flag SIG_STAT_BUSY = true) && decide (t.sig.job = some 3)))
      (w0) = true) ∧
    ((fun (s : State) =>
      s.wfb && decide (s.dieOn 0 = true) && decide (s.flag SIG_STAT_BUSY = false)
        && ran (.sigExtend) s (fun t => decide (t.flag SIG_STAT_BUSY = true) && decide (t.sig.job = some 4)))
      (w0) = true) ∧
    ((fun (s : State) =>
      s.wfb && decide (s.dieOn 0 = true) && decide (s.flag SIG_STAT_BUSY = false)
        && ran (.sigRandom) s (fun t => decide (t.flag SIG_STAT_BUSY = true) && decide (t.sig.job = some 5)))
      (w0) = true) ∧
    ((fun (s : State) =>
      s.wfb && decide (s.dieOn 0 = true) && decide (s.flag SIG_STAT_BUSY = true)
        && ran (.sigVerify) s (fun t => decide (t.flag SIG_STAT_REJ = true) && decide (t.sig = s.sig)))
      (w0.put SIG_STAT_BUSY 1) = true) ∧
    ((fun (s : State) (j : Nat) =>
      s.wfb && decide (s.dieOn 0 = true) && decide (s.sig.job = some j))
      ((w0.put SIG_STAT_BUSY 1).modSig (fun g => { g with job := some 5 })) (5) = true) ∧
    ((fun (s : State) =>
      s.wfb && decide (s.dieOn 0 = true) && decide (s.sig.job = some 2) && decide (s.marks = []) && decide (inHubSram s.sigSrc (s.num SIG_LEN) = true) && decide (inHubSram s.sigDst 48 = true))
      (((((w0.setNum SIG_SRC_HI 1).setNum SIG_DST_HI 1).setNum SIG_DST_LO 64).setNum SIG_LEN 8).modSig (fun g => { g with job := some 2 })) = true) ∧
    ((fun (s : State) (slot : Nat) =>
      s.wfb && decide (s.dieOn 0 = true) && decide (s.sig.job = some 4) && decide (s.marks = []) && decide (s.flag COLO_STAT_CLOSED = false) && decide (inHubSram s.sigSrc 64 = true) && decide (fieldLe (s.hsram.readN 0 (s.sigSrc - sramBase) 64) 0 1 = slot) && decide (12 ≤ slot ∧ slot ≤ 15))
      ({ (w0.setNum SIG_SRC_HI 1).modSig (fun g => { g with job := some 4 }) with hsram := [(0, 13)] }) (13) = true) :=
  ⟨by decide +kernel, by decide +kernel, by decide +kernel, by decide +kernel, by decide +kernel, by decide +kernel, by decide +kernel, by decide +kernel⟩

theorem test_Boot_stages_and_full_boots_1 :
    ((fun (s : State) =>
      s.wfb)
      ({ w0 with nvs := [(0x18004, 7)] }) = true) ∧
    ((fun (s : State) =>
      s.wfb && decide (s.pins.test = false) && decide (s.get BOOT_STAT_STAGE = 0) && decide (s.get BOOT_STAT_BOOTS_IN_CYCLE = 0) && decide (s.supplyGood 0 = true) && decide (s.supplyGood 1 = true))
      ({ State.reset with nvs := [(0x18004, 7)] }.put SUP_STAT_GOOD 3) = true) ∧
    ((fun (s : State) =>
      s.wfb && decide (s.pins.test = false) && decide (s.keeper = true) && decide (s.get BOOT_STAT_STAGE = 1) && decide (s.hubSupplies = true))
      ({ State.reset with keeper := true }.put SUP_STAT_GOOD 0x1FF |>.put BOOT_STAT_STAGE 1) = true) ∧
    ((fun (s : State) =>
      s.wfb && decide (s.pins.test = false) && decide (s.keeper = true) && decide (s.get BOOT_STAT_STAGE = 2))
      ({ State.reset with keeper := true }.put BOOT_STAT_STAGE 2) = true) ∧
    ((fun (s : State) (ch : Ch) =>
      s.wfb && decide (s.chWait.contains ch.val = true)
        && ran (.chSupplyTimeout ch) s (fun t => decide (t.chWait = s.chWait.erase ch) && decide (t.get (DIE_STAT_STATE (unitBase (ch + 1) 0)) = 0)))
      ({ w0 with chWait := [2] }) (2) = true) ∧
    ((fun (s : State) =>
      s.wfb && decide (s.dieOn 5 = true) && decide (s.alog.fatalAt = none) && decide (s.bootRuns = false) && decide (s.bootDue = none)
        && ran (.fullBootRequest 0x0E59B007) s (fun t => decide (t.bootDue = some 1)))
      (w0.put BOOT_STAT_STAGE 9) = true) ∧
    ((fun (s : State) (v : Word) =>
      s.wfb && decide (s.dieOn 5 = true) && decide (v ≠ 0x0E59B007)
        && ran (.fullBootRequest v) s (fun t => decide (t = s.answer .done)))
      (w0) (1) = true) ∧
    ((fun (s : State) (cause : Nat) =>
      s.wfb && decide (s.bootDue = some cause) && decide (s.bootReady = true) && decide (cause < 8))
      ({ mgmtWit with bootDue := some 1 }.put SUP_STAT_GOOD 0x1FF) (1) = true) :=
  ⟨by decide +kernel, by decide +kernel, by decide +kernel, by decide +kernel, by decide +kernel, by decide +kernel, by decide +kernel, by decide +kernel⟩

theorem test_Boot_stages_and_full_boots_2 :
    ((fun (s : State) (tg : TagNo) (x : Tag) (bs : List Byte) =>
      s.wfb && decide (s.img = none) && decide (s.keeper = true) && decide (s.tag tg = some x) && decide (x.sqid = 0) && decide (x.op = 0x10) && decide (x.st = .fetched) && decide (s.staged = some (x.ctrl, bs)) && decide (bs.length ≤ 0x40000)
        && ran (.blankImageDownload tg) s (fun t => decide (t.flashBytes (slotOffset s.blankSlot) bs.length = bs) && decide (t.staged = none) && decide ((t.tag tg).map (fun y => (y.st, y.status)) = some (.completing, 0))))
      ({ State.reset with keeper := true, staged := some (0xFFFF, [1, 2, 0xFF, 3]) }.setTag 9 (newTag 0xFFFF 0 (sqWit 0x10 0 0 0 0) 4)) (9) (newTag 0xFFFF 0 (sqWit 0x10 0 0 0 0) 4) ([1, 2, 0xFF, 3]) = true) ∧
    ((fun (s : State) (tg : TagNo) (x : Tag) (bs : List Byte) =>
      s.wfb && decide (s.keeperRefused = true) && decide (s.flag BOOT_STAT_ROM_SERVICES = true) && decide (s.tag tg = some x) && decide (x.sqid = 0) && decide (x.op = 0x10) && decide (x.st = .fetched) && decide (s.staged = some (x.ctrl, bs)))
      (({ State.reset with staged := some (0xFFFF, [1, 2, 0xFF, 3]) }.put BOOT_STAT_BOOTS_IN_CYCLE 1 |>.put BOOT_STAT_ROM_SERVICES 1).setTag 9 (newTag 0xFFFF 0 (sqWit 0x10 0 0 0 0) 4)) (9) (newTag 0xFFFF 0 (sqWit 0x10 0 0 0 0) 4) ([1, 2, 0xFF, 3]) = true) :=
  ⟨by decide +kernel, by decide +kernel⟩

theorem test_The_update_engine_1 :
    ((fun (s : State) (tg : TagNo) (x : Tag) (data : List Byte) =>
      s.wfb && decide (s.tag tg = some x) && decide (x.sqid = 0) && decide (x.op = 0x11) && decide (s.inService x = true) && decide (x.dw 11 = 0) && decide (newHeaders 0 (slice data 0 (4 * (x.dw 10 % 2 ^ 32 + 1))) = [])
        && ran (.firmwareImageDownload tg data) s (fun t => decide (t.staged = some (x.ctrl, slice data 0 (4 * (x.dw 10 % 2 ^ 32 + 1)))) && decide ((t.tag tg).map (fun y => (y.st, y.status)) = some (.completing, 0))))
      (hostWit.setTag 9 { newTag 0 0 (sqWit 0x11 0 0 1 0) 4 with st := .dispatched }) (9) ({ newTag 0 0 (sqWit 0x11 0 0 1 0) 4 with st := .dispatched }) ([1, 2, 3]) = true) ∧
    ((fun (s : State) (tg : TagNo) (x : Tag) (bs : List Byte) =>
      s.wfb && decide (s.img.isSome = true) && decide (s.keeper = true) && decide (s.get UPD_STAT_STATE ≠ 3) && decide (s.flag UPD_STAT_BUSY = false) && decide (s.tag tg = some x) && decide (x.sqid = 0) && decide (x.op = 0x10) && decide (s.inService x = true) && decide (s.staged = some (x.ctrl, bs)) && decide (x.dw 10 / 8 % 8 = 0) && decide (x.dw 10 % 8 = 0) && decide ((s.writable (s.commitTarget 0)).isSome = true))
      (({ hostWit with keeper := true, staged := some (0, []) }).setTag 9 { newTag 0 0 (sqWit 0x10 0 0 0 0) 4 with st := .dispatched }) (9) ({ newTag 0 0 (sqWit 0x10 0 0 0 0) 4 with st := .dispatched }) ([]) = true) ∧
    ((fun (s : State) (g : Fin 16) =>
      s.wfb && decide (s.dieOn 0 = true) && decide (s.flag UPD_STAT_BUSY = false) && decide (s.get UPD_STAT_STATE ≠ 3) && decide (updTarget upHdrchk g = true)
        && ran (.updHdrchk g) s (fun t => decide (t.flag UPD_STAT_BUSY = true) && decide (t.upd.job = some (upHdrchk, g.val))))
      (w0) (8) = true) ∧
    ((fun (s : State) (g : Fin 16) =>
      s.wfb && decide (s.dieOn 0 = true) && decide (s.flag UPD_STAT_BUSY = false) && decide (s.get UPD_STAT_STATE ≠ 3) && decide (updTarget upWrite g = true)
        && ran (.updWrite g) s (fun t => decide (t.flag UPD_STAT_BUSY = true) && decide (t.upd.job = some (upWrite, g.val))))
      (w0) (1) = true) ∧
    ((fun (s : State) (g : Fin 16) =>
      s.wfb && decide (s.dieOn 0 = true) && decide (s.flag UPD_STAT_BUSY = false) && decide (s.get UPD_STAT_STATE ≠ 3) && decide (updTarget upSelect g = true)
        && ran (.updSelect g) s (fun t => decide (t.flag UPD_STAT_BUSY = true) && decide (t.upd.job = some (upSelect, g.val))))
      (w0) (9) = true) ∧
    ((fun (s : State) (g : Fin 16) =>
      s.wfb && decide (s.dieOn 0 = true) && decide (s.flag UPD_STAT_BUSY = false) && decide (s.get UPD_STAT_STATE ≠ 3) && decide (8 ≤ g.val))
      (w0) (8) = true) ∧
    ((fun (s : State) (g : Fin 16) =>
      s.wfb && decide (s.dieOn 0 = true) && decide (s.flag UPD_STAT_BUSY = true)
        && ran (.updWrite g) s (fun t => decide (t.flag UPD_STAT_REJ = true) && decide (t.upd = s.upd)))
      (w0.put UPD_STAT_BUSY 1) (1) = true) ∧
    ((fun (s : State) (op : Nat) (g : Nat) =>
      s.wfb && decide (s.dieOn 0 = true) && decide (s.upd.job = some (op, g)) && decide (s.upd.commit = none) && decide (op = upHdrchk ∨ op = upWrite ∨ op = upSelect) && decide (op = upHdrchk ∨ s.xsRuns = false))
      ((w0.put UPD_STAT_BUSY 1).modUpd (fun u => { u with job := some (1, 8) })) (1) (8) = true) :=
  ⟨by decide +kernel, by decide +kernel, by decide +kernel, by decide +kernel, by decide +kernel, by decide +kernel, by decide +kernel, by decide +kernel⟩

theorem test_The_update_engine_2 :
    ((fun (s : State) (flash : Bool) (op : Nat) (g : Nat) =>
      s.wfb && decide (s.dieOn 0 = true) && decide (s.upd.job = some (op, g)) && decide (op ≠ upHdrchk) && decide (s.xsRuns = true)
        && ran (.updOpDone flash) s (fun t => decide (t = s)))
      ({ w0.modUpd (fun u => { u with job := some (2, 8) }) with xsJob := some ⟨1, 16, sramBase, 4⟩ }) (true) (2) (8) = true) ∧
    ((fun (s : State) (a : Activation) (d : Nat) (ds : List Nat) =>
      s.wfb && decide (s.upd.act = some a) && decide (a.dies = d :: ds) && decide (1 ≤ d ∧ d ≤ 4) && decide (a.loaded = false) && decide (s.isSealed = false) && decide (s.xsRuns = false) && decide (s.dieQuiet (d - 1) = true ∨ a.began + 50000 ≤ s.mtime))
      (({ w0 with mtime := 50000 } : State).modUpd (fun u => { u with act := some ⟨0, [1, 0], false, 0, 0, []⟩ })) (⟨0, [1, 0], false, 0, 0, []⟩) (1) ([0]) = true) ∧
    ((fun (s : State) (a : Activation) (ds : List Nat) =>
      s.wfb && decide (s.upd.act = some a) && decide (a.dies = 0 :: ds) && decide (a.loaded = false) && decide (s.noTags = true) && decide (s.isSealed = false) && decide (s.xsRuns = false))
      (w0.modUpd (fun u => { u with act := some ⟨0, [0], false, 0, 0, []⟩ })) (⟨0, [0], false, 0, 0, []⟩) ([]) = true) ∧
    ((fun (s : State) (source : Fin 17) (v : Word) (a : Activation) (d : Nat) =>
      s.wfb && decide (s.dieOn 0 = true) && decide (v.toNat / 2 ^ 30 = 1) && decide (v.toNat % 8 = d) && decide ((if source.val < 16 then coreDie source.val else 5) = d) && decide (s.awaits = some d) && decide (s.upd.act = some a))
      (w0.modUpd (fun u => { u with act := some ⟨0, [5, 0], true, 0, 0, []⟩ })) (16) (0x40000005) (⟨0, [5, 0], true, 0, 0, []⟩) (5) = true) ∧
    ((fun (s : State) (source : Fin 17) (v : Word) (d : Nat) =>
      s.wfb && decide (s.dieOn 0 = true) && decide (v.toNat / 2 ^ 30 = 2) && decide (v.toNat % 8 = d) && decide ((if source.val < 16 then coreDie source.val else 5) = d) && decide (s.awaits = some d ∨ (s.onTrial d).isSome = true))
      (w0.modUpd (fun u => { u with act := some ⟨0, [5, 0], true, 0, 0, []⟩ })) (16) (0x80000005) (5) = true) ∧
    ((fun (s : State) (d : Nat) =>
      s.wfb && decide (s.awaits = some d) && decide (s.activationOver d = true))
      (w0.modUpd (fun u => { u with act := some ⟨0, [5, 0], true, 0, 0, []⟩ })) (5) = true) :=
  ⟨by decide +kernel, by decide +kernel, by decide +kernel, by decide +kernel, by decide +kernel, by decide +kernel⟩

theorem test_UPD_UNSEAL_restores_a_Sealed_part_at_level_2 :
    ((fun (s : State) =>
      s.wfb && decide (s.dieOn 0 = true) && decide (s.get DBG_STAT_LEVEL = 2)
        && ran (.updUnsealWrite 0x0E595EA1) s (fun t => decide (t.isSealed = false) && decide (t.nvs.readN 0 0x18018 8 = List.replicate 8 0) && decide (t.bootDue = some (s.bootDue.getD 6))))
      ({ w0.put DBG_STAT_LEVEL 2 with nvs := [(0x18014, 1), (0x18018, 3)] }) = true) ∧
    ((fun (s : State) (v : Word) =>
      s.wfb && decide (s.dieOn 0 = true) && decide (v ≠ 0x0E595EA1 ∨ s.get DBG_STAT_LEVEL ≠ 2)
        && ran (.updUnsealWrite v) s (fun t => decide (t = s.answer .done)))
      (w0) (0x0E595EA1) = true) :=
  ⟨by decide +kernel, by decide +kernel⟩

theorem test_Debug_OTP_and_NV_store_accesses_1 :
    ((fun (s : State) =>
      s.wfb && decide (s.dieOn 0 = true))
      (w0) = true) ∧
    ((fun (s : State) (token : List Byte) =>
      s.wfb && decide (s.dieOn 0 = true) && decide (s.flag DBG_STAT_BUSY = false)
        && ran (.dbgToken token) s (fun t => decide (t.flag DBG_STAT_BUSY = true) && decide (t.dbg.token = some token)))
      (w0) ([1]) = true) ∧
    ((fun (s : State) =>
      s.wfb && decide (s.dieOn 0 = true) && decide (s.flag DBG_STAT_BUSY = false) && decide (s.marks = []) && decide ((s.num DBG_ADDR_LO + 2 ^ 32 * (s.num DBG_ADDR_HI % 256)) % 64 = 0) && decide (inHubSram (s.num DBG_ADDR_LO + 2 ^ 32 * (s.num DBG_ADDR_HI % 256)) 5748 = true))
      (w0.setNum DBG_ADDR_HI 1) = true) ∧
    ((fun (s : State) (token : List Byte) (k : Nat) =>
      s.wfb && decide (s.dbg.token = some token) && decide (s.tokenCheck token = some k)
        && ran (.tokenCheckDone) s (fun t => decide (t.flag DBG_STAT_BUSY = false) && decide (t.flag DBG_STAT_REFUSED = true) && decide (t.get DBG_STAT_CODE = k % 256) && decide (t.get DBG_STAT_LEVEL = s.get DBG_STAT_LEVEL) && decide (t.dbg = ⟨none, none⟩)))
      ({ w0.put DBG_STAT_BUSY 1 with dbg := ⟨none, some [1]⟩ }) ([1]) (1) = true) ∧
    ((fun (s : State) (token : List Byte) =>
      s.wfb && decide (s.dbg.token = some token)
        && ran (.tokenCheckDone) s (fun t => decide ((s.tokenCheck token = none → t.get DBG_STAT_LEVEL = fieldLe (slice token 0 256) 6 1 % 4 ∧ t.get DBG_STAT_CODE = 0 ∧ t.sig.debugged = true)) && decide (t.flag DBG_STAT_BUSY = false) && decide (t.dbg = ⟨none, none⟩)))
      ({ w0.put DBG_STAT_BUSY 1 with dbg := ⟨none, some [1]⟩ }) ([1]) = true) ∧
    ((fun (s : State) =>
      s.wfb
        && ran (.challengeExpire) s (fun t => decide (t.dbg.chal = (if s.liveChal = none then none else s.dbg.chal)) && decide (t.dbg.token = s.dbg.token)))
      ({ w0 with dbg := ⟨some ([1], 3), none⟩, mtime := 600000003 }) = true) ∧
    ((fun (s : State) =>
      s.wfb && decide (s.dieOn 0 = true)
        && ran (.dbgLock) s (fun t => decide (t.get DBG_STAT_LEVEL = 0)))
      (w0.put DBG_STAT_LEVEL 2) = true) ∧
    ((fun (s : State) (v : Word) =>
      s.wfb && decide (s.dieOn 0 = true) && decide (s.flag OTP_STAT_BUSY = false) && decide (s.otpAllowed (bitsOf v.toNat 10 0) (bitsOf v.toNat 22 16) = true)
        && ran (.otpProgWrite v) s (fun t => decide (t.flag OTP_STAT_BUSY = true) && decide (t.otpJob = some (bitsOf v.toNat 10 0, bitsOf v.toNat 22 16))))
      (w0) (0x00010191) = true) :=
  ⟨by decide +kernel, by decide +kernel, by decide +kernel, by decide +kernel, by decide +kernel, by decide +kernel, by decide +kernel, by decide +kernel⟩

theorem test_Debug_OTP_and_NV_store_accesses_2 :
    ((fun (s : State) (v : Word) =>
      s.wfb && decide (s.dieOn 0 = true) && decide (s.otpAllowed (bitsOf v.toNat 10 0) (bitsOf v.toNat 22 16) = false)
        && ran (.otpProgWrite v) s (fun t => decide (t.flag OTP_STAT_REFUSED = true) && decide (t.otpJob = s.otpJob) && decide (t.otp = s.otp)))
      (w0) (0x00000000) = true) ∧
    ((fun (s : State) (a : Nat) (b : Nat) =>
      s.wfb && decide (s.otpJob = some (a, b)) && decide (b < 8)
        && ran (.otpProgramDone) s (fun t => decide (t.flag OTP_STAT_BUSY = false) && decide (t.otpBit a b = true)))
      ({ w0.put OTP_STAT_BUSY 1 with otpJob := some (0x191, 1) }) (0x191) (1) = true) ∧
    ((fun (s : State) (v : Word) =>
      s.wfb && decide (s.dieOn 5 = true) && decide (s.flag NVS_STAT_BUSY = false) && decide (nvsOpen s.nvsAddr = true)
        && ran (.nvsDataWrite v) s (fun t => decide (t.flag NVS_STAT_BUSY = true) && decide (t.nvsJob = some (s.nvsAddr, v)) && decide (t.get NVS_ADDR_WORD = (s.get NVS_ADDR_WORD + 1) % 65536)))
      (w0.put NVS_ADDR_WORD 0x8000) (7) = true) ∧
    ((fun (s : State) (v : Word) =>
      s.wfb && decide (s.dieOn 5 = true) && decide (s.flag NVS_STAT_BUSY = false) && decide (nvsOpen s.nvsAddr = false)
        && ran (.nvsDataWrite v) s (fun t => decide (bitOf (t.num nvsErr.addr) 0 = true) && decide (t.nvs = s.nvs) && decide (t.nvsJob = s.nvsJob) && decide (t.get NVS_ADDR_WORD = (s.get NVS_ADDR_WORD + 1) % 65536)))
      (w0) (7) = true) ∧
    ((fun (s : State) =>
      s.wfb && decide (s.dieOn 5 = true) && decide (s.flag NVS_STAT_BUSY = false)
        && ran (.nvsDataRead) s (fun t => decide (t.resp = .data (s.nvsNat s.nvsAddr 4)) && decide (t.get NVS_ADDR_WORD = (s.get NVS_ADDR_WORD + 1) % 65536)))
      ({ w0 with nvs := [(1, 7)] }) = true) ∧
    ((fun (s : State) (v : Word) =>
      s.wfb && decide (s.dieOn 5 = true) && decide (s.flag NVS_STAT_BUSY = true)
        && ran (.nvsDataWrite v) s (fun t => decide (t = { s with nvsWaits := s.nvsWaits ++ [some v], resp := .waits })))
      (w0.put NVS_STAT_BUSY 1) (7) = true) ∧
    ((fun (s : State) =>
      s.wfb && decide (s.dieOn 5 = true) && decide (s.flag NVS_STAT_BUSY = true)
        && ran (.nvsDataRead) s (fun t => decide (t = { s with nvsWaits := s.nvsWaits ++ [none], resp := .waits })))
      (w0.put NVS_STAT_BUSY 1) = true) ∧
    ((fun (s : State) (a : Nat) (v : Word) =>
      s.wfb && decide (s.nvsJob = some (a, v)) && decide (s.nvsWaits = [none])
        && ran (.nvsWriteDone true) s (fun t => decide (t.nvsNat a 4 = v.toNat) && decide (t.resp = .data (t.nvsNat s.nvsAddr 4)) && decide (t.nvsWaits = []) && decide (t.get NVS_ADDR_WORD = (s.get NVS_ADDR_WORD + 1) % 65536)))
      ({ w0 with nvsJob := some (0x20000, 5), nvsWaits := [none] }) (0x20000) (5) = true) :=
  ⟨by decide +kernel, by decide +kernel, by decide +kernel, by decide +kernel, by decide +kernel, by decide +kernel, by decide +kernel, by decide +kernel⟩

theorem test_Debug_OTP_and_NV_store_accesses_3 :
    ((fun (s : State) (a : Nat) (v : Word) =>
      s.wfb && decide (s.nvsJob = some (a, v)) && decide (s.nvsWaits = [])
        && ran (.nvsWriteDone true) s (fun t => decide (t.nvsNat a 4 = v.toNat) && decide (t.flag NVS_STAT_BUSY = false)))
      ({ w0 with nvsJob := some (0x20000, 5) }) (0x20000) (5) = true) ∧
    ((fun (s : State) (a : Nat) (v : Word) =>
      s.wfb && decide (s.nvsJob = some (a, v)) && decide (s.nvsWaits = [])
        && ran (.nvsWriteDone false) s (fun t => decide (t.nvs = s.nvs) && decide (bitOf (t.num nvsErr.addr) 1 = true) && decide (t.flag NVS_STAT_BUSY = false)))
      ({ w0 with nvsJob := some (0x20000, 5) }) (0x20000) (5) = true) :=
  ⟨by decide +kernel, by decide +kernel⟩

theorem test_Core_instructions_and_traps :
    ((fun (s : State) (k : CoreNo) (o : RvOp) (word : Bool) (rd : Nat) (rs1 : Nat) (imm : DWord) (len : Nat) =>
      s.wfb && decide (s.executes k (.opImm o word rd rs1 imm) len = true) && decide (1 ≤ rd ∧ rd ≤ 31)
        && ran (.coreInstruction k) s (fun t => decide ((t.coreOf k).reg rd = rvAlu o word ((s.coreOf k).reg rs1) imm) && decide ((t.coreOf k).pc = (s.coreOf k).pc + BitVec.ofNat 64 len) && decide ((t.coreOf k).user = (s.coreOf k).user)))
      (hartWit [0x93, 0x00, 0x50, 0x00]) (8) (.add) (false) (1) (0) (5) (4) = true) ∧
    ((fun (s : State) (k : CoreNo) (o : RvOp) (word : Bool) (rd : Nat) (rs1 : Nat) (rs2 : Nat) (len : Nat) =>
      s.wfb && decide (s.executes k (.op o word rd rs1 rs2) len = true) && decide (1 ≤ rd ∧ rd ≤ 31)
        && ran (.coreInstruction k) s (fun t => decide ((t.coreOf k).reg rd = rvAlu o word ((s.coreOf k).reg rs1) ((s.coreOf k).reg rs2)) && decide ((t.coreOf k).pc = (s.coreOf k).pc + BitVec.ofNat 64 len)))
      (hartWit [0xB3, 0x00, 0x31, 0x00]) (8) (.add) (false) (1) (2) (3) (4) = true) ∧
    ((fun (s : State) (k : CoreNo) (rd : Nat) (imm : DWord) (len : Nat) =>
      s.wfb && decide (s.executes k (.jal rd imm) len = true) && decide (1 ≤ rd ∧ rd ≤ 31)
        && ran (.coreInstruction k) s (fun t => decide ((t.coreOf k).reg rd = (s.coreOf k).pc + BitVec.ofNat 64 len) && decide ((t.coreOf k).pc = (s.coreOf k).pc + imm)))
      (hartWit [0xEF, 0x00, 0x80, 0x00]) (8) (1) (8) (4) = true) ∧
    ((fun (s : State) (k : CoreNo) (f : Nat) (rs1 : Nat) (rs2 : Nat) (imm : DWord) (len : Nat) =>
      s.wfb && decide (s.executes k (.branch f rs1 rs2 imm) len = true)
        && ran (.coreInstruction k) s (fun t => decide ((t.coreOf k).pc = (if rvTaken f ((s.coreOf k).reg rs1) ((s.coreOf k).reg rs2) then (s.coreOf k).pc + imm else (s.coreOf k).pc + BitVec.ofNat 64 len)) && decide ((t.coreOf k).x = (s.coreOf k).x)))
      (hartWit [0x63, 0x04, 0x00, 0x00]) (8) (0) (0) (0) (8) (4) = true) ∧
    ((fun (s : State) (k : CoreNo) (len : Nat) =>
      s.wfb && decide (s.executes k .ecall len = true)
        && ran (.coreInstruction k) s (fun t => decide ((t.coreOf k).mepc = (s.coreOf k).pc) && decide ((t.coreOf k).mcause = (if (s.coreOf k).user then 8 else 11)) && decide ((t.coreOf k).user = false) && decide ((t.coreOf k).mie = false) && decide ((t.coreOf k).mpie = (s.coreOf k).mie) && decide ((t.coreOf k).pc = BitVec.ofNat 64 ((s.coreOf k).mtvec.toNat / 4 * 4))))
      (hartWit [0x73, 0x00, 0x00, 0x00]) (8) (4) = true) ∧
    ((fun (s : State) (k : CoreNo) (len : Nat) =>
      s.wfb && decide (s.executes k .illegal len = true)
        && ran (.coreInstruction k) s (fun t => decide ((t.coreOf k).mepc = (s.coreOf k).pc) && decide ((t.coreOf k).mcause = 2) && decide ((t.coreOf k).pc = BitVec.ofNat 64 ((s.coreOf k).mtvec.toNat / 4 * 4))))
      (hartWit [0x00, 0x00]) (8) (2) = true) ∧
    ((fun (s : State) (k : CoreNo) (len : Nat) =>
      s.wfb && decide (s.executes k .mret len = true) && decide ((s.coreOf k).user = false)
        && ran (.coreInstruction k) s (fun t => decide ((t.coreOf k).pc = (s.coreOf k).mepc) && decide ((t.coreOf k).mie = (s.coreOf k).mpie) && decide ((t.coreOf k).user = (s.coreOf k).mppUser)))
      (hartWit [0x73, 0x00, 0x20, 0x30]) (8) (4) = true) ∧
    ((fun (s : State) (k : CoreNo) (i : Nat) =>
      s.wfb && decide (s.coreRuns k = true) && decide (((s.wake k).coreOf k).wfi = false) && decide ((s.wake k).interrupt k = some i)
        && ran (.coreInstruction k) s (fun t => decide ((t.coreOf k).mepc = (s.coreOf k).pc) && decide ((t.coreOf k).mcause = BitVec.ofNat 64 (2 ^ 63 + i)) && decide ((t.coreOf k).user = false)))
      ((hartWit []).modCore 8 (fun k => { k with ie := 0x80, mie := true, timecmp := 0 })) (8) (7) = true) :=
  ⟨by decide +kernel, by decide +kernel, by decide +kernel, by decide +kernel, by decide +kernel, by decide +kernel, by decide +kernel, by decide +kernel⟩

theorem test_Restarts_machine_checks_and_watchdogs_1 :
    ((fun (s : State) (k : CoreNo) =>
      s.wfb && decide (s.coreRuns k = true)
        && ran (.residueMismatch k true) s (fun t => decide (t.num (RES_CNT (coreBase k)) = min (s.num (RES_CNT (coreBase k)) + 1) 0xFFFFFFFF) && decide (t.coreState k = csRunning)))
      (hartWit []) (8) = true) ∧
    ((fun (s : State) (k : CoreNo) =>
      s.wfb && decide (s.coreRuns k = true)
        && ran (.residueMismatch k false) s (fun t => decide (t.coreState k = csRestarting) && decide ((t.coreOf k).restart = 2)))
      (hartWit []) (8) = true) ∧
    ((fun (s : State) (k : CoreNo) (a : DWord) =>
      s.wfb && decide (s.coreRuns k = true) && decide ((s.coreOf k).chkCause.toNat / 2 ^ 63 = 0)
        && ran (.machineCheck k 1 a) s (fun t => decide ((t.coreOf k).chkCause = BitVec.ofNat 64 (2 ^ 63 + 1)) && decide ((t.coreOf k).chkAddr = a) && decide ((t.coreOf k).mcause = 24) && decide ((t.coreOf k).mepc = (s.coreOf k).pc) && decide (t.coreState k = csRunning)))
      (hartWit []) (8) (64) = true) ∧
    ((fun (s : State) (k : CoreNo) (a : DWord) =>
      s.wfb && decide (s.coreRuns k = true)
        && ran (.machineCheck k 0 a) s (fun t => decide (t = s.l1Parity k (a.toNat / 64))))
      (hartWit []) (8) (64) = true) ∧
    ((fun (s : State) (k : CoreNo) (source : Nat) (a : DWord) =>
      s.wfb && decide (s.coreRuns k = true) && decide (source = 2 ∨ source = 3) && decide ((s.coreOf k).chkCause.toNat / 2 ^ 63 = 0)
        && ran (.machineCheck k source a) s (fun t => decide ((t.coreOf k).chkCause = BitVec.ofNat 64 (2 ^ 63 + source)) && decide ((t.coreOf k).chkAddr = a) && decide ((t.coreOf k).mchk = true) && decide (t.coreState k = csRunning)))
      (hartWit []) (8) (2) (64) = true) ∧
    ((fun (s : State) (k : CoreNo) (source : Nat) (a : DWord) =>
      s.wfb && decide (s.coreRuns k = true) && decide (source = 2 ∨ source = 3) && decide ((s.coreOf k).chkCause.toNat / 2 ^ 63 = 1)
        && ran (.machineCheck k source a) s (fun t => decide (t.coreState k = csRestarting) && decide ((t.coreOf k).restart = 4)))
      ((hartWit []).modCore 8 (fun k => { k with chkCause := BitVec.ofNat 64 (2 ^ 63 + 2) })) (8) (2) (64) = true) ∧
    ((fun (s : State) (k : CoreNo) =>
      s.wfb && decide (s.coreRuns k = true) && decide (s.flag (CORE_CTL_WDOG_EN (coreBase k)) = true) && decide (s.wdEnd k ≤ s.mtime)
        && ran (.watchdogExpiry k) s (fun t => decide (t.coreState k = csRestarting) && decide ((t.coreOf k).restart = 3)))
      ({ (hartWit []).put (CORE_CTL_WDOG_EN (coreBase 8)) 1 with mtime := 1 }) (8) = true) ∧
    ((fun (s : State) (k : CoreNo) =>
      s.wfb && decide (s.dieOn (coreDie k) = true) && decide (s.coreState k = csRestarting)
        && ran (.warmRestart k) s (fun t => decide ((t.coreOf k).x = Core.reset.x) && decide ((t.coreOf k).bootCause = (s.coreOf k).restart % 16) && decide ((t.coreOf k).chkCause = (s.coreOf k).chkCause) && decide (t.num (RESTART_CNT (coreBase k)) = min (s.num (RESTART_CNT (coreBase k)) + 1) 0xFFFFFFFF)))
      (((hartWit []).setCoreState 8 csRestarting).modCore 8 (fun k => { k with restart := 3 })) (8) = true) :=
  ⟨by decide +kernel, by decide +kernel, by decide +kernel, by decide +kernel, by decide +kernel, by decide +kernel, by decide +kernel, by decide +kernel⟩

theorem test_Restarts_machine_checks_and_watchdogs_2 :
    ((fun (s : State) (k : CoreNo) =>
      s.wfb && decide (s.dieOn (coreDie k) = true) && decide (s.coreState k = csRestarting)
        && ran (.warmRestartDone k true) s (fun t => decide (t.coreState k = csRunning) && decide ((t.coreOf k).pc = s.warmEntry k) && decide (t.get (CORE_STAT_ST_FAILS (coreBase k)) = 0)))
      (((hartWit []).setCoreState 8 csRestarting).setNum (WARM_LO (coreBase 8)) 0x1000) (8) = true) ∧
    ((fun (s : State) (k : CoreNo) =>
      s.wfb && decide (s.dieOn (coreDie k) = true) && decide (s.coreState k = csRestarting) && decide (s.get (CORE_STAT_ST_FAILS (coreBase k)) = 2)
        && ran (.warmRestartDone k false) s (fun t => decide (t.coreState k = csFailed)))
      (((hartWit []).setCoreState 8 csRestarting).put (CORE_STAT_ST_FAILS (coreBase 8)) 2) (8) = true) ∧
    ((fun (s : State) (k : CoreNo) =>
      s.wfb && decide (s.dieOn (coreDie k) = true) && decide (s.coreState k = csReset) && decide (s.roleOf k ≠ 0)
        && ran (.coreStart k) s (fun t => decide (t.coreState k = csRunning) && decide ((t.coreOf k).pc = s.warmEntry k) && decide ((t.coreOf k).user = false)))
      (w0) (3) = true) ∧
    ((fun (s : State) (k : CoreNo) =>
      s.wfb && decide (s.dieOn (coreDie k) = true) && decide (s.coreState k = csRunning)
        && ran (.coreWarm k) s (fun t => decide (t.coreState k = csRestarting) && decide ((t.coreOf k).restart = 1)))
      (hartWit []) (8) = true) ∧
    ((fun (s : State) =>
      s.wfb
        && ran (.keeperContextResidue) s (fun t => decide (t = s)))
      (w0) = true) :=
  ⟨by decide +kernel, by decide +kernel, by decide +kernel, by decide +kernel, by decide +kernel⟩

theorem test_Events_and_a_core_s_own_registers_1 :
    ((fun (s : State) (e : Fin 512) =>
      s.wfb && decide (s.dieOn (eventDie e) = true) && decide (bitOf (s.routeOf e) 7 = true) && decide (coreDie (bitsOf (s.routeOf e) 3 0) = eventDie e)
        && ran (.eventRaise e) s (fun t => decide ((atD t.pend (bitsOf (s.routeOf e) 3 0) 0).getLsbD e = true)))
      (w0.wr (EV_ROUTE 8) 0x82) (32) = true) ∧
    ((fun (s : State) (e : Fin 512) (q : Nat × Nat × Nat) =>
      s.wfb && decide (s.evFlight.find? (fun p => decide (p.1 = e.val)) = some q) && decide (q.2.1 < 16) && decide ((eventPath (eventDie e) (coreDie q.2.1)).all (fun l => decide (s.get (LINK_STAT_STATE (linkBase l)) = 2)) = true)
        && ran (.eventDeliver e) s (fun t => decide (t.evFlight = s.evFlight.erase q) && decide ((atD t.pend q.2.1 0).getLsbD e = true)))
      ({ w0.put (LINK_STAT_STATE (linkBase 1)) 2 with evFlight := [(32, 10, 7)] }) (32) ((32, 10, 7)) = true) ∧
    ((fun (s : State) (k : CoreNo) (e : Nat) =>
      s.wfb && decide (s.coreRuns k = true) && decide (s.claimable k = some e) && decide ((s.coreOf k).user = false)
        && ran (.mevclaimRead k) s (fun t => decide (t.resp = .data e) && decide ((atD t.pend k 0).getLsbD e = false)))
      ({ (hartWit []).modCore 8 (fun k => { k with even := 0x60 }) with pend := modAt w0.pend 8 (fun _ => 0x60) }) (8) (5) = true) ∧
    ((fun (s : State) (k : CoreNo) (v : DWord) =>
      s.wfb && decide (s.coreRuns k = true) && decide (128 ≤ v.toNat % 512 ∧ v.toNat % 512 ≤ 191) && decide ((s.coreOf k).user = false)
        && ran (.mevsendWrite k v) s (fun t => decide (t = s.raise (v.toNat % 512))))
      (hartWit []) (8) (130) = true) ∧
    ((fun (s : State) (k : CoreNo) (v : DWord) =>
      s.wfb && decide (s.coreRuns k = true) && decide (v.toNat % 512 < 128 ∨ 191 < v.toNat % 512) && decide ((s.coreOf k).user = false)
        && ran (.mevsendWrite k v) s (fun t => decide (bitOf (t.num evErr.addr) 1 = true)))
      (hartWit []) (8) (13) = true) ∧
    ((fun (s : State) (v : Word) =>
      s.wfb && decide (s.dieOn 0 = true) && decide (128 ≤ v.toNat % 512 ∧ v.toNat % 512 ≤ 191)
        && ran (.evSendWrite v) s (fun t => decide (t = (s.answer .done).raise (v.toNat % 512))))
      (hartWit []) (130) = true) ∧
    ((fun (s : State) (w : Fin 128) (v : Word) =>
      s.wfb && decide (s.dieOn 0 = true) && decide ((List.range 4).all (fun j => !(s.badRoute (4 * w + j) (bitsOf v.toNat (8 * j + 7) (8 * j)))) = true)
        && ran (.evRouteWrite w v) s (fun t => decide (t.rd (EV_ROUTE w) = v)))
      (w0) (60) (0x00010203) = true) ∧
    ((fun (s : State) (ch : Ch) (k : Nat) =>
      s.wfb && decide (s.chUp ch = true) && decide (s.taskCore ch = some k) && decide (k < 16)
        && ran (.taskRaise ch) s (fun t => decide ((t.coreOf k).task = true)))
      (w0.wr (EV_LOCAL_C 1 8) 0x8A) (1) (10) = true) :=
  ⟨by decide +kernel, by decide +kernel, by decide +kernel, by decide +kernel, by decide +kernel, by decide +kernel, by decide +kernel, by decide +kernel⟩

theorem test_Events_and_a_core_s_own_registers_2 :
    ((fun (s : State) (ch : Ch) (k : Nat) =>
      s.wfb && decide (s.chUp ch = true) && decide (s.taskCore ch = some k) && decide (8 ≤ k) && decide ((s.coreOf k).task = true)
        && ran (.taskLate ch) s (fun t => decide (t.flag (CORE_STAT_LATE (coreBase k)) = true) && decide (t.num (LATE_CNT ((k - 8) / 2) ((k - 8) % 2)) = min (s.num (LATE_CNT ((k - 8) / 2) ((k - 8) % 2)) + 1) 0xFFFFFFFF)))
      ((w0.wr (EV_LOCAL_C 1 8) 0x8A).modCore 10 (fun k => { k with task := true })) (1) (10) = true) ∧
    ((fun (s : State) (k : CoreNo) =>
      s.wfb && decide (s.coreRuns k = true) && decide (8 ≤ k.val) && decide ((s.coreOf k).user = false)
        && ran (.mtaskdoneWrite k 1) s (fun t => decide ((t.coreOf k).task = false)))
      ((hartWit []).modCore 8 (fun k => { k with task := true })) (8) = true) ∧
    ((fun (s : State) (k : CoreNo) =>
      s.wfb && decide (s.coreRuns k = true) && decide ((s.coreOf k).user = false)
        && ran (.mdinvWrite k 0xFFFFFFFFFFFFFFFF) s (fun t => decide ((t.coreOf k).l1d = []) && decide ((t.coreOf k).l1i = (s.coreOf k).l1i)))
      (hartWit []) (8) = true) ∧
    ((fun (s : State) (k : CoreNo) =>
      s.wfb && decide (s.coreRuns k = true) && decide ((s.coreOf k).user = false)
        && ran (.mwdkickWrite k) s (fun t => decide ((t.coreOf k).kick = s.mtime)))
      (hartWit []) (8) = true) ∧
    ((fun (s : State) (k : CoreNo) (v : DWord) =>
      s.wfb && decide (s.coreRuns k = true) && decide ((s.coreOf k).user = false)
        && ran (.mresctlWrite k v) s (fun t => decide ((t.coreOf k).inject = v.toNat % 4)))
      (hartWit []) (8) (7) = true) ∧
    ((fun (s : State) (k : CoreNo) =>
      s.wfb && decide (s.coreRuns k = true) && decide ((s.coreOf k).user = true)
        && ran (.mevclaimRead k) s (fun t => decide ((t.coreOf k).mcause = 2) && decide ((t.coreOf k).user = false) && decide ((t.coreOf k).mepc = (s.coreOf k).pc)))
      ((hartWit []).modCore 8 (fun k => { k with user := true })) (8) = true) ∧
    ((fun (s : State) (k : CoreNo) (v : DWord) =>
      s.wfb && decide (s.coreRuns k = true) && decide ((s.coreOf k).user = true)
        && ran (.mevsendWrite k v) s (fun t => decide ((t.coreOf k).mcause = 2) && decide ((t.coreOf k).user = false) && decide ((t.coreOf k).mepc = (s.coreOf k).pc)))
      ((hartWit []).modCore 8 (fun k => { k with user := true })) (8) (1) = true) ∧
    ((fun (s : State) (k : CoreNo) (v : DWord) =>
      s.wfb && decide (s.coreRuns k = true) && decide ((s.coreOf k).user = true)
        && ran (.mtaskdoneWrite k v) s (fun t => decide ((t.coreOf k).mcause = 2) && decide ((t.coreOf k).user = false) && decide ((t.coreOf k).mepc = (s.coreOf k).pc)))
      ((hartWit []).modCore 8 (fun k => { k with user := true })) (8) (1) = true) :=
  ⟨by decide +kernel, by decide +kernel, by decide +kernel, by decide +kernel, by decide +kernel, by decide +kernel, by decide +kernel, by decide +kernel⟩

theorem test_Events_and_a_core_s_own_registers_3 :
    ((fun (s : State) (k : CoreNo) (v : DWord) =>
      s.wfb && decide (s.coreRuns k = true) && decide ((s.coreOf k).user = true)
        && ran (.mdinvWrite k v) s (fun t => decide ((t.coreOf k).mcause = 2) && decide ((t.coreOf k).user = false) && decide ((t.coreOf k).mepc = (s.coreOf k).pc)))
      ((hartWit []).modCore 8 (fun k => { k with user := true })) (8) (1) = true) ∧
    ((fun (s : State) (k : CoreNo) =>
      s.wfb && decide (s.coreRuns k = true) && decide ((s.coreOf k).user = true)
        && ran (.mwdkickWrite k) s (fun t => decide ((t.coreOf k).mcause = 2) && decide ((t.coreOf k).user = false) && decide ((t.coreOf k).mepc = (s.coreOf k).pc)))
      ((hartWit []).modCore 8 (fun k => { k with user := true })) (8) = true) ∧
    ((fun (s : State) (k : CoreNo) (v : DWord) =>
      s.wfb && decide (s.coreRuns k = true) && decide ((s.coreOf k).user = true)
        && ran (.mresctlWrite k v) s (fun t => decide ((t.coreOf k).mcause = 2) && decide ((t.coreOf k).user = false) && decide ((t.coreOf k).mepc = (s.coreOf k).pc)))
      ((hartWit []).modCore 8 (fun k => { k with user := true })) (8) (1) = true) ∧
    ((fun (s : State) (k : CoreNo) =>
      s.wfb && decide (s.coreRuns k = true) && decide ((s.coreOf k).timecmp.toNat ≤ s.mtime) && decide (bitOf (s.coreOf k).ie.toNat 7 = true)
        && ran (.timerInterrupt k) s (fun t => decide ((t.coreOf k).wfi = false)))
      ((hartWit []).modCore 8 (fun k => { k with ie := 0x80, wfi := true, timecmp := 0 })) (8) = true) :=
  ⟨by decide +kernel, by decide +kernel, by decide +kernel, by decide +kernel⟩

theorem test_The_Lomun_sequencer_1 :
    ((fun (s : State) (ch : Ch) (v : Word) =>
      s.wfb && decide (s.dieOn (ch + 1) = true) && decide (2560 ≤ s.get (LM_LOAD_ADDR_WORD ch)) && decide (s.flag (LM_STAT_RUN ch) = false) && decide (risingFrom 0 (s.lmuOf ch).store = true)
        && ran (.lmLoadData7Write ch v) s (fun t => decide (((t.lmuOf ch).word (s.get (LM_LOAD_ADDR_WORD ch))).toNat / 2 ^ 224 = v.toNat) && decide (t.get (LM_LOAD_ADDR_WORD ch) = (s.get (LM_LOAD_ADDR_WORD ch) + 1) % 4096)))
      (w0.put (LM_LOAD_ADDR_WORD 1) 4095) (1) (9) = true) ∧
    ((fun (s : State) (ch : Ch) (v : Word) =>
      s.wfb && decide (s.dieOn (ch + 1) = true) && decide (s.get (LM_LOAD_ADDR_WORD ch) < 2560 ∨ s.flag (LM_STAT_RUN ch) = true)
        && ran (.lmLoadData7Write ch v) s (fun t => decide (bitOf (t.num (LM_FAULT ch)) 7 = true) && decide (t.lmuOf ch = s.lmuOf ch)))
      (w0.put (LM_STAT_RUN 1) 1) (1) (9) = true) ∧
    ((fun (s : State) (ch : Ch) =>
      s.wfb && decide (s.dieOn (ch + 1) = true) && decide (s.flag (LM_STAT_RUN ch) = false)
        && ran (.lmStart ch) s (fun t => decide (t.flag (LM_STAT_VERIFY ch) = true) && decide ((t.lmuOf ch).st = .verify)))
      (w0) (1) = true) ∧
    ((fun (s : State) (ch : Ch) =>
      s.wfb && decide (s.chUp ch = true) && decide ((s.lmuOf ch).st = .verify))
      (w0.modLmu 1 (fun l => { l with st := .verify })) (1) = true) ∧
    ((fun (s : State) (ch : Ch) =>
      s.wfb && decide (s.dieOn (ch + 1) = true)
        && ran (.lmStop ch) s (fun t => decide ((t.lmuOf ch).st = .stopped) && decide ((t.lmuOf ch).startDue = false) && decide ((s.flag (LM_STAT_RUN ch) = true → t.flag (LM_STAT_RUN ch) = false))))
      ((w0.put (LM_STAT_RUN 1) 1).modLmu 1 (fun l => { l with st := .run })) (1) = true) ∧
    ((fun (s : State) (ch : Ch) =>
      s.wfb && decide (s.dieOn (ch + 1) = true) && decide (s.flag (LM_STAT_RUN ch) = false)
        && ran (.lmReload ch) s (fun t => decide ((t.lmuOf ch).reload = true)))
      (w0) (1) = true) ∧
    ((fun (s : State) (ch : Ch) =>
      s.wfb && decide (s.chUp ch = true) && decide ((s.lmuOf ch).reload = true)
        && ran (.lmReloadDone ch) s (fun t => decide ((t.lmuOf ch).reload = false) && decide ((t.lmuOf ch).store = (s.lmuOf ch).kept ++ (s.lmuOf ch).store.filter (fun e => decide (2560 ≤ e.1)))))
      (w0.modLmu 1 (fun l => { l with reload := true, kept := [(3, 4)] })) (1) = true) ∧
    ((fun (s : State) (ch : Ch) (w : BitVec 256) =>
      s.wfb && decide (s.chUp ch = true) && decide ((s.lmuOf ch).st = .run) && decide (s.flag (LM_STAT_PROT ch) = false) && decide ((s.lmuOf ch).word (s.lmuOf ch).pc = w) && decide (mwIllegal w = false) && decide (mw w 255 252 = 1) && decide (mw w 223 221 = 0) && decide (mw w 183 180 = 0) && decide (mw w 135 134 = 0) && decide (mw w 106 106 = 0) && decide ((s.lmuOf ch).pc < 2560 ∨ 2560 ≤ mw w 251 240)
        && ran (.microword ch false) s (fun t => decide ((t.lmuOf ch).pc = mw w 251 240) && decide ((t.lmuOf ch).st = .run) && decide (t.get (LM_STAT_PC ch) = (s.lmuOf ch).pc % 4096)))
      (w0.modLmu 1 (fun l => { l with st := .run, pc := 2600, store := [(2600, BitVec.ofNat 256 (0x1A05 * 2 ^ 240))] })) (1) (BitVec.ofNat 256 (0x1A05 * 2 ^ 240)) = true) :=
  ⟨by decide +kernel, by decide +kernel, by decide +kernel, by decide +kernel, by decide +kernel, by decide +kernel, by decide +kernel, by decide +kernel⟩

theorem test_The_Lomun_sequencer_2 :
    ((fun (s : State) (ch : Ch) (w : BitVec 256) =>
      s.wfb && decide (s.chUp ch = true) && decide ((s.lmuOf ch).st = .run) && decide (s.flag (LM_STAT_PROT ch) = false) && decide ((s.lmuOf ch).word (s.lmuOf ch).pc = w) && decide (mwIllegal w = false) && decide (mw w 255 252 = 0) && decide (mw w 223 221 = 0) && decide (mw w 183 180 = 8) && decide (mw w 179 176 ≠ 0) && decide (mw w 135 134 = 0) && decide (mw w 106 106 = 0) && decide ((s.lmuOf ch).pc < 4095)
        && ran (.microword ch false) s (fun t => decide (t.rd (LM_G ch (mw w 179 176)) = BitVec.ofNat 32 (mw w 167 136)) && decide ((t.lmuOf ch).pc = (s.lmuOf ch).pc + 1) && decide ((t.lmuOf ch).z = (s.lmuOf ch).z)))
      (w0.modLmu 1 (fun l => { l with st := .run, pc := 2600, store := [(2600, BitVec.ofNat 256 (0x83 * 2 ^ 176 + 77 * 2 ^ 136))] })) (1) (BitVec.ofNat 256 (0x83 * 2 ^ 176 + 77 * 2 ^ 136)) = true) ∧
    ((fun (s : State) (ch : Ch) (w : BitVec 256) =>
      s.wfb && decide (s.chUp ch = true) && decide ((s.lmuOf ch).st = .run) && decide (s.flag (LM_STAT_PROT ch) = false) && decide ((s.lmuOf ch).word (s.lmuOf ch).pc = w) && decide (mwIllegal w = false) && decide (mw w 255 252 = 0) && decide (mw w 223 221 = 0) && decide (mw w 183 180 = 1) && decide (mw w 179 176 ≠ 0) && decide (mw w 135 134 = 0) && decide (mw w 106 106 = 0) && decide ((s.lmuOf ch).pc < 4095)
        && ran (.microword ch false) s (fun t => decide (t.rd (LM_G ch (mw w 179 176)) = s.gReg ch (mw w 175 172) + s.gReg ch (mw w 171 168)) && decide ((t.lmuOf ch).z = decide (s.gReg ch (mw w 175 172) + s.gReg ch (mw w 171 168) = 0)) && decide ((t.lmuOf ch).c = decide (2 ^ 32 ≤ (s.gReg ch (mw w 175 172)).toNat + (s.gReg ch (mw w 171 168)).toNat))))
      ((w0.wr (LM_G 1 4) 0xFFFFFFFF |>.wr (LM_G 1 5) 1).modLmu 1 (fun l => { l with st := .run, pc := 2600, store := [(2600, BitVec.ofNat 256 (0x1345 * 2 ^ 168))] })) (1) (BitVec.ofNat 256 (0x1345 * 2 ^ 168)) = true) ∧
    ((fun (s : State) (ch : Ch) (w : BitVec 256) =>
      s.wfb && decide (s.chUp ch = true) && decide ((s.lmuOf ch).st = .run) && decide (s.flag (LM_STAT_PROT ch) = false) && decide ((s.lmuOf ch).word (s.lmuOf ch).pc = w) && decide (mwIllegal w = true)
        && ran (.microword ch false) s (fun t => decide (bitOf (t.num (LM_FAULT ch)) 1 = true) && decide ((t.lmuOf ch).queue = [])))
      (w0.modLmu 1 (fun l => { l with st := .run, pc := 2600, store := [(2600, BitVec.ofNat 256 (0xA000 * 2 ^ 240))] })) (1) (BitVec.ofNat 256 (0xA000 * 2 ^ 240)) = true) ∧
    ((fun (s : State) (ch : Ch) (w : BitVec 256) =>
      s.wfb && decide (s.chUp ch = true) && decide ((s.lmuOf ch).st = .waitCond) && decide ((s.lmuOf ch).word (s.lmuOf ch).pc = w) && decide (s.lmHolds ch w = true) && decide ((s.lmuOf ch).pc < 2560 ∨ 2560 ≤ mw w 251 240)
        && ran (.microword ch false) s (fun t => decide ((t.lmuOf ch).pc = mw w 251 240) && decide ((t.lmuOf ch).st = .run)))
      (w0.modLmu 1 (fun l => { l with st := .waitCond, pc := 2600, store := [(2600, BitVec.ofNat 256 (0x7A05 * 2 ^ 240))] })) (1) (BitVec.ofNat 256 (0x7A05 * 2 ^ 240)) = true) :=
  ⟨by decide +kernel, by decide +kernel, by decide +kernel, by decide +kernel⟩

theorem test_The_ladder_moves_between_rungs_1 :
    ((fun (s : State) (v : Word) (l12 : Bool) =>
      s.wfb && decide (s.dieOn 5 = true) && decide (s.flag LADDER_STAT_MOVING = false) && decide (s.get LADDER_STAT_RUNG < min (min 4 (v.toNat % 8)) s.rungLimit) && decide ((s.ladderFails (min (min 4 (v.toNat % 8)) s.rungLimit) l12).isEmpty = true)
        && ran (.ladderCmdWrite v l12) s (fun t => decide (t = (((s.answer .done).put LADDER_STAT_MOVING 1).put LADDER_STAT_TARGET (min (min 4 (v.toNat % 8)) s.rungLimit)).modLad (fun l => { l with entry := true, abort := false }))))
      (((w0.put (LOOP_STAT_MODE 0) 1).put MAX_RUNG_RUNG 4)) (1) (false) = true) ∧
    ((fun (s : State) (v : Word) (l12 : Bool) =>
      s.wfb && decide (s.dieOn 5 = true) && decide (s.flag LADDER_STAT_MOVING = false) && decide (s.get LADDER_STAT_RUNG < min (min 4 (v.toNat % 8)) s.rungLimit) && decide ((s.ladderFails (min (min 4 (v.toNat % 8)) s.rungLimit) l12).isEmpty = false)
        && ran (.ladderCmdWrite v l12) s (fun t => decide ((s.ladderFails (min (min 4 (v.toNat % 8)) s.rungLimit) l12).all (fun b => bitOf (t.num LADDER_ERR) b) = true) && decide (t.get LADDER_STAT_RUNG = s.get LADDER_STAT_RUNG) && decide (t.flag LADDER_STAT_MOVING = false) && decide (t.lad = s.lad)))
      ((w0.put MAX_RUNG_RUNG 4).put SPIN_STAT_STATE 2) (3) (false) = true) ∧
    ((fun (s : State) (v : Word) (l12 : Bool) =>
      s.wfb && decide (s.dieOn 5 = true) && decide (s.flag LADDER_STAT_MOVING = true)
        && ran (.ladderCmdWrite v l12) s (fun t => decide (t = (s.answer .done).modLad (fun l => { l with queued := some (min 4 (v.toNat % 8) + 8 * ofBool l12) }))))
      (w0.put LADDER_STAT_MOVING 1) (6) (true) = true) ∧
    ((fun (s : State) (v : Word) =>
      s.wfb && decide (s.dieOn 5 = true)
        && ran (.maxRungWrite v) s (fun t => decide (t.get MAX_RUNG_RUNG = min (v.toNat % 8) (s.imgNat Image.maxRung))))
      (w0) (7) = true) ∧
    ((fun (s : State) =>
      s.wfb && decide (s.flag LADDER_STAT_MOVING = true) && decide (s.lad.entry = true) && decide (s.lad.abort = false) && decide (s.lad.queued = none) && decide (s.get LADDER_STAT_RUNG ≤ 3) && decide (s.get LADDER_STAT_TARGET = s.get LADDER_STAT_RUNG + 1))
      ((((w0.put LADDER_STAT_MOVING 1).put LADDER_STAT_RUNG 2).put LADDER_STAT_TARGET 3).modLad (fun l => { l with entry := true })) = true) ∧
    ((fun (s : State) =>
      s.wfb && decide (s.flag LADDER_STAT_MOVING = true) && decide (s.lad.entry = true) && decide (s.lad.abort = false) && decide (s.get LADDER_STAT_RUNG ≤ 3) && decide (s.get LADDER_STAT_RUNG + 1 < s.get LADDER_STAT_TARGET))
      (((w0.put LADDER_STAT_MOVING 1).put LADDER_STAT_TARGET 3).modLad (fun l => { l with entry := true })) = true) ∧
    ((fun (s : State) (source : Fin 6) =>
      s.wfb && decide (bitOf (s.get WAKE_EN_EN) source = false)
        && ran (.rungWake source) s (fun t => decide (t = s)))
      (w0.put WAKE_EN_EN 0x3E) (0) = true) ∧
    ((fun (s : State) (source : Fin 6) =>
      s.wfb && decide (bitOf (s.get WAKE_EN_EN) source = true) && decide (s.flag LADDER_STAT_MOVING = false) && decide (1 ≤ s.get LADDER_STAT_RUNG) && decide (source ≠ 2 ∨ s.get LADDER_STAT_RUNG ≤ 2)
        && ran (.rungWake source) s (fun t => decide (bitOf (t.get LADDER_STAT_WAKE_SRC) source = true) && decide (t.flag LADDER_STAT_MOVING = true) && decide (t.get LADDER_STAT_TARGET = 0) && decide (t.get LADDER_STAT_RUNG = s.get LADDER_STAT_RUNG) && decide (t.lad.entry = false)))
      ((w0.put WAKE_EN_EN 0x3F).put LADDER_STAT_RUNG 2) (2) = true) :=
  ⟨by decide +kernel, by decide +kernel, by decide +kernel, by decide +kernel, by decide +kernel, by decide +kernel, by decide +kernel, by decide +kernel⟩

theorem test_The_ladder_moves_between_rungs_2 :
    ((fun (s : State) (source : Fin 6) =>
      s.wfb && decide (bitOf (s.get WAKE_EN_EN) source = true) && decide (s.flag LADDER_STAT_MOVING = true) && decide (s.lad.entry = true) && decide (s.lad.abort = false)
        && ran (.rungWake source) s (fun t => decide (t.lad.abort = true) && decide (bitOf (t.num LADDER_ERR) 5 = true) && decide (bitOf (t.get LADDER_STAT_WAKE_SRC) source = true)))
      (((w0.put WAKE_EN_EN 0x3F).put LADDER_STAT_MOVING 1).modLad (fun l => { l with entry := true })) (1) = true) ∧
    ((fun (s : State) =>
      s.wfb && decide (s.flag LADDER_STAT_MOVING = true) && decide (s.lad.entry = true) && decide (s.lad.abort = true) && decide (s.get LADDER_STAT_RUNG ≠ 0)
        && ran (.rungEntryStep) s (fun t => decide (t = (s.put LADDER_STAT_TARGET 0).modLad (fun l => { l with entry := false, abort := false }))))
      (((w0.put LADDER_STAT_MOVING 1).put LADDER_STAT_RUNG 1).modLad (fun l => { l with entry := true, abort := true })) = true) ∧
    ((fun (s : State) =>
      s.wfb && decide (s.flag LADDER_STAT_MOVING = true) && decide (s.lad.entry = false) && decide (s.lad.queued = none) && decide (s.lad.warned = false) && decide (s.hubHeld = true) && decide (s.critOff = []) && decide (s.get LADDER_STAT_RUNG ≤ 2))
      ((((w0.put LADDER_STAT_MOVING 1).put LADDER_STAT_RUNG 2).put SUP_STAT_GOOD 0x1FF).modLad (fun l => { l with entry := false })) = true) ∧
    ((fun (s : State) =>
      s.wfb && decide (s.flag LADDER_STAT_MOVING = true) && decide (s.lad.entry = false) && decide (s.lad.queued = none) && decide (s.lad.warned = false) && decide (s.hubHeld = true) && decide (s.get LADDER_STAT_RUNG = 4))
      ((((w0.put LADDER_STAT_MOVING 1).put LADDER_STAT_RUNG 4).put SUP_STAT_GOOD 0x1FF).modLad (fun l => { l with entry := false })) = true) ∧
    ((fun (s : State) =>
      s.wfb && decide (s.flag LADDER_STAT_MOVING = false)
        && ran (.rungExit) s (fun t => decide (t = s)))
      (w0) = true) ∧
    ((fun (s : State) (addr : BitVec 32) =>
      s.wfb && decide (s.served addr.toNat = false)
        && ran (.wideRegisterRead addr) s (fun t => decide (t = s.answer .busError)))
      (w0.modLad (fun l => { l with pd := Vector.replicate 84 .ret })) (0x07000000) = true) :=
  ⟨by decide +kernel, by decide +kernel, by decide +kernel, by decide +kernel, by decide +kernel, by decide +kernel⟩

theorem test_Supplies_and_temperatures_are_watched_1 :
    ((fun (s : State) (k : Fin 17) =>
      s.wfb && decide (k < 9)
        && ran (.supplyGood k) s (fun t => decide (bitOf (t.get SUP_STAT_GOOD) k = true) && decide (t.nvs = s.nvs) && decide (t.flash = s.flash) && decide (t.otp = s.otp) && decide (t.img = s.img)))
      (w0) (4) = true) ∧
    ((fun (s : State) (k : Fin 17) =>
      s.wfb && decide (9 ≤ k)
        && ran (.supplyGood k) s (fun t => decide (bitOf (t.get (if k < 13 then SUP_CH_VDD_GOOD else SUP_CH_VDDA_GOOD)) ((k - 9) % 4) = true) && decide (t.flash = s.flash) && decide (t.otp = s.otp) && decide (t.img = s.img)))
      (w0) (14) = true) ∧
    ((fun (s : State) =>
      s.wfb && decide (s.supplyGood 0 = true))
      (w0.put SUP_STAT_GOOD 0x1FF) = true) ∧
    ((fun (s : State) (k : Fin 17) =>
      s.wfb && decide (1 ≤ k.val ∧ k.val < 8) && decide (s.supplyGood k = true) && decide (s.hubPowered = true) && decide (s.keeper = true))
      (({ w0 with keeper := true }.put SUP_STAT_GOOD 0x1FF).modLad (fun l => { l with pd := Vector.replicate 84 .on })) (3) = true) ∧
    ((fun (s : State) =>
      s.wfb && decide (s.supplyGood 8 = true) && decide (s.spinState ≠ spStopped ∧ s.spinState ≠ spFailed)
        && ran (.supplyLost 8) s (fun t => decide (t.spinState = spCoast) && decide (bitOf (t.get SUP_STAT_GOOD) 8 = false) && decide (bitOf (t.num SUP_LOST) 8 = true)))
      ((w0.put SUP_STAT_GOOD 0x1FF).setSpin 5) = true) ∧
    ((fun (s : State) (k : Fin 17) =>
      s.wfb && decide (9 ≤ k.val) && decide (bitOf (s.get (if k < 13 then SUP_CH_VDD_GOOD else SUP_CH_VDDA_GOOD)) ((k - 9) % 4) = true) && decide (s.chOn ((k - 9) % 4) = true) && decide (atD s.lad.pd (28 + 11 * ((k - 9) % 4)) .off ≠ .off))
      (((w0.put SUP_CH_VDD_GOOD 0xF).setNum ACT_STATE 0x55).modLad (fun l => { l with pd := Vector.replicate 84 .on })) (10) = true) ∧
    ((fun (s : State) (readings : List (Int × Bool)) =>
      s.wfb && decide (readings.all (fun r => !r.2 && decide (-55 * 256 ≤ r.1) && decide (r.1 ≤ 150 * 256)) = true) && decide ((List.range 8).all (fun d => decide ((atD s.diode d (0, 0)).2 < 4095)) = true))
      ((List.range 8).foldl (fun s d => ((s.put (THR_LIM_WARM d) 60).put (THR_LIM_HOT d) 80).put (THR_LIM_CRIT d) 100) w0) ([(18000, false), (22000, false), (26000, false), (4000, false)]) = true) ∧
    ((fun (s : State) (t0 : Int) =>
      s.wfb && decide (s.flag (THERM_T_BROKEN 0) = false) && decide (s.img.isSome = true)
        && ran (.thermalConversion [(t0, true)]) s (fun t => decide (t.flag (THERM_T_BROKEN 0) = true) && decide (t.thermLevel 0 = 2)))
      (w0) (0) = true) :=
  ⟨by decide +kernel, by decide +kernel, by decide +kernel, by decide +kernel, by decide +kernel, by decide +kernel, by decide +kernel, by decide +kernel⟩

theorem test_Supplies_and_temperatures_are_watched_2 :
    ((fun (s : State) (die : Fin 8) =>
      s.wfb && decide (s.flag (THERM_T_BROKEN die) = false)
        && ran (.sensorBroken die) s (fun t => decide (t.flag (THERM_T_BROKEN die) = true) && decide (s.thermDie die = false ∨ (t.thermLevel die = 2 ∧ bitOf (t.num THERM_FAULT) (16 + die) = true)) && decide (die ≠ 5 ∨ t.flag CLOCK_STAT_COMP_HOLD = true)))
      (w0) (5) = true) ∧
    ((fun (s : State) (die : Fin 8) =>
      s.wfb && decide (s.flag (THERM_T_BROKEN die) = true)
        && ran (.sensorBroken die) s (fun t => decide (t = s)))
      (w0.put (THERM_T_BROKEN 3) 1) (3) = true) :=
  ⟨by decide +kernel, by decide +kernel⟩

theorem test_The_protected_set_survives_a_power_loss_1 :
    ((fun (s : State) =>
      s.wfb && decide (s.dieOn 0 = true) && decide (s.flag PLP_STAT_ARMING = false) && decide (s.imgBool Image.plpEnable = true)
        && ran (.dumpArm) s (fun t => decide (t.flag PLP_STAT_ARMING = true) && decide (t.flag PLP_STAT_PLP_READY = false) && decide (t.dumpState = 0) && decide (t.dump = none)))
      ({ w0 with flash := [(0xA00000, 5)] }) = true) ∧
    ((fun (s : State) =>
      s.wfb && decide (s.dieOn 0 = true) && decide (s.flag PLP_STAT_ARMING = true ∨ s.imgBool Image.plpEnable = false)
        && ran (.dumpArm) s (fun t => decide (t = s.answer .done)))
      (w0.put PLP_STAT_ARMING 1) = true) ∧
    ((fun (s : State) =>
      s.wfb && decide (s.flag PLP_STAT_ARMING = true))
      (w0.put PLP_STAT_ARMING 1) = true) ∧
    ((fun (s : State) (rate : Nat) =>
      s.wfb && decide (s.flag PLP_STAT_ARMING = false)
        && ran (.armComplete rate) s (fun t => decide (t = s)))
      (w0) (200) = true) ∧
    ((fun (s : State) (erase : Bool) =>
      s.wfb && decide (s.flag PLP_STAT_PLP_READY = true)
        && ran (.plpFail erase) s (fun t => decide (t.flag PLP_STAT_PLP_READY = false) && decide (t.host.lost = true) && decide (bitOf (t.num TAG_ERR) 2 = true) && decide (bitOf (t.num XS_ERR) (if erase then 1 else 0) = true)))
      (w0.put PLP_STAT_PLP_READY 1) (true) = true) ∧
    ((fun (s : State) (source : Fin 3) =>
      s.wfb && decide ((source = 0 ∧ s.flag PLW_CFG_PFAIL_EN = false) ∨ (source = 1 ∧ s.get PLW_CFG_PLW_VMOT = 0))
        && ran (.powerLossWarning source) s (fun t => decide (t = s)))
      (w0.put PLW_CFG_PLW_VMOT 0) (1) = true) ∧
    ((fun (s : State) (source : Fin 3) =>
      s.wfb && decide (source = 0 → s.flag PLW_CFG_PFAIL_EN = true) && decide (source = 1 → s.get PLW_CFG_PLW_VMOT ≠ 0) && decide (s.flag SUP_STAT_PLW = false) && decide (s.get LADDER_STAT_RUNG = 0)
        && ran (.powerLossWarning source) s (fun t => decide (t.flag SUP_STAT_PLW = true) && decide (bitOf (t.get SUP_STAT_PLW_SRC) source = true) && decide (t.host.stopped = true) && decide (t.dmp.run = some (s.dmp.run.getD 1)) && decide (t.nvs = s.nvs) && decide (t.flash = s.flash)))
      (w0) (2) = true) ∧
    ((fun (s : State) (source : Fin 3) =>
      s.wfb && decide (source = 0 → s.flag PLW_CFG_PFAIL_EN = true) && decide (source = 1 → s.get PLW_CFG_PLW_VMOT ≠ 0) && decide (s.flag SUP_STAT_PLW = false) && decide (s.get LADDER_STAT_RUNG = 1 ∨ s.get LADDER_STAT_RUNG = 2)
        && ran (.powerLossWarning source) s (fun t => decide (t.flag SUP_STAT_PLW = true) && decide (t.flag LADDER_STAT_MOVING = true) && decide (t.get LADDER_STAT_TARGET = 0) && decide (t.lad.warned = true) && decide (t.lad.entry = false)))
      (w0.put LADDER_STAT_RUNG 2) (2) = true) :=
  ⟨by decide +kernel, by decide +kernel, by decide +kernel, by decide +kernel, by decide +kernel, by decide +kernel, by decide +kernel, by decide +kernel⟩

theorem test_The_protected_set_survives_a_power_loss_2 :
    ((fun (s : State) (source : Fin 3) =>
      s.wfb && decide (source = 0 → s.flag PLW_CFG_PFAIL_EN = true) && decide (source = 1 → s.get PLW_CFG_PLW_VMOT ≠ 0) && decide (s.flag SUP_STAT_PLW = false) && decide (3 ≤ s.get LADDER_STAT_RUNG)
        && ran (.powerLossWarning source) s (fun t => decide (t.flag SUP_STAT_PLW = true) && decide (t.dmp = s.dmp) && decide (t.clasps.urgent = []) && decide (Nat.land (s.get SUP_STAT_GOOD) 0xFE ≠ 0xFE ∨ t.flag ALOG_STAT_SAVING = true ∨ s.alog.copy.isSome = true) && decide (Nat.land (s.get SUP_STAT_GOOD) 0xFE ≠ 0xFE ∨ copyDomains.all (fun d => decide (atD t.lad.pd d .off = .on)) = true)))
      ((w0.put LADDER_STAT_RUNG 4).put SUP_STAT_GOOD 0x1FF) (2) = true) ∧
    ((fun (s : State) =>
      s.wfb && decide (s.dmp.run = some 1) && decide (s.dumpState = 1))
      ({ w0 with dmp := ⟨some 1, false⟩, nvs := [(0x18010, 1)] }) = true) ∧
    ((fun (s : State) =>
      s.wfb && decide (s.dmp.run = none)
        && ran (.dumpWrite) s (fun t => decide (t = s)))
      (w0) = true) ∧
    ((fun (s : State) =>
      s.wfb && decide (s.dmp.run = some 1) && decide (s.dumpState = 2))
      ({ w0 with dmp := ⟨some 1, false⟩, nvs := [(0x18010, 2)] }) = true) ∧
    ((fun (s : State) =>
      s.wfb && decide (s.dmp.run = some 2) && decide (s.dumpState = 2))
      ({ w0 with dmp := ⟨some 2, false⟩, nvs := [(0x18010, 2)] }) = true) ∧
    ((fun (s : State) =>
      s.wfb && decide (s.dmp.run = some 3) && decide (s.dumpState = 2))
      ({ w0 with dmp := ⟨some 3, false⟩, nvs := [(0x18010, 2)] }) = true) ∧
    ((fun (s : State) =>
      s.wfb && decide (s.bootDue.isSome = true) && decide (s.dmp.run = none) && decide (s.dumpState = 1) && decide (4 ≤ s.get BOOT_STAT_STAGE))
      ({ w0.put BOOT_STAT_STAGE 9 with bootDue := some 1, nvs := [(0x18010, 1)] }) = true) ∧
    ((fun (s : State) =>
      s.wfb && decide (s.bootDue = none ∨ s.dumpState ≠ 1)
        && ran (.bootDump) s (fun t => decide (t = s)))
      (w0) = true) :=
  ⟨by decide +kernel, by decide +kernel, by decide +kernel, by decide +kernel, by decide +kernel, by decide +kernel, by decide +kernel, by decide +kernel⟩

theorem test_The_protected_set_survives_a_power_loss_3 :
    ((fun (s : State) (bad : List Nat) (hd : List Byte) (e : Wrt) (bs : List (List Byte)) =>
      s.wfb && decide (s.dump = some ⟨hd, [(e, bs)], []⟩) && decide (s.dumpState = 3) && decide (s.flag CAT_CTL_EN = false) && decide (7 ≤ s.get BOOT_STAT_STAGE) && decide (s.host.wrts = []) && decide (s.mjUsed = 0) && decide (bad.contains 0 = true)
        && ran (.dumpRestore bad) s (fun t => decide (t.host.wrts = []) && decide (t.host.lost = true) && decide (bitOf (t.num TAG_ERR) 4 = true)))
      ({ w0.put BOOT_STAT_STAGE 9 with nvs := [(0x18010, 3)], dump := some ⟨[], [({ ns := 0, dlba := 8, count := 1, fseq := 1, cseq := none, kind := .write, held := true, bufs := [], md := [], key := none }, [])], []⟩ }) ([0]) ([]) ({ ns := 0, dlba := 8, count := 1, fseq := 1, cseq := none, kind := .write, held := true, bufs := [], md := [], key := none }) ([]) = true) ∧
    ((fun (s : State) (bad : List Nat) (hd : List Byte) (e : Wrt) (bs : List (List Byte)) =>
      s.wfb && decide (s.dump = some ⟨hd, [(e, bs)], []⟩) && decide (s.dumpState = 3) && decide (s.flag CAT_CTL_EN = false) && decide (7 ≤ s.get BOOT_STAT_STAGE) && decide (s.host.wrts = []) && decide (s.mjUsed = 0) && decide (bad.contains 0 = false) && decide ((allocWrite 0 bs.length [] s).1.2 = 0)
        && ran (.dumpRestore bad) s (fun t => decide (t.host.wrts = [(0, { e with held := true, bufs := (allocWrite 0 bs.length [] s).1.1 })]) && decide (s.host.fseq ≤ t.host.fseq ∧ e.fseq ≤ t.host.fseq) && decide (t.host.lost = s.host.lost)))
      ({ w0.put BOOT_STAT_STAGE 9 with nvs := [(0x18010, 3)], dump := some ⟨[], [({ ns := 0, dlba := 8, count := 1, fseq := 1, cseq := none, kind := .zeroes, held := false, bufs := [], md := [], key := none }, [])], []⟩ }) ([]) ([]) ({ ns := 0, dlba := 8, count := 1, fseq := 1, cseq := none, kind := .zeroes, held := false, bufs := [], md := [], key := none }) ([]) = true) ∧
    ((fun (s : State) (bad : List Nat) (hd : List Byte) (e : Wrt) (bs : List (List Byte)) =>
      s.wfb && decide (s.dump = some ⟨hd, [(e, bs)], []⟩) && decide (s.dumpState = 3) && decide (s.flag CAT_CTL_EN = false) && decide (7 ≤ s.get BOOT_STAT_STAGE) && decide (s.host.wrts = []) && decide (s.mjUsed = 0) && decide (bad.contains 0 = false) && decide ((allocWrite 0 bs.length [] s).1.2 ≠ 0))
      ({ w0.put BOOT_STAT_STAGE 9 with nvs := [(0x18010, 3)], dump := some ⟨[], [({ ns := 0, dlba := 8, count := 1, fseq := 1, cseq := none, kind := .write, held := true, bufs := [], md := [], key := none }, [[]])], []⟩ }) ([]) ([]) ({ ns := 0, dlba := 8, count := 1, fseq := 1, cseq := none, kind := .write, held := true, bufs := [], md := [], key := none }) ([[]]) = true) ∧
    ((fun (s : State) (bad : List Nat) =>
      s.wfb && decide (s.dumpState ≠ 3 ∨ s.flag CAT_CTL_EN = true)
        && ran (.dumpRestore bad) s (fun t => decide (t = s)))
      (w0) ([2]) = true) :=
  ⟨by decide +kernel, by decide +kernel, by decide +kernel, by decide +kernel⟩

theorem foldl_keep {α β : Type} (f : β → α → β) (b : β) (a : α) (h : f b a = b) : ∀ n, (List.replicate n a).foldl f b = b
  | 0 => rfl
  | n + 1 => by rw [List.replicate_succ, List.foldl_cons, h]; exact foldl_keep f b a h n

/-- A Note record. -/
def recA : LogRec := ⟨1, 2, 3, 0, 1, 5, 6, 7, 8, 9, 10, 11⟩

/-- The part with `n` such records in its log's array, and one waiting. -/
def logWit (n : Nat) : State := { w0 with logQueue := [recA], logArray := List.replicate n (0, recA) }

theorem victim_replicate (n : Nat) : victim 0 (List.replicate (n + 1) (0, recA)) = some 0 := by
  simp only [victim, recA, List.replicate_succ, List.filter_cons, List.filter_replicate, Nat.le_refl, decide_true, if_true, List.foldl_cons]
  rw [foldl_keep] <;> rfl

theorem test_full_log_wf (n : Nat) : (logWit n).wfb = true := (by decide +kernel : w0.wfb = true)

theorem test_full_log : ∃ (s : State) (r : LogRec) (rest : List LogRec) (i : Nat),
    s.Wf ∧ s.logQueue = r :: rest ∧ s.alog.frozen = none ∧ 8192 ≤ s.logArray.length ∧ victim r.sev s.logArray = some i :=
  ⟨logWit (8191 + 1), recA, [], 0, State.wf_of_wfb (test_full_log_wf _), rfl, rfl,
    Nat.le_of_eq (List.length_replicate (n := 8191 + 1) (a := (0, recA))).symm, victim_replicate 8191⟩

theorem test_Log_records_and_Fatal_faults_1 :
    ((fun (s : State) (r : LogRec) (rest : List LogRec) =>
      s.wfb && decide (s.logQueue = r :: rest) && decide (s.alog.frozen = none) && decide (s.logArray.length < 8192))
      ({ w0 with logQueue := [⟨1, 2, 3, 0, 1, 5, 6, 7, 8, 9, 10, 11⟩] }) (⟨1, 2, 3, 0, 1, 5, 6, 7, 8, 9, 10, 11⟩) ([]) = true) ∧
    ((fun (s : State) =>
      s.wfb && decide (s.alog.frozen.isSome = true)
        && ran (.alogEnter) s (fun t => decide (t = s)))
      ((w0.modLog (fun l => { l with frozen := some 5 }))) = true) ∧
    ((fun (s : State) (block : Fin 17) (value : Word) =>
      s.wfb && decide (s.dieOn 5 = true) && decide (s.logQueue.length < 64)
        && ran (.wrGoWrite block value) s (fun t => decide (t.logQueue.length = s.logQueue.length + 1) && decide (t.logQueue.take s.logQueue.length = s.logQueue) && decide ((t.logQueue.getLast?.map (fun r => (r.sev, r.cls, r.bit))) = some (s.get (WR_HDR_SEV block), s.get (WR_HDR_CLASS block), s.get (WR_HDR_BIT block))) && decide ((t.logQueue.getLast?.map (fun r => (r.inst, r.offset, r.value, r.detail))) = some (value.toNat % 256, 0xFFFF, s.num (WR_VALUE block), s.num (WR_DETAIL block))) && decide ((t.logQueue.getLast?.map (fun r => (r.optime, r.pcycle, r.tstamp))) = some (s.optime, s.num PCYCLE, s.num TSTAMP)) && decide ((t.logQueue.getLast?.map (fun r => r.recno)) = some (s.num64 RECNO_LO RECNO_HI + 1)) && decide (t.fatal = s.fatal)))
      (((w0.put (WR_HDR_SEV 8) 1).put (WR_HDR_CLASS 8) 2).setNum (WR_VALUE 8) 77) (8) (0x103) = true) ∧
    ((fun (s : State) =>
      s.wfb && decide (s.dieOn 5 = true) && decide (s.alog.copy = none)
        && ran (.alogSave) s (fun t => decide (t.flag ALOG_STAT_SAVING = true) && decide (t.alog.copy = some (s.alog.seq + 1)) && decide (s.copySlot (s.alog.seq + 1) = none → t.flash = s.flash) && decide (t.logArray = s.logArray)))
      (w0) = true) ∧
    ((fun (s : State) =>
      s.wfb && decide (s.dieOn 5 = true) && decide (s.alog.copy.isSome = true)
        && ran (.alogSave) s (fun t => decide (t = s.answer .done)))
      (w0.modLog (fun l => { l with copy := some 4 })) = true) ∧
    ((fun (s : State) (ok : Bool) =>
      s.wfb && decide (s.alog.copy.isSome = true) && decide (s.xsRuns = true)
        && ran (.alogCopyDone ok) s (fun t => decide (t = s)))
      ({ w0.modLog (fun l => { l with copy := some 4 }) with xsJob := some ⟨1, 16, sramBase, 4⟩ }) (true) = true) ∧
    ((fun (s : State) (ok : Bool) (q : Nat) =>
      s.wfb && decide (s.alog.copy = some q) && decide (s.xsRuns = false)
        && ran (.alogCopyDone ok) s (fun t => decide (t.flag ALOG_STAT_SAVING = false) && decide (t.alog.copy = none) && decide (t.alog.seq = q) && decide (ok = true ∨ (t.flash = s.flash ∧ bitOf (t.num ALOG_ERR) 2 = true)) && decide ((s.logPart = none → t.flash = s.flash)) && decide (t.logArray = s.logArray)))
      (w0.modLog (fun l => { l with copy := some 4 })) (false) (4) = true) ∧
    ((fun (s : State) (ok : Bool) =>
      s.wfb && decide (s.alog.copy = none)
        && ran (.alogCopyDone ok) s (fun t => decide (t = s)))
      (w0) (true) = true) :=
  ⟨by decide +kernel, by decide +kernel, by decide +kernel, by decide +kernel, by decide +kernel, by decide +kernel, by decide +kernel, by decide +kernel⟩

theorem test_Log_records_and_Fatal_faults_2 :
    ((fun (s : State) =>
      s.wfb && decide (s.dieOn 5 = true) && decide (s.alog.frozen = none)
        && ran (.alogFreeze) s (fun t => decide (t.alog.frozen = some s.mtime) && decide (t.flag ALOG_STAT_FROZEN = true) && decide (t.logArray = s.logArray)))
      (w0) = true) ∧
    ((fun (s : State) =>
      s.wfb && decide (s.dieOn 5 = true) && decide (s.alog.frozen.isSome = true)
        && ran (.alogFreeze) s (fun t => decide (t = s.answer .done)))
      (w0.modLog (fun l => { l with frozen := some 5 })) = true) ∧
    ((fun (s : State) =>
      s.wfb && decide (s.dieOn 5 = true)
        && ran (.alogUnfreeze) s (fun t => decide (t.alog.frozen = none) && decide (t.flag ALOG_STAT_FROZEN = false) && decide (t.logQueue = s.logQueue)))
      (w0.modLog (fun l => { l with frozen := some 5 })) = true) ∧
    ((fun (s : State) =>
      s.wfb && decide (s.passed s.alog.frozen 60000000 = true)
        && ran (.freezeTimeout) s (fun t => decide (t.alog.frozen = none) && decide (t.flag ALOG_STAT_FROZEN = false) && decide (t.logQueue = s.logQueue)))
      (({ w0 with mtime := 60000005 } : State).modLog (fun l => { l with frozen := some 5 })) = true) ∧
    ((fun (s : State) (value : Word) =>
      s.wfb && decide (s.dieOn 5 = true)
        && ran (.actStateWrite value) s (fun t => decide ((List.range 4).all (fun n => let old := s.actState n; let new := bitsOf value.toNat (2 * n + 1) (2 * n); decide (t.actState n = (if old = 2 ∧ (new = 3 ∨ (new = 1 ∧ s.mayOnline n = true)) then new else old)))= true)))
      (w0.setNum ACT_STATE 0xA6) (0xFC) = true) ∧
    ((fun (s : State) (value : Word) =>
      s.wfb && decide (s.dieOn 5 = true)
        && ran (.fatalCmdWrite value) s (fun t => decide (t.fatal = s.fatal ++ (if value = 0x0E59FA7A then [FatalCause.command] else [])) && decide (t.bank = s.bank)))
      (w0) (0x0E59FA7A) = true) ∧
    ((fun (s : State) =>
      s.wfb && decide (s.fatal = [])
        && ran (.fatalSequence) s (fun t => decide (t = s)))
      (w0) = true) ∧
    ((fun (s : State) (k : FatalCause) (rest : List FatalCause) =>
      s.wfb && decide (s.fatal = k :: rest) && decide (s.alog.fatalAt = none)
        && ran (.fatalSequence) s (fun t => decide (t.fatal = rest) && decide (t.alog.fatalAt = some s.mtime) && decide (t.alog.fatals = s.alog.fatals + 1) && decide (t.alog.frozen = none) && decide (t.alog.retracted = false) && decide (t.host.stopped = true) && decide (t.host.ctrls.toList.all (fun k => k.cfs) = true) && decide (t.alog.dumped = !(decide (s.cacheMode = 0) && decide (s.dumpState = 1))) && decide (t.bootDue = s.bootDue)))
      ({ w0 with fatal := [.command] }) (.command) ([]) = true) :=
  ⟨by decide +kernel, by decide +kernel, by decide +kernel, by decide +kernel, by decide +kernel, by decide +kernel, by decide +kernel, by decide +kernel⟩

theorem test_Log_records_and_Fatal_faults_3 :
    ((fun (s : State) (k : FatalCause) (rest : List FatalCause) =>
      s.wfb && decide (s.fatal = k :: rest) && decide (s.alog.fatalAt.isSome = true)
        && ran (.fatalSequence) s (fun t => decide (t = { s with fatal := rest })))
      (({ w0 with fatal := [.command, .crystal] }).modLog (fun l => { l with fatalAt := some 3 })) (.command) ([.crystal]) = true) ∧
    ((fun (s : State) =>
      s.wfb && decide (s.passed s.alog.fatalAt 1000000 = true)
        && ran (.fatalRetractTimeout) s (fun t => decide (t.allUnloaded = true) && decide (t.alog.retracted = true)))
      ((({ w0 with mtime := 1000003 } : State).put (LOOP_STAT_MODE 0) 4).modLog (fun l => { l with fatalAt := some 3 })) = true) ∧
    ((fun (s : State) =>
      s.wfb && decide (s.alog.fatalAt = none) && decide (s.isSealed = false)
        && ran (.fatalRetractTimeout) s (fun t => decide (t = s)))
      (w0) = true) ∧
    ((fun (s : State) =>
      s.wfb && decide (s.alog.fatalAt.isSome = true) && decide (s.alog.retracted = true ∨ s.allUnloaded = true) && decide (s.alog.dumped = true) && decide (s.dmp.run = none) && decide (s.kprLinkFailed = false) && decide (s.bootDue = none)
        && ran (.fatalFullBoot) s (fun t => decide (t.bootDue = some 5) && decide (t.alog.copy.isSome = true) && decide (t.flag CLS_STAT_BEATING = false) && decide (t.spinState = (if s.spinState = spStopped ∨ s.spinState = spFailed then s.spinState else spCoast))))
      ((w0.modLog (fun l => { l with fatalAt := some 3, retracted := true, dumped := true })).setSpin 5) = true) ∧
    ((fun (s : State) =>
      s.wfb && decide (s.alog.fatalAt = none ∨ s.alog.dumped = false ∨ s.kprLinkFailed = true)
        && ran (.fatalFullBoot) s (fun t => decide (t = s)))
      (w0) = true) ∧
    ((fun (s : State) =>
      s.wfb && decide (s.kprLinkFailed = true) && decide (s.passed s.alog.fatalAt 2000000 = true)
        && ran (.kprLinkFailTimer true) s (fun t => decide (t.bootDue = some (s.bootDue.getD 5))))
      ((({ w0 with mtime := 2000000 } : State).put (LINK_STAT_STATE (linkBase 9)) 15).modLog (fun l => { l with fatalAt := some 0 })) = true) ∧
    ((fun (s : State) =>
      s.wfb && decide (s.kprLinkFailed = true) && decide (s.passed s.alog.fatalAt 1000000 = true)
        && ran (.kprLinkFailTimer false) s (fun t => decide (t.flag CLS_STAT_BEATING = false) && decide (t.bootDue = s.bootDue)))
      (((({ w0 with mtime := 1000000 } : State).put (LINK_STAT_STATE (linkBase 9)) 15).put CLS_STAT_BEATING 1).modLog (fun l => { l with fatalAt := some 0 })) = true) ∧
    ((fun (s : State) (second : Bool) =>
      s.wfb && decide (s.kprLinkFailed = false)
        && ran (.kprLinkFailTimer second) s (fun t => decide (t = s)))
      (w0) (true) = true) :=
  ⟨by decide +kernel, by decide +kernel, by decide +kernel, by decide +kernel, by decide +kernel, by decide +kernel, by decide +kernel, by decide +kernel⟩

theorem test_Pins_flash_commands_and_the_TAP_1 :
    ((fun (s : State) =>
      s.wfb && decide (s.dieOn 0 = true) && decide (s.flag XS_STAT_BUSY = true)
        && ran (.xsRead) s (fun t => decide (t = (s.answer .done).put XS_STAT_REJ 1)))
      (w0.put XS_STAT_BUSY 1) = true) ∧
    ((fun (s : State) =>
      s.wfb && decide (s.dieOn 0 = true) && decide (s.flag XS_STAT_BUSY = true)
        && ran (.xsProgram) s (fun t => decide (t = (s.answer .done).put XS_STAT_REJ 1)))
      (w0.put XS_STAT_BUSY 1) = true) ∧
    ((fun (s : State) =>
      s.wfb && decide (s.dieOn 0 = true) && decide (s.flag XS_STAT_BUSY = true)
        && ran (.xsErase) s (fun t => decide (t = (s.answer .done).put XS_STAT_REJ 1)))
      (w0.put XS_STAT_BUSY 1) = true) ∧
    ((fun (s : State) =>
      s.wfb && decide (s.dieOn 0 = true) && decide (s.flag XS_STAT_BUSY = false) && decide (xsShape xsRead (s.num XS_FADDR) (s.num XS_MADDR_LO + 2 ^ 32 * (s.num XS_MADDR_HI % 256)) (s.num XS_LEN) = true)
        && ran (.xsRead) s (fun t => decide (t = { (s.answer .done).put XS_STAT_BUSY 1 with xsJob := some ⟨1, s.num XS_FADDR, s.num XS_MADDR_LO + 2 ^ 32 * (s.num XS_MADDR_HI % 256), s.num XS_LEN⟩, xsHeld := s.alog.copy.isSome || s.updFlash })))
      (w0.setNum XS_LEN 64) = true) ∧
    ((fun (s : State) =>
      s.wfb && decide (s.dieOn 0 = true) && decide (s.flag XS_STAT_BUSY = false) && decide (xsShape xsProgram (s.num XS_FADDR) (s.num XS_MADDR_LO + 2 ^ 32 * (s.num XS_MADDR_HI % 256)) (s.num XS_LEN) = true) && decide (s.xsOpen (s.num XS_FADDR) (s.num XS_LEN) = true)
        && ran (.xsProgram) s (fun t => decide (t = { (s.answer .done).put XS_STAT_BUSY 1 with xsJob := some ⟨2, s.num XS_FADDR, s.num XS_MADDR_LO + 2 ^ 32 * (s.num XS_MADDR_HI % 256), s.num XS_LEN⟩, xsHeld := s.alog.copy.isSome || s.updFlash })))
      ((w0.setNum XS_LEN 64).setNum XS_FADDR 0x3400100) = true) ∧
    ((fun (s : State) =>
      s.wfb && decide (s.dieOn 0 = true) && decide (s.flag XS_STAT_BUSY = false) && decide (xsShape xsErase (s.num XS_FADDR) (s.num XS_MADDR_LO + 2 ^ 32 * (s.num XS_MADDR_HI % 256)) (s.num XS_LEN) = true) && decide (s.xsOpen (s.num XS_FADDR) (s.num XS_LEN) = true)
        && ran (.xsErase) s (fun t => decide (t = { (s.answer .done).put XS_STAT_BUSY 1 with xsJob := some ⟨3, s.num XS_FADDR, s.num XS_MADDR_LO + 2 ^ 32 * (s.num XS_MADDR_HI % 256), s.num XS_LEN⟩, xsHeld := s.alog.copy.isSome || s.updFlash })))
      ((w0.setNum XS_LEN 0x10000).setNum XS_FADDR 0x3400000) = true) ∧
    ((fun (s : State) =>
      s.wfb && decide (s.dieOn 0 = true) && decide (s.flag XS_STAT_BUSY = false) && decide (xsShape xsErase (s.num XS_FADDR) (s.num XS_MADDR_LO + 2 ^ 32 * (s.num XS_MADDR_HI % 256)) (s.num XS_LEN) = true) && decide (s.xsOpen (s.num XS_FADDR) (s.num XS_LEN) = false)
        && ran (.xsErase) s (fun t => decide (t.get XS_STAT_RESULT = 1) && decide (t.flag XS_STAT_DONE = true) && decide (t.flag XS_STAT_BUSY = false) && decide (bitOf (t.num XS_ERR) 2 = true) && decide (t.flash = s.flash)))
      ((w0.setNum XS_LEN 0x10000).setNum XS_FADDR 0x10000) = true) ∧
    ((fun (s : State) =>
      s.wfb && decide (s.dieOn 0 = true) && decide (s.flag XS_STAT_BUSY = false) && decide (xsShape xsRead (s.num XS_FADDR) (s.num XS_MADDR_LO + 2 ^ 32 * (s.num XS_MADDR_HI % 256)) (s.num XS_LEN) = false)
        && ran (.xsRead) s (fun t => decide (t.get XS_STAT_RESULT = 5) && decide (t.flag XS_STAT_DONE = true) && decide (t.flash = s.flash)))
      (w0) = true) :=
  ⟨by decide +kernel, by decide +kernel, by decide +kernel, by decide +kernel, by decide +kernel, by decide +kernel, by decide +kernel, by decide +kernel⟩

theorem test_Pins_flash_commands_and_the_TAP_2 :
    ((fun (s : State) (faddr : Nat) (maddr : Nat) (len : Nat) =>
      s.wfb && decide (s.dieOn 0 = true) && decide (s.xsJob = some ⟨1, faddr, maddr, len⟩) && decide (s.xsHeld = false) && decide (inHubSram maddr len = true) && decide (s.marks = [])
        && ran (.xsDone true) s (fun t => decide (t.xsJob = none) && decide (t.flag XS_STAT_DONE = true) && decide (t.get XS_STAT_RESULT = 0) && decide (t.flash = s.flash) && decide (t.hsram.readN 0 (maddr - sramBase) len = s.flashBytes faddr len)))
      ({ w0 with xsJob := some ⟨1, 16, sramBase, 4⟩, flash := [(16, 9)] }) (16) (sramBase) (4) = true) ∧
    ((fun (s : State) (faddr : Nat) (maddr : Nat) (len : Nat) =>
      s.wfb && decide (s.dieOn 0 = true) && decide (s.xsJob = some ⟨3, faddr, maddr, len⟩) && decide (s.xsHeld = false)
        && ran (.xsDone true) s (fun t => decide (t.xsJob = none) && decide (t.flag XS_STAT_DONE = true) && decide (t.get XS_STAT_RESULT = 0)))
      ({ w0 with xsJob := some ⟨3, 0x3400000, 0, 0x10000⟩, flash := [(0x3400010, 9)] }) (0x3400000) (0) (0x10000) = true) ∧
    ((fun (s : State) (faddr : Nat) (maddr : Nat) (len : Nat) =>
      s.wfb && decide (s.dieOn 0 = true) && decide (s.xsJob = some ⟨3, faddr, maddr, len⟩) && decide (s.xsHeld = false))
      ({ w0 with xsJob := some ⟨3, 0x3400000, 0, 4⟩, flash := [(0x3400010, 9)] }) (0x3400000) (0) (4) = true) ∧
    ((fun (s : State) (ok : Bool) =>
      s.wfb && decide (s.xsHeld = true)
        && ran (.xsDone ok) s (fun t => decide (t = s)))
      ({ w0 with xsJob := some ⟨1, 16, sramBase, 4⟩, xsHeld := true }) (true) = true) ∧
    ((fun (s : State) (ok : Bool) =>
      s.wfb && decide (s.xsJob = none)
        && ran (.xsDone ok) s (fun t => decide (t = s)))
      (w0) (true) = true) ∧
    ((fun (s : State) =>
      s.wfb && decide (s.pins.test = false))
      (w0) = true) ∧
    ((fun (s : State) =>
      s.wfb && decide (s.pins.test = true))
      (w0.modPins (fun p => { p with test := true, ir := 4 })) = true) ∧
    ((fun (s : State) =>
      s.wfb
        && ran (.tapReset) s (fun t => decide (t = s.modPins (fun p => { p with ir := 0x01 }))))
      (w0) = true) :=
  ⟨by decide +kernel, by decide +kernel, by decide +kernel, by decide +kernel, by decide +kernel, by decide +kernel, by decide +kernel, by decide +kernel⟩

theorem test_Pins_flash_commands_and_the_TAP_3 :
    ((fun (s : State) =>
      s.wfb
        && ran (.idcode) s (fun t => decide (t = (s.modPins (fun p => { p with ir := 0x01 })).answer (.data 0x284401CB))))
      (w0) = true) ∧
    ((fun (s : State) (cells : List Bool) =>
      s.wfb && decide (s.pins.test = true)
        && ran (.extest cells) s (fun t => decide (t = s.modPins (fun p => { p with ir := 0x00, cells := cells }))))
      (w0.modPins (fun p => { p with test := true })) ([true, false]) = true) ∧
    ((fun (s : State) (cells : List Bool) =>
      s.wfb && decide (s.pins.test = false)
        && ran (.extest cells) s (fun t => decide (t = s.modPins (fun p => { p with ir := 0x3F }))))
      (w0) ([true, false]) = true) ∧
    ((fun (s : State) (levels : List Bool) (cells : List Bool) =>
      s.wfb
        && ran (.samplePreload levels cells) s (fun t => decide (t.pins.ir = 0x02) && decide (t.pins.cells = cells) && decide (t.resp = .data (levels.foldr (fun b n => ofBool b + 2 * n) 0)) && decide (t.bank = s.bank)))
      (w0) ([true, false, true]) ([true]) = true) ∧
    ((fun (s : State) =>
      s.wfb
        && ran (.clamp) s (fun t => decide (t = s.modPins (fun p => { p with ir := if s.pins.test then 0x04 else 0x3F }))))
      (w0) = true) ∧
    ((fun (s : State) =>
      s.wfb
        && ran (.highz) s (fun t => decide (t = s.modPins (fun p => { p with ir := if s.pins.test then 0x05 else 0x3F }))))
      (w0) = true) ∧
    ((fun (s : State) =>
      s.wfb
        && ran (.bypass) s (fun t => decide (t = s.modPins (fun p => { p with ir := 0x3F }))))
      (w0) = true) ∧
    ((fun (s : State) (value : Word) =>
      s.wfb && decide (s.dieOn 0 = true) && decide (s.pins.tx.length < 16)
        && ran (.uartDataWrite value) s (fun t => decide (t = (s.answer .done).modPins (fun p => { p with tx := p.tx ++ [BitVec.ofNat 8 value.toNat] }))))
      (w0) (0x41) = true) :=
  ⟨by decide +kernel, by decide +kernel, by decide +kernel, by decide +kernel, by decide +kernel, by decide +kernel, by decide +kernel, by decide +kernel⟩

theorem test_Pins_flash_commands_and_the_TAP_4 :
    ((fun (s : State) (value : Word) =>
      s.wfb && decide (s.dieOn 0 = true) && decide (16 ≤ s.pins.tx.length)
        && ran (.uartDataWrite value) s (fun t => decide (t = (s.answer .done).put UART_STAT_TX_OVF 1)))
      (w0.modPins (fun p => { p with tx := List.replicate 16 0 })) (0x41) = true) ∧
    ((fun (s : State) =>
      s.wfb && decide (s.dieOn 0 = true) && decide (s.pins.rx = [])
        && ran (.uartDataRead) s (fun t => decide (t = s.answer (.data 0))))
      (w0) = true) ∧
    ((fun (s : State) (b : Byte) (rest : List Byte) =>
      s.wfb && decide (s.dieOn 0 = true) && decide (s.pins.rx = b :: rest)
        && ran (.uartDataRead) s (fun t => decide (t = (s.answer (.data (256 + b.toNat))).modPins (fun p => { p with rx := rest }))))
      (w0.modPins (fun p => { p with rx := [7, 8] })) (7) ([8]) = true) ∧
    ((fun (s : State) (byte : Byte) =>
      s.wfb && decide (s.dieOn 0 = true) && decide (s.flag UART_CTL_EN = true) && decide (s.pins.rx.length < 16)
        && ran (.uartReceive byte) s (fun t => decide (t.pins.rx = s.pins.rx ++ [byte]) && decide (s.pins.rx = [] ∨ t = s.modPins (fun p => { p with rx := p.rx ++ [byte] }))))
      (w0.put UART_CTL_EN 1) (9) = true) ∧
    ((fun (s : State) (byte : Byte) =>
      s.wfb && decide (s.dieOn 0 = true) && decide (s.flag UART_CTL_EN = true) && decide (16 ≤ s.pins.rx.length)
        && ran (.uartReceive byte) s (fun t => decide (t.pins.rx = s.pins.rx) && decide (t.flag UART_STAT_RX_OVF = true)))
      ((w0.put UART_CTL_EN 1).modPins (fun p => { p with rx := List.replicate 16 1 })) (9) = true) ∧
    ((fun (s : State) (d : Nat) =>
      s.wfb && decide (s.dieOn 0 = true) && decide (s.img = none ∨ s.get MGMT_STAT_BUS = 1)
        && ran (.i3cAddressAssignment (.entdaa d)) s (fun t => decide (t = (s.put MGMT_STAT_ADDR (d % 128)).put MGMT_STAT_ASSIGNED 1)))
      (w0.put MGMT_STAT_BUS 1) (0x1D) = true) ∧
    ((fun (s : State) (i : Image) (d : Nat) =>
      s.wfb && decide (s.dieOn 0 = true) && decide (s.img = some i) && decide (s.get MGMT_STAT_BUS = 1)
        && ran (.i3cAddressAssignment (.setdasa i.mgmtAddr d)) s (fun t => decide (t = (s.put MGMT_STAT_ADDR (d % 128)).put MGMT_STAT_ASSIGNED 1)))
      (w0.put MGMT_STAT_BUS 1) (imgA) (0x1D) = true) ∧
    ((fun (s : State) (st : Nat) (d : Nat) =>
      s.wfb && decide (s.dieOn 0 = true) && decide (s.staticAddr ≠ some st)
        && ran (.i3cAddressAssignment (.setdasa st d)) s (fun t => decide (t = s)))
      (State.reset) (0x1D) (0x1D) = true) :=
  ⟨by decide +kernel, by decide +kernel, by decide +kernel, by decide +kernel, by decide +kernel, by decide +kernel, by decide +kernel, by decide +kernel⟩

theorem test_Pins_flash_commands_and_the_TAP_5 :
    ((fun (s : State) (a : I3cAssign) =>
      s.wfb && decide (s.dieOn 0 = true) && decide (s.img.isSome = true) && decide (s.get MGMT_STAT_BUS ≠ 1)
        && ran (.i3cAddressAssignment a) s (fun t => decide (t = s)))
      (w0.put MGMT_STAT_BUS 2) (.entdaa 0x1D) = true) ∧
    ((fun (s : State) (levels : BitVec 16) =>
      s.wfb && decide (s.dieOn 0 = true)
        && ran (.gpioChange levels) s (fun t => decide (t.pins.gpio = levels) && decide (t.get GPIO_IN_IN = ((levels &&& ~~~s.gpioDriven) ||| (BitVec.ofNat 16 (s.num GPIO_OUT) &&& s.gpioDriven)).toNat) && decide ((List.range 16).all (fun i => decide (bitOf (t.get GPIO_EVT_CHG) i = (bitOf (s.get GPIO_EVT_CHG) i || (bitOf ((s.pins.gpio ^^^ levels) &&& ~~~s.gpioDriven).toNat i && bitOf (s.get GPIO_EVT_EN) i)))) = true) && decide (t.flash = s.flash)))
      (w0.put GPIO_EVT_EN 6) (0x0007) = true) :=
  ⟨by decide +kernel, by decide +kernel⟩

theorem test_front_witness : ∃ (s : State) (c : Instr) (rest : List Instr), s.pending = c :: rest := ⟨{ w0 with pending := [.idcode] }, .idcode, [], rfl⟩

theorem test_idle_witness : (∃ s : State, s.pending = [] ∧ s.pins.test = true) ∧ (∃ s : State, s.pending = [] ∧ s.pins.test = false) :=
  ⟨⟨w0.modPins (fun p => { p with test := true }), rfl, rfl⟩, ⟨w0, rfl, rfl⟩⟩

theorem test_step_witness : ∃ s t : State, s.Wf ∧ step s = .next t :=
  ⟨{ w0 with pending := [.idcode] }, _, State.wf_of_wfb (by decide +kernel), rfl⟩

theorem test_otp_witness : ∃ s t : State, s.Wf ∧ step s = .next t ∧ s.otpBit 3 0 = true :=
  ⟨{ w0 with otp := [(3, 1)], pending := [.idcode] }, _, State.wf_of_wfb (by decide +kernel), rfl, by decide +kernel⟩

theorem test_queue_witness : ∃ s t : State, step s = .next t ∧ s.pending = [.idcode, .bypass] := ⟨{ w0 with pending := [.idcode, .bypass] }, _, rfl, rfl⟩

theorem test_frame_witness_1 : ∀ c : Instr, ∃ t, w0.Wf ∧ exec c w0 = .next t := fun c => (exec_next c w0).imp (fun _ h => ⟨State.wf_of_wfb (by decide +kernel), h⟩)

theorem test_frame_witness_2 : ∀ c : Instr, ∃ t, w0.Wf ∧ exec c w0 = .next t := fun c => (exec_next c w0).imp (fun _ h => ⟨State.wf_of_wfb (by decide +kernel), h⟩)

theorem test_frame_witness_3 : ∀ c : Instr, ∃ t, w0.Wf ∧ exec c w0 = .next t := fun c => (exec_next c w0).imp (fun _ h => ⟨State.wf_of_wfb (by decide +kernel), h⟩)

theorem test_frame_witness_4 : ∀ c : Instr, ∃ t, w0.Wf ∧ exec c w0 = .next t := fun c => (exec_next c w0).imp (fun _ h => ⟨State.wf_of_wfb (by decide +kernel), h⟩)

end Sys2Proof.Tests
end

namespace Sys2Proof.Machine

section
variable {s : State} {a width : Nat} {v : Word}

/-! ### What an access answers (R4-R6) -/

theorem exec_registerWrite (addr : BitVec 32) (width : Nat) (v : Word) (s : State) :
    exec (.registerWrite addr width v) s = .next (accessWrite addr.toNat width v s) := rfl

theorem exec_expertWrite (addr : BitVec 32) (width : Nat) (v : Word) (s : State) :
    exec (.expertWrite addr width v) s = .next (accessWrite addr.toNat width v s) := rfl

theorem exec_wideRegisterRead (addr : BitVec 32) (s : State) :
    exec (.wideRegisterRead addr) s = .next (accessRead addr.toNat 4 s) := rfl

@[simp] theorem State.answer_rd (s : State) (r : Resp) (a : Nat) : (s.answer r).rd a = s.rd a := rfl
@[simp] theorem State.answer_get (s : State) (r : Resp) (f : Fld) : (s.answer r).get f = s.get f := rfl
@[simp] theorem State.answer_resp (s : State) (r : Resp) : (s.answer r).resp = r := rfl

theorem accessWrite_of_busOk_false (h : s.busOk a width = false) : accessWrite a width v s = s.answer .busError := by
  simp [accessWrite, busWrite, h, State.answer]

theorem accessRead_of_busOk_false (h : s.busOk a width = false) : accessRead a width s = s.answer .busError := by
  simp [accessRead, busRead, h, State.answer]

theorem busOk_of_misfit (h : width ≠ 4 ∨ a % 4 ≠ 0) : s.busOk a width = false := by
  rcases h with h | h <;> simp [State.busOk, h]

theorem busOk_of_dieOn_false (h : s.dieOn (addrDie a) = false) : s.busOk a width = false := by
  simp [State.busOk, h]

theorem busOk_of_unpopulated {k : DieKind} (hk : dieKind (addrDie a) = some k) (hu : unitCount k ≤ addrUnit a) :
    s.busOk a width = false := by
  simp [State.busOk, hk, hu]

/-- The fabric gives dies 6 and 7 no units (R4). -/
theorem dieOn_six_seven {d : Nat} (h : d = 6 ∨ d = 7) : s.dieOn d = false := by
  rcases h with rfl | rfl <;> simp [State.dieOn, dieKind]

theorem dieOn_ch (ch : Ch) : s.dieOn (ch + 1) = (!s.pins.test && s.chOn ch) := by
  have h : ch.val + 1 < 5 := by omega
  simp [State.dieOn, dieKind, h]

theorem dieOn_of_chOn_false {d : Nat} {ch : Ch} (hd : d = ch + 1) (h : s.chOn ch = false) : s.dieOn d = false := by
  rw [hd, dieOn_ch, h, Bool.and_false]

/-- Every access of a word that reaches no unit is a bus error. -/
theorem runs_registerWrite_busError {addr : BitVec 32} (h : s.busOk addr.toNat width = false) :
    Runs (.registerWrite addr width v) s fun t => t = s.answer .busError :=
  ⟨_, exec_registerWrite _ _ _ _, accessWrite_of_busOk_false h⟩

theorem runs_expertWrite_busError {addr : BitVec 32} (h : s.busOk addr.toNat width = false) :
    Runs (.expertWrite addr width v) s fun t => t = s.answer .busError :=
  ⟨_, exec_expertWrite _ _ _ _, accessWrite_of_busOk_false h⟩

theorem runs_wideRegisterRead_busError {addr : BitVec 32} (h : s.busOk addr.toNat 4 = false) :
    Runs (.wideRegisterRead addr) s fun t => t = s.answer .busError :=
  ⟨_, exec_wideRegisterRead _ _, accessRead_of_busOk_false h⟩

end

/-- Settles O27: each clause's access reaches no unit. -/
theorem busErrorsHaveNoEffect : Obligations.Bus_errors_have_no_effect := by
  unfold Obligations.Bus_errors_have_no_effect
  refine ⟨?width, ?widthX, ?align, ?die, ?dieX, ?dieR, ?ch, ?chX, ?chR, ?slot, ?slotX, ?slotR⟩
  case width => exact fun s addr width v _ h => runs_registerWrite_busError (busOk_of_misfit h)
  case widthX => exact fun s addr width v _ h => runs_expertWrite_busError (busOk_of_misfit h)
  case align => exact fun s addr _ h => runs_wideRegisterRead_busError (busOk_of_misfit (.inr h))
  case die => exact fun s addr v _ h => runs_registerWrite_busError (busOk_of_dieOn_false (dieOn_six_seven h))
  case dieX => exact fun s addr v _ h => runs_expertWrite_busError (busOk_of_dieOn_false (dieOn_six_seven h))
  case dieR => exact fun s addr _ h => runs_wideRegisterRead_busError (busOk_of_dieOn_false (dieOn_six_seven h))
  case ch => exact fun s addr v ch _ hd h => runs_registerWrite_busError (busOk_of_dieOn_false (dieOn_of_chOn_false hd h))
  case chX => exact fun s addr v ch _ hd h => runs_expertWrite_busError (busOk_of_dieOn_false (dieOn_of_chOn_false hd h))
  case chR => exact fun s addr ch _ hd h => runs_wideRegisterRead_busError (busOk_of_dieOn_false (dieOn_of_chOn_false hd h))
  case slot => exact fun s addr v k _ hk hu => runs_registerWrite_busError (busOk_of_unpopulated hk hu)
  case slotX => exact fun s addr v k _ hk hu => runs_expertWrite_busError (busOk_of_unpopulated hk hu)
  case slotR => exact fun s addr k _ hk hu => runs_wideRegisterRead_busError (busOk_of_unpopulated hk hu)

/-- Settles O53: nothing is listed after reset, so every list is canonical and every address reads its default. -/
theorem resetIsTheTablesAndWellFormed : Obligations.Reset_is_the_tables_and_well_formed := by
  unfold Obligations.Reset_is_the_tables_and_well_formed
  refine ⟨State.wf_of_wfb rfl, fun _ => rfl, rfl, rfl, fun a i => ?_, fun _ => rfl⟩
  simp [State.otpBit, State.reset, Memory.read, fetch, look]


/-! ### The Expert page (R9, R100) -/

section
variable {s : State} {a width : Nat} {v : Word}

/-- A write that reaches a unit and waits for nothing acts on its page and is answered. -/
theorem accessWrite_of_busOk (h : s.busOk a 4 = true) (hw : s.busWaits a = false) :
    accessWrite a 4 v s = (if isExpert a then expertPage a v s else basicWrite 17 a v s).answer .done := by
  simp [accessWrite, busWrite, h, hw, State.answer]

theorem expertPage_of_closed {k : DieKind} (hk : dieKind (addrDie a) = some k) (he : hasExpert k (addrUnit a) = true)
    (ho : s.expertOpen a = false) : expertPage a v s = s.wr (expertStat a) (s.rd (expertStat a) ||| 4) := by
  simp [expertPage, hk, he, State.expertGate, ho]

theorem expertPage_of_open {k : DieKind} (hk : dieKind (addrDie a) = some k) (he : hasExpert k (addrUnit a) = true)
    (ho : s.expertOpen a = true) : expertPage a v s = expertEffect a v s := by
  simp [expertPage, hk, he, State.expertGate, ho]

/-- The state with a parameter counted among the overridden. -/
def State.override (s : State) (a : Nat) : State :=
  if s.overrides.contains a then s else { s with overrides := s.overrides ++ [a] }

theorem State.override_contains : (s.override a).overrides.contains a = true := by
  unfold State.override
  split
  · assumption
  · simp

theorem State.override_rd {b : Nat} : (s.override a).rd b = s.rd b := by
  unfold State.override
  split <;> rfl

theorem State.Wf.override (h : s.Wf) : (s.override a).Wf := by
  unfold State.override
  split
  · exact h
  · exact { h with }

/-- A parameter that is neither a test aperture's nor DEMOD's or LOOP's acts at once. -/
theorem expertEffect_of_atOnce {d : RegDesc} (hta : (List.range 7).find? (fun m => decide (TA_CMD (memUnit m) = a)) = none)
    (hd : regAt a = some d) (hrw : d.rw ≠ 0)
    (hu : ¬(1 ≤ addrDie a ∧ addrDie a ≤ 4 ∧
      (addrUnit a = addrUnit (DEMOD_CTL (addrDie a - 1)) ∨ addrUnit a = addrUnit (LOOP_CMD (addrDie a - 1))))) :
    expertEffect a v s = plainWrite a v (s.override a) := by
  simp only [expertEffect, hta, hd, hrw, hu, if_false, State.override]

/-- A plain write to a register without W1C bits sets its RW bits. -/
theorem plainWrite_of_no_w1c {d : RegDesc} (hd : regAt a = some d) (h1 : d.w1c = 0) :
    plainWrite a v s = s.wr a ((s.rd a &&& ~~~(BitVec.ofNat 32 d.rw)) ||| (v &&& BitVec.ofNat 32 d.rw)) := by
  simp [plainWrite, hd, h1, State.setRW]

end

/-- A register of an Expert page that no page or register but its own row gives an effect: a write of it, on an open unit, acts at
once (R9, R11). -/
structure ActsAtOnce (a : Nat) (d : RegDesc) (k : DieKind) : Prop where
  row : regAt a = some d
  expert : isExpert a = true
  die : dieKind (addrDie a) = some k
  page : hasExpert k (addrUnit a) = true
  noLoop : loopAt a = none
  noNvs : a ≠ NVS_DATA
  noAperture : (List.range 7).find? (fun m => decide (TA_CMD (memUnit m) = a)) = none
  noTick : ¬(1 ≤ addrDie a ∧ addrDie a ≤ 4 ∧
    (addrUnit a = addrUnit (DEMOD_CTL (addrDie a - 1)) ∨ addrUnit a = addrUnit (LOOP_CMD (addrDie a - 1))))
  writable : d.rw ≠ 0
  noW1c : d.w1c = 0

theorem ActsAtOnce.busWaits {a : Nat} {d : RegDesc} {k : DieKind} (p : ActsAtOnce a d k) (s : State) : s.busWaits a = false := by
  simp [State.busWaits, State.loopWaits, p.noLoop, p.noNvs]

theorem ActsAtOnce.accessWrite {a : Nat} {d : RegDesc} {k : DieKind} {s : State} (p : ActsAtOnce a d k) (v : Word)
    (hb : s.busOk a 4 = true) (ho : s.expertOpen a = true) :
    accessWrite a 4 v s =
      ((s.override a).wr a (((s.override a).rd a &&& ~~~(BitVec.ofNat 32 d.rw)) ||| (v &&& BitVec.ofNat 32 d.rw))).answer .done := by
  rw [accessWrite_of_busOk hb (p.busWaits s), if_pos p.expert, expertPage_of_open p.die p.page ho,
    expertEffect_of_atOnce p.noAperture p.row p.writable p.noTick, plainWrite_of_no_w1c p.row p.noW1c]

/-- The row of SLIP_THR. -/
def slipThrRow : RegDesc := { off := 4100, n1 := 1, st1 := 4, n2 := 1, st2 := 4, rw := 8191, w1c := 0, wo := 0, reset := 1400, p := 0 }

theorem slipThr_actsAtOnce (ch : Ch) : ActsAtOnce (SLIP_THR ch) slipThrRow .ch := by
  fin_cases ch <;> constructor <;> decide +kernel

theorem slipThr_get (s : State) (n : Nat) : s.get (SLIP_THR_THR n) = bitsOf (s.rd (SLIP_THR n)).toNat 12 0 := rfl

theorem slipThr_toNat (ch : Ch) : (BitVec.ofNat 32 (SLIP_THR ch)).toNat = SLIP_THR ch := by
  fin_cases ch <;> rfl

/-- The low 13 bits of a word whose low 13 bits were replaced by those of `v`. -/
theorem bitsOf_merge13 (w v : Word) :
    bitsOf ((w &&& ~~~(BitVec.ofNat 32 8191)) ||| (v &&& BitVec.ofNat 32 8191)).toNat 12 0 = v.toNat % 2 ^ 13 := by
  apply Nat.eq_of_testBit_eq
  intro i
  rw [testBit_bitsOf, Nat.testBit_mod_two_pow, BitVec.testBit_toNat, BitVec.testBit_toNat]
  simp only [BitVec.getLsbD_or, BitVec.getLsbD_and, BitVec.getLsbD_not, BitVec.getLsbD_ofNat, Nat.zero_add]
  rw [show (8191 : Nat) = 2 ^ 13 - 1 from rfl, Nat.testBit_two_pow_sub_one]
  by_cases hi : i < 13
  · have h32 : i < 32 := by omega
    simp [hi, h32]
  · simp [hi]

/-- Settles O28: a closed page only sets IGNORED, and SLIP_THR on an open one acts at once. -/
theorem aClosedExpertPageIgnoresWrites : Obligations.A_closed_Expert_page_ignores_writes := by
  unfold Obligations.A_closed_Expert_page_ignores_writes
  refine ⟨fun s addr v k _ hb hx hk he ho hw => ⟨_, exec_expertWrite _ _ _ _, ?_⟩,
    fun s ch v hwf hb ho => ⟨_, exec_expertWrite _ _ _ _, ?_⟩⟩
  · rw [accessWrite_of_busOk hb hw, if_pos hx, expertPage_of_closed hk he ho]
  · rw [slipThr_toNat, (slipThr_actsAtOnce ch).accessWrite v hb ho]
    refine ⟨State.answer_resp _ _, ?_, ?_⟩
    · rw [State.answer_overrides, State.wr_overrides]
      exact State.override_contains
    · rw [slipThr_get, State.answer_rd, State.rd_wr_self hwf.override]
      exact bitsOf_merge13 _ _

end Sys2Proof.Machine

namespace Sys2Proof.Machine

/-! ### Basic writes (R11-R13) -/

section
variable {s : State} {a : Nat} {v : Word}

theorem exec_expertUnlockWrite (die : Fin 8) (unit : Fin 32) (v : Word) (s : State) :
    exec (.expertUnlockWrite die unit v) s = .next (accessWrite (unitBase die unit + 0xFF0) 4 v s) := rfl

theorem exec_dbgFabric (addr : BitVec 32) (write : Bool) (v : Word) (s : State) :
    exec (.dbgFabric addr write v) s = .next (dbgFabric addr.toNat write v s) := rfl

theorem accessWrite_basic (h : s.busOk a 4 = true) (hw : s.busWaits a = false) (hx : isExpert a = false) :
    accessWrite a 4 v s = (basicWrite 17 a v s).answer .done := by
  simp [accessWrite_of_busOk h hw, hx]

theorem accessWrite_of_own_none (h : s.busOk a 4 = true) (hw : s.busWaits a = false) (hx : isExpert a = false)
    (ho : ownWrite 17 a v s = none) : accessWrite a 4 v s = (plainWrite a v s).answer .done := by
  simp [accessWrite_basic h hw hx, basicWrite, ho]

theorem accessWrite_of_own_some {u : State} (h : s.busOk a 4 = true) (hw : s.busWaits a = false) (hx : isExpert a = false)
    (ho : ownWrite 17 a v s = some u) : accessWrite a 4 v s = u.answer .done := by
  simp [accessWrite_basic h hw hx, basicWrite, ho]

theorem plainWrite_of_no_register (h : regAt a = none) : plainWrite a v s = s := by
  simp [plainWrite, h]

/-! ### Clearing W1C bits (R12, R13) -/

/-- The state is well formed and holds 0 in every bit of `ones` of a register. -/
structure Cleared (a : Nat) (ones : Word) (s : State) : Prop where
  wf : s.Wf
  zero : s.rd a &&& ones = 0

theorem Cleared.wr_zero {ones : Word} (h : Cleared a ones s) (b : Nat) : Cleared a ones (s.wr b 0) := by
  refine ⟨h.wf.wr b 0, ?_⟩
  by_cases hb : a = b
  · rw [hb, State.rd_wr_self h.wf]
    exact BitVec.zero_and
  · rw [State.rd_wr_other s 0 hb]
    exact h.zero

/-- Writing 1 to bits leaves them 0: what `clearBits` writes after them is 0 too. -/
theorem State.Wf.clearBits (h : s.Wf) (a : Nat) (ones : Word) : Cleared a ones (s.clearBits a ones) := by
  have hnew : Cleared a ones (s.wr a (s.rd a &&& ~~~ones)) := by
    refine ⟨h.wr _ _, ?_⟩
    rw [State.rd_wr_self h, BitVec.and_assoc, BitVec.not_and_self]
    exact BitVec.and_zero
  have hcounters : ∀ (l : List (Nat × Nat)) (s : State), Cleared a ones s →
      Cleared a ones (l.foldl (fun s e => if bitOf ones.toNat e.1 then s.setNum e.2 0 else s) s) := by
    intro l
    induction l with
    | nil => exact fun _ h => h
    | cons e l ih =>
      intro s hs
      refine ih _ ?_
      dsimp only
      split
      · exact hs.wr_zero e.2
      · exact hs
  have hsat := hcounters (satCounters a) _ hnew
  unfold State.clearBits
  extract_lets old new s1 s2 s3
  have h3 : Cleared a ones s3 := by
    by_cases hovr : a = OVR_CNT (addrDie a - 1) ∧ bitOf ones.toNat 16
    · simp only [s3, if_pos hovr]
      exact hsat.wr_zero a
    · simp only [s3, if_neg hovr]
      exact hsat
  cases firstOf a with
  | none => exact h3
  | some f =>
    dsimp only
    split
    · exact h3.wr_zero f.1
    · exact h3

theorem State.Wf.setRW (h : s.Wf) (a : Nat) (v : Word) : (s.setRW a v).Wf := by
  unfold State.setRW
  cases regAt a with
  | none => exact h
  | some d => exact h.wr _ _

theorem plainWrite_clears {d : RegDesc} (h : s.Wf) (hd : regAt a = some d) :
    (plainWrite a v s).rd a &&& (v &&& BitVec.ofNat 32 d.w1c) = 0 := by
  simp only [plainWrite, hd]
  split
  · rename_i hz
    rw [hz]
    exact BitVec.and_zero
  · exact ((h.setRW a v).clearBits a _).zero

/-! ### A LOOP that restarts (R155) -/

/-- A write to a LOOP that restarts waits behind those that came before it. -/
theorem accessWrite_of_restarting {ch : Ch} (h : s.busOk a 4 = true) (hl : loopAt a = some ch.val)
    (hr : (s.loopOf ch).restarting = true) : accessWrite a 4 v s = s.holdAccess a (some v.toNat) := by
  have hdie : addrDie a = ch.val + 1 := by
    have := List.find?_some hl
    simp only [Bool.and_eq_true, decide_eq_true_eq] at this
    exact this.1
  have hon : s.dieOn (ch.val + 1) = true := by
    simp only [State.busOk, Bool.and_eq_true, hdie] at h
    exact h.1.1.2
  have hne : a ≠ NVS_DATA := by
    rintro rfl
    have : (5 : Nat) = ch.val + 1 := hdie
    omega
  have hw : s.busWaits a = true := by
    simp [State.busWaits, State.loopWaits, hl, hr, hon]
  simp [accessWrite, busWrite, h, hw, State.answer, State.holdBus, hne]

theorem atD_modAt_self {α : Type} {n i : Nat} {x : α} {f : α → α} {xs : Vector α n} (hi : i < n) :
    atD (modAt xs i f) i x = f (atD xs i x) := by
  simp [atD, modAt, hi]

/-! ### Reads that capture (R7) -/

/-- The state with a word's value captured. -/
def State.captureWord (s : State) (b : Nat) : State := { s with latch := store (resetOf b) s.latch b (s.rd b) }

theorem captureWord_foldl_bank (l : List Nat) (s : State) : (l.foldl State.captureWord s).bank = s.bank := by
  induction l generalizing s with
  | nil => rfl
  | cons c l ih => exact ih (s.captureWord c)

theorem captureWord_rising (h : risingFrom 0 s.latch = true) (c : Nat) : risingFrom 0 (s.captureWord c).latch = true := by
  unfold State.captureWord store
  split
  · exact remove_risingFrom h
  · exact place_risingFrom h (Nat.zero_le c)

/-- A captured word stays captured while others are. -/
theorem captureWord_keeps {b : Nat} (h : risingFrom 0 s.latch = true) (hb : fetch (resetOf b) s.latch b = s.rd b) (c : Nat) :
    fetch (resetOf b) (s.captureWord c).latch b = (s.captureWord c).rd b := by
  by_cases hc : b = c
  · rw [hc]
    exact fetch_store_self h
  · exact (fetch_store_other hc).trans hb

theorem captureWord_foldl_keeps {b : Nat} (l : List Nat) (s : State) (h : risingFrom 0 s.latch = true)
    (hb : fetch (resetOf b) s.latch b = s.rd b) :
    fetch (resetOf b) (l.foldl State.captureWord s).latch b = (l.foldl State.captureWord s).rd b := by
  induction l generalizing s with
  | nil => exact hb
  | cons c l ih => exact ih _ (captureWord_rising h c) (captureWord_keeps h hb c)

theorem captureWord_foldl_mem {b : Nat} (l : List Nat) (s : State) (h : risingFrom 0 s.latch = true) (hb : b ∈ l) :
    fetch (resetOf b) (l.foldl State.captureWord s).latch b = (l.foldl State.captureWord s).rd b := by
  induction l generalizing s with
  | nil => exact absurd hb List.not_mem_nil
  | cons c l ih =>
    by_cases hc : b = c
    · exact captureWord_foldl_keeps l _ (captureWord_rising h c) (hc ▸ fetch_store_self h)
    · exact ih _ (captureWord_rising h c) ((List.mem_cons.mp hb).resolve_left hc)

theorem capture_eq_foldl (s : State) (a : Nat) : s.capture a = (capturesOf a).foldl State.captureWord s := rfl

theorem capture_bank (s : State) (a : Nat) : (s.capture a).bank = s.bank := captureWord_foldl_bank _ _

theorem capture_rd (s : State) (a b : Nat) : (s.capture a).rd b = s.rd b := by
  simp only [State.rd, capture_bank]

/-- A read captures each word its description names. -/
theorem capture_latch {b : Nat} (h : s.Wf) (hb : b ∈ capturesOf a) : fetch (resetOf b) (s.capture a).latch b = s.rd b := by
  rw [← capture_rd s a b]
  exact captureWord_foldl_mem _ _ (rising_of_canonical h.latch) hb

/-- A read of a word with no side effect of its own answers it and captures. -/
theorem accessRead_of_plain (h : s.busOk a 4 = true) (hw : s.busWaits a = false) (hn : a ≠ NVS_DATA) (hu : a ≠ UART_DATA)
    (hl : linkEndAt a = none) (hv : s.arrayView a = none) :
    accessRead a 4 s = (s.capture a).answer (.data ((s.capture a).dueView a).toNat) := by
  simp [accessRead, busRead, h, hw, basicRead, hn, hu, hl, hv]

/-! ### OPTIME (R7): its low word captures the high one -/

theorem optimeLo_toNat : (BitVec.ofNat 32 OPTIME_LO).toNat = OPTIME_LO := rfl

theorem capturesOf_optimeLo : capturesOf OPTIME_LO = [OPTIME_HI] := by decide +kernel

theorem busOk_optimeLo (h : s.pins.test = false) : s.busOk OPTIME_LO 4 = true := by
  have hd : s.dieOn 5 = true := by simp [State.dieOn, dieKind, h]
  have ha : addrDie OPTIME_LO = 5 := rfl
  have hs : s.served OPTIME_LO = true := by
    have : unitDomain (addrDie OPTIME_LO) (addrUnit OPTIME_LO) = 72 := rfl
    simp [State.served, this]
  simp only [State.busOk, ha, hd, hs]
  rfl

theorem busWaits_optimeLo (s : State) : s.busWaits OPTIME_LO = false := by
  have hl : loopAt OPTIME_LO = none := by decide +kernel
  have hn : OPTIME_LO ≠ NVS_DATA := by decide +kernel
  simp [State.busWaits, State.loopWaits, hl, hn]

theorem arrayView_optimeLo (s : State) : s.arrayView OPTIME_LO = none := rfl

theorem view_optimeLo (s : State) : s.view OPTIME_LO = none := rfl

/-- The row of OPTIME_LO has no write-only bits, and no view shows it. -/
theorem readView_optimeLo (s : State) : s.readView OPTIME_LO = s.rd OPTIME_LO := by
  have hc : isCaptured OPTIME_LO = false := by decide +kernel
  have hp : pendWord OPTIME_LO = none := by decide +kernel
  have hw : (regAt OPTIME_LO).map RegDesc.wo = some 0 := by decide +kernel
  obtain ⟨d, hd, hd0⟩ := Option.map_eq_some_iff.mp hw
  simp only [State.readView, hp, view_optimeLo, hd, hc, hd0]
  exact BitVec.and_allOnes

theorem linkEndAt_optimeLo : linkEndAt OPTIME_LO = none := by decide +kernel

theorem dueView_optimeLo (s : State) : s.dueView OPTIME_LO = s.rd OPTIME_LO := by
  have hd : addrDie OPTIME_LO = 5 := rfl
  simp [State.dueView, hd, readView_optimeLo]

/-- A read of OPTIME_LO answers it and captures OPTIME_HI. -/
theorem accessRead_optimeLo (h : s.pins.test = false) :
    accessRead OPTIME_LO 4 s = (s.capture OPTIME_LO).answer (.data (s.num OPTIME_LO)) := by
  rw [accessRead_of_plain (busOk_optimeLo h) (busWaits_optimeLo s) (by decide +kernel) (by decide +kernel) linkEndAt_optimeLo
    (arrayView_optimeLo s), dueView_optimeLo, capture_rd, State.num]

/-! ### EXPERT_UNLOCK (R100) -/

theorem inArray_iff {b k st : Nat} : inArray a b k st = true ↔ b ≤ a ∧ (a - b) / st < k ∧ (a - b) % st = 0 := by
  simp [inArray, and_assoc]

/-- No register with an effect of its own stands at offset FF0h of a HUB unit, but EXPERT_UNLOCK. -/
theorem hubDataWrite_unlock (h : addrOff a = 0xFF0) : hubDataWrite a v s = none := by
  simp only [addrOff] at h
  unfold hubDataWrite
  repeat rw [if_neg (by
      simp only [inArray_iff, CTRL_NS, WRT_REL, TD_TAIL, DUMP_CMD, STK_OP, POOL_CMD, DCMD, SC_MOP_CMD, CI_CTL,
        CI_KEYCMD, CAT_CTL, hubReg]
      omega)]

theorem hubSysWrite_unlock {src : Nat} (h : addrOff a = 0xFF0) : hubSysWrite src a v s = none := by
  simp only [addrOff] at h
  unfold hubSysWrite
  repeat rw [if_neg (by
      simp only [EV_SEND, EV_ROUTE, SIG_CMD, COLO_CTL, UPD_CMD, UPD_ST, UPD_UNSEAL, OTP_PROG, DBG_CTL, UART_DATA,
        XS_CMD, GPIO_OUT, GPIO_OE, hubReg]
      omega)]

theorem kprWrite_unlock (h : addrOff a = 0xFF0) : kprWrite a v s = none := by
  simp only [addrOff] at h
  unfold kprWrite
  repeat rw [if_neg (by
      simp only [inArray_iff, SPIN_CMD, SPIN_CFG, CLS_CMD, SHOCK_CTL, SHOCK_STAT, INV_NOTE_DATA, BOOT_CTL, NVS_DATA,
        ALOG_CTL, FATAL_CMD, ACT_STATE, WR_GO, LADDER_CMD, MAX_RUNG, THR_LIM, kprReg]
      omega)]

theorem loopSetting_iff {n : Nat} : loopSetting n a = true ↔ (FF_CFG n ≤ a ∧ a ≤ LOOP_MANUAL n) ∨ a = LOAD_CFG n := by
  simp [loopSetting]

theorem servoWrite_unlock {n : Nat} (h : addrOff a = 0xFF0) : servoWrite n a v s = none := by
  simp only [addrOff] at h
  unfold servoWrite
  repeat rw [if_neg (by
      simp only [loopSetting_iff, DEMOD_CTL, TELEM_CTL, DEMOD_CNT_CLR, LOOP_CMD, LOOP_TARGET_LO, LOOP_TARGET_HI,
        SEEK_POLICY, PLANT, NOTCH, FF_CFG, LOOP_MANUAL, LOAD_CFG, CLV_CTL, chReg]
      omega)]

theorem readChWrite_unlock {n : Nat} (h : addrOff a = 0xFF0) : readChWrite n a v s = none := by
  have hz : s.get (DET_STAT_ZONE n) < 64 := Nat.mod_lt _ (by simp [DET_STAT_ZONE])
  simp only [addrOff] at h
  unfold readChWrite
  repeat rw [if_neg (by
      simp only [FMT_SEL, RCV_CMD, RCV_DESC, DET_CNT_CLR, SJ_CMD, DZ_RATE, DZ_FMT, chReg]
      omega)]

theorem writeChWrite_unlock {n : Nat} (h : addrOff a = 0xFF0) : writeChWrite n a v s = none := by
  simp only [addrOff] at h
  unfold writeChWrite
  repeat rw [if_neg (by
      simp only [WR_POLICY, WR_HEAD, WCNT_CLR, AS_PREHEAT, FLY_CTL, FLY_REQ, FLY_CCMD, FLY_CLR, FLY_EFF, FLY_PROT,
        PA_CMD, PA_QCMD, chReg]
      omega)]

theorem lomunWrite_unlock {n : Nat} (h : addrOff a = 0xFF0) : lomunWrite n a v s = none := by
  simp only [addrOff] at h
  unfold lomunWrite
  repeat rw [if_neg (by
      simp only [LM_CTL, LM_LOAD_DATA, LM_G, chReg]
      omega)]

theorem chWrite_unlock {n : Nat} (h : addrOff a = 0xFF0) : chWrite n a v s = none := by
  simp [chWrite, servoWrite_unlock h, readChWrite_unlock h, writeChWrite_unlock h, lomunWrite_unlock h]

/-- The blocks of a unit's link ends end before its offset A00h. -/
theorem linkBase_off (e : Nat) : addrOff (linkBase e) ≤ 0x800 := by
  simp only [addrOff, linkBase, hubTSUKU, chTSUKU, kprTSUKU, hubReg, chReg, kprReg]
  split
  · omega
  · split <;> omega

theorem linkEndAt_unlock (h : addrOff a = 0xFF0) : linkEndAt a = none := by
  refine List.find?_eq_none.mpr fun e _ hin => ?_
  have hoff := linkBase_off e
  simp only [addrOff] at h hoff
  simp only [Bool.and_eq_true, decide_eq_true_eq] at hin
  omega

/-- A write of EXPERT_UNLOCK sets UNLOCKED where it is the key word of a granted unit. -/
theorem ownWrite_unlock {src : Nat} (h : addrOff a = 0xFF0) (hr : (regAt a).isSome = true) :
    ownWrite src a v s = some (s.wr (expertStat a) (insertBits (s.rd (expertStat a)) 1 1
      (ofBool (decide (v.toNat = 0x0E590000 + addrDie a * 0x100 + addrUnit a) && bitOf (s.num (expertStat a)) 0)))) := by
  have hown : (match addrDie a with
      | 0 => (hubDataWrite a v s).or (hubSysWrite src a v s)
      | 5 => kprWrite a v s
      | d => chWrite (d - 1) a v s) = none := by
    split
    · rw [hubDataWrite_unlock h, hubSysWrite_unlock h]
      rfl
    · exact kprWrite_unlock h
    · exact chWrite_unlock h
  have hcommon : commonWrite a v s = some (s.wr (expertStat a) (insertBits (s.rd (expertStat a)) 1 1
      (ofBool (decide (v.toNat = 0x0E590000 + addrDie a * 0x100 + addrUnit a) && bitOf (s.num (expertStat a)) 0)))) :=
    if_pos ⟨h, hr⟩
  unfold ownWrite
  rw [linkEndAt_unlock h, hcommon]
  exact congrArg (fun o => (Option.or o none).or _) hown

theorem isExpert_unlock (h : addrOff a = 0xFF0) : isExpert a = false := by
  simp [isExpert, h]

theorem addrOff_unlock (die : Fin 8) (unit : Fin 32) : addrOff (unitBase die unit + 0xFF0) = 0xFF0 := by
  simp only [addrOff, unitBase]
  omega

theorem addrDie_unlock (die : Fin 8) (unit : Fin 32) : addrDie (unitBase die unit + 0xFF0) = die := by
  simp only [addrDie, unitBase]
  omega

theorem addrUnit_unlock (die : Fin 8) (unit : Fin 32) : addrUnit (unitBase die unit + 0xFF0) = unit := by
  simp only [addrUnit, unitBase]
  omega

end

/-! ### Debug accesses (R462) -/

section
variable {s : State} {a : Nat} {w : Bool} {v : Word}

theorem dbgFabric_closed (hd : s.dieOn 0 = true) (h : s.get DBG_STAT_LEVEL = 0 ∨ (a = NVS_DATA ∧ s.nvsSecret = true)) :
    dbgFabric a w v s = s.answer (if w then .done else .data 0) := by
  rw [dbgFabric, if_neg (by simp [hd]), if_pos h]

theorem dbgFabric_open (hd : s.dieOn 0 = true) (hl : s.get DBG_STAT_LEVEL ≠ 0) (h : a ≠ NVS_DATA ∨ s.nvsSecret = false) :
    dbgFabric a w v s = if w then accessWrite a 4 v s else accessRead a 4 s := by
  have hn : ¬(s.get DBG_STAT_LEVEL = 0 ∨ (a = NVS_DATA ∧ s.nvsSecret = true)) := by
    rintro (h0 | ⟨ha, hs⟩)
    · exact hl h0
    · rcases h with h | h
      · exact h ha
      · exact absurd hs (by simp [h])
  rw [dbgFabric, if_neg (by simp [hd]), if_neg hn]

end

/-- Settles O29: each access by the page, the register's row and what waits, each read by the words it captures. -/
theorem registerReadsAndWrites : Obligations.Register_reads_and_writes := by
  unfold Obligations.Register_reads_and_writes
  refine ⟨?basic, ?expert, ?plain, ?clear, ?empty, ?own, ?restart, ?capture, ?optime, ?unlock, ?dbgRead0, ?dbgWrite0,
    ?dbgWrite, ?dbgRead, ?dbgSecret⟩
  case basic =>
    intro s addr v _ hb hw
    refine ⟨_, exec_registerWrite _ _ _ _, ?_⟩
    rw [accessWrite_of_busOk hb hw]
    exact State.answer_resp _ _
  case expert =>
    intro s addr v _ hb hw
    refine ⟨_, exec_expertWrite _ _ _ _, ?_⟩
    rw [accessWrite_of_busOk hb hw]
    exact State.answer_resp _ _
  case plain =>
    intro s addr v d hwf hb hw hx ho hd h1
    refine ⟨_, exec_registerWrite _ _ _ _, ?_⟩
    rw [accessWrite_of_own_none hb hw hx ho, plainWrite_of_no_w1c hd h1]
    exact ⟨State.rd_wr_self hwf _ _, fun a ha => State.rd_wr_other s _ ha⟩
  case clear =>
    intro s addr v d hwf hb hw hx ho hd
    refine ⟨_, exec_registerWrite _ _ _ _, ?_⟩
    rw [accessWrite_of_own_none hb hw hx ho]
    exact plainWrite_clears hwf hd
  case empty =>
    intro s addr v _ hb hw hx ho hd
    refine ⟨_, exec_registerWrite _ _ _ _, ?_⟩
    rw [accessWrite_of_own_none hb hw hx ho, plainWrite_of_no_register hd]
  case own =>
    intro s addr v u _ hb hw hx ho
    exact ⟨_, exec_registerWrite _ _ _ _, accessWrite_of_own_some hb hw hx ho⟩
  case restart =>
    intro s addr v ch _ hb hl hr
    refine ⟨_, exec_registerWrite _ _ _ _, ?_⟩
    rw [accessWrite_of_restarting hb hl hr, State.holdAccess, hl]
    exact ⟨rfl, rfl, congrArg Loop.waiting (atD_modAt_self ch.isLt)⟩
  case capture =>
    intro s addr hwf hb hw _ hl hv hn
    refine ⟨_, exec_wideRegisterRead _ _, ?_⟩
    rw [accessRead_of_plain hb hw hn.1 hn.2 hl hv]
    exact ⟨rfl, fun b hb => ⟨capture_latch hwf hb, capture_bank s _⟩⟩
  case optime =>
    intro s hwf ht
    refine ⟨_, exec_wideRegisterRead _ _, ?_⟩
    rw [optimeLo_toNat, accessRead_optimeLo ht]
    refine ⟨State.answer_resp _ _, ?_⟩
    rw [State.answer_latch]
    exact capture_latch hwf (by rw [capturesOf_optimeLo]; exact List.mem_singleton_self _)
  case unlock =>
    intro s die unit v hwf hb hw hr
    have hoff := addrOff_unlock die unit
    refine ⟨_, exec_expertUnlockWrite _ _ _ _, ?_⟩
    rw [accessWrite_of_own_some hb hw (isExpert_unlock hoff) (ownWrite_unlock hoff hr), expertStat, addrDie_unlock, addrUnit_unlock]
    refine ⟨State.answer_resp _ _, ?_, fun a ha => ?_⟩
    · rw [State.answer_rd, State.rd_wr_self hwf]
    · rw [State.answer_rd, State.rd_wr_other s _ ha]
  case dbgRead0 => exact fun s addr v _ hd hl => ⟨_, exec_dbgFabric _ _ _ _, dbgFabric_closed hd (.inl hl)⟩
  case dbgWrite0 => exact fun s addr v _ hd hl => ⟨_, exec_dbgFabric _ _ _ _, dbgFabric_closed hd (.inl hl)⟩
  case dbgWrite => exact fun s addr v _ hd hl h => ⟨_, exec_dbgFabric _ _ _ _, dbgFabric_open hd hl h⟩
  case dbgRead => exact fun s addr v _ hd hl h => ⟨_, exec_dbgFabric _ _ _ _, dbgFabric_open hd hl h⟩
  case dbgSecret => exact fun s v _ hd _ hs => ⟨_, exec_dbgFabric _ _ _ _, dbgFabric_closed hd (.inr ⟨rfl, hs⟩)⟩

end Sys2Proof.Machine

namespace Sys2Proof.Machine

/-! ## How one command changes the state (R3, R15, R371, R449, R465)

One rule for each function of the model that answers a state: from a state that evolves from `s₀` it answers one that does. A
function that only sets fields outside `Stores` is a `frame`; the others cite the rules of what they call. -/

/-- The fields of the state that its canonical forms and the queue of commands are about. -/
structure Stores where
  pending : List Instr
  bank : List (Nat × Word)
  latch : List (Nat × Word)
  nvs : Memory
  flash : Memory
  otp : Memory
  hsram : Memory
  csram : Vector Memory 4
  dram : Memory
  invBuf : Vector Memory 2
  invNotes : Memory

def State.stores (s : State) : Stores :=
  ⟨s.pending, s.bank, s.latch, s.nvs, s.flash, s.otp, s.hsram, s.csram, s.dram, s.invBuf, s.invNotes⟩

/-- `t` is a state the part can be brought to from `s` within one command: the queue is as it was, the canonical forms are kept,
and no bit of the OTP array is cleared (R449). -/
structure Evolves (s t : State) : Prop where
  pending : t.pending = s.pending
  wf : s.Wf → t.Wf
  otp : s.Wf → ∀ a i, s.otpBit a i = true → t.otpBit a i = true

section
variable {s₀ s t : State} {α : Type}

theorem Evolves.refl (s : State) : Evolves s s := ⟨rfl, id, fun _ _ _ => id⟩

/-- Whatever changes none of `Stores` evolves. -/
theorem Evolves.frame (h : Evolves s₀ s) (e : t.stores = s.stores) : Evolves s₀ t := by
  simp only [State.stores, Stores.mk.injEq] at e
  obtain ⟨hpending, hbank, hlatch, hnvs, hflash, hotp, hhsram, hcsram, hdram, hinvBuf, hinvNotes⟩ := e
  refine ⟨hpending.trans h.pending, fun w => ?_, fun w a i hb => ?_⟩
  · obtain ⟨_, _, _, _, _, _, _, _, _, _⟩ := h.wf w
    constructor <;> simp only [*, implies_true]
  · simpa only [State.otpBit, hotp] using h.otp w a i hb

/-! ### Control -/

theorem Evolves.ite {c : Prop} {i : Decidable c} (hs : Evolves s₀ s) (ht : Evolves s₀ t) : Evolves s₀ (if c then s else t) := by
  split
  · exact hs
  · exact ht

theorem Evolves.ite_fst {c : Prop} {i : Decidable c} {p q : State × α} (hp : Evolves s₀ p.1) (hq : Evolves s₀ q.1) :
    Evolves s₀ (if c then p else q).1 := by
  split
  · exact hp
  · exact hq

theorem Evolves.ite_snd {c : Prop} {i : Decidable c} {p q : α × State} (hp : Evolves s₀ p.2) (hq : Evolves s₀ q.2) :
    Evolves s₀ (if c then p else q).2 := by
  split
  · exact hp
  · exact hq

theorem Evolves.pair {a : α} (h : Evolves s₀ t) : Evolves s₀ (a, t).2 := h

theorem Evolves.of_snd {p : α × State} {a : α} (e : p = (a, t)) (h : Evolves s₀ p.2) : Evolves s₀ t := by
  subst e
  exact h

theorem Evolves.foldl {f : State → α → State} {l : List α} (h : Evolves s₀ s)
    (hf : ∀ s, Evolves s₀ s → ∀ a, Evolves s₀ (f s a)) : Evolves s₀ (l.foldl f s) := by
  induction l generalizing s with
  | nil => exact h
  | cons a l ih => exact ih (hf s h a)

theorem Evolves.foldl_snd {β : Type} {p : β × State} {f : β × State → α → β × State} {l : List α} (h : Evolves s₀ p.2)
    (hf : ∀ p, Evolves s₀ p.2 → ∀ a, Evolves s₀ (f p a).2) : Evolves s₀ (l.foldl f p).2 := by
  induction l generalizing p with
  | nil => exact h
  | cons a l ih => exact ih (hf p h a)

/-- Every state an optional one may be evolves from `s₀`. -/
def EvolvesOpt (s₀ : State) (o : Option State) : Prop := ∀ t ∈ o, Evolves s₀ t

theorem EvolvesOpt.none : EvolvesOpt s₀ none := by
  intro t ht
  simp at ht

theorem EvolvesOpt.some (h : Evolves s₀ s) : EvolvesOpt s₀ (some s) := by
  intro t ht
  rwa [← Option.some.inj ht]

theorem EvolvesOpt.ite {c : Prop} {i : Decidable c} {o q : Option State} (ho : EvolvesOpt s₀ o) (hq : EvolvesOpt s₀ q) :
    EvolvesOpt s₀ (if c then o else q) := by
  split
  · exact ho
  · exact hq

theorem EvolvesOpt.or {o q : Option State} (ho : EvolvesOpt s₀ o) (hq : EvolvesOpt s₀ q) : EvolvesOpt s₀ (o.or q) := by
  cases o with
  | none => exact hq
  | some _ => exact ho

theorem EvolvesOpt.getD {o : Option State} (ho : EvolvesOpt s₀ o) (h : Evolves s₀ s) : Evolves s₀ (o.getD s) := by
  cases o with
  | none => exact h
  | some t => exact ho t rfl

/-- The state of every pair an optional one may be evolves from `s₀`. -/
def EvolvesSnd (s₀ : State) (o : Option (α × State)) : Prop := ∀ p, o = some p → Evolves s₀ p.2

theorem EvolvesSnd.none : EvolvesSnd s₀ (none : Option (α × State)) := by
  intro p hp
  cases hp

theorem EvolvesSnd.some {p : α × State} (h : Evolves s₀ p.2) : EvolvesSnd s₀ (some p) := by
  intro q hq
  rwa [← Option.some.inj hq]

theorem EvolvesSnd.ite {c : Prop} {i : Decidable c} {o q : Option (α × State)} (ho : EvolvesSnd s₀ o) (hq : EvolvesSnd s₀ q) :
    EvolvesSnd s₀ (if c then o else q) := by
  split
  · exact ho
  · exact hq

theorem EvolvesSnd.eq {o : Option (α × State)} {a : α} (ho : EvolvesSnd s₀ o) (e : o = .some (a, t)) : Evolves s₀ t :=
  ho (a, t) e

theorem EvolvesSnd.getD {o : Option (α × State)} {p : α × State} (ho : EvolvesSnd s₀ o) (h : Evolves s₀ p.2) :
    Evolves s₀ (o.getD p).2 := by
  cases o with
  | none => exact h
  | some q => exact ho q rfl

/-- The state of every answer without an error evolves from `s₀`. -/
def EvolvesOk {ε : Type} (s₀ : State) (o : Except ε (α × State)) : Prop := ∀ p, o = .ok p → Evolves s₀ p.2

theorem EvolvesOk.error {ε : Type} {e : ε} : EvolvesOk s₀ (.error e : Except ε (α × State)) := by
  intro p hp
  cases hp

theorem EvolvesOk.ok {ε : Type} {p : α × State} (h : Evolves s₀ p.2) : EvolvesOk s₀ (.ok p : Except ε (α × State)) := by
  intro q hq
  rwa [← Except.ok.inj hq]

theorem EvolvesOk.ite {ε : Type} {c : Prop} {i : Decidable c} {o q : Except ε (α × State)} (ho : EvolvesOk s₀ o) (hq : EvolvesOk s₀ q) :
    EvolvesOk s₀ (if c then o else q) := by
  split
  · exact ho
  · exact hq

/-- Every next state an outcome may answer evolves from `s₀`. -/
def Leads (s₀ : State) (o : Host.Outcome State Fault Refusal) : Prop := ∀ t, o = .next t → Evolves s₀ t

theorem Leads.next (h : Evolves s₀ s) : Leads s₀ (.next s) := by
  intro t e
  rwa [← Host.Outcome.next.inj e]

/-! ### Writes of the bank and of the memories -/

theorem Evolves.wr {a : Nat} {v : Word} (h : Evolves s₀ s) : Evolves s₀ (s.wr a v) :=
  ⟨h.pending, fun w => (h.wf w).wr a v, h.otp⟩

theorem atD_modAt_wf {k n : Nat} {v : Vector Memory k} {f : Memory → Memory} (h : ∀ i, Memory.wf 0 (atD v i []) = true)
    (hf : ∀ m, Memory.wf 0 m = true → Memory.wf 0 (f m) = true) (i : Nat) : Memory.wf 0 (atD (modAt v n f) i []) = true := by
  unfold modAt
  split
  · unfold atD
    split
    · rename_i hn hi
      rw [Vector.getElem_set]
      split
      · exact hf _ (by simpa only [atD, hn, dif_pos] using h n)
      · simpa only [atD, hi, dif_pos] using h i
    · rfl
  · exact h i

/-- What a reset leaves of a listed register (R15): nothing where that is the reset value. -/
theorem filterMap_canonical {f : Nat × Word → Option (Nat × Word)} {m : List (Nat × Word)}
    (hf : ∀ e e', f e = some e' → e'.1 = e.1 ∧ (e.2 ≠ resetOf e.1 → e'.2 ≠ resetOf e.1)) (h : canonical resetOf m = true) :
    canonical resetOf (m.filterMap f) = true := by
  simp only [canonical, Bool.and_eq_true, List.all_eq_true, decide_eq_true_eq, List.mem_filterMap] at h ⊢
  refine ⟨filterMap_risingFrom (fun e e' he => (hf e e' he).1) h.1, ?_⟩
  rintro e' ⟨e, hm, he⟩
  rw [(hf e e' he).1]
  exact (hf e e' he).2 (h.2 e hm)

theorem Evolves.resetRegs {which : Nat → Bool} (h : Evolves s₀ s) : Evolves s₀ (s.resetRegs which) := by
  refine ⟨h.pending, fun w => { h.wf w with bank := ?_ }, h.otp⟩
  refine filterMap_canonical (fun e e' he => ?_) (h.wf w).bank
  grind

theorem Evolves.nvsWrite {a : Nat} {bs : List Byte} (h : Evolves s₀ s) : Evolves s₀ (s.nvsWrite a bs) :=
  ⟨h.pending, fun w => { h.wf w with nvs := Memory.writeN_wf (h.wf w).nvs }, h.otp⟩

theorem Evolves.flashWrite {a : Nat} {bs : List Byte} (h : Evolves s₀ s) : Evolves s₀ (s.flashWrite a bs) :=
  ⟨h.pending, fun w => { h.wf w with flash := Memory.writeN_wf (h.wf w).flash }, h.otp⟩

theorem Evolves.flashErase {a n : Nat} (h : Evolves s₀ s) : Evolves s₀ (s.flashErase a n) :=
  ⟨h.pending, fun w => { h.wf w with flash := Memory.wipe_wf (h.wf w).flash }, h.otp⟩

theorem Evolves.setHsram {m : Memory} (h : Evolves s₀ s) (hm : s₀.Wf → Memory.wf 0 m = true) : Evolves s₀ { s with hsram := m } :=
  ⟨h.pending, fun w => { h.wf w with hsram := hm w }, h.otp⟩

theorem Evolves.setDram {m : Memory} (h : Evolves s₀ s) (hm : s₀.Wf → Memory.wf 0 m = true) : Evolves s₀ { s with dram := m } :=
  ⟨h.pending, fun w => { h.wf w with dram := hm w }, h.otp⟩

theorem Evolves.setCsram {n : Nat} {f : Memory → Memory} (h : Evolves s₀ s)
    (hf : ∀ m, Memory.wf 0 m = true → Memory.wf 0 (f m) = true) : Evolves s₀ { s with csram := modAt s.csram n f } :=
  ⟨h.pending, fun w => { h.wf w with csram := atD_modAt_wf (h.wf w).csram hf }, h.otp⟩

/-! ### Bits of byte strings, and an OTP array that only gains bits (R449) -/

theorem length_toLe (n x : Nat) : (toLe n x).length = n := by
  induction n generalizing x with
  | zero => rfl
  | succ n ih => simp [toLe, ih]

/-- Bit i of byte k of a number is the number's bit 8k + i. -/
theorem getLsbD_toLe {n k : Nat} (x i : Nat) (hk : k < (toLe n x).length) :
    ((toLe n x)[k]).getLsbD i = (decide (i < 8) && x.testBit (8 * k + i)) := by
  induction n generalizing x k with
  | zero => simp [toLe] at hk
  | succ n ih =>
    cases k with
    | zero => simp [toLe, BitVec.getLsbD_ofNat]
    | succ k =>
      simp only [toLe, List.length_cons, Nat.succ_lt_succ_iff] at hk
      simp only [toLe, List.getElem_cons_succ, ih _ hk]
      rw [show (256 : Nat) = 2 ^ 8 from rfl, Nat.testBit_div_two_pow]
      congr 2
      omega

/-- Bit 8k + i of a byte string's number is bit i of its byte k. -/
theorem testBit_leNat {bs : List Byte} {k i : Nat} (hi : i < 8) (hk : k < bs.length) :
    (leNat bs).testBit (8 * k + i) = bs[k].getLsbD i := by
  induction bs generalizing k with
  | nil => simp at hk
  | cons b t ih =>
    have hsplit := Nat.testBit_two_pow_mul_add (leNat t) (b := b.toNat) (i := 8) b.isLt (8 * k + i)
    rw [leNat, Nat.add_comm b.toNat, show (256 : Nat) = 2 ^ 8 from rfl, hsplit]
    cases k with
    | zero => simp [hi, BitVec.testBit_toNat]
    | succ k =>
      have hk' : k < t.length := by simpa using hk
      rw [if_neg (by omega), show 8 * (k + 1) + i - 8 = 8 * k + i from by omega, ih hk', List.getElem_cons_succ]

theorem getElem_readN {d : Byte} {m : Memory} {a n k : Nat} (hk : k < (m.readN d a n).length) :
    (m.readN d a n)[k] = m.read d (a + k) := by
  simp [Memory.readN]

theorem length_readN (d : Byte) (m : Memory) (a n : Nat) : (m.readN d a n).length = n := by
  simp [Memory.readN]

/-- Setting a bit keeps the others. -/
theorem testBit_setBitN {x b j : Nat} (h : x.testBit j = true) : (setBitN x b).testBit j = true := by
  unfold setBitN
  split
  · exact h
  · rename_i hb
    rw [bitOf_eq_testBit, Bool.not_eq_true] at hb
    rcases Nat.lt_trichotomy j b with hj | hj | hj
    · rw [Nat.add_comm, Nat.testBit_two_pow_add_gt hj, h]
    · rw [hj, hb] at h
      cases h
    · obtain ⟨k, rfl⟩ := Nat.exists_eq_add_of_lt hj
      rw [← bitOf_eq_testBit, bitOf, decide_eq_false_iff_not] at hb
      have hq : (x + 2 ^ b) / 2 ^ b / 2 = x / 2 ^ b / 2 := by
        rw [Nat.add_div_right _ (Nat.two_pow_pos b)]
        omega
      rw [Nat.div_div_eq_div_mul, Nat.div_div_eq_div_mul, ← Nat.pow_succ] at hq
      rw [show b + k + 1 = k + (b + 1) from by omega, ← Nat.testBit_div_two_pow] at h ⊢
      rwa [hq]

/-- A byte string written over bytes whose ones it keeps clears no bit. -/
theorem getLsbD_writeN_of_rises {m : Memory} {a : Nat} {bs : List Byte} (h : m.wf 0 = true)
    (hbs : ∀ k (hk : k < bs.length) i, (m.read 0 (a + k)).getLsbD i = true → bs[k].getLsbD i = true) {c i : Nat}
    (hc : (m.read 0 c).getLsbD i = true) : ((m.writeN 0 a bs).read 0 c).getLsbD i = true := by
  by_cases hin : c < a ∨ a + bs.length ≤ c
  · rwa [Memory.read_writeN_other hin]
  · obtain ⟨k, rfl⟩ := Nat.exists_eq_add_of_le (show a ≤ c by omega)
    have hk : k < bs.length := by omega
    rw [Memory.read_writeN_self h hk]
    exact hbs k hk i hc

/-- A number written over the bytes that held one whose ones it keeps clears no bit. -/
theorem getLsbD_writeN_toLe {m : Memory} {a n x : Nat} (h : m.wf 0 = true)
    (hx : ∀ j, (leNat (m.readN 0 a n)).testBit j = true → x.testBit j = true) {c i : Nat}
    (hc : (m.read 0 c).getLsbD i = true) : ((m.writeN 0 a (toLe n x)).read 0 c).getLsbD i = true := by
  refine getLsbD_writeN_of_rises h (fun k hk i hi => ?_) hc
  have hk' : k < (m.readN 0 a n).length := by rw [length_readN]; rwa [length_toLe] at hk
  have hi8 : i < 8 := BitVec.lt_of_getLsbD hi
  rw [getLsbD_toLe, decide_eq_true hi8, Bool.true_and]
  exact hx _ (by rw [testBit_leNat hi8 hk', getElem_readN, hi])

theorem Evolves.writeOtp {a n x : Nat} (h : Evolves s₀ s)
    (hx : ∀ j, (leNat (s.otp.readN 0 a n)).testBit j = true → x.testBit j = true) :
    Evolves s₀ { s with otp := s.otp.writeN 0 a (toLe n x) } :=
  ⟨h.pending, fun w => { h.wf w with otp := Memory.writeN_wf (h.wf w).otp },
    fun w c i hb => getLsbD_writeN_toLe (h.wf w).otp hx (h.otp w c i hb)⟩

/-! ### Machine/Ops.lean -/

theorem Evolves.put {f x} (h : Evolves s₀ s) : Evolves s₀ (s.put f x) := h.wr

theorem Evolves.setNum {a x} (h : Evolves s₀ s) : Evolves s₀ (s.setNum a x) := h.wr

theorem Evolves.add64 {lo hi k} (h : Evolves s₀ s) : Evolves s₀ (s.add64 lo hi k) := h.setNum.setNum

theorem Evolves.set64 {lo hi v} (h : Evolves s₀ s) : Evolves s₀ (s.set64 lo hi v) := h.setNum.setNum

theorem Evolves.derivedNum {a x} (h : Evolves s₀ s) : Evolves s₀ (s.derivedNum a x) := .ite h h.setNum

theorem Evolves.endOverrides {which} (h : Evolves s₀ s) : Evolves s₀ (s.endOverrides which) := .frame h rfl

theorem Evolves.toPolicy {which} (h : Evolves s₀ s) : Evolves s₀ (s.toPolicy which) := h.resetRegs.endOverrides

theorem Evolves.draw {what} (h : Evolves s₀ s) : Evolves s₀ (s.draw what).2 := .frame h rfl

theorem Evolves.drawBytes {what k} (h : Evolves s₀ s) : Evolves s₀ (s.drawBytes what k).2 := .frame h rfl

theorem Evolves.answer {r} (h : Evolves s₀ s) : Evolves s₀ (s.answer r) := .frame h rfl

theorem Evolves.access {die f} (h : Evolves s₀ s) (hf : ∀ s, Evolves s₀ s → Evolves s₀ (f s)) :
    Evolves s₀ (s.access die f) :=
  .ite (hf _ h.answer) h.answer

theorem Evolves.ifCh {n f} (h : Evolves s₀ s) (hf : ∀ s, Evolves s₀ s → Evolves s₀ (f s)) : Evolves s₀ (s.ifCh n f) :=
  .ite (hf _ h) h

theorem Evolves.modDemod {n f} (h : Evolves s₀ s) : Evolves s₀ (s.modDemod n f) := .frame h rfl

theorem Evolves.modLoop {n f} (h : Evolves s₀ s) : Evolves s₀ (s.modLoop n f) := .frame h rfl

theorem Evolves.modHold {n f} (h : Evolves s₀ s) : Evolves s₀ (s.modHold n f) := .frame h rfl

theorem Evolves.modDet {n f} (h : Evolves s₀ s) : Evolves s₀ (s.modDet n f) := .frame h rfl

theorem Evolves.modWru {n f} (h : Evolves s₀ s) : Evolves s₀ (s.modWru n f) := .frame h rfl

theorem Evolves.modAsu {n f} (h : Evolves s₀ s) : Evolves s₀ (s.modAsu n f) := .frame h rfl

theorem Evolves.modFlu {n f} (h : Evolves s₀ s) : Evolves s₀ (s.modFlu n f) := .frame h rfl

theorem Evolves.modPau {n f} (h : Evolves s₀ s) : Evolves s₀ (s.modPau n f) := .frame h rfl

theorem Evolves.modLmu {n f} (h : Evolves s₀ s) : Evolves s₀ (s.modLmu n f) := .frame h rfl

theorem Evolves.setClv {n b} (h : Evolves s₀ s) : Evolves s₀ (s.setClv n b) := .frame h rfl

theorem Evolves.modCore {c f} (h : Evolves s₀ s) : Evolves s₀ (s.modCore c f) := .frame h rfl

theorem Evolves.modSig {f} (h : Evolves s₀ s) : Evolves s₀ (s.modSig f) := .frame h rfl

theorem Evolves.modUpd {f} (h : Evolves s₀ s) : Evolves s₀ (s.modUpd f) := .frame h rfl

theorem Evolves.modLog {f} (h : Evolves s₀ s) : Evolves s₀ (s.modLog f) := .frame h rfl

theorem Evolves.modLad {f} (h : Evolves s₀ s) : Evolves s₀ (s.modLad f) := .frame h rfl

theorem Evolves.modPins {f} (h : Evolves s₀ s) : Evolves s₀ (s.modPins f) := .frame h rfl

theorem Evolves.modSpin {f} (h : Evolves s₀ s) : Evolves s₀ (s.modSpin f) := .frame h rfl

theorem Evolves.modCls {f} (h : Evolves s₀ s) : Evolves s₀ (s.modCls f) := .frame h rfl

theorem Evolves.unmark {m a n} (h : Evolves s₀ s) : Evolves s₀ (s.unmark m a n) := .frame h rfl

theorem Evolves.validate {k a n} (h : Evolves s₀ s) : Evolves s₀ (s.validate k a n) := .ite h (.frame h rfl)

theorem Evolves.loseResv {m a n} (h : Evolves s₀ s) : Evolves s₀ (s.loseResv m a n) := .frame h rfl

theorem Evolves.csWrite {n a bs} (h : Evolves s₀ s) : Evolves s₀ (s.csWrite n a bs) :=
  .ite h (.setCsram h.validate.unmark.loseResv fun _ hm => Memory.writeN_wf hm)

theorem Evolves.hsWrite {a bs} (h : Evolves s₀ s) : Evolves s₀ (s.hsWrite a bs) := by
  have h1 : Evolves s₀ (((s.validate 0 a bs.length).unmark 2 a bs.length).loseResv 2 a bs.length) :=
      h.validate.unmark.loseResv
  exact h1.setHsram fun w => Memory.writeN_wf (h1.wf w).hsram

/-! ### Machine/Flags.lean -/

theorem Evolves.setPend {c e} (h : Evolves s₀ s) : Evolves s₀ (s.setPend c e) := .frame h rfl

theorem Evolves.unrouted {e} (h : Evolves s₀ s) : Evolves s₀ (s.unrouted e) := .ite h.put.setNum.put h.put.setNum

theorem Evolves.raise {e} (h : Evolves s₀ s) : Evolves s₀ (s.raise e) :=
  .ite h (.ite (.ite h.setPend (.frame h rfl)) h.unrouted)

theorem Evolves.countSev {sev} (h : Evolves s₀ s) : Evolves s₀ (s.countSev sev) := h.setNum

theorem Evolves.noteClass {r} (h : Evolves s₀ s) : Evolves s₀ (s.noteClass r) := .ite h (.frame h rfl)

theorem Evolves.offer {r} (h : Evolves s₀ s) : Evolves s₀ (s.offer r).1 :=
  have h2 := h.setNum.setNum.countSev.noteClass
  .ite_fst (.frame h2 rfl) h2

theorem Evolves.countDrop (h : Evolves s₀ s) : Evolves s₀ s.countDrop := .ite h.put.setNum.put h.put.setNum

theorem Evolves.latchFirst {first valid old new bit} (h : Evolves s₀ s) :
    Evolves s₀ (s.latchFirst first valid old new bit) :=
  .ite h.wr (.ite h.wr h)

theorem Evolves.noteDrop (h : Evolves s₀ s) : Evolves s₀ s.noteDrop :=
  .ite h.countDrop (.ite h.countDrop.latchFirst.raise.offer.countDrop h.countDrop.latchFirst.raise.offer)

theorem Evolves.log {r} (h : Evolves s₀ s) : Evolves s₀ (s.log r) := .ite h.offer.noteDrop h.offer

theorem Evolves.faultBit {fr bit sev cls inst detail} (h : Evolves s₀ s) :
    Evolves s₀ (s.faultBit fr bit sev cls inst detail) := by
  unfold State.faultBit
  extract_lets _ _ s1 s2 s3
  have h1 : Evolves s₀ s1 := h.wr
  have h2 : Evolves s₀ s2 := by
    unfold s2
    split
    · exact h1.latchFirst
    · exact h1
  have h3 : Evolves s₀ s3 := h2.log
  refine .ite h ?_
  split
  · exact h3.raise
  · exact h3

theorem Evolves.noteBit {fr bit} (h : Evolves s₀ s) : Evolves s₀ (s.noteBit fr bit) := h.faultBit

theorem Evolves.countSat {cnt sat bit k} (h : Evolves s₀ s) : Evolves s₀ (s.countSat cnt sat bit k) :=
  .ite h.setNum.wr h.setNum

theorem Evolves.countSatFault {cnt fr bit k} (h : Evolves s₀ s) : Evolves s₀ (s.countSatFault cnt fr bit k) :=
  .ite h.setNum.noteBit h.setNum

theorem Evolves.clearBits {a ones} (h : Evolves s₀ s) : Evolves s₀ (s.clearBits a ones) := by
  unfold State.clearBits
  extract_lets _ _ s1 s2 s3
  have h1 : Evolves s₀ s1 := h.wr
  have h2 : Evolves s₀ s2 := .foldl h1 (fun _ h _ => .ite h.setNum h)
  have h3 : Evolves s₀ s3 := .ite h2.wr h2
  split
  · exact .ite h3.wr h3
  · exact h3

theorem Evolves.partFirst {fatal die unit bit offset} (h : Evolves s₀ s) :
    Evolves s₀ (s.partFirst fatal die unit bit offset) :=
  .ite h h.setNum

theorem Evolves.fatalCause {c} (h : Evolves s₀ s) : Evolves s₀ (s.fatalCause c) := .frame h rfl

theorem Evolves.setActState {n v} (h : Evolves s₀ s) : Evolves s₀ (s.setActState n v) := h.wr

/-! ### Machine/Gates.lean -/

theorem Evolves.count48 {lo hi k} (h : Evolves s₀ s) : Evolves s₀ (s.count48 lo hi k) := h.add64

theorem Evolves.takeWrite {n} (h : Evolves s₀ s) : Evolves s₀ (s.takeWrite n).2 := h.setNum

theorem Evolves.writeDone {n o status} (h : Evolves s₀ s) : Evolves s₀ (s.writeDone n o status) := by
  unfold State.writeDone
  extract_lets _ _ _ _ s1 s2 s3 s4
  have h1 : Evolves s₀ s1 := h.csWrite
  have h2 : Evolves s₀ s2 := h1.setNum
  have h3 : Evolves s₀ s3 := .ite h2.count48 (.ite h2.count48 (.ite h2.count48 h2))
  have h4 : Evolves s₀ s4 := .ite h3.count48 h3
  exact h4.raise

theorem Evolves.endWrite {n status} (h : Evolves s₀ s) : Evolves s₀ (s.endWrite n status) := by
  unfold State.endWrite
  split
  · exact h
  · exact h.writeDone.modWru

theorem Evolves.takeRead {n} (h : Evolves s₀ s) : Evolves s₀ (s.takeRead n).2 := h.setNum

theorem Evolves.readDone {n r status e} (h : Evolves s₀ s) : Evolves s₀ (s.readDone n r status e) := h.csWrite.setNum.raise

theorem Evolves.countSect {n i k} (h : Evolves s₀ s) : Evolves s₀ (s.countSect n i k) := h.count48

theorem Evolves.abandonRead {n} (h : Evolves s₀ s) : Evolves s₀ (s.abandonRead n) := by
  unfold State.abandonRead
  split
  · exact h
  · exact h.readDone.countSect.modDet

theorem Evolves.setWdis {n} (h : Evolves s₀ s) : Evolves s₀ (s.setWdis n) := by
  unfold State.setWdis
  split
  · exact h.put
  · exact h

theorem Evolves.servoEnd {n} (h : Evolves s₀ s) : Evolves s₀ (s.servoEnd n) := .ite h.modDemod h

theorem Evolves.modSpan {n f} (h : Evolves s₀ s) : Evolves s₀ (s.modSpan n f) := h.modWru

theorem Evolves.dropGate {n} (h : Evolves s₀ s) : Evolves s₀ (s.dropGate n) := by
  unfold State.dropGate
  extract_lets s1 s2
  have h1 : Evolves s₀ s1 := .ite h.modSpan h
  have h2 : Evolves s₀ s2 := h1.put.put.setNum
  split
  · exact .ite h2.endWrite h2
  · exact h2

theorem Evolves.interlock {n} (h : Evolves s₀ s) : Evolves s₀ (s.interlock n) := .ite h.dropGate h

theorem Evolves.closeGates {n} (h : Evolves s₀ s) : Evolves s₀ (s.closeGates n) :=
  h.put.put.setNum.endWrite.abandonRead.modDet

theorem Evolves.nextWindow {n} (h : Evolves s₀ s) : Evolves s₀ (s.nextWindow n) := h.modWru.modLmu

theorem Evolves.passRead {n pos} (h : Evolves s₀ s) : Evolves s₀ (s.passRead n pos) := by
  unfold State.passRead
  extract_lets
  split
  · exact .ite h.modDet h
  · exact h

theorem Evolves.closeAtServo {n} (h : Evolves s₀ s) : Evolves s₀ (s.closeAtServo n) := by
  unfold State.closeAtServo
  extract_lets _ s1 s2 s3
  have h1 : Evolves s₀ s1 := .ite h.modSpan h
  have h2 : Evolves s₀ s2 := h1.put.dropGate.modAsu
  have h3 : Evolves s₀ s3 := h2.passRead
  exact .ite h3.abandonRead.modDet h3

theorem Evolves.assistOut {n code} (h : Evolves s₀ s) : Evolves s₀ (s.assistOut n code) := h.setNum.put

theorem Evolves.rcvFoul {n} (h : Evolves s₀ s) : Evolves s₀ (s.rcvFoul n) := .ite h.modDet h

/-! ### Machine/Memory.lean -/

theorem Evolves.memCe {m a} (h : Evolves s₀ s) : Evolves s₀ (s.memCe m a) := h.set64.noteBit.countSatFault

theorem Evolves.memUe {m a} (h : Evolves s₀ s) : Evolves s₀ (s.memUe m a) := h.set64.faultBit.countSatFault

theorem Evolves.memPoison {m} (h : Evolves s₀ s) : Evolves s₀ (s.memPoison m) := h.noteBit

theorem Evolves.setMark {m a k} (h : Evolves s₀ s) : Evolves s₀ (s.setMark m a k) := .frame h rfl

theorem State.Wf.array (h : s.Wf) (m : Nat) : Memory.wf 0 (s.array m) = true := by
  unfold State.array
  split
  · exact h.dram
  · split
    · exact h.hsram
    · exact h.csram _

theorem Evolves.setArray {m x} (h : Evolves s₀ s) (hx : s₀.Wf → Memory.wf 0 x = true) : Evolves s₀ (s.setArray m x) := by
  unfold State.setArray
  refine .ite (h.setDram hx) (.ite (h.setHsram hx) ⟨h.pending, fun w => ?_, h.otp⟩)
  exact { h.wf w with csram := atD_modAt_wf (h.wf w).csram fun _ _ => hx w }

theorem Evolves.eccWord {p : (Memory × Bool) × State} {m e} (h : Evolves s₀ p.2) : Evolves s₀ (State.eccWord m p e).2 := by
  unfold State.eccWord
  extract_lets _ s1
  split
  · exact h
  · exact h.memCe
  · exact h.memUe
  · exact h.memPoison

theorem Evolves.eccRead {m a n} (h : Evolves s₀ s) : Evolves s₀ (s.eccRead m a n).2 := by
  unfold State.eccRead
  split
  · exact h
  · exact .foldl_snd h (fun _ h _ => h.eccWord)

theorem Evolves.eccStore {m a bs} (h : Evolves s₀ s) : Evolves s₀ (s.eccStore m a bs).2 := by
  have hw : s₀.Wf → Memory.wf 0 ((s.array m).writeN 0 a bs) = true := fun w => Memory.writeN_wf ((h.wf w).array m)
  unfold State.eccStore
  extract_lets _ s1
  have h1 : Evolves s₀ s1 := h.memCe.setMark
  split
  · exact h.setArray hw
  · refine .ite_snd (h.setMark.setArray hw) ?_
    split
    · exact h.setMark.setArray hw
    · exact h1.setArray fun w => Memory.writeN_wf (Memory.writeN_wf ((h1.wf w).array m))
    · exact h.memUe
    · exact h.memPoison

theorem Evolves.eccWrite {m a bs} (h : Evolves s₀ s) : Evolves s₀ (s.eccWrite m a bs).2 :=
  .ite_snd (h.setArray fun w => Memory.writeN_wf ((h.wf w).array m))
    (.foldl_snd h (fun _ h _ => .ite_snd h.eccStore h))

theorem Evolves.invalidateUnits {u n} (h : Evolves s₀ s) : Evolves s₀ (s.invalidateUnits u n) :=
  .unmark ⟨h.pending, fun w => { h.wf w with dram := Memory.wipe_wf (h.wf w).dram }, h.otp⟩

theorem Evolves.dramRead {a n} (h : Evolves s₀ s) : Evolves s₀ (s.dramRead a n).2 := h.eccRead

theorem Evolves.dramWrite {a bs} (h : Evolves s₀ s) : Evolves s₀ (s.dramWrite a bs).2 :=
  .ite h.eccWrite (.frame h.eccWrite rfl)

theorem Evolves.setLine {k l} (h : Evolves s₀ s) : Evolves s₀ (s.setLine k l) := .frame h rfl

theorem Evolves.dropLine {k l} (h : Evolves s₀ s) : Evolves s₀ (s.dropLine k l) := .unmark (.frame h rfl)

theorem Evolves.writeBlock {l b} (h : Evolves s₀ s) : Evolves s₀ (s.writeBlock l b) :=
  .ite h.dramWrite.setMark h.dramWrite.setMark

theorem Evolves.writeBack {l} (h : Evolves s₀ s) : Evolves s₀ (s.writeBack l) := h.writeBlock.writeBlock

theorem Evolves.dropVictim {l} (h : Evolves s₀ s) : Evolves s₀ (s.dropVictim l) := .unmark (.frame h rfl)

theorem Evolves.writeOut {l} (h : Evolves s₀ s) : Evolves s₀ (s.writeOut l) := h.writeBack.dropVictim

theorem Evolves.drainVictim {a} (h : Evolves s₀ s) : Evolves s₀ (s.drainVictim a) := by
  unfold State.drainVictim
  split
  · exact .ite h h.writeOut
  · exact h

theorem Evolves.toVictim {l} (h : Evolves s₀ s) : Evolves s₀ (s.toVictim l) := by
  unfold State.toVictim
  extract_lets s1
  have h1 : Evolves s₀ s1 := by
    refine .ite ?_ h
    split
    · exact h.writeOut
    · exact h
  exact .frame h1 rfl

theorem Evolves.scVictim {set ways} (h : Evolves s₀ s) : Evolves s₀ (s.scVictim set ways).2 := by
  unfold State.scVictim
  extract_lets _ _ s1
  have h1 : Evolves s₀ s1 := by
    refine .foldl h (fun s1 h1 _ => ?_)
    split
    · exact h1.setLine
    · exact h1
  split
  · exact h
  · exact h1

theorem Evolves.scFill {c a data dirty} (h : Evolves s₀ s) : Evolves s₀ (s.scFill c a data dirty) := by
  unfold State.scFill
  split
  next x _ s1 e =>
    have h1 : Evolves s₀ s1 := .of_snd e h.scVictim
    extract_lets _ s2
    have h2 : Evolves s₀ s2 := by
      unfold s2
      split
      · exact .ite h1.toVictim h1.dropLine
      · exact h1
    exact h2.setLine

theorem Evolves.lineRead {k l a n} (h : Evolves s₀ s) : Evolves s₀ (s.lineRead k l a n).2 := by
  unfold State.lineRead
  split
  · exact h
  · extract_lets _ r
    have hr : Evolves s₀ r.2 := by
      refine .foldl_snd h (fun s1 h1 _ => ?_)
      split
      · extract_lets
        split
        · exact h1.memCe
        · exact h1
        · exact h1.memUe
      · extract_lets
        split
        · exact h1.memCe
        · exact h1
        · exact h1.memCe
    exact .ite_snd hr (.ite_snd hr hr.dropLine)

theorem Evolves.fetchLine {a} (h : Evolves s₀ s) : Evolves s₀ (s.fetchLine a).2 := h.dramRead

theorem Evolves.scReadMiss {c a n} (h : Evolves s₀ s) : Evolves s₀ (s.scReadMiss c a n).2 := by
  unfold State.scReadMiss
  refine .ite_snd h.dramRead ?_
  split
  next x _ s1 e =>
    have h1 : Evolves s₀ s1 := .of_snd e h.fetchLine
    exact h1.scFill
  next e => exact .of_snd e h.fetchLine

theorem Evolves.scRead {c a n} (h : Evolves s₀ s) : Evolves s₀ (s.scRead c a n).2 := by
  unfold State.scRead
  extract_lets s1 s2
  have h1 : Evolves s₀ s1 := h.drainVictim.add64
  have h2 : Evolves s₀ s2 := h1.add64
  split
  · split
    · split
      next e => exact .of_snd e h2.lineRead
      next e => exact .of_snd e h2.lineRead
    · exact h2.scReadMiss
  · extract_lets s3
    have h3 : Evolves s₀ s3 := h1.setLine
    split
    next e => exact .of_snd e h3.lineRead
    next x s4 e =>
      have h4 : Evolves s₀ s4 := .of_snd e h3.lineRead
      exact h4.scReadMiss
    next e => exact .of_snd e h3.lineRead

theorem Evolves.scUpdate {k l a bs} (h : Evolves s₀ s) : Evolves s₀ (s.scUpdate k l a bs).2 :=
  .ite_snd h.unmark.setLine (.ite_snd h.unmark.writeBack.setLine h.unmark.dramWrite.setLine)

theorem Evolves.fetchAround {a bs} (h : Evolves s₀ s) : Evolves s₀ (s.fetchAround a bs).2 := by
  unfold State.fetchAround
  refine .foldl_snd h (fun s1 h1 _ => ?_)
  split
  · exact h1
  · refine .ite_snd h1 ?_
    split
    next e => exact .of_snd e h1.dramRead
    next e => exact .of_snd e h1.dramRead

theorem Evolves.scWriteMiss {c a bs} (h : Evolves s₀ s) : Evolves s₀ (s.scWriteMiss c a bs).2 := by
  unfold State.scWriteMiss
  refine .ite_snd h.dramWrite ?_
  split
  next x s1 e =>
    have h1 : Evolves s₀ s1 := .of_snd e h.fetchAround
    exact .ite_snd h1.dramWrite h1
  next x _ s1 e =>
    have h1 : Evolves s₀ s1 := .of_snd e h.fetchAround
    extract_lets _ r
    have hr : Evolves s₀ r.2 := h1.dramWrite
    exact .ite_snd h1.scFill (.ite_snd hr.scFill hr)

theorem Evolves.scWrite {c a bs} (h : Evolves s₀ s) : Evolves s₀ (s.scWrite c a bs).2 := by
  unfold State.scWrite
  extract_lets s1 s2
  have h1 : Evolves s₀ s1 := h.drainVictim.add64
  have h2 : Evolves s₀ s2 := h1.add64
  split
  · refine .scWriteMiss ?_
    split
    · exact h2.writeOut
    · exact h2
  · refine .ite_snd h1.scUpdate ?_
    split
    next x _ s3 e =>
      have h3 : Evolves s₀ s3 := .of_snd e h1.lineRead
      exact h3.scUpdate
    next x s3 e =>
      have h3 : Evolves s₀ s3 := .of_snd e h1.lineRead
      exact h3.scWriteMiss
    next e => exact .of_snd e h1.lineRead

theorem Evolves.hsramRead {o n} (h : Evolves s₀ s) : Evolves s₀ (s.hsramRead o n).2 := .ite_snd h.eccRead h

theorem Evolves.sramWrite {m o bs} (h : Evolves s₀ s) : Evolves s₀ (s.sramWrite m o bs).2 :=
  .loseResv (.ite h.eccWrite.validate h.eccWrite)

theorem Evolves.hsramWrite {o bs} (h : Evolves s₀ s) : Evolves s₀ (s.hsramWrite o bs).2 := .ite_snd h.sramWrite h

theorem Evolves.physRead {c a n} (h : Evolves s₀ s) : Evolves s₀ (s.physRead c a n).2 := by
  unfold State.physRead
  refine .ite_snd h.hsramRead (.ite_snd (.foldl_snd h (fun s1 h1 _ => ?_)) h)
  split
  · exact h1
  · split
    next e => exact .of_snd e h1.scRead
    next e => exact .of_snd e h1.scRead

theorem Evolves.physWrite {c a bs} (h : Evolves s₀ s) : Evolves s₀ (s.physWrite c a bs).2 :=
  .ite_snd h.hsramWrite (.ite_snd (.foldl_snd h.loseResv (fun _ h _ => .ite_snd h.scWrite h)) h)

theorem Evolves.csramRead {n o k} (h : Evolves s₀ s) : Evolves s₀ (s.csramRead n o k).2 := .ite_snd h.eccRead h

theorem Evolves.csramWrite {n o bs} (h : Evolves s₀ s) : Evolves s₀ (s.csramWrite n o bs).2 := .ite_snd h.sramWrite h

theorem Evolves.discardUnits {u n} (h : Evolves s₀ s) : Evolves s₀ (s.discardUnits u n) :=
  .invalidateUnits (.foldl (.foldl h (fun _ h _ => h.dropVictim)) (fun _ h _ => h.dropLine))

/-! ### Machine/Folio.lean -/

theorem Evolves.folMember {d i k} (h : Evolves s₀ s) : Evolves s₀ (s.folMember d i k).2 := by
  unfold State.folMember
  split
  next e => exact .of_snd e h.physRead
  next x _ s1 e =>
    have h1 : Evolves s₀ s1 := .of_snd e h.physRead
    split
    next e1 => exact .of_snd e1 h1.physRead
    next e1 => exact .of_snd e1 h1.physRead

theorem Evolves.folXor {d is} (h : Evolves s₀ s) : Evolves s₀ (s.folXor d is).2 := by
  unfold State.folXor
  refine .foldl_snd h (fun s1 h1 _ => ?_)
  split
  · exact h1
  · split
    next e => exact .of_snd e h1.folMember
    next e => exact .of_snd e h1.folMember

theorem Evolves.folCount {i} (h : Evolves s₀ s) : Evolves s₀ (s.folCount i) := h.count48

theorem Evolves.folDone {d status member} (h : Evolves s₀ s) : Evolves s₀ (s.folDone d status member) :=
  .raise (.setNum (.ite h.hsWrite.noteBit (.ite h.hsWrite.noteBit (.ite h.hsWrite.noteBit h.hsWrite))))

theorem Evolves.folNext (h : Evolves s₀ s) : Evolves s₀ (s.folNext).2 := .ite_snd h.setNum h

theorem Evolves.folRow {op work} (h : Evolves s₀ s) (hwork : ∀ x0 s, Evolves s₀ s → Evolves s₀ (work x0 s)) :
    Evolves s₀ (folRow op work s) := by
  unfold Machine.folRow
  split
  next x s1 e =>
    have h1 : Evolves s₀ s1 := .of_snd e h.folNext
    exact h
  next x _ s1 e =>
    have h1 : Evolves s₀ s1 := .of_snd e h.folNext
    exact .ite h1.folDone (.ite (hwork _ _ h1) h)

theorem Evolves.folEncodeMember {p : Except ℕ (List Byte × List Byte) × State} {d i} (h : Evolves s₀ p.2) :
    Evolves s₀ (folEncodeMember d p i).2 := by
  unfold Machine.folEncodeMember
  split
  · exact h
  · split
    next e => exact .of_snd e h.folMember
    next x _ _ s1 e =>
      have h1 : Evolves s₀ s1 := .of_snd e h.folMember
      extract_lets
      split
      next e1 => exact .of_snd e1 h1.physWrite
      next e1 => exact .of_snd e1 h1.physWrite

theorem Evolves.folEncode {d} (h : Evolves s₀ s) : Evolves s₀ (folEncode d s) := by
  unfold Machine.folEncode
  split
  next x _ s1 e =>
    have h1 : Evolves s₀ s1 := .of_snd e (.foldl_snd h (fun _ h _ => h.folEncodeMember))
    exact h1.folDone
  next x _ _ s1 e =>
    have h1 : Evolves s₀ s1 := .of_snd e (.foldl_snd h (fun _ h _ => h.folEncodeMember))
    extract_lets w w'
    have hw : Evolves s₀ w.2 := h1.physWrite
    have hw' : Evolves s₀ w'.2 := hw.physWrite
    exact .ite hw'.folCount.folDone hw'.folDone

theorem Evolves.folRebuild {d} (h : Evolves s₀ s) : Evolves s₀ (folRebuild d s) := by
  unfold Machine.folRebuild
  extract_lets
  split
  next _ x _ s1 e =>
    have h1 : Evolves s₀ s1 := .of_snd e h.folXor
    exact h1.folDone
  next _ x _ _ s1 e =>
    have h1 : Evolves s₀ s1 := .of_snd e h.folXor
    extract_lets w w'
    have hw : Evolves s₀ w.2 := h1.physWrite
    have hw' : Evolves s₀ w'.2 := hw.physWrite
    exact .ite hw'.folDone (.ite hw'.folCount.folDone hw'.folCount.folDone)

theorem Evolves.folPrior {d} (h : Evolves s₀ s) : Evolves s₀ (folPrior d s) := by
  unfold Machine.folPrior
  split
  next x _ s1 e =>
    have h1 : Evolves s₀ s1 := .of_snd e h.folXor
    exact h1.folDone
  next x _ _ s1 e =>
    have h1 : Evolves s₀ s1 := .of_snd e h.folXor
    split
    next x1 s2 e1 =>
      have h2 : Evolves s₀ s2 := .of_snd e1 h1.physRead
      exact h2.folDone
    next x1 _ s2 e1 =>
      have h2 : Evolves s₀ s2 := .of_snd e1 h1.physRead
      split
      next x2 s3 e2 =>
        have h3 : Evolves s₀ s3 := .of_snd e2 h2.physWrite
        exact h3.folDone
      next x2 s3 e2 =>
        have h3 : Evolves s₀ s3 := .of_snd e2 h2.physWrite
        exact h3.folCount.folDone

/-! ### Machine/Catalogue.lean -/

theorem Evolves.catWrite {a bs} (h : Evolves s₀ s) : Evolves s₀ (s.catWrite a bs) := h.physWrite

theorem Evolves.chain {n n1} (h : Evolves s₀ s) : Evolves s₀ (s.chain n n1).2 := by
  induction n generalizing n1 s with
  | zero =>
    unfold State.chain
    exact h
  | succ k ih =>
    unfold State.chain
    refine .ite_snd h ?_
    split
    next e => exact .of_snd e h.physRead
    next x _ s1 e =>
      have h1 : Evolves s₀ s1 := .of_snd e h.physRead
      split
      next e1 => exact .of_snd e1 (ih h1)
      next e1 => exact .of_snd e1 (ih h1)

theorem Evolves.journal {req seq} (h : Evolves s₀ s) : Evolves s₀ (s.journal req seq) := h.catWrite.setNum

theorem Evolves.setFree {l} (h : Evolves s₀ s) : Evolves s₀ (s.setFree l) := .frame h.setNum rfl

theorem Evolves.bandInfo {ze c} (h : Evolves s₀ s) : Evolves s₀ (s.bandInfo ze c).2 := by
  unfold State.bandInfo
  refine .ite_snd h ?_
  split
  next e => exact .of_snd e h.physRead
  next x _ s1 e =>
    have h1 : Evolves s₀ s1 := .of_snd e h.physRead
    refine .ite_snd h1 ?_
    split
    next e1 => exact .of_snd e1 h1.physRead
    next e1 => exact .of_snd e1 h1.physRead

theorem Evolves.zoneInfo {z} (h : Evolves s₀ s) : Evolves s₀ (s.zoneInfo z).2 := by
  unfold State.zoneInfo
  split
  next e => exact .of_snd e h.physRead
  next x _ s1 e =>
    have h1 : Evolves s₀ s1 := .of_snd e h.physRead
    split
    next e1 => exact .of_snd e1 h1.chain
    next x1 _ s2 e1 =>
      have h2 : Evolves s₀ s2 := .of_snd e1 h1.chain
      exact h2.bandInfo

theorem Evolves.lookupZones {lo hi cap n n1 x} (h : Evolves s₀ s) : Evolves s₀ (lookupZones lo hi cap n n1 x s).2 := by
  induction n generalizing lo hi cap n1 x s with
  | zero =>
    unfold Machine.lookupZones
    exact h
  | succ k ih =>
    unfold Machine.lookupZones
    split
    next e => exact .of_snd e h.zoneInfo
    next x1 _ s1 e =>
      have h1 : Evolves s₀ s1 := .of_snd e h.zoneInfo
      exact ih h1

theorem Evolves.unchain {z ze before e} (h : Evolves s₀ s) : Evolves s₀ (s.unchain z ze before e) := by
  unfold State.unchain
  split
  · exact h.catWrite
  · exact h.catWrite.catWrite

theorem Evolves.bandNeeds {e} (h : Evolves s₀ s) : Evolves s₀ (s.bandNeeds e).2 := by
  unfold State.bandNeeds
  refine .ite_snd ?_ h
  split
  next e1 => exact .of_snd e1 h.physRead
  next e1 => exact .of_snd e1 h.physRead

theorem Evolves.zoneClear {z} (h : Evolves s₀ s) : Evolves s₀ (s.zoneClear z) := by
  unfold State.zoneClear
  split
  next e => exact .of_snd e h.physRead
  next x _ s1 e =>
    have h1 : Evolves s₀ s1 := .of_snd e h.physRead
    extract_lets s2
    have h2 : Evolves s₀ s2 := by
      unfold s2
      split
      next x1 _ s3 e1 =>
        have h3 : Evolves s₀ s3 := .of_snd e1 h1.chain
        exact h3.setFree
      next e1 => exact .of_snd e1 h1.chain
    exact h2.catWrite

theorem Evolves.slotStat {k} (h : Evolves s₀ s) : Evolves s₀ (s.slotStat k) := h.put.put

theorem Evolves.slotWrite {k b} (h : Evolves s₀ s) : Evolves s₀ (s.slotWrite k b) := h.nvsWrite.nvsWrite.slotStat

theorem Evolves.setBand {b st zone} (h : Evolves s₀ s) : Evolves s₀ (s.setBand b st zone) := by
  unfold State.setBand
  split
  next x _ s1 e =>
    have h1 : Evolves s₀ s1 := .of_snd e h.physRead
    exact h1.catWrite
  next e => exact .of_snd e h.physRead

theorem Evolves.dropOld {z snap ze c} (h : Evolves s₀ s) : Evolves s₀ (s.dropOld z snap ze c) :=
  .setFree (.catWrite (.foldl h (fun _ h _ => h.catWrite)))

theorem Evolves.switchSteps {b req} (h : Evolves s₀ s) : Evolves s₀ (s.switchSteps b req).2 := by
  unfold State.switchSteps
  extract_lets
  split
  next e => exact .of_snd e h.physRead
  next _ x _ s1 e =>
    have h1 : Evolves s₀ s1 := .of_snd e h.physRead
    split
    next e1 => exact .of_snd e1 h1.chain
    next x1 _ s2 e1 =>
      have h2 : Evolves s₀ s2 := .of_snd e1 h1.chain
      exact h2.dropOld.setBand.setBand.journal

theorem Evolves.setRb {z v} (h : Evolves s₀ s) : Evolves s₀ (s.setRb z v) := by
  unfold State.setRb
  split
  next x _ s1 e =>
    have h1 : Evolves s₀ s1 := .of_snd e h.physRead
    exact h1.catWrite
  next e => exact .of_snd e h.physRead

theorem Evolves.slotDiscard {b} (h : Evolves s₀ s) : Evolves s₀ (s.slotDiscard b) := h.setRb.setBand

theorem Evolves.catComplete {r a} (h : Evolves s₀ s) : Evolves s₀ (s.catComplete r a) :=
  .raise (.setNum (.ite h.hsWrite.noteBit (.ite h.hsWrite.noteBit (.ite h.hsWrite.noteBit (.ite h.hsWrite.noteBit
      h.hsWrite)))))

theorem Evolves.catEnd {status} (h : Evolves s₀ s) : Evolves s₀ (catEnd status s).2 := h

theorem Evolves.catWith {r k} (h : Evolves s₀ r.2) (hk : ∀ b s, Evolves s₀ s → Evolves s₀ (k b s).2) :
    Evolves s₀ (catWith r k).2 := by
  unfold Machine.catWith
  split
  · exact hk _ _ h
  · exact h.catEnd

theorem Evolves.withChain {ze k} (h : Evolves s₀ s) (hk : ∀ c s, Evolves s₀ s → Evolves s₀ (k c s).2) :
    Evolves s₀ (withChain ze s k).2 := by
  unfold Machine.withChain
  split
  · next e => exact hk _ _ (.of_snd e h.chain)
  · next e => exact .catEnd (.of_snd e h.chain)

theorem Evolves.putRuns {r runs stop} (h : Evolves s₀ s) : Evolves s₀ (putRuns r runs stop s).2 := by
  unfold Machine.putRuns
  split
  · next e => exact .catEnd (.of_snd e h.physWrite)
  · next e =>
    have h1 := Evolves.of_snd e h.physWrite
    split
    · exact h1
    · exact h1

theorem Evolves.folioLookup {r cap} (h : Evolves s₀ s) : Evolves s₀ (folioLookup r cap s).2 := by
  unfold Machine.folioLookup
  split
  · next e => exact .catEnd (.of_snd e h.zoneInfo)
  · next e =>
    have h1 := Evolves.of_snd e h.zoneInfo
    refine .ite_snd h1.catEnd ?_
    extract_lets
    split
    next e =>
      have h2 := Evolves.of_snd e h1.draw
      exact .ite_snd h2.putRuns h2.putRuns

theorem Evolves.doLookup {r} (h : Evolves s₀ s) : Evolves s₀ (doLookup r s).2 := by
  unfold Machine.doLookup
  extract_lets
  refine .ite_snd (.ite_snd h.catEnd h.folioLookup) (.ite_snd h.catEnd ?_)
  split
  · next e => exact .catEnd (.of_snd e h.lookupZones)
  · next e => exact .putRuns (.of_snd e h.lookupZones)

theorem Evolves.addMark {r e} (h : Evolves s₀ s) : Evolves s₀ (addMark r e s).2 := by
  unfold Machine.addMark
  refine .ite_snd h.catEnd (.catWith h.physRead fun ze s h => .ite_snd h.catEnd (.ite_snd h.catEnd ?_))
  split
  · exact h.catEnd
  · exact .ite_snd h.catEnd (.pair h.add64.catWrite.setFree.catWrite.journal)

theorem Evolves.doSmAdd {r} (h : Evolves s₀ s) : Evolves s₀ (doSmAdd r s).2 := .catWith h.physRead fun _ _ h => h.addMark

theorem Evolves.doSmDrop {r} (h : Evolves s₀ s) : Evolves s₀ (doSmDrop r s).2 := by
  unfold Machine.doSmDrop
  refine .ite_snd h.catEnd (.catWith h.physRead fun ze s h => .withChain h fun c s h => ?_)
  split
  · exact h.catEnd
  · exact .ite_snd h.catEnd (.catEnd h.unchain.setFree.journal)

theorem Evolves.putZone {r e} (h : Evolves s₀ s) : Evolves s₀ (putZone r e s).2 :=
  .catWith h.physRead fun _ _ h => .ite_snd h.catEnd (.catEnd h.catWrite.journal)

theorem Evolves.doZoneSet {r} (h : Evolves s₀ s) : Evolves s₀ (doZoneSet r s).2 :=
  .ite_snd h.catEnd (.catWith h.physRead fun _ _ h => h.putZone)

theorem Evolves.putBand {r e} (h : Evolves s₀ s) : Evolves s₀ (putBand r e s).2 := by
  unfold Machine.putBand
  split
  · next e => exact .catEnd (.of_snd e h.bandNeeds)
  · next e =>
    have h1 := Evolves.of_snd e h.bandNeeds
    exact .ite_snd h1.catEnd (.ite_snd h1.catEnd (.catEnd h1.catWrite.journal))

theorem Evolves.doBandSet {r} (h : Evolves s₀ s) : Evolves s₀ (doBandSet r s).2 :=
  .ite_snd h.catEnd (.catWith h.physRead fun _ _ h => h.putBand)

theorem Evolves.switchSteps_fst {b req} (h : Evolves s₀ s) : EvolvesOpt s₀ (s.switchSteps b req).1 := by
  unfold State.switchSteps
  extract_lets
  split
  · exact .none
  next e =>
    have h1 := Evolves.of_snd e h.physRead
    split
    · exact .none
    next e =>
      have h2 := Evolves.of_snd e h1.chain
      exact .some h2.dropOld.setBand.setBand.journal

theorem Evolves.doSwitch {r} (h : Evolves s₀ s) : Evolves s₀ (doSwitch r s).2 := by
  unfold Machine.doSwitch
  refine .ite_snd h.catEnd (.ite_snd h.catEnd (.catWith h.physRead fun ze s h => ?_))
  refine .ite_snd h.catEnd (.ite_snd h.catEnd ?_)
  dsimp only
  split
  · next e => exact .pair (h.add64.slotWrite.switchSteps_fst _ (congrArg Prod.fst e))
  · next e => exact .catEnd (.of_snd e h.add64.slotWrite.switchSteps)

theorem Evolves.doRbSet {r} (h : Evolves s₀ s) : Evolves s₀ (doRbSet r s).2 := by
  unfold Machine.doRbSet
  refine .ite_snd h.catEnd (.catWith h.physRead fun img s h => ?_)
  extract_lets b
  have hcopy (ze : List Byte) (s : State) (h : Evolves s₀ s) : Evolves s₀ (if
      (slState b = 2 ∧ slProgress img ≤ slProgress b) ∨ progressOk b ze (slProgress img) = false then Machine.catEnd
          catBadReq s
      else Machine.catEnd catDone (s.slotWrite (rqArg r) (overlay (overlay b 28 (slice img 28 4)) 0 (toLe 4 2)))).2 :=
    .ite_snd h.catEnd (.catEnd h.slotWrite)
  split
  · exact .ite_snd h.catEnd (.catWith h.physRead fun _ _ h =>
      .ite_snd h.catEnd (.ite_snd h.catEnd (.catEnd h.slotWrite.catWrite.journal)))
  · exact .catWith h.physRead hcopy
  · exact .catWith h.physRead hcopy
  · exact .catEnd h.slotWrite
  · exact .ite_snd h.catEnd (.catEnd h.slotWrite.slotDiscard.journal)
  · exact .ite_snd h.catEnd (.catEnd h.slotWrite.slotDiscard.journal)
  · exact h.catEnd

theorem Evolves.catNext (h : Evolves s₀ s) : EvolvesSnd s₀ s.catNext := .ite (.some h.setNum) .none

theorem Evolves.catRow {op work} (h : Evolves s₀ s) (hw : ∀ r s, Evolves s₀ s → Evolves s₀ (work r s).2) :
    Evolves s₀ (catRow op work s) := by
  unfold Machine.catRow
  split
  · exact h
  · next e =>
    have h1 := h.catNext.eq e
    exact .ite (hw _ _ h1).catComplete (.ite h1.catComplete h)

theorem Evolves.usedMarks {n l} (h : Evolves s₀ s) : Evolves s₀ (s.usedMarks n l).2 := by
  induction n generalizing s l with
  | zero =>
    unfold State.usedMarks
    exact h
  | succ k ih =>
    unfold State.usedMarks
    split
    next x s1 e =>
      have h1 : Evolves s₀ s1 := .of_snd e h.physRead
      exact ih h1
    next x _ s1 e =>
      have h1 : Evolves s₀ s1 := .of_snd e h.physRead
      split
      next x1 s2 e1 =>
        have h2 : Evolves s₀ s2 := .of_snd e1 h1.chain
        exact ih h2
      next x1 _ s2 e1 =>
        have h2 : Evolves s₀ s2 := .of_snd e1 h1.chain
        exact ih h2

theorem Evolves.catEnable (h : Evolves s₀ s) : Evolves s₀ (catEnable s) := by
  refine .ite h (.foldl (.setFree (.usedMarks h.put)) fun s1 h1 _ => ?_)
  refine .ite ?_ h1.slotStat
  split
  · next e => exact h1.slotStat.switchSteps_fst _ (congrArg Prod.fst e)
  · next e => exact .noteBit (.of_snd e h1.slotStat.switchSteps)

/-! ### Machine/LoopLaw.lean -/

theorem Evolves.setMode {n m} (h : Evolves s₀ s) : Evolves s₀ (s.setMode n m) := h.put.put.put.put

theorem Evolves.setS824 {a q} (h : Evolves s₀ s) : Evolves s₀ (s.setS824 a q) := h.setNum

theorem Evolves.setS230 {a q} (h : Evolves s₀ s) : Evolves s₀ (s.setS230 a q) := h.derivedNum

theorem Evolves.setTarget {n t'} (h : Evolves s₀ s) : Evolves s₀ (s.setTarget n t') := h.put.put.put

theorem Evolves.derived {a q} (h : Evolves s₀ s) : Evolves s₀ (s.derived a q) := .ite h h.setS824

theorem Evolves.deriveGains {n pitch} (h : Evolves s₀ s) : Evolves s₀ (s.deriveGains n pitch) := by
  unfold State.deriveGains
  extract_lets s1 _ _ _ _ _ s2 s3 s4 _ _ s5
  have h1 : Evolves s₀ s1 := h.modLoop
  have h2 : Evolves s₀ s2 := .ite h1 h1.derived.derived
  have h3 : Evolves s₀ s3 := .ite h2 h2.derived
  have h4 : Evolves s₀ s4 := .ite h3 h3.derived
  have h5 : Evolves s₀ s5 := .ite h4 h4.derived
  exact .ite h5 h5.derived

theorem Evolves.setBiquad {a b0 b1 b2 a1 a2} (h : Evolves s₀ s) : Evolves s₀ (s.setBiquad a b0 b1 b2 a1 a2) :=
  h.setS230.setS230.setS230.setS230.setS230

theorem Evolves.setUnity {a} (h : Evolves s₀ s) : Evolves s₀ (s.setUnity a) := h.setBiquad

theorem Evolves.deriveNotch {n i} (h : Evolves s₀ s) : Evolves s₀ (s.deriveNotch n i) := .ite h.setUnity h.setBiquad

theorem Evolves.deriveLoop {n} (h : Evolves s₀ s) : Evolves s₀ (s.deriveLoop n) :=
  .setNum (.derivedNum (.derivedNum (.derivedNum (.setUnity (.foldl (.foldl (.foldl h.modLoop.deriveGains
      (fun _ h _ => h.deriveNotch)) (fun _ h _ => h.setUnity)) (fun _ h _ => h.setUnity))))))

theorem Evolves.planSeek {n target prof} (h : Evolves s₀ s) : Evolves s₀ (s.planSeek n target prof) :=
  .modLoop (.ite h h.setNum)

theorem Evolves.sensorStep {n} (h : Evolves s₀ s) : Evolves s₀ (s.sensorStep n) := h.modLoop

theorem Evolves.holdGains {n pitch} (h : Evolves s₀ s) : Evolves s₀ (s.holdGains n pitch) :=
  .ite h h.setS824.setS824.setS824

/-! ### Machine/Cipher.lean -/

theorem Evolves.keyCmd {k newKey} (h : Evolves s₀ s) : Evolves s₀ (keyCmd k newKey s) := .ite h.put (.frame h.put rfl)

theorem Evolves.setKeyValid {k b} (h : Evolves s₀ s) : Evolves s₀ (s.setKeyValid k b) := h.put

theorem Evolves.setKeys {a b c} (h : Evolves s₀ s) : Evolves s₀ { s with keyStore := a, keys := b, keyJob := c } :=
  .frame h rfl

theorem Evolves.keyDone (h : Evolves s₀ s) : Evolves s₀ (keyDone s) := by
  unfold Machine.keyDone
  split
  · exact h
  · split
    next e =>
      have h1 := Evolves.of_snd e h.draw
      exact .raise (.put (.setKeyValid h1.nvsWrite.setKeys))
  · exact .raise (.put (.setKeyValid h.nvsWrite.setKeys))

theorem Evolves.cipherEnable (h : Evolves s₀ s) : Evolves s₀ (cipherEnable s) := .ite h (.frame h.put rfl)

/-! ### Machine/Views.lean -/

theorem Evolves.startExit (h : Evolves s₀ s) : Evolves s₀ s.startExit :=
  .ite (.ite h.modLad.noteBit h) (.ite h h.put.put.modLad)

theorem Evolves.limitChanged (h : Evolves s₀ s) : Evolves s₀ s.limitChanged := .ite h.startExit h

theorem Evolves.latchWord {b} (h : Evolves s₀ s) : Evolves s₀ { s with latch := store (resetOf b) s.latch b (s.rd b) } :=
  ⟨h.pending, fun w => { h.wf w with latch := store_canonical (h.wf w).latch }, h.otp⟩

/-! ### Machine/Operands.lean -/

theorem Evolves.capture {a} (h : Evolves s₀ s) : Evolves s₀ (s.capture a) := .foldl h fun _ h _ => h.latchWord

theorem Evolves.setRW {a v} (h : Evolves s₀ s) : Evolves s₀ (s.setRW a v) := by
  unfold State.setRW
  split
  · exact h
  · exact h.wr

/-! ### Machine/Stacks.lean -/

theorem Evolves.setBuf {i gen owners} (h : Evolves s₀ s) : Evolves s₀ (s.setBuf i gen owners) := .physWrite (.frame h rfl)

theorem Evolves.countFree {p} (h : Evolves s₀ s) : Evolves s₀ (s.countFree p) := .ite h.put.put h.put

theorem Evolves.stkRead {i} (h : Evolves s₀ s) : Evolves s₀ (s.stkRead i).2 := by
  unfold State.stkRead
  split
  next e => exact .of_snd e h.physRead
  next x s1 e =>
    have h1 : Evolves s₀ s1 := .of_snd e h.physRead
    exact h1.noteBit

theorem Evolves.stkAlloc {p name zero} (h : Evolves s₀ s) : Evolves s₀ (s.stkAlloc p name zero).2 := by
  unfold State.stkAlloc
  extract_lets s1
  have h1 : Evolves s₀ s1 := h.noteBit.countSatFault
  refine .ite_snd h ?_
  split
  · exact h1.raise
  · split
    next e => exact .of_snd e h.stkRead
    next x _ s2 e =>
      have h2 : Evolves s₀ s2 := .of_snd e h.stkRead
      extract_lets _ s3 s4
      have h3 : Evolves s₀ s3 := .countFree (.frame h2 rfl)
      have h4 : Evolves s₀ s4 := .ite h3.discardUnits h3
      exact h4.setBuf

theorem Evolves.stkNamed {x rest} (h : Evolves s₀ s) (hrest : ∀ x0 x1 s, Evolves s₀ s → Evolves s₀ (rest x0 x1 s).2) :
    Evolves s₀ (s.stkNamed x rest).2 := by
  unfold State.stkNamed
  refine .ite_snd h ?_
  split
  · exact h
  · split
    next e => exact .of_snd e h.stkRead
    next x1 _ s1 e =>
      have h1 : Evolves s₀ s1 := .of_snd e h.stkRead
      exact .ite_snd h1 (hrest _ _ _ h1)

theorem Evolves.stkAdd {x name name2} (h : Evolves s₀ s) : Evolves s₀ (s.stkAdd x name name2).2 :=
  .ite_snd h (.stkNamed h (fun _ _ _ h => .ite_snd h (.ite_snd h (.ite_snd h h.setBuf))))

theorem Evolves.stkRelease {x name} (h : Evolves s₀ s) : Evolves s₀ (s.stkRelease x name).2 :=
  .ite_snd h (.stkNamed h (fun _ _ _ h => .ite_snd h (.ite_snd h h.setBuf)))

theorem Evolves.stkFree {x name} (h : Evolves s₀ s) : Evolves s₀ (s.stkFree x name).2 := by
  unfold State.stkFree
  refine .ite_snd h (.stkNamed h (fun _ _ s1 h1 => ?_))
  extract_lets _ s2
  have h2 : Evolves s₀ s2 := h1.setBuf
  refine .ite_snd h1 (.ite_snd h1 ?_)
  split
  · exact .countFree (.frame h2 rfl)
  · exact h2

theorem Evolves.stkQuery {x} (h : Evolves s₀ s) : Evolves s₀ (s.stkQuery x).2 := .stkNamed h (fun _ _ _ h => h)

theorem Evolves.stkDrop {x name} (h : Evolves s₀ s) : Evolves s₀ (s.stkDrop x name) :=
  .ite h.stkRelease.stkFree h.stkRelease

theorem Evolves.stkAnswer {p : StkRes × State} {c} (h : Evolves s₀ p.2) : Evolves s₀ (stkAnswer c p) := h.setNum

theorem Evolves.stkOp {c op pool zero} (h : Evolves s₀ s) : Evolves s₀ (stkOp c op pool zero s) := by
  unfold Machine.stkOp
  refine .stkAnswer ?_
  split
  · exact h.stkAlloc
  · exact h.stkAdd
  · exact h.stkRelease
  · exact h.stkFree
  · exact h.stkQuery
  · exact h

theorem Evolves.poolInit {p} (h : Evolves s₀ s) : Evolves s₀ (poolInit p s) := .put (.frame h.put.setNum rfl)

theorem Evolves.poolInitDone {p} (h : Evolves s₀ s) : Evolves s₀ (poolInitDone p s) :=
  .ite (.put (.put (.put (.frame (.foldl h (fun _ h _ => h.setBuf)) rfl)))) h

theorem Evolves.poolClrLow {p} (h : Evolves s₀ s) : Evolves s₀ (poolClrLow p s) := h.put

theorem Evolves.poolsOff (h : Evolves s₀ s) : Evolves s₀ s.poolsOff := .foldl h (fun _ h _ => h.put)

/-! ### Machine/Tags.lean -/

theorem Evolves.openDnr {st} (h : Evolves s₀ s) : Evolves s₀ (s.openDnr st).2 := by
  unfold State.openDnr
  split
  next e => exact .of_snd e h.draw

theorem Evolves.modHost {f} (h : Evolves s₀ s) : Evolves s₀ (s.modHost f) := .frame h rfl

theorem Evolves.modNs {i f} (h : Evolves s₀ s) : Evolves s₀ (s.modNs i f) := h.modHost

theorem Evolves.modCtrl {c f} (h : Evolves s₀ s) : Evolves s₀ (s.modCtrl c f) := h.modHost

theorem Evolves.setTag {t' x} (h : Evolves s₀ s) : Evolves s₀ (s.setTag t' x) := h.modHost

theorem Evolves.dropTag {t'} (h : Evolves s₀ s) : Evolves s₀ (s.dropTag t') := h.modHost

theorem Evolves.finish {t' x status dw0 dw1} (h : Evolves s₀ s) : Evolves s₀ (s.finish t' x status dw0 dw1) := h.setTag

theorem Evolves.failTag {t' x status} (h : Evolves s₀ s) : Evolves s₀ (s.failTag t' x status) := by
  unfold State.failTag
  split
  next x1 _ s1 e =>
    have h1 : Evolves s₀ s1 := .of_snd e h.openDnr
    exact h1.finish

theorem Evolves.setWrt {i w} (h : Evolves s₀ s) : Evolves s₀ (s.setWrt i w) := h.modHost

theorem Evolves.dropWrt {i} (h : Evolves s₀ s) : Evolves s₀ (s.dropWrt i) := by
  unfold State.dropWrt
  split
  · exact h
  · exact .modHost (.foldl h (fun _ h _ => h.stkDrop))

theorem Evolves.tdPut {bytes} (h : Evolves s₀ s) : Evolves s₀ (s.tdPut bytes) := h.hsWrite.setNum.raise

theorem Evolves.drainNotices {n} (h : Evolves s₀ s) : Evolves s₀ (drainNotices n s) := by
  induction n generalizing s with
  | zero =>
    unfold Machine.drainNotices
    exact h
  | succ k ih =>
    unfold Machine.drainNotices
    split
    · exact h
    · exact .ite (ih h.tdPut.modHost) h

theorem Evolves.drain (h : Evolves s₀ s) : Evolves s₀ s.drain := h.drainNotices

theorem Evolves.notice {t' x aborted} (h : Evolves s₀ s) : Evolves s₀ (s.notice t' x aborted) := h.modHost.drain

theorem Evolves.aen {c dw} (h : Evolves s₀ s) : Evolves s₀ (s.aen c dw) := by
  unfold State.aen
  refine .ite h ?_
  split
  · extract_lets s1
    have h1 : Evolves s₀ s1 := h.modCtrl
    split
    · exact h1.finish
    · exact h1
  · exact h.modCtrl

theorem Evolves.aenAll {dw} (h : Evolves s₀ s) : Evolves s₀ (s.aenAll dw) := .foldl h (fun _ h _ => h.aen)

theorem Evolves.tagCount {cnt bit} (h : Evolves s₀ s) : Evolves s₀ (s.tagCount cnt bit) := h.countSat

theorem Evolves.releaseReads {t' x} (h : Evolves s₀ s) : Evolves s₀ (s.releaseReads t' x) :=
  .foldl h (fun _ h _ => h.stkDrop)

theorem Evolves.endFormat {x} (h : Evolves s₀ s) : Evolves s₀ (s.endFormat x) :=
  .ite (.foldl h (fun _ h _ => .ite h.modNs h)) h

theorem Evolves.dropAer {t' x} (h : Evolves s₀ s) : Evolves s₀ (s.dropAer t' x) := .ite h.modCtrl h

theorem Evolves.freeTag {t' x} (h : Evolves s₀ s) : Evolves s₀ (s.freeTag t' x) :=
  .tagCount (.dropTag (.releaseReads (.foldl h.endFormat.dropAer (fun _ h _ => h.dropWrt))))

theorem Evolves.resetTag {t'} (h : Evolves s₀ s) : Evolves s₀ (s.resetTag t') := by
  unfold State.resetTag
  split
  · exact h
  · split
    · exact h.freeTag
    · exact h.freeTag.notice
    · exact .ite h.setTag h.freeTag.notice
    · exact h.releaseReads.dropTag.tagCount

theorem Evolves.abortTag {t' x status} (h : Evolves s₀ s) : Evolves s₀ (s.abortTag t' x status).2 := by
  unfold State.abortTag
  extract_lets _ s1 s2 s3
  have h1 : Evolves s₀ s1 := .foldl h.endFormat.dropAer (fun _ h _ => h.dropWrt)
  have h2 : Evolves s₀ s2 := h1.releaseReads
  have h3 : Evolves s₀ s3 := h2.finish
  exact .ite_snd (.ite h3 h3.notice) h

theorem Evolves.ownBuffer {t' i x} (h : Evolves s₀ s) : Evolves s₀ (s.ownBuffer t' i x).2 := by
  unfold State.ownBuffer
  extract_lets r a
  have hr : Evolves s₀ r.2 := h.stkAdd
  have ha : Evolves s₀ a.2 := hr.stkAlloc
  refine .ite_snd hr (.ite_snd (.ite_snd ?_ ha) hr)
  split
  next x1 _ s1 e =>
    have h1 : Evolves s₀ s1 := .of_snd e ha.physRead
    exact h1.physWrite
  next e => exact .of_snd e ha.physRead

theorem Evolves.takeHit {p : (Tag × Bool) × State} {t' k} (h : Evolves s₀ p.2) : Evolves s₀ (State.takeHit t' p k).2 := by
  unfold State.takeHit
  extract_lets _ s1
  split
  · exact h
  · refine .ite_snd ?_ h
    extract_lets
    split
    next e => exact .of_snd e h.ownBuffer
    next e => exact .of_snd e h.ownBuffer

theorem Evolves.resolveRead {t' x} (h : Evolves s₀ s) : Evolves s₀ (s.resolveRead t' x).2 := by
  unfold State.resolveRead
  extract_lets r
  have hr : Evolves s₀ r.2 := .foldl_snd h (fun _ h _ => h.takeHit)
  exact .ite_snd h (.ite_snd hr hr.setTag)

theorem Evolves.allocBufs {pool name n l} (h : Evolves s₀ s) : Evolves s₀ (allocBufs pool name n l s).2 := by
  induction n generalizing pool name l s with
  | zero =>
    unfold Machine.allocBufs
    exact h
  | succ k ih =>
    unfold Machine.allocBufs
    exact .ite_snd (ih h.stkAlloc) h.stkAlloc

theorem Evolves.allocWrite {i n got} (h : Evolves s₀ s) : Evolves s₀ (allocWrite i n got s).2 := h.allocBufs

theorem Evolves.readBuffers {t' x} (h : Evolves s₀ s) : Evolves s₀ (s.readBuffers t' x).2 := h.allocBufs

theorem Evolves.admitWrite {t' x} (h : Evolves s₀ s) : Evolves s₀ (s.admitWrite t' x) := by
  unfold State.admitWrite
  split
  · exact h
  · split
    · exact h
    · extract_lets r
      have hr : Evolves s₀ r.2 := h.allocWrite
      exact .ite h.dropWrt.finish (.ite h hr.setWrt.setTag)

theorem Evolves.hwRetry {p} (h : Evolves s₀ s) : Evolves s₀ (hwRetry p s) := by
  unfold Machine.hwRetry
  dsimp only
  split
  · exact h
  · next t' x _ =>
    have hr : Evolves s₀ (s.readBuffers t' x).2 := h.readBuffers
    refine .ite h (.ite h.admitWrite (.ite ?_ ?_))
    · exact hr.setTag
    split
    · next e => exact (Evolves.of_snd e h.resolveRead).setTag
    · next e => exact .of_snd e h.resolveRead

theorem Evolves.writeAdmit {t'} (h : Evolves s₀ s) : Evolves s₀ (writeAdmit t' s) := by
  unfold Machine.writeAdmit
  split
  · exact .ite h.admitWrite h
  · exact h

theorem Evolves.storeBlocks {w blocks} (h : Evolves s₀ s) : Evolves s₀ (s.storeBlocks w blocks).2 := by
  unfold State.storeBlocks
  refine .foldl_snd h (fun s1 h1 _ => ?_)
  refine .ite_snd h1 ?_
  split
  · exact h1
  · exact h1.physWrite

theorem Evolves.dataArrive {i data md} (h : Evolves s₀ s) : Evolves s₀ (dataArrive i data md s) := by
  unfold Machine.dataArrive
  split
  · extract_lets _ _ r
    have hr : Evolves s₀ r.2 := h.storeBlocks
    refine .ite h ?_
    split
    · exact .finish (.foldl h (fun _ h _ => h.dropWrt))
    · exact .ite hr.setWrt hr
  · exact h

theorem Evolves.listOut {what bs} (h : Evolves s₀ s) : Evolves s₀ (s.listOut what bs).2 := by
  unfold State.listOut
  exact h.draw.hsWrite

theorem Evolves.dispatchBytes {t' x} (h : Evolves s₀ s) : Evolves s₀ (s.dispatchBytes t' x).2 :=
  .ite_snd (.listOut (.ite_snd h.listOut h)) (.ite_snd h.listOut h)

theorem Evolves.dispatchTag {t'} (h : Evolves s₀ s) : Evolves s₀ (dispatchTag t' s) := by
  unfold Machine.dispatchTag
  extract_lets s1
  have h1 : Evolves s₀ s1 := h.drain
  split
  · exact h1
  · extract_lets r
    have hr : Evolves s₀ r.2 := .ite_snd h1.readBuffers h1
    split
    · split
      · exact hr.setTag
      · split
        next x _ s2 e =>
          have h2 : Evolves s₀ s2 := .of_snd e hr.dispatchBytes
          exact h2.tdPut.setTag
    · exact h1

theorem Evolves.tcDone {a result} (h : Evolves s₀ s) : Evolves s₀ (s.tcDone a result) :=
  have h1 := h.hsWrite.setNum
  .ite h1.noteBit (.ite h1.noteBit h1)

theorem Evolves.giveCseq {x} (h : Evolves s₀ s) : Evolves s₀ (s.giveCseq x) := by
  unfold State.giveCseq
  extract_lets _ _ s1
  have h1 : Evolves s₀ s1 := h.modNs
  refine .foldl h1 (fun s1 h1 _ => ?_)
  split
  · exact h1.setWrt
  · exact h1

theorem Evolves.hitBlock {x k src} (h : Evolves s₀ s) : Evolves s₀ (s.hitBlock x k src).2 := by
  unfold State.hitBlock
  split
  · exact h
  · split
    next e => exact .of_snd e h.physRead
    next e => exact .of_snd e h.physRead

theorem Evolves.readData {x media} (h : Evolves s₀ s) : Evolves s₀ (s.readData x media).2 := by
  unfold State.readData
  extract_lets md r
  have hr : Evolves s₀ r.2 := by
    refine .foldl_snd h fun acc h _ => ?_
    dsimp only
    split
    · exact h
    · split
      · split
        · next e => exact .of_snd e h.hitBlock
        · next e => exact .of_snd e h.hitBlock
      · split
        · exact h
        · exact h
  exact hr

theorem Evolves.failRead {t' x st k} (h : Evolves s₀ s) : Evolves s₀ (s.failRead t' x st k) := h.releaseReads.finish

theorem Evolves.endRead {t' x host media dw0 dw1} (h : Evolves s₀ s) : Evolves s₀ (s.endRead t' x host media dw0 dw1) := by
  unfold State.endRead
  refine .ite h.failRead ?_
  split
  next x1 s1 e =>
    have h1 : Evolves s₀ s1 := .of_snd e h.readData
    exact h1.failRead
  next x1 _ s1 e =>
    have h1 : Evolves s₀ s1 := .of_snd e h.readData
    extract_lets _ _ s2
    have h2 : Evolves s₀ s2 := h1.releaseReads.modHost
    split
    · exact h1.failRead
    · split
      · exact h1.failRead
      · exact h2.finish

theorem Evolves.completeTag {a r media} (h : Evolves s₀ s) : Evolves s₀ (completeTag a r media s) := by
  unfold Machine.completeTag
  extract_lets _ _ _ _ s1
  have h1 : Evolves s₀ s1 := h.tcDone
  split
  · exact h.tcDone
  · exact .ite (.ite h.tcDone (.ite h1.giveCseq.finish (.ite h1.endRead h1.endFormat.releaseReads.finish))) h.tcDone

theorem Evolves.tcRow {kind work} (h : Evolves s₀ s) (hwork : ∀ x0 x1 s, Evolves s₀ s → Evolves s₀ (work x0 x1 s)) :
    Evolves s₀ (tcRow kind work s) := by
  unfold Machine.tcRow
  split
  · exact h
  · exact .ite (hwork _ _ _ h) (.ite h.tcDone h)

theorem Evolves.mediaTag {a r} (h : Evolves s₀ s) : Evolves s₀ (mediaTag a r s) := by
  unfold Machine.mediaTag
  extract_lets
  split
  · exact .ite h.tcDone.setTag h.tcDone
  · exact h.tcDone

theorem Evolves.errorEntry {x} (h : Evolves s₀ s) : Evolves s₀ (s.errorEntry x) := by
  unfold State.errorEntry
  refine .ite (.modCtrl ?_) h
  split
  · exact h
  · exact h.draw

theorem Evolves.postTag {t'} (h : Evolves s₀ s) : Evolves s₀ (postTag t' s) := by
  unfold Machine.postTag
  extract_lets s1
  have h1 : Evolves s₀ s1 := h.dropTag
  split
  · exact h
  · extract_lets s2
    have h2 : Evolves s₀ s2 := .ite h1 h1.errorEntry
    split
    · exact h
    · split
      · exact h1.tagCount
      · split
        · exact h1.modHost
        · split
          next x _ s3 e =>
            have h3 : Evolves s₀ s3 := .of_snd e h2.draw
            exact h3.modHost

theorem Evolves.wrtRel {v} (h : Evolves s₀ s) : Evolves s₀ (wrtRel v s) := by
  unfold Machine.wrtRel
  extract_lets
  split
  · exact .ite h.dropWrt h.noteBit
  · exact h.noteBit

theorem Evolves.flushComplete {t'} (h : Evolves s₀ s) : Evolves s₀ (flushComplete t' s) := by
  unfold Machine.flushComplete
  split
  · exact .ite h.finish h
  · exact h

theorem Evolves.dropArriving (h : Evolves s₀ s) : Evolves s₀ s.dropArriving := by
  unfold State.dropArriving
  refine .foldl h (fun s1 h1 _ => ?_)
  split
  · exact h1.freeTag
  · exact h1

/-! ### Machine/Actuators.lean -/

theorem Evolves.failCommands {n} (h : Evolves s₀ s) : Evolves s₀ (s.failCommands n) := by
  unfold State.failCommands
  refine .foldl h (fun s1 h1 _ => ?_)
  split
  · exact h1
  · extract_lets _ s2
    have h2 : Evolves s₀ s2 := .ite h1.giveCseq h1
    split
    · exact h2.releaseReads.finish
    · exact h1

theorem Evolves.retractLane {n} (h : Evolves s₀ s) : Evolves s₀ (s.retractLane n) := h.setMode.setClv.modLoop

theorem Evolves.retractHeads {n} (h : Evolves s₀ s) : Evolves s₀ (s.retractHeads n) := .ite h h.retractLane

theorem Evolves.degrade {n addr bit} (h : Evolves s₀ s) : Evolves s₀ (s.degrade n addr bit) :=
  .ite h.partFirst.setActState.retractHeads.failCommands.aenAll h.partFirst

theorem Evolves.degradeAll {addr bit} (h : Evolves s₀ s) : Evolves s₀ (s.degradeAll addr bit) :=
  .foldl h (fun _ h _ => .ite h.degrade h)

/-! ### Machine/Controllers.lean -/

theorem Evolves.ctrlReset {c} (h : Evolves s₀ s) : Evolves s₀ (s.ctrlReset c) := by
  unfold State.ctrlReset
  extract_lets _ s1 s2 s3 s4
  have h1 : Evolves s₀ s1 := .foldl h (fun _ h _ => h.resetTag)
  have h2 : Evolves s₀ s2 := h1.modCtrl
  have h3 : Evolves s₀ s3 := h2.modHost
  have h4 : Evolves s₀ s4 := by
    unfold s4
    split
    · exact .ite (.frame h3 rfl) h3
    · exact h3
  exact h4.raise

theorem Evolves.flr {c} (h : Evolves s₀ s) : Evolves s₀ (s.flr c) :=
  .raise (.ctrlReset (.ite (.modHost (.foldl h (fun _ h _ => h.ctrlReset))) h))

theorem Evolves.ctrlOff {c} (h : Evolves s₀ s) : Evolves s₀ (ctrlOff c s) := h.ctrlReset.modCtrl

theorem Evolves.ctrlEnable {e} (h : Evolves s₀ s) : Evolves s₀ (ctrlEnable e s) := .ite h.modCtrl.limitChanged.raise h

theorem Evolves.ctrlShutdown {n} (h : Evolves s₀ s) : Evolves s₀ (ctrlShutdown n s) := .ite h.modCtrl.raise h

theorem Evolves.vfEnable {pf n} (h : Evolves s₀ s) : Evolves s₀ (vfEnable pf n s) :=
  .ite (.raise (.modHost (.foldl h (fun _ h _ => h.ctrlReset)))) h

theorem Evolves.ctrlNsWrite {c v} (h : Evolves s₀ s) : Evolves s₀ (ctrlNsWrite c v s) := .ite h.setRW h.setRW.modCtrl.aen

theorem Evolves.portTrain {p width speed} (h : Evolves s₀ s) : Evolves s₀ (portTrain p width speed s) :=
  .ite h.put.put.put.raise h

theorem Evolves.linkDown {p} (h : Evolves s₀ s) : Evolves s₀ (s.linkDown p) := .ite h.put.put.put.put.raise h

theorem Evolves.subsystemReset (h : Evolves s₀ s) : Evolves s₀ s.subsystemReset :=
  .foldl h.linkDown.linkDown (fun _ h _ => h.ctrlReset)

/-! ### Machine/Fetch.lean -/

theorem Evolves.setZone {z st wp} (h : Evolves s₀ s) : Evolves s₀ (s.setZone z st wp) := by
  unfold State.setZone
  split
  next x _ s1 e =>
    have h1 : Evolves s₀ s1 := .of_snd e h.physRead
    exact h1.catWrite
  next e => exact .of_snd e h.physRead

theorem Evolves.zoneAdvance {z count} (h : Evolves s₀ s) : Evolves s₀ (s.zoneAdvance z count) := by
  unfold State.zoneAdvance
  split
  · exact h
  · exact h.setZone

theorem Evolves.stall (h : Evolves s₀ s) : Evolves s₀ s.stall := .ite h h.put.countSatFault.raise

theorem Evolves.fetchCount (h : Evolves s₀ s) : Evolves s₀ s.fetchCount.2 := by
  unfold State.fetchCount
  dsimp only
  split
  · exact .ite_snd h (.pair h.modHost)
  · exact .pair h.modHost

theorem Evolves.addEntries {ns fseq i es} (h : Evolves s₀ s) : Evolves s₀ (s.addEntries ns fseq i es).2 :=
  .foldl h (fun _ h _ => h.setWrt)

theorem Evolves.flushFetch {t' x} (h : Evolves s₀ s) : Evolves s₀ (s.flushFetch t' x) := .ite h.finish h.setTag

theorem Evolves.takeEntry {c sqid t' i q ranges} (h : Evolves s₀ s) : Evolves s₀ (s.takeEntry c sqid t' i q ranges) := by
  unfold State.takeEntry
  extract_lets _ s1 _ s2 _ r _ _ s3 s4
  have h1 : Evolves s₀ s1 := h.modHost
  have h2 : Evolves s₀ s2 := h1.noteBit
  have hr : Evolves s₀ r.2 := h1.addEntries
  have h4 : Evolves s₀ s4 := by
    unfold s4
    split
    · exact .ite hr.zoneAdvance hr
    · exact hr
  split
  · exact .ite h2.finish h2.failTag
  · split
    · exact .finish (.foldl hr (fun _ h _ => h.dropWrt))
    · exact .ite h4.flushFetch h4.setTag

theorem Evolves.arbitrate {qs} (h : Evolves s₀ s) : EvolvesSnd s₀ (s.arbitrate qs) := by
  unfold State.arbitrate
  extract_lets
  refine .ite (.some (.pair h.modCtrl.modHost)) ?_
  split
  · exact .none
  · split
    · exact .none
    · exact .some (.pair h.modCtrl.modHost)

theorem Evolves.submissionFetch {c queue t' i q ranges} (h : Evolves s₀ s) :
    Evolves s₀ (submissionFetch c queue t' i q ranges s) := by
  unfold Machine.submissionFetch
  extract_lets
  split
  · exact h
  · next moved e =>
    have hm : Evolves s₀ moved := h.arbitrate.eq e
    refine .ite h (.ite h.stall (.ite h ?_))
    split
    · exact h
    · next e' => exact (Evolves.of_snd e' hm.fetchCount).takeEntry.startExit

/-! ### Machine/Admin.lean -/

theorem Evolves.adminRow {t' op work} (h : Evolves s₀ s) (hwork : ∀ x0 s, Evolves s₀ s → Evolves s₀ (work x0 s)) :
    Evolves s₀ (adminRow t' op work s) := by
  unfold Machine.adminRow
  split
  · exact .ite (hwork _ _ h) h
  · exact h

theorem Evolves.okTag {t' x} (h : Evolves s₀ s) : Evolves s₀ (s.okTag t' x) := h.finish

theorem Evolves.giveDataDw {t' x d dw0} (h : Evolves s₀ s) : Evolves s₀ (s.giveDataDw t' x d dw0) :=
  .ite h.finish h.modHost.finish

theorem Evolves.giveData {t' x d} (h : Evolves s₀ s) : Evolves s₀ (s.giveData t' x d) := h.giveDataDw

theorem Evolves.createCq {t' x} (h : Evolves s₀ s) : Evolves s₀ (createCq t' x s) :=
  .ite h.failTag (.ite h.failTag (.ite h.failTag (.ite h.failTag h.modCtrl.okTag)))

theorem Evolves.createSq {t' x} (h : Evolves s₀ s) : Evolves s₀ (createSq t' x s) :=
  .ite h.failTag (.ite h.failTag (.ite h.failTag (.ite h.failTag h.modCtrl.okTag)))

theorem Evolves.deleteSq {t' x} (h : Evolves s₀ s) : Evolves s₀ (deleteSq t' x s) := by
  unfold Machine.deleteSq
  extract_lets _ _ s1
  have h1 : Evolves s₀ s1 := by
    refine .foldl h (fun s1 h1 _ => ?_)
    split
    · exact h1.abortTag
    · exact h1
  exact .ite h.failTag h1.modCtrl.okTag

theorem Evolves.deleteCq {t' x} (h : Evolves s₀ s) : Evolves s₀ (deleteCq t' x s) :=
  .ite h.failTag (.ite h.failTag h.modCtrl.okTag)

theorem Evolves.smartPage (h : Evolves s₀ s) : Evolves s₀ (s.smartPage).2 := by
  unfold State.smartPage
  split
  next x _ s1 e =>
    have h1 : Evolves s₀ s1 := .of_snd e h.drawBytes
    split
    next e1 => exact .of_snd e1 h1.drawBytes

theorem Evolves.slotPage (h : Evolves s₀ s) : Evolves s₀ (s.slotPage).2 := h.drawBytes

theorem Evolves.effectsPage {c} (h : Evolves s₀ s) : Evolves s₀ (s.effectsPage c).2 := by
  unfold State.effectsPage
  split
  next e => exact .pair (.of_snd e h.drawBytes)

theorem Evolves.logPage {x} (h : Evolves s₀ s) : EvolvesSnd s₀ (s.logPage x) := by
  unfold State.logPage
  extract_lets
  refine .ite (.some h) (.ite (.some h.smartPage) (.ite (.some h.slotPage) (.ite (.some (.pair (.ite h h.modCtrl)))
    (.ite (.some h.effectsPage) (.ite ?_ (.ite (.some (.pair (.ite h h.modNs))) .none))))))
  split
  · exact .some h
  · exact .some (.pair (.ite h h.modCtrl))

theorem Evolves.getLogPage {t' x} (h : Evolves s₀ s) : Evolves s₀ (getLogPage t' x s) := by
  refine .ite h ?_
  split
  · exact h.failTag
  · next e =>
    split
    · exact h.failTag
    · exact (h.logPage.eq e).giveData

theorem Evolves.idController {c} (h : Evolves s₀ s) : Evolves s₀ (s.idController c).2 := by
  unfold State.idController
  split
  next e => exact .pair (.of_snd e h.drawBytes)

theorem Evolves.idNamespace {i} (h : Evolves s₀ s) : Evolves s₀ (s.idNamespace i).2 := by
  unfold State.idNamespace
  split
  · exact h
  · split
    next e => exact .pair (.of_snd e h.drawBytes)

theorem Evolves.idZoned (h : Evolves s₀ s) : Evolves s₀ s.idZoned.2 := by
  unfold State.idZoned
  split
  next e => exact .pair (.of_snd e h.drawBytes)

theorem Evolves.idDescs {i} (h : Evolves s₀ s) : Evolves s₀ (s.idDescs i).2 := by
  unfold State.idDescs
  split
  · exact h
  · split
    next e => exact .of_snd e h.drawBytes

theorem Evolves.identify {x} (h : Evolves s₀ s) : EvolvesOk s₀ (s.identify x) := by
  unfold State.identify
  extract_lets
  refine .ite (.ok h.idController) (.ite (.ok h) (.ite (.ok h) (.ite (.ok h) (.ite (.ite (.ok h.drawBytes) (.ite ?_ .error))
    (.ite (.ite .error (.ite (.ok h) (.ite (.ok h.idNamespace) (.ite (.ok h.idDescs) (.ite (.ite (.ok h.drawBytes)
      (.ite (.ok h.idZoned) .error)) (.ok h.drawBytes)))))) .error)))))
  split
  next e => exact .ok (.of_snd e h.drawBytes)

theorem Evolves.identifyCmd {t' x} (h : Evolves s₀ s) : Evolves s₀ (identifyCmd t' x s) := by
  unfold Machine.identifyCmd
  split
  · next e => exact .giveData (h.identify _ e)
  · exact h.failTag

theorem Evolves.abortCmd {t'} (h : Evolves s₀ s) : Evolves s₀ (abortCmd t' s) := by
  unfold Machine.abortCmd
  split
  · exact h
  · refine .ite ?_ h
    split
    · extract_lets r
      have hr : Evolves s₀ r.2 := h.abortTag
      exact .ite hr.tagCount.finish hr.tagCount.finish
    · exact h.tagCount.finish

theorem Evolves.setQueues {t' x} (h : Evolves s₀ s) : Evolves s₀ (setQueues t' x s) :=
  .ite h (.ite h.failTag (.ite h.failTag (.ite h.noteBit.raise.finish h.modCtrl.finish)))

theorem Evolves.setVwc {t' x} (h : Evolves s₀ s) : Evolves s₀ (setVwc t' x s) := .ite h (.ite h.failTag h.modHost.okTag)

theorem Evolves.saveReservation {i} (h : Evolves s₀ s) : Evolves s₀ (s.saveReservation i) := .ite h.nvsWrite h.nvsWrite

theorem Evolves.setFeature {t' data x} (h : Evolves s₀ s) : Evolves s₀ (setFeature t' data x s) := by
  unfold Machine.setFeature
  extract_lets _ _ _ _ _ s1 s2
  have h1 : Evolves s₀ s1 := .ite (.foldl h (fun _ h _ => h.modHost)) h
  have h2 : Evolves s₀ s2 := .ite (.foldl h1 (fun _ h _ => h.modNs)) (.ite (.foldl
      h1 (fun _ h _ => h.modNs.saveReservation)) (.ite h1.modCtrl (.ite (.foldl h1 (fun _ h _ => h.modCtrl)) h1.modCtrl)))
  exact .ite h (.ite h.failTag (.ite h.failTag (.ite h.failTag (.ite h.failTag h2.okTag))))

theorem Evolves.getFeature {t' x} (h : Evolves s₀ s) : Evolves s₀ (getFeature t' x s) :=
  .ite h.failTag (.ite h.failTag (.ite h.giveData h.finish))

theorem Evolves.aerCmd {t' x} (h : Evolves s₀ s) : Evolves s₀ (aerCmd t' x s) := by
  unfold Machine.aerCmd
  refine .ite h (.ite h.failTag ?_)
  split
  · exact h.modCtrl.finish
  · exact h.modCtrl

theorem Evolves.rbDiscard {z} (h : Evolves s₀ s) : Evolves s₀ (s.rbDiscard z) := by
  unfold State.rbDiscard
  split
  · exact h
  · exact h.slotWrite.slotDiscard.journal

theorem Evolves.zonePut {z ze} (h : Evolves s₀ s) : Evolves s₀ (s.zonePut z ze) := h.catWrite.journal

theorem Evolves.zonesClear {z n} (h : Evolves s₀ s) : Evolves s₀ (s.zonesClear z n) :=
  .journal (.foldl h (fun _ h _ => h.zoneClear))

theorem Evolves.zoneReset {z} (h : Evolves s₀ s) : Evolves s₀ (s.zoneReset z) := h.rbDiscard.zonesClear

theorem Evolves.formatNs {i fmt pi ext} (h : Evolves s₀ s) : Evolves s₀ (s.formatNs i fmt pi ext) := by
  unfold State.formatNs
  extract_lets s1 _ s2 s3 s4
  have h1 : Evolves s₀ s1 := h.modNs
  have h2 : Evolves s₀ s2 := .keyDone (.frame h1 rfl)
  have h3 : Evolves s₀ s3 := .frame h2 rfl
  have h4 : Evolves s₀ s4 := .foldl h3 (fun _ h _ => h.dropWrt)
  split
  · exact h
  · extract_lets s5
    have h5 : Evolves s₀ s5 := .foldl h4 (fun _ h _ => h.rbDiscard)
    exact .ite h4 h5.zonesClear

theorem Evolves.formatCmd {t' x} (h : Evolves s₀ s) : Evolves s₀ (formatCmd t' x s) :=
  .ite h.failTag (.ite h.failTag (.ite h.failTag (.ite h.failTag (.ite h (.ite h.failTag
      (.ite h (.setTag (.foldl h (fun _ h _ => .ite h.formatNs h)))))))))

/-! ### Machine/Calibration.lean -/

theorem Evolves.modCal {u f} (h : Evolves s₀ s) : Evolves s₀ (s.modCal u f) := .frame h rfl

theorem Evolves.makeDue {u} (h : Evolves s₀ s) : Evolves s₀ (makeDue u s) := by
  unfold Machine.makeDue
  extract_lets _ s1
  have h1 : Evolves s₀ s1 := h.put.modCal
  exact .ite h1 (.frame h1 rfl)

theorem Evolves.calPolicy {u} (h : Evolves s₀ s) : Evolves s₀ (calPolicy u s) := h.toPolicy

theorem Evolves.calStart {u} (h : Evolves s₀ s) : Evolves s₀ (calStart u s) := .ite h.calPolicy.makeDue h.calPolicy.modCal

theorem Evolves.calBegin {u} (h : Evolves s₀ s) : Evolves s₀ (s.calBegin u) := h.put.modCal

theorem Evolves.calGrant {w} (h : Evolves s₀ s) : Evolves s₀ (s.calGrant w) := by
  unfold State.calGrant
  extract_lets s1
  have h1 : Evolves s₀ s1 := .frame h rfl
  exact .ite h1.modCal h1.calBegin

theorem Evolves.foreAsk {key} (h : Evolves s₀ s) : Evolves s₀ (s.foreAsk key) := by
  unfold State.foreAsk
  split
  · exact .frame h rfl
  · exact .ite (.frame h rfl) (.ite (.frame h rfl) h)

theorem Evolves.foreHold {keys} (h : Evolves s₀ s) : Evolves s₀ (s.foreHold keys) := .foldl h (fun _ h _ => h.foreAsk)

theorem Evolves.foreEnd {keys} (h : Evolves s₀ s) : Evolves s₀ (s.foreEnd keys) :=
  .foldl h (fun _ h _ => .ite (.frame h rfl) h)

theorem Evolves.setHolders {l} (h : Evolves s₀ s) : Evolves s₀ { s with holders := l } := .frame h rfl

theorem Evolves.setYields {l} (h : Evolves s₀ s) : Evolves s₀ { s with yields := l } := .frame h rfl

theorem Evolves.execSharedUnitGrant {unit others folio} (h : Evolves s₀ s) :
    Leads s₀ (execSharedUnitGrant unit others folio s) := by
  refine .next ?_
  extract_lets key mine others' cand work best s1
  have h1 : Evolves s₀ s1 := .ite h.setYields h
  clear_value cand
  split
  · exact .foldl h fun _ h _ => h.calGrant
  · refine .ite ?_ h1
    split
    · exact .ite h1.calGrant.setHolders h1.setHolders
    · exact h1.setHolders

theorem Evolves.calLeave {u} (h : Evolves s₀ s) : Evolves s₀ (s.calLeave u) := by
  unfold State.calLeave
  split
  · exact .ite (.frame h rfl) h
  · exact h

theorem Evolves.calPause {u} (h : Evolves s₀ s) : Evolves s₀ (s.calPause u) := .ite (.calLeave (.frame h.put rfl)) h

theorem Evolves.applySelection {u sel cells} (h : Evolves s₀ s) : Evolves s₀ (applySelection u sel cells s) :=
  .ite h.modCal (.ite h.modCal.set64.modDemod (.ite (.foldl h.modCal (fun _ h _ => h.setNum)) h.modCal.set64))

theorem Evolves.savedSelection {u} (h : Evolves s₀ s) : Evolves s₀ (s.savedSelection u) := h.applySelection

theorem Evolves.calAdopt {u m atOnce} (h : Evolves s₀ s) : Evolves s₀ (calAdopt u m atOnce s) := by
  unfold Machine.calAdopt
  extract_lets _ _ s1 s2
  have h1 : Evolves s₀ s1 := h.nvsWrite
  have h2 : Evolves s₀ s2 := .ite h1.nvsWrite h1
  exact .ite h2.applySelection h2.modCal

theorem Evolves.setWaiting {w} (h : Evolves s₀ s) : Evolves s₀ { s with waiting := w } := .frame h rfl

theorem Evolves.calDone {u runs adopted} (h : Evolves s₀ s) : Evolves s₀ (calDone u runs adopted s) := by
  unfold Machine.calDone
  extract_lets _ s1 s2 s3 s4 s5 s6 s7
  have h5 : Evolves s₀ s5 := h.put.set64.nvsWrite.put.put.put.put
  have h6 : Evolves s₀ s6 := h5.setWaiting
  have h7 : Evolves s₀ s7 := .ite h6.modDemod h6
  exact h7.modCal

theorem Evolves.calDisagree {u} (h : Evolves s₀ s) : Evolves s₀ (calDisagree u s) := by
  unfold Machine.calDisagree
  refine .ite ?_ h.faultBit
  split
  · exact h.raise
  · exact h

theorem Evolves.calEnd {u v atOnce} (h : Evolves s₀ s) : Evolves s₀ (calEnd u v atOnce s) := by
  unfold Machine.calEnd
  split
  · exact h.calAdopt.calDone
  · exact h.calDone.calDisagree

theorem Evolves.calRun {u m} (h : Evolves s₀ s) : Evolves s₀ (calRun u m s) := by
  unfold Machine.calRun
  extract_lets _ s1
  have h1 : Evolves s₀ s1 := h.calPause
  split
  · exact h1.calEnd
  · exact h1.modCal

theorem Evolves.calTick {die} (h : Evolves s₀ s) : Evolves s₀ (s.calTick die) := by
  unfold State.calTick
  extract_lets _ s1
  have h1 : Evolves s₀ s1 := by
    refine .foldl h (fun s1 h1 _ => ?_)
    split
    · exact h1.modCal.applySelection
    · exact h1
  refine .foldl h1 (fun s1 h1 _ => ?_)
  refine .ite h1 (.ite (.frame h1.calBegin rfl) ?_)
  split
  · exact .ite h1.calPause h1
  · exact .ite (.frame h1.calPause rfl) h1
  · exact h1

theorem Evolves.calDown {u} (h : Evolves s₀ s) : Evolves s₀ (s.calDown u) := .calLeave (.frame h rfl)

theorem Evolves.calUp {u} (h : Evolves s₀ s) : Evolves s₀ (s.calUp u) :=
  have h1 := h.savedSelection
  .ite h1.makeDue.modCal h1

theorem Evolves.drawRun {u} (h : Evolves s₀ s) : Evolves s₀ (s.drawRun u).2 := .frame h rfl

theorem Evolves.calOnce {u} (h : Evolves s₀ s) : Evolves s₀ (s.calOnce u) :=
  h.savedSelection.modCal.drawRun.drawRun.drawRun.calEnd

theorem Evolves.calBoot {us} (h : Evolves s₀ s) : Evolves s₀ (s.calBoot us) := .foldl h (fun _ h _ => h.calOnce)

/-! ### Machine/Motor.lean -/

theorem Evolves.spinLock {b} (h : Evolves s₀ s) : Evolves s₀ (s.spinLock b) := .ite h h.put.raise

theorem Evolves.spinOff (h : Evolves s₀ s) : Evolves s₀ s.spinOff := h.modSpin

theorem Evolves.setSpin {st} (h : Evolves s₀ s) : Evolves s₀ (s.setSpin st) := by
  unfold State.setSpin
  extract_lets _ s1 s2 s3 s4 _ s5
  have h1 : Evolves s₀ s1 := h.put
  have h2 : Evolves s₀ s2 := h1.put
  have h3 : Evolves s₀ s3 := .ite h2 h2.spinLock
  have h4 : Evolves s₀ s4 := h3.modSpin
  have h5 : Evolves s₀ s5 := .ite h4.spinOff h4
  exact .ite h5.raise h5

theorem Evolves.enterSense {again} (h : Evolves s₀ s) : Evolves s₀ (s.enterSense again) := h.setSpin.put.modSpin

theorem Evolves.modDrv {f} (h : Evolves s₀ s) : Evolves s₀ (s.modDrv f) := h.modSpin

theorem Evolves.modRef {f} (h : Evolves s₀ s) : Evolves s₀ (s.modRef f) := h.modSpin

theorem Evolves.enterBrake {pend b} (h : Evolves s₀ s) : Evolves s₀ (s.enterBrake pend b) := h.setSpin.modSpin.modDrv

theorem Evolves.enterAlign (h : Evolves s₀ s) : Evolves s₀ s.enterAlign := h.setSpin.modSpin.modDrv

theorem Evolves.enterFailed (h : Evolves s₀ s) : Evolves s₀ s.enterFailed := h.setSpin.modSpin.faultBit.raise.degradeAll

theorem Evolves.brakePhase {vmot} (h : Evolves s₀ s) : Evolves s₀ (s.brakePhase vmot) := by
  unfold State.brakePhase
  split
  · exact h
  · exact h.modDrv
  · exact .ite h.modSpin.modDrv (.ite h.modSpin.modDrv.noteBit h)
  · exact .ite h.modSpin.modDrv (.ite h.modSpin.modDrv h.modSpin.modDrv)

theorem Evolves.setClvFrame {n v} (h : Evolves s₀ s) : Evolves s₀ { s with clvFrame := modAt s.clvFrame n v } :=
  .frame h rfl

/-! ### Machine/Servo.lean -/

theorem Evolves.claspFrame {n cmd vcm ma} (h : Evolves s₀ s) : Evolves s₀ (s.claspFrame n cmd vcm ma) := by
  unfold State.claspFrame
  extract_lets seq s1 send
  have h1 : Evolves s₀ s1 := h.put
  have hsend : ∀ s cmd vcm ma, Evolves s₀ s → Evolves s₀ (send s cmd vcm ma) := fun _ _ _ _ h => h.put.setNum.setClvFrame
  clear_value seq s1 send
  refine .ite ?_ (hsend _ _ _ _ h1)
  split
  next e => exact hsend _ _ _ _ (.setClv (.of_snd e h1.draw))

theorem Evolves.instantFrame {n q} (h : Evolves s₀ s) : Evolves s₀ (s.instantFrame n q) :=
  .ite h.claspFrame (.ite h.claspFrame (.ite h.claspFrame (.ite h.claspFrame (.ite h.claspFrame h.claspFrame))))

theorem Evolves.enterSearch {n} (h : Evolves s₀ s) : Evolves s₀ (s.enterSearch n) := h.put.modDemod.dropGate

theorem Evolves.startUnload {n} (h : Evolves s₀ s) : Evolves s₀ (s.startUnload n) :=
  have h1 := h.setMode.modLoop
  .ite h1 h1.planSeek

theorem Evolves.presetFrom {n} (h : Evolves s₀ s) : Evolves s₀ (s.presetFrom n) := h.modLoop

theorem Evolves.go {n} (h : Evolves s₀ s) : Evolves s₀ (s.go n) :=
  .ite (.modLoop (.setMode (.ite h.modLoop.planSeek h.modLoop.planSeek.presetFrom))) h.modLoop.planSeek.setMode

theorem Evolves.updateSP {n} (h : Evolves s₀ s) : Evolves s₀ (s.updateSP n) := by
  unfold State.updateSP
  split
  · exact h
  · exact h.put

theorem Evolves.takeSP {n} (h : Evolves s₀ s) : Evolves s₀ (s.takeSP n) := by
  unfold State.takeSP
  split
  · exact h
  · exact .modAsu (.ite h.setNum h)

theorem Evolves.restoreTaps {n} (h : Evolves s₀ s) : Evolves s₀ (s.restoreTaps n) :=
  .foldl (.foldl h.modDet (fun _ h _ => h.derivedNum.derivedNum)) (fun _ h _ => h.derivedNum.derivedNum)

theorem Evolves.wlSwitch {n k} (h : Evolves s₀ s) : Evolves s₀ (s.wlSwitch n k) := by
  unfold State.wlSwitch
  extract_lets s1
  have h1 : Evolves s₀ s1 := .frame h rfl
  exact .ite h1 (.put (.ite h1.modRef h1))

theorem Evolves.switchHead {n k} (h : Evolves s₀ s) : Evolves s₀ (s.switchHead n k) :=
  h.modLoop.modDemod.endOverrides.modDet.restoreTaps.updateSP.modPau.modAsu.wlSwitch

theorem Evolves.selectHead {n} (h : Evolves s₀ s) : Evolves s₀ (s.selectHead n) := .ite h h.switchHead

theorem Evolves.actCmd {n code keep} (h : Evolves s₀ s) : Evolves s₀ (s.actCmd n code keep) :=
  .ite (.ite h.selectHead.go (.ite (.modLoop (.setMode (.ite h.wr h))) (.ite
      h.selectHead.go (.ite h.setMode.modLoop.selectHead.modLoop.enterSearch (.ite h.startUnload h.setMode))))) h.put

theorem Evolves.writeCmd {n code keep} (h : Evolves s₀ s) : Evolves s₀ (s.writeCmd n code keep) := .modLoop (.ite h.put h)

theorem Evolves.headSettle {n} (h : Evolves s₀ s) : Evolves s₀ (s.headSettle n) := h.modPau

theorem Evolves.nextMode {n} (h : Evolves s₀ s) : Evolves s₀ (s.nextMode n) := by
  unfold State.nextMode
  extract_lets s1 s2
  have h1 : Evolves s₀ s1 := h.modLoop
  have h2 : Evolves s₀ s2 := h1.modDet
  split
  · exact h
  · exact .ite h1.presetFrom.setMode.modLoop (.ite h2.setMode.setNum.raise h1)

theorem Evolves.targetInForce {n} (h : Evolves s₀ s) : Evolves s₀ (s.targetInForce n) := h.modLoop

theorem Evolves.tickCmd {n} (h : Evolves s₀ s) : Evolves s₀ (s.tickCmd n) := by
  unfold State.tickCmd
  split
  · exact h
  · exact h.modLoop.actCmd

theorem Evolves.zoneChange {n} (h : Evolves s₀ s) : Evolves s₀ (s.zoneChange n) := .ite h h.modLoop.deriveGains

theorem Evolves.loopTick {n} (h : Evolves s₀ s) : Evolves s₀ (s.loopTick n) :=
  .modLoop (.targetInForce (.headSettle (.tickCmd (.nextMode (.ite h.zoneChange.deriveLoop.modLoop h.zoneChange)))))

theorem Evolves.stepEstimator {n m} (h : Evolves s₀ s) : Evolves s₀ (s.stepEstimator n m) :=
  .ite h.modLoop (.ite (.ite h.modLoop (.ite h.modLoop h.modLoop)) h)

theorem Evolves.countFE {n err} (h : Evolves s₀ s) : Evolves s₀ (s.countFE n err) := by
  unfold State.countFE
  split
  · exact h
  · exact .ite h.put h.put

theorem Evolves.storeLaw {n o} (h : Evolves s₀ s) : Evolves s₀ (s.storeLaw n o) :=
  .ite h.modLoop.put.put.put h.modLoop.put.put

theorem Evolves.settleEnd {n e} (h : Evolves s₀ s) : Evolves s₀ (s.settleEnd n e) := .ite h.modLoop.modLoop h.modLoop

theorem Evolves.wedgeLaw {n m} (h : Evolves s₀ s) : Evolves s₀ (s.wedgeLaw n m) := by
  unfold State.wedgeLaw
  extract_lets _ _ _ s1
  have h1 : Evolves s₀ s1 := h.storeLaw.countFE
  refine .ite (.ite h1.settleEnd h1) (.ite ?_ (.ite h.modLoop (.ite h.storeLaw.modLoop h.modLoop)))
  split
  · extract_lets s2
    have h2 : Evolves s₀ s2 := h.storeLaw
    exact .ite (.ite (.modLoop (.modLoop (.ite h2.countFE h2))) (.modLoop (.modLoop (.ite h2.countFE h2)))) (.modLoop
        (.ite h2.countFE h2))
  · exact h

theorem Evolves.verdict {n m extra} (h : Evolves s₀ s) : Evolves s₀ (s.verdict n m extra) :=
  .ite h.modLoop.put.dropGate (.ite h.modLoop.put h.modLoop)

theorem Evolves.holdWedge {n} (h : Evolves s₀ s) : Evolves s₀ (s.holdWedge n) :=
  .ite (.ite h.modHold.put.put h.modHold.put) h.put

theorem Evolves.shadowWedge {n} (h : Evolves s₀ s) : Evolves s₀ (s.shadowWedge n) := .ite h h.modLoop

theorem Evolves.showInteg {n} (h : Evolves s₀ s) : Evolves s₀ (s.showInteg n) := h.setNum.setNum

theorem Evolves.keepLoop {n} (h : Evolves s₀ s) : Evolves s₀ (s.keepLoop n) := .frame h rfl

theorem Evolves.discardWedge {n} (h : Evolves s₀ s) : Evolves s₀ (s.discardWedge n) := h.modLoop.put.put.put.put.showInteg

theorem Evolves.loopWedge {n} (h : Evolves s₀ s) : Evolves s₀ (s.loopWedge n) := by
  unfold State.loopWedge
  extract_lets _ s1 s2 s3 s4
  have h1 : Evolves s₀ s1 := h.holdGains
  have h2 : Evolves s₀ s2 := h1.keepLoop.sensorStep.stepEstimator
  have h3 : Evolves s₀ s3 := h2.modLoop
  have h4 : Evolves s₀ s4 := .ite h3.holdWedge.shadowWedge h3.wedgeLaw
  exact .ite h1.verdict h4.showInteg.verdict

/-! ### Machine/Format.lean -/

theorem Evolves.applyFmt {n z} (h : Evolves s₀ s) : Evolves s₀ (s.applyFmt n z) :=
  .updateSP (.modDet (.foldl (.foldl (.restoreTaps (.derivedNum (.derivedNum (.derivedNum
      (.derivedNum (.derivedNum (.derivedNum (.derivedNum (.derivedNum (.derivedNum
      (.derivedNum (.foldl h.put (fun _ h _ => h.derivedNum.derivedNum.derivedNum))))))))))))) (fun _ h _ => h.derivedNum))
      (fun _ h _ => h.derivedNum)))

theorem Evolves.applyPrecomp {n} (h : Evolves s₀ s) : Evolves s₀ (s.applyPrecomp n) :=
  .modWru (.foldl h (fun _ h _ => h.derivedNum))

theorem Evolves.formatTick {n} (h : Evolves s₀ s) : Evolves s₀ (s.formatTick n) := by
  unfold State.formatTick
  extract_lets s1
  have h1 : Evolves s₀ s1 := by
    unfold s1
    split
    · exact h.applyFmt
    · exact h
  exact .ite h1.applyPrecomp h1

/-! ### Machine/Sequencer.lean -/

theorem Evolves.lmStatus {n} (h : Evolves s₀ s) : Evolves s₀ (s.lmStatus n) := h.put.put

theorem Evolves.lmHalt {n} (h : Evolves s₀ s) : Evolves s₀ (s.lmHalt n) := h.modLmu.put.closeGates.lmStatus

theorem Evolves.lmFaultAt {n bit} (h : Evolves s₀ s) : Evolves s₀ (s.lmFaultAt n bit) :=
  have h3 := h.closeGates.modLmu.faultBit.raise
  .ite h3.lmHalt h3.lmStatus

theorem Evolves.lmServo {n} (h : Evolves s₀ s) : Evolves s₀ (s.lmServo n) := h.modLmu.put.lmStatus

theorem Evolves.lmGateOpen {n} (h : Evolves s₀ s) : Evolves s₀ (s.lmGateOpen n) := by
  unfold State.lmGateOpen
  extract_lets _ s1 s2 s3
  have h1 : Evolves s₀ s1 := h.modLmu
  have h2 : Evolves s₀ s2 := h1.faultBit
  have h3 : Evolves s₀ s3 := h2.countSat
  refine .ite h.modLmu.put.lmServo ?_
  split
  · exact h
  · exact h
  · exact h.lmServo
  · exact h.lmServo
  · exact h3.raise.lmServo

/-! ### Machine/Detect.lean -/

theorem Evolves.fmtSelWrite {n v} (h : Evolves s₀ s) : Evolves s₀ (fmtSelWrite n v s) := h.endOverrides.setRW.modDet

theorem Evolves.detStatus {n} (h : Evolves s₀ s) : Evolves s₀ (s.detStatus n) := h.put.put.put

theorem Evolves.detCount {n i} (h : Evolves s₀ s) : Evolves s₀ (s.detCount n i) := h.countSat

theorem Evolves.detectCntClr {n v} (h : Evolves s₀ s) : Evolves s₀ (detectCntClr n v s) := by
  unfold Machine.detectCntClr
  extract_lets s1 s2
  have h1 : Evolves s₀ s1 := .foldl h (fun _ h _ => .ite h.setNum h)
  have h2 : Evolves s₀ s2 := .foldl h1 (fun _ h _ => h.setNum.setNum)
  exact .ite (.foldl h2 (fun _ h _ => h.setNum.setNum)) h1

theorem Evolves.timingLoss {n} (h : Evolves s₀ s) : Evolves s₀ (s.timingLoss n) := h.noteBit.detCount

theorem Evolves.acquireGain {n p amps} (h : Evolves s₀ s) : Evolves s₀ (s.acquireGain n p amps) :=
  .foldl h.modDet (fun _ h _ => .ite (.wr (.ite h.setNum h.setNum.setNum)) (.ite h.setNum h.setNum.setNum))

theorem Evolves.trackGain {n p} (h : Evolves s₀ s) : Evolves s₀ (s.trackGain n p) := by
  refine .ite (.foldl h fun s h _ => ?_) h
  split
  next e => exact (Evolves.of_snd e h.draw).setNum.setNum

theorem Evolves.noteClips {n as} (h : Evolves s₀ s) : Evolves s₀ (s.noteClips n as) := .foldl h (fun _ h _ => h.wr.countSat)

theorem Evolves.putTap {a taps r i} (h : Evolves s₀ s) : Evolves s₀ (s.putTap a taps r i) := h.setNum

theorem Evolves.adaptPath {n p t' ys bits acqEnd} (h : Evolves s₀ s) : Evolves s₀ (s.adaptPath n p t' ys bits acqEnd) :=
  .ite (.foldl (.foldl h.modDet.setNum.modDet (fun _ h _ => h.putTap.putTap)) (fun _ h _ => h.putTap.putTap))
      h.modDet.setNum

theorem Evolves.leavePath {n path f} (h : Evolves s₀ s) : Evolves s₀ (s.leavePath n path f) :=
  .trackGain (.adaptPath (.ite h.timingLoss h))

theorem Evolves.readHead {n path r g} (h : Evolves s₀ s) : Evolves s₀ (s.readHead n path r g).2 :=
  h.acquireGain.noteClips.leavePath

theorem Evolves.readFrag {n path r coast g} (h : Evolves s₀ s) : Evolves s₀ (s.readFrag n path r coast g).2 :=
  h.noteClips.leavePath

theorem Evolves.softOut {n r bytes} (h : Evolves s₀ s) : Evolves s₀ (s.softOut n r bytes).2 := .ite_snd h h.csWrite

theorem Evolves.softOf {n r a} (h : Evolves s₀ s) : Evolves s₀ (s.softOf n r a).2 := h.softOut

theorem Evolves.deliver {n r status info} (h : Evolves s₀ s) : Evolves s₀ (s.deliver n r status info) := .ite h.csWrite h

theorem Evolves.streamDone {n r status e} (h : Evolves s₀ s) : Evolves s₀ (s.streamDone n r status e) :=
  have h1 := h.readDone.countSect
  .ite h1.countSect (.ite h1.countSect (.ite h1.countSect (.ite h1.countSect (.ite h1.countSect (.ite h1.countSect h1)))))

theorem Evolves.lastAttempt {n iter syn} (h : Evolves s₀ s) : Evolves s₀ (s.lastAttempt n iter syn) := h.put.put

theorem Evolves.attemptEnd {n r a slipSkip} (h : Evolves s₀ s) : Evolves s₀ (s.attemptEnd n r a slipSkip) :=
  .ite h.lastAttempt.count48.deliver.streamDone h.lastAttempt.softOf.streamDone

theorem Evolves.popAction {n d pos} (h : Evolves s₀ s) : Evolves s₀ (s.popAction n d pos) := h.modLmu.lmStatus

theorem Evolves.decodeCut {n} (h : Evolves s₀ s) : Evolves s₀ (s.decodeCut n) := by
  unfold State.decodeCut
  split
  · split
    · split
      next x _ s1 e =>
        have h1 : Evolves s₀ s1 := .of_snd e h.modDet.draw
        exact h1.lastAttempt.softOf.noteBit.detCount.streamDone
    · exact h
  · exact h

theorem Evolves.endOpenRead {n pos} (h : Evolves s₀ s) : Evolves s₀ (s.endOpenRead n pos) := h.passRead.abandonRead

theorem Evolves.dcmdRead {n late pos g} (h : Evolves s₀ s) : Evolves s₀ (dcmdRead n late pos g s) := by
  unfold Machine.dcmdRead
  extract_lets _ s1 s2
  have h1 : Evolves s₀ s1 := h.popAction
  have h2 : Evolves s₀ s2 := h1.endOpenRead
  refine .ite h1 (.ite h2.noteBit.detCount (.ite h2.takeRead.noteBit.streamDone (.ite h2.takeRead.streamDone ?_)))
  extract_lets s3
  have h3 : Evolves s₀ s3 := h2.setNum.decodeCut.countSect
  split
  next x _ s4 e =>
    have h4 : Evolves s₀ s4 := .of_snd e h3.readHead
    extract_lets s5 s6 s7
    have h5 : Evolves s₀ s5 := .ite h4 h4.countSect
    have h6 : Evolves s₀ s6 := .ite h5 h5.countSect
    have h7 : Evolves s₀ s7 := .ite h6.countSect h6
    exact .ite h7.modDet h7.streamDone

theorem Evolves.dcmdReadCont {n late pos g} (h : Evolves s₀ s) : Evolves s₀ (dcmdReadCont n late pos g s) := by
  unfold Machine.dcmdReadCont
  extract_lets _ s1
  have h1 : Evolves s₀ s1 := h.popAction.passRead
  refine .ite h1 ?_
  split
  · exact h1
  · exact .ite h1.noteBit.abandonRead (.ite h1.abandonRead (.modDet (.ite h1.readFrag.countSect h1.readFrag)))

theorem Evolves.splitRead {n pos} (h : Evolves s₀ s) : Evolves s₀ (s.splitRead n pos) := by
  unfold State.splitRead
  extract_lets s1
  have h1 : Evolves s₀ s1 := h.passRead
  split
  · exact .ite h1.modDet h1
  · exact h1

theorem Evolves.nextSlot {n} (h : Evolves s₀ s) : Evolves s₀ (s.nextSlot n).2 := by
  unfold State.nextSlot
  extract_lets
  split
  · exact h.modDet
  · split
    · exact .ite_snd h.modDet h
    · exact h

theorem Evolves.decodeEnd {n} (h : Evolves s₀ s) : Evolves s₀ (decodeEnd n s) := by
  unfold Machine.decodeEnd
  split
  next e => exact .of_snd e h.nextSlot
  next x _ s1 e =>
    have h1 : Evolves s₀ s1 := .of_snd e h.nextSlot
    exact .ite (.ite h1.noteBit.detCount.attemptEnd h1.lastAttempt.modDet) h1.attemptEnd

theorem Evolves.slipSearch {n} (h : Evolves s₀ s) : Evolves s₀ (slipSearch n s) := by
  unfold Machine.slipSearch
  split
  · exact h
  · exact .ite h h.modDet.attemptEnd

theorem Evolves.rcvEnd {n r status e} (h : Evolves s₀ s) : Evolves s₀ (s.rcvEnd n r status e) := by
  unfold State.rcvEnd
  extract_lets _ s1 s2 s3 s4
  have h1 : Evolves s₀ s1 := h.modDet.put.foreEnd
  have h2 : Evolves s₀ s2 := .ite h1.setNum.setNum.writeCmd h1
  have h3 : Evolves s₀ s3 := h2.put
  have h4 : Evolves s₀ s4 := .ite h3.countSect (.ite h3.countSect (.ite h3 (.ite h3.countSect h3.countSect)))
  exact h4.countSect.readDone.raise.detStatus

theorem Evolves.offsetRead {n r k} (h : Evolves s₀ s) : Evolves s₀ (s.offsetRead n r k) :=
  h.setNum.setNum.setTarget.writeCmd.modDet

theorem Evolves.rcvStep {n from_} (h : Evolves s₀ s) : Evolves s₀ (s.rcvStep n from_) := by
  unfold State.rcvStep
  split
  · exact h
  · extract_lets
    split
    · exact h.rcvEnd
    · exact h.put.rcvEnd
    · exact .ite h.put.modDet.offsetRead h.put.modDet

theorem Evolves.rcvGo {n first last} (h : Evolves s₀ s) : Evolves s₀ (rcvGo n first last s) :=
  .ite h.put h.foreHold.put.put.put.modDet.rcvStep.detStatus

theorem Evolves.rcvAbort {n} (h : Evolves s₀ s) : Evolves s₀ (rcvAbort n s) := h.modDet

theorem Evolves.rcvNext {n r} (h : Evolves s₀ s) : Evolves s₀ (s.rcvNext n r) :=
  .ite (.ite (.ite h.modDet.rcvEnd h.offsetRead) h.modDet) (.ite h.modDet.rcvStep h.modDet)

theorem Evolves.revRead {n path r v} (h : Evolves s₀ s) : Evolves s₀ (s.revRead n path r v).2 :=
  .foldl_snd h.readHead (fun _ h _ => h.readFrag)

theorem Evolves.rcvJudge {n r slip a} (h : Evolves s₀ s) : Evolves s₀ (s.rcvJudge n r slip a).2.2.2 := by
  unfold State.rcvJudge
  extract_lets s1
  have h1 : Evolves s₀ s1 := h.lastAttempt
  split
  · exact h1.deliver
  · exact h1.softOf

theorem Evolves.rcvFrag4 {n r} (h : Evolves s₀ s) : Evolves s₀ (s.rcvFrag4 n r) := h.noteBit.rcvEnd

theorem Evolves.rcvRevolve {n r v} (h : Evolves s₀ s) : Evolves s₀ (s.rcvRevolve n r v) :=
  .ite h.put.revRead.rcvFrag4 (.ite (.ite (.ite h.put.revRead.rcvJudge.rcvEnd h.put.revRead.rcvJudge.rcvNext)
      h.put.revRead.rcvNext) h.put.revRead.rcvNext)

theorem Evolves.recoveryRevolution {n v} (h : Evolves s₀ s) : Evolves s₀ (recoveryRevolution n v s) := by
  unfold Machine.recoveryRevolution
  split
  · exact h
  · exact .ite h.noteBit.rcvEnd (.ite h.rcvEnd (.ite h.rcvEnd (.ite h (.ite h.foreHold (.ite
      h (.ite h.noteBit.rcvEnd h.rcvRevolve))))))

theorem Evolves.sjGo {n iter} (h : Evolves s₀ s) : Evolves s₀ (sjGo n iter s) := .ite h h.put.modDet

theorem Evolves.softJobDone {n} (h : Evolves s₀ s) : Evolves s₀ (softJobDone n s) := by
  unfold Machine.softJobDone
  split
  · exact h
  · extract_lets _ _ _ s1 s2 s3 s4
    have h1 : Evolves s₀ s1 := h.lastAttempt
    have h2 : Evolves s₀ s2 := .ite h1.deliver h1.csWrite
    have h3 : Evolves s₀ s3 := h2.modDet
    have h4 : Evolves s₀ s4 := h3.put.put.put
    exact .ite h h4.put.raise

/-! ### Machine/Write.lean -/

theorem Evolves.assistFault {n bit} (h : Evolves s₀ s) : Evolves s₀ (s.assistFault n bit) := h.faultBit.setWdis.dropGate

theorem Evolves.modeHop {n} (h : Evolves s₀ s) : Evolves s₀ (s.modeHop n) :=
  .ite h.put.countSat.modWru.dropGate h.put.countSat.modWru

theorem Evolves.assistSample {n at_} (h : Evolves s₀ s) : Evolves s₀ (assistSample n at_ s) := by
  unfold Machine.assistSample
  split
  next x _ s1 e =>
    have h1 : Evolves s₀ s1 := .of_snd e h.draw
    extract_lets _ s2 _ _ _ _ _ _ _ _ _ _ s3 s4 _ s5 s6 s7 s8
    have h2 : Evolves s₀ s2 := h1.modPau
    have h3 : Evolves s₀ s3 := h2.modWru
    have h4 : Evolves s₀ s4 := h3.setNum
    have h5 : Evolves s₀ s5 := h4.modAsu
    have h6 : Evolves s₀ s6 := .ite h5.assistOut h5
    have h7 : Evolves s₀ s7 := .ite h6.modeHop h6
    have h8 : Evolves s₀ s8 := .ite h7.assistFault h7
    exact .ite h1 (.ite h8.assistFault h8)

theorem Evolves.asPreheatWrite {n value} (h : Evolves s₀ s) : Evolves s₀ (asPreheatWrite n value s) :=
  .foldl h.setRW (fun _ h _ => h.setNum.setNum.setNum)

theorem Evolves.codewordEncode {n} (h : Evolves s₀ s) : Evolves s₀ (codewordEncode n s) := .ite h.takeWrite.modWru.put h

theorem Evolves.encodeDone {n} (h : Evolves s₀ s) : Evolves s₀ (encodeDone n s) := h.modWru.put

theorem Evolves.sendBits {n at_ bits} (h : Evolves s₀ s) : Evolves s₀ (s.sendBits n at_ bits) := h.modWru

theorem Evolves.openGate {n pos entered} (h : Evolves s₀ s) : Evolves s₀ (s.openGate n pos entered) := by
  unfold State.openGate
  split
  · exact h
  · extract_lets _ s1 _ _ _ _ _ _ _ _ _ _ _ _ s2 s3 s4 s5
    have h1 : Evolves s₀ s1 := .ite h.takeSP h
    have h2 : Evolves s₀ s2 := .ite h1.sendBits h1.sendBits
    have h3 : Evolves s₀ s3 := .ite h2.modSpan h2.modWru
    have h4 : Evolves s₀ s4 := h3.modWru
    have h5 : Evolves s₀ s5 := .ite h4.modAsu h4
    exact h5.put.assistOut

theorem Evolves.gateFalls {n last} (h : Evolves s₀ s) : Evolves s₀ (s.gateFalls n last) :=
  .ite h.modSpan (.assistOut (.put (.ite h.modSpan.modAsu h.modSpan)))

theorem Evolves.shutGate {n} (h : Evolves s₀ s) : Evolves s₀ (s.shutGate n) := h.put.assistOut

theorem Evolves.wrError {n bit} (h : Evolves s₀ s) : Evolves s₀ (s.wrError n bit) := h.faultBit

theorem Evolves.nextCode {n} (h : Evolves s₀ s) : Evolves s₀ (s.nextCode n).2 := by
  unfold State.nextCode
  split
  · exact h.modWru
  · exact .ite_snd h.takeWrite h

theorem Evolves.supersede {n pos} (h : Evolves s₀ s) : Evolves s₀ (s.supersede n pos) := by
  unfold State.supersede
  split
  · exact h
  · exact .endWrite (.ite h.modSpan h)

theorem Evolves.dcmdWrite {n late pos entered} (h : Evolves s₀ s) : Evolves s₀ (dcmdWrite n late pos entered s) := by
  unfold Machine.dcmdWrite
  extract_lets _ s1 s2
  have h1 : Evolves s₀ s1 := h.servoEnd.popAction
  have h2 : Evolves s₀ s2 := h1.supersede.passRead
  refine .ite h1 ?_
  split
  next x s3 e =>
    have h3 : Evolves s₀ s3 := .of_snd e h2.nextCode
    exact h3.wrError.countSat.shutGate
  next x _ s3 e =>
    have h3 : Evolves s₀ s3 := .of_snd e h2.nextCode
    extract_lets s4 _ s5
    have h4 : Evolves s₀ s4 := .ite h3.noteBit h3
    have h5 : Evolves s₀ s5 := h3.modWru
    split
    · extract_lets s6
      have h6 : Evolves s₀ s6 := by
        unfold s6
        split
        next _ _ _ =>
          exact h4.wrError
        next _ _ =>
          exact h4
      exact h6.writeDone.shutGate
    · exact .ite h3.writeDone.shutGate h5.openGate

theorem Evolves.dcmdWriteCont {n late pos entered} (h : Evolves s₀ s) :
    Evolves s₀ (dcmdWriteCont n late pos entered s) := by
  unfold Machine.dcmdWriteCont
  extract_lets _ s1 s2
  have h1 : Evolves s₀ s1 := h.servoEnd.popAction
  have h2 : Evolves s₀ s2 := h1.modWru
  refine .ite h1 ?_
  split
  · exact h1
  · exact .ite h1 (.ite h1.wrError.endWrite (.ite h1.wrError.endWrite (.ite h1.endWrite (.ite h1.endWrite h2.openGate))))

theorem Evolves.splitWrite {n pos} (h : Evolves s₀ s) : Evolves s₀ (s.splitWrite n pos) := by
  unfold State.splitWrite
  extract_lets _ s1
  have h1 : Evolves s₀ s1 := h.sendBits
  split
  · exact .ite h1.modWru.gateFalls h
  · exact h

theorem Evolves.sectorWriteEnd {n} (h : Evolves s₀ s) : Evolves s₀ (sectorWriteEnd n s) := by
  unfold Machine.sectorWriteEnd
  split
  · exact .ite h.modWru.gateFalls.endWrite h
  · exact h

theorem Evolves.wrPolicyWrite {n v} (h : Evolves s₀ s) : Evolves s₀ (wrPolicyWrite n v s) := h.endOverrides.setRW.modWru

/-! ### Machine/FlyHeight.lean -/

theorem Evolves.deriveFly {n} (h : Evolves s₀ s) : Evolves s₀ (s.deriveFly n) :=
  .foldl h (fun _ h _ => .ite h.derivedNum.derivedNum.put h.derivedNum.derivedNum.put)

theorem Evolves.flyDerive {n reg k value} (h : Evolves s₀ s) : Evolves s₀ (flyDerive n reg k value s) :=
  h.setRW.endOverrides.deriveFly

theorem Evolves.flyReqWrite {n value} (h : Evolves s₀ s) : Evolves s₀ (flyReqWrite n value s) := .ite h.setRW h.setRW.modPau

theorem Evolves.ecsStart {n} (h : Evolves s₀ s) : Evolves s₀ (s.ecsStart n) := h.modPau

theorem Evolves.flyGo {n k} (h : Evolves s₀ s) : Evolves s₀ (flyGo n k s) :=
  .ite h (.ite h.put.modFlu.foreHold.ecsStart.dropGate h.put)

theorem Evolves.flyAbort {n} (h : Evolves s₀ s) : Evolves s₀ (flyAbort n s) := h.modFlu

theorem Evolves.flyEnd {n} (h : Evolves s₀ s) : Evolves s₀ (s.flyEnd n) := h.modFlu.put.foreEnd.put.ecsStart.raise

theorem Evolves.flyAdopt {n k p} (h : Evolves s₀ s) : Evolves s₀ (s.flyAdopt n k p) :=
  h.nvsWrite.nvsWrite.setNum.setNum.setNum.setNum.deriveFly

theorem Evolves.flyDisagree {n} (h : Evolves s₀ s) : Evolves s₀ (s.flyDisagree n) := h.put.log

theorem Evolves.sweepEnd {n c r} (h : Evolves s₀ s) : Evolves s₀ (s.sweepEnd n c r) := by
  unfold State.sweepEnd
  extract_lets
  split
  · exact h.flyAdopt.flyEnd
  · exact h.flyDisagree.flyEnd
  · exact h.modFlu.ecsStart

theorem Evolves.contactSweepStep {n} (h : Evolves s₀ s) : Evolves s₀ (contactSweepStep n s) := by
  unfold Machine.contactSweepStep
  split
  · exact h
  · exact .ite h.flyEnd (.ite h.foreHold.ecsStart (.ite h.modFlu.ecsStart (.ite h.modFlu.ecsStart
      (.ite h.sweepEnd (.ite h.sweepEnd h.modFlu.ecsStart)))))

theorem Evolves.slotFrame {n lastSlot} (h : Evolves s₀ s) : Evolves s₀ (s.slotFrame n lastSlot).2.2 := by
  unfold State.slotFrame
  split
  · exact h.modPau
  · exact h.modPau
  · split
    · extract_lets
      split
      · exact h
      · split
        · exact h.modPau
        · split
          · exact h.modPau
          · exact h
    · extract_lets
      split
      · exact h
      · split
        · exact h.modPau
        · split
          · exact h.modPau
          · exact h

theorem Evolves.fltRise {n bit} (h : Evolves s₀ s) : Evolves s₀ (s.fltRise n bit) :=
  .ite h.assistFault (.ite h.setWdis.log h.log)

theorem Evolves.goodReply {n item flt data amon} (h : Evolves s₀ s) : Evolves s₀ (s.goodReply n item flt data amon) := by
  unfold State.goodReply
  extract_lets _ s1 s2 s3 s4 s5
  have h1 : Evolves s₀ s1 := h.modPau
  have h2 : Evolves s₀ s2 := h1.put.put
  have h3 : Evolves s₀ s3 := .ite h2.countSat h2
  have h4 : Evolves s₀ s4 := .foldl h3 (fun _ h _ => .ite h.fltRise h)
  have h5 : Evolves s₀ s5 := by
    unfold s5
    split
    next _ =>
      exact .ite h4 h4.put
    next _ =>
      exact h4.modPau
    next _ =>
      exact h4.modPau
    next _ =>
      exact h4.put
    next _ _ =>
      exact .put (.put (.put (.put (.put (.ite h4.put h4)))))
    · exact h4
  exact .interlock (.ite h5.put h5)

theorem Evolves.badReply {n item} (h : Evolves s₀ s) : Evolves s₀ (s.badReply n item) := by
  unfold State.badReply
  extract_lets s1 s2 s3
  have h1 : Evolves s₀ s1 := h.modPau
  have h2 : Evolves s₀ s2 := h1.countSat
  have h3 : Evolves s₀ s3 := by
    unfold s3
    split
    next _ _ =>
      exact h2.put.put.put
    · exact h2
  exact h3.interlock

theorem Evolves.heatHead {n k w} (h : Evolves s₀ s) : Evolves s₀ (s.heatHead n k w) := h.modFlu

theorem Evolves.sendFrame {n item} (h : Evolves s₀ s) : Evolves s₀ (s.sendFrame n item) := by
  unfold State.sendFrame
  split
  · exact .ite h.dropGate.put.modFlu h.dropGate.put.modFlu
  · exact .ite h.heatHead.modFlu.modPau h.heatHead.modFlu
  · exact .ite h.put h
  · exact h

theorem Evolves.preampSlot {n lastSlot reply} (h : Evolves s₀ s) : Evolves s₀ (preampSlot n lastSlot reply s) := by
  unfold Machine.preampSlot
  refine .ite h ?_
  split
  next e =>
    have h1 := h.slotFrame (n := n) (lastSlot := lastSlot)
    rw [e] at h1
    split
    · exact .ite h1.modPau.sendFrame.goodReply h1.modPau.sendFrame.badReply
    · exact h1.modPau.sendFrame.badReply

theorem Evolves.preampNoReply {n} (h : Evolves s₀ s) : Evolves s₀ (preampNoReply n s) := .ite h.faultBit.degrade h

theorem Evolves.fltnLow {n low aflt} (h : Evolves s₀ s) : Evolves s₀ (fltnLow n low aflt s) :=
  .ite (.ite h.put.dropGate.noteBit.assistFault h.put.dropGate.noteBit) h.put

theorem Evolves.armPreamp {n} (h : Evolves s₀ s) : Evolves s₀ (s.armPreamp n) := h.modPau

theorem Evolves.paQcmd {n v} (h : Evolves s₀ s) : Evolves s₀ (paQcmd n v s) := .ite h.put.modPau h

theorem Evolves.wrHeadWrite {n k value} (h : Evolves s₀ s) : Evolves s₀ (wrHeadWrite n k value s) := h.setRW.modPau

/-! ### Machine/L1.lean -/

theorem Evolves.readAt {w n} (h : Evolves s₀ s) : Evolves s₀ (s.readAt w n).2 := by
  unfold State.readAt
  split
  · exact h.physRead
  · exact h.csramRead
  · exact h

theorem Evolves.writeAt {w bs} (h : Evolves s₀ s) : Evolves s₀ (s.writeAt w bs).2 := by
  unfold State.writeAt
  split
  · exact h.physWrite
  · exact h.csramWrite
  · exact h

theorem Evolves.l1Fill {c fetchSide line a n} (h : Evolves s₀ s) : Evolves s₀ (s.l1Fill c fetchSide line a n).2 := by
  unfold State.l1Fill
  split
  · exact h
  · split
    next x _ s1 e =>
      have h1 : Evolves s₀ s1 := .of_snd e h.readAt
      exact h1.modCore
    next e => exact .of_snd e h.readAt

theorem Evolves.l1Parity {c line} (h : Evolves s₀ s) : Evolves s₀ (s.l1Parity c line) := by
  unfold State.l1Parity
  extract_lets _ _ s1 s2
  have h1 : Evolves s₀ s1 := h.modCore
  have h2 : Evolves s₀ s2 := .ite h1.l1Fill h1
  exact .ite h2.l1Fill h2

theorem Evolves.l1Read {c fetchSide a n} (h : Evolves s₀ s) : Evolves s₀ (s.l1Read c fetchSide a n).2 := by
  unfold State.l1Read
  split
  · extract_lets
    split
    · exact .ite_snd h h.l1Fill
    · exact h.l1Fill
  · extract_lets
    split
    · exact .ite_snd h h.l1Fill
    · exact h.l1Fill

theorem Evolves.coreBytes {c fetchSide a n} (h : Evolves s₀ s) : Evolves s₀ (s.coreBytes c fetchSide a n).2 := by
  unfold State.coreBytes
  refine .foldl_snd h (fun s1 h1 _ => ?_)
  split
  · exact h1
  · split
    · exact h1
    · exact .ite_snd h1.l1Read h1.readAt

/-! ### Machine/Tsuku.lean -/

theorem Evolves.linkPolicy {e} (h : Evolves s₀ s) : Evolves s₀ (linkPolicy e s) := h.toPolicy

theorem Evolves.linkError {e bit} (h : Evolves s₀ s) : Evolves s₀ (s.linkError e bit) := h.noteBit

theorem Evolves.linkState {e st lanes} (h : Evolves s₀ s) : Evolves s₀ (s.linkState e st lanes) :=
  .ite h.put.put h.put.put.raise

theorem Evolves.linkBoth {e st lanes} (h : Evolves s₀ s) : Evolves s₀ (s.linkBoth e st lanes) := h.linkState.linkState

theorem Evolves.modLink {e f} (h : Evolves s₀ s) : Evolves s₀ (s.modLink e f) := .frame h rfl

theorem Evolves.replay {e sameFlit} (h : Evolves s₀ s) : Evolves s₀ (replay e sameFlit s) :=
  have h1 := h.modLink.linkError
  .ite h1.linkError h1

theorem Evolves.modEnds {e f} (h : Evolves s₀ s) : Evolves s₀ (s.modEnds e f) := h.modLink.modLink

theorem Evolves.retrain {e} (h : Evolves s₀ s) : Evolves s₀ (retrain e s) := h.modEnds.linkBoth.linkError.linkError

theorem Evolves.linkDegraded {n} (h : Evolves s₀ s) : Evolves s₀ (s.linkDegraded n) :=
  .degrade (.ite h.noteClass h.faultBit)

theorem Evolves.linkFailed {e} (h : Evolves s₀ s) : Evolves s₀ (linkFailed e s) :=
  .ite (.ite h.linkBoth.faultBit.fatalCause h.linkBoth.linkDegraded) h

theorem Evolves.rxCount {e q} (h : Evolves s₀ s) : Evolves s₀ (s.rxCount e q) := h.put.put

theorem Evolves.msgRewind {e} (h : Evolves s₀ s) : Evolves s₀ (s.msgRewind e) := h.linkError.countSatFault

theorem Evolves.msgReceive {e q fate badWords} (h : Evolves s₀ s) : Evolves s₀ (msgReceive e q fate badWords s) := by
  unfold Machine.msgReceive
  split
  · exact h
  · extract_lets s1
    have h1 : Evolves s₀ s1 := .frame h rfl
    exact .ite h (.ite h1.modLink.rxCount h1.msgRewind)

theorem Evolves.rxRead {e q} (h : Evolves s₀ s) : Evolves s₀ (rxRead e q s) := by
  unfold Machine.rxRead
  split
  · exact h.setNum.setNum.answer
  · extract_lets _ s1 s2 s3 s4
    have h1 : Evolves s₀ s1 := h.modLink.rxCount
    have h2 : Evolves s₀ s2 := h1.setNum
    have h3 : Evolves s₀ s3 := h2.setNum
    have h4 : Evolves s₀ s4 := .ite h3.linkError h3
    exact h4.answer

theorem Evolves.txStage {e q v} (h : Evolves s₀ s) : Evolves s₀ (txStage e q v s) := h.modLink

theorem Evolves.txAppend {src e q v} (h : Evolves s₀ s) : Evolves s₀ (txAppend src e q v s) := h.modLink

theorem Evolves.dropBegun {c} (h : Evolves s₀ s) : Evolves s₀ (s.dropBegun c) := .frame h rfl

theorem Evolves.txGo {e q} (h : Evolves s₀ s) : Evolves s₀ (txGo e q s) := by
  unfold Machine.txGo
  extract_lets s1
  have h1 : Evolves s₀ s1 := h.modLink
  split
  · exact h
  · exact .ite (.frame h1 rfl) h1

theorem Evolves.txDiscard {e q} (h : Evolves s₀ s) : Evolves s₀ (txDiscard e q s) := h.modLink

/-! ### Machine/Cores.lean -/

theorem Evolves.setCoreState {c st} (h : Evolves s₀ s) : Evolves s₀ (s.setCoreState c st) := h.put

theorem Evolves.ifRuns {c f} (h : Evolves s₀ s) (hf : ∀ s, Evolves s₀ s → Evolves s₀ (f s)) : Evolves s₀ (s.ifRuns c f) :=
  .ite (hf _ h) h

theorem Evolves.startCore {c cause} (h : Evolves s₀ s) : Evolves s₀ (s.startCore c cause) := h.modCore.setCoreState

theorem Evolves.restartCore {c cause bit} (h : Evolves s₀ s) : Evolves s₀ (s.restartCore c cause bit) := by
  unfold State.restartCore
  extract_lets s1
  have h1 : Evolves s₀ s1 := h.setCoreState.modCore
  split
  · exact h1.faultBit.raise
  · exact h1

theorem Evolves.residue {c agrees} (h : Evolves s₀ s) : Evolves s₀ (residue c agrees s) :=
  .ite h.faultBit.countSat h.restartCore

theorem Evolves.machineCheck {c source addr} (h : Evolves s₀ s) : Evolves s₀ (machineCheck c source addr s) :=
  .ite h.restartCore h.modCore

theorem Evolves.machineCheckRow {c source addr} (h : Evolves s₀ s) : Evolves s₀ (machineCheckRow c source addr s) :=
  .ite h.l1Parity (.ite h (.ite h.machineCheck.modCore h.machineCheck))

theorem Evolves.watchdog {c} (h : Evolves s₀ s) : Evolves s₀ (watchdog c s) := .ite h.restartCore h

theorem Evolves.warmRestart {c} (h : Evolves s₀ s) : Evolves s₀ (warmRestart c s) := .ite h.dropBegun.modCore.countSat h

theorem Evolves.failCore {c} (h : Evolves s₀ s) : Evolves s₀ (s.failCore c) :=
  .ite h.setCoreState.faultBit.degrade (.ite h.setCoreState.faultBit.fatalCause h.setCoreState.faultBit)

theorem Evolves.warmRestartDone {c pass} (h : Evolves s₀ s) : Evolves s₀ (warmRestartDone c pass s) :=
  .ite h (.ite h.put.startCore.raise (.ite h.put.faultBit.failCore h.put.faultBit.modCore))

theorem Evolves.coreStart {c} (h : Evolves s₀ s) : Evolves s₀ (coreStart c s) := .ite h.startCore h

theorem Evolves.coreWarm {c} (h : Evolves s₀ s) : Evolves s₀ (coreWarm c s) := .ite h.restartCore h

theorem Evolves.claim {c} (h : Evolves s₀ s) : Evolves s₀ (s.claim c).2 := by
  unfold State.claim
  split
  · exact .frame h rfl
  · exact h

theorem Evolves.csrRow {c f} (h : Evolves s₀ s) (hf : ∀ s, Evolves s₀ s → Evolves s₀ (f s)) :
    Evolves s₀ (s.csrRow c f) := by
  refine h.ifRuns fun s h => .ite ?_ (hf _ h)
  split
  next e => exact (Evolves.of_snd e h.draw).modCore

theorem Evolves.sendEvent {e} (h : Evolves s₀ s) : Evolves s₀ (s.sendEvent e) := .ite h.raise h.noteBit

theorem Evolves.taskDone {c v} (h : Evolves s₀ s) : Evolves s₀ (taskDone c v s) := .ite h.modCore h

theorem Evolves.wdKick {c} (h : Evolves s₀ s) : Evolves s₀ (wdKick c s) := h.modCore

theorem Evolves.wake {c} (h : Evolves s₀ s) : Evolves s₀ (s.wake c) := .ite h.modCore h

theorem Evolves.timerInterrupt {c} (h : Evolves s₀ s) : Evolves s₀ (timerInterrupt c s) := .ite h.wake h

theorem Evolves.eventDeliver {e} (h : Evolves s₀ s) : Evolves s₀ (eventDeliver e s) := by
  unfold Machine.eventDeliver
  split
  · exact h
  · exact .ite (.wake (.setPend (.frame h rfl))) h

theorem Evolves.putRoutes {w v} (h : Evolves s₀ s) : Evolves s₀ (s.putRoutes w v) := .ite h.wr (.ite h.wr.wr h.wr.wr)

theorem Evolves.evRouteWrite {w v} (h : Evolves s₀ s) : Evolves s₀ (evRouteWrite w v s) :=
  .ite h.putRoutes.noteBit h.putRoutes

theorem Evolves.taskRaise {n} (h : Evolves s₀ s) : Evolves s₀ (taskRaise n s) := by
  unfold Machine.taskRaise
  extract_lets s1
  have h1 : Evolves s₀ s1 := by
    unfold s1
    split
    · exact h.modCore
    · exact h
  exact h1.raise

theorem Evolves.taskLate {n} (h : Evolves s₀ s) : Evolves s₀ (taskLate n s) := by
  unfold Machine.taskLate
  split
  · exact h
  · exact .ite h.put.countSat h

theorem Evolves.lmLoad {n v} (h : Evolves s₀ s) : Evolves s₀ (lmLoad n v s) := .ite h.modLmu.put h.noteBit

theorem Evolves.lmStart {n} (h : Evolves s₀ s) : Evolves s₀ (lmStart n s) := .ite h h.modLmu.put

theorem Evolves.putWords {a ws} (h : Evolves s₀ s) : Evolves s₀ (s.putWords a ws) := .foldl h (fun _ h _ => h.wr)

theorem Evolves.lmVerifyDone {n} (h : Evolves s₀ s) : Evolves s₀ (lmVerifyDone n s) :=
  .ite h (.ite h.putWords.put.modLmu h.putWords.put.modLmu.noteBit)

theorem Evolves.lmStop {n} (h : Evolves s₀ s) : Evolves s₀ (lmStop n s) := .ite h.lmHalt h.modLmu.put

theorem Evolves.lmReload {n} (h : Evolves s₀ s) : Evolves s₀ (lmReload n s) := .ite h h.modLmu

theorem Evolves.lmReloadDone {n} (h : Evolves s₀ s) : Evolves s₀ (lmReloadDone n s) := h.modLmu

theorem Evolves.keeperResidue (h : Evolves s₀ s) : Evolves s₀ (keeperResidue s) := h

/-! ### Machine/Clasps.lean -/

theorem Evolves.startBeat (h : Evolves s₀ s) : Evolves s₀ s.startBeat := h.put.modCls

theorem Evolves.stopBeat (h : Evolves s₀ s) : Evolves s₀ s.stopBeat := h.put.modCls

theorem Evolves.claspUrgent {c} (h : Evolves s₀ s) : Evolves s₀ (s.claspUrgent c) := h.modCls

theorem Evolves.claspBeat (h : Evolves s₀ s) : Evolves s₀ (claspBeat s) := .ite h.modCls h

theorem Evolves.claspAnswered {c} (h : Evolves s₀ s) : Evolves s₀ (s.claspAnswered c) :=
  .ite h.modCls (.ite h.modCls (.ite h.modCls.put h))

theorem Evolves.checkId {c ident} (h : Evolves s₀ s) : Evolves s₀ (s.checkId c ident) := .ite h.modCls.faultBit.degradeAll h

theorem Evolves.claspStatus {data} (h : Evolves s₀ s) : Evolves s₀ (s.claspStatus data) :=
  .ite h.put.put.modCls h.put.put.modCls.setNum.raise

theorem Evolves.claspReply {reply} (h : Evolves s₀ s) : Evolves s₀ (claspReply reply s) := by
  unfold Machine.claspReply
  extract_lets s1 _ _ _ _ s2
  have h1 : Evolves s₀ s1 := h.modCls
  have h2 : Evolves s₀ s2 := h1.modCls
  split
  · exact h
  · extract_lets s3
    have h3 : Evolves s₀ s3 := .ite h2.claspStatus (.ite h2.put.put.checkId (.ite h2.noteBit.checkId h2))
    exact .ite h3.claspAnswered h1.modCls.noteBit

theorem Evolves.clsQueue {cmd lanes index value} (h : Evolves s₀ s) : Evolves s₀ (clsQueue cmd lanes index value s) :=
  .ite h.noteBit h.modCls.put

theorem Evolves.clsWrite {v} (h : Evolves s₀ s) : Evolves s₀ (clsWrite v s) := by
  unfold Machine.clsWrite
  split
  · exact h.clsQueue
  · exact h.clsQueue
  · exact h.clsQueue
  · exact h.clsQueue
  · exact h.clsQueue
  · exact h.clsQueue
  · exact h

/-! ### Machine/Domains.lean -/

theorem Evolves.showDomains (h : Evolves s₀ s) : Evolves s₀ s.showDomains := .foldl h (fun _ h _ => h.setNum)

theorem Evolves.dramMode (h : Evolves s₀ s) : Evolves s₀ s.dramMode := .ite h h.put

theorem Evolves.resetUnits {which} (h : Evolves s₀ s) : Evolves s₀ (s.resetUnits which) := by
  have h1 : Evolves s₀ (s.resetRegs which) := h.resetRegs
  exact ⟨h1.pending, fun w => { h1.wf w with latch := filter_canonical (h.wf w).latch }, h1.otp⟩

theorem Evolves.resetUnitList {die us} (h : Evolves s₀ s) : Evolves s₀ (s.resetUnitList die us) := h.resetUnits

theorem Evolves.dropMarks {m lo hi} (h : Evolves s₀ s) : Evolves s₀ (s.dropMarks m lo hi) := .frame h rfl

theorem Evolves.dropCore {c} (h : Evolves s₀ s) : Evolves s₀ (s.dropCore c) := h.modCore

theorem Evolves.hostLost (h : Evolves s₀ s) : Evolves s₀ s.hostLost := .frame h rfl

theorem Evolves.hubLost {d} (h : Evolves s₀ s) : Evolves s₀ (s.hubLost d) := by
  have hu (us : List Nat) : Evolves s₀ (s.resetUnitList 0 us) := h.resetUnitList
  have hd (us : List Nat) (m lo hi : Nat) : Evolves s₀ ((s.resetUnitList 0 us).dropMarks m lo hi) := (hu us).dropMarks
  refine .ite h.dropCore.put (.ite h.resetUnits (.ite (hu _).hostLost (.ite ?bufs
      (.ite ?lines (.ite ?dram (.ite ?keys (.ite ?sig
    (.ite (hu _) (.ite ?free (.ite ?xs (.ite (hu _) (.ite ?die (.ite ?links (.ite ?otp
        (.ite ?low (.ite ?high h))))))))))))))))
  case bufs => exact (hu [4]).frame rfl
  case lines => exact (hd [5] 1 0 0x10000000000).frame rfl
  case dram =>
    have h6 := hd [6] 0 0 0x10000000000
    exact .put ⟨h6.pending, fun w => { h6.wf w with dram := rfl }, h6.otp⟩
  case keys => exact (hu [7]).frame rfl
  case sig => exact .frame (.put (f := COLO_STAT_TREE_READY) (x := 0) h.resetUnits) rfl
  case free => exact (hu [10]).frame rfl
  case xs => exact (hu [11]).frame rfl
  case die => exact (Evolves.calDown (u := 0) (hu [0, 13, 18, 19])).frame rfl
  case links => exact (hu [14]).frame rfl
  case otp => exact (hu [15]).frame rfl
  case low =>
    have h17 := hd [17] 2 0 0x100000
    exact ⟨h17.pending, fun w => { h17.wf w with hsram := Memory.wipe_wf (h17.wf w).hsram }, h17.otp⟩
  case high =>
    have hm : Evolves s₀ (s.dropMarks 2 0x100000 0x200000) := h.dropMarks
    exact ⟨hm.pending, fun w => { hm.wf w with hsram := Memory.wipe_wf (hm.wf w).hsram }, hm.otp⟩

theorem Evolves.chLost {n k} (h : Evolves s₀ s) : Evolves s₀ (s.chLost n k) := by
  have hu (us : List Nat) : Evolves s₀ (s.resetUnitList (n + 1) us) := h.resetUnitList
  refine .ite ?die (.ite (hu _).calDown (.ite ?det (.ite (hu _) (.ite ?write (.ite ?demod (.ite ?loop (.ite ?hold (.ite ?lmu
    (.ite ?cores ?csram)))))))))
  case die => exact (Evolves.calDown (u := n + 1) (hu [0, 7, 12, 16, 17])).frame rfl
  case det => exact (hu [3]).frame rfl
  case write => exact (Evolves.calDown (u := 14 + n) (hu [5, 6])).frame rfl
  case demod => exact (Evolves.calDown (u := 6 + n) (hu [8])).frame rfl
  case loop => exact (hu [9]).frame rfl
  case hold => exact (hu [10, 13]).frame rfl
  case lmu => exact (hu [11]).frame rfl
  case cores =>
    have h14 : Evolves s₀ (((s.resetUnitList (n + 1) [14]).dropCore (8 + 2 * n)).dropCore (9 + 2 * n)) :=
        (hu [14]).dropCore.dropCore
    exact h14.frame rfl
  case csram =>
    have hd : Evolves s₀ ((s.resetUnitList (n + 1) [15]).dropMarks (3 + n) 0 0x10000000000) := (hu [15]).dropMarks
    exact ⟨hd.pending, fun w => { hd.wf w with csram := atD_modAt_wf (hd.wf w).csram fun _ _ => rfl }, hd.otp⟩

theorem Evolves.kprLost {d} (h : Evolves s₀ s) : Evolves s₀ (s.kprLost d) := by
  have hu (us : List Nat) : Evolves s₀ (s.resetUnitList 5 us) := h.resetUnitList
  refine .ite ?_ (.ite ?_ (.ite ?_ (.ite ?_ h)))
  · exact (hu [5]).frame rfl
  · exact (hu [6]).frame rfl
  · exact (hu [2]).frame rfl
  · exact .setDram h.dropMarks.poolsOff fun _ => rfl

theorem Evolves.domainLost {d} (h : Evolves s₀ s) : Evolves s₀ (s.domainLost d) := .ite h.hubLost (.ite h.chLost h.kprLost)

theorem Evolves.setDomain {d p} (h : Evolves s₀ s) : Evolves s₀ (s.setDomain d p) := .ite h.modLad.domainLost h.modLad

theorem Evolves.copyPower (h : Evolves s₀ s) : Evolves s₀ s.copyPower := .showDomains (.foldl h (fun _ h _ => h.setDomain))

theorem Evolves.copyRelease (h : Evolves s₀ s) : Evolves s₀ s.copyRelease :=
  .ite h (.showDomains (.foldl h (fun _ h _ => h.setDomain)))

theorem Evolves.chOff {n} (h : Evolves s₀ s) : Evolves s₀ (s.chOff n) :=
  .showDomains (.put (.modLad (.foldl h (fun _ h _ => h.chLost))))

theorem Evolves.setDownDies {l} (h : Evolves s₀ s) : Evolves s₀ { s with downDies := l } := .frame h rfl

theorem Evolves.chDown {n} (h : Evolves s₀ s) : Evolves s₀ (s.chDown n) :=
  .linkDegraded (.linkBoth (.setDownDies h.chOff.put))

theorem Evolves.hubReset (h : Evolves s₀ s) : Evolves s₀ s.hubReset := by
  unfold State.hubReset
  extract_lets s1 s2 s3 g s4
  have h1 : Evolves s₀ s1 := .foldl h fun _ h _ => h.chOff
  have h2 : Evolves s₀ s2 := .foldl h1 fun _ h _ => h.hubLost
  have h3 : Evolves s₀ s3 := h2.resetUnits
  have h4 : Evolves s₀ s4 := h3.modSig
  clear_value s4
  exact h4.frame rfl

/-! ### Machine/Logs.lean -/

theorem Evolves.logShow (h : Evolves s₀ s) : Evolves s₀ s.logShow := h.put.put

theorem Evolves.emptyEntry (h : Evolves s₀ s) : Evolves s₀ (s.emptyEntry).2 := by
  unfold State.emptyEntry
  split
  next x _ s1 e =>
    have h1 : Evolves s₀ s1 := .of_snd e h.draw
    exact .ite_snd h1 h1

theorem Evolves.logPlace {r} (h : Evolves s₀ s) : Evolves s₀ (s.logPlace r) := by
  unfold State.logPlace
  split
  · split
    · split
      next x _ s1 e =>
        have h1 : Evolves s₀ s1 := .of_snd e h.emptyEntry
        exact .raise (.logShow (.frame h1 rfl))
      next e => exact .of_snd e h.emptyEntry
    · split
      · exact .raise (.logShow (.frame h rfl))
      · exact h.noteDrop
  · split
    · split
      next x _ s1 e =>
        have h1 : Evolves s₀ s1 := .of_snd e h.emptyEntry
        exact .logShow (.frame h1 rfl)
      next e => exact .of_snd e h.emptyEntry
    · split
      · exact .logShow (.frame h rfl)
      · exact h.noteDrop

theorem Evolves.alogEnter (h : Evolves s₀ s) : Evolves s₀ (alogEnter s) := by
  unfold Machine.alogEnter
  split
  · exact .logPlace (.frame h rfl)
  · exact h

theorem Evolves.wrGo {c v} (h : Evolves s₀ s) : Evolves s₀ (wrGo c v s) := h.log

theorem Evolves.alogFreeze (h : Evolves s₀ s) : Evolves s₀ (alogFreeze s) := by
  unfold Machine.alogFreeze
  split
  · exact h
  · exact h.modLog.put

theorem Evolves.alogUnfreeze (h : Evolves s₀ s) : Evolves s₀ s.alogUnfreeze := h.modLog.put

theorem Evolves.freezeTimeout (h : Evolves s₀ s) : Evolves s₀ (freezeTimeout s) := .ite h.alogUnfreeze h

theorem Evolves.alogCopy (h : Evolves s₀ s) : Evolves s₀ s.alogCopy := by
  unfold State.alogCopy
  extract_lets _ s1
  have h1 : Evolves s₀ s1 := h.modLog.put
  split
  · exact h
  · split
    · exact h1.flashWrite
    · exact h1

theorem Evolves.writeCopy {seq} (h : Evolves s₀ s) : Evolves s₀ (s.writeCopy seq) := by
  unfold State.writeCopy
  split
  · exact h
  · extract_lets s1
    have h1 : Evolves s₀ s1 := .foldl h.flashWrite (fun _ h _ => h.flashWrite)
    exact h1.flashErase

theorem Evolves.xsRelease (h : Evolves s₀ s) : Evolves s₀ s.xsRelease := .frame h rfl

theorem Evolves.alogCopyDone {ok} (h : Evolves s₀ s) : Evolves s₀ (alogCopyDone ok s) := by
  unfold Machine.alogCopyDone
  split
  · exact h
  · extract_lets s1
    have h1 : Evolves s₀ s1 := h.modLog.put
    exact .ite h (.copyRelease (.xsRelease (.ite h1.writeCopy h1.noteBit)))

theorem Evolves.setLogArray {l} (h : Evolves s₀ s) : Evolves s₀ { s with logArray := l } := .frame h rfl

theorem restoreInto_nil (s : State) : restoreInto [] s = s := by
  delta restoreInto
  rfl

/-- A record goes into the empty entry that is found: by `delta`, since the search over the whole array must not
    be evaluated. -/
theorem restoreInto_of_some {r : LogRec} {l : List LogRec} {i : Nat} {t : State} (e : s.emptyEntry = (some i, t)) :
    restoreInto (r :: l) s = restoreInto l { t with logArray := place i r t.logArray } := by
  delta restoreInto restoreInto._f
  dsimp only
  rw [e]

theorem restoreInto_of_none {r : LogRec} {l : List LogRec} {t : State} (e : s.emptyEntry = (none, t)) :
    restoreInto (r :: l) s = t := by
  delta restoreInto restoreInto._f
  dsimp only
  rw [e]

theorem Evolves.restoreInto {l} (h : Evolves s₀ s) : Evolves s₀ (restoreInto l s) := by
  induction l generalizing s with
  | nil => rwa [restoreInto_nil]
  | cons r l ih =>
    rcases e : s.emptyEntry with ⟨_ | i, t⟩
    · rw [restoreInto_of_none e]
      exact .of_snd e h.emptyEntry
    · rw [restoreInto_of_some e]
      have ht := Evolves.of_snd e h.emptyEntry
      exact ih ht.setLogArray

theorem Evolves.logRestore (h : Evolves s₀ s) : Evolves s₀ s.logRestore := by
  unfold State.logRestore
  extract_lets _ _ s1 s2 s3
  have h1 : Evolves s₀ s1 := .ite h h.noteBit
  have h2 : Evolves s₀ s2 := h1.modLog
  have h3 : Evolves s₀ s3 := by
    unfold s3
    split
    · exact h2
    · exact h2.restoreInto.set64.logShow
  exact h3.put

theorem Evolves.getLogAccession {t' x} (h : Evolves s₀ s) : Evolves s₀ (getLogAccession t' x s) := by
  unfold Machine.getLogAccession
  extract_lets s1
  have h1 : Evolves s₀ s1 := .ite h.modLog h
  refine .ite h ?_
  split
  · exact h1.failTag
  · exact h1.giveData

theorem Evolves.actField {v n} (h : Evolves s₀ s) : Evolves s₀ (actField v n s) := .ite h (.ite h.setActState h.noteBit)

theorem Evolves.actStateWrite {v} (h : Evolves s₀ s) : Evolves s₀ (actStateWrite v s) := .foldl h (fun _ h _ => h.actField)

/-! ### Machine/Spindle.lean -/

theorem Evolves.spinCmd {c} (h : Evolves s₀ s) : Evolves s₀ (s.spinCmd c) :=
  .ite (.ite h.modSpin.enterSense h.put) (.ite (.ite h.modSpin.enterBrake h.put) (.ite (.ite h.put h.modSpin.setSpin)
      (.ite h.setSpin h.put)))

theorem Evolves.spinWrite {c} (h : Evolves s₀ s) : Evolves s₀ (spinWrite c s) := .ite h.modSpin h

theorem Evolves.planDuties {d} (h : Evolves s₀ s) : Evolves s₀ (s.planDuties d) :=
  .ite h.modSpin (.ite h.countSat.modSpin h.modSpin)

theorem Evolves.setTorque {t'} (h : Evolves s₀ s) : Evolves s₀ (s.setTorque t') := by
  unfold State.setTorque
  exact h.modSpin

theorem Evolves.speedLoop {target phase} (h : Evolves s₀ s) : Evolves s₀ (s.speedLoop target phase) := by
  unfold State.speedLoop
  exact h.setTorque.modDrv

theorem Evolves.currentLoop {i theta idRef iqRef emf} (h : Evolves s₀ s) :
    Evolves s₀ (s.currentLoop i theta idRef iqRef emf) := by
  unfold State.currentLoop
  exact h.modDrv

theorem Evolves.vector {theta vmot} (h : Evolves s₀ s) : Evolves s₀ (s.vector theta vmot) := h.modDrv.planDuties

theorem Evolves.zeroVector (h : Evolves s₀ s) : Evolves s₀ s.zeroVector := h.modSpin.modDrv

theorem Evolves.outputsOff (h : Evolves s₀ s) : Evolves s₀ s.outputsOff := h.modSpin.modDrv

theorem Evolves.generate {vmot} (h : Evolves s₀ s) : Evolves s₀ (s.generate vmot) := by
  unfold State.generate
  split
  next x _ s1 e =>
    have h1 : Evolves s₀ s1 := .of_snd e h.draw
    exact h1.setTorque

theorem Evolves.driveNext {i vmot} (h : Evolves s₀ s) : Evolves s₀ (s.driveNext i vmot) := by
  unfold State.driveNext
  refine .ite h.speedLoop.currentLoop.vector (.ite h.speedLoop.currentLoop.vector (.ite h.setTorque.currentLoop.vector
      (.ite ?_ (.ite h.setTorque.currentLoop.vector (.ite h.modSpin.setTorque.currentLoop.vector (.ite
      (.ite h.zeroVector h.generate.currentLoop.vector) h.outputsOff))))))
  extract_lets s1
  have h1 : Evolves s₀ s1 := h.brakePhase
  split
  · exact h1.speedLoop.currentLoop.vector
  · exact h1.setTorque.currentLoop.vector
  · exact h1.outputsOff
  · exact h1.zeroVector
  · exact .ite h1.outputsOff h1.zeroVector

theorem Evolves.turnTo {theta} (h : Evolves s₀ s) : Evolves s₀ (s.turnTo theta) := by
  unfold State.turnTo
  exact h.modRef.modSpin

theorem Evolves.observe {theta omega emf clean dev} (h : Evolves s₀ s) : Evolves s₀ (s.observe theta omega emf clean dev) :=
  have h1 := h.turnTo.modSpin
  .ite (.ite h1.put.modSpin h1.put.modSpin.modSpin) (.ite (.ite h1.put.modSpin.modSpin h1.put.modSpin.modSpin.modSpin) (.ite
      h1.put.modSpin h1.put.modSpin.modSpin))

theorem Evolves.latchDuties {vmot} (h : Evolves s₀ s) : Evolves s₀ (s.latchDuties vmot) := by
  unfold State.latchDuties
  exact h.modSpin.modDrv.modRef

theorem Evolves.rotateVector {vmot} (h : Evolves s₀ s) : Evolves s₀ (s.rotateVector vmot) :=
  have h2 := h.latchDuties.turnTo.modDrv
  .ite h2.modSpin h2

theorem Evolves.pwmPeriod {iu iv iw mu mv mw theta omega emf vmot} (h : Evolves s₀ s) :
    Evolves s₀ (pwmPeriod iu iv iw mu mv mw theta omega emf vmot s) := by
  unfold Machine.pwmPeriod
  extract_lets s1 _ _ s2 _ _ s3
  have h1 : Evolves s₀ s1 := .foldl h.modSpin.latchDuties (fun _ h _ => h.spinCmd)
  have h2 : Evolves s₀ s2 := .ite h1.countSat.modSpin h1.modSpin
  have h3 : Evolves s₀ s3 := .ite h2.modSpin.modDrv.noteBit h2
  exact .ite (.ite h.modSpin.latchDuties h.modSpin.latchDuties.put) (.ite h.rotateVector h3.observe.driveNext)

theorem Evolves.fromLastGood {k} (h : Evolves s₀ s) : Evolves s₀ (s.fromLastGood k) := by
  unfold State.fromLastGood
  exact h.modSpin.modRef

theorem Evolves.lossOfSync (h : Evolves s₀ s) : Evolves s₀ (lossOfSync s) := by
  unfold Machine.lossOfSync
  extract_lets _ s1 _ s2
  have h1 : Evolves s₀ s1 := h.noteBit.countSat.raise
  have h2 : Evolves s₀ s2 := h1.modSpin
  exact .ite (.ite h2.modDrv.setSpin.fromLastGood.modSpin (.ite h2.modSpin.modDrv h2)) h

theorem Evolves.alignRef (h : Evolves s₀ s) : Evolves s₀ s.alignRef := h.modRef

theorem Evolves.setSource {src} (h : Evolves s₀ s) : Evolves s₀ (s.setSource src) := .put (.put (.ite h h.modDrv))

theorem Evolves.referenceTick {dev} (h : Evolves s₀ s) : Evolves s₀ (referenceTick dev s) := by
  unfold Machine.referenceTick
  extract_lets _ s1 s2 s3 _ s4 _ _ s5 s6 s7 s8
  have h1 : Evolves s₀ s1 := h.setSource
  have h2 : Evolves s₀ s2 := .ite h1.modRef h1
  have h3 : Evolves s₀ s3 := h2.modRef
  have h4 : Evolves s₀ s4 := h3.setNum
  have h5 : Evolves s₀ s5 := h4.modSpin
  have h6 : Evolves s₀ s6 := .ite h5.spinLock h5
  have h7 : Evolves s₀ s7 := h6.calTick.calTick
  have h8 : Evolves s₀ s8 := h7.add64.setNum
  exact .ite h8.modSpin h7

theorem Evolves.setObserver {theta omega} (h : Evolves s₀ s) : Evolves s₀ (s.setObserver theta omega) := h.put.modSpin

theorem Evolves.catchMotor {k} (h : Evolves s₀ s) : Evolves s₀ (s.catchMotor k) := by
  unfold State.catchMotor
  exact h.put.setSpin.setObserver.setTorque.modDrv

theorem Evolves.senseCrossing {k interval} (h : Evolves s₀ s) : Evolves s₀ (senseCrossing k interval s) :=
  .ite (.ite h.modSpin.catchMotor h.modSpin.put.enterBrake) h.modSpin

theorem Evolves.holdCrossing {k interval at_} (h : Evolves s₀ s) : Evolves s₀ (holdCrossing k interval at_ s) :=
  .ite h.modSpin.setSpin.setObserver.setTorque.modDrv.noteBit.raise h.modSpin

theorem Evolves.senseTimeout {emf} (h : Evolves s₀ s) : Evolves s₀ (senseTimeout emf s) :=
  .ite h (.ite h.put.enterBrake (.ite h.put.enterBrake (.ite h.enterAlign (.ite h.enterBrake h.enterSense))))

theorem Evolves.spinPowerLoss (h : Evolves s₀ s) : Evolves s₀ s.spinPowerLoss :=
  .ite h (.ite h.setSpin.modSpin h.setSpin.modSpin)

theorem Evolves.deriveSpin (h : Evolves s₀ s) : Evolves s₀ s.deriveSpin := by
  refine .put (.put (.put (.put (.foldl h.toPolicy fun s h _ => ?_))))
  split
  next e => exact .setNum (.of_snd e h.draw)

theorem Evolves.spinCfgWrite {value} (h : Evolves s₀ s) : Evolves s₀ (spinCfgWrite value s) := h.setRW.deriveSpin

/-! ### Machine/Demod.lean -/

theorem Evolves.servoGateOpen {n} (h : Evolves s₀ s) : Evolves s₀ (servoGateOpen n s) := h.modDemod.lmGateOpen.closeAtServo

theorem Evolves.demodCount {n j} (h : Evolves s₀ s) : Evolves s₀ (s.demodCount n j) := h.countSat

theorem Evolves.applyDue {n e} (h : Evolves s₀ s) : Evolves s₀ (s.applyDue n e) :=
  .ite (.ite h.setRW.setNum.setNum.modDemod.enterSearch h.setRW) h.setRW

theorem Evolves.tick {n} (h : Evolves s₀ s) : Evolves s₀ (s.tick n) := by
  unfold State.tick
  extract_lets _ s1 s2 s3 s4 s5
  have h1 : Evolves s₀ s1 := h.modDemod
  have h2 : Evolves s₀ s2 := .foldl h1 (fun _ h _ => h.applyDue)
  have h3 : Evolves s₀ s3 := .ite h2.setNum h2
  have h4 : Evolves s₀ s4 := .ite h3.enterSearch h3
  have h5 : Evolves s₀ s5 := .ite h4.add64 h4
  exact h5.nextWindow.loopTick.formatTick.calTick

theorem Evolves.sendReturn {n} (h : Evolves s₀ s) : Evolves s₀ (s.sendReturn n) := h.modDemod.modWru

theorem Evolves.acceptSam {n tick wedge pred inWin} (h : Evolves s₀ s) : Evolves s₀ (acceptSam n tick wedge pred inWin s) :=
  h.modDemod.put.put.put.put.tick.sendReturn

theorem Evolves.rejectSam {n other} (h : Evolves s₀ s) : Evolves s₀ (rejectSam n other s) := h.demodCount.modDemod

theorem Evolves.samAccept {n marks} (h : Evolves s₀ s) : Evolves s₀ (samAccept n marks s) := by
  unfold Machine.samAccept
  split
  · exact h
  · exact .ite h (.ite (.ite h.acceptSam h) (.ite h.rejectSam (.ite h.rejectSam h.acceptSam)))

theorem Evolves.wedgeLoss {n} (h : Evolves s₀ s) : Evolves s₀ (wedgeLoss n s) :=
  .sendReturn (.tick (.ite h.modDemod.put.put.demodCount.put.dropGate h.modDemod.put.put))

theorem Evolves.demodLoss {n} (h : Evolves s₀ s) : Evolves s₀ (demodLoss n s) := .ite h.put.raise.enterSearch h

theorem Evolves.demodCtlWrite {n v} (h : Evolves s₀ s) : Evolves s₀ (demodCtlWrite n v s) := h.modDemod

theorem Evolves.searchExit {n} (h : Evolves s₀ s) : Evolves s₀ (searchExit n s) := .ite h.put h

theorem Evolves.demodStatRead {n} (h : Evolves s₀ s) : Evolves s₀ (demodStatRead n s) := h.capture.answer

theorem Evolves.setPosition {lo hi x} (h : Evolves s₀ s) : Evolves s₀ (s.setPosition lo hi x) := by
  unfold State.setPosition
  split
  · split
    next x1 _ s1 e =>
      have h1 : Evolves s₀ s1 := .of_snd e h.draw
      exact h1.setNum.setNum
  · exact h.setNum.setNum

theorem Evolves.telemetry {n stat rro amb written} (h : Evolves s₀ s) : Evolves s₀ (s.telemetry n stat rro amb written) :=
  .ite (.ite h.modDemod (.ite h.modDemod.modDemod.csWrite.setNum h.modDemod.modDemod.demodCount)) h

theorem Evolves.setPairs {n t'} (h : Evolves s₀ s) : Evolves s₀ (s.setPairs n t') :=
  .ite (.setNum (.setNum (.foldl h (fun _ h _ => h.setNum)))) h

theorem Evolves.publish {n g} (h : Evolves s₀ s) : Evolves s₀ (publish n g s) := by
  unfold Machine.publish
  extract_lets _ _ s1 _ _ _ _ _ _ _ _ _ _ s2
  have h1 : Evolves s₀ s1 := .ite h.demodCount h
  have h2 : Evolves s₀ s2 := .ite h1 h1.demodCount
  exact .put (.put (.put (.put (.put (.put (.put (.put (.put (.put (.put (.setPairs
      (.setNum (.setNum (.setPosition (.setPosition (.modDemod (.ite h2.demodCount h2)))))))))))))))))

theorem Evolves.pesReady {n signals telem} (h : Evolves s₀ s) : Evolves s₀ (pesReady n signals telem s) :=
  .modDemod (.ite h.modDemod.publish.telemetry.loopWedge h.modDemod)

theorem Evolves.tdcTcUpdate {n} (h : Evolves s₀ s) : Evolves s₀ (tdcTcUpdate n s) := .ite h h.put.modDemod

theorem Evolves.tdcUnlock {n} (h : Evolves s₀ s) : Evolves s₀ (tdcUnlock n s) :=
  h.put.put.put.put.noteBit.demodCount.raise.dropGate

theorem Evolves.tdcRelock {n} (h : Evolves s₀ s) : Evolves s₀ (tdcRelock n s) := h.put.put

theorem Evolves.demodCntClr {n v} (h : Evolves s₀ s) : Evolves s₀ (demodCntClr n v s) :=
  .foldl h (fun _ h _ => .ite h.setNum h)

/-! ### Machine/Loop.lean -/

theorem Evolves.holdAccess {a v} (h : Evolves s₀ s) : Evolves s₀ (s.holdAccess a v) := by
  unfold State.holdAccess
  split
  · exact h.modLoop.answer
  · exact h

theorem Evolves.loopAccess {n a v f} (h : Evolves s₀ s) (hf : ∀ s, Evolves s₀ s → Evolves s₀ (f s)) :
    Evolves s₀ (s.loopAccess n a v f) :=
  .ite h.holdAccess (.access h (fun _ h => hf _ h))

theorem Evolves.loopCmd {n code keep} (h : Evolves s₀ s) : Evolves s₀ (s.loopCmd n code keep) :=
  .loopAccess h (fun _ h => h.rcvFoul.writeCmd)

theorem Evolves.loopFaultBit {n bit sev cls} (h : Evolves s₀ s) : Evolves s₀ (s.loopFaultBit n bit sev cls) := h.faultBit

theorem Evolves.enterLost {n} (h : Evolves s₀ s) : Evolves s₀ (s.enterLost n) := h.loopFaultBit.raise.setMode.modLoop

theorem Evolves.feTrip {n} (h : Evolves s₀ s) : Evolves s₀ (feTrip n s) := by
  unfold Machine.feTrip
  extract_lets _ s1
  have h1 : Evolves s₀ s1 := h.loopFaultBit.raise.put
  exact .ite (.ite h1.go.modLoop (.ite h1.planSeek.setMode.modLoop h1.enterLost)) h

theorem Evolves.lostEntry {n} (h : Evolves s₀ s) : Evolves s₀ (lostEntry n s) := .ite h.enterLost h

theorem Evolves.positionRecovered {n} (h : Evolves s₀ s) : Evolves s₀ (positionRecovered n s) :=
  .ite h.setTarget.presetFrom.setMode.modLoop h

theorem Evolves.lostRetract {n} (h : Evolves s₀ s) : Evolves s₀ (lostRetract n s) := .ite h.startUnload h

theorem Evolves.latchOut {n u m} (h : Evolves s₀ s) : Evolves s₀ (s.latchOut n u m) := h.setNum

theorem Evolves.latchSubstitute {n} (h : Evolves s₀ s) : Evolves s₀ (s.latchSubstitute n) := h.put

theorem Evolves.unsafeNow {n} (h : Evolves s₀ s) : Evolves s₀ (s.unsafeNow n) := h.put.modLoop.dropGate

theorem Evolves.overrun {n} (h : Evolves s₀ s) : Evolves s₀ (s.overrun n) := .ite h.loopFaultBit.put.put h.loopFaultBit.put

theorem Evolves.overrunRun {n} (h : Evolves s₀ s) : Evolves s₀ (s.overrunRun n) := by
  unfold State.overrunRun
  extract_lets s1 _ s2
  have h1 : Evolves s₀ s1 := h.overrun.modLoop
  have h2 : Evolves s₀ s2 := .ite h1.loopFaultBit.raise h1
  exact .ite h2.loopFaultBit h2

theorem Evolves.driveOverrun {n} (h : Evolves s₀ s) : Evolves s₀ (s.driveOverrun n) :=
  h.overrunRun.latchSubstitute.unsafeNow.modLoop

theorem Evolves.phi0Latch {n done} (h : Evolves s₀ s) : Evolves s₀ (phi0Latch n done s) :=
  .instantFrame (.modLoop (.ite h.latchOut.modLoop (.ite (.ite h.put.modLoop (.ite h.put.modLoop.modLoop
      h.put.modLoop.overrunRun)) (.ite h.driveOverrun (.ite h.latchSubstitute.unsafeNow.modLoop h.latchOut.modLoop)))))

theorem Evolves.claspFrameRepeat {n} (h : Evolves s₀ s) : Evolves s₀ (claspFrameRepeat n s) := h.claspFrame

theorem Evolves.loopResidue {n again} (h : Evolves s₀ s) : Evolves s₀ (loopResidue n again s) :=
  .ite h (.ite h.loopFaultBit (.ite h.discardWedge.loopFaultBit.modLoop h.discardWedge.loopFaultBit.modLoop))

theorem Evolves.relock {base} (h : Evolves s₀ s) : Evolves s₀ (s.relock base) := h.wr

theorem Evolves.restartLoop {n} (h : Evolves s₀ s) : Evolves s₀ (s.restartLoop n) := h.modLoop.put.relock

theorem Evolves.holdHandover {n} (h : Evolves s₀ s) : Evolves s₀ (holdHandover n s) :=
  .ite (.ite h.modLoop.restartLoop.modHold.setMode.put.raise h.restartLoop.retractLane) h

theorem Evolves.loopRestartDone {n pass} (h : Evolves s₀ s) : Evolves s₀ (loopRestartDone n pass s) := by
  unfold Machine.loopRestartDone
  extract_lets _ s1 s2 s3
  have h1 : Evolves s₀ s1 := h.put
  have h2 : Evolves s₀ s2 := h1.loopFaultBit.degrade
  have h3 : Evolves s₀ s3 := h2.modLoop
  exact .ite (.ite h.modLoop (.ite h1 (.ite h3.retractLane h3))) h

theorem Evolves.loopShadowEnd {n} (h : Evolves s₀ s) : Evolves s₀ (loopShadowEnd n s) :=
  .ite h.setTarget.presetFrom.setMode.raise h

theorem Evolves.holdRetract {n} (h : Evolves s₀ s) : Evolves s₀ (s.holdRetract n) :=
  h.faultBit.loopFaultBit.degrade.retractLane.raise

theorem Evolves.holdInvalidRetract {n} (h : Evolves s₀ s) : Evolves s₀ (holdInvalidRetract n s) := .ite h.holdRetract h

theorem Evolves.holdParity {n} (h : Evolves s₀ s) : Evolves s₀ (holdParity n s) :=
  .ite h.faultBit.put.holdRetract h.faultBit.put

theorem Evolves.coeffDerive {n r v} (h : Evolves s₀ s) : Evolves s₀ (coeffDerive n r v s) :=
  have h2 := h.endOverrides.setRW.modLoop
  .ite h2.modHold.put h2

theorem Evolves.seekPolicyWrite {n v} (h : Evolves s₀ s) : Evolves s₀ (seekPolicyWrite n v s) :=
  h.setRW.endOverrides.modDemod

theorem Evolves.setShock {x} (h : Evolves s₀ s) : Evolves s₀ { s with shock := x } := .frame h rfl

theorem Evolves.shockSample {shock rvx rvy} (h : Evolves s₀ s) : Evolves s₀ (shockSample shock rvx rvy s) := by
  unfold Machine.shockSample
  refine .ite ?_ h
  extract_lets mag s1 s2 exceeds first s3
  have h2 : Evolves s₀ s2 := .ite h.setNum.put h.setNum
  have h3 : Evolves s₀ s3 := h2.setShock
  exact .ite h3.put.setNum.raise h3

theorem Evolves.shockTripClear (h : Evolves s₀ s) : Evolves s₀ (shockTripClear s) := h.put.put

theorem Evolves.loadComplete {n} (h : Evolves s₀ s) : Evolves s₀ (loadComplete n s) := .ite h.go h

theorem Evolves.loadTimeout {n} (h : Evolves s₀ s) : Evolves s₀ (loadTimeout n s) := .ite h.loopFaultBit.startUnload h

theorem Evolves.unloadComplete {n} (h : Evolves s₀ s) : Evolves s₀ (unloadComplete n s) :=
  .ite h.setMode.modLoop.claspFrame h

/-! ### Machine/WedgeLines.lean -/

theorem Evolves.xtalLoss (h : Evolves s₀ s) : Evolves s₀ (xtalLoss s) :=
  .ite h (.fatalCause (.foldl h.put.put (fun _ h _ => .ite h.dropGate h)))

theorem Evolves.compUpdate (h : Evolves s₀ s) : Evolves s₀ (compUpdate s) := .ite h.put h.put.setNum

theorem Evolves.modWl {n f} (h : Evolves s₀ s) : Evolves s₀ (s.modWl n f) := .frame h rfl

theorem Evolves.forwardFrameSend {n} (h : Evolves s₀ s) : Evolves s₀ (forwardFrameSend n s) := by
  unfold Machine.forwardFrameSend
  split
  · exact h
  · split
    · extract_lets _ _ s1
      have h1 : Evolves s₀ s1 := h.modWl
      exact .frame h1 rfl

theorem Evolves.spinUnload {n} (h : Evolves s₀ s) : Evolves s₀ (s.spinUnload n) :=
  .ite h (.ite h.loopFaultBit (.ite h.loopFaultBit.retractLane.modLoop h.loopFaultBit.startUnload))

theorem Evolves.forwardGood {n edge f} (h : Evolves s₀ s) : Evolves s₀ (forwardGood n edge f s) :=
  .ite h.modDemod.modLoop.interlock h.modDemod.modLoop.interlock.spinUnload

theorem Evolves.forwardBad {n} (h : Evolves s₀ s) : Evolves s₀ (forwardBad n s) := h.modDemod.put

theorem Evolves.forwardFrameReceive {n errs} (h : Evolves s₀ s) : Evolves s₀ (forwardFrameReceive n errs s) := by
  unfold Machine.forwardFrameReceive
  split
  · exact .ite h.forwardGood h.forwardBad
  · exact h.forwardBad

theorem Evolves.wlUnlock {n} (h : Evolves s₀ s) : Evolves s₀ (s.wlUnlock n) := h.put.modWl

theorem Evolves.wlHead {n} (h : Evolves s₀ s) : Evolves s₀ (s.wlHead n) := h.wlSwitch

theorem Evolves.alignAngle {n read} (h : Evolves s₀ s) : Evolves s₀ (s.alignAngle n read) := .ite h.put.modRef h

theorem Evolves.wlFound {n detected read} (h : Evolves s₀ s) : Evolves s₀ (s.wlFound n detected read) := by
  unfold State.wlFound
  extract_lets _ _ s1 s2 s3
  have h1 : Evolves s₀ s1 := h.put
  have h2 : Evolves s₀ s2 := .ite h1 h1.modWl
  have h3 : Evolves s₀ s3 := h2.modWl.alignAngle
  exact .ite h3.modWl h3.wlUnlock

theorem Evolves.wlMiss {n} (h : Evolves s₀ s) : Evolves s₀ (s.wlMiss n) := .ite h.modWl.wlUnlock h.modWl

theorem Evolves.returnFrameReceive {n errs} (h : Evolves s₀ s) : Evolves s₀ (returnFrameReceive n errs s) := by
  unfold Machine.returnFrameReceive
  extract_lets s1
  have h1 : Evolves s₀ s1 := h.modWl
  split
  · extract_lets s2
    have h2 : Evolves s₀ s2 := .ite h1.wlHead h1
    exact .ite (.ite h2.wlFound h2.wlMiss) h.modWl.wlMiss.put
  · exact h.modWl.wlMiss

theorem Evolves.saveOptime (h : Evolves s₀ s) : Evolves s₀ s.saveOptime := h.nvsWrite

/-! ### Machine/Dump.lean -/

theorem Evolves.setDumpState {v} (h : Evolves s₀ s) : Evolves s₀ (s.setDumpState v) :=
  .raise (.ite h.nvsWrite.put h.nvsWrite.put.put)

theorem Evolves.startArming (h : Evolves s₀ s) : Evolves s₀ s.startArming := by
  unfold State.startArming
  extract_lets s1 s2
  have h1 : Evolves s₀ s1 := h.setDumpState.put
  have h2 : Evolves s₀ s2 := .frame h1 rfl
  split
  · exact h2.flashErase
  · exact h2

theorem Evolves.dumpArm (h : Evolves s₀ s) : Evolves s₀ (dumpArm s) := .ite h h.startArming

theorem Evolves.armComplete {rate} (h : Evolves s₀ s) : Evolves s₀ (armComplete rate s) :=
  .ite h.setNum.put.put.setDumpState.put h

theorem Evolves.plpFail {erase} (h : Evolves s₀ s) : Evolves s₀ (plpFail erase s) :=
  .ite h.faultBit.put.raise.faultBit.modHost h.faultBit

theorem Evolves.flashUnits {a us} (h : Evolves s₀ s) : Evolves s₀ (s.flashUnits a us) :=
  .foldl h (fun _ h _ => h.flashWrite)

theorem Evolves.setXsJob {j held} (h : Evolves s₀ s) : Evolves s₀ { s with xsJob := j, xsHeld := held } := .frame h rfl

theorem Evolves.setDump {d} (h : Evolves s₀ s) : Evolves s₀ { s with dump := d } := .frame h rfl

theorem Evolves.dumpWrite (h : Evolves s₀ s) : Evolves s₀ s.dumpWrite := by
  unfold State.dumpWrite
  extract_lets s1 d _ s2
  have h1 : Evolves s₀ s1 := by
    unfold s1
    split
    · exact h
    · refine .raise (.noteBit (.setXsJob (.put (.put (.put (.ite h (.foldl h fun s h _ => ?_)))))))
      split
      next e => exact .flashWrite (.of_snd e h.draw)
  have h2 : Evolves s₀ s2 := h1.setDumpState.setDump
  split
  · exact h2.flashUnits
  · exact h2

theorem Evolves.dumpCommit (h : Evolves s₀ s) : Evolves s₀ s.dumpCommit := by
  unfold State.dumpCommit
  extract_lets s1
  have h1 : Evolves s₀ s1 := by
    unfold s1
    split
    · exact h.flashWrite
    · exact h
  exact h1.setDumpState

theorem Evolves.emptyDump (h : Evolves s₀ s) : Evolves s₀ s.emptyDump := by
  unfold State.emptyDump
  extract_lets _ s1 s2
  have h1 : Evolves s₀ s1 := .frame h rfl
  have h2 : Evolves s₀ s2 := by
    unfold s2
    split
    · exact h1.flashErase.flashUnits
    · exact h1
  exact h2.setDumpState

theorem Evolves.stopFront (h : Evolves s₀ s) : Evolves s₀ s.stopFront := h.modHost.dropArriving

theorem Evolves.retractAll (h : Evolves s₀ s) : Evolves s₀ s.retractAll := h.claspUrgent

theorem Evolves.channelsOff (h : Evolves s₀ s) : Evolves s₀ s.channelsOff := .foldl h (fun _ h _ => .ite h.chOff.put h)

theorem Evolves.bootCaused {cause} (h : Evolves s₀ s) : Evolves s₀ (s.bootCaused cause) := .frame h rfl

theorem Evolves.powerLoss (h : Evolves s₀ s) : Evolves s₀ s.powerLoss := .frame h.stopFront.spinPowerLoss.retractAll rfl

theorem Evolves.latchPlw {source} (h : Evolves s₀ s) : Evolves s₀ (s.latchPlw source) := h.put.put.raise

theorem Evolves.plwActs (h : Evolves s₀ s) : Evolves s₀ s.plwActs :=
  .ite (.ite h.modCls.put.copyPower.alogCopy h.modCls.put) (.ite h.put.put.modLad h.powerLoss)

theorem Evolves.powerLossWarning {source} (h : Evolves s₀ s) : Evolves s₀ (powerLossWarning source s) :=
  .ite h (.ite h.latchPlw h.latchPlw.plwActs)

theorem Evolves.dumpWriteRow (h : Evolves s₀ s) : Evolves s₀ (dumpWriteRow s) := by
  unfold Machine.dumpWriteRow
  split
  · exact h
  · extract_lets s1
    have h1 : Evolves s₀ s1 := .ite h h.channelsOff
    exact .ite h1.dumpWrite h1

theorem Evolves.dumpComplete (h : Evolves s₀ s) : Evolves s₀ (dumpComplete s) := by
  unfold Machine.dumpComplete
  extract_lets s1
  have h1 : Evolves s₀ s1 := .ite h.dumpCommit h
  split
  · exact h
  · extract_lets s2
    have h2 : Evolves s₀ s2 := .frame h1 rfl
    exact .ite h2.modLog (.ite h2.alogCopy.bootCaused h2.alogCopy)

theorem Evolves.bootDump (h : Evolves s₀ s) : Evolves s₀ (bootDump s) :=
  .ite (.frame h.stopFront.retractAll.channelsOff.dumpWrite rfl) h

theorem Evolves.setSeq {q} (h : Evolves s₀ s) : Evolves s₀ (s.setSeq q) := h.setNum.setNum

theorem Evolves.catReplay {log} (h : Evolves s₀ s) : Evolves s₀ (catReplay log s) := by
  refine .setSeq ?_
  split
  · exact h.setSeq.addMark
  · exact h.doSmDrop
  · exact .ite h.putZone h
  · exact .ite h.putBand h
  · exact h.switchSteps
  · exact .ite h.setRb h.slotDiscard
  · exact .foldl h fun _ h _ => h.zoneClear
  · exact h

theorem Evolves.restoreRecord {jr} (h : Evolves s₀ s) : Evolves s₀ (s.restoreRecord jr) := h.catReplay.catWrite.setNum

theorem Evolves.dropBad {e} (h : Evolves s₀ s) : Evolves s₀ (s.dropBad e) := by
  unfold State.dropBad
  exact .modHost (.ite h.log h.faultBit)

theorem Evolves.restoreEntry {e} (h : Evolves s₀ s) : Evolves s₀ (s.restoreEntry e) :=
  .ite (.dropBad (.foldl h.allocWrite (fun _ h _ => h.stkDrop))) (.modNs (.modHost
      (.setWrt (.foldl h.allocWrite (fun _ h _ => h.physWrite)))))

theorem Evolves.dumpRestore {bad} (h : Evolves s₀ s) : Evolves s₀ (dumpRestore bad s) := by
  unfold Machine.dumpRestore
  split
  · exact h
  · extract_lets s1
    have h1 : Evolves s₀ s1 := .foldl h (fun _ h _ => h.restoreRecord)
    exact .ite (.foldl h1 (fun _ h _ => .ite h.dropBad h.restoreEntry)) h

theorem Evolves.bootDumpState (h : Evolves s₀ s) : Evolves s₀ s.bootDumpState := by
  unfold State.bootDumpState
  extract_lets _ s1 s2
  have h1 : Evolves s₀ s1 := h.put
  have h2 : Evolves s₀ s2 := .ite h1.faultBit.modHost h1
  exact .ite h2.startArming h2

/-! ### Machine/Images.lean -/

theorem Evolves.raiseCounter {a n} (h : Evolves s₀ s) : Evolves s₀ (s.raiseCounter a n) := by
  refine .ite (h.writeOtp fun j hj => ?_) h
  rw [Nat.lor_eq, Nat.testBit_or, Bool.or_eq_true]
  exact .inl hj

theorem Evolves.writeDir {patch halves} (h : Evolves s₀ s) : Evolves s₀ (s.writeDir patch halves) := h.flashWrite

/-! ### Machine/Signet.lean -/

theorem Evolves.logEntryOf {e} (h : Evolves s₀ s) : Evolves s₀ (s.logEntryOf e) := .ite h.modSig.put h.put

theorem Evolves.extend {slot digest entry} (h : Evolves s₀ s) : Evolves s₀ (s.extend slot digest entry) :=
  h.putWords.logEntryOf

theorem Evolves.measured {slot kind die fallback source i} (h : Evolves s₀ s) :
    Evolves s₀ (s.measured slot kind die fallback source i) :=
  h.extend

theorem Evolves.refusedImg {slot kind die code source i} (h : Evolves s₀ s) :
    Evolves s₀ (s.refusedImg slot kind die code source i) :=
  .ite h.logEntryOf h

theorem Evolves.closeRecord (h : Evolves s₀ s) : Evolves s₀ s.closeRecord := .ite h (.ite h.put.modSig.put h.put.modSig)

theorem Evolves.coloLateClose (h : Evolves s₀ s) : Evolves s₀ (coloLateClose s) := .ite h.put.closeRecord h

theorem Evolves.reserve {e} (h : Evolves s₀ s) : Evolves s₀ (s.reserve e) := h.nvsWrite.nvsWrite.modSig

theorem Evolves.lmsExhausted (h : Evolves s₀ s) : Evolves s₀ s.lmsExhausted := h.put.faultBit

theorem Evolves.lmsStart (h : Evolves s₀ s) : Evolves s₀ s.lmsStart :=
  .ite h.setNum.modSig.reserve h.setNum.modSig.lmsExhausted

theorem Evolves.lmsTree (h : Evolves s₀ s) : Evolves s₀ (lmsTree s) := .ite h.put (.ite h.modSig h)

theorem Evolves.signRecord {reason index} (h : Evolves s₀ s) : Evolves s₀ (s.signRecord reason index) := by
  unfold State.signRecord
  split
  next x _ s1 e =>
    have h1 : Evolves s₀ s1 := .of_snd e h.draw
    extract_lets _ _ _ _ s2 s3 s4
    have h2 : Evolves s₀ s2 := h1.modSig
    have h3 : Evolves s₀ s3 := h2.put.put.put
    have h4 : Evolves s₀ s4 := .ite h3.put h3
    exact h4.raise

theorem Evolves.usedIndex {q} (h : Evolves s₀ s) : Evolves s₀ (s.usedIndex q) := by
  unfold State.usedIndex
  extract_lets s1 s2
  have h1 : Evolves s₀ s1 := h.setNum
  have h2 : Evolves s₀ s2 := .ite h1.lmsExhausted h1
  exact .ite h2.put.modSig h2

theorem Evolves.colophonSign {stored} (h : Evolves s₀ s) : Evolves s₀ (colophonSign stored s) := by
  unfold Machine.colophonSign
  extract_lets _ s1
  have h1 : Evolves s₀ s1 := h.reserve
  split
  · exact h
  · exact .ite h (.ite h.signRecord (.ite h (.ite (.ite h1.signRecord.usedIndex h.noteBit) h.signRecord.usedIndex)))

theorem Evolves.getLogColophon {t' x} (h : Evolves s₀ s) : Evolves s₀ (getLogColophon t' x s) := by
  unfold Machine.getLogColophon
  refine .ite h ?_
  split
  · exact h.failTag
  · exact h.giveData

theorem Evolves.sigCmd {op} (h : Evolves s₀ s) : Evolves s₀ (sigCmd op s) :=
  .ite h.put (.ite h.put.put.put.raise h.put.modSig)

theorem Evolves.sigEnd {result code} (h : Evolves s₀ s) : Evolves s₀ (s.sigEnd result code) :=
  .raise (.modSig (.put (.put (.put (.put (.ite h.noteBit h))))))

theorem Evolves.sigPut {bs} (h : Evolves s₀ s) : Evolves s₀ (s.sigPut bs) := by
  unfold State.sigPut
  split
  next x s1 e =>
    have h1 : Evolves s₀ s1 := .of_snd e h.physWrite
    exact h1.sigEnd
  next x s1 e =>
    have h1 : Evolves s₀ s1 := .of_snd e h.physWrite
    exact h1.sigEnd

theorem Evolves.sigOpDone (h : Evolves s₀ s) : Evolves s₀ (sigOpDone s) := by
  unfold Machine.sigOpDone
  split
  · exact h
  · extract_lets
    split
    next _ x _ s1 e =>
      have h1 : Evolves s₀ s1 := .of_snd e h.physRead
      exact h1.sigPut
    next _ x s1 e =>
      have h1 : Evolves s₀ s1 := .of_snd e h.physRead
      exact h1.sigEnd
  · extract_lets
    split
    next _ x _ s1 e =>
      have h1 : Evolves s₀ s1 := .of_snd e h.physRead
      exact h1.sigPut
    next _ x s1 e =>
      have h1 : Evolves s₀ s1 := .of_snd e h.physRead
      exact h1.sigEnd
  · split
    next x s1 e =>
      have h1 : Evolves s₀ s1 := .of_snd e h.physRead
      exact h1.sigEnd
    next x _ s1 e =>
      have h1 : Evolves s₀ s1 := .of_snd e h.physRead
      extract_lets
      split
      next _ x1 s2 e1 =>
        have h2 : Evolves s₀ s2 := .of_snd e1 h1.physRead
        exact h2.sigEnd
      next _ x1 _ s2 e1 =>
        have h2 : Evolves s₀ s2 := .of_snd e1 h1.physRead
        split
        · exact h2.sigEnd
        · exact h2.sigEnd
  · split
    next x s1 e =>
      have h1 : Evolves s₀ s1 := .of_snd e h.physRead
      exact h1.sigEnd
    next x _ s1 e =>
      have h1 : Evolves s₀ s1 := .of_snd e h.physRead
      exact .ite h1.sigEnd h1.extend.sigEnd
  · extract_lets
    split
    · exact h.sigEnd
    · split
      next x _ s1 e =>
        have h1 : Evolves s₀ s1 := .of_snd e h.drawBytes
        exact h1.sigPut

/-! ### Machine/Boot.lean -/

theorem Evolves.showChSupplies (h : Evolves s₀ s) : Evolves s₀ s.showChSupplies := h.put

theorem Evolves.bootFail {stage code cls inst} (h : Evolves s₀ s) : Evolves s₀ (s.bootFail stage code cls inst) :=
  .log (.ite h.put.put h)

theorem Evolves.romServices (h : Evolves s₀ s) : Evolves s₀ s.romServices := h.put.closeRecord

theorem Evolves.ledAlarm (h : Evolves s₀ s) : Evolves s₀ s.ledAlarm := h.setNum

theorem Evolves.restoreKept (h : Evolves s₀ s) : Evolves s₀ s.restoreKept := by
  unfold State.restoreKept
  extract_lets s1 s2 s3 s4 s5 s6 s7 s8
  have h1 : Evolves s₀ s1 := h.set64
  have h2 : Evolves s₀ s2 := h1.setNum
  have h3 : Evolves s₀ s3 := .foldl h2 (fun _ h _ => h.setNum)
  have h4 : Evolves s₀ s4 := .foldl h3 (fun _ h _ => h.put.set64)
  have h5 : Evolves s₀ s5 := .foldl h4 (fun _ h _ => .set64 (.put (.foldl h (fun _ h1 _ => h1.put))))
  have h6 : Evolves s₀ s6 := h5.put
  have h7 : Evolves s₀ s7 := h6.put
  have h8 : Evolves s₀ s8 := h7.put
  exact .ite h8.put h8

/-- Power-on reset keeps the NV store, the flash and the OTP array, and empties the rest. -/
theorem Evolves.powerOn (h : Evolves s₀ s) : Evolves s₀ s.powerOn := by
  refine .restoreKept (.put ⟨h.pending, fun w => ?_, h.otp⟩)
  have hr : State.reset.Wf := State.wf_of_wfb rfl
  exact { hr with nvs := (h.wf w).nvs, flash := (h.wf w).flash, otp := (h.wf w).otp }

theorem Evolves.powerDomains {a b} (h : Evolves s₀ s) : Evolves s₀ (s.powerDomains a b) := h.modLad.showDomains

theorem Evolves.keeperRecord {sev} (h : Evolves s₀ s) : Evolves s₀ (s.keeperRecord sev) := by
  unfold State.keeperRecord
  split
  next x _ s1 e =>
    have h1 : Evolves s₀ s1 := .of_snd e h.draw
    split
    next x1 _ s2 e1 =>
      have h2 : Evolves s₀ s2 := .of_snd e1 h1.draw
      split
      next x2 _ s3 e2 =>
        have h3 : Evolves s₀ s3 := .of_snd e2 h2.draw
        exact h3.log

theorem Evolves.setKeeper {b} (h : Evolves s₀ s) : Evolves s₀ { s with keeper := b } := .frame h rfl

theorem Evolves.startKeeper {k fallback} (h : Evolves s₀ s) : Evolves s₀ (s.startKeeper k fallback) := by
  unfold State.startKeeper
  split
  · exact h
  · extract_lets s1 s2 s3 s4
    have h4 : Evolves s₀ s4 := h.measured.setKeeper.modSig.put.put.put
    exact .ite h4.put.keeperRecord h4

theorem Evolves.keeperRomBoot (h : Evolves s₀ s) : Evolves s₀ (keeperRomBoot s) := by
  unfold Machine.keeperRomBoot
  extract_lets _ s1 s2 s3 _ s4 s5
  have h1 : Evolves s₀ s1 := h.nvsWrite.setNum
  have h2 : Evolves s₀ s2 := h1.put.put
  have h3 : Evolves s₀ s3 := h2.powerDomains.powerDomains.put.calBoot
  have h4 : Evolves s₀ s4 := h3.extend
  have h5 : Evolves s₀ s5 := h4.extend
  refine .ite h (.ite h.bootFail ?_)
  split
  · exact h5.startKeeper
  · extract_lets s6
    have h6 : Evolves s₀ s6 := by
      unfold s6
      split
      · exact h5.refusedImg
      · exact h5
    split
    · exact h6.startKeeper
    · extract_lets s7
      have h7 : Evolves s₀ s7 := by
        unfold s7
        split
        · exact h6.refusedImg
        · exact h6
      exact h7.bootFail

theorem Evolves.hubResetRelease (h : Evolves s₀ s) : Evolves s₀ (hubResetRelease s) :=
  .ite h (.ite (.ite h.powerDomains.put.calBoot h.bootFail) (.ite h.powerDomains.calBoot.lmsStart.put.romServices h))

theorem Evolves.refusedSlot {k code} (h : Evolves s₀ s) : Evolves s₀ (s.refusedSlot k code) := by
  unfold State.refusedSlot
  exact .ite h.logEntryOf h

theorem Evolves.setImg {i} (h : Evolves s₀ s) : Evolves s₀ { s with img := i } := .frame h rfl

theorem Evolves.acceptImage {k i refused} (h : Evolves s₀ s) : Evolves s₀ (s.acceptImage k i refused) := by
  unfold State.acceptImage
  extract_lets s1 fb s2 s3 s4 s5 d s6 s7 old s8
  have h1 : Evolves s₀ s1 := h.put.put
  have h3 : Evolves s₀ s3 := .ite h1.put.modSig.log h1
  have h4 : Evolves s₀ s4 := .ite h3.raiseCounter.put h3
  have h7 : Evolves s₀ s7 := h4.setNum.put.put.putWords.extend
  have h8 : Evolves s₀ s8 := h7.setImg
  exact .ite h8 h8.alignRef

theorem Evolves.setGrant {die u g} (h : Evolves s₀ s) : Evolves s₀ (s.setGrant die u g) := .ite h.put h.put.put

theorem Evolves.grantUnits {i die} (h : Evolves s₀ s) : Evolves s₀ (s.grantUnits i die) := by
  unfold State.grantUnits
  split
  · exact h
  · exact .foldl h (fun _ h _ => .ite h.setGrant h)

theorem Evolves.becomeBlank {code} (h : Evolves s₀ s) : Evolves s₀ (s.becomeBlank code) :=
  .closeRecord (.ledAlarm (.put (.bootFail (.spinOff (.grantUnits (.frame h rfl))))))

theorem Evolves.stage3 (h : Evolves s₀ s) : Evolves s₀ s.stage3 := by
  unfold State.stage3
  extract_lets rom s1
  have h1 : Evolves s₀ s1 := h.extend
  clear_value s1
  split
  · exact .ite h1.acceptImage h1.acceptImage
  · exact h1.put.refusedSlot.acceptImage
  · exact h1.put.refusedSlot.acceptImage
  · exact h1.put.put.refusedSlot.refusedSlot.becomeBlank

theorem Evolves.imageUnits {i up} (h : Evolves s₀ s) : Evolves s₀ (s.imageUnits i up) := by
  unfold State.imageUnits
  extract_lets s1 s2 s3 s4 s5 s6 s7 s8
  have h1 : Evolves s₀ s1 := h.grantUnits.grantUnits
  have h2 : Evolves s₀ s2 := .foldl h1 (fun _ h _ => .ite h.put h)
  have h3 : Evolves s₀ s3 := .ite (.foldl h2 (fun _ h _ => h.put.setNum.setNum.setNum.put)) h2
  have h4 : Evolves s₀ s4 := .ite (.foldl h3 (fun _ h _ => h.setNum)) h3
  have h5 : Evolves s₀ s5 := .ite h4.put.put h4
  have h6 : Evolves s₀ s6 := .ite (.foldl h5 (fun _ h _ => h.wr)) h5
  have h7 : Evolves s₀ s7 := .foldl h6 (fun _ h _ => .ite (.foldl h.put.grantUnits (fun _ h1 _ => h1.wr)) h)
  have h8 : Evolves s₀ s8 := .foldl h7 (fun _ h _ => .ite h.put.grantUnits h)
  exact .foldl h8 (fun _ h _ => .ite h.put.grantUnits h)

theorem Evolves.hubImage {i} (h : Evolves s₀ s) : Evolves s₀ (s.hubImage i) :=
  .foldl (.put (.foldl (.foldl (.put (.foldl h.imageUnits (fun _ h _ => h.put))) (fun _ h _ => h.putRoutes))
      (fun _ h _ => h.setActState))) (fun _ h _ => h.put.put.put.put)

theorem Evolves.dieUp {i n} (h : Evolves s₀ s) : Evolves s₀ (s.dieUp i n) :=
  .armPreamp (.calBoot (.linkBoth (.put (.foldl (.put (.grantUnits (.put (.put (.powerDomains (.frame h rfl))))))
      (fun _ h _ => h.wr)))))

theorem Evolves.dieStaysOff {n addr bit} (h : Evolves s₀ s) : Evolves s₀ (s.dieStaysOff n addr bit) :=
  .degrade (.setDownDies h.chOff.put)

theorem Evolves.chSupplyTimeout {n} (h : Evolves s₀ s) : Evolves s₀ (chSupplyTimeout n s) :=
  .ite (.dieStaysOff (.log (.put (.frame h rfl)))) h

theorem Evolves.setChWait {l} (h : Evolves s₀ s) : Evolves s₀ { s with chWait := l } := .frame h rfl

theorem Evolves.bringDie {i n} (h : Evolves s₀ s) : Evolves s₀ (s.bringDie i n) :=
  .ite h (.ite h.bootFail.dieStaysOff (.ite h.dieUp h.put.put.setChWait))

theorem Evolves.dramUp (h : Evolves s₀ s) : Evolves s₀ s.dramUp := h.dramMode.put

theorem Evolves.stage4 {i dies} (h : Evolves s₀ s) : Evolves s₀ (s.stage4 i dies) := by
  unfold State.stage4
  extract_lets s1 s2 s3 s4 s5 s6 s7 s8
  have h1 : Evolves s₀ s1 := h.powerDomains.powerDomains.dramUp.showChSupplies
  have h2 : Evolves s₀ s2 := h1.linkBoth
  have h3 : Evolves s₀ s3 := h2.put.put
  have h4 : Evolves s₀ s4 := h3.deriveSpin.startBeat
  have h5 : Evolves s₀ s5 := .ite h4 h4.logRestore
  have h6 : Evolves s₀ s6 := h5.bootDumpState
  have h7 : Evolves s₀ s7 := .ite (.foldl h6 (fun _ h _ => h.bringDie)) h6
  have h8 : Evolves s₀ s8 := h7.put
  exact .frame h8 rfl

theorem Evolves.refusedSet {code source is} (h : Evolves s₀ s) : Evolves s₀ (s.refusedSet code source is) := by
  unfold State.refusedSet
  refine .foldl h (fun s1 h1 _ => ?_)
  split
  · exact h1.refusedImg
  · exact .ite h1.refusedImg h1

theorem Evolves.usePatch {k fallback is} (h : Evolves s₀ s) : Evolves s₀ (s.usePatch k fallback is) := by
  unfold State.usePatch
  extract_lets s1
  have h1 : Evolves s₀ s1 := .foldl h (fun _ h _ => h.measured.modSig)
  exact h1.modUpd.modSig

theorem Evolves.patchDie {ws n} (h : Evolves s₀ s) : Evolves s₀ (s.patchDie ws n) := h.modLmu

theorem Evolves.noDies {stage code} (h : Evolves s₀ s) : Evolves s₀ (s.noDies stage code) :=
  .setChWait (.foldl h.bootFail fun _ h _ => .ite h.dieStaysOff h)

theorem Evolves.stage5 (h : Evolves s₀ s) : Evolves s₀ s.stage5 := by
  unfold State.stage5
  extract_lets _ _ s1
  have h1 : Evolves s₀ s1 := by
    unfold s1
    split
    · exact h.usePatch
    · extract_lets s2
      have h2 : Evolves s₀ s2 := h.refusedSet
      split
      · exact h2.usePatch
      · exact h2.refusedSet.noDies
  exact .put (.foldl h1 (fun _ h _ => h.patchDie))

theorem Evolves.measureOnce {w fallback source i} (h : Evolves s₀ s) : Evolves s₀ (s.measureOnce w fallback source i) :=
  .ite h h.measured

theorem Evolves.tryHalf {w p upper fallback} (h : Evolves s₀ s) : Evolves s₀ (s.tryHalf w p upper fallback).2 := by
  unfold State.tryHalf
  split
  · exact h
  · split
    · exact h.measureOnce
    · exact h.refusedImg

theorem Evolves.takeImage {w p} (h : Evolves s₀ s) : Evolves s₀ (s.takeImage w p).2 := by
  unfold State.takeImage
  extract_lets
  split
  · next e => exact .of_snd e h.tryHalf
  · next e =>
    have h1 := Evolves.of_snd e h.tryHalf
    split
    · next e' => exact .pair (Evolves.of_snd e' h1.tryHalf).modSig
    · next e' =>
      have h2 := Evolves.of_snd e' h1.tryHalf
      split
      · exact h2
      · exact h2
      · exact h2

theorem Evolves.setRun {p upper} (h : Evolves s₀ s) : Evolves s₀ (s.setRun p upper) := h.put

theorem Evolves.setWarm {c base} (h : Evolves s₀ s) : Evolves s₀ (s.setWarm c base) := h.setNum.setNum

theorem Evolves.loadHub {p i} (h : Evolves s₀ s) : Evolves s₀ (s.loadHub p i) := by
  unfold State.loadHub
  extract_lets s1 s2
  have h1 : Evolves s₀ s1 := h.physWrite
  have h2 : Evolves s₀ s2 := .foldl h1 (fun _ h _ => .ite h.setWarm h)
  exact .ite h2.modSig h2

theorem Evolves.loadCh {n i} (h : Evolves s₀ s) : Evolves s₀ (s.loadCh n i) := by
  unfold State.loadCh
  extract_lets s1 s2
  have h1 : Evolves s₀ s1 := h.csWrite
  have h2 : Evolves s₀ s2 := .foldl h1 (fun _ h _ => .ite h.setWarm h)
  exact h2.modSig

theorem Evolves.loadMicro {n i} (h : Evolves s₀ s) : Evolves s₀ (s.loadMicro n i) := h.csWrite.putWords

theorem Evolves.hubPart {p} (h : Evolves s₀ s) : Evolves s₀ (s.hubPart p).2 := by
  unfold State.hubPart
  split
  next x _ _ s1 e =>
    have h1 : Evolves s₀ s1 := .of_snd e h.takeImage
    exact h1.loadHub.setRun
  next x _ s1 _ e =>
    have h1 : Evolves s₀ s1 := .of_snd e h.takeImage
    exact h1.bootFail

theorem Evolves.chPartLoad {p ns} (h : Evolves s₀ s) : Evolves s₀ (s.chPartLoad p ns) := by
  unfold State.chPartLoad
  extract_lets off
  have hoff : ∀ s c, Evolves s₀ s → Evolves s₀ (off s c) := fun _ _ h => .foldl h fun _ h _ => h.bootFail.dieStaysOff
  split
  · next e =>
    have h1 := Evolves.of_snd e h.takeImage
    extract_lets s1 s2
    have hl : Evolves s₀ s1 := .foldl h1 fun _ h _ => h.loadCh
    have h2 : Evolves s₀ s2 := .ite hl hl.setRun
    split
    · next e => exact .of_snd e h2.takeImage
    · next e => exact .foldl (.of_snd e h2.takeImage) fun _ h _ => h.loadMicro
    · next e => exact hoff _ _ (.of_snd e h2.takeImage)
  · next e => exact hoff _ _ (.of_snd e h.takeImage)

theorem Evolves.chFirmware {ns} (h : Evolves s₀ s) : Evolves s₀ (s.chFirmware ns) :=
  .foldl h (fun _ h _ => .ite h h.chPartLoad)

theorem Evolves.showSel (h : Evolves s₀ s) : Evolves s₀ s.showSel := h.put.put.put

theorem Evolves.stage6 (h : Evolves s₀ s) : Evolves s₀ (s.stage6).2 := by
  unfold State.stage6
  extract_lets r
  have hr : Evolves s₀ r.2 := .foldl_snd h (fun _ h _ => .ite_snd h.hubPart h)
  exact .ite_snd hr.chFirmware.showSel.put hr.showSel

theorem Evolves.startDie {n} (h : Evolves s₀ s) : Evolves s₀ (s.startDie n) := h.startCore.put

theorem Evolves.stage7 (h : Evolves s₀ s) : Evolves s₀ s.stage7 := by
  unfold State.stage7
  extract_lets _ s1 s2 s3
  have h1 : Evolves s₀ s1 := h.extend
  have h2 : Evolves s₀ s2 := h1.startCore.put
  have h3 : Evolves s₀ s3 := .foldl h2 (fun _ h _ => h.startDie)
  exact h3.put.modSig

theorem Evolves.setReloadUs {n} (h : Evolves s₀ s) : Evolves s₀ { s with reloadUs := n } := .frame h rfl

theorem Evolves.hubRomBoot {dramGood reloadUs} (h : Evolves s₀ s) : Evolves s₀ (hubRomBoot dramGood reloadUs s) := by
  unfold Machine.hubRomBoot
  refine .ite h ?_
  extract_lets s1 s2
  have h2 : Evolves s₀ s2 := h.lmsStart.put.stage3
  split
  · exact h2
  · extract_lets s3 third s4 s5
    have h3 : Evolves s₀ s3 := h2.put.hubImage
    have h4 : Evolves s₀ s4 := h3.powerDomains.powerDomains
    have h5 : Evolves s₀ s5 := h3.stage4.stage5
    refine .ite h3.ledAlarm.closeRecord (.ite h4.deriveSpin.startBeat.bootFail.romServices (.ite h3.stage4.romServices ?_))
    split
    · next e => exact .romServices (.of_snd e h5.stage6)
    · next e => exact .setReloadUs (.stage7 (.of_snd e h5.stage6))

theorem Evolves.lateDie {n} (h : Evolves s₀ s) : Evolves s₀ (s.lateDie n) := by
  unfold State.lateDie
  refine .ite ?_ h
  split
  · exact h
  · extract_lets s1 s2 s3
    have h1 : Evolves s₀ s1 := .dieUp (.frame h rfl)
    have h2 : Evolves s₀ s2 := .ite h1.patchDie h1
    have h3 : Evolves s₀ s3 := .ite h2.chFirmware h2
    exact .ite h3.startDie h3

theorem Evolves.endBoot {due l d e} (h : Evolves s₀ s) :
    Evolves s₀ { s with bootDue := due, fatal := l, dbg := d, dmp := e } := .frame h rfl

theorem Evolves.fullBoot (h : Evolves s₀ s) : Evolves s₀ (fullBoot s) := by
  unfold Machine.fullBoot
  split
  · exact h
  · refine .ite ?_ h
    extract_lets s1 s2 s3 s4 s5 s6 s7
    have h1 : Evolves s₀ s1 := h.hubReset
    have h3 : Evolves s₀ s3 := h1.put.put.put.put.put.setNum
    have h5 : Evolves s₀ s5 := h3.put.put.put.put.put.put
    have h7 : Evolves s₀ s7 := h5.modLad.modLog
    exact h7.endBoot

theorem Evolves.fullBootRequest {v} (h : Evolves s₀ s) : Evolves s₀ (fullBootRequest v s) := .ite h.bootCaused h

theorem Evolves.blankImageDownload {t' x} (h : Evolves s₀ s) : Evolves s₀ (blankImageDownload t' x s) := by
  unfold Machine.blankImageDownload
  split
  · exact h.failTag
  · extract_lets _ s1
    have h1 : Evolves s₀ s1 := h.flashErase.flashWrite
    exact .ite h.failTag (.ite h.failTag (.okTag (.frame h1 rfl)))

theorem Evolves.keeperImageDownload {t' x} (h : Evolves s₀ s) : Evolves s₀ (keeperImageDownload t' x s) := by
  unfold Machine.keeperImageDownload
  split
  · exact h.failTag
  · refine .ite h.failTag ?_
    split
    · exact h.failTag
    · exact .okTag (.frame h.nvsWrite rfl)

/-! ### Machine/Debug.lean -/

theorem Evolves.dbgChal (h : Evolves s₀ s) : Evolves s₀ (dbgChal s) := by
  unfold Machine.dbgChal
  split
  next x _ s1 e =>
    have h1 : Evolves s₀ s1 := .of_snd e h.drawBytes
    exact .frame h1 rfl

theorem Evolves.challengeExpire (h : Evolves s₀ s) : Evolves s₀ (challengeExpire s) := .ite (.frame h rfl) h

theorem Evolves.takeToken {t'} (h : Evolves s₀ s) : Evolves s₀ (s.takeToken t') := .ite h (.frame h.put rfl)

theorem Evolves.dbgSubmit (h : Evolves s₀ s) : Evolves s₀ (dbgSubmit s) := by
  unfold Machine.dbgSubmit
  refine .ite h (.ite ?_ h.takeToken)
  split
  next x _ s1 e =>
    have h1 : Evolves s₀ s1 := .of_snd e h.physRead
    exact h1.takeToken
  next x s1 e =>
    have h1 : Evolves s₀ s1 := .of_snd e h.physRead
    exact h1.takeToken

theorem Evolves.grantLevel {t'} (h : Evolves s₀ s) : Evolves s₀ (s.grantLevel t') := by
  unfold State.grantLevel
  exact h.extend.log.put.modSig

theorem Evolves.setDbg {d} (h : Evolves s₀ s) : Evolves s₀ { s with dbg := d } := .frame h rfl

theorem Evolves.tokenCheckDone (h : Evolves s₀ s) : Evolves s₀ (tokenCheckDone s) := by
  unfold Machine.tokenCheckDone
  split
  · exact h
  · refine .raise ?_
    split
    · exact h.put.setDbg.put.put
    · exact h.put.setDbg.put.grantLevel

theorem Evolves.otpProgWrite {v} (h : Evolves s₀ s) : Evolves s₀ (otpProgWrite v s) := .ite h.put (.frame h.put rfl)

theorem Evolves.setOtpJob {j} (h : Evolves s₀ s) : Evolves s₀ { s with otpJob := j } := .frame h rfl

theorem Evolves.otpProgramDone (h : Evolves s₀ s) : Evolves s₀ (otpProgramDone s) := by
  unfold Machine.otpProgramDone
  split
  · exact h
  · next a b _ =>
    have h1 : Evolves s₀ { s.put OTP_STAT_BUSY 0 with otpJob := none } := h.put.setOtpJob
    exact h1.writeOtp fun j hj => testBit_setBitN hj

theorem Evolves.nvsNext (h : Evolves s₀ s) : Evolves s₀ s.nvsNext := h.put

theorem Evolves.holdNvs {v} (h : Evolves s₀ s) : Evolves s₀ (s.holdNvs v) := .answer (.frame h rfl)

theorem Evolves.nvsDataWrite {v} (h : Evolves s₀ s) : Evolves s₀ (nvsDataWrite v s) :=
  .ite h.holdNvs (.ite (.nvsNext (.frame h.put rfl)) h.noteBit.nvsNext)

theorem Evolves.nvsDataRead (h : Evolves s₀ s) : Evolves s₀ (nvsDataRead s) := .ite h.holdNvs h.answer.nvsNext

theorem Evolves.releaseNvs (h : Evolves s₀ s) : Evolves s₀ s.releaseNvs := by
  unfold State.releaseNvs
  refine .foldl (.frame h rfl) (fun s1 h1 _ => ?_)
  split
  · exact h1.nvsDataWrite
  · exact h1.nvsDataRead

theorem Evolves.nvsWriteDone {ok} (h : Evolves s₀ s) : Evolves s₀ (nvsWriteDone ok s) := by
  unfold Machine.nvsWriteDone
  extract_lets s1 s2
  have h1 : Evolves s₀ s1 := h.put
  have h2 : Evolves s₀ s2 := .frame h1 rfl
  split
  · exact h
  · exact .releaseNvs (.ite h2.nvsWrite h2.noteBit)

/-! ### Machine/Dram.lean -/

theorem Evolves.found {m a u} (h : Evolves s₀ s) : Evolves s₀ (s.found m a u) := by
  unfold State.found
  split
  · exact h
  · exact h.memCe
  · exact .ite h h.setMark
  · exact h.fatalCause

theorem Evolves.dramWriteCmd {cls a bytes found} (h : Evolves s₀ s) : Evolves s₀ (dramWriteCmd cls a bytes found s) :=
  .ite h.answer (.answer (.physWrite (.ite h.fatalCause (.ite h h.found))))

theorem Evolves.dcmdRej (h : Evolves s₀ s) : Evolves s₀ s.dcmdRej := h.put

theorem Evolves.invalidateCmd {count} (h : Evolves s₀ s) : Evolves s₀ (invalidateCmd count s) := by
  unfold Machine.invalidateCmd
  refine .ite h.dcmdRej ?_
  split
  · exact h.dcmdRej
  · exact .ite h.dcmdRej h.discardUnits.put

theorem Evolves.copyUnit {u} (h : Evolves s₀ s) : Evolves s₀ (s.copyUnit u) := by
  unfold State.copyUnit
  refine .foldl h (fun s1 h1 _ => ?_)
  split
  · exact h1.memCe.setMark.setArray fun w => Memory.writeN_wf (h1.wf w).dram
  · exact h1.setMark
  · exact h1.memUe.setMark
  · exact h1

theorem Evolves.spareCmd (h : Evolves s₀ s) : Evolves s₀ (spareCmd s) := by
  unfold Machine.spareCmd
  refine .ite h.dcmdRej ?_
  split
  · exact h.dcmdRej
  · extract_lets _ s1 s2
    have h1 : Evolves s₀ s1 := h.put
    have h2 : Evolves s₀ s2 := h.copyUnit.put.put
    exact .ite (.frame h1 rfl) (.frame h2 rfl)

theorem Evolves.dcmdDone (h : Evolves s₀ s) : Evolves s₀ (dcmdDone s) :=
  .ite (.frame (.raise (.ite h.put.put.put h.put.put)) rfl) h

theorem Evolves.cleanLines {scope} (h : Evolves s₀ s) : Evolves s₀ (s.cleanLines scope) :=
  .foldl (.foldl h (fun _ h _ => h.writeOut)) (fun _ h _ => h.writeBack.setLine)

theorem Evolves.invalLines {scope} (h : Evolves s₀ s) : Evolves s₀ (s.invalLines scope) :=
  .foldl h (fun _ h _ => h.dropLine)

theorem Evolves.mopStart {f} (h : Evolves s₀ s) (hf : ∀ s, Evolves s₀ s → Evolves s₀ (f s)) : Evolves s₀ (mopStart f s) :=
  .ite h.put (.put (hf _ h))

theorem Evolves.cleanInvalAll (h : Evolves s₀ s) : Evolves s₀ s.cleanInvalAll := h.cleanLines.invalLines

theorem Evolves.mopDone (h : Evolves s₀ s) : Evolves s₀ (mopDone s) := .ite h.put.put.raise h

theorem Evolves.scrubUe {m a} (h : Evolves s₀ s) : Evolves s₀ (s.scrubUe m a) := h.set64.faultBit

theorem Evolves.scrubWord {m a} (h : Evolves s₀ s) : Evolves s₀ (s.scrubWord m a) := by
  unfold State.scrubWord
  extract_lets _ s1
  have h1 : Evolves s₀ s1 := h.memCe.setMark
  split
  · exact h
  · split
    · exact h.setMark
    · refine .ite ?_ (h1.setArray fun w => Memory.writeN_wf ((h1.wf w).array m))
      split
      · exact h1.setLine
      · exact h1
    · exact h.scrubUe
    · exact h.scrubUe

theorem Evolves.scrubItem {m a found} (h : Evolves s₀ s) : Evolves s₀ (scrubItem m a found s) := by
  unfold Machine.scrubItem
  extract_lets _ s1 s2
  have h1 : Evolves s₀ s1 := h.put
  have h2 : Evolves s₀ s2 := .ite h (.frame h1 rfl)
  exact .ite h (.ite h2.found.scrubWord h2)

theorem Evolves.scrubLapEnd {m} (h : Evolves s₀ s) : Evolves s₀ (scrubLapEnd m s) := .ite h.put.setNum.put h

theorem Evolves.expertGate {a f} (h : Evolves s₀ s) (hf : ∀ s, Evolves s₀ s → Evolves s₀ (f s)) :
    Evolves s₀ (s.expertGate a f) :=
  .ite (hf _ h) h.wr

theorem Evolves.taFill {m data lo hi} (h : Evolves s₀ s) : Evolves s₀ (s.taFill m data lo hi) :=
  .put (.setNum (.setNum (.foldl h (fun _ h _ => h.setNum))))

theorem Evolves.checkAt {m a data} (h : Evolves s₀ s) : Evolves s₀ (s.checkAt m a data).2 := by
  unfold State.checkAt
  split
  · exact h
  · exact h
  · exact h
  · exact h.draw

theorem Evolves.checks8 {m a data} (h : Evolves s₀ s) : Evolves s₀ (s.checks8 m a data).2 :=
  .foldl_snd h (fun _ h _ => h.checkAt)

theorem Evolves.readRaw {m} (h : Evolves s₀ s) : Evolves s₀ (readRaw m s) := by
  unfold Machine.readRaw
  split
  · exact h
  · refine .ite ?_ (.ite (.ite ?_ ?_) ?_)
    · split
      · exact h.put
      · extract_lets
        split
        next e => exact .taFill (.of_snd e h.checks8)
    · split
      next e => exact .taFill (.of_snd e h.checkAt)
    · split
      next e => exact .taFill (.of_snd e h.checks8)
    · split
      next e =>
        have h1 := Evolves.of_snd e h.draw
        split
        next e => exact .taFill (.of_snd e h1.draw)

theorem Evolves.writeRaw {m} (h : Evolves s₀ s) : Evolves s₀ (writeRaw m s) := by
  unfold Machine.writeRaw
  extract_lets b d lo c marks8
  have hmarks : ∀ s a, Evolves s₀ s → Evolves s₀ (marks8 s a) := fun _ _ h => .foldl h fun _ h _ => h.setMark
  split
  · exact h
  · next a _ =>
    have hdram : Evolves s₀ (s.setArray 0 (s.dram.writeN 0 a d)) := h.setArray fun w => Memory.writeN_wf (h.wf w).dram
    refine .ite (.put (.setMark (.frame hdram rfl))) (.ite ?_ (.ite h (.put (hmarks _ _ (.validate ?_)))))
    · split
      · exact h.put
      · exact .put (hmarks _ _ h.setLine)
    · exact h.setArray fun w => Memory.writeN_wf ((h.wf w).array m)

theorem Evolves.memCntClr {m v} (h : Evolves s₀ s) : Evolves s₀ (memCntClr m v s) := by
  unfold Machine.memCntClr
  extract_lets _ s1
  have h1 : Evolves s₀ s1 := .ite h.setNum h
  exact .ite h1.setNum h1

/-! ### Machine/Fatal.lean -/

theorem Evolves.fatalCmd {v} (h : Evolves s₀ s) : Evolves s₀ (fatalCmd v s) := .ite h.fatalCause h

theorem Evolves.fatalRecord {c} (h : Evolves s₀ s) : Evolves s₀ (s.fatalRecord c) := by
  unfold State.fatalRecord
  split
  · exact h.partFirst.log
  · exact h.partFirst.log

theorem Evolves.unloadAll (h : Evolves s₀ s) : Evolves s₀ s.unloadAll :=
  .foldl h (fun _ h _ => .ite h (.ite h.retractLane h.startUnload))

theorem Evolves.hostFatal (h : Evolves s₀ s) : Evolves s₀ s.hostFatal := h.modHost.noteBit

theorem Evolves.fatalSequence (h : Evolves s₀ s) : Evolves s₀ (fatalSequence s) := by
  unfold Machine.fatalSequence
  split
  · exact h
  · extract_lets s1 _ s2 s3
    have h1 : Evolves s₀ s1 := .frame h rfl
    have h2 : Evolves s₀ s2 := h1.hostFatal.alogUnfreeze.fatalRecord.raise.unloadAll
    have h3 : Evolves s₀ s3 := h2.modLog
    exact .ite h1 (.ite (.frame h3 rfl) h3)

theorem Evolves.fatalRetractTimeout (h : Evolves s₀ s) : Evolves s₀ (fatalRetractTimeout s) :=
  .ite (.modLog (.foldl h (fun _ h _ => .ite h h.retractLane))) h

theorem Evolves.fatalFullBoot (h : Evolves s₀ s) : Evolves s₀ (fatalFullBoot s) :=
  .ite (.bootCaused (.stopBeat (.alogCopy (.ite h h.setSpin)))) h

theorem Evolves.kprLinkFailTimer {second} (h : Evolves s₀ s) : Evolves s₀ (kprLinkFailTimer second s) :=
  .ite (.ite h.bootCaused h.stopBeat) h

theorem Evolves.sealPart {die kind} (h : Evolves s₀ s) : Evolves s₀ (s.sealPart die kind) :=
  h.put.put.log.nvsWrite.unloadAll.spinWrite.bootCaused

/-! ### Machine/Power.lean -/

theorem Evolves.ladderRequest {r l12} (h : Evolves s₀ s) : Evolves s₀ (ladderRequest r l12 s) := by
  unfold Machine.ladderRequest
  extract_lets _ _ s1
  have h1 : Evolves s₀ s1 := h.startExit
  refine .ite h (.ite (.ite h1 h1.modLad) ?_)
  split
  · exact h.put.put.modLad
  · exact .foldl h (fun _ h _ => h.noteBit)

theorem Evolves.ladderCmd {v l12} (h : Evolves s₀ s) : Evolves s₀ (ladderCmd v l12 s) := .ite h.modLad h.ladderRequest

theorem Evolves.maxRungWrite {v} (h : Evolves s₀ s) : Evolves s₀ (maxRungWrite v s) := h.put.limitChanged

theorem Evolves.ladderEnd (h : Evolves s₀ s) : Evolves s₀ s.ladderEnd := by
  unfold State.ladderEnd
  extract_lets q s1
  have h1 : Evolves s₀ s1 := h.put.put.modLad.raise
  clear_value q
  split
  · exact h1.ladderRequest
  · exact h1

theorem Evolves.descend {r} (h : Evolves s₀ s) : Evolves s₀ (s.descend r) :=
  .foldl (.dramMode (.showDomains (.foldl h (fun _ h _ => h.setDomain)))) (fun _ h _ => h.wr)

theorem Evolves.sleepDigest (h : Evolves s₀ s) : Evolves s₀ s.sleepDigest := h.nvsWrite

theorem Evolves.entryActions {r} (h : Evolves s₀ s) : Evolves s₀ (s.entryActions r) :=
  .ite h.cleanInvalAll (.ite (.ite h.emptyDump h) (.ite h.sleepDigest h))

theorem Evolves.rungEntryStep (h : Evolves s₀ s) : Evolves s₀ (rungEntryStep s) := by
  unfold Machine.rungEntryStep
  extract_lets _ _ s1 s2 s3
  have h1 : Evolves s₀ s1 := h.entryActions
  have h2 : Evolves s₀ s2 := .ite h1.saveOptime.alogCopy h1
  have h3 : Evolves s₀ s3 := h2.descend.put
  exact .ite h (.ite (.ite h.ladderEnd h.put.modLad) (.ite h3.put.ladderEnd h3))

theorem Evolves.wakeUp {source} (h : Evolves s₀ s) : Evolves s₀ (wakeUp source s) := .ite h (.ite h.put.startExit h)

theorem Evolves.calRestore {was} (h : Evolves s₀ s) : Evolves s₀ (s.calRestore was) := by
  unfold State.calRestore
  extract_lets _ s1
  have h1 : Evolves s₀ s1 := .ite h.calUp h
  refine .foldl h1 (fun s1 h1 _ => ?_)
  extract_lets s2 s3 s4
  have h2 : Evolves s₀ s2 := .ite h1.calUp h1
  have h3 : Evolves s₀ s3 := .ite h2.calUp h2
  have h4 : Evolves s₀ s4 := .ite h3.calUp h3
  exact .ite h4.calUp h4

theorem Evolves.setValid {l} (h : Evolves s₀ s) : Evolves s₀ { s with valid := l } := .frame h rfl

theorem Evolves.ascend (h : Evolves s₀ s) : Evolves s₀ s.ascend :=
  .dramMode (.showDomains (.calRestore (.ite h.modLad.setValid h.modLad)))

theorem Evolves.reloadHub (h : Evolves s₀ s) : Evolves s₀ (s.reloadHub).2 := by
  unfold State.reloadHub
  refine .foldl_snd h (fun s1 h1 _ => ?_)
  refine .ite_snd ?_ h1
  split
  · exact h1.loadHub
  · exact h1

theorem Evolves.reloadCh (h : Evolves s₀ s) : Evolves s₀ (s.reloadCh).2 := by
  unfold State.reloadCh
  refine .foldl_snd (.foldl_snd (.foldl_snd h (fun s1 h1 _ => ?_)) (fun s1 h1 _ => ?_)) (fun s1 h1 _ => ?_)
  · split
    · exact .ite_snd (.foldl h1 (fun _ h _ => h.patchDie)) h1
    · exact h1
  · refine .ite_snd ?_ h1
    split
    · exact .foldl h1 (fun _ h _ => h.loadCh)
    · exact h1
  · refine .ite_snd ?_ h1
    split
    · exact .foldl h1 (fun _ h _ => h.loadMicro)
    · exact h1

theorem Evolves.showImage {i} (h : Evolves s₀ s) : Evolves s₀ (s.showImage i) := h.put.put.setNum.put.put.putWords

theorem Evolves.resumeUnits {was} (h : Evolves s₀ s) : Evolves s₀ (s.resumeUnits was) := by
  unfold State.resumeUnits
  split
  · exact h
  · extract_lets _ s1 s2 s3 s4 s5
    have h1 : Evolves s₀ s1 := h.imageUnits
    have h2 : Evolves s₀ s2 := .ite h1.showImage h1
    have h3 : Evolves s₀ s3 := .ite h2.put.put h2
    have h4 : Evolves s₀ s4 := .ite h3.deriveSpin h3
    have h5 : Evolves s₀ s5 := .ite h4.linkBoth h4
    exact .foldl h5 (fun _ h _ => .ite h.linkBoth h)

theorem Evolves.rearmAll (h : Evolves s₀ s) : Evolves s₀ s.rearmAll :=
  .foldl h.claspUrgent (fun _ h _ => .ite h.armPreamp h)

theorem Evolves.coresStart {running} (h : Evolves s₀ s) : Evolves s₀ (s.coresStart running) :=
  .foldl h (fun _ h _ => .ite h.startCore h)

theorem Evolves.resume {rung} (h : Evolves s₀ s) : Evolves s₀ (s.resume rung) := by
  unfold State.resume
  extract_lets s1 _ s2 r r1 s3 s4 s5 s6 s7
  have h1 : Evolves s₀ s1 := h.lmsStart
  have h2 : Evolves s₀ s2 := h1.put
  have hr : Evolves s₀ r.2 := .ite_snd h2.reloadHub h2
  have hr1 : Evolves s₀ r1.2 := .ite_snd hr.reloadCh hr
  have h4 : Evolves s₀ s4 := .foldl hr1 (fun _ h _ => h.setWarm)
  have h5 : Evolves s₀ s5 := h4.coresStart
  have h6 : Evolves s₀ s6 := .ite h5.put h5
  have h7 : Evolves s₀ s7 := .foldl h6 (fun _ h _ => .ite h.put h)
  exact .ite h7.rearmAll hr1.bootCaused

theorem Evolves.rungExit (h : Evolves s₀ s) : Evolves s₀ (rungExit s) := by
  unfold Machine.rungExit
  extract_lets _ _ s1 s2 s3 _ s4
  have h1 : Evolves s₀ s1 := h.ascend.resumeUnits
  have h2 : Evolves s₀ s2 := .ite h1.resume h1
  have h3 : Evolves s₀ s3 := h2.put.put
  have h4 : Evolves s₀ s4 := h3.modLad.ladderEnd
  exact .ite h (.ite h4.powerLoss h4)

theorem Evolves.supplyGood' {k} (h : Evolves s₀ s) : Evolves s₀ (Machine.supplyGood k s) := by
  unfold Machine.supplyGood
  extract_lets s1 s2
  have h1 : Evolves s₀ s1 := .ite h.put (.ite h.put h.put)
  have h2 : Evolves s₀ s2 := h1.showChSupplies.raise
  exact .ite h2.lateDie h2

theorem Evolves.setDmp {d} (h : Evolves s₀ s) : Evolves s₀ { s with dmp := d } := .frame h rfl

theorem Evolves.hubSupplyLost (h : Evolves s₀ s) : Evolves s₀ s.hubSupplyLost := by
  have h1 := h.hubReset.put (f := BOOT_STAT_ROM_SERVICES) (x := 0)
  unfold State.hubSupplyLost
  exact .ite h1.modLad.setDmp.showDomains.put.bootCaused h1.modLad.setDmp.showDomains

theorem Evolves.supplyLost {k} (h : Evolves s₀ s) : Evolves s₀ (supplyLost k s) := by
  unfold Machine.supplyLost
  extract_lets s1 _ _ s2
  have h1 : Evolves s₀ s1 := h.put.raise
  have h2 : Evolves s₀ s2 := h.put.showChSupplies.raise
  exact .ite (.ite h.powerOn.put h) (.ite (.ite h (.ite (.ite h1 h1.faultBit.setSpin) (.ite h1.faultBit.hubSupplyLost h1)))
      (.ite h (.ite h2.faultBit.chDown h2)))

theorem Evolves.critical_ {d} (h : Evolves s₀ s) : Evolves s₀ (s.critical_ d) :=
  .ite (.startExit (.chDown (.ite (.frame (.frame h.faultBit rfl) rfl) (.frame h.faultBit rfl))))
      h.faultBit.powerLossWarning

theorem Evolves.setLevel {d l} (h : Evolves s₀ s) : Evolves s₀ (s.setLevel d l) := by
  unfold State.setLevel
  extract_lets _ s1 s2
  have h1 : Evolves s₀ s1 := h.wr.raise
  have h2 : Evolves s₀ s2 := .ite h1.faultBit.aenAll h1
  exact .ite h (.ite h1 (.ite h2.critical_ h2))

theorem Evolves.sensorBroken {d} (h : Evolves s₀ s) : Evolves s₀ (sensorBroken d s) :=
  .ite h (.ite (.setLevel (.raise (.faultBit (.ite h.put.put h.put)))) (.ite h.put.put h.put))

theorem Evolves.convert' {d t' rail} (h : Evolves s₀ s) : Evolves s₀ (Machine.convert d t' rail s) := by
  unfold Machine.convert
  extract_lets _ _ _ s1 s2 s3 s4
  have h1 : Evolves s₀ s1 := .frame h rfl
  have h2 : Evolves s₀ s2 := h1.put
  have h3 : Evolves s₀ s3 := h2.put
  have h4 : Evolves s₀ s4 := .ite h3.put h3
  exact .ite h2.sensorBroken (.ite h4.setLevel h4)

theorem Evolves.thermalConversion {readings} (h : Evolves s₀ s) : Evolves s₀ (thermalConversion readings s) :=
  .foldl h (fun _ h _ => h.convert')

/-! ### Machine/Update.lean -/

theorem Evolves.fillPlace {p bs} (h : Evolves s₀ s) : Evolves s₀ (s.fillPlace p bs) :=
  .ite h.nvsWrite h.flashErase.flashWrite

theorem Evolves.commitEnd {status} (h : Evolves s₀ s) : Evolves s₀ (s.commitEnd status) := by
  unfold State.commitEnd
  extract_lets s1
  have h1 : Evolves s₀ s1 := h.modUpd
  split
  · exact h
  · split
    · exact .ite (.ite h1.okTag h1.failTag) h1
    · exact h1

theorem Evolves.updDone {result code} (h : Evolves s₀ s) : Evolves s₀ (s.updDone result code) := by
  unfold State.updDone
  exact h.put.put.put.put.modUpd

theorem Evolves.updFail {result code} (h : Evolves s₀ s) : Evolves s₀ (s.updFail result code) := h.updDone.commitEnd

theorem Evolves.setTrial {p v} (h : Evolves s₀ s) : Evolves s₀ (s.setTrial p v) := h.nvsWrite

theorem Evolves.markTrial {t' is} (h : Evolves s₀ s) : Evolves s₀ (s.markTrial t' is) := .ite h.setTrial (.ite h.setTrial h)

theorem Evolves.passTrial {d} (h : Evolves s₀ s) : Evolves s₀ (s.passTrial d) := by
  unfold State.passTrial
  refine .ite ?_ (.foldl h (fun _ h _ => .ite h.setTrial h))
  split
  · exact h.setTrial
  · exact h

theorem Evolves.selectNow {t'} (h : Evolves s₀ s) : Evolves s₀ (s.selectNow t') :=
  .showSel (.ite h.nvsWrite (.ite h.writeDir h.writeDir))

theorem Evolves.actExtend {e} (h : Evolves s₀ s) : Evolves s₀ (s.actExtend e) := by
  unfold State.actExtend
  split
  · exact h
  · exact h.extend

theorem Evolves.actVersion {part e} (h : Evolves s₀ s) : Evolves s₀ (s.actVersion part e) := by
  unfold State.actVersion
  split
  · exact h
  · exact .ite h h.modSig

theorem Evolves.actAdvance {e} (h : Evolves s₀ s) : Evolves s₀ (s.actAdvance e) := by
  unfold State.actAdvance
  split
  · exact h
  · split
    · exact .ite h.raiseCounter h
    · exact h

theorem Evolves.actFinish {a} (h : Evolves s₀ s) : Evolves s₀ (s.actFinish a) :=
  .commitEnd (.showSel (.updDone (.put (.modUpd (.foldl (.modSig (.foldl (.foldl (.ite h.writeDir.setRun h)
      (fun _ h _ => h.actExtend)) (fun _ h _ => h.actVersion))) (fun _ h _ => h.actAdvance))))))

theorem Evolves.actKeeper (h : Evolves s₀ s) : Evolves s₀ s.actKeeper := h.put.put

theorem Evolves.actStep (h : Evolves s₀ s) : Evolves s₀ s.actStep := by
  unfold State.actStep
  split
  · exact h
  · split
    · exact h.actFinish
    · exact .ite h.put.modUpd.commitEnd.aenAll (.ite h.actKeeper.put.modUpd h.put.put.modUpd.raise)

theorem Evolves.actPass (h : Evolves s₀ s) : Evolves s₀ s.actPass := by
  unfold State.actPass
  split
  · exact h
  · exact h.put.modUpd.raise.actStep

theorem Evolves.activate {part} (h : Evolves s₀ s) : Evolves s₀ (s.activate part) := by
  unfold State.activate
  extract_lets place is bad
  clear_value bad
  split
  · exact h.updFail
  · exact .ite h.put.modUpd.actStep h.updFail

theorem Evolves.chStepDrain (h : Evolves s₀ s) : Evolves s₀ (chStepDrain s) := by
  unfold Machine.chStepDrain
  split
  · exact h
  · split
    · refine .ite h ?_
      extract_lets n v s1 s2 s3 m s4
      have h2 : Evolves s₀ s2 := .foldl h.lmStop fun _ h _ => h.dropCore.setCoreState
      have h3 : Evolves s₀ s3 := by
        unfold s3
        split
        · exact h2.loadCh
        · exact h2
      have h4 : Evolves s₀ s4 := by
        unfold s4
        clear_value m
        split
        · exact h3.loadMicro
        · exact h3
      exact h4.modSig.startCore.modUpd
    · exact h

theorem Evolves.hubStep (h : Evolves s₀ s) : Evolves s₀ (hubStep s) := by
  unfold Machine.hubStep
  extract_lets _ s1
  have h1 : Evolves s₀ s1 := .foldl h (fun _ h _ => h.dropCore.setCoreState)
  split
  · exact h
  · extract_lets s2 s3
    have h2 : Evolves s₀ s2 := by
      refine .foldl h1 (fun s1 h1 _ => ?_)
      split
      · exact h1.loadHub
      · exact h1
    have h3 : Evolves s₀ s3 := h2.modSig.startCore
    exact .ite h3.modUpd h

theorem Evolves.updData {len} (h : Evolves s₀ s) : Evolves s₀ (s.updData len).2 := by
  unfold State.updData
  split
  · exact h
  · exact h.physRead

theorem Evolves.updWrite {t' flash bs} (h : Evolves s₀ s) : Evolves s₀ (s.updWrite t' flash bs) := by
  unfold State.updWrite
  split
  · exact h.updFail
  · split
    · exact h.updFail
    · split
      · exact h.fillPlace.updDone
      · split
        next x _ s1 e =>
          have h1 : Evolves s₀ s1 := .of_snd e h.draw
          exact h1.fillPlace.updFail

theorem Evolves.updSelect {t' flash} (h : Evolves s₀ s) : Evolves s₀ (s.updSelect t' flash) := by
  unfold State.updSelect
  split
  · exact h.updFail
  · split
    · exact h.updFail
    · exact .ite h.markTrial.selectNow.updDone h.updFail

theorem Evolves.beginWrite {t'} (h : Evolves s₀ s) : Evolves s₀ (s.beginWrite t') := by
  unfold State.beginWrite
  split
  · exact .ite (.ite h.nvsWrite h.flashErase) h
  · exact h

theorem Evolves.commitNext (h : Evolves s₀ s) : Evolves s₀ s.commitNext := by
  unfold State.commitNext
  split
  · exact h
  · exact .commitEnd (.frame h rfl)
  · extract_lets s1
    have h1 : Evolves s₀ s1 := h.put.modUpd
    exact .ite (.activate (.frame h1 rfl)) (.ite h1.beginWrite h1)

theorem Evolves.updOpDone {flash} (h : Evolves s₀ s) : Evolves s₀ (updOpDone flash s) := by
  unfold Machine.updOpDone
  split
  · exact h
  · extract_lets s1
    have h1 : Evolves s₀ s1 := h.updSelect
    refine .ite h (.ite ?_ (.ite ?_ (.ite (.ite h1.commitNext h1) h)))
    · split
      next x s2 e =>
        have h2 : Evolves s₀ s2 := .of_snd e h.updData
        exact h2.updFail
      next x _ s2 e =>
        have h2 : Evolves s₀ s2 := .of_snd e h.updData
        split
        · exact h2.updFail
        · exact h2.updDone
    · split
      next x s2 e =>
        have h2 : Evolves s₀ s2 := .of_snd e h.updData
        exact h2.updFail
      next x _ s2 e =>
        have h2 : Evolves s₀ s2 := .of_snd e h.updData
        exact .ite h2.updWrite.commitNext h2.updWrite

theorem Evolves.updCmd {op t'} (h : Evolves s₀ s) : Evolves s₀ (updCmd op t' s) :=
  .ite h.put (.ite h.updDone (.ite h.updDone (.ite h.put.modUpd.activate (.ite h.put.modUpd.beginWrite h.put.modUpd))))

theorem Evolves.updSt {source v} (h : Evolves s₀ s) : Evolves s₀ (updSt source v s) :=
  .ite h (.ite (.ite h.actPass h.passTrial) (.ite (.ite h.sealPart h) h))

theorem Evolves.selftestTimeout (h : Evolves s₀ s) : Evolves s₀ (selftestTimeout s) := by
  unfold Machine.selftestTimeout
  split
  · exact .ite h.sealPart h
  · refine .ite h ?_
    split
    · exact h.sealPart
    · exact h

theorem Evolves.updUnseal {v} (h : Evolves s₀ s) : Evolves s₀ (updUnseal v s) := .ite h.nvsWrite.nvsWrite.bootCaused h

theorem Evolves.setStaged {x} (h : Evolves s₀ s) : Evolves s₀ { s with staged := x } := .frame h rfl

theorem Evolves.imageDownload {t' data x} (h : Evolves s₀ s) : Evolves s₀ (imageDownload t' data x s) := by
  unfold Machine.imageDownload
  extract_lets ofst bs old owner
  clear_value old owner
  split
  · exact h.failTag
  · refine .ite h.failTag (.ite h.failTag ?_)
    extract_lets all bad
    clear_value bad
    split
    · exact h.put.put.failTag
    · exact h.setStaged.okTag

theorem Evolves.firmwareCommit {t' x} (h : Evolves s₀ s) : Evolves s₀ (firmwareCommit t' x s) := by
  unfold Machine.firmwareCommit
  refine .ite h.failTag (.ite h.failTag ?_)
  split
  · exact h.failTag
  · exact .ite h.put.put.failTag (.ite h.put.put.failTag (.ite h.failTag h.modUpd.commitNext))

/-! ### Machine/Inventory.lean -/

theorem Evolves.invFlip {build} (h : Evolves s₀ s) : Evolves s₀ (s.invFlip build) := by
  unfold State.invFlip
  extract_lets gen moved up gen' k s1
  have h1 : Evolves s₀ s1 :=
    ⟨h.pending, fun w => { h.wf w with invBuf := atD_modAt_wf (h.wf w).invBuf fun _ _ => Memory.writeN_wf rfl }, h.otp⟩
  exact h1.put.setNum

theorem Evolves.invRebuild (h : Evolves s₀ s) : Evolves s₀ (invRebuild s) := .ite (.invFlip (.frame h.put rfl)) h

theorem Evolves.invRefresh (h : Evolves s₀ s) : Evolves s₀ (invRefresh s) := .ite h (.invFlip (.ite h.put.raise h))

theorem Evolves.noteWrite {v} (h : Evolves s₀ s) : Evolves s₀ (noteWrite v s) := by
  unfold Machine.noteWrite
  extract_lets o s1
  have h1 : Evolves s₀ s1 := ⟨h.pending, fun w => { h.wf w with invNotes := Memory.writeN_wf (h.wf w).invNotes }, h.otp⟩
  exact h1.put

theorem Evolves.inventoryCmd {t'} (h : Evolves s₀ s) : Evolves s₀ (inventoryCmd t' s) := by
  unfold Machine.inventoryCmd
  split
  · exact .ite h.giveDataDw h
  · exact h

/-! ### Machine/Pins.lean -/

theorem Evolves.xsEnd {result} (h : Evolves s₀ s) : Evolves s₀ (s.xsEnd result) := .raise (.setXsJob h.put.put.put)

theorem Evolves.xsCmd {op} (h : Evolves s₀ s) : Evolves s₀ (xsCmd op s) :=
  .ite h.put (.ite h.xsEnd (.ite h.noteBit.xsEnd (.frame h.put rfl)))

theorem Evolves.programByte {a b} (h : Evolves s₀ s) : Evolves s₀ (s.programByte a b) := by
  unfold State.programByte
  split
  next x _ s1 e =>
    have h1 : Evolves s₀ s1 := .of_snd e h.draw
    exact .ite h.flashWrite h1.flashWrite

theorem Evolves.flashUndefined {a n} (h : Evolves s₀ s) : Evolves s₀ (s.flashUndefined a n) := by
  unfold State.flashUndefined
  split
  next x _ s1 e =>
    have h1 : Evolves s₀ s1 := .of_snd e h.drawBytes
    exact h1.flashWrite

theorem Evolves.xsDone {ok} (h : Evolves s₀ s) : Evolves s₀ (xsDone ok s) := by
  unfold Machine.xsDone
  split
  · exact h
  · refine .ite h (.ite ?_ (.ite ?_ (.ite h.flashErase.xsEnd h.flashUndefined.faultBit.xsEnd)))
    · split
      next x s1 e =>
        have h1 : Evolves s₀ s1 := .of_snd e h.physWrite
        exact h1.xsEnd
      next x s1 e =>
        have h1 : Evolves s₀ s1 := .of_snd e h.physWrite
        exact h1.xsEnd
    · split
      next x s1 e =>
        have h1 : Evolves s₀ s1 := .of_snd e h.physRead
        exact h1.xsEnd
      next x _ s1 e =>
        have h1 : Evolves s₀ s1 := .of_snd e h.physRead
        exact .ite (.xsEnd (.foldl h1 (fun _ h _ => h.programByte))) h1.flashUndefined.faultBit.xsEnd

theorem Evolves.testAssert (h : Evolves s₀ s) : Evolves s₀ (testAssert s) := .ite h h.modPins.powerOn.modPins

theorem Evolves.testDeassert (h : Evolves s₀ s) : Evolves s₀ (testDeassert s) := .ite h h.modPins.powerOn.modPins

theorem Evolves.tap {ir} (h : Evolves s₀ s) : Evolves s₀ (s.tap ir) := h.modPins

theorem Evolves.extest {cells} (h : Evolves s₀ s) : Evolves s₀ (extest cells s) := .ite h.tap.modPins h.tap

theorem Evolves.uartWrite {v} (h : Evolves s₀ s) : Evolves s₀ (uartWrite v s) := .ite h.put h.modPins

theorem Evolves.uartRead (h : Evolves s₀ s) : Evolves s₀ (uartRead s) := by
  unfold Machine.uartRead
  split
  · exact h.answer
  · exact h.modPins.answer

theorem Evolves.uartReceive {b} (h : Evolves s₀ s) : Evolves s₀ (uartReceive b s) :=
  .ite h (.ite h.put.raise (.ite h.modPins.raise h.modPins))

theorem Evolves.uartTick (h : Evolves s₀ s) : Evolves s₀ s.uartTick := .ite h (.ite h.modPins h.modPins)

theorem Evolves.gpioMoved {old} (h : Evolves s₀ s) : Evolves s₀ (s.gpioMoved old) := .ite h.put h.put.put.raise

theorem Evolves.gpioChange {levels} (h : Evolves s₀ s) : Evolves s₀ (gpioChange levels s) :=
  .ite h.modPins h.modPins.gpioMoved

theorem Evolves.gpioDrive {a v} (h : Evolves s₀ s) : Evolves s₀ (gpioDrive a v s) := h.setRW.gpioMoved

theorem Evolves.i3cAssign {a} (h : Evolves s₀ s) : Evolves s₀ (i3cAssign a s) := by
  unfold Machine.i3cAssign
  refine .ite ?_ h
  split
  · exact .ite h.put.put h
  · exact h.put.put

/-! ### Machine/Mgmt.lean -/

theorem Evolves.reply {bs} (h : Evolves s₀ s) : Evolves s₀ (s.reply bs) := h.modHost

theorem Evolves.controlReply {b code data} (h : Evolves s₀ s) : Evolves s₀ (s.controlReply b code data) := h.reply

theorem Evolves.mctpControl {b} (h : Evolves s₀ s) : Evolves s₀ (mctpControl b s) := by
  unfold Machine.mctpControl
  split
  · exact h
  · split
    next x _ s1 e =>
      have h1 : Evolves s₀ s1 := .of_snd e h.drawBytes
      split
      · split
        next x1 _ s2 e1 =>
          have h2 : Evolves s₀ s2 := .of_snd e1 h.drawBytes
          exact .ite (.ite h.controlReply h.modHost.controlReply) (.ite h.controlReply (.ite h1.controlReply
              (.ite h2.controlReply (.ite h.controlReply h.controlReply))))
      · exact .ite (.ite h.controlReply h.modHost.controlReply) (.ite h.controlReply (.ite h1.controlReply
          (.ite h.controlReply (.ite h.controlReply h.controlReply))))

theorem Evolves.mctp {addr msg good} (h : Evolves s₀ s) : Evolves s₀ (mctp addr msg good s) := by
  unfold Machine.mctp
  extract_lets _ _ s1 s2
  have h1 : Evolves s₀ s1 := .ite h.raise h
  have h2 : Evolves s₀ s2 := .ite h1.mctpControl h1
  exact .ite h2.wakeUp h2

theorem Evolves.miRead {kind port ctrl} (h : Evolves s₀ s) : Evolves s₀ (miRead kind port ctrl s) := by
  unfold Machine.miRead
  split
  next x _ s1 e =>
    have h1 : Evolves s₀ s1 := .of_snd e h.drawBytes
    exact .ite h1.reply (.ite (.ite h1.reply (.ite h1.reply h1.reply)) (.ite h1.reply
        (.ite (.ite h1.reply h1.reply) (.ite h1.reply h1.reply))))

theorem Evolves.healthClear {mask} (h : Evolves s₀ s) : Evolves s₀ (s.healthClear mask) := h.modHost

theorem Evolves.miSubsystem (h : Evolves s₀ s) : Evolves s₀ (miSubsystem s) := by
  unfold Machine.miSubsystem
  split
  next x _ s1 e =>
    have h1 : Evolves s₀ s1 := .of_snd e h.draw
    exact h1.reply

theorem Evolves.miControllers {first count} (h : Evolves s₀ s) : Evolves s₀ (miControllers first count s) := by
  unfold Machine.miControllers
  split
  next x _ s1 e =>
    have h1 : Evolves s₀ s1 := .of_snd e h.draw
    exact h1.reply

theorem Evolves.miGet {item port} (h : Evolves s₀ s) : Evolves s₀ (miGet item port s) := by
  unfold Machine.miGet
  split
  · exact h.reply
  · exact h.reply

theorem Evolves.miSet {item port value} (h : Evolves s₀ s) : Evolves s₀ (miSet item port value s) :=
  .ite (.ite h.modHost.reply h.reply) (.ite h.healthClear.reply (.ite h.reply h.reply))

theorem Evolves.miReset (h : Evolves s₀ s) : Evolves s₀ (miReset s) :=
  .ite h (.ite h.powerOn (.ite h.bootCaused h.subsystemReset))

theorem Evolves.miBasic {code} (h : Evolves s₀ s) : Evolves s₀ (miBasic code s) := by
  unfold Machine.miBasic
  split
  · exact h
  · split
    · split
      next x _ s1 e =>
        have h1 : Evolves s₀ s1 := .of_snd e h.draw
        exact h1.reply
    · split
      · split
        next x _ s1 e =>
          have h1 : Evolves s₀ s1 := .of_snd e h.drawBytes
          exact h1.reply
      · exact h

theorem Evolves.miAdmin {c t' q} (h : Evolves s₀ s) : Evolves s₀ (miAdmin c t' q s) := by
  unfold Machine.miAdmin
  extract_lets _ _ s1
  have h1 : Evolves s₀ s1 := h.modHost
  refine .ite h (.ite h.reply (.ite h.reply (.ite h ?_)))
  split
  · exact h1.noteBit.failTag
  · exact h1.setTag

theorem Evolves.setPower {t' x} (h : Evolves s₀ s) : Evolves s₀ (setPower t' x s) :=
  .ite h (.ite h.failTag (.ite h.failTag h.modHost.limitChanged.okTag))

theorem Evolves.spdmFail {code} (h : Evolves s₀ s) : Evolves s₀ (s.spdmFail code) := h.reply

theorem Evolves.spdmStep {k} (h : Evolves s₀ s) : Evolves s₀ (s.spdmStep k) := h.modHost

theorem Evolves.spdmVersion (h : Evolves s₀ s) : Evolves s₀ (spdmVersion s) := h.modHost.spdmStep.reply

theorem Evolves.spdmCapabilities {req} (h : Evolves s₀ s) : Evolves s₀ (spdmCapabilities req s) := by
  unfold Machine.spdmCapabilities
  split
  · exact h.spdmFail
  · split
    next x _ s1 e =>
      have h1 : Evolves s₀ s1 := .of_snd e h.draw
      exact .ite h.spdmFail h1.modHost.spdmStep.reply

theorem Evolves.spdmAlgorithms {req ext} (h : Evolves s₀ s) : Evolves s₀ (spdmAlgorithms req ext s) :=
  .ite h.spdmFail (.ite h.spdmFail h.modHost.spdmStep.reply)

theorem Evolves.spdmDigests (h : Evolves s₀ s) : Evolves s₀ (spdmDigests s) := .ite h.spdmFail h.modHost.reply

theorem Evolves.spdmCertificate {slot offset len} (h : Evolves s₀ s) : Evolves s₀ (spdmCertificate slot offset len s) :=
  .ite h.spdmFail (.ite h.spdmFail h.modHost.reply)

theorem Evolves.spdmSign {context m} (h : Evolves s₀ s) : Evolves s₀ (s.spdmSign context m).2 := by
  unfold State.spdmSign
  split
  next e => exact .of_snd e h.draw

theorem Evolves.spdmChallenge {slot summary nonce} (h : Evolves s₀ s) :
    Evolves s₀ (spdmChallenge slot summary nonce s) := by
  unfold Machine.spdmChallenge
  split
  · exact h.spdmFail
  · split
    next x _ s1 e =>
      have h1 : Evolves s₀ s1 := .of_snd e h.drawBytes
      split
      · extract_lets
        split
        · exact h.spdmFail
        · split
          next x1 _ s2 e1 =>
            have h2 : Evolves s₀ s2 := .of_snd e1 h1.spdmSign
            exact h2.modHost.reply
      · extract_lets
        split
        · exact h.spdmFail
        · split
          next x1 _ s2 e1 =>
            have h2 : Evolves s₀ s2 := .of_snd e1 h1.spdmSign
            exact h2.modHost.reply

theorem Evolves.spdmMeasurements {index slot signed nonce} (h : Evolves s₀ s) :
    Evolves s₀ (spdmMeasurements index slot signed nonce s) := by
  unfold Machine.spdmMeasurements
  extract_lets blocks
  clear_value blocks
  split
  · exact .ite h.spdmFail h.spdmFail
  · refine .ite h.spdmFail (.ite h.spdmFail ?_)
    extract_lets
    split
    next e =>
      have h1 := Evolves.of_snd e h.drawBytes
      refine .ite ?_ h1.modHost.reply
      split
      next e => exact .reply (.modHost (.of_snd e h1.spdmSign))

theorem Evolves.spdmRequest {m} (h : Evolves s₀ s) : Evolves s₀ (spdmRequest m s) :=
  .ite h.spdmVersion (.ite h.spdmCapabilities (.ite h.spdmAlgorithms (.ite h.spdmDigests (.ite h.spdmCertificate
      (.ite h.spdmChallenge (.ite (.ite h.spdmMeasurements h.spdmMeasurements) h.spdmFail))))))

theorem Evolves.securitySend {t' data x} (h : Evolves s₀ s) : Evolves s₀ (securitySend t' data x s) :=
  .ite h.spdmRequest.modHost.okTag (.ite h.modHost.okTag h.failTag)

theorem Evolves.securityReceive {t' x} (h : Evolves s₀ s) : Evolves s₀ (securityReceive t' x s) := by
  unfold Machine.securityReceive
  extract_lets
  split
  · exact h.giveData
  · split
    · exact h.giveData
    · split
      · split
        next x1 _ s1 e =>
          have h1 : Evolves s₀ s1 := .of_snd e h.drawBytes
          exact h1.giveData
      · exact h.failTag

/-! ### Machine/Fabric.lean -/

theorem Evolves.plainWrite {a v} (h : Evolves s₀ s) : Evolves s₀ (plainWrite a v s) := by
  unfold Machine.plainWrite
  extract_lets s1
  have h1 : Evolves s₀ s1 := h.setRW
  split
  · exact h
  · exact .ite h1 h1.clearBits

theorem Evolves.duePush {n a v} (h : Evolves s₀ s) : Evolves s₀ (s.duePush n a v) := h.modDemod

theorem Evolves.wcntClr {n v} (h : Evolves s₀ s) : Evolves s₀ (wcntClr n v s) := by
  unfold Machine.wcntClr
  extract_lets s1
  have h1 : Evolves s₀ s1 := .foldl h (fun _ h _ => .ite h.set64 h)
  exact .ite h1.setNum h1

theorem Evolves.lmCtlWrite {n v} (h : Evolves s₀ s) : Evolves s₀ (lmCtlWrite n v s) := by
  unfold Machine.lmCtlWrite
  extract_lets s1 s2 s3
  have h1 : Evolves s₀ s1 := h.setRW
  have h2 : Evolves s₀ s2 := .ite h1.lmReload h1
  have h3 : Evolves s₀ s3 := .ite h2.lmStart h2
  exact .ite h3.lmStop h3

theorem Evolves.rcvCmdWrite {n v} (h : Evolves s₀ s) : Evolves s₀ (rcvCmdWrite n v s) := .ite h.rcvAbort (.ite h.rcvGo h)

theorem Evolves.taCmdWrite {m v} (h : Evolves s₀ s) : Evolves s₀ (taCmdWrite m v s) := .ite h.readRaw (.ite h.writeRaw h)

theorem Evolves.servoWrite {n a v} (h : Evolves s₀ s) : EvolvesOpt s₀ (servoWrite n a v s) := by
  unfold Machine.servoWrite
  exact .ite (.some h.demodCtlWrite) (.ite (.some h.duePush) (.ite (.some h.demodCntClr) (.ite
      (.some (.ite h h.rcvFoul.writeCmd)) (.ite (.some h.rcvFoul.setRW) (.ite (.some h.seekPolicyWrite)
      (.ite (.some h.coeffDerive) (.ite (.some h.duePush) (.ite (.some (.ite h.retractLane h)) .none))))))))

theorem Evolves.readChWrite {n a v} (h : Evolves s₀ s) : EvolvesOpt s₀ (readChWrite n a v s) := by
  unfold Machine.readChWrite
  exact .ite (.some h.fmtSelWrite) (.ite (.some h.rcvCmdWrite) (.ite (.some h) (.ite (.some h.detectCntClr)
      (.ite (.some (.ite h.sjGo h)) (.ite (.some h.duePush) .none)))))

theorem Evolves.writeChWrite {n a v} (h : Evolves s₀ s) : EvolvesOpt s₀ (writeChWrite n a v s) := by
  unfold Machine.writeChWrite
  extract_lets s' s1
  have h' : Evolves s₀ s' := h.setRW
  have h1 : Evolves s₀ s1 := .ite h.flyGo h
  exact .ite (.some h.wrPolicyWrite) (.ite (.some h.wrHeadWrite) (.ite (.some h.wcntClr) (.ite (.some h.asPreheatWrite)
      (.ite (.some (.ite h' h'.modPau)) (.ite (.some h.flyReqWrite) (.ite (.some (.ite h1.flyAbort h1)) (.ite
      (.some h.flyDerive) (.ite (.some h.flyDerive) (.ite (.some h.flyDerive) (.ite (.some (.ite h.armPreamp h))
      (.ite (.some (.ite h.paQcmd h)) .none)))))))))))

theorem Evolves.lomunWrite {n a v} (h : Evolves s₀ s) : EvolvesOpt s₀ (lomunWrite n a v s) := by
  unfold Machine.lomunWrite
  exact .ite (.some h.lmCtlWrite) (.ite (.some h.lmLoad) (.ite (.some h.modLmu) (.ite (.some (.ite h h.setRW)) .none)))

theorem Evolves.chWrite {n a v} (h : Evolves s₀ s) : EvolvesOpt s₀ (chWrite n a v s) := by
  unfold Machine.chWrite
  exact .or (.or (.or h.servoWrite h.readChWrite) h.writeChWrite) h.lomunWrite

theorem Evolves.coreCtlWrite {c v} (h : Evolves s₀ s) : Evolves s₀ (coreCtlWrite c v s) := by
  unfold Machine.coreCtlWrite
  extract_lets _ s1 s2 s3
  have h1 : Evolves s₀ s1 := h.setRW
  have h2 : Evolves s₀ s2 := .ite h1.wdKick h1
  have h3 : Evolves s₀ s3 := .ite h2.coreWarm h2
  exact .ite h3.coreStart h3

theorem Evolves.poolCmdWrite {p v} (h : Evolves s₀ s) : Evolves s₀ (poolCmdWrite p v s) := by
  unfold Machine.poolCmdWrite
  extract_lets s1
  have h1 : Evolves s₀ s1 := .ite h.poolClrLow h
  exact .ite h1.poolInit (.ite h1.put h1)

theorem Evolves.dramCmdWrite {v} (h : Evolves s₀ s) : Evolves s₀ (dramCmdWrite v s) :=
  .ite h.invalidateCmd (.ite h.spareCmd h)

theorem Evolves.mopWrite {op} (h : Evolves s₀ s) : Evolves s₀ (mopWrite op s) := by
  unfold Machine.mopWrite
  split
  · exact .mopStart h (fun _ h => h.cleanLines)
  · exact .mopStart h (fun _ h => h.invalLines)
  · exact .mopStart h (fun _ h => h.cleanLines.invalLines)
  · exact .mopStart h (fun _ h => h.cleanLines)
  · exact .mopStart h (fun _ h => h.cleanInvalAll)
  · exact h

theorem Evolves.keyCmdWrite {v} (h : Evolves s₀ s) : Evolves s₀ (keyCmdWrite v s) := .ite h.keyCmd (.ite h.keyCmd h)

theorem Evolves.ciCtlWrite {v} (h : Evolves s₀ s) : Evolves s₀ (ciCtlWrite v s) := .ite h.setRW.cipherEnable h.setRW

theorem Evolves.catCtlWrite {v} (h : Evolves s₀ s) : Evolves s₀ (catCtlWrite v s) := .ite h.setRW.put.catEnable h.setRW.put

theorem Evolves.dbgCtlWrite {v} (h : Evolves s₀ s) : Evolves s₀ (dbgCtlWrite v s) := by
  unfold Machine.dbgCtlWrite
  extract_lets s1 s2
  have h1 : Evolves s₀ s1 := .ite h.dbgChal h
  have h2 : Evolves s₀ s2 := .ite h1.dbgSubmit h1
  exact .ite h2.put h2

theorem Evolves.hubDataWrite {a v} (h : Evolves s₀ s) : EvolvesOpt s₀ (hubDataWrite a v s) := by
  unfold Machine.hubDataWrite
  exact .ite (.some h.ctrlNsWrite) (.ite (.some h.wrtRel) (.ite (.some h.setRW.drain) (.ite (.some (.ite h.dumpArm h))
      (.ite (.some h.stkOp) (.ite (.some h.poolCmdWrite) (.ite (.some h.dramCmdWrite) (.ite (.some h.mopWrite)
      (.ite (.some h.ciCtlWrite) (.ite (.some h.keyCmdWrite) (.ite (.some h.catCtlWrite) .none))))))))))

theorem Evolves.hubSysWrite {src a v} (h : Evolves s₀ s) : EvolvesOpt s₀ (hubSysWrite src a v s) := by
  unfold Machine.hubSysWrite
  exact .ite (.some h.sendEvent) (.ite (.some h.evRouteWrite) (.ite (.some h.sigCmd) (.ite (.some (.ite h.closeRecord h))
      (.ite (.some h.updCmd) (.ite (.some h.updSt) (.ite (.some h.updUnseal) (.ite (.some h.otpProgWrite)
      (.ite (.some h.dbgCtlWrite) (.ite (.some h.uartWrite) (.ite (.some h.xsCmd) (.ite (.some h.gpioDrive) .none)))))))))))

theorem Evolves.shockCtlWrite {v} (h : Evolves s₀ s) : Evolves s₀ (shockCtlWrite v s) := .ite h.setRW h.setRW.setNum

theorem Evolves.alogCtlWrite {v} (h : Evolves s₀ s) : Evolves s₀ (alogCtlWrite v s) := by
  unfold Machine.alogCtlWrite
  extract_lets s1 s2
  have h1 : Evolves s₀ s1 := .ite h.alogFreeze h
  have h2 : Evolves s₀ s2 := .ite h1.alogUnfreeze h1
  exact .ite h2.alogCopy h2

theorem Evolves.thrLimWrite {d v} (h : Evolves s₀ s) : Evolves s₀ (thrLimWrite d v s) := h.put.put.put

theorem Evolves.ladderWrite {v} (h : Evolves s₀ s) : Evolves s₀ (ladderWrite v s) := by
  unfold Machine.ladderWrite
  split
  next x _ s1 e =>
    have h1 : Evolves s₀ s1 := .of_snd e h.draw
    exact h1.ladderCmd

theorem Evolves.kprWrite {a v} (h : Evolves s₀ s) : EvolvesOpt s₀ (kprWrite a v s) := by
  unfold Machine.kprWrite
  exact .ite (.some h.spinWrite) (.ite (.some h.spinCfgWrite) (.ite (.some h.clsWrite) (.ite (.some h.shockCtlWrite)
      (.ite (.some (.ite h.shockTripClear h)) (.ite (.some h.noteWrite) (.ite (.some h.fullBootRequest)
      (.ite (.some h.nvsDataWrite) (.ite (.some h.alogCtlWrite) (.ite (.some h.fatalCmd) (.ite (.some h.actStateWrite)
      (.ite (.some h.wrGo) (.ite (.some h.ladderWrite) (.ite (.some h.maxRungWrite) (.ite (.some h.thrLimWrite)
      .none))))))))))))))

theorem Evolves.linkWrite {src e o v} (h : Evolves s₀ s) : EvolvesOpt s₀ (linkWrite src e o v s) := by
  unfold Machine.linkWrite
  extract_lets s1 s2
  have h1 : Evolves s₀ s1 := h.linkPolicy
  have h2 : Evolves s₀ s2 := .ite h1.setNum h1
  refine .ite (.some (.ite h2.retrain h2)) (.ite ?_ .none)
  split
  · exact .some h.txStage
  · exact .some h.txAppend
  · exact .some (.ite h.txDiscard (.ite h.txGo h))
  · exact .none

theorem Evolves.commonWrite {a v} (h : Evolves s₀ s) : EvolvesOpt s₀ (commonWrite a v s) := by
  unfold Machine.commonWrite
  refine .ite (.some h.wr) ?_
  split
  · exact .some (.ite h.setRW.calStart h.setRW.calPolicy)
  · split
    · exact .some h.coreCtlWrite
    · split
      · exact .some h.memCntClr
      · exact .none

theorem Evolves.ownWrite' {src a v} (h : Evolves s₀ s) : EvolvesOpt s₀ (Machine.ownWrite src a v s) := by
  unfold Machine.ownWrite
  refine .or (.or ?_ ?_) h.commonWrite
  · split
    · exact .or h.hubDataWrite h.hubSysWrite
    · exact h.kprWrite
    · exact h.chWrite
  · split
    · exact h.linkWrite
    · exact .none

theorem Evolves.basicWrite {src a v} (h : Evolves s₀ s) : Evolves s₀ (basicWrite src a v s) := h.ownWrite'.getD h.plainWrite

theorem Evolves.expertEffect {a v} (h : Evolves s₀ s) : Evolves s₀ (expertEffect a v s) := by
  unfold Machine.expertEffect
  extract_lets _ s1
  have h1 : Evolves s₀ s1 := .ite h (.frame h rfl)
  split
  · exact h.taCmdWrite
  · split
    · exact h
    · exact .ite h.plainWrite (.ite h1.duePush h1.plainWrite)

theorem Evolves.expertPage {a v} (h : Evolves s₀ s) : Evolves s₀ (expertPage a v s) := by
  unfold Machine.expertPage
  split
  · exact .ite (.expertGate h (fun _ h => h.expertEffect)) h
  · exact h

theorem Evolves.holdBus {a v} (h : Evolves s₀ s) : Evolves s₀ (s.holdBus a v) := .ite h.holdNvs h.holdAccess

theorem Evolves.busWrite {src a width v} (h : Evolves s₀ s) : Evolves s₀ (busWrite src a width v s) :=
  .ite h.answer (.ite h.answer (.answer (.ite h.expertPage h.basicWrite)))

theorem Evolves.basicRead {a} (h : Evolves s₀ s) : Evolves s₀ (basicRead a s) := by
  unfold Machine.basicRead
  refine .ite h.nvsDataRead (.ite h.uartRead ?_)
  split
  · exact .ite h.rxRead h.answer
  · split
    · exact h.answer
    · exact h.capture.answer

theorem Evolves.busRead {a width} (h : Evolves s₀ s) : Evolves s₀ (busRead a width s) :=
  .ite h.answer (.ite h.answer h.basicRead)

theorem Evolves.accessWrite {a width v} (h : Evolves s₀ s) : Evolves s₀ (accessWrite a width v s) :=
  .ite h.holdBus h.busWrite

theorem Evolves.accessRead {a width} (h : Evolves s₀ s) : Evolves s₀ (accessRead a width s) := .ite h.holdBus h.busRead

theorem Evolves.releaseLoop {n} (h : Evolves s₀ s) : Evolves s₀ (s.releaseLoop n) := by
  unfold State.releaseLoop
  refine .foldl h.modLoop (fun s1 h1 _ => ?_)
  split
  · exact h1.accessWrite
  · exact h1.accessRead

theorem Evolves.dbgFabric {a write v} (h : Evolves s₀ s) : Evolves s₀ (dbgFabric a write v s) :=
  .ite h (.ite h.answer (.ite h.accessWrite h.accessRead))

/-! ### Machine/Hart.lean -/

theorem Evolves.retire {c pc} (h : Evolves s₀ s) : Evolves s₀ (s.retire c pc) := h.modCore

theorem Evolves.except {c cause tval} (h : Evolves s₀ s) : Evolves s₀ (s.except c cause tval) := h.modCore

theorem Evolves.result {c rd v pc} (h : Evolves s₀ s) : Evolves s₀ (s.result c rd v pc) := h.modCore.retire

theorem Evolves.fabricRead {a n} (h : Evolves s₀ s) : Evolves s₀ (s.fabricRead a n).2 := h.busRead.answer

theorem Evolves.hartLoad {c f rd a pc} (h : Evolves s₀ s) : Evolves s₀ (s.hartLoad c f rd a pc) := by
  unfold State.hartLoad
  refine .ite h.except ?_
  split
  · exact h.except
  · refine .ite h.except ?_
    split
    next x _ s1 e =>
      have h1 : Evolves s₀ s1 := .of_snd e h.fabricRead
      exact h1.result
    next x s1 e =>
      have h1 : Evolves s₀ s1 := .of_snd e h.fabricRead
      exact h1.except
    next e => exact .of_snd e h.fabricRead
  · split
    next x _ s1 e =>
      have h1 : Evolves s₀ s1 := .of_snd e h.coreBytes
      exact h1.result
    next x s1 e =>
      have h1 : Evolves s₀ s1 := .of_snd e h.coreBytes
      exact h1.except

theorem Evolves.ownWrite {c a w bs} (h : Evolves s₀ s) : Evolves s₀ (s.ownWrite c a w bs).2 := h.modCore.writeAt.modCore

theorem Evolves.hartStore {c f a v pc} (h : Evolves s₀ s) : Evolves s₀ (s.hartStore c f a v pc) := by
  unfold State.hartStore
  extract_lets _ _ t1
  have ht1 : Evolves s₀ t1 := h.busWrite
  refine .ite h.except ?_
  split
  · exact h.except
  · exact .ite h.except (.ite h (.ite h.except ht1.answer.retire))
  · extract_lets r
    have hr : Evolves s₀ r.2 := h.ownWrite
    exact .ite hr.retire hr.retire.machineCheck

theorem Evolves.hartLr {c d rd a pc} (h : Evolves s₀ s) : Evolves s₀ (s.hartLr c d rd a pc) := by
  unfold State.hartLr
  split
  · extract_lets
    split
    · exact h.except
    · split
      next x _ s1 e =>
        have h1 : Evolves s₀ s1 := .of_snd e h.readAt
        exact h1.modCore.result
      next x s1 e =>
        have h1 : Evolves s₀ s1 := .of_snd e h.readAt
        exact h1.except
  · extract_lets
    split
    · exact h.except
    · split
      next x _ s1 e =>
        have h1 : Evolves s₀ s1 := .of_snd e h.readAt
        exact h1.modCore.result
      next x s1 e =>
        have h1 : Evolves s₀ s1 := .of_snd e h.readAt
        exact h1.except

theorem Evolves.hartSc {c d rd a v pc} (h : Evolves s₀ s) : Evolves s₀ (s.hartSc c d rd a v pc) := by
  unfold State.hartSc
  extract_lets _ s1
  have h1 : Evolves s₀ s1 := h.modCore
  split
  · exact h.except
  · extract_lets _ r
    have hr : Evolves s₀ r.2 := h1.ownWrite
    exact .ite (.ite hr.result hr.except) h1.result

theorem Evolves.hartAmo {c o d rd a v pc} (h : Evolves s₀ s) : Evolves s₀ (s.hartAmo c o d rd a v pc) := by
  unfold State.hartAmo
  split
  · extract_lets
    split
    · exact h.except
    · split
      next x s1 e =>
        have h1 : Evolves s₀ s1 := .of_snd e h.readAt
        exact h1.except
      next x _ s1 e =>
        have h1 : Evolves s₀ s1 := .of_snd e h.readAt
        exact .ite h1.ownWrite.result h1.ownWrite.except
  · extract_lets
    split
    · exact h.except
    · split
      next x s1 e =>
        have h1 : Evolves s₀ s1 := .of_snd e h.readAt
        exact h1.except
      next x _ s1 e =>
        have h1 : Evolves s₀ s1 := .of_snd e h.readAt
        exact .ite h1.ownWrite.result h1.ownWrite.except

theorem Evolves.mwedge {c} (h : Evolves s₀ s) : Evolves s₀ (s.mwedge c).2 := by
  unfold State.mwedge
  split
  · exact h
  · split
    next e => exact .of_snd e h.draw

theorem Evolves.csrCustom {c num} (h : Evolves s₀ s) : EvolvesSnd s₀ (s.csrCustom c num) := by
  unfold State.csrCustom
  extract_lets k
  split
  · exact .some h.claim
  iterate 11 exact .some h
  · exact .some h.mwedge
  · exact .ite (.some h) (.ite (.some h) .none)

theorem Evolves.csrRead {c num} (h : Evolves s₀ s) : EvolvesSnd s₀ (s.csrRead c num) := by
  unfold State.csrRead
  split
  · exact .some h
  · exact h.csrCustom

theorem Evolves.csrWrite {c num v} (h : Evolves s₀ s) : Evolves s₀ (s.csrWrite c num v) := by
  unfold State.csrWrite
  split
  · exact h.sendEvent
  · exact h.modCore
  · exact h.modCore
  · exact h.taskDone
  · exact h.wdKick
  · exact h.modCore
  · exact h.modCore
  · exact .ite h.modCore h.modCore

theorem Evolves.hartCsr {c f rd num src w pc} (h : Evolves s₀ s) : Evolves s₀ (s.hartCsr c f rd num src w pc) := by
  unfold State.hartCsr
  extract_lets v op writes r old new s1
  have hr : Evolves s₀ r.2 := .ite_snd h (h.csrRead.getD h)
  have h1 : Evolves s₀ s1 := hr.modCore.retire
  exact .ite h.except (.ite h1.csrWrite h1)

theorem Evolves.hartExec {c i len w} (h : Evolves s₀ s) : Evolves s₀ (s.hartExec c i len w) := by
  unfold State.hartExec
  split
  · exact h.result
  · exact h.result
  · exact h.result
  · exact h.result
  · exact h.retire
  · exact h.hartLoad
  · exact h.hartStore
  · exact h.result
  · exact h.result
  · exact h.result
  · exact h.retire
  · exact h.modCore.retire
  · exact h.except
  · exact h.except
  · exact .ite h.except h.retire.modCore
  · exact .ite h.except h.retire.modCore.wake
  · exact h.hartCsr
  · exact h.hartLr
  · exact h.hartSc
  · exact h.hartAmo
  · exact h.except

theorem Evolves.fetch2 {c a} (h : Evolves s₀ s) : Evolves s₀ (s.fetch2 c a).2 := .ite_snd h (.ite_snd h h.coreBytes)

theorem Evolves.hartChecked {c i len w} (h : Evolves s₀ s) : Evolves s₀ (s.hartChecked c i len w) :=
  .ite (.ite h.modCore.residue h.modCore.residue.hartExec) h.hartExec

theorem Evolves.hartFetch {c} (h : Evolves s₀ s) : Evolves s₀ (s.hartFetch c) := by
  unfold State.hartFetch
  extract_lets
  split
  next _ x s1 e =>
    have h1 : Evolves s₀ s1 := .of_snd e h.fetch2
    exact h1.except
  next _ x _ s1 e =>
    have h1 : Evolves s₀ s1 := .of_snd e h.fetch2
    refine .ite h1.hartChecked ?_
    split
    next x1 s2 e1 =>
      have h2 : Evolves s₀ s2 := .of_snd e1 h1.fetch2
      exact h2.except
    next x1 _ s2 e1 =>
      have h2 : Evolves s₀ s2 := .of_snd e1 h1.fetch2
      exact h2.hartChecked

theorem Evolves.hartStep {c} (h : Evolves s₀ s) : Evolves s₀ (hartStep c s) := by
  unfold Machine.hartStep
  extract_lets s1
  have h1 : Evolves s₀ s1 := h.wake
  refine .ite h1 ?_
  split
  · exact h1.modCore
  · split
    next x _ s2 e =>
      have h2 : Evolves s₀ s2 := .of_snd e h1.draw
      exact h2.modCore.hartFetch

/-! ### Machine/HostIo.lean -/

theorem Evolves.ioRow {t' op work} (h : Evolves s₀ s) (hwork : ∀ x0 s, Evolves s₀ s → Evolves s₀ (work x0 s)) :
    Evolves s₀ (ioRow t' op work s) := by
  unfold Machine.ioRow
  split
  · exact .ite (hwork _ _ h) h
  · exact h

theorem Evolves.flushCmd {t' x} (h : Evolves s₀ s) : Evolves s₀ (flushCmd t' x s) := .ite h h.flushFetch

theorem Evolves.endWrite' {t' e x} (h : Evolves s₀ s) : Evolves s₀ (Machine.endWrite t' e x s) :=
  .ite h (.ite h.giveCseq.finish (.ite h.giveCseq.finish h))

theorem Evolves.holes {x} (h : Evolves s₀ s) : Evolves s₀ (s.holes x).2 := by
  unfold State.holes
  refine .foldl_snd h (fun s1 h1 _ => ?_)
  refine .ite_snd h1 (.ite_snd h1 ?_)
  split
  next e => exact .of_snd e h1.zoneInfo
  next e => exact .of_snd e h1.zoneInfo

theorem Evolves.endHoles {t' host media hs x} (h : Evolves s₀ s) : Evolves s₀ (s.endHoles t' host media hs x) := by
  unfold State.endHoles
  split
  · exact h.failRead
  · exact h.endRead

theorem Evolves.readClass {t' host media e x} (h : Evolves s₀ s) : Evolves s₀ (readClass t' host media e x s) := by
  unfold Machine.readClass
  refine .ite (.ite h ?_) (.ite h.failRead h.holes.endHoles)
  split
  next e1 => exact .of_snd e1 h.resolveRead
  next x1 _ s1 e1 =>
    have h1 : Evolves s₀ s1 := .of_snd e1 h.resolveRead
    exact .ite h1.endHoles h1.setTag

theorem Evolves.notifyHost {i x ty} (h : Evolves s₀ s) : Evolves s₀ (s.notifyHost i x ty) :=
  .foldl h (fun _ h _ => .ite h.modCtrl.aen h)

theorem Evolves.notifyHosts {i hs but ty} (h : Evolves s₀ s) : Evolves s₀ (s.notifyHosts i hs but ty) :=
  .foldl h (fun _ h _ => h.notifyHost)

theorem Evolves.resDone {t' i x} (h : Evolves s₀ s) : Evolves s₀ (s.resDone t' i x) := h.saveReservation.okTag

theorem Evolves.resRow {t' op work} (h : Evolves s₀ s) (hwork : ∀ x0 x1 s, Evolves s₀ s → Evolves s₀ (work x0 x1 s)) :
    Evolves s₀ (resRow t' op work s) :=
  .ioRow h (fun _ _ h => .ite (hwork _ _ _ h) h)

theorem Evolves.resRegister {t' data i x} (h : Evolves s₀ s) : Evolves s₀ (resRegister t' data i x s) := by
  unfold Machine.resRegister
  extract_lets act iekey cptpl hst n cr nr n' save
  refine .ite h.failTag ?_
  have hsave : ∀ m s, Evolves s₀ s → Evolves s₀ (save m s) := fun _ _ h => h.modNs.resDone
  refine .ite ?_ (.ite ?_ ?_)
  · split
    · exact .ite (hsave _ _ h) h.failTag
    · exact .ite h.failTag (hsave _ _ h)
  · split
    · exact h.failTag
    · exact .ite h.failTag (hsave _ _ (.ite h.notifyHosts h))
  · split
    · exact .ite h.failTag (hsave _ _ h)
    · exact .ite h.failTag (hsave _ _ h)

theorem Evolves.resPreempt {t' abort pr ty i x} (h : Evolves s₀ s) : Evolves s₀ (resPreempt t' abort pr ty i x s) := by
  unfold Machine.resPreempt
  extract_lets _ _ _ _ _ _ _ _ s1 s2
  have h1 : Evolves s₀ s1 := .foldl h (fun _ h _ => h.notifyHost)
  have h2 : Evolves s₀ s2 := by
    refine .ite (.foldl h1 (fun s1 h1 _ => ?_)) h1
    split
    · exact h1.abortTag
    · exact h1
  exact .ite h.failTag h2.modNs.resDone

theorem Evolves.resAcquire {t' data i x} (h : Evolves s₀ s) : Evolves s₀ (resAcquire t' data i x s) :=
  .ite h.failTag (.ite h.failTag (.ite (.ite h.modNs.resDone (.ite h.okTag h.failTag)) h.resPreempt))

theorem Evolves.resRelease {t' data i x} (h : Evolves s₀ s) : Evolves s₀ (resRelease t' data i x s) :=
  .ite h.failTag (.ite h.failTag (.ite (.ite h.okTag (.ite h.failTag (.resDone (.modNs (.ite h.notifyHosts h)))))
      h.notifyHosts.modNs.resDone))

theorem Evolves.resReport {t' i x} (h : Evolves s₀ s) : Evolves s₀ (resReport t' i x s) := .ite h.failTag h.giveData

theorem Evolves.zoneState {z st} (h : Evolves s₀ s) : Evolves s₀ (s.zoneState z st) := by
  unfold State.zoneState
  split
  next x _ s1 e =>
    have h1 : Evolves s₀ s1 := .of_snd e h.physRead
    exact h1.zonePut
  next e => exact .of_snd e h.physRead

theorem Evolves.zoneFinish {i z} (h : Evolves s₀ s) : Evolves s₀ (s.zoneFinish i z) := by
  unfold State.zoneFinish
  split
  next x _ s1 e =>
    have h1 : Evolves s₀ s1 := .of_snd e h.physRead
    exact h1.modHost.zonePut
  next e => exact .of_snd e h.physRead

/-- The state a zone's change answers evolves from `s₀`. -/
def EvolvesZone (s₀ : State) (a : ZoneAns) : Prop := ∀ t, a = .done t → Evolves s₀ t

theorem EvolvesZone.done (h : Evolves s₀ s) : EvolvesZone s₀ (.done s) := by
  intro t e
  rwa [← ZoneAns.done.inj e]

theorem EvolvesZone.refused {e} : EvolvesZone s₀ (.refused e) := by
  intro t e
  cases e

theorem EvolvesZone.waits : EvolvesZone s₀ .waits := by
  intro t e
  cases e

theorem EvolvesZone.ite {c : Prop} {i : Decidable c} {a b : ZoneAns} (ha : EvolvesZone s₀ a) (hb : EvolvesZone s₀ b) :
    EvolvesZone s₀ (if c then a else b) := by
  split
  · exact ha
  · exact hb

theorem Evolves.zoneChanges {z t} (h : Evolves s₀ t) : EvolvesZone s₀ (s.zoneChanges z t) := .ite (.done h) .waits

theorem Evolves.zoneAction {a i z} (h : Evolves s₀ s) : EvolvesZone s₀ (zoneAction a i z s) := by
  unfold Machine.zoneAction
  split
  · exact .refused
  · exact .ite (.ite h.zoneState.zoneChanges (.ite (.done h) .refused))
      (.ite (.ite h.rbDiscard.zoneFinish.zoneChanges (.ite h.rbDiscard.zoneChanges .refused))
      (.ite (.ite (.done h) (.ite h.zoneState.zoneChanges (.ite (.ite .refused (.ite .refused h.zoneState.zoneChanges))
          .refused)))
      (.ite (.ite h.rbDiscard.zoneChanges (.ite h.zoneReset.zoneChanges .refused))
      (.ite h.zoneState.zoneChanges .refused))))

theorem Evolves.zoneActions {a i l} (h : Evolves s₀ s) :
    Evolves s₀ (zoneActions a i l s).2 ∧ EvolvesZone s₀ (zoneActions a i l s).1 := by
  induction l generalizing s with
  | nil =>
    unfold Machine.zoneActions
    exact ⟨h, .done h⟩
  | cons z l ih =>
    unfold Machine.zoneActions
    split
    · next e => exact ih (h.zoneAction _ e)
    · exact ⟨h, .refused⟩
    · exact ⟨h, .waits⟩

theorem Evolves.zoneSend {t' x} (h : Evolves s₀ s) : Evolves s₀ (zoneSend t' x s) := by
  unfold Machine.zoneSend
  refine .ite h ?_
  extract_lets a
  split
  · exact h.failTag
  · extract_lets zs
    refine .ite h.failTag (.ite ?_ (.ite h.failTag (.ite h.failTag ?_)))
    · have ha := h.zoneActions (a := a) (i := sqNsid x.sqe - 1) (l := zs)
      split
      · next e => exact .okTag (ha.2 _ (congrArg Prod.fst e))
      · next e => exact .failTag (.of_snd e ha.1)
      · next e => exact .of_snd e ha.1
    · split
      · next e => exact .okTag (h.zoneAction _ e)
      · exact h.failTag
      · exact h

theorem Evolves.zoneDesc {first z} (h : Evolves s₀ s) : Evolves s₀ (s.zoneDesc first z).2 := by
  unfold State.zoneDesc
  split
  · exact h
  · exact .ite_snd h.draw h

theorem Evolves.zoneReceive {t' x} (h : Evolves s₀ s) : Evolves s₀ (zoneReceive t' x s) := by
  unfold Machine.zoneReceive
  refine .ite h ?_
  split
  · exact h.failTag
  · extract_lets _ _ _ _ _ _ r
    have hr : Evolves s₀ r.2 := .foldl_snd h (fun _ h _ => h.zoneDesc)
    exact .ite h.failTag (.ite h.failTag hr.giveData)

theorem Evolves.zoneSetRow (h : Evolves s₀ s) : Evolves s₀ (zoneSetRow s) := by
  have hrow : Evolves s₀ (Machine.catRow 4 Machine.doZoneSet s) := h.catRow fun _ _ h => h.doZoneSet
  unfold Machine.zoneSetRow
  split
  · exact hrow
  · extract_lets z before
    clear_value before
    split
    · exact hrow
    · split
      · exact hrow
      · refine .ite ?_ hrow
        split
        · exact .foldl hrow.modNs fun _ h _ => h.aen
        · exact hrow

/-! ### Machine/Microword.lean -/

theorem Evolves.setG {n k v} (h : Evolves s₀ s) : Evolves s₀ (s.setG n k v) := .ite h h.wr

theorem Evolves.lmAluStep {n w} (h : Evolves s₀ s) : Evolves s₀ (s.lmAluStep n w) :=
  .ite h (.ite (.ite h h.setG) (.modLmu (.ite h h.setG)))

theorem Evolves.lmBusStep {n w} (h : Evolves s₀ s) : EvolvesOpt s₀ (s.lmBusStep n w) := by
  unfold State.lmBusStep
  extract_lets _ _ _ s' s'1
  have h' : Evolves s₀ s' := h.busRead
  have h'1 : Evolves s₀ s'1 := h.busWrite
  split
  · refine .ite .none ?_
    split
    · exact .some h'.answer.setG
    · exact .none
  · exact .ite .none (.ite .none (.some h'1.answer))
  · exact .some h

theorem Evolves.lmGoto {n fromPc to'} (h : Evolves s₀ s) : Evolves s₀ (s.lmGoto n fromPc to') :=
  .ite h.lmFaultAt (.ite h.lmFaultAt h.modLmu.lmStatus)

theorem Evolves.lmSequence {n pc w cond disp} (h : Evolves s₀ s) : Evolves s₀ (s.lmSequence n pc w cond disp) := by
  unfold State.lmSequence
  split
  · exact h.lmGoto
  · exact h.lmGoto
  · exact h.lmGoto
  · exact .ite h.lmFaultAt h.modLmu.lmGoto
  · split
    · exact h.lmFaultAt
    · exact h.modLmu.lmGoto
  · exact h.setG.lmGoto
  · exact h.modLmu.lmStatus
  · exact .ite h.lmGoto h.modLmu.lmStatus
  · exact h.lmGoto
  · exact h.modLmu.put.lmStatus

theorem Evolves.lmParityFail {n pc} (h : Evolves s₀ s) : Evolves s₀ (s.lmParityFail n pc) :=
  .ifRuns h.lmHalt.faultBit (fun _ h => h.machineCheck)

theorem Evolves.lmExecute {n w handover} (h : Evolves s₀ s) : Evolves s₀ (s.lmExecute n w handover) := by
  unfold State.lmExecute
  extract_lets l pc dcmd
  refine .ite h.lmFaultAt (.ite h (.ite h ?_))
  split
  · exact h.lmAluStep.lmFaultAt
  · next e =>
    have h1 := h.lmAluStep.lmBusStep _ e
    extract_lets s1 s2
    have h2 : Evolves s₀ s1 := .ite h1 h1.modLmu
    have h3 : Evolves s₀ s2 := .ite h2.raise h2
    exact .ite h3.modLmu.lmStatus h3.lmSequence

theorem Evolves.microword {n handover} (h : Evolves s₀ s) : Evolves s₀ (microword n handover s) := by
  unfold Machine.microword
  extract_lets _ _ s1
  have h1 : Evolves s₀ s1 := h.put
  split
  · exact .ite h1.lmParityFail h1.lmExecute
  · exact .ite h.lmGoto h
  · exact h

/-! ### Machine/Tick.lean -/

theorem Evolves.runTime (h : Evolves s₀ s) : Evolves s₀ s.runTime := .frame h.setNum rfl

theorem Evolves.runOptime (h : Evolves s₀ s) : Evolves s₀ s.runOptime := .ite (.frame h.set64 rfl) (.frame h rfl)

theorem Evolves.tick' (h : Evolves s₀ s) : Evolves s₀ (Machine.tick s) :=
  .ite h (.ite h.runTime.runOptime.uartTick h.runTime.runOptime)

/-! ### Machine/Dispatch.lean and Machine/Step.lean -/

theorem Evolves.exec {c} (h : Evolves s₀ s) : Leads s₀ (exec c s) := by
  cases c with
  | registerWrite => exact .next h.accessWrite
  | expertWrite => exact .next h.accessWrite
  | wideRegisterRead => exact .next h.accessRead
  | flitReplay => exact .next (.ite h.replay h)
  | linkRetrain => exact .next (.ite h.retrain h)
  | linkRetrainCmd => exact .next (.access h (fun _ h => .ite h.linkPolicy.retrain h.linkPolicy))
  | retrainComplete => exact .next (.ite (.ite h.modEnds.linkBoth h.modEnds) h)
  | linkFailed => exact .next h.linkFailed
  | msgPacketReceive => exact .next h.msgReceive
  | rxqDataLoRead => exact .next (.access h (fun _ h => h.rxRead))
  | txqDataHiWrite => exact .next (.access h (fun _ h => h.txAppend))
  | txqGo => exact .next (.access h (fun _ h => h.txGo))
  | txqDiscard => exact .next (.access h (fun _ h => h.txDiscard))
  | linkClrDrop => exact .next (.access h (fun _ h => h.linkPolicy.setNum))
  | xtalLoss => exact .next h.xtalLoss
  | compUpdate => exact .next h.compUpdate
  | forwardFrameSend => exact .next (.ifCh h (fun _ h => h.forwardFrameSend))
  | forwardFrameReceive => exact .next (.ifCh h (fun _ h => h.forwardFrameReceive))
  | returnFrameReceive => exact .next (.ifCh h (fun _ h => h.returnFrameReceive))
  | wlLock => exact .next (.ifCh h (fun _ h => .ite h.put.modWl h))
  | wlRetFail => exact .next (.ifCh h (fun _ h => .ite h.put h))
  | wedgeLineFail => exact .next (.ifCh h (fun _ h => .ite h.put.raise h))
  | forwardStrandRestart => exact .next (.ifCh h (fun _ h => .ite h.modWl h))
  | sharedUnitGrant => exact h.execSharedUnitGrant
  | calDue => exact .next (.ite h.makeDue h)
  | calStart => exact .next (.access h (fun _ h => h.calStart))
  | calHoldoffEnd => exact .next (.ite h.modCal.makeDue h)
  | calDeadline => exact .next (.ite (.frame h.put rfl) h)
  | calRunComplete => exact .next (.ite h.calRun h)
  | optimeSave => exact .next h.saveOptime
  | powerOnReset => exact .next h.powerOn
  | keeperRomBoot => exact .next h.keeperRomBoot
  | hubResetRelease => exact .next h.hubResetRelease
  | hubRomBoot => exact .next h.hubRomBoot
  | chSupplyTimeout => exact .next h.chSupplyTimeout
  | blankImageDownload => exact .next (.ite (.adminRow h (fun _ _ h => h.blankImageDownload)) h)
  | keeperImageDownload => exact .next (.ite (.adminRow h (fun _ _ h => h.keeperImageDownload)) h)
  | expertUnlockWrite => exact .next h.accessWrite
  | fullBootRequest => exact .next (.access h (fun _ h => h.fullBootRequest))
  | fullBoot => exact .next h.fullBoot
  | colophonSign => exact .next (.ite h.colophonSign h)
  | lmsTreeGenerate => exact .next (.ite h.lmsTree h)
  | coloClose => exact .next (.access h (fun _ h => .ite h.closeRecord h))
  | coloLateClose => exact .next h.coloLateClose
  | servoGateOpen => exact .next (.ifCh h (fun _ h => h.servoGateOpen))
  | samAccept => exact .next (.ifCh h (fun _ h => h.samAccept))
  | wedgeLoss => exact .next (.ifCh h (fun _ h => h.wedgeLoss))
  | demodLoss => exact .next (.ifCh h (fun _ h => h.demodLoss))
  | demodSearch => exact .next (.access h (fun _ h => h.demodCtlWrite))
  | searchExit => exact .next (.ifCh h (fun _ h => h.searchExit))
  | demodCtlWrite => exact .next (.access h (fun _ h => h.demodCtlWrite))
  | demodStatRead => exact .next (.access h (fun _ h => h.demodStatRead))
  | pesReady => exact .next (.ifCh h (fun _ h => h.pesReady))
  | tdcTcUpdate => exact .next (.ifCh h (fun _ h => h.tdcTcUpdate))
  | tdcUnlock => exact .next (.ifCh h (fun _ h => h.tdcUnlock))
  | tdcRelock => exact .next (.ifCh h (fun _ h => h.tdcRelock))
  | demodCntClr => exact .next (.access h (fun _ h => h.demodCntClr))
  | loopGo => exact .next h.loopCmd
  | loopManual => exact .next h.loopCmd
  | loopAuto => exact .next h.loopCmd
  | loadHeads => exact .next h.loopCmd
  | unloadHeads => exact .next h.loopCmd
  | loopRearm => exact .next h.loopCmd
  | feTrip => exact .next (.ifCh h (fun _ h => h.feTrip))
  | lostEntry => exact .next (.ifCh h (fun _ h => h.lostEntry))
  | positionRecovered => exact .next (.ifCh h (fun _ h => h.positionRecovered))
  | lostRetract => exact .next (.ifCh h (fun _ h => h.lostRetract))
  | phi0Latch => exact .next (.ifCh h (fun _ h => h.phi0Latch))
  | subSetpoint => exact .next (.ifCh h (fun _ h => h.instantFrame))
  | claspFrameRepeat => exact .next (.ifCh h (fun _ h => h.claspFrameRepeat))
  | loopResidue => exact .next (.ifCh h (fun _ h => h.loopResidue))
  | holdHandover => exact .next (.ifCh h (fun _ h => h.holdHandover))
  | loopRestartDone => exact .next (.ifCh h (fun _ h => .ite h.loopRestartDone h.loopRestartDone.releaseLoop))
  | loopShadowEnd => exact .next (.ifCh h (fun _ h => h.loopShadowEnd))
  | holdInvalidRetract => exact .next (.ifCh h (fun _ h => h.holdInvalidRetract))
  | holdParity => exact .next (.ifCh h (fun _ h => h.holdParity))
  | coeffDerive => exact .next (.loopAccess h (fun _ h => h.coeffDerive))
  | seekPolicyWrite => exact .next (.loopAccess h (fun _ h => h.seekPolicyWrite))
  | clvRetract => exact .next (.access h (fun _ h => h.retractLane))
  | shockSample => exact .next h.shockSample
  | shockTripClear => exact .next (.access h (fun _ h => h.shockTripClear))
  | loadComplete => exact .next (.ifCh h (fun _ h => h.loadComplete))
  | loadTimeout => exact .next (.ifCh h (fun _ h => h.loadTimeout))
  | unloadComplete => exact .next (.ifCh h (fun _ h => h.unloadComplete))
  | pwmPeriod => exact .next h.pwmPeriod
  | lossOfSynchronism => exact .next h.lossOfSync
  | referenceTick => exact .next (.ite h.referenceTick h)
  | spinLockSet => exact .next (.ite h.spinLock h)
  | spinStart => exact .next (.access h (fun _ h => h.spinWrite))
  | spinStop => exact .next (.access h (fun _ h => h.spinWrite))
  | spinCoast => exact .next (.access h (fun _ h => h.spinWrite))
  | spinClear => exact .next (.access h (fun _ h => h.spinWrite))
  | zeroCrossing => exact .next (.ite h.senseCrossing (.ite h.holdCrossing h))
  | senseTimeout => exact .next h.senseTimeout
  | brakeHoldEnd => exact .next (.ite h.modSpin.modDrv h)
  | brakeEmfCheck => exact .next (.ite (.ite h.enterAlign h.setSpin) h)
  | alignComplete => exact .next (.ite h.setSpin.modSpin h)
  | rampHandover => exact .next (.ite h.setSpin h)
  | handoverFail => exact .next (.ite (.ite h.modSpin.enterFailed h.modSpin.enterBrake) h)
  | speedLock => exact .next (.ite h.setSpin.modSpin h)
  | holdAngleTimeout => exact .next (.ite (.ite h.setSpin.faultBit.enterSense h.setSpin.faultBit) h)
  | startTimeout => exact .next (.ite h.enterFailed h)
  | generateHoldEnd => exact .next h.modSpin
  | spinResidue => exact .next (.ite h.faultBit.put.modSpin h.noteBit)
  | spinRestartDone => exact .next (.ite h.modSpin.fromLastGood h)
  | spinCfgWrite => exact .next (.access h (fun _ h => h.spinCfgWrite))
  | claspBeat => exact .next h.claspBeat
  | claspReply => exact .next h.claspReply
  | claspNoReply => exact .next (.ite h.modCls.faultBit.raise h)
  | clsArm => exact .next (.access h (fun _ h => h.clsWrite))
  | clsRetract => exact .next (.access h (fun _ h => h.clsWrite))
  | clsClear => exact .next (.access h (fun _ h => h.clsWrite))
  | clsIdent => exact .next (.access h (fun _ h => h.clsWrite))
  | clsBridge => exact .next (.access h (fun _ h => h.clsWrite))
  | clsConfig => exact .next (.access h (fun _ h => h.clsWrite))
  | fmtSelWrite => exact .next (.access h (fun _ h => h.fmtSelWrite))
  | dcmdRead => exact .next (.ifCh h (fun _ h => h.dcmdRead.detStatus))
  | dcmdReadCont => exact .next (.ifCh h (fun _ h => h.dcmdReadCont.detStatus))
  | decodeEnd => exact .next (.ifCh h (fun _ h => h.decodeEnd.detStatus))
  | slipSearch => exact .next (.ifCh h (fun _ h => h.slipSearch.detStatus))
  | rcvGo => exact .next (.access h (fun _ h => h.rcvGo))
  | rcvAbort => exact .next (.access h (fun _ h => h.rcvAbort))
  | recoveryRevolution => exact .next (.ifCh h (fun _ h => h.recoveryRevolution))
  | sjGo => exact .next (.access h (fun _ h => h.sjGo))
  | softJobDone => exact .next (.ifCh h (fun _ h => h.softJobDone))
  | detectCntClr => exact .next (.access h (fun _ h => h.detectCntClr))
  | codewordEncode => exact .next (.ifCh h (fun _ h => h.codewordEncode))
  | encodeDone => exact .next (.ifCh h (fun _ h => h.encodeDone))
  | dcmdWrite => exact .next (.ifCh h (fun _ h => h.dcmdWrite))
  | dcmdWriteCont => exact .next (.ifCh h (fun _ h => h.dcmdWriteCont))
  | dcmdSplit => exact .next (.ifCh h (fun _ h => h.popAction.splitWrite.splitRead.detStatus))
  | dcmdClose => exact .next (.ifCh h (fun _ h => h.popAction.closeGates.detStatus))
  | sectorWriteEnd => exact .next (.ifCh h (fun _ h => h.sectorWriteEnd))
  | wrPolicyWrite => exact .next (.access h (fun _ h => h.wrPolicyWrite))
  | assistSample => exact .next (.ifCh h (fun _ h => h.assistSample))
  | setpointUpdate => exact .next (.ifCh h (fun _ h => h.updateSP))
  | asPreheatWrite => exact .next (.access h (fun _ h => h.asPreheatWrite))
  | flyDerive => exact .next (.access h (fun _ h => h.flyDerive))
  | flyReqWrite => exact .next (.access h (fun _ h => h.flyReqWrite))
  | flyGo => exact .next (.access h (fun _ h => h.flyGo))
  | flyAbort => exact .next (.access h (fun _ h => h.flyAbort))
  | contactSweepStep => exact .next (.ifCh h (fun _ h => h.contactSweepStep))
  | preampSlot => exact .next (.ifCh h (fun _ h => h.preampSlot))
  | preampNoReply => exact .next (.ifCh h (fun _ h => h.preampNoReply))
  | fltnLow => exact .next (.ifCh h (fun _ h => h.fltnLow))
  | paArm => exact .next (.access h (fun _ h => h.armPreamp))
  | paQcmdGo => exact .next (.access h (fun _ h => h.paQcmd))
  | wrHeadWrite => exact .next (.access h (fun _ h => h.wrHeadWrite))
  | folioEncode => exact .next (.folRow h (fun _ _ h => h.folEncode))
  | folioRebuild => exact .next (.folRow h (fun _ _ h => h.folRebuild))
  | folioPrior => exact .next (.folRow h (fun _ _ h => h.folPrior))
  | catLookup => exact .next (h.catRow fun _ _ h => h.doLookup)
  | smAdd => exact .next (h.catRow fun _ _ h => h.doSmAdd)
  | smDrop => exact .next (h.catRow fun _ _ h => h.doSmDrop)
  | zoneSet => exact .next h.zoneSetRow
  | bandSet => exact .next (h.catRow fun _ _ h => h.doBandSet)
  | rbSwitch => exact .next (h.catRow fun _ _ h => h.doSwitch)
  | rbSet => exact .next (h.catRow fun _ _ h => h.doRbSet)
  | catalogueEnable => exact .next (.access h (fun _ h => h.catEnable))
  | portTrain => exact .next h.portTrain
  | perstAssert => exact .next (.ite (.foldl h.linkDown (fun _ h _ => h.flr)) h)
  | portLinkDown => exact .next (.ite (.foldl h.linkDown (fun _ h _ => h.ctrlReset)) h)
  | vfEnable => exact .next h.vfEnable
  | controllerEnable => exact .next h.ctrlEnable
  | controllerReset => exact .next (.ite h.ctrlOff h)
  | functionLevelReset => exact .next (.ite h.flr h)
  | nvmSubsystemReset => exact .next h.subsystemReset
  | submissionFetch => exact .next h.submissionFetch
  | fetchResume => exact .next (.ite h.put h)
  | createIoSq => exact .next (.adminRow h (fun _ _ h => h.createSq))
  | createIoCq => exact .next (.adminRow h (fun _ _ h => h.createCq))
  | deleteIoSq => exact .next (.adminRow h (fun _ _ h => h.deleteSq))
  | deleteIoCq => exact .next (.adminRow h (fun _ _ h => h.deleteCq))
  | getLogPage => exact .next (.adminRow h (fun _ _ h => h.getLogPage))
  | getLogColophon => exact .next (.adminRow h (fun _ _ h => h.getLogColophon))
  | getLogAccession => exact .next (.adminRow h (fun _ _ h => h.getLogAccession))
  | nvmeIdentify => exact .next (.adminRow h (fun _ _ h => h.identifyCmd))
  | nvmeAbort => exact .next h.abortCmd
  | setFeaturesNumberOfQueues => exact .next (.adminRow h (fun _ _ h => h.setQueues))
  | setFeaturesVolatileWriteCache => exact .next (.adminRow h (fun _ _ h => h.setVwc))
  | setFeaturesPowerManagement => exact .next (.adminRow h (fun _ _ h => h.setPower))
  | setFeatures => exact .next (.adminRow h (fun _ _ h => h.setFeature))
  | getFeatures => exact .next (.adminRow h (fun _ _ h => h.getFeature))
  | asynchronousEventRequest => exact .next (.adminRow h (fun _ _ h => h.aerCmd))
  | firmwareImageDownload => exact .next (.adminRow h (fun _ _ h => h.imageDownload))
  | firmwareCommit => exact .next (.ite (.adminRow h (fun _ _ h => h.firmwareCommit)) h)
  | formatNvm => exact .next (.adminRow h (fun _ _ h => h.formatCmd))
  | securitySend => exact .next (.adminRow h (fun _ _ h => h.securitySend))
  | securityReceive => exact .next (.adminRow h (fun _ _ h => h.securityReceive))
  | inventoryCmd => exact .next h.inventoryCmd
  | nvmeFlush => exact .next (.ioRow h (fun _ _ h => h.flushCmd))
  | nvmeWrite => exact .next (.ioRow h (fun _ _ h => h.endWrite'))
  | nvmeRead => exact .next (.ioRow h (fun _ _ h => h.readClass))
  | nvmeCompare => exact .next (.ioRow h (fun _ _ h => h.readClass))
  | writeZeroes => exact .next (.ioRow h (fun _ _ h => h.endWrite'))
  | datasetManagement => exact .next (.ioRow h (fun _ _ h => h.endWrite'))
  | nvmeVerify => exact .next (.ioRow h (fun _ _ h => h.readClass))
  | reservationRegister => exact .next (.resRow h (fun _ _ _ h => h.resRegister))
  | reservationReport => exact .next (.resRow h (fun _ _ _ h => h.resReport))
  | reservationAcquire => exact .next (.resRow h (fun _ _ _ h => h.resAcquire))
  | reservationRelease => exact .next (.resRow h (fun _ _ _ h => h.resRelease))
  | zoneManagementSend => exact .next (.ioRow h (fun _ _ h => h.zoneSend))
  | zoneManagementReceive => exact .next (.ioRow h (fun _ _ h => h.zoneReceive))
  | zoneAppend => exact .next (.ioRow h (fun _ _ h => h.endWrite'))
  | ctrlNsWrite => exact .next (.access h (fun _ h => h.ctrlNsWrite))
  | inventoryRebuild => exact .next h.invRebuild
  | inventoryRefresh => exact .next h.invRefresh
  | invNoteDataWrite => exact .next (.access h (fun _ h => h.noteWrite))
  | mctpMessage => exact .next (.ite h.mctp h)
  | readNvmeMiDataStructure => exact .next (.ite h.miRead h)
  | nvmSubsystemHealthStatusPoll => exact .next (.ite h.miSubsystem h)
  | controllerHealthStatusPoll => exact .next (.ite h.miControllers h)
  | configurationGet => exact .next (.ite h.miGet h)
  | configurationSet => exact .next (.ite h.miSet h)
  | nvmeMiReset => exact .next h.miReset
  | basicManagementCommand => exact .next (.ite h.miBasic h)
  | nvmeMiAdminCommand => exact .next h.miAdmin
  | getVersion => exact .next (.ite h.spdmVersion h)
  | getCapabilities => exact .next (.ite h.spdmCapabilities h)
  | negotiateAlgorithms => exact .next (.ite h.spdmAlgorithms h)
  | getDigests => exact .next (.ite h.spdmDigests h)
  | getCertificate => exact .next (.ite h.spdmCertificate h)
  | spdmChallenge => exact .next (.ite h.spdmChallenge h)
  | getMeasurements => exact .next (.ite h.spdmMeasurements h)
  | tagDispatch => exact .next h.dispatchTag
  | writeDataArrive => exact .next h.dataArrive
  | writeAdmit => exact .next h.writeAdmit
  | tagComplete => exact .next (.tcRow h (fun _ _ _ h => h.completeTag))
  | tagMedia => exact .next (.tcRow h (fun _ _ _ h => h.mediaTag))
  | completionPost => exact .next h.postTag
  | wrtRelWrite => exact .next (.access h (fun _ h => h.wrtRel))
  | flushComplete => exact .next h.flushComplete
  | dumpArm => exact .next (.access h (fun _ h => h.dumpArm))
  | armComplete => exact .next h.armComplete
  | plpFail => exact .next h.plpFail
  | powerLossWarning => exact .next h.powerLossWarning
  | dumpWrite => exact .next h.dumpWriteRow
  | dumpComplete => exact .next h.dumpComplete
  | bootDump => exact .next h.bootDump
  | dumpRestore => exact .next h.dumpRestore
  | dramWrite => exact .next h.dramWriteCmd
  | dramInvalidate => exact .next (.access h (fun _ h => h.invalidateCmd))
  | dramSpare => exact .next (.access h (fun _ h => h.spareCmd))
  | dcmdDone => exact .next h.dcmdDone
  | stkAlloc => exact .next (.access h (fun _ h => h.stkOp))
  | stkAdd => exact .next (.access h (fun _ h => h.stkOp))
  | stkRelease => exact .next (.access h (fun _ h => h.stkOp))
  | stkFree => exact .next (.access h (fun _ h => h.stkOp))
  | stkQuery => exact .next (.access h (fun _ h => h.stkOp))
  | poolInit => exact .next (.access h (fun _ h => h.poolInit))
  | poolInitDone => exact .next h.poolInitDone
  | poolOff => exact .next (.access h (fun _ h => h.put))
  | poolClrLow => exact .next (.access h (fun _ h => h.poolClrLow))
  | hwAllocRetry => exact .next h.hwRetry
  | scClean => exact .next (.access h (fun _ h => .mopStart h (fun _ h1 => h1.cleanLines)))
  | scInval => exact .next (.access h (fun _ h => .mopStart h (fun _ h1 => h1.invalLines)))
  | scCleanInval => exact .next (.access h (fun _ h => .mopStart h (fun _ h1 => h1.cleanLines.invalLines)))
  | scCleanAll => exact .next (.access h (fun _ h => .mopStart h (fun _ h1 => h1.cleanLines)))
  | scCleanInvalAll => exact .next (.access h (fun _ h => .mopStart h (fun _ h1 => h1.cleanInvalAll)))
  | mopDone => exact .next h.mopDone
  | scrubItem => exact .next (.ite h.scrubItem h)
  | scrubLapEnd => exact .next (.ite h.scrubLapEnd h)
  | readRaw => exact .next (.access h (fun _ h => .expertGate h (fun _ h1 => h1.readRaw)))
  | writeRaw => exact .next (.access h (fun _ h => .expertGate h (fun _ h1 => h1.writeRaw)))
  | memCntClr => exact .next (.access h (fun _ h => h.memCntClr))
  | newkey => exact .next (.access h (fun _ h => h.keyCmd))
  | keyErase => exact .next (.access h (fun _ h => h.keyCmd))
  | cipherEnable => exact .next (.access h (fun _ h => h.cipherEnable))
  | coreInstruction => exact .next (.ifRuns h (fun _ h => h.hartStep))
  | mevclaimRead => exact .next (.csrRow h (fun _ h => h.claim.answer))
  | mevsendWrite => exact .next (.csrRow h (fun _ h => h.sendEvent))
  | mdinvWrite => exact .next (.csrRow h (fun _ h => h.modCore))
  | mtaskdoneWrite => exact .next (.csrRow h (fun _ h => h.taskDone))
  | mwdkickWrite => exact .next (.csrRow h (fun _ h => h.wdKick))
  | mresctlWrite => exact .next (.csrRow h (fun _ h => h.modCore))
  | timerInterrupt => exact .next (.ifRuns h (fun _ h => h.timerInterrupt))
  | residueMismatch => exact .next (.ifRuns h (fun _ h => h.residue))
  | machineCheck => exact .next (.ifRuns h (fun _ h => h.machineCheckRow))
  | warmRestart => exact .next (.ite h.warmRestart h)
  | warmRestartDone => exact .next (.ite h.warmRestartDone h)
  | watchdogExpiry => exact .next (.ifRuns h (fun _ h => h.watchdog))
  | coreStart => exact .next (.access h (fun _ h => h.coreStart))
  | coreWarm => exact .next (.access h (fun _ h => h.coreWarm))
  | eventRaise => exact .next h.raise
  | eventDeliver => exact .next h.eventDeliver
  | evRouteWrite => exact .next (.access h (fun _ h => h.evRouteWrite))
  | evSendWrite => exact .next (.access h (fun _ h => h.sendEvent))
  | taskRaise => exact .next (.ifCh h (fun _ h => h.taskRaise))
  | taskLate => exact .next (.ifCh h (fun _ h => h.taskLate))
  | lmLoadData7Write => exact .next (.access h (fun _ h => h.lmLoad))
  | lmStart => exact .next (.access h (fun _ h => h.lmStart))
  | lmVerifyDone => exact .next (.ifCh h (fun _ h => h.lmVerifyDone))
  | lmStop => exact .next (.access h (fun _ h => h.lmStop))
  | lmReload => exact .next (.access h (fun _ h => h.lmReload))
  | lmReloadDone => exact .next (.ifCh h (fun _ h => h.lmReloadDone))
  | microword => exact .next (.ifCh h (fun _ h => h.microword))
  | sigSha256 => exact .next (.access h (fun _ h => h.sigCmd))
  | sigSha384 => exact .next (.access h (fun _ h => h.sigCmd))
  | sigVerify => exact .next (.access h (fun _ h => h.sigCmd))
  | sigExtend => exact .next (.access h (fun _ h => h.sigCmd))
  | sigRandom => exact .next (.access h (fun _ h => h.sigCmd))
  | sigOpDone => exact .next (.ite h.sigOpDone h)
  | dbgChal => exact .next (.ite (.ite h.dbgChal h) (.access h (fun _ h => h.dbgChal)))
  | dbgToken => exact .next (.ite h.takeToken h)
  | dbgSubmit => exact .next (.access h (fun _ h => h.dbgSubmit))
  | tokenCheckDone => exact .next h.tokenCheckDone
  | challengeExpire => exact .next h.challengeExpire
  | dbgLock => exact .next (.access h (fun _ h => h.put))
  | dbgFabric => exact .next h.dbgFabric
  | otpProgWrite => exact .next (.access h (fun _ h => h.otpProgWrite))
  | otpProgramDone => exact .next h.otpProgramDone
  | nvsDataWrite => exact .next (.access h (fun _ h => h.nvsDataWrite))
  | nvsDataRead => exact .next (.access h (fun _ h => h.nvsDataRead))
  | nvsWriteDone => exact .next h.nvsWriteDone
  | updHdrchk => exact .next (.access h (fun _ h => h.updCmd))
  | updWrite => exact .next (.access h (fun _ h => h.updCmd))
  | updSelect => exact .next (.access h (fun _ h => h.updCmd))
  | updActivate => exact .next (.access h (fun _ h => h.updCmd))
  | updOpDone => exact .next (.ite h.updOpDone.xsRelease h)
  | chStepDrain => exact .next h.chStepDrain
  | hubStep => exact .next h.hubStep
  | updStWrite => exact .next (.access h (fun _ h => h.updSt))
  | selftestTimeout => exact .next h.selftestTimeout
  | updUnsealWrite => exact .next (.access h (fun _ h => h.updUnseal))
  | alogEnter => exact .next h.alogEnter
  | wrGoWrite => exact .next (.access h (fun _ h => h.wrGo))
  | actStateWrite => exact .next (.access h (fun _ h => h.actStateWrite))
  | fatalCmdWrite => exact .next (.access h (fun _ h => h.fatalCmd))
  | fatalSequence => exact .next h.fatalSequence
  | fatalRetractTimeout => exact .next h.fatalRetractTimeout
  | fatalFullBoot => exact .next h.fatalFullBoot
  | kprLinkFailTimer => exact .next h.kprLinkFailTimer
  | alogSave => exact .next (.access h (fun _ h => h.alogCopy))
  | alogCopyDone => exact .next h.alogCopyDone
  | alogFreeze => exact .next (.access h (fun _ h => h.alogFreeze))
  | alogUnfreeze => exact .next (.access h (fun _ h => h.alogUnfreeze))
  | freezeTimeout => exact .next h.freezeTimeout
  | ladderCmdWrite => exact .next (.access h (fun _ h => h.ladderCmd))
  | maxRungWrite => exact .next (.access h (fun _ h => h.maxRungWrite))
  | rungEntryStep => exact .next h.rungEntryStep
  | rungWake => exact .next h.wakeUp
  | rungExit => exact .next h.rungExit
  | supplyGood => exact .next h.supplyGood'
  | supplyLost => exact .next h.supplyLost
  | thermalConversion => exact .next h.thermalConversion
  | sensorBroken => exact .next h.sensorBroken
  | xsRead => exact .next (.access h (fun _ h => h.xsCmd))
  | xsProgram => exact .next (.access h (fun _ h => h.xsCmd))
  | xsErase => exact .next (.access h (fun _ h => h.xsCmd))
  | xsDone => exact .next (.ite h.xsDone h)
  | testEnAssert => exact .next h.testAssert
  | tapReset => exact .next h.tap
  | extest => exact .next h.extest
  | idcode => exact .next h.tap.answer
  | samplePreload => exact .next h.tap.modPins.answer
  | clamp => exact .next h.tap
  | highz => exact .next h.tap
  | bypass => exact .next h.tap
  | uartDataWrite => exact .next (.access h (fun _ h => h.uartWrite))
  | uartDataRead => exact .next (.access h (fun _ h => h.uartRead))
  | uartReceive => exact .next (.ite h.uartReceive h)
  | keyCommandDone => exact .next h.keyDone
  | i3cAddressAssignment => exact .next (.ite h.i3cAssign h)
  | testEnDeassert => exact .next h.testDeassert
  | gpioChange => exact .next h.gpioChange
  | keeperContextResidue => exact .next h.keeperResidue
  | controllerShutdown => exact .next h.ctrlShutdown

end

/-- What a step takes from the queue and keeps of the stores: it is the command at the front, or a microsecond, on the rest. -/
structure Steps (s t : State) : Prop where
  pending : t.pending = s.pending.tail
  wf : s.Wf → t.Wf
  otp : s.Wf → ∀ a i, s.otpBit a i = true → t.otpBit a i = true

theorem step_steps {s t : State} (e : step s = .next t) : Steps s t := by
  unfold step at e
  split at e
  · next c rest hp =>
    have h : Evolves { s with pending := rest } t := (Evolves.refl _).exec t e
    exact ⟨by rw [h.pending, hp, List.tail_cons], fun w => h.wf { w with }, fun w => h.otp { w with }⟩
  · next hp =>
    have h : Evolves s t := Leads.next (Evolves.refl s).tick' t e
    exact ⟨by rw [h.pending, hp, List.tail_nil], h.wf, h.otp⟩

/-- Settles O54: a step is a command or a microsecond, and each function of the model keeps every store canonical. -/
theorem everyStepKeepsTheCanonicalForms : Obligations.Every_step_keeps_the_canonical_forms := by
  unfold Obligations.Every_step_keeps_the_canonical_forms
  exact fun s t w e => (step_steps e).wf w

/-- Settles O56: the step takes the front command, and no function of the model writes the queue. -/
theorem aStepOnlyTakesFromTheQueue : Obligations.A_step_only_takes_from_the_queue := by
  unfold Obligations.A_step_only_takes_from_the_queue
  exact fun s t e => (step_steps e).pending

end Sys2Proof.Machine

namespace Sys2Proof.Machine

/-! ## MSG queues (R29) and the registers a wedge's commands write (R105, R129): two states of `State.Wf` that no run reaches -/

/-- A receive queue of 513 words, which `State.Wf` does not exclude, and a packet of no words under way to it over a link that is Up. -/
def overfullQueue : State :=
  { State.reset with
    links := modAt State.reset.links 4 (fun l => { l with rx := modAt l.rx 0 (fun _ => List.replicate 513 ⟨0, false, false⟩) })
    msgFlight := [⟨4, 0, 0, []⟩] }.put (LINK_STAT_STATE (linkBase 4)) 2

theorem exec_msgPacketReceive (e : LinkEnd) (q : Fin 8) (fate : MsgFate) (bad : List Nat) (s : State) :
    exec (.msgPacketReceive e q fate bad) s = .next (msgReceive e q fate bad s) := rfl

/-- A good packet of no words fits the room that an overfull queue has left: none. It is appended, not dropped. -/
theorem msgReceive_overfullQueue : bitOf ((msgReceive 4 0 .good [] overfullQueue).num (LINK_ERR (linkBase 4))) 4 = false := by
  decide +kernel

/-- Refutes O1: the clause on packets that do not fit compares the sum of the lengths with 512, the model the packet's length with the
room left. They part where a queue already holds more than 512 words and the packet has none. -/
theorem not_linkMSGQueuesMoveWholePackets : ¬ Obligations.Link_MSG_queues_move_whole_packets := by
  unfold Obligations.Link_MSG_queues_move_whole_packets
  rintro ⟨_, dropped, _⟩
  obtain ⟨t, ht, -, -, hbit, -⟩ := dropped overfullQueue 4 0 .good [] ⟨4, 0, 0, []⟩ (State.wf_of_wfb (by decide +kernel))
    (by decide +kernel) (by decide +kernel) (.inl (by decide +kernel)) (.inr (by decide +kernel))
  rw [exec_msgPacketReceive] at ht
  cases ht
  exact absurd (hbit.symm.trans msgReceive_overfullQueue) (by decide)

/-- An image that enables the four channel dies and gives nothing else. -/
def bareImage : Image := ⟨[], [0x0F], [], [], [], [], [], [], [], [], [], [], [], [], [], []⟩

/-- A write of the KPR's SPIN_CFG among those that take effect at DEMOD's next tick, which `State.Wf` does not exclude. -/
def strayDue : State :=
  { State.reset with img := some bareImage, demod := Vector.replicate 4 { Demod.reset with due := [(SPIN_CFG, 1)] } }

theorem exec_wedgeLoss (ch : Ch) (s : State) : exec (.wedgeLoss ch) s = .next (s.ifCh ch (wedgeLoss ch)) := rfl

/-- The tick that a lost wedge still makes carries the write out. -/
theorem wedgeLoss_strayDue : (strayDue.ifCh 0 (wedgeLoss 0)).rd SPIN_CFG ≠ strayDue.rd SPIN_CFG := by decide +kernel

/-- The die and the unit of an address in one of the named units. -/
theorem addr_of_inUnits {die a : Nat} {units : List Nat} (hd : die < 8) (hu : ∀ u ∈ units, u < 32) (h : inUnits die units a) :
    addrDie a = die ∧ addrUnit a ∈ units := by
  obtain ⟨u, o, hmem, ho, rfl⟩ := h
  have hu := hu u hmem
  have hunit : addrUnit (unitBase die u + o) = u := by simp only [addrUnit, unitBase]; omega
  refine ⟨by simp only [addrDie, unitBase]; omega, ?_⟩
  rwa [hunit]

theorem addrDie_spinCfg : addrDie SPIN_CFG = 5 := by decide

theorem addrUnit_spinCfg : addrUnit SPIN_CFG = 5 := by decide

/-- Refutes O57: DEMOD's due writes hold addresses, and the tick of WEDGE_LOSS writes whatever register they name, one of SPIN too. -/
theorem not_servoSpindleAndWedgeCommandsLeaveTheRest : ¬ Obligations.Servo_spindle_and_wedge_commands_leave_the_rest := by
  unfold Obligations.Servo_spindle_and_wedge_commands_leave_the_rest
  rintro ⟨_, _, _, _, _, _, _, _, _, _, _, _, _, _, _, _, _, _, _, _, _, _, _, _, _, _, _, _, _, wedgeLossFrame, _⟩
  obtain ⟨t, ht, -, keeps⟩ := wedgeLossFrame strayDue 0 (State.wf_of_wfb (by decide +kernel))
  rw [exec_wedgeLoss] at ht
  cases ht
  refine wedgeLoss_strayDue (keeps SPIN_CFG (fun h => ?_) (fun h => ?_) (fun m hm h => ?_) (fun h => ?_))
  · exact absurd (addrDie_spinCfg.symm.trans (addr_of_inUnits (by decide) (by decide) h).1) (by decide)
  · exact absurd (addrDie_spinCfg.symm.trans (addr_of_inUnits (by decide) (by decide) h).1) (by decide)
  · have hdie := addrDie_spinCfg.symm.trans (addr_of_inUnits (by omega) (by decide) h).1
    omega
  · exact absurd (addrUnit_spinCfg ▸ (addr_of_inUnits (by decide) (by decide) h).2) (by decide)

end Sys2Proof.Machine

namespace Sys2Proof.Machine

/-! ## What the boot relies on (R64, R72, R437)

A boot writes much of the state, but what its stages read again is left alone by most of the functions it calls: one rule for each. -/

/-- The registers a boot's stages read again, at the same place of each die: DIE_STAT of the die's own unit, PCYCLE (ALOG's unit 9 of the
KPR) and BOOT_STAT (its unit 12). -/
def isBootReg (a : Nat) : Bool :=
  decide (a % 0x20000000 = 0x4 ∨ a % 0x20000000 = 0x9000008 ∨ a % 0x20000000 = 0xC000000)

theorem isBootReg_eq_false {a : Nat} :
    isBootReg a = false ↔ a % 0x20000000 ≠ 0x4 ∧ a % 0x20000000 ≠ 0x9000008 ∧ a % 0x20000000 ≠ 0xC000000 := by
  simp [isBootReg]

theorem isBootReg_chReg (n u o : Nat) (h : isBootReg (hubReg u o) = false) : isBootReg (chReg n u o) = false := by
  have e : chReg n u o % 0x20000000 = hubReg u o % 0x20000000 := by
    unfold chReg hubReg
    omega
  rwa [isBootReg, e]

theorem isBootReg_dieStat (d : Nat) : isBootReg (DIE_STAT (unitBase d 0)) = true := by
  have e : DIE_STAT (unitBase d 0) % 0x20000000 = 0x4 := by
    unfold DIE_STAT unitBase
    omega
  simp only [isBootReg, e, true_or, decide_true]

/-- From `s` to `t` the image in force stays. With `dies` the channel dies that wait for their supplies stay too; with `boot` the flash, the
OTP array, the NV store below the reservation of leaves (19000h, R64) and the registers of `isBootReg`. -/
structure Keeps (dies boot : Bool) (s t : State) : Prop where
  img : t.img = s.img
  waits : dies = true → t.chWait = s.chWait
  otp : boot = true → t.otp = s.otp
  flash : boot = true → t.flash = s.flash
  nvs : boot = true → ∀ a < 0x19000, t.nvs.read 0 a = s.nvs.read 0 a
  regs : boot = true → ∀ a, isBootReg a = true → t.rd a = s.rd a

/-- The fields `Keeps` speaks of. -/
def State.bootFields (s : State) : Option Image × List Nat × Memory × Memory × Memory × List (Nat × Word) :=
  (s.img, s.chWait, s.otp, s.flash, s.nvs, s.bank)

section
variable {dies boot : Bool} {s₀ s t : State} {α : Type}

theorem Keeps.refl (s : State) : Keeps dies boot s s :=
  ⟨rfl, fun _ => rfl, fun _ => rfl, fun _ => rfl, fun _ _ _ => rfl, fun _ _ _ => rfl⟩

/-- Whatever changes none of these fields keeps them. -/
theorem Keeps.frame (h : Keeps dies boot s₀ s) (e : t.bootFields = s.bootFields) : Keeps dies boot s₀ t := by
  simp only [State.bootFields, Prod.mk.injEq] at e
  obtain ⟨himg, hwait, hotp, hflash, hnvs, hbank⟩ := e
  refine ⟨himg.trans h.img, fun e => hwait.trans (h.waits e), fun e => hotp.trans (h.otp e), fun e => hflash.trans (h.flash e),
    fun e => hnvs ▸ h.nvs e, fun e a ha => ?_⟩
  simpa only [State.rd, hbank] using h.regs e a ha

/-! ### Control -/

theorem Keeps.ite {c : Prop} {i : Decidable c} (hs : Keeps dies boot s₀ s) (ht : Keeps dies boot s₀ t) : Keeps dies boot s₀ (if c then s else t) := by
  split
  · exact hs
  · exact ht

theorem Keeps.ite_fst {c : Prop} {i : Decidable c} {p q : State × α} (hp : Keeps dies boot s₀ p.1) (hq : Keeps dies boot s₀ q.1) :
    Keeps dies boot s₀ (if c then p else q).1 := by
  split
  · exact hp
  · exact hq

theorem Keeps.ite_snd {c : Prop} {i : Decidable c} {p q : α × State} (hp : Keeps dies boot s₀ p.2) (hq : Keeps dies boot s₀ q.2) :
    Keeps dies boot s₀ (if c then p else q).2 := by
  split
  · exact hp
  · exact hq

theorem Keeps.pair {a : α} (h : Keeps dies boot s₀ t) : Keeps dies boot s₀ (a, t).2 := h

theorem Keeps.of_snd {p : α × State} {a : α} (e : p = (a, t)) (h : Keeps dies boot s₀ p.2) : Keeps dies boot s₀ t := by
  subst e
  exact h

theorem Keeps.foldl_mem {f : State → α → State} {l : List α} (h : Keeps dies boot s₀ s)
    (hf : ∀ s, Keeps dies boot s₀ s → ∀ a ∈ l, Keeps dies boot s₀ (f s a)) : Keeps dies boot s₀ (l.foldl f s) := by
  induction l generalizing s with
  | nil => exact h
  | cons a l ih => exact ih (hf s h a List.mem_cons_self) fun s hs c hc => hf s hs c (List.mem_cons_of_mem a hc)

theorem Keeps.foldl {f : State → α → State} {l : List α} (h : Keeps dies boot s₀ s)
    (hf : ∀ s, Keeps dies boot s₀ s → ∀ a, Keeps dies boot s₀ (f s a)) : Keeps dies boot s₀ (l.foldl f s) :=
  h.foldl_mem fun s hs a _ => hf s hs a

theorem Keeps.foldl_snd {β : Type} {p : β × State} {f : β × State → α → β × State} {l : List α} (h : Keeps dies boot s₀ p.2)
    (hf : ∀ p, Keeps dies boot s₀ p.2 → ∀ a, Keeps dies boot s₀ (f p a).2) : Keeps dies boot s₀ (l.foldl f p).2 := by
  induction l generalizing p with
  | nil => exact h
  | cons a l ih => exact ih (hf p h a)

/-! ### Writes of the bank and of the NV store -/

theorem Keeps.wr {a : Nat} {v : Word} (h : Keeps dies boot s₀ s) (ha : isBootReg a = false) : Keeps dies boot s₀ (s.wr a v) := by
  refine ⟨h.img, h.waits, h.otp, h.flash, h.nvs, fun e c hc => ?_⟩
  have hne : c ≠ a := by
    rintro rfl
    rw [ha] at hc
    cases hc
  rw [State.rd_wr_other s v hne]
  exact h.regs e c hc

theorem Keeps.nvsWrite {a : Nat} {bs : List Byte} (h : Keeps dies boot s₀ s) (ha : 0x19000 ≤ a) : Keeps dies boot s₀ (s.nvsWrite a bs) := by
  refine ⟨h.img, h.waits, h.otp, h.flash, fun e c hc => ?_, h.regs⟩
  exact (Memory.read_writeN_other (by omega)).trans (h.nvs e c hc)

theorem Keeps.put {f x} (h : Keeps dies boot s₀ s) (ha : isBootReg f.addr = false) : Keeps dies boot s₀ (s.put f x) := h.wr ha

theorem Keeps.setNum {a x} (h : Keeps dies boot s₀ s) (ha : isBootReg a = false) : Keeps dies boot s₀ (s.setNum a x) := h.wr ha

theorem Keeps.set64 {lo hi v} (h : Keeps dies boot s₀ s) (hlo : isBootReg lo = false) (hhi : isBootReg hi = false) :
    Keeps dies boot s₀ (s.set64 lo hi v) :=
  (h.setNum hlo).setNum hhi

theorem Keeps.add64 {lo hi k} (h : Keeps dies boot s₀ s) (hlo : isBootReg lo = false) (hhi : isBootReg hi = false) :
    Keeps dies boot s₀ (s.add64 lo hi k) :=
  (h.setNum hlo).setNum hhi

/-! ### Fields beside the bank, events, the log and the fault registers -/

theorem Keeps.draw {what} (h : Keeps dies boot s₀ s) : Keeps dies boot s₀ (s.draw what).2 := .frame h rfl

theorem Keeps.modDemod {n f} (h : Keeps dies boot s₀ s) : Keeps dies boot s₀ (s.modDemod n f) := .frame h rfl

theorem Keeps.modLoop {n f} (h : Keeps dies boot s₀ s) : Keeps dies boot s₀ (s.modLoop n f) := .frame h rfl

theorem Keeps.setClv {n b} (h : Keeps dies boot s₀ s) : Keeps dies boot s₀ (s.setClv n b) := .frame h rfl

theorem Keeps.modSig {f} (h : Keeps dies boot s₀ s) : Keeps dies boot s₀ (s.modSig f) := .frame h rfl

theorem Keeps.modLad {f} (h : Keeps dies boot s₀ s) : Keeps dies boot s₀ (s.modLad f) := .frame h rfl

theorem Keeps.modCls {f} (h : Keeps dies boot s₀ s) : Keeps dies boot s₀ (s.modCls f) := .frame h rfl

theorem Keeps.unmark {m a n} (h : Keeps dies boot s₀ s) : Keeps dies boot s₀ (s.unmark m a n) := .frame h rfl

theorem Keeps.validate {k a n} (h : Keeps dies boot s₀ s) : Keeps dies boot s₀ (s.validate k a n) := .ite h (.frame h rfl)

theorem Keeps.loseResv {m a n} (h : Keeps dies boot s₀ s) : Keeps dies boot s₀ (s.loseResv m a n) := .frame h rfl

theorem Keeps.setPend {c e} (h : Keeps dies boot s₀ s) : Keeps dies boot s₀ (s.setPend c e) := .frame h rfl

theorem Keeps.unrouted {e} (h : Keeps dies boot s₀ s) : Keeps dies boot s₀ (s.unrouted e) :=
  .ite (((h.put (by rfl)).setNum (by rfl)).put (by rfl)) ((h.put (by rfl)).setNum (by rfl))

theorem Keeps.raise {e} (h : Keeps dies boot s₀ s) : Keeps dies boot s₀ (s.raise e) :=
  .ite h (.ite (.ite h.setPend (.frame h rfl)) h.unrouted)

theorem Keeps.countSev {sev} (h : Keeps dies boot s₀ s) : Keeps dies boot s₀ (s.countSev sev) :=
  h.setNum <| isBootReg_eq_false.2 (by simp only [SEV_CNT, kprReg]; omega)

theorem Keeps.noteClass {r} (h : Keeps dies boot s₀ s) : Keeps dies boot s₀ (s.noteClass r) := .ite h (.frame h rfl)

theorem Keeps.offer {r} (h : Keeps dies boot s₀ s) : Keeps dies boot s₀ (s.offer r).1 :=
  have h2 := ((h.setNum (by rfl)).setNum (by rfl)).countSev.noteClass
  .ite_fst (.frame h2 rfl) h2

theorem Keeps.countDrop (h : Keeps dies boot s₀ s) : Keeps dies boot s₀ s.countDrop :=
  .ite (((h.put (by rfl)).setNum (by rfl)).put (by rfl)) ((h.put (by rfl)).setNum (by rfl))

theorem Keeps.latchFirst {first valid old new bit} (h : Keeps dies boot s₀ s)
    (hf : isBootReg first = false) : Keeps dies boot s₀ (s.latchFirst first valid old new bit) :=
  .ite (h.wr hf) (.ite (h.wr hf) h)

theorem Keeps.noteDrop (h : Keeps dies boot s₀ s) : Keeps dies boot s₀ s.noteDrop :=
  .ite h.countDrop (.ite (h.countDrop.latchFirst (by rfl)).raise.offer.countDrop (h.countDrop.latchFirst (by rfl)).raise.offer)

theorem Keeps.log {r} (h : Keeps dies boot s₀ s) : Keeps dies boot s₀ (s.log r) := .ite h.offer.noteDrop h.offer

/-- Neither the fault register nor its latch of the first fault is one a boot reads again. -/
def FaultReg.offBoot (fr : FaultReg) : Bool := !isBootReg fr.addr && fr.first.all fun p => !isBootReg p.1

theorem FaultReg.offBoot_addr {fr : FaultReg} (h : fr.offBoot = true) : isBootReg fr.addr = false := by
  simp only [FaultReg.offBoot, Bool.and_eq_true, Bool.not_eq_true'] at h
  exact h.1

theorem FaultReg.offBoot_first {fr : FaultReg} {p : Nat × Nat} (h : fr.offBoot = true) (e : fr.first = some p) : isBootReg p.1 = false := by
  simp only [FaultReg.offBoot, e, Option.all_some, Bool.and_eq_true, Bool.not_eq_true'] at h
  exact h.2

theorem Keeps.faultBit {fr bit sev cls inst detail} (h : Keeps dies boot s₀ s)
    (hfr : fr.offBoot = true) : Keeps dies boot s₀ (s.faultBit fr bit sev cls inst detail) := by
  unfold State.faultBit
  extract_lets _ _ s1 s2 s3
  have h1 : Keeps dies boot s₀ s1 := h.wr (FaultReg.offBoot_addr hfr)
  have h2 : Keeps dies boot s₀ s2 := by
    unfold s2
    split
    next e => exact h1.latchFirst (FaultReg.offBoot_first hfr e)
    · exact h1
  have h3 : Keeps dies boot s₀ s3 := h2.log
  refine .ite h ?_
  split
  · exact h3.raise
  · exact h3

theorem Keeps.noteBit {fr bit} (h : Keeps dies boot s₀ s) (hfr : fr.offBoot = true) :
    Keeps dies boot s₀ (s.noteBit fr bit) :=
  h.faultBit hfr

theorem Keeps.countSatFault {cnt fr bit k} (h : Keeps dies boot s₀ s)
    (hc : isBootReg cnt = false) (hfr : fr.offBoot = true) :
    Keeps dies boot s₀ (s.countSatFault cnt fr bit k) :=
  .ite ((h.setNum hc).noteBit hfr) (h.setNum hc)

theorem Keeps.partFirst {fatal die unit bit offset} (h : Keeps dies boot s₀ s) :
    Keeps dies boot s₀ (s.partFirst fatal die unit bit offset) :=
  .ite h (h.setNum (by rfl))

theorem Keeps.setActState {n v} (h : Keeps dies boot s₀ s) : Keeps dies boot s₀ (s.setActState n v) := h.wr (by rfl)

/-! ### The memories and the system cache -/

/-- Past DIE_STAT's offset, the unit of a memory has none of them. -/
theorem isBootReg_memUnit (m o : Nat) (h : 0x4 < o) (ho : o < 0x1000000) : isBootReg (memUnit m + o) = false := by
  rw [isBootReg_eq_false]
  unfold memUnit
  simp only [hubDRAMC, hubSCACHE, hubHSRAM, chCSRAM, hubReg, chReg]
  split_ifs <;> omega

theorem memFault_offBoot (m : Nat) : (memFault m).offBoot = true := by
  have he : isBootReg (MEM_ERR (memUnit m)) = false := isBootReg_memUnit m _ (by decide) (by decide)
  have hf : isBootReg (MEM_FIRST (memUnit m)) = false := isBootReg_memUnit m _ (by decide) (by decide)
  simp only [FaultReg.offBoot, memFault, memErr, he, hf, Option.all_some, Bool.not_false, Bool.and_self]

theorem Keeps.memCe {m a} (h : Keeps dies boot s₀ s) : Keeps dies boot s₀ (s.memCe m a) :=
  ((h.set64 (isBootReg_memUnit m 0x50 (by decide) (by decide)) (isBootReg_memUnit m 0x54 (by decide) (by decide))).noteBit
    (memFault_offBoot m)).countSatFault (isBootReg_memUnit m 0x48 (by decide) (by decide)) (memFault_offBoot m)

theorem Keeps.memUe {m a} (h : Keeps dies boot s₀ s) : Keeps dies boot s₀ (s.memUe m a) :=
  ((h.set64 (isBootReg_memUnit m 0x58 (by decide) (by decide)) (isBootReg_memUnit m 0x5C (by decide) (by decide))).faultBit
    (memFault_offBoot m)).countSatFault (isBootReg_memUnit m 0x4C (by decide) (by decide)) (memFault_offBoot m)

theorem Keeps.memPoison {m} (h : Keeps dies boot s₀ s) : Keeps dies boot s₀ (s.memPoison m) := h.noteBit (memFault_offBoot m)

theorem Keeps.setMark {m a k} (h : Keeps dies boot s₀ s) : Keeps dies boot s₀ (s.setMark m a k) := .frame h rfl

theorem Keeps.setArray {m x} (h : Keeps dies boot s₀ s) : Keeps dies boot s₀ (s.setArray m x) :=
  .ite (.frame h rfl) (.ite (.frame h rfl) (.frame h rfl))

theorem Keeps.eccWord {p : (Memory × Bool) × State} {m e} (h : Keeps dies boot s₀ p.2) : Keeps dies boot s₀ (State.eccWord m p e).2 := by
  unfold State.eccWord
  extract_lets _ s1
  split
  · exact h
  · exact h.memCe
  · exact h.memUe
  · exact h.memPoison

theorem Keeps.eccRead {m a n} (h : Keeps dies boot s₀ s) : Keeps dies boot s₀ (s.eccRead m a n).2 := by
  unfold State.eccRead
  split
  · exact h
  · exact .foldl_snd h (fun _ h _ => h.eccWord)

theorem Keeps.eccStore {m a bs} (h : Keeps dies boot s₀ s) : Keeps dies boot s₀ (s.eccStore m a bs).2 := by
  unfold State.eccStore
  extract_lets _ s1
  have h1 : Keeps dies boot s₀ s1 := h.memCe.setMark
  split
  · exact h.setArray
  · refine .ite_snd h.setMark.setArray ?_
    split
    · exact h.setMark.setArray
    · exact h1.setArray
    · exact h.memUe
    · exact h.memPoison

theorem Keeps.eccWrite {m a bs} (h : Keeps dies boot s₀ s) : Keeps dies boot s₀ (s.eccWrite m a bs).2 :=
  .ite_snd h.setArray (.foldl_snd h (fun _ h _ => .ite_snd h.eccStore h))

theorem Keeps.dramRead {a n} (h : Keeps dies boot s₀ s) : Keeps dies boot s₀ (s.dramRead a n).2 := h.eccRead

theorem Keeps.dramWrite {a bs} (h : Keeps dies boot s₀ s) : Keeps dies boot s₀ (s.dramWrite a bs).2 :=
  .ite h.eccWrite (.frame h.eccWrite rfl)

theorem Keeps.setLine {k l} (h : Keeps dies boot s₀ s) : Keeps dies boot s₀ (s.setLine k l) := .frame h rfl

theorem Keeps.dropLine {k l} (h : Keeps dies boot s₀ s) : Keeps dies boot s₀ (s.dropLine k l) := .unmark (.frame h rfl)

theorem Keeps.writeBlock {l b} (h : Keeps dies boot s₀ s) : Keeps dies boot s₀ (s.writeBlock l b) :=
  .ite h.dramWrite.setMark h.dramWrite.setMark

theorem Keeps.writeBack {l} (h : Keeps dies boot s₀ s) : Keeps dies boot s₀ (s.writeBack l) := h.writeBlock.writeBlock

theorem Keeps.dropVictim {l} (h : Keeps dies boot s₀ s) : Keeps dies boot s₀ (s.dropVictim l) := .unmark (.frame h rfl)

theorem Keeps.writeOut {l} (h : Keeps dies boot s₀ s) : Keeps dies boot s₀ (s.writeOut l) := h.writeBack.dropVictim

theorem Keeps.drainVictim {a} (h : Keeps dies boot s₀ s) : Keeps dies boot s₀ (s.drainVictim a) := by
  unfold State.drainVictim
  split
  · exact .ite h h.writeOut
  · exact h

theorem Keeps.toVictim {l} (h : Keeps dies boot s₀ s) : Keeps dies boot s₀ (s.toVictim l) := by
  unfold State.toVictim
  extract_lets s1
  have h1 : Keeps dies boot s₀ s1 := by
    refine .ite ?_ h
    split
    · exact h.writeOut
    · exact h
  exact .frame h1 rfl

theorem Keeps.scVictim {set ways} (h : Keeps dies boot s₀ s) : Keeps dies boot s₀ (s.scVictim set ways).2 := by
  unfold State.scVictim
  extract_lets _ _ s1
  have h1 : Keeps dies boot s₀ s1 := by
    refine .foldl h (fun s1 h1 _ => ?_)
    split
    · exact h1.setLine
    · exact h1
  split
  · exact h
  · exact h1

theorem Keeps.scFill {c a data dirty} (h : Keeps dies boot s₀ s) : Keeps dies boot s₀ (s.scFill c a data dirty) := by
  unfold State.scFill
  split
  next x _ s1 e =>
    have h1 : Keeps dies boot s₀ s1 := .of_snd e h.scVictim
    extract_lets _ s2
    have h2 : Keeps dies boot s₀ s2 := by
      unfold s2
      split
      · exact .ite h1.toVictim h1.dropLine
      · exact h1
    exact h2.setLine

theorem Keeps.lineRead {k l a n} (h : Keeps dies boot s₀ s) : Keeps dies boot s₀ (s.lineRead k l a n).2 := by
  unfold State.lineRead
  split
  · exact h
  · extract_lets _ r
    have hr : Keeps dies boot s₀ r.2 := by
      refine .foldl_snd h (fun s1 h1 _ => ?_)
      split
      · extract_lets
        split
        · exact h1.memCe
        · exact h1
        · exact h1.memUe
      · extract_lets
        split
        · exact h1.memCe
        · exact h1
        · exact h1.memCe
    exact .ite_snd hr (.ite_snd hr hr.dropLine)

theorem Keeps.fetchLine {a} (h : Keeps dies boot s₀ s) : Keeps dies boot s₀ (s.fetchLine a).2 := h.dramRead

theorem Keeps.scReadMiss {c a n} (h : Keeps dies boot s₀ s) : Keeps dies boot s₀ (s.scReadMiss c a n).2 := by
  unfold State.scReadMiss
  refine .ite_snd h.dramRead ?_
  split
  next x _ s1 e =>
    have h1 : Keeps dies boot s₀ s1 := .of_snd e h.fetchLine
    exact h1.scFill
  next e => exact .of_snd e h.fetchLine

theorem Keeps.scRead {c a n} (h : Keeps dies boot s₀ s) : Keeps dies boot s₀ (s.scRead c a n).2 := by
  unfold State.scRead
  extract_lets s1 s2
  have h1 : Keeps dies boot s₀ s1 := h.drainVictim.add64 (by rfl) (by rfl)
  have h2 : Keeps dies boot s₀ s2 := h1.add64 (by rfl) (by rfl)
  split
  · split
    · split
      next e => exact .of_snd e h2.lineRead
      next e => exact .of_snd e h2.lineRead
    · exact h2.scReadMiss
  · extract_lets s3
    have h3 : Keeps dies boot s₀ s3 := h1.setLine
    split
    next e => exact .of_snd e h3.lineRead
    next x s4 e =>
      have h4 : Keeps dies boot s₀ s4 := .of_snd e h3.lineRead
      exact h4.scReadMiss
    next e => exact .of_snd e h3.lineRead

theorem Keeps.scUpdate {k l a bs} (h : Keeps dies boot s₀ s) : Keeps dies boot s₀ (s.scUpdate k l a bs).2 :=
  .ite_snd h.unmark.setLine (.ite_snd h.unmark.writeBack.setLine h.unmark.dramWrite.setLine)

theorem Keeps.fetchAround {a bs} (h : Keeps dies boot s₀ s) : Keeps dies boot s₀ (s.fetchAround a bs).2 := by
  unfold State.fetchAround
  refine .foldl_snd h (fun s1 h1 _ => ?_)
  split
  · exact h1
  · refine .ite_snd h1 ?_
    split
    next e => exact .of_snd e h1.dramRead
    next e => exact .of_snd e h1.dramRead

theorem Keeps.scWriteMiss {c a bs} (h : Keeps dies boot s₀ s) : Keeps dies boot s₀ (s.scWriteMiss c a bs).2 := by
  unfold State.scWriteMiss
  refine .ite_snd h.dramWrite ?_
  split
  next x s1 e =>
    have h1 : Keeps dies boot s₀ s1 := .of_snd e h.fetchAround
    exact .ite_snd h1.dramWrite h1
  next x _ s1 e =>
    have h1 : Keeps dies boot s₀ s1 := .of_snd e h.fetchAround
    extract_lets _ r
    have hr : Keeps dies boot s₀ r.2 := h1.dramWrite
    exact .ite_snd h1.scFill (.ite_snd hr.scFill hr)

theorem Keeps.scWrite {c a bs} (h : Keeps dies boot s₀ s) : Keeps dies boot s₀ (s.scWrite c a bs).2 := by
  unfold State.scWrite
  extract_lets s1 s2
  have h1 : Keeps dies boot s₀ s1 := h.drainVictim.add64 (by rfl) (by rfl)
  have h2 : Keeps dies boot s₀ s2 := h1.add64 (by rfl) (by rfl)
  split
  · refine .scWriteMiss ?_
    split
    · exact h2.writeOut
    · exact h2
  · refine .ite_snd h1.scUpdate ?_
    split
    next x _ s3 e =>
      have h3 : Keeps dies boot s₀ s3 := .of_snd e h1.lineRead
      exact h3.scUpdate
    next x s3 e =>
      have h3 : Keeps dies boot s₀ s3 := .of_snd e h1.lineRead
      exact h3.scWriteMiss
    next e => exact .of_snd e h1.lineRead

theorem Keeps.hsramRead {o n} (h : Keeps dies boot s₀ s) : Keeps dies boot s₀ (s.hsramRead o n).2 := .ite_snd h.eccRead h

theorem Keeps.sramWrite {m o bs} (h : Keeps dies boot s₀ s) : Keeps dies boot s₀ (s.sramWrite m o bs).2 :=
  .loseResv (.ite h.eccWrite.validate h.eccWrite)

theorem Keeps.hsramWrite {o bs} (h : Keeps dies boot s₀ s) : Keeps dies boot s₀ (s.hsramWrite o bs).2 := .ite_snd h.sramWrite h

theorem Keeps.physRead {c a n} (h : Keeps dies boot s₀ s) : Keeps dies boot s₀ (s.physRead c a n).2 := by
  unfold State.physRead
  refine .ite_snd h.hsramRead (.ite_snd (.foldl_snd h (fun s1 h1 _ => ?_)) h)
  split
  · exact h1
  · split
    next e => exact .of_snd e h1.scRead
    next e => exact .of_snd e h1.scRead

theorem Keeps.physWrite {c a bs} (h : Keeps dies boot s₀ s) : Keeps dies boot s₀ (s.physWrite c a bs).2 :=
  .ite_snd h.hsramWrite (.ite_snd (.foldl_snd h.loseResv (fun _ h _ => .ite_snd h.scWrite h)) h)

/-! ### Buffers, the host's commands and a degraded actuator -/

theorem Keeps.setMode {n m} (h : Keeps dies boot s₀ s) : Keeps dies boot s₀ (s.setMode n m) :=
  have h1 (x : Nat) := h.put (f := LOOP_STAT_MODE n) (x := x) (isBootReg_chReg n 9 0x4 rfl)
  have h2 (x y : Nat) := (h1 x).put (f := LOOP_STAT_HOLD_ACTIVE n) (x := y) (isBootReg_chReg n 9 0x4 rfl)
  have h3 (x y : Nat) := (h2 x y).put (f := HOLD_STAT_ACTIVE n) (x := y) (isBootReg_chReg n 10 0 rfl)
  (h3 _ _).put (isBootReg_chReg n 13 0 rfl)

theorem Keeps.setBuf {i gen owners} (h : Keeps dies boot s₀ s) : Keeps dies boot s₀ (s.setBuf i gen owners) := .physWrite (.frame h rfl)

theorem Keeps.countFree {p} (hp : p < 16) (h : Keeps dies boot s₀ s) : Keeps dies boot s₀ (s.countFree p) := by
  have h1 (x : Nat) : Keeps dies boot s₀ (s.put (POOL_STAT_FREE p) x) :=
    h.put <| isBootReg_eq_false.2 (by simp only [POOL_STAT_FREE, POOL_STAT, hubReg]; omega)
  exact .ite ((h1 _).put <| isBootReg_eq_false.2 (by simp only [POOL_LOW_LOW, POOL_LOW, hubReg]; omega)) (h1 _)

theorem Keeps.stkRead {i} (h : Keeps dies boot s₀ s) : Keeps dies boot s₀ (s.stkRead i).2 := by
  unfold State.stkRead
  split
  next e => exact .of_snd e h.physRead
  next x s1 e =>
    have h1 : Keeps dies boot s₀ s1 := .of_snd e h.physRead
    exact h1.noteBit (by rfl)

theorem Keeps.stkNamed {x rest} (h : Keeps dies boot s₀ s) (hrest : ∀ x0 x1 s, Keeps dies boot s₀ s → Keeps dies boot s₀ (rest x0 x1 s).2) :
    Keeps dies boot s₀ (s.stkNamed x rest).2 := by
  unfold State.stkNamed
  refine .ite_snd h ?_
  split
  · exact h
  · split
    next e => exact .of_snd e h.stkRead
    next x1 _ s1 e =>
      have h1 : Keeps dies boot s₀ s1 := .of_snd e h.stkRead
      exact .ite_snd h1 (hrest _ _ _ h1)

theorem Keeps.stkRelease {x name} (h : Keeps dies boot s₀ s) : Keeps dies boot s₀ (s.stkRelease x name).2 :=
  .ite_snd h (.stkNamed h (fun _ _ _ h => .ite_snd h (.ite_snd h h.setBuf)))

theorem Keeps.stkFree {x name} (h : Keeps dies boot s₀ s) : Keeps dies boot s₀ (s.stkFree x name).2 := by
  unfold State.stkFree
  refine .ite_snd h (.stkNamed h (fun _ _ s1 h1 => ?_))
  extract_lets _ s2
  have h2 : Keeps dies boot s₀ s2 := h1.setBuf
  refine .ite_snd h1 (.ite_snd h1 ?_)
  split
  next p e => exact .countFree (List.mem_range.1 (List.mem_of_find?_eq_some e)) (.frame h2 rfl)
  next => exact h2

theorem Keeps.stkDrop {x name} (h : Keeps dies boot s₀ s) : Keeps dies boot s₀ (s.stkDrop x name) :=
  .ite h.stkRelease.stkFree h.stkRelease

theorem Keeps.modHost {f} (h : Keeps dies boot s₀ s) : Keeps dies boot s₀ (s.modHost f) := .frame h rfl

theorem Keeps.modNs {i f} (h : Keeps dies boot s₀ s) : Keeps dies boot s₀ (s.modNs i f) := h.modHost

theorem Keeps.modCtrl {c f} (h : Keeps dies boot s₀ s) : Keeps dies boot s₀ (s.modCtrl c f) := h.modHost

theorem Keeps.setTag {t' x} (h : Keeps dies boot s₀ s) : Keeps dies boot s₀ (s.setTag t' x) := h.modHost

theorem Keeps.finish {t' x status dw0 dw1} (h : Keeps dies boot s₀ s) : Keeps dies boot s₀ (s.finish t' x status dw0 dw1) := h.setTag

theorem Keeps.setWrt {i w} (h : Keeps dies boot s₀ s) : Keeps dies boot s₀ (s.setWrt i w) := h.modHost

theorem Keeps.aen {c dw} (h : Keeps dies boot s₀ s) : Keeps dies boot s₀ (s.aen c dw) := by
  unfold State.aen
  refine .ite h ?_
  split
  · extract_lets s1
    have h1 : Keeps dies boot s₀ s1 := h.modCtrl
    split
    · exact h1.finish
    · exact h1
  · exact h.modCtrl

theorem Keeps.aenAll {dw} (h : Keeps dies boot s₀ s) : Keeps dies boot s₀ (s.aenAll dw) := .foldl h (fun _ h _ => h.aen)

theorem Keeps.releaseReads {t' x} (h : Keeps dies boot s₀ s) : Keeps dies boot s₀ (s.releaseReads t' x) :=
  .foldl h (fun _ h _ => h.stkDrop)

theorem Keeps.giveCseq {x} (h : Keeps dies boot s₀ s) : Keeps dies boot s₀ (s.giveCseq x) := by
  unfold State.giveCseq
  extract_lets _ _ s1
  have h1 : Keeps dies boot s₀ s1 := h.modNs
  refine .foldl h1 (fun s1 h1 _ => ?_)
  split
  · exact h1.setWrt
  · exact h1

theorem Keeps.failCommands {n} (h : Keeps dies boot s₀ s) : Keeps dies boot s₀ (s.failCommands n) := by
  unfold State.failCommands
  refine .foldl h (fun s1 h1 _ => ?_)
  split
  · exact h1
  · extract_lets _ s2
    have h2 : Keeps dies boot s₀ s2 := .ite h1.giveCseq h1
    split
    · exact h2.releaseReads.finish
    · exact h1

theorem Keeps.retractLane {n} (h : Keeps dies boot s₀ s) : Keeps dies boot s₀ (s.retractLane n) := h.setMode.setClv.modLoop

theorem Keeps.retractHeads {n} (h : Keeps dies boot s₀ s) : Keeps dies boot s₀ (s.retractHeads n) := .ite h h.retractLane

theorem Keeps.degrade {n addr bit} (h : Keeps dies boot s₀ s) : Keeps dies boot s₀ (s.degrade n addr bit) :=
  .ite h.partFirst.setActState.retractHeads.failCommands.aenAll h.partFirst

/-! ### Calibration -/

theorem Keeps.modCal {u f} (h : Keeps dies boot s₀ s) : Keeps dies boot s₀ (s.modCal u f) := .frame h rfl

theorem isBootReg_calBase (u o : Nat) (h : 0x4 < o) (ho : o < 0x1000000) : isBootReg (calBase u + o) = false := by
  rw [isBootReg_eq_false]
  unfold calBase
  simp only [unitBase, chDEMOD, chADC, chASSIST, chReg]
  split_ifs <;> omega

theorem isBootReg_adcSel (n k : Nat) (hk : k < 15) : isBootReg (ADC_SEL n (k / 5) (k % 5)) = false := by
  rw [isBootReg_eq_false]
  simp only [ADC_SEL, chReg]
  omega

theorem Keeps.applySelection {u sel cells} (h : Keeps dies boot s₀ s) : Keeps dies boot s₀ (applySelection u sel cells s) := by
  refine .ite h.modCal (.ite ?demod (.ite ?adc ?assist))
  case demod =>
    refine .modDemod (h.modCal.set64 ?_ ?_)
    · exact isBootReg_chReg _ 8 0x1018 rfl
    · exact isBootReg_chReg _ 8 0x101C rfl
  case adc =>
    exact .foldl_mem h.modCal fun _ h k hk => h.setNum (isBootReg_adcSel _ k (List.mem_range.1 hk))
  case assist => exact h.modCal.set64 (isBootReg_chReg _ 6 0x1100 rfl) (isBootReg_chReg _ 6 0x1104 rfl)

theorem Keeps.savedSelection {u} (h : Keeps dies boot s₀ s) : Keeps dies boot s₀ (s.savedSelection u) := h.applySelection

theorem Keeps.calAdopt {u m atOnce} (h : Keeps dies boot s₀ s) : Keeps dies boot s₀ (calAdopt u m atOnce s) := by
  unfold Machine.calAdopt
  extract_lets _ _ s1 s2
  have h1 : Keeps dies boot s₀ s1 := h.nvsWrite (by simp only [calNvs]; omega)
  have h2 : Keeps dies boot s₀ s2 := .ite (h1.nvsWrite (by simp only [calTable]; omega)) h1
  exact .ite h2.applySelection h2.modCal

/-- The CAL registers of unit `u`, none of which a boot reads again. -/
theorem Keeps.putCal {u f x} (h : Keeps dies boot s₀ s) (hf : f.addr = CAL_COUNT (calBase u) ∨ f.addr = CAL_STAT (calBase u)) :
    Keeps dies boot s₀ (s.put f x) := by
  refine h.put ?_
  rcases hf with e | e <;> rw [e]
  · exact isBootReg_calBase u 0xF08 (by decide) (by decide)
  · exact isBootReg_calBase u 0xF04 (by decide) (by decide)

theorem Keeps.setWaiting {w} (h : Keeps dies boot s₀ s) : Keeps dies boot s₀ { s with waiting := w } := .frame h rfl

theorem Keeps.calDone {u runs adopted} (h : Keeps dies boot s₀ s) : Keeps dies boot s₀ (calDone u runs adopted s) := by
  unfold Machine.calDone
  extract_lets _ s1 s2 s3 s4 s5 s6 s7
  have h1 : Keeps dies boot s₀ s1 := h.putCal (.inl rfl)
  have h2 : Keeps dies boot s₀ s2 :=
    h1.set64 (isBootReg_calBase u 0xF0C (by decide) (by decide)) (isBootReg_calBase u 0xF10 (by decide) (by decide))
  have h3 : Keeps dies boot s₀ s3 := h2.nvsWrite (by simp only [calNvs]; omega)
  have h4 : Keeps dies boot s₀ s4 := (h3.putCal (.inr rfl)).putCal (.inr rfl)
  have h5 : Keeps dies boot s₀ s5 := (h4.putCal (.inr rfl)).putCal (.inr rfl)
  have h6 : Keeps dies boot s₀ s6 := h5.setWaiting
  have h7 : Keeps dies boot s₀ s7 := .ite h6.modDemod h6
  exact h7.modCal

theorem Keeps.calDisagree {u} (h : Keeps dies boot s₀ s) : Keeps dies boot s₀ (calDisagree u s) := by
  have hfr : FaultReg.offBoot ⟨CAL_STAT (calBase u), none, calEvent u⟩ = true := by
    simp only [FaultReg.offBoot, CAL_STAT, isBootReg_calBase u 0xF04 (by decide) (by decide), Option.all_none, Bool.not_false, Bool.and_self]
  unfold Machine.calDisagree
  refine .ite ?_ (h.faultBit hfr)
  split
  · exact h.raise
  · exact h

theorem Keeps.calEnd {u v atOnce} (h : Keeps dies boot s₀ s) : Keeps dies boot s₀ (calEnd u v atOnce s) := by
  unfold Machine.calEnd
  split
  · exact h.calAdopt.calDone
  · exact h.calDone.calDisagree

theorem Keeps.drawRun {u} (h : Keeps dies boot s₀ s) : Keeps dies boot s₀ (s.drawRun u).2 := .frame h rfl

theorem Keeps.calOnce {u} (h : Keeps dies boot s₀ s) : Keeps dies boot s₀ (s.calOnce u) :=
  h.savedSelection.modCal.drawRun.drawRun.drawRun.calEnd

theorem Keeps.calBoot {us} (h : Keeps dies boot s₀ s) : Keeps dies boot s₀ (s.calBoot us) := .foldl h (fun _ h _ => h.calOnce)

/-! ### The boot's record, its faults and the power domains -/

theorem Keeps.putWords {a ws} (h : Keeps dies boot s₀ s) (ha : ∀ k < ws.length, isBootReg (a + 4 * k) = false) :
    Keeps dies boot s₀ (s.putWords a ws) :=
  .foldl_mem h fun _ h p hp => h.wr (ha p.1 (List.mem_range.1 (List.of_mem_zip hp).1))

theorem Keeps.startBeat (h : Keeps dies boot s₀ s) : Keeps dies boot s₀ s.startBeat := (h.put (by rfl)).modCls

theorem Keeps.showDomains (h : Keeps dies boot s₀ s) : Keeps dies boot s₀ s.showDomains :=
  .foldl_mem h fun _ h j hj => h.setNum <| isBootReg_eq_false.2 (by
    have := List.mem_range.1 hj
    simp only [PD_STAT, kprReg]
    omega)

theorem Keeps.logEntryOf {e} (h : Keeps dies boot s₀ s) : Keeps dies boot s₀ (s.logEntryOf e) := .ite (h.modSig.put (by rfl)) (h.put (by rfl))

theorem isBootReg_meas {slot k : Nat} (hs : slot < 16) (hk : k < 12) : isBootReg (MEAS slot 0 + 4 * k) = false := by
  have hlt : MEAS slot 0 + 4 * k < 0x20000000 := by
    simp only [MEAS, hubReg]
    omega
  rw [isBootReg_eq_false, Nat.mod_eq_of_lt hlt]
  simp only [MEAS, hubReg]
  omega

theorem length_wordsOf (n : Nat) (bs : List Byte) : (wordsOf n bs).length = n := by
  induction n generalizing bs with
  | zero => rfl
  | succ n ih => simp only [wordsOf, List.length_cons, ih]

theorem Keeps.extend {slot digest entry} (h : Keeps dies boot s₀ s) (hs : slot < 16) :
    Keeps dies boot s₀ (s.extend slot digest entry) :=
  (h.putWords fun k hk => isBootReg_meas hs (by rwa [length_wordsOf] at hk)).logEntryOf

theorem Keeps.measured {slot kind die fallback source i} (h : Keeps dies boot s₀ s) (hs : slot < 16) :
    Keeps dies boot s₀ (s.measured slot kind die fallback source i) :=
  h.extend hs

theorem Keeps.refusedImg {slot kind die code source i} (h : Keeps dies boot s₀ s) :
    Keeps dies boot s₀ (s.refusedImg slot kind die code source i) :=
  .ite h.logEntryOf h

theorem Keeps.reserve {e} (h : Keeps dies boot s₀ s) : Keeps dies boot s₀ (s.reserve e) := ((h.nvsWrite (by decide)).nvsWrite (by decide)).modSig

theorem Keeps.lmsExhausted (h : Keeps dies boot s₀ s) : Keeps dies boot s₀ s.lmsExhausted := (h.put (by rfl)).faultBit (by rfl)

theorem Keeps.lmsStart (h : Keeps dies boot s₀ s) : Keeps dies boot s₀ s.lmsStart :=
  .ite (h.setNum (by rfl)).modSig.reserve (h.setNum (by rfl)).modSig.lmsExhausted

theorem Keeps.bootFail {stage code cls inst} (h : Keeps dies boot s₀ s) : Keeps dies boot s₀ (s.bootFail stage code cls inst) :=
  .log (.ite ((h.put (by rfl)).put (by rfl)) h)

theorem Keeps.powerDomains {a b} (h : Keeps dies boot s₀ s) : Keeps dies boot s₀ (s.powerDomains a b) := h.modLad.showDomains

theorem Keeps.keeperRecord {sev} (h : Keeps dies boot s₀ s) : Keeps dies boot s₀ (s.keeperRecord sev) := by
  unfold State.keeperRecord
  split
  next x _ s1 e =>
    have h1 : Keeps dies boot s₀ s1 := .of_snd e h.draw
    split
    next x1 _ s2 e1 =>
      have h2 : Keeps dies boot s₀ s2 := .of_snd e1 h1.draw
      split
      next x2 _ s3 e2 =>
        have h3 : Keeps dies boot s₀ s3 := .of_snd e2 h2.draw
        exact h3.log

end

section
variable {dies : Bool} {s₀ s t : State} {α : Type}

/-! ### Where the image in force stays, and the registers need not: units, links, cores and the stages of the boot -/

/-- A write of any register: only with `boot` does `Keeps` speak of registers. -/
theorem Keeps.wrAny {a v} (h : Keeps dies false s₀ s) : Keeps dies false s₀ (s.wr a v) := ⟨h.img, h.waits, nofun, nofun, nofun, nofun⟩

theorem Keeps.putAny {f x} (h : Keeps dies false s₀ s) : Keeps dies false s₀ (s.put f x) := h.wrAny

theorem Keeps.setNumAny {a x} (h : Keeps dies false s₀ s) : Keeps dies false s₀ (s.setNum a x) := h.wrAny

theorem Keeps.set64Any {lo hi v} (h : Keeps dies false s₀ s) : Keeps dies false s₀ (s.set64 lo hi v) := h.setNumAny.setNumAny

theorem Keeps.nvsWriteAny {a bs} (h : Keeps dies false s₀ s) : Keeps dies false s₀ (s.nvsWrite a bs) :=
  ⟨h.img, h.waits, nofun, nofun, nofun, nofun⟩

theorem Keeps.putWordsAny {a ws} (h : Keeps dies false s₀ s) : Keeps dies false s₀ (s.putWords a ws) := .foldl h fun _ h _ => h.wrAny

theorem Keeps.extendAny {slot digest entry} (h : Keeps dies false s₀ s) : Keeps dies false s₀ (s.extend slot digest entry) :=
  h.putWordsAny.logEntryOf

theorem Keeps.measuredAny {slot kind die fallback source i} (h : Keeps dies false s₀ s) :
    Keeps dies false s₀ (s.measured slot kind die fallback source i) :=
  h.extendAny

theorem Keeps.resetRegs {which : Nat → Bool} (h : Keeps dies false s₀ s) : Keeps dies false s₀ (s.resetRegs which) :=
  ⟨h.img, h.waits, nofun, nofun, nofun, nofun⟩

theorem Keeps.flashErase {a n : Nat} (h : Keeps dies false s₀ s) : Keeps dies false s₀ (s.flashErase a n) :=
  ⟨h.img, h.waits, nofun, nofun, nofun, nofun⟩

theorem Keeps.endOverrides {which} (h : Keeps dies false s₀ s) : Keeps dies false s₀ (s.endOverrides which) := .frame h rfl

theorem Keeps.toPolicy {which} (h : Keeps dies false s₀ s) : Keeps dies false s₀ (s.toPolicy which) := h.resetRegs.endOverrides

theorem Keeps.modPau {n f} (h : Keeps dies false s₀ s) : Keeps dies false s₀ (s.modPau n f) := .frame h rfl

theorem Keeps.modLmu {n f} (h : Keeps dies false s₀ s) : Keeps dies false s₀ (s.modLmu n f) := .frame h rfl

theorem Keeps.modCore {c f} (h : Keeps dies false s₀ s) : Keeps dies false s₀ (s.modCore c f) := .frame h rfl

theorem Keeps.modUpd {f} (h : Keeps dies false s₀ s) : Keeps dies false s₀ (s.modUpd f) := .frame h rfl

theorem Keeps.modLog {boot f} (h : Keeps dies boot s₀ s) : Keeps dies boot s₀ (s.modLog f) := .frame h rfl

theorem Keeps.modSpin {f} (h : Keeps dies false s₀ s) : Keeps dies false s₀ (s.modSpin f) := .frame h rfl

theorem Keeps.setCsram {m} (h : Keeps dies false s₀ s) : Keeps dies false s₀ { s with csram := m } := .frame h rfl

theorem Keeps.setLogArray {l} (h : Keeps dies false s₀ s) : Keeps dies false s₀ { s with logArray := l } := .frame h rfl

theorem Keeps.setDownDies {boot l} (h : Keeps dies boot s₀ s) : Keeps dies boot s₀ { s with downDies := l } := .frame h rfl

theorem Keeps.setReloadUs {us} (h : Keeps dies false s₀ s) : Keeps dies false s₀ { s with reloadUs := us } := .frame h rfl

/-- The list of the dies that wait is the one field of `Keeps false` that may change. -/
theorem Keeps.setChWait {l} (h : Keeps false false s₀ s) : Keeps false false s₀ { s with chWait := l } :=
  ⟨h.img, nofun, nofun, nofun, nofun, nofun⟩

theorem Keeps.csWrite {n a bs} (h : Keeps dies false s₀ s) : Keeps dies false s₀ (s.csWrite n a bs) :=
  .ite h h.validate.unmark.loseResv.setCsram

theorem Keeps.calLeave {u} (h : Keeps dies false s₀ s) : Keeps dies false s₀ (s.calLeave u) := by
  unfold State.calLeave
  split
  · exact .ite (.frame h rfl) h
  · exact h

theorem Keeps.calDown {u} (h : Keeps dies false s₀ s) : Keeps dies false s₀ (s.calDown u) := .calLeave (.frame h rfl)

theorem Keeps.spinOff (h : Keeps dies false s₀ s) : Keeps dies false s₀ s.spinOff := h.modSpin

theorem Keeps.modRef {f} (h : Keeps dies false s₀ s) : Keeps dies false s₀ (s.modRef f) := h.modSpin

theorem Keeps.armPreamp {n} (h : Keeps dies false s₀ s) : Keeps dies false s₀ (s.armPreamp n) := h.modPau

theorem Keeps.linkState {e st lanes} (h : Keeps dies false s₀ s) : Keeps dies false s₀ (s.linkState e st lanes) :=
  .ite h.putAny.putAny h.putAny.putAny.raise

theorem Keeps.linkBoth {e st lanes} (h : Keeps dies false s₀ s) : Keeps dies false s₀ (s.linkBoth e st lanes) := h.linkState.linkState

theorem Keeps.setCoreState {c st} (h : Keeps dies false s₀ s) : Keeps dies false s₀ (s.setCoreState c st) := h.putAny

theorem Keeps.startCore {c cause} (h : Keeps dies false s₀ s) : Keeps dies false s₀ (s.startCore c cause) := h.modCore.setCoreState

theorem Keeps.putRoutes {w v} (h : Keeps dies false s₀ s) : Keeps dies false s₀ (s.putRoutes w v) := .ite h.wrAny (.ite h.wrAny.wrAny h.wrAny.wrAny)

theorem Keeps.dramMode (h : Keeps dies false s₀ s) : Keeps dies false s₀ s.dramMode := .ite h h.putAny

theorem Keeps.resetUnits {which} (h : Keeps dies false s₀ s) : Keeps dies false s₀ (s.resetUnits which) :=
  .frame h.resetRegs rfl

theorem Keeps.resetUnitList {die us} (h : Keeps dies false s₀ s) : Keeps dies false s₀ (s.resetUnitList die us) := h.resetUnits

theorem Keeps.dropMarks {m lo hi} (h : Keeps dies false s₀ s) : Keeps dies false s₀ (s.dropMarks m lo hi) := .frame h rfl

theorem Keeps.dropCore {c} (h : Keeps dies false s₀ s) : Keeps dies false s₀ (s.dropCore c) := h.modCore

theorem Keeps.chLost {n k} (h : Keeps dies false s₀ s) : Keeps dies false s₀ (s.chLost n k) := by
  have hu (us : List Nat) : Keeps dies false s₀ (s.resetUnitList (n + 1) us) := h.resetUnitList
  refine .ite ?die (.ite (hu _).calDown (.ite ?det (.ite (hu _) (.ite ?write (.ite ?demod (.ite ?loop (.ite ?hold (.ite ?lmu
    (.ite ?cores ?csram)))))))))
  case die => exact (Keeps.calDown (u := n + 1) (hu [0, 7, 12, 16, 17])).frame rfl
  case det => exact (hu [3]).frame rfl
  case write => exact (Keeps.calDown (u := 14 + n) (hu [5, 6])).frame rfl
  case demod => exact (Keeps.calDown (u := 6 + n) (hu [8])).frame rfl
  case loop => exact (hu [9]).frame rfl
  case hold => exact (hu [10, 13]).frame rfl
  case lmu => exact (hu [11]).frame rfl
  case cores =>
    have h14 : Keeps dies false s₀ (((s.resetUnitList (n + 1) [14]).dropCore (8 + 2 * n)).dropCore (9 + 2 * n)) :=
        (hu [14]).dropCore.dropCore
    exact h14.frame rfl
  case csram =>
    have hd : Keeps dies false s₀ ((s.resetUnitList (n + 1) [15]).dropMarks (3 + n) 0 0x10000000000) := (hu [15]).dropMarks
    exact hd.frame rfl

theorem Keeps.chOff {n} (h : Keeps dies false s₀ s) : Keeps dies false s₀ (s.chOff n) :=
  .showDomains (.putAny (.modLad (.foldl h (fun _ h _ => h.chLost))))

theorem Keeps.logShow (h : Keeps dies false s₀ s) : Keeps dies false s₀ s.logShow := h.putAny.putAny

theorem Keeps.emptyEntry (h : Keeps dies false s₀ s) : Keeps dies false s₀ (s.emptyEntry).2 := by
  unfold State.emptyEntry
  split
  next x _ s1 e =>
    have h1 : Keeps dies false s₀ s1 := .of_snd e h.draw
    exact .ite_snd h1 h1

theorem Keeps.restoreInto {l} (h : Keeps dies false s₀ s) : Keeps dies false s₀ (restoreInto l s) := by
  induction l generalizing s with
  | nil => rwa [restoreInto_nil]
  | cons r l ih =>
    rcases e : s.emptyEntry with ⟨_ | i, t⟩
    · rw [restoreInto_of_none e]
      exact .of_snd e h.emptyEntry
    · rw [restoreInto_of_some e]
      have ht := Keeps.of_snd e h.emptyEntry
      exact ih ht.setLogArray

theorem Keeps.logRestore (h : Keeps dies false s₀ s) : Keeps dies false s₀ s.logRestore := by
  unfold State.logRestore
  extract_lets _ _ s1 s2 s3
  have h1 : Keeps dies false s₀ s1 := .ite h (h.noteBit (by rfl))
  have h2 : Keeps dies false s₀ s2 := h1.modLog
  have h3 : Keeps dies false s₀ s3 := by
    unfold s3
    split
    · exact h2
    · exact h2.restoreInto.set64Any.logShow
  exact h3.putAny

theorem Keeps.alignRef (h : Keeps dies false s₀ s) : Keeps dies false s₀ s.alignRef := h.modRef

theorem Keeps.deriveSpin (h : Keeps dies false s₀ s) : Keeps dies false s₀ s.deriveSpin := by
  refine .putAny (.putAny (.putAny (.putAny (.foldl h.toPolicy fun s h _ => ?_))))
  split
  next e => exact .setNumAny (.of_snd e h.draw)

theorem Keeps.setDumpState {v} (h : Keeps dies false s₀ s) : Keeps dies false s₀ (s.setDumpState v) :=
  .raise (.ite h.nvsWriteAny.putAny h.nvsWriteAny.putAny.putAny)

theorem Keeps.startArming (h : Keeps dies false s₀ s) : Keeps dies false s₀ s.startArming := by
  unfold State.startArming
  extract_lets s1 s2
  have h1 : Keeps dies false s₀ s1 := h.setDumpState.putAny
  have h2 : Keeps dies false s₀ s2 := .frame h1 rfl
  split
  · exact h2.flashErase
  · exact h2

theorem Keeps.bootDumpState (h : Keeps dies false s₀ s) : Keeps dies false s₀ s.bootDumpState := by
  unfold State.bootDumpState
  extract_lets _ s1 s2
  have h1 : Keeps dies false s₀ s1 := h.putAny
  have h2 : Keeps dies false s₀ s2 := .ite (h1.faultBit (by rfl)).modHost h1
  exact .ite h2.startArming h2

theorem Keeps.closeRecord (h : Keeps dies false s₀ s) : Keeps dies false s₀ s.closeRecord := .ite h (.ite h.putAny.modSig.putAny h.putAny.modSig)

theorem Keeps.showChSupplies (h : Keeps dies false s₀ s) : Keeps dies false s₀ s.showChSupplies := h.putAny

theorem Keeps.romServices (h : Keeps dies false s₀ s) : Keeps dies false s₀ s.romServices := h.putAny.closeRecord

theorem Keeps.ledAlarm (h : Keeps dies false s₀ s) : Keeps dies false s₀ s.ledAlarm := h.setNumAny

theorem Keeps.setGrant {die u g} (h : Keeps dies false s₀ s) : Keeps dies false s₀ (s.setGrant die u g) := .ite h.putAny h.putAny.putAny

theorem Keeps.grantUnits {i die} (h : Keeps dies false s₀ s) : Keeps dies false s₀ (s.grantUnits i die) := by
  unfold State.grantUnits
  split
  · exact h
  · exact .foldl h (fun _ h _ => .ite h.setGrant h)

theorem Keeps.imageUnits {i up} (h : Keeps dies false s₀ s) : Keeps dies false s₀ (s.imageUnits i up) := by
  unfold State.imageUnits
  extract_lets s1 s2 s3 s4 s5 s6 s7 s8
  have h1 : Keeps dies false s₀ s1 := h.grantUnits.grantUnits
  have h2 : Keeps dies false s₀ s2 := .foldl h1 (fun _ h _ => .ite h.putAny h)
  have h3 : Keeps dies false s₀ s3 := .ite (.foldl h2 (fun _ h _ => h.putAny.setNumAny.setNumAny.setNumAny.putAny)) h2
  have h4 : Keeps dies false s₀ s4 := .ite (.foldl h3 (fun _ h _ => h.setNumAny)) h3
  have h5 : Keeps dies false s₀ s5 := .ite h4.putAny.putAny h4
  have h6 : Keeps dies false s₀ s6 := .ite (.foldl h5 (fun _ h _ => h.wrAny)) h5
  have h7 : Keeps dies false s₀ s7 := .foldl h6 (fun _ h _ => .ite (.foldl h.putAny.grantUnits (fun _ h1 _ => h1.wrAny)) h)
  have h8 : Keeps dies false s₀ s8 := .foldl h7 (fun _ h _ => .ite h.putAny.grantUnits h)
  exact .foldl h8 (fun _ h _ => .ite h.putAny.grantUnits h)

theorem Keeps.hubImage {i} (h : Keeps dies false s₀ s) : Keeps dies false s₀ (s.hubImage i) :=
  .foldl (.putAny (.foldl (.foldl (.putAny (.foldl h.imageUnits (fun _ h _ => h.putAny))) (fun _ h _ => h.putRoutes))
      (fun _ h _ => h.setActState))) (fun _ h _ => h.putAny.putAny.putAny.putAny)

theorem Keeps.dieUp {i n} (h : Keeps dies false s₀ s) : Keeps dies false s₀ (s.dieUp i n) :=
  .armPreamp (.calBoot (.linkBoth (.putAny (.foldl (.putAny (.grantUnits (.putAny (.putAny (.powerDomains (.frame h rfl))))))
      (fun _ h _ => h.wrAny)))))

theorem Keeps.dieStaysOff {n addr bit} (h : Keeps dies false s₀ s) : Keeps dies false s₀ (s.dieStaysOff n addr bit) :=
  .degrade (.setDownDies h.chOff.putAny)

theorem Keeps.bringDie {i n} (h : Keeps false false s₀ s) : Keeps false false s₀ (s.bringDie i n) :=
  .ite h (.ite h.bootFail.dieStaysOff (.ite h.dieUp h.putAny.putAny.setChWait))

theorem Keeps.dramUp (h : Keeps dies false s₀ s) : Keeps dies false s₀ s.dramUp := h.dramMode.putAny

theorem Keeps.stage4 {i up} (h : Keeps false false s₀ s) : Keeps false false s₀ (s.stage4 i up) := by
  unfold State.stage4
  extract_lets s1 s2 s3 s4 s5 s6 s7 s8
  have h1 : Keeps false false s₀ s1 := h.powerDomains.powerDomains.dramUp.showChSupplies
  have h2 : Keeps false false s₀ s2 := h1.linkBoth
  have h3 : Keeps false false s₀ s3 := h2.putAny.putAny
  have h4 : Keeps false false s₀ s4 := h3.deriveSpin.startBeat
  have h5 : Keeps false false s₀ s5 := .ite h4 h4.logRestore
  have h6 : Keeps false false s₀ s6 := h5.bootDumpState
  have h7 : Keeps false false s₀ s7 := .ite (.foldl h6 (fun _ h _ => h.bringDie)) h6
  have h8 : Keeps false false s₀ s8 := h7.putAny
  exact .frame h8 rfl

theorem Keeps.refusedSet {code source is} (h : Keeps dies false s₀ s) : Keeps dies false s₀ (s.refusedSet code source is) := by
  unfold State.refusedSet
  refine .foldl h (fun s1 h1 _ => ?_)
  split
  · exact h1.refusedImg
  · exact .ite h1.refusedImg h1

theorem Keeps.usePatch {k fallback is} (h : Keeps dies false s₀ s) : Keeps dies false s₀ (s.usePatch k fallback is) := by
  unfold State.usePatch
  extract_lets s1
  have h1 : Keeps dies false s₀ s1 := .foldl h (fun _ h _ => h.measuredAny.modSig)
  exact h1.modUpd.modSig

theorem Keeps.patchDie {ws n} (h : Keeps dies false s₀ s) : Keeps dies false s₀ (s.patchDie ws n) := h.modLmu

theorem Keeps.noDies {stage code} (h : Keeps false false s₀ s) : Keeps false false s₀ (s.noDies stage code) :=
  .setChWait (.foldl h.bootFail fun _ h _ => .ite h.dieStaysOff h)

theorem Keeps.stage5 (h : Keeps false false s₀ s) : Keeps false false s₀ s.stage5 := by
  unfold State.stage5
  extract_lets _ _ s1
  have h1 : Keeps false false s₀ s1 := by
    unfold s1
    split
    · exact h.usePatch
    · extract_lets s2
      have h2 : Keeps false false s₀ s2 := h.refusedSet
      split
      · exact h2.usePatch
      · exact h2.refusedSet.noDies
  exact .putAny (.foldl h1 (fun _ h _ => h.patchDie))

theorem Keeps.measureOnce {w fallback source i} (h : Keeps dies false s₀ s) : Keeps dies false s₀ (s.measureOnce w fallback source i) :=
  .ite h h.measuredAny

theorem Keeps.tryHalf {w p upper fallback} (h : Keeps dies false s₀ s) : Keeps dies false s₀ (s.tryHalf w p upper fallback).2 := by
  unfold State.tryHalf
  split
  · exact h
  · split
    · exact h.measureOnce
    · exact h.refusedImg

theorem Keeps.takeImage {w p} (h : Keeps dies false s₀ s) : Keeps dies false s₀ (s.takeImage w p).2 := by
  unfold State.takeImage
  extract_lets
  split
  · next e => exact .of_snd e h.tryHalf
  · next e =>
    have h1 := Keeps.of_snd e h.tryHalf
    split
    · next e' => exact .pair (Keeps.of_snd e' h1.tryHalf).modSig
    · next e' =>
      have h2 := Keeps.of_snd e' h1.tryHalf
      split
      · exact h2
      · exact h2
      · exact h2

theorem Keeps.setRun {p upper} (h : Keeps dies false s₀ s) : Keeps dies false s₀ (s.setRun p upper) := h.putAny

theorem Keeps.setWarm {c base} (h : Keeps dies false s₀ s) : Keeps dies false s₀ (s.setWarm c base) := h.setNumAny.setNumAny

theorem Keeps.loadHub {p i} (h : Keeps dies false s₀ s) : Keeps dies false s₀ (s.loadHub p i) := by
  unfold State.loadHub
  extract_lets s1 s2
  have h1 : Keeps dies false s₀ s1 := h.physWrite
  have h2 : Keeps dies false s₀ s2 := .foldl h1 (fun _ h _ => .ite h.setWarm h)
  exact .ite h2.modSig h2

theorem Keeps.loadCh {n i} (h : Keeps dies false s₀ s) : Keeps dies false s₀ (s.loadCh n i) := by
  unfold State.loadCh
  extract_lets s1 s2
  have h1 : Keeps dies false s₀ s1 := h.csWrite
  have h2 : Keeps dies false s₀ s2 := .foldl h1 (fun _ h _ => .ite h.setWarm h)
  exact h2.modSig

theorem Keeps.loadMicro {n i} (h : Keeps dies false s₀ s) : Keeps dies false s₀ (s.loadMicro n i) := h.csWrite.putWordsAny

theorem Keeps.hubPart {p} (h : Keeps dies false s₀ s) : Keeps dies false s₀ (s.hubPart p).2 := by
  unfold State.hubPart
  split
  next x _ _ s1 e =>
    have h1 : Keeps dies false s₀ s1 := .of_snd e h.takeImage
    exact h1.loadHub.setRun
  next x _ s1 _ e =>
    have h1 : Keeps dies false s₀ s1 := .of_snd e h.takeImage
    exact h1.bootFail

theorem Keeps.chPartLoad {p ns} (h : Keeps dies false s₀ s) : Keeps dies false s₀ (s.chPartLoad p ns) := by
  unfold State.chPartLoad
  extract_lets off
  have hoff : ∀ s c, Keeps dies false s₀ s → Keeps dies false s₀ (off s c) := fun _ _ h => .foldl h fun _ h _ => h.bootFail.dieStaysOff
  split
  · next e =>
    have h1 := Keeps.of_snd e h.takeImage
    extract_lets s1 s2
    have hl : Keeps dies false s₀ s1 := .foldl h1 fun _ h _ => h.loadCh
    have h2 : Keeps dies false s₀ s2 := .ite hl hl.setRun
    split
    · next e => exact .of_snd e h2.takeImage
    · next e => exact .foldl (.of_snd e h2.takeImage) fun _ h _ => h.loadMicro
    · next e => exact hoff _ _ (.of_snd e h2.takeImage)
  · next e => exact hoff _ _ (.of_snd e h.takeImage)

theorem Keeps.chFirmware {ns} (h : Keeps dies false s₀ s) : Keeps dies false s₀ (s.chFirmware ns) :=
  .foldl h (fun _ h _ => .ite h h.chPartLoad)

theorem Keeps.showSel (h : Keeps dies false s₀ s) : Keeps dies false s₀ s.showSel := h.putAny.putAny.putAny

theorem Keeps.stage6 (h : Keeps dies false s₀ s) : Keeps dies false s₀ (s.stage6).2 := by
  unfold State.stage6
  extract_lets r
  have hr : Keeps dies false s₀ r.2 := .foldl_snd h (fun _ h _ => .ite_snd h.hubPart h)
  exact .ite_snd hr.chFirmware.showSel.putAny hr.showSel

theorem Keeps.startDie {n} (h : Keeps dies false s₀ s) : Keeps dies false s₀ (s.startDie n) := h.startCore.putAny

theorem Keeps.stage7 (h : Keeps dies false s₀ s) : Keeps dies false s₀ s.stage7 := by
  unfold State.stage7
  extract_lets _ s1 s2 s3
  have h1 : Keeps dies false s₀ s1 := h.extendAny
  have h2 : Keeps dies false s₀ s2 := h1.startCore.putAny
  have h3 : Keeps dies false s₀ s3 := .foldl h2 (fun _ h _ => h.startDie)
  exact h3.putAny.modSig

end

/-! ### Fields of the registers -/

/-- A field reads the number it was set to, where the number fits it. -/
theorem State.get_put_same {s : State} (h : s.Wf) {f : Fld} {x : Nat} (hf : f.lo ≤ f.hi ∧ f.hi < 32) (hx : x < 2 ^ (f.hi - f.lo + 1)) :
    (s.put f x).get f = x := by
  rw [State.get_put_self h f f x rfl, bitsOf_insertBits_self _ x hf.1 hf.2, Nat.mod_eq_of_lt hx]

/-- Another field of the same register is unchanged. -/
theorem State.get_put_apart {s : State} (h : s.Wf) {f g : Fld} {x : Nat}
    (hfg : g.addr = f.addr ∧ f.lo ≤ f.hi ∧ g.lo ≤ g.hi ∧ (g.hi < f.lo ∨ f.hi < g.lo)) : (s.put f x).get g = s.get g := by
  obtain ⟨ha, hf, hg, hd⟩ := hfg
  rw [State.get_put_self h f g x ha, bitsOf_insertBits_other _ x hf hg hd, State.get, ha]

theorem State.get_setNum_other (s : State) {f : Fld} {a x : Nat} (h : f.addr ≠ a) : (s.setNum a x).get f = s.get f := by
  simp only [State.get, State.setNum, State.rd_wr_other s _ h]

/-- A register that `Keeps` speaks of holds its fields. -/
theorem Keeps.get {s t : State} {dies : Bool} (h : Keeps dies true s t) {f : Fld} (hf : isBootReg f.addr = true) : t.get f = s.get f := by
  rw [State.get, h.regs rfl f.addr hf, State.get]

theorem Keeps.num {s t : State} {dies : Bool} (h : Keeps dies true s t) {a : Nat} (ha : isBootReg a = true) : t.num a = s.num a := by
  rw [State.num, h.regs rfl a ha, State.num]

/-! ### The release of the HUB (R72) -/

/-- Stage 2 begins where the HUB's supplies are good, and the calibration that follows keeps it. -/
theorem hubResetRelease_stage {s : State} (h : s.Wf) (ht : s.pins.test = false) (hk : s.keeper = true) (hs : s.get BOOT_STAT_STAGE = 1)
    (hv : s.hubSupplies = true) : (hubResetRelease s).get BOOT_STAT_STAGE = 2 := by
  have e : hubResetRelease s = ((s.powerDomains 0 28).put BOOT_STAT_STAGE 2).calBoot [0] := by
    simp only [hubResetRelease, ht, hk, hs, hv, Bool.false_eq_true, if_false, and_self, if_true]
  have hw : (s.powerDomains 0 28).Wf := (Evolves.powerDomains (.refl s)).wf h
  have hkeep := Keeps.calBoot (us := [0]) (Keeps.refl (dies := false) (boot := true) ((s.powerDomains 0 28).put BOOT_STAT_STAGE 2))
  rw [e, hkeep.get rfl]
  exact State.get_put_same hw (by decide) (by decide)

/-! ### A die whose supplies did not come (R72, R75) -/

theorem get_dieState_chOff {s : State} (h : s.Wf) (n : Nat) : (s.chOff n).get (DIE_STAT_STATE (unitBase (n + 1) 0)) = 0 := by
  have hlost : ((List.range 11).foldl (fun s k => s.chLost n k) s).Wf := (Evolves.foldl (.refl s) fun _ h _ => h.chLost).wf h
  unfold State.chOff
  extract_lets s1 s2
  have hw : s2.Wf := (Evolves.modLad (.refl s1)).wf hlost
  have hkeep := Keeps.showDomains (Keeps.refl (dies := false) (boot := true) (s2.put (DIE_STAT_STATE (unitBase (n + 1) 0)) 0))
  rw [hkeep.get (isBootReg_dieStat _)]
  exact State.get_put_same hw (show 0 ≤ 1 ∧ 1 < 32 by decide) (show 0 < 2 ^ (1 - 0 + 1) by decide)

theorem get_dieState_dieStaysOff {s : State} (h : s.Wf) (n addr bit : Nat) :
    (s.dieStaysOff n addr bit).get (DIE_STAT_STATE (unitBase (n + 1) 0)) = 0 := by
  have hoff : (s.chOff n).Wf := (Evolves.chOff (.refl s)).wf h
  unfold State.dieStaysOff
  extract_lets s1
  have hkeep : Keeps false true s1 ({ s1 with downDies := insertN n s1.downDies }.degrade n addr bit) := .degrade (.setDownDies (.refl s1))
  rw [hkeep.get (isBootReg_dieStat _)]
  have hput : s1.get (DIE_STAT_STATE (unitBase (n + 1) 0)) = (s.chOff n).get (DIE_STAT_STATE (unitBase (n + 1) 0)) :=
    State.get_put_apart hoff ⟨rfl, show 8 ≤ 8 by decide, show 0 ≤ 1 by decide, .inl (show 1 < 8 by decide)⟩
  rw [hput, get_dieState_chOff h]

/-- The time-out takes the die from those that wait and leaves it Off. -/
theorem chSupplyTimeout_of_waits {s : State} (h : s.Wf) {n : Nat} (hn : s.chWait.contains n = true) :
    (chSupplyTimeout n s).chWait = s.chWait.erase n ∧ (chSupplyTimeout n s).get (DIE_STAT_STATE (unitBase (n + 1) 0)) = 0 := by
  have hkeep : Keeps true false { s with chWait := s.chWait.erase n } (chSupplyTimeout n s) := by
    unfold chSupplyTimeout
    rw [if_pos hn]
    exact .dieStaysOff (.log (.putAny (.refl _)))
  refine ⟨hkeep.waits rfl, ?_⟩
  unfold chSupplyTimeout
  rw [if_pos hn]
  exact get_dieState_dieStaysOff ((Evolves.log (.put (.setChWait (.refl s)))).wf h) n _ 0

/-! ### The checks of an image read the OTP array alone (R80, R440) -/

theorem State.otpBytes_congr {s t : State} (h : t.otp = s.otp) (a n : Nat) : t.otpBytes a n = s.otpBytes a n := by
  rw [State.otpBytes, h, State.otpBytes]

theorem State.otpCount_congr {s t : State} (h : t.otp = s.otp) (a : Nat) : t.otpCount a = s.otpCount a := by
  rw [State.otpCount, State.otpBytes_congr h, State.otpCount]

theorem State.keyOk_congr {s t : State} (h : t.otp = s.otp) (sibourn : Bool) (k : Nat) (ecdsa hss : List Byte) :
    t.keyOk sibourn k ecdsa hss = s.keyOk sibourn k ecdsa hss := by
  have hash : t.keyHash k = s.keyHash k := by simp only [State.keyHash, State.otpBytes_congr h]
  have revoked : t.revoked k = s.revoked k := by simp only [State.revoked, State.otpByte, State.otpBytes_congr h]
  unfold State.keyOk
  rw [hash, revoked]

theorem State.siCheck_congr {s t : State} (h : t.otp = s.otp) (bs : List Byte) : t.siCheck bs = s.siCheck bs := by
  unfold State.siCheck
  simp only [State.keyOk_congr h, State.otpBytes_congr h, State.otpCount_congr h]

theorem State.hdrCheck_congr {s t : State} (h : t.otp = s.otp) (i : Img) : t.hdrCheck i = s.hdrCheck i := by
  unfold State.hdrCheck
  simp only [State.keyOk_congr h, State.otpBytes_congr h, State.otpCount_congr h]

theorem State.imgCheck_congr {s t : State} (h : t.otp = s.otp) (i : Img) : t.imgCheck i = s.imgCheck i := by
  unfold State.imgCheck
  rw [State.hdrCheck_congr h]

theorem State.setCheck_congr {s t : State} (h : t.otp = s.otp) (target room : Nat) (bs : List Byte) :
    t.setCheck target room bs = s.setCheck target room bs := by
  have hh : t.hdrCheck = s.hdrCheck := funext (State.hdrCheck_congr h)
  have hi : t.imgCheck = s.imgCheck := funext (State.imgCheck_congr h)
  unfold State.setCheck
  rw [hh, hi]

/-! ### Stage 3: the image in force (R72, R80, R81, R98) -/

theorem acceptImage_img (s : State) (k : Nat) (i : Image) (refused : Option Nat) : (s.acceptImage k i refused).img = some i := by
  unfold State.acceptImage
  extract_lets s1 fb s2 s3 s4 s5 d s6 s7 old s8
  have h8 : s8.img = some i := rfl
  clear_value s8
  have halign : s8.alignRef.img = s8.img := (Keeps.alignRef (dies := false) (.refl s8)).img
  split
  · exact h8
  · rw [halign, h8]

/-- Stage 3 finds the slots as they stood: what comes before it writes neither the flash nor the OTP array. -/
theorem siCheck_of_keeps {s t : State} {dies : Bool} (h : Keeps dies true s t) (k : Nat) :
    t.siCheck (t.siSlot k) = s.siCheck (s.siSlot k) := by
  rw [State.siCheck_congr (h.otp rfl), State.siSlot, State.flashBytes, h.flash rfl, State.siSlot, State.flashBytes]

/-! ### A Blank part (R98) -/

theorem becomeBlank_img (s : State) (code : Nat) : (s.becomeBlank code).img = none := by
  have h : Keeps false false { s with img := none } (s.becomeBlank code) :=
    .closeRecord (.ledAlarm (.putAny (.bootFail (.spinOff (.grantUnits (.refl _))))))
  exact h.img

theorem closeRecord_closed {s : State} (h : s.Wf) : s.closeRecord.flag COLO_STAT_CLOSED = true := by
  unfold State.closeRecord
  split
  next hc => exact hc
  next =>
    extract_lets s1
    have h1 : s1.get COLO_STAT_CLOSED = 1 := State.get_put_same h (by decide) (by decide)
    have h2 : (s1.put BOOT_STAT_STAGE 8).get COLO_STAT_CLOSED = s1.get COLO_STAT_CLOSED := State.get_put_other s1 8 (by decide)
    simp only [State.flag, decide_eq_true_eq]
    split
    · rw [h2, h1]
    · exact h1

/-- The record's end changes COLO_STAT and BOOT_STAT, no other register. -/
theorem get_closeRecord_other (s : State) {f : Fld} (hc : f.addr ≠ COLO_STAT) (hb : f.addr ≠ BOOT_STAT) :
    s.closeRecord.get f = s.get f := by
  unfold State.closeRecord
  extract_lets s1
  have h1 : s1.get f = s.get f := State.get_put_other s 1 hc
  split
  · rfl
  · split
    · rw [State.get_put_other s1 8 hb, h1]
    · exact h1

theorem becomeBlank_addr {s : State} (h : s.Wf) (code : Nat) : (s.becomeBlank code).get MGMT_STAT_ADDR = 0x1D := by
  unfold State.becomeBlank
  extract_lets s1
  have h1 : (s1.bootFail 3 code clsCorrected noInst).Wf :=
    (Evolves.bootFail (.spinOff (.grantUnits (.setImg (.refl s))))).wf h
  have hled (t : State) : t.ledAlarm.get MGMT_STAT_ADDR = t.get MGMT_STAT_ADDR := State.get_setNum_other t (by decide)
  rw [get_closeRecord_other _ (by decide) (by decide), hled]
  exact State.get_put_same h1 (by decide) (by decide)

theorem becomeBlank_closed {s : State} (h : s.Wf) (code : Nat) : (s.becomeBlank code).flag COLO_STAT_CLOSED = true :=
  closeRecord_closed ((Evolves.ledAlarm (.put (.bootFail (.spinOff (.grantUnits (.setImg (.refl s))))))).wf h)

/-- Where one slot alone is accepted its image comes into force; where both are refused the part is Blank. (One lemma for the three:
the kernel takes long to unfold stage 3.) -/
theorem stage3_takes {s : State} (h : s.Wf) :
    (∀ i c, s.siCheck (s.siSlot 0) = .inl i → s.siCheck (s.siSlot 1) = .inr c → s.stage3.img = some i) ∧
    (∀ i c, s.siCheck (s.siSlot 0) = .inr c → s.siCheck (s.siSlot 1) = .inl i → s.stage3.img = some i) ∧
    (∀ c e, s.siCheck (s.siSlot 0) = .inr c → s.siCheck (s.siSlot 1) = .inr e → ∃ t : State, t.Wf ∧ s.stage3 = t.becomeBlank c) := by
  generalize hp : s.stage3 = p
  unfold State.stage3 at hp
  extract_lets rom s1 at hp
  have hk : Keeps false true s s1 := .extend (.refl s) (by decide)
  have he : Evolves s s1 := .extend (.refl s)
  clear_value s1
  rw [siCheck_of_keeps hk, siCheck_of_keeps hk] at hp
  refine ⟨fun i c hA hB => ?first, fun i c hA hB => ?second, fun c e hA hB => ?neither⟩
  all_goals
    rw [hA, hB] at hp
    subst hp
  case first => exact acceptImage_img _ _ _ _
  case second => exact acceptImage_img _ _ _ _
  case neither => exact ⟨_, he.put.put.refusedSlot.refusedSlot.wf h, rfl⟩

/-! ### The HUB's boot (R72) -/

/-- The state stage 3 finds. -/
def beforeStage3 (s : State) : State := s.lmsStart.put UPD_STAT_STATE (if s.isSealed then 3 else 0)

theorem keeps_beforeStage3 (s : State) : Keeps false true s (beforeStage3 s) := .put (.lmsStart (.refl s)) rfl

theorem beforeStage3_wf {s : State} (h : s.Wf) : (beforeStage3 s).Wf := (Evolves.put (.lmsStart (.refl s))).wf h

theorem hubRomBoot_of_blank {s : State} (ht : s.pins.test = false) (hk : s.keeper = true) (hs : s.get BOOT_STAT_STAGE = 2)
    (good : Bool) (us : Nat) (hi : (beforeStage3 s).stage3.img = none) : hubRomBoot good us s = (beforeStage3 s).stage3 := by
  unfold hubRomBoot
  rw [if_neg (by simp [ht, hk, hs])]
  extract_lets s1 s2
  change s2.img = none at hi
  change _ = s2
  rw [hi]

/-- No stage after the third changes the image in force. -/
theorem hubRomBoot_img {s : State} (ht : s.pins.test = false) (hk : s.keeper = true) (hs : s.get BOOT_STAT_STAGE = 2)
    (good : Bool) (us : Nat) : (hubRomBoot good us s).img = (beforeStage3 s).stage3.img := by
  suffices h : Keeps false false (beforeStage3 s).stage3 (hubRomBoot good us s) from h.img
  unfold hubRomBoot
  rw [if_neg (by simp [ht, hk, hs])]
  extract_lets s1 s2
  have h2 : Keeps false false (beforeStage3 s).stage3 s2 := .refl s2
  clear_value s2
  split
  · exact h2
  · extract_lets s3 third s4 s5
    have h3 : Keeps false false (beforeStage3 s).stage3 s3 := h2.putAny.hubImage
    have h4 : Keeps false false (beforeStage3 s).stage3 s4 := h3.powerDomains.powerDomains
    have h5 : Keeps false false (beforeStage3 s).stage3 s5 := h3.stage4.stage5
    refine .ite h3.ledAlarm.closeRecord (.ite h4.deriveSpin.startBeat.bootFail.romServices (.ite h3.stage4.romServices ?_))
    split
    next e => exact .romServices (.of_snd e h5.stage6)
    next e => exact .setReloadUs (.stage7 (.of_snd e h5.stage6))

/-! ### What a boot request and a full boot do (R442, R443) -/

/-- The key word makes a full boot due with cause 1, where none is due and none runs. -/
theorem fullBootRequest_of_key {s : State} (hf : s.alog.fatalAt = none) (hr : s.bootRuns = false) (hd : s.bootDue = none) :
    (fullBootRequest 0x0E59B007 (s.answer .done)).bootDue = some 1 := by
  have hf' : (s.answer .done).alog.fatalAt.isNone = true := by
    change s.alog.fatalAt.isNone = true
    rw [hf, Option.isNone_none]
  have hr' : (s.answer .done).bootRuns = false := hr
  have hd' : (s.answer .done).bootDue = none := hd
  rw [fullBootRequest, if_pos ⟨rfl, hf', hr'⟩, State.bootCaused, hd', Option.getD_none]

/-- What a full boot writes of BOOT_STAT: the stage and the cause, then three fields beside them. -/
theorem get_bootStat_puts {s : State} (h : s.Wf) {cause : Nat} (hc : cause < 8) (n : Nat) :
    let t := ((((s.put BOOT_STAT_STAGE 1).put BOOT_STAT_CAUSE cause).put BOOT_STAT_BOOTS_IN_CYCLE n).put BOOT_STAT_RESUMED 0).put
      BOOT_STAT_ROM_SERVICES 0
    t.get BOOT_STAT_STAGE = 1 ∧ t.get BOOT_STAT_CAUSE = cause := by
  have h1 := h.put BOOT_STAT_STAGE 1
  have h2 := h1.put BOOT_STAT_CAUSE cause
  have h3 := h2.put BOOT_STAT_BOOTS_IN_CYCLE n
  have h4 := h3.put BOOT_STAT_RESUMED 0
  constructor
  · calc
      _ = _ := State.get_put_apart h4 (by decide)
      _ = _ := State.get_put_apart h3 (by decide)
      _ = _ := State.get_put_apart h2 (by decide)
      _ = _ := State.get_put_apart h1 (by decide)
      _ = 1 := State.get_put_same h (by decide) (by decide)
  · calc
      _ = _ := State.get_put_apart h4 (by decide)
      _ = _ := State.get_put_apart h3 (by decide)
      _ = _ := State.get_put_apart h2 (by decide)
      _ = cause := State.get_put_same h1 (by decide) (Nat.lt_trans hc (by decide))

theorem get_bootCleared (s : State) (due fatal dbg dmp) (f : Fld) :
    ({ s with bootDue := due, fatal := fatal, dbg := dbg, dmp := dmp } : State).get f = s.get f := rfl

theorem fullBoot_of_ready {s : State} (h : s.Wf) {cause : Nat} (hd : s.bootDue = some cause) (hr : s.bootReady = true) (hc : cause < 8) :
    (fullBoot s).get BOOT_STAT_STAGE = 1 ∧ (fullBoot s).get BOOT_STAT_CAUSE = cause ∧ (fullBoot s).bootDue = none ∧ (fullBoot s).fatal = [] := by
  have hw : s.hubReset.Wf := (Evolves.hubReset (.refl s)).wf h
  generalize ht : fullBoot s = t
  simp -zeta only [fullBoot, hd, hr, if_true] at ht
  extract_lets s1 s2 s3 s4 s5 s6 s7 at ht
  have hk : Keeps false true ((s2.put BOOT_STAT_RESUMED 0).put BOOT_STAT_ROM_SERVICES 0) s7 :=
    .modLog (.modLad (.put (.put (.put (.put (.put (.put (.setNum (.refl _) rfl) rfl) rfl) rfl) rfl) rfl) rfl))
  have hp := get_bootStat_puts hw hc (min 255 (s1.get BOOT_STAT_BOOTS_IN_CYCLE + 1))
  clear_value s7
  subst ht
  have hg (f : Fld) := get_bootCleared s7 none [] ⟨none, none⟩ ⟨none, false⟩ f
  refine ⟨?_, ?_, rfl, rfl⟩
  · rw [hg, hk.get rfl]
    exact hp.1
  · rw [hg, hk.get rfl]
    exact hp.2

/-! ### Bytes read back -/

/-- What was written reads back, from its first byte on. -/
theorem Memory.readN_writeN_take {d : Byte} {m : Memory} {a n : Nat} {bs : List Byte} (h : m.wf d = true) (hn : n ≤ bs.length) :
    (m.writeN d a bs).readN d a n = bs.take n := by
  refine List.ext_getElem (by rw [length_readN, List.length_take, Nat.min_eq_left hn]) fun i h1 h2 => ?_
  rw [getElem_readN, List.getElem_take, Memory.read_writeN_self h]

theorem Memory.readN_writeN_self {d : Byte} {m : Memory} {a : Nat} {bs : List Byte} (h : m.wf d = true) :
    (m.writeN d a bs).readN d a bs.length = bs := by
  rw [Memory.readN_writeN_take h (Nat.le_refl _), List.take_length]

theorem length_slice (bs : List Byte) (o n : Nat) : (slice bs o n).length = n := by
  simp only [slice, List.length_append, List.length_take, List.length_drop, List.length_replicate]
  omega

/-! ### A staged image without firmware (R98, R437, R464) -/

theorem tag_finish (s : State) (t : Nat) (x : Tag) (status dw0 dw1 : Nat) :
    (s.finish t x status dw0 dw1).tag t = some { x with st := .completing, status := status, dw0 := dw0, dw1 := dw1 } :=
  look_place_self t _ _

theorem tag_failTag (s : State) (t : Nat) (x : Tag) (status : Nat) :
    ((s.failTag t x status).tag t).map (fun y => y.st) = some .completing := by
  unfold State.failTag
  split
  rw [tag_finish, Option.map_some]

theorem failTag_nvs (s : State) (t : Nat) (x : Tag) (status : Nat) : (s.failTag t x status).nvs = s.nvs := rfl

/-- In a part without firmware the ROM serves a command as soon as it is fetched. -/
theorem inService_of_romControl {s : State} {x : Tag} (hr : s.romControl = true) (hx : x.st = .fetched) : s.inService x = true := by
  simp only [State.inService, hr, hx, decide_true, Bool.and_self, Bool.or_true]

theorem adminRow_of_inService {s : State} {t op : Nat} {x : Tag} {work : Tag → State → State} (ht : s.tag t = some x) (hq : x.sqid = 0)
    (ho : x.op = op) (hs : s.inService x = true) : adminRow t op work s = work x s := by
  unfold adminRow
  rw [ht]
  exact if_pos ⟨hq, ho, hs⟩

theorem blankImageDownload_of_staged {s : State} (h : s.Wf) {t : Nat} {x : Tag} {bs : List Byte} (hb : s.staged = some (x.ctrl, bs))
    (hl : bs.length ≤ 0x40000) :
    (blankImageDownload t x s).flashBytes (slotOffset s.blankSlot) bs.length = bs ∧
      (blankImageDownload t x s).staged = none ∧
      ((blankImageDownload t x s).tag t).map (fun y => (y.st, y.status)) = some (.completing, 0) := by
  have hf : Memory.wf 0xFF (s.flash.wipe (slotOffset s.blankSlot) 0x40000) = true := Memory.wipe_wf h.flash
  unfold blankImageDownload
  rw [hb]
  simp only [ne_eq, not_true_eq_false, if_false, Nat.not_lt.2 hl]
  refine ⟨Memory.readN_writeN_self hf, rfl, ?_⟩
  rw [State.okTag, tag_finish]
  rfl

theorem keeperImageDownload_of_accepted {s : State} (h : s.Wf) {t : Nat} {x : Tag} {bs : List Byte} (hb : s.staged = some (x.ctrl, bs))
    (hc : s.setCheck 1 0xC000 bs = none) :
    (keeperImageDownload t x s).nvs.readN 0 0 0xC000 = slice bs 0 0xC000 ∧
      (keeperImageDownload t x s).staged = none ∧
      ((keeperImageDownload t x s).tag t).map (fun y => (y.st, y.status)) = some (.completing, 0) := by
  have hr : (s.nvs.writeN 0 0 (slice bs 0 0xC000)).readN 0 0 (slice bs 0 0xC000).length = slice bs 0 0xC000 :=
    Memory.readN_writeN_self h.nvs
  rw [length_slice] at hr
  unfold keeperImageDownload
  rw [hb]
  simp only [ne_eq, not_true_eq_false, if_false, hc]
  refine ⟨hr, rfl, ?_⟩
  rw [State.okTag, tag_finish]
  rfl

theorem keeperImageDownload_of_refused {s : State} {t : Nat} {x : Tag} {bs : List Byte} (hb : s.staged = some (x.ctrl, bs))
    (hc : s.setCheck 1 0xC000 bs ≠ none) : keeperImageDownload t x s = s.failTag t x (nvStatus 1 0x07 0) := by
  obtain ⟨c, hc⟩ := Option.ne_none_iff_exists'.1 hc
  unfold keeperImageDownload
  rw [hb]
  simp only [ne_eq, not_true_eq_false, if_false, hc]

/-! ### Power-on (R64, R72) -/

/-- `t` is `s` but for the bank of the registers. -/
def BankOnly (s t : State) : Prop := ∃ m, t = { s with bank := m }

section
variable {s₀ s : State} {α : Type}

theorem BankOnly.refl (s : State) : BankOnly s s := ⟨s.bank, rfl⟩

theorem BankOnly.wr {a : Nat} {v : Word} (h : BankOnly s₀ s) : BankOnly s₀ (s.wr a v) := by
  obtain ⟨m, rfl⟩ := h
  exact ⟨_, rfl⟩

theorem BankOnly.put {f x} (h : BankOnly s₀ s) : BankOnly s₀ (s.put f x) := h.wr

theorem BankOnly.setNum {a x} (h : BankOnly s₀ s) : BankOnly s₀ (s.setNum a x) := h.wr

theorem BankOnly.set64 {lo hi v} (h : BankOnly s₀ s) : BankOnly s₀ (s.set64 lo hi v) := h.setNum.setNum

theorem BankOnly.foldl {f : State → α → State} {l : List α} (h : BankOnly s₀ s)
    (hf : ∀ s, BankOnly s₀ s → ∀ a, BankOnly s₀ (f s a)) : BankOnly s₀ (l.foldl f s) := by
  induction l generalizing s with
  | nil => exact h
  | cons a l ih => exact ih (hf s h a)

/-- What power-on restores from the NV store it restores to registers. -/
theorem BankOnly.restoreKept (h : BankOnly s₀ s) : BankOnly s₀ s.restoreKept := by
  unfold State.restoreKept
  extract_lets s1 s2 s3 s4 s5 s6 s7 s8
  have h2 : BankOnly s₀ s2 := h.set64.setNum
  have h3 : BankOnly s₀ s3 := .foldl h2 fun _ h _ => h.setNum
  have h4 : BankOnly s₀ s4 := .foldl h3 fun _ h _ => h.put.set64
  have h5 : BankOnly s₀ s5 := .foldl h4 fun _ h _ => .set64 (.put (.foldl h fun _ h1 _ => h1.put))
  have h8 : BankOnly s₀ s8 := h5.put.put.put
  split
  · exact h8.put
  · exact h8

end

theorem leNat_lt (bs : List Byte) : leNat bs < 256 ^ bs.length := by
  induction bs with
  | nil => simp [leNat]
  | cons b t ih =>
    have := b.isLt
    rw [leNat, List.length_cons, pow_succ]
    omega

theorem State.nvsNat_lt (s : State) (a n : Nat) : s.nvsNat a n < 256 ^ n := by
  have h := leNat_lt (s.nvsBytes a n)
  rwa [State.nvsBytes, length_readN] at h

theorem isBootReg_flyPc (n k : Nat) (hk : k < 6) : isBootReg (FLY_PC n k) = false := by
  rw [isBootReg_eq_false]
  simp only [FLY_PC, chReg]
  omega

/-- After PCYCLE, what power-on restores writes neither PCYCLE nor BOOT_STAT. -/
theorem keeps_restoreKept (s : State) :
    Keeps true true ((s.set64 OPTIME_LO OPTIME_HI (s.nvsNat 0x18008 5)).setNum PCYCLE
      ((s.set64 OPTIME_LO OPTIME_HI (s.nvsNat 0x18008 5)).nvsNat 0x18004 3)) s.restoreKept := by
  unfold State.restoreKept
  extract_lets s1 s2 s3 s4 s5 s6 s7 s8
  have h2 : Keeps true true s2 s2 := .refl s2
  have h3 : Keeps true true s2 s3 := .foldl_mem h2 fun _ h k hk => h.setNum <| isBootReg_eq_false.2 (by
    have := List.mem_range.1 hk
    simp only [COMP_COEF, kprReg]
    omega)
  have h4 : Keeps true true s2 s4 := .foldl h3 fun _ h u => (h.putCal (u := u) (.inl rfl)).set64
    (isBootReg_calBase u 0xF0C (by decide) (by decide)) (isBootReg_calBase u 0xF10 (by decide) (by decide))
  have h5 : Keeps true true s2 s5 := by
    refine .foldl h4 fun s h n => ?_
    have hp : Keeps true true s2 ((List.range 6).foldl (fun s k => s.put (FLY_PC_PC n k) (s.nvsNat (0x1A800 + 0x20 * n + 2 * k) 2)) s) :=
      .foldl_mem h fun _ h k hk => h.put (isBootReg_flyPc n k (List.mem_range.1 hk))
    refine .set64 (.put hp ?count) ?lo ?hi
    case count => exact isBootReg_chReg n 7 0x94 rfl
    case lo => exact isBootReg_chReg n 7 0x98 rfl
    case hi => exact isBootReg_chReg n 7 0x9C rfl
  have h8 : Keeps true true s2 s8 := .put (.put (.put h5 rfl) rfl) rfl
  exact .ite (h8.put rfl) h8

theorem restoreKept_pcycle {s : State} (h : s.Wf) : s.restoreKept.num PCYCLE = s.nvsNat 0x18004 3 := by
  have h1 : (s.set64 OPTIME_LO OPTIME_HI (s.nvsNat 0x18008 5)).Wf := (h.setNum _ _).setNum _ _
  have hnvs : (s.set64 OPTIME_LO OPTIME_HI (s.nvsNat 0x18008 5)).nvsNat 0x18004 3 = s.nvsNat 0x18004 3 := by
    rw [State.nvsNat, State.nvsBytes, State.set64, State.setNum_nvs, State.setNum_nvs, ← State.nvsBytes, ← State.nvsNat]
  rw [(keeps_restoreKept s).num rfl]
  exact (State.num_setNum_self h1 (Nat.lt_trans (State.nvsNat_lt _ 0x18004 3) (by decide))).trans hnvs

theorem restoreKept_stage (s : State) : s.restoreKept.get BOOT_STAT_STAGE = s.get BOOT_STAT_STAGE := by
  have h1 : Keeps true true s (s.set64 OPTIME_LO OPTIME_HI (s.nvsNat 0x18008 5)) := .set64 (.refl s) rfl rfl
  rw [(keeps_restoreKept s).get rfl, State.get_setNum_other _ (by decide), h1.get rfl]

/-- What power-on starts from: the reset, with all that outlives it. -/
def poweredOff (s : State) : State :=
  { State.reset with
    pending := s.pending, free := s.free, nvs := s.nvs, flash := s.flash, otp := s.otp, dump := s.dump, keyStore := s.keyStore,
    spares := s.sparesKept, sparesKept := s.sparesKept, pins := { State.reset.pins with test := s.pins.test, gpio := s.pins.gpio },
    host := { s.hostLost.host with lost := false, mgmtCfg := [] } }

theorem powerOn_eq (s : State) : s.powerOn = ((poweredOff s).put SUP_STAT_GOOD 1).restoreKept := rfl

theorem poweredOff_wf {s : State} (h : s.Wf) : (poweredOff s).Wf := by
  have hr : State.reset.Wf := State.wf_of_wfb rfl
  exact { hr with nvs := h.nvs, flash := h.flash, otp := h.otp }

theorem poweredOff_stage (s : State) : ((poweredOff s).put SUP_STAT_GOOD 1).get BOOT_STAT_STAGE = 0 := by
  rw [State.get_put_other _ 1 (by decide)]
  change State.reset.get BOOT_STAT_STAGE = 0
  decide +kernel

/-- The stores stay; the registers are those of the reset but for what the NV store keeps. -/
theorem powerOn_keeps {s : State} (h : s.Wf) :
    s.powerOn.nvs = s.nvs ∧ s.powerOn.flash = s.flash ∧ s.powerOn.otp = s.otp ∧ s.powerOn.img = none ∧
      s.powerOn.get BOOT_STAT_STAGE = 0 ∧ s.powerOn.num PCYCLE = s.nvsNat 0x18004 3 ∧ s.powerOn.pending = s.pending := by
  have hnum : ((poweredOff s).put SUP_STAT_GOOD 1).nvsNat 0x18004 3 = s.nvsNat 0x18004 3 := rfl
  obtain ⟨m, hm⟩ := (BankOnly.refl ((poweredOff s).put SUP_STAT_GOOD 1)).restoreKept
  rw [powerOn_eq, restoreKept_stage, restoreKept_pcycle ((poweredOff_wf h).put _ _), poweredOff_stage, hnum, hm]
  exact ⟨rfl, rfl, rfl, rfl, rfl, rfl, rfl⟩

/-! ### The Keeper ROM (R64, R72, R436) -/

/-- A power cycle counted: PCYCLE and its place in the NV store hold its number, and the ROM has booted once in it. -/
structure Counted (n : Nat) (t : State) : Prop where
  wf : t.Wf
  pcycle : t.num PCYCLE = n
  boots : t.get BOOT_STAT_BOOTS_IN_CYCLE = 1
  nvs : t.nvsNat 0x18004 3 = n

theorem nvsBytes_congr {s t : State} {a n : Nat} (h : ∀ c, a ≤ c → c < a + n → t.nvs.read 0 c = s.nvs.read 0 c) :
    t.nvsBytes a n = s.nvsBytes a n := by
  unfold State.nvsBytes Memory.readN
  refine List.map_congr_left fun i hi => h (a + i) (Nat.le_add_right a i) ?_
  exact Nat.add_lt_add_left (List.mem_range.1 hi) a

theorem Counted.of_keeps {n : Nat} {s t : State} (h : Counted n s) (hk : Keeps false true s t) (he : Evolves s t) : Counted n t := by
  refine ⟨he.wf h.wf, ?_, ?_, ?_⟩
  · rw [hk.num rfl, h.pcycle]
  · rw [hk.get rfl, h.boots]
  · rw [State.nvsNat, nvsBytes_congr fun c _ hc => hk.nvs rfl c (Nat.lt_trans hc (by decide)), ← State.nvsNat, h.nvs]

/-- A field of BOOT_STAT beside the count of boots. -/
theorem Counted.put_bootStat {n : Nat} {s : State} (h : Counted n s) {f : Fld} {x : Nat} (ha : f.addr = BOOT_STAT)
    (hf : BOOT_STAT_BOOTS_IN_CYCLE.addr = f.addr ∧ f.lo ≤ f.hi ∧ 16 ≤ 23 ∧ (23 < f.lo ∨ f.hi < 16)) : Counted n (s.put f x) := by
  refine ⟨h.wf.put f x, ?_, ?_, h.nvs⟩
  · have hne : PCYCLE ≠ f.addr := by
      rw [ha]
      decide
    rw [State.put, State.num, State.rd_wr_other s _ hne, ← State.num, h.pcycle]
  · rw [State.get_put_apart h.wf hf, h.boots]

theorem leNat_toLe (k x : Nat) : leNat (toLe k x) = x % 256 ^ k := by
  induction k generalizing x with
  | zero => simp [toLe, leNat, Nat.mod_one]
  | succ k ih =>
    rw [toLe, leNat, ih, pow_succ', Nat.mod_mul, BitVec.toNat_ofNat]

/-- The count as the ROM writes it. -/
theorem counted_begin {s : State} (h : s.Wf) {n : Nat} (hn : n < 2 ^ 24) :
    Counted n ((((s.nvsWrite 0x18004 (toLe 4 n)).setNum PCYCLE n).put BOOT_STAT_BOOTS_IN_CYCLE 1).put BOOT_STAT_CAUSE 0) := by
  have h1 : (s.nvsWrite 0x18004 (toLe 4 n)).Wf := (Evolves.nvsWrite (.refl s)).wf h
  have h2 : ((s.nvsWrite 0x18004 (toLe 4 n)).setNum PCYCLE n).Wf := h1.setNum _ _
  have hnvs : (s.nvsWrite 0x18004 (toLe 4 n)).nvsNat 0x18004 3 = n := by
    have hr : (s.nvs.writeN 0 0x18004 (toLe 4 n)).readN 0 0x18004 3 = (toLe 4 n).take 3 :=
      Memory.readN_writeN_take h.nvs (by rw [length_toLe]; decide)
    change leNat ((s.nvs.writeN 0 0x18004 (toLe 4 n)).readN 0 0x18004 3) = n
    rw [hr]
    exact (leNat_toLe 3 n).trans (Nat.mod_eq_of_lt hn)
  have hcount : Counted n (((s.nvsWrite 0x18004 (toLe 4 n)).setNum PCYCLE n).put BOOT_STAT_BOOTS_IN_CYCLE 1) := by
    refine ⟨h2.put _ _, ?_, State.get_put_same h2 (by decide) (by decide), hnvs⟩
    rw [State.put, State.num, State.rd_wr_other _ _ (by decide), ← State.num]
    exact State.num_setNum_self h1 (Nat.lt_trans hn (by decide))
  exact hcount.put_bootStat rfl (by decide)

theorem Counted.put_other {n : Nat} {s : State} (h : Counted n s) {f : Fld} {x : Nat} (hp : PCYCLE ≠ f.addr) (hb : BOOT_STAT ≠ f.addr) :
    Counted n (s.put f x) := by
  refine ⟨h.wf.put f x, ?_, ?_, h.nvs⟩
  · rw [State.put, State.num, State.rd_wr_other s _ hp, ← State.num, h.pcycle]
  · rw [State.get_put_other s x hb, h.boots]

theorem Keeps.setKeeper {dies boot k} {s₀ s : State} (h : Keeps dies boot s₀ s) : Keeps dies boot s₀ { s with keeper := k } := .frame h rfl

/-- The Keeper starts, or it does not; the count stays. -/
theorem Counted.startKeeper {n : Nat} {s : State} (h : Counted n s) (k : Nat) (fallback : Bool) : Counted n (s.startKeeper k fallback) := by
  unfold State.startKeeper
  split
  · exact h
  · extract_lets s1 s2 s3 s4
    have h3 : Counted n s3 :=
      h.of_keeps (.modSig (.setKeeper (.measured (.refl s) (by decide)))) (.modSig (.setKeeper (.measured (.refl s))))
    have h4 : Counted n s4 := by
      have hp := (h3.put_bootStat (f := BOOT_STAT_KFW_COPY) (x := k) rfl (by decide)).put_bootStat (f := BOOT_STAT_STAGE) (x := 1) rfl (by decide)
      exact hp.put_other (by decide) (by decide)
    split
    · exact (h4.put_bootStat rfl (by decide)).of_keeps (.keeperRecord (.refl _)) (.keeperRecord (.refl _))
    · exact h4

/-- Whatever becomes of the Keeper's two images, the ROM has counted the cycle. -/
theorem keeperRomBoot_counted {s : State} (h : s.Wf) (ht : s.pins.test = false) (hs : s.get BOOT_STAT_STAGE = 0)
    (hb : s.get BOOT_STAT_BOOTS_IN_CYCLE = 0) (h0 : s.supplyGood 0 = true) (h1 : s.supplyGood 1 = true) :
    Counted ((s.nvsNat 0x18004 3 + 1) % 2 ^ 24) (keeperRomBoot s) := by
  unfold keeperRomBoot
  rw [if_neg (by simp [ht, hs, hb, h0]), if_neg (by simp [h1])]
  extract_lets n s1 s2 s3 rom s4 s5
  have h2 : Counted n s2 := counted_begin h (Nat.mod_lt _ (by decide))
  have h5 : Counted n s5 := h2.of_keeps
    (.extend (.extend (.calBoot (.put (.powerDomains (.powerDomains (.refl s2))) rfl)) (by decide)) (by decide))
    (.extend (.extend (.calBoot (.put (.powerDomains (.powerDomains (.refl s2)))))))
  clear_value s5
  split
  · exact h5.startKeeper _ _
  · extract_lets s6
    have h6 : Counted n s6 := by
      unfold s6
      split
      · exact h5.of_keeps (.refusedImg (.refl _)) (.refusedImg (.refl _))
      · exact h5
    split
    · exact h6.startKeeper _ _
    · extract_lets s7
      have h7 : Counted n s7 := by
        unfold s7
        split
        · exact h6.of_keeps (.refusedImg (.refl _)) (.refusedImg (.refl _))
        · exact h6
      exact h7.of_keeps (.bootFail (.refl _)) (.bootFail (.refl _))

/-- A Keeper that starts from the selected copy. -/
theorem startKeeper_starts {s : State} (h : s.Wf) {k : Nat} (hk : k < 2) {i : Img} (hi : imageIn kdKeeper (s.keeperCopy k) = some i) :
    (s.startKeeper k false).keeper = true ∧ (s.startKeeper k false).get BOOT_STAT_STAGE = 1 ∧
      (s.startKeeper k false).get BOOT_STAT_KFW_COPY = k := by
  generalize hp : s.startKeeper k false = p
  unfold State.startKeeper at hp
  simp -zeta only [hi, Bool.false_eq_true, if_false] at hp
  extract_lets s1 s2 s3 s4 at hp
  have h3 : s3.Wf := (Evolves.modSig (.setKeeper (.measured (.refl s)))).wf h
  have h3' : (s3.put BOOT_STAT_KFW_COPY k).Wf := h3.put _ _
  have hkeeper : s4.keeper = true := rfl
  have hstage : s4.get BOOT_STAT_STAGE = 1 :=
    (State.get_put_other _ 2 (by decide)).trans (State.get_put_same h3' (by decide) (by decide))
  have hcopy : s4.get BOOT_STAT_KFW_COPY = k :=
    calc
      _ = _ := State.get_put_other _ 2 (by decide)
      _ = _ := State.get_put_apart h3' (by decide)
      _ = k := State.get_put_same h3 (by decide) hk
  clear_value s4
  subst hp
  exact ⟨hkeeper, hstage, hcopy⟩

theorem nvs_writeN_below {s : State} {a c : Nat} {bs : List Byte} (h : c < a) : (s.nvsWrite a bs).nvs.read 0 c = s.nvs.read 0 c :=
  Memory.read_writeN_other (.inl h)

/-- An accepted Keeper starts: what the ROM wrote before it looked at the copies lies behind them. -/
theorem keeperRomBoot_starts {s : State} (h : s.Wf) (ht : s.pins.test = false) (hs : s.get BOOT_STAT_STAGE = 0)
    (hb : s.get BOOT_STAT_BOOTS_IN_CYCLE = 0) (h0 : s.supplyGood 0 = true) (h1 : s.supplyGood 1 = true) {i : Img}
    (hc : s.setCheck 1 0xC000 (s.keeperCopy s.kprSel) = none) (hi : imageIn kdKeeper (s.keeperCopy s.kprSel) = some i) :
    (keeperRomBoot s).keeper = true ∧ (keeperRomBoot s).get BOOT_STAT_STAGE = 1 ∧ (keeperRomBoot s).get BOOT_STAT_KFW_COPY = s.kprSel := by
  generalize hp : keeperRomBoot s = p
  unfold keeperRomBoot at hp
  rw [if_neg (by simp [ht, hs, hb, h0]), if_neg (by simp [h1])] at hp
  extract_lets n s1 s2 s3 rom s4 s5 k at hp
  have hk : Keeps false true s2 s5 :=
    .extend (.extend (.calBoot (.put (.powerDomains (.powerDomains (.refl s2))) rfl)) (by decide)) (by decide)
  have hw : s5.Wf := (counted_begin h (Nat.mod_lt _ (by decide))).of_keeps hk
    (.extend (.extend (.calBoot (.put (.powerDomains (.powerDomains (.refl s2))))))) |>.wf
  have hotp : s5.otp = s.otp := hk.otp rfl
  have hread (c : Nat) (hc : c < 0x18004) : s5.nvs.read 0 c = s.nvs.read 0 c :=
    (hk.nvs rfl c (Nat.lt_trans hc (by decide))).trans (nvs_writeN_below hc)
  have hsel : k = s.kprSel := by
    unfold k
    rw [State.kprSel, State.nvsNat, nvsBytes_congr fun c _ hc => hread c hc, State.kprSel, State.nvsNat]
  have hlt : s.kprSel < 2 := Nat.mod_lt _ (by decide)
  clear_value k s5
  subst hsel
  have hcopy : s5.keeperCopy s.kprSel = s.keeperCopy s.kprSel := by
    rw [State.keeperCopy, nvsBytes_congr fun c _ hc => hread c (by omega), State.keeperCopy]
  rw [← hcopy] at hc hi
  rw [State.setCheck_congr hotp, hc] at hp
  subst hp
  exact startKeeper_starts hw hlt hi

/-! ### The boot, command by command -/

theorem hubRomBoot_takes {s : State} (h : s.Wf) (ht : s.pins.test = false) (hk : s.keeper = true) (hs : s.get BOOT_STAT_STAGE = 2)
    (good : Bool) (us : Nat) :
    (∀ i k, s.siCheck (s.siSlot 0) = .inl i → s.siCheck (s.siSlot 1) = .inr k → (hubRomBoot good us s).img = some i) ∧
    (∀ i k, s.siCheck (s.siSlot 0) = .inr k → s.siCheck (s.siSlot 1) = .inl i → (hubRomBoot good us s).img = some i) ∧
    (∀ k j, s.siCheck (s.siSlot 0) = .inr k → s.siCheck (s.siSlot 1) = .inr j →
      (hubRomBoot good us s).img = none ∧ (hubRomBoot good us s).get MGMT_STAT_ADDR = 0x1D ∧
        (hubRomBoot good us s).flag COLO_STAT_CLOSED = true) := by
  have slot (k : Nat) := siCheck_of_keeps (keeps_beforeStage3 s) k
  obtain ⟨first, second, neither⟩ := stage3_takes (beforeStage3_wf h)
  refine ⟨fun i k hA hB => ?first, fun i k hA hB => ?second, fun k j hA hB => ?neither⟩
  case first =>
    rw [hubRomBoot_img ht hk hs]
    exact first i k ((slot 0).trans hA) ((slot 1).trans hB)
  case second =>
    rw [hubRomBoot_img ht hk hs]
    exact second i k ((slot 0).trans hA) ((slot 1).trans hB)
  case neither =>
    obtain ⟨t, hw, e⟩ := neither k j ((slot 0).trans hA) ((slot 1).trans hB)
    rw [hubRomBoot_of_blank ht hk hs good us (by rw [e, becomeBlank_img]), e]
    exact ⟨becomeBlank_img t k, becomeBlank_addr hw k, becomeBlank_closed hw k⟩

/-- A command of the KPR that finds its die on. -/
theorem access_of_on {s : State} {die : Nat} (f : State → State) (h : s.dieOn die = true) : s.access die f = f (s.answer .done) := if_pos h

theorem fullBootRequest_of_other {v : Word} (s : State) (h : v ≠ 0x0E59B007) : fullBootRequest v s = s := if_neg fun e => h e.1

/-- A Blank part whose Keeper runs serves a fetched Download. -/
theorem execBlankImageDownload_eq {s : State} {tg : TagNo} {x : Tag} (hi : s.img = none) (hk : s.keeper = true) (ht : s.tag tg = some x)
    (hq : x.sqid = 0) (ho : x.op = 0x10) (hx : x.st = .fetched) :
    execBlankImageDownload tg s = .next (blankImageDownload tg x s) := by
  have hr : s.romControl = true := by simp only [State.romControl, hi, Option.isNone_none, Bool.true_or]
  have hc : (s.img.isNone && s.keeper) = true := by rw [hi, hk]; rfl
  rw [execBlankImageDownload, if_pos hc, adminRow_of_inService ht hq ho (inService_of_romControl hr hx)]

/-- So does a part whose Keeper was refused, once its ROM serves. -/
theorem execKeeperImageDownload_eq {s : State} {tg : TagNo} {x : Tag} (hk : s.keeperRefused = true)
    (hf : s.flag BOOT_STAT_ROM_SERVICES = true) (ht : s.tag tg = some x) (hq : x.sqid = 0) (ho : x.op = 0x10) (hx : x.st = .fetched) :
    execKeeperImageDownload tg s = .next (keeperImageDownload tg x s) := by
  have hr : s.romControl = true := by simp only [State.romControl, hf, Bool.or_true, Bool.true_or]
  have hc : (s.keeperRefused && s.flag BOOT_STAT_ROM_SERVICES) = true := by rw [hk, hf]; rfl
  rw [execKeeperImageDownload, if_pos hc, adminRow_of_inService ht hq ho (inService_of_romControl hr hx)]

theorem keeperImageDownload_answers {s : State} (h : s.Wf) {t : Nat} {x : Tag} {bs : List Byte} (hb : s.staged = some (x.ctrl, bs)) :
    ((keeperImageDownload t x s).tag t).map (fun y => y.st) = some .completing ∧
    (s.setCheck 1 0xC000 bs = none → (keeperImageDownload t x s).nvs.readN 0 0 0xC000 = slice bs 0 0xC000 ∧
      (keeperImageDownload t x s).staged = none ∧ ((keeperImageDownload t x s).tag t).map (fun y => y.status) = some 0) ∧
    (s.setCheck 1 0xC000 bs ≠ none → (keeperImageDownload t x s).nvs = s.nvs) := by
  by_cases hc : s.setCheck 1 0xC000 bs = none
  · obtain ⟨hnvs, hstaged, htag⟩ := keeperImageDownload_of_accepted h (t := t) hb hc
    obtain ⟨y, hy, hst⟩ := Option.map_eq_some_iff.1 htag
    obtain ⟨hst, hstatus⟩ := Prod.mk.inj hst
    rw [hy, Option.map_some, Option.map_some, hst, hstatus]
    exact ⟨rfl, fun _ => ⟨hnvs, hstaged, rfl⟩, fun hn => absurd hc hn⟩
  · rw [keeperImageDownload_of_refused hb hc]
    exact ⟨tag_failTag s t x _, fun hn => absurd hn hc, fun _ => failTag_nvs s t x _⟩

/-- Settles O39: each command's row by the lemma about it. -/
theorem bootStagesAndFullBoots : Obligations.Boot_stages_and_full_boots := by
  unfold Obligations.Boot_stages_and_full_boots
  refine ⟨fun s h => ⟨_, rfl, powerOn_keeps h⟩, ?keeperRom, fun s h ht hk hs hv => ⟨_, rfl, hubResetRelease_stage h ht hk hs hv⟩,
    fun s good us h ht hk hs => ⟨_, rfl, hubRomBoot_takes h ht hk hs good us⟩, fun s ch h hw => ⟨_, rfl, chSupplyTimeout_of_waits h hw⟩,
    ?key, ?other, fun s cause h hd hr hc => ⟨_, rfl, fullBoot_of_ready h hd hr hc⟩, ?blank, ?keeperImage⟩
  case keeperRom =>
    intro s h ht hs hb h0 h1
    obtain ⟨_, hpcycle, hboots, hnvs⟩ := keeperRomBoot_counted h ht hs hb h0 h1
    exact ⟨_, rfl, hpcycle, hboots, hnvs, fun i hc hi => keeperRomBoot_starts h ht hs hb h0 h1 hc hi⟩
  case key =>
    intro s _ hon hf hr hd
    refine ⟨_, rfl, ?_⟩
    rw [access_of_on _ hon]
    exact fullBootRequest_of_key hf hr hd
  case other =>
    intro s v _ hon hv
    refine ⟨_, rfl, ?_⟩
    rw [access_of_on _ hon, fullBootRequest_of_other _ hv]
  case blank =>
    intro s tg x bs h hi hk ht hq ho hx hb hl
    exact ⟨_, execBlankImageDownload_eq hi hk ht hq ho hx, blankImageDownload_of_staged h hb hl⟩
  case keeperImage =>
    intro s tg x bs h hk hf ht hq ho hx hb
    exact ⟨_, execKeeperImageDownload_eq hk hf ht hq ho hx, keeperImageDownload_answers h hb⟩

end Sys2Proof.Machine

namespace Sys2Proof.Machine

/-! ## Idle steps (R64, R519) -/

/-- Without VAUX_KPR the KPR is held in power-on reset: no microsecond passes. -/
theorem tick_of_no_supply {s : State} (h : s.supplyGood 0 = false) : tick s = s := by
  simp [tick, h]

theorem step_idle {s : State} (h : s.pending = []) : step s = .next (tick s) := by
  simp [step, h]

/-- Refutes O52: in the state right after reset no supply is good yet, so the idle step leaves MTIME at 0. -/
theorem not_aStepRunsTheFrontCommandOrAMicrosecond : ¬ Obligations.A_step_runs_the_front_command_or_a_microsecond := by
  unfold Obligations.A_step_runs_the_front_command_or_a_microsecond
  rintro ⟨_, _, idle⟩
  obtain ⟨t, ht, -, -, hm, -⟩ := idle State.reset rfl rfl
  have hs : State.reset.supplyGood 0 = false := by decide +kernel
  rw [step_idle rfl, tick_of_no_supply hs] at ht
  cases ht
  exact absurd hm (by decide)

end Sys2Proof.Machine

namespace Sys2Proof.Machine

/-! ## What an event, a record and a dropped gate leave alone (R43, R50, R122, R251) -/

/-- A register of wedge time or position sensing: CLOCK of the KPR, and of a channel die its wedge line (TSUKU) and DEMOD but for DEMOD's
counters. -/
def isTimingReg (a : Nat) : Bool :=
  decide (1 ≤ addrDie a ∧ addrDie a ≤ 4 ∧ (addrUnit a = 17 ∨ addrUnit a = 8 ∧ (addrOff a < 0x40 ∨ 0x60 ≤ addrOff a)) ∨
    addrDie a = 5 ∧ addrUnit a = 1)

/-- WR_STAT of a channel die. -/
def isGateReg (a : Nat) : Bool := decide (addrUnit a = 5 ∧ addrOff a = 0x20)

/-- The registers of `isTimingReg`, with `gate` WR_STAT too. -/
def steadyReg (gate : Bool) (a : Nat) : Bool := isTimingReg a || (gate && isGateReg a)

/-- From `s` to `t` the image, DEMOD of the channel dies, the Fatal causes and the registers of `steadyReg` stay; with `loop` LOOP of the
channel dies does too. -/
structure Steady (loop gate : Bool) (s t : State) : Prop where
  img : t.img = s.img
  demod : t.demod = s.demod
  fatal : t.fatal = s.fatal
  loop : loop = true → t.loop = s.loop
  regs : ∀ a, steadyReg gate a = true → t.rd a = s.rd a

/-- The fields `Steady` speaks of. -/
def State.steadyFields (s : State) : Option Image × Vector Demod 4 × List FatalCause × Vector Loop 4 × List (Nat × Word) :=
  (s.img, s.demod, s.fatal, s.loop, s.bank)

theorem steadyReg_eq_false {gate : Bool} {a : Nat} (ht : isTimingReg a = false) (hg : isGateReg a = false) : steadyReg gate a = false := by
  rw [steadyReg, ht, hg, Bool.and_false, Bool.false_or]

theorem addrUnit_chReg (n u o : Nat) (hu : u < 32) (ho : o < 0x1000000) : addrUnit (chReg n u o) = u := by
  simp only [addrUnit, chReg]
  omega

theorem addrOff_chReg (n u o : Nat) (ho : o < 0x1000000) : addrOff (chReg n u o) = o := by
  simp only [addrOff, chReg]
  omega

/-- A register of a channel die's other units, and of WRITE another than WR_STAT, is not steady. -/
theorem steadyReg_chReg {gate : Bool} {n u o : Nat} (h : u < 32 ∧ o < 0x1000000 ∧ u ∉ [1, 8, 17] ∧ (u = 5 → o ≠ 0x20)) :
    steadyReg gate (chReg n u o) = false := by
  obtain ⟨hu, ho, hunit, hoff⟩ := h
  simp only [List.mem_cons, List.not_mem_nil, or_false, not_or] at hunit
  obtain ⟨h1, h8, h17⟩ := hunit
  refine steadyReg_eq_false ?_ ?_
  · simp [isTimingReg, addrUnit_chReg n u o hu ho, h1, h8, h17]
  · simp only [isGateReg, addrUnit_chReg n u o hu ho, addrOff_chReg n u o ho, decide_eq_false_iff_not, not_and]
    exact hoff

/-- A statistics counter of DEMOD, or their saturation flags. -/
theorem steadyReg_demodCount {gate : Bool} {n o : Nat} (h : 0x40 ≤ o ∧ o < 0x60) : steadyReg gate (chReg n 8 o) = false := by
  obtain ⟨hlo, hhi⟩ := h
  have hu := addrUnit_chReg n 8 o (by decide) (by omega)
  have ho := addrOff_chReg n 8 o (by omega)
  refine steadyReg_eq_false ?_ ?_
  · simp only [isTimingReg, hu, ho, decide_eq_false_iff_not]
    omega
  · simp [isGateReg, hu]

section
variable {loop gate : Bool} {s₀ s t : State} {α : Type}

theorem Steady.refl (s : State) : Steady loop gate s s := ⟨rfl, rfl, rfl, fun _ => rfl, fun _ _ => rfl⟩

/-- Whatever changes none of these fields keeps them. -/
theorem Steady.frame (h : Steady loop gate s₀ s) (e : t.steadyFields = s.steadyFields) : Steady loop gate s₀ t := by
  simp only [State.steadyFields, Prod.mk.injEq] at e
  obtain ⟨himg, hdemod, hfatal, hloop, hbank⟩ := e
  refine ⟨himg.trans h.img, hdemod.trans h.demod, hfatal.trans h.fatal, fun e => hloop.trans (h.loop e), fun a ha => ?_⟩
  simpa only [State.rd, hbank] using h.regs a ha

/-- A register that `Steady` speaks of holds its fields. -/
theorem Steady.get (h : Steady loop gate s t) {f : Fld} (hf : steadyReg gate f.addr = true) : t.get f = s.get f := by
  rw [State.get, h.regs f.addr hf, State.get]

theorem Steady.flag (h : Steady loop gate s t) {f : Fld} (hf : steadyReg gate f.addr = true) : t.flag f = s.flag f := by
  rw [State.flag, h.get hf, State.flag]

theorem Steady.demodOf (h : Steady loop gate s t) (n : Nat) : t.demodOf n = s.demodOf n := by
  rw [State.demodOf, h.demod, State.demodOf]

theorem Steady.servoBit (h : Steady loop gate s t) (n : Nat) : t.servoBit n = s.servoBit n := by
  simp only [State.servoBit, State.periodOf, State.nominalHalfPs, State.imgNat, h.demodOf, h.img]

/-! ### Control -/

theorem Steady.ite {c : Prop} {i : Decidable c} (hs : Steady loop gate s₀ s) (ht : Steady loop gate s₀ t) :
    Steady loop gate s₀ (if c then s else t) := by
  split
  · exact hs
  · exact ht

theorem Steady.ite_fst {c : Prop} {i : Decidable c} {p q : State × α} (hp : Steady loop gate s₀ p.1) (hq : Steady loop gate s₀ q.1) :
    Steady loop gate s₀ (if c then p else q).1 := by
  split
  · exact hp
  · exact hq

theorem Steady.foldl {f : State → α → State} {l : List α} (h : Steady loop gate s₀ s)
    (hf : ∀ s, Steady loop gate s₀ s → ∀ a, Steady loop gate s₀ (f s a)) : Steady loop gate s₀ (l.foldl f s) := by
  induction l generalizing s with
  | nil => exact h
  | cons a l ih => exact ih (hf s h a)

/-! ### Writes of other registers -/

theorem Steady.wr {a : Nat} {v : Word} (h : Steady loop gate s₀ s) (ha : steadyReg gate a = false) : Steady loop gate s₀ (s.wr a v) := by
  refine ⟨h.img, h.demod, h.fatal, h.loop, fun c hc => ?_⟩
  have hne : c ≠ a := by
    rintro rfl
    rw [ha] at hc
    cases hc
  rw [State.rd_wr_other s v hne]
  exact h.regs c hc

theorem Steady.put {f x} (h : Steady loop gate s₀ s) (ha : steadyReg gate f.addr = false) : Steady loop gate s₀ (s.put f x) := h.wr ha

theorem Steady.setNum {a x} (h : Steady loop gate s₀ s) (ha : steadyReg gate a = false) : Steady loop gate s₀ (s.setNum a x) := h.wr ha

theorem Steady.count48 {lo hi k} (h : Steady loop gate s₀ s) (hlo : steadyReg gate lo = false) (hhi : steadyReg gate hi = false) :
    Steady loop gate s₀ (s.count48 lo hi k) :=
  (h.setNum hlo).setNum hhi

/-! ### Events and records (R416-R418, R499, R500) -/

theorem Steady.unrouted {e} (h : Steady loop gate s₀ s) : Steady loop gate s₀ (s.unrouted e) :=
  have h1 : Steady loop gate s₀ (s.put EV_LAST_EVENT e) := h.put (steadyReg_eq_false rfl rfl)
  have h2 (x : Nat) := h1.setNum (x := x) (a := EV_UNROUTED) (steadyReg_eq_false rfl rfl)
  .ite ((h2 _).put (steadyReg_eq_false rfl rfl)) (h2 _)

theorem Steady.raise {e} (h : Steady loop gate s₀ s) : Steady loop gate s₀ (s.raise e) :=
  .ite h (.ite (.ite (.frame h rfl) (.frame h rfl)) h.unrouted)

theorem Steady.countSev {sev} (h : Steady loop gate s₀ s) : Steady loop gate s₀ (s.countSev sev) := by
  have hd : addrDie (SEV_CNT (sev % 4)) = 5 := by simp only [addrDie, SEV_CNT, kprReg]; omega
  have hu : addrUnit (SEV_CNT (sev % 4)) = 8 := by simp only [addrUnit, SEV_CNT, kprReg]; omega
  exact h.setNum (steadyReg_eq_false (by simp [isTimingReg, hd, hu]) (by simp [isGateReg, hu]))

theorem Steady.noteClass {r} (h : Steady loop gate s₀ s) : Steady loop gate s₀ (s.noteClass r) := .ite h (.frame h rfl)

theorem Steady.offer {r} (h : Steady loop gate s₀ s) : Steady loop gate s₀ (s.offer r).1 :=
  have h2 := ((h.setNum (steadyReg_eq_false rfl rfl)).setNum (steadyReg_eq_false rfl rfl)).countSev.noteClass
  .ite_fst (.frame h2 rfl) h2

theorem Steady.countDrop (h : Steady loop gate s₀ s) : Steady loop gate s₀ s.countDrop :=
  have h1 : Steady loop gate s₀ (s.put ALOG_ERR_DROP 1) := h.put (steadyReg_eq_false rfl rfl)
  have h2 (x : Nat) := h1.setNum (x := x) (a := ALOG_DROP) (steadyReg_eq_false rfl rfl)
  .ite ((h2 _).put (steadyReg_eq_false rfl rfl)) (h2 _)

theorem Steady.latchFirst {first valid old new bit} (h : Steady loop gate s₀ s) (hf : steadyReg gate first = false) :
    Steady loop gate s₀ (s.latchFirst first valid old new bit) :=
  .ite (h.wr hf) (.ite (h.wr hf) h)

theorem Steady.noteDrop (h : Steady loop gate s₀ s) : Steady loop gate s₀ s.noteDrop :=
  have h1 := (h.countDrop.latchFirst (steadyReg_eq_false rfl rfl)).raise.offer
  .ite h.countDrop (.ite h1.countDrop h1)

theorem Steady.log {r} (h : Steady loop gate s₀ s) : Steady loop gate s₀ (s.log r) := .ite h.offer.noteDrop h.offer

/-! ### The write gate (R240, R251) -/

theorem Steady.modWru {n f} (h : Steady loop gate s₀ s) : Steady loop gate s₀ (s.modWru n f) := .frame h rfl

theorem Steady.modSpan {n f} (h : Steady loop gate s₀ s) : Steady loop gate s₀ (s.modSpan n f) := .frame h rfl

theorem Steady.csWrite {n a bs} (h : Steady loop gate s₀ s) : Steady loop gate s₀ (s.csWrite n a bs) := by
  unfold State.csWrite State.validate
  split
  · exact h
  · split <;> exact .frame h rfl

theorem Steady.writeDone {n o status} (h : Steady loop gate s₀ s) : Steady loop gate s₀ (s.writeDone n o status) := by
  unfold State.writeDone
  extract_lets _ _ _ _ s1 s2 s3 s4
  have h2 : Steady loop gate s₀ s2 := h.csWrite.setNum (steadyReg_chReg (by decide))
  have hc (i : Nat) (hi : i < 4) (s) (h : Steady loop gate s₀ s) : Steady loop gate s₀ (s.count48 (WSECT_LO n i) (WSECT_HI n i) 1) :=
    h.count48 (steadyReg_chReg ⟨by omega, by omega, by decide, by omega⟩) (steadyReg_chReg ⟨by omega, by omega, by decide, by omega⟩)
  have h3 : Steady loop gate s₀ s3 :=
    .ite (hc 0 (by omega) _ h2) (.ite (hc 1 (by omega) _ h2) (.ite (hc 2 (by omega) _ h2) h2))
  have h4 : Steady loop gate s₀ s4 := .ite (hc 3 (by omega) _ h3) h3
  exact h4.raise

theorem Steady.endWrite {n status} (h : Steady loop gate s₀ s) : Steady loop gate s₀ (s.endWrite n status) := by
  unfold State.endWrite
  split
  · exact h
  · exact h.writeDone.modWru

/-- The write gate and the assist output are 0. -/
def State.gatePinsLow (s : State) (n : Nat) : State :=
  (((if s.flag (WR_STAT_GATE n) then s.modSpan n (fun g => { g with dropped := true }) else s).put (WR_STAT_GATE n) 0).put
    (AS_STAT_ACTIVE n) 0).setNum (AS_DAC n) 0

/-- A sector being emitted completes CUT. -/
def State.cutSector (s : State) (n : Nat) : State :=
  match (s.wruOf n).op with
  | some o => if o.emit then s.endWrite n wsCut else s
  | none => s

theorem dropGate_eq (s : State) (n : Nat) : s.dropGate n = (s.gatePinsLow n).cutSector n := rfl

theorem Steady.cutSector {n} (h : Steady loop gate s₀ s) : Steady loop gate s₀ (s.cutSector n) := by
  unfold State.cutSector
  split
  · exact .ite h.endWrite h
  · exact h

theorem steadyReg_wrStat (n : Nat) : steadyReg false (WR_STAT n) = false := by
  have hu : addrUnit (WR_STAT n) = 5 := addrUnit_chReg n 5 0x20 (by decide) (by decide)
  simp [steadyReg, isTimingReg, hu]

theorem Steady.gatePinsLow {n} (h : Steady loop false s₀ s) : Steady loop false s₀ (s.gatePinsLow n) :=
  .setNum (.put (.put (.ite h.modSpan h) (steadyReg_wrStat n)) (steadyReg_chReg (by decide))) (steadyReg_chReg (by decide))

theorem Steady.dropGate {n} (h : Steady loop false s₀ s) : Steady loop false s₀ (s.dropGate n) :=
  dropGate_eq s n ▸ h.gatePinsLow.cutSector

theorem Steady.interlock {n} (h : Steady loop false s₀ s) : Steady loop false s₀ (s.interlock n) := .ite h.dropGate h

end

/-! ### One-bit fields -/

/-- The field lies within a word. -/
def Fld.fits (f : Fld) : Bool := decide (f.lo ≤ f.hi ∧ f.hi < 32)

/-- Two fields lie within a word and share no bit. -/
def Fld.apart (f g : Fld) : Bool := f.fits && g.fits && decide (g.hi < f.lo ∨ f.hi < g.lo)

theorem State.flag_put_one {s : State} (h : s.Wf) {f : Fld} (hf : f.fits = true) : (s.put f 1).flag f = true := by
  rw [State.flag, State.get_put_same h (of_decide_eq_true hf) (Nat.one_lt_two_pow (Nat.succ_ne_zero _)), decide_eq_true rfl]

theorem State.flag_put_zero {s : State} (h : s.Wf) {f : Fld} (hf : f.fits = true) : (s.put f 0).flag f = false := by
  rw [State.flag, State.get_put_same h (of_decide_eq_true hf) (Nat.two_pow_pos _)]
  rfl

theorem State.flag_put_other (s : State) {f g : Fld} (x : Nat) (h : g.addr ≠ f.addr) : (s.put f x).flag g = s.flag g := by
  rw [State.flag, State.get_put_other s x h, State.flag]

theorem State.flag_put_apart {s : State} (h : s.Wf) (f g : Fld) {x : Nat} (ha : g.addr = f.addr) (hfg : f.apart g = true) :
    (s.put f x).flag g = s.flag g := by
  simp only [Fld.apart, Fld.fits, Bool.and_eq_true, decide_eq_true_eq] at hfg
  obtain ⟨⟨⟨hf, _⟩, ⟨hg, _⟩⟩, hd⟩ := hfg
  rw [State.flag, State.get_put_apart h ⟨ha, hf, hg, hd⟩, State.flag]

theorem State.flag_setNum_other (s : State) {f : Fld} {a x : Nat} (h : f.addr ≠ a) : (s.setNum a x).flag f = s.flag f := by
  rw [State.flag, State.get_setNum_other s h, State.flag]

/-- A dropped gate is closed. -/
theorem dropGate_gate {s : State} (h : s.Wf) (n : Nat) : (s.dropGate n).flag (WR_STAT_GATE n) = false := by
  have hcut : Steady true true (s.gatePinsLow n) ((s.gatePinsLow n).cutSector n) := .cutSector (.refl _)
  have hreg : steadyReg true (WR_STAT n) = true := by
    simp [steadyReg, isGateReg, WR_STAT, addrUnit_chReg, addrOff_chReg]
  have hsteady : steadyReg true (WR_STAT_GATE n).addr = true := hreg
  rw [dropGate_eq, hcut.flag hsteady]
  have hw : (if s.flag (WR_STAT_GATE n) then s.modSpan n (fun g => { g with dropped := true }) else s).Wf :=
    (Evolves.ite (.modSpan (.refl s)) (.refl s)).wf h
  unfold State.gatePinsLow
  rw [State.flag_setNum_other _ (by simp only [WR_STAT_GATE, WR_STAT, AS_DAC, chReg]; omega),
    State.flag_put_other _ _ (by simp only [WR_STAT_GATE, WR_STAT, AS_STAT_ACTIVE, AS_STAT, chReg]; omega)]
  exact State.flag_put_zero hw rfl

end Sys2Proof.Machine

namespace Sys2Proof.Machine

/-! ## The crystal and the operating time (R43-R45, R66) -/

section
variable {s : State}

/-- Every enabled channel's write gate drops. -/
def State.dropGates (s : State) : State := (List.range 4).foldl (fun s n => if s.chOn n then s.dropGate n else s) s

theorem Steady.dropGates (s : State) : Steady true false s s.dropGates := .foldl (.refl s) fun _ h _ => .ite h.dropGate h

theorem xtalLoss_of_first (h : s.flag CLOCK_STAT_XTAL_LOST = false) :
    xtalLoss s = (((s.put CLOCK_STAT_XTAL_LOST 1).put CLOCK_STAT_BACKUP 1).dropGates).fatalCause .crystal := by
  simp only [xtalLoss, h, Bool.false_eq_true, if_false]
  rfl

theorem xtalLoss_sets (h : s.Wf) (hl : s.flag CLOCK_STAT_XTAL_LOST = false) :
    (xtalLoss s).flag CLOCK_STAT_XTAL_LOST = true ∧ (xtalLoss s).flag CLOCK_STAT_BACKUP = true ∧
      (xtalLoss s).fatal = s.fatal ++ [.crystal] := by
  have hd := Steady.dropGates ((s.put CLOCK_STAT_XTAL_LOST 1).put CLOCK_STAT_BACKUP 1)
  rw [xtalLoss_of_first hl]
  refine ⟨(hd.flag rfl).trans ?lost, (hd.flag rfl).trans (State.flag_put_one (h.put _ _) rfl), congrArg (· ++ [FatalCause.crystal]) hd.fatal⟩
  rw [State.flag_put_apart (h.put _ _) CLOCK_STAT_BACKUP CLOCK_STAT_XTAL_LOST rfl rfl]
  exact State.flag_put_one h rfl

/-- A number within the range of a 32-bit two's-complement number reads back from its bits. -/
theorem sx32_toBits32 {i : Int} (h : -2147483648 ≤ i ∧ i < 2147483648) : sx 32 (toBits 32 i) = i := by
  simp only [sx, toBits]
  split_ifs <;> omega

theorem toBits_lt (n : Nat) (i : Int) : toBits n i < 2 ^ n := by
  have h : (0 : Int) < 2 ^ n := by positivity
  have hlt := Int.emod_lt_of_pos i h
  have hge := Int.emod_nonneg i h.ne'
  unfold toBits
  zify
  rwa [Int.toNat_of_nonneg hge]

/-- The correction moves by at most 655 / 65,536 ppm (R44). -/
theorem compUpdate_moves (h : s.Wf) (hb : s.flag (THERM_T_BROKEN 5) = false) (hr : (sx 32 (s.num COMP_PPM)).natAbs ≤ 2147482000) :
    (sx 32 ((compUpdate s).num COMP_PPM) - sx 32 (s.num COMP_PPM)).natAbs ≤ 655 ∧
      (compUpdate s).flag CLOCK_STAT_COMP_HOLD = false := by
  have hw : (s.put CLOCK_STAT_COMP_HOLD 0).Wf := h.put _ _
  simp only [compUpdate, hb, Bool.false_eq_true, if_false]
  rw [State.num_setNum_self hw (toBits_lt 32 _), State.flag_setNum_other _ (by decide), State.flag_put_zero h rfl]
  refine ⟨?_, rfl⟩
  generalize fix 32 16 s.compTarget - sx 32 (s.num COMP_PPM) = d
  have hstep : -655 ≤ clampI (-655) 655 d ∧ clampI (-655) 655 d ≤ 655 := by
    unfold clampI
    omega
  rw [sx32_toBits32 (by omega)]
  omega

theorem compUpdate_of_broken (h : s.Wf) (hb : s.flag (THERM_T_BROKEN 5) = true) :
    (compUpdate s).num COMP_PPM = s.num COMP_PPM ∧ (compUpdate s).flag CLOCK_STAT_COMP_HOLD = true := by
  have e : compUpdate s = s.put CLOCK_STAT_COMP_HOLD 1 := if_pos hb
  rw [e]
  refine ⟨?_, State.flag_put_one h rfl⟩
  rw [State.num, State.put, State.rd_wr_other s _ (by decide), State.num]

/-- A number of n bytes written to the NV store reads back. -/
theorem State.nvsNat_nvsWrite (h : s.Wf) {a n x : Nat} (hx : x < 256 ^ n) : (s.nvsWrite a (toLe n x)).nvsNat a n = x := by
  have hread : (s.nvs.writeN 0 a (toLe n x)).readN 0 a (toLe n x).length = toLe n x := Memory.readN_writeN_self h.nvs
  rw [length_toLe] at hread
  rw [State.nvsNat, State.nvsBytes, State.nvsWrite, hread, leNat_toLe, Nat.mod_eq_of_lt hx]

end

/-- Settles O4: each clause by the lemma about its command. -/
theorem crystalLossCompensationAndOperatingTime : Obligations.Crystal_loss_compensation_and_operating_time := by
  unfold Obligations.Crystal_loss_compensation_and_operating_time
  exact ⟨fun s h hl => ⟨_, rfl, xtalLoss_sets h hl⟩, fun s h hb hr => ⟨_, rfl, compUpdate_moves h hb hr⟩,
    fun s h hb => ⟨_, rfl, compUpdate_of_broken h hb⟩,
    fun s h ho => ⟨_, rfl, State.nvsNat_nvsWrite h ho, rfl⟩⟩

end Sys2Proof.Machine

namespace Sys2Proof.Machine

/-! ## Forward and return frames of the wedge lines (R46-R51, R552) -/

section
variable {s : State} {n : Nat}

/-! ### The units of a channel -/

/-- A command of an enabled channel that is up runs its function. -/
theorem runs_of_up {c : Instr} {f : State → State} {P : State → Prop} (he : exec c s = .next (s.ifCh n f)) (hu : s.chUp n = true)
    (hp : P (f s)) : Runs c s P := by
  have e : s.ifCh n f = f s := if_pos hu
  exact ⟨_, he, by rwa [e]⟩

theorem State.put_demodOf (s : State) (f : Fld) (x m : Nat) : (s.put f x).demodOf m = s.demodOf m := rfl

theorem State.wlOf_modWl {f : WedgeLine → WedgeLine} (hn : n < 4) : (s.modWl n f).wlOf n = f (s.wlOf n) := atD_modAt_self hn

theorem State.demodOf_modDemod {f : Demod → Demod} (hn : n < 4) : (s.modDemod n f).demodOf n = f (s.demodOf n) := atD_modAt_self hn

theorem State.loopOf_modLoop {f : Loop → Loop} (hn : n < 4) : (s.modLoop n f).loopOf n = f (s.loopOf n) := atD_modAt_self hn

/-! ### The bits of a frame and its CRC (R47, R48) -/

theorem foldl_crcBit8_lt (bs : List Bool) {c : Nat} (hc : c < 2 ^ 8) : bs.foldl (crcBit 8 0x07) c < 2 ^ 8 := by
  induction bs generalizing c with
  | nil => exact hc
  | cons b bs ih =>
    refine ih ?_
    have hsh : c * 2 % 2 ^ 8 < 2 ^ 8 := Nat.mod_lt _ (by decide)
    simp only [crcBit]
    split
    · exact Nat.xor_lt_two_pow hsh (by decide)
    · exact hsh

theorem crc8_lt (bs : List Bool) : crc8 bs < 256 := foldl_crcBit8_lt bs (by decide)

theorem ofBool_le_one (b : Bool) : ofBool b ≤ 1 := by cases b <;> decide

/-- The body of a forward frame is its marker, FEh, followed by 80 bits. -/
theorem FwdFrame.body_bounds (f : FwdFrame) : 0xFE * 2 ^ 80 ≤ f.body ∧ f.body < 0xFF * 2 ^ 80 := by
  have h1 := ofBool_le_one f.spinLock
  have h2 := ofBool_le_one f.shockTrip
  have h3 := ofBool_le_one f.spinRun
  unfold FwdFrame.body
  omega

/-- A forward frame that no error reaches is good. -/
theorem fwdGood_bits (f : FwdFrame) : fwdGood ((BitVec.ofNat 96 f.bits ^^^ 0).toNat) = true := by
  obtain ⟨hlo, hhi⟩ := f.body_bounds
  have hc := crc8_lt (bitsMsb 80 f.body)
  have hx : (BitVec.ofNat 96 f.bits ^^^ 0).toNat = f.body * 256 + crc8 (bitsMsb 80 f.body) := by
    rw [show (0 : BitVec 96) = 0#96 from rfl, BitVec.xor_zero, BitVec.toNat_ofNat, FwdFrame.bits]
    omega
  have hdiv : (f.body * 256 + crc8 (bitsMsb 80 f.body)) / 256 = f.body := by omega
  rw [hx, fwdGood, hdiv, Bool.and_eq_true, decide_eq_true_eq, decide_eq_true_eq]
  omega

/-- A return frame is 24 bits followed by their CRC. -/
theorem RetFrame.bits_eq (r : RetFrame) : ∃ x < 2 ^ 24, r.bits = x * 256 + crc8 (bitsMsb 24 x) := by
  have h1 := ofBool_le_one r.found
  have h2 := ofBool_le_one r.wgate
  have h3 := ofBool_le_one r.headSw
  exact ⟨_, by omega, rfl⟩

/-- A return frame that no error reaches is good. -/
theorem retGood_bits (r : RetFrame) : retGood ((BitVec.ofNat 32 r.bits ^^^ 0).toNat) = true := by
  obtain ⟨x, hx, hr⟩ := r.bits_eq
  have hc := crc8_lt (bitsMsb 24 x)
  have hm : (BitVec.ofNat 32 r.bits ^^^ 0).toNat = x * 256 + crc8 (bitsMsb 24 x) := by
    rw [show (0 : BitVec 32) = 0#32 from rfl, BitVec.xor_zero, BitVec.toNat_ofNat, hr]
    omega
  have hdiv : (x * 256 + crc8 (bitsMsb 24 x)) / 256 = x := by omega
  rw [hm, retGood, hdiv, decide_eq_true_eq]
  omega

/-! ### Sending (R47, R552) -/

theorem angleTick_ge (s : State) (n bound : Nat) : bound ≤ (s.angleTick n bound).1 := Nat.le_max_left _ _

theorem refTick_ge (s : State) (bound : Nat) : bound ≤ (s.refTick bound).1 := Nat.le_max_left _ _

/-- A marker ends no sooner than 9.0 µs after the one before. -/
theorem nextMarker_ge {m : Nat} (h : (s.wlOf n).lastMark = some m) : m + 115200 ≤ (s.nextMarker n).1 := by
  have hb : m + 115200 ≤ max s.spin.ref.clock (m + 115200) := Nat.le_max_right _ _
  rw [State.wlOf] at h
  unfold State.nextMarker
  rw [h]
  dsimp only
  split
  · exact hb.trans (angleTick_ge s n _)
  · exact hb.trans (refTick_ge s _)

/-- The line after a marker was sent. -/
def State.sentLine (s : State) (n : Nat) : WedgeLine :=
  { s.wlOf n with
    frame := some (s.fwdFrame n (s.nextMarker n).1 (s.nextMarker n).2), predicted := (s.nextMarker n).1,
    lastMark := some (s.nextMarker n).1, byAngle := s.holdsAngle && decide (s.spin.omega ≠ 0) }

theorem forwardFrameSend_sends (hn : n < 4) (h : 4 ≤ s.get BOOT_STAT_STAGE) :
    (forwardFrameSend n s).wlOf n = s.sentLine n ∧ atD (forwardFrameSend n s).shock.trip n true = false := by
  rw [forwardFrameSend, if_neg (Nat.not_lt.2 h)]
  refine ⟨State.wlOf_modWl hn, ?_⟩
  dsimp only
  exact atD_modAt_self hn

theorem forwardFrameSend_of_early (h : s.get BOOT_STAT_STAGE < 4) : forwardFrameSend n s = s := if_pos h

/-! ### Receiving (R50, R51) -/

/-- A good frame while the spindle runs becomes the prediction; the interlock that follows leaves DEMOD and LOOP alone. -/
theorem forwardGood_predicts (hn : n < 4) {edge : Nat} {f : FwdFrame} (h : f.spinRun = true) :
    ((forwardGood n edge f s).demodOf n).pred = edge ∧ ((forwardGood n edge f s).demodOf n).predWedge = f.wedge ∧
      ((forwardGood n edge f s).demodOf n).fwdBad = 0 ∧ ((forwardGood n edge f s).loopOf n).fwd = some f := by
  unfold forwardGood
  extract_lets s1 s2 s3
  have hs : Steady true false s2 s3 := .interlock (.refl _)
  have hd : s2.demodOf n = { s.demodOf n with
      pred := edge, predWedge := f.wedge, shockTrip := f.shockTrip, spinLock := f.spinLock, fwdBad := 0 } :=
    State.demodOf_modDemod hn
  have hl : s3.loopOf n = { s1.loopOf n with fwd := some f } := by
    rw [State.loopOf, hs.loop rfl, ← State.loopOf]
    exact State.loopOf_modLoop hn
  rw [if_pos h, hs.demodOf, hd, hl]
  exact ⟨rfl, rfl, rfl, rfl⟩

theorem forwardFrameReceive_of_good {f : FwdFrame} (h : (s.wlOf n).frame = some f) :
    forwardFrameReceive n 0 s = forwardGood n (f.mark * 625 / 4) f s := by
  simp only [forwardFrameReceive, h, fwdGood_bits, if_true]

theorem forwardFrameReceive_of_bad {errs : BitVec 96}
    (h : (s.wlOf n).frame.all (fun f => !fwdGood ((BitVec.ofNat 96 f.bits ^^^ errs).toNat)) = true) :
    forwardFrameReceive n errs s = forwardBad n s := by
  unfold forwardFrameReceive
  split
  next f hf =>
    rw [hf, Option.all_some, Bool.not_eq_true'] at h
    rw [h, if_neg Bool.false_ne_true]
  · rfl

/-- A discarded frame leaves the channel its own extrapolation. -/
theorem forwardBad_extrapolates (hw : s.Wf) (hn : n < 4) :
    ((forwardBad n s).demodOf n).fwdBad = (s.demodOf n).fwdBad + 1 ∧
      ((forwardBad n s).demodOf n).pred = s.extrapolated n ((s.demodOf n).since + 1) ∧
      ((forwardBad n s).demodOf n).predWedge = ((s.demodOf n).wedge + 1) % s.wedgesPerRev ∧
      (forwardBad n s).flag (WLR_STAT_FWD_CRC n) = true := by
  unfold forwardBad
  extract_lets d at_ s1
  have hd : s1.demodOf n = { d with
      pred := at_, predWedge := (d.wedge + 1) % s.wedgesPerRev, shockTrip := false, fwdBad := d.fwdBad + 1 } :=
    State.demodOf_modDemod hn
  rw [State.put_demodOf, hd]
  exact ⟨rfl, rfl, rfl, State.flag_put_one ((Evolves.refl s).modDemod.wf hw) rfl⟩

theorem steadyReg_wlrStat {gate : Bool} (ch : Ch) : steadyReg gate (WLR_STAT ch) = true := by
  have h : isTimingReg (WLR_STAT ch) = true := by fin_cases ch <;> rfl
  rw [steadyReg, h, Bool.true_or]

theorem wedgeLineFail_sets (hw : s.Wf) (ch : Ch) (e : Nat) :
    ((s.put (WLR_STAT_LINE_FAIL ch) 1).raise e).flag (WLR_STAT_LINE_FAIL ch) = true := by
  have hs : Steady true true (s.put (WLR_STAT_LINE_FAIL ch) 1) ((s.put (WLR_STAT_LINE_FAIL ch) 1).raise e) := .raise (.refl _)
  rw [hs.flag (f := WLR_STAT_LINE_FAIL ch) (steadyReg_wlrStat ch)]
  exact State.flag_put_one hw rfl

/-! ### The KPR's lock on a line (R46, R48) -/

theorem wlUnlock_wlOf (hn : n < 4) : (s.wlUnlock n).wlOf n = { s.wlOf n with run := 0 } := State.wlOf_modWl hn

theorem wlUnlock_locked (hw : s.Wf) : (s.wlUnlock n).flag (WL_STAT_LOCKED n) = false := State.flag_put_zero (f := WL_STAT_LOCKED n) hw rfl

theorem wlMiss_wlOf (hn : n < 4) : (s.wlMiss n).wlOf n = { s.wlOf n with run := 0, noFound := (s.wlOf n).noFound + 1 } := by
  unfold State.wlMiss
  extract_lets s1
  have h1 : s1.wlOf n = { s.wlOf n with run := 0, noFound := (s.wlOf n).noFound + 1 } := State.wlOf_modWl hn
  split
  · rw [wlUnlock_wlOf hn, h1]
  · exact h1

/-- The sixteenth wedge without a good return frame carrying FOUND 1 ends LOCKED. -/
theorem wlMiss_locked (hw : s.Wf) (hn : n < 4) (h : 15 ≤ (s.wlOf n).noFound) : (s.wlMiss n).flag (WL_STAT_LOCKED n) = false := by
  unfold State.wlMiss
  extract_lets s1
  have h1 : (s1.wlOf n).noFound = (s.wlOf n).noFound + 1 := congrArg WedgeLine.noFound (State.wlOf_modWl hn)
  rw [if_pos (by omega)]
  exact wlUnlock_locked ((Evolves.refl s).modWl.wf hw)

theorem alignAngle_wlOf (s : State) (n read m : Nat) : (s.alignAngle n read).wlOf m = s.wlOf m := by
  unfold State.alignAngle
  split <;> rfl

theorem wlSwitch_wlOf (hn : n < 4) (k : Nat) :
    ((s.wlSwitch n k).wlOf n).noFound = (s.wlOf n).noFound ∧ ((s.wlSwitch n k).wlOf n).bad = (s.wlOf n).bad := by
  unfold State.wlSwitch
  extract_lets s1
  have h1 : (s1.wlOf n).noFound = (s.wlOf n).noFound ∧ (s1.wlOf n).bad = (s.wlOf n).bad := by
    have e : s1.wlOf n = _ := atD_modAt_self hn
    rw [e]
    exact ⟨rfl, rfl⟩
  clear_value s1
  split
  · exact h1
  · split <;> exact h1

/-- The line when a good return frame with FOUND 1 has come, before its tick is judged. -/
def FoundFrom (w : WedgeLine) (detected : Nat) (v : WedgeLine) : Prop :=
  v.run = w.run ∧ v.bad = w.bad ∧ v.noFound = 0 ∧ v.detected = some detected

/-- Within ±20 ns of the prediction the frame extends the run; outside it LOCKED falls. -/
theorem wlFound_judges (hw : s.Wf) (hn : n < 4) (detected read : Nat) :
    ((((detected : Int) - (s.wlOf n).predicted).natAbs ≤ 256) →
      FoundFrom { s.wlOf n with run := (s.wlOf n).run + 1 } detected ((s.wlFound n detected read).wlOf n)) ∧
    (256 < (((detected : Int) - (s.wlOf n).predicted).natAbs) →
      ((s.wlFound n detected read).wlOf n).run = 0 ∧ (s.wlFound n detected read).flag (WL_STAT_LOCKED n) = false) := by
  unfold State.wlFound
  extract_lets w e s1 s2 s3
  have h1 : Evolves s s1 := (Evolves.refl s).put
  have h2 : Evolves s s2 := .ite h1 h1.modWl
  have h3 : Evolves s s3 := h2.modWl.alignAngle
  have hw2 : (s2.wlOf n).run = w.run ∧ (s2.wlOf n).bad = w.bad := by
    unfold s2
    split
    · exact ⟨rfl, rfl⟩
    · rw [State.wlOf_modWl hn]
      exact ⟨rfl, rfl⟩
  have hw3 : FoundFrom w detected (s3.wlOf n) := by
    unfold s3
    rw [alignAngle_wlOf, State.wlOf_modWl hn]
    exact ⟨hw2.1, hw2.2, rfl, rfl⟩
  clear_value s3
  refine ⟨fun hle => ?_, fun hlt => ?_⟩
  · rw [if_pos hle, State.wlOf_modWl hn]
    obtain ⟨hrun, hbad, hno, hdet⟩ := hw3
    exact ⟨congrArg (· + 1) hrun, hbad, hno, hdet⟩
  · rw [if_neg (Nat.not_le.2 hlt)]
    exact ⟨congrArg WedgeLine.run (wlUnlock_wlOf hn), wlUnlock_locked (h3.wf hw)⟩

/-! ### Return frames (R46, R48) -/

/-- A return frame that is missing counts, and so does one that fails its CRC. -/
theorem returnFrameReceive_of_missing (n : Nat) (s : State) :
    returnFrameReceive n none s = (s.modWl n (fun w => { w with bad := w.bad + 1 })).wlMiss n := rfl

theorem returnFrameReceive_of_bad {errs : BitVec 32} {r : RetFrame} (hr : (s.demodOf n).ret = some r)
    (hg : retGood ((BitVec.ofNat 32 r.bits ^^^ errs).toNat) = false) :
    returnFrameReceive n (some errs) s = ((s.modWl n (fun w => { w with bad := w.bad + 1 })).wlMiss n).put (WL_STAT_RET_CRC n) 1 := by
  simp only [returnFrameReceive, hr, hg, Bool.false_eq_true, if_false]

theorem returnFrameReceive_of_good {r : RetFrame} (hr : (s.demodOf n).ret = some r) :
    returnFrameReceive n (some 0) s =
      (let t := if r.headSw then (s.modWl n (fun w => { w with bad := 0 })).wlHead n else s.modWl n (fun w => { w with bad := 0 })
      if r.found then t.wlFound n r.stamp r.wedge else t.wlMiss n) := by
  simp only [returnFrameReceive, hr, retGood_bits, if_true]

theorem missed_wlOf (hn : n < 4) :
    ((s.modWl n (fun w => { w with bad := w.bad + 1 })).wlMiss n).wlOf n =
      { s.wlOf n with run := 0, noFound := (s.wlOf n).noFound + 1, bad := (s.wlOf n).bad + 1 } := by
  rw [wlMiss_wlOf hn, State.wlOf_modWl hn]

theorem returnFrameReceive_found (hw : s.Wf) (hn : n < 4) {r : RetFrame} (hr : (s.demodOf n).ret = some r) (hs : r.headSw = false)
    (hf : r.found = true) :
    ((((r.stamp : Int) - (s.wlOf n).predicted).natAbs ≤ 256) →
      FoundFrom { s.wlOf n with run := (s.wlOf n).run + 1, bad := 0 } r.stamp ((returnFrameReceive n (some 0) s).wlOf n)) ∧
    (256 < (((r.stamp : Int) - (s.wlOf n).predicted).natAbs) →
      ((returnFrameReceive n (some 0) s).wlOf n).run = 0 ∧ (returnFrameReceive n (some 0) s).flag (WL_STAT_LOCKED n) = false) := by
  have h1 : (s.modWl n (fun w => { w with bad := 0 })).wlOf n = { s.wlOf n with bad := 0 } := State.wlOf_modWl hn
  have hj := wlFound_judges ((Evolves.refl s).modWl (n := n) (f := fun w => { w with bad := 0 }) |>.wf hw) hn r.stamp r.wedge
  rw [h1] at hj
  simp only [returnFrameReceive_of_good hr, hs, hf, Bool.false_eq_true, if_false, if_true]
  exact hj

theorem returnFrameReceive_not_found (hw : s.Wf) (hn : n < 4) {r : RetFrame} (hr : (s.demodOf n).ret = some r) (hf : r.found = false) :
    ((returnFrameReceive n (some 0) s).wlOf n).run = 0 ∧ ((returnFrameReceive n (some 0) s).wlOf n).bad = 0 ∧
      (15 ≤ (s.wlOf n).noFound → (returnFrameReceive n (some 0) s).flag (WL_STAT_LOCKED n) = false) := by
  simp only [returnFrameReceive_of_good hr, hf, Bool.false_eq_true, if_false]
  set t := if r.headSw = true then (s.modWl n fun w => { w with bad := 0 }).wlHead n else s.modWl n fun w => { w with bad := 0 } with ht
  have hev : Evolves s t := .ite (Evolves.refl s).modWl.wlHead (Evolves.refl s).modWl
  have h1 : (s.modWl n (fun w => { w with bad := 0 })).wlOf n = { s.wlOf n with bad := 0 } := State.wlOf_modWl hn
  have htw : (t.wlOf n).noFound = (s.wlOf n).noFound ∧ (t.wlOf n).bad = 0 := by
    rw [ht]
    split
    · rw [State.wlHead, (wlSwitch_wlOf hn _).1, (wlSwitch_wlOf hn _).2, h1]
      exact ⟨rfl, rfl⟩
    · rw [h1]
      exact ⟨rfl, rfl⟩
  rw [wlMiss_wlOf hn]
  exact ⟨rfl, htw.2, fun h => wlMiss_locked (hev.wf hw) hn (htw.1 ▸ h)⟩

end

/-- Settles O3: each clause by the lemma about its command; a command of an enabled channel is its function. -/
theorem wedgeLinesCarryFramesAndLock : Obligations.Wedge_lines_carry_frames_and_lock := by
  unfold Obligations.Wedge_lines_carry_frames_and_lock
  refine ⟨?send, ?early, ?good, ?bad, ?lineFail, ?restart, ?crc, ?missing, ?near, ?far, ?notFound, ?lock, ?retFail⟩
  case send =>
    intro s ch _ hu hst
    refine runs_of_up rfl hu ?_
    obtain ⟨hline, htrip⟩ := forwardFrameSend_sends ch.isLt hst
    rw [hline]
    refine ⟨rfl, ?_, rfl, rfl, htrip⟩
    rw [Option.all_eq_true]
    exact fun m hm => decide_eq_true (nextMarker_ge hm)
  case early =>
    intro s ch _ hst
    refine ⟨_, rfl, ?_⟩
    have e : s.ifCh ch (forwardFrameSend ch) = s := by rw [State.ifCh, forwardFrameSend_of_early hst, ite_self]
    rw [e]
  case good =>
    intro s ch f _ hu hf hr
    refine runs_of_up rfl hu ?_
    rw [forwardFrameReceive_of_good hf]
    exact forwardGood_predicts ch.isLt hr
  case bad =>
    intro s ch errs h hu hf
    refine runs_of_up rfl hu ?_
    rw [forwardFrameReceive_of_bad hf]
    exact forwardBad_extrapolates h ch.isLt
  case lineFail =>
    intro s ch h hu hb
    refine runs_of_up rfl hu ?_
    rw [if_pos hb]
    exact wedgeLineFail_sets h ch _
  case restart =>
    intro s ch _ hu hb
    refine runs_of_up rfl hu ?_
    rw [if_pos hb, State.wlOf_modWl ch.isLt]
    exact ⟨rfl, rfl, rfl⟩
  case crc =>
    intro s ch errs r h hu hr hg
    refine runs_of_up rfl hu ?_
    rw [returnFrameReceive_of_bad hr hg]
    have hline := missed_wlOf (s := s) ch.isLt
    have hw := ((Evolves.refl s).modWl (n := ch) (f := fun w => { w with bad := w.bad + 1 })).wlMiss (n := ch) |>.wf h
    refine ⟨State.flag_put_one hw rfl, ?_⟩
    exact ⟨congrArg WedgeLine.bad hline, congrArg WedgeLine.noFound hline, congrArg WedgeLine.run hline⟩
  case missing =>
    intro s ch _ hu
    refine runs_of_up rfl hu ?_
    rw [returnFrameReceive_of_missing, missed_wlOf ch.isLt]
    exact ⟨rfl, rfl, rfl⟩
  case near =>
    intro s ch r h hu hr hs hf he
    refine runs_of_up rfl hu ?_
    exact (returnFrameReceive_found h ch.isLt hr hs hf).1 he
  case far =>
    intro s ch r h hu hr hs hf he
    refine runs_of_up rfl hu ?_
    exact (returnFrameReceive_found h ch.isLt hr hs hf).2 he
  case notFound =>
    intro s ch r h hu hr hf
    refine runs_of_up rfl hu ?_
    exact returnFrameReceive_not_found h ch.isLt hr hf
  case lock =>
    intro s ch h hu hr
    refine runs_of_up rfl hu ?_
    rw [if_pos hr]
    exact State.flag_put_one (f := WL_STAT_LOCKED ch) h rfl
  case retFail =>
    intro s ch h hu hb
    refine runs_of_up rfl hu ?_
    rw [if_pos hb]
    exact State.flag_put_one h rfl

end Sys2Proof.Machine

namespace Sys2Proof.Machine

/-! ## Position sensing (R105, R111-R129): what a wedge publishes, and what LOOP's computation leaves alone -/

section
variable {gate : Bool} {s₀ s : State} {n : Nat}

/-! ### LOOP's and HOLD's wedge leaves DEMOD alone (R133, R147, R154) -/

theorem Steady.modLoop {n f} (h : Steady false gate s₀ s) : Steady false gate s₀ (s.modLoop n f) :=
  ⟨h.img, h.demod, h.fatal, nofun, h.regs⟩

theorem Steady.modHold {loop n f} (h : Steady loop gate s₀ s) : Steady loop gate s₀ (s.modHold n f) := .frame h rfl

theorem Steady.putCh {loop n u o hi lo x} (h : Steady loop gate s₀ s)
    (hu : u < 32 ∧ o < 0x1000000 ∧ u ∉ [1, 8, 17] ∧ (u = 5 → o ≠ 0x20) := by decide) :
    Steady loop gate s₀ (s.put ⟨chReg n u o, hi, lo⟩ x) := h.put (steadyReg_chReg hu)

theorem Steady.setNumCh {loop n u o x} (h : Steady loop gate s₀ s)
    (hu : u < 32 ∧ o < 0x1000000 ∧ u ∉ [1, 8, 17] ∧ (u = 5 → o ≠ 0x20) := by decide) :
    Steady loop gate s₀ (s.setNum (chReg n u o) x) := h.setNum (steadyReg_chReg hu)

theorem Steady.holdGains {loop n pitch} (h : Steady loop gate s₀ s) : Steady loop gate s₀ (s.holdGains n pitch) :=
  .ite h (.setNumCh (.setNumCh h.setNumCh))

theorem Steady.keepLoop {loop n} (h : Steady loop gate s₀ s) : Steady loop gate s₀ (s.keepLoop n) := .frame h rfl

theorem Steady.sensorStep {n} (h : Steady false gate s₀ s) : Steady false gate s₀ (s.sensorStep n) := h.modLoop

theorem Steady.stepEstimator {n m} (h : Steady false gate s₀ s) : Steady false gate s₀ (s.stepEstimator n m) :=
  .ite h.modLoop (.ite (.ite h.modLoop (.ite h.modLoop h.modLoop)) h)

theorem Steady.countFE {loop n err} (h : Steady loop gate s₀ s) : Steady loop gate s₀ (s.countFE n err) := by
  unfold State.countFE
  split
  · exact h
  · exact .ite h.putCh h.putCh

theorem Steady.storeLaw {n o} (h : Steady false gate s₀ s) : Steady false gate s₀ (s.storeLaw n o) :=
  .ite (.putCh (.putCh h.modLoop.putCh)) (.putCh h.modLoop.putCh)

theorem Steady.settleEnd {n e} (h : Steady false gate s₀ s) : Steady false gate s₀ (s.settleEnd n e) := .ite h.modLoop.modLoop h.modLoop

theorem Steady.wedgeLaw {n m} (h : Steady false gate s₀ s) : Steady false gate s₀ (s.wedgeLaw n m) := by
  unfold State.wedgeLaw
  extract_lets _ _ _ s1
  have h1 : Steady false gate s₀ s1 := h.storeLaw.countFE
  refine .ite (.ite h1.settleEnd h1) (.ite ?_ (.ite h.modLoop (.ite h.storeLaw.modLoop h.modLoop)))
  split
  · extract_lets s2
    have h2 : Steady false gate s₀ s2 := h.storeLaw
    have h3 (e) : Steady false gate s₀ (if m = mSeek then s2.countFE n e else s2) := .ite h2.countFE h2
    exact .ite (.ite (.modLoop (h3 _).modLoop) (.modLoop (h3 _).modLoop)) (h3 _).modLoop
  · exact h

theorem Steady.verdict {n m extra} (h : Steady false false s₀ s) : Steady false false s₀ (s.verdict n m extra) :=
  .ite (.dropGate h.modLoop.putCh) (.ite h.modLoop.putCh h.modLoop)

theorem Steady.holdWedge {loop n} (h : Steady loop gate s₀ s) : Steady loop gate s₀ (s.holdWedge n) :=
  .ite (.ite (.putCh h.modHold.putCh) h.modHold.putCh) h.putCh

theorem Steady.shadowWedge {n} (h : Steady false gate s₀ s) : Steady false gate s₀ (s.shadowWedge n) := .ite h h.modLoop

theorem Steady.showInteg {loop n} (h : Steady loop gate s₀ s) : Steady loop gate s₀ (s.showInteg n) := .setNumCh h.setNumCh

theorem Steady.loopWedge {n} (h : Steady false false s₀ s) : Steady false false s₀ (s.loopWedge n) := by
  unfold State.loopWedge
  extract_lets _ s1 s2 s3 s4
  have h1 : Steady false false s₀ s1 := h.holdGains
  have h3 : Steady false false s₀ s3 := h1.keepLoop.sensorStep.stepEstimator.modLoop
  have h4 : Steady false false s₀ s4 := .ite h3.holdWedge.shadowWedge h3.wedgeLaw
  exact .ite h1.verdict h4.showInteg.verdict

/-! ### The statistics counters (R69) -/

/-- Counting a wedge's misses writes only DEMOD's counters. -/
theorem Steady.demodCount {loop n j} (h : Steady loop gate s₀ s) (hj : j < 7) : Steady loop gate s₀ (s.demodCount n j) :=
  have hc (x : Nat) : Steady loop gate s₀ (s.setNum (DEMOD_CNT n j) x) := h.setNum (steadyReg_demodCount ⟨by omega, by omega⟩)
  .ite ((hc _).wr (steadyReg_demodCount (by decide))) (hc _)

theorem steadyReg_demod {n o : Nat} (hn : n < 4) (ho : o < 0x40 ∨ 0x60 ≤ o ∧ o < 0x1000000) : steadyReg gate (chReg n 8 o) = true := by
  have hd : addrDie (chReg n 8 o) = n + 1 := by
    simp only [addrDie, chReg]
    omega
  have h : isTimingReg (chReg n 8 o) = true := by
    rw [isTimingReg, decide_eq_true_eq, hd, addrUnit_chReg n 8 o (by decide) (by omega), addrOff_chReg n 8 o (by omega)]
    exact .inl ⟨by omega, by omega, .inr ⟨rfl, by omega⟩⟩
  rw [steadyReg, h, Bool.true_or]

/-! ### The position of a wedge (R111-R116) -/

/-- The track ID of the wedge, where it was found and decoded (R111). -/
def wedgeId (n : Nat) (g : ServoSig) (s : State) : Option Nat :=
  if (s.demodOf n).found then trackId g.amp g.gray (s.get (ID_CFG_MARGIN n)) else none

/-- The twelve pairs of the wedge are good (R114). -/
def wedgePairsOk (n : Nat) (g : ServoSig) (s : State) : Bool :=
  chevOk (g.pairs.map (pairTime (s.demodOf n).cells)) (s.servoBit n) (clampI 2 16 (s.get (CHEV_CFG_WINDOW n))).toNat
    (s.get (CHEV_CFG_SP_TOL n)) && chevAmp g.amp (s.get (CHEV_CFG_AMIN n)) g.pairs

/-- u of the wedge (R115). -/
def wedgeU (n : Nat) (g : ServoSig) (s : State) : Rat :=
  chevU (chevA (g.pairs.map (pairTime (s.demodOf n).cells))) (chevB (g.pairs.map (pairTime (s.demodOf n).cells)))

/-- X of the wedge for its reference track (R116). -/
def wedgeX (n : Nat) (g : ServoSig) (s : State) : Rat := nearestX (wedgeU n g s) ((refTrack (s.demodOf n) (wedgeId n g s)).getD 0)

/-- POS is valid (R114-R116, R122). -/
def wedgeValid (n : Nat) (g : ServoSig) (s : State) : Bool :=
  wedgePairsOk n g s && decide (absQ (wedgeU n g s) ≤ mkRat 7 4) && (refTrack (s.demodOf n) (wedgeId n g s)).isSome &&
    decide (absQ (wedgeX n g s - mkRat ((refTrack (s.demodOf n) (wedgeId n g s)).getD 0) 1) ≤ 1) && s.flag (TDC_STAT_LOCK n)

/-- What DEMOD holds of a wedge once it is published: the validity, and where POS is valid X and the last two valid positions. -/
structure Published (n : Nat) (g : ServoSig) (s : State) (d : Demod) : Prop where
  posValid : d.posValid = wedgeValid n g s
  pesValid : wedgeValid n g s = false → d.pesValid = false
  gate : d.gate = (s.demodOf n).gate
  pos : wedgeValid n g s = true → d.pos = rnd (wedgeX n g s * 0x100000000)
  pos1 : wedgeValid n g s = true → d.pos1 = some ⟨d.pos, (s.demodOf n).wedges⟩
  pos0 : wedgeValid n g s = true → d.pos0 = (s.demodOf n).pos1

theorem State.setNum_demodOf (s : State) (a x m : Nat) : (s.setNum a x).demodOf m = s.demodOf m := rfl

theorem setPosition_demodOf (s : State) (lo hi : Nat) (x : Int) (m : Nat) : (s.setPosition lo hi x).demodOf m = s.demodOf m := by
  unfold State.setPosition
  split
  · split
    next a s1 e =>
    have e1 : s1 = (s.draw 2).2 := congrArg Prod.snd e.symm
    rw [State.setNum_demodOf, State.setNum_demodOf, e1]
    rfl
  · rw [State.setNum_demodOf, State.setNum_demodOf]

theorem setPairs_demodOf (s : State) (n : Nat) (t : List Rat) (m : Nat) : (s.setPairs n t).demodOf m = s.demodOf m := by
  have hfold : ∀ (l : List Nat) (s : State),
      (l.foldl (fun s i => s.setNum (PAIR n i) (rnd (t.getD i 0)).toNat) s).demodOf m = s.demodOf m := by
    intro l
    induction l with
    | nil => exact fun _ => rfl
    | cons i l ih => exact fun s => (ih _).trans (State.setNum_demodOf s _ _ m)
  unfold State.setPairs
  split
  · rw [State.setNum_demodOf, State.setNum_demodOf, hfold]
  · rfl

theorem put3_demodOf (s : State) (f g h : Fld) (x y z m : Nat) : (((s.put f x).put g y).put h z).demodOf m = s.demodOf m := rfl

theorem publish_published (hn : n < 4) (g : ServoSig) (s : State) : Published n g s ((publish n g s).demodOf n) := by
  unfold publish
  extract_lets d id s1 t ok a b u lock nref x valid pos s2 near cache rro usable
  have h1 : Steady true true s s1 := .ite (Steady.demodCount (.refl s) (by decide)) (.refl s)
  have hok : ok = wedgePairsOk n g s := by
    simp only [ok, wedgePairsOk, h1.servoBit]
    rw [h1.get (f := CHEV_CFG_WINDOW n) (steadyReg_demod hn (by decide)), h1.get (f := CHEV_CFG_SP_TOL n) (steadyReg_demod hn (by decide)),
      h1.get (f := CHEV_CFG_AMIN n) (steadyReg_demod hn (by decide))]
  have hlock : lock = s.flag (TDC_STAT_LOCK n) := h1.flag (f := TDC_STAT_LOCK n) (steadyReg_demod hn (by decide))
  have hvalid : valid = wedgeValid n g s := by
    simp only [valid, hok, hlock]
    rfl
  have h2 : Steady true true s s2 := .ite h1 (h1.demodCount (by decide))
  clear_value ok lock valid s2
  subst hvalid
  split
  next code src miss cache' _ =>
  extract_lets s3 pitch tgt raw pes pesValid s4 s5 s6 s7 s8 s9
  have h3 : Steady true true s s3 := .ite (h2.demodCount (by decide)) h2
  have h4 : s4.demodOf n = _ := State.demodOf_modDemod hn
  have h5 : s5.demodOf n = s4.demodOf n := (setPosition_demodOf _ _ _ _ n).trans (setPosition_demodOf _ _ _ _ n)
  have h6 : s6.demodOf n = s5.demodOf n :=
    (setPairs_demodOf _ n t n).trans ((State.setNum_demodOf _ _ _ n).trans (State.setNum_demodOf _ _ _ n))
  have h7 : s7.demodOf n = s6.demodOf n := put3_demodOf ..
  have h8 : s8.demodOf n = s7.demodOf n := put3_demodOf ..
  have h9 : s9.demodOf n = s8.demodOf n := put3_demodOf ..
  have hpes (h : wedgeValid n g s = false) : pesValid = false := by simp only [pesValid, h, Bool.false_and]
  have hpos (h : wedgeValid n g s = true) : pos = rnd (wedgeX n g s * 0x100000000) := if_pos h
  clear_value s9 s8 s7 s6 s5 s4 pesValid pos
  rw [State.put_demodOf, State.put_demodOf, h9, h8, h7, h6, h5, h4, h3.demodOf]
  exact ⟨rfl, hpes, rfl, hpos, fun h => if_pos h, fun h => if_pos h⟩

/-! ### The PES-ready phase (R105, R125, R128) -/

/-- Telemetry changes DEMOD's count of wedges to the next record alone. -/
theorem telemetry_demodOf (hn : n < 4) (s : State) (stat rro : Nat) (amb : Int) (written : Bool) :
    ∃ k, (s.telemetry n stat rro amb written).demodOf n = { s.demodOf n with telem := k } := by
  unfold State.telemetry
  split
  · extract_lets s1 s2
    have h1 : s1.demodOf n = { s.demodOf n with telem := (s.demodOf n).telem + 1 } := State.demodOf_modDemod hn
    have h2 : s2.demodOf n = { s.demodOf n with telem := 0 } := by
      rw [State.demodOf_modDemod hn, h1]
    split
    · exact ⟨_, h1⟩
    · refine ⟨0, ?_⟩
      split
      · rw [State.setNum_demodOf, (Steady.csWrite (loop := true) (gate := true) (.refl s2)).demodOf, h2]
      · rw [(Steady.demodCount (loop := true) (gate := true) (.refl s2) (by decide)).demodOf, h2]
  · exact ⟨(s.demodOf n).telem, rfl⟩

/-- The servo gate closes at PES-ready but in search mode. -/
def State.gateAtPes (s : State) (n : Nat) : State := s.modDemod n (fun d => { d with gate := d.gate && s.flag (DEMOD_STAT_SEARCH n) })

/-- The servo reader's signal of a wedge; an empty one where there is none. -/
def State.servoSignal (s : State) (n : Nat) (signals : List ServoSig) : ServoSig := (signals[s.servoReader n]?).getD ⟨0, [], [], []⟩

theorem gateAtPes_demodOf (hn : n < 4) :
    (s.gateAtPes n).demodOf n = { s.demodOf n with gate := (s.demodOf n).gate && s.flag (DEMOD_STAT_SEARCH n) } :=
  State.demodOf_modDemod hn

theorem wedgeId_gateAtPes (hn : n < 4) (g : ServoSig) : wedgeId n g (s.gateAtPes n) = wedgeId n g s := by
  simp only [wedgeId, gateAtPes_demodOf hn]
  rfl

theorem refTrack_gateAtPes (hn : n < 4) (id : Option Nat) : refTrack ((s.gateAtPes n).demodOf n) id = refTrack (s.demodOf n) id := by
  rw [gateAtPes_demodOf hn]
  rfl

theorem wedgeU_gateAtPes (hn : n < 4) (g : ServoSig) : wedgeU n g (s.gateAtPes n) = wedgeU n g s := by
  simp only [wedgeU, gateAtPes_demodOf hn]

theorem wedgeX_gateAtPes (hn : n < 4) (g : ServoSig) : wedgeX n g (s.gateAtPes n) = wedgeX n g s := by
  simp only [wedgeX, wedgeU_gateAtPes hn, refTrack_gateAtPes hn, wedgeId_gateAtPes hn]

theorem servoBit_gateAtPes (hn : n < 4) : (s.gateAtPes n).servoBit n = s.servoBit n := by
  simp only [State.servoBit, State.periodOf, gateAtPes_demodOf hn]
  rfl

theorem wedgePairsOk_gateAtPes (hn : n < 4) (g : ServoSig) : wedgePairsOk n g (s.gateAtPes n) = wedgePairsOk n g s := by
  simp only [wedgePairsOk, gateAtPes_demodOf hn, servoBit_gateAtPes hn]
  rfl

theorem wedgeValid_gateAtPes (hn : n < 4) (g : ServoSig) : wedgeValid n g (s.gateAtPes n) = wedgeValid n g s := by
  simp only [wedgeValid, wedgePairsOk_gateAtPes hn, wedgeU_gateAtPes hn, wedgeX_gateAtPes hn, refTrack_gateAtPes hn, wedgeId_gateAtPes hn]
  rfl

/-- With EN 1 DEMOD keeps of the wedge what it published; what follows only counts telemetry and lets the wedge take a mark again. -/
theorem pesReady_demodOf (hn : n < 4) (he : s.flag (DEMOD_CTL_EN n) = true) (signals : List ServoSig) (telem : Bool) : ∃ k,
    (pesReady n signals telem s).demodOf n =
      { (publish n (s.servoSignal n signals) (s.gateAtPes n)).demodOf n with telem := k, taken := false } := by
  have he' : (s.gateAtPes n).flag (DEMOD_CTL_EN n) = true := he
  unfold pesReady
  extract_lets s1 p q r
  have hr : r = q.loopWedge n := if_pos he'
  obtain ⟨k, hk⟩ := telemetry_demodOf hn p (p.num (DEMOD_STAT n)) (p.num (RRO n)) (sx 32 (p.num (AMB n))) telem
  refine ⟨k, ?_⟩
  rw [State.demodOf_modDemod hn, hr, (Steady.loopWedge (.refl q)).demodOf, hk]
  rfl

theorem pesReady_of_disabled (hn : n < 4) (he : s.flag (DEMOD_CTL_EN n) = false) (signals : List ServoSig) (telem : Bool) :
    (pesReady n signals telem s).bank = s.bank ∧ ((pesReady n signals telem s).demodOf n).taken = false := by
  have he' : ¬ (s.gateAtPes n).flag (DEMOD_CTL_EN n) = true := by
    rw [Bool.not_eq_true]
    exact he
  have e : pesReady n signals telem s = (s.gateAtPes n).modDemod n (fun d => { d with taken := false }) :=
    congrArg (State.modDemod · n (fun d => { d with taken := false })) (if_neg he')
  rw [e, State.demodOf_modDemod hn]
  exact ⟨rfl, rfl⟩

/-- With the TDC out of lock nothing of the wedge is valid. -/
theorem pesReady_of_unlocked (hn : n < 4) (he : s.flag (DEMOD_CTL_EN n) = true) (hl : s.flag (TDC_STAT_LOCK n) = false)
    (signals : List ServoSig) (telem : Bool) :
    ((pesReady n signals telem s).demodOf n).posValid = false ∧ ((pesReady n signals telem s).demodOf n).pesValid = false ∧
      (s.flag (DEMOD_STAT_SEARCH n) = false → ((pesReady n signals telem s).demodOf n).gate = false) := by
  obtain ⟨k, hk⟩ := pesReady_demodOf hn he signals telem
  have hp := publish_published hn (s.servoSignal n signals) (s.gateAtPes n)
  have hv : wedgeValid n (s.servoSignal n signals) (s.gateAtPes n) = false := by
    rw [wedgeValid_gateAtPes hn, wedgeValid, hl, Bool.and_false]
  rw [hk]
  refine ⟨hp.posValid.trans hv, hp.pesValid hv, fun hs => hp.gate.trans ?_⟩
  rw [gateAtPes_demodOf hn]
  dsimp only
  rw [hs, Bool.and_false]

/-- A wedge with twelve good pairs, a reference track and the TDC in lock has a valid position. -/
theorem pesReady_of_valid (hn : n < 4) (he : s.flag (DEMOD_CTL_EN n) = true) {signals : List ServoSig} {g : ServoSig}
    (hg : signals[s.servoReader n]? = some g) (hv : wedgeValid n g s = true) (telem : Bool) :
    ((pesReady n signals telem s).demodOf n).posValid = true ∧
      ((pesReady n signals telem s).demodOf n).pos = rnd (wedgeX n g s * 0x100000000) ∧
      ((pesReady n signals telem s).demodOf n).pos1 = some ⟨((pesReady n signals telem s).demodOf n).pos, (s.demodOf n).wedges⟩ ∧
      ((pesReady n signals telem s).demodOf n).pos0 = (s.demodOf n).pos1 ∧
      ((pesReady n signals telem s).demodOf n).taken = false := by
  obtain ⟨k, hk⟩ := pesReady_demodOf hn he signals telem
  have hsig : s.servoSignal n signals = g := by rw [State.servoSignal, hg, Option.getD_some]
  rw [hsig] at hk
  have hp := publish_published hn g (s.gateAtPes n)
  have hv' : wedgeValid n g (s.gateAtPes n) = true := (wedgeValid_gateAtPes hn g).trans hv
  have hpos := hp.pos hv'
  have hpos1 := hp.pos1 hv'
  have hpos0 := hp.pos0 hv'
  rw [wedgeX_gateAtPes hn] at hpos
  rw [gateAtPes_demodOf hn] at hpos1 hpos0
  rw [hk]
  exact ⟨hp.posValid.trans hv', hpos, hpos1, hpos0, rfl⟩

theorem wedgeValid_of_good {g : ServoSig} {nref : Int} (hl : s.flag (TDC_STAT_LOCK n) = true) (hok : wedgePairsOk n g s = true)
    (hr : refTrack (s.demodOf n) (wedgeId n g s) = some nref) (hu : absQ (wedgeU n g s) ≤ mkRat 7 4)
    (hx : absQ (nearestX (wedgeU n g s) nref - mkRat nref 1) ≤ 1) :
    wedgeX n g s = nearestX (wedgeU n g s) nref ∧ wedgeValid n g s = true := by
  have e : wedgeX n g s = nearestX (wedgeU n g s) nref := by rw [wedgeX, hr, Option.getD_some]
  refine ⟨e, ?_⟩
  rw [wedgeValid, hok, decide_eq_true hu, hr, e, Option.getD_some, decide_eq_true hx, hl]
  rfl

end

end Sys2Proof.Machine

namespace Sys2Proof.Machine

/-! ## The result registers, the TDC and the counters (R69, R121, R122, R128) -/

section
variable {s : State} {n : Nat}

/-! ### The captured results (R128) -/

/-- The registers shown by a view of their own stand in the HUB and the KPR. -/
theorem view_of_channelDie {a : Nat} (s : State) (h : 1 ≤ addrDie a ∧ addrDie a ≤ 4) : s.view a = none := by
  simp only [addrDie] at h
  unfold State.view
  repeat rw [if_neg (by
      simp only [addrDie, TAG_CNT0, TAG_CNT1, WRT_FREE, PROT_USED, PLP_STAT, NVME_STAT, QP_POOL, CTRL_STAT, LADDER_STAT, ALOG_STAT,
        UART_STAT, DBG_CHAL, hubReg, kprReg]
      omega)]

/-- A captured register without write-only bits reads its captured value. -/
theorem readView_of_captured {a : Nat} (hp : pendWord a = none) (hv : s.view a = none) (hc : isCaptured a = true)
    (hw : (regAt a).map RegDesc.wo = some 0) : s.readView a = fetch (resetOf a) s.latch a := by
  obtain ⟨d, hd, hd0⟩ := Option.map_eq_some_iff.mp hw
  simp only [State.readView, hp, hv, hd, hc, hd0]
  exact BitVec.and_allOnes

/-- What a read of DEMOD_STAT captures: registers of the channel die with no pending set, captured, with no write-only bit. -/
theorem capturesOf_demodStat_regs : ∀ ch : Ch, ∀ a ∈ capturesOf (DEMOD_STAT ch),
    pendWord a = none ∧ (1 ≤ addrDie a ∧ addrDie a ≤ 4) ∧ isCaptured a = true ∧ (regAt a).map RegDesc.wo = some 0 := by
  decide +kernel

theorem capturesOf_demodStat (ch : Ch) :
    capturesOf (DEMOD_STAT ch) = [POS_LO ch, POS_HI ch, PES ch, DEMOD_TARGET_LO ch, DEMOD_TARGET_HI ch, RRO ch] := by
  revert ch
  decide +kernel

/-- A read of DEMOD_STAT captures each result. -/
theorem demodStatRead_captures (h : s.Wf) {ch : Ch} {a : Nat} (ha : a ∈ capturesOf (DEMOD_STAT ch)) :
    (demodStatRead ch s).readView a = s.rd a := by
  obtain ⟨hp, hd, hc, hw⟩ := capturesOf_demodStat_regs ch a ha
  rw [readView_of_captured hp (view_of_channelDie _ hd) hc hw, demodStatRead, State.answer_latch, capture_latch h ha]

theorem demodStatRead_bank (n : Nat) (s : State) : (demodStatRead n s).bank = s.bank := by
  rw [demodStatRead, State.answer_bank, capture_bank]

theorem answer_readView {a : Nat} (s : State) (r : Resp) (h : 1 ≤ addrDie a ∧ addrDie a ≤ 4) : (s.answer r).readView a = s.readView a := by
  simp only [State.readView, view_of_channelDie _ h, State.answer_latch, State.answer_rd, State.answer_pend]

theorem addrDie_demodStat : ∀ ch : Ch, 1 ≤ addrDie (DEMOD_STAT ch) ∧ addrDie (DEMOD_STAT ch) ≤ 4 := by decide

/-- A read of DEMOD_STAT answers it. -/
theorem demodStatRead_resp (ch : Ch) (s : State) : (demodStatRead ch (s.answer .done)).resp = .data (s.readView (DEMOD_STAT ch)).toNat := by
  rw [demodStatRead, State.answer_resp, answer_readView s .done (addrDie_demodStat ch)]

/-! ### The TDC (R121, R122) -/

theorem tdcControl_lt (s : State) (n : Nat) : s.get (TDC_STAT_CTRL n) < 2 ^ 16 := Nat.mod_lt _ (Nat.two_pow_pos 16)

theorem toBits_tdcControl (s : State) (n : Nat) : toBits 16 (s.get (TDC_STAT_CTRL n) : Int) = s.get (TDC_STAT_CTRL n) := by
  have hlt := tdcControl_lt s n
  simp only [toBits]
  omega

/-- The correction of R121. -/
def tcCorr (n : Nat) (s : State) : Int := sx 16 (s.num (TDC_TC n)) * (s.dieTemp (n + 1) - (s.demodOf n).calTemp)

/-- The control with the code of the old correction replaced by the new one's. -/
def tcControl (n : Nat) (s : State) : Nat :=
  toBits 16 ((s.get (TDC_STAT_CTRL n) : Int) - dllCode (s.demodOf n).corr + dllCode (tcCorr n s))

theorem tdcTcUpdate_of_broken (h : s.diodeBroken (n + 1) = true) : tdcTcUpdate n s = s := if_pos h

theorem tdcTcUpdate_of_sound (h : s.diodeBroken (n + 1) = false) :
    tdcTcUpdate n s = (s.put (TDC_STAT_CTRL n) (tcControl n s)).modDemod n (fun d => { d with corr := tcCorr n s }) :=
  if_neg (by rw [h]; exact Bool.false_ne_true)

/-- Without a correction the control is what it was. -/
theorem tcControl_of_no_correction (h0 : (s.demodOf n).corr = 0) (h1 : tcCorr n s = 0) : tcControl n s = s.get (TDC_STAT_CTRL n) := by
  have hz : dllCode 0 = 0 := rfl
  rw [tcControl, h0, h1, hz, Int.sub_zero, Int.add_zero, toBits_tdcControl]

theorem State.modDemod_rd (s : State) (m : Nat) (f : Demod → Demod) (a : Nat) : (s.modDemod m f).rd a = s.rd a := rfl

theorem tdcTcUpdate_corr (hn : n < 4) (h : s.diodeBroken (n + 1) = false) : ((tdcTcUpdate n s).demodOf n).corr = tcCorr n s := by
  rw [tdcTcUpdate_of_sound h, State.demodOf_modDemod hn]

theorem tdcTcUpdate_rd_other {a : Nat} (h : s.diodeBroken (n + 1) = false) (ha : a ≠ TDC_STAT n) : (tdcTcUpdate n s).rd a = s.rd a := by
  rw [tdcTcUpdate_of_sound h, State.modDemod_rd]
  exact State.rd_wr_other s _ ha

theorem tdcTcUpdate_control (hw : s.Wf) (h : s.diodeBroken (n + 1) = false) :
    (tdcTcUpdate n s).get (TDC_STAT_CTRL n) = tcControl n s := by
  have hfits : (TDC_STAT_CTRL n).fits = true := rfl
  have hlt : tcControl n s < 2 ^ 16 := toBits_lt 16 _
  rw [tdcTcUpdate_of_sound h, State.get, State.modDemod_rd]
  exact State.get_put_same hw (of_decide_eq_true hfits) hlt

/-- A fault bit of a register set, with no record. -/
def State.withBit (s : State) (a k : Nat) : State :=
  if bitOf (s.num a) k then s else s.wr a (BitVec.ofNat 32 (setBitN (s.num a) k))

theorem Steady.withoutGate {loop gate : Bool} {t : State} (h : Steady loop gate s t) : Steady loop false s t :=
  ⟨h.img, h.demod, h.fatal, h.loop, fun a ha => h.regs a (by
    rw [steadyReg, Bool.false_and, Bool.or_false] at ha
    rw [steadyReg, ha, Bool.true_or])⟩

/-- A Corrected fault bit is set; its record changes nothing that is steady. -/
theorem Steady.noteBit (s : State) (a k : Nat) : Steady true true (s.withBit a k) (s.noteBit ⟨a, none, none⟩ k) := by
  by_cases hb : bitOf (s.num a) k = true
  · have e : s.noteBit ⟨a, none, none⟩ k = s := if_pos hb
    rw [e, State.withBit, if_pos hb]
    exact .refl s
  · have e : s.noteBit ⟨a, none, none⟩ k = (s.wr a (BitVec.ofNat 32 (setBitN (s.num a) k))).log
        (faultRecord a (BitVec.ofNat 32 (setBitN (s.num a) k)) k sevNote clsCorrected noInst 0) := if_neg hb
    rw [e, State.withBit, if_neg hb]
    exact .log (.refl _)

theorem setBitN_unlock_lt {x : Nat} (hx : x < 2 ^ 32) : setBitN x 30 < 2 ^ 32 := by
  simp only [setBitN, bitOf, decide_eq_true_eq]
  split <;> omega

theorem withBit_num_unlock (h : s.Wf) (a : Nat) : (s.withBit a 30).num a = setBitN (s.num a) 30 := by
  unfold State.withBit
  split
  next hb => rw [setBitN, if_pos hb]
  next => exact State.num_setNum_self h (setBitN_unlock_lt (s.rd a).isLt)

theorem State.withBit_flag_other (s : State) {a k : Nat} {f : Fld} (h : f.addr ≠ a) : (s.withBit a k).flag f = s.flag f := by
  unfold State.withBit
  split
  · rfl
  · exact State.flag_setNum_other s h

/-- UNLOCK leaves LOCK as it is. -/
theorem withBit_lock (h : s.Wf) : (s.withBit (TDC_STAT n) 30).flag (TDC_STAT_LOCK n) = s.flag (TDC_STAT_LOCK n) := by
  have hx : s.num (TDC_STAT n) < 2 ^ 32 := (s.rd _).isLt
  have e : bitsOf (setBitN (s.num (TDC_STAT n)) 30) 31 31 = bitsOf (s.num (TDC_STAT n)) 31 31 := by
    simp only [bitsOf, setBitN, bitOf, decide_eq_true_eq]
    split <;> omega
  have hn := withBit_num_unlock h (TDC_STAT n)
  rw [← hn] at e
  exact congrArg (fun x => decide (x = 1)) e

/-- The validity bits TDC_UNLOCK clears. -/
def State.tdcInvalid (n : Nat) (s : State) : State :=
  (((s.put (TDC_STAT_LOCK n) 0).put (DEMOD_STAT_TDC_LOCK n) 0).put (DEMOD_STAT_POS_VALID n) 0).put (DEMOD_STAT_PES_VALID n) 0

theorem tdcUnlock_eq (n : Nat) (s : State) :
    tdcUnlock n s = (((((s.tdcInvalid n).noteBit ⟨TDC_STAT n, none, none⟩ 30).demodCount n 5).raise (chEvent n 17)).dropGate n) := rfl

theorem Evolves.tdcInvalid {s₀ : State} (h : Evolves s₀ s) : Evolves s₀ (s.tdcInvalid n) := h.put.put.put.put

theorem Steady.tdcUnlock (n : Nat) (s : State) : Steady true false ((s.tdcInvalid n).withBit (TDC_STAT n) 30) (tdcUnlock n s) :=
  have h := (Steady.noteBit (s.tdcInvalid n) (TDC_STAT n) 30).withoutGate
  tdcUnlock_eq n s ▸ (h.demodCount (by decide)).raise.dropGate

theorem tdcStat_ne_demodStat (n : Nat) : TDC_STAT n ≠ DEMOD_STAT n := by
  simp only [TDC_STAT, DEMOD_STAT, chReg]
  omega

theorem tdcInvalid_lock (h : s.Wf) : (s.tdcInvalid n).flag (TDC_STAT_LOCK n) = false := by
  have hne : (TDC_STAT_LOCK n).addr ≠ DEMOD_STAT n := tdcStat_ne_demodStat n
  unfold State.tdcInvalid
  rw [State.flag_put_other _ _ hne, State.flag_put_other _ _ hne, State.flag_put_other _ _ hne]
  exact State.flag_put_zero h rfl

theorem tdcInvalid_valid (h : s.Wf) :
    (s.tdcInvalid n).flag (DEMOD_STAT_POS_VALID n) = false ∧ (s.tdcInvalid n).flag (DEMOD_STAT_PES_VALID n) = false := by
  have h2 := (h.put (TDC_STAT_LOCK n) 0).put (DEMOD_STAT_TDC_LOCK n) 0
  have h3 := h2.put (DEMOD_STAT_POS_VALID n) 0
  refine ⟨?_, State.flag_put_zero h3 rfl⟩
  exact (State.flag_put_apart h3 (DEMOD_STAT_PES_VALID n) (DEMOD_STAT_POS_VALID n) rfl rfl).trans (State.flag_put_zero h2 rfl)

theorem tdcUnlock_clears (h : s.Wf) (hn : n < 4) :
    (tdcUnlock n s).flag (TDC_STAT_LOCK n) = false ∧ bitOf ((tdcUnlock n s).num (TDC_STAT n)) 30 = true ∧
      (tdcUnlock n s).flag (DEMOD_STAT_POS_VALID n) = false ∧ (tdcUnlock n s).flag (DEMOD_STAT_PES_VALID n) = false := by
  have hi : (s.tdcInvalid n).Wf := (Evolves.tdcInvalid (.refl s)).wf h
  have hs := Steady.tdcUnlock n s
  have htdc : steadyReg false (TDC_STAT n) = true := steadyReg_demod hn (by decide)
  have hdem : steadyReg false (DEMOD_STAT n) = true := steadyReg_demod hn (by decide)
  obtain ⟨hpos, hpes⟩ := tdcInvalid_valid (n := n) h
  refine ⟨?lock, ?unlock, ?pos, ?pes⟩
  case lock => rw [hs.flag htdc, withBit_lock hi, tdcInvalid_lock h]
  case unlock =>
    have e : (tdcUnlock n s).num (TDC_STAT n) = ((s.tdcInvalid n).withBit (TDC_STAT n) 30).num (TDC_STAT n) :=
      congrArg BitVec.toNat (hs.regs _ htdc)
    rw [e, withBit_num_unlock hi, bitOf_setBitN_self]
  case pos => rw [hs.flag hdem, State.withBit_flag_other _ (tdcStat_ne_demodStat n).symm, hpos]
  case pes => rw [hs.flag hdem, State.withBit_flag_other _ (tdcStat_ne_demodStat n).symm, hpes]

theorem tdcUnlock_gate (h : s.Wf) (n : Nat) : (tdcUnlock n s).flag (WR_STAT_GATE n) = false :=
  dropGate_gate ((Evolves.tdcInvalid (.refl s)).noteBit.demodCount.raise.wf h) n

theorem tdcRelock_lock (h : s.Wf) (n : Nat) : (tdcRelock n s).flag (TDC_STAT_LOCK n) = true := by
  have hne : (TDC_STAT_LOCK n).addr ≠ DEMOD_STAT n := tdcStat_ne_demodStat n
  exact (State.flag_put_other _ _ hne).trans (State.flag_put_one h rfl)

/-! ### CNT_CLR (R69) -/

/-- One counter of CNT_CLR. -/
def State.clearCount (n : Nat) (v : Word) (s : State) (j : Nat) : State := if bitOf v.toNat j then s.setNum (DEMOD_CNT n j) 0 else s

theorem demodCntClr_eq (n : Nat) (v : Word) (s : State) : demodCntClr n v s = (List.range 7).foldl (State.clearCount n v) s := rfl

theorem State.Wf.clearCount (h : s.Wf) (n : Nat) (v : Word) (j : Nat) : (s.clearCount n v j).Wf := by
  unfold State.clearCount
  split
  · exact h.setNum _ _
  · exact h

theorem clearCount_num_other {a j : Nat} (s : State) (v : Word) (ha : a ≠ DEMOD_CNT n j) : (s.clearCount n v j).num a = s.num a := by
  unfold State.clearCount
  split
  · exact State.num_setNum_other s 0 ha
  · rfl

theorem clearCount_num_self {v : Word} {j : Nat} (h : s.Wf) (hv : bitOf v.toNat j = true) : (s.clearCount n v j).num (DEMOD_CNT n j) = 0 := by
  rw [State.clearCount, if_pos hv, State.num_setNum_self h (by decide)]

/-- A counter that is 0 stays so. -/
theorem clearCount_keeps_zero {i : Nat} (h : s.Wf) (hi : s.num (DEMOD_CNT n i) = 0) (v : Word) (j : Nat) :
    (s.clearCount n v j).num (DEMOD_CNT n i) = 0 := by
  unfold State.clearCount
  split
  · by_cases e : DEMOD_CNT n i = DEMOD_CNT n j
    · rw [e, State.num_setNum_self h (by decide)]
    · rw [State.num_setNum_other s 0 e, hi]
  · exact hi

theorem clearCount_foldl_other {a : Nat} (v : Word) (l : List Nat) (s : State) (ha : ∀ j ∈ l, a ≠ DEMOD_CNT n j) :
    (l.foldl (State.clearCount n v) s).num a = s.num a := by
  induction l generalizing s with
  | nil => rfl
  | cons j l ih =>
    obtain ⟨hj, hl⟩ := List.forall_mem_cons.mp ha
    exact (ih _ hl).trans (clearCount_num_other s v hj)

theorem clearCount_foldl_zero {i : Nat} (v : Word) (l : List Nat) (s : State) (h : s.Wf) (hi : s.num (DEMOD_CNT n i) = 0) :
    (l.foldl (State.clearCount n v) s).num (DEMOD_CNT n i) = 0 := by
  induction l generalizing s with
  | nil => exact hi
  | cons j l ih => exact ih _ (h.clearCount n v j) (clearCount_keeps_zero h hi v j)

theorem clearCount_foldl_mem {v : Word} {i : Nat} (hv : bitOf v.toNat i = true) (l : List Nat) (s : State) (h : s.Wf) (hi : i ∈ l) :
    (l.foldl (State.clearCount n v) s).num (DEMOD_CNT n i) = 0 := by
  induction l generalizing s with
  | nil => exact absurd hi List.not_mem_nil
  | cons j l ih =>
    by_cases e : i = j
    · subst e
      exact clearCount_foldl_zero v l _ (h.clearCount n v i) (clearCount_num_self h hv)
    · exact ih _ (h.clearCount n v j) ((List.mem_cons.mp hi).resolve_left e)

theorem demodCntClr_clears (h : s.Wf) {v : Word} {j : Nat} (hj : j < 7) (hv : v.getLsbD j = true) :
    (demodCntClr n v s).num (DEMOD_CNT n j) = 0 := by
  have hb : bitOf v.toNat j = true := by rw [bitOf_eq_testBit, BitVec.testBit_toNat, hv]
  rw [demodCntClr_eq]
  exact clearCount_foldl_mem hb _ s h (List.mem_range.mpr hj)

theorem demodCntClr_sat (n : Nat) (v : Word) (s : State) : (demodCntClr n v s).num (DEMOD_CNT_SAT n) = s.num (DEMOD_CNT_SAT n) := by
  refine clearCount_foldl_other v _ s fun j hj => ?_
  have hlt := List.mem_range.mp hj
  simp only [DEMOD_CNT_SAT, DEMOD_CNT, chReg]
  omega

end

/-- A command of a die that answers runs its function. -/
theorem runs_of_on {c : Instr} {s : State} {die : Nat} {f : State → State} {P : State → Prop} (he : exec c s = .next (s.access die f))
    (hd : s.dieOn die = true) (hp : P (f (s.answer .done))) : Runs c s P :=
  ⟨_, he, by rwa [access_of_on _ hd]⟩

/-- Settles O7: each clause by the lemma about its command. -/
theorem positionResultsArePublishedAndReadTogether : Obligations.Position_results_are_published_and_read_together := by
  unfold Obligations.Position_results_are_published_and_read_together
  refine ⟨?ctl, ?stat, ?unlocked, ?valid, ?disabled, ?sound, ?broken, ?unlock, ?relock, ?clear⟩
  case ctl =>
    intro s ch v _ hd
    refine runs_of_on rfl hd ?_
    rw [demodCtlWrite, State.demodOf_modDemod ch.isLt]
    exact ⟨rfl, rfl⟩
  case stat =>
    intro s ch h hd
    refine runs_of_on rfl hd ?_
    have hw : (s.answer .done).Wf := (Evolves.answer (.refl s)).wf h
    have hread {a : Nat} (ha : a ∈ [POS_LO ch, POS_HI ch, PES ch, DEMOD_TARGET_LO ch, DEMOD_TARGET_HI ch, RRO ch]) :
        (demodStatRead ch (s.answer .done)).readView a = s.rd a :=
      demodStatRead_captures hw (capturesOf_demodStat ch ▸ ha)
    exact ⟨demodStatRead_resp ch s, hread (by simp), hread (by simp), hread (by simp), hread (by simp), hread (by simp), hread (by simp), demodStatRead_bank _ _⟩
  case unlocked =>
    intro s ch signals telem _ hu he hl
    exact runs_of_up rfl hu (pesReady_of_unlocked ch.isLt he hl signals telem)
  case valid =>
    intro s ch signals telem g nref _ hu he hl hg hchev hamp hr habs hx
    have hok : wedgePairsOk ch g s = true := by rw [wedgePairsOk, hchev, hamp, Bool.and_true]
    obtain ⟨hwx, hv⟩ := wedgeValid_of_good hl hok hr habs hx
    obtain ⟨hvalid, hpos, hpos1, hpos0, htaken⟩ := pesReady_of_valid ch.isLt he hg hv telem
    rw [hwx] at hpos
    exact runs_of_up rfl hu ⟨hvalid, hpos, hpos1, hpos0, htaken⟩
  case disabled =>
    intro s ch signals telem _ hu he
    exact runs_of_up rfl hu (pesReady_of_disabled ch.isLt he signals telem)
  case sound =>
    intro s ch h hu hd
    refine runs_of_up rfl hu ?_
    refine ⟨tdcTcUpdate_corr ch.isLt hd, fun h0 h1 => ?_, fun a ha => tdcTcUpdate_rd_other hd ha⟩
    rw [tdcTcUpdate_corr ch.isLt hd] at h1
    rw [tdcTcUpdate_control h hd, tcControl_of_no_correction h0 h1]
  case broken =>
    intro s ch _ hd
    refine ⟨_, rfl, ?_⟩
    have e : s.ifCh ch (tdcTcUpdate ch) = s := by rw [State.ifCh, tdcTcUpdate_of_broken hd, ite_self]
    rw [e]
  case unlock =>
    intro s ch h hu
    obtain ⟨hlock, hbit, hpos, hpes⟩ := tdcUnlock_clears h ch.isLt
    exact runs_of_up rfl hu ⟨hlock, hbit, hpos, hpes, tdcUnlock_gate h ch⟩
  case relock =>
    intro s ch h hu
    exact runs_of_up rfl hu (tdcRelock_lock h ch)
  case clear =>
    intro s ch v j h hd hv
    refine runs_of_on rfl hd ?_
    exact ⟨demodCntClr_clears ((Evolves.answer (.refl s)).wf h) j.isLt hv, demodCntClr_sat ch v _⟩

end Sys2Proof.Machine

namespace Sys2Proof.Machine

/-! ## What a servo gate's opening and a tick leave of a wedge's mark (R105-R110) -/

section
variable {loop gate : Bool} {s₀ s : State} {n : Nat}

/-! ### The servo gate's opening (R54, R105, R251, R431) -/

theorem Steady.modLmu {f} (h : Steady loop gate s₀ s) : Steady loop gate s₀ (s.modLmu n f) := .frame h rfl

theorem Steady.modDet {f} (h : Steady loop gate s₀ s) : Steady loop gate s₀ (s.modDet n f) := .frame h rfl

theorem Steady.modAsu {f} (h : Steady loop gate s₀ s) : Steady loop gate s₀ (s.modAsu n f) := .frame h rfl

theorem Steady.faultBit {fr bit sev cls inst detail} (h : Steady loop gate s₀ s) (ha : steadyReg gate fr.addr = false)
    (hf : ∀ p ∈ fr.first, steadyReg gate p.1 = false) : Steady loop gate s₀ (s.faultBit fr bit sev cls inst detail) := by
  unfold State.faultBit
  extract_lets _ _ s1 s2 s3
  have h1 : Steady loop gate s₀ s1 := h.wr ha
  have h2 : Steady loop gate s₀ s2 := by
    unfold s2
    split
    next e => exact h1.latchFirst (hf _ e)
    · exact h1
  have h3 : Steady loop gate s₀ s3 := h2.log
  refine .ite h ?_
  split
  · exact h3.raise
  · exact h3

theorem Steady.lmFault {bit sev cls inst detail} (h : Steady loop gate s₀ s) :
    Steady loop gate s₀ (s.faultBit (Machine.lmFault n) bit sev cls inst detail) := by
  refine h.faultBit (steadyReg_chReg (by decide)) fun p hp => ?_
  cases hp
  exact steadyReg_chReg (by decide)

theorem Steady.lmServo (h : Steady loop gate s₀ s) : Steady loop gate s₀ (s.lmServo n) := .putCh (.putCh h.modLmu.putCh)

theorem Steady.lmForced (h : Steady loop gate s₀ s) : Steady loop gate s₀ (s.countSat (LM_FORCED_CNT n) (LM_STAT_FCNT_SAT n) 0 1) :=
  .ite (.wr h.setNumCh (steadyReg_chReg (by decide))) h.setNumCh

theorem Steady.lmGateOpen (h : Steady loop gate s₀ s) : Steady loop gate s₀ (s.lmGateOpen n) := by
  unfold State.lmGateOpen
  extract_lets _ s1 s2 s3
  have h3 : Steady loop gate s₀ s3 := h.modLmu.lmFault.lmForced
  refine .ite h.modLmu.putCh.lmServo ?_
  split
  · exact h
  · exact h
  · exact h.lmServo
  · exact h.lmServo
  · exact h3.raise.lmServo

theorem Steady.passRead {pos} (h : Steady loop gate s₀ s) : Steady loop gate s₀ (s.passRead n pos) := by
  unfold State.passRead
  extract_lets
  split
  · exact .ite h.modDet h
  · exact h

theorem Steady.abandonRead (h : Steady loop gate s₀ s) : Steady loop gate s₀ (s.abandonRead n) := by
  unfold State.abandonRead
  split
  · exact h
  · exact .modDet (.setNumCh (.setNumCh (.raise h.csWrite.setNumCh)))

/-- The write gate has dropped at the servo gate's opening; the read gate is still as it was. -/
def State.gateAtServo (s : State) (n : Nat) : State :=
  ((if s.flag (WR_STAT_GATE n) then
      s.modSpan n (fun g => { g with fell := some (s.windowBits n + s.get (DZ_FMT_GAP_PRE n (s.get (DET_STAT_ZONE n))) : Nat) })
    else s).put (WR_STAT_GATE n) 0).dropGate n

/-- What closes after the write gate changes neither DEMOD nor the write gate. -/
theorem Steady.afterGateAtServo (h : Steady loop gate s₀ (s.gateAtServo n)) : Steady loop gate s₀ (s.closeAtServo n) := by
  have h1 : Steady loop gate s₀ (((s.gateAtServo n).modAsu n (fun a => { a with wave := [] })).passRead n
    (((s.gateAtServo n).modAsu n (fun a => { a with wave := [] })).windowBits n)) := h.modAsu.passRead
  exact .ite h1.abandonRead.modDet h1

theorem Steady.gateAtServo (h : Steady loop false s₀ s) : Steady loop false s₀ (s.gateAtServo n) :=
  .dropGate (.put (.ite h.modSpan h) (steadyReg_wrStat n))

theorem steadyReg_writeGate (n : Nat) : steadyReg true (WR_STAT n) = true := by
  simp [steadyReg, isGateReg, WR_STAT, addrUnit_chReg, addrOff_chReg]

theorem closeAtServo_gate (h : s.Wf) (n : Nat) : (s.closeAtServo n).flag (WR_STAT_GATE n) = false := by
  have hs : Steady true true (s.gateAtServo n) (s.closeAtServo n) := .afterGateAtServo (.refl _)
  rw [hs.flag (f := WR_STAT_GATE n) (steadyReg_writeGate n)]
  exact dropGate_gate ((Evolves.put (.ite (Evolves.refl s).modSpan (.refl s))).wf h) n

theorem Steady.gateOpening (n : Nat) (s : State) : Steady true false s ((s.lmGateOpen n).closeAtServo n) :=
  .afterGateAtServo (Steady.refl s).lmGateOpen.gateAtServo

theorem servoGateOpen_opens (h : s.Wf) (hn : n < 4) :
    ((servoGateOpen n s).demodOf n).gate = true ∧ ((servoGateOpen n s).demodOf n).taken = false ∧
      (servoGateOpen n s).flag (WR_STAT_GATE n) = false := by
  unfold servoGateOpen
  rw [(Steady.gateOpening n (s.modDemod n _)).demodOf, State.demodOf_modDemod hn]
  exact ⟨rfl, rfl, closeAtServo_gate ((Evolves.refl s).modDemod.lmGateOpen.wf h) n⟩

/-! ### Loss of the wedges and the end of search mode (R108, R110) -/

theorem demodLoss_of_misses (he : s.flag (DEMOD_CTL_EN n) = true) (hl : s.flag (DEMOD_STAT_LOSS n) = false)
    (hm : max 1 (s.get (DEMOD_XCTL_LOSS_LIM n)) ≤ s.get (DEMOD_STAT_MISS_RUN n)) :
    demodLoss n s = ((s.put (DEMOD_STAT_LOSS n) 1).raise (chEvent n 16)).enterSearch n := by
  unfold demodLoss
  rw [if_pos]
  rw [he, hl, decide_eq_true hm]
  rfl

theorem State.modDemod_flag (s : State) (m : Nat) (f : Demod → Demod) (g : Fld) : (s.modDemod m f).flag g = s.flag g := rfl

/-- Search mode begins with SEARCH set and the write gate closed; what else DEMOD_STAT shows stays. -/
theorem enterSearch_flags (h : s.Wf) (hn : n < 4) :
    (s.enterSearch n).flag (DEMOD_STAT_SEARCH n) = true ∧ (s.enterSearch n).flag (WR_STAT_GATE n) = false ∧
      (s.enterSearch n).flag (DEMOD_STAT_LOSS n) = s.flag (DEMOD_STAT_LOSS n) := by
  have hreg : steadyReg false (DEMOD_STAT n) = true := steadyReg_demod hn (by decide)
  have hs : Steady true false ((s.put (DEMOD_STAT_SEARCH n) 1).modDemod n (fun d => { d with run := 0, gate := true })) (s.enterSearch n) :=
    .dropGate (.refl _)
  refine ⟨?search, dropGate_gate ((Evolves.refl s).put.modDemod.wf h) n, ?loss⟩
  case search =>
    rw [hs.flag (f := DEMOD_STAT_SEARCH n) hreg, State.modDemod_flag]
    exact State.flag_put_one h rfl
  case loss =>
    rw [hs.flag (f := DEMOD_STAT_LOSS n) hreg, State.modDemod_flag]
    exact State.flag_put_apart h (DEMOD_STAT_SEARCH n) (DEMOD_STAT_LOSS n) rfl rfl

theorem demodLoss_flags (h : s.Wf) (hn : n < 4) (he : s.flag (DEMOD_CTL_EN n) = true) (hl : s.flag (DEMOD_STAT_LOSS n) = false)
    (hm : max 1 (s.get (DEMOD_XCTL_LOSS_LIM n)) ≤ s.get (DEMOD_STAT_MISS_RUN n)) :
    (demodLoss n s).flag (DEMOD_STAT_LOSS n) = true ∧ (demodLoss n s).flag (DEMOD_STAT_SEARCH n) = true ∧
      (demodLoss n s).flag (WR_STAT_GATE n) = false := by
  have hw : ((s.put (DEMOD_STAT_LOSS n) 1).raise (chEvent n 16)).Wf := (Evolves.refl s).put.raise.wf h
  have hr : Steady true false (s.put (DEMOD_STAT_LOSS n) 1) ((s.put (DEMOD_STAT_LOSS n) 1).raise (chEvent n 16)) := .raise (.refl _)
  obtain ⟨hsearch, hgate, hloss⟩ := enterSearch_flags hw hn
  rw [demodLoss_of_misses he hl hm, hloss, hr.flag (f := DEMOD_STAT_LOSS n) (steadyReg_demod hn (by decide))]
  exact ⟨State.flag_put_one h rfl, hsearch, hgate⟩

theorem searchExit_search (h : s.Wf) (hs : s.flag (DEMOD_STAT_SEARCH n) = true) (hr : 8 ≤ (s.demodOf n).run) :
    (searchExit n s).flag (DEMOD_STAT_SEARCH n) = false := by
  have e : searchExit n s = s.put (DEMOD_STAT_SEARCH n) 0 := if_pos (by rw [hs, decide_eq_true hr]; rfl)
  rw [e]
  exact State.flag_put_zero h rfl

/-- A set bit below the width of a word stays set in it. -/
theorem bitOf_ofNat_setBitN (w : Word) : bitOf (BitVec.ofNat 32 (setBitN w.toNat 1)).toNat 1 = true := by
  have hw := w.isLt
  have hlt : setBitN w.toNat 1 < 2 ^ 32 := by
    simp only [setBitN, bitOf, decide_eq_true_eq]
    split <;> omega
  rw [BitVec.toNat_ofNat, Nat.mod_eq_of_lt hlt, bitOf_setBitN_self]

theorem demodCtlWrite_srch (hn : n < 4) (w : Word) (s : State) :
    ((demodCtlWrite n (BitVec.ofNat 32 (setBitN w.toNat 1)) s).demodOf n).srch = true := by
  rw [demodCtlWrite, State.demodOf_modDemod hn]
  dsimp only
  rw [bitOf_ofNat_setBitN, Bool.or_true]

end

end Sys2Proof.Machine

namespace Sys2Proof.Machine

/-! ## What a tick leaves of the wedge's mark and of the count of misses (R69, R105-R110, R129, R132) -/

/-- What DEMOD holds of a wedge's mark: whether it was found and the wedge takes no further one, its tick and number, the last detected one, and the
wedges since it and in all. -/
structure WedgeMark where
  found : Bool
  taken : Bool
  tick : Nat
  wedge : Nat
  last : Option (Nat × Nat)
  since : Nat
  wedges : Nat

def Demod.mark (d : Demod) : WedgeMark := ⟨d.found, d.taken, d.tick, d.wedge, d.last, d.since, d.wedges⟩

/-- A channel die's counter of wedges without a mark (R69). -/
def isMissCount (a : Nat) : Bool := decide (a % 0x20000000 = 0x8000040 ∧ 1 ≤ a / 0x20000000 ∧ a / 0x20000000 ≤ 4)

theorem isMissCount_demodCnt (ch : Ch) : isMissCount (DEMOD_CNT ch 0) = true := by
  revert ch
  decide

theorem isMissCount_eq_false {a : Nat} :
    isMissCount a = false ↔ ¬(a % 0x20000000 = 0x8000040 ∧ 1 ≤ a / 0x20000000 ∧ a / 0x20000000 ≤ 4) := by
  rw [isMissCount, decide_eq_false_iff_not]

/-- A register of a channel die at another place than the counter's. -/
theorem isMissCount_chReg {n u o : Nat} (h : u * 0x1000000 + o < 0x20000000 ∧ u * 0x1000000 + o ≠ 0x8000040) :
    isMissCount (chReg n u o) = false := by
  rw [isMissCount_eq_false, chReg]
  omega

theorem isMissCount_calStat (u : Nat) : isMissCount (CAL_STAT (calBase u)) = false := by
  rw [isMissCount_eq_false]
  simp only [CAL_STAT, calBase, unitBase, chDEMOD, chADC, chASSIST, chReg]
  split
  · omega
  · split
    · omega
    · split <;> omega

/-- From `s` to `t` every channel die keeps the mark of its wedge and its count of misses. -/
structure MarkKept (s t : State) : Prop where
  mark : ∀ m, (t.demodOf m).mark = (s.demodOf m).mark
  misses : ∀ a, isMissCount a = true → t.rd a = s.rd a

section
variable {s₀ s t : State} {n : Nat} {α : Type}

theorem MarkKept.refl (s : State) : MarkKept s s := ⟨fun _ => rfl, fun _ _ => rfl⟩

/-- Whatever changes neither DEMOD nor a register keeps both. -/
theorem MarkKept.frame (h : MarkKept s₀ s) (e : (t.demod, t.bank) = (s.demod, s.bank)) : MarkKept s₀ t := by
  obtain ⟨hdemod, hbank⟩ := Prod.mk.inj e
  refine ⟨fun m => ?_, fun a ha => ?_⟩
  · simpa only [State.demodOf, hdemod] using h.mark m
  · simpa only [State.rd, hbank] using h.misses a ha

theorem MarkKept.num (h : MarkKept s t) (ch : Ch) : t.num (DEMOD_CNT ch 0) = s.num (DEMOD_CNT ch 0) :=
  congrArg BitVec.toNat (h.misses _ (isMissCount_demodCnt ch))

/-! ### Control -/

theorem MarkKept.ite {c : Prop} {i : Decidable c} (hs : MarkKept s₀ s) (ht : MarkKept s₀ t) : MarkKept s₀ (if c then s else t) := by
  split
  · exact hs
  · exact ht

theorem MarkKept.foldl {f : State → α → State} {l : List α} (h : MarkKept s₀ s) (hf : ∀ s, MarkKept s₀ s → ∀ a, MarkKept s₀ (f s a)) :
    MarkKept s₀ (l.foldl f s) := by
  induction l generalizing s with
  | nil => exact h
  | cons a l ih => exact ih (hf s h a)

/-! ### Writes -/

theorem MarkKept.wr {a : Nat} {v : Word} (h : MarkKept s₀ s) (ha : isMissCount a = false) : MarkKept s₀ (s.wr a v) := by
  refine ⟨h.mark, fun c hc => ?_⟩
  have hne : c ≠ a := by
    rintro rfl
    rw [ha] at hc
    cases hc
  rw [State.rd_wr_other s v hne]
  exact h.misses c hc

theorem MarkKept.put {f x} (h : MarkKept s₀ s) (ha : isMissCount f.addr = false) : MarkKept s₀ (s.put f x) := h.wr ha

theorem MarkKept.setNum {a x} (h : MarkKept s₀ s) (ha : isMissCount a = false) : MarkKept s₀ (s.setNum a x) := h.wr ha

theorem MarkKept.wrCh {u o v} (h : MarkKept s₀ s)
    (hu : u * 0x1000000 + o < 0x20000000 ∧ u * 0x1000000 + o ≠ 0x8000040 := by decide) : MarkKept s₀ (s.wr (chReg n u o) v) :=
  h.wr (isMissCount_chReg hu)

theorem MarkKept.putCh {u o hi lo x} (h : MarkKept s₀ s)
    (hu : u * 0x1000000 + o < 0x20000000 ∧ u * 0x1000000 + o ≠ 0x8000040 := by decide) : MarkKept s₀ (s.put ⟨chReg n u o, hi, lo⟩ x) :=
  h.wrCh hu

theorem MarkKept.setNumCh {u o x} (h : MarkKept s₀ s)
    (hu : u * 0x1000000 + o < 0x20000000 ∧ u * 0x1000000 + o ≠ 0x8000040 := by decide) : MarkKept s₀ (s.setNum (chReg n u o) x) :=
  h.wrCh hu

theorem MarkKept.derivedCh {u o x} (h : MarkKept s₀ s)
    (hu : u * 0x1000000 + o < 0x20000000 ∧ u * 0x1000000 + o ≠ 0x8000040 := by decide) : MarkKept s₀ (s.derivedNum (chReg n u o) x) :=
  .ite h (h.setNumCh hu)

theorem MarkKept.modDemod {f : Demod → Demod} (h : MarkKept s₀ s) (hf : ∀ d, (f d).mark = d.mark := by exact fun _ => rfl) :
    MarkKept s₀ (s.modDemod n f) := by
  refine ⟨fun m => .trans ?_ (h.mark m), h.misses⟩
  unfold State.demodOf State.modDemod atD modAt
  split
  next hm =>
    split
    next hn =>
      simp only [Vector.getElem_set]
      split
      next e =>
        subst e
        exact hf _
      next => rfl
    next => rfl
  next => rfl

theorem MarkKept.modWru {f} (h : MarkKept s₀ s) : MarkKept s₀ (s.modWru n f) := .frame h rfl

theorem MarkKept.modLmu {f} (h : MarkKept s₀ s) : MarkKept s₀ (s.modLmu n f) := .frame h rfl

theorem MarkKept.modLoop {f} (h : MarkKept s₀ s) : MarkKept s₀ (s.modLoop n f) := .frame h rfl

theorem MarkKept.modDet {f} (h : MarkKept s₀ s) : MarkKept s₀ (s.modDet n f) := .frame h rfl

theorem MarkKept.modPau {f} (h : MarkKept s₀ s) : MarkKept s₀ (s.modPau n f) := .frame h rfl

theorem MarkKept.modAsu {f} (h : MarkKept s₀ s) : MarkKept s₀ (s.modAsu n f) := .frame h rfl

theorem MarkKept.modCal {f} (h : MarkKept s₀ s) : MarkKept s₀ (s.modCal n f) := .frame h rfl

theorem MarkKept.modRef {f} (h : MarkKept s₀ s) : MarkKept s₀ (s.modRef f) := .frame h rfl

theorem MarkKept.endOverrides {p} (h : MarkKept s₀ s) : MarkKept s₀ (s.endOverrides p) := .frame h rfl

/-! ### Events and the write gate (R240, R251, R416-R418) -/

theorem MarkKept.unrouted {e} (h : MarkKept s₀ s) : MarkKept s₀ (s.unrouted e) :=
  have h2 (x : Nat) : MarkKept s₀ ((s.put EV_LAST_EVENT e).setNum EV_UNROUTED x) := (h.put rfl).setNum rfl
  .ite ((h2 _).put rfl) (h2 _)

theorem MarkKept.raise {e} (h : MarkKept s₀ s) : MarkKept s₀ (s.raise e) :=
  .ite h (.ite (.ite (.frame h rfl) (.frame h rfl)) h.unrouted)

theorem MarkKept.csWrite {a bs} (h : MarkKept s₀ s) : MarkKept s₀ (s.csWrite n a bs) := by
  unfold State.csWrite State.validate
  split
  · exact h
  · split <;> exact .frame h rfl

theorem MarkKept.countWritten {i} (h : MarkKept s₀ s) (hi : i < 4 := by decide) :
    MarkKept s₀ (s.count48 (WSECT_LO n i) (WSECT_HI n i) 1) :=
  .setNumCh (h.setNumCh (by omega)) (by omega)

theorem MarkKept.writeDone {o status} (h : MarkKept s₀ s) : MarkKept s₀ (s.writeDone n o status) := by
  unfold State.writeDone
  extract_lets _ _ _ _ s1 s2 s3 s4
  have h2 : MarkKept s₀ s2 := h.csWrite.setNumCh
  have h3 : MarkKept s₀ s3 := .ite h2.countWritten (.ite h2.countWritten (.ite h2.countWritten h2))
  have h4 : MarkKept s₀ s4 := .ite h3.countWritten h3
  exact h4.raise

theorem MarkKept.endWrite {status} (h : MarkKept s₀ s) : MarkKept s₀ (s.endWrite n status) := by
  unfold State.endWrite
  split
  · exact h
  · exact h.writeDone.modWru

theorem MarkKept.dropGate (h : MarkKept s₀ s) : MarkKept s₀ (s.dropGate n) := by
  unfold State.dropGate
  extract_lets s1 s2
  have h1 : MarkKept s₀ s1 := .ite h.modWru h
  have h2 : MarkKept s₀ s2 := .setNumCh (.putCh h1.putCh)
  split
  · exact .ite h2.endWrite h2
  · exact h2

theorem MarkKept.enterSearch (h : MarkKept s₀ s) : MarkKept s₀ (s.enterSearch n) := .dropGate (.modDemod h.putCh)

theorem MarkKept.nextWindow (h : MarkKept s₀ s) : MarkKept s₀ (s.nextWindow n) := h.modWru.modLmu

/-! ### Writes due at the tick (R129) -/

/-- The counter of misses is no register that software writes. -/
theorem demodCnt_row (a : Nat) (ha : isMissCount a = true) : (regAt a).map RegDesc.rw = some 0 := by
  have hd : ∀ ch : Ch, (regAt (DEMOD_CNT ch 0)).map RegDesc.rw = some 0 := by decide +kernel
  simp only [isMissCount, decide_eq_true_eq] at ha
  obtain ⟨hoff, h1, h4⟩ := ha
  have e : a = DEMOD_CNT (⟨a / 0x20000000 - 1, by omega⟩ : Ch) 0 := by
    simp only [DEMOD_CNT, chReg]
    omega
  rw [e]
  exact hd _

theorem MarkKept.setRW {a v} (h : MarkKept s₀ s) (hw : s.Wf) : MarkKept s₀ (s.setRW a v) := by
  by_cases ha : isMissCount a = true
  · obtain ⟨d, hd, hd0⟩ := Option.map_eq_some_iff.mp (demodCnt_row a ha)
    have hv : (s.rd a &&& ~~~(BitVec.ofNat 32 0)) ||| (v &&& BitVec.ofNat 32 0) = s.rd a := by
      rw [BitVec.and_zero, BitVec.or_zero]
      exact BitVec.and_allOnes
    have e : s.setRW a v = s.wr a (s.rd a) := by simp only [State.setRW, hd, hd0, hv]
    rw [e]
    refine ⟨h.mark, fun c hc => .trans ?_ (h.misses c hc)⟩
    by_cases hc : c = a
    · rw [hc, State.rd_wr_self hw]
    · exact State.rd_wr_other s _ hc
  · unfold State.setRW
    split
    · exact h
    · exact h.wr (Bool.not_eq_true _ ▸ ha)

theorem MarkKept.applyDue {e} (h : MarkKept s₀ s) (hw : s.Wf) : MarkKept s₀ (s.applyDue n e) :=
  have h1 : MarkKept s₀ (s.setRW e.1 e.2) := h.setRW hw
  .ite (.ite (.enterSearch (.modDemod h1.setNumCh.setNumCh)) h1) h1

theorem MarkKept.applyDues {l : List (Nat × Word)} (h : MarkKept s₀ s) (hw : s.Wf) :
    MarkKept s₀ (l.foldl (fun s e => s.applyDue n e) s) := by
  induction l generalizing s with
  | nil => exact h
  | cons e l ih => exact ih (h.applyDue hw) ((Evolves.refl s).applyDue.wf hw)

/-! ### LOOP at the tick (R132, R135, R136, R141, R145, R157, R158) -/

theorem MarkKept.setMode {m} (h : MarkKept s₀ s) : MarkKept s₀ (s.setMode n m) := .putCh (.putCh (.putCh h.putCh))

theorem MarkKept.derived {u o q} (h : MarkKept s₀ s)
    (hu : u * 0x1000000 + o < 0x20000000 ∧ u * 0x1000000 + o ≠ 0x8000040 := by decide) : MarkKept s₀ (s.derived (chReg n u o) q) :=
  .ite h (h.setNumCh hu)

theorem MarkKept.deriveGains {pitch} (h : MarkKept s₀ s) : MarkKept s₀ (s.deriveGains n pitch) := by
  unfold State.deriveGains
  extract_lets s1 _ _ _ _ _ s2 s3 s4 _ _ s5
  have h1 : MarkKept s₀ s1 := h.modLoop
  have h2 : MarkKept s₀ s2 := .ite h1 h1.derived.derived
  have h3 : MarkKept s₀ s3 := .ite h2 h2.derived
  have h4 : MarkKept s₀ s4 := .ite h3 h3.derived
  have h5 : MarkKept s₀ s5 := .ite h4 h4.derived
  exact .ite h5 h5.derived

/-- A register of LOOP's unit. -/
theorem isMissCount_loopReg {o k : Nat} (h : o + k < 0x2000) : isMissCount (chReg n 9 o + k) = false :=
  (congrArg isMissCount (Nat.add_assoc ..)).trans (isMissCount_chReg (by omega))

theorem MarkKept.setS230 {a q} (h : MarkKept s₀ s) (ha : isMissCount a = false) : MarkKept s₀ (s.setS230 a q) := .ite h (h.setNum ha)

theorem MarkKept.setBiquad {o b0 b1 b2 a1 a2} (h : MarkKept s₀ s) (ho : o + 16 < 0x2000) :
    MarkKept s₀ (s.setBiquad (chReg n 9 o) b0 b1 b2 a1 a2) := by
  have hr {k : Nat} (hk : k ≤ 16) : isMissCount (chReg n 9 o + k) = false := isMissCount_loopReg (by omega)
  exact .setS230 (.setS230 (.setS230 (.setS230 (h.setS230 (isMissCount_chReg (by omega))) (hr (by decide))) (hr (by decide))) (hr (by decide)))
    (hr (by decide))

theorem MarkKept.setUnity {o} (h : MarkKept s₀ s) (ho : o + 16 < 0x2000) : MarkKept s₀ (s.setUnity (chReg n 9 o)) := h.setBiquad ho

theorem MarkKept.deriveNotch {i} (h : MarkKept s₀ s) (hi : i < 4) : MarkKept s₀ (s.deriveNotch n i) :=
  .ite (h.setUnity (by omega)) (h.setBiquad (by omega))

theorem MarkKept.foldl_range {f : State → Nat → State} {k : Nat} (h : MarkKept s₀ s)
    (hf : ∀ s, MarkKept s₀ s → ∀ i < k, MarkKept s₀ (f s i)) : MarkKept s₀ ((List.range k).foldl f s) := by
  have hl : ∀ l : List Nat, (∀ i ∈ l, i < k) → ∀ s, MarkKept s₀ s → MarkKept s₀ (l.foldl f s) := by
    intro l
    induction l with
    | nil => exact fun _ _ h => h
    | cons i l ih => exact fun hl s h => ih (fun j hj => hl j (List.mem_cons_of_mem i hj)) _ (hf s h i (hl i List.mem_cons_self))
  exact hl _ (fun _ => List.mem_range.mp) s h

theorem MarkKept.deriveLoop (h : MarkKept s₀ s) : MarkKept s₀ (s.deriveLoop n) := by
  unfold State.deriveLoop
  extract_lets s1 s2 s3 s4 s5 s6 s7 s8
  have h3 : MarkKept s₀ s3 := .foldl_range h.modLoop.deriveGains fun _ h _ hi => h.deriveNotch hi
  have h4 : MarkKept s₀ s4 := .foldl_range h3 fun _ h _ hi => h.setUnity (by omega)
  have h5 : MarkKept s₀ s5 := .foldl_range h4 fun _ h _ hi => h.setUnity (by omega)
  have h6 : MarkKept s₀ s6 := h5.setUnity (by decide)
  exact .setNumCh (.derivedCh (.derivedCh h6.derivedCh))

theorem MarkKept.planSeek {target prof} (h : MarkKept s₀ s) : MarkKept s₀ (s.planSeek n target prof) := .modLoop (.ite h h.setNumCh)

theorem MarkKept.startUnload (h : MarkKept s₀ s) : MarkKept s₀ (s.startUnload n) :=
  have h1 := h.setMode.modLoop
  .ite h1 h1.planSeek

theorem MarkKept.presetFrom (h : MarkKept s₀ s) : MarkKept s₀ (s.presetFrom n) := h.modLoop

theorem MarkKept.go (h : MarkKept s₀ s) : MarkKept s₀ (s.go n) :=
  have h1 := h.modLoop.planSeek
  .ite (.modLoop (.setMode (.ite h1 h1.presetFrom))) h1.setMode

theorem MarkKept.updateSP (h : MarkKept s₀ s) : MarkKept s₀ (s.updateSP n) := by
  unfold State.updateSP
  split
  · exact h
  · exact h.putCh

theorem MarkKept.restoreTaps (h : MarkKept s₀ s) : MarkKept s₀ (s.restoreTaps n) :=
  .foldl_range (.foldl_range h.modDet fun _ h _ hi => .derivedCh (h.derivedCh (by omega)) (by omega))
    fun _ h _ hi => .derivedCh (h.derivedCh (by omega)) (by omega)

theorem isMissCount_wlStat (i : Nat) : isMissCount (WL_STAT i) = false := by
  rw [isMissCount_eq_false, WL_STAT, kprReg]
  omega

theorem MarkKept.wlSwitch {k} (h : MarkKept s₀ s) : MarkKept s₀ (s.wlSwitch n k) := by
  unfold State.wlSwitch
  extract_lets s1
  have h1 : MarkKept s₀ s1 := .frame h rfl
  exact .ite h1 (.put (.ite h1.modRef h1) (isMissCount_wlStat n))

theorem MarkKept.switchHead {k} (h : MarkKept s₀ s) : MarkKept s₀ (s.switchHead n k) :=
  .wlSwitch (.modAsu (.modPau (.updateSP (.restoreTaps (.modDet (.endOverrides (.modDemod h.modLoop)))))))

theorem MarkKept.selectHead (h : MarkKept s₀ s) : MarkKept s₀ (s.selectHead n) := .ite h h.switchHead

theorem MarkKept.actCmd {code keep} (h : MarkKept s₀ s) : MarkKept s₀ (s.actCmd n code keep) :=
  .ite (.ite h.selectHead.go (.ite (.modLoop (.setMode (.ite h.wrCh h))) (.ite h.selectHead.go
    (.ite h.setMode.modLoop.selectHead.modLoop.enterSearch (.ite h.startUnload h.setMode))))) h.putCh

theorem MarkKept.nextMode (h : MarkKept s₀ s) : MarkKept s₀ (s.nextMode n) := by
  unfold State.nextMode
  extract_lets s1 s2
  split
  · exact h
  · exact .ite h.modLoop.presetFrom.setMode.modLoop (.ite (.raise (.setNumCh h.modLoop.modDet.setMode)) h.modLoop)

theorem MarkKept.tickCmd (h : MarkKept s₀ s) : MarkKept s₀ (s.tickCmd n) := by
  unfold State.tickCmd
  split
  · exact h
  · exact h.modLoop.actCmd

theorem MarkKept.zoneChange (h : MarkKept s₀ s) : MarkKept s₀ (s.zoneChange n) := .ite h h.modLoop.deriveGains

theorem MarkKept.loopTick (h : MarkKept s₀ s) : MarkKept s₀ (s.loopTick n) :=
  .modLoop (.modLoop (.modPau (.tickCmd (.nextMode (.ite h.zoneChange.deriveLoop.modLoop h.zoneChange)))))

/-! ### Formats and calibrations at the tick (R55, R120, R193, R238) -/

theorem MarkKept.applyFmt {z} (h : MarkKept s₀ s) : MarkKept s₀ (s.applyFmt n z) := by
  unfold State.applyFmt
  extract_lets s1 _ _ s2 s3 s4 s5 s6 s7 s8
  have h2 : MarkKept s₀ s2 := .foldl_range h.putCh fun _ h _ hi =>
    .derivedCh (.derivedCh (h.derivedCh (by omega)) (by omega)) (by omega)
  have h6 : MarkKept s₀ s6 := .restoreTaps (.derivedCh (.derivedCh (.derivedCh (.derivedCh (.derivedCh (.derivedCh (.derivedCh
    (.derivedCh (.derivedCh h2.derivedCh)))))))))
  have h8 : MarkKept s₀ s8 := .foldl_range (.foldl_range h6 fun _ h _ hi => h.derivedCh (by omega)) fun _ h _ hi => h.derivedCh (by omega)
  exact h8.modDet.updateSP

theorem MarkKept.applyPrecomp (h : MarkKept s₀ s) : MarkKept s₀ (s.applyPrecomp n) :=
  .modWru (.foldl_range h fun _ h _ hi => h.derivedCh (by omega))

theorem MarkKept.formatTick (h : MarkKept s₀ s) : MarkKept s₀ (s.formatTick n) := by
  unfold State.formatTick
  extract_lets s1
  have h1 : MarkKept s₀ s1 := by
    unfold s1
    split
    · exact h.applyFmt
    · exact h
  exact .ite h1.applyPrecomp h1

theorem MarkKept.calBegin {u} (h : MarkKept s₀ s) : MarkKept s₀ (s.calBegin u) := (h.put (f := CAL_STAT_BUSY (calBase u)) (isMissCount_calStat u)).modCal

theorem MarkKept.calLeave {u} (h : MarkKept s₀ s) : MarkKept s₀ (s.calLeave u) := by
  unfold State.calLeave
  split
  · exact .ite (.frame h rfl) h
  · exact h

theorem MarkKept.calPause {u} (h : MarkKept s₀ s) : MarkKept s₀ (s.calPause u) :=
  .ite (.calLeave (.frame (h.put (f := CAL_STAT_BUSY (calBase u)) (isMissCount_calStat u)) rfl)) h

theorem MarkKept.applySelection {u sel cells} (h : MarkKept s₀ s) : MarkKept s₀ (applySelection u sel cells s) :=
  .ite h.modCal (.ite (.modDemod h.modCal.setNumCh.setNumCh)
    (.ite (.foldl_range h.modCal fun _ h _ hi => h.setNumCh (by omega)) h.modCal.setNumCh.setNumCh))

theorem MarkKept.calTick {die} (h : MarkKept s₀ s) : MarkKept s₀ (s.calTick die) := by
  unfold State.calTick
  extract_lets _ s1
  have h1 : MarkKept s₀ s1 := by
    refine .foldl h fun s1 h1 _ => ?_
    split
    · exact h1.modCal.applySelection
    · exact h1
  refine .foldl h1 fun s1 h1 _ => .ite h1 (.ite (.frame h1.calBegin rfl) ?_)
  split
  · exact .ite h1.calPause h1
  · exact .ite (.frame h1.calPause rfl) h1
  · exact h1

/-! ### The tick -/

/-- The tick is counted, and no write waits for it any more. -/
def State.tickCounted (s : State) (n : Nat) : State :=
  s.modDemod n (fun d => { d with due := [], srch := false, wedges := d.wedges + 1, ticked := true, usAt := s.mtime })

theorem MarkKept.tick (hw : s.Wf) : MarkKept (s.tickCounted n) (s.tick n) := by
  unfold State.tick
  extract_lets d s1 s2 s3 s4 s5
  have h2 : MarkKept (s.tickCounted n) s2 := .applyDues (.refl _) ((Evolves.refl s).modDemod.wf hw)
  have h3 : MarkKept (s.tickCounted n) s3 := .ite h2.setNumCh h2
  have h4 : MarkKept (s.tickCounted n) s4 := .ite h3.enterSearch h3
  have h5 : MarkKept (s.tickCounted n) s5 := .ite h4.setNumCh.setNumCh h4
  exact h5.nextWindow.loopTick.formatTick.calTick

/-- After a tick and its return frame: the mark with one wedge more, and the frame that carries it back. -/
structure Returned (d e : Demod) : Prop where
  mark : e.mark = { d.mark with wedges := d.wedges + 1 }
  ret : e.ret.map (fun r => (r.tick, r.wedge, r.found)) = some (d.tick, d.wedge, d.found)

theorem sendReturn_demodOf (hn : n < 4) : (s.sendReturn n).demodOf n =
    { s.demodOf n with
      ret := some ⟨(s.demodOf n).tick, (s.demodOf n).wedge, (s.demodOf n).found, (s.wruOf n).wgSeen, (s.demodOf n).headSw⟩, headSw := false } :=
  State.demodOf_modDemod hn

theorem tick_returned (hw : s.Wf) (hn : n < 4) : Returned (s.demodOf n) (((s.tick n).sendReturn n).demodOf n) := by
  have hd : (s.tickCounted n).demodOf n = _ := State.demodOf_modDemod hn
  have hm := (MarkKept.tick (n := n) hw).mark n
  rw [hd] at hm
  rw [sendReturn_demodOf hn]
  have htick := congrArg WedgeMark.tick hm
  have hwedge := congrArg WedgeMark.wedge hm
  have hfound := congrArg WedgeMark.found hm
  refine ⟨hm, congrArg some ?_⟩
  exact congrArg₂ Prod.mk htick (congrArg₂ Prod.mk hwedge hfound)

theorem tick_misses (hw : s.Wf) (ch : Ch) : ((s.tick n).sendReturn n).num (DEMOD_CNT ch 0) = s.num (DEMOD_CNT ch 0) :=
  (MarkKept.tick (n := n) hw).num ch

end

end Sys2Proof.Machine

namespace Sys2Proof.Machine

/-! ## Servo marks (R105-R110) -/

section
variable {s : State} {n : Nat} {m : MarkSig} {marks : List MarkSig}

/-! ### A mark accepted, a mark rejected, a wedge without one (R48, R69, R106, R107, R109) -/

/-- The mark places the tick, is remembered, and goes back in the return frame. -/
theorem acceptSam_accepts (hw : s.Wf) (hn : n < 4) (tick wedge : Nat) (pred inWin : Bool) :
    ((acceptSam n tick wedge pred inWin s).demodOf n).mark =
        ⟨true, true, tick, wedge, some (tick, wedge), 0, (s.demodOf n).wedges + 1⟩ ∧
      ((acceptSam n tick wedge pred inWin s).demodOf n).ret.map (fun r => (r.tick, r.wedge, r.found)) = some (tick, wedge, true) := by
  unfold acceptSam
  extract_lets _ s1 s2 s3
  have hd : s3.demodOf n = s1.demodOf n := by
    unfold s3 s2
    rw [State.put_demodOf, State.put_demodOf, State.put_demodOf, State.put_demodOf]
  have hd1 : s1.demodOf n = _ := State.demodOf_modDemod hn
  have hr := tick_returned (s := s3) (((Evolves.refl s).modDemod.put.put.put.put).wf hw) hn
  rw [hd, hd1] at hr
  exact ⟨hr.mark, hr.ret⟩

theorem demodCount_num (hw : s.Wf) {j : Nat} (hj : j < 7) :
    (s.demodCount n j).num (DEMOD_CNT n j) = min (s.num (DEMOD_CNT n j) + 1) 0xFFFFFFFF := by
  have hne : DEMOD_CNT n j ≠ (DEMOD_CNT_SAT_SAT n).addr := by
    simp only [DEMOD_CNT_SAT_SAT, DEMOD_CNT_SAT, DEMOD_CNT, chReg]
    omega
  unfold State.demodCount State.countSat
  extract_lets k
  split
  next h =>
    rw [Nat.min_eq_right h, State.num, State.rd_wr_other _ _ hne, ← State.num, State.num_setNum_self hw (by decide)]
  next h =>
    rw [Nat.min_eq_left (by omega), State.num_setNum_self hw (by omega)]

theorem demodCount_demodOf (s : State) {j : Nat} (hj : j < 7) (k : Nat) : (s.demodCount n j).demodOf k = s.demodOf k :=
  (Steady.demodCount (loop := true) (gate := true) (.refl s) hj).demodOf k

theorem rejectSam_counts (hw : s.Wf) (hn : n < 4) (other : Bool) :
    (rejectSam n other s).demodOf n = { s.demodOf n with taken := (s.demodOf n).taken || other } ∧
      (rejectSam n other s).num (DEMOD_CNT n 1) = min (s.num (DEMOD_CNT n 1) + 1) 0xFFFFFFFF := by
  refine ⟨?_, demodCount_num hw (by decide)⟩
  rw [rejectSam, State.demodOf_modDemod hn, demodCount_demodOf s (by decide)]

/-- The wedge's prediction stands for its mark. -/
def State.markPredicted (s : State) (n : Nat) : State :=
  s.modDemod n (fun d =>
    { d with found := false, since := d.since + 1, tick := d.pred, wedge := d.predWedge, wnumPred := true, run := 0,
             taken := d.taken || !(s.flag (DEMOD_STAT_SEARCH n)) })

/-- The wedge line shows the prediction. -/
def State.predicted (s : State) (n : Nat) : State :=
  ((s.markPredicted n).put (WLR_STAT_TICK_SRC n) 1).put (WLR_STAT_WEDGE n) ((s.markPredicted n).demodOf n).wedge

/-- A miss is counted, and the write gate stays closed. -/
def State.missed (s : State) (n : Nat) : State :=
  ((s.demodCount n 0).put (DEMOD_STAT_MISS_RUN n) (min 255 ((s.demodCount n 0).get (DEMOD_STAT_MISS_RUN n) + 1))).dropGate n

theorem wedgeLoss_eq (n : Nat) (s : State) : wedgeLoss n s =
    ((if (s.predicted n).flag (DEMOD_CTL_EN n) then (s.predicted n).missed n else s.predicted n).tick n).sendReturn n := rfl

theorem predicted_demodOf (hn : n < 4) : (s.predicted n).demodOf n =
    { s.demodOf n with
      found := false, since := (s.demodOf n).since + 1, tick := (s.demodOf n).pred, wedge := (s.demodOf n).predWedge, wnumPred := true, run := 0,
      taken := (s.demodOf n).taken || !(s.flag (DEMOD_STAT_SEARCH n)) } := by
  rw [State.predicted, State.put_demodOf, State.put_demodOf]
  exact State.demodOf_modDemod hn

/-- Showing the prediction writes no register but the wedge line's. -/
theorem predicted_rd {a : Nat} (ha : a ≠ WLR_STAT n) : (s.predicted n).rd a = s.rd a :=
  (State.rd_wr_other (s.markPredicted n |>.put (WLR_STAT_TICK_SRC n) 1) _ ha).trans (State.rd_wr_other (s.markPredicted n) _ ha)

theorem wedgeLoss_of_enabled (he : s.flag (DEMOD_CTL_EN n) = true) :
    wedgeLoss n s = (((s.predicted n).missed n).tick n).sendReturn n := by
  have hne : (DEMOD_CTL_EN n).addr ≠ WLR_STAT n := by
    simp only [DEMOD_CTL_EN, DEMOD_CTL, WLR_STAT, chReg]
    omega
  have hp : (s.predicted n).flag (DEMOD_CTL_EN n) = true := by
    rw [State.flag, State.get, predicted_rd hne, ← State.get, ← State.flag, he]
  rw [wedgeLoss_eq, if_pos hp]

theorem missed_demodOf (s : State) (k : Nat) : (s.missed n).demodOf k = s.demodOf k := by
  have hs : Steady true false ((s.demodCount n 0).put (DEMOD_STAT_MISS_RUN n) (min 255 ((s.demodCount n 0).get (DEMOD_STAT_MISS_RUN n) + 1)))
    (s.missed n) := .dropGate (.refl _)
  rw [hs.demodOf, State.put_demodOf, demodCount_demodOf s (by decide)]

theorem missed_misses (hw : s.Wf) (ch : Ch) : (s.missed ch).num (DEMOD_CNT ch 0) = min (s.num (DEMOD_CNT ch 0) + 1) 0xFFFFFFFF := by
  have hk : MarkKept (s.demodCount ch 0) (s.missed ch) := .dropGate (MarkKept.refl _).putCh
  rw [hk.num, demodCount_num hw (by decide)]

theorem missed_wf (hw : s.Wf) : (s.missed n).Wf := (Evolves.refl s).demodCount.put.dropGate.wf hw

theorem predicted_wf (hw : s.Wf) : (s.predicted n).Wf := (Evolves.refl s).modDemod.put.put.wf hw

theorem predicted_misses (s : State) (ch : Ch) : (s.predicted ch).num (DEMOD_CNT ch 0) = s.num (DEMOD_CNT ch 0) := by
  have hne : DEMOD_CNT ch 0 ≠ WLR_STAT ch := by
    simp only [DEMOD_CNT, WLR_STAT, chReg]
    omega
  exact congrArg BitVec.toNat (predicted_rd hne)

/-- The wedge runs on the prediction, and the return frame says so. -/
theorem wedgeLoss_returned (hw : s.Wf) (hn : n < 4) (he : s.flag (DEMOD_CTL_EN n) = true) :
    Returned ((s.predicted n).demodOf n) ((wedgeLoss n s).demodOf n) := by
  rw [wedgeLoss_of_enabled he, ← missed_demodOf (n := n) (s.predicted n) n]
  exact tick_returned (missed_wf (predicted_wf hw)) hn

theorem wedgeLoss_misses (hw : s.Wf) (ch : Ch) (he : s.flag (DEMOD_CTL_EN ch) = true) :
    (wedgeLoss ch s).num (DEMOD_CNT ch 0) = min (s.num (DEMOD_CNT ch 0) + 1) 0xFFFFFFFF := by
  have hp := predicted_wf (n := ch) hw
  rw [wedgeLoss_of_enabled he, tick_misses (missed_wf hp), missed_misses hp, predicted_misses]

/-! ### Which marks are taken (R105-R108) -/

/-- DEMOD looks at no such mark: it is off, the wedge has one already, or the mark lies outside the gate or has too few bits. -/
def State.markIgnored (s : State) (n : Nat) (m : MarkSig) : Bool :=
  !s.flag (DEMOD_CTL_EN n) || (s.demodOf n).taken || !s.inGate n m.tick || decide (samMatch (s.get (SAM_CFG_PATTERN n)) m.sam < s.samThr n)

/-- The mark lies inside the window around the prediction. -/
def State.markInWindow (s : State) (n : Nat) (m : MarkSig) : Bool := decide (((m.tick : Int) - (s.demodOf n).pred).natAbs ≤ s.samWin n)

/-- The mark carries, with good parity, another wedge number than the predicted one. -/
def State.markOther (s : State) (n : Nat) (m : MarkSig) : Bool :=
  oddParity (dibits m.wnum) && decide (bitsOf (dibits m.wnum) 11 2 ≠ (s.demodOf n).predWedge)

theorem samAccept_eq (hm : marks[s.servoReader n]? = some m) :
    samAccept n marks s =
      if s.markIgnored n m then s
      else if s.flag (DEMOD_STAT_SEARCH n) then
        (if oddParity (dibits m.wnum) then acceptSam n m.tick (bitsOf (dibits m.wnum) 11 2) false (s.markInWindow n m) s else s)
      else if !s.markInWindow n m then rejectSam n false s
      else if s.markOther n m then rejectSam n true s
      else acceptSam n m.tick (s.demodOf n).predWedge (!oddParity (dibits m.wnum)) (s.markInWindow n m) s := by
  unfold samAccept
  rw [hm]
  rfl

theorem markIgnored_eq_false (he : s.flag (DEMOD_CTL_EN n) = true) (ht : (s.demodOf n).taken = false) (hg : s.inGate n m.tick = true)
    (hb : s.samThr n ≤ samMatch (s.get (SAM_CFG_PATTERN n)) m.sam) : s.markIgnored n m = false := by
  rw [State.markIgnored, he, ht, hg, decide_eq_false (Nat.not_lt.2 hb)]
  rfl

theorem markIgnored_eq_true (h : s.flag (DEMOD_CTL_EN n) = false ∨ (s.demodOf n).taken = true ∨ s.inGate n m.tick = false ∨
    samMatch (s.get (SAM_CFG_PATTERN n)) m.sam < s.samThr n) : s.markIgnored n m = true := by
  unfold State.markIgnored
  rcases h with h | h | h | h <;> simp [h]

theorem samAccept_ignored (hm : marks[s.servoReader n]? = some m) (hi : s.markIgnored n m = true) : samAccept n marks s = s := by
  rw [samAccept_eq hm, if_pos hi]

theorem samAccept_search (hm : marks[s.servoReader n]? = some m) (hi : s.markIgnored n m = false)
    (hs : s.flag (DEMOD_STAT_SEARCH n) = true) (hp : oddParity (dibits m.wnum) = true) :
    samAccept n marks s = acceptSam n m.tick (bitsOf (dibits m.wnum) 11 2) false (s.markInWindow n m) s := by
  rw [samAccept_eq hm, hi, if_neg Bool.false_ne_true, if_pos hs, if_pos hp]

theorem samAccept_outside (hm : marks[s.servoReader n]? = some m) (hi : s.markIgnored n m = false)
    (hs : s.flag (DEMOD_STAT_SEARCH n) = false) (hw : s.markInWindow n m = false) : samAccept n marks s = rejectSam n false s := by
  rw [samAccept_eq hm, hi, if_neg Bool.false_ne_true, hs, if_neg Bool.false_ne_true, hw]
  rfl

theorem samAccept_other (hm : marks[s.servoReader n]? = some m) (hi : s.markIgnored n m = false)
    (hs : s.flag (DEMOD_STAT_SEARCH n) = false) (hw : s.markInWindow n m = true) (ho : s.markOther n m = true) :
    samAccept n marks s = rejectSam n true s := by
  rw [samAccept_eq hm, hi, if_neg Bool.false_ne_true, hs, if_neg Bool.false_ne_true, hw, ho]
  rfl

theorem samAccept_inWindow (hm : marks[s.servoReader n]? = some m) (hi : s.markIgnored n m = false)
    (hs : s.flag (DEMOD_STAT_SEARCH n) = false) (hw : s.markInWindow n m = true) (ho : s.markOther n m = false) :
    samAccept n marks s = acceptSam n m.tick (s.demodOf n).predWedge (!oddParity (dibits m.wnum)) true s := by
  rw [samAccept_eq hm, hi, if_neg Bool.false_ne_true, hs, if_neg Bool.false_ne_true, hw, ho]
  rfl

/-- A mark outside the window, or inside it with another number, is rejected; the wedge takes no further mark in the latter case. -/
theorem samAccept_rejects (hm : marks[s.servoReader n]? = some m) (hi : s.markIgnored n m = false)
    (hs : s.flag (DEMOD_STAT_SEARCH n) = false) (h : s.markInWindow n m = false ∨ s.markOther n m = true) :
    samAccept n marks s = rejectSam n (s.markInWindow n m) s := by
  cases hw : s.markInWindow n m with
  | false => exact samAccept_outside hm hi hs hw
  | true => exact samAccept_other hm hi hs hw (h.resolve_left (by rw [hw, Bool.not_eq_false]))

/-- In search mode an open gate holds the whole wedge. -/
theorem inGate_of_search (hs : s.flag (DEMOD_STAT_SEARCH n) = true) (hg : (s.demodOf n).gate = true) (tick : Nat) :
    s.inGate n tick = true := by
  rw [State.inGate, hg, hs]
  rfl

end

/-- Settles O6: each clause by the lemma about its command; the tick keeps the wedge's mark and the count of misses. -/
theorem servoMarksPlaceTheTick : Obligations.Servo_marks_place_the_tick := by
  unfold Obligations.Servo_marks_place_the_tick
  refine ⟨?gateOpen, ?accepted, ?rejected, ?ignored, ?searching, ?without, ?loss, ?search, ?exit⟩
  case gateOpen => exact fun s ch h hu => runs_of_up rfl hu (servoGateOpen_opens h ch.isLt)
  case accepted =>
    intro s ch marks m h hu he hs hm ht hg hb hwin hnum
    have hi := markIgnored_eq_false he ht hg hb
    have ho : s.markOther ch m = false := by
      rcases hnum with hpar | hnum
      · rw [State.markOther, hpar, Bool.false_and]
      · rw [State.markOther, decide_eq_false (not_not_intro hnum), Bool.and_false]
    refine runs_of_up rfl hu ?_
    rw [samAccept_inWindow hm hi hs (decide_eq_true hwin) ho]
    obtain ⟨hmark, hret⟩ := acceptSam_accepts h ch.isLt m.tick (s.demodOf ch).predWedge (!oddParity (dibits m.wnum)) true
    exact ⟨congrArg WedgeMark.found hmark, congrArg WedgeMark.taken hmark, congrArg WedgeMark.tick hmark, congrArg WedgeMark.wedge hmark,
      congrArg WedgeMark.last hmark, congrArg WedgeMark.wedges hmark, hret⟩
  case rejected =>
    intro s ch marks m h hu he hs hm ht hg hb hrej
    have hi := markIgnored_eq_false he ht hg hb
    have hr : s.markInWindow ch m = false ∨ s.markOther ch m = true := by
      rcases hrej with hwin | ⟨hpar, hnum⟩
      · exact .inl (decide_eq_false (Nat.not_le.2 hwin))
      · exact .inr (by rw [State.markOther, hpar, decide_eq_true hnum, Bool.and_true])
    refine runs_of_up rfl hu ?_
    rw [samAccept_rejects hm hi hs hr]
    obtain ⟨hdemod, hcount⟩ := rejectSam_counts h ch.isLt (s.markInWindow ch m)
    rw [ht, Bool.false_or] at hdemod
    exact ⟨hdemod, hcount⟩
  case ignored =>
    intro s ch marks m _ hm hi
    refine ⟨_, rfl, ?_⟩
    have e : s.ifCh ch (samAccept ch marks) = s := by
      rw [State.ifCh, samAccept_ignored hm (markIgnored_eq_true hi), ite_self]
    rw [e]
  case searching =>
    intro s ch marks m h hu he hs hm ht hg hb hpar
    have hi := markIgnored_eq_false he ht (inGate_of_search hs hg m.tick) hb
    refine runs_of_up rfl hu ?_
    rw [samAccept_search hm hi hs hpar]
    obtain ⟨hmark, -⟩ := acceptSam_accepts h ch.isLt m.tick (bitsOf (dibits m.wnum) 11 2) false (s.markInWindow ch m)
    exact ⟨congrArg WedgeMark.tick hmark, congrArg WedgeMark.wedge hmark, congrArg WedgeMark.found hmark, congrArg WedgeMark.taken hmark⟩
  case without =>
    intro s ch h hu he
    obtain ⟨hmark, hret⟩ := wedgeLoss_returned h ch.isLt he
    rw [predicted_demodOf ch.isLt] at hmark hret
    refine runs_of_up rfl hu ?_
    exact ⟨congrArg WedgeMark.found hmark, congrArg WedgeMark.tick hmark, congrArg WedgeMark.wedge hmark, congrArg WedgeMark.since hmark,
      wedgeLoss_misses h ch he, hret⟩
  case loss => exact fun s ch h hu he hl hm => runs_of_up rfl hu (demodLoss_flags h ch.isLt he hl hm)
  case search => exact fun s ch _ hd => runs_of_on rfl hd ⟨demodCtlWrite_srch ch.isLt _ _, rfl⟩
  case exit => exact fun s ch h hu hs hr => runs_of_up rfl hu (searchExit_search h hs hr)

end Sys2Proof.Machine

namespace Sys2Proof.Machine

/-! ## What events, records, the memories and the ends of host commands leave alone (R373-R401, R416-R418, R494, R499, R500)

A fault of an engine writes its own registers, and its record, its event and the commands it fails write others: one rule for each. -/

/-- A register of an engine: of a channel die's units but its SRAM's (15), and of the KPR's units but ALOG (8) and the unit slot 15. -/
def isEngineReg (a : Nat) : Bool := decide (addrUnit a ≠ 15 ∧ (1 ≤ addrDie a ∧ addrDie a ≤ 4 ∨ addrDie a = 5 ∧ addrUnit a ≠ 8))

theorem isEngineReg_eq_false {a : Nat} :
    isEngineReg a = false ↔ ¬(addrUnit a ≠ 15 ∧ (1 ≤ addrDie a ∧ addrDie a ≤ 4 ∨ addrDie a = 5 ∧ addrUnit a ≠ 8)) := by
  rw [isEngineReg, decide_eq_false_iff_not]

/-- The engines of the channel dies and of the KPR, and the image they work by. -/
structure Engines where
  img : Option Image
  demod : Vector Demod 4
  loop : Vector Loop 4
  loopPre : Vector LoopPre 4
  hold : Vector Hold 4
  clv : Vector Bool 4
  clvFrame : Vector Nat 4
  shock : Shock
  det : Vector Detect 4
  wru : Vector WriteU 4
  asu : Vector Assist 4
  flu : Vector Fly 4
  pau : Vector Preamp 4
  lmu : Vector Lomun 4
  spin : Spin
  clasps : Clasps

def State.engines (s : State) : Engines :=
  ⟨s.img, s.demod, s.loop, s.loopPre, s.hold, s.clv, s.clvFrame, s.shock, s.det, s.wru, s.asu, s.flu, s.pau, s.lmu, s.spin, s.clasps⟩

/-- From `s` to `t` the engines and their registers stay. -/
structure EnginesKept (s t : State) : Prop where
  engines : t.engines = s.engines
  regs : ∀ a, isEngineReg a = true → t.rd a = s.rd a

section
variable {s₀ s t : State} {α : Type}

theorem EnginesKept.refl (s : State) : EnginesKept s s := ⟨rfl, fun _ _ => rfl⟩

/-- Whatever changes neither an engine nor a register keeps them. -/
theorem EnginesKept.frame (h : EnginesKept s₀ s) (e : (t.engines, t.bank) = (s.engines, s.bank)) : EnginesKept s₀ t := by
  obtain ⟨hengines, hbank⟩ := Prod.mk.inj e
  refine ⟨hengines.trans h.engines, fun a ha => ?_⟩
  simpa only [State.rd, hbank] using h.regs a ha

theorem EnginesKept.get (h : EnginesKept s t) {f : Fld} (hf : isEngineReg f.addr = true) : t.get f = s.get f := by
  rw [State.get, h.regs f.addr hf, State.get]

theorem EnginesKept.flag (h : EnginesKept s t) {f : Fld} (hf : isEngineReg f.addr = true) : t.flag f = s.flag f := by
  rw [State.flag, h.get hf, State.flag]

theorem EnginesKept.num (h : EnginesKept s t) {a : Nat} (ha : isEngineReg a = true) : t.num a = s.num a :=
  congrArg BitVec.toNat (h.regs a ha)

theorem EnginesKept.loop (h : EnginesKept s t) : t.loop = s.loop := congrArg Engines.loop h.engines

theorem EnginesKept.loopOf (h : EnginesKept s t) (n : Nat) : t.loopOf n = s.loopOf n := congrArg (atD · n Loop.reset) h.loop

theorem EnginesKept.clvDue (h : EnginesKept s t) (n : Nat) : t.clvDue n = s.clvDue n :=
  congrArg (fun e : Engines => atD e.clv n false) h.engines

theorem EnginesKept.shock (h : EnginesKept s t) : t.shock = s.shock := congrArg Engines.shock h.engines

/-! ### Control -/

theorem EnginesKept.ite {c : Prop} {i : Decidable c} (hs : EnginesKept s₀ s) (ht : EnginesKept s₀ t) : EnginesKept s₀ (if c then s else t) := by
  split
  · exact hs
  · exact ht

theorem EnginesKept.ite_fst {c : Prop} {i : Decidable c} {p q : State × α} (hp : EnginesKept s₀ p.1) (hq : EnginesKept s₀ q.1) :
    EnginesKept s₀ (if c then p else q).1 := by
  split
  · exact hp
  · exact hq

theorem EnginesKept.ite_snd {c : Prop} {i : Decidable c} {p q : α × State} (hp : EnginesKept s₀ p.2) (hq : EnginesKept s₀ q.2) :
    EnginesKept s₀ (if c then p else q).2 := by
  split
  · exact hp
  · exact hq

theorem EnginesKept.of_snd {p : α × State} {a : α} (e : p = (a, t)) (h : EnginesKept s₀ p.2) : EnginesKept s₀ t := by
  subst e
  exact h

theorem EnginesKept.foldl {f : State → α → State} {l : List α} (h : EnginesKept s₀ s)
    (hf : ∀ s, EnginesKept s₀ s → ∀ a, EnginesKept s₀ (f s a)) : EnginesKept s₀ (l.foldl f s) := by
  induction l generalizing s with
  | nil => exact h
  | cons a l ih => exact ih (hf s h a)

theorem EnginesKept.foldl_snd {β : Type} {p : β × State} {f : β × State → α → β × State} {l : List α} (h : EnginesKept s₀ p.2)
    (hf : ∀ p, EnginesKept s₀ p.2 → ∀ a, EnginesKept s₀ (f p a).2) : EnginesKept s₀ (l.foldl f p).2 := by
  induction l generalizing p with
  | nil => exact h
  | cons a l ih => exact ih (hf p h a)

/-! ### Writes of other registers -/

theorem EnginesKept.wr {a : Nat} {v : Word} (h : EnginesKept s₀ s) (ha : isEngineReg a = false) : EnginesKept s₀ (s.wr a v) := by
  refine ⟨h.engines, fun c hc => ?_⟩
  have hne : c ≠ a := by
    rintro rfl
    rw [ha] at hc
    cases hc
  rw [State.rd_wr_other s v hne]
  exact h.regs c hc

theorem EnginesKept.put {f x} (h : EnginesKept s₀ s) (ha : isEngineReg f.addr = false) : EnginesKept s₀ (s.put f x) := h.wr ha

theorem EnginesKept.setNum {a x} (h : EnginesKept s₀ s) (ha : isEngineReg a = false) : EnginesKept s₀ (s.setNum a x) := h.wr ha

theorem EnginesKept.set64 {lo hi v} (h : EnginesKept s₀ s) (hlo : isEngineReg lo = false) (hhi : isEngineReg hi = false) :
    EnginesKept s₀ (s.set64 lo hi v) :=
  (h.setNum hlo).setNum hhi

theorem EnginesKept.add64 {lo hi k} (h : EnginesKept s₀ s) (hlo : isEngineReg lo = false) (hhi : isEngineReg hi = false) :
    EnginesKept s₀ (s.add64 lo hi k) :=
  (h.setNum hlo).setNum hhi

/-! ### Events, the log and the fault registers of no engine -/

theorem EnginesKept.unmark {m a n} (h : EnginesKept s₀ s) : EnginesKept s₀ (s.unmark m a n) := .frame h rfl

theorem EnginesKept.validate {k a n} (h : EnginesKept s₀ s) : EnginesKept s₀ (s.validate k a n) := .ite h (.frame h rfl)

theorem EnginesKept.loseResv {m a n} (h : EnginesKept s₀ s) : EnginesKept s₀ (s.loseResv m a n) := .frame h rfl

theorem EnginesKept.setPend {c e} (h : EnginesKept s₀ s) : EnginesKept s₀ (s.setPend c e) := .frame h rfl

theorem EnginesKept.unrouted {e} (h : EnginesKept s₀ s) : EnginesKept s₀ (s.unrouted e) :=
  .ite (((h.put (by rfl)).setNum (by rfl)).put (by rfl)) ((h.put (by rfl)).setNum (by rfl))

theorem EnginesKept.raise {e} (h : EnginesKept s₀ s) : EnginesKept s₀ (s.raise e) :=
  .ite h (.ite (.ite h.setPend (.frame h rfl)) h.unrouted)

theorem isEngineReg_sevCnt (sev : Nat) : isEngineReg (SEV_CNT (sev % 4)) = false := by
  simp only [isEngineReg_eq_false, addrDie, addrUnit, SEV_CNT, kprReg]
  omega

theorem EnginesKept.countSev {sev} (h : EnginesKept s₀ s) : EnginesKept s₀ (s.countSev sev) := h.setNum (isEngineReg_sevCnt sev)

theorem EnginesKept.noteClass {r} (h : EnginesKept s₀ s) : EnginesKept s₀ (s.noteClass r) := .ite h (.frame h rfl)

theorem EnginesKept.offer {r} (h : EnginesKept s₀ s) : EnginesKept s₀ (s.offer r).1 :=
  have h2 := ((h.setNum (by rfl)).setNum (by rfl)).countSev.noteClass
  .ite_fst (.frame h2 rfl) h2

theorem EnginesKept.countDrop (h : EnginesKept s₀ s) : EnginesKept s₀ s.countDrop :=
  .ite (((h.put (by rfl)).setNum (by rfl)).put (by rfl)) ((h.put (by rfl)).setNum (by rfl))

theorem EnginesKept.latchFirst {first valid old new bit} (h : EnginesKept s₀ s)
    (hf : isEngineReg first = false) : EnginesKept s₀ (s.latchFirst first valid old new bit) :=
  .ite (h.wr hf) (.ite (h.wr hf) h)

theorem EnginesKept.noteDrop (h : EnginesKept s₀ s) : EnginesKept s₀ s.noteDrop :=
  .ite h.countDrop (.ite (h.countDrop.latchFirst (by rfl)).raise.offer.countDrop (h.countDrop.latchFirst (by rfl)).raise.offer)

theorem EnginesKept.log {r} (h : EnginesKept s₀ s) : EnginesKept s₀ (s.log r) := .ite h.offer.noteDrop h.offer

/-- A fault register as a new bit makes it, with its latch of the first fault (R489). -/
def State.withFault (s : State) (fr : FaultReg) (bit : Nat) : State :=
  let new := BitVec.ofNat 32 (setBitN (s.rd fr.addr).toNat bit)
  match fr.first with
  | some (f, v) => (s.wr fr.addr new).latchFirst f v (s.rd fr.addr) new bit
  | none => s.wr fr.addr new

/-- Beside the register and its latch a new fault bit changes no engine. -/
theorem EnginesKept.faultBit_of_clear {fr : FaultReg} {bit sev cls inst detail : Nat} (hb : bitOf (s.num fr.addr) bit = false) :
    EnginesKept (s.withFault fr bit) (s.faultBit fr bit sev cls inst detail) := by
  have hne : ¬bitOf (s.rd fr.addr).toNat bit = true := by
    rw [Bool.not_eq_true]
    exact hb
  unfold State.faultBit
  extract_lets old new s1 s2 s3
  have h3 : EnginesKept (s.withFault fr bit) s3 := .log (.refl _)
  rw [if_neg hne]
  split
  · exact h3.raise
  · exact h3

/-- Neither the fault register nor its latch of the first fault is an engine's. -/
def FaultReg.offEngines (fr : FaultReg) : Bool := !isEngineReg fr.addr && fr.first.all fun p => !isEngineReg p.1

theorem EnginesKept.withFault {fr : FaultReg} {bit : Nat} (h : EnginesKept s₀ s) (hfr : fr.offEngines = true) :
    EnginesKept s₀ (s.withFault fr bit) := by
  simp only [FaultReg.offEngines, Bool.and_eq_true, Bool.not_eq_true'] at hfr
  obtain ⟨haddr, hfirst⟩ := hfr
  unfold State.withFault
  split
  next f v e =>
    rw [e, Option.all_some, Bool.not_eq_true'] at hfirst
    exact (h.wr haddr).latchFirst hfirst
  · exact h.wr haddr

theorem EnginesKept.trans (h : EnginesKept s₀ s) (k : EnginesKept s t) : EnginesKept s₀ t :=
  ⟨k.engines.trans h.engines, fun a ha => (k.regs a ha).trans (h.regs a ha)⟩

theorem EnginesKept.faultBit {fr bit sev cls inst detail} (h : EnginesKept s₀ s)
    (hfr : fr.offEngines = true) : EnginesKept s₀ (s.faultBit fr bit sev cls inst detail) := by
  by_cases hb : bitOf (s.num fr.addr) bit = true
  · have e : s.faultBit fr bit sev cls inst detail = s := if_pos hb
    rwa [e]
  · exact (h.withFault hfr).trans (.faultBit_of_clear (Bool.not_eq_true _ ▸ hb))

theorem EnginesKept.noteBit {fr bit} (h : EnginesKept s₀ s) (hfr : fr.offEngines = true) : EnginesKept s₀ (s.noteBit fr bit) :=
  h.faultBit hfr

theorem EnginesKept.countSatFault {cnt fr bit k} (h : EnginesKept s₀ s) (hc : isEngineReg cnt = false) (hfr : fr.offEngines = true) :
    EnginesKept s₀ (s.countSatFault cnt fr bit k) :=
  .ite ((h.setNum hc).noteBit hfr) (h.setNum hc)

theorem EnginesKept.partFirst {fatal die unit bit offset} (h : EnginesKept s₀ s) :
    EnginesKept s₀ (s.partFirst fatal die unit bit offset) :=
  .ite h (h.setNum (by rfl))

theorem EnginesKept.setActState {n v} (h : EnginesKept s₀ s) : EnginesKept s₀ (s.setActState n v) := h.wr (by rfl)

/-! ### The memories and the system cache -/

/-- The unit of a memory is no engine's. -/
theorem isEngineReg_memUnit (m o : Nat) (ho : o < 0x1000000) : isEngineReg (memUnit m + o) = false := by
  simp only [isEngineReg_eq_false, addrDie, addrUnit, memUnit, hubDRAMC, hubSCACHE, hubHSRAM, chCSRAM, hubReg, chReg]
  split_ifs <;> omega

theorem memFault_offEngines (m : Nat) : (memFault m).offEngines = true := by
  have he : isEngineReg (MEM_ERR (memUnit m)) = false := isEngineReg_memUnit m _ (by decide)
  have hf : isEngineReg (MEM_FIRST (memUnit m)) = false := isEngineReg_memUnit m _ (by decide)
  simp only [FaultReg.offEngines, memFault, memErr, he, hf, Option.all_some, Bool.not_false, Bool.and_self]

theorem EnginesKept.memCe {m a} (h : EnginesKept s₀ s) : EnginesKept s₀ (s.memCe m a) :=
  ((h.set64 (isEngineReg_memUnit m 0x50 (by decide)) (isEngineReg_memUnit m 0x54 (by decide))).noteBit
    (memFault_offEngines m)).countSatFault (isEngineReg_memUnit m 0x48 (by decide)) (memFault_offEngines m)

theorem EnginesKept.memUe {m a} (h : EnginesKept s₀ s) : EnginesKept s₀ (s.memUe m a) :=
  ((h.set64 (isEngineReg_memUnit m 0x58 (by decide)) (isEngineReg_memUnit m 0x5C (by decide))).faultBit
    (memFault_offEngines m)).countSatFault (isEngineReg_memUnit m 0x4C (by decide)) (memFault_offEngines m)

theorem EnginesKept.memPoison {m} (h : EnginesKept s₀ s) : EnginesKept s₀ (s.memPoison m) := h.noteBit (memFault_offEngines m)

theorem EnginesKept.setMark {m a k} (h : EnginesKept s₀ s) : EnginesKept s₀ (s.setMark m a k) := .frame h rfl

theorem EnginesKept.setArray {m x} (h : EnginesKept s₀ s) : EnginesKept s₀ (s.setArray m x) :=
  .ite (.frame h rfl) (.ite (.frame h rfl) (.frame h rfl))

theorem EnginesKept.eccWord {p : (Memory × Bool) × State} {m e} (h : EnginesKept s₀ p.2) : EnginesKept s₀ (State.eccWord m p e).2 := by
  unfold State.eccWord
  extract_lets _ s1
  split
  · exact h
  · exact h.memCe
  · exact h.memUe
  · exact h.memPoison

theorem EnginesKept.eccRead {m a n} (h : EnginesKept s₀ s) : EnginesKept s₀ (s.eccRead m a n).2 := by
  unfold State.eccRead
  split
  · exact h
  · exact .foldl_snd h (fun _ h _ => h.eccWord)

theorem EnginesKept.eccStore {m a bs} (h : EnginesKept s₀ s) : EnginesKept s₀ (s.eccStore m a bs).2 := by
  unfold State.eccStore
  extract_lets _ s1
  have h1 : EnginesKept s₀ s1 := h.memCe.setMark
  split
  · exact h.setArray
  · refine .ite_snd h.setMark.setArray ?_
    split
    · exact h.setMark.setArray
    · exact h1.setArray
    · exact h.memUe
    · exact h.memPoison

theorem EnginesKept.eccWrite {m a bs} (h : EnginesKept s₀ s) : EnginesKept s₀ (s.eccWrite m a bs).2 :=
  .ite_snd h.setArray (.foldl_snd h (fun _ h _ => .ite_snd h.eccStore h))

theorem EnginesKept.dramRead {a n} (h : EnginesKept s₀ s) : EnginesKept s₀ (s.dramRead a n).2 := h.eccRead

theorem EnginesKept.dramWrite {a bs} (h : EnginesKept s₀ s) : EnginesKept s₀ (s.dramWrite a bs).2 :=
  .ite h.eccWrite (.frame h.eccWrite rfl)

theorem EnginesKept.setLine {k l} (h : EnginesKept s₀ s) : EnginesKept s₀ (s.setLine k l) := .frame h rfl

theorem EnginesKept.dropLine {k l} (h : EnginesKept s₀ s) : EnginesKept s₀ (s.dropLine k l) := .unmark (.frame h rfl)

theorem EnginesKept.writeBlock {l b} (h : EnginesKept s₀ s) : EnginesKept s₀ (s.writeBlock l b) :=
  .ite h.dramWrite.setMark h.dramWrite.setMark

theorem EnginesKept.writeBack {l} (h : EnginesKept s₀ s) : EnginesKept s₀ (s.writeBack l) := h.writeBlock.writeBlock

theorem EnginesKept.dropVictim {l} (h : EnginesKept s₀ s) : EnginesKept s₀ (s.dropVictim l) := .unmark (.frame h rfl)

theorem EnginesKept.writeOut {l} (h : EnginesKept s₀ s) : EnginesKept s₀ (s.writeOut l) := h.writeBack.dropVictim

theorem EnginesKept.drainVictim {a} (h : EnginesKept s₀ s) : EnginesKept s₀ (s.drainVictim a) := by
  unfold State.drainVictim
  split
  · exact .ite h h.writeOut
  · exact h

theorem EnginesKept.toVictim {l} (h : EnginesKept s₀ s) : EnginesKept s₀ (s.toVictim l) := by
  unfold State.toVictim
  extract_lets s1
  have h1 : EnginesKept s₀ s1 := by
    refine .ite ?_ h
    split
    · exact h.writeOut
    · exact h
  exact .frame h1 rfl

theorem EnginesKept.scVictim {set ways} (h : EnginesKept s₀ s) : EnginesKept s₀ (s.scVictim set ways).2 := by
  unfold State.scVictim
  extract_lets _ _ s1
  have h1 : EnginesKept s₀ s1 := by
    refine .foldl h (fun s1 h1 _ => ?_)
    split
    · exact h1.setLine
    · exact h1
  split
  · exact h
  · exact h1

theorem EnginesKept.scFill {c a data dirty} (h : EnginesKept s₀ s) : EnginesKept s₀ (s.scFill c a data dirty) := by
  unfold State.scFill
  split
  next x _ s1 e =>
    have h1 : EnginesKept s₀ s1 := .of_snd e h.scVictim
    extract_lets _ s2
    have h2 : EnginesKept s₀ s2 := by
      unfold s2
      split
      · exact .ite h1.toVictim h1.dropLine
      · exact h1
    exact h2.setLine

theorem EnginesKept.lineRead {k l a n} (h : EnginesKept s₀ s) : EnginesKept s₀ (s.lineRead k l a n).2 := by
  unfold State.lineRead
  split
  · exact h
  · extract_lets _ r
    have hr : EnginesKept s₀ r.2 := by
      refine .foldl_snd h (fun s1 h1 _ => ?_)
      split
      · extract_lets
        split
        · exact h1.memCe
        · exact h1
        · exact h1.memUe
      · extract_lets
        split
        · exact h1.memCe
        · exact h1
        · exact h1.memCe
    exact .ite_snd hr (.ite_snd hr hr.dropLine)

theorem EnginesKept.fetchLine {a} (h : EnginesKept s₀ s) : EnginesKept s₀ (s.fetchLine a).2 := h.dramRead

theorem EnginesKept.scReadMiss {c a n} (h : EnginesKept s₀ s) : EnginesKept s₀ (s.scReadMiss c a n).2 := by
  unfold State.scReadMiss
  refine .ite_snd h.dramRead ?_
  split
  next x _ s1 e =>
    have h1 : EnginesKept s₀ s1 := .of_snd e h.fetchLine
    exact h1.scFill
  next e => exact .of_snd e h.fetchLine

theorem EnginesKept.scRead {c a n} (h : EnginesKept s₀ s) : EnginesKept s₀ (s.scRead c a n).2 := by
  unfold State.scRead
  extract_lets s1 s2
  have h1 : EnginesKept s₀ s1 := h.drainVictim.add64 (by rfl) (by rfl)
  have h2 : EnginesKept s₀ s2 := h1.add64 (by rfl) (by rfl)
  split
  · split
    · split
      next e => exact .of_snd e h2.lineRead
      next e => exact .of_snd e h2.lineRead
    · exact h2.scReadMiss
  · extract_lets s3
    have h3 : EnginesKept s₀ s3 := h1.setLine
    split
    next e => exact .of_snd e h3.lineRead
    next x s4 e =>
      have h4 : EnginesKept s₀ s4 := .of_snd e h3.lineRead
      exact h4.scReadMiss
    next e => exact .of_snd e h3.lineRead

theorem EnginesKept.scUpdate {k l a bs} (h : EnginesKept s₀ s) : EnginesKept s₀ (s.scUpdate k l a bs).2 :=
  .ite_snd h.unmark.setLine (.ite_snd h.unmark.writeBack.setLine h.unmark.dramWrite.setLine)

theorem EnginesKept.fetchAround {a bs} (h : EnginesKept s₀ s) : EnginesKept s₀ (s.fetchAround a bs).2 := by
  unfold State.fetchAround
  refine .foldl_snd h (fun s1 h1 _ => ?_)
  split
  · exact h1
  · refine .ite_snd h1 ?_
    split
    next e => exact .of_snd e h1.dramRead
    next e => exact .of_snd e h1.dramRead

theorem EnginesKept.scWriteMiss {c a bs} (h : EnginesKept s₀ s) : EnginesKept s₀ (s.scWriteMiss c a bs).2 := by
  unfold State.scWriteMiss
  refine .ite_snd h.dramWrite ?_
  split
  next x s1 e =>
    have h1 : EnginesKept s₀ s1 := .of_snd e h.fetchAround
    exact .ite_snd h1.dramWrite h1
  next x _ s1 e =>
    have h1 : EnginesKept s₀ s1 := .of_snd e h.fetchAround
    extract_lets _ r
    have hr : EnginesKept s₀ r.2 := h1.dramWrite
    exact .ite_snd h1.scFill (.ite_snd hr.scFill hr)

theorem EnginesKept.scWrite {c a bs} (h : EnginesKept s₀ s) : EnginesKept s₀ (s.scWrite c a bs).2 := by
  unfold State.scWrite
  extract_lets s1 s2
  have h1 : EnginesKept s₀ s1 := h.drainVictim.add64 (by rfl) (by rfl)
  have h2 : EnginesKept s₀ s2 := h1.add64 (by rfl) (by rfl)
  split
  · refine .scWriteMiss ?_
    split
    · exact h2.writeOut
    · exact h2
  · refine .ite_snd h1.scUpdate ?_
    split
    next x _ s3 e =>
      have h3 : EnginesKept s₀ s3 := .of_snd e h1.lineRead
      exact h3.scUpdate
    next x s3 e =>
      have h3 : EnginesKept s₀ s3 := .of_snd e h1.lineRead
      exact h3.scWriteMiss
    next e => exact .of_snd e h1.lineRead

theorem EnginesKept.hsramRead {o n} (h : EnginesKept s₀ s) : EnginesKept s₀ (s.hsramRead o n).2 := .ite_snd h.eccRead h

theorem EnginesKept.sramWrite {m o bs} (h : EnginesKept s₀ s) : EnginesKept s₀ (s.sramWrite m o bs).2 :=
  .loseResv (.ite h.eccWrite.validate h.eccWrite)

theorem EnginesKept.hsramWrite {o bs} (h : EnginesKept s₀ s) : EnginesKept s₀ (s.hsramWrite o bs).2 := .ite_snd h.sramWrite h

theorem EnginesKept.physRead {c a n} (h : EnginesKept s₀ s) : EnginesKept s₀ (s.physRead c a n).2 := by
  unfold State.physRead
  refine .ite_snd h.hsramRead (.ite_snd (.foldl_snd h (fun s1 h1 _ => ?_)) h)
  split
  · exact h1
  · split
    next e => exact .of_snd e h1.scRead
    next e => exact .of_snd e h1.scRead

theorem EnginesKept.physWrite {c a bs} (h : EnginesKept s₀ s) : EnginesKept s₀ (s.physWrite c a bs).2 :=
  .ite_snd h.hsramWrite (.ite_snd (.foldl_snd h.loseResv (fun _ h _ => .ite_snd h.scWrite h)) h)

/-! ### Buffers and the host's commands -/

theorem EnginesKept.setBuf {i gen owners} (h : EnginesKept s₀ s) : EnginesKept s₀ (s.setBuf i gen owners) := .physWrite (.frame h rfl)

/-- A register of the HUB. -/
theorem isEngineReg_hubReg {u o : Nat} (h : u * 0x1000000 + o < 0x20000000) : isEngineReg (hubReg u o) = false := by
  simp only [isEngineReg_eq_false, addrDie, hubReg]
  omega

theorem EnginesKept.countFree {p} (hp : p < 16) (h : EnginesKept s₀ s) : EnginesKept s₀ (s.countFree p) := by
  have h1 (x : Nat) : EnginesKept s₀ (s.put (POOL_STAT_FREE p) x) :=
    h.put (isEngineReg_hubReg (by omega))
  exact .ite ((h1 _).put (isEngineReg_hubReg (by omega))) (h1 _)

theorem EnginesKept.stkRead {i} (h : EnginesKept s₀ s) : EnginesKept s₀ (s.stkRead i).2 := by
  unfold State.stkRead
  split
  next e => exact .of_snd e h.physRead
  next x s1 e =>
    have h1 : EnginesKept s₀ s1 := .of_snd e h.physRead
    exact h1.noteBit (by rfl)

theorem EnginesKept.stkNamed {x rest} (h : EnginesKept s₀ s) (hrest : ∀ x0 x1 s, EnginesKept s₀ s → EnginesKept s₀ (rest x0 x1 s).2) :
    EnginesKept s₀ (s.stkNamed x rest).2 := by
  unfold State.stkNamed
  refine .ite_snd h ?_
  split
  · exact h
  · split
    next e => exact .of_snd e h.stkRead
    next x1 _ s1 e =>
      have h1 : EnginesKept s₀ s1 := .of_snd e h.stkRead
      exact .ite_snd h1 (hrest _ _ _ h1)

theorem EnginesKept.stkRelease {x name} (h : EnginesKept s₀ s) : EnginesKept s₀ (s.stkRelease x name).2 :=
  .ite_snd h (.stkNamed h (fun _ _ _ h => .ite_snd h (.ite_snd h h.setBuf)))

theorem EnginesKept.stkFree {x name} (h : EnginesKept s₀ s) : EnginesKept s₀ (s.stkFree x name).2 := by
  unfold State.stkFree
  refine .ite_snd h (.stkNamed h (fun _ _ s1 h1 => ?_))
  extract_lets _ s2
  have h2 : EnginesKept s₀ s2 := h1.setBuf
  refine .ite_snd h1 (.ite_snd h1 ?_)
  split
  next p e => exact .countFree (List.mem_range.1 (List.mem_of_find?_eq_some e)) (.frame h2 rfl)
  next => exact h2

theorem EnginesKept.stkDrop {x name} (h : EnginesKept s₀ s) : EnginesKept s₀ (s.stkDrop x name) :=
  .ite h.stkRelease.stkFree h.stkRelease

theorem EnginesKept.modHost {f} (h : EnginesKept s₀ s) : EnginesKept s₀ (s.modHost f) := .frame h rfl

theorem EnginesKept.modNs {i f} (h : EnginesKept s₀ s) : EnginesKept s₀ (s.modNs i f) := h.modHost

theorem EnginesKept.modCtrl {c f} (h : EnginesKept s₀ s) : EnginesKept s₀ (s.modCtrl c f) := h.modHost

theorem EnginesKept.setTag {t' x} (h : EnginesKept s₀ s) : EnginesKept s₀ (s.setTag t' x) := h.modHost

theorem EnginesKept.finish {t' x status dw0 dw1} (h : EnginesKept s₀ s) : EnginesKept s₀ (s.finish t' x status dw0 dw1) := h.setTag

theorem EnginesKept.setWrt {i w} (h : EnginesKept s₀ s) : EnginesKept s₀ (s.setWrt i w) := h.modHost

theorem EnginesKept.aen {c dw} (h : EnginesKept s₀ s) : EnginesKept s₀ (s.aen c dw) := by
  unfold State.aen
  refine .ite h ?_
  split
  · extract_lets s1
    have h1 : EnginesKept s₀ s1 := h.modCtrl
    split
    · exact h1.finish
    · exact h1
  · exact h.modCtrl

theorem EnginesKept.aenAll {dw} (h : EnginesKept s₀ s) : EnginesKept s₀ (s.aenAll dw) := .foldl h (fun _ h _ => h.aen)

theorem EnginesKept.releaseReads {t' x} (h : EnginesKept s₀ s) : EnginesKept s₀ (s.releaseReads t' x) :=
  .foldl h (fun _ h _ => h.stkDrop)

theorem EnginesKept.giveCseq {x} (h : EnginesKept s₀ s) : EnginesKept s₀ (s.giveCseq x) := by
  unfold State.giveCseq
  extract_lets _ _ s1
  have h1 : EnginesKept s₀ s1 := h.modNs
  refine .foldl h1 (fun s1 h1 _ => ?_)
  split
  · exact h1.setWrt
  · exact h1

theorem EnginesKept.failCommands {n} (h : EnginesKept s₀ s) : EnginesKept s₀ (s.failCommands n) := by
  unfold State.failCommands
  refine .foldl h (fun s1 h1 _ => ?_)
  split
  · exact h1
  · extract_lets _ s2
    have h2 : EnginesKept s₀ s2 := .ite h1.giveCseq h1
    split
    · exact h2.releaseReads.finish
    · exact h1

end

end Sys2Proof.Machine

namespace Sys2Proof.Machine

/-! ## A lane's registers, fault bits and modes (R131, R489, R490) -/

section
variable {s t u : State} {n : Nat}

/-! ### Registers of a channel die, and what changes LOOP -/

theorem chReg_ne {u o u' o' : Nat} (h : u * 0x1000000 + o ≠ u' * 0x1000000 + o') : chReg n u o ≠ chReg n u' o' := by
  intro e
  rw [chReg, chReg, Nat.add_assoc, Nat.add_assoc] at e
  exact h (Nat.add_left_cancel e)

theorem addrDie_chReg {u o : Nat} (hn : n < 4) (h : u * 0x1000000 + o < 0x20000000) : addrDie (chReg n u o) = n + 1 := by
  simp only [addrDie, chReg]
  omega

theorem isEngineReg_chReg {u o : Nat} (hn : n < 4) (h : u < 32 ∧ u ≠ 15 ∧ o < 0x1000000 := by decide) : isEngineReg (chReg n u o) = true := by
  obtain ⟨hu, h15, ho⟩ := h
  rw [isEngineReg, addrUnit_chReg n u o hu ho, addrDie_chReg hn (by omega), decide_eq_true_eq]
  omega

/-- A number that fits a field is what the field then holds. -/
theorem State.get_put_fits (h : s.Wf) {f : Fld} {x : Nat} (hf : f.fits = true) (hx : x < 2 ^ (f.hi - f.lo + 1)) : (s.put f x).get f = x :=
  State.get_put_same h (of_decide_eq_true hf) hx

theorem State.get_put_of_apart (h : s.Wf) (f g : Fld) {x : Nat} (ha : g.addr = f.addr) (hfg : f.apart g = true) :
    (s.put f x).get g = s.get g := by
  simp only [Fld.apart, Fld.fits, Bool.and_eq_true, decide_eq_true_eq] at hfg
  obtain ⟨⟨⟨hf, _⟩, ⟨hg, _⟩⟩, hd⟩ := hfg
  exact State.get_put_apart h ⟨ha, hf, hg, hd⟩

theorem State.get_of_rd {f : Fld} (h : t.rd f.addr = s.rd f.addr) : t.get f = s.get f := by rw [State.get, h, State.get]

theorem State.flag_of_rd {f : Fld} (h : t.rd f.addr = s.rd f.addr) : t.flag f = s.flag f := by
  rw [State.flag, State.get_of_rd h, State.flag]

theorem State.num_of_rd {a : Nat} (h : t.rd a = s.rd a) : t.num a = s.num a := congrArg BitVec.toNat h

theorem State.modLoop_rd (s : State) (n : Nat) (f : Loop → Loop) (a : Nat) : (s.modLoop n f).rd a = s.rd a := rfl

theorem State.modLoop_num (s : State) (n : Nat) (f : Loop → Loop) (a : Nat) : (s.modLoop n f).num a = s.num a := rfl

theorem State.modLoop_get (s : State) (n : Nat) (f : Loop → Loop) (g : Fld) : (s.modLoop n f).get g = s.get g := rfl

theorem modLoop_mode (s : State) (m : Nat) (f : Loop → Loop) (k : Nat) : (s.modLoop m f).mode k = s.mode k := rfl

theorem State.wr_loopOf (s : State) (a : Nat) (v : Word) (k : Nat) : (s.wr a v).loopOf k = s.loopOf k := rfl

theorem State.put_loopOf (s : State) (f : Fld) (x k : Nat) : (s.put f x).loopOf k = s.loopOf k := rfl

theorem State.setNum_loopOf (s : State) (a x k : Nat) : (s.setNum a x).loopOf k = s.loopOf k := rfl

theorem State.Wf.modLoop (h : s.Wf) (n : Nat) (f : Loop → Loop) : (s.modLoop n f).Wf := (Evolves.refl s).modLoop.wf h

/-! ### Fault bits -/

/-- A set bit is 1, and the bits that were 1 stay so. -/
theorem bitOf_word_setBitN {w : Word} {k j : Nat} (hk : k < 32) (h : j = k ∨ bitOf w.toNat j = true) :
    bitOf (BitVec.ofNat 32 (setBitN w.toNat k)).toNat j = true := by
  rw [bitOf_eq_testBit, BitVec.toNat_ofNat, Nat.testBit_mod_two_pow, Bool.and_eq_true, decide_eq_true_eq]
  rcases h with rfl | h
  · rw [← bitOf_eq_testBit]
    exact ⟨hk, bitOf_setBitN_self _ _⟩
  · rw [bitOf_eq_testBit] at h
    have hj : j < 32 := by
      rw [BitVec.testBit_toNat] at h
      exact BitVec.lt_of_getLsbD h
    exact ⟨hj, testBit_setBitN h⟩

/-- From `s` to `t` bit `bit` of a fault register is set: no other bit of it falls, and beside its latch of the first fault the engines and their
registers stay. -/
structure FaultSet (fr : FaultReg) (bit : Nat) (s t : State) : Prop where
  engines : t.engines = s.engines
  bits : ∀ j, j = bit ∨ bitOf (s.num fr.addr) j = true → bitOf (t.num fr.addr) j = true
  regs : ∀ a, isEngineReg a = true → a ≠ fr.addr → (∀ p ∈ fr.first, a ≠ p.1) → t.rd a = s.rd a

theorem latchFirst_rd_other {first a : Nat} (s : State) (valid : Nat) (old new : Word) (bit : Nat) (ha : a ≠ first) :
    (s.latchFirst first valid old new bit).rd a = s.rd a := by
  unfold State.latchFirst
  split
  · exact State.rd_wr_other s _ ha
  · split
    · exact State.rd_wr_other s _ ha
    · rfl

theorem latchFirst_engines (s : State) (first valid : Nat) (old new : Word) (bit : Nat) :
    (s.latchFirst first valid old new bit).engines = s.engines := by
  unfold State.latchFirst
  split
  · rfl
  · split <;> rfl

theorem withFault_set {fr : FaultReg} {bit : Nat} (h : s.Wf) (hk : bit < 32) (hf : ∀ p ∈ fr.first, fr.addr ≠ p.1) :
    FaultSet fr bit s (s.withFault fr bit) := by
  have hbits {v : State} (hv : v.rd fr.addr = BitVec.ofNat 32 (setBitN (s.rd fr.addr).toNat bit)) (j : Nat)
      (hj : j = bit ∨ bitOf (s.num fr.addr) j = true) : bitOf (v.num fr.addr) j = true := by
    rw [State.num, hv]
    exact bitOf_word_setBitN hk hj
  unfold State.withFault
  split
  next f v e =>
    have hp : (f, v) ∈ fr.first := e
    refine ⟨latchFirst_engines .., hbits ?_, fun a _ ha hl => ?_⟩
    · rw [latchFirst_rd_other _ _ _ _ _ (hf _ hp), State.rd_wr_self h]
    · rw [latchFirst_rd_other _ _ _ _ _ (hl _ hp), State.rd_wr_other s _ ha]
  · exact ⟨rfl, hbits (State.rd_wr_self h _ _), fun a _ ha _ => State.rd_wr_other s _ ha⟩

theorem FaultSet.then {fr : FaultReg} {bit : Nat} (h : FaultSet fr bit s t) (ha : isEngineReg fr.addr = true) (k : EnginesKept t u) :
    FaultSet fr bit s u := by
  refine ⟨k.engines.trans h.engines, fun j hj => ?_, fun a hr hne hl => (k.regs a hr).trans (h.regs a hr hne hl)⟩
  rw [k.num ha]
  exact h.bits j hj

theorem faultBit_set {fr : FaultReg} {bit : Nat} (h : s.Wf) (ha : isEngineReg fr.addr = true) (hk : bit < 32)
    (hf : ∀ p ∈ fr.first, fr.addr ≠ p.1) (sev cls inst detail : Nat) : FaultSet fr bit s (s.faultBit fr bit sev cls inst detail) := by
  cases hb : bitOf (s.num fr.addr) bit with
  | true =>
    have e : s.faultBit fr bit sev cls inst detail = s := if_pos hb
    rw [e]
    refine ⟨rfl, fun j hj => ?_, fun _ _ _ _ => rfl⟩
    rcases hj with rfl | hj
    · exact hb
    · exact hj
  | false => exact (withFault_set h hk hf).then ha (.faultBit_of_clear hb)

theorem FaultSet.bit {fr : FaultReg} {bit : Nat} (h : FaultSet fr bit s t) : bitOf (t.num fr.addr) bit = true := h.bits bit (.inl rfl)

theorem FaultSet.loopOf {fr : FaultReg} {bit : Nat} (h : FaultSet fr bit s t) (k : Nat) : t.loopOf k = s.loopOf k :=
  congrArg (fun e : Engines => atD e.loop k Loop.reset) h.engines

theorem isEngineReg_loopFault (hn : n < 4) : isEngineReg (loopFault n).addr = true := isEngineReg_chReg (n := n) (u := 9) (o := 0x54) hn

theorem loopFaultBit_set (h : s.Wf) (hn : n < 4) {bit : Nat} (hk : bit < 32) (sev cls : Nat) :
    FaultSet (loopFault n) bit s (s.loopFaultBit n bit sev cls) := by
  refine faultBit_set h (isEngineReg_loopFault hn) hk (fun p hp => ?_) _ _ _ _
  cases hp
  exact chReg_ne (u := 9) (o := 0x54) (u' := 9) (o' := 0x58) (by decide)

theorem holdFault_noLatch (p : Nat × Nat) (hp : p ∈ (holdFault n).first) (a : Nat) : a ≠ p.1 :=
  absurd (show p ∈ (none : Option (Nat × Nat)) from hp) (Option.not_mem_none p)

theorem holdFaultBit_set (h : s.Wf) (hn : n < 4) {bit : Nat} (hk : bit < 32) (sev cls inst detail : Nat) :
    FaultSet (holdFault n) bit s (s.faultBit (holdFault n) bit sev cls inst detail) :=
  faultBit_set h (isEngineReg_chReg (n := n) (u := 10) (o := 0x4) hn) hk (fun p hp => holdFault_noLatch p hp _) _ _ _ _

/-- A fault bit of LOOP leaves the registers of the lane's units but LOOP_FAULT and LOOP_FIRST. -/
theorem FaultSet.rdCh {bit u o : Nat} (h : FaultSet (loopFault n) bit s t) (hn : n < 4)
    (hu : (u < 32 ∧ u ≠ 15 ∧ o < 0x1000000) ∧ u * 0x1000000 + o ≠ 9 * 0x1000000 + 0x54 ∧
      u * 0x1000000 + o ≠ 9 * 0x1000000 + 0x58 := by decide) :
    t.rd (chReg n u o) = s.rd (chReg n u o) := by
  obtain ⟨hu, hfault, hfirst⟩ := hu
  refine h.regs _ (isEngineReg_chReg hn hu) (chReg_ne (u' := 9) (o' := 0x54) hfault) fun p hp => ?_
  cases hp
  exact chReg_ne (u' := 9) (o' := 0x58) hfirst

theorem FaultSet.mode {bit : Nat} (h : FaultSet (loopFault n) bit s t) (hn : n < 4) : t.mode n = s.mode n :=
  State.get_of_rd (f := LOOP_STAT_MODE n) (h.rdCh (u := 9) (o := 0x4) hn)

/-! ### Modes -/

theorem loopStat_ne_holdStat : LOOP_STAT n ≠ HOLD_STAT n := chReg_ne (u := 9) (o := 0x4) (u' := 10) (o' := 0) (by decide)

theorem loopStat_ne_clvStat : LOOP_STAT n ≠ CLV_STAT n := chReg_ne (u := 9) (o := 0x4) (u' := 13) (o' := 0) (by decide)

theorem holdStat_ne_clvStat : HOLD_STAT n ≠ CLV_STAT n := chReg_ne (u := 10) (o := 0) (u' := 13) (o' := 0) (by decide)

theorem setMode_eq (s : State) (n m : Nat) :
    s.setMode n m = (((s.put (LOOP_STAT_MODE n) m).put (LOOP_STAT_HOLD_ACTIVE n) (ofBool (decide (m = mHold)))).put (HOLD_STAT_ACTIVE n)
      (ofBool (decide (m = mHold)))).put (CLV_STAT_SRC n) (ofBool (decide (m = mHold))) := rfl

theorem State.rd_put_other (s : State) {f : Fld} {a : Nat} (x : Nat) (h : a ≠ f.addr) : (s.put f x).rd a = s.rd a := State.rd_wr_other s _ h

theorem setMode_rd {m a : Nat} (s : State) (hl : a ≠ LOOP_STAT n) (hh : a ≠ HOLD_STAT n) (hc : a ≠ CLV_STAT n) :
    (s.setMode n m).rd a = s.rd a := by
  rw [setMode_eq, State.rd_put_other (f := CLV_STAT_SRC n) _ _ hc, State.rd_put_other (f := HOLD_STAT_ACTIVE n) _ _ hh,
    State.rd_put_other (f := LOOP_STAT_HOLD_ACTIVE n) _ _ hl, State.rd_put_other (f := LOOP_STAT_MODE n) _ _ hl]

theorem setMode_rdCh {m u o : Nat} (s : State) (h : u * 0x1000000 + o ≠ 9 * 0x1000000 + 0x4 ∧ u * 0x1000000 + o ≠ 10 * 0x1000000 + 0 ∧
    u * 0x1000000 + o ≠ 13 * 0x1000000 + 0 := by decide) : (s.setMode n m).rd (chReg n u o) = s.rd (chReg n u o) := by
  obtain ⟨hl, hh, hc⟩ := h
  exact setMode_rd s (chReg_ne (u' := 9) (o' := 0x4) hl) (chReg_ne (u' := 10) (o' := 0) hh) (chReg_ne (u' := 13) (o' := 0) hc)

theorem setMode_num_loopFault (s : State) (n m : Nat) : (s.setMode n m).num (LOOP_FAULT n) = s.num (LOOP_FAULT n) :=
  State.num_of_rd (setMode_rdCh s (u := 9) (o := 0x54))

theorem setMode_mode (h : s.Wf) {m : Nat} (hm : m < 16) : (s.setMode n m).mode n = m := by
  rw [setMode_eq, State.mode, State.get_put_other (f := CLV_STAT_SRC n) _ _ loopStat_ne_clvStat,
    State.get_put_other (f := HOLD_STAT_ACTIVE n) _ _ loopStat_ne_holdStat,
    State.get_put_of_apart (h.put _ _) (LOOP_STAT_HOLD_ACTIVE n) (LOOP_STAT_MODE n) rfl rfl]
  exact State.get_put_fits h rfl hm

/-- The other fields of LOOP_STAT are no part of a change of mode. -/
theorem setMode_loopStat (h : s.Wf) {m : Nat} (g : Fld) (ha : g.addr = LOOP_STAT n) (hm : (LOOP_STAT_MODE n).apart g = true)
    (hh : (LOOP_STAT_HOLD_ACTIVE n).apart g = true) : (s.setMode n m).get g = s.get g := by
  rw [setMode_eq, State.get_put_other (f := CLV_STAT_SRC n) _ _ (ha ▸ loopStat_ne_clvStat),
    State.get_put_other (f := HOLD_STAT_ACTIVE n) _ _ (ha ▸ loopStat_ne_holdStat),
    State.get_put_of_apart (h.put _ _) (LOOP_STAT_HOLD_ACTIVE n) g ha hh, State.get_put_of_apart h (LOOP_STAT_MODE n) g ha hm]

theorem setMode_avail (h : s.Wf) (m : Nat) : (s.setMode n m).flag (HOLD_STAT_AVAIL n) = s.flag (HOLD_STAT_AVAIL n) := by
  rw [setMode_eq, State.flag_put_other (f := CLV_STAT_SRC n) _ _ holdStat_ne_clvStat,
    State.flag_put_apart ((h.put _ _).put _ _) (HOLD_STAT_ACTIVE n) (HOLD_STAT_AVAIL n) rfl rfl,
    State.flag_put_other (f := LOOP_STAT_HOLD_ACTIVE n) _ _ loopStat_ne_holdStat.symm,
    State.flag_put_other (f := LOOP_STAT_MODE n) _ _ loopStat_ne_holdStat.symm]

theorem setMode_seq (h : s.Wf) (m : Nat) : (s.setMode n m).get (CLV_STAT_SEQ n) = s.get (CLV_STAT_SEQ n) := by
  rw [setMode_eq, State.get_put_of_apart (((h.put _ _).put _ _).put _ _) (CLV_STAT_SRC n) (CLV_STAT_SEQ n) rfl rfl,
    State.get_put_other (f := HOLD_STAT_ACTIVE n) _ _ holdStat_ne_clvStat.symm,
    State.get_put_other (f := LOOP_STAT_HOLD_ACTIVE n) _ _ loopStat_ne_clvStat.symm,
    State.get_put_other (f := LOOP_STAT_MODE n) _ _ loopStat_ne_clvStat.symm]

theorem setMode_loopOf (s : State) (n m k : Nat) : (s.setMode n m).loopOf k = s.loopOf k := by
  rw [setMode_eq, State.put_loopOf, State.put_loopOf, State.put_loopOf, State.put_loopOf]

theorem State.Wf.setMode (h : s.Wf) (n m : Nat) : (s.setMode n m).Wf := (Evolves.refl s).setMode.wf h

end

end Sys2Proof.Machine

namespace Sys2Proof.Machine

/-! ## Seeks, unloads and frames of a lane (R131, R132, R141, R158, R160, R161) -/

section
variable {s : State} {n : Nat}

/-! ### Seeks, GO and unloads -/

/-- A planned seek writes A_MAX, unless an override holds it, and LOOP's plan. -/
theorem planSeek_plans (s : State) (n : Nat) (target : Int) (prof : Nat) : ∃ x p, s.planSeek n target prof =
    (if s.overrides.contains (LOOP_A_MAX n) then s else s.setNum (LOOP_A_MAX n) x).modLoop n (fun l => { l with plan := some p }) :=
  ⟨_, _, rfl⟩

theorem planSeek_rd {a : Nat} (s : State) (target : Int) (prof : Nat) (ha : a ≠ LOOP_A_MAX n) : (s.planSeek n target prof).rd a = s.rd a := by
  obtain ⟨x, p, e⟩ := planSeek_plans s n target prof
  rw [e, State.modLoop_rd]
  split
  · rfl
  · exact State.rd_wr_other s _ ha

theorem planSeek_loopOf (hn : n < 4) (s : State) (target : Int) (prof : Nat) :
    ∃ p, (s.planSeek n target prof).loopOf n = { s.loopOf n with plan := some p } := by
  obtain ⟨x, p, e⟩ := planSeek_plans s n target prof
  refine ⟨p, ?_⟩
  rw [e, State.loopOf_modLoop hn]
  split
  · rfl
  · rw [State.setNum_loopOf]

/-- LOOP's counts begin again at a GO. -/
def State.goBegun (s : State) (n : Nat) : State :=
  s.modLoop n (fun l => { l with feTrips := 0, settle := 0, sinceGo := 0, coast := 0, next := none })

/-- The seek of a GO. -/
def State.goPlanned (s : State) (n : Nat) : State :=
  (s.goBegun n).planSeek n (s.targetReg n) ((s.goBegun n).get (SEEK_POLICY_PROFILE n))

/-- A GO within two tracks of the estimate. -/
def State.goSettles (s : State) (n : Nat) : State :=
  ((if (s.goPlanned n).mode n = mSettle ∨ (s.goPlanned n).mode n = mFollow then s.goPlanned n else (s.goPlanned n).presetFrom n).setMode n
    mSettle).modLoop n (fun l => { l with plan := none })

theorem go_eq (s : State) (n : Nat) :
    s.go n = if (((s.goPlanned n).loopOf n).x - s.targetReg n).natAbs ≤ 2 * 0x100000000 then s.goSettles n else (s.goPlanned n).setMode n mSeek :=
  rfl

theorem goPlanned_x (hn : n < 4) (s : State) : ((s.goPlanned n).loopOf n).x = (s.loopOf n).x := by
  obtain ⟨p, hp⟩ := planSeek_loopOf hn (s.goBegun n) (s.targetReg n) ((s.goBegun n).get (SEEK_POLICY_PROFILE n))
  rw [State.goPlanned, hp, State.goBegun, State.loopOf_modLoop hn]

/-- A GO settles within two tracks of the estimate, and seeks from further. -/
theorem go_mode (h : s.Wf) (hn : n < 4) :
    (s.go n).mode n = if ((s.loopOf n).x - s.targetReg n).natAbs ≤ 2 * 0x100000000 then mSettle else mSeek := by
  have hw : (s.goPlanned n).Wf := (Evolves.refl s).modLoop.planSeek.wf h
  rw [go_eq, goPlanned_x hn]
  split
  · rw [State.goSettles, modLoop_mode]
    exact setMode_mode ((Evolves.ite (.refl _) (Evolves.refl _).presetFrom).wf hw) (by decide)
  · exact setMode_mode hw (by decide)

/-- An unload that begins with VEL frames. -/
def State.velUnload (s : State) (n : Nat) : State :=
  (s.setMode n mUnloading).modLoop n (fun l => { l with velOut := true, next := none, plan := none })

theorem startUnload_of_lost (h : s.mode n = mLost ∨ s.mode n = mLoading) : s.startUnload n = s.velUnload n := by
  have hl : (decide (s.mode n = mLost) || decide (s.mode n = mLoading) || s.flag (DEMOD_STAT_LOSS n)) = true := by
    rcases h with h | h
    · rw [decide_eq_true h, Bool.true_or, Bool.true_or]
    · rw [decide_eq_true h, Bool.or_true, Bool.true_or]
  rw [State.startUnload, hl]
  rfl

/-- Without a position an unload begins with VEL frames. -/
theorem velUnload_sets (h : s.Wf) (hn : n < 4) :
    (s.velUnload n).mode n = mUnloading ∧ ((s.velUnload n).loopOf n).velOut = true ∧
      (s.velUnload n).num (LOOP_FAULT n) = s.num (LOOP_FAULT n) := by
  rw [State.velUnload, modLoop_mode, setMode_mode h (by decide), State.loopOf_modLoop hn, State.modLoop_num, setMode_num_loopFault]
  exact ⟨rfl, rfl, rfl⟩

theorem State.setClv_rd (s : State) (n : Nat) (b : Bool) (a : Nat) : (s.setClv n b).rd a = s.rd a := rfl

theorem setClv_mode (s : State) (m : Nat) (b : Bool) (k : Nat) : (s.setClv m b).mode k = s.mode k := rfl

theorem State.setClv_loop (s : State) (n : Nat) (b : Bool) : (s.setClv n b).loop = s.loop := rfl

theorem setClv_due (s : State) (hn : n < 4) (b : Bool) : (s.setClv n b).clvDue n = b := atD_modAt_self hn

theorem State.modLoop_clvDue (s : State) (m : Nat) (f : Loop → Loop) (k : Nat) : (s.modLoop m f).clvDue k = s.clvDue k := rfl

theorem State.put_clvDue (s : State) (f : Fld) (x k : Nat) : (s.put f x).clvDue k = s.clvDue k := rfl

theorem retractLane_mode (h : s.Wf) : (s.retractLane n).mode n = mRetracted := by
  rw [State.retractLane, modLoop_mode, setClv_mode]
  exact setMode_mode h (by decide)

theorem retractLane_due (s : State) (hn : n < 4) : (s.retractLane n).clvDue n = true := by
  rw [State.retractLane, State.modLoop_clvDue, setClv_due _ hn]

theorem retractLane_rd (s : State) (n a : Nat) : (s.retractLane n).rd a = (s.setMode n mRetracted).rd a := by
  rw [State.retractLane, State.modLoop_rd, State.setClv_rd]

/-! ### Frames of the lane -/

/-- The frame CLASPV sends last. -/
def State.setFrame (s : State) (n x : Nat) : State := { s with clvFrame := modAt s.clvFrame n (fun _ => x) }

theorem State.setFrame_rd (s : State) (n x a : Nat) : (s.setFrame n x).rd a = s.rd a := rfl

theorem State.setFrame_loop (s : State) (n x : Nat) : (s.setFrame n x).loop = s.loop := rfl

theorem State.draw_rd (s : State) (w a : Nat) : (s.draw w).2.rd a = s.rd a := rfl

theorem State.draw_loop (s : State) (w : Nat) : (s.draw w).2.loop = s.loop := rfl

/-- A frame goes out. -/
def State.sendClasp (s : State) (n cmd : Nat) (vcm ma : Int) (seq : Nat) : State :=
  ((s.put (CLV_STAT_CMD n) cmd).setNum (CLV_OUT n) (toBits 16 ma * 0x10000 + toBits 16 vcm)).setFrame n (vcmFrame cmd vcm ma seq)

/-- The number of the next frame. -/
def State.nextSeq (s : State) (n : Nat) : Nat := (s.get (CLV_STAT_SEQ n) + 1) % 16

/-- The state with the next frame's number. -/
def State.stepSeq (s : State) (n : Nat) : State := s.put (CLV_STAT_SEQ n) (s.nextSeq n)

/-- A due RETRACT takes the frame's place. -/
def State.sendRetract (s : State) (n seq : Nat) : State :=
  ((s.draw 1).2.setClv n false).sendClasp n vcRetract (sx 16 (s.draw 1).1) (sx 16 ((s.draw 1).1 / 0x10000)) seq

theorem claspFrame_eq (s : State) (n cmd : Nat) (vcm ma : Int) :
    s.claspFrame n cmd vcm ma =
      if (s.stepSeq n).clvDue n then (s.stepSeq n).sendRetract n (s.nextSeq n) else (s.stepSeq n).sendClasp n cmd vcm ma (s.nextSeq n) := rfl

theorem claspFrame_of_free (h : s.clvDue n = false) (cmd : Nat) (vcm ma : Int) :
    s.claspFrame n cmd vcm ma = (s.stepSeq n).sendClasp n cmd vcm ma (s.nextSeq n) := by
  rw [claspFrame_eq, State.stepSeq, State.put_clvDue, h, if_neg Bool.false_ne_true]

theorem sendClasp_rd {a cmd seq : Nat} {vcm ma : Int} (s : State) (hs : a ≠ CLV_STAT n) (ho : a ≠ CLV_OUT n) :
    (s.sendClasp n cmd vcm ma seq).rd a = s.rd a := by
  rw [State.sendClasp, State.setFrame_rd, State.setNum, State.rd_wr_other _ _ ho, State.rd_put_other s (f := CLV_STAT_CMD n) _ hs]

theorem sendClasp_loop {cmd seq : Nat} {vcm ma : Int} (s : State) : (s.sendClasp n cmd vcm ma seq).loop = s.loop := by
  rw [State.sendClasp, State.setFrame_loop, State.setNum_loop, State.put_loop]

theorem sendRetract_rd {a seq : Nat} (s : State) (hs : a ≠ CLV_STAT n) (ho : a ≠ CLV_OUT n) : (s.sendRetract n seq).rd a = s.rd a := by
  rw [State.sendRetract, sendClasp_rd _ hs ho, State.setClv_rd, State.draw_rd]

theorem sendRetract_loop {seq : Nat} (s : State) : (s.sendRetract n seq).loop = s.loop := by
  rw [State.sendRetract, sendClasp_loop, State.setClv_loop, State.draw_loop]

theorem clvStat_ne_clvOut : CLV_STAT n ≠ CLV_OUT n := chReg_ne (u := 13) (o := 0) (u' := 13) (o' := 0x4) (by decide)

theorem loopStat_ne_clvOut : LOOP_STAT n ≠ CLV_OUT n := chReg_ne (u := 9) (o := 0x4) (u' := 13) (o' := 0x4) (by decide)

/-- A frame's command stands in CLV_STAT, whose other fields stay. -/
theorem sendClasp_stat {f : Fld} {cmd seq : Nat} {vcm ma : Int} (s : State) (hf : f.addr = CLV_STAT n) :
    (s.sendClasp n cmd vcm ma seq).get f = (s.put (CLV_STAT_CMD n) cmd).get f := by
  refine State.get_of_rd ?_
  rw [State.sendClasp, State.setFrame_rd, State.setNum, State.rd_wr_other _ _ (hf ▸ clvStat_ne_clvOut)]

theorem sendClasp_seq {cmd seq : Nat} {vcm ma : Int} (h : s.Wf) :
    (s.sendClasp n cmd vcm ma seq).get (CLV_STAT_SEQ n) = s.get (CLV_STAT_SEQ n) := by
  rw [sendClasp_stat s rfl, State.get_put_of_apart h (CLV_STAT_CMD n) (CLV_STAT_SEQ n) rfl rfl]

theorem sendClasp_cmd {cmd seq : Nat} {vcm ma : Int} (h : s.Wf) (hc : cmd < 16) :
    (s.sendClasp n cmd vcm ma seq).get (CLV_STAT_CMD n) = cmd := by
  rw [sendClasp_stat s rfl]
  exact State.get_put_fits h rfl hc

theorem toBits16_pair_lt (a b : Int) : toBits 16 a * 0x10000 + toBits 16 b < 2 ^ 32 := by
  have ha := toBits_lt 16 a
  have hb := toBits_lt 16 b
  omega

theorem sendClasp_out {cmd seq : Nat} {vcm ma : Int} (h : s.Wf) :
    (s.sendClasp n cmd vcm ma seq).num (CLV_OUT n) = toBits 16 ma * 0x10000 + toBits 16 vcm := by
  rw [State.sendClasp, State.num_of_rd (State.setFrame_rd _ _ _ _), State.num_setNum_self (h.put (CLV_STAT_CMD n) cmd) (toBits16_pair_lt ma vcm)]

theorem stepSeq_seq (h : s.Wf) : (s.stepSeq n).get (CLV_STAT_SEQ n) = s.nextSeq n :=
  State.get_put_fits h rfl (Nat.mod_lt _ (by decide))

theorem State.Wf.stepSeq (h : s.Wf) (n : Nat) : (s.stepSeq n).Wf := h.put _ _

theorem sendRetract_seq {seq : Nat} (h : s.Wf) : (s.sendRetract n seq).get (CLV_STAT_SEQ n) = s.get (CLV_STAT_SEQ n) := by
  rw [State.sendRetract, sendClasp_seq ((Evolves.refl s).draw.setClv.wf h)]
  refine State.get_of_rd ?_
  rw [State.setClv_rd, State.draw_rd]

theorem claspFrame_seq (h : s.Wf) (cmd : Nat) (vcm ma : Int) : (s.claspFrame n cmd vcm ma).get (CLV_STAT_SEQ n) = s.nextSeq n := by
  rw [claspFrame_eq]
  split
  · rw [sendRetract_seq (h.stepSeq n), stepSeq_seq h]
  · rw [sendClasp_seq (h.stepSeq n), stepSeq_seq h]

theorem claspFrame_rd {a : Nat} (s : State) (cmd : Nat) (vcm ma : Int) (hs : a ≠ CLV_STAT n) (ho : a ≠ CLV_OUT n) :
    (s.claspFrame n cmd vcm ma).rd a = s.rd a := by
  have hstep : (s.stepSeq n).rd a = s.rd a := State.rd_put_other s (f := CLV_STAT_SEQ n) _ hs
  rw [claspFrame_eq]
  split
  · rw [sendRetract_rd _ hs ho, hstep]
  · rw [sendClasp_rd _ hs ho, hstep]

theorem claspFrame_loop (s : State) (n cmd : Nat) (vcm ma : Int) : (s.claspFrame n cmd vcm ma).loop = s.loop := by
  have hstep : (s.stepSeq n).loop = s.loop := State.put_loop ..
  rw [claspFrame_eq]
  split
  · rw [sendRetract_loop, hstep]
  · rw [sendClasp_loop, hstep]

end

end Sys2Proof.Machine

namespace Sys2Proof.Machine

/-! ## LOOP's commands (R132, R155) -/

section
variable {s : State} {ch : Ch} {o : Nat}

/-! ### Accesses of a LOOP register -/

theorem loopAt_chReg (ch : Ch) (ho : o < 0x1000000) : loopAt (chReg ch 9 o) = some ch.val := by
  have hd : addrDie (chReg ch 9 o) = ch + 1 := addrDie_chReg ch.isLt (by omega)
  have hu : addrUnit (chReg ch 9 o) = 9 := addrUnit_chReg _ _ _ (by decide) ho
  have hc (n : Nat) : addrUnit (LOOP_CMD n) = 9 := addrUnit_chReg n 9 0 (by decide) (by decide)
  simp only [loopAt, hd, hu, hc, decide_true, Bool.and_true]
  clear hd hu
  revert ch
  decide

theorem loopWaits_chReg (s : State) (ch : Ch) (ho : o < 0x1000000) :
    s.loopWaits (chReg ch 9 o) = ((s.loopOf ch).restarting && s.dieOn (ch + 1)) := by
  rw [State.loopWaits, loopAt_chReg ch ho]

/-- A LOOP that does not restart takes the access at once. -/
theorem loopAccess_of_running (hd : s.dieOn (ch + 1) = true) (hr : (s.loopOf ch).restarting = false) (ho : o < 0x1000000) (v : Nat)
    (f : State → State) : s.loopAccess ch (chReg ch 9 o) v f = f (s.answer .done) := by
  have hw : ¬s.loopWaits (chReg ch 9 o) = true := by
    rw [loopWaits_chReg s ch ho, hr]
    exact Bool.false_ne_true
  rw [State.loopAccess, if_neg hw, access_of_on f hd]

/-- A LOOP that restarts keeps the access behind those that came before it. -/
theorem loopAccess_of_restarting (hd : s.dieOn (ch + 1) = true) (hr : (s.loopOf ch).restarting = true) (ho : o < 0x1000000) (v : Nat)
    (f : State → State) : s.loopAccess ch (chReg ch 9 o) v f =
      (s.modLoop ch (fun l => { l with waiting := l.waiting ++ [(chReg ch 9 o, some v)] })).answer .waits := by
  have hw : s.loopWaits (chReg ch 9 o) = true := by
    rw [loopWaits_chReg s ch ho, hr, hd]
    rfl
  rw [State.loopAccess, if_pos hw, State.holdAccess, loopAt_chReg ch ho]

/-! ### A command that waits for the tick -/

theorem rcvFoul_frame (s : State) (n : Nat) :
    (s.rcvFoul n).bank = s.bank ∧ (s.rcvFoul n).loop = s.loop ∧ (s.rcvFoul n).resp = s.resp := by
  unfold State.rcvFoul
  split <;> exact ⟨rfl, rfl, rfl⟩

/-- The state after a waiting command was replaced. -/
def State.noteLost (s : State) (n : Nat) : State := if (s.loopOf n).cmd.isSome then s.put (LOOP_STAT_CMD_LOST n) 1 else s

theorem writeCmd_eq (s : State) (n code : Nat) (keep : Bool) :
    s.writeCmd n code keep = (s.noteLost n).modLoop n (fun l => { l with cmd := some (code, keep) }) := rfl

theorem State.modLoop_flag (s : State) (n : Nat) (f : Loop → Loop) (g : Fld) : (s.modLoop n f).flag g = s.flag g := rfl

theorem State.modLoop_resp (s : State) (n : Nat) (f : Loop → Loop) : (s.modLoop n f).resp = s.resp := rfl

theorem noteLost_resp (s : State) (n : Nat) : (s.noteLost n).resp = s.resp := by
  unfold State.noteLost
  split
  · exact State.put_resp ..
  · rfl

theorem noteLost_loopOf (s : State) (n k : Nat) : (s.noteLost n).loopOf k = s.loopOf k := by
  unfold State.noteLost
  split
  · exact State.put_loopOf ..
  · rfl

theorem writeCmd_mode (h : s.Wf) (n code : Nat) (keep : Bool) : (s.writeCmd n code keep).mode n = s.mode n := by
  rw [writeCmd_eq, modLoop_mode, State.noteLost]
  split
  · exact State.get_put_of_apart h (LOOP_STAT_CMD_LOST n) (LOOP_STAT_MODE n) rfl rfl
  · rfl

theorem writeCmd_lost (h : s.Wf) {n : Nat} (hc : (s.loopOf n).cmd.isSome = true) (code : Nat) (keep : Bool) :
    (s.writeCmd n code keep).flag (LOOP_STAT_CMD_LOST n) = true := by
  rw [writeCmd_eq, State.modLoop_flag, State.noteLost, if_pos hc]
  exact State.flag_put_one h rfl

theorem writeCmd_resp (s : State) (n code : Nat) (keep : Bool) : (s.writeCmd n code keep).resp = s.resp := by
  rw [writeCmd_eq, State.modLoop_resp, noteLost_resp]

theorem writeCmd_loopOf (s : State) {n : Nat} (hn : n < 4) (code : Nat) (keep : Bool) :
    (s.writeCmd n code keep).loopOf n = { s.loopOf n with cmd := some (code, keep) } := by
  rw [writeCmd_eq, State.loopOf_modLoop hn, noteLost_loopOf]

/-- Each command of LOOP_CMD waits for the tick, or for the end of a restart. -/
theorem runs_loopCmd {c : Instr} {code : Nat} {keep : Bool} (he : exec c s = .next (s.loopCmd ch code keep)) (h : s.Wf)
    (hd : s.dieOn (ch + 1) = true) :
    Runs c s fun t =>
      t.mode ch = s.mode ch ∧
      ((s.loopOf ch).restarting = false → t.resp = .done ∧ (t.loopOf ch).cmd = some (code, keep)) ∧
      ((s.loopOf ch).restarting = false → (s.loopOf ch).cmd.isSome = true → t.flag (LOOP_STAT_CMD_LOST ch) = true) ∧
      ((s.loopOf ch).restarting = true →
        t.resp = .waits ∧ (t.loopOf ch).waiting = (s.loopOf ch).waiting ++ [(LOOP_CMD ch, some (code + 256 * ofBool keep))]) := by
  refine ⟨_, he, ?_⟩
  cases hr : (s.loopOf ch).restarting with
  | false =>
    obtain ⟨hbank, hloop, hresp⟩ := rcvFoul_frame (s.answer .done) ch
    have hw : ((s.answer .done).rcvFoul ch).Wf := (Evolves.refl s).answer.rcvFoul.wf h
    have hmode : ((s.answer .done).rcvFoul ch).mode ch = s.mode ch := State.get_of_rd (by rw [State.rd, hbank]; rfl)
    have hcmd : ((s.answer .done).rcvFoul ch).loopOf ch = s.loopOf ch := congrArg (atD · ch Loop.reset) hloop
    have e : s.loopCmd ch code keep = ((s.answer .done).rcvFoul ch).writeCmd ch code keep :=
      loopAccess_of_running hd hr (o := 0) (by decide) _ _
    rw [e]
    refine ⟨(writeCmd_mode hw _ _ _).trans hmode, fun _ => ⟨(writeCmd_resp _ _ _ _).trans hresp, ?_⟩, fun _ hc => ?_, nofun⟩
    · rw [writeCmd_loopOf _ ch.isLt]
    · exact writeCmd_lost hw (by rwa [hcmd]) _ _
  | true =>
    have e : s.loopCmd ch code keep = _ := loopAccess_of_restarting hd hr (o := 0) (by decide) _ _
    rw [e]
    exact ⟨rfl, nofun, nofun, fun _ => ⟨rfl, congrArg Loop.waiting (State.loopOf_modLoop ch.isLt)⟩⟩

end

/-- Settles O8: the six commands are one write of LOOP_CMD, each with its code. -/
theorem loopCommandsWaitForTheTick : Obligations.LOOP_commands_wait_for_the_tick := by
  unfold Obligations.LOOP_commands_wait_for_the_tick
  exact ⟨fun _ _ h hd => runs_loopCmd rfl h hd, fun _ _ _ h hd => runs_loopCmd rfl h hd, fun _ _ h hd => runs_loopCmd rfl h hd,
    fun _ _ h hd => runs_loopCmd rfl h hd, fun _ _ h hd => runs_loopCmd rfl h hd, fun _ _ h hd => runs_loopCmd rfl h hd⟩

end Sys2Proof.Machine

namespace Sys2Proof.Machine

/-! ## LOOP's supervision (R146, R149, R157, R158, R161) -/

section
variable {s : State} {n : Nat}

/-- LOOP has entered LOST. -/
structure Lost (n : Nat) (t : State) : Prop where
  mode : t.mode n = mLost
  lostRun : (t.loopOf n).lostRun = 0
  coast : (t.loopOf n).coast = 0
  fault : bitOf (t.num (LOOP_FAULT n)) 7 = true

theorem enterLost_lost (h : s.Wf) (hn : n < 4) : Lost n (s.enterLost n) := by
  unfold State.enterLost
  extract_lets t
  have ht : FaultSet (loopFault n) 7 s t :=
    (loopFaultBit_set h hn (by decide) sevNote clsCorrected).then (isEngineReg_loopFault hn) (.raise (.refl _))
  have hw : t.Wf := (Evolves.refl s).loopFaultBit.raise.wf h
  refine ⟨?_, ?_, ?_, ?_⟩
  · rw [modLoop_mode, setMode_mode hw (by decide)]
  · rw [State.loopOf_modLoop hn]
  · rw [State.loopOf_modLoop hn]
  · rw [State.modLoop_num, setMode_num_loopFault]
    exact ht.bit

/-! ### The following error (R146) -/

/-- A trip is recorded, and FE_CNT begins again. -/
def State.feTripped (s : State) (n : Nat) : State :=
  ((s.loopFaultBit n 6 sevNote clsCorrected).raise (chEvent n 20)).put (LOOP_STAT_FE_CNT n) 0

theorem feTripped_wf (h : s.Wf) : (s.feTripped n).Wf := (Evolves.refl s).loopFaultBit.raise.put.wf h

theorem feTripped_set (h : s.Wf) (hn : n < 4) :
    FaultSet (loopFault n) 6 s ((s.loopFaultBit n 6 sevNote clsCorrected).raise (chEvent n 20)) :=
  (loopFaultBit_set h hn (by decide) _ _).then (isEngineReg_loopFault hn) (.raise (.refl _))

theorem feTripped_loopOf (h : s.Wf) (hn : n < 4) : (s.feTripped n).loopOf n = s.loopOf n := by
  rw [State.feTripped, State.put_loopOf, (feTripped_set h hn).loopOf]

theorem feTripped_fault (h : s.Wf) (hn : n < 4) : bitOf ((s.feTripped n).num (LOOP_FAULT n)) 6 = true := by
  have hne : LOOP_FAULT n ≠ (LOOP_STAT_FE_CNT n).addr := chReg_ne (u := 9) (o := 0x54) (u' := 9) (o' := 0x4) (by decide)
  rw [State.feTripped, State.num, State.put, State.rd_wr_other _ _ hne, ← State.num]
  exact (feTripped_set h hn).bit

theorem feTripped_count (h : s.Wf) : (s.feTripped n).get (LOOP_STAT_FE_CNT n) = 0 :=
  State.get_put_fits ((Evolves.refl s).loopFaultBit.raise.wf h) rfl (Nat.two_pow_pos _)

/-- A trip that replans into SEEK. -/
def State.feReplanned (s : State) (n : Nat) : State :=
  (s.feTripped n).planSeek n ((s.feTripped n).targetReg n) ((s.feTripped n).get (SEEK_POLICY_PROFILE n))

/-- In SEEK and SETTLE a trip replans where it is the first, and loses the position otherwise. -/
theorem feTrip_of_seeking (h : s.Wf) (hn : n < 4) (hm : s.mode n = mSeek ∨ s.mode n = mSettle)
    (hc : max 1 (s.get (FE_CFG_TIME n)) ≤ s.get (LOOP_STAT_FE_CNT n)) :
    feTrip n s =
      if (s.loopOf n).feTrips = 0 then ((s.feReplanned n).setMode n mSeek).modLoop n (fun l => { l with feTrips := 1, next := none })
      else (s.feTripped n).enterLost n := by
  have hmode : s.mode n = mSeek ∨ s.mode n = mSettle ∨ s.mode n = mFollow := hm.imp id .inl
  have hfollow : s.mode n ≠ mFollow := by rcases hm with hm | hm <;> rw [hm] <;> decide
  have e : feTrip n s = _ := if_pos ⟨hmode, hc⟩
  rw [e, if_neg hfollow, ← feTripped_loopOf h hn]
  rfl

theorem feReplanned_rd (s : State) {u o : Nat} (ho : u * 0x1000000 + o ≠ 9 * 0x1000000 + 0x1018 := by decide) :
    (s.feReplanned n).rd (chReg n u o) = (s.feTripped n).rd (chReg n u o) :=
  planSeek_rd (s.feTripped n) _ _ (chReg_ne (u' := 9) (o' := 0x1018) ho)

theorem feTrip_first (h : s.Wf) (hn : n < 4) (hm : s.mode n = mSeek ∨ s.mode n = mSettle)
    (hc : max 1 (s.get (FE_CFG_TIME n)) ≤ s.get (LOOP_STAT_FE_CNT n)) (hf : (s.loopOf n).feTrips = 0) :
    (feTrip n s).mode n = mSeek ∧ ((feTrip n s).loopOf n).feTrips = 1 ∧ (feTrip n s).get (LOOP_STAT_FE_CNT n) = 0 ∧
      bitOf ((feTrip n s).num (LOOP_FAULT n)) 6 = true := by
  have hw : (s.feReplanned n).Wf := (Evolves.refl _).planSeek.wf (feTripped_wf h)
  have hcount : (s.feReplanned n).get (LOOP_STAT_FE_CNT n) = 0 :=
    (State.get_of_rd (f := LOOP_STAT_FE_CNT n) (feReplanned_rd s (u := 9) (o := 0x4))).trans (feTripped_count h)
  have hfault : (s.feReplanned n).num (LOOP_FAULT n) = (s.feTripped n).num (LOOP_FAULT n) :=
    State.num_of_rd (feReplanned_rd s (u := 9) (o := 0x54))
  rw [feTrip_of_seeking h hn hm hc, if_pos hf, State.loopOf_modLoop hn, modLoop_mode, setMode_mode hw (by decide), State.modLoop_get,
    setMode_loopStat hw (LOOP_STAT_FE_CNT n) rfl rfl rfl, hcount, State.modLoop_num, setMode_num_loopFault, hfault]
  exact ⟨rfl, rfl, rfl, feTripped_fault h hn⟩

theorem feTrip_second (h : s.Wf) (hn : n < 4) (hm : s.mode n = mSeek ∨ s.mode n = mSettle)
    (hc : max 1 (s.get (FE_CFG_TIME n)) ≤ s.get (LOOP_STAT_FE_CNT n)) (hf : (s.loopOf n).feTrips ≠ 0) : Lost n (feTrip n s) := by
  rw [feTrip_of_seeking h hn hm hc, if_neg hf]
  exact enterLost_lost (feTripped_wf h) hn

/-! ### Loss and recovery of the position (R149) -/

theorem lostEntry_lost (h : s.Wf) (hn : n < 4) (hm : s.mode n = mSettle ∨ s.mode n = mFollow)
    (hc : max 1 (s.get (LOSS_CFG_COAST n)) ≤ (s.loopOf n).coast ∨ s.flag (DEMOD_STAT_LOSS n) = true) : Lost n (lostEntry n s) := by
  have e : lostEntry n s = s.enterLost n := if_pos ⟨hm, hc⟩
  rw [e]
  exact enterLost_lost h hn

theorem positionRecovered_follows (h : s.Wf) (hn : n < 4) (hm : s.mode n = mLost) (hv : 8 ≤ (s.loopOf n).validRun) :
    (positionRecovered n s).mode n = mFollow ∧ ((positionRecovered n s).loopOf n).coast = 0 := by
  have e : positionRecovered n s = _ := if_pos ⟨hm, hv⟩
  rw [e, State.loopOf_modLoop hn, modLoop_mode, setMode_mode ((Evolves.refl s).setTarget.presetFrom.wf h) (by decide)]
  exact ⟨rfl, rfl⟩

theorem lostRetract_unloads (h : s.Wf) (hn : n < 4) (hm : s.mode n = mLost) (hr : s.get (LOSS_CFG_RETRACT n) ≤ (s.loopOf n).lostRun) :
    (lostRetract n s).mode n = mUnloading ∧ ((lostRetract n s).loopOf n).velOut = true := by
  have e : lostRetract n s = s.startUnload n := if_pos ⟨hm, hr⟩
  obtain ⟨hmode, hvel, -⟩ := velUnload_sets h hn
  rw [e, startUnload_of_lost (.inl hm)]
  exact ⟨hmode, hvel⟩

/-! ### Load and unload (R157, R158) -/

theorem loadTimeout_unloads (h : s.Wf) (hn : n < 4) (hm : s.mode n = mLoading) :
    (loadTimeout n s).mode n = mUnloading ∧ bitOf ((loadTimeout n s).num (LOOP_FAULT n)) 11 = true := by
  have e : loadTimeout n s = (s.loopFaultBit n 11 sevNote clsCorrected).startUnload n := if_pos hm
  have hf : FaultSet (loopFault n) 11 s (s.loopFaultBit n 11 sevNote clsCorrected) := loopFaultBit_set h hn (by decide) _ _
  obtain ⟨hmode, -, hfault⟩ := velUnload_sets ((Evolves.refl s).loopFaultBit.wf h : (s.loopFaultBit n 11 sevNote clsCorrected).Wf) hn
  rw [e, startUnload_of_lost (.inr ((hf.mode hn).trans hm)), hfault]
  exact ⟨hmode, hf.bit⟩

/-- A lane that parks after its VEL frames. -/
def State.parked (s : State) (n : Nat) : State := (s.setMode n mParked).modLoop n (fun l => { l with velOut := false })

theorem unloadComplete_parks (h : s.Wf) (hn : n < 4) (hm : s.mode n = mUnloading) (hv : (s.loopOf n).velOut = true) :
    (unloadComplete n s).mode n = mParked ∧ ((unloadComplete n s).loopOf n).velOut = false ∧
      (unloadComplete n s).get (CLV_STAT_SEQ n) = (s.get (CLV_STAT_SEQ n) + 1) % 16 := by
  have e : unloadComplete n s = (s.parked n).claspFrame n vcHoldZero 0 0 := if_pos ⟨hm, hv⟩
  have hw : (s.parked n).Wf := (h.setMode n mParked).modLoop n _
  have hseq : (s.parked n).get (CLV_STAT_SEQ n) = s.get (CLV_STAT_SEQ n) := by
    rw [State.parked, State.modLoop_get, setMode_seq h]
  have hmode : (s.parked n).mode n = mParked := by
    rw [State.parked, modLoop_mode, setMode_mode h (by decide)]
  have hkept : ((s.parked n).claspFrame n vcHoldZero 0 0).mode n = (s.parked n).mode n :=
    State.get_of_rd (f := LOOP_STAT_MODE n) (claspFrame_rd _ _ _ _ loopStat_ne_clvStat loopStat_ne_clvOut)
  have hloop : ((s.parked n).claspFrame n vcHoldZero 0 0).loopOf n = (s.parked n).loopOf n :=
    congrArg (atD · n Loop.reset) (claspFrame_loop ..)
  rw [e, hkept, hmode, hloop, State.parked, State.loopOf_modLoop hn, ← State.parked, claspFrame_seq hw, State.nextSeq, hseq]
  exact ⟨rfl, rfl, rfl⟩

end

/-- Settles O9: each clause by the lemma about its command. -/
theorem loopChangesModeByItsSupervision : Obligations.LOOP_changes_mode_by_its_supervision := by
  unfold Obligations.LOOP_changes_mode_by_its_supervision
  refine ⟨?first, ?second, ?lost, ?recovered, ?retract, ?loaded, ?timeout, ?unloaded, ?clv⟩
  case first => exact fun s ch h hu hm hc hf => runs_of_up rfl hu (feTrip_first h ch.isLt hm hc hf)
  case second =>
    intro s ch h hu hm hc hf
    have hl := feTrip_second h ch.isLt hm hc hf
    exact runs_of_up rfl hu ⟨hl.mode, hl.fault⟩
  case lost =>
    intro s ch h hu hm hc
    have hl := lostEntry_lost h ch.isLt hm hc
    exact runs_of_up rfl hu ⟨hl.mode, hl.lostRun, hl.coast, hl.fault⟩
  case recovered => exact fun s ch h hu hm hv => runs_of_up rfl hu (positionRecovered_follows h ch.isLt hm hv)
  case retract => exact fun s ch h hu hm hr => runs_of_up rfl hu (lostRetract_unloads h ch.isLt hm hr)
  case loaded =>
    intro s ch h hu hm hs hv
    have e : loadComplete ch s = s.go ch := if_pos ⟨hm, hs, hv⟩
    refine runs_of_up rfl hu ?_
    rw [e]
    exact go_mode h ch.isLt
  case timeout => exact fun s ch h hu hm => runs_of_up rfl hu (loadTimeout_unloads h ch.isLt hm)
  case unloaded => exact fun s ch h hu hm hv => runs_of_up rfl hu (unloadComplete_parks h ch.isLt hm hv)
  case clv =>
    intro s ch h hd
    have hw : (s.answer .done).Wf := (Evolves.refl s).answer.wf h
    exact runs_of_on rfl hd ⟨retractLane_mode hw, retractLane_due _ ch.isLt⟩

end Sys2Proof.Machine

namespace Sys2Proof.Machine

/-! ## The servo policy and the SHOCK unit (R135, R141, R150) -/

section
variable {s : State}

/-! ### Coefficients and the seek policy -/

theorem loopBasic_eq (n : Nat) : ∀ r, loopBasic n r = chReg n 9 (0x14 + 4 * r)
  | 0 => rfl
  | 1 => rfl
  | 2 => rfl
  | r + 3 => by
    have hr : 0x20 + 4 * (r + 3 - 3) = 0x14 + 4 * (r + 3) := by omega
    exact congrArg (chReg n 9) hr

theorem setRW_frame (s : State) (a : Nat) (v : Word) :
    (s.setRW a v).loop = s.loop ∧ (s.setRW a v).hold = s.hold ∧ (s.setRW a v).demod = s.demod := by
  unfold State.setRW
  split <;> exact ⟨rfl, rfl, rfl⟩

theorem State.modHold_loopOf (s : State) (n : Nat) (f : Hold → Hold) (k : Nat) : (s.modHold n f).loopOf k = s.loopOf k := rfl

theorem State.put_holdOf (s : State) (f : Fld) (x k : Nat) : (s.put f x).holdOf k = s.holdOf k := rfl

theorem State.modLoop_hold (s : State) (n : Nat) (f : Loop → Loop) : (s.modLoop n f).hold = s.hold := rfl

theorem State.endOverrides_hold (s : State) (which : Nat → Bool) : (s.endOverrides which).hold = s.hold := rfl

theorem State.endOverrides_demodOf (s : State) (which : Nat → Bool) (k : Nat) : (s.endOverrides which).demodOf k = s.demodOf k := rfl

theorem State.modDemod_get (s : State) (n : Nat) (f : Demod → Demod) (g : Fld) : (s.modDemod n f).get g = s.get g := rfl

theorem State.holdOf_modHold {n : Nat} {f : Hold → Hold} (hn : n < 4) : (s.modHold n f).holdOf n = f (s.holdOf n) := atD_modAt_self hn

/-- What a write of a Basic register of LOOP's policy does before HOLD takes its copy. -/
def State.deriveDue (s : State) (n r : Nat) (v : Word) : State :=
  ((s.endOverrides (fun a => decide (LOOP_KP n ≤ a) && decide (a < LOOP_KP n + 0x1000) && decide (a ≠ LOOP_A_MAX n))).setRW
    (loopBasic n r) v).modLoop n (fun l => { l with derive := true })

theorem coeffDerive_eq (n r : Nat) (v : Word) (s : State) :
    coeffDerive n r v s =
      if r = 0 then ((s.deriveDue n r v).modHold n (fun h => { h with kv := v.toNat })).put (HOLD_STAT_AVAIL n) 1 else s.deriveDue n r v := rfl

theorem deriveDue_derive {n : Nat} (hn : n < 4) (r : Nat) (v : Word) : ((s.deriveDue n r v).loopOf n).derive = true := by
  rw [State.deriveDue, State.loopOf_modLoop hn]

theorem deriveDue_hold (n r : Nat) (v : Word) : (s.deriveDue n r v).hold = s.hold := by
  obtain ⟨-, hhold, -⟩ := setRW_frame (s.endOverrides
    (fun a => decide (LOOP_KP n ≤ a) && decide (a < LOOP_KP n + 0x1000) && decide (a ≠ LOOP_A_MAX n))) (loopBasic n r) v
  rw [State.deriveDue, State.modLoop_hold, hhold, State.endOverrides_hold]

theorem coeffDerive_derive {n : Nat} (hn : n < 4) (r : Nat) (v : Word) (s : State) : ((coeffDerive n r v s).loopOf n).derive = true := by
  rw [coeffDerive_eq]
  split
  · rw [State.put_loopOf, State.modHold_loopOf]
    exact deriveDue_derive hn r v
  · exact deriveDue_derive hn r v

/-- PLANT gives HOLD its gain. -/
theorem coeffDerive_plant (h : s.Wf) {n : Nat} (hn : n < 4) (v : Word) :
    ((coeffDerive n 0 v s).holdOf n).kv = v.toNat ∧ (coeffDerive n 0 v s).flag (HOLD_STAT_AVAIL n) = true := by
  have hw : ((s.deriveDue n 0 v).modHold n (fun h => { h with kv := v.toNat })).Wf := (Evolves.refl s).endOverrides.setRW.modLoop.modHold.wf h
  rw [coeffDerive_eq, if_pos rfl, State.put_holdOf, State.holdOf_modHold hn]
  exact ⟨rfl, State.flag_put_one hw rfl⟩

theorem coeffDerive_hold {n r : Nat} (hr : r ≠ 0) (v : Word) (s : State) : (coeffDerive n r v s).hold = s.hold := by
  rw [coeffDerive_eq, if_neg hr, deriveDue_hold]

/-- A written seek policy, before its JERK_W is due. -/
def State.seekPolicySet (s : State) (n : Nat) (v : Word) : State :=
  (s.setRW (SEEK_POLICY n) v).endOverrides (fun a => decide (a = LOOP_A_MAX n) || decide (a = LOOP_JERK_W n))

theorem seekPolicySet_demodOf (n : Nat) (v : Word) (s : State) : (s.seekPolicySet n v).demodOf n = s.demodOf n := by
  obtain ⟨-, -, hdemod⟩ := setRW_frame s (SEEK_POLICY n) v
  rw [State.seekPolicySet, State.endOverrides_demodOf, State.demodOf, hdemod, ← State.demodOf]

theorem seekPolicyWrite_eq (n : Nat) (v : Word) (s : State) :
    seekPolicyWrite n v s = (s.seekPolicySet n v).modDemod n (fun d => { d with
      due := d.due ++ [(LOOP_JERK_W n, BitVec.ofNat 32 (profile ((s.seekPolicySet n v).get (SEEK_POLICY_PROFILE n))).2)] }) := rfl

/-- JERK_W follows the profile written at the next tick. -/
theorem seekPolicyWrite_due {n : Nat} (hn : n < 4) (v : Word) (s : State) :
    ((seekPolicyWrite n v s).demodOf n).due =
      (s.demodOf n).due ++ [(LOOP_JERK_W n, BitVec.ofNat 32 (profile ((seekPolicyWrite n v s).get (SEEK_POLICY_PROFILE n))).2)] := by
  rw [seekPolicyWrite_eq, State.modDemod_get, State.demodOf_modDemod hn, seekPolicySet_demodOf]

/-! ### SHOCK (R150) -/

/-- The sensors' readings and the peak of a sample. -/
def State.shockRead (s : State) (shock rvx rvy : Nat) : State :=
  let s := s.setNum RV_NOW (rvy % 0x10000 * 0x10000 + rvx % 0x10000)
  if s.get SHOCK_STAT_PEAK < (sx 16 shock).natAbs then s.put SHOCK_STAT_PEAK (sx 16 shock).natAbs else s

theorem shockRead_rd {a : Nat} (shock rvx rvy : Nat) (s : State) (hr : a ≠ RV_NOW) (hp : a ≠ SHOCK_STAT) :
    (s.shockRead shock rvx rvy).rd a = s.rd a := by
  unfold State.shockRead
  extract_lets s1
  have h1 : s1.rd a = s.rd a := State.rd_wr_other s _ hr
  split
  · exact (State.rd_wr_other s1 _ hp).trans h1
  · exact h1

theorem shockRead_shock (shock rvx rvy : Nat) (s : State) : (s.shockRead shock rvx rvy).shock = s.shock := by
  unfold State.shockRead
  extract_lets s1
  split
  · exact (State.put_shock ..).trans (State.setNum_shock ..)
  · exact State.setNum_shock ..

theorem State.Wf.shockRead (h : s.Wf) (shock rvx rvy : Nat) : (s.shockRead shock rvx rvy).Wf :=
  (Evolves.ite (Evolves.refl s).setNum.put (Evolves.refl s).setNum).wf h

/-- A sample is noted: whether it exceeds THR, its value, and the mark of every channel's frame where it does. -/
def State.shockNoted (s : State) (shock : Nat) (exceeds : Bool) : State :=
  { s with shock := ⟨exceeds, shock % 0x10000, if exceeds then Vector.replicate 4 true else s.shock.trip⟩ }

/-- A trip is counted. -/
def State.shockTripped (s : State) : State := (s.put SHOCK_STAT_TRIP 1).setNum SHOCK_CNT (min 0xFFFFFFFF (s.num SHOCK_CNT + 1))

theorem shockNoted_wf (h : s.Wf) (shock : Nat) (exceeds : Bool) : (s.shockNoted shock exceeds).Wf := (Evolves.refl _).setShock.wf h

theorem shockTripped_shock (s : State) : s.shockTripped.shock = s.shock := (State.setNum_shock ..).trans (State.put_shock ..)

/-- A sample of an enabled unit trips where it exceeds THR and the last did not. -/
theorem shockSample_eq {shock : Nat} (he : s.flag SHOCK_CTL_EN = true) (rvx rvy : Nat) :
    shockSample shock rvx rvy s =
      if decide ((s.shockRead shock rvx rvy).get SHOCK_CTL_THR < (sx 16 shock).natAbs) && !(s.shockRead shock rvx rvy).shock.above then
        ((s.shockRead shock rvx rvy).shockNoted shock
          (decide ((s.shockRead shock rvx rvy).get SHOCK_CTL_THR < (sx 16 shock).natAbs))).shockTripped.raise 460
      else (s.shockRead shock rvx rvy).shockNoted shock (decide ((s.shockRead shock rvx rvy).get SHOCK_CTL_THR < (sx 16 shock).natAbs)) :=
  if_pos he

theorem shockSample_of_first {shock : Nat} (he : s.flag SHOCK_CTL_EN = true) (ha : s.shock.above = false)
    (hx : s.get SHOCK_CTL_THR < (sx 16 shock).natAbs) (rvx rvy : Nat) :
    shockSample shock rvx rvy s = ((s.shockRead shock rvx rvy).shockNoted shock true).shockTripped.raise 460 := by
  have hthr : (s.shockRead shock rvx rvy).get SHOCK_CTL_THR = s.get SHOCK_CTL_THR :=
    State.get_of_rd (shockRead_rd shock rvx rvy s (by decide) (by decide))
  rw [shockSample_eq he, hthr, decide_eq_true hx, shockRead_shock, ha]
  exact if_pos rfl

theorem shockSample_trips (h : s.Wf) {shock : Nat} (he : s.flag SHOCK_CTL_EN = true) (ha : s.shock.above = false)
    (hx : s.get SHOCK_CTL_THR < (sx 16 shock).natAbs) (rvx rvy : Nat) :
    (shockSample shock rvx rvy s).flag SHOCK_STAT_TRIP = true ∧
      (shockSample shock rvx rvy s).num SHOCK_CNT = min 0xFFFFFFFF (s.num SHOCK_CNT + 1) ∧
      (shockSample shock rvx rvy s).shock.trip = Vector.replicate 4 true ∧ (shockSample shock rvx rvy s).shock.above = true := by
  have hw := shockNoted_wf (h.shockRead shock rvx rvy) shock true
  have hcnt : ((s.shockRead shock rvx rvy).shockNoted shock true).num SHOCK_CNT = s.num SHOCK_CNT :=
    State.num_of_rd (shockRead_rd shock rvx rvy s (by decide) (by decide))
  have hk : EnginesKept ((s.shockRead shock rvx rvy).shockNoted shock true).shockTripped
    (((s.shockRead shock rvx rvy).shockNoted shock true).shockTripped.raise 460) := .raise (.refl _)
  rw [shockSample_of_first he ha hx, hk.flag rfl, hk.num rfl, hk.shock, shockTripped_shock, State.shockTripped,
    State.flag_setNum_other _ (by decide), hcnt, State.num_setNum_self (hw.put _ _) (by omega)]
  exact ⟨State.flag_put_one hw rfl, rfl, rfl, rfl⟩

theorem shockTripClear_clears (h : s.Wf) : (shockTripClear s).flag SHOCK_STAT_TRIP = false ∧ (shockTripClear s).get SHOCK_STAT_PEAK = 0 := by
  have h1 := h.put SHOCK_STAT_TRIP 0
  refine ⟨?_, State.get_put_fits h1 rfl (by decide)⟩
  rw [shockTripClear, State.flag_put_apart h1 SHOCK_STAT_PEAK SHOCK_STAT_TRIP rfl rfl]
  exact State.flag_put_zero h rfl

end

/-- Settles O11: each clause by the lemma about its command; a LOOP that does not restart takes the write at once. -/
theorem servoPolicyAndShockRegisters : Obligations.Servo_policy_and_shock_registers := by
  unfold Obligations.Servo_policy_and_shock_registers
  refine ⟨?derive, ?policy, ?trip, ?disabled, ?clear⟩
  case derive =>
    intro s ch reg v h hd hr
    have hw : (s.answer .done).Wf := (Evolves.refl s).answer.wf h
    refine ⟨coeffDerive ch reg v (s.answer .done), ?_, coeffDerive_derive ch.isLt reg v _, fun h0 => ?_, fun h0 => ?_⟩
    · have ho : 0x14 + 4 * reg.val < 0x1000000 := by omega
      exact congrArg Host.Outcome.next ((congrArg (s.loopAccess ch · _ _) (loopBasic_eq ch reg)).trans (loopAccess_of_running hd hr ho _ _))
    · subst h0
      exact coeffDerive_plant hw ch.isLt v
    · have hne : reg.val ≠ 0 := fun e => h0 (Fin.ext e)
      exact congrArg (atD · ch.val Hold.reset) (coeffDerive_hold hne v (s.answer .done))
  case policy =>
    intro s ch v _ hd hr
    exact ⟨seekPolicyWrite ch v (s.answer .done), congrArg Host.Outcome.next (loopAccess_of_running hd hr (o := 0x10) (by decide) _ _),
      seekPolicyWrite_due ch.isLt v _⟩
  case trip => exact fun s shock rvx rvy h he ha hx => ⟨_, rfl, shockSample_trips h he ha hx rvx rvy⟩
  case disabled =>
    intro s shock rvx rvy _ he
    have e : shockSample shock rvx rvy s = s := if_neg (by rw [he]; exact Bool.false_ne_true)
    exact ⟨_, rfl, e⟩
  case clear => exact fun s h hd => runs_of_on rfl hd (shockTripClear_clears ((Evolves.refl s).answer.wf h))

end Sys2Proof.Machine

namespace Sys2Proof.Machine

/-! ## The lane at φ0, residues, and the handover to HOLD (R143, R151-R156, R161) -/

section
variable {s t : State} {n : Nat}

/-! ### Setpoints and frames (R143, R161) -/

theorem loopOut_ne_clvStat : LOOP_OUT n ≠ CLV_STAT n := chReg_ne (u := 9) (o := 0x50) (u' := 13) (o' := 0) (by decide)

theorem loopOut_ne_clvOut : LOOP_OUT n ≠ CLV_OUT n := chReg_ne (u := 9) (o := 0x50) (u' := 13) (o' := 0x4) (by decide)

/-- Each instant sends one frame. -/
theorem instantFrame_sends (s : State) (n q : Nat) : ∃ cmd vcm ma, s.instantFrame n q = s.claspFrame n cmd vcm ma := by
  unfold State.instantFrame
  extract_lets m l u ma
  split_ifs <;> exact ⟨_, _, _, rfl⟩

theorem instantFrame_seq (h : s.Wf) (q : Nat) : (s.instantFrame n q).get (CLV_STAT_SEQ n) = s.nextSeq n := by
  obtain ⟨cmd, vcm, ma, e⟩ := instantFrame_sends s n q
  rw [e]
  exact claspFrame_seq h cmd vcm ma

theorem instantFrame_num_loopOut (s : State) (n q : Nat) : (s.instantFrame n q).num (LOOP_OUT n) = s.num (LOOP_OUT n) := by
  obtain ⟨cmd, vcm, ma, e⟩ := instantFrame_sends s n q
  rw [e]
  exact State.num_of_rd (claspFrame_rd s cmd vcm ma loopOut_ne_clvStat loopOut_ne_clvOut)

theorem instantFrame_loopOf (s : State) (n q k : Nat) : (s.instantFrame n q).loopOf k = s.loopOf k := by
  obtain ⟨cmd, vcm, ma, e⟩ := instantFrame_sends s n q
  rw [e, State.loopOf, claspFrame_loop, State.loopOf]

/-- A finished result that stands is latched, and its change over the wedge with it. -/
def State.latchResult (s : State) (n : Nat) : State :=
  ((s.latchOut n (s.loopOf n).newU (s.loopOf n).newM).modLoop n (fun l => { l with delta := l.newD, ovrRun := 0 })).modLoop n
    (fun l => { l with latched := true })

theorem phi0Latch_of_result (hp : s.mode n ≠ mParked) (hr : s.mode n ≠ mRetracted) (hh : s.mode n ≠ mHold)
    (hd : (s.loopOf n).discard = false) : phi0Latch n true s = (s.latchResult n).instantFrame n 0 := by
  have hd' : ¬(s.loopOf n).discard = true := by
    rw [hd]
    exact Bool.false_ne_true
  exact congrArg (fun t : State => (t.modLoop n (fun l => { l with latched := true })).instantFrame n 0)
    ((if_neg (not_or_intro hp hr)).trans ((if_neg hh).trans ((if_neg Bool.false_ne_true).trans (if_neg hd'))))

theorem latchResult_loopOf (hn : n < 4) :
    (s.latchResult n).loopOf n = { s.loopOf n with delta := (s.loopOf n).newD, ovrRun := 0, latched := true } := by
  rw [State.latchResult, State.loopOf_modLoop hn, State.loopOf_modLoop hn, State.latchOut, State.setNum_loopOf]

theorem latchResult_out (h : s.Wf) (n : Nat) :
    (s.latchResult n).num (LOOP_OUT n) = toBits 16 (s.loopOf n).newM * 0x10000 + toBits 16 (s.loopOf n).newU := by
  rw [State.latchResult, State.modLoop_num, State.modLoop_num, State.latchOut, State.num_setNum_self h (toBits16_pair_lt _ _)]

theorem latchResult_seq (s : State) (n : Nat) : (s.latchResult n).nextSeq n = s.nextSeq n := by
  rw [State.nextSeq, State.latchResult, State.modLoop_get, State.modLoop_get, State.latchOut,
    State.get_setNum_other s (f := CLV_STAT_SEQ n) loopOut_ne_clvStat.symm, ← State.nextSeq]

theorem phi0Latch_latches (h : s.Wf) (hn : n < 4) (hp : s.mode n ≠ mParked) (hr : s.mode n ≠ mRetracted) (hh : s.mode n ≠ mHold)
    (hd : (s.loopOf n).discard = false) :
    (phi0Latch n true s).num (LOOP_OUT n) = toBits 16 (s.loopOf n).newM * 0x10000 + toBits 16 (s.loopOf n).newU ∧
      ((phi0Latch n true s).loopOf n).delta = (s.loopOf n).newD ∧ ((phi0Latch n true s).loopOf n).ovrRun = 0 ∧
      (phi0Latch n true s).get (CLV_STAT_SEQ n) = (s.get (CLV_STAT_SEQ n) + 1) % 16 := by
  have hw : (s.latchResult n).Wf := (Evolves.refl s).latchOut.modLoop.modLoop.wf h
  rw [phi0Latch_of_result hp hr hh hd, instantFrame_num_loopOut, instantFrame_loopOf, latchResult_loopOf hn, instantFrame_seq hw,
    latchResult_seq, latchResult_out h]
  exact ⟨rfl, rfl, rfl, rfl⟩

theorem toBits16_sx16 {x : Nat} (hx : x < 2 ^ 16) : toBits 16 (sx 16 x) = x := by
  simp only [toBits, sx]
  split_ifs <;> omega

/-- A repeated frame is the last one with the next number. -/
theorem claspFrameRepeat_repeats (h : s.Wf) (hd : s.clvDue n = false) :
    (claspFrameRepeat n s).get (CLV_STAT_SEQ n) = (s.get (CLV_STAT_SEQ n) + 1) % 16 ∧
      (claspFrameRepeat n s).get (CLV_STAT_CMD n) = s.get (CLV_STAT_CMD n) ∧
      (claspFrameRepeat n s).num (CLV_OUT n) = s.num (CLV_OUT n) := by
  have hw : (s.stepSeq n).Wf := h.stepSeq n
  have hcmd : s.get (CLV_STAT_CMD n) < 16 := Nat.mod_lt _ (Nat.two_pow_pos 4)
  have hvcm : s.get (CLV_OUT_VCM n) < 2 ^ 16 := Nat.mod_lt _ (Nat.two_pow_pos 16)
  have hma : s.get (CLV_OUT_MA n) < 2 ^ 16 := Nat.mod_lt _ (Nat.two_pow_pos 16)
  rw [claspFrameRepeat, claspFrame_of_free hd]
  rw [sendClasp_seq hw, stepSeq_seq h, sendClasp_cmd hw hcmd, sendClasp_out hw, toBits16_sx16 hvcm, toBits16_sx16 hma]
  refine ⟨rfl, rfl, ?_⟩
  have hlt : s.num (CLV_OUT n) < 2 ^ 32 := (s.rd _).isLt
  have ev : s.get (CLV_OUT_VCM n) = s.num (CLV_OUT n) / 2 ^ 0 % 2 ^ 16 := rfl
  have em : s.get (CLV_OUT_MA n) = s.num (CLV_OUT n) / 2 ^ 16 % 2 ^ 16 := rfl
  omega

/-! ### Residues (R151) -/

/-- A mismatch is recorded; the wedge is computed again. -/
theorem loopResidue_first (h : s.Wf) (hn : n < 4) (hp : s.mode n ≠ mParked) (hr : s.mode n ≠ mRetracted) :
    bitOf ((loopResidue n false s).num (LOOP_FAULT n)) 4 = true ∧ (loopResidue n false s).loop = s.loop := by
  have hf : FaultSet (loopFault n) 4 s (s.loopFaultBit n 4 sevNote clsCorrected) := loopFaultBit_set h hn (by decide) _ _
  have e : loopResidue n false s = s.loopFaultBit n 4 sevNote clsCorrected := (if_neg (not_or_intro hp hr)).trans (if_pos rfl)
  rw [e]
  exact ⟨hf.bit, congrArg Engines.loop hf.engines⟩

theorem showInteg_loopOf (s : State) (n k : Nat) : (s.showInteg n).loopOf k = s.loopOf k := by
  rw [State.showInteg, State.setNum_loopOf, State.setNum_loopOf]

theorem discardWedge_marks (hn : n < 4) (s : State) :
    ((s.discardWedge n).loopOf n).latched = (s.loopOf n).latched ∧ ((s.discardWedge n).loopOf n).handover = (s.loopOf n).handover := by
  have e : (s.discardWedge n).loopOf n = _ := (showInteg_loopOf ..).trans ((State.put_loopOf ..).trans ((State.put_loopOf ..).trans
    ((State.put_loopOf ..).trans ((State.put_loopOf ..).trans (State.loopOf_modLoop hn)))))
  rw [e]
  exact ⟨rfl, rfl⟩

/-- A second mismatch discards the result: before φ0 the substitute follows, after it the handover. -/
theorem loopResidue_second (h : s.Wf) (hn : n < 4) (hp : s.mode n ≠ mParked) (hr : s.mode n ≠ mRetracted) (hh : s.mode n ≠ mHold) :
    bitOf ((loopResidue n true s).num (LOOP_FAULT n)) 5 = true ∧
      ((loopResidue n true s).loopOf n).discard = !(s.loopOf n).latched ∧
      ((loopResidue n true s).loopOf n).handover = ((s.loopOf n).handover || (s.loopOf n).latched) := by
  have hf : FaultSet (loopFault n) 5 (s.discardWedge n) ((s.discardWedge n).loopFaultBit n 5 sevFault clsContained) :=
    loopFaultBit_set ((Evolves.refl s).discardWedge.wf h) hn (by decide) _ _
  have e : loopResidue n true s = ((s.discardWedge n).loopFaultBit n 5 sevFault clsContained).modLoop n
      (fun l => { l with discard := !l.latched, handover := l.handover || l.latched }) :=
    (if_neg (not_or_intro hp hr)).trans ((if_neg Bool.false_ne_true).trans (if_neg hh))
  obtain ⟨hlatched, hhandover⟩ := discardWedge_marks hn s
  rw [e, State.loopOf_modLoop hn, State.modLoop_num, hf.loopOf, ← hlatched, ← hhandover]
  exact ⟨hf.bit, rfl, rfl⟩

/-! ### The handover and LOOP's restart (R153, R155, R156) -/

theorem relock_rd {a base : Nat} (s : State) (ha : a ≠ base + 0xFF4) : (s.relock base).rd a = s.rd a := State.rd_wr_other s _ ha

theorem restartLoop_restarting (hn : n < 4) (s : State) : ((s.restartLoop n).loopOf n).restarting = true := by
  rw [State.restartLoop, State.relock, State.wr_loopOf, State.put_loopOf, State.loopOf_modLoop hn]

theorem restartLoop_restarts (h : s.Wf) : (s.restartLoop n).get (LOOP_STAT_RESTARTS n) = 0 := by
  have hne : LOOP_STAT n ≠ chLOOP n + 0xFF4 := chReg_ne (u := 9) (o := 0x4) (u' := 9) (o' := 0xFF4) (by decide)
  rw [State.restartLoop, State.get_of_rd (f := LOOP_STAT_RESTARTS n) (relock_rd _ hne)]
  exact State.get_put_fits (h.modLoop n _) rfl (Nat.two_pow_pos _)

/-- LOOP has begun its restart, and the lane is in mode `m`. -/
structure HandedOver (n m : Nat) (t : State) : Prop where
  mode : t.mode n = m
  restarting : (t.loopOf n).restarting = true
  restarts : t.get (LOOP_STAT_RESTARTS n) = 0

theorem State.modHold_get (s : State) (n : Nat) (f : Hold → Hold) (g : Fld) : (s.modHold n f).get g = s.get g := rfl

/-- HOLD takes LOOP's last output. -/
def State.holdPreset (s : State) (n : Nat) : State :=
  s.modHold n (fun h => { h with preset := false, out := sx 16 (s.get (LOOP_OUT_VCM n)) })

/-- The lane goes to HOLD while LOOP restarts. -/
def State.toHold (s : State) (n : Nat) : State := (((s.restartLoop n).holdPreset n).setMode n mHold).put (HOLD_STAT_INVALID_RUN n) 0

theorem toHold_handedOver (h : s.Wf) (hn : n < 4) : HandedOver n mHold (s.toHold n) := by
  have hw : ((s.restartLoop n).holdPreset n).Wf := (Evolves.refl s).restartLoop.modHold.wf h
  refine ⟨?_, ?_, ?_⟩
  · rw [State.toHold, State.mode, State.get_put_other (f := HOLD_STAT_INVALID_RUN n) _ _ loopStat_ne_holdStat, ← State.mode,
      setMode_mode hw (by decide)]
  · rw [State.toHold, State.put_loopOf, setMode_loopOf, State.holdPreset, State.modHold_loopOf, restartLoop_restarting hn]
  · rw [State.toHold, State.get_put_other (f := HOLD_STAT_INVALID_RUN n) _ _ loopStat_ne_holdStat,
      setMode_loopStat hw (LOOP_STAT_RESTARTS n) rfl rfl rfl, State.holdPreset, State.modHold_get, restartLoop_restarts h]

theorem HandedOver.raise {m e : Nat} (h : HandedOver n m t) (hn : n < 4) : HandedOver n m (t.raise e) := by
  have hk : EnginesKept t (t.raise e) := .raise (.refl _)
  have hr : isEngineReg (LOOP_STAT n) = true := isEngineReg_chReg (n := n) (u := 9) (o := 0x4) hn
  refine ⟨(hk.get (f := LOOP_STAT_MODE n) hr).trans h.mode, ?_, (hk.get (f := LOOP_STAT_RESTARTS n) hr).trans h.restarts⟩
  rw [hk.loopOf]
  exact h.restarting

theorem State.setClv_loopOf (s : State) (n : Nat) (b : Bool) (k : Nat) : (s.setClv n b).loopOf k = s.loopOf k := rfl

theorem retractLane_handedOver (h : s.Wf) (hn : n < 4) : HandedOver n mRetracted ((s.restartLoop n).retractLane n) := by
  have hw : (s.restartLoop n).Wf := (Evolves.refl s).restartLoop.wf h
  refine ⟨retractLane_mode hw, ?_, ?_⟩
  · rw [State.retractLane, State.loopOf_modLoop hn, State.setClv_loopOf, setMode_loopOf, restartLoop_restarting hn]
  · rw [State.get_of_rd (f := LOOP_STAT_RESTARTS n) (retractLane_rd _ n _), setMode_loopStat hw (LOOP_STAT_RESTARTS n) rfl rfl rfl,
      restartLoop_restarts h]

theorem holdHandover_of_avail (hh : (s.loopOf n).handover = true) (ha : s.flag (HOLD_STAT_AVAIL n) = true) :
    ∃ tgt, holdHandover n s = ((s.modLoop n (fun l => { l with tgt := tgt })).toHold n).raise (chEvent n 22) :=
  ⟨_, (if_pos hh).trans (if_pos ha)⟩

theorem holdHandover_hands (h : s.Wf) (hn : n < 4) (hh : (s.loopOf n).handover = true) :
    HandedOver n (if s.flag (HOLD_STAT_AVAIL n) then mHold else mRetracted) (holdHandover n s) := by
  cases ha : s.flag (HOLD_STAT_AVAIL n) with
  | true =>
    obtain ⟨tgt, e⟩ := holdHandover_of_avail hh ha
    rw [e]
    exact (toHold_handedOver (h.modLoop n _) hn).raise hn
  | false =>
    have e : holdHandover n s = (s.restartLoop n).retractLane n :=
      (if_pos hh).trans (if_neg (by rw [ha]; exact Bool.false_ne_true))
    rw [e]
    exact retractLane_handedOver h hn

/-- A restart that passed begins the shadow phase. -/
def State.restarted (s : State) (n : Nat) : State := s.modLoop n (fun l => { l with restarting := false, shadow := 0 })

theorem restarted_loopOf (hn : n < 4) (s : State) : (s.restarted n).loopOf n = { s.loopOf n with restarting := false, shadow := 0 } :=
  State.loopOf_modLoop hn

/-- A restart that passes lets the accesses that waited act. -/
theorem restartPassed_eq (hn : n < 4) (hr : (s.loopOf n).restarting = true) :
    (if ((loopRestartDone n true s).loopOf n).restarting then loopRestartDone n true s else (loopRestartDone n true s).releaseLoop n) =
      (s.restarted n).releaseLoop n := by
  have e : loopRestartDone n true s = s.restarted n := if_pos hr
  rw [e, restarted_loopOf hn]
  exact if_neg Bool.false_ne_true

/-- The accesses that waited leave the queue. -/
def State.waitsTaken (s : State) (n : Nat) : State := s.modLoop n (fun l => { l with waiting := [] })

theorem waitsTaken_loopOf (hn : n < 4) (s : State) : (s.waitsTaken n).loopOf n = { s.loopOf n with waiting := [] } := State.loopOf_modLoop hn

theorem releaseLoop_of_none (h : (s.loopOf n).waiting = []) : s.releaseLoop n = s.waitsTaken n := by
  rw [State.releaseLoop, h]
  rfl

theorem releaseLoop_of_write {a v : Nat} (h : (s.loopOf n).waiting = [(a, some v)]) :
    s.releaseLoop n = accessWrite a 4 (BitVec.ofNat 32 v) (s.waitsTaken n) := by
  rw [State.releaseLoop, h]
  rfl

theorem State.modLoop_busOk (s : State) (n : Nat) (f : Loop → Loop) (a w : Nat) : (s.modLoop n f).busOk a w = s.busOk a w := rfl

theorem State.answer_loopOf (s : State) (r : Resp) (k : Nat) : (s.answer r).loopOf k = s.loopOf k := rfl

theorem loopCmd_ne_nvsData (ch : Ch) : LOOP_CMD ch ≠ NVS_DATA := by
  revert ch
  decide

theorem isExpert_loopCmd (n : Nat) : isExpert (LOOP_CMD n) = false := by
  have e : addrOff (LOOP_CMD n) = 0 := addrOff_chReg n 9 0 (by decide)
  rw [isExpert, e]
  rfl

/-- A write of LOOP_CMD has an effect of its own: its command waits for the tick. -/
theorem ownWrite_loopGo (ch : Ch) (s : State) :
    ownWrite 17 (LOOP_CMD ch) (BitVec.ofNat 32 1) s = some ((s.rcvFoul ch).writeCmd ch 1 false) := by
  fin_cases ch <;> rfl

/-- A GO that waited for the restart waits for the tick. -/
theorem accessWrite_loopGo {ch : Ch} (hb : s.busOk (LOOP_CMD ch) 4 = true) (hr : (s.loopOf ch).restarting = false) :
    accessWrite (LOOP_CMD ch) 4 (BitVec.ofNat 32 1) s = ((s.rcvFoul ch).writeCmd ch 1 false).answer .done := by
  have hl : s.loopWaits (LOOP_CMD ch) = false := by
    rw [LOOP_CMD, loopWaits_chReg s ch (by decide), hr, Bool.false_and]
  have hw : s.busWaits (LOOP_CMD ch) = false := by
    rw [State.busWaits, hl, decide_eq_false (loopCmd_ne_nvsData ch)]
    rfl
  exact accessWrite_of_own_some hb hw (isExpert_loopCmd ch) (ownWrite_loopGo ch s)

theorem releaseLoop_of_go {ch : Ch} (hr : (s.loopOf ch).restarting = false) (hq : (s.loopOf ch).waiting = [(LOOP_CMD ch, some 1)])
    (hb : s.busOk (LOOP_CMD ch) 4 = true) :
    ((s.releaseLoop ch).loopOf ch).cmd = some (1, false) ∧ ((s.releaseLoop ch).loopOf ch).waiting = [] := by
  have hl := waitsTaken_loopOf ch.isLt s
  have hb' : (s.waitsTaken ch).busOk (LOOP_CMD ch) 4 = true := (State.modLoop_busOk ..).trans hb
  have hr' : ((s.waitsTaken ch).loopOf ch).restarting = false := by rw [hl, hr]
  obtain ⟨-, hloop, -⟩ := rcvFoul_frame (s.waitsTaken ch) ch
  have hf : ((s.waitsTaken ch).rcvFoul ch).loopOf ch = (s.waitsTaken ch).loopOf ch := congrArg (atD · ch.val Loop.reset) hloop
  rw [releaseLoop_of_write hq, accessWrite_loopGo hb' hr', State.answer_loopOf, writeCmd_loopOf _ ch.isLt, hf, hl]
  exact ⟨rfl, rfl⟩

theorem loopRestartDone_fail (h : s.Wf) (hr : (s.loopOf n).restarting = true) (hc : s.get (LOOP_STAT_RESTARTS n) < 2) :
    ((loopRestartDone n false s).loopOf n).restarting = true ∧
      (loopRestartDone n false s).get (LOOP_STAT_RESTARTS n) = s.get (LOOP_STAT_RESTARTS n) + 1 := by
  have hlt : s.get (LOOP_STAT_RESTARTS n) + 1 < 3 := by omega
  have e : loopRestartDone n false s = s.put (LOOP_STAT_RESTARTS n) (min 3 (s.get (LOOP_STAT_RESTARTS n) + 1)) :=
    (if_pos hr).trans ((if_neg Bool.false_ne_true).trans (if_pos hlt))
  have hfit : s.get (LOOP_STAT_RESTARTS n) + 1 < 2 ^ 2 := by omega
  rw [e, Nat.min_eq_right (Nat.le_of_lt hlt), State.put_loopOf]
  exact ⟨hr, State.get_put_fits h rfl hfit⟩

theorem loopShadowEnd_follows (h : s.Wf) (hn : n < 4) (hm : s.mode n = mHold) (hr : (s.loopOf n).restarting = false)
    (hs : (s.loopOf n).noShadow = false) (hc : 16 ≤ (s.loopOf n).shadow) : (loopShadowEnd n s).mode n = mFollow := by
  have e : loopShadowEnd n s = _ := if_pos ⟨hm, hr, hs, hc⟩
  have hw : ((s.setTarget n (s.loopOf n).tgt).presetFrom n).Wf := (Evolves.refl s).setTarget.presetFrom.wf h
  have hk := EnginesKept.raise (e := chEvent n 23) (.refl (((s.setTarget n (s.loopOf n).tgt).presetFrom n).setMode n mFollow))
  rw [e]
  exact (hk.get (f := LOOP_STAT_MODE n) (isEngineReg_chReg (u := 9) (o := 0x4) hn)).trans (setMode_mode hw (by decide))

/-! ### HOLD gives up the lane (R154, R156) -/

/-- From `s` to `t` the fault bits of the lane and HOLD's AVAIL stay. -/
structure FaultsKept (n : Nat) (s t : State) : Prop where
  loop : t.num (LOOP_FAULT n) = s.num (LOOP_FAULT n)
  hold : t.num (HOLD_FAULT n) = s.num (HOLD_FAULT n)
  avail : t.flag (HOLD_STAT_AVAIL n) = s.flag (HOLD_STAT_AVAIL n)

theorem FaultsKept.trans {u : State} (h : FaultsKept n s t) (k : FaultsKept n t u) : FaultsKept n s u :=
  ⟨k.loop.trans h.loop, k.hold.trans h.hold, k.avail.trans h.avail⟩

theorem EnginesKept.faults (h : EnginesKept s t) (hn : n < 4) : FaultsKept n s t :=
  ⟨h.num (isEngineReg_chReg (u := 9) (o := 0x54) hn), h.num (isEngineReg_chReg (u := 10) (o := 0x4) hn),
    h.flag (f := HOLD_STAT_AVAIL n) (isEngineReg_chReg (u := 10) (o := 0) hn)⟩

theorem retractLane_faults (h : s.Wf) (n : Nat) : FaultsKept n s (s.retractLane n) := by
  refine ⟨?_, ?_, ?_⟩
  · rw [State.num_of_rd (retractLane_rd s n _), setMode_num_loopFault]
  · rw [State.num_of_rd (retractLane_rd s n _)]
    exact State.num_of_rd (setMode_rdCh s (u := 10) (o := 0x4))
  · rw [State.flag_of_rd (f := HOLD_STAT_AVAIL n) (retractLane_rd s n _), setMode_avail h]

theorem retractHeads_faults (h : s.Wf) (n : Nat) : FaultsKept n s (s.retractHeads n) := by
  unfold State.retractHeads
  split
  · exact ⟨rfl, rfl, rfl⟩
  · exact retractLane_faults h n

theorem degrade_faults (h : s.Wf) (hn : n < 4) (addr bit : Nat) : FaultsKept n s (s.degrade n addr bit) := by
  unfold State.degrade
  extract_lets s1
  have h1 : EnginesKept s s1 := .partFirst (.refl s)
  have h2 : EnginesKept s (s1.setActState n 2) := h1.setActState
  have hw : (s1.setActState n 2).Wf := (Evolves.refl s).partFirst.setActState.wf h
  split
  · refine (h2.faults hn).trans ((retractHeads_faults hw n).trans ?_)
    exact (EnginesKept.aenAll (.failCommands (.refl _))).faults hn
  · exact h1.faults hn

/-- A fault bit of HOLD leaves the other registers of the lane. -/
theorem FaultSet.rdHold {bit u o : Nat} (h : FaultSet (holdFault n) bit s t) (hn : n < 4)
    (hu : (u < 32 ∧ u ≠ 15 ∧ o < 0x1000000) ∧ u * 0x1000000 + o ≠ 10 * 0x1000000 + 0x4 := by decide) :
    t.rd (chReg n u o) = s.rd (chReg n u o) := by
  obtain ⟨hu, hfault⟩ := hu
  exact h.regs _ (isEngineReg_chReg hn hu) (chReg_ne (u' := 10) (o' := 0x4) hfault) fun p hp => holdFault_noLatch p hp _

/-- What HOLD leaves when it gives up the lane: a RETRACT is due, both fault bits are set, and no fault bit nor AVAIL has changed otherwise. -/
structure HoldRetracted (n : Nat) (s t : State) : Prop where
  mode : t.mode n = mRetracted
  due : t.clvDue n = true
  loop : bitOf (t.num (LOOP_FAULT n)) 8 = true
  hold : ∀ j, j = 1 ∨ bitOf (s.num (HOLD_FAULT n)) j = true → bitOf (t.num (HOLD_FAULT n)) j = true
  avail : t.flag (HOLD_STAT_AVAIL n) = s.flag (HOLD_STAT_AVAIL n)

theorem holdRetract_retracted (h : s.Wf) (hn : n < 4) : HoldRetracted n s (s.holdRetract n) := by
  unfold State.holdRetract
  extract_lets s1 s2
  have hf : FaultSet (holdFault n) 1 s s1 := holdFaultBit_set h hn (by decide) _ _ _ _
  have hw1 : s1.Wf := (Evolves.refl s).faultBit.wf h
  have hl : FaultSet (loopFault n) 8 s1 (s1.loopFaultBit n 8 sevNote clsDegraded) := loopFaultBit_set hw1 hn (by decide) _ _
  have hwl : (s1.loopFaultBit n 8 sevNote clsDegraded).Wf := (Evolves.refl s1).loopFaultBit.wf hw1
  have hw2 : s2.Wf := (Evolves.refl _).degrade.wf hwl
  have hr : EnginesKept (s2.retractLane n) ((s2.retractLane n).raise (chEvent n 24)) := .raise (.refl _)
  have hk : FaultsKept n (s1.loopFaultBit n 8 sevNote clsDegraded) ((s2.retractLane n).raise (chEvent n 24)) :=
    ((degrade_faults hwl hn _ _).trans (retractLane_faults hw2 n)).trans (hr.faults hn)
  refine ⟨?_, ?_, ?_, fun j hj => ?_, ?_⟩
  · rw [State.mode, hr.get (f := LOOP_STAT_MODE n) (isEngineReg_chReg (u := 9) (o := 0x4) hn), ← State.mode, retractLane_mode hw2]
  · rw [hr.clvDue, retractLane_due s2 hn]
  · rw [hk.loop]
    exact hl.bit
  · rw [hk.hold, State.num_of_rd (a := HOLD_FAULT n) (hl.rdCh (u := 10) (o := 0x4) hn)]
    exact hf.bits j hj
  · rw [hk.avail, State.flag_of_rd (f := HOLD_STAT_AVAIL n) (hl.rdCh (u := 10) (o := 0) hn)]
    exact State.flag_of_rd (hf.rdHold (u := 10) (o := 0) hn)

/-- HOLD's parity error is recorded. -/
def State.parityBit (s : State) (n : Nat) : State := s.faultBit (holdFault n) 0 sevNote clsCorrected noInst 0

/-- HOLD's parity error ends AVAIL. -/
def State.parityNoted (s : State) (n : Nat) : State := (s.parityBit n).put (HOLD_STAT_AVAIL n) 0

theorem holdParity_eq (n : Nat) (s : State) :
    holdParity n s = if (s.parityNoted n).mode n = mHold then (s.parityNoted n).holdRetract n else s.parityNoted n := rfl

theorem parityBit_set (h : s.Wf) (hn : n < 4) : FaultSet (holdFault n) 0 s (s.parityBit n) := holdFaultBit_set h hn (by decide) _ _ _ _

theorem parityBit_wf (h : s.Wf) (n : Nat) : (s.parityBit n).Wf := (Evolves.refl s).faultBit.wf h

theorem holdFault_ne_holdStat : HOLD_FAULT n ≠ HOLD_STAT n := chReg_ne (u := 10) (o := 0x4) (u' := 10) (o' := 0) (by decide)

theorem parityNoted_mode (h : s.Wf) (hn : n < 4) : (s.parityNoted n).mode n = s.mode n := by
  rw [State.parityNoted, State.mode, State.get_put_other (f := HOLD_STAT_AVAIL n) _ _ loopStat_ne_holdStat]
  exact State.get_of_rd (f := LOOP_STAT_MODE n) ((parityBit_set h hn).rdHold (u := 9) (o := 0x4) hn)

theorem parityNoted_faults (h : s.Wf) (hn : n < 4) :
    (s.parityNoted n).flag (HOLD_STAT_AVAIL n) = false ∧ bitOf ((s.parityNoted n).num (HOLD_FAULT n)) 0 = true := by
  refine ⟨State.flag_put_zero (parityBit_wf h n) rfl, ?_⟩
  rw [State.parityNoted, State.num_of_rd (State.rd_put_other _ (f := HOLD_STAT_AVAIL n) _ holdFault_ne_holdStat)]
  exact (parityBit_set h hn).bit

theorem holdParity_ends (h : s.Wf) (hn : n < 4) :
    (holdParity n s).flag (HOLD_STAT_AVAIL n) = false ∧ bitOf ((holdParity n s).num (HOLD_FAULT n)) 0 = true ∧
      (s.mode n = mHold → (holdParity n s).mode n = mRetracted ∧ (holdParity n s).clvDue n = true) := by
  obtain ⟨havail, hbit⟩ := parityNoted_faults h hn
  rw [holdParity_eq, parityNoted_mode h hn]
  by_cases hm : s.mode n = mHold
  · have hr := holdRetract_retracted (n := n) ((Evolves.refl s).faultBit.put.wf h : (s.parityNoted n).Wf) hn
    rw [if_pos hm]
    exact ⟨hr.avail.trans havail, hr.hold 0 (.inr hbit), fun _ => ⟨hr.mode, hr.due⟩⟩
  · rw [if_neg hm]
    exact ⟨havail, hbit, fun e => absurd e hm⟩

end

/-- Settles O10: each clause by the lemma about its command. -/
theorem theLaneIsDrivenEveryWedge : Obligations.The_lane_is_driven_every_wedge := by
  unfold Obligations.The_lane_is_driven_every_wedge
  refine ⟨?latch, ?sub, ?repeated, ?residue, ?discarded, ?handover, ?passed, ?released, ?failed, ?shadow, ?invalid, ?parity⟩
  case latch => exact fun s ch h hu hp hr hh hd => runs_of_up rfl hu (phi0Latch_latches h ch.isLt hp hr hh hd)
  case sub => exact fun s ch q h hu => runs_of_up rfl hu ⟨instantFrame_seq h _, instantFrame_num_loopOut s ch _⟩
  case repeated => exact fun s ch h hu hd => runs_of_up rfl hu (claspFrameRepeat_repeats h hd)
  case residue => exact fun s ch h hu hp hr => runs_of_up rfl hu (loopResidue_first h ch.isLt hp hr)
  case discarded => exact fun s ch h hu hp hr hh => runs_of_up rfl hu (loopResidue_second h ch.isLt hp hr hh)
  case handover =>
    intro s ch h hu hh
    have ht := holdHandover_hands h ch.isLt hh
    exact runs_of_up rfl hu ⟨ht.mode, ht.restarting, ht.restarts⟩
  case passed =>
    intro s ch _ hu hr hq
    refine runs_of_up rfl hu ?_
    have hl := restarted_loopOf ch.isLt s
    rw [restartPassed_eq ch.isLt hr, releaseLoop_of_none ((congrArg Loop.waiting hl).trans hq), waitsTaken_loopOf ch.isLt, hl]
    exact ⟨rfl, rfl⟩
  case released =>
    intro s ch _ hu hr hq hb
    refine runs_of_up rfl hu ?_
    have hl := restarted_loopOf ch.isLt s
    have hb' : (s.restarted ch).busOk (LOOP_CMD ch) 4 = true := (State.modLoop_busOk ..).trans hb
    rw [restartPassed_eq ch.isLt hr]
    exact releaseLoop_of_go (congrArg Loop.restarting hl) ((congrArg Loop.waiting hl).trans hq) hb'
  case failed =>
    intro s ch h hu hr hc
    obtain ⟨hrestarting, hcount⟩ := loopRestartDone_fail h hr hc
    refine runs_of_up rfl hu ?_
    rw [if_pos hrestarting]
    exact ⟨hrestarting, hcount⟩
  case shadow => exact fun s ch h hu hm hr hs hc => runs_of_up rfl hu (loopShadowEnd_follows h ch.isLt hm hr hs hc)
  case invalid =>
    intro s ch h hu hm hc
    have e : holdInvalidRetract ch s = s.holdRetract ch := if_pos ⟨hm, hc⟩
    have ht := holdRetract_retracted h ch.isLt
    refine runs_of_up rfl hu ?_
    rw [e]
    exact ⟨ht.mode, ht.due, ht.loop, ht.hold 1 (.inl rfl)⟩
  case parity => exact fun s ch h hu => runs_of_up rfl hu (holdParity_ends h ch.isLt)

end Sys2Proof.Machine

namespace Sys2Proof.Machine

/-! ## SPIN's registers, its fault bits and its states (R164, R173, R176, R489)

A command of the motor changes fields of SPIN_STAT, a few other registers and fault bits: `SpinRegs` names them, and one rule a function
says which. -/

section
variable {s₀ s t : State}

/-- A register of the SPIN unit. -/
def isSpinReg (a : Nat) : Bool := decide (addrDie a = 5 ∧ addrUnit a = 5)

theorem isEngineReg_of_isSpinReg {a : Nat} (h : isSpinReg a = true) : isEngineReg a = true := by
  obtain ⟨hd, hu⟩ := of_decide_eq_true h
  rw [isEngineReg, hd, hu]
  rfl

theorem isSpinReg_chReg {n u o : Nat} (hn : n < 4) (h : u * 0x1000000 + o < 0x20000000 := by decide) : isSpinReg (chReg n u o) = false := by
  rw [isSpinReg, addrDie_chReg hn h, decide_eq_false_iff_not]
  omega

/-! ### What leaves SPIN alone -/

/-- From `s` to `t` SPIN, the image and SPIN's registers stay. -/
structure SpinKept (s t : State) : Prop where
  spin : t.spin = s.spin
  img : t.img = s.img
  regs : ∀ a, isSpinReg a = true → t.rd a = s.rd a

theorem SpinKept.refl (s : State) : SpinKept s s := ⟨rfl, rfl, fun _ _ => rfl⟩

theorem SpinKept.trans (h : SpinKept s₀ s) (k : SpinKept s t) : SpinKept s₀ t :=
  ⟨k.spin.trans h.spin, k.img.trans h.img, fun a ha => (k.regs a ha).trans (h.regs a ha)⟩

/-- Whatever changes neither SPIN, nor the image, nor a register keeps them. -/
theorem SpinKept.frame (h : SpinKept s₀ s) (e : (t.spin, t.img, t.bank) = (s.spin, s.img, s.bank)) : SpinKept s₀ t := by
  simp only [Prod.mk.injEq] at e
  obtain ⟨hspin, himg, hbank⟩ := e
  refine h.trans ⟨hspin, himg, fun a _ => ?_⟩
  rw [State.rd, hbank, State.rd]

theorem SpinKept.ite {c : Prop} {i : Decidable c} (hs : SpinKept s₀ s) (ht : SpinKept s₀ t) : SpinKept s₀ (if c then s else t) := by
  split
  · exact hs
  · exact ht

theorem SpinKept.foldl {α : Type} {f : State → α → State} {l : List α} (h : SpinKept s₀ s)
    (hf : ∀ s, SpinKept s₀ s → ∀ a ∈ l, SpinKept s₀ (f s a)) : SpinKept s₀ (l.foldl f s) :=
  List.foldlRecOn l f h hf

theorem EnginesKept.spin (h : EnginesKept s t) : SpinKept s t :=
  ⟨congrArg Engines.spin h.engines, congrArg Engines.img h.engines, fun a ha => h.regs a (isEngineReg_of_isSpinReg ha)⟩

theorem SpinKept.wr {a : Nat} {v : Word} (h : SpinKept s₀ s) (ha : isSpinReg a = false) : SpinKept s₀ (s.wr a v) := by
  refine h.trans ⟨rfl, rfl, fun c hc => State.rd_wr_other s v ?_⟩
  rintro rfl
  rw [ha] at hc
  cases hc

theorem SpinKept.put {f : Fld} {x : Nat} (h : SpinKept s₀ s) (ha : isSpinReg f.addr = false) : SpinKept s₀ (s.put f x) := h.wr ha

theorem SpinKept.raise {e : Nat} (h : SpinKept s₀ s) : SpinKept s₀ (s.raise e) := h.trans (EnginesKept.raise (.refl s)).spin

theorem SpinKept.setClv {n : Nat} {b : Bool} (h : SpinKept s₀ s) : SpinKept s₀ (s.setClv n b) := .frame h rfl

theorem SpinKept.modLoop {n : Nat} {f : Loop → Loop} (h : SpinKept s₀ s) : SpinKept s₀ (s.modLoop n f) := .frame h rfl

theorem SpinKept.setMode {n m : Nat} (hn : n < 4) (h : SpinKept s₀ s) : SpinKept s₀ (s.setMode n m) := by
  have hl : isSpinReg (LOOP_STAT n) = false := isSpinReg_chReg (u := 9) (o := 0x4) hn
  have hh : isSpinReg (HOLD_STAT n) = false := isSpinReg_chReg (u := 10) (o := 0) hn
  have hc : isSpinReg (CLV_STAT n) = false := isSpinReg_chReg (u := 13) (o := 0) hn
  rw [setMode_eq]
  exact (((h.put hl).put hl).put hh).put hc

theorem SpinKept.retractLane {n : Nat} (hn : n < 4) (h : SpinKept s₀ s) : SpinKept s₀ (s.retractLane n) :=
  (h.setMode hn).setClv.modLoop

theorem SpinKept.degrade {n addr bit : Nat} (hn : n < 4) (h : SpinKept s₀ s) : SpinKept s₀ (s.degrade n addr bit) := by
  unfold State.degrade
  extract_lets s1
  have h1 : SpinKept s₀ s1 := h.trans (EnginesKept.partFirst (.refl s)).spin
  have h2 : SpinKept s₀ (s1.setActState n 2) := h1.trans (EnginesKept.setActState (.refl s1)).spin
  have h3 : SpinKept s₀ ((s1.setActState n 2).retractHeads n) := .ite h2 (h2.retractLane hn)
  exact .ite (h3.trans (EnginesKept.aenAll (.failCommands (.refl _))).spin) h1

theorem SpinKept.degradeAll {addr bit : Nat} (h : SpinKept s₀ s) : SpinKept s₀ (s.degradeAll addr bit) :=
  .foldl h fun _ h _ hn => .ite (h.degrade (List.mem_range.1 hn)) h

/-- The status of a bandgap's calibration is no register of SPIN. -/
theorem isSpinReg_calStat (d : Nat) : isSpinReg (CAL_STAT (unitBase d 0)) = false := by
  rw [isSpinReg, decide_eq_false_iff_not]
  simp only [addrUnit, CAL_STAT, unitBase]
  omega

theorem SpinKept.calBegin {u : Nat} (hu : u < 6) (h : SpinKept s₀ s) : SpinKept s₀ (s.calBegin u) := by
  have hb : calBase u = unitBase u 0 := if_pos hu
  refine .frame (h.put (f := CAL_STAT_BUSY (calBase u)) (x := 1) ?_) rfl
  rw [hb]
  exact isSpinReg_calStat u

theorem SpinKept.calLeave {u : Nat} (h : SpinKept s₀ s) : SpinKept s₀ (s.calLeave u) := by
  unfold State.calLeave
  split
  · exact .ite (.frame h rfl) h
  · exact h

theorem SpinKept.calPause {u : Nat} (hu : u < 6) (h : SpinKept s₀ s) : SpinKept s₀ (s.calPause u) := by
  have hb : calBase u = unitBase u 0 := if_pos hu
  have h1 : SpinKept s₀ (s.put (CAL_STAT_BUSY (calBase u)) 0) := h.put (hb ▸ isSpinReg_calStat u)
  exact .ite (.calLeave (.frame h1 rfl)) h

theorem SpinKept.applySelection {u sel : Nat} {cells : List Nat} (hu : u < 6) (h : SpinKept s₀ s) :
    SpinKept s₀ (applySelection u sel cells s) := by
  have e : Machine.applySelection u sel cells s = s.modCal u (fun c => { c with selection := sel }) := if_pos hu
  rw [e]
  exact .frame h rfl

/-- The tick of a die whose calibrating units are bandgaps. -/
theorem SpinKept.calTick {die : Nat} (hu : ∀ u ∈ (List.range 18).filter (fun u => decide (calDie u = die)), u < 6) (h : SpinKept s₀ s) :
    SpinKept s₀ (s.calTick die) := by
  unfold State.calTick
  extract_lets _ s1
  have h1 : SpinKept s₀ s1 := by
    refine .foldl h fun s1 h1 u hm => ?_
    split
    · exact .applySelection (hu u hm) (.frame h1 rfl)
    · exact h1
  refine .foldl h1 fun s1 h1 u hm => .ite h1 (.ite (.frame (h1.calBegin (hu u hm)) rfl) ?_)
  split
  · exact .ite (h1.calPause (hu u hm)) h1
  · exact .ite (.frame (h1.calPause (hu u hm)) rfl) h1
  · exact h1

/-- At a reference tick the calibrations of the HUB and of the KPR take their turn. -/
theorem SpinKept.calTicks (h : SpinKept s₀ s) : SpinKept s₀ ((s.calTick 0).calTick 5) :=
  (h.calTick (by decide)).calTick (by decide)

end
end Sys2Proof.Machine

namespace Sys2Proof.Machine

section
variable {s₀ s t : State} {fs : List Fld} {rs : List Nat}

/-! ### What changes registers of SPIN -/

/-- From `s` to `t`, both well formed, SPIN's registers stay but for the fields `fs` of SPIN_STAT and the registers `rs`, and no bit of SPIN_FAULT
falls; the image stays. -/
structure SpinRegs (fs : List Fld) (rs : List Nat) (s t : State) : Prop where
  wf : t.Wf
  img : t.img = s.img
  regs : ∀ a, isSpinReg a = true → a ∉ SPIN_STAT :: rs → t.rd a = s.rd a
  stat : ∀ g : Fld, g.addr = SPIN_STAT → fs.all (·.apart g) = true → t.get g = s.get g
  fault : ∀ j, bitOf (s.num SPIN_FAULT) j = true → bitOf (t.num SPIN_FAULT) j = true

theorem SpinRegs.refl (h : s.Wf) : SpinRegs fs rs s s := ⟨h, rfl, fun _ _ _ => rfl, fun _ _ _ => rfl, fun _ => id⟩

theorem SpinRegs.trans (h : SpinRegs fs rs s₀ s) (k : SpinRegs fs rs s t) : SpinRegs fs rs s₀ t :=
  ⟨k.wf, k.img.trans h.img, fun a ha hn => (k.regs a ha hn).trans (h.regs a ha hn), fun g hg hf => (k.stat g hg hf).trans (h.stat g hg hf),
    fun j hj => k.fault j (h.fault j hj)⟩

theorem SpinRegs.ite {c : Prop} {i : Decidable c} (hs : SpinRegs fs rs s₀ s) (ht : SpinRegs fs rs s₀ t) :
    SpinRegs fs rs s₀ (if c then s else t) := by
  split
  · exact hs
  · exact ht

/-- What leaves SPIN's registers alone. -/
theorem SpinRegs.kept (h : SpinRegs fs rs s₀ s) (hw : Evolves s t) (hi : t.img = s.img) (hr : ∀ a, isSpinReg a = true → t.rd a = s.rd a) :
    SpinRegs fs rs s₀ t := by
  refine h.trans ⟨hw.wf h.wf, hi, fun a ha _ => hr a ha, fun g hg _ => State.get_of_rd (hr _ (hg ▸ rfl)), fun j hj => ?_⟩
  rwa [State.num_of_rd (hr SPIN_FAULT rfl)]

theorem SpinRegs.spinKept (h : SpinRegs fs rs s₀ s) (k : SpinKept s t) (hw : Evolves s t) : SpinRegs fs rs s₀ t := h.kept hw k.img k.regs

theorem SpinRegs.modSpin {f : Spin → Spin} (h : SpinRegs fs rs s₀ s) : SpinRegs fs rs s₀ (s.modSpin f) :=
  h.kept (Evolves.refl s).modSpin rfl fun _ _ => rfl

theorem SpinRegs.modDrv {f : Drive → Drive} (h : SpinRegs fs rs s₀ s) : SpinRegs fs rs s₀ (s.modDrv f) := h.modSpin

theorem SpinRegs.modRef {f : WedgeRef → WedgeRef} (h : SpinRegs fs rs s₀ s) : SpinRegs fs rs s₀ (s.modRef f) := h.modSpin

theorem SpinRegs.raise {e : Nat} (h : SpinRegs fs rs s₀ s) : SpinRegs fs rs s₀ (s.raise e) :=
  h.spinKept (.raise (.refl s)) (.raise (.refl s))

theorem SpinRegs.put {f : Fld} {x : Nat} (h : SpinRegs fs rs s₀ s) (hf : f.addr = SPIN_STAT ∧ f ∈ fs) : SpinRegs fs rs s₀ (s.put f x) := by
  obtain ⟨ha, hm⟩ := hf
  refine h.trans ⟨h.wf.put f x, rfl, fun a _ hn => State.rd_put_other s x ?_, fun g hg hall => ?_, fun j hj => ?_⟩
  · rw [ha]
    exact List.ne_of_not_mem_cons hn
  · exact State.get_put_of_apart h.wf f g (hg.trans ha.symm) (List.all_eq_true.1 hall f hm)
  · rwa [State.num_of_rd (State.rd_put_other s x (ha ▸ by decide))]

theorem SpinRegs.wr {a : Nat} {v : Word} (h : SpinRegs fs rs s₀ s) (ha : a ∈ rs) (hne : a ≠ SPIN_STAT ∧ a ≠ SPIN_FAULT := by decide) :
    SpinRegs fs rs s₀ (s.wr a v) := by
  obtain ⟨hs, hf⟩ := hne
  refine h.trans ⟨h.wf.wr a v, rfl, fun c _ hn => State.rd_wr_other s v ?_, fun g hg _ => State.get_of_rd (State.rd_wr_other s v (hg ▸ hs.symm)),
    fun j hj => ?_⟩
  · rintro rfl
    exact hn (List.mem_cons_of_mem _ ha)
  · rwa [State.num_of_rd (State.rd_wr_other s v hf.symm)]

theorem SpinRegs.setNum {a x : Nat} (h : SpinRegs fs rs s₀ s) (ha : a ∈ rs) (hne : a ≠ SPIN_STAT ∧ a ≠ SPIN_FAULT := by decide) :
    SpinRegs fs rs s₀ (s.setNum a x) :=
  h.wr ha hne

/-- A saturating counter of SPIN. -/
theorem SpinRegs.countSat {cnt bit k : Nat} (h : SpinRegs fs rs s₀ s) (hc : cnt ∈ rs) (hs : SPIN_SAT ∈ rs)
    (hne : cnt ≠ SPIN_STAT ∧ cnt ≠ SPIN_FAULT := by decide) : SpinRegs fs rs s₀ (s.countSat cnt SPIN_SAT_SAT bit k) :=
  .ite ((h.setNum hc hne).wr hs) (h.setNum hc hne)

/-! ### Fault bits of SPIN -/

theorem spinFaultBit_set (h : s.Wf) {bit : Nat} (hk : bit < 32) (sev cls inst detail : Nat) :
    FaultSet spinFault bit s (s.faultBit spinFault bit sev cls inst detail) := by
  refine faultBit_set h rfl hk (fun p hp => ?_) _ _ _ _
  cases hp
  decide

theorem FaultSet.spin {fr : FaultReg} {bit : Nat} (h : FaultSet fr bit s t) : t.spin = s.spin := congrArg Engines.spin h.engines

theorem SpinRegs.faultBit {bit sev cls inst detail : Nat} (h : SpinRegs fs rs s₀ s) (hk : bit < 32) (hf : SPIN_FAULT ∈ rs) (hl : SPIN_FIRST ∈ rs) :
    SpinRegs fs rs s₀ (s.faultBit spinFault bit sev cls inst detail) := by
  have hs := spinFaultBit_set h.wf hk sev cls inst detail
  have hrd {a : Nat} (ha : isSpinReg a = true) (hne : a ≠ SPIN_FAULT ∧ a ≠ SPIN_FIRST) :
      (s.faultBit spinFault bit sev cls inst detail).rd a = s.rd a := by
    obtain ⟨hfault, hfirst⟩ := hne
    refine hs.regs a (isEngineReg_of_isSpinReg ha) hfault fun p hp => ?_
    cases hp
    exact hfirst
  refine h.trans ⟨(Evolves.faultBit (.refl s)).wf h.wf, congrArg Engines.img hs.engines, fun a ha hn => hrd ha ⟨?_, ?_⟩, fun g hg _ => ?_,
    fun j hj => hs.bits j (.inr hj)⟩
  · rintro rfl
    exact hn (List.mem_cons_of_mem _ hf)
  · rintro rfl
    exact hn (List.mem_cons_of_mem _ hl)
  · exact State.get_of_rd (hrd (hg ▸ rfl) (hg ▸ by decide))

/-! ### What `SpinRegs` says of fields, numbers and the image -/

theorem SpinRegs.flag (h : SpinRegs fs rs s t) (g : Fld) (hg : g.addr = SPIN_STAT) (hf : fs.all (·.apart g) = true) : t.flag g = s.flag g := by
  rw [State.flag, h.stat g hg hf, State.flag]

theorem SpinRegs.spinState (h : SpinRegs fs rs s t) (hf : fs.all (·.apart SPIN_STAT_STATE) = true) : t.spinState = s.spinState :=
  h.stat SPIN_STAT_STATE rfl hf

theorem SpinRegs.imgNat (h : SpinRegs fs rs s t) (f : Image → Nat) : t.imgNat f = s.imgNat f := by
  rw [State.imgNat, h.img, State.imgNat]

theorem SpinRegs.get (h : SpinRegs fs rs s t) (g : Fld) (hg : isSpinReg g.addr = true) (hn : g.addr ∉ SPIN_STAT :: rs) : t.get g = s.get g :=
  State.get_of_rd (h.regs _ hg hn)

theorem SpinRegs.num (h : SpinRegs fs rs s t) {a : Nat} (ha : isSpinReg a = true) (hn : a ∉ SPIN_STAT :: rs) : t.num a = s.num a :=
  State.num_of_rd (h.regs _ ha hn)

/-! ### What an update of SPIN leaves of the registers and the image, and what a write leaves of SPIN -/

theorem State.modSpin_spin (s : State) (f : Spin → Spin) : (s.modSpin f).spin = f s.spin := rfl

theorem State.modSpin_modSpin (s : State) (f g : Spin → Spin) : (s.modSpin f).modSpin g = s.modSpin fun p => g (f p) := rfl

theorem State.modSpin_spinState (s : State) (f : Spin → Spin) : (s.modSpin f).spinState = s.spinState := rfl

theorem State.modSpin_flag (s : State) (f : Spin → Spin) (g : Fld) : (s.modSpin f).flag g = s.flag g := rfl

theorem State.modSpin_num64 (s : State) (f : Spin → Spin) (lo hi : Nat) : (s.modSpin f).num64 lo hi = s.num64 lo hi := rfl

theorem State.modDrv_spin (s : State) (f : Drive → Drive) : (s.modDrv f).spin = { s.spin with drv := f s.spin.drv } := rfl

theorem State.modDrv_spinState (s : State) (f : Drive → Drive) : (s.modDrv f).spinState = s.spinState := rfl

theorem State.modDrv_flag (s : State) (f : Drive → Drive) (g : Fld) : (s.modDrv f).flag g = s.flag g := rfl

/-! ### Entry to a state (R164, R173, R176) -/

/-- The states whose outputs are off at once (R164). -/
def outputsOffIn (st : Nat) : Bool := decide (st = spStopped ∨ st = spSense ∨ st = spCoast ∨ st = spFailed)

/-- SPIN as entry to a state leaves it. -/
def Spin.entered (p : Spin) (st : Nat) : Spin :=
  { p with
    lockRun := 0, losRun := 0, okRun := 0, accelRevs := 0, relock := 0
    out := if outputsOffIn st then none else p.out
    nextOut := if outputsOffIn st then none else p.nextOut
    drv := { p.drv with gates := if outputsOffIn st then [] else p.drv.gates } }

/-- STATE and SPIN_RUN as entry to a state sets them. -/
def State.showState (s : State) (st : Nat) : State :=
  (s.put SPIN_STAT_STATE st).put SPIN_STAT_SPIN_RUN (ofBool (decide (st = spAccel) || decide (st = spLocked) || decide (st = spHoldAngle)))

/-- The runs of SPIN begin afresh, and the outputs of a state whose outputs are off go off. -/
def State.startRuns (s : State) (st : Nat) : State := s.modSpin (·.entered st)

/-- SPIN_LOCK falls where the state is not LOCKED. -/
def State.leaveLock (s : State) (st : Nat) : State := if st = spLocked then s else s.spinLock false

theorem setSpin_eq (s : State) (st : Nat) :
    s.setSpin st =
      if st = spCoast ∧ s.spinState ≠ spCoast then
        (((s.showState st).leaveLock st).startRuns st).raise 467
      else ((s.showState st).leaveLock st).startRuns st := by
  have hruns (u : State) : (if st = spStopped ∨ st = spSense ∨ st = spCoast ∨ st = spFailed then
      (u.modSpin (fun p => { p with lockRun := 0, losRun := 0, okRun := 0, accelRevs := 0, relock := 0 })).spinOff
      else u.modSpin (fun p => { p with lockRun := 0, losRun := 0, okRun := 0, accelRevs := 0, relock := 0 })) = u.startRuns st := by
    unfold State.startRuns Spin.entered outputsOffIn
    split
    next ho => simp only [ho, decide_true, if_true]; rfl
    next ho => simp only [ho, decide_false, Bool.false_eq_true, if_false]
  unfold State.setSpin
  extract_lets _ s1 s2 s3 s4 _ s5
  have h5 : s5 = s3.startRuns st := hruns s3
  rw [h5]
  rfl

theorem SpinRegs.spinLock {b : Bool} (h : SpinRegs fs rs s₀ s) (hf : SPIN_STAT_SPIN_LOCK ∈ fs) : SpinRegs fs rs s₀ (s.spinLock b) :=
  .ite h (h.put ⟨rfl, hf⟩).raise

theorem spinLock_spin (s : State) (b : Bool) : (s.spinLock b).spin = s.spin := by
  unfold State.spinLock
  split
  · rfl
  · exact (SpinKept.raise (.refl _)).spin

theorem spinLock_flag (h : s.Wf) (b : Bool) : (s.spinLock b).flag SPIN_STAT_SPIN_LOCK = b := by
  unfold State.spinLock
  split
  · assumption
  · have hr : SpinRegs [] [] (s.put SPIN_STAT_SPIN_LOCK (ofBool b)) ((s.put SPIN_STAT_SPIN_LOCK (ofBool b)).raise 466) :=
      .raise (.refl (h.put _ _))
    rw [hr.flag SPIN_STAT_SPIN_LOCK rfl rfl]
    cases b
    · exact State.flag_put_zero h rfl
    · exact State.flag_put_one h rfl

theorem SpinRegs.leaveLock {st : Nat} (h : SpinRegs fs rs s₀ s) (hf : SPIN_STAT_SPIN_LOCK ∈ fs) : SpinRegs fs rs s₀ (s.leaveLock st) :=
  .ite h (h.spinLock hf)

theorem leaveLock_spin (s : State) (st : Nat) : (s.leaveLock st).spin = s.spin := by
  unfold State.leaveLock
  split
  · rfl
  · exact spinLock_spin _ _

/-- After STATE and SPIN_RUN are set, entry to a state changes no field of SPIN_STAT but SPIN_LOCK. -/
theorem setSpin_lock (h : s.Wf) (st : Nat) : SpinRegs [SPIN_STAT_SPIN_LOCK] [] (s.showState st) (s.setSpin st) := by
  have h1 : SpinRegs [SPIN_STAT_SPIN_LOCK] [] (s.showState st) ((s.showState st).leaveLock st) :=
    .leaveLock (.refl ((h.put _ _).put _ _)) (List.mem_cons_self ..)
  rw [setSpin_eq]
  exact .ite h1.modSpin.raise h1.modSpin

theorem SpinRegs.setSpin {st : Nat} (h : SpinRegs fs rs s₀ s) (hm : SPIN_STAT_STATE ∈ fs ∧ SPIN_STAT_SPIN_RUN ∈ fs ∧ SPIN_STAT_SPIN_LOCK ∈ fs) :
    SpinRegs fs rs s₀ (s.setSpin st) := by
  obtain ⟨hs, hr, hl⟩ := hm
  have h1 : SpinRegs fs rs s₀ (s.showState st) := (h.put ⟨rfl, hs⟩).put ⟨rfl, hr⟩
  have h2 : SpinRegs fs rs s₀ ((s.showState st).leaveLock st) := h1.leaveLock hl
  rw [setSpin_eq]
  exact .ite h2.modSpin.raise h2.modSpin

theorem setSpin_spin (s : State) (st : Nat) : (s.setSpin st).spin = s.spin.entered st := by
  have h1 : ((s.showState st).leaveLock st).spin = s.spin := leaveLock_spin _ _
  have h2 : (((s.showState st).leaveLock st).startRuns st).spin = s.spin.entered st :=
    congrArg (Spin.entered · st) h1
  rw [setSpin_eq]
  split
  · exact ((SpinKept.raise (.refl _)).spin).trans h2
  · exact h2

/-- STATE has four bits. -/
theorem setSpin_state_mod (h : s.Wf) (st : Nat) : (s.setSpin st).spinState = st % 16 := by
  rw [(setSpin_lock h st).spinState rfl, State.spinState, State.showState,
    State.get_put_of_apart (h.put _ _) SPIN_STAT_SPIN_RUN SPIN_STAT_STATE rfl rfl, State.get_put_self h _ _ _ rfl]
  exact bitsOf_insertBits_self _ _ (by decide) (by decide)

theorem setSpin_state (h : s.Wf) {st : Nat} (hst : st < 16 := by decide) : (s.setSpin st).spinState = st :=
  (setSpin_state_mod h st).trans (Nat.mod_eq_of_lt hst)

theorem setSpin_run (h : s.Wf) {st : Nat} (hs : st = spAccel ∨ st = spLocked ∨ st = spHoldAngle) :
    (s.setSpin st).flag SPIN_STAT_SPIN_RUN = true := by
  have e : ofBool (decide (st = spAccel) || decide (st = spLocked) || decide (st = spHoldAngle)) = 1 := by
    rcases hs with rfl | rfl | rfl <;> rfl
  rw [(setSpin_lock h st).flag SPIN_STAT_SPIN_RUN rfl rfl, State.showState, e]
  exact State.flag_put_one (h.put _ _) rfl

end
end Sys2Proof.Machine

namespace Sys2Proof.Machine

/-! ## Starting, catching and braking (R176-R183) -/

section
variable {s t : State}

/-- A command that acts on a condition which holds. -/
theorem runs_of_cond {c : Instr} {p : Prop} {i : Decidable p} {u v : State} {P : State → Prop} (he : exec c s = .next (if p then u else v))
    (hc : p) (hp : P u) : Runs c s P :=
  ⟨u, he.trans (congrArg Host.Outcome.next (if_pos hc)), hp⟩

/-- The fields of SPIN_STAT that show the state. -/
def stateFlds : List Fld := [SPIN_STAT_STATE, SPIN_STAT_SPIN_RUN, SPIN_STAT_SPIN_LOCK]

theorem setSpin_regs (h : s.Wf) (st : Nat) : SpinRegs stateFlds [] s (s.setSpin st) := .setSpin (.refl h) (by decide)

/-! ### Entries to states -/

theorem enterSense_state (h : s.Wf) (again : Bool) : (s.enterSense again).spinState = spSense := by
  have hr : SpinRegs [SPIN_STAT_ANGLE_KNOWN] [] (s.setSpin spSense) (s.enterSense again) :=
    .modSpin (.put (.refl (setSpin_regs h spSense).wf) ⟨rfl, List.mem_cons_self ..⟩)
  rw [hr.spinState rfl, setSpin_state h]

theorem enterBrake_state (h : s.Wf) (pend : Bool) (b : Brake) : (s.enterBrake pend b).spinState = spBrake := by
  rw [State.enterBrake, State.modDrv_spinState, State.modSpin_spinState, setSpin_state h]

theorem enterBrake_pendStart (s : State) (pend : Bool) (b : Brake) : (s.enterBrake pend b).spin.pendStart = pend := rfl

theorem enterBrake_attempts (s : State) (pend : Bool) (b : Brake) : (s.enterBrake pend b).spin.attempts = s.spin.attempts := by
  rw [State.enterBrake, State.modDrv_spin, State.modSpin_spin, setSpin_spin]
  rfl

theorem enterAlign_state (h : s.Wf) : s.enterAlign.spinState = spAlign := by
  rw [State.enterAlign, State.modDrv_spinState, State.modSpin_spinState, setSpin_state h]

/-- Braking from a direction shown keeps showing it. -/
theorem enterBrake_dir (h : s.Wf) (x : Nat) (pend : Bool) (b : Brake) :
    ((s.put SPIN_STAT_DIR x).enterBrake pend b).flag SPIN_STAT_DIR = (s.put SPIN_STAT_DIR x).flag SPIN_STAT_DIR := by
  rw [State.enterBrake, State.modDrv_flag, State.modSpin_flag, (setSpin_regs (h.put _ _) spBrake).flag SPIN_STAT_DIR rfl rfl]

/-- FAILED as it is entered, before the fault is recorded. -/
def State.failing (s : State) : State := (s.setSpin spFailed).modSpin (fun p => { p with starting := false, pendStart := false })

theorem enterFailed_fails (h : s.Wf) :
    s.enterFailed.spinState = spFailed ∧ bitOf (s.enterFailed.num SPIN_FAULT) 5 = true ∧ s.enterFailed.spin.attempts = s.spin.attempts := by
  have hw : s.failing.Wf := (setSpin_regs h spFailed).modSpin.wf
  have hf := spinFaultBit_set hw (bit := 5) (by decide) sevFault clsDegraded noInst 0
  have hk : SpinKept (s.failing.faultBit spinFault 5 sevFault clsDegraded noInst 0) s.enterFailed := .degradeAll (.raise (.refl _))
  have hr : SpinRegs [] [SPIN_FAULT, SPIN_FIRST] s.failing s.enterFailed :=
    .spinKept (.faultBit (.refl hw) (by decide) (by decide) (by decide)) hk (.degradeAll (.raise (.refl _)))
  refine ⟨?_, ?_, ?_⟩
  · rw [hr.spinState rfl, State.failing, State.modSpin_spinState, setSpin_state h]
  · rw [State.num_of_rd (hk.regs SPIN_FAULT rfl)]
    exact hf.bit
  · rw [hk.spin, hf.spin, State.failing, State.modSpin_spin, setSpin_spin]
    rfl

/-! ### Crossings in SENSE (R177) -/

/-- SPIN after a further crossing of SENSE. -/
def Spin.crossed (p : Spin) (k interval : Nat) : Spin :=
  { p with crossN := p.crossN + 1, crossSum := p.crossSum + interval, crossPrev := k,
           crossFwd := p.crossFwd && decide (k = (p.crossPrev + 1) % 6),
           crossRev := p.crossRev && decide (p.crossPrev = (k + 1) % 6) }

/-- A further crossing of SENSE is counted. -/
def State.crossed (s : State) (k interval : Nat) : State := s.modSpin (·.crossed k interval)

theorem crossed_wf (h : s.Wf) (k interval : Nat) : (s.crossed k interval).Wf := (Evolves.refl s).modSpin.wf h

theorem senseCrossing_third {k : Nat} (interval : Nat) (hn : s.spin.crossN = 2) (hf : s.spin.crossFwd = true) (hk : k = (s.spin.crossPrev + 1) % 6) :
    senseCrossing k interval s =
      if (s.crossed k interval).crossRpm 600 then (s.crossed k interval).catchMotor k
      else ((s.crossed k interval).put SPIN_STAT_DIR 0).enterBrake true (if (s.crossed k interval).aboveObs then .foc else .zero) := by
  have h0 : ¬s.spin.crossN = 0 := by omega
  have hmod : s.modSpin (fun p => if p.crossN = 0 then { p with crossN := 1, crossPrev := k } else p.crossed k interval) = s.crossed k interval :=
    congrArg (fun p => { s with spin := p }) (if_neg h0)
  have h3 : 3 ≤ (s.crossed k interval).spin.crossN ∧ (s.crossed k interval).spin.crossFwd = true := by
    refine ⟨Nat.succ_le_succ (Nat.le_of_eq hn.symm), ?_⟩
    rw [State.crossed, State.modSpin, Spin.crossed, hf, decide_eq_true hk]
    rfl
  unfold senseCrossing
  extract_lets s1
  have h1 : s1 = s.crossed k interval := hmod
  rw [h1]
  exact if_pos h3

theorem crossed_crossRpm {k interval : Nat} (hn : s.spin.crossN = 2) (rpm : Nat) :
    (s.crossed k interval).crossRpm rpm =
      decide (rpm * (s.spin.crossSum + interval) * s.imgNat Image.polePairs ≤ 10000000000 * 2) := by
  have e : (s.crossed k interval).crossRpm rpm =
    decide (rpm * (s.spin.crossSum + interval) * s.imgNat Image.polePairs ≤ 10000000000 * (s.spin.crossN + 1 - 1)) := rfl
  rw [e, hn]

theorem clampI_zero (n : Nat) : clampI (-(n : Int)) n 0 = 0 := by
  rw [clampI]
  omega

theorem SpinRegs.setTorque {fs : List Fld} {rs : List Nat} {s₀ : State} {i : Int} (h : SpinRegs fs rs s₀ s) : SpinRegs fs rs s₀ (s.setTorque i) := by
  unfold State.setTorque
  exact h.modSpin

theorem State.setTorque_spin (s : State) (i : Int) :
    (s.setTorque i).spin = { s.spin with torque := clampI (-(s.imgNat Image.iMax : Int)) (s.imgNat Image.iMax) i } := rfl

theorem State.setObserver_spin (s : State) (theta omega : Nat) :
    (s.setObserver theta omega).spin =
      { s.spin with theta := theta, omega := omega, okTheta := theta, okSector := s.spin.ref.sector, okOmega := omega } := rfl

theorem SpinRegs.setObserver {fs : List Fld} {rs : List Nat} {s₀ : State} {theta omega : Nat} (h : SpinRegs fs rs s₀ s)
    (hf : SPIN_STAT_SPEED ∈ fs) : SpinRegs fs rs s₀ (s.setObserver theta omega) :=
  (h.put ⟨rfl, hf⟩).modSpin

theorem catchMotor_regs (h : s.Wf) (k : Nat) : SpinRegs [SPIN_STAT_SPEED] [] ((s.put SPIN_STAT_DIR 0).setSpin spAccel) (s.catchMotor k) := by
  unfold State.catchMotor
  exact .modDrv (.setTorque (.setObserver (.refl (setSpin_regs (h.put _ _) _).wf) (List.mem_cons_self ..)))

/-- The observer of a caught motor is set from its crossings, and it has no torque. -/
theorem catchMotor_spin (s : State) (k : Nat) :
    (s.catchMotor k).spin.theta = crossAngle k ∧
      (s.catchMotor k).spin.omega = rpmOf (s.spin.crossN - 1) s.spin.crossSum (s.imgNat Image.polePairs) ∧ (s.catchMotor k).spin.torque = 0 :=
  ⟨rfl, rfl, clampI_zero _⟩

theorem catchMotor_state (h : s.Wf) (k : Nat) : (s.catchMotor k).spinState = spAccel ∧ (s.catchMotor k).flag SPIN_STAT_SPIN_RUN = true := by
  have hw := h.put SPIN_STAT_DIR 0
  refine ⟨((catchMotor_regs h k).spinState rfl).trans (setSpin_state hw), ?_⟩
  rw [(catchMotor_regs h k).flag SPIN_STAT_SPIN_RUN rfl rfl]
  exact setSpin_run hw (.inl rfl)

/-- The third forward crossing at 600 rpm or more catches the motor. -/
theorem senseCrossing_catches (h : s.Wf) {k interval : Nat} (hn : s.spin.crossN = 2) (hf : s.spin.crossFwd = true)
    (hk : k = (s.spin.crossPrev + 1) % 6) (hr : 600 * (s.spin.crossSum + interval) * s.imgNat Image.polePairs ≤ 10000000000 * 2) :
    (senseCrossing k interval s).spinState = spAccel ∧ (senseCrossing k interval s).spin.theta = crossAngle k ∧
      (senseCrossing k interval s).spin.omega = rpmOf 2 (s.spin.crossSum + interval) (s.imgNat Image.polePairs) ∧
      (senseCrossing k interval s).spin.torque = 0 ∧ (senseCrossing k interval s).flag SPIN_STAT_SPIN_RUN = true := by
  obtain ⟨htheta, homega, htorque⟩ := catchMotor_spin (s.crossed k interval) k
  obtain ⟨hstate, hrun⟩ := catchMotor_state (crossed_wf h k interval) k
  have hn' : (s.crossed k interval).spin.crossN - 1 = 2 := hn
  rw [senseCrossing_third interval hn hf hk, if_pos ((crossed_crossRpm hn 600).trans (decide_eq_true hr))]
  rw [hn'] at homega
  exact ⟨hstate, htheta, homega, htorque, hrun⟩

/-- A slower one brakes with a start pending. -/
theorem senseCrossing_brakes (h : s.Wf) {k interval : Nat} (hn : s.spin.crossN = 2) (hf : s.spin.crossFwd = true)
    (hk : k = (s.spin.crossPrev + 1) % 6) (hr : 10000000000 * 2 < 600 * (s.spin.crossSum + interval) * s.imgNat Image.polePairs) :
    (senseCrossing k interval s).spinState = spBrake ∧ (senseCrossing k interval s).spin.pendStart = true ∧
      (senseCrossing k interval s).flag SPIN_STAT_DIR = false := by
  have hw := crossed_wf h k interval
  have e : ¬(s.crossed k interval).crossRpm 600 = true := by
    rw [crossed_crossRpm hn, decide_eq_true_eq]
    exact Nat.not_le.2 hr
  rw [senseCrossing_third interval hn hf hk, if_neg e]
  exact ⟨enterBrake_state (hw.put _ _) _ _, enterBrake_pendStart .., (enterBrake_dir hw 0 _ _).trans (State.flag_put_zero hw rfl)⟩

/-! ### Crossings in HOLD_ANGLE (R181) -/

/-- The crossings in a row that are consistent are counted. -/
def State.relockCount (s : State) (ok : Bool) : State := s.modSpin (fun p => { p with relock := if ok then p.relock + 1 else 0 })

/-- The motor as a third consistent crossing re-locks it, before the fault is recorded. -/
def State.relocked (s : State) (k interval : Nat) : State :=
  let s := (s.setSpin s.spin.origin).setObserver (crossAngle k) (rpmOf 1 interval (s.imgNat Image.polePairs))
  (s.setTorque s.spin.drv.held).modDrv (fun d => { d with preset := some d.held })

theorem relockCount_wf (h : s.Wf) (ok : Bool) : (s.relockCount ok).Wf := (Evolves.refl s).modSpin.wf h

theorem relocked_regs (h : s.Wf) (k interval : Nat) : SpinRegs [SPIN_STAT_SPEED] [] (s.setSpin s.spin.origin) (s.relocked k interval) := by
  unfold State.relocked
  exact .modDrv (.setTorque (.setObserver (.refl (setSpin_regs h _).wf) (List.mem_cons_self ..)))

theorem relocked_torque (h : s.Wf) (k interval : Nat) :
    (s.relocked k interval).spin.torque = clampI (-(s.imgNat Image.iMax : Int)) (s.imgNat Image.iMax) s.spin.drv.held := by
  have hr : SpinRegs [SPIN_STAT_SPEED] [] (s.setSpin s.spin.origin)
      ((s.setSpin s.spin.origin).setObserver (crossAngle k) (rpmOf 1 interval (s.imgNat Image.polePairs))) :=
    .setObserver (.refl (setSpin_regs h _).wf) (List.mem_cons_self ..)
  unfold State.relocked
  rw [State.modDrv_spin, State.setTorque_spin, State.setObserver_spin, hr.imgNat, (setSpin_regs h _).imgNat, setSpin_spin]
  rfl

/-- A crossing is consistent where it lies within 15° and its interval within 2 % (R181). -/
def State.consistent (s : State) (k interval at_ : Nat) : Bool :=
  decide ((s.crossDev k at_).natAbs * 24 ≤ 0x100000000) &&
    decide (((10000000000 * 65536 : Int) - (s.spin.okOmega.natAbs * interval * s.imgNat Image.polePairs : Nat)).natAbs * 50 ≤
      s.spin.okOmega.natAbs * interval * s.imgNat Image.polePairs)

theorem holdCrossing_eq (k interval at_ : Nat) (s : State) :
    holdCrossing k interval at_ s =
      if 3 ≤ (s.relockCount (s.consistent k interval at_)).spin.relock then
        (((s.relockCount (s.consistent k interval at_)).relocked k interval).noteBit spinFault 3).raise 465
      else s.relockCount (s.consistent k interval at_) := by
  unfold holdCrossing
  extract_lets w pp x y ok s1 s2 s3
  have hok : ok = s.consistent k interval at_ := by
    have hy : y = ((w * interval * pp : Nat) : Int) := by
      rw [Nat.cast_mul, Nat.cast_mul]
    rw [State.consistent, ← Int.natAbs_natCast (s.spin.okOmega.natAbs * interval * s.imgNat Image.polePairs)]
    show (_ && decide ((x - y).natAbs * 50 ≤ y.natAbs)) = _
    rw [hy]
    rfl
  have h1 : s1 = s.relockCount (s.consistent k interval at_) := congrArg s.relockCount hok
  have h3 : s3 = s1.relocked k interval := rfl
  rw [h3, h1]

theorem holdCrossing_inconsistent {k interval at_ : Nat} (h : s.consistent k interval at_ = false) :
    holdCrossing k interval at_ s = s.relockCount false := by
  rw [holdCrossing_eq, h]
  exact if_neg (by decide : ¬3 ≤ 0)

theorem holdCrossing_third {k interval at_ : Nat} (hn : s.spin.relock = 2) (h : s.consistent k interval at_ = true) :
    holdCrossing k interval at_ s = (((s.relockCount true).relocked k interval).noteBit spinFault 3).raise 465 := by
  have h3 : 3 ≤ (s.relockCount true).spin.relock := Nat.succ_le_succ (Nat.le_of_eq hn.symm)
  rw [holdCrossing_eq, h]
  exact if_pos h3

theorem holdCrossing_relocks (h : s.Wf) {k interval at_ : Nat} (hn : s.spin.relock = 2) (hc : s.consistent k interval at_ = true) :
    (holdCrossing k interval at_ s).spinState = s.spin.origin % 16 ∧ (holdCrossing k interval at_ s).spin.theta = crossAngle k ∧
      (holdCrossing k interval at_ s).spin.torque = clampI (-(s.imgNat Image.iMax : Int)) (s.imgNat Image.iMax) s.spin.drv.held ∧
      bitOf ((holdCrossing k interval at_ s).num SPIN_FAULT) 3 = true := by
  have hw := relockCount_wf h true
  have hwr := (relocked_regs hw k interval).wf
  have hf := spinFaultBit_set hwr (bit := 3) (by decide) sevNote clsCorrected noInst 0
  have hk : SpinKept (((s.relockCount true).relocked k interval).noteBit spinFault 3)
    ((((s.relockCount true).relocked k interval).noteBit spinFault 3).raise 465) := .raise (.refl _)
  have hr : SpinRegs [] [SPIN_FAULT, SPIN_FIRST] ((s.relockCount true).relocked k interval)
    ((((s.relockCount true).relocked k interval).noteBit spinFault 3).raise 465) :=
    .raise (.faultBit (.refl hwr) (by decide) (by decide) (by decide))
  rw [holdCrossing_third hn hc]
  refine ⟨?_, ?_, ?_, ?_⟩
  · rw [hr.spinState rfl, (relocked_regs hw k interval).spinState rfl, setSpin_state_mod hw]
    rfl
  · exact congrArg Spin.theta (hk.spin.trans hf.spin)
  · exact (congrArg Spin.torque (hk.spin.trans hf.spin)).trans (relocked_torque hw k interval)
  · rw [State.num_of_rd (hk.regs SPIN_FAULT rfl)]
    exact hf.bit

theorem runs_holdCrossing {k : Fin 6} {interval at_ : Nat} {P : State → Prop} (hs : s.spinState = spHoldAngle)
    (hp : P (holdCrossing k interval at_ s)) : Runs (.zeroCrossing k interval at_) s P := by
  have hne : ¬s.spinState = spSense := by
    rw [hs]
    decide
  exact ⟨_, congrArg Host.Outcome.next ((if_neg hne).trans (if_pos hs)), hp⟩

/-! ### The end of BRAKE (R179, R180) -/

theorem brakeEnd_state (h : s.Wf) (pend : Bool) :
    (if pend then s.enterAlign else s.setSpin spStopped).spinState = if pend then spAlign else spStopped := by
  cases pend with
  | false => rw [if_neg Bool.false_ne_true, if_neg Bool.false_ne_true, setSpin_state h]
  | true => rw [if_pos rfl, if_pos rfl, enterAlign_state h]

/-! ### Failed handovers (R180) -/

/-- A failed handover is counted. -/
def State.attempted (s : State) : State := s.modSpin (fun p => { p with attempts := p.attempts + 1 })

/-- What a failed handover leads to. -/
def State.handoverFailed (s : State) : State :=
  if 3 ≤ s.attempted.spin.attempts then s.attempted.enterFailed else s.attempted.enterBrake true .zero

theorem handoverFailed_fails (h : s.Wf) :
    s.handoverFailed.spin.attempts = s.spin.attempts + 1 ∧
      s.handoverFailed.spinState = (if 2 ≤ s.spin.attempts then spFailed else spBrake) ∧
      (s.spin.attempts < 2 → s.handoverFailed.spin.pendStart = true) := by
  have hw : s.attempted.Wf := (Evolves.refl s).modSpin.wf h
  by_cases ha : 2 ≤ s.spin.attempts
  · obtain ⟨hstate, -, hattempts⟩ := enterFailed_fails hw
    have e : s.handoverFailed = s.attempted.enterFailed := if_pos (Nat.succ_le_succ ha)
    rw [e, if_pos ha]
    exact ⟨hattempts, hstate, fun hlt => absurd ha (Nat.not_le.2 hlt)⟩
  · have e : s.handoverFailed = s.attempted.enterBrake true .zero := if_neg fun e => ha (Nat.le_of_succ_le_succ e)
    rw [e, if_neg ha]
    exact ⟨enterBrake_attempts .., enterBrake_state hw _ _, fun _ => enterBrake_pendStart ..⟩

/-! ### The end of SENSE (R177, R178) -/

theorem senseTimeout_of_low {emf : Nat × Nat × Nat} (hs : s.spinState = spSense) (hn : s.spin.crossN < 2) (hu : s.emfLow emf.1 = true)
    (hv : s.emfLow emf.2.1 = true) (hw : s.emfLow emf.2.2 = true) : senseTimeout emf s = s.enterAlign := by
  have h2 : ¬2 ≤ s.spin.crossN := by omega
  exact (if_neg (not_not_intro hs)).trans ((if_neg fun e => h2 e.1).trans ((if_neg fun e => h2 e.1).trans (if_pos ⟨hn, hu, hv, hw⟩)))

theorem senseTimeout_of_turning {emf : Nat × Nat × Nat} (hs : s.spinState = spSense) (hn : s.spin.crossN < 2)
    (he : s.emfLow emf.1 = false ∨ s.emfLow emf.2.1 = false ∨ s.emfLow emf.2.2 = false) :
    senseTimeout emf s = if s.spin.senseAgain then s.enterBrake true (if s.aboveObs then .foc else .zero) else s.enterSense true := by
  have h2 : ¬2 ≤ s.spin.crossN := by omega
  have hl : ¬(s.spin.crossN < 2 ∧ s.emfLow emf.1 = true ∧ s.emfLow emf.2.1 = true ∧ s.emfLow emf.2.2 = true) := by
    rintro ⟨-, hu, hv, hw⟩
    rw [hu, hv, hw] at he
    exact absurd he (by decide)
  exact (if_neg (not_not_intro hs)).trans ((if_neg fun e => h2 e.1).trans ((if_neg fun e => h2 e.1).trans (if_neg hl)))

theorem senseTimeout_of_reverse {emf : Nat × Nat × Nat} (hs : s.spinState = spSense) (hn : 2 ≤ s.spin.crossN) (hf : s.spin.crossFwd = false)
    (hr : s.spin.crossRev = true) (ho : s.crossOver 60 = true) :
    senseTimeout emf s = (s.put SPIN_STAT_DIR 1).enterBrake true (if s.aboveObs then .foc else .zero) := by
  have hf' : ¬(2 ≤ s.spin.crossN ∧ s.spin.crossFwd = true ∧ (!s.crossRpm 600) = true) := by
    rintro ⟨-, e, -⟩
    rw [hf] at e
    cases e
  exact (if_neg (not_not_intro hs)).trans ((if_neg hf').trans (if_pos ⟨hn, hr, ho⟩))

end

/-- Settles O13: each clause by the lemma about its command and the state it enters. -/
theorem theMotorStartsCatchesAndBrakes : Obligations.The_motor_starts_catches_and_brakes := by
  unfold Obligations.The_motor_starts_catches_and_brakes
  refine ⟨?caught, ?slow, ?relock, ?astray, ?align, ?again, ?brake, ?reverse, ?hold, ?ended, ?running, ?ramp, ?handover, ?failed, ?locked,
    ?late, ?generate⟩
  case caught => exact fun s k interval at_ h hs hn hf hk hr => runs_of_cond rfl hs (senseCrossing_catches h hn hf hk hr)
  case slow => exact fun s k interval at_ h hs hn hf hk hr => runs_of_cond rfl hs (senseCrossing_brakes h hn hf hk hr)
  case relock =>
    intro s k interval at_ h hs hn hdev hspeed
    have hc : s.consistent k interval at_ = true := by
      rw [State.consistent, decide_eq_true hdev, decide_eq_true hspeed]
      rfl
    exact runs_holdCrossing hs (holdCrossing_relocks h hn hc)
  case astray =>
    intro s k interval at_ _ hs hdev
    have hc : s.consistent k interval at_ = false := by
      rw [State.consistent, decide_eq_false (Nat.not_le.2 hdev)]
      rfl
    refine runs_holdCrossing hs ?_
    rw [holdCrossing_inconsistent hc]
    exact ⟨rfl, rfl⟩
  case align =>
    intro s emf h hs hn hu hv hw
    exact ⟨_, rfl, (congrArg State.spinState (senseTimeout_of_low hs hn hu hv hw)).trans (enterAlign_state h)⟩
  case again =>
    intro s emf h hs hn he ha
    refine ⟨_, rfl, ?_⟩
    rw [senseTimeout_of_turning hs hn he, ha]
    exact ⟨enterSense_state h true, rfl, rfl⟩
  case brake =>
    intro s emf h hs hn he ha
    refine ⟨_, rfl, ?_⟩
    rw [senseTimeout_of_turning hs hn he, ha]
    exact ⟨enterBrake_state h _ _, enterBrake_pendStart ..⟩
  case reverse =>
    intro s emf h hs hn hf hr ho
    refine ⟨_, rfl, ?_⟩
    rw [senseTimeout_of_reverse hs hn hf hr ho]
    exact ⟨enterBrake_state (h.put _ _) _ _, enterBrake_pendStart .., (enterBrake_dir h 1 _ _).trans (State.flag_put_one h rfl)⟩
  case hold => exact fun s _ hs hb => runs_of_cond rfl ⟨hs, hb⟩ ⟨rfl, rfl⟩
  case ended => exact fun s emf h hs hb hwin hlow => runs_of_cond rfl ⟨hs, hb, hwin, hlow⟩ (brakeEnd_state h _)
  case running =>
    intro s emf _ hw
    have hn : ¬(s.spinState = spBrake ∧ s.spin.brake = .zero ∧ s.emfWindow = true ∧ s.emfLow emf = true) := by
      rintro ⟨-, -, hwin, hlow⟩
      rw [hwin, hlow] at hw
      exact absurd hw (by decide)
    exact ⟨_, congrArg Host.Outcome.next (if_neg hn), rfl⟩
  case ramp => exact fun s h hs => runs_of_cond rfl hs ⟨(State.modSpin_spinState ..).trans (setSpin_state h), rfl⟩
  case handover => exact fun s h hs hn => runs_of_cond rfl ⟨hs, hn⟩ ⟨setSpin_state h, setSpin_run h (.inl rfl)⟩
  case failed => exact fun s h hs hr => runs_of_cond rfl ⟨hs, hr⟩ (handoverFailed_fails h)
  case locked => exact fun s h hs hn => runs_of_cond rfl ⟨hs, hn⟩ ⟨(State.modSpin_spinState ..).trans (setSpin_state h), rfl⟩
  case late =>
    intro s h hs hst
    obtain ⟨hstate, hbit, -⟩ := enterFailed_fails h
    exact runs_of_cond rfl ⟨hs, hst⟩ ⟨hstate, hbit⟩
  case generate => exact fun s _ => ⟨_, rfl, rfl, rfl⟩

end Sys2Proof.Machine

namespace Sys2Proof.Machine

/-! ## The supervisory lane (R185-R192) -/

section
variable {s t : State}

/-! ### Fault bits of the lane -/

theorem clsErrBit_set (h : s.Wf) {bit : Nat} (hk : bit < 32) (sev cls inst detail : Nat) :
    FaultSet clsErr bit s (s.faultBit clsErr bit sev cls inst detail) :=
  faultBit_set h rfl hk (fun p hp => absurd (show p ∈ (none : Option (Nat × Nat)) from hp) (Option.not_mem_none p)) _ _ _ _

theorem FaultSet.clasps {fr : FaultReg} {bit : Nat} (h : FaultSet fr bit s t) : t.clasps = s.clasps := congrArg Engines.clasps h.engines

theorem State.Wf.modCls (h : s.Wf) (f : Clasps → Clasps) : (s.modCls f).Wf := (Evolves.refl s).modCls.wf h

/-! ### Replies (R187, R191, R192) -/

/-- The exchange under way has had its reply, or its time for one. -/
def State.exchangeEnded (s : State) : State := s.modCls (fun k => { k with sent := none })

/-- A good reply ends the run of beats without one. -/
def State.replied (s : State) : State := s.exchangeEnded.modCls (fun k => { k with miss := 0, silent := false })

/-- A beat without a good reply is counted. -/
def State.replyMissed (s : State) : State := s.exchangeEnded.modCls (fun k => { k with miss := k.miss + 1 })

theorem claspReply_of_missing {e : ClsCmd × Nat} (hs : s.clasps.sent = some e) : claspReply none s = s.replyMissed.noteBit clsErr 1 := by
  rw [claspReply, hs]
  rfl

theorem claspReply_misses (h : s.Wf) {e : ClsCmd × Nat} (hs : s.clasps.sent = some e) :
    (claspReply none s).clasps.miss = s.clasps.miss + 1 ∧ (claspReply none s).clasps.sent = none ∧
      bitOf ((claspReply none s).num CLS_ERR) 1 = true := by
  have hf := clsErrBit_set ((h.modCls _).modCls _ : s.replyMissed.Wf) (bit := 1) (by decide) sevNote clsCorrected noInst 0
  have hc : (s.replyMissed.noteBit clsErr 1).clasps = s.replyMissed.clasps := hf.clasps
  rw [claspReply_of_missing hs, hc]
  exact ⟨rfl, rfl, hf.bit⟩

/-- The reply `r` carries the sync, the CRC and the SEQ of the exchange, and is an ACK. -/
structure GoodAck (s : State) (r : Nat) : Prop where
  sync : r / 2 ^ 48 = 0xB5
  crc : crc8 (bitsMsb 40 (r / 256 % 2 ^ 40)) = r % 256
  seq : bitsOf r 43 40 = s.clasps.seq
  kind : bitsOf r 47 44 = 1

theorem claspReply_of_ack {c : ClsCmd} {f r : Nat} (hs : s.clasps.sent = some (c, f)) (hr : GoodAck s r) :
    claspReply (some r) s = s.replied.claspAnswered c := by
  have hgood : (decide (r / 2 ^ 48 = 0xB5) && decide (crc8 (bitsMsb 40 (r / 256 % 2 ^ 40)) = r % 256) &&
      decide (bitsOf r 43 40 = s.clasps.seq)) = true := by
    rw [decide_eq_true hr.sync, decide_eq_true hr.crc, decide_eq_true hr.seq]
    rfl
  have hkind (n : Nat) (hn : n ≠ 1) : ¬bitsOf r 47 44 = n := by
    rw [hr.kind]
    exact hn.symm
  rw [claspReply, hs]
  exact (if_pos hgood).trans (congrArg (State.claspAnswered · c)
    ((if_neg (hkind 0 (by decide))).trans ((if_neg (hkind 2 (by decide))).trans (if_neg (hkind 15 (by decide))))))

/-- The queued command has been answered. -/
theorem claspAnswered_queued (h : s.Wf) {c : ClsCmd} (hu : s.clasps.urgent = []) (hb : c.boot = false) (hq : s.clasps.queued = some c) :
    (s.claspAnswered c).clasps.queued = none ∧ (s.claspAnswered c).clasps.miss = s.clasps.miss ∧
      (s.claspAnswered c).get CLS_STAT_QUEUED = 0 := by
  have hu' : ¬s.clasps.urgent.head? = some c := by
    rw [hu]
    exact nofun
  have hb' : ¬c.boot = true := by
    rw [hb]
    exact Bool.false_ne_true
  have e : s.claspAnswered c = (s.modCls (fun k => { k with queued := none })).put CLS_STAT_QUEUED 0 :=
    (if_neg hu').trans ((if_neg hb').trans (if_pos hq))
  rw [e]
  exact ⟨rfl, rfl, State.get_put_fits (h.modCls _) rfl (by decide)⟩

/-! ### Sixteen beats without a reply (R191) -/

theorem noReply_flag (h : s.Wf) :
    (((s.modCls (fun k => { k with silent := true })).faultBit clsErr 2 sevFault clsCorrected noInst 0).raise 468).flag CLS_ERR_NO_REPLY = true ∧
      (((s.modCls (fun k => { k with silent := true })).faultBit clsErr 2 sevFault clsCorrected noInst 0).raise 468).clasps.silent = true := by
  have hf := clsErrBit_set (h.modCls (fun k => { k with silent := true })) (bit := 2) (by decide) sevFault clsCorrected noInst 0
  have hk := EnginesKept.raise (e := 468) (.refl ((s.modCls (fun k => { k with silent := true })).faultBit clsErr 2 sevFault clsCorrected noInst 0))
  refine ⟨(hk.flag (f := CLS_ERR_NO_REPLY) rfl).trans hf.bit, ?_⟩
  exact congrArg Clasps.silent ((congrArg Engines.clasps hk.engines).trans hf.clasps)

/-! ### CLS_CMD (R188, R192) -/

theorem clsQueue_of_free (h : s.Wf) (cmd lanes index value : Nat) (hq : s.clasps.queued = none) :
    (clsQueue cmd lanes index value s).clasps.queued = some ⟨cmd, lanes, index, value, false⟩ ∧
      (clsQueue cmd lanes index value s).get CLS_STAT_QUEUED = 1 := by
  have e : clsQueue cmd lanes index value s =
      (s.modCls (fun k => { k with queued := some ⟨cmd, lanes, index, value, false⟩ })).put CLS_STAT_QUEUED 1 :=
    if_neg (by rw [hq]; exact Bool.false_ne_true)
  rw [e]
  exact ⟨rfl, State.get_put_fits (h.modCls _) rfl (by decide)⟩

theorem clsQueue_of_busy (h : s.Wf) (cmd lanes index value : Nat) (hq : s.clasps.queued.isSome = true) :
    (clsQueue cmd lanes index value s).clasps.queued = s.clasps.queued ∧ bitOf ((clsQueue cmd lanes index value s).num CLS_ERR) 3 = true := by
  have hf := clsErrBit_set h (bit := 3) (by decide) sevNote clsCorrected noInst 0
  have e : clsQueue cmd lanes index value s = s.noteBit clsErr 3 := if_pos hq
  rw [e]
  exact ⟨congrArg Clasps.queued hf.clasps, hf.bit⟩

/-- LANES and the command of a word written to CLS_CMD. -/
theorem clsCmd_fields : ∀ (lanes : Fin 16) (c : Fin 8), bitsOf (lanes.val * 256 + c.val) 11 8 = lanes ∧ bitsOf (lanes.val * 256 + c.val) 2 0 = c := by
  decide

theorem clsWrite_arm (lanes : Fin 16) (s : State) : clsWrite (lanes.val * 256 + 1) s = clsQueue clArm lanes 0 0 s := by
  obtain ⟨hlanes, hcmd⟩ := clsCmd_fields lanes 1
  have hcmd' : bitsOf (lanes.val * 256 + 1) 2 0 = 1 := hcmd
  simp only [clsWrite, hcmd']
  exact congrArg (clsQueue clArm · 0 0 s) hlanes

theorem clsWrite_retract (lanes : Fin 16) (s : State) : clsWrite (lanes.val * 256 + 2) s = clsQueue clRetract lanes 0 0 s := by
  obtain ⟨hlanes, hcmd⟩ := clsCmd_fields lanes 2
  have hcmd' : bitsOf (lanes.val * 256 + 2) 2 0 = 2 := hcmd
  simp only [clsWrite, hcmd']
  exact congrArg (clsQueue clRetract · 0 0 s) hlanes

end

/-- Settles O15: each clause by the lemma about the beat, the reply or the queue. -/
theorem theSupervisoryLaneBeatsAndAnswers : Obligations.The_supervisory_lane_beats_and_answers := by
  unfold Obligations.The_supervisory_lane_beats_and_answers
  have hw {s : State} (h : s.Wf) : (s.answer .done).Wf := (Evolves.refl s).answer.wf h
  refine ⟨?beat, ?missing, ?ack, ?silent, ?arm, ?busy, ?retract, ?clear, ?ident, ?bridge, ?config⟩
  case beat => exact fun s _ hb => runs_of_cond rfl hb ⟨rfl, rfl, rfl⟩
  case missing => exact fun s c f h hs => ⟨_, rfl, claspReply_misses h hs⟩
  case ack =>
    intro s c f r h hs hu hb hq hsync hcrc hseq hkind
    refine ⟨_, rfl, ?_⟩
    rw [claspReply_of_ack hs ⟨hsync, hcrc, hseq, hkind⟩]
    exact claspAnswered_queued ((h.modCls _).modCls _ : s.replied.Wf) hu hb hq
  case silent => exact fun s h hm hs => runs_of_cond rfl ⟨hm, hs⟩ (noReply_flag h)
  case arm =>
    intro s lanes h hd hq
    refine runs_of_on rfl hd ?_
    rw [clsWrite_arm]
    exact clsQueue_of_free (hw h) _ _ _ _ hq
  case busy =>
    intro s lanes h hd hq
    refine runs_of_on rfl hd ?_
    rw [clsWrite_arm]
    exact clsQueue_of_busy (hw h) _ _ _ _ hq
  case retract =>
    intro s lanes h hd hq
    refine runs_of_on rfl hd ?_
    rw [clsWrite_retract]
    exact clsQueue_of_free (hw h) _ _ _ _ hq
  case clear => exact fun s h hd hq => runs_of_on rfl hd (clsQueue_of_free (hw h) clClear 0 0 0 hq).1
  case ident => exact fun s h hd hq => runs_of_on rfl hd (clsQueue_of_free (hw h) clIdent 0 0 0 hq).1
  case bridge => exact fun s h hd hq => runs_of_on rfl hd (clsQueue_of_free (hw h) clBridge 0 0 (s.get CLS_ARG_VALUE % 2) hq).1
  case config => exact fun s h hd hq => runs_of_on rfl hd (clsQueue_of_free (hw h) clConfig 0 (s.get CLS_ARG_INDEX) (s.get CLS_ARG_VALUE) hq).1

end Sys2Proof.Machine

namespace Sys2Proof.Machine

/-! ## Phase lock, loss of synchronism and residues (R169-R175, R181-R184) -/

section
variable {s t : State}

/-! ### The reference tick (R170, R173, R175) -/

/-- The phase error depends on the image, the wedge lines, PHASE_ERR, the observer and where the reference's period stands. -/
theorem phaseErr_congr (hi : t.img = s.img) (hl : t.wl = s.wl) (hp : t.num PHASE_ERR = s.num PHASE_ERR)
    (hs : (t.spin.theta, t.spin.omega, t.spin.ref.clock, t.spin.ref.sector) = (s.spin.theta, s.spin.omega, s.spin.ref.clock, s.spin.ref.sector))
    (k : Nat) (src : Option Nat) : t.phaseErr k src = s.phaseErr k src := by
  simp only [Prod.mk.injEq] at hs
  obtain ⟨htheta, homega, hclock, hsector⟩ := hs
  have hn (f : Image → Nat) : t.imgNat f = s.imgNat f := congrArg (fun i => State.imgNat { s with img := i } f) hi
  have hrate : t.refRate = s.refRate := by rw [State.refRate, hn, hn, State.refRate]
  have hwrap (x : Rat) : t.wrapRef x = s.wrapRef x := by rw [State.wrapRef, hrate, State.wrapRef]
  have htime (k : Nat) : t.refTime k = s.refTime k := by rw [State.refTime, hrate, State.refTime]
  have hangle : t.mechAngle = s.mechAngle := by simp only [State.mechAngle, hn, htheta, hsector]
  simp only [State.phaseErr, hwrap, htime, hangle, hn, hl, hp, homega, hclock]

/-- The source of the phase error is chosen, and the torque does not step. -/
def State.presetTorque (s : State) : State := s.modDrv (fun d => { d with preset := some s.spin.torque })

theorem setSource_eq (s : State) (src : Option Nat) :
    s.setSource src =
      ((if s.get SPIN_STAT_FINE = ofBool src.isSome ∧ s.get SPIN_STAT_REF_CH = src.getD 0 then s else s.presetTorque).put SPIN_STAT_FINE
        (ofBool src.isSome)).put SPIN_STAT_REF_CH (src.getD 0) := rfl

theorem setSource_regs (h : s.Wf) (src : Option Nat) : SpinRegs [SPIN_STAT_FINE, SPIN_STAT_REF_CH] [] s (s.setSource src) := by
  rw [setSource_eq]
  exact .put (.put (.ite (.refl h) (.modDrv (.refl h))) (by decide)) (by decide)

theorem setSource_fine (h : s.Wf) (src : Option Nat) : (s.setSource src).flag SPIN_STAT_FINE = src.isSome := by
  have hw : (if s.get SPIN_STAT_FINE = ofBool src.isSome ∧ s.get SPIN_STAT_REF_CH = src.getD 0 then s else s.presetTorque).Wf :=
    (Evolves.ite (.refl s) (.modDrv (.refl s))).wf h
  rw [setSource_eq, State.flag_put_apart (hw.put _ _) SPIN_STAT_REF_CH SPIN_STAT_FINE rfl rfl]
  cases src with
  | none => exact State.flag_put_zero hw rfl
  | some c => exact State.flag_put_one hw rfl

/-- What the choice of the source leaves of SPIN and of the wedge lines. -/
theorem setSource_frame (s : State) (src : Option Nat) :
    (s.setSource src).wl = s.wl ∧ (s.setSource src).spin.theta = s.spin.theta ∧ (s.setSource src).spin.omega = s.spin.omega ∧
      (s.setSource src).spin.ref = s.spin.ref := by
  rw [setSource_eq, State.put_wl, State.put_wl, State.put_spin, State.put_spin]
  split <;> exact ⟨rfl, rfl, rfl, rfl⟩

/-- A reference channel that lost FINE is forgotten once a channel is LOCKED again. -/
def State.coarseEnds (s : State) : State :=
  if s.spin.ref.coarse.any (fun c => s.flag (WL_STAT_LOCKED c)) then s.modRef (fun r => { r with coarse := none }) else s

/-- The reference passes to its next wedge. -/
def State.nextWedge (s : State) : State :=
  s.modRef (fun r => { r with count := r.count + 1, wedge := (r.wedge + 1) % s.imgNat Image.wedges })

/-- The source and the wedge of a tick. -/
def State.refAdvanced (s : State) : State := (s.setSource s.refChannel).coarseEnds.nextWedge

/-- The phase error that a tick measures. -/
def State.tickErr (s : State) : Int := s.refAdvanced.phaseErr s.refAdvanced.spin.ref.count s.refChannel

/-- PHASE_ERR shows the phase error measured. -/
def State.phaseShown (s : State) : State := s.refAdvanced.setNum PHASE_ERR (toBits 32 (clampS 32 s.tickErr))

/-- The run of ticks within LOCK_WIN is counted. -/
def State.lockCounted (s : State) (err : Int) : State :=
  s.modSpin (fun p => { p with lockRun := if s.spinState = spLocked ∧ err.natAbs * 5 ≤ s.get SPIN_LOCKX_LOCK_WIN * 64 then p.lockRun + 1 else 0 })

/-- SPIN_LOCK falls beyond four times the window. -/
def State.lockChecked (s : State) (err : Int) (win : Nat) : State :=
  if s.flag SPIN_STAT_SPIN_LOCK && decide (4 * win < err.natAbs * 5) then s.spinLock false else s

/-- A revolution ends, in the state `st`. -/
def State.revCounted (s : State) (dev : Int) (st : Nat) : State :=
  ((s.add64 REV_LO REV_HI 1).setNum REV_DEV (toBits 32 (clampS 32 dev))).modSpin (fun p =>
    { p with accelRevs := if st = spAccel ∧ dev.natAbs ≤ 1000000 then p.accelRevs + 1 else 0 })

/-- A tick before the revolution is counted. -/
def State.ticked (s : State) : State :=
  ((((s.phaseShown.lockCounted s.tickErr).lockChecked s.tickErr (s.phaseShown.get SPIN_LOCKX_LOCK_WIN * 64)).calTick 0).calTick 5)

theorem referenceTick_eq (dev : Int) (s : State) :
    referenceTick dev s =
      if s.ticked.spin.ref.wedge = 0 ∧
          (s.phaseShown.spinState = spAccel ∨ s.phaseShown.spinState = spLocked ∨ s.phaseShown.spinState = spHoldAngle) then
        s.ticked.revCounted dev s.phaseShown.spinState
      else s.ticked := rfl

theorem coarseEnds_frame (s : State) :
    (s.coarseEnds.spin.theta, s.coarseEnds.spin.omega, s.coarseEnds.spin.ref.clock, s.coarseEnds.spin.ref.sector, s.coarseEnds.spin.ref.count,
      s.coarseEnds.spin.ref.wedge) =
    (s.spin.theta, s.spin.omega, s.spin.ref.clock, s.spin.ref.sector, s.spin.ref.count, s.spin.ref.wedge) ∧ s.coarseEnds.wl = s.wl := by
  unfold State.coarseEnds
  split <;> exact ⟨rfl, rfl⟩

theorem SpinRegs.coarseEnds {fs : List Fld} {rs : List Nat} {s₀ : State} (h : SpinRegs fs rs s₀ s) : SpinRegs fs rs s₀ s.coarseEnds :=
  .ite h.modRef h

theorem SpinRegs.nextWedge {fs : List Fld} {rs : List Nat} {s₀ : State} (h : SpinRegs fs rs s₀ s) : SpinRegs fs rs s₀ s.nextWedge := by
  unfold State.nextWedge
  exact h.modRef

theorem refAdvanced_regs (h : s.Wf) : SpinRegs [SPIN_STAT_FINE, SPIN_STAT_REF_CH] [] s s.refAdvanced :=
  (setSource_regs h _).coarseEnds.nextWedge

/-- After the source was chosen a tick's start changes no register. -/
theorem refAdvanced_fine (h : s.Wf) : s.refAdvanced.flag SPIN_STAT_FINE = s.refChannel.isSome := by
  have hr : SpinRegs [] [] (s.setSource s.refChannel) s.refAdvanced := (SpinRegs.refl (setSource_regs h _).wf).coarseEnds.nextWedge
  rw [hr.flag SPIN_STAT_FINE rfl rfl, setSource_fine h]

/-- The tick's start passes to the next wedge, and leaves the observer and the wedge lines. -/
theorem refAdvanced_frame (h : s.Wf) :
    s.refAdvanced.spin.ref.count = s.spin.ref.count + 1 ∧
      s.refAdvanced.spin.ref.wedge = (s.spin.ref.wedge + 1) % s.imgNat Image.wedges ∧
      s.tickErr = s.phaseErr (s.spin.ref.count + 1) s.refChannel := by
  obtain ⟨hwl, htheta, homega, href⟩ := setSource_frame s s.refChannel
  obtain ⟨hends, hwl'⟩ := coarseEnds_frame (s.setSource s.refChannel)
  simp only [Prod.mk.injEq, htheta, homega, href] at hends
  obtain ⟨htheta', homega', hclock, hsector, hcount, hwedge⟩ := hends
  have hr := refAdvanced_regs h
  have hc : s.refAdvanced.spin.ref.count = s.spin.ref.count + 1 := congrArg (· + 1) hcount
  have hi : (s.setSource s.refChannel).coarseEnds.imgNat Image.wedges = s.imgNat Image.wedges := (setSource_regs h _).coarseEnds.imgNat _
  refine ⟨hc, ?_, ?_⟩
  · have e : s.refAdvanced.spin.ref.wedge =
      ((s.setSource s.refChannel).coarseEnds.spin.ref.wedge + 1) % (s.setSource s.refChannel).coarseEnds.imgNat Image.wedges := rfl
    rw [e, hwedge, hi]
  · rw [State.tickErr, hc]
    refine phaseErr_congr hr.img (hwl'.trans hwl) (hr.num rfl (by decide)) ?_ _ _
    simp only [Prod.mk.injEq]
    exact ⟨htheta', homega', hclock, hsector⟩

/-- The tick's start, with PHASE_ERR: a number of 32 bits. -/
theorem phaseShown_num (h : s.Wf) : s.phaseShown.num PHASE_ERR = toBits 32 (clampS 32 s.tickErr) := by
  refine State.num_setNum_self (refAdvanced_regs h).wf ?_
  rw [toBits]
  omega

theorem SpinRegs.lockCounted {fs : List Fld} {rs : List Nat} {s₀ : State} {err : Int} (h : SpinRegs fs rs s₀ s) :
    SpinRegs fs rs s₀ (s.lockCounted err) := by
  unfold State.lockCounted
  exact h.modSpin

theorem SpinRegs.lockChecked {fs : List Fld} {rs : List Nat} {s₀ : State} {err : Int} {win : Nat} (h : SpinRegs fs rs s₀ s)
    (hf : SPIN_STAT_SPIN_LOCK ∈ fs) : SpinRegs fs rs s₀ (s.lockChecked err win) :=
  .ite (h.spinLock hf) h

theorem lockChecked_spin (s : State) (err : Int) (win : Nat) : (s.lockChecked err win).spin = s.spin := by
  unfold State.lockChecked
  split
  · exact spinLock_spin _ _
  · rfl

/-- Beyond four times the window SPIN_LOCK is 0. -/
theorem lockChecked_falls (h : s.Wf) {err : Int} {win : Nat} (he : 4 * win < err.natAbs * 5) :
    (s.lockChecked err win).flag SPIN_STAT_SPIN_LOCK = false := by
  rw [State.lockChecked, decide_eq_true he, Bool.and_true]
  cases hf : s.flag SPIN_STAT_SPIN_LOCK with
  | true =>
    rw [if_pos rfl]
    exact spinLock_flag h false
  | false =>
    rw [if_neg Bool.false_ne_true]
    exact hf

/-- A count of 64 bits in two registers advances. -/
theorem State.num64_add64 (h : s.Wf) {lo hi k : Nat} (hne : lo ≠ hi) : (s.add64 lo hi k).num64 lo hi = (s.num64 lo hi + k) % 2 ^ 64 := by
  have hmod (x : Nat) : x % 0x100000000 < 2 ^ 32 := Nat.mod_lt _ (by decide)
  have hlo : (s.add64 lo hi k).num lo = (s.num lo + 0x100000000 * s.num hi + k) % 0x100000000 := by
    rw [State.add64, State.num_setNum_other _ _ hne, State.num_setNum_self h (hmod _)]
  have hhi : (s.add64 lo hi k).num hi = (s.num lo + 0x100000000 * s.num hi + k) / 0x100000000 % 0x100000000 :=
    State.num_setNum_self (h.setNum _ _) (hmod _)
  rw [State.num64, State.num64, hlo, hhi]
  omega

theorem SpinRegs.add64 {fs : List Fld} {rs : List Nat} {s₀ : State} {lo hi k : Nat} (h : SpinRegs fs rs s₀ s) (hm : lo ∈ rs ∧ hi ∈ rs)
    (hne : (lo ≠ SPIN_STAT ∧ lo ≠ SPIN_FAULT) ∧ hi ≠ SPIN_STAT ∧ hi ≠ SPIN_FAULT := by decide) : SpinRegs fs rs s₀ (s.add64 lo hi k) :=
  (h.setNum hm.1 hne.1).setNum hm.2 hne.2

theorem SpinRegs.revCounted {fs : List Fld} {rs : List Nat} {s₀ : State} {dev : Int} {st : Nat} (h : SpinRegs fs rs s₀ s)
    (hm : (REV_LO ∈ rs ∧ REV_HI ∈ rs) ∧ REV_DEV ∈ rs) : SpinRegs fs rs s₀ (s.revCounted dev st) :=
  ((h.add64 hm.1).setNum hm.2).modSpin

theorem revCounted_revs (h : s.Wf) (dev : Int) (st : Nat) :
    (s.revCounted dev st).num64 REV_LO REV_HI = (s.num64 REV_LO REV_HI + 1) % 2 ^ 64 := by
  rw [State.revCounted, State.modSpin_num64, State.num64, State.num_setNum_other _ _ (by decide), State.num_setNum_other _ _ (by decide),
    ← State.num64, State.num64_add64 h (by decide)]

/-- What follows the measured phase error in a tick. -/
theorem ticked_regs (h : s.Wf) {rs : List Nat} : SpinRegs [SPIN_STAT_SPIN_LOCK] rs s.phaseShown s.ticked := by
  have hw : s.phaseShown.Wf := (refAdvanced_regs h).wf.setNum _ _
  exact (((SpinRegs.refl hw).lockCounted).lockChecked (by decide)).spinKept (SpinKept.calTicks (.refl _)) (.calTick (.calTick (.refl _)))

/-- The calibrations' turn, the last of a tick, leaves SPIN alone. -/
theorem ticked_kept (s : State) :
    SpinKept ((s.phaseShown.lockCounted s.tickErr).lockChecked s.tickErr (s.phaseShown.get SPIN_LOCKX_LOCK_WIN * 64)) s.ticked :=
  .calTicks (.refl _)

theorem ticked_unlocks (h : s.Wf) (he : 4 * (s.phaseShown.get SPIN_LOCKX_LOCK_WIN * 64) < s.tickErr.natAbs * 5) :
    s.ticked.flag SPIN_STAT_SPIN_LOCK = false := by
  have hw : s.phaseShown.Wf := (refAdvanced_regs h).wf.setNum _ _
  have hc : SpinRegs [] [] s.phaseShown (s.phaseShown.lockCounted s.tickErr) := (SpinRegs.refl hw).lockCounted
  rw [State.flag_of_rd (f := SPIN_STAT_SPIN_LOCK) ((ticked_kept s).regs SPIN_STAT rfl)]
  exact lockChecked_falls hc.wf he

theorem ticked_ref (s : State) : s.ticked.spin.ref = s.refAdvanced.spin.ref := by
  rw [(ticked_kept s).spin, lockChecked_spin]
  rfl

/-- What a tick leaves: its phase error, its source, and where the reference stands. -/
theorem referenceTick_measures (h : s.Wf) (dev : Int) :
    (referenceTick dev s).num PHASE_ERR = toBits 32 (clampS 32 (s.phaseErr (s.spin.ref.count + 1) s.refChannel)) ∧
      (referenceTick dev s).spin.ref.count = s.spin.ref.count + 1 ∧
      (referenceTick dev s).spin.ref.wedge = (s.spin.ref.wedge + 1) % s.imgNat Image.wedges ∧
      (referenceTick dev s).flag SPIN_STAT_FINE = s.refChannel.isSome := by
  obtain ⟨hcount, hwedge, herr⟩ := refAdvanced_frame h
  have hr : SpinRegs [SPIN_STAT_SPIN_LOCK] [REV_LO, REV_HI, REV_DEV] s.phaseShown (referenceTick dev s) := by
    rw [referenceTick_eq]
    exact .ite ((ticked_regs h).revCounted (by decide)) (ticked_regs h)
  have href : (referenceTick dev s).spin.ref = s.refAdvanced.spin.ref := by
    rw [referenceTick_eq, ← ticked_ref]
    split
    · rw [State.revCounted, State.modSpin_spin, State.setNum_spin, State.add64_spin]
    · rfl
  rw [href, hr.num rfl (by decide), phaseShown_num h, hr.flag SPIN_STAT_FINE rfl rfl, State.phaseShown, State.flag_setNum_other _ (by decide),
    refAdvanced_fine h, herr]
  exact ⟨rfl, hcount, hwedge, rfl⟩

theorem phaseShown_state (h : s.Wf) : s.phaseShown.spinState = s.spinState := by
  rw [State.phaseShown, State.spinState, State.get_setNum_other _ (by decide), ← State.spinState, (refAdvanced_regs h).spinState rfl]

/-- As the reference passes wedge 0 in LOCKED the revolutions advance. -/
theorem referenceTick_revs (h : s.Wf) (dev : Int) (hs : s.spinState = spLocked) (hz : (s.spin.ref.wedge + 1) % s.imgNat Image.wedges = 0) :
    (referenceTick dev s).num64 REV_LO REV_HI = (s.num64 REV_LO REV_HI + 1) % 2 ^ 64 := by
  obtain ⟨-, hwedge, -⟩ := refAdvanced_frame h
  have hw0 : s.ticked.spin.ref.wedge = 0 := by rw [ticked_ref, hwedge, hz]
  have hst : s.phaseShown.spinState = spLocked := (phaseShown_state h).trans hs
  have hnum {a : Nat} (ha : isSpinReg a = true) (hp : a ≠ PHASE_ERR) (hn : a ∉ [SPIN_STAT]) : s.phaseShown.num a = s.num a := by
    rw [State.phaseShown, State.num_setNum_other _ _ hp, (refAdvanced_regs h).num ha hn]
  have hr : SpinRegs [SPIN_STAT_SPIN_LOCK] [] s.phaseShown s.ticked := ticked_regs h
  rw [referenceTick_eq, if_pos ⟨hw0, .inr (.inl hst)⟩, revCounted_revs hr.wf, State.num64, State.num64, hr.num rfl (by decide),
    hr.num rfl (by decide), hnum rfl (by decide) (by decide), hnum rfl (by decide) (by decide)]

/-- A phase error beyond four times LOCK_WIN ends SPIN_LOCK. -/
theorem referenceTick_unlocks (h : s.Wf) (dev : Int)
    (he : 4 * (s.get SPIN_LOCKX_LOCK_WIN * 64) < (s.phaseErr (s.spin.ref.count + 1) s.refChannel).natAbs * 5) :
    (referenceTick dev s).flag SPIN_STAT_SPIN_LOCK = false := by
  obtain ⟨-, -, herr⟩ := refAdvanced_frame h
  have hwin : s.phaseShown.get SPIN_LOCKX_LOCK_WIN = s.get SPIN_LOCKX_LOCK_WIN := by
    rw [State.phaseShown, State.get_setNum_other _ (by decide), (refAdvanced_regs h).get _ rfl (by decide)]
  have ht : s.ticked.flag SPIN_STAT_SPIN_LOCK = false := ticked_unlocks h (by rw [hwin, herr]; exact he)
  have hr : SpinRegs [] [REV_LO, REV_HI, REV_DEV] s.ticked (referenceTick dev s) := by
    have hrefl : SpinRegs [] [REV_LO, REV_HI, REV_DEV] s.ticked s.ticked := .refl (ticked_regs h (rs := [])).wf
    rw [referenceTick_eq]
    exact .ite (hrefl.revCounted (by decide)) hrefl
  rw [hr.flag SPIN_STAT_SPIN_LOCK rfl rfl, ht]

/-! ### Loss of synchronism (R169, R181) -/

/-- Synchronism is lost: the fault, its count and its event, and the runs begin afresh. -/
def State.syncLost (s : State) : State :=
  (((s.noteBit spinFault 2).countSat LOS_CNT SPIN_SAT_SAT 0 1).raise 464).modSpin (fun p => { p with losRun := 0, relock := 0 })

/-- The angle is held at the last good speed, after `k` failing periods. -/
def State.angleHeld (s : State) (k : Nat) : State :=
  ((s.modDrv (fun d => { d with held := s.spin.torque })).setSpin spHoldAngle).fromLastGood k

theorem State.num_countSat (h : s.Wf) {cnt bit k : Nat} {sat : Fld} (hne : cnt ≠ sat.addr) :
    (s.countSat cnt sat bit k).num cnt = min (s.num cnt + k) 0xFFFFFFFF := by
  rw [State.countSat]
  split
  next hn =>
    rw [State.num_of_rd (State.rd_wr_other _ _ hne), State.num_setNum_self h (by decide), Nat.min_eq_right hn]
  next hn =>
    have hlt : s.num cnt + k < 0xFFFFFFFF := Nat.not_le.1 hn
    rw [State.num_setNum_self h (by omega), Nat.min_eq_left (Nat.le_of_lt hlt)]

theorem countSat_spin (s : State) (cnt : Nat) (sat : Fld) (bit k : Nat) : (s.countSat cnt sat bit k).spin = s.spin := by
  rw [State.countSat]
  split
  · rw [State.wr_spin, State.setNum_spin]
  · rw [State.setNum_spin]

theorem syncLost_frame (h : s.Wf) :
    s.syncLost.Wf ∧ s.syncLost.spin.okOmega = s.spin.okOmega ∧ bitOf (s.syncLost.num SPIN_FAULT) 2 = true ∧
      s.syncLost.num LOS_CNT = min (s.num LOS_CNT + 1) 0xFFFFFFFF := by
  have hf := spinFaultBit_set h (bit := 2) (by decide) sevNote clsCorrected noInst 0
  have hn : SpinRegs [] [SPIN_FAULT, SPIN_FIRST] s (s.noteBit spinFault 2) := .faultBit (.refl h) (by decide) (by decide) (by decide)
  have hc : SpinRegs [] [LOS_CNT, SPIN_SAT] (s.noteBit spinFault 2) ((s.noteBit spinFault 2).countSat LOS_CNT SPIN_SAT_SAT 0 1) :=
    .countSat (.refl hn.wf) (by decide) (by decide)
  have hr : SpinRegs [] [] ((s.noteBit spinFault 2).countSat LOS_CNT SPIN_SAT_SAT 0 1) s.syncLost := (SpinRegs.refl hc.wf).raise.modSpin
  have hk : SpinKept ((s.noteBit spinFault 2).countSat LOS_CNT SPIN_SAT_SAT 0 1)
    (((s.noteBit spinFault 2).countSat LOS_CNT SPIN_SAT_SAT 0 1).raise 464) := .raise (.refl _)
  refine ⟨hr.wf, ?_, hr.fault 2 (hc.fault 2 hf.bit), ?_⟩
  · have hs : (s.noteBit spinFault 2).spin = s.spin := hf.spin
    rw [State.syncLost, State.modSpin_spin, hk.spin, countSat_spin, hs]
  · rw [hr.num rfl (by decide), State.num_countSat hn.wf (by decide), hn.num rfl (by decide)]

theorem fromLastGood_omega (s : State) (k : Nat) : (s.fromLastGood k).spin.omega = s.spin.okOmega := rfl

theorem SpinRegs.fromLastGood {fs : List Fld} {rs : List Nat} {s₀ : State} {k : Nat} (h : SpinRegs fs rs s₀ s) :
    SpinRegs fs rs s₀ (s.fromLastGood k) := by
  unfold State.fromLastGood
  exact h.modSpin.modRef

theorem lossOfSync_of_driven (hn : max 1 (s.get PLAUS_LOS_N) ≤ s.spin.losRun) (hs : s.spinState = spAccel ∨ s.spinState = spLocked) :
    ∃ k, lossOfSync s = (s.syncLost.angleHeld k).modSpin (fun p => { p with origin := s.spinState }) :=
  ⟨_, (if_pos hn).trans (if_pos hs)⟩

theorem lossOfSync_holds (h : s.Wf) (hn : max 1 (s.get PLAUS_LOS_N) ≤ s.spin.losRun) (hs : s.spinState = spAccel ∨ s.spinState = spLocked) :
    (lossOfSync s).spinState = spHoldAngle ∧ (lossOfSync s).spin.origin = s.spinState ∧ (lossOfSync s).spin.omega = s.spin.okOmega ∧
      bitOf ((lossOfSync s).num SPIN_FAULT) 2 = true ∧ (lossOfSync s).num LOS_CNT = min (s.num LOS_CNT + 1) 0xFFFFFFFF := by
  obtain ⟨k, e⟩ := lossOfSync_of_driven hn hs
  obtain ⟨hw, homega, hbit, hcnt⟩ := syncLost_frame h
  have hd : SpinRegs stateFlds [] s.syncLost (s.syncLost.modDrv (fun d => { d with held := s.syncLost.spin.torque })) := .modDrv (.refl hw)
  have hr : SpinRegs stateFlds [] s.syncLost ((s.syncLost.angleHeld k).modSpin (fun p => { p with origin := s.spinState })) :=
    (hd.setSpin (by decide)).fromLastGood.modSpin
  have hst : SpinRegs [] [] ((s.syncLost.modDrv (fun d => { d with held := s.syncLost.spin.torque })).setSpin spHoldAngle)
      ((s.syncLost.angleHeld k).modSpin (fun p => { p with origin := s.spinState })) :=
    (SpinRegs.refl (hd.setSpin (by decide)).wf).fromLastGood.modSpin
  rw [e]
  refine ⟨?_, rfl, ?_, hr.fault 2 hbit, ?_⟩
  · rw [hst.spinState rfl, setSpin_state hd.wf]
  · rw [State.modSpin_spin, State.angleHeld, fromLastGood_omega, setSpin_spin]
    exact homega
  · rw [hr.num rfl (by decide), hcnt]

/-! ### 3 ms without a re-lock (R182) -/

/-- The motor coasts, with the fault of R182. -/
def State.relockFailed (s : State) : State := (s.setSpin spCoast).faultBit spinFault 4 sevWarn clsCorrected noInst 0

theorem relockFailed_regs (h : s.Wf) : SpinRegs stateFlds [SPIN_FAULT, SPIN_FIRST] s s.relockFailed :=
  .faultBit (.setSpin (.refl h) (by decide)) (by decide) (by decide) (by decide)

theorem relockFailed_state (h : s.Wf) : s.relockFailed.spinState = spCoast := by
  have hr : SpinRegs [] [SPIN_FAULT, SPIN_FIRST] (s.setSpin spCoast) s.relockFailed :=
    .faultBit (.refl (setSpin_regs h _).wf) (by decide) (by decide) (by decide)
  rw [hr.spinState rfl, setSpin_state h]

theorem SpinRegs.enterSense {fs : List Fld} {rs : List Nat} {s₀ : State} {again : Bool} (h : SpinRegs fs rs s₀ s)
    (hm : (SPIN_STAT_STATE ∈ fs ∧ SPIN_STAT_SPIN_RUN ∈ fs ∧ SPIN_STAT_SPIN_LOCK ∈ fs) ∧ SPIN_STAT_ANGLE_KNOWN ∈ fs) :
    SpinRegs fs rs s₀ (s.enterSense again) := by
  obtain ⟨hstate, hangle⟩ := hm
  exact ((h.setSpin hstate).put ⟨rfl, hangle⟩).modSpin

theorem relockFailed_ends (h : s.Wf) :
    (if s.relockFailed.flag SPIN_CFG_AUTO_CATCH then s.relockFailed.enterSense false else s.relockFailed).spinState =
        (if s.flag SPIN_CFG_AUTO_CATCH then spSense else spCoast) ∧
      bitOf ((if s.relockFailed.flag SPIN_CFG_AUTO_CATCH then s.relockFailed.enterSense false else s.relockFailed).num SPIN_FAULT) 4 = true := by
  have hr := relockFailed_regs h
  have hbit : bitOf (s.relockFailed.num SPIN_FAULT) 4 = true := (spinFaultBit_set (setSpin_regs h _).wf (by decide) _ _ _ _).bit
  have hflag : s.relockFailed.flag SPIN_CFG_AUTO_CATCH = s.flag SPIN_CFG_AUTO_CATCH := State.flag_of_rd (hr.regs _ rfl (by decide))
  have hs : SpinRegs (SPIN_STAT_ANGLE_KNOWN :: stateFlds) [] s.relockFailed (s.relockFailed.enterSense false) :=
    .enterSense (.refl hr.wf) (by decide)
  rw [hflag]
  cases s.flag SPIN_CFG_AUTO_CATCH with
  | true => exact ⟨enterSense_state hr.wf false, hs.fault 4 hbit⟩
  | false => exact ⟨relockFailed_state h, hbit⟩

/-! ### Residues and the restart (R184) -/

/-- A residue that stays: the unit's Expert page locks, and the last vector rotates. -/
theorem residueStays_sets (h : s.Wf) :
    bitOf ((((s.faultBit spinFault 7 sevNote clsContained noInst 0).put ⟨EXPERT_STAT kprSPIN, 1, 1⟩ 0).modSpin
      (fun p => { p with rotating := true })).num SPIN_FAULT) 7 = true := by
  have hf := spinFaultBit_set h (bit := 7) (by decide) sevNote clsContained noInst 0
  have hne : SPIN_FAULT ≠ (⟨EXPERT_STAT kprSPIN, 1, 1⟩ : Fld).addr := by decide
  exact (congrArg (bitOf · 7) (State.num_of_rd (State.rd_put_other _ 0 hne))).trans hf.bit

theorem turned_zero (omega : Int) (polePairs : Nat) : turned omega polePairs 0 = 0 := by
  rw [turned, Nat.cast_zero, mul_zero, zero_mul, Int.zero_ediv]

theorem fromLastGood_zero_theta (s : State) : (s.fromLastGood 0).spin.theta = s.spin.okTheta % 0x100000000 := by
  have e : (s.fromLastGood 0).spin.theta =
    (((s.spin.okTheta : Int) + turned s.spin.okOmega (s.imgNat Image.polePairs) 0) % 0x100000000).toNat := rfl
  rw [e, turned_zero]
  omega

theorem fromLastGood_frame (s : State) (k : Nat) :
    (s.fromLastGood k).spin.rotating = s.spin.rotating ∧ (s.fromLastGood k).bank = s.bank := ⟨rfl, rfl⟩

/-- The restart is done: the last vector no longer rotates. -/
def State.restartDone (s : State) : State := s.modSpin (fun p => { p with rotating := false, losRun := 0 })

/-- The motor goes on from its last good angle and speed. -/
theorem restartDone_resumes (s : State) :
    (s.restartDone.fromLastGood 0).spin.rotating = false ∧ (s.restartDone.fromLastGood 0).spin.theta = s.spin.okTheta % 0x100000000 ∧
      (s.restartDone.fromLastGood 0).spin.omega = s.spin.okOmega ∧ (s.restartDone.fromLastGood 0).bank = s.bank := by
  obtain ⟨hrotating, hbank⟩ := fromLastGood_frame s.restartDone 0
  rw [hrotating, hbank, fromLastGood_zero_theta, fromLastGood_omega]
  exact ⟨rfl, rfl, rfl, rfl⟩

/-! ### SPIN_CFG (R11) -/

/-- A field of two bytes of the image in force. -/
theorem imgNat_lt {f : Image → Nat} (s : State) (hf : ∀ i, f i < 2 ^ 16) : s.imgNat f < 2 ^ 16 := by
  unfold State.imgNat
  split
  · exact hf _
  · decide

theorem fieldLe2_lt (bs : List Byte) (o : Nat) : fieldLe bs o 2 < 2 ^ 16 := by
  have hl : (slice bs o 2).length ≤ 2 := by
    simp only [slice, List.length_append, List.length_replicate, List.length_take]
    omega
  calc fieldLe bs o 2 < 256 ^ (slice bs o 2).length := leNat_lt _
    _ ≤ 256 ^ 2 := Nat.pow_le_pow_right (by decide) hl

/-- SPIN's parameters back at the policy, with its loops' gains, which the manual leaves open. -/
def State.spinPolicy (s : State) : State :=
  [CUR_KP, CUR_KI, SPD_KP, SPD_KI, PH_K].foldl (fun s a => let (g, s) := s.draw 13; s.setNum a (g % 0x100000000))
    (s.toPolicy (fun a => decide (addrDie a = 5) && decide (addrUnit a = 5) && decide (0x1000 ≤ addrOff a)))

/-- The parameters that follow from the SPINDLE record. -/
def State.spinDerived (s : State) : State :=
  (((s.put SPIN_BRAKE_BRK_I (s.imgNat Image.iMax / 2)).put SPIN_STARTX_ALIGN_I (s.imgNat Image.iMax / 2)).put SPIN_GEN_GEN_V
    (s.imgNat Image.vmotNom * 7 / 8)).put SPIN_GEN_FLY_RPM (s.imgNat Image.rpm * 3 / 5)

theorem deriveSpin_eq (s : State) : s.deriveSpin = s.spinPolicy.spinDerived := rfl

theorem Evolves.spinPolicy {s₀ : State} (h : Evolves s₀ s) : Evolves s₀ s.spinPolicy := by
  refine .foldl h.toPolicy fun s h _ => ?_
  split
  next e => exact .setNum (.of_snd e h.draw)

theorem spinPolicy_img (s : State) : s.spinPolicy.img = s.img := rfl

theorem spinDerived_params (h : s.Wf) :
    s.spinDerived.get SPIN_BRAKE_BRK_I = s.imgNat Image.iMax / 2 ∧ s.spinDerived.get SPIN_STARTX_ALIGN_I = s.imgNat Image.iMax / 2 ∧
      s.spinDerived.get SPIN_GEN_FLY_RPM = s.imgNat Image.rpm * 3 / 5 := by
  have hi : s.imgNat Image.iMax < 2 ^ 16 := imgNat_lt s fun i => fieldLe2_lt i.spindle 12
  have hr : s.imgNat Image.rpm < 2 ^ 16 := imgNat_lt s fun i => fieldLe2_lt i.spindle 0
  have h1 := h.put SPIN_BRAKE_BRK_I (s.imgNat Image.iMax / 2)
  have h2 := h1.put SPIN_STARTX_ALIGN_I (s.imgNat Image.iMax / 2)
  rw [State.spinDerived]
  refine ⟨?_, ?_, ?_⟩
  · rw [State.get_put_other _ _ (by decide), State.get_put_other _ _ (by decide), State.get_put_other _ _ (by decide)]
    exact State.get_put_fits h rfl (Nat.lt_of_le_of_lt (Nat.div_le_self _ _) hi)
  · rw [State.get_put_other _ _ (by decide), State.get_put_other _ _ (by decide)]
    exact State.get_put_fits h1 rfl (Nat.lt_of_le_of_lt (Nat.div_le_self _ _) hi)
  · refine State.get_put_fits (h2.put _ _) rfl (Nat.lt_of_le_of_lt ?_ hr)
    omega

theorem setRW_img (s : State) (a : Nat) (v : Word) : (s.setRW a v).img = s.img := by
  unfold State.setRW
  split <;> rfl

theorem spinCfgWrite_derives (h : s.Wf) (v : Word) :
    (spinCfgWrite v s).get SPIN_BRAKE_BRK_I = s.imgNat Image.iMax / 2 ∧ (spinCfgWrite v s).get SPIN_STARTX_ALIGN_I = s.imgNat Image.iMax / 2 ∧
      (spinCfgWrite v s).get SPIN_GEN_FLY_RPM = s.imgNat Image.rpm * 3 / 5 := by
  have hw : (s.setRW SPIN_CFG v).spinPolicy.Wf := (Evolves.refl s).setRW.spinPolicy.wf h
  have hn (f : Image → Nat) : (s.setRW SPIN_CFG v).spinPolicy.imgNat f = s.imgNat f := by
    rw [State.imgNat, spinPolicy_img, setRW_img, State.imgNat]
  rw [spinCfgWrite, deriveSpin_eq, ← hn, ← hn]
  exact spinDerived_params hw

end

/-- Settles O14: each clause by the lemma about its command. -/
theorem spinLocksToTheWedgesAndSurvivesFaults : Obligations.SPIN_locks_to_the_wedges_and_survives_faults := by
  unfold Obligations.SPIN_locks_to_the_wedges_and_survives_faults
  refine ⟨?tick, ?lock, ?lost, ?timeout, ?residue, ?stays, ?resumes, ?cfg⟩
  case tick =>
    intro s dev h hi
    obtain ⟨herr, hcount, hwedge, hfine⟩ := referenceTick_measures h dev
    exact runs_of_cond rfl hi ⟨herr, hcount, hwedge, hfine, referenceTick_revs h dev, referenceTick_unlocks h dev⟩
  case lock => exact fun s h hs hn => runs_of_cond rfl ⟨hs, hn⟩ (spinLock_flag h true)
  case lost => exact fun s h hn hs => ⟨_, rfl, lossOfSync_holds h hn hs⟩
  case timeout => exact fun s h hs => runs_of_cond rfl hs (relockFailed_ends h)
  case residue =>
    intro s h
    have hf := spinFaultBit_set h (bit := 6) (by decide) sevNote clsCorrected noInst 0
    exact ⟨s.noteBit spinFault 6, rfl, hf.bit, hf.spin⟩
  case stays => exact fun s h => ⟨_, rfl, residueStays_sets h, rfl⟩
  case resumes => exact fun s _ hr => runs_of_cond rfl hr (restartDone_resumes s)
  case cfg => exact fun s v h hd => runs_of_on rfl hd (spinCfgWrite_derives ((Evolves.refl s).answer.wf h) v)

end Sys2Proof.Machine

namespace Sys2Proof.Machine

/-! ## The PWM period (R165-R169, R176, R179, R184) -/

section
variable {s₀ s t : State}

/-! ### What sampling and planning leave alone -/

/-- The registers that a period writes beside SPIN_STAT: fault bits and the counts of skipped samples and clamped duties. -/
def periodRegs : List Nat := [SPIN_FAULT, SPIN_FIRST, SPIN_SAT, SKIP_CNT, CLAMP_CNT]

/-- What the plan of the next duties leaves of SPIN: the commands, the observer and the outputs in force. -/
def Spin.shown (p : Spin) : List Nat × Bool × Nat × Nat × Int × Option (Nat × Nat × Nat) × List (Nat × Nat) :=
  (p.cmds, p.starting, p.vmot, p.theta, p.omega, p.out, p.drv.gates)

/-- From `s` to `t` a period samples, or plans its next duties. -/
structure Driven (s t : State) : Prop where
  regs : SpinRegs [] periodRegs s t
  shown : t.spin.shown = s.spin.shown

theorem Driven.refl (h : s.Wf) : Driven s s := ⟨.refl h, rfl⟩

theorem Driven.trans (h : Driven s₀ s) (k : Driven s t) : Driven s₀ t := ⟨h.regs.trans k.regs, k.shown.trans h.shown⟩

theorem Driven.ite {c : Prop} {i : Decidable c} (hs : Driven s₀ s) (ht : Driven s₀ t) : Driven s₀ (if c then s else t) := by
  split
  · exact hs
  · exact ht

theorem Driven.modSpin {f : Spin → Spin} (h : Driven s₀ s) (hf : ∀ p : Spin, (f p).shown = p.shown := by exact fun _ => rfl) :
    Driven s₀ (s.modSpin f) :=
  ⟨h.regs.modSpin, (hf s.spin).trans h.shown⟩

theorem Driven.modDrv {f : Drive → Drive} (h : Driven s₀ s) (hf : ∀ d : Drive, (f d).gates = d.gates := by exact fun _ => rfl) :
    Driven s₀ (s.modDrv f) := by
  refine h.modSpin fun p => ?_
  rw [Spin.shown, Spin.shown, hf]

theorem Driven.noteBit {bit : Nat} (h : Driven s₀ s) (hk : bit < 32) : Driven s₀ (s.noteBit spinFault bit) :=
  ⟨h.regs.faultBit hk (by decide) (by decide), (congrArg Spin.shown (spinFaultBit_set h.regs.wf hk _ _ _ _).spin).trans h.shown⟩

theorem Driven.countSat {cnt bit k : Nat} (h : Driven s₀ s) (hc : cnt = SKIP_CNT ∨ cnt = CLAMP_CNT) :
    Driven s₀ (s.countSat cnt SPIN_SAT_SAT bit k) := by
  refine ⟨?_, (congrArg Spin.shown (countSat_spin ..)).trans h.shown⟩
  rcases hc with rfl | rfl
  · exact h.regs.countSat (by decide) (by decide)
  · exact h.regs.countSat (by decide) (by decide)

theorem Driven.draw {what : Nat} (h : Driven s₀ s) : Driven s₀ (s.draw what).2 :=
  ⟨h.regs.kept (.draw (.refl s)) rfl fun _ _ => rfl, h.shown⟩

theorem Driven.setTorque {i : Int} (h : Driven s₀ s) : Driven s₀ (s.setTorque i) := by
  unfold State.setTorque
  exact h.modSpin

theorem Driven.speedLoop {target : Nat} {phase : Bool} (h : Driven s₀ s) : Driven s₀ (s.speedLoop target phase) := by
  unfold State.speedLoop
  exact h.setTorque.modDrv

theorem Driven.currentLoop {i : Rat × Rat × Rat} {theta : Nat} {idRef iqRef : Int} {emf : Rat} (h : Driven s₀ s) :
    Driven s₀ (s.currentLoop i theta idRef iqRef emf) := by
  unfold State.currentLoop
  exact h.modDrv

theorem Driven.planDuties {d : Nat × Nat × Nat} (h : Driven s₀ s) : Driven s₀ (s.planDuties d) :=
  .ite h.modSpin (.ite (h.countSat (.inr rfl)).modSpin h.modSpin)

theorem Driven.vector {theta vmot : Nat} (h : Driven s₀ s) : Driven s₀ (s.vector theta vmot) := h.modDrv.planDuties

theorem Driven.zeroVector (h : Driven s₀ s) : Driven s₀ s.zeroVector := h.modSpin.modDrv

theorem Driven.outputsOff (h : Driven s₀ s) : Driven s₀ s.outputsOff := h.modSpin.modDrv

theorem Driven.generate {vmot : Nat} (h : Driven s₀ s) : Driven s₀ (s.generate vmot) := by
  unfold State.generate
  split
  next x _ s1 e =>
    have h1 : Driven s₀ s1 := by
      have hd : Driven s₀ (s.draw 10).2 := h.draw
      rw [e] at hd
      exact hd
    exact h1.setTorque

theorem Driven.brakePhase {vmot : Nat} (h : Driven s₀ s) : Driven s₀ (s.brakePhase vmot) := by
  unfold State.brakePhase
  extract_lets lim go
  have hgo (b : Brake) : Driven s₀ (go s b) := h.modSpin.modDrv
  split
  · exact h
  · exact h.modDrv
  · exact .ite (hgo _) (.ite ((hgo _).noteBit (by decide)) h)
  · exact .ite (hgo _) (.ite (hgo _) (hgo _))

theorem Driven.driveNext {i : Rat × Rat × Rat} {vmot : Nat} (h : Driven s₀ s) : Driven s₀ (s.driveNext i vmot) := by
  unfold State.driveNext
  extract_lets st pp ahead emf foc openLoop s1
  have hfoc {u : State} (hu : Driven s₀ u) : Driven s₀ (foc u) := hu.currentLoop.vector
  have hopen {u : State} (hu : Driven s₀ u) (angle out : Nat) : Driven s₀ (openLoop u angle out) := hu.currentLoop.vector
  have h1 : Driven s₀ s1 := h.brakePhase
  refine .ite (hfoc h.speedLoop) (.ite (hfoc h.speedLoop) (.ite (hfoc h.setTorque) (.ite ?_ (.ite (hopen h.setTorque _ _)
    (.ite (hopen h.modSpin.setTorque _ _) (.ite (.ite h.zeroVector (hfoc h.generate)) h.outputsOff))))))
  split
  · exact hfoc h1.speedLoop
  · exact hfoc h1.setTorque
  · exact h1.outputsOff
  · exact h1.zeroVector
  · exact .ite h1.outputsOff h1.zeroVector

/-! ### The observer (R169) -/

/-- The observer's angle and speed, with SPEED, before a period is judged. -/
def State.sighted (s : State) (theta : Nat) (omega : Int) : State :=
  ((s.turnTo (theta % 0x100000000)).modSpin (fun p => { p with omega := omega })).put SPIN_STAT_SPEED (min 0xFFFF (omega.natAbs / 2 ^ 14))

theorem turnTo_eq (s : State) (theta : Nat) :
    ∃ sector, s.turnTo theta = s.modSpin fun p => { p with theta := theta % 0x100000000, ref := { p.ref with sector := sector } } := by
  unfold State.turnTo State.modRef
  rw [State.modSpin_modSpin]
  exact ⟨_, rfl⟩

theorem SpinRegs.turnTo {fs : List Fld} {rs : List Nat} {theta : Nat} (h : SpinRegs fs rs s₀ s) : SpinRegs fs rs s₀ (s.turnTo theta) := by
  unfold State.turnTo
  exact h.modRef.modSpin

theorem sighted_regs (h : s.Wf) (theta : Nat) (omega : Int) : SpinRegs [SPIN_STAT_SPEED] periodRegs s (s.sighted theta omega) :=
  .put (.modSpin (.turnTo (.refl h))) (by decide)

theorem sighted_shown (s : State) (theta : Nat) (omega : Int) :
    (s.sighted theta omega).spin.shown =
      (s.spin.cmds, s.spin.starting, s.spin.vmot, theta % 0x100000000, omega, s.spin.out, s.spin.drv.gates) := by
  obtain ⟨sector, e⟩ := turnTo_eq s (theta % 0x100000000)
  rw [State.sighted, State.put_spin, State.modSpin_spin, e, State.modSpin_spin, Nat.mod_mod]
  rfl

/-- A period that is judged keeps the angle and the speed sighted. -/
theorem observe_driven (h : s.Wf) (theta : Nat) (omega : Int) (emf : Nat) (clean : Bool) (dev : Rat) :
    Driven (s.sighted theta omega) (s.observe theta omega emf clean dev) := by
  have h1 : Driven (s.sighted theta omega) (s.sighted theta omega) := .refl (sighted_regs h theta omega).wf
  exact .ite (.ite h1.modSpin h1.modSpin.modSpin) (.ite (.ite h1.modSpin.modSpin h1.modSpin.modSpin.modSpin)
    (.ite h1.modSpin h1.modSpin.modSpin))

/-! ### Commands, samples and the limit of the current (R165, R166, R168, R176) -/

/-- A period begins: the planned duties are latched, and the commands that waited are taken. -/
def State.periodBegun (s : State) (vmot : Nat) : State := (s.modSpin (fun p => { p with cmds := [] })).latchDuties vmot

/-- The commands that waited act. -/
def State.commandsAct (s : State) (vmot : Nat) : State := s.spin.cmds.foldl (fun t c => t.spinCmd c) (s.periodBegun vmot)

/-- The sample of this period is clean. -/
def State.sampleClean (s : State) : Bool :=
  match s.spin.out with
  | some d => s.cleanWindow d
  | none => false

/-- The sample of this period is skipped. -/
def State.sampleSkipped (s : State) : Bool := s.spin.out.isSome && !s.sampleClean && decide (s.imgNat Image.motorClass = 1)

/-- The skipped samples in a row are counted. -/
def State.skipCounted (s : State) (skip : Bool) : State :=
  if skip then (s.countSat SKIP_CNT SPIN_SAT_SAT 1 1).modSpin (fun p => { p with skipRun := p.skipRun + 1 })
  else s.modSpin (fun p => { p with skipRun := 0 })

/-- The largest sampled current, of code `big`, exceeds 125 % of I_MAX. -/
def State.overCurrent (s : State) (big : Nat) : Bool := decide (5 * s.imgNat Image.iMax * 2048 < 4 * big * s.get SENSE_SCALE_I_FS)

/-- The outputs are off at once. -/
def State.cutOut (s : State) : State := (s.modSpin (fun p => { p with out := none })).modDrv (fun d => { d with gates := [] })

/-- Beyond the limit the outputs go off. -/
def State.currentChecked (s : State) (skip : Bool) (big : Nat) : State :=
  if !skip && s.overCurrent big then s.cutOut.noteBit spinFault 0 else s

/-- A period once its commands have acted and its currents are checked. -/
def State.sampled (s : State) (vmot big : Nat) : State :=
  ((s.commandsAct vmot).skipCounted (s.commandsAct vmot).sampleSkipped).currentChecked (s.commandsAct vmot).sampleSkipped big

theorem pwmPeriod_of_driven (hi : s.img.isSome = true) (hr : s.spin.rotating = false) (iu iv iw mu mv mw : Int) (theta : Nat) (omega : Int)
    (emf vmot : Nat) :
    ∃ (th : Nat) (om : Int) (clean : Bool) (dev : Rat) (i : Rat × Rat × Rat),
      pwmPeriod iu iv iw mu mv mw theta omega emf vmot s =
          ((s.sampled vmot (max iu.natAbs (max iv.natAbs iw.natAbs))).observe th om emf clean dev).driveNext i vmot ∧
        ((s.sampled vmot (max iu.natAbs (max iv.natAbs iw.natAbs))).spinState ≠ spRamp →
          (s.sampled vmot (max iu.natAbs (max iv.natAbs iw.natAbs))).spinState ≠ spHoldAngle → th = theta ∧ om = omega) := by
  have hi' : ¬s.img.isNone = true := by
    rw [Option.isNone_eq_false_iff.2 hi]
    exact Bool.false_ne_true
  have hr' : ¬s.spin.rotating = true := by
    rw [hr]
    exact Bool.false_ne_true
  unfold pwmPeriod
  rw [if_neg hi', if_neg hr']
  extract_lets s1 clean skip s2 got big s3 off dev held pp om on th i
  refine ⟨th, om, clean && !skip, dev, i, rfl, fun hramp hhold => ?_⟩
  have hheld : ¬held = true := fun e => hhold (of_decide_eq_true e)
  exact ⟨(if_neg hheld).trans (if_neg hramp), if_neg hheld⟩

theorem commandsAct_wf (h : s.Wf) (vmot : Nat) : (s.commandsAct vmot).Wf :=
  (Evolves.foldl (Evolves.refl s).modSpin.latchDuties fun _ h _ => h.spinCmd).wf h

theorem skipCounted_driven (h : s.Wf) (skip : Bool) : Driven s (s.skipCounted skip) :=
  .ite ((Driven.refl h).countSat (.inl rfl)).modSpin (Driven.refl h).modSpin

theorem cutOut_wf (h : s.Wf) : s.cutOut.Wf := (Evolves.refl s).modSpin.modDrv.wf h

theorem currentChecked_regs (h : s.Wf) (skip : Bool) (big : Nat) : SpinRegs [] periodRegs s (s.currentChecked skip big) := by
  have hc : SpinRegs [] periodRegs s s.cutOut := (SpinRegs.refl h).modSpin.modDrv
  exact .ite (hc.faultBit (by decide) (by decide) (by decide)) (.refl h)

/-- What a period keeps of SPIN from the commands on: those that wait, the start under way, and the supply measured. -/
def Spin.taken (p : Spin) : List Nat × Bool × Nat := (p.cmds, p.starting, p.vmot)

theorem Spin.taken_of_shown {p q : Spin} (h : p.shown = q.shown) : p.taken = q.taken := by
  simp only [Spin.shown, Prod.mk.injEq] at h
  obtain ⟨hcmds, hstarting, hvmot, -⟩ := h
  rw [Spin.taken, hcmds, hstarting, hvmot, Spin.taken]

theorem currentChecked_taken (h : s.Wf) (skip : Bool) (big : Nat) : (s.currentChecked skip big).spin.taken = s.spin.taken := by
  rw [State.currentChecked]
  split
  · have hf := spinFaultBit_set (cutOut_wf h) (bit := 0) (by decide) sevNote clsCorrected noInst 0
    have hc : s.cutOut.spin.taken = s.spin.taken := rfl
    exact (congrArg Spin.taken hf.spin).trans hc
  · rfl

theorem sampled_regs (h : s.Wf) (vmot big : Nat) : SpinRegs [] periodRegs (s.commandsAct vmot) (s.sampled vmot big) := by
  have hs := (skipCounted_driven (commandsAct_wf h vmot) (s.commandsAct vmot).sampleSkipped).regs
  exact hs.trans (currentChecked_regs hs.wf _ _)

theorem sampled_taken (h : s.Wf) (vmot big : Nat) : (s.sampled vmot big).spin.taken = (s.commandsAct vmot).spin.taken := by
  have hs := skipCounted_driven (commandsAct_wf h vmot) (s.commandsAct vmot).sampleSkipped
  exact (currentChecked_taken hs.regs.wf _ _).trans (Spin.taken_of_shown hs.shown)

/-- What the observer and the plan of the next duties leave of a sampled period. -/
structure PeriodEnd (s : State) (theta : Nat) (omega : Int) (t : State) : Prop where
  regs : SpinRegs [SPIN_STAT_SPEED] periodRegs s t
  taken : t.spin.taken = s.spin.taken
  outputs : t.spin.out = s.spin.out ∧ t.spin.drv.gates = s.spin.drv.gates
  sight : s.spinState ≠ spRamp → s.spinState ≠ spHoldAngle → t.spin.theta = theta % 0x100000000 ∧ t.spin.omega = omega

theorem SpinRegs.weaken {fs : List Fld} {rs : List Nat} (h : SpinRegs [] rs s t) : SpinRegs fs rs s t :=
  ⟨h.wf, h.img, h.regs, fun g hg _ => h.stat g hg rfl, h.fault⟩

theorem pwmPeriod_ends (h : s.Wf) (hi : s.img.isSome = true) (hr : s.spin.rotating = false) (iu iv iw mu mv mw : Int) (theta : Nat) (omega : Int)
    (emf vmot : Nat) :
    PeriodEnd (s.sampled vmot (max iu.natAbs (max iv.natAbs iw.natAbs))) theta omega (pwmPeriod iu iv iw mu mv mw theta omega emf vmot s) := by
  obtain ⟨th, om, clean, dev, i, e, hsight⟩ := pwmPeriod_of_driven hi hr iu iv iw mu mv mw theta omega emf vmot
  have hw := (sampled_regs h vmot (max iu.natAbs (max iv.natAbs iw.natAbs))).wf
  have hd := (observe_driven hw th om emf clean dev).driveNext (i := i) (vmot := vmot)
  have hshown := hd.shown.trans (sighted_shown _ th om)
  simp only [Spin.shown, Prod.mk.injEq] at hshown
  obtain ⟨hcmds, hstarting, hvmot, htheta, homega, hout, hgates⟩ := hshown
  rw [e]
  refine ⟨(sighted_regs hw th om).trans hd.regs.weaken, ?_, ⟨hout, hgates⟩, fun hramp hhold => ?_⟩
  · rw [Spin.taken, hcmds, hstarting, hvmot, Spin.taken]
  · obtain ⟨rfl, rfl⟩ := hsight hramp hhold
    exact ⟨htheta, homega⟩

/-- From the commands on a period keeps the state, and what waits. -/
theorem pwmPeriod_after (h : s.Wf) (hi : s.img.isSome = true) (hr : s.spin.rotating = false) (iu iv iw mu mv mw : Int) (theta : Nat) (omega : Int)
    (emf vmot : Nat) :
    SpinRegs [SPIN_STAT_SPEED] periodRegs (s.commandsAct vmot) (pwmPeriod iu iv iw mu mv mw theta omega emf vmot s) ∧
      (pwmPeriod iu iv iw mu mv mw theta omega emf vmot s).spin.taken = (s.commandsAct vmot).spin.taken :=
  have he := pwmPeriod_ends h hi hr iu iv iw mu mv mw theta omega emf vmot
  ⟨(sampled_regs h vmot _).weaken.trans he.regs, he.taken.trans (sampled_taken h vmot _)⟩

/-! ### The commands of a period (R176) -/

theorem commandsAct_nil (hc : s.spin.cmds = []) (vmot : Nat) : s.commandsAct vmot = s.periodBegun vmot := by
  rw [State.commandsAct, hc, List.foldl_nil]

theorem commandsAct_one {c : Nat} (hc : s.spin.cmds = [c]) (vmot : Nat) : s.commandsAct vmot = (s.periodBegun vmot).spinCmd c := by
  rw [State.commandsAct, hc, List.foldl_cons, List.foldl_nil]

theorem periodBegun_wf (h : s.Wf) (vmot : Nat) : (s.periodBegun vmot).Wf := (Evolves.refl s).modSpin.latchDuties.wf h

/-- SPIN with its planned duties latched, and their gate times. -/
def Spin.latched (p : Spin) (vmot : Nat) (gates : List (Nat × Nat)) : Spin :=
  { p with
    out := p.nextOut, vmot := vmot
    drv := { p.drv with gates := gates }, ref := { p.ref with clock := p.ref.clock + 320000 } }

theorem latchDuties_eq (s : State) (vmot : Nat) : s.latchDuties vmot = s.modSpin (·.latched vmot (s.gatesOf s.spin.nextOut)) := by
  unfold State.latchDuties State.modRef State.modDrv
  rw [State.modSpin_modSpin, State.modSpin_modSpin]
  rfl

theorem periodBegun_eq (s : State) (vmot : Nat) :
    ∃ gates, s.periodBegun vmot = s.modSpin fun p => Spin.latched { p with cmds := [] } vmot gates := by
  rw [State.periodBegun, latchDuties_eq, State.modSpin_modSpin]
  exact ⟨_, rfl⟩

theorem periodBegun_taken (s : State) (vmot : Nat) : (s.periodBegun vmot).spin.taken = ([], s.spin.starting, vmot) := by
  obtain ⟨gates, e⟩ := periodBegun_eq s vmot
  rw [e]
  rfl

theorem periodBegun_out (s : State) (vmot : Nat) : (s.periodBegun vmot).spin.out = s.spin.nextOut := by
  obtain ⟨gates, e⟩ := periodBegun_eq s vmot
  rw [e]
  rfl

theorem periodBegun_state (s : State) (vmot : Nat) : (s.periodBegun vmot).spinState = s.spinState := by
  obtain ⟨gates, e⟩ := periodBegun_eq s vmot
  rw [e, State.modSpin_spinState]

theorem periodBegun_startRefused (s : State) (vmot : Nat) : (s.periodBegun vmot).startRefused = s.startRefused := by
  obtain ⟨gates, e⟩ := periodBegun_eq s vmot
  rw [e]
  rfl

/-- A START that is accepted. -/
def State.started (s : State) : State := (s.modSpin (fun p => { p with starting := true, attempts := 0, pendStart := false })).enterSense false

theorem spinCmd_start (hs : s.spinState = spStopped) (hr : s.startRefused = false) : s.spinCmd 1 = s.started := by
  have hc : (s.spinState = spStopped ∨ s.spinState = spBrake ∨ s.spinState = spCoast) ∧ (!s.startRefused) = true := by
    rw [hr]
    exact ⟨.inl hs, rfl⟩
  unfold State.spinCmd
  exact (if_pos (rfl : (1 : Nat) = 1)).trans (if_pos hc)

theorem started_spin (s : State) : s.started.spin.cmds = s.spin.cmds ∧ s.started.spin.starting = true := by
  rw [State.started, State.enterSense, State.modSpin_spin, State.put_spin, setSpin_spin]
  exact ⟨rfl, rfl⟩

theorem spinCmd_start_rejected (h1 : s.spinState ≠ spStopped) (h2 : s.spinState ≠ spBrake) (h3 : s.spinState ≠ spCoast) :
    s.spinCmd 1 = s.put SPIN_STAT_CMD_REJ 1 := by
  have hc : ¬((s.spinState = spStopped ∨ s.spinState = spBrake ∨ s.spinState = spCoast) ∧ (!s.startRefused) = true) := by
    rintro ⟨e | e | e, -⟩
    · exact h1 e
    · exact h2 e
    · exact h3 e
  unfold State.spinCmd
  exact (if_pos (rfl : (1 : Nat) = 1)).trans (if_neg hc)

/-- A period in which an accepted START waits. -/
theorem pwmPeriod_starts (h : s.Wf) (hi : s.img.isSome = true) (hr : s.spin.rotating = false) (hc : s.spin.cmds = [1])
    (hs : s.spinState = spStopped) (hn : s.startRefused = false) (iu iv iw mu mv mw : Int) (theta : Nat) (omega : Int) (emf vmot : Nat) :
    (pwmPeriod iu iv iw mu mv mw theta omega emf vmot s).spinState = spSense ∧
      (pwmPeriod iu iv iw mu mv mw theta omega emf vmot s).spin.cmds = [] ∧
      (pwmPeriod iu iv iw mu mv mw theta omega emf vmot s).spin.starting = true := by
  obtain ⟨hregs, htaken⟩ := pwmPeriod_after h hi hr iu iv iw mu mv mw theta omega emf vmot
  have e : s.commandsAct vmot = (s.periodBegun vmot).started :=
    (commandsAct_one hc vmot).trans (spinCmd_start ((periodBegun_state s vmot).trans hs) ((periodBegun_startRefused s vmot).trans hn))
  obtain ⟨hcmds, hstarting⟩ := started_spin (s.periodBegun vmot)
  have hbegun := periodBegun_taken s vmot
  rw [e] at hregs htaken
  simp only [Spin.taken, Prod.mk.injEq, hcmds, hstarting] at htaken hbegun
  obtain ⟨htcmds, htstarting, -⟩ := htaken
  obtain ⟨hbcmds, -, -⟩ := hbegun
  exact ⟨(hregs.spinState rfl).trans (enterSense_state ((Evolves.refl _).modSpin.wf (periodBegun_wf h vmot)) false), htcmds.trans hbcmds, htstarting⟩

/-- A period in which a START waits that its state does not take. -/
theorem pwmPeriod_rejects (h : s.Wf) (hi : s.img.isSome = true) (hr : s.spin.rotating = false) (hc : s.spin.cmds = [1])
    (h1 : s.spinState ≠ spStopped) (h2 : s.spinState ≠ spBrake) (h3 : s.spinState ≠ spCoast) (iu iv iw mu mv mw : Int) (theta : Nat) (omega : Int)
    (emf vmot : Nat) :
    (pwmPeriod iu iv iw mu mv mw theta omega emf vmot s).flag SPIN_STAT_CMD_REJ = true ∧
      (pwmPeriod iu iv iw mu mv mw theta omega emf vmot s).spinState = s.spinState ∧
      (pwmPeriod iu iv iw mu mv mw theta omega emf vmot s).spin.cmds = [] := by
  obtain ⟨hregs, htaken⟩ := pwmPeriod_after h hi hr iu iv iw mu mv mw theta omega emf vmot
  have hw := periodBegun_wf h vmot
  have hst := periodBegun_state s vmot
  have e : s.commandsAct vmot = (s.periodBegun vmot).put SPIN_STAT_CMD_REJ 1 :=
    (commandsAct_one hc vmot).trans (spinCmd_start_rejected (hst.trans_ne h1) (hst.trans_ne h2) (hst.trans_ne h3))
  rw [e] at hregs htaken
  rw [State.put_spin, periodBegun_taken] at htaken
  refine ⟨?_, ?_, congrArg Prod.fst htaken⟩
  · rw [hregs.flag SPIN_STAT_CMD_REJ rfl rfl]
    exact State.flag_put_one hw rfl
  · rw [hregs.spinState rfl, State.spinState, State.get_put_of_apart hw SPIN_STAT_CMD_REJ SPIN_STAT_STATE rfl rfl]
    exact hst

/-- A period without a command, where the angle is the observer's. -/
theorem pwmPeriod_observes (h : s.Wf) (hi : s.img.isSome = true) (hr : s.spin.rotating = false) (hc : s.spin.cmds = [])
    (hramp : s.spinState ≠ spRamp) (hhold : s.spinState ≠ spHoldAngle) (iu iv iw mu mv mw : Int) (theta : Nat) (omega : Int) (emf vmot : Nat) :
    (pwmPeriod iu iv iw mu mv mw theta omega emf vmot s).spin.theta = theta % 0x100000000 ∧
      (pwmPeriod iu iv iw mu mv mw theta omega emf vmot s).spin.omega = omega ∧
      (pwmPeriod iu iv iw mu mv mw theta omega emf vmot s).spin.vmot = vmot ∧
      (pwmPeriod iu iv iw mu mv mw theta omega emf vmot s).spinState = s.spinState := by
  obtain ⟨hregs, htaken⟩ := pwmPeriod_after h hi hr iu iv iw mu mv mw theta omega emf vmot
  have he := pwmPeriod_ends h hi hr iu iv iw mu mv mw theta omega emf vmot
  have hst : (s.sampled vmot (max iu.natAbs (max iv.natAbs iw.natAbs))).spinState = s.spinState := by
    rw [(sampled_regs h vmot _).spinState rfl, commandsAct_nil hc, periodBegun_state]
  rw [commandsAct_nil hc] at hregs htaken
  rw [periodBegun_taken] at htaken
  obtain ⟨htheta, homega⟩ := he.sight (hst.trans_ne hramp) (hst.trans_ne hhold)
  simp only [Spin.taken, Prod.mk.injEq] at htaken
  obtain ⟨-, -, hvmot⟩ := htaken
  exact ⟨htheta, homega, hvmot, (hregs.spinState rfl).trans (periodBegun_state s vmot)⟩

/-! ### A current above the limit (R166) -/

theorem sampleSkipped_of_off (ho : s.spin.out = none) : s.sampleSkipped = false := by
  rw [State.sampleSkipped, ho]
  rfl

theorem currentChecked_over {big : Nat} (h : s.Wf) (hb : s.overCurrent big = true) :
    bitOf ((s.currentChecked false big).num SPIN_FAULT) 0 = true ∧ (s.currentChecked false big).spin.out = none ∧
      (s.currentChecked false big).spin.drv.gates = [] := by
  have hf := spinFaultBit_set (cutOut_wf h) (bit := 0) (by decide) sevNote clsCorrected noInst 0
  have hs : (s.cutOut.noteBit spinFault 0).spin = s.cutOut.spin := hf.spin
  have e : s.currentChecked false big = s.cutOut.noteBit spinFault 0 := by
    rw [State.currentChecked, hb]
    rfl
  rw [e, hs]
  exact ⟨hf.bit, rfl, rfl⟩

theorem SpinRegs.overCurrent {fs : List Fld} {rs : List Nat} (h : SpinRegs fs rs s t) (hn : SENSE_SCALE ∉ SPIN_STAT :: rs) (big : Nat) :
    t.overCurrent big = s.overCurrent big := by
  rw [State.overCurrent, h.imgNat, h.get SENSE_SCALE_I_FS rfl hn, State.overCurrent]

theorem periodBegun_overCurrent (s : State) (vmot big : Nat) : (s.periodBegun vmot).overCurrent big = s.overCurrent big := by
  obtain ⟨gates, e⟩ := periodBegun_eq s vmot
  rw [e]
  rfl

/-- A current above 125 % of I_MAX while the sample counts turns the outputs off. -/
theorem pwmPeriod_cuts (h : s.Wf) (hi : s.img.isSome = true) (hr : s.spin.rotating = false) (hc : s.spin.cmds = []) (ho : s.spin.nextOut = none)
    {iu iv iw : Int} (hb : s.overCurrent (max iu.natAbs (max iv.natAbs iw.natAbs)) = true) (mu mv mw : Int) (theta : Nat) (omega : Int)
    (emf vmot : Nat) :
    bitOf ((pwmPeriod iu iv iw mu mv mw theta omega emf vmot s).num SPIN_FAULT) 0 = true ∧
      (pwmPeriod iu iv iw mu mv mw theta omega emf vmot s).spin.out = none ∧
      (pwmPeriod iu iv iw mu mv mw theta omega emf vmot s).spin.drv.gates = [] := by
  have he := pwmPeriod_ends h hi hr iu iv iw mu mv mw theta omega emf vmot
  obtain ⟨hout, hgates⟩ := he.outputs
  have hskip : (s.periodBegun vmot).sampleSkipped = false := sampleSkipped_of_off ((periodBegun_out s vmot).trans ho)
  have e (big : Nat) : s.sampled vmot big = ((s.periodBegun vmot).skipCounted false).currentChecked false big := by
    rw [State.sampled, commandsAct_nil hc, hskip]
  have hd := (skipCounted_driven (periodBegun_wf h vmot) false).regs
  have hb' : ((s.periodBegun vmot).skipCounted false).overCurrent (max iu.natAbs (max iv.natAbs iw.natAbs)) = true := by
    rw [hd.overCurrent (by decide), periodBegun_overCurrent, hb]
  obtain ⟨hbit, hcut, hoff⟩ := currentChecked_over hd.wf hb'
  have hfault := he.regs.fault 0
  rw [e] at hout hgates hfault
  exact ⟨hfault hbit, hout.trans hcut, hgates.trans hoff⟩

/-! ### A restart of the motor context, and a Blank part (R164, R184) -/

/-- An electrical angle one period further on at the last speed. -/
def State.angleOn (s : State) (x : Nat) : Nat := (((x : Int) + turned s.spin.omega (s.imgNat Image.polePairs) 4) % 0x100000000).toNat

theorem angleOn_lt (s : State) (x : Nat) : s.angleOn x < 0x100000000 := by
  rw [State.angleOn]
  omega

/-- The vector planned goes out, and the angle moves on. -/
def State.rotated (s : State) (vmot : Nat) : State :=
  ((s.latchDuties vmot).turnTo (s.angleOn (s.latchDuties vmot).spin.theta)).modDrv (fun d => { d with vang := s.angleOn d.vang })

theorem rotateVector_eq (s : State) (vmot : Nat) :
    ∃ d, s.rotateVector vmot =
      if (s.rotated vmot).spin.out.isSome then (s.rotated vmot).modSpin (fun p => { p with nextOut := some d }) else s.rotated vmot :=
  ⟨_, rfl⟩

/-- What the vector's rotation reads, or leaves: the observer, the commands, and the registers. -/
def State.turning (s : State) : Nat × Int × List Nat × List (Nat × Word) := (s.spin.theta, s.spin.omega, s.spin.cmds, s.bank)

theorem latchDuties_turning (s : State) (vmot : Nat) : (s.latchDuties vmot).turning = s.turning := by
  rw [latchDuties_eq]
  rfl

theorem turnTo_turning (s : State) (theta : Nat) : (s.turnTo theta).turning = (theta % 0x100000000, s.spin.omega, s.spin.cmds, s.bank) := by
  obtain ⟨sector, e⟩ := turnTo_eq s theta
  rw [e]
  rfl

theorem State.modDrv_turning (s : State) (f : Drive → Drive) : (s.modDrv f).turning = s.turning := rfl

theorem rotated_turning (s : State) (vmot : Nat) :
    (s.rotated vmot).turning = (s.angleOn s.spin.theta, s.spin.omega, s.spin.cmds, s.bank) := by
  have hl := latchDuties_turning s vmot
  simp only [State.turning, Prod.mk.injEq] at hl
  obtain ⟨htheta, homega, hcmds, hbank⟩ := hl
  rw [State.rotated, State.modDrv_turning, turnTo_turning, htheta, homega, hcmds, hbank, Nat.mod_eq_of_lt (angleOn_lt s _)]

theorem State.plan_turning (s : State) (o : Option (Nat × Nat × Nat)) : (s.modSpin fun p => { p with nextOut := o }).turning = s.turning := rfl

theorem rotateVector_turning (s : State) (vmot : Nat) :
    (s.rotateVector vmot).turning = (s.angleOn s.spin.theta, s.spin.omega, s.spin.cmds, s.bank) := by
  obtain ⟨d, e⟩ := rotateVector_eq s vmot
  rw [e, ← rotated_turning s vmot]
  split
  · exact State.plan_turning ..
  · rfl

theorem rotateVector_turns (s : State) (vmot : Nat) :
    (s.rotateVector vmot).spin.theta = s.angleOn s.spin.theta ∧ (s.rotateVector vmot).spin.omega = s.spin.omega ∧
      (s.rotateVector vmot).spin.cmds = s.spin.cmds ∧ (s.rotateVector vmot).bank = s.bank := by
  have h := rotateVector_turning s vmot
  simp only [State.turning, Prod.mk.injEq] at h
  exact h

theorem pwmPeriod_of_rotating (hi : s.img.isSome = true) (hr : s.spin.rotating = true) (iu iv iw mu mv mw : Int) (theta : Nat) (omega : Int)
    (emf vmot : Nat) : pwmPeriod iu iv iw mu mv mw theta omega emf vmot s = s.rotateVector vmot := by
  have hi' : ¬s.img.isNone = true := by
    rw [Option.isNone_eq_false_iff.2 hi]
    exact Bool.false_ne_true
  unfold pwmPeriod
  rw [if_neg hi', if_pos hr]

/-- A period of a Blank part, before its commands are rejected. -/
def State.blankPeriod (s : State) (vmot : Nat) : State := (s.modSpin (fun p => { p with cmds := [], nextOut := none })).latchDuties vmot

theorem blankPeriod_spin (s : State) (vmot : Nat) :
    (s.blankPeriod vmot).spin.out = none ∧ (s.blankPeriod vmot).spin.nextOut = none ∧ (s.blankPeriod vmot).spin.cmds = [] := by
  rw [State.blankPeriod, latchDuties_eq]
  exact ⟨rfl, rfl, rfl⟩

/-- Without an image a period drives no output. -/
theorem pwmPeriod_blank (hi : s.img = none) (iu iv iw mu mv mw : Int) (theta : Nat) (omega : Int) (emf vmot : Nat) :
    (pwmPeriod iu iv iw mu mv mw theta omega emf vmot s).spin.out = none ∧
      (pwmPeriod iu iv iw mu mv mw theta omega emf vmot s).spin.nextOut = none ∧
      (pwmPeriod iu iv iw mu mv mw theta omega emf vmot s).spin.cmds = [] := by
  have hi' : s.img.isNone = true := by
    rw [hi]
    rfl
  have e : pwmPeriod iu iv iw mu mv mw theta omega emf vmot s =
      if s.spin.cmds.isEmpty then s.blankPeriod vmot else (s.blankPeriod vmot).put SPIN_STAT_CMD_REJ 1 := if_pos hi'
  rw [e]
  split
  · exact blankPeriod_spin s vmot
  · exact blankPeriod_spin s vmot

end

/-- Settles O12: each clause by the lemma about its period. -/
theorem spinCommandsWaitForThePWMPeriod : Obligations.SPIN_commands_wait_for_the_PWM_period := by
  unfold Obligations.SPIN_commands_wait_for_the_PWM_period
  refine ⟨?start, ?stop, ?coast, ?clear, ?takes, ?rejects, ?observes, ?rotates, ?cuts, ?blank⟩
  case start => exact fun s _ hd => runs_of_on rfl hd ⟨rfl, rfl⟩
  case stop => exact fun s _ hd => runs_of_on rfl hd ⟨rfl, rfl⟩
  case coast => exact fun s _ hd => runs_of_on rfl hd ⟨rfl, rfl⟩
  case clear => exact fun s _ hd => runs_of_on rfl hd ⟨rfl, rfl⟩
  case takes => exact fun s iu iv iw mu mv mw theta omega emf vmot h hi hr hc hs hn => ⟨_, rfl, pwmPeriod_starts h hi hr hc hs hn ..⟩
  case rejects => exact fun s iu iv iw mu mv mw theta omega emf vmot h hi hr hc h1 h2 h3 => ⟨_, rfl, pwmPeriod_rejects h hi hr hc h1 h2 h3 ..⟩
  case observes => exact fun s iu iv iw mu mv mw theta omega emf vmot h hi hr hc hra hho => ⟨_, rfl, pwmPeriod_observes h hi hr hc hra hho ..⟩
  case rotates =>
    intro s iu iv iw mu mv mw theta omega emf vmot _ hi hr
    refine ⟨_, rfl, ?_⟩
    rw [pwmPeriod_of_rotating hi hr]
    exact rotateVector_turns s vmot
  case cuts =>
    exact fun s iu iv iw mu mv mw theta omega emf vmot h hi hr hc ho hb =>
      ⟨_, rfl, pwmPeriod_cuts h hi hr hc ho (decide_eq_true hb) ..⟩
  case blank => exact fun s iu iv iw mu mv mw theta omega emf vmot _ hi => ⟨_, rfl, pwmPeriod_blank hi ..⟩

end Sys2Proof.Machine

namespace Sys2Proof.Machine

/-! ## The register of a contact power (R250): a state of `State.Wf` that no run reaches -/

/-- The number of a head whose FLY_PC would stand at the KPR's SPIN_CFG. -/
def strayHead : Nat := (SPIN_CFG - FLY_PC 0 0) / 4

/-- A contact calibration of that head, which `State.Wf` does not exclude: it has its units, one sweep has ended with contact at power 700, and the
revolution that ends shows contact at that power again. -/
def strayCal : State :=
  { State.reset with
    img := some bareImage
    holders := [(unitBase 1 7, 2), (unitBase 1 9, 2)]
    flu := Vector.replicate 4 { Fly.reset with cal := some ⟨strayHead, [some 700], 700, 9, 10, false, 1, false⟩ }
    pau := Vector.replicate 4 { Preamp.reset with ecsSum := 90, ecsN := 1 } }

theorem exec_contactSweepStep (ch : Ch) (s : State) : exec (.contactSweepStep ch) s = .next (s.ifCh ch (contactSweepStep ch)) := rfl

/-- The contact power is adopted, in SPIN_CFG. -/
theorem contactSweepStep_strayCal : (strayCal.ifCh 0 (contactSweepStep 0)).rd SPIN_CFG ≠ strayCal.rd SPIN_CFG := by decide +kernel

/-- SPIN_CFG stands outside the named units of a channel die, of the HUB, and of the KPR where SPIN is not among them. -/
theorem rd_spinCfg_of_keepsOutsideCh {s t : State} {n : Ch} {own hub kpr : List Nat} (h : keepsOutsideCh s t n own hub [] kpr)
    (hunits : (∀ u ∈ own ++ hub ++ kpr, u < 32) ∧ 5 ∉ kpr := by decide) : t.rd SPIN_CFG = s.rd SPIN_CFG := by
  obtain ⟨hlt, hspin⟩ := hunits
  simp only [List.mem_append] at hlt
  have hdie {d : Nat} {units : List Nat} (hd : d < 8) (hu : ∀ u ∈ units, u < 32) (hin : inUnits d units SPIN_CFG) : d = 5 :=
    (addr_of_inUnits hd hu hin).1.symm.trans addrDie_spinCfg
  refine h SPIN_CFG (fun hin => ?own) (fun hin => ?hub) (fun m hm hin => ?ch) (fun hin => ?kpr)
  case own =>
    have := hdie (by omega) (fun u hu => hlt u (.inl (.inl hu))) hin
    omega
  case hub =>
    have := hdie (by omega) (fun u hu => hlt u (.inl (.inr hu))) hin
    omega
  case ch =>
    obtain ⟨u, _, hu, _⟩ := hin
    exact absurd hu List.not_mem_nil
  case kpr =>
    have hu := (addr_of_inUnits (by omega) (fun u hu => hlt u (.inr hu)) hin).2
    rw [addrUnit_spinCfg] at hu
    exact hspin hu

/-- Refutes O58: a contact calibration holds a head's number, and CONTACT_SWEEP_STEP writes FLY_PC at the place that number gives, a register of SPIN
for one that is no head's. -/
theorem not_readWriteAndMediaCommandsLeaveTheRest : ¬ Obligations.Read_write_and_media_commands_leave_the_rest := by
  unfold Obligations.Read_write_and_media_commands_leave_the_rest
  rintro ⟨_, _, _, _, _, _, _, _, _, _, _, _, _, _, _, _, _, _, _, _, _, _, _, _, _, _, sweepFrame, _⟩
  obtain ⟨t, ht, -, keeps⟩ := sweepFrame strayCal 0 (State.wf_of_wfb (by decide +kernel))
  rw [exec_contactSweepStep] at ht
  cases ht
  exact contactSweepStep_strayCal (rd_spinCfg_of_keepsOutsideCh keeps)

end Sys2Proof.Machine

namespace Sys2Proof.Machine

/-! ## What reading leaves alone (R193-R231)

The functions of the read channel count, adapt and deliver. The registers they take their queues, settings and commands from stay, and so does
what DETECT holds of sectors and jobs: `Reads` says so, with the completion that one of them writes, and there is one rule a function. -/

/-- An offset of DETECT (unit 3), LDPC (4) or LOOP (9) at which reading finds a queue, a setting or a command; DET_ERR is among them. -/
def isReadOff (u o : Nat) : Bool :=
  decide (u = 3 ∧ (o < 0x20 ∨ o = 0x24 ∨ 0x40 ≤ o ∧ o < 0x400) ∨ u = 4 ∧ (o = 0 ∨ 0x10 ≤ o ∧ o < 0x20) ∨ u = 9 ∧ (o = 0x8 ∨ o = 0xC))

/-- Such a register of channel die n. -/
def isReadReg (n a : Nat) : Bool := decide (addrDie a = n + 1) && isReadOff (addrUnit a) (addrOff a)

/-- What DETECT holds of sectors and jobs: all but the timing loop's frequency, the filters' boost and the adapted taps. -/
def Detect.work (d : Detect) : Detect := { d with freq := 0, boost := [], taps := [] }

/-- Where CQ_HEAD stands after one more completion (R223). -/
def State.cqNext (s : State) (n : Nat) : Nat :=
  (s.num (CQ_HEAD n) % ringLen (s.get (CQ_CFG_LEN n)) + 1) % ringLen (s.get (CQ_CFG_LEN n))

/-- From `s` to `t`, both well formed, reading leaves its registers and DETECT's work; no bit of DET_ERR falls, and with `done` one completion is
written. -/
structure Reads (done : Bool) (n : Nat) (s t : State) : Prop where
  wf : t.Wf
  work : (t.detOf n).work = (s.detOf n).work
  regs : ∀ a, isReadReg n a = true → a ≠ CQ_HEAD n → a ≠ DET_ERR n → t.rd a = s.rd a
  head : t.num (CQ_HEAD n) = if done then s.cqNext n else s.num (CQ_HEAD n)
  faults : ∀ j, bitOf (s.num (DET_ERR n)) j = true → bitOf (t.num (DET_ERR n)) j = true

section
variable {s₀ s t : State} {ch : Ch} {d : Bool} {α : Type}

theorem isReadReg_chReg {u o : Nat} (h : u < 32 ∧ o < 0x1000000) : isReadReg ch (chReg ch u o) = isReadOff u o := by
  obtain ⟨hu, ho⟩ := h
  rw [isReadReg, addrDie_chReg ch.isLt (by omega), addrUnit_chReg _ _ _ hu ho, addrOff_chReg _ _ _ ho, decide_eq_true rfl, Bool.true_and]

/-- A register of the die's that reading is free to write. -/
theorem offRead {u o : Nat} (h : (u < 32 ∧ o < 0x1000000) ∧ isReadOff u o = false := by decide) : isReadReg ch (chReg ch u o) = false :=
  (isReadReg_chReg h.1).trans h.2

theorem inRead {u o : Nat} (h : (u < 32 ∧ o < 0x1000000) ∧ isReadOff u o = true := by decide) : isReadReg ch (chReg ch u o) = true :=
  (isReadReg_chReg h.1).trans h.2

theorem isEngineReg_of_isReadReg {a : Nat} (h : isReadReg ch a = true) : isEngineReg a = true := by
  simp only [isReadReg, isReadOff, Bool.and_eq_true, decide_eq_true_eq] at h
  simp only [isEngineReg, decide_eq_true_eq]
  omega

/-! ### Control -/

theorem Reads.refl (h : s.Wf) : Reads false ch s s := ⟨h, rfl, fun _ _ _ _ => rfl, rfl, fun _ => id⟩

/-- What a further step leaves of the registers, of DETECT's work and of the faults. -/
theorem Reads.then (h : Reads d ch s₀ s) (k : Reads false ch s t) : Reads d ch s₀ t :=
  ⟨k.wf, k.work.trans h.work, fun a ha hc he => (k.regs a ha hc he).trans (h.regs a ha hc he), k.head.trans h.head,
    fun j hj => k.faults j (h.faults j hj)⟩

theorem Reads.rd (h : Reads d ch s t) {u o : Nat}
    (hu : ((u < 32 ∧ o < 0x1000000) ∧ isReadOff u o = true) ∧ (u = 3 → o ≠ 0x18 ∧ o ≠ 0x24) := by decide) :
    t.rd (chReg ch u o) = s.rd (chReg ch u o) := by
  obtain ⟨⟨hlt, hr⟩, hne⟩ := hu
  refine h.regs _ (inRead ⟨hlt, hr⟩) (chReg_ne (u' := 3) (o' := 0x18) ?_) (chReg_ne (u' := 3) (o' := 0x24) ?_) <;> omega

/-- A step that may complete, after one that does not. -/
theorem Reads.trans (h : Reads false ch s₀ s) (k : Reads d ch s t) : Reads d ch s₀ t := by
  refine ⟨k.wf, k.work.trans h.work, fun a ha hc he => (k.regs a ha hc he).trans (h.regs a ha hc he), ?_, fun j hj => k.faults j (h.faults j hj)⟩
  have hhead : s.num (CQ_HEAD ch) = s₀.num (CQ_HEAD ch) := h.head
  have hlen : s.get (CQ_CFG_LEN ch) = s₀.get (CQ_CFG_LEN ch) := State.get_of_rd (f := CQ_CFG_LEN ch) (h.rd (u := 3) (o := 0x14))
  rw [k.head, State.cqNext, hhead, hlen, State.cqNext]

theorem Reads.ite {c : Prop} {i : Decidable c} (hs : Reads d ch s₀ s) (ht : Reads d ch s₀ t) : Reads d ch s₀ (if c then s else t) := by
  split
  · exact hs
  · exact ht

theorem Reads.of_snd {p : α × State} {a : α} (e : p = (a, t)) (h : Reads d ch s₀ p.2) : Reads d ch s₀ t := by
  subst e
  exact h

theorem Reads.foldl {f : State → α → State} {l : List α} (h : Reads d ch s₀ s)
    (hf : ∀ s, Reads d ch s₀ s → ∀ a ∈ l, Reads d ch s₀ (f s a)) : Reads d ch s₀ (l.foldl f s) :=
  List.foldlRecOn l f h hf

theorem Reads.foldl_snd {β : Type} {p : β × State} {f : β × State → α → β × State} {l : List α} (h : Reads d ch s₀ p.2)
    (hf : ∀ p, Reads d ch s₀ p.2 → ∀ a, Reads d ch s₀ (f p a).2) : Reads d ch s₀ (l.foldl f p).2 :=
  List.foldlRecOn l f (motive := fun p => Reads d ch s₀ p.2) h fun p hp a _ => hf p hp a

/-! ### Writes, events and the memories -/

/-- Whatever leaves every register of reading and DETECT's work. -/
theorem Reads.kept (h : Reads d ch s₀ s) (hw : Evolves s t) (hwork : (t.detOf ch).work = (s.detOf ch).work)
    (hr : ∀ a, isReadReg ch a = true → t.rd a = s.rd a) : Reads d ch s₀ t := by
  refine h.then ⟨hw.wf h.wf, hwork, fun a ha _ _ => hr a ha, State.num_of_rd (hr _ (inRead (u := 3) (o := 0x18))), fun j hj => ?_⟩
  have hrd : t.rd (DET_ERR ch) = s.rd (DET_ERR ch) := hr _ (inRead (u := 3) (o := 0x24))
  rwa [State.num_of_rd hrd]

theorem Reads.wr {a : Nat} {v : Word} (h : Reads d ch s₀ s) (ha : isReadReg ch a = false) : Reads d ch s₀ (s.wr a v) := by
  refine h.kept (Evolves.refl s).wr rfl fun c hc => State.rd_wr_other s v ?_
  rintro rfl
  rw [ha] at hc
  cases hc

theorem Reads.put {f : Fld} {x : Nat} (h : Reads d ch s₀ s) (ha : isReadReg ch f.addr = false) : Reads d ch s₀ (s.put f x) := h.wr ha

theorem Reads.setNum {a x : Nat} (h : Reads d ch s₀ s) (ha : isReadReg ch a = false) : Reads d ch s₀ (s.setNum a x) := h.wr ha

theorem Reads.count48 {lo hi k : Nat} (h : Reads d ch s₀ s) (hlo : isReadReg ch lo = false) (hhi : isReadReg ch hi = false) :
    Reads d ch s₀ (s.count48 lo hi k) :=
  (h.setNum hlo).setNum hhi

theorem Reads.countSat {cnt bit k : Nat} {sat : Fld} (h : Reads d ch s₀ s) (hc : isReadReg ch cnt = false) (hs : isReadReg ch sat.addr = false) :
    Reads d ch s₀ (s.countSat cnt sat bit k) :=
  .ite ((h.setNum hc).wr hs) (h.setNum hc)

theorem EnginesKept.detOf (h : EnginesKept s t) (n : Nat) : t.detOf n = s.detOf n :=
  congrArg (fun e : Engines => atD e.det n Detect.reset) h.engines

theorem Reads.engines (h : Reads d ch s₀ s) (hw : Evolves s t) (k : EnginesKept s t) : Reads d ch s₀ t :=
  h.kept hw (congrArg Detect.work (k.detOf ch)) fun a ha => k.regs a (isEngineReg_of_isReadReg ha)

theorem Reads.raise {e : Nat} (h : Reads d ch s₀ s) : Reads d ch s₀ (s.raise e) := h.engines (.raise (.refl s)) (.raise (.refl s))

theorem EnginesKept.csWrite {n a : Nat} {bs : List Byte} (h : EnginesKept s₀ s) : EnginesKept s₀ (s.csWrite n a bs) := by
  have h1 : EnginesKept s₀ (((s.validate (1 + n) a bs.length).unmark (3 + n) a bs.length).loseResv (3 + n) a bs.length) :=
    h.validate.unmark.loseResv
  unfold State.csWrite
  split
  · exact h
  · exact .frame h1 rfl

theorem Reads.csWrite {a : Nat} {bs : List Byte} (h : Reads d ch s₀ s) : Reads d ch s₀ (s.csWrite ch a bs) :=
  h.engines (.csWrite (.refl s)) (.csWrite (.refl s))

theorem Reads.draw {what : Nat} (h : Reads d ch s₀ s) : Reads d ch s₀ (s.draw what).2 := h.engines (.draw (.refl s)) (.frame (.refl s) rfl)

theorem State.detOf_modDet (s : State) (ch : Ch) (f : Detect → Detect) : (s.modDet ch f).detOf ch = f (s.detOf ch) := atD_modAt_self ch.isLt

/-- A change of the frequency, the boost or the taps. -/
theorem Reads.modDet {f : Detect → Detect} (h : Reads d ch s₀ s) (hf : ∀ x : Detect, (f x).work = x.work) :
    Reads d ch s₀ (s.modDet ch f) := by
  refine h.kept (Evolves.refl s).modDet ?_ fun _ _ => rfl
  rw [State.detOf_modDet, hf]

/-! ### The faults of DETECT (R489, R490) -/

theorem detErrBit_set (h : s.Wf) {bit : Nat} (hk : bit < 32) : FaultSet (detErr ch) bit s (s.noteBit (detErr ch) bit) := by
  refine faultBit_set h (isEngineReg_chReg (u := 3) (o := 0x24) ch.isLt) hk (fun p hp => ?_) _ _ _ _
  cases hp
  exact chReg_ne (u := 3) (o := 0x24) (u' := 3) (o' := 0x28) (by decide)

theorem Reads.noteBit {bit : Nat} (h : Reads d ch s₀ s) (hk : bit < 32) : Reads d ch s₀ (s.noteBit (detErr ch) bit) := by
  have hset := detErrBit_set (ch := ch) h.wf hk
  have hregs {a : Nat} (ha : isReadReg ch a = true) (he : a ≠ DET_ERR ch) : (s.noteBit (detErr ch) bit).rd a = s.rd a := by
    refine hset.regs a (isEngineReg_of_isReadReg ha) he fun p hp => ?_
    cases hp
    have hfirst : isReadReg ch (DET_FIRST ch) = false := offRead (u := 3) (o := 0x28)
    rintro rfl
    exact Bool.false_ne_true (hfirst.symm.trans ha)
  refine h.then ⟨(Evolves.noteBit (.refl s)).wf h.wf, congrArg (fun e : Engines => (atD e.det ch Detect.reset).work) hset.engines,
    fun a ha _ he => hregs ha he, State.num_of_rd (hregs (inRead (u := 3) (o := 0x18)) ?_), fun j hj => hset.bits j (.inr hj)⟩
  exact chReg_ne (u := 3) (o := 0x18) (u' := 3) (o' := 0x24) (by decide)

/-! ### Counters and status -/

theorem Reads.detStatus (h : Reads d ch s₀ s) : Reads d ch s₀ (s.detStatus ch) :=
  ((h.put (offRead (u := 3) (o := 0x20))).put (offRead (u := 3) (o := 0x20))).put (offRead (u := 4) (o := 0x4))

/-- An offset of the counters of DETECT. -/
theorem offRead_count {o : Nat} (h : 0x400 ≤ o ∧ o < 0x1000000) : isReadReg ch (chReg ch 3 o) = false := by
  refine offRead ⟨⟨by omega, h.2⟩, ?_⟩
  simp only [isReadOff, decide_eq_false_iff_not]
  omega

theorem Reads.detCount {i : Nat} (h : Reads d ch s₀ s) (hi : i < 4) : Reads d ch s₀ (s.detCount ch i) :=
  h.countSat (offRead_count (by omega)) (offRead_count (by decide))

theorem Reads.countSect {i k : Nat} (h : Reads d ch s₀ s) (hi : i < 18 := by decide) : Reads d ch s₀ (s.countSect ch i k) :=
  h.count48 (offRead_count (by omega)) (offRead_count (by omega))

theorem Reads.lastAttempt {iter syn : Nat} (h : Reads d ch s₀ s) : Reads d ch s₀ (s.lastAttempt ch iter syn) :=
  (h.put (offRead (u := 4) (o := 0x4))).put (offRead (u := 4) (o := 0x4))

theorem Reads.timingLoss (h : Reads d ch s₀ s) : Reads d ch s₀ (s.timingLoss ch) := (h.noteBit (by decide)).detCount (by decide)

end

end Sys2Proof.Machine

namespace Sys2Proof.Machine

section
variable {s₀ s t : State} {ch : Ch} {d : Bool}

/-! ### Reading a fragment (R203-R218) -/

/-- A register of AFE or ADC. -/
theorem offRead_front {u o : Nat} (h : (u = 1 ∨ u = 2) ∧ o < 0x1000000) : isReadReg ch (chReg ch u o) = false := by
  obtain ⟨hu, ho⟩ := h
  refine offRead ⟨⟨by omega, ho⟩, ?_⟩
  simp only [isReadOff, decide_eq_false_iff_not]
  omega

theorem reader_lt {r : Nat} {p : Nat → Bool} (h : r ∈ (List.range 3).filter p) : r < 3 := List.mem_range.1 (List.mem_filter.1 h).1

theorem Reads.acquireGain {p : ReadPath} {amps : List Nat} (h : Reads d ch s₀ s) : Reads d ch s₀ (s.acquireGain ch p amps) := by
  refine .foldl (h.modDet fun _ => rfl) fun s h r hr => ?_
  have hlt := reader_lt hr
  have hgain (x : Nat) : Reads d ch s₀ (s.setNum (AFE_GAIN ch r) x) := h.setNum (offRead_front (u := 1) (by omega))
  have hvga (x : Nat) {s1 : State} (h1 : Reads d ch s₀ s1) : Reads d ch s₀ (s1.setNum (AFE_VGA ch r) x) :=
    h1.setNum (offRead_front (u := 1) (by omega))
  extract_lets a g s1 s2
  have h2 : Reads d ch s₀ s2 := .ite (hgain _) (hvga _ (hgain _))
  exact .ite (h2.wr (offRead_front (u := 1) (by omega))) h2

theorem Reads.trackGain {p : ReadPath} (h : Reads d ch s₀ s) : Reads d ch s₀ (s.trackGain ch p) := by
  refine .ite (.foldl h fun s h r hr => ?_) h
  have hlt := reader_lt hr
  split
  next e =>
    exact ((Reads.of_snd e h.draw).setNum (offRead_front (u := 1) (by omega))).setNum (offRead_front (u := 1) (by omega))

theorem clippedIn_lt {adc : List (List Int)} {a : Nat} (h : a ∈ clippedIn adc) : a < 3 := reader_lt h

theorem Reads.noteClips {l : List Nat} (h : Reads d ch s₀ s) (hl : ∀ a ∈ l, a < 3) : Reads d ch s₀ (s.noteClips ch l) := by
  refine .foldl h fun s h a ha => ?_
  have hlt := hl a ha
  exact (h.wr (offRead_front (u := 2) (by omega))).countSat (offRead_front (u := 2) (by omega)) (offRead_front (u := 2) (by omega))

/-- A register that shows an adapted tap. -/
theorem Reads.putTap {o : Nat} {taps : List (List Rat)} {r i : Nat} (h : Reads d ch s₀ s) (ho : 0x400 ≤ o ∧ o < 0x1000000) :
    Reads d ch s₀ (s.putTap (chReg ch 3 o) taps r i) :=
  h.setNum (offRead_count ho)

theorem Reads.adaptPath {p : PathSet} {tim : Tim} {ys : List Int} {bits : List Bool} {acqEnd : Nat} (h : Reads d ch s₀ s) :
    Reads d ch s₀ (s.adaptPath ch p tim ys bits acqEnd) := by
  unfold State.adaptPath
  extract_lets errs s1 s2 s3
  have h1 : Reads d ch s₀ s1 := .setNum (h.modDet fun _ => rfl) (offRead_count (o := 0x1200) (by decide))
  have h3 : Reads d ch s₀ s3 := by
    refine .foldl (h1.modDet fun _ => rfl) fun s h i hi => ?_
    have hlt := List.mem_range.1 hi
    exact (h.putTap (by omega)).putTap (by omega)
  refine .ite (.foldl h3 fun s h i hi => ?_) h1
  have hlt := List.mem_range.1 hi
  exact (h.putTap (by omega)).putTap (by omega)

theorem Reads.leavePath {path : ReadPath} {f : FragRead} (h : Reads d ch s₀ s) : Reads d ch s₀ (s.leavePath ch path f) :=
  .trackGain (.adaptPath (.ite h.timingLoss h))

theorem Reads.readHead {path : ReadPath} {r : RdSec} {g : ReadSig} (h : Reads d ch s₀ s) : Reads d ch s₀ (s.readHead ch path r g).2 :=
  (h.acquireGain.noteClips fun _ ha => clippedIn_lt ha).leavePath

theorem Reads.readFrag {path : ReadPath} {r : RdSec} {coast : Nat} {g : ReadSig} (h : Reads d ch s₀ s) :
    Reads d ch s₀ (s.readFrag ch path r coast g).2 :=
  (h.noteClips fun _ ha => clippedIn_lt (List.mem_filter.1 ha).1).leavePath

theorem Reads.revRead {path : ReadPath} {r : RdSec} {v : RevRead} (h : Reads d ch s₀ s) : Reads d ch s₀ (s.revRead ch path r v).2 :=
  .foldl_snd h.readHead fun _ h _ => h.readFrag

/-! ### Decoding and completing (R212-R223, R231) -/

theorem Reads.deliver {r : RdSec} {status : Nat} {info : List Byte} (h : Reads d ch s₀ s) : Reads d ch s₀ (s.deliver ch r status info) :=
  .ite h.csWrite h

theorem Reads.softOut {r : RdSec} {bytes : List Byte} (h : Reads d ch s₀ s) : Reads d ch s₀ (s.softOut ch r bytes).2 := by
  unfold State.softOut
  split
  · exact h
  · exact h.csWrite

theorem Reads.softOf {r : RdSec} {a : Attempt} (h : Reads d ch s₀ s) : Reads d ch s₀ (s.softOf ch r a).2 := h.softOut

theorem ringLen_le (len : Nat) : ringLen len ≤ 1024 := by
  have hexp : (if 4 ≤ len ∧ len ≤ 10 then len else 4) ≤ 10 := by split <;> omega
  exact (Nat.pow_le_pow_right (by decide) hexp).trans (by decide)

theorem ringLen_pos (len : Nat) : 0 < ringLen len := Nat.two_pow_pos _

theorem State.detOf_setNum (s : State) (a x n : Nat) : (s.setNum a x).detOf n = s.detOf n := rfl

/-- CQ_HEAD moves on by one entry. -/
theorem Reads.advance (h : Reads false ch s t) : Reads true ch s (t.setNum (CQ_HEAD ch) (s.cqNext ch)) := by
  have herr : (t.setNum (CQ_HEAD ch) (s.cqNext ch)).num (DET_ERR ch) = t.num (DET_ERR ch) :=
    State.num_setNum_other _ _ (chReg_ne (u := 3) (o := 0x24) (u' := 3) (o' := 0x18) (by decide))
  refine ⟨h.wf.setNum _ _, ?_, fun a ha hc he => ?_, ?_, fun j hj => ?_⟩
  · rw [State.detOf_setNum]
    exact h.work
  · rw [State.setNum, State.rd_wr_other _ _ hc]
    exact h.regs a ha hc he
  · have hlt : s.cqNext ch < 2 ^ 32 := (Nat.mod_lt _ (ringLen_pos _)).trans_le ((ringLen_le _).trans (by decide))
    rw [State.num_setNum_self h.wf hlt, if_pos rfl]
  · rw [herr]
    exact h.faults j hj

/-- A completion's 16 bytes stand in CH SRAM, which holds no register. -/
theorem Reads.readDone {r : RdSec} {status : Nat} {e : RdEnd} (h : Reads false ch s₀ s) : Reads true ch s₀ (s.readDone ch r status e) :=
  h.trans (Reads.advance (Reads.refl h.wf).csWrite).raise

theorem Reads.streamDone {r : RdSec} {status : Nat} {e : RdEnd} (h : Reads false ch s₀ s) : Reads true ch s₀ (s.streamDone ch r status e) := by
  have h1 : Reads true ch s₀ ((s.readDone ch r status e).countSect ch 17 e.corr) := h.readDone.countSect
  have hslip : (if r.slip = 0 then 1 else 2) < 18 := by split <;> decide
  exact .ite (h1.countSect hslip) (.ite h1.countSect (.ite h1.countSect (.ite h1.countSect (.ite h1.countSect (.ite h1.countSect h1)))))

/-- An attempt makes no more iterations than its limit. -/
theorem attemptGo_iter_le {lim : DecodeLimits} {llr : List Int} {fuel : Nat} {ws : List Nat} {st : List Int × List (List Int)} :
    (attemptGo lim llr fuel ws st).iter ≤ ws.length + fuel := by
  induction fuel generalizing ws st with
  | zero => exact Nat.le_refl _
  | succ fuel ih =>
    unfold attemptGo
    extract_lets st1 w i out
    have hout (b : Bool) : (out b).iter ≤ ws.length + (fuel + 1) := Nat.add_le_add_left (Nat.le_add_left 1 fuel) _
    split
    · exact hout _
    split
    · exact hout _
    split
    · exact hout _
    · refine ih.trans ?_
      simp only [List.length_cons]
      omega

theorem decodeAttempt_iter_le {lim : DecodeLimits} {llr : List Int} : (decodeAttempt lim llr).iter ≤ lim.limit := by
  have h := attemptGo_iter_le (lim := lim) (llr := llr) (fuel := lim.limit) (ws := []) (st := (llr, List.replicate checkLen []))
  rwa [List.length_nil, Nat.zero_add] at h

theorem attemptOn_iter_le {n : Nat} {path : ReadPath} {paw : Nat} {ps : List (Piece × List Int)} {limit frag : Nat} {x : Int} :
    (s.attemptOn n path paw ps limit frag x).iter ≤ limit :=
  decodeAttempt_iter_le

theorem iterLimit_le (v : Nat) : iterLimit v ≤ 64 := by
  unfold iterLimit
  split <;> omega

theorem otfLimit_le (s : State) (n : Nat) : s.otfLimit n ≤ 64 := by
  have h := iterLimit_le (s.get (LDPC_CFG_ITER_OTF n))
  unfold State.otfLimit
  extract_lets i
  split
  · exact (Nat.min_le_right _ _).trans (by decide)
  · exact h

theorem slotAttempt_iter_le (s : State) (n : Nat) (r : RdSec) : (s.slotAttempt n (s.otfLimit n) r).iter ≤ 64 :=
  attemptOn_iter_le.trans (otfLimit_le s n)

theorem searchSlip_iter_le {n : Nat} {path : ReadPath} {paw : Nat} {ps : List (Piece × List Int)} {a : Attempt} (h : a.iter ≤ 64) :
    (s.searchSlip n path paw ps a).2.iter ≤ 64 := by
  unfold State.searchSlip
  extract_lets lim tries best last
  have htry {e : (Nat × Int) × Attempt} (he : e ∈ tries) : e.2.iter ≤ 64 := by
    obtain ⟨x, -, rfl⟩ := List.mem_map.1 he
    exact attemptOn_iter_le.trans (iterLimit_le _)
  split
  next e => exact htry (List.mem_of_find?_eq_some e)
  next =>
    have hlast : last.iter ≤ 64 := by
      unfold last
      rw [List.getLastD_eq_getLast?]
      cases e : (tries.map (·.2)).getLast? with
      | none => exact h
      | some b =>
        obtain ⟨x, hx, rfl⟩ := List.mem_map.1 (List.mem_of_getLast? e)
        exact htry hx
    exact hlast

theorem Reads.attemptEnd {r : RdSec} {a : Attempt} {slipSkip : Bool} (h : Reads false ch s₀ s) (ha : a.iter ≤ 64) :
    Reads true ch s₀ (s.attemptEnd ch r a slipSkip) := by
  have hist (o : Nat) (ho : 0x200 ≤ o ∧ o < 0x1000) : isReadReg ch (chReg ch 4 o) = false := by
    refine offRead ⟨⟨by decide, by omega⟩, ?_⟩
    simp only [isReadOff, decide_eq_false_iff_not]
    omega
  exact .ite (.streamDone (.deliver (h.lastAttempt.count48 (hist _ (by omega)) (hist _ (by omega))))) (.streamDone h.lastAttempt.softOf)

/-! ### What `Reads` says of the queues, the flags and DETECT's work -/

theorem Reads.get (h : Reads d ch s t) {f : Fld} {u o : Nat} (ha : f.addr = chReg ch u o)
    (hu : ((u < 32 ∧ o < 0x1000000) ∧ isReadOff u o = true) ∧ (u = 3 → o ≠ 0x18 ∧ o ≠ 0x24) := by decide) : t.get f = s.get f :=
  State.get_of_rd (ha ▸ h.rd hu)

theorem Reads.tail (h : Reads d ch s t) : t.num (DQ_TAIL ch) = s.num (DQ_TAIL ch) := State.num_of_rd (h.rd (u := 3) (o := 0x10))

theorem Reads.of_work {β : Type} (h : Reads d ch s t) (f : Detect → β) (hf : ∀ x : Detect, f x.work = f x) :
    f (t.detOf ch) = f (s.detOf ch) := by
  rw [← hf, h.work, hf]

theorem Reads.gate (h : Reads d ch s t) : (t.detOf ch).gate = (s.detOf ch).gate := h.of_work Detect.gate fun _ => rfl

theorem Reads.op (h : Reads d ch s t) : (t.detOf ch).op = (s.detOf ch).op := h.of_work Detect.op fun _ => rfl

theorem Reads.slots (h : Reads d ch s t) : (t.detOf ch).slots = (s.detOf ch).slots := h.of_work Detect.slots fun _ => rfl

theorem Reads.held (h : Reads d ch s t) : (t.detOf ch).held = (s.detOf ch).held := h.of_work Detect.held fun _ => rfl

theorem Reads.rcv (h : Reads d ch s t) : (t.detOf ch).rcv = (s.detOf ch).rcv := h.of_work Detect.rcv fun _ => rfl

end

end Sys2Proof.Machine

namespace Sys2Proof.Machine

section
variable {s t : State} {ch : Ch} {n : Nat}

/-! ### READ takes its action and a descriptor (R221, R430) -/

theorem State.dqReady_congr (h : ∀ o, o < 0x20 → t.rd (chReg n 3 o) = s.rd (chReg n 3 o)) : t.dqReady n = s.dqReady n := by
  have hlen : t.get (DQ_CFG_LEN n) = s.get (DQ_CFG_LEN n) := State.get_of_rd (h 8 (by decide))
  have hhead : t.num (DQ_HEAD n) = s.num (DQ_HEAD n) := State.num_of_rd (h 0xC (by decide))
  have htail : t.num (DQ_TAIL n) = s.num (DQ_TAIL n) := State.num_of_rd (h 0x10 (by decide))
  rw [State.dqReady, hlen, hhead, htail, State.dqReady]

theorem State.cqRoom_congr (h : ∀ o, o < 0x20 → t.rd (chReg n 3 o) = s.rd (chReg n 3 o)) (hd : t.detOf n = s.detOf n) :
    t.cqRoom n = s.cqRoom n := by
  have hlen : t.get (CQ_CFG_LEN n) = s.get (CQ_CFG_LEN n) := State.get_of_rd (h 0x14 (by decide))
  have hhead : t.num (CQ_HEAD n) = s.num (CQ_HEAD n) := State.num_of_rd (h 0x18 (by decide))
  have htail : t.num (CQ_TAIL n) = s.num (CQ_TAIL n) := State.num_of_rd (h 0x1C (by decide))
  rw [State.cqRoom, hlen, hhead, htail, hd, State.cqRoom]

theorem State.rateOk_congr (hz : t.rd (DET_STAT n) = s.rd (DET_STAT n)) (hr : ∀ i, t.rd (DZ_RATE n i) = s.rd (DZ_RATE n i)) :
    t.rateOk n = s.rateOk n := by
  have hzone : t.get (DET_STAT_ZONE n) = s.get (DET_STAT_ZONE n) := State.get_of_rd hz
  have hrate (i : Nat) : t.num (DZ_RATE n i) = s.num (DZ_RATE n i) := State.num_of_rd (hr i)
  rw [State.rateOk, hzone, hrate, State.rateOk]

theorem popAction_rd {a : Nat} (s : State) (d pos : Nat) (ha : a ≠ LM_STAT n) : (s.popAction n d pos).rd a = s.rd a := by
  rw [State.popAction, State.lmStatus, State.rd_put_other (f := LM_STAT_AQ n) _ _ ha, State.rd_put_other (f := LM_STAT_WAIT n) _ _ ha]
  rfl

theorem popAction_rd_det (s : State) (d pos : Nat) {o : Nat} (ho : o < 0x1000000) : (s.popAction n d pos).rd (chReg n 3 o) = s.rd (chReg n 3 o) :=
  popAction_rd s d pos (chReg_ne (u' := 11) (o' := 4) (by omega))

theorem State.put_detOf (s : State) (f : Fld) (x m : Nat) : (s.put f x).detOf m = s.detOf m := rfl

theorem State.put_csBytes (s : State) (f : Fld) (x m a k : Nat) : (s.put f x).csBytes m a k = s.csBytes m a k := rfl

theorem popAction_detOf (s : State) (d pos : Nat) : (s.popAction n d pos).detOf n = s.detOf n := by
  rw [State.popAction, State.lmStatus, State.put_detOf, State.put_detOf]
  rfl

theorem popAction_csBytes (s : State) (d pos a k : Nat) : (s.popAction n d pos).csBytes n a k = s.csBytes n a k := by
  rw [State.popAction, State.lmStatus, State.put_csBytes, State.put_csBytes]
  rfl

theorem popAction_dqReady (s : State) (d pos : Nat) : (s.popAction n d pos).dqReady n = s.dqReady n :=
  State.dqReady_congr fun _ ho => popAction_rd_det s d pos (ho.trans (by decide))

theorem popAction_cqRoom (s : State) (d pos : Nat) : (s.popAction n d pos).cqRoom n = s.cqRoom n :=
  State.cqRoom_congr (fun _ ho => popAction_rd_det s d pos (ho.trans (by decide))) (popAction_detOf s d pos)

theorem popAction_det_en (s : State) (d pos : Nat) : (s.popAction n d pos).flag (DET_CTL_EN n) = s.flag (DET_CTL_EN n) :=
  State.flag_of_rd (popAction_rd_det s d pos (o := 0) (by decide))

/-- An action that leaves the queue leaves what reading goes by. -/
theorem Reads.popAction (h : s.Wf) (d pos : Nat) : Reads false ch s (s.popAction ch d pos) := by
  refine (Reads.refl h).kept (.popAction (.refl s)) (congrArg Detect.work (popAction_detOf s d pos)) fun a ha => popAction_rd s d pos ?_
  rintro rfl
  have hoff : isReadReg ch (LM_STAT ch) = false := offRead (u := 11) (o := 4)
  exact Bool.false_ne_true (hoff.symm.trans ha)

theorem passRead_of_none (h : (s.detOf n).op = none) (pos : Nat) : s.passRead n pos = s := by
  rw [State.passRead]
  simp only [h]

theorem passRead_of_shut (h : (s.detOf n).gate = false) (pos : Nat) : s.passRead n pos = s := by
  rw [State.passRead]
  cases (s.detOf n).op with
  | none => rfl
  | some r => exact if_neg fun e => Bool.false_ne_true (h.symm.trans e.1)

theorem endOpenRead_of_none (h : (s.detOf n).op = none) (pos : Nat) : s.endOpenRead n pos = s := by
  rw [State.endOpenRead, passRead_of_none h, State.abandonRead]
  simp only [h]

/-- READ's action has left the queue. -/
def State.readDue (s : State) (n pos : Nat) : State := s.popAction n 1 (s.actionAt n 1 pos)

/-- READ has its action and its descriptor. -/
def State.readTaken (s : State) (n pos : Nat) : State := ((s.readDue n pos).takeRead n).2

theorem readTaken_eq (s : State) (n pos : Nat) : s.readTaken n pos =
    (s.readDue n pos).setNum (DQ_TAIL n) ((s.num (DQ_TAIL n) % ringLen (s.get (DQ_CFG_LEN n)) + 1) % ringLen (s.get (DQ_CFG_LEN n))) := by
  have htail : (s.readDue n pos).num (DQ_TAIL n) = s.num (DQ_TAIL n) := State.num_of_rd (popAction_rd_det s 1 _ (o := 0x10) (by decide))
  have hlen : (s.readDue n pos).get (DQ_CFG_LEN n) = s.get (DQ_CFG_LEN n) := State.get_of_rd (popAction_rd_det s 1 _ (o := 8) (by decide))
  rw [State.readTaken, State.takeRead, htail, hlen]

theorem readTaken_wf (h : s.Wf) (n pos : Nat) : (s.readTaken n pos).Wf := by
  rw [readTaken_eq]
  exact ((Evolves.popAction (.refl s)).wf h).setNum _ _

theorem readTaken_tail (h : s.Wf) (n pos : Nat) : (s.readTaken n pos).num (DQ_TAIL n) =
    (s.num (DQ_TAIL n) % ringLen (s.get (DQ_CFG_LEN n)) + 1) % ringLen (s.get (DQ_CFG_LEN n)) := by
  have hw : (s.readDue n pos).Wf := (Evolves.popAction (.refl s)).wf h
  rw [readTaken_eq, State.num_setNum_self hw ((Nat.mod_lt _ (ringLen_pos _)).trans_le ((ringLen_le _).trans (by decide)))]

theorem readTaken_detOf (s : State) (n pos : Nat) : (s.readTaken n pos).detOf n = s.detOf n := by
  rw [readTaken_eq, State.detOf_setNum]
  exact popAction_detOf s 1 _

theorem readTaken_rd {o : Nat} (s : State) (n pos : Nat) (ho : o < 0x1000000 ∧ o ≠ 0x10) :
    (s.readTaken n pos).rd (chReg n 3 o) = s.rd (chReg n 3 o) := by
  obtain ⟨hlt, hne⟩ := ho
  have hd : chReg n 3 o ≠ DQ_TAIL n := chReg_ne (u' := 3) (o' := 0x10) (by omega)
  rw [readTaken_eq, State.setNum, State.rd_wr_other _ _ hd]
  exact popAction_rd_det s 1 _ hlt

theorem readTaken_cqNext (s : State) (n pos : Nat) : (s.readTaken n pos).cqNext n = s.cqNext n := by
  have hhead : (s.readTaken n pos).num (CQ_HEAD n) = s.num (CQ_HEAD n) := State.num_of_rd (readTaken_rd s n pos (o := 0x18) (by decide))
  have hlen : (s.readTaken n pos).get (CQ_CFG_LEN n) = s.get (CQ_CFG_LEN n) := State.get_of_rd (readTaken_rd s n pos (o := 0x14) (by decide))
  rw [State.cqNext, hhead, hlen, State.cqNext]

theorem readTaken_rateOk (s : State) (n pos : Nat) : (s.readTaken n pos).rateOk n = s.rateOk n := by
  have hrate (i : Nat) : (s.readTaken n pos).rd (DZ_RATE n i) = s.rd (DZ_RATE n i) := by
    have hd : DZ_RATE n i ≠ DQ_TAIL n := chReg_ne (u' := 3) (o' := 0x10) (by omega)
    rw [readTaken_eq, State.setNum, State.rd_wr_other _ _ hd]
    exact popAction_rd s 1 _ (chReg_ne (u' := 11) (o' := 4) (by omega))
  exact State.rateOk_congr (readTaken_rd s n pos (o := 0x20) (by decide)) hrate

/-- The descriptor READ takes. -/
def State.readDesc (s : State) (n : Nat) : RdSec :=
  rdSec (s.csBytes n (32 * s.get (DQ_CFG_BASE n) + 32 * (s.num (DQ_TAIL n) % ringLen (s.get (DQ_CFG_LEN n)))) 32)

theorem takeRead_readDue (s : State) (n pos : Nat) : (s.readDue n pos).takeRead n = (s.readDesc n, s.readTaken n pos) := by
  have htail : (s.readDue n pos).num (DQ_TAIL n) = s.num (DQ_TAIL n) := State.num_of_rd (popAction_rd_det s 1 _ (o := 0x10) (by decide))
  have hlen : (s.readDue n pos).get (DQ_CFG_LEN n) = s.get (DQ_CFG_LEN n) := State.get_of_rd (popAction_rd_det s 1 _ (o := 8) (by decide))
  have hbase : (s.readDue n pos).get (DQ_CFG_BASE n) = s.get (DQ_CFG_BASE n) := State.get_of_rd (popAction_rd_det s 1 _ (o := 8) (by decide))
  have hmem (a k : Nat) : (s.readDue n pos).csBytes n a k = s.csBytes n a k := popAction_csBytes s 1 _ a k
  rw [State.readTaken, State.takeRead, htail, hlen, hbase, hmem, State.readDesc]

end

end Sys2Proof.Machine

namespace Sys2Proof.Machine

section
variable {s t : State} {ch : Ch} {n : Nat} {late : Bool} {pos : Nat} {g : ReadSig}

/-! ### READ (R198, R214, R216, R221) -/

theorem Reads.readDue (h : s.Wf) (pos : Nat) : Reads false ch s (s.readDue ch pos) := .popAction h 1 _

/-- What a step of the die's does before SLOT_BUSY and its like follow. -/
theorem Reads.status (h : t.Wf) : Reads false ch t (t.detStatus ch) := (Reads.refl h).detStatus

/-- A READ that finds no descriptor. -/
theorem dcmdRead_of_none (hen : s.flag (DET_CTL_EN ch) = true) (hop : (s.detOf ch).op = none) (hdq : s.dqReady ch = false) :
    dcmdRead ch late pos g s = ((s.readDue ch pos).noteBit (detErr ch) 4).detCount ch 3 := by
  have hop1 : ((s.readDue ch pos).detOf ch).op = none := by
    rw [State.readDue, popAction_detOf]
    exact hop
  have hend (p : Nat) : (s.readDue ch pos).endOpenRead ch p = s.readDue ch pos := endOpenRead_of_none hop1 p
  have hen1 : (s.readDue ch pos).flag (DET_CTL_EN ch) = true := by rw [State.readDue, popAction_det_en, hen]
  have hdq1 : (s.readDue ch pos).dqReady ch = false := by rw [State.readDue, popAction_dqReady, hdq]
  rw [State.readDue] at hend hen1 hdq1 ⊢
  rw [dcmdRead]
  simp only [hen1, hend, hdq1, Bool.not_true, Bool.not_false, Bool.true_or, Bool.false_eq_true, if_true, if_false]

/-- The head of the sector that READ takes is read. -/
def State.headRead (s : State) (n pos : Nat) (g : ReadSig) : RdSec × State :=
  (((s.readTaken n pos).decodeCut n).countSect n 0 1).readHead n ReadPath.plain (s.readDesc n) g

/-- What of its marks the sector's head misses is counted (R231). -/
def State.countMarks (s : State) (n : Nat) (r : RdSec) : State :=
  let s := if r.sm1 then s else s.countSect n 3 1
  let s := if r.sm2 then s else s.countSect n 4 1
  if r.dist then s.countSect n 5 1 else s

/-- A READ that takes a descriptor. -/
theorem dcmdRead_of_ready (hen : s.flag (DET_CTL_EN ch) = true) (hop : (s.detOf ch).op = none) (hdq : s.dqReady ch = true)
    (hcq : s.cqRoom ch = true) : dcmdRead ch late pos g s =
      if s.rateOk ch = false then ((s.readTaken ch pos).noteBit (detErr ch) 6).streamDone ch (s.readDesc ch) rsAbandoned RdEnd.plain
      else if late then (s.readTaken ch pos).streamDone ch (s.readDesc ch) rsAbandoned RdEnd.plain
      else
        let (r, u) := s.headRead ch pos g
        if r.sm1 || r.sm2 then
          (u.countMarks ch r).modDet ch (fun d => { d with
            op := some { r with start := s.actionAt ch 1 pos, len := (u.countMarks ch r).preLen ch + 37680 }, gate := true })
        else (u.countMarks ch r).streamDone ch r rsSyncMiss RdEnd.plain := by
  have hop1 : ((s.readDue ch pos).detOf ch).op = none := by
    rw [State.readDue, popAction_detOf]
    exact hop
  have hend (p : Nat) : (s.readDue ch pos).endOpenRead ch p = s.readDue ch pos := endOpenRead_of_none hop1 p
  have hen1 : (s.readDue ch pos).flag (DET_CTL_EN ch) = true := by rw [State.readDue, popAction_det_en, hen]
  have hdq1 : (s.readDue ch pos).dqReady ch = true := by rw [State.readDue, popAction_dqReady, hdq]
  have hcq1 : (s.readDue ch pos).cqRoom ch = true := by rw [State.readDue, popAction_cqRoom, hcq]
  have htake := takeRead_readDue s ch pos
  have hrate := readTaken_rateOk s ch pos
  rw [State.readDue] at hend hen1 hdq1 hcq1 htake
  rw [dcmdRead, State.headRead]
  simp only [hen1, hend, hdq1, hcq1, htake, hrate, Bool.not_true, Bool.or_false, Bool.false_eq_true, if_false, Bool.not_eq_true']
  rfl

theorem decodeCut_of_lt (h : (s.detOf n).slots.length < 5) : s.decodeCut n = s := by
  unfold State.decodeCut
  split
  next r rest e =>
    rw [e, List.length_cons] at h
    exact if_neg (by omega)
  next => rfl

theorem Reads.countMarks {s₀ : State} {d : Bool} {r : RdSec} (h : Reads d ch s₀ s) : Reads d ch s₀ (s.countMarks ch r) := by
  unfold State.countMarks
  extract_lets s1 s2
  have h1 : Reads d ch s₀ s1 := .ite h h.countSect
  have h2 : Reads d ch s₀ s2 := .ite h1 h1.countSect
  exact .ite h2.countSect h2

theorem Reads.headRead (h : s.Wf) (hs : (s.detOf ch).slots.length < 5) (pos : Nat) (g : ReadSig) :
    Reads false ch (s.readTaken ch pos) (s.headRead ch pos g).2 := by
  have hs1 : ((s.readTaken ch pos).detOf ch).slots.length < 5 := by
    rw [readTaken_detOf]
    exact hs
  rw [State.headRead, decodeCut_of_lt hs1]
  exact (Reads.refl (readTaken_wf h ch pos)).countSect.readHead

/-- An invalid rate or a moved action completes the sector (R194, R430). -/
theorem Reads.dcmdRead_spoilt (h : s.Wf) (hen : s.flag (DET_CTL_EN ch) = true) (hop : (s.detOf ch).op = none) (hdq : s.dqReady ch = true)
    (hcq : s.cqRoom ch = true) (hbad : s.rateOk ch = false ∨ late = true) :
    Reads true ch (s.readTaken ch pos) (dcmdRead ch late pos g s) ∧
      (s.rateOk ch = false → bitOf ((dcmdRead ch late pos g s).num (DET_ERR ch)) 6 = true) := by
  have hw := Reads.refl (ch := ch) (readTaken_wf h ch pos)
  rw [dcmdRead_of_ready hen hop hdq hcq]
  cases hr : s.rateOk ch with
  | false =>
    have hnote := hw.noteBit (bit := 6) (by decide)
    have hdone : Reads true ch ((s.readTaken ch pos).noteBit (detErr ch) 6) _ :=
      (Reads.refl hnote.wf).streamDone (r := s.readDesc ch) (status := rsAbandoned) (e := RdEnd.plain)
    rw [if_pos rfl]
    exact ⟨hnote.trans hdone, fun _ => hdone.faults 6 ((detErrBit_set hw.wf (by decide)).bits 6 (.inl rfl))⟩
  | true =>
    have hlate : late = true := hbad.resolve_left fun e => Bool.false_ne_true (e.symm.trans hr)
    rw [if_neg (Bool.false_ne_true ·.symm), if_pos hlate]
    exact ⟨hw.streamDone, fun e => absurd e (Bool.false_ne_true ·.symm)⟩

end

end Sys2Proof.Machine

namespace Sys2Proof.Machine

section
variable {s t : State} {ch : Ch} {n : Nat} {late : Bool} {pos : Nat} {g : ReadSig} {r : RdSec}

theorem headRead_fst (s : State) (n pos : Nat) (g : ReadSig) : (s.headRead n pos g).1.frags = 1 ∧ (s.headRead n pos g).1.id = (s.readDesc n).id :=
  ⟨rfl, rfl⟩

/-- A READ in order frames its sector, or completes it for want of a mark (R216, R221). -/
theorem dcmdRead_framed (h : s.Wf) (hen : s.flag (DET_CTL_EN ch) = true) (hop : (s.detOf ch).op = none) (hs : (s.detOf ch).slots.length < 5)
    (hdq : s.dqReady ch = true) (hcq : s.cqRoom ch = true) (hr : s.rateOk ch = true) :
    (∃ (u : State) (x : RdSec), Reads false ch (s.readTaken ch pos) u ∧
      (x.start = s.actionAt ch 1 pos ∧ x.frags = 1 ∧ (x.sm1 || x.sm2) = true ∧ x.id = (s.readDesc ch).id) ∧
      dcmdRead ch false pos g s = u.modDet ch (fun d => { d with op := some x, gate := true })) ∨
    Reads true ch (s.readTaken ch pos) (dcmdRead ch false pos g s) := by
  have hread := Reads.headRead h hs pos g
  obtain ⟨hfrags, hid⟩ := headRead_fst s ch pos g
  rw [dcmdRead_of_ready hen hop hdq hcq, if_neg (fun e => Bool.false_ne_true (e.symm.trans hr)), if_neg Bool.false_ne_true]
  generalize s.headRead ch pos g = p at hread hfrags hid
  obtain ⟨x, u⟩ := p
  by_cases hm : (x.sm1 || x.sm2) = true
  · refine .inl ⟨u.countMarks ch x, { x with start := s.actionAt ch 1 pos, len := (u.countMarks ch x).preLen ch + 37680 }, hread.countMarks,
      ⟨rfl, hfrags, hm, hid⟩, ?_⟩
    exact if_pos hm
  · have hdone : Reads true ch (s.readTaken ch pos) ((u.countMarks ch x).streamDone ch x rsSyncMiss RdEnd.plain) := hread.countMarks.streamDone
    refine .inr ?_
    simp only [hm, Bool.false_eq_true, if_false]
    exact hdone

/-! ### READ_CONT (R196, R198, R430) -/

/-- READ_CONT's action has left the queue. -/
def State.contDue (s : State) (n pos : Nat) : State := s.popAction n 2 (s.actionAt n 2 pos)

/-- The sector's further fragment is read. -/
def State.contRead (s : State) (n pos : Nat) (r : RdSec) (g : ReadSig) : RdSec × State :=
  (s.contDue n pos).readFrag n ReadPath.plain { r with fmMiss := false } ((s.contDue n pos).wedgeBits n + s.actionAt n 2 pos - r.start) g

theorem contRead_fst (s : State) (n pos : Nat) (r : RdSec) (g : ReadSig) : (s.contRead n pos r g).1.frags = r.frags + 1 ∧
    (s.contRead n pos r g).1.id = r.id ∧ (s.contRead n pos r g).1.len = r.len ∧ (s.contRead n pos r g).1.pieces.length = r.pieces.length + 1 :=
  ⟨rfl, rfl, rfl, List.length_append⟩

theorem dcmdReadCont_of_open (hen : s.flag (DET_CTL_EN ch) = true) (hop : (s.detOf ch).op = some r) (hg : (s.detOf ch).gate = false) :
    dcmdReadCont ch late pos g s =
      if 3 ≤ r.frags then ((s.contDue ch pos).noteBit (detErr ch) 5).abandonRead ch
      else if late then (s.contDue ch pos).abandonRead ch
      else
        let (x, u) := s.contRead ch pos r g
        let v := if x.fmMiss then u.countSect ch 7 1 else u
        v.modDet ch (fun d => { d with
          op := some { x with fmMiss := r.fmMiss || x.fmMiss, start := s.actionAt ch 2 pos, len := x.len + 56 }, gate := true }) := by
  have hdet : (s.contDue ch pos).detOf ch = s.detOf ch := popAction_detOf s 2 _
  have hgate : ((s.contDue ch pos).detOf ch).gate = false := by rw [hdet, hg]
  have hpass (p : Nat) : (s.contDue ch pos).passRead ch p = s.contDue ch pos := passRead_of_shut hgate p
  have hop1 : ((s.contDue ch pos).detOf ch).op = some r := by rw [hdet, hop]
  have hen1 : (s.contDue ch pos).flag (DET_CTL_EN ch) = true := by rw [State.contDue, popAction_det_en, hen]
  rw [State.contDue] at hpass hop1 hen1
  rw [dcmdReadCont, State.contRead, State.contDue]
  simp only [hpass, hen1, hop1, Bool.not_true, Bool.false_eq_true, if_false]

theorem dcmdReadCont_goes_on (h : s.Wf) (hen : s.flag (DET_CTL_EN ch) = true) (hop : (s.detOf ch).op = some r) (hg : (s.detOf ch).gate = false)
    (hf : r.frags < 3) : ∃ (u : State) (x : RdSec), u.Wf ∧
      (x.id = r.id ∧ x.frags = r.frags + 1 ∧ x.start = s.actionAt ch 2 pos ∧ x.len = r.len + 56 ∧ x.pieces.length = r.pieces.length + 1) ∧
      dcmdReadCont ch false pos g s = u.modDet ch (fun d => { d with op := some x, gate := true }) := by
  have hdue : Reads false ch s (s.contDue ch pos) := .popAction h 2 _
  have hread : Reads false ch s (s.contRead ch pos r g).2 := hdue.readFrag
  obtain ⟨hfrags, hid, hlen, hpieces⟩ := contRead_fst s ch pos r g
  rw [dcmdReadCont_of_open hen hop hg, if_neg (Nat.not_le_of_lt hf), if_neg Bool.false_ne_true]
  generalize s.contRead ch pos r g = p at hread hfrags hid hlen hpieces
  obtain ⟨x, u⟩ := p
  have hv : Reads false ch s (if x.fmMiss then u.countSect ch 7 1 else u) := .ite hread.countSect hread
  exact ⟨_, { x with fmMiss := r.fmMiss || x.fmMiss, start := s.actionAt ch 2 pos, len := x.len + 56 }, hv.wf,
    ⟨hid, hfrags, rfl, congrArg (· + 56) hlen, hpieces⟩, rfl⟩

/-- The open sector completes ABANDONED, and its gate closes. -/
theorem abandonRead_of_open (h : s.Wf) (hop : (s.detOf ch).op = some r) : ∃ u, Reads true ch s u ∧
    s.abandonRead ch = u.modDet ch (fun d => { d with op := none, gate := false }) := by
  refine ⟨(s.readDone ch r rsAbandoned RdEnd.plain).countSect ch 11 1, (Reads.refl h).readDone.countSect, ?_⟩
  rw [State.abandonRead]
  simp only [hop]

/-- A fourth fragment completes the sector ABANDONED (R198). -/
theorem dcmdReadCont_fourth (h : s.Wf) (hen : s.flag (DET_CTL_EN ch) = true) (hop : (s.detOf ch).op = some r) (hg : (s.detOf ch).gate = false)
    (hf : 3 ≤ r.frags) : ∃ u, Reads true ch s u ∧ bitOf (u.num (DET_ERR ch)) 5 = true ∧
      dcmdReadCont ch late pos g s = u.modDet ch (fun d => { d with op := none, gate := false }) := by
  have hdue : Reads false ch s (s.contDue ch pos) := .popAction h 2 _
  have hnote : Reads false ch s ((s.contDue ch pos).noteBit (detErr ch) 5) := hdue.noteBit (by decide)
  obtain ⟨u, hu, e⟩ := abandonRead_of_open hnote.wf (hnote.op.trans hop)
  refine ⟨u, hnote.trans hu, hu.faults 5 ((detErrBit_set hdue.wf (by decide)).bits 5 (.inl rfl)), ?_⟩
  rw [dcmdReadCont_of_open hen hop hg, if_pos hf, e]

/-! ### Decoding and slip search (R212, R219, R220) -/

/-- An attempt goes by DETECT's frequency and taps, not by its slots. -/
theorem pathSet_modDet (s : State) (path : ReadPath) {f : Detect → Detect} (hf : ∀ d : Detect, (f d).freq = d.freq ∧ (f d).taps = d.taps) :
    (s.modDet ch f).pathSet ch path = s.pathSet ch path := by
  obtain ⟨hfreq, htaps⟩ := hf (s.detOf ch)
  have hd := State.detOf_modDet s ch f
  have hreg (q i : Nat) : (s.modDet ch f).tapReg ch q i = s.tapReg ch q i := rfl
  have htap (q : Nat) : (s.modDet ch f).tapOf ch q = s.tapOf ch q := by
    funext i
    rw [State.tapOf, State.tapOf, hreg, hd, htaps]
  simp only [State.pathSet, htap, hd, hfreq]
  rfl

theorem slotAttempt_modDet (s : State) (r : RdSec) {f : Detect → Detect} (hf : ∀ d : Detect, (f d).freq = d.freq ∧ (f d).taps = d.taps) :
    (s.modDet ch f).slotAttempt ch ((s.modDet ch f).otfLimit ch) r = s.slotAttempt ch (s.otfLimit ch) r := by
  rw [State.slotAttempt, State.attemptOn, pathSet_modDet s _ hf]
  rfl

end

end Sys2Proof.Machine

namespace Sys2Proof.Machine

section
variable {s t : State} {ch : Ch} {n : Nat} {r : RdSec} {rest : List RdSec}

/-- The oldest codeword leaves the stream slots. -/
def State.slotTaken (s : State) (n : Nat) (rest : List RdSec) : State := s.modDet n (fun d => { d with slots := rest })

theorem slotTaken_wf (h : s.Wf) (n : Nat) (rest : List RdSec) : (s.slotTaken n rest).Wf := (Evolves.modDet (.refl s)).wf h

theorem slotTaken_detOf (s : State) (ch : Ch) (rest : List RdSec) : (s.slotTaken ch rest).detOf ch = { s.detOf ch with slots := rest } :=
  State.detOf_modDet s ch _

/-- Whether the attempt on a slot suspects its framing, with slip search on (R212, R219). -/
def State.suspected (s : State) (n : Nat) (r : RdSec) : Bool := (s.slotAttempt n (s.otfLimit n) r).slip && s.flag (DET_CTL_SLIP_EN n)

/-- A codeword with framing suspected, and the held slot free of one and of a recovery (R219). -/
theorem suspected_free_iff : (s.suspected ch r && (s.detOf ch).held.isNone && (s.detOf ch).rcv.isNone) = true ↔
    s.suspected ch r = true ∧ ¬((s.detOf ch).held.isSome ∨ (s.detOf ch).rcv.isSome) := by
  simp only [Bool.and_eq_true, not_or, Option.isNone_iff_eq_none, Option.not_isSome_iff_eq_none, and_assoc]

/-- The decoder takes the oldest slot (R212, R219, R220). -/
theorem decodeEnd_of_slot (hs : (s.detOf ch).slots = r :: rest) : decodeEnd ch s =
    if s.suspected ch r then
      if (s.detOf ch).held.isSome ∨ (s.detOf ch).rcv.isSome then
        (((s.slotTaken ch rest).noteBit (detErr ch) 2).detCount ch 2).attemptEnd ch r (s.slotAttempt ch (s.otfLimit ch) r) true
      else ((s.slotTaken ch rest).lastAttempt ch (s.slotAttempt ch (s.otfLimit ch) r).iter (s.slotAttempt ch (s.otfLimit ch) r).syn).modDet ch
        (fun d => { d with held := some r })
    else (s.slotTaken ch rest).attemptEnd ch r (s.slotAttempt ch (s.otfLimit ch) r) false := by
  have hnext : s.nextSlot ch = (some r, s.slotTaken ch rest) := by
    rw [State.nextSlot]
    simp only [hs]
    rfl
  have ha : (s.slotTaken ch rest).slotAttempt ch ((s.slotTaken ch rest).otfLimit ch) r = s.slotAttempt ch (s.otfLimit ch) r :=
    slotAttempt_modDet s r fun _ => ⟨rfl, rfl⟩
  have hen : (s.slotTaken ch rest).flag (DET_CTL_SLIP_EN ch) = s.flag (DET_CTL_SLIP_EN ch) := rfl
  rw [decodeEnd, State.suspected]
  simp only [hnext, ha, hen, slotTaken_detOf]

/-- A codeword with framing suspected goes to the free held slot (R219). -/
theorem decodeEnd_holds (h : s.Wf) (hs : (s.detOf ch).slots = r :: rest) (hsus : s.suspected ch r = true)
    (hfree : ¬((s.detOf ch).held.isSome ∨ (s.detOf ch).rcv.isSome)) : ∃ u, Reads false ch (s.slotTaken ch rest) u ∧
      decodeEnd ch s = u.modDet ch (fun d => { d with held := some r }) := by
  refine ⟨(s.slotTaken ch rest).lastAttempt ch (s.slotAttempt ch (s.otfLimit ch) r).iter (s.slotAttempt ch (s.otfLimit ch) r).syn,
    (Reads.refl (slotTaken_wf h ch rest)).lastAttempt, ?_⟩
  rw [decodeEnd_of_slot hs, if_pos hsus, if_neg hfree]

/-- Every other attempt completes its sector (R212, R220). -/
theorem Reads.decodeEnd (h : s.Wf) (hs : (s.detOf ch).slots = r :: rest)
    (hend : s.suspected ch r = true → (s.detOf ch).held.isSome ∨ (s.detOf ch).rcv.isSome) :
    Reads true ch (s.slotTaken ch rest) (decodeEnd ch s) ∧
      (s.suspected ch r = true → bitOf ((Machine.decodeEnd ch s).num (DET_ERR ch)) 2 = true) := by
  have hw := Reads.refl (ch := ch) (slotTaken_wf h ch rest)
  have hiter := slotAttempt_iter_le s ch r
  rw [decodeEnd_of_slot hs]
  by_cases hsus : s.suspected ch r = true
  · have hnote : Reads false ch (s.slotTaken ch rest) ((s.slotTaken ch rest).noteBit (detErr ch) 2) := hw.noteBit (by decide)
    have hdone : Reads true ch ((s.slotTaken ch rest).noteBit (detErr ch) 2)
        ((((s.slotTaken ch rest).noteBit (detErr ch) 2).detCount ch 2).attemptEnd ch r (s.slotAttempt ch (s.otfLimit ch) r) true) :=
      ((Reads.refl hnote.wf).detCount (by decide)).attemptEnd hiter
    rw [if_pos hsus, if_pos (hend hsus)]
    exact ⟨hnote.trans hdone, fun _ => hdone.faults 2 ((detErrBit_set hw.wf (by decide)).bits 2 (.inl rfl))⟩
  · rw [if_neg hsus]
    exact ⟨hw.attemptEnd hiter, fun e => absurd e hsus⟩

/-- The search of the held codeword completes it (R219, R220). -/
theorem Reads.slipSearch (h : s.Wf) (hh : (s.detOf ch).held = some r) (hs : (s.detOf ch).slots = []) :
    Reads true ch (s.modDet ch (fun d => { d with held := none })) (slipSearch ch s) := by
  rw [Machine.slipSearch]
  simp only [hh, hs, List.isEmpty_nil, Bool.not_true, Bool.false_eq_true, if_false]
  exact (Reads.refl ((Evolves.modDet (.refl s)).wf h)).attemptEnd (searchSlip_iter_le (slotAttempt_iter_le s ch r))

/-- Without a held codeword, or while a stream slot is occupied, no search is made (R220). -/
theorem slipSearch_of_idle (h : (s.detOf n).held = none ∨ (s.detOf n).slots ≠ []) : slipSearch n s = s := by
  rw [slipSearch]
  cases hh : (s.detOf n).held with
  | none => rfl
  | some r =>
    have hs : (s.detOf n).slots ≠ [] := h.resolve_left fun e => Option.some_ne_none r (hh.symm.trans e)
    simp only [Bool.not_eq_true', List.isEmpty_eq_false_iff.2 hs, if_true]

theorem detStatus_det (s : State) (n : Nat) : (s.detStatus n).det = s.det := by
  rw [State.detStatus, State.put_det, State.put_det, State.put_det]

theorem detStatus_csram (s : State) (n : Nat) : (s.detStatus n).csram = s.csram := by
  rw [State.detStatus, State.put_csram, State.put_csram, State.put_csram]

/-! ### Scrambling (R202) -/

/-- The sign of a bit's LLR, flipped where the scrambler had flipped the bit. -/
theorem hardOf_flip (bits ks : List Bool) (h : ks.length = bits.length) :
    hardOf (List.zipWith (fun l b => if b then -l else l) ((List.zipWith xor bits ks).map (fun b => if b then (1 : Int) else -1)) ks) = bits := by
  induction bits generalizing ks with
  | nil => rfl
  | cons b bits ih =>
    cases ks with
    | nil => cases h
    | cons k ks =>
      have hbit : decide (0 < if k then -(if xor b k then (1 : Int) else -1) else if xor b k then 1 else -1) = b := by
        cases b <;> cases k <;> rfl
      have htail := ih ks (Nat.succ.inj h)
      rw [hardOf] at htail ⊢
      simp only [List.zipWith_cons_cons, List.map_cons, hbit, htail]

theorem length_prbs (k x : Nat) : (prbs k x).length = k := by
  induction k generalizing x with
  | zero => rfl
  | succ k ih => rw [prbs, List.length_cons, ih]

theorem hardOf_descramble_scramble (paw : Nat) (bits : List Bool) :
    hardOf (descramble paw ((scramble paw bits).map (fun b => if b then 1 else -1))) = bits := by
  have hlen : ((scramble paw bits).map (fun b => if b then (1 : Int) else -1)).length = bits.length := by
    rw [List.length_map, scramble, List.length_zipWith, length_prbs, Nat.min_self]
  rw [descramble, hlen, scramble]
  exact hardOf_flip bits _ (length_prbs _ _)

end

/-! ### O16 -/

theorem fmtSelWrite_fmt (s : State) (ch : Ch) (v : Word) : ((fmtSelWrite ch v s).detOf ch).fmt = some (v.toNat % 64) := by
  have hlow : bitsOf v.toNat 5 0 = v.toNat % 64 := congrArg (· % 2 ^ 6) (Nat.div_one _)
  rw [fmtSelWrite, State.detOf_modDet]
  exact congrArg some hlow

theorem State.modDet_resp (s : State) (n : Nat) (f : Detect → Detect) : (s.modDet n f).resp = s.resp := rfl

theorem setRW_resp (s : State) (a : Nat) (v : Word) : (s.setRW a v).resp = s.resp := by
  unfold State.setRW
  split <;> rfl

theorem fmtSelWrite_resp (s : State) (n : Nat) (v : Word) : (fmtSelWrite n v s).resp = s.resp := by
  rw [fmtSelWrite, State.modDet_resp, setRW_resp]
  rfl

end Sys2Proof.Machine

namespace Sys2Proof.Machine

/-- Settles O16: each clause by the lemma about its command, and by what its step leaves as `Reads` says. -/
theorem readingSectorsFromTheStream : Obligations.Reading_sectors_from_the_stream := by
  unfold Obligations.Reading_sectors_from_the_stream
  refine ⟨?fmt, ?read, ?spoilt, ?noDescriptor, ?goesOn, ?fourth, ?decode, ?search, ?waits, hardOf_descramble_scramble⟩
  case fmt =>
    intro s ch v _ hd
    refine runs_of_on rfl hd ⟨fmtSelWrite_fmt _ ch v, ?_⟩
    rw [fmtSelWrite_resp]
    rfl
  case read =>
    intro s ch pos r h hu hen hop hg hs hdq hcq hr
    refine runs_of_up rfl hu ?_
    obtain ⟨u, x, hread, ⟨hstart, hfrags, hmark, hid⟩, e⟩ | hdone := dcmdRead_framed (g := r) (pos := pos) h hen hop hs hdq hcq hr
    · rw [e]
      have hst := Reads.status (ch := ch) (t := u.modDet ch (fun d => { d with op := some x, gate := true })) ((Evolves.modDet (.refl u)).wf hread.wf)
      have hdet := State.detOf_modDet u ch (fun d => { d with op := some x, gate := true })
      have hopen := hst.op.trans (congrArg Detect.op hdet)
      refine ⟨hst.tail.trans (hread.tail.trans (readTaken_tail h ch pos)), ?_, ?_, fun e => ?_, ?_⟩
      · rw [hst.gate, hopen, hdet]
        rfl
      · rw [hopen, Option.all_some, hmark]
        simp only [hstart, hfrags, hid, decide_true, Bool.true_and, Bool.and_true]
        exact decide_eq_true rfl
      · exact absurd (hopen.symm.trans e) (Option.some_ne_none x)
      · have hslots : (u.detOf ch).slots = (s.detOf ch).slots := hread.slots.trans (congrArg Detect.slots (readTaken_detOf s ch pos))
        rw [hst.slots, hdet]
        exact hslots
    · have hst := hdone.detStatus
      have hdet := readTaken_detOf s ch pos
      have hnone := hst.op.trans ((congrArg Detect.op hdet).trans hop)
      have hgate := hst.gate.trans ((congrArg Detect.gate hdet).trans hg)
      have hhead := hst.head.trans ((if_pos rfl).trans (readTaken_cqNext s ch pos))
      refine ⟨hst.tail.trans (readTaken_tail h ch pos), ?_, ?_, fun _ => hhead, hst.slots.trans (congrArg Detect.slots hdet)⟩
      · rw [hgate, hnone]
        rfl
      · rw [hnone]
        rfl
  case spoilt =>
    intro s ch late pos r h hu hen hop hdq hcq hbad
    refine runs_of_up rfl hu ?_
    obtain ⟨hdone, herr⟩ := Reads.dcmdRead_spoilt (g := r) (pos := pos) h hen hop hdq hcq hbad
    have hst := hdone.detStatus
    exact ⟨hst.tail.trans (readTaken_tail h ch pos), hst.head.trans ((if_pos rfl).trans (readTaken_cqNext s ch pos)),
      hst.op.trans ((congrArg Detect.op (readTaken_detOf s ch pos)).trans hop), fun e => (Reads.status hdone.wf).faults 6 (herr e)⟩
  case noDescriptor =>
    intro s ch late pos r h hu hen hop hdq
    refine runs_of_up rfl hu ?_
    rw [dcmdRead_of_none hen hop hdq]
    have hdue := Reads.readDue (ch := ch) h pos
    have hnote : Reads false ch s ((s.readDue ch pos).noteBit (detErr ch) 4) := hdue.noteBit (by decide)
    have hcount : Reads false ch ((s.readDue ch pos).noteBit (detErr ch) 4)
        ((((s.readDue ch pos).noteBit (detErr ch) 4).detCount ch 3).detStatus ch) :=
      ((Reads.refl hnote.wf).detCount (by decide)).detStatus
    have hst := hnote.then hcount
    exact ⟨hst.op.trans hop, hcount.faults 4 ((detErrBit_set hdue.wf (by decide)).bits 4 (.inl rfl)), hst.tail⟩
  case goesOn =>
    intro s ch pos g r h hu hen hop hg hf
    refine runs_of_up rfl hu ?_
    obtain ⟨u, x, hw, ⟨hid, hfrags, hstart, hlen, hpieces⟩, e⟩ := dcmdReadCont_goes_on (g := g) (pos := pos) h hen hop hg hf
    rw [e]
    have hst := Reads.status (ch := ch) (t := u.modDet ch (fun d => { d with op := some x, gate := true })) ((Evolves.modDet (.refl u)).wf hw)
    have hdet := State.detOf_modDet u ch (fun d => { d with op := some x, gate := true })
    rw [hst.op, hst.gate, hdet]
    refine ⟨rfl, ?_, congrArg some hpieces⟩
    rw [Option.map_some, hid, hfrags, hstart, hlen]
  case fourth =>
    intro s ch late pos g r h hu hen hop hg hf
    refine runs_of_up rfl hu ?_
    obtain ⟨u, hread, herr, e⟩ := dcmdReadCont_fourth (late := late) (g := g) (pos := pos) h hen hop hg hf
    rw [e]
    have hst := Reads.status (ch := ch) (t := u.modDet ch (fun d => { d with op := none, gate := false })) ((Evolves.modDet (.refl u)).wf hread.wf)
    have hdet := State.detOf_modDet u ch (fun d => { d with op := none, gate := false })
    exact ⟨hst.gate.trans (congrArg Detect.gate hdet), hst.op.trans (congrArg Detect.op hdet), hst.faults 5 herr,
      hst.head.trans (hread.head.trans (if_pos rfl))⟩
  case decode =>
    intro s ch r rest h hu hs
    refine runs_of_up rfl hu ?_
    by_cases hfree : s.suspected ch r = true ∧ ¬((s.detOf ch).held.isSome ∨ (s.detOf ch).rcv.isSome)
    · obtain ⟨u, hread, e⟩ := decodeEnd_holds h hs hfree.1 hfree.2
      rw [e]
      have hst := Reads.status (ch := ch) (t := u.modDet ch (fun d => { d with held := some r })) ((Evolves.modDet (.refl u)).wf hread.wf)
      have hdet := State.detOf_modDet u ch (fun d => { d with held := some r })
      have hslots : (u.detOf ch).slots = rest := hread.slots.trans (congrArg Detect.slots (slotTaken_detOf s ch rest))
      refine ⟨hst.slots.trans ((congrArg Detect.slots hdet).trans hslots),
        fun _ => ⟨hst.held.trans (congrArg Detect.held hdet), hst.head.trans hread.head⟩, fun e => ?_,
        fun e => absurd ((suspected_free_iff.2 hfree).symm.trans e) (Bool.false_ne_true ·.symm)⟩
      simp only [Bool.and_eq_true, Bool.or_eq_true] at e
      exact absurd e.2 hfree.2
    · obtain ⟨hdone, herr⟩ := Reads.decodeEnd h hs fun e => not_not.1 fun hn => hfree ⟨e, hn⟩
      have hst := hdone.detStatus
      have hdet := slotTaken_detOf s ch rest
      have hheld : ((s.slotTaken ch rest).detOf ch).held = (s.detOf ch).held := by rw [hdet]
      refine ⟨hst.slots.trans (congrArg Detect.slots hdet), fun e => absurd (suspected_free_iff.1 e) hfree, fun e => ?_,
        fun _ => ⟨hst.held.trans hheld, hst.head.trans (if_pos rfl)⟩⟩
      exact (Reads.status hdone.wf).faults 2 (herr (Bool.and_eq_true_iff.1 e).1)
  case search =>
    intro s ch r h hu hh hs
    refine runs_of_up rfl hu ?_
    have hst := (Reads.slipSearch h hh hs).detStatus
    exact ⟨hst.held.trans (congrArg Detect.held (State.detOf_modDet s ch _)), hst.head.trans (if_pos rfl)⟩
  case waits =>
    intro s ch _ hu hi
    refine runs_of_up rfl hu ?_
    rw [slipSearch_of_idle hi]
    exact ⟨detStatus_det s ch, detStatus_csram s ch⟩

end Sys2Proof.Machine

namespace Sys2Proof.Machine

section
variable {s₀ s t u : State} {ch : Ch} {n : Nat} {d : Bool} {r x : Rcv} {status : Nat} {e : RdEnd}

/-! ## The end of a recovery (R225, R228, R229) -/

theorem State.modDet_get (s : State) (n : Nat) (f : Detect → Detect) (g : Fld) : (s.modDet n f).get g = s.get g := rfl

theorem State.modDet_num (s : State) (n : Nat) (f : Detect → Detect) (a : Nat) : (s.modDet n f).num a = s.num a := rfl

theorem State.num_setNum_mod (h : s.Wf) (a k : Nat) : (s.setNum a k).num a = k % 2 ^ 32 := by
  rw [State.num, State.setNum, State.rd_wr_self h, BitVec.toNat_ofNat]

theorem State.Wf.modDet (h : s.Wf) (n : Nat) (f : Detect → Detect) : (s.modDet n f).Wf := (Evolves.modDet (.refl s)).wf h

/-! ### Its units and the command that restores the target -/

/-- A change of who holds which unit. -/
theorem Reads.holders (h : Reads d ch s₀ s) (hw : Evolves s t) (he : (t.engines, t.bank) = (s.engines, s.bank)) : Reads d ch s₀ t :=
  h.engines hw (.frame (.refl s) he)

theorem Reads.foreAsk {key : Nat} (h : Reads d ch s₀ s) : Reads d ch s₀ (s.foreAsk key) := by
  refine h.holders (.foreAsk (.refl s)) ?_
  unfold State.foreAsk
  split
  · rfl
  · split
    · rfl
    · split <;> rfl

theorem Reads.foreHold {keys : List Nat} (h : Reads d ch s₀ s) : Reads d ch s₀ (s.foreHold keys) := .foldl h fun _ h _ _ => h.foreAsk

theorem Reads.foreEnd {keys : List Nat} (h : Reads d ch s₀ s) : Reads d ch s₀ (s.foreEnd keys) := by
  refine .foldl h fun s h k _ => .ite ?_ h
  exact h.holders (.frame (.refl s) rfl) rfl

theorem State.modLoop_detOf (s : State) (n k : Nat) (f : Loop → Loop) : (s.modLoop n f).detOf k = s.detOf k := rfl

theorem Reads.writeCmd {code : Nat} {keep : Bool} (h : Reads d ch s₀ s) : Reads d ch s₀ (s.writeCmd ch code keep) := by
  have hput : Reads d ch s₀ (s.put (LOOP_STAT_CMD_LOST ch) 1) := h.put (offRead (u := 9) (o := 0x4))
  have hlost : Reads d ch s₀ (s.noteLost ch) := .ite hput h
  rw [writeCmd_eq]
  refine hlost.kept (Evolves.refl _).modLoop ?_ fun _ _ => State.modLoop_rd ..
  rw [State.modLoop_detOf]

/-! ### What stands when it has ended -/

/-- The recovery `r` of `s` is over: BUSY is 0, nothing of it is held, and a target that step 5 moved is the one before. -/
structure RcvOver (n : Nat) (r : Rcv) (s t : State) : Prop where
  wf : t.Wf
  busy : t.flag (RCV_STAT_BUSY n) = false
  rcv : (t.detOf n).rcv = none
  revs : t.get (RCV_STAT_REVS n) = s.get (RCV_STAT_REVS n)
  faults : ∀ j, bitOf (s.num (DET_ERR n)) j = true → bitOf (t.num (DET_ERR n)) j = true
  target : r.moved = true → t.num (LOOP_TARGET_LO n) = r.origLo % 2 ^ 32 ∧ t.num (LOOP_TARGET_HI n) = r.origHi % 2 ^ 32

theorem RcvOver.then (h : RcvOver ch r s u) (k : Reads d ch u t) : RcvOver ch r s t where
  wf := k.wf
  busy := (State.flag_of_rd (f := RCV_STAT_BUSY ch) (k.rd (u := 3) (o := 0x48))).trans h.busy
  rcv := k.rcv.trans h.rcv
  revs := (State.get_of_rd (f := RCV_STAT_REVS ch) (k.rd (u := 3) (o := 0x48))).trans h.revs
  faults := fun j hj => k.faults j (h.faults j hj)
  target := fun hm => by
    obtain ⟨hlo, hhi⟩ := h.target hm
    exact ⟨(State.num_of_rd (k.rd (u := 9) (o := 0x8))).trans hlo, (State.num_of_rd (k.rd (u := 9) (o := 0xC))).trans hhi⟩

/-- The recovery is no longer held, and BUSY falls. -/
def State.rcvShut (s : State) (n : Nat) : State :=
  ((s.modDet n (fun d => { d with rcv := none })).put (RCV_STAT_BUSY n) 0).foreEnd (rcvUnits n)

/-- The target as it stood before step 5. -/
def State.targetBack (s : State) (n : Nat) (r : Rcv) : State := (s.setNum (LOOP_TARGET_LO n) r.origLo).setNum (LOOP_TARGET_HI n) r.origHi

/-- The recovery has ended, its result stands in RCV_STAT, and its completion is to be written. -/
def State.rcvClosed (s : State) (n : Nat) (r : Rcv) (status : Nat) : State :=
  (if r.moved then ((s.rcvShut n).targetBack n r).writeCmd n 1 false else s.rcvShut n).put (RCV_STAT_RESULT n) status

/-- What follows the end of a recovery is its completion, as reading writes it. -/
theorem Reads.rcvEnd (h : s.Wf) : Reads true ch (s.rcvClosed ch r status) (s.rcvEnd ch r status e) := by
  have hw : (s.rcvClosed ch r status).Wf := by
    have h1 : Evolves s (s.rcvShut ch) := (Evolves.refl s).modDet.put.foreEnd
    exact (Evolves.put (.ite h1.setNum.setNum.writeCmd h1)).wf h
  have h0 := Reads.refl (ch := ch) hw
  have hstep (k : Nat) : (if k = 2 then 12 else if k = 3 then 13 else 14) < 18 := by
    split
    · decide
    · split <;> decide
  unfold State.rcvEnd
  extract_lets step s1 s2 s3 s4
  have h4 : Reads false ch (s.rcvClosed ch r status) s4 :=
    .ite (h0.countSect (hstep _)) (.ite h0.countSect (.ite h0 (.ite h0.countSect h0.countSect)))
  exact h4.countSect.readDone.raise.detStatus

theorem rcvShut_over (h : s.Wf) (hm : r.moved = false) : RcvOver ch r s (s.rcvShut ch) := by
  have h1 : (s.modDet ch (fun d => { d with rcv := none })).Wf := h.modDet ch _
  have hw : ((s.modDet ch (fun d => { d with rcv := none })).put (RCV_STAT_BUSY ch) 0).Wf := h1.put _ _
  have hbase : RcvOver ch r s ((s.modDet ch (fun d => { d with rcv := none })).put (RCV_STAT_BUSY ch) 0) := by
    refine ⟨hw, State.flag_put_zero h1 rfl, ?_, ?_, fun j hj => ?_, fun e => absurd (hm.symm.trans e) Bool.false_ne_true⟩
    · rw [State.put_detOf, State.detOf_modDet]
    · rw [State.get_put_of_apart h1 (RCV_STAT_BUSY ch) (RCV_STAT_REVS ch) rfl rfl, State.modDet_get]
    · have herr := State.rd_put_other (s.modDet ch (fun d => { d with rcv := none })) (f := RCV_STAT_BUSY ch) (a := DET_ERR ch) 0
        (chReg_ne (u := 3) (o := 0x24) (u' := 3) (o' := 0x48) (by decide))
      rwa [State.num_of_rd herr, State.modDet_num]
  exact hbase.then (Reads.refl hw).foreEnd

theorem RcvOver.targetBack (h : RcvOver ch x s t) : RcvOver ch r s (t.targetBack ch r) := by
  have hregs {o : Nat} (ho : o < 0x1000000) : (t.targetBack ch r).rd (chReg ch 3 o) = t.rd (chReg ch 3 o) := by
    have hlo : chReg ch 3 o ≠ LOOP_TARGET_LO ch := chReg_ne (u' := 9) (o' := 0x8) (by omega)
    have hhi : chReg ch 3 o ≠ LOOP_TARGET_HI ch := chReg_ne (u' := 9) (o' := 0xC) (by omega)
    rw [State.targetBack, State.setNum, State.rd_wr_other _ _ hhi, State.setNum, State.rd_wr_other _ _ hlo]
  refine ⟨(h.wf.setNum _ _).setNum _ _, ?_, ?_, ?_, fun j hj => ?_, fun _ => ⟨?_, ?_⟩⟩
  · rw [State.flag_of_rd (f := RCV_STAT_BUSY ch) (hregs (o := 0x48) (by decide)), h.busy]
  · rw [State.targetBack, State.detOf_setNum, State.detOf_setNum, h.rcv]
  · rw [State.get_of_rd (f := RCV_STAT_REVS ch) (hregs (o := 0x48) (by decide)), h.revs]
  · have herr : (t.targetBack ch r).num (DET_ERR ch) = t.num (DET_ERR ch) := State.num_of_rd (hregs (o := 0x24) (by decide))
    rw [herr]
    exact h.faults j hj
  · have hne : LOOP_TARGET_LO ch ≠ LOOP_TARGET_HI ch := chReg_ne (u := 9) (o := 0x8) (u' := 9) (o' := 0xC) (by decide)
    rw [State.targetBack, State.num_setNum_other _ _ hne, State.num_setNum_mod h.wf]
  · rw [State.targetBack, State.num_setNum_mod (h.wf.setNum _ _)]

theorem RcvOver.putResult (h : RcvOver ch r s t) : RcvOver ch r s (t.put (RCV_STAT_RESULT ch) status) := by
  have hreg {v o : Nat} (hne : v * 0x1000000 + o ≠ 3 * 0x1000000 + 0x48) :
      (t.put (RCV_STAT_RESULT ch) status).num (chReg ch v o) = t.num (chReg ch v o) :=
    State.num_of_rd (State.rd_put_other t (f := RCV_STAT_RESULT ch) status (chReg_ne (u' := 3) (o' := 0x48) hne))
  refine ⟨h.wf.put _ _, ?_, ?_, ?_, fun j hj => ?_, fun hm => ?_⟩
  · rw [State.flag_put_apart h.wf (RCV_STAT_RESULT ch) (RCV_STAT_BUSY ch) rfl rfl, h.busy]
  · rw [State.put_detOf, h.rcv]
  · rw [State.get_put_of_apart h.wf (RCV_STAT_RESULT ch) (RCV_STAT_REVS ch) rfl rfl, h.revs]
  · have herr : (t.put (RCV_STAT_RESULT ch) status).num (DET_ERR ch) = t.num (DET_ERR ch) := hreg (v := 3) (o := 0x24) (by decide)
    rw [herr]
    exact h.faults j hj
  · obtain ⟨hlo, hhi⟩ := h.target hm
    exact ⟨(hreg (v := 9) (o := 0x8) (by decide)).trans hlo, (hreg (v := 9) (o := 0xC) (by decide)).trans hhi⟩

/-- The end of a recovery, up to its result. -/
theorem rcvClosed_over (h : s.Wf) (hs : status < 2 ^ 8) :
    RcvOver ch r s (s.rcvClosed ch r status) ∧ (s.rcvClosed ch r status).get (RCV_STAT_RESULT ch) = status := by
  have hpart : RcvOver ch r s (if r.moved then ((s.rcvShut ch).targetBack ch r).writeCmd ch 1 false else s.rcvShut ch) := by
    split
    next =>
      have hback : RcvOver ch r s ((s.rcvShut ch).targetBack ch r) := (rcvShut_over (r := { r with moved := false }) h rfl).targetBack
      exact hback.then (Reads.refl hback.wf).writeCmd
    next hm => exact rcvShut_over h (Bool.eq_false_of_not_eq_true hm)
  exact ⟨hpart.putResult, State.get_put_fits hpart.wf rfl hs⟩

/-- A recovery ends with its result (R225, R228, R229). -/
theorem rcvEnd_over (h : s.Wf) (hs : status < 2 ^ 8) :
    RcvOver ch r s (s.rcvEnd ch r status e) ∧ (s.rcvEnd ch r status e).get (RCV_STAT_RESULT ch) = status := by
  have hend : Reads true ch (s.rcvClosed ch r status) (s.rcvEnd ch r status e) := .rcvEnd h
  obtain ⟨hover, hres⟩ := rcvClosed_over (ch := ch) (r := r) h hs
  exact ⟨hover.then hend, (State.get_of_rd (f := RCV_STAT_RESULT ch) (hend.rd (u := 3) (o := 0x48))).trans hres⟩

end

end Sys2Proof.Machine

namespace Sys2Proof.Machine

section
variable {s₀ s t u : State} {ch : Ch} {n : Nat} {d : Bool} {r x : Rcv} {status : Nat} {e : RdEnd} {v : RevRead}

/-! ## The ladder (R224, R226-R228) -/

/-- From `s` to `t` the revolutions are counted as they were, and what recovery is held then is `r` still: that GO, and that last step. -/
structure OnLadder (n : Nat) (r : Rcv) (s t : State) : Prop where
  wf : t.Wf
  revs : t.get (RCV_STAT_REVS n) = s.get (RCV_STAT_REVS n)
  same : (t.detOf n).rcv.all (fun x => decide (x.start = r.start) && decide (x.last = r.last)) = true

theorem OnLadder.trans (h : s.get (RCV_STAT_REVS n) = s₀.get (RCV_STAT_REVS n)) (k : OnLadder n r s t) : OnLadder n r s₀ t :=
  ⟨k.wf, k.revs.trans h, k.same⟩

theorem OnLadder.ite {c : Prop} {i : Decidable c} (hs : OnLadder n r s₀ s) (ht : OnLadder n r s₀ t) : OnLadder n r s₀ (if c then s else t) := by
  split
  · exact hs
  · exact ht

theorem RcvOver.onLadder (h : RcvOver n x s t) : OnLadder n r s t := by
  refine ⟨h.wf, h.revs, ?_⟩
  rw [h.rcv]
  rfl

/-- The recovery is held as `x`. -/
theorem OnLadder.hold {f : Detect → Detect} (h : s.Wf) (hx : x.start = r.start ∧ x.last = r.last) (hf : ∀ d, (f d).rcv = some x) :
    OnLadder ch r s (s.modDet ch f) := by
  obtain ⟨hstart, hlast⟩ := hx
  refine ⟨h.modDet ch f, State.modDet_get .., ?_⟩
  rw [State.detOf_modDet, hf, Option.all_some, hstart, hlast, decide_eq_true rfl, decide_eq_true rfl]
  rfl

/-- Step 5's move of the target leaves RCV_STAT. -/
theorem offsetRead_onLadder (h : s.Wf) (hx : x.start = r.start ∧ x.last = r.last) (k : Nat) : OnLadder ch r s (s.offsetRead ch x k) := by
  have hne {o : Nat} (ho : o < 0x1000000) : (RCV_STAT_REVS ch).addr ≠ chReg ch 9 o := chReg_ne (u := 3) (o := 0x48) (by omega)
  have hback : (s.targetBack ch x).get (RCV_STAT_REVS ch) = s.get (RCV_STAT_REVS ch) := by
    rw [State.targetBack, State.get_setNum_other (a := LOOP_TARGET_HI ch) _ (hne (o := 0xC) (by decide)),
      State.get_setNum_other (a := LOOP_TARGET_LO ch) _ (hne (o := 0x8) (by decide))]
  have hset (y : State) (z : Int) : (y.setTarget ch z).get (RCV_STAT_REVS ch) = y.get (RCV_STAT_REVS ch) := by
    rw [State.setTarget, State.get_put_other (f := LOOP_TARGET_HI_TRACK ch) _ _ (hne (o := 0xC) (by decide)),
      State.get_put_other (f := LOOP_TARGET_LO_TRACK ch) _ _ (hne (o := 0x8) (by decide)),
      State.get_put_other (f := LOOP_TARGET_LO_FRAC ch) _ _ (hne (o := 0x8) (by decide))]
  unfold State.offsetRead
  extract_lets back off
  have hw : (back.setTarget ch (back.targetReg ch + if k % 2 = 0 then off else -off)).Wf :=
    (Evolves.setTarget (Evolves.setNum (Evolves.setNum (.refl s)))).wf h
  have hcmd : Reads false ch _ ((back.setTarget ch (back.targetReg ch + if k % 2 = 0 then off else -off)).writeCmd ch 1 false) :=
    (Reads.refl hw).writeCmd
  have hrevs := (State.get_of_rd (f := RCV_STAT_REVS ch) (hcmd.rd (u := 3) (o := 0x48))).trans ((hset back _).trans hback)
  exact .trans hrevs (.hold (x := { x with seek := true, off := k, added := 0, acc := [], path := ReadPath.plain, moved := true }) hcmd.wf hx
    fun _ => rfl)

/-- A new step of the ladder shows in RCV_STAT, and its revolutions begin afresh. -/
def Rcv.atStep (r : Rcv) (lo hi : Nat) : Rcv :=
  { r with revs := 0, added := 0, acc := [], path := ReadPath.plain, off := 0, origLo := lo, origHi := hi }

theorem putStep_revs (h : s.Wf) (n k : Nat) : (s.put (RCV_STAT_STEP n) k).get (RCV_STAT_REVS n) = s.get (RCV_STAT_REVS n) :=
  State.get_put_of_apart h (RCV_STAT_STEP n) (RCV_STAT_REVS n) rfl rfl

theorem rcvStep_onLadder (h : s.Wf) (hr : (s.detOf ch).rcv = some x) (hx : x.start = r.start ∧ x.last = r.last) (hres : x.result < 2 ^ 8)
    (k : Nat) : OnLadder ch r s (s.rcvStep ch k) := by
  rw [State.rcvStep]
  simp only [hr]
  split
  next => exact (rcvEnd_over h hres).1.onLadder
  next => exact .trans (putStep_revs h ch 4) (rcvEnd_over (h.put _ _) (by decide)).1.onLadder
  next j _ _ =>
    have hstep : OnLadder ch r s ((s.put (RCV_STAT_STEP ch) j).modDet ch
        (fun d => { d with rcv := some (x.atStep (s.num (LOOP_TARGET_LO ch)) (s.num (LOOP_TARGET_HI ch))) })) :=
      .trans (putStep_revs h ch j) (.hold (x := x.atStep _ _) (h.put _ _) hx fun _ => rfl)
    split
    · exact .trans hstep.revs (offsetRead_onLadder (x := x.atStep (s.num (LOOP_TARGET_LO ch)) (s.num (LOOP_TARGET_HI ch))) hstep.wf hx 0)
    · exact hstep

/-- A revolution that does not end the recovery leaves it on its ladder, or ends it with its last attempt. -/
theorem rcvNext_onLadder (h : s.Wf) (hx : x.start = r.start ∧ x.last = r.last) (hres : x.result < 2 ^ 8) : OnLadder ch r s (s.rcvNext ch x) := by
  have hhold : OnLadder ch r s (s.modDet ch (fun d => { d with rcv := some x })) := .hold h hx fun _ => rfl
  have hover : OnLadder ch r s ((s.modDet ch (fun d => { d with rcv := some x })).rcvEnd ch x x.result RdEnd.plain) :=
    .trans hhold.revs (rcvEnd_over hhold.wf hres).1.onLadder
  have hstep (k : Nat) : OnLadder ch r s ((s.modDet ch (fun d => { d with rcv := some x })).rcvStep ch k) :=
    .trans hhold.revs (rcvStep_onLadder hhold.wf (congrArg Detect.rcv (State.detOf_modDet s ch _)) hx hres k)
  exact .ite (.ite (.ite hover (offsetRead_onLadder h hx _)) hhold) (.ite (hstep _) hhold)

/-! ### What a recovery makes of its attempt -/

theorem judge_lt (r : RdSec) (info : List Byte) (paw : Nat) : judge r info paw < 2 ^ 8 := by
  unfold judge
  split
  · decide
  · split <;> decide

/-- A decoded attempt is judged, and a good one delivered. -/
theorem rcvJudge_of_decoded {slip : Nat} {a : Attempt} (ha : a.syn = 0) : s.rcvJudge n x slip a =
    (judge x.sec a.info a.paw, a.corr,
      { x with iter := a.iter, flagsNow := { x.flagsNow with slip := slip }, result := judge x.sec a.info a.paw },
      (s.lastAttempt n a.iter a.syn).deliver n x.sec (judge x.sec a.info a.paw) a.info) := by
  rw [State.rcvJudge, if_pos ha]

/-- What the judgement of an attempt leaves: DETECT's registers and work, that GO and that last step, and a status that fits. -/
theorem rcvJudge_keeps (h : s.Wf) (slip : Nat) (a : Attempt) : Reads false ch s (s.rcvJudge ch x slip a).2.2.2 ∧
    ((s.rcvJudge ch x slip a).2.2.1.start = x.start ∧ (s.rcvJudge ch x slip a).2.2.1.last = x.last) ∧
    (s.rcvJudge ch x slip a).2.2.1.result < 2 ^ 8 := by
  have hlast : Reads false ch s (s.lastAttempt ch a.iter a.syn) := (Reads.refl h).lastAttempt
  by_cases ha : a.syn = 0
  · rw [rcvJudge_of_decoded ha]
    exact ⟨hlast.deliver, ⟨rfl, rfl⟩, judge_lt _ _ _⟩
  · have hfail : rsDecFail < 2 ^ 8 := by decide
    rw [State.rcvJudge, if_neg ha]
    exact ⟨hlast.softOf, ⟨rfl, rfl⟩, hfail⟩

/-! ### A revolution (R224, R226) -/

/-- One more revolution shows in RCV_STAT. -/
def State.rcvCounted (s : State) (n : Nat) : State := s.put (RCV_STAT_REVS n) (min 255 (s.get (RCV_STAT_REVS n) + 1))

theorem rcvCounted_revs (h : s.Wf) (n : Nat) : (s.rcvCounted n).get (RCV_STAT_REVS n) = min 255 (s.get (RCV_STAT_REVS n) + 1) :=
  State.get_put_fits h rfl (Nat.lt_succ_of_le (Nat.min_le_left _ _))

/-- The recovery after a revolution of step 2. -/
def Rcv.reread (r : Rcv) (sec : RdSec) : Rcv := { r with revs := r.revs + 1, path := retrySet r.revs, flagsNow := sec }

/-- A revolution of step 2, with no more than three fragments (R226). -/
theorem rcvRevolve_of_reread (hs : s.get (RCV_STAT_STEP n) = 2) (hc : v.conts.length ≤ 2) : s.rcvRevolve n r v =
    let (sec, u) := (s.rcvCounted n).revRead n (retrySet r.revs) r.sec v
    if sec.sm1 || sec.sm2 then
      let (slip, a) := u.rcvAttempt n (retrySet r.revs) r.sec.paw (slotSamples sec.pieces)
      let (st, corr, x, w) := u.rcvJudge n (r.reread sec) slip a
      if st = rsGood then w.rcvEnd n x rsGood { RdEnd.plain with corr := corr } else w.rcvNext n x
    else u.rcvNext n { r.reread sec with result := rsSyncMiss } := by
  rw [State.rcvRevolve]
  simp only [hs, if_true, Nat.not_lt_of_le hc, if_false, true_or]
  rfl

/-- A fourth fragment ends the recovery ABANDONED (R198). -/
theorem rcvRevolve_fourth (h : s.Wf) (hc : 2 < v.conts.length) : (s.rcvRevolve ch r v).flag (RCV_STAT_BUSY ch) = false ∧
    (s.rcvRevolve ch r v).get (RCV_STAT_RESULT ch) = rsAbandoned ∧ bitOf ((s.rcvRevolve ch r v).num (DET_ERR ch)) 5 = true := by
  have hend (u : State) (x : Rcv) (hu : u.Wf) : (u.rcvFrag4 ch x).flag (RCV_STAT_BUSY ch) = false ∧
      (u.rcvFrag4 ch x).get (RCV_STAT_RESULT ch) = rsAbandoned ∧ bitOf ((u.rcvFrag4 ch x).num (DET_ERR ch)) 5 = true := by
    have hnote : Reads false ch u (u.noteBit (detErr ch) 5) := (Reads.refl hu).noteBit (by decide)
    obtain ⟨hover, hres⟩ := rcvEnd_over (ch := ch) (r := x) (e := RdEnd.plain) hnote.wf (status := rsAbandoned) (by decide)
    exact ⟨hover.busy, hres, hover.faults 5 ((detErrBit_set hu (by decide)).bits 5 (.inl rfl))⟩
  unfold State.rcvRevolve
  extract_lets step path
  split
  next e =>
    have hread := Reads.of_snd e (Reads.refl (ch := ch) (h.put _ _)).revRead
    simp only [hc, if_true]
    exact hend _ _ hread.wf

end

end Sys2Proof.Machine

namespace Sys2Proof.Machine

section
variable {s₀ s t u : State} {ch : Ch} {n : Nat} {d : Bool} {r x : Rcv} {v : RevRead}

/-! ### What a revolution of step 2 does (R226) -/

theorem rcvCounted_wf (h : s.Wf) (n : Nat) : (s.rcvCounted n).Wf := h.put _ _

theorem rcvRevolve_onLadder (h : s.Wf) (hs : s.get (RCV_STAT_STEP ch) = 2) (hc : v.conts.length ≤ 2) :
    OnLadder ch r (s.rcvCounted ch) (s.rcvRevolve ch r v) := by
  have hread : Reads false ch (s.rcvCounted ch) ((s.rcvCounted ch).revRead ch (retrySet r.revs) r.sec v).2 :=
    (Reads.refl (rcvCounted_wf h ch)).revRead
  have kept {y z : State} (k : Reads false ch y z) : z.get (RCV_STAT_REVS ch) = y.get (RCV_STAT_REVS ch) :=
    State.get_of_rd (f := RCV_STAT_REVS ch) (k.rd (u := 3) (o := 0x48))
  have hmiss (sec : RdSec) (u : State) (hu : u.Wf) : OnLadder ch r u (u.rcvNext ch { r.reread sec with result := rsSyncMiss }) := by
    have hlt : rsSyncMiss < 2 ^ 8 := by decide
    exact rcvNext_onLadder hu ⟨rfl, rfl⟩ hlt
  have hread' := kept hread
  rw [rcvRevolve_of_reread hs hc]
  generalize (s.rcvCounted ch).revRead ch (retrySet r.revs) r.sec v = p at hread hread'
  obtain ⟨sec, u⟩ := p
  dsimp only
  split
  · generalize u.rcvAttempt ch (retrySet r.revs) r.sec.paw (slotSamples sec.pieces) = q
    obtain ⟨slip, a⟩ := q
    obtain ⟨hjudge, hsame, hres⟩ := rcvJudge_keeps (ch := ch) (x := r.reread sec) hread.wf slip a
    have hjudge' := kept hjudge
    dsimp only
    generalize u.rcvJudge ch (r.reread sec) slip a = j at hjudge hjudge' hsame hres
    obtain ⟨st, corr, x, w⟩ := j
    have hover : RcvOver ch x w (w.rcvEnd ch x rsGood { RdEnd.plain with corr := corr }) := (rcvEnd_over hjudge.wf (by decide)).1
    exact .trans (hjudge'.trans hread') (.ite hover.onLadder (rcvNext_onLadder hjudge.wf hsame hres))
  · exact .trans hread' (hmiss sec u hread.wf)

/-- A revolution that decodes and passes its checks ends the recovery. -/
theorem rcvRevolve_of_good {sec : RdSec} {code : Nat} {a : Attempt} (h : s.Wf) (hs : s.get (RCV_STAT_STEP ch) = 2) (hc : v.conts.length ≤ 2)
    (hread : (s.rcvCounted ch).revRead ch (retrySet r.revs) r.sec v = (sec, u)) (hm : (sec.sm1 || sec.sm2) = true)
    (ha : u.rcvAttempt ch (retrySet r.revs) r.sec.paw (slotSamples sec.pieces) = (code, a)) (hsyn : a.syn = 0)
    (hgood : judge r.sec a.info a.paw = rsGood) :
    ∃ (w : State) (x : Rcv) (e : RdEnd), w.Wf ∧ s.rcvRevolve ch r v = w.rcvEnd ch x rsGood e := by
  have hu : Reads false ch (s.rcvCounted ch) u := .of_snd hread (Reads.refl (rcvCounted_wf h ch)).revRead
  have hst : (u.rcvJudge ch (r.reread sec) code a).1 = rsGood := by
    rw [rcvJudge_of_decoded hsyn]
    exact hgood
  have hjudge := (rcvJudge_keeps (ch := ch) (x := r.reread sec) hu.wf code a).1
  rw [rcvRevolve_of_reread hs hc]
  simp only [hread, hm, if_true, ha]
  generalize u.rcvJudge ch (r.reread sec) code a = j at hst hjudge
  obtain ⟨st, corr, x, w⟩ := j
  exact ⟨w, x, { RdEnd.plain with corr := corr }, hjudge.wf, if_pos hst⟩

/-! ### Whether there is a revolution (R225, R228, R229) -/

theorem recoveryRevolution_of (hr : (s.detOf n).rcv = some r) : recoveryRevolution n v s =
    if r.foul then (s.noteBit (detErr n) 0).rcvEnd n r rsAborted RdEnd.plain
    else if r.abort then s.rcvEnd n r rsAborted RdEnd.plain
    else if !s.rcvInBudget n r then s.rcvEnd n r rsTimeout RdEnd.plain
    else if r.revs = 0 ∧ s.get (RCV_STAT_REVS n) = 0 ∧ s.dieHot (n + 1) = true then s
    else if s.foreHas (rcvUnits n) = false then s.foreHold (rcvUnits n)
    else if (s.detOf n).held.isSome || r.seek then s
    else if !s.rateOk n then (s.noteBit (detErr n) 6).rcvEnd n r rsAbandoned RdEnd.plain
    else s.rcvRevolve n r v := by
  rw [recoveryRevolution]
  simp only [hr]

/-- Nothing keeps the recovery from its revolution. -/
theorem recoveryRevolution_of_free (hr : (s.detOf n).rcv = some r) (hf : r.foul = false) (ha : r.abort = false) (hb : s.rcvInBudget n r = true)
    (hhot : s.dieHot (n + 1) = false) (hu : s.foreHas (rcvUnits n) = true) (hh : (s.detOf n).held = none) (hk : r.seek = false)
    (hrate : s.rateOk n = true) : recoveryRevolution n v s = s.rcvRevolve n r v := by
  rw [recoveryRevolution_of hr]
  simp only [hf, ha, hb, hhot, hu, hh, hk, hrate, Bool.false_eq_true, Bool.not_true, Bool.true_eq_false, Option.isSome_none, Bool.or_self, and_false,
    if_false]

theorem recoveryRevolution_of_late (hr : (s.detOf n).rcv = some r) (hf : r.foul = false) (ha : r.abort = false) (hb : s.rcvInBudget n r = false) :
    recoveryRevolution n v s = s.rcvEnd n r rsTimeout RdEnd.plain := by
  rw [recoveryRevolution_of hr]
  simp only [hf, ha, hb, Bool.false_eq_true, Bool.not_false, if_true, if_false]

/-- The held slot in use, or a seek awaited, leaves the recovery as it is. -/
theorem recoveryRevolution_of_waiting (hr : (s.detOf n).rcv = some r) (hf : r.foul = false) (ha : r.abort = false)
    (hb : s.rcvInBudget n r = true) (hu : s.foreHas (rcvUnits n) = true) (hw : (s.detOf n).held.isSome = true ∨ r.seek = true) :
    recoveryRevolution n v s = s := by
  rw [recoveryRevolution_of hr]
  simp only [hf, ha, hb, hu, Bool.false_eq_true, Bool.not_true, Bool.true_eq_false, Bool.or_eq_true, hw, if_true, if_false, ite_self]

/-- A forbidden write or ABORT ends the recovery ABORTED (R228, R229). -/
theorem recoveryRevolution_of_stopped (h : s.Wf) (hr : (s.detOf ch).rcv = some r) (hstop : r.foul = true ∨ r.abort = true) :
    RcvOver ch r s (recoveryRevolution ch v s) ∧ (recoveryRevolution ch v s).get (RCV_STAT_RESULT ch) = rsAborted ∧
      (r.foul = true → bitOf ((recoveryRevolution ch v s).num (DET_ERR ch)) 0 = true) := by
  rw [recoveryRevolution_of hr]
  by_cases hf : r.foul = true
  · have hnote : Reads false ch s (s.noteBit (detErr ch) 0) := (Reads.refl h).noteBit (by decide)
    obtain ⟨hover, hres⟩ := rcvEnd_over (ch := ch) (r := r) (e := RdEnd.plain) hnote.wf (status := rsAborted) (by decide)
    have hrevs : (s.noteBit (detErr ch) 0).get (RCV_STAT_REVS ch) = s.get (RCV_STAT_REVS ch) :=
      State.get_of_rd (f := RCV_STAT_REVS ch) (hnote.rd (u := 3) (o := 0x48))
    rw [if_pos hf]
    exact ⟨{ hover with revs := hover.revs.trans hrevs, faults := fun j hj => hover.faults j (hnote.faults j hj) }, hres,
      fun _ => hover.faults 0 ((detErrBit_set h (by decide)).bits 0 (.inl rfl))⟩
  · obtain ⟨hover, hres⟩ := rcvEnd_over (ch := ch) (r := r) (e := RdEnd.plain) h (status := rsAborted) (by decide)
    rw [if_neg hf, if_pos (hstop.resolve_left hf)]
    exact ⟨hover, hres, fun e => absurd e hf⟩

/-! ### GO (R225) -/

theorem rcvGo_of_refused {first last : Nat} (h : s.flag (RCV_STAT_BUSY n) = true ∨ first < 2 ∨ 5 < last ∨ last < first) :
    rcvGo n first last s = s.put (RCV_STAT_REJ n) 1 :=
  if_pos h

/-- The recovery that GO begins. -/
def State.rcvNew (s : State) (n last : Nat) : Rcv :=
  ⟨s.rcvDesc n, last, 0, 0, 0, 0, 0, false, false, rsDecFail, s.num TSTAMP, s.rcvDesc n, ReadPath.plain, [], false, 0, false, false⟩

/-- RCV_STAT as GO leaves it. -/
def State.rcvBegun (s : State) (n first : Nat) : State :=
  (((s.foreHold (rcvUnits n)).put (RCV_STAT_BUSY n) 1).put (RCV_STAT_REVS n) 0).put (RCV_STAT_STEP n) first

theorem rcvGo_of_accepted {first last : Nat} (h : ¬(s.flag (RCV_STAT_BUSY n) = true ∨ first < 2 ∨ 5 < last ∨ last < first)) :
    rcvGo n first last s =
      (((s.rcvBegun n first).modDet n (fun d => { d with rcv := some (s.rcvNew n last) })).rcvStep n first).detStatus n :=
  if_neg h

theorem rcvBegun_shows (h : s.Wf) (ch : Ch) {first : Nat} (hf : first < 8) : (s.rcvBegun ch first).Wf ∧
    (s.rcvBegun ch first).flag (RCV_STAT_BUSY ch) = true ∧ (s.rcvBegun ch first).get (RCV_STAT_STEP ch) = first ∧
    (s.rcvBegun ch first).get (RCV_STAT_REVS ch) = 0 := by
  have h1 : (s.foreHold (rcvUnits ch)).Wf := (Evolves.foreHold (.refl s)).wf h
  have h2 := h1.put (RCV_STAT_BUSY ch) 1
  have h3 := h2.put (RCV_STAT_REVS ch) 0
  refine ⟨h3.put _ _, ?_, State.get_put_fits h3 rfl hf, ?_⟩
  · rw [State.rcvBegun, State.flag_put_apart h3 (RCV_STAT_STEP ch) (RCV_STAT_BUSY ch) rfl rfl,
      State.flag_put_apart h2 (RCV_STAT_REVS ch) (RCV_STAT_BUSY ch) rfl rfl, State.flag_put_one h1 rfl]
  · rw [State.rcvBegun, putStep_revs h3, State.get_put_fits h2 rfl (Nat.two_pow_pos _)]

/-- The ladder's step 3 always has revolutions (R227). -/
theorem rcvStep_three (hr : (s.detOf n).rcv = some x) (hl : 3 ≤ x.last) : s.rcvStep n 3 =
    (s.put (RCV_STAT_STEP n) 3).modDet n (fun d => { d with rcv := some (x.atStep (s.num (LOOP_TARGET_LO n)) (s.num (LOOP_TARGET_HI n))) }) := by
  rw [State.rcvStep]
  simp only [hr, List.find?_cons, hl, decide_true, decide_false, Nat.reduceLeDiff, Nat.reduceBEq, Nat.reduceEqDiff, Bool.false_and, Bool.true_and,
    Bool.or_true, Bool.true_or, Bool.and_true, if_false]
  rfl

/-! ### Soft jobs (R230) -/

/-- A soft job as it ends. -/
structure SoftOver (n result : Nat) (t : State) : Prop where
  busy : t.flag (SJ_STAT_BUSY n) = false
  done : t.flag (SJ_STAT_DONE n) = true
  soft : (t.detOf n).soft = none
  result : t.get (SJ_STAT_RESULT n) = result

/-- SJ_STAT as the end of a job leaves it. -/
def State.softShut (s : State) (n iter result : Nat) : State :=
  ((((s.modDet n (fun d => { d with soft := none })).put (SJ_STAT_BUSY n) 0).put (SJ_STAT_DONE n) 1).put (SJ_STAT_ITER n) iter).put
    (SJ_STAT_RESULT n) result

theorem softShut_over (h : s.Wf) {iter result : Nat} (hr : result < 2 ^ 8) : SoftOver ch result (s.softShut ch iter result) := by
  have h1 := h.modDet ch (fun d => { d with soft := none })
  have h2 := h1.put (SJ_STAT_BUSY ch) 0
  have h3 := h2.put (SJ_STAT_DONE ch) 1
  have h4 := h3.put (SJ_STAT_ITER ch) iter
  refine ⟨?_, ?_, ?_, State.get_put_fits h4 rfl hr⟩
  · rw [State.softShut, State.flag_put_apart h4 (SJ_STAT_RESULT ch) (SJ_STAT_BUSY ch) rfl rfl,
      State.flag_put_apart h3 (SJ_STAT_ITER ch) (SJ_STAT_BUSY ch) rfl rfl, State.flag_put_apart h2 (SJ_STAT_DONE ch) (SJ_STAT_BUSY ch) rfl rfl,
      State.flag_put_zero h1 rfl]
  · rw [State.softShut, State.flag_put_apart h4 (SJ_STAT_RESULT ch) (SJ_STAT_DONE ch) rfl rfl,
      State.flag_put_apart h3 (SJ_STAT_ITER ch) (SJ_STAT_DONE ch) rfl rfl, State.flag_put_one h2 rfl]
  · rw [State.softShut, State.put_detOf, State.put_detOf, State.put_detOf, State.put_detOf, State.detOf_modDet]

theorem SoftOver.raise {result e : Nat} (h : SoftOver ch result s) : SoftOver ch result (s.raise e) := by
  have k : EnginesKept s (s.raise e) := .raise (.refl s)
  have hreg : isEngineReg (SJ_STAT ch) = true := isEngineReg_chReg (u := 4) (o := 0x1C) ch.isLt
  refine ⟨(k.flag hreg).trans h.busy, (k.flag hreg).trans h.done, ?_, (k.get hreg).trans h.result⟩
  rw [k.detOf ch, h.soft]

/-- The descriptor of the soft job, and its attempt. -/
def State.softDesc (s : State) (n : Nat) : RdSec := rdSec (s.csBytes n (32 * s.get (SJ_DESC_BASE n)) 32)

def State.softAttempt (s : State) (n lim : Nat) : Attempt := decodeAttempt (s.decodeLimits n lim false) (s.softInput n (s.softDesc n))

/-- The result of an attempt on a descriptor's block. -/
def softResult (r : RdSec) (a : Attempt) : Nat := if a.syn = 0 then judge r a.info a.paw else rsDecFail

theorem softResult_lt (r : RdSec) (a : Attempt) : softResult r a < 2 ^ 8 := by
  unfold softResult
  split
  · exact judge_lt _ _ _
  · decide

theorem softJobDone_over {lim : Nat} (h : s.Wf) (hj : (s.detOf ch).soft = some lim) (hs : (s.detOf ch).slots = []) :
    SoftOver ch (softResult (s.softDesc ch) (s.softAttempt ch lim)) (softJobDone ch s) := by
  have hw : (if softResult (s.softDesc ch) (s.softAttempt ch lim) = rsGood then
      (s.lastAttempt ch (s.softAttempt ch lim).iter (s.softAttempt ch lim).syn).deliver ch (s.softDesc ch)
        (softResult (s.softDesc ch) (s.softAttempt ch lim)) (s.softAttempt ch lim).info
      else (s.lastAttempt ch (s.softAttempt ch lim).iter (s.softAttempt ch lim).syn).csWrite ch ((s.softDesc ch).soft / 64 * 64 + 18816)
        (packLlr 16672 ((s.softAttempt ch lim).post.take infoLen))).Wf :=
    (Reads.ite (Reads.refl h).lastAttempt.deliver (Reads.refl h).lastAttempt.csWrite : Reads false ch s _).wf
  have hend := (softShut_over (ch := ch) hw (iter := (s.softAttempt ch lim).iter) (softResult_lt (s.softDesc ch) (s.softAttempt ch lim))).raise
    (e := chEvent ch 4)
  rw [softJobDone]
  simp only [hj, hs, List.isEmpty_nil, Bool.not_true, Bool.false_eq_true, if_false]
  exact hend

/-- Without a job, or while a stream slot is occupied, no job ends. -/
theorem softJobDone_of_idle (h : (s.detOf n).soft = none ∨ (s.detOf n).slots ≠ []) : softJobDone n s = s := by
  rw [softJobDone]
  cases hj : (s.detOf n).soft with
  | none => rfl
  | some lim =>
    have hs : (s.detOf n).slots ≠ [] := h.resolve_left fun e => Option.some_ne_none lim (hj.symm.trans e)
    simp only [Bool.not_eq_true', List.isEmpty_eq_false_iff.2 hs, if_true]

end

end Sys2Proof.Machine

namespace Sys2Proof.Machine

section
variable {s₀ s t : State} {ch : Ch} {n : Nat}

/-! ### CNT_CLR of DETECT (R231) -/

/-- From `s` to `t` registers are only zeroed, and DET_CNT_SAT is not. -/
structure Zeroes (n : Nat) (s t : State) : Prop where
  wf : t.Wf
  zero : ∀ a, s.num a = 0 → t.num a = 0
  sat : t.num (DET_CNT_SAT n) = s.num (DET_CNT_SAT n)

theorem Zeroes.refl (h : s.Wf) : Zeroes n s s := ⟨h, fun _ => id, rfl⟩

theorem Zeroes.trans (h : Zeroes n s₀ s) (k : Zeroes n s t) : Zeroes n s₀ t := ⟨k.wf, fun a ha => k.zero a (h.zero a ha), k.sat.trans h.sat⟩

theorem Zeroes.setNum {a : Nat} (h : Zeroes n s₀ s) (ha : DET_CNT_SAT n ≠ a) : Zeroes n s₀ (s.setNum a 0) := by
  refine h.trans ⟨h.wf.setNum _ _, fun b hb => ?_, State.num_setNum_other s 0 ha⟩
  by_cases e : b = a
  · rw [e, State.num_setNum_self h.wf (by decide)]
  · rw [State.num_setNum_other s 0 e, hb]

theorem Zeroes.ite {c : Prop} {i : Decidable c} (hs : Zeroes n s₀ s) (ht : Zeroes n s₀ t) : Zeroes n s₀ (if c then s else t) := by
  split
  · exact hs
  · exact ht

theorem Zeroes.foldl {f : State → Nat → State} {l : List Nat} (hf : ∀ s, s.Wf → ∀ j ∈ l, Zeroes n s (f s j)) (h : Zeroes n s₀ s) :
    Zeroes n s₀ (l.foldl f s) :=
  List.foldlRecOn l f h fun s h j hj => h.trans (hf s h.wf j hj)

/-- What one of the steps zeroes is 0 at the end. -/
theorem Zeroes.foldl_mem {f : State → Nat → State} {l : List Nat} {i a : Nat} (hf : ∀ s, s.Wf → ∀ j ∈ l, Zeroes n s (f s j))
    (hi : i ∈ l) (ha : ∀ s, s.Wf → (f s i).num a = 0) (h : s.Wf) : (l.foldl f s).num a = 0 := by
  induction l generalizing s with
  | nil => exact absurd hi List.not_mem_nil
  | cons j l ih =>
    obtain ⟨hj, hl⟩ : Zeroes n s (f s j) ∧ ∀ s, s.Wf → ∀ j ∈ l, Zeroes n s (f s j) :=
      ⟨hf s h j List.mem_cons_self, fun s hs j hj => hf s hs j (List.mem_cons_of_mem _ hj)⟩
    obtain rfl | hi := List.mem_cons.1 hi
    · exact (Zeroes.foldl hl (.refl hj.wf)).zero a (ha s h)
    · exact ih hl hi hj.wf

/-- The steps of CNT_CLR: a counter of 32 bits, a sector counter, a bin of the histogram. -/
def State.zeroDet (n v : Nat) (s : State) (i : Nat) : State := if bitOf v i then s.setNum (DET_CNT n i) 0 else s

def State.zeroSect (n : Nat) (s : State) (i : Nat) : State := (s.setNum (SECT_CNT_LO n i) 0).setNum (SECT_CNT_HI n i) 0

def State.zeroHist (n : Nat) (s : State) (i : Nat) : State := (s.setNum (HIST_LO n i) 0).setNum (HIST_HI n i) 0

theorem detectCntClr_eq (n v : Nat) (s : State) : detectCntClr n v s =
    if bitOf v 31 then
      (List.range 64).foldl (State.zeroHist n) ((List.range 18).foldl (State.zeroSect n) ((List.range 4).foldl (State.zeroDet n v) s))
    else (List.range 4).foldl (State.zeroDet n v) s := rfl

theorem zeroDet_zeroes (v : Nat) (h : s.Wf) {i : Nat} (hi : i ∈ List.range 4) : Zeroes n s (s.zeroDet n v i) := by
  have hlt := List.mem_range.1 hi
  exact .ite ((Zeroes.refl h).setNum (chReg_ne (u := 3) (o := 0x510) (by omega))) (.refl h)

theorem zeroSect_zeroes (h : s.Wf) {i : Nat} (hi : i ∈ List.range 18) : Zeroes n s (s.zeroSect n i) := by
  have hlt := List.mem_range.1 hi
  exact ((Zeroes.refl h).setNum (chReg_ne (u := 3) (o := 0x510) (by omega))).setNum (chReg_ne (u := 3) (o := 0x510) (by omega))

theorem zeroHist_zeroes (h : s.Wf) {i : Nat} (hi : i ∈ List.range 64) : Zeroes n s (s.zeroHist n i) := by
  have hlt := List.mem_range.1 hi
  exact ((Zeroes.refl h).setNum (chReg_ne (u := 3) (o := 0x510) (by omega))).setNum (chReg_ne (u := 3) (o := 0x510) (by omega))

/-- A counter of 32 bits that CNT_CLR names is 0, and DET_CNT_SAT stays. -/
theorem detectCntClr_clears_det (h : s.Wf) {v i : Nat} (hi : i < 4) (hv : bitOf v i = true) :
    (detectCntClr n v s).num (DET_CNT n i) = 0 ∧ (detectCntClr n v s).num (DET_CNT_SAT n) = s.num (DET_CNT_SAT n) := by
  have hdet : Zeroes n s ((List.range 4).foldl (State.zeroDet n v) s) := .foldl (fun _ h _ hj => zeroDet_zeroes v h hj) (.refl h)
  have hzero : ((List.range 4).foldl (State.zeroDet n v) s).num (DET_CNT n i) = 0 := by
    refine Zeroes.foldl_mem (n := n) (fun _ h _ hj => zeroDet_zeroes v h hj) (List.mem_range.2 hi) (fun s h => ?_) h
    rw [State.zeroDet, if_pos hv, State.num_setNum_self h (by decide)]
  have hrest : Zeroes n ((List.range 4).foldl (State.zeroDet n v) s) (detectCntClr n v s) :=
    .ite (.foldl (fun _ h _ hj => zeroHist_zeroes h hj) (.foldl (fun _ h _ hj => zeroSect_zeroes h hj) (.refl hdet.wf))) (.refl hdet.wf)
  exact ⟨hrest.zero _ hzero, hrest.sat.trans hdet.sat⟩

/-- The sector counters are 0 after CNT_CLR with bit 31. -/
theorem detectCntClr_clears_sect (h : s.Wf) {v i : Nat} (hi : i < 18) (hv : bitOf v 31 = true) :
    (detectCntClr n v s).num64 (SECT_CNT_LO n i) (SECT_CNT_HI n i) = 0 := by
  have hdet : Zeroes n s ((List.range 4).foldl (State.zeroDet n v) s) := .foldl (fun _ h _ hj => zeroDet_zeroes v h hj) (.refl h)
  have hsect : Zeroes n _ ((List.range 18).foldl (State.zeroSect n) ((List.range 4).foldl (State.zeroDet n v) s)) :=
    .foldl (fun _ h _ hj => zeroSect_zeroes h hj) (.refl hdet.wf)
  have hhist : Zeroes n ((List.range 18).foldl (State.zeroSect n) ((List.range 4).foldl (State.zeroDet n v) s)) (detectCntClr n v s) := by
    rw [detectCntClr_eq, if_pos hv]
    exact .foldl (fun _ h _ hj => zeroHist_zeroes h hj) (.refl hsect.wf)
  have hzero {a : Nat} (ha : ∀ s : State, s.Wf → (s.zeroSect n i).num a = 0) : (detectCntClr n v s).num a = 0 :=
    hhist.zero a (Zeroes.foldl_mem (n := n) (fun _ h _ hj => zeroSect_zeroes h hj) (List.mem_range.2 hi) ha hdet.wf)
  have hlo : (detectCntClr n v s).num (SECT_CNT_LO n i) = 0 := hzero fun s h => by
    have hne : SECT_CNT_LO n i ≠ SECT_CNT_HI n i := chReg_ne (u := 3) (u' := 3) (by omega)
    rw [State.zeroSect, State.num_setNum_other _ 0 hne, State.num_setNum_self h (by decide)]
  have hhi : (detectCntClr n v s).num (SECT_CNT_HI n i) = 0 := hzero fun s h => State.num_setNum_self (h.setNum _ _) (by decide)
  rw [State.num64, hlo, hhi]

theorem bitOf_toNat_of_getLsbD {v : Word} {i : Nat} (h : v.getLsbD i = true) : bitOf v.toNat i = true := by
  rw [bitOf_eq_testBit, BitVec.testBit_toNat, h]

/-! ### GO -/

/-- The ladder begins with step 3, of which RCV_STAT then tells. -/
theorem rcvStep_three_shows (h : s.Wf) (hbusy : s.flag (RCV_STAT_BUSY ch) = true) (hrevs : s.get (RCV_STAT_REVS ch) = 0) {x : Rcv}
    (hr : (s.detOf ch).rcv = some x) (hl : 3 ≤ x.last) : (s.rcvStep ch 3).Wf ∧ (s.rcvStep ch 3).flag (RCV_STAT_BUSY ch) = true ∧
      (s.rcvStep ch 3).get (RCV_STAT_STEP ch) = 3 ∧ (s.rcvStep ch 3).get (RCV_STAT_REVS ch) = 0 ∧
      ((s.rcvStep ch 3).detOf ch).rcv.map (·.last) = some x.last := by
  rw [rcvStep_three hr hl]
  refine ⟨(h.put _ _).modDet _ _, ?_, ?_, ?_, ?_⟩
  · rw [State.flag, State.modDet_get]
    exact (State.flag_put_apart h (RCV_STAT_STEP ch) (RCV_STAT_BUSY ch) rfl rfl).trans hbusy
  · rw [State.modDet_get]
    exact State.get_put_fits h rfl (by decide : 3 < 2 ^ 3)
  · rw [State.modDet_get, putStep_revs h, hrevs]
  · rw [State.detOf_modDet]
    rfl

/-- GO from step 3 starts the recovery there (R224, R225). -/
theorem rcvGo_starts (h : s.Wf) (hb : s.flag (RCV_STAT_BUSY ch) = false) {last : Nat} (hl : 3 ≤ last ∧ last ≤ 5) :
    (rcvGo ch 3 last s).flag (RCV_STAT_BUSY ch) = true ∧ (rcvGo ch 3 last s).get (RCV_STAT_STEP ch) = 3 ∧
      (rcvGo ch 3 last s).get (RCV_STAT_REVS ch) = 0 ∧ ((rcvGo ch 3 last s).detOf ch).rcv.map (·.last) = some last := by
  obtain ⟨hlo, hhi⟩ := hl
  have hok : ¬(s.flag (RCV_STAT_BUSY ch) = true ∨ 3 < 2 ∨ 5 < last ∨ last < 3) := by
    rw [hb]
    simp only [Bool.false_eq_true, false_or]
    omega
  rw [rcvGo_of_accepted hok]
  obtain ⟨hw, hbusy, -, hrevs⟩ := rcvBegun_shows h ch (first := 3) (by decide)
  generalize s.rcvBegun ch 3 = b at hw hbusy hrevs
  have hr : ((b.modDet ch (fun d => { d with rcv := some (s.rcvNew ch last) })).detOf ch).rcv = some (s.rcvNew ch last) := by
    rw [State.detOf_modDet]
  have hflag : (b.modDet ch (fun d => { d with rcv := some (s.rcvNew ch last) })).flag (RCV_STAT_BUSY ch) = true := by
    rw [State.flag, State.modDet_get]
    exact hbusy
  obtain ⟨hw', hbusy', hstep', hrevs', hlast'⟩ := rcvStep_three_shows (hw.modDet ch _) hflag ((State.modDet_get ..).trans hrevs) hr hlo
  have hst := Reads.status (ch := ch) hw'
  exact ⟨(State.flag_of_rd (f := RCV_STAT_BUSY ch) (hst.rd (u := 3) (o := 0x48))).trans hbusy',
    (State.get_of_rd (f := RCV_STAT_STEP ch) (hst.rd (u := 3) (o := 0x48))).trans hstep',
    (State.get_of_rd (f := RCV_STAT_REVS ch) (hst.rd (u := 3) (o := 0x48))).trans hrevs', (congrArg (Option.map (·.last)) hst.rcv).trans hlast'⟩

/-! ### The other commands of recoveries and soft jobs -/

theorem rcvAbort_marks {r : Rcv} (hr : (s.detOf ch).rcv = some r) : ((rcvAbort ch s).detOf ch).rcv = some { r with abort := true } := by
  rw [rcvAbort, State.detOf_modDet, hr]
  rfl

theorem sjGo_queues (h : s.Wf) (hb : s.flag (SJ_STAT_BUSY ch) = false) (iter : Nat) :
    (sjGo ch iter s).flag (SJ_STAT_BUSY ch) = true ∧ ((sjGo ch iter s).detOf ch).soft = some (iterLimit iter) := by
  rw [sjGo, if_neg fun e => Bool.false_ne_true (hb.symm.trans e)]
  refine ⟨?_, ?_⟩
  · rw [State.flag, State.modDet_get]
    exact State.flag_put_one h rfl
  · rw [State.detOf_modDet]

end

/-- Settles O17: each clause by the lemma about its command. -/
theorem recoveryAndSoftJobs : Obligations.Recovery_and_soft_jobs := by
  unfold Obligations.Recovery_and_soft_jobs
  have answered {s : State} (h : s.Wf) : (s.answer .done).Wf := (Evolves.answer (.refl s)).wf h
  refine ⟨?go, ?refused, ?abort, ?fourth, ?reread, ?late, ?stopped, ?waiting, ?jobQueued, ?jobDone, ?jobWaits, ?counters, ?sectors⟩
  case go =>
    intro s ch last h hd hb hl
    exact runs_of_on rfl hd (rcvGo_starts (answered h) hb hl)
  case refused =>
    intro s ch first last h hd hno
    refine runs_of_on rfl hd ?_
    have hno' : (s.answer .done).flag (RCV_STAT_BUSY ch) = true ∨ first.val < 2 ∨ 5 < last.val ∨ last.val < first.val := hno
    rw [rcvGo_of_refused hno']
    exact ⟨State.flag_put_one (answered h) rfl, State.put_det ..⟩
  case abort =>
    intro s ch r _ hd hr
    exact runs_of_on rfl hd ⟨rcvAbort_marks (s := s.answer .done) hr, rfl⟩
  case fourth =>
    intro s ch v r h hu hr hf ha hb hhot hhas hh hk hrate hc
    refine runs_of_up rfl hu ?_
    rw [recoveryRevolution_of_free hr hf ha hb hhot hhas hh hk hrate]
    exact rcvRevolve_fourth h hc
  case reread =>
    intro s ch v r h hu hr hf ha hb hhot hhas hh hc hk hrate hs
    refine runs_of_up rfl hu ?_
    rw [recoveryRevolution_of_free hr hf ha hb hhot hhas hh hk hrate]
    have hladder := rcvRevolve_onLadder (r := r) h hs hc
    refine ⟨hladder.revs.trans (rcvCounted_revs h ch), fun sec u code a hread hm hatt hsyn hgood => ?_, hladder.same⟩
    obtain ⟨w, x, e, hw, hend⟩ := rcvRevolve_of_good h hs hc hread hm hatt hsyn hgood
    obtain ⟨hover, hres⟩ := rcvEnd_over (ch := ch) (r := x) (e := e) hw (status := rsGood) (by decide)
    rw [hend]
    exact ⟨hover.busy, hres, hover.rcv⟩
  case late =>
    intro s ch v r h hu hr hf ha hb
    refine runs_of_up rfl hu ?_
    rw [recoveryRevolution_of_late hr hf ha hb]
    obtain ⟨hover, hres⟩ := rcvEnd_over (ch := ch) (r := r) (e := RdEnd.plain) h (status := rsTimeout) (by decide)
    exact ⟨hover.busy, hres, hover.rcv⟩
  case stopped =>
    intro s ch v r h hu hr hstop
    obtain ⟨hover, hres, hfoul⟩ := recoveryRevolution_of_stopped (v := v) h hr hstop
    exact runs_of_up rfl hu ⟨hover.busy, hres, hover.rcv, hfoul, hover.target⟩
  case waiting =>
    intro s ch v r _ hu hr hf ha hb hhas hw
    refine runs_of_up rfl hu ?_
    rw [recoveryRevolution_of_waiting hr hf ha hb hhas hw]
  case jobQueued =>
    intro s ch iter h hd hb
    exact runs_of_on rfl hd (sjGo_queues (answered h) hb iter)
  case jobDone =>
    intro s ch lim h hu hj hs
    have hover := softJobDone_over h hj hs
    refine runs_of_up rfl hu ⟨hover.busy, hover.done, hover.soft, ?_⟩
    rintro d a rfl rfl
    exact hover.result
  case jobWaits =>
    intro s ch _ hu hi
    refine runs_of_up rfl hu ?_
    rw [softJobDone_of_idle hi]
  case counters =>
    intro s ch v i h hd hv
    exact runs_of_on rfl hd (detectCntClr_clears_det (answered h) i.isLt (bitOf_toNat_of_getLsbD hv))
  case sectors =>
    intro s ch v i h hd hv
    exact runs_of_on rfl hd (detectCntClr_clears_sect (answered h) i.isLt (bitOf_toNat_of_getLsbD hv))

end Sys2Proof.Machine
